-- ==== Sys2Proof/Word.lean ====
section
/-! DEFINITION. The word types of Tiusk: the 64-bit register word (R64), the byte, and media time. -/

namespace Sys2Proof

/-- A register, a command word or a data word (R64). -/
abbrev Word := BitVec 64

/-- One byte of a memory, a descriptor or a frame (R4). -/
abbrev Byte := BitVec 8

/-- An instant or a length of media time, in units of 2^-16 ns from the PTP epoch (R10, R12). -/
abbrev Time := Nat

/-- One nanosecond of `Time`. -/
abbrev nsT : Nat := 65536

/-- One microsecond: a dispatcher tick (R27). -/
abbrev usT : Nat := 1000 * nsT

/-- One millisecond: an epoch (R27). -/
abbrev msT : Nat := 1000 * usT

/-- One second. -/
abbrev secT : Nat := 1000 * msT

end Sys2Proof
end

