-- ==== Sys2Proof/Syntax.lean ====
section
/-! DEFINITION. The commands of Tiusk: one constructor of `Instr` for each row of spec/opcode_table.json, and the
operand types they carry. A row that is a command of a host ring carries the 64-byte command itself (R84, Table 2-15);
a row that is an event carries what the outside world supplies: received fields, measured values, random draws. -/

namespace Sys2Proof

/-- How a register is read: all 64 bits, or one 32-bit half (R64, R65). -/
inductive ReadHow where
  | whole | low | high
  deriving DecidableEq, Repr

/-- A read of `n` bytes or a write of bytes through the BAR4 window (R53). -/
inductive BarOp where
  | read (n : Nat) | write (bytes : List Byte)
  deriving DecidableEq, Repr

/-- A host ring command (Table 2-15) and the ring it is taken from. `args` is ARGS, byte k in bits 8k+7 to 8k. -/
structure HostCmd where
  realm : Nat
  ring  : Nat
  tag   : BitVec 32
  flags : Byte
  rsvd  : Byte
  when0 : Word
  when1 : Word
  args  : BitVec 320
  deriving DecidableEq, Repr

/-- The common fields of a received PTP message that the checks of R99 and R101 read. `vlan` 0 is untagged. -/
structure PtpHdr where
  domain    : Nat
  version   : Nat
  transport : Nat
  vlan      : Nat
  srcId     : Word
  srcPort   : Nat
  seq       : Nat
  twoStep   : Bool
  logInterval : Int
  correction  : Int
  /-- minorVersionPTP, and the addresses the message came from, for a unicast Delay_Req (R98). -/
  minor       : Nat
  srcMac      : Nat
  srcIp       : List Byte
  /-- The firmware does not take the PTP event queue's events in this step: the message waits there (Table 1-9). -/
  held        : Bool
  deriving DecidableEq, Repr

/-- A code group of a serial lane as it is received or sent (R608, R609): a data byte, a control code group K by its 8 bits, or one that is not in
the code or has the wrong running disparity. -/
inductive Sym where
  | data (b : Byte)
  | ctl (k : Byte)
  | bad
  deriving DecidableEq, Repr

/-- A Sync: the instant its start character passed the lane boundary, and its originTimestamp, both in `Time` units (R103, R118). -/
structure SyncMsg where
  h      : PtpHdr
  stamp  : Nat
  origin : Nat
  deriving DecidableEq, Repr

/-- A Follow_Up: the precise origin timestamp of the Sync with the same sequence number (R118). -/
structure FollowUpMsg where
  h      : PtpHdr
  origin : Nat
  deriving DecidableEq, Repr

/-- A Delay_Resp: the master's receive stamp, and whether it answers this unit's request (R118). -/
structure DelayRespMsg where
  h       : PtpHdr
  receive : Nat
  forUs   : Bool
  deriving DecidableEq, Repr

/-- An Announce with the data set fields that the best master clock algorithm compares (R101). -/
structure AnnounceMsg where
  h          : PtpHdr
  stamp      : Nat
  gmId       : Word
  priority1  : Nat
  clockClass : Nat
  accuracy   : Nat
  variance   : Nat
  priority2  : Nat
  steps      : Nat
  utcOffset  : Nat
  utcValid   : Bool
  leap61     : Bool
  leap59     : Bool
  smpteNum   : Nat
  smpteDen   : Nat
  deriving DecidableEq, Repr

/-- The profiles of Table 6-1, and any other. -/
inductive DecProfile where
  | constrainedBaseline | main | high | main10 | main422x10 | version0 | profile0 | profile2 | other
  deriving DecidableEq, Repr

/-- What the parameter sets or headers of a sequence say (R259, R262): profile, chroma (0 4:2:0, 1 4:2:2, 2 another), bit depth, numbers of
spatial and temporal layers, and the features of R262 it uses. -/
structure DecSeq where
  profile    : DecProfile
  chroma     : Nat
  depth      : Nat
  spatial    : Nat
  temporal   : Nat
  fieldPics  : Bool
  paff       : Bool
  mbaff      : Bool
  fieldSeq   : Bool
  rangeExt   : Bool
  largeScale : Bool
  deriving DecidableEq, Repr

/-- The parts of a coded picture that Table 6-7 names: a slice NAL unit or independent slice segment, a dependent slice segment, a tile, a WPP
row, a tile group OBU, and the first and the token partitions. -/
inductive PartKind where
  | slice | dependent | tile | wppRow | tileGroup | firstPartition | tokenPartition
  deriving DecidableEq, Repr

/-- A part of a coded picture as it arrived: whether its place is known (entry point signalled, size marker intact, tile_size_bytes); its
CTUs in coding order; its length field and the bytes there are; the CTUs whose data are complete; and, as places among its CTUs, the
first value the syntax forbids, the first read past its end, the first address that does not follow the one before, and the first CTU
after the last intact packet (R281). -/
structure DecPart where
  kind    : PartKind
  known   : Bool
  ctus    : List Nat
  length  : Nat
  data    : Nat
  coded   : Nat
  bad     : Option Nat
  past    : Option Nat
  address : Option Nat
  gap     : Option Nat
  deriving DecidableEq, Repr

/-- One spatial layer of a temporal unit: its layers and size; coded without inter prediction; a picture of R288 (named by a recovery
point SEI, or an AV1 switch frame); its parts; each CTU's motion vector in quarter-pel where it is inter-coded; the pictures it names as
references, and the frames an H.264 frame_num gap leaves out; and the samples of its decodable part, rows of luma and of interleaved
chroma. -/
structure DecLayer where
  sid      : Nat
  tid      : Nat
  width    : Nat
  height   : Nat
  ctuSize  : Nat
  intra    : Bool
  recovery : Bool
  parts    : List DecPart
  mvs      : List (Option (Int × Int))
  refs     : List Nat
  frameGap : Nat
  luma     : List Nat
  chroma   : List Nat
  deriving DecidableEq, Repr

/-- What the bitstream of one temporal unit says and holds (chapter 6): its sequence and whether it begins it, its header (0 intact, 1
damaged, 2 missing), whether it follows a whole-picture gap in sequence numbers or picture IDs, the pictures held as references after
it, and its spatial layers, lowest first. -/
structure DecIn where
  seq      : DecSeq
  seqStart : Bool
  header   : Nat
  gap      : Bool
  keep     : List Nat
  layers   : List DecLayer
  deriving DecidableEq, Repr

/-- The header of a Mirror Link frame (R661). -/
structure LinkHdr where
  seq    : Nat
  ack    : Nat
  epoch  : Nat
  crcOk  : Bool
  deriving DecidableEq, Repr

/-- A HELLO (R665): what it says, whether it is authenticated, and the state in which its sender sees this unit (Table 14-4). -/
structure HelloMsg where
  strap    : Nat
  role     : Nat
  stateFmt : Nat
  serial   : Word
  authOk   : Bool
  sees     : Nat
  deriving DecidableEq, Repr

/-- One manifest entry (Table 14-8). -/
structure ManifestEntry where
  leg    : Nat
  stream : Nat
  isEnd  : Bool
  seq    : Nat
  stamp  : Nat
  deriving DecidableEq, Repr

/-- One decision-log record (Table 14-9), dated to an epoch: its kind, the object concerned, and its figures. -/
structure LogRecord where
  epoch : Nat
  kind  : Nat
  obj   : Nat
  vals  : List Int
  deriving DecidableEq, Repr

/-- A relayed host command, the data read for it, and the boundary at which it takes effect (R670). -/
structure RelayedCmd where
  cmd      : HostCmd
  opcode   : Nat
  boundary : Nat
  data     : List Byte
  deriving DecidableEq, Repr

/-- What the release of RESET_N finds: the straps (R750), TIME_REFCLK as measured, 0 for 10, 1 for 20 and 2 for 25 MHz and 3 for none of
them (R113), and the reset-time tests that fail, with the first failing fabric port and the failing memory channels, 4 controller + channel (R813 to R815). -/
structure Straps where
  bootSrc  : BitVec 2
  pairRole : BitVec 2
  recovery : Bool
  refclk   : BitVec 2
  testFail : BitVec 4
  failPort : Option Nat
  failChans : List Nat
  deriving DecidableEq, Repr

/-- A report to the Error Collector (R784, R785). -/
structure Report where
  source : Nat
  code   : Nat
  stamp  : Nat
  d2     : Word
  d3     : Word
  deriving DecidableEq, Repr

/-- The commands: one constructor for each row of spec/opcode_table.json, in the table's order. -/
inductive Instr where
  /-- R8: A write to a register field that has no behaviour of its own stores the value after the access, reserved, range and state checks. -/
  | registerWrite (page off size : Nat) (v : Word)
  /-- R66: A 32-bit low-half write is held in the page write buffer, and the matching high-half write applies both halves at once. -/
  | splitWrite (page off : Nat) (v : BitVec 32)
  /-- R65: A 32-bit low-half read returns that half and loads the page read latch with the high half. -/
  | splitRead (page off size : Nat)
  /-- R9: A read of the RC register PAGE_ERR returns the count and code and clears them, on the high-half read when split. -/
  | pageErrRead (page : Nat) (how : ReadHow)
  /-- R70: A write at live offset + 0x800 of an RWS register updates its shadow unless the page is LOCKED. -/
  | shadowWrite (page off : Nat) (v : Word)
  /-- R59: A write of 1 to PAGE_CTRL.ENABLE brings an OFF unit into service on the pages where it acts. -/
  | pageEnable (page : Nat)
  /-- R60: A write to PAGE_CTRL.ISOLATE drains the unit to ISOLATED, or returns it to READY. -/
  | pageIsolate (page : Nat) (on : Bool)
  /-- R59: A write of 1 to PAGE_CTRL.RESET returns a READY, ISOLATED or FAULTED unit to INIT. -/
  | pageReset (page : Nat)
  /-- R67: A write of 1 to PAGE_CTRL.SNAPSHOT requests a latch of the page counters at the next dispatcher tick. -/
  | snapshot (page : Nat)
  /-- R67: At the dispatcher tick after a SNAPSHOT write, the page counters are latched, PAGE_SNAP_TIME is written and SNAP_HELD is set. -/
  | snapshotLatch (page : Nat)
  /-- R68: A write of 1 to PAGE_CTRL.SNAP_RELEASE clears SNAP_HELD. -/
  | snapRelease (page : Nat)
  /-- R62: A W1C write to PAGE_EVENT clears event bits and allows a new message for each of them. -/
  | pageEventClear (page : Nat) (v : Word)
  /-- R62: A write to PAGE_EVENT_MASK sets masks and the vector, and sends one message for each unmasked bit that is already set. -/
  | pageEventMaskWrite (page : Nat) (v : Word)
  /-- R73: A write to PAGE_COMMIT sets GROUP, BOUND and ARM unless the page is LOCKED. -/
  | pageCommitWrite (page : Nat) (v : Word)
  /-- R55: A write to PCIE.WIN_BASE moves the BAR4 window, or is rejected with REJECTED set. -/
  | winBaseWrite (v : Word)
  /-- R53: A BAR4 access reaches device physical address WIN_BASE + offset without translation. -/
  | bar4Access (off : Nat) (op : BarOp)
  /-- R49: FLR or entry to D3hot resets the host interface, disabling rings, DMA and MSI-X. -/
  | functionLevelReset (d3 : Bool)
  /-- R862: The PCI Express link trains, retrains or goes down, and PCIE.LINK reflects it. -/
  | pcieLinkChange (speed width : Nat) (up : Bool)
  /-- R82: A write to RING_CTRL starts or stops a ring; ENABLE 0 resets the indexes and clears ERROR, and ENABLE 1 checks the mappings. -/
  | ringCtrlWrite (realm ring : Nat) (v : Word)
  /-- R82: A write to CMD_TAIL posts commands, or stops the ring with ERROR on a bad index. -/
  | cmdTailWrite (realm ring : Nat) (v : Word)
  /-- R83: A write to CPL_HEAD consumes completions and frees completion-ring entries. -/
  | cplHeadWrite (realm ring : Nat) (v : Word)
  /-- R83: Tiusk takes the next command from an enabled ring once its completion ring has a free entry, checks it in the order of Table 2-18 and accepts or completes it. -/
  | commandFetch (realm ring : Nat)
  /-- R85: An accepted command reaches its effect boundary, is checked again under R855, takes effect and posts its completion. -/
  | commandEffect
  /-- R95: COALESCE_US elapses after the first unsignalled completion, and the ring sends its MSI-X message. -/
  | coalesceTimeout (realm ring : Nat)
  /-- R85: NOP completes at an epoch boundary, with that boundary in RESULT. -/
  | nop (c : HostCmd)
  /-- R73: COMMIT_GROUP includes every bound and armed page of the group, locks them and schedules their application under R75. -/
  | commitGroup (c : HostCmd)
  /-- R72: At the boundary of the unit it obeys, an included page copies its shadow to live, clears ARM and LOCKED and increments COMMIT_GEN; after the last page the group completes. -/
  | commitGroupApply (group page : Nat)
  /-- R78: CANCEL_COMMIT disarms and unlocks the pages of a pending commit, which then completes with ABORTED. -/
  | cancelCommit (c : HostCmd)
  /-- R112: Each 1 GHz tick adds INCR to the local clock, carrying nanoseconds into seconds. -/
  | quartzTick (n : Nat)
  /-- R27: At each 1 ms epoch boundary, dated commands, policy decisions, statistics, manifests and monitor decisions are carried out. -/
  | epochBoundary
  /-- R389: At each block boundary, audio inputs are latched and the audio stages of the block are evaluated in order. -/
  | blockBoundary (tdm : List (Nat × List Int))
  /-- R27: Each 1 µs dispatcher tick advances the delay lists and the dispatcher timers. -/
  | dispatcherTick
  /-- R29: At the dispatcher tick at or after a layout's picture tick, Mica composes and encode jobs are queued. -/
  | pictureTick (layout : Nat)
  /-- R117: A read of QUARTZ.NOW_W0 returns word 0 and latches word 1 of the same instant into NOW_W1. -/
  | nowW0Read
  /-- R102: A write to QUARTZ.PTP_CFG sets PTP options; setting ENABLE starts the BMCA afresh, and a write while running counts as a grandmaster change. -/
  | ptpCfgWrite (v : Word)
  /-- R118: A received Sync is stamped and, with a completed delay exchange, yields an offset that is filtered and fed to the servo. -/
  | sync (m : SyncMsg)
  /-- R118: A Follow_Up from a two-step master supplies t1 and its correction for the offset computation. -/
  | followUp (m : FollowUpMsg)
  /-- R118: A Delay_Resp completes a delay exchange with t4 and sets the Delay_Req interval. -/
  | delayResp (m : DelayRespMsg)
  /-- R101: An Announce feeds the BMCA, which may qualify and select a master or change the grandmaster. -/
  | announce (m : AnnounceMsg)
  /-- R100: At a randomly drawn send time, Tiusk sends a Delay_Req, inserting its egress stamp as originTimestamp. -/
  | delayReq (draw : Nat)
  /-- R123: No Sync for SYNC_TIMEOUT intervals puts the servo in HOLDOVER with the increment frozen. -/
  | syncTimeout
  /-- R123: The current master's Announce receipt timeout expires, putting the servo in HOLDOVER. -/
  | announceTimeout
  /-- R129: At the epoch boundary after a FREERUN first offset or ACCEPT_STEP, the clock jumps, measurements are discarded and late items are handled. -/
  | stepApply
  /-- R134: ACCEPT_STEP applies the most recent filtered offset at its boundary, or completes with TIMEOUT. -/
  | acceptStep (c : HostCmd)
  /-- R147: GLOBAL_SNAPSHOT latches the counters of every counting BAR0 page at one epoch boundary. -/
  | globalSnapshot (c : HostCmd)
  /-- R115: TIME_REFCLK stops or drifts by more than 1,000 ppm for 10 µs; the tick switches to SYS_REFCLK and QUARTZ goes FAULTED. -/
  | refclkLost
  /-- R116: After TIME_REFCLK has been valid for 1 s, the tick returns to it and QUARTZ becomes ACTIVE. -/
  | refclkRestored
  /-- R138: PPS_OUT rises at each whole second plus OFFSET and stays high for WIDTH µs. -/
  | ppsOutPulse
  /-- R142: A PPS_IN rising edge is stamped, its offset is reported, and PPS_IN_DEVIATION is raised beyond LIMIT. -/
  | ppsInEdge (stamp : Nat)
  /-- R143: No PPS_IN edge arrives within 1.1 s of the previous one. -/
  | ppsInMissing
  /-- R162: LEG_OPEN reads the leg descriptor, binds the 5-tuple, queues and keys, and moves the leg to KEYED. -/
  | legOpen (c : HostCmd)
  /-- R178: LEG_START moves a KEYED leg to ACTIVE and starts its estimate at START_KBPS. -/
  | legStart (c : HostCmd)
  /-- R161: LEG_HOLD moves an ACTIVE leg to HELD with cause COMMAND. -/
  | legHold (c : HostCmd)
  /-- R178: LEG_RESUME returns a HELD leg to ACTIVE, keeping its policy state. -/
  | legResume (c : HostCmd)
  /-- R157: LEG_CLOSE moves a leg to DRAINING and completes when it reaches CLOSED. -/
  | legClose (c : HostCmd)
  /-- R157: A DRAINING leg's egress queues empty, or 20 ms elapse, and it becomes CLOSED with remaining packets discarded. -/
  | legDrainEnd (leg : Nat)
  /-- R161: LEG_RELEASE returns a CLOSED leg to IDLE, removes its subscriptions and routes, and zeroizes its key slots. -/
  | legRelease (c : HostCmd)
  /-- R162: LEG_UPDATE reads a new descriptor and makes its addresses, keys and profile live. -/
  | legUpdate (c : HostCmd)
  /-- R164: STREAM_ADD adds a stream at an index of a leg. -/
  | streamAdd (c : HostCmd)
  /-- R161: STREAM_REMOVE frees a stream and removes instances sourced from it. -/
  | streamRemove (c : HostCmd)
  /-- R165: SUBSCRIBE creates a forwarding instance of a source for a receiver. -/
  | subscribe (c : HostCmd)
  /-- R161: UNSUBSCRIBE frees an instance. -/
  | unsubscribe (c : HostCmd)
  /-- R165: SUBSCRIBE_SET changes an instance's weight, priority and ceilings. -/
  | subscribeSet (c : HostCmd)
  /-- R161: LEG_QUERY returns a leg's state and current estimate. -/
  | legQuery (c : HostCmd)
  /-- R159: Tiusk sends a STUN consent-freshness request on an ACTIVE or HELD leg with CONSENT. -/
  | consentRequest (leg : Nat) (txid : List Byte) (draw : Nat)
  /-- R159: 30 s pass without a successful consent response, and the leg becomes or stays HELD with cause CONSENT_EXPIRED. -/
  | consentExpired (leg : Nat)
  /-- R167: A frame received on a media port is checked by the MAC and IP rules, classified, decrypted and passed to the leg, stream, host queue or forwarder. -/
  | frameReceive (port : Nat) (stamp : Nat) (columns : List (List Sym)) (waiting : Nat)
  /-- R172: VIDEO_WAIT elapses since a picture's first packet, and it is released incomplete. -/
  | videoWaitExpiry (leg idx : Nat)
  /-- R174: A sequence gap open for NACK_DELAY, or a repeat interval, sends a NACK for the missing packets. -/
  | nackSend (leg idx : Nat)
  /-- R176: FEEDBACK_TIMEOUT passes without reports, and the estimate is halved. -/
  | feedbackLost (leg : Nat)
  /-- R191: No instance has chosen layer k or above for SUSPEND ms, and encoding of k stops. -/
  | layerSuspend (layout output layer : Nat)
  /-- R186: An open need sends a PLI, or FIR after 1 s, to the source when 300 ms have passed since the last one. -/
  | pliSend (leg idx : Nat)
  /-- R186: A need has been open for 1 s, and FIR replaces PLI. -/
  | repairEscalated (leg idx : Nat)
  /-- R169: At each RTCP_INTERVAL, Tiusk sends SR and RR on the leg. -/
  | rtcpSend (leg : Nat)
  /-- R169: At each FB_INTERVAL, Tiusk sends RFC 8888 feedback for a leg's ingress streams. -/
  | feedbackSend (leg : Nat)
  /-- R199: A write to LEGS.STATS_CFG enables statistics only when the region is PINNED in realm 0. -/
  | statsCfgWrite (v : Word)
  /-- R199: A write to LEGS.BUF_BASE enables or disables the leg buffer pool under its pinning and state checks. -/
  | bufBaseWrite (v : Word)
  /-- R204: ENC_STREAM_OPEN reads the descriptor, admits the stream on an engine and makes it OPEN. -/
  | encStreamOpen (c : HostCmd)
  /-- R212: ENC_STREAM_CLOSE moves a stream to CLOSING, and it completes when IDLE. -/
  | encStreamClose (c : HostCmd)
  /-- R216: ENC_STREAM_UPDATE makes the new rate and refresh fields live. -/
  | encStreamUpdate (c : HostCmd)
  /-- R248: ENC_REFRESH starts a refresh cycle at the next picture. -/
  | encRefresh (c : HostCmd)
  /-- R212: ENC_QUERY returns the stream state and the bits of the last picture. -/
  | encQuery (c : HostCmd)
  /-- R221: ENC_SUBMIT queues up to 64 encode jobs from memory. -/
  | encSubmit (c : HostCmd)
  /-- R219: An encode job starts once the previous job of its stream has finished and status and bitstream space are free. -/
  | encJobStart (stream : Nat)
  /-- R223: An encode job finishes, writes its status entry and output, and updates rate-control state. -/
  | encJobDone (stream : Nat)
  /-- R726: A running Geode job is saved at a CTU-row boundary when a higher-level job is ready and a save slot is free. -/
  | geodePreempt (engine layer row : Nat)
  /-- R267: DEC_STREAM_OPEN reads the descriptor, admits the stream and makes it OPEN. -/
  | decStreamOpen (c : HostCmd)
  /-- R263: DEC_STREAM_CLOSE moves a decode stream to CLOSING, and it completes when IDLE. -/
  | decStreamClose (c : HostCmd)
  /-- R263: DEC_QUERY returns the stream state and the last PICTURE_TIME decoded. -/
  | decQuery (c : HostCmd)
  /-- R273: DEC_SUBMIT queues up to 64 decode jobs from memory. -/
  | decSubmit (c : HostCmd)
  /-- R270: A decode job starts after the previous job of its stream has finished. -/
  | decJobStart (stream : Nat)
  /-- R275: A decode job finishes, conceals lost CTUs, marks the picture and writes its surface and status entry. -/
  | decJobDone (stream : Nat) (r : DecIn)
  /-- R295: GEODE_TWIN joins the two engines of a pair into one logical engine. -/
  | geodeTwin (c : HostCmd)
  /-- R298: GEODE_UNTWIN splits a twinned pair. -/
  | geodeUntwin (c : HostCmd)
  /-- R302: GEODE_SWAP moves a logical engine onto a physical unit that serves nothing. -/
  | geodeSwap (c : HostCmd)
  /-- R303: At the old unit's first job boundary, queued work passes to the new unit and the old unit becomes ISOLATED. -/
  | geodeSwapMove (logical : Nat)
  /-- R308: An uncorrectable private-link error puts both engines of the pair in FAULTED. -/
  | geodeLinkError (pair : Nat) (corrected : Bool)
  /-- R322: LAYOUT_OPEN reads the descriptor, clears both banks and makes the layout OPEN. -/
  | layoutOpen (c : HostCmd)
  /-- R330: LAYOUT_START admits the layout on its pipeline and makes it RUNNING. -/
  | layoutStart (c : HostCmd)
  /-- R320: LAYOUT_STOP returns a layout to OPEN. -/
  | layoutStop (c : HostCmd)
  /-- R329: LAYOUT_CLOSE returns a layout to IDLE and closes its encode streams. -/
  | layoutClose (c : HostCmd)
  /-- R325: LAYER_LOAD copies layer entries into an inactive bank. -/
  | layerLoad (c : HostCmd)
  /-- R328: LAYOUT_FLIP sets the live and shadow bank bit of a layout. -/
  | layoutFlip (c : HostCmd)
  /-- R329: LAYER_BYPASS stops or restores drawing of a layer entry. -/
  | layerBypass (c : HostCmd)
  /-- R331: STILL_LOAD reads a still into a slot of the pool. -/
  | stillLoad (c : HostCmd)
  /-- R329: LAYOUT_QUERY returns a layout state and its last tick composed. -/
  | layoutQuery (c : HostCmd)
  /-- R335: The chosen picture is still not decoded at tick + period/2, and the previous picture is used. -/
  | sourceLate (layout entry : Nat)
  /-- R356: A composed picture completes; one past its deadline is counted LAYOUT_LATE. -/
  | micaPictureDone (layout : Nat)
  /-- R361: A write to MICA.STILL_BASE enables the still pool only when PINNED in realm 0. -/
  | stillBaseWrite (v : Word)
  /-- R385: LEG_AUDIO_SET sets a leg's mix, flags, gains and codec fields. -/
  | legAudioSet (c : HostCmd)
  /-- R386: CONF_AUDIO_SET sets a conference's talker count and binaural positions. -/
  | confAudioSet (c : HostCmd)
  /-- R387: HRTF_LOAD reads impulse responses into the HRTF store. -/
  | hrtfLoad (c : HostCmd)
  /-- R392: ROUTE_SET crossfades a sink slot to a new source and gain. -/
  | routeSet (c : HostCmd)
  /-- R392: ROUTE_CLEAR fades out the contributions of sink slots. -/
  | routeClear (c : HostCmd)
  /-- R388: ROUTE_QUERY returns a slot's source and gain. -/
  | routeQuery (c : HostCmd)
  /-- R397: NET_RX_OPEN opens a receive network audio stream. -/
  | netRxOpen (c : HostCmd)
  /-- R396: NET_RX_CLOSE closes a receive stream. -/
  | netRxClose (c : HostCmd)
  /-- R402: NET_TX_OPEN opens a transmit stream on a queue. -/
  | netTxOpen (c : HostCmd)
  /-- R396: NET_TX_CLOSE closes a transmit stream. -/
  | netTxClose (c : HostCmd)
  /-- R399: A frame matching an open receive stream is taken, placed for play or dropped as late. -/
  | netAudioReceive (port : Nat) (stamp : Nat) (frame : List Byte)
  /-- R370: A step pending for JB_FORCE is applied regardless of voice activity. -/
  | jbForceStep (leg idx : Nat)
  /-- R373: PLC_MAX of consecutive concealment passes, and the output fades to 0. -/
  | plcMute (leg idx : Nat)
  /-- R412: A write to MIX.LEVEL_BASE enables the level table only when PINNED in realm 0. -/
  | levelBaseWrite (v : Word)
  /-- R408: A write to TDM.CFG configures or enables a port within the slot limits. -/
  | tdmCfgWrite (port : Nat) (v : Word)
  /-- R406: A SLAVE port receives a frame and maps it to a grid sample, re-mapping with a slip when it drifts. -/
  | tdmFrame (port : Nat) (fsInstant : Nat) (bclks : Nat) (codes : List Int)
  /-- R407: 8 consecutive frames of the configured length bring the port to LOCK. -/
  | tdmLock (port : Nat)
  /-- R407: 2 consecutive frames of the wrong length lose LOCK. -/
  | lockLost (port : Nat)
  /-- R424: SPK_LAYOUT_LOAD reads a loudspeaker layout and starts triangulation. -/
  | spkLayoutLoad (c : HostCmd)
  /-- R428: Computation ends, and the bank becomes LOADED at the next epoch boundary. -/
  | spkLayoutLoaded (bank : Nat)
  /-- R429: SPK_LAYOUT_SELECT switches the selected bank with an equal-power crossfade. -/
  | spkLayoutSelect (c : HostCmd)
  /-- R419: RENDER_START clears delay lines and fades every SPK_OUT in. -/
  | renderStart (c : HostCmd)
  /-- R419: RENDER_STOP fades every SPK_OUT out. -/
  | renderStop (c : HostCmd)
  /-- R437: OBJ_SET replaces an object entry, which then interpolates to its new target. -/
  | objSet (c : HostCmd)
  /-- R456: SPK_SET reads an output record and crossfades the gain, equaliser, delay and polarity. -/
  | spkSet (c : HostCmd)
  /-- R458: FIR_LOAD charges and loads a room-correction filter and crossfades it in. -/
  | firLoad (c : HostCmd)
  /-- R452: HOA_SET sets a scene's decoding and crossfades it. -/
  | hoaSet (c : HostCmd)
  /-- R421: RENDER_QUERY returns the renderer state and the charged taps. -/
  | renderQuery (c : HostCmd)
  /-- R497: GARNET_LOAD reads and checks a Garnet image. -/
  | garnetLoad (c : HostCmd)
  /-- R497: GARNET_UNLOAD empties an image. -/
  | garnetUnload (c : HostCmd)
  /-- R499: INSERT_OPEN binds an insert to a core and makes it RUNNING. -/
  | insertOpen (c : HostCmd)
  /-- R509: INSERT_CLOSE returns an insert to IDLE. -/
  | insertClose (c : HostCmd)
  /-- R504: INSERT_PARAM writes PARAM words. -/
  | insertParam (c : HostCmd)
  /-- R500: INSERT_COEF writes coefficient words. -/
  | insertCoef (c : HostCmd)
  /-- R507: INSERT_BYPASS crossfades between the program output and the dry path. -/
  | insertBypass (c : HostCmd)
  /-- R509: INSERT_RESET zeroes the state and returns the insert to RUNNING. -/
  | insertReset (c : HostCmd)
  /-- R499: INSERT_QUERY returns the insert state and bundles of the last call. -/
  | insertQuery (c : HostCmd)
  /-- R520: GARNET_SWAP starts copying a logical cluster onto a spare unit. -/
  | garnetSwap (c : HostCmd)
  /-- R520: At the first block boundary 1 ms after the effect, the cluster switches to the new unit. -/
  | garnetSwapSwitch (logical : Nat)
  /-- R521: An uncorrectable error on a KERNEL cluster faults it. -/
  | eccFatal (physical : Nat)
  /-- R521: At the next block boundary, the faulted kernel cluster moves onto a READY spare. -/
  | garnetFaultMove (logical : Nat)
  /-- R514: TASK_START runs a task on a customer core. -/
  | taskStart (c : HostCmd)
  /-- R517: TASK_STOP ends a task at the next block boundary. -/
  | taskStop (c : HostCmd)
  /-- R503: An insert call starts once its core's earlier inserts and its feeders have finished. -/
  | insertCall (insert : Nat)
  /-- R505: The call reaches BUDGET bundles and ends, with the dry path as its output. -/
  | insertBudgetExpiry (insert : Nat)
  /-- R479: A core issues one bundle, running its M, A and L slots and any loop-back. -/
  | bundleIssue (cluster core ecc : Nat)
  /-- R515: A stalled DISP_GET returns when an item of the task's domain is given. -/
  | dispGetReturn (cluster core : Nat)
  /-- R516: An XFER_GO transfer finishes and the task resumes. -/
  | xferDone (cluster core : Nat)
  /-- R489: The task timer period expires, making TIMER pending. -/
  | timerInterrupt (cluster core : Nat)
  /-- R490: A pending, enabled interrupt source is taken, saving IPC and ISTATUS and jumping to its vector. -/
  | interruptEntry (cluster core : Nat)
  /-- R526: QUEUE_ASSIGN gives a range of unbound queues to a realm. -/
  | queueAssign (c : HostCmd)
  /-- R534: QUEUE_SET sets a queue's class, quantum, rate and limit. -/
  | queueSet (c : HostCmd)
  /-- R527: QUEUE_QUERY returns a queue's binding state and occupancy. -/
  | queueQuery (c : HostCmd)
  /-- R530: QUEUE_FLUSH discards a queue's packets. -/
  | queueFlush (c : HostCmd)
  /-- R553: GATE_LIST_SET reads a gate list and makes it PENDING until its switch time T. -/
  | gateListSet (c : HostCmd)
  /-- R558: GATE_LIST_CANCEL aborts the pending gate list. -/
  | gateListCancel (c : HostCmd)
  /-- R536: HOST_SEND queues a host frame on the control queue. -/
  | hostSend (c : HostCmd)
  /-- R554: At T, the pending list becomes operational and the longest windows are computed. -/
  | gateSwitched (port : Nat)
  /-- R550: A gate-list entry begins and opens and closes classes. -/
  | gateEntryStart (port : Nat)
  /-- R543: The MAC is idle and a class has a frame; the highest candidate class sends one frame by deficit round robin. -/
  | transmitOpportunity (port : Nat)
  /-- R542: A paced queue's eligibility time is reached, and it rejoins its active list. -/
  | pacerEligible (queue : Nat)
  /-- R545: At dispatcher ticks that are multiples of 2^K µs, queue depth and sojourn are sampled. -/
  | queueSample (port : Nat)
  /-- R547: A write to QSTATS_CFG enables queue statistics only when the region is PINNED. -/
  | qstatsCfgWrite (v : Word)
  /-- R569: KEYSLOT_ASSIGN gives a range of empty slots to a realm. -/
  | keyslotAssign (c : HostCmd)
  /-- R572: KEY_QUERY returns a slot's state. -/
  | keyQuery (c : HostCmd)
  /-- R597: FLINT_RELEASE clears the alarm latch and releases the stopped queues. -/
  | flintRelease (c : HostCmd)
  /-- R575: KEY_CMD WRITE loads the staging buffer into a slot's free half under the direction and AT_INDEX rules. -/
  | keyWrite (realm : Nat)
  /-- R587: KEY_CMD ZEROIZE erases both halves and every context of a slot at once. -/
  | zeroize (realm : Nat)
  /-- R585: KEY_CMD CANCEL_PENDING discards the pending half of an ARMED slot. -/
  | cancelPending (realm : Nat)
  /-- R577: The key command has taken effect on this unit and on the partner, and BUSY clears. -/
  | keyCmdConfirm (realm : Nat)
  /-- R577: The partner does not confirm within 1 ms; the command fails with TIMEOUT. -/
  | keyCmdTimeout (realm : Nat)
  /-- R573: A write to KEY_SEL, KEY_CFG, ACT_INDEX, KEY or SALT is taken only while BUSY is 0. -/
  | keyRegisterWrite (realm off : Nat) (v : Word)
  /-- R596: An enabled alarm source trips; within 20 µs all keys are zeroed, queues are flushed and the latch is set. -/
  | alarm (sources : BitVec 5)
  /-- R603: A write to FLINT.ALARM_CFG sets enables and LOCK, ignored while locked. -/
  | alarmCfgWrite (v : Word)
  /-- R601: A write to FLINT.PIPE_CTRL takes pipelines out of, or returns them to, service. -/
  | pipeCtrlWrite (v : Word)
  /-- R601: At the next epoch boundary, a removed pipeline's slots move to the remaining pipelines. -/
  | flintPipeMove (pipe : Nat)
  /-- R601: An internal pipeline fault drops its packets and moves its slots. -/
  | pipeFault (pipe : Nat)
  /-- R612: Signal has been present for 10 µs; an IDLE lane starts a round in CDR_WAIT, waking its receiver when RX_WAKE is set. -/
  | signalDetect (lane : Nat)
  /-- R613: Receive amplitude below threshold for 100 ns returns the lane to IDLE. -/
  | signalLoss (lane : Nat)
  /-- R612: The CDR locks, and the lane enters COMMA_SEARCH. -/
  | cdrLock (lane : Nat)
  /-- R612: No CDR lock 1 ms after the try began; the try fails. -/
  | cdrTimeout (lane : Nat)
  /-- R614: A K28.5 report leads firmware to issue BITSLIP commands, and four aligned commas align the lane. -/
  | commaDetect (lane slips : Nat) (err : Bool)
  /-- R614: No K28.5 within 10 ms of CDR lock, or 10 slips without alignment, fails the try. -/
  | commaTimeout (lane : Nat)
  /-- R615: Four consecutive in-skew ||A|| columns bring all lanes to LINK_UP. -/
  | deskewDone (unit : Nat) (skews : List Nat)
  /-- R615: No deskew 1 ms after the last lane aligned; every lane records a failed try. -/
  | deskewTimeout (unit : Nat)
  /-- R616: 1 ms after a failed try the next try starts, and the 8th failure gives NO_PARTNER. -/
  | tryRetry (lane : Nat)
  /-- R617: Every RETRY_MS a NO_PARTNER lane starts one try. -/
  | noPartnerRetry (lane : Nat)
  /-- R618: Loss of code-group synchronisation takes the lane to CDR_WAIT with a fresh round. -/
  | syncLoss (lane : Nat)
  /-- R618: Four consecutive out-of-skew ||A|| columns take every lane of the port to CDR_WAIT. -/
  | skewLoss (unit : Nat)
  /-- R612: LANE_RETRAIN restarts a lane and the other lanes of its port or link. -/
  | laneRetrain (c : HostCmd)
  /-- R619: PORT_QUERY returns the lanes in LINK_UP and UP. -/
  | portQuery (c : HostCmd)
  /-- R626: A write to QUAD.LANE_CFG sets power, isolation, loopback and test rate under their state rules. -/
  | laneCfgWrite (lane : Nat) (v : Word)
  /-- R629: A write of 1 to ERR_INJECT inverts one transmitted bit. -/
  | errInject (lane : Nat)
  /-- R629: 1,024 error-free bits after seeding bring the checker to LOCKED. -/
  | prbsLock (lane : Nat) (bits : List Bool)
  /-- R629: 64 or more errors within 1,024 bits make the checker leave LOCKED and reseed. -/
  | prbsLockLost (lane : Nat) (bits : List Bool)
  /-- R631: The receiver inserts or deletes an ||R|| column, counted in ELASTIC. -/
  | elasticAdjust (port : Nat)
  /-- R638: Received fault ordered sets stop transmission on the port. -/
  | remoteFault (port : Nat)
  /-- R638: 128 consecutive columns without a fault ordered set clear REMOTE_FAULT. -/
  | remoteFaultClear (port : Nat)
  /-- R650: A write to PORT.PORT_CFG enables the port and sets mode and filters under the ENABLE condition. -/
  | portCfgWrite (port : Nat) (v : Word)
  /-- R654: 2 s after RESET_N with no HELLO, an UNDECIDED unit becomes PRIMARY with partner ABSENT. -/
  | roleDecisionTimeout
  /-- R658: A pair unit drives PAIR_HB_OUT high at every 100 µs, 1 µs as PRIMARY and 2 µs otherwise. -/
  | heartbeatPulse
  /-- R659: No rising edge on PAIR_HB_IN for 500 µs. -/
  | heartbeatLoss
  /-- R660: PAIR_HB_IN stays high for more than 5 µs, and PARTNER_FROZEN is set. -/
  | frozenIndication
  /-- R694: A PRIMARY receiving five consecutive PRIMARY pulses or a TAKEOVER frame stops egress and becomes SECONDARY. -/
  | deposed
  /-- R664: The Mirror Link comes UP; SEQ restarts at 0 and HELLO is sent. -/
  | linkUp
  /-- R664: The link goes down, or ACK does not advance for 2 ms. -/
  | linkFail
  /-- R662: ACK has not advanced for 20 µs, and outstanding frames are resent. -/
  | linkRetransmit
  /-- R661: After 10 µs with nothing to send, an ACK frame is sent. -/
  | linkIdleAck
  /-- R665: A HELLO is authenticated, the link key is derived and the role is decided under Table 14-4. -/
  | hello (f : LinkHdr) (h : HelloMsg)
  /-- R661: An ACK frame advances the acknowledgement of sent frames. -/
  | ack (f : LinkHdr)
  /-- R673: Manifest entries are matched to received packets, relays are requested, and an END lets the secondary process the epoch. -/
  | manifest (f : LinkHdr) (entries : List ManifestEntry)
  /-- R674: The secondary's acknowledgement releases held egress packets on the primary. -/
  | manifestAck (f : LinkHdr) (index : Nat)
  /-- R678: The secondary applies decision-log records and discards egress packets at or below the watermarks. -/
  | log (f : LinkHdr) (records : List LogRecord)
  /-- R684: The partner's digests are compared with the unit's own. -/
  | digest (f : LinkHdr) (epoch : Nat) (digests : List (Nat × Word))
  /-- R684: The partner's digests have not arrived 200 ms after the unit's own; the partner is LOST. -/
  | digestTimeout
  /-- R685: A leg's state transfer and refresh complete, and digests are compared again. -/
  | resyncDone (leg : Nat)
  /-- R675: The primary answers a relay request with the packet or a refusal. -/
  | relayReq (f : LinkHdr) (indexes : List Nat)
  /-- R675: A relayed packet or refusal reaches the secondary. -/
  | relayData (f : LinkHdr) (index : Nat) (packet : Option (List Byte))
  /-- R670: A relayed command is applied by the partner at the primary's boundary. -/
  | command (f : LinkHdr) (r : RelayedCmd)
  /-- R670: A COMMAND frame is not acknowledged 200 µs after processing; the partner becomes LOST. -/
  | commandRelayTimeout
  /-- R670: A relayed register write is applied on receipt. -/
  | regWrite (f : LinkHdr) (page off : Nat) (v : Word)
  /-- R665: A sealed key command is applied by the partner. -/
  | key (f : LinkHdr) (slot cmd : Nat) (sealed : List Byte)
  /-- R667: Transferred state bytes are stored on the secondary. -/
  | state (f : LinkHdr) (unit off : Nat) (bytes : List Byte)
  /-- R687: A SURRENDER frame names the boundary B at which the secondary takes over. -/
  | surrender (f : LinkHdr) (boundary : Nat)
  /-- R694: A TAKEOVER frame deposes a PRIMARY. -/
  | takeover (f : LinkHdr) (boundary : Nat)
  /-- R779: IMAGE frames request, carry or refuse a recovery image. -/
  | image (f : LinkHdr) (kind off total : Nat) (bytes : List Byte)
  /-- R668: The last unit is transferred, and the partner becomes READY. -/
  | joinComplete
  /-- R690: At takeover boundary T, the secondary becomes PRIMARY, sends from the watermarks and refreshes encoders. -/
  | failoverTakeover
  /-- R693: PAIR_SURRENDER hands the primary role to the partner at boundary B. -/
  | pairSurrender (c : HostCmd)
  /-- R696: PAIR_YIELD makes a conflicting PRIMARY become SECONDARY and join. -/
  | pairYield (c : HostCmd)
  /-- R666: PAIR_JOIN starts a join of a WAITING partner. -/
  | pairJoin (c : HostCmd)
  /-- R685: LEG_RESYNC transfers a leg's state to the partner. -/
  | legResync (c : HostCmd)
  /-- R696: PAIR_QUERY returns PAIR_STATUS and TAKEOVER_TIME. -/
  | pairQuery (c : HostCmd)
  /-- R719: XLAT_MAP maps a range of pages in a realm. -/
  | xlatMap (c : HostCmd)
  /-- R720: XLAT_UNMAP unmaps a range of pages. -/
  | xlatUnmap (c : HostCmd)
  /-- R720: XLAT_PROTECT changes write and pageable flags. -/
  | xlatProtect (c : HostCmd)
  /-- R720: XLAT_QUERY returns a page's state and leaf entry. -/
  | xlatQuery (c : HostCmd)
  /-- R731: FAULT_RESUME closes a fault and retries the halted work. -/
  | faultResume (c : HostCmd)
  /-- R732: FAULT_ABORT closes a fault and ends the work. -/
  | faultAbort (c : HostCmd)
  /-- R702: DOMAIN_SET sets a domain's realm and mode. -/
  | domainSet (c : HostCmd)
  /-- R707: DISP_SUBMIT queues work items from memory. -/
  | dispSubmit (c : HostCmd)
  /-- R702: DISP_QUERY returns a domain's state and counts. -/
  | dispQuery (c : HostCmd)
  /-- R708: DISP_FLUSH discards a domain's waiting items. -/
  | dispFlush (c : HostCmd)
  /-- R709: At the first dispatcher tick at or after TIME, a TIMED item is released to its domain. -/
  | timedItemRelease
  /-- R735: A fault OPEN for TIMEOUT_MS is aborted. -/
  | faultTimeout (id : Nat)
  /-- R747: A write to XLAT.FAULT_BASE enables the fault ring only when PINNED. -/
  | faultBaseWrite (v : Word)
  /-- R741: A write to DMA CH_CTRL.ENABLE starts or stops a channel. -/
  | chEnable (ch : Nat) (v : Word)
  /-- R740: A write of 1 to RESUME continues a faulted descriptor from PROGRESS. -/
  | chResume (ch : Nat)
  /-- R740: A write of 1 to SKIP aborts the faulted descriptor. -/
  | chSkip (ch : Nat)
  /-- R741: A write of 1 to STOP lets the descriptor in hand end and then clears ENABLE. -/
  | chStop (ch : Nat)
  /-- R741: A write to CH_TAIL posts descriptors, or faults the channel on a bad index. -/
  | chTailWrite (ch : Nat) (v : Word)
  /-- R737: A free mover takes the next descriptor of the highest-priority active channel. -/
  | dmaDescriptorStart (mover : Nat) (hostErr : Bool) (ue : Option Nat)
  /-- R737: A WAIT descriptor's TIME is reached. -/
  | dmaWaitExpiry (ch : Nat)
  /-- R738: A descriptor ends, is written back and CH_HEAD advances. -/
  | dmaDescriptorEnd (ch : Nat)
  /-- R742: A write to ECC_MAP changes inline ECC on an unmapped region and starts zeroing. -/
  | eccMapWrite (which : Nat) (v : Word)
  /-- R742: Zeroing completes at the first epoch boundary 150 ms after the write, and ECC_BUSY clears. -/
  | eccRegionReady
  /-- R745: A write to SLAB.SLICE_CFG sets scratch or isolates a slice under its state checks. -/
  | sliceCfgWrite (slice : Nat) (v : Word)
  /-- R829: The rails come up in sequence groups. -/
  | powerUp
  /-- R830: The rails fall in reverse sequence, VDD_AUX last. -/
  | powerDown (auxOff : Bool)
  /-- R749: RESET_N low holds everything except the always-on domain and OTP in reset. -/
  | resetAssert
  /-- R753: RESET_N rises; straps are sampled and the boot ROM begins its phases. -/
  | resetRelease (st : Straps)
  /-- R751: PERST_N alone resets the host interface and retrains the link. -/
  | perst
  /-- R761: A loaded image is checked, and its bank is booted, failed over or recovery is entered. -/
  | bootImageAuth
  /-- R753: The boot reaches READY, and BOOT_READY is raised. -/
  | bootReady
  /-- R752: Firmware does not serve the watchdog for 500 ms, and the unit restarts. -/
  | watchdogRestart
  /-- R756: A write of 1 to BOOT.LOAD_CTRL.GO checks a host-placed image. -/
  | loadGo (v : Word)
  /-- R780: The first complete recovery image authenticates, is written and started. -/
  | recovered (fromPartner : Bool)
  /-- R768: UPDATE_BEGIN reads a delta package header and sets the inactive bank to WRITING. -/
  | updateBegin (c : HostCmd)
  /-- R769: UPDATE_DATA applies package operations and writes output to the bank. -/
  | updateData (c : HostCmd)
  /-- R770: UPDATE_FINISH verifies the bank and makes it PENDING. -/
  | updateFinish (c : HostCmd)
  /-- R765: UPDATE_ABORT returns to IDLE with the bank EMPTY. -/
  | updateAbort (c : HostCmd)
  /-- R771: UPDATE_ACTIVATE restarts the unit at its boundary into the PENDING image. -/
  | updateActivate (c : HostCmd)
  /-- R773: UPDATE_CONFIRM makes the TRIAL bank ACTIVE and advances the counter. -/
  | updateConfirm (c : HostCmd)
  /-- R774: UPDATE_REVERT fails the TRIAL bank and restarts into the former image. -/
  | updateRevert (c : HostCmd)
  /-- R767: UPDATE_LOCK sets or clears the owner lock. -/
  | updateLock (c : HostCmd)
  /-- R775: A TRIAL unit reaches CONFIRM_CFG.TIMEOUT and reverts, or raises CONFIRM_OVERDUE. -/
  | confirmTimeout
  /-- R776: SETTINGS_WRITE stores or deletes a settings record. -/
  | settingsWrite (c : HostCmd)
  /-- R776: SETTINGS_READ returns a settings record. -/
  | settingsRead (c : HostCmd)
  /-- R785: A report reaches the Error Collector and is coalesced, opens a pending entry or is lost. -/
  | errorReport (r : Report)
  /-- R786: A pending entry reaches stamp + HOLD_US and is written to the log ring, or discarded when the ring is full. -/
  | logEntryDue
  /-- R789: The LOST entry is written once a slot is free. -/
  | lostEntry
  /-- R790: A read of ERRLOG.HEAD_W3 consumes the oldest entry. -/
  | headW3Read (how : ReadHow)
  /-- R794: 20 µs after its stamp, a trace entry is written to the ring and TRACE_PROD advances. -/
  | traceEntryWrite
  /-- R795: When space returns after drops, a LOST trace entry is written. -/
  | traceLost
  /-- R819: A write to OBS.TRACE_BASE enables the trace ring under its address checks and resets TRACE_PROD. -/
  | traceBaseWrite (v : Word)
  /-- R808: UNIT_ISOLATE takes a unit out of service, or returns it. -/
  | unitIsolate (c : HostCmd)
  /-- R809: BIST_RUN runs selected tests on an isolated or faulted unit. -/
  | bistRun (c : HostCmd)
  /-- R810: The tests end, and the unit becomes ISOLATED or FAULTED. -/
  | bistDone (unit : Nat) (failed : BitVec 3) (firstBad : Nat)
  /-- R803: FREEZE_NOW freezes this unit or the partner. -/
  | freezeNow (c : HostCmd)
  /-- R813: DEVICE_TEST arms or disarms reset-time tests. -/
  | deviceTest (c : HostCmd)
  /-- R797: FREEZE_N held low 100 ns with PIN_ENABLE after READY freezes the unit. -/
  | freezePin
  /-- R802: TRST_N resets the test access port only. -/
  | testReset
  /-- R804: JTAG EXTEST drives the boundary scan while in reset and not frozen. -/
  | extest (scan : List Bool)
  /-- R804: JTAG IDCODE returns 0x1409_656B. -/
  | idcode
  /-- R804: JTAG SAMPLE/PRELOAD captures the boundary scan. -/
  | samplePreload (scan : List Bool)
  /-- R805: JTAG FRZ_STATUS returns the freeze record. -/
  | frzStatus
  /-- R805: JTAG FRZ_TIME returns the time the clock stopped. -/
  | frzTime
  /-- R806: JTAG RD_ADDR sets the read-out space and offset. -/
  | rdAddr (v : Word)
  /-- R806: At Capture-DR of RD_DATA, the word at RD_ADDR is fetched, with VALID, and the offset advances. -/
  | rdData (available : Bool)
  /-- R804: JTAG BYPASS selects the 1-bit register. -/
  | bypass
  /-- R833: Every 100 µs the monitor estimates power and reads die temperature. -/
  | monitorSample (decaWatt : Nat) (temp16 : Int) (railLow : Bool)
  /-- R837: No cause has held for 1 s, and MARGIN_LOW becomes 0. -/
  | marginLowClear
  /-- R827: Every 100 ms the board sensor is read over I2C and reported in DEVICE.MONITOR. -/
  | i2cTempRead (v : Option (BitVec 16))
  /-- R257: A GEODE, GARNET, MICA or QUAD unit finishes the self-test it began when enabled or reset, and its page moves from INIT to READY. -/
  | selfTestDone (page : Nat)
  /-- R257: An engine fault takes a Geode to FAULTED, so that its logical engine loses service and a started job restarts elsewhere under R304. -/
  | engineFault (physical : Nat)
  /-- R359: An internal fault takes a MICA page to FAULTED. -/
  | micaInternalFault (inst : Nat)
  /-- R647: An internal PMA fault puts a QUAD page in FAULTED. -/
  | pmaFault (quad : Nat)
  /-- R746: A DRAM channel fails and its MEMCTL page becomes FAULTED. -/
  | channelFailure (ctrl channel : Nat)
  /-- R687: No Mirror Link frame has been received for 500 µs while heartbeats are lost, which triggers takeover at the next epoch boundary. -/
  | frameSilence
  /-- R659: A pulse arrives on PAIR_HB_IN and is read as PRIMARY or not primary, setting HB_OK and PARTNER_PRIMARY and ending a lost or FROZEN indication. -/
  | hbInPulse (widthNs : Nat)
  /-- R769: The flash finishes programming the output of an UPDATE_DATA, and the command completes. -/
  | flashWriteDone (ok : Bool)
  /-- R770: The read-back and check of the written bank ends, leaving the update VERIFYING for PENDING or back in RECEIVING. -/
  | verifyDone
  /-- R748: MR4 of a DRAM channel reports a refresh rate above nominal, and the memory controller raises TEMP_HIGH. -/
  | tempHigh (ctrl code : Nat)
  deriving DecidableEq, Repr

end Sys2Proof
end

