-- ==== Sys2Proof/Decode.lean ====
section
/-! DEFINITION. The words of commands: spec/opcode_table.json gives no bits to any row, so no word spells a command. -/

namespace Sys2Proof

/-- The command that a word of `nbits` bits spells by the table's bits: none, for every row of the table stands without bits. -/
def decodeTableWord (_nbits _w : Nat) : Option Instr := none

end Sys2Proof
end

