-- ==== Sys2Proof/Machine/Tab.lean ====
section
/-! DEFINITION. Sparse tables: a list of key and value pairs in one canonical form (keys strictly rising, no entry equal
to what an unlisted key reads as), with the one read and the one write over it. The byte stores, the register file and
the object tables are all of this form. -/

namespace Sys2Proof

/-- A sparse table from numbers to `α`. -/
abbrev Tab (α : Type) := List (Nat × α)

/-- The value at `k`; an unlisted key reads as `d k`. -/
def tabGet {α : Type} (d : Nat → α) : Tab α → Nat → α
  | [], k => d k
  | (j, a) :: t, k => if k = j then a else if k < j then d k else tabGet d t k

/-- The table with `v` at `k`; writing what an unlisted key reads as removes the entry. -/
def tabPut {α : Type} [DecidableEq α] (d : Nat → α) : Tab α → Nat → α → Tab α
  | [], k, v => if v = d k then [] else [(k, v)]
  | (j, a) :: t, k, v =>
    if k < j then (if v = d k then (j, a) :: t else (k, v) :: (j, a) :: t)
    else if k = j then
      (if v = d k then t.dropWhile (fun e => decide (e.1 ≤ k)) else (k, v) :: t)
    else (j, a) :: tabPut d t k v

/-- The canonical form. -/
def tabWf {α : Type} [DecidableEq α] (d : Nat → α) : Tab α → Bool
  | [] => true
  | [(j, a)] => decide (a ≠ d j)
  | (j, a) :: (k, b) :: t => decide (j < k) && decide (a ≠ d j) && tabWf d ((k, b) :: t)

/-- A read of a table whose unlisted keys all read as `z`. -/
def tabGetD {α : Type} (z : α) (t : Tab α) (k : Nat) : α := tabGet (fun _ => z) t k

/-- A write of a table whose unlisted keys all read as `z`. -/
def tabPutD {α : Type} [DecidableEq α] (z : α) (t : Tab α) (k : Nat) (v : α) : Tab α := tabPut (fun _ => z) t k v

/-- Every listed value replaced by `f` of its key and value; entries that become the default are dropped. -/
def tabMapD {α : Type} [DecidableEq α] (z : α) (t : Tab α) (f : Nat → α → α) : Tab α :=
  (t.map (fun e => (e.1, f e.1 e.2))).filter (fun e => decide (e.2 ≠ z))

end Sys2Proof
end

