-- ==== Sys2Proof/Machine/Operands.lean ====
section
/-! DEFINITION. Operand forms: bit fields of a word, signed fields, little-endian bytes (R4), the fields of a command
(Table 2-15), full and short media timestamps (R10 to R13), rounding (R852) and saturation. -/

namespace Sys2Proof

/-- The `w`-bit field at bit `lo` of a word. -/
def fld (v : Word) (lo w : Nat) : Nat := (v.toNat >>> lo) % 2 ^ w

/-- One bit of a word. -/
def bit (v : Word) (i : Nat) : Bool := fld v i 1 == 1

/-- `n` read as a `w`-bit two's complement number. -/
def signed (w n : Nat) : Int := if n % 2 ^ w < 2 ^ (w - 1) then ((n % 2 ^ w : Nat) : Int) else ((n % 2 ^ w : Nat) : Int) - ((2 ^ w : Nat) : Int)

/-- The signed `w`-bit field at bit `lo`. -/
def sfld (v : Word) (lo w : Nat) : Int := signed w (fld v lo w)

/-- `x` reduced to `w` bits of two's complement, as a number. -/
def wrapTo (w : Nat) (x : Int) : Nat := (x % ((2 ^ w : Nat) : Int)).toNat

/-- The word whose `w`-bit field at `lo` holds `x`, all else 0. -/
def fmk (lo w x : Nat) : Word := BitVec.ofNat 64 ((x % 2 ^ w) <<< lo)

/-- The word whose signed `w`-bit field at `lo` holds `x`, all else 0. -/
def fmkS (lo w : Nat) (x : Int) : Word := fmk lo w (wrapTo w x)

/-- 1 or 0 at bit `lo`. -/
def fmkB (lo : Nat) (b : Bool) : Word := fmk lo 1 (if b then 1 else 0)

/-- `v` with its `w`-bit field at `lo` replaced by `x`. -/
def setFld (v : Word) (lo w x : Nat) : Word :=
  BitVec.ofNat 64 (v.toNat - (fld v lo w <<< lo) + ((x % 2 ^ w) <<< lo))

/-- A word's low or high half, or all of it, as it is read. -/
def readPart (how : ReadHow) (v : Word) : Word :=
  match how with
  | .whole => v
  | .low => fmk 0 32 (fld v 0 32)
  | .high => fmk 0 32 (fld v 32 32)

/-- Little-endian bytes as a number (R4). -/
def leNat : List Byte → Nat
  | [] => 0
  | b :: t => b.toNat + 256 * leNat t

/-- `n` little-endian bytes of a number (R4). -/
def leBytes : Nat → Nat → List Byte
  | 0, _ => []
  | n + 1, x => BitVec.ofNat 8 x :: leBytes n (x / 256)

/-- Big-endian bytes as a number (R5: fields inside network packets). -/
def beNat (l : List Byte) : Nat := l.foldl (fun a b => a * 256 + b.toNat) 0

/-- `n` big-endian bytes of a number. -/
def beBytes (n x : Nat) : List Byte := (leBytes n x).reverse

/-- The little-endian field of `n` bytes at byte `o` of a byte string; missing bytes read 0. -/
def leAt (l : List Byte) (o n : Nat) : Nat := leNat ((l.drop o).take n)

/-- The big-endian field of `n` bytes at byte `o`. -/
def beAt (l : List Byte) (o n : Nat) : Nat := beNat (((l.drop o) ++ List.replicate n 0).take n)

/-- Bits of a little-endian field: the `w` bits from bit `lo` of the `n`-byte field at byte `o`. -/
def leBits (l : List Byte) (o n lo w : Nat) : Nat := (leAt l o n >>> lo) % 2 ^ w

/-- ARGS of a command: `n` bytes from byte `k` (Table 2-15). -/
def HostCmd.arg (c : HostCmd) (k n : Nat) : Nat := (c.args.toNat >>> (8 * k)) % 2 ^ (8 * n)

/-- A signed ARGS field. -/
def HostCmd.argS (c : HostCmd) (k n : Nat) : Int := signed (8 * n) (c.arg k n)

/-- FLAGS[0], DATED (Table 2-15). -/
def HostCmd.dated (c : HostCmd) : Bool := c.flags.getLsbD 0

/-- FLAGS[1], FENCE (Table 2-15). -/
def HostCmd.fence (c : HostCmd) : Bool := c.flags.getLsbD 1

/-- A full timestamp is invalid when its nanoseconds are 10^9 or more or a bit of [63:48] of either word is 1 (R11). -/
def fullValid (w0 w1 : Word) : Bool :=
  decide (fld w1 16 32 < 1000000000) && fld w0 48 16 == 0 && fld w1 48 16 == 0

/-- The instant a full timestamp names (R10). -/
def fullTime (w0 w1 : Word) : Time := fld w0 0 48 * secT + fld w1 16 32 * nsT + fld w1 0 16

/-- Word 0 of an instant's full timestamp: its seconds (R10). -/
def fullW0 (t : Time) : Word := fmk 0 48 (t / secT)

/-- Word 1: nanoseconds and fraction (R10). -/
def fullW1 (t : Time) : Word := BitVec.ofNat 64 (t % secT)

/-- Short media time of an instant: nanoseconds modulo 2^48, and the fraction (R12). -/
def shortOf (t : Time) : Word := BitVec.ofNat 64 t

/-- `a` is at or after `b` in short media time (R13). -/
def shortGe (a b : Word) : Bool := !(a - b).getLsbD 63

/-- The instant nearest to `now` whose short media time is `w` (R13). -/
def nearShort (now : Time) (w : Word) : Time :=
  if shortGe w (shortOf now) then now + (w - shortOf now).toNat else now - (shortOf now - w).toNat

/-- A stamp taken at the lane boundary, referred to the ball by `ps` picoseconds, at the 62.5 ps of R105: fraction bits [11:0] are 0. -/
def laneStamp (t : Time) (ps : Nat) : Time := (t * 1000 - ps * 65536) / 1000 / 4096 * 4096

/-- `t` rounded down to a whole nanosecond. -/
def wholeNs (t : Time) : Time := t / nsT * nsT

/-- The first multiple of `u` at or after `t`. -/
def ceilTo (u t : Nat) : Nat := if u = 0 then t else (t + u - 1) / u * u

/-- `num / den` rounded to nearest, an exact half away from zero (R852). `den` is positive. -/
def roundDiv (num : Int) (den : Nat) : Int :=
  if den = 0 then 0
  else if 0 ≤ num then (2 * num + den) / (2 * den) else -((2 * -num + den) / (2 * den))

/-- `num / den` truncated toward minus infinity. -/
def floorDiv (num : Int) (den : Nat) : Int := if den = 0 then 0 else num / (den : Int)

/-- `x` held within `lo` to `hi`. -/
def clampI (lo hi x : Int) : Int := if x < lo then lo else if hi < x then hi else x

/-- `x` held within `lo` to `hi`. -/
def clampN (lo hi x : Nat) : Nat := if x < lo then lo else if hi < x then hi else x

/-- A count that stops at its greatest value. -/
def satN (hi x : Nat) : Nat := if hi < x then hi else x

/-- The greatest number of a list, 0 when empty. -/
def maxN (l : List Nat) : Nat := l.foldl Nat.max 0

/-- The sum of a list. -/
def sumN (l : List Nat) : Nat := l.foldl (· + ·) 0

/-- The sum of a list of integers. -/
def sumI (l : List Int) : Int := l.foldl (· + ·) 0

/-- The integer square root by halving: the greatest `r` with `r * r ≤ n`, found bit by bit from bit `k`. -/
def sqrtFrom : Nat → Nat → Nat → Nat
  | 0, _, r => r
  | k + 1, n, r => if (r + 2 ^ k) * (r + 2 ^ k) ≤ n then sqrtFrom k n (r + 2 ^ k) else sqrtFrom k n r

/-- The integer square root of a number below 2^256. -/
def isqrt (n : Nat) : Nat := sqrtFrom 128 n 0

/-- Insertion of `x` before the first element that `lt x` puts after it; keeps the order of equals. -/
def insertBy {α : Type} (lt : α → α → Bool) (x : α) : List α → List α
  | [] => [x]
  | y :: t => if lt x y then x :: y :: t else y :: insertBy lt x t

/-- A stable sort by insertion. -/
def sortBy {α : Type} (lt : α → α → Bool) (l : List α) : List α := l.foldl (fun acc x => insertBy lt x acc) []

/-- The first element of a list that has `p`, and the list without it. -/
def takeFirst {α : Type} (p : α → Bool) : List α → Option (α × List α)
  | [] => none
  | x :: t => if p x then some (x, t) else match takeFirst p t with
    | some (y, r) => some (y, x :: r)
    | none => none

/-- The `i`-th element, or `z`. -/
def nthD {α : Type} (z : α) (l : List α) (i : Nat) : α := (l[i]?).getD z

/-- The list with element `i` replaced; unchanged when there is none. -/
def setNth {α : Type} (l : List α) (i : Nat) (x : α) : List α := l.set i x

end Sys2Proof
end

