-- ==== Sys2Proof/Machine/Fixed.lean ====
section
/-! DEFINITION. Real numbers where a rule names a real function: fixed point in units of 2^-128, with the series of the functions the rules
use. Results are rounded only where a rule rounds them (R852; log entry 22). -/

namespace Sys2Proof.Machine
open Sys2Proof

/-- A number in units of 2^-128. -/
abbrev Fx := Int

/-- One. -/
def fxOne : Fx := ((2 ^ 128 : Nat) : Int)
/-- A fraction. -/
def fxRat (n : Int) (m : Nat) : Fx := n * fxOne / (max 1 m : Nat)
/-- A rational. -/
def fxOf (q : Rat) : Fx := fxRat q.num q.den
/-- Product and quotient. -/
def fxMul (a b : Fx) : Fx := a * b / fxOne
def fxDiv (a b : Fx) : Fx := if b = 0 then 0 else (a * fxOne).tdiv b

/-- The arctangent of 1/n by its series. -/
def fxAtanInv (n : Nat) : Fx :=
  ((List.range 45).foldl (fun (a : Fx × Fx) k =>
    (a.1 + (if k % 2 = 0 then a.2 / (2 * k + 1 : Nat) else -(a.2 / (2 * k + 1 : Nat))), a.2 / (n * n : Nat))) (0, fxOne / (n : Nat))).1

/-- Pi. -/
def fxPi : Fx := 16 * fxAtanInv 5 - 4 * fxAtanInv 239

/-- The sine by its series, after reduction to one turn. -/
def fxSin (x : Fx) : Fx :=
  let x := (x + fxPi) % (2 * fxPi) - fxPi
  ((List.range 30).foldl (fun (a : Fx × Fx) k => (a.1 + a.2, -(fxMul (fxMul a.2 x) x) / ((2 * k + 2) * (2 * k + 3) : Nat))) (0, x)).1

/-- The cosine. -/
def fxCos (x : Fx) : Fx := fxSin (x + fxPi / 2)

/-- The natural logarithm of 2. -/
def fxLn2 : Fx := ((List.range 132).foldl (fun (a : Fx × Nat) k => (a.1 + fxOne / (((k + 1) * a.2 : Nat) : Int), 2 * a.2)) (0, 2)).1

/-- e to the power of x. -/
def fxExp (x : Fx) : Fx :=
  let n := x / fxLn2
  let r := x - n * fxLn2
  let e := ((List.range 40).foldl (fun (a : Fx × Fx) k => (a.1 + a.2, fxMul a.2 r / ((k + 1 : Nat) : Int))) (0, fxOne)).1
  if 0 ≤ n then e * (2 ^ n.toNat : Nat) else e / (2 ^ (-n).toNat : Nat)

/-- The natural logarithm of a positive number; 0 for others. -/
def fxLn (x : Fx) : Fx :=
  if x ≤ 0 then 0
  else
    let k : Int := (Nat.log2 x.toNat : Int) - 128
    let m : Fx := if 0 ≤ k then x / (2 ^ k.toNat : Nat) else x * (2 ^ (-k).toNat : Nat)
    let z := fxDiv (m - fxOne) (m + fxOne)
    let s := ((List.range 45).foldl (fun (a : Fx × Fx) j => (a.1 + a.2 / ((2 * j + 1 : Nat) : Int), fxMul (fxMul a.2 z) z)) (0, z)).1
    k * fxLn2 + 2 * s

/-- The square root; 0 for negative numbers. -/
def fxSqrt (x : Fx) : Fx := ((sqrtFrom 260 (x * fxOne).toNat 0 : Nat) : Int)

/-- 10 to the power of x/20: a level in dB as a factor. -/
def fxDb (db : Fx) : Fx := fxExp (fxMul db (fxDiv (fxLn (10 * fxOne)) (20 * fxOne)))

/-- The base-10 logarithm. -/
def fxLog10 (x : Fx) : Fx := fxDiv (fxLn x) (fxLn (10 * fxOne))

/-- A number times 2^q, rounded to nearest (R852). -/
def fxRound (x : Fx) (q : Nat) : Int := roundDiv (x * (2 ^ q : Nat)) (2 ^ 128)

end Sys2Proof.Machine
end

