-- ==== Sys2Proof/Machine/StateLanes.lean ====
section
/-! DEFINITION. State of the serial lanes and ports (chapter 13). -/

namespace Sys2Proof.Machine
open Sys2Proof

/-- Lane training states (R612, Table 13-3). -/
inductive Train where
  | off | idle | cdrWait | commaSearch | deskew | linkUp | noPartner | isolated
  deriving DecidableEq, Repr

/-- A PRBS checker (R629): the bits it compares with, newest first; good bits since it seeded itself, up to 1,024; whether it is LOCKED; how many bits
it has seen while LOCKED and the places of the last wrong ones; and what one report adds to the counters. -/
structure Checker where
  reg : List Bool := []
  good : Nat := 0
  locked : Bool := false
  seen : Nat := 0
  wrong : List Nat := []
  bits : Nat := 0
  errors : Nat := 0
  lost : Nat := 0
  deriving DecidableEq, Repr

/-- A lane: what LANE_STATUS reports of it, and the instants its training rules count from (R612 to R618). -/
structure Lane where
  train : Train := .off
  signal : Bool := false
  cdr : Bool := false
  aligned : Bool := false
  /-- Failed tries of the round, and BITSLIP commands of the try. -/
  tries : Nat := 0
  slips : Nat := 0
  skew : Nat := 0
  /-- A failed try is followed by the next one at this instant (R616). -/
  rest : Option Time := none
  /-- Start of the try, CDR lock, alignment, and entry into NO_PARTNER or the last failed retry. -/
  tryAt : Time := 0
  cdrAt : Time := 0
  alignedAt : Time := 0
  partnerAt : Time := 0
  /-- K28.5 seen since CDR lock, and consecutive ones at the word boundary without a code error (R614). -/
  comma : Bool := false
  run : Nat := 0
  /-- The try was started from NO_PARTNER (R617). -/
  retry : Bool := false
  /-- The PRBS checker, LOCKED among it (R629), and the generator's last bits, newest first (R628). -/
  chk : Checker := {}
  gen : List Bool := []
  /-- The next transmitted bit is inverted (ERR_INJECT, R629). -/
  flip : Bool := false
  deriving DecidableEq, Repr

/-- A media port 0 to 7, or 8 for the Mirror Link: UP and the instant of its last change (R619), REMOTE_FAULT (R638), the
instants of elastic adjustments of the last second (R631), and its transmit side. -/
structure PortLink where
  up : Bool := false
  changed : Time := 0
  remote : Bool := false
  elastic : List Time := []
  /-- The instant of the last ||A|| column sent, or of the transmitters' reaching ON (R633); the deficit idle count (R635); and whether the port sends
  remote-fault ordered sets (R637). -/
  marker : Time := 0
  deficit : Nat := 0
  telling : Bool := false
  deriving DecidableEq, Repr

/-- The lanes and the ports they form. -/
structure Lanes where
  lanes : Tab Lane := []
  links : Tab PortLink := []
  deriving DecidableEq, Repr

end Sys2Proof.Machine
end

