-- ==== Sys2Proof/Machine/Coding.lean ====
section
/-! DEFINITION. What the serial lanes carry (chapter 13): control code groups, columns, frames in columns and the gaps between them, and the PRBS
sequences with their checker. -/

namespace Sys2Proof.Machine
open Sys2Proof

/-! ### Code groups (Table 13-2) -/

def symK : Sym := .ctl 0xBC
def symA : Sym := .ctl 0x7C
def symR : Sym := .ctl 0x1C
def symS : Sym := .ctl 0xFB
def symT : Sym := .ctl 0xFD
def symE : Sym := .ctl 0xFE
def symQ : Sym := .ctl 0x9C

/-- A received code group that counts as a code error: not in the code, or a K code group that Table 13-2 does not list (R608, R609). -/
def symError : Sym → Bool
  | .data _ => false
  | .ctl k => !([symK, symA, symR, symS, symT, symE, symQ].contains (.ctl k))
  | .bad => true

/-- What the receiver passes on: ||E|| in place of a code error (R608). -/
def symPassed (x : Sym) : Sym := if symError x then symE else x

/-- Remote-fault and local-fault ordered sets (R637, R638). -/
def faultSet (far : Bool) : List Sym := [symQ, .data 0, .data 0, .data (if far then 2 else 1)]

/-- One bit of CRC-32. -/
def crcBit (c : Nat) : Nat := if c % 2 = 1 then (c / 2) ^^^ 0xEDB88320 else c / 2

/-- One byte of CRC-32. -/
def crcByte (c : Nat) (b : Byte) : Nat := crcBit (crcBit (crcBit (crcBit (crcBit (crcBit (crcBit (crcBit (c ^^^ b.toNat))))))))

/-- CRC-32 of IEEE 802.3. -/
def crc32 (l : List Byte) : Nat := (l.foldl crcByte 0xFFFFFFFF) ^^^ 0xFFFFFFFF

/-- A frame as a MAC sends it: padded to 60 bytes, with its FCS (R640). -/
def macBytes (b : List Byte) : List Byte :=
  let p := b ++ List.replicate (60 - b.length) 0
  p ++ leBytes 4 (crc32 p)

/-! ### Frames in columns (R632, R634, R635, R639) -/

/-- Code groups laid out in columns of `w` lanes, lane 0 first. -/
def inColumns (w : Nat) : Nat → List Sym → List (List Sym)
  | 0, _ => []
  | fuel + 1, l => if l.isEmpty then [] else l.take w :: inColumns w fuel (l.drop w)

/-- The columns of a frame over `w` lanes: ||S||, six bytes of preamble and the SFD, the frame, ||T||, and ||K|| to the end of its column. -/
def frameColumns (w : Nat) (b : List Byte) : List (List Sym) :=
  let l := symS :: List.replicate 6 (.data 0x55) ++ [.data 0xD5] ++ b.map Sym.data ++ [symT]
  inColumns w (l.length + 1) (l ++ List.replicate ((w - l.length % w) % w) symK)

/-- The data bytes of received code groups up to ||T||; `none` when another code group comes first (R636). -/
def untilT : List Sym → Option (List Byte)
  | [] => none
  | .data b :: t => (untilT t).map (fun l => b :: l)
  | x :: _ => if x = symT then some [] else none

/-- The frame that received columns carry, from its destination address to its FCS; `none` where it does not start with ||S|| in lane 0 or contains
||E|| or a code error (R636). -/
def frameOf (cols : List (List Sym)) : Option (List Byte) :=
  let l := cols.flatten.map symPassed
  if l.head? = some symS ∧ (l.drop 7).head? = some (.data 0xD5) then (untilT (l.drop 1)).map (fun b => b.drop 7) else none

/-- Deficit idle count: the gap after a frame of `n` bytes from ||S|| to its FCS, ||T|| among it, so that the next frame starts in lane 0; 9 to 15
bytes, 12 on average (R635). -/
def gapAfter (deficit n : Nat) : Nat × Nat :=
  let r := n % 4
  if deficit + r ≤ 3 then (12 - r, deficit + r) else (16 - r, deficit + r - 4)

/-- The whole columns of 0.8 ns in a length of time, and the time of a number of columns (R632). -/
def columnsIn (t : Time) : Nat := t * 5 / (4 * nsT)
def columnTime (n : Nat) : Time := n * 4 * nsT / 5

/-! ### PRBS (R628, R629) -/

/-- The order of a sequence and the place of its other tap, by its code in PRBS_CFG. -/
def prbsTaps (code : Nat) : Nat × Nat := if code = 1 then (7, 6) else if code = 2 then (15, 14) else if code = 3 then (23, 18) else (31, 28)

/-- The next bit of a sequence, from its last bits with the newest first. -/
def prbsNext (code : Nat) (reg : List Bool) : Bool := nthD false reg ((prbsTaps code).1 - 1) != nthD false reg ((prbsTaps code).2 - 1)

/-- The next `n` bits of a sequence, and its last bits after them. -/
def prbsRun (code : Nat) : Nat → List Bool → List Bool × List Bool
  | 0, reg => ([], reg)
  | n + 1, reg =>
    let b := prbsNext code reg
    let r := prbsRun code n ((b :: reg).take (prbsTaps code).1)
    (b :: r.1, r.2)

/-- The checker takes one bit (R629): it seeds itself, is LOCKED after 1,024 further bits with no error, counts while LOCKED, and seeds again when 64
bits of any 1,024 are wrong. -/
def Checker.take (code : Nat) (c : Checker) (b : Bool) : Checker :=
  let n := (prbsTaps code).1
  if c.reg.length < n then { c with reg := b :: c.reg }
  else
    let e := prbsNext code c.reg
    let reg := (e :: c.reg).take n
    if !c.locked then
      if b != e then { c with reg := [], good := 0 }
      else { c with
        reg := reg
        good := c.good + 1
        locked := decide (1024 ≤ c.good + 1)
        seen := 0
        wrong := [] }
    else
      let wrong := if b != e then (c.seen :: c.wrong).take 64 else c.wrong
      let c := { c with
        reg := reg
        seen := c.seen + 1
        wrong := wrong
        bits := c.bits + 1
        errors := c.errors + (if b != e then 1 else 0) }
      if 64 ≤ wrong.length ∧ c.seen ≤ (wrong.getLast?.getD 0) + 1024 then { c with
        reg := []
        good := 0
        locked := false
        lost := c.lost + 1 }
      else c

end Sys2Proof.Machine
end

