-- ==== Sys2Proof/Config.lean ====
section
/-! DEFINITION. What the spec leaves open, as constants with no body: free values, and the results of external standards
(codecs, ciphers, digests) that the spec names and does not restate. Nothing can be proved of their values. -/

namespace Sys2Proof

/-- The part's serial number and ordering code (Table 17-12); each part has its own. -/
opaque Config.serial : Word
opaque Config.orderCode : Bool

/-- What a lane's PRBS generator starts from (log entry 88), the unit's PTP clockIdentity, and byte `i` of the source address of its PTP messages over
IPv4 or IPv6 on a port (log entry 87). -/
opaque Config.prbsSeed : Nat → Nat
opaque Config.clockIdentity : Word
opaque Config.ptpSource : Bool → Nat → Nat → Byte

/-- A value the spec does not state, by a counter of the state (log entry 8). -/
opaque Config.freeWord : Nat → Word

/-- The pipeline that carries a slot, by the slot and the pipelines in service; the spec does not say which (log entry 16). -/
opaque Config.slotPipe : Nat → Nat → Nat

/-- One use of an SRTP or SRTCP transform (R563: RFC 3711, RFC 6188, RFC 7714). -/
structure SrtpUse where
  transform : Nat
  key : List Byte
  salt : List Byte
  rtcp : Bool
  ssrc : Nat
  index : Nat
  deriving DecidableEq, Repr

/-- Byte `i` of the key stream of a use (log entry 9). -/
opaque Config.srtpStream : SrtpUse → Nat → Byte

/-- Byte `i` of the authentication tag over the bytes in clear and the enciphered bytes (log entry 9). -/
opaque Config.srtpTag : SrtpUse → List Byte → List Byte → Nat → Byte

/-- Byte `i` of HMAC-SHA1 of a message under a key (RFC 2104, used by STUN; log entry 9). -/
opaque Config.hmacSha1 : List Byte → List Byte → Nat → Byte

/-- Byte `i` of the RFC 8627 repair packet over the given RTP packets (log entry 10). -/
opaque Config.fecPacket : List (List Byte) → Nat → Byte

/-- The packets an RFC 8627 repair packet recovers from the packets held, as whole RTP packets (log entry 10). -/
opaque Config.fecRecover : List Byte → List (List Byte) → List (List Byte)

/-- Loss in 1/1000 and q in 0.1 ms of RFC 8888 reports that cover no packet, or none received, by leg and boundary: R176 divides by the packets
covered (log entry 90). -/
opaque Config.emptyFeedback : Nat → Nat → Int × Int

/-- What the AV1 dependency descriptor of a packet says: spatial layer, temporal layer, and whether it starts an independent
picture, is a spatial and is a temporal switch point, each 0 or 1 (log entry 10). -/
opaque Config.av1Layers : List Byte → List Nat

/-- What a level of a codec must hold (R207, R208): size, pictures per second as a fraction, and kbit/s. -/
structure LevelUse where
  codec : Nat
  level : Nat
  width : Nat
  height : Nat
  rateNum : Nat
  rateDen : Nat
  kbps : Nat
  deriving DecidableEq, Repr

/-- The codec standard's answer whether a level holds a stream (log entry 10). -/
opaque Config.levelHolds : LevelUse → Bool

/-- One coded layer cut into RTP payloads (R224, R236): codec, largest size, spatial and temporal layer, TL0PICIDX, a key picture, and
its coded bytes. -/
structure PayloadUse where
  codec : Nat
  max : Nat
  sid : Nat
  tid : Nat
  tl0 : Nat
  key : Bool
  bytes : List Byte
  deriving DecidableEq, Repr

/-- The RTP payloads of a coded layer: RFC 6184, RFC 7798, the AV1 format or RFC 7741 (R224, log entry 10). -/
opaque Config.rtpPayloads : PayloadUse → List (List Byte)

/-- A block predicted from a reference (R230, R284): codec, luma or chroma, the vector and its units in a sample (4: quarter-pel, 8:
eighth-pel), and the reference samples of the plane in rows. -/
structure PredUse where
  codec : Nat
  chroma : Bool
  unit : Nat
  vx : Int
  vy : Int
  width : Nat
  samples : List Nat
  deriving DecidableEq, Repr

/-- The predicted sample at a column and row, by the codec's interpolation (log entry 10). -/
opaque Config.predict : PredUse → Nat → Nat → Nat

/-- The sample that stands for a 4 × 4 block in the decimated copy of R230, and the cost of predicting a block by another (log entry 92). -/
opaque Config.decimate : List Nat → Nat
opaque Config.blockCost : List Nat → List Nat → Nat

/-- The sum of the 8 × 8 Hadamard costs of a block's prediction residual (R240, log entry 92). -/
opaque Config.hadamard : List Nat → List Nat → Nat

/-- The vector, in eighth-pel, that a codec's skip mode takes from the vectors of the left, above and above-right CTUs, the co-located
one and the left one's reference (R233, log entry 10). -/
opaque Config.skipMotion : Nat → List (Option (Int × Int)) → Int × Int

/-- The tools of Table 5-4 that a stream may use. -/
structure Tools where
  codec : Nat
  profile : Nat
  ctu : Nat
  cabac : Bool
  /-- Sides of coding blocks and transforms, smallest and largest; sides of intra blocks. -/
  block : Nat × Nat
  transform : Nat × Nat
  intra : List Nat
  refs : Nat
  /-- CTU rows of a slice, 0 for a whole picture; tile columns; token partitions. -/
  sliceRows : Nat
  tileCols : Nat
  partitions : Nat
  deblock : Bool
  sao : Bool
  cdef : Bool
  eighth : Bool
  deriving DecidableEq, Repr

/-- How a CTU is coded: skip, inter with no residual, intra, inter, or predicted from the spatial layer below. -/
inductive CtuMode where
  | skip (ref : Nat) (v : Int × Int)
  | zero (ref : Nat)
  | intra
  | inter (ref : Nat) (v : Int × Int)
  | below
  deriving DecidableEq, Repr

/-- The choice of a CTU's mode: the tools, its QP, its source, the modes it may take with the block each predicts, the CTUs around it that
it may depend on, and the coder's state. -/
structure ModeUse where
  tools : Tools
  qp : Int
  source : List Nat
  modes : List (CtuMode × List Nat)
  around : List (Option (List Nat))
  state : Nat
  deriving DecidableEq, Repr

/-- One CTU coded. -/
structure CtuUse where
  tools : Tools
  qp : Int
  source : List Nat
  mode : CtuMode
  predicted : List Nat
  around : List (Option (List Nat))
  vecs : List (Option (Int × Int))
  state : Nat
  deriving DecidableEq, Repr

/-- The codec's choices and results (R209, R232; log entry 92): which of the modes a CTU takes; a coded CTU's bits, its samples before
in-loop filtering, and the coder's state after it; its samples filtered with the CTUs around it; tile columns (up to 4) and the
exponent of the token partitions (up to 2) of a picture. -/
opaque Config.modePick : ModeUse → Nat
opaque Config.ctuBits : CtuUse → Nat
opaque Config.ctuRecon : CtuUse → List Nat
opaque Config.ctuState : CtuUse → Nat
opaque Config.loopFilter : Tools → List Nat → List (Option (List Nat)) → List Nat
opaque Config.tileColumns : Nat → Nat → Nat
opaque Config.tokenPartitions : Nat → Nat → Nat

/-- One layer of a picture as its bitstream says it: tools, level written, size, layer and temporal layer, a key picture,
recovery_frame_cnt of a recovery point (R251), and its CTUs. -/
structure CodedUse where
  tools : Tools
  level : Nat
  width : Nat
  height : Nat
  sid : Nat
  tid : Nat
  key : Bool
  recovery : Option Nat
  ctus : List CtuUse
  deriving DecidableEq, Repr

/-- The coded bytes of a layer of a picture, in the form of R225 (log entry 10). -/
opaque Config.codedBytes : CodedUse → List Byte

/-- The display light in cd/m² of R'G'B' signals from 0 to 1 under a transfer, component 0, 1 or 2 (0 BT.1886, 1 HLG with a nominal peak of
1,000 cd/m², 2 PQ; BT.1886, BT.2100), by the primaries, and the signals of a light (R340, log entry 11). -/
opaque Config.display : Nat → Nat → Rat × Rat × Rat → Nat → Rat
opaque Config.signal : Nat → Nat → Rat × Rat × Rat → Nat → Rat

/-- One decoding of a leg's audio (R363, R373): CODEC, the decoder's state, 0 a packet, 1 its in-band FEC, 2 concealment, the payload
type and payload, and the codec samples wanted of a concealment. -/
structure AudioUse where
  codec : Nat
  state : Nat
  kind : Nat
  pt : Nat
  payload : List Byte
  count : Nat
  deriving DecidableEq, Repr

/-- Decoded sample in Q60, left at 2 i and right at 2 i + 1, and the decoder's next state (log entry 10). -/
opaque Config.audioDecode : AudioUse → Nat → Int
opaque Config.audioState : AudioUse → Nat

/-- An Opus packet carries in-band FEC (log entry 10). -/
opaque Config.opusFec : List Byte → Bool

/-- One encoding of a frame of leg audio (R363, R365): codec, state, channels, rate, BANDWIDTH, FEC, DTX, and the samples. -/
structure EncodeUse where
  codec : Nat
  state : Nat
  channels : Nat
  bps : Nat
  bandwidth : Nat
  fec : Bool
  dtx : Bool
  samples : List Int
  deriving DecidableEq, Repr

/-- The payload of the frame, empty when DTX sends none, and the encoder's next state (log entry 10). -/
opaque Config.audioEncode : EncodeUse → List Byte
opaque Config.encoderState : EncodeUse → Nat

/-- A synchronous conversion by a ratio of 2, 6 or 12, up or down (R366), of interleaved samples; its filters are not given (log entry 25). -/
structure ConvUse where
  up : Bool
  ratio : Nat
  channels : Nat
  state : Nat
  samples : List Int
  deriving DecidableEq, Repr

/-- Sample `i` of the result, interleaved, and the converter's next state. -/
opaque Config.convert : ConvUse → Nat → Int
opaque Config.convertState : ConvUse → Nat

/-- The ratio of an asynchronous edge in ppb, by the arrivals of an epoch (R401), and a sample of its converter at a position in 2^-32
samples (log entry 25). -/
opaque Config.asyncRatio : List (Nat × Int) → Int
opaque Config.asyncSample : List Int → Nat → Int

/-- The TPDF dither of a port, slot and grid sample in 2^-32 LSB (R404, log entry 25). -/
opaque Config.dither : Nat → Nat → Nat → Int

/-- The CNAME Tiusk gives in its SDES packets (RFC 3550 asks for one, the spec states none; log entry 18). -/
opaque Config.cname : List Byte

/-- The payload of a KEY frame sealed under the link key with the frame's SEQ as nonce, and what it opens to (R665, log entry 9). -/
opaque Config.linkSeal : List Byte → Nat → List Byte
opaque Config.linkOpen : List Byte → Nat → Option (List Byte)

/-- Byte i of the SHA-384 of a byte string (log entry 9). -/
opaque Config.sha384 : List Byte → Nat → Byte

/-- ECDSA P-384: whether a signature under a public key verifies over a digest (R761, log entry 9). -/
opaque Config.ecdsaOk : List Byte → List Byte → List Byte → Bool

/-- The ephemeral share and the signature of a HELLO, with the certificate chain, by the model's counter (R665, log entry 9). -/
opaque Config.helloProof : Nat → List Byte

/-- The bytes of a unit of Table 14-7, by its row and an instant; their form is not given (R667, log entry 33). -/
opaque Config.stateBytes : Nat → Nat → List Byte

/-- The partner's answer to a command sent to it with TARGET 1: a status code, DETAIL and RESULT, by the model's counter (log entry 34). -/
opaque Config.partnerReply : Nat → Nat × Nat × Word

/-- The KERNEL cluster that does the work of an endpoint (R521; the spec does not say which, log entry 32). -/
opaque Config.kernelCluster : Nat → Nat

/-- Directions of the t-design of R451: component x, y or z of direction j in 2^-128 (log entry 27). -/
opaque Config.tDesign : Nat → Nat → Int

/-- The real N3D spherical harmonic of an ACN channel in direction j of that design, in 2^-128 (log entry 27). -/
opaque Config.sphere : Nat → Nat → Int

/-- The gain a direction gives a loudspeaker where no triangle of the layout holds it, in 2^-128 (R441 gives none; log entry 27). -/
opaque Config.freePan : Int × Int × Int → Nat → Int

/-- Tap i of the interpolator of a fractional delay in 1/65,536 sample, in Q60 (R457, log entry 28). -/
opaque Config.delayTap : Nat → Nat → Int

/-- The error of a room-correction filter at an output sample, by loudspeaker, sample and input history, held to ±2^-44 (R459, log
entry 28). -/
opaque Config.firError : Nat → Nat → List Int → Int

/-- A record of the configuration store that is Tiusk's own, ID below 0x8000, at a use; empty where there is none (log entry 100). -/
opaque Config.ownRecord : Nat → Nat → List Byte

end Sys2Proof
end

