-- ==== Sys2Proof/Machine/RegMap.lean ====
section
/-! DEFINITION. The register map: the pages of Table 2-4 with their capabilities, and every stored register of every page
with its fields, their access, reset values and ranges, as the chapters' tables give them. -/

namespace Sys2Proof.Machine
open Sys2Proof

/-- The page types of Table 2-4. -/
inductive PType where
  | directory | device | quartz | pcie | boot | obs | errlog | pair | xlat | dispatch | dma | legs | flint | render
  | mix | slab | mica | tdm | port | egress | quad | memctl | geode | garnet | realm
  deriving DecidableEq, Repr

/-- The type of page index `n`: BAR0 pages 0 to 137 (Table 2-4), REALM page r at 138 + r. -/
def pageType (n : Nat) : Option PType :=
  if n = 0 then some .directory else if n = 1 then some .device else if n = 2 then some .quartz
  else if n = 3 then some .pcie else if n = 4 then some .boot else if n = 5 then some .obs
  else if n = 6 then some .errlog else if n = 7 then some .pair else if n = 8 then some .xlat
  else if n = 9 then some .dispatch else if n ≤ 13 then some .dma else if n = 14 then some .legs
  else if n = 15 then some .flint else if n = 16 then some .render else if n = 17 then some .mix
  else if n = 18 then some .slab else if n ≤ 20 then some .mica else if n ≤ 28 then some .tdm
  else if n ≤ 36 then some .port else if n ≤ 44 then some .egress else if n ≤ 54 then some .quad
  else if n ≤ 70 then some .memctl else if n ≤ 104 then some .geode else if n ≤ 137 then some .garnet
  else if n ≤ 201 then some .realm else none

/-- The first page index of a type (Table 2-4). -/
def PType.first : PType → Nat
  | .directory => 0 | .device => 1 | .quartz => 2 | .pcie => 3 | .boot => 4 | .obs => 5 | .errlog => 6 | .pair => 7
  | .xlat => 8 | .dispatch => 9 | .dma => 10 | .legs => 14 | .flint => 15 | .render => 16 | .mix => 17 | .slab => 18
  | .mica => 19 | .tdm => 21 | .port => 29 | .egress => 37 | .quad => 45 | .memctl => 55 | .geode => 71
  | .garnet => 105 | .realm => 138

/-- The instance number of page `n` (Table 2-4). -/
def pageInst (n : Nat) : Nat := match pageType n with
  | some t => n - t.first
  | none => 0

/-- The type code of Table 2-4. -/
def PType.code : PType → Nat
  | .directory => 0x0001 | .device => 0x0002 | .quartz => 0x0003 | .pcie => 0x00B0 | .boot => 0x0090 | .obs => 0x00A0
  | .errlog => 0x00A1 | .pair => 0x0080 | .xlat => 0x0070 | .dispatch => 0x0072 | .dma => 0x0071 | .legs => 0x0060
  | .flint => 0x0040 | .render => 0x0028 | .mix => 0x0029 | .slab => 0x00C1 | .mica => 0x0030 | .tdm => 0x002A
  | .port => 0x0050 | .egress => 0x0058 | .quad => 0x0051 | .memctl => 0x00C0 | .geode => 0x0010 | .garnet => 0x0020
  | .realm => 0x0041

/-- PAGE_CAPS: SHADOW, COUNTERS, ISOLATE, BIST, SPARE, EVENTS (R861, R153, R197, R257, R359, R411, R414, R466, R518,
R561, R602, R605, R647, R649, R697, R746, R781, R816, R817, R818). -/
structure Caps where
  shadow : Bool
  counters : Bool
  isolate : Bool
  bist : Bool
  spare : Bool
  events : Nat
  deriving DecidableEq, Repr

/-- The capabilities of each page type. -/
def PType.caps : PType → Caps
  | .directory => ⟨false, false, false, false, false, 0⟩
  | .pcie => ⟨false, true, false, false, false, 0⟩
  | .quartz => ⟨false, true, false, false, false, 9⟩
  | .legs => ⟨true, true, false, false, false, 5⟩
  | .geode => ⟨false, true, true, true, true, 16⟩
  | .mica => ⟨true, true, false, false, false, 6⟩
  | .mix => ⟨true, true, false, false, false, 5⟩
  | .tdm => ⟨true, true, false, false, false, 16⟩
  | .render => ⟨true, true, false, false, false, 4⟩
  | .garnet => ⟨false, true, true, true, true, 6⟩
  | .egress => ⟨false, true, false, false, false, 5⟩
  | .flint => ⟨false, true, false, true, false, 7⟩
  | .realm => ⟨false, false, false, false, false, 2⟩
  | .quad => ⟨false, true, true, true, false, 16⟩
  | .port => ⟨false, true, false, false, false, 4⟩
  | .pair => ⟨false, true, false, false, false, 8⟩
  | .xlat => ⟨false, true, false, false, false, 5⟩
  | .dispatch => ⟨false, true, false, false, false, 3⟩
  | .dma => ⟨false, true, false, false, false, 16⟩
  | .memctl => ⟨false, true, false, false, false, 3⟩
  | .slab => ⟨false, true, false, true, false, 16⟩
  | .boot => ⟨false, true, false, false, false, 6⟩
  | .device => ⟨false, true, false, false, false, 4⟩
  | .errlog => ⟨false, true, false, false, false, 3⟩
  | .obs => ⟨false, true, false, false, false, 2⟩

/-- How a field is accessed (R8). A counter reads its snapshot while SNAP_HELD is 1 (R68). -/
inductive Acc where
  | rw | ro | wo | rc
  deriving DecidableEq, Repr

/-- What a field may hold: anything, a range (R856), a signed range, 0 or a range (R856, a gap), or codes from 0 (R857). -/
inductive Lim where
  | any
  | range (lo hi : Nat)
  | srange (lo hi : Int)
  | gap (lo hi : Nat)
  | below (n : Nat)
  deriving DecidableEq, Repr

/-- A field of a register. -/
structure Fld where
  lo : Nat
  w : Nat
  acc : Acc := .rw
  reset : Nat := 0
  lim : Lim := .any
  deriving DecidableEq, Repr

/-- A register or an array of registers: offset, count, stride, whether RWS, and its fields. Bits in no field are
reserved (R6). -/
structure Reg where
  off : Nat
  n : Nat := 1
  stride : Nat := 8
  rws : Bool := false
  flds : List Fld
  deriving DecidableEq, Repr

/-- A register whose every bit is RO. -/
def roReg (off : Nat) (fs : List (Nat × Nat)) : Reg := { off := off, flds := fs.map (fun p => { lo := p.1, w := p.2, acc := .ro }) }

/-- `n` counters from `off` (R791). -/
def ctrRegs (off n : Nat) : Reg := { off := off, n := n, flds := [{ lo := 0, w := 64, acc := .ro }] }

/-- The counters of a page type: first offset, count and stride of each run. -/
def PType.counters : PType → List (Nat × Nat × Nat)
  | .quartz => [(0x148, 7, 8)]
  | .pcie => [(0x058, 3, 8)]
  | .legs => [(0x070, 15, 8)]
  | .geode => [(0x060, 8, 8), (0x110, 12, 8)]
  | .mica => [(0x068, 9, 8)]
  | .mix => [(0x060, 13, 8)]
  | .tdm => [(0x120, 4, 0x40), (0x128, 4, 0x40), (0x130, 4, 0x40)]
  | .render => [(0x078, 6, 8)]
  | .garnet => [(0x060, 8, 8)]
  | .egress => [(0x0D0, 11, 8), (0x140, 8, 8)]
  | .flint => [(0x080, 17, 8)]
  | .quad => [(0x118, 4, 0x40), (0x120, 4, 0x40), (0x128, 4, 0x40), (0x130, 4, 0x40), (0x138, 4, 0x40)]
  | .port => [(0x070, 17, 8)]
  | .pair => [(0x070, 12, 8)]
  | .xlat => [(0x070, 9, 8)]
  | .dispatch => [(0x058, 7, 8)]
  | .dma => [(0x130, 8, 0x40), (0x138, 8, 0x40)]
  | .memctl => [(0x070, 5, 8)]
  | .slab => [(0x200, 16, 16), (0x208, 16, 16)]
  | .boot => [(0x090, 6, 8)]
  | .device => [(0x0A0, 4, 8)]
  | .errlog => [(0x090, 5, 8)]
  | .obs => [(0x068, 4, 8)]
  | _ => []

/-- `off` lies in a run of registers. -/
def inRun (off : Nat) (r : Nat × Nat × Nat) : Bool :=
  decide (r.1 ≤ off) && (r.2.2 != 0) && (off - r.1) % r.2.2 == 0 && decide ((off - r.1) / r.2.2 < r.2.1)

/-- `off` holds a counter of the page type. -/
def PType.isCounter (t : PType) (off : Nat) : Bool := t.counters.any (inRun off)

/-- The block registers of a page type, from the chapters' page tables. Counters are added by `regsOf`. -/
def PType.block : PType → List Reg
  | .directory => [roReg 0x048 [(0, 8), (8, 8)],
      { off := 0x050, n := 138, flds := [⟨0, 16, .ro, 0, .any⟩, ⟨16, 12, .ro, 0, .any⟩, ⟨28, 8, .ro, 0, .any⟩, ⟨36, 4, .ro, 0, .any⟩, ⟨40, 1, .ro, 0, .any⟩] }]
  | .pcie => [roReg 0x048 [(0, 4), (4, 6), (16, 1)],
      { off := 0x050, flds := [⟨16, 21, .rw, 0, .any⟩, ⟨63, 1, .ro, 0, .any⟩] }]
  | .quartz => [roReg 0x048 [(0, 64)], roReg 0x050 [(0, 64)], roReg 0x058 [(0, 64)], roReg 0x060 [(0, 48)],
      { off := 0x068, flds := [⟨0, 1, .rw, 0, .any⟩, ⟨1, 3, .rw, 0, .any⟩, ⟨4, 2, .rw, 1, .below 3⟩, ⟨6, 2, .rw, 0, .below 3⟩, ⟨8, 1, .rw, 0, .any⟩, ⟨16, 8, .rw, 127, .any⟩, ⟨24, 12, .rw, 0, .any⟩] },
      { off := 0x070, flds := [⟨0, 32, .rw, 45875, .any⟩, ⟨32, 32, .rw, 19661, .any⟩] },
      { off := 0x078, flds := [⟨0, 32, .rw, 100000, .range 1 1000000⟩, ⟨32, 32, .rw, 1000, .any⟩] },
      { off := 0x080, flds := [⟨0, 30, .rw, 1000, .any⟩] },
      { off := 0x088, flds := [⟨0, 16, .rw, 100, .any⟩, ⟨16, 8, .rw, 16, .any⟩, ⟨24, 8, .rw, 4, .any⟩, ⟨32, 8, .rw, 3, .any⟩, ⟨40, 4, .rw, 1, .range 1 15⟩] },
      { off := 0x090, n := 8, flds := [⟨0, 32, .rw, 0, .any⟩, ⟨32, 32, .rw, 0, .any⟩] },
      roReg 0x0D0 [(0, 3), (4, 4), (8, 1), (32, 32)], roReg 0x0D8 [(0, 64)], roReg 0x0E0 [(0, 64)], roReg 0x0E8 [(0, 64)],
      roReg 0x0F0 [(0, 64)], roReg 0x0F8 [(0, 64)], roReg 0x100 [(0, 19)], roReg 0x108 [(0, 64)],
      { off := 0x110, flds := [⟨0, 1, .rw, 0, .any⟩, ⟨1, 1, .rw, 1, .any⟩, ⟨8, 24, .rw, 10000, .range 1 500000⟩, ⟨32, 32, .rw, 0, .srange (-1000000) 1000000⟩] },
      { off := 0x118, flds := [⟨0, 1, .rw, 0, .any⟩, ⟨1, 1, .rw, 1, .any⟩, ⟨2, 1, .rw, 1, .any⟩, ⟨32, 32, .rw, 0, .srange (-10000) 10000⟩] },
      { off := 0x120, flds := [⟨0, 1, .rw, 0, .any⟩, ⟨8, 24, .rw, 1000, .any⟩] },
      roReg 0x128 [(0, 64)], roReg 0x130 [(0, 64)], roReg 0x138 [(0, 64)], roReg 0x140 [(0, 4)]]
  | .legs => [roReg 0x048 [(0, 13), (16, 16)],
      { off := 0x050, flds := [⟨0, 1, .rw, 0, .any⟩, ⟨16, 16, .rw, 100, .range 10 10000⟩] },
      { off := 0x058, flds := [⟨16, 32, .rw, 0, .any⟩] },
      { off := 0x060, flds := [⟨0, 1, .rw, 0, .any⟩, ⟨16, 32, .rw, 0, .any⟩] },
      { off := 0x068, flds := [⟨0, 16, .rw, 8, .range 1 64⟩] },
      { off := 0x100, n := 16, stride := 0x40, rws := true, flds := [⟨0, 32, .rw, 100, .range 32 400000⟩, ⟨32, 32, .rw, 20000, .range 32 400000⟩] },
      { off := 0x108, n := 16, stride := 0x40, rws := true, flds := [⟨0, 32, .rw, 800, .any⟩, ⟨32, 8, .rw, 10, .range 0 50⟩, ⟨40, 8, .rw, 125, .range 100 250⟩, ⟨48, 8, .rw, 25, .range 5 100⟩, ⟨56, 4, .rw, 0, .gap 2 15⟩] },
      { off := 0x110, n := 16, stride := 0x40, rws := true, flds := [⟨0, 16, .rw, 20, .any⟩, ⟨16, 16, .rw, 100, .any⟩, ⟨32, 16, .rw, 100, .any⟩, ⟨48, 16, .rw, 250, .any⟩] },
      { off := 0x118, n := 16, stride := 0x40, rws := true, flds := [⟨0, 16, .rw, 80, .range 1 500⟩, ⟨16, 16, .rw, 200, .any⟩, ⟨32, 16, .rw, 500, .range 50 5000⟩, ⟨48, 16, .rw, 500, .range 100 2000⟩] },
      { off := 0x120, n := 16, stride := 0x40, rws := true, flds := [⟨0, 8, .rw, 15, .range 0 100⟩, ⟨16, 16, .rw, 500, .any⟩, ⟨32, 16, .rw, 2000, .range 100 60000⟩] },
      { off := 0x128, n := 16, stride := 0x40, rws := true, flds := [⟨0, 16, .rw, 20, .any⟩, ⟨16, 4, .rw, 3, .range 0 8⟩, ⟨32, 16, .rw, 1000, .range 100 2000⟩] },
      { off := 0x130, n := 16, stride := 0x40, rws := true, flds := [⟨0, 16, .rw, 150, .range 10 1000⟩, ⟨16, 16, .rw, 50, .range 10 200⟩, ⟨32, 16, .rw, 500, .range 100 5000⟩] }]
  | .geode => [roReg 0x048 [(0, 5), (5, 1), (6, 1), (7, 6)], roReg 0x050 [(0, 12), (16, 32)], roReg 0x058 [(0, 11), (11, 2), (16, 16), (32, 1)],
      roReg 0x100 [(0, 12), (12, 2), (16, 16), (32, 1)], roReg 0x108 [(0, 13)]]
  | .mica => [roReg 0x048 [(0, 9), (16, 16), (32, 16)],
      { off := 0x050, flds := [⟨0, 8, .rw, 0, .any⟩] },
      { off := 0x058, flds := [⟨0, 1, .rw, 0, .any⟩, ⟨16, 32, .rw, 0, .any⟩] },
      { off := 0x060, flds := [⟨0, 32, .rw, 0, .any⟩] },
      { off := 0x100, n := 4, rws := true, flds := [⟨0, 64, .rw, 0, .any⟩] }]
  | .mix => [roReg 0x048 [(0, 15), (16, 10), (32, 9), (48, 9)],
      { off := 0x050, flds := [⟨0, 1, .rw, 0, .any⟩, ⟨16, 32, .rw, 0, .any⟩] },
      roReg 0x058 [(0, 7), (16, 10), (32, 2)],
      { off := 0x100, rws := true, flds := [⟨0, 16, .rw, 2304, .range 0 10240⟩, ⟨16, 16, .rw, 50176, .srange (-25600) 0⟩, ⟨32, 16, .rw, 300, .range 0 2000⟩, ⟨48, 16, .rw, 65, .any⟩] },
      { off := 0x108, rws := true, flds := [⟨0, 16, .rw, 1536, .range 0 10240⟩, ⟨16, 16, .rw, 60, .range 0 1000⟩, ⟨32, 16, .rw, 1000, .range 0 10000⟩, ⟨48, 16, .rw, 131, .any⟩] },
      { off := 0x110, rws := true, flds := [⟨0, 16, .rw, 20, .range 0 200⟩, ⟨16, 16, .rw, 200, .range 20 1000⟩, ⟨32, 16, .rw, 50, .range 0 1000⟩, ⟨48, 16, .rw, 2000, .range 200 10000⟩] },
      { off := 0x118, rws := true, flds := [⟨0, 16, .rw, 500, .range 0 5000⟩, ⟨16, 16, .rw, 100, .range 20 1000⟩] }]
  | .tdm => [roReg 0x048 [(0, 10), (16, 10)],
      { off := 0x100, n := 4, stride := 0x40, flds := [⟨0, 1, .rw, 0, .any⟩, ⟨1, 1, .rw, 0, .any⟩, ⟨2, 1, .rw, 0, .any⟩, ⟨3, 1, .rw, 1, .any⟩, ⟨4, 6, .rw, 16, .range 2 32⟩, ⟨10, 2, .rw, 1, .below 3⟩, ⟨12, 1, .rw, 0, .any⟩, ⟨13, 1, .rw, 1, .any⟩, ⟨14, 1, .rw, 0, .any⟩, ⟨15, 1, .rw, 0, .any⟩, ⟨16, 1, .rw, 1, .any⟩, ⟨17, 1, .rw, 0, .any⟩, ⟨32, 32, .rw, 0, .srange (-10000) 10000⟩] },
      { off := 0x108, n := 4, stride := 0x40, rws := true, flds := [⟨0, 32, .rw, 0, .any⟩] },
      { off := 0x110, n := 4, stride := 0x40, rws := true, flds := [⟨0, 32, .rw, 0, .any⟩] },
      { off := 0x118, n := 4, stride := 0x40, flds := [⟨0, 1, .ro, 0, .any⟩, ⟨32, 32, .ro, 0, .any⟩] }]
  | .render => [roReg 0x048 [(0, 2), (2, 2), (4, 2), (8, 1), (16, 10), (32, 11), (48, 11)], roReg 0x050 [(0, 23), (32, 23)],
      { off := 0x058, flds := [⟨16, 32, .rw, 0, .any⟩] }, { off := 0x060, flds := [⟨16, 32, .rw, 0, .any⟩] },
      { off := 0x068, rws := true, flds := [⟨0, 1, .rw, 0, .any⟩, ⟨1, 1, .rw, 0, .any⟩] },
      { off := 0x070, rws := true, flds := [⟨0, 32, .rw, 0, .srange (-9437184) 1179648⟩] },
      { off := 0x100, n := 8, rws := true, flds := [⟨0, 64, .rw, 0, .any⟩] },
      { off := 0x140, n := 8, rws := true, flds := [⟨0, 64, .rw, 0, .any⟩] }]
  | .garnet => [roReg 0x048 [(0, 5), (5, 1), (6, 1)], roReg 0x050 [(0, 32)], roReg 0x058 [(0, 23), (32, 9)],
      { off := 0x100, n := 16, flds := [⟨0, 10, .ro, 0, .any⟩, ⟨16, 9, .ro, 0, .any⟩, ⟨32, 1, .ro, 0, .any⟩, ⟨40, 3, .ro, 0, .any⟩, ⟨48, 10, .ro, 0, .any⟩] }]
  | .egress => [roReg 0x048 [(0, 14), (16, 2), (18, 1), (24, 8), (32, 8)],
      { off := 0x050, flds := [⟨0, 4, .rw, 10, .range 4 12⟩] },
      { off := 0x058, flds := [⟨0, 3, .rw, 7, .any⟩, ⟨16, 16, .rw, 2048, .range 256 65535⟩, ⟨32, 16, .rw, 1024, .range 16 4096⟩] },
      { off := 0x060, flds := [⟨0, 16, .rw, 500, .range 0 10000⟩] },
      { off := 0x068, flds := [⟨0, 1, .rw, 0, .any⟩, ⟨16, 16, .rw, 100, .range 10 10000⟩] },
      { off := 0x070, flds := [⟨16, 32, .rw, 0, .any⟩] },
      roReg 0x078 [(0, 64)], roReg 0x080 [(0, 32)], roReg 0x088 [(0, 64)],
      { off := 0x090, n := 8, flds := [⟨0, 32, .ro, 0, .any⟩] }]
  | .flint => [roReg 0x048 [(0, 5), (8, 15), (31, 1)],
      { off := 0x050, flds := [⟨0, 5, .rw, 0x1F, .any⟩, ⟨8, 1, .rw, 0, .any⟩] },
      roReg 0x058 [(0, 5), (8, 5)], roReg 0x060 [(0, 64)],
      { off := 0x068, flds := [⟨0, 16, .rw, 0, .any⟩] }, roReg 0x070 [(0, 48)],
      { off := 0x078, flds := [⟨0, 48, .rw, 0x800000000000, .range 1048576 281474976710655⟩] }]
  | .realm => [
      { off := 0x048, n := 4, stride := 0x40, flds := [⟨12, 52, .rw, 0, .any⟩] },
      { off := 0x050, n := 4, stride := 0x40, flds := [⟨0, 16, .rw, 0, .any⟩] },
      { off := 0x058, n := 4, stride := 0x40, flds := [⟨0, 16, .ro, 0, .any⟩] },
      { off := 0x060, n := 4, stride := 0x40, flds := [⟨12, 52, .rw, 0, .any⟩] },
      { off := 0x068, n := 4, stride := 0x40, flds := [⟨0, 16, .rw, 0, .any⟩] },
      { off := 0x070, n := 4, stride := 0x40, flds := [⟨0, 16, .ro, 0, .any⟩] },
      { off := 0x078, n := 4, stride := 0x40, flds := [⟨0, 1, .rw, 0, .any⟩, ⟨1, 1, .ro, 0, .any⟩, ⟨2, 4, .rw, 0, .range 0 12⟩, ⟨8, 8, .rw, 0, .any⟩, ⟨16, 8, .rw, 1, .any⟩, ⟨24, 12, .rw, 0, .any⟩] },
      { off := 0x080, n := 4, stride := 0x40, flds := [⟨0, 64, .ro, 0, .any⟩] },
      { off := 0x200, flds := [⟨0, 14, .rw, 0, .any⟩] },
      { off := 0x208, flds := [⟨0, 4, .rw, 0, .below 7⟩, ⟨4, 1, .rw, 0, .any⟩, ⟨5, 1, .rw, 0, .any⟩] },
      { off := 0x210, flds := [⟨0, 48, .rw, 0, .any⟩] },
      { off := 0x218, n := 4, flds := [⟨0, 64, .wo, 0, .any⟩] },
      { off := 0x238, n := 2, flds := [⟨0, 64, .wo, 0, .any⟩] },
      { off := 0x250, flds := [⟨0, 2, .wo, 0, .any⟩] },
      roReg 0x258 [(0, 8), (8, 1), (16, 16)], roReg 0x260 [(0, 64)]]
  | .quad => [roReg 0x048 [(0, 4), (4, 3)],
      { off := 0x050, flds := [⟨0, 16, .rw, 1000, .range 100 60000⟩] },
      { off := 0x100, n := 4, stride := 0x40, flds := [⟨0, 2, .rw, 2, .below 3⟩, ⟨2, 2, .rw, 2, .below 3⟩, ⟨4, 1, .rw, 1, .any⟩, ⟨5, 2, .rw, 0, .any⟩, ⟨7, 1, .rw, 0, .any⟩, ⟨8, 1, .rw, 0, .any⟩, ⟨9, 1, .rw, 0, .any⟩, ⟨12, 4, .rw, 8, .any⟩, ⟨16, 4, .rw, 4, .any⟩, ⟨20, 4, .rw, 0, .any⟩, ⟨24, 3, .rw, 0, .below 7⟩] },
      { off := 0x108, n := 4, stride := 0x40, flds := [⟨0, 3, .ro, 0, .any⟩, ⟨4, 1, .ro, 0, .any⟩, ⟨5, 1, .ro, 0, .any⟩, ⟨6, 1, .ro, 0, .any⟩, ⟨8, 4, .ro, 0, .any⟩, ⟨12, 4, .ro, 0, .any⟩, ⟨16, 8, .ro, 0, .any⟩, ⟨24, 2, .ro, 0, .any⟩, ⟨26, 2, .ro, 0, .any⟩, ⟨28, 1, .ro, 0, .any⟩] },
      { off := 0x110, n := 4, stride := 0x40, flds := [⟨0, 3, .rw, 0, .below 5⟩, ⟨3, 1, .rw, 0, .any⟩, ⟨4, 3, .rw, 0, .below 5⟩, ⟨7, 1, .rw, 0, .any⟩, ⟨8, 1, .ro, 0, .any⟩, ⟨9, 1, .wo, 0, .any⟩] }]
  | .port => [
      { off := 0x048, flds := [⟨0, 1, .rw, 0, .any⟩, ⟨1, 1, .rw, 1, .any⟩, ⟨2, 1, .rw, 0, .any⟩, ⟨3, 1, .rw, 1, .any⟩, ⟨4, 1, .rw, 1, .any⟩, ⟨5, 1, .rw, 0, .any⟩, ⟨8, 8, .rw, 64, .range 1 255⟩] },
      { off := 0x050, flds := [⟨0, 48, .rw, 0, .any⟩] },
      roReg 0x058 [(0, 1), (1, 1), (2, 1), (4, 4), (8, 8)], roReg 0x060 [(0, 32)], roReg 0x068 [(0, 32)]]
  | .pair => [roReg 0x048 [(0, 2), (2, 2), (4, 3), (8, 4), (16, 9), (32, 3), (48, 12)],
      { off := 0x050, flds := [⟨0, 1, .rw, 1, .any⟩, ⟨1, 1, .rw, 1, .any⟩, ⟨8, 8, .rw, 50, .range 10 60⟩] },
      roReg 0x058 [(0, 64)], roReg 0x060 [(0, 64)], roReg 0x068 [(0, 64)]]
  | .xlat => [roReg 0x048 [(0, 16), (16, 16), (32, 16)],
      { off := 0x050, flds := [⟨0, 1, .rw, 0, .any⟩, ⟨16, 32, .rw, 0, .any⟩] },
      { off := 0x058, flds := [⟨0, 16, .rw, 0, .range 0 60000⟩] }, roReg 0x060 [(0, 10)],
      { off := 0x068, flds := [⟨0, 10, .rw, 0, .any⟩] }]
  | .dispatch => [roReg 0x048 [(0, 21), (32, 16)], roReg 0x050 [(0, 18)]]
  | .dma => [roReg 0x048 [(0, 8), (8, 4)],
      { off := 0x100, n := 8, stride := 0x40, flds := [⟨0, 1, .rw, 0, .any⟩, ⟨1, 1, .wo, 0, .any⟩, ⟨2, 1, .wo, 0, .any⟩, ⟨3, 1, .wo, 0, .any⟩, ⟨8, 4, .rw, 8, .any⟩] },
      { off := 0x108, n := 8, stride := 0x40, flds := [⟨0, 4, .rw, 0, .range 0 12⟩, ⟨12, 36, .rw, 0, .any⟩] },
      { off := 0x110, n := 8, stride := 0x40, flds := [⟨0, 16, .rw, 0, .any⟩] },
      { off := 0x118, n := 8, stride := 0x40, flds := [⟨0, 16, .ro, 0, .any⟩] },
      { off := 0x120, n := 8, stride := 0x40, flds := [⟨0, 4, .ro, 0, .any⟩, ⟨16, 16, .ro, 0, .any⟩, ⟨32, 32, .ro, 0, .any⟩] },
      { off := 0x128, n := 8, stride := 0x40, flds := [⟨0, 64, .rw, 1, .any⟩] }]
  | .memctl => [roReg 0x048 [(0, 1), (4, 4), (16, 3)],
      { off := 0x050, flds := [⟨0, 8, .rw, 10, .range 0 50⟩] },
      { off := 0x058, flds := [⟨0, 64, .rw, 0, .any⟩] }, { off := 0x060, flds := [⟨0, 64, .rw, 0xC000000000000000, .any⟩] },
      roReg 0x068 [(0, 1)]]
  | .slab => [roReg 0x048 [(0, 5), (16, 9)],
      { off := 0x100, n := 16, flds := [⟨0, 5, .rw, 0, .range 0 18⟩, ⟨8, 1, .rw, 0, .any⟩, ⟨12, 4, .ro, 0, .any⟩] }]
  | .boot => [roReg 0x048 [(0, 11), (12, 6), (20, 7), (32, 32)], roReg 0x050 [(0, 39), (40, 16)],
      { off := 0x058, n := 2, flds := [⟨0, 39, .ro, 0, .any⟩, ⟨40, 3, .ro, 0, .any⟩] }, roReg 0x068 [(0, 7), (8, 5)], roReg 0x070 [(0, 64)],
      { off := 0x078, flds := [⟨0, 16, .rw, 0, .range 0 3600⟩] }, { off := 0x080, flds := [⟨12, 25, .rw, 0, .any⟩] },
      { off := 0x088, flds := [⟨0, 1, .wo, 0, .any⟩, ⟨1, 1, .rw, 0, .any⟩, ⟨8, 8, .ro, 0, .any⟩, ⟨16, 1, .ro, 0, .any⟩, ⟨32, 32, .rw, 0, .any⟩] }]
  | .device => [roReg 0x048 [(0, 28)], roReg 0x050 [(0, 64)], roReg 0x058 [(0, 50)],
      { off := 0x060, flds := [⟨0, 1, .rw, 1, .any⟩] },
      { off := 0x068, n := 4, flds := [⟨0, 12, .rw, 0, .any⟩, ⟨16, 16, .rw, 0, .any⟩, ⟨32, 1, .rw, 0, .any⟩, ⟨33, 1, .rw, 0, .any⟩, ⟨63, 1, .rw, 0, .any⟩] },
      roReg 0x088 [(0, 6), (16, 28)], roReg 0x090 [(0, 64)], roReg 0x098 [(0, 12), (16, 16)]]
  | .errlog => [roReg 0x048 [(0, 13), (16, 9), (32, 1)],
      { off := 0x050, flds := [⟨0, 14, .rw, 100, .range 10 10000⟩, ⟨16, 14, .rw, 3072, .range 1 4096⟩] },
      roReg 0x058 [(0, 64)], roReg 0x060 [(0, 64)], roReg 0x068 [(0, 64)], { off := 0x070, flds := [⟨0, 64, .rc, 0, .any⟩] },
      { off := 0x078, flds := [⟨0, 12, .rw, 0, .any⟩] }, roReg 0x080 [(0, 48)], roReg 0x088 [(0, 48)]]
  | .obs => [
      { off := 0x048, flds := [⟨0, 1, .rw, 0, .any⟩, ⟨16, 21, .rw, 0, .any⟩] },
      { off := 0x050, flds := [⟨0, 6, .rw, 24, .range 16 32⟩] },
      { off := 0x058, flds := [⟨0, 5, .rw, 0x18, .any⟩, ⟨32, 16, .rw, 0, .any⟩, ⟨48, 13, .rw, 0, .any⟩, ⟨61, 1, .rw, 1, .any⟩, ⟨62, 1, .rw, 1, .any⟩] },
      roReg 0x060 [(0, 64)]]

/-- The common header (Tables 2-7 and 2-8) and PAGE_SNAP_TIME. -/
def headerRegs : List Reg := [
  roReg 0x000 [(28, 8), (36, 12), (48, 16)], roReg 0x008 [(0, 5), (8, 6)], roReg 0x010 [(0, 4), (16, 32)],
  { off := 0x018, flds := [⟨0, 1, .rw, 0, .any⟩, ⟨1, 1, .rw, 0, .any⟩, ⟨2, 1, .wo, 0, .any⟩, ⟨3, 1, .wo, 0, .any⟩, ⟨4, 1, .wo, 0, .any⟩, ⟨5, 1, .ro, 0, .any⟩] },
  { off := 0x020, flds := [⟨0, 48, .rw, 0, .any⟩] },
  { off := 0x028, flds := [⟨0, 48, .rw, 0xFFFFFFFFFFFF, .any⟩, ⟨48, 8, .rw, 0, .any⟩] },
  { off := 0x030, flds := [⟨0, 4, .rw, 0, .any⟩, ⟨4, 1, .rw, 0, .any⟩, ⟨5, 1, .rw, 0, .any⟩, ⟨6, 1, .ro, 0, .any⟩] },
  { off := 0x038, flds := [⟨0, 48, .rw, 0, .any⟩] },
  roReg 0x040 [(0, 64)]]

/-- Every register of a page type. -/
def PType.regs (t : PType) : List Reg :=
  headerRegs ++ t.block ++ t.counters.map (fun c => { off := c.1, n := c.2.1, stride := c.2.2, flds := [⟨0, 64, .ro, 0, .any⟩] })

/-- The register of a page type at an offset. -/
def PType.regAt (t : PType) (off : Nat) : Option Reg := t.regs.find? (fun r => inRun off (r.off, r.n, r.stride))

/-- The word a register holds at reset. -/
def Reg.resetWord (r : Reg) : Word := r.flds.foldl (fun v f => v ||| fmk f.lo f.w f.reset) 0

/-- The key of a register of page `p`. -/
def regKey (p off : Nat) : Nat := p * 4096 + off

/-- What a stored register of key `k` holds until it is written: its reset value. LANE_CFG of quads 8 and 9 resets with
both lane powers OFF (Table 13-11). -/
def regReset (k : Nat) : Word :=
  match pageType (k / 4096) with
  | none => 0
  | some t => match t.regAt (k % 4096) with
    | none => 0
    | some r =>
      if t = .quad ∧ r.off = 0x100 ∧ (k / 4096 = 53 ∨ k / 4096 = 54) then setFld (setFld r.resetWord 0 2 0) 2 2 0
      else r.resetWord

end Sys2Proof.Machine
end

