-- ==== Sys2Proof/Machine/StateEgress.lean ====
section
/-! DEFINITION. State of the egress scheduler (chapter 11). -/

namespace Sys2Proof.Machine
open Sys2Proof

/-- Queue binding states (Table 11-1). -/
inductive BindState where
  | unbound | leg | stream
  deriving DecidableEq, Repr

/-- A cleartext packet in the leg buffer pool: its source (a leg, or 4,096 + 4 layout + output), stream, number, timestamp and bytes (R189, R196). -/
structure PoolRef where
  src : Nat
  idx : Nat
  seq : Nat
  ts : Nat
  size : Nat
  deriving DecidableEq, Repr

/-- A frame in a queue: its bytes from the destination MAC address to the last payload byte, when it was queued, and what
it carries: the leg it is sent for, its SSRC, sequence number and whether it is SRTCP or PTP. -/
structure EFrame where
  bytes : List Byte
  at_ : Time
  leg : Option Nat := none
  ssrc : Nat := 0
  seq : Nat := 0
  srtcp : Bool := false
  /-- Audio of a leg (R179), a frame of HOST_SEND, and an RTP packet that feedback will report. -/
  audio : Bool := false
  host : Bool := false
  rtp : Bool := false
  /-- Quartz's Delay_Req with this sequence number in `seq` (R530). -/
  ptp : Bool := false
  /-- The packet of the leg buffer pool that it copies (R196). -/
  pool : Option PoolRef := none
  deriving DecidableEq, Repr

/-- Samples of one statistics period (R545, R546). -/
structure QStat where
  n : Nat := 0
  dMin : Nat := 0
  dMax : Nat := 0
  dSum : Nat := 0
  sMin : Nat := 0
  sMax : Nat := 0
  sSum : Nat := 0
  drops : Nat := 0
  wasBound : Bool := false
  deriving DecidableEq, Repr

/-- A queue: 0 to 8,191, or the control queue of port p at 8,192 + p (R525 to R542). -/
structure Queue where
  realm : Nat := 0
  cls : Nat := 4
  fixed : Bool := false
  quantum : Nat := 2048
  rate : Nat := 0
  limit : Nat := 512
  bind : BindState := .unbound
  obj : Nat := 0
  port : Nat := 0
  /-- The pacer rate leg policy gives, in bit/s (R180); 0 unpaced. -/
  legRate : Nat := 0
  frames : List EFrame := []
  /-- The eligibility time e (R537). -/
  e : Time := 0
  deficit : Nat := 0
  visited : Bool := false
  stat : QStat := {}
  deriving DecidableEq, Repr

/-- A gate list (Table 11-4): BASE, CYCLE in ns, entries of interval in ns and gates. -/
structure GateList where
  base : Time
  cycle : Nat
  entries : List (Nat × Nat)
  deriving DecidableEq, Repr

/-- A port's scheduler: active lists by class, the instant its MAC is idle, and its gate lists. -/
structure EPort where
  active : List (List Nat) := [[], [], [], [], [], [], [], []]
  busyUntil : Time := 0
  oper : Option GateList := none
  pend : Option (GateList × Time × Bool) := none
  lateBase : Bool := false
  /-- Longest windows in ns by class, `none` unlimited (R551). -/
  longest : List (Option Nat) := [none, none, none, none, none, none, none, none]
  entry : Nat := 0
  gates : Nat := 255
  nextSample : Time := 0
  deriving DecidableEq, Repr

/-- The egress schedulers. -/
structure Egress where
  queues : Tab Queue := []
  ports : Tab EPort := []
  /-- After an alarm SRTP leg queues accept nothing, and control queues no SRTCP, until Flint releases them (R559, R597). -/
  stopped : Bool := false
  deriving DecidableEq, Repr

end Sys2Proof.Machine
end

