-- ==== Sys2Proof/Machine/StateLegs.lean ====
section
/-! DEFINITION. State of the legs (chapter 4): legs, their streams, forwarding instances, and the host-bound queue. -/

namespace Sys2Proof.Machine
open Sys2Proof

/-- Leg states (Table 4-1). -/
inductive LegState where
  | idle | keyed | active | held | draining | closed
  deriving DecidableEq, Repr

/-- Verdicts of the bandwidth estimate (R176). -/
inductive Verdict where
  | steady | increase | decreaseLoss | decreaseDelay
  deriving DecidableEq, Repr

/-- The leg descriptor (Table 4-3). -/
structure LegDesc where
  family : Nat := 4
  port : Nat := 0
  vlan : Nat := 0
  pcp : Nat := 0
  localUdp : Nat := 0
  remoteUdp : Nat := 0
  localIp : List Byte := []
  remoteIp : List Byte := []
  nextHop : Nat := 0
  dscp : Nat := 0
  profile : Nat := 0
  keyIn : Nat := 0
  keyOut : Nat := 0
  qMedia : Nat := 0
  qRepair : Nat := 0
  consent : Bool := false
  srtp : Bool := false
  fb8888 : Bool := false
  rsize : Bool := false
  extMid : Nat := 0
  extRid : Nat := 0
  extRrid : Nat := 0
  extDd : Nat := 0
  ufragLocal : List Byte := []
  ufragRemote : List Byte := []
  pwdLocal : List Byte := []
  pwdRemote : List Byte := []
  deriving DecidableEq, Repr

/-- An RTP packet in cleartext: its header, what Table 4-7 reads of its layers, and its arrival stamp. -/
structure Pkt where
  ssrc : Nat
  pt : Nat
  seq : Nat
  ts : Nat
  marker : Bool
  pad : Bool
  csrc : List Byte
  /-- The header extension, with its profile and length word; empty when there is none. -/
  ext : List Byte
  payload : List Byte
  spatial : Nat
  temporal : Nat
  /-- First of its picture to arrive; decoding of its picture can start with it; the picture's first packet; of an independent picture; of a
  spatial and of a temporal up-switch point. -/
  lead : Bool := false
  join : Bool := false
  first : Bool
  indep : Bool
  upS : Bool
  upT : Bool
  stamp : Time
  /-- When the first packet of its picture arrived. -/
  pic : Time := 0
  deriving DecidableEq, Repr

/-- A gap in the sequence numbers of a stream with NACK (R174). -/
structure Gap where
  seq : Nat
  since : Time
  tries : Nat
  last : Time
  deriving DecidableEq, Repr

/-- An open need for an independent picture (R186). -/
structure Need where
  since : Option Time := none
  /-- The need stands on a receiver's request or a switch, and on a TAINTED mark. -/
  request : Bool := false
  tainted : Bool := false
  lastSent : Option Time := none
  firSeq : Nat := 0
  deriving DecidableEq, Repr

/-- Bits measured on one layer of a source at an instant. -/
structure RateSample where
  t : Time
  spatial : Nat
  temporal : Nat
  bits : Nat
  deriving DecidableEq, Repr

/-- A stream of a leg (Table 4-4). -/
structure Strm where
  kind : Nat
  ssrc : Nat
  bound : Bool
  pt : Nat
  codec : Nat
  primary : Nat
  nack : Bool
  decode : Bool
  mid : List Byte
  rid : List Byte
  enc : Nat
  /-- Picture buffer (video): packets held, in order of arrival (R171). -/
  buf : List Pkt := []
  /-- RTP timestamp of the last picture released, and packets of pictures released (R172, R173). -/
  released : Option Nat := none
  highest : Option Nat := none
  gaps : List Gap := []
  /-- RTP timestamp of the picture at the highest number, and its temporal_id as prefix NAL units gave it (Table 4-7). -/
  lastTs : Option Nat := none
  picTid : Nat := 0
  /-- No coded slice of that picture has arrived. -/
  bare : Bool := false
  /-- When the first packet of that picture arrived. -/
  picStamp : Time := 0
  /-- Recent packets: of a protected stream, those that repair may need; of a FEC stream, its repair packets (R169). -/
  recent : List Pkt := []
  /-- The number after the last packet of the picture last released (R172). -/
  nextSeq : Option Nat := none
  received : Nat := 0
  lost : Nat := 0
  need : Need := {}
  rates : List RateSample := []
  /-- NTP and RTP timestamps of the last SR received, and its arrival. -/
  sr : Option (Nat × Nat × Time) := none
  /-- Arrivals to report in RFC 8888 feedback: sequence and stamp. -/
  fb : List (Nat × Time) := []
  /-- Egress numbering and timestamp for KIND 4. -/
  outSeq : Nat := 0
  outTs : Nat := 0
  /-- First number received, for RR; RR state at the last report: extended highest and received (RFC 3550). -/
  base : Nat := 0
  rrPrior : Nat × Nat := (0, 0)
  jitter : Nat := 0
  transit : Option Int := none
  sentPkts : Nat := 0
  sentOctets : Nat := 0
  deriving DecidableEq, Repr

/-- A packet in a receiver's history (R189): the instance, its sequence number, the packet as sent in clear, when, and the shared packet
of the pool it refers to. -/
structure Hist where
  inst : Nat
  seq : Nat
  bytes : List Byte
  at_ : Time
  ref : PoolRef
  deriving DecidableEq, Repr

/-- A number that an instance has sent (R188): the source's stream and number it stands for, how often it was sent again, that its NACK was
relayed, and that the source's packet is awaited. -/
structure Sent where
  num : Nat
  idx : Nat
  src : Nat
  resent : Nat := 0
  relayed : Bool := false
  awaited : Bool := false
  deriving DecidableEq, Repr

/-- A leg. -/
structure Leg where
  state : LegState := .idle
  /-- Cause of HELD: CONSENT_EXPIRED or COMMAND. -/
  expired : Bool := false
  realm : Nat := 0
  conf : Nat := 0
  desc : LegDesc := {}
  streams : Tab (Option Strm) := []
  est : Int := 0
  verdict : Verdict := .steady
  holdUntil : Time := 0
  lastReport : Time := 0
  baseHist : List (Time × Int) := []
  rAck : Int := 0
  loss : Int := 0
  q : Int := 0
  rtt : Time := 0
  /-- Feedback since the last boundary: reports, packets lost and received, delays, the last RR's fraction lost. -/
  fbReports : Nat := 0
  fbLost : Nat := 0
  fbRecv : Nat := 0
  fbDelays : List Int := []
  rrFrac : Option Nat := none
  /-- Bits acknowledged, sent, and sent as audio, with their instants, over RATE_WINDOW. -/
  acked : List (Time × Nat) := []
  sent : List (Time × Nat) := []
  audio : List (Time × Nat) := []
  /-- Packets sent and awaiting feedback: SSRC, sequence, egress stamp, bits. -/
  flight : List (Nat × Nat × Time × Nat) := []
  budget : Int := 0
  consentFrom : Time := 0
  nextConsent : Time := 0
  /-- Transaction ids of consent requests that an answer is still taken to, and when they were sent (RFC 7675). -/
  stunIds : List (Nat × Time) := []
  drainAt : Time := 0
  discarded : Nat := 0
  pktsRx : Nat := 0
  pktsTx : Nat := 0
  bytesRx : Nat := 0
  bytesTx : Nat := 0
  unknownSec : Option Nat := none
  /-- RTCP packets of types that Table 4-6 does not list (R169). -/
  rtcpIgnored : Nat := 0
  nextRtcp : Time := 0
  nextFb : Time := 0
  history : List Hist := []
  /-- SRs sent, for RTT from LSR: SSRC, the middle 32 bits of their NTP time, and when. -/
  srSent : List (Nat × Nat × Time) := []
  /-- Pacer rates decided and not yet given to the queues (R180). -/
  pace : Option (Nat × Nat) := none
  deriving DecidableEq, Repr

/-- A forwarding instance (Table 4-5, R181, R184). Points are a spatial layer or encoding, and a temporal layer. -/
structure Inst where
  receiver : Nat
  kind : Nat
  sub : Nat
  src : Nat
  weight : Nat
  prio : Nat
  maxS : Nat
  maxT : Nat
  outSsrc : Nat
  outPt : Nat
  rtxPt : Nat
  /-- The point forwarded, the point decided and when it takes effect (R183). -/
  cur : Option (Nat × Nat) := none
  /-- The point that the policy counts as forwarded from a layout output (R192). -/
  counted : Option (Nat × Nat) := none
  /-- The simulcast encoding last sent (R184). -/
  enc : Option Nat := none
  tgt : Option (Nat × Nat) := none
  decided : Option (Option (Nat × Nat)) := none
  lastDown : Option Time := none
  grant : Int := 0
  outSeq : Nat := 0
  rtxSeq : Nat := 0
  tsOff : Int := 0
  lastTs : Option (Nat × Time) := none
  sentPkts : Nat := 0
  sentOctets : Nat := 0
  /-- What each number last sent stood for, oldest first (R188). -/
  sentMap : List Sent := []
  /-- Packets sent since the last egress FEC packet (R169). -/
  fecBuf : List (List Byte) := []
  deriving DecidableEq, Repr

/-- The legs. -/
structure Legs where
  legs : Tab Leg := []
  insts : Tab (Option Inst) := []
  /-- The host-bound packet queue, oldest first, at most 65,568 packets (Table 1-9). -/
  hostQ : List (List Byte) := []
  /-- Packets dropped at the full queue or by DROP_PACKET (Table 1-9, R42). -/
  hostDrops : Nat := 0
  /-- Copies waiting for the Packet Engine as the last frame received tells it (R195). -/
  waiting : Nat := 0
  /-- Registers of the policy profiles as the last epoch boundary found them; a register not listed is at its reset value (R197). -/
  profs : Tab Word := []
  /-- The realm that owns each conference (R858). -/
  confOwner : Tab (Option Nat) := []
  /-- Layers of layout outputs stopped under R191, and since when no instance chose them: layout, output, layer. -/
  suspended : List (Nat × Nat × Nat) := []
  /-- Layers resumed whose refresh is not yet reported complete (R191). -/
  resuming : List (Nat × Nat × Nat) := []
  /-- Layers that the decisions of the last boundary resume at the next (R183, R191). -/
  toResume : List (Nat × Nat × Nat) := []
  idleSince : List ((Nat × Nat × Nat) × Time) := []
  /-- Rates of suspended layers as last measured: the output, when its layer stopped, and its samples of the 2 s before (R181). -/
  frozen : List ((Nat × Nat) × Time × List RateSample) := []
  /-- Rates last measured per layout output and layer: bits at instants. -/
  outRates : List ((Nat × Nat) × RateSample) := []
  deriving DecidableEq, Repr

end Sys2Proof.Machine
end

