-- ==== Sys2Proof/Machine/StateAudio.lean ====
section
/-! DEFINITION. State of conference audio (chapter 8): leg audio, playout, voice activity, conferences, the router, network streams
and TDM ports. A block of samples is a list of 32 Q60 values. -/

namespace Sys2Proof.Machine
open Sys2Proof

/-- -144 dB in 2^-16 dB (R374). -/
abbrev dbFloor : Int := -9437184

/-- LEG_AUDIO_SET of a leg (Table 8-4); the values are those of R385. -/
structure LegAud where
  mix : Nat := 0
  force : Bool := false
  exclude : Bool := false
  muteIn : Bool := false
  dtx : Bool := false
  fec : Nat := 0
  inGain : Int := 0
  outGain : Int := 0
  opusBps : Nat := 32000
  ptime : Nat := 20
  channels : Nat := 1
  bandwidth : Nat := 4
  deriving DecidableEq, Repr

/-- Voice activity of a mix input (R374), what the level table reports of the epoch (R412), and the gain g of the leg's own mix (R380).
Levels start at -144 dB. -/
structure Vad where
  nf : Int := dbFloor
  hang : Nat := 0
  score : Int := dbFloor
  run : Nat := 0
  quiet : Nat := 0
  active : Bool := false
  lvls : List Int := []
  peak : Nat := 0
  plc : Bool := false
  g : Int := 0
  deriving DecidableEq, Repr

/-- Playout of an ingress audio stream (R368 to R373), keyed by 16 leg + index. -/
structure Playout where
  started : Bool := false
  cur : Int := 0
  /-- Arrivals and transits of the window (R368). -/
  window : List (Time × Int) := []
  lastAt : Time := 0
  /-- The last RTP timestamp, unwrapped, and the packets held, each with its own. -/
  lastTs : Int := 0
  held : List (Int × Pkt) := []
  /-- A pending step: whether it raises cur, and since when (R370). -/
  step : Option (Bool × Time) := none
  /-- It has been pending for JB_FORCE and goes with the next block. -/
  forced : Bool := false
  /-- Decoded samples on the 96 kHz grid, left and right, and the stream time of the first (R371). -/
  pos : Int := 0
  pcm : List (Int × Int) := []
  /-- States of the decoder and the converter, and the duration of the last packet in codec samples. -/
  dec : Nat := 0
  conv : Nat := 0
  dur : Nat := 0
  /-- Samples of consecutive concealment; faded to 0 for PLC_MAX (R373). -/
  concealed : Nat := 0
  /-- Samples made ahead of those played. -/
  ahead : Nat := 0
  muted : Bool := false
  fade : Bool := false
  deriving DecidableEq, Repr

/-- A conference's own audio (R376 to R380, R386): slots hold identities. -/
structure Conf where
  talkers : Nat := 8
  binPos : List Nat := [0, 1, 2, 3, 4, 5, 6, 7]
  slots : List (Option Nat) := [none, none, none, none, none, none, none, none]
  /-- The set decided at the last epoch boundary, and the members entering and leaving in the next block (R377). -/
  decided : Option (List (Option Nat)) := none
  entering : List Nat := []
  leaving : List (Nat × Nat) := []
  deriving DecidableEq, Repr

/-- A contribution sounding in a router slot (R392): its source, gain, flags and weight at the start of the fade. -/
structure Contr where
  source : Nat
  gain : Int
  mute : Bool
  invert : Bool
  weight : Int
  deriving DecidableEq, Repr

/-- A router slot: the target, the earlier contributions, and the fade in samples done and in all. -/
structure RSlot where
  target : Option Contr := none
  olds : List Contr := []
  n : Nat := 0
  len : Nat := 0
  curve : Nat := 0
  deriving DecidableEq, Repr

/-- A network stream descriptor (Table 8-9). -/
structure NetDesc where
  port : Nat := 0
  port2 : Nat := 255
  vlan : Nat := 0
  pcp : Nat := 0
  dstUdp : Nat := 0
  srcUdp : Nat := 0
  dstIp : List Byte := []
  srcIp : List Byte := []
  nextHop : Nat := 0
  dscp : Nat := 0
  pt : Nat := 0
  l24 : Bool := false
  r96 : Bool := false
  channels : Nat := 1
  async : Bool := false
  v6 : Bool := false
  ptime : Nat := 6
  queue : Nat := 0
  ssrc : Nat := 0
  tsOff : Nat := 0
  dstIp2 : List Byte := []
  srcIp2 : List Byte := []
  dstUdp2 : Nat := 0
  link : Nat := 0
  deriving DecidableEq, Repr

/-- A receive stream: packets held by unwrapped timestamp with their samples in frames, sequence numbers taken, and playout. -/
structure NetRx where
  opened : Bool := false
  desc : NetDesc := {}
  held : List (Int × List Int) := []
  seqs : List Nat := []
  started : Bool := false
  missing : Nat := 0
  conv : List Nat := []
  /-- Arrivals of the epoch, the ratio in ppb, and the muting of R401; the play position in 2^-32 samples. -/
  arrivals : List (Time × Int) := []
  ratio : Int := 0
  muted : Bool := false
  pos : Option Int := none
  deriving DecidableEq, Repr

/-- A transmit stream: frames produced since `start` (in stream samples), and the next sequence number. -/
structure NetTx where
  opened : Bool := false
  desc : NetDesc := {}
  start : Nat := 0
  frames : List Int := []
  seq : Nat := 0
  conv : List Nat := []
  deriving DecidableEq, Repr

/-- A TDM port (R403 to R407): frames received by grid sample. -/
structure TdmPort where
  lock : Bool := false
  good : Nat := 0
  wrong : Nat := 0
  /-- The grid sample of the next frame; none until mapped at lock. -/
  next : Option Nat := none
  held : List (Nat × List Int) := []
  last : List Int := []
  arrivals : List (Time × Int) := []
  ratio : Int := 0
  muted : Bool := false
  pos : Option Int := none
  convIn : List Nat := []
  convOut : List Nat := []
  deriving DecidableEq, Repr

/-- Audio of a leg's egress (R365, R367): samples left and right from grid sample `start`, the states of converter and encoder. -/
structure LegOut where
  start : Nat := 0
  pcm : List (Int × Int) := []
  conv : Nat := 0
  enc : Nat := 0
  /-- The frame before was sent: the next is not the first of a talk spurt. -/
  spurt : Bool := false
  /-- The settings of the frame in progress: codec fields change with the next frame (Table 8-3). -/
  set : Option LegAud := none
  deriving DecidableEq, Repr

/-- Conference audio, the router and its edges. -/
structure Audio where
  legs : Tab LegAud := []
  /-- Voice activity of leg l at l, and of CONF_IN c × 4 + k at 4096 + 4 c + k. -/
  vads : Tab Vad := []
  play : Tab Playout := []
  confs : Tab Conf := []
  outs : Tab LegOut := []
  /-- HRTF store: taps, and the positions loaded with their left and right taps (R387). -/
  hrtfTaps : Nat := 0
  hrtf : List (Nat × List Int × List Int) := []
  /-- Past contributions of member m of conference c at 8192 c + m, newest first (R382). -/
  binHist : Tab (List Int) := []
  /-- Router slots at 64 sink + slot, and the last block of each source (R389). -/
  routes : Tab RSlot := []
  srcs : Tab (List Int) := []
  rx : Tab NetRx := []
  tx : Tab NetTx := []
  tdm : Tab TdmPort := []
  /-- TDM output blocks of the last two evaluations: port and codes, none where a slot is at high impedance (R409, Table 8-16). -/
  tdmPipe : List (List (Nat × List (Option Int))) := [[], []]
  /-- Block boundary at which audio inputs began, at READY or after a step (R130). -/
  resume : Nat := 0
  deriving DecidableEq, Repr

end Sys2Proof.Machine
end

