-- ==== Sys2Proof/Machine/StateCtl.lean ====
section
/-! DEFINITION. State of the control model (chapter 2): page headers, the register file, rings, accepted commands,
commit groups, and what has left the block. -/

namespace Sys2Proof.Machine
open Sys2Proof

/-- Common page state codes (R58, Table 2-9). -/
inductive PState where
  | off | init | ready | active | draining | isolated | testing | faulted
  deriving DecidableEq, Repr

/-- Register-access error codes (Table 2-10). -/
inductive ErrCode where
  | reservedSet | badAccess | readOnly | badState | locked | splitLost | noShadow | rangeClamped | halfUnpaired
  deriving DecidableEq, Repr

/-- Completion statuses (R90, Table 2-18). -/
inductive Status where
  | ok | badOpcode | badArg | noResource | stateConflict | realmDenied | late | refusedPolicy | faulted | aborted
  | timeout | partnerUnavailable
  deriving DecidableEq, Repr

/-- The header of a page, its read latch and its write buffer (R57, R65, R66). -/
structure PageHdr where
  /-- PAGE_STATE.STATE (R58). -/
  state : PState := .off
  /-- PAGE_STATE.COMMIT_GEN, 32 bits (R72). -/
  commitGen : Nat := 0
  /-- PAGE_CTRL.ENABLE (R59). -/
  enable : Bool := false
  /-- PAGE_CTRL.ISOLATE (R60). -/
  isolate : Bool := false
  /-- PAGE_CTRL.SNAP_HELD (R67). -/
  snapHeld : Bool := false
  /-- A latch that a SNAPSHOT write asked for, and the first tick at which it is due (R67). -/
  snapDue : Option Time := none
  /-- PAGE_SNAP_TIME (R67). -/
  snapTime : Word := 0
  /-- PAGE_EVENT.EVENT (R62). -/
  event : BitVec 48 := 0
  /-- PAGE_EVENT_MASK.MASK, all 1 at reset (Table 2-8). -/
  mask : BitVec 48 := BitVec.allOnes 48
  /-- PAGE_EVENT_MASK.VECTOR, 0 at reset (R94). -/
  vector : Nat := 0
  /-- PAGE_COMMIT.GROUP (R71). -/
  group : Nat := 0
  /-- PAGE_COMMIT.BOUND (R71). -/
  bound : Bool := false
  /-- PAGE_COMMIT.ARM (R73). -/
  arm : Bool := false
  /-- PAGE_COMMIT.LOCKED (R73). -/
  locked : Bool := false
  /-- PAGE_ERR.COUNT, saturating at 2^32 - 1. -/
  errCount : Nat := 0
  /-- PAGE_ERR.LAST (Table 2-10). -/
  errLast : Nat := 0
  /-- The read latch: the register it belongs to and the high half (R65). -/
  latch : Option (Nat × BitVec 32) := none
  /-- The write buffer: the register it belongs to and the low half (R66). -/
  wbuf : Option (Nat × BitVec 32) := none
  deriving DecidableEq, Repr

/-- A ring pair (Tables 2-13 and 2-14). -/
structure Ring where
  /-- CMD_BASE (R80); the spec gives no reset value. -/
  cmdBase : Nat := 0
  /-- CMD_TAIL, 16 bits. -/
  cmdTail : Nat := 0
  /-- CMD_HEAD, 16 bits. -/
  cmdHead : Nat := 0
  /-- CPL_BASE; the spec gives no reset value. -/
  cplBase : Nat := 0
  /-- CPL_HEAD, 16 bits. -/
  cplHead : Nat := 0
  /-- CPL_TAIL, 16 bits. -/
  cplTail : Nat := 0
  /-- RING_CTRL.ENABLE. -/
  enable : Bool := false
  /-- RING_CTRL.ERROR (R82). -/
  error : Bool := false
  /-- RING_CTRL.SIZE, 0 to 12 (R81). -/
  size : Nat := 0
  /-- RING_CTRL.VECTOR (R94). -/
  vector : Nat := 0
  /-- RING_CTRL.COALESCE_N, 1 at reset. -/
  coalN : Nat := 1
  /-- RING_CTRL.COALESCE_US. -/
  coalUs : Nat := 0
  /-- RING_STAT: commands accepted, 32 bits. -/
  accepted : Nat := 0
  /-- RING_STAT: completions posted, 32 bits. -/
  posted : Nat := 0
  /-- PHASE of the pass the completion ring is in (R84). -/
  phase : Bool := true
  /-- Completions posted since the last message, and the instant of the first (R95). -/
  unsig : Nat := 0
  unsigAt : Time := 0
  /-- Completion entries reserved for commands not completed (R83). -/
  reserved : Nat := 0
  /-- The position the next command taken will have (R36). -/
  nextPos : Nat := 0
  /-- Times the ring was disabled: a command of an earlier pass is abandoned (R91). -/
  gen : Nat := 0
  deriving DecidableEq, Repr

/-- A command taken from a ring: what names its completion. -/
structure Token where
  cmd : HostCmd
  opcode : Nat
  pos : Nat
  gen : Nat
  /-- The row's own completion (a command queued directly, not through a ring). -/
  direct : Bool
  deriving DecidableEq, Repr

/-- An accepted command waiting for its boundary (R85), with the bytes it captured at processing time. -/
structure Accepted where
  tok : Token
  due : Time
  late : Bool
  data : List Byte
  deriving DecidableEq, Repr

/-- A command whose effect has begun and whose completion waits for an event on an object. -/
structure Wait where
  tok : Token
  obj : Nat
  aux : Nat
  since : Time
  /-- The effect came after the command's stated time: OK is posted as LATE (R75, R85). -/
  late : Bool := false
  deriving DecidableEq, Repr

/-- A pending COMMIT_GROUP (R73 to R78). -/
structure Group where
  tok : Token
  /-- The stated time or the earliest applicable time, whichever R75 takes. -/
  at_ : Time
  late : Bool
  /-- Pages included at acceptance and not yet live. -/
  pages : List Nat
  applied : Nat
  /-- The boundary at which the last page went live. -/
  last : Time
  deriving DecidableEq, Repr

/-- What leaves the block, oldest first. The list is the model's own. -/
inductive Output where
  | readData (v : Word)
  | readBytes (b : List Byte)
  | msix (vector : Nat)
  | completion (tag : BitVec 32) (st : Status) (detail : Nat) (result : Word)
  /-- A frame that a port sends: its bytes to the last payload byte, its egress stamp, its columns of code groups by lane, and the idle bytes that
  follow before the next may start. -/
  | frame (port : Nat) (bytes : List Byte) (stamp : Time) (columns : List (List Sym)) (gap : Nat)
  | ppsOut (widthUs : Nat)
  | ppsLow (t : Time)
  | wclkOut (t : Time)
  | wclkLow (t : Time)
  | heartbeat (widthUs : Nat)
  | link (kind : Nat) (bytes : List Byte) (columns : List (List Sym))
  /-- A block of a TDM port: its codes by frame and slot, none at high impedance. -/
  | tdm (port : Nat) (codes : List (Option Int))
  | jtag (bits : Nat) (v : Nat)
  | scan (drive : Bool) (bits : List Bool)
  | alarmOut (b : Bool)
  /-- FROZEN. While it is high the other balls are held as R799 lists: transmitters idle, PCI Express down, TDM at high impedance, PPS_OUT and
  WCLK_OUT low, PAIR_HB_OUT and QSPI_CS_N high. -/
  | frozen (b : Bool)
  | errBit (lane : Nat)
  /-- Raw bits that an ISOLATED lane sends (R627, R628). -/
  | serial (lane : Nat) (bits : List Bool)
  /-- A port begins or ends to send remote-fault ordered sets (R637). -/
  | faultSets (port : Nat) (on : Bool)
  deriving DecidableEq, Repr

/-- A counted, coalescing Error Collector entry (R785, Table 17-1). -/
structure LogEntry where
  stamp : Time
  source : Nat
  code : Nat
  count : Nat
  d2 : Word
  d3 : Word
  /-- Order of reporting, for R151. -/
  order : Nat
  deriving DecidableEq, Repr

/-- An open LOST entry (R789, Table 17-2). -/
structure LostLog where
  stamp : Time
  count : Nat
  entries : Nat
  sources : List Nat
  last : Time
  deriving DecidableEq, Repr

/-- A trace entry waiting for its 20 µs (R794, Table 17-4). -/
structure TraceEntry where
  stamp : Time
  source : Nat
  cls : Nat
  event : Nat
  w2 : Word
  w3 : Word
  order : Nat
  deriving DecidableEq, Repr

/-- The control model, the Error Collector and the Observation unit. -/
structure Ctl where
  /-- Page headers, BAR0 pages 0 to 137, REALM page n at 138 + n (R56, R57). -/
  pages : Tab PageHdr := []
  /-- Live values of the stored registers, key 4096 page + offset; an unlisted one holds its reset value. -/
  regs : Tab Word := []
  /-- Shadow values of the RWS registers (R70); an unlisted one holds the register's reset value. -/
  shadow : Tab Word := []
  /-- Counters, 64 bits (R791). -/
  counters : Tab Word := []
  /-- Counters as the last snapshot latched them (R68). -/
  snaps : Tab Word := []
  /-- Ring pair r of realm n at 4 n + r (Table 2-13). -/
  rings : Tab Ring := []
  /-- Accepted commands, in order of acceptance (R85). -/
  accepted : List Accepted := []
  /-- SPK_LAYOUT_LOADs whose computation runs, each with the first boundary it may take (R428). -/
  computing : List Accepted := []
  /-- Commands in effect whose completion waits. -/
  waits : List Wait := []
  /-- Pending commit groups (R77). -/
  groups : List (Nat × Group) := []
  /-- MSI-X enabled (R49, R93). -/
  msixOn : Bool := true
  /-- The MSI-X table (Table 2-1): the address of vector v at key 2 v, its data and vector control at 2 v + 1; the spec gives no reset value. -/
  msixTab : Tab Word := []
  /-- The MSI-X pending-bit array: masked vectors with a message that waits. -/
  msixPend : List Nat := []
  /-- The endpoint stands in D3hot (R48, R49). -/
  d3hot : Bool := false
  /-- PCIE.LINK: speed, width, up (R862). -/
  linkSpeed : Nat := 0
  linkWidth : Nat := 0
  linkUp : Bool := false
  /-- PCIE.WIN_BASE.REJECTED (R55). -/
  winRejected : Bool := false
  /-- The model's own log of what left the block. -/
  out : List Output := []
  /-- The model's own counter behind free values. -/
  free : Nat := 0
  deriving DecidableEq, Repr

/-- The freeze record, kept in the always-on domain (R801). -/
structure FreezeRec where
  valid : Bool := false
  cause : Nat := 0
  trigger : Nat := 0
  source : Nat := 0
  code : Nat := 0
  time : Word := 0
  deriving DecidableEq, Repr

/-- The Error Collector, the trace and freeze outside the always-on record (chapter 17). -/
structure Obs where
  /-- Pending entries, at most 256 (R785). -/
  pending : List LogEntry := []
  lost : Option LostLog := none
  /-- The log ring: entries written and not consumed, oldest first, at most 4,096 (R788). -/
  ring : List LogEntry := []
  /-- SRC_REPORTS and SRC_LOST of each source, 48 bits saturating (R784). -/
  srcReports : Tab Nat := []
  srcLost : Tab Nat := []
  /-- Order of the next report. -/
  order : Nat := 0
  /-- Trace entries held for 20 µs or waiting in the trace stream (R794, R795). -/
  trace : List TraceEntry := []
  /-- Entries dropped since the last LOST trace entry, and the stamp of the first (R795). -/
  traceDropped : Nat := 0
  traceFirst : Time := 0
  /-- TRACE_PROD, and whether the ring was overwritten since ENABLE (R794, Table 17-17). -/
  traceProd : Nat := 0
  traceWrapped : Bool := false
  /-- The freeze that stopped the unit, until it stands in the always-on record (R801). -/
  frz : Option FreezeRec := none
  /-- The unit is frozen (R798). -/
  frozen : Bool := false
  /-- RD_ADDR (R806). -/
  rdAddr : Word := 0
  /-- The DRAM burst last fetched by RD_DATA (R806). -/
  rdBurst : Option Nat := none
  /-- Lane settings saved by BIST_RUN (R811): lane, LANE_CFG, PRBS_CFG. -/
  bistSaved : List (Nat × Word × Word) := []
  /-- BIST_RUN in progress: unit, tests (R809). -/
  bist : List (Nat × Nat) := []
  /-- Tests run and failed at the last boot, first failing port and channel (R815, DEVICE.SELFTEST). -/
  selfRun : Nat := 0
  selfFail : Nat := 0
  failPort : Nat := 255
  failChan : Nat := 255
  deriving DecidableEq, Repr

end Sys2Proof.Machine
end

