-- ==== Sys2Proof/Machine/StateFlint.lean ====
section
/-! DEFINITION. State of Flint (chapter 12): key slots, SSRC contexts, the key-slot windows and the pipelines. -/

namespace Sys2Proof.Machine
open Sys2Proof

/-- A key-slot half (R566): transform, direction, master key and salt, AT_INDEX with ACT_INDEX while pending, and whether
KEY_EXPIRING was raised for the key (R592). -/
structure KeyHalf where
  transform : Nat
  egress : Bool
  key : List Byte
  salt : List Byte
  atIndex : Option Nat
  warned : Bool
  deriving DecidableEq, Repr

/-- A key slot (Table 12-2): its current half and at most one other, pending or retiring. -/
structure KeySlot where
  current : Option KeyHalf := none
  pending : Option KeyHalf := none
  old : Option KeyHalf := none
  /-- Short media time of the last change of current half (Table 12-3). -/
  changed : Word := 0
  /-- Egress SRTCP has switched to the pending half (R580). -/
  rtcpNew : Bool := false
  deriving DecidableEq, Repr

/-- An SSRC context (R567, R571, R589): the highest SRTP index and the window of authenticated ones below it (bit i for the
highest less i), the same for SRTCP, the switch index, the highest index under the new half, whether an egress context has
switched, and whether its indexes are used up. -/
structure SrtpCtx where
  ssrc : Nat
  high : Option Nat := none
  window : Nat := 0
  rtcpHigh : Option Nat := none
  rtcpWindow : Nat := 0
  switchAt : Option Nat := none
  newHigh : Option Nat := none
  switched : Bool := false
  exhausted : Bool := false
  deriving DecidableEq, Repr

/-- What a key command does when it takes effect. -/
inductive KeyAct where
  | none | write (h : KeyHalf) | cancel
  deriving DecidableEq, Repr

/-- A REALM page's key-slot window (Table 12-4): the staging buffer, and the command that holds BUSY. -/
structure KeyWin where
  key : List Byte := List.replicate 32 0
  salt : List Byte := List.replicate 16 0
  busy : Bool := false
  result : Nat := 0
  slot : Nat := 0
  act : KeyAct := .none
  since : Time := 0
  deriving DecidableEq, Repr

/-- Flint. -/
structure Flint where
  /-- Key SRAM, slots 0 to 16,383, in the always-on domain: RESET_N leaves it (R569). -/
  keys : Tab KeySlot := []
  /-- The realm that owns each slot (R569). -/
  owner : Tab Nat := []
  ctxs : Tab (List SrtpCtx) := []
  wins : Tab KeyWin := []
  /-- Pipelines 0 to 15 (PIPE_STATE), and the epoch boundary at which a draining one's slots move (R601). -/
  pipes : List PState := List.replicate 16 .ready
  moveAt : Tab Nat := []
  deriving DecidableEq, Repr

end Sys2Proof.Machine
end

