-- ==== Sys2Proof/Machine/StateGarnet.lean ====
section
/-! DEFINITION. State of Garnet (chapter 10): clusters, cores, images, inserts and tasks. -/

namespace Sys2Proof.Machine
open Sys2Proof

/-- Core states (Table 10-18). -/
inductive CoreState where
  | idle | kernel | inserts | task
  deriving DecidableEq, Repr

/-- Insert states (Table 10-13). -/
inductive InsState where
  | idle | running | bypassed | faulted
  deriving DecidableEq, Repr

/-- Where a result of the pipeline lands. -/
inductive Dest where
  | d (i : Nat) | acc (i : Nat) | out (i : Nat) | p (i : Nat) | m (i : Nat) | l (i : Nat) | b (i : Nat) | spec (i : Nat) | flags | sat
  deriving DecidableEq, Repr

/-- A result that lands when `left` more bundles have issued (Table 10-9); `load` marks a load's (R488). -/
structure Land where
  left : Nat
  dest : Dest
  value : Int
  load : Bool
  deriving DecidableEq, Repr

/-- A Garnet core: the registers of Table 10-2, the pipeline, data memory and what it serves. -/
structure Core where
  /-- D0 to D15. -/
  dr : List Word := List.replicate 16 0
  /-- A0 to A3 as the accumulating M slot sees them, and as MVA, STA and ADDA see them (Table 10-9). -/
  acc : List Int := [0, 0, 0, 0]
  accOut : List Int := [0, 0, 0, 0]
  /-- P, M, L and B. -/
  pr : List Nat := List.replicate 8 0
  mr : List Nat := List.replicate 8 0
  lr : List Nat := List.replicate 8 0
  br : List Nat := List.replicate 8 0
  /-- LC, LS, LE. -/
  lc : List Nat := [0, 0, 0]
  ls : List Nat := [0, 0, 0]
  le : List Nat := [0, 0, 0]
  ra : Nat := 0
  /-- CALLs not yet returned from: the call of an insert ends with the RET at depth 0 (R503). -/
  depth : Nat := 0
  status : BitVec 16 := 0
  ipc : Nat := 0
  istatus : BitVec 16 := 0
  vecBase : Nat := 0
  imask : Nat := 0
  pc : Nat := 0
  /-- Results not landed. -/
  lands : List Land := []
  /-- A branch taken: bundles still to issue before its target, the target, and whether it is RET (1) or RTI (2). -/
  branch : Option (Nat × Nat × Nat) := none
  /-- STATUS comes back from ISTATUS with the bundle at IPC (R492). -/
  rti : Bool := false
  /-- Pending interrupt sources. -/
  irq : Nat := 0
  /-- Data memory, words 0x0000 to 0x0E43. -/
  mem : Tab Word := []
  image : Option Nat := none
  task : Bool := false
  domain : Nat := 0
  taskImage : Nat := 0
  /-- The bundle at which the task started (R514, R690). -/
  taskEntry : Nat := 0
  /-- The insert in service, the budget and the bundles issued. -/
  serving : Option Nat := none
  budget : Nat := 0
  issued : Nat := 0
  /-- The call has ended: 1 by RET, 2 by its budget, 3 by a trap. -/
  ended : Nat := 0
  lastSat : Bool := false
  trapCode : Nat := 0
  trapPc : Nat := 0
  /-- A stall: 1 at DISP_GET, 2 at XFER_GO; the register that waits. -/
  stall : Nat := 0
  stallReg : Nat := 0
  /-- The item in service, items submitted since the last DISP_DONE, and the transfer set up. -/
  item : Option Nat := none
  puts : Nat := 0
  xferDev : Nat := 0
  xferCtl : Nat := 0
  fault : Option Nat := none
  /-- The TIMER period in ticks, and when it expires. -/
  timer : Nat := 0
  timerAt : Time := 0
  /-- TASK_STOP waits for the block boundary. -/
  stopping : Bool := false
  /-- The metadata entry being built, and posts of the call. -/
  metaId : Nat := 0
  metaFields : List Word := List.replicate 8 0
  posts : Nat := 0
  deriving DecidableEq, Repr

/-- An image (Table 10-12). -/
structure Image where
  loaded : Bool := false
  entries : List Nat := []
  bundles : List Word := []
  deriving DecidableEq, Repr

/-- An insert (R499 to R509). -/
structure Insert where
  state : InsState := .idle
  image : Nat := 0
  cluster : Nat := 0
  core : Nat := 0
  entry : Nat := 0
  isMeta : Bool := false
  stateBase : Nat := 0
  stateWords : Nat := 0
  coefBase : Nat := 0
  coefWords : Nat := 0
  budget : Nat := 0
  param : List Word := List.replicate 64 0
  first : Bool := true
  overrun : Bool := false
  paramChanged : Bool := false
  coefChanged : Bool := false
  /-- The bypass fades in the next block (R507). -/
  fading : Bool := false
  satTold : Bool := false
  lastBundles : Nat := 0
  /-- What a call of the block left: samples of its eight channels; none before it has run. -/
  out : Option (List (List Int)) := none
  input : List (List Int) := []
  /-- Ready to be called in the present block. -/
  due : Bool := false
  deriving DecidableEq, Repr

/-- A move of a logical cluster: from the physical unit, to the unit, and the boundary from which it may switch (R520, R521). -/
structure GMove where
  src : Nat
  dst : Nat
  at_ : Time
  deriving DecidableEq, Repr

/-- A metadata post: the object, the selected fields and values (R512), and the block boundary at which it acts (R435). -/
structure MetaPost where
  due : Nat
  cluster : Nat
  core : Nat
  obj : Nat
  mask : Nat
  fields : List Word
  deriving DecidableEq, Repr

/-- Garnet. Physical units 0 to 32; logical cluster c is served by unit c until moved (R470, Table 10-19). -/
structure Garnet where
  /-- The unit that serves a logical cluster, unlisted: the same number; 99: none. -/
  map : List Nat := List.range 32
  /-- Cores of logical clusters at 16 c + k. -/
  cores : Tab Core := []
  /-- Coefficient memory of logical cluster c at 16384 c + word. -/
  coef : Tab Word := []
  images : Tab Image := []
  inserts : Tab Insert := []
  moves : Tab (Option GMove) := []
  /-- Kernel clusters that carry zeros, each with the block boundary that follows its error (R521). -/
  dead : List (Nat × Nat) := []
  posts : List MetaPost := []
  /-- Block whose inserts are being called. -/
  block : Nat := 0
  deriving DecidableEq, Repr

end Sys2Proof.Machine
end

