-- ==== Sys2Proof/Machine/StateGeode.lean ====
section
/-! DEFINITION. State of the Geodes (chapters 5 and 6): engines, encode streams and decode streams. -/

namespace Sys2Proof.Machine
open Sys2Proof

/-- A physical engine: the logical engine it serves, whether it is twinned (R297), and whether an ISOLATE waits for its job. -/
structure GeUnit where
  logical : Option Nat := none
  twinned : Bool := false
  deriving DecidableEq, Repr

/-- The job in service of a logical engine: decode or encode, its stream, and the spatial layer and CTU row it started at. -/
structure GeRun where
  dec : Bool
  stream : Nat
  layer : Nat
  row : Nat
  deriving DecidableEq, Repr

/-- A GEODE_SWAP waiting for the old unit's job boundary (R303). -/
structure GeSwap where
  logical : Nat
  target : Nat
  deriving DecidableEq, Repr

/-- Encode stream states (Table 5-5). -/
inductive EncState where
  | idle | opened | running | suspended | closing
  deriving DecidableEq, Repr

/-- An encode stream descriptor (Table 5-7). -/
structure EncDesc where
  source : Nat := 0
  output : Nat := 0
  layout : Nat := 0
  codec : Nat := 0
  profile : Nat := 0
  level : Nat := 0
  format : Nat := 0
  width : Nat := 0
  height : Nat := 0
  rateNum : Nat := 0
  rateDen : Nat := 0
  structure_ : Nat := 0
  enc : Nat := 0
  rcMode : Nat := 0
  cqQp : Nat := 0
  qpMin : Nat := 0
  qpMax : Nat := 0
  vbvMs : Nat := 0
  minK : List Nat := []
  maxK : List Nat := []
  search : Nat := 0
  refs : Nat := 0
  srH : Nat := 0
  srV : Nat := 0
  refreshN : Nat := 8
  engine : Nat := 0
  priority : Nat := 0
  flags : Nat := 0
  refBase : Nat := 0
  refSize : Nat := 0
  statusBase : Nat := 0
  bsBase : Nat := 0
  bsSize : Nat := 0
  consumer : Nat := 0
  deriving DecidableEq, Repr

/-- A status ring of 256 entries (R223, R275): the next slot, PHASE, the entries its consumer has not passed, and its offset as last
read. -/
structure StatusRing where
  idx : Nat := 0
  phase : Bool := true
  unread : Nat := 0
  cons : Nat := 0
  deriving DecidableEq, Repr

/-- A coded picture of a layer, kept as a reference (R209, R236): its number in the layer, temporal layer, the refresh cycle and its clean
columns (R251), the vectors of its CTUs in eighth-pel, and their reconstructed samples. -/
structure EncPic where
  num : Nat
  tid : Nat
  cycle : Nat
  clean : Nat
  vecs : List (Option (Int × Int))
  ctus : List (List Nat)
  deriving DecidableEq, Repr

/-- What rate control keeps of the last picture of a layer and temporal layer (R240 to R242); `cx` of its last 16, newest last. -/
structure RcHist where
  bits : Nat
  qp : Nat
  rowBits : List Nat
  cx : List Nat
  deriving DecidableEq, Repr

/-- Rate control of a spatial layer (R240, R244). -/
structure RcLayer where
  f : Int := 0
  carry : Int := 0
  hist : Tab (Option RcHist) := []
  /-- Refresh columns and rows coded by floor mode, to be coded again (R253), and the columns the cycle has coded. -/
  carried : List (Nat × Nat) := []
  covered : List Nat := []
  /-- Pictures coded in the layer, and the newest of each temporal layer, newest first. -/
  coded : Nat := 0
  pics : List EncPic := []
  deriving DecidableEq, Repr

/-- An encode job (R217, Table 5-8), and what its coding has decided. -/
structure EncJob where
  arrival : Nat
  time : Word
  /-- RTP time of the exact tick at 90 kHz (R29, R224). -/
  rtp : Nat
  tid : Nat
  /-- The stream's descriptor when the job was queued (R212, R216). -/
  desc : EncDesc
  /-- Its place in the temporal pattern (R236). -/
  place : Nat := 0
  /-- A refresh cycle starts on this picture; with a key picture (R248, R252). -/
  refresh : Bool
  key : Bool := false
  last : Bool
  user : Nat
  srcY : Nat
  srcC : Nat
  pitch : Nat
  format : Nat
  /-- The output slot a layout job reads (R350), and the renditions that Mica has written there: size, offset and hint map (R347, R352). -/
  slot : Option Nat := none
  rends : List ((Nat × Nat) × Nat × List Nat) := []
  /-- The rate targets in force at its tick (R240) and the layers it codes (R239). -/
  rates : List Nat := []
  layers : Nat := 1
  started : Bool := false
  /-- The spatial layer and CTU row at which the job was saved (R218). -/
  saved : Option (Nat × Nat) := none
  preempted : Bool := false
  fault : Option Nat := none
  /-- Results, once coded: bits and bytes of each layer, exhausted row, mean QP, static and intra CTUs, the FLAGS of Table 5-9, and
  TL0PICIDX. -/
  coded : Bool := false
  bits : List Nat := []
  bytes : List (List Byte) := []
  tl0 : Nat := 0
  /-- The temporal layer of the picture it references (R236). -/
  refTid : Option Nat := none
  exhausted : Nat := 0xFFFF
  qpAvg : Nat := 0
  staticC : Nat := 0
  intraC : Nat := 0
  flags : Nat := 0
  cycle : Nat := 0
  deriving DecidableEq, Repr

/-- An encode stream. -/
structure EncStream where
  state : EncState := .idle
  realm : Nat := 0
  desc : EncDesc := {}
  engine : Nat := 0
  jobs : List EncJob := []
  layers : List RcLayer := [{}, {}, {}]
  /-- Rate targets in force (R190, R215), and those that the last boundary decided for the next (R183). -/
  targets : List Nat := [0, 0, 0]
  nextTargets : Option (List Nat) := none
  /-- The level code written (R207), 0 where the codec has none. -/
  level : Nat := 0
  /-- Picture ticks or jobs so far, for the temporal pattern (R236), and coded pictures of temporal layer 0. -/
  count : Nat := 0
  tl0 : Nat := 0
  /-- Bits and number of intra CTUs coded at QP_MAX (R244). -/
  ibSum : Nat := 0
  ibCount : Nat := 0
  /-- The refresh cycle: number, picture of the cycle, running; a trigger waiting, and one by a new receiver of an AV1 or VP8 output,
  which begins with a key frame (R248 to R253). -/
  cycle : Nat := 0
  pos : Nat := 0
  sweeping : Bool := false
  trigger : Bool := false
  key : Bool := false
  /-- REFRESH_DONE to report to leg policy at the next epoch boundary (R254). -/
  doneReport : Bool := false
  /-- Status ring and bitstream ring. -/
  ring : StatusRing := {}
  bsOff : Nat := 0
  lastBits : Nat := 0
  /-- Jobs discarded by the close. -/
  discarded : Nat := 0
  /-- Under the 300 ms interval of receivers' requests (Legs). -/
  lastReq : Option Time := none
  outSeq : Nat := 0
  deriving DecidableEq, Repr

/-- Decode stream states (Table 6-2). -/
inductive DecState where
  | idle | opened | running | closing
  deriving DecidableEq, Repr

/-- A decode stream descriptor (Table 6-4). -/
structure DecDesc where
  source : Nat := 0
  index : Nat := 0
  leg : Nat := 0
  codec : Nat := 0
  format : Nat := 0
  maxS : Nat := 0
  maxT : Nat := 0
  maxW : Nat := 0
  maxH : Nat := 0
  rateNum : Nat := 0
  rateDen : Nat := 0
  dpb : Nat := 1
  conceal : Nat := 0
  taintArea : Nat := 0
  engine : Nat := 0
  priority : Nat := 0
  surfCount : Nat := 0
  surfBase : Nat := 0
  stride : Nat := 0
  statusBase : Nat := 0
  consumer : Nat := 0
  deriving DecidableEq, Repr

/-- A decode job: a released picture or a submitted unit (Table 6-5). -/
structure DecJob where
  arrival : Nat
  time : Word
  rtp : Nat
  incomplete : Bool
  data : Nat
  length : Nat
  last : Bool
  disc : Bool
  user : Nat
  /-- release(P) and due of R333. -/
  due : Time
  started : Bool := false
  saved : Option Nat := none
  preempted : Bool := false
  fault : Option Nat := none
  deriving DecidableEq, Repr

/-- A picture in the reference store: its number, surface and marks (R276, R287, R291). -/
structure DecPic where
  num : Nat
  surface : Nat
  time : Word
  w : Nat
  h : Nat
  tainted : Bool
  concealed : Bool
  area : Nat
  /-- Release plus the finishing bound of R278: Mica adds its margin (R333). -/
  due : Time
  deriving DecidableEq, Repr

/-- A decode stream. -/
structure DecStream where
  state : DecState := .idle
  realm : Nat := 0
  desc : DecDesc := {}
  engine : Nat := 0
  jobs : List DecJob := []
  /-- Held references, oldest first; the next picture number. -/
  dpb : List DecPic := []
  next : Nat := 0
  latest : Option DecPic := none
  /-- Outputs whose surfaces have not been reused, oldest first. -/
  outs : List DecPic := []
  lastClean : Option DecPic := none
  /-- The picture whose decode completed last, of any spatial layer (R290), and the number of the last picture of R288 (R292). -/
  lastDone : Option DecPic := none
  cleanFrom : Nat := 0
  /-- Surfaces whose status entry the consumer may not have passed: surface and entry number (R276). -/
  unread : List (Nat × Nat) := []
  tainted : Bool := false
  unsupported : Bool := false
  /-- A picture was received and not decoded since the last decoded one (R272, R283). -/
  lostPic : Bool := false
  /-- A move to TAINTED or back to report to leg policy, with the area of LATEST (R293). -/
  report : Option (Bool × Nat) := none
  ring : StatusRing := {}
  lastTime : Word := 0
  /-- Jobs discarded by the close. -/
  discarded : Nat := 0
  deriving DecidableEq, Repr

/-- The Geodes. -/
structure Geode where
  units : Tab GeUnit := []
  run : Tab (Option GeRun) := []
  swaps : List GeSwap := []
  enc : Tab EncStream := []
  dec : Tab DecStream := []
  /-- Arrivals of jobs, for the ready lists (R701). -/
  arrivals : Nat := 0
  deriving DecidableEq, Repr

end Sys2Proof.Machine
end

