-- ==== Sys2Proof/Machine/StateMica.lean ====
section
/-! DEFINITION. State of Mica (chapter 7): layouts, their banks, the composition in progress, and stills. -/

namespace Sys2Proof.Machine
open Sys2Proof

/-- Layout states (Table 7-1). -/
inductive LayState where
  | idle | opened | running
  deriving DecidableEq, Repr

/-- An output record of a layout (Table 7-3), and its ring: pictures written since LAYOUT_START, and slots written and not read back. -/
structure LayOut where
  mode : Nat := 0
  format : Nat := 0
  count : Nat := 2
  width : Nat := 0
  height : Nat := 0
  base : Nat := 0
  stride : Nat := 0
  seq : Nat := 0
  unread : List Nat := []
  /-- The rendition set of the previous picture (R354). -/
  sizes : List (Nat × Nat) := []
  deriving DecidableEq, Repr

/-- A layer entry (Table 7-4). -/
structure LayEntry where
  flags : Nat := 0
  kind : Nat := 0
  source : Nat := 0
  taint : Nat := 0
  filter : Nat := 0
  cspace : Nat := 0
  cropX : Nat := 0
  cropY : Nat := 0
  cropW : Nat := 0
  cropH : Nat := 0
  dstX : Int := 0
  dstY : Int := 0
  dstW : Nat := 0
  dstH : Nat := 0
  alpha : Nat := 0
  borderW : Nat := 0
  borderY : Nat := 0
  borderCb : Nat := 0
  borderCr : Nat := 0
  borderA : Nat := 0
  fillY : Nat := 0
  fillCb : Nat := 0
  fillCr : Nat := 0
  fillA : Nat := 0
  deriving DecidableEq, Repr

/-- What an entry shows: nothing but its placeholder, a picture of its stream by number, a still by its load, or its colour. -/
inductive Shown where
  | hidden
  | fill
  | pic (p : DecPic) (held : Bool)
  | still (gen : Nat)
  deriving DecidableEq, Repr

/-- A choice of R333 and R334 for one entry: made, or waiting for the decode of a picture released and not finished (R335). -/
inductive Choice where
  | made (s : Shown)
  | waits
  deriving DecidableEq, Repr

/-- A composition in progress: its tick, bank, the copy of entries, choices and stills it was given, the outputs it writes with their
slots, and whether their samples stand in memory. -/
structure Composing where
  tick : Time
  bank : Nat
  entries : List LayEntry
  choices : List Choice
  stills : List (Nat × List Byte)
  outs : List (Nat × Nat)
  written : Bool
  deriving DecidableEq, Repr

/-- A layout (Table 7-2). -/
structure Layout where
  state : LayState := .idle
  conf : Nat := 0
  pipe : Nat := 0
  flags : Nat := 0
  width : Nat := 0
  height : Nat := 0
  rateNum : Nat := 0
  rateDen : Nat := 0
  primaries : Nat := 0
  transfer : Nat := 0
  bg : Nat × Nat × Nat := (0, 0, 0)
  margin : Nat := 0
  budget : Nat := 0
  outs : List LayOut := []
  /-- Banks 0 and 1: entries by number; an unlisted one is all zero. -/
  bank0 : Tab LayEntry := []
  bank1 : Tab LayEntry := []
  bypass : List Nat := []
  comp : Option Composing := none
  /-- The previous picture: its entries and what each showed (R353, R354); empty before the first. -/
  prevEntries : List LayEntry := []
  prevShown : List Shown := []
  lastTick : Word := 0
  /-- The number of the next picture tick (Table 1-6). -/
  tickNo : Nat := 0
  deriving DecidableEq, Repr

/-- A still slot (Table 7-6). -/
structure Still where
  loaded : Bool := false
  format : Nat := 0
  width : Nat := 0
  height : Nat := 0
  pitch : Nat := 0
  gen : Nat := 0
  deriving DecidableEq, Repr

/-- Mica. -/
structure Mica where
  layouts : Tab Layout := []
  stills : Tab Still := []
  deriving DecidableEq, Repr

end Sys2Proof.Machine
end

