-- ==== Sys2Proof/Machine/StatePair.lean ====
section
/-! DEFINITION. State of the mirrored pair (chapter 14): roles, heartbeat, the Mirror Link, joining, manifests, the decision log, digests
and failover. -/

namespace Sys2Proof.Machine
open Sys2Proof

/-- Roles (Table 14-2). -/
inductive Role where
  | solo | undecided | primary | secondary
  deriving DecidableEq, Repr

/-- Partner states (Table 14-3). -/
inductive Partner where
  | none | absent | waiting | joining | ready | lost | conflict
  deriving DecidableEq, Repr

/-- A Mirror Link frame sent and not acknowledged, or ready to be sent: SEQ, TYPE, LAST, payload; for a COMMAND, its processing time and
the command whose partner answers it. -/
structure LinkFrame where
  seq : Nat
  type : Nat
  last : Bool
  bytes : List Byte
  proc : Option Time
  deriving DecidableEq, Repr

/-- A packet of a leg that a secondary has received (R673), or that a primary keeps for relay (R675): the leg, the stream or 0xFE or 0xFF,
the number, the port, the stamp, the frame, and packets waiting behind it. -/
structure Stash where
  leg : Nat
  stream : Nat
  seq : Nat
  port : Nat
  stamp : Time
  frame : List Byte
  waiting : Nat
  deriving DecidableEq, Repr

/-- A manifest entry at the secondary: its index, the entry, the packet once held, and whether it is absent (R675). -/
structure Listed where
  index : Nat
  leg : Nat
  stream : Nat
  seq : Nat
  stamp : Time
  isEnd : Bool
  packet : Option Stash := none
  refused : Bool := false
  deriving DecidableEq, Repr

/-- An RTP packet built for a leg's egress queues: content epoch, leg, SSRC, bytes before SRTP (Table 14-10). -/
structure Built where
  epoch : Nat
  leg : Nat
  ssrc : Nat
  bytes : List Byte
  deriving DecidableEq, Repr

/-- A command or a register write that a joining secondary has received. -/
inductive Early where
  | command (r : RelayedCmd) | write (page off : Nat) (v : Word)
  deriving DecidableEq, Repr

/-- The pair. -/
structure Pair where
  role : Role := .solo
  partner : Partner := .none
  /-- STRAP (Table 14-15), and when RESET_N was released, for the 2 s of R654. -/
  strap : Nat := 0
  since : Time := 0
  /-- CAUSE and TAKEOVER_TIME of the last role change. -/
  cause : Nat := 0
  changed : Word := 0
  /-- Heartbeats (R658 to R660): the next 100 µs to pulse at; HB_OK, the last rising edge, PARTNER_PRIMARY, consecutive PRIMARY pulses,
  PARTNER_FROZEN. -/
  hbNext : Nat := 0
  hbOk : Bool := false
  hbLast : Time := 0
  hbPrimary : Bool := false
  hbRun : Nat := 0
  frozen : Bool := false
  /-- The link: UP, HELLO done, the next SEQ to send and the next expected, frames not acknowledged and frames waiting to be sent, the
  last advance of ACK, the last frame received and the last sent, the last resend (R661 to R664). -/
  up : Bool := false
  hello : Bool := false
  txSeq : Nat := 0
  rxSeq : Nat := 0
  sent : List LinkFrame := []
  ready : List LinkFrame := []
  ackAt : Time := 0
  rxAt : Time := 0
  txAt : Time := 0
  retxAt : Time := 0
  /-- PARTNER_ID, and a STATE_FORMAT that differs (R772). -/
  partnerId : Word := 0
  mismatch : Bool := false
  /-- The join (R666 to R668): asked for, its start epoch J; at the secondary, the state bytes received: unit, offset, bytes. -/
  wanted : Bool := false
  joinAt : Option Time := none
  chunks : List (Nat × Nat × List Byte) := []
  /-- At the secondary: a transfer has begun, and what the primary relays during it, carried out once it is complete (R667, R669). -/
  filling : Bool := false
  early : List Early := []
  /-- Until when R74 still adds 250 µs and R677 holds after the partner was lost: the next epoch (R695). -/
  timed74 : Time := 0
  timed677 : Time := 0
  /-- The manifest entry of the ingress packet being processed, and egress packets held until theirs is acknowledged: entry,
  queue, frame (R674). -/
  cur : Option Nat := none
  held : List (Nat × Nat × EFrame) := []
  /-- The content epoch of what is built now (R683). -/
  content : Nat := 0
  /-- The primary's manifest: the next index, entries of the open epoch, packets kept for relay (R672, R675). -/
  index : Nat := 0
  count : Nat := 0
  kept : List (Nat × Stash) := []
  /-- The secondary's: packets received, entries not processed, the next index, and the index up to which it has acknowledged. -/
  stash : List Stash := []
  listed : List Listed := []
  nextIn : Nat := 0
  acked : Nat := 0
  /-- Epochs whose entries have been processed: every one below. -/
  done : Nat := 0
  /-- Records of the open epoch to send, and records received for an epoch not reached (R678). -/
  log : List LogRecord := []
  due : List LogRecord := []
  /-- The highest sequence number that has left, per leg and SSRC at 2^32 leg + SSRC; of SRTCP the highest index, the leg raised by 4,096
  (Table 14-9). -/
  marks : Tab (Option Nat) := []
  /-- Digests (R683 to R686): packets built, samples of each render digest, the next epoch to close, own sets with when they were sent,
  the partner's sets, RENDER_DIV and the epochs each has matched since, legs that await resynchronisation. -/
  built : List Built := []
  renders : List (Nat × Nat × List Byte) := []
  nextDigest : Nat := 0
  own : List (Nat × Time × List (Nat × Word)) := []
  theirs : List (Nat × List (Nat × Word)) := []
  renderDiv : List Nat := []
  renderOk : Tab Nat := []
  resyncing : List Nat := []
  /-- Failover (R687 to R694): the boundary T and its cause; the outputs driven already; a surrender's boundary B. -/
  takeover : Option (Time × Nat) := none
  driving : Bool := false
  surrender : Option Time := none
  deriving DecidableEq, Repr

end Sys2Proof.Machine
end

