-- ==== Sys2Proof/Machine/StateQuartz.lean ====
section
/-! DEFINITION. State of Quartz (chapter 3): the local clock, the boundaries not yet acted on, PTP and the servo. -/

namespace Sys2Proof.Machine
open Sys2Proof

/-- The local clock (R111) and the number of the next boundary of each unit of Table 1-6. -/
structure Clock where
  /-- Seconds, 48 bits. -/
  sec : Nat := 0
  /-- Nanoseconds, below 10^9. -/
  ns : Nat := 0
  /-- Fraction in 2^-16 ns, and the 16 invisible bits below it. -/
  frac : Nat := 0
  sub : Nat := 0
  /-- INCR, 48 bits, in 2^-32 ns per tick; nominal 0x1_0000_0000 (R114). -/
  incr : Nat := 0x100000000
  nextEpoch : Nat := 0
  nextBlock : Nat := 0
  nextTick : Nat := 0
  /-- REFCLK: frequency code, VALID, FALLBACK (R113, R115). -/
  refclk : Nat := 0
  refValid : Bool := false
  fallback : Bool := false
  /-- The whole second of PPS_OUT's next rising edge (R138), and while it is high the instants it rose and falls. -/
  ppsNext : Nat := 0
  ppsHigh : Option (Time × Time) := none
  /-- WCLK_OUT is high, since this instant (R139), and the instant before which an edge held off by a step does not come (R133). -/
  wclkHigh : Option Time := none
  wclkHold : Time := 0
  deriving DecidableEq, Repr

/-- Servo states (Table 3-3). -/
inductive Servo where
  | freerun | acquiring | locked | holdover | stepRefused
  deriving DecidableEq, Repr

/-- A master heard by the BMCA: its port, its latest Announce, and the stamps of its recent Announces (R98, R101). -/
structure Foreign where
  id : Word
  port : Nat
  msg : AnnounceMsg
  stamps : List Time
  deriving DecidableEq, Repr

/-- A step waiting for STEP_APPLY: the filtered offset and the epoch boundary it follows (R129). -/
structure StepDue where
  offset : Int
  epoch : Nat
  deriving DecidableEq, Repr

/-- A PTP message that waits in the PTP event queue (Table 1-9). -/
inductive PtpEvent where
  | sync (m : SyncMsg)
  | followUp (m : FollowUpMsg)
  | delayResp (m : DelayRespMsg)
  | announce (m : AnnounceMsg)
  deriving DecidableEq, Repr

/-- PTP and the servo. Frequencies are in 2^-40 ppb, offsets in 2^-16 ns. -/
structure Ptp where
  servo : Servo := .freerun
  refuseCause : Nat := 0
  step : Option StepDue := none
  /-- OFFSET, PATH_DELAY. -/
  offset : Int := 0
  path : Int := 0
  f : Int := 0
  integ : Int := 0
  /-- The last 16 increments applied, newest first (R124). -/
  incrs : List Nat := []
  /-- The PTP event queue, oldest first, at most 16,512 events (Table 1-9). -/
  evq : List PtpEvent := []
  /-- A secondary in FREERUN: the epoch boundary at which the primary leaves FREERUN (R128). -/
  freerunEnds : Option Nat := none
  /-- The last 15 raw offsets for the median filter, newest first (R119). -/
  raw : List Int := []
  /-- Consecutive offsets within and outside LOCK_THRESH and STEP_LIMIT (Table 3-3, R125). -/
  inThr : Nat := 0
  outThr : Nat := 0
  inStep : Nat := 0
  outStep : Nat := 0
  /-- When the last filtered offset was measured, and from which grandmaster (R134). -/
  offAt : Option Time := none
  offGm : Word := 0
  foreign : List Foreign := []
  /-- The selected master: its port identity. -/
  master : Option (Word × Nat) := none
  /-- The last grandmaster selected since reset or ENABLE (R101). -/
  lastGm : Option Word := none
  /-- What the selected master last announced, and the frame rate of its ST 2059-2 TLV (R98). -/
  info : Option AnnounceMsg := none
  smpte : Nat × Nat := (0, 0)
  /-- The master's Sync interval (log2 s); the instant of its last Sync, or of its selection when none has come since (R123). -/
  syncLog : Int := 0
  lastSync : Option Time := none
  /-- A two-step Sync awaiting its Follow_Up: sequence, corrected t2, correction (R118). -/
  twoStep : Option (Nat × Int × Int) := none
  /-- The Delay_Req in flight: sequence and t3 (R109). -/
  reqSeq : Nat := 0
  t3 : Option Int := none
  /-- sm of the most recent completed exchange (R118). -/
  exch : Option Int := none
  /-- logMinDelayReqInterval of the most recent Delay_Resp (R100). -/
  reqLog : Option Int := none
  /-- When the next Delay_Req is sent. -/
  nextReq : Option Time := none
  /-- NOW_W1 (R117). -/
  nowW1 : Word := 0
  /-- PPS_IN: the last edge, whether PPS_IN_MISSING was raised for it, PPS_IN_OFFSET. -/
  ppsLast : Option Time := none
  ppsMissed : Bool := false
  /-- When PPS_IN_CFG.ENABLE was last set. -/
  ppsFrom : Time := 0
  ppsOff : Int := 0
  /-- STEP_LAST and STEP_TIME. -/
  stepLast : Int := 0
  stepTime : Word := 0
  /-- Entry into the current HOLDOVER or STEP_REFUSED, for HOLDOVER_S. -/
  since : Time := 0
  deriving DecidableEq, Repr

end Sys2Proof.Machine
end

