-- ==== Sys2Proof/Machine/StateRender.lean ====
section
/-! DEFINITION. State of the renderer (chapter 9): layouts, objects, scenes and loudspeaker chains. -/

namespace Sys2Proof.Machine
open Sys2Proof

/-- The fields of an object that are interpolated (R437). -/
structure ObjNum where
  x : Int := 0
  y : Int := 0
  z : Int := 0
  gain : Int := 0
  spread : Int := 0
  size : Int := 0
  dvg : Int := 0
  dvgAngle : Int := 0
  deriving DecidableEq, Repr

/-- The fields that are not interpolated (R439). -/
structure ObjSet where
  excl : Nat := 0
  enable : Bool := false
  dist : Bool := false
  snap : Bool := false
  mute : Bool := false
  deriving DecidableEq, Repr

/-- An object: the values at the boundary of its last change, its target, the samples since and the interpolation time; the settings, and
those before a change that the next block crossfades. `told` says that EXCL_ALL has been raised (R447). -/
structure RObj where
  from_ : ObjNum := {}
  target : ObjNum := {}
  n : Nat := 0
  len : Nat := 0
  interp : Nat := 0
  set : ObjSet := {}
  old : Option ObjSet := none
  told : Bool := false
  deriving DecidableEq, Repr

/-- A loudspeaker of a layout (Table 9-4). -/
structure Spk where
  x : Int
  y : Int
  z : Int
  zones : Nat
  pannable : Bool
  deriving DecidableEq, Repr

/-- A layout with its triangles (i, j, k); a pair of a planar layout has k = 1,023. `dec` holds the decoder of each scene: a row of
Q60 factors for every loudspeaker (R451). -/
structure SpkBank where
  spks : List Spk := []
  refDist : Nat := 1
  nearDist : Nat := 0
  planar : Bool := false
  tris : List (Nat × Nat × Nat) := []
  dec : List (List (List Int)) := [[], []]
  deriving DecidableEq, Repr

/-- HOA_SET of a scene (R450 to R452). -/
structure Scene where
  order : Nat := 0
  n3d : Bool := false
  enable : Bool := false
  maxRe : Bool := false
  gain : Int := 0
  deriving DecidableEq, Repr

/-- Coefficients b0, b1, b2, a1, a2 of a band in Q60 (R455); none when OFF. -/
abbrev BandCoef := Option (List Int)

/-- An output record as it acts (Table 9-7). -/
structure OutRec where
  delay : Nat := 0
  gain : Int := 0
  invert : Bool := false
  bands : List BandCoef := List.replicate 16 none
  deriving DecidableEq, Repr

/-- A loudspeaker chain (R453 to R460): its record and filter, those before a change that the next block crossfades, the state of each
band (x1, x2, y1, y2), and what the filter and the delay line hold, newest first. -/
structure Chain where
  out : OutRec := {}
  oldOut : Option OutRec := none
  taps : List Int := []
  oldTaps : Option (List Int) := none
  eq : List (Int × Int × Int × Int) := List.replicate 16 (0, 0, 0, 0)
  fir : List Int := []
  line : List Int := []
  deriving DecidableEq, Repr

/-- The renderer. -/
structure Render where
  running : Bool := false
  /-- A fade in or out in the next block (R419). -/
  fadeIn : Bool := false
  fadeOut : Bool := false
  selected : Option Nat := none
  /-- The bank that fades out in the next block (R429); `some none` when there was none. -/
  oldBank : Option Nat := none
  banks : Tab SpkBank := []
  loaded : List Nat := []
  objs : Tab RObj := []
  scenes : Tab Scene := []
  /-- Scenes whose decoding changes with the next block: the old setting and the old rows of each bank (R452). -/
  oldDec : List (Nat × List (Nat × List (List Int))) := []
  chains : Tab Chain := []
  /-- OUT_TRIM, MUTE and BYPASS as the last block left them (R463, Table 9-11). -/
  trim : Int := 0
  mute : List Nat := []
  bypass : List Nat := []
  /-- The object table that a COMMIT_GROUP read (R433): `some none` when it could not be read. -/
  table : Option (Option (List Byte)) := none
  deriving DecidableEq, Repr

end Sys2Proof.Machine
end

