-- ==== Sys2Proof/Machine/StateWork.lean ====
section
/-! DEFINITION. State of chapters 15, 16 and 18: memories, translation, the Work Dispatcher, DMA channels, memory
controllers, Slab, the boot, the power monitor, and the always-on domain with OTP and flash. -/

namespace Sys2Proof.Machine
open Sys2Proof

/-- A leaf entry (R713, Table 15-4), keyed by realm and first 64 KB page; `large` maps 32 MB. -/
structure Leaf where
  large : Bool
  w : Bool
  pageable : Bool
  target : Nat
  out : Nat
  deriving DecidableEq, Repr

/-- A pinned use (R722): what holds the region, its realm, first address and bytes. -/
structure Hold where
  kind : Nat
  obj : Nat
  realm : Nat
  va : Nat
  len : Nat
  deriving DecidableEq, Repr

/-- What a translation failure halted (R728, Table 15-7 CONTEXT). -/
inductive FaultWork where
  | dma (ch idx : Nat)
  | enc (stream : Nat)
  | dec (stream : Nat)
  | task (cluster core : Nat)
  | none
  deriving DecidableEq, Repr

/-- A translation fault from its record on (R729, R731). -/
structure XFault where
  id : Nat
  time : Time
  va : Nat
  realm : Nat
  code : Nat
  access : Nat
  cls : Nat
  source : Nat
  work : FaultWork
  isOpen : Bool
  deriving DecidableEq, Repr

/-- Address translation (chapter 15). -/
structure Xlat where
  /-- Leaf entries, key 2^32 realm + first 64 KB page of the mapping (R714). -/
  leaves : List (Nat × Leaf) := []
  /-- Pinned uses in force (R722). -/
  holds : List Hold := []
  /-- Faults, newest last; closed ones stay known so that R736 can answer for them. -/
  faults : List XFault := []
  /-- The next fault ID, modulo 65,536 (R729). -/
  nextId : Nat := 0
  /-- XLAT.FAULT_PROD (R729). -/
  prod : Nat := 0
  deriving DecidableEq, Repr

/-- A work item (R699, Table 15-1). -/
structure Item where
  type : Nat
  prio : Nat
  flags : Nat
  domain : Nat
  seq : Nat
  time : Word
  payload : Word
  arg : Word
  deriving DecidableEq, Repr

/-- An item in service: the task's core, its arrival, and the items the task put while serving it (R705). -/
structure InService where
  core : Nat
  arrival : Nat
  item : Item
  held : List Item
  done : Bool
  deriving DecidableEq, Repr

/-- An ordering domain (R702 to R705). -/
structure Domain where
  realm : Nat := 0
  ordered : Bool := false
  /-- Cores whose task takes from this domain. -/
  bound : List Nat := []
  /-- Items waiting, with their arrival numbers, in arrival order. -/
  waiting : List (Nat × Item) := []
  service : List InService := []
  /-- Items that have arrived, for SEQ (Table 15-1). -/
  arrivals : Nat := 0
  deriving DecidableEq, Repr

/-- The Work Dispatcher. -/
structure Disp where
  domains : Tab Domain := []
  /-- TIMED items in the delay lists, in order of acceptance, with their instants (R709). -/
  delay : List (Time × Item) := []
  deriving DecidableEq, Repr

/-- A DMA channel (Tables 15-13 and 15-14); CH_CTRL, CH_RING, CH_TAIL and CH_REALMS stand in the register file. -/
structure DmaCh where
  state : PState := .off
  stop : Bool := false
  head : Nat := 0
  /-- The open fault that halted it; none when a bad CH_TAIL did (R741). -/
  faultId : Option Nat := none
  progress : Nat := 0
  lastFault : Nat := 65535
  /-- The descriptor in hand has started (a mover holds it or it waits). -/
  busy : Bool := false
  /-- The instant a WAIT descriptor waits for. -/
  wait : Option Time := none
  /-- How the descriptor in hand ends: RESULT and DONE_BYTES once known (R738). -/
  ending : Option (Nat × Nat) := none
  deriving DecidableEq, Repr

/-- The movers: which channel each of the eight holds, and the channel last served (R737). -/
structure Dma where
  chans : Tab DmaCh := []
  movers : List (Option Nat) := [none, none, none, none, none, none, none, none]
  lastServed : Nat := 31
  deriving DecidableEq, Repr

/-- A Slab slice (R744, R745). -/
structure Slice where
  scratch : Nat := 0
  isolate : Bool := false
  state : PState := .active
  deriving DecidableEq, Repr

/-- The byte stores and their controllers. -/
structure Mem where
  /-- Device memory by physical address (R23). -/
  dram : List Host.Cell := []
  /-- Host memory by PCI Express address (R713 TARGET 1). -/
  host : List Host.Cell := []
  /-- Slab scratch by Slab output address (R744). -/
  slab : List Host.Cell := []
  slices : Tab Slice := []
  /-- Channels of each controller that have left service, one bit each (MEM_INFO [7:4]). -/
  channels : Tab Nat := []
  /-- MEM_INFO TRAINED. -/
  trained : Bool := false
  /-- MR4 refresh-rate code of each controller. -/
  mr4 : Tab Nat := []
  /-- An ECC change in progress: the regions, one bit each, and the first epoch boundary at which it may complete (R742). -/
  eccBusy : Option (Nat × Time) := none
  deriving DecidableEq, Repr

/-- Flash bank states (Table 16-4). -/
inductive BankState where
  | empty | writing | pending | trial | active | valid | failed
  deriving DecidableEq, Repr

/-- A flash bank: its directory entry and its image (R758). -/
structure Bank where
  state : BankState := .empty
  version : Nat := 0
  svn : Nat := 0
  bytes : List Byte := []
  deriving DecidableEq, Repr

/-- Update states (Table 16-6). -/
inductive UpdState where
  | idle | receiving | verifying | pending | trial | hosted
  deriving DecidableEq, Repr

/-- Boot phases (Table 16-2). -/
inductive Phase where
  | rom | dramTrain | load | auth | firmware | role | ready | recovery
  deriving DecidableEq, Repr

/-- The boot and the update in progress (chapter 16). -/
structure Boot where
  phase : Phase := .rom
  bootSrc : Nat := 0
  pairRole : Nat := 0
  recovery : Bool := false
  runBank : Nat := 0
  fallback : Bool := false
  update : UpdState := .idle
  authFails : Nat := 0
  lastRestart : Nat := 0
  readyMs : Nat := 0
  version : Nat := 0
  svn : Nat := 0
  settingsFmt : Nat := 0
  stateFmt : Nat := 0
  revoke : Nat := 0
  keyIndex : Nat := 0
  /-- The running image. -/
  image : List Byte := []
  /-- The bank the ROM is trying, and the banks already tried in this boot (R763, R764). -/
  trying : Option Nat := none
  tried : List Nat := []
  /-- Counter and REVOKED advances deferred by MARGIN_LOW (R762). -/
  deferred : Bool := false
  /-- LOAD_CTRL.RESULT and SOURCE (Table 16-11). -/
  loadResult : Nat := 0
  loadSource : Nat := 0
  /-- A recovery image has been started (R780). -/
  recovered : Bool := false
  /-- The image at LOAD_ADDR that a GO of recovery mode has found good (R778). -/
  goImage : Option (List Byte) := none
  /-- The recovery image received over the Mirror Link: its bytes and its TOTAL (R779). -/
  got : List Byte := []
  total : Nat := 0
  /-- The instant from which READY_MS counts: the release of RESET_N, or GO (Table 16-12). -/
  goAt : Time := 0
  /-- UPDATE_PROGRESS: package bytes received and PACKAGE_LENGTH; TARGET_LENGTH and TARGET_DIGEST of the header. -/
  pkgGot : Nat := 0
  pkgLen : Nat := 0
  tgtLen : Nat := 0
  tgtDigest : List Byte := []
  /-- Package bytes received and not yet consumed as an operation, the literal bytes still owed, and END seen (R769). -/
  carry : List Byte := []
  litLeft : Nat := 0
  ended : Bool := false
  /-- A restart due at an epoch boundary, with its LAST_RESTART code (R771). -/
  restartAt : Option (Time × Nat) := none
  /-- The instant READY was reached (R775). -/
  readyAt : Time := 0
  /-- CONFIRM_OVERDUE has been raised for this trial (R775). -/
  overdue : Bool := false
  deriving DecidableEq, Repr

/-- The power and thermal monitor (R833 to R837), its board sensor, and refresh of its averages. -/
structure Power where
  /-- Power samples in 0.1 W, newest first, at most 1,000 (100 ms of 100 µs samples). -/
  samples : List Nat := []
  temp16 : Int := 0
  board : BitVec 16 := 0x8000
  throttle : Bool := false
  marginLow : Bool := false
  railLow : Bool := false
  /-- The last instant at which a cause of MARGIN_LOW held (R837). -/
  lastCause : Time := 0
  /-- Geode clock in sixteenths of 1.5 GHz (R834). -/
  geodeClk : Nat := 16
  deriving DecidableEq, Repr

/-- The always-on domain, OTP and the flash: what RESET_N leaves alone (R749, R831). -/
structure AlwaysOn where
  /-- VDD_AUX present, and the other rails (R829 to R831). -/
  auxOn : Bool := true
  railsOn : Bool := true
  /-- RESET_N is high. -/
  resetHigh : Bool := false
  /-- FLINT.ALARM_CFG: ENABLE, 0x1F at reset, and LOCK (Table 12-8). -/
  alarmEnable : BitVec 5 := 0x1F
  alarmLock : Bool := false
  /-- The latched alarm: its causes, and its time (R597, R602). -/
  alarmLatch : Bool := false
  alarmCause : BitVec 5 := 0
  alarmActive : BitVec 5 := 0
  alarmTime : Word := 0
  /-- The freeze record (R801). -/
  freeze : FreezeRec := {}
  /-- Tests armed for the next RESET_N, 4 bits (R813). -/
  armed : BitVec 4 := 0
  /-- OTP: the anti-rollback counter 0 to 64, REVOKED, the hashes of the four keys, and the UPDATE_LOCK fuse (R759). -/
  counter : Nat := 0
  revoked : BitVec 4 := 0
  keyHash : Tab (List Byte) := []
  lockOtp : Bool := false
  /-- Flash: banks A and B, the directory SEQ, and the configuration store (R757, R758, R776). -/
  bankA : Bank := {}
  bankB : Bank := {}
  dirSeq : Nat := 0
  lockOwner : Bool := false
  /-- BOOT.CONFIRM_CFG.TIMEOUT, held in the configuration store. -/
  confirmTimeout : Nat := 0
  /-- Settings records by ID (R776): your records; the format of Tiusk's own, and whether they also stand in the format before. -/
  settings : Tab (List Byte) := []
  recFmt : Nat := 0
  oldSettings : Bool := false
  /-- The RECOVERY strap is ignored until the next RESET_N (R780). -/
  ignoreRecovery : Bool := false
  deriving DecidableEq, Repr

end Sys2Proof.Machine
end

