-- ==== Sys2Proof/Machine/State.lean ====
section
/-! DEFINITION. The whole state of Tiusk: the queue of waiting commands, the always-on domain, and everything that
RESET_N holds in reset. -/

namespace Sys2Proof.Machine
open Sys2Proof

/-- Everything RESET_N holds in reset (R749). -/
structure Dev where
  ctl : Ctl := {}
  obs : Obs := {}
  clk : Clock := {}
  ptp : Ptp := {}
  xlat : Xlat := {}
  disp : Disp := {}
  dma : Dma := {}
  mem : Mem := {}
  boot : Boot := {}
  pow : Power := {}
  pair : Pair := {}
  legs : Legs := {}
  lanes : Lanes := {}
  egress : Egress := {}
  flint : Flint := {}
  geode : Geode := {}
  mica : Mica := {}
  audio : Audio := {}
  render : Render := {}
  garnet : Garnet := {}
  deriving DecidableEq, Repr

/-- The machine. -/
structure State where
  /-- Commands waiting, first in, first out. -/
  pending : List Instr := []
  aon : AlwaysOn := {}
  dev : Dev := {}
  deriving DecidableEq, Repr

/-- The reasons a step stops with a fault. -/
inductive Fault where
  /-- Raised by no meaning: the host interface asks for the type. What Tiusk calls a fault is state. Safe. -/
  | never
  deriving DecidableEq, Repr

/-- The reasons a command has no meaning. -/
inductive Refusal where
  /-- Raised by an arm of Dispatch.lean whose command is not modelled yet. Safe. -/
  | notModelled (mnemonic : String)
  deriving DecidableEq, Repr

/-- The machine as RESET_N holds it: rails up, every resettable part at its reset value (R749), nothing waiting. -/
def State.reset : State := {}

end Sys2Proof.Machine
end

