-- ==== Sys2Proof/Machine/Ops.lean ====
section
/-! DEFINITION. The named operations over pages, registers, counters, events, the error log, the trace, the memories and
their translation. Every meaning is written over these. -/

namespace Sys2Proof.Machine
open Sys2Proof

/-- Page indexes of Table 2-4. -/
def pgDevice : Nat := 1
def pgQuartz : Nat := 2
def pgPcie : Nat := 3
def pgBoot : Nat := 4
def pgObs : Nat := 5
def pgErrlog : Nat := 6
def pgPair : Nat := 7
def pgXlat : Nat := 8
def pgDispatch : Nat := 9
def pgLegs : Nat := 14
def pgFlint : Nat := 15
def pgRender : Nat := 16
def pgMix : Nat := 17
def pgSlab : Nat := 18
def pgDma (ch : Nat) : Nat := 10 + ch / 8
def pgMica (i : Nat) : Nat := 19 + i
def pgTdm (port : Nat) : Nat := 21 + port / 4
def pgPort (p : Nat) : Nat := 29 + p
def pgEgress (p : Nat) : Nat := 37 + p
def pgQuad (q : Nat) : Nat := 45 + q
def pgMemctl (c : Nat) : Nat := 55 + c
def pgGeode (e : Nat) : Nat := 71 + e
def pgGarnet (c : Nat) : Nat := 105 + c
def pgRealm (r : Nat) : Nat := 138 + r

/-- BAR0 offsets 0xC_0000 and 0xC_1000, the MSI-X table and its pending-bit array (Table 2-1), numbered after the pages. -/
def pgMsix : Nat := 202
def pgPba : Nat := 203

/-- The reserved region of device memory (R23). -/
def reservedBase : Nat := 0x1F80000000

/-- The end of device memory. -/
def dramEnd : Nat := 0x2000000000

/-- A page header before anything has changed it: DIRECTORY, PCIE and ERRLOG are ACTIVE from reset (R861, R817), DEVICE and
BOOT are INIT until READY (R816, R781), every other page is OFF. -/
def pageDflt (n : Nat) : PageHdr :=
  if n = 0 ∨ n = 3 ∨ n = 6 then { state := .active } else if n = 1 ∨ n = 4 then { state := .init } else {}

/-- A ring before anything has changed it: its vector is that of R94. Ring r of realm n has key 4 n + r. -/
def ringDflt (k : Nat) : Ring :=
  { vector := if k < 4 then 1 + k else 4 + k / 4 }

/-- The codes of Table 2-9. -/
def PState.code : PState → Nat
  | .off => 0 | .init => 1 | .ready => 2 | .active => 3 | .draining => 4 | .isolated => 5 | .testing => 6 | .faulted => 7

/-- The codes of Table 2-10. -/
def ErrCode.code : ErrCode → Nat
  | .reservedSet => 1 | .badAccess => 2 | .readOnly => 3 | .badState => 4 | .locked => 5 | .splitLost => 6
  | .noShadow => 7 | .rangeClamped => 8 | .halfUnpaired => 9

/-- The codes of Table 2-18. -/
def Status.code : Status → Nat
  | .ok => 0 | .badOpcode => 1 | .badArg => 2 | .noResource => 3 | .stateConflict => 4 | .realmDenied => 5 | .late => 6
  | .refusedPolicy => 7 | .faulted => 8 | .aborted => 9 | .timeout => 10 | .partnerUnavailable => 11

/-! ### The clock -/

/-- The local time (R111), without the invisible bits. -/
def Clock.now (c : Clock) : Time := c.sec * secT + c.ns * nsT + c.frac

/-- The local time of the unit. -/
def Dev.now (d : Dev) : Time := d.clk.now

/-- Short media time now (R12). -/
def Dev.short (d : Dev) : Word := shortOf d.now

/-- The stamp of a report made now: short media time with fraction 0 (R150). -/
def Dev.stamp (d : Dev) : Time := wholeNs d.now

/-- The clock set to an instant. -/
def Clock.setTime (c : Clock) (t : Time) : Clock :=
  { c with sec := t / secT % 2 ^ 48, ns := t % secT / nsT, frac := t % nsT, sub := 0 }

/-- Sample `n` of the 96 kHz grid (R135): n × 31,250 / 3 ns, truncated. -/
def sampleAt (n : Nat) : Time := n * 31250 * nsT / 3

/-- Block boundary `j` is sample 32 j (R27). -/
def blockAt (j : Nat) : Time := sampleAt (32 * j)

/-- The number of the first block boundary at or after `t`. -/
def blockCeil (t : Time) : Nat :=
  let j := t * 3 / (32 * 31250 * nsT)
  if t ≤ blockAt j then j else if t ≤ blockAt (j + 1) then j + 1 else j + 2

/-- The first epoch boundary at or after `t` (R27). -/
def epochCeil (t : Time) : Time := ceilTo msT t

/-! ### Pages, registers, counters -/

/-- The header of page `p`. -/
def Dev.page (d : Dev) (p : Nat) : PageHdr := tabGet pageDflt d.ctl.pages p

/-- The state with the header of page `p` replaced. -/
def Dev.setPage (d : Dev) (p : Nat) (h : PageHdr) : Dev :=
  { d with ctl := { d.ctl with pages := tabPut pageDflt d.ctl.pages p h } }

/-- The header of page `p` changed by `f`. -/
def Dev.onPage (d : Dev) (p : Nat) (f : PageHdr → PageHdr) : Dev := d.setPage p (f (d.page p))

/-- A register-access error counted on page `p` (Table 2-8, PAGE_ERR). -/
def Dev.err (d : Dev) (p : Nat) (e : ErrCode) : Dev :=
  d.onPage p (fun h => { h with errCount := satN 4294967295 (h.errCount + 1), errLast := e.code })

/-- The live value of a stored register. -/
def Dev.reg (d : Dev) (p off : Nat) : Word := tabGet regReset d.ctl.regs (regKey p off)

/-- A stored register written. -/
def Dev.setReg (d : Dev) (p off : Nat) (v : Word) : Dev :=
  { d with ctl := { d.ctl with regs := tabPut regReset d.ctl.regs (regKey p off) v } }

/-- The shadow value of an RWS register (R70). -/
def Dev.shadowReg (d : Dev) (p off : Nat) : Word := tabGet regReset d.ctl.shadow (regKey p off)

/-- A shadow register written. -/
def Dev.setShadow (d : Dev) (p off : Nat) (v : Word) : Dev :=
  { d with ctl := { d.ctl with shadow := tabPut regReset d.ctl.shadow (regKey p off) v } }

/-- A live counter (R791). -/
def Dev.counter (d : Dev) (p off : Nat) : Word := tabGetD 0 d.ctl.counters (regKey p off)

/-- A counter raised by `n`, modulo 2^64 (R791). -/
def Dev.bump (d : Dev) (p off : Nat) (n : Nat) : Dev :=
  { d with ctl := { d.ctl with
      counters := tabPutD 0 d.ctl.counters (regKey p off) (tabGetD 0 d.ctl.counters (regKey p off) + BitVec.ofNat 64 n) } }

/-- A counter raised by 1. -/
def Dev.inc (d : Dev) (p off : Nat) : Dev := d.bump p off 1

/-- Something that leaves the block. -/
def Dev.emit (d : Dev) (o : Output) : Dev := { d with ctl := { d.ctl with out := d.ctl.out ++ [o] } }

/-- A fresh index for a free value. -/
def Dev.tickFree (d : Dev) : Dev := { d with ctl := { d.ctl with free := d.ctl.free + 1 } }

/-- The free value of the present index. -/
def Dev.freeWord (d : Dev) : Word := Config.freeWord d.ctl.free

/-- A word of the MSI-X table (Table 2-1). -/
def Dev.msixWord (d : Dev) (k : Nat) : Word := tabGetD 0 d.ctl.msixTab k

/-- The vector's mask bit: bit 0 of its vector control. -/
def Dev.msixMasked (d : Dev) (v : Nat) : Bool := bit (d.msixWord (2 * v + 1)) 32

/-- A message on the vector leaves at once: MSI-X is enabled and the vector is not masked. -/
def Dev.msixLive (d : Dev) (v : Nat) : Bool := d.ctl.msixOn && !d.msixMasked v

/-- An MSI-X message, sent while MSI-X is enabled (R49, R93); on a masked vector it waits in the pending-bit array (Table 2-1). -/
def Dev.msix (d : Dev) (vector : Nat) : Dev :=
  if d.msixLive vector then d.emit (.msix vector)
  else if d.ctl.msixOn && !d.ctl.msixPend.contains vector then { d with ctl := { d.ctl with msixPend := d.ctl.msixPend ++ [vector] } }
  else d

/-- The counters a page's snapshot latches: their keys. -/
def counterKeys (p : Nat) : List Nat :=
  match pageType p with
  | none => []
  | some t => t.counters.flatMap (fun r => (List.range r.2.1).map (fun i => regKey p (r.1 + i * r.2.2)))

/-- The PCIE page counts what passes on the link, which no command of the table tells: each of its free-running counters goes on by a free
amount before it is looked at (Table 2-2, log entry 8); AER_COUNT holds two counts of 32 bits. -/
def Dev.pcieSample (d : Dev) : Dev :=
  [0x058, 0x060, 0x068].foldl (fun (d : Dev) o =>
    let c := d.counter pgPcie o
    let v := if o = 0x058 then fmk 0 32 (fld c 0 32 + fld d.freeWord 0 32) ||| fmk 32 32 (fld c 32 32 + fld d.freeWord 32 32) else c + d.freeWord
    ({ d with ctl := { d.ctl with counters := tabPutD 0 d.ctl.counters (regKey pgPcie o) v } }).tickFree) d

/-- Every counter of page `p` latched at `t` (R67, R68); a latch still due at `t` or before is merged into it (R148). -/
def Dev.latch (d : Dev) (p : Nat) (t : Time) : Dev :=
  let d := if p = pgPcie then d.pcieSample else d
  let d := { d with ctl := { d.ctl with
    snaps := (counterKeys p).foldl (fun m k => tabPutD 0 m k (tabGetD 0 d.ctl.counters k)) d.ctl.snaps } }
  d.onPage p (fun h => { h with snapHeld := true, snapTime := shortOf t, snapDue := h.snapDue.filter (fun u => decide (t < u)) })

/-! ### The Error Collector (chapter 17) -/

/-- A report that could not be recorded adds to the LOST entry (R789, Table 17-2). -/
def Obs.lose (o : Obs) (src cnt : Nat) (stamp : Time) : Obs :=
  { o with
    srcLost := tabPutD 0 o.srcLost src (satN 281474976710655 (tabGetD 0 o.srcLost src + cnt))
    lost := some (match o.lost with
      | none => ⟨stamp, satN 4294967295 cnt, 1, [src], stamp⟩
      | some l => { l with
          count := satN 4294967295 (l.count + cnt)
          entries := l.entries + 1
          sources := if l.sources.contains src then l.sources else l.sources ++ [src]
          last := stamp }) }

/-- The Error Collector takes a report: counted, coalesced, opened or lost (R784, R785). -/
def Obs.take (o : Obs) (r : Report) : Obs :=
  let o := { o with srcReports := tabPutD 0 o.srcReports r.source (satN 281474976710655 (tabGetD 0 o.srcReports r.source + 1)) }
  if o.pending.any (fun e => e.source == r.source && e.code == r.code && decide (e.count < 4294967295)) then
    { o with pending := o.pending.map (fun e =>
        if e.source == r.source && e.code == r.code && decide (e.count < 4294967295) then { e with count := e.count + 1 } else e) }
  else if o.pending.length < 256 then
    { o with pending := o.pending ++ [⟨r.stamp, r.source, r.code, 1, r.d2, r.d3, o.order⟩], order := o.order + 1 }
  else o.lose r.source 1 r.stamp

/-- FREEZE_TRIG[i] matches a report (R797, Table 17-12). -/
def trigMatches (v : Word) (r : Report) : Bool :=
  bit v 63 && (bit v 32 || fld v 0 12 == r.source) && (bit v 33 || fld v 16 16 == r.code)

/-- The unit freezes: every functional clock stops, the local clock with it, FROZEN is asserted, the heartbeat line is held
high and the lanes and the PCI Express link go down (R798, R799); the record is that of R801. -/
def Dev.freeze (d : Dev) (cause trigger source code : Nat) : Dev :=
  if d.obs.frozen then d
  else
    let d := { d with
      obs := { d.obs with frozen := true, frz := some ⟨true, cause, trigger, source, code, d.short⟩ }
      ctl := { d.ctl with linkUp := false, linkSpeed := 0, linkWidth := 0 } }
    d.emit (.frozen true)

/-- The first enabled trigger that matches. -/
def trigFind (d : Dev) (r : Report) : Option Nat :=
  [0, 1, 2, 3].find? (fun i => trigMatches (d.reg pgDevice (0x068 + 8 * i)) r)

/-- A report reaches the Error Collector (R783 to R785, R797). -/
def Dev.report (d : Dev) (r : Report) : Dev :=
  let coal := d.obs.pending.any (fun e => e.source == r.source && e.code == r.code && decide (e.count < 4294967295))
  let d := d.inc pgErrlog 0x090
  let d := if coal then d.inc pgErrlog 0x098 else d
  let d := { d with obs := d.obs.take r }
  match trigFind d r with
  | some i => d.freeze 2 i r.source r.code
  | none => d

/-- An event bit of a page set, with its message when it rises unmasked (R62). -/
def Dev.event (d : Dev) (p b : Nat) : Dev :=
  let h := d.page p
  if h.event.getLsbD b then d
  else
    let d := d.setPage p { h with event := h.event ||| BitVec.ofNat 48 (2 ^ b) }
    if h.mask.getLsbD b then d else d.msix h.vector

/-- A page event raised and logged under its source and code. -/
def Dev.raise (d : Dev) (p b source code : Nat) (d2 d3 : Word) : Dev :=
  (d.event p b).report ⟨source, code, d.stamp, d2, d3⟩

/-! ### Trace (R792 to R796) -/

/-- An entry of the trace stream: kept when its class is enabled and it passes the filter; dropped when the stream of
Table 1-9 is full. -/
def Dev.trace (d : Dev) (cls ev source : Nat) (w2 w3 : Word) (obj : Nat) : Dev :=
  let base := d.reg pgObs 0x048
  let cfg := d.reg pgObs 0x058
  if !bit base 0 then d
  else if cls < 5 && !bit cfg cls then d
  else if (cls == 0 && !bit cfg 61 && obj != fld cfg 32 16) || (cls == 1 && !bit cfg 62 && obj != fld cfg 48 13) then
    d.inc pgObs 0x070
  else if d.obs.trace.length < 512 + 4194304 then
    let d := if d.obs.trace.length < 512 then d else d.inc pgObs 0x078
    { d with obs := { d.obs with trace := d.obs.trace ++ [⟨d.stamp, source, cls, ev, w2, w3, d.obs.order⟩], order := d.obs.order + 1 } }
  else
    let d := d.inc pgObs 0x080
    { d with obs := { d.obs with traceDropped := d.obs.traceDropped + 1,
                                 traceFirst := if d.obs.traceDropped = 0 then d.stamp else d.obs.traceFirst } }

/-- A Dispatcher trace entry of an item that Tiusk builds for a job (R699): its domain, among the firmware's, and its SEQ, level, TYPE and
PAYLOAD are not given, and are free values (log entry 101). -/
def Dev.jobItem (d : Dev) (ev : Nat) (w3 : Option Word) : Dev :=
  if !(bit (d.reg pgObs 0x048) 0 && bit (d.reg pgObs 0x058) 0) then d
  else
    let w := setFld d.freeWord 13 3 0
    let d := d.tickFree
    d.tickFree.trace 0 ev 0x003 w (w3.getD d.freeWord) (fld w 0 16)

/-! ### Memories -/

/-- A byte store read: an unlisted byte reads 0 (DESIGN CHOICE, log entry 2). -/
def memRead (m : List Host.Cell) (a : Nat) : Byte := tabGetD 0 m a

/-- A byte store written. -/
def memWrite (m : List Host.Cell) (a : Nat) (b : Byte) : List Host.Cell := tabPutD 0 m a b

/-- The canonical form of a byte store. -/
abbrev Memory.wf (m : List Host.Cell) : Bool := tabWf (fun _ => (0 : Byte)) m

/-- `n` bytes from address `a`. -/
def memReads (m : List Host.Cell) : Nat → Nat → List Byte
  | _, 0 => []
  | a, n + 1 => memRead m a :: memReads m (a + 1) n

/-- A byte string written from address `a`. -/
def memWrites (m : List Host.Cell) : Nat → List Byte → List Host.Cell
  | _, [] => m
  | a, b :: t => memWrites (memWrite m a b) (a + 1) t

/-- A region of device memory has inline ECC: ECC_MAP, with 126 and 127 always protected (R23, R742). -/
def Dev.eccOn (d : Dev) (r : Nat) : Bool := decide (126 ≤ r) || bit (d.reg (pgMemctl 0) (if r < 64 then 0x058 else 0x060)) (r % 64)

/-- The byte holds check data of a protected region: the top sixteenth of its GB, which is not addressable (R25). -/
def Dev.checkByte (d : Dev) (a : Nat) : Bool := d.eccOn (a / 1073741824) && decide (1006632960 ≤ a % 1073741824)

/-- A byte string written from address `a`, but for the bytes that `skip` names. -/
def memWritesBut (skip : Nat → Bool) (m : List Host.Cell) : Nat → List Byte → List Host.Cell
  | _, [] => m
  | a, b :: t => memWritesBut skip (if skip a then m else memWrite m a b) (a + 1) t

/-- Device memory written by physical address: bytes beyond its end and bytes of check data are not addressable and nothing is written there. -/
def Dev.physWrites (d : Dev) (a : Nat) (b : List Byte) : Dev :=
  { d with mem := { d.mem with dram := memWritesBut d.checkByte d.mem.dram a (b.take (dramEnd - a)) } }

/-- Device memory read by physical address; what a byte of check data reads as is not stated, a free value (R25, log entry 8). -/
def Dev.physReads (d : Dev) (a n : Nat) : List Byte :=
  (List.range n).map (fun i =>
    if dramEnd ≤ a + i then 0
    else if d.checkByte (a + i) then BitVec.ofNat 8 (fld (Config.freeWord (d.ctl.free + i)) 0 8) else memRead d.mem.dram (a + i))

/-- Device memory read by physical address; beyond its end reads 0. -/
def Dev.dramReads (d : Dev) (a n : Nat) : List Byte :=
  memReads d.mem.dram a (if a < dramEnd then min n (dramEnd - a) else 0) ++ List.replicate (n - (if a < dramEnd then min n (dramEnd - a) else 0)) 0

/-- Device memory written by physical address; bytes beyond its end are discarded. -/
def Dev.dramWrites (d : Dev) (a : Nat) (b : List Byte) : Dev :=
  { d with mem := { d.mem with dram := memWrites d.mem.dram a (b.take (dramEnd - a)) } }

/-! ### Translation (R712 to R716) -/

/-- Why a translation failed: the code of Table 15-7 and the level at which the walk ended. -/
structure XErr where
  code : Nat
  level : Nat
  va : Nat
  deriving DecidableEq, Repr

/-- The key of the leaf table for a 64 KB page of a realm. -/
def leafKey (realm page : Nat) : Nat := realm * 4294967296 + page

/-- The entry listed at a key. -/
def leafAt (x : Xlat) (k : Nat) : Option Leaf := (x.leaves.find? (fun e => e.1 == k)).map (fun e => e.2)

/-- The leaf that maps a virtual address: a 64 KB leaf, or the 32 MB leaf around it (R714). -/
def leafOf (x : Xlat) (realm va : Nat) : Option (Nat × Leaf) :=
  match leafAt x (leafKey realm (va / 65536)) with
  | some l => if l.large then some (va / 33554432 * 33554432, l) else some (va / 65536 * 65536, l)
  | none => match leafAt x (leafKey realm (va / 33554432 * 512)) with
    | some l => if l.large then some (va / 33554432 * 33554432, l) else none
    | none => none

/-- The level at which a walk that finds no leaf ends (Table 15-7 ACCESS). -/
def walkLevel (x : Xlat) (realm va : Nat) : Nat :=
  if x.leaves.any (fun e => e.1 / 4294967296 == realm && e.1 % 4294967296 / 512 == va / 33554432) then 3
  else if x.leaves.any (fun e => e.1 / 4294967296 == realm && e.1 % 4294967296 / 1048576 == va / 68719476736) then 2
  else 1

/-- The Slab slice of a Slab output address (R744). -/
def slabSlice (a : Nat) : Nat := a / 0x140000

/-- The slice record. -/
def Dev.slice (d : Dev) (s : Nat) : Slice := tabGetD {} d.mem.slices s

/-- A virtual address translated for a read or a write: the target and the output address (R716). -/
def Dev.translate (d : Dev) (realm va : Nat) (write : Bool) : Except XErr (Nat × Nat) :=
  if 281474976710656 ≤ va then .error ⟨1, 1, va⟩
  else match leafOf d.xlat realm va with
    | none => .error ⟨1, walkLevel d.xlat realm va, va⟩
    | some (base, l) =>
      let out := l.out + (va - base)
      let lvl := if l.large then 2 else 3
      if l.target = 2 ∧ (d.slice (slabSlice out)).isolate = true then .error ⟨1, lvl, va⟩
      else if write && !l.w then .error ⟨2, lvl, va⟩
      else if l.target = 0 ∧ reservedBase ≤ out then .error ⟨2, lvl, va⟩
      else .ok (l.target, out)

/-- One byte of a target store. -/
def Dev.targetRead (d : Dev) (t a : Nat) : Byte :=
  if t = 0 then memRead d.mem.dram a else if t = 1 then memRead d.mem.host a else memRead d.mem.slab a

/-- One byte of a target store written. -/
def Dev.targetWrite (d : Dev) (t a : Nat) (b : Byte) : Dev :=
  if t = 0 then { d with mem := { d.mem with dram := memWrite d.mem.dram a b } }
  else if t = 1 then { d with mem := { d.mem with host := memWrite d.mem.host a b } }
  else { d with mem := { d.mem with slab := memWrite d.mem.slab a b } }

/-- `n` bytes of a realm's address space. -/
def Dev.readVa (d : Dev) (realm : Nat) : Nat → Nat → Except XErr (List Byte)
  | _, 0 => .ok []
  | va, n + 1 => match d.translate realm va false with
    | .error e => .error e
    | .ok (t, a) => match d.readVa realm (va + 1) n with
      | .error e => .error e
      | .ok l => .ok (d.targetRead t a :: l)

/-- The first failure of a write of `n` bytes, if any. -/
def Dev.writeCheck (d : Dev) (realm : Nat) : Nat → Nat → Option XErr
  | _, 0 => none
  | va, n + 1 => match d.translate realm va true with
    | .error e => some e
    | .ok _ => d.writeCheck realm (va + 1) n

/-- Bytes written to a realm's address space; a byte whose translation fails is not written. -/
def Dev.writeVa (d : Dev) (realm : Nat) : Nat → List Byte → Dev
  | _, [] => d
  | va, b :: t => match d.translate realm va true with
    | .error _ => d.writeVa realm (va + 1) t
    | .ok (tg, a) => (d.targetWrite tg a b).writeVa realm (va + 1) t

/-- A page is PINNED and MAPPED (R722). -/
def Dev.pinnedPage (d : Dev) (realm va : Nat) : Bool :=
  match leafOf d.xlat realm va with
  | some (_, l) => !l.pageable && decide (va < 281474976710656)
  | none => false

/-- Every page of a region is MAPPED and PINNED (R722). -/
def Dev.pinned (d : Dev) (realm va len : Nat) : Bool :=
  (List.range ((va % 65536 + len + 65535) / 65536)).all (fun i => d.pinnedPage realm (va / 65536 * 65536 + i * 65536))

/-- A binding's hold of a region (R722). -/
def Dev.hold (d : Dev) (kind obj realm va len : Nat) : Dev :=
  { d with xlat := { d.xlat with holds := d.xlat.holds ++ [⟨kind, obj, realm, va, len⟩] } }

/-- A binding's holds released. -/
def Dev.unhold (d : Dev) (kind obj : Nat) : Dev :=
  { d with xlat := { d.xlat with holds := d.xlat.holds.filter (fun h => !(h.kind == kind && h.obj == obj)) } }

/-- A page is HELD: some binding covers it (R722). -/
def Dev.heldPage (d : Dev) (realm va size : Nat) : Bool :=
  d.xlat.holds.any (fun h => h.realm == realm && decide (h.va < va + size) && decide (va < h.va + h.len))

/-- The kinds of binding. -/
def holdRing : Nat := 1
def holdTrace : Nat := 2
def holdFaultRing : Nat := 3
def holdDma : Nat := 4
def holdLegPool : Nat := 5
def holdStats : Nat := 6
def holdEnc : Nat := 7
def holdDec : Nat := 8
def holdLayout : Nat := 9
def holdStill : Nat := 10
def holdLevel : Nat := 11
def holdObj : Nat := 12
def holdQstats : Nat := 13
def holdNet : Nat := 14
def holdTask : Nat := 15

/-! ### Commands and completions -/

/-- The ring pair of a realm. -/
def Dev.ring (d : Dev) (realm r : Nat) : Ring := tabGet ringDflt d.ctl.rings (4 * realm + r)

/-- A ring pair replaced. -/
def Dev.setRing (d : Dev) (realm r : Nat) (x : Ring) : Dev :=
  { d with ctl := { d.ctl with rings := tabPut ringDflt d.ctl.rings (4 * realm + r) x } }

/-- Entries of a ring: 2^(SIZE + 4). -/
def Ring.entries (x : Ring) : Nat := 2 ^ (x.size + 4)

/-- The 16 bytes of a completion (Table 2-16). -/
def completionBytes (tag : BitVec 32) (st : Status) (phase : Bool) (detail : Nat) (result : Word) : List Byte :=
  leBytes 4 tag.toNat ++ leBytes 1 st.code ++ leBytes 1 (if phase then 1 else 0) ++ leBytes 2 detail ++ leBytes 8 result.toNat

/-- A completion written to an enabled ring, in the entry reserved for it (R83), with PHASE (R84) and the coalesced message (R95). -/
def Dev.postRing (d : Dev) (realm r : Nat) (tag : BitVec 32) (st : Status) (detail : Nat) (result : Word) : Dev :=
  let x := d.ring realm r
  if !x.enable then d
  else
    let d := d.writeVa realm (x.cplBase + 16 * x.cplTail) (completionBytes tag st x.phase detail result)
    let tail := (x.cplTail + 1) % x.entries
    let full := decide (max 1 x.coalN ≤ x.unsig + 1)
    let x' := { x with cplTail := tail, phase := if tail = 0 then !x.phase else x.phase, posted := (x.posted + 1) % 4294967296,
                       reserved := x.reserved - 1,
                       unsig := if full then 0 else x.unsig + 1,
                       unsigAt := if x.unsig = 0 then d.now else x.unsigAt }
    let d := d.setRing realm r x'
    if full then d.msix x.vector else d

/-- A command completes: its completion is posted unless its ring was disabled or the host interface reset since (R37, R91), and the trace
records it. A command of its own row has no ring entry: its completion only leaves the block (log entry 13). -/
def Dev.complete (d : Dev) (k : Token) (st : Status) (detail : Nat) (result : Word) : Dev :=
  let x := d.ring k.cmd.realm k.cmd.ring
  let d := if x.gen == k.gen && (k.direct || x.enable)
    then (if k.direct then d else d.postRing k.cmd.realm k.cmd.ring k.cmd.tag st detail result).emit
      (.completion k.cmd.tag st (detail % 65536) result)
    else d
  d.trace 4 0x0401 0x001 (fmk 0 16 k.opcode ||| fmk 16 6 k.cmd.realm ||| fmk 24 2 k.cmd.ring ||| fmk 32 8 st.code)
    (fmk 0 32 k.cmd.tag.toNat) 0

/-- A command without effect completes: it has no time of an effect, and no rule states RESULT, a free value (Table 2-16, log entry 8). -/
def Dev.refuse (d : Dev) (k : Token) (st : Status) (detail : Nat) : Dev := d.tickFree.complete k st detail d.freeWord

/-- Every command of `opcode` waiting on `obj` completes. -/
def Dev.finish (d : Dev) (opcode obj : Nat) (st : Status) (detail : Nat) (result : Word) : Dev :=
  let ws := d.ctl.waits.filter (fun w => w.tok.opcode == opcode && w.obj == obj)
  let d := { d with ctl := { d.ctl with waits := d.ctl.waits.filter (fun w => !(w.tok.opcode == opcode && w.obj == obj)) } }
  ws.foldl (fun d w => d.complete w.tok (if w.late && decide (st = .ok) then .late else st) detail result) d

/-- A command of `opcode` waits on `obj`. -/
def Dev.waiting (d : Dev) (opcode obj : Nat) : Bool := d.ctl.waits.any (fun w => w.tok.opcode == opcode && w.obj == obj)

/-! ### Legs -/

/-- A leg. -/
def Dev.leg (d : Dev) (l : Nat) : Leg := tabGetD {} d.legs.legs l

/-- A leg replaced. -/
def Dev.setLeg (d : Dev) (l : Nat) (x : Leg) : Dev := { d with legs := { d.legs with legs := tabPutD {} d.legs.legs l x } }

/-- A leg changed. -/
def Dev.onLeg (d : Dev) (l : Nat) (f : Leg → Leg) : Dev := d.setLeg l (f (d.leg l))

/-! ### Gating -/

/-- The unit runs: rails up, RESET_N high, not frozen (R749, R798). -/
def State.up (s : State) : Bool := s.aon.auxOn && s.aon.railsOn && s.aon.resetHigh && !s.dev.obs.frozen

/-- The unit is READY (R753). -/
def State.ready (s : State) : Bool := s.up && decide (s.dev.boot.phase = .ready)

/-- A change of the resettable part; a freeze it causes leaves its record in the always-on domain (R801). -/
def State.setDev (s : State) (d : Dev) : State :=
  { s with dev := d, aon := { s.aon with freeze := match d.obs.frz with | some r => r | none => s.aon.freeze } }

/-- A change of the resettable part that acts while the unit runs; otherwise nothing changes (log entry 4). -/
def State.act (s : State) (f : Dev → Dev) : State := if s.up then s.setDev (f s.dev) else s

/-- The same, once the unit is READY (R754). -/
def State.actReady (s : State) (f : Dev → Dev) : State := if s.ready then s.setDev (f s.dev) else s

/-- A change of the whole machine that acts while the unit runs. -/
def State.actAll (s : State) (f : State → State) : State := if s.up then f s else s

/-- The same, once the unit is READY. -/
def State.actAllReady (s : State) (f : State → State) : State := if s.ready then f s else s

end Sys2Proof.Machine
end

