-- ==== Sys2Proof/Machine/RegIO.lean ====
section
/-! DEFINITION. Reading and writing stored registers: the field rules of R7, R853, R856 and R857, and the common page
header. What single registers do beyond that stands with their chapters. -/

namespace Sys2Proof.Machine
open Sys2Proof

/-- A value in a gap or outside 0 and `lo` to `hi`, replaced by the nearest allowed one, the higher on a tie (R856). -/
def gapClamp (lo hi x : Nat) : Nat :=
  if x = 0 then 0 else if x < lo then (if x < lo - x then 0 else lo) else if hi < x then hi else x

/-- A field's value after a write of `x` over `old`: the value kept, and the error it counts (R856, R857). -/
def limitField (f : Fld) (old x : Nat) : Nat × Option ErrCode :=
  match f.lim with
  | .any => (x, none)
  | .range lo hi => if x < lo then (lo, some .rangeClamped) else if hi < x then (hi, some .rangeClamped) else (x, none)
  | .srange lo hi =>
    if signed f.w x < lo then (wrapTo f.w lo, some .rangeClamped)
    else if hi < signed f.w x then (wrapTo f.w hi, some .rangeClamped) else (x, none)
  | .gap lo hi => if gapClamp lo hi x = x then (x, none) else (gapClamp lo hi x, some .rangeClamped)
  | .below n => if x < n then (x, none) else (old, some .reservedSet)

/-- The bits that some field covers. -/
def coverMask (fs : List Fld) : Word := fs.foldl (fun m f => m ||| fmk f.lo f.w (2 ^ f.w - 1)) 0

/-- The stored word after a write of `v` over `old`, and the errors counted. `seen` is what a read would show, for R853.
A WO field stores nothing, nor does a write of an RC field. Where one write has several errors, they are counted in the order of the fields
from bit 0 up with RESERVED_SET for reserved bits last, and PAGE_ERR.LAST keeps the last (DESIGN CHOICE, log entry 48). -/
def mergeFields (fs : List Fld) (old seen v : Word) : Word × List ErrCode :=
  let r := fs.foldl (fun (acc : Word × List ErrCode) f =>
    match f.acc with
    | .rw =>
      let x := limitField f (fld old f.lo f.w) (fld v f.lo f.w)
      (setFld acc.1 f.lo f.w x.1, match x.2 with | some e => acc.2 ++ [e] | none => acc.2)
    | .ro => if fld v f.lo f.w = fld seen f.lo f.w then acc else (acc.1, acc.2 ++ [.readOnly])
    | .wo | .rc => acc) (old, [])
  (r.1, if v &&& (coverMask fs ^^^ BitVec.allOnes 64) = 0 then r.2 else r.2 ++ [.reservedSet])

/-- Each code counted once for the write. -/
def Dev.errs (d : Dev) (p : Nat) (l : List ErrCode) : Dev := l.eraseDups.foldl (fun d e => d.err p e) d

/-- A generic write of a stored register: fields merged, errors counted (R7, R853, R856, R857). -/
def Dev.storeReg (d : Dev) (p : Nat) (r : Reg) (off : Nat) (v : Word) : Dev :=
  let m := mergeFields r.flds (d.reg p off) (d.reg p off) v
  (d.setReg p off m.1).errs p m.2

/-- The merged value and errors of a write that a chapter then judges further. -/
def Dev.mergeAt (d : Dev) (p off : Nat) (v : Word) : Word × List ErrCode :=
  match (pageType p).bind (fun t => t.regAt off) with
  | none => (d.reg p off, [])
  | some r => mergeFields r.flds (d.reg p off) (d.reg p off) v

/-- A change refused by the condition a rule sets (R854): the word keeps the old value of the fields in `keep`; a write that
would change one is counted with BAD_STATE. -/
def Dev.guarded (d : Dev) (p off : Nat) (v : Word) (allowed : Bool) (keep : List (Nat × Nat)) : Dev :=
  let m := d.mergeAt p off v
  let changed := keep.any (fun k => fld m.1 k.1 k.2 != fld (d.reg p off) k.1 k.2)
  if allowed || !changed then (d.setReg p off m.1).errs p m.2
  else
    let w := keep.foldl (fun w k => setFld w k.1 k.2 (fld (d.reg p off) k.1 k.2)) m.1
    ((d.setReg p off w).errs p m.2).err p .badState

/-- A producer index `new` after `old` that lies outside a ring of `n` entries, or would put more than n - 1 entries in it (R82). -/
def badIndex (n head old new : Nat) : Bool :=
  decide (n ≤ new) || decide (n ≤ (old + n - head % n) % n + (new + n - old % n) % n)

/-- PAGE_EVENT bits cleared (R62). -/
def Dev.clearEvents (d : Dev) (p : Nat) (v : Word) : Dev :=
  let d := d.onPage p (fun h => { h with event := h.event &&& (BitVec.ofNat 48 v.toNat ^^^ BitVec.allOnes 48) })
  if fld v 48 16 = 0 then d else d.err p .reservedSet

/-- PAGE_EVENT_MASK written: a message for each newly unmasked bit that is already set (R62). -/
def Dev.writeMask (d : Dev) (p : Nat) (v : Word) : Dev :=
  let h := d.page p
  let new := BitVec.ofNat 48 v.toNat
  let h' := { h with mask := new, vector := fld v 48 8 }
  let d := d.setPage p h'
  let n := ((List.range 48).filter (fun i => h.mask.getLsbD i && !new.getLsbD i && h.event.getLsbD i)).length
  let d := (List.range n).foldl (fun d _ => d.msix (fld v 48 8)) d
  if fld v 56 8 = 0 then d else d.err p .reservedSet

/-- PAGE_COMMIT written (R73): refused while LOCKED. -/
def Dev.writeCommit (d : Dev) (p : Nat) (v : Word) : Dev :=
  let h := d.page p
  let d := if fld v 7 57 = 0 then d else d.err p .reservedSet
  let d := if bit v 6 = h.locked then d else d.err p .readOnly
  if h.locked && (fld v 0 4 != h.group || bit v 4 != h.bound || bit v 5 != h.arm) then d.err p .locked
  else d.onPage p (fun h => if h.locked then h else { h with group := fld v 0 4, bound := bit v 4, arm := bit v 5 })

end Sys2Proof.Machine
end

