-- ==== Sys2Proof/Machine/Wire.lean ====
section
/-! DEFINITION. The units that send frames on lanes: media ports 0 to 7 and the Mirror Link as 8, and what a frame is on the wire. -/

namespace Sys2Proof.Machine
open Sys2Proof

/-- A port, or the Mirror Link as 8. -/
def Dev.plink (d : Dev) (u : Nat) : PortLink := tabGetD {} d.lanes.links u

/-- A port's link state changed. -/
def Dev.onPlink (d : Dev) (u : Nat) (f : PortLink → PortLink) : Dev :=
  { d with lanes := { d.lanes with links := tabPutD {} d.lanes.links u (f (d.plink u)) } }

/-- The lanes of a port or of the Mirror Link. -/
def lanesOf (u : Nat) : List Nat :=
  if u < 8 then (List.range 4).map (fun i => 4 * u + i) else if u = 8 then (List.range 8).map (fun i => 32 + i) else []

/-- PORT_CFG of a media port. -/
def Dev.portCfg (d : Dev) (p : Nat) : Word := d.reg (pgPort p) 0x048

/-- Dense-X4, for a port; the Mirror Link has the same rate and coding. -/
def Dev.dense (d : Dev) (u : Nat) : Bool := decide (8 ≤ u) || bit (d.portCfg u) 1

/-- The columns of a frame that leaves now, by lane, with an ||A|| column after it when one was due in it; the gap of a media port's frame; and the
port's count of them (R632 to R635, R639). -/
def Dev.transmit (d : Dev) (u : Nat) (b : List Byte) : Dev × List (List Sym) × Nat :=
  let w := (lanesOf u).length
  let cols := frameColumns w b
  let n := cols.length
  let x := d.plink u
  let k := columnsIn (d.now - x.marker)
  let late := d.dense u && decide ((k - 1) / 64 < (k + n - 1) / 64)
  let cols := if late then cols ++ [List.replicate w symA] else cols
  let cols := if decide (u < 8) && bit (d.portCfg u) 5 then cols.map List.reverse else cols
  let g := gapAfter x.deficit (b.length + 8)
  (d.onPlink u (fun x => { x with
    marker := if late then x.marker + columnTime (k + n) else x.marker
    deficit := g.2 }), cols, g.1)

end Sys2Proof.Machine
end

