-- ==== Sys2Proof/Machine/Link.lean ====
section
/-! DEFINITION. The Mirror Link protocol's frames (chapter 14): how a unit numbers, orders, sends and accepts them, and what it notes for
its manifest, its decision log and its digests. -/

namespace Sys2Proof.Machine
open Sys2Proof

/-- CRC-64 of R683: polynomial 0x42F0E1EBA9EA3693, reflected, one bit and one byte. -/
def crc64Bit (c : Nat) : Nat := if c % 2 = 1 then (c / 2) ^^^ 0xC96C5795D7870F42 else c / 2
def crc64Byte (c : Nat) (b : Byte) : Nat := crc64Bit (crc64Bit (crc64Bit (crc64Bit (crc64Bit (crc64Bit (crc64Bit (crc64Bit (c ^^^ b.toNat))))))))
def crc64 (l : List Byte) : Word := BitVec.ofNat 64 ((l.foldl crc64Byte 0xFFFFFFFFFFFFFFFF) ^^^ 0xFFFFFFFFFFFFFFFF)

/-- The unit is a pair's (R652) and runs its firmware (Table 16-2). -/
def Dev.paired (d : Dev) : Bool := decide (d.pair.role ≠ .solo) && (decide (d.boot.phase = .role) || decide (d.boot.phase = .ready))

/-- The unit is PRIMARY with a READY partner (R74). -/
def Dev.mirrored (d : Dev) : Bool := decide (d.pair.role = .primary) && decide (d.pair.partner = .ready)

/-- From J on the primary sends manifests, logs, commands and register writes (R667, R670). -/
def Dev.joined (d : Dev) : Bool :=
  decide (d.pair.role = .primary) && (decide (d.pair.partner = .joining) || decide (d.pair.partner = .ready)) && d.pair.joinAt.isSome

/-- A secondary takes the decisions of Table 4-9 and their like from the log (R193, R378, R401). -/
def Dev.decides (d : Dev) : Bool := decide (d.pair.role ≠ .secondary)

/-- The timing rules of R677 hold. -/
def Dev.pairTimed (d : Dev) : Bool :=
  d.paired && (decide (d.pair.partner = .joining) || decide (d.pair.partner = .ready) || decide (d.now < d.pair.timed677))

/-- The pair's state changed by `f`. -/
def Dev.onPair (d : Dev) (f : Pair → Pair) : Dev := { d with pair := f d.pair }

/-- Frames of the link with their type codes (Table 14-6). -/
def ltHello : Nat := 0x01
def ltAck : Nat := 0x02
def ltManifest : Nat := 0x03
def ltManifestAck : Nat := 0x04
def ltLog : Nat := 0x05
def ltDigest : Nat := 0x06
def ltRelayReq : Nat := 0x07
def ltRelayData : Nat := 0x08
def ltCommand : Nat := 0x09
def ltRegWrite : Nat := 0x0A
def ltKey : Nat := 0x0B
def ltState : Nat := 0x0C
def ltSurrender : Nat := 0x0D
def ltTakeover : Nat := 0x0E
def ltImage : Nat := 0x0F

/-- The place of a type in the order of R663; HELLO comes first and a lone ACK last. -/
def linkRank (t : Nat) : Nat :=
  if t = ltHello ∨ t = ltKey then 0
  else if t = ltSurrender ∨ t = ltTakeover then 1
  else if t = ltManifest ∨ t = ltManifestAck then 2
  else if t = ltLog then 3
  else if t = ltDigest then 4
  else if t = ltCommand ∨ t = ltRegWrite then 5
  else if t = ltRelayReq ∨ t = ltRelayData then 6
  else if t = ltState then 7
  else if t = ltImage then 8
  else 9

/-- The bytes of a frame (Table 14-5). -/
def Dev.linkBytes (d : Dev) (f : LinkFrame) : List Byte :=
  let b := leBytes 1 f.type ++ leBytes 1 (if f.last then 1 else 0) ++ leBytes 2 f.bytes.length ++ leBytes 4 f.seq ++ leBytes 4 d.pair.rxSeq ++
    leBytes 4 (d.now / msT) ++ f.bytes
  b ++ leBytes 4 (crc32 b)

/-- A frame on the wire of the Mirror Link (R639). -/
def Dev.emitLink (d : Dev) (f : LinkFrame) : Dev :=
  let b := d.linkBytes f
  let r := d.transmit 8 b
  r.1.emit (.link f.type b r.2.1)

/-- One frame ready goes out while fewer than 8,192 are not acknowledged (R662, R663). -/
def Dev.linkNext (d : Dev) : Dev :=
  match (sortBy (fun (a b : LinkFrame) => decide (linkRank a.type < linkRank b.type)) d.pair.ready) with
  | [] => d
  | f :: rest =>
    if 8192 ≤ d.pair.sent.length then d
    else
      let f := { f with seq := d.pair.txSeq }
      let d := d.emitLink f
      { d with pair := { d.pair with
        ready := rest
        sent := d.pair.sent ++ [f]
        txSeq := (d.pair.txSeq + 1) % 4294967296
        txAt := d.now
        ackAt := if d.pair.sent.isEmpty then d.now else d.pair.ackAt } }

/-- Every frame that may go out goes out. -/
def Dev.linkPump (d : Dev) : Dev := (List.range d.pair.ready.length).foldl (fun (d : Dev) _ => d.linkNext) d

/-- A payload cut into frames of at most 9,472 bytes; the final one has LAST. -/
def linkCut : Nat → Nat → Option Time → List Byte → List LinkFrame
  | 0, _, _, _ => []
  | fuel + 1, t, p, l => if l.length ≤ 9472 then [⟨0, t, true, l, p⟩] else ⟨0, t, false, l.take 9472, p⟩ :: linkCut fuel t p (l.drop 9472)

/-- A message for the partner; nothing is sent while the link is not UP. -/
def Dev.linkSendAt (d : Dev) (t : Nat) (proc : Option Time) (l : List Byte) : Dev :=
  if !d.pair.up then d
  else ({ d with pair := { d.pair with ready := d.pair.ready ++ linkCut (l.length / 9472 + 1) t proc l } }).linkPump
def Dev.linkSend (d : Dev) (t : Nat) (l : List Byte) : Dev := d.linkSendAt t none l

/-- The 64 bytes of a command (Table 2-15). -/
def cmdBytes (opcode : Nat) (c : HostCmd) : List Byte :=
  leBytes 2 opcode ++ [c.flags, c.rsvd] ++ leBytes 4 c.tag.toNat ++ leBytes 8 c.when0.toNat ++ leBytes 8 c.when1.toNat ++ leBytes 40 c.args.toNat

/-- A COMMAND frame: the command, its processing time and the data read for it (Table 14-6). -/
def Dev.sendCommand (d : Dev) (opcode : Nat) (c : HostCmd) (proc : Time) (data : List Byte) : Dev :=
  d.linkSendAt ltCommand (some proc) (cmdBytes opcode c ++ leBytes 8 (shortOf proc).toNat ++ data)

/-- The boundary at which a unit restarts: its own, or B of a surrender when it is PRIMARY with a READY secondary (R771). -/
def Dev.restartBoundary (d : Dev) (own : Time) : Dev × Time :=
  if !d.mirrored then (d, own)
  else match d.pair.surrender with
    | some t => (d, t)
    | none =>
      let b := epochCeil (d.now + 2 * msT)
      ((d.onPair (fun p => { p with surrender := some b })).linkSend ltSurrender (leBytes 8 (shortOf b).toNat), b)

/-- The object that commands sent to the partner with TARGET 1 wait on (R812). -/
def partnerObj : Nat := 4294967296

/-- FREEZE_NOW, which waits for the FROZEN indication instead (R803). -/
def opFreezeNow : Nat := 0x0F02

/-- Commands sent to the partner complete, with the partner's result, once no COMMAND frame awaits its acknowledgement (R812, log
entry 34). -/
def Dev.partnerAnswers (d : Dev) : Dev :=
  if (d.pair.sent ++ d.pair.ready).any (fun f => f.type == ltCommand) then d
  else
    let mine (w : Wait) : Bool := w.obj == partnerObj && w.tok.opcode != opFreezeNow
    let ws := d.ctl.waits.filter mine
    let d := { d with ctl := { d.ctl with waits := d.ctl.waits.filter (fun w => !mine w) } }
    ws.foldl (fun (d : Dev) w =>
      let r := Config.partnerReply d.ctl.free
      let st := ([.ok, .badArg, .stateConflict, .refusedPolicy, .faulted, .aborted, .timeout] : List Status)
      (d.tickFree).complete w.tok (nthD .ok st (r.1 % 7)) (r.2.1 % 65536) r.2.2) d

/-- A frame received: accepted when its CRC is right and its SEQ is the next, else discarded and counted; its ACK releases what was sent
(R661). -/
def Dev.linkAccept (d : Dev) (f : LinkHdr) (g : Dev → Dev) : Dev :=
  if !d.pair.up then d
  else if !f.crcOk || f.seq != d.pair.rxSeq then d.inc pgPair 0x0C8
  else
    let rest := d.pair.sent.filter (fun x => (x.seq + 4294967296 - f.ack) % 4294967296 < 2147483648)
    let moved := decide (rest.length < d.pair.sent.length)
    let d := { d with pair := { d.pair with
      rxSeq := (d.pair.rxSeq + 1) % 4294967296
      rxAt := d.now
      sent := rest
      ackAt := if moved then d.now else d.pair.ackAt } }
    g (d.linkPump).partnerAnswers

/-- A record for the decision log of the open epoch (R678). -/
def Dev.record (d : Dev) (kind obj : Nat) (vals : List Int) : Dev :=
  if d.joined then { d with pair := { d.pair with log := d.pair.log ++ [⟨d.now / msT, kind, obj, vals⟩] } } else d

/-- An RTP packet built for a leg, noted for its digest (Table 14-10). -/
def Dev.noteBuilt (d : Dev) (l : Nat) (b : List Byte) : Dev :=
  if d.paired then { d with pair := { d.pair with built := d.pair.built ++ [⟨d.pair.content, l, beAt b 8 4, b⟩] } } else d

/-- What is built from here on belongs to the epoch of an instant (R683). -/
def Dev.contentAt (d : Dev) (t : Time) : Dev := { d with pair := { d.pair with content := t / msT } }

/-- A packet of a leg accepted by a primary: its manifest entry, the packet kept for relay, and the entry that what it causes waits for
(R672, R674, R675). -/
def Dev.manifestEntry (d : Dev) (x : Stash) : Dev :=
  let d := d.contentAt x.stamp
  if !d.joined then d
  else
    let i := d.pair.index
    let d := { d with pair := { d.pair with
      index := i + 1
      count := d.pair.count + 1
      cur := some i
      kept := (d.pair.kept.filter (fun (e : Nat × Stash) => decide (d.now / msT < e.2.stamp / msT + 10))) ++ [(i, x)] } }
    (d.inc pgPair 0x070).linkSend ltManifest (leBytes 2 x.leg ++ leBytes 1 x.stream ++ [0] ++ leBytes 4 x.seq ++ leBytes 8 (shortOf x.stamp).toNat)

/-- PAIR events (Table 14-16). -/
def Dev.pairEvent (d : Dev) (b : Nat) (d2 d3 : Nat) : Dev := d.raise pgPair b 0x140 (0x0C01 + b) (fmk 0 64 d2) (fmk 0 64 d3)

end Sys2Proof.Machine
end

