-- ==== Sys2Proof/Machine/Command.lean ====
section
/-! DEFINITION. The commands of the host rings: the order of checks (R87), the reserved bytes (R860), the completion, and
the one path by which a command's row, COMMAND_FETCH and COMMAND_EFFECT all run it. -/

namespace Sys2Proof.Machine
open Sys2Proof

/-- A check that a command may fail: the status it gives, its DETAIL, and whether it fails. -/
structure Chk where
  st : Status
  detail : Nat
  bad : Bool
  deriving DecidableEq, Repr

/-- How a command's effect answers: complete now, or wait for an event on an object. -/
inductive Reply where
  | done (st : Status) (detail : Nat) (result : Word)
  | later (obj aux : Nat)
  deriving DecidableEq, Repr

/-- The order of the checks (R87, Table 2-18). -/
def checkOrder : List Status := [.badOpcode, .realmDenied, .badArg, .stateConflict, .noResource, .refusedPolicy, .partnerUnavailable]

/-- The least DETAIL of a list of failed checks. -/
def leastDetail (l : List Chk) : Option Nat := l.foldl (fun m c => some (match m with
  | some n => min n c.detail
  | none => c.detail)) none

/-- The first failing check in the order of R87. Within BAD_ARG, DETAIL locates the first bad field (Table 2-16): the least location, the
command before what it names; within another status, the first listed. -/
def firstFail (l : List Chk) : Option (Status × Nat) :=
  checkOrder.findSome? (fun st =>
    let bad := l.filter (fun c => c.bad && decide (c.st = st))
    (if st = .badArg then leastDetail bad else (bad.head?).map (fun c => c.detail)).map (fun n => (st, n)))

/-- An opcode: who may use it, the ARGS bytes it defines, the bytes it captures at processing time, its checks, and its
effect. -/
structure OpSpec where
  opcode : Nat
  ownerOnly : Bool := false
  args : List (Nat × Nat) := []
  /-- Bytes read from memory at processing time; `none` when they cannot be read. -/
  capture : HostCmd → Dev → Option (List Byte) := fun _ _ => some []
  /-- Checks over the command alone. -/
  checks : HostCmd → State → List Chk := fun _ _ => []
  /-- Checks over the captured bytes too. -/
  dchecks : HostCmd → List Byte → State → List Chk := fun _ _ _ => []
  run : HostCmd → List Byte → Token → State → State × Reply
  /-- What a check that fails does beyond its completion. -/
  rejected : HostCmd → Status → Dev → Dev := fun _ _ d => d
  /-- The command acts when it is processed, not at a boundary (R74 does not apply to it). -/
  atOnce : Bool := false

/-- DETAIL of a bad ARGS byte `k` (R859). -/
def argOff (k : Nat) : Nat := 24 + k

/-- DETAIL of a bad byte `k` of a named descriptor or table (R859); an offset above 32,767, which its 15 bits do not hold, is taken modulo
32,768 (DESIGN CHOICE, log entry 85). -/
def descOff (k : Nat) : Nat := 0x8000 + k % 0x8000

/-- BAD_ARG at ARGS byte `k` when `b` holds. -/
def badArg (k : Nat) (b : Bool) : Chk := ⟨.badArg, argOff k, b⟩

/-- BAD_ARG at descriptor byte `k` when `b` holds. -/
def badDesc (k : Nat) (b : Bool) : Chk := ⟨.badArg, descOff k, b⟩

/-- STATE_CONFLICT with a state code when `b` holds (R88). -/
def conflict (code : Nat) (b : Bool) : Chk := ⟨.stateConflict, code, b⟩

/-- REALM_DENIED when `b` holds (R79). -/
def denied (b : Bool) : Chk := ⟨.realmDenied, 0, b⟩

/-- NO_RESOURCE when `b` holds. -/
def noRes (b : Bool) : Chk := ⟨.noResource, 0, b⟩

/-- REFUSED_POLICY when `b` holds. -/
def refusedIf (b : Bool) : Chk := ⟨.refusedPolicy, 0, b⟩

/-- PARTNER_UNAVAILABLE when `b` holds. -/
def noPartner (b : Bool) : Chk := ⟨.partnerUnavailable, 0, b⟩

/-- ARGS bytes that the opcode does not define (R860). -/
def OpSpec.undefined (o : OpSpec) : List Nat :=
  (List.range 40).filter (fun k => !(o.args.any (fun r => decide (r.1 ≤ k) && decide (k < r.1 + r.2))))

/-- The checks every command has: the owner's opcodes (R79), reserved FLAGS, byte 3 and undefined ARGS bytes (R860), and the
timestamp, which must be valid whether the command is DATED or not (R11, R86). -/
def commonChecks (o : OpSpec) (c : HostCmd) (now : Time) : List Chk :=
  [denied (o.ownerOnly && c.realm != 0),
   ⟨.badArg, 2, decide (4 ≤ c.flags.toNat)⟩,
   ⟨.badArg, 3, c.rsvd != 0⟩,
   ⟨.badArg, 8, !fullValid c.when0 c.when1⟩,
   ⟨.badArg, 8, c.dated && decide (now + 86400 * secT < fullTime c.when0 c.when1)⟩] ++
  o.undefined.map (fun k => badArg k (c.arg k 1 != 0))

/-- Opcodes that a SECONDARY carries out: NOP, PAIR_QUERY and the queries (R656). -/
def secondaryOps : List Nat := [0x0000, 0x0C04, 0x020D, 0x0304, 0x0404, 0x0508, 0x0605, 0x0708, 0x0808, 0x0902, 0x0A01, 0x0B01]

/-- A SECONDARY refuses every other command that its own host places (R656). -/
def roleCheck (o : OpSpec) (relayed : Bool) (s : State) : Chk :=
  refusedIf (decide (s.dev.pair.role = .secondary) && !relayed && !secondaryOps.contains o.opcode)

/-- The first failing check of a command, or FAULTED when the bytes it names cannot be read. -/
def OpSpec.verdict (o : OpSpec) (c : HostCmd) (relayed : Bool) (data : Option (List Byte)) (s : State) : Option (Status × Nat) :=
  match data with
  | some l => firstFail (commonChecks o c s.dev.now ++ o.checks c s ++ o.dchecks c l s ++ [roleCheck o relayed s])
  | none => match firstFail (commonChecks o c s.dev.now ++ o.checks c s ++ [roleCheck o relayed s]) with
    | some r => some r
    | none => some (.faulted, 0)

/-- The state with a change of its resettable part. -/
def State.onDev (s : State) (f : Dev → Dev) : State := s.setDev (f s.dev)

/-- An effect's answer: the completion, OK becoming LATE when the effect came after its stated time (R75), one without effect with a free RESULT
(log entry 8), or the wait, which keeps that. -/
def answer (k : Token) (late : Bool) (r : State × Reply) : State :=
  match r.2 with
  | .done st detail result =>
    r.1.onDev (fun d => if st = .ok then d.complete k (if late then .late else .ok) detail result else d.refuse k st detail)
  | .later obj aux =>
    r.1.onDev (fun d => { d with ctl := { d.ctl with waits := d.ctl.waits ++ [⟨k, obj, aux, d.now, late⟩] } })

/-- The pass number that marks a command the primary relayed: its completion is posted nowhere (R692). -/
def relayGen : Nat := 18446744073709551616

/-- The command came over the Mirror Link. -/
def Token.relayed (k : Token) : Bool := k.gen == relayGen

/-- A command checked against the bytes it captured and, when every check passes, carried out (R87, R855). -/
def OpSpec.perform (o : OpSpec) (k : Token) (late : Bool) (data : Option (List Byte)) (s : State) : State :=
  match o.verdict k.cmd k.relayed data s with
  | some (st, detail) => s.onDev (fun d => (o.rejected k.cmd st d).refuse k st detail)
  | none => answer k late (o.run k.cmd (data.getD []) k s)

/-! ### Taking a command (R74, R83 to R91) -/

/-- The earliest applicable time of a command (R74). -/
def Dev.earliest (d : Dev) : Time := if d.mirrored || decide (d.now < d.pair.timed74) then d.now + 250 * usT else d.now

/-- DATED commands pending across the device (R86). -/
def Dev.datedPending (d : Dev) : Nat :=
  (d.ctl.accepted.filter (fun a => a.tok.cmd.dated)).length + (d.ctl.groups.filter (fun e => e.2.tok.cmd.dated)).length

/-- The verdict with the limit on DATED commands at the place of NO_RESOURCE (R86, R87). -/
def datedFull (v : Option (Status × Nat)) (full : Bool) : Option (Status × Nat) :=
  match v with
  | none => if full then some (.noResource, 0) else none
  | some (st, n) => if full && (decide (st = .refusedPolicy) || decide (st = .partnerUnavailable) || decide (st = .faulted)) then some (.noResource, 0) else some (st, n)

/-- The ARGS byte that holds TARGET, for commands that name a unit of the pair (R765, R812). -/
def targetByte (opcode : Nat) : Option Nat :=
  if 0x0E00 ≤ opcode ∧ opcode ≤ 0x0E07 then some 0
  else if opcode = 0x0F00 ∨ opcode = 0x0F01 then some 3
  else if opcode = 0x0F02 ∨ opcode = 0x0F03 then some 0
  else none

/-- A command that stays on the unit that takes it (R812). -/
def staysHere (k : Token) : Bool := match targetByte k.opcode with
  | some b => k.cmd.arg b 1 == 0
  | none => false

/-- SPK_LAYOUT_LOAD: its data is computed on first, and its DATED is ignored (R428). -/
def Token.computes (k : Token) : Bool := k.opcode == 0x0700

/-- The time from which a command takes effect, and whether that is late (R75, R85, R428, R500). -/
def Dev.effectTime (d : Dev) (k : Token) : Time × Bool :=
  let w := fullTime k.cmd.when0 k.cmd.when1
  let dated := k.cmd.dated && !k.computes
  let late := dated && decide (w < d.earliest)
  let t := if dated && !late then w else d.earliest
  let t := if k.opcode = 0x0802 ∨ k.opcode = 0x0805 then max t (d.now + msT) else t
  (max (epochCeil t) (d.clk.nextEpoch * msT), late)

/-- The units have acted on the blocks that end at `t`, and on every earlier epoch boundary: what is due at `t` may take effect (R26, R35). -/
def Dev.boundaryOpen (d : Dev) (t : Time) : Bool := decide (t < blockAt d.clk.nextBlock) && decide (t ≤ d.clk.nextEpoch * msT)

/-- A command that takes effect as it is processed: one that acts at once, or one of its own row that stands at the boundary of its effect;
and whether it is late. -/
def OpSpec.actsNow (o : OpSpec) (k : Token) (d : Dev) : Option Bool :=
  if o.atOnce then some false
  else
    let e := d.effectTime k
    if k.direct && !k.computes && decide (e.1 ≤ d.now) && d.boundaryOpen e.1 then some e.2 else none

/-- A command held for its boundary, or until its computation ends (R85, R428). -/
def Dev.holdCommand (d : Dev) (a : Accepted) : Dev :=
  { d with ctl := if a.tok.computes then { d.ctl with computing := d.ctl.computing ++ [a] } else { d.ctl with accepted := d.ctl.accepted ++ [a] } }

/-- A command whose checks pass is relayed to the partner, and carried out now or held for its boundary (R85, R670). -/
def State.takeOn (s : State) (o : OpSpec) (k : Token) (data : List Byte) : State :=
  let s := if s.dev.joined && !staysHere k then s.onDev (fun d => d.sendCommand k.opcode k.cmd d.now data) else s
  match o.actsNow k s.dev with
  | some late => o.perform k late (some data) s
  | none =>
    let e := s.dev.effectTime k
    let b := if (k.opcode = 0x0E04 ∨ k.opcode = 0x0E06) ∧ staysHere k = true then s.dev.restartBoundary e.1 else (s.dev, e.1)
    s.setDev (b.1.holdCommand ⟨k, b.2, e.2, data⟩)

/-- A command is checked in the order of Table 2-18 as it is processed (R87); `took` is what its ring counts once it is accepted. -/
def State.process (s : State) (o : OpSpec) (k : Token) (took : State → State) : State :=
  let data := o.capture k.cmd s.dev
  match datedFull (o.verdict k.cmd false data s) (k.cmd.dated && decide (8192 ≤ s.dev.datedPending)) with
  | some (st, n) => s.onDev (fun d => (o.rejected k.cmd st d).refuse k st n)
  | none => (took s).takeOn o k (data.getD [])

/-- The token of a command that its own row carries. -/
def OpSpec.token (o : OpSpec) (c : HostCmd) (s : State) : Token := ⟨c, o.opcode, 0, (s.dev.ring c.realm c.ring).gen, true⟩

/-- A command's row: the command is processed, and takes effect in the step when the unit stands at its boundary; otherwise it is accepted and
waits for that boundary (R33, R85, log entry 13). -/
def runCmd (o : OpSpec) (c : HostCmd) (s : State) : State := s.actAllReady (fun s => s.process o (o.token c s) id)

/-- An effect over the resettable part alone. -/
def devRun (f : HostCmd → List Byte → Token → Dev → Dev × Reply) (c : HostCmd) (l : List Byte) (k : Token) (s : State) : State × Reply :=
  let r := f c l k s.dev
  (s.setDev r.1, r.2)

/-- OK with the present instant as RESULT (Table 2-16). -/
def Dev.okNow (d : Dev) (detail : Nat) : Dev × Reply := (d, .done .ok detail d.short)

/-- The unit's egress leaves the block: SOLO or PRIMARY (Table 14-2). -/
def Dev.active (d : Dev) : Bool := decide (d.pair.role = .solo) || decide (d.pair.role = .primary)

/-- Memory of a realm captured by a command: `n` bytes at `va`. -/
def captureVa (d : Dev) (realm va n : Nat) : Option (List Byte) :=
  match d.readVa realm va n with
  | .ok l => some l
  | .error _ => none

/-- The same, from a PINNED mapping only. -/
def capturePinned (d : Dev) (realm va n : Nat) : Option (List Byte) :=
  if d.pinned realm va n then captureVa d realm va n else none

end Sys2Proof.Machine
end

