-- ==== Sys2Proof/Machine/Lanes.lean ====
section
/-! DEFINITION. Serial lanes and media ports (chapter 13): training, power, test and the port's link state. -/

namespace Sys2Proof.Machine
open Sys2Proof

/-- The codes of Table 13-3. -/
def Train.code : Train → Nat
  | .off => 0 | .idle => 1 | .cdrWait => 2 | .commaSearch => 3 | .deskew => 4 | .linkUp => 5 | .noPartner => 6 | .isolated => 7

/-- A lane. -/
def Dev.lane (d : Dev) (l : Nat) : Lane := tabGetD {} d.lanes.lanes l

/-- A lane replaced. -/
def Dev.setLane (d : Dev) (l : Nat) (x : Lane) : Dev := { d with lanes := { d.lanes with lanes := tabPutD {} d.lanes.lanes l x } }

/-- A lane changed. -/
def Dev.onLane (d : Dev) (l : Nat) (f : Lane → Lane) : Dev := d.setLane l (f (d.lane l))

/-- The port of a lane, 8 for the Mirror Link. -/
def unitOf (l : Nat) : Nat := if l < 32 then l / 4 else 8

/-- LANE_CFG and PRBS_CFG of a lane. -/
def Dev.laneCfg (d : Dev) (l : Nat) : Word := d.reg (pgQuad (l / 4)) (0x100 + 0x40 * (l % 4))
def Dev.prbsCfg (d : Dev) (l : Nat) : Word := d.reg (pgQuad (l / 4)) (0x110 + 0x40 * (l % 4))

/-- The lane's port is enabled; the Mirror Link has no enable (R625). -/
def Dev.laneEnabled (d : Dev) (l : Nat) : Bool := decide (32 ≤ l) || bit (d.portCfg (l / 4)) 0

/-- TX and RX power states in force (R625). -/
def Dev.txPwr (d : Dev) (l : Nat) : Nat := if d.laneEnabled l then fld (d.laneCfg l) 0 2 else 0
def Dev.rxPwr (d : Dev) (l : Nat) : Nat := if d.laneEnabled l then fld (d.laneCfg l) 2 2 else 0

/-- A lane counter (Table 13-10). -/
def laneCtr (l off : Nat) : Nat := off + 0x40 * (l % 4)

/-- Lane-to-lane skew that the receiver tolerates, in UI (R631, R633). -/
def Dev.skewLimit (d : Dev) (u : Nat) : Nat := if d.dense u then 160 else 60

/-- The fixed latencies of Table 13-8, in ps (R646). -/
def Dev.rxLat (d : Dev) (p : Nat) : Nat := if d.dense p then 12800 else 41600
def Dev.txLat (d : Dev) (p : Nat) : Nat := if d.dense p then 11200 else 35200

/-- The lane that carries lane `j` of a port's columns (R611). -/
def Dev.wireLane (d : Dev) (p j : Nat) : Nat := if 8 ≤ p then 32 + j else if bit (d.portCfg p) 5 then 4 * p + (3 - j) else 4 * p + j

/-- An ingress stamp: the instant at the lane boundary referred to the ball by the mode's latency and the lane's measured skew, of 80 ps a UI in
Dense-X4 and 320 ps in 10GBASE-X4 (R103, R105, R646). -/
def Dev.rxStamp (d : Dev) (p : Nat) (t : Time) : Time :=
  laneStamp t (d.rxLat p + (d.lane (d.wireLane p 0)).skew * (if d.dense p then 80 else 320))

/-- The egress stamp of a frame that leaves now (R104, R105, R646). -/
def Dev.txStamp (d : Dev) (p : Nat) : Time := laneStamp d.now (d.txLat p)

/-- Lanes of a unit in LINK_UP, as a mask. -/
def Dev.upMask (d : Dev) (u : Nat) : Nat :=
  sumN ((List.range (lanesOf u).length).map (fun i => if (d.lane (nthD 0 (lanesOf u) i)).train = .linkUp then 2 ^ i else 0))

/-- The largest skew of a port. -/
def Dev.maxSkew (d : Dev) (u : Nat) : Nat := maxN ((lanesOf u).map (fun l => (d.lane l).skew))

/-- LOCAL_FAULT (R637). -/
def Dev.localFault (d : Dev) (p : Nat) : Bool := bit (d.portCfg p) 0 && !(d.plink p).up

/-- PORT_STATUS (Table 13-12); lane 0 of the port stands in bit 4, whichever lane carries it (R611). -/
def Dev.portStatus (d : Dev) (p : Nat) : Word :=
  let m := d.upMask p
  let m := if bit (d.portCfg p) 5 then sumN ((List.range 4).map (fun i => if m.testBit i then 2 ^ (3 - i) else 0)) else m
  fmkB 0 (d.plink p).up ||| fmkB 1 (d.localFault p) ||| fmkB 2 (d.plink p).remote ||| fmk 4 4 m ||| fmk 8 8 (satN 255 (d.maxSkew p))

/-- LANE_STATUS (Table 13-10). -/
def Dev.laneStatus (d : Dev) (l : Nat) : Word :=
  let x := d.lane l
  fmk 0 3 x.train.code ||| fmkB 4 x.signal ||| fmkB 5 x.cdr ||| fmkB 6 x.aligned ||| fmk 8 4 (satN 15 x.tries) |||
  fmk 12 4 (satN 15 x.slips) ||| fmk 16 8 (satN 255 x.skew) ||| fmk 24 2 (d.txPwr l) ||| fmk 26 2 (d.rxPwr l) |||
  fmkB 28 (d.obs.bistSaved.any (fun e => e.1 == l))

/-- A port sends remote-fault ordered sets: it is in LOCAL_FAULT and its transmitters are ON (R637). -/
def Dev.tells (d : Dev) (p : Nat) : Bool := d.localFault p && (lanesOf p).all (fun l => d.txPwr l == 2)

/-- What a port tells its partner follows its state. -/
def Dev.tellFault (d : Dev) (p : Nat) : Dev :=
  if 8 ≤ p ∨ d.tells p = (d.plink p).telling then d
  else (d.onPlink p (fun x => { x with telling := d.tells p })).emit (.faultSets p (d.tells p))

/-- Every transmitter of a unit is ON (R633). -/
def Dev.sending (d : Dev) (u : Nat) : Bool := (lanesOf u).all (fun l => d.txPwr l == 2)

/-- A change of power over a unit's lanes: its columns count from the instant its transmitters reach ON, 100 µs from OFF and 1 µs from IDLE
(Table 13-5, R633), and what it tells its partner follows. -/
def Dev.powered (d : Dev) (u : Nat) (f : Dev → Dev) : Dev :=
  let was := d.sending u
  let wake := if (lanesOf u).any (fun l => d.txPwr l == 0) then 100 * usT else usT
  let d := f d
  let d := if !was && d.sending u then d.onPlink u (fun x => { x with marker := d.now + wake }) else d
  d.tellFault u

/-- Code errors of received columns, counted in each lane's CODE_ERR (R608, R609). -/
def Dev.codeErrors (d : Dev) (u : Nat) (cols : List (List Sym)) : Dev :=
  (List.range (lanesOf u).length).foldl (fun d j =>
    let l := d.wireLane u j
    let n := (cols.filter (fun c => symError (nthD (.data 0) c j))).length
    if n = 0 then d else d.bump (pgQuad (l / 4)) (laneCtr l 0x118) n) d

/-- A lane's event (R648): `k` 0 LANE_UP, 1 LANE_DOWN, 2 NO_PARTNER, 3 PRBS_LOCK_LOST. -/
def Dev.laneEvent (d : Dev) (l k : Nat) (t : Train) (d3 : Word) : Dev :=
  d.raise (pgQuad (l / 4)) (4 * (l % 4) + k) (0x100 + l) (0x0B01 + k) (fmk 0 64 t.code) d3

/-- UP follows from the lanes (R619): a change is dated, logged and counted (R648, R651). -/
def Dev.plinkUpdate (d : Dev) (u : Nat) : Dev :=
  let up := (lanesOf u).all (fun l => decide ((d.lane l).train = .linkUp))
  if up = (d.plink u).up then d
  else
    let d := d.onPlink u (fun p => { p with up := up, changed := d.now })
    if u = 8 then d.report ⟨0x140, if up then 0x0B21 else 0x0B22, d.stamp, 0, 0⟩
    else
      let d := d.tellFault u
      let d := if up then d else d.inc (pgPort u) 0x0E0
      d.raise (pgPort u) (if up then 0 else 1) (0x0E0 + u) (if up then 0x0B11 else 0x0B12) (d.portStatus u) 0

/-- A lane leaves LINK_UP, or any state, for `t`: what it had is forgotten. -/
def Lane.enter (x : Lane) (t : Train) : Lane :=
  { x with train := t, cdr := false, aligned := false, slips := 0, skew := 0, rest := none, comma := false, run := 0, retry := false }

/-- A lane enters CDR_WAIT and starts a try (R612). -/
def Lane.startTry (x : Lane) (now : Time) (retry : Bool) : Lane := { x.enter .cdrWait with tryAt := now, retry := retry }

/-- The other lanes of a unit that has a lane out of LINK_UP wait in DESKEW (R619). -/
def Dev.othersWait (d : Dev) (u : Nat) : Dev :=
  (lanesOf u).foldl (fun d l =>
    if (d.lane l).train = .linkUp then
      (d.onLane l (fun x => { x with train := .deskew, aligned := true, alignedAt := d.now })).laneEvent l 1 .linkUp 2
    else d) d

/-- A lane moved by `f`, with LANE_DOWN and its cause when it left LINK_UP; the port and the other lanes follow. -/
def Dev.moveLane (d : Dev) (l : Nat) (f : Lane → Lane) (cause : Word) : Dev :=
  let was := (d.lane l).train
  let d := d.onLane l f
  if was = .linkUp ∧ (d.lane l).train ≠ .linkUp then ((d.laneEvent l 1 .linkUp cause).othersWait (unitOf l)).plinkUpdate (unitOf l)
  else d

/-- A try fails (R616, R617). -/
def Dev.failTry (d : Dev) (l : Nat) : Dev :=
  let x := d.lane l
  let d := d.inc (pgQuad (l / 4)) (laneCtr l 0x120)
  let n := x.tries + 1
  if x.retry then d.setLane l { x.enter .noPartner with tries := n, partnerAt := d.now }
  else if 8 ≤ n then
    (d.setLane l { x.enter .noPartner with tries := n, partnerAt := d.now }).laneEvent l 2 .noPartner (fmk 0 64 n)
  else d.setLane l { x.enter .cdrWait with tries := n, rest := some (d.now + msT) }

/-- The training state that a lane's power and ISOLATE call for (R612, R624 to R626): a lane out of service, or one that comes
back to IDLE. -/
def Dev.repower (d : Dev) (l : Nat) : Dev :=
  let x := d.lane l
  if bit (d.laneCfg l) 7 then (if x.train = .isolated then d else d.moveLane l (fun x => x.enter .isolated) 3)
  else if d.rxPwr l = 0 then (if x.train = .off then d else d.moveLane l (fun x => { x.enter .off with signal := false }) 3)
  else if d.rxPwr l = 1 then (if x.train = .idle then d else d.moveLane l (fun x => x.enter .idle) 3)
  else if x.train = .off ∨ x.train = .isolated then d.onLane l (fun x => x.enter .idle)
  else d

/-- SIGNAL_DETECT: a signal has been present for 10 µs (R612, R623). -/
def Dev.signalDetect (d : Dev) (l : Nat) : Dev :=
  if 40 ≤ l ∨ d.rxPwr l = 0 then d
  else
    let d := d.onLane l (fun x => { x with signal := true })
    let wake := d.rxPwr l == 1 && bit (d.laneCfg l) 4
    let d := if wake then d.setReg (pgQuad (l / 4)) (0x100 + 0x40 * (l % 4)) (setFld (d.laneCfg l) 2 2 2) else d
    if (d.lane l).train = .idle ∧ d.rxPwr l = 2 then d.onLane l (fun x => { x.startTry d.now false with tries := 0 }) else d

/-- The row SIGNAL_DETECT. -/
def execSignalDetect (l : Nat) (s : State) : Host.Outcome State Fault Refusal := .next (s.act (fun d => d.signalDetect l))

/-- The lane trains or is up: CDR_WAIT to NO_PARTNER. -/
def Train.searching (t : Train) : Bool := decide (t ≠ .off) && decide (t ≠ .idle) && decide (t ≠ .isolated)

/-- SIGNAL_LOSS (R613, R618). -/
def Dev.signalLoss (d : Dev) (l : Nat) : Dev :=
  if 40 ≤ l then d
  else
    let d := d.onLane l (fun x => { x with signal := false })
    if (d.lane l).train.searching then d.moveLane l (fun x => x.enter .idle) 0 else d

/-- The row SIGNAL_LOSS. -/
def execSignalLoss (l : Nat) (s : State) : Host.Outcome State Fault Refusal := .next (s.act (fun d => d.signalLoss l))

/-- A try is under way in CDR_WAIT. -/
def Lane.waitsCdr (x : Lane) : Bool := decide (x.train = .cdrWait) && x.rest.isNone

/-- CDR_LOCK (R612). -/
def Dev.cdrLock (d : Dev) (l : Nat) : Dev :=
  if l < 40 ∧ (d.lane l).waitsCdr then
    d.onLane l (fun x => { x with train := .commaSearch, cdr := true, cdrAt := d.now, comma := false, run := 0, slips := 0 })
  else d

/-- The row CDR_LOCK. -/
def execCdrLock (l : Nat) (s : State) : Host.Outcome State Fault Refusal := .next (s.act (fun d => d.cdrLock l))

/-- CDR_TIMEOUT: no lock 1 ms after the try began (R612). -/
def Dev.cdrTimeout (d : Dev) (l : Nat) : Dev :=
  if l < 40 ∧ (d.lane l).waitsCdr ∧ (d.lane l).tryAt + msT ≤ d.now then d.failTry l else d

/-- The row CDR_TIMEOUT. -/
def execCdrTimeout (l : Nat) (s : State) : Host.Outcome State Fault Refusal := .next (s.act (fun d => d.cdrTimeout l))

/-- COMMA_DETECT (R614): `k` bit slips off the word boundary, 0 on it; `err` a code error since the last one (R608). -/
def Dev.commaDetect (d : Dev) (l k : Nat) (err : Bool) : Dev :=
  if 40 ≤ l then d
  else
    let d := if err then d.inc (pgQuad (l / 4)) (laneCtr l 0x118) else d
    let x := d.lane l
    if x.train ≠ .commaSearch then d
    else if k = 0 then
      let run := (if err then 0 else x.run) + 1
      if 4 ≤ run then d.setLane l { x with train := .deskew, aligned := true, alignedAt := d.now, comma := true, run := run }
      else d.setLane l { x with comma := true, run := run }
    else
      let n := min k (10 - x.slips)
      let d := d.bump (pgQuad (l / 4)) (laneCtr l 0x128) n
      let d := d.setLane l { x with comma := true, run := 0, slips := x.slips + n }
      if 10 ≤ x.slips + n then d.failTry l else d

/-- The row COMMA_DETECT. -/
def execCommaDetect (l k : Nat) (err : Bool) (s : State) : Host.Outcome State Fault Refusal :=
  .next (s.act (fun d => d.commaDetect l k err))

/-- COMMA_TIMEOUT: no K28.5 10 ms after CDR lock (R614). -/
def Dev.commaTimeout (d : Dev) (l : Nat) : Dev :=
  let x := d.lane l
  if l < 40 ∧ x.train = .commaSearch ∧ x.comma = false ∧ x.cdrAt + 10 * msT ≤ d.now then d.failTry l else d

/-- The row COMMA_TIMEOUT. -/
def execCommaTimeout (l : Nat) (s : State) : Host.Outcome State Fault Refusal := .next (s.act (fun d => d.commaTimeout l))

/-- Every lane of a unit is aligned and waits in DESKEW. -/
def Dev.deskewing (d : Dev) (u : Nat) : Bool := (lanesOf u).all (fun l => decide ((d.lane l).train = .deskew))

/-- DESKEW_DONE: four ||A|| columns with every lane within tolerance (R615). -/
def Dev.deskewDone (d : Dev) (u : Nat) (skews : List Nat) : Dev :=
  if u ≤ 8 ∧ d.deskewing u ∧ skews.all (fun k => decide (k ≤ d.skewLimit u)) then
    let d := (List.range (lanesOf u).length).foldl (fun d i =>
      let l := nthD 0 (lanesOf u) i
      let d := d.onLane l (fun x => { x with train := .linkUp, skew := nthD 0 skews i, retry := false })
      d.laneEvent l 0 .linkUp (fmk 0 64 (d.lane l).tries)) d
    d.plinkUpdate u
  else d

/-- The row DESKEW_DONE. -/
def execDeskewDone (u : Nat) (skews : List Nat) (s : State) : Host.Outcome State Fault Refusal :=
  .next (s.act (fun d => d.deskewDone u skews))

/-- DESKEW_TIMEOUT: 1 ms after the last lane aligned, every lane records a failed try (R615). -/
def Dev.deskewTimeout (d : Dev) (u : Nat) : Dev :=
  if u ≤ 8 ∧ d.deskewing u ∧ maxN ((lanesOf u).map (fun l => (d.lane l).alignedAt)) + msT ≤ d.now then
    (lanesOf u).foldl (fun d l => d.failTry l) d
  else d

/-- The row DESKEW_TIMEOUT. -/
def execDeskewTimeout (u : Nat) (s : State) : Host.Outcome State Fault Refusal := .next (s.act (fun d => d.deskewTimeout u))

/-- TRY_RETRY: 1 ms after a failed try the next starts (R616). -/
def Dev.tryRetry (d : Dev) (l : Nat) : Dev :=
  match (d.lane l).rest with
  | some t => if l < 40 ∧ (d.lane l).train = .cdrWait ∧ t ≤ d.now then d.onLane l (fun x => x.startTry d.now false) else d
  | none => d

/-- The row TRY_RETRY. -/
def execTryRetry (l : Nat) (s : State) : Host.Outcome State Fault Refusal := .next (s.act (fun d => d.tryRetry l))

/-- NO_PARTNER_RETRY: one try every RETRY_MS (R617). -/
def Dev.noPartnerRetry (d : Dev) (l : Nat) : Dev :=
  if l < 40 ∧ (d.lane l).train = .noPartner ∧ (d.lane l).partnerAt + fld (d.reg (pgQuad (l / 4)) 0x050) 0 16 * msT ≤ d.now then
    d.onLane l (fun x => x.startTry d.now true)
  else d

/-- The row NO_PARTNER_RETRY. -/
def execNoPartnerRetry (l : Nat) (s : State) : Host.Outcome State Fault Refusal := .next (s.act (fun d => d.noPartnerRetry l))

/-- SYNC_LOSS: loss of code-group synchronisation starts a fresh round (R618). -/
def Dev.syncLoss (d : Dev) (l : Nat) : Dev :=
  if l < 40 ∧ (d.lane l).train = .linkUp then d.moveLane l (fun x => { x.startTry d.now false with tries := 0 }) 1 else d

/-- The row SYNC_LOSS. -/
def execSyncLoss (l : Nat) (s : State) : Host.Outcome State Fault Refusal := .next (s.act (fun d => d.syncLoss l))

/-- SKEW_LOSS: four consecutive ||A|| columns out of skew take every lane to CDR_WAIT (R618). -/
def Dev.skewLoss (d : Dev) (u : Nat) : Dev :=
  if u ≤ 8 ∧ (d.plink u).up = true then
    let d := (lanesOf u).foldl (fun d l =>
      (d.onLane l (fun x => { x.startTry d.now false with tries := 0 })).laneEvent l 1 .linkUp 2) d
    d.plinkUpdate u
  else d

/-- The row SKEW_LOSS. -/
def execSkewLoss (u : Nat) (s : State) : Host.Outcome State Fault Refusal := .next (s.act (fun d => d.skewLoss u))

/-- LANE_RETRAIN (Table 13-4). LANE_DOWN of a retrained lane has a cause that the spec does not list: a free value. -/
def laneRetrainSpec : OpSpec where
  opcode := 0x0B00
  ownerOnly := true
  args := [(0, 1)]
  checks := fun c s => [badArg 0 (decide (40 ≤ c.arg 0 1)),
    conflict (s.dev.lane (c.arg 0 1)).train.code (!(s.dev.lane (c.arg 0 1)).train.searching)]
  run := devRun fun c _ _ d =>
    let u := unitOf (c.arg 0 1)
    let ls := lanesOf u
    let hit := (List.range ls.length).filter (fun i => (d.lane (nthD 0 ls i)).train.searching)
    let cause := d.freeWord
    let d := d.tickFree
    let d := hit.foldl (fun d i =>
      let l := nthD 0 ls i
      let was := (d.lane l).train
      let d := d.onLane l (fun x => { x.startTry d.now false with tries := 0 })
      if was = .linkUp then d.laneEvent l 1 .linkUp cause else d) d
    (d.plinkUpdate u).okNow (sumN (hit.map (fun i => 2 ^ i)))

/-- The row LANE_RETRAIN. -/
def execLaneRetrain (c : HostCmd) (s : State) : Host.Outcome State Fault Refusal := .next (runCmd laneRetrainSpec c s)

/-- PORT_QUERY (Table 13-4). -/
def portQuerySpec : OpSpec where
  opcode := 0x0B01
  args := [(0, 1)]
  checks := fun c _ => [badArg 0 (decide (9 ≤ c.arg 0 1))]
  run := devRun fun c _ _ d =>
    let u := c.arg 0 1
    (d, .done .ok (d.upMask u + (if (d.plink u).up then 256 else 0)) (shortOf (d.plink u).changed))

/-- The row PORT_QUERY. -/
def execPortQuery (c : HostCmd) (s : State) : Host.Outcome State Fault Refusal := .next (runCmd portQuerySpec c s)

/-- LANE_CFG written (R622 to R626). LOOPBACK and TEST_RATE other than 0 are refused unless ISOLATE was 1; clearing ISOLATE
clears LOOPBACK and both PRBS selections. -/
def Dev.laneCfgWrite (d : Dev) (l : Nat) (v : Word) : Dev :=
  if 40 ≤ l then d
  else d.powered (unitOf l) fun d =>
    let pg := pgQuad (l / 4)
    let off := 0x100 + 0x40 * (l % 4)
    let old := d.reg pg off
    let m := d.mergeAt pg off v
    let bad := !bit old 7 && (fld m.1 5 2 != 0 || fld m.1 24 3 != 0)
    let w := if bit old 7 then m.1 else setFld (setFld m.1 5 2 (fld old 5 2)) 24 3 (fld old 24 3)
    let w := if bit w 7 then w else setFld w 5 2 0
    let d := (d.setReg pg off w).errs pg m.2
    let d := if bad then d.err pg .badState else d
    let d := if bit old 7 && !bit w 7 then
        (d.setReg pg (0x110 + 0x40 * (l % 4)) (setFld (setFld (d.prbsCfg l) 0 3 0) 4 3 0)).onLane l (fun x => { x with
          chk := {}
          gen := []
          flip := false })
      else d
    d.repower l

/-- ERR_INJECT (R629): one transmitted bit of an ISOLATED lane is inverted; on any other lane the write is refused (R626). -/
def Dev.errInject (d : Dev) (l : Nat) : Dev :=
  if 40 ≤ l then d
  else if bit (d.laneCfg l) 7 then (d.onLane l (fun x => { x with flip := true })).emit (.errBit l)
  else d.err (pgQuad (l / 4)) .badState

/-- PRBS_CFG written (R626, R629): a change of the checked sequence makes the checker seed again, one of the sent sequence starts the generator
anew. -/
def Dev.prbsCfgWrite (d : Dev) (l : Nat) (v : Word) : Dev :=
  if 40 ≤ l then d
  else
    let pg := pgQuad (l / 4)
    let off := 0x110 + 0x40 * (l % 4)
    let old := d.reg pg off
    let seen := old ||| fmkB 8 (d.lane l).chk.locked
    let m := match PType.quad.regAt off with
      | some r => mergeFields r.flds old seen v
      | none => (old, [])
    let d := d.errs pg m.2
    let d := if !bit (d.laneCfg l) 7 then
        (if fld m.1 0 8 = fld old 0 8 then d else d.err pg .badState)
      else
        let d := d.setReg pg off m.1
        let d := if fld m.1 0 4 = fld old 0 4 then d else d.onLane l (fun x => { x with gen := [] })
        if fld m.1 4 4 = fld old 4 4 then d else d.onLane l (fun x => { x with chk := {} })
    if bit v 9 then d.errInject l else d

/-- The seed of a generator: any state but all zeros, which no rule names (a free value, log entry 88). -/
def prbsSeed (code l : Nat) : List Bool :=
  let n := (prbsTaps code).1
  let s := 1 + Config.prbsSeed l % (2 ^ n - 1)
  (List.range n).map (fun i => s.testBit i)

/-- The next `n` bits a lane's generator sends, inverted by GEN_INV, the first one once more for ERR_INJECT (R628, R629). -/
def Dev.prbsSent (d : Dev) (l n : Nat) : Dev × List Bool :=
  let cfg := d.prbsCfg l
  let code := fld cfg 0 3
  let x := d.lane l
  let r := prbsRun code n (if x.gen.isEmpty then prbsSeed code l else x.gen)
  let out := r.1.map (fun b => b != bit cfg 3)
  let out := match out with
    | b :: t => (b != x.flip) :: t
    | [] => []
  (d.setLane l { x with gen := r.2, flip := x.flip && decide (n = 0) }, out)

/-- Bits pass on an ISOLATED lane (R626 to R629): what the lane sends, by its generator or its far-end loopback, and what its checker makes of the
bits received, or of those sent in a near-end loopback. -/
def Dev.prbsBits (d : Dev) (l : Nat) (rx : List Bool) : Dev :=
  if 40 ≤ l ∨ bit (d.laneCfg l) 7 = false then d
  else
    let cfg := d.prbsCfg l
    let loop := fld (d.laneCfg l) 5 2
    let rx := rx.map (fun b => b != bit (d.laneCfg l) 9)
    let g := if loop = 3 then (d, rx) else if fld cfg 0 3 = 0 then (d, []) else d.prbsSent l rx.length
    let d := if g.2.isEmpty then g.1 else g.1.emit (.serial l (g.2.map (fun b => b != bit (d.laneCfg l) 8)))
    let seen := if loop = 1 ∨ loop = 2 then g.2 else rx
    if fld cfg 4 3 = 0 then d
    else
      let x := d.lane l
      let c := (seen.map (fun b => b != bit cfg 7)).foldl (fun c b => c.take (fld cfg 4 3) b) { x.chk with
        bits := 0
        errors := 0
        lost := 0 }
      let d := d.setLane l { x with chk := c }
      let d := (d.bump (pgQuad (l / 4)) (laneCtr l 0x130) c.bits).bump (pgQuad (l / 4)) (laneCtr l 0x138) c.errors
      (List.range c.lost).foldl (fun d _ => d.laneEvent l 3 (d.lane l).train (fmk 0 64 (d.lane l).tries)) d

/-- The row PRBS_LOCK. -/
def execPrbsLock (l : Nat) (bits : List Bool) (s : State) : Host.Outcome State Fault Refusal := .next (s.act (fun d => d.prbsBits l bits))

/-- The row PRBS_LOCK_LOST. -/
def execPrbsLockLost (l : Nat) (bits : List Bool) (s : State) : Host.Outcome State Fault Refusal := .next (s.act (fun d => d.prbsBits l bits))

/-- ELASTIC_ADJUST: in Dense-X4 and on the Mirror Link the buffer runs over or empty, a code error (R607) that the model counts on the lane that
carries lane 0 of the column (DESIGN CHOICE, log entry 88); in 10GBASE-X4 (R631) counted in ELASTIC, and CLOCK_MISMATCH at the eleventh within a second, from which the count starts again. -/
def Dev.elasticAdjust (d : Dev) (p : Nat) : Dev :=
  if 9 ≤ p ∨ (d.plink p).up = false then d
  else if d.dense p then d.inc (pgQuad (d.wireLane p 0 / 4)) (laneCtr (d.wireLane p 0) 0x118)
  else
    let d := d.inc (pgPort p) 0x0D8
    let recent := d.now :: (d.plink p).elastic.filter (fun t => decide (d.now < t + secT))
    if 10 < recent.length then
      (d.onPlink p (fun x => { x with elastic := [] })).raise (pgPort p) 3 (0x0E0 + p) 0x0B14 (d.portStatus p) (d.counter (pgPort p) 0x0D8)
    else d.onPlink p (fun x => { x with elastic := recent })

/-- The row ELASTIC_ADJUST. -/
def execElasticAdjust (p : Nat) (s : State) : Host.Outcome State Fault Refusal := .next (s.act (fun d => d.elasticAdjust p))

/-- REMOTE_FAULT (R638): set, counted and raised when it was clear. -/
def Dev.remoteFault (d : Dev) (p : Nat) : Dev :=
  if 8 ≤ p ∨ (d.plink p).up = false ∨ (d.plink p).remote = true then d
  else
    let d := (d.onPlink p (fun x => { x with remote := true })).inc (pgPort p) 0x0E8
    d.raise (pgPort p) 2 (0x0E0 + p) 0x0B13 (d.portStatus p) 0

/-- The row REMOTE_FAULT. -/
def execRemoteFault (p : Nat) (s : State) : Host.Outcome State Fault Refusal := .next (s.act (fun d => d.remoteFault p))

/-- REMOTE_FAULT_CLEAR: 128 columns without a fault ordered set (R638). -/
def Dev.remoteFaultClear (d : Dev) (p : Nat) : Dev := if 8 ≤ p then d else d.onPlink p (fun x => { x with remote := false })

/-- The row REMOTE_FAULT_CLEAR. -/
def execRemoteFaultClear (p : Nat) (s : State) : Host.Outcome State Fault Refusal := .next (s.act (fun d => d.remoteFaultClear p))

/-- PORT_CFG written (R625, R650). -/
def Dev.portCfgWrite (d : Dev) (p : Nat) (v : Word) : Dev :=
  if 8 ≤ p then d
  else d.powered p fun d =>
    let old := d.portCfg p
    let d := d.guarded (pgPort p) 0x048 v (!bit old 0) [(1, 1), (5, 1)]
    (lanesOf p).foldl (fun d l => d.repower l) d


/-- PMA_FAULT: an internal PMA fault puts a QUAD page in FAULTED (R647). -/
def Dev.pmaFault (d : Dev) (q : Nat) : Dev := if 10 ≤ q then d else d.onPage (pgQuad q) (fun h => { h with state := .faulted })

/-- The row PMA_FAULT. -/
def execPmaFault (q : Nat) (s : State) : Host.Outcome State Fault Refusal := .next (s.act (fun d => d.pmaFault q))

/-- A write of 1 to PAGE_CTRL.ISOLATE of a QUAD page sets ISOLATE on its four lanes; a write of 0 clears it (R647). -/
def Dev.quadIsolate (d : Dev) (q : Nat) (on : Bool) : Dev :=
  (List.range 4).foldl (fun d i => d.laneCfgWrite (4 * q + i) (setFld (d.laneCfg (4 * q + i)) 7 1 (if on then 1 else 0))) d

/-- The state a QUAD page reports (R647). -/
def Dev.quadState (d : Dev) (q : Nat) : PState :=
  let st := (d.page (pgQuad q)).state
  let ls := (List.range 4).map (fun i => (d.lane (4 * q + i)).train)
  if st = .off ∨ st = .init ∨ st = .faulted then st
  else if ls.all (fun t => decide (t = .isolated)) then .testing
  else if ls.any (fun t => decide (t ≠ .off) && decide (t ≠ .isolated)) then .active
  else .ready

end Sys2Proof.Machine
end

