-- ==== Sys2Proof/Machine/NetBytes.lean ====
section
/-! DEFINITION. Ethernet, IPv4, IPv6 and UDP as the ports build them (R640 to R645), and the PTP frames that carry a stamp (R109, R110). -/

namespace Sys2Proof.Machine
open Sys2Proof

/-- The sum of a byte string's 16-bit words. -/
def sum16 : List Byte → Nat
  | [] => 0
  | [a] => a.toNat * 256
  | a :: b :: t => a.toNat * 256 + b.toNat + sum16 t

/-- A sum folded to 16 bits of one's complement. -/
def fold16 (n : Nat) : Nat := if n = 0 then 0 else if n % 65535 = 0 then 65535 else n % 65535

/-- The internet checksum of a byte string. -/
def checksum (l : List Byte) : Nat := 65535 - fold16 (sum16 l)

/-- The pseudo-header and datagram that a UDP checksum covers. -/
def udpCovered (v6 : Bool) (src dst udp : List Byte) : List Byte :=
  if v6 then src ++ dst ++ beBytes 4 udp.length ++ [0, 0, 0, 17] ++ udp else src ++ dst ++ [0, 17] ++ beBytes 2 udp.length ++ udp

/-- A UDP datagram with its checksum. -/
def udpDatagram (v6 : Bool) (src dst : List Byte) (sport dport : Nat) (data : List Byte) : List Byte :=
  let h (c : Nat) : List Byte := beBytes 2 sport ++ beBytes 2 dport ++ beBytes 2 (8 + data.length) ++ beBytes 2 c ++ data
  let c := checksum (udpCovered v6 src dst (h 0))
  h (if c = 0 then 65535 else c)

/-- An IPv4 packet: DF 1, Identification 0 (R645). -/
def ipv4Packet (dscp ttl : Nat) (src dst data : List Byte) : List Byte :=
  let h (c : Nat) : List Byte :=
    [0x45, BitVec.ofNat 8 (dscp * 4)] ++ beBytes 2 (20 + data.length) ++ [0, 0, 0x40, 0] ++ [BitVec.ofNat 8 ttl, 17] ++ beBytes 2 c ++ src ++ dst
  h (checksum (h 0)) ++ data

/-- An IPv6 packet (R645). -/
def ipv6Packet (dscp ttl : Nat) (src dst data : List Byte) : List Byte :=
  beBytes 4 (6 * 2 ^ 28 + dscp * 2 ^ 22) ++ beBytes 2 data.length ++ [17, BitVec.ofNat 8 ttl] ++ src ++ dst ++ data

/-- An Ethernet frame, tagged when VID is not 0, without FCS. -/
def etherFrame (dst src : List Byte) (vlan pcp etype : Nat) (data : List Byte) : List Byte :=
  dst ++ src ++ (if vlan = 0 then [] else beBytes 2 0x8100 ++ beBytes 2 (pcp * 8192 + vlan)) ++ beBytes 2 etype ++ data

/-- What R110 appends to a PTP message over IPv6: two bytes that keep the checksum as it was when the timestamp's words `ts` are written over
zeros. -/
def ptpBalance (ts : List Byte) : List Byte := beBytes 2 (65535 - fold16 (sum16 ts))

/-- A timestamp of PTP: seconds and whole nanoseconds (R109). -/
def ptpStampBytes (t : Time) : List Byte := beBytes 6 (t / secT) ++ beBytes 4 (t % secT / nsT)

/-- Where the PTP message stands in a frame without FCS: after the Ethernet header and its tag, and after the headers of IP and UDP. -/
def ptpOffset (l : List Byte) : Nat :=
  let tag := if beAt l 12 2 = 0x8100 then 4 else 0
  let ty := beAt l (12 + tag) 2
  14 + tag + (if ty = 0x0800 then 28 else if ty = 0x86DD then 48 else 0)

/-- A Delay_Req as it leaves: originTimestamp holds the egress stamp, and over IPv6 the last two bytes keep the UDP checksum valid (R109, R110). -/
def ptpStamped (l : List Byte) (t : Time) : List Byte :=
  let o := ptpOffset l
  let ts := ptpStampBytes t
  let l := l.take (o + 34) ++ ts ++ l.drop (o + 44)
  if l.length = o + 46 then l.take (o + 44) ++ ptpBalance ts else l

end Sys2Proof.Machine
end

