-- ==== Sys2Proof/Machine/Egress.lean ====
section
/-! DEFINITION. The egress scheduler (chapter 11): queues and their binding, pacers, deficit round robin, gate lists,
sampling, and its commands. -/

namespace Sys2Proof.Machine
open Sys2Proof

/-- The queue number of port p's control queue. -/
def ctrlQ (p : Nat) : Nat := 8192 + p

/-- A queue. -/
def Dev.queue (d : Dev) (k : Nat) : Queue := tabGetD {} d.egress.queues k

/-- A queue replaced. -/
def Dev.setQueue (d : Dev) (k : Nat) (q : Queue) : Dev := { d with egress := { d.egress with queues := tabPutD {} d.egress.queues k q } }

/-- A queue changed. -/
def Dev.onQueue (d : Dev) (k : Nat) (f : Queue → Queue) : Dev := d.setQueue k (f (d.queue k))

/-- Every queue changed. -/
def Dev.mapQueues (d : Dev) (f : Queue → Queue) : Dev :=
  { d with egress := { d.egress with queues := tabMapD {} d.egress.queues (fun _ q => f q) } }

/-- A port's scheduler. -/
def Dev.eport (d : Dev) (p : Nat) : EPort := tabGetD {} d.egress.ports p

/-- A port's scheduler changed. -/
def Dev.onEport (d : Dev) (p : Nat) (f : EPort → EPort) : Dev :=
  { d with egress := { d.egress with ports := tabPutD {} d.egress.ports p (f (d.eport p)) } }

/-- The port, class, quantum and limit in force of a queue; a control queue takes them from CTRL_CFG (R530). -/
def Dev.qPort (d : Dev) (k : Nat) : Nat := if 8192 ≤ k then k - 8192 else (d.queue k).port
def Dev.qCls (d : Dev) (k : Nat) : Nat := if 8192 ≤ k then fld (d.reg (pgEgress (k - 8192)) 0x058) 0 3 else (d.queue k).cls
def Dev.qQuantum (d : Dev) (k : Nat) : Nat := if 8192 ≤ k then fld (d.reg (pgEgress (k - 8192)) 0x058) 16 16 else (d.queue k).quantum
def Dev.qLimit (d : Dev) (k : Nat) : Nat := if 8192 ≤ k then fld (d.reg (pgEgress (k - 8192)) 0x058) 32 16 else (d.queue k).limit

/-- The number of a queue in events: 0xFFFF for a control queue (R562). -/
def qName (k : Nat) : Nat := if 8192 ≤ k then 0xFFFF else k

/-- The pacer rate in bit/s, 0 unpaced (R533). -/
def Dev.qRate (d : Dev) (k : Nat) : Nat :=
  let q := d.queue k
  if 8192 ≤ k then 0 else if q.fixed then q.rate * 1000 else if q.bind = .leg then q.legRate else 0

/-- L of a frame: from the destination MAC address to the end of the FCS, at least 64 bytes (R537, R640). -/
def EFrame.len (f : EFrame) : Nat := max 64 (f.bytes.length + 4)

/-- A port's line rate in bit/ns (R549). -/
def Dev.lineRate (d : Dev) (p : Nat) : Nat := if d.dense p then 40 else 10

/-- The queue's head frame is eligible (R537). -/
def Dev.headEligible (d : Dev) (k : Nat) : Bool := decide (d.qRate k = 0) || decide ((d.queue k).e ≤ d.now)

/-- The active list of a class changed. -/
def Dev.onActive (d : Dev) (p c : Nat) (f : List Nat → List Nat) : Dev :=
  d.onEport p (fun x => { x with active := setNth x.active c (f (nthD [] x.active c)) })

/-- A queue leaves its active list. -/
def Dev.leaveActive (d : Dev) (k : Nat) : Dev := d.onActive (d.qPort k) (d.qCls k) (fun l => l.filter (fun j => j != k))

/-- A queue with an eligible head joins the tail of its class's active list (R539, R542). -/
def Dev.joinActive (d : Dev) (k : Nat) : Dev :=
  if (d.queue k).frames.isEmpty || !d.headEligible k || (nthD [] (d.eport (d.qPort k)).active (d.qCls k)).contains k then d
  else d.onActive (d.qPort k) (d.qCls k) (fun l => l ++ [k])

/-- The queue has become empty (R541). -/
def Dev.emptied (d : Dev) (k : Nat) : Dev := (d.leaveActive k).onQueue k (fun q => { q with deficit := 0, visited := false })

/-- Frames too long for the longest window leave the head of a queue (R552). -/
def Dev.dropOversize (d : Dev) (k : Nat) : Dev :=
  let p := d.qPort k
  match nthD none (d.eport p).longest (d.qCls k) with
  | none => d
  | some w =>
    let long (f : EFrame) : Bool := decide (w * d.lineRate p < 8 * (f.len + 20))
    let q := d.queue k
    let gone := q.frames.takeWhile long
    if gone.isEmpty then d
    else
      let d := gone.foldl (fun d f =>
        (d.inc (pgEgress p) 0x0F0).raise (pgEgress p) 2 (0x0E8 + p) 0x0903 (fmk 0 64 (qName k)) (fmk 0 64 f.len)) d
      let rest := q.frames.dropWhile long
      let d := d.onQueue k (fun q => { q with frames := rest })
      if rest.isEmpty then d.emptied k else d

/-- What an alarm empties and stops: the queues bound to SRTP legs (R559). -/
def Dev.srtpQueue (d : Dev) (k : Nat) : Bool := decide (k < 8192) && decide ((d.queue k).bind = .leg) && (d.leg (d.queue k).obj).desc.srtp

/-- A frame arrives at a queue (R535, R539, R559). -/
def Dev.enqueue (d : Dev) (k : Nat) (f : EFrame) : Dev :=
  let q := d.queue k
  let p := d.qPort k
  if d.egress.stopped && (d.srtpQueue k || f.srtcp) then d
  else if d.qLimit k ≤ q.frames.length then
    let d := d.inc (pgEgress p) (if 8192 ≤ k then 0x0E8 else 0x0E0)
    let d := d.onQueue k (fun q => { q with stat := { q.stat with drops := q.stat.drops + 1 } })
    d.raise (pgEgress p) 3 (0x0E8 + p) 0x0904 (fmk 0 64 (qName k)) (fmk 0 64 f.len)
  else
    let first := q.frames.isEmpty
    let d := d.setQueue k { q with frames := q.frames ++ [{ f with at_ := d.now }],
                                   e := if first then max q.e d.now else q.e,
                                   deficit := if first then 0 else q.deficit,
                                   visited := if first then false else q.visited }
    if first then (d.dropOversize k).joinActive k else d

/-- Every packet of a queue discarded into a counter of its port. -/
def Dev.discardQueue (d : Dev) (k : Nat) : Dev := (d.onQueue k (fun q => { q with frames := [] })).emptied k

/-- A binding takes effect, moves the queue or releases it: what it holds is discarded and counted in REBIND_DROP (R529). -/
def Dev.bindQueue (d : Dev) (k : Nat) (b : BindState) (obj port : Nat) : Dev :=
  let n := (d.queue k).frames.length
  let d := if n = 0 then d else (d.bump (pgEgress (d.qPort k)) 0x110 n).discardQueue k
  d.onQueue k (fun q => { q with bind := b, obj := obj, port := port, legRate := 0,
                                 stat := { q.stat with drops := q.stat.drops + n, wasBound := true } })

/-- A binding released (Table 11-1). -/
def Dev.releaseQueue (d : Dev) (k : Nat) : Dev := d.bindQueue k .unbound 0 0

/-! ### Gate lists -/

/-- The entries of one cycle as segments (start, end, gates): cut at CYCLE, the last one held to it (R550). -/
def segmentsFrom (cycle : Nat) : Nat → List (Nat × Nat) → List (Nat × Nat × Nat)
  | _, [] => []
  | t, [(_, g)] => if cycle ≤ t then [] else [(t, cycle, g)]
  | t, (i, g) :: r => if cycle ≤ t then [] else (t, min cycle (t + i), g) :: segmentsFrom cycle (t + i) r

/-- The segments of a list; COUNT 0 holds every gate open. -/
def GateList.segments (g : GateList) : List (Nat × Nat × Nat) :=
  if g.entries.isEmpty then [(0, g.cycle, 255)] else segmentsFrom g.cycle 0 g.entries

/-- The position in the cycle at an instant, in `Time` units. -/
def GateList.pos (g : GateList) (t : Time) : Nat :=
  (((t : Int) - (g.base : Int)) % ((max 1 (g.cycle * nsT) : Nat) : Int)).toNat

/-- The entry in progress at an instant, and its gates. -/
def GateList.entryAt (g : GateList) (t : Time) : Nat × Nat :=
  let p := g.pos t
  let ss := g.segments
  match ss.findIdx? (fun s => decide (p < s.2.1 * nsT)) with
  | some i => (i, (nthD (0, 0, 255) ss i).2.2)
  | none => (0, 255)

/-- How long class c stays open from an instant at which it is open; `none` for ever. -/
def GateList.openFor (g : GateList) (c : Nat) (t : Time) : Option Nat :=
  let p := g.pos t
  let ss := g.segments
  let closes := (ss.filter (fun s => !s.2.2.testBit c)).map (fun s => s.1 * nsT)
  match (closes.filter (fun x => decide (p < x))).head? with
  | some x => some (x - p)
  | none => (closes.head?).map (fun x => x + g.cycle * nsT - p)

/-- The longest run of open segments over two cycles. -/
def longestRun (c : Nat) (ss : List (Nat × Nat × Nat)) : Nat :=
  ((ss ++ ss).foldl (fun (a : Nat × Nat) s => if s.2.2.testBit c then (a.1 + (s.2.1 - s.1), max a.2 (a.1 + (s.2.1 - s.1))) else (0, a.2)) (0, 0)).2

/-- A class's longest window in ns, `none` without limit (R551). -/
def GateList.longest (g : GateList) (c : Nat) : Option Nat :=
  if g.segments.all (fun s => s.2.2.testBit c) then none else some (longestRun c g.segments)

/-- How long class c may still send at `now`, in `Time` units: to the next close under the operational list, with the pending
switch as R554 has it; `none` without limit. -/
def EPort.window (x : EPort) (c : Nat) (now : Time) : Option Nat :=
  let old := match x.oper with
    | some g => g.openFor c now
    | none => none
  match x.pend with
  | none => old
  | some (g, t, _) =>
    let left := t - now
    match old with
    | some w => if w < left then some w
      else if (g.entryAt t).2.testBit c then (g.openFor c t).map (fun v => left + v) else some left
    | none => if (g.entryAt t).2.testBit c then (g.openFor c t).map (fun v => left + v) else some left

/-- The guard rule: a frame of length L ends with its overhead no later than the next close (R549). -/
def Dev.fits (d : Dev) (p c len : Nat) : Bool :=
  match (d.eport p).window c d.now with
  | none => true
  | some w => decide (8 * (len + 20) * nsT ≤ w * d.lineRate p)

/-- The gate state of a port (R558). -/
def EPort.state (x : EPort) : Nat := if x.pend.isSome then 2 else if x.oper.isSome then 1 else 0

/-! ### Transmission -/

/-- The port may send: up, its transmitters on, no fault from the far end (R620, R624, R638), and its MAC idle (R543). -/
def Dev.portMaySend (d : Dev) (p : Nat) : Bool :=
  decide (p < 8) && (d.plink p).up && !(d.plink p).remote && decide ((d.eport p).busyUntil ≤ d.now) &&
  (lanesOf p).all (fun l => d.txPwr l == 2)

/-- The candidate class (R543). -/
def Dev.candidate (d : Dev) (p : Nat) : Option (Nat × Nat) :=
  [7, 6, 5, 4, 3, 2, 1, 0].findSome? (fun c =>
    if !(d.eport p).gates.testBit c then none
    else match nthD [] (d.eport p).active c with
      | [] => none
      | k :: _ => match (d.queue k).frames with
        | [] => none
        | f :: _ => if d.fits p c f.len then some (c, k) else none)

/-- What leg policy learns of a packet sent (R177, R179): its bits and instant, and an RTP packet awaiting feedback. -/
def Leg.sentFrame (x : Leg) (f : EFrame) (now : Time) : Leg :=
  { x with
    sent := x.sent ++ [(now, 8 * f.len)]
    audio := if f.audio then x.audio ++ [(now, 8 * f.len)] else x.audio
    flight := if f.rtp then x.flight ++ [(f.ssrc, f.seq, now, 8 * f.len)] else x.flight
    pktsTx := x.pktsTx + 1
    bytesTx := x.bytesTx + f.len }

/-- A frame on the wire, with its egress stamp; a Delay_Req carries it, and Quartz keeps the full stamp as t3 (R104, R109). -/
def Dev.wireOut (d : Dev) (p : Nat) (f : EFrame) : Dev :=
  let t := d.txStamp p
  let b := if f.ptp then ptpStamped f.bytes t else f.bytes
  let d := if f.ptp then
      let d := d.inc pgQuartz 0x158
      if d.ptp.reqSeq = f.seq ∧ d.ptp.master.isSome then { d with ptp := { d.ptp with t3 := some (t : Int) } } else d
    else d
  let r := d.transmit p (macBytes b)
  r.1.emit (.frame p b t r.2.1 r.2.2)

/-- The later of two sequence numbers. -/
def laterSeq (a b : Nat) : Nat := if (b + 65536 - a % 65536) % 65536 < 32768 then b else a

/-- The watermarks of a leg after a packet of it has left (Table 14-9). -/
def Dev.markSent (d : Dev) (l : Nat) (f : EFrame) : Dev :=
  let k := 4294967296 * (if f.srtcp then 4096 + l else l) + f.ssrc
  let m := match tabGetD none d.pair.marks k with
    | none => f.seq
    | some i => if f.srtcp then max i f.seq else laterSeq i f.seq
  if (f.rtp || f.srtcp) && d.paired then { d with pair := { d.pair with marks := tabPutD none d.pair.marks k (some m) } } else d

/-- Frame `f` leaves queue `k`, where `rest` stay (R538, R541). -/
def Dev.sendFrame (d : Dev) (p c k : Nat) (f : EFrame) (rest : List EFrame) : Dev :=
  let q := d.queue k
  let rate := d.qRate k
  let base := d.now - fld (d.reg (pgEgress p) 0x060) 0 16 * usT
  let clampd := decide (rate ≠ 0) && decide (q.e < base)
  let e := if rate = 0 then q.e else max q.e base + 8 * (f.len + 20) * 1000000000 * nsT / rate
  let d := d.setQueue k { q with frames := rest, deficit := q.deficit - f.len, e := e }
  let d := if clampd then d.inc (pgEgress p) 0x120 else d
  let d := if f.host then d.inc (pgEgress p) 0x118 else d
  let d := ((d.inc (pgEgress p) 0x0D0).bump (pgEgress p) 0x0D8 f.len).inc (pgEgress p) (0x140 + 8 * c)
  let d := (d.inc (pgPort p) 0x080).bump (pgPort p) 0x088 f.len
  let dur := (8 * (f.len + 20) * nsT + d.lineRate p - 1) / d.lineRate p
  let d := d.onEport p (fun x => { x with busyUntil := d.now + dur })
  let d := match f.leg with
    | some l => d.onLeg l (fun x => x.sentFrame f d.now)
    | none => d
  let d := match f.leg with
    | some l => d.markSent l f
    | none => d
  let d := d.wireOut p f
  let d := if rest.isEmpty then d else d.dropOversize k
  if (d.queue k).frames.isEmpty then d.emptied k
  else if d.headEligible k then d
  else (d.leaveActive k).onQueue k (fun q => { q with visited := false })

/-- The head of a queue leaves. -/
def Dev.sendHead (d : Dev) (p c k : Nat) : Dev :=
  match (d.queue k).frames with
  | [] => d
  | f :: rest => d.sendFrame p c k f rest

/-- The first Delay_Req of a port's control queue leaves while its class is open for it: all that a SECONDARY sends (R560). -/
def Dev.serveDelayReq (d : Dev) (p : Nat) : Dev :=
  let k := ctrlQ p
  let c := d.qCls k
  match takeFirst (fun f => f.ptp) (d.queue k).frames with
  | some (f, rest) => if (d.eport p).gates.testBit c && d.fits p c f.len then d.sendFrame p c k f rest else d
  | none => d

/-- One transmit opportunity: the rounds of R541 until a frame is sent or no class is a candidate (R543, R544). -/
def Dev.serve : Nat → Nat → Dev → Dev
  | 0, _, d => d
  | fuel + 1, p, d => match d.candidate p with
    | none => d
    | some (c, k) =>
      let d := if (d.queue k).visited then d
        else d.onQueue k (fun q => { q with deficit := q.deficit + d.qQuantum k, visited := true })
      match (d.queue k).frames with
      | [] => d
      | f :: _ =>
        if f.len ≤ (d.queue k).deficit then d.sendHead p c k
        else Dev.serve fuel p ((d.onActive p c (fun l => l.drop 1 ++ [k])).onQueue k (fun q => { q with visited := false }))

/-- Rounds that always suffice: each queue needs at most 37 visits of 256 bytes for a frame of 9,220. -/
def Dev.serveFuel (d : Dev) (p : Nat) : Nat := 40 * (sumN ((d.eport p).active.map List.length) + 1)

/-- TRANSMIT_OPPORTUNITY (R543): a SOLO or PRIMARY unit sends from every queue, a SECONDARY only its Delay_Req (R560). -/
def Dev.transmitOpportunity (d : Dev) (p : Nat) : Dev :=
  if !d.portMaySend p then d
  else if d.active then Dev.serve (d.serveFuel p) p d
  else if d.pair.role = .secondary then d.serveDelayReq p
  else d

/-- The row TRANSMIT_OPPORTUNITY. -/
def execTransmitOpportunity (p : Nat) (s : State) : Host.Outcome State Fault Refusal := .next (s.actReady (fun d => d.transmitOpportunity p))

/-- PACER_ELIGIBLE: the queue rejoins its active list with at most one QUANTUM of deficit (R542). -/
def Dev.pacerEligible (d : Dev) (k : Nat) : Dev :=
  if 8192 ≤ k ∨ (nthD [] (d.eport (d.qPort k)).active (d.qCls k)).contains k = true then d
  else (d.onQueue k (fun q => { q with deficit := min q.deficit q.quantum })).joinActive k

/-- The row PACER_ELIGIBLE. -/
def execPacerEligible (k : Nat) (s : State) : Host.Outcome State Fault Refusal := .next (s.actReady (fun d => d.pacerEligible k))

/-! ### Gate events -/

/-- Every queue of a port with a frame: its bound queues and its control queue. -/
def Dev.portQueues (d : Dev) (p : Nat) : List Nat :=
  (d.egress.queues.filter (fun e => decide (e.1 < 8192) && e.2.port == p && decide (e.2.bind ≠ .unbound))).map (fun e => e.1) ++ [ctrlQ p]

/-- A list becomes operational (R551 to R554, R558). -/
def Dev.gateSwitched (d : Dev) (p : Nat) : Dev :=
  if 8 ≤ p then d
  else match (d.eport p).pend with
  | none => d
  | some (g, t, late) =>
    if d.now < t then d
    else
      let en := g.entryAt d.now
      let d := d.onEport p (fun x => { x with
        oper := if g.entries.isEmpty then none else some g
        pend := none
        lateBase := late
        longest := (List.range 8).map (fun c => g.longest c)
        entry := en.1
        gates := en.2 })
      let d := (d.portQueues p).foldl (fun d k => d.dropOversize k) d
      let d := (d.inc (pgEgress p) 0x0F8).raise (pgEgress p) 0 (0x0E8 + p) 0x0901 (fmk 0 64 g.entries.length) (shortOf t)
      let d := if late then (d.inc (pgEgress p) 0x100).raise (pgEgress p) 1 (0x0E8 + p) 0x0902 (fmk 0 64 g.entries.length) (shortOf t) else d
      d.finish 0x0904 p .ok (if late then 1 else 0) (shortOf t)

/-- The row GATE_SWITCHED. -/
def execGateSwitched (p : Nat) (s : State) : Host.Outcome State Fault Refusal := .next (s.actReady (fun d => d.gateSwitched p))

/-- A gate-list entry begins (R550). -/
def Dev.gateEntryStart (d : Dev) (p : Nat) : Dev :=
  if 8 ≤ p then d
  else match (d.eport p).oper with
  | none => d
  | some g => d.onEport p (fun x => { x with entry := (g.entryAt d.now).1, gates := (g.entryAt d.now).2 })

/-- The row GATE_ENTRY_START. -/
def execGateEntryStart (p : Nat) (s : State) : Host.Outcome State Fault Refusal := .next (s.actReady (fun d => d.gateEntryStart p))

/-- The first switch time of a list at or after `t`, and N (R553). -/
def gateSwitchAt (base cycle : Nat) (t : Time) : Time × Nat :=
  let c := max 1 (cycle * nsT)
  let n := if t ≤ base then 0 else (t - base + c - 1) / c
  (base + n * c, n)

/-- A clock step: list positions follow the new time, and a switch that is now too near moves (R556). -/
def Dev.gatesStep (d : Dev) (p : Nat) : Dev :=
  let d := match (d.eport p).pend with
    | some (g, t, _) =>
      if t < d.now + 20 * usT then d.onEport p (fun x => { x with pend := some (g, (gateSwitchAt g.base g.cycle (d.now + 20 * usT)).1, true) }) else d
    | none => d
  d.gateEntryStart p

/-! ### Sampling -/

/-- A queue's depth, in bytes. -/
def Queue.depth (q : Queue) : Nat := sumN (q.frames.map EFrame.len)

/-- A sample taken into a period's statistics (R545). -/
def QStat.add (s : QStat) (depth soj : Nat) : QStat :=
  { s with
    n := s.n + 1
    dMin := if s.n = 0 then depth else min s.dMin depth
    dMax := max s.dMax depth
    dSum := s.dSum + depth
    sMin := if s.n = 0 then soj else min s.sMin soj
    sMax := max s.sMax soj
    sSum := s.sSum + soj }

/-- QUEUE_SAMPLE: every queue bound to the port, at a tick that is a multiple of 2^K µs not yet sampled (R545). -/
def Dev.queueSample (d : Dev) (p : Nat) : Dev :=
  let step := 2 ^ fld (d.reg (pgEgress p) 0x050) 0 4 * usT
  if 8 ≤ p ∨ d.now < (d.eport p).nextSample ∨ step ≤ d.now % step + (step - usT) then d
  else
    let d := d.onEport p (fun x => { x with nextSample := (d.now / step + 1) * step })
    (d.portQueues p).foldl (fun d k =>
      if 8192 ≤ k then d
      else d.onQueue k (fun q => { q with stat := (q.stat.add q.depth (match q.frames with | f :: _ => (d.now - f.at_) / nsT | [] => 0)) })) d

/-- The row QUEUE_SAMPLE. -/
def execQueueSample (p : Nat) (s : State) : Host.Outcome State Fault Refusal := .next (s.actReady (fun d => d.queueSample p))

/-- A queue statistics record (Table 11-3). -/
def Queue.record (q : Queue) : List Byte :=
  let s := q.stat
  if q.bind = .unbound ∧ s.wasBound = false then List.replicate 32 0
  else
    let m (x : Nat) : Nat := if s.n = 0 then 0 else x / s.n
    let sat (x : Nat) : List Byte := leBytes 4 (satN 4294967295 x)
    leBytes 4 s.n ++ leBytes 4 s.dMin ++ leBytes 4 s.dMax ++ leBytes 4 (m s.dSum) ++ sat s.sMin ++ sat s.sMax ++ sat (m s.sSum) ++
    leBytes 1 (q.port + 8 * q.cls + 64 * (match q.bind with | .unbound => 0 | .leg => 1 | .stream => 2)) ++ [0] ++ leBytes 2 (satN 65535 s.drops)

/-- A period's statistics start from empty (R546). -/
def Queue.newPeriod (q : Queue) : Queue := { q with stat := { wasBound := decide (q.bind ≠ .unbound) } }

/-- The queue statistics written at an epoch boundary whose index is a multiple of PERIOD (R546). -/
def Dev.qstatsWrite (d : Dev) (j : Nat) : Dev :=
  let cfg := d.reg (pgEgress 0) 0x068
  let base := fld (d.reg (pgEgress 0) 0x070) 16 32 * 65536
  if !bit cfg 0 || j % max 1 (fld cfg 16 16) != 0 then d
  else
    let d := d.writeVa 0 base ((List.range 8192).flatMap (fun k => (d.queue k).record))
    d.mapQueues Queue.newPeriod

/-- CTRL_CFG written: a control queue whose class changes goes over as R534 has a queue do. -/
def Dev.ctrlCfgWrite (d : Dev) (p : Nat) (v : Word) : Dev :=
  let pg := pgEgress p
  let m := d.mergeAt pg 0x058 v
  let moved := fld m.1 0 3 != fld (d.reg pg 0x058) 0 3
  let d := if moved then d.emptied (ctrlQ p) else d
  let d := (d.setReg pg 0x058 m.1).errs pg m.2
  if moved then d.joinActive (ctrlQ p) else d

/-- QSTATS_CFG written (R547). A write of 1 over ENABLE 0 starts the first period. -/
def Dev.qstatsCfgWrite (d : Dev) (v : Word) : Dev :=
  let pg := pgEgress 0
  let old := d.reg pg 0x068
  let m := d.mergeAt pg 0x068 v
  let base := fld (d.reg pg 0x070) 16 32 * 65536
  let refuse := bit m.1 0 && !d.pinned 0 base 262144
  let w := if refuse then setFld m.1 0 1 0 else m.1
  let d := (d.setReg pg 0x068 w).errs pg m.2
  let d := if refuse then d.err pg .badState else d
  if bit w 0 && !bit old 0 then
    let d := d.mapQueues Queue.newPeriod
    d.hold holdQstats 0 0 base 262144
  else if bit old 0 && !bit w 0 then d.unhold holdQstats 0 else d


/-! ### Commands (Table 11-2) -/

/-- The codes of Table 11-1. -/
def BindState.code : BindState → Nat
  | .unbound => 0 | .leg => 1 | .stream => 2

/-- Queues of a range. -/
def queueRange (c : HostCmd) : List Nat := (List.range (c.arg 2 2)).map (fun i => c.arg 0 2 + i)

/-- QUEUE_ASSIGN (R526, R531). -/
def queueAssignSpec : OpSpec where
  opcode := 0x0900
  ownerOnly := true
  args := [(0, 5)]
  checks := fun c s => [badArg 0 (decide (8192 ≤ c.arg 0 2)),
    badArg 2 (decide (c.arg 2 2 = 0) || decide (8192 < c.arg 0 2 + c.arg 2 2)), badArg 4 (decide (64 ≤ c.arg 4 1)),
    match ((queueRange c).map (fun k => (s.dev.queue k).bind)).find? (fun b => decide (b ≠ .unbound)) with
    | some b => conflict b.code true
    | none => conflict 0 false]
  run := devRun fun c _ _ d =>
    ((queueRange c).foldl (fun d k => d.onQueue k (fun q => { q with realm := c.arg 4 1 })) d).okNow (c.arg 2 2)

/-- The row QUEUE_ASSIGN. -/
def execQueueAssign (c : HostCmd) (s : State) : Host.Outcome State Fault Refusal := .next (runCmd queueAssignSpec c s)

/-- A queue that the sender's realm does not own (R79, R531). -/
def notOwnQueue (c : HostCmd) (d : Dev) (k : Nat) : Chk := denied (c.realm != 0 && (d.queue k).realm != c.realm)

/-- QUEUE_SET (R533, R534, R540). -/
def queueSetSpec : OpSpec where
  opcode := 0x0901
  args := [(0, 14)]
  checks := fun c s => [notOwnQueue c s.dev (c.arg 0 2), badArg 0 (decide (8192 ≤ c.arg 0 2)), badArg 2 (decide (8 ≤ c.arg 2 1)),
    badArg 3 (decide (2 ≤ c.arg 3 1)), badArg 4 (decide (c.arg 4 4 < 256) || decide (65536 < c.arg 4 4)),
    badArg 8 (decide (40000000 < c.arg 8 4)), badArg 12 (decide (c.arg 12 2 < 16) || decide (4096 < c.arg 12 2))]
  run := devRun fun c _ _ d =>
    let k := c.arg 0 2
    let moved := (d.queue k).cls != c.arg 2 1
    let d := if moved then d.emptied k else d
    let d := d.onQueue k (fun q => { q with cls := c.arg 2 1, fixed := c.arg 3 1 == 1, quantum := c.arg 4 4, rate := c.arg 8 4, limit := c.arg 12 2 })
    (if moved then d.joinActive k else d).okNow 0

/-- The row QUEUE_SET. -/
def execQueueSet (c : HostCmd) (s : State) : Host.Outcome State Fault Refusal := .next (runCmd queueSetSpec c s)

/-- QUEUE_QUERY. -/
def queueQuerySpec : OpSpec where
  opcode := 0x0902
  args := [(0, 2)]
  checks := fun c s => [notOwnQueue c s.dev (c.arg 0 2), badArg 0 (decide (8192 ≤ c.arg 0 2))]
  run := devRun fun c _ _ d =>
    let q := d.queue (c.arg 0 2)
    (d, .done .ok q.bind.code (fmk 0 32 q.frames.length ||| fmk 32 32 q.depth))

/-- The row QUEUE_QUERY. -/
def execQueueQuery (c : HostCmd) (s : State) : Host.Outcome State Fault Refusal := .next (runCmd queueQuerySpec c s)

/-- QUEUE_FLUSH. -/
def queueFlushSpec : OpSpec where
  opcode := 0x0903
  args := [(0, 2)]
  checks := fun c s => [notOwnQueue c s.dev (c.arg 0 2), badArg 0 (decide (8192 ≤ c.arg 0 2)),
    conflict 0 (decide ((s.dev.queue (c.arg 0 2)).bind = .unbound))]
  run := devRun fun c _ _ d =>
    let n := (d.queue (c.arg 0 2)).frames.length
    (d.discardQueue (c.arg 0 2)).okNow (satN 65535 n)

/-- The row QUEUE_FLUSH. -/
def execQueueFlush (c : HostCmd) (s : State) : Host.Outcome State Fault Refusal := .next (runCmd queueFlushSpec c s)

/-- The gate list a command names: the header and the entries that COUNT calls for (R548). -/
def gateCapture (c : HostCmd) (d : Dev) : Option (List Byte) :=
  match capturePinned d 0 (c.arg 8 8) 32 with
  | none => none
  | some h =>
    if 256 < leAt h 20 2 then some h
    else (capturePinned d 0 (c.arg 8 8 + 32) (8 * leAt h 20 2)).map (fun e => h ++ e)

/-- The first bad field of a gate list (Table 11-4). -/
def gateBad (l : List Byte) (now : Time) : List Chk :=
  let w0 := BitVec.ofNat 64 (leAt l 0 8)
  let w1 := BitVec.ofNat 64 (leAt l 8 8)
  [badDesc 0 (!fullValid w0 w1 || decide (now + 86400 * secT < fullTime w0 w1)),
   badDesc 16 (decide (leAt l 16 4 < 1000) || decide (1000000000 < leAt l 16 4)),
   badDesc 20 (decide (256 < leAt l 20 2)),
   badDesc 22 (leAt l 22 10 != 0)] ++
  (List.range (if 256 < leAt l 20 2 then 0 else leAt l 20 2)).flatMap (fun i =>
    [badDesc (32 + 8 * i) (decide (leAt l (32 + 8 * i) 4 < 64) || decide (1000000000 < leAt l (32 + 8 * i) 4)),
     badDesc (37 + 8 * i) (leAt l (37 + 8 * i) 3 != 0)])

/-- GATE_LIST_SET: pending from its processing until the switch (R553, R558). -/
def gateListSetSpec : OpSpec where
  opcode := 0x0904
  ownerOnly := true
  atOnce := true
  args := [(0, 1), (8, 8)]
  capture := gateCapture
  checks := fun c s => [badArg 0 (decide (8 ≤ c.arg 0 1)), conflict 2 (decide ((s.dev.eport (c.arg 0 1)).state = 2))]
  dchecks := fun _ l s => gateBad l s.dev.now
  run := devRun fun c l _ d =>
    let g : GateList := ⟨fullTime (BitVec.ofNat 64 (leAt l 0 8)) (BitVec.ofNat 64 (leAt l 8 8)), leAt l 16 4,
      (List.range (leAt l 20 2)).map (fun i => (leAt l (32 + 8 * i) 4, leAt l (36 + 8 * i) 1))⟩
    let at_ := if c.dated then fullTime c.when0 c.when1 else 0
    let sw := gateSwitchAt g.base g.cycle (max (d.earliest + 20 * usT) at_)
    let n0 := if c.dated then (gateSwitchAt g.base g.cycle at_).2 else 0
    (d.onEport (c.arg 0 1) (fun x => { x with pend := some (g, sw.1, decide (n0 < sw.2)) }), .later (c.arg 0 1) 0)

/-- The row GATE_LIST_SET. -/
def execGateListSet (c : HostCmd) (s : State) : Host.Outcome State Fault Refusal := .next (runCmd gateListSetSpec c s)

/-- GATE_LIST_CANCEL (R558). -/
def gateListCancelSpec : OpSpec where
  opcode := 0x0905
  ownerOnly := true
  args := [(0, 1)]
  checks := fun c s => [badArg 0 (decide (8 ≤ c.arg 0 1)),
    conflict (s.dev.eport (c.arg 0 1)).state (decide ((s.dev.eport (c.arg 0 1)).state ≠ 2))]
  run := devRun fun c _ _ d =>
    let d := d.onEport (c.arg 0 1) (fun x => { x with pend := none })
    (d.finish 0x0904 (c.arg 0 1) .aborted 0 d.freeWord).tickFree.okNow 0

/-- The row GATE_LIST_CANCEL. -/
def execGateListCancel (c : HostCmd) (s : State) : Host.Outcome State Fault Refusal := .next (runCmd gateListCancelSpec c s)

/-- HOST_SEND (R536). -/
def hostSendSpec : OpSpec where
  opcode := 0x0906
  ownerOnly := true
  args := [(0, 1), (2, 2), (8, 8)]
  capture := fun c d => capturePinned d 0 (c.arg 8 8) (c.arg 2 2)
  checks := fun c _ => [badArg 0 (decide (8 ≤ c.arg 0 1)), badArg 2 (decide (c.arg 2 2 < 60) || decide (9216 < c.arg 2 2))]
  run := devRun fun c l _ d =>
    let k := ctrlQ (c.arg 0 1)
    let full := decide (d.qLimit k ≤ (d.queue k).frames.length)
    let d := d.enqueue k { bytes := l, at_ := 0, host := true }
    if full then (d, .done .noResource 0 d.short) else d.okNow 0

/-- The row HOST_SEND. -/
def execHostSend (c : HostCmd) (s : State) : Host.Outcome State Fault Refusal := .next (runCmd hostSendSpec c s)

/-! ### Alarm, and what the page reports -/

/-- ALARM_FLUSH (R559): queues bound to SRTP legs emptied and stopped, SRTCP frames of the control queues discarded. -/
def Dev.alarmFlush (d : Dev) : Dev :=
  (List.range 8).foldl (fun (d : Dev) p =>
    let qs := (d.portQueues p).filter d.srtpQueue
    let n := sumN (qs.map (fun k => (d.queue k).frames.length))
    let ctl := (d.queue (ctrlQ p)).frames
    let keep := ctl.filter (fun f => !f.srtcp)
    let m := n + (ctl.length - keep.length)
    let d := qs.foldl (fun d k => d.discardQueue k) d
    let d := d.onQueue (ctrlQ p) (fun q => { q with frames := keep })
    let d := if keep.isEmpty then d.emptied (ctrlQ p) else d.dropOversize (ctrlQ p)
    if m = 0 then d
    else (d.bump (pgEgress p) 0x108 m).raise (pgEgress p) 4 (0x0E8 + p) 0x0905 (fmk 0 64 (match qs with | k :: _ => k | [] => 0xFFFF)) 0)
    { d with egress := { d.egress with stopped := true } }

/-- The stops of R559 end when Flint releases the alarm. -/
def Dev.alarmUnstop (d : Dev) : Dev := { d with egress := { d.egress with stopped := false } }

/-- Queues bound to a port. -/
def Dev.boundCount (d : Dev) (p : Nat) : Nat := (d.portQueues p).length - 1

/-- What an EGRESS page's RO registers read (Table 11-6). -/
def Dev.egressRead (d : Dev) (p off : Nat) : Option Word :=
  let x := d.eport p
  if off = 0x048 then some (fmk 0 14 (d.boundCount p) ||| fmk 16 2 x.state ||| fmkB 18 x.lateBase ||| fmk 24 8 x.entry ||| fmk 32 8 x.gates)
  else if off = 0x078 then some (match x.oper with | some g => shortOf g.base | none => 0)
  else if off = 0x080 then some (match x.oper with | some g => fmk 0 32 g.cycle | none => 0)
  else if off = 0x088 then some (match x.pend with | some (_, t, _) => shortOf t | none => 0)
  else if 0x090 ≤ off ∧ off < 0x0D0 then some (match nthD none x.longest ((off - 0x090) / 8) with | some w => fmk 0 32 w | none => 0xFFFFFFFF)
  else if (off = 0x068 ∨ off = 0x070) ∧ p ≠ 0 then some 0
  else none

end Sys2Proof.Machine
end

