-- ==== Sys2Proof/Machine/Flint.lean ====
section
/-! DEFINITION. Flint (chapter 12): key slots, the key-slot window, SRTP and SRTCP on both paths, alarms and pipelines. -/

namespace Sys2Proof.Machine
open Sys2Proof

/-- A key slot, its owner and its contexts. -/
def Dev.slot (d : Dev) (k : Nat) : KeySlot := tabGetD {} d.flint.keys k
def Dev.slotOwner (d : Dev) (k : Nat) : Nat := tabGetD 0 d.flint.owner k
def Dev.slotCtxs (d : Dev) (k : Nat) : List SrtpCtx := tabGetD [] d.flint.ctxs k

/-- A key slot replaced. -/
def Dev.setSlot (d : Dev) (k : Nat) (x : KeySlot) : Dev := { d with flint := { d.flint with keys := tabPutD {} d.flint.keys k x } }

/-- A slot's contexts replaced. -/
def Dev.setCtxs (d : Dev) (k : Nat) (l : List SrtpCtx) : Dev := { d with flint := { d.flint with ctxs := tabPutD [] d.flint.ctxs k l } }

/-- A context of a slot replaced, or added. -/
def Dev.putCtx (d : Dev) (k : Nat) (x : SrtpCtx) : Dev :=
  let l := d.slotCtxs k
  d.setCtxs k (if l.any (fun c => c.ssrc == x.ssrc) then l.map (fun c => if c.ssrc = x.ssrc then x else c) else l ++ [x])

/-- A realm's key-slot window. -/
def Dev.keyWin (d : Dev) (r : Nat) : KeyWin := tabGetD {} d.flint.wins r

/-- A window changed. -/
def Dev.onKeyWin (d : Dev) (r : Nat) (f : KeyWin → KeyWin) : Dev :=
  { d with flint := { d.flint with wins := tabPutD {} d.flint.wins r (f (d.keyWin r)) } }

/-- The state code of a slot (Table 12-2). -/
def KeySlot.code (s : KeySlot) : Nat :=
  if s.current.isNone then 0 else if s.pending.isSome then 2 else if s.old.isSome then 3 else 1

/-- Key, salt and tag lengths of a transform (Table 12-1). -/
def keyLen (t : Nat) : Nat := if t = 3 ∨ t = 4 ∨ t = 6 then 32 else 16
def saltLen (t : Nat) : Nat := if t = 5 ∨ t = 6 then 12 else 14
def tagLen (t : Nat) (rtcp : Bool) : Nat := if t = 5 ∨ t = 6 then 16 else if rtcp then 10 else if t = 2 ∨ t = 4 then 4 else 10

/-- The pipelines in service, and the one that carries a slot (R599, R601). -/
def Dev.pipesIn (d : Dev) : List Nat :=
  (List.range 16).filter (fun p => let t := nthD PState.off d.flint.pipes p; decide (t = .ready) || decide (t = .active) || decide (t = .draining))
def Dev.pipeOf (d : Dev) (k : Nat) : Nat :=
  let l := d.pipesIn
  nthD 0 l (Config.slotPipe k (sumN (l.map (fun p => 2 ^ p))) % max 1 l.length)

/-- A Flint event of a slot (R604). -/
def Dev.flintEvent (d : Dev) (b k ssrc : Nat) : Dev :=
  d.raise pgFlint b (0x0D0 + d.pipeOf k) (0x0A01 + b) (fmk 0 64 k) (fmk 0 64 ssrc)

/-! ### Slots -/

/-- A slot erased with its contexts (R587). -/
def Dev.zeroSlot (d : Dev) (k : Nat) : Dev := (d.setSlot k {}).setCtxs k []

/-- Every slot, context and staging buffer erased (R569, R596). -/
def Dev.zeroAllSlots (d : Dev) : Dev :=
  { d with flint := { d.flint with keys := [], ctxs := [], wins := tabMapD {} d.flint.wins (fun _ w =>
      { w with key := List.replicate 32 0, salt := List.replicate 16 0, act := .none }) } }

/-- An egress key becomes current: its contexts go on, and none is used up any more (R579, R592). A packet's protection is one
step, so no packet is still bound to the old half and the slot is ACTIVE. Without ACT_INDEX, the primary records where each context
switches (R586). -/
def Dev.egressCurrent (d : Dev) (k : Nat) (h : KeyHalf) : Dev :=
  let d := if h.atIndex.isNone then d.record 14 k ((d.slotCtxs k).flatMap (fun c => [(c.ssrc : Int), ((match c.high with | some i => i + 1 | none => 0) : Nat)])) else d
  let d := d.setSlot k { current := some { h with atIndex := none }, changed := d.short }
  let d := d.setCtxs k ((d.slotCtxs k).map (fun c => { c with switched := false, exhausted := false }))
  d.inc pgFlint 0x0E0

/-- An ingress key becomes current, the former one being kept for packets under it (R581, R582). -/
def Dev.ingressCurrent (d : Dev) (k : Nat) (h : KeyHalf) : Dev :=
  let s := d.slot k
  (d.setSlot k { current := some { h with atIndex := none }, old := s.current, changed := d.short }).inc pgFlint 0x0E0

/-- On a secondary the contexts of an egress slot whose key came without ACT_INDEX switch where the primary's record says, and those it does
not name at their first packet (R586). -/
def Dev.switchRecord (d : Dev) (k : Nat) (l : List (Nat × Nat)) : Dev :=
  match (d.slot k).pending with
  | none => d
  | some h =>
    if h.egress = false ∨ h.atIndex.isSome then d
    else
      (d.setSlot k { d.slot k with pending := some { h with atIndex := some 0 } }).setCtxs k ((d.slotCtxs k).map (fun c =>
        { c with switchAt := (l.find? (fun (x : Nat × Nat) => x.1 == c.ssrc)).map Prod.snd }))

/-- At a takeover a half whose switch record has not come becomes current (R586, R690). -/
def Dev.settleHalves (d : Dev) : Dev :=
  d.flint.keys.foldl (fun (d : Dev) e => match e.2.pending with
    | some h => if h.egress && h.atIndex.isNone then (d.setSlot e.1 { e.2 with pending := none, rtcpNew := false }).egressCurrent e.1 h else d
    | none => d) d

/-- A WRITE takes effect (R578 to R582, R585, R586). -/
def Dev.writeSlot (d : Dev) (k : Nat) (h : KeyHalf) : Dev :=
  let s := d.slot k
  match s.current with
  | none => d.setSlot k { current := some { h with atIndex := none }, changed := d.short }
  | some cur =>
    let s := { s with pending := none, old := none, rtcpNew := false }
    let d := d.setSlot k s
    match h.egress, h.atIndex with
    | true, none =>
      if d.decides then d.egressCurrent k h
      else (d.setSlot k { s with pending := some h }).setCtxs k ((d.slotCtxs k).map (fun c => { c with switched := false, switchAt := none }))
    | true, some _ =>
      (d.setSlot k { s with pending := some h }).setCtxs k ((d.slotCtxs k).map (fun c => { c with switched := false, switchAt := none }))
    | false, none =>
      let d := d.setCtxs k ((d.slotCtxs k).map (fun c => { c with switchAt := c.high.map (· + 1), newHigh := none }))
      (d.setSlot k { s with current := some cur }).ingressCurrent k h
    | false, some a =>
      (d.setSlot k { s with pending := some h }).setCtxs k ((d.slotCtxs k).map (fun c => { c with switchAt := some a, newHigh := none }))

/-! ### SRTP packets -/

/-- Length of an RTP header: 12 bytes, CSRCs, and an extension. -/
def rtpHeaderLen (p : List Byte) : Nat :=
  let n := 12 + 4 * (beAt p 0 1 % 16)
  if beAt p 0 1 / 16 % 2 = 1 then n + 4 + 4 * beAt p (n + 2) 2 else n

/-- Bytes combined with the key stream from byte `i`. -/
def xorStream (h : KeyHalf) (rtcp : Bool) (ssrc idx : Nat) (l : List Byte) : List Byte :=
  (List.range l.length).map (fun i => nthD 0 l i ^^^ Config.srtpStream ⟨h.transform, h.key, h.salt, rtcp, ssrc, idx⟩ i)

/-- The tag of a packet. -/
def srtpTagOf (h : KeyHalf) (rtcp : Bool) (ssrc idx : Nat) (clear cipher : List Byte) : List Byte :=
  (List.range (tagLen h.transform rtcp)).map (fun i => Config.srtpTag ⟨h.transform, h.key, h.salt, rtcp, ssrc, idx⟩ clear cipher i)

/-- An RTP packet protected: header in clear (R564), payload enciphered, tag appended. -/
def srtpSeal (h : KeyHalf) (ssrc idx : Nat) (p : List Byte) : List Byte :=
  let n := rtpHeaderLen p
  let c := xorStream h false ssrc idx (p.drop n)
  p.take n ++ c ++ srtpTagOf h false ssrc idx (p.take n) c

/-- An RTCP packet protected: 8 bytes in clear, E set with the index (R565), and the tag, before that word for the GCM
transforms (RFC 7714) and after it for the others (RFC 3711). -/
def srtcpSeal (h : KeyHalf) (ssrc idx : Nat) (p : List Byte) : List Byte :=
  let c := xorStream h true ssrc idx (p.drop 8)
  let e := beBytes 4 (2147483648 + idx)
  let t := srtpTagOf h true ssrc idx (p.take 8 ++ e) c
  if 5 ≤ h.transform then p.take 8 ++ c ++ t ++ e else p.take 8 ++ c ++ e ++ t

/-- An SRTP packet authenticated and deciphered. -/
def srtpOpen (h : KeyHalf) (ssrc idx : Nat) (p : List Byte) : Option (List Byte) :=
  let n := rtpHeaderLen p
  let m := p.length - tagLen h.transform false
  if m < n then none
  else
    let c := (p.take m).drop n
    if p.drop m = srtpTagOf h false ssrc idx (p.take n) c then some (p.take n ++ xorStream h false ssrc idx c) else none

/-- The word E and index of an SRTCP packet, its enciphered part and its tag, by transform. -/
def srtcpParts (h : KeyHalf) (p : List Byte) : Nat × List Byte × List Byte :=
  let t := tagLen h.transform true
  if 5 ≤ h.transform then (beAt p (p.length - 4) 4, (p.take (p.length - 4 - t)).drop 8, (p.take (p.length - 4)).drop (p.length - 4 - t))
  else (beAt p (p.length - 4 - t) 4, (p.take (p.length - 4 - t)).drop 8, p.drop (p.length - t))

/-- An SRTCP packet authenticated and deciphered; E clear leaves its bytes in clear (R565). -/
def srtcpOpen (h : KeyHalf) (ssrc : Nat) (p : List Byte) : Option (List Byte) :=
  if p.length < 12 + tagLen h.transform true then none
  else
    let x := srtcpParts h p
    let idx := x.1 % 2147483648
    let clear := p.take 8 ++ beBytes 4 x.1
    if x.2.2 = srtpTagOf h true ssrc idx clear x.2.1 then
      some (p.take 8 ++ (if 2147483648 ≤ x.1 then xorStream h true ssrc idx x.2.1 else x.2.1))
    else none

/-- The index of a sequence number against the highest index known (R589, RFC 3711 Appendix A). -/
def srtpIndex (high : Option Nat) (seq : Nat) : Nat :=
  match high with
  | none => seq
  | some hi =>
    let s := hi % 65536
    let roc := hi / 65536
    let v := if s < 32768 then (if 32768 < seq - s ∧ s ≤ seq then (roc + 4294967295) % 4294967296 else roc)
      else (if seq < s - 32768 then (roc + 1) % 4294967296 else roc)
    v * 65536 + seq

/-- The packet is at or below the window's lower edge, or already authenticated within it (R589). -/
def replayed (high : Option Nat) (window idx : Nat) : Bool :=
  match high with
  | none => false
  | some hi => if hi < idx then false else decide (128 ≤ hi - idx) || window.testBit (hi - idx)

/-- The window after a packet has authenticated (R590). -/
def windowAdd (high : Option Nat) (window idx : Nat) : Nat × Nat :=
  match high with
  | none => (idx, 1)
  | some hi => if hi < idx then (idx, ((if 128 ≤ idx - hi then 0 else window <<< (idx - hi)) ||| 1) % 2 ^ 128) else (hi, window ||| 2 ^ (hi - idx))

/-- The two halves of an ingress slot: the older and the newer. -/
def KeySlot.halves (s : KeySlot) : Option KeyHalf × Option KeyHalf :=
  match s.pending, s.old with
  | some p, _ => (s.current, some p)
  | none, some o => (some o, s.current)
  | none, none => (none, s.current)

/-- The slot after a context authenticated under the newer half: ARMED becomes RETIRING (R582), RETIRING ends when every context
is 128 past its switch index (R584). -/
def Dev.slotAdvance (d : Dev) (k : Nat) (past : Bool) : Dev :=
  let d := match (d.slot k).pending with
    | some h => if past then d.ingressCurrent k h else d
    | none => d
  let s := d.slot k
  if s.pending.isNone && s.old.isSome && (d.slotCtxs k).all (fun c => match c.switchAt, c.newHigh with
      | some a, some n => decide (a + 128 ≤ n)
      | _, _ => false) then
    (d.setSlot k { s with old := none }).setCtxs k ((d.slotCtxs k).map (fun c => { c with switchAt := none, newHigh := none }))
  else d

/-- Ingress (R567, R568, R583, R589, R590): an SRTP or SRTCP packet of a slot is checked, authenticated and deciphered. -/
def Dev.flintIn (d : Dev) (k : Nat) (rtcp : Bool) (p : List Byte) : Dev × Option (List Byte) :=
  let s := d.slot k
  let ssrc := beAt p (if rtcp then 4 else 8) 4
  match s.current with
  | none => (d.inc pgFlint 0x0C0, none)
  | some _ =>
    let known := (d.slotCtxs k).find? (fun c => c.ssrc == ssrc)
    if known.isNone ∧ 16 ≤ (d.slotCtxs k).length then (d.inc pgFlint 0x0C8, none)
    else
      let c := known.getD { ssrc := ssrc }
      let hs := s.halves
      let newH := hs.2
      let idx := if rtcp then (match newH with | some h => (srtcpParts h p).1 % 2147483648 | none => 0) else srtpIndex c.high (beAt p 2 2)
      let dup := if rtcp then replayed c.rtcpHigh c.rtcpWindow idx else replayed c.high c.window idx
      if dup then ((d.inc pgFlint 0x0B8).flintEvent 2 k ssrc, none)
      else
        let sw := match c.switchAt, s.pending with
          | some a, _ => a
          | none, some h => h.atIndex.getD 0
          | none, none => idx
        let newFirst := rtcp || decide (sw ≤ idx) || hs.1.isNone
        let tryH (h : Option KeyHalf) : Option (List Byte) := h.bind (fun h => if rtcp then srtcpOpen h ssrc p else srtpOpen h ssrc idx p)
        let first := tryH (if newFirst then newH else hs.1)
        let other := if newFirst then hs.1 else newH
        let second := if first.isNone then tryH other else none
        let d := if first.isNone && other.isSome then d.inc pgFlint 0x0F0 else d
        let res := if first.isSome then first else second
        match res with
        | none => ((d.inc pgFlint 0x0B0).flintEvent 1 k ssrc, none)
        | some clear =>
          let underNew := (first.isSome && newFirst) || (first.isNone && !newFirst)
          let d := if !rtcp && !underNew && decide (sw ≤ idx) then d.inc pgFlint 0x0E8 else d
          let d := (d.inc pgFlint (if rtcp then 0x090 else 0x080)).bump pgFlint 0x0A0 p.length
          let two := hs.1.isSome
          let c := if rtcp then
              let w := windowAdd c.rtcpHigh c.rtcpWindow idx
              { c with rtcpHigh := some w.1, rtcpWindow := w.2 }
            else
              let w := windowAdd c.high c.window idx
              { c with high := some w.1, window := w.2,
                       switchAt := if two then some sw else c.switchAt,
                       newHigh := if two && underNew then some (max idx (c.newHigh.getD 0)) else c.newHigh }
          let d := d.putCtx k c
          (if two && !rtcp then d.slotAdvance k (decide (sw ≤ idx)) else d, some clear)

/-- Egress (R567, R568, R579, R580, R591, R592): an RTP or RTCP packet of a slot is protected. -/
def Dev.flintOut (d : Dev) (k : Nat) (rtcp : Bool) (p : List Byte) : Dev × Option (List Byte) :=
  let s := d.slot k
  let ssrc := beAt p (if rtcp then 4 else 8) 4
  match s.current with
  | none => (d.inc pgFlint 0x0C0, none)
  | some cur =>
    let known := (d.slotCtxs k).find? (fun c => c.ssrc == ssrc)
    if known.isNone ∧ 192 ≤ (d.slotCtxs k).length then (d.inc pgFlint 0x0C8, none)
    else
      let c := known.getD { ssrc := ssrc }
      let idx := if rtcp then (match c.rtcpHigh with | some i => i + 1 | none => 0) else srtpIndex c.high (beAt p 2 2)
      let spent := c.exhausted || (if rtcp then decide (2147483648 ≤ idx) else decide (281474976710656 ≤ idx))
      if spent then
        (((d.putCtx k { c with exhausted := true }).inc pgFlint 0x0F8).flintEvent 4 k ssrc, none)
      else
        let switches := match s.pending with
          | some h => if rtcp then s.rtcpNew else c.switched || (match h.atIndex with | some a => decide (c.switchAt.getD a ≤ idx) | none => false)
          | none => false
        let h := if switches then s.pending.getD cur else cur
        let out := if rtcp then srtcpSeal h ssrc idx p else srtpSeal h ssrc idx p
        let c := if rtcp then { c with rtcpHigh := some idx }
          else { c with high := some (max idx (c.high.getD 0)), switched := c.switched || switches }
        let d := (d.putCtx k c).bump pgFlint 0x0A8 out.length
        let d := d.inc pgFlint (if rtcp then 0x098 else 0x088)
        let d := if !rtcp && switches then d.setSlot k { d.slot k with rtcpNew := true } else d
        let d := match (d.slot k).pending with
          | some h => if !rtcp && (d.slotCtxs k).all SrtpCtx.switched then d.egressCurrent k h else d
          | none => d
        let warn := !rtcp && decide (fld (d.reg pgFlint 0x078) 0 48 ≤ idx) && !h.warned
        let mark (x : Option KeyHalf) : Option KeyHalf := x.map (fun y => if y.key = h.key ∧ y.salt = h.salt then { y with warned := true } else y)
        let d := if warn then
            ((d.setSlot k { d.slot k with current := mark (d.slot k).current, pending := mark (d.slot k).pending }).flintEvent 3 k ssrc).event
              (pgRealm (d.slotOwner k)) 1
          else d
        (d, some out)

/-- The index of the SRTCP packet last sent on a context (R591). -/
def Dev.srtcpSent (d : Dev) (k ssrc : Nat) : Nat := (((d.slotCtxs k).find? (fun c => c.ssrc == ssrc)).bind SrtpCtx.rtcpHigh).getD 0

/-! ### The key-slot window -/

/-- Registers of the window that a write may change (R573). -/
def isKeyReg (off : Nat) : Bool :=
  decide (off = 0x200) || decide (off = 0x208) || decide (off = 0x210) || (decide (0x218 ≤ off) && decide (off < 0x248) && off % 8 == 0)

/-- Bytes of a buffer replaced from `o`. -/
def putBytes (l : List Byte) (o : Nat) (b : List Byte) : List Byte := l.take o ++ b ++ l.drop (o + b.length)

/-- A write to KEY_SEL, KEY_CFG, ACT_INDEX, KEY or SALT (R573). -/
def Dev.keyRegisterWrite (d : Dev) (r off : Nat) (v : Word) : Dev :=
  if 64 ≤ r ∨ isKeyReg off = false then d
  else if (d.keyWin r).busy then d.err (pgRealm r) .badState
  else if off < 0x218 then
    let m := d.mergeAt (pgRealm r) off v
    (d.setReg (pgRealm r) off m.1).errs (pgRealm r) m.2
  else if off < 0x238 then d.onKeyWin r (fun w => { w with key := putBytes w.key (off - 0x218) (leBytes 8 v.toNat) })
  else d.onKeyWin r (fun w => { w with salt := putBytes w.salt (off - 0x238) (leBytes 8 v.toNat) })

/-- The row KEY_REGISTER_WRITE. -/
def execKeyRegisterWrite (r off : Nat) (v : Word) (s : State) : Host.Outcome State Fault Refusal :=
  .next (s.actReady (fun d => d.keyRegisterWrite r off v))

/-- What the staging buffer holds as a half. -/
def Dev.staged (d : Dev) (r : Nat) : KeyHalf :=
  let cfg := d.reg (pgRealm r) 0x208
  let t := fld cfg 0 4
  ⟨t, bit cfg 4, (d.keyWin r).key.take (keyLen t), (d.keyWin r).salt.take (saltLen t),
   if bit cfg 5 then some (fld (d.reg (pgRealm r) 0x210) 0 48) else none, false⟩

/-- The staging buffer erased after a command (R576). -/
def Dev.clearStaging (d : Dev) (r : Nat) : Dev :=
  ((d.setReg (pgRealm r) 0x208 0).setReg (pgRealm r) 0x210 0).onKeyWin r
    (fun w => { w with key := List.replicate 32 0, salt := List.replicate 16 0 })

/-- A key command ends with a result at once, or holds BUSY until it has taken effect (R573, R574, R576, R577). -/
def Dev.keyCmd (d : Dev) (r code : Nat) (bad : Nat → Option Status) (act : Nat → KeyAct) (now : Nat → Dev → Dev) : Dev :=
  if 64 ≤ r then d
  else if (d.keyWin r).busy then d.err (pgRealm r) .badState
  else
    let k := fld (d.reg (pgRealm r) 0x200) 0 14
    let st := if r ≠ 0 ∧ d.slotOwner k ≠ r ∨ r = 0 ∧ d.slotOwner k ≠ 0 then some Status.realmDenied else bad k
    let st := if d.decides then st else some Status.refusedPolicy
    let a := act k
    let w := d.keyWin r
    let clear := leBytes 8 (d.reg (pgRealm r) 0x208).toNat ++ leBytes 8 (d.reg (pgRealm r) 0x210).toNat ++ w.key ++ w.salt
    let d := if d.joined && st.isNone then d.linkSend ltKey (leBytes 2 k ++ leBytes 1 code ++ Config.linkSeal clear d.pair.txSeq) else d
    let d := d.clearStaging r
    match st with
    | some e => d.onKeyWin r (fun w => { w with result := e.code, slot := k, act := .none })
    | none => (now k d).onKeyWin r (fun w => { w with busy := true, slot := k, act := a, since := d.now })

/-- What makes a WRITE bad (R575). -/
def Dev.writeBad (d : Dev) (r k : Nat) : Bool :=
  let h := d.staged r
  let w := d.keyWin r
  let other := match (d.slot k).current with
    | some c => decide (c.transform ≠ h.transform) || (c.egress != h.egress)
    | none => false
  decide (h.transform = 0) || decide (6 < h.transform) || (w.key.drop (keyLen h.transform)).any (· != 0) ||
  (w.salt.drop (saltLen h.transform)).any (· != 0) || other

/-- KEY_CMD WRITE (R575). -/
def Dev.keyWrite (d : Dev) (r : Nat) : Dev :=
  d.keyCmd r 1 (fun k => if d.writeBad r k then some .badArg else none) (fun _ => .write (d.staged r)) (fun _ d => d)

/-- The row KEY_WRITE. -/
def execKeyWrite (r : Nat) (s : State) : Host.Outcome State Fault Refusal := .next (s.actReady (fun d => d.keyWrite r))

/-- KEY_CMD ZEROIZE: in effect at once (R587). -/
def Dev.zeroize (d : Dev) (r : Nat) : Dev := d.keyCmd r 2 (fun _ => none) (fun _ => .none) (fun k d => d.zeroSlot k)

/-- The row ZEROIZE. -/
def execZeroize (r : Nat) (s : State) : Host.Outcome State Fault Refusal := .next (s.actReady (fun d => d.zeroize r))

/-- KEY_CMD CANCEL_PENDING (R585). -/
def Dev.cancelPending (d : Dev) (r : Nat) : Dev :=
  d.keyCmd r 3 (fun k => if (d.slot k).code = 2 then none else some .stateConflict) (fun _ => .cancel) (fun _ d => d)

/-- The row CANCEL_PENDING. -/
def execCancelPending (r : Nat) (s : State) : Host.Outcome State Fault Refusal := .next (s.actReady (fun d => d.cancelPending r))

/-- A key command takes effect. -/
def Dev.keyApply (d : Dev) (k : Nat) : KeyAct → Dev
  | .none => d
  | .write h => d.writeSlot k h
  | .cancel => (d.setSlot k { d.slot k with pending := none, rtcpNew := false }).setCtxs k
      ((d.slotCtxs k).map (fun c => { c with switched := false, switchAt := none, newHigh := none }))

/-- KEY_CMD_CONFIRM: the command has taken effect and BUSY clears (R577). -/
def Dev.keyCmdConfirm (d : Dev) (r : Nat) : Dev :=
  let w := d.keyWin r
  if 64 ≤ r ∨ w.busy = false then d
  else (d.keyApply w.slot w.act).onKeyWin r (fun w => { w with busy := false, result := 0, act := .none })

/-- The row KEY_CMD_CONFIRM. -/
def execKeyCmdConfirm (r : Nat) (s : State) : Host.Outcome State Fault Refusal := .next (s.actReady (fun d => d.keyCmdConfirm r))

/-- KEY_CMD_TIMEOUT: the partner has not confirmed within 1 ms (R577). -/
def Dev.keyCmdTimeout (d : Dev) (r : Nat) : Dev :=
  let w := d.keyWin r
  if 64 ≤ r ∨ w.busy = false ∨ d.mirrored = false ∨ d.now < w.since + msT then d
  else d.onKeyWin r (fun w => { w with busy := false, result := 10, act := .none })

/-- The row KEY_CMD_TIMEOUT. -/
def execKeyCmdTimeout (r : Nat) (s : State) : Host.Outcome State Fault Refusal := .next (s.actReady (fun d => d.keyCmdTimeout r))

/-- KEY_INFO of the selected slot; 0 for a slot the realm does not own (R574). -/
def Dev.keyInfo (d : Dev) (r : Nat) : Word :=
  let k := fld (d.reg (pgRealm r) 0x200) 0 14
  if d.slotOwner k ≠ r then 0
  else
    let s := d.slot k
    match s.current with
    | none => 0
    | some c => fmk 0 2 s.code ||| fmk 2 4 c.transform ||| fmkB 6 c.egress ||| fmkB 7 (s.pending.any (fun h => h.atIndex.isSome)) |||
        fmk 8 8 (d.slotCtxs k).length ||| fmk 16 48 ((s.pending.bind KeyHalf.atIndex).getD 0)

/-- KEY_STATUS. -/
def Dev.keyStatus (d : Dev) (r : Nat) : Word :=
  let w := d.keyWin r
  fmk 0 8 w.result ||| fmkB 8 w.busy ||| fmk 16 16 w.slot

/-! ### Commands (Table 12-3) -/

/-- A leg out of IDLE with SRTP names a slot (R570). -/
def Dev.slotNamed (d : Dev) (k : Nat) (but : Option Nat) : Bool :=
  d.legs.legs.any (fun e => decide (some e.1 ≠ but) && decide (e.2.state ≠ .idle) && e.2.desc.srtp && (e.2.desc.keyIn == k || e.2.desc.keyOut == k))

/-- Slots of a range. -/
def slotRange (c : HostCmd) : List Nat := (List.range (c.arg 2 2)).map (fun i => c.arg 0 2 + i)

/-- KEYSLOT_ASSIGN. -/
def keyslotAssignSpec : OpSpec where
  opcode := 0x0A00
  ownerOnly := true
  args := [(0, 5)]
  checks := fun c s => [badArg 0 (decide (16384 ≤ c.arg 0 2)),
    badArg 2 (decide (c.arg 2 2 = 0) || decide (16384 < c.arg 0 2 + c.arg 2 2)), badArg 4 (decide (64 ≤ c.arg 4 1)),
    match (slotRange c).find? (fun k => decide ((s.dev.slot k).code ≠ 0) || s.dev.slotNamed k none) with
    | some k => conflict (s.dev.slot k).code true
    | none => conflict 0 false]
  run := devRun fun c _ _ d =>
    let d := { d with flint := { d.flint with owner := (slotRange c).foldl (fun t k => tabPutD 0 t k (c.arg 4 1)) d.flint.owner } }
    d.okNow (c.arg 2 2)

/-- The row KEYSLOT_ASSIGN. -/
def execKeyslotAssign (c : HostCmd) (s : State) : Host.Outcome State Fault Refusal := .next (runCmd keyslotAssignSpec c s)

/-- KEY_QUERY (R572). -/
def keyQuerySpec : OpSpec where
  opcode := 0x0A01
  args := [(0, 2)]
  checks := fun c s => [denied (c.realm != 0 && s.dev.slotOwner (c.arg 0 2) != c.realm), badArg 0 (decide (16384 ≤ c.arg 0 2))]
  run := devRun fun c _ _ d => (d, .done .ok (d.slot (c.arg 0 2)).code (d.slot (c.arg 0 2)).changed)

/-- The row KEY_QUERY. -/
def execKeyQuery (c : HostCmd) (s : State) : Host.Outcome State Fault Refusal := .next (runCmd keyQuerySpec c s)

/-- The code of the FLINT page's state (R602). -/
def State.flintPage (s : State) : PState := if s.aon.alarmLatch then .faulted else if s.ready then .active else .off

/-- FLINT_RELEASE (R572, R597). -/
def flintReleaseSpec : OpSpec where
  opcode := 0x0A02
  ownerOnly := true
  checks := fun _ s => [conflict s.flintPage.code (!s.aon.alarmLatch || s.aon.alarmActive != 0)]
  run := fun _ _ _ s =>
    let n := (s.dev.egress.queues.filter (fun e => s.dev.srtpQueue e.1)).length
    let d := (s.dev.alarmUnstop.zeroAllSlots).emit (.alarmOut false)
    ({ s.setDev d with aon := { (s.setDev d).aon with alarmLatch := false, alarmCause := 0 } }, .done .ok n d.short)

/-- The row FLINT_RELEASE. -/
def execFlintRelease (c : HostCmd) (s : State) : Host.Outcome State Fault Refusal := .next (runCmd flintReleaseSpec c s)

/-! ### Alarms -/

/-- What an alarm does in the part RESET_N resets (R596). -/
def Dev.alarm (d : Dev) (cause : Nat) : Dev :=
  let d := (d.zeroAllSlots.alarmFlush).emit (.alarmOut true)
  let d := d.raise pgFlint 0 0x1F0 0x0A01 (fmk 0 64 cause) 0
  let d := if d.mirrored && d.pair.surrender.isNone then
      ({ d with pair := { d.pair with surrender := some (epochCeil d.now) } }).linkSend ltSurrender (leBytes 8 (shortOf (epochCeil d.now)).toNat)
    else d
  (List.range 64).foldl (fun d r => d.event (pgRealm r) 0) d

/-- ALARM (R595 to R597): `sources` are the conditions that hold now. The monitor lies on VDD_AUX and works in reset; there, and
while frozen, only what lies in the always-on domain follows (R749, R798). -/
def execAlarm (sources : BitVec 5) (s : State) : Host.Outcome State Fault Refusal :=
  if !s.aon.auxOn then .next s
  else
    let hit := sources &&& (s.aon.alarmEnable ||| 0x0B)
    let s := { s with aon := { s.aon with alarmActive := sources } }
    if hit = 0 then .next s
    else
      let s := { s with aon := { s.aon with
        alarmLatch := true
        alarmCause := s.aon.alarmCause ||| hit
        alarmTime := if s.aon.alarmLatch then s.aon.alarmTime else s.dev.short } }
      .next (if s.up then s.setDev (s.dev.alarm s.aon.alarmCause.toNat) else s.setDev (s.dev.zeroAllSlots.emit (.alarmOut true)))

/-- ALARM_CFG written (R603): bits 0, 1 and 3 ignore writes, LOCK is set only and freezes ENABLE. -/
def State.alarmCfgWrite (s : State) (v : Word) : State :=
  let new := BitVec.ofNat 5 (fld v 0 5) ||| 0x0B
  let d := if v &&& 0xFFFFFFFFFFFFFEE0 = 0 then s.dev else s.dev.err pgFlint .reservedSet
  let d := if s.aon.alarmLock && decide (new ≠ s.aon.alarmEnable) then d.err pgFlint .badState else d
  let s := s.setDev d
  { s with aon := { s.aon with
    alarmEnable := if s.aon.alarmLock then s.aon.alarmEnable else new
    alarmLock := s.aon.alarmLock || bit v 8 } }


/-! ### Pipelines -/

/-- A pipeline's state replaced. -/
def Dev.setPipe (d : Dev) (p : Nat) (t : PState) : Dev := { d with flint := { d.flint with pipes := setNth d.flint.pipes p t } }

/-- PIPE_CTRL written (R601): a newly set bit drains its pipeline until the next epoch boundary, a cleared one returns it. -/
def Dev.pipeCtrlWrite (d : Dev) (v : Word) : Dev :=
  let m := d.mergeAt pgFlint 0x068 v
  let d := (d.setReg pgFlint 0x068 m.1).errs pgFlint m.2
  (List.range 16).foldl (fun (d : Dev) p =>
    let t := nthD PState.off d.flint.pipes p
    if bit m.1 p then
      if t = .ready ∨ t = .active then
        { d.setPipe p .draining with flint := { (d.setPipe p .draining).flint with moveAt := tabPutD 0 d.flint.moveAt p (epochCeil (d.now + 1)) } }
      else d
    else if t = .draining ∨ t = .isolated then d.setPipe p .ready else d) d


/-- FLINT_PIPE_MOVE: at the epoch boundary a draining pipeline's slots move and it is ISOLATED (R601); a UNIT_ISOLATE of it completes (R808). -/
def Dev.flintPipeMove (d : Dev) (p : Nat) : Dev :=
  if p < 16 ∧ nthD PState.off d.flint.pipes p = .draining ∧ tabGetD 0 d.flint.moveAt p ≤ d.now then
    (d.setPipe p .isolated).finish 0x0F00 (0x0D0 + p) .ok 5 d.short
  else d

/-- The row FLINT_PIPE_MOVE. -/
def execFlintPipeMove (p : Nat) (s : State) : Host.Outcome State Fault Refusal := .next (s.actReady (fun d => d.flintPipeMove p))

/-- PIPE_FAULT (R601, R604); the spec names no slot and no SSRC for it, so its detail words are free values. -/
def Dev.pipeFault (d : Dev) (p : Nat) : Dev :=
  if 16 ≤ p then d
  else
    let a := d.freeWord
    let d := d.tickFree
    let b := d.freeWord
    (d.tickFree.setPipe p .faulted).raise pgFlint 6 (0x0D0 + p) 0x0A07 a b

/-- The row PIPE_FAULT. -/
def execPipeFault (p : Nat) (s : State) : Host.Outcome State Fault Refusal := .next (s.actReady (fun d => d.pipeFault p))

/-- What the FLINT page's RO registers read (Table 12-7). -/
def State.flintRead (s : State) (off : Nat) : Option Word :=
  let d := s.dev
  if off = 0x048 then some (fmk 0 5 d.pipesIn.length ||| fmk 8 15 (d.flint.keys.filter (fun e => e.2.current.isSome)).length ||| fmkB 31 s.aon.alarmLatch)
  else if off = 0x050 then some (fmk 0 5 s.aon.alarmEnable.toNat ||| fmkB 8 s.aon.alarmLock)
  else if off = 0x058 then some (fmk 0 5 s.aon.alarmCause.toNat ||| fmk 8 5 s.aon.alarmActive.toNat)
  else if off = 0x060 then some s.aon.alarmTime
  else if off = 0x070 then
    some ((List.range 16).foldl (fun w p =>
      let t := nthD PState.off d.flint.pipes p
      let t := if t = .ready ∧ d.flint.keys.any (fun e => e.2.current.isSome && d.pipeOf e.1 == p) then PState.active else t
      w ||| fmk (3 * p) 3 t.code) 0)
  else none

end Sys2Proof.Machine
end

