-- ==== Sys2Proof/Machine/Net.lean ====
section
/-! DEFINITION. Network packets: frames that the unit builds on a port, Ethernet, IP and UDP as the ports read them (R640 to R645), RTP headers and
extensions (RFC 3550, RFC 8285), and the payload headers of Table 4-7. -/

namespace Sys2Proof.Machine
open Sys2Proof

/-- A port's MAC address, first octet first (Table 13-12). -/
def Dev.macAddr (d : Dev) (p : Nat) : List Byte := beBytes 6 (fld (d.reg (pgPort p) 0x050) 0 48)

/-- A frame with a UDP datagram that Tiusk builds on a port (R645). -/
def Dev.udpFrame (d : Dev) (p : Nat) (dst : List Byte) (vlan pcp dscp : Nat) (v6 : Bool) (src ip : List Byte) (sport dport : Nat)
    (data : List Byte) : List Byte :=
  let ttl := fld (d.portCfg p) 8 8
  let u := udpDatagram v6 src ip sport dport data
  if v6 then etherFrame dst (d.macAddr p) vlan pcp 0x86DD (ipv6Packet dscp ttl src ip u)
  else etherFrame dst (d.macAddr p) vlan pcp 0x0800 (ipv4Packet dscp ttl src ip u)

/-- A frame of a leg. -/
def Dev.legFrame (d : Dev) (x : LegDesc) (data : List Byte) : List Byte :=
  let v6 := decide (x.family = 6)
  d.udpFrame x.port (beBytes 6 x.nextHop) x.vlan x.pcp x.dscp v6 (if v6 then x.localIp else x.localIp.take 4)
    (if v6 then x.remoteIp else x.remoteIp.take 4) x.localUdp x.remoteUdp data

/-- A received frame taken apart: destination, VID, EtherType, payload, and whether its tags break R642. -/
structure EthIn where
  dst : List Byte
  vlan : Nat
  etype : Nat
  data : List Byte
  badTag : Bool
  deriving DecidableEq, Repr

/-- The Ethernet layer of a frame without FCS (R642). -/
def ethParse (l : List Byte) : EthIn :=
  let t := beAt l 12 2
  if t = 0x8100 then
    let t2 := beAt l 16 2
    ⟨l.take 6, beAt l 14 2 % 4096, t2, l.drop 18, decide (t2 = 0x8100) || decide (t2 = 0x88A8)⟩
  else ⟨l.take 6, 0, t, l.drop 14, decide (t = 0x88A8)⟩

/-- A UDP datagram received: addresses, ports and data. -/
structure UdpIn where
  v6 : Bool
  src : List Byte
  dst : List Byte
  sport : Nat
  dport : Nat
  data : List Byte
  deriving DecidableEq, Repr

/-- What the IP checks of R644 make of a packet. -/
inductive IpIn where
  | host | ipErr | udpErr | udp (u : UdpIn)
  deriving DecidableEq, Repr

/-- A UDP datagram checked and taken apart. -/
def udpParse (v6 : Bool) (src dst u : List Byte) : IpIn :=
  let u := u.take (beAt u 4 2)
  if u.length < 8 then .udpErr
  else if beAt u 6 2 = 0 ∧ v6 = false then .udp ⟨v6, src, dst, beAt u 0 2, beAt u 2 2, u.drop 8⟩
  else if fold16 (sum16 (udpCovered v6 src dst u)) = 65535 then .udp ⟨v6, src, dst, beAt u 0 2, beAt u 2 2, u.drop 8⟩
  else .udpErr

/-- The checks of R644. -/
def ipParse (e : EthIn) : IpIn :=
  let l := e.data
  if e.etype = 0x0800 then
    let n := 4 * (beAt l 0 1 % 16)
    if fold16 (sum16 (l.take n)) ≠ 65535 then .ipErr
    else if beAt l 6 2 % 16384 ≠ 0 then .host
    else if beAt l 9 1 ≠ 17 then .host
    else udpParse false ((l.drop 12).take 4) ((l.drop 16).take 4) ((l.take (beAt l 2 2)).drop n)
  else if e.etype = 0x86DD then
    if beAt l 6 1 ≠ 17 then .host
    else udpParse true ((l.drop 8).take 16) ((l.drop 24).take 16) ((l.drop 40).take (beAt l 4 2))
  else .host

/-! ### RTP -/

/-- An RTP packet without its layers taken apart; `none` when it is shorter than its header. -/
def rtpParse (l : List Byte) (stamp : Time) : Option Pkt :=
  let n := rtpHeaderLen l
  if l.length < n ∨ l.length < 12 then none
  else
    let cc := 4 * (beAt l 0 1 % 16)
    some { ssrc := beAt l 8 4, pt := beAt l 1 1 % 128, seq := beAt l 2 2, ts := beAt l 4 4, marker := decide (128 ≤ beAt l 1 1),
           pad := decide (beAt l 0 1 / 32 % 2 = 1), csrc := (l.drop 12).take cc, ext := (l.take n).drop (12 + cc), payload := l.drop n,
           spatial := 0, temporal := 0, first := false, indep := false, upS := false, upT := false, stamp := stamp }

/-- The bytes of an RTP packet. -/
def Pkt.bytes (p : Pkt) : List Byte :=
  [BitVec.ofNat 8 (128 + (if p.pad then 32 else 0) + (if p.ext.isEmpty then 0 else 16) + p.csrc.length / 4),
   BitVec.ofNat 8 ((if p.marker then 128 else 0) + p.pt)] ++ beBytes 2 p.seq ++ beBytes 4 p.ts ++ beBytes 4 p.ssrc ++ p.csrc ++ p.ext ++ p.payload

/-- The elements of a header extension: identifier and data (RFC 8285). -/
def extElems (two : Bool) : Nat → List Byte → List (Nat × List Byte)
  | 0, _ => []
  | _, [] => []
  | n + 1, b :: t =>
    if b = 0 then extElems two n t
    else if two then
      match t with
      | [] => []
      | k :: u => (b.toNat, u.take k.toNat) :: extElems two n (u.drop k.toNat)
    else if b.toNat / 16 = 15 then []
    else (b.toNat / 16, t.take (b.toNat % 16 + 1)) :: extElems two n (t.drop (b.toNat % 16 + 1))

/-- The extension uses the two-byte form. -/
def extTwo (ext : List Byte) : Bool := beAt ext 0 2 / 16 == 0x100

/-- The elements of a packet's extension. -/
def Pkt.elems (p : Pkt) : List (Nat × List Byte) :=
  if p.ext.isEmpty then []
  else if extTwo p.ext || beAt p.ext 0 2 == 0xBEDE then extElems (extTwo p.ext) p.ext.length (p.ext.drop 4) else []

/-- The data of an element; identifier 0 names none. -/
def Pkt.elem (p : Pkt) (id : Nat) : Option (List Byte) :=
  if id = 0 then none else (p.elems.find? (fun e => e.1 == id)).map (fun e => e.2)

/-- An extension of the given elements. -/
def extBuild (two : Bool) (head : Nat) (es : List (Nat × List Byte)) : List Byte :=
  if es.isEmpty then []
  else
    let body := es.flatMap (fun e => if two then [BitVec.ofNat 8 e.1, BitVec.ofNat 8 e.2.length] ++ e.2
      else BitVec.ofNat 8 (e.1 * 16 + (e.2.length - 1)) :: e.2)
    let pad := (4 - body.length % 4) % 4
    beBytes 2 head ++ beBytes 2 ((body.length + pad) / 4) ++ body ++ List.replicate pad 0

/-- MID, RID and RRID stripped on forwarding; every other extension unchanged (Table 4-6). -/
def Pkt.strip (p : Pkt) (ids : List Nat) : Pkt :=
  if p.elems.any (fun e => ids.contains e.1) then
    { p with ext := extBuild (extTwo p.ext) (beAt p.ext 0 2) (p.elems.filter (fun e => !ids.contains e.1)) }
  else p

/-! ### Layers (R170, Table 4-7); the payload headers are those of the codecs' RTP formats (PRESUMED, log entry 17) -/

/-- VP8: the payload descriptor's TID and Y bit, the start of a frame, and a key frame. -/
def vp8Layers (l : List Byte) : Nat × Bool × Bool × Bool :=
  let x := decide (128 ≤ beAt l 0 1)
  let e := beAt l 1 1
  let i := x && decide (128 ≤ e)
  let pic := if i then (if 128 ≤ beAt l 2 1 then 2 else 1) else 0
  let lbit := if x && e / 64 % 2 == 1 then 1 else 0
  let tk := x && (e / 32 % 2 == 1 || e / 16 % 2 == 1)
  let o := if x then 2 + pic + lbit else 1
  let t := if x && e / 32 % 2 == 1 then beAt l o 1 / 64 else 0
  let y := x && e / 32 % 2 == 1 && beAt l o 1 / 32 % 2 == 1
  let body := if tk then o + 1 else o
  let start := beAt l 0 1 / 16 % 2 == 1 && beAt l 0 1 % 16 == 0
  (t, y, start, start && beAt l body 1 % 2 == 0)

/-- VP9: spatial and temporal layer, switching-up bit, inter-layer bit, start of a layer's frame, no prediction from earlier pictures. -/
def vp9Layers (l : List Byte) : Nat × Nat × Bool × Bool × Bool × Bool :=
  let b := beAt l 0 1
  let o := if 128 ≤ b then (if 128 ≤ beAt l 1 1 then 3 else 2) else 1
  let has := b / 32 % 2 == 1
  let e := beAt l o 1
  let start := b / 8 % 2 == 1
  (if has then e / 2 % 8 else 0, if has then e / 32 else 0, has && e / 16 % 2 == 1, has && e % 2 == 1, start, b / 64 % 2 == 0)

/-- The NAL units of an aggregation packet, each behind its 16-bit size. -/
def nalUnits : Nat → List Byte → List (List Byte)
  | 0, _ => []
  | fuel + 1, l => if l.length < 3 then [] else (l.drop 2).take (beAt l 0 2) :: nalUnits fuel (l.drop (2 + beAt l 0 2))

/-- The NAL unit types an HEVC payload holds: one, those of an aggregation packet, or the one a fragment belongs to; and its TemporalId. -/
def hevcNals (l : List Byte) : List Nat × Nat :=
  let t := beAt l 0 1 / 2 % 64
  (if t = 49 then [beAt l 2 1 % 64] else if t = 48 then (nalUnits l.length (l.drop 2)).map (fun n => beAt n 0 1 / 2 % 64) else [t],
   beAt l 1 1 % 8 - 1)

/-- The NAL units of an H.264 payload as far as it holds their headers: type, and the temporal_id that a prefix NAL unit gives (Annex G). -/
def avcNals (l : List Byte) : List (Nat × Option Nat) :=
  let one (n : List Byte) : Nat × Option Nat := (beAt n 0 1 % 32, if beAt n 0 1 % 32 = 14 then some (beAt n 3 1 / 32) else none)
  let t := beAt l 0 1 % 32
  if t = 28 then [(beAt l 1 1 % 32, none)]
  else if t = 24 then (nalUnits l.length (l.drop 1)).map one
  else [one l]

/-- A NAL unit type of an independent picture: IDR and parameter sets of H.264, IRAP pictures and parameter sets of HEVC. -/
def avcIndep (t : Nat) : Bool := t == 5 || t == 7
def hevcIndep (t : Nat) : Bool := decide (16 ≤ t ∧ t ≤ 21) || t == 32 || t == 33

/-- An H.264 or HEVC payload holds part of a coded slice, and does not continue a fragment. -/
def hasSlice (codec : Nat) (l : List Byte) : Bool :=
  if codec = 0x11 then (hevcNals l).1.any (fun t => decide (t < 32)) else (avcNals l).any (fun n => decide (1 ≤ n.1 ∧ n.1 ≤ 5))
def fragmentStart (codec : Nat) (l : List Byte) : Bool :=
  if codec = 0x11 then beAt l 0 1 / 2 % 64 != 49 || decide (128 ≤ beAt l 2 1) else beAt l 0 1 % 32 != 28 || decide (128 ≤ beAt l 1 1)

/-- What Table 4-7 reads of a packet of a codec: `dd` is its dependency descriptor, `lead` that it is the first of its picture to arrive, `next`
that no number is missing before it, `tid` the temporal_id known of its picture, and `bare` that no coded slice of it has arrived. -/
def Pkt.layers (p : Pkt) (codec : Nat) (dd : Option (List Byte)) (lead next : Bool) (tid : Nat) (bare : Bool) : Pkt :=
  let p := { p with
    lead := lead
    join := (lead || bare) && fragmentStart codec p.payload
    first := lead && next && fragmentStart codec p.payload }
  if codec = 0x12 then
    match dd with
    | none =>
      let start := decide (beAt p.payload 0 1 < 128)
      { p with join := lead && start, first := lead && next && start, indep := beAt p.payload 0 1 / 8 % 2 == 1 }
    | some x =>
      let f := Config.av1Layers x
      let start := decide (128 ≤ beAt x 0 1)
      { p with spatial := nthD 0 f 0 % 3, temporal := nthD 0 f 1 % 3, join := lead && start, first := lead && next && start, indep := nthD 0 f 2 == 1,
               upS := start && nthD 0 f 3 == 1, upT := nthD 0 f 4 == 1 }
  else if codec = 0x14 then
    let f := vp9Layers p.payload
    { p with spatial := min 2 f.1, temporal := min 2 f.2.1, join := lead && f.2.2.2.2.1, first := f.2.2.2.2.1 && f.1 == 0, indep := f.2.2.2.2.2,
             upS := f.2.2.2.2.1 && (f.2.2.2.2.2 || f.2.2.2.1), upT := f.2.2.1 || f.2.2.2.2.2 }
  else if codec = 0x13 then
    let f := vp8Layers p.payload
    { p with temporal := min 2 f.1, join := lead && f.2.2.1, first := f.2.2.1, indep := f.2.2.2, upT := f.1 == 0 || f.2.1 }
  else if codec = 0x11 then
    let f := hevcNals p.payload
    { p with temporal := min 2 f.2, indep := f.1.any hevcIndep, upT := f.2 == 0 || f.1.any (fun t => decide (2 ≤ t ∧ t ≤ 5)) }
  else if codec = 0x10 then
    let f := avcNals p.payload
    let t := ((f.findSome? (fun n => n.2)).getD tid)
    { p with temporal := min 2 t, indep := f.any (fun n => avcIndep n.1), upT := t == 0 }
  else p

end Sys2Proof.Machine
end

