-- ==== Sys2Proof/Machine/LegsCore.lean ====
section
/-! DEFINITION. What the legs send (chapter 4): RTP, RTCP and STUN packets, forwarding instances with their switching and
rewriting, histories, and the needs for independent pictures. -/

namespace Sys2Proof.Machine
open Sys2Proof

/-- The codes of Table 4-1. -/
def LegState.code : LegState → Nat
  | .idle => 0 | .keyed => 1 | .active => 2 | .held => 3 | .draining => 4 | .closed => 5

/-- A register of policy profile p as the policy last read it, at an epoch boundary (R197): offset within the profile's block of 0x40. -/
def Dev.prof (d : Dev) (p off : Nat) : Word := tabGet regReset d.legs.profs (regKey pgLegs (0x100 + off + 0x40 * p))

/-- The policy reads its profiles (R197). -/
def Dev.readProfiles (d : Dev) : Dev :=
  { d with legs := { d.legs with
      profs := d.ctl.regs.filter (fun e => decide (regKey pgLegs 0x100 ≤ e.1) && decide (e.1 < regKey pgLegs 0x500)) } }

/-- A field of the profile of leg l. -/
def Dev.legProf (d : Dev) (l off lo w : Nat) : Nat := fld (d.prof (d.leg l).desc.profile off) lo w

/-- RATE_WINDOW of a leg in ms. -/
def Dev.rateWindow (d : Dev) (l : Nat) : Nat := max 1 (d.legProf l 0x18 48 16)

/-- A stream of a leg. -/
def Dev.stream (d : Dev) (l i : Nat) : Option Strm := tabGetD none (d.leg l).streams i

/-- A stream of a leg replaced. -/
def Dev.setStream (d : Dev) (l i : Nat) (s : Option Strm) : Dev := d.onLeg l (fun x => { x with streams := tabPutD none x.streams i s })

/-- A stream of a leg changed, where there is one. -/
def Dev.onStream (d : Dev) (l i : Nat) (f : Strm → Strm) : Dev :=
  match d.stream l i with
  | some s => d.setStream l i (some (f s))
  | none => d

/-- The streams of a leg with their indexes. -/
def Leg.list (x : Leg) : List (Nat × Strm) := x.streams.filterMap (fun e => e.2.map (fun s => (e.1, s)))

/-- The streams of one source: the stream at `i` and those of its kind that share its MID (R165). -/
def Dev.sourceStreams (d : Dev) (l i : Nat) : List (Nat × Strm) :=
  match d.stream l i with
  | none => []
  | some s => (d.leg l).list.filter (fun e => e.1 == i || (e.2.kind == s.kind && !s.mid.isEmpty && decide (e.2.mid = s.mid)))

/-- The lowest index of the source that a stream belongs to. -/
def Dev.sourceOf (d : Dev) (l i : Nat) : Nat := ((d.sourceStreams l i).map (fun e => e.1)).foldl Nat.min i

/-- An instance. -/
def Dev.inst (d : Dev) (n : Nat) : Option Inst := tabGetD none d.legs.insts n

/-- An instance replaced. -/
def Dev.setInst (d : Dev) (n : Nat) (x : Option Inst) : Dev := { d with legs := { d.legs with insts := tabPutD none d.legs.insts n x } }

/-- An instance changed, where there is one. -/
def Dev.onInst (d : Dev) (n : Nat) (f : Inst → Inst) : Dev :=
  match d.inst n with
  | some x => d.setInst n (some (f x))
  | none => d

/-- The instances with their numbers. -/
def Dev.instList (d : Dev) : List (Nat × Inst) := d.legs.insts.filterMap (fun e => e.2.map (fun x => (e.1, x)))

/-- A LEGS event of a leg (R201). -/
def Dev.legEvent (d : Dev) (l b : Nat) (d3 : Word) : Dev := d.raise pgLegs b (0x180 + l % 64) (0x0201 + b) (fmk 0 64 l) d3

/-- A leg's egress queues, 0xFFFF standing for 2n and 2n + 1 (Table 4-3). -/
def resolveQ (raw l : Nat) (repair : Bool) : Nat := if raw = 0xFFFF then 2 * l + (if repair then 1 else 0) else raw
def Dev.mediaQ (d : Dev) (l : Nat) : Nat := resolveQ (d.leg l).desc.qMedia l false
def Dev.repairQ (d : Dev) (l : Nat) : Nat := resolveQ (d.leg l).desc.qRepair l true

/-! ### Sending -/

/-- A frame for a queue: queued, or held until the ingress packet it came from is acknowledged (R674). -/
def Dev.egressPut (d : Dev) (k : Nat) (f : EFrame) : Dev :=
  match d.pair.cur with
  | some i => if d.mirrored then { d with pair := { d.pair with held := d.pair.held ++ [(i, k, f)] } } else d.enqueue k f
  | none => d.enqueue k f

/-- Protection of a leg's packet (R168, R568). -/
def Dev.protect (d : Dev) (l : Nat) (rtcp : Bool) (b : List Byte) : Dev × Option (List Byte) :=
  if (d.leg l).desc.srtp then d.flintOut (d.leg l).desc.keyOut rtcp b else (d, some b)

/-- An RTP packet sent on a leg's media or repair queue, with the packet of the pool that it copies. -/
def Dev.sendRtp (d : Dev) (l : Nat) (repair audio : Bool) (pool : Option PoolRef) (b : List Byte) : Dev :=
  let d := d.noteBuilt l b
  let r := d.protect l false b
  match r.2 with
  | none => r.1
  | some p =>
    let d := r.1.inc pgLegs 0x078
    d.egressPut (if repair then d.repairQ l else d.mediaQ l)
      { bytes := d.legFrame (d.leg l).desc p, at_ := 0, leg := some l, ssrc := beAt b 8 4, seq := beAt b 2 2, audio := audio, rtp := true, pool := pool }

/-- An RTCP packet sent on the control queue of a leg's port (R530). -/
def Dev.sendRtcp (d : Dev) (l : Nat) (b : List Byte) : Dev :=
  let r := d.protect l true b
  match r.2 with
  | none => r.1
  | some p => r.1.enqueue (ctrlQ (d.leg l).desc.port)
      { bytes := r.1.legFrame (d.leg l).desc p, at_ := 0, leg := some l, ssrc := beAt b 4 4,
        seq := if (d.leg l).desc.srtp then r.1.srtcpSent (d.leg l).desc.keyOut (beAt b 4 4) else 0, srtcp := (d.leg l).desc.srtp }

/-- A STUN message sent on the control queue of a leg's port (R530). -/
def Dev.sendStun (d : Dev) (l : Nat) (b : List Byte) : Dev :=
  d.enqueue (ctrlQ (d.leg l).desc.port) { bytes := d.legFrame (d.leg l).desc b, at_ := 0, leg := some l }

/-- A packet for the host-bound queue; a full one drops and counts it (Table 1-9). A SECONDARY discards it (R656). -/
def Dev.toHost (d : Dev) (p : Nat) (frame : List Byte) : Dev :=
  if !d.decides then d.inc pgPair 0x090 else
  let d := d.inc (pgPort p) 0x0F0
  if d.legs.hostQ.length < 65568 then { d with legs := { d.legs with hostQ := d.legs.hostQ ++ [frame] } }
  else { d with legs := { d.legs with hostDrops := d.legs.hostDrops + 1 } }

/-- DROP_PACKET on the host-bound packet queue: the packet at the head is discarded and counted; without one nothing happens (R42, R43). No
register, opcode or link frame of the spec carries it (log entry 91). -/
def Dev.dropPacket (d : Dev) : Dev :=
  match d.legs.hostQ with
  | [] => d
  | _ :: rest => { d with legs := { d.legs with
      hostQ := rest
      hostDrops := d.legs.hostDrops + 1 } }

/-! ### RTCP -/

/-- NTP time now in 2^-32 s: the PTP time less the announced UTC offset, from 1900 (log entry 18). -/
def Dev.ntp (d : Dev) : Nat :=
  let utc := (d.now : Int) - ((d.ptp.info.map AnnounceMsg.utcOffset).getD 0 * secT : Nat)
  ((2208988800 * 4294967296 : Nat) + (utc * 4294967296 / (secT : Int))).toNat

/-- The middle 32 bits of an NTP time. -/
def ntpMid (n : Nat) : Nat := n / 65536 % 4294967296

/-- The SSRC under which Tiusk sends RTCP of its own on a leg: its egress audio stream's, else its lowest instance's OUT_SSRC, else 0
(log entry 18). -/
def Dev.mainSsrc (d : Dev) (l : Nat) : Nat :=
  match ((d.leg l).list.filter (fun e => e.2.kind == 4)).head? with
  | some e => e.2.ssrc
  | none => match (d.instList.filter (fun e => e.2.receiver == l)).head? with
    | some e => e.2.outSsrc
    | none => 0

/-- An RTCP packet of 32-bit words after its header: version 2, count, type. -/
def rtcpPacket (count pt : Nat) (body : List Byte) : List Byte :=
  [BitVec.ofNat 8 (128 + count), BitVec.ofNat 8 pt] ++ beBytes 2 (body.length / 4) ++ body

/-- The SDES packet with the CNAME of a source. -/
def sdesPacket (ssrc : Nat) : List Byte :=
  let c := Config.cname.take 255
  let item := [1, BitVec.ofNat 8 c.length] ++ c
  rtcpPacket 1 202 (beBytes 4 ssrc ++ item ++ List.replicate (4 - item.length % 4) 0)

/-- A feedback packet as it is sent: alone where reduced size is allowed (RFC 5506), else behind an empty RR and SDES. -/
def Dev.feedbackBytes (d : Dev) (l : Nat) (fb : List Byte) : List Byte :=
  if (d.leg l).desc.rsize then fb
  else rtcpPacket 0 201 (beBytes 4 (d.mainSsrc l)) ++ sdesPacket (d.mainSsrc l) ++ fb

/-- Ticks per second of a codec's RTP clock. -/
def codecClock (c : Nat) : Nat := if c = 1 then 48000 else if c = 2 ∨ c = 3 ∨ c = 4 then 8000 else 90000

/-- The report block on an ingress stream (RFC 3550). -/
def Dev.rrBlock (d : Dev) (s : Strm) : List Byte :=
  let hi := s.highest.getD 0
  let expected := hi + 1 - s.base
  let lost : Int := (expected : Int) - s.received
  let de := expected - s.rrPrior.1
  let dl : Int := (de : Int) - (s.received - s.rrPrior.2 : Nat)
  let frac := if de = 0 ∨ dl ≤ 0 then 0 else (dl * 256 / (de : Int)).toNat % 256
  let lsr := match s.sr with | some (n, _, _) => ntpMid n | none => 0
  let dlsr := match s.sr with | some (_, _, t) => (d.now - t) * 65536 / secT | none => 0
  beBytes 4 s.ssrc ++ beBytes 1 frac ++ beBytes 3 (wrapTo 24 lost) ++ beBytes 4 hi ++ beBytes 4 s.jitter ++ beBytes 4 lsr ++ beBytes 4 dlsr

/-! ### Forwarding (R182 to R189) -/

/-- A packet's bytes in the pool. -/
def Pkt.size (p : Pkt) : Nat := 12 + p.csrc.length + p.ext.length + p.payload.length

/-- A packet of stream `i` of leg `l` (or of a layout output) as the pool knows it. -/
def Pkt.ref (p : Pkt) (l i : Nat) : PoolRef := ⟨l, i, p.seq, p.ts, p.size⟩

/-- The history of a leg that HISTORY still keeps (R189). -/
def Dev.livingHistory (d : Dev) (l : Nat) (x : Leg) : List Hist :=
  let keep := d.legProf l 0x28 32 16 * msT
  x.history.filter (fun h => decide (d.now ≤ h.at_ + keep))

/-- What refers to packets of the leg buffer pool (R196): picture and jitter buffers, histories, and forwarded packets in egress queues or held
for the partner (R674). -/
def Dev.poolRefs (d : Dev) : List PoolRef :=
  d.legs.legs.flatMap (fun e => e.2.list.flatMap (fun s => s.2.buf.map (fun p => p.ref e.1 s.1)) ++ (d.livingHistory e.1 e.2).map Hist.ref) ++
  d.audio.play.flatMap (fun e => e.2.held.map (fun p => p.2.ref (e.1 / 16) (e.1 % 16))) ++
  d.egress.queues.flatMap (fun e => e.2.frames.filterMap EFrame.pool) ++ d.pair.held.filterMap (fun e => e.2.2.pool)

/-- Bytes the pool holds: a shared packet takes its room once (R189). -/
def Dev.poolUsed (d : Dev) : Nat := sumN (d.poolRefs.eraseDups.map PoolRef.size)

/-- History entries freed oldest first until `need` bytes fit; `fuel` entries at most. -/
def Dev.freeHistory : Nat → Nat → Dev → Dev
  | 0, _, d => d
  | fuel + 1, need, d =>
    if d.poolUsed + need ≤ fld (d.reg pgLegs 0x068) 0 16 * 1073741824 then d
    else
      let all := d.legs.legs.filterMap (fun e => e.2.history.head?.map (fun h => (h.at_, e.1)))
      match (sortBy (fun a b => decide (a.1 < b.1)) all).head? with
      | none => d
      | some (_, l) => Dev.freeHistory fuel need (d.onLeg l (fun x => { x with history := x.history.drop 1 }))

/-- Room made in the pool; `none` when an arriving packet does not fit (R196). -/
def Dev.poolRoom (d : Dev) (need : Nat) : Option Dev :=
  let size := fld (d.reg pgLegs 0x068) 0 16 * 1073741824
  if sumN (d.poolRefs.map PoolRef.size) + need ≤ size then some d
  else if d.poolUsed + need ≤ size then some d
  else
    let d := Dev.freeHistory (sumN (d.legs.legs.map (fun e => e.2.history.length))) need d
    if d.poolUsed + need ≤ size then some d else none

/-- A receiver's history after a packet sent on one of its instances: HISTORY ms, 1,024 packets (R189). -/
def Dev.remember (d : Dev) (l : Nat) (h : Hist) : Dev :=
  d.onLeg l (fun x =>
    let l := d.livingHistory l x ++ [h]
    { x with history := l.drop (l.length - 1024) })

/-- Egress FEC: after FEC_L packets of an instance one row repair packet goes on the repair queue (R169). -/
def Dev.egressFec (d : Dev) (n l : Nat) (b : List Byte) : Dev :=
  let k := d.legProf l 0x08 56 4
  if k = 0 then d
  else match d.inst n with
    | none => d
    | some x =>
      let buf := x.fecBuf ++ [b]
      if buf.length < k then d.setInst n (some { x with fecBuf := buf })
      else
        let size := maxN (buf.map List.length) + 16
        (d.setInst n (some { x with fecBuf := [] })).sendRtp l true false none ((List.range size).map (fun i => Config.fecPacket buf i))

/-- A map of sent numbers with an entry for a number sent now. -/
def putSent (l : List Sent) (e : Sent) : List Sent := l.filter (fun m => m.num != e.num) ++ [e]

/-- The pool's name of an instance's source (R196). -/
def Inst.poolSrc (x : Inst) : Nat := if x.kind = 0 then x.src else 4096 + 4 * x.src + x.sub

/-- A packet sent on an instance: rewritten and numbered (R184), remembered (R189), protected and queued. `layer` is its simulcast encoding. -/
def Dev.sendInst (d : Dev) (n idx : Nat) (audio : Bool) (layer : Option Nat) (ids : List Nat) (p : Pkt) : Dev :=
  match d.inst n with
  | none => d
  | some x =>
    if (d.leg x.receiver).state ≠ .active then d
    else
      let ts := ((p.ts : Int) + x.tsOff) % 4294967296
      let q := { p.strip ids with ssrc := x.outSsrc, pt := x.outPt, seq := x.outSeq, ts := ts.toNat }
      let b := q.bytes
      let d := d.setInst n (some { x with
        outSeq := (x.outSeq + 1) % 65536
        lastTs := if (p.lead || p.join || x.lastTs.isNone) && !x.lastTs.any (fun e => e.1 == ts.toNat) then some (ts.toNat, p.pic) else x.lastTs
        enc := if layer.isSome then layer else x.enc
        sentPkts := x.sentPkts + 1
        sentOctets := x.sentOctets + p.payload.length
        sentMap := putSent x.sentMap { num := x.outSeq, idx := idx, src := p.seq } })
      let ref := p.ref x.poolSrc idx
      let d := d.remember x.receiver ⟨n, x.outSeq, b, d.now, ref⟩
      let d := d.sendRtp x.receiver false audio (some ref) b
      if audio then d else d.egressFec n x.receiver b

/-- A need for an independent picture of a stream (R186). -/
def Dev.openNeed (d : Dev) (l i : Nat) (tainted : Bool) : Dev :=
  d.onStream l i (fun s => { s with need := { s.need with
    since := match s.need.since with | some t => some t | none => some d.now
    request := s.need.request || !tainted
    tainted := s.need.tainted || tainted } })

/-- Needs closed: all of them by an independent picture, or the tainted one alone (R187). -/
def Need.clear (n : Need) (all : Bool) : Need :=
  if all || !n.request then { n with since := none, request := false, tainted := false }
  else { n with tainted := false }

/-- The point an instance forwards from a packet on (Table 4-8). `layer` is the packet's encoding when `simul`, else its spatial layer. -/
def Inst.switchAt (x : Inst) (simul : Bool) (layer : Nat) (p : Pkt) : Option (Nat × Nat) :=
  let starts := p.join && p.indep
  match x.cur, x.tgt with
  | none, none => none
  | some (a, b), none => if p.lead && (!simul || layer == a) then none else some (a, b)
  | none, some (s, t) =>
    if (if simul then starts && layer == s else starts || (p.upS && layer == s)) && decide (p.temporal ≤ t) then some (s, t) else none
  | some (a, b), some (s, t) =>
    if simul ∧ a ≠ s then (if starts && layer == s then some (s, t) else some (a, b))
    else
      let a' := if s < a then (if p.lead then s else a) else if a < s then (if starts || (p.upS && layer == s) then s else a) else a
      let b' := if b = t ∨ !(p.lead && (!simul || layer == a)) then b else if t < b ∨ p.upT then t else b
      some (a', b')

/-- The switch to the target waits for an independent picture or a spatial switch point (Table 4-8). -/
def Inst.pending (x : Inst) (simul : Bool) : Bool :=
  match x.cur, x.tgt with
  | none, some _ => true
  | some (a, _), some (s, _) => if simul then a != s else decide (a < s)
  | _, none => false

/-- The packet belongs to what the instance forwards now; while a change to a lower encoding is pending the old one is limited to
temporal layer 0 (Table 4-8). -/
def Inst.passes (x : Inst) (simul : Bool) (layer : Nat) (p : Pkt) : Bool :=
  match x.cur with
  | none => false
  | some (a, b) =>
    let b := match x.tgt with | some (s, _) => if simul && decide (s < a) then 0 else b | none => b
    (if simul then layer == a else decide (layer ≤ a)) && decide (p.temporal ≤ b)

/-- A change of encoding: the first picture of the new one follows the last timestamp sent by the difference of arrival at 90 kHz, at
least 1 (R184). -/
def Inst.rebase (x : Inst) (p : Pkt) : Inst :=
  match x.lastTs with
  | none => x
  | some (ts, st) =>
    let diff := max 1 ((p.pic - st) * 90000 / secT)
    { x with tsOff := ((ts : Int) + diff - p.ts) % 4294967296 }

/-- An instance as a packet finds it: its point, the point the policy counts (for a layout output a switch that waited for an independent picture
counts with the encoder's report, R192), and its timestamp offset where the encoding changes (R184). -/
def Inst.meet (x : Inst) (simul : Bool) (layer : Nat) (p : Pkt) : Inst :=
  let y := { x with cur := x.switchAt simul layer p }
  if decide (y.cur = x.cur) then x
  else
    let y := { y with counted := if x.kind = 1 ∧ x.pending simul ∧ !y.pending simul then x.counted else y.cur }
    if simul && (y.cur.any (fun c => c.1 == layer)) && (x.enc.any (fun e => e != layer)) then y.rebase p else y

/-- A video packet offered to an instance; with `drop` its copies are dropped (R195). -/
def Dev.offer (d : Dev) (n idx : Nat) (drop simul : Bool) (layer : Nat) (ids : List Nat) (p : Pkt) : Dev :=
  match d.inst n with
  | none => d
  | some x =>
    if (d.leg x.receiver).state ≠ .active then d
    else
      let y := x.meet simul layer p
      let d := if y.cur = x.cur then d else (d.setInst n (some y)).inc pgLegs 0x0D8
      if !y.passes simul layer p then d
      else if drop then (d.inc pgLegs 0x0C8).legEvent x.receiver 4 0
      else d.sendInst n idx false (if simul then some layer else none) ids p

/-- A packet of a leg's stream forwarded to every instance of its source, in ascending order of receiving leg; beyond 96,000 copies
waiting for the Packet Engine video copies are dropped (R194, R195). -/
def Dev.forward (d : Dev) (l i waiting : Nat) (video : Bool) (p : Pkt) : Dev :=
  let src := d.sourceOf l i
  let simul := decide (1 < (d.sourceStreams l i).length)
  let layer := if simul then (d.stream l i).elim 0 Strm.enc else p.spatial
  let x := (d.leg l).desc
  let ids := [x.extMid, x.extRid, x.extRrid].filter (· != 0)
  let dests := sortBy (fun a b => decide (a.2.receiver < b.2.receiver)) (d.instList.filter (fun e => e.2.kind == 0 && e.2.src == l && e.2.sub == src))
  ((List.range dests.length).foldl (fun (d : Dev) c =>
    match dests[c]? with
    | none => d
    | some e =>
      if !video then d.sendInst e.1 i true none ids p
      else d.offer e.1 i (decide (96000 < waiting + c)) simul layer ids p) d)

/-- A packet of an encoded layout output offered to its instances (SRC_KIND 1). -/
def Dev.forwardOutput (d : Dev) (layout output : Nat) (simul : Bool) (layer : Nat) (p : Pkt) : Dev :=
  let dests := sortBy (fun a b => decide (a.2.receiver < b.2.receiver)) (d.instList.filter (fun e => e.2.kind == 1 && e.2.src == layout && e.2.sub == output))
  (List.range dests.length).foldl (fun (d : Dev) c =>
    match dests[c]? with
    | none => d
    | some e => d.offer e.1 layer (decide (96000 < d.legs.waiting + c)) simul layer [] p) d

/-- What an instance has sent under a number. -/
def Inst.sent (x : Inst) (num : Nat) : Option Sent := x.sentMap.find? (fun m => m.num == num)

/-- An entry of an instance's sent numbers changed. -/
def Dev.onSent (d : Dev) (n num : Nat) (f : Sent → Sent) : Dev :=
  d.onInst n (fun x => { x with sentMap := x.sentMap.map (fun m => if m.num = num then f m else m) })

/-- A packet of the history sent again on the repair queue: as RFC 4588 with RTX_PT, else in its original form (R188). -/
def Dev.resend (d : Dev) (l n : Nat) (x : Inst) (h : Hist) : Dev :=
  let d := (d.onSent n h.seq (fun m => { m with resent := m.resent + 1 })).inc pgLegs 0x0B0
  if x.rtxPt = 0 then d.sendRtp l true false (some h.ref) h.bytes
  else
    let hl := rtpHeaderLen h.bytes
    let b := h.bytes.take 1 ++ [BitVec.ofNat 8 (beAt h.bytes 1 1 / 128 * 128 + x.rtxPt)] ++ beBytes 2 x.rtxSeq ++ (h.bytes.take hl).drop 4 ++
      beBytes 2 h.seq ++ h.bytes.drop hl
    (d.onInst n (fun y => { y with rtxSeq := (y.rtxSeq + 1) % 65536 })).sendRtp l true false (some h.ref) b

/-- A NACK relayed to the source of a packet that the history does not hold (R188). -/
def Dev.relayNack (d : Dev) (n : Nat) (x : Inst) (m : Sent) : Dev :=
  let st := (d.leg x.src).state
  match d.stream x.src m.idx with
  | none => d
  | some s =>
    if decide (st ≠ .active) && decide (st ≠ .held) then d
    else
      let fb := rtcpPacket 1 205 (beBytes 4 (d.mainSsrc x.src) ++ beBytes 4 s.ssrc ++ beBytes 2 m.src ++ beBytes 2 0)
      let d := d.onSent n m.num (fun e => { e with relayed := true, awaited := true })
      (d.inc pgLegs 0x0A8).sendRtcp x.src (d.feedbackBytes x.src fb)

/-- A receiver's request for a packet of an instance (R188): at most two retransmissions of each, and one relayed NACK. Only an ACTIVE leg is
sent RTP (Table 4-1). -/
def Dev.serveNack (d : Dev) (l n seq : Nat) : Dev :=
  if (d.leg l).state ≠ .active then d
  else match d.inst n with
  | none => d
  | some x =>
    match x.sent seq with
    | none => d
    | some m =>
      match (d.livingHistory l (d.leg l)).find? (fun h => h.inst == n && h.seq == seq) with
      | some h => if 2 ≤ m.resent then d else d.resend l n x h
      | none => if x.kind = 0 ∧ m.relayed = false then d.relayNack n x m else d

/-- A source packet that a relayed NACK asked for goes out under the number it had (R188). -/
def Dev.forwardRelayed (d : Dev) (l i : Nat) (p : Pkt) : Dev :=
  let x := (d.leg l).desc
  let ids := [x.extMid, x.extRid, x.extRrid].filter (· != 0)
  (d.instList.filter (fun e => e.2.kind == 0 && e.2.src == l)).foldl (fun (d : Dev) e =>
    match e.2.sentMap.find? (fun m => m.idx == i && m.src == p.seq && m.awaited) with
    | none => d
    | some m =>
      let d := d.onSent e.1 m.num (fun y => { y with awaited := false })
      if (d.leg e.2.receiver).state ≠ .active then d
      else
        let q := { p.strip ids with ssrc := e.2.outSsrc, pt := e.2.outPt, seq := m.num, ts := (((p.ts : Int) + e.2.tsOff) % 4294967296).toNat }
        (d.remember e.2.receiver ⟨e.1, m.num, q.bytes, d.now, p.ref l i⟩).serveNack e.2.receiver e.1 m.num) d

end Sys2Proof.Machine
end

