-- ==== Sys2Proof/Machine/Shingle.lean ====
section
/-! DEFINITION. Shingle surfaces (R310 to R318): their size, how Tiusk writes them, and how a sample of one is read. -/

namespace Sys2Proof.Machine
open Sys2Proof

/-- The shape of a surface: luma size, FORMAT (Table 6-11). -/
structure ShShape where
  w : Nat
  h : Nat
  fmt : Nat
  deriving DecidableEq, Repr

/-- Bits of a sample; U, its payload units; chroma rows (R310). -/
def ShShape.depth (s : ShShape) : Nat := if s.fmt / 2 % 2 = 1 then 10 else 8
def ShShape.chromaH (s : ShShape) : Nat := if s.fmt % 2 = 1 then s.h else (s.h + 1) / 2
def ShShape.tw (s : ShShape) : Nat := (s.w + 31) / 32
def ShShape.th (s : ShShape) : Nat := (s.h + 7) / 8
def ShShape.thc (s : ShShape) : Nat := (s.chromaH + 7) / 8
def ShShape.tiles (s : ShShape) : Nat := s.tw * (s.th + s.thc)
/-- The bytes of the tile header array, in whole 4 KB pages. -/
def ShShape.hdrBytes (s : ShShape) : Nat := (16 * s.tiles + 4095) / 4096 * 4096
/-- The worst-case size of a surface (R311). -/
def ShShape.size (s : ShShape) : Nat := 4096 + s.hdrBytes + 32 * s.depth * s.tiles

/-- A picture's samples: a plane by column and row. -/
abbrev Plane := Nat → Nat → Nat

/-- The 256 samples of a tile, the edge repeated beyond the plane (R317). -/
def tileSamples (p : Plane) (pw ph tx ty : Nat) : List Nat :=
  (List.range 256).map (fun i => p (min (32 * tx + i % 32) (pw - 1)) (min (8 * ty + i / 32) (ph - 1)))

/-- The coded residuals of a tile (R313). -/
def tileResiduals (d : Nat) (l : List Nat) : List Nat :=
  (List.range 256).map (fun i =>
    let p := if i = 0 then nthD 0 l 0 else if i % 32 = 0 then nthD 0 l (i - 32) else nthD 0 l (i - 1)
    let r := (((nthD 0 l i : Nat) : Int) - p + (2 ^ (d - 1) : Nat)) % ((2 ^ d : Nat) : Int) - (2 ^ (d - 1) : Nat)
    if 0 ≤ r then (2 * r).toNat else (-2 * r - 1).toNat)

/-- Least bits that hold a number. -/
def bitsOf (n : Nat) : Nat := if n = 0 then 0 else Nat.log2 n + 1

/-- The widths of the 32 groups (R314). -/
def tileWidths (z : List Nat) : List Nat := (List.range 32).map (fun g => maxN (((z.drop (8 * g)).take 8).map bitsOf))

/-- Numbers packed least significant bit first, each in its width: the value so far, and its bits. -/
def packBits (l : List (Nat × Nat)) : Nat × Nat := l.foldl (fun a e => (a.1 + e.1 % 2 ^ e.2 * 2 ^ a.2, a.2 + e.2)) (0, 0)

/-- Bytes filled to whole 32-byte units. -/
def padUnits (l : List Byte) : List Byte := l ++ List.replicate ((32 - l.length % 32) % 32) 0

/-- The DPCM payload of a tile (R314). -/
def tileDpcm (d : Nat) (l : List Nat) : List Byte :=
  let z := tileResiduals d l
  let w := tileWidths z
  let p := packBits ((List.range 256).map (fun i => (nthD 0 z i, nthD 0 w (i / 8))))
  padUnits ((List.range 16).map (fun k => BitVec.ofNat 8 (nthD 0 w (2 * k) + 16 * nthD 0 w (2 * k + 1))) ++ leBytes ((p.2 + 7) / 8) p.1)

/-- The RAW payload of a tile (R312). -/
def tileRaw (d : Nat) (l : List Nat) : List Byte :=
  if d = 8 then l.map (BitVec.ofNat 8) else leBytes 320 (packBits (l.map (fun s => (s, 10)))).1

/-- A tile as Tiusk writes it: its header and its payload (R316, Table 6-12). -/
def tileBytes (d : Nat) (l : List Nat) : List Byte × List Byte :=
  let hdr (mode len v : Nat) : List Byte := leBytes 1 mode ++ leBytes 1 len ++ leBytes 2 v ++ List.replicate 12 0
  if l.all (· == nthD 0 l 0) then (hdr 1 0 (nthD 0 l 0), [])
  else
    let p := tileDpcm d l
    if p.length / 32 < d then (hdr 2 (p.length / 32) (nthD 0 l 0), p) else (hdr 0 d 0, tileRaw d l)

/-- What a surface header says of its picture (Table 6-11). -/
structure ShMarks where
  time : Word := 0
  rtp : Nat := 0
  area : Nat := 0
  marks : Nat := 0
  stream : Nat := 0xFFFF
  deriving DecidableEq, Repr

/-- The surface header (Table 6-11). -/
def ShShape.header (s : ShShape) (m : ShMarks) : List Byte :=
  leBytes 2 s.w ++ leBytes 2 s.h ++ leBytes 1 s.fmt ++ leBytes 1 s.depth ++ [0, 0] ++ leBytes 8 4096 ++ leBytes 8 (4096 + s.hdrBytes) ++
  leBytes 8 m.time.toNat ++ leBytes 4 m.rtp ++ leBytes 2 m.area ++ leBytes 1 m.marks ++ [0] ++ leBytes 2 m.stream ++ List.replicate 22 0

/-- The samples of tile `i` of a picture. -/
def ShShape.tile (s : ShShape) (luma chroma : Plane) (i : Nat) : List Nat :=
  if i < s.tw * s.th then tileSamples luma s.w s.h (i % s.tw) (i / s.tw)
  else tileSamples chroma s.w s.chromaH ((i - s.tw * s.th) % s.tw) ((i - s.tw * s.th) / s.tw)

/-- A picture written as a surface at a realm's address. Payload bytes beyond a tile's LENGTH are not written. -/
def Dev.writeSurface (d : Dev) (realm va : Nat) (s : ShShape) (m : ShMarks) (luma chroma : Plane) : Dev :=
  let d := d.writeVa realm va (s.header m)
  (List.range s.tiles).foldl (fun (d : Dev) i =>
    let t := tileBytes s.depth (s.tile luma chroma i)
    (d.writeVa realm (va + 4096 + 16 * i) t.1).writeVa realm (va + 4096 + s.hdrBytes + 32 * s.depth * i) t.2) d

/-- Bytes as a device read sees them: 0 where the translation fails (R723). -/
def Dev.peekVa (d : Dev) (realm va n : Nat) : List Byte :=
  (List.range n).map (fun i => match d.translate realm (va + i) false with
    | .ok (t, a) => d.targetRead t a
    | .error _ => 0)

/-- A tile header that Tiusk can read (R318). -/
def tileOk (d : Nat) (hdr : List Byte) : Bool :=
  let mode := leBits hdr 0 1 0 4
  let len := leAt hdr 1 1
  decide (mode < 3) && decide (len ≤ d) && (mode == 1 || len != 0)

/-- The 256 samples of a tile read (R312 to R315, R318). -/
def tileDecode (d : Nat) (hdr payload : List Byte) : List Nat :=
  let mode := leBits hdr 0 1 0 4
  let v := leAt hdr 2 2 % 2 ^ d
  if !tileOk d hdr then List.replicate 256 (2 ^ (d - 1))
  else if mode = 1 then List.replicate 256 v
  else if mode = 0 then (List.range 256).map (fun i => if d = 8 then leAt payload i 1 else leNat payload >>> (10 * i) % 1024)
  else
    let ws := (List.range 32).map (fun g => leBits payload (g / 2) 1 (4 * (g % 2)) 4)
    let bits := leNat (payload.drop 16)
    ((List.range 256).foldl (fun (a : List Nat × Nat) i =>
      let w := nthD 0 ws (i / 8)
      let z := bits >>> a.2 % 2 ^ w
      let r : Int := if z % 2 = 0 then ((z / 2 : Nat) : Int) else -(((z + 1) / 2 : Nat) : Int)
      let p := if i = 0 then v else if i % 32 = 0 then nthD 0 a.1 (i - 32) else nthD 0 a.1 (i - 1)
      let s := if i = 0 then v else (((p : Int) + r) % ((2 ^ d : Nat) : Int)).toNat
      (a.1 ++ [s], a.2 + w)) ([], 0)).1

/-- A surface as its reader finds it: the bytes from an offset. -/
abbrev Reader := Nat → Nat → List Byte

/-- A surface in a realm's address space; one held as bytes. -/
def Dev.surface (d : Dev) (realm va : Nat) : Reader := fun o n => d.peekVa realm (va + o) n
def bytesReader (b : List Byte) : Reader := fun o n => ((b.drop o) ++ List.replicate n 0).take n

/-- The shape a surface's own header gives. -/
def readShape (r : Reader) : ShShape :=
  let h := r 0 6
  ⟨leAt h 0 2, leAt h 2 2, leAt h 4 1⟩

/-- Tile `i` of a surface, found by the offsets of its header. -/
def readTile (r : Reader) (i : Nat) (s : ShShape) : List Byte × List Byte :=
  let h := r 0 24
  (r (leAt h 8 8 + 16 * i) 16, r (leAt h 16 8 + 32 * s.depth * i) (32 * s.depth))

/-- A sample of a surface: of the luma plane, or of the interleaved chroma plane. -/
def readSample (r : Reader) (s : ShShape) (chroma : Bool) (x y : Nat) : Nat :=
  let i := (if chroma then s.tw * s.th else 0) + y / 8 * s.tw + x / 32
  let t := readTile r i s
  nthD 0 (tileDecode s.depth t.1 t.2) (y % 8 * 32 + x % 32)

/-- A sample of a surface in a realm. -/
def Dev.surfaceAt (d : Dev) (realm va : Nat) (s : ShShape) (chroma : Bool) (x y : Nat) : Nat := readSample (d.surface realm va) s chroma x y

/-- The tiles of a surface that cannot be read (R318). -/
def badTiles (r : Reader) (s : ShShape) : List Nat := (List.range s.tiles).filter (fun i => !tileOk s.depth (readTile r i s).1)

end Sys2Proof.Machine
end

