-- ==== Sys2Proof/Machine/XFaults.lean ====
section
/-! DEFINITION. Translation faults (R728 to R736): the record, the ring, and the log. -/

namespace Sys2Proof.Machine
open Sys2Proof

/-- CONTEXT of a fault record (Table 15-7). -/
def FaultWork.context : FaultWork → Nat
  | .dma ch idx => ch % 256 + idx % 65536 * 65536
  | .enc s => s % 65536
  | .dec s => s % 65536 + 65536
  | .task cl core => cl % 256 + core % 16 * 256
  | .none => 0

/-- The 32 bytes of a fault record. -/
def XFault.bytes (x : XFault) : List Byte :=
  leBytes 8 (shortOf x.time).toNat ++ leBytes 8 x.va ++ leBytes 1 x.realm ++ leBytes 1 x.code ++ leBytes 1 x.access ++ leBytes 1 x.cls ++
  leBytes 2 x.source ++ leBytes 2 x.id ++ leBytes 8 x.work.context

/-- The counter of a fault code. -/
def faultCtr (code : Nat) : Nat := if code = 1 then 0x080 else if code = 2 then 0x088 else if code = 3 then 0x090 else 0x098

/-- A record written to the fault ring, or lost when the ring is full or disabled (R730, R747). -/
def Dev.faultRing (d : Dev) (x : XFault) : Dev :=
  let base := d.reg pgXlat 0x050
  let cons := fld (d.reg pgXlat 0x068) 0 10
  if !bit base 0 || (d.xlat.prod + 1) % 1024 == cons then
    (d.inc pgXlat 0x0A8).raise pgXlat 2 0x002 0x0D03 (fmk 0 64 x.id) (fmk 0 64 x.va)
  else
    let d := d.writeVa 0 (fld base 16 32 * 65536 + 32 * d.xlat.prod) x.bytes
    { d with xlat := { d.xlat with prod := (d.xlat.prod + 1) % 1024 } }

/-- How an OPEN fault was CLOSED (Table 17-5): 0 resumed, 1 aborted, 2 timed out, 3 its work ended. -/
def Dev.traceClose (d : Dev) (id how : Nat) : Dev := d.trace 3 0x0302 0x002 (fmk 0 16 id ||| fmk 16 4 how) 0 0

/-- A fault closed (R731); `how` as the trace has it. -/
def Dev.closeFault (d : Dev) (id how : Nat) : Dev :=
  let open_ := d.xlat.faults.any (fun x => x.id == id && x.isOpen)
  let d := { d with xlat := { d.xlat with faults := d.xlat.faults.map (fun x => if x.id = id then { x with isOpen := false } else x) } }
  if open_ then d.traceClose id how else d

/-- A fault recorded, logged and raised (R729). `noSave` ends its work at once, so that it is CLOSED (R734); a PINNED_VIOLATION opens
nothing (R730). -/
def Dev.recordFault (d : Dev) (realm : Nat) (e : XErr) (write : Bool) (cls source : Nat) (work : FaultWork) (noSave : Bool) : Dev × Nat :=
  let id := d.xlat.nextId
  let access := (if write then 1 else 0) + 2 * e.level + (if noSave then 8 else 0)
  let x : XFault := ⟨id, d.now, e.va, realm, e.code, access, cls, source, work, !noSave && decide (e.code ≠ 4)⟩
  let d := { d with xlat := { d.xlat with nextId := (id + 1) % 65536, faults := d.xlat.faults ++ [x] } }
  let d := d.inc pgXlat (faultCtr e.code)
  let d := d.faultRing x
  let d := d.raise pgXlat (if e.code = 4 then 1 else 0) 0x002 (if e.code = 4 then 0x0D02 else 0x0D01)
    (fmk 0 16 id ||| fmk 16 4 e.code ||| fmk 24 6 realm) (fmk 0 64 e.va)
  let d := d.trace 3 0x0301 0x002 (fmk 0 16 id ||| fmk 16 4 e.code ||| fmk 24 6 realm ||| fmk 32 2 cls) (fmk 0 64 e.va) 0
  (if noSave then (d.inc pgXlat 0x0A0).traceClose id 1 else d, id)


/-- The fault of an ID: the latest one that had it. -/
def Dev.fault (d : Dev) (id : Nat) : Option XFault := (d.xlat.faults.reverse).find? (fun x => x.id == id)

/-- The first failure of a read of `n` bytes. -/
def Dev.readCheck (d : Dev) (realm va n : Nat) : Option XErr :=
  match d.readVa realm va n with
  | .error e => some e
  | .ok _ => none

end Sys2Proof.Machine
end

