-- ==== Sys2Proof/Machine/Geode.lean ====
section
/-! DEFINITION. The Geode engines: logical and physical engines, capacity and admission (R202 to R205), the ready lists (R701),
pre-emption (R218, R726), Twinning (R295 to R301) and SWAP (R302 to R306). -/

namespace Sys2Proof.Machine
open Sys2Proof

/-- A unit as reset leaves it: GE0 to GE31 serve the logical engine of their number, the spares nothing (Table 5-13). -/
def unitDflt (p : Nat) : GeUnit := { logical := if p < 32 then some p else none }

/-- A physical engine, and its replacement. -/
def Dev.geUnit (d : Dev) (p : Nat) : GeUnit := tabGet unitDflt d.geode.units p
def Dev.setGeUnit (d : Dev) (p : Nat) (u : GeUnit) : Dev := { d with geode := { d.geode with units := tabPut unitDflt d.geode.units p u } }

/-- The other unit of a pair. -/
def geTwinOf (p : Nat) : Nat := if p % 2 = 0 then p + 1 else p - 1

/-- The lesser of two engines, where there are two (R297). -/
def minEngine (a b : Option Nat) : Option Nat :=
  match a, b with
  | some x, some y => some (min x y)
  | _, _ => none

/-- The logical engine a unit serves. -/
def Dev.geLogical (d : Dev) (p : Nat) : Option Nat :=
  let u := d.geUnit p
  if u.twinned then minEngine u.logical (d.geUnit (geTwinOf p)).logical else u.logical

/-- The units that serve a logical engine, lowest first. -/
def Dev.servers (d : Dev) (l : Nat) : List Nat := (List.range 34).filter (fun p => decide (d.geLogical p = some l))

/-- The unit on whose page a logical engine's work counts (R307). -/
def Dev.workUnit (d : Dev) (l : Nat) : Option Nat := (d.servers l).head?

/-- A logical engine is twinned; it is absorbed by a lower one (R297). -/
def Dev.geTwinned (d : Dev) (l : Nat) : Bool := decide (1 < (d.servers l).length)
def Dev.absorbed (d : Dev) (l : Nat) : Bool := (d.servers l).isEmpty && (List.range 34).any (fun p => decide ((d.geUnit p).logical = some l))

/-- Mpixel/s of an engine, in pixel/s (R202). -/
def Dev.geCapacity (d : Dev) (l : Nat) : Rat := if d.geTwinned l then 1000000000 else 500000000

/-- A logical engine is served by units in READY or ACTIVE (R306). -/
def Dev.geServed (d : Dev) (l : Nat) : Bool :=
  !(d.servers l).isEmpty && (d.servers l).all (fun p => decide ((d.page (pgGeode p)).state = .ready))

/-! ### Streams -/

/-- An encode stream and a decode stream. -/
def Dev.encS (d : Dev) (i : Nat) : EncStream := tabGetD {} d.geode.enc i
def Dev.setEncS (d : Dev) (i : Nat) (x : EncStream) : Dev := { d with geode := { d.geode with enc := tabPutD {} d.geode.enc i x } }
def Dev.onEncS (d : Dev) (i : Nat) (f : EncStream → EncStream) : Dev := d.setEncS i (f (d.encS i))
def Dev.decS (d : Dev) (i : Nat) : DecStream := tabGetD {} d.geode.dec i
def Dev.setDecS (d : Dev) (i : Nat) (x : DecStream) : Dev := { d with geode := { d.geode with dec := tabPutD {} d.geode.dec i x } }
def Dev.onDecS (d : Dev) (i : Nat) (f : DecStream → DecStream) : Dev := d.setDecS i (f (d.decS i))

/-- The codes of Tables 5-5 and 6-2. -/
def EncState.code : EncState → Nat
  | .idle => 0 | .opened => 1 | .running => 2 | .suspended => 3 | .closing => 4
def DecState.code : DecState → Nat
  | .idle => 0 | .opened => 1 | .running => 2 | .closing => 3

/-- Half and a quarter of a side, rounded up to even (R237). -/
def scaleEven (n k : Nat) : Nat := ((n + 2 ^ k - 1) / 2 ^ k + 1) / 2 * 2

/-- The spatial layers of a stream, lowest first (R237). -/
def EncDesc.sizes (e : EncDesc) : List (Nat × Nat) :=
  if e.structure_ = 2 then [(scaleEven e.width 2, scaleEven e.height 2), (scaleEven e.width 1, scaleEven e.height 1), (e.width, e.height)]
  else [(e.width, e.height)]

/-- The encode cost of a stream in pixel/s (R203, Table 5-1). -/
def EncDesc.cost (e : EncDesc) : Rat :=
  ((sumN (e.sizes.map (fun s => s.1 * s.2)) : Nat) : Rat) * e.rateNum / e.rateDen * (if e.format % 2 = 1 then 4 / 3 else 1) *
    (if e.search = 0 ∧ e.refs = 2 then 3 / 2 else 1)

/-- The decode cost of a stream in pixel/s (R268). -/
def DecDesc.cost (e : DecDesc) : Rat :=
  ((List.range (e.maxS + 1)).foldl (fun (a : Rat) s => a + ((e.maxW * e.maxH : Nat) : Rat) / ((4 ^ (e.maxS - s) : Nat) : Rat)) 0) * e.rateNum / e.rateDen *
    (if e.format % 2 = 1 then 4 / 3 else 1)

/-- The cost a logical engine has admitted (R203). -/
def Dev.geLoad (d : Dev) (l : Nat) : Rat :=
  (d.geode.enc.filter (fun e => decide (e.2.state ≠ .idle) && e.2.engine == l)).foldl (fun a e => a + e.2.desc.cost) 0 +
  (d.geode.dec.filter (fun e => decide (e.2.state ≠ .idle) && e.2.engine == l)).foldl (fun a e => a + e.2.desc.cost / 2) 0

/-- A stream of a cost fits on an engine of the right kind (R204). -/
def Dev.geFits (d : Dev) (kind : Bool → Bool) (cost : Rat) (l : Nat) : Bool :=
  !(d.absorbed l) && kind (d.geTwinned l) && decide (d.geLoad l + cost ≤ d.geCapacity l)

/-- The engine a stream is bound to: the one it names, or the lowest on which it fits (R204). -/
def Dev.geChoose (d : Dev) (want : Nat) (kind : Bool → Bool) (cost : Rat) : Option Nat :=
  if want = 0xFF then (List.range 32).find? (fun l => d.geFits kind cost l) else if d.geFits kind cost want then some want else none

/-! ### Ready lists -/

/-- A job that may run: what it is, its level and its arrival. -/
structure Cand where
  dec : Bool
  stream : Nat
  level : Nat
  arrival : Nat
  deriving DecidableEq, Repr

/-- The descriptor a job is coded under: a layout's job took it at its tick, a submitted one takes it at its start (R212, R216). -/
def EncStream.jobDesc (x : EncStream) (j : EncJob) : EncDesc := if j.slot.isSome || j.coded then j.desc else x.desc

/-- The head of a stream's jobs may run: it carries no open fault, a layout's picture stands in its slot (log entry 93), and submitted work
is not started while the monitor throttles (R205, R219, R269, R270, R733). -/
def Dev.encCand (d : Dev) (e : Nat × EncStream) : Option Cand :=
  match e.2.jobs.head? with
  | none => none
  | some j =>
    if j.fault.isSome || e.2.state = .idle || (d.pow.throttle && e.2.desc.source == 1 && !j.started) || (j.slot.isSome && j.rends.isEmpty) then none
    else some ⟨false, e.1, (e.2.jobDesc j).priority, j.arrival⟩

/-- The same of a decode stream. -/
def Dev.decCand (d : Dev) (e : Nat × DecStream) : Option Cand :=
  match e.2.jobs.head? with
  | none => none
  | some j =>
    if j.fault.isSome || e.2.state = .idle || (d.pow.throttle && e.2.desc.source == 1 && !j.started) then none
    else some ⟨true, e.1, e.2.desc.priority, j.arrival⟩

/-- What runs on a logical engine. -/
def Dev.geRun (d : Dev) (l : Nat) : Option GeRun := tabGetD none d.geode.run l
def Dev.setGeRun (d : Dev) (l : Nat) (r : Option GeRun) : Dev := { d with geode := { d.geode with run := tabPutD none d.geode.run l r } }

/-- The ready list of a logical engine without the job in service: level 0 first, then arrival (R701). -/
def Dev.geReady (d : Dev) (l : Nat) : List Cand :=
  let inRun (c : Cand) : Bool := match d.geRun l with | some r => r.dec == c.dec && r.stream == c.stream | none => false
  let all := (d.geode.enc.filter (fun e => e.2.engine == l)).filterMap d.encCand ++ (d.geode.dec.filter (fun e => e.2.engine == l)).filterMap d.decCand
  sortBy (fun a b => decide (a.level < b.level) || (a.level == b.level && decide (a.arrival < b.arrival))) (all.filter (fun c => !inRun c))

/-- Save slots in use on an engine, of 64 (R726). -/
def Dev.geSaved (d : Dev) (l : Nat) : Nat :=
  sumN ((d.geode.enc.filter (fun e => e.2.engine == l)).map (fun e => (e.2.jobs.filter (fun j => j.saved.isSome)).length)) +
  sumN ((d.geode.dec.filter (fun e => e.2.engine == l)).map (fun e => (e.2.jobs.filter (fun j => j.saved.isSome)).length))

/-- An engine may start the job of `c`: it is served, nothing runs on it, and no ready job goes before. `ok` says which jobs could start. -/
def Dev.geMayStart (d : Dev) (l : Nat) (dec : Bool) (stream : Nat) (ok : Cand → Bool) : Bool :=
  d.geServed l && (d.geRun l).isNone &&
  (match ((d.geReady l).filter ok).head? with | some c => c.dec == dec && c.stream == stream | none => false)

/-- A Geode event on a unit's page (R258, R309). -/
def Dev.geEvent (d : Dev) (p b : Nat) (d2 d3 : Word) : Dev :=
  d.raise (pgGeode p) b (0x040 + p) (if b < 8 then 0x0301 + b else 0x0401 + (b - 8)) d2 d3

/-- The unit on whose page a stream's work counts: that of its engine, or the unit of the same number while none serves it. -/
def Dev.geUnitOf (d : Dev) (l : Nat) : Nat := (d.workUnit l).getD l

/-- The completion status of a job by its RESULT: 1 FAULTED, 2 ABORTED (Table 2-18). -/
def jobStatus (r : Nat) : Nat := (if r = 1 then Status.faulted else if r = 2 then .aborted else .ok).code

/-- A trace entry of a job, and of the item that stands for it (Table 17-5, classes 0 and 2). -/
def Dev.geTrace (d : Dev) (l ev stream : Nat) (dec : Bool) (row : Nat) (extra w3 : Word) : Dev :=
  let d := if ev = 0x0202 then d
    else d.jobItem (if ev = 0x0201 then 0x0002 else 0x0003) (some (if ev = 0x0201 then fmk 0 64 (0x040 + d.geUnitOf l) else fmk 0 8 (jobStatus (fld extra 48 8))))
  d.trace 2 ev (0x040 + d.geUnitOf l) (fmk 0 12 stream ||| fmkB 12 dec ||| fmk 32 16 row ||| extra) w3 0

/-- A unit whose ISOLATE waited for its job becomes ISOLATED at a job boundary (R257); a UNIT_ISOLATE of it completes (R808). -/
def Dev.geDrained (d : Dev) (l : Nat) : Dev :=
  (d.servers l).foldl (fun (d : Dev) p =>
    if (d.page (pgGeode p)).state = .draining ∧ (d.page (pgGeode p)).isolate = true then
      (d.onPage (pgGeode p) (fun h => { h with state := .isolated })).finish 0x0F00 (0x040 + p) .ok 5 d.short
    else d) d

/-- A job leaves service. -/
def Dev.geRelease (d : Dev) (l : Nat) : Dev := (d.setGeRun l none).geDrained l

/-- PAGE_CTRL.ISOLATE of a GEODE page (R257). -/
def Dev.geIsolate (d : Dev) (p : Nat) (on : Bool) : Dev :=
  let st := (d.page (pgGeode p)).state
  if on then
    if st = .ready then
      let busy := match d.geLogical p with | some l => (d.geRun l).isSome | none => false
      d.onPage (pgGeode p) (fun h => { h with isolate := true, state := if busy then .draining else .isolated })
    else d.onPage (pgGeode p) (fun h => { h with isolate := true })
  else if st = .isolated then d.onPage (pgGeode p) (fun h => { h with isolate := false, state := .ready })
  else if st = .draining then
    let waits := d.geode.swaps.any (fun x => decide (d.geLogical p = some x.logical))
    d.onPage (pgGeode p) (fun h => { h with isolate := false, state := if waits then .draining else .ready })
  else d.onPage (pgGeode p) (fun h => { h with isolate := false })

/-- The state a GEODE page reports: ACTIVE while a stream or job is bound to its engine (R257). -/
def Dev.geState (d : Dev) (p : Nat) : PState :=
  let st := (d.page (pgGeode p)).state
  if st = .ready then
    match d.geLogical p with
    | none => .ready
    | some l =>
      if d.geode.enc.any (fun e => decide (e.2.state ≠ .idle) && e.2.engine == l) || d.geode.dec.any (fun e => decide (e.2.state ≠ .idle) && e.2.engine == l)
      then .active else .ready
  else st

/-! ### Pre-emption -/

/-- A running job is saved at a CTU-row boundary of a layer: a strictly higher level is ready and a save slot is free (R218, R726). A unit
that is DRAINING finishes its job (R257). -/
def Dev.preempt (d : Dev) (l layer row : Nat) : Dev :=
  match d.geRun l, (d.geReady l).head? with
  | some r, some c =>
    let level := if r.dec then (d.decS r.stream).desc.priority else
      let x := d.encS r.stream
      (match x.jobs.head? with | some j => (x.jobDesc j).priority | none => x.desc.priority)
    if c.level < level ∧ d.geSaved l < 64 ∧ d.geServed l = true then
      let u := d.geUnitOf l
      let time := if r.dec then ((d.decS r.stream).jobs.head?).elim 0 DecJob.time else ((d.encS r.stream).jobs.head?).elim 0 EncJob.time
      let d := d.geTrace l 0x0202 r.stream r.dec row 0 time
      let d := if r.dec then
          d.onDecS r.stream (fun x => { x with jobs := match x.jobs with | j :: t => { j with saved := some row, preempted := true } :: t | [] => [] })
        else
          d.onEncS r.stream (fun x => { x with jobs := match x.jobs with | j :: t => { j with saved := some (layer, row), preempted := true } :: t | [] => [] })
      (d.inc (pgGeode u) (if r.dec then 0x160 else 0x080)).geRelease l
    else d
  | _, _ => d

/-- The row GEODE_PREEMPT. -/
def execGeodePreempt (engine layer row : Nat) (s : State) : Host.Outcome State Fault Refusal := .next (s.act (fun d => d.preempt engine layer row))

/-! ### Twinning -/

/-- Streams bound to a logical engine, or jobs on it. -/
def Dev.geBound (d : Dev) (l : Option Nat) : Bool :=
  match l with
  | none => false
  | some l => d.geode.enc.any (fun e => decide (e.2.state ≠ .idle) && e.2.engine == l) || d.geode.dec.any (fun e => decide (e.2.state ≠ .idle) && e.2.engine == l)

/-- The unit of a twinned pair that works on a row: even rows on GE2k, odd rows on GE2k + 1 (R299). -/
def bandUnit (k row : Nat) : Nat := 2 * k + row % 2

/-- A row proceeds at column `x` once the row above, of which `above` columns are complete, has completed column x + 2, or its last (R299). -/
def bandProceeds (cols row x above : Nat) : Bool := row == 0 || decide (min (x + 3) cols ≤ above)

/-- TWIN_CHANGED on both pages of a pair (R298, R309). -/
def Dev.twinEvent (d : Dev) (k : Nat) : Dev :=
  let l := (d.geLogical (2 * k)).getD 0xFF
  [2 * k, 2 * k + 1].foldl (fun (d : Dev) p => d.geEvent p 15 (fmk 0 64 l) (fmk 0 6 (2 * k) ||| fmk 8 6 (2 * k + 1))) d

/-- Both units of a pair twinned or not. -/
def Dev.setTwin (d : Dev) (k : Nat) (b : Bool) : Dev :=
  [2 * k, 2 * k + 1].foldl (fun (d : Dev) p => d.setGeUnit p { d.geUnit p with twinned := b }) d

/-- GEODE_TWIN (Table 6-3, R295 to R298). -/
def geodeTwinSpec : OpSpec where
  opcode := 0x0420
  ownerOnly := true
  args := [(0, 1)]
  checks := fun c s =>
    let k := c.arg 0 1
    let st (p : Nat) := s.dev.geState p
    [badArg 0 (decide (16 < k)),
     conflict (st (2 * k)).code (decide (st (2 * k) ≠ .ready)),
     conflict (st (2 * k + 1)).code (decide (st (2 * k + 1) ≠ .ready)),
     conflict (st (2 * k)).code ((s.dev.geUnit (2 * k)).twinned),
     conflict (st (2 * k)).code ((s.dev.geUnit (2 * k)).logical.isSome != (s.dev.geUnit (2 * k + 1)).logical.isSome)]
  run := devRun fun c _ _ d =>
    let k := c.arg 0 1
    let d := (d.setTwin k true).twinEvent k
    d.okNow ((d.geLogical (2 * k)).getD 0xFF)

/-- The row GEODE_TWIN. -/
def execGeodeTwin (c : HostCmd) (s : State) : Host.Outcome State Fault Refusal := .next (runCmd geodeTwinSpec c s)

/-- GEODE_UNTWIN: the pair is twinned, and both engines are READY (R301). -/
def geodeUntwinSpec : OpSpec where
  opcode := 0x0421
  ownerOnly := true
  args := [(0, 1)]
  checks := fun c s =>
    let k := c.arg 0 1
    let st (p : Nat) := s.dev.geState p
    [badArg 0 (decide (16 < k)),
     conflict (st (2 * k)).code (decide (st (2 * k) ≠ .ready)),
     conflict (st (2 * k + 1)).code (decide (st (2 * k + 1) ≠ .ready)),
     conflict (st (2 * k)).code (!(s.dev.geUnit (2 * k)).twinned)]
  run := devRun fun c _ _ d => ((d.setTwin (c.arg 0 1) false).twinEvent (c.arg 0 1)).okNow 0

/-- The row GEODE_UNTWIN. -/
def execGeodeUntwin (c : HostCmd) (s : State) : Host.Outcome State Fault Refusal := .next (runCmd geodeUntwinSpec c s)

/-- The row GEODE_LINK_ERROR: a private-link error of a twinned pair. A corrected one is counted in LINK_ERRORS (Table 6-9); one that cannot be
corrected takes both engines to FAULTED (R308). -/
def execGeodeLinkError (pair : Nat) (corrected : Bool) (s : State) : Host.Outcome State Fault Refusal :=
  .next (s.act (fun d =>
    if 17 ≤ pair ∨ (d.geUnit (2 * pair)).twinned = false then d
    else if corrected then d.inc (pgGeode (2 * pair)) 0x168
    else [2 * pair, 2 * pair + 1].foldl (fun (d : Dev) p => d.onPage (pgGeode p) (fun h => { h with state := .faulted })) d))

/-! ### SWAP -/

/-- A unit that may take a logical engine over: it serves nothing and is READY; for a twinned engine the lower unit of a twinned pair that
serves nothing, both READY (R302). -/
def Dev.swapTarget (d : Dev) (twinned : Bool) (p : Nat) : Bool :=
  decide (p < 34) && (d.geUnit p).logical.isNone && decide (d.geState p = .ready) && ((d.geUnit p).twinned == twinned) &&
  (!twinned || (p % 2 == 0 && (d.geUnit (p + 1)).logical.isNone && decide (d.geState (p + 1) = .ready)))

/-- The unit a GEODE_SWAP moves to. -/
def Dev.swapChoose (d : Dev) (l want : Nat) : Option Nat :=
  let tw := d.geTwinned l
  if want = 0xFF then (List.range 34).find? (fun p => d.swapTarget tw p) else if d.swapTarget tw want then some want else none

/-- The job in service of an engine whose unit faulted starts again elsewhere from its saved context or its first row (R304). -/
def Dev.geRestart (d : Dev) (l : Nat) : Dev :=
  match d.geRun l with
  | none => d
  | some r =>
    let d := if r.dec then
        d.onDecS r.stream (fun x => { x with jobs := match x.jobs with | j :: t => { j with started := j.saved.isSome } :: t | [] => [] })
      else
        d.onEncS r.stream (fun x => { x with jobs := match x.jobs with | j :: t => { j with started := j.saved.isSome || j.coded } :: t | [] => [] })
    d.setGeRun l none

/-- The move of a logical engine: its units serve nothing and go to ISOLATED, the target serves it, SWAP_DONE on both pages (R303 to
R305). -/
def Dev.swapMove (d : Dev) (l target : Nat) : Dev :=
  let old := d.servers l
  let d := d.geRestart l
  let news := if 1 < old.length then [target, target + 1] else [target]
  let d := (List.range old.length).foldl (fun (d : Dev) i =>
    let a := nthD 0 old i
    let b := nthD 0 news i
    let d := d.setGeUnit b { d.geUnit b with logical := (d.geUnit a).logical }
    let d := d.setGeUnit a { d.geUnit a with logical := none }
    let d := d.onPage (pgGeode a) (fun h => { h with isolate := true, state := .isolated })
    let w := fmk 0 6 a ||| fmk 8 6 b
    (d.geEvent a 14 (fmk 0 64 l) w).geEvent b 14 (fmk 0 64 l) w) d
  { d with geode := { d.geode with swaps := d.geode.swaps.filter (fun x => x.logical != l) } }

/-- The job in hand of an engine can finish: none of its units is FAULTED or ISOLATED (R303, R304). -/
def Dev.geFinishes (d : Dev) (l : Nat) : Bool :=
  (d.servers l).all (fun p => decide ((d.page (pgGeode p)).state = .ready) || decide ((d.page (pgGeode p)).state = .draining))

/-- GEODE_SWAP (Table 6-3, R302 to R304). With a job in hand on a unit in service, the move waits for the job boundary. -/
def geodeSwapSpec : OpSpec where
  opcode := 0x0430
  ownerOnly := true
  args := [(0, 2)]
  checks := fun c s =>
    let l := c.arg 0 1
    let t := c.arg 1 1
    [badArg 0 (decide (32 ≤ l) || (s.dev.servers l).isEmpty), badArg 1 (decide (34 ≤ t) && t != 0xFF),
     conflict (s.dev.geState t).code (t != 0xFF && (decide (s.dev.geState t ≠ .ready) || (s.dev.geUnit t).logical.isSome)),
     noRes (s.dev.geode.swaps.any (fun x => x.logical == l)),
     noRes ((s.dev.swapChoose l (c.arg 1 1)).isNone || s.dev.geode.swaps.any (fun x => decide (some x.target = s.dev.swapChoose l (c.arg 1 1))))]
  run := devRun fun c _ _ d =>
    let l := c.arg 0 1
    match d.swapChoose l (c.arg 1 1) with
    | none => (d, .done .noResource 0 0)
    | some t =>
      if (d.geRun l).isSome && d.geFinishes l then
        let d := (d.servers l).foldl (fun (d : Dev) p => d.onPage (pgGeode p) (fun h => { h with state := .draining })) d
        ({ d with geode := { d.geode with swaps := d.geode.swaps ++ [⟨l, t⟩] } }, .done .ok t d.short)
      else (d.swapMove l t).okNow t

/-- The row GEODE_SWAP. -/
def execGeodeSwap (c : HostCmd) (s : State) : Host.Outcome State Fault Refusal := .next (runCmd geodeSwapSpec c s)

/-- The row GEODE_SWAP_MOVE: at the first job boundary of the old unit, the move takes place (R303). -/
def execGeodeSwapMove (logical : Nat) (s : State) : Host.Outcome State Fault Refusal :=
  .next (s.act (fun d =>
    match d.geode.swaps.find? (fun x => x.logical == logical) with
    | none => d
    | some x => if (d.geRun logical).isSome && d.geFinishes logical then d
      else d.swapMove logical x.target))

/-- The row ENGINE_FAULT: the unit goes to FAULTED, and its logical engine loses service (R257, R304, R306). -/
def execEngineFault (physical : Nat) (s : State) : Host.Outcome State Fault Refusal :=
  .next (s.act (fun d =>
    if 34 ≤ physical ∨ (d.page (pgGeode physical)).state = .off then d
    else d.onPage (pgGeode physical) (fun h => { h with state := .faulted })))

/-! ### Stream rings -/

/-- A little-endian 32-bit number that the consumer keeps in its memory. -/
def Dev.consumer (d : Dev) (realm va : Nat) : Nat := leNat (d.peekVa realm va 4)

/-- The entries of a status ring that its consumer offset has not passed: each entry overwritten leaves one less to pass (R223, R275; log
entry 19). -/
def Dev.ringUnread (d : Dev) (realm : Nat) (r : StatusRing) (consumer : Nat) : Nat :=
  r.unread - min r.unread ((d.consumer realm consumer % 256 + 256 - r.cons) % 256)

/-- A status ring of 256 entries has no free slot by the consumer offset. -/
def Dev.statusFull (d : Dev) (realm : Nat) (r : StatusRing) (consumer : Nat) : Bool := decide (255 ≤ d.ringUnread realm r consumer)

/-- A status ring after an entry is written to its next slot; PHASE follows R84. -/
def Dev.ringWritten (d : Dev) (realm : Nat) (r : StatusRing) (consumer : Nat) : StatusRing :=
  { idx := (r.idx + 1) % 256, phase := if r.idx = 255 then !r.phase else r.phase
    unread := min 255 (d.ringUnread realm r consumer + 1), cons := d.consumer realm consumer % 256 }

end Sys2Proof.Machine
end

