-- ==== Sys2Proof/Machine/MicaCore.lean ====
section
/-! DEFINITION. Layouts as the encoders see them (chapter 7): picture ticks, renditions and slots (R344 to R348), rates (R330, R355). -/

namespace Sys2Proof.Machine
open Sys2Proof

/-- A layout, and its replacement. -/
def Dev.layout (d : Dev) (l : Nat) : Layout := tabGetD {} d.mica.layouts l
def Dev.setLayout (d : Dev) (l : Nat) (x : Layout) : Dev := { d with mica := { d.mica with layouts := tabPutD {} d.mica.layouts l x } }
def Dev.onLayout (d : Dev) (l : Nat) (f : Layout → Layout) : Dev := d.setLayout l (f (d.layout l))

/-- The codes of Table 7-1. -/
def LayState.code : LayState → Nat
  | .idle => 0 | .opened => 1 | .running => 2

/-- An output of a layout. -/
def Layout.out (x : Layout) (o : Nat) : LayOut := nthD {} x.outs o

/-- An output of a layout changed. -/
def Layout.onOut (x : Layout) (o : Nat) (f : LayOut → LayOut) : Layout := { x with outs := setNth x.outs o (f (x.out o)) }

/-- Picture tick `k` of a rate p/q is k q / p seconds (Table 1-6): its instant truncated to a `Time` unit, and the dispatcher tick at which
it is acted on (R29). -/
def Layout.tickAt (x : Layout) (k : Nat) : Time := k * x.rateDen * secT / max 1 x.rateNum
def Layout.actAt (x : Layout) (k : Nat) : Time := ceilTo usT (x.tickAt k)

/-- The number of the first tick at or after `t`. -/
def Layout.tickCeil (x : Layout) (t : Time) : Nat := (t * x.rateNum + max 1 (x.rateDen * secT) - 1) / max 1 (x.rateDen * secT)

/-- The RTP time of tick `k` at 90 kHz (R29, R137). -/
def Layout.tickRtp (x : Layout) (k : Nat) : Nat := k * x.rateDen * 90000 / max 1 x.rateNum % 4294967296

/-- The encode streams of an output that request sizes (R344). -/
def Dev.outStreams (d : Dev) (l o : Nat) : List (Nat × EncStream) :=
  d.geode.enc.filter (fun e => decide (e.2.state = .opened ∨ e.2.state = .running ∨ e.2.state = .suspended) && e.2.desc.source == 0 &&
    e.2.desc.layout == l && e.2.desc.output == o)

/-- Distinct sizes in the order of R344: descending area, then descending width. -/
def orderSizes (l : List (Nat × Nat)) : List (Nat × Nat) :=
  sortBy (fun a b => decide (b.1 * b.2 < a.1 * a.2) || (a.1 * a.2 == b.1 * b.2 && decide (b.1 < a.1))) l.eraseDups

/-- The renditions of an output (R344), with the sizes `more` added. -/
def Dev.renditions (d : Dev) (l o : Nat) (more : List (Nat × Nat)) : List (Nat × Nat) :=
  let x := (d.layout l).out o
  if x.mode = 2 then [(x.width, x.height)]
  else if x.mode = 1 then orderSizes ((d.outStreams l o).flatMap (fun e => e.2.desc.sizes) ++ more)
  else []

/-- Bytes of a sample in linear form (R349). -/
def LayOut.sampleBytes (x : LayOut) : Nat := if x.format / 2 % 2 = 1 then 2 else 1

/-- A MEMORY output in linear form. -/
def LayOut.linear (x : LayOut) : Bool := x.mode == 2 && x.format / 4 % 2 == 1

/-- The line pitch of a linear rendition (R348). -/
def LayOut.pitch (x : LayOut) (w : Nat) : Nat := (w * x.sampleBytes + 63) / 64 * 64

/-- The shape of a rendition as a surface. -/
def LayOut.shape (x : LayOut) (s : Nat × Nat) : ShShape := ⟨s.1, s.2, x.format % 4⟩

/-- The bytes of a rendition in its slot. -/
def LayOut.rendBytes (x : LayOut) (s : Nat × Nat) : Nat :=
  if x.linear then x.pitch s.1 * (s.2 + (x.shape s).chromaH) else (x.shape s).size

/-- The bytes of a hint map: 4 for each 64 × 64 tile (Table 7-10). -/
def hintBytes (s : Nat × Nat) : Nat := 4 * ((s.1 + 63) / 64) * ((s.2 + 63) / 64)

/-- Where the renditions and hint maps of a slot lie, and where its last item ends (R348). -/
def LayOut.slotMap (x : LayOut) (hints : Bool) (sizes : List (Nat × Nat)) : List (Nat × Nat) × Nat :=
  sizes.foldl (fun (a : List (Nat × Nat) × Nat) s =>
    let off := ceilTo 4096 a.2
    let fin := off + x.rendBytes s
    if hints then (a.1 ++ [(off, ceilTo 4096 fin)], ceilTo 4096 fin + hintBytes s) else (a.1 ++ [(off, 0)], fin)) ([], 4096)

/-- HINT_OUT of a layout. -/
def Layout.hintOut (x : Layout) : Bool := x.flags / 2 % 2 == 1

/-- The produce rate of a layout in pixel/s (R355), with sizes added to one output. -/
def Dev.produceRate (d : Dev) (l : Nat) (more : Nat × List (Nat × Nat)) : Rat :=
  let x := d.layout l
  let all := (List.range 4).flatMap (fun o => (d.renditions l o (if o = more.1 then more.2 else [])).filter (fun s => decide (s ≠ (x.width, x.height))))
  ((x.width * x.height + sumN (all.map (fun s => s.1 * s.2)) : Nat) : Rat) * x.rateNum / x.rateDen

/-- The RUNNING layouts of a pipeline. -/
def Dev.runningLayouts (d : Dev) (pipe : Nat) : List Nat :=
  (d.mica.layouts.filter (fun e => decide (e.2.state = .running) && e.2.pipe == pipe)).map (fun e => e.1)

/-- The produce rate and the read rate that a pipeline has admitted (R355). -/
def Dev.pipeProduce (d : Dev) (pipe : Nat) : Rat := (d.runningLayouts pipe).foldl (fun a l => a + d.produceRate l (4, [])) 0
def Dev.pipeRead (d : Dev) (pipe : Nat) : Nat := sumN ((d.runningLayouts pipe).map (fun l => (d.layout l).budget))

/-- An encode stream's open keeps the limits of an output and of the pipeline (R345, R355). -/
def Dev.renditionsFit (d : Dev) (l o : Nat) (sizes : List (Nat × Nat)) : Bool :=
  let x := d.layout l
  let rs := d.renditions l o sizes
  let all := (List.range 4).flatMap (fun j => d.renditions l j (if j = o then sizes else []))
  decide (rs.length ≤ 4) && decide (all.length ≤ 8) && rs.all (fun s => decide (s.1 ≤ x.width) && decide (s.2 ≤ x.height)) &&
  decide (((x.out o).slotMap x.hintOut rs).2 ≤ (x.out o).stride) &&
  (decide (x.state ≠ .running) || decide (rs = d.renditions l o []) ||
    decide (d.pipeProduce x.pipe - d.produceRate l (4, []) + d.produceRate l (o, sizes) ≤ 8000000000))

end Sys2Proof.Machine
end

