-- ==== Sys2Proof/Machine/Coder.lean ====
section
/-! DEFINITION. How a Geode codes one layer of a picture (R209, R227 to R236, R251): references, the search window and its search, static
CTUs, the modes a CTU may take, and in-loop filtering. The codec's own results are opaque functions of the source, the references and
the stream's state (R232). -/

namespace Sys2Proof.Machine
open Sys2Proof

/-- The side of a CTU (Table 5-4). -/
def EncDesc.ctu (e : EncDesc) : Nat :=
  if e.codec = 0x10 ∨ e.codec = 0x13 then 16 else if e.codec = 0x11 ∧ e.format / 4 % 2 = 1 then 32 else 64

/-- CTU columns and rows of a size. -/
def EncDesc.ctuCols (e : EncDesc) (s : Nat × Nat) : Nat := (s.1 + e.ctu - 1) / e.ctu
def EncDesc.ctuRows (e : EncDesc) (s : Nat × Nat) : Nat := (s.2 + e.ctu - 1) / e.ctu

/-- The tools of Table 5-4 on an engine, single or twinned. -/
def EncDesc.tools (e : EncDesc) (twinned : Bool) : Tools :=
  let base : Tools := ⟨e.codec, e.profile, e.ctu, false, (8, 64), (4, 32), [], e.refs, 0, 1, 1, true, false, false, false⟩
  if e.codec = 0x10 then { base with
    cabac := true, block := (16, 16), transform := (4, 8), intra := [4, 8, 16], sliceRows := e.format / 8 % 2 }
  else if e.codec = 0x11 then { base with
    cabac := true, block := (8, e.ctu), sao := true, tileCols := if twinned then 1 + Config.tileColumns e.width e.height % 4 else 1 }
  else if e.codec = 0x12 then { base with
    transform := (4, 64), cdef := true, eighth := e.flags / 4 % 2 == 1, tileCols := 1 + Config.tileColumns e.width e.height % 4 }
  else { base with
    block := (16, 16), transform := (4, 4), intra := [4, 16], partitions := 2 ^ (Config.tokenPartitions e.width e.height % 3) }

/-! ### Samples -/

/-- A picture's samples: luma or interleaved chroma, by column and row. -/
abbrev Samples := Bool → Int → Int → Nat

/-- Beyond the edges of a picture its nearest sample is repeated (R229); the two components of chroma alternate. -/
def edgeSamples (s : ShShape) (f : Bool → Nat → Nat → Nat) : Samples := fun chroma x y =>
  if chroma then f true (2 * (clampI 0 ((s.w / 2 : Nat) - 1) (x / 2)).toNat + (x % 2).toNat) (clampI 0 (s.chromaH - 1) y).toNat
  else f false (clampI 0 (s.w - 1) x).toNat (clampI 0 (s.h - 1) y).toNat

/-- The chroma rows of a CTU. -/
def chromaRows (s : ShShape) (ctu : Nat) : Nat := if s.fmt % 2 = 1 then ctu else ctu / 2

/-- The samples of a block of CTU size at a luma position: luma rows, then chroma rows. -/
def ctuBlock (s : ShShape) (ctu : Nat) (p : Samples) (x y : Int) : List Nat :=
  (List.range (ctu * ctu)).map (fun i => p false (x + (i % ctu : Nat)) (y + (i / ctu : Nat))) ++
  (List.range (ctu * chromaRows s ctu)).map (fun i => p true (x / 2 * 2 + (i % ctu : Nat)) ((if s.fmt % 2 = 1 then y else y / 2) + (i / ctu : Nat)))

/-- The samples of a coded picture from its CTUs in raster order. -/
def ctuSamples (s : ShShape) (ctu : Nat) (cs : List (List Nat)) : Samples :=
  let cols := (s.w + ctu - 1) / max 1 ctu
  edgeSamples s (fun chroma x y =>
    if chroma then
      let ch := max 1 (chromaRows s ctu)
      nthD 0 (nthD [] cs (y / ch * cols + x / max 1 ctu)) (ctu * ctu + y % ch * ctu + x % max 1 ctu)
    else nthD 0 (nthD [] cs (y / max 1 ctu * cols + x / max 1 ctu)) (y % max 1 ctu * ctu + x % max 1 ctu))

/-- A plane of a picture in rows. -/
def planeOf (s : ShShape) (p : Samples) (chroma : Bool) : List Nat :=
  (List.range (s.w * (if chroma then s.chromaH else s.h))).map (fun i => p chroma ((i % s.w : Nat) : Int) ((i / s.w : Nat) : Int))

/-- A source sample in the stream's depth (log entry 93). -/
def toDepth (from_ to_ v : Nat) : Nat := if from_ < to_ then v * 2 ^ (to_ - from_) else v / 2 ^ (from_ - to_)

/-! ### References (R209, R236, R251) -/

/-- A reference of a picture: its samples, its two planes, the columns of it that a refreshed sample may depend on (none outside a cycle), and
whether it is the coded picture just before in its layer (R234). -/
structure RefPic where
  pic : EncPic
  samples : Samples
  planes : List Nat × List Nat
  clean : Option Nat
  just : Bool

/-- The references of a picture of temporal layer `tid`: the newest coded picture of its layer that is not of a higher one, and with REFS 2
the newest of temporal layer 0 (Table 5-4, R220, R236). -/
def RcLayer.refsOf (r : RcLayer) (e : EncDesc) (tid : Nat) : List EncPic :=
  let first := r.pics.find? (fun p => decide (p.tid ≤ tid))
  let second := if e.refs = 2 then r.pics.find? (fun p => p.tid == 0) else none
  (first.toList ++ second.toList).eraseDups

/-- A coded picture joins those kept; a key picture leaves no other, and every later picture may reference it (R252; log entry 94). -/
def RcLayer.keep (r : RcLayer) (p : EncPic) (key : Bool) : RcLayer :=
  { r with
    coded := r.coded + 1
    pics := if key then [{ p with tid := 0 }] else p :: r.pics.filter (fun q => q.tid != p.tid) }

/-! ### The window (R227 to R229) -/

/-- A window cache: its first column and row in the reference, and its size. -/
structure Window where
  x : Int
  y : Int
  w : Nat
  h : Nat
  deriving DecidableEq, Repr

/-- The window at the start of a CTU row (R228, R229). -/
def EncDesc.windowLoad (e : EncDesc) (row : Nat) : Window := ⟨-(e.srH : Int), (row * e.ctu : Nat) - (e.srV : Int), 2 * e.srH + 2 * e.ctu, 2 * e.srV + e.ctu⟩

/-- The window after a CTU: the leftmost column is dropped, and the one fetched meanwhile becomes searchable (R229). -/
def Window.slide (w : Window) (ctu : Nat) : Window := { w with x := w.x + (ctu : Int) }

/-- A block at a luma position lies in the searchable part of the window: the last column is the one being fetched (R228). -/
def Window.has (w : Window) (ctu : Nat) (x y : Int) : Bool :=
  decide (w.x ≤ x) && decide (x + ctu ≤ w.x + (w.w : Int) - ctu) && decide (w.y ≤ y) && decide (y + ctu ≤ w.y + (w.h : Int))

/-! ### Motion search (R230, R231) -/

/-- What the coding of a layer's picture is given. -/
structure PicEnc where
  e : EncDesc
  tools : Tools
  shape : ShShape
  src : Samples
  refs : List RefPic
  /-- The vectors of the previous coded picture of the layer (R231). -/
  colo : List (Option (Int × Int))
  /-- The picture of the layer below, in this layer's size, and how many of its luma columns are clean (R237, R251). -/
  below : Option (Samples × Option Nat)
  isStatic : Nat → Nat → Bool
  hint : Nat → Nat → Option (Int × Int)
  /-- The refresh columns of the picture, the carried CTUs it codes again, and the columns refreshed in the cycle with it. -/
  cols : List Nat
  extra : List (Nat × Nat)
  clean : Option Nat
  key : Bool

/-- A CTU is a refresh CTU of the picture (R250, R253); it lies in the refreshed area (R251). -/
def PicEnc.refresh (p : PicEnc) (c r : Nat) : Bool := p.cols.contains c || p.extra.contains (c, r)
def PicEnc.inClean (p : PicEnc) (c : Nat) : Bool := match p.clean with | some n => decide (c < n) | none => false

/-- The block of a reference that a vector in eighth-pel predicts. -/
def PicEnc.predict (p : PicEnc) (r : RefPic) (v : Int × Int) (x y : Nat) : List Nat :=
  if v.1 % 8 = 0 ∧ v.2 % 8 = 0 ∧ (v.1 % 16 = 0 ∧ v.2 % 16 = 0 ∨ p.shape.fmt % 2 = 1 ∧ v.1 % 16 = 0) then ctuBlock p.shape p.e.ctu r.samples (x + v.1 / 8) (y + v.2 / 8)
  else ctuBlock p.shape p.e.ctu (fun chroma a b =>
    Config.predict ⟨p.e.codec, chroma, 8, v.1, v.2, p.shape.w, if chroma then r.planes.2 else r.planes.1⟩ a.toNat b.toNat % 2 ^ p.shape.depth) x y

/-- A CTU of the refreshed area depends on no sample outside the refreshed area of the reference; interpolation reads 4 samples more
(R251; log entry 95). -/
def PicEnc.vectorOk (p : PicEnc) (r : RefPic) (c : Nat) (v : Int × Int) : Bool :=
  !p.inClean c || (match r.clean with
    | some n => decide (n = p.e.ctuCols (p.shape.w, p.shape.h)) ||
        decide ((8 * ((c + 1) * p.e.ctu) : Nat) + v.1 + (if v.1 % 8 = 0 ∧ v.1 % 16 = 0 then 0 else 32) ≤ ((8 * (n * p.e.ctu) : Nat) : Int))
    | none => true)

/-- The vectors of ±8 full-pel around one. -/
def around8 (v : Int × Int) : List (Int × Int) :=
  (List.range 17).flatMap (fun j => (List.range 17).map (fun i => (v.1 + 8 * ((i : Int) - 8), v.2 + 8 * ((j : Int) - 8))))

/-- The vectors one step around another, itself first. -/
def ringOf (q : Int) (v : Int × Int) : List (Int × Int) :=
  v :: [(-1, -1), (0, -1), (1, -1), (-1, 0), (1, 0), (-1, 1), (0, 1), (1, 1)].map (fun d : Int × Int => (v.1 + q * d.1, v.2 + q * d.2))

/-- The vector of least cost, the first where several are equal. -/
def leastCost (cost : Int × Int → Nat) : List (Int × Int) → Option (Int × Int)
  | [] => none
  | v :: t => some (t.foldl (fun b w => if cost w < cost b then w else b) v)

/-- The candidates of R231 that exist: the motion of the left, above and above-right CTUs, the co-located one, zero, and Mica's hint. -/
def PicEnc.candidates (p : PicEnc) (vecs : List (Option (Int × Int))) (c r : Nat) : List (Int × Int) :=
  let n := p.e.ctuCols (p.shape.w, p.shape.h)
  let at_ (ok : Bool) (k : Nat) : Option (Int × Int) := if ok then nthD none vecs k else none
  let whole (v : Int × Int) : Int × Int := (v.1 / 8 * 8, v.2 / 8 * 8)
  ([at_ (decide (c ≠ 0)) (r * n + c - 1), at_ (decide (r ≠ 0)) (r * n + c - n), at_ (decide (r ≠ 0) && decide (c + 1 < n)) (r * n + c - n + 1),
    nthD none p.colo (r * n + c), some (0, 0), if p.e.flags % 2 = 1 then p.hint c r else none].filterMap id).map whole

/-- The four best positions of the window on the 4:1 decimated copy, in eighth-pel (R230; log entry 92). -/
def PicEnc.coarse (p : PicEnc) (r : RefPic) (w : Window) (c row : Nat) : List (Int × Int) :=
  let x : Int := (c * p.e.ctu : Nat)
  let y : Int := (row * p.e.ctu : Nat)
  let side := p.e.ctu / 4
  let small (f : Samples) (a b : Int) : List Nat := (List.range (side * side)).map (fun i =>
    Config.decimate ((List.range 16).map (fun k => f false (a + (4 * (i % side) + k % 4 : Nat)) (b + (4 * (i / side) + k / 4 : Nat)))))
  let own := small p.src x y
  let all := (List.range (2 * p.e.srV / 4 + 1)).flatMap (fun j => (List.range (2 * p.e.srH / 4 + 1)).map (fun i =>
    (((4 * i : Nat) : Int) - p.e.srH, ((4 * j : Nat) : Int) - p.e.srV)))
  let ranked := sortBy (fun a b : (Int × Int) × Nat => decide (a.2 < b.2)) ((all.filter (fun v => w.has p.e.ctu (x + v.1) (y + v.2))).map (fun v =>
    (v, Config.blockCost own (small r.samples (x + v.1) (y + v.2)))))
  (ranked.take 4).map (fun v => (8 * v.1.1, 8 * v.1.2))

/-- The search of a CTU in one reference: the best vector at full-pel and the best of all (R230, R231). -/
def PicEnc.search (p : PicEnc) (r : RefPic) (w : Window) (vecs : List (Option (Int × Int))) (c row : Nat) : Option ((Int × Int) × (Int × Int)) :=
  let x := c * p.e.ctu
  let y := row * p.e.ctu
  let src := ctuBlock p.shape p.e.ctu p.src x y
  let inside (v : Int × Int) : Bool := p.e.search != 0 || w.has p.e.ctu ((x : Int) + v.1 / 8) ((y : Int) + v.2 / 8)
  let cost (v : Int × Int) : Nat := Config.blockCost src (p.predict r v x y)
  let ok (v : Int × Int) : Bool := inside v && p.vectorOk r c v
  let starts := (if p.e.search = 0 then p.coarse r w c row else []) ++ (p.candidates vecs c row).filter inside
  match leastCost cost ((starts.flatMap around8).filter ok) with
  | none => none
  | some full =>
    let fine (q : Int) (v : Int × Int) : Int × Int := (leastCost cost ((ringOf q v).filter ok)).getD v
    let quarter := fine 2 (fine 4 full)
    some (full, if p.e.codec = 0x12 ∧ p.tools.eighth then fine 1 quarter else quarter)

/-! ### Coding a CTU (R209, R233 to R236, R245, R251, R252) -/

/-- A picture of a layer being coded: its window, and for each CTU so far its vector, its samples and its coding; the coder's state. -/
structure CtuAcc where
  win : Window := ⟨0, 0, 0, 0⟩
  vecs : List (Option (Int × Int)) := []
  recon : List (List Nat) := []
  uses : List CtuUse := []
  state : Nat := 0

/-- What a row of CTUs measures: bits, CTUs coded static and intra, bits of each intra CTU at QP_MAX, full-pel residual cost, and the sum
of QPs. -/
structure RowOut where
  bits : Nat := 0
  statics : Nat := 0
  intras : Nat := 0
  maxIntra : List Nat := []
  cx : Nat := 0
  qpSum : Int := 0
  deriving DecidableEq, Repr

/-- The tile column of a CTU column. -/
def tileOf (tiles cols c : Nat) : Nat := c * max 1 tiles / max 1 cols

/-- A CTU may depend on another: in the same slice and tile, and where it is refreshed only on refreshed ones (R209, R251). -/
def PicEnc.mayUse (p : PicEnc) (c row c' row' : Nat) : Bool :=
  let n := p.e.ctuCols (p.shape.w, p.shape.h)
  (p.tools.sliceRows == 0 || row / p.tools.sliceRows == row' / p.tools.sliceRows) && tileOf p.tools.tileCols n c == tileOf p.tools.tileCols n c' &&
  (!p.inClean c || p.inClean c')

/-- The modes a CTU may take, each with its vector's block. The static mode comes alone; so does skip in floor mode, and intra in a refresh
CTU. Where a floor CTU has no reference, or its skip mode would leave the refreshed area, it is intra, or inter with a zero vector and
no residual (log entry 95). -/
def PicEnc.modes (p : PicEnc) (static floor : Bool) (skipV : Int × Int) (found : List (Option ((Int × Int) × (Int × Int)))) (c row : Nat) : List (CtuMode × List Nat) :=
  let x := c * p.e.ctu
  let y := row * p.e.ctu
  let pred (k : Nat) (v : Int × Int) : List Nat := match p.refs[k]? with | some r => p.predict r v x y | none => []
  let intra : CtuMode × List Nat := (.intra, [])
  let below : List (CtuMode × List Nat) := match p.below with
    | some (f, clean) =>
      let free := !p.inClean c || (match clean with | some n => decide ((c + 1) * p.e.ctu + 8 ≤ n) || decide (p.shape.w ≤ n) | none => true)
      if free then [(.below, ctuBlock p.shape p.e.ctu f x y)] else []
    | none => []
  let skipOk := match p.refs.head? with | some r => p.vectorOk r c skipV | none => false
  if p.refresh c row then [intra]
  else if p.refs.isEmpty || p.key then intra :: below
  else if floor then (if skipOk then [(.skip 0 skipV, pred 0 skipV)] else [(.zero 0, pred 0 (0, 0))])
  else if static then (if skipV = (0, 0) then [(.skip 0 (0, 0), pred 0 (0, 0))] else [(.zero 0, pred 0 (0, 0))])
  else
    [intra] ++ below ++ (if skipOk then [(.skip 0 skipV, pred 0 skipV)] else []) ++
    (List.range found.length).filterMap (fun k => match nthD none found k with | some v => some (.inter k v.2, pred k v.2) | none => none)

/-- The vector a mode gives its CTU. -/
def modeVec : CtuMode → Option (Int × Int)
  | .skip _ v => some v
  | .zero _ => some (0, 0)
  | .inter _ v => some v
  | .intra => none
  | .below => none

/-- The samples of the CTUs around one that it may depend on: left, above-left, above and above-right. -/
def PicEnc.around (p : PicEnc) (recon : List (List Nat)) (c row : Nat) : List (Option (List Nat)) :=
  let n := p.e.ctuCols (p.shape.w, p.shape.h)
  let at_ (ok : Bool) (c' row' : Nat) : Option (List Nat) := if ok && p.mayUse c row c' row' then recon[row' * n + c']? else none
  [at_ (decide (c ≠ 0)) (c - 1) row, at_ (decide (c ≠ 0 ∧ row ≠ 0)) (c - 1) (row - 1), at_ (decide (row ≠ 0)) c (row - 1),
   at_ (decide (row ≠ 0 ∧ c + 1 < n)) (c + 1) (row - 1)]

/-- A CTU is coded as static (R233, R234). -/
def PicEnc.staticCtu (p : PicEnc) (c row : Nat) : Bool :=
  p.isStatic c row && !p.key && !p.refresh c row && (match p.refs.head? with | some r => r.just && p.vectorOk r c (0, 0) | none => false)

/-- One CTU coded at the row's QP or, in floor mode or a key picture, at QP_MAX. -/
def PicEnc.codeCtu (p : PicEnc) (qp : Int) (floor : Bool) (row : Nat) (a : CtuAcc × RowOut) (c : Nat) : CtuAcc × RowOut :=
  let n := p.e.ctuCols (p.shape.w, p.shape.h)
  let x := c * p.e.ctu
  let y := row * p.e.ctu
  let src := ctuBlock p.shape p.e.ctu p.src x y
  let static := p.staticCtu c row
  let seen (ok : Bool) (c' row' : Nat) : Option (Int × Int) := if ok && p.mayUse c row c' row' then nthD none a.1.vecs (row' * n + c') else none
  let vs := [seen (decide (c ≠ 0)) (c - 1) row, seen (decide (row ≠ 0)) c (row - 1), seen (decide (row ≠ 0 ∧ c + 1 < n)) (c + 1) (row - 1), nthD none p.colo (row * n + c)]
  let skipV := Config.skipMotion p.e.codec vs
  let found := if static || floor || p.refresh c row || p.key then [] else p.refs.map (fun r => p.search r a.1.win a.1.vecs c row)
  let modes := p.modes static floor skipV found c row
  let around := p.around a.1.recon c row
  let q : Int := if floor then (if p.refresh c row || p.refs.isEmpty || p.key then p.e.qpMax else qp) else if p.key && !p.refresh c row then p.e.qpMax else qp
  let pick := if modes.length = 1 then 0 else Config.modePick ⟨p.tools, q, src, modes, around, a.1.state⟩ % max 1 modes.length
  let m := nthD (CtuMode.intra, []) modes pick
  let u : CtuUse := ⟨p.tools, q, src, m.1, m.2, around, vs, a.1.state⟩
  let bits := Config.ctuBits u
  let intra := decide (m.1 = .intra)
  -- R240: the residual at full-pel
  let full := match p.refs.head?, nthD none found 0 with
    | some r, some v => p.predict r v.1 x y
    | some r, none => p.predict r (0, 0) x y
    | none, _ => []
  ({ a.1 with
      win := a.1.win.slide p.e.ctu
      vecs := a.1.vecs ++ [modeVec m.1]
      recon := a.1.recon ++ [Config.ctuRecon u]
      uses := a.1.uses ++ [u]
      state := Config.ctuState u },
   { bits := a.2.bits + bits, statics := a.2.statics + (if static && (!floor || m.1 == .skip 0 (0, 0)) then 1 else 0), intras := a.2.intras + (if intra then 1 else 0)
     maxIntra := a.2.maxIntra ++ (if intra ∧ q = p.e.qpMax then [bits] else []), cx := a.2.cx + Config.hadamard src full, qpSum := a.2.qpSum + q })

/-- A row of CTUs coded: the window is loaded at its start (R229). -/
def PicEnc.codeRow (p : PicEnc) (a : CtuAcc) (row : Nat) (qp : Int) (floor : Bool) : CtuAcc × RowOut :=
  (List.range (p.e.ctuCols (p.shape.w, p.shape.h))).foldl (fun a c => p.codeCtu qp floor row a c) ({ a with win := p.e.windowLoad row }, {})

/-- The reconstructed CTUs of a picture after in-loop filtering, which takes no sample from outside the refreshed area into it (R251). -/
def PicEnc.filtered (p : PicEnc) (recon : List (List Nat)) : List (List Nat) :=
  let n := p.e.ctuCols (p.shape.w, p.shape.h)
  (List.range recon.length).map (fun i =>
    let c := i % max 1 n
    let row := i / max 1 n
    let at_ (ok : Bool) (c' row' : Nat) : Option (List Nat) := if ok && (!p.inClean c || p.inClean c') then recon[row' * n + c']? else none
    Config.loopFilter p.tools (nthD [] recon i)
      [at_ (decide (c ≠ 0 ∧ row ≠ 0)) (c - 1) (row - 1), at_ (decide (row ≠ 0)) c (row - 1), at_ (decide (row ≠ 0 ∧ c + 1 < n)) (c + 1) (row - 1),
       at_ (decide (c ≠ 0)) (c - 1) row, at_ (decide (c + 1 < n)) (c + 1) row,
       at_ (decide (c ≠ 0)) (c - 1) (row + 1), at_ true c (row + 1), at_ (decide (c + 1 < n)) (c + 1) (row + 1)])

end Sys2Proof.Machine
end

