-- ==== Sys2Proof/Machine/Encode.lean ====
section
/-! DEFINITION. Geode encoding (R202 to R258): streams, jobs, rate control, refresh cycles, and the status and bitstream rings. -/

namespace Sys2Proof.Machine
open Sys2Proof

/-! ### Descriptors (Table 5-7) -/

/-- A descriptor as its bytes give it; a layout's stream takes the layout's rate (R215). -/
def encParse (l : List Byte) (rate : Option (Nat × Nat)) : EncDesc :=
  { source := leAt l 0 1, output := leAt l 1 1, layout := leAt l 2 2, codec := leAt l 4 1, profile := leAt l 5 1, level := leAt l 6 1,
    format := leAt l 7 1, width := leAt l 8 2, height := leAt l 10 2,
    rateNum := match rate with | some r => r.1 | none => leAt l 12 4,
    rateDen := match rate with | some r => r.2 | none => leAt l 16 4,
    structure_ := leAt l 20 1, enc := leAt l 21 1, rcMode := leAt l 22 1, cqQp := leAt l 23 1, qpMin := leAt l 24 1, qpMax := leAt l 25 1,
    vbvMs := leAt l 26 2, minK := [leAt l 28 4, leAt l 32 4, leAt l 36 4], maxK := [leAt l 40 4, leAt l 44 4, leAt l 48 4],
    search := leAt l 52 1, refs := leAt l 53 1, srH := leAt l 54 2, srV := leAt l 56 2, refreshN := leAt l 58 1, engine := leAt l 59 1,
    priority := leAt l 60 1, flags := leAt l 61 1, refBase := leAt l 64 8, refSize := leAt l 72 8, statusBase := leAt l 80 8,
    bsBase := leAt l 88 8, bsSize := leAt l 96 4, consumer := leAt l 104 8 }

/-- One QP step (R210). -/
def EncDesc.step (e : EncDesc) : Nat := if e.codec = 0x12 then 4 else if e.codec = 0x13 then 2 else 1

/-- Chroma and bit depth that a profile codes (Table 5-2). -/
def encFormatOk (codec profile fmt : Nat) : Bool :=
  let c422 := fmt % 2 == 1
  let ten := fmt / 2 % 2 == 1
  match codec, profile with
  | 0x10, 0 => !c422 && !ten
  | 0x10, 1 => !c422 && !ten
  | 0x10, 2 => !c422
  | 0x10, 3 => true
  | 0x11, 0 => !c422 && !ten
  | 0x11, 1 => !c422
  | 0x11, 2 => true
  | 0x12, 0 => !c422
  | 0x13, 0 => !c422 && !ten
  | _, _ => false

/-- The profile codes of a codec (Table 5-2). -/
def encProfiles (codec : Nat) : Nat := if codec = 0x10 then 4 else if codec = 0x11 then 3 else if codec = 0x12 ∨ codec = 0x13 then 1 else 0

/-- Bytes of the window cache (R228). -/
def EncDesc.window (e : EncDesc) : Nat :=
  (2 * e.srH + 2 * e.ctu) * (2 * e.srV + e.ctu) * e.refs * (if e.format / 2 % 2 = 1 then 2 else 1) * (if e.format % 2 = 1 then 4 else 3) / 2

/-- Picture size and window suit an engine, single or twinned (Table 5-3, R227, R228). -/
def EncDesc.sizeOk (e : EncDesc) (twinned : Bool) : Bool :=
  if twinned then
    if e.codec = 0x10 then decide (((e.width + 15) / 16) * ((e.height + 15) / 16) ≤ 139264 ∧ e.width ≤ 8192 ∧ e.height ≤ 8192)
    else decide (e.codec ≠ 0x13 ∧ e.width ≤ 8192 ∧ e.height ≤ 4608)
  else decide (e.width ≤ 4096 ∧ e.height ≤ 2304)

/-- The search window suits an engine (R227, R228). -/
def EncDesc.windowOk (e : EncDesc) (twinned : Bool) : Bool :=
  decide (e.search ≠ 0) || (if twinned then decide (e.srH ≤ 384 ∧ e.srV ≤ 192 ∧ e.window ≤ 786432) else decide (e.srH ≤ 192 ∧ e.srV ≤ 96 ∧ e.window ≤ 393216))

/-- Both suit the kind of an engine. -/
def EncDesc.kindOk (e : EncDesc) (twinned : Bool) : Bool := e.sizeOk twinned && e.windowOk twinned

/-- The worst-case size of the reference store (R214). -/
def EncDesc.refNeed (e : EncDesc) : Nat := (e.refs + 1) * sumN (e.sizes.map (fun s => (ShShape.mk s.1 s.2 (e.format % 4)).size))

/-- TO_PACKET of a stream. -/
def EncDesc.toPacket (e : EncDesc) : Bool := e.flags / 8 % 2 == 1

/-- Bytes of the bitstream ring. -/
def EncDesc.ringBytes (e : EncDesc) : Nat := if e.bsSize = 0 then 4294967296 else e.bsSize

/-- The level codes of a codec, smallest level first (log entry 96): level_idc, general_level_idc, seq_level_idx; the last holds every
stream. -/
def levelCodes (codec : Nat) : List Nat :=
  if codec = 0x10 then [10, 11, 12, 13, 20, 21, 22, 30, 31, 32, 40, 41, 42, 50, 51, 52, 60, 61, 62]
  else if codec = 0x11 then [30, 60, 63, 90, 93, 120, 123, 150, 153, 156, 180, 183, 186, 255]
  else if codec = 0x12 then [0, 1, 4, 5, 8, 9, 12, 13, 14, 15, 16, 17, 18, 19, 31]
  else []

/-- A level holds a stream (R207, R208). -/
def EncDesc.levelOk (e : EncDesc) (l : Nat) : Bool :=
  (levelCodes e.codec).contains l && ((e.codec == 0x11 && l == 255) || (e.codec == 0x12 && l == 31) ||
    (decide (e.width * e.height ≤ 35651584) && Config.levelHolds ⟨e.codec, l, e.width, e.height, e.rateNum, e.rateDen, sumN e.maxK⟩))

/-- The level written: LEVEL, or the smallest that holds the stream; HEVC and AV1 write 255 and 31 only above 35,651,584 luma samples; none
where no level holds it (R207, Table 5-3). -/
def EncDesc.levelWritten (e : EncDesc) : Option Nat :=
  if e.codec = 0x13 then some 0
  else if e.level ≠ 0 then (if e.levelOk e.level then some e.level else none)
  else (levelCodes e.codec).find? (fun l => e.levelOk l && (!((e.codec == 0x11 && l == 255) || (e.codec == 0x12 && l == 31)) || decide (35651584 < e.width * e.height)))

/-- A kind of engine the descriptor names, or any (R204). -/
def Dev.kindNamed (d : Dev) (e : EncDesc) (f : Bool → Bool) : Bool := if e.engine = 0xFF then f false || f true else f (d.geTwinned e.engine)

/-- The descriptor's checks in the order of its bytes (R206 to R208, R213 to R216, R227, R228; a region that must be PINNED and is not
is a bad field, log entry 20). -/
def encDescChecks (l : List Byte) (realm : Nat) (d : Dev) : List Chk :=
  let e := encParse l (if leAt l 0 1 = 0 then some ((d.layout (leAt l 2 2)).rateNum, (d.layout (leAt l 2 2)).rateDen) else none)
  let lay := d.layout e.layout
  let comp := e.source == 0
  [badDesc 0 (decide (2 ≤ e.source)),
   badDesc 1 (comp && (decide (4 ≤ e.output) || (decide (lay.state ≠ .idle) && (lay.out e.output).mode != 1))),
   badDesc 2 (comp && decide (256 ≤ e.layout)),
   badDesc 4 (encProfiles e.codec == 0), badDesc 5 (decide (encProfiles e.codec ≤ e.profile)),
   badDesc 6 e.levelWritten.isNone,
   badDesc 7 (decide (16 ≤ e.format) || !encFormatOk e.codec e.profile e.format),
   badDesc 8 (decide (e.width < 64) || e.width % 2 == 1 || !d.kindNamed e e.sizeOk), badDesc 10 (decide (e.height < 64) || e.height % 2 == 1),
   badDesc 12 (!comp && e.rateNum == 0), badDesc 16 (!comp && e.rateDen == 0),
   badDesc 20 (decide (3 ≤ e.structure_) || (e.structure_ == 2 && (!comp || e.codec != 0x12))),
   badDesc 21 (decide (3 ≤ e.enc) || (comp && (d.outStreams e.layout e.output).any (fun s => s.2.desc.enc == e.enc))),
   badDesc 22 (decide (3 ≤ e.rcMode)), badDesc 23 (decide (e.cqQp < e.qpMin ∨ e.qpMax < e.cqQp) && decide (e.qpMin ≤ e.qpMax)),
   badDesc 24 (decide (e.qpMax < e.qpMin)), badDesc 26 (decide (e.vbvMs < 50 ∨ 2000 < e.vbvMs)),
   badDesc 52 (decide (2 ≤ e.search)), badDesc 53 (decide (e.refs < 1 ∨ 2 < e.refs)),
   badDesc 54 (e.search == 0 && (e.srH % 16 != 0 || !d.kindNamed e e.kindOk)), badDesc 56 (e.search == 0 && e.srV % 16 != 0),
   badDesc 58 (decide (e.refreshN < 8 ∨ 120 < e.refreshN)), badDesc 59 (decide (32 ≤ e.engine) && e.engine != 0xFF), badDesc 60 (decide (16 ≤ e.priority)),
   badDesc 61 (decide (16 ≤ e.flags)), badDesc 62 (leAt l 62 2 != 0),
   badDesc 64 (!d.pinned realm e.refBase e.refSize), badDesc 72 (decide (e.refSize < e.refNeed)),
   badDesc 80 (!d.pinned realm e.statusBase 8192),
   badDesc 88 (!e.toPacket && (e.bsBase % 4096 != 0 || !d.pinned realm e.bsBase e.ringBytes)),
   badDesc 96 (!e.toPacket && (e.bsSize % 4096 != 0 || (e.bsSize != 0 && decide (e.bsSize < 65536)))),
   badDesc 100 (leAt l 100 4 != 0), badDesc 112 (leAt l 112 8 != 0 || leAt l 120 8 != 0)]

/-- A stream belongs to its realm; realm 0 commands every stream (R79, R211). -/
def encDenied (c : HostCmd) (s : State) : Chk :=
  denied (c.realm != 0 && decide ((s.dev.encS (c.arg 0 2)).state ≠ .idle) && (s.dev.encS (c.arg 0 2)).realm != c.realm)

/-- A stream is in one of the states a command is allowed in (Table 5-6). -/
def encAllowed (c : HostCmd) (s : State) (ok : List EncState) : Chk :=
  conflict (s.dev.encS (c.arg 0 2)).state.code (!ok.contains (s.dev.encS (c.arg 0 2)).state)

/-- The layers a stream of a layout output codes: three of L3T3, else its encoding. -/
def EncDesc.layersOf (x : EncDesc) : List Nat := if x.structure_ = 2 then [0, 1, 2] else [x.enc]

/-- Leg policy keeps nothing of the layers of a stream that opens or has closed: none of them is suspended or resumes (R191). -/
def Dev.freshLayers (d : Dev) (x : EncDesc) : Dev :=
  let mine (o : Nat × Nat × Nat) : Bool := o.1 == x.layout && o.2.1 == x.output && x.layersOf.contains o.2.2
  { d with legs := { d.legs with
      suspended := d.legs.suspended.filter (fun o => !mine o)
      resuming := d.legs.resuming.filter (fun o => !mine o)
      toResume := d.legs.toResume.filter (fun o => !mine o)
      idleSince := d.legs.idleSince.filter (fun o => !mine o.1)
      frozen := d.legs.frozen.filterMap (fun f =>
        if f.1 = (x.layout, x.output) then
          (let r := f.2.2.filter (fun s => !x.layersOf.contains s.spatial)
           if r.isEmpty then none else some (f.1, f.2.1, r))
        else some f) } }

/-- ENC_STREAM_OPEN (Table 5-6). -/
def encStreamOpenSpec : OpSpec where
  opcode := 0x0300
  args := [(0, 2), (8, 8)]
  capture := fun c d => capturePinned d c.realm (c.arg 8 8) 128
  checks := fun c s => [badArg 0 (decide (2048 ≤ c.arg 0 2)), badArg 8 (c.arg 8 8 % 64 != 0), encAllowed c s [.idle], refusedIf s.dev.pow.throttle]
  dchecks := fun c l s =>
    let d := s.dev
    let e := encParse l (if leAt l 0 1 = 0 then some ((d.layout (leAt l 2 2)).rateNum, (d.layout (leAt l 2 2)).rateDen) else none)
    [denied (leAt l 0 1 == 0 && c.realm != 0)] ++ encDescChecks l c.realm d ++
    [conflict 0 (e.source == 0 && decide ((d.layout e.layout).state = .idle)),
     noRes (e.source == 0 && !d.renditionsFit e.layout e.output e.sizes), noRes ((d.geChoose e.engine e.kindOk e.cost).isNone)]
  run := devRun fun c l _ d =>
    let i := c.arg 0 2
    let e := encParse l (if leAt l 0 1 = 0 then some ((d.layout (leAt l 2 2)).rateNum, (d.layout (leAt l 2 2)).rateDen) else none)
    let eng := (d.geChoose e.engine e.kindOk e.cost).getD 0
    let d := if e.source = 0 then d.freshLayers e else d
    let d := d.setEncS i { state := .opened, realm := c.realm, desc := e, engine := eng, targets := e.maxK.map (· * 1000), outSeq := d.freeWord.toNat % 65536,
                           level := e.levelWritten.getD 0 }
    let d := ((d.tickFree.hold holdEnc i c.realm e.refBase e.refSize).hold holdEnc i c.realm e.statusBase 8192).hold holdEnc i c.realm e.consumer 8
    let d := if e.toPacket then d else d.hold holdEnc i c.realm e.bsBase e.ringBytes
    d.okNow eng

/-- The row ENC_STREAM_OPEN. -/
def execEncStreamOpen (c : HostCmd) (s : State) : Host.Outcome State Fault Refusal := .next (runCmd encStreamOpenSpec c s)

/-! ### The end of jobs and streams -/

/-- Bytes 0 to 31 of the status entry of a job (Table 5-9). -/
def encEntry (i : Nat) (x : EncStream) (j : EncJob) (result : Nat) : List Byte :=
  leBytes 2 i ++ leBytes 1 ((j.layers - 1) + 4 * j.tid) ++ leBytes 1 result ++ leBytes 4 (sumN j.bits) ++ leBytes 8 j.time.toNat ++
  leBytes 2 j.exhausted ++ leBytes 1 (satN 255 j.qpAvg) ++
  leBytes 1 (j.flags % 64 + (if j.preempted then 64 else 0) + (if x.ring.phase then 128 else 0)) ++
  leBytes 2 j.staticC ++ leBytes 2 j.intraC ++ leBytes 2 j.cycle ++ leBytes 4 j.user ++ [0, 0]

/-- Detail word 3 of an encode event: bytes 16 to 23 of the entry (R258). -/
def entryMid (l : List Byte) : Word := fmk 0 64 (leAt l 16 8)

/-- The status entry of a stream's oldest job written (R223). -/
def Dev.encStatus (d : Dev) (i result : Nat) : Dev :=
  let x := d.encS i
  match x.jobs.head? with
  | none => d
  | some j =>
    let b := encEntry i x j result
    let u := d.geUnitOf x.engine
    let d := if x.desc.toPacket && d.statusFull x.realm x.ring x.desc.consumer
      then (d.inc (pgGeode u) 0x098).geEvent u 4 (fmk 0 64 i) (entryMid b) else d
    let d := d.writeVa x.realm (x.desc.statusBase + 32 * x.ring.idx) b
    let d := d.geTrace x.engine 0x0203 i false 0 (fmk 48 8 result) (fmk 0 64 (leAt b 0 8))
    d.setEncS i { x with ring := d.ringWritten x.realm x.ring x.desc.consumer }

/-- A closing stream with no job left is IDLE, and its close completes (R212). -/
def Dev.encIdle (d : Dev) (i : Nat) : Dev :=
  let x := d.encS i
  if x.state = .closing ∧ x.jobs.isEmpty then
    let d := if x.desc.source = 0 then d.freshLayers x.desc else d
    ((d.setEncS i {}).unhold holdEnc i).finish 0x0301 i .ok x.discarded d.short
  else d

/-- A stream moves to CLOSING: jobs not started are discarded, a faulted job ends with ABORTED, and jobs in hand finish (R212, R736). -/
def Dev.encClose (d : Dev) (i : Nat) : Dev :=
  let x := d.encS i
  let lost := x.jobs.filter (fun j => !j.started && j.fault.isNone)
  let d := match x.jobs.head? with
    | some j => match j.fault with
      | some id => (d.closeFault id 3).encStatus i 2
      | none => d
    | none => d
  let y := d.encS i
  (d.setEncS i { y with state := .closing, jobs := x.jobs.filter (fun j => j.started && j.fault.isNone), discarded := lost.length }).encIdle i

/-- The oldest job of a stream ends: its entry is written, the engine takes another, and a LAST job closes the stream. -/
def Dev.encEnd (d : Dev) (i result : Nat) : Dev :=
  let x := d.encS i
  match x.jobs.head? with
  | none => d
  | some j =>
    let run := match d.geRun x.engine with | some r => !r.dec && r.stream == i | none => false
    let d := d.encStatus i result
    let d := d.onEncS i (fun y => { y with jobs := y.jobs.drop 1 })
    let d := if run then d.geRelease x.engine else d
    if j.last && decide (x.state ≠ .closing) then d.encClose i else d.encIdle i

/-- A dropped picture (R220): counted and raised. The entry that detail word 3 would show does not exist: a free value. -/
def Dev.encDropped (d : Dev) (i : Nat) : Dev :=
  let u := d.geUnitOf (d.encS i).engine
  ((d.inc (pgGeode u) 0x090).geEvent u 2 (fmk 0 64 i) d.freeWord).tickFree

/-- A faulted job aborted (R732): its picture is as a dropped one. -/
def Dev.encAbort (d : Dev) (i : Nat) : Dev := d.encEnd i 1

/-- ENC_STREAM_CLOSE. -/
def encStreamCloseSpec : OpSpec where
  opcode := 0x0301
  args := [(0, 2)]
  checks := fun c s => [badArg 0 (decide (2048 ≤ c.arg 0 2)), encDenied c s, encAllowed c s [.opened, .running, .suspended]]
  run := devRun fun c _ _ d =>
    let n := (((d.encS (c.arg 0 2)).jobs.filter (fun j => !j.started && j.fault.isNone)).length)
    let d := d.encClose (c.arg 0 2)
    if (d.encS (c.arg 0 2)).state = .idle then d.okNow n else (d, .later (c.arg 0 2) 0)

/-- The row ENC_STREAM_CLOSE. -/
def execEncStreamClose (c : HostCmd) (s : State) : Host.Outcome State Fault Refusal := .next (runCmd encStreamCloseSpec c s)

/-- The fields of an open descriptor that ENC_STREAM_UPDATE does not take, by their first byte, and whether a new one, with its bytes, has the
same; reserved bytes are 0 in an open one (R216). -/
def EncDesc.same (a b : EncDesc) (l : List Byte) : List (Nat × Bool) :=
  [(0, a.source == b.source), (1, a.output == b.output), (2, a.layout == b.layout), (4, a.codec == b.codec), (5, a.profile == b.profile),
   (6, a.level == b.level), (7, a.format == b.format), (8, a.width == b.width), (10, a.height == b.height), (12, a.rateNum == b.rateNum),
   (16, a.rateDen == b.rateDen), (20, a.structure_ == b.structure_), (21, a.enc == b.enc), (52, a.search == b.search), (53, a.refs == b.refs),
   (54, a.srH == b.srH), (56, a.srV == b.srV), (59, a.engine == b.engine), (61, a.flags == b.flags), (62, leAt l 62 2 == 0), (64, a.refBase == b.refBase),
   (72, a.refSize == b.refSize), (80, a.statusBase == b.statusBase), (88, a.bsBase == b.bsBase), (96, a.bsSize == b.bsSize),
   (100, leAt l 100 4 == 0), (104, a.consumer == b.consumer), (112, leAt l 112 8 == 0 && leAt l 120 8 == 0)]

/-- ENC_STREAM_UPDATE (R216). -/
def encStreamUpdateSpec : OpSpec where
  opcode := 0x0302
  args := [(0, 2), (8, 8)]
  capture := fun c d => capturePinned d c.realm (c.arg 8 8) 128
  checks := fun c s => [badArg 0 (decide (2048 ≤ c.arg 0 2)), badArg 8 (c.arg 8 8 % 64 != 0), encDenied c s, encAllowed c s [.opened, .running, .suspended]]
  dchecks := fun c l s =>
    let x := (s.dev.encS (c.arg 0 2)).desc
    let e := encParse l (if leAt l 0 1 = 0 then some (x.rateNum, x.rateDen) else none)
    (x.same e l).map (fun p => badDesc p.1 (!p.2)) ++
    [badDesc 6 e.levelWritten.isNone, badDesc 22 (decide (3 ≤ e.rcMode)), badDesc 23 (decide (e.cqQp < e.qpMin ∨ e.qpMax < e.cqQp) && decide (e.qpMin ≤ e.qpMax)),
     badDesc 24 (decide (e.qpMax < e.qpMin)), badDesc 26 (decide (e.vbvMs < 50 ∨ 2000 < e.vbvMs)),
     badDesc 58 (decide (e.refreshN < 8 ∨ 120 < e.refreshN)), badDesc 60 (decide (16 ≤ e.priority))]
  run := devRun fun c l _ d =>
    let e := encParse l none
    let d := d.onEncS (c.arg 0 2) (fun x =>
      let n : EncDesc := { x.desc with
        rcMode := e.rcMode, cqQp := e.cqQp, qpMin := e.qpMin, qpMax := e.qpMax, vbvMs := e.vbvMs, minK := e.minK, maxK := e.maxK,
        refreshN := e.refreshN, priority := e.priority }
      { x with desc := n, level := n.levelWritten.getD x.level })
    d.okNow 0

/-- The row ENC_STREAM_UPDATE. -/
def execEncStreamUpdate (c : HostCmd) (s : State) : Host.Outcome State Fault Refusal := .next (runCmd encStreamUpdateSpec c s)

/-- A refresh cycle starts at the next picture (R248); `key` when a new receiver starts it (R252). -/
def Dev.encTrigger (d : Dev) (i : Nat) (key : Bool) : Dev :=
  if (d.encS i).state = .idle then d else d.onEncS i (fun x => { x with trigger := true, key := x.key || key })

/-- The number of the cycle that a trigger starts: those of queued pictures come before it (R249). -/
def EncStream.nextCycle (x : EncStream) : Nat := x.cycle + (x.jobs.filter (fun j => j.refresh && !j.coded)).length + 1

/-- A refresh cycle runs or is about to start. -/
def EncStream.refreshing (x : EncStream) : Bool := x.sweeping || x.trigger || x.jobs.any (fun j => j.refresh && !j.coded)

/-- ENC_REFRESH (R248). -/
def encRefreshSpec : OpSpec where
  opcode := 0x0303
  args := [(0, 2)]
  checks := fun c s => [badArg 0 (decide (2048 ≤ c.arg 0 2)), encDenied c s, encAllowed c s [.running]]
  run := devRun fun c _ _ d => (d.encTrigger (c.arg 0 2) false).okNow ((d.encS (c.arg 0 2)).nextCycle % 65536)

/-- The row ENC_REFRESH. -/
def execEncRefresh (c : HostCmd) (s : State) : Host.Outcome State Fault Refusal := .next (runCmd encRefreshSpec c s)

/-- ENC_QUERY. -/
def encQuerySpec : OpSpec where
  opcode := 0x0304
  args := [(0, 2)]
  checks := fun c s => [badArg 0 (decide (2048 ≤ c.arg 0 2)), encDenied c s]
  run := devRun fun c _ _ d => (d, .done .ok (d.encS (c.arg 0 2)).state.code (fmk 0 64 (d.encS (c.arg 0 2)).lastBits))

/-- The row ENC_QUERY. -/
def execEncQuery (c : HostCmd) (s : State) : Host.Outcome State Fault Refusal := .next (runCmd encQuerySpec c s)

/-! ### Queueing -/

/-- The temporal layer of a stream's next picture (R236). -/
def EncStream.nextTid (x : EncStream) : Nat := if x.desc.structure_ = 0 then 0 else nthD 0 [0, 2, 1, 2] (x.count % 4)

/-- The spatial layers of a layout's stream that policy has not suspended (R191, R239). -/
def Dev.encLayers (d : Dev) (x : EncStream) : Nat :=
  let off (k : Nat) : Bool := d.legs.suspended.contains (x.desc.layout, x.desc.output, k)
  if x.desc.source = 1 then 1
  else if x.desc.structure_ = 2 then ((List.range 3).find? off).getD 3
  else if off x.desc.enc then 0 else 1

/-- A job joins a stream's queue. -/
def Dev.encPush (d : Dev) (i : Nat) (j : EncJob) : Dev :=
  let d := { d with geode := { d.geode with arrivals := d.geode.arrivals + 1 } }
  (d.onEncS i (fun x => { x with jobs := x.jobs ++ [{ j with arrival := d.geode.arrivals }], count := x.count + 1 })).jobItem 0x0001 none

/-- The oldest job that has not started is dropped (R220); a refresh cycle that its picture would start begins with the next one. -/
def Dev.dropOldest (d : Dev) (i : Nat) : Dev :=
  match takeFirst (fun j => !j.started) (d.encS i).jobs with
  | none => d
  | some r =>
    (d.onEncS i (fun y => { y with
      jobs := r.2
      trigger := y.trigger || r.1.refresh
      key := y.key || r.1.key })).encDropped i

/-- A stream of a layout's output at a picture tick (R212, R217, R220): its pattern advances (R238); the first tick makes it RUNNING, later
ones follow its layers; and one job is queued, with ENC_BEHIND at two waiting and a drop of the oldest waiting one at nine. `slot` is none
where the output was not composed (R350). -/
def Dev.encTick (d : Dev) (i : Nat) (time : Word) (rtp : Nat) (slot : Option Nat) (phase : Nat) : Dev :=
  let x := d.encS i
  let n := d.encLayers x
  let state : EncState := if x.state = .opened then .running else if n = 0 then .suspended else .running
  let count := if x.state = .opened then phase else x.count
  if x.state = .idle ∨ x.state = .closing then d
  else if n = 0 then d.setEncS i { x with state := state, count := count + 1 }
  else
    let d := d.setEncS i { x with state := state, count := count }
    match slot with
    | none => (d.onEncS i (fun y => { y with count := y.count + 1 })).encDropped i
    | some a =>
      let waits := (x.jobs.filter (fun j => !j.started)).length
      let d := if 8 ≤ waits then d.dropOldest i else d
      let y := d.encS i
      let d := d.encPush i { arrival := 0, time := time, rtp := rtp, tid := y.nextTid, place := y.count % 4, desc := y.desc, refresh := y.trigger, key := y.trigger && y.key, last := false,
                             user := 0, srcY := 0, srcC := 0, pitch := 0, format := 0, slot := some a, rates := y.targets, layers := n }
      let d := d.onEncS i (fun y => { y with trigger := false, key := false })
      if 1 ≤ waits then
        let u := d.geUnitOf x.engine
        (d.geEvent u 1 (fmk 0 64 i) d.freeWord).tickFree
      else d

/-- Mica has written a picture: the jobs that read its slot find its renditions there (R217, R347). -/
def Dev.encRends (d : Dev) (l o va : Nat) (rends : List ((Nat × Nat) × Nat × List Nat)) : Dev :=
  { d with geode := { d.geode with enc := tabMapD {} d.geode.enc (fun _ (x : EncStream) =>
      if x.desc.source = 0 ∧ x.desc.layout = l ∧ x.desc.output = o then
        { x with jobs := x.jobs.map (fun j => if j.slot = some va ∧ j.coded = false then { j with rends := rends } else j) }
      else x) } }

/-- The job descriptors of ENC_SUBMIT (Table 5-8). -/
def encJobChecks (c : HostCmd) (l : List Byte) : List Chk :=
  (List.range (c.arg 2 1)).flatMap (fun k =>
    let b := (l.drop (64 * k)).take 64
    [badDesc (64 * k) (leAt b 0 2 != c.arg 0 2), badDesc (64 * k + 2) (decide (4 ≤ leAt b 2 1)), badDesc (64 * k + 3) (decide (2 ≤ leAt b 3 1)),
     badDesc (64 * k + 4) (leAt b 3 1 == 1 && leAt b 4 4 % 64 != 0), badDesc (64 * k + 16) (leAt b 3 1 == 0 && leAt b 16 8 != 0),
     badDesc (64 * k + 36) ((b.drop 36).any (· != 0))])

/-- ENC_SUBMIT (R221). -/
def encSubmitSpec : OpSpec where
  opcode := 0x0310
  args := [(0, 2), (2, 1), (8, 8)]
  capture := fun c d => captureVa d c.realm (c.arg 8 8) (64 * c.arg 2 1)
  checks := fun c s => [badArg 0 (decide (2048 ≤ c.arg 0 2)), badArg 2 (decide (c.arg 2 1 < 1 ∨ 64 < c.arg 2 1)), encDenied c s, encAllowed c s [.opened, .running],
    conflict (s.dev.encS (c.arg 0 2)).state.code ((s.dev.encS (c.arg 0 2)).desc.source == 0), noRes (decide (64 < (s.dev.encS (c.arg 0 2)).jobs.length + c.arg 2 1))]
  dchecks := fun c l _ => encJobChecks c l
  run := devRun fun c l _ d =>
    let i := c.arg 0 2
    let d := (List.range (c.arg 2 1)).foldl (fun (d : Dev) k =>
      let b := (l.drop (64 * k)).take 64
      let x := d.encS i
      let time : Word := fmk 0 64 (leAt b 24 8)
      d.encPush i { arrival := 0, time := time, rtp := nearShort d.now time * 90000 / secT % 4294967296, tid := x.nextTid, place := x.count % 4, desc := x.desc, refresh := leAt b 2 1 % 2 == 1,
                    last := leAt b 2 1 / 2 % 2 == 1, user := leAt b 32 4, srcY := leAt b 8 8, srcC := leAt b 16 8, pitch := leAt b 4 4, format := leAt b 3 1,
                    rates := x.desc.maxK.map (· * 1000), layers := 1 }) d
    d.okNow (d.encS i).jobs.length

/-- The row ENC_SUBMIT. -/
def execEncSubmit (c : HostCmd) (s : State) : Host.Outcome State Fault Refusal := .next (runCmd encSubmitSpec c s)

/-! ### Coding a picture: rate control and refresh (R240 to R254) -/

/-- What one layer's coding gives. -/
structure LayerOut where
  rc : RcLayer
  bits : Nat
  floorRow : Option Nat
  qp : Nat
  statics : Nat
  intras : Nat
  deriving DecidableEq, Repr

/-- The budget of a picture of a layer before `over` (R240). `rate` is the target, `cxRatio` cx and its average. -/
def rcBudget (e : EncDesc) (rate f : Int) (tid : Nat) (cx avg : Int) : Int × Int :=
  let nominal := (rate * e.rateDen).tdiv e.rateNum
  let vbv := (rate * e.vbvMs).tdiv 1000
  let base :=
    if e.rcMode = 0 then clampI (nominal.tdiv 2) (2 * nominal) (nominal + (vbv.tdiv 2 - f).tdiv 8)
    else if e.rcMode = 1 then
      min (clampI (nominal.tdiv 4) (4 * nominal) (if avg = 0 then nominal else (nominal * cx).tdiv avg)) (vbv - f + nominal)
    else min (4 * nominal) (vbv - f + nominal)
  (nominal, if e.structure_ = 0 then base else (base * nthD 16 [16, 8, 6] tid * 4).tdiv 36)

/-- Table 5-10: the steps from the bits of the last such picture and the new budget. -/
def qpAdjust (b budget : Int) : Int :=
  if 2 * budget ≤ b then 4 else if 3 * budget ≤ 2 * b then 2 else if 115 * budget ≤ 100 * b then 1 else if 2 * b ≤ budget then -4
  else if 3 * b ≤ 2 * budget then -2 else if 100 * b ≤ 87 * budget then -1 else 0

/-- QP after a row (R243). -/
def qpRow (b tgt : Int) : Int :=
  if 2 * tgt < b then 2 else if 10 * tgt < 8 * b then 1 else if 2 * b < tgt then -2 else if 10 * b < 8 * tgt then -1 else 0

/-- QP within its bounds (R243). -/
def EncDesc.clampQp (e : EncDesc) (q : Int) : Int :=
  let q := clampI e.qpMin e.qpMax q
  if e.rcMode = 2 then max q e.cqQp else q

/-- Bits of intra CTUs coded at QP_MAX and their number, as their running mean (R244, R852). -/
def ibMean (ctu : Nat) (ib : Nat × Nat) : Nat := if ib.2 = 0 then 320 * ctu * ctu / 4096 else (roundDiv (ib.1 : Int) ib.2).toNat

/-- Rate control within a picture: bits used, QP, floor row, the mean of R244, and what the rows so far measured. -/
structure RowAcc where
  used : Int := 0
  qp : Int := 0
  floor : Option Nat := none
  ib : Nat × Nat := (0, 0)
  rowBits : List Nat := []
  statics : Nat := 0
  intras : Nat := 0
  cx : Nat := 0
  qpSum : Int := 0
  deriving DecidableEq, Repr

/-- One layer of a picture coded (R240 to R247). `cols` are its refresh columns, `extra` the carried CTUs it codes again; `row` codes a row at
a QP, in floor mode or not. -/
def codeLayer {σ : Type} (e : EncDesc) (size : Nat × Nat) (rc : RcLayer) (rate tid : Nat) (cols : List Nat) (extra : List (Nat × Nat)) (ib : Nat × Nat)
    (row : σ → Nat → Int → Bool → σ × RowOut) (start : σ) : LayerOut × σ × (Nat × Nat) :=
  let w := e.ctuCols size
  let rows := e.ctuRows size
  let hist := tabGetD none rc.hist tid
  let cxs := (hist.map RcHist.cx).getD []
  let avg : Int := if cxs.isEmpty then 0 else ((sumN cxs / cxs.length : Nat) : Int)
  let nb := rcBudget e rate rc.f tid (cxs.getLast?.getD 0 : Nat) avg
  let budget := nb.2 - rc.carry
  let rOf (m : Nat) : Nat := cols.length + (extra.filter (fun c => c.2 == m && !cols.contains c.1)).length
  let pb (m : Nat) : Nat := match hist with | some h => nthD 1 h.rowBits m | none => 1
  let wt (m : Nat) : Nat := max 1 (pb m) * (w + 3 * rOf m) / max 1 w
  let rest (j : Nat) : List Nat := (List.range rows).filter (fun m => decide (j ≤ m))
  let reserve (mean j : Nat) : Nat := 4 * sumN ((rest j).map (fun m => w - rOf m)) + mean * sumN ((rest j).map rOf)
  let q0 : Int := match hist with
    | some h => e.clampQp (h.qp + qpAdjust h.bits budget * e.step)
    | none => if e.rcMode = 2 then e.clampQp e.cqQp else e.clampQp (((e.qpMin + e.qpMax) / 2 : Nat) : Int)
  let r := (List.range rows).foldl (fun (a : RowAcc × σ) j =>
    let fl := match a.1.floor with
      | some f => some f
      | none => if budget ≤ a.1.used + (reserve (ibMean e.ctu a.1.ib) j : Nat) then some j else none
    let o := row a.2 j a.1.qp fl.isSome
    let tgt := ((budget - a.1.used) * wt j).tdiv (max 1 (sumN ((rest j).map wt)) : Nat)
    ({ used := a.1.used + o.2.bits
       qp := if fl.isSome then a.1.qp else e.clampQp (a.1.qp + qpRow o.2.bits tgt * e.step)
       floor := fl
       ib := (a.1.ib.1 + sumN o.2.maxIntra, a.1.ib.2 + o.2.maxIntra.length)
       rowBits := a.1.rowBits ++ [o.2.bits]
       statics := a.1.statics + o.2.statics, intras := a.1.intras + o.2.intras, cx := a.1.cx + o.2.cx, qpSum := a.1.qpSum + o.2.qpSum }, o.1))
    ({ qp := q0, ib := ib }, start)
  let bits := r.1.used.toNat
  let qp := (roundDiv r.1.qpSum (w * rows)).toNat
  let carried := match r.1.floor with
    | some f => (List.range rows).flatMap (fun m => if f ≤ m then cols.map (fun c => (c, m)) ++ extra.filter (fun c => c.2 == m && !cols.contains c.1) else [])
    | none => []
  ({ rc := { rc with
      f := max 0 (rc.f + bits - nb.1)
      carry := max 0 ((bits : Int) - budget)
      hist := tabPutD none rc.hist tid (some ⟨bits, qp, r.1.rowBits, (cxs ++ [r.1.cx]).drop (cxs.length - 15)⟩)
      carried := carried }
     bits := bits, floorRow := r.1.floor, qp := qp, statics := r.1.statics, intras := r.1.intras }, r.2, r.1.ib)

/-! ### Refresh cycles (R248 to R254) -/

/-- The columns that picture `i` of a cycle refreshes of `w` (R250); from its last picture on also those that a change of REFRESH_N left out. -/
def refreshCols (w n i : Nat) (covered : List Nat) : List Nat :=
  (List.range w).filter (fun c => (decide (i * w / n ≤ c) && decide (c < (i + 1) * w / n)) || (decide (n ≤ i + 1) && !covered.contains c))

/-- The columns from the left that a list holds without a gap. -/
def leading (w : Nat) (l : List Nat) : Nat := ((List.range w).find? (fun c => !l.contains c)).getD w

/-- recovery_frame_cnt of a cycle that starts on a picture at a place of the pattern (R251): the pictures from it to the cycle's last. -/
def recoveryCount (structure_ n count : Nat) : Nat := if structure_ = 0 then n - 1 else (4 - count % 4) % 4 + 4 * (n - 1)

/-! ### The source of a job -/

/-- The samples of a linear picture: a luma plane and an interleaved chroma plane (Table 5-8); 10-bit samples lie as R349 has them. -/
def Dev.linearAt (d : Dev) (realm va pitch depth x y : Nat) : Nat :=
  if depth = 8 then leNat (d.peekVa realm (va + y * pitch + x) 1) else leNat (d.peekVa realm (va + y * pitch + 2 * x) 2) / 64

/-- The source picture of a layer of a job (R217, R237): Mica's rendition of the layer's size in the slot, or the submitted picture. -/
def Dev.encPicture (d : Dev) (x : EncStream) (j : EncJob) (e : EncDesc) (size : Nat × Nat) : Samples :=
  let sh : ShShape := ⟨size.1, size.2, e.format % 4⟩
  match j.slot with
  | some va =>
    let o := (d.layout e.layout).out e.output
    match j.rends.find? (fun r => decide (r.1 = size)) with
    | some r =>
      let os := o.shape size
      edgeSamples sh (fun chroma px py =>
        let row := if chroma then py * os.chromaH / max 1 sh.chromaH else py
        toDepth os.depth sh.depth (d.surfaceAt 0 (va + r.2.1) os chroma px row) % 2 ^ sh.depth)
    | none => fun _ _ _ => 0
  | none =>
    edgeSamples sh (fun chroma px py =>
      if j.format = 0 then d.surfaceAt x.realm j.srcY sh chroma px py
      else d.linearAt x.realm (if chroma then j.srcC else j.srcY) j.pitch sh.depth px py)

/-- An entry of the hint map of a layer's rendition (Table 7-10) at a CTU. -/
def hintAt (j : EncJob) (e : EncDesc) (size : Nat × Nat) (c row : Nat) : Nat :=
  match j.rends.find? (fun r => decide (r.1 = size)) with
  | some r => nthD 0 r.2.2 (row * e.ctu / 64 * ((size.1 + 63) / 64) + c * e.ctu / 64)
  | none => 0

/-! ### Coding a picture -/

/-- The picture of one layer as its coder is given it. `lower` is the layer below as it was coded, with its clean columns. -/
def Dev.picEnc (d : Dev) (x : EncStream) (j : EncJob) (e : EncDesc) (k : Nat) (size : Nat × Nat) (rc : RcLayer) (cols : List Nat) (extra : List (Nat × Nat))
    (clean : Option Nat) (key : Bool) (lower : Option ((Nat × Nat) × List (List Nat) × Option Nat)) : PicEnc :=
  let sh : ShShape := ⟨size.1, size.2, e.format % 4⟩
  let refs := if key then [] else (rc.refsOf e j.tid).map (fun p =>
    let f := ctuSamples sh e.ctu p.ctus
    (⟨p, f, (planeOf sh f false, planeOf sh f true), if x.sweeping then some (if p.cycle = x.cycle then p.clean else 0) else none, p.num + 1 == rc.coded⟩ : RefPic))
  let below := lower.map (fun b =>
    let bs : ShShape := ⟨b.1.1, b.1.2, e.format % 4⟩
    let f := ctuSamples bs e.ctu b.2.1
    let luma := planeOf bs f false
    let chroma := planeOf bs f true
    (edgeSamples sh (fun ch px py => Config.predict ⟨e.codec, ch, 8, 0, 0, b.1.1, if ch then chroma else luma⟩ px py % 2 ^ sh.depth),
     b.2.2.map (fun n => if n = e.ctuCols b.1 then size.1 else 2 * n * e.ctu)))
  { e := e, tools := e.tools (d.geTwinned x.engine), shape := sh, src := d.encPicture x j e size, refs := refs
    colo := match rc.pics.find? (fun p => p.num + 1 == rc.coded) with | some p => p.vecs | none => []
    below := below
    isStatic := fun c row => (decide (k = 0) || lower.isSome) && e.flags / 2 % 2 == 1 && decide (2 ^ 31 ≤ hintAt j e size c row)
    hint := fun c row =>
      let h := hintAt j e size c row
      if h / 2 ^ 30 % 2 = 1 then some (2 * signed 15 h, 2 * signed 15 (h / 2 ^ 15)) else none
    cols := cols, extra := extra, clean := clean, key := key }

/-- What the coding of a picture has gathered over its layers, lowest first. -/
structure PicAcc where
  outs : List LayerOut := []
  bytes : List (List Byte) := []
  ib : Nat × Nat := (0, 0)
  keyed : Bool := false
  /-- The layer below, as coded. -/
  lower : Option ((Nat × Nat) × List (List Nat) × Option Nat) := none

/-- One spatial layer of a picture coded: its refresh columns and carried CTUs (R250, R253), its rows, and the picture kept as a reference. -/
def Dev.codeOne (d : Dev) (x : EncStream) (j : EncJob) (e : EncDesc) (sweep key : Bool) (recovery : Option Nat) (a : PicAcc) (k : Nat) : PicAcc :=
  let size := nthD (e.width, e.height) e.sizes k
  let w := e.ctuCols size
  let rc := nthD {} x.layers k
  let cols := if sweep then refreshCols w e.refreshN x.pos rc.covered else []
  let extra := if sweep then rc.carried else []
  let covered := (rc.covered ++ cols).eraseDups
  let clean := if x.sweeping then some (leading w covered) else none
  let p := d.picEnc x j e k size rc cols extra clean key a.lower
  let rate := nthD 0 j.rates (if e.sizes.length = 1 then (if e.source = 1 then 0 else e.enc % 3) else k)
  let r := codeLayer e size rc rate j.tid cols extra a.ib (fun (s : CtuAcc) row qp floor => p.codeRow s row qp floor) {}
  let ctus := p.filtered r.2.1.recon
  let first := p.refs.isEmpty
  let rc' := { (r.1.rc.keep ⟨rc.coded, j.tid, x.cycle, clean.getD 0, r.2.1.vecs, ctus⟩ (key || first)) with
    carried := if sweep then r.1.rc.carried else rc.carried
    covered := covered }
  { outs := a.outs ++ [{ r.1 with rc := rc' }]
    bytes := a.bytes ++ [Config.codedBytes ⟨p.tools, x.level, size.1, size.2, k, j.tid, key || first, recovery, r.2.1.uses⟩]
    ib := r.2.2
    keyed := a.keyed || (first && a.lower.isNone)
    lower := some (size, ctus, clean) }

/-- A refresh cycle starts (R249): at column 0, under a new number. Columns that floor mode coded stay carried (R253). -/
def EncStream.startCycle (x : EncStream) : EncStream :=
  { x with
    cycle := x.cycle + 1
    pos := 0
    sweeping := true
    layers := x.layers.map (fun r => { r with covered := [] }) }

/-- The oldest job of a stream coded: rate control, refresh columns and cycle, and the results its status entry reports. `direct` is the
DIRECT flag, which the spec does not define. -/
def Dev.codeJob (d : Dev) (x : EncStream) (j : EncJob) (direct : Bool) : EncStream × EncJob :=
  let e := x.jobDesc j
  -- a layout's job was given its trigger when it was queued; a submitted one takes it now
  let mine := j.slot.isNone && x.trigger
  let start := j.refresh || mine
  let key := start && (j.key || (mine && x.key)) && (e.codec == 0x12 || e.codec == 0x13)
  let x := if mine then { x with trigger := false, key := false } else x
  let x := if start then x.startCycle else x
  -- R252: the key picture refreshes the first columns whatever its temporal layer
  let sweep := x.sweeping && (j.tid == 0 || key)
  let recovery := if start ∧ (e.codec = 0x10 ∨ e.codec = 0x11) then some (recoveryCount e.structure_ e.refreshN j.place) else none
  let a := (List.range j.layers).foldl (fun a k => d.codeOne x j e sweep key recovery a k) { ib := (x.ibSum, x.ibCount) }
  let extended := sweep && (List.range j.layers).any (fun k => !(nthD {} x.layers k).carried.isEmpty)
  let layers := (List.range 3).map (fun k => match a.outs[k]? with | some o => o.rc | none => { nthD {} x.layers k with carried := [], covered := [] })
  let done := sweep && (List.range j.layers).all (fun k =>
    let r := nthD {} layers k
    r.carried.isEmpty && decide (leading (e.ctuCols (nthD (0, 0) e.sizes k)) r.covered = e.ctuCols (nthD (0, 0) e.sizes k)))
  let floor := a.outs.any (fun o => o.floorRow.isSome)
  let top := a.outs.getLast?
  let tl0 := if j.tid = 0 ∨ key then x.tl0 + 1 else x.tl0
  ({ x with
      layers := layers
      ibSum := a.ib.1
      ibCount := a.ib.2
      tl0 := tl0
      pos := if sweep then x.pos + 1 else x.pos
      sweeping := x.sweeping && !done },
   { j with
      coded := true, started := true, desc := e, bits := a.outs.map LayerOut.bits, bytes := a.bytes
      tl0 := tl0 % 256
      refTid := ((nthD {} x.layers 0).refsOf e j.tid).head?.map (fun p => if key then 0 else p.tid)
      exhausted := (top.bind LayerOut.floorRow).getD 0xFFFF
      qpAvg := (top.map LayerOut.qp).getD 0
      staticC := (top.map LayerOut.statics).getD 0
      intraC := (top.map LayerOut.intras).getD 0
      cycle := x.cycle % 65536
      flags := (if start then 1 else 0) + (if done then 2 else 0) + (if extended then 4 else 0) + (if floor then 8 else 0) + (if key || a.keyed then 16 else 0) + (if direct then 32 else 0) })

/-! ### Starting and finishing jobs -/

/-- Bytes of a coded record of `n` payload bytes (R225). -/
def recordBytes (n : Nat) : Nat := 16 + (n + 15) / 16 * 16

/-- Where a record goes, and whether the ring has room for it by the consumer's offset (R226, log entry 19). -/
def EncStream.placeRecord (x : EncStream) (need consumer : Nat) : Nat × Bool :=
  let size := x.desc.ringBytes
  let used := (x.bsOff + size - consumer % size) % size
  if x.bsOff + need ≤ size then (x.bsOff, decide (used + need < size)) else (0, decide (used + (size - x.bsOff) + need < size))

/-- The bytes of a coded picture's record (R225). -/
def EncJob.payload (j : EncJob) : List Byte := j.bytes.flatten

/-- A stream may start its next job by its status slots and bitstream space (R219, R223, R226): the space its coded picture takes. -/
def Dev.encSpace (d : Dev) (i : Nat) : Bool :=
  let x := d.encS i
  match x.jobs.head? with
  | none => true
  | some j =>
    x.desc.toPacket || j.coded ||
    (!d.statusFull x.realm x.ring x.desc.consumer &&
      (x.placeRecord (recordBytes ((d.codeJob x j false).2.payload.length)) (d.consumer x.realm (x.desc.consumer + 4))).2)

/-- The first failure of reading the tile rows of a surface that a CTU row covers: their headers, then their payloads (R222). -/
def Dev.tileRowCheck (d : Dev) (realm va : Nat) (sh : ShShape) (first : Nat) : Option XErr :=
  let h := d.peekVa realm va 24
  match d.readCheck realm (va + leAt h 8 8 + 16 * first) (16 * sh.tw) with
  | some e => some e
  | none => d.readCheck realm (va + leAt h 16 8 + 32 * sh.depth * first) (32 * sh.depth * sh.tw)

/-- Tiles of a submitted surface that the engine cannot read: mid-grey, and logged under its own source (R318). -/
def Dev.encTiles (d : Dev) (u : Nat) (x : EncStream) (j : EncJob) : Dev :=
  if j.slot.isSome ∨ j.format ≠ 0 then d
  else (badTiles (d.surface x.realm j.srcY) ⟨x.desc.width, x.desc.height, x.desc.format % 4⟩).foldl (fun (d : Dev) t =>
    d.report ⟨0x040 + u, 0x0409, d.stamp, fmk 0 64 j.srcY, fmk 0 64 t⟩) d

/-- The first failure of reading a submitted job's source, with the CTU row it stops (R222). -/
def Dev.encSource (d : Dev) (x : EncStream) (j : EncJob) : Option (XErr × Nat) :=
  let ctu := x.desc.ctu
  let sh : ShShape := ⟨x.desc.width, x.desc.height, x.desc.format % 4⟩
  if j.slot.isSome then none
  else if j.format = 0 then
    match d.readCheck x.realm j.srcY 64 with
    | some e => some (e, 0)
    | none => (List.range (x.desc.ctuRows (sh.w, sh.h))).findSome? (fun row =>
        let lumaRows := (List.range sh.th).filter (fun k => k * 8 / ctu == row)
        let chromaRows := (List.range sh.thc).filter (fun k => k * 8 / max 1 (chromaRows sh ctu) == row)
        ((lumaRows.map (fun k => k * sh.tw) ++ chromaRows.map (fun k => (sh.th + k) * sh.tw)).findSome? (fun first => d.tileRowCheck x.realm j.srcY sh first)).map (fun e => (e, row)))
  else
    let bytes := x.desc.width * (if x.desc.format / 2 % 2 = 1 then 2 else 1)
    (List.range x.desc.height).findSome? (fun y =>
      let row := y / ctu
      let cy := if x.desc.format % 2 = 1 then y else y / 2
      match d.readCheck x.realm (j.srcY + y * j.pitch) bytes with
      | some e => some (e, row)
      | none => (d.readCheck x.realm (j.srcC + cy * j.pitch) bytes).map (fun e => (e, row)))

/-- ENC_JOB_START: the oldest job of a stream starts or resumes; a translation failure halts it with a fault (R219, R222, R728, R734). -/
def Dev.encStart (d : Dev) (i : Nat) : Dev :=
  let x := d.encS i
  match x.jobs.head? with
  | none => d
  | some j =>
    if !d.geMayStart x.engine false i (fun c => c.dec || d.encSpace c.stream) then d
    else
      let u := d.geUnitOf x.engine
      match d.encSource x j with
      | some (e, row) =>
        let full := decide (64 ≤ d.geSaved x.engine) && j.saved.isNone
        let r := d.recordFault x.realm e false 1 (0x040 + u) (.enc i) full
        let d := r.1.geEvent u 3 (fmk 0 64 i) (entryMid (encEntry i x j 1))
        if full then d.encAbort i
        else d.onEncS i (fun y => { y with
          state := if y.state = .opened then .running else y.state
          jobs := match y.jobs with | h :: t => { h with fault := some r.2, saved := some (0, row), started := true } :: t | [] => [] })
      | none =>
        let cr := if j.coded then (x, j) else d.codeJob x j (d.freeWord.getLsbD 0)
        let d := if j.coded then d else d.tickFree.encTiles u x j
        let k := { cr.2 with started := true, saved := none }
        let y := { cr.1 with
          state := if x.state = .opened then .running else x.state
          jobs := k :: x.jobs.drop 1 }
        let at_ := j.saved.getD (0, 0)
        let d := (d.setEncS i y).setGeRun x.engine (some ⟨false, i, at_.1, at_.2⟩)
        let d := d.geTrace x.engine 0x0201 i false at_.2 0 j.time
        if !j.coded && k.flags / 8 % 2 == 1 then (d.inc (pgGeode u) 0x070).geEvent u 0 (fmk 0 64 i) (entryMid (encEntry i y k 0)) else d

/-- The row ENC_JOB_START. -/
def execEncJobStart (stream : Nat) (s : State) : Host.Outcome State Fault Refusal :=
  .next (s.actReady (fun d => d.encStart stream))

/-- The packets of a coded picture offered to the instances of its output (R224): numbered on the stream, marked at the last. A refresh
cycle's first picture is one that decoding can start with; a picture that references temporal layer 0 is a temporal up-switch point (R236;
H.264 marks only that layer). -/
def Dev.encPackets (d : Dev) (i : Nat) (x : EncStream) (j : EncJob) : Dev :=
  let parts := (List.range j.layers).flatMap (fun k =>
    (Config.rtpPayloads ⟨x.desc.codec, 1200, k, j.tid, j.tl0, j.flags / 16 % 2 == 1, nthD [] j.bytes k⟩).map (fun b => (k, b)))
  let simul := decide (1 < (d.outStreams x.desc.layout x.desc.output).length)
  let start := j.flags % 2 == 1
  let up := j.tid == 0 || (x.desc.codec != 0x10 && j.refTid == some 0)
  let stamp := d.now
  (List.range parts.length).foldl (fun (d : Dev) n =>
    match parts[n]? with
    | none => d
    | some (k, b) =>
      let first := match parts[n - 1]? with | some q => n == 0 || q.1 != k | none => true
      let p : Pkt := { ssrc := 0, pt := 0, seq := (x.outSeq + n) % 65536, ts := j.rtp, marker := decide (n + 1 = parts.length), pad := false, csrc := [], ext := [],
                       payload := b, spatial := k, temporal := j.tid, lead := n == 0, join := first, first := first, indep := start, upS := start && first, upT := up,
                       stamp := stamp, pic := stamp }
      let d := d.onEncS i (fun y => { y with outSeq := (x.outSeq + n + 1) % 65536 })
      (d.contentAt (nearShort d.now j.time)).forwardOutput x.desc.layout x.desc.output simul (if simul then x.desc.enc else k) p) d

/-- A coded picture's record in the bitstream ring (R225, R226). -/
def Dev.encRecord (d : Dev) (i : Nat) (x : EncStream) (j : EncJob) (payload : List Byte) : Dev :=
  let need := recordBytes payload.length
  let at_ := (x.placeRecord need 0).1
  let e := encEntry i x j 0
  let hdr (n : Nat) : List Byte := leBytes 4 n ++ (e.drop 2).take 1 ++ [0] ++ (e.drop 19).take 1 ++ [0] ++ leBytes 8 j.time.toNat
  let d := if at_ = x.bsOff then d else d.writeVa x.realm (x.desc.bsBase + x.bsOff) (hdr 0xFFFFFFFF)
  let d := d.writeVa x.realm (x.desc.bsBase + at_) (hdr payload.length ++ payload ++ List.replicate (need - 16 - payload.length) 0)
  d.onEncS i (fun y => { y with bsOff := (at_ + need) % x.desc.ringBytes })

/-- ENC_JOB_DONE: the job in service finishes (R223 to R226, R254). -/
def Dev.encDone (d : Dev) (i : Nat) : Dev :=
  let x := d.encS i
  match x.jobs.head?, d.geRun x.engine with
  | some j, some r =>
    if r.dec || r.stream != i || (d.servers x.engine).any (fun p => decide ((d.page (pgGeode p)).state = .faulted)) then d
    else
      let u := d.geUnitOf x.engine
      let d := ((d.inc (pgGeode u) 0x060).bump (pgGeode u) 0x068 (sumN j.bits)).bump (pgGeode u) 0x078 j.staticC
      let d := if j.flags / 2 % 2 = 1 then d.inc (pgGeode u) 0x088 else d
      let rates := (d.legs.outRates.filter (fun e => decide (d.now ≤ e.2.t + 2000 * msT))) ++
        (List.range j.layers).map (fun k => ((x.desc.layout, x.desc.output), ⟨d.now, if x.desc.structure_ = 2 then k else x.desc.enc, j.tid, nthD 0 j.bits k⟩))
      let d := if x.desc.source = 1 then d else { d with legs := { d.legs with outRates := rates } }
      let d := d.onEncS i (fun y => { y with
        lastBits := j.bits.getLast?.getD 0
        doneReport := y.doneReport || j.flags / 2 % 2 == 1 })
      let d := if x.desc.toPacket then d.encPackets i x j else d.encRecord i x j j.payload
      d.encEnd i 0
  | _, _ => d

/-- The row ENC_JOB_DONE. -/
def execEncJobDone (stream : Nat) (s : State) : Host.Outcome State Fault Refusal :=
  .next (s.actReady (fun d => d.encDone stream))

/-- GEODE encode registers read at the time of the read (Tables 5-12, 5-13, 6-9). The layer and row that a job in service has reached are free
values (log entry 93). -/
def Dev.geodeRead (d : Dev) (p off : Nat) : Option Word :=
  let l := d.geLogical p
  let u := d.geUnit p
  let run := l.bind d.geRun
  let bound (f : Nat → Nat) : Nat := match l with | some l => f l | none => 0
  match off with
  | 0x048 => some (fmk 0 5 (l.getD 0) ||| fmkB 5 l.isSome ||| fmkB 6 u.twinned ||| fmk 7 6 (if u.twinned then geTwinOf p else 0))
  | 0x050 => some (fmk 0 12 (bound (fun l => (d.geode.enc.filter (fun e => decide (e.2.state ≠ .idle) && e.2.engine == l)).length)) |||
      fmk 16 32 (bound (fun l => ((d.geLoad l) / 1000).floor.toNat)))
  | 0x058 => some (match run with
      | some r => if r.dec then 0 else
          let e := (d.encS r.stream).desc
          let v := d.freeWord
          fmk 0 11 r.stream ||| fmk 11 2 (fld v 0 32 % e.sizes.length) ||| fmk 16 16 (fld v 32 32 % max 1 (e.ctuRows (e.width, e.height))) ||| fmkB 32 true
      | none => 0)
  | 0x100 => some (match run with
      | some r => if r.dec then fmk 0 12 r.stream ||| fmk 12 2 (fld d.freeWord 0 32 % ((d.decS r.stream).desc.maxS + 1)) ||| fmk 16 16 (fld d.freeWord 32 32) ||| fmkB 32 true else 0
      | none => 0)
  | 0x108 => some (fmk 0 13 (bound (fun l => (d.geode.dec.filter (fun e => decide (e.2.state ≠ .idle) && e.2.engine == l)).length)))
  | _ => none

end Sys2Proof.Machine
end

