-- ==== Sys2Proof/Machine/GeodeDec.lean ====
section
/-! DEFINITION. Geode decoding (R259 to R294): streams, jobs, concealment of lost CTUs, stand-in references and the marks of pictures. What
a bitstream says and holds is an operand of DEC_JOB_DONE; the rules of chapter 6 are applied to it here. -/

namespace Sys2Proof.Machine
open Sys2Proof

/-! ### What Mica may show (R326, R333, R336) -/

/-- A bank of a layout. -/
def Layout.bank (x : Layout) (b : Nat) : Tab LayEntry := if b = 0 then x.bank0 else x.bank1

/-- The active bank of a layout: its bit in the live BANK_SEL of its pipeline's page (R326). -/
def Dev.activeBank (d : Dev) (l : Nat) : Nat := fld (d.reg (pgMica (d.layout l).pipe) (0x100 + 8 * (l / 64))) (l % 64) 1

/-- Pictures of a stream with ready(P) at or before `t` (R333). -/
def DecStream.readyBy (x : DecStream) (margin : Nat) (t : Time) : List DecPic := x.outs.filter (fun p => decide (p.due + margin * usT ≤ t))

/-- The candidate and the clean candidate (R333). -/
def DecStream.cands (x : DecStream) (margin : Nat) (t : Time) : Option DecPic × Option DecPic :=
  let l := x.readyBy margin t
  (l.getLast?, (l.filter (fun p => !p.tainted && !p.concealed)).getLast?)

/-- SOURCE_MARGIN of a layout in µs, with the 2 ms of R677 while the pair's timing rules hold. -/
def Dev.sourceMargin (d : Dev) (x : Layout) : Nat := x.margin + (if d.pairTimed then 2000 else 0)

/-- Surfaces of a stream that layers or a composition in progress keep (R336). -/
def Dev.micaHeld (d : Dev) (i : Nat) : List Nat :=
  d.mica.layouts.flatMap (fun e =>
    let x := e.2
    let shown := match x.comp with
      | some c => (c.choices.zip c.entries).filterMap (fun p => match p.1 with
          | .made (.pic q _) => if p.2.source = i then some q.surface else none
          | _ => none)
      | none => []
    let named := if x.state = .idle then [] else (x.bank (d.activeBank e.1)).filter (fun y => y.2.flags % 2 == 1 && y.2.kind == 0 && y.2.source == i)
    let cs := (d.decS i).cands (d.sourceMargin x) d.now
    shown ++ (if named.isEmpty then [] else (cs.1.toList ++ cs.2.toList).map DecPic.surface))

/-! ### Streams -/

/-- A decode descriptor as its bytes give it (Table 6-4). -/
def decParse (l : List Byte) : DecDesc :=
  { source := leAt l 0 1, index := leAt l 1 1, leg := leAt l 2 2, codec := leAt l 4 1, format := leAt l 5 1, maxS := leAt l 6 1, maxT := leAt l 7 1,
    maxW := leAt l 8 2, maxH := leAt l 10 2, rateNum := leAt l 12 4, rateDen := leAt l 16 4, dpb := leAt l 20 1, conceal := leAt l 21 1,
    taintArea := leAt l 22 2, engine := leAt l 24 1, priority := leAt l 25 1, surfCount := leAt l 26 1, surfBase := leAt l 32 8,
    stride := leAt l 40 8, statusBase := leAt l 48 8, consumer := leAt l 56 8 }

/-- The picture size suits an engine (R260). -/
def DecDesc.kindOk (e : DecDesc) (twinned : Bool) : Bool :=
  if twinned then decide (e.codec ≠ 0x13 ∧ e.maxW ≤ 8192 ∧ e.maxH ≤ 4608) else decide (e.maxW ≤ 4096 ∧ e.maxH ≤ 2304)

/-- A surface of the pool. -/
def DecDesc.surface (e : DecDesc) (n : Nat) : Nat := e.surfBase + e.stride * n

/-- Bytes from the first to the last surface's end. -/
def DecDesc.poolBytes (e : DecDesc) : Nat := e.stride * (e.surfCount - 1) + (ShShape.mk e.maxW e.maxH (e.format % 4)).size

/-- Another stream is bound to the leg stream (R264). -/
def Dev.decBoundTo (d : Dev) (leg idx : Nat) : Option Nat :=
  (d.geode.dec.find? (fun e => decide (e.2.state ≠ .idle) && e.2.desc.source == 0 && e.2.desc.leg == leg && e.2.desc.index == idx)).map (fun e => e.1)

/-- The descriptor's checks in the order of its bytes (R260, R264, R266 to R268). -/
def decDescChecks (l : List Byte) (realm : Nat) (d : Dev) : List Chk :=
  let e := decParse l
  let okKind := if e.engine = 0xFF then e.kindOk false || e.kindOk true else e.kindOk (d.geTwinned e.engine)
  let fromLeg := e.source == 0
  let st := d.stream e.leg e.index
  [badDesc 0 (decide (2 ≤ e.source)),
   badDesc 1 (fromLeg && (decide (16 ≤ e.index) || (match st with | some x => x.kind != 1 || !x.decode | none => true) || (d.decBoundTo e.leg e.index).isSome)),
   badDesc 2 (fromLeg && decide (4096 ≤ e.leg)),
   badDesc 4 (decide (e.codec < 0x10 ∨ 0x14 < e.codec) || (fromLeg && (match st with | some x => x.codec != e.codec | none => false))),
   badDesc 5 (decide (4 ≤ e.format)), badDesc 6 (decide (3 ≤ e.maxS)), badDesc 7 (decide (3 ≤ e.maxT)),
   badDesc 8 (e.maxW == 0 || !okKind), badDesc 10 (e.maxH == 0), badDesc 12 (e.rateNum == 0), badDesc 16 (e.rateDen == 0),
   badDesc 20 (decide (e.dpb < 1 ∨ 16 < e.dpb)), badDesc 21 (decide (3 ≤ e.conceal)), badDesc 22 (decide (1024 < e.taintArea)),
   badDesc 24 (decide (32 ≤ e.engine) && e.engine != 0xFF), badDesc 25 (decide (16 ≤ e.priority)),
   badDesc 26 (decide (e.surfCount < e.dpb + 3 ∨ 32 < e.surfCount)), badDesc 27 (leAt l 27 5 != 0),
   badDesc 32 (e.surfBase % 4096 != 0 || !d.pinned realm e.surfBase e.poolBytes),
   badDesc 40 (e.stride % 4096 != 0 || decide (e.stride < (ShShape.mk e.maxW e.maxH (e.format % 4)).size)),
   badDesc 48 (!d.pinned realm e.statusBase 8192), badDesc 64 ((l.drop 64).any (· != 0))]

/-- A stream belongs to its realm (R79). -/
def decDenied (c : HostCmd) (s : State) : Chk :=
  denied (c.realm != 0 && decide ((s.dev.decS (c.arg 0 2)).state ≠ .idle) && (s.dev.decS (c.arg 0 2)).realm != c.realm)

/-- A stream is in one of the states a command is allowed in (Table 6-3). -/
def decAllowed (c : HostCmd) (s : State) (ok : List DecState) : Chk :=
  conflict (s.dev.decS (c.arg 0 2)).state.code (!ok.contains (s.dev.decS (c.arg 0 2)).state)

/-- DEC_STREAM_OPEN (Table 6-3). -/
def decStreamOpenSpec : OpSpec where
  opcode := 0x0400
  args := [(0, 2), (8, 8)]
  capture := fun c d => capturePinned d c.realm (c.arg 8 8) 128
  checks := fun c s => [badArg 0 (decide (4096 ≤ c.arg 0 2)), badArg 8 (c.arg 8 8 % 64 != 0), decAllowed c s [.idle], refusedIf s.dev.pow.throttle]
  dchecks := fun c l s =>
    let e := decParse l
    [denied (e.source == 0 && c.realm != 0 && (s.dev.leg e.leg).realm != c.realm)] ++ decDescChecks l c.realm s.dev ++
    [noRes ((s.dev.geChoose e.engine e.kindOk (e.cost / 2)).isNone)]
  run := devRun fun c l _ d =>
    let i := c.arg 0 2
    let e := decParse l
    let eng := (d.geChoose e.engine e.kindOk (e.cost / 2)).getD 0
    let d := d.setDecS i { state := .opened, realm := c.realm, desc := e, engine := eng }
    let d := ((d.hold holdDec i c.realm e.surfBase e.poolBytes).hold holdDec i c.realm e.statusBase 8192).hold holdDec i c.realm e.consumer 4
    d.okNow eng

/-- The row DEC_STREAM_OPEN. -/
def execDecStreamOpen (c : HostCmd) (s : State) : Host.Outcome State Fault Refusal := .next (runCmd decStreamOpenSpec c s)

/-- What a status entry says beyond its job (Table 6-6). -/
structure DecMarks where
  result : Nat := 0
  layer : Nat := 0
  surface : Nat := 0xFFFF
  area : Nat := 0
  concealed : Nat := 0
  errors : Nat := 0
  tainted : Bool := false
  isConcealed : Bool := false
  standin : Bool := false
  intra : Bool := false
  recovered : Bool := false
  cause : Nat := 0
  deriving DecidableEq, Repr

/-- The 32 bytes of a status entry (Table 6-6). -/
def decEntry (i : Nat) (x : DecStream) (j : DecJob) (m : DecMarks) : List Byte :=
  leBytes 2 i ++ leBytes 1 m.layer ++ leBytes 1 m.result ++ leBytes 2 m.surface ++ leBytes 2 m.area ++ leBytes 8 j.time.toNat ++ leBytes 4 j.rtp ++
  leBytes 2 m.concealed ++ leBytes 2 (satN 65535 m.errors) ++
  leBytes 1 ((if m.tainted then 1 else 0) + (if m.isConcealed then 2 else 0) + (if m.standin then 4 else 0) + (if m.intra then 8 else 0) +
    (if m.recovered then 16 else 0) + (if j.incomplete then 32 else 0) + (if j.preempted then 64 else 0) + (if x.ring.phase then 128 else 0)) ++
  leBytes 1 m.cause ++ leBytes 4 j.user ++ [0, 0]

/-- Detail word 3 of a decode event: bytes 0 to 7 of the entry (R309). -/
def entryLow (l : List Byte) : Word := fmk 0 64 (leAt l 0 8)

/-- The status entry of a stream's oldest job written (R275). -/
def Dev.decStatus (d : Dev) (i : Nat) (m : DecMarks) : Dev :=
  let x := d.decS i
  match x.jobs.head? with
  | none => d
  | some j =>
    let b := decEntry i x j m
    let u := d.geUnitOf x.engine
    let d := if x.desc.source == 0 && d.statusFull x.realm x.ring x.desc.consumer
      then (d.inc (pgGeode u) 0x158).geEvent u 4 (fmk 0 64 i) (entryLow b) else d
    let d := d.writeVa x.realm (x.desc.statusBase + 32 * x.ring.idx) b
    let d := d.geTrace x.engine 0x0203 i true 0 (fmk 48 8 m.result) (entryLow b)
    d.setDecS i { x with
      unread := if x.desc.source = 1 ∧ m.surface ≠ 0xFFFF then x.unread ++ [(m.surface, x.ring.idx)] else x.unread
      ring := d.ringWritten x.realm x.ring x.desc.consumer }

/-- A closing stream with no job left is IDLE, and its close completes (R263). -/
def Dev.decIdle (d : Dev) (i : Nat) : Dev :=
  let x := d.decS i
  if x.state = .closing ∧ x.jobs.isEmpty then ((d.setDecS i {}).unhold holdDec i).finish 0x0401 i .ok x.discarded d.short else d

/-- A stream moves to CLOSING (R263, R736). -/
def Dev.decClose (d : Dev) (i : Nat) : Dev :=
  let x := d.decS i
  let lost := x.jobs.filter (fun j => !j.started && j.fault.isNone)
  let d := match x.jobs.head? with
    | some j => match j.fault with
      | some id => (d.closeFault id 3).decStatus i { result := 2 }
      | none => d
    | none => d
  let y := d.decS i
  (d.setDecS i { y with state := .closing, jobs := x.jobs.filter (fun j => j.started && j.fault.isNone), discarded := lost.length }).decIdle i

/-- The oldest job of a stream ends. -/
def Dev.decEnd (d : Dev) (i : Nat) (m : DecMarks) : Dev :=
  let x := d.decS i
  match x.jobs.head? with
  | none => d
  | some j =>
    let run := match d.geRun x.engine with | some r => r.dec && r.stream == i | none => false
    let d := d.decStatus i m
    let d := d.onDecS i (fun y => { y with jobs := y.jobs.drop 1 })
    let d := if run then d.geRelease x.engine else d
    if j.last && decide (x.state ≠ .closing) then d.decClose i else d.decIdle i

/-- A faulted job aborted (R732): its picture counts as never received. -/
def Dev.decAbort (d : Dev) (i : Nat) : Dev := (d.onDecS i (fun x => { x with lostPic := true })).decEnd i { result := 1 }

/-- DEC_STREAM_CLOSE. -/
def decStreamCloseSpec : OpSpec where
  opcode := 0x0401
  args := [(0, 2)]
  checks := fun c s => [badArg 0 (decide (4096 ≤ c.arg 0 2)), decDenied c s, decAllowed c s [.opened, .running]]
  run := devRun fun c _ _ d =>
    let n := (((d.decS (c.arg 0 2)).jobs.filter (fun j => !j.started && j.fault.isNone)).length)
    let d := d.decClose (c.arg 0 2)
    if (d.decS (c.arg 0 2)).state = .idle then d.okNow n else (d, .later (c.arg 0 2) 0)

/-- The row DEC_STREAM_CLOSE. -/
def execDecStreamClose (c : HostCmd) (s : State) : Host.Outcome State Fault Refusal := .next (runCmd decStreamCloseSpec c s)

/-- DEC_QUERY. -/
def decQuerySpec : OpSpec where
  opcode := 0x0404
  args := [(0, 2)]
  checks := fun c s => [badArg 0 (decide (4096 ≤ c.arg 0 2)), decDenied c s]
  run := devRun fun c _ _ d => (d, .done .ok (d.decS (c.arg 0 2)).state.code (d.decS (c.arg 0 2)).lastTime)

/-- The row DEC_QUERY. -/
def execDecQuery (c : HostCmd) (s : State) : Host.Outcome State Fault Refusal := .next (runCmd decQuerySpec c s)

/-! ### Queueing -/

/-- The finishing bound of a stream's pictures (R278). -/
def Dev.decBound (d : Dev) (x : DecStream) : Time :=
  let cap : Rat := if d.geTwinned x.engine then 2000000000 else 1000000000
  (x.desc.cost * x.desc.rateDen / x.desc.rateNum / cap * secT).floor.toNat + 150 * usT

/-- A job joins a stream's queue. -/
def Dev.decPush (d : Dev) (i : Nat) (j : DecJob) : Dev :=
  let d := { d with geode := { d.geode with arrivals := d.geode.arrivals + 1 } }
  (d.onDecS i (fun x => { x with state := if x.state = .opened then .running else x.state, jobs := x.jobs ++ [{ j with arrival := d.geode.arrivals }] })).jobItem 0x0001 none

/-- A picture that the jitter buffer releases goes to the decode stream bound to its leg stream (R265, R272). With none bound it is counted
on GE0's page (log entry 21). -/
def Dev.decRelease (d : Dev) (leg idx : Nat) (time : Word) (rtp : Nat) (incomplete : Bool) : Dev :=
  match d.decBoundTo leg idx with
  | none => d.inc (pgGeode 0) 0x150
  | some i =>
    let x := d.decS i
    if x.state = .closing then d
    else
      let waits := (x.jobs.filter (fun j => !j.started)).length
      let d := if 8 ≤ waits then
          let u := d.geUnitOf x.engine
          let d := d.onDecS i (fun y => { y with lostPic := true, jobs := match takeFirst (fun j => !j.started) y.jobs with | some r => r.2 | none => y.jobs })
          ((d.inc (pgGeode u) 0x140).geEvent u 12 (fmk 0 64 i) d.freeWord).tickFree
        else d
      d.decPush i { arrival := 0, time := time, rtp := rtp, incomplete := incomplete, data := 0, length := 0, last := false, disc := false, user := 0,
                    due := d.now + d.decBound x }

/-- The job descriptors of DEC_SUBMIT (Table 6-5). -/
def decJobChecks (c : HostCmd) (l : List Byte) : List Chk :=
  (List.range (c.arg 2 1)).flatMap (fun k =>
    let b := (l.drop (64 * k)).take 64
    [badDesc (64 * k) (leAt b 0 2 != c.arg 0 2), badDesc (64 * k + 2) (decide (4 ≤ leAt b 2 1)), badDesc (64 * k + 3) (leAt b 3 1 != 0),
     badDesc (64 * k + 4) (decide (leAt b 4 4 < 1 ∨ 67108864 < leAt b 4 4)), badDesc (64 * k + 28) ((b.drop 28).any (· != 0))])

/-- DEC_SUBMIT (R273). -/
def decSubmitSpec : OpSpec where
  opcode := 0x0410
  args := [(0, 2), (2, 1), (8, 8)]
  capture := fun c d => captureVa d c.realm (c.arg 8 8) (64 * c.arg 2 1)
  checks := fun c s => [badArg 0 (decide (4096 ≤ c.arg 0 2)), badArg 2 (decide (c.arg 2 1 < 1 ∨ 64 < c.arg 2 1)), decDenied c s, decAllowed c s [.opened, .running],
    conflict (s.dev.decS (c.arg 0 2)).state.code ((s.dev.decS (c.arg 0 2)).desc.source == 0), noRes (decide (64 < (s.dev.decS (c.arg 0 2)).jobs.length + c.arg 2 1))]
  dchecks := fun c l _ => decJobChecks c l
  run := devRun fun c l _ d =>
    let i := c.arg 0 2
    let d := (List.range (c.arg 2 1)).foldl (fun (d : Dev) k =>
      let b := (l.drop (64 * k)).take 64
      let time : Word := fmk 0 64 (leAt b 16 8)
      d.decPush i { arrival := 0, time := time, rtp := 0, incomplete := false, data := leAt b 8 8, length := leAt b 4 4, last := leAt b 2 1 % 2 == 1,
                    disc := leAt b 2 1 / 2 % 2 == 1, user := leAt b 24 4, due := nearShort d.now time + d.decBound (d.decS i) }) d
    d.okNow (d.decS i).jobs.length

/-- The row DEC_SUBMIT. -/
def execDecSubmit (c : HostCmd) (s : State) : Host.Outcome State Fault Refusal := .next (runCmd decSubmitSpec c s)

/-! ### Starting -/

/-- Entries of a status ring that the consumer has not passed, of those written. -/
def notPassed (entry idx cons : Nat) : Bool := decide ((entry + 256 - cons % 256) % 256 < (idx + 256 - cons % 256) % 256)

/-- A surface that may be written: no reference, LATEST, LAST_CLEAN or unread one, and none that Mica keeps (R276, R336). -/
def Dev.decSurface (d : Dev) (i : Nat) : Option Nat :=
  let x := d.decS i
  let cons := d.consumer x.realm x.desc.consumer
  let used := x.dpb.map DecPic.surface ++ (x.latest.toList ++ x.lastClean.toList).map DecPic.surface ++
    (x.unread.filter (fun e => notPassed e.2 x.ring.idx cons)).map (fun e => e.1) ++ d.micaHeld i
  (List.range x.desc.surfCount).find? (fun n => !used.contains n)

/-- DEC_JOB_START: the oldest job starts or resumes once a surface, and for submitted data a status slot, is free; a translation failure
halts it with a fault (R270, R274, R275). -/
def Dev.decStart (d : Dev) (i : Nat) : Dev :=
  let x := d.decS i
  let room (k : Nat) : Bool :=
    let y := d.decS k
    (d.decSurface k).isSome && (y.desc.source == 0 || !d.statusFull y.realm y.ring y.desc.consumer)
  match x.jobs.head? with
  | none => d
  | some j =>
    if !d.geMayStart x.engine true i (fun c => !c.dec || room c.stream) then d
    else
      let u := d.geUnitOf x.engine
      match if x.desc.source = 1 then d.readCheck x.realm j.data j.length else none with
      | some e =>
        let full := decide (64 ≤ d.geSaved x.engine) && j.saved.isNone
        let r := d.recordFault x.realm e false 1 (0x040 + u) (.dec i) full
        let d := r.1.geEvent u 13 (fmk 0 64 i) (entryLow (decEntry i x j { result := 1 }))
        if full then d.decAbort i
        else d.onDecS i (fun y => { y with
          jobs := match y.jobs with | h :: t => { h with fault := some r.2, saved := some (j.saved.getD 0), started := true } :: t | [] => [] })
      | none =>
        let d := d.setDecS i { x with jobs := { j with started := true, saved := none } :: x.jobs.drop 1 }
        (d.setGeRun x.engine (some ⟨true, i, 0, j.saved.getD 0⟩)).geTrace x.engine 0x0201 i true (j.saved.getD 0) 0 j.time

/-- The row DEC_JOB_START. -/
def execDecJobStart (stream : Nat) (s : State) : Host.Outcome State Fault Refusal := .next (s.actReady (fun d => d.decStart stream))

/-! ### Syntax errors and lost CTUs (R281, R282) -/

/-- The first of two places. -/
def firstOf (a b : Option Nat) : Option Nat :=
  match a, b with
  | some x, some y => some (min x y)
  | some x, none => some x
  | none, b => b

/-- The place among a part's CTUs of its first syntax error (R281): a forbidden value, a read past its end, an address that does not follow, a
length field that runs past the data, the end of data before its CTUs are complete, or a gap left by lost packets. -/
def partError (p : DecPart) : Option Nat :=
  let long := if p.data < p.length then some 0 else none
  let short := if p.coded < p.ctus.length then some p.coded else none
  [p.bad, p.past, p.address, long, short, p.gap].foldl firstOf none

/-- Decoding resumes at a part after an error before it (Table 6-7). -/
def resumesAt (codec : Nat) (p : DecPart) : Bool :=
  if codec = 0x10 then p.kind == .slice
  else if codec = 0x11 then p.kind == .slice || ((p.kind == .tile || p.kind == .wppRow) && p.known)
  else if codec = 0x12 then p.kind == .tileGroup || (p.kind == .tile && p.known)
  else if codec = 0x13 then p.kind == .tokenPartition
  else p.kind == .tile && p.known

/-- The lost CTUs of a picture and its syntax errors detected, part by part; `losing` after an error whose resumption point is not yet
reached. -/
def lostParts (codec : Nat) : List DecPart → Bool → List Nat × Nat
  | [], _ => ([], 0)
  | p :: t, losing =>
    if losing && !resumesAt codec p then
      (let r := lostParts codec t true
       (p.ctus ++ r.1, r.2))
    else match partError p with
      | none => lostParts codec t false
      | some k =>
        let r := lostParts codec t true
        (p.ctus.drop k ++ r.1, r.2 + 1)

/-- The CTUs of a layer lost to its syntax errors, and their number (R281, R282). An error in VP8's first partition loses the frame. -/
def layerLost (y : DecLayer) (codec : Nat) : List Nat × Nat :=
  let s := max 1 y.ctuSize
  let r := lostParts codec y.parts false
  if codec = 0x13 ∧ y.parts.any (fun p => p.kind == .firstPartition && (partError p).isSome) = true then
    (List.range (((y.width + s - 1) / s) * ((y.height + s - 1) / s)), max 1 r.2)
  else (r.1.eraseDups, r.2)

/-! ### Concealment (R284 to R287) -/

/-- The vectors of a CTU's neighbours that were decoded without loss and are inter-coded (R286): left, above, right, below. -/
def decNeighbours (r : DecLayer) (lost : List Nat) (c : Nat) : List (Int × Int) :=
  let w := (r.width + r.ctuSize - 1) / max 1 r.ctuSize
  let at_ (ok : Bool) (k : Nat) : Option (Int × Int) := if ok && !lost.contains k then nthD none r.mvs k else none
  [at_ (decide (c % w ≠ 0)) (c - 1), at_ (decide (w ≤ c)) (c - w), at_ (decide (c % w + 1 < w)) (c + 1), at_ true (c + w)].filterMap id

/-- The lower middle value of a list (R286). -/
def lowMedian (l : List Int) : Int := nthD 0 (sortBy (fun a b => decide (a < b)) l) ((l.length - 1) / 2)

/-- The spread of a list. -/
def spreadI (l : List Int) : Int := match l with
  | [] => 0
  | a :: t => t.foldl max a - t.foldl min a

/-- The vector a lost CTU is extrapolated with, or none for motion copy (R284, R286). -/
def concealVector (conceal : Nat) (r : DecLayer) (lost : List Nat) (c : Nat) : Option (Int × Int) :=
  let n := decNeighbours r lost c
  let xs := n.map (fun v => v.1)
  let ys := n.map (fun v => v.2)
  let med := (lowMedian xs, lowMedian ys)
  if r.intra ∨ conceal = 1 then none
  else if conceal = 2 then (if n.isEmpty then none else some med)
  else if 2 ≤ n.length ∧ spreadI xs ≤ 16 ∧ spreadI ys ≤ 16 then some med else none

/-- A sample of the picture written: decoded, or concealed from the last good reference, or mid-grey where there is none (R277, R285). 4:2:0
pictures give each chroma row twice to 4:2:2 surfaces (log entry 97). -/
def Dev.decSample (d : Dev) (x : DecStream) (q : DecSeq) (r : DecLayer) (lost : List Nat) (chroma : Bool) (px py : Nat) : Nat :=
  let shape : ShShape := ⟨r.width, r.height, x.desc.format % 4⟩
  let w := (r.width + r.ctuSize - 1) / max 1 r.ctuSize
  let ly := if chroma && x.desc.format % 2 == 0 then 2 * py else py
  let c := ly / max 1 r.ctuSize * w + px / max 1 r.ctuSize
  let row := if chroma && q.chroma == 0 && x.desc.format % 2 == 1 then py / 2 else py
  let got := (nthD 0 (if chroma then r.chroma else r.luma) (row * r.width + px)) * (if q.depth = 8 ∧ shape.depth = 10 then 4 else 1) % 2 ^ shape.depth
  if !lost.contains c then got
  else match (x.dpb.filter (fun p => !p.tainted)).getLast? with
    | none => 2 ^ (shape.depth - 1)
    | some p =>
      let rs : ShShape := ⟨p.w, p.h, x.desc.format % 4⟩
      let va := x.desc.surface p.surface
      let h := if chroma then rs.chromaH else rs.h
      match concealVector x.desc.conceal r lost c with
      | none => d.surfaceAt x.realm va rs chroma (min px (p.w - 1)) (min py (h - 1))
      | some v =>
        let samples := (List.range (p.w * h)).map (fun k => d.surfaceAt x.realm va rs chroma (k % p.w) (k / p.w))
        Config.predict ⟨x.desc.codec, chroma, 4, v.1, v.2, p.w, samples⟩ px py % 2 ^ shape.depth

/-- Luma samples of the lost CTUs (R287). -/
def decLostSamples (r : DecLayer) (lost : List Nat) : Nat :=
  let s := max 1 r.ctuSize
  let w := (r.width + s - 1) / s
  sumN (lost.map (fun c => (min s (r.width - c % w * s)) * (min s (r.height - c / w * s))))

/-! ### Unsupported sequences (R259, R262, R279) -/

/-- The profile, chroma and depth lie in Table 6-1. -/
def profileOk (codec : Nat) (q : DecSeq) : Bool :=
  let c420 := q.chroma == 0
  if codec = 0x10 then (q.profile == .constrainedBaseline || q.profile == .main || q.profile == .high) && c420 && q.depth == 8
  else if codec = 0x11 then
    (q.profile == .main && c420 && q.depth == 8) || (q.profile == .main10 && c420 && (q.depth == 8 || q.depth == 10)) ||
    (q.profile == .main422x10 && decide (q.chroma ≤ 1) && (q.depth == 8 || q.depth == 10))
  else if codec = 0x12 then q.profile == .main && c420 && (q.depth == 8 || q.depth == 10)
  else if codec = 0x13 then q.profile == .version0 && c420 && q.depth == 8
  else (q.profile == .profile0 && c420 && q.depth == 8) || (q.profile == .profile2 && c420 && q.depth == 10)

/-- The layers of Table 6-1. -/
def layersOk (codec : Nat) (q : DecSeq) : Bool :=
  decide (q.temporal ≤ 3) && decide (q.spatial ≤ (if codec = 0x12 ∨ codec = 0x14 then 3 else 1))

/-- The features that Tiusk does not decode (R262); VP9 at 12 bits is outside Table 6-1. -/
def featureOut (codec : Nat) (q : DecSeq) : Bool :=
  (codec == 0x10 && (q.fieldPics || q.paff || q.mbaff)) || (codec == 0x11 && (q.fieldSeq || q.rangeExt)) || (codec == 0x12 && q.largeScale)

/-- The picture is of an unsupported sequence (R279). -/
def decUnsupported (x : DecStream) (r : DecIn) : Bool :=
  !profileOk x.desc.codec r.seq || !layersOk x.desc.codec r.seq || featureOut x.desc.codec r.seq ||
  decide (x.desc.dpb < r.keep.length) || (r.seq.chroma == 1 && x.desc.format % 2 == 0) || (decide (8 < r.seq.depth) && x.desc.format / 2 % 2 == 0) ||
  r.layers.any (fun y => decide (x.desc.maxW < y.width ∨ x.desc.maxH < y.height))

/-! ### Finishing -/

/-- The layers of a unit that a stream decodes (R270): the others are skipped without error. -/
def DecStream.layersIn (x : DecStream) (r : DecIn) : List DecLayer := r.layers.filter (fun y => decide (y.sid ≤ x.desc.maxS) && decide (y.tid ≤ x.desc.maxT))

/-- What the layers of a unit have given so far. -/
structure DecAcc where
  marks : DecMarks := {}
  pic : Option DecPic := none
  concealed : Nat := 0
  errors : Nat := 0
  missing : Nat := 0
  own : Nat := 0

/-- One layer decoded (R281 to R292): its losses concealed, its references found or stood in for, its marks, and its samples written to a
surface of the pool. It is held as a reference until the unit ends. -/
def Dev.decLayer (d : Dev) (i : Nat) (j : DecJob) (r : DecIn) (before : Bool) (a : DecAcc) (y : DecLayer) : Dev × DecAcc :=
  let x := d.decS i
  let loss := layerLost y x.desc.codec
  let lost := loss.1
  -- R289
  let gap := decide (x.desc.codec = 0x13 ∨ x.desc.codec = 0x14) && (r.gap || j.disc || x.lostPic) && !y.intra
  let refs := if y.intra then [] else y.refs
  let held := if gap then [] else refs.filterMap (fun n => x.dpb.find? (fun p => p.num == n))
  let missing := refs.length - held.length + (if x.desc.codec = 0x10 ∧ y.intra = false then y.frameGap else 0)
  let standin := decide (missing ≠ 0) || gap
  let used := held ++ (if standin then x.lastDone.toList else [])
  let clean := y.intra || y.recovery
  -- R287, R288, R292: nothing decoded before the last picture of R288 taints
  let own := min 1024 ((1024 * decLostSamples y lost + max 1 (y.width * y.height) - 1) / max 1 (y.width * y.height))
  let late := used.filter (fun p => decide (x.cleanFrom ≤ p.num))
  let area := min 1024 (own + (if clean then 0 else maxN (used.map DecPic.area)))
  let lateArea := min 1024 (own + (if clean then 0 else maxN (late.map DecPic.area)))
  let cause := if standin then 1 else if x.desc.taintArea ≠ 0 ∧ x.desc.taintArea ≤ lateArea then 2
    else if !clean && late.any DecPic.tainted then 3 else 0
  let tainted := decide (cause ≠ 0)
  match d.decSurface i with
  | none => (d, a)
  | some sf =>
    let m : DecMarks := {
      layer := y.sid + 4 * y.tid, surface := sf, area := area, concealed := a.concealed + lost.length, errors := a.errors + loss.2, tainted := tainted,
      isConcealed := decide (0 < area), standin := standin, intra := y.intra, recovered := clean && !standin && before, cause := cause }
    let shape : ShShape := ⟨y.width, y.height, x.desc.format % 4⟩
    let marks : ShMarks := ⟨j.time, j.rtp, area, (if tainted then 1 else 0) + (if 0 < area then 2 else 0) + (if standin then 4 else 0), i⟩
    let d := d.writeSurface x.realm (x.desc.surface sf) shape marks (d.decSample x r.seq y lost false) (d.decSample x r.seq y lost true)
    let p : DecPic := ⟨x.next, sf, j.time, y.width, y.height, tainted, decide (0 < area), area, j.due⟩
    let d := d.onDecS i (fun z => { z with
      dpb := z.dpb ++ [p]
      next := z.next + 1
      lastDone := some p
      cleanFrom := if clean then p.num else z.cleanFrom
      outs := z.outs.filter (fun q => q.surface != sf)
      unread := z.unread.filter (fun q => q.1 != sf) })
    (d, { marks := m, pic := some p, concealed := a.concealed + lost.length, errors := a.errors + loss.2, missing := a.missing + max missing (if gap then 1 else 0),
          own := max a.own own })

/-- DEC_JOB_DONE: the unit is decoded layer by layer; its highest layer is the output (R275 to R293). -/
def Dev.decDone (d : Dev) (i : Nat) (r : DecIn) : Dev :=
  let x := d.decS i
  match x.jobs.head?, d.geRun x.engine with
  | some j, some run =>
    let u := d.geUnitOf x.engine
    let ls := x.layersIn r
    let top := ls.getLast?
    let intra := ls.all DecLayer.intra
    if !run.dec || run.stream != i || (d.servers x.engine).any (fun p => decide ((d.page (pgGeode p)).state = .faulted)) then d
    else
      let uns := decide (r.header = 0) && decUnsupported x r
      let begins := uns && (!x.unsupported || r.seqStart)
      let resume := x.unsupported && !uns && r.seqStart && intra
      let layer := match top with | some y => y.sid + 4 * y.tid | none => 0
      let m : DecMarks := { result := 3, layer := layer, errors := if r.header = 1 then 1 else 0, intra := intra }
      if uns || (x.unsupported && !resume) then
        -- R279: discarded, counted, raised once per sequence
        let d := (d.inc (pgGeode u) 0x148).onDecS i (fun y => { y with unsupported := true })
        let d := if begins then d.geEvent u 11 (fmk 0 64 i) (entryLow (decEntry i x j m)) else d
        d.decEnd i m
      else if r.header ≠ 0 then
        -- R283
        let d := (d.bump (pgGeode u) 0x118 m.errors).onDecS i (fun y => { y with lostPic := true })
        d.decEnd i m
      else if ls.isEmpty then d.decEnd i {}
      else
        let before := match x.latest with | some p => p.tainted || p.concealed | none => false
        let f := ls.foldl (fun (a : Dev × DecAcc) y => a.1.decLayer i j r before a.2 y) (d, {})
        match f.2.pic with
        | none => d
        | some p =>
          let d := f.1
          let m := f.2.marks
          let d := (((d.inc (pgGeode u) 0x110).bump (pgGeode u) 0x118 f.2.errors).bump (pgGeode u) 0x128 f.2.concealed).bump (pgGeode u) 0x130 f.2.missing
          let d := if 0 < p.area then d.inc (pgGeode u) 0x120 else d
          let d := if p.tainted then d.inc (pgGeode u) 0x138 else d
          let e := entryLow (decEntry i x j m)
          let d := if 0 < f.2.own then d.geEvent u 8 (fmk 0 64 i) e else d
          let d := if p.tainted && !x.tainted then d.geEvent u 9 (fmk 0 64 i) e else if !p.tainted && x.tainted then d.geEvent u 10 (fmk 0 64 i) e else d
          let d := d.onDecS i (fun y => { y with
            dpb := y.dpb.filter (fun q => r.keep.contains q.num)
            latest := some p
            outs := (y.outs.filter (fun q => q.surface != p.surface)) ++ [p]
            lastClean := if !p.tainted && p.area == 0 then some p else y.lastClean
            tainted := p.tainted
            unsupported := false
            lostPic := false
            report := if p.tainted = y.tainted then y.report else some (p.tainted, p.area)
            lastTime := j.time })
          d.decEnd i m
  | _, _ => d

end Sys2Proof.Machine
end

