-- ==== Sys2Proof/Machine/MicaPix.lean ====
section
/-! DEFINITION. The samples of Mica (R332, R337 to R346): scaling, colour conversion, blending, and renditions. Arithmetic is exact until the
one rounding that gives a canvas code (log entry 22). -/

namespace Sys2Proof.Machine
open Sys2Proof

/-! ### Scaling (R337 to R339) -/

/-- The sine of pi t over pi t, for t in 64ths. -/
def sincQ (num den : Int) : Fx :=
  if num = 0 then fxOne else
    let x := fxPi * num / den
    fxDiv (fxSin x) x

/-- The eight weights of a phase before they are normalised: tap k lies at k - 3 - phase/64 from the position. -/
def rawWeights (soft : Bool) (phase : Nat) : List Fx :=
  (List.range 8).map (fun k =>
    let t : Int := ((64 * k : Nat) : Int) - 192 - phase
    if soft then
      let a := if t < 0 then -t else t
      if a < 64 then fxRat (4 * 262144 - 6 * 64 * a * a + 3 * a * a * a) 1572864
      else if a < 128 then fxRat ((128 - a) * (128 - a) * (128 - a)) 1572864
      else 0
    else if t ≤ -256 ∨ 256 ≤ t then 0
    else fxMul (sincQ t 64) (sincQ t 256))

/-- The weights of a phase in units of 1/16384: normalised, each rounded, the remainder on the largest (R338). -/
def tapWeights (soft : Bool) (phase : Nat) : List Int :=
  let w := rawWeights soft phase
  let sum := sumI w
  let r := w.map (fun v => fxRound (fxDiv v sum) 14)
  let rest := 16384 - sumI r
  let big := r.foldl max 0
  match r.findIdx? (fun v => v == big) with
  | some i => setNth r i (big + rest)
  | none => r

/-- The boxes averaged first on an axis: the least k that brings the factor to at least 1/2 (R338). -/
def boxBits (dst crop : Nat) : Nat := ((List.range 16).find? (fun k => decide (crop ≤ 2 * dst * 2 ^ k))).getD 0

/-- The source samples that a canvas position takes on an axis, each with its weight: the positions of R337 within the crop of `cw` samples
from `c0`, inside a source of `lim` samples. -/
def axisTaps (soft : Bool) (dst0 : Int) (dst c0 cw lim : Nat) (x : Int) : List (Nat × Rat) :=
  let k := boxBits dst cw
  let w : Rat := (cw : Rat) / (2 ^ k : Nat)
  let xs : Rat := (if k = 0 then (c0 : Rat) else 0) + ((x : Rat) + 1 / 2 - dst0) * w / (max 1 dst : Nat) - 1 / 2
  let q := (xs * 65536).floor
  let phase := (q / 1024 % 64).toNat
  let base := q / 65536
  let hi : Int := ((min (c0 + cw) lim : Nat) : Int) - 1
  let clampS (i : Int) : Nat := (clampI c0 hi i).toNat
  let ws := tapWeights soft phase
  (List.range 8).flatMap (fun (t : Nat) =>
    let i : Int := base + t - 3
    let wt : Rat := ((nthD 0 ws t : Int) : Rat) / 16384
    if k = 0 then [(clampS i, wt)]
    else
      let n : Int := (((cw + 2 ^ k - 1) / 2 ^ k : Nat) : Int) - 1
      let b := clampI 0 n i
      (List.range (2 ^ k)).map (fun (j : Nat) => (clampS (c0 + b * (2 ^ k : Nat) + j), wt / (2 ^ k : Nat))))

/-- The value of a plane through the taps of both axes. -/
def tapSum (plane : Nat → Nat → Rat) (xs ys : List (Nat × Rat)) : Rat :=
  ys.foldl (fun (a : Rat) y => a + y.2 * xs.foldl (fun (b : Rat) x => b + x.2 * plane x.1 y.1) 0) 0

/-- A rational rounded to nearest, halves away from zero (R852). -/
def ratRound (q : Rat) : Int := roundDiv q.num q.den

/-! ### Sources -/

/-- What a layer draws from: its size in luma samples, whether chroma is halved on each axis, whether it has alpha, and its samples: codes
of narrow range on the canvas scale, other codes as a fraction of 65,535. Component 3 is alpha. -/
structure Src where
  w : Nat
  h : Nat
  halfX : Bool
  halfY : Bool
  hasAlpha : Bool
  at_ : Nat → Nat → Nat → Rat

/-- A code of depth `d` on the scale of its coding (R332, R342). -/
def widen (narrow : Bool) (depth v : Nat) : Rat :=
  if narrow then (v : Rat) * (if depth = 8 then 256 else 64) else (v : Rat) * 65535 / (2 ^ depth - 1 : Nat)

/-- A Shingle surface as a source. -/
def surfaceSrc (r : Reader) (cspace : Nat) : Src :=
  let s := readShape r
  let narrow := cspace / 2 % 4 == 0
  { w := s.w, h := s.h, halfX := true, halfY := s.fmt % 2 == 0, hasAlpha := false
    at_ := fun c x y =>
      if c = 3 then 65535
      else widen narrow s.depth (if c = 0 then readSample r s false x y else readSample r s true (2 * x + (c - 1)) y) }

/-- An RGBA still as a source (R331): R, G, B and A of 8 or 16 bits. -/
def rgbaSrc (b : List Byte) (x : Still) : Src :=
  let n := if x.format = 1 then 1 else 2
  { w := x.width, h := x.height, halfX := false, halfY := false, hasAlpha := true
    at_ := fun c px py => widen false (8 * n) (leAt b (py * x.pitch + 4 * n * px + n * c) n) }

/-- A component of a source at a canvas sample, scaled (R337, R339). -/
def Src.scaled (s : Src) (e : LayEntry) (c : Nat) (x y : Int) : Rat :=
  let cx := if e.cropW = 0 then 0 else e.cropX
  let cy := if e.cropW = 0 then 0 else e.cropY
  let cw := if e.cropW = 0 then s.w else e.cropW
  let ch := if e.cropW = 0 then s.h else e.cropH
  let half := c = 1 ∨ c = 2
  let dx := if half ∧ s.halfX then 2 else 1
  let dy := if half ∧ s.halfY then 2 else 1
  tapSum (fun a b => s.at_ c a b)
    (axisTaps (e.filter == 1) e.dstX e.dstW (cx / dx) ((cw + dx - 1) / dx) ((s.w + dx - 1) / dx) x)
    (axisTaps (e.filter == 1) e.dstY e.dstH (cy / dy) ((ch + dy - 1) / dy) ((s.h + dy - 1) / dy) y)

/-! ### Colour (R340) -/

/-- The red and blue luma weights of primaries, in 1/10,000 (BT.709, BT.2020). -/
def lumaWeights (primaries : Nat) : Rat × Rat := if primaries = 0 then (2126 / 10000, 722 / 10000) else (2627 / 10000, 593 / 10000)

/-- Three components. -/
abbrev Rgb := Rat × Rat × Rat

/-- A function of each component. -/
def mapRgb (f : Rat → Rat) (p : Rgb) : Rgb := (f p.1, f p.2.1, f p.2.2)

/-- R'G'B' from 0 to 1 as canvas codes: the matrix of the primaries. `one` scales a pre-multiplied colour's black. -/
def rgbToCanvas (primaries : Nat) (one : Rat) (p : Rgb) : Rgb :=
  let k := lumaWeights primaries
  let y := k.1 * p.1 + (1 - k.1 - k.2) * p.2.1 + k.2 * p.2.2
  (4096 * one + 56064 * y, 32768 + 57344 * (p.2.2 - y) / (2 * (1 - k.2)), 32768 + 57344 * (p.1 - y) / (2 * (1 - k.1)))

/-- Canvas codes as R'G'B' from 0 to 1. -/
def canvasToRgb (primaries : Nat) (c : Rgb) : Rgb :=
  let k := lumaWeights primaries
  let y := (c.1 - 4096) / 56064
  let r := y + (c.2.2 - 32768) / 57344 * (2 * (1 - k.1))
  let b := y + (c.2.1 - 32768) / 57344 * (2 * (1 - k.2))
  (r, (y - k.1 * r - k.2 * b) / (1 - k.1 - k.2), b)

/-- A 3 × 3 matrix applied. -/
def mat3 (m : Rgb × Rgb × Rgb) (p : Rgb) : Rgb :=
  let row (a : Rgb) : Rat := a.1 * p.1 + a.2.1 * p.2.1 + a.2.2 * p.2.2
  (row m.1, row m.2.1, row m.2.2)

/-- The BT.2087 matrix from BT.709 to BT.2020 in linear light, and its inverse (Table 7-8; log entry 11). -/
def to2020 : Rgb × Rgb × Rgb :=
  ((6274 / 10000, 3293 / 10000, 433 / 10000), (691 / 10000, 9195 / 10000, 114 / 10000), (164 / 10000, 880 / 10000, 8956 / 10000))
def inverse3 (m : Rgb × Rgb × Rgb) : Rgb × Rgb × Rgb :=
  let (a, b, c) := m.1
  let (e, f, g) := m.2.1
  let (h, i, k) := m.2.2
  let det := a * (f * k - g * i) - b * (e * k - g * h) + c * (e * i - f * h)
  (((f * k - g * i) / det, (c * i - b * k) / det, (b * g - c * f) / det), ((g * h - e * k) / det, (a * k - c * h) / det, (c * e - a * g) / det),
   ((e * i - f * h) / det, (b * h - a * i) / det, (a * f - b * e) / det))

/-- Primaries converted in linear light: BT.2020 to BT.709 sets negative components to 0 (Table 7-8). -/
def convPrimaries (from_ to_ : Nat) (p : Rgb) : Rgb :=
  if from_ = to_ then p else if from_ = 0 then mat3 to2020 p else mapRgb (fun v => if v < 0 then 0 else v) (mat3 (inverse3 to2020) p)

/-- The reference white of a transfer in cd/m²: SDR nominal white, HLG at 75 % signal, PQ 203 cd/m² (Table 7-8). -/
def refWhite (transfer primaries : Nat) : Rat :=
  if transfer = 0 then Config.display 0 primaries (1, 1, 1) 1
  else if transfer = 1 then Config.display 1 primaries (3 / 4, 3 / 4, 3 / 4) 1
  else 203

/-- The nominal peak of a transfer in cd/m² (R343): HLG 1,000, PQ 10,000, SDR its nominal white. -/
def peakLight (transfer primaries : Nat) : Rat := if transfer = 0 then Config.display 0 primaries (1, 1, 1) 1 else if transfer = 1 then 1000 else 10000

/-- Linear light relative to reference white of R'G'B' signals, and the way back. -/
def toLight (transfer primaries : Nat) (p : Rgb) : Rgb :=
  let v (k : Nat) : Rat := Config.display transfer primaries p k / refWhite transfer primaries
  (v 0, v 1, v 2)
def fromLight (transfer primaries : Nat) (p : Rgb) : Rgb :=
  let l := mapRgb (fun v => v * refWhite transfer primaries) p
  (Config.signal transfer primaries l 0, Config.signal transfer primaries l 1, Config.signal transfer primaries l 2)

/-- HLG or PQ to SDR (Table 7-8): above 0.8 of reference white the light is compressed. -/
def toneMap (x : Rat) : Rat := if x ≤ 4 / 5 then x else 4 / 5 + 1 / 5 * (x - 4 / 5) / (x - 3 / 5)

/-- R'G'B' of one space in another (R340): to linear light, primaries, and the layout's transfer; steps the two share are skipped. -/
def convRgb (cs : Nat × Nat) (ls : Nat × Nat) (p : Rgb) : Rgb :=
  if cs = ls then p
  else
    let l := convPrimaries cs.1 ls.1 (toLight cs.2 cs.1 p)
    fromLight ls.2 ls.1 (if cs.2 ≠ 0 ∧ ls.2 = 0 then mapRgb toneMap l else l)

/-- A pre-multiplied colour divided by its alpha, and multiplied again; 0 where alpha is 0 (Table 7-8). -/
def underAlpha (premult : Bool) (alpha : Rat) (f : Rgb → Rgb) (p : Rgb) : Rgb :=
  if premult then (let a := alpha / 65535
                   if a = 0 then (0, 0, 0) else mapRgb (fun v => v * a) (f (mapRgb (fun v => v / a) p)))
  else f p

/-- A layer's colour in canvas codes of the layout (R340, Table 7-8): matrix to R'G'B', the layout's space, matrix to canvas codes; where the
spaces agree, the matrix alone. -/
def toCanvas (x : Layout) (e : LayEntry) (premult : Bool) (c0 c1 c2 alpha : Rat) : Int × Int × Int :=
  let coding := e.cspace / 2 % 4
  let cs := (e.cspace % 2, e.cspace / 8 % 4)
  let one : Rat := if premult then alpha / 65535 else 1
  let v : Rgb :=
    if coding = 0 ∧ cs = (x.primaries, x.transfer) then (c0, c1, c2)
    else
      let half : Rat := 65535 * 128 / 255
      let p : Rgb := if coding = 0 then canvasToRgb cs.1 (c0, c1, c2)
        else if coding = 1 then canvasToRgb cs.1 (4096 + 56064 * (c0 / 65535), 32768 + 57344 * ((c1 - half) / 65535), 32768 + 57344 * ((c2 - half) / 65535))
        else (c0 / 65535, c1 / 65535, c2 / 65535)
      rgbToCanvas x.primaries one (if cs = (x.primaries, x.transfer) then p else underAlpha premult alpha (convRgb cs (x.primaries, x.transfer)) p)
  (ratRound v.1, ratRound v.2.1, ratRound v.2.2)

/-! ### Blending (R342, R343) -/

/-- rnd of R342. -/
def rnd16 (v : Int) : Int := (v + 32767) / 65535

/-- One component blended (R342): `off` is 32768 for chroma. -/
def blend1 (off s d ea la : Int) (premult : Bool) : Int :=
  let t := if premult then rnd16 ((s - off) * la) else rnd16 ((s - off) * ea)
  clampI 0 65535 (t + rnd16 ((d - off) * (65535 - ea)) + off)

/-- A canvas colour in 16-bit linear light of the layout, 65,535 at the nominal peak of its transfer, and the way back (R343). -/
def toLinear16 (x : Layout) (premult : Bool) (alpha : Int) (c : Int × Int × Int) : Int × Int × Int :=
  let p := canvasToRgb x.primaries (if premult then ((c.1 : Rat) - 4096 * (alpha : Rat) / 65535 + 4096, c.2.1, c.2.2) else (c.1, c.2.1, c.2.2))
  let f (q : Rgb) : Rgb := mapRgb (fun v => v * refWhite x.transfer x.primaries / peakLight x.transfer x.primaries) (toLight x.transfer x.primaries q)
  let l := underAlpha premult alpha f p
  let code (v : Rat) : Int := clampI 0 65535 (ratRound (v * 65535))
  (code l.1, code l.2.1, code l.2.2)
def fromLinear16 (x : Layout) (l : Int × Int × Int) : Int × Int × Int :=
  let f (v : Int) : Rat := (v : Rat) / 65535 * peakLight x.transfer x.primaries / refWhite x.transfer x.primaries
  let c := rgbToCanvas x.primaries 1 (fromLight x.transfer x.primaries (f l.1, f l.2.1, f l.2.2))
  let code (v : Rat) : Int := clampI 0 65535 (ratRound v)
  (code c.1, code c.2.1, code c.2.2)

/-- A colour over the canvas sample below. -/
def blendPx (x : Layout) (s d : Int × Int × Int) (a la : Int) (premult : Bool) : Int × Int × Int :=
  let ea := rnd16 (a * la)
  if x.flags % 2 = 0 then
    (blend1 0 s.1 d.1 ea la premult, blend1 32768 s.2.1 d.2.1 ea la premult, blend1 32768 s.2.2 d.2.2 ea la premult)
  else
    let ls := toLinear16 x premult a s
    let ld := toLinear16 x false 65535 d
    fromLinear16 x (blend1 0 ls.1 ld.1 ea la premult, blend1 0 ls.2.1 ld.2.1 ea la premult, blend1 0 ls.2.2 ld.2.2 ea la premult)

/-- A layer as composition draws it: its entry and its source, none for the placeholder. -/
structure Drawn where
  e : LayEntry
  src : Option Src

/-- A point inside the destination rectangle, and inside the border around it (R341). -/
def LayEntry.inside (e : LayEntry) (x y : Int) : Bool := decide (e.dstX ≤ x) && decide (x < e.dstX + e.dstW) && decide (e.dstY ≤ y) && decide (y < e.dstY + e.dstH)
def LayEntry.inBorder (e : LayEntry) (x y : Int) : Bool :=
  e.flags / 4 % 2 == 1 && !e.inside x y && decide (e.dstX - e.borderW ≤ x) && decide (x < e.dstX + e.dstW + e.borderW) &&
  decide (e.dstY - e.borderW ≤ y) && decide (y < e.dstY + e.dstH + e.borderW)

/-- One layer over the canvas at a sample. -/
def drawLayer (x : Layout) (l : Drawn) (px py : Int) (d : Int × Int × Int) : Int × Int × Int :=
  let e := l.e
  if e.inBorder px py then blendPx x (e.borderY, e.borderCb, e.borderCr) d e.borderA e.alpha false
  else if e.inside px py then
    match l.src with
    | none => blendPx x (e.fillY, e.fillCb, e.fillCr) d e.fillA e.alpha false
    | some s =>
      let pm := s.hasAlpha && e.flags / 2 % 2 == 1
      let a := s.scaled e 3 px py
      let c := toCanvas x e pm (s.scaled e 0 px py) (s.scaled e 1 px py) (s.scaled e 2 px py) a
      blendPx x c d (if s.hasAlpha then clampI 0 65535 (ratRound a) else 65535) e.alpha pm
  else d

/-- The canvas at a sample: the background with every layer, entry 0 first (R324). -/
def canvasAt (x : Layout) (ls : List Drawn) (px py : Nat) : Int × Int × Int :=
  ls.foldl (fun d l => drawLayer x l px py d) (x.bg.1, x.bg.2.1, x.bg.2.2)

/-! ### Renditions (R346) -/

/-- A component of a canvas sample. -/
def comp3 (p : Int × Int × Int) (c : Nat) : Int := if c = 0 then p.1 else if c = 1 then p.2.1 else p.2.2

/-- A component of a rendition before chroma is reduced. -/
def rendComp (x : Layout) (ls : List Drawn) (s : Nat × Nat) (c px py : Nat) : Rat :=
  if s = (x.width, x.height) then (comp3 (canvasAt x ls px py) c : Rat)
  else tapSum (fun a b => (comp3 (canvasAt x ls a b) c : Rat)) (axisTaps true 0 s.1 0 x.width x.width px) (axisTaps true 0 s.2 0 x.height x.height py)

/-- A component quantised to a depth (R346). -/
def quantise (depth : Nat) (v : Rat) : Nat :=
  if depth = 8 then (clampI 1 254 ((v + 128) / 256).floor).toNat else (clampI 4 1019 ((v + 32) / 64).floor).toNat

/-- A chroma sample of the interleaved plane: filtered by [1, 2, 1] / 4 at even positions, and for 4:2:0 averaged over the two rows. -/
def rendChroma (x : Layout) (ls : List Drawn) (s : Nat × Nat) (is420 : Bool) (px py : Nat) : Rat :=
  let c := 1 + px % 2
  let col := px / 2 * 2
  let row (y : Nat) : Rat :=
    (rendComp x ls s c (col - 1) y + 2 * rendComp x ls s c col y + rendComp x ls s c (min (col + 1) (s.1 - 1)) y) / 4
  if is420 then (row (2 * py) + row (min (2 * py + 1) (s.2 - 1))) / 2 else row py

/-- The planes of a rendition in a shape. -/
def rendPlanes (x : Layout) (ls : List Drawn) (s : Nat × Nat) (sh : ShShape) : Plane × Plane :=
  (fun px py => quantise sh.depth (rendComp x ls s 0 px py), fun px py => quantise sh.depth (rendChroma x ls s (sh.fmt % 2 == 0) px py))

/-- A plane in linear form (R348, R349): each line padded to the pitch. -/
def linearBytes (p : Plane) (w h depth pitch : Nat) : List Byte :=
  (List.range h).flatMap (fun y =>
    let line := (List.range w).flatMap (fun x => if depth = 8 then leBytes 1 (p x y) else leBytes 2 (p x y * 64))
    line ++ List.replicate (pitch - line.length) 0)

end Sys2Proof.Machine
end

