-- ==== Sys2Proof/Machine/Mica.lean ====
section
/-! DEFINITION. Mica (chapter 7): the commands of layouts, composition at a picture tick, hints and static flags, and the MICA pages. -/

namespace Sys2Proof.Machine
open Sys2Proof

/-! ### Layer entries and descriptors -/

/-- A layer entry as its 64 bytes give it (Table 7-4). -/
def layEntryParse (b : List Byte) : LayEntry :=
  { flags := leAt b 0 1, kind := leAt b 1 1, source := leAt b 2 2, taint := leAt b 4 1, filter := leAt b 5 1, cspace := leAt b 6 1,
    cropX := leAt b 8 2, cropY := leAt b 10 2, cropW := leAt b 12 2, cropH := leAt b 14 2, dstX := signed 16 (leAt b 16 2), dstY := signed 16 (leAt b 18 2),
    dstW := leAt b 20 2, dstH := leAt b 22 2, alpha := leAt b 24 2, borderW := leAt b 26 1, borderY := leAt b 28 2, borderCb := leAt b 30 2,
    borderCr := leAt b 32 2, borderA := leAt b 34 2, fillY := leAt b 36 2, fillCb := leAt b 38 2, fillCr := leAt b 40 2, fillA := leAt b 42 2 }

/-- The largest size of an entry's source, where it is known (R330): a stream's declared one, a still's own. -/
def Dev.sourceSize (d : Dev) (e : LayEntry) : Option (Nat × Nat) :=
  if e.kind = 0 then (if (d.decS e.source).state = .idle then none else some ((d.decS e.source).desc.maxW, (d.decS e.source).desc.maxH))
  else if e.kind = 1 then
    let s := tabGetD {} d.mica.stills e.source
    if s.loaded then some (s.width, s.height) else none
  else none

/-- An axis is scaled by 1/8 to 16 (R325). -/
def scaleOk (dst crop : Nat) : Bool := decide (crop ≤ 8 * dst) && decide (dst ≤ 16 * crop)

/-- The checks of one entry at byte `o` of the array, in the order of its bytes (R325, Table 7-4). A whole source of unknown size passes. -/
def layEntryChecks (d : Dev) (b : List Byte) (o : Nat) : List Chk :=
  let e := layEntryParse b
  let vis := e.flags % 2 == 1 && decide (e.kind < 2)
  let size := if e.cropW = 0 then d.sourceSize e else some (e.cropW, e.cropH)
  let badAxis (f : Nat × Nat → Nat) (dst : Nat) : Bool := vis && (match size with | some s => !scaleOk dst (f s) | none => false)
  [badDesc o (decide (8 ≤ e.flags)), badDesc (o + 1) (decide (3 ≤ e.kind)),
   badDesc (o + 2) ((e.kind == 0 && decide (4096 ≤ e.source)) || (e.kind == 1 && decide (1024 ≤ e.source))),
   badDesc (o + 4) (decide (3 ≤ e.taint)), badDesc (o + 5) (decide (2 ≤ e.filter)),
   badDesc (o + 6) (decide (32 ≤ e.cspace) || e.cspace / 2 % 4 == 3 || e.cspace / 8 % 4 == 3), badDesc (o + 7) (leAt b 7 1 != 0),
   badDesc (o + 8) (e.cropX % 2 == 1), badDesc (o + 10) (e.cropY % 2 == 1), badDesc (o + 12) (e.cropW % 2 == 1 || badAxis (fun s => s.1) e.dstW),
   badDesc (o + 14) (e.cropH % 2 == 1 || badAxis (fun s => s.2) e.dstH), badDesc (o + 20) (decide (e.dstW < 2 ∨ 8192 < e.dstW)),
   badDesc (o + 22) (decide (e.dstH < 2 ∨ 8192 < e.dstH)), badDesc (o + 26) (decide (64 < e.borderW)), badDesc (o + 27) (leAt b 27 1 != 0),
   badDesc (o + 44) ((b.drop 44).any (· != 0))]

/-- The read rate of a bank in samples for one picture (R330). -/
def Dev.bankRead (d : Dev) (b : Tab LayEntry) : Nat :=
  sumN ((b.filter (fun e => e.2.flags % 2 == 1 && decide (e.2.kind < 2))).map (fun e =>
    if e.2.cropW = 0 then (match d.sourceSize e.2 with | some s => s.1 * s.2 | none => 0) else e.2.cropW * e.2.cropH))

/-- An output record as its 24 bytes give it (Table 7-3). -/
def layOutParse (b : List Byte) : LayOut :=
  { mode := leAt b 0 1, format := leAt b 1 1, count := leAt b 2 1, width := leAt b 4 2, height := leAt b 6 2, base := leAt b 8 8, stride := leAt b 16 4 }

/-- A layout descriptor as its 128 bytes give it (Table 7-2). -/
def layoutParse (l : List Byte) : Layout :=
  { conf := leAt l 0 2, pipe := leAt l 2 1, flags := leAt l 3 1, width := leAt l 4 2, height := leAt l 6 2, rateNum := leAt l 8 4, rateDen := leAt l 12 4,
    primaries := leAt l 16 1, transfer := leAt l 17 1, bg := (leAt l 18 2, leAt l 20 2, leAt l 22 2), margin := leAt l 24 2, budget := leAt l 28 4,
    outs := (List.range 4).map (fun o => layOutParse (l.drop (32 + 24 * o))) }

/-- The checks of a layout descriptor in the order of its bytes (R322). -/
def layoutDescChecks (l : List Byte) (d : Dev) : List Chk :=
  let x := layoutParse l
  [badDesc 0 (decide (512 ≤ x.conf)), badDesc 2 (decide (2 ≤ x.pipe)), badDesc 3 (decide (4 ≤ x.flags)),
   badDesc 4 (x.width % 2 == 1 || decide (x.width < 64 ∨ 8192 < x.width)), badDesc 6 (x.height % 2 == 1 || decide (x.height < 64 ∨ 4608 < x.height)),
   badDesc 8 (decide (x.rateNum < x.rateDen ∨ 120 * x.rateDen < x.rateNum)), badDesc 12 (x.rateDen == 0),
   badDesc 16 (decide (2 ≤ x.primaries)), badDesc 17 (decide (3 ≤ x.transfer)), badDesc 24 (decide (20000 < x.margin)), badDesc 26 (leAt l 26 2 != 0),
   badDesc 28 (decide (x.budget < 1 ∨ 16000 < x.budget))] ++
  (List.range 4).flatMap (fun o =>
    let b := 32 + 24 * o
    let y := x.out o
    let on := y.mode != 0
    [badDesc b (decide (3 ≤ y.mode)), badDesc (b + 1) (decide (8 ≤ y.format) || (y.mode != 2 && decide (4 ≤ y.format))),
     badDesc (b + 2) (on && decide (y.count < 2 ∨ 16 < y.count)), badDesc (b + 3) (leAt l (b + 3) 1 != 0),
     badDesc (b + 4) ((y.mode == 1 && y.width != 0) || (y.mode == 2 && (y.width % 2 == 1 || decide (y.width < 64 ∨ x.width < y.width)))),
     badDesc (b + 6) ((y.mode == 1 && y.height != 0) || (y.mode == 2 && (y.height % 2 == 1 || decide (y.height < 64 ∨ x.height < y.height)))),
     badDesc (b + 8) (on && (y.base % 4096 != 0 || !d.pinned 0 y.base (y.count * y.stride))),
     badDesc (b + 16) (on && (y.stride % 4096 != 0 || (y.mode == 2 && decide (y.stride < (y.slotMap x.hintOut [(y.width, y.height)]).2)))),
     badDesc (b + 20) (leAt l (b + 20) 4 != 0)])

/-! ### Commands (Table 7-5) -/

/-- The layout number a command names. -/
def layArg (c : HostCmd) : Chk := badArg 0 (decide (256 ≤ c.arg 0 2))

/-- A layout is in a state the command is allowed in. -/
def layAllowed (c : HostCmd) (s : State) (ok : List LayState) : Chk :=
  conflict (s.dev.layout (c.arg 0 2)).state.code (!ok.contains (s.dev.layout (c.arg 0 2)).state)

/-- LAYOUT_OPEN. -/
def layoutOpenSpec : OpSpec where
  opcode := 0x0500
  ownerOnly := true
  args := [(0, 2), (8, 8)]
  capture := fun c d => capturePinned d 0 (c.arg 8 8) 128
  checks := fun c s => [layArg c, badArg 8 (c.arg 8 8 % 64 != 0), layAllowed c s [.idle]]
  dchecks := fun _ l s => layoutDescChecks l s.dev
  run := devRun fun c l _ d =>
    let i := c.arg 0 2
    let x := layoutParse l
    let d := d.setLayout i { x with state := .opened, tickNo := x.tickCeil d.now }
    let d := (x.outs.filter (fun o => o.mode != 0)).foldl (fun (d : Dev) o => d.hold holdLayout i 0 o.base (o.count * o.stride)) d
    d.okNow 0

/-- The row LAYOUT_OPEN. -/
def execLayoutOpen (c : HostCmd) (s : State) : Host.Outcome State Fault Refusal := .next (runCmd layoutOpenSpec c s)

/-- LAYOUT_START: admission (R330, R355), and the first tick composed. -/
def layoutStartSpec : OpSpec where
  opcode := 0x0501
  ownerOnly := true
  args := [(0, 2)]
  checks := fun c s =>
    let x := s.dev.layout (c.arg 0 2)
    [layArg c, layAllowed c s [.opened],
     noRes (decide (8000000000 < s.dev.pipeProduce x.pipe + s.dev.produceRate (c.arg 0 2) (4, [])) || decide (16000 < s.dev.pipeRead x.pipe + x.budget))]
  run := devRun fun c _ _ d =>
    let i := c.arg 0 2
    let x := d.layout i
    let k := x.tickCeil d.now
    let d := d.setLayout i { x with
      state := .running, tickNo := k, prevEntries := [], prevShown := [], comp := none
      outs := x.outs.map (fun o => { o with seq := 0, unread := [], sizes := [] }) }
    (d, .done .ok 0 (shortOf (x.tickAt k)))

/-- The row LAYOUT_START. -/
def execLayoutStart (c : HostCmd) (s : State) : Host.Outcome State Fault Refusal := .next (runCmd layoutStartSpec c s)

/-- LAYOUT_STOP. -/
def layoutStopSpec : OpSpec where
  opcode := 0x0502
  ownerOnly := true
  args := [(0, 2)]
  checks := fun c s => [layArg c, layAllowed c s [.running]]
  run := devRun fun c _ _ d =>
    let x := d.layout (c.arg 0 2)
    (d.setLayout (c.arg 0 2) { x with state := .opened }, .done .ok 0 (shortOf (x.tickAt x.tickNo)))

/-- The row LAYOUT_STOP. -/
def execLayoutStop (c : HostCmd) (s : State) : Host.Outcome State Fault Refusal := .next (runCmd layoutStopSpec c s)

/-- LAYOUT_CLOSE: the encode streams bound to the layout close. -/
def layoutCloseSpec : OpSpec where
  opcode := 0x0503
  ownerOnly := true
  args := [(0, 2)]
  checks := fun c s => [layArg c, layAllowed c s [.opened]]
  run := devRun fun c _ _ d =>
    let i := c.arg 0 2
    let es := (d.geode.enc.filter (fun e => decide (e.2.state = .opened ∨ e.2.state = .running ∨ e.2.state = .suspended) && e.2.desc.source == 0 && e.2.desc.layout == i)).map (fun e => e.1)
    let d := es.foldl (fun (d : Dev) k => d.encClose k) d
    ((d.setLayout i {}).unhold holdLayout i).okNow es.length

/-- The row LAYOUT_CLOSE. -/
def execLayoutClose (c : HostCmd) (s : State) : Host.Outcome State Fault Refusal := .next (runCmd layoutCloseSpec c s)

/-- The bank of a layout after a load. -/
def loadBank (b : Tab LayEntry) (first : Nat) (l : List Byte) (count : Nat) : Tab LayEntry :=
  (List.range count).foldl (fun t k => tabPutD {} t (first + k) (layEntryParse ((l.drop (64 * k)).take 64))) b

/-- LAYER_LOAD (R325, R327, R330, R331). -/
def layerLoadSpec : OpSpec where
  opcode := 0x0504
  ownerOnly := true
  args := [(0, 2), (2, 3), (8, 8)]
  capture := fun c d => capturePinned d 0 (c.arg 8 8) (64 * c.arg 4 1)
  checks := fun c s => [layArg c, badArg 2 (decide (2 ≤ c.arg 2 1) || c.arg 2 1 == s.dev.activeBank (c.arg 0 2)), badArg 3 (decide (64 ≤ c.arg 3 1)),
    badArg 4 (decide (c.arg 4 1 < 1 ∨ 64 < c.arg 3 1 + c.arg 4 1)), layAllowed c s [.opened, .running]]
  dchecks := fun c l s =>
    let x := s.dev.layout (c.arg 0 2)
    (List.range (c.arg 4 1)).flatMap (fun k => layEntryChecks s.dev ((l.drop (64 * k)).take 64) (64 * k)) ++
    [noRes (decide (((x.budget * 1000000 : Nat) : Rat) < (s.dev.bankRead (loadBank (x.bank (c.arg 2 1)) (c.arg 3 1) l (c.arg 4 1)) : Rat) * x.rateNum / x.rateDen))]
  run := devRun fun c l _ d =>
    let d := d.onLayout (c.arg 0 2) (fun x =>
      let b := loadBank (x.bank (c.arg 2 1)) (c.arg 3 1) l (c.arg 4 1)
      if c.arg 2 1 = 0 then { x with bank0 := b } else { x with bank1 := b })
    d.okNow 0

/-- The row LAYER_LOAD. -/
def execLayerLoad (c : HostCmd) (s : State) : Host.Outcome State Fault Refusal := .next (runCmd layerLoadSpec c s)

/-- LAYOUT_FLIP: the live and the shadow bit (R328). -/
def layoutFlipSpec : OpSpec where
  opcode := 0x0505
  ownerOnly := true
  args := [(0, 2), (2, 1)]
  checks := fun c s => [layArg c, badArg 2 (decide (2 ≤ c.arg 2 1)), layAllowed c s [.opened, .running]]
  run := devRun fun c _ _ d =>
    let i := c.arg 0 2
    let x := d.layout i
    let p := pgMica x.pipe
    let o := 0x100 + 8 * (i / 64)
    let d := d.setReg p o (setFld (d.reg p o) (i % 64) 1 (c.arg 2 1))
    let d := d.setShadow p o (setFld (d.shadowReg p o) (i % 64) 1 (c.arg 2 1))
    (d, .done .ok 0 (shortOf (x.tickAt (x.tickCeil d.now))))

/-- The row LAYOUT_FLIP. -/
def execLayoutFlip (c : HostCmd) (s : State) : Host.Outcome State Fault Refusal := .next (runCmd layoutFlipSpec c s)

/-- LAYER_BYPASS. -/
def layerBypassSpec : OpSpec where
  opcode := 0x0506
  ownerOnly := true
  args := [(0, 2), (2, 2)]
  checks := fun c s => [layArg c, badArg 2 (decide (64 ≤ c.arg 2 1)), badArg 3 (decide (2 ≤ c.arg 3 1)), layAllowed c s [.opened, .running]]
  run := devRun fun c _ _ d =>
    let d := d.onLayout (c.arg 0 2) (fun x =>
      { x with bypass := (if c.arg 3 1 = 1 then [c.arg 2 1] else []) ++ x.bypass.filter (· != c.arg 2 1) })
    d.okNow 0

/-- The row LAYER_BYPASS. -/
def execLayerBypass (c : HostCmd) (s : State) : Host.Outcome State Fault Refusal := .next (runCmd layerBypassSpec c s)

/-- The bytes a still takes in its source and in the pool (Table 7-6); a surface's by the format and offsets of its own header (R310). -/
def Dev.stillBytes (d : Dev) (c : HostCmd) : Nat :=
  if c.arg 2 1 = 0 then
    let h := d.peekVa 0 (c.arg 16 8) 24
    let sh : ShShape := ⟨c.arg 4 2, c.arg 6 2, leAt h 4 1 % 4⟩
    max (leAt h 8 8 + 16 * sh.tiles) (leAt h 16 8 + 32 * sh.depth * sh.tiles)
  else c.arg 8 4 * c.arg 6 2

/-- A still slot's address in realm 0, in the pool of STILL_BASE and STILL_SLOT. -/
def Dev.stillVa (d : Dev) (slot : Nat) : Nat := fld (d.reg (pgMica 0) 0x058) 16 32 * 65536 + slot * fld (d.reg (pgMica 0) 0x060) 0 32

/-- STILL_LOAD (R331). -/
def stillLoadSpec : OpSpec where
  opcode := 0x0507
  ownerOnly := true
  args := [(0, 3), (4, 8), (16, 8)]
  capture := fun c d => capturePinned d 0 (c.arg 16 8) (d.stillBytes c)
  checks := fun c _ => [badArg 0 (decide (1024 ≤ c.arg 0 2)), badArg 2 (decide (3 ≤ c.arg 2 1)),
    badArg 4 (c.arg 4 2 % 2 == 1 || decide (c.arg 4 2 < 64 ∨ 4096 < c.arg 4 2)), badArg 6 (c.arg 6 2 % 2 == 1 || decide (c.arg 6 2 < 64 ∨ 2304 < c.arg 6 2)),
    badArg 8 (c.arg 2 1 != 0 && (c.arg 8 4 % 64 != 0 || decide (c.arg 8 4 < c.arg 4 2 * 4 * c.arg 2 1)))]
  dchecks := fun _ l s => [noRes (!bit (s.dev.reg (pgMica 0) 0x058) 0 || decide (fld (s.dev.reg (pgMica 0) 0x060) 0 32 < l.length))]
  run := devRun fun c l _ d =>
    let i := c.arg 0 2
    let d := d.writeVa 0 (d.stillVa i) l
    let old := tabGetD {} d.mica.stills i
    let st : Still := ⟨true, c.arg 2 1, c.arg 4 2, c.arg 6 2, c.arg 8 4, old.gen + 1⟩
    { d with mica := { d.mica with stills := tabPutD {} d.mica.stills i st } }.okNow i

/-- The row STILL_LOAD. -/
def execStillLoad (c : HostCmd) (s : State) : Host.Outcome State Fault Refusal := .next (runCmd stillLoadSpec c s)

/-- LAYOUT_QUERY. -/
def layoutQuerySpec : OpSpec where
  opcode := 0x0508
  ownerOnly := true
  args := [(0, 2)]
  checks := fun c _ => [layArg c]
  run := devRun fun c _ _ d => (d, .done .ok (d.layout (c.arg 0 2)).state.code (d.layout (c.arg 0 2)).lastTick)

/-- The row LAYOUT_QUERY. -/
def execLayoutQuery (c : HostCmd) (s : State) : Host.Outcome State Fault Refusal := .next (runCmd layoutQuerySpec c s)

/-! ### What each entry shows (R333 to R335) -/

/-- A MICA event (R362): layout, entry or output, and the tick. -/
def Dev.micaEvent (d : Dev) (pipe b l n : Nat) (tick : Time) : Dev :=
  d.raise (pgMica pipe) b (0x0C0 + pipe) (if b = 5 then 0x0409 else 0x0501 + b) (fmk 0 8 l ||| fmk 8 8 n) (shortOf tick)

/-- An entry is drawn. -/
def LayEntry.visible (e : LayEntry) : Bool := e.flags % 2 == 1

/-- The choice for an entry at a tick: it waits while a picture whose marks decide it has been released, is ready and is not decoded. -/
def Dev.choose (d : Dev) (x : Layout) (tick : Time) (e : LayEntry) : Choice :=
  if !e.visible then .made .hidden
  else if e.kind = 1 then
    let s := tabGetD {} d.mica.stills e.source
    if s.loaded then .made (.still s.gen) else .made .fill
  else if e.kind = 2 then .made .fill
  else
    let y := d.decS e.source
    if y.state = .idle then .made .fill
    else if y.jobs.any (fun j => decide (j.due + d.sourceMargin x * usT ≤ tick)) then .waits
    else
      match y.cands (d.sourceMargin x) tick with
      | (none, _) => .made .fill
      | (some p, clean) =>
        let hold := (e.taint == 1 && p.tainted) || (e.taint == 2 && (p.tainted || p.concealed))
        if hold then (match clean with | some q => .made (.pic q true) | none => .made .fill) else .made (.pic p false)

/-- A choice has been made. -/
def Choice.done : Choice → Bool
  | .made _ => true
  | .waits => false

/-- What a choice shows. -/
def Choice.shown : Choice → Shown
  | .made s => s
  | .waits => .fill

/-- The source an entry draws from (R334): a surface of its stream, a still as the tick found it, or none for the placeholder. -/
def Dev.drawSource (d : Dev) (cp : Composing) (e : LayEntry) (s : Shown) : Option Src :=
  match s with
  | .pic p _ =>
    let y := d.decS e.source
    some (surfaceSrc (d.surface y.realm (y.desc.surface p.surface)) e.cspace)
  | .still _ =>
    let st := tabGetD {} d.mica.stills e.source
    match cp.stills.find? (fun b => b.1 == e.source) with
    | some b => some (if st.format = 0 then surfaceSrc (bytesReader b.2) e.cspace else rgbaSrc b.2 st)
    | none => none
  | _ => none

/-- The layers of a composition, in order (R324). -/
def Dev.drawn (d : Dev) (cp : Composing) : List Drawn :=
  ((cp.entries.zip cp.choices).filter (fun p => p.1.visible)).map (fun p => ⟨p.1, d.drawSource cp p.1 p.2.shown⟩)

/-! ### Hints and static flags (R352 to R354) -/

/-- A canvas position of a rendition's sample, as a rational sample coordinate. -/
def canvasPos (canvas rend : Nat) (x : Rat) : Rat := (x + 1 / 2) * canvas / (max 1 rend : Nat) - 1 / 2

/-- An entry covers a canvas position, with its border (R352). -/
def LayEntry.covers (e : LayEntry) (x y : Rat) : Bool :=
  let b : Rat := if e.flags / 4 % 2 = 1 then e.borderW else 0
  decide ((e.dstX : Rat) - b ≤ x + 1 / 2) && decide (x + 1 / 2 < (e.dstX : Rat) + e.dstW + b) &&
  decide ((e.dstY : Rat) - b ≤ y + 1 / 2) && decide (y + 1 / 2 < (e.dstY : Rat) + e.dstH + b)

/-- The columns, or rows, of tile `i` on an axis of `n` samples. -/
def tileSpan (i n : Nat) : List Nat := (List.range 64).filterMap (fun k => if 64 * i + k < n then some (64 * i + k) else none)

/-- The dominant layer of a tile: none for the background (R352). -/
def dominant (x : Layout) (es : List LayEntry) (s : Nat × Nat) (tx ty : Nat) : Option Nat :=
  let tops := (tileSpan ty s.2).flatMap (fun (py : Nat) => (tileSpan tx s.1).map (fun (px : Nat) =>
    let cx := canvasPos x.width s.1 px
    let cy := canvasPos x.height s.2 py
    ((List.range es.length).filter (fun k => match es[k]? with | some e => e.visible && decide (0 < e.alpha) && e.covers cx cy | none => false)).getLast?))
  let count (o : Option Nat) : Nat := (tops.filter (fun t => decide (t = o))).length
  (List.range es.length).foldl (fun best k => if count best ≤ count (some k) ∧ 0 < count (some k) then some k else best) none

/-- The crop of an entry on an axis: its own, or the whole source, which for a colour is its rectangle. -/
def cropOf (e : LayEntry) (own full dst : Nat) : Nat := if e.cropW = 0 then (if full = 0 then dst else full) else own

/-- The displacement of a tile on an axis (R353): centre `c` in canvas coordinates, the entry now and before, scaled to the rendition, in
quarter-pel. -/
def hintAxis (c : Rat) (crop0 crop cropB0 cropB : Nat) (dst0 dstB0 : Int) (dst dstB rend canvas : Nat) : Int :=
  let u : Rat := crop0 + (c - dst0) * crop / (max 1 dst : Nat)
  let p : Rat := dstB0 + (u - cropB0) * dstB / (max 1 cropB : Nat)
  clampI (-16383) 16383 (ratRound ((p - c) * rend / (max 1 canvas : Nat) * 4))

/-- The size of what an entry shows. -/
def Dev.shownSize (d : Dev) (e : LayEntry) (s : Shown) : Nat × Nat :=
  match s with
  | .pic p _ => (p.w, p.h)
  | .still _ => ((tabGetD {} d.mica.stills e.source).width, (tabGetD {} d.mica.stills e.source).height)
  | _ => (0, 0)

/-- Two entries show the same content (R354). -/
def sameShown (a b : Shown) : Bool :=
  match a, b with
  | .pic p _, .pic q _ => p.num == q.num
  | .still m, .still n => m == n
  | .hidden, .hidden => true
  | .fill, .fill => true
  | _, _ => false

/-- An entry's rectangle with its border meets the canvas area a tile's scaler reads. -/
def LayEntry.meets (e : LayEntry) (x0 x1 y0 y1 : Rat) : Bool :=
  let b : Rat := if e.flags / 4 % 2 = 1 then e.borderW else 0
  decide ((e.dstX : Rat) - b ≤ x1) && decide (x0 ≤ (e.dstX : Rat) + e.dstW + b) && decide ((e.dstY : Rat) - b ≤ y1) && decide (y0 ≤ (e.dstY : Rat) + e.dstH + b)

/-- A tile is STATIC (R354). `fresh` says that the rendition has no previous picture in the same set. -/
def Dev.tileStatic (x : Layout) (cp : Composing) (fresh : Bool) (s : Nat × Nat) (tx ty : Nat) : Bool :=
  if fresh ∨ x.prevEntries.isEmpty then false
  else
    let fx : Rat := (x.width : Rat) / (max 1 s.1 : Nat)
    let fy : Rat := (x.height : Rat) / (max 1 s.2 : Nat)
    let x0 := (64 * tx : Nat) * fx - 4 * fx
    let x1 := ((min (64 * tx + 64) s.1 : Nat) : Rat) * fx + 4 * fx
    let y0 := (64 * ty : Nat) * fy - 4 * fy
    let y1 := ((min (64 * ty + 64) s.2 : Nat) : Rat) * fy + 4 * fy
    (List.range 64).all (fun k =>
      let e := nthD {} cp.entries k
      let p := nthD {} x.prevEntries k
      let now := (nthD (.made .hidden) cp.choices k).shown
      let was := nthD Shown.hidden x.prevShown k
      let touches := (e.visible && e.meets x0 x1 y0 y1) || (p.visible && p.meets x0 x1 y0 y1)
      !touches || (decide (e = p) && sameShown now was))

/-- The hint entry of a tile (Table 7-10). -/
def Dev.hintEntry (d : Dev) (x : Layout) (cp : Composing) (fresh : Bool) (s : Nat × Nat) (tx ty : Nat) : Nat :=
  let st := if Dev.tileStatic x cp fresh s tx ty then 2 ^ 31 else 0
  match dominant x cp.entries s tx ty with
  | none => st
  | some k =>
    let e := nthD {} cp.entries k
    let p := nthD {} x.prevEntries k
    if x.prevEntries.isEmpty ∨ p.visible = false ∨ e.kind ≠ p.kind ∨ e.source ≠ p.source then st
    else
      let n := d.shownSize e (nthD (.made .hidden) cp.choices k).shown
      let o := d.shownSize p (nthD Shown.hidden x.prevShown k)
      let cx := canvasPos x.width s.1 (((64 * tx + min (64 * tx + 64) s.1 - 1 : Nat) : Rat) / 2)
      let cy := canvasPos x.height s.2 (((64 * ty + min (64 * ty + 64) s.2 - 1 : Nat) : Rat) / 2)
      let dx := hintAxis cx (if e.cropW = 0 then 0 else e.cropX) (cropOf e e.cropW n.1 e.dstW) (if p.cropW = 0 then 0 else p.cropX) (cropOf p p.cropW o.1 p.dstW)
        e.dstX p.dstX e.dstW p.dstW s.1 x.width
      let dy := hintAxis cy (if e.cropW = 0 then 0 else e.cropY) (cropOf e e.cropH n.2 e.dstH) (if p.cropW = 0 then 0 else p.cropY) (cropOf p p.cropH o.2 p.dstH)
        e.dstY p.dstY e.dstH p.dstH s.2 x.height
      wrapTo 15 dx + wrapTo 15 dy * 2 ^ 15 + 2 ^ 30 + st

/-- The hint map of a rendition, row-major. -/
def Dev.hintMap (d : Dev) (x : Layout) (cp : Composing) (fresh : Bool) (s : Nat × Nat) : List Nat :=
  (List.range ((s.2 + 63) / 64)).flatMap (fun ty => (List.range ((s.1 + 63) / 64)).map (fun tx => d.hintEntry x cp fresh s tx ty))

/-! ### Composition -/

/-- A slot of an output. -/
def LayOut.slotVa (o : LayOut) (slot : Nat) : Nat := o.base + slot * o.stride

/-- A mask of entries by what they show (Table 7-9). -/
def shownMask (cp : Composing) (f : Shown → Bool) : Nat :=
  sumN ((List.range 64).map (fun k => if f (nthD (.made .hidden) cp.choices k).shown then 2 ^ k else 0))

/-- The slot header without its SEQUENCE (Table 7-9). -/
def slotHeader (x : Layout) (cp : Composing) (o : LayOut) (rs : List (Nat × Nat)) (m : List (Nat × Nat)) : List Byte :=
  leBytes 8 0 ++ leBytes 8 (shortOf cp.tick).toNat ++ leBytes 1 rs.length ++ leBytes 1 cp.bank ++ (List.replicate 6 0 : List Byte) ++
  leBytes 8 (shownMask cp (fun s => match s with | .pic p _ => p.tainted | _ => false)) ++
  leBytes 8 (shownMask cp (fun s => match s with | .pic p _ => p.concealed | _ => false)) ++
  leBytes 8 (shownMask cp (fun s => match s with | .pic _ h => h | _ => false)) ++
  leBytes 8 (shownMask cp (fun s => decide (s = .fill))) ++ leBytes 8 0 ++
  (List.range rs.length).flatMap (fun r =>
    let s := nthD (0, 0) rs r
    let p := nthD (0, 0) m r
    leBytes 2 s.1 ++ leBytes 2 s.2 ++ leBytes 4 0 ++ leBytes 8 p.1 ++ leBytes 8 (if x.hintOut then p.2 else 0) ++ leBytes 4 (if o.linear then o.pitch s.1 else 0) ++ leBytes 4 0) ++
  (List.replicate (4032 - 32 * rs.length) 0 : List Byte)

/-- One output of a composition written to its slot: renditions, hint maps and header (R347, R348). -/
def Dev.writeOutput (d : Dev) (l : Nat) (x : Layout) (cp : Composing) (ls : List Drawn) (oi slot : Nat) : Dev :=
  let o := x.out oi
  let rs := d.renditions l oi []
  let m := (o.slotMap x.hintOut rs).1
  let fresh := decide (o.sizes ≠ rs)
  let va := o.slotVa slot
  let maps := rs.map (fun s => d.hintMap x cp fresh s)
  let d := (List.range rs.length).foldl (fun (d : Dev) r =>
    let s := nthD (0, 0) rs r
    let p := nthD (0, 0) m r
    let sh := o.shape s
    let pl := rendPlanes x ls s sh
    let d := if o.linear then
        (d.writeVa 0 (va + p.1) (linearBytes pl.1 s.1 s.2 sh.depth (o.pitch s.1))).writeVa 0 (va + p.1 + o.pitch s.1 * s.2)
          (linearBytes pl.2 s.1 sh.chromaH sh.depth (o.pitch s.1))
      else
        let w := d.freeWord
        d.tickFree.writeSurface 0 (va + p.1) sh ⟨shortOf cp.tick, fld w 0 32, 0, 0, fld w 32 16⟩ pl.1 pl.2
    let hints := nthD [] maps r
    let d := d.bump (pgMica x.pipe) 0x0A0 ((hints.filter (fun h => decide (2 ^ 31 ≤ h))).length)
    if x.hintOut then d.writeVa 0 (va + p.2) (hints.flatMap (leBytes 4)) else d) d
  let d := d.writeVa 0 va (slotHeader x cp o rs m)
  let d := d.encRends l oi va ((List.range rs.length).map (fun r => (nthD (0, 0) rs r, (nthD (0, 0) m r).1, nthD [] maps r)))
  d.onLayout l (fun y => y.onOut oi (fun q => { q with sizes := rs }))

/-- Bad tiles of a surface counted and raised, each by the surface's address and its number (R318). -/
def Dev.tileErrors (d : Dev) (pipe va : Nat) (rd : Reader) : Dev :=
  (badTiles rd (readShape rd)).foldl (fun (d : Dev) t =>
    (d.inc (pgMica pipe) 0x0A8).raise (pgMica pipe) 5 (0x0C0 + pipe) 0x0409 (fmk 0 64 va) (fmk 0 64 t)) d

/-- Tiles that a composition could not read, of pictures and of stills (R318, R358). -/
def Dev.reportTiles (d : Dev) (x : Layout) (cp : Composing) : Dev :=
  (cp.entries.zip cp.choices).foldl (fun (d : Dev) p =>
    match p.2.shown with
    | .pic q _ =>
      let y := d.decS p.1.source
      let va := y.desc.surface q.surface
      d.tileErrors x.pipe va (d.surface y.realm va)
    | .still _ =>
      (match cp.stills.find? (fun b => b.1 == p.1.source) with
       | some b => if (tabGetD {} d.mica.stills p.1.source).format = 0 then d.tileErrors x.pipe (d.stillVa p.1.source) (bytesReader b.2) else d
       | none => d)
    | _ => d) d

/-- A composition whose every choice is made writes its samples; one that waits asks again. -/
def Dev.micaResolve (d : Dev) (l : Nat) : Dev :=
  let x := d.layout l
  match x.comp with
  | none => d
  | some cp =>
    if cp.written then d
    else
      let cs := (cp.entries.zip cp.choices).map (fun p => match p.2 with | .waits => d.choose x cp.tick p.1 | c => c)
      let cp := { cp with choices := cs }
      if !cs.all Choice.done then d.setLayout l { x with comp := some cp }
      else
        let cp := { cp with written := true }
        let d := d.setLayout l { x with comp := some cp }
        let ls := d.drawn cp
        let d := cp.outs.foldl (fun (d : Dev) o => d.writeOutput l x cp ls o.1 o.2) d
        let held := cs.filter (fun c => match c.shown with | .pic _ h => h | _ => false)
        let d := (d.bump (pgMica x.pipe) 0x078 held.length).bump (pgMica x.pipe) 0x080 ((cs.filter (fun c => decide (c.shown = .fill))).length)
        let d := (List.range 64).foldl (fun (d : Dev) k =>
          let now := match (nthD (.made .hidden) cs k).shown with | .pic _ h => h | _ => false
          let was := match nthD Shown.hidden x.prevShown k with | .pic _ h => h | _ => false
          if now && !was then d.micaEvent x.pipe 4 l k cp.tick else d) d
        d.reportTiles x cp

/-- Every composition that waits asks again. -/
def Dev.micaResolveAll (d : Dev) : Dev := (d.mica.layouts.map (fun e => e.1)).foldl (fun (d : Dev) l => d.micaResolve l) d

/-- A composed picture completes: SEQUENCE is written last, and one past its deadline is counted (R349, R356). -/
def Dev.micaDone (d : Dev) (l : Nat) : Dev :=
  let x := d.layout l
  match x.comp with
  | none => d
  | some cp =>
    if !cp.written then d
    else
      let d := cp.outs.foldl (fun (d : Dev) o => d.writeVa 0 ((x.out o.1).slotVa o.2) (leBytes 8 (x.out o.1).seq)) d
      let d := d.inc (pgMica x.pipe) 0x068
      let late := decide (cp.tick + x.rateDen * secT / max 1 x.rateNum < d.now)
      let d := if late then (d.inc (pgMica x.pipe) 0x088).micaEvent x.pipe 1 l 0 cp.tick else d
      d.onLayout l (fun y => { y with comp := none, prevEntries := cp.entries, prevShown := cp.choices.map Choice.shown, lastTick := shortOf cp.tick })

/-- The row MICA_PICTURE_DONE. -/
def execMicaPictureDone (layout : Nat) (s : State) : Host.Outcome State Fault Refusal := .next (s.actReady (fun d => d.micaDone layout))

/-- SOURCE_LATE: half a period after the tick, an entry whose picture is not decoded shows what it showed at the tick before (R335). -/
def Dev.sourceLate (d : Dev) (l entry : Nat) : Dev :=
  let x := d.layout l
  match x.comp with
  | none => d
  | some cp =>
    match cp.choices[entry]? with
    | some .waits =>
      let cp' := { cp with choices := setNth cp.choices entry (.made (match nthD Shown.fill x.prevShown entry with | .hidden => .fill | s => s)) }
      let d := (d.setLayout l { x with comp := some cp' }).inc (pgMica x.pipe) 0x070
      (d.micaEvent x.pipe 0 l entry cp.tick).micaResolve l
    | _ => d

/-- The row SOURCE_LATE, due at tick + period / 2. -/
def execSourceLate (layout entry : Nat) (s : State) : Host.Outcome State Fault Refusal :=
  .next (s.actReady (fun d =>
    match (d.layout layout).comp with
    | some cp => if cp.tick + (d.layout layout).rateDen * secT / max 1 (d.layout layout).rateNum / 2 ≤ d.now then d.sourceLate layout entry else d
    | none => d))

/-- A slot of a NATIVE output that some encode job still reads (R350). -/
def Dev.slotHeld (d : Dev) (l oi va : Nat) : Bool :=
  d.geode.enc.any (fun e => e.2.desc.source == 0 && e.2.desc.layout == l && e.2.desc.output == oi && e.2.jobs.any (fun j => decide (j.slot = some va)))

/-- A picture tick of one output: its next slot is taken, or it is not composed; its jobs are queued (R217, R350, R351). The answer is the
slot to write. -/
def Dev.tickOutput (d : Dev) (l oi : Nat) (tick : Time) (rtp : Nat) : Dev × Option (Nat × Nat) :=
  let x := d.layout l
  let o := x.out oi
  let slot := o.seq % max 1 o.count
  let streams := d.outStreams l oi
  let phase := match (streams.filter (fun e => decide (e.2.state ≠ .opened))).head? with | some e => e.2.count % 4 | none => 0
  let queue (d : Dev) (a : Option Nat) : Dev := streams.foldl (fun (d : Dev) e => d.encTick e.1 (shortOf tick) rtp a phase) d
  -- R354: an output that is not composed leaves its next picture without a previous one
  let without (d : Dev) : Dev := d.onLayout l (fun y => y.onOut oi (fun q => { q with sizes := [] }))
  if o.mode = 0 ∨ (o.mode = 1 ∧ streams.isEmpty) then (without d, none)
  else if o.mode = 1 then
    if d.slotHeld l oi (o.slotVa slot) then (queue ((without (d.inc (pgMica x.pipe) 0x090)).micaEvent x.pipe 2 l oi tick) none, none)
    else
      let d := d.onLayout l (fun y => y.onOut oi (fun q => { q with seq := q.seq + 1 }))
      (queue d (some (o.slotVa slot)), some (oi, slot))
  else
    let d := if o.unread.contains slot then (d.inc (pgMica x.pipe) 0x098).micaEvent x.pipe 3 l oi tick else d
    (d.onLayout l (fun y => y.onOut oi (fun q => { q with seq := q.seq + 1, unread := slot :: q.unread.filter (· != slot) })), some (oi, slot))

/-- A picture tick of a layout (R217, R326): a composition still in hand completes, and a RUNNING layout begins the next one. -/
def Dev.micaTick (d : Dev) (l : Nat) : Dev :=
  let x := d.layout l
  let k := x.tickNo
  let tick := x.tickAt k
  let d := d.setLayout l { x with tickNo := k + 1 }
  if x.state ≠ .running ∨ (d.page (pgMica x.pipe)).state ≠ .ready then d
  else
    let d := match (d.layout l).comp with
      | some cp => ((List.range cp.choices.length).foldl (fun (d : Dev) e => d.sourceLate l e) d).micaDone l
      | none => d
    let x := d.layout l
    let b := d.activeBank l
    let es := (List.range 64).map (fun i =>
      let e := tabGetD {} (x.bank b) i
      if x.bypass.contains i then { e with flags := e.flags / 2 * 2 } else e)
    let cs := es.map (fun e => d.choose x tick e)
    let stills := (es.filter (fun e => e.visible && e.kind == 1)).filterMap (fun e =>
      let s := tabGetD {} d.mica.stills e.source
      if s.loaded then some (e.source, d.peekVa 0 (d.stillVa e.source) (fld (d.reg (pgMica 0) 0x060) 0 32)) else none)
    let r := (List.range 4).foldl (fun (a : Dev × List (Nat × Nat)) o =>
      let t := a.1.tickOutput l o tick (x.tickRtp k)
      (t.1, a.2 ++ t.2.toList)) (d, [])
    (r.1.onLayout l (fun y => { y with comp := some ⟨tick, b, es, cs, stills, r.2, false⟩ })).micaResolve l

/-- The row DEC_JOB_DONE: the picture is finished, and compositions that wait for it go on. -/
def execDecJobDone (stream : Nat) (r : DecIn) (s : State) : Host.Outcome State Fault Refusal :=
  .next (s.actReady (fun d => (d.decDone stream r).micaResolveAll))

/-! ### The MICA page -/

/-- A write to STILL_BASE: its other fields only while ENABLE is 0, and ENABLE only over a PINNED pool (R361). -/
def Dev.stillBaseWrite (d : Dev) (v : Word) : Dev :=
  let p := pgMica 0
  let on := bit (d.reg p 0x058) 0
  let m := d.mergeAt p 0x058 v
  let held := if on && fld m.1 16 32 != fld (d.reg p 0x058) 16 32 then setFld m.1 16 32 (fld (d.reg p 0x058) 16 32) else m.1
  let d := if on && fld m.1 16 32 != fld (d.reg p 0x058) 16 32 then (d.errs p m.2).err p .badState else d.errs p m.2
  let bytes := 1024 * fld (d.reg p 0x060) 0 32
  if bit held 0 && !on then
    if bytes ≠ 0 ∧ d.pinned 0 (fld held 16 32 * 65536) bytes = true then (d.setReg p 0x058 held).hold holdStill 0 0 (fld held 16 32 * 65536) bytes
    else (d.setReg p 0x058 (setFld held 0 1 0)).err p .badState
  else if !bit held 0 && on then (d.setReg p 0x058 held).unhold holdStill 0
  else d.setReg p 0x058 held


/-- The row MICA_INTERNAL_FAULT (R359). -/
def execMicaInternalFault (i : Nat) (s : State) : Host.Outcome State Fault Refusal :=
  .next (s.act (fun d => if 2 ≤ i ∨ (d.page (pgMica i)).state = .off then d else d.onPage (pgMica i) (fun h => { h with state := .faulted })))

/-- The state a MICA page reports: ACTIVE while a layout of its pipeline is RUNNING (R359). -/
def Dev.micaState (d : Dev) (i : Nat) : PState :=
  let st := (d.page (pgMica i)).state
  if st = .ready ∧ (d.runningLayouts i).isEmpty = false then .active else st

/-- PIPE_LOAD (Table 7-11). -/
def Dev.micaRead (d : Dev) (i off : Nat) : Option Word :=
  if off = 0x048 then some (fmk 0 9 (d.runningLayouts i).length ||| fmk 16 16 ((d.pipeProduce i / 1000000).floor.toNat) ||| fmk 32 16 (d.pipeRead i)) else none

/-- A MEMORY slot whose SEQUENCE lies in bytes of device memory that are read has been read back (R351). -/
def Dev.readBack (d : Dev) (a n : Nat) : Dev :=
  { d with mica := { d.mica with layouts := tabMapD {} d.mica.layouts (fun _ x =>
      { x with outs := x.outs.map (fun o => { o with unread := o.unread.filter (fun s =>
          match d.translate 0 (o.slotVa s) false with
          | .ok (0, p) => !(decide (a ≤ p) && decide (p < a + n))
          | _ => true) }) }) } }

end Sys2Proof.Machine
end

