-- ==== Sys2Proof/Machine/Quartz.lean ====
section
/-! DEFINITION. Quartz (chapter 3): the clock, the best master clock algorithm, the servo, PPS, and Quartz's commands.
STEP_APPLY, which touches every unit, stands in Boundary.lean, and the messages in frames in Frame.lean. -/

namespace Sys2Proof.Machine
open Sys2Proof

/-- The codes of Table 3-3. -/
def Servo.code : Servo → Nat
  | .freerun => 0 | .acquiring => 1 | .locked => 2 | .holdover => 3 | .stepRefused => 4

/-- 2^k seconds. -/
def pow2Sec (k : Int) : Time := if 0 ≤ k then secT * 2 ^ k.toNat else secT / 2 ^ (-k).toNat

/-- The clock after `n` ticks of 1 GHz (R112): INCR in 2^-32 ns each. -/
def Clock.tick (c : Clock) (n : Nat) : Clock :=
  let t := (c.ns * 65536 + c.frac) * 65536 + c.sub + n * c.incr
  let sub := t % 65536
  let frac := t / 65536 % 65536
  let ns := t / 4294967296
  { c with sec := (c.sec + ns / 1000000000) % 2 ^ 48, ns := ns % 1000000000, frac := frac, sub := sub }

/-- PPS and WCLK outputs are held low while squelched and FREERUN or ACQUIRING (R141). -/
def Dev.squelched (d : Dev) (cfg : Word) (b : Nat) : Bool :=
  bit cfg b && (decide (d.ptp.servo = .freerun) || decide (d.ptp.servo = .acquiring))

/-- The edges of WCLK_OUT after `t0` and up to `t1`, in order, rising ones marked: rising at samples, at even ones for 48 kHz, falling half a
period on (R139). -/
def wclkEdges (cfg : Word) (t0 t1 : Time) : List (Time × Bool) :=
  let off := sfld cfg 32 32 * (nsT : Int)
  let lo := 2 * (t0 * 3 / (31250 * nsT) - 3)
  let n := 2 * ((t1 - t0) * 3 / (31250 * nsT) + 6)
  ((List.range n).map (fun i => lo + i)).filterMap (fun h =>
    let e := ((h * 31250 * nsT / 6 : Nat) : Int) + off
    let up := if bit cfg 1 then h % 2 == 0 else h % 4 == 0
    let down := if bit cfg 1 then h % 2 == 1 else h % 4 == 2
    if (up || down) && decide ((t0 : Int) < e) && decide (e ≤ (t1 : Int)) then some (e.toNat, up) else none)

/-- The least time an output keeps its level when a step cuts it short: 20 ns (R133). -/
def leastPulse : Time := 20 * nsT

/-- WCLK_OUT goes low at `t`, when it is high. -/
def Dev.wclkFall (d : Dev) (t : Time) : Dev :=
  if d.clk.wclkHigh.isNone then d else ({ d with clk := { d.clk with wclkHigh := none } }).emit (.wclkLow (max t d.clk.wclkHold))

/-- One edge of WCLK_OUT: it falls when it is high; it rises while it is enabled and not squelched, not before the instant a step holds it to
(R133, R139, R141, R154). -/
def Dev.wclkEdge (d : Dev) (e : Time × Bool) : Dev :=
  let cfg := d.reg pgQuartz 0x118
  if !e.2 then d.wclkFall e.1
  else if !bit cfg 0 || d.squelched cfg 2 then d.wclkFall e.1
  else ({ d with clk := { d.clk with wclkHigh := some (max e.1 d.clk.wclkHold) } }).emit (.wclkOut (max e.1 d.clk.wclkHold))

/-- PPS_OUT goes low at `t`, when it is high. -/
def Dev.ppsFall (d : Dev) (t : Time) : Dev :=
  if d.clk.ppsHigh.isNone then d else ({ d with clk := { d.clk with ppsHigh := none } }).emit (.ppsLow t)

/-- PPS_OUT falls once its width is over (R138). -/
def Dev.ppsEnd (d : Dev) : Dev := match d.clk.ppsHigh with
  | some (_, f) => if f ≤ d.now then d.ppsFall f else d
  | none => d

/-- Outputs that squelch go low as the servo enters a state in which they are held low (R141). -/
def Dev.squelchNow (d : Dev) : Dev :=
  let d := if d.squelched (d.reg pgQuartz 0x110) 1 then d.ppsFall d.now else d
  if d.squelched (d.reg pgQuartz 0x118) 2 then d.wclkFall d.now else d

/-- QUARTZ_TICK (R112), with the word clock edges that fall in it (R139) and the end of a PPS pulse. -/
def Dev.quartzTick (d : Dev) (n : Nat) : Dev :=
  let t0 := d.now
  let d := { d with clk := d.clk.tick n }
  let cfg := d.reg pgQuartz 0x118
  let d := if bit cfg 0 || d.clk.wclkHigh.isSome then (wclkEdges cfg t0 d.now).foldl (fun (d : Dev) e => d.wclkEdge e) d else d
  d.ppsEnd

/-- The row QUARTZ_TICK. -/
def execQuartzTick (n : Nat) (s : State) : Host.Outcome State Fault Refusal := .next (s.act (fun d => d.quartzTick n))

/-- NOW_W0 read: word 0, and word 1 of the same instant latched (R117). -/
def Dev.nowW0 (d : Dev) : Dev × Word := ({ d with ptp := { d.ptp with nowW1 := fullW1 d.now } }, fullW0 d.now)

/-- The row NOW_W0_READ. -/
def execNowW0Read (s : State) : Host.Outcome State Fault Refusal :=
  .next (s.actReady (fun d => d.nowW0.1.emit (.readData d.nowW0.2)))

/-! ### The servo -/

/-- The frequency adjustment in use, in 2^-40 ppb: the servo's f, or what the frozen increment amounts to (R121, R124). -/
def Dev.freqUse (d : Dev) : Int :=
  if d.ptp.servo = .holdover ∨ d.ptp.servo = .stepRefused then (4294967296 - (d.clk.incr : Int)) * 1000000000 * 256 else d.ptp.f

/-- FREQ_ADJ: f in 2^-16 ppb. -/
def Dev.freqAdj (d : Dev) : Int := roundDiv d.freqUse 16777216

/-- The increment of a frequency (R120). -/
def incrOf (f : Int) : Nat :=
  (roundDiv (4294967296 * 1000000000 * 1099511627776 - f * 4294967296) (1000000000 * 1099511627776)).toNat

/-- The mean of the last increments applied, rounded (R124). -/
def meanIncr (l : List Nat) (dflt : Nat) : Nat :=
  if l.isEmpty then dflt else (roundDiv (sumN l : Int) l.length).toNat

/-- Counts of consecutive offsets cleared on a change of servo state; those outside STEP_LIMIT count on across states (R125). -/
def Ptp.clearCounts (p : Ptp) : Ptp := { p with inThr := 0, outThr := 0, inStep := 0 }

/-- The servo enters ACQUIRING (R121). -/
def Dev.enterAcquiring (d : Dev) : Dev :=
  let f := d.freqUse
  Dev.squelchNow { d with ptp := { d.ptp.clearCounts with servo := .acquiring, refuseCause := 0, integ := f, f := f } }

/-- The servo enters LOCKED, raising LOCKED (R122, Table 3-7). -/
def Dev.enterLocked (d : Dev) : Dev :=
  let d := { d with ptp := { d.ptp.clearCounts with servo := .locked } }
  d.raise pgQuartz 0 0 0x0001 (fmkS 0 64 d.ptp.offset) (fmkS 0 64 d.freqAdj)

/-- The increment frozen on entry to HOLDOVER or STEP_REFUSED (R124). -/
def Dev.freezeIncr (d : Dev) : Dev :=
  if d.ptp.servo = .holdover ∨ d.ptp.servo = .stepRefused then d
  else { d with clk := { d.clk with incr := meanIncr d.ptp.incrs d.clk.incr } }

/-- The servo enters HOLDOVER with a cause (R123). -/
def Dev.enterHoldover (d : Dev) (cause : Nat) : Dev :=
  let d := d.freezeIncr
  let d := { d with ptp := { d.ptp.clearCounts with servo := .holdover, refuseCause := 0, since := d.now } }
  d.raise pgQuartz 1 0 0x0002 (fmk 0 64 cause) (fmk 0 64 d.clk.incr)

/-- The servo enters STEP_REFUSED with a cause (R125). -/
def Dev.enterRefused (d : Dev) (cause : Nat) : Dev :=
  let d := d.freezeIncr
  let d := { d with ptp := { d.ptp.clearCounts with
    servo := .stepRefused
    refuseCause := cause
    outStep := 0
    since := if d.ptp.servo = Servo.stepRefused then d.ptp.since else d.now } }
  d.raise pgQuartz 2 0 0x0003 (fmk 0 64 cause) (fmkS 0 64 d.ptp.offset)

/-- A change of grandmaster: GM_CHANGED, and STEP_REFUSED from any state but FREERUN (R125); offsets from the one before no longer count towards
the end of HOLDOVER (Table 3-3). -/
def Dev.gmChanged (d : Dev) (new old : Word) : Dev :=
  let stays := decide (d.ptp.servo = .freerun) || decide (d.pair.role = .secondary)
  let d := { d with ptp := { d.ptp with inStep := 0 } }
  let d := d.raise pgQuartz 4 0 0x0005 new old
  if stays then d else d.enterRefused 1

/-- STEP_LIMIT in 2^-16 ns: values below 100 ns act as 100. -/
def Dev.stepLimit (d : Dev) : Int := ((max 100 (fld (d.reg pgQuartz 0x080) 0 30) * nsT : Nat) : Int)

/-- The frequency update of R120 by a filtered offset. -/
def Dev.freqUpdate (d : Dev) (o : Int) : Dev :=
  let g := d.reg pgQuartz 0x070
  let l := d.reg pgQuartz 0x078
  let sc : Int := ((2 ^ (8 - d.ptp.syncLog).toNat : Nat) : Int)
  let maxF : Int := (fld l 0 32 * 1099511627776 : Nat)
  let rate : Int := (fld l 32 32 * 2 ^ (40 + d.ptp.syncLog).toNat : Nat)
  let integ := d.ptp.integ + (fld g 32 32 : Int) * o * sc
  let f := (fld g 0 32 : Int) * o * sc + integ
  let f := clampI (-maxF) maxF f
  let f := if d.ptp.servo = .locked ∧ rate ≠ 0 then clampI (d.ptp.f - rate) (d.ptp.f + rate) f else f
  let integ := clampI (-maxF) maxF integ
  let incr := incrOf f
  { d with
    ptp := { d.ptp with integ := integ, f := f, incrs := (incr :: d.ptp.incrs).take 16 }
    clk := { d.clk with incr := incr } }

/-- The median of the raw offsets: the lower of the middle two for an even count (R119). -/
def median (l : List Int) : Int := nthD 0 (sortBy (fun a b => decide (a < b)) l) ((l.length - 1) / 2)

/-- A step set for the next epoch boundary, or for the one `e` names (R127, R128). -/
def Dev.setStep (d : Dev) (o : Int) (e : Nat) : Dev := { d with ptp := { d.ptp with step := some ⟨o, max e (epochCeil d.now / msT)⟩ } }

/-- A filtered offset reaches the servo: the frequency (R120) and the transitions of Table 3-3. LOCK_COUNT and QUALIFY_COUNT of 0 act as 1, which
no rule states (DESIGN CHOICE, log entry 87). An offset outside ±STEP_LIMIT counts only towards R125 (R120). A secondary takes its
transitions, but for HOLDOVER, from the decision log, and steps in FREERUN at the primary's epoch by its own offset (R128). -/
def Dev.servoOffset (d : Dev) (o : Int) : Dev :=
  let lock := d.reg pgQuartz 0x088
  let thr : Int := (fld lock 0 16 * nsT : Nat)
  let lockN := max 1 (fld lock 16 8)
  let qualN := max 1 (fld lock 24 8)
  let inT := decide (-thr ≤ o) && decide (o ≤ thr)
  let inS := decide (-d.stepLimit ≤ o) && decide (o ≤ d.stepLimit)
  let second := decide (d.pair.role = .secondary)
  match d.ptp.servo with
  | .freerun =>
    if d.ptp.step.isSome then d
    else if second then (match d.ptp.freerunEnds with
      | some e => d.setStep o e
      | none => d)
    else
      let d := d.setStep o 0
      if d.joined then d.onPair (fun p => { p with log := p.log ++ [⟨((d.ptp.step.map StepDue.epoch).getD 0), 9, 0, [1, 0]⟩] }) else d
  | .acquiring | .locked =>
    let d := { d with ptp := { d.ptp with
      inThr := if inT && inS then d.ptp.inThr + 1 else 0
      outThr := if !inS then d.ptp.outThr else if inT then 0 else d.ptp.outThr + 1
      outStep := if inS then 0 else d.ptp.outStep + 1 } }
    let d := if inS then d.freqUpdate o else d
    if second then d
    else if qualN ≤ d.ptp.outStep then d.enterRefused 2
    else if d.ptp.servo = .acquiring ∧ lockN ≤ d.ptp.inThr then d.enterLocked
    else if d.ptp.servo = .locked ∧ lockN ≤ d.ptp.outThr then d.enterAcquiring
    else d
  | .holdover | .stepRefused =>
    let d := { d with ptp := { d.ptp with
      inStep := if inS then d.ptp.inStep + 1 else 0
      outStep := if inS then 0 else d.ptp.outStep + 1 } }
    let isH := decide (d.ptp.servo = .holdover)
    if second && !isH then d
    else if qualN ≤ d.ptp.inStep then d.enterAcquiring
    else if isH && !second && decide (qualN ≤ d.ptp.outStep) then d.enterRefused 2
    else d

/-- Board latency of the PTP port in 2^-16 ns from its ps (R107), rounded. -/
def Dev.boardDelay (d : Dev) (egress : Bool) : Int :=
  let v := d.reg pgQuartz (0x090 + 8 * fld (d.reg pgQuartz 0x068) 1 3)
  roundDiv ((fld v (if egress then 32 else 0) 32 * 65536 : Nat) : Int) 1000

/-- A raw offset computed, filtered and given to the servo (R118, R119), when an exchange with the master has completed. The filter keeps the 15
offsets that FILTER_LEN may reach, so that a longer filter covers what has been measured. -/
def Dev.measure (d : Dev) (t2 t1 c : Int) : Dev :=
  match d.ptp.exch with
  | none => d
  | some sm =>
    let ms := (t2 - t1) - c
    let path := (ms + sm) / 2
    let raw := ((ms - path) :: d.ptp.raw).take 15
    let o := median (raw.take (max 1 (fld (d.reg pgQuartz 0x088) 40 4)))
    let d := { d with ptp := { d.ptp with
      raw := raw, offset := o, path := path, offAt := some d.now, offGm := (d.ptp.info.map AnnounceMsg.gmId).getD 0 } }
    d.servoOffset o

/-! ### PTP messages -/

/-- The checks of R99 over the message and its interval range. -/
def Dev.ptpOk (d : Dev) (h : PtpHdr) (range : Option (Int × Int)) : Bool :=
  let cfg := d.reg pgQuartz 0x068
  h.domain == fld cfg 16 8 && h.version == 2 && decide (h.minor ≤ 1) && h.transport == fld cfg 6 2 && h.vlan == fld cfg 24 12 &&
  (match range with | some (lo, hi) => decide (lo ≤ h.logInterval) && decide (h.logInterval ≤ hi) | none => true)

/-- PTP runs (R99). -/
def Dev.ptpOn (d : Dev) : Bool := bit (d.reg pgQuartz 0x068) 0

/-- The message comes from the selected master. -/
def Dev.fromMaster (d : Dev) (h : PtpHdr) : Bool := decide (d.ptp.master = some (h.srcId, h.srcPort))

/-- An arriving PTP event that finds its queue full: dropped, counted and raised; the servo misses a measurement (R41). -/
def Dev.ptpOverflow (d : Dev) : Dev :=
  let d := d.inc pgQuartz 0x178
  d.raise pgQuartz 8 0 0x0009 (d.counter pgQuartz 0x178) 0

/-- A Sync taken from the queue (R118). The first one from a new master lets the first Delay_Req go (R100). -/
def Dev.syncTake (d : Dev) (m : SyncMsg) : Dev :=
  if !d.fromMaster m.h then d
  else
    let t2 := (d.rxStamp (fld (d.reg pgQuartz 0x068) 1 3) m.stamp : Int) - d.boardDelay false
    let d := { d with ptp := { d.ptp with
      syncLog := m.h.logInterval
      lastSync := some d.now
      nextReq := match d.ptp.nextReq with | some t => some t | none => some d.now } }
    if m.h.twoStep then { d with ptp := { d.ptp with twoStep := some (m.h.seq, t2, m.h.correction) } }
    else d.measure t2 m.origin m.h.correction

/-- A Follow_Up of the Sync in hand (R118). -/
def Dev.followUpTake (d : Dev) (m : FollowUpMsg) : Dev :=
  match d.ptp.twoStep with
  | some (seq, t2, c) =>
    if d.fromMaster m.h && seq == m.h.seq then
      ({ d with ptp := { d.ptp with twoStep := none } }).measure t2 m.origin (c + m.h.correction)
    else d
  | none => d

/-- A Delay_Resp completes the exchange and sets the request interval (R100, R118). -/
def Dev.delayRespTake (d : Dev) (m : DelayRespMsg) : Dev :=
  match d.ptp.t3 with
  | some t3 =>
    if d.fromMaster m.h && m.forUs && d.ptp.reqSeq == m.h.seq then
      { d with ptp := { d.ptp with
        t3 := none
        exch := some (((m.receive : Int) - (t3 + d.boardDelay true)) - m.h.correction)
        reqLog := some m.h.logInterval } }
    else d
  | none => d

/-- The better of two announced data sets in the default comparison (R98): lower priority1, class, accuracy, variance,
priority2, identity, then fewer steps. -/
def betterMaster (a b : Foreign) : Bool :=
  let key (f : Foreign) : List Nat :=
    [f.msg.priority1, f.msg.clockClass, f.msg.accuracy, f.msg.variance, f.msg.priority2, f.msg.gmId.toNat, f.msg.steps, f.id.toNat, f.port]
  decide (key a < key b)

/-- A foreign master is qualified by two Announces within four of its Announce intervals (R98; PRESUMED, log entry 14). -/
def Foreign.qualified (f : Foreign) (now : Time) : Bool :=
  decide (2 ≤ (f.stamps.filter (fun t => decide (now ≤ t + 4 * pow2Sec f.msg.h.logInterval))).length) && decide (f.msg.steps < 255)

/-- The best qualified master. -/
def bestMaster (l : List Foreign) (now : Time) : Option Foreign :=
  (l.filter (fun f => f.qualified now)).foldl (fun b f => match b with
    | none => some f
    | some x => if betterMaster f x then some f else some x) none

/-- The BMCA selects a master: measurements with another master are forgotten (R118), the silence of R123 counts from now, and a new grandmaster
is a change unless it is the first (R101). -/
def Dev.select (d : Dev) (f : Foreign) : Dev :=
  let rate := (f.msg.smpteNum, f.msg.smpteDen)
  let d := if d.ptp.master = some (f.id, f.port) then { d with ptp := { d.ptp with
      info := some f.msg, smpte := if rate = (0, 0) then d.ptp.smpte else rate } }
    else { d with ptp := { d.ptp with
      master := some (f.id, f.port), info := some f.msg, smpte := rate, exch := none, t3 := none, nextReq := none, reqLog := none,
      twoStep := none, lastSync := some d.now } }
  match d.ptp.lastGm with
  | none => { d with ptp := { d.ptp with lastGm := some f.msg.gmId } }
  | some g =>
    if g = f.msg.gmId then d
    else ({ d with ptp := { d.ptp with lastGm := some f.msg.gmId } }).gmChanged f.msg.gmId g

/-- The BMCA decision over the masters heard. -/
def Dev.bmca (d : Dev) : Dev := match bestMaster d.ptp.foreign d.now with
  | some f => d.select f
  | none => d

/-- An Announce (R101). -/
def Dev.announceTake (d : Dev) (m : AnnounceMsg) : Dev :=
  let old := (d.ptp.foreign.find? (fun f => f.id == m.h.srcId && f.port == m.h.srcPort)).map Foreign.stamps
  let f : Foreign := ⟨m.h.srcId, m.h.srcPort, m, ((d.now :: old.getD []).take 4)⟩
  let rest := d.ptp.foreign.filter (fun f => !(f.id == m.h.srcId && f.port == m.h.srcPort))
  ({ d with ptp := { d.ptp with foreign := rest ++ [f] } }).bmca

/-- An event taken from the queue. -/
def Dev.ptpTake (d : Dev) : PtpEvent → Dev
  | .sync m => d.syncTake m
  | .followUp m => d.followUpTake m
  | .delayResp m => d.delayRespTake m
  | .announce m => d.announceTake m

/-- The events the PTP event queue holds on chip and spilled (Table 1-9). -/
def ptpQueueSize : Nat := 64 + 64 + 16384

/-- Every event of the queue is taken, oldest first. -/
def Dev.ptpDrain (d : Dev) : Dev := d.ptp.evq.foldl (fun (d : Dev) e => d.ptpTake e) { d with ptp := { d.ptp with evq := [] } }

/-- A PTP message received: PTP off, the checks (R99), its counter, then the queue, whose events are taken unless the firmware leaves them; one
that finds it full is dropped (R41). -/
def Dev.ptpMsg (d : Dev) (h : PtpHdr) (range : Option (Int × Int)) (ctr : Nat) (e : PtpEvent) : Dev :=
  if !d.ptpOn then d
  else if !d.ptpOk h range then d.inc pgQuartz 0x170
  else
    let d := d.inc pgQuartz ctr
    if ptpQueueSize ≤ d.ptp.evq.length then d.ptpOverflow
    else
      let d := { d with ptp := { d.ptp with evq := d.ptp.evq ++ [e] } }
      if h.held then d else d.ptpDrain

/-- The four messages an ordinary slave takes. -/
def Dev.sync (d : Dev) (m : SyncMsg) : Dev := d.ptpMsg m.h (some (-7, 1)) 0x148 (.sync m)
def Dev.followUp (d : Dev) (m : FollowUpMsg) : Dev := d.ptpMsg m.h none 0x150 (.followUp m)
def Dev.delayResp (d : Dev) (m : DelayRespMsg) : Dev := d.ptpMsg m.h none 0x160 (.delayResp m)
def Dev.announce (d : Dev) (m : AnnounceMsg) : Dev := d.ptpMsg m.h (some (-3, 4)) 0x168 (.announce m)

/-- SYNC_TIMEOUT Sync intervals without a Sync (R123). -/
def Dev.syncTimeout (d : Dev) : Dev :=
  match d.ptp.lastSync with
  | none => d
  | some t =>
    if (d.ptp.servo = .acquiring ∨ d.ptp.servo = .locked) ∧
        t + fld (d.reg pgQuartz 0x088) 32 8 * pow2Sec d.ptp.syncLog ≤ d.now then d.enterHoldover 1
    else d

/-- The current master's Announce receipt timeout, three of its Announce intervals (R123; PRESUMED, log entry 14): the
master is lost and the BMCA decides again. -/
def Dev.announceTimeout (d : Dev) : Dev :=
  match d.ptp.master with
  | none => d
  | some (i, p) =>
    match d.ptp.foreign.find? (fun f => f.id == i && f.port == p) with
    | none => d
    | some f =>
      if d.now < (f.stamps.head?).getD 0 + 3 * pow2Sec f.msg.h.logInterval then d
      else
        let d := { d with ptp := { d.ptp with
          foreign := d.ptp.foreign.filter (fun f => !(f.id == i && f.port == p)), master := none, exch := none, t3 := none,
          nextReq := none, reqLog := none, twoStep := none } }
        let d := if d.ptp.servo = .acquiring ∨ d.ptp.servo = .locked then d.enterHoldover 2 else d
        d.bmca

/-- PTP_CFG written (R102): setting ENABLE starts the BMCA afresh; a write while running counts as a grandmaster change, from the last
grandmaster to what GM_ID then reads. -/
def Dev.writePtpCfg (d : Dev) (v : Word) : Dev :=
  let was := d.ptpOn
  let old := d.ptp.lastGm.getD 0
  let m := d.mergeAt pgQuartz 0x068 v
  let d := (d.setReg pgQuartz 0x068 m.1).errs pgQuartz m.2
  let d := if was = d.ptpOn ∧ was then d
    else { d with ptp := { d.ptp with
      foreign := [], master := none, info := none, smpte := (0, 0), lastGm := none, exch := none, t3 := none, nextReq := none, reqLog := none,
      twoStep := none, lastSync := none, evq := [] } }
  if was && decide (d.ptp.servo ≠ .freerun) then d.gmChanged ((d.ptp.info.map AnnounceMsg.gmId).getD 0) old else d

/-- The row SYNC. -/
def execSync (m : SyncMsg) (s : State) : Host.Outcome State Fault Refusal := .next (s.actReady (fun d => d.sync m))
/-- The row FOLLOW_UP. -/
def execFollowUp (m : FollowUpMsg) (s : State) : Host.Outcome State Fault Refusal := .next (s.actReady (fun d => d.followUp m))
/-- The row DELAY_RESP. -/
def execDelayResp (m : DelayRespMsg) (s : State) : Host.Outcome State Fault Refusal := .next (s.actReady (fun d => d.delayResp m))
/-- The row ANNOUNCE. -/
def execAnnounce (m : AnnounceMsg) (s : State) : Host.Outcome State Fault Refusal := .next (s.actReady (fun d => d.announce m))
/-- The row SYNC_TIMEOUT. -/
def execSyncTimeout (s : State) : Host.Outcome State Fault Refusal := .next (s.actReady Dev.syncTimeout)
/-- The row ANNOUNCE_TIMEOUT. -/
def execAnnounceTimeout (s : State) : Host.Outcome State Fault Refusal := .next (s.actReady Dev.announceTimeout)

/-! ### Reference clock and PPS -/

/-- TIME_REFCLK lost (R115). -/
def Dev.refclkLost (d : Dev) : Dev :=
  if d.clk.fallback then d
  else
    let d := { d with clk := { d.clk with fallback := true, refValid := false } }
    let d := d.onPage pgQuartz (fun h => { h with state := .faulted })
    d.raise pgQuartz 5 0 0x0006 0 0

/-- TIME_REFCLK valid again for 1 s (R116). -/
def Dev.refclkRestored (d : Dev) : Dev :=
  if !d.clk.fallback then d
  else
    let d := { d with clk := { d.clk with fallback := false, refValid := true } }
    d.onPage pgQuartz (fun h => { h with state := .active })

/-- PPS_OUT at each whole second plus OFFSET (R138), unless squelched (R141). -/
def Dev.ppsOutPulse (d : Dev) : Dev :=
  let cfg := d.reg pgQuartz 0x110
  let off := sfld cfg 32 32 * (nsT : Int)
  if !bit cfg 0 || decide ((d.now : Int) < (d.clk.ppsNext * secT : Nat) + off) then d
  else
    let d := { d with clk := { d.clk with ppsNext := (((d.now : Int) - off) / (secT : Int)).toNat + 1 } }
    if d.squelched cfg 1 then d
    else ({ d with clk := { d.clk with ppsHigh := some (d.now, d.now + fld cfg 8 24 * usT) } }).emit (.ppsOut (fld cfg 8 24))

/-- The first whole second whose pulse, with OFFSET, lies at or after `t`. -/
def ppsFirst (cfg : Word) (t : Time) : Nat := ceilTo secT ((t : Int) - sfld cfg 32 32 * (nsT : Int)).toNat / secT

/-- PPS_CFG written: an output that is enabled or moved rises next at its first whole second plus OFFSET (R138, R154). -/
def Dev.ppsCfgWrite (d : Dev) (v : Word) : Dev :=
  let old := d.reg pgQuartz 0x110
  let m := d.mergeAt pgQuartz 0x110 v
  let d := (d.setReg pgQuartz 0x110 m.1).errs pgQuartz m.2
  if (bit m.1 0 && !bit old 0) || fld m.1 32 32 != fld old 32 32 then { d with clk := { d.clk with ppsNext := ppsFirst m.1 d.now } } else d

/-- PPS_IN_CFG written: an input that is enabled is watched from then on. -/
def Dev.ppsInCfgWrite (d : Dev) (v : Word) : Dev :=
  let old := d.reg pgQuartz 0x120
  let m := d.mergeAt pgQuartz 0x120 v
  let d := (d.setReg pgQuartz 0x120 m.1).errs pgQuartz m.2
  if bit m.1 0 && !bit old 0 then { d with ptp := { d.ptp with ppsFrom := d.now, ppsMissed := false } } else d

/-- The signed distance of a stamp from the nearest whole second. -/
def secondOffset (stamp : Time) : Int := (stamp : Int) - roundDiv (stamp : Int) secT * (secT : Int)

/-- A PPS_IN edge (R142). -/
def Dev.ppsInEdge (d : Dev) (stamp : Nat) : Dev :=
  let cfg := d.reg pgQuartz 0x120
  if !bit cfg 0 then d
  else
    let stamp := laneStamp stamp 0
    let o := secondOffset stamp
    let d := { d with ptp := { d.ptp with ppsLast := some stamp, ppsMissed := false, ppsOff := o } }
    if fld cfg 8 24 * nsT < o.natAbs then d.raise pgQuartz 6 0 0x0007 (fmkS 0 64 o) (fmk 0 64 (fld cfg 8 24)) else d

/-- No PPS_IN edge within 1.1 s of the previous one (R143); with none since ENABLE was set, the 1.1 s count from then, which no rule states
(DESIGN CHOICE, log entry 87). -/
def Dev.ppsInMissing (d : Dev) : Dev :=
  let cfg := d.reg pgQuartz 0x120
  if !bit cfg 0 || d.ptp.ppsMissed || decide (d.now ≤ max (d.ptp.ppsLast.getD 0) d.ptp.ppsFrom + 1100 * msT) then d
  else
    let d := { d with ptp := { d.ptp with ppsMissed := true } }
    d.raise pgQuartz 7 0 0x0008 ((d.ptp.ppsLast.map shortOf).getD 0) 0

/-- The row REFCLK_LOST. -/
def execRefclkLost (s : State) : Host.Outcome State Fault Refusal := .next (s.act Dev.refclkLost)
/-- The row REFCLK_RESTORED. -/
def execRefclkRestored (s : State) : Host.Outcome State Fault Refusal := .next (s.act Dev.refclkRestored)
/-- The row PPS_OUT_PULSE. -/
def execPpsOutPulse (s : State) : Host.Outcome State Fault Refusal := .next (s.actReady Dev.ppsOutPulse)
/-- The row PPS_IN_EDGE. -/
def execPpsInEdge (stamp : Nat) (s : State) : Host.Outcome State Fault Refusal := .next (s.actReady (fun d => d.ppsInEdge stamp))
/-- The row PPS_IN_MISSING. -/
def execPpsInMissing (s : State) : Host.Outcome State Fault Refusal := .next (s.actReady Dev.ppsInMissing)

/-! ### Commands -/

/-- The epoch boundary at which a command takes effect: it acts there, and the clock reads it (R85). -/
def effectEpoch (d : Dev) : Nat := d.now / msT

/-- ACCEPT_STEP (R134, R146). -/
def acceptStepSpec : OpSpec where
  opcode := 0x0100
  ownerOnly := true
  checks := fun _ s => [conflict s.dev.ptp.servo.code (decide (s.dev.ptp.servo ≠ .stepRefused))]
  run := devRun (fun _ _ _ d =>
    let e := effectEpoch d
    let fresh := match d.ptp.offAt with
      | some t => decide (e * msT < t + secT) && decide (d.ptp.lastGm = some d.ptp.offGm)
      | none => false
    if fresh then ({ d with ptp := { d.ptp with step := some ⟨d.ptp.offset, e⟩ } }, .later 0 0)
    else (d, .done .timeout 0 d.short))

/-- BAR0 pages whose counters a global snapshot latches (R147). -/
def countingPages : List Nat := (List.range 138).filter (fun p => match pageType p with | some t => t.caps.counters | none => false)

/-- GLOBAL_SNAPSHOT (R146, R147). -/
def globalSnapshotSpec : OpSpec where
  opcode := 0x0101
  ownerOnly := true
  checks := fun _ s => [conflict 1 (s.dev.ctl.accepted.any (fun a => a.tok.opcode == 0x0101))]
  run := devRun (fun _ _ _ d =>
    let t := d.now / msT * msT
    let d := countingPages.foldl (fun d p => d.latch p t) d
    (d, .done .ok countingPages.length (shortOf t)))

/-- The row ACCEPT_STEP. -/
def execAcceptStep (c : HostCmd) (s : State) : Host.Outcome State Fault Refusal := .next (runCmd acceptStepSpec c s)
/-- The row GLOBAL_SNAPSHOT. -/
def execGlobalSnapshot (c : HostCmd) (s : State) : Host.Outcome State Fault Refusal := .next (runCmd globalSnapshotSpec c s)

end Sys2Proof.Machine
end

