-- ==== Sys2Proof/Machine/Work.lean ====
section
/-! DEFINITION. The Work Dispatcher (R699 to R711): work items, ordering domains and delay lists. -/

namespace Sys2Proof.Machine
open Sys2Proof

/-! ### Domains (R702 to R705) -/

/-- A domain; at reset realm 0 owns those from 8,192 on. -/
def Dev.domain (d : Dev) (k : Nat) : Domain := tabGetD {} d.disp.domains k
def Dev.setDomain (d : Dev) (k : Nat) (x : Domain) : Dev := { d with disp := { d.disp with domains := tabPutD {} d.disp.domains k x } }

/-- Items in service that have not completed. -/
def Domain.inService (x : Domain) : List InService := x.service.filter (fun s => !s.done)

/-- The state code (Table 15-2). -/
def Domain.code (x : Domain) : Nat := if !x.waiting.isEmpty || !x.inService.isEmpty then 2 else if x.bound.isEmpty then 0 else 1

/-- Items waiting, device-wide, and those of them in spill space: each list keeps 128 on chip (Table 1-9). -/
def Dev.itemsWaiting (d : Dev) : Nat := sumN (d.disp.domains.map (fun e => e.2.waiting.length))
def Dev.itemsSpilled (d : Dev) : Nat := sumN (d.disp.domains.map (fun e => e.2.waiting.length - 128))

/-- A core of Garnet by 16 cluster + core. -/
def Dev.gcore (d : Dev) (k : Nat) : Core := tabGetD {} d.garnet.cores k
def Dev.setGcore (d : Dev) (k : Nat) (x : Core) : Dev := { d with garnet := { d.garnet with cores := tabPutD {} d.garnet.cores k x } }

/-- A Dispatcher trace entry of an item (Table 17-5, class 0). -/
def Dev.itemTrace (d : Dev) (ev : Nat) (i : Item) (w3 : Word) : Dev :=
  d.trace 0 ev 0x003 (fmk 0 16 i.domain ||| fmk 16 16 i.seq ||| fmk 32 4 i.prio ||| fmk 48 16 i.type) w3 i.domain

/-- An item arrives at its domain: it takes its arrival number, and a task that waits for work has PORT pending (R489, R700). -/
def Dev.arrive (d : Dev) (i : Item) : Dev :=
  let x := d.domain i.domain
  let j := { i with seq := x.arrivals % 65536 }
  let d := if 128 ≤ x.waiting.length then d.inc pgDispatch 0x078 else d
  let d := d.setDomain i.domain { x with waiting := x.waiting ++ [(x.arrivals, j)], arrivals := x.arrivals + 1 }
  x.bound.foldl (fun (d : Dev) c => d.setGcore c { d.gcore c with irq := (d.gcore c).irq ||| 1 }) d

/-- The instant of a TIMED item near now (R12). -/
def Dev.itemTime (d : Dev) (i : Item) : Time := nearShort d.now i.time

/-- A late item counted and raised (R709). -/
def Dev.lateItem (d : Dev) (i : Item) : Dev := (d.inc pgDispatch 0x070).raise pgDispatch 2 0x003 0x0D13 (fmk 0 64 i.domain) 0

/-- The Dispatcher accepts an item: a TIMED one waits in the delay lists, or is released at once when its TIME has passed (R700, R709). -/
def Dev.acceptItem (d : Dev) (i : Item) : Dev :=
  let d := (d.inc pgDispatch 0x058).itemTrace 0x0001 i i.payload
  if i.flags % 2 = 1 then
    if d.itemTime i ≤ d.now then (d.lateItem i).arrive i
    else { d with disp := { d.disp with delay := d.disp.delay ++ [(d.itemTime i, i)] } }
  else d.arrive i

/-- Every item whose TIME lies at or before `t` is released, in order of TIME and then of acceptance (R709). `late` counts them late (R711). -/
def Dev.releaseDue (d : Dev) (t : Time) (late : Bool) : Dev :=
  let due := sortBy (fun a b => decide (a.1 < b.1)) (d.disp.delay.filter (fun e => decide (e.1 ≤ t)))
  let d := { d with disp := { d.disp with delay := d.disp.delay.filter (fun e => !decide (e.1 ≤ t)) } }
  due.foldl (fun (d : Dev) e => (((if late then d.lateItem e.2 else d).inc pgDispatch 0x068).itemTrace 0x0004 e.2 e.2.time).arrive e.2) d

/-- The row TIMED_ITEM_RELEASE: the items of the dispatcher ticks that have come. -/
def execTimedItemRelease (s : State) : Host.Outcome State Fault Refusal := .next (s.actReady (fun d => d.releaseDue (d.now / usT * usT) false))

/-- The item a domain gives next: the first in arrival order while none is in service, or by level when ORDERED (R703, R704). -/
def Domain.next (x : Domain) : Option (Nat × Item) :=
  if x.ordered then (sortBy (fun (a b : Nat × Item) => decide (a.2.prio < b.2.prio)) x.waiting).head?
  else if x.inService.isEmpty then x.waiting.head? else none

/-- Held items whose producer, and every item of its domain that arrived before it, has completed are released (R705). -/
def Dev.releaseHeld (d : Dev) (k : Nat) : Dev :=
  let x := d.domain k
  let open_ := x.waiting.map (fun e => e.1) ++ x.inService.map (fun s => s.arrival)
  let free := sortBy (fun (a b : InService) => decide (a.arrival < b.arrival)) (x.service.filter (fun s => s.done && open_.all (fun a => decide (s.arrival < a))))
  let d := d.setDomain k { x with service := x.service.filter (fun s => !(s.done && open_.all (fun a => decide (s.arrival < a)))) }
  free.foldl (fun (d : Dev) s => s.held.foldl (fun (d : Dev) i => d.acceptItem i) d) d

/-- The item in service of a core completes (R705). -/
def Dev.completeItem (d : Dev) (core : Nat) (st : Status) : Dev :=
  let c := d.gcore core
  match c.item with
  | none => d
  | some a =>
    let x := d.domain c.domain
    let d := match x.service.find? (fun (s : InService) => s.core == core && s.arrival == a && !s.done) with
      | some s => d.itemTrace 0x0003 s.item (fmk 0 8 st.code)
      | none => d
    let d := d.setDomain c.domain { x with service := x.service.map (fun s => if s.core = core ∧ s.done = false then { s with done := true } else s) }
    let d := (d.setGcore core { c with item := none, puts := 0 }).inc pgDispatch 0x060
    d.releaseHeld c.domain

/-- A core's task takes the next item of its domain, which enters service. -/
def Dev.takeItem (d : Dev) (core : Nat) : Option (Dev × Item) :=
  let c := d.gcore core
  let x := d.domain c.domain
  match x.next with
  | none => none
  | some (a, i) =>
    let d := d.setDomain c.domain { x with
      waiting := x.waiting.filter (fun e => e.1 != a)
      service := x.service ++ [⟨core, a, i, [], false⟩] }
    let unit := nthD 0 d.garnet.map (core / 16)
    some ((d.setGcore core { c with item := some a, puts := 0 }).itemTrace 0x0002 i (fmk 0 12 (0x080 + unit) ||| fmk 12 4 (core % 16)), i)

/-- The four words of an item (Table 15-1). -/
def Item.words (i : Item) : List Word :=
  [fmk 0 16 i.type ||| fmk 16 8 i.prio ||| fmk 24 8 i.flags ||| fmk 32 16 i.domain ||| fmk 48 16 i.seq, i.time, i.payload, i.arg]

/-- An item of 32 bytes. -/
def itemParse (l : List Byte) : Item :=
  ⟨leAt l 0 2, leAt l 2 1, leAt l 3 1, leAt l 4 2, 0, BitVec.ofNat 64 (leAt l 8 8), BitVec.ofNat 64 (leAt l 16 8), BitVec.ofNat 64 (leAt l 24 8)⟩

/-! ### Commands -/

/-- A domain a command may name: its realm's (R79); realm 0 may name any. -/
def domainDenied (c : HostCmd) (s : State) : Chk := denied (c.realm != 0 && (s.dev.domain (c.arg 0 2)).realm != c.realm)

/-- DOMAIN_SET. -/
def domainSetSpec : OpSpec where
  opcode := 0x0D10
  ownerOnly := true
  args := [(0, 4)]
  checks := fun c s => [badArg 0 (decide (c.arg 0 2 < 8192)), badArg 2 (decide (64 ≤ c.arg 2 1)), badArg 3 (decide (2 ≤ c.arg 3 1)),
    conflict (s.dev.domain (c.arg 0 2)).code ((s.dev.domain (c.arg 0 2)).code != 0)]
  run := devRun fun c _ _ d => (d.setDomain (c.arg 0 2) { d.domain (c.arg 0 2) with realm := c.arg 2 1, ordered := c.arg 3 1 == 1 }).okNow 0

/-- The row DOMAIN_SET. -/
def execDomainSet (c : HostCmd) (s : State) : Host.Outcome State Fault Refusal := .next (runCmd domainSetSpec c s)

/-- The items of a DISP_SUBMIT. -/
def submitItems (c : HostCmd) (l : List Byte) : List (List Byte) := (List.range (c.arg 0 2)).map (fun k => (l.drop (32 * k)).take 32)

/-- Whether items fit beside those waiting and delayed: READY and DELAY (Table 1-9, R710). -/
def Dev.readyFits (d : Dev) (l : List Item) : Bool :=
  let t := l.foldl (fun (x : Dev) i => if i.flags % 2 = 1 then x else x.setDomain i.domain { x.domain i.domain with waiting := (x.domain i.domain).waiting ++ [(0, i)] }) d
  decide (t.itemsSpilled ≤ 1048576)
def Dev.delayFits (d : Dev) (l : List Item) : Bool := decide (d.disp.delay.length + (l.filter (fun i => i.flags % 2 == 1)).length ≤ 131072)

/-- The checks of the items (R707). -/
def submitChecks (c : HostCmd) (l : List Byte) (s : State) : List Chk :=
  let d := s.dev
  let items := submitItems c l
  let bytes := (items.zipIdx.map (fun e =>
    let o := 32 * e.2
    [badDesc (o + 2) (decide (16 ≤ leAt e.1 2 1)), badDesc (o + 3) (decide (2 ≤ leAt e.1 3 1)),
     badDesc (o + 8) (leAt e.1 3 1 % 2 == 1 && decide (d.now + 60 * secT < d.itemTime (itemParse e.1)))])).flatten
  [denied (items.any (fun b => decide (leAt b 4 2 < 8192) || (d.domain (leAt b 4 2)).realm != c.realm))] ++ bytes ++
  [noRes (!(d.readyFits (items.map itemParse) && d.delayFits (items.map itemParse)))]

/-- DISP_SUBMIT: items arrive in array order at the effect boundary (R707). -/
def dispSubmitSpec : OpSpec where
  opcode := 0x0D11
  args := [(0, 2), (8, 8)]
  capture := fun c d => if c.arg 0 2 = 0 ∨ 256 < c.arg 0 2 then some [] else capturePinned d c.realm (c.arg 8 8) (32 * c.arg 0 2)
  checks := fun c _ => [badArg 0 (c.arg 0 2 == 0 || decide (256 < c.arg 0 2))]
  dchecks := submitChecks
  rejected := fun c st d =>
    if st = .noResource then
      let d := d.inc pgDispatch 0x088
      let items := (submitItems c ((capturePinned d c.realm (c.arg 8 8) (32 * c.arg 0 2)).getD [])).map itemParse
      let d := if d.delayFits items then d else d.raise pgDispatch 1 0x003 0x0D12 0 0
      if d.readyFits items then d else d.raise pgDispatch 0 0x003 0x0D11 0 0
    else d
  run := devRun fun c l _ d => ((submitItems c l).foldl (fun (d : Dev) b => d.acceptItem (itemParse b)) d).okNow (c.arg 0 2)

/-- The row DISP_SUBMIT. -/
def execDispSubmit (c : HostCmd) (s : State) : Host.Outcome State Fault Refusal := .next (runCmd dispSubmitSpec c s)

/-- DISP_QUERY. -/
def dispQuerySpec : OpSpec where
  opcode := 0x0D12
  args := [(0, 2)]
  checks := fun c s => [domainDenied c s]
  run := devRun fun c _ _ d =>
    let x := d.domain (c.arg 0 2)
    (d, .done .ok x.code (fmk 0 32 x.waiting.length ||| fmk 32 32 x.inService.length))

/-- The row DISP_QUERY. -/
def execDispQuery (c : HostCmd) (s : State) : Host.Outcome State Fault Refusal := .next (runCmd dispQuerySpec c s)

/-- DISP_FLUSH: waiting items are discarded (R708). -/
def dispFlushSpec : OpSpec where
  opcode := 0x0D13
  args := [(0, 2)]
  checks := fun c s => [domainDenied c s, conflict (s.dev.domain (c.arg 0 2)).code ((s.dev.domain (c.arg 0 2)).code != 2)]
  run := devRun fun c _ _ d =>
    let x := d.domain (c.arg 0 2)
    ((d.setDomain (c.arg 0 2) { x with waiting := [] }).releaseHeld (c.arg 0 2)).okNow (min 65535 x.waiting.length)

/-- The row DISP_FLUSH. -/
def execDispFlush (c : HostCmd) (s : State) : Host.Outcome State Fault Refusal := .next (runCmd dispFlushSpec c s)

/-- DISPATCH registers read at the time of the read. -/
def Dev.dispRead (d : Dev) (off : Nat) : Option Word :=
  match off with
  | 0x048 => some (fmk 0 21 d.itemsWaiting ||| fmk 32 16 (d.disp.domains.filter (fun e => e.2.code == 2)).length)
  | 0x050 => some (fmk 0 18 d.disp.delay.length)
  | _ => none

end Sys2Proof.Machine
end

