-- ==== Sys2Proof/Machine/Xlat.lean ====
section
/-! DEFINITION. Translation commands (R712 to R722), the memory controllers and Slab (R742 to R748). -/

namespace Sys2Proof.Machine
open Sys2Proof

/-! ### Pages and tables -/

/-- The bytes of a page. -/
def pageSize (large : Bool) : Nat := if large then 33554432 else 65536

/-- A leaf of exactly this page. -/
def Dev.leafFor (d : Dev) (realm va : Nat) (large : Bool) : Option Leaf := (leafAt d.xlat (leafKey realm (va / 65536))).filter (fun l => l.large == large)

/-- Some mapping covers part of a page; the state of the first page it meets (R719, R720). -/
def Dev.pageTaken (d : Dev) (realm va : Nat) (large : Bool) : Bool :=
  if large then (leafOf d.xlat realm va).isSome || d.xlat.leaves.any (fun e => e.1 / 4294967296 == realm && e.1 % 4294967296 / 512 == va / 33554432)
  else (leafOf d.xlat realm va).isSome

/-- The state code of a page: 0 UNMAPPED, 1 MAPPED, 2 HELD (R720). -/
def Dev.pageCode (d : Dev) (realm va : Nat) (large : Bool) : Nat :=
  if !d.pageTaken realm va large then 0 else if d.heldPage realm va (pageSize large) then 2 else 1

/-- Table units in use: level 1 always, a level-2 table and a level-3 table for what is mapped (R715). -/
def tableUnits (leaves : List (Nat × Leaf)) : Nat :=
  512 + 4 * ((leaves.map (fun e => e.1 / 1048576)).eraseDups).length + ((leaves.filter (fun e => !e.2.large)).map (fun e => e.1 / 512)).eraseDups.length

/-- The 64 KB pages of device memory that a leaf maps to. -/
def Leaf.size (l : Leaf) : Nat := pageSize l.large

/-- A device range meets the check data of a protected region, or a region whose ECC changes (R719). -/
def Dev.eccHit (d : Dev) (a n : Nat) : Bool :=
  (List.range ((a % 1073741824 + n + 1073741823) / 1073741824)).any (fun i =>
    let r := a / 1073741824 + i
    (d.eccOn r && decide (r * 1073741824 + 1006632960 < a + n) && decide (a < (r + 1) * 1073741824)) ||
    (match d.mem.eccBusy with | some (m, _) => (m >>> r) % 2 == 1 && decide (a < (r + 1) * 1073741824) && decide (r * 1073741824 < a + n) | none => false))

/-- A Slab page lies in its slice's scratch units (R744); those of an ISOLATED slice are withdrawn (R22). -/
def Dev.slabOk (d : Dev) (a n : Nat) : Bool :=
  let s := slabSlice a
  let o := a % 0x140000
  decide (s < 16) && !(d.slice s).isolate && decide (131072 ≤ o) && decide (o + n ≤ (2 + (d.slice s).scratch) * 65536)

/-- The pages of a range. -/
def vaRange (va n : Nat) (large : Bool) : List Nat := (List.range n).map (fun i => va + i * pageSize large)

/-- The leaf of XLAT_MAP's first page. -/
def mapLeaf (c : HostCmd) : Leaf := ⟨bit (fmk 0 8 (c.arg 1 1)) 2, bit (fmk 0 8 (c.arg 1 1)) 0, bit (fmk 0 8 (c.arg 1 1)) 1, c.arg 1 1 / 8 % 4, c.arg 16 8⟩

/-- The pages that XLAT_MAP adds, with their keys. -/
def mapLeaves (c : HostCmd) : List (Nat × Leaf) :=
  let l := mapLeaf c
  (List.range (c.arg 2 2)).map (fun i => (leafKey (c.arg 0 1) (c.arg 8 8 / 65536 + i * (l.size / 65536)), { l with out := l.out + i * l.size }))

/-- An output that XLAT_MAP refuses (R719). -/
def Dev.mapBad (d : Dev) (c : HostCmd) : Bool :=
  let l := mapLeaf c
  let n := c.arg 2 2 * l.size
  l.out % l.size != 0 ||
  (l.target == 0 && (decide (reservedBase < l.out + n) || d.eccHit l.out n)) ||
  (l.target == 1 && decide (2 ^ 64 < l.out + n)) ||
  (l.target == 2 && (l.large || (List.range (c.arg 2 2)).any (fun i => !d.slabOk (l.out + i * 65536) 65536)))

/-- Leaves kept in ascending order of key. -/
def addLeaves (l new : List (Nat × Leaf)) : List (Nat × Leaf) := new.foldl (fun l e => insertBy (fun a b => decide (a.1 < b.1)) e l) l

/-- XLAT_MAP (Table 15-5). -/
def xlatMapSpec : OpSpec where
  opcode := 0x0D00
  args := [(0, 4), (8, 16)]
  checks := fun c s =>
    let l := mapLeaf c
    [denied (c.realm != 0 && (c.arg 0 1 != c.realm || l.target != 1)), badArg 0 (decide (64 ≤ c.arg 0 1)),
     badArg 1 (decide (32 ≤ c.arg 1 1) || l.target == 3 || (l.target == 2 && l.pageable)), badArg 2 (c.arg 2 2 == 0),
     badArg 8 (c.arg 8 8 % l.size != 0 || decide (281474976710656 < c.arg 8 8 + c.arg 2 2 * l.size)), badArg 16 (s.dev.mapBad c),
     (match (vaRange (c.arg 8 8) (c.arg 2 2) l.large).find? (fun va => s.dev.pageTaken (c.arg 0 1) va l.large) with
      | some va => conflict (s.dev.pageCode (c.arg 0 1) va l.large) true
      | none => conflict 0 false),
     noRes (decide (65536 < tableUnits (s.dev.xlat.leaves ++ mapLeaves c)))]
  run := devRun fun c _ _ d =>
    let d := { d with xlat := { d.xlat with leaves := addLeaves d.xlat.leaves (mapLeaves c) } }
    (d.bump pgXlat 0x070 (c.arg 2 2)).okNow (c.arg 2 2)

/-- The row XLAT_MAP. -/
def execXlatMap (c : HostCmd) (s : State) : Host.Outcome State Fault Refusal := .next (runCmd xlatMapSpec c s)

/-- The checks on the range of XLAT_UNMAP and XLAT_PROTECT; `held` refuses a HELD page (R718, R720). -/
def rangeChecks (c : HostCmd) (s : State) (held : Leaf → Bool) : List Chk :=
  let large := c.arg 4 1 == 1
  [denied (c.realm != 0 && c.arg 0 1 != c.realm), badArg 0 (decide (64 ≤ c.arg 0 1)), badArg 2 (c.arg 2 2 == 0), badArg 4 (decide (2 ≤ c.arg 4 1)),
   badArg 8 (c.arg 8 8 % pageSize large != 0 || decide (281474976710656 < c.arg 8 8 + c.arg 2 2 * pageSize large))] ++
  ((vaRange (c.arg 8 8) (c.arg 2 2) large).filterMap (fun va => match s.dev.leafFor (c.arg 0 1) va large with
    | none => some (conflict (s.dev.pageCode (c.arg 0 1) va large) true)
    | some l => if held l && s.dev.heldPage (c.arg 0 1) va (pageSize large) then some (conflict 2 true) else none)).take 1

/-- XLAT_UNMAP. -/
def xlatUnmapSpec : OpSpec where
  opcode := 0x0D01
  args := [(0, 1), (2, 3), (8, 8)]
  checks := fun c s => rangeChecks c s (fun _ => true)
  run := devRun fun c _ _ d =>
    let keys := (vaRange (c.arg 8 8) (c.arg 2 2) (c.arg 4 1 == 1)).map (fun va => leafKey (c.arg 0 1) (va / 65536))
    let d := { d with xlat := { d.xlat with leaves := d.xlat.leaves.filter (fun e => !keys.contains e.1) } }
    (d.bump pgXlat 0x078 (c.arg 2 2)).okNow (c.arg 2 2)

/-- The row XLAT_UNMAP. -/
def execXlatUnmap (c : HostCmd) (s : State) : Host.Outcome State Fault Refusal := .next (runCmd xlatUnmapSpec c s)

/-- XLAT_PROTECT: a HELD page keeps PINNED and its W (R720). -/
def xlatProtectSpec : OpSpec where
  opcode := 0x0D02
  args := [(0, 1), (2, 4), (8, 8)]
  checks := fun c s => [badArg 5 (decide (4 ≤ c.arg 5 1))] ++ rangeChecks c s (fun l => c.arg 5 1 / 2 == 1 || (l.w && c.arg 5 1 % 2 == 0))
  run := devRun fun c _ _ d =>
    let keys := (vaRange (c.arg 8 8) (c.arg 2 2) (c.arg 4 1 == 1)).map (fun va => leafKey (c.arg 0 1) (va / 65536))
    let f (e : Nat × Leaf) : Nat × Leaf := if keys.contains e.1 then (e.1, { e.2 with w := c.arg 5 1 % 2 == 1, pageable := c.arg 5 1 / 2 == 1 }) else e
    { d with xlat := { d.xlat with leaves := d.xlat.leaves.map f } }.okNow (c.arg 2 2)

/-- The row XLAT_PROTECT. -/
def execXlatProtect (c : HostCmd) (s : State) : Host.Outcome State Fault Refusal := .next (runCmd xlatProtectSpec c s)

/-- A leaf entry (Table 15-4). -/
def Dev.leafWord (d : Dev) (realm base : Nat) (l : Leaf) : Word :=
  fmkB 0 true ||| fmkB 1 l.w ||| fmkB 2 l.pageable ||| fmkB 3 true ||| fmk 4 2 l.target ||| fmkB 6 (d.heldPage realm base l.size) ||| fmk 16 48 (l.out / 65536)

/-- XLAT_QUERY. -/
def xlatQuerySpec : OpSpec where
  opcode := 0x0D03
  args := [(0, 1), (8, 8)]
  checks := fun c _ => [denied (c.realm != 0 && c.arg 0 1 != c.realm), badArg 0 (decide (64 ≤ c.arg 0 1)), badArg 8 (decide (281474976710656 ≤ c.arg 8 8))]
  run := devRun fun c _ _ d =>
    match leafOf d.xlat (c.arg 0 1) (c.arg 8 8) with
    | none => (d, .done .ok 0 0)
    | some (base, l) => (d, .done .ok (if d.heldPage (c.arg 0 1) base l.size then 2 else 1) (d.leafWord (c.arg 0 1) base l))

/-- The row XLAT_QUERY. -/
def execXlatQuery (c : HostCmd) (s : State) : Host.Outcome State Fault Refusal := .next (runCmd xlatQuerySpec c s)

/-- XLAT registers read at the time of the read. -/
def Dev.xlatRead (d : Dev) (off : Nat) : Option Word :=
  match off with
  | 0x048 => let n := tableUnits d.xlat.leaves
    some (fmk 0 16 n ||| fmk 16 16 (65536 - n) ||| fmk 32 16 (d.xlat.faults.filter (fun x => x.isOpen)).length)
  | 0x060 => some (fmk 0 10 d.xlat.prod)
  | _ => none

/-- FAULT_BASE written: the ring must be PINNED to be enabled; its base changes only while ENABLE is 0 (R747, R854). -/
def Dev.faultBaseWrite (d : Dev) (v : Word) : Dev :=
  let old := d.reg pgXlat 0x050
  let m := d.mergeAt pgXlat 0x050 v
  let d := d.errs pgXlat m.2
  let moved := bit old 0 && fld m.1 16 32 != fld old 16 32
  let d := if moved then d.err pgXlat .badState else d
  let w := if moved then setFld m.1 16 32 (fld old 16 32) else m.1
  let refuse := bit w 0 && !bit old 0 && !d.pinned 0 (fld w 16 32 * 65536) 32768
  let w := if refuse then setFld w 0 1 0 else w
  let d := if refuse then d.err pgXlat .badState else d
  let d := (d.setReg pgXlat 0x050 w).unhold holdFaultRing 0
  if bit w 0 then d.hold holdFaultRing 0 0 (fld w 16 32 * 65536) 32768 else d


/-! ### Memory controllers (R742, R743) -/

/-- Some page of some realm maps into a 1 GB region. -/
def Dev.regionMapped (d : Dev) (r : Nat) : Bool :=
  d.xlat.leaves.any (fun e => e.2.target == 0 && decide (e.2.out < (r + 1) * 1073741824) && decide (r * 1073741824 < e.2.out + e.2.size))

/-- ECC_MAP0 or ECC_MAP1 written: a bit changes only while no page maps into its region and no change is in progress (R742, log entry 29). -/
def Dev.eccMapWrite (d : Dev) (which : Nat) (v : Word) : Dev :=
  let pg := pgMemctl 0
  let off := 0x058 + 8 * which
  let old := d.reg pg off
  let v := if which = 1 then v ||| fmk 62 2 3 else v
  let want := (List.range 64).filter (fun b => bit v b != bit old b)
  let free := want.filter (fun b => !d.regionMapped (64 * which + b) && d.mem.eccBusy.isNone)
  let w := free.foldl (fun w b => setFld w b 1 (if bit v b then 1 else 0)) old
  let d := d.setReg pg off w
  let d := if free.length < want.length then d.err pg .badState else d
  if free.isEmpty then d
  else { d with mem := { d.mem with eccBusy := some (sumN (free.map (fun b => 2 ^ (64 * which + b))), epochCeil (d.now + 150 * msT)) } }


/-- ECC_REGION_READY: the regions are zero and ECC_BUSY clears (R742). -/
def Dev.eccReady (d : Dev) : Dev :=
  match d.mem.eccBusy with
  | none => d
  | some (m, t) =>
    if d.now < t then d
    else { d with mem := { d.mem with dram := d.mem.dram.filter (fun c => (m >>> (c.1 / 1073741824)) % 2 == 0), eccBusy := none } }

/-- The row ECC_REGION_READY. -/
def execEccRegionReady (s : State) : Host.Outcome State Fault Refusal := .next (s.actReady (fun d => d.eccReady))

/-- Channels of a controller in service. -/
def Dev.memChannels (d : Dev) (c : Nat) : Nat := 15 - tabGetD 0 d.mem.channels c

/-- CHANNEL_FAILURE: the channel leaves service and the page is FAULTED (R746). -/
def Dev.channelFailure (d : Dev) (c ch : Nat) : Dev :=
  if 16 ≤ c ∨ 4 ≤ ch then d
  else
    ({ d with mem := { d.mem with channels := tabPutD 0 d.mem.channels c (tabGetD 0 d.mem.channels c ||| 2 ^ ch) } }).onPage (pgMemctl c)
      (fun h => { h with state := .faulted })

/-- The row CHANNEL_FAILURE. -/
def execChannelFailure (ctrl channel : Nat) (s : State) : Host.Outcome State Fault Refusal := .next (s.act (fun d => d.channelFailure ctrl channel))

/-- The row TEMP_HIGH: the refresh-rate code, and the event (R748). -/
def execTempHigh (ctrl code : Nat) (s : State) : Host.Outcome State Fault Refusal :=
  .next (s.actReady (fun d => if 16 ≤ ctrl then d
    else ({ d with mem := { d.mem with mr4 := tabPutD 0 d.mem.mr4 ctrl (code % 8) } }).raise (pgMemctl ctrl) 2 (0x160 + ctrl) 0x0D33 (fmk 0 64 ctrl) 0))

/-- An uncorrectable error of a 64-byte burst in a protected region (R743). -/
def Dev.uncorrected (d : Dev) (pa : Nat) : Dev :=
  let c := pa / 256 % 16
  if d.eccOn (pa / 1073741824) then (d.inc (pgMemctl c) 0x090).raise (pgMemctl c) 1 (0x160 + c) 0x0D32 (fmk 0 64 c) (fmk 0 64 pa) else d

/-- MEMCTL registers read at the time of the read: the ECC registers stand in controller 0 alone. -/
def Dev.memctlRead (d : Dev) (c off : Nat) : Option Word :=
  match off with
  | 0x048 => some (fmkB 0 d.mem.trained ||| fmk 4 4 (d.memChannels c) ||| fmk 16 3 (tabGetD 0 d.mem.mr4 c))
  | 0x058 => if c = 0 then none else some 0
  | 0x060 => if c = 0 then none else some 0
  | 0x068 => some (fmkB 0 (c == 0 && d.mem.eccBusy.isSome))
  | _ => none

/-! ### Slab (R744, R745) -/

/-- Leaves that map into a slice's scratch. -/
def Dev.sliceLeaves (d : Dev) (s : Nat) : List (Nat × Leaf) := d.xlat.leaves.filter (fun e => e.2.target == 2 && slabSlice e.2.out == s)

/-- A slice replaced, its change of state raised (R748). -/
def Dev.setSlice (d : Dev) (s : Nat) (x : Slice) : Dev :=
  let old := (d.slice s).state
  let d := { d with mem := { d.mem with slices := tabPutD {} d.mem.slices s x } }
  if old = x.state then d else d.raise pgSlab s (0x150 + s) 0x0D41 (fmk 0 64 s) 0

/-- SLICE_CFG written: SCRATCH while nothing maps into the scratch, ISOLATE unless a HELD page does (R744, R745). -/
def Dev.sliceCfgWrite (d : Dev) (s : Nat) (v : Word) : Dev :=
  let off := 0x100 + 8 * s
  let old := d.reg pgSlab off
  let m := match PType.slab.regAt off with
    | some r => mergeFields r.flds old (setFld old 12 4 (d.slice s).state.code) v
    | none => (old, [])
  let d := d.errs pgSlab m.2
  let maps := d.sliceLeaves s
  let held := maps.any (fun e => d.heldPage (e.1 / 4294967296) (e.1 % 4294967296 * 65536) e.2.size)
  let w := m.1
  let badScratch := fld w 0 5 != fld old 0 5 && !maps.isEmpty
  let w := if badScratch then setFld w 0 5 (fld old 0 5) else w
  let badIso := bit w 8 && !bit old 8 && held
  let w := if badIso then setFld w 8 1 0 else w
  let d := if badScratch || badIso then d.err pgSlab .badState else d
  let d := d.setReg pgSlab off w
  let d := if bit w 8 && !bit old 8 then { d with xlat := { d.xlat with leaves := d.xlat.leaves.filter (fun e => !(e.2.target == 2 && slabSlice e.2.out == s)) } } else d
  d.setSlice s { scratch := fld w 0 5, isolate := bit w 8, state := if bit w 8 then .isolated else if (d.slice s).state = .isolated then .active else (d.slice s).state }


/-- SLAB registers read at the time of the read. -/
def Dev.slabRead (d : Dev) (off : Nat) : Option Word :=
  if off = 0x048 then
    some (fmk 0 5 ((List.range 16).filter (fun s => decide ((d.slice s).state = .active))).length ||| fmk 16 9 (sumN ((List.range 16).map (fun s => if (d.slice s).isolate then 0 else (d.slice s).scratch))))
  else if 0x100 ≤ off ∧ off < 0x180 ∧ off % 8 = 0 then
    let s := (off - 0x100) / 8
    some (setFld (d.reg pgSlab off) 12 4 (d.slice s).state.code)
  else none

end Sys2Proof.Machine
end

