-- ==== Sys2Proof/Machine/Dma.lean ====
section
/-! DEFINITION. DMA channels (R737 to R741) and the commands over translation faults (R731 to R736). -/

namespace Sys2Proof.Machine
open Sys2Proof

/-! ### Channels -/

/-- A channel, its page, and the offset of its register `o`. -/
def Dev.dch (d : Dev) (ch : Nat) : DmaCh := tabGetD {} d.dma.chans ch
def Dev.setDch (d : Dev) (ch : Nat) (x : DmaCh) : Dev := { d with dma := { d.dma with chans := tabPutD {} d.dma.chans ch x } }
def chOff (ch o : Nat) : Nat := 0x100 + 0x40 * (ch % 8) + o
def Dev.chReg (d : Dev) (ch o : Nat) : Word := d.reg (pgDma ch) (chOff ch o)

/-- ENABLE, PRIORITY, descriptors of the ring, its base and the producer index. -/
def Dev.chOn (d : Dev) (ch : Nat) : Bool := bit (d.chReg ch 0) 0
def Dev.chPrio (d : Dev) (ch : Nat) : Nat := fld (d.chReg ch 0) 8 4
def Dev.chEntries (d : Dev) (ch : Nat) : Nat := 2 ^ (fld (d.chReg ch 8) 0 4 + 4)
def Dev.chBase (d : Dev) (ch : Nat) : Nat := fld (d.chReg ch 8) 12 36 * 4096
def Dev.chTail (d : Dev) (ch : Nat) : Nat := fld (d.chReg ch 0x10) 0 16

/-- ENABLE cleared: the channel leaves service and its binding ends. -/
def Dev.chOffNow (d : Dev) (ch : Nat) : Dev :=
  let d := d.setReg (pgDma ch) (chOff ch 0) (setFld (d.chReg ch 0) 0 1 0)
  (d.setDch ch { head := (d.dch ch).head }).unhold holdDma ch

/-- The channel enters FAULTED (R740, R741, Table 15-17). -/
def Dev.chFaulted (d : Dev) (ch : Nat) (id : Option Nat) (x : DmaCh) : Dev :=
  (d.setDch ch { x with state := .faulted, faultId := id }).raise (pgDma ch) (2 * (ch % 8) + 1) (0x020 + ch) 0x0D21 (fmk 0 64 ch) 0

/-- A fault has halted the descriptor in hand (R728): a channel that a bad CH_TAIL took to FAULTED is not (R741). -/
def DmaCh.halted (x : DmaCh) : Bool := decide (x.state = .faulted) && x.busy && x.faultId.isSome

/-- The fault of a channel closed. -/
def Dev.closeOf (d : Dev) (x : DmaCh) (how : Nat) : Dev := match x.faultId with | some i => d.closeFault i how | none => d

/-- The address of a channel's descriptor in hand. -/
def Dev.chDesc (d : Dev) (ch : Nat) : Nat := d.chBase ch + 64 * (d.dch ch).head

/-- A mover lets its channel go. -/
def Dev.freeMover (d : Dev) (ch : Nat) : Dev := { d with dma := { d.dma with movers := d.dma.movers.map (fun m => if m = some ch then none else m) } }

/-- DMA_DESCRIPTOR_END: the write-back, CH_HEAD past the descriptor, and a pending STOP (R738, R741). -/
def Dev.chEnd (d : Dev) (ch : Nat) : Dev :=
  let x := d.dch ch
  match x.ending with
  | none => d
  | some (result, done) =>
    let a := d.chDesc ch
    let op := match d.readVa 0 a 1 with | .ok l => leAt l 0 1 | .error _ => 0
    let d := d.writeVa 0 (a + 32) (leBytes 4 done ++ leBytes 1 result ++ [0] ++ leBytes 2 x.lastFault)
    let d := (d.inc (pgDma ch) (chOff ch 0x38)).bump (pgDma ch) (chOff ch 0x30) done
    let d := if op / 16 % 2 = 1 then d.event (pgDma ch) (2 * (ch % 8)) else d
    let d := (d.freeMover ch).setDch ch { state := x.state, stop := x.stop, head := (x.head + 1) % d.chEntries ch }
    if x.stop then d.chOffNow ch else d

/-- The row DMA_DESCRIPTOR_END. -/
def execDmaDescriptorEnd (ch : Nat) (s : State) : Host.Outcome State Fault Refusal := .next (s.actReady (fun d => d.chEnd ch))

/-- A CH_CTRL.ENABLE write: setting it needs the ring PINNED and naturally aligned; clearing it lets a descriptor in hand end, and ends one that
has faulted (R81, R736, R741, log entry 30). -/
def Dev.chEnable (d : Dev) (ch : Nat) (v : Word) : Dev :=
  let pg := pgDma ch
  let old := d.chReg ch 0
  let m := d.mergeAt pg (chOff ch 0) (v &&& (fmk 1 3 7 ^^^ BitVec.allOnes 64))
  let d := d.errs pg m.2
  let x := d.dch ch
  if bit m.1 0 && !bit old 0 then
    let bytes := 64 * d.chEntries ch
    if d.chBase ch % bytes = 0 ∧ d.pinned 0 (d.chBase ch) bytes = true then
      ((d.setReg pg (chOff ch 0) m.1).setDch ch { head := x.head, state := .active }).hold holdDma ch 0 (d.chBase ch) bytes
    else (d.setReg pg (chOff ch 0) (setFld m.1 0 1 0)).err pg .badState
  else if !bit m.1 0 && bit old 0 then
    let d := d.setReg pg (chOff ch 0) (setFld m.1 0 1 1)
    if x.halted then
      ((d.closeOf x 3).setDch ch { x with ending := some (2, x.progress), stop := true }).chEnd ch
    else if x.busy then d.setDch ch { x with stop := true }
    else d.chOffNow ch
  else d.setReg pg (chOff ch 0) m.1


/-- STOP (R736, R741). -/
def Dev.chStop (d : Dev) (ch : Nat) : Dev := if d.chOn ch then d.chEnable ch (setFld (d.chReg ch 0) 0 1 0) else d


/-- CH_TAIL written: a bad index takes the channel to FAULTED with no fault (R82, R741). -/
def Dev.chTailWrite (d : Dev) (ch : Nat) (v : Word) : Dev :=
  let m := d.mergeAt (pgDma ch) (chOff ch 0x10) v
  let t := fld m.1 0 16
  let n := d.chEntries ch
  let bad := badIndex n (d.dch ch).head (fld (d.chReg ch 0x10) 0 16) t
  let d := (d.setReg (pgDma ch) (chOff ch 0x10) m.1).errs (pgDma ch) m.2
  if d.chOn ch && bad then d.chFaulted ch none (d.dch ch) else d


/-! ### Descriptors -/

/-- A descriptor's fields (Table 15-8). -/
structure DmaDesc where
  op : Nat
  src : Nat
  dst : Nat
  srcRealm : Nat
  dstRealm : Nat
  len : Nat
  pat : List Byte
  time : Word
  bad : Bool
  deriving DecidableEq, Repr

/-- The 64 bytes taken apart; `bad` when a field lies outside the table (R738). -/
def dmaParse (l : List Byte) : DmaDesc :=
  let b := leAt l 0 1
  let op := b % 16
  let len := leAt l 4 4
  { op := op
    src := leAt l 8 8
    dst := leAt l 16 8
    srcRealm := leAt l 2 1
    dstRealm := leAt l 3 1
    len := len
    pat := (l.drop 8).take 8
    time := BitVec.ofNat 64 (leAt l 24 8)
    bad := decide (4 ≤ op) || decide (32 ≤ b) || leAt l 1 1 != 0 || decide (64 ≤ leAt l 2 1) || decide (64 ≤ leAt l 3 1) ||
      (decide (op < 2) && len == 0) || (decide (2 ≤ op) && len != 0) || leAt l 37 1 != 0 || (l.drop 48).any (· != 0) }

/-- What stops or answers a transfer: bytes written and the failure, if any. -/
structure Moved where
  dev : Dev
  done : Nat
  fault : Option (XErr × Bool × Nat)
  deriving DecidableEq, Repr

/-- Byte k of a transfer read: a failed host read and an uncorrectable burst read as 0 (R717, R743). -/
def Dev.moveRead (d : Dev) (x : DmaDesc) (hostErr : Bool) (ue : Option Nat) (k : Nat) : Except XErr Byte :=
  if x.op = 1 then .ok (nthD 0 x.pat (k % 8))
  else match d.translate x.srcRealm (x.src + k) false with
    | .error e => .error e
    | .ok (t, a) => .ok (if t = 1 ∧ hostErr = true then 0
        else match ue with
          | some p => if t = 0 ∧ a / 64 = p / 64 ∧ d.eccOn (a / 1073741824) = true then 0 else d.targetRead t a
          | none => d.targetRead t a)

/-- Bytes moved in ascending order from byte `k` on, until all are or a translation fails (R728, R740). -/
def Dev.moveBytes (x : DmaDesc) (hostErr : Bool) (ue : Option Nat) : Nat → Nat → Dev → Moved
  | 0, k, d => ⟨d, k, none⟩
  | n + 1, k, d =>
    match d.moveRead x hostErr ue k with
    | .error e => ⟨d, k, some (e, false, x.srcRealm)⟩
    | .ok b => match d.translate x.dstRealm (x.dst + k) true with
      | .error e => ⟨d, k, some (e, true, x.dstRealm)⟩
      | .ok (t, a) => Dev.moveBytes x hostErr ue n (k + 1) (if t = 1 ∧ hostErr = true then d else d.targetWrite t a b)

/-- The two ranges of a COPY overlap in one realm (R738). -/
def DmaDesc.overlaps (x : DmaDesc) : Bool :=
  x.op == 0 && x.srcRealm == x.dstRealm && decide (x.src < x.dst + x.len) && decide (x.dst < x.src + x.len)

/-- Some part of a range lies where `f` holds of its target, output address and length: page by page. -/
def Dev.spanHits (d : Dev) (realm va n : Nat) (f : Nat → Nat → Nat → Bool) : Bool :=
  (List.range ((va % 65536 + n + 65535) / 65536)).any (fun i =>
    let a := max va ((va / 65536 + i) * 65536)
    let e := min (va + n) ((va / 65536 + i + 1) * 65536)
    match d.translate realm a false with
    | .ok (t, o) => f t o (e - a)
    | .error _ => false)

/-- A fault of the channel in hand. -/
def Dev.chFault (d : Dev) (ch realm : Nat) (e : XErr) (write : Bool) (done : Nat) : Dev :=
  let x := d.dch ch
  let r := d.recordFault realm e write 2 (0x020 + ch) (.dma ch x.head) false
  (r.1.freeMover ch).chFaulted ch (some r.2) { x with progress := done, lastFault := r.2 }

/-- The descriptor in hand of a channel runs from its PROGRESS on (R738 to R740). -/
def Dev.chRun (d : Dev) (ch : Nat) (hostErr : Bool) (ue : Option Nat) : Dev :=
  let c := d.dch ch
  let x := dmaParse (match d.readVa 0 (d.chDesc ch) 64 with | .ok l => l | .error _ => List.replicate 64 0)
  let realms := d.chReg ch 0x28
  if x.bad || x.overlaps then d.setDch ch { c with ending := some (2, 0) }
  else if !bit realms x.srcRealm then d.chFault ch x.srcRealm ⟨3, 0, x.src⟩ false c.progress
  else if !bit realms x.dstRealm then d.chFault ch x.dstRealm ⟨3, 0, x.dst⟩ true c.progress
  else if x.op = 2 then d.setDch ch { c with wait := some (nearShort d.now x.time) }
  else if x.op = 3 then d.setDch ch { c with ending := some (1, 0) }
  else
    let r := Dev.moveBytes x hostErr ue (x.len - c.progress) c.progress d
    let d := r.dev
    let n := r.done - c.progress
    let src (f : Nat → Nat → Nat → Bool) : Bool := x.op == 0 && d.spanHits x.srcRealm (x.src + c.progress) n f
    let host (t _ _ : Nat) : Bool := t == 1
    let d := if hostErr && (src host || d.spanHits x.dstRealm (x.dst + c.progress) n host) then (d.inc pgXlat 0x0B0).raise pgXlat 3 0x002 0x0D04 (fmk 0 64 ch) 0 else d
    let d := match ue with
      | some p => if src (fun t a n => t == 0 && decide (a / 64 ≤ p / 64) && decide (p / 64 ≤ (a + n - 1) / 64)) then d.uncorrected p else d
      | none => d
    match r.fault with
    | some (e, w, realm) => d.chFault ch realm e w r.done
    | none => d.setDch ch { c with ending := some (1, r.done), progress := r.done }

/-- A channel whose next descriptor a mover may take. -/
def Dev.chReady (d : Dev) (ch : Nat) : Bool :=
  let x := d.dch ch
  d.chOn ch && decide (x.state = .active) && !x.stop && !x.busy && !d.dma.movers.contains (some ch) && x.head != d.chTail ch

/-- The channel a mover takes: the highest priority, and in turn from the one after the last served (R737). -/
def Dev.chChoose (d : Dev) : Option Nat :=
  let order := (List.range 32).map (fun i => (d.dma.lastServed + 1 + i) % 32)
  let ready := order.filter d.chReady
  (sortBy (fun a b => decide (d.chPrio a < d.chPrio b)) ready).head?

/-- DMA_DESCRIPTOR_START. -/
def Dev.dmaStart (d : Dev) (mover : Nat) (hostErr : Bool) (ue : Option Nat) : Dev :=
  if 8 ≤ mover ∨ (nthD none d.dma.movers mover).isSome then d
  else match d.chChoose with
    | none => d
    | some ch =>
      let d := { d with dma := { d.dma with movers := setNth d.dma.movers mover (some ch), lastServed := ch } }
      let d := d.setDch ch { d.dch ch with busy := true, progress := 0, lastFault := 65535, wait := none, ending := none }
      d.chRun ch hostErr ue

/-- The row DMA_DESCRIPTOR_START. -/
def execDmaDescriptorStart (mover : Nat) (hostErr : Bool) (ue : Option Nat) (s : State) : Host.Outcome State Fault Refusal :=
  .next (s.actReady (fun d => d.dmaStart mover hostErr ue))

/-- DMA_WAIT_EXPIRY. -/
def Dev.dmaWait (d : Dev) (ch : Nat) : Dev :=
  let x := d.dch ch
  match x.wait with
  | none => d
  | some t => if d.now < t then d else d.setDch ch { x with wait := none, ending := some (1, 0) }

/-- The row DMA_WAIT_EXPIRY. -/
def execDmaWaitExpiry (ch : Nat) (s : State) : Host.Outcome State Fault Refusal := .next (s.actReady (fun d => d.dmaWait ch))

/-- A faulted descriptor retried from its PROGRESS: its fault is CLOSED (R731, R740). It needs no mover of its own (log entry 30). -/
def Dev.chRetry (d : Dev) (ch : Nat) : Dev :=
  let x := d.dch ch
  ((d.closeOf x 0).setDch ch { x with state := .active, faultId := none }).chRun ch false none

/-- A faulted descriptor ended with ABORTED; the channel goes on with the next (R732). -/
def Dev.chAbort (d : Dev) (ch : Nat) : Dev :=
  let x := d.dch ch
  ((d.closeOf x 1).setDch ch { x with state := .active, faultId := none, ending := some (2, x.progress) }).chEnd ch

/-- RESUME and SKIP act only on a descriptor in FAULTED (R740). -/
def Dev.chResume (d : Dev) (ch : Nat) : Dev := if (d.dch ch).halted then d.chRetry ch else d.err (pgDma ch) .badState
def Dev.chSkip (d : Dev) (ch : Nat) : Dev := if (d.dch ch).halted then (d.chAbort ch).inc pgXlat 0x0A0 else d.err (pgDma ch) .badState



/-- The DMA page is ACTIVE while any of its channels is enabled (Table 15-10). -/
def Dev.dmaState (d : Dev) (i : Nat) : PState := if (List.range 8).any (fun k => d.chOn (8 * i + k)) then .active else .ready

/-- DMA registers read at the time of the read. -/
def Dev.dmaRead (d : Dev) (i off : Nat) : Option Word :=
  if off = 0x048 then
    some (fmk 0 8 (sumN ((List.range 8).map (fun k => if d.chOn (8 * i + k) then 2 ^ k else 0))) ||| fmk 8 4 (d.dma.movers.filter Option.isSome).length)
  else if off < 0x100 then none
  else
    let ch := 8 * i + (off - 0x100) / 0x40
    let x := d.dch ch
    match off % 0x40 with
    | 0x18 => some (fmk 0 16 x.head)
    | 0x20 => some (fmk 0 4 x.state.code ||| fmk 16 16 (x.faultId.getD 0) ||| fmk 32 32 x.progress)
    | _ => none

/-! ### XFER of a task (R516) -/

/-- The bytes of a transfer: words, and whether it goes to device memory (Table 10-11). -/
def Core.xferLen (c : Core) : Nat := c.xferCtl / 4096 % 2048
def Core.xferOut (c : Core) : Bool := c.xferCtl / 8388608 % 2 == 1
def Core.xferAt (c : Core) : Nat := c.xferCtl % 4096

/-- The failure a transfer meets, if any. -/
def Dev.xferFail (d : Dev) (c : Core) : Option XErr :=
  if c.xferOut then d.writeCheck 0 c.xferDev (8 * c.xferLen) else d.readCheck 0 c.xferDev (8 * c.xferLen)

/-- A task's transfer halts with a fault attached (R516, R728). -/
def Dev.xferFault (d : Dev) (core : Nat) (e : XErr) : Dev :=
  let c := d.gcore core
  let unit := nthD 0 d.garnet.map (core / 16)
  let r := d.recordFault 0 e c.xferOut 1 (0x080 + unit) (.task (core / 16) (core % 16)) false
  r.1.setGcore core { r.1.gcore core with fault := some r.2 }

/-- The words moved. -/
def Dev.xferMove (d : Dev) (core : Nat) : Dev :=
  let c := d.gcore core
  if c.xferOut then d.writeVa 0 c.xferDev ((List.range c.xferLen).flatMap (fun i => leBytes 8 (tabGetD 0 c.mem (c.xferAt + i)).toNat))
  else match d.readVa 0 c.xferDev (8 * c.xferLen) with
    | .error _ => d
    | .ok l => d.setGcore core { c with mem := (List.range c.xferLen).foldl (fun m i => tabPutD 0 m (c.xferAt + i) (BitVec.ofNat 64 (leAt l (8 * i) 8))) c.mem }

/-- A stalled read of XFER_GO or DISP_GET gives its value, and the task goes on. -/
def Dev.unstall (d : Dev) (core : Nat) (v : Word) : Dev :=
  let c := d.gcore core
  d.setGcore core { c with stall := 0, fault := none, lands := c.lands ++ [⟨2, .d c.stallReg, (v.toNat : Int), true⟩] }

/-! ### Faults (R731 to R736) -/

/-- The halted work of a fault retried; the second component says that it faulted again. -/
def Dev.retry (d : Dev) (x : XFault) : Dev × Bool :=
  let n := d.xlat.nextId
  let d := d.closeFault x.id 0
  let d := match x.work with
    | .dma ch _ => if (d.dch ch).faultId = some x.id then d.chRetry ch else d
    | .enc i =>
      let y := d.encS i
      match y.jobs with
      | j :: t =>
        if j.fault = some x.id then
          let d := d.setEncS i { y with jobs := { j with fault := none } :: t }
          match d.encSource y { j with fault := none } with
          | none => d
          | some (e, row) =>
            let r := d.recordFault y.realm e false 1 (0x040 + d.geUnitOf y.engine) (.enc i) false
            r.1.onEncS i (fun z => { z with jobs := { j with fault := some r.2, saved := some (0, row) } :: t })
        else d
      | [] => d
    | .dec i =>
      let y := d.decS i
      match y.jobs with
      | j :: t =>
        if j.fault = some x.id then
          let d := d.setDecS i { y with jobs := { j with fault := none } :: t }
          match d.readCheck y.realm j.data j.length with
          | none => d
          | some e =>
            let r := d.recordFault y.realm e false 1 (0x040 + d.geUnitOf y.engine) (.dec i) false
            r.1.onDecS i (fun z => { z with jobs := { j with fault := some r.2 } :: t })
        else d
      | [] => d
    | .task cl k =>
      let core := 16 * cl + k
      if (d.gcore core).fault = some x.id then
        let d := d.setGcore core { d.gcore core with fault := none }
        match d.xferFail (d.gcore core) with
        | none => d
        | some e => d.xferFault core e
      else d
    | .none => d
  (d, decide (d.xlat.nextId ≠ n))

/-- A fault's work abandoned, by FAULT_ABORT or at its timeout (R732, R735); `how` as the trace has it. -/
def Dev.abandon (d : Dev) (x : XFault) (how : Nat) : Dev :=
  let d := (d.closeFault x.id how).inc pgXlat 0x0A0
  match x.work with
  | .dma ch _ => if (d.dch ch).faultId = some x.id then d.chAbort ch else d
  | .enc i => if ((d.encS i).jobs.head?.bind (fun j => j.fault)) = some x.id then d.encAbort i else d
  | .dec i => if ((d.decS i).jobs.head?.bind (fun j => j.fault)) = some x.id then d.decAbort i else d
  | .task cl k => if (d.gcore (16 * cl + k)).fault = some x.id then d.unstall (16 * cl + k) 1 else d
  | .none => d

/-- The checks of a fault that a command names (R736): one that is not OPEN is CLOSED. -/
def faultChecks (c : HostCmd) (s : State) : List Chk :=
  match s.dev.fault (c.arg 0 2) with
  | none => [conflict 1 true]
  | some x => [denied (c.realm != 0 && x.realm != c.realm), conflict 1 (!x.isOpen)]

/-- FAULT_RESUME (R731). -/
def faultResumeSpec : OpSpec where
  opcode := 0x0D08
  args := [(0, 2)]
  checks := fun c s => faultChecks c s
  run := devRun fun c _ _ d => match d.fault (c.arg 0 2) with
    | none => d.okNow 0
    | some x => let r := d.retry x; r.1.okNow (if r.2 then 1 else 0)

/-- The row FAULT_RESUME. -/
def execFaultResume (c : HostCmd) (s : State) : Host.Outcome State Fault Refusal := .next (runCmd faultResumeSpec c s)

/-- FAULT_ABORT (R732). -/
def faultAbortSpec : OpSpec where
  opcode := 0x0D09
  args := [(0, 2)]
  checks := fun c s => faultChecks c s
  run := devRun fun c _ _ d => match d.fault (c.arg 0 2) with
    | none => d.okNow 0
    | some x => (d.abandon x 1).okNow 0

/-- The row FAULT_ABORT. -/
def execFaultAbort (c : HostCmd) (s : State) : Host.Outcome State Fault Refusal := .next (runCmd faultAbortSpec c s)

/-- FAULT_TIMEOUT: a fault OPEN for TIMEOUT_MS is aborted (R735). -/
def Dev.faultTimeout (d : Dev) (id : Nat) : Dev :=
  let ms := fld (d.reg pgXlat 0x058) 0 16
  match d.fault id with
  | none => d
  | some x =>
    if !x.isOpen || ms == 0 || decide (d.now < x.time + ms * msT) then d
    else (d.abandon x 2).raise pgXlat 4 0x002 0x0D05 (fmk 0 16 id ||| fmk 16 4 x.code ||| fmk 24 6 x.realm) (fmk 0 64 x.va)

/-- The row FAULT_TIMEOUT. -/
def execFaultTimeout (id : Nat) (s : State) : Host.Outcome State Fault Refusal := .next (s.actReady (fun d => d.faultTimeout id))

end Sys2Proof.Machine
end

