-- ==== Sys2Proof/Machine/Legs.lean ====
section
/-! DEFINITION. Legs (chapter 4): the leg commands of Table 4-2, consent, drain, repair towards sources, RTCP and feedback. -/

namespace Sys2Proof.Machine
open Sys2Proof

/-! ### Descriptors and checks (R161 to R163, R570) -/

/-- A leg descriptor (Table 4-3). -/
def legParse (l : List Byte) : LegDesc :=
  { family := leAt l 0 1
    port := leAt l 1 1
    vlan := leAt l 2 2 % 4096
    pcp := leAt l 2 2 / 8192
    localUdp := leAt l 4 2
    remoteUdp := leAt l 6 2
    localIp := (l.drop 8).take 16
    remoteIp := (l.drop 24).take 16
    nextHop := beAt l 40 6
    dscp := leAt l 46 1
    profile := leAt l 47 1
    keyIn := leAt l 48 2
    keyOut := leAt l 50 2
    qMedia := leAt l 52 2
    qRepair := leAt l 54 2
    consent := leBits l 56 1 0 1 == 1
    srtp := leBits l 56 1 1 1 == 1
    fb8888 := leBits l 56 1 2 1 == 1
    rsize := leBits l 56 1 3 1 == 1
    extMid := leAt l 57 1
    extRid := leAt l 58 1
    extRrid := leAt l 59 1
    extDd := leAt l 60 1
    ufragLocal := (l.drop 64).take 16
    ufragRemote := (l.drop 80).take 16
    pwdLocal := (l.drop 96).take 64
    pwdRemote := (l.drop 160).take 64 }

/-- Two legs have the same 5-tuple and VLAN (R163). -/
def LegDesc.same (a b : LegDesc) : Bool :=
  a.family == b.family && a.vlan == b.vlan && a.localUdp == b.localUdp && a.remoteUdp == b.remoteUdp && decide (a.localIp = b.localIp) &&
  decide (a.remoteIp = b.remoteIp)

/-- A queue is bound to something other than leg `l`. -/
def Dev.queueTaken (d : Dev) (k l : Nat) : Bool :=
  let q := d.queue k
  decide (q.bind = .stream) || (decide (q.bind = .leg) && q.obj != l)

/-- The direction a slot's keys set; an EMPTY slot has none (R570). -/
def KeySlot.dir (s : KeySlot) : Option Bool :=
  match s.current, s.pending with
  | some h, _ => some h.egress
  | none, some h => some h.egress
  | none, none => none

/-- The checks of a descriptor for leg `l` of a realm (R162, R163, R570). Reserved bytes must be 0 (log entry 23). -/
def legDescChecks (b : List Byte) (l realm : Nat) (d : Dev) : List Chk :=
  let x := legParse b
  let qm := resolveQ x.qMedia l false
  let qr := resolveQ x.qRepair l true
  [denied ((decide (qm < 8192) && (d.queue qm).realm != realm) || (decide (qr < 8192) && (d.queue qr).realm != realm)),
   denied (x.srtp && (decide (x.keyIn < 16384) && d.slotOwner x.keyIn != realm || decide (x.keyOut < 16384) && d.slotOwner x.keyOut != realm)),
   denied (!x.srtp && realm != 0),
   badDesc 0 (x.family != 4 && x.family != 6), badDesc 1 (decide (8 ≤ x.port)),
   badDesc 2 (leBits b 2 2 12 1 != 0 || d.legs.legs.any (fun e => e.1 != l && decide (e.2.state ≠ .idle) && e.2.desc.same x)),
   badDesc 8 (x.family == 4 && (x.localIp.drop 4).any (· != 0)), badDesc 24 (x.family == 4 && (x.remoteIp.drop 4).any (· != 0)),
   badDesc 46 (decide (64 ≤ x.dscp)), badDesc 47 (decide (16 ≤ x.profile)),
   badDesc 48 (x.srtp && (decide (16384 ≤ x.keyIn) || decide ((d.slot x.keyIn).dir = some true) || d.slotNamed x.keyIn (some l))),
   badDesc 50 (x.srtp && (decide (16384 ≤ x.keyOut) || decide ((d.slot x.keyOut).dir = some false) || d.slotNamed x.keyOut (some l) || x.keyIn == x.keyOut)),
   badDesc 52 (decide (8192 ≤ qm) || d.queueTaken qm l), badDesc 54 (decide (8192 ≤ qr) || d.queueTaken qr l || qm == qr),
   badDesc 56 (leBits b 56 1 4 4 != 0), badDesc 61 (leAt b 61 3 != 0), badDesc 224 ((b.drop 224).any (· != 0))]

/-- A leg named by a command: it must belong to the command's realm (R79, R160); any realm may name an IDLE one where `idle` (R858). -/
def legDenied (idle : Bool) (c : HostCmd) (l : Nat) (s : State) : Chk :=
  denied (c.realm != 0 && decide (l < 4096) &&
    (if (s.dev.leg l).state = .idle then !idle else (s.dev.leg l).realm != c.realm))

/-- A leg in one of the states a command is allowed in (R88). -/
def legIn (l : Nat) (s : State) (ok : List LegState) : Chk :=
  conflict (s.dev.leg l).state.code (!ok.contains (s.dev.leg l).state)

/-- The states of Table 4-2's "KEYED, ACTIVE, HELD". -/
def legLive : List LegState := [.keyed, .active, .held]

/-- A state change traced (Table 17-5). -/
def Dev.moveLeg (d : Dev) (l : Nat) (st : LegState) (cause : Nat) : Dev :=
  let old := (d.leg l).state
  (d.onLeg l (fun x => { x with state := st })).trace 1 0x0104 (0x180 + l % 64)
    (fmk 0 13 l ||| fmk 16 4 old.code ||| fmk 20 4 st.code) (fmk 0 8 cause) l

/-- The boundary at which a command takes effect. -/
def boundaryOf (d : Dev) : Time := effectEpoch d * msT

/-! ### LEG_OPEN to LEG_QUERY -/

/-- The owner of a conference that some leg out of IDLE still holds (R858). -/
def Dev.confOwner (d : Dev) (c : Nat) : Option Nat := tabGetD none d.legs.confOwner c

/-- LEG_OPEN. -/
def legOpenSpec : OpSpec where
  opcode := 0x0200
  args := [(0, 4), (8, 8)]
  capture := fun c d => capturePinned d c.realm (c.arg 8 8) 256
  checks := fun c s => [legDenied true c (c.arg 0 2) s,
    denied (c.realm != 0 && (match s.dev.confOwner (c.arg 2 2) with | some r => r != c.realm | none => false)),
    badArg 0 (decide (4096 ≤ c.arg 0 2)), badArg 2 (decide (512 ≤ c.arg 2 2)), badArg 8 (c.arg 8 8 % 64 != 0), legIn (c.arg 0 2) s [.idle]]
  dchecks := fun c l s => legDescChecks l (c.arg 0 2) c.realm s.dev
  run := devRun fun c l _ d =>
    let i := c.arg 0 2
    let x := legParse l
    let d := d.moveLeg i .keyed 0
    let d := d.setLeg i { state := .keyed, realm := c.realm, conf := c.arg 2 2, desc := x }
    let d := { d with legs := { d.legs with confOwner :=
      if (d.confOwner (c.arg 2 2)).isNone then tabPutD none d.legs.confOwner (c.arg 2 2) (some c.realm) else d.legs.confOwner } }
    ((d.bindQueue (d.mediaQ i) .leg i x.port).bindQueue (d.repairQ i) .leg i x.port).okNow 0

/-- The row LEG_OPEN. -/
def execLegOpen (c : HostCmd) (s : State) : Host.Outcome State Fault Refusal := .next (runCmd legOpenSpec c s)

/-- Playout of a leg's audio streams starts anew with the next packet (R369). -/
def Dev.restartPlayout (d : Dev) (l : Nat) : Dev :=
  { d with audio := { d.audio with play := tabMapD {} d.audio.play (fun k p => if k / 16 = l then { p with started := false } else p) } }

/-- LEG_START (R159, R178, R196). -/
def legStartSpec : OpSpec where
  opcode := 0x0201
  args := [(0, 2)]
  checks := fun c s => [legDenied false c (c.arg 0 2) s, badArg 0 (decide (4096 ≤ c.arg 0 2)), legIn (c.arg 0 2) s [.keyed],
    noRes (!bit (s.dev.reg pgLegs 0x060) 0)]
  run := devRun fun c _ _ d =>
    let l := c.arg 0 2
    let b := boundaryOf d
    let d := d.moveLeg l .active 0
    let d := d.onLeg l (fun x => { x with
      est := ((d.legProf l 0x08 0 32 * 1000 : Nat) : Int)
      verdict := .steady
      lastReport := b
      holdUntil := b
      baseHist := []
      consentFrom := b
      nextConsent := b
      stunIds := []
      nextRtcp := b + d.legProf l 0x30 32 16 * msT
      nextFb := b + d.legProf l 0x30 16 16 * msT })
    (d.restartPlayout l).okNow 0

/-- The row LEG_START. -/
def execLegStart (c : HostCmd) (s : State) : Host.Outcome State Fault Refusal := .next (runCmd legStartSpec c s)

/-- LEG_HOLD. -/
def legHoldSpec : OpSpec where
  opcode := 0x0202
  args := [(0, 2)]
  checks := fun c s => [legDenied false c (c.arg 0 2) s, badArg 0 (decide (4096 ≤ c.arg 0 2)), legIn (c.arg 0 2) s [.active]]
  run := devRun fun c _ _ d =>
    let l := c.arg 0 2
    ((d.moveLeg l .held 0).onLeg l (fun x => { x with expired := false })).okNow 0

/-- The row LEG_HOLD. -/
def execLegHold (c : HostCmd) (s : State) : Host.Outcome State Fault Refusal := .next (runCmd legHoldSpec c s)

/-- Feedback of a leg dropped (R178). -/
def Leg.dropFeedback (x : Leg) : Leg := { x with fbReports := 0, fbLost := 0, fbRecv := 0, fbDelays := [], rrFrac := none }

/-- LEG_RESUME (R159, R178). -/
def legResumeSpec : OpSpec where
  opcode := 0x0203
  args := [(0, 2)]
  checks := fun c s => [legDenied false c (c.arg 0 2) s, badArg 0 (decide (4096 ≤ c.arg 0 2)), legIn (c.arg 0 2) s [.held]]
  run := devRun fun c _ _ d =>
    let l := c.arg 0 2
    let b := boundaryOf d
    let d := d.moveLeg l .active 0
    let d := d.onLeg l (fun x => { x.dropFeedback with lastReport := b, consentFrom := if x.expired then b else x.consentFrom, expired := false })
    (d.restartPlayout l).okNow 0

/-- The row LEG_RESUME. -/
def execLegResume (c : HostCmd) (s : State) : Host.Outcome State Fault Refusal := .next (runCmd legResumeSpec c s)

/-- LEG_CLOSE: the leg drains for at most 20 ms (Table 4-1). -/
def legCloseSpec : OpSpec where
  opcode := 0x0204
  args := [(0, 2)]
  checks := fun c s => [legDenied false c (c.arg 0 2) s, badArg 0 (decide (4096 ≤ c.arg 0 2)), legIn (c.arg 0 2) s legLive]
  run := devRun fun c _ _ d =>
    let l := c.arg 0 2
    ((d.moveLeg l .draining 0).onLeg l (fun x => { x with drainAt := d.now + 20 * msT }), .later l 0)

/-- The row LEG_CLOSE. -/
def execLegClose (c : HostCmd) (s : State) : Host.Outcome State Fault Refusal := .next (runCmd legCloseSpec c s)

/-- A DRAINING leg becomes CLOSED when its queues are empty or 20 ms have passed; what they hold is discarded and counted (R158), and
every need on it is cleared (R186). -/
def Dev.legDrainEnd (d : Dev) (l : Nat) : Dev :=
  let x := d.leg l
  let n := (d.queue (d.mediaQ l)).frames.length + (d.queue (d.repairQ l)).frames.length
  if x.state ≠ .draining ∨ (n ≠ 0 ∧ d.now < x.drainAt) then d
  else
    let d := (d.discardQueue (d.mediaQ l)).discardQueue (d.repairQ l)
    let d := d.moveLeg l .closed 2
    let d := d.onLeg l (fun y => { y with
      discarded := n
      streams := tabMapD none y.streams (fun _ s => s.map (fun t => { t with need := { t.need with since := none, request := false, tainted := false } })) })
    d.finish 0x0204 l .ok (satN 65535 n) d.short

/-- The row LEG_DRAIN_END. -/
def execLegDrainEnd (l : Nat) (s : State) : Host.Outcome State Fault Refusal := .next (s.actReady (fun d => d.legDrainEnd l))

/-- A router endpoint of a leg: LEG_IN or LEG_OUT of it. -/
def endpointOfLeg (l e : Nat) : Bool := (e / 16777216 == 0x01 || e / 16777216 == 0x81) && e % 16777216 / 2 == l

/-- Every route that names a leg removed, with the leg's own audio (R391, R385). -/
def Dev.audioRelease (d : Dev) (l : Nat) : Dev :=
  { d with audio := { d.audio with
      routes := tabMapD {} d.audio.routes (fun k r =>
        if endpointOfLeg l (k / 64) then {}
        else { r with target := r.target.filter (fun c => !endpointOfLeg l c.source), olds := r.olds.filter (fun c => !endpointOfLeg l c.source) })
      legs := tabPutD {} d.audio.legs l {}
      outs := tabPutD {} d.audio.outs l {}
      play := tabMapD {} d.audio.play (fun k p => if k / 16 = l then {} else p) } }

/-- LEG_RELEASE (R161, R163, R391, R571). -/
def legReleaseSpec : OpSpec where
  opcode := 0x0205
  args := [(0, 2)]
  checks := fun c s => [legDenied false c (c.arg 0 2) s, badArg 0 (decide (4096 ≤ c.arg 0 2)), legIn (c.arg 0 2) s [.closed]]
  run := devRun fun c _ _ d =>
    let l := c.arg 0 2
    let x := d.leg l
    let d := { d with legs := { d.legs with insts := tabMapD none d.legs.insts (fun _ i =>
      i.filter (fun y => y.receiver != l && !(y.kind == 0 && y.src == l))) } }
    let d := ((d.releaseQueue (d.mediaQ l)).releaseQueue (d.repairQ l)).audioRelease l
    let d := if x.desc.srtp then (d.zeroSlot x.desc.keyIn).zeroSlot x.desc.keyOut else d
    let d := (d.moveLeg l .idle 0).setLeg l {}
    let d := if d.legs.legs.any (fun e => decide (e.2.state ≠ .idle) && e.2.conf == x.conf) then d
      else { d with legs := { d.legs with confOwner := tabPutD none d.legs.confOwner x.conf none } }
    d.okNow 0

/-- The row LEG_RELEASE. -/
def execLegRelease (c : HostCmd) (s : State) : Host.Outcome State Fault Refusal := .next (runCmd legReleaseSpec c s)

/-- The SSRC contexts of a slot a leg moves from go with it (R571). -/
def Dev.moveCtxs (d : Dev) (a b : Nat) : Dev :=
  if a = b then d
  else d.setCtxs b (d.slotCtxs b ++ (d.slotCtxs a).filter (fun x => !(d.slotCtxs b).any (fun y => y.ssrc == x.ssrc)))

/-- A queue of a leg after LEG_UPDATE: bound anew when it or its port changed (R529). -/
def Dev.rebind (d : Dev) (old new l oldPort port : Nat) : Dev :=
  if old = new ∧ oldPort = port then d else d.bindQueue new .leg l port

/-- LEG_UPDATE. -/
def legUpdateSpec : OpSpec where
  opcode := 0x0206
  args := [(0, 2), (8, 8)]
  capture := fun c d => capturePinned d c.realm (c.arg 8 8) 256
  checks := fun c s => [legDenied false c (c.arg 0 2) s, badArg 0 (decide (4096 ≤ c.arg 0 2)), badArg 8 (c.arg 8 8 % 64 != 0), legIn (c.arg 0 2) s legLive]
  dchecks := fun c l s => legDescChecks l (c.arg 0 2) (s.dev.leg (c.arg 0 2)).realm s.dev
  run := devRun fun c b _ d =>
    let l := c.arg 0 2
    let o := (d.leg l).desc
    let x := legParse b
    let qm := d.mediaQ l
    let qr := d.repairQ l
    let d := d.onLeg l (fun y => { y with desc := x })
    let d := [qm, qr].foldl (fun (d : Dev) k => if k = d.mediaQ l ∨ k = d.repairQ l then d else d.releaseQueue k) d
    let d := (d.rebind qm (d.mediaQ l) l o.port x.port).rebind qr (d.repairQ l) l o.port x.port
    let d := if o.srtp && x.srtp then (d.moveCtxs o.keyIn x.keyIn).moveCtxs o.keyOut x.keyOut else d
    d.okNow 0

/-- The row LEG_UPDATE. -/
def execLegUpdate (c : HostCmd) (s : State) : Host.Outcome State Fault Refusal := .next (runCmd legUpdateSpec c s)

/-- LEG_QUERY. -/
def legQuerySpec : OpSpec where
  opcode := 0x020D
  args := [(0, 2)]
  checks := fun c s => [legDenied true c (c.arg 0 2) s, badArg 0 (decide (4096 ≤ c.arg 0 2))]
  run := devRun fun c _ _ d => (d, .done .ok (d.leg (c.arg 0 2)).state.code (fmkS 0 64 (d.leg (c.arg 0 2)).est))

/-- The row LEG_QUERY. -/
def execLegQuery (c : HostCmd) (s : State) : Host.Outcome State Fault Refusal := .next (runCmd legQuerySpec c s)

/-! ### Streams (R164) -/

/-- A zero-padded name without its padding. -/
def unpad (l : List Byte) : List Byte := (l.reverse.dropWhile (· == 0)).reverse

/-- ARGS bytes of a command. -/
def argBytes (c : HostCmd) (k n : Nat) : List Byte := leBytes n (c.arg k n)

/-- A stream kind may carry a codec (Table 4-4). -/
def codecOk (kind codec : Nat) : Bool :=
  if kind = 1 then decide (0x10 ≤ codec ∧ codec ≤ 0x14) else if kind = 2 ∨ kind = 3 then codec == 0 else decide (1 ≤ codec ∧ codec ≤ 4)

/-- PRIMARY of a stream: an audio or video stream of the leg for RTX and FEC, else 0xFF (Table 4-4). -/
def primaryOk (x : Leg) (kind prim : Nat) : Bool :=
  if kind = 2 ∨ kind = 3 then (match tabGetD none x.streams prim with | some s => decide (s.kind ≤ 1) | none => false) else prim == 0xFF

/-- STREAM_ADD (Table 4-4). -/
def streamAddSpec : OpSpec where
  opcode := 0x0208
  args := [(0, 29)]
  checks := fun c s =>
    let x := s.dev.leg (c.arg 0 2)
    let mid := unpad (argBytes c 12 8)
    let rid := unpad (argBytes c 20 8)
    [legDenied false c (c.arg 0 2) s, badArg 0 (decide (4096 ≤ c.arg 0 2)),
     badArg 2 (decide (16 ≤ c.arg 2 1) || (tabGetD none x.streams (c.arg 2 1)).isSome), badArg 3 (decide (5 ≤ c.arg 3 1)),
     badArg 4 (c.arg 4 4 != 0 && x.list.any (fun e => e.2.ssrc == c.arg 4 4)), badArg 8 (decide (128 ≤ c.arg 8 1)),
     badArg 9 (!codecOk (c.arg 3 1) (c.arg 9 1)), badArg 10 (!primaryOk x (c.arg 3 1) (c.arg 10 1)), badArg 11 (decide (4 ≤ c.arg 11 1)),
     badArg 12 (!mid.isEmpty && x.list.any (fun e => e.2.kind == c.arg 3 1 && decide (e.2.mid = mid) && decide (e.2.rid = rid))),
     badArg 28 (decide (3 ≤ c.arg 28 1)), legIn (c.arg 0 2) s legLive]
  run := devRun fun c _ _ d =>
    let s : Strm := {
      kind := c.arg 3 1
      ssrc := c.arg 4 4
      bound := c.arg 4 4 != 0
      pt := c.arg 8 1
      codec := c.arg 9 1
      primary := c.arg 10 1
      nack := c.arg 11 1 % 2 == 1
      decode := c.arg 11 1 / 2 % 2 == 1
      mid := unpad (argBytes c 12 8)
      rid := unpad (argBytes c 20 8)
      enc := c.arg 28 1
      outSeq := d.freeWord.toNat % 65536 }
    (d.tickFree.setStream (c.arg 0 2) (c.arg 2 1) (some s)).okNow (c.arg 2 1)

/-- The row STREAM_ADD. -/
def execStreamAdd (c : HostCmd) (s : State) : Host.Outcome State Fault Refusal := .next (runCmd streamAddSpec c s)

/-- STREAM_REMOVE: the instances of the source that the stream belongs to are removed with it (R161). -/
def streamRemoveSpec : OpSpec where
  opcode := 0x0209
  args := [(0, 3)]
  checks := fun c s => [legDenied false c (c.arg 0 2) s, badArg 0 (decide (4096 ≤ c.arg 0 2)),
    badArg 2 (decide (16 ≤ c.arg 2 1) || (s.dev.stream (c.arg 0 2) (c.arg 2 1)).isNone), legIn (c.arg 0 2) s legLive]
  run := devRun fun c _ _ d =>
    let l := c.arg 0 2
    let sub := d.sourceOf l (c.arg 2 1)
    let d := { d with legs := { d.legs with insts := tabMapD none d.legs.insts (fun _ i =>
      i.filter (fun y => !(y.kind == 0 && y.src == l && y.sub == sub))) } }
    let d := { d with audio := { d.audio with play := tabPutD {} d.audio.play (16 * l + c.arg 2 1) {} } }
    (d.setStream l (c.arg 2 1) none).okNow 0

/-- The row STREAM_REMOVE. -/
def execStreamRemove (c : HostCmd) (s : State) : Host.Outcome State Fault Refusal := .next (runCmd streamRemoveSpec c s)

/-! ### Subscriptions (R165, R166) -/

/-- SRC_SUB names the lowest stream of an audio or video source of a leg (R165). -/
def Dev.subOk (d : Dev) (l i : Nat) : Bool :=
  match d.stream l i with
  | some s => decide (s.kind ≤ 1) && d.sourceOf l i == i
  | none => false

/-- The bounds of WEIGHT, PRIORITY and the ceilings (Table 4-5). -/
def subBounds (c : HostCmd) : List Chk :=
  [badArg 6 (c.arg 6 1 == 0), badArg 7 (decide (4 ≤ c.arg 7 1)), badArg 8 (decide (3 ≤ c.arg 8 1)), badArg 9 (decide (3 ≤ c.arg 9 1))]

/-- SUBSCRIBE. -/
def subscribeSpec : OpSpec where
  opcode := 0x020A
  args := [(0, 10), (12, 6)]
  checks := fun c s =>
    let d := s.dev
    let r := c.arg 0 2
    let k := c.arg 2 1
    let src := c.arg 4 2
    let rx := d.leg r
    let sx := d.leg src
    let lay := d.layout src
    let apart := k == 0 && (src == r || (decide (sx.state ≠ .idle) && decide (rx.state ≠ .idle) && sx.conf != rx.conf) ||
      (sx.desc.extDd != 0 && sx.desc.extDd != rx.desc.extDd))
    [legDenied false c r s, denied (k == 0 && c.realm != 0 && decide (src < 4096) && (decide (sx.state = .idle) || sx.realm != c.realm)),
     badArg 0 (decide (4096 ≤ r)), badArg 2 (decide (2 ≤ k)),
     badArg 3 (if k = 0 then decide (src < 4096) && !d.subOk src (c.arg 3 1) else decide (4 ≤ c.arg 3 1)),
     badArg 4 (if k = 0 then decide (4096 ≤ src) || apart else decide (256 ≤ src) || decide (lay.state = .idle) || lay.conf != rx.conf)] ++
    subBounds c ++ [badArg 16 (decide (128 ≤ c.arg 16 1)), badArg 17 (decide (128 ≤ c.arg 17 1)), legIn r s legLive,
     noRes (decide (64 ≤ (d.instList.filter (fun e => e.2.receiver == r)).length) || decide (32768 ≤ d.instList.length))]
  run := devRun fun c _ _ d =>
    let used := d.instList.map (fun e => e.1)
    let at_ := d.freeWord.toNat % 32768
    let d := d.tickFree
    let n := (((List.range 32768).map (fun i => (at_ + i) % 32768)).find? (fun i => !used.contains i)).getD 0
    let x : Inst := {
      receiver := c.arg 0 2
      kind := c.arg 2 1
      sub := c.arg 3 1
      src := c.arg 4 2
      weight := c.arg 6 1
      prio := c.arg 7 1
      maxS := c.arg 8 1
      maxT := c.arg 9 1
      outSsrc := c.arg 12 4
      outPt := c.arg 16 1
      rtxPt := c.arg 17 1
      outSeq := d.freeWord.toNat % 65536
      rtxSeq := d.tickFree.freeWord.toNat % 65536 }
    (d.tickFree.tickFree.setInst n (some x)).okNow n

/-- The row SUBSCRIBE. -/
def execSubscribe (c : HostCmd) (s : State) : Host.Outcome State Fault Refusal := .next (runCmd subscribeSpec c s)

/-- An instance belongs to a receiver. -/
def Dev.instOf (d : Dev) (n r : Nat) : Bool := match d.inst n with | some x => x.receiver == r | none => false

/-- UNSUBSCRIBE. An IDLE receiver has no instance to name, and gets STATE_CONFLICT (Table 4-2). -/
def unsubscribeSpec : OpSpec where
  opcode := 0x020B
  args := [(0, 4)]
  checks := fun c s => [legDenied false c (c.arg 0 2) s, badArg 0 (decide (4096 ≤ c.arg 0 2)),
    badArg 2 (decide ((s.dev.leg (c.arg 0 2)).state ≠ .idle) && !s.dev.instOf (c.arg 2 2) (c.arg 0 2)), legIn (c.arg 0 2) s [.keyed, .active, .held, .draining, .closed]]
  run := devRun fun c _ _ d => (d.setInst (c.arg 2 2) none).okNow 0

/-- The row UNSUBSCRIBE. -/
def execUnsubscribe (c : HostCmd) (s : State) : Host.Outcome State Fault Refusal := .next (runCmd unsubscribeSpec c s)

/-- SUBSCRIBE_SET: only WEIGHT, PRIORITY and the ceilings change (R165). -/
def subscribeSetSpec : OpSpec where
  opcode := 0x020C
  args := [(0, 10), (12, 6), (20, 2)]
  checks := fun c s =>
    let x := s.dev.inst (c.arg 20 2)
    let differs (f : Inst → Nat) (v : Nat) : Bool := match x with | some y => f y != v | none => false
    [legDenied false c (c.arg 0 2) s, badArg 0 (decide (4096 ≤ c.arg 0 2)), badArg 2 (differs Inst.kind (c.arg 2 1)),
     badArg 3 (differs Inst.sub (c.arg 3 1)), badArg 4 (differs Inst.src (c.arg 4 2))] ++ subBounds c ++
    [badArg 12 (differs Inst.outSsrc (c.arg 12 4)), badArg 16 (differs Inst.outPt (c.arg 16 1)), badArg 17 (differs Inst.rtxPt (c.arg 17 1)),
     badArg 20 (!s.dev.instOf (c.arg 20 2) (c.arg 0 2)), legIn (c.arg 0 2) s legLive]
  run := devRun fun c _ _ d =>
    (d.onInst (c.arg 20 2) (fun x => { x with weight := c.arg 6 1, prio := c.arg 7 1, maxS := c.arg 8 1, maxT := c.arg 9 1 })).okNow 0

/-- The row SUBSCRIBE_SET. -/
def execSubscribeSet (c : HostCmd) (s : State) : Host.Outcome State Fault Refusal := .next (runCmd subscribeSetSpec c s)

/-! ### Consent (R159) -/

/-- A STUN attribute, padded to 4 bytes (RFC 8489). -/
def stunAttr (t : Nat) (v : List Byte) : List Byte := beBytes 2 t ++ beBytes 2 v.length ++ v ++ List.replicate ((4 - v.length % 4) % 4) 0

/-- A STUN message with MESSAGE-INTEGRITY under a password and FINGERPRINT (RFC 8489, RFC 7675). -/
def stunMessage (type : Nat) (txid attrs pwd : List Byte) : List Byte :=
  let head (n : Nat) : List Byte := beBytes 2 type ++ beBytes 2 n ++ beBytes 4 0x2112A442 ++ (txid ++ List.replicate 12 0).take 12
  let n := attrs.length
  let mac := (List.range 20).map (Config.hmacSha1 pwd (head (n + 24) ++ attrs))
  let m := attrs ++ stunAttr 0x0008 mac
  let crc := crc32 (head (n + 32) ++ m) ^^^ 0x5354554E
  head (n + 32) ++ m ++ stunAttr 0x8028 (beBytes 4 crc)

/-- The USERNAME of a request a unit sends to the holder of `theirs`. -/
def stunUser (theirs ours : List Byte) : List Byte := unpad theirs ++ [58] ++ unpad ours

/-- Tiusk sends consent requests on a leg that is ACTIVE or HELD with CONSENT. -/
def Leg.consents (x : Leg) : Bool := (decide (x.state = .active) || decide (x.state = .held)) && x.desc.consent

/-- A consent-freshness request, then the next one 80 % to 120 % of 5 s later by a draw in 1/1000 (RFC 7675, log entry 18). -/
def Dev.consentRequest (d : Dev) (l : Nat) (txid : List Byte) (draw : Nat) : Dev :=
  let x := d.leg l
  if x.consents && decide (x.nextConsent ≤ d.now) && d.decides then
    let id := (txid ++ List.replicate 12 0).take 12
    let d := d.onLeg l (fun y => { y with
      stunIds := (y.stunIds.filter (fun e => decide (d.now ≤ e.2 + 30 * secT))) ++ [(beNat id, d.now)]
      nextConsent := d.now + (4000 + min draw 1000 * 2) * msT })
    d.sendStun l (stunMessage 0x0001 id (stunAttr 0x0006 (stunUser x.desc.ufragRemote x.desc.ufragLocal)) (unpad x.desc.pwdRemote))
  else d

/-- The row CONSENT_REQUEST. -/
def execConsentRequest (l : Nat) (txid : List Byte) (draw : Nat) (s : State) : Host.Outcome State Fault Refusal :=
  .next (s.actReady (fun d => d.consentRequest l txid draw))

/-- The first epoch boundary at or after 30 s without a successful response (R159). -/
def Dev.consentExpired (d : Dev) (l : Nat) : Dev :=
  let x := d.leg l
  if !x.consents || !d.decides || decide (d.now < epochCeil (x.consentFrom + 30 * secT)) || (decide (x.state = .held) && x.expired) then d
  else
    let d := d.inc pgLegs 0x0E0
    let d := if x.state = .active then d.moveLeg l .held 1 else d
    ((d.onLeg l (fun y => { y with expired := true })).record 6 l [1]).legEvent l 0 0

/-- The row CONSENT_EXPIRED. -/
def execConsentExpired (l : Nat) (s : State) : Host.Outcome State Fault Refusal := .next (s.actReady (fun d => d.consentExpired l))

/-! ### Repair towards sources (R174, R186) -/

/-- A trace entry of a repair request (Table 17-5). -/
def Dev.traceRepair (d : Dev) (l i kind ssrc : Nat) : Dev :=
  d.trace 1 0x0103 (0x180 + l % 64) (fmk 0 13 l ||| fmk 13 3 kind ||| fmk 16 4 i) (fmk 0 32 ssrc) l

/-- The generic NACK entries of a set of sequence numbers in rising order: PID and BLP (RFC 4585). -/
def nackPairs : Nat → List Nat → List Byte
  | 0, _ => []
  | _, [] => []
  | n + 1, q :: t =>
    let near := t.filter (fun x => decide (x ≤ q + 16))
    let blp := near.foldl (fun a x => a ||| 2 ^ (x - q - 1)) 0
    beBytes 2 (q % 65536) ++ beBytes 2 blp ++ nackPairs n (t.filter (fun x => decide (q + 16 < x)))

/-- A gap is due for a NACK (R174). -/
def Dev.gapDue (d : Dev) (l : Nat) (g : Gap) : Bool :=
  if g.tries = 0 then decide (g.since + d.legProf l 0x28 0 16 * 100 * usT ≤ d.now)
  else decide (g.tries ≤ d.legProf l 0x28 16 4) && decide (g.last + max (d.leg l).rtt (10 * msT) ≤ d.now)

/-- A NACK for the gaps that are due; a gap on a stream that is not decoded is given up after 1 s. -/
def Dev.nackSend (d : Dev) (l i : Nat) : Dev :=
  match d.stream l i with
  | none => d
  | some s =>
    let st := (d.leg l).state
    if !s.nack || !d.decides || (decide (st ≠ .active) && decide (st ≠ .held)) then d
    else
      let open_ := if s.decode then s.gaps else s.gaps.filter (fun g => decide (d.now ≤ g.since + secT))
      let due := open_.filter (d.gapDue l)
      let d := d.onStream l i (fun s => { s with gaps := open_.map (fun g => if d.gapDue l g then { g with tries := g.tries + 1, last := d.now } else g) })
      if due.isEmpty then d
      else
        let seqs := sortBy (fun a b => decide (a < b)) (due.map Gap.seq)
        let fb := rtcpPacket 1 205 (beBytes 4 (d.mainSsrc l) ++ beBytes 4 s.ssrc ++ nackPairs seqs.length seqs)
        let d := d.record 5 l ([(i : Int), 0] ++ seqs.map (fun (q : Nat) => (q : Int)))
        ((d.inc pgLegs 0x0A8).sendRtcp l (d.feedbackBytes l fb)).traceRepair l i 0 s.ssrc

/-- The row NACK_SEND. -/
def execNackSend (l i : Nat) (s : State) : Host.Outcome State Fault Refusal := .next (s.actReady (fun d => d.nackSend l i))

/-- An open need sends a PLI, or FIR once it has been open for 1 s, when 300 ms have passed since the last one (R186). -/
def Dev.repairSend (d : Dev) (l i : Nat) (firOnly : Bool) : Dev :=
  match d.stream l i with
  | none => d
  | some s =>
    let st := (d.leg l).state
    match s.need.since with
    | none => d
    | some t =>
      let last := (d.sourceStreams l i).filterMap (fun e => e.2.need.lastSent)
      let wait := last.any (fun u => decide (d.now < u + 300 * msT))
      let fir := decide (t + secT ≤ d.now)
      if (decide (st ≠ .active) && decide (st ≠ .held)) || wait || (firOnly && !fir) || !s.bound || !d.decides then d
      else if fir then
        let seq := (s.need.firSeq + 1) % 256
        let fb := rtcpPacket 4 206 (beBytes 4 (d.mainSsrc l) ++ beBytes 4 0 ++ beBytes 4 s.ssrc ++ beBytes 1 seq ++ beBytes 3 0)
        let d := d.onStream l i (fun s => { s with need := { s.need with lastSent := some d.now, firSeq := seq } })
        let d := d.record 5 l [(i : Int), 2]
        let d := ((d.inc pgLegs 0x0C0).sendRtcp l (d.feedbackBytes l fb)).traceRepair l i 2 s.ssrc
        d.legEvent l 3 (fmk 0 64 i)
      else
        let fb := rtcpPacket 1 206 (beBytes 4 (d.mainSsrc l) ++ beBytes 4 s.ssrc)
        let d := (d.onStream l i (fun s => { s with need := { s.need with lastSent := some d.now } })).record 5 l [(i : Int), 1]
        ((d.inc pgLegs 0x0B8).sendRtcp l (d.feedbackBytes l fb)).traceRepair l i 1 s.ssrc

/-- The row PLI_SEND. -/
def execPliSend (l i : Nat) (s : State) : Host.Outcome State Fault Refusal := .next (s.actReady (fun d => d.repairSend l i false))

/-- The row REPAIR_ESCALATED. -/
def execRepairEscalated (l i : Nat) (s : State) : Host.Outcome State Fault Refusal := .next (s.actReady (fun d => d.repairSend l i true))

/-! ### RTCP (R169, R185) -/

/-- A sender report of an egress SSRC, with report blocks. -/
def Dev.srPacket (d : Dev) (ssrc rtp pkts octets : Nat) (blocks : List (List Byte)) : List Byte :=
  rtcpPacket blocks.length 200 (beBytes 4 ssrc ++ beBytes 8 d.ntp ++ beBytes 4 rtp ++ beBytes 4 pkts ++ beBytes 4 octets ++ blocks.flatten)

/-- The stream of an instance's source that is forwarded now. -/
def Dev.forwarded (d : Dev) (x : Inst) : Option Strm :=
  let ss := d.sourceStreams x.src x.sub
  if 1 < ss.length then (match x.cur with | some (e, _) => (ss.find? (fun s => s.2.enc == e)).map (fun s => s.2) | none => none)
  else (ss.head?).map (fun s => s.2)

/-- An instance's RTP time now: from the last SR of what it forwards, with its offset; none until the source's first SR (R185). A layout
output runs on media time. -/
def Dev.instRtp (d : Dev) (x : Inst) : Option Nat :=
  if x.kind = 1 then some (((((d.now * 90000 / secT : Nat) : Int) + x.tsOff) % 4294967296).toNat)
  else match d.forwarded x with
    | none => none
    | some s => s.sr.map (fun r =>
      let dt : Int := ((d.ntp : Int) - (r.1 : Int)) * ((codecClock s.codec : Nat) : Int) / 4294967296
      (((r.2.1 : Int) + dt + x.tsOff) % 4294967296).toNat)

/-- What each egress SSRC of a leg reports: SSRC, RTP time, packets, octets. -/
def Dev.senders (d : Dev) (l : Nat) : List (Nat × Nat × Nat × Nat) :=
  ((d.instList.filter (fun e => e.2.receiver == l)).filterMap (fun e => (d.instRtp e.2).map (fun t => (e.2.outSsrc, t, e.2.sentPkts, e.2.sentOctets)))) ++
  ((d.leg l).list.filter (fun e => e.2.kind == 4)).map (fun e =>
    (e.2.ssrc, d.now * codecClock e.2.codec / secT % 4294967296, e.2.sentPkts, e.2.sentOctets))

/-- SR for each egress SSRC and RR for each ingress SSRC every RTCP_INTERVAL. -/
def Dev.rtcpSend (d : Dev) (l : Nat) : Dev :=
  let x := d.leg l
  if (decide (x.state ≠ .active) && decide (x.state ≠ .held)) || decide (d.now < x.nextRtcp) || !d.decides then d
  else
    let ins := x.list.filter (fun e => decide (e.2.kind ≤ 3) && e.2.bound && e.2.highest.isSome)
    let blocks := ins.map (fun e => d.rrBlock e.2)
    let ss := d.senders l
    let body := match ss with
      | [] => rtcpPacket blocks.length 201 (beBytes 4 (d.mainSsrc l) ++ blocks.flatten)
      | a :: t => d.srPacket a.1 a.2.1 a.2.2.1 a.2.2.2 blocks ++ t.flatMap (fun b => d.srPacket b.1 b.2.1 b.2.2.1 b.2.2.2 [])
    let sent := ss.map (fun a => (a.1, ntpMid d.ntp, d.now))
    let d := d.sendRtcp l (body ++ sdesPacket (d.mainSsrc l))
    let d := ins.foldl (fun (d : Dev) e => d.onStream l e.1 (fun s => { s with rrPrior := (s.highest.getD 0 + 1 - s.base, s.received) })) d
    d.onLeg l (fun y => { y with
      nextRtcp := y.nextRtcp + max 1 (d.legProf l 0x30 32 16) * msT
      srSent := (y.srSent ++ sent).drop ((y.srSent ++ sent).length - 256) })

/-- The row RTCP_SEND. -/
def execRtcpSend (l : Nat) (s : State) : Host.Outcome State Fault Refusal := .next (s.actReady (fun d => d.rtcpSend l))

/-- The RFC 8888 block of a stream: its SSRC, first number, count, and a metric for each number in the range. -/
def Dev.fbBlock (d : Dev) (s : Strm) : List Byte :=
  let lo := (s.fb.map (fun e => e.1)).foldl Nat.min (maxN (s.fb.map (fun e => e.1)))
  let n := min 16384 (maxN (s.fb.map (fun e => e.1)) + 1 - lo)
  let metric (q : Nat) : Nat := match s.fb.find? (fun e => e.1 == q) with
    | some e => 0x8000 + min 0x1FFE ((d.now - e.2) * 1024 / secT)
    | none => 0
  beBytes 4 s.ssrc ++ beBytes 2 (lo % 65536) ++ beBytes 2 n ++ (List.range n).flatMap (fun i => beBytes 2 (metric (lo + i))) ++
  (List.replicate (n % 2 * 2) 0 : List Byte)

/-- RFC 8888 feedback for a leg's ingress streams every FB_INTERVAL. -/
def Dev.feedbackSend (d : Dev) (l : Nat) : Dev :=
  let x := d.leg l
  if (decide (x.state ≠ .active) && decide (x.state ≠ .held)) || decide (d.now < x.nextFb) || !d.decides then d
  else
    let ins := x.list.filter (fun e => decide (e.2.kind ≤ 3) && !e.2.fb.isEmpty)
    let d := d.onLeg l (fun y => { y with nextFb := y.nextFb + max 1 (d.legProf l 0x30 16 16) * msT })
    if ins.isEmpty then d
    else
      let fb := rtcpPacket 11 205 (beBytes 4 (d.mainSsrc l) ++ ins.flatMap (fun e => d.fbBlock e.2) ++ beBytes 4 (ntpMid d.ntp))
      let d := d.sendRtcp l (d.feedbackBytes l fb)
      ins.foldl (fun (d : Dev) e => d.onStream l e.1 (fun s => { s with fb := [] })) d

/-- The row FEEDBACK_SEND. -/
def execFeedbackSend (l : Nat) (s : State) : Host.Outcome State Fault Refusal := .next (s.actReady (fun d => d.feedbackSend l))

/-! ### Registers (R199) -/

/-- A register whose ENABLE asks for a PINNED region of realm 0: the write, the hold and its release. -/
def Dev.enableRegion (d : Dev) (pg off : Nat) (v : Word) (kind base len : Nat) : Dev :=
  let old := d.reg pg off
  let m := d.mergeAt pg off v
  let refuse := bit m.1 0 && !d.pinned 0 base len
  let w := if refuse then setFld m.1 0 1 0 else m.1
  let d := (d.setReg pg off w).errs pg m.2
  let d := if refuse then d.err pg .badState else d
  if bit w 0 && !bit old 0 then d.hold kind 0 0 base len
  else if bit old 0 && !bit w 0 then d.unhold kind 0 else d

/-- STATS_CFG written. -/
def Dev.statsCfgWrite (d : Dev) (v : Word) : Dev := d.enableRegion pgLegs 0x050 v holdStats (fld (d.reg pgLegs 0x058) 16 32 * 65536) 262144


/-- Some leg is out of IDLE. -/
def Dev.anyLeg (d : Dev) : Bool := d.legs.legs.any (fun e => decide (e.2.state ≠ .idle))

/-- BUF_BASE written: its address changes only while ENABLE is 0 and every leg is IDLE; ENABLE goes to 1 over a PINNED region, and to 0
while every leg is IDLE. -/
def Dev.bufBaseWrite (d : Dev) (v : Word) : Dev :=
  let old := d.reg pgLegs 0x060
  let m := d.mergeAt pgLegs 0x060 v
  let moved := fld m.1 16 32 != fld old 16 32 && (bit old 0 || d.anyLeg)
  let w := if moved then setFld m.1 16 32 (fld old 16 32) else m.1
  let base := fld w 16 32 * 65536
  let len := max 1 (fld (d.reg pgLegs 0x068) 0 16) * 1073741824
  let bad1 := bit w 0 && !bit old 0 && !d.pinned 0 base len
  let bad0 := bit old 0 && !bit w 0 && d.anyLeg
  let w := if bad1 then setFld w 0 1 0 else if bad0 then setFld w 0 1 1 else w
  let d := (d.setReg pgLegs 0x060 w).errs pgLegs m.2
  let d := if moved || bad1 || bad0 then d.err pgLegs .badState else d
  if bit w 0 && !bit old 0 then d.hold holdLegPool 0 0 base len
  else if bit old 0 && !bit w 0 then d.unhold holdLegPool 0 else d


/-- BUF_SIZE written (R199). -/
def Dev.bufSizeWrite (d : Dev) (v : Word) : Dev := d.guarded pgLegs 0x068 v (!bit (d.reg pgLegs 0x060) 0 && !d.anyLeg) [(0, 16)]

/-- LEGS registers read at the time of the read. -/
def Dev.legsRead (d : Dev) (off : Nat) : Option Word :=
  if off = 0x048 then some (fmk 0 13 (d.legs.legs.filter (fun e => decide (e.2.state ≠ .idle))).length ||| fmk 16 16 d.instList.length) else none

end Sys2Proof.Machine
end

