-- ==== Sys2Proof/Machine/Playout.lean ====
section
/-! DEFINITION. Playout of leg audio (R363 to R373): arrival, position, decoding and concealment, steps; with the gains, curves and
stores that the mixer, the router and the renderer share (R380, R381, Table 8-7). -/

namespace Sys2Proof.Machine
open Sys2Proof

/-! ### Shared arithmetic -/

/-- The greatest stored magnitude (R381), and full scale (R15). -/
def q60Max : Int := 9223372036854775807
def q60One : Int := 1152921504606846976

/-- A stored result held to its range (R381), and whether it saturated. -/
def satStore (x : Int) : Int := clampI (-q60Max) q60Max x
def satHits (l : List Int) : Nat := (l.filter (fun x => decide (x < -q60Max ∨ q60Max < x))).length

/-- A product of two Q60 values rounded once to Q60 (R852). -/
def mulQ60 (a b : Int) : Int := roundDiv (a * b) (2 ^ 60)

/-- lin of a gain in 2^-`s` dB: round(2^60 × 10^(g/20)) (R380, R448). -/
def linGain (g : Int) (s : Nat) : Int := if g = 0 then q60One else fxRound (fxDb (fxRat g (2 ^ s))) 60

/-- The curves of Table 8-7 at n of L, in Q60: a(n) and b(n). -/
def curveA (curve n len : Nat) : Int :=
  let x := fxDiv (fxMul fxPi (fxRat (2 * n + 1 : Nat) 2)) (fxRat (len : Nat) 1)
  if curve = 0 then fxRound ((fxOne + fxCos x) / 2) 60 else fxRound (fxCos (x / 2)) 60
def curveB (curve n len : Nat) : Int :=
  let x := fxDiv (fxMul fxPi (fxRat (2 * n + 1 : Nat) 2)) (fxRat (len : Nat) 1)
  if curve = 0 then q60One - curveA curve n len else fxRound (fxSin (x / 2)) 60

/-- A block of zeros. -/
def zeroBlock : List Int := List.replicate 32 0

/-- Sample n of a block. -/
def samp (l : List Int) (n : Nat) : Int := nthD 0 l n

/-- A MIX event with the object concerned (R413). -/
def Dev.mixEvent (d : Dev) (b obj : Nat) : Dev := d.raise pgMix b 0x1E1 (0x0601 + b) (fmk 0 64 obj) 0

/-- Saturations counted on the MIX page and raised (R381). -/
def Dev.countSat (d : Dev) (n obj : Nat) : Dev := if n = 0 then d else (d.bump pgMix 0x098 n).mixEvent 0 obj

/-- Samples beyond full scale at a codec edge counted and raised (R364, R381). -/
def Dev.countEdge (d : Dev) (n obj : Nat) : Dev := if n = 0 then d else (d.bump pgMix 0x0A0 n).mixEvent 1 obj

/-! ### Codecs (Table 8-1) -/

/-- Audio samples per tick of the RTP clock, and the ratio of 96 kHz to the audio rate (R366). -/
def perTick (codec : Nat) : Nat := if codec = 2 then 2 else 1
def audioRatio (codec : Nat) : Nat := if codec = 1 then 2 else if codec = 2 then 6 else 12

/-- Grid samples per tick of the RTP clock. -/
def gridPerTick (codec : Nat) : Nat := 96000 / codecClock codec

/-- The length of an Opus packet in ticks of 48 kHz, by its TOC byte (RFC 6716). -/
def opusTicks (l : List Byte) : Nat :=
  let t := beAt l 0 1
  let c := t / 8
  let frame := if c < 12 then nthD 0 [480, 960, 1920, 2880] (c % 4) else if c < 16 then nthD 0 [480, 960] (c % 2) else nthD 0 [120, 240, 480, 960] (c % 4)
  let n := if t % 4 = 0 then 1 else if t % 4 = 3 then beAt l 1 1 % 64 else 2
  frame * n

/-- Ticks that a packet of a stream covers. -/
def audioTicks (codec : Nat) (l : List Byte) : Nat := if codec = 1 then opusTicks l else l.length

/-! ### Arrival (R368, R369, R372) -/

/-- The playout of a stream. -/
def Dev.playout (d : Dev) (l i : Nat) : Playout := tabGetD {} d.audio.play (16 * l + i)
def Dev.setPlayout (d : Dev) (l i : Nat) (p : Playout) : Dev := { d with audio := { d.audio with play := tabPutD {} d.audio.play (16 * l + i) p } }

/-- JB fields in samples at 96 kHz, the window in time. -/
def Dev.jbMin (d : Dev) : Int := ((fld (d.reg pgMix 0x110) 0 16 * 96 : Nat) : Int)
def Dev.jbMax (d : Dev) : Int := ((fld (d.reg pgMix 0x110) 16 16 * 96 : Nat) : Int)
def Dev.jbMargin (d : Dev) : Int := ((fld (d.reg pgMix 0x110) 32 16 * 96 / 10 : Nat) : Int)
def Dev.jbWindow (d : Dev) : Time := fld (d.reg pgMix 0x110) 48 16 * msT

/-- The least and greatest transit of the window at an instant. -/
def Playout.bounds (p : Playout) (now win : Time) : Int × Int :=
  match (p.window.filter (fun e => decide (now ≤ e.1 + win))).map (fun e => e.2) with
  | [] => (p.cur, p.cur)
  | x :: t => (t.foldl (fun m y => if y < m then y else m) x, t.foldl (fun m y => if m < y then y else m) x)

/-- A packet arrives at a stream's jitter buffer. -/
def Dev.jbArrive (d : Dev) (l i : Nat) (s : Strm) (pk : Pkt) : Dev :=
  let p := d.playout l i
  let r : Int := ((gridPerTick s.codec : Nat) : Int)
  let fresh := !p.started || decide (p.lastAt + secT ≤ pk.stamp)
  let u : Int := if fresh then 4294967296 + (pk.ts : Int) else p.lastTs + signed 32 (wrapTo 32 ((pk.ts : Int) - p.lastTs))
  let transit : Int := ((pk.stamp * 96000 / secT : Nat) : Int) - u * r
  let d := if fresh then d.inc pgMix 0x088 else d
  let p := if fresh then { p with started := true, cur := transit + d.jbMin, window := [(pk.stamp, transit)], held := [], pos := u * r, pcm := [], step := none, forced := false }
    else { p with window := (p.window.filter (fun e => decide (pk.stamp ≤ e.1 + d.jbWindow))) ++ [(pk.stamp, transit)] }
  let p := { p with lastAt := pk.stamp, lastTs := if fresh || decide (p.lastTs < u) then u else p.lastTs }
  let first := u * r + p.cur
  let arrival := if d.pairTimed then pk.stamp / msT * msT + 2 * msT else pk.stamp
  let late := decide (blockAt (first.toNat / 32) < arrival) || decide (256 ≤ p.held.length) || decide (u * r < p.pos)
  if late then (d.setPlayout l i p).inc pgMix 0x078
  else d.setPlayout l i { p with held := if p.held.any (fun e => decide (e.1 = u)) then p.held else insertBy (fun a b => decide (a.1 < b.1)) (u, pk) p.held }

/-! ### Decoding (R363, R364, R373) -/

/-- What filling a buffer counted: frames decoded, concealed and rebuilt by FEC, and samples saturated. -/
structure PlayCount where
  decoded : Nat := 0
  plc : Nat := 0
  fec : Nat := 0
  sat : Nat := 0
  deriving DecidableEq, Repr

/-- A use of the decoder: `n` ticks decoded, converted to the grid and appended from stream time `next` on; `at_` is the stream time of
the first sample made. -/
def Playout.decode (p : Playout) (codec : Nat) (u : AudioUse) (ticks : Nat) (at_ next : Int) : Playout × Nat :=
  let n := max 1 ticks * perTick codec
  let raw := (List.range (2 * n)).map (Config.audioDecode u)
  let sat := (raw.filter (fun x => decide (x < -q60One ∨ q60One < x))).length
  let cu : ConvUse := ⟨true, audioRatio codec, 2, p.conv, raw.map (clampI (-q60One) q60One)⟩
  let m := n * audioRatio codec
  let out := (List.range m).map (fun i => (Config.convert cu (2 * i), Config.convert cu (2 * i + 1)))
  ({ p with pcm := p.pcm ++ out.drop (next - at_).toNat, dec := Config.audioState u, conv := Config.convertState cu }, sat)

/-- Samples appended until the buffer reaches stream time `goal`. -/
def Playout.fill : Nat → Nat → Int → Playout → PlayCount → Playout × PlayCount
  | 0, _, _, p, k => (p, k)
  | fuel + 1, codec, goal, p, k =>
    let next := p.pos + (p.pcm.length : Int)
    if goal ≤ next then (p, k)
    else
      let r : Int := ((gridPerTick codec : Nat) : Int)
      let keep := p.held.filter (fun e => decide (next < (e.1 + max 1 (audioTicks codec e.2.payload : Nat)) * r))
      let q : Playout := { p with held := keep }
      let conceal (gap : Int) : Playout × PlayCount :=
        let t := if q.dur = 0 then codecClock codec / 50 else q.dur
        let t := min t (max 1 (gap / r).toNat)
        let x := q.decode codec ⟨codec, q.dec, 2, 0, [], t * perTick codec⟩ t next next
        ({ x.1 with concealed := x.1.concealed + t * r.toNat }, { k with plc := k.plc + 1, sat := k.sat + x.2 })
      let y := match keep with
        | [] => conceal (((codecClock codec / 50 * 6 : Nat) : Int) * r)
        | e :: t =>
          let ticks := max 1 (audioTicks codec e.2.payload)
          if e.1 * r ≤ next then
            let x := q.decode codec ⟨codec, q.dec, 0, e.2.pt, e.2.payload, 0⟩ ticks (e.1 * r) next
            ({ x.1 with held := t, dur := ticks, concealed := 0, muted := false, fade := false }, { k with decoded := k.decoded + 1, sat := k.sat + x.2 })
          else
            let before := (e.1 - (ticks : Int)) * r
            if codec = 1 ∧ before ≤ next ∧ Config.opusFec e.2.payload = true then
              let x := q.decode codec ⟨codec, q.dec, 1, e.2.pt, e.2.payload, 0⟩ ticks before next
              (x.1, { k with fec := k.fec + 1, sat := k.sat + x.2 })
            else conceal (e.1 * r - next)
      Playout.fill fuel codec goal y.1 y.2

/-- Sample at a stream time; before what is held, 0. -/
def Playout.at_ (p : Playout) (u : Int) : Int × Int := if u < p.pos then (0, 0) else nthD (0, 0) p.pcm (u - p.pos).toNat

/-- The block of a stream that enters from grid sample `n0` on (R368), with a pending step applied when `go` (R370, R371). -/
def Dev.playBlock (d : Dev) (l i : Nat) (s : Strm) (n0 : Nat) (go : Bool) : Dev × List (Int × Int) :=
  let p := d.playout l i
  if !p.started then (d, List.replicate 32 (0, 0))
  else
    let apply := if go || p.forced then p.step else none
    let cur' := match apply with | some (up, _) => if up then p.cur + 32 else p.cur - 32 | none => p.cur
    let u0 := (n0 : Int) - p.cur
    let u1 := (n0 : Int) - cur'
    let goal := (if u0 < u1 then u1 else u0) + 32
    let f := p.fill 64 s.codec goal {}
    let p := f.1
    let mix (k : Nat) : Int × Int :=
      let a := p.at_ (u0 + k)
      let b := p.at_ (u1 + k)
      let x := if u0 = u1 then a
        else
          let wa := curveA 0 k 32
          let wb := q60One - wa
          (mulQ60 a.1 wa + mulQ60 b.1 wb, mulQ60 a.2 wa + mulQ60 b.2 wb)
      if p.muted then (if p.fade then (mulQ60 x.1 (curveA 0 k 32), mulQ60 x.2 (curveA 0 k 32)) else (0, 0)) else x
    let out := (List.range 32).map mix
    let low := (if u0 < u1 then u0 else u1) - 32
    let cut := (low - p.pos).toNat
    let cut := min cut p.pcm.length
    let p := { p with
      pcm := p.pcm.drop cut
      pos := p.pos + (cut : Int)
      cur := cur'
      step := if apply.isSome then none else p.step
      forced := p.forced && apply.isNone
      ahead := (p.pos + (p.pcm.length : Int) - (u1 + 32)).toNat
      fade := false }
    let d := d.setPlayout l i p
    let d := ((d.bump pgMix 0x060 f.2.decoded).bump pgMix 0x068 f.2.plc).bump pgMix 0x070 f.2.fec
    let d := if apply.isSome then d.inc pgMix 0x080 else d
    (d.countEdge f.2.sat l, out)

/-- The step that the position calls for at an epoch boundary becomes pending (R370). -/
def Dev.jbEpoch (d : Dev) (b : Time) : Dev :=
  { d with audio := { d.audio with play := tabMapD {} d.audio.play (fun _ p =>
      if !p.started || p.step.isSome then p
      else
        let x := p.bounds b d.jbWindow
        let want := x.1 + clampI d.jbMin d.jbMax (x.2 - x.1 + d.jbMargin)
        if p.cur + 32 ≤ want then { p with step := some (true, b) }
        else if want + 32 ≤ p.cur then { p with step := some (false, b) }
        else p) } }

/-- JB_DELAY: cur − lo. -/
def Dev.jbDelay (d : Dev) (l : Nat) : Int :=
  match (d.leg l).list.find? (fun e => e.2.kind == 0 && e.2.decode) with
  | none => 0
  | some e =>
    let p := d.playout l e.1
    if p.started then p.cur - (p.bounds d.now d.jbWindow).1 else 0

end Sys2Proof.Machine
end

