-- ==== Sys2Proof/Machine/Policy.lean ====
section
/-! DEFINITION. Leg policy (chapter 4): the bandwidth estimate, the choice of layers, encoder targets and suspension, statistics. -/

namespace Sys2Proof.Machine
open Sys2Proof

/-! ### The estimate (R176 to R180) -/

/-- Verdict codes of trace ESTIMATE (Table 17-5). -/
def Verdict.code : Verdict → Nat
  | .steady => 0 | .increase => 1 | .decreaseLoss => 2 | .decreaseDelay => 3

/-- classify of R176. -/
def Dev.classify (d : Dev) (l : Nat) (loss q : Int) : Verdict :=
  if ((d.legProf l 0x10 16 16 : Nat) : Int) < loss then .decreaseLoss
  else if ((d.legProf l 0x10 48 16 : Nat) : Int) < q then .decreaseDelay
  else if loss < ((d.legProf l 0x10 0 16 : Nat) : Int) ∧ q < ((d.legProf l 0x10 32 16 : Nat) : Int) then .increase
  else .steady

/-- Bits at or after `b - window` turned into bit/s. -/
def rateOver (l : List (Time × Nat)) (b : Time) (ms : Nat) : Nat := sumN ((l.filter (fun e => decide (b ≤ e.1 + ms * msT))).map (fun e => e.2)) * 1000 / ms

/-- What the feedback since the last boundary makes of loss, q and the verdict, at boundary `b` (R176, R177). -/
def Dev.intake (d : Dev) (l : Nat) (b : Time) : Leg :=
  let x := d.leg l
  let win := d.rateWindow l
  let x := { x with
    acked := x.acked.filter (fun e => decide (b ≤ e.1 + 2000 * msT))
    sent := x.sent.filter (fun e => decide (b ≤ e.1 + 2000 * msT))
    audio := x.audio.filter (fun e => decide (b ≤ e.1 + 2000 * msT))
    baseHist := x.baseHist.filter (fun e => decide (b ≤ e.1 + 10 * secT)) }
  let x :=
    if x.desc.fb8888 then
      if 0 < x.fbReports then
        let open_ := Config.emptyFeedback l b
        let loss : Int := if x.fbLost + x.fbRecv = 0 then open_.1 else ((1000 * x.fbLost / (x.fbLost + x.fbRecv) : Nat) : Int)
        let base := match x.baseHist with
          | [] => 0
          | e :: t => t.foldl (fun m y => if y.2 < m then y.2 else m) e.2
        let n := x.fbDelays.length
        let q := if n = 0 then open_.2 else (sumI (x.fbDelays.map (fun v => v - base))).tdiv ((n * (100 * usT) : Nat) : Int)
        { x with lastReport := b, loss := loss, q := q, verdict := d.classify l loss q }
      else x
    else match x.rrFrac with
      | some f =>
        let loss : Int := ((1000 * f / 256 : Nat) : Int)
        { x with lastReport := b, loss := loss, q := 0, verdict := d.classify l loss 0 }
      | none => x
  let r : Int := if x.desc.fb8888 then ((rateOver x.acked b win : Nat) : Int)
    else (((rateOver x.sent b win : Nat) : Int) * (1000 - x.loss)).tdiv 1000
  { x.dropFeedback with rAck := r }

/-- The update of R176 for one leg; the second component says that feedback was lost. -/
def Dev.estimate (d : Dev) (l : Nat) (b : Time) : Leg × Bool :=
  let x := d.intake l b
  let hold := b + d.legProf l 0x18 16 16 * msT
  let inc : Int := ((d.legProf l 0x18 0 16 : Nat) : Int)
  let x := match x.verdict with
    | .decreaseLoss => { x with est := x.est - (x.est * x.loss).tdiv 2000, holdUntil := hold, verdict := .steady }
    | .decreaseDelay => { x with est := (x.rAck * 85).tdiv 100, holdUntil := hold, verdict := .steady }
    | .increase =>
      if x.holdUntil ≤ b then
        let e := x.est + (x.est * inc).tdiv 1000000
        let top := (x.rAck * 3).tdiv 2 + 64000
        { x with est := if top < e then top else e }
      else x
    | .steady => x
  let lost := decide (d.legProf l 0x18 32 16 * msT ≤ b - x.lastReport)
  let x := if lost then { x with est := x.est.tdiv 2, verdict := .steady, lastReport := b } else x
  ({ x with est := clampI (((d.legProf l 0x00 0 32 * 1000 : Nat) : Int)) (((d.legProf l 0x00 32 32 * 1000 : Nat) : Int)) x.est }, lost)

/-- The video budget B_v (R179). -/
def Dev.videoBudget (d : Dev) (l : Nat) (b : Time) : Int :=
  let x := d.leg l
  let a : Int := ((rateOver x.audio b (d.rateWindow l) : Nat) : Int)
  let h : Int := ((d.legProf l 0x08 32 8 : Nat) : Int)
  let v := (x.est * (100 - h)).tdiv 100 - a
  let v := if v < 0 then 0 else v
  let k := d.legProf l 0x08 56 4
  if k = 0 then v else (v * (k : Int)).tdiv ((k + 1 : Nat) : Int)

/-- BANDWIDTH_UPDATE of a leg at boundary `b`: its estimate, budget and pacer rates, with FEEDBACK_LOST and the trace. -/
def Dev.bandwidthUpdate (d : Dev) (l : Nat) (b : Time) : Dev :=
  let shown := (d.intake l b).verdict
  let r := d.estimate l b
  let d := d.setLeg l r.1
  let bv := d.videoBudget l b
  let pace := (r.1.est * ((d.legProf l 0x08 40 8 : Nat) : Int)).tdiv 100
  let rep := (r.1.est * ((d.legProf l 0x08 48 8 : Nat) : Int)).tdiv 100
  let d := d.onLeg l (fun x => { x with budget := bv, pace := some (pace.toNat, rep.toNat) })
  let d := if r.2 then d.legEvent l 2 0 else d
  d.trace 1 0x0101 (0x180 + l % 64) (fmk 0 13 l ||| fmk 13 3 shown.code ||| fmkS 16 16 r.1.loss ||| fmkS 32 32 (r.1.est.tdiv 1000)) (fmkS 0 32 (bv.tdiv 1000)) l

/-- FEEDBACK_LOST: at an epoch boundary FEEDBACK_TIMEOUT has passed without reports (R176). -/
def Dev.feedbackLost (d : Dev) (l : Nat) : Dev :=
  let b := d.now / msT * msT
  let x := d.intake l b
  if (d.leg l).state = .active ∧ d.decides = true ∧ x.lastReport + d.legProf l 0x18 32 16 * msT ≤ b then d.bandwidthUpdate l b else d

/-- The row FEEDBACK_LOST. -/
def execFeedbackLost (l : Nat) (s : State) : Host.Outcome State Fault Refusal := .next (s.actReady (fun d => d.feedbackLost l))

/-! ### Points (R181) -/

/-- Bits of each layer of an instance's source within `ms` before `b`: layer or encoding, temporal layer, bits. A suspended layer of a layout
output keeps what was last measured before it stopped. -/
def Dev.layerBits (d : Dev) (x : Inst) (b : Time) (ms : Nat) : List (Nat × Nat × Nat) :=
  let near (t : Time) (l : List RateSample) : List RateSample := l.filter (fun r => decide (t ≤ r.t + ms * msT))
  if x.kind = 1 then
    let out := (x.src, x.sub)
    let old := (d.legs.frozen.filter (fun e => decide (e.1 = out))).flatMap (fun e => near e.2.1 e.2.2)
    let live := (near b ((d.legs.outRates.filter (fun e => decide (e.1 = out))).map (fun e => e.2))).filter (fun r => !old.any (fun q => q.spatial == r.spatial))
    (live ++ old).map (fun r => (r.spatial, r.temporal, r.bits))
  else
    let ss := d.sourceStreams x.src x.sub
    ss.flatMap (fun s => (near b s.2.rates).map (fun r => (if 1 < ss.length then s.2.enc else r.spatial, r.temporal, r.bits)))

/-- The source of an instance has simulcast encodings. -/
def Dev.simulcast (d : Dev) (x : Inst) : Bool :=
  if x.kind = 1 then decide (1 < (d.outStreams x.src x.sub).length) else decide (1 < (d.sourceStreams x.src x.sub).length)

/-- The cumulative rate of a point in bit/s: everything that must be forwarded to decode it. -/
def pointRate (bits : List (Nat × Nat × Nat)) (simul : Bool) (ms s t : Nat) : Nat :=
  sumN ((bits.filter (fun e => (if simul then e.1 == s else decide (e.1 ≤ s)) && decide (e.2.1 ≤ t))).map (fun e => e.2.2)) * 1000 / max 1 ms

/-- The offered points in ascending order of rate, ties by layer and temporal layer: (layer, temporal layer), rate. -/
def Dev.points (d : Dev) (x : Inst) (b : Time) (ms : Nat) : List ((Nat × Nat) × Nat) :=
  let bits := d.layerBits x b ms
  let simul := d.simulcast x
  let seen := ((bits.filter (fun e => e.2.2 != 0 && decide (e.1 ≤ x.maxS) && decide (e.2.1 ≤ x.maxT))).map (fun e => (e.1, e.2.1))).eraseDups
  let pts := seen.map (fun p => (p, pointRate bits simul ms p.1 p.2))
  sortBy (fun a c => decide (a.2 < c.2) || (a.2 == c.2 && (decide (a.1.1 < c.1.1) || (a.1.1 == c.1.1 && decide (a.1.2 < c.1.2))))) pts

/-- cur[s] of R181: the number of the point forwarded now, or the highest offered point at or below its rate; of a layout output the point that
counts under R192. -/
def Dev.curPoint (d : Dev) (x : Inst) (pts : List ((Nat × Nat) × Nat)) (b : Time) (ms : Nat) : Nat :=
  match (if x.kind = 1 then x.counted else x.cur) with
  | none => 0
  | some p => match pts.findIdx? (fun e => decide (e.1 = p)) with
    | some i => i + 1
    | none =>
      let r := pointRate (d.layerBits x b ms) (d.simulcast x) ms p.1 p.2
      (pts.filter (fun e => decide (e.2 ≤ r))).length

/-! ### The choice (R181) -/

/-- An instance in the choice: its number, weight, priority, rates of points 0 to top, cur, whether up-switches are blocked, sel, done. -/
structure Offer where
  num : Nat
  weight : Nat
  prio : Nat
  rates : List Nat
  cur : Nat
  held : Bool
  sel : Nat
  done : Bool
  deriving DecidableEq, Repr

/-- top[s]. -/
def Offer.top (c : Offer) : Nat := c.rates.length - 1

/-- Point k is blocked, or does not fit the remainder with its margin. -/
def Offer.refuses (c : Offer) (margin rem k add : Nat) : Bool :=
  (c.held && decide (c.cur < k)) || decide (rem * 100 < add * (if c.cur < k then 100 + margin else 100))

/-- The base pass: point 1 for each in order of priority, weight and instance. -/
def basePass (margin : Nat) : List Offer → Nat → List Offer × Nat
  | [], rem => ([], rem)
  | c :: t, rem =>
    if c.done then let r := basePass margin t rem; (c :: r.1, r.2)
    else
      let r1 := nthD 0 c.rates 1
      if c.refuses margin rem 1 r1 then let r := basePass margin t rem; ({ c with done := true } :: r.1, r.2)
      else let r := basePass margin t (rem - r1); ({ c with sel := 1 } :: r.1, r.2)

/-- `a` is served before `c` in the loop: the lesser rate by weight, then the lower instance. -/
def Offer.before (a c : Offer) : Bool :=
  let x := nthD 0 a.rates a.sel * c.weight
  let y := nthD 0 c.rates c.sel * a.weight
  decide (x < y) || (x == y && decide (a.num < c.num))

/-- The loop of R181. -/
def raiseOffers (margin : Nat) : Nat → List Offer → Nat → List Offer × Nat
  | 0, l, rem => (l, rem)
  | fuel + 1, l, rem =>
    match (sortBy Offer.before (l.filter (fun c => !c.done))).head? with
    | none => (l, rem)
    | some c =>
      let k := c.sel + 1
      let add := nthD 0 c.rates k - nthD 0 c.rates c.sel
      if c.top < k || c.refuses margin rem k add then raiseOffers margin fuel (l.map (fun e => if e.num = c.num then { e with done := true } else e)) rem
      else raiseOffers margin fuel (l.map (fun e => if e.num = c.num then { e with sel := k } else e)) (rem - add)

/-- A video instance: of a layout output, or of a video stream. -/
def Dev.isVideo (d : Dev) (x : Inst) : Bool :=
  x.kind == 1 || (match d.stream x.src x.sub with | some s => s.kind == 1 | none => false)

/-- RATE_WINDOW that measures an instance's source: the source leg's, or the receiver's for a layout output (log entry 24). -/
def Dev.measureMs (d : Dev) (x : Inst) : Nat := if x.kind = 1 then d.rateWindow x.receiver else d.rateWindow x.src

/-- LAYER_SELECT for one ACTIVE receiver at boundary `b` (R181, R183). -/
def Dev.layerSelect (d : Dev) (l : Nat) (b : Time) : Dev :=
  let margin := d.legProf l 0x20 0 8
  let dwell := d.legProf l 0x20 16 16 * msT
  let mine := d.instList.filter (fun e => e.2.receiver == l && d.isVideo e.2)
  let rows := mine.map (fun e =>
    let ms := d.measureMs e.2
    let pts := d.points e.2 b ms
    (e, pts, d.curPoint e.2 pts b ms))
  let cands := rows.map (fun r => ({
    num := r.1.1
    weight := r.1.2.weight
    prio := r.1.2.prio
    rates := 0 :: r.2.1.map (fun p => p.2)
    cur := r.2.2
    held := match r.1.2.lastDown with | some t => decide (b < t + dwell) | none => false
    sel := 0
    done := r.2.1.isEmpty } : Offer))
  let order := sortBy (fun a c => decide (c.prio < a.prio) || (a.prio == c.prio && (decide (c.weight < a.weight) || (a.weight == c.weight && decide (a.num < c.num))))) cands
  let p := basePass margin order (d.leg l).budget.toNat
  let q := raiseOffers margin (sumN (cands.map (fun c => c.rates.length)) + cands.length + 1) p.1 p.2
  rows.foldl (fun (d : Dev) r =>
    match q.1.find? (fun c => c.num == r.1.1) with
    | none => d
    | some c =>
      let grant := nthD 0 c.rates c.sel + q.2
      let d := d.onInst c.num (fun x => { x with
        decided := some (if c.sel = 0 then none else (r.2.1[c.sel - 1]?).map (fun p => p.1))
        grant := (grant : Int)
        lastDown := if c.sel < c.cur then some b else x.lastDown })
      d.trace 1 0x0102 (0x180 + l % 64) (fmk 0 13 l ||| fmk 16 16 c.num ||| fmk 32 4 (min 15 c.sel) ||| fmk 36 4 (min 15 c.cur)) (fmk 0 32 (grant / 1000)) l) d

/-! ### Decisions take effect (R183, R186, R191, R192) -/

/-- A request on an instance of a layout output refreshes its encoder, under the 300 ms interval; `fresh` marks a receiver that starts
from point 0 (R248, R252). -/
def Dev.refreshOutput (d : Dev) (layout output : Nat) (layer : Option Nat) (fresh : Bool) : Dev :=
  let ss := d.outStreams layout output
  let simul := decide (1 < ss.length)
  (ss.filter (fun e => !simul || layer.isNone || layer == some e.2.desc.enc)).foldl (fun (d : Dev) e =>
    let wait := !fresh && (match e.2.lastReq with | some t => decide (d.now < t + 300 * msT) | none => false)
    if wait then d else (d.onEncS e.1 (fun x => { x with lastReq := some d.now })).encTrigger e.1 fresh) d

/-- The stream whose independent picture an instance's switch waits for. -/
def Dev.switchStream (d : Dev) (x : Inst) : Nat :=
  match x.tgt with
  | some (s, _) => if d.simulcast x then (((d.sourceStreams x.src x.sub).find? (fun e => e.2.enc == s)).map (fun e => e.1)).getD x.sub else x.sub
  | none => x.sub

/-- The decisions of the boundary before take effect; a point in a layer whose refresh is not reported complete waits (R191). -/
def Dev.applyDecisions (d : Dev) : Dev :=
  let blocked := d.legs.suspended ++ d.legs.resuming
  d.instList.foldl (fun (d : Dev) e =>
    match d.inst e.1 with
    | none => d
    | some x =>
      match x.decided with
      | none => d
      | some p =>
        let waits := x.kind == 1 && (match p with
          | some (s, _) => blocked.any (fun b => b.1 == x.src && b.2.1 == x.sub && (if d.simulcast x then b.2.2 == s else decide (b.2.2 ≤ s)))
          | none => false)
        let y := if waits then x else { x with tgt := p }
        let changed := decide (y.tgt ≠ x.tgt)
        let d := d.setInst e.1 (some y)
        if !y.pending (d.simulcast y) then d
        else if x.kind = 1 then d.refreshOutput x.src x.sub (y.tgt.map (fun t => t.1)) (changed && x.cur.isNone)
        else d.openNeed x.src (d.switchStream y) false) d

/-- Pacer rates decided at the boundary before go to the queues (R180). -/
def Dev.givePace (d : Dev) : Dev :=
  d.legs.legs.foldl (fun (d : Dev) e =>
    match e.2.pace with
    | none => d
    | some (m, r) =>
      let d := (d.onQueue (d.mediaQ e.1) (fun q => { q with legRate := m })).onQueue (d.repairQ e.1) (fun q => { q with legRate := r })
      d.onLeg e.1 (fun x => { x with pace := none })) d

/-- What decoders and encoders report at the boundary: taint (R186, R187, R293) and refreshes complete (R191, R254). -/
def Dev.takeReports (d : Dev) : Dev :=
  let d := d.geode.dec.foldl (fun (d : Dev) e =>
    match e.2.report with
    | none => d
    | some (on, _) =>
      let d := d.onDecS e.1 (fun x => { x with report := none })
      if e.2.desc.source ≠ 0 then d
      else if on then d.openNeed e.2.desc.leg e.2.desc.index true
      else d.onStream e.2.desc.leg e.2.desc.index (fun s => { s with need := s.need.clear false })) d
  d.geode.enc.foldl (fun (d : Dev) e =>
    if !e.2.doneReport then d
    else
      let x := e.2.desc
      let d := d.onEncS e.1 (fun y => { y with doneReport := false })
      let d := d.instList.foldl (fun (d : Dev) n =>
        if n.2.kind = 1 ∧ n.2.src = x.layout ∧ n.2.sub = x.output ∧ n.2.cur.any (fun p => x.structure_ == 2 || p.1 == x.enc) then
          d.setInst n.1 (some { n.2 with counted := n.2.cur })
        else d) d
      let mine (k : Nat) : Bool := x.structure_ == 2 || k == x.enc
      let thaw (f : (Nat × Nat) × Time × List RateSample) : Option ((Nat × Nat) × Time × List RateSample) :=
        if f.1 = (x.layout, x.output) then
          (let r := f.2.2.filter (fun s => !(mine s.spatial && d.legs.resuming.contains (x.layout, x.output, s.spatial)))
           if r.isEmpty then none else some (f.1, f.2.1, r))
        else some f
      { d with legs := { d.legs with
          frozen := d.legs.frozen.filterMap thaw
          resuming := d.legs.resuming.filter (fun r => !(r.1 == x.layout && r.2.1 == x.output && mine r.2.2)) } }) d

/-! ### Encoder targets and suspension (R190, R191) -/

/-- The instances of an output with a point decided, from ACTIVE receivers. -/
def Dev.chosenOf (d : Dev) (layout output : Nat) : List (Inst × (Nat × Nat)) :=
  d.instList.filterMap (fun e =>
    if e.2.kind = 1 ∧ e.2.src = layout ∧ e.2.sub = output ∧ (d.leg e.2.receiver).state = .active then
      (match e.2.decided with | some (some p) => some (e.2, p) | _ => none)
    else none)

/-- ENCODER_TARGET: the rate targets of every layer of every layout output (R190), which take effect from the next boundary (R183). -/
def Dev.encoderTargets (d : Dev) (b : Time) : Dev :=
  d.geode.enc.foldl (fun (d : Dev) e =>
    if e.2.state = .idle ∨ e.2.state = .closing ∨ e.2.desc.source ≠ 0 then d
    else
      let x := e.2.desc
      let ch := d.chosenOf x.layout x.output
      let t := x.layersOf.foldl (fun (t : List Nat) k =>
        let mn := nthD 0 x.minK k * 1000
        let mx := nthD 0 x.maxK k * 1000
        let vals := (ch.filter (fun c => c.2.1 == k)).map (fun c =>
          let ms := d.measureMs c.1
          let below := if x.structure_ = 2 ∧ k ≠ 0 then pointRate (d.layerBits c.1 b ms) false ms (k - 1) 2 else 0
          c.1.grant - (below : Int))
        match vals with
        | [] => setNth t k mx
        | v :: r =>
          let least := r.foldl (fun m y => if y < m then y else m) v
          setNth t k (clampI (mn : Int) (mx : Int) least).toNat) e.2.targets
      d.onEncS e.1 (fun y => { y with nextTargets := some t })) d

/-- The targets and the layers that the boundary before decided take effect (R183). -/
def Dev.giveTargets (d : Dev) : Dev :=
  { d with geode := { d.geode with enc := tabMapD {} d.geode.enc (fun _ (y : EncStream) =>
      match y.nextTargets with
      | some t => { y with
        targets := t
        nextTargets := none }
      | none => y) } }

/-- The RUNNING streams of an output with no layer left to code are SUSPENDED, and those with one again RUNNING (R212, R239). -/
def Dev.suspendState (d : Dev) (l o : Nat) : Dev :=
  (d.outStreams l o).foldl (fun (d : Dev) e =>
    let n := d.encLayers e.2
    if e.2.state = .running ∧ n = 0 then d.onEncS e.1 (fun y => { y with state := .suspended })
    else if e.2.state = .suspended ∧ n ≠ 0 then d.onEncS e.1 (fun y => { y with state := .running })
    else d) d

/-- A layer resumes: encoding goes on at the next picture tick with a refresh (R191). -/
def Dev.resumeLayer (d : Dev) (l o k : Nat) : Dev :=
  if !d.legs.suspended.contains (l, o, k) then d
  else
    let d := { d with legs := { d.legs with
      suspended := d.legs.suspended.filter (fun s => decide (s ≠ (l, o, k)))
      resuming := d.legs.resuming ++ [(l, o, k)] } }
    (((d.outStreams l o).filter (fun e => e.2.desc.layersOf.contains k)).foldl (fun (d : Dev) e => d.encTrigger e.1 false) d).suspendState l o

/-- Layers that the boundary before chose to resume go on (R183, R191). -/
def Dev.resumeDue (d : Dev) : Dev :=
  d.legs.toResume.foldl (fun (d : Dev) o => d.resumeLayer o.1 o.2.1 o.2.2) { d with legs := { d.legs with toResume := [] } }

/-- Since when no instance has chosen a layer or one above it; a choice in a suspended layer resumes it at the next boundary (R191). -/
def Dev.layerUse (d : Dev) (b : Time) : Dev :=
  let outs := ((d.geode.enc.filter (fun e => e.2.desc.source == 0 && decide (e.2.state ≠ .idle ∧ e.2.state ≠ .closing))).flatMap (fun e =>
    e.2.desc.layersOf.map (fun k => (e.2.desc.layout, e.2.desc.output, k)))).eraseDups
  outs.foldl (fun (d : Dev) o =>
    if (d.chosenOf o.1 o.2.1).any (fun c => decide (o.2.2 ≤ c.2.1)) then
      let d := { d with legs := { d.legs with idleSince := d.legs.idleSince.filter (fun e => decide (e.1 ≠ o)) } }
      if d.legs.suspended.contains o && !d.legs.toResume.contains o then { d with legs := { d.legs with toResume := d.legs.toResume ++ [o] } } else d
    else if d.legs.idleSince.any (fun e => decide (e.1 = o)) then d
    else { d with legs := { d.legs with idleSince := d.legs.idleSince ++ [(o, b)] } }) d

/-- SUSPEND for an output: the greatest of its receivers' profiles, profile 0 without a receiver (log entry 24). -/
def Dev.suspendMs (d : Dev) (l o : Nat) : Nat :=
  let rs := (d.instList.filter (fun e => e.2.kind == 1 && e.2.src == l && e.2.sub == o)).map (fun e => d.legProf e.2.receiver 0x20 32 16)
  if rs.isEmpty then fld (d.prof 0 0x20) 32 16 else maxN rs

/-- LAYER_SUSPEND: Tiusk stops encoding layer k (R191, R239). -/
def Dev.layerSuspend (d : Dev) (l o k : Nat) : Dev :=
  match d.legs.idleSince.find? (fun e => decide (e.1 = (l, o, k))) with
  | none => d
  | some e =>
    if d.decides = false ∨ d.now < e.2 + d.suspendMs l o * msT ∨ d.legs.suspended.contains (l, o, k) = true then d
    else
      let old := (d.legs.outRates.filter (fun r => decide (r.1 = (l, o)) && r.2.spatial == k)).map (fun r => r.2)
      let d := { d with legs := { d.legs with
          suspended := d.legs.suspended ++ [(l, o, k)]
          resuming := d.legs.resuming.filter (fun s => decide (s ≠ (l, o, k)))
          toResume := d.legs.toResume.filter (fun s => decide (s ≠ (l, o, k)))
          outRates := d.legs.outRates.filter (fun r => !(decide (r.1 = (l, o)) && r.2.spatial == k))
          frozen := d.legs.frozen ++ [((l, o), d.now, old)] } }
      d.suspendState l o

/-- The row LAYER_SUSPEND. -/
def execLayerSuspend (l o k : Nat) (s : State) : Host.Outcome State Fault Refusal := .next (s.actReady (fun d => d.layerSuspend l o k))

/-! ### The epoch boundary -/

/-- Leg policy at an epoch boundary. -/
def Dev.legPolicy (d : Dev) (b : Time) : Dev :=
  let d := ((d.readProfiles.takeReports.giveTargets.resumeDue).applyDecisions).givePace
  if !d.decides then d else
  let act := (d.legs.legs.filter (fun e => decide (e.2.state = .active))).map (fun e => e.1)
  let d := d.legs.legs.foldl (fun (d : Dev) e => if e.2.state = .active then d else d.onLeg e.1 Leg.dropFeedback) d
  let d := act.foldl (fun (d : Dev) l => d.bandwidthUpdate l b) d
  let d := act.foldl (fun (d : Dev) l => d.layerSelect l b) d
  (d.encoderTargets b).layerUse b

/-- A leg statistics record (Table 4-15). -/
def Leg.record (x : Leg) (b : Time) : List Byte :=
  leBytes 1 x.state.code ++ leBytes 1 (if x.expired then 1 else 0) ++ leBytes 2 (satN 65535 x.loss.toNat) ++ leBytes 4 (x.est.tdiv 1000).toNat ++
  leBytes 4 (x.rAck.tdiv 1000).toNat ++ leBytes 2 (satN 65535 x.q.toNat) ++ leBytes 2 (satN 65535 x.discarded) ++ leBytes 4 (satN 4294967295 (x.rtt / usT)) ++
  leBytes 4 0 ++ leBytes 8 x.pktsRx ++ leBytes 8 x.pktsTx ++ leBytes 8 x.bytesRx ++ leBytes 8 x.bytesTx ++ leBytes 8 (shortOf b).toNat

/-- LEG_STATS_WRITE at epoch boundary j (R200). -/
def Dev.legStats (d : Dev) (j : Nat) : Dev :=
  let cfg := d.reg pgLegs 0x050
  if !bit cfg 0 || j % max 1 (fld cfg 16 16) != 0 then d
  else d.writeVa 0 (fld (d.reg pgLegs 0x058) 16 32 * 65536) ((List.range 4096).flatMap (fun l => (d.leg l).record (j * msT)))

end Sys2Proof.Machine
end

