-- ==== Sys2Proof/Machine/Packet.lean ====
section
/-! DEFINITION. Packets of legs (chapter 4): classification (R167), STUN, RTCP, ingress streams, picture buffers and repair. -/

namespace Sys2Proof.Machine
open Sys2Proof

/-! ### STUN (R159, R167) -/

/-- The attributes of a STUN message: type and value. -/
def stunAttrs : Nat → List Byte → List (Nat × List Byte)
  | 0, _ => []
  | fuel + 1, l =>
    if l.length < 4 then []
    else
      let n := beAt l 2 2
      (beAt l 0 2, (l.drop 4).take n) :: stunAttrs fuel (l.drop (4 + (n + 3) / 4 * 4))

/-- Where the MESSAGE-INTEGRITY attribute of a message starts. -/
def stunMacAt : Nat → List Byte → Nat → Option Nat
  | 0, _, _ => none
  | fuel + 1, l, o =>
    if (l.drop o).length < 4 then none
    else if beAt l o 2 = 0x0008 then some o
    else stunMacAt fuel l (o + 4 + (beAt l (o + 2) 2 + 3) / 4 * 4)

/-- MESSAGE-INTEGRITY verifies under a password (RFC 8489). -/
def stunAuth (l pwd : List Byte) : Bool :=
  match stunMacAt l.length l 20 with
  | none => false
  | some o =>
    let m := l.take 2 ++ beBytes 2 (o + 4) ++ ((l.take o).drop 4)
    decide ((l.drop (o + 4)).take 20 = (List.range 20).map (Config.hmacSha1 pwd m))

/-- The answer to a consent request: XOR-MAPPED-ADDRESS of the participant. -/
def stunAnswer (x : LegDesc) (txid : List Byte) : List Byte :=
  let mask := beBytes 4 0x2112A442 ++ txid
  let ip := if x.family = 6 then x.remoteIp else x.remoteIp.take 4
  let xip := (List.range ip.length).map (fun i => nthD 0 ip i ^^^ nthD 0 mask i)
  stunMessage 0x0101 txid (stunAttr 0x0020 ([0, if x.family = 6 then 2 else 1] ++ beBytes 2 (x.remoteUdp ^^^ 0x2112) ++ xip)) (unpad x.pwdLocal)

/-- A STUN message of a leg: a consent request with the leg's credentials is answered; a successful answer to a request of the unit's that is still
outstanding restarts the consent period (RFC 7675); everything but the request goes to the host (R167 step 2). -/
def Dev.legStun (d : Dev) (l p : Nat) (stamp : Time) (frame data : List Byte) : Dev :=
  let x := d.leg l
  let attrs := stunAttrs data.length (data.drop 20)
  let user := (attrs.find? (fun a => a.1 == 0x0006)).map (fun a => a.2)
  let txid := (data.drop 8).take 12
  let d := d.manifestEntry ⟨l, 0xFF, crc32 data, p, stamp, frame, 0⟩
  if beAt data 0 2 = 0x0001 ∧ user = some (stunUser x.desc.ufragLocal x.desc.ufragRemote) ∧ stunAuth data (unpad x.desc.pwdLocal) = true then
    d.sendStun l (stunAnswer x.desc txid)
  else
    let mine := x.stunIds.any (fun e => e.1 == beNat txid && decide (stamp ≤ e.2 + 30 * secT))
    let ok := beAt data 0 2 == 0x0101 && mine && x.consents && stunAuth data (unpad x.desc.pwdRemote)
    let d := if ok then d.onLeg l (fun y => { y with
        consentFrom := max y.consentFrom stamp
        stunIds := y.stunIds.filter (fun e => e.1 != beNat txid) }) else d
    d.toHost p frame

/-! ### Pictures (R171 to R173) -/

/-- The packets of the oldest picture in a buffer, in order of number, and the rest. -/
def oldestPicture (l : List (Nat × Pkt)) : List (Nat × Pkt) × List (Nat × Pkt) :=
  match (sortBy (fun a b => decide (a.1 < b.1)) l).head? with
  | none => ([], [])
  | some e => (sortBy (fun a b => decide (a.1 < b.1)) (l.filter (fun x => x.2.ts == e.2.ts)), l.filter (fun x => x.2.ts != e.2.ts))

/-- The number before `n` has been received. -/
def Strm.hadBefore (s : Strm) (n : Nat) : Bool := decide (s.base < n) && !s.gaps.any (fun g => g.seq + 1 == n)

/-- All packets of a stream's picture are present: it begins with a first packet, where the picture released before it ended, or behind a packet
received of another picture; it runs on without a gap, and ends with the marker. -/
def Strm.whole (s : Strm) (l : List (Nat × Pkt)) : Bool :=
  match l.head?, l.getLast? with
  | some a, some z => (a.2.first || s.nextSeq == some a.1 || s.hadBefore a.1) && z.2.marker && z.1 + 1 == a.1 + l.length
  | _, _ => false

/-- The extended number of a packet of a stream nearest to the highest one. -/
def Strm.extSeq (s : Strm) (seq : Nat) : Nat :=
  match s.highest with
  | none => 65536 + seq
  | some h => ((h : Int) + signed 16 (wrapTo 16 ((seq : Int) - (h : Int)))).toNat

/-- The buffer with its packets' extended numbers. -/
def Strm.numbered (s : Strm) : List (Nat × Pkt) := s.buf.map (fun p => (s.extSeq p.seq, p))

/-- PICTURE_RELEASE: the oldest picture goes to decode. -/
def Dev.releasePicture (d : Dev) (l i : Nat) (incomplete : Bool) : Dev :=
  match d.stream l i with
  | none => d
  | some s =>
    let o := oldestPicture s.numbered
    match o.1.head?, o.1.getLast? with
    | some a, some z =>
      let first := (o.1.map (fun e => e.2.stamp)).foldl Nat.min a.2.stamp
      let d := d.setStream l i (some { s with
        buf := o.2.map (fun e => e.2)
        released := some a.2.ts
        nextSeq := some (z.1 + 1)
        gaps := if s.decode then s.gaps.filter (fun g => decide (z.1 < g.seq)) else s.gaps })
      d.decRelease l i (shortOf first) a.2.ts incomplete
    | _, _ => d

/-- Every picture that is whole, oldest first. -/
def Dev.releaseWhole : Nat → Nat → Nat → Dev → Dev
  | 0, _, _, d => d
  | fuel + 1, l, i, d =>
    match d.stream l i with
    | none => d
    | some s => if s.whole (oldestPicture s.numbered).1 then Dev.releaseWhole fuel l i (d.releasePicture l i false) else d

/-- A timestamp is at or before the last picture released. -/
def Strm.isLate (s : Strm) (ts : Nat) : Bool := match s.released with | some r => decide (signed 32 (wrapTo 32 ((ts : Int) - (r : Int))) ≤ 0) | none => false

/-- A full picture buffer releases its oldest picture at once (R173). -/
def Dev.releaseFull (d : Dev) (l i : Nat) : Dev :=
  match d.stream l i with
  | none => d
  | some s => if 2048 ≤ s.buf.length then (d.releasePicture l i (!s.whole (oldestPicture s.numbered).1)).releaseWhole 2049 l i else d

/-- A video packet joins its picture buffer (R171 to R173). -/
def Dev.bufferVideo (d : Dev) (l i : Nat) (p : Pkt) : Dev :=
  match d.stream l i with
  | none => d
  | some s =>
    if s.isLate p.ts then d.inc pgLegs 0x098
    else
      let d := d.onStream l i (fun s => { s with buf := s.buf ++ [p] })
      (d.releaseWhole 2049 l i).releaseFull l i

/-- VIDEO_WAIT has elapsed since the first packet of the oldest picture arrived (R172). -/
def Dev.videoWaitExpiry (d : Dev) (l i : Nat) : Dev :=
  match d.stream l i with
  | none => d
  | some s =>
    let o := (oldestPicture s.numbered).1
    match o.head? with
    | none => d
    | some a =>
      let first := (o.map (fun e => e.2.stamp)).foldl Nat.min a.2.stamp
      if s.kind ≠ 1 ∨ d.now < first + d.legProf l 0x30 0 16 * msT then d
      else (d.releasePicture l i (!s.whole o)).releaseWhole 2049 l i

/-- The row VIDEO_WAIT_EXPIRY. -/
def execVideoWaitExpiry (l i : Nat) (s : State) : Host.Outcome State Fault Refusal := .next (s.actReady (fun d => d.videoWaitExpiry l i))

/-! ### Streams (R168 to R175) -/

/-- What a stream records of an arrival: numbers, gaps, jitter (RFC 3550), feedback and rates. -/
def Strm.arrive (s : Strm) (p : Pkt) (ext bits : Nat) : Strm :=
  let clock := codecClock s.codec
  let tr : Int := ((p.stamp * clock / secT : Nat) : Int) - (p.ts : Int)
  let new := decide (s.highest.getD 0 < ext)
  let dt := match s.transit with | some t => (signed 32 (wrapTo 32 (tr - t))).natAbs | none => 0
  let gaps : List Gap := match s.highest with
    | none => []
    | some h => if h < ext then s.gaps ++ (List.range (min 2048 (ext - h - 1))).map (fun k => (⟨ext - 1 - k, p.stamp, 0, 0⟩ : Gap))
      else s.gaps.filter (fun g => g.seq != ext)
  { s with
    base := if s.highest.isNone then ext else s.base
    highest := some (max ext (s.highest.getD 0))
    gaps := gaps.filter (fun g => s.nack || decide (p.stamp ≤ g.since + secT))
    received := s.received + 1
    jitter := ((s.jitter : Int) + ((dt : Int) - (s.jitter : Int)).tdiv 16).toNat
    transit := some tr
    lastTs := if new then some p.ts else s.lastTs
    picTid := if new && s.codec == 0x10 then p.temporal else s.picTid
    bare := if new then (p.lead || s.bare) && !hasSlice s.codec p.payload else s.bare
    picStamp := if p.lead then p.stamp else s.picStamp
    fb := (s.fb ++ [(ext, p.stamp)]).drop (s.fb.length - 16383)
    rates := (s.rates.filter (fun r => decide (p.stamp ≤ r.t + 2000 * msT))) ++ [⟨p.stamp, p.spatial, p.temporal, bits⟩] }

/-- A stream is protected by a FEC stream of its leg. -/
def Dev.hasFec (d : Dev) (l i : Nat) : Bool := (d.leg l).list.any (fun e => e.2.kind == 3 && e.2.primary == i)

/-- A number of a stream has been received, or is given up. -/
def Strm.had (s : Strm) (ext : Nat) : Bool := decide (ext ≤ s.highest.getD 0) && !s.gaps.any (fun g => g.seq == ext)

/-- What Table 4-7 reads of a packet of a stream. -/
def Strm.read (s : Strm) (p : Pkt) (dd : Nat) : Pkt :=
  let ext := s.extSeq p.seq
  let lead := decide (s.highest.getD 0 < ext) && s.lastTs != some p.ts
  let same := s.lastTs == some p.ts
  { p.layers s.codec (p.elem dd) lead (s.highest.isNone || decide (ext = s.highest.getD 0 + 1)) (if same then s.picTid else 0) (same && s.bare) with
    pic := if same then s.picStamp else p.stamp }

/-- An RTP packet of an ingress audio or video stream, from its line, its RTX or its FEC: forwarded, buffered, played. A packet already had
only answers a relayed NACK (R188). -/
def Dev.takePacket (d : Dev) (l i : Nat) (p : Pkt) (bits waiting : Nat) : Dev :=
  match d.stream l i with
  | none => d
  | some s =>
    let p := s.read p (d.leg l).desc.extDd
    let ext := s.extSeq p.seq
    if s.had ext then d.forwardRelayed l i p
    else match d.poolRoom p.size with
      | none => d.inc pgLegs 0x0D0
      | some d =>
        let late := decide (ext ≤ s.highest.getD 0)
        let d := d.setStream l i (some (s.arrive p ext bits))
        let d := if d.hasFec l i then d.onStream l i (fun s => { s with recent := (s.recent ++ [p]).drop (s.recent.length - 255) }) else d
        let d := if p.indep then d.onStream l i (fun s => { s with need := s.need.clear true }) else d
        let d := d.forward l i waiting (s.kind == 1) p
        let d := if late then d.forwardRelayed l i p else d
        if !s.decode then d
        else if s.kind = 1 then d.bufferVideo l i p
        else if (d.leg l).state = .active then d.jbArrive l i s p else d

/-- The first packet that the repair packets held recover of a stream and that it has not had, with the stamp of its repair packet (R169, R175). -/
def Dev.recoverable (d : Dev) (l i : Nat) : Option Pkt :=
  match d.stream l i with
  | none => none
  | some m =>
    ((d.leg l).list.filter (fun e => e.2.kind == 3 && e.2.primary == i)).findSome? (fun e => e.2.recent.findSome? (fun r =>
      (Config.fecRecover r.bytes (m.recent.map Pkt.bytes)).findSome? (fun b =>
        match rtpParse b r.stamp with
        | none => none
        | some q => if q.ssrc == m.ssrc && !m.had (m.extSeq q.seq) then some q else none)))

/-- Row and column repair, until the packets held recover no more (R169, R175). -/
def Dev.recover : Nat → Nat → Nat → Nat → Dev → Dev
  | 0, _, _, _, d => d
  | fuel + 1, l, i, waiting, d =>
    match d.recoverable l i with
    | none => d
    | some q => Dev.recover fuel l i waiting ((d.inc pgLegs 0x0A0).takePacket l i q (8 * (q.size + 46)) waiting)

/-- A packet of a stream, and what it lets FEC recover. -/
def Dev.streamPacket (d : Dev) (l i : Nat) (p : Pkt) (bits waiting : Nat) : Dev :=
  Dev.recover 256 l i waiting (d.takePacket l i p bits waiting)

/-- A packet of an RTX stream: the original packet of its primary (RFC 4588). -/
def Pkt.original (p : Pkt) (s : Strm) : Pkt := { p with ssrc := s.ssrc, pt := s.pt, seq := beAt p.payload 0 2, payload := p.payload.drop 2 }

/-- A classified and deciphered RTP packet of stream `i`. -/
def Dev.rtpPacket (d : Dev) (l i : Nat) (b : List Byte) (stamp : Time) (bits waiting : Nat) : Dev :=
  match d.stream l i, rtpParse b stamp with
  | some s, some p =>
    if s.kind ≤ 1 then d.streamPacket l i p bits waiting
    else
      let d := d.onStream l i (fun s => s.arrive p (s.extSeq p.seq) bits)
      match d.stream l s.primary with
      | none => d
      | some m =>
        if s.kind = 2 then d.streamPacket l s.primary (p.original m) bits waiting
        else Dev.recover 256 l s.primary waiting (d.onStream l i (fun s => { s with recent := (s.recent ++ [p]).drop (s.recent.length - 255) }))
  | _, _ => d

/-- Steps 3 and 4 of R167: the ingress stream of an RTP packet, by SSRC, else by MID and RID, or MID and RRID for RTX. -/
def Dev.classifyRtp (d : Dev) (l : Nat) (p : Pkt) : Option (Nat × Bool) :=
  let x := d.leg l
  match x.list.find? (fun e => decide (e.2.kind ≤ 3) && e.2.bound && e.2.ssrc == p.ssrc) with
  | some e => some (e.1, false)
  | none =>
    match (p.elem x.desc.extMid).map unpad with
    | none => none
    | some mid =>
      let rid := ((p.elem x.desc.extRid).map unpad).getD []
      let rrid := ((p.elem x.desc.extRrid).map unpad).getD []
      (x.list.find? (fun e => decide (e.2.kind ≤ 3) && (!e.2.bound || e.2.highest.isNone) && decide (e.2.mid = mid) &&
        (if e.2.kind = 2 then decide (e.2.rid = rrid) else decide (e.2.rid = rid)))).map (fun e => (e.1, true))

/-! ### RTCP (R169, R176, R186, R188) -/

/-- The packets of a compound: count or format, type, body. -/
def rtcpParts : Nat → List Byte → List (Nat × Nat × List Byte)
  | 0, _ => []
  | fuel + 1, l =>
    if l.length < 4 ∨ beAt l 0 1 / 64 ≠ 2 then []
    else
      let n := 4 * (beAt l 2 2 + 1)
      (beAt l 0 1 % 32, beAt l 1 1, (l.take n).drop 4) :: rtcpParts fuel (l.drop n)

/-- The instance of a receiver with an OUT_SSRC. -/
def Dev.instBySsrc (d : Dev) (l ssrc : Nat) : Option (Nat × Inst) := d.instList.find? (fun e => e.2.receiver == l && e.2.outSsrc == ssrc)

/-- A report block on an egress SSRC: the fraction lost of the main one (R176), and RTT from LSR and DLSR. Held legs take no report for the
estimate (R178). -/
def Dev.reportBlock (d : Dev) (l : Nat) (b : List Byte) : Dev :=
  let ssrc := beAt b 0 4
  let lsr := beAt b 16 4
  let dlsr := beAt b 20 4 * secT / 65536
  let d := if ssrc = d.mainSsrc l ∧ (d.leg l).state = .active then d.onLeg l (fun x => { x with rrFrac := some (beAt b 4 1) }) else d
  match (d.leg l).srSent.find? (fun e => e.1 == ssrc && e.2.1 == lsr) with
  | some e => if lsr = 0 then d else d.onLeg l (fun x => { x with rtt := d.now - e.2.2 - dlsr })
  | none => d

/-- Report blocks of an SR or RR. -/
def Dev.reportBlocks (d : Dev) (l n : Nat) (b : List Byte) : Dev :=
  (List.range n).foldl (fun (d : Dev) k => if 24 * k + 24 ≤ b.length then d.reportBlock l ((b.drop (24 * k)).take 24) else d) d

/-- One metric of RFC 8888 feedback on a packet that awaits it. -/
def Leg.metric (x : Leg) (ssrc seq m rts : Nat) (now : Time) : Leg :=
  match x.flight.find? (fun f => f.1 == ssrc && f.2.1 == seq) with
  | none => x
  | some f =>
    let rest := x.flight.filter (fun g => !(g.1 == ssrc && g.2.1 == seq))
    if m < 32768 then { x with flight := rest, fbLost := x.fbLost + 1 }
    else
      let ato := m % 8192
      let diff := signed 32 (wrapTo 32 ((rts : Int) - (64 * ato : Nat) - (f.2.2.1 * 65536 / secT : Nat)))
      let delay := diff * ((secT / 65536 : Nat) : Int)
      { x with
        flight := rest
        fbRecv := x.fbRecv + 1
        acked := x.acked ++ [(now, f.2.2.2)]
        fbDelays := if ato < 8190 then x.fbDelays ++ [delay] else x.fbDelays
        baseHist := if ato < 8190 then x.baseHist ++ [(now, delay)] else x.baseHist }

/-- The blocks of RFC 8888 feedback. -/
def Leg.ccfb : Nat → Leg → List Byte → Nat → Time → Leg
  | 0, x, _, _, _ => x
  | fuel + 1, x, b, rts, now =>
    if b.length < 8 then x
    else
      let n := beAt b 6 2
      let x := (List.range n).foldl (fun (x : Leg) k => x.metric (beAt b 0 4) ((beAt b 4 2 + k) % 65536) (beAt b (8 + 2 * k) 2) rts now) x
      Leg.ccfb fuel x (b.drop (8 + (2 * n + 3) / 4 * 4)) rts now

/-- A receiver's request for an independent picture on an instance (R186, R189): a need on the source, or a refresh of a layout output. -/
def Dev.receiverPli (d : Dev) (l ssrc : Nat) : Dev :=
  match d.instBySsrc l ssrc with
  | none => d
  | some (_, x) =>
    let pt := match x.cur with | some p => some p.1 | none => x.tgt.map (fun p => p.1)
    if x.kind = 1 then d.refreshOutput x.src x.sub pt false
    else if !d.isVideo x then d
    else
      let i := if d.simulcast x then (((d.sourceStreams x.src x.sub).find? (fun e => some e.2.enc == pt)).map (fun e => e.1)).getD x.sub else x.sub
      d.openNeed x.src i false

/-- One RTCP packet of a leg. -/
def Dev.rtcpPart (d : Dev) (l : Nat) (stamp : Time) (q : Nat × Nat × List Byte) : Dev :=
  let b := q.2.2
  if q.2.1 = 200 then
    let d := match (d.leg l).list.find? (fun e => decide (e.2.kind ≤ 1) && e.2.bound && e.2.ssrc == beAt b 0 4) with
      | some e => d.onStream l e.1 (fun s => { s with sr := some (beAt b 4 8, beAt b 12 4, stamp) })
      | none => d
    d.reportBlocks l q.1 (b.drop 24)
  else if q.2.1 = 201 then d.reportBlocks l q.1 (b.drop 4)
  else if q.2.1 = 205 ∧ q.1 = 1 then
    match d.instBySsrc l (beAt b 4 4) with
    | none => d
    | some (n, _) =>
      (List.range ((b.length - 8) / 4)).foldl (fun (d : Dev) k =>
        let pid := beAt b (8 + 4 * k) 2
        let blp := beAt b (10 + 4 * k) 2
        ((pid :: ((List.range 16).filter (fun j => blp.testBit j)).map (fun j => (pid + j + 1) % 65536)).foldl (fun (d : Dev) seq => d.serveNack l n seq) d)) d
  else if q.2.1 = 205 ∧ q.1 = 11 then
    if (d.leg l).desc.fb8888 = true ∧ (d.leg l).state = .active then
      d.onLeg l (fun x => Leg.ccfb b.length { x with fbReports := x.fbReports + 1 } ((b.take (b.length - 4)).drop 4) (beAt b (b.length - 4) 4) d.now)
    else d
  else if q.2.1 = 206 ∧ q.1 = 1 then d.receiverPli l (beAt b 4 4)
  else if q.2.1 = 206 ∧ q.1 = 4 then (List.range ((b.length - 8) / 8)).foldl (fun (d : Dev) k => d.receiverPli l (beAt b (8 + 8 * k) 4)) d
  else if q.2.1 = 202 ∨ q.2.1 = 203 ∨ q.2.1 = 205 ∨ q.2.1 = 206 then d
  else d.onLeg l (fun x => { x with rtcpIgnored := x.rtcpIgnored + 1 })

/-! ### Classification (R167) -/

/-- The leg a datagram belongs to. -/
def Dev.legMatch (d : Dev) (p vlan : Nat) (u : UdpIn) : Option Nat :=
  (d.legs.legs.find? (fun e =>
    let x := e.2.desc
    let n := if x.family = 6 then 16 else 4
    decide (e.2.state ≠ .idle) && x.port == p && x.vlan == vlan && (x.family == 6) == u.v6 && decide (x.localIp.take n = u.dst) && decide (x.remoteIp.take n = u.src) &&
    x.localUdp == u.dport && x.remoteUdp == u.sport)).map (fun e => e.1)

/-- An RTP packet of an ACTIVE leg: classified, deciphered, taken (R167 steps 3 to 5, R168). -/
def Dev.legRtp (d : Dev) (l p : Nat) (stamp : Time) (frame data : List Byte) (waiting : Nat) : Dev :=
  match rtpParse data stamp with
  | none => d
  | some pk =>
    match d.classifyRtp l pk with
    | none =>
      let d := d.inc pgLegs 0x090
      let sec := d.now / secT
      if (d.leg l).unknownSec = some sec then d else (d.onLeg l (fun x => { x with unknownSec := some sec })).toHost p frame
    | some (i, learn) =>
      let d := if learn then (d.onStream l i (fun s => { s with ssrc := pk.ssrc, bound := true })).legEvent l 1 (fmk 0 32 pk.ssrc) else d
      let r := if (d.leg l).desc.srtp then d.flintIn (d.leg l).desc.keyIn false data else (d, some data)
      match r.2 with
      | none => r.1
      | some b =>
        let ext := match r.1.stream l i with | some s => s.extSeq pk.seq | none => pk.seq
        (r.1.manifestEntry ⟨l, i, ext, p, stamp, frame, waiting⟩).rtpPacket l i b stamp (8 * (frame.length + 4)) waiting

/-- An RTCP packet of an ACTIVE or HELD leg. -/
def Dev.legRtcp (d : Dev) (l p : Nat) (stamp : Time) (frame data : List Byte) : Dev :=
  let r := if (d.leg l).desc.srtp then d.flintIn (d.leg l).desc.keyIn true data else (d, some data)
  match r.2 with
  | none => r.1
  | some b => (rtcpParts b.length b).foldl (fun (d : Dev) q => d.rtcpPart l stamp q) (r.1.manifestEntry ⟨l, 0xFE, crc32 data, p, stamp, frame, 0⟩)

/-- A datagram of a leg (Table 4-1, R167 step 2). -/
def Dev.legDatagram (d : Dev) (l p : Nat) (stamp : Time) (frame data : List Byte) (waiting : Nat) : Dev :=
  let st := (d.leg l).state
  let d := { d with legs := { d.legs with waiting := waiting } }
  let d := (d.inc pgLegs 0x070).onLeg l (fun x => { x with pktsRx := x.pktsRx + 1, bytesRx := x.bytesRx + frame.length + 4 })
  let b := beAt data 0 1
  if st = .draining ∨ st = .closed then d
  else if data.isEmpty then d
  else if b ≤ 3 then d.legStun l p stamp frame data
  else if 20 ≤ b ∧ b ≤ 63 then d.toHost p frame
  else if 128 ≤ b ∧ b ≤ 191 then
    if st = .keyed then d.inc pgLegs 0x088
    else if 192 ≤ beAt data 1 1 ∧ beAt data 1 1 ≤ 223 then d.legRtcp l p stamp frame data
    else if st = .active then d.legRtp l p stamp frame data waiting
    else d
  else (d.toHost p frame).inc pgLegs 0x080

end Sys2Proof.Machine
end

