-- ==== Sys2Proof/Machine/Mix.lean ====
section
/-! DEFINITION. Conference audio (chapter 8): leg and conference settings, the HRTF store, voice activity, talkers, the router's commands
and the level table. -/

namespace Sys2Proof.Machine
open Sys2Proof

/-! ### Settings (R383 to R387) -/

/-- A leg's audio settings, a conference's, a mix input's voice activity. -/
def Dev.legAud (d : Dev) (l : Nat) : LegAud := tabGetD {} d.audio.legs l
def Dev.conf (d : Dev) (c : Nat) : Conf := tabGetD {} d.audio.confs c
def Dev.setConf (d : Dev) (c : Nat) (x : Conf) : Dev := { d with audio := { d.audio with confs := tabPutD {} d.audio.confs c x } }
def Dev.vad (d : Dev) (k : Nat) : Vad := tabGetD {} d.audio.vads k
def Dev.setVad (d : Dev) (k : Nat) (x : Vad) : Dev := { d with audio := { d.audio with vads := tabPutD {} d.audio.vads k x } }

/-- Legs with MIX 1. -/
def Dev.binaural (d : Dev) : List Nat := (d.audio.legs.filter (fun e => e.2.mix == 1)).map (fun e => e.1)

/-- The HRTF state code (R387). -/
def Dev.hrtfState (d : Dev) : Nat := if d.audio.hrtf.isEmpty then 0 else if d.binaural.isEmpty then 1 else 2

/-- The KIND 4 stream of a leg (R367). -/
def Dev.egressAudio (d : Dev) (l : Nat) : Option (Nat × Strm) := (d.leg l).list.find? (fun e => e.2.kind == 4)

/-- A gain in 2^-16 dB from -144 to +18 dB (Tables 8-4, 8-6). -/
def gainOk (g : Int) : Bool := decide (-9437184 ≤ g) && decide (g ≤ 1179648)

/-- PTIME is one of Table 8-1's of the leg's egress codec; without a KIND 4 stream, of any. -/
def ptimeOk (codec : Option Nat) (p : Nat) : Bool :=
  match codec with
  | some 1 => [10, 20, 40, 60].contains p
  | some _ => [10, 20, 30, 40].contains p
  | none => [10, 20, 30, 40, 60].contains p

/-- LEG_AUDIO_SET (Table 8-4). -/
def legAudioSetSpec : OpSpec where
  opcode := 0x0600
  args := [(0, 19)]
  checks := fun c s =>
    let d := s.dev
    let l := c.arg 0 2
    let codec := (d.egressAudio l).map (fun e => e.2.codec)
    let opus := codec == some 1
    let fl := c.arg 3 1
    [legDenied false c l s, badArg 0 (decide (4096 ≤ l)), badArg 2 (decide (3 ≤ c.arg 2 1) || (c.arg 2 1 == 1 && !(opus && c.arg 17 1 == 2))),
     badArg 3 (decide (64 ≤ fl) || fl % 4 == 3 || fl / 16 == 3), badArg 4 (!gainOk (c.argS 4 4)), badArg 8 (!gainOk (c.argS 8 4)),
     badArg 12 (decide (c.arg 12 4 < 6000 ∨ 510000 < c.arg 12 4)), badArg 16 (!ptimeOk codec (c.arg 16 1)),
     badArg 17 (decide (c.arg 17 1 < 1 ∨ 2 < c.arg 17 1) || (c.arg 17 1 == 2 && codec.isSome && !opus)), badArg 18 (decide (5 ≤ c.arg 18 1)),
     legIn l s legLive, conflict 0 (c.arg 2 1 == 1 && d.hrtfState == 0),
     noRes (c.arg 2 1 == 1 && decide (512 ≤ (d.binaural.filter (· != l)).length))]
  run := devRun fun c _ _ d =>
    let fl := c.arg 3 1
    let x : LegAud := {
      mix := c.arg 2 1
      force := fl % 2 == 1
      exclude := fl / 2 % 2 == 1
      muteIn := fl / 4 % 2 == 1
      dtx := fl / 8 % 2 == 1
      fec := fl / 16 % 4
      inGain := c.argS 4 4
      outGain := c.argS 8 4
      opusBps := c.arg 12 4
      ptime := c.arg 16 1
      channels := c.arg 17 1
      bandwidth := c.arg 18 1 }
    { d with audio := { d.audio with legs := tabPutD {} d.audio.legs (c.arg 0 2) x } }.okNow 0

/-- The row LEG_AUDIO_SET. -/
def execLegAudioSet (c : HostCmd) (s : State) : Host.Outcome State Fault Refusal := .next (runCmd legAudioSetSpec c s)

/-- CONF_AUDIO_SET (R386, R858). -/
def confAudioSetSpec : OpSpec where
  opcode := 0x0601
  args := [(0, 3), (4, 8)]
  checks := fun c s => [denied (c.realm != 0 && s.dev.confOwner (c.arg 0 2) != some c.realm), badArg 0 (decide (512 ≤ c.arg 0 2)),
    badArg 2 (decide (c.arg 2 1 < 1 ∨ 8 < c.arg 2 1))] ++ (List.range 8).map (fun k => badArg (4 + k) (decide (64 ≤ c.arg (4 + k) 1)))
  run := devRun fun c _ _ d =>
    (d.setConf (c.arg 0 2) { d.conf (c.arg 0 2) with talkers := c.arg 2 1, binPos := (List.range 8).map (fun k => c.arg (4 + k) 1) }).okNow 0

/-- The row CONF_AUDIO_SET. -/
def execConfAudioSet (c : HostCmd) (s : State) : Host.Outcome State Fault Refusal := .next (runCmd confAudioSetSpec c s)

/-- Signed 64-bit values of a byte string. -/
def q60List (n : Nat) (l : List Byte) : List Int := (List.range n).map (fun i => signed 64 (leAt l (8 * i) 8))

/-- HRTF_LOAD (R387). -/
def hrtfLoadSpec : OpSpec where
  opcode := 0x0602
  ownerOnly := true
  args := [(0, 4), (8, 8)]
  capture := fun c d => capturePinned d c.realm (c.arg 8 8) (c.arg 1 1 * 16 * c.arg 2 2)
  checks := fun c s => [badArg 0 (decide (64 ≤ c.arg 0 1)), badArg 1 (decide (c.arg 1 1 < 1 ∨ 64 < c.arg 0 1 + c.arg 1 1)),
    badArg 2 (decide (c.arg 2 2 < 32 ∨ 512 < c.arg 2 2) || c.arg 2 2 % 32 != 0), conflict s.dev.hrtfState (s.dev.hrtfState == 2)]
  run := devRun fun c l _ d =>
    let n := c.arg 2 2
    let new := (List.range (c.arg 1 1)).map (fun k => (c.arg 0 1 + k, q60List n (l.drop (16 * n * k)), q60List n (l.drop (16 * n * k + 8 * n))))
    let old := if n = d.audio.hrtfTaps then d.audio.hrtf.filter (fun e => !new.any (fun x => x.1 == e.1)) else []
    let d := { d with audio := { d.audio with hrtfTaps := n, hrtf := sortBy (fun a b => decide (a.1 < b.1)) (old ++ new) } }
    d.okNow d.audio.hrtf.length

/-- The row HRTF_LOAD. -/
def execHrtfLoad (c : HostCmd) (s : State) : Host.Outcome State Fault Refusal := .next (runCmd hrtfLoadSpec c s)

/-! ### The router (R388 to R394) -/

/-- KIND and INDEX of an endpoint. -/
def epKind (e : Nat) : Nat := e / 16777216
def epIndex (e : Nat) : Nat := e % 16777216
def endpoint (kind idx : Nat) : Nat := kind * 16777216 + idx

/-- The number of indexes of an endpoint kind and its stage (Table 8-5); 0 for none. -/
def epCount (k : Nat) : Nat :=
  match k with
  | 0x01 => 8192 | 0x02 => 1024 | 0x03 => 16384 | 0x04 => 2048 | 0x05 => 512 | 0x07 => 512
  | 0x84 => 2048 | 0x85 => 2048 | 0x86 => 1024 | 0x87 => 512 | 0x88 => 128 | 0x81 => 8192 | 0x82 => 1024 | 0x83 => 16384
  | _ => 0
def epStage (k : Nat) : Nat :=
  match k with
  | 0x04 => 1 | 0x05 => 2 | 0x07 => 3 | 0x84 => 1 | 0x85 => 2 | 0x86 => 3 | 0x87 => 3 | 0x88 => 3 | 0x81 => 4 | 0x82 => 4 | 0x83 => 4
  | _ => 0
def sourceOk (e : Nat) : Bool := decide (epKind e < 0x80) && decide (epIndex e < epCount (epKind e))
def sinkOk (e : Nat) : Bool := decide (0x80 ≤ epKind e) && decide (epIndex e < epCount (epKind e))

/-- A route reads its source's output of the same block (R389). -/
def routeDirect (source sink : Nat) : Bool :=
  if epKind source = 0x04 ∧ epKind sink = 0x84 then decide (epIndex source / 8 < epIndex sink / 8)
  else decide (epStage (epKind source) < epStage (epKind sink))

/-- A router slot. -/
def Dev.rslot (d : Dev) (sink slot : Nat) : RSlot := tabGetD {} d.audio.routes (64 * sink + slot)
def Dev.setRslot (d : Dev) (sink slot : Nat) (r : RSlot) : Dev :=
  { d with audio := { d.audio with routes := tabPutD {} d.audio.routes (64 * sink + slot) r } }

/-- Routes in use. -/
def Dev.routeCount (d : Dev) : Nat := (d.audio.routes.filter (fun e => e.2.target.isSome)).length

/-- Weights in Q60 at sample n of a fade: of an earlier contribution and of the target; a fade that has not begun leaves both as they were
(R392, R394). -/
def RSlot.oldWeight (r : RSlot) (c : Contr) (n : Nat) : Int := if r.len ≤ n then 0 else mulQ60 c.weight (curveA r.curve n r.len)
def RSlot.newWeight (r : RSlot) (n : Nat) : Int := if r.len ≤ n then q60One else curveB r.curve n r.len

/-- The contributions sounding at the present sample, with their weights there. -/
def RSlot.sounding (r : RSlot) : List Contr :=
  let olds := if r.len ≤ r.n then [] else if r.n = 0 then r.olds else r.olds.map (fun c => { c with weight := r.oldWeight c r.n })
  let t := match r.target with
    | none => []
    | some c => if r.n = 0 ∧ 0 < r.len then [] else [{ c with weight := r.newWeight r.n }]
  (olds ++ t).filter (fun c => c.weight != 0)

/-- A change of a slot: the new target, a fade of `len` samples; a fifth contribution makes the least one drop (R392, R393). The second
component says that one was dropped. -/
def RSlot.change (r : RSlot) (t : Option Contr) (len curve : Nat) : RSlot × Bool :=
  let olds := r.sounding
  let over_ := decide (4 < olds.length + (if t.isSome then 1 else 0))
  let least := (sortBy (fun a b => decide (a.weight < b.weight) || (decide (a.weight = b.weight) && decide (a.source < b.source))) olds).head?
  let kept := if over_ then (match least with | some c => olds.erase c | none => olds) else olds
  ({ target := t, olds := kept, n := 0, len := len, curve := curve }, over_)

/-- Inserts of Garnet (chapter 10). -/
def Dev.ins (d : Dev) (n : Nat) : Insert := tabGetD {} d.garnet.inserts n
def Dev.setIns (d : Dev) (n : Nat) (x : Insert) : Dev := { d with garnet := { d.garnet with inserts := tabPutD {} d.garnet.inserts n x } }
def Dev.inserts (d : Dev) : List (Nat × Insert) := d.garnet.inserts.filter (fun e => decide (e.2.state ≠ .idle))

/-- Inserts that feed an insert in the same block (R389, R501). -/
def Dev.feeders (d : Dev) (m : Nat) : List Nat :=
  ((d.audio.routes.filter (fun e => epKind (e.1 / 64) == 0x84 && epIndex (e.1 / 64) / 8 == m)).flatMap (fun e =>
    (e.2.target.toList ++ e.2.olds).filterMap (fun c =>
      if epKind c.source = 0x04 ∧ epIndex c.source / 8 < m then some (epIndex c.source / 8) else none))).eraseDups

/-- Finishing bounds of R502 over inserts in ascending number, with the feeders of each; true when all are at most 300,000. -/
def scheduleOk (l : List (Nat × Insert)) (feed : Nat → List Nat) : Bool :=
  (l.foldl (fun (a : List (Nat × Nat × Nat) × Bool) e =>
    let k := 16 * e.2.cluster + e.2.core
    let prev := maxN ((a.1.filter (fun x => x.2.1 == k)).map (fun x => x.2.2))
    let fs := maxN ((a.1.filter (fun x => (feed e.1).contains x.1)).map (fun x => x.2.2))
    let f := max prev fs + e.2.budget + 600
    (a.1 ++ [(e.1, k, f)], a.2 && decide (f ≤ 300000))) ([], true)).2

/-- A same-block route from INSERT_RET n into INSERT_SEND m keeps the schedule of R502. -/
def routeFeedOk (c : HostCmd) (d : Dev) : Bool :=
  let n := epIndex (c.arg 8 4) / 8
  let m := epIndex (c.arg 0 4) / 8
  if epKind (c.arg 8 4) = 0x04 ∧ epKind (c.arg 0 4) = 0x84 ∧ n < m
  then scheduleOk d.inserts (fun k => if k = m then n :: d.feeders m else d.feeders k)
  else true

/-- ROUTE_SET (Table 8-6). -/
def routeSetSpec : OpSpec where
  opcode := 0x0603
  ownerOnly := true
  args := [(0, 17)]
  checks := fun c s => [badArg 0 (!sinkOk (c.arg 0 4)), badArg 4 (decide (64 ≤ c.arg 4 1)), badArg 5 (decide (2 ≤ c.arg 5 1)), badArg 6 (decide (3000 < c.arg 6 2)),
    badArg 8 (!sourceOk (c.arg 8 4)), badArg 12 (!gainOk (c.argS 12 4)), badArg 16 (decide (4 ≤ c.arg 16 1)),
    noRes ((s.dev.rslot (c.arg 0 4) (c.arg 4 1)).target.isNone && decide (16384 ≤ s.dev.routeCount)), noRes (!routeFeedOk c s.dev)]
  run := devRun fun c _ _ d =>
    let t : Contr := ⟨c.arg 8 4, c.argS 12 4, c.arg 16 1 % 2 == 1, c.arg 16 1 / 2 == 1, 0⟩
    let r := (d.rslot (c.arg 0 4) (c.arg 4 1)).change (some t) (32 * max 1 (c.arg 6 2)) (c.arg 5 1)
    let fb := !routeDirect (c.arg 8 4) (c.arg 0 4)
    ((d.setRslot (c.arg 0 4) (c.arg 4 1) r.1).inc pgMix 0x0A8).okNow ((if fb then 1 else 0) + (if r.2 then 2 else 0))

/-- The row ROUTE_SET. -/
def execRouteSet (c : HostCmd) (s : State) : Host.Outcome State Fault Refusal := .next (runCmd routeSetSpec c s)

/-- ROUTE_CLEAR. -/
def routeClearSpec : OpSpec where
  opcode := 0x0604
  ownerOnly := true
  args := [(0, 8)]
  checks := fun c _ => [badArg 0 (!sinkOk (c.arg 0 4)), badArg 4 (decide (64 ≤ c.arg 4 1) && c.arg 4 1 != 255), badArg 5 (decide (2 ≤ c.arg 5 1)),
    badArg 6 (decide (3000 < c.arg 6 2))]
  run := devRun fun c _ _ d =>
    let slots := (if c.arg 4 1 = 255 then List.range 64 else [c.arg 4 1]).filter (fun k => (d.rslot (c.arg 0 4) k).target.isSome)
    let d := slots.foldl (fun (d : Dev) k =>
      (d.setRslot (c.arg 0 4) k ((d.rslot (c.arg 0 4) k).change none (32 * max 1 (c.arg 6 2)) (c.arg 5 1)).1).inc pgMix 0x0A8) d
    d.okNow slots.length

/-- The row ROUTE_CLEAR. -/
def execRouteClear (c : HostCmd) (s : State) : Host.Outcome State Fault Refusal := .next (runCmd routeClearSpec c s)

/-- ROUTE_QUERY: a realm other than 0 may ask of a sink of its own legs (R79). -/
def routeQuerySpec : OpSpec where
  opcode := 0x0605
  args := [(0, 5)]
  checks := fun c s => [denied (c.realm != 0 && !(epKind (c.arg 0 4) == 0x81 && decide ((s.dev.leg (epIndex (c.arg 0 4) / 2)).state ≠ .idle) &&
      (s.dev.leg (epIndex (c.arg 0 4) / 2)).realm == c.realm)),
    badArg 0 (!sinkOk (c.arg 0 4)), badArg 4 (decide (64 ≤ c.arg 4 1))]
  run := devRun fun c _ _ d =>
    let r := d.rslot (c.arg 0 4) (c.arg 4 1)
    let n := r.sounding.length
    match r.target with
    | some t => (d, .done .ok n (fmk 0 32 t.source ||| fmkS 32 32 t.gain))
    | none => (d, .done .ok n 0)

/-- The row ROUTE_QUERY. -/
def execRouteQuery (c : HostCmd) (s : State) : Host.Outcome State Fault Refusal := .next (runCmd routeQuerySpec c s)

/-- The sum of a sink's slots for a block, before the store, by what each source put out in this block and the one before (R389, R390).
A gain and a weight make one Q60 factor; the sum is rounded once. -/
def Dev.sinkSum (d : Dev) (sink : Nat) (cur prev : Nat → List Int) : List Int :=
  let slots := d.audio.routes.filter (fun e => e.1 / 64 == sink)
  let terms := slots.flatMap (fun e =>
    let r := e.2
    let part (c : Contr) (w : Nat → Int) : List Int × Int × (Nat → Int) :=
      (if routeDirect c.source sink then cur c.source else prev c.source, if c.mute then 0 else if c.invert then -(linGain c.gain 16) else linGain c.gain 16, w)
    r.olds.map (fun c => part c (fun n => r.oldWeight c (r.n + n))) ++
    (match r.target with | some c => [part c (fun n => r.newWeight (r.n + n))] | none => []))
  if terms.isEmpty then zeroBlock
  else (List.range 32).map (fun n => roundDiv (sumI (terms.map (fun t => samp t.1 n * mulQ60 t.2.1 (t.2.2 n)))) (2 ^ 60))

/-- Every fade one block further (R392). -/
def Dev.routesAdvance (d : Dev) : Dev :=
  { d with audio := { d.audio with routes := tabMapD {} d.audio.routes (fun _ r =>
      if r.len ≤ r.n then { r with olds := [], n := 0, len := 0, curve := 0 }
      else if r.len ≤ r.n + 32 then { target := r.target } else { r with n := r.n + 32 }) } }

/-! ### Levels and voice activity (R374, R375) -/

/-- Fields of VAD and TALK in the units of R374: 2^-16 dB and blocks. -/
def Dev.vadSnr (d : Dev) : Int := ((fld (d.reg pgMix 0x100) 0 16 * 256 : Nat) : Int)
def Dev.vadFloor (d : Dev) : Int := sfld (d.reg pgMix 0x100) 16 16 * 256
def Dev.vadHang (d : Dev) : Nat := fld (d.reg pgMix 0x100) 32 16 * 3
def Dev.nfRise (d : Dev) : Int := ((fld (d.reg pgMix 0x100) 48 16 : Nat) : Int)
def Dev.talkSwitch (d : Dev) : Int := ((fld (d.reg pgMix 0x108) 0 16 * 256 : Nat) : Int)
def Dev.talkAttack (d : Dev) : Nat := fld (d.reg pgMix 0x108) 16 16 * 3
def Dev.talkHold (d : Dev) : Nat := fld (d.reg pgMix 0x108) 32 16 * 3
def Dev.talkDecay (d : Dev) : Int := ((fld (d.reg pgMix 0x108) 48 16 : Nat) : Int)

/-- round(2^q × 10 × log10(num / den)), at least -144 dB. -/
def levelAt (q num den : Nat) : Int :=
  let least : Int := -(144 * (2 ^ q : Nat))
  if num = 0 then least
  else
    let v := fxRound (10 * fxLog10 (fxRat (num : Int) den)) q
    if v < least then least else v

/-- A level in 2^-16 dB (R374). -/
def level16 (num den : Nat) : Int := levelAt 16 num den

/-- The update of R374 for a block of a mix input; `live` is false for a leg not ACTIVE or muted (R375). -/
def Dev.vadBlock (d : Dev) (v : Vad) (x : List Int) (live : Bool) : Vad :=
  let e := sumN (x.map (fun s => s.natAbs * s.natAbs))
  let lvl := level16 e (32 * 2 ^ 120)
  let nf := if lvl < v.nf then lvl else if lvl < v.nf + d.nfRise then lvl else v.nf + d.nfRise
  let raw := decide (nf + d.vadSnr ≤ lvl) && decide (d.vadFloor ≤ lvl)
  let hang := if raw then d.vadHang else v.hang - 1
  let active := live && (raw || decide (0 < hang))
  let dec := v.score - d.talkDecay
  { v with
    nf := nf
    hang := hang
    active := active
    score := if active then v.score + (lvl - v.score).tdiv 8 else if dec < dbFloor then dbFloor else dec
    run := if active then v.run + 1 else 0
    quiet := if active then 0 else v.quiet + 1
    lvls := v.lvls ++ [lvl]
    peak := max v.peak (maxN (x.map Int.natAbs)) }

/-! ### Talkers (R376, R377) -/

/-- The key of an identity's voice activity: a leg, or CONF_IN k of the conference as 4,096 + k. -/
def vadKey (c i : Nat) : Nat := if i < 4096 then i else 4096 + 4 * c + (i - 4096)

/-- The candidates of a conference: its ACTIVE legs without EXCLUDE, and its CONF_IN inputs. -/
def Dev.candidates (d : Dev) (c : Nat) : List Nat :=
  ((d.legs.legs.filter (fun e => decide (e.2.state = .active) && e.2.conf == c && !(d.legAud e.1).exclude)).map (fun e => e.1)) ++ [4096, 4097, 4098, 4099]

/-- The talker set of a conference by R376, in the order in which members come in. -/
def Dev.talkerSet (d : Dev) (c : Nat) : List Nat :=
  let x := d.conf c
  let sc (i : Nat) : Int := (d.vad (vadKey c i)).score
  let cands := d.candidates c
  let forced := (cands.filter (fun i => decide (i < 4096) && (d.legAud i).force)).take x.talkers
  let higher (a b : Nat) : Bool := decide (sc b < sc a) || (decide (sc a = sc b) && decide (a < b))
  let prev := sortBy higher ((x.slots.filterMap id).filter (fun m => !(decide (m < 4096) && (d.legAud m).force)))
  let set := prev.foldl (fun (s : List Nat) m =>
    if cands.contains m && decide ((d.vad (vadKey c m)).quiet < d.talkHold) && decide (s.length < x.talkers) && !s.contains m then s ++ [m] else s) forced
  let elig := sortBy higher (cands.filter (fun i => !set.contains i && decide (d.talkAttack ≤ (d.vad (vadKey c i)).run)))
  let room := x.talkers - set.length
  let set2 := set ++ elig.take room
  match elig.drop room with
  | [] => set2
  | e :: _ =>
    let lower (a b : Nat) : Bool := decide (sc a < sc b) || (decide (sc a = sc b) && decide (b < a))
    match (sortBy lower (set2.filter (fun m => !(decide (m < 4096) && (d.legAud m).force)))).head? with
    | some m => if sc m + d.talkSwitch ≤ sc e then set2.map (fun y => if y = m then e else y) else set2
    | none => set2

/-- Slots after a change of set: a member keeps its slot, a new one takes the lowest free slot (R377). -/
def placeSlots (slots : List (Option Nat)) (set : List Nat) : List (Option Nat) :=
  let kept := slots.map (fun o => o.filter (fun m => set.contains m))
  (set.filter (fun m => !kept.contains (some m))).foldl (fun (l : List (Option Nat)) m =>
    match l.findIdx? (fun o => o.isNone) with
    | some i => setNth l i (some m)
    | none => l) kept

/-- Conferences with a leg out of IDLE, a member or an input. -/
def Dev.confsInUse (d : Dev) : List Nat :=
  (((d.legs.legs.filter (fun e => decide (e.2.state ≠ .idle))).map (fun e => e.2.conf)) ++
   ((d.audio.confs.filter (fun e => e.2.slots.any Option.isSome)).map (fun e => e.1)) ++
   ((d.audio.routes.filter (fun e => epKind (e.1 / 64) == 0x85)).map (fun e => epIndex (e.1 / 64) / 4))).eraseDups

/-- TALKER_DECISION at an epoch boundary: the set decided at the one before becomes the set, with its fades; then the next is chosen
(R376, R377). -/
def Dev.talkerDecision (d : Dev) : Dev :=
  d.confsInUse.foldl (fun (d : Dev) c =>
    let x := d.conf c
    let y := match x.decided with
      | none => x
      | some s =>
        let old := x.slots.filterMap id
        let new := s.filterMap id
        { x with
          slots := s
          decided := none
          entering := new.filter (fun m => !old.contains m)
          leaving := (List.range 8).filterMap (fun k => match nthD none x.slots k with
            | some m => if new.contains m then none else some (k, m)
            | none => none) }
    let d := d.setConf c y
    let next := placeSlots y.slots (d.talkerSet c)
    if next = y.slots || !d.decides then d else (d.setConf c { y with decided := some next }).inc pgMix 0x090) d

/-! ### The level table (R412) -/

/-- A level in 1/256 dB as a signed 16-bit field. -/
def level8 (x : Int) : List Byte := leBytes 2 (wrapTo 16 (clampI (-32768) 32767 x))

/-- A leg's record. -/
def Dev.levelLeg (d : Dev) (l : Nat) : List Byte :=
  let v := d.vad l
  let n := v.lvls.length
  let mean : Int := if n = 0 then roundDiv dbFloor 256 else roundDiv (sumI v.lvls) (256 * n)
  let slot := ((d.conf (d.leg l).conf).slots.findIdx? (fun o => o == some l))
  let member := slot.isSome && decide ((d.leg l).state ≠ .idle)
  level8 mean ++ level8 (levelAt 8 (v.peak * v.peak) (2 ^ 120)) ++
  [BitVec.ofNat 8 ((if v.active then 1 else 0) + (if member then 2 else 0) + (if v.plc then 4 else 0) + (if (d.legAud l).force then 8 else 0)),
   BitVec.ofNat 8 (if member then slot.getD 255 else 255), 0, 0] ++ leBytes 4 (wrapTo 32 (d.jbDelay l)) ++ leBytes 4 (wrapTo 32 (roundDiv v.g 256))

/-- A conference's record. -/
def Dev.levelConf (d : Dev) (c : Nat) (b : Time) : List Byte :=
  let x := d.conf c
  let ms := x.slots.filterMap id
  x.slots.flatMap (fun o => leBytes 2 (o.getD 0xFFFF)) ++
  [BitVec.ofNat 8 ms.length, BitVec.ofNat 8 (ms.filter (fun m => (d.vad (vadKey c m)).active)).length, 0, 0, 0, 0, 0, 0] ++ leBytes 8 (shortOf b).toNat

/-- LEVEL_TABLE_WRITE at an epoch boundary; the epoch's measures start anew. -/
def Dev.levelTable (d : Dev) (b : Time) : Dev :=
  let r := d.reg pgMix 0x050
  let base := fld r 16 32 * 65536
  let d := if bit r 0 then d.writeVa 0 base ((List.range 4096).flatMap d.levelLeg ++ (List.range 512).flatMap (fun c => d.levelConf c b)) else d
  { d with audio := { d.audio with vads := tabMapD {} d.audio.vads (fun _ v => { v with lvls := [], peak := 0, plc := false }) } }

/-- A register that holds ENABLE and the address of its own region of realm 0. -/
def Dev.enableSelf (d : Dev) (pg off : Nat) (v : Word) (kind len : Nat) : Dev :=
  let old := d.reg pg off
  let m := d.mergeAt pg off v
  let base := fld m.1 16 32 * 65536
  let refuse := bit m.1 0 && !d.pinned 0 base len
  let w := if refuse then setFld m.1 0 1 0 else m.1
  let d := (d.setReg pg off w).errs pg m.2
  let d := if refuse then d.err pg .badState else d
  let d := if bit old 0 then d.unhold kind pg else d
  if bit w 0 then d.hold kind pg 0 base len else d


/-! ### Playout events (R370, R373) -/

/-- JB_FORCE_STEP: a step pending for JB_FORCE goes with the next block whatever the voice activity. -/
def Dev.jbForceStep (d : Dev) (l i : Nat) : Dev :=
  let p := d.playout l i
  match p.step with
  | some (_, t) => if t + fld (d.reg pgMix 0x118) 0 16 * msT ≤ d.now then d.setPlayout l i { p with forced := true } else d
  | none => d

/-- The row JB_FORCE_STEP. -/
def execJbForceStep (l i : Nat) (s : State) : Host.Outcome State Fault Refusal := .next (s.actReady (fun d => d.jbForceStep l i))

/-- PLC_MUTE: consecutive concealment has reached PLC_MAX; the output fades to 0 over the next block. -/
def Dev.plcMute (d : Dev) (l i : Nat) : Dev :=
  let p := d.playout l i
  if !p.started || p.muted || decide (p.concealed < p.ahead + fld (d.reg pgMix 0x118) 16 16 * 96) then d
  else (d.setPlayout l i { p with muted := true, fade := true }).mixEvent 4 l

/-- The row PLC_MUTE. -/
def execPlcMute (l i : Nat) (s : State) : Host.Outcome State Fault Refusal := .next (s.actReady (fun d => d.plcMute l i))

/-- MIX registers read at the time of the read. -/
def Dev.mixRead (d : Dev) (off : Nat) : Option Word :=
  match off with
  | 0x048 => some (fmk 0 15 d.routeCount ||| fmk 16 10 d.binaural.length ||| fmk 32 9 (d.audio.rx.filter (fun e => e.2.opened)).length |||
      fmk 48 9 (d.audio.tx.filter (fun e => e.2.opened)).length)
  | 0x058 => some (fmk 0 7 d.audio.hrtf.length ||| fmk 16 10 d.audio.hrtfTaps ||| fmk 32 2 d.hrtfState)
  | _ => none

end Sys2Proof.Machine
end

