-- ==== Sys2Proof/Machine/RenderGeo.lean ====
section
/-! DEFINITION. Geometry of the renderer: layouts, triangulation, panning, scenes and equalisers (R424 to R428, R440 to R455). Real numbers
are in units of 2^-128. -/

namespace Sys2Proof.Machine
open Sys2Proof

/-- A vector. -/
abbrev Vec := Fx × Fx × Fx

/-- Vector arithmetic. -/
def vAdd (a b : Vec) : Vec := (a.1 + b.1, a.2.1 + b.2.1, a.2.2 + b.2.2)
def vSub (a b : Vec) : Vec := (a.1 - b.1, a.2.1 - b.2.1, a.2.2 - b.2.2)
def vScale (k : Fx) (a : Vec) : Vec := (fxMul k a.1, fxMul k a.2.1, fxMul k a.2.2)
def vDot (a b : Vec) : Fx := fxMul a.1 b.1 + fxMul a.2.1 b.2.1 + fxMul a.2.2 b.2.2
def vCross (a b : Vec) : Vec :=
  (fxMul a.2.1 b.2.2 - fxMul a.2.2 b.2.1, fxMul a.2.2 b.1 - fxMul a.1 b.2.2, fxMul a.1 b.2.1 - fxMul a.2.1 b.1)
def vLen (a : Vec) : Fx := fxSqrt (vDot a a)
def vUnit (a : Vec) : Vec := let l := vLen a; (fxDiv a.1 l, fxDiv a.2.1 l, fxDiv a.2.2 l)

/-- The unit vector of an integer position, and its distance. -/
def vOf (x y z : Int) : Vec := (x * fxOne, y * fxOne, z * fxOne)
def dirOf (x y z : Int) : Vec := if x = 0 ∧ y = 0 ∧ z = 0 then (0, fxOne, 0) else vUnit (vOf x y z)
def distOf (x y z : Int) : Fx := fxSqrt ((x * x + y * y + z * z) * fxOne)

/-- The arctangent, by two halvings and its series. -/
def fxAtan (x : Fx) : Fx :=
  let half (t : Fx) : Fx := fxDiv t (fxOne + fxSqrt (fxOne + fxMul t t))
  let t := half (half (half x))
  8 * ((List.range 60).foldl (fun (a : Fx × Fx) k => (a.1 + a.2 / ((2 * k + 1 : Nat) : Int), -(fxMul (fxMul a.2 t) t))) (0, t)).1

/-- An angle in degrees as radians. -/
def rad (deg : Fx) : Fx := fxMul deg (fxPi / 180)

/-- Directions nearer than this to a plane lie in it (R426; log entry 27). -/
def geoEps : Fx := ((2 ^ 68 : Nat) : Int)

/-- A loudspeaker's direction; 512 is the nadir and 513 the zenith (R426). -/
def SpkBank.dir (b : SpkBank) (i : Nat) : Vec :=
  if i = 512 then (0, 0, -fxOne) else if i = 513 then (0, 0, fxOne) else match b.spks[i]? with | some s => dirOf s.x s.y s.z | none => (0, fxOne, 0)

/-- The PANNABLE loudspeakers, in order. -/
def SpkBank.pans (b : SpkBank) : List Nat := (b.spks.zipIdx.filter (fun e => e.1.pannable)).map (fun e => e.2)

/-- A layout table (Tables 9-3, 9-4). -/
def bankParse (l : List Byte) : SpkBank :=
  { spks := (List.range (leAt l 0 2)).map (fun i => let o := 64 + 32 * i
      ⟨signed 32 (leAt l o 4), signed 32 (leAt l (o + 4) 4), signed 32 (leAt l (o + 8) 4), leAt l (o + 12) 4, leBits l (o + 16) 1 0 1 == 1⟩)
    refDist := leAt l 4 4
    nearDist := leAt l 8 4 }

/-- Every PANNABLE elevation lies within 2 degrees (R425). -/
def SpkBank.flat (b : SpkBank) : Bool :=
  let lim := fxSin (rad (2 * fxOne))
  b.pans.all (fun i => decide (((b.dir i).2.2).natAbs ≤ lim.natAbs))

/-- Virtual loudspeakers (R426). -/
def SpkBank.virtuals (b : SpkBank) : List Nat :=
  let low := b.spks.any (fun s => s.pannable && decide (s.z < 0) && decide (s.x * s.x + s.y * s.y < s.z * s.z))
  let high := b.spks.any (fun s => s.pannable && decide (0 < s.z) && decide (s.x * s.x + s.y * s.y < s.z * s.z))
  (if low then [] else [512]) ++ (if high then [] else [513])

/-- The outward normal of the plane of three directions when it supports the hull: every other direction on one side (R426). -/
def facetNormal (dirs : List (Nat × Vec)) (a b c : Vec) : Option Vec :=
  let n := vCross (vSub b a) (vSub c a)
  if (vDot n n) ≤ geoEps * 4 then none
  else
    let n := vUnit n
    let h (d : Vec) : Fx := vDot n (vSub d a)
    if dirs.all (fun e => decide (h e.2 ≤ geoEps)) then some n
    else if dirs.all (fun e => decide (-geoEps ≤ h e.2)) then some (-n.1, -n.2.1, -n.2.2)
    else none

/-- A triple is a triangle of the hull: its plane supports it; of the directions on that plane it holds the lowest-numbered, and the other
two are neighbours on the facet (R426). -/
def hullTriangle (dirs : List (Nat × Vec)) (a b c : Nat × Vec) : Option Vec :=
  match facetNormal dirs a.2 b.2 c.2 with
  | none => none
  | some n =>
    let on := dirs.filter (fun e => decide ((vDot n (vSub e.2 a.2)).natAbs ≤ geoEps.natAbs))
    let side (m : Vec) : Fx := vDot (vCross (vSub c.2 b.2) (vSub m b.2)) n
    let rest := on.filter (fun e => e.1 != b.1 && e.1 != c.1)
    if on.any (fun e => decide (e.1 < a.1)) then none
    else if rest.all (fun e => decide (0 < side e.2)) || rest.all (fun e => decide (side e.2 < 0)) then some n else none

/-- The pairs (and the rest of a list after each element). -/
def tails {α : Type} : List α → List (α × List α)
  | [] => []
  | a :: t => (a, t) :: tails t

/-- The triangles of a layout that is not planar, with their outward normals, in the order of R427. -/
def hullOf (dirs : List (Nat × Vec)) : List ((Nat × Nat × Nat) × Vec × Vec) :=
  (tails dirs).flatMap (fun e => (tails e.2).flatMap (fun f => f.2.filterMap (fun g =>
    (hullTriangle dirs e.1 f.1 g).map (fun n => ((e.1.1, f.1.1, g.1), n, e.1.2)))))

/-- The pairs of a planar layout, adjacent in azimuth, and whether each gap is at most 180 degrees (R425). -/
def planarPairs (b : SpkBank) : List (Nat × Nat) × Bool :=
  let az (i : Nat) : Int × Int := match b.spks[i]? with | some s => (s.x, s.y) | none => (0, 1)
  let half (v : Int × Int) : Nat := if 0 < v.1 ∨ (v.1 = 0 ∧ 0 < v.2) then 0 else 1
  let before (i j : Nat) : Bool :=
    let u := az i
    let v := az j
    if half u = half v then decide (0 < u.2 * v.1 - u.1 * v.2) else decide (half u < half v)
  let ring := sortBy before b.pans
  let pairs := ring.zip (ring.drop 1 ++ ring.take 1)
  let ok := pairs.all (fun e => let u := az e.1; let v := az e.2
    let s := u.2 * v.1 - u.1 * v.2
    decide (0 < s) || (decide (s = 0) && decide (u.1 * v.1 + u.2 * v.2 < 0)))
  ((sortBy (fun a b => decide (a.1 < b.1) || (decide (a.1 = b.1) && decide (a.2 < b.2)))
    (pairs.map (fun e => (min e.1 e.2, max e.1 e.2)))).eraseDups, ok)

/-- A layout triangulated; none when the rules cannot enclose the reference point (R424 to R427). -/
def SpkBank.triangulate (b : SpkBank) : Option SpkBank :=
  if b.flat then
    let r := planarPairs b
    if r.2 then some { b with planar := true, tris := r.1.map (fun e => (e.1, e.2, 1023)) } else none
  else
    let dirs := (b.pans ++ b.virtuals).map (fun i => (i, b.dir i))
    let h := hullOf dirs
    if !h.isEmpty && h.all (fun e => decide (geoEps < vDot e.2.1 e.2.2)) then some { b with planar := false, tris := h.map (fun e => e.1) } else none

/-- The first PANNABLE loudspeaker at the reference point, and the first one within half a degree of a lower-numbered one (R424). -/
def SpkBank.atCentre (b : SpkBank) : Option Nat := b.pans.find? (fun i => match b.spks[i]? with | some s => s.x == 0 && s.y == 0 && s.z == 0 | none => false)
def SpkBank.tooClose (b : SpkBank) : Option Nat :=
  let lim := fxCos (rad (fxOne / 2))
  b.pans.find? (fun i => b.pans.any (fun j => decide (j < i) && decide (lim ≤ vDot (b.dir i) (b.dir j))))

/-! ### Panning (R441 to R448) -/

/-- Gains of a triangle or pair for a direction (R441): none when its columns are singular. -/
def SpkBank.solve (b : SpkBank) (t : Nat × Nat × Nat) (p : Vec) : Option (List Fx) :=
  let u := b.dir t.1
  let v := b.dir t.2.1
  if b.planar then
    let det := fxMul u.1 v.2.1 - fxMul u.2.1 v.1
    if det = 0 then none
    else some [fxDiv (fxMul p.1 v.2.1 - fxMul p.2.1 v.1) det, fxDiv (fxMul u.1 p.2.1 - fxMul u.2.1 p.1) det]
  else
    let w := b.dir t.2.2
    let det := vDot u (vCross v w)
    if det = 0 then none
    else some [fxDiv (vDot p (vCross v w)) det, fxDiv (vDot u (vCross p w)) det, fxDiv (vDot u (vCross v p)) det]

/-- The corners of the triangles on the side between two loudspeakers that are neither. -/
def SpkBank.across (b : SpkBank) (v i : Nat) : List Nat :=
  b.tris.filterMap (fun t => let l := [t.1, t.2.1, t.2.2]
    if l.contains v && l.contains i then l.find? (fun k => k != v && k != i) else none)

/-- A side between two triangles of one facet, where its fan divides it, is no edge of the hull (R426). -/
def SpkBank.fanSide (b : SpkBank) (v i : Nat) : Bool :=
  match b.across v i with
  | [j, k] =>
    let a := b.dir v
    let n := vUnit (vCross (vSub (b.dir i) a) (vSub (b.dir j) a))
    decide ((vDot n (vSub (b.dir k) a)).natAbs ≤ geoEps.natAbs)
  | _ => false

/-- The loudspeakers joined to a virtual one by hull edges (R442). -/
def SpkBank.joined (b : SpkBank) (v : Nat) : List Nat :=
  ((b.tris.filter (fun t => t.1 == v || t.2.1 == v || t.2.2 == v)).flatMap (fun t => [t.1, t.2.1, t.2.2])).eraseDups.filter
    (fun i => decide (i < 512) && !b.fanSide v i)

/-- The amplitudes a source in direction p gives loudspeakers, components below 0 set to 0; a virtual loudspeaker shares its power equally
(R441, R442). -/
def SpkBank.amps (b : SpkBank) (p : Vec) : List (Nat × Fx) :=
  let lim : Fx := -((2 ^ 88 : Nat) : Int)
  match b.tris.findSome? (fun t => (b.solve t p).bind (fun g => if g.all (fun x => decide (lim ≤ x)) then some (t, g) else none)) with
  | none => b.pans.map (fun i => (i, Config.freePan p i))
  | some (t, g) =>
    ([t.1, t.2.1, t.2.2].zip (g.map (fun x => if x < 0 then 0 else x))).flatMap (fun e =>
      if e.1 < 512 then [e]
      else
        let j := b.joined e.1
        j.map (fun i => (i, fxDiv e.2 (fxSqrt ((j.length : Nat) * fxOne)))))

/-- The extent in degrees (R443). -/
def SpkBank.extent (b : SpkBank) (o : ObjNum) : Fx :=
  let r := distOf o.x o.y o.z
  let s := fxRat o.spread 100
  let a := if r = 0 then 180 * fxOne else 2 * fxDiv (180 * fxAtan (fxDiv (1000 * o.size * fxOne) r)) fxPi
  let e := if s < a then a else s
  let e := if 360 * fxOne < e then 360 * fxOne else e
  let near : Fx := (b.nearDist : Int) * fxOne
  if r < near then e + fxMul (360 * fxOne - e) (fxDiv (near - r) near) else e

/-- The directions of an object's sources (R444). -/
def sourceDirs (a : Vec) (e : Fx) : List Vec :=
  if e = 0 then [a]
  else
    let lim := fxCos (rad fxOne)
    let up : Vec := if lim ≤ a.2.2 ∨ a.2.2 ≤ -lim then (0, fxOne, 0) else (0, 0, fxOne)
    let u := vUnit (vSub up (vScale (vDot up a) a))
    let w := vCross a u
    a :: [6, 3, 2].flatMap (fun (k : Nat) =>
      let th := rad (e / (k : Int))
      (List.range 8).map (fun (m : Nat) =>
        let ph := rad (45 * (m : Int) * fxOne)
        vAdd (vScale (fxCos th) a) (vScale (fxSin th) (vAdd (vScale (fxCos ph) u) (vScale (fxSin ph) w)))))

/-- A direction rotated about the z axis from +y towards +x. -/
def rotated (a : Vec) (deg : Fx) : Vec :=
  let c := fxCos (rad deg)
  let s := fxSin (rad deg)
  (fxMul a.1 c + fxMul a.2.1 s, fxMul a.2.1 c - fxMul a.1 s, a.2.2)

/-- The weighted sources of an object (R445, R446 step 1). -/
def SpkBank.sources (b : SpkBank) (o : ObjNum) : List (Fx × Vec) :=
  let a := dirOf o.x o.y o.z
  let e := b.extent o
  let dv := fxRat o.dvg 65535
  let group (w : Fx) (d : Vec) : List (Fx × Vec) := let l := sourceDirs d e; l.map (fun v => (w / (l.length : Int), v))
  if o.dvg = 0 then group fxOne a
  else group (fxOne - dv) a ++ group (dv / 2) (rotated a (fxRat o.dvgAngle 100)) ++ group (dv / 2) (rotated a (-(fxRat o.dvgAngle 100)))

/-- A list of amounts by loudspeaker, summed. -/
def addAt (l : List (Nat × Fx)) (i : Nat) (x : Fx) : List (Nat × Fx) :=
  if l.any (fun e => e.1 == i) then l.map (fun e => if e.1 = i then (i, e.2 + x) else e) else l ++ [(i, x)]

/-- PANNABLE loudspeakers an object may use (R446 step 2, R447). -/
def SpkBank.allowed (b : SpkBank) (excl : Nat) : List Nat :=
  b.pans.filter (fun i => match b.spks[i]? with | some s => s.zones &&& excl == 0 | none => false)

/-- The powers of an object by loudspeaker, summing to 1 (R446); empty when every PANNABLE loudspeaker is excluded (R447). -/
def SpkBank.powers (b : SpkBank) (o : ObjNum) (s : ObjSet) : List (Nat × Fx) :=
  let ok := b.allowed s.excl
  if ok.isEmpty then []
  else
    let sum := (b.sources o).foldl (fun (l : List (Nat × Fx)) e => (b.amps e.2).foldl (fun (l : List (Nat × Fx)) g => addAt l g.1 (fxMul e.1 (fxMul g.2 g.2))) l) []
    let nearest (i : Nat) : Nat := ok.foldl (fun m j => if vDot (b.dir i) (b.dir m) < vDot (b.dir i) (b.dir j) then j else m) (ok.headD 0)
    let kept := sum.foldl (fun (l : List (Nat × Fx)) e => addAt l (if ok.contains e.1 then e.1 else nearest e.1) e.2) []
    let total := sumI (kept.map (fun e => e.2))
    let best := (sortBy (fun a b => decide (b.2 < a.2) || (decide (a.2 = b.2) && decide (a.1 < b.1))) kept).head?
    if s.snap then (match best with | some e => [(e.1, fxOne)] | none => [])
    else if total = 0 then ok.map (fun i => (i, Config.freePan (dirOf o.x o.y o.z) i))
    else kept.map (fun e => (e.1, fxDiv e.2 total))

/-- The Q60 gains of an object by loudspeaker (R448). -/
def SpkBank.gains (b : SpkBank) (o : ObjNum) (s : ObjSet) : List (Nat × Int) :=
  if !s.enable || s.mute then []
  else
    let r := distOf o.x o.y o.z
    let ref : Fx := (b.refDist : Int) * fxOne
    let gd := if s.dist && decide (ref < r) then fxDiv ref r else fxOne
    let g := fxMul (fxRat (linGain o.gain 16) (2 ^ 60)) gd
    (b.powers o s).map (fun e => (e.1, fxRound (fxMul g (fxSqrt e.2)) 60))

/-! ### Interpolation (R437, R438) -/

/-- Fields between two sets of values, at sample n of I, truncated. -/
def ObjNum.between (a b : ObjNum) (n i : Nat) : ObjNum :=
  if i ≤ n then b
  else
    let f (x y : Int) : Int := (x * (i : Int) + (y - x) * ((n : Int) + 1)).tdiv (i : Int)
    { x := f a.x b.x
      y := f a.y b.y
      z := f a.z b.z
      gain := f a.gain b.gain
      spread := f a.spread b.spread
      size := f a.size b.size
      dvg := f a.dvg b.dvg
      dvgAngle := f a.dvgAngle b.dvgAngle }

/-- The fields k samples from now. -/
def RObj.at_ (o : RObj) (k : Nat) : ObjNum := o.from_.between o.target (o.n + k) o.len

/-- The fields at the present boundary, from which a new change starts (R437, R438). -/
def RObj.now (o : RObj) : ObjNum := if o.n = 0 ∧ 0 < o.len then o.from_ else o.at_ 0

/-- A change at the present boundary (R436 to R439, R447). -/
def RObj.change (o : RObj) (t : ObjNum) (interp : Nat) (s : ObjSet) : RObj :=
  { o with
    from_ := o.now
    target := t
    n := 0
    len := max 32 interp
    interp := interp
    set := s
    old := if s = o.set then o.old else some (o.old.getD o.set)
    told := o.told && decide (s.excl = o.set.excl) }

/-! ### Scenes (R450, R451) -/

/-- The degree of an ACN channel. -/
def degree (c : Nat) : Nat := isqrt c

/-- The Legendre polynomial of degree n at x. -/
def legendre (n : Nat) (x : Fx) : Fx :=
  ((List.range n).foldl (fun (a : Fx × Fx) (k : Nat) =>
    (a.2, (fxMul ((2 * (k : Int) + 1) * x) a.2 - (k : Int) * a.1) / ((k : Int) + 1))) (0, fxOne)).2

/-- The decoder of a scene on a layout: a row of Q60 factors per loudspeaker (R451). -/
def SpkBank.decoder (b : SpkBank) (s : Scene) : List (List Int) :=
  if !s.enable then []
  else
    let chans := List.range ((s.order + 1) * (s.order + 1))
    let w (n : Nat) : Fx := if s.maxRe then legendre n (fxCos (rad (fxDiv (fxRat 1379 10) (fxRat (100 * (s.order : Int) + 151) 100)))) else fxOne
    let amps := (List.range 240).map (fun j => b.amps (Config.tDesign j 0, Config.tDesign j 1, Config.tDesign j 2))
    let g (j i : Nat) : Fx := sumI (((nthD [] amps j).filter (fun e => e.1 == i)).map (fun e => e.2))
    let rows := (List.range b.spks.length).map (fun i => chans.map (fun c =>
      fxMul (w (degree c)) (sumI ((List.range 240).map (fun j => fxMul (g j i) (Config.sphere c j)))) / 240))
    let power := sumI ((List.range 240).map (fun j => sumI (rows.map (fun r =>
      let y := sumI (r.zipIdx.map (fun e => fxMul e.1 (Config.sphere e.2 j)))
      fxMul y y)))) / 240
    let k := fxMul (fxDiv fxOne (fxSqrt power)) (fxRat (linGain s.gain 16) (2 ^ 60))
    rows.map (fun r => r.zipIdx.map (fun e =>
      fxRound (fxMul k (if s.n3d then e.1 else fxMul e.1 (fxSqrt ((2 * (degree e.2 : Int) + 1) * fxOne)))) 60))

/-! ### Equalisers (R455) -/

/-- Coefficients b0, b1, b2, a1, a2 of a band, by type, Q in 1/1000, frequency in 1/256 Hz and gain in 2^-16 dB (Audio EQ Cookbook; the
shelves take Q as the others do, log entry 28). -/
def bandCoef (type q freq : Nat) (gain : Int) : BandCoef :=
  if type = 0 then none
  else
    let w0 := fxDiv (fxMul (2 * fxPi) (fxRat (freq : Nat) 256)) (96000 * fxOne)
    let c := fxCos w0
    let al := fxDiv (fxSin w0) (fxRat (2 * q : Nat) 1000)
    let a := fxDb (fxRat gain (2 * 65536))
    let one := fxOne
    let sq := 2 * fxMul (fxSqrt a) al
    let r : List Fx :=
      if type = 1 then [one + fxMul al a, -2 * c, one - fxMul al a, one + fxDiv al a, -2 * c, one - fxDiv al a]
      else if type = 2 then
        [fxMul a ((a + one) - fxMul (a - one) c + sq), 2 * fxMul a ((a - one) - fxMul (a + one) c), fxMul a ((a + one) - fxMul (a - one) c - sq),
         (a + one) + fxMul (a - one) c + sq, -2 * ((a - one) + fxMul (a + one) c), (a + one) + fxMul (a - one) c - sq]
      else if type = 3 then
        [fxMul a ((a + one) + fxMul (a - one) c + sq), -2 * fxMul a ((a - one) + fxMul (a + one) c), fxMul a ((a + one) + fxMul (a - one) c - sq),
         (a + one) - fxMul (a - one) c + sq, 2 * ((a - one) - fxMul (a + one) c), (a + one) - fxMul (a - one) c - sq]
      else if type = 4 then [(one - c) / 2, one - c, (one - c) / 2, one + al, -2 * c, one - al]
      else if type = 5 then [(one + c) / 2, -(one + c), (one + c) / 2, one + al, -2 * c, one - al]
      else [one - al, -2 * c, one + al, one + al, -2 * c, one - al]
    let a0 := nthD one r 3
    some ([0, 1, 2, 4, 5].map (fun i => fxRound (fxDiv (nthD 0 r i) a0) 60))

end Sys2Proof.Machine
end

