-- ==== Sys2Proof/Machine/Render.lean ====
section
/-! DEFINITION. The renderer (chapter 9): its commands, object changes and the evaluation of stage 3. -/

namespace Sys2Proof.Machine
open Sys2Proof

/-- Objects, scenes, chains and banks. -/
def Dev.obj (d : Dev) (i : Nat) : RObj := tabGetD {} d.render.objs i
def Dev.setObj (d : Dev) (i : Nat) (o : RObj) : Dev := { d with render := { d.render with objs := tabPutD {} d.render.objs i o } }
def Dev.scene (d : Dev) (i : Nat) : Scene := tabGetD {} d.render.scenes i
def Dev.chain (d : Dev) (i : Nat) : Chain := tabGetD {} d.render.chains i
def Dev.setChain (d : Dev) (i : Nat) (x : Chain) : Dev := { d with render := { d.render with chains := tabPutD {} d.render.chains i x } }
def Dev.spkBank (d : Dev) (i : Nat) : SpkBank := tabGetD {} d.render.banks i

/-- State codes (Table 9-1). -/
def Dev.renderCode (d : Dev) : Nat := if d.render.selected.isNone then 0 else if d.render.running then 2 else 1
def Dev.bankCode (d : Dev) (i : Nat) : Nat := if d.render.selected = some i then 2 else if d.render.loaded.contains i then 1 else 0

/-- A RENDER event with the object or loudspeaker concerned (R468). -/
def Dev.renderEvent (d : Dev) (b : Nat) (d2 d3 : Nat) : Dev := d.raise pgRender b 0x1E0 (0x0701 + b) (fmk 0 64 d2) (fmk 0 64 d3)

/-- Saturations of a render store counted and raised (R449, R453). -/
def Dev.renderSat (d : Dev) (n obj : Nat) : Dev := if n = 0 then d else (d.bump pgRender 0x080 n).renderEvent 2 obj 0

/-! ### Layouts (R424 to R429) -/

/-- The checks of a layout table by its bytes. -/
def layoutChecks (l : List Byte) : List Chk :=
  let n := leAt l 0 2
  let b := bankParse l
  let entry (i : Nat) : List Chk := let o := 64 + 32 * i
    [badDesc (o + 16) (decide (2 ≤ leAt l (o + 16) 1)), badDesc (o + 17) (((l.drop (o + 17)).take 15).any (· != 0))]
  let at_ (o : Option Nat) : Chk := badDesc (64 + 32 * o.getD 0) o.isSome
  [badDesc 0 (n == 0 || decide (512 < n)), badDesc 2 (leAt l 2 2 != 0), badDesc 4 (leAt l 4 4 == 0 || decide (2147483648 ≤ leAt l 4 4)),
   badDesc 8 (decide (leAt l 4 4 < leAt l 8 4)), badDesc 12 (((l.drop 12).take 52).any (· != 0))] ++ (List.range n).flatMap entry ++
  [at_ b.atCentre, at_ b.tooClose, badDesc 0 (decide (b.pans.length < 2)), badDesc 0 (b.triangulate).isNone]

/-- The bytes of a layout table: the header says how many. -/
def layoutCapture (c : HostCmd) (d : Dev) : Option (List Byte) :=
  match capturePinned d 0 (c.arg 8 8) 64 with
  | none => none
  | some h => capturePinned d 0 (c.arg 8 8) (64 + 32 * min 512 (leAt h 0 2))

/-- The decoders of a layout for the enabled scenes (R428, R451). -/
def Dev.withDecoders (d : Dev) (b : SpkBank) : SpkBank := { b with dec := [b.decoder (d.scene 0), b.decoder (d.scene 1)] }

/-- SPK_LAYOUT_LOAD: at its boundary, which follows the end of the computation, the bank becomes LOADED (R423, R428). -/
def spkLayoutLoadSpec : OpSpec where
  opcode := 0x0700
  ownerOnly := true
  args := [(0, 1), (8, 8)]
  capture := layoutCapture
  checks := fun c s => [badArg 0 (decide (2 ≤ c.arg 0 1)), conflict 2 (s.dev.bankCode (c.arg 0 1) == 2)]
  dchecks := fun _ l _ => layoutChecks l
  run := devRun fun c l _ d =>
    let b := ((bankParse l).triangulate).getD {}
    let i := c.arg 0 1
    { d with render := { d.render with
      banks := tabPutD {} d.render.banks i (d.withDecoders b)
      loaded := if d.render.loaded.contains i then d.render.loaded else d.render.loaded ++ [i] } }.okNow b.tris.length

/-- The row SPK_LAYOUT_LOAD. -/
def execSpkLayoutLoad (c : HostCmd) (s : State) : Host.Outcome State Fault Refusal := .next (runCmd spkLayoutLoadSpec c s)

/-- SPK_LAYOUT_LOADED: the computation for a bank ends, and the command takes the first epoch boundary from then on (R428). -/
def Dev.layoutLoaded (d : Dev) (i : Nat) : Dev :=
  match d.ctl.computing.find? (fun a => a.tok.cmd.arg 0 1 == i) with
  | none => d
  | some a =>
    let due := max a.due (max (epochCeil d.now) (d.clk.nextEpoch * msT))
    { d with ctl := { d.ctl with
      computing := d.ctl.computing.erase a
      accepted := d.ctl.accepted ++ [{ a with due := due }] } }

/-- The row SPK_LAYOUT_LOADED. -/
def execSpkLayoutLoaded (i : Nat) (s : State) : Host.Outcome State Fault Refusal := .next (s.actReady (fun d => d.layoutLoaded i))

/-- SPK_LAYOUT_SELECT (R429). -/
def spkLayoutSelectSpec : OpSpec where
  opcode := 0x0701
  ownerOnly := true
  args := [(0, 1)]
  checks := fun c s => [badArg 0 (decide (2 ≤ c.arg 0 1)), conflict (s.dev.bankCode (c.arg 0 1)) (s.dev.bankCode (c.arg 0 1) != 1)]
  run := devRun fun c _ _ d =>
    let d := { d with render := { d.render with
      selected := some (c.arg 0 1)
      oldBank := if d.render.running then d.render.oldBank.or d.render.selected else none } }
    (d.renderEvent 3 0 0).okNow 0

/-- The row SPK_LAYOUT_SELECT. -/
def execSpkLayoutSelect (c : HostCmd) (s : State) : Host.Outcome State Fault Refusal := .next (runCmd spkLayoutSelectSpec c s)

/-- RENDER_START (R419, R420). -/
def renderStartSpec : OpSpec where
  opcode := 0x0702
  ownerOnly := true
  checks := fun _ s => [conflict s.dev.renderCode (s.dev.renderCode != 1)]
  run := devRun fun _ _ _ d =>
    { d with render := { d.render with
      running := true
      fadeIn := true
      fadeOut := false
      oldBank := none
      chains := tabMapD {} d.render.chains (fun _ x => { x with line := [] }) } }.okNow 0

/-- The row RENDER_START. -/
def execRenderStart (c : HostCmd) (s : State) : Host.Outcome State Fault Refusal := .next (runCmd renderStartSpec c s)

/-- RENDER_STOP: RESULT is the end of the fade (R419). -/
def renderStopSpec : OpSpec where
  opcode := 0x0703
  ownerOnly := true
  checks := fun _ s => [conflict s.dev.renderCode (s.dev.renderCode != 2)]
  run := devRun fun _ _ _ d =>
    ({ d with render := { d.render with running := false, fadeOut := true, fadeIn := false } }, .done .ok 0 (shortOf (blockAt (blockCeil d.now + 1))))

/-- The row RENDER_STOP. -/
def execRenderStop (c : HostCmd) (s : State) : Host.Outcome State Fault Refusal := .next (runCmd renderStopSpec c s)

/-! ### Objects (R430 to R439) -/

/-- An object entry (Table 9-5). -/
structure ObjEntry where
  num : ObjNum
  interp : Nat
  set : ObjSet
  deriving DecidableEq, Repr

/-- The entry of 36 bytes or more. -/
def objParse (l : List Byte) : ObjEntry :=
  let f := leAt l 32 1
  { num := {
      x := signed 32 (leAt l 0 4)
      y := signed 32 (leAt l 4 4)
      z := signed 32 (leAt l 8 4)
      gain := signed 32 (leAt l 12 4)
      spread := (leAt l 20 2 : Nat)
      size := (leAt l 22 2 : Nat)
      dvg := (leAt l 24 2 : Nat)
      dvgAngle := (leAt l 26 2 : Nat) }
    interp := leAt l 16 4
    set := ⟨leAt l 28 4, f % 2 == 1, f / 2 % 2 == 1, f / 4 % 2 == 1, f / 8 % 2 == 1⟩ }

/-- The offset of the first field of an entry outside Table 9-5. -/
def objBad (l : List Byte) : Option Nat :=
  let fields : List (Nat × Bool) := [(12, !gainOk (signed 32 (leAt l 12 4))), (16, decide (960000 < leAt l 16 4)), (20, decide (36000 < leAt l 20 2)),
    (26, decide (18000 < leAt l 26 2)), (32, decide (16 ≤ leAt l 32 1))]
  let rest : List (Nat × Bool) := (l.drop 33).zipIdx.map (fun (e : Byte × Nat) => (33 + e.2, e.1 != 0))
  ((fields ++ rest).find? (fun e => e.2)).map (fun e => e.1)

/-- An object's entry replaced (R432, R437, R439). -/
def Dev.objChange (d : Dev) (i : Nat) (e : ObjEntry) : Dev := d.setObj i ((d.obj i).change e.num e.interp e.set)

/-- The entry that OBJ_SET carries. -/
def objArgs (c : HostCmd) : List Byte := leBytes 36 (c.arg 4 36)

/-- OBJ_SET (R430, R431). -/
def objSetSpec : OpSpec where
  opcode := 0x0704
  ownerOnly := true
  args := [(0, 2), (4, 36)]
  checks := fun c _ => [badArg 0 (decide (1024 ≤ c.arg 0 2)), ⟨.badArg, descOff ((objBad (objArgs c)).getD 0), (objBad (objArgs c)).isSome⟩]
  run := devRun fun c _ _ d => (d.objChange (c.arg 0 2) (objParse (objArgs c))).okNow 0

/-- The row OBJ_SET. -/
def execObjSet (c : HostCmd) (s : State) : Host.Outcome State Fault Refusal := .next (runCmd objSetSpec c s)

/-- OBJ_TABLE_READ: the bytes a COMMIT_GROUP that arms RENDER reads, empty when the table is not readable (R433, R467). -/
def Dev.objTableRead (d : Dev) : List Byte :=
  (capturePinned d 0 (fld (d.reg pgRender (if bit (d.shadowReg pgRender 0x068) 0 then 0x060 else 0x058)) 16 32 * 65536) 65536).getD []

/-- The bytes read are kept until RENDER goes live, while OBJ_SEL.ENABLE is 1 (R433, R434). -/
def Dev.objTableKeep (d : Dev) (l : List Byte) : Dev :=
  { d with render := { d.render with
    table := if bit (d.shadowReg pgRender 0x068) 1 then some (if l.isEmpty then none else some l) else none } }

/-- The table read applies as the RENDER page goes live (R433, R434). -/
def Dev.objTableApply (d : Dev) : Dev :=
  match d.render.table with
  | none => d
  | some t =>
    let d := { d with render := { d.render with table := none } }
    match t with
    | none => (d.inc pgRender 0x098).renderEvent 0 0 0
    | some l =>
      let entry (i : Nat) : List Byte := (l.drop (64 * i)).take 64
      let bad := (List.range 1024).filter (fun i => (objBad (entry i)).isSome)
      let d := (List.range 1024).foldl (fun (d : Dev) i => if (objBad (entry i)).isSome then d else d.objChange i (objParse (entry i))) d
      let d := d.inc pgRender 0x090
      match bad with
      | [] => d
      | i :: _ => (d.inc pgRender 0x098).renderEvent 0 i bad.length

/-! ### Loudspeaker chains (R453 to R460) -/

/-- The checks of an output record (Table 9-7). -/
def outChecks (l : List Byte) : List Chk :=
  let band (b : Nat) : List Chk := let o := 16 + 12 * b
    let t := leAt l o 1
    let g := signed 32 (leAt l (o + 8) 4)
    [badDesc o (decide (7 ≤ t)), badDesc (o + 1) (leAt l (o + 1) 1 != 0), badDesc (o + 2) (t != 0 && decide (leAt l (o + 2) 2 < 100 ∨ 40000 < leAt l (o + 2) 2)),
     badDesc (o + 4) (t != 0 && decide (leAt l (o + 4) 4 < 2560 ∨ 10240000 < leAt l (o + 4) 4)),
     badDesc (o + 8) (t != 0 && decide (t ≤ 3) && decide (g < -1966080 ∨ 1966080 < g))]
  [badDesc 0 (decide (9600 * 65536 < leAt l 0 4)), badDesc 4 (!gainOk (signed 32 (leAt l 4 4))), badDesc 8 (decide (2 ≤ leAt l 8 1)),
   badDesc 9 (((l.drop 9).take 7).any (· != 0))] ++ (List.range 16).flatMap band ++ [badDesc 208 (((l.drop 208).take 48).any (· != 0))]

/-- The record as it acts: a DELAY below 16 samples loses its fraction (R457). -/
def outParse (l : List Byte) : OutRec :=
  let dl := leAt l 0 4
  { delay := if dl < 16 * 65536 then dl / 65536 * 65536 else dl
    gain := signed 32 (leAt l 4 4)
    invert := leAt l 8 1 == 1
    bands := (List.range 16).map (fun b => let o := 16 + 12 * b
      bandCoef (leAt l o 1) (leAt l (o + 2) 2) (leAt l (o + 4) 4) (signed 32 (leAt l (o + 8) 4))) }

/-- SPK_SET (R454, R456). -/
def spkSetSpec : OpSpec where
  opcode := 0x0705
  ownerOnly := true
  args := [(0, 2), (8, 8)]
  capture := fun c d => capturePinned d 0 (c.arg 8 8) 256
  checks := fun c _ => [badArg 0 (decide (512 ≤ c.arg 0 2)), badArg 8 (c.arg 8 8 % 64 != 0)]
  dchecks := fun _ l _ => outChecks l
  run := devRun fun c l _ d =>
    let x := d.chain (c.arg 0 2)
    (d.setChain (c.arg 0 2) { x with out := outParse l, oldOut := some (x.oldOut.getD x.out) }).okNow 0

/-- The row SPK_SET. -/
def execSpkSet (c : HostCmd) (s : State) : Host.Outcome State Fault Refusal := .next (runCmd spkSetSpec c s)

/-- The charge of a filter of T taps (Table 9-8). -/
def tapCharge (t : Nat) : Nat := if t ≤ 256 then t else if t ≤ 1024 then (t + 255) / 256 * 256 else (t + 1023) / 1024 * 1024

/-- Charged taps: filters in use, those that still fade out, and those of FIR_LOADs processed and not yet in effect (R458). -/
def Dev.tapsUsed (d : Dev) : Nat :=
  sumN (d.render.chains.map (fun e => tapCharge e.2.taps.length + (match e.2.oldTaps with | some t => tapCharge t.length | none => 0))) +
  sumN (d.ctl.accepted.map (fun a => if a.tok.opcode = 0x0706 then tapCharge (a.tok.cmd.arg 4 4) else 0))

/-- FIR_LOAD (R458 to R460). A filter that a second one replaces in the same block is freed at once. -/
def firLoadSpec : OpSpec where
  opcode := 0x0706
  ownerOnly := true
  args := [(0, 2), (4, 12)]
  capture := fun c d => if 32768 < c.arg 4 4 then some [] else capturePinned d 0 (c.arg 8 8) (8 * c.arg 4 4)
  checks := fun c s => [badArg 0 (decide (512 ≤ c.arg 0 2)), badArg 4 (decide (32768 < c.arg 4 4) || c.arg 4 4 % 64 != 0),
    noRes (decide (4194304 < s.dev.tapsUsed + tapCharge (c.arg 4 4)))]
  run := devRun fun c l _ d =>
    let t := c.arg 4 4
    let x := d.chain (c.arg 0 2)
    (d.setChain (c.arg 0 2) { x with taps := q60List t l, oldTaps := some (x.oldTaps.getD x.taps) }).okNow (tapCharge t / 64)

/-- The row FIR_LOAD. -/
def execFirLoad (c : HostCmd) (s : State) : Host.Outcome State Fault Refusal := .next (runCmd firLoadSpec c s)

/-- HOA_SET: decoders of every loaded bank (R451, R452). -/
def hoaSetSpec : OpSpec where
  opcode := 0x0707
  ownerOnly := true
  args := [(0, 8)]
  checks := fun c _ => [badArg 0 (decide (2 ≤ c.arg 0 1)), badArg 1 (decide (8 ≤ c.arg 1 1)), badArg 2 (decide (2 ≤ c.arg 2 1)), badArg 3 (decide (4 ≤ c.arg 3 1)),
    badArg 4 (!gainOk (c.argS 4 4))]
  run := devRun fun c _ _ d =>
    let i := c.arg 0 1
    let s : Scene := ⟨c.arg 1 1, c.arg 2 1 == 1, c.arg 3 1 % 2 == 1, c.arg 3 1 / 2 == 1, c.argS 4 4⟩
    let olds := d.render.banks.map (fun e => (e.1, nthD [] e.2.dec i))
    { d with render := { d.render with
      scenes := tabPutD {} d.render.scenes i s
      banks := tabMapD {} d.render.banks (fun _ b => { b with dec := setNth b.dec i (b.decoder s) })
      oldDec := if d.render.oldDec.any (fun e => e.1 == i) then d.render.oldDec else d.render.oldDec ++ [(i, olds)] } }.okNow 0

/-- The row HOA_SET. -/
def execHoaSet (c : HostCmd) (s : State) : Host.Outcome State Fault Refusal := .next (runCmd hoaSetSpec c s)

/-- RENDER_QUERY. -/
def renderQuerySpec : OpSpec where
  opcode := 0x0708
  ownerOnly := true
  run := devRun fun _ _ _ d => (d, .done .ok d.renderCode (fmk 0 64 d.tapsUsed))

/-- The row RENDER_QUERY. -/
def execRenderQuery (c : HostCmd) (s : State) : Host.Outcome State Fault Refusal := .next (runCmd renderQuerySpec c s)

/-! ### Stage 3 of a block -/

/-- Equal-power and equal-gain weights over one block. -/
def blockA (curve : Nat) : List Int := (List.range 32).map (fun n => curveA curve n 32)
def blockB (curve : Nat) : List Int := (List.range 32).map (fun n => curveB curve n 32)

/-- The gains of an object on a bank for the samples of a block: at the panning instants 0, 8, 16, 24 and 32 and between (R440). -/
def SpkBank.blockGains (b : SpkBank) (o : RObj) (s : ObjSet) : List (Nat × List Int) :=
  let g := [0, 8, 16, 24, 32].map (fun k => b.gains (o.at_ k) s)
  let spks := (g.flatMap (fun l => l.map (fun e => e.1))).eraseDups
  let at_ (k i : Nat) : Int := (((nthD [] g k).find? (fun e => e.1 == i)).map (fun e => e.2)).getD 0
  spks.map (fun i => (i, (List.range 32).map (fun n =>
    roundDiv (8 * at_ (n / 8) i + (at_ (n / 8 + 1) i - at_ (n / 8) i) * ((n % 8 : Nat) : Int)) 8)))

/-- Gains weighted sample by sample. -/
def weighGains (w : List Int) (l : List (Nat × List Int)) : List (Nat × List Int) :=
  l.map (fun e => (e.1, (List.range 32).map (fun n => mulQ60 (samp e.2 n) (samp w n))))

/-- An object's gains with the crossfades of its settings (R439) and of the bank (R429). -/
def Dev.objGains (d : Dev) (o : RObj) : List (Nat × List Int) :=
  let on (b : SpkBank) : List (Nat × List Int) := match o.old with
    | none => b.blockGains o o.set
    | some s => weighGains (blockA 1) (b.blockGains o s) ++ weighGains (blockB 1) (b.blockGains o o.set)
  match d.render.selected, d.render.oldBank with
  | some n, some m => weighGains (blockA 1) (on (d.spkBank m)) ++ weighGains (blockB 1) (on (d.spkBank n))
  | some n, none => on (d.spkBank n)
  | none, _ => []

/-- Products of the panned bus of every loudspeaker: gain list and sample list (R449). -/
def Dev.pannedTerms (d : Dev) (input : Nat → List Int) : List (Nat × List Int × List Int) :=
  (d.render.objs.filter (fun e => e.2.set.enable || (e.2.old.map (fun s => s.enable)).getD false)).flatMap (fun e =>
    (d.objGains e.2).map (fun g => (g.1, g.2, input e.1)))

/-- The decoded scenes of a loudspeaker, weighted (R451, R452, R429). -/
def Dev.sceneTerms (d : Dev) (spk : Nat) (hoa : Nat → List Int) : List (List Int × List Int) :=
  let rows (bank i : Nat) (w : List Int) (dec : List (List Int)) : List (List Int × List Int) :=
    let _ := bank
    (nthD [] dec spk).zipIdx.map (fun e => (w.map (fun x => mulQ60 e.1 x), hoa (64 * i + e.2)))
  let one := List.replicate 32 q60One
  let on (bank : Nat) (w : List Int) : List (List Int × List Int) := [0, 1].flatMap (fun i =>
    let new := nthD [] (d.spkBank bank).dec i
    match d.render.oldDec.find? (fun e => e.1 == i) with
    | none => rows bank i w new
    | some o =>
      let old := ((o.2.find? (fun e => e.1 == bank)).map (fun e => e.2)).getD []
      let wa := (List.range 32).map (fun n => mulQ60 (samp w n) (curveA 1 n 32))
      let wb := (List.range 32).map (fun n => mulQ60 (samp w n) (curveB 1 n 32))
      rows bank i wa old ++ rows bank i wb new)
  match d.render.selected, d.render.oldBank with
  | some n, some m => on m (blockA 1) ++ on n (blockB 1)
  | some n, none => on n one
  | none, _ => []

/-- A sum of products, rounded once per sample. -/
def dotBlock (l : List (List Int × List Int)) : List Int :=
  (List.range 32).map (fun n => roundDiv (sumI (l.map (fun e => samp e.1 n * samp e.2 n))) (2 ^ 60))

/-- One sample through a band in direct form I (R455), its next state, and whether its store saturated. -/
def bandStep (k : List Int) (z : Int × Int × Int × Int) (x : Int) : Int × (Int × Int × Int × Int) × Bool :=
  let raw := roundDiv (nthD 0 k 0 * x + nthD 0 k 1 * z.1 + nthD 0 k 2 * z.2.1 - nthD 0 k 3 * z.2.2.1 - nthD 0 k 4 * z.2.2.2) (2 ^ 60)
  let y := satStore raw
  (y, (x, z.1, y, z.2.2.1), decide (raw ≠ y))

/-- A block through a band; a band that is OFF passes it and keeps what it last passed. -/
def bandBlock (c : BandCoef) (z : Int × Int × Int × Int) (l : List Int) : List Int × (Int × Int × Int × Int) × Nat :=
  match c with
  | none => (l, l.foldl (fun (z : Int × Int × Int × Int) x => (x, z.1, x, z.2.2.1)) z, 0)
  | some k => l.foldl (fun (a : List Int × (Int × Int × Int × Int) × Nat) x =>
      let r := bandStep k a.2.1 x
      (a.1 ++ [r.1], r.2.1, a.2.2 + (if r.2.2 then 1 else 0))) ([], z, 0)

/-- A block through sixteen bands. -/
def eqBlock (bands : List BandCoef) (st : List (Int × Int × Int × Int)) (l : List Int) : List Int × List (Int × Int × Int × Int) × Nat :=
  (bands.zip st).foldl (fun (a : List Int × List (Int × Int × Int × Int) × Nat) e =>
    let r := bandBlock e.1 e.2 a.1
    (r.1, a.2.1 ++ [r.2.1], a.2.2 + r.2.2)) (l, [], 0)

/-- Two blocks crossfaded. -/
def crossBlock (curve : Nat) (a b : List Int) : List Int :=
  (List.range 32).map (fun n => roundDiv (samp a n * curveA curve n 32 + samp b n * curveB curve n 32) (2 ^ 60))

/-- The convolution of a block with taps; `past` is what came before, newest first. Within ±2^-44 of exact (R459). -/
def firBlock (spk n0 : Nat) (taps past l : List Int) : List Int :=
  if taps.isEmpty then l
  else (List.range 32).map (fun n =>
    let x := (l.take (n + 1)).reverse ++ past
    roundDiv (sumI ((taps.zip x).map (fun e => e.1 * e.2))) (2 ^ 60) + clampI (-65536) 65536 (Config.firError spk (n0 + n) x))

/-- The delay line read at a DELAY for a block (R457). -/
def delayBlock (delay : Nat) (past l : List Int) : List Int :=
  (List.range 32).map (fun n =>
    let x := (l.take (n + 1)).reverse ++ past
    let w := delay / 65536
    let f := delay % 65536
    if f = 0 then nthD 0 x w
    else roundDiv (sumI ((List.range 32).map (fun i => Config.delayTap f i * nthD 0 x (w - 16 + i)))) (2 ^ 60))

/-- A gain that moves linearly in dB over one block, as Q60 factors (R456, Table 9-11). -/
def gainRamp (a b : Int) : List Int :=
  if a = b then List.replicate 32 (linGain b 16)
  else (List.range 32).map (fun (n : Nat) => linGain (a * 32 + (b - a) * ((n : Int) + 1)) 21)

/-- Bit s of the MUTE or BYPASS registers. -/
def Dev.spkBit (d : Dev) (base s : Nat) : Bool := bit (d.reg pgRender (base + 8 * (s / 64))) (s % 64)

/-- A result stored: held to its range, and how many samples saturated. -/
def storeBlock (l : List Int) : List Int × Nat := (l.map satStore, satHits l)

/-- One loudspeaker's chain for a block (Table 9-6): the chain afterwards, the output, and saturations. -/
def Dev.chainBlock (d : Dev) (s n0 : Nat) (input : List Int) : Chain × List Int × Nat :=
  let x := d.chain s
  let s1 := storeBlock input
  let o := x.oldOut.getD x.out
  let g := gainRamp o.gain x.out.gain
  let sign (n : Nat) : Int :=
    let a := if o.invert then -curveA 0 n 32 else curveA 0 n 32
    let b := if x.out.invert then -curveB 0 n 32 else curveB 0 n 32
    if o.invert = x.out.invert then (if x.out.invert then -q60One else q60One) else a + b
  let s2 := storeBlock ((List.range 32).map (fun n => roundDiv (samp s1.1 n * mulQ60 (samp g n) (sign n)) (2 ^ 60)))
  let eNew := eqBlock x.out.bands x.eq s2.1
  let eOld := eqBlock o.bands x.eq s2.1
  let s3 := storeBlock (if x.oldOut.isSome && decide (o.bands ≠ x.out.bands) then crossBlock 0 eOld.1 eNew.1 else eNew.1)
  let fNew := firBlock s n0 x.taps x.fir s3.1
  let f := match x.oldTaps with | none => fNew | some t => crossBlock 0 (firBlock s n0 t x.fir s3.1) fNew
  let was := d.render.bypass.contains s
  let is := d.spkBit 0x140 s
  let s4 := storeBlock (if was && is then s3.1 else if is then crossBlock 0 f s3.1 else if was then crossBlock 0 s3.1 f else f)
  let dNew := delayBlock x.out.delay x.line s4.1
  let s5 := storeBlock (if o.delay = x.out.delay then dNew else crossBlock 0 (delayBlock o.delay x.line s4.1) dNew)
  let t := gainRamp d.render.trim (signed 32 (fld (d.reg pgRender 0x070) 0 32))
  let s6 := storeBlock ((List.range 32).map (fun n => mulQ60 (samp s5.1 n) (samp t n)))
  let mWas := d.render.mute.contains s
  let mIs := d.spkBit 0x100 s
  let s7 := if mWas && mIs then zeroBlock else if mIs then crossBlock 0 s6.1 zeroBlock else if mWas then crossBlock 0 zeroBlock s6.1 else s6.1
  ({ x with
     oldOut := none
     oldTaps := none
     eq := eNew.2.1
     fir := (s3.1.reverse ++ x.fir).take 32768
     line := (s4.1.reverse ++ x.line).take 9664 },
   s7, s1.2 + s2.2 + eNew.2.2 + s3.2 + s4.2 + s5.2 + s6.2)

/-- The loudspeakers of MUTE or BYPASS set. -/
def Dev.spkSet (d : Dev) (base : Nat) : List Nat := (List.range 512).filter (fun s => d.spkBit base s)

/-- EXCL_ALL for objects whose every PANNABLE loudspeaker is excluded (R447). -/
def Dev.exclAll (d : Dev) : Dev :=
  match d.render.selected with
  | none => d
  | some n =>
    (d.render.objs.filter (fun e => e.2.set.enable && !e.2.told && ((d.spkBank n).allowed e.2.set.excl).isEmpty)).foldl (fun (d : Dev) e =>
      ((d.setObj e.1 { e.2 with told := true }).inc pgRender 0x088).renderEvent 1 e.1 0) d

/-- Interpolation and crossfades one block further. -/
def RObj.advance (o : RObj) : RObj :=
  let n := o.n + 32
  if o.len ≤ n then { o with from_ := o.target, n := 0, len := 0, old := none } else { o with n := n, old := none }

/-- Bytes of tail taps streamed for a block (R461). -/
def Dev.tailBytes (d : Dev) : Nat := sumN (d.render.chains.map (fun e => (tapCharge e.2.taps.length - 1024) / 4))

/-- Stage 3 of a block (R416 to R420, R453): the sinks of objects, scenes and loudspeakers as the router summed them; the answer gives
each SPK_OUT. While the renderer is neither RUNNING nor fading out, its inputs are discarded. -/
def Dev.renderBlock (d : Dev) (n0 : Nat) (objIn hoaIn spkIn : Nat → List Int) : Dev × (Nat → List Int) :=
  if !(d.render.running || d.render.fadeOut) then
    ({ d with render := { d.render with
        trim := signed 32 (fld (d.reg pgRender 0x070) 0 32)
        mute := d.spkSet 0x100
        bypass := d.spkSet 0x140
        oldBank := none
        oldDec := []
        objs := tabMapD {} d.render.objs (fun _ o => { o with old := none })
        chains := tabMapD {} d.render.chains (fun _ x => { x with oldOut := none, oldTaps := none }) } }, fun _ => zeroBlock)
  else
    let d := d.exclAll
    let terms := d.pannedTerms objIn
    let one (s : Nat) : Chain × List Int × Nat :=
      let bus := storeBlock (dotBlock ((terms.filter (fun t => t.1 == s)).map (fun t => (t.2.1, t.2.2))))
      let scenes := dotBlock (d.sceneTerms s hoaIn)
      let sum := (List.range 32).map (fun n => samp bus.1 n + samp scenes n + samp (spkIn s) n)
      let r := d.chainBlock s n0 sum
      let w := if d.render.fadeIn then blockB 0 else if d.render.fadeOut then blockA 0 else []
      (r.1, if w.isEmpty then r.2.1 else (List.range 32).map (fun n => mulQ60 (samp r.2.1 n) (samp w n)), r.2.2 + bus.2)
    let all := (List.range 512).map one
    let d := all.zipIdx.foldl (fun (d : Dev) e => (d.setChain e.2 e.1.1).renderSat e.1.2.2 e.2) d
    let d := { d with render := { d.render with
      fadeIn := false
      fadeOut := false
      oldBank := none
      oldDec := []
      objs := tabMapD {} d.render.objs (fun _ o => o.advance)
      trim := signed 32 (fld (d.reg pgRender 0x070) 0 32)
      mute := d.spkSet 0x100
      bypass := d.spkSet 0x140 } }
    ((d.inc pgRender 0x078).bump pgRender 0x0A0 d.tailBytes, fun s => ((all[s]?).map (fun e => e.2.1)).getD zeroBlock)

/-- The page is READY, and ACTIVE while the renderer is RUNNING (R466). -/
def Dev.renderState (d : Dev) : PState := if d.render.running then .active else .ready

/-- RENDER registers read at the time of the read. -/
def Dev.renderRead (d : Dev) (off : Nat) : Option Word :=
  match off with
  | 0x048 => some (fmk 0 2 d.renderCode ||| fmk 2 2 (d.bankCode 0) ||| fmk 4 2 (d.bankCode 1) ||| fmk 8 1 (d.render.selected.getD 0) |||
      (match d.render.selected with
        | some n => fmk 16 10 (d.spkBank n).spks.length ||| fmk 32 11 (d.spkBank n).tris.length
        | none => 0) |||
      fmk 48 11 (d.render.objs.filter (fun e => e.2.set.enable)).length)
  | 0x050 => some (fmk 0 23 d.tapsUsed ||| fmk 32 23 (4194304 - d.tapsUsed))
  | _ => none

end Sys2Proof.Machine
end

