-- ==== Sys2Proof/Machine/GarnetIsa.lean ====
section
/-! DEFINITION. The instruction set of Garnet cores (R473 to R495): bundles, slots, addressing, loops, pipeline and interrupts. -/

namespace Sys2Proof.Machine
open Sys2Proof

/-! ### Fields and legality (R479 to R481) -/

/-- Bits of a bundle or a slot. -/
def nb (v lo w : Nat) : Nat := v / 2 ^ lo % 2 ^ w

/-- The slots of a format 0b00 bundle. -/
def mBits (b : Word) : Nat := fld b 42 20
def aBits (b : Word) : Nat := fld b 20 22
def lBits (b : Word) : Nat := fld b 0 20

/-- An M slot breaks no rule (Table 10-5). -/
def mOk (m : Nat) : Bool :=
  let op := nb m 15 5
  let pair := op == 4 || op == 5 || op == 6 || op == 7
  decide (op ≤ 0x0B) && (op == 0x0B || nb m 0 5 == 0) && (!pair || (nb m 13 1 == 0 && nb m 9 1 == 0 && (op == 7 || nb m 5 1 == 0)))

/-- An A slot breaks no rule (Table 10-6). -/
def aOk (a : Nat) : Bool :=
  let op := nb a 16 6
  decide (op ≤ 0x27) && op != 0x16 && !(decide (0x1C ≤ op) && decide (op ≤ 0x1F)) && !(op == 0x20 && decide (12 ≤ nb a 12 4)) &&
  !((op == 0x1A || op == 0x1B) && nb a 8 4 == 15) && !(op == 0x24 && (nb a 14 2 == 3 || nb a 0 10 == 0))

/-- An L slot breaks no rule (Tables 10-7, 10-8, R481). -/
def lOk (l : Nat) : Bool :=
  let op := nb l 15 5
  if op = 0 then true
  else if op = 4 ∨ op = 5 then nb l 9 3 != nb l 3 3 && nb l 0 3 == 0
  else decide (op ≤ 6) && decide (nb l 5 3 < 5) && !(op == 3 && nb l 13 2 != 0)

/-- A bundle breaks none of R479 to R481. -/
def bundleOk (b : Word) : Bool :=
  match fld b 62 2 with
  | 0 => mOk (mBits b) && aOk (aBits b) && lOk (lBits b)
  | 1 => fld b 56 2 != 3 && fld b 48 3 == 0
  | _ => false

/-! ### Registers -/

/-- A D register; an address register by its AREG code (Table 10-4). -/
def Core.d (c : Core) (i : Nat) : Word := nthD 0 c.dr i
def Core.areg (c : Core) (k : Nat) : Nat := nthD 0 (if k < 8 then c.pr else if k < 16 then c.mr else if k < 24 then c.lr else c.br) (k % 8)
def aregDest (k : Nat) : Dest := if k < 8 then .p k else if k < 16 then .m (k - 8) else if k < 24 then .l (k - 16) else .b (k - 24)

/-- A special register by its code. -/
def Core.spec (c : Core) (k : Nat) : Nat :=
  match k with
  | 0 => c.status.toNat
  | 1 => c.ra
  | 2 => nthD 0 c.lc 0
  | 3 => nthD 0 c.lc 1
  | 4 => nthD 0 c.lc 2
  | 5 => nthD 0 c.ls 0
  | 6 => nthD 0 c.ls 1
  | 7 => nthD 0 c.ls 2
  | 8 => nthD 0 c.le 0
  | 9 => nthD 0 c.le 1
  | 10 => nthD 0 c.le 2
  | 11 => c.ipc
  | 12 => c.istatus.toNat
  | 13 => c.vecBase
  | _ => c.imask

/-- STATUS with IE held at 0 while an insert is in service, reserved bits 0 (Table 10-3). -/
def Core.maskStatus (c : Core) (v : Nat) : BitVec 16 := BitVec.ofNat 16 (if c.serving.isSome then v % 2048 else v % 4096)

/-- A special register written. -/
def Core.setSpec (c : Core) (k v : Nat) : Core :=
  match k with
  | 0 => { c with status := c.maskStatus v }
  | 1 => { c with ra := v % 1024 }
  | 2 => { c with lc := setNth c.lc 0 (v % 4294967296) }
  | 3 => { c with lc := setNth c.lc 1 (v % 4294967296) }
  | 4 => { c with lc := setNth c.lc 2 (v % 4294967296) }
  | 5 => { c with ls := setNth c.ls 0 (v % 1024) }
  | 6 => { c with ls := setNth c.ls 1 (v % 1024) }
  | 7 => { c with ls := setNth c.ls 2 (v % 1024) }
  | 8 => { c with le := setNth c.le 0 (v % 1024) }
  | 9 => { c with le := setNth c.le 1 (v % 1024) }
  | 10 => { c with le := setNth c.le 2 (v % 1024) }
  | 11 => { c with ipc := v % 1024 }
  | 12 => { c with istatus := BitVec.ofNat 16 (v % 4096) }
  | 13 => { c with vecBase := v % 1024 / 16 * 16 }
  | _ => { c with imask := v % 8 }

/-- A result lands. -/
def Core.land (c : Core) (x : Land) : Core :=
  match x.dest with
  | .d i => { c with dr := setNth c.dr i (BitVec.ofInt 64 x.value) }
  | .acc i => { c with acc := setNth c.acc i x.value }
  | .out i => { c with accOut := setNth c.accOut i x.value }
  | .p i => { c with pr := setNth c.pr i (wrapTo 16 x.value) }
  | .m i => { c with mr := setNth c.mr i (wrapTo 16 x.value) }
  | .l i => { c with lr := setNth c.lr i (wrapTo 16 x.value) }
  | .b i => { c with br := setNth c.br i (wrapTo 16 x.value) }
  | .spec k => c.setSpec k (wrapTo 64 x.value)
  | .flags => { c with status := (c.status &&& 0xFFF0) ||| BitVec.ofNat 16 (x.value.toNat % 16) }
  | .sat => { c with status := c.status ||| 0x0010 }

/-- Results due before the next bundle land, a load's after the others (R488); the rest come one bundle nearer. -/
def Core.landDue (c : Core) : Core :=
  let due := c.lands.filter (fun x => x.left == 0)
  let rest := (c.lands.filter (fun x => x.left != 0)).map (fun x => { x with left := x.left - 1 })
  ((due.filter (fun x => !x.load)) ++ due.filter (fun x => x.load)).foldl Core.land { c with lands := rest }

/-- Every pending result lands, in the order of its bundle (Table 10-10 step 2). -/
def Core.landAll (c : Core) : Core := [0, 1, 2, 3].foldl (fun c _ => c.landDue) c

/-! ### Arithmetic (R476 to R478) -/

/-- An accumulator held to 144 bits, and whether it saturated (R477). -/
def accClamp (x : Int) : Int := clampI (-(2 ^ 143 : Nat)) ((2 ^ 143 : Nat) - 1) x

/-- The store of R478: shift held to ±8. -/
def accStore (acc shift : Int) (rnd : Bool) : Int × Bool :=
  let s := clampI (-8) 8 shift
  let v := (acc + (if rnd then (2 ^ (59 - s).toNat : Nat) else 0)) / (2 ^ (60 - s).toNat : Nat)
  (clampI (-9223372036854775808) 9223372036854775807 v, decide (v < -9223372036854775808 ∨ 9223372036854775807 < v))

/-- STATUS fields. -/
def Core.rnd (c : Core) : Bool := c.status.getLsbD 5
def Core.shf (c : Core) : Int := signed 5 (c.status.toNat / 64 % 32)
def Core.ie (c : Core) : Bool := c.status.getLsbD 11

/-- A saturated 64-bit result and whether it saturated. -/
def sat64 (x : Int) : Int × Bool := (clampI (-9223372036854775808) 9223372036854775807 x, decide (x < -9223372036854775808 ∨ 9223372036854775807 < x))

/-- A write of an accumulator: for later M operations at once, for MVA, STA and ADDA three bundles later (Table 10-9). -/
def accLands (i : Nat) (x : Int) : List Land :=
  let v := accClamp x
  [⟨0, .acc i, v, false⟩, ⟨3, .out i, v, false⟩] ++ (if v = x then [] else [⟨0, .sat, 1, false⟩])

/-- The M slot's results. -/
def mSlot (c : Core) (m : Nat) : List Land :=
  let op := nb m 15 5
  let a := nb m 13 2
  let x := nb m 9 4
  let y := nb m 5 4
  let dv (i : Nat) : Int := (c.d i).toInt
  let av (i : Nat) : Int := nthD 0 c.acc i
  let p := a / 2 * 2
  match op with
  | 0x01 => accLands a (dv x * dv y)
  | 0x02 => accLands a (av a + dv x * dv y)
  | 0x03 => accLands a (av a - dv x * dv y)
  | 0x04 => accLands p (dv x * dv y) ++ accLands (p + 1) (dv (x + 1) * dv (y + 1))
  | 0x05 => accLands p (av p + dv x * dv y) ++ accLands (p + 1) (av (p + 1) + dv (x + 1) * dv (y + 1))
  | 0x06 => accLands p (av p - dv x * dv y) ++ accLands (p + 1) (av (p + 1) - dv (x + 1) * dv (y + 1))
  | 0x07 => accLands p (av p + dv x * dv y) ++ accLands (p + 1) (av (p + 1) + dv (x + 1) * dv y)
  | 0x08 => accLands a 0
  | 0x09 => accLands a (av a + nthD 0 c.accOut (x % 4))
  | 0x0A => accLands a (dv x * (2 ^ 60 : Nat))
  | 0x0B =>
    let k := signed 5 (nb m 0 5)
    accLands a (if 0 ≤ k then av a * (2 ^ k.toNat : Nat) else av a / (2 ^ (-k).toNat : Nat))
  | _ => []

/-- What the A slot does beyond its results. -/
structure AOut where
  lands : List Land := []
  /-- A branch: its target and 0 BR or CALL, 1 RET, 2 RTI. -/
  jump : Option (Int × Nat) := none
  call : Bool := false
  loop : Option (Nat × Nat × Nat) := none
  swi : Bool := false
  ie : Option Bool := none
  deriving DecidableEq, Repr

/-- A 64-bit result of the A slot, usable at the next bundle. -/
def dLand (z : Nat) (v : Int) : List Land := [⟨0, .d z, v, false⟩]

/-- A saturating one. -/
def sLand (z : Nat) (x : Int) : List Land := let r := sat64 x; dLand z r.1 ++ (if r.2 then [⟨0, .sat, 1, false⟩] else [])

/-- A branch condition by STATUS. -/
def Core.cond (c : Core) (k : Nat) : Bool :=
  let z := c.status.getLsbD 0
  let n := c.status.getLsbD 1
  let cc := c.status.getLsbD 2
  let v := c.status.getLsbD 3
  match k with
  | 0 => true
  | 1 => z
  | 2 => !z
  | 3 => n != v
  | 4 => n == v
  | 5 => z || n != v
  | 6 => !z && n == v
  | 7 => cc
  | 8 => !cc
  | 9 => v
  | 10 => !v
  | _ => c.status.getLsbD 4

/-- CMP's flags: Z, N, C and V of x − y. -/
def cmpFlags (x y : Word) : Nat :=
  let r := x - y
  let v := decide (x.toInt - y.toInt ≠ r.toInt)
  (if x = y then 1 else 0) + (if r.getLsbD 63 then 2 else 0) + (if x.toNat < y.toNat then 4 else 0) + (if v then 8 else 0)

/-- A left shift by a count, 0 from 64 on; an arithmetic right shift. -/
def shlWord (x : Word) (n : Nat) : Word := if 64 ≤ n then 0 else x <<< n
def shraInt (x : Int) (n : Nat) : Int := x / (2 ^ min n 64 : Nat)

/-- The A slot. -/
def aSlot (c : Core) (a : Nat) : AOut :=
  let op := nb a 16 6
  let z := nb a 12 4
  let x := c.d (nb a 8 4)
  let y := c.d (nb a 4 4)
  let n := y.toNat % 128
  let k := nb a 2 6
  match op with
  | 0x01 => { lands := dLand z (x + y).toInt }
  | 0x02 => { lands := dLand z (x - y).toInt }
  | 0x03 => { lands := sLand z (x.toInt + y.toInt) }
  | 0x04 => { lands := sLand z (x.toInt - y.toInt) }
  | 0x05 => { lands := dLand z (x &&& y).toInt }
  | 0x06 => { lands := dLand z (x ||| y).toInt }
  | 0x07 => { lands := dLand z (x ^^^ y).toInt }
  | 0x08 => { lands := sLand z (-x.toInt) }
  | 0x09 => { lands := sLand z (x.toInt.natAbs : Int) }
  | 0x0A => { lands := dLand z (min x.toInt y.toInt) }
  | 0x0B => { lands := dLand z (max x.toInt y.toInt) }
  | 0x0C => { lands := dLand z (shlWord x n).toInt }
  | 0x0D => { lands := dLand z (shraInt x.toInt n) }
  | 0x0E => { lands := dLand z (if 64 ≤ n then 0 else (x >>> n).toInt) }
  | 0x0F => { lands := sLand z (x.toInt * (2 ^ n : Nat)) }
  | 0x10 => { lands := dLand z x.toInt }
  | 0x11 => { lands := dLand z (signed 8 (nb a 4 8)) }
  | 0x12 => { lands := dLand z (shlWord x k).toInt }
  | 0x13 => { lands := dLand z (shraInt x.toInt k) }
  | 0x14 => { lands := dLand z (x >>> k).toInt }
  | 0x15 => { lands := [⟨0, .flags, (cmpFlags x y : Int), false⟩] }
  | 0x17 =>
    let r := accStore (nthD 0 c.accOut (nb a 8 2)) (signed 5 (nb a 3 5)) (nb a 2 1 == 1)
    { lands := [⟨1, .d z, r.1, false⟩] ++ (if r.2 then [⟨1, .sat, 1, false⟩] else []) }
  | 0x18 => { lands := dLand z (c.areg (nb a 7 5) : Int) }
  | 0x19 => { lands := [⟨1, aregDest (nb a 11 5), ((c.d (nb a 7 4)).toNat % 65536 : Int), false⟩] }
  | 0x1A => { lands := dLand z (c.spec (nb a 8 4) : Int) }
  | 0x1B => { lands := [⟨1, .spec (nb a 8 4), (y.toNat : Int), false⟩] }
  | 0x20 => if c.cond z then { jump := some ((c.pc : Int) + signed 11 (nb a 0 11), 0) } else {}
  | 0x21 => { jump := some ((c.pc : Int) + signed 11 (nb a 0 11), 0), call := true }
  | 0x22 => { jump := some ((c.ra : Int), 1) }
  | 0x23 => { jump := some ((c.ipc : Int), 2) }
  | 0x24 => { loop := some (nb a 14 2, (c.d (nb a 10 4)).toNat % 4294967296, nb a 0 10) }
  | 0x25 => { swi := true }
  | 0x26 => { ie := some true }
  | 0x27 => { ie := some false }
  | _ => {}

/-- A BR, CALL, RET or RTI in the last three bundles of an active loop body (R486). -/
def loopRule (c : Core) (a : Nat) : Bool :=
  let op := nb a 16 6
  decide (0x20 ≤ op) && decide (op ≤ 0x23) &&
  [0, 1, 2].any (fun n => nthD 0 c.lc n != 0 && decide (nthD 0 c.le n ≤ c.pc + 2) && decide (c.pc ≤ nthD 0 c.le n))

/-! ### Addressing (R480 to R483) -/

/-- The low j bits reversed. -/
def revBits (j x : Nat) : Nat := sumN ((List.range j).map (fun i => x / 2 ^ i % 2 * 2 ^ (j - 1 - i)))

/-- A pointer updated by m, circular when its length is not 0 (R482). -/
def Core.bump (c : Core) (n : Nat) (m : Int) : Int :=
  let p : Int := (nthD 0 c.pr n : Nat)
  let l := nthD 0 c.lr n
  let b : Int := (nthD 0 c.br n : Nat)
  if l = 0 then p + m else b + (p + m - b) % (l : Int)

/-- The bit-reversed update (R483): none when the length is no power of two up to 4,096. -/
def Core.revUpdate (c : Core) (n : Nat) : Option Int :=
  let l := nthD 0 c.lr n
  match (List.range 13).find? (fun j => l == 2 ^ j) with
  | none => none
  | some j =>
    let p : Int := (nthD 0 c.pr n : Nat)
    let b : Int := (nthD 0 c.br n : Nat)
    some (b + ((revBits j ((revBits j (wrapTo j (p - b))) + revBits j (nthD 0 c.mr n % 2 ^ j)) % 2 ^ j : Nat) : Int))

/-- An access: its address, the word stored, and the D register loaded. -/
structure Access where
  addr : Nat
  store : Option Word
  load : Nat
  deriving DecidableEq, Repr

/-- The L slot: accesses and results; none when it traps with ILLEGAL. -/
def lSlot (c : Core) (l : Nat) : Option (List Access × List Land) :=
  let op := nb l 15 5
  let mv (n : Nat) : Int := signed 16 (nthD 0 c.mr n)
  if op = 0 then some ([], [])
  else if op = 4 ∨ op = 5 then
    let p1 := nb l 9 3
    let p2 := nb l 3 3
    let r2 := 8 + nb l 6 3
    let second : Access := if op = 4 then ⟨nthD 0 c.pr p2, none, r2⟩ else ⟨nthD 0 c.pr p2, some (c.d r2), 0⟩
    some ([⟨nthD 0 c.pr p1, none, nb l 12 3⟩, second], [⟨0, .p p1, c.bump p1 (mv p1), false⟩, ⟨0, .p p2, c.bump p2 (mv p2), false⟩])
  else
    let r := nb l 11 4
    let n := nb l 8 3
    let mode := nb l 5 3
    let arg := nb l 0 5
    let p := nthD 0 c.pr n
    let addr := if mode = 1 then (p + arg) % 65536 else p
    let upd : Option (List Land) :=
      match mode with
      | 2 => some [⟨0, .p n, c.bump n (signed 5 arg), false⟩]
      | 3 => some [⟨0, .p n, c.bump n (mv (arg % 8)), false⟩]
      | 4 => (c.revUpdate n).map (fun v => [⟨0, .p n, v, false⟩])
      | _ => some []
    match upd with
    | none => none
    | some u =>
      match op with
      | 1 => some ([⟨addr, none, r⟩], u)
      | 2 => some ([⟨addr, some (c.d r), 0⟩], u)
      | 3 =>
        let v := accStore (nthD 0 c.accOut (r % 4)) c.shf c.rnd
        some ([⟨addr, some (BitVec.ofInt 64 v.1), 0⟩], u ++ (if v.2 then [⟨0, .sat, 1, false⟩] else []))
      | _ => some ([], u)

/-! ### The data space (R473, R474, Table 10-1) -/

/-- What an address is to a customer core. -/
inductive Region where
  | data | param | item | coef | port | bad
  deriving DecidableEq, Repr

/-- The region of an address; a task has neither audio buffers nor PARAM (R514). -/
def regionOf (task : Bool) (a : Nat) : Region :=
  if a ≤ 0x0BFF then .data
  else if a ≤ 0x0DFF then (if task then .bad else .data)
  else if a ≤ 0x0E3F then (if task then .bad else .param)
  else if a ≤ 0x0E43 then .item
  else if 0x4000 ≤ a ∧ a ≤ 0x7FFF then .coef
  else if 0xF000 ≤ a ∧ a ≤ 0xF0FF then .port
  else .bad

/-- The trap code of a port access, 0 when the Access column allows it (R511, Table 10-11). -/
def portTrap (task isMeta : Bool) (a : Nat) (store : Bool) : Nat :=
  let o := a - 0xF000
  let ro := o == 0 || o == 6 || o == 0x20
  let wo := o == 1 || o == 2 || o == 4 || o == 5 || o == 8 || o == 0x10 || (decide (0x11 ≤ o) && decide (o ≤ 0x18)) || o == 0x1F
  let mine := if o == 0x20 then !task else if decide (0x10 ≤ o) then !task && isMeta else task
  if !(ro || wo) || !mine || (ro && store) then 4 else 0

/-- The trap code of an access, 0 for none. -/
def accessTrap (task isMeta : Bool) (x : Access) : Nat :=
  match regionOf task x.addr with
  | .data => 0
  | .param => if x.store.isSome then 3 else 0
  | .item => if x.store.isSome then 3 else 0
  | .coef => if x.store.isSome then 3 else 0
  | .port => portTrap task isMeta x.addr x.store.isSome
  | .bad => 2

/-! ### Loops (R484, R485) -/

/-- After the bundle at the end of a loop: levels 2, 1 and 0 in order; the counts and the next bundle. -/
def loopBack (c : Core) : List Nat → Core × Option Nat
  | [] => (c, none)
  | n :: t =>
    if nthD 0 c.lc n ≠ 0 ∧ nthD 0 c.le n = c.pc then
      let c' := { c with lc := setNth c.lc n (nthD 0 c.lc n - 1) }
      if nthD 0 c'.lc n ≠ 0 then (c', some (nthD 0 c.ls n)) else loopBack c' t
    else loopBack c t

/-- The bundle after the one just issued: loops, then a branch whose delay slots have issued. -/
def Core.advance (c : Core) (a : AOut) : Core :=
  let back := loopBack c [2, 1, 0]
  let next := back.2.getD (c.pc + 1)
  let c := back.1
  let r : Core × Nat := match a.loop with
    | some (n, count, stop) =>
      let le := (c.pc + stop) % 1024
      ({ c with lc := setNth c.lc n count, ls := setNth c.ls n ((c.pc + 1) % 1024), le := setNth c.le n le }, if count = 0 then le + 1 else next)
    | none => (c, next)
  let c := r.1
  match a.jump with
  | some (t, k) =>
    let c := if a.call then { c with ra := (c.pc + 3) % 1024, depth := c.depth + 1 } else c
    { c with pc := r.2, branch := some (2, wrapTo 16 t, k) }
  | none => match c.branch with
    | some (n, t, k) =>
      if n ≤ 1 then
        let ret := k == 1 && c.serving.isSome && c.depth == 0
        { c with
          pc := t
          branch := none
          rti := c.rti || k == 2
          depth := if k = 1 then c.depth - 1 else c.depth
          ended := if ret then 1 else c.ended }
      else { c with pc := r.2, branch := some (n - 1, t, k) }
    | none => { c with pc := r.2 }

/-- Format 0b01: an immediate into a D register or an address register. -/
def immLands (c : Core) (b : Word) : List Land :=
  let z := fld b 58 4
  let imm := fld b 0 48
  match fld b 56 2 with
  | 0 => dLand z (signed 48 imm)
  | 1 => dLand z (setFld (c.d z) 48 16 (imm % 65536)).toInt
  | _ => [⟨1, aregDest (fld b 51 5), ((imm % 65536 : Nat) : Int), false⟩]

end Sys2Proof.Machine
end

