-- ==== Sys2Proof/Machine/Garnet.lean ====
section
/-! DEFINITION. Garnet (chapter 10): cores, insert calls, tasks, images, inserts, moves of clusters and the GARNET page. -/

namespace Sys2Proof.Machine
open Sys2Proof

/-! ### Units and cores -/

/-- The unit that serves a logical cluster, and the cluster a unit serves (Table 10-19). -/
def Dev.gaUnit (d : Dev) (l : Nat) : Nat := nthD 99 d.garnet.map l
def Dev.gaLogical (d : Dev) (p : Nat) : Option Nat := d.garnet.map.findIdx? (fun u => u == p)

/-- A GARNET event on the page of a unit (R522). -/
def Dev.gaEvent (d : Dev) (p b d2 d3 : Nat) : Dev := if p < 33 then d.raise (pgGarnet p) b (0x080 + p) (0x0801 + b) (fmk 0 64 d2) (fmk 0 64 d3) else d

/-- A counter of the unit that did the work. -/
def Dev.gaCount (d : Dev) (p off n : Nat) : Dev := if p < 33 then d.bump (pgGarnet p) off n else d

/-- The open inserts of a core. -/
def Dev.coreInserts (d : Dev) (k : Nat) : List (Nat × Insert) := d.inserts.filter (fun e => 16 * e.2.cluster + e.2.core == k)

/-- Images, and their state code (R497). -/
def Dev.image (d : Dev) (i : Nat) : Image := tabGetD {} d.garnet.images i
def Dev.imageCode (d : Dev) (i : Nat) : Nat :=
  if !(d.image i).loaded then 0
  else if d.inserts.any (fun e => e.2.image == i) || d.garnet.cores.any (fun e => e.2.task && e.2.taskImage == i) then 2 else 1

/-- The state code of a core (Table 10-18). -/
def Dev.coreCode (d : Dev) (k : Nat) : Nat :=
  if k < 384 then 1 else if (d.gcore k).task then 3 else if (d.coreInserts k).isEmpty then 0 else 2

/-- The image of the program in service. -/
def Dev.coreImage (d : Dev) (k : Nat) : Image :=
  let c := d.gcore k
  match c.serving with
  | some n => d.image (d.ins n).image
  | none => d.image c.taskImage

/-- A word of the coefficient memory of a cluster. -/
def Dev.coefWord (d : Dev) (cluster a : Nat) : Word := tabGetD 0 d.garnet.coef (16384 * cluster + a)

/-! ### The end of a call or task (R495, R496, R503 to R508) -/

/-- The OUT buffer. -/
def Core.outBlock (c : Core) : List (List Int) := (List.range 8).map (fun ch => (List.range 32).map (fun i => (tabGetD 0 c.mem (0x0D00 + 32 * ch + i)).toInt))

/-- Detail word 3 of an event of a core (R522). -/
def coreDetail (k code pc : Nat) : Nat := k % 16 + code * 256 + pc % 1024 * 65536

/-- A call ends: 1 by RET, 2 by its budget, 3 by a trap. -/
def Dev.finishCall (d : Dev) (k how : Nat) : Dev :=
  let c := d.gcore k
  match c.serving with
  | none => d
  | some n =>
    let x := d.ins n
    let u := d.gaUnit (k / 16)
    let sat := c.status.getLsbD 4
    let tell := sat && !x.satTold
    let d := d.setGcore k { c with serving := none, lands := [], branch := none, ended := how, lastSat := sat }
    let d := d.setIns n { x with
      state := if how = 3 then .faulted else x.state
      first := false
      overrun := how == 2
      paramChanged := false
      coefChanged := false
      satTold := x.satTold || sat
      lastBundles := c.issued
      out := some (if how = 1 then c.outBlock else x.input)
      due := false }
    let d := if how = 2 then (d.gaCount u 0x070 1).gaEvent u 0 n (coreDetail k 0 c.pc) else d
    let d := if sat then d.gaCount u 0x080 1 else d
    if tell then d.gaEvent u 2 n (coreDetail k 0 c.pc) else d

/-- A task leaves its core, its item in service completed with a status: ABORTED by TASK_STOP, FAULTED by a trap (R496, R517). -/
def Dev.endTask (d : Dev) (k : Nat) (st : Status) : Dev :=
  let d := d.completeItem k st
  let c := d.gcore k
  let d := match c.fault with | some id => d.closeFault id 3 | none => d
  let x := d.domain c.domain
  let d := d.setDomain c.domain { x with bound := x.bound.filter (fun j => j != k) }
  d.setGcore k { trapCode := c.trapCode, trapPc := c.trapPc, lastSat := c.lastSat, mem := c.mem }

/-- A trap: the core stops at the bundle, and its call or task ends (R495, R496). -/
def Dev.trapCore (d : Dev) (k code : Nat) : Dev :=
  let c := d.gcore k
  let u := d.gaUnit (k / 16)
  let d := d.setGcore k { c with trapCode := code, trapPc := c.pc % 1024, lands := [], branch := none }
  let d := (d.gaCount u 0x078 1).gaEvent u 1 (c.serving.getD 0x1FF) (coreDetail k code c.pc)
  if c.serving.isSome then d.finishCall k 3 else if c.task then d.endTask k .faulted else d

/-! ### Ports (Table 10-11) -/

/-- The item whose four words stand at a data-memory address; none when an address lies outside it. -/
def Core.itemAt (c : Core) (a : Nat) : Option Item :=
  if 0x0BFF < a + 3 then none
  else
    let w (i : Nat) : Word := tabGetD 0 c.mem (a + i)
    some ⟨fld (w 0) 0 16, fld (w 0) 16 4, fld (w 0) 24 1, fld (w 0) 32 16, 0, w 1, w 2, w 3⟩

/-- The trap code of a DISP_PUT, or 100 when it waits for space (R524, R706). -/
def Dev.putTrap (d : Dev) (c : Core) (v : Word) : Nat :=
  match c.itemAt (v.toNat % 65536) with
  | none => 2
  | some i =>
    if i.domain < 8192 ∨ (i.flags = 1 ∧ d.now + 60 * secT < d.itemTime i) then 4
    else if 64 ≤ c.puts then 7
    else if d.readyFits [i] && d.delayFits [i] then 0 else 100

/-- DISP_PUT: held while an item is in service, else submitted (R705). -/
def Dev.putItem (d : Dev) (k : Nat) (v : Word) : Dev :=
  let c := d.gcore k
  match c.itemAt (v.toNat % 65536) with
  | none => d
  | some i =>
    let d := d.setGcore k { c with puts := c.puts + 1 }
    match c.item with
    | none => d.acceptItem i
    | some a =>
      let x := d.domain c.domain
      d.setDomain c.domain { x with service := x.service.map (fun s => if s.core = k ∧ s.arrival = a ∧ s.done = false then { s with held := s.held ++ [i] } else s) }

/-- A metadata post is good: its selected fields lie in Table 9-5 (R512, R513). -/
def metaOk (mask : Nat) (f : List Word) : Bool :=
  let w (i : Nat) : Word := nthD 0 f i
  let sel (b : Nat) : Bool := mask / 2 ^ b % 2 == 1
  (!sel 3 || gainOk (signed 32 (fld (w 3) 0 32))) && (!sel 4 || decide (fld (w 4) 0 32 ≤ 960000)) && (!sel 5 || decide (fld (w 5) 0 16 ≤ 36000)) &&
  (!sel 8 || decide (fld (w 5) 48 16 ≤ 18000)) && (!sel 10 || decide (fld (w 7) 0 32 < 16))

/-- META_POST (R435, R512, R513). -/
def Dev.metaPost (d : Dev) (k : Nat) : Dev :=
  let c := d.gcore k
  let u := d.gaUnit (k / 16)
  let d := d.setGcore k { c with posts := c.posts + 1 }
  if metaOk (c.metaId / 65536 % 2048) c.metaFields && decide (c.posts < 64) then
    let p : MetaPost := ⟨d.garnet.block + 2, k / 16, k % 16, c.metaId % 1024, c.metaId / 65536 % 2048, c.metaFields⟩
    ({ d with garnet := { d.garnet with posts := d.garnet.posts ++ [p] } }).gaCount u 0x088 1
  else (d.gaCount u 0x090 1).gaEvent u 3 (c.metaId % 1024) (coreDetail k 0 c.pc)

/-- A store to a port. -/
def Dev.portStore (d : Dev) (k o : Nat) (v : Word) : Dev :=
  let c := d.gcore k
  if o = 1 then d.putItem k v
  else if o = 2 then d.completeItem k .ok
  else if o = 4 then d.setGcore k { c with xferDev := v.toNat / 8 * 8 }
  else if o = 5 then d.setGcore k { c with xferCtl := v.toNat % 16777216 }
  else if o = 8 then d.setGcore k { c with timer := fld v 0 32, timerAt := d.now + fld v 0 32 * 1000 * nsT }
  else if o = 0x10 then d.setGcore k { c with metaId := v.toNat % 134217728 }
  else if o = 0x1F then d.metaPost k
  else d.setGcore k { c with metaFields := setNth c.metaFields (o - 0x11) v }

/-- A word given to a core's DISP_GET: word 0 of the item, with all four at 0x0E40. -/
def Dev.giveItem (d : Dev) (k : Nat) : Option (Dev × Word) :=
  match d.takeItem k with
  | none => none
  | some (d, i) =>
    let c := d.gcore k
    let mem := i.words.zipIdx.foldl (fun m e => tabPutD 0 m (0x0E40 + e.2) e.1) c.mem
    some (d.setGcore k { c with mem := mem }, nthD 0 i.words 0)

/-- A load lands three bundles later (Table 10-9). -/
def Dev.loadLand (d : Dev) (k r : Nat) (v : Word) : Dev := let c := d.gcore k; d.setGcore k { c with lands := c.lands ++ [⟨2, .d r, v.toInt, true⟩] }

/-- A load from a port: DISP_GET and XFER_GO may stall the core (R515, R516). -/
def Dev.portLoad (d : Dev) (k o r : Nat) : Dev :=
  let c := d.gcore k
  if o = 0 then
    let d := d.completeItem k .ok
    match d.giveItem k with
    | some (d, v) => d.loadLand k r v
    | none => d.setGcore k { d.gcore k with stall := 1, stallReg := r }
  else if o = 6 then
    let d := d.setGcore k { c with stall := 2, stallReg := r }
    match d.xferFail c with
    | none => d
    | some e => d.xferFault k e
  else if o = 0x20 then d.loadLand k r (fmk 0 64 c.issued)
  else d.loadLand k r 0

/-- An access performed; a load reads before the bundle's store (R487). -/
def Dev.access (d : Dev) (k : Nat) (x : Access) : Dev :=
  match regionOf (d.gcore k).task x.addr, x.store with
  | .port, some v => d.portStore k (x.addr - 0xF000) v
  | .port, none => d.portLoad k (x.addr - 0xF000) x.load
  | .coef, _ => d.loadLand k x.load (d.coefWord (k / 16) (x.addr - 0x4000))
  | _, some v => let c := d.gcore k; d.setGcore k { c with mem := tabPutD 0 c.mem x.addr v }
  | _, none => d.loadLand k x.load (tabGetD 0 (d.gcore k).mem x.addr)

/-! ### One bundle (R479 to R495) -/

/-- The bundle at the PC; program memory beyond the image reads 0. -/
def Dev.bundleAt (d : Dev) (k : Nat) : Word := nthD 0 (d.coreImage k).bundles (d.gcore k).pc

/-- The core may issue: it serves a call within its budget or a task, and does not stall at a blocking port. -/
def Core.mayIssue (c : Core) : Bool := (c.task || (c.serving.isSome && decide (c.issued < c.budget))) && c.stall != 1 && c.stall != 2

/-- The core after a bundle without traps: results queued, STATUS.IE, SWI, and the next bundle. -/
def Core.retire (c : Core) (lands : List Land) (a : AOut) : Core :=
  let c := { c with
    lands := c.lands ++ lands
    issued := c.issued + 1
    stall := 0
    irq := if a.swi then c.irq ||| 4 else c.irq
    status := match a.ie with
      | some b => if c.serving.isSome then c.status else if b then c.status ||| 0x0800 else c.status &&& 0xF7FF
      | none => c.status }
  c.advance a

/-- BUNDLE_ISSUE; `ecc` is what the memory shows at the bundle's accesses: 1 an error corrected, 2 one that cannot be (R475). -/
def Dev.issueBundle (d : Dev) (k ecc : Nat) : Dev :=
  if !(d.gcore k).mayIssue then d
  else
    let c := (d.gcore k).landDue
    let c := if c.rti then { c with status := c.maskStatus c.istatus.toNat, rti := false } else c
    let b := d.bundleAt k
    let isMeta := match c.serving with | some n => (d.ins n).isMeta | none => false
    let e := d.setGcore k c
    if 1024 ≤ c.pc then e.trapCore k 2
    else if !bundleOk b then e.trapCore k 1
    else
      let u := d.gaUnit (k / 16)
      if fld b 62 2 = 1 then
        let d := (e.setGcore k (c.retire (immLands c b) {})).gaCount u 0x068 1
        if (d.gcore k).ended = 1 ∧ c.serving.isSome then d.finishCall k 1 else d
      else if loopRule c (aBits b) then e.trapCore k 5
      else match lSlot c (lBits b) with
        | none => e.trapCore k 1
        | some (acc, ll) =>
          let traps := (acc.map (accessTrap c.task isMeta)).filter (fun t => t != 0)
          let puts := (acc.filterMap (fun x => if x.addr = 0xF001 then x.store.map (d.putTrap c) else none)).filter (fun t => t != 0)
          let memory := acc.any (fun x => decide (regionOf c.task x.addr ≠ .port))
          if 2 ≤ (acc.filter (fun x => decide (regionOf c.task x.addr = .coef))).length then e.trapCore k 1
          else match traps ++ puts with
            | 100 :: _ => if (d.gcore k).stall = 3 then d else (d.setGcore k { d.gcore k with stall := 3 }).inc pgDispatch 0x080
            | t :: _ => e.trapCore k t
            | [] =>
              if memory && ecc == 2 then e.trapCore k 6 else
              let e := if memory && ecc == 1 then e.gaCount u 0x098 1 else e
              let a := aSlot c (aBits b)
              let d := (e.setGcore k (c.retire (mSlot c (mBits b) ++ a.lands ++ ll) a)).gaCount u 0x068 1
              let d := acc.foldl (fun (d : Dev) x => d.access k x) d
              if (d.gcore k).ended = 1 ∧ (d.gcore k).serving.isSome then d.finishCall k 1 else d

/-- The core a row names: a customer core of clusters 24 to 31. -/
def coreOf (cluster core : Nat) : Option Nat := if 24 ≤ cluster ∧ cluster < 32 ∧ core < 16 then some (16 * cluster + core) else none

/-- The row BUNDLE_ISSUE. -/
def execBundleIssue (cluster core ecc : Nat) (s : State) : Host.Outcome State Fault Refusal :=
  .next (s.actReady (fun d => match coreOf cluster core with | some k => d.issueBundle k ecc | none => d))

/-- DISP_GET_RETURN. -/
def Dev.dispGetReturn (d : Dev) (k : Nat) : Dev :=
  if (d.gcore k).stall != 1 then d
  else match d.giveItem k with
    | some (d, v) => d.unstall k v
    | none => d

/-- The row DISP_GET_RETURN. -/
def execDispGetReturn (cluster core : Nat) (s : State) : Host.Outcome State Fault Refusal :=
  .next (s.actReady (fun d => match coreOf cluster core with | some k => d.dispGetReturn k | none => d))

/-- XFER_DONE: the words move, unless a translation fails now (R516). -/
def Dev.xferDone (d : Dev) (k : Nat) : Dev :=
  let c := d.gcore k
  if c.stall != 2 || c.fault.isSome then d
  else match d.xferFail c with
    | some e => d.xferFault k e
    | none => (d.xferMove k).unstall k 0

/-- The row XFER_DONE. -/
def execXferDone (cluster core : Nat) (s : State) : Host.Outcome State Fault Refusal :=
  .next (s.actReady (fun d => match coreOf cluster core with | some k => d.xferDone k | none => d))

/-- TIMER_INTERRUPT: the period has passed (R489). -/
def Dev.timerInterrupt (d : Dev) (k : Nat) : Dev :=
  let c := d.gcore k
  if !c.task || c.timer == 0 || decide (d.now < c.timerAt) then d
  else d.setGcore k { c with irq := c.irq ||| 2, timerAt := c.timerAt + c.timer * 1000 * nsT }

/-- The row TIMER_INTERRUPT. -/
def execTimerInterrupt (cluster core : Nat) (s : State) : Host.Outcome State Fault Refusal :=
  .next (s.actReady (fun d => match coreOf cluster core with | some k => d.timerInterrupt k | none => d))

/-- INTERRUPT_ENTRY: the lowest pending enabled source, once no delay slot is left to issue (R489, Table 10-10). -/
def Core.interrupt (c : Core) : Core :=
  match [0, 1, 2].find? (fun s => c.irq / 2 ^ s % 2 == 1 && c.imask / 2 ^ s % 2 == 1) with
  | none => c
  | some s =>
    if !c.task || !c.ie || c.branch.isSome || c.stall == 1 || c.stall == 2 then c
    else
      let c := c.landAll
      { c with
        ipc := c.pc % 1024
        istatus := c.status
        status := c.status &&& 0xF7FF
        irq := c.irq - 2 ^ s
        pc := c.vecBase + 4 * s }

/-- The row INTERRUPT_ENTRY. -/
def execInterruptEntry (cluster core : Nat) (s : State) : Host.Outcome State Fault Refusal :=
  .next (s.actReady (fun d => match coreOf cluster core with | some k => d.setGcore k (d.gcore k).interrupt | none => d))

/-! ### Insert calls (R501 to R506) -/

/-- The core at the start of a call (Table 10-15). -/
def Dev.callCore (d : Dev) (n : Nat) : Core :=
  let x := d.ins n
  let k := 16 * x.cluster + x.core
  let c := d.gcore k
  let m := (List.range 256).foldl (fun m i => tabPutD 0 (tabPutD 0 m (0x0D00 + i) 0) (0x0C00 + i) (BitVec.ofInt 64 (samp (nthD [] x.input (i / 32)) (i % 32)))) c.mem
  let m := (List.range 64).foldl (fun m i => tabPutD 0 m (0x0E00 + i) (nthD 0 x.param i)) m
  let d1 := (if x.first then 1 else 0) + (if x.overrun then 2 else 0) + (if x.paramChanged then 4 else 0) + (if x.coefChanged then 8 else 0)
  { dr := [BitVec.ofNat 64 d.garnet.block, BitVec.ofNat 64 d1] ++ List.replicate 14 0
    pr := [0x0C00, 0x0D00, 0x0E00, 0, 0, 0, x.coefBase, x.stateBase]
    pc := nthD 0 (d.image x.image).entries x.entry
    mem := m
    serving := some n
    budget := x.budget
    trapCode := c.trapCode
    trapPc := c.trapPc
    lastSat := c.lastSat }

/-- INSERT_CALL: a due insert starts once its core's earlier inserts and its feeders have finished. -/
def Dev.startCall (d : Dev) (n : Nat) : Dev :=
  let x := d.ins n
  let k := 16 * x.cluster + x.core
  let busy := (d.coreInserts k).any (fun e => e.2.due && decide (e.1 < n)) || (d.gcore k).serving.isSome || (d.feeders n).any (fun m => (d.ins m).due)
  if !x.due || busy then d else d.setGcore k (d.callCore n)

/-- The row INSERT_CALL. -/
def execInsertCall (n : Nat) (s : State) : Host.Outcome State Fault Refusal := .next (s.actReady (fun d => d.startCall n))

/-- INSERT_BUDGET_EXPIRY: the next bundle would pass BUDGET (R505). -/
def Dev.budgetExpiry (d : Dev) (k : Nat) : Dev :=
  let c := d.gcore k
  if c.serving.isSome && decide (c.budget ≤ c.issued) then d.finishCall k 2 else d

/-- The row INSERT_BUDGET_EXPIRY. -/
def execInsertBudgetExpiry (n : Nat) (s : State) : Host.Outcome State Fault Refusal :=
  .next (s.actReady (fun d => let x := d.ins n
    let k := 16 * x.cluster + x.core
    if (d.gcore k).serving = some n then d.budgetExpiry k else d))

/-- A call issued to its end. -/
def Dev.runCall : Nat → Nat → Dev → Dev
  | 0, k, d => d.budgetExpiry k
  | fuel + 1, k, d =>
    if (d.gcore k).serving.isNone then d
    else if (d.gcore k).budget ≤ (d.gcore k).issued then d.budgetExpiry k
    else Dev.runCall fuel k (d.issueBundle k 0)

/-- One insert called and run to its end, or the call in service run on. -/
def Dev.callNow (d : Dev) (n : Nat) : Dev :=
  let x := d.ins n
  if !x.due then d
  else
    let k := 16 * x.cluster + x.core
    let d := if (d.gcore k).serving = some n then d else d.setGcore k (d.callCore n)
    Dev.runCall (x.budget + 1) k d

/-- Every call of the block not finished is run to its end, in ascending insert number; calls that have begun come first on their core. -/
def Dev.settleCalls (d : Dev) : Dev := (d.inserts.map (fun e => e.1)).foldl (fun (d : Dev) n => d.callNow n) d

/-! ### Images (R497) -/

/-- The checks of an image (Table 10-12), in order of offset. -/
def imageChecks (l : List Byte) : List Chk :=
  let n := leAt l 0 2
  let bundles := (List.range n).map (fun i => BitVec.ofNat 64 (leAt l (64 + 8 * i) 8))
  [badDesc 0 (n == 0 || decide (1024 < n)), badDesc 2 (((l.drop 2).take 6).any (· != 0))] ++
  (List.range 8).map (fun e => let v := leAt l (8 + 2 * e) 2; badDesc (8 + 2 * e) (v != 0xFFFF && decide (n ≤ v))) ++
  [badDesc 24 (leAt l 24 4 != crc32 ((l.drop 64).take (8 * n))), badDesc 28 (((l.drop 28).take 36).any (· != 0))] ++
  bundles.zipIdx.map (fun e => badDesc (64 + 8 * e.2) (!bundleOk e.1))

/-- GARNET_LOAD. -/
def garnetLoadSpec : OpSpec where
  opcode := 0x0800
  ownerOnly := true
  args := [(0, 1), (8, 8)]
  capture := fun c d => match capturePinned d 0 (c.arg 8 8) 64 with
    | none => none
    | some h => capturePinned d 0 (c.arg 8 8) (64 + 8 * min 1024 (leAt h 0 2))
  checks := fun c s => [badArg 0 (decide (64 ≤ c.arg 0 1)), conflict 2 (s.dev.imageCode (c.arg 0 1) == 2)]
  dchecks := fun _ l _ => imageChecks l
  run := devRun fun c l _ d =>
    let n := leAt l 0 2
    let i : Image := ⟨true, (List.range 8).map (fun e => leAt l (8 + 2 * e) 2), (List.range n).map (fun i => BitVec.ofNat 64 (leAt l (64 + 8 * i) 8))⟩
    { d with garnet := { d.garnet with images := tabPutD {} d.garnet.images (c.arg 0 1) i } }.okNow n

/-- The row GARNET_LOAD. -/
def execGarnetLoad (c : HostCmd) (s : State) : Host.Outcome State Fault Refusal := .next (runCmd garnetLoadSpec c s)

/-- GARNET_UNLOAD. -/
def garnetUnloadSpec : OpSpec where
  opcode := 0x0801
  ownerOnly := true
  args := [(0, 1)]
  checks := fun c s => [badArg 0 (decide (64 ≤ c.arg 0 1)), conflict (s.dev.imageCode (c.arg 0 1)) (s.dev.imageCode (c.arg 0 1) != 1)]
  run := devRun fun c _ _ d => { d with garnet := { d.garnet with images := tabPutD {} d.garnet.images (c.arg 0 1) {} } }.okNow 0

/-- The row GARNET_UNLOAD. -/
def execGarnetUnload (c : HostCmd) (s : State) : Host.Outcome State Fault Refusal := .next (runCmd garnetUnloadSpec c s)

/-! ### Inserts (R498 to R509) -/

/-- The lowest base at which `n` words fit beside areas already taken; none when no run is left (log entry 31). -/
def placeArea (taken : List (Nat × Nat)) (n limit : Nat) : Option Nat :=
  (0 :: taken.map (fun e => e.1 + e.2)).foldl (fun (best : Option Nat) b =>
    if b + n ≤ limit ∧ taken.all (fun e => decide (b + n ≤ e.1) || decide (e.1 + e.2 ≤ b)) = true then
      (match best with | some x => some (min x b) | none => some b)
    else best) none

/-- State areas of a core and coefficient regions of a cluster. -/
def Dev.stateAreas (d : Dev) (k : Nat) : List (Nat × Nat) := (d.coreInserts k).map (fun e => (e.2.stateBase, e.2.stateWords))
def Dev.coefAreas (d : Dev) (cl : Nat) : List (Nat × Nat) := (d.inserts.filter (fun e => e.2.cluster == cl)).map (fun e => (e.2.coefBase - 0x4000, e.2.coefWords))

/-- The insert that INSERT_OPEN describes (Table 10-14). -/
def openInsert (c : HostCmd) (d : Dev) : Insert :=
  let k := 16 * c.arg 2 1 + c.arg 3 1
  { state := .running
    image := c.arg 1 1
    cluster := c.arg 2 1
    core := c.arg 3 1
    entry := c.arg 4 1
    isMeta := c.arg 5 1 == 1
    stateBase := (placeArea (d.stateAreas k) (c.arg 6 2) 3072).getD 0
    stateWords := c.arg 6 2
    coefBase := 0x4000 + (placeArea (d.coefAreas (c.arg 2 1)) (c.arg 12 2) 16384).getD 0
    coefWords := c.arg 12 2
    budget := c.arg 8 4 }

/-- INSERT_OPEN (R498 to R500). -/
def insertOpenSpec : OpSpec where
  opcode := 0x0802
  ownerOnly := true
  args := [(0, 14)]
  checks := fun c s =>
    let d := s.dev
    let k := 16 * c.arg 2 1 + c.arg 3 1
    let x := openInsert c d
    let core := d.coreInserts k
    [badArg 1 (decide (64 ≤ c.arg 1 1) || d.imageCode (c.arg 1 1) == 0), badArg 2 (decide (c.arg 2 1 < 24 ∨ 32 ≤ c.arg 2 1)), badArg 3 (decide (16 ≤ c.arg 3 1)),
     badArg 4 (decide (8 ≤ c.arg 4 1) || nthD 0xFFFF (d.image (c.arg 1 1)).entries (c.arg 4 1) == 0xFFFF), badArg 5 (decide (2 ≤ c.arg 5 1)),
     badArg 6 (decide (3072 < c.arg 6 2)), badArg 8 (c.arg 8 4 == 0 || decide (300000 < c.arg 8 4)), badArg 12 (decide (16384 < c.arg 12 2)),
     conflict (match (d.ins (c.arg 0 1)).state with | .idle => 0 | .running => 1 | .bypassed => 2 | .faulted => 3) (decide ((d.ins (c.arg 0 1)).state ≠ .idle)),
     noRes ((d.gcore k).task || core.any (fun e => e.2.image != c.arg 1 1) || decide (32 ≤ core.length)),
     noRes ((placeArea (d.stateAreas k) (c.arg 6 2) 3072).isNone || (placeArea (d.coefAreas (c.arg 2 1)) (c.arg 12 2) 16384).isNone),
     noRes (!scheduleOk (insertBy (fun a b => decide (a.1 < b.1)) (c.arg 0 1, x) d.inserts) d.feeders)]
  run := devRun fun c _ _ d =>
    let d := d.settleCalls
    let x := openInsert c d
    let k := 16 * x.cluster + x.core
    let g := d.gcore k
    let d := d.setGcore k { g with mem := (List.range x.stateWords).foldl (fun m i => tabPutD 0 m (x.stateBase + i) 0) g.mem }
    (d.setIns (c.arg 0 1) x, .done .ok 0 (fmk 0 16 x.stateBase ||| fmk 16 16 x.coefBase))

/-- The row INSERT_OPEN. -/
def execInsertOpen (c : HostCmd) (s : State) : Host.Outcome State Fault Refusal := .next (runCmd insertOpenSpec c s)

/-- An insert's state code, and the check that it is in one of some states. -/
def insCode (x : InsState) : Nat := match x with | .idle => 0 | .running => 1 | .bypassed => 2 | .faulted => 3
def insIn (c : HostCmd) (s : State) (ok : List InsState) : Chk :=
  conflict (insCode (s.dev.ins (c.arg 0 1)).state) (!ok.contains (s.dev.ins (c.arg 0 1)).state)
def insOpen : List InsState := [.running, .bypassed, .faulted]

/-- INSERT_CLOSE. -/
def insertCloseSpec : OpSpec where
  opcode := 0x0803
  ownerOnly := true
  args := [(0, 1)]
  checks := fun c s => [insIn c s insOpen]
  run := devRun fun c _ _ d => (d.settleCalls.setIns (c.arg 0 1) {}).okNow 0

/-- The row INSERT_CLOSE. -/
def execInsertClose (c : HostCmd) (s : State) : Host.Outcome State Fault Refusal := .next (runCmd insertCloseSpec c s)

/-- INSERT_PARAM (R504, R508). -/
def insertParamSpec : OpSpec where
  opcode := 0x0804
  ownerOnly := true
  args := [(0, 3), (8, 32)]
  checks := fun c s => [badArg 1 (decide (64 ≤ c.arg 1 1)), badArg 2 (c.arg 2 1 == 0 || decide (4 < c.arg 2 1) || decide (64 < c.arg 1 1 + c.arg 2 1)), insIn c s insOpen]
  run := devRun fun c _ _ d =>
    let d := d.settleCalls
    let x := d.ins (c.arg 0 1)
    let p := (List.range (c.arg 2 1)).foldl (fun p i => setNth p (c.arg 1 1 + i) (BitVec.ofNat 64 (c.arg (8 + 8 * i) 8))) x.param
    (d.setIns (c.arg 0 1) { x with param := p, paramChanged := true, satTold := false }).okNow 0

/-- The row INSERT_PARAM. -/
def execInsertParam (c : HostCmd) (s : State) : Host.Outcome State Fault Refusal := .next (runCmd insertParamSpec c s)

/-- INSERT_COEF (R500). -/
def insertCoefSpec : OpSpec where
  opcode := 0x0805
  ownerOnly := true
  args := [(0, 1), (2, 4), (8, 8)]
  capture := fun c d => capturePinned d 0 (c.arg 8 8) (8 * min 16384 (c.arg 4 2))
  checks := fun c s => [badArg 2 (decide ((s.dev.ins (c.arg 0 1)).coefWords ≤ c.arg 2 2) && decide ((s.dev.ins (c.arg 0 1)).state ≠ .idle)),
    badArg 4 (c.arg 4 2 == 0 || decide (16384 < c.arg 4 2) ||
      (decide ((s.dev.ins (c.arg 0 1)).coefWords < c.arg 2 2 + c.arg 4 2) && decide ((s.dev.ins (c.arg 0 1)).state ≠ .idle))), insIn c s insOpen]
  run := devRun fun c l _ d =>
    let d := d.settleCalls
    let x := d.ins (c.arg 0 1)
    let base := 16384 * x.cluster + (x.coefBase - 0x4000) + c.arg 2 2
    let m := (List.range (c.arg 4 2)).foldl (fun m i => tabPutD 0 m (base + i) (BitVec.ofNat 64 (leAt l (8 * i) 8))) d.garnet.coef
    let d := { d with garnet := { d.garnet with coef := m } }
    (d.setIns (c.arg 0 1) { x with coefChanged := true }).okNow 0

/-- The row INSERT_COEF. -/
def execInsertCoef (c : HostCmd) (s : State) : Host.Outcome State Fault Refusal := .next (runCmd insertCoefSpec c s)

/-- INSERT_BYPASS (R507). -/
def insertBypassSpec : OpSpec where
  opcode := 0x0806
  ownerOnly := true
  args := [(0, 2)]
  checks := fun c s => [badArg 1 (decide (2 ≤ c.arg 1 1)), insIn c s (if c.arg 1 1 = 1 then [.running] else [.bypassed])]
  run := devRun fun c _ _ d =>
    let d := d.settleCalls
    (d.setIns (c.arg 0 1) { d.ins (c.arg 0 1) with state := if c.arg 1 1 = 1 then .bypassed else .running, fading := true }).okNow 0

/-- The row INSERT_BYPASS. -/
def execInsertBypass (c : HostCmd) (s : State) : Host.Outcome State Fault Refusal := .next (runCmd insertBypassSpec c s)

/-- INSERT_RESET (R508, R509). -/
def insertResetSpec : OpSpec where
  opcode := 0x0807
  ownerOnly := true
  args := [(0, 1)]
  checks := fun c s => [insIn c s insOpen]
  run := devRun fun c _ _ d =>
    let d := d.settleCalls
    let x := d.ins (c.arg 0 1)
    let k := 16 * x.cluster + x.core
    let g := d.gcore k
    let d := d.setGcore k { g with mem := (List.range x.stateWords).foldl (fun m i => tabPutD 0 m (x.stateBase + i) 0) g.mem }
    (d.setIns (c.arg 0 1) { x with state := .running, first := true, overrun := false, satTold := false }).okNow 0

/-- The row INSERT_RESET. -/
def execInsertReset (c : HostCmd) (s : State) : Host.Outcome State Fault Refusal := .next (runCmd insertResetSpec c s)

/-- INSERT_QUERY. -/
def insertQuerySpec : OpSpec where
  opcode := 0x0808
  ownerOnly := true
  args := [(0, 1)]
  run := devRun fun c _ _ d => (d, .done .ok (insCode (d.ins (c.arg 0 1)).state) (fmk 0 64 (d.ins (c.arg 0 1)).lastBundles))

/-- The row INSERT_QUERY. -/
def execInsertQuery (c : HostCmd) (s : State) : Host.Outcome State Fault Refusal := .next (runCmd insertQuerySpec c s)

/-! ### Tasks (R514, R517) -/

/-- TASK_START. -/
def taskStartSpec : OpSpec where
  opcode := 0x080A
  ownerOnly := true
  args := [(0, 6)]
  checks := fun c s =>
    let d := s.dev
    let k := 16 * c.arg 0 1 + c.arg 1 1
    [badArg 0 (decide (c.arg 0 1 < 24 ∨ 32 ≤ c.arg 0 1)), badArg 1 (decide (16 ≤ c.arg 1 1)), badArg 2 (decide (64 ≤ c.arg 2 1) || d.imageCode (c.arg 2 1) == 0),
     badArg 3 (decide (8 ≤ c.arg 3 1) || nthD 0xFFFF (d.image (c.arg 2 1)).entries (c.arg 3 1) == 0xFFFF), badArg 4 (decide (c.arg 4 2 < 8192)),
     conflict (d.coreCode k) (d.coreCode k != 0)]
  run := devRun fun c _ _ d =>
    let k := 16 * c.arg 0 1 + c.arg 1 1
    let g := d.gcore k
    let d := d.setGcore k { task := true, taskImage := c.arg 2 1, taskEntry := nthD 0 (d.image (c.arg 2 1)).entries (c.arg 3 1), domain := c.arg 4 2, pc := nthD 0 (d.image (c.arg 2 1)).entries (c.arg 3 1), mem := g.mem,
                            trapCode := g.trapCode, trapPc := g.trapPc, lastSat := g.lastSat, irq := if (d.domain (c.arg 4 2)).waiting.isEmpty then 0 else 1 }
    let x := d.domain (c.arg 4 2)
    (d.setDomain (c.arg 4 2) { x with bound := x.bound ++ [k] }).okNow 0

/-- The row TASK_START. -/
def execTaskStart (c : HostCmd) (s : State) : Host.Outcome State Fault Refusal := .next (runCmd taskStartSpec c s)

/-- TASK_STOP: it ends at the next block boundary. -/
def taskStopSpec : OpSpec where
  opcode := 0x080B
  ownerOnly := true
  args := [(0, 2)]
  checks := fun c s =>
    let k := 16 * c.arg 0 1 + c.arg 1 1
    [badArg 0 (decide (c.arg 0 1 < 24 ∨ 32 ≤ c.arg 0 1)), badArg 1 (decide (16 ≤ c.arg 1 1)), conflict (s.dev.coreCode k) (s.dev.coreCode k != 3)]
  run := devRun fun c _ _ d =>
    let k := 16 * c.arg 0 1 + c.arg 1 1
    (d.setGcore k { d.gcore k with stopping := true }, .later k 0)

/-- The row TASK_STOP. -/
def execTaskStop (c : HostCmd) (s : State) : Host.Outcome State Fault Refusal := .next (runCmd taskStopSpec c s)

/-- Tasks that stop end at a block boundary. -/
def Dev.endTasks (d : Dev) : Dev :=
  (d.garnet.cores.filter (fun e => e.2.stopping)).foldl (fun (d : Dev) e => (d.endTask e.1 .aborted).finish 0x080B e.1 .ok 0 d.short) d

/-! ### Moves of clusters (R518 to R521) -/

/-- A unit is READY and serves nothing, and no move is on its way to it. -/
def Dev.gaSpare (d : Dev) (p : Nat) : Bool :=
  decide ((d.page (pgGarnet p)).state = .ready) && (d.gaLogical p).isNone && !d.garnet.moves.any (fun e => (e.2.map (fun m => m.dst)) == some p)
def Dev.gaSpares (d : Dev) : List Nat := (List.range 33).filter d.gaSpare

/-- The state of a GARNET page: ACTIVE while its unit serves a logical cluster (R518). -/
def Dev.gaState (d : Dev) (p : Nat) : PState :=
  let st := (d.page (pgGarnet p)).state
  if st = .ready ∧ (d.gaLogical p).isSome then .active else st

/-- PAGE_CTRL.ISOLATE of a GARNET page: refused while the unit serves (R519). -/
def Dev.gaIsolate (d : Dev) (p : Nat) (on : Bool) : Dev :=
  let st := (d.page (pgGarnet p)).state
  if on then
    if (d.gaLogical p).isSome then d.err (pgGarnet p) .badState
    else d.onPage (pgGarnet p) (fun h => { h with isolate := true, state := if st = .ready then .isolated else h.state })
  else d.onPage (pgGarnet p) (fun h => { h with isolate := false, state := if st = .isolated then .ready else h.state })

/-- GARNET_SWAP (R520). -/
def garnetSwapSpec : OpSpec where
  opcode := 0x0809
  ownerOnly := true
  args := [(0, 2)]
  checks := fun c s =>
    let d := s.dev
    let p := c.arg 1 1
    [badArg 0 (decide (32 ≤ c.arg 0 1)), badArg 1 (decide (33 ≤ p) && p != 255), conflict (d.gaState p).code (decide (p < 33) && !d.gaSpare p),
     conflict 3 (tabGetD none d.garnet.moves (c.arg 0 1)).isSome, noRes (p == 255 && d.gaSpares.isEmpty)]
  run := devRun fun c _ _ d =>
    let p := if c.arg 1 1 = 255 then d.gaSpares.headD 99 else c.arg 1 1
    let m : GMove := ⟨d.gaUnit (c.arg 0 1), p, blockAt (blockCeil (d.now + msT))⟩
    ({ d with garnet := { d.garnet with moves := tabPutD none d.garnet.moves (c.arg 0 1) (some m) } }, .later (c.arg 0 1) 0)

/-- The row GARNET_SWAP. -/
def execGarnetSwap (c : HostCmd) (s : State) : Host.Outcome State Fault Refusal := .next (runCmd garnetSwapSpec c s)

/-- A cluster passes to a unit; the old unit is ISOLATED, or stays FAULTED, and SWAP_DONE is raised on both pages. -/
def Dev.gaMove (d : Dev) (l p : Nat) : Dev :=
  let old := d.gaUnit l
  let d := { d with garnet := { d.garnet with
    map := setNth d.garnet.map l p
    moves := tabPutD none d.garnet.moves l none
    dead := d.garnet.dead.filter (fun e => e.1 != l) } }
  let d := if old < 33 then d.onPage (pgGarnet old) (fun h => { h with isolate := true, state := if h.state = .faulted then .faulted else .isolated }) else d
  (d.gaEvent old 4 l 0).gaEvent p 4 l 0

/-- GARNET_SWAP_SWITCH: the first block boundary at least 1 ms after the effect. -/
def Dev.gaSwitch (d : Dev) (l : Nat) : Dev :=
  match tabGetD none d.garnet.moves l with
  | none => d
  | some m => if d.now < m.at_ then d else (d.gaMove l m.dst).finish 0x0809 l .ok m.dst d.short

/-- The row GARNET_SWAP_SWITCH. -/
def execGarnetSwapSwitch (l : Nat) (s : State) : Host.Outcome State Fault Refusal := .next (s.actReady (fun d => d.gaSwitch l))

/-- A kernel cluster carries zeros. -/
def Dev.gaDead (d : Dev) (l : Nat) : Bool := d.garnet.dead.any (fun e => e.1 == l)

/-- ECC_FATAL: an uncorrectable error on a KERNEL cluster (R521). -/
def Dev.eccFatal (d : Dev) (p : Nat) : Dev :=
  match d.gaLogical p with
  | none => d
  | some l =>
    if 24 ≤ l then d
    else
      let d := d.onPage (pgGarnet p) (fun h => { h with state := .faulted })
      ({ d with garnet := { d.garnet with dead := if d.gaDead l then d.garnet.dead else d.garnet.dead ++ [(l, d.clk.nextBlock)] } }).gaEvent p 5 l 0

/-- The row ECC_FATAL. -/
def execEccFatal (p : Nat) (s : State) : Host.Outcome State Fault Refusal := .next (s.actReady (fun d => d.eccFatal p))

/-- GARNET_FAULT_MOVE: at the block boundary after the error, the cluster of the FAULTED unit passes to the lowest-numbered spare; after it, only
GARNET_SWAP moves the cluster (R521). -/
def Dev.gaFaultMove (d : Dev) (l : Nat) : Dev :=
  match d.gaSpares with
  | [] => d
  | p :: _ =>
    if l < 32 ∧ d.garnet.dead.any (fun e => e.1 == l && e.2 + 1 == d.clk.nextBlock) = true ∧ d.gaUnit l < 33 ∧
      (d.page (pgGarnet (d.gaUnit l))).state = .faulted then d.gaMove l p else d

/-- The row GARNET_FAULT_MOVE. -/
def execGarnetFaultMove (l : Nat) (s : State) : Host.Outcome State Fault Refusal := .next (s.actReady (fun d => d.gaFaultMove l))

/-! ### Metadata posts and the page -/

/-- A post replaces the selected fields of its object's latest target (R512). -/
def Dev.applyPost (d : Dev) (p : MetaPost) : Dev :=
  let o := d.obj p.obj
  let w (i : Nat) : Word := nthD 0 p.fields i
  let sel (b : Nat) : Bool := p.mask / 2 ^ b % 2 == 1
  let s32 (i : Nat) : Int := signed 32 (fld (w i) 0 32)
  let f := fld (w 7) 0 32
  let pick (b : Nat) (new old : Int) : Int := if sel b then new else old
  d.objChange p.obj {
    num := {
      x := pick 0 (s32 0) o.target.x
      y := pick 1 (s32 1) o.target.y
      z := pick 2 (s32 2) o.target.z
      gain := pick 3 (s32 3) o.target.gain
      spread := pick 5 (fld (w 5) 0 16 : Nat) o.target.spread
      size := pick 6 (fld (w 5) 16 16 : Nat) o.target.size
      dvg := pick 7 (fld (w 5) 32 16 : Nat) o.target.dvg
      dvgAngle := pick 8 (fld (w 5) 48 16 : Nat) o.target.dvgAngle }
    interp := if sel 4 then fld (w 4) 0 32 else o.interp
    set := {
      excl := if sel 9 then fld (w 6) 0 32 else o.set.excl
      enable := if sel 10 then f % 2 == 1 else o.set.enable
      dist := if sel 10 then f / 2 % 2 == 1 else o.set.dist
      snap := if sel 10 then f / 4 % 2 == 1 else o.set.snap
      mute := if sel 10 then f / 8 % 2 == 1 else o.set.mute } }

/-- Posts due at a block boundary, in ascending cluster and core order (R435, R436). -/
def Dev.applyPosts (d : Dev) (j : Nat) : Dev :=
  let due := sortBy (fun (a b : MetaPost) => decide (16 * a.cluster + a.core < 16 * b.cluster + b.core)) (d.garnet.posts.filter (fun p => decide (p.due ≤ j)))
  due.foldl (fun (d : Dev) p => d.applyPost p) { d with garnet := { d.garnet with posts := d.garnet.posts.filter (fun p => !decide (p.due ≤ j)) } }

/-- Bundles a cluster has admitted per block, with 600 per insert (Table 10-18). -/
def Dev.custLoad (d : Dev) (l : Nat) : Nat := sumN ((d.inserts.filter (fun e => e.2.cluster == l)).map (fun e => e.2.budget + 600))

/-- GARNET registers read at the time of the read. -/
def Dev.garnetRead (d : Dev) (p off : Nat) : Option Word :=
  let l := d.gaLogical p
  match off with
  | 0x048 => some (fmk 0 5 (l.getD p) ||| fmkB 5 l.isSome ||| fmkB 6 (decide (24 ≤ l.getD 0)))
  | 0x050 => some (match l with
      | some l => fmk 0 32 (sumN ((List.range 16).map (fun k => d.coreCode (16 * l + k) * 4 ^ k)))
      | none => 0)
  | 0x058 => some (match l with
      | some l => fmk 0 23 (d.custLoad l) ||| fmk 32 9 (d.inserts.filter (fun e => e.2.cluster == l)).length
      | none => 0)
  | _ =>
    if 0x100 ≤ off ∧ off < 0x180 then
      some (match l with
        | some l =>
          let c := d.gcore (16 * l + (off - 0x100) / 8)
          fmk 0 10 c.pc ||| fmk 16 9 (c.serving.getD 0x1FF) ||| fmkB 32 c.lastSat ||| fmk 40 3 c.trapCode ||| fmk 48 10 c.trapPc
        | none => fmk 16 9 0x1FF)
    else none

end Sys2Proof.Machine
end

