-- ==== Sys2Proof/Machine/NetAudio.lean ====
section
/-! DEFINITION. Network audio streams and TDM ports (R395 to R408, R414, R415). -/

namespace Sys2Proof.Machine
open Sys2Proof

/-! ### Network streams (R395 to R402) -/

/-- A network stream descriptor (Table 8-9). -/
def netParse (l : List Byte) : NetDesc :=
  { port := leAt l 0 1
    port2 := leAt l 1 1
    vlan := leAt l 2 2 % 4096
    pcp := leAt l 2 2 / 8192
    dstUdp := leAt l 4 2
    srcUdp := leAt l 6 2
    dstIp := (l.drop 8).take 16
    srcIp := (l.drop 24).take 16
    nextHop := beAt l 40 6
    dscp := leAt l 46 1
    pt := leAt l 47 1
    l24 := leAt l 48 1 == 1
    r96 := leAt l 49 1 == 1
    channels := leAt l 50 1
    async := leBits l 51 1 0 1 == 1
    v6 := leBits l 51 1 1 1 == 1
    ptime := leAt l 52 2
    queue := leAt l 54 2
    ssrc := leAt l 56 4
    tsOff := leAt l 60 4
    dstIp2 := (l.drop 64).take 16
    srcIp2 := (l.drop 80).take 16
    dstUdp2 := leAt l 96 2
    link := leAt l 100 4 }

/-- Bytes of a sample, and bits. -/
def NetDesc.width (x : NetDesc) : Nat := if x.l24 then 24 else 16
def NetDesc.bytes (x : NetDesc) : Nat := x.width / 8

/-- Grid samples per sample of the stream. -/
def NetDesc.ratio (x : NetDesc) : Nat := if x.r96 then 1 else 2

/-- An address as the packet carries it. -/
def NetDesc.ip (x : NetDesc) (a : List Byte) : List Byte := if x.v6 then a else a.take 4

/-- A receive stream, a transmit stream. -/
def Dev.rx (d : Dev) (k : Nat) : NetRx := tabGetD {} d.audio.rx k
def Dev.setRx (d : Dev) (k : Nat) (x : NetRx) : Dev := { d with audio := { d.audio with rx := tabPutD {} d.audio.rx k x } }
def Dev.tx (d : Dev) (k : Nat) : NetTx := tabGetD {} d.audio.tx k
def Dev.setTx (d : Dev) (k : Nat) (x : NetTx) : Dev := { d with audio := { d.audio with tx := tabPutD {} d.audio.tx k x } }

/-- Channels of the OPEN streams of a direction. -/
def Dev.rxChannels (d : Dev) : Nat := sumN ((d.audio.rx.filter (fun e => e.2.opened)).map (fun e => e.2.desc.channels))
def Dev.txChannels (d : Dev) : Nat := sumN ((d.audio.tx.filter (fun e => e.2.opened)).map (fun e => e.2.desc.channels))

/-- The checks of a descriptor (R395, R397, R528; reserved bytes by log entry 23). -/
def netDescChecks (b : List Byte) (tx : Bool) (d : Dev) : List Chk :=
  let x := netParse b
  let times := if x.r96 then [12, 24, 32, 96, 384] else [6, 12, 16, 48, 192]
  [badDesc 0 (decide (8 ≤ x.port)), badDesc 1 (!tx && decide (8 ≤ x.port2) && x.port2 != 255), badDesc 2 (leBits b 2 2 12 1 != 0),
   badDesc 8 (!x.v6 && (x.dstIp.drop 4).any (· != 0)), badDesc 24 (!x.v6 && (x.srcIp.drop 4).any (· != 0)),
   badDesc 46 (tx && decide (64 ≤ x.dscp)), badDesc 47 (decide (128 ≤ x.pt)), badDesc 48 (decide (2 ≤ leAt b 48 1)), badDesc 49 (decide (2 ≤ leAt b 49 1)),
   badDesc 50 (x.channels == 0 || decide (64 < x.channels)), badDesc 51 (decide (4 ≤ leAt b 51 1) || (tx && x.async)),
   badDesc 52 (!times.contains x.ptime || decide (8960 < x.ptime * x.channels * x.bytes)),
   badDesc 54 (tx && (decide (8192 ≤ x.queue) || decide ((d.queue x.queue).bind ≠ .unbound) || (d.queue x.queue).realm != 0)),
   badDesc 98 (leAt b 98 2 != 0), badDesc 100 (!tx && decide (96000 < x.link)), badDesc 104 ((b.drop 104).any (· != 0))]

/-- NET_RX_OPEN. -/
def netRxOpenSpec : OpSpec where
  opcode := 0x0608
  ownerOnly := true
  args := [(0, 1), (8, 8)]
  capture := fun c d => capturePinned d 0 (c.arg 8 8) 128
  checks := fun c s => [badArg 8 (c.arg 8 8 % 64 != 0), conflict 1 (s.dev.rx (c.arg 0 1)).opened]
  dchecks := fun _ l s => netDescChecks l false s.dev ++ [noRes (decide (2048 < s.dev.rxChannels + (netParse l).channels))]
  run := devRun fun c l _ d => (d.setRx (c.arg 0 1) { opened := true, desc := netParse l }).okNow 0

/-- The row NET_RX_OPEN. -/
def execNetRxOpen (c : HostCmd) (s : State) : Host.Outcome State Fault Refusal := .next (runCmd netRxOpenSpec c s)

/-- NET_RX_CLOSE: the stream is realm 0's. -/
def netRxCloseSpec : OpSpec where
  opcode := 0x0609
  ownerOnly := true
  args := [(0, 1)]
  checks := fun c s => [conflict 0 (!(s.dev.rx (c.arg 0 1)).opened)]
  run := devRun fun c _ _ d => (d.setRx (c.arg 0 1) {}).okNow 0

/-- The row NET_RX_CLOSE. -/
def execNetRxClose (c : HostCmd) (s : State) : Host.Outcome State Fault Refusal := .next (runCmd netRxCloseSpec c s)

/-- NET_TX_OPEN: the first packet begins 96 samples after the first block boundary from its effect on (R402, R409). -/
def netTxOpenSpec : OpSpec where
  opcode := 0x060A
  ownerOnly := true
  args := [(0, 1), (8, 8)]
  capture := fun c d => capturePinned d 0 (c.arg 8 8) 128
  checks := fun c s => [badArg 8 (c.arg 8 8 % 64 != 0), conflict 1 (s.dev.tx (c.arg 0 1)).opened]
  dchecks := fun _ l s => netDescChecks l true s.dev ++ [noRes (decide (2048 < s.dev.txChannels + (netParse l).channels))]
  run := devRun fun c l _ d =>
    let x := netParse l
    let n := 32 * blockCeil d.now + 96
    let d := d.bindQueue x.queue .stream (c.arg 0 1) x.port
    (d.setTx (c.arg 0 1) { opened := true, desc := x, start := n / x.ratio }, .done .ok 0 (shortOf (sampleAt n)))

/-- The row NET_TX_OPEN. -/
def execNetTxOpen (c : HostCmd) (s : State) : Host.Outcome State Fault Refusal := .next (runCmd netTxOpenSpec c s)

/-- NET_TX_CLOSE: the queue's binding is released (Table 11-1). -/
def netTxCloseSpec : OpSpec where
  opcode := 0x060B
  ownerOnly := true
  args := [(0, 1)]
  checks := fun c s => [conflict 0 (!(s.dev.tx (c.arg 0 1)).opened)]
  run := devRun fun c _ _ d => ((d.releaseQueue (d.tx (c.arg 0 1)).desc.queue).setTx (c.arg 0 1) {}).okNow 0

/-- The row NET_TX_CLOSE. -/
def execNetTxClose (c : HostCmd) (s : State) : Host.Outcome State Fault Refusal := .next (runCmd netTxCloseSpec c s)

/-- A path of a stream matches a datagram: port, VLAN, destination and source filters, 0 matching any (R398). -/
def NetDesc.path (x : NetDesc) (port vlan : Nat) (u : UdpIn) (p dudp : Nat) (dst src : List Byte) : Bool :=
  p == port && x.vlan == vlan && x.v6 == u.v6 && dudp == u.dport && decide (x.ip dst = u.dst) && (x.srcUdp == 0 || x.srcUdp == u.sport) &&
  (src.all (· == 0) || decide (x.ip src = u.src)) && (x.ssrc == 0 || x.ssrc == beAt u.data 8 4)

/-- The OPEN receive stream that takes a datagram. -/
def Dev.netMatch (d : Dev) (port vlan : Nat) (u : UdpIn) : Option Nat :=
  (d.audio.rx.find? (fun e => let x := e.2.desc
    e.2.opened && (x.path port vlan u x.port x.dstUdp x.dstIp x.srcIp || (x.port2 != 255 && x.path port vlan u x.port2 x.dstUdp2 x.dstIp2 x.srcIp2)))).map (fun e => e.1)

/-- A signed big-endian sample of a payload. -/
def pcmAt (l : List Byte) (bytes i : Nat) : Int := signed (8 * bytes) (beAt l (bytes * i) bytes)

/-- A packet of a receive stream: with two paths the first copy of its sequence number is used; it is placed for play, or dropped as late
(R399, R400). -/
def Dev.netReceive (d : Dev) (k : Nat) (stamp : Time) (data : List Byte) : Dev :=
  let r := d.rx k
  let x := r.desc
  match rtpParse data stamp with
  | none => d
  | some p =>
    if x.port2 != 255 && r.seqs.contains p.seq then d
    else
      let f := 96000 / x.ratio
      let near : Int := ((d.now * f / secT : Nat) : Int) + (x.tsOff : Int)
      let m := near + signed 32 (wrapTo 32 ((p.ts : Int) - near)) - (x.tsOff : Int)
      let play := (m + (x.ptime : Int)) * (x.ratio : Int) + (x.link : Int)
      let n := p.payload.length / (x.bytes * max 1 x.channels) * max 1 x.channels
      let codes := (List.range n).map (pcmAt p.payload x.bytes)
      let r := { r with seqs := (r.seqs ++ [p.seq]).drop (r.seqs.length + 1 - 2048), arrivals := r.arrivals ++ [(stamp, m)] }
      let d := (d.setRx k r).inc pgMix 0x0B0
      if !x.async && decide (blockAt (play.toNat / 32) < stamp) then (d.inc pgMix 0x0B8).mixEvent 2 k
      else
        let pos := match r.pos with
          | some q => some q
          | none => if x.async then some ((m - ((x.link / x.ratio : Nat) : Int)) * 4294967296) else none
        d.setRx k { r with started := true, held := insertBy (fun a b => decide (a.1 < b.1)) (m, codes) r.held, pos := pos }

/-- The datagram of a received frame, when the checks of the port and of IP leave one (R642, R644). -/
def frameUdp (frame : List Byte) : Option (Nat × UdpIn) :=
  let e := ethParse frame
  match ipParse e with
  | .udp u => if e.badTag then none else some (e.vlan, u)
  | _ => none

/-- The row NET_AUDIO_RECEIVE: a frame that no OPEN stream matches is not its concern. -/
def execNetAudioReceive (port : Nat) (stamp : Nat) (frame : List Byte) (s : State) : Host.Outcome State Fault Refusal :=
  .next (s.actReady (fun d => match frameUdp frame with
    | some (vlan, u) => match d.netMatch port vlan u with
      | some k => d.netReceive k stamp u.data
      | none => d
    | none => d))

/-- Sample m of channel ch of a stream, when it arrived. -/
def NetRx.sample (r : NetRx) (m : Int) (ch : Nat) : Option Int :=
  let c := r.desc.channels
  (r.held.find? (fun e => decide (e.1 ≤ m) && decide (m < e.1 + (e.2.length / max 1 c : Nat)))).map (fun e =>
    nthD 0 e.2 ((m - e.1).toNat * c + ch) * (2 ^ (61 - r.desc.width) : Nat))

/-- A conversion between 48 kHz and the grid. -/
def convBlock (up : Bool) (state : Nat) (l : List Int) : List Int × Nat :=
  let u : ConvUse := ⟨up, 2, 1, state, l⟩
  ((List.range (if up then 2 * l.length else l.length / 2)).map (Config.convert u), Config.convertState u)

/-- Samples of an asynchronous edge for a block (R401): positions from `pos` on at a ratio in ppb, and the next position. -/
def asyncBlock (l : List Int) (first pos ratio : Int) (r : Nat) : List Int × Int :=
  let step : Int := (4294967296 * (1000000000 + ratio)) / (1000000000 * (r : Int))
  ((List.range 32).map (fun (i : Nat) => Config.asyncSample l (pos + step * (i : Int) - first * 4294967296).toNat), pos + 32 * step)

/-- The block of a receive stream from grid sample n0 on, by channel; samples that never arrived play as 0 and are counted by packets
(R399). -/
def Dev.rxBlock (d : Dev) (k n0 : Nat) : Dev × List (List Int) :=
  let r := d.rx k
  let x := r.desc
  if !r.opened then (d, [])
  else if x.async then
    match r.pos with
    | none => (d, (List.range x.channels).map (fun _ => zeroBlock))
    | some pos =>
      let m0 := pos / 4294967296 - 32
      let chan (ch : Nat) : List Int := (List.range 128).map (fun (i : Nat) => (r.sample (m0 + (i : Int)) ch).getD 0)
      let blocks := (List.range x.channels).map (fun ch => asyncBlock (chan ch) m0 pos r.ratio x.ratio)
      let next := ((blocks.map (fun e => e.2)).head?).getD pos
      (d.setRx k { r with pos := some next, held := r.held.filter (fun e => decide (next / 4294967296 - 64 < e.1 + 384)) },
       blocks.map (fun e => if r.muted then zeroBlock else e.1))
  else
    let n := 32 / x.ratio
    let m0 : Int := ((n0 : Int) - (x.link : Int) + ((x.ratio - 1 : Nat) : Int)) / (x.ratio : Int) - (x.ptime : Int)
    let raw := (List.range x.channels).map (fun ch => (List.range n).map (fun (i : Nat) => (r.sample (m0 + (i : Int)) ch).getD 0))
    let miss := if r.started then ((List.range n).filter (fun (i : Nat) => (r.sample (m0 + (i : Int)) 0).isNone)).length else 0
    let lost := (r.missing + miss) / max 1 x.ptime
    let conv := raw.zipIdx.map (fun e => if x.r96 then (e.1, 0) else convBlock true (nthD 0 r.conv e.2) e.1)
    let d := d.setRx k { r with
      held := r.held.filter (fun e => decide (m0 + (n : Int) < e.1 + (e.2.length / max 1 x.channels : Nat)))
      missing := (r.missing + miss) % max 1 x.ptime
      conv := if x.r96 then [] else conv.map (fun e => e.2) }
    (d.bump pgMix 0x0C0 lost, conv.map (fun e => e.1))

/-- A ratio beyond 1,000 ppm. -/
def ratioBad (r : Int) : Bool := decide (1000000 < r.natAbs)

/-- The ratios of asynchronous streams estimated at an epoch boundary (R401). -/
def Dev.rxRatios (d : Dev) : Dev :=
  if !d.decides then { d with audio := { d.audio with rx := tabMapD {} d.audio.rx (fun _ r => { r with arrivals := [] }) } } else
  (d.audio.rx.filter (fun e => e.2.opened && e.2.desc.async && !e.2.arrivals.isEmpty)).foldl (fun (d : Dev) e =>
    let ratio := Config.asyncRatio e.2.arrivals
    let d := d.setRx e.1 { e.2 with ratio := ratio, muted := ratioBad ratio, arrivals := [] }
    if ratioBad ratio && !e.2.muted then d.mixEvent 3 e.1 else d) { d with audio := { d.audio with rx := tabMapD {} d.audio.rx (fun _ r =>
      if r.desc.async then r else { r with arrivals := [] }) } }

/-- A Q60 sample as a code of `w` bits, rounded, and whether it saturated (R16, R403, R852); `dith` is in 2^-32 of a code.
Exactly +2^60, whose code is one above the greatest, counts as beyond full scale (DESIGN CHOICE, log entry 86). -/
def codeOf (w : Nat) (s dith : Int) : Int × Bool :=
  let c := roundDiv (s * 4294967296 + dith * (2 ^ (61 - w) : Nat)) (2 ^ (61 - w) * 4294967296)
  let hi : Int := ((2 ^ (w - 1) : Nat) : Int) - 1
  (clampI (-hi - 1) hi c, decide (c < -hi - 1 ∨ hi < c))

/-- Packets of a transmit stream whose samples have all been produced by grid sample `n` (R402). -/
def Dev.txSend : Nat → Nat → Nat → Dev → Dev
  | 0, _, _, d => d
  | fuel + 1, k, n, d =>
    let t := d.tx k
    let x := t.desc
    let len := x.ptime * x.channels
    if t.frames.length < len ∨ n < (t.start + x.ptime) * x.ratio then d
    else
      let payload := (t.frames.take len).flatMap (fun c => beBytes x.bytes (wrapTo x.width c))
      let ts := (t.start + x.tsOff) % 4294967296
      let rtp := [0x80, BitVec.ofNat 8 x.pt] ++ beBytes 2 (t.seq % 65536) ++ beBytes 4 ts ++ beBytes 4 x.ssrc ++ payload
      let bytes := d.udpFrame x.port (beBytes 6 x.nextHop) x.vlan x.pcp x.dscp x.v6 (x.ip x.srcIp) (x.ip x.dstIp) x.srcUdp x.dstUdp rtp
      let d := d.setTx k { t with start := t.start + x.ptime, frames := t.frames.drop len, seq := (t.seq + 1) % 65536 }
      Dev.txSend fuel k n (d.enqueue x.queue { bytes := bytes, at_ := 0 })

/-- A block of a transmit stream's channels, whose samples leave from grid sample `m` on (R16, R402). -/
def Dev.txBlock (d : Dev) (k m : Nat) (chans : List (List Int)) : Dev :=
  let t := d.tx k
  let x := t.desc
  if !t.opened || decide (m < t.start * x.ratio) then d
  else
    let conv := chans.zipIdx.map (fun e => if x.r96 then (e.1, 0) else convBlock false (nthD 0 t.conv e.2) e.1)
    let n := 32 / x.ratio
    let codes := (List.range n).flatMap (fun i => conv.map (fun e => codeOf x.width (samp e.1 i) 0))
    let d := d.setTx k { t with frames := t.frames ++ codes.map (fun e => e.1), conv := if x.r96 then [] else conv.map (fun e => e.2) }
    d.countEdge (codes.filter (fun e => e.2)).length k

/-! ### TDM ports (R403 to R408, R414, R415) -/

/-- CFG of a port and its fields (Table 8-16). -/
def tdmOff (p o : Nat) : Nat := 0x100 + 0x40 * (p % 4) + o
def Dev.tdmCfg (d : Dev) (p : Nat) : Word := d.reg (pgTdm p) (tdmOff p 0)
def Dev.tdmOn (d : Dev) (p : Nat) : Bool := bit (d.tdmCfg p) 0
def Dev.tdmSlave (d : Dev) (p : Nat) : Bool := bit (d.tdmCfg p) 1
def Dev.tdmAsync (d : Dev) (p : Nat) : Bool := bit (d.tdmCfg p) 1 && bit (d.tdmCfg p) 2
def Dev.tdm96 (d : Dev) (p : Nat) : Bool := bit (d.tdmCfg p) 3
def Dev.tdmRatio (d : Dev) (p : Nat) : Nat := if d.tdm96 p then 1 else 2
def Dev.tdmSlots (d : Dev) (p : Nat) : Nat := fld (d.tdmCfg p) 4 6
def Dev.tdmWidth (d : Dev) (p : Nat) : Nat := nthD 24 [16, 24, 32] (fld (d.tdmCfg p) 10 2)
def Dev.tdmIn (d : Dev) (p : Nat) : Word := d.reg (pgTdm p) (tdmOff p 8)
def Dev.tdmOut (d : Dev) (p : Nat) : Word := d.reg (pgTdm p) (tdmOff p 0x10)
def Dev.tdm (d : Dev) (p : Nat) : TdmPort := tabGetD {} d.audio.tdm p
def Dev.setTdm (d : Dev) (p : Nat) (t : TdmPort) : Dev := { d with audio := { d.audio with tdm := tabPutD {} d.audio.tdm p t } }

/-- A TDM event: bit e of the port, with the slot concerned or 0xFF (R415). -/
def Dev.tdmEvent (d : Dev) (p e slot : Nat) : Dev := d.raise (pgTdm p) (4 * (p % 4) + e) (0x1C0 + p) (0x0611 + e) (fmk 0 64 slot) 0

/-- SLOTS of the enabled ports, each counting in each direction (R408). -/
def Dev.slotsUsed (d : Dev) : Nat := sumN ((List.range 32).map (fun p => if d.tdmOn p then d.tdmSlots p else 0))

/-- Slots a port may hold at its rate. -/
def slotLimit (r96 : Bool) : Nat := if r96 then 16 else 32

/-- The page of a port is ACTIVE while any of its ports is enabled, else READY (R414). -/
def Dev.tdmState (d : Dev) (i : Nat) : PState := if (List.range 4).any (fun q => d.tdmOn (4 * i + q)) then .active else .ready

/-- A write of CFG (R408, R414). -/
def Dev.tdmCfgWrite (d : Dev) (p : Nat) (v : Word) : Dev :=
  let pg := pgTdm p
  let off := tdmOff p 0
  let old := d.reg pg off
  let m := d.mergeAt pg off v
  let lim := slotLimit (bit m.1 3)
  let over_ := decide (lim < fld m.1 4 6)
  let w := if over_ then setFld m.1 4 6 lim else m.1
  let errs := if over_ then m.2 ++ [.rangeClamped] else m.2
  if bit old 0 then
    let d := d.errs pg errs
    let d := if fld w 1 63 = fld old 1 63 then d else d.err pg .badState
    if bit v 0 then d else (d.setReg pg off (setFld old 0 1 0)).setTdm p {}
  else
    let d := d.errs pg errs
    if bit w 0 && decide (512 < d.slotsUsed + fld w 4 6) then (d.setReg pg off (setFld w 0 1 0)).err pg .badState
    else (d.setReg pg off w).setTdm p {}


/-- The number of a port's frames is the grid sample at even multiples at 48 kHz: the one nearest an instant (R406). -/
def nearSample (r t : Nat) : Nat :=
  let u := r * 31250 * nsT
  (2 * 3 * t + u) / (2 * u) * r

/-- TDM_LOCK: the port locks, and the next frame is mapped anew (R406, R407). -/
def Dev.tdmLock (d : Dev) (p : Nat) : Dev := d.setTdm p { d.tdm p with lock := true, good := 0, wrong := 0, next := none, last := [] }

/-- LOCK_LOST: inputs carry zeros and outputs are driven with zeros (R407). -/
def Dev.tdmUnlock (d : Dev) (p : Nat) : Dev := (d.setTdm p { d.tdm p with lock := false, good := 0, wrong := 0, next := none, held := [], last := [] }).tdmEvent p 1 255

/-- A slip: counted and raised. -/
def Dev.tdmSlip (d : Dev) (p : Nat) : Dev := (d.inc (pgTdm p) (tdmOff p 0x28)).tdmEvent p 2 255

/-- A frame of a locked port placed on the grid: consecutive frames on consecutive samples. When the FS instant lies more than a quarter
sample from its place, a slip is counted and the frame is mapped anew to the nearest sample: a place passed over repeats the frame before, and
a frame whose place is taken is dropped (R406; DEDUCED, log entry 98). -/
def Dev.tdmPlace (d : Dev) (p : Nat) (fs : Time) (codes : List Int) : Dev :=
  let t := d.tdm p
  let r := d.tdmRatio p
  let off := sfld (d.tdmCfg p) 32 32
  let at_ : Time := ((fs : Int) - off * (nsT : Int)).toNat
  let near := nearSample r at_
  if d.tdmAsync p then
    let n : Nat := match t.next with | some n => n + 1 | none => near / r
    d.setTdm p { t with next := some n, held := (t.held ++ [(n, codes)]).drop (t.held.length + 1 - 256), arrivals := t.arrivals ++ [(fs, (n : Int))],
                        pos := t.pos.or (some (((n : Int) - 64) * 4294967296)) }
  else
    match t.next with
    | none => d.setTdm p { t with next := some (near + r), held := t.held ++ [(near, codes)], last := codes }
    | some n =>
      let far := (3 * (at_ : Int) - (n * 31250 * nsT : Nat)).natAbs
      if 4 * far ≤ r * 31250 * nsT then d.setTdm p { t with next := some (n + r), held := t.held ++ [(n, codes)], last := codes }
      else if near < n then (d.setTdm p { t with last := codes }).tdmSlip p
      else
        let repeated := if n < near then [(n, t.last)] else []
        (d.setTdm p { t with next := some (near + r), held := t.held ++ repeated ++ [(near, codes)], last := codes }).tdmSlip p

/-- The row TDM_FRAME: a frame of `bclks` BCLK cycles whose FS came at an instant (R406, R407). -/
def execTdmFrame (p : Nat) (fs bclks : Nat) (codes : List Int) (s : State) : Host.Outcome State Fault Refusal :=
  .next (s.actReady (fun d =>
    if 32 ≤ p ∨ d.tdmOn p = false ∨ d.tdmSlave p = false then d
    else
      let t := d.tdm p
      if bclks = 32 * d.tdmSlots p then
        let d := d.setTdm p { t with good := min 8 (t.good + 1), wrong := 0 }
        if t.lock then d.tdmPlace p fs codes
        else if 8 ≤ t.good + 1 then (d.tdmLock p).tdmPlace p fs codes else d
      else
        let d := ((d.setTdm p { t with good := 0, wrong := t.wrong + 1 }).inc (pgTdm p) (tdmOff p 0x20)).tdmEvent p 0 255
        if !t.lock then d else if 2 ≤ t.wrong + 1 then d.tdmUnlock p else d.tdmPlace p fs codes))

/-- The row TDM_LOCK: due once 8 consecutive frames of the configured length have come. -/
def execTdmLock (p : Nat) (s : State) : Host.Outcome State Fault Refusal :=
  .next (s.actReady (fun d => if d.tdmOn p && d.tdmSlave p && !(d.tdm p).lock && decide (8 ≤ (d.tdm p).good) then d.tdmLock p else d))

/-- The row LOCK_LOST: due once 2 consecutive frames of the wrong length have come. -/
def execLockLost (p : Nat) (s : State) : Host.Outcome State Fault Refusal :=
  .next (s.actReady (fun d => if d.tdmOn p && d.tdmSlave p && (d.tdm p).lock && decide (2 ≤ (d.tdm p).wrong) then d.tdmUnlock p else d))

/-- A slot of a frame as Q60 (R403). -/
def tdmEnter (w : Nat) (codes : List Int) (slot : Nat) : Int := signed w (wrapTo w (nthD 0 codes slot)) * (2 ^ (61 - w) : Nat)

/-- The input block of a port from grid sample n0 on, by slot. `given` is what the block boundary latched of a MASTER port: frames one
after the other, SLOTS codes each. -/
def Dev.tdmBlock (d : Dev) (p n0 : Nat) (given : List Int) : Dev × List (List Int) :=
  let t := d.tdm p
  let w := d.tdmWidth p
  let n := d.tdmSlots p
  let r := d.tdmRatio p
  let mask := d.tdmIn p
  let gate (l : List (List Int)) : List (List Int) := l.zipIdx.map (fun e => if bit mask e.2 then e.1 else zeroBlock)
  if !d.tdmOn p then (d, [])
  else if d.tdmAsync p then
    match t.pos with
    | none => (d, (List.range n).map (fun _ => zeroBlock))
    | some pos =>
      let m0 := pos / 4294967296 - 32
      let chan (slot : Nat) : List Int := (List.range 128).map (fun (i : Nat) => tdmEnter w (((t.held.find? (fun e => decide ((e.1 : Int) = m0 + (i : Int)))).map (fun e => e.2)).getD []) slot)
      let blocks := (List.range n).map (fun slot => asyncBlock (chan slot) m0 pos t.ratio r)
      (d.setTdm p { t with pos := some (((blocks.map (fun e => e.2)).head?).getD pos) },
       gate (blocks.map (fun e => if t.muted || !t.lock then zeroBlock else e.1)))
  else
    let frame (i : Nat) : List Int :=
      if d.tdmSlave p then (if t.lock then ((t.held.find? (fun e => decide (e.1 = n0 + r * i))).map (fun e => e.2)).getD [] else [])
      else (given.drop (n * i)).take n
    let raw := (List.range n).map (fun slot => (List.range (32 / r)).map (fun i => tdmEnter w (frame i) slot))
    let conv := raw.zipIdx.map (fun e => if r = 1 then (e.1, 0) else convBlock true (nthD 0 t.convIn e.2) e.1)
    (d.setTdm p { t with held := t.held.filter (fun e => decide (n0 + 32 ≤ e.1)), convIn := if r = 1 then [] else conv.map (fun e => e.2) },
     gate (conv.map (fun e => e.1)))

/-- A slot without a sample: driven 0, or outside OUT_MASK at high impedance while IDLE_HIZ is 1 (R407, Table 8-16). -/
def Dev.tdmRest (d : Dev) (p slot : Nat) : Option Int := if !bit (d.tdmOut p) slot && bit (d.tdmCfg p) 16 then none else some 0

/-- The output block of a port whose samples leave from grid sample m on: the codes of its frames (R403, R404, R407). -/
def Dev.tdmLeave (d : Dev) (p m : Nat) (chans : Nat → List Int) : Dev × List (Option Int) :=
  let t := d.tdm p
  let w := d.tdmWidth p
  let n := d.tdmSlots p
  let r := d.tdmRatio p
  let live := !d.tdmSlave p || t.lock
  let conv := (List.range n).map (fun slot =>
    let x := if bit (d.tdmOut p) slot && live then chans slot else zeroBlock
    if r = 1 then (x, 0) else convBlock false (nthD 0 t.convOut slot) x)
  let code (i slot : Nat) : Option Int × Bool :=
    if bit (d.tdmOut p) slot && live then
      let c := codeOf w (samp ((conv[slot]?.map (fun e => e.1)).getD []) i) (if bit (d.tdmCfg p) 17 then Config.dither p slot (m + r * i) else 0)
      (some c.1, c.2)
    else (d.tdmRest p slot, false)
  let codes := (List.range (32 / r)).flatMap (fun i => (List.range n).map (code i))
  let sats := (List.range n).filter (fun slot => (List.range (32 / r)).any (fun i => (code i slot).2))
  let count := (codes.filter (fun e => e.2)).length
  let d := d.setTdm p { t with convOut := if r = 1 then [] else conv.map (fun e => e.2) }
  let d := if count = 0 then d else d.bump (pgTdm p) (tdmOff p 0x30) count
  let d := match sats with
    | [] => d
    | slot :: _ => d.tdmEvent p 3 slot
  (d, codes.map (fun e => e.1))

/-- The ratios of asynchronous ports at an epoch boundary (R406). -/
def Dev.tdmRatios (d : Dev) : Dev :=
  if !d.decides then { d with audio := { d.audio with tdm := tabMapD {} d.audio.tdm (fun _ t => { t with arrivals := [] }) } } else
  (d.audio.tdm.filter (fun e => d.tdmAsync e.1 && !e.2.arrivals.isEmpty)).foldl (fun (d : Dev) e =>
    let ratio := Config.asyncRatio e.2.arrivals
    let d := d.setTdm e.1 { e.2 with ratio := ratio, muted := ratioBad ratio, arrivals := [] }
    if ratioBad ratio && !e.2.muted then d.mixEvent 3 (endpoint 0x02 (32 * e.1)) else d) d

/-- TDM registers read at the time of the read. -/
def Dev.tdmRead (d : Dev) (i off : Nat) : Option Word :=
  if off = 0x048 then some (fmk 0 10 d.slotsUsed ||| fmk 16 10 d.slotsUsed)
  else if 0x100 ≤ off ∧ off < 0x200 ∧ off % 0x40 = 0x18 then
    let p := 4 * i + (off - 0x100) / 0x40
    some (fmkB 0 (d.tdm p).lock ||| fmkS 32 32 (if d.tdmAsync p then (d.tdm p).ratio else 0))
  else none

end Sys2Proof.Machine
end

