-- ==== Sys2Proof/Machine/Block.lean ====
section
/-! DEFINITION. The evaluation of an audio block (R389): its inputs, the inserts, the conferences, the renderer and the outputs, in the
order of the stages of Table 8-5. -/

namespace Sys2Proof.Machine
open Sys2Proof

/-- Blocks of samples by endpoint. -/
abbrev Blocks := List (Nat × List Int)

/-- The block of an endpoint; zeros where there is none (R391). -/
def Blocks.at_ (l : Blocks) (ep : Nat) : List Int := ((l.find? (fun e => e.1 == ep)).map (fun e => e.2)).getD zeroBlock

/-- Work of a KERNEL cluster in FAULTED carries zeros (R521). -/
def Dev.kernelOut (d : Dev) (ep : Nat) (x : List Int) : List Int :=
  if d.garnet.dead.any (fun e => e.1 == Config.kernelCluster ep) then zeroBlock else x

/-- A block stored under R381, its saturations counted for `obj`. -/
def Dev.store (d : Dev) (obj : Nat) (x : List Int) : Dev × List Int :=
  let r := storeBlock x
  (d.countSat r.2 obj, r.1)

/-- A sink's block, stored (R390). -/
def Dev.sinkBlock (d : Dev) (sink : Nat) (cur : Blocks) : Dev × List Int :=
  d.store sink (d.sinkSum sink cur.at_ (Blocks.at_ d.audio.srcs))

/-! ### Stage 0 -/

/-- The streams of a leg that its mix input takes: KIND 0 with DECODE. -/
def Leg.audioIn (x : Leg) : List (Nat × Strm) := x.list.filter (fun e => e.2.kind == 0 && e.2.decode)

/-- A leg's input (Table 8-2, stages 3 to 6): both channels, and its voice activity. -/
def Dev.legInput (d : Dev) (l n0 : Nat) : Dev × List Int × List Int :=
  let x := d.leg l
  let a := d.legAud l
  let v := d.vad l
  let live := decide (x.state = .active)
  let before := d.counter pgMix 0x068
  let r := if live then x.audioIn.foldl (fun (acc : Dev × List Int × List Int) e =>
      let y := acc.1.playBlock l e.1 e.2 n0 (!v.active)
      (y.1, (List.range 32).map (fun k => samp acc.2.1 k + (nthD (0, 0) y.2 k).1), (List.range 32).map (fun k => samp acc.2.2 k + (nthD (0, 0) y.2 k).2)))
      (d, zeroBlock, zeroBlock)
    else (d, zeroBlock, zeroBlock)
  let d := r.1
  let gain (y : List Int) : List Int := if a.muteIn || !live then zeroBlock else y.map (fun s => mulQ60 s (linGain a.inGain 16))
  let left := d.store l (gain r.2.1)
  let right := left.1.store l (gain r.2.2)
  let d := right.1
  let lo := d.kernelOut (endpoint 0x01 (2 * l)) left.2
  let hi := d.kernelOut (endpoint 0x01 (2 * l + 1)) right.2
  let mono := (List.range 32).map (fun k => roundDiv (samp lo k + samp hi k) 2)
  let v' := d.vadBlock v mono (live && !a.muteIn)
  (d.setVad l { v' with plc := v.plc || d.counter pgMix 0x068 != before }, lo, hi)

/-- The mono mix input of a leg, by its channels. -/
def legMono (cur : Blocks) (l : Nat) : List Int :=
  (List.range 32).map (fun k => roundDiv (samp (cur.at_ (endpoint 0x01 (2 * l))) k + samp (cur.at_ (endpoint 0x01 (2 * l + 1))) k) 2)

/-- Legs whose input is measured: those out of IDLE, and those measured before. -/
def Dev.legsHeard (d : Dev) : List Nat :=
  ((d.legs.legs.filter (fun e => decide (e.2.state ≠ .idle))).map (fun e => e.1)) ++
  ((d.audio.vads.filter (fun e => decide (e.1 < 4096) && decide ((d.leg e.1).state = .idle))).map (fun e => e.1))

/-- Stage 0: legs, TDM ports and network streams. -/
def Dev.stageIn (d : Dev) (n0 : Nat) (given : List (Nat × List Int)) : Dev × Blocks :=
  let a := d.legsHeard.foldl (fun (acc : Dev × Blocks) l =>
    let r := acc.1.legInput l n0
    (r.1, acc.2 ++ [(endpoint 0x01 (2 * l), r.2.1), (endpoint 0x01 (2 * l + 1), r.2.2)])) (d, [])
  let b := (List.range 32).foldl (fun (acc : Dev × Blocks) p =>
    let r := acc.1.tdmBlock p n0 (((given.find? (fun e => e.1 == p)).map (fun e => e.2)).getD [])
    (r.1, acc.2 ++ r.2.zipIdx.map (fun e => (endpoint 0x02 (32 * p + e.2), e.1)))) a
  ((d.audio.rx.filter (fun e => e.2.opened)).map (fun e => e.1)).foldl (fun (acc : Dev × Blocks) k =>
    let r := acc.1.rxBlock k n0
    (r.1, acc.2 ++ r.2.zipIdx.map (fun e => (endpoint 0x03 (64 * k + e.2), e.1)))) b

/-! ### Stage 1 -/

/-- What an insert returns, by what its program left and its input (R506, R507, R509). -/
def insertReturn (x : Insert) (program dry : List (List Int)) : List (List Int) :=
  (List.range 8).map (fun c =>
    let p := nthD zeroBlock program c
    let i := nthD zeroBlock dry c
    match x.state with
    | .running => if x.fading then crossBlock 0 i p else p
    | .bypassed => if x.fading then crossBlock 0 p i else i
    | .faulted => i
    | .idle => zeroBlock)

/-- Stage 1: the inserts in ascending number. `w` runs ahead of the unit: a call's bundles issue in the rows of the block's processing
interval, and what they make is what `w` makes, since it depends on nothing else (R510). -/
def Dev.stageInserts (d : Dev) (j : Nat) (cur : Blocks) : Dev × Blocks :=
  let d := { d with garnet := { d.garnet with block := j } }
  let r := (d.inserts.map (fun e => e.1)).foldl (fun (acc : Dev × Dev × Blocks) n =>
    let sends := (List.range 8).foldl (fun (a : Dev × List (List Int)) c =>
      let s := a.1.sinkBlock (endpoint 0x84 (8 * n + c)) acc.2.2
      (s.1, a.2 ++ [s.2])) (acc.1, [])
    let d := sends.1
    let x := d.ins n
    let ready : Insert := { x with input := sends.2, out := none, due := decide (x.state ≠ .faulted), fading := false }
    let w := (acc.2.1.setIns n ready).callNow n
    let y := w.ins n
    let program := if decide (x.state = .faulted) then sends.2 else y.out.getD sends.2
    let back := insertReturn { x with state := if decide (y.state = .faulted) then .faulted else x.state } program sends.2
    (d.setIns n ready, w, acc.2.2 ++ back.zipIdx.map (fun e => (endpoint 0x04 (8 * n + e.2), e.1)))) (d, d, cur)
  (r.1, r.2.2)

/-! ### Stage 2 -/

/-- A conference's contributions to its mixes: identity, its binaural slot, whether it is a member, and c_m(n) (R379). -/
structure Voice where
  id : Nat
  slot : Nat
  isMember : Bool
  samples : List Int
  deriving DecidableEq, Repr

/-- A contribution with its fade weight, rounded once to Q60. -/
def faded (w : List Int) (x : List Int) : List Int := (List.range 32).map (fun k => mulQ60 (samp x k) (samp w k))

/-- The contributions of a conference, by its mix inputs. -/
def Conf.voices (x : Conf) (input : Nat → List Int) : List Voice :=
  ((List.range 8).filterMap (fun k => match nthD none x.slots k with
    | some m => some ⟨m, k, true, if x.entering.contains m then faded (blockB 0) (input m) else input m⟩
    | none => none)) ++
  x.leaving.map (fun e => ⟨e.2, e.1, false, faded (blockA 0) (input e.2)⟩)

/-- The exact sum of contributions (R379). -/
def busOf (vs : List Voice) : List Int := (List.range 32).map (fun k => sumI (vs.map (fun v => samp v.samples k)))

/-- Stage 2 for one conference: its inputs, its contributions and its bus. -/
def Dev.stageConf (d : Dev) (c : Nat) (cur : Blocks) : Dev × Blocks × List Voice :=
  let ins := (List.range 4).foldl (fun (acc : Dev × List (List Int)) k =>
    let s := acc.1.sinkBlock (endpoint 0x85 (4 * c + k)) cur
    (s.1.setVad (4096 + 4 * c + k) (s.1.vadBlock (s.1.vad (4096 + 4 * c + k)) s.2 true), acc.2 ++ [s.2])) (d, [])
  let d := ins.1
  let x := d.conf c
  let vs := x.voices (fun m => if m < 4096 then legMono cur m else nthD zeroBlock ins.2 (m - 4096))
  let ep := endpoint 0x05 c
  let bus := d.store ep (busOf vs)
  let d := bus.1.setConf c { x with entering := [], leaving := [] }
  (d, [(ep, d.kernelOut ep bus.2)], vs)

/-- Stage 2: every conference in use. -/
def Dev.stageConfs (d : Dev) (cur : Blocks) : Dev × Blocks × List (Nat × List Voice) :=
  d.confsInUse.foldl (fun (acc : Dev × Blocks × List (Nat × List Voice)) c =>
    let r := acc.1.stageConf c cur
    (r.1, acc.2.1 ++ r.2.1, acc.2.2 ++ [(c, r.2.2)])) (d, cur, [])

/-! ### Mixes (R379 to R384) -/

/-- Past contributions, newest first (R382). -/
def Dev.past (d : Dev) (c m : Nat) : List Int := tabGetD [] d.audio.binHist (8192 * c + m)

/-- The contributions of the block kept for the binaural mixes of later ones, for those that still sound. -/
def Dev.keepPast (d : Dev) (l : List (Nat × List Voice)) : Dev :=
  { d with audio := { d.audio with binHist := l.foldl (fun t e =>
      e.2.foldl (fun t v => if v.isMember then tabPutD [] t (8192 * e.1 + v.id) ((v.samples.reverse ++ d.past e.1 v.id).take 511) else t) t) [] } }

/-- A member's term in one ear: the impulse response of its position over its contribution, or the centre (R382, R384). -/
def Dev.earTerm (d : Dev) (c : Nat) (v : Voice) (right : Bool) : List Int :=
  let pos := nthD 0 (d.conf c).binPos v.slot
  match d.audio.hrtf.find? (fun e => e.1 == pos) with
  | none =>
    let half := fxRound (fxSqrt (fxRat 1 2)) 60
    v.samples.map (fun s => mulQ60 s half)
  | some e =>
    let taps := if right then e.2.2 else e.2.1
    let line := v.samples.reverse ++ d.past c v.id
    (List.range 32).map (fun k => roundDiv (sumI (taps.zipIdx.map (fun t => t.1 * nthD 0 line (31 - k + t.2)))) (2 ^ 60))

/-- The target gain for N active members, in 2^-24 dB (R380). -/
def mixTarget (n : Nat) : Int := if n ≤ 2 then 0 else fxRound (10 * fxLog10 (fxRat 2 n)) 24

/-- The gain of sample k + 1 on its way to a target. -/
def gainAt (g target : Int) (k : Nat) : Int := g + clampI (-10485 * ((k : Int) + 1)) (10485 * ((k : Int) + 1)) (target - g)

/-- A leg's own mix in both channels (R379 to R383), before the routes into its LEG_OUT. -/
def Dev.legMix (d : Dev) (l : Nat) (vs : List Voice) : Dev × List Int × List Int :=
  let a := d.legAud l
  if a.mix = 2 then (d, zeroBlock, zeroBlock)
  else
    let c := (d.leg l).conf
    let others := vs.filter (fun v => v.id != l)
    let n := (others.filter (fun v => v.isMember && (d.vad (vadKey c v.id)).active)).length
    let v := d.vad l
    let target := mixTarget n
    let gains := (List.range 32).map (fun k => linGain (gainAt v.g target k) 24)
    let shape (x : List Int) : List Int := (List.range 32).map (fun k => mulQ60 (samp x k) (samp gains k))
    let ear (right : Bool) : List Int :=
      if a.mix = 1 then
        let terms := others.map (fun w => d.earTerm c w right)
        (List.range 32).map (fun k => sumI (terms.map (fun t => samp t k)))
      else busOf others
    let left := shape (ear false)
    let right := if a.mix = 1 then shape (ear true) else left
    let s := d.store l left
    let t := if a.mix = 1 then s.1.store l right else (s.1, s.2)
    let ep := endpoint 0x81 (2 * l)
    (t.1.setVad l { v with g := gainAt v.g target 31 }, d.kernelOut ep s.2, d.kernelOut ep t.2)

/-! ### Stage 4 (R365, R367) -/

/-- In-band FEC of the next frame (Table 8-4). -/
def Dev.fecOn (d : Dev) (l : Nat) : Bool :=
  let a := d.legAud l
  a.fec == 1 || (a.fec == 2 && decide (((d.legProf l 0x10 0 16 : Nat) : Int) ≤ (d.leg l).loss))

/-- A leg's egress audio frames whose samples have all left by grid sample `n`: converted, encoded and sent (R367, R381). -/
def Dev.legFrames : Nat → Nat → Nat → Dev → Dev
  | 0, _, _, d => d
  | fuel + 1, l, n, d =>
    match d.egressAudio l with
    | none => d
    | some (i, s) =>
      let o := tabGetD {} d.audio.outs l
      let a := o.set.getD (d.legAud l)
      let len := max 1 (96 * a.ptime)
      let first := ceilTo len o.start
      let skip := first - o.start
      if n < first + len ∨ o.pcm.length < skip + len then
        if o.pcm.length ≤ skip then d else { d with audio := { d.audio with outs := tabPutD {} d.audio.outs l { o with set := some a } } }
      else
        let ch := if s.codec = 1 then a.channels else 1
        let x := (o.pcm.drop skip).take len
        let cu : ConvUse := ⟨false, audioRatio s.codec, ch, o.conv, x.flatMap (fun p => if ch = 2 then [p.1, p.2] else [p.1])⟩
        let raw := (List.range (len / audioRatio s.codec * ch)).map (Config.convert cu)
        let sat := (raw.filter (fun y => decide (y < -q60One ∨ q60One < y))).length
        let eu : EncodeUse := ⟨s.codec, o.enc, ch, if s.codec = 1 then a.opusBps else 64000, a.bandwidth, d.fecOn l, a.dtx, raw.map (clampI (-q60One) q60One)⟩
        let payload := Config.audioEncode eu
        let sent := !payload.isEmpty
        let d := { d with audio := { d.audio with outs := tabPutD {} d.audio.outs l {
            start := first + len
            pcm := o.pcm.drop (skip + len)
            conv := Config.convertState cu
            enc := Config.encoderState eu
            spurt := sent
            set := none } } }
        let d := d.countEdge sat l
        let d := if sent then
            let ts := first * codecClock s.codec / 96000 % 4294967296
            let b := [(0x80 : Byte), BitVec.ofNat 8 ((if o.spurt then 0 else 128) + s.pt % 128)] ++ beBytes 2 s.outSeq ++ beBytes 4 ts ++ beBytes 4 s.ssrc ++ payload
            let d := d.onStream l i (fun s => { s with
              outSeq := (s.outSeq + 1) % 65536
              outTs := ts
              sentPkts := s.sentPkts + 1
              sentOctets := s.sentOctets + payload.length })
            (d.contentAt (sampleAt (first + len - 1))).sendRtp l false true none b
          else d
        Dev.legFrames fuel l n d

/-- A leg's output for a block whose samples leave from grid sample `m` on; only an ACTIVE leg with a KIND 4 stream sends (R367). -/
def Dev.legOut (d : Dev) (l m n : Nat) (vs : List Voice) (cur : Blocks) : Dev :=
  if (d.leg l).state ≠ .active then { d with audio := { d.audio with outs := tabPutD {} d.audio.outs l {} } }
  else
    let mix := d.legMix l vs
    let d := mix.1
    if (d.egressAudio l).isNone then { d with audio := { d.audio with outs := tabPutD {} d.audio.outs l {} } }
    else
      let a := d.legAud l
      let put (d : Dev) (ch : Nat) (x : List Int) : Dev × List Int :=
        let r := d.sinkBlock (endpoint 0x81 (2 * l + ch)) cur
        let s := r.1.store l ((List.range 32).map (fun k => samp x k + samp r.2 k))
        s.1.store l (s.2.map (fun y => mulQ60 y (linGain a.outGain 16)))
      let left := put d 0 mix.2.1
      let right := put left.1 1 mix.2.2
      let o := tabGetD {} right.1.audio.outs l
      let pairs := (List.range 32).map (fun k => (samp left.2 k, samp right.2 k))
      let o := if o.start + o.pcm.length = m then { o with pcm := o.pcm ++ pairs } else { o with start := m, pcm := pairs }
      Dev.legFrames 4 l n { right.1 with audio := { right.1.audio with outs := tabPutD {} right.1.audio.outs l o } }

/-- The TDM outputs of a block: port and codes. -/
def Dev.stageTdm (d : Dev) (m : Nat) (cur : Blocks) : Dev × List (Nat × List (Option Int)) × Blocks :=
  ((List.range 32).filter d.tdmOn).foldl (fun (acc : Dev × List (Nat × List (Option Int)) × Blocks) p =>
    let s := (List.range (acc.1.tdmSlots p)).foldl (fun (a : Dev × List (List Int)) k =>
      let r := a.1.sinkBlock (endpoint 0x82 (32 * p + k)) cur
      (r.1, a.2 ++ [r.2])) (acc.1, [])
    let r := s.1.tdmLeave p m (fun k => nthD zeroBlock s.2 k)
    (r.1, acc.2.1 ++ [(p, r.2)], acc.2.2 ++ s.2.zipIdx.map (fun e => (endpoint 0x82 (32 * p + e.2), e.1)))) (d, [], [])

/-- The network outputs of a block, and the packets that are complete. -/
def Dev.stageNet (d : Dev) (m n : Nat) (cur : Blocks) : Dev × Blocks :=
  ((d.audio.tx.filter (fun e => e.2.opened)).map (fun e => e.1)).foldl (fun (acc : Dev × Blocks) k =>
    let s := (List.range (acc.1.tx k).desc.channels).foldl (fun (a : Dev × List (List Int)) c =>
      let r := a.1.sinkBlock (endpoint 0x83 (64 * k + c)) cur
      (r.1, a.2 ++ [r.2])) (acc.1, [])
    (Dev.txSend 64 k n (s.1.txBlock k m s.2), acc.2 ++ s.2.zipIdx.map (fun e => (endpoint 0x83 (64 * k + e.2), e.1)))) (d, [])

/-- Samples in the form of the render digests: by sample, then by output, 8 bytes each (Table 14-10). -/
def digestBytes (l : List (List Int)) : List Byte := (List.range 32).flatMap (fun k => l.flatMap (fun x => leBytes 8 (wrapTo 64 (samp x k))))

/-- What a pair unit notes of a block for its render digests. -/
def Dev.noteRender (d : Dev) (e : Nat) (spk out : Blocks) : Dev :=
  let groups := (List.range 8).map (fun g => (e, g, digestBytes ((List.range 64).map (fun i => spk.at_ (endpoint 0x07 (64 * g + i))))))
  let more := groups ++ [(e, 8, digestBytes (out.map (fun x => x.2)))]
  if !d.paired then d else { d with pair := { d.pair with renders := d.pair.renders ++ more } }

/-- The unit drives the TDM outputs: SOLO or PRIMARY, or about to take over (R681, R689). -/
def Dev.drivesTdm (d : Dev) : Bool := d.active || d.pair.driving

/-- The sinks of stage 3 with a route, evaluated once each while the renderer takes its inputs. -/
def Dev.stageSinks (d : Dev) (cur : Blocks) : Dev × Blocks :=
  if !(d.render.running || d.render.fadeOut) then (d, [])
  else (((d.audio.routes.map (fun e => e.1 / 64)).eraseDups).filter (fun k => [0x86, 0x87, 0x88].contains (epKind k))).foldl (fun (acc : Dev × Blocks) k =>
    let r := acc.1.sinkBlock k cur
    (r.1, acc.2 ++ [(k, r.2)])) (d, [])

/-- The evaluation of the block that ends at block boundary j (R389): its samples leave 96 samples after they entered (R409). -/
def Dev.evalBlock (d : Dev) (j : Nat) (given : List (Nat × List Int)) : Dev :=
  let n0 := 32 * (j - 1)
  let m := n0 + 96
  let a := d.stageIn n0 given
  let b := a.1.stageInserts (j - 1) a.2
  let c := b.1.stageConfs b.2
  let sinks := c.1.stageSinks c.2.1
  let r := sinks.1.renderBlock n0 (fun i => sinks.2.at_ (endpoint 0x86 i)) (fun i => sinks.2.at_ (endpoint 0x88 i)) (fun i => sinks.2.at_ (endpoint 0x87 i))
  let spk := ((List.range 512).map (fun s => (endpoint 0x07 s, r.1.kernelOut (endpoint 0x07 s) (r.2 s)))).filter (fun e => e.2.any (· != 0))
  let cur := c.2.1 ++ spk
  let legs := (r.1.legs.legs.filter (fun e => decide (e.2.state ≠ .idle))).map (fun e => e.1)
  let d := legs.foldl (fun (d : Dev) l =>
    d.legOut l m (32 * j) (((c.2.2.find? (fun e => e.1 == (d.leg l).conf)).map (fun e => e.2)).getD []) cur) r.1
  let t := d.stageTdm m cur
  let net := t.1.stageNet m (32 * j) cur
  let d := net.1.noteRender ((j - 1) / 3) spk (t.2.2 ++ net.2)
  let d := (d.keepPast c.2.2).routesAdvance
  let d := (List.range 32).foldl (fun (d : Dev) l => d.gaCount (d.gaUnit l) 0x060 1) d
  let out := d.audio.tdmPipe.headD []
  let d := { d with audio := { d.audio with
    tdmPipe := d.audio.tdmPipe.drop 1 ++ [t.2.1]
    srcs := (sortBy (fun (a b : Nat × List Int) => decide (a.1 < b.1)) ((cur.filter (fun (e : Nat × List Int) => decide (4 ≤ epKind e.1))).filter (fun (e : Nat × List Int) => e.2.any (· != 0)))) } }
  if d.drivesTdm then out.foldl (fun (d : Dev) e => d.emit (.tdm e.1 e.2)) d else d

end Sys2Proof.Machine
end

