-- ==== Sys2Proof/Machine/Pair.lean ====
section
/-! DEFINITION. The mirrored pair (chapter 14): roles, the heartbeat, the Mirror Link and HELLO, the loss of the partner, failover, and the
pair commands. -/

namespace Sys2Proof.Machine
open Sys2Proof

/-- Codes of Tables 14-2 and 14-3. -/
def Role.code : Role → Nat
  | .solo => 0 | .undecided => 1 | .primary => 2 | .secondary => 3
def Partner.code : Partner → Nat
  | .none => 0 | .absent => 1 | .waiting => 2 | .joining => 3 | .ready => 4 | .lost => 5 | .conflict => 6

/-- PAIR_STATUS (Table 14-15). -/
def Dev.pairStatus (d : Dev) : Word :=
  let p := d.pair
  fmk 0 2 p.strap ||| fmk 2 2 p.role.code ||| fmk 4 3 p.partner.code ||| fmkB 8 (p.up && p.hello) ||| fmkB 9 p.hbOk ||| fmkB 10 p.frozen |||
  fmkB 11 p.hbPrimary ||| (p.renderDiv.foldl (fun (v : Word) g => v ||| fmkB (16 + g) true) 0) ||| fmk 32 3 p.cause ||| fmk 48 12 p.resyncing.length

/-- PAIR registers read at the time of the read. JOIN_PROGRESS is 0 when no join runs; the size of a join is not given (log entry 33). -/
def Dev.pairRead (d : Dev) (off : Nat) : Option Word :=
  if off = 0x048 then some d.pairStatus
  else if off = 0x058 then some (if decide (d.pair.partner = Partner.joining) && d.pair.joinAt.isSome then d.freeWord else 0)
  else if off = 0x060 then some d.pair.changed
  else if off = 0x068 then some d.pair.partnerId
  else none

/-- The PAIR page (R697). -/
def Dev.pairState (d : Dev) : PState := if d.paired then .active else .ready

/-- A role change (Table 14-15 CAUSE, TAKEOVER_TIME). -/
def Dev.becomes (d : Dev) (r : Role) (cause : Nat) : Dev :=
  (d.onPair (fun p => { p with
    role := r
    cause := cause
    changed := d.short }))

/-- The partner becomes CONFLICT (R654, R665): ROLE_CONFLICT with a detail word. -/
def Dev.roleConflict (d : Dev) (d3 : Nat) : Dev := (d.onPair (fun p => { p with partner := .conflict })).pairEvent 5 0 d3

/-- Every command of an opcode that waits completes. -/
def Dev.finishAll (d : Dev) (op : Nat) (st : Status) : Dev :=
  ((d.ctl.waits.filter (fun w => w.tok.opcode == op)).map (fun w => w.obj)).eraseDups.foldl (fun (d : Dev) o => (d.finish op o st 0 d.freeWord).tickFree) d

/-- Egress packets held for the partner leave for their queues. -/
def Dev.releaseHeldAll (d : Dev) : Dev :=
  let l := d.pair.held
  l.foldl (fun (d : Dev) e => d.enqueue e.2.1 e.2.2) (d.onPair (fun p => { p with held := [] }))

/-- What the unit keeps for its partner is dropped: manifests, logs, digests, a join and what it received. -/
def Dev.pairForget (d : Dev) : Dev :=
  (d.onPair (fun p => { p with
    wanted := false
    joinAt := none
    chunks := []
    filling := false
    early := []
    cur := none
    index := 0
    count := 0
    kept := []
    stash := []
    listed := []
    nextIn := 0
    acked := 0
    log := []
    due := []
    built := []
    renders := []
    own := []
    theirs := []
    renderOk := []
    resyncing := []
    surrender := none }))

/-- Commands that wait on the partner complete with PARTNER_UNAVAILABLE. -/
def Dev.partnerless (d : Dev) : Dev :=
  let d := ((d.finishAll 0x0C00 .partnerUnavailable).finishAll 0x0C02 .partnerUnavailable).finishAll 0x0C03 .partnerUnavailable
  [0x0F00, 0x0F01, 0x0F02, 0x0F03].foldl (fun (d : Dev) op => (d.finish op partnerObj .partnerUnavailable 0 d.freeWord).tickFree) d

/-- The partner is LOST (R669, R684, R695). A secondary whose join is abandoned discards what it received, keys among it. -/
def Dev.partnerLost (d : Dev) : Dev :=
  if decide (d.pair.partner ≠ .joining) && decide (d.pair.partner ≠ Partner.ready) then d
  else
    let d := if decide (d.pair.role = .secondary) && d.pair.filling then d.zeroAllSlots else d
    let t := (d.now / msT + 1) * msT
    let d := d.onPair (fun p => { p with
      timed74 := if d.mirrored then t else p.timed74
      timed677 := t })
    ((((d.releaseHeldAll.pairForget.onPair (fun p => { p with partner := .lost }))).pairEvent 2 0 0)).partnerless

/-- The role a HELLO states: that of Table 14-2, or 4, RECOVERY (R779). -/
def Dev.helloRole (d : Dev) : Nat := if d.boot.phase = .recovery then 4 else d.pair.role.code

/-- A payload of HELLO: strap, role, how this unit sees its partner, serial, VERSION, STATE_FORMAT, and the share with its signature. -/
def Dev.helloBytes (d : Dev) : List Byte :=
  leBytes 1 d.pair.strap ++ leBytes 1 d.helloRole ++ leBytes 1 d.pair.partner.code ++ [0] ++ leBytes 8 Config.serial.toNat ++
  leBytes 4 d.boot.version ++ leBytes 4 d.boot.stateFmt ++ Config.helloProof d.ctl.free
def Dev.sendHello (d : Dev) : Dev := (d.linkSend ltHello d.helloBytes).tickFree

/-- A unit of a pair whose firmware runs, or whose ROM is in recovery mode, uses the Mirror Link (R779). -/
def Dev.linkUser (d : Dev) : Bool := d.paired || (decide (d.pair.role ≠ .solo) && decide (d.boot.phase = .recovery))

/-! ### Heartbeat and FROZEN (R658 to R660) -/

/-- HEARTBEAT_PULSE. -/
def Dev.heartbeatPulse (d : Dev) : Dev :=
  if !d.paired || decide (d.now < d.pair.hbNext * (100 * usT)) then d
  else (d.onPair (fun p => { p with hbNext := d.now / (100 * usT) + 1 })).emit (.heartbeat (if d.pair.role = Role.primary then 1 else 2))

/-- The row HEARTBEAT_PULSE. -/
def execHeartbeatPulse (s : State) : Host.Outcome State Fault Refusal := .next (s.act Dev.heartbeatPulse)

/-- HB_IN_PULSE: a pulse of `w` ns has ended (R659). -/
def Dev.hbInPulse (d : Dev) (w : Nat) : Dev :=
  if !d.paired || w == 0 then d
  else
    let prim := decide (500 ≤ w) && decide (w < 1500)
    (d.onPair (fun p => { p with
      hbOk := true
      hbLast := d.now - w * nsT
      hbPrimary := if w ≤ 5000 then prim else d.pair.hbPrimary
      hbRun := if prim then d.pair.hbRun + 1 else 0
      frozen := false }))

/-- The row HB_IN_PULSE. -/
def execHbInPulse (w : Nat) (s : State) : Host.Outcome State Fault Refusal := .next (s.act (fun d => d.hbInPulse w))

/-- The boundary after an instant. -/
def nextBoundary (t : Time) : Time := (t / msT + 1) * msT

/-- A READY secondary takes over at the next epoch boundary and drives the TDM outputs from the next block boundary (R687, R689). -/
def Dev.trigger (d : Dev) (cause : Nat) : Dev :=
  if decide (d.pair.role ≠ .secondary) || decide (d.pair.partner ≠ Partner.ready) || d.pair.takeover.isSome then d
  else
    ((d.onPair (fun p => { p with
      takeover := some (nextBoundary d.now, cause)
      driving := true }))).linkSend ltTakeover (leBytes 8 (shortOf (nextBoundary d.now)).toNat)

/-- No frame has been received for 500 µs. -/
def Dev.framesSilent (d : Dev) : Bool := decide (d.pair.rxAt + 500 * usT ≤ d.now)

/-- HEARTBEAT_LOSS (R659, R687, R688, R695). -/
def Dev.heartbeatLoss (d : Dev) : Dev :=
  if !d.paired || !d.pair.hbOk || decide (d.now < d.pair.hbLast + 500 * usT) then d
  else
    let silent := d.framesSilent
    let d := (d.onPair (fun p => { p with
      hbOk := false
      hbPrimary := false
      hbRun := 0 }))
    let d := if silent then d.trigger 1 else d.pairEvent 6 0 0
    if d.pair.role = .primary then d.partnerLost else d

/-- The row HEARTBEAT_LOSS. -/
def execHeartbeatLoss (s : State) : Host.Outcome State Fault Refusal := .next (s.act Dev.heartbeatLoss)

/-- FRAME_SILENCE: frames fall silent while heartbeats are lost (R687). -/
def Dev.frameSilence (d : Dev) : Dev := if d.paired && !d.pair.hbOk && d.framesSilent then d.trigger 1 else d

/-- The row FRAME_SILENCE. -/
def execFrameSilence (s : State) : Host.Outcome State Fault Refusal := .next (s.act Dev.frameSilence)

/-- FROZEN_INDICATION (R660, R687, R803). -/
def Dev.frozenIndication (d : Dev) : Dev :=
  if !d.paired then d
  else
    let d := (d.onPair (fun p => { p with
      frozen := true
      hbRun := 0 }))
    (d.finish opFreezeNow partnerObj .ok 0 d.short).trigger 2

/-- The row FROZEN_INDICATION. -/
def execFrozenIndication (s : State) : Host.Outcome State Fault Refusal := .next (s.act Dev.frozenIndication)

/-! ### The role (R652 to R655) -/

/-- ROLE_DECISION_TIMEOUT: 2 s without a HELLO that counts. A conflict by an equal strap stays. -/
def Dev.roleTimeout (d : Dev) : Dev :=
  if !d.paired || decide (d.pair.role ≠ .undecided) || decide (d.now < d.pair.since + 2 * secT) then d
  else
    let d := d.becomes .primary 5
    if d.pair.partner = .conflict then d else (d.onPair (fun p => { p with partner := .absent })).pairEvent 0 0 0

/-- The row ROLE_DECISION_TIMEOUT. -/
def execRoleDecisionTimeout (s : State) : Host.Outcome State Fault Refusal := .next (s.act Dev.roleTimeout)

/-- A primary's partner after HELLO: JOINING, or WAITING while AUTO_JOIN is 0 or the formats differ (R654, R666, R772). -/
def Dev.meetPartner (d : Dev) (fmtOk : Bool) : Dev :=
  let auto := bit (d.reg pgPair 0x050) 0 && fmtOk
  let d := d.releaseHeldAll.pairForget
  (d.onPair (fun p => { p with
    partner := if auto then .joining else .waiting
    wanted := auto }))

/-- How a secondary sees its partner: as its primary reports. -/
def seenAs (fmtOk : Bool) (code : Nat) : Partner := if code = 3 ∧ fmtOk = true then .joining else .waiting

/-- A HELLO by Table 14-4. A unit in RECOVERY, role code 4, takes no part. -/
def Dev.helloTable (d : Dev) (h : HelloMsg) : Dev :=
  if h.role = 4 ∨ d.boot.phase = .recovery then d
  else
    let d := (d.onPair (fun p => { p with partnerId := h.serial }))
    if !h.authOk then d.roleConflict 2
    else if h.strap = d.pair.strap then d.roleConflict 0
    else
      let ok := decide (h.stateFmt = d.boot.stateFmt)
      let d := (d.onPair (fun p => { p with
        hello := true
        mismatch := !ok }))
      let d := if ok then d else d.raise pgBoot 4 0x005 0x0E05 (fmk 0 64 d.boot.runBank) (fmk 0 64 d.boot.version)
      match d.pair.role with
      | .undecided =>
        if h.role = 2 then (let d := d.becomes .secondary 0; (d.pairForget.onPair (fun p => { p with partner := seenAs ok h.sees })))
        else if h.role = 1 then
          if d.pair.strap = 1 then (d.becomes .primary 0).meetPartner ok
          else (let d := d.becomes .secondary 0; (d.pairForget.onPair (fun p => { p with partner := seenAs ok h.sees })))
        else d
      | .primary => if h.role = 2 then d.roleConflict 0 else if h.role = 1 ∨ h.role = 3 then d.meetPartner ok else d
      | .secondary => if h.role = 2 then (d.pairForget.onPair (fun p => { p with partner := seenAs ok h.sees })) else d
      | .solo => d

/-- The row HELLO. -/
def execHello (f : LinkHdr) (h : HelloMsg) (s : State) : Host.Outcome State Fault Refusal :=
  .next (s.act (fun d => if d.linkUser then d.linkAccept f (fun d => d.helloTable h) else d))

/-! ### The link (R661 to R664) -/

/-- An IMAGE payload (Table 16-9). -/
def imageBytes (kind off total : Nat) (l : List Byte) : List Byte := leBytes 1 kind ++ [0, 0, 0] ++ leBytes 4 off ++ leBytes 4 total ++ l

/-- LINK_UP: the eight lanes are in LINK_UP. In recovery mode the ROM asks for an image (R779). -/
def Dev.mirrorUp (d : Dev) : Dev :=
  if !d.linkUser || !(d.plink 8).up || d.pair.up then d
  else
    let d := ((d.onPair (fun p => { p with
      up := true
      hello := false
      txSeq := 0
      rxSeq := 0
      sent := []
      ready := []
      ackAt := d.now
      rxAt := d.now
      txAt := d.now
      retxAt := d.now }))).sendHello
    if d.boot.phase = .recovery then d.linkSend ltImage (imageBytes 0 0 0 []) else d

/-- The row LINK_UP. -/
def execLinkUp (s : State) : Host.Outcome State Fault Refusal := .next (s.act Dev.mirrorUp)

/-- LINK_FAIL: the link is down, or ACK has not advanced for 2 ms. A secondary whose partner is READY stays READY (log entry 35). -/
def Dev.mirrorFail (d : Dev) : Dev :=
  if !d.pair.up || ((d.plink 8).up && (d.pair.sent.isEmpty || decide (d.now < d.pair.ackAt + 2 * msT))) then d
  else
    let d := (d.onPair (fun p => { p with
      up := false
      hello := false }))
    if d.pair.role = .primary ∨ d.pair.partner = .joining then d.partnerLost else d

/-- The row LINK_FAIL. -/
def execLinkFail (s : State) : Host.Outcome State Fault Refusal := .next (s.act Dev.mirrorFail)

/-- LINK_RETRANSMIT (R662). -/
def Dev.linkRetransmit (d : Dev) : Dev :=
  if !d.pair.up || d.pair.sent.isEmpty || decide (d.now < max d.pair.ackAt d.pair.retxAt + 20 * usT) then d
  else
    let d := d.pair.sent.foldl (fun (d : Dev) f => d.emitLink f) d
    ((d.onPair (fun p => { p with
      retxAt := d.now
      txAt := d.now }))).inc pgPair 0x0C0

/-- The row LINK_RETRANSMIT. -/
def execLinkRetransmit (s : State) : Host.Outcome State Fault Refusal := .next (s.act Dev.linkRetransmit)

/-- LINK_IDLE_ACK (R661). -/
def Dev.linkIdleAck (d : Dev) : Dev := if !d.pair.up || !d.pair.ready.isEmpty || decide (d.now < d.pair.txAt + 10 * usT) then d else d.linkSend ltAck []

/-- The row LINK_IDLE_ACK. -/
def execLinkIdleAck (s : State) : Host.Outcome State Fault Refusal := .next (s.act Dev.linkIdleAck)

/-- The row ACK. -/
def execAck (f : LinkHdr) (s : State) : Host.Outcome State Fault Refusal := .next (s.act (fun d => d.linkAccept f id))

/-- COMMAND_RELAY_TIMEOUT (R670). -/
def Dev.relayTimeout (d : Dev) : Dev :=
  if (d.pair.sent ++ d.pair.ready).any (fun f => match f.proc with | some t => decide (t + 200 * usT ≤ d.now) | none => false) &&
    decide (d.pair.role = .primary) then d.partnerLost else d

/-- The row COMMAND_RELAY_TIMEOUT. -/
def execCommandRelayTimeout (s : State) : Host.Outcome State Fault Refusal := .next (s.act Dev.relayTimeout)

/-- DIGEST_TIMEOUT (R684). -/
def Dev.digestTimeout (d : Dev) : Dev := if d.pair.own.any (fun e => decide (e.2.1 + 200 * msT ≤ d.now)) then d.partnerLost else d

/-- The row DIGEST_TIMEOUT. -/
def execDigestTimeout (s : State) : Host.Outcome State Fault Refusal := .next (s.act Dev.digestTimeout)

/-! ### Failover (R687 to R694) -/

/-- A Garnet task restarted from its entry; its item in service completes (R690). -/
def Dev.restartTask (d : Dev) (k : Nat) : Dev :=
  let c := d.gcore k
  let d := d.completeItem k .aborted
  let d := match c.fault with | some i => d.closeFault i 3 | none => d
  d.setGcore k {
    task := true
    taskImage := c.taskImage
    domain := c.domain
    taskEntry := c.taskEntry
    pc := c.taskEntry
    mem := c.mem
    trapCode := c.trapCode
    trapPc := c.trapPc
    lastSat := c.lastSat }

/-- A primary is deposed (R694). -/
def Dev.depose (d : Dev) : Dev :=
  if decide (d.pair.role ≠ .primary) || decide (d.pair.partner = .absent) || decide (d.pair.partner = .conflict) then d
  else
    let d := (d.releaseHeldAll.pairForget).partnerless.becomes .secondary 4
    let d := ((d.onPair (fun p => { p with partner := .lost }))).pairEvent 3 4 0
    (d.inc pgPair 0x0B8).sendHello

/-- The row DEPOSED: five consecutive PRIMARY pulses. -/
def execDeposed (s : State) : Host.Outcome State Fault Refusal := .next (s.act (fun d => if 5 ≤ d.pair.hbRun then d.depose else d))

/-- The row TAKEOVER. -/
def execTakeover (f : LinkHdr) (_boundary : Nat) (s : State) : Host.Outcome State Fault Refusal := .next (s.act (fun d => d.linkAccept f Dev.depose))

/-- The row SURRENDER: the boundary B at which a READY secondary takes over (R687). -/
def execSurrender (f : LinkHdr) (boundary : Nat) (s : State) : Host.Outcome State Fault Refusal :=
  .next (s.act (fun d => d.linkAccept f (fun d =>
    if decide (d.pair.role = .secondary) && decide (d.pair.partner = .ready) && d.pair.takeover.isNone then
      (d.onPair (fun p => { p with takeover := some (nearShort d.now (BitVec.ofNat 64 boundary), 3) }))
    else d)))

/-- At B the old primary becomes SECONDARY with partner READY and follows from B (R693). -/
def Dev.surrenderAt (d : Dev) (b : Time) : Dev :=
  match d.pair.surrender with
  | none => d
  | some t =>
    if b < t ∨ d.pair.role ≠ .primary then d
    else
      let d := (d.releaseHeldAll.pairForget).becomes .secondary 3
      let d := (d.onPair (fun p => { p with done := b / msT }))
      ((d.pairEvent 3 3 0).inc pgPair 0x0B8).finish 0x0C00 0 .ok 0 (shortOf t)

/-! ### The commands (Table 14-13) -/

/-- A pair command on a SOLO unit, or with another role than the one it needs (R696). -/
def roleIs (s : State) (r : Role) : Chk := conflict s.dev.pair.role.code (decide (s.dev.pair.role ≠ r))

/-- The partner is not READY. -/
def needsPartner (s : State) : Chk := noPartner (decide (s.dev.pair.partner ≠ .ready))

/-- PAIR_SURRENDER (R693): B is the first epoch boundary at least 2 ms after processing. -/
def pairSurrenderSpec : OpSpec where
  opcode := 0x0C00
  ownerOnly := true
  checks := fun _ s => [roleIs s .primary, needsPartner s]
  run := devRun fun _ _ _ d =>
    let b := match d.pair.surrender with
      | some t => t
      | none => epochCeil (d.now + 2 * msT)
    (((d.onPair (fun p => { p with surrender := some b }))).linkSend ltSurrender (leBytes 8 (shortOf b).toNat), .later 0 0)
  atOnce := true

/-- The row PAIR_SURRENDER. -/
def execPairSurrender (c : HostCmd) (s : State) : Host.Outcome State Fault Refusal := .next (runCmd pairSurrenderSpec c s)

/-- PAIR_YIELD (R696): of two primaries, this one becomes SECONDARY and joins. -/
def pairYieldSpec : OpSpec where
  opcode := 0x0C01
  ownerOnly := true
  checks := fun _ s => [roleIs s .primary, conflict s.dev.pair.partner.code (decide (s.dev.pair.partner ≠ .conflict) || !s.dev.pair.hello)]
  run := devRun fun _ _ _ d =>
    let d := (d.releaseHeldAll.pairForget).becomes .secondary 6
    (((d.onPair (fun p => { p with partner := .joining }))).sendHello).okNow 0

/-- The row PAIR_YIELD. -/
def execPairYield (c : HostCmd) (s : State) : Host.Outcome State Fault Refusal := .next (runCmd pairYieldSpec c s)

/-- PAIR_JOIN (R666, R772): the join starts at the next epoch boundary. -/
def pairJoinSpec : OpSpec where
  opcode := 0x0C02
  ownerOnly := true
  checks := fun _ s => [conflict s.dev.pair.partner.code (decide (s.dev.pair.partner ≠ .waiting)), refusedIf s.dev.pair.mismatch]
  run := devRun fun _ _ _ d =>
    ((d.onPair (fun p => { p with
      partner := .joining
      wanted := true })), .later 0 0)

/-- The row PAIR_JOIN. -/
def execPairJoin (c : HostCmd) (s : State) : Host.Outcome State Fault Refusal := .next (runCmd pairJoinSpec c s)

/-- Encode streams of the layout outputs that a leg receives. -/
def Dev.legEncoders (d : Dev) (l : Nat) : List Nat :=
  ((d.instList.filter (fun e => e.2.receiver == l && e.2.kind == 1)).flatMap (fun e => (d.outStreams e.2.src e.2.sub).map (fun x => x.1))).eraseDups

/-- A leg's resynchronisation begins: its transfer at the next epoch boundary, a refresh of its encoders (R685). -/
def Dev.startResync (d : Dev) (l : Nat) : Dev :=
  if d.pair.resyncing.any (fun n => n % 4096 == l) then d
  else
    let d := ((d.onPair (fun p => { p with resyncing := d.pair.resyncing ++ [l] }))).inc pgPair 0x0B0
    (d.legEncoders l).foldl (fun (d : Dev) i => d.encTrigger i false) d

/-- LEG_RESYNC. -/
def legResyncSpec : OpSpec where
  opcode := 0x0C03
  ownerOnly := true
  args := [(0, 2)]
  checks := fun c s => [badArg 0 (decide (4096 ≤ c.arg 0 2)), roleIs s .primary,
    conflict s.dev.pair.partner.code (decide ((s.dev.leg (c.arg 0 2)).state = .idle)), needsPartner s]
  run := devRun fun c _ _ d => (d.startResync (c.arg 0 2), .later (c.arg 0 2) 0)

/-- The row LEG_RESYNC. -/
def execLegResync (c : HostCmd) (s : State) : Host.Outcome State Fault Refusal := .next (runCmd legResyncSpec c s)

/-- PAIR_QUERY. -/
def pairQuerySpec : OpSpec where
  opcode := 0x0C04
  run := devRun fun _ _ _ d => (d, .done .ok (d.pairStatus.toNat % 65536) d.pair.changed)

/-- The row PAIR_QUERY. -/
def execPairQuery (c : HostCmd) (s : State) : Host.Outcome State Fault Refusal := .next (runCmd pairQuerySpec c s)

end Sys2Proof.Machine
end

