-- ==== Sys2Proof/Machine/Follow.lean ====
section
/-! DEFINITION. How a secondary is kept in step (chapter 14): the manifest and relays, the decision log, digests and resynchronisation, the
state transfer of a join, the takeover, and the pair's work at an epoch boundary. -/

namespace Sys2Proof.Machine
open Sys2Proof

/-! ### State transfer (R667, Table 14-7) -/

/-- What the units of Table 14-7 hold: registers and shadows of every page, commit bindings (page, group, bound, armed, locked), accepted
commands and pending groups, the tables of every family. Keys travel in KEY frames. -/
structure Transfer where
  regs : Tab Word
  shadow : Tab Word
  binds : List (Nat × Nat × Bool × Bool × Bool)
  accepted : List Accepted
  groups : List (Nat × Group)
  legs : Legs
  egress : Egress
  owner : Tab Nat
  ctxs : Tab (List SrtpCtx)
  enc : Tab EncStream
  dec : Tab DecStream
  mica : Mica
  audio : Audio
  render : Render
  images : Tab Image
  inserts : Tab Insert
  coef : Tab Word
  deriving DecidableEq, Repr

/-- What transferred bytes stand for; their form is not given (log entry 33). -/
opaque Config.transferred : List (Nat × Nat × List Byte) → Option Transfer

/-- A secondary takes the transferred state over. -/
def Dev.install (d : Dev) (t : Transfer) : Dev :=
  let d := t.binds.foldl (fun (d : Dev) b => d.onPage b.1 (fun h => { h with group := b.2.1, bound := b.2.2.1, arm := b.2.2.2.1, locked := b.2.2.2.2 })) d
  { d with
    ctl := { d.ctl with regs := t.regs, shadow := t.shadow, accepted := t.accepted, groups := t.groups }
    legs := t.legs
    egress := t.egress
    flint := { d.flint with owner := t.owner, ctxs := t.ctxs }
    geode := { d.geode with enc := t.enc, dec := t.dec }
    mica := t.mica
    audio := t.audio
    render := t.render
    garnet := { d.garnet with images := t.images, inserts := t.inserts, coef := t.coef } }

/-- The part of a transfer that a leg's resynchronisation takes: the leg, its playout and voice activity, its layout encoders, the decode
streams of its video, and the contexts of its slots (R594, R685). -/
def Dev.installLeg (d : Dev) (l : Nat) (t : Transfer) : Dev :=
  let es := d.legEncoders l
  let ds := (d.geode.dec.filter (fun e => e.2.desc.source == 0 && e.2.desc.leg == l)).map (fun e => e.1)
  let x := (d.leg l).desc
  let d := d.setLeg l (tabGetD {} t.legs.legs l)
  let d := { d with audio := { d.audio with
    outs := tabPutD {} d.audio.outs l (tabGetD {} t.audio.outs l)
    vads := tabPutD {} d.audio.vads l (tabGetD {} t.audio.vads l) } }
  let d := (List.range 16).foldl (fun (d : Dev) i => d.setPlayout l i (tabGetD {} t.audio.play (16 * l + i))) d
  let d := es.foldl (fun (d : Dev) i => d.setEncS i (tabGetD {} t.enc i)) d
  let d := ds.foldl (fun (d : Dev) i => d.setDecS i (tabGetD {} t.dec i)) d
  if x.srtp then (d.setCtxs x.keyIn (tabGetD [] t.ctxs x.keyIn)).setCtxs x.keyOut (tabGetD [] t.ctxs x.keyOut) else d

/-- The frames of one unit of Table 14-7 as it stands at an instant. -/
def Dev.sendState (d : Dev) (unit at_ : Nat) : Dev := d.linkSend ltState (leBytes 4 unit ++ leBytes 4 0 ++ Config.stateBytes unit at_)

/-- A slot as KEY messages: it is erased, then its halves are written in the order they came. -/
def Dev.sendSlot (d : Dev) (k : Nat) (x : KeySlot) : Dev :=
  [x.old, x.current, x.pending].foldl (fun (d : Dev) y => match y with
    | none => d
    | some h =>
      let cfg := h.transform + (if h.egress then 16 else 0) + (if h.atIndex.isSome then 32 else 0)
      let clear := leBytes 8 cfg ++ leBytes 8 (h.atIndex.getD 0) ++ h.key ++ List.replicate (32 - h.key.length) 0 ++
        h.salt ++ List.replicate (16 - h.salt.length) 0
      d.linkSend ltKey (leBytes 2 k ++ leBytes 1 1 ++ Config.linkSeal clear d.pair.txSeq))
    (d.linkSend ltKey (leBytes 2 k ++ leBytes 1 2))

/-- JOIN_START at an epoch boundary: J, the keys and the units of Table 14-7 (R667). -/
def Dev.joinStart (d : Dev) (b : Time) : Dev :=
  if !d.pair.wanted || decide (d.pair.partner ≠ .joining) || decide (d.pair.role ≠ .primary) then d
  else
    let d := d.onPair (fun p => { p with wanted := false, joinAt := some b, index := 0, count := 0 })
    let d := d.flint.keys.foldl (fun (d : Dev) e => d.sendSlot e.1 e.2) d
    [1, 2, 4, 5, 6].foldl (fun (d : Dev) u => d.sendState u b) d

/-- The first frame of a transfer: the secondary's slots are emptied for those that come, and the partner reads JOINING (R667). -/
def Dev.joinBegins (d : Dev) : Dev :=
  if d.pair.filling || decide (d.pair.partner = .ready) then d
  else d.zeroAllSlots.onPair (fun p => { p with
    filling := true
    partner := .joining })

/-- The row STATE: bytes of a unit stored on the secondary. -/
def execState (f : LinkHdr) (unit off : Nat) (bytes : List Byte) (s : State) : Host.Outcome State Fault Refusal :=
  .next (s.act (fun d => d.linkAccept f (fun d =>
    if d.pair.role = .secondary then d.joinBegins.onPair (fun p => { p with chunks := p.chunks ++ [(unit, off, bytes)] })
    else d)))

/-- JOIN_COMPLETE: the last unit is transferred, and the partner becomes READY (R668). -/
def Dev.joinComplete (d : Dev) : Dev :=
  if decide (d.pair.partner ≠ .joining) || (decide (d.pair.role = .primary) && d.pair.joinAt.isNone) then d
  else
    let d := if d.pair.role = .secondary then (match Config.transferred d.pair.chunks with | some t => d.install t | none => d) else d
    let d := (d.onPair (fun p => { p with partner := .ready, chunks := [], filling := false, nextDigest := d.now / msT + 1 })).pairEvent 1 0 0
    (d.finish 0x0C02 0 .ok (d.freeWord.toNat % 65536) d.short).tickFree

/-! ### KEY (R665, R577) -/

/-- A key command of the primary on its secondary. -/
def Dev.keyRelayed (d : Dev) (k cmd seq : Nat) (sealed : List Byte) : Dev :=
  if cmd = 2 then d.zeroSlot k
  else match Config.linkOpen sealed seq with
    | none => d
    | some b =>
      if cmd = 3 then d.keyApply k .cancel
      else if cmd = 1 then
        let t := leBits b 0 8 0 4
        d.keyApply k (.write ⟨t, leBits b 0 8 4 1 == 1, (b.drop 16).take (keyLen t), (b.drop 48).take (saltLen t),
          if leBits b 0 8 5 1 = 1 then some (leBits b 8 8 0 48) else none, false⟩)
      else d

/-- The row KEY. -/
def execKey (f : LinkHdr) (slot cmd : Nat) (sealed : List Byte) (s : State) : Host.Outcome State Fault Refusal :=
  .next (s.act (fun d => d.linkAccept f (fun d => if d.pair.role = .secondary then d.joinBegins.keyRelayed (slot % 16384) cmd f.seq sealed else d)))

/-! ### Digests (R683 to R686) -/

/-- A leg diverges: DIVERGENCE, and its resynchronisation under AUTO_RESYNC (R675, R685). -/
def Dev.diverged (d : Dev) (l : Nat) : Dev :=
  let d := d.pairEvent 4 l 0
  if bit (d.reg pgPair 0x050) 1 then d.startResync l else d

/-- The order of Table 14-10: ascending SSRC, then ascending sequence number; those of one epoch lie within half the number's range. -/
def builtBefore (a b : Built) : Bool :=
  decide (a.ssrc < b.ssrc) || (a.ssrc == b.ssrc && decide (beAt a.bytes 2 2 ≠ beAt b.bytes 2 2) && decide (laterSeq (beAt a.bytes 2 2) (beAt b.bytes 2 2) = beAt b.bytes 2 2))

/-- The digests of an epoch: leg n at n, render g at 4096 + g. -/
def Dev.digestsOf (d : Dev) (e : Nat) : List (Nat × Word) :=
  let mine := d.pair.built.filter (fun b => b.epoch == e)
  let legs := (sortBy (fun (a b : Nat) => decide (a < b)) ((mine.map (fun b => b.leg)).eraseDups)).map (fun l =>
    (l, crc64 ((sortBy builtBefore (mine.filter (fun b => b.leg == l))).flatMap (fun b => b.bytes))))
  let blocks := d.pair.renders.filter (fun r => r.1 == e)
  legs ++ (List.range 9).map (fun g => (4096 + g, crc64 ((blocks.filter (fun r => r.2.1 == g)).flatMap (fun r => r.2.2))))

/-- One digest of a leg compared. -/
def Dev.compareLeg (d : Dev) (l : Nat) (same : Bool) : Dev :=
  if d.pair.resyncing.any (fun n => n % 4096 == l) then d
  else if same then d.inc pgPair 0x098
  else (d.inc pgPair 0x0A0).diverged l

/-- One render digest compared (R686). -/
def Dev.compareRender (d : Dev) (g : Nat) (same : Bool) : Dev :=
  if same then
    let n := tabGetD 0 d.pair.renderOk g + 1
    let d := d.inc pgPair 0x098
    if !d.pair.renderDiv.contains g then d
    else if n < 1000 then d.onPair (fun p => { p with renderOk := tabPutD 0 p.renderOk g n })
    else d.onPair (fun p => { p with renderOk := tabPutD 0 p.renderOk g 0, renderDiv := p.renderDiv.filter (fun x => x != g) })
  else
    let d := (d.inc pgPair 0x0A8).pairEvent 4 (0x1000 + g) 0
    d.onPair (fun p => { p with renderOk := tabPutD 0 p.renderOk g 0, renderDiv := if p.renderDiv.contains g then p.renderDiv else p.renderDiv ++ [g] })

/-- Two sets compared; a leg without packets has the digest of nothing. -/
def Dev.compareSets (d : Dev) (a b : List (Nat × Word)) : Dev :=
  let at_ (l : List (Nat × Word)) (k : Nat) : Word := ((l.find? (fun e => e.1 == k)).map (fun e => e.2)).getD (crc64 [])
  let keys := ((a ++ b).map (fun e => e.1)).eraseDups
  keys.foldl (fun (d : Dev) k => if k < 4096 then d.compareLeg k (at_ a k == at_ b k) else d.compareRender (k - 4096) (at_ a k == at_ b k)) d

/-- Epochs of which both sets are present are compared. -/
def Dev.compareDigests (d : Dev) : Dev :=
  (d.pair.own.filter (fun o => d.pair.theirs.any (fun t => t.1 == o.1))).foldl (fun (d : Dev) o =>
    match d.pair.theirs.find? (fun t => t.1 == o.1) with
    | none => d
    | some t => (d.compareSets o.2.2 t.2).onPair (fun p => { p with
        own := p.own.filter (fun x => x.1 != o.1)
        theirs := p.theirs.filter (fun x => x.1 != o.1) })) d

/-- Nothing of an epoch remains to be built: two epochs have passed, the manifest of the epoch is worked through, and no encode job waits
(R684, log entry 36). -/
def Dev.epochBuilt (d : Dev) (e b : Nat) : Bool :=
  decide (e + 2 ≤ b) && (decide (d.pair.role = .primary) || decide (e < d.pair.done)) && d.geode.enc.all (fun x => x.2.jobs.isEmpty)

/-- The digests of one epoch closed and sent. -/
def Dev.closeDigest (d : Dev) : Dev :=
  let e := d.pair.nextDigest
  if decide (d.pair.partner ≠ .ready) || !d.epochBuilt e (d.now / msT) then d
  else
    let s := d.digestsOf e
    let d := d.onPair (fun p => { p with
      nextDigest := e + 1
      own := p.own ++ [(e, d.now, s)]
      built := p.built.filter (fun b => decide (e < b.epoch))
      renders := p.renders.filter (fun r => decide (e < r.1)) })
    (d.linkSend ltDigest (leBytes 8 e ++ s.flatMap (fun x => leBytes 4 x.1 ++ leBytes 8 x.2.toNat))).compareDigests

/-- The row DIGEST: the partner's set. -/
def execDigest (f : LinkHdr) (epoch : Nat) (digests : List (Nat × Word)) (s : State) : Host.Outcome State Fault Refusal :=
  .next (s.act (fun d => d.linkAccept f (fun d =>
    if d.pair.partner = .ready then (d.onPair (fun p => { p with theirs := p.theirs ++ [(epoch, digests)] })).compareDigests else d)))

/-- RESYNC_DONE: the transfer and the refreshes of a leg are complete (R685). -/
def Dev.resyncDone (d : Dev) (l : Nat) : Dev :=
  let sent := d.pair.resyncing.contains (l + 4096) || (decide (d.pair.role = .secondary) && d.pair.resyncing.contains l)
  if !sent || (d.legEncoders l).any (fun i => (d.encS i).refreshing) then d
  else
    let d := if d.pair.role = .secondary then (match Config.transferred d.pair.chunks with | some t => d.installLeg l t | none => d) else d
    let d := d.onPair (fun p => { p with
      resyncing := p.resyncing.filter (fun n => n % 4096 != l)
      chunks := if p.role = .secondary then [] else p.chunks })
    (d.pairEvent 7 l 0).finish 0x0C03 l .ok 0 d.short

/-- The row RESYNC_DONE. -/
def execResyncDone (leg : Nat) (s : State) : Host.Outcome State Fault Refusal := .next (s.act (fun d => if leg < 4096 then d.resyncDone leg else d))

/-! ### The manifest (R672 to R676) -/

/-- An entry matches a packet received: leg, stream and number, of RTP its low 16 bits. -/
def Listed.fits (x : Listed) (p : Stash) : Bool :=
  x.leg == p.leg && x.stream == p.stream && (if x.stream < 16 then x.seq % 65536 == p.seq % 65536 else x.seq == p.seq)

/-- Entries that can be matched are. -/
def Dev.matchListed (d : Dev) : Dev :=
  d.pair.listed.foldl (fun (d : Dev) x =>
    if x.isEnd || x.packet.isSome || x.refused then d
    else match takeFirst x.fits d.pair.stash with
      | none => d
      | some (p, rest) => d.onPair (fun q => { q with
          stash := rest
          listed := q.listed.map (fun y => if y.index = x.index ∧ y.isEnd = false then { y with packet := some p } else y) })) d

/-- A packet worked through with an arrival stamp. -/
def Dev.playPacket (d : Dev) (p : Stash) (stamp : Time) : Dev :=
  match ipParse (ethParse p.frame) with
  | .udp u => (d.contentAt stamp).legDatagram p.leg p.port stamp p.frame u.data p.waiting
  | _ => d

/-- Entries worked through in order. -/
def Dev.playListed (d : Dev) (l : List Listed) : Dev :=
  l.foldl (fun (d : Dev) x => match x.packet with | some p => d.playPacket p x.stamp | none => d) d

/-- Own packets of an epoch or before that no entry lists are discarded (R676). -/
def Dev.dropUnlisted (d : Dev) (e : Nat) : Dev :=
  let gone := d.pair.stash.filter (fun p => decide (p.stamp / msT ≤ e))
  (d.onPair (fun p => { p with stash := p.stash.filter (fun x => decide (e < x.stamp / msT)) })).bump pgPair 0x088 gone.length

/-- Closed epochs all of whose entries are held or refused are worked through, the oldest first. -/
def Dev.playClosed : Nat → Dev → Dev
  | 0, d => d
  | fuel + 1, d =>
    match d.pair.listed.find? (fun x => x.isEnd) with
    | none => d
    | some z =>
      let first := d.pair.listed.takeWhile (fun x => !x.isEnd)
      if first.any (fun x => x.packet.isNone && !x.refused) then d
      else
        let d := d.onPair (fun p => { p with listed := (p.listed.dropWhile (fun x => !x.isEnd)).drop 1 })
        let d := (d.playListed first).dropUnlisted (z.stamp / msT)
        Dev.playClosed fuel (d.onPair (fun p => { p with done := z.stamp / msT + 1 }))

/-- How many entries after those acknowledged are held, without a break. -/
def ackRun : Nat → Nat → List Listed → Nat
  | 0, n, _ => n
  | fuel + 1, n, l => if l.any (fun x => !x.isEnd && x.index == n && (x.packet.isSome || x.refused)) then ackRun fuel (n + 1) l else n

/-- MANIFEST_ACK of the last contiguous entry held (R673). -/
def Dev.sendManifestAck (d : Dev) : Dev :=
  let n := ackRun d.pair.listed.length d.pair.acked d.pair.listed
  if n = d.pair.acked then d else (d.onPair (fun p => { p with acked := n })).linkSend ltManifestAck (leBytes 4 (n - 1))

/-- The secondary's entries after a change: matched, acknowledged, and closed epochs worked through. -/
def Dev.follow (d : Dev) : Dev :=
  let d := (d.matchListed).sendManifestAck
  if d.pair.partner = .ready then Dev.playClosed (d.pair.listed.length + 1) d else d

/-- The epoch that an END closes: the one before the frame's (R672). -/
def Dev.closedEpoch (d : Dev) (f : LinkHdr) : Nat :=
  let now := d.now / msT
  ((now : Int) + signed 32 (wrapTo 32 ((f.epoch : Int) - (now : Int)))).toNat - 1

/-- Entries of a MANIFEST frame taken in, numbered, and asked for where no packet matches. -/
def Dev.manifest (d : Dev) (f : LinkHdr) (entries : List ManifestEntry) : Dev :=
  if d.pair.role ≠ .secondary then d
  else
    let d := entries.foldl (fun (d : Dev) e =>
      if e.isEnd then d.onPair (fun p => { p with listed := p.listed ++ [{ index := p.nextIn, leg := 0, stream := 0, seq := e.seq, stamp := d.closedEpoch f * msT, isEnd := true }] })
      else d.onPair (fun p => { p with
        nextIn := p.nextIn + 1
        listed := p.listed ++ [{ index := p.nextIn, leg := e.leg % 4096, stream := e.stream, seq := e.seq, stamp := nearShort d.now (BitVec.ofNat 64 e.stamp), isEnd := false }] })) d
    let old := d.pair.nextIn - (entries.filter (fun e => !e.isEnd)).length
    let d := d.follow
    let miss := d.pair.listed.filter (fun x => !x.isEnd && decide (old ≤ x.index) && x.packet.isNone && !x.refused)
    if miss.isEmpty then d else d.linkSend ltRelayReq (miss.flatMap (fun x => leBytes 4 x.index))

/-- The row MANIFEST. -/
def execManifest (f : LinkHdr) (entries : List ManifestEntry) (s : State) : Host.Outcome State Fault Refusal :=
  .next (s.act (fun d => d.linkAccept f (fun d => d.manifest f entries)))

/-- MANIFEST_ACK: egress packets of the entries held by the partner leave (R674). -/
def Dev.manifestAcked (d : Dev) (i : Nat) : Dev :=
  let go := d.pair.held.filter (fun e => decide (e.1 ≤ i))
  go.foldl (fun (d : Dev) e => d.enqueue e.2.1 e.2.2) (d.onPair (fun p => { p with held := p.held.filter (fun e => decide (i < e.1)) }))

/-- The row MANIFEST_ACK. -/
def execManifestAck (f : LinkHdr) (index : Nat) (s : State) : Host.Outcome State Fault Refusal :=
  .next (s.act (fun d => d.linkAccept f (fun d => if d.pair.role = .primary then d.manifestAcked index else d)))

/-- Cells of 2 KB that relayed packets waiting to be sent take (Table 1-9). -/
def relayCells (l : List LinkFrame) : Nat := sumN ((l.filter (fun f => f.type == ltRelayData)).map (fun f => (f.bytes.length + 2047) / 2048))

/-- RELAY_REQ: the packet, when it was accepted within the last 10 epochs and the relay queue of 32 + 32 + 32,768 cells has room for it, or a
refusal (R675, Table 1-9). -/
def Dev.relayAnswer (d : Dev) (i : Nat) : Dev :=
  match d.pair.kept.find? (fun e => e.1 == i && decide (d.now / msT < e.2.stamp / msT + 10) &&
      decide (relayCells d.pair.ready + (e.2.frame.length + 5 + 2047) / 2048 ≤ 32832)) with
  | some e => (d.inc pgPair 0x078).linkSend ltRelayData (leBytes 4 i ++ [0] ++ e.2.frame)
  | none =>
    let d := (d.inc pgPair 0x080).linkSend ltRelayData (leBytes 4 i ++ [1])
    match d.pair.kept.find? (fun e => e.1 == i) with
    | some e => d.diverged e.2.leg
    | none => d

/-- The row RELAY_REQ. -/
def execRelayReq (f : LinkHdr) (indexes : List Nat) (s : State) : Host.Outcome State Fault Refusal :=
  .next (s.act (fun d => d.linkAccept f (fun d => if d.pair.role = .primary then indexes.foldl (fun (d : Dev) i => d.relayAnswer i) d else d)))

/-- RELAY_DATA: a packet fetched, or refused and so absent. -/
def Dev.relayed (d : Dev) (i : Nat) (packet : Option (List Byte)) : Dev :=
  match d.pair.listed.find? (fun x => x.index == i && !x.isEnd && x.packet.isNone && !x.refused) with
  | none => d
  | some x =>
    let put (y : Listed) : Listed :=
      match packet with
      | some b => { y with packet := some ⟨x.leg, x.stream, x.seq, (d.leg x.leg).desc.port, x.stamp, b, 0⟩ }
      | none => { y with refused := true }
    let d := d.onPair (fun p => { p with listed := p.listed.map (fun y => if y.index = i ∧ y.isEnd = false then put y else y) })
    let d := if packet.isSome then d.inc pgPair 0x078 else (d.inc pgPair 0x080).diverged x.leg
    d.follow

/-- The row RELAY_DATA. -/
def execRelayData (f : LinkHdr) (index : Nat) (packet : Option (List Byte)) (s : State) : Host.Outcome State Fault Refusal :=
  .next (s.act (fun d => d.linkAccept f (fun d => if d.pair.role = .secondary then d.relayed index packet else d)))

/-! ### The decision log (R678, R679, Table 14-9): record kinds and figures are the model's (log entry 37) -/

/-- A point as two figures; none is -1. -/
def pointVals (p : Option (Nat × Nat)) : List Int := match p with | some (a, b) => [(a : Int), (b : Int)] | none => [-1, -1]

/-- The records of the boundary: what policy, talkers, edges, the servo and Flint decided, and the watermarks. -/
def Dev.logRecords (d : Dev) (e : Nat) : List LogRecord :=
  let mk (kind obj : Nat) (vals : List Int) : LogRecord := ⟨e, kind, obj, vals⟩
  let out := d.legs.legs.filter (fun x => decide (x.2.state ≠ .idle))
  let act := out.filter (fun x => decide (x.2.state = .active))
  out.map (fun x => mk 0 x.1 ([x.2.est, (x.2.verdict.code : Int), (x.2.holdUntil : Int), (x.2.lastReport : Int)] ++ x.2.baseHist.flatMap (fun h => [(h.1 : Int), h.2]))) ++
  out.map (fun x => mk 12 x.1 ([(x.2.consentFrom : Int), (x.2.nextConsent : Int), (x.2.nextRtcp : Int), (x.2.nextFb : Int)] ++ x.2.stunIds.flatMap (fun i => [(i.1 : Int), (i.2 : Int)]))) ++
  d.instList.filterMap (fun x => x.2.decided.map (fun p => mk 1 x.1 (pointVals p ++ [x.2.grant, match x.2.lastDown with | some t => (t : Int) | none => -1]))) ++
  act.filterMap (fun x => x.2.pace.map (fun p => mk 2 x.1 [(p.1 : Int), (p.2 : Int)])) ++
  (d.geode.enc.filter (fun x => decide (x.2.state ≠ .idle) && x.2.desc.source == 0)).map (fun x => mk 3 x.1 ((x.2.nextTargets.getD x.2.targets).map (fun (n : Nat) => (n : Int)))) ++
  [mk 4 0 (d.legs.suspended.flatMap (fun x => [(x.1 : Int), (x.2.1 : Int), (x.2.2 : Int)])),
   mk 13 0 (d.legs.toResume.flatMap (fun x => [(x.1 : Int), (x.2.1 : Int), (x.2.2 : Int)]))] ++
  d.confsInUse.filterMap (fun c => (d.conf c).decided.map (fun l => mk 7 c (l.map (fun (m : Option Nat) => match m with | some n => (n : Int) | none => -1)))) ++
  (d.audio.rx.filter (fun x => x.2.opened && x.2.desc.async)).map (fun x => mk 8 x.1 [x.2.ratio, if x.2.muted then 1 else 0]) ++
  (d.audio.tdm.filter (fun x => d.tdmAsync x.1)).map (fun x => mk 8 (4096 + x.1) [x.2.ratio, if x.2.muted then 1 else 0]) ++
  (if d.ptp.servo = .holdover then [] else [mk 9 0 [(d.ptp.servo.code : Int), (d.ptp.refuseCause : Int)]]) ++
  (d.flint.ctxs.filter (fun x => !((d.slot x.1).current.any KeyHalf.egress))).flatMap (fun x => x.2.filterMap (fun c => c.switchAt.map (fun i => mk 10 x.1 [(c.ssrc : Int), (i : Int)]))) ++
  d.pair.marks.filterMap (fun x => x.2.map (fun q => mk 11 x.1 [(q : Int)]))

/-- Figure `i` of a record. -/
def recVal (r : LogRecord) (i : Nat) : Int := nthD 0 r.vals i
def recNat (r : LogRecord) (i : Nat) : Nat := (recVal r i).toNat

/-- Verdict and servo state of a code. -/
def verdictOf (n : Nat) : Verdict := if n = 1 then .increase else if n = 2 then .decreaseLoss else if n = 3 then .decreaseDelay else .steady

/-- Pairs of figures. -/
def pairsOf : List Int → List (Int × Int)
  | a :: b :: t => (a, b) :: pairsOf t
  | _ => []

/-- Triples of figures. -/
def triplesOf : List Int → List (Nat × Nat × Nat)
  | a :: b :: c :: t => (a.toNat, b.toNat, c.toNat) :: triplesOf t
  | _ => []

/-- The servo makes the primary's transition (R128); from FREERUN it steps by its own offset at the primary's epoch `e`, or by the first it
measures. -/
def Dev.servoRecord (d : Dev) (e code cause : Nat) : Dev :=
  if d.ptp.servo = .holdover ∨ d.ptp.servo.code = code then d
  else if code = 1 then
    if d.ptp.servo = .freerun then
      (if d.ptp.step.isSome then d
       else if d.ptp.offAt.isNone then { d with ptp := { d.ptp with freerunEnds := some e } }
       else { d with ptp := { d.ptp with step := some ⟨d.ptp.offset, e⟩ } })
    else d.enterAcquiring
  else if code = 2 then d.enterLocked
  else if code = 4 then d.enterRefused cause
  else d

/-- Packets at or below a watermark leave the queues unsent (R679). -/
def Dev.dropMarked (d : Dev) (l ssrc seq : Nat) : Dev :=
  let n := l % 4096
  let gone (f : EFrame) : Bool := decide (f.leg = some n) && f.ssrc == ssrc &&
    (if 4096 ≤ l then f.srtcp && decide (f.seq ≤ seq) else f.rtp && decide ((seq + 65536 - f.seq % 65536) % 65536 < 32768))
  let cut (k : Nat) (d : Dev) : Dev :=
    if (d.queue k).frames.any gone then
      let d := d.onQueue k (fun q => { q with frames := q.frames.filter (fun f => !gone f) })
      if (d.queue k).frames.isEmpty then d.emptied k else d
    else d
  if 4096 ≤ l then cut (ctrlQ (d.leg n).desc.port) d else cut (d.repairQ n) (cut (d.mediaQ n) d)

/-- The secondary applies a record. -/
def Dev.applyRecord (d : Dev) (r : LogRecord) : Dev :=
  if r.kind = 0 then d.onLeg (r.obj % 4096) (fun x => { x.dropFeedback with
    est := recVal r 0
    verdict := verdictOf (recNat r 1)
    holdUntil := recNat r 2
    lastReport := recNat r 3
    baseHist := (pairsOf (r.vals.drop 4)).map (fun p => (p.1.toNat, p.2)) })
  else if r.kind = 1 then d.onInst r.obj (fun x => { x with
    decided := some (if recVal r 0 < 0 then none else some (recNat r 0, recNat r 1))
    grant := recVal r 2
    lastDown := if recVal r 3 < 0 then none else some (recNat r 3) })
  else if r.kind = 2 then d.onLeg (r.obj % 4096) (fun x => { x with pace := some (recNat r 0, recNat r 1) })
  else if r.kind = 3 then d.onEncS r.obj (fun x => { x with nextTargets := some (r.vals.map Int.toNat) })
  else if r.kind = 4 then
    let new := triplesOf r.vals
    let d := d.legs.suspended.foldl (fun (d : Dev) x => if new.contains x then d else d.resumeLayer x.1 x.2.1 x.2.2) d
    let d := { d with legs := { d.legs with suspended := new, resuming := d.legs.resuming.filter (fun x => !new.contains x) } }
    (new.map (fun x => (x.1, x.2.1))).eraseDups.foldl (fun (d : Dev) o => d.suspendState o.1 o.2) d
  else if r.kind = 5 then
    if recVal r 1 = 0 then d.onStream (r.obj % 4096) (recNat r 0) (fun s => { s with
      gaps := s.gaps.map (fun g => if r.vals.drop 2 |>.contains (g.seq : Int) then { g with tries := g.tries + 1, last := d.now } else g) })
    else d.onStream (r.obj % 4096) (recNat r 0) (fun s => { s with need := { s.need with lastSent := some d.now } })
  else if r.kind = 6 then
    let l := r.obj % 4096
    let d := if (d.leg l).state = .active then d.moveLeg l .held 1 else d
    if (d.leg l).state = .held then ((d.inc pgLegs 0x0E0).onLeg l (fun x => { x with expired := true })).legEvent l 0 0 else d
  else if r.kind = 7 then d.setConf r.obj { d.conf r.obj with decided := some (r.vals.map (fun (v : Int) => if v < 0 then none else some v.toNat)) }
  else if r.kind = 8 then
    if r.obj < 4096 then d.setRx r.obj { d.rx r.obj with ratio := recVal r 0, muted := recVal r 1 == 1 }
    else d.setTdm (r.obj - 4096) { d.tdm (r.obj - 4096) with ratio := recVal r 0, muted := recVal r 1 == 1 }
  else if r.kind = 9 then d.servoRecord r.epoch (recNat r 0) (recNat r 1)
  else if r.kind = 10 then d.setCtxs (r.obj % 16384) ((d.slotCtxs (r.obj % 16384)).map (fun c => if (c.ssrc : Int) = recVal r 0 then { c with switchAt := some (recNat r 1) } else c))
  else if r.kind = 12 then d.onLeg (r.obj % 4096) (fun x => { x with
    consentFrom := recNat r 0
    nextConsent := recNat r 1
    nextRtcp := recNat r 2
    nextFb := recNat r 3
    stunIds := (pairsOf (r.vals.drop 4)).map (fun p => (p.1.toNat, p.2.toNat)) })
  else if r.kind = 14 then d.switchRecord (r.obj % 16384) ((pairsOf r.vals).map (fun p => (p.1.toNat, p.2.toNat)))
  else if r.kind = 13 then { d with legs := { d.legs with toResume := triplesOf r.vals } }
  else if r.kind = 11 then d.dropMarked (r.obj / 4294967296) (r.obj % 4294967296) (recNat r 0)
  else d

/-- Records of epochs that have come are applied, the others wait; all of them wait for the end of a join. -/
def Dev.applyDue (d : Dev) : Dev :=
  let e := d.now / msT
  let go := if d.pair.partner = .ready then d.pair.due.filter (fun r => decide (r.epoch ≤ e)) else []
  go.foldl (fun (d : Dev) r => d.applyRecord r) (d.onPair (fun p => { p with due := if p.partner = .ready then p.due.filter (fun r => decide (e < r.epoch)) else p.due }))

/-- The row LOG. -/
def execLog (f : LinkHdr) (records : List LogRecord) (s : State) : Host.Outcome State Fault Refusal :=
  .next (s.act (fun d => d.linkAccept f (fun d =>
    if d.pair.role = .secondary then (d.onPair (fun p => { p with due := p.due ++ records })).applyDue else d)))

/-- A record as bytes. -/
def recBytes (r : LogRecord) : List Byte :=
  leBytes 8 r.epoch ++ leBytes 2 r.kind ++ leBytes 8 r.obj ++ leBytes 4 r.vals.length ++ r.vals.flatMap (fun v => leBytes 8 (wrapTo 64 v))

/-! ### Takeover (R690) -/

/-- At T a READY secondary becomes PRIMARY. -/
def Dev.failover (d : Dev) : Dev :=
  match d.pair.takeover with
  | none => d
  | some (t, cause) =>
    if decide (d.now < t) || decide (d.pair.role ≠ .secondary) || decide (d.pair.partner ≠ .ready) then d
    else
      let d := d.becomes .primary cause
      let l := d.pair.listed.filter (fun x => !x.isEnd)
      let own := d.pair.stash
      let d := d.onPair (fun p => { p with takeover := none, driving := false, listed := [], stash := [] })
      let d := d.settleHalves.playListed l
      let d := own.foldl (fun (d : Dev) p => d.playPacket p p.stamp) d
      let d := d.geode.enc.foldl (fun (d : Dev) e => if e.2.state = .idle ∨ e.2.state = .closing then d else d.encTrigger e.1 false) d
      let d := (d.garnet.cores.filter (fun e => e.2.task)).foldl (fun (d : Dev) e => d.restartTask e.1) d
      let d := (d.pairForget).onPair (fun p => { p with
        partner := if cause = 3 then .ready else .lost
        joinAt := if cause = 3 then some t else none
        nextDigest := t / msT + 1 })
      (d.pairEvent 3 cause 0).inc pgPair 0x0B8

/-- The row FAILOVER_TAKEOVER. -/
def execFailoverTakeover (s : State) : Host.Outcome State Fault Refusal := .next (s.act Dev.failover)

/-! ### The epoch boundary -/

/-- The pair's work at epoch boundary `b`: the END entry and the LOG, a join that starts, transfers of legs, a surrender, digests. -/
def Dev.pairEpoch (d : Dev) (b : Time) : Dev :=
  if !d.paired then d
  else
    let d := if !d.joined then d
      else
        let n := d.pair.count
        let d := d.onPair (fun p => { p with count := 0 })
        let d := d.linkSend ltManifest ([0, 0, 0, 1] ++ leBytes 4 n ++ List.replicate 8 0)
        let l := d.logRecords (b / msT) ++ d.pair.log
        let d := d.onPair (fun p => { p with log := [], marks := [] })
        d.linkSend ltLog (l.flatMap recBytes)
    let d := d.joinStart b
    let d := if d.pair.role = .primary then
        (d.pair.resyncing.filter (fun n => decide (n < 4096))).foldl (fun (d : Dev) n =>
          ((d.sendState (4 + 65536 * (n + 1)) b).sendState (5 + 65536 * (n + 1)) b).onPair (fun p => { p with
            resyncing := p.resyncing.map (fun x => if x = n then n + 4096 else x) })) d
      else d.applyDue
    let d := d.closeDigest.closeDigest
    d.surrenderAt b

end Sys2Proof.Machine
end

