-- ==== Sys2Proof/Machine/Frame.lean ====
section
/-! DEFINITION. A frame received on a media port: the MAC, the checks of R636 and R640 to R644, and where it goes: Quartz, a network stream, a
leg, or the host-bound queue. -/

namespace Sys2Proof.Machine
open Sys2Proof

/-! ### PTP messages in frames (IEEE 1588-2019, clause 13) -/

/-- The common header; `tr`, `vlan`, `mac` and `ip` are how and from where the message came. -/
def ptpHdr (tr vlan mac : Nat) (ip : List Byte) (b : List Byte) : PtpHdr := {
  domain := beAt b 4 1
  version := beAt b 1 1 % 16
  transport := tr
  vlan := vlan
  srcId := BitVec.ofNat 64 (beAt b 20 8)
  srcPort := beAt b 28 2
  seq := beAt b 30 2
  twoStep := beAt b 6 1 / 2 % 2 == 1
  logInterval := signed 8 (beAt b 33 1)
  correction := signed 64 (beAt b 8 8)
  minor := beAt b 1 1 / 16
  srcMac := mac
  srcIp := ip
  held := false }

/-- The timestamp at byte 34, in `Time` units. -/
def ptpTime (b : List Byte) : Nat := beAt b 34 6 * secT + beAt b 40 4 * nsT

/-- The frame rate of the ST 2059-2 synchronization metadata TLV among the TLVs of a message: an organization extension of SMPTE (PRESUMED, log
entry 87); every other TLV is passed over (R98). -/
def smpteTlv : Nat → List Byte → Nat × Nat
  | 0, _ => (0, 0)
  | fuel + 1, l =>
    if l.length < 4 then (0, 0)
    else if beAt l 0 2 = 3 ∧ 14 ≤ beAt l 2 2 ∧ beAt l 4 6 = 0x6897E8000001 then (beAt l 10 4, beAt l 14 4)
    else smpteTlv fuel (l.drop (4 + beAt l 2 2))

/-- An Announce in a message. -/
def ptpAnnounce (h : PtpHdr) (stamp : Time) (b : List Byte) : AnnounceMsg := {
  h := h
  stamp := stamp
  gmId := BitVec.ofNat 64 (beAt b 53 8)
  priority1 := beAt b 47 1
  clockClass := beAt b 48 1
  accuracy := beAt b 49 1
  variance := beAt b 50 2
  priority2 := beAt b 52 1
  steps := beAt b 61 2
  utcOffset := beAt b 44 2
  utcValid := beAt b 7 1 / 4 % 2 == 1
  leap61 := beAt b 7 1 % 2 == 1
  leap59 := beAt b 7 1 / 2 % 2 == 1
  smpteNum := (smpteTlv b.length (b.drop 64)).1
  smpteDen := (smpteTlv b.length (b.drop 64)).2 }

/-- The unit's port identity: an ordinary clock has port 1. -/
def ptpIdentity : List Byte := beBytes 8 Config.clockIdentity.toNat ++ beBytes 2 1

/-- A Management message: counted and not answered; the master's TLV is read (R98). -/
def Dev.ptpManagement (d : Dev) (h : PtpHdr) (b : List Byte) : Dev :=
  let rate := smpteTlv b.length (b.drop 48)
  let d := if d.ptpOk h none && d.fromMaster h && rate != (0, 0) then { d with ptp := { d.ptp with smpte := rate } } else d
  d.inc pgQuartz 0x170

/-- A PTP message on the PTP port. Types that an ordinary slave does not take have no effect when they pass the checks of R99. -/
def Dev.ptpMessage (d : Dev) (h : PtpHdr) (stamp : Time) (b : List Byte) : Dev :=
  let t := beAt b 0 1 % 16
  if t = 0 then d.sync ⟨h, stamp, ptpTime b⟩
  else if t = 8 then d.followUp ⟨h, ptpTime b⟩
  else if t = 9 then d.delayResp ⟨h, ptpTime b, decide ((b.drop 44).take 10 = ptpIdentity)⟩
  else if t = 11 then d.announce (ptpAnnounce h stamp b)
  else if t = 13 then d.ptpManagement h b
  else if d.ptpOk h none then d
  else d.inc pgQuartz 0x170

/-- A PTP message received: Quartz's on the PTP port while PTP runs, otherwise the host's (R99). `stamp` is the instant at the lane boundary. -/
def Dev.ptpFrame (d : Dev) (p : Nat) (h : PtpHdr) (stamp : Time) (frame b : List Byte) : Dev :=
  if d.ptpOn && p == fld (d.reg pgQuartz 0x068) 1 3 then d.ptpMessage h stamp b else d.toHost p frame

/-! ### Delay_Req (R100, R109, R110) -/

/-- The 44-byte message, whose originTimestamp is written as it leaves (the layout is IEEE 1588's). -/
def delayReqBytes (domain seq : Nat) (unicast : Bool) : List Byte :=
  [0x01, 0x02] ++ beBytes 2 44 ++ beBytes 1 domain ++ [0, if unicast then 4 else 0, 0] ++ beBytes 8 0 ++ beBytes 4 0 ++ ptpIdentity ++
  beBytes 2 seq ++ [0x01, 0x7F] ++ beBytes 10 0

/-- The frame of a Delay_Req: multicast, or to the master's own addresses when HYBRID is 1; over Ethernet, over IPv4 with UDP checksum 0, or over
IPv6 with two bytes after the message (R98, R110). -/
def Dev.delayReqFrame (d : Dev) (seq : Nat) : List Byte :=
  let cfg := d.reg pgQuartz 0x068
  let p := fld cfg 1 3
  let hybrid := bit cfg 8
  let m := delayReqBytes (fld cfg 16 8) seq hybrid
  let from_ : Option PtpHdr := if hybrid then d.ptp.info.map AnnounceMsg.h else none
  let mac (group : Nat) : List Byte := beBytes 6 ((from_.map PtpHdr.srcMac).getD group)
  let ip (group : List Byte) : List Byte := (from_.map PtpHdr.srcIp).getD group
  let ttl := fld (d.portCfg p) 8 8
  let vlan := fld cfg 24 12
  let src := d.macAddr p
  if fld cfg 6 2 = 2 then etherFrame (mac 0x011B19000000) src vlan 0 0x88F7 m
  else if fld cfg 6 2 = 0 then
    etherFrame (mac 0x01005E000181) src vlan 0 0x0800 (ipv4Packet 0 ttl ((List.range 4).map (Config.ptpSource false p)) (ip [224, 0, 1, 129])
      (beBytes 2 319 ++ beBytes 2 319 ++ beBytes 2 52 ++ [0, 0] ++ m))
  else
    let a := (List.range 16).map (Config.ptpSource true p)
    let z := ip ([0xFF, 0x0E] ++ List.replicate 12 0 ++ [0x01, 0x81])
    etherFrame (mac 0x333300000181) src vlan 0 0x86DD (ipv6Packet 0 ttl a z (udpDatagram true a z 319 319 (m ++ [0, 0])))

/-- A Delay_Req at its drawn time joins the port's control queue; `draw` places the next one between 0 and twice the interval (R100, R530). -/
def Dev.delayReq (d : Dev) (draw : Nat) : Dev :=
  match d.ptp.nextReq with
  | none => d
  | some t =>
    if !d.ptpOn || d.ptp.master.isNone || decide (d.now < t) then d
    else
      let iv := pow2Sec (d.ptp.reqLog.getD d.ptp.syncLog)
      let seq := (d.ptp.reqSeq + 1) % 65536
      let b := d.delayReqFrame seq
      let d := { d with ptp := { d.ptp with
        reqSeq := seq
        t3 := none
        nextReq := some (d.now + draw % (2 * iv + 1)) } }
      d.enqueue (ctrlQ (fld (d.reg pgQuartz 0x068) 1 3)) { bytes := b, at_ := d.now, seq := seq, ptp := true }

/-- The row DELAY_REQ. -/
def execDelayReq (draw : Nat) (s : State) : Host.Outcome State Fault Refusal := .next (s.actReady (fun d => d.delayReq draw))

/-! ### Packets of legs -/

/-- How a secondary names a packet it received: the leg's stream, 0xFE or 0xFF, and its number (R673); `none` for one no manifest
lists. -/
def Dev.stashName (d : Dev) (l : Nat) (stamp : Time) (data : List Byte) : Option (Nat × Nat) :=
  let b := beAt data 0 1
  if data.isEmpty then none
  else if b ≤ 3 then some (0xFF, crc32 data)
  else if 128 ≤ b ∧ b ≤ 191 then
    if 192 ≤ beAt data 1 1 ∧ beAt data 1 1 ≤ 223 then some (0xFE, crc32 data)
    else match rtpParse data stamp with
      | none => none
      | some pk => (d.classifyRtp l pk).map (fun i => (i.1, pk.seq))
  else none

/-- A datagram that matches a leg: processed, or kept for the manifest on a secondary (R673, R676). -/
def Dev.legFrameIn (d : Dev) (l p : Nat) (stamp : Time) (frame data : List Byte) (waiting : Nat) : Dev :=
  if d.decides then (d.legDatagram l p stamp frame data waiting).onPair (fun q => { q with cur := none })
  else if decide (d.pair.partner ≠ .joining) && decide (d.pair.partner ≠ .ready) then d
  else match d.stashName l stamp data with
    | none =>
      let b := beAt data 0 1
      if data.isEmpty || (decide (128 ≤ b) && decide (b ≤ 191)) then d else d.toHost p frame
    | some (st, q) => (d.onPair (fun x => { x with stash := x.stash ++ [⟨l, st, q, p, stamp, frame, waiting⟩] })).follow

/-- A frame that the MAC accepted, without its FCS (R167, R644); its ingress stamp is taken from the instant at the lane boundary (R103). -/
def Dev.classify167 (d : Dev) (p : Nat) (raw : Time) (frame : List Byte) (waiting : Nat) : Dev :=
  let e := ethParse frame
  let stamp := d.rxStamp p raw
  if e.etype = 0x88F7 then d.ptpFrame p (ptpHdr 2 e.vlan (beAt frame 6 6) [] e.data) raw frame e.data
  else match ipParse e with
    | .host => d.toHost p frame
    | .ipErr => d.inc (pgPort p) 0x0C8
    | .udpErr => d.inc (pgPort p) 0x0D0
    | .udp u =>
      if u.dport = 319 ∨ u.dport = 320 then d.ptpFrame p (ptpHdr (if u.v6 then 1 else 0) e.vlan (beAt frame 6 6) u.src u.data) raw frame u.data
      else match d.netMatch p e.vlan u with
        | some k => d.netReceive k stamp u.data
        | none => match d.legMatch p e.vlan u with
          | some l => d.legFrameIn l p stamp frame u.data waiting
          | none => d.toHost p frame

/-- The destination address is one the port takes (R641). -/
def Dev.macTakes (d : Dev) (p : Nat) (dst : List Byte) : Bool :=
  let cfg := d.portCfg p
  let a := beAt dst 0 6
  a == fld (d.reg (pgPort p) 0x050) 0 48 || (if a = 0xFFFFFFFFFFFF then bit cfg 4 else bit cfg 3 && beAt dst 0 1 % 2 == 1) || bit cfg 2

/-- The MAC's checks of a frame from its destination address to its FCS (R640 to R643). -/
def Dev.macFrame (d : Dev) (p : Nat) (stamp : Time) (frame : List Byte) (waiting : Nat) : Dev :=
  let n := frame.length
  let body := frame.take (n - 4)
  let e := ethParse body
  if n < 64 then d.inc (pgPort p) 0x098
  else if 9220 < n then d.inc (pgPort p) 0x0A0
  else if leAt frame (n - 4) 4 ≠ crc32 body then d.inc (pgPort p) 0x090
  else
    let d := (d.inc (pgPort p) 0x070).bump (pgPort p) 0x078 n
    if !d.macTakes p e.dst then d.inc (pgPort p) 0x0B0
    else if e.badTag then d.inc (pgPort p) 0x0B8
    else if e.etype = 0x8808 then d.inc (pgPort p) 0x0C0
    else d.classify167 p stamp body waiting

/-- FRAME_RECEIVE: the columns of a frame on a port that is UP, the first of them with the start control character, which passed the lane boundary at
`stamp`. Code errors are counted in their lanes, and a frame with one is dropped (R608, R636). -/
def Dev.frameReceive (d : Dev) (p : Nat) (stamp : Time) (cols : List (List Sym)) (waiting : Nat) : Dev :=
  if !(decide (p < 8) && (d.plink p).up) then d
  else
    let d := d.codeErrors p cols
    match frameOf cols with
    | none => d.inc (pgPort p) 0x0A8
    | some frame => d.macFrame p stamp frame waiting

/-- The row FRAME_RECEIVE. -/
def execFrameReceive (port stamp : Nat) (columns : List (List Sym)) (waiting : Nat) (s : State) : Host.Outcome State Fault Refusal :=
  .next (s.actReady (fun d => d.frameReceive port stamp columns waiting))

end Sys2Proof.Machine
end

