-- ==== Sys2Proof/Machine/Boot.lean ====
section
/-! DEFINITION. Start-up (chapter 16): reset and the straps, the boot ROM's choice of an image and its authentication, READY, recovery mode,
the restarts Tiusk makes itself, and power. -/

namespace Sys2Proof.Machine
open Sys2Proof

/-! ### Flash and OTP (R757 to R759) -/

/-- A flash bank, 0 A and 1 B. -/
def AlwaysOn.bank (a : AlwaysOn) (b : Nat) : Bank := if b = 0 then a.bankA else a.bankB

/-- A bank's directory entry and image changed: the other directory copy is written with SEQ + 1 (R758). -/
def AlwaysOn.setBank (a : AlwaysOn) (b : Nat) (x : Bank) : AlwaysOn :=
  if b = 0 then
    { a with
      bankA := x
      dirSeq := a.dirSeq + 1 }
  else
    { a with
      bankB := x
      dirSeq := a.dirSeq + 1 }

/-- A bank in a state. -/
def AlwaysOn.toBank (a : AlwaysOn) (b : Nat) (st : BankState) : AlwaysOn := a.setBank b { a.bank b with state := st }

/-- The first bank in a state. -/
def AlwaysOn.findBank (a : AlwaysOn) (st : BankState) : Option Nat := [0, 1].find? (fun b => decide ((a.bank b).state = st))

/-- The SHA-384 that OTP holds for a key. -/
def AlwaysOn.otpHash (a : AlwaysOn) (k : Nat) : List Byte := tabGetD (List.replicate 48 0) a.keyHash k

/-- Codes of Table 16-4. -/
def BankState.code : BankState → Nat
  | .empty => 0 | .writing => 1 | .pending => 2 | .trial => 3 | .active => 4 | .valid => 5 | .failed => 6

/-- Codes of Table 16-6. -/
def UpdState.code : UpdState → Nat
  | .idle => 0 | .receiving => 1 | .verifying => 2 | .pending => 3 | .trial => 4 | .hosted => 5

/-- Codes of Table 16-2. -/
def Phase.code : Phase → Nat
  | .rom => 0 | .dramTrain => 1 | .load => 2 | .auth => 3 | .firmware => 4 | .role => 5 | .ready => 6 | .recovery => 7

/-- The state with its always-on part changed. -/
def State.onAon (s : State) (f : AlwaysOn → AlwaysOn) : State := { s with aon := f s.aon }

/-- The boot's state changed. -/
def Dev.onBoot (d : Dev) (f : Boot → Boot) : Dev := { d with boot := f d.boot }

/-! ### Images (Table 16-5) -/

/-- Fields of an image's header. -/
def imgKey (b : List Byte) : Nat := leAt b 2 2
def imgLength (b : List Byte) : Nat := leAt b 4 4
def imgVersion (b : List Byte) : Nat := leAt b 8 4
def imgSvn (b : List Byte) : Nat := leAt b 12 1
def imgSettings (b : List Byte) : Nat := leAt b 13 1
def imgState (b : List Byte) : Nat := leAt b 14 1
def imgRevoke (b : List Byte) : Nat := leAt b 15 1 % 16

/-- The SHA-384 of a byte string, 48 bytes. -/
def sha384 (l : List Byte) : List Byte := (List.range 48).map (Config.sha384 l)

/-- The first byte other than 0 from byte `o` on, of `n`. -/
def firstSet (b : List Byte) (o n : Nat) : Option Nat := ((List.range n).find? (fun i => leAt b (o + i) 1 != 0)).map (fun i => o + i)

/-- The checks of R761 over an image that takes `b`: the header field at which the first one fails, none when the image authenticates. -/
def AlwaysOn.imageBad (a : AlwaysOn) (b : List Byte) : Option Nat :=
  if leAt b 0 2 ≠ 1 then some 0
  else if 4 ≤ imgKey b ∨ a.revoked.getLsbD (imgKey b) = true then some 2
  else if imgLength b < 1024 ∨ 50331648 < imgLength b ∨ b.length < imgLength b then some 4
  else if 64 < imgSvn b ∨ imgSvn b < a.counter then some 12
  else if leAt b 15 1 ≠ imgRevoke b then some 15
  else if sha384 ((b.take (imgLength b)).drop 1024) ≠ (b.drop 16).take 48 then some 16
  else if sha384 ((b.drop 64).take 97) ≠ a.otpHash (imgKey b) then some 64
  else match firstSet b 161 95 with
    | some o => some o
    | none =>
      if !Config.ecdsaOk ((b.drop 64).take 97) (sha384 (b.take 256)) ((b.drop 256).take 96) then some 256
      else firstSet b 352 672

/-- A failed check of R761 counts one authentication failure. -/
def Dev.authFailed (d : Dev) : Dev := (d.onBoot (fun x => { x with authFails := satN 15 (x.authFails + 1) })).inc pgBoot 0x0A0

/-- The anti-rollback counter and the REVOKED bits advanced for an image (R762). -/
def AlwaysOn.advance (a : AlwaysOn) (svn revoke key : Nat) : AlwaysOn :=
  { a with
    counter := max a.counter svn
    revoked := a.revoked ||| BitVec.ofNat 4 (if revoke / 2 ^ key % 2 = 1 then revoke - 2 ^ key else revoke) }

/-- An advance would change OTP. -/
def AlwaysOn.advances (a : AlwaysOn) (svn revoke key : Nat) : Bool := decide (a.advance svn revoke key ≠ a)

/-! ### Starting an image -/

/-- The Mirror Link lanes powered ON, with their quads in service (R625). -/
def Dev.mirrorPower (d : Dev) : Dev :=
  let on (h : PageHdr) : PageHdr := { h with enable := true, state := if h.state = .off then .ready else h.state }
  let d := (d.onPage (pgQuad 8) on).onPage (pgQuad 9) on
  (List.range 8).foldl (fun (d : Dev) i =>
    let l := 32 + i
    (d.setReg (pgQuad (l / 4)) (0x100 + 0x40 * (l % 4)) (setFld (setFld (d.laneCfg l) 0 2 2) 2 2 2)).repower l) d

/-- Phase FIRMWARE and the wait of phase ROLE (Table 16-2): `bank` is where the image lies, none for one placed in memory. -/
def State.startImage (s : State) (bank : Option Nat) (b : List Byte) : State :=
  let f := imgSettings b
  let trial := match bank with | some k => decide ((s.aon.bank k).state = .trial) | none => false
  let a := if trial && decide (s.aon.recFmt < f) then { s.aon with recFmt := f, oldSettings := true }
    else if !trial && decide (f ≠ s.aon.recFmt) then { s.aon with recFmt := f, oldSettings := false } else s.aon
  let d := (s.dev.zeroAllSlots).onBoot (fun x => { x with
    phase := .role
    update := match bank with | some _ => if trial then .trial else .idle | none => .hosted
    runBank := bank.getD 0
    version := imgVersion b
    svn := imgSvn b
    settingsFmt := f
    stateFmt := imgState b
    revoke := imgRevoke b
    keyIndex := imgKey b
    image := b.take (imgLength b)
    trying := none
    goImage := none
    got := []
    total := 0 })
  let d := d.onPage pgQuartz (fun h => { h with state := if d.obs.selfFail % 2 = 1 ∨ d.clk.fallback = true then .faulted else .active })
  let d := if d.clk.refValid then d else d.refclkLost
  let d := if d.pair.strap = 1 ∨ d.pair.strap = 2 then (if d.pair.up then d.sendHello else d.mirrorPower) else d
  (s.onAon (fun _ => a)).setDev d

/-- The ROM enters recovery mode (R777): DRAM is trained, no media runs, and a unit of a pair trains the Mirror Link (R779). `fell` is set when
an authentication failure or the lack of a bank leads there (R764). -/
def Dev.enterRecovery (d : Dev) (fell : Bool) : Dev :=
  let d := d.onBoot (fun x => { x with
    phase := .recovery
    trying := none
    fallback := x.fallback || fell })
  if d.pair.strap = 1 ∨ d.pair.strap = 2 then d.mirrorPower else d

/-- The ROM tries a bank. -/
def State.tryBank (s : State) (b : Nat) (fell : Bool) : State :=
  { s with dev := s.dev.onBoot (fun x => { x with
    phase := .load
    trying := some b
    tried := x.tried ++ [b]
    fallback := x.fallback || fell }) }

/-- The bank the ROM chooses (R763). -/
def State.chooseBank (s : State) : State :=
  match s.aon.findBank .trial with
  | some t =>
    let s := s.onAon (fun a => a.toBank t .failed)
    (match s.aon.findBank .active with
    | some b => s.tryBank b (decide (s.dev.boot.lastRestart ≠ 2) && decide (s.dev.boot.lastRestart ≠ 4))
    | none => s.setDev (s.dev.enterRecovery true))
  | none => match s.aon.findBank .pending with
    | some b => (s.onAon (fun a => a.toBank b .trial)).tryBank b false
    | none => match s.aon.findBank .active with
      | some b => s.tryBank b false
      | none => s.setDev (s.dev.enterRecovery true)

/-- Phases ROM to LOAD: a bank left WRITING reads as EMPTY (Table 16-4), and the source of the image is chosen (Table 16-1). -/
def State.bootStart (s : State) : State :=
  let s := s.onAon (fun a => [0, 1].foldl (fun (a : AlwaysOn) b => if (a.bank b).state = .writing then a.setBank b {} else a) a)
  if s.dev.boot.recovery && !s.aon.ignoreRecovery then s.setDev (s.dev.enterRecovery false)
  else if s.dev.boot.bootSrc = 1 then { s with dev := s.dev.onBoot (fun x => { x with phase := .load }) }
  else s.chooseBank

/-! ### Reset -/

/-- What RESET_N leaves (R749): key SRAM lies in the always-on domain (R569, R831); the host's memory is not Tiusk's. `out` and `free` are
the model's own. -/
def Dev.afterReset (d : Dev) : Dev :=
  { flint := { keys := d.flint.keys }
    mem := { host := d.mem.host }
    ctl := { out := d.ctl.out, free := d.ctl.free } }

/-- RESET_N goes low (R749, R802): a freeze ends. -/
def State.resetLow (s : State) : State :=
  let d := if s.dev.obs.frozen then s.dev.emit (.frozen false) else s.dev
  { s with
    dev := d.afterReset
    aon := { s.aon with
      resetHigh := false
      ignoreRecovery := false } }

/-- The row RESET_ASSERT. -/
def execResetAssert (s : State) : Host.Outcome State Fault Refusal := .next s.resetLow

/-- The rise of RESET_N, or a restart with LAST_RESTART code `cause`: straps, TIME_REFCLK (R113), the reset-time tests (R813 to R815), and the boot
(R753). -/
def State.boot (s : State) (st : Straps) (cause : Nat) : State :=
  let run := (s.aon.armed ||| 0b1001).toNat
  let fail := run &&& st.testFail.toNat
  let chans := if fail / 4 % 2 = 1 then st.failChans else []
  let strap := st.pairRole.toNat
  let d := s.dev
  let d := { d with
    boot := { d.boot with
      bootSrc := st.bootSrc.toNat
      pairRole := strap
      recovery := st.recovery
      lastRestart := cause }
    clk := { d.clk with
      refclk := st.refclk.toNat
      refValid := decide (st.refclk ≠ 3) }
    pair := { d.pair with
      strap := strap
      role := if strap = 1 ∨ strap = 2 then .undecided else .solo }
    mem := { d.mem with trained := true }
    obs := { d.obs with
      selfRun := run
      selfFail := fail
      failPort := if fail / 2 % 2 = 1 then (st.failPort.getD 255) % 256 else 255
      failChan := (chans.headD 255) % 256 } }
  let d := chans.foldl (fun (d : Dev) c => d.channelFailure (c / 4) (c % 4)) d
  State.bootStart { s with
    dev := d
    aon := { s.aon with
      resetHigh := true
      armed := 0 } }

/-- The row RESET_RELEASE: RESET_N rises with the rails in range (R829). -/
def execResetRelease (st : Straps) (s : State) : Host.Outcome State Fault Refusal :=
  .next (if s.aon.auxOn && s.aon.railsOn && !s.aon.resetHigh then s.boot st 0 else s)

/-- The BOOT page counters, which an internal restart keeps (R752). -/
def bootCounters (t : Tab Word) : Tab Word := t.filter (fun e => decide (e.1 / 4096 = pgBoot))

/-- An internal restart acts as RESET_N, except that the straps keep their values and the BOOT page counters go on (R752). Which
reset-time tests then fail is free. -/
def State.restart (s : State) (cause : Nat) : State :=
  let b := s.dev.boot
  let v := s.dev.freeWord
  let st : Straps := ⟨BitVec.ofNat 2 b.bootSrc, BitVec.ofNat 2 b.pairRole, b.recovery, BitVec.ofNat 2 s.dev.clk.refclk,
    BitVec.ofNat 4 (fld v 0 4), some (fld v 8 8), [fld v 16 6]⟩
  let d := (s.dev.tickFree).afterReset
  State.boot { s with dev := { d with ctl := { d.ctl with counters := bootCounters s.dev.ctl.counters } } } st cause

/-- The restart that is due at an epoch boundary (R771). -/
def State.restartDue (s : State) : State :=
  match s.dev.boot.restartAt with
  | some (t, cause) => if s.dev.now < t then s else s.restart cause
  | none => s

/-- WATCHDOG_RESTART (R752): the firmware runs and has not served the watchdog for 500 ms. -/
def State.watchdog (s : State) : State :=
  if s.dev.boot.phase = .role ∨ s.dev.boot.phase = .ready then State.restart { s with dev := s.dev.inc pgBoot 0x0A8 } 3 else s

/-- The row WATCHDOG_RESTART. -/
def execWatchdogRestart (s : State) : Host.Outcome State Fault Refusal := .next (s.actAll State.watchdog)

/-! ### Authentication (R761, R764) -/

/-- BOOT_IMAGE_AUTH: the image of the bank being tried is checked. -/
def State.bootAuth (s : State) : State :=
  match s.dev.boot.trying with
  | none => s
  | some b =>
    let x := s.aon.bank b
    if (s.aon.imageBad x.bytes).isNone then s.startImage (some b) x.bytes
    else
      let s := { s.onAon (fun a => a.toBank b .failed) with dev := s.dev.authFailed }
      let other := 1 - b
      let st := (s.aon.bank other).state
      if s.dev.boot.tried.contains other || (decide (st ≠ BankState.active) && decide (st ≠ BankState.valid)) then s.setDev (s.dev.enterRecovery true)
      else (s.onAon (fun a => a.toBank other .active)).tryBank other true

/-- The row BOOT_IMAGE_AUTH. -/
def execBootImageAuth (s : State) : Host.Outcome State Fault Refusal := .next (s.actAll State.bootAuth)

/-! ### An image placed by the host (R756, R778) -/

/-- A partner's image is complete (R780). -/
def Boot.gotAll (x : Boot) : Bool := decide (0 < x.total) && decide (x.total ≤ x.got.length)

/-- LOAD_ADDR and LOAD_CTRL act now (R781). -/
def Dev.loadOpen (d : Dev) : Bool :=
  decide (d.boot.phase = .recovery) || (decide (d.boot.phase = .load) && d.boot.bootSrc == 1)

/-- GO: the image at LOAD_ADDR is checked under R761. -/
def State.go (s : State) : State :=
  let n := fld (s.dev.reg pgBoot 0x088) 32 32
  let b := s.dev.dramReads (fld (s.dev.reg pgBoot 0x080) 12 25 * 4096) (min n 50331648)
  if (s.aon.imageBad b).isNone then
    let d := s.dev.onBoot (fun x => { x with
      loadResult := Status.ok.code
      loadSource := 0
      goAt := s.dev.now })
    if d.boot.phase = .recovery then { s with dev := d.onBoot (fun x => { x with goImage := if x.gotAll then none else some (b.take (imgLength b)) }) }
    else State.startImage { s with dev := d } none b
  else
    let d := s.dev.authFailed.onBoot (fun x => { x with
      loadResult := Status.badArg.code
      loadSource := 0 })
    s.setDev (if decide (d.boot.phase = .load) && decide (2 ≤ d.boot.authFails) then d.enterRecovery true else d)

/-- A write of LOAD_CTRL, with GO or without (R781). -/
def State.loadCtrl (s : State) (v : Word) : State :=
  if !s.dev.loadOpen then { s with dev := s.dev.err pgBoot .badState }
  else
    let seen := s.dev.reg pgBoot 0x088 ||| fmk 8 8 s.dev.boot.loadResult ||| fmk 16 1 s.dev.boot.loadSource
    let m := match (pageType pgBoot).bind (fun t => t.regAt 0x088) with
      | some r => mergeFields r.flds (s.dev.reg pgBoot 0x088) seen v
      | none => (s.dev.reg pgBoot 0x088, [])
    let s := { s with dev := (s.dev.setReg pgBoot 0x088 m.1).errs pgBoot m.2 }
    if bit v 0 then s.go else s

/-- The row LOAD_GO: LOAD_CTRL written with GO 1. -/
def execLoadGo (v : Word) (s : State) : Host.Outcome State Fault Refusal := .next (s.actAll (fun s => s.loadCtrl (v ||| 1)))

/-- CONFIRM_CFG and LOAD_ADDR written. -/
def State.bootWrite (s : State) (off : Nat) (v : Word) : State :=
  if off = 0x078 then
    let m := s.dev.mergeAt pgBoot 0x078 v
    { s with
      dev := (s.dev.setReg pgBoot 0x078 m.1).errs pgBoot m.2
      aon := { s.aon with confirmTimeout := fld m.1 0 16 } }
  else if off = 0x088 then s.loadCtrl v
  else if off = 0x080 ∧ s.dev.loadOpen = false then { s with dev := s.dev.err pgBoot .badState }
  else match (pageType pgBoot).bind (fun t => t.regAt off) with
    | some r => { s with dev := s.dev.storeReg pgBoot r off v }
    | none => s

/-! ### Recovery (R777 to R780) -/

/-- IMAGE: a request, data or a refusal (Table 16-9); data is discarded once the host's image is complete (R780). -/
def State.image (s : State) (kind off total : Nat) (b : List Byte) : State :=
  let d := s.dev
  if kind = 0 then
    if decide (d.boot.phase = .recovery) || decide (d.pair.role = .undecided) then s
    else
      match if d.boot.update = .hosted then none else s.aon.findBank .active with
      | none => s.setDev (d.linkSend ltImage (imageBytes 2 0 0 []))
      | some k =>
        let x := (s.aon.bank k).bytes
        let n := imgLength x
        { s with dev := (List.range ((n + 9459) / 9460)).foldl (fun (d : Dev) i =>
          d.linkSend ltImage (imageBytes 1 (9460 * i) n (((x.take n).drop (9460 * i)).take 9460))) d }
  else if kind = 1 ∧ d.boot.phase = .recovery ∧ d.boot.goImage = none ∧ off = d.boot.got.length then
    { s with dev := d.onBoot (fun x => { x with
      got := x.got ++ b
      total := total }) }
  else s

/-- The row IMAGE. -/
def execImage (f : LinkHdr) (kind off total : Nat) (bytes : List Byte) (s : State) : Host.Outcome State Fault Refusal :=
  .next (s.actAll (fun s =>
    let ok := s.dev.pair.up && f.crcOk && f.seq == s.dev.pair.rxSeq
    let s := s.setDev (s.dev.linkAccept f id)
    if ok then s.image kind off total bytes else s))

/-- The recovery image is written to both banks, A ACTIVE and B VALID (R780). -/
def AlwaysOn.writeBoth (a : AlwaysOn) (b : List Byte) : AlwaysOn :=
  (a.setBank 0 ⟨.active, imgVersion b, imgSvn b, b⟩).setBank 1 ⟨.valid, imgVersion b, imgSvn b, b⟩

/-- A recovery image is started without a restart (R780). -/
def State.recover (s : State) (partner : Bool) : State :=
  if s.dev.boot.phase ≠ .recovery then s
  else
    let img := if partner then (if s.dev.boot.gotAll then some s.dev.boot.got else none) else s.dev.boot.goImage
    match img with
    | none => s
    | some b =>
      if (s.aon.imageBad b).isSome then
        { s with dev := s.dev.authFailed.onBoot (fun x => { x with
          got := []
          total := 0 }) }
      else
        let b := b.take (imgLength b)
        let keep := partner || bit (s.dev.reg pgBoot 0x088) 1
        let s := s.onAon (fun a => { (if keep then a.writeBoth b else a) with ignoreRecovery := true })
        let d := s.dev.onBoot (fun x => { x with
          recovered := true
          loadSource := if partner then 1 else 0 })
        State.startImage { s with dev := d } (if keep then some 0 else none) b

/-- The row RECOVERED. -/
def execRecovered (fromPartner : Bool) (s : State) : Host.Outcome State Fault Refusal := .next (s.actAll (fun s => s.recover fromPartner))

/-! ### READY -/

/-- BOOT events (Table 16-13): detail words are the bank and VERSION. -/
def Dev.bootEvent (d : Dev) (b bank version : Nat) : Dev := d.raise pgBoot b 0x005 (0x0E01 + b) (fmk 0 64 bank) (fmk 0 64 version)

/-- Before READY, once the ACTIVE image runs, OTP is advanced, or later while MARGIN_LOW is 1 (R762). -/
def State.bootAdvance (s : State) : State :=
  let b := s.dev.boot
  if b.update = .hosted ∨ (s.aon.bank b.runBank).state ≠ .active then s
  else if s.dev.pow.marginLow then { s with dev := s.dev.onBoot (fun x => { x with deferred := true }) }
  else s.onAon (fun a => a.advance b.svn b.revoke b.keyIndex)

/-- The first boundaries the unit acts on are those from READY on. -/
def Dev.startUnits (d : Dev) : Dev :=
  let now := d.now
  let c : Clock := { d.clk with
    nextEpoch := epochCeil now / msT
    nextBlock := blockCeil now
    nextTick := ceilTo usT now / usT }
  { d with
    clk := c
    audio := { d.audio with resume := blockCeil now } }

/-- What READY raises (Tables 16-13 and 17-13). -/
def Dev.readyEvents (d : Dev) : Dev :=
  let d := d.bootEvent 0 d.boot.runBank d.boot.version
  let d := if d.boot.fallback then (d.inc pgBoot 0x098).bootEvent 1 d.boot.runBank d.boot.version else d
  let d := if d.boot.recovered then (d.inc pgBoot 0x0B8).bootEvent 5 d.boot.runBank d.boot.version else d
  if d.obs.selfFail = 0 then d else d.raise pgDevice 3 0x004 0x0F13 (fmk 0 64 d.obs.selfFail) 0

/-- The unit becomes READY. -/
def Dev.becomeReady (d : Dev) : Dev :=
  let d := d.onBoot (fun x => { x with
    phase := .ready
    readyAt := d.now
    readyMs := (d.now - x.goAt) / msT })
  ((((d.startUnits).onPage pgDevice (fun h => { h with state := .ready })).onPage pgBoot (fun h => { h with state := .active })).inc pgBoot 0x090).readyEvents

/-- BOOT_READY: the role is decided, and the unit reads READY (R753). -/
def State.bootReady (s : State) : State :=
  if decide (s.dev.boot.phase ≠ .role) || decide (s.dev.pair.role = .undecided) then s
  else
    let s := s.bootAdvance
    s.setDev { s.dev.becomeReady with egress := { s.dev.becomeReady.egress with stopped := s.aon.alarmLatch } }

/-- The row BOOT_READY. -/
def execBootReady (s : State) : Host.Outcome State Fault Refusal := .next (s.actAll State.bootReady)

/-! ### Power (R829 to R831) -/

/-- The row POWER_UP: the rails come up with RESET_N low. -/
def execPowerUp (s : State) : Host.Outcome State Fault Refusal :=
  .next { s with aon := { s.aon with
    auxOn := true
    railsOn := true } }

/-- VDD_AUX is removed: the alarm latch, ALARM_CFG, the freeze record, the armed tests and key SRAM are lost (R569, R597, R831). OTP and flash
keep theirs. -/
def State.auxLost (s : State) : State :=
  let d := s.dev.zeroAllSlots.alarmUnstop
  { s with
    dev := if s.aon.alarmLatch then d.emit (.alarmOut false) else d
    aon := { s.aon with
      auxOn := false
      alarmEnable := 0x1F
      alarmLock := false
      alarmLatch := false
      alarmCause := 0
      alarmActive := 0
      alarmTime := 0
      freeze := {}
      armed := 0 } }

/-- The row POWER_DOWN: RESET_N is low, and the rails fall, VDD_AUX last or not at all. -/
def execPowerDown (auxOff : Bool) (s : State) : Host.Outcome State Fault Refusal :=
  let s := s.resetLow
  let s := s.onAon (fun a => { a with railsOn := false })
  .next (if auxOff then s.auxLost else s)

/-! ### The BOOT page -/

/-- BOOT registers read at the time of the read. -/
def State.bootRead (s : State) (off : Nat) : Option Word :=
  let b := s.dev.boot
  let a := s.aon
  if off = 0x048 then some (fmk 0 4 b.phase.code ||| fmk 4 2 b.bootSrc ||| fmk 6 2 b.pairRole ||| fmkB 8 b.recovery ||| fmk 9 1 b.runBank |||
    fmkB 10 b.fallback ||| fmk 12 3 b.update.code ||| fmkB 15 s.dev.pow.marginLow ||| fmkB 16 a.lockOtp ||| fmkB 17 a.lockOwner |||
    fmk 20 4 b.authFails ||| fmk 24 3 b.lastRestart ||| fmk 32 32 b.readyMs)
  else if off = 0x050 then some (fmk 0 32 b.version ||| fmk 32 7 b.svn ||| fmk 40 8 b.settingsFmt ||| fmk 48 8 b.stateFmt)
  else if off = 0x058 ∨ off = 0x060 then
    let x := a.bank ((off - 0x058) / 8)
    some (fmk 0 32 x.version ||| fmk 32 7 x.svn ||| fmk 40 3 x.state.code)
  else if off = 0x068 then some (fmk 0 7 a.counter ||| fmk 8 4 a.revoked.toNat ||| fmkB 12 a.lockOtp)
  else if off = 0x070 then some (fmk 0 32 b.pkgGot ||| fmk 32 32 b.pkgLen)
  else if off = 0x078 then some (fmk 0 16 a.confirmTimeout)
  else if off = 0x088 then some (s.dev.reg pgBoot 0x088 ||| fmk 8 8 b.loadResult ||| fmk 16 1 b.loadSource)
  else none

end Sys2Proof.Machine
end

