-- ==== Sys2Proof/Machine/Update.lean ====
section
/-! DEFINITION. Updates and settings (chapter 16): the commands of Table 16-7, the delta package, and the confirmation of a trial. -/

namespace Sys2Proof.Machine
open Sys2Proof

/-! ### Commands for one unit of a pair (R765, R812) -/

/-- The command acts on the unit that carries it out: TARGET is 0, or this unit is the partner it was sent to. ARGS byte `k` is TARGET. -/
def here (k : Nat) (c : HostCmd) (s : State) : Bool := c.arg k 1 == 0 || decide (s.dev.pair.role = .secondary)

/-- The checks of TARGET: 0 or 1, and a READY partner for 1. -/
def targetChecks (k : Nat) (c : HostCmd) (s : State) : List Chk :=
  [badArg k (decide (1 < c.arg k 1)), noPartner (!here k c s && !s.dev.mirrored)]

/-- A command with TARGET 1 was sent to the partner when it was taken, and waits for its result. -/
def Dev.toPartner (d : Dev) : Dev × Reply := (d, .later partnerObj 0)

/-- An effect over the whole machine on the unit TARGET names. -/
def targeted (k : Nat) (f : HostCmd → List Byte → Token → State → State × Reply) (c : HostCmd) (l : List Byte) (t : Token) (s : State) : State × Reply :=
  if here k c s then f c l t s
  else
    let r := s.dev.toPartner
    (s.setDev r.1, r.2)

/-! ### What forbids an update (R766) -/

/-- The unit carries live work as the only active unit. -/
def Dev.liveAlone (d : Dev) : Bool :=
  (decide (d.pair.role = .solo) || (decide (d.pair.role = .primary) && decide (d.pair.partner ≠ .ready))) &&
  (d.render.running || d.legs.legs.any (fun e => decide (e.2.state = .keyed) || decide (e.2.state = .active) || decide (e.2.state = .held) || decide (e.2.state = .draining)))

/-- R766. -/
def State.updateForbidden (s : State) : Bool := s.dev.liveAlone || s.dev.pow.marginLow || s.aon.lockOtp || s.aon.lockOwner

/-- STATE_CONFLICT with the update state unless it is one of those allowed. -/
def updIn (l : List UpdState) (k : Nat) (c : HostCmd) (s : State) : Chk :=
  conflict s.dev.boot.update.code (here k c s && !l.contains s.dev.boot.update)

/-! ### The package (Table 16-8) -/

/-- The first byte of a package header outside Table 16-8, for a package of `len` bytes and the running image (R768). -/
def pkgBad (h : List Byte) (len : Nat) (image : List Byte) : Option Nat :=
  if leAt h 0 2 ≠ 1 then some 0
  else match firstSet h 2 2 with
    | some o => some o
    | none =>
      if leAt h 4 4 ≠ len then some 4
      else if 50331648 < leAt h 8 4 then some 8
      else match firstSet h 12 4 with
        | some o => some o
        | none => if (h.drop 16).take 48 ≠ sha384 image then some 16 else firstSet h 112 144

/-- UPDATE_BEGIN (R768). -/
def updateBeginSpec : OpSpec where
  opcode := 0x0E00
  ownerOnly := true
  args := [(0, 1), (4, 4), (8, 8)]
  capture := fun c d => capturePinned d 0 (c.arg 8 8) 256
  checks := fun c s => targetChecks 0 c s ++ [badArg 4 (decide (c.arg 4 4 < 256) || decide (67108864 < c.arg 4 4)),
    updIn [.idle] 0 c s, refusedIf (here 0 c s && s.updateForbidden)]
  dchecks := fun c h s => match pkgBad h (c.arg 4 4) s.dev.boot.image with
    | some o => [badDesc o (here 0 c s)]
    | none => []
  run := targeted 0 fun c h _ s =>
    let b := 1 - s.dev.boot.runBank
    let d := s.dev.onBoot (fun x => { x with
      update := .receiving
      pkgGot := 256
      pkgLen := c.arg 4 4
      tgtLen := leAt h 8 4
      tgtDigest := (h.drop 64).take 48
      carry := []
      litLeft := 0
      ended := false })
    ((s.onAon (fun a => a.setBank b ⟨.writing, 0, 0, []⟩)).setDev d, .done .ok b d.short)

/-- The row UPDATE_BEGIN. -/
def execUpdateBegin (c : HostCmd) (s : State) : Host.Outcome State Fault Refusal := .next (runCmd updateBeginSpec c s)

/-- Package bytes being worked through (R769): bytes of an operation not complete, literal bytes owed, END seen, bytes of the image made, how
many there may be, and the package offset of an operation that cannot be carried out. -/
structure Feed where
  carry : List Byte
  lit : Nat
  ended : Bool
  made : List Byte
  limit : Nat
  at_ : Nat
  bad : Option Nat
  deriving DecidableEq, Repr

/-- The operations whose bytes are at hand, in order; `made` holds what is appended to the bank. -/
def feedOps (image : List Byte) : Nat → Feed → Feed
  | 0, x => x
  | fuel + 1, x =>
    let n := x.carry.length
    if x.bad.isSome || n == 0 then x
    else if x.ended then { x with carry := [], at_ := x.at_ + n }
    else if 0 < x.lit then
      let k := min x.lit n
      feedOps image fuel { x with carry := x.carry.drop k, lit := x.lit - k, made := x.made ++ x.carry.take k, at_ := x.at_ + k }
    else if leAt x.carry 0 1 = 0 then feedOps image fuel { x with carry := x.carry.drop 1, ended := true, at_ := x.at_ + 1 }
    else if leAt x.carry 0 1 = 1 then
      if n < 9 then x
      else
        let off := leAt x.carry 1 4
        let len := leAt x.carry 5 4
        if image.length < off + len ∨ x.limit < x.made.length + len then { x with bad := some x.at_ }
        else feedOps image fuel { x with carry := x.carry.drop 9, made := x.made ++ (image.drop off).take len, at_ := x.at_ + 9 }
    else if leAt x.carry 0 1 = 2 then
      if n < 5 then x
      else
        let len := leAt x.carry 1 4
        if x.limit < x.made.length + len then { x with bad := some x.at_ }
        else feedOps image fuel { x with carry := x.carry.drop 5, lit := len, at_ := x.at_ + 5 }
    else { x with bad := some x.at_ }

/-- UPDATE_DATA (R769): it completes when the flash has finished, at FLASH_WRITE_DONE. -/
def updateDataSpec : OpSpec where
  opcode := 0x0E01
  ownerOnly := true
  args := [(0, 1), (4, 4), (8, 8)]
  capture := fun c d => capturePinned d 0 (c.arg 8 8) (if 16777216 < c.arg 4 4 then 0 else c.arg 4 4)
  checks := fun c s => targetChecks 0 c s ++ [badArg 4 (decide (c.arg 4 4 = 0) || decide (16777216 < c.arg 4 4)), updIn [.receiving] 0 c s]
  run := targeted 0 fun _ l _ s =>
    let x := s.dev.boot
    let b := 1 - x.runBank
    let old := s.aon.bank b
    let y := feedOps x.image (x.carry.length + l.length + 1) ⟨x.carry ++ l, x.litLeft, x.ended, [], x.tgtLen - old.bytes.length, x.pkgGot - x.carry.length, none⟩
    let d := s.dev.onBoot (fun x => { x with
      pkgGot := x.pkgGot + l.length
      carry := if y.bad.isSome then [] else y.carry
      litLeft := y.lit
      ended := y.ended })
    let s := (s.onAon (fun a => a.setBank b { old with bytes := old.bytes ++ y.made })).setDev d
    match y.bad with
    | some o => (s, .done .badArg (descOff o) 0)
    | none => (s, .later 0 0)

/-- The row UPDATE_DATA. -/
def execUpdateData (c : HostCmd) (s : State) : Host.Outcome State Fault Refusal := .next (runCmd updateDataSpec c s)

/-- The oldest wait of an opcode that is not for the partner's answer. -/
def Dev.firstWait (d : Dev) (op : Nat) : Option (Wait × List Wait) := takeFirst (fun w => w.tok.opcode == op && w.obj != partnerObj) d.ctl.waits

/-- FLASH_WRITE_DONE: `ok` is false where the flash has not finished; after 60 s the command completes with TIMEOUT (R769). -/
def Dev.flashWriteDone (d : Dev) (ok : Bool) : Dev :=
  match d.firstWait 0x0E01 with
  | none => d
  | some (w, rest) =>
    let late := decide (w.since + 60 * secT ≤ d.now)
    if !ok && !late then d
    else
      let u : Dev := { d with ctl := { d.ctl with waits := rest } }
      if late then u.refuse w.tok .timeout 0 else u.complete w.tok (if w.late then .late else .ok) 0 d.short

/-- The row FLASH_WRITE_DONE. -/
def execFlashWriteDone (ok : Bool) (s : State) : Host.Outcome State Fault Refusal := .next (s.actReady (fun d => d.flashWriteDone ok))

/-- UPDATE_FINISH (R770): the bank is checked until VERIFY_DONE. -/
def updateFinishSpec : OpSpec where
  opcode := 0x0E02
  ownerOnly := true
  args := [(0, 1)]
  checks := fun c s =>
    let x := s.dev.boot
    let whole := decide (x.pkgGot = x.pkgLen) && x.ended && decide ((s.aon.bank (1 - x.runBank)).bytes.length = x.tgtLen)
    targetChecks 0 c s ++ [updIn [.receiving] 0 c s, badDesc 0 (here 0 c s && decide (x.update = .receiving) && !whole)]
  run := targeted 0 fun _ _ _ s => (s.setDev (s.dev.onBoot (fun x => { x with update := .verifying })), .later 0 0)

/-- The row UPDATE_FINISH. -/
def execUpdateFinish (c : HostCmd) (s : State) : Host.Outcome State Fault Refusal := .next (runCmd updateFinishSpec c s)

/-- What the read-back of a bank finds wrong: a field of the package or of the image (R770). -/
def State.verifyBad (s : State) (b : List Byte) : Option Nat :=
  if sha384 b ≠ s.dev.boot.tgtDigest then some 64
  else match s.aon.imageBad b with
    | some o => some o
    | none => if imgSettings b = s.dev.boot.settingsFmt ∨ imgSettings b = s.dev.boot.settingsFmt + 1 then none else some 13

/-- VERIFY_DONE. -/
def State.verifyDone (s : State) : State :=
  if s.dev.boot.update ≠ .verifying then s
  else
    let k := 1 - s.dev.boot.runBank
    let b := (s.aon.bank k).bytes
    match s.verifyBad b with
    | some o =>
      let d := if (s.aon.imageBad b).isSome then s.dev.authFailed else s.dev
      let d := d.onBoot (fun x => { x with update := .receiving })
      s.setDev (d.finish 0x0E02 0 .badArg (descOff o) d.freeWord).tickFree
    | none =>
      let s := s.onAon (fun a => a.setBank k ⟨.pending, imgVersion b, imgSvn b, b⟩)
      let d := (s.dev.onBoot (fun x => { x with update := .pending })).bootEvent 2 k (imgVersion b)
      s.setDev (d.finish 0x0E02 0 .ok 0 d.short)

/-- The row VERIFY_DONE. -/
def execVerifyDone (s : State) : Host.Outcome State Fault Refusal := .next (s.actAllReady State.verifyDone)

/-- UPDATE_ABORT. -/
def updateAbortSpec : OpSpec where
  opcode := 0x0E03
  ownerOnly := true
  args := [(0, 1)]
  checks := fun c s => targetChecks 0 c s ++ [updIn [.receiving, .pending] 0 c s]
  run := targeted 0 fun _ _ _ s =>
    let d := s.dev.onBoot (fun x => { x with
      update := .idle
      pkgGot := 0
      pkgLen := 0
      carry := [] })
    ((s.onAon (fun a => a.setBank (1 - d.boot.runBank) {})).setDev d, .done .ok 0 d.short)

/-- The row UPDATE_ABORT. -/
def execUpdateAbort (c : HostCmd) (s : State) : Host.Outcome State Fault Refusal := .next (runCmd updateAbortSpec c s)

/-! ### Restarts (R771 to R775) -/

/-- A restart with LAST_RESTART code `cause` is set for its boundary. -/
def Dev.restartSet (d : Dev) (own : Time) (cause : Nat) : Dev × Time :=
  let r := d.restartBoundary own
  (r.1.onBoot (fun x => { x with restartAt := some (r.2, cause) }), r.2)

/-- The partner restarts at a boundary: the command completes with its result, and the partner is LOST there (R695, R771). -/
def Dev.partnerRestarts (d : Dev) (b : Time) : Dev × Reply :=
  let r := Config.partnerReply d.ctl.free
  let d := d.tickFree
  let st := ([.ok, .badArg, .stateConflict, .refusedPolicy] : List Status)
  if r.1 % 4 = 0 then (d.partnerLost, .done .ok 0 (shortOf b)) else (d, .done (nthD .ok st (r.1 % 4)) (r.2.1 % 65536) 0)

/-- UPDATE_ACTIVATE and UPDATE_REVERT on the unit itself or on the partner. -/
def restartRun (cause : Nat) (f : AlwaysOn → Boot → AlwaysOn) (c : HostCmd) (_ : List Byte) (_ : Token) (s : State) : State × Reply :=
  let own := effectEpoch s.dev * msT
  if here 0 c s then
    let r := s.dev.restartSet own cause
    ((s.onAon (fun a => f a s.dev.boot)).setDev r.1, .done .ok 0 (shortOf r.2))
  else
    let r := s.dev.partnerRestarts own
    (s.setDev r.1, r.2)

/-- UPDATE_ACTIVATE. -/
def updateActivateSpec : OpSpec where
  opcode := 0x0E04
  ownerOnly := true
  args := [(0, 1)]
  checks := fun c s => targetChecks 0 c s ++ [updIn [.pending] 0 c s, refusedIf (here 0 c s && s.updateForbidden)]
  run := restartRun 1 (fun a _ => a)

/-- The row UPDATE_ACTIVATE. -/
def execUpdateActivate (c : HostCmd) (s : State) : Host.Outcome State Fault Refusal := .next (runCmd updateActivateSpec c s)

/-- UPDATE_REVERT (R774): the TRIAL bank is FAILED. -/
def updateRevertSpec : OpSpec where
  opcode := 0x0E06
  ownerOnly := true
  args := [(0, 1)]
  checks := fun c s => targetChecks 0 c s ++ [updIn [.trial] 0 c s, refusedIf (here 0 c s && s.updateForbidden)]
  run := restartRun 2 (fun a b => a.toBank b.runBank .failed)

/-- The row UPDATE_REVERT. -/
def execUpdateRevert (c : HostCmd) (s : State) : Host.Outcome State Fault Refusal := .next (runCmd updateRevertSpec c s)

/-- An advance of OTP for the running image would change it. -/
def State.wouldAdvance (s : State) : Bool := s.aon.advances s.dev.boot.svn s.dev.boot.revoke s.dev.boot.keyIndex

/-- UPDATE_CONFIRM (R773). -/
def updateConfirmSpec : OpSpec where
  opcode := 0x0E05
  ownerOnly := true
  args := [(0, 1)]
  checks := fun c s => targetChecks 0 c s ++ [updIn [.trial] 0 c s, refusedIf (here 0 c s && s.dev.pow.marginLow && s.wouldAdvance)]
  run := targeted 0 fun _ _ _ s =>
    let b := s.dev.boot
    let other := 1 - b.runBank
    let s := s.onAon (fun a =>
      let a := a.toBank b.runBank .active
      let a := if (a.bank other).state = .active then a.toBank other .valid else a
      ({ a with oldSettings := false }).advance b.svn b.revoke b.keyIndex)
    let d := (s.dev.onBoot (fun x => { x with update := .idle })).inc pgBoot 0x0B0
    (s.setDev d, .done .ok s.aon.counter d.short)

/-- The row UPDATE_CONFIRM. -/
def execUpdateConfirm (c : HostCmd) (s : State) : Host.Outcome State Fault Refusal := .next (runCmd updateConfirmSpec c s)

/-- UPDATE_LOCK (R767). -/
def updateLockSpec : OpSpec where
  opcode := 0x0E07
  ownerOnly := true
  args := [(0, 2)]
  checks := fun c s => targetChecks 0 c s ++ [badArg 1 (decide (1 < c.arg 1 1)),
    updIn [.idle, .receiving, .verifying, .pending, .trial] 0 c s, refusedIf (here 0 c s && s.aon.lockOtp && c.arg 1 1 == 0)]
  run := targeted 0 fun c _ _ s =>
    let on := c.arg 1 1 == 1
    (s.onAon (fun a => { a with lockOwner := on }), .done .ok (if on then 1 else 0) s.dev.short)

/-- The row UPDATE_LOCK. -/
def execUpdateLock (c : HostCmd) (s : State) : Host.Outcome State Fault Refusal := .next (runCmd updateLockSpec c s)

/-- CONFIRM_TIMEOUT (R775): a trial that has run for TIMEOUT seconds is reverted, or CONFIRM_OVERDUE is raised once. -/
def State.confirmOver (s : State) : State :=
  let t := s.aon.confirmTimeout
  if s.dev.boot.update ≠ .trial ∨ t = 0 ∨ s.dev.now < s.dev.boot.readyAt + t * secT ∨ s.dev.boot.restartAt.isSome = true then s
  else if s.updateForbidden then
    if s.dev.boot.overdue then s else s.setDev ((s.dev.bootEvent 3 s.dev.boot.runBank s.dev.boot.version).onBoot (fun x => { x with overdue := true }))
  else
    let r := s.dev.restartSet (nextBoundary s.dev.now) 4
    (s.onAon (fun a => a.toBank s.dev.boot.runBank .failed)).setDev r.1

/-- The row CONFIRM_TIMEOUT. -/
def execConfirmTimeout (s : State) : Host.Outcome State Fault Refusal := .next (s.actAllReady State.confirmOver)

/-! ### Settings (R776) -/

/-- Bytes that records take, with their 8-byte headers. -/
def settingsSize (t : Tab (List Byte)) : Nat := sumN (t.map (fun e => 8 + e.2.length))

/-- SETTINGS_WRITE: a record is stored, or deleted with length 0. Together records take at most 2 MB. -/
def settingsWriteSpec : OpSpec where
  opcode := 0x0E10
  ownerOnly := true
  args := [(0, 2), (4, 4), (8, 8)]
  capture := fun c d => capturePinned d 0 (c.arg 8 8) (if 65536 < c.arg 4 4 then 0 else c.arg 4 4)
  checks := fun c s => [badArg 0 (decide (c.arg 0 2 < 0x8000)), badArg 4 (decide (65536 < c.arg 4 4)),
    noRes (decide (0 < c.arg 4 4) && decide (2097152 < settingsSize (tabPutD [] s.aon.settings (c.arg 0 2) []) + 8 + c.arg 4 4))]
  run := fun c l _ s => (s.onAon (fun a => { a with settings := tabPutD [] a.settings (c.arg 0 2) l }), .done .ok 0 s.dev.short)

/-- The row SETTINGS_WRITE. -/
def execSettingsWrite (c : HostCmd) (s : State) : Host.Outcome State Fault Refusal := .next (runCmd settingsWriteSpec c s)

/-- SETTINGS_READ: the record goes to the buffer of realm 0, as far as that reaches. Which records of its own Tiusk keeps, and their bytes, are
not given (log entry 100). -/
def settingsReadSpec : OpSpec where
  opcode := 0x0E11
  ownerOnly := true
  args := [(0, 2), (4, 4), (8, 8)]
  run := fun c _ _ s =>
    let own := decide (c.arg 0 2 < 0x8000)
    let r := if own then (Config.ownRecord s.dev.ctl.free (c.arg 0 2)).take 65536 else tabGetD [] s.aon.settings (c.arg 0 2)
    let s := if own then s.setDev s.dev.tickFree else s
    let l := r.take (c.arg 4 4)
    if (s.dev.writeCheck 0 (c.arg 8 8) l.length).isSome then (s, .done .faulted 0 0)
    else (s.setDev (s.dev.writeVa 0 (c.arg 8 8) l), .done .ok (if r.isEmpty then 0 else 1) (fmk 0 64 r.length))

/-- The row SETTINGS_READ. -/
def execSettingsRead (c : HostCmd) (s : State) : Host.Outcome State Fault Refusal := .next (runCmd settingsReadSpec c s)

end Sys2Proof.Machine
end

