-- ==== Sys2Proof/Machine/Observe.lean ====
section
/-! DEFINITION. The Error Collector, the trace, units tested in service, and freeze (chapter 17). -/

namespace Sys2Proof.Machine
open Sys2Proof

/-- The Observation state changed. -/
def Dev.onObs (d : Dev) (f : Obs → Obs) : Dev := { d with obs := f d.obs }

/-! ### The error log (R783 to R790) -/

/-- The source numbers of Table 2-19: the others are reserved and never reported (R92). -/
def sourceListed (n : Nat) : Bool :=
  [(0x000, 0x005), (0x020, 0x03F), (0x040, 0x061), (0x080, 0x0A0), (0x0C0, 0x0C1), (0x0D0, 0x0DF), (0x0E0, 0x0EF), (0x100, 0x127), (0x140, 0x140),
   (0x150, 0x16F), (0x180, 0x1BF), (0x1C0, 0x1E1), (0x1F0, 0x1F0), (0x1FF, 0x1FF)].any (fun r => decide (r.1 ≤ n) && decide (n ≤ r.2))

/-- What a corrected DRAM error, which only its report shows, does on the page of its controller (R743, Table 15-17). -/
def Dev.corrected (d : Dev) (r : Report) : Dev :=
  if 0x160 ≤ r.source ∧ r.source < 0x170 ∧ r.code = 0x0D31 then (d.inc (pgMemctl (r.source - 0x160)) 0x088).event (pgMemctl (r.source - 0x160)) 0 else d

/-- The row ERROR_REPORT: a report of a listed source, stamped in whole nanoseconds (R92, R150, R784, R785, R797). -/
def execErrorReport (r : Report) (s : State) : Host.Outcome State Fault Refusal :=
  .next (s.act (fun d => if sourceListed r.source then (d.corrected r).report { r with stamp := wholeNs r.stamp } else d))

/-- HOLD_US as an interval. -/
def Dev.logHold (d : Dev) : Time := fld (d.reg pgErrlog 0x050) 0 14 * usT

/-- The order of R151. -/
def entryBefore (a b : LogEntry) : Bool :=
  decide (a.stamp < b.stamp) || (decide (a.stamp = b.stamp) && (decide (a.source < b.source) || (decide (a.source = b.source) && decide (a.order < b.order))))

/-- An entry written to the log ring: ENTRY and HIGH_WATER (Table 17-15). -/
def Dev.logWrite (d : Dev) (e : LogEntry) : Dev :=
  let d := (d.onObs (fun o => { o with ring := o.ring ++ [e] })).inc pgErrlog 0x0A0
  let d := d.event pgErrlog 0
  if d.obs.ring.length = fld (d.reg pgErrlog 0x050) 16 14 then d.event pgErrlog 2 else d

/-- The log ring is full (R788). -/
def Dev.logFull (d : Dev) : Bool := decide (4096 ≤ d.obs.ring.length)

/-- The LOST entry (Table 17-2). -/
def LostLog.entry (l : LostLog) : LogEntry :=
  ⟨l.stamp, 0x004, 0x0F01, l.count, fmk 0 32 l.entries ||| fmk 32 16 (satN 65535 l.sources.length), shortOf l.last, 0⟩

/-- LOST_ENTRY: the open LOST entry is written once a slot is free (R789). -/
def Dev.lostEntry (d : Dev) : Dev :=
  match d.obs.lost with
  | none => d
  | some l => if d.logFull then d else (((d.onObs (fun o => { o with lost := none })).logWrite l.entry).inc pgErrlog 0x0B0).event pgErrlog 1

/-- The row LOST_ENTRY. -/
def execLostEntry (s : State) : Host.Outcome State Fault Refusal := .next (s.act Dev.lostEntry)

/-- A due entry is written in its turn, after the LOST entry when that comes first, or discarded while the ring is full (R786, R788). -/
def Dev.logDue (d : Dev) (e : LogEntry) : Dev :=
  let d := d.onObs (fun o => { o with pending := o.pending.filter (fun x => decide (x.order ≠ e.order)) })
  let d := match d.obs.lost with
    | some l => if entryBefore l.entry e then d.lostEntry else d
    | none => d
  if d.logFull then (d.onObs (fun o => o.lose e.source e.count e.stamp)).inc pgErrlog 0x0A8 else d.logWrite e

/-- Pending entries in the order of R786. -/
def Dev.logOrder (d : Dev) : List LogEntry := sortBy entryBefore d.obs.pending

/-- LOG_ENTRY_DUE: the first pending entry, once its hold has passed. -/
def Dev.logEntryDue (d : Dev) : Dev :=
  match d.logOrder with
  | [] => d
  | e :: _ => if d.now < e.stamp + d.logHold then d else d.logDue e

/-- The row LOG_ENTRY_DUE. -/
def execLogEntryDue (s : State) : Host.Outcome State Fault Refusal := .next (s.act Dev.logEntryDue)

/-- Every pending entry is written at once (R787). -/
def Dev.logFlush (d : Dev) : Dev := d.logOrder.foldl (fun (d : Dev) e => d.logDue e) d

/-- Words 0 to 3 of an entry (Table 17-1). -/
def LogEntry.words (e : LogEntry) : List Word := [shortOf e.stamp, fmk 0 12 e.source ||| fmk 12 16 e.code ||| fmk 32 32 e.count, e.d2, e.d3]

/-- HEAD_W0 to HEAD_W3 (R790). -/
def Dev.headWord (d : Dev) (i : Nat) : Word := match d.obs.ring with
  | [] => 0
  | e :: _ => nthD 0 e.words i

/-- A read of HEAD_W3 consumes the oldest entry. -/
def Dev.headConsume (d : Dev) : Dev := d.onObs (fun o => { o with ring := o.ring.drop 1 })

/-- ERRLOG registers read at the time of the read. -/
def Dev.errlogRead (d : Dev) (off : Nat) : Option Word :=
  let src := fld (d.reg pgErrlog 0x078) 0 12
  if off = 0x048 then some (fmk 0 13 d.obs.ring.length ||| fmk 16 9 d.obs.pending.length ||| fmkB 32 d.obs.lost.isSome)
  else if 0x058 ≤ off ∧ off ≤ 0x070 ∧ off % 8 = 0 then some (d.headWord ((off - 0x058) / 8))
  else if off = 0x080 then some (fmk 0 48 (tabGetD 0 d.obs.srcReports src))
  else if off = 0x088 then some (fmk 0 48 (tabGetD 0 d.obs.srcLost src))
  else none

/-! ### Trace (R792 to R796) -/

/-- Trace entries in the order of R151. -/
def traceBefore (a b : TraceEntry) : Bool :=
  decide (a.stamp < b.stamp) || (decide (a.stamp = b.stamp) && (decide (a.source < b.source) || (decide (a.source = b.source) && decide (a.order < b.order))))

/-- The ring's size in entries, its base, and whether the trace runs. -/
def Dev.traceEntries (d : Dev) : Nat := 2 ^ fld (d.reg pgObs 0x050) 0 6 / 32
def Dev.traceBase (d : Dev) : Nat := fld (d.reg pgObs 0x048) 16 21 * 65536
def Dev.traceOn (d : Dev) : Bool := bit (d.reg pgObs 0x048) 0

/-- The 32 bytes of a trace entry (Table 17-4). -/
def traceBytes (e : TraceEntry) (seq : Nat) : List Byte :=
  leBytes 8 (shortOf e.stamp).toNat ++ leBytes 8 (e.source % 4096 + e.cls % 16 * 4096 + e.event % 65536 * 65536 + seq % 4294967296 * 4294967296) ++
  leBytes 8 e.w2.toNat ++ leBytes 8 e.w3.toNat

/-- An entry written to the ring by physical address; TRACE_PROD follows (R794, R819). -/
def Dev.traceWrite (d : Dev) (e : TraceEntry) : Dev :=
  let k := d.obs.traceProd
  let n := d.traceEntries
  let d := d.onObs (fun o => { o with trace := o.trace.filter (fun x => decide (x.order ≠ e.order)) })
  let d := d.physWrites (d.traceBase + 32 * (k % n)) (traceBytes e k)
  let d := (d.onObs (fun o => { o with traceProd := k + 1 })).inc pgObs 0x068
  let d := if e.event = 0xF001 then d.raise pgObs 0 0x004 0x0F02 0 0 else d
  if k < n ∨ d.obs.traceWrapped = true then d else (d.onObs (fun o => { o with traceWrapped := true })).event pgObs 1

/-- TRACE_ENTRY_WRITE: the first entry, 20 µs after its stamp. -/
def Dev.traceEntryWrite (d : Dev) : Dev :=
  match sortBy traceBefore d.obs.trace with
  | [] => d
  | e :: _ => if !d.traceOn || decide (d.now < e.stamp + 20 * usT) then d else d.traceWrite e

/-- The row TRACE_ENTRY_WRITE. -/
def execTraceEntryWrite (s : State) : Host.Outcome State Fault Refusal := .next (s.actReady Dev.traceEntryWrite)

/-- TRACE_LOST: space has returned after drops (R795). -/
def Dev.traceLost (d : Dev) : Dev :=
  if d.obs.traceDropped = 0 ∨ d.traceOn = false ∨ 512 + 4194304 ≤ d.obs.trace.length then d
  else
    let n := d.obs.traceDropped
    let t := d.obs.traceFirst
    let d := d.onObs (fun o => { o with traceDropped := 0 })
    d.trace 15 0xF001 0x004 (fmk 0 32 n) (shortOf t) 0

/-- The row TRACE_LOST. -/
def execTraceLost (s : State) : Host.Outcome State Fault Refusal := .next (s.actReady Dev.traceLost)

/-- TRACE_BASE written (R819): BASE only while ENABLE is 0; ENABLE 1 only for an aligned ring below the reserved region. -/
def Dev.traceBaseWrite (d : Dev) (v : Word) : Dev :=
  let on := d.traceOn
  let d := d.guarded pgObs 0x048 v (!on) [(16, 21)]
  if !d.traceOn then d.onObs (fun o => { o with trace := [] })
  else if on then d
  else
    let size := 2 ^ fld (d.reg pgObs 0x050) 0 6
    if d.traceBase % size ≠ 0 ∨ reservedBase < d.traceBase + size then (d.setReg pgObs 0x048 (setFld (d.reg pgObs 0x048) 0 1 0)).err pgObs .badState
    else d.onObs (fun o => { o with
      trace := []
      traceProd := 0
      traceWrapped := false
      traceDropped := 0 })


/-- TRACE_SIZE written (R819). -/
def Dev.traceSizeWrite (d : Dev) (v : Word) : Dev := d.guarded pgObs 0x050 v (!d.traceOn) [(0, 6)]

/-- OBS registers read at the time of the read. -/
def Dev.obsRead (d : Dev) (off : Nat) : Option Word := if off = 0x060 then some (fmk 0 64 d.obs.traceProd) else none

/-! ### Units tested in service (Table 17-8) -/

/-- The units that have a number for commands. -/
inductive TestUnit where
  | geode (p : Nat) | garnet (p : Nat) | pipe (p : Nat) | lane (l : Nat) | slice (n : Nat)
  deriving DecidableEq, Repr

/-- The unit of a number. -/
def testUnitOf (u : Nat) : Option TestUnit :=
  if 0x040 ≤ u ∧ u < 0x062 then some (.geode (u - 0x040))
  else if 0x080 ≤ u ∧ u < 0x0A1 then some (.garnet (u - 0x080))
  else if 0x0D0 ≤ u ∧ u < 0x0E0 then some (.pipe (u - 0x0D0))
  else if 0x100 ≤ u ∧ u < 0x128 then some (.lane (u - 0x100))
  else if 0x150 ≤ u ∧ u < 0x160 then some (.slice (u - 0x150))
  else none

/-- The tests a unit has: bit 0 MEMORY, 1 LOGIC, 2 LINK (Table 17-9). -/
def TestUnit.tests : TestUnit → Nat
  | .geode _ => 7 | .garnet _ => 3 | .pipe _ => 3 | .lane _ => 4 | .slice _ => 1

/-- A unit's state (R808). -/
def Dev.unitState (d : Dev) : TestUnit → PState
  | .geode p => d.geState p
  | .garnet p => d.gaState p
  | .pipe p => nthD .off d.flint.pipes p
  | .lane l => if d.obs.bist.any (fun e => e.1 == 0x100 + l) then .testing else if (d.lane l).train = .isolated then .isolated else .ready
  | .slice n => (d.slice n).state

/-- A unit taken out of service or returned by its means (R808). -/
def Dev.unitSet (d : Dev) (on : Bool) : TestUnit → Dev
  | .geode p => d.geIsolate p on
  | .garnet p => d.gaIsolate p on
  | .pipe p => d.pipeCtrlWrite (setFld (d.reg pgFlint 0x068) p 1 (if on then 1 else 0))
  | .lane l => d.laneCfgWrite l (setFld (d.laneCfg l) 7 1 (if on then 1 else 0))
  | .slice n => d.sliceCfgWrite n (setFld (d.reg pgSlab (0x100 + 8 * n)) 8 1 (if on then 1 else 0))

/-- The means would refuse to take the unit out: a serving Garnet cluster (R519), a HELD page in a slice's scratch (R745), a unit not in
service. -/
def Dev.unitRefuses (d : Dev) : TestUnit → Bool
  | .geode p => decide (d.geState p = .off) || decide (d.geState p = .init)
  | .garnet p => decide (d.gaState p = .off) || decide (d.gaState p = .init) || (d.gaLogical p).isSome
  | .slice n => (d.sliceLeaves n).any (fun e => d.heldPage (e.1 / 4294967296) (e.1 % 4294967296 * 65536) e.2.size)
  | _ => false

/-- UNIT_ISOLATE (R808). -/
def unitIsolateSpec : OpSpec where
  opcode := 0x0F00
  ownerOnly := true
  args := [(0, 4)]
  checks := fun c s =>
    let on := c.arg 2 1 == 1
    targetChecks 3 c s ++ [badArg 0 (testUnitOf (c.arg 0 2)).isNone, badArg 2 (decide (1 < c.arg 2 1))] ++
    (match testUnitOf (c.arg 0 2) with
    | none => []
    | some u =>
      let st := s.dev.unitState u
      [conflict st.code (here 3 c s && (decide (st = .testing) || decide (st = .faulted) || (on && decide (st ≠ .isolated) && s.dev.unitRefuses u)))])
  run := targeted 3 fun c _ _ s =>
    let on := c.arg 2 1 == 1
    match testUnitOf (c.arg 0 2) with
    | none => (s, .done .ok 0 0)
    | some u =>
      let d := if on && decide (s.dev.unitState u ≠ .isolated) then s.dev.inc pgDevice 0x0A0 else s.dev
      let d := d.unitSet on u
      let st := d.unitState u
      (s.setDev d, if on && decide (st ≠ .isolated) then .later (c.arg 0 2) 0 else .done .ok st.code d.short)

/-- The row UNIT_ISOLATE. -/
def execUnitIsolate (c : HostCmd) (s : State) : Host.Outcome State Fault Refusal := .next (runCmd unitIsolateSpec c s)

/-- A UNIT_ISOLATE of a unit that has become FAULTED meanwhile ends (log entry 38). -/
def Dev.isolateAborts (d : Dev) : Dev :=
  ((d.ctl.waits.filter (fun w => w.tok.opcode == 0x0F00 && w.obj != partnerObj)).map (fun w => w.obj)).eraseDups.foldl (fun (d : Dev) o =>
    match testUnitOf o with
    | some u => if d.unitState u = .faulted then (d.finish 0x0F00 o .aborted 7 d.freeWord).tickFree else d
    | none => d) d

/-- A unit's state set by a test. -/
def Dev.unitPut (d : Dev) (st : PState) : TestUnit → Dev
  | .geode p => d.onPage (pgGeode p) (fun h => { h with state := st })
  | .garnet p => d.onPage (pgGarnet p) (fun h => { h with state := st })
  | .pipe p => d.setPipe p st
  | .lane _ => d
  | .slice n => d.setSlice n { d.slice n with state := st }

/-- The other engine of a Geode's pair, for the LINK test. -/
def pairOf (p : Nat) : Nat := if p % 2 = 0 then p + 1 else p - 1

/-- Units that a test occupies. -/
def testedUnits (u : TestUnit) (tests : Nat) : List TestUnit :=
  match u with
  | .geode p => if tests / 4 % 2 = 1 then [.geode p, .geode (pairOf p)] else [.geode p]
  | u => [u]

/-- A lane's settings for its LINK test: PRBS31 in near-end serial loopback (R811). -/
def Dev.laneTest (d : Dev) (l : Nat) : Dev :=
  let pg := pgQuad (l / 4)
  let d := d.onObs (fun o => { o with bistSaved := o.bistSaved ++ [(l, d.laneCfg l, d.prbsCfg l)] })
  let d := d.setReg pg (0x100 + 0x40 * (l % 4)) (setFld (d.laneCfg l) 5 2 1)
  d.setReg pg (0x110 + 0x40 * (l % 4)) (setFld (setFld (d.prbsCfg l) 0 4 4) 4 4 4)

/-- The settings restored. -/
def Dev.laneTestEnd (d : Dev) (l : Nat) : Dev :=
  match d.obs.bistSaved.find? (fun e => e.1 == l) with
  | none => d
  | some e =>
    let pg := pgQuad (l / 4)
    let d := (d.setReg pg (0x100 + 0x40 * (l % 4)) e.2.1).setReg pg (0x110 + 0x40 * (l % 4)) e.2.2
    d.onObs (fun o => { o with bistSaved := o.bistSaved.filter (fun x => x.1 != l) })

/-- BIST_RUN (R809): the unit is TESTING until BIST_DONE. -/
def bistRunSpec : OpSpec where
  opcode := 0x0F01
  ownerOnly := true
  args := [(0, 4)]
  checks := fun c s =>
    let t := c.arg 2 1
    targetChecks 3 c s ++ [badArg 0 (testUnitOf (c.arg 0 2)).isNone] ++
    (match testUnitOf (c.arg 0 2) with
    | none => []
    | some u => badArg 2 (t == 0 || t &&& u.tests != t) :: (testedUnits u t).map (fun x =>
        let st := s.dev.unitState x
        conflict st.code (here 3 c s && decide (st ≠ .isolated) && decide (st ≠ .faulted))))
  run := targeted 3 fun c _ _ s =>
    match testUnitOf (c.arg 0 2) with
    | none => (s, .done .ok 0 0)
    | some u =>
      let d := (s.dev.inc pgDevice 0x0A8).onObs (fun o => { o with bist := o.bist ++ [(c.arg 0 2, c.arg 2 1)] })
      let d := (testedUnits u (c.arg 2 1)).foldl (fun (d : Dev) x => d.unitPut .testing x) d
      let d := match u with | .lane l => d.laneTest l | _ => d
      (s.setDev d, .later (c.arg 0 2) 0)

/-- The row BIST_RUN. -/
def execBistRun (c : HostCmd) (s : State) : Host.Outcome State Fault Refusal := .next (runCmd bistRunSpec c s)

/-- A slice's scratch after a MEMORY test: unspecified contents (R811), free values from the model's counter on. -/
def Dev.slabFree (d : Dev) (n : Nat) : Dev :=
  let lo := n * 0x140000
  let hi := lo + 0x140000
  let new : List Host.Cell := ((List.range 0x140000).map (fun i =>
    (lo + i, BitVec.ofNat 8 ((Config.freeWord (d.ctl.free + i / 8)).toNat >>> (8 * (i % 8)))))).filter (fun e => decide (e.2 ≠ 0))
  { d with
    mem := { d.mem with slab := d.mem.slab.filter (fun e => decide (e.1 < lo)) ++ new ++ d.mem.slab.filter (fun e => decide (hi ≤ e.1)) }
    ctl := { d.ctl with free := d.ctl.free + 0x28000 } }

/-- BIST_DONE: the tests of `unit` end with those of `failed` failed, the first failing word at `firstBad` (R810, R811). -/
def Dev.bistDone (d : Dev) (unit failed firstBad : Nat) : Dev :=
  match d.obs.bist.find? (fun e => e.1 == unit), testUnitOf unit with
  | some e, some u =>
    let f := failed &&& e.2
    let d := d.onObs (fun o => { o with bist := o.bist.filter (fun x => x.1 != unit) })
    let d := (testedUnits u e.2).foldl (fun (d : Dev) x => d.unitPut (if f = 0 then .isolated else .faulted) x) d
    let d := match u with
      | .lane l => d.laneTestEnd l
      | .slice n => if e.2 % 2 = 1 then d.slabFree n else d
      | _ => d
    let d := if f = 0 then d else d.inc pgDevice 0x0B0
    let d := d.raise pgDevice 0 unit (if f = 0 then 0x0F11 else 0x0F12) 0 0
    d.finish 0x0F01 unit .ok f (if f % 2 = 1 then fmk 0 64 firstBad else d.short)
  | _, _ => d

/-- The row BIST_DONE. -/
def execBistDone (unit : Nat) (failed : BitVec 3) (firstBad : Nat) (s : State) : Host.Outcome State Fault Refusal :=
  .next (s.actReady (fun d => d.bistDone unit failed.toNat firstBad))

/-! ### Freeze (R797 to R803) -/

/-- FREEZE_NOW: TARGET 0 freezes this unit and is never completed; TARGET 1 completes with the partner's FROZEN indication (R803). -/
def freezeNowSpec : OpSpec where
  opcode := opFreezeNow
  ownerOnly := true
  args := [(0, 1)]
  checks := fun c s => targetChecks 0 c s
  run := fun c _ _ s =>
    if here 0 c s then (s.setDev (s.dev.freeze 3 0 0 0), .later 0 0)
    else
      let r := s.dev.toPartner
      (s.setDev r.1, if s.dev.pair.frozen then .done .ok 0 s.dev.short else r.2)
  atOnce := true

/-- The row FREEZE_NOW. -/
def execFreezeNow (c : HostCmd) (s : State) : Host.Outcome State Fault Refusal := .next (runCmd freezeNowSpec c s)

/-- The row FREEZE_PIN: FREEZE_N held low 100 ns with PIN_ENABLE at 1, the unit READY (R797). -/
def execFreezePin (s : State) : Host.Outcome State Fault Refusal :=
  .next (s.actReady (fun d => if bit (d.reg pgDevice 0x060) 0 then d.freeze 1 0 0 0 else d))

/-- DEVICE_TEST (R813). -/
def deviceTestSpec : OpSpec where
  opcode := 0x0F03
  ownerOnly := true
  args := [(0, 3)]
  checks := fun c s => targetChecks 0 c s ++ [badArg 1 (decide (16 ≤ c.arg 1 1)), badArg 2 (decide (1 < c.arg 2 1))]
  run := targeted 0 fun c _ _ s =>
    let t := BitVec.ofNat 4 (c.arg 1 1)
    let a := if c.arg 2 1 = 1 then s.aon.armed ||| t else s.aon.armed &&& (t ^^^ 15)
    (s.onAon (fun x => { x with armed := a }), .done .ok a.toNat s.dev.short)

/-- The row DEVICE_TEST. -/
def execDeviceTest (c : HostCmd) (s : State) : Host.Outcome State Fault Refusal := .next (runCmd deviceTestSpec c s)

/-- The fields of FRZ_STATUS above bit 0 (Table 17-6). -/
def FreezeRec.fields (r : FreezeRec) : Word := fmk 1 3 r.cause ||| fmk 4 2 r.trigger ||| fmk 16 12 r.source ||| fmk 28 16 r.code

/-! ### The power and thermal monitor (R832 to R837) -/

/-- MARGIN_LOW changes: event 2 of DEVICE. -/
def Dev.marginSet (d : Dev) (b : Bool) : Dev :=
  if d.pow.marginLow = b then d
  else ({ d with pow := { d.pow with marginLow := b } }).raise pgDevice 2 0x1FF 0x0F22 0 0

/-- A cause of MARGIN_LOW holds (R837). -/
def Dev.marginCause (d : Dev) : Bool := d.pow.railLow || decide (1600 ≤ d.pow.temp16) || d.pow.throttle

/-- A cause that holds sets MARGIN_LOW and is dated. -/
def Dev.marginCheck (d : Dev) : Dev :=
  if d.marginCause then ({ d with pow := { d.pow with lastCause := d.now } }).marginSet true else d

/-- MONITOR_SAMPLE: a power estimate in 0.1 W, the highest die temperature in 1/16 °C, and whether a rail has been low for 1 ms. What held
up to the sample is dated by it (R837). -/
def Dev.monitorSample (d : Dev) (p : Nat) (t : Int) (low : Bool) : Dev :=
  let x : Power := { d.pow with
    samples := (p :: d.pow.samples).take 1000
    temp16 := t
    railLow := low
    lastCause := if d.marginCause then d.now else d.pow.lastCause }
  ({ d with pow := x }).marginCheck

/-- The row MONITOR_SAMPLE. -/
def execMonitorSample (decaWatt : Nat) (temp16 : Int) (railLow : Bool) (s : State) : Host.Outcome State Fault Refusal :=
  .next (s.act (fun d => d.monitorSample decaWatt temp16 railLow))

/-- MARGIN_LOW_CLEAR: none of the causes has held for 1 s; OTP advances put off are made (R762, R837). -/
def State.marginClear (s : State) : State :=
  if s.dev.marginCause || !s.dev.pow.marginLow || decide (s.dev.now < s.dev.pow.lastCause + secT) then s
  else
    let s := s.setDev (s.dev.marginSet false)
    if !s.dev.boot.deferred then s
    else
      let b := s.dev.boot
      let s := s.onAon (fun a => a.advance b.svn b.revoke b.keyIndex)
      s.setDev (s.dev.onBoot (fun x => { x with deferred := false }))

/-- The row MARGIN_LOW_CLEAR. -/
def execMarginLowClear (s : State) : Host.Outcome State Fault Refusal := .next (s.actAll State.marginClear)

/-- The row I2C_TEMP_READ: 1/256 °C as read, none when the sensor does not acknowledge (R827). -/
def execI2cTempRead (v : Option (BitVec 16)) (s : State) : Host.Outcome State Fault Refusal :=
  .next (s.act (fun d => { d with pow := { d.pow with board := match v with
    | some x => x.sshiftRight 4
    | none => 0x8000 } }))

/-- The mean power of the last `n` samples is at least, or at most, `w` tenths of a watt; below compares strictly. -/
def Dev.meanGe (d : Dev) (n w : Nat) : Bool := let l := d.pow.samples.take n; decide (w * l.length ≤ sumN l) && !l.isEmpty
def Dev.meanLe (d : Dev) (n w : Nat) : Bool := let l := d.pow.samples.take n; decide (sumN l ≤ w * l.length)

/-- THROTTLE and the Geode clock at an epoch boundary (R833, R834). -/
def Dev.throttleEpoch (d : Dev) : Dev :=
  let was := d.pow.throttle
  let now := if was then !(d.meanLe 1000 2300 && decide (d.pow.temp16 ≤ 1520)) else d.meanGe 100 2400 || decide (1600 ≤ d.pow.temp16)
  let clk := if !now then 16
    else if d.meanGe 10 2500 || d.meanGe 100 2440 then max 8 (d.pow.geodeClk - 1)
    else if !d.meanGe 10 2450 && !d.meanGe 100 2400 then min 16 (d.pow.geodeClk + 1)
    else d.pow.geodeClk
  let x : Power := { d.pow with
    throttle := now
    geodeClk := clk
    lastCause := if was then d.now else d.pow.lastCause }
  let d := { d with pow := x }
  let d := if now then d.inc pgDevice 0x0B8 else d
  let d := if was = now then d else d.raise pgDevice 1 0x1FF 0x0F21 0 0
  d.marginCheck

/-! ### The DEVICE page -/

/-- DEVICE registers read at the time of the read (Table 17-12). -/
def State.deviceRead (s : State) (off : Nat) : Option Word :=
  let p := s.dev.pow
  let o := s.dev.obs
  if off = 0x048 then some (fmk 0 16 0x4096 ||| fmk 16 8 0xB0 ||| fmkB 24 Config.orderCode)
  else if off = 0x050 then some Config.serial
  else if off = 0x058 then some (fmkS 0 16 p.temp16 ||| fmk 16 16 p.board.toNat ||| fmk 32 16 (p.samples.headD 0) ||| fmkB 48 p.throttle ||| fmkB 49 p.marginLow)
  else if off = 0x088 then some (s.aon.freeze.fields ||| fmkB 0 s.aon.freeze.valid)
  else if off = 0x090 then some s.aon.freeze.time
  else if off = 0x098 then some (fmk 0 4 o.selfRun ||| fmk 4 4 o.selfFail ||| fmk 8 4 s.aon.armed.toNat ||| fmk 16 8 o.failPort ||| fmk 24 8 o.failChan)
  else none

end Sys2Proof.Machine
end

