-- ==== Sys2Proof/Machine/Commit.lean ====
section
/-! DEFINITION. Shadow registers and commit groups (R70 to R78, Table 2-11), and NOP. -/

namespace Sys2Proof.Machine
open Sys2Proof

/-- NOP: its RESULT is the epoch boundary at which it completes. -/
def nopSpec : OpSpec where
  opcode := 0x0000
  run := devRun fun _ _ _ d => (d, .done .ok 0 (shortOf (effectEpoch d * msT)))

/-- The row NOP. -/
def execNop (c : HostCmd) (s : State) : Host.Outcome State Fault Refusal := .next (runCmd nopSpec c s)

/-- The offsets of a page's RWS registers. -/
def rwsOffs (p : Nat) : List Nat :=
  match pageType p with
  | some t => (t.block.filter (fun r => r.rws)).flatMap (fun r => (List.range r.n).map (fun i => r.off + i * r.stride))
  | none => []

/-- The pages that a COMMIT_GROUP of group `g` includes: every page bound to it with ARM 1 (R71, R73). -/
def Dev.armedPages (d : Dev) (g : Nat) : List Nat :=
  (List.range 138).filter (fun p => (d.page p).bound && (d.page p).arm && (d.page p).group == g)

/-- A pending COMMIT_GROUP. -/
def Dev.group (d : Dev) (g : Nat) : Option Group := (d.ctl.groups.find? (fun e => e.1 == g)).map (fun e => e.2)

/-- A pending COMMIT_GROUP recorded, changed or ended. -/
def Dev.setGroup (d : Dev) (g : Nat) (x : Option Group) : Dev :=
  let rest := d.ctl.groups.filter (fun e => e.1 != g)
  { d with ctl := { d.ctl with groups := match x with
    | some y => insertBy (fun (a b : Nat × Group) => decide (a.1 < b.1)) (g, y) rest
    | none => rest } }

/-- The time from which a group is applied, and whether that is late (R75, R85). A relayed group keeps the primary's time (R670). -/
def Dev.commitTime (d : Dev) (k : Token) : Time × Bool :=
  let w := fullTime k.cmd.when0 k.cmd.when1
  if !k.cmd.dated then (d.earliest, false)
  else if k.relayed || decide (d.earliest ≤ w) then (w, false)
  else (d.earliest, true)

/-- COMMIT_GROUP (R73, R77): the pages armed are included and locked. It captures the object table when it arms RENDER (R433). R77 gives its
two states no codes: DETAIL of a conflict is 0 for IDLE and 1 for PENDING (DESIGN CHOICE, log entry 85). -/
def commitGroupSpec : OpSpec where
  opcode := 0x0001
  ownerOnly := true
  args := [(0, 1)]
  capture := fun c d => some (if (d.armedPages (c.arg 0 1)).contains pgRender && bit (d.shadowReg pgRender 0x068) 1 then d.objTableRead else [])
  checks := fun c s => [badArg 0 (decide (16 ≤ c.arg 0 1)), conflict 1 (s.dev.group (c.arg 0 1)).isSome]
  run := devRun fun c l k d =>
    let g := c.arg 0 1
    let ps := d.armedPages g
    let t := d.commitTime k
    let d := ps.foldl (fun (d : Dev) p => d.onPage p (fun h => { h with locked := true })) d
    let d := if ps.contains pgRender then d.objTableKeep l else d
    (d.setGroup g (some ⟨k, t.1, t.2, ps, 0, 0⟩), .later g 0)
  atOnce := true

/-- The row COMMIT_GROUP. -/
def execCommitGroup (c : HostCmd) (s : State) : Host.Outcome State Fault Refusal := .next (runCmd commitGroupSpec c s)

/-- The layout whose picture ticks a page obeys: the one that MICA.COMMIT_LAYOUT names when it is OPEN or RUNNING on the page's own pipeline
(R75, R360). -/
def Dev.pageLayout (d : Dev) (p : Nat) : Option Nat :=
  let l := fld (d.reg p 0x050) 0 8
  let x := d.layout l
  if pageType p = some .mica ∧ x.state ≠ .idle ∧ x.pipe = pageInst p then some l else none

/-- The boundary at which a page of a group goes live (R75, R360). -/
def Dev.commitAt (d : Dev) (x : Group) (p : Nat) : Time :=
  match d.pageLayout p with
  | some l => (d.layout l).tickAt ((d.layout l).tickCeil x.at_)
  | none => if pageType p = some .mica then epochCeil x.at_ else blockAt (blockCeil x.at_)

/-- The instant at which the unit acts on that boundary: a picture tick waits for its dispatcher tick (R29). -/
def Dev.commitActs (d : Dev) (x : Group) (p : Nat) : Time :=
  match d.pageLayout p with
  | some l => (d.layout l).actAt ((d.layout l).tickCeil x.at_)
  | none => d.commitAt x p

/-- An included page goes live (R72). -/
def Dev.goLive (d : Dev) (g p : Nat) (b : Time) : Dev :=
  let d := (rwsOffs p).foldl (fun (d : Dev) o => d.setReg p o (d.shadowReg p o)) d
  let d := if p = pgRender then d.objTableApply else d
  let d := d.onPage p (fun h => { h with
    arm := false
    locked := false
    commitGen := (h.commitGen + 1) % 4294967296 })
  d.trace 4 0x0402 0x001 (fmk 0 8 p ||| fmk 8 4 g ||| fmk 16 32 (d.page p).commitGen) (shortOf b) 0

/-- The group completes once it holds no page (R76, R77). -/
def Dev.groupEnd (d : Dev) (g : Nat) (x : Group) (b : Time) : Dev :=
  if !x.pages.isEmpty then d.setGroup g (some x)
  else
    let d := (d.setGroup g none).finish 0x0001 g (if x.late then .late else .ok) x.applied (shortOf b)
    d.trace 4 0x0403 0x001 (fmk 0 4 g ||| fmk 8 16 x.applied) (shortOf b) 0

/-- One page of a group goes live at its boundary. -/
def Dev.livePage (d : Dev) (g p : Nat) : Dev :=
  match d.group g with
  | none => d
  | some x =>
    if !x.pages.contains p then d
    else
      let b := d.commitAt x p
      let y : Group := { x with
        pages := x.pages.filter (fun q => q != p)
        applied := x.applied + 1
        last := max x.last b }
      (d.goLive g p b).groupEnd g y y.last

/-- A group that includes no page completes at its block boundary (R77). -/
def Dev.emptyGroup (d : Dev) (g : Nat) : Dev :=
  match d.group g with
  | none => d
  | some x => if x.pages.isEmpty then d.groupEnd g x (blockAt (blockCeil x.at_)) else d

/-- Every page whose block or epoch boundary lies at or before `lim` goes live, groups in ascending number (R35). -/
def Dev.applyCommits (d : Dev) (lim : Time) : Dev :=
  d.ctl.groups.foldl (fun (d : Dev) e =>
    if e.2.pages.isEmpty then (if blockAt (blockCeil e.2.at_) ≤ lim then d.emptyGroup e.1 else d)
    else e.2.pages.foldl (fun (d : Dev) p =>
      if (d.pageLayout p).isNone && decide (d.commitAt e.2 p ≤ lim) then d.livePage e.1 p else d) d) d

/-- The pages that a layout's picture tick at `tick` makes live. -/
def Dev.tickCommits (d : Dev) (l : Nat) (tick : Time) : Dev :=
  d.ctl.groups.foldl (fun (d : Dev) e => e.2.pages.foldl (fun (d : Dev) p =>
    if d.pageLayout p = some l ∧ e.2.at_ ≤ tick then d.livePage e.1 p else d) d) d

/-- Nothing that precedes the boundary `b` of group `g` waits: the units have acted on it, every command due by then has taken effect, and no
lower group is due (R35). -/
def Dev.commitTurn (d : Dev) (g : Nat) (b : Time) : Bool :=
  decide (b < blockAt d.clk.nextBlock) && d.ctl.accepted.all (fun a => decide (b < a.due)) &&
  d.ctl.groups.all (fun e => decide (g ≤ e.1) || e.2.pages.all (fun q => decide (b < d.commitAt e.2 q)))

/-- COMMIT_GROUP_APPLY: a page of a group whose boundary has come goes live; a group with no page completes. -/
def Dev.groupApply (d : Dev) (g p : Nat) : Dev :=
  match d.group g with
  | none => d
  | some x =>
    if x.pages.isEmpty then
      (let b := blockAt (blockCeil x.at_)
       if decide (b ≤ d.now) && d.commitTurn g b then d.emptyGroup g else d)
    else if decide (d.commitActs x p ≤ d.now) && d.commitTurn g (d.commitAt x p) then d.livePage g p
    else d

/-- The row COMMIT_GROUP_APPLY. -/
def execCommitGroupApply (group page : Nat) (s : State) : Host.Outcome State Fault Refusal := .next (s.actReady (fun d => d.groupApply group page))

/-- CANCEL_COMMIT, when it is processed (R78). -/
def cancelCommitSpec : OpSpec where
  opcode := 0x0002
  ownerOnly := true
  args := [(0, 1)]
  checks := fun c s => [badArg 0 (decide (16 ≤ c.arg 0 1)), conflict 0 (s.dev.group (c.arg 0 1)).isNone]
  run := devRun fun c _ _ d =>
    let g := c.arg 0 1
    match d.group g with
    | none => d.okNow 0
    | some x =>
      let d := x.pages.foldl (fun (d : Dev) p => d.onPage p (fun h => { h with
        arm := false
        locked := false })) d
      let d := if x.pages.contains pgRender then { d with render := { d.render with table := none } } else d
      ((d.setGroup g none).finish 0x0001 g .aborted x.applied d.freeWord).tickFree.okNow x.pages.length
  atOnce := true

/-- The row CANCEL_COMMIT. -/
def execCancelCommit (c : HostCmd) (s : State) : Host.Outcome State Fault Refusal := .next (runCmd cancelCommitSpec c s)

end Sys2Proof.Machine
end

