-- ==== Sys2Proof/Machine/Boundary.lean ====
section
/-! DEFINITION. What the unit does at the boundaries of media time (Table 1-6): commands that take effect, epoch and block boundaries,
dispatcher and picture ticks, and a step of the clock. -/

namespace Sys2Proof.Machine
open Sys2Proof

/-- Every opcode (Table 2-17 and the chapters' tables of commands). -/
def opSpecs : List OpSpec :=
  [nopSpec, commitGroupSpec, cancelCommitSpec, acceptStepSpec, globalSnapshotSpec] ++
  [legOpenSpec, legStartSpec, legHoldSpec, legResumeSpec, legCloseSpec, legReleaseSpec, legUpdateSpec, streamAddSpec, streamRemoveSpec,
   subscribeSpec, unsubscribeSpec, subscribeSetSpec, legQuerySpec] ++
  [encStreamOpenSpec, encStreamCloseSpec, encStreamUpdateSpec, encRefreshSpec, encQuerySpec, encSubmitSpec] ++
  [decStreamOpenSpec, decStreamCloseSpec, decQuerySpec, decSubmitSpec, geodeTwinSpec, geodeUntwinSpec, geodeSwapSpec] ++
  [layoutOpenSpec, layoutStartSpec, layoutStopSpec, layoutCloseSpec, layerLoadSpec, layoutFlipSpec, layerBypassSpec, stillLoadSpec, layoutQuerySpec] ++
  [legAudioSetSpec, confAudioSetSpec, hrtfLoadSpec, routeSetSpec, routeClearSpec, routeQuerySpec, netRxOpenSpec, netRxCloseSpec, netTxOpenSpec, netTxCloseSpec] ++
  [spkLayoutLoadSpec, spkLayoutSelectSpec, renderStartSpec, renderStopSpec, objSetSpec, spkSetSpec, firLoadSpec, hoaSetSpec, renderQuerySpec] ++
  [garnetLoadSpec, garnetUnloadSpec, insertOpenSpec, insertCloseSpec, insertParamSpec, insertCoefSpec, insertBypassSpec, insertResetSpec, insertQuerySpec,
   taskStartSpec, taskStopSpec, garnetSwapSpec] ++
  [queueAssignSpec, queueSetSpec, queueQuerySpec, queueFlushSpec, gateListSetSpec, gateListCancelSpec, hostSendSpec] ++
  [keyslotAssignSpec, keyQuerySpec, flintReleaseSpec, laneRetrainSpec, portQuerySpec] ++
  [pairSurrenderSpec, pairYieldSpec, pairJoinSpec, legResyncSpec, pairQuerySpec] ++
  [xlatMapSpec, xlatUnmapSpec, xlatProtectSpec, xlatQuerySpec, faultResumeSpec, faultAbortSpec, domainSetSpec, dispSubmitSpec, dispQuerySpec, dispFlushSpec] ++
  [updateBeginSpec, updateDataSpec, updateFinishSpec, updateAbortSpec, updateActivateSpec, updateRevertSpec, updateConfirmSpec, updateLockSpec,
   settingsWriteSpec, settingsReadSpec] ++
  [unitIsolateSpec, bistRunSpec, freezeNowSpec, deviceTestSpec]

/-- The opcode, when it is defined (R89). -/
def opSpec (n : Nat) : Option OpSpec := opSpecs.find? (fun o => o.opcode == n)

/-! ### Accepted commands (R85, R855) -/

/-- The order in which commands take effect: by boundary, then by realm, ring and ring position (R36). -/
def dueBefore (a b : Accepted) : Bool :=
  let x := a.tok
  let y := b.tok
  decide (a.due < b.due) || (decide (a.due = b.due) && (decide (x.cmd.realm < y.cmd.realm) || (decide (x.cmd.realm = y.cmd.realm) &&
    (decide (x.cmd.ring < y.cmd.ring) || (decide (x.cmd.ring = y.cmd.ring) && decide (x.pos < y.pos))))))

/-- The next command to take effect at or before `t`. -/
def Dev.dueNext (d : Dev) (t : Time) : Option Accepted := (sortBy dueBefore (d.ctl.accepted.filter (fun a => decide (a.due ≤ t)))).head?

/-- What happens at the instant `t`, though the step that asks for it comes somewhat after: the clock reads `t` meanwhile. -/
def State.dated (s : State) (t : Time) (f : State → State) : State :=
  let c := s.dev.clk
  let r := f (s.onDev (fun d => { d with clk := d.clk.setTime t }))
  r.onDev (fun d => { d with clk := { d.clk with
    sec := c.sec
    ns := c.ns
    frac := c.frac
    sub := c.sub } })

/-- An accepted command reaches its boundary: it is checked again and carried out there (R85, R855). -/
def State.effect (s : State) (a : Accepted) : State :=
  let s := s.setDev { s.dev with ctl := { s.dev.ctl with accepted := s.dev.ctl.accepted.erase a } }
  match opSpec a.tok.opcode with
  | some o => s.dated a.due (fun s => o.perform a.tok a.late (some a.data) s)
  | none => s

/-- Every command due at or before `t` takes effect, in order. -/
def State.effects : Nat → Time → State → State
  | 0, _, s => s
  | n + 1, t, s => match s.dev.dueNext t with
    | some a => State.effects n t (s.effect a)
    | none => s

/-- COMMAND_EFFECT: the next command whose boundary has come; the unit has acted on the blocks that end there and on every earlier epoch
boundary. -/
def State.commandEffect (s : State) : State :=
  match s.dev.dueNext s.dev.now with
  | some a => if s.dev.boundaryOpen a.due then s.effect a else s
  | none => s

/-- The row COMMAND_EFFECT. -/
def execCommandEffect (s : State) : Host.Outcome State Fault Refusal := .next (s.actAllReady State.commandEffect)

/-! ### Epoch boundaries -/

/-- A PRIMARY whose alarm is latched surrenders (R598). -/
def State.alarmSurrender (s : State) (b : Time) : State :=
  if s.aon.alarmLatch && s.dev.mirrored && s.dev.pair.surrender.isNone then
    s.setDev ((s.dev.onPair (fun p => { p with surrender := some b })).linkSend ltSurrender (leBytes 8 (shortOf b).toNat))
  else s

/-- What the units that follow an epoch boundary do at it (Table 1-7, R27). -/
def Dev.epochWork (d : Dev) (j : Nat) : Dev :=
  let b := j * msT
  let d := (d.legPolicy b).talkerDecision
  let d := ((d.legStats j).levelTable b).qstatsWrite j
  let d := (d.rxRatios.tdmRatios).jbEpoch b
  let d := (d.throttleEpoch).isolateAborts
  let d := d.pairEpoch b
  { d with clk := { d.clk with nextEpoch := j + 1 } }

/-- EPOCH_BOUNDARY: first the commands of the boundary, then its commit groups, then the units that follow it (R35, R85). -/
def State.epochBoundary (s : State) : State :=
  let j := s.dev.clk.nextEpoch
  let b := j * msT
  if s.dev.now < b ∨ s.dev.clk.nextBlock ≤ 3 * j then s
  else
    let s := s.actReady Dev.readProfiles
    let s := State.effects s.dev.ctl.accepted.length b s
    let s := s.actReady (fun d => d.applyCommits b)
    let s := s.actAllReady (fun s => s.alarmSurrender b)
    let s := s.actReady (fun d => d.epochWork j)
    s.actAllReady State.restartDue

/-- The row EPOCH_BOUNDARY. -/
def execEpochBoundary (s : State) : Host.Outcome State Fault Refusal := .next (s.actAllReady State.epochBoundary)

/-! ### Block boundaries -/

/-- A block of zeros for every enabled TDM port. -/
def Dev.tdmZeros (d : Dev) : List (Nat × List (Option Int)) :=
  ((List.range 32).filter d.tdmOn).map (fun p =>
    (p, (List.range (32 / d.tdmRatio p)).flatMap (fun _ => (List.range (d.tdmSlots p)).map (d.tdmRest p))))

/-- A block boundary that ends no block: audio inputs begin here (R130), and the TDM outputs carry what is left of the pipe (R131, R409). -/
def Dev.silentBlock (d : Dev) : Dev :=
  let out := d.audio.tdmPipe.headD []
  let d := { d with audio := { d.audio with tdmPipe := d.audio.tdmPipe.drop 1 ++ [d.tdmZeros] } }
  if d.drivesTdm then out.foldl (fun (d : Dev) e => d.emit (.tdm e.1 e.2)) d else d

/-- BLOCK_BOUNDARY: the block that ends is evaluated under what was live while it entered (R26, R389): the commands of the boundary at which
it began have taken effect, then the commits of that boundary, then its metadata posts (R436). Tasks end at the boundary. -/
def Dev.blockBoundary (d : Dev) (tdm : List (Nat × List Int)) : Dev :=
  let j := d.clk.nextBlock
  if d.now < blockAt j ∨ 3 * d.clk.nextEpoch < j then d
  else
    let d := (d.applyCommits (blockAt (j - 1))).applyPosts (j - 1)
    let d := if d.audio.resume < j then (d.settleCalls).evalBlock j tdm else d.silentBlock
    let d := d.endTasks
    { d with clk := { d.clk with nextBlock := j + 1 } }

/-- The row BLOCK_BOUNDARY. -/
def execBlockBoundary (tdm : List (Nat × List Int)) (s : State) : Host.Outcome State Fault Refusal := .next (s.actReady (fun d => d.blockBoundary tdm))

/-! ### Dispatcher and picture ticks -/

/-- SNAPSHOT_LATCH: a latch asked for is made once its tick has come (R67). -/
def Dev.snapLatch (d : Dev) (p : Nat) : Dev :=
  match (d.page p).snapDue with
  | some t => if t ≤ d.now then d.latch p t else d
  | none => d

/-- The row SNAPSHOT_LATCH. -/
def execSnapshotLatch (page : Nat) (s : State) : Host.Outcome State Fault Refusal := .next (s.act (fun d => d.snapLatch page))

/-- DISPATCHER_TICK: delay lists advance and snapshots asked for are latched. -/
def Dev.dispatcherTick (d : Dev) : Dev :=
  let k := d.clk.nextTick
  if d.now < k * usT then d
  else
    let d := (d.ctl.pages.map (fun e => e.1)).foldl (fun (d : Dev) p => d.snapLatch p) d
    let d := d.releaseDue (k * usT) false
    { d with clk := { d.clk with nextTick := k + 1 } }

/-- The row DISPATCHER_TICK. -/
def execDispatcherTick (s : State) : Host.Outcome State Fault Refusal := .next (s.actReady Dev.dispatcherTick)

/-- PICTURE_TICK: pages that obey the layout go live, and the layout composes (R29, R75, R326). -/
def Dev.pictureTick (d : Dev) (l : Nat) : Dev :=
  let x := d.layout l
  let k := x.tickNo
  if decide (x.state = .idle) || decide (d.now < x.actAt k) || decide (d.clk.nextEpoch * msT ≤ x.tickAt k) then d
  else (d.tickCommits l (x.tickAt k)).micaTick l

/-- The row PICTURE_TICK. -/
def execPictureTick (layout : Nat) (s : State) : Host.Outcome State Fault Refusal := .next (s.actReady (fun d => d.pictureTick layout))

/-! ### A step of the clock (R127 to R134) -/

/-- A time of the new clock for one of the old. -/
def stepped (off : Int) (t : Time) : Time := ((t : Int) - off).toNat

/-- What was dated between the old time and the new is late (R32): commands go to the first boundary of the new time, groups from it on. -/
def Dev.stepLate (d : Dev) (old new : Time) : Dev :=
  let over_ (t : Time) : Bool := decide (old < t) && decide (t < new)
  let stated (k : Token) : Bool := k.cmd.dated && over_ (fullTime k.cmd.when0 k.cmd.when1)
  { d with ctl := { d.ctl with
    accepted := d.ctl.accepted.map (fun a =>
      if stated a.tok || over_ a.due then { a with
        due := if over_ a.due then epochCeil new else a.due
        late := a.late || a.tok.cmd.dated }
      else a)
    computing := d.ctl.computing.map (fun a => if over_ a.due then { a with due := epochCeil new } else a)
    groups := d.ctl.groups.map (fun (e : Nat × Group) => (e.1,
      if new ≤ old then e.2
      else { e.2 with
        at_ := max e.2.at_ new
        late := e.2.late || (e.2.tok.cmd.dated && (over_ e.2.at_ || over_ (blockAt (blockCeil e.2.at_)))) })) } }

/-- Measurement starts afresh in the new time (R129), and Quartz's own times move with the clock. -/
def Ptp.stepBy (p : Ptp) (off : Int) (new : Time) : Ptp :=
  { p with
    step := none
    raw := []
    twoStep := none
    t3 := none
    exch := none
    offAt := none
    evq := p.evq.filter (fun (e : PtpEvent) => match e with | .announce _ => true | _ => false)
    freerunEnds := none
    outStep := 0
    ppsFrom := stepped off p.ppsFrom
    lastSync := p.lastSync.map (stepped off)
    nextReq := p.nextReq.map (stepped off)
    ppsLast := p.ppsLast.map (stepped off)
    since := stepped off p.since
    foreign := p.foreign.map (fun f => { f with stamps := f.stamps.map (stepped off) })
    stepLast := -off
    stepTime := shortOf new }

/-- The pair's timers move with the clock; the digests of the new time begin with its first whole epoch. -/
def Pair.stepBy (p : Pair) (off : Int) (new : Time) : Pair :=
  { p with
    since := stepped off p.since
    hbLast := stepped off p.hbLast
    hbNext := new / (100 * usT) + 1
    ackAt := stepped off p.ackAt
    rxAt := stepped off p.rxAt
    txAt := stepped off p.txAt
    retxAt := stepped off p.retxAt
    nextDigest := epochCeil new / msT }

/-- Audio at a step: blocks in progress are discarded, inputs resume at the first block boundary of the new time, and outputs carry zeros
until the first sample derived from them (R130, R131). -/
def Dev.stepAudio (d : Dev) (new : Time) : Dev :=
  let j := blockCeil new
  let z := d.tdmZeros
  { d with
    audio := { d.audio with
      play := []
      outs := tabMapD {} d.audio.outs (fun _ (o : LegOut) => { o with
        start := 32 * j
        pcm := List.replicate 96 (0, 0)
        conv := 0
        set := none })
      srcs := []
      binHist := []
      tdmPipe := [z, z]
      resume := j
      rx := tabMapD {} d.audio.rx (fun _ (r : NetRx) => { r with
        held := []
        started := false
        missing := 0
        conv := []
        arrivals := []
        pos := none })
      tx := tabMapD {} d.audio.tx (fun _ (t : NetTx) => { t with
        start := 32 * j / t.desc.ratio
        frames := List.replicate (96 / t.desc.ratio * t.desc.channels) 0
        conv := [] })
      tdm := tabMapD {} d.audio.tdm (fun _ (t : TdmPort) => { t with
        next := none
        held := []
        last := []
        arrivals := []
        pos := none
        convIn := []
        convOut := [] }) }
    render := { d.render with
      chains := tabMapD {} d.render.chains (fun _ (x : Chain) => { x with
        eq := List.replicate 16 (0, 0, 0, 0)
        fir := []
        line := [] }) }
    garnet := { d.garnet with
      inserts := tabMapD {} d.garnet.inserts (fun _ (x : Insert) => { x with
        due := false
        out := none })
      cores := tabMapD {} d.garnet.cores (fun _ (c : Core) => { c with serving := none })
      posts := d.garnet.posts.map (fun (p : MetaPost) => { p with due := 0 }) } }

/-- Picture ticks follow the new time, and encoders of a layout whose sequence is shifted by other than whole periods start a gradual refresh
(R132). -/
def Dev.stepLayouts (d : Dev) (off : Int) (new : Time) : Dev :=
  (d.mica.layouts.filter (fun (e : Nat × Layout) => decide (e.2.state ≠ .idle))).foldl (fun (d : Dev) e =>
    let x := e.2
    let d := d.setLayout e.1 { x with tickNo := x.tickCeil new }
    if off * (x.rateNum : Int) % ((x.rateDen * secT : Nat) : Int) = 0 then d
    else (d.geode.enc.filter (fun y => y.2.desc.source == 0 && y.2.desc.layout == e.1)).foldl (fun (d : Dev) y => d.encTrigger y.1 false) d) d

/-- The records of a step: pending entries first, then STEP_APPLIED, then whatever follows (R152, R787); the trace likewise (R796). -/
def Dev.stepRecords (d : Dev) (off : Int) (b : Time) : Dev :=
  let d := (d.raise pgQuartz 3 0 0x0004 (fmkS 0 64 (-off)) (shortOf b)).logFlush
  if !d.traceOn then d
  else
    let d := d.trace 15 0xF002 0 (fmkS 0 64 (-off)) 0 0
    (sortBy (fun (x y : TraceEntry) => decide (x.order < y.order)) d.obs.trace).foldl (fun (d : Dev) e => d.traceWrite e) d

/-- Every unit whose boundary `b` is has acted on it at the old time: its commands, commit groups, block, dispatcher tick and picture ticks
(R129). -/
def Dev.boundaryDone (d : Dev) (b : Time) : Bool :=
  decide (b < d.clk.nextEpoch * msT) && decide (b < blockAt d.clk.nextBlock) && decide (b < d.clk.nextTick * usT) &&
  !d.ctl.accepted.any (fun a => decide (a.due ≤ b)) &&
  d.mica.layouts.all (fun (e : Nat × Layout) => decide (e.2.state = .idle) || decide (b < e.2.actAt e.2.tickNo))

/-- PPS_OUT and WCLK_OUT re-phase to the new time; what the step cuts short lasts 20 ns at least (R133). -/
def Dev.stepOutputs (d : Dev) (off : Int) (old new : Time) : Dev :=
  let pps := d.reg pgQuartz 0x110
  let w := d.reg pgQuartz 0x118
  let at_ := (new : Int) - sfld pps 32 32 * (nsT : Int)
  let into := (at_ % (secT : Int)).toNat
  let width := fld pps 8 24 * usT
  let high := match d.clk.ppsHigh with
    | some (r, _) => some (stepped off r, if into < width then new + (width - into) else new + (leastPulse - min leastPulse (old - r)))
    | none => none
  let period := 31250 * nsT * (if bit w 1 then 1 else 2)
  let level := decide ((((new : Int) - sfld w 32 32 * (nsT : Int)) * 3 % (period : Int)) * 2 < (period : Int))
  let d := { d with clk := { d.clk with
    ppsNext := ppsFirst pps new
    ppsHigh := high
    wclkHigh := d.clk.wclkHigh.map (stepped off)
    wclkHold := new + leastPulse } }
  if bit w 0 && (level != d.clk.wclkHigh.isSome) then d.wclkEdge (new, level) else d

/-- STEP_APPLY: once the boundary of the step has been acted on at the old time, the clock jumps by the negated filtered offset. -/
def Dev.stepApply (d : Dev) : Dev :=
  match d.ptp.step with
  | none => d
  | some st =>
    if !d.boundaryDone (st.epoch * msT) then d
    else
      let off := st.offset
      let old := d.now
      let new := stepped off old
      let d := (d.applyCommits old).logFlush
      let d := if !d.traceOn then d else (sortBy traceBefore d.obs.trace).foldl (fun (d : Dev) e => d.traceWrite e) d
      let c : Clock := { d.clk.setTime new with
        sub := d.clk.sub
        nextEpoch := epochCeil new / msT
        nextBlock := blockCeil new
        nextTick := ceilTo usT new / usT }
      let d := { d with
        clk := c
        ptp := d.ptp.stepBy off new
        pair := d.pair.stepBy off new }
      let d := d.stepOutputs off old new
      let d := d.stepRecords off (st.epoch * msT)
      let d := d.enterAcquiring
      let d := ((d.stepLate old new).stepAudio new).stepLayouts off new
      let d := if old < new then d.releaseDue d.now true else d
      let d := (List.range 8).foldl (fun (d : Dev) p => d.gatesStep p) d
      d.finish 0x0100 0 .ok 0 d.short

/-- The row STEP_APPLY. -/
def execStepApply (s : State) : Host.Outcome State Fault Refusal := .next (s.actReady Dev.stepApply)

end Sys2Proof.Machine
end

