-- ==== Sys2Proof/Machine/Read.lean ====
section
/-! DEFINITION. What the registers read: page states (Table 2-9), the common header (Tables 2-7 and 2-8), the DIRECTORY, PCIE, QUARTZ, QUAD,
PORT and REALM pages, and the one function that gives the 64 bits of any register at an instant. -/

namespace Sys2Proof.Machine
open Sys2Proof

/-- Pages that answer before READY (R754). -/
def earlyPages : List Nat := [0, 1, 3, 4, 6]

/-- The page answers (R754). -/
def State.answers (s : State) (p : Nat) : Bool := decide (s.dev.boot.phase = .ready) || earlyPages.contains p

/-- A page that is `st` from READY, and reads OFF until then (Table 2-8: STATE resets to 0). -/
def State.sinceReady (s : State) (st : PState) : PState := if s.dev.boot.phase = .ready then st else .off

/-- The state a page reports, as its chapter sets (R58). -/
def State.pageState (s : State) (p : Nat) : PState :=
  let d := s.dev
  let st := (d.page p).state
  let i := pageInst p
  match pageType p with
  | none => .off
  | some .geode => d.geState i
  | some .garnet => d.gaState i
  | some .mica => d.micaState i
  | some .quad => d.quadState i
  | some .port => if bit (d.portCfg i) 0 then .active else .ready
  | some .egress => s.sinceReady (if decide (0 < d.boundCount i) || (d.eport i).state != 0 then .active else .ready)
  | some .tdm => s.sinceReady (d.tdmState i)
  | some .render => s.sinceReady d.renderState
  | some .dma => s.sinceReady (d.dmaState i)
  | some .pair => d.pairState
  | some .obs => s.sinceReady (if d.traceOn then .active else .ready)
  | some .realm => s.sinceReady (if [0, 1, 2, 3].any (fun k => (d.ring i k).enable) then .active else .ready)
  | some .flint => s.sinceReady (if s.aon.alarmLatch then .faulted else .active)
  | some .memctl => if st = .faulted then .faulted else if d.mem.trained then .active else .init
  | some .legs | some .mix | some .xlat | some .dispatch | some .slab => s.sinceReady .active
  | some .directory | some .device | some .quartz | some .pcie | some .boot | some .errlog => st

/-- PAGE_CAPS (Table 2-8). -/
def Caps.word (c : Caps) : Word := fmkB 0 c.shadow ||| fmkB 1 c.counters ||| fmkB 2 c.isolate ||| fmkB 3 c.bist ||| fmkB 4 c.spare ||| fmk 8 6 c.events

/-- PAGE_CTRL as it reads. -/
def PageHdr.ctrlWord (h : PageHdr) : Word := fmkB 0 h.enable ||| fmkB 1 h.isolate ||| fmkB 5 h.snapHeld

/-- PAGE_COMMIT as it reads. -/
def PageHdr.commitWord (h : PageHdr) : Word := fmk 0 4 h.group ||| fmkB 4 h.bound ||| fmkB 5 h.arm ||| fmkB 6 h.locked

/-- PAGE_ERR as it reads. -/
def PageHdr.errWord (h : PageHdr) : Word := fmk 0 32 h.errCount ||| fmk 32 16 h.errLast

/-- The header of a page and PAGE_SNAP_TIME (Tables 2-7 and 2-8, R69). -/
def State.headerRead (s : State) (p : Nat) (t : PType) (off : Nat) : Word :=
  let h := s.dev.page p
  match off with
  | 0x000 => fmk 28 8 1 ||| fmk 36 12 (pageInst p) ||| fmk 48 16 t.code
  | 0x008 => t.caps.word
  | 0x010 => fmk 0 4 (s.pageState p).code ||| fmk 16 32 h.commitGen
  | 0x018 => h.ctrlWord
  | 0x020 => fmk 0 48 h.event.toNat
  | 0x028 => fmk 0 48 h.mask.toNat ||| fmk 48 8 h.vector
  | 0x030 => h.commitWord
  | 0x038 => h.errWord
  | _ => if t.caps.counters then h.snapTime else 0

/-- DIR_COUNT and DIR_ENTRY (Tables 2-5 and 2-6): no unit of the model is fused off. -/
def State.dirRead (s : State) (off : Nat) : Option Word :=
  if off = 0x048 then some (fmk 0 8 138 ||| fmk 8 8 64)
  else
    let i := (off - 0x050) / 8
    match pageType i with
    | some t => some (fmk 0 16 t.code ||| fmk 16 12 (pageInst i) ||| fmk 28 8 1 ||| fmk 36 4 (s.pageState i).code ||| fmkB 40 true)
    | none => none

/-- PCIE.LINK and PCIE.WIN_BASE (Tables 2-2 and 2-3, R862). -/
def Dev.pcieRead (d : Dev) (off : Nat) : Option Word :=
  if off = 0x048 then some (if d.ctl.linkUp then fmk 0 4 d.ctl.linkSpeed ||| fmk 4 6 d.ctl.linkWidth ||| fmkB 16 true else 0)
  else if off = 0x050 then some (setFld (d.reg pgPcie 0x050) 63 1 (if d.ctl.winRejected then 1 else 0))
  else none

/-- Whole seconds in the present HOLDOVER or STEP_REFUSED, saturating (Table 3-6). -/
def Dev.holdoverS (d : Dev) : Nat :=
  if d.ptp.servo = .holdover ∨ d.ptp.servo = .stepRefused then satN 4294967295 ((d.now - d.ptp.since) / secT) else 0

/-- QUARTZ registers read at the time of the read (Table 3-6). -/
def Dev.quartzRead (d : Dev) (off : Nat) : Option Word :=
  let p := d.ptp
  match off with
  | 0x048 => some (fullW0 d.now)
  | 0x050 => some p.nowW1
  | 0x058 => some d.short
  | 0x060 => some (fmk 0 48 d.clk.incr)
  | 0x0D0 => some (fmk 0 3 p.servo.code ||| fmk 4 4 p.refuseCause ||| fmkB 8 p.step.isSome ||| fmk 32 32 d.holdoverS)
  | 0x0D8 => some (fmkS 0 64 p.offset)
  | 0x0E0 => some (fmkS 0 64 p.path)
  | 0x0E8 => some (fmkS 0 64 d.freqAdj)
  | 0x0F0 => some (match p.info with | some m => m.gmId | none => 0)
  | 0x0F8 => some (match p.info with
    | some m => fmk 0 16 m.h.srcPort ||| fmk 16 8 m.clockClass ||| fmk 24 8 m.accuracy ||| fmk 32 16 m.variance ||| fmk 48 8 m.priority1 ||| fmk 56 8 m.priority2
    | none => 0)
  | 0x100 => some (match p.info with
    | some m => fmk 0 16 m.utcOffset ||| fmkB 16 m.utcValid ||| fmkB 17 m.leap61 ||| fmkB 18 m.leap59
    | none => 0)
  | 0x108 => some (fmk 0 32 p.smpte.1 ||| fmk 32 32 p.smpte.2)
  | 0x128 => some (fmkS 0 64 p.ppsOff)
  | 0x130 => some (fmkS 0 64 p.stepLast)
  | 0x138 => some p.stepTime
  | 0x140 => some (fmk 0 2 d.clk.refclk ||| fmkB 2 d.clk.refValid ||| fmkB 3 d.clk.fallback)
  | _ => none

/-- QUAD registers read at the time of the read (Table 13-10). -/
def Dev.quadRead (d : Dev) (q off : Nat) : Option Word :=
  let l := 4 * q + (off - 0x100) / 0x40
  if off = 0x048 then some (fmk 0 4 (min q 8) ||| fmk 4 3 (if d.dense (min q 8) then 6 else 2))
  else if off < 0x100 then none
  else if off % 0x40 = 0x08 then some (d.laneStatus l)
  else if off % 0x40 = 0x10 then some (d.prbsCfg l ||| fmkB 8 (d.lane l).chk.locked)
  else none

/-- PORT registers read at the time of the read (Tables 13-8 and 13-12, R646). -/
def Dev.portRead (d : Dev) (p off : Nat) : Option Word :=
  if off = 0x058 then some (d.portStatus p)
  else if off = 0x060 then some (fmk 0 32 (d.rxLat p))
  else if off = 0x068 then some (fmk 0 32 (d.txLat p))
  else none

/-- RING_CTRL as it reads (Table 2-14). -/
def Ring.ctrlWord (x : Ring) : Word :=
  fmkB 0 x.enable ||| fmkB 1 x.error ||| fmk 2 4 x.size ||| fmk 8 8 x.vector ||| fmk 16 8 x.coalN ||| fmk 24 12 x.coalUs

/-- Ring pair `k` exists in the REALM page of realm `r` (Table 2-13). -/
def ringThere (r k : Nat) : Bool := decide (r < 64) && (decide (k = 0) || (decide (r = 0) && decide (k < 4)))

/-- The ring registers of a REALM page (Table 2-13). -/
def Dev.ringRead (d : Dev) (r k o : Nat) : Word :=
  let x := d.ring r k
  if !ringThere r k then 0
  else match o with
    | 0x00 => BitVec.ofNat 64 x.cmdBase
    | 0x08 => fmk 0 16 x.cmdTail
    | 0x10 => fmk 0 16 x.cmdHead
    | 0x18 => BitVec.ofNat 64 x.cplBase
    | 0x20 => fmk 0 16 x.cplHead
    | 0x28 => fmk 0 16 x.cplTail
    | 0x30 => x.ctrlWord
    | _ => fmk 0 32 x.accepted ||| fmk 32 32 x.posted

/-- The registers of a REALM page: rings, and the key-slot window, whose key and salt registers read 0 (Table 12-4, R576). -/
def Dev.realmRead (d : Dev) (r off : Nat) : Option Word :=
  if 0x048 ≤ off ∧ off < 0x148 then some (d.ringRead r ((off - 0x048) / 0x40) ((off - 0x048) % 0x40))
  else if 0x218 ≤ off ∧ off ≤ 0x250 then some 0
  else if off = 0x258 then some (d.keyStatus r)
  else if off = 0x260 then some (d.keyInfo r)
  else none

/-- A block register that shows something other than what was stored in it. -/
def State.blockRead (s : State) (p : Nat) (t : PType) (off : Nat) : Option Word :=
  let d := s.dev
  let i := pageInst p
  match t with
  | .directory => s.dirRead off
  | .device => s.deviceRead off
  | .quartz => d.quartzRead off
  | .pcie => d.pcieRead off
  | .boot => s.bootRead off
  | .obs => d.obsRead off
  | .errlog => d.errlogRead off
  | .pair => d.pairRead off
  | .xlat => d.xlatRead off
  | .dispatch => d.dispRead off
  | .dma => d.dmaRead i off
  | .legs => d.legsRead off
  | .flint => s.flintRead off
  | .render => d.renderRead off
  | .mix => d.mixRead off
  | .slab => d.slabRead off
  | .mica => if i = 1 ∧ (off = 0x058 ∨ off = 0x060) then some 0 else d.micaRead i off
  | .tdm => d.tdmRead i off
  | .port => d.portRead i off
  | .egress => d.egressRead i off
  | .quad => d.quadRead i off
  | .memctl => d.memctlRead i off
  | .geode => d.geodeRead i off
  | .garnet => d.garnetRead i off
  | .realm => d.realmRead i off

/-- A counter as it reads: latched while SNAP_HELD is 1, else live (R68). -/
def Dev.counterRead (d : Dev) (p off : Nat) : Word :=
  if (d.page p).snapHeld then tabGetD 0 d.ctl.snaps (regKey p off) else d.counter p off

/-- The 64 bits of the live register at a multiple of 8 of a page, without what a read may do beside it (R64). -/
def State.seen (s : State) (p off : Nat) : Word :=
  match pageType p with
  | none => 0
  | some t =>
    if off < 0x048 then s.headerRead p t off
    else if t.isCounter off then s.dev.counterRead p off
    else match s.blockRead p t off with
      | some v => v
      | none => s.dev.reg p off

/-- A register of the page stands at the offset. -/
def regHere (p off : Nat) : Bool := ((pageType p).bind (fun t => t.regAt off)).isSome

/-- A shadow register stands at live offset `off` (R70). -/
def rwsHere (p off : Nat) : Bool := match (pageType p).bind (fun t => t.regAt off) with
  | some r => r.rws
  | none => false

/-! ### Reads of the host (R51, R63, R65) -/

/-- What a read does beside returning its value: NOW_W0 latches NOW_W1 (R117). -/
def State.onRead (s : State) (p off : Nat) : State :=
  if p = pgQuartz ∧ off = 0x048 then s.setDev s.dev.nowW0.1
  else if p = pgPcie ∧ (PType.pcie).isCounter off = true then s.setDev s.dev.pcieSample
  else s

/-- What a read of the whole register, or of its latched high half, clears or consumes (R9, R790). -/
def State.consume (s : State) (p off : Nat) : State :=
  if off = 0x038 then s.setDev (s.dev.onPage p (fun h => { h with
    errCount := 0
    errLast := 0 }))
  else if p = pgErrlog ∧ off = 0x070 then s.setDev s.dev.headConsume
  else s

/-- A 64-bit read. -/
def State.readWhole (s : State) (p off : Nat) : State × Word :=
  if !s.answers p then (s, 0)
  else if off % 8 ≠ 0 then (s.setDev (s.dev.err p .badAccess), 0)
  else if 0x800 ≤ off then
    (if rwsHere p (off - 0x800) then (s, s.dev.shadowReg p (off - 0x800))
     else if regHere p (off - 0x800) then (s.setDev (s.dev.err p .noShadow), 0) else (s, 0))
  else if !regHere p off then (s, 0)
  else ((s.onRead p off).consume p off, (s.onRead p off).seen p off)

/-- The word of which a 32-bit read takes a half, and the state with what such a read counts; `none` where the read returns 0. -/
def State.halfWord (s : State) (p base : Nat) : State × Option Word :=
  if 0x800 ≤ base then
    (if rwsHere p (base - 0x800) then (s, some (s.dev.shadowReg p (base - 0x800)))
     else if regHere p (base - 0x800) then (s.setDev (s.dev.err p .noShadow), none) else (s, none))
  else if regHere p base then (s.onRead p base, some ((s.onRead p base).seen p base)) else (s, none)

/-- A 32-bit read: the low half loads the page's latch; the high half of the same register returns it (R65). -/
def State.readHalf (s : State) (p off : Nat) : State × Word :=
  if !s.answers p then (s, 0)
  else if off % 4 ≠ 0 then (s.setDev (s.dev.err p .badAccess), 0)
  else
    let base := off / 8 * 8
    let r := s.halfWord p base
    match r.2 with
    | none => (r.1, 0)
    | some w =>
      if off % 8 = 0 then
        (r.1.setDev (r.1.dev.onPage p (fun h => { h with latch := some (base, BitVec.ofNat 32 (fld w 32 32)) })), fmk 0 32 (fld w 0 32))
      else match (r.1.dev.page p).latch with
        | some (b, hi) =>
          if b = base then
            let s := r.1.setDev (r.1.dev.onPage p (fun h => { h with latch := none }))
            (s.consume p base, fmk 0 32 hi.toNat)
          else (r.1, fmk 0 32 (fld w 32 32))
        | none => (r.1, fmk 0 32 (fld w 32 32))

/-- What the host read, given out. -/
def readOut (r : State × Word) : State := r.1.onDev (fun d => d.emit (.readData r.2))

/-- A register read whole or by one of its halves. -/
def State.readBy (s : State) (p off : Nat) : ReadHow → State
  | .whole => readOut (s.readWhole p off)
  | .low => readOut (s.readHalf p off)
  | .high => readOut (s.readHalf p (off + 4))

/-- A word of the MSI-X table or of its pending-bit array as it reads. -/
def Dev.msixRead (d : Dev) (p off : Nat) : Word :=
  if 4096 ≤ off then 0
  else if p = pgMsix then d.msixWord (off / 8)
  else BitVec.ofNat 64 (sumN (((d.ctl.msixPend.filter (fun v => v / 64 == off / 8)).map (fun v => 2 ^ (v % 64)))))

/-- A read access of the host of `size` bytes: one narrower than 32 bits or not aligned returns 0 and is counted (R63); the MSI-X table and its
pending-bit array answer beside the pages. -/
def State.read (s : State) (p off size : Nat) : State × Word :=
  if p = pgMsix ∨ p = pgPba then
    (s, if size = 8 ∧ off % 8 = 0 then s.dev.msixRead p off
        else if size = 4 ∧ off % 4 = 0 then fmk 0 32 (fld (s.dev.msixRead p off) (if off % 8 = 0 then 0 else 32) 32) else 0)
  else if size = 8 then s.readWhole p off
  else if size = 4 then s.readHalf p off
  else if s.answers p && decide (p < 202) then (s.setDev (s.dev.err p .badAccess), 0) else (s, 0)

/-- The row SPLIT_READ: a read access of the host, by halves or of another size. -/
def execSplitRead (page off size : Nat) (s : State) : Host.Outcome State Fault Refusal := .next (s.actAll (fun s => readOut (s.read page off size)))

/-- The row PAGE_ERR_READ. -/
def execPageErrRead (page : Nat) (how : ReadHow) (s : State) : Host.Outcome State Fault Refusal := .next (s.actAll (fun s => s.readBy page 0x038 how))

/-- The row HEAD_W3_READ. -/
def execHeadW3Read (how : ReadHow) (s : State) : Host.Outcome State Fault Refusal := .next (s.actAll (fun s => s.readBy pgErrlog 0x070 how))

end Sys2Proof.Machine
end

