-- ==== Sys2Proof/Machine/Control.lean ====
section
/-! DEFINITION. Writes of the host (chapter 2): the access checks, the write buffer, shadows, the common header, the block registers with a
behaviour of their own, what a SECONDARY refuses, and what a PRIMARY relays. -/

namespace Sys2Proof.Machine
open Sys2Proof

/-! ### The common header -/

/-- Pages that are OFF until enabled (R59). -/
def PType.gated : PType → Bool
  | .geode | .garnet | .mica | .quad => true
  | _ => false

/-- PAGE_CTRL.ISOLATE of a page whose PAGE_CAPS has ISOLATE (R60). -/
def Dev.isolate (d : Dev) (p : Nat) (on : Bool) : Dev :=
  match pageType p with
  | some .geode => d.geIsolate (pageInst p) on
  | some .garnet => d.gaIsolate (pageInst p) on
  | some .quad => (d.onPage p (fun h => { h with isolate := on })).quadIsolate (pageInst p) on
  | _ => d

/-- RESET: a READY, ISOLATED or FAULTED unit returns to INIT (R59). -/
def State.unitReset (s : State) (p : Nat) : State :=
  let st := s.pageState p
  if st = .ready ∨ st = .isolated ∨ st = .faulted then s.setDev (s.dev.onPage p (fun h => { h with state := .init })) else s.setDev (s.dev.err p .badState)

/-- SNAP_RELEASE acts at once; SNAPSHOT latches at the first tick after it (R67, R68, R69). -/
def Dev.snapWrite (d : Dev) (p : Nat) (shot release : Bool) : Dev :=
  let d := if release then d.onPage p (fun h => { h with snapHeld := false }) else d
  let has := match pageType p with | some t => t.caps.counters | none => false
  if shot && has then d.onPage p (fun h => { h with snapDue := some (match h.snapDue with | some t => t | none => (d.now / usT + 1) * usT) }) else d

/-- PAGE_CTRL written (Table 2-8, R59, R60, R67 to R69). -/
def State.ctrlWrite (s : State) (p : Nat) (t : PType) (v : Word) : State :=
  let h := s.dev.page p
  let ro := fld v 5 1 != fld h.ctrlWord 5 1
  let d := if fld v 6 58 = 0 then s.dev else s.dev.err p .reservedSet
  let d := if ro then d.err p .readOnly else d
  let d := if t.gated then d.onPage p (fun h => { h with
      enable := bit v 0
      state := if bit v 0 && decide (h.state = .off) then .init else h.state })
    else if bit v 0 || bit v 2 then d.err p .badState else d
  let d := if !t.caps.isolate then (if bit v 1 then d.err p .badState else d)
    else if bit v 1 = h.isolate then d else d.isolate p (bit v 1)
  let d := d.snapWrite p (bit v 3) (bit v 4)
  let s := s.setDev d
  if bit v 2 && t.gated then s.unitReset p else s

/-- A header register written. -/
def State.headerWrite (s : State) (p : Nat) (t : PType) (off : Nat) (v : Word) : State :=
  match off with
  | 0x018 => s.ctrlWrite p t v
  | 0x020 => s.onDev (fun d => d.clearEvents p v)
  | 0x028 => s.onDev (fun d => d.writeMask p v)
  | 0x030 => s.onDev (fun d => d.writeCommit p v)
  | 0x038 => if fld v 48 16 = 0 then s else s.onDev (fun d => d.err p .reservedSet)
  | _ => match t.regAt off with
    | some r => s.onDev (fun d => d.errs p (mergeFields r.flds (s.seen p off) (s.seen p off) v).2)
    | none => s

/-! ### Registers with a behaviour of their own -/

/-- WIN_BASE (R55): a base above 0x1E_8000_0000 is rejected. -/
def Dev.winBaseWrite (d : Dev) (v : Word) : Dev :=
  let old := d.reg pgPcie 0x050
  let m := match PType.pcie.regAt 0x050 with
    | some r => mergeFields r.flds old (setFld old 63 1 (if d.ctl.winRejected then 1 else 0)) v
    | none => (old, [])
  let d := d.errs pgPcie m.2
  let no := decide (0x1E80000000 < fld m.1 16 21 * 65536)
  let d := if no then d else d.setReg pgPcie 0x050 m.1
  { d with ctl := { d.ctl with winRejected := no } }

/-- CH_CTRL: ENABLE and PRIORITY, then RESUME, SKIP and STOP (Table 15-14). -/
def Dev.chCtrlWrite (d : Dev) (ch : Nat) (v : Word) : Dev :=
  let d := d.chEnable ch v
  let d := if bit v 1 then d.chResume ch else d
  let d := if bit v 2 then d.chSkip ch else d
  if bit v 3 then d.chStop ch else d

/-- DMA registers. -/
def Dev.dmaWrite (d : Dev) (p : Nat) (r : Reg) (off : Nat) (v : Word) : Dev :=
  let ch := 8 * pageInst p + (off - 0x100) / 0x40
  match off % 0x40 with
  | 0x00 => d.chCtrlWrite ch v
  | 0x08 => d.guarded p off v (!d.chOn ch) [(0, 4), (12, 36)]
  | 0x10 => d.chTailWrite ch v
  | _ => d.storeReg p r off v

/-- The fields of RING_CTRL, and of the other registers of a pair by their offset in it. -/
def ringFields (o : Nat) : List Fld := match PType.realm.regAt (0x048 + o) with
  | some r => r.flds
  | none => []

/-- A ring goes idle: disabled, its indices 0, and what was accepted from it completes nowhere (R82, R84, R91). -/
def Ring.stopped (x : Ring) : Ring :=
  { x with
    enable := false
    error := false
    cmdTail := 0
    cmdHead := 0
    cplTail := 0
    cplHead := 0
    reserved := 0
    unsig := 0
    phase := true
    gen := x.gen + 1 }

/-- Every ring pair of every realm, by its key 4 n + r. -/
def ringKeys : List Nat := (List.range 256).filter (fun k => ringThere (k / 4) (k % 4))

/-- RING_CTRL written (R81, R82, R84, R91). A command already accepted takes effect at its boundary though its ring is disabled, whether it
was DATED or not (DESIGN CHOICE, log entry 85): only its completion is lost. -/
def Dev.ringCtrl (d : Dev) (r k : Nat) (v : Word) : Dev :=
  let p := pgRealm r
  let x := d.ring r k
  let m := mergeFields (ringFields 0x30) x.ctrlWord x.ctrlWord v
  let d := d.errs p m.2
  let d := if x.enable && fld m.1 2 4 != x.size then d.err p .badState else d
  let y : Ring := { x with
    size := if x.enable then x.size else fld m.1 2 4
    vector := fld m.1 8 8
    coalN := fld m.1 16 8
    coalUs := fld m.1 24 12 }
  if bit v 0 then
    let n := y.entries
    if x.enable then d.setRing r k y
    else if y.cmdBase % (64 * n) = 0 ∧ y.cplBase % (16 * n) = 0 ∧ d.pinned r y.cmdBase (64 * n) = true ∧ d.pinned r y.cplBase (16 * n) = true then
      ((d.setRing r k { y with enable := true }).hold holdRing (4 * r + k) r y.cmdBase (64 * n)).hold holdRing (4 * r + k) r y.cplBase (16 * n)
    else d.setRing r k { y with error := true }
  else
    (d.setRing r k y.stopped).unhold holdRing (4 * r + k)

/-- A base written: only while ENABLE is 0 (R81, R854). -/
def Dev.ringBase (d : Dev) (r k o : Nat) (v : Word) : Dev :=
  let p := pgRealm r
  let x := d.ring r k
  let old := if o = 0 then x.cmdBase else x.cplBase
  let m := mergeFields (ringFields o) (BitVec.ofNat 64 old) (BitVec.ofNat 64 old) v
  let d := d.errs p m.2
  if x.enable then (if m.1.toNat = old then d else d.err p .badState)
  else d.setRing r k (if o = 0 then { x with cmdBase := m.1.toNat } else { x with cplBase := m.1.toNat })

/-- CMD_TAIL written (R82); a bad index stays in the register, which keeps what was written (DESIGN CHOICE, log entry 85). -/
def Dev.cmdTail (d : Dev) (r k : Nat) (v : Word) : Dev :=
  let x := d.ring r k
  let d := if fld v 16 48 = 0 then d else d.err (pgRealm r) .reservedSet
  let t := fld v 0 16
  d.setRing r k { x with
    cmdTail := t
    error := x.error || badIndex x.entries x.cmdHead x.cmdTail t }

/-- CPL_HEAD written (R83). -/
def Dev.cplHead (d : Dev) (r k : Nat) (v : Word) : Dev :=
  let x := d.ring r k
  let d := if fld v 16 48 = 0 then d else d.err (pgRealm r) .reservedSet
  d.setRing r k { x with cplHead := fld v 0 16 }

/-- The registers of a REALM page. -/
def State.realmWrite (s : State) (p : Nat) (g : Reg) (off : Nat) (v : Word) : State :=
  let r := pageInst p
  if 0x048 ≤ off ∧ off < 0x148 then
    let k := (off - 0x048) / 0x40
    if !ringThere r k then s
    else s.onDev (fun d => match (off - 0x048) % 0x40 with
      | 0x00 => d.ringBase r k 0 v
      | 0x08 => d.cmdTail r k v
      | 0x18 => d.ringBase r k 0x18 v
      | 0x20 => d.cplHead r k v
      | 0x30 => d.ringCtrl r k v
      | _ => d.errs p (mergeFields g.flds (s.seen p off) (s.seen p off) v).2)
  else if isKeyReg off then s.onDev (fun d => d.keyRegisterWrite r off v)
  else if off = 0x250 then
    s.onDev (fun d =>
      let d := if fld v 2 62 = 0 then d else d.err p .reservedSet
      match fld v 0 2 with
      | 1 => d.keyWrite r
      | 2 => d.zeroize r
      | 3 => d.cancelPending r
      | _ => if (d.keyWin r).busy then d.err p .badState else d)
  else s.onDev (fun d => d.errs p (mergeFields g.flds (s.seen p off) (s.seen p off) v).2)

/-- A live block register written: the registers whose chapter gives them more than storing, then the rest (R7, R853, R856, R857). -/
def State.liveWrite (s : State) (p : Nat) (t : PType) (g : Reg) (off : Nat) (v : Word) : State :=
  let i := pageInst p
  let plain := s.onDev (fun d =>
    let m := mergeFields g.flds (d.reg p off) (s.seen p off) v
    (d.setReg p off m.1).errs p m.2)
  let on (f : Dev → Dev) : State := s.onDev f
  match t with
  | .boot => if off = 0x078 ∨ off = 0x080 ∨ off = 0x088 then s.bootWrite off v else plain
  | .pcie => if off = 0x050 then on (fun d => d.winBaseWrite v) else plain
  | .quartz =>
    if off = 0x068 then on (fun d => d.writePtpCfg v)
    else if off = 0x110 then on (fun d => d.ppsCfgWrite v)
    else if off = 0x120 then on (fun d => d.ppsInCfgWrite v) else plain
  | .obs => if off = 0x048 then on (fun d => d.traceBaseWrite v) else if off = 0x050 then on (fun d => d.traceSizeWrite v) else plain
  | .legs =>
    if off = 0x050 then on (fun d => d.statsCfgWrite v)
    else if off = 0x060 then on (fun d => d.bufBaseWrite v)
    else if off = 0x068 then on (fun d => d.bufSizeWrite v) else plain
  | .egress =>
    if off = 0x058 then on (fun d => d.ctrlCfgWrite i v)
    else if off = 0x068 then (if i = 0 then on (fun d => d.qstatsCfgWrite v) else s)
    else if off = 0x070 then (if i = 0 then on (fun d => d.guarded p off v (!bit (d.reg p 0x068) 0) [(16, 32)]) else s) else plain
  | .mica =>
    if off = 0x058 then (if i = 0 then on (fun d => d.stillBaseWrite v) else s)
    else if off = 0x060 then (if i = 0 then on (fun d => d.guarded p off v (!bit (d.reg p 0x058) 0) [(0, 32)]) else s) else plain
  | .mix => if off = 0x050 then on (fun d => d.enableSelf pgMix 0x050 v holdLevel 131072) else plain
  | .tdm => if 0x100 ≤ off ∧ off < 0x200 ∧ off % 0x40 = 0 then on (fun d => d.tdmCfgWrite (4 * i + (off - 0x100) / 0x40) v) else plain
  | .port =>
    if off = 0x048 then on (fun d => d.portCfgWrite i v)
    else if off = 0x050 then on (fun d => d.guarded p off v (!bit (d.portCfg i) 0) [(0, 48)]) else plain
  | .quad =>
    if 0x100 ≤ off ∧ off < 0x200 ∧ off % 0x40 = 0 then on (fun d => d.laneCfgWrite (4 * i + (off - 0x100) / 0x40) v)
    else if 0x100 ≤ off ∧ off < 0x200 ∧ off % 0x40 = 0x10 then on (fun d => d.prbsCfgWrite (4 * i + (off - 0x100) / 0x40) v) else plain
  | .flint => if off = 0x050 then s.alarmCfgWrite v else if off = 0x068 then on (fun d => d.pipeCtrlWrite v) else plain
  | .xlat => if off = 0x050 then on (fun d => d.faultBaseWrite v) else plain
  | .memctl => if off = 0x058 ∨ off = 0x060 then (if i = 0 then on (fun d => d.eccMapWrite ((off - 0x058) / 8) v) else s) else plain
  | .slab => if 0x100 ≤ off ∧ off < 0x180 then on (fun d => d.sliceCfgWrite ((off - 0x100) / 8) v) else plain
  | .dma => if 0x100 ≤ off then (if off % 0x40 < 0x18 then on (fun d => d.dmaWrite p g off v) else plain) else plain
  | .realm => s.realmWrite p g off v
  | .directory | .device | .errlog | .pair | .dispatch | .render | .geode | .garnet => plain

/-- A shadow register written (R70, R73). -/
def Dev.shadowStore (d : Dev) (p : Nat) (g : Reg) (off : Nat) (v : Word) : Dev :=
  if (d.page p).locked then d.err p .locked
  else
    let m := mergeFields g.flds (d.shadowReg p off) (d.shadowReg p off) v
    (d.setShadow p off m.1).errs p m.2

/-- Test controls of a QUAD page: RETRY_CFG, LANE_CFG and PRBS_CFG (R61, R647). -/
def testControl (t : PType) (off : Nat) : Bool :=
  decide (t = .quad) && (decide (off = 0x050) || (decide (0x100 ≤ off) && decide (off < 0x200) && (off % 0x40 == 0 || off % 0x40 == 0x10)))

/-- A write of 64 bits to a register that stands at `off` of the page, the shadow of live offset `off` when `shadow` is set (R61, R70). -/
def State.store (s : State) (p : Nat) (t : PType) (g : Reg) (off : Nat) (shadow : Bool) (v : Word) : State :=
  let st := s.pageState p
  if off < 0x040 then s.headerWrite p t off v
  else if (decide (st = .isolated) || decide (st = .testing)) && !testControl t off then s.onDev (fun d => d.err p .badState)
  else if shadow then s.onDev (fun d => d.shadowStore p g off v)
  else if g.rws then s.onDev (fun d => d.err p .readOnly)
  else if off = 0x040 then s.headerWrite p t off v
  else s.liveWrite p t g off v

/-- A SECONDARY's host may not write this register: the block registers of every BAR0 page but PAIR (R656), and the commit bindings that follow
the primary's. -/
def State.secondaryRefuses (s : State) (p off : Nat) : Bool :=
  decide (s.dev.pair.role = .secondary) && decide (p < 138) && decide (p ≠ pgPair) && (decide (0x040 ≤ off) || decide (off = 0x030))

/-- A BAR0 write that changed a live or shadow block register, or a commit binding, goes to the partner (R670, R812). -/
def State.relayWrite (s0 s : State) (p off : Nat) (v : Word) : State :=
  let live := decide (0x040 ≤ off) && (decide (s0.dev.ctl.regs ≠ s.dev.ctl.regs) || decide (s0.dev.ctl.shadow ≠ s.dev.ctl.shadow) ||
    decide (s0.aon ≠ s.aon) || decide (s0.dev.dma ≠ s.dev.dma))
  let bind := decide (off = 0x030) && decide ((s0.dev.page p).commitWord ≠ (s.dev.page p).commitWord)
  if s.dev.joined && decide (p < 138) && decide (p ≠ pgPair) && (live || bind)
  then s.onDev (fun d => d.linkSend ltRegWrite (leBytes 2 p ++ leBytes 2 off ++ leBytes 8 v.toNat)) else s

/-- A whole write at an offset of a page, by this unit's host. -/
def State.storeAt (s : State) (p base : Nat) (v : Word) : State :=
  let shadow := decide (0x800 ≤ base)
  let off := if shadow then base - 0x800 else base
  match pageType p with
  | none => s
  | some t => match t.regAt off with
    | none => s
    | some g =>
      if shadow && !g.rws then s.onDev (fun d => d.err p .noShadow)
      else if s.secondaryRefuses p off then s.onDev (fun d => d.err p .badState)
      else State.relayWrite s (s.store p t g off shadow v) p base v

/-! ### Accesses (R63, R66) -/

/-- A held low half is discarded by any other write to the page (R66). -/
def Dev.splitLost (d : Dev) (p : Nat) : Dev :=
  if (d.page p).wbuf.isNone then d else (d.onPage p (fun h => { h with wbuf := none })).err p .splitLost

/-- A write while the page does not answer: nothing, but RING_CTRL.ENABLE before READY is counted (R51, R754). -/
def State.deafWrite (s : State) (p off : Nat) (v : Word) : State :=
  if decide (138 ≤ p) && decide (p < 202) && ringThere (p - 138) ((off - 0x078) / 0x40) && decide (0x078 ≤ off) && (off - 0x078) % 0x40 == 0 && bit v 0
  then s.onDev (fun d => d.err p .badState) else s

/-- A vector's message that waited leaves once MSI-X is on and the vector is not masked (Table 2-1). -/
def Dev.msixRelease (d : Dev) (v : Nat) : Dev :=
  if d.ctl.msixPend.contains v && d.msixLive v
  then ({ d with ctl := { d.ctl with msixPend := d.ctl.msixPend.filter (fun x => x != v) } }).msix v else d

/-- A word of the MSI-X table written, whole or by a half. -/
def Dev.msixWrite (d : Dev) (k lo w : Nat) (v : Word) : Dev :=
  ({ d with ctl := { d.ctl with msixTab := tabPutD 0 d.ctl.msixTab k (setFld (d.msixWord k) lo w v.toNat) } }).msixRelease (k / 2)

/-- An access to the MSI-X table, BAR0 offset 0xC_0000, here page 202: entries of 16 bytes, aligned accesses of 32 or 64 bits. The pending-bit
array, page 203, is not written. -/
def State.msixAccess (s : State) (p off size : Nat) (v : Word) : State :=
  if p ≠ pgMsix ∨ (size ≠ 4 ∧ size ≠ 8) ∨ off % size ≠ 0 ∨ 4096 ≤ off then s
  else s.onDev (fun d => d.msixWrite (off / 8) (if off % 8 = 0 then 0 else 32) (8 * size) v)

/-- A write access of the host: `size` bytes of `v` at `off` of a page. -/
def State.write (s : State) (p off size : Nat) (v : Word) : State :=
  if p = pgMsix ∨ p = pgPba then s.msixAccess p off size v
  else if !s.answers p then s.deafWrite p off v
  else if 202 ≤ p then s
  else
    let base := off / 8 * 8
    let held := (s.dev.page p).wbuf
    let low := match held with
      | some (b, lo) => if size = 4 ∧ off = b + 4 then some lo else none
      | none => none
    let s := if low.isSome then s else s.onDev (fun d => d.splitLost p)
    let live := if 0x800 ≤ base then base - 0x800 else base
    if (size ≠ 4 ∧ size ≠ 8) ∨ off % size ≠ 0 then s.onDev (fun d => d.err p .badAccess)
    else if !regHere p live then s
    else if size = 8 then s.storeAt p base v
    else if decide (0x800 ≤ base) && !rwsHere p live then s.onDev (fun d => d.err p .noShadow)
    else if off % 8 = 0 then s.onDev (fun d => d.onPage p (fun h => { h with wbuf := some (base, BitVec.ofNat 32 v.toNat) }))
    else match low with
      | some lo =>
        (s.onDev (fun d => d.onPage p (fun h => { h with wbuf := none }))).storeAt p base (fmk 0 32 lo.toNat ||| fmk 32 32 v.toNat)
      | none => s.onDev (fun d => d.err p .halfUnpaired)

/-- A whole write of a register by the host, while the unit runs. -/
def State.hostWrite (s : State) (p off : Nat) (v : Word) : State := s.actAll (fun s => s.write p off 8 v)

/-- A write of PAGE_CTRL that sets some bits beside those it holds. -/
def State.ctrlSet (s : State) (p lo : Nat) (b : Bool) : State := s.hostWrite p 0x018 (setFld (s.dev.page p).ctrlWord lo 1 (if b then 1 else 0))

/-- The row REGISTER_WRITE. -/
def execRegisterWrite (page off size : Nat) (v : Word) (s : State) : Host.Outcome State Fault Refusal := .next (s.actAll (fun s => s.write page off size v))

/-- The row SPLIT_WRITE. -/
def execSplitWrite (page off : Nat) (v : BitVec 32) (s : State) : Host.Outcome State Fault Refusal :=
  .next (s.actAll (fun s => s.write page off 4 (fmk 0 32 v.toNat)))

/-- The row SHADOW_WRITE: `off` is the live offset. -/
def execShadowWrite (page off : Nat) (v : Word) (s : State) : Host.Outcome State Fault Refusal := .next (s.hostWrite page (off + 0x800) v)

/-- The row PAGE_ENABLE. -/
def execPageEnable (page : Nat) (s : State) : Host.Outcome State Fault Refusal := .next (s.ctrlSet page 0 true)

/-- The row PAGE_ISOLATE. -/
def execPageIsolate (page : Nat) (on : Bool) (s : State) : Host.Outcome State Fault Refusal := .next (s.ctrlSet page 1 on)

/-- The row PAGE_RESET. -/
def execPageReset (page : Nat) (s : State) : Host.Outcome State Fault Refusal := .next (s.ctrlSet page 2 true)

/-- The row SNAPSHOT. -/
def execSnapshot (page : Nat) (s : State) : Host.Outcome State Fault Refusal := .next (s.ctrlSet page 3 true)

/-- The row SNAP_RELEASE. -/
def execSnapRelease (page : Nat) (s : State) : Host.Outcome State Fault Refusal := .next (s.ctrlSet page 4 true)

/-- The row PAGE_EVENT_CLEAR. -/
def execPageEventClear (page : Nat) (v : Word) (s : State) : Host.Outcome State Fault Refusal := .next (s.hostWrite page 0x020 v)

/-- The row PAGE_EVENT_MASK_WRITE. -/
def execPageEventMaskWrite (page : Nat) (v : Word) (s : State) : Host.Outcome State Fault Refusal := .next (s.hostWrite page 0x028 v)

/-- The row PAGE_COMMIT_WRITE. -/
def execPageCommitWrite (page : Nat) (v : Word) (s : State) : Host.Outcome State Fault Refusal := .next (s.hostWrite page 0x030 v)

/-- The row SELF_TEST_DONE (R257, R359, R518, R647). -/
def execSelfTestDone (page : Nat) (s : State) : Host.Outcome State Fault Refusal :=
  .next (s.act (fun d => match pageType page with
    | some t => if t.gated && decide ((d.page page).state = .init) then d.onPage page (fun h => { h with state := .ready }) else d
    | none => d))

/-! ### The rows that write one register -/

/-- The row WIN_BASE_WRITE. -/
def execWinBaseWrite (v : Word) (s : State) : Host.Outcome State Fault Refusal := .next (s.hostWrite pgPcie 0x050 v)

/-- The row PTP_CFG_WRITE. -/
def execPtpCfgWrite (v : Word) (s : State) : Host.Outcome State Fault Refusal := .next (s.hostWrite pgQuartz 0x068 v)

/-- The row STATS_CFG_WRITE. -/
def execStatsCfgWrite (v : Word) (s : State) : Host.Outcome State Fault Refusal := .next (s.hostWrite pgLegs 0x050 v)

/-- The row BUF_BASE_WRITE. -/
def execBufBaseWrite (v : Word) (s : State) : Host.Outcome State Fault Refusal := .next (s.hostWrite pgLegs 0x060 v)

/-- The row STILL_BASE_WRITE. -/
def execStillBaseWrite (v : Word) (s : State) : Host.Outcome State Fault Refusal := .next (s.hostWrite (pgMica 0) 0x058 v)

/-- The row LEVEL_BASE_WRITE. -/
def execLevelBaseWrite (v : Word) (s : State) : Host.Outcome State Fault Refusal := .next (s.hostWrite pgMix 0x050 v)

/-- The row TDM_CFG_WRITE. -/
def execTdmCfgWrite (p : Nat) (v : Word) (s : State) : Host.Outcome State Fault Refusal :=
  .next (if p < 32 then s.hostWrite (pgTdm p) (0x100 + 0x40 * (p % 4)) v else s)

/-- The row PORT_CFG_WRITE. -/
def execPortCfgWrite (p : Nat) (v : Word) (s : State) : Host.Outcome State Fault Refusal := .next (if p < 8 then s.hostWrite (pgPort p) 0x048 v else s)

/-- The row LANE_CFG_WRITE. -/
def execLaneCfgWrite (l : Nat) (v : Word) (s : State) : Host.Outcome State Fault Refusal :=
  .next (if l < 40 then s.hostWrite (pgQuad (l / 4)) (0x100 + 0x40 * (l % 4)) v else s)

/-- The row ERR_INJECT: PRBS_CFG written with ERR_INJECT 1 and its other fields as they stand. -/
def execErrInject (l : Nat) (s : State) : Host.Outcome State Fault Refusal :=
  .next (if l < 40 then s.hostWrite (pgQuad (l / 4)) (0x110 + 0x40 * (l % 4)) (setFld (s.seen (pgQuad (l / 4)) (0x110 + 0x40 * (l % 4))) 9 1 1) else s)

/-- The row ALARM_CFG_WRITE. -/
def execAlarmCfgWrite (v : Word) (s : State) : Host.Outcome State Fault Refusal := .next (s.hostWrite pgFlint 0x050 v)

/-- The row PIPE_CTRL_WRITE. -/
def execPipeCtrlWrite (v : Word) (s : State) : Host.Outcome State Fault Refusal := .next (s.hostWrite pgFlint 0x068 v)

/-- The row QSTATS_CFG_WRITE. -/
def execQstatsCfgWrite (v : Word) (s : State) : Host.Outcome State Fault Refusal := .next (s.hostWrite (pgEgress 0) 0x068 v)

/-- The row FAULT_BASE_WRITE. -/
def execFaultBaseWrite (v : Word) (s : State) : Host.Outcome State Fault Refusal := .next (s.hostWrite pgXlat 0x050 v)

/-- The row ECC_MAP_WRITE. -/
def execEccMapWrite (which : Nat) (v : Word) (s : State) : Host.Outcome State Fault Refusal :=
  .next (if which < 2 then s.hostWrite (pgMemctl 0) (0x058 + 8 * which) v else s)

/-- The row SLICE_CFG_WRITE. -/
def execSliceCfgWrite (slice : Nat) (v : Word) (s : State) : Host.Outcome State Fault Refusal :=
  .next (if slice < 16 then s.hostWrite pgSlab (0x100 + 8 * slice) v else s)

/-- The row TRACE_BASE_WRITE. -/
def execTraceBaseWrite (v : Word) (s : State) : Host.Outcome State Fault Refusal := .next (s.hostWrite pgObs 0x048 v)

/-- CH_CTRL of a channel, written by the host. -/
def State.chWrite (s : State) (ch o : Nat) (v : Word) : State := if ch < 32 then s.hostWrite (pgDma ch) (chOff ch o) v else s

/-- The row CH_ENABLE. -/
def execChEnable (ch : Nat) (v : Word) (s : State) : Host.Outcome State Fault Refusal := .next (s.chWrite ch 0 v)

/-- The row CH_RESUME: CH_CTRL written with RESUME 1. -/
def execChResume (ch : Nat) (s : State) : Host.Outcome State Fault Refusal := .next (s.chWrite ch 0 (setFld (s.dev.chReg ch 0) 1 1 1))

/-- The row CH_SKIP: CH_CTRL written with SKIP 1. -/
def execChSkip (ch : Nat) (s : State) : Host.Outcome State Fault Refusal := .next (s.chWrite ch 0 (setFld (s.dev.chReg ch 0) 2 1 1))

/-- The row CH_STOP: CH_CTRL written with STOP 1. -/
def execChStop (ch : Nat) (s : State) : Host.Outcome State Fault Refusal := .next (s.chWrite ch 0 (setFld (s.dev.chReg ch 0) 3 1 1))

/-- The row CH_TAIL_WRITE. -/
def execChTailWrite (ch : Nat) (v : Word) (s : State) : Host.Outcome State Fault Refusal := .next (s.chWrite ch 0x10 v)

/-- The row RING_CTRL_WRITE. -/
def execRingCtrlWrite (realm ring : Nat) (v : Word) (s : State) : Host.Outcome State Fault Refusal :=
  .next (if ringThere realm ring then s.hostWrite (pgRealm realm) (0x078 + 0x40 * ring) v else s)

/-- The row CMD_TAIL_WRITE. -/
def execCmdTailWrite (realm ring : Nat) (v : Word) (s : State) : Host.Outcome State Fault Refusal :=
  .next (if ringThere realm ring then s.hostWrite (pgRealm realm) (0x050 + 0x40 * ring) v else s)

/-- The row CPL_HEAD_WRITE. -/
def execCplHeadWrite (realm ring : Nat) (v : Word) (s : State) : Host.Outcome State Fault Refusal :=
  .next (if ringThere realm ring then s.hostWrite (pgRealm realm) (0x068 + 0x40 * ring) v else s)

/-! ### The BAR4 window (R53) -/

/-- A BAR4 access: by physical address from WIN_BASE; the check data of a protected region is not addressable (R25); a read may show that a
MEMORY output has been read (R351). -/
def Dev.bar4 (d : Dev) (off : Nat) (op : BarOp) : Dev :=
  let a := fld (d.reg pgPcie 0x050) 16 21 * 65536 + off
  match op with
  | .read n =>
    if 4294967296 < off + n then d
    else
      let b := d.physReads a n
      (({ d with ctl := { d.ctl with free := d.ctl.free + n } }).emit (.readBytes b)).readBack a n
  | .write b => if 4294967296 < off + b.length then d else d.physWrites a b

/-- The row BAR4_ACCESS. -/
def execBar4Access (off : Nat) (op : BarOp) (s : State) : Host.Outcome State Fault Refusal := .next (s.act (fun d => d.bar4 off op))

/-! ### Resets of the host interface (R49, R751, R862) -/

/-- Every ring is disabled, and what was accepted from it completes nowhere (R49, R91). -/
def Dev.ringsOff (d : Dev) : Dev := ringKeys.foldl (fun (d : Dev) k => (d.setRing (k / 4) (k % 4) (d.ring (k / 4) (k % 4)).stopped).unhold holdRing k) d

/-- The host interface is reset: rings, DMA and MSI-X; media processing goes on (R49). Ring bases, SIZE, VECTOR and coalescing, WIN_BASE and
REJECTED, event masks and the MSI-X table keep their values, which R49 does not name (DESIGN CHOICE, log entry 85). -/
def Dev.hostReset (d : Dev) : Dev :=
  let d := d.ringsOff
  let d := (List.range 32).foldl (fun (d : Dev) ch => d.chStop ch) d
  { d with ctl := { d.ctl with
    msixOn := false
    msixPend := []
    d3hot := false } }

/-- The row FUNCTION_LEVEL_RESET: the reset itself, which leaves the endpoint in D0, or entry to D3hot (R48, R49). -/
def execFunctionLevelReset (d3 : Bool) (s : State) : Host.Outcome State Fault Refusal :=
  .next (s.act (fun d => { d.hostReset with ctl := { d.hostReset.ctl with d3hot := d3 } }))

/-! ### The endpoint's configuration space (R47, R48) -/

/-- What the endpoint's configuration space reports. -/
structure Endpoint where
  vendorId : Nat
  deviceId : Nat
  classCode : Nat
  revisionId : Nat
  subsystemVendorId : Nat
  subsystemId : Nat
  maxPayload : Nat
  maxReadRequest : Nat
  nonPosted : Nat
  errorReporting : Bool
  virtualization : Bool
  addressServices : Bool
  linkPower : Bool
  speeds : List Nat
  widths : List Nat
  barBytes : List Nat
  vectors : Nat
  msixEnabled : Bool
  powerState : Nat
  deriving DecidableEq, Repr

/-- The configuration space as it stands (R47, R48, R50, R93); power state 0 is D0 and 3 is D3hot. -/
def State.endpoint (s : State) : Endpoint :=
  { vendorId := 0x1D9B
    deviceId := 0x4096
    classCode := 0x048000
    revisionId := 0xB0
    subsystemVendorId := 0x1D9B
    subsystemId := if Config.orderCode then 0x0101 else 0x0100
    maxPayload := 512
    maxReadRequest := 4096
    nonPosted := 256
    errorReporting := true
    virtualization := false
    addressServices := false
    linkPower := false
    speeds := [1, 2, 3]
    widths := [1, 2, 4, 8]
    barBytes := [1048576, 262144, 4294967296]
    vectors := 256
    msixEnabled := s.dev.ctl.msixOn
    powerState := if s.dev.ctl.d3hot then 3 else 0 }

/-- PCIE.LINK follows the link; a speed or width that R47 does not give is no link. -/
def Dev.linkChange (d : Dev) (speed width : Nat) (up : Bool) : Dev :=
  let ok := up && [1, 2, 3].contains speed && [1, 2, 4, 8].contains width
  { d with ctl := { d.ctl with
    linkUp := ok
    linkSpeed := if ok then speed else 0
    linkWidth := if ok then width else 0 } }

/-- The row PCIE_LINK_CHANGE. -/
def execPcieLinkChange (speed width : Nat) (up : Bool) (s : State) : Host.Outcome State Fault Refusal := .next (s.act (fun d => d.linkChange speed width up))

/-- The row PERST: the host interface is reset and the link retrains (R751). -/
def execPerst (s : State) : Host.Outcome State Fault Refusal := .next (s.act (fun d => d.hostReset.linkChange 0 0 false))

end Sys2Proof.Machine
end

