-- ==== Sys2Proof/Machine/Rings.lean ====
section
/-! DEFINITION. Commands taken from the rings (R82 to R91), their messages, and the commands and writes that a primary relays (R670). -/

namespace Sys2Proof.Machine
open Sys2Proof

/-! ### Intake -/

/-- A command may be taken: the ring runs, holds one, and its completion ring has a free entry (R83). A CPL_HEAD outside the ring, for which
no rule is given, is taken modulo the ring's size (DESIGN CHOICE, log entry 85). -/
def Dev.fetchable (d : Dev) (r k : Nat) : Bool :=
  let x := d.ring r k
  let n := x.entries
  ringThere r k && x.enable && !x.error && x.cmdHead != x.cmdTail && decide ((x.cplTail + n - x.cplHead % n) % n + x.reserved < n - 1)

/-- The fields of a command of 64 bytes (Table 2-15). -/
def cmdOf (r k : Nat) (b : List Byte) : HostCmd :=
  { realm := r
    ring := k
    tag := BitVec.ofNat 32 (leAt b 4 4)
    flags := BitVec.ofNat 8 (leAt b 2 1)
    rsvd := BitVec.ofNat 8 (leAt b 3 1)
    when0 := BitVec.ofNat 64 (leAt b 8 8)
    when1 := BitVec.ofNat 64 (leAt b 16 8)
    args := BitVec.ofNat 320 (leAt b 24 40) }

/-- RING_STAT counts a command accepted (Table 2-13). -/
def Dev.countAccepted (d : Dev) (r k : Nat) : Dev :=
  d.setRing r k { d.ring r k with accepted := ((d.ring r k).accepted + 1) % 4294967296 }

/-- A command taken from a ring is checked and accepted or completed (R87, R89). -/
def State.judge (s : State) (k : Token) : State :=
  match opSpec k.opcode with
  | none => s.onDev (fun d => d.refuse k .badOpcode 0)
  | some o => s.process o k (fun s => s.onDev (fun d => d.countAccepted k.cmd.realm k.cmd.ring))

/-- COMMAND_FETCH (R83). A command with FENCE waits until every earlier one of its ring has completed (Table 2-15). -/
def State.commandFetch (s : State) (r k : Nat) : State :=
  let d := s.dev
  let x := d.ring r k
  if !d.fetchable r k then s
  else match captureVa d r (x.cmdBase + 64 * x.cmdHead) 64 with
    | none => s.setDev (d.setRing r k { x with error := true })
    | some b =>
      let c := cmdOf r k b
      if c.fence && decide (0 < x.reserved) then s
      else
        let y : Ring := { x with
          cmdHead := (x.cmdHead + 1) % x.entries
          reserved := x.reserved + 1
          nextPos := x.nextPos + 1 }
        (s.setDev (d.setRing r k y)).judge ⟨c, leAt b 0 2, x.nextPos, x.gen, false⟩

/-- The row COMMAND_FETCH. -/
def execCommandFetch (realm ring : Nat) (s : State) : Host.Outcome State Fault Refusal := .next (s.actAllReady (fun s => s.commandFetch realm ring))

/-- COALESCE_TIMEOUT (R95). -/
def Dev.coalesce (d : Dev) (r k : Nat) : Dev :=
  let x := d.ring r k
  if x.unsig = 0 ∨ x.coalUs = 0 ∨ d.now < x.unsigAt + x.coalUs * usT then d
  else (d.setRing r k { x with unsig := 0 }).msix x.vector

/-- The row COALESCE_TIMEOUT. -/
def execCoalesceTimeout (realm ring : Nat) (s : State) : Host.Outcome State Fault Refusal := .next (s.actReady (fun d => d.coalesce realm ring))

/-! ### Relayed commands and writes (R670) -/

/-- A Mirror Link frame taken by the whole machine: what it holds acts when the frame is accepted (R661). -/
def State.linkTake (s : State) (f : LinkHdr) (g : State → State) : State :=
  let ok := s.dev.pair.up && f.crcOk && f.seq == s.dev.pair.rxSeq
  let s := s.onDev (fun d => d.linkAccept f (fun d => d))
  if ok then g s else s

/-- A command of the primary: held for the primary's boundary, with the bytes read for it; a COMMIT_GROUP keeps the primary's time, and
GATE_LIST_SET reckons its switch from the primary's earliest applicable time (R557). -/
def State.relayed (s : State) (r : RelayedCmd) : State :=
  match opSpec r.opcode with
  | none => s
  | some o =>
    let x := s.dev.ring r.cmd.realm r.cmd.ring
    let c : HostCmd := if r.opcode = 0x0001 then { r.cmd with
        flags := r.cmd.flags ||| 1
        when0 := fullW0 r.boundary
        when1 := fullW1 r.boundary }
      else r.cmd
    let k : Token := ⟨c, r.opcode, x.nextPos, relayGen, false⟩
    let s := s.onDev (fun d => d.setRing r.cmd.realm r.cmd.ring { x with nextPos := x.nextPos + 1 })
    if o.atOnce then s.dated r.boundary (fun s => o.perform k false (some r.data) s) else s.onDev (fun d => d.holdCommand ⟨k, r.boundary, false, r.data⟩)

/-- A register write of the primary, applied on receipt. -/
def State.relayedWrite (s : State) (p base : Nat) (v : Word) : State :=
  let shadow := decide (0x800 ≤ base)
  let off := if shadow then base - 0x800 else base
  match pageType p with
  | none => s
  | some t => match t.regAt off with
    | none => s
    | some g => if 138 ≤ p then s else s.store p t g off shadow v

/-- What a primary relays is carried out at once, or while the secondary joins kept until the transfer is complete (R667, R669). -/
def State.early (s : State) (e : Early) : State :=
  if decide (s.dev.pair.role ≠ .secondary) then s
  else if s.dev.pair.filling then s.onDev (fun d => d.onPair (fun p => { p with early := p.early ++ [e] }))
  else match e with
    | .command r => s.relayed r
    | .write p off v => s.relayedWrite p off v

/-- The row COMMAND. -/
def execCommand (f : LinkHdr) (r : RelayedCmd) (s : State) : Host.Outcome State Fault Refusal :=
  .next (s.actAll (fun s => s.linkTake f (fun s => s.early (.command r))))

/-- The row REG_WRITE. -/
def execRegWrite (f : LinkHdr) (page off : Nat) (v : Word) (s : State) : Host.Outcome State Fault Refusal :=
  .next (s.actAll (fun s => s.linkTake f (fun s => s.early (.write page off v))))

/-- The row JOIN_COMPLETE: the secondary then carries its state forward with what it has received meanwhile (R667, R668). -/
def execJoinComplete (s : State) : Host.Outcome State Fault Refusal :=
  .next (s.actAll (fun s =>
    let l := s.dev.pair.early
    let joins := decide (s.dev.pair.partner = .joining)
    let s := s.onDev Dev.joinComplete
    if joins && decide (s.dev.pair.role = .secondary) then
      (l.foldl (fun (s : State) e => s.early e) (s.onDev (fun d => d.onPair (fun p => { p with early := [] })))).onDev (fun d => d.follow.applyDue)
    else s))

end Sys2Proof.Machine
end

