-- ==== Sys2Proof/Machine/Test.lean ====
section
/-! DEFINITION. The test access port (R802, R804 to R807): it works while the rails are up, and reads a frozen unit. -/

namespace Sys2Proof.Machine
open Sys2Proof

/-- The port has power. -/
def State.tapOn (s : State) : Bool := s.aon.auxOn && s.aon.railsOn

/-- A change that the port makes while it has power. -/
def State.tap (s : State) (f : State → State) : State := if s.tapOn then f s else s

/-- What the port shifts out. -/
def State.tapOut (s : State) (bits v : Nat) : State := s.onDev (fun d => d.emit (.jtag bits v))

/-- The row TEST_RESET: TRST_N resets the port alone; the unit stays as it is (R802). -/
def execTestReset (s : State) : Host.Outcome State Fault Refusal := .next s

/-- The row EXTEST: it drives the pins only while RESET_N is low and the unit is not frozen; otherwise it samples (Table 17-6). -/
def execExtest (scan : List Bool) (s : State) : Host.Outcome State Fault Refusal :=
  .next (s.tap (fun s => s.onDev (fun d => d.emit (.scan (!s.aon.resetHigh && !s.dev.obs.frozen) scan))))

/-- The row IDCODE. -/
def execIdcode (s : State) : Host.Outcome State Fault Refusal := .next (s.tap (fun s => s.tapOut 32 0x1409656B))

/-- The row SAMPLE_PRELOAD. -/
def execSamplePreload (scan : List Bool) (s : State) : Host.Outcome State Fault Refusal := .next (s.tap (fun s => s.onDev (fun d => d.emit (.scan false scan))))

/-- The row FRZ_STATUS (Table 17-6): the record of the freeze, and whether the unit is frozen now. -/
def execFrzStatus (s : State) : Host.Outcome State Fault Refusal :=
  .next (s.tap (fun s => s.tapOut 64 (s.aon.freeze.fields ||| fmkB 0 s.dev.obs.frozen).toNat))

/-- The row FRZ_TIME. -/
def execFrzTime (s : State) : Host.Outcome State Fault Refusal := .next (s.tap (fun s => s.tapOut 64 s.aon.freeze.time.toNat))

/-- The row RD_ADDR: the space and the byte offset, 8-byte aligned. -/
def execRdAddr (v : Word) (s : State) : Host.Outcome State Fault Refusal :=
  .next (s.tap (fun s => s.onDev (fun d => { d with obs := { d.obs with rdAddr := fmk 60 4 (fld v 60 4) ||| fmk 0 48 (fld v 0 48 / 8 * 8) } })))

/-- The row BYPASS: the 1-bit register captures 0. -/
def execBypass (s : State) : Host.Outcome State Fault Refusal := .next (s.tap (fun s => s.tapOut 1 0))

/-- Space 1: a register of BAR0 without side effect; its even offsets are whole registers. -/
def State.peekBar0 (s : State) (o : Nat) : Word :=
  let p := o / 0x1000
  let off := o % 0x1000
  if 138 ≤ p then 0
  else if 0x800 ≤ off then (if rwsHere p (off - 0x800) then s.dev.shadowReg p (off - 0x800) else 0)
  else if regHere p off then s.seen p off else 0

/-- Space 2: the memories of the cluster that a physical unit serves; what the firmware keeps in them is a free value (Table 17-7). -/
def Dev.peekGarnet (d : Dev) (a : Word) : Option Word :=
  let o := fld a 0 20 / 8
  match d.gaLogical (fld a 40 8) with
  | none => none
  | some l =>
    if bit a 39 then (if 16384 ≤ o then some 0 else some (d.coefWord l o))
    else
      let c := d.gcore (16 * l + fld a 35 4)
      if 5120 ≤ o then some 0
      else if 4096 ≤ o then
        (match c.image with
         | some i => some (nthD 0 (tabGetD {} d.garnet.images i).bundles (o - 4096))
         | none => none)
      else if 0x0E44 ≤ o then none
      else some (tabGetD 0 c.mem o)

/-- Space 5: a slice of the Slab. -/
def Dev.peekSlab (d : Dev) (a : Word) : Word :=
  let o := fld a 0 21
  if 0x140000 ≤ o then 0 else BitVec.ofNat 64 (leNat (memReads d.mem.slab (fld a 40 4 * 0x140000 + o) 8))

/-- Space 7, FIFO 0: the Error Collector's pending entries, 32 bytes each (Table 17-1). -/
def Dev.peekPending (d : Dev) (o : Nat) : Word :=
  match d.obs.pending[o / 32]? with
  | some e => nthD 0 e.words (o % 32 / 8)
  | none => 0

/-- The word at RD_ADDR, `none` where the spec does not lay its memory out: there it is a free value. -/
def State.peek (s : State) (a : Word) : Option Word :=
  let d := s.dev
  match fld a 60 4 with
  | 0 => some (BitVec.ofNat 64 (leNat (d.dramReads (fld a 0 48) 8)))
  | 1 => some (s.peekBar0 (fld a 0 48))
  | 2 => d.peekGarnet a
  | 3 => if 34 ≤ fld a 40 8 then some 0 else none
  | 5 => some (d.peekSlab a)
  | 6 => if 16384 ≤ fld a 0 40 then some 0 else none
  | 7 => if fld a 32 16 = 0 then some (d.peekPending (fld a 0 16)) else none
  | _ => none

/-- RD_DATA at Capture-DR (R805, R806): outside freeze 0 with VALID 0; a DRAM word is VALID once it is available, and the rest of its burst with it. -/
def State.rdData (s : State) (available : Bool) : State :=
  if !s.dev.obs.frozen then s.tapOut 65 0
  else
    let a := s.dev.obs.rdAddr
    let dram := fld a 60 4 == 0 && decide (fld a 0 48 < dramEnd)
    let burst := fld a 0 48 / 64
    if dram && !available && s.dev.obs.rdBurst != some burst then s.tapOut 65 0
    else
      let d := s.dev
      let v := match s.peek a with | some v => v | none => d.freeWord
      let d := if (s.peek a).isNone then d.tickFree else d
      let d := { d with obs := { d.obs with
        rdAddr := fmk 60 4 (fld a 60 4) ||| fmk 0 48 (fld a 0 48 + 8)
        rdBurst := if dram then some burst else d.obs.rdBurst } }
      (s.setDev d).tapOut 65 (2 ^ 64 + v.toNat)

/-- The row RD_DATA. -/
def execRdData (available : Bool) (s : State) : Host.Outcome State Fault Refusal := .next (s.tap (fun s => s.rdData available))

end Sys2Proof.Machine
end

