-- ==== Sys2Proof/Machine/Dispatch.lean ====
section
/-! DEFINITION. What each command does to everything but the queue: one arm for each constructor of Instr. -/

namespace Sys2Proof.Machine
open Sys2Proof

/-- A command's effect, by the spec's rules. -/
def exec (i : Instr) (s : State) : Host.Outcome State Fault Refusal :=
  match i with
  | .registerWrite page off size v => Sys2Proof.Machine.execRegisterWrite page off size v s
  | .splitWrite page off v => Sys2Proof.Machine.execSplitWrite page off v s
  | .splitRead page off size => Sys2Proof.Machine.execSplitRead page off size s
  | .pageErrRead page how => Sys2Proof.Machine.execPageErrRead page how s
  | .shadowWrite page off v => Sys2Proof.Machine.execShadowWrite page off v s
  | .pageEnable page => Sys2Proof.Machine.execPageEnable page s
  | .pageIsolate page on => Sys2Proof.Machine.execPageIsolate page on s
  | .pageReset page => Sys2Proof.Machine.execPageReset page s
  | .snapshot page => Sys2Proof.Machine.execSnapshot page s
  | .snapshotLatch page => Sys2Proof.Machine.execSnapshotLatch page s
  | .snapRelease page => Sys2Proof.Machine.execSnapRelease page s
  | .pageEventClear page v => Sys2Proof.Machine.execPageEventClear page v s
  | .pageEventMaskWrite page v => Sys2Proof.Machine.execPageEventMaskWrite page v s
  | .pageCommitWrite page v => Sys2Proof.Machine.execPageCommitWrite page v s
  | .winBaseWrite v => Sys2Proof.Machine.execWinBaseWrite v s
  | .bar4Access off op => Sys2Proof.Machine.execBar4Access off op s
  | .functionLevelReset d3 => Sys2Proof.Machine.execFunctionLevelReset d3 s
  | .pcieLinkChange speed width up => Sys2Proof.Machine.execPcieLinkChange speed width up s
  | .ringCtrlWrite realm ring v => Sys2Proof.Machine.execRingCtrlWrite realm ring v s
  | .cmdTailWrite realm ring v => Sys2Proof.Machine.execCmdTailWrite realm ring v s
  | .cplHeadWrite realm ring v => Sys2Proof.Machine.execCplHeadWrite realm ring v s
  | .commandFetch realm ring => Sys2Proof.Machine.execCommandFetch realm ring s
  | .commandEffect => Sys2Proof.Machine.execCommandEffect s
  | .coalesceTimeout realm ring => Sys2Proof.Machine.execCoalesceTimeout realm ring s
  | .nop c => Sys2Proof.Machine.execNop c s
  | .commitGroup c => Sys2Proof.Machine.execCommitGroup c s
  | .commitGroupApply group page => Sys2Proof.Machine.execCommitGroupApply group page s
  | .cancelCommit c => Sys2Proof.Machine.execCancelCommit c s
  | .quartzTick n => Sys2Proof.Machine.execQuartzTick n s
  | .epochBoundary => Sys2Proof.Machine.execEpochBoundary s
  | .blockBoundary tdm => Sys2Proof.Machine.execBlockBoundary tdm s
  | .dispatcherTick => Sys2Proof.Machine.execDispatcherTick s
  | .pictureTick layout => Sys2Proof.Machine.execPictureTick layout s
  | .nowW0Read => Sys2Proof.Machine.execNowW0Read s
  | .ptpCfgWrite v => Sys2Proof.Machine.execPtpCfgWrite v s
  | .sync m => Sys2Proof.Machine.execSync m s
  | .followUp m => Sys2Proof.Machine.execFollowUp m s
  | .delayResp m => Sys2Proof.Machine.execDelayResp m s
  | .announce m => Sys2Proof.Machine.execAnnounce m s
  | .delayReq draw => Sys2Proof.Machine.execDelayReq draw s
  | .syncTimeout => Sys2Proof.Machine.execSyncTimeout s
  | .announceTimeout => Sys2Proof.Machine.execAnnounceTimeout s
  | .stepApply => Sys2Proof.Machine.execStepApply s
  | .acceptStep c => Sys2Proof.Machine.execAcceptStep c s
  | .globalSnapshot c => Sys2Proof.Machine.execGlobalSnapshot c s
  | .refclkLost => Sys2Proof.Machine.execRefclkLost s
  | .refclkRestored => Sys2Proof.Machine.execRefclkRestored s
  | .ppsOutPulse => Sys2Proof.Machine.execPpsOutPulse s
  | .ppsInEdge stamp => Sys2Proof.Machine.execPpsInEdge stamp s
  | .ppsInMissing => Sys2Proof.Machine.execPpsInMissing s
  | .legOpen c => Sys2Proof.Machine.execLegOpen c s
  | .legStart c => Sys2Proof.Machine.execLegStart c s
  | .legHold c => Sys2Proof.Machine.execLegHold c s
  | .legResume c => Sys2Proof.Machine.execLegResume c s
  | .legClose c => Sys2Proof.Machine.execLegClose c s
  | .legDrainEnd leg => Sys2Proof.Machine.execLegDrainEnd leg s
  | .legRelease c => Sys2Proof.Machine.execLegRelease c s
  | .legUpdate c => Sys2Proof.Machine.execLegUpdate c s
  | .streamAdd c => Sys2Proof.Machine.execStreamAdd c s
  | .streamRemove c => Sys2Proof.Machine.execStreamRemove c s
  | .subscribe c => Sys2Proof.Machine.execSubscribe c s
  | .unsubscribe c => Sys2Proof.Machine.execUnsubscribe c s
  | .subscribeSet c => Sys2Proof.Machine.execSubscribeSet c s
  | .legQuery c => Sys2Proof.Machine.execLegQuery c s
  | .consentRequest leg txid draw => Sys2Proof.Machine.execConsentRequest leg txid draw s
  | .consentExpired leg => Sys2Proof.Machine.execConsentExpired leg s
  | .frameReceive port stamp columns waiting => Sys2Proof.Machine.execFrameReceive port stamp columns waiting s
  | .videoWaitExpiry leg idx => Sys2Proof.Machine.execVideoWaitExpiry leg idx s
  | .nackSend leg idx => Sys2Proof.Machine.execNackSend leg idx s
  | .feedbackLost leg => Sys2Proof.Machine.execFeedbackLost leg s
  | .layerSuspend layout output layer => Sys2Proof.Machine.execLayerSuspend layout output layer s
  | .pliSend leg idx => Sys2Proof.Machine.execPliSend leg idx s
  | .repairEscalated leg idx => Sys2Proof.Machine.execRepairEscalated leg idx s
  | .rtcpSend leg => Sys2Proof.Machine.execRtcpSend leg s
  | .feedbackSend leg => Sys2Proof.Machine.execFeedbackSend leg s
  | .statsCfgWrite v => Sys2Proof.Machine.execStatsCfgWrite v s
  | .bufBaseWrite v => Sys2Proof.Machine.execBufBaseWrite v s
  | .encStreamOpen c => Sys2Proof.Machine.execEncStreamOpen c s
  | .encStreamClose c => Sys2Proof.Machine.execEncStreamClose c s
  | .encStreamUpdate c => Sys2Proof.Machine.execEncStreamUpdate c s
  | .encRefresh c => Sys2Proof.Machine.execEncRefresh c s
  | .encQuery c => Sys2Proof.Machine.execEncQuery c s
  | .encSubmit c => Sys2Proof.Machine.execEncSubmit c s
  | .encJobStart stream => Sys2Proof.Machine.execEncJobStart stream s
  | .encJobDone stream => Sys2Proof.Machine.execEncJobDone stream s
  | .geodePreempt engine layer row => Sys2Proof.Machine.execGeodePreempt engine layer row s
  | .decStreamOpen c => Sys2Proof.Machine.execDecStreamOpen c s
  | .decStreamClose c => Sys2Proof.Machine.execDecStreamClose c s
  | .decQuery c => Sys2Proof.Machine.execDecQuery c s
  | .decSubmit c => Sys2Proof.Machine.execDecSubmit c s
  | .decJobStart stream => Sys2Proof.Machine.execDecJobStart stream s
  | .decJobDone stream r => Sys2Proof.Machine.execDecJobDone stream r s
  | .geodeTwin c => Sys2Proof.Machine.execGeodeTwin c s
  | .geodeUntwin c => Sys2Proof.Machine.execGeodeUntwin c s
  | .geodeSwap c => Sys2Proof.Machine.execGeodeSwap c s
  | .geodeSwapMove logical => Sys2Proof.Machine.execGeodeSwapMove logical s
  | .geodeLinkError pair corrected => Sys2Proof.Machine.execGeodeLinkError pair corrected s
  | .layoutOpen c => Sys2Proof.Machine.execLayoutOpen c s
  | .layoutStart c => Sys2Proof.Machine.execLayoutStart c s
  | .layoutStop c => Sys2Proof.Machine.execLayoutStop c s
  | .layoutClose c => Sys2Proof.Machine.execLayoutClose c s
  | .layerLoad c => Sys2Proof.Machine.execLayerLoad c s
  | .layoutFlip c => Sys2Proof.Machine.execLayoutFlip c s
  | .layerBypass c => Sys2Proof.Machine.execLayerBypass c s
  | .stillLoad c => Sys2Proof.Machine.execStillLoad c s
  | .layoutQuery c => Sys2Proof.Machine.execLayoutQuery c s
  | .sourceLate layout entry => Sys2Proof.Machine.execSourceLate layout entry s
  | .micaPictureDone layout => Sys2Proof.Machine.execMicaPictureDone layout s
  | .stillBaseWrite v => Sys2Proof.Machine.execStillBaseWrite v s
  | .legAudioSet c => Sys2Proof.Machine.execLegAudioSet c s
  | .confAudioSet c => Sys2Proof.Machine.execConfAudioSet c s
  | .hrtfLoad c => Sys2Proof.Machine.execHrtfLoad c s
  | .routeSet c => Sys2Proof.Machine.execRouteSet c s
  | .routeClear c => Sys2Proof.Machine.execRouteClear c s
  | .routeQuery c => Sys2Proof.Machine.execRouteQuery c s
  | .netRxOpen c => Sys2Proof.Machine.execNetRxOpen c s
  | .netRxClose c => Sys2Proof.Machine.execNetRxClose c s
  | .netTxOpen c => Sys2Proof.Machine.execNetTxOpen c s
  | .netTxClose c => Sys2Proof.Machine.execNetTxClose c s
  | .netAudioReceive port stamp frame => Sys2Proof.Machine.execNetAudioReceive port stamp frame s
  | .jbForceStep leg idx => Sys2Proof.Machine.execJbForceStep leg idx s
  | .plcMute leg idx => Sys2Proof.Machine.execPlcMute leg idx s
  | .levelBaseWrite v => Sys2Proof.Machine.execLevelBaseWrite v s
  | .tdmCfgWrite port v => Sys2Proof.Machine.execTdmCfgWrite port v s
  | .tdmFrame port fsInstant bclks codes => Sys2Proof.Machine.execTdmFrame port fsInstant bclks codes s
  | .tdmLock port => Sys2Proof.Machine.execTdmLock port s
  | .lockLost port => Sys2Proof.Machine.execLockLost port s
  | .spkLayoutLoad c => Sys2Proof.Machine.execSpkLayoutLoad c s
  | .spkLayoutLoaded bank => Sys2Proof.Machine.execSpkLayoutLoaded bank s
  | .spkLayoutSelect c => Sys2Proof.Machine.execSpkLayoutSelect c s
  | .renderStart c => Sys2Proof.Machine.execRenderStart c s
  | .renderStop c => Sys2Proof.Machine.execRenderStop c s
  | .objSet c => Sys2Proof.Machine.execObjSet c s
  | .spkSet c => Sys2Proof.Machine.execSpkSet c s
  | .firLoad c => Sys2Proof.Machine.execFirLoad c s
  | .hoaSet c => Sys2Proof.Machine.execHoaSet c s
  | .renderQuery c => Sys2Proof.Machine.execRenderQuery c s
  | .garnetLoad c => Sys2Proof.Machine.execGarnetLoad c s
  | .garnetUnload c => Sys2Proof.Machine.execGarnetUnload c s
  | .insertOpen c => Sys2Proof.Machine.execInsertOpen c s
  | .insertClose c => Sys2Proof.Machine.execInsertClose c s
  | .insertParam c => Sys2Proof.Machine.execInsertParam c s
  | .insertCoef c => Sys2Proof.Machine.execInsertCoef c s
  | .insertBypass c => Sys2Proof.Machine.execInsertBypass c s
  | .insertReset c => Sys2Proof.Machine.execInsertReset c s
  | .insertQuery c => Sys2Proof.Machine.execInsertQuery c s
  | .garnetSwap c => Sys2Proof.Machine.execGarnetSwap c s
  | .garnetSwapSwitch logical => Sys2Proof.Machine.execGarnetSwapSwitch logical s
  | .eccFatal physical => Sys2Proof.Machine.execEccFatal physical s
  | .garnetFaultMove logical => Sys2Proof.Machine.execGarnetFaultMove logical s
  | .taskStart c => Sys2Proof.Machine.execTaskStart c s
  | .taskStop c => Sys2Proof.Machine.execTaskStop c s
  | .insertCall insert => Sys2Proof.Machine.execInsertCall insert s
  | .insertBudgetExpiry insert => Sys2Proof.Machine.execInsertBudgetExpiry insert s
  | .bundleIssue cluster core ecc => Sys2Proof.Machine.execBundleIssue cluster core ecc s
  | .dispGetReturn cluster core => Sys2Proof.Machine.execDispGetReturn cluster core s
  | .xferDone cluster core => Sys2Proof.Machine.execXferDone cluster core s
  | .timerInterrupt cluster core => Sys2Proof.Machine.execTimerInterrupt cluster core s
  | .interruptEntry cluster core => Sys2Proof.Machine.execInterruptEntry cluster core s
  | .queueAssign c => Sys2Proof.Machine.execQueueAssign c s
  | .queueSet c => Sys2Proof.Machine.execQueueSet c s
  | .queueQuery c => Sys2Proof.Machine.execQueueQuery c s
  | .queueFlush c => Sys2Proof.Machine.execQueueFlush c s
  | .gateListSet c => Sys2Proof.Machine.execGateListSet c s
  | .gateListCancel c => Sys2Proof.Machine.execGateListCancel c s
  | .hostSend c => Sys2Proof.Machine.execHostSend c s
  | .gateSwitched port => Sys2Proof.Machine.execGateSwitched port s
  | .gateEntryStart port => Sys2Proof.Machine.execGateEntryStart port s
  | .transmitOpportunity port => Sys2Proof.Machine.execTransmitOpportunity port s
  | .pacerEligible queue => Sys2Proof.Machine.execPacerEligible queue s
  | .queueSample port => Sys2Proof.Machine.execQueueSample port s
  | .qstatsCfgWrite v => Sys2Proof.Machine.execQstatsCfgWrite v s
  | .keyslotAssign c => Sys2Proof.Machine.execKeyslotAssign c s
  | .keyQuery c => Sys2Proof.Machine.execKeyQuery c s
  | .flintRelease c => Sys2Proof.Machine.execFlintRelease c s
  | .keyWrite realm => Sys2Proof.Machine.execKeyWrite realm s
  | .zeroize realm => Sys2Proof.Machine.execZeroize realm s
  | .cancelPending realm => Sys2Proof.Machine.execCancelPending realm s
  | .keyCmdConfirm realm => Sys2Proof.Machine.execKeyCmdConfirm realm s
  | .keyCmdTimeout realm => Sys2Proof.Machine.execKeyCmdTimeout realm s
  | .keyRegisterWrite realm off v => Sys2Proof.Machine.execKeyRegisterWrite realm off v s
  | .alarm sources => Sys2Proof.Machine.execAlarm sources s
  | .alarmCfgWrite v => Sys2Proof.Machine.execAlarmCfgWrite v s
  | .pipeCtrlWrite v => Sys2Proof.Machine.execPipeCtrlWrite v s
  | .flintPipeMove pipe => Sys2Proof.Machine.execFlintPipeMove pipe s
  | .pipeFault pipe => Sys2Proof.Machine.execPipeFault pipe s
  | .signalDetect lane => Sys2Proof.Machine.execSignalDetect lane s
  | .signalLoss lane => Sys2Proof.Machine.execSignalLoss lane s
  | .cdrLock lane => Sys2Proof.Machine.execCdrLock lane s
  | .cdrTimeout lane => Sys2Proof.Machine.execCdrTimeout lane s
  | .commaDetect lane slips err => Sys2Proof.Machine.execCommaDetect lane slips err s
  | .commaTimeout lane => Sys2Proof.Machine.execCommaTimeout lane s
  | .deskewDone unit skews => Sys2Proof.Machine.execDeskewDone unit skews s
  | .deskewTimeout unit => Sys2Proof.Machine.execDeskewTimeout unit s
  | .tryRetry lane => Sys2Proof.Machine.execTryRetry lane s
  | .noPartnerRetry lane => Sys2Proof.Machine.execNoPartnerRetry lane s
  | .syncLoss lane => Sys2Proof.Machine.execSyncLoss lane s
  | .skewLoss unit => Sys2Proof.Machine.execSkewLoss unit s
  | .laneRetrain c => Sys2Proof.Machine.execLaneRetrain c s
  | .portQuery c => Sys2Proof.Machine.execPortQuery c s
  | .laneCfgWrite lane v => Sys2Proof.Machine.execLaneCfgWrite lane v s
  | .errInject lane => Sys2Proof.Machine.execErrInject lane s
  | .prbsLock lane bits => Sys2Proof.Machine.execPrbsLock lane bits s
  | .prbsLockLost lane bits => Sys2Proof.Machine.execPrbsLockLost lane bits s
  | .elasticAdjust port => Sys2Proof.Machine.execElasticAdjust port s
  | .remoteFault port => Sys2Proof.Machine.execRemoteFault port s
  | .remoteFaultClear port => Sys2Proof.Machine.execRemoteFaultClear port s
  | .portCfgWrite port v => Sys2Proof.Machine.execPortCfgWrite port v s
  | .roleDecisionTimeout => Sys2Proof.Machine.execRoleDecisionTimeout s
  | .heartbeatPulse => Sys2Proof.Machine.execHeartbeatPulse s
  | .heartbeatLoss => Sys2Proof.Machine.execHeartbeatLoss s
  | .frozenIndication => Sys2Proof.Machine.execFrozenIndication s
  | .deposed => Sys2Proof.Machine.execDeposed s
  | .linkUp => Sys2Proof.Machine.execLinkUp s
  | .linkFail => Sys2Proof.Machine.execLinkFail s
  | .linkRetransmit => Sys2Proof.Machine.execLinkRetransmit s
  | .linkIdleAck => Sys2Proof.Machine.execLinkIdleAck s
  | .hello f h => Sys2Proof.Machine.execHello f h s
  | .ack f => Sys2Proof.Machine.execAck f s
  | .manifest f entries => Sys2Proof.Machine.execManifest f entries s
  | .manifestAck f index => Sys2Proof.Machine.execManifestAck f index s
  | .log f records => Sys2Proof.Machine.execLog f records s
  | .digest f epoch digests => Sys2Proof.Machine.execDigest f epoch digests s
  | .digestTimeout => Sys2Proof.Machine.execDigestTimeout s
  | .resyncDone leg => Sys2Proof.Machine.execResyncDone leg s
  | .relayReq f indexes => Sys2Proof.Machine.execRelayReq f indexes s
  | .relayData f index packet => Sys2Proof.Machine.execRelayData f index packet s
  | .command f r => Sys2Proof.Machine.execCommand f r s
  | .commandRelayTimeout => Sys2Proof.Machine.execCommandRelayTimeout s
  | .regWrite f page off v => Sys2Proof.Machine.execRegWrite f page off v s
  | .key f slot cmd sealed => Sys2Proof.Machine.execKey f slot cmd sealed s
  | .state f unit off bytes => Sys2Proof.Machine.execState f unit off bytes s
  | .surrender f boundary => Sys2Proof.Machine.execSurrender f boundary s
  | .takeover f boundary => Sys2Proof.Machine.execTakeover f boundary s
  | .image f kind off total bytes => Sys2Proof.Machine.execImage f kind off total bytes s
  | .joinComplete => Sys2Proof.Machine.execJoinComplete s
  | .failoverTakeover => Sys2Proof.Machine.execFailoverTakeover s
  | .pairSurrender c => Sys2Proof.Machine.execPairSurrender c s
  | .pairYield c => Sys2Proof.Machine.execPairYield c s
  | .pairJoin c => Sys2Proof.Machine.execPairJoin c s
  | .legResync c => Sys2Proof.Machine.execLegResync c s
  | .pairQuery c => Sys2Proof.Machine.execPairQuery c s
  | .xlatMap c => Sys2Proof.Machine.execXlatMap c s
  | .xlatUnmap c => Sys2Proof.Machine.execXlatUnmap c s
  | .xlatProtect c => Sys2Proof.Machine.execXlatProtect c s
  | .xlatQuery c => Sys2Proof.Machine.execXlatQuery c s
  | .faultResume c => Sys2Proof.Machine.execFaultResume c s
  | .faultAbort c => Sys2Proof.Machine.execFaultAbort c s
  | .domainSet c => Sys2Proof.Machine.execDomainSet c s
  | .dispSubmit c => Sys2Proof.Machine.execDispSubmit c s
  | .dispQuery c => Sys2Proof.Machine.execDispQuery c s
  | .dispFlush c => Sys2Proof.Machine.execDispFlush c s
  | .timedItemRelease => Sys2Proof.Machine.execTimedItemRelease s
  | .faultTimeout id => Sys2Proof.Machine.execFaultTimeout id s
  | .faultBaseWrite v => Sys2Proof.Machine.execFaultBaseWrite v s
  | .chEnable ch v => Sys2Proof.Machine.execChEnable ch v s
  | .chResume ch => Sys2Proof.Machine.execChResume ch s
  | .chSkip ch => Sys2Proof.Machine.execChSkip ch s
  | .chStop ch => Sys2Proof.Machine.execChStop ch s
  | .chTailWrite ch v => Sys2Proof.Machine.execChTailWrite ch v s
  | .dmaDescriptorStart mover hostErr ue => Sys2Proof.Machine.execDmaDescriptorStart mover hostErr ue s
  | .dmaWaitExpiry ch => Sys2Proof.Machine.execDmaWaitExpiry ch s
  | .dmaDescriptorEnd ch => Sys2Proof.Machine.execDmaDescriptorEnd ch s
  | .eccMapWrite which v => Sys2Proof.Machine.execEccMapWrite which v s
  | .eccRegionReady => Sys2Proof.Machine.execEccRegionReady s
  | .sliceCfgWrite slice v => Sys2Proof.Machine.execSliceCfgWrite slice v s
  | .powerUp => Sys2Proof.Machine.execPowerUp s
  | .powerDown auxOff => Sys2Proof.Machine.execPowerDown auxOff s
  | .resetAssert => Sys2Proof.Machine.execResetAssert s
  | .resetRelease st => Sys2Proof.Machine.execResetRelease st s
  | .perst => Sys2Proof.Machine.execPerst s
  | .bootImageAuth => Sys2Proof.Machine.execBootImageAuth s
  | .bootReady => Sys2Proof.Machine.execBootReady s
  | .watchdogRestart => Sys2Proof.Machine.execWatchdogRestart s
  | .loadGo v => Sys2Proof.Machine.execLoadGo v s
  | .recovered fromPartner => Sys2Proof.Machine.execRecovered fromPartner s
  | .updateBegin c => Sys2Proof.Machine.execUpdateBegin c s
  | .updateData c => Sys2Proof.Machine.execUpdateData c s
  | .updateFinish c => Sys2Proof.Machine.execUpdateFinish c s
  | .updateAbort c => Sys2Proof.Machine.execUpdateAbort c s
  | .updateActivate c => Sys2Proof.Machine.execUpdateActivate c s
  | .updateConfirm c => Sys2Proof.Machine.execUpdateConfirm c s
  | .updateRevert c => Sys2Proof.Machine.execUpdateRevert c s
  | .updateLock c => Sys2Proof.Machine.execUpdateLock c s
  | .confirmTimeout => Sys2Proof.Machine.execConfirmTimeout s
  | .settingsWrite c => Sys2Proof.Machine.execSettingsWrite c s
  | .settingsRead c => Sys2Proof.Machine.execSettingsRead c s
  | .errorReport r => Sys2Proof.Machine.execErrorReport r s
  | .logEntryDue => Sys2Proof.Machine.execLogEntryDue s
  | .lostEntry => Sys2Proof.Machine.execLostEntry s
  | .headW3Read how => Sys2Proof.Machine.execHeadW3Read how s
  | .traceEntryWrite => Sys2Proof.Machine.execTraceEntryWrite s
  | .traceLost => Sys2Proof.Machine.execTraceLost s
  | .traceBaseWrite v => Sys2Proof.Machine.execTraceBaseWrite v s
  | .unitIsolate c => Sys2Proof.Machine.execUnitIsolate c s
  | .bistRun c => Sys2Proof.Machine.execBistRun c s
  | .bistDone unit failed firstBad => Sys2Proof.Machine.execBistDone unit failed firstBad s
  | .freezeNow c => Sys2Proof.Machine.execFreezeNow c s
  | .deviceTest c => Sys2Proof.Machine.execDeviceTest c s
  | .freezePin => Sys2Proof.Machine.execFreezePin s
  | .testReset => Sys2Proof.Machine.execTestReset s
  | .extest scan => Sys2Proof.Machine.execExtest scan s
  | .idcode => Sys2Proof.Machine.execIdcode s
  | .samplePreload scan => Sys2Proof.Machine.execSamplePreload scan s
  | .frzStatus => Sys2Proof.Machine.execFrzStatus s
  | .frzTime => Sys2Proof.Machine.execFrzTime s
  | .rdAddr v => Sys2Proof.Machine.execRdAddr v s
  | .rdData available => Sys2Proof.Machine.execRdData available s
  | .bypass => Sys2Proof.Machine.execBypass s
  | .monitorSample decaWatt temp16 railLow => Sys2Proof.Machine.execMonitorSample decaWatt temp16 railLow s
  | .marginLowClear => Sys2Proof.Machine.execMarginLowClear s
  | .i2cTempRead v => Sys2Proof.Machine.execI2cTempRead v s
  | .selfTestDone page => Sys2Proof.Machine.execSelfTestDone page s
  | .engineFault physical => Sys2Proof.Machine.execEngineFault physical s
  | .micaInternalFault inst => Sys2Proof.Machine.execMicaInternalFault inst s
  | .pmaFault quad => Sys2Proof.Machine.execPmaFault quad s
  | .channelFailure ctrl channel => Sys2Proof.Machine.execChannelFailure ctrl channel s
  | .frameSilence => Sys2Proof.Machine.execFrameSilence s
  | .hbInPulse widthNs => Sys2Proof.Machine.execHbInPulse widthNs s
  | .flashWriteDone ok => Sys2Proof.Machine.execFlashWriteDone ok s
  | .verifyDone => Sys2Proof.Machine.execVerifyDone s
  | .tempHigh ctrl code => Sys2Proof.Machine.execTempHigh ctrl code s

end Sys2Proof.Machine
end

