-- ==== Sys2Proof/Safety.lean ====
section
/-! DEFINITION. What counts as a safe run: every step answers a next state, and the tables stay in their canonical form. -/

namespace Sys2Proof.Machine
open Sys2Proof

/-- The step answers a next state: no fault and no refusal. -/
def Proceeds (s : State) : Prop := ∃ t, step s = .next t

/-- The byte stores stand in their canonical form. -/
def MemOk (s : State) : Prop := Memory.wf s.dev.mem.dram = true ∧ Memory.wf s.dev.mem.host = true ∧ Memory.wf s.dev.mem.slab = true

end Sys2Proof.Machine
end

