-- ==== Sys2Proof/WellFormed.lean ====
section
/-! DEFINITION. Well-formed commands: the numbers an operand carries name something that the block has. A command that is not well formed leaves
the machine as it is, or is answered by the error its rule names. -/

namespace Sys2Proof

/-- Ring pairs 0 to 3 of realm 0, and pair 0 of realms 1 to 63 (Table 2-13). -/
def ringWf (realm ring : Nat) : Bool := decide (realm < 64) && (decide (ring = 0) || (decide (realm = 0) && decide (ring < 4)))

/-- A ring command names a ring pair that exists. -/
def HostCmd.wf (c : HostCmd) : Bool := ringWf c.realm c.ring

/-- A Mirror Link header carries 32-bit fields (Table 14-5). -/
def LinkHdr.wf (f : LinkHdr) : Bool := decide (f.seq < 4294967296) && decide (f.ack < 4294967296) && decide (f.epoch < 4294967296)

/-- Every operand of the command lies in its range. -/
def Instr.wf : Instr → Bool
  | .registerWrite page off size _ => decide (page < 204) && decide (off < 4096) && decide (0 < size)
  | .splitWrite page off _ => decide (page < 204) && decide (off < 4096)
  | .splitRead page off size => decide (page < 204) && decide (off < 4096) && (size == 1 || size == 2 || size == 4 || size == 8)
  | .pageErrRead page _ => decide (page < 202)
  | .shadowWrite page off _ => decide (page < 202) && decide (off < 2048)
  | .pageEnable page => decide (page < 202)
  | .pageIsolate page _ => decide (page < 202)
  | .pageReset page => decide (page < 202)
  | .snapshot page => decide (page < 202)
  | .snapshotLatch page => decide (page < 202)
  | .snapRelease page => decide (page < 202)
  | .pageEventClear page _ => decide (page < 202)
  | .pageEventMaskWrite page _ => decide (page < 202)
  | .pageCommitWrite page _ => decide (page < 202)
  | .winBaseWrite _ => true
  | .bar4Access off _ => decide (off < 4294967296)
  | .functionLevelReset _ => true
  | .pcieLinkChange _ _ _ => true
  | .ringCtrlWrite realm ring _ => ringWf realm ring
  | .cmdTailWrite realm ring _ => ringWf realm ring
  | .cplHeadWrite realm ring _ => ringWf realm ring
  | .commandFetch realm ring => ringWf realm ring
  | .commandEffect => true
  | .coalesceTimeout realm ring => ringWf realm ring
  | .nop c => c.wf
  | .commitGroup c => c.wf
  | .commitGroupApply group page => decide (group < 16) && decide (page < 202)
  | .cancelCommit c => c.wf
  | .quartzTick _ => true
  | .epochBoundary => true
  | .blockBoundary _ => true
  | .dispatcherTick => true
  | .pictureTick layout => decide (layout < 256)
  | .nowW0Read => true
  | .ptpCfgWrite _ => true
  | .sync _ => true
  | .followUp _ => true
  | .delayResp _ => true
  | .announce _ => true
  | .delayReq _ => true
  | .syncTimeout => true
  | .announceTimeout => true
  | .stepApply => true
  | .acceptStep c => c.wf
  | .globalSnapshot c => c.wf
  | .refclkLost => true
  | .refclkRestored => true
  | .ppsOutPulse => true
  | .ppsInEdge _ => true
  | .ppsInMissing => true
  | .legOpen c => c.wf
  | .legStart c => c.wf
  | .legHold c => c.wf
  | .legResume c => c.wf
  | .legClose c => c.wf
  | .legDrainEnd leg => decide (leg < 4096)
  | .legRelease c => c.wf
  | .legUpdate c => c.wf
  | .streamAdd c => c.wf
  | .streamRemove c => c.wf
  | .subscribe c => c.wf
  | .unsubscribe c => c.wf
  | .subscribeSet c => c.wf
  | .legQuery c => c.wf
  | .consentRequest leg _ _ => decide (leg < 4096)
  | .consentExpired leg => decide (leg < 4096)
  | .frameReceive port _ _ _ => decide (port < 8)
  | .videoWaitExpiry leg idx => decide (leg < 4096) && decide (idx < 256)
  | .nackSend leg idx => decide (leg < 4096) && decide (idx < 256)
  | .feedbackLost leg => decide (leg < 4096)
  | .layerSuspend layout output layer => decide (layout < 256) && decide (output < 4) && decide (layer < 3)
  | .pliSend leg idx => decide (leg < 4096) && decide (idx < 256)
  | .repairEscalated leg idx => decide (leg < 4096) && decide (idx < 256)
  | .rtcpSend leg => decide (leg < 4096)
  | .feedbackSend leg => decide (leg < 4096)
  | .statsCfgWrite _ => true
  | .bufBaseWrite _ => true
  | .encStreamOpen c => c.wf
  | .encStreamClose c => c.wf
  | .encStreamUpdate c => c.wf
  | .encRefresh c => c.wf
  | .encQuery c => c.wf
  | .encSubmit c => c.wf
  | .encJobStart stream => decide (stream < 2048)
  | .encJobDone stream => decide (stream < 2048)
  | .geodePreempt engine layer row => decide (engine < 32) && decide (layer < 3) && decide (row < 512)
  | .decStreamOpen c => c.wf
  | .decStreamClose c => c.wf
  | .decQuery c => c.wf
  | .decSubmit c => c.wf
  | .decJobStart stream => decide (stream < 4096)
  | .decJobDone stream _ => decide (stream < 4096)
  | .geodeTwin c => c.wf
  | .geodeUntwin c => c.wf
  | .geodeSwap c => c.wf
  | .geodeSwapMove logical => decide (logical < 32)
  | .geodeLinkError pair _ => decide (pair < 17)
  | .layoutOpen c => c.wf
  | .layoutStart c => c.wf
  | .layoutStop c => c.wf
  | .layoutClose c => c.wf
  | .layerLoad c => c.wf
  | .layoutFlip c => c.wf
  | .layerBypass c => c.wf
  | .stillLoad c => c.wf
  | .layoutQuery c => c.wf
  | .sourceLate layout entry => decide (layout < 256) && decide (entry < 64)
  | .micaPictureDone layout => decide (layout < 256)
  | .stillBaseWrite _ => true
  | .legAudioSet c => c.wf
  | .confAudioSet c => c.wf
  | .hrtfLoad c => c.wf
  | .routeSet c => c.wf
  | .routeClear c => c.wf
  | .routeQuery c => c.wf
  | .netRxOpen c => c.wf
  | .netRxClose c => c.wf
  | .netTxOpen c => c.wf
  | .netTxClose c => c.wf
  | .netAudioReceive port _ _ => decide (port < 8)
  | .jbForceStep leg idx => decide (leg < 4096) && decide (idx < 256)
  | .plcMute leg idx => decide (leg < 4096) && decide (idx < 256)
  | .levelBaseWrite _ => true
  | .tdmCfgWrite port _ => decide (port < 32)
  | .tdmFrame port _ _ _ => decide (port < 32)
  | .tdmLock port => decide (port < 32)
  | .lockLost port => decide (port < 32)
  | .spkLayoutLoad c => c.wf
  | .spkLayoutLoaded bank => decide (bank < 2)
  | .spkLayoutSelect c => c.wf
  | .renderStart c => c.wf
  | .renderStop c => c.wf
  | .objSet c => c.wf
  | .spkSet c => c.wf
  | .firLoad c => c.wf
  | .hoaSet c => c.wf
  | .renderQuery c => c.wf
  | .garnetLoad c => c.wf
  | .garnetUnload c => c.wf
  | .insertOpen c => c.wf
  | .insertClose c => c.wf
  | .insertParam c => c.wf
  | .insertCoef c => c.wf
  | .insertBypass c => c.wf
  | .insertReset c => c.wf
  | .insertQuery c => c.wf
  | .garnetSwap c => c.wf
  | .garnetSwapSwitch logical => decide (logical < 32)
  | .eccFatal physical => decide (physical < 33)
  | .garnetFaultMove logical => decide (logical < 32)
  | .taskStart c => c.wf
  | .taskStop c => c.wf
  | .insertCall insert => decide (insert < 256)
  | .insertBudgetExpiry insert => decide (insert < 256)
  | .bundleIssue cluster core ecc => decide (cluster < 32) && decide (core < 16) && decide (ecc < 3)
  | .dispGetReturn cluster core => decide (cluster < 32) && decide (core < 16)
  | .xferDone cluster core => decide (cluster < 32) && decide (core < 16)
  | .timerInterrupt cluster core => decide (cluster < 32) && decide (core < 16)
  | .interruptEntry cluster core => decide (cluster < 32) && decide (core < 16)
  | .queueAssign c => c.wf
  | .queueSet c => c.wf
  | .queueQuery c => c.wf
  | .queueFlush c => c.wf
  | .gateListSet c => c.wf
  | .gateListCancel c => c.wf
  | .hostSend c => c.wf
  | .gateSwitched port => decide (port < 8)
  | .gateEntryStart port => decide (port < 8)
  | .transmitOpportunity port => decide (port < 8)
  | .pacerEligible queue => decide (queue < 8200)
  | .queueSample port => decide (port < 8)
  | .qstatsCfgWrite _ => true
  | .keyslotAssign c => c.wf
  | .keyQuery c => c.wf
  | .flintRelease c => c.wf
  | .keyWrite realm => decide (realm < 64)
  | .zeroize realm => decide (realm < 64)
  | .cancelPending realm => decide (realm < 64)
  | .keyCmdConfirm realm => decide (realm < 64)
  | .keyCmdTimeout realm => decide (realm < 64)
  | .keyRegisterWrite realm off _ => decide (realm < 64) && decide (off < 4096)
  | .alarm _ => true
  | .alarmCfgWrite _ => true
  | .pipeCtrlWrite _ => true
  | .flintPipeMove pipe => decide (pipe < 16)
  | .pipeFault pipe => decide (pipe < 16)
  | .signalDetect lane => decide (lane < 40)
  | .signalLoss lane => decide (lane < 40)
  | .cdrLock lane => decide (lane < 40)
  | .cdrTimeout lane => decide (lane < 40)
  | .commaDetect lane _ _ => decide (lane < 40)
  | .commaTimeout lane => decide (lane < 40)
  | .deskewDone unit _ => decide (unit < 9)
  | .deskewTimeout unit => decide (unit < 9)
  | .tryRetry lane => decide (lane < 40)
  | .noPartnerRetry lane => decide (lane < 40)
  | .syncLoss lane => decide (lane < 40)
  | .skewLoss unit => decide (unit < 9)
  | .laneRetrain c => c.wf
  | .portQuery c => c.wf
  | .laneCfgWrite lane _ => decide (lane < 40)
  | .errInject lane => decide (lane < 40)
  | .prbsLock lane _ => decide (lane < 40)
  | .prbsLockLost lane _ => decide (lane < 40)
  | .elasticAdjust port => decide (port < 9)
  | .remoteFault port => decide (port < 8)
  | .remoteFaultClear port => decide (port < 8)
  | .portCfgWrite port _ => decide (port < 8)
  | .roleDecisionTimeout => true
  | .heartbeatPulse => true
  | .heartbeatLoss => true
  | .frozenIndication => true
  | .deposed => true
  | .linkUp => true
  | .linkFail => true
  | .linkRetransmit => true
  | .linkIdleAck => true
  | .hello f _ => f.wf
  | .ack f => f.wf
  | .manifest f _ => f.wf
  | .manifestAck f _ => f.wf
  | .log f _ => f.wf
  | .digest f _ _ => f.wf
  | .digestTimeout => true
  | .resyncDone leg => decide (leg < 4096)
  | .relayReq f _ => f.wf
  | .relayData f _ _ => f.wf
  | .command f r => f.wf && r.cmd.wf
  | .commandRelayTimeout => true
  | .regWrite f page off _ => f.wf && decide (page < 138) && decide (off < 4096)
  | .key f _ _ _ => f.wf
  | .state f _ _ _ => f.wf
  | .surrender f _ => f.wf
  | .takeover f _ => f.wf
  | .image f _ _ _ _ => f.wf
  | .joinComplete => true
  | .failoverTakeover => true
  | .pairSurrender c => c.wf
  | .pairYield c => c.wf
  | .pairJoin c => c.wf
  | .legResync c => c.wf
  | .pairQuery c => c.wf
  | .xlatMap c => c.wf
  | .xlatUnmap c => c.wf
  | .xlatProtect c => c.wf
  | .xlatQuery c => c.wf
  | .faultResume c => c.wf
  | .faultAbort c => c.wf
  | .domainSet c => c.wf
  | .dispSubmit c => c.wf
  | .dispQuery c => c.wf
  | .dispFlush c => c.wf
  | .timedItemRelease => true
  | .faultTimeout _ => true
  | .faultBaseWrite _ => true
  | .chEnable ch _ => decide (ch < 32)
  | .chResume ch => decide (ch < 32)
  | .chSkip ch => decide (ch < 32)
  | .chStop ch => decide (ch < 32)
  | .chTailWrite ch _ => decide (ch < 32)
  | .dmaDescriptorStart mover _ _ => decide (mover < 8)
  | .dmaWaitExpiry ch => decide (ch < 32)
  | .dmaDescriptorEnd ch => decide (ch < 32)
  | .eccMapWrite which _ => decide (which < 2)
  | .eccRegionReady => true
  | .sliceCfgWrite slice _ => decide (slice < 16)
  | .powerUp => true
  | .powerDown _ => true
  | .resetAssert => true
  | .resetRelease _ => true
  | .perst => true
  | .bootImageAuth => true
  | .bootReady => true
  | .watchdogRestart => true
  | .loadGo _ => true
  | .recovered _ => true
  | .updateBegin c => c.wf
  | .updateData c => c.wf
  | .updateFinish c => c.wf
  | .updateAbort c => c.wf
  | .updateActivate c => c.wf
  | .updateConfirm c => c.wf
  | .updateRevert c => c.wf
  | .updateLock c => c.wf
  | .confirmTimeout => true
  | .settingsWrite c => c.wf
  | .settingsRead c => c.wf
  | .errorReport r => decide (r.source < 4096)
  | .logEntryDue => true
  | .lostEntry => true
  | .headW3Read _ => true
  | .traceEntryWrite => true
  | .traceLost => true
  | .traceBaseWrite _ => true
  | .unitIsolate c => c.wf
  | .bistRun c => c.wf
  | .bistDone _ _ _ => true
  | .freezeNow c => c.wf
  | .deviceTest c => c.wf
  | .freezePin => true
  | .testReset => true
  | .extest _ => true
  | .idcode => true
  | .samplePreload _ => true
  | .frzStatus => true
  | .frzTime => true
  | .rdAddr _ => true
  | .rdData _ => true
  | .bypass => true
  | .monitorSample _ _ _ => true
  | .marginLowClear => true
  | .i2cTempRead _ => true
  | .selfTestDone page => decide (page < 202)
  | .engineFault physical => decide (physical < 34)
  | .micaInternalFault inst => decide (inst < 2)
  | .pmaFault quad => decide (quad < 10)
  | .channelFailure ctrl channel => decide (ctrl < 16) && decide (channel < 4)
  | .frameSilence => true
  | .hbInPulse _ => true
  | .flashWriteDone _ => true
  | .verifyDone => true
  | .tempHigh ctrl _ => decide (ctrl < 16)

end Sys2Proof
end

