-- ==== Sys2Proof/Certificates/Slice0/Obligations.lean ====
section
/-! DEFINITION. The statements for the provers. -/

namespace Sys2Proof.Machine
open Sys2Proof

/-! ### Words the statements share -/

/-- `t` differs from `s` in the header of page `p` only, which is now `h`. -/
def PageBecomes (s t : State) (p : Nat) (h : PageHdr) : Prop :=
  t = s.setDev { s.dev with ctl := { s.dev.ctl with pages := t.dev.ctl.pages } } ∧ t.dev.page p = h ∧ ∀ q, q ≠ p → t.dev.page q = s.dev.page q

/-- A page header after one register-access error. -/
def PageHdr.counted (h : PageHdr) (e : ErrCode) : PageHdr := { h with errCount := satN 4294967295 (h.errCount + 1), errLast := e.code }

/-- A host access reaches page `p`: the unit runs, the page answers, and no half of a write is held there. -/
def Reaches (s : State) (p : Nat) : Prop := s.up = true ∧ s.answers p = true ∧ p < 202 ∧ (s.dev.page p).wbuf = none

/-- The unit takes what its own host writes and sends (it is no SECONDARY), and none of it goes to a partner. -/
def Alone (s : State) : Prop := s.dev.pair.role ≠ .secondary ∧ s.dev.joined = false

/-- A host may write the block registers of page `p`: it reaches the page of a unit that is READY and no SECONDARY, and the page is neither isolated nor under test. -/
def Writable (s : State) (p : Nat) : Prop :=
  Reaches s p ∧ s.dev.boot.phase = .ready ∧ Alone s ∧ s.pageState p ≠ .isolated ∧ s.pageState p ≠ .testing

/-- The verdict on a command that its own row carries. -/
def OpSpec.judged (o : OpSpec) (c : HostCmd) (s : State) : Option (Status × Nat) := o.verdict c false (o.capture c s.dev) s

/-- A command of its own row takes effect after the time it states (R75). -/
def OpSpec.isLate (o : OpSpec) (c : HostCmd) (s : State) : Bool := o.actsNow (o.token c s) s.dev = some true

/-- A command that its own row carries has its effect in the step: the unit is READY and relays nothing, the dated commands leave room (R86), the command passes every check of
Table 2-18, and it is one that acts as it is processed or stands at the boundary of its effect (R85). -/
def Accepts (o : OpSpec) (c : HostCmd) (s : State) : Prop :=
  s.ready = true ∧ s.dev.joined = false ∧ (c.dated = true → s.dev.datedPending < 8192) ∧ (o.actsNow (o.token c s) s.dev).isSome = true ∧ o.judged c s = none

/-- The status of a command that its rule ends with OK: LATE where its effect comes after the time it states (R75). -/
def OpSpec.okOr (o : OpSpec) (c : HostCmd) (s : State) : Status := if o.isLate c s then .late else .ok

/-- The effect of a command on the resettable part, before its completion is posted. -/
def OpSpec.effect (o : OpSpec) (c : HostCmd) (s : State) : State × Reply := o.run c ((o.capture c s.dev).getD []) (o.token c s) s

/-- The command's effect with its completion posted, or with the command waiting for the event that its rule names. -/
def OpSpec.done (o : OpSpec) (c : HostCmd) (s : State) : State := answer (o.token c s) (o.isLate c s) (o.effect c s)

/-- Only the control model, the observation records and the memories may differ: no functional unit of the device has changed. -/
def UnitsKept (s t : State) : Prop :=
  t = s.setDev { s.dev with ctl := t.dev.ctl, obs := t.dev.obs, mem := t.dev.mem }

/-- The exact reading of a clock, in 2^-32 ns, with the bits that no register shows. -/
def Clock.units (c : Clock) : Nat := ((c.sec * 1000000000 + c.ns) * 65536 + c.frac) * 65536 + c.sub


end Sys2Proof.Machine

section
open Sys2Proof Sys2Proof.Machine

/-! ### The queue -/

/-- A step is the front command run on the queue's rest. -/
def Obligations.StepRunsFront : Prop :=
  ∀ (c : Instr) (rest : List Instr) (s : State), s.pending = c :: rest → step s = exec c { s with pending := rest }

/-- The block idles on an empty queue (the model's own reading, log entry 1), and no word spells a command, since the table gives no row any bits. -/
def Obligations.EmptyQueueIdles : Prop :=
  ∀ (s : State), (s.pending = [] → step s = .next s) ∧ ∀ nbits w : Nat, decodeTableWord nbits w = none ∧ s.withFetchWord nbits w = s

/-- Every one of the 322 commands answers a next state and leaves the queue as it stands: no command faults or is refused. -/
def Sys2Proof.Machine.EveryCommandAnswers : Prop :=
  ∀ (i : Instr) (s : State), ∃ t, exec i s = .next t ∧ t.pending = s.pending

/-- A run of any length goes on to its end: from every state, a step answers a next state. -/
def Sys2Proof.Machine.StepAlwaysProceeds : Prop :=
  ∀ s : State, Proceeds s ∧ ∀ t, step s = .next t → t.pending = s.pending.tail

/-! ### Pages and registers (chapter 2) -/

/-- No rule gives a write of this register more than its fields: the registers whose chapter gives them a command or a rule of their own are left out. -/
def Sys2Proof.Machine.PlainReg (t : PType) (off : Nat) : Prop :=
  match t with
  | .directory | .device | .errlog | .pair | .dispatch | .render | .geode | .garnet => True
  | .boot => off ∉ [0x078, 0x080, 0x088]
  | .pcie | .mix | .xlat => off ≠ 0x050
  | .quartz => off ∉ [0x068, 0x110, 0x120]
  | .obs | .port => off ∉ [0x048, 0x050]
  | .legs => off ∉ [0x050, 0x060, 0x068]
  | .egress => off ∉ [0x058, 0x068, 0x070]
  | .mica => off ∉ [0x058, 0x060]
  | .flint => off ∉ [0x050, 0x068]
  | .memctl => off ∉ [0x058, 0x060]
  | .tdm => ¬ (0x100 ≤ off ∧ off < 0x200 ∧ off % 0x40 = 0)
  | .quad => ¬ (0x100 ≤ off ∧ off < 0x200 ∧ (off % 0x40 = 0 ∨ off % 0x40 = 0x10))
  | .slab => ¬ (0x100 ≤ off ∧ off < 0x180)
  | .dma => ¬ (0x100 ≤ off ∧ off % 0x40 < 0x18)
  | .realm => False

/-- REGISTER_WRITE: a whole write of a live register that no rule gives more than storing leaves each field as the field rules say, counts
each error in PAGE_ERR, and changes no other register; an RWS register is refused at its live offset, and so is a block register of a page that is isolated or under test. -/
def Sys2Proof.Machine.RegisterWriteStores : Prop :=
  (∀ (s : State) (p off : Nat) (v : Word) (t : PType) (g : Reg),
    Reaches s p → Alone s → pageType p = some t → t.regAt off = some g → PlainReg t off →
    0x048 ≤ off → off < 0x800 → off % 8 = 0 → g.rws = false →
    s.pageState p ≠ .isolated → s.pageState p ≠ .testing →
    ∃ u, exec (.registerWrite p off 8 v) s = .next u ∧
      u.dev.reg p off = (mergeFields g.flds (s.dev.reg p off) (s.seen p off) v).1 ∧
      (∀ q o, o < 4096 → (q ≠ p ∨ o ≠ off) → u.dev.reg q o = s.dev.reg q o) ∧
      ((mergeFields g.flds (s.dev.reg p off) (s.seen p off) v).2 = [] → u.dev.page p = s.dev.page p) ∧
      (∀ q, q ≠ p → u.dev.page q = s.dev.page q) ∧
      u = s.setDev { s.dev with ctl := { s.dev.ctl with regs := u.dev.ctl.regs, pages := u.dev.ctl.pages } }) ∧
  (∀ (s : State) (p off : Nat) (v : Word) (t : PType) (g : Reg), Reaches s p → Alone s → pageType p = some t → t.regAt off = some g →
    0x048 ≤ off → off < 0x800 → off % 8 = 0 →
    (g.rws = true → s.pageState p ≠ .isolated → s.pageState p ≠ .testing →
      ∃ u, exec (.registerWrite p off 8 v) s = .next u ∧ PageBecomes s u p ((s.dev.page p).counted .readOnly)) ∧
    ((s.pageState p = .isolated ∨ s.pageState p = .testing) → t ≠ .quad →
      ∃ u, exec (.registerWrite p off 8 v) s = .next u ∧ PageBecomes s u p ((s.dev.page p).counted .badState))) ∧
  (∀ (s : State) (p off size : Nat) (v : Word), s.up = true → exec (.registerWrite p off size v) s = .next (s.write p off size v))

/-- A write of one register by a row of its own is that write of the host: every register that the table names has the effect a REGISTER_WRITE of it has. -/
def Sys2Proof.Machine.RowsAreWrites : Prop :=
  ∀ (s : State) (p off r k ch w : Nat) (v : Word), s.up = true →
    exec (.shadowWrite p off v) s = .next (s.write p (off + 0x800) 8 v) ∧
    exec (.pageEnable p) s = .next (s.write p 0x018 8 (setFld (s.dev.page p).ctrlWord 0 1 1)) ∧
    (∀ on : Bool, exec (.pageIsolate p on) s = .next (s.write p 0x018 8 (setFld (s.dev.page p).ctrlWord 1 1 (if on then 1 else 0)))) ∧
    exec (.pageReset p) s = .next (s.write p 0x018 8 (setFld (s.dev.page p).ctrlWord 2 1 1)) ∧
    exec (.snapshot p) s = .next (s.write p 0x018 8 (setFld (s.dev.page p).ctrlWord 3 1 1)) ∧
    exec (.snapRelease p) s = .next (s.write p 0x018 8 (setFld (s.dev.page p).ctrlWord 4 1 1)) ∧
    exec (.pageEventClear p v) s = .next (s.write p 0x020 8 v) ∧
    exec (.pageEventMaskWrite p v) s = .next (s.write p 0x028 8 v) ∧
    exec (.pageCommitWrite p v) s = .next (s.write p 0x030 8 v) ∧
    exec (.winBaseWrite v) s = .next (s.write pgPcie 0x050 8 v) ∧
    exec (.ptpCfgWrite v) s = .next (s.write pgQuartz 0x068 8 v) ∧
    exec (.statsCfgWrite v) s = .next (s.write pgLegs 0x050 8 v) ∧
    exec (.bufBaseWrite v) s = .next (s.write pgLegs 0x060 8 v) ∧
    exec (.stillBaseWrite v) s = .next (s.write (pgMica 0) 0x058 8 v) ∧
    exec (.levelBaseWrite v) s = .next (s.write pgMix 0x050 8 v) ∧
    (p < 32 → exec (.tdmCfgWrite p v) s = .next (s.write (pgTdm p) (0x100 + 0x40 * (p % 4)) 8 v)) ∧
    exec (.qstatsCfgWrite v) s = .next (s.write (pgEgress 0) 0x068 8 v) ∧
    exec (.alarmCfgWrite v) s = .next (s.write pgFlint 0x050 8 v) ∧
    exec (.pipeCtrlWrite v) s = .next (s.write pgFlint 0x068 8 v) ∧
    (p < 40 → exec (.laneCfgWrite p v) s = .next (s.write (pgQuad (p / 4)) (0x100 + 0x40 * (p % 4)) 8 v)) ∧
    (p < 40 → exec (.errInject p) s =
      .next (s.write (pgQuad (p / 4)) (0x110 + 0x40 * (p % 4)) 8 (setFld (s.seen (pgQuad (p / 4)) (0x110 + 0x40 * (p % 4))) 9 1 1))) ∧
    (p < 8 → exec (.portCfgWrite p v) s = .next (s.write (pgPort p) 0x048 8 v)) ∧
    exec (.faultBaseWrite v) s = .next (s.write pgXlat 0x050 8 v) ∧
    (ch < 32 → exec (.chEnable ch v) s = .next (s.write (pgDma ch) (chOff ch 0) 8 v)) ∧
    (ch < 32 → exec (.chResume ch) s = .next (s.write (pgDma ch) (chOff ch 0) 8 (setFld (s.dev.chReg ch 0) 1 1 1))) ∧
    (ch < 32 → exec (.chSkip ch) s = .next (s.write (pgDma ch) (chOff ch 0) 8 (setFld (s.dev.chReg ch 0) 2 1 1))) ∧
    (ch < 32 → exec (.chStop ch) s = .next (s.write (pgDma ch) (chOff ch 0) 8 (setFld (s.dev.chReg ch 0) 3 1 1))) ∧
    (ch < 32 → exec (.chTailWrite ch v) s = .next (s.write (pgDma ch) (chOff ch 0x10) 8 v)) ∧
    (w < 2 → exec (.eccMapWrite w v) s = .next (s.write (pgMemctl 0) (0x058 + 8 * w) 8 v)) ∧
    (w < 16 → exec (.sliceCfgWrite w v) s = .next (s.write pgSlab (0x100 + 8 * w) 8 v)) ∧
    exec (.traceBaseWrite v) s = .next (s.write pgObs 0x048 8 v) ∧
    (ringThere r k = true → exec (.ringCtrlWrite r k v) s = .next (s.write (pgRealm r) (0x078 + 0x40 * k) 8 v)) ∧
    (ringThere r k = true → exec (.cmdTailWrite r k v) s = .next (s.write (pgRealm r) (0x050 + 0x40 * k) 8 v)) ∧
    (ringThere r k = true → exec (.cplHeadWrite r k v) s = .next (s.write (pgRealm r) (0x068 + 0x40 * k) 8 v))

/-- What a write does to one field: a value in a range-limited field goes to the nearest limit and is counted, a reserved code leaves the field, and a
read-only field stays, counted only when the value written differs. -/
def Sys2Proof.Machine.FieldRules : Prop :=
  (∀ (lo hi w old x : Nat), lo ≤ hi →
    limitField ⟨0, w, .rw, 0, .range lo hi⟩ old x = (if x < lo then lo else if hi < x then hi else x, if x < lo ∨ hi < x then some .rangeClamped else none)) ∧
  (∀ (n w old x : Nat), limitField ⟨0, w, .rw, 0, .below n⟩ old x = if x < n then (x, none) else (old, some .reservedSet)) ∧
  (∀ (lo w : Nat) (old seen v : Word), (mergeFields [⟨lo, w, .ro, 0, .any⟩] old seen v).1 = old ∧
    ((mergeFields [⟨lo, w, .ro, 0, .any⟩] old seen v).2.contains .readOnly = true ↔ fld v lo w ≠ fld seen lo w)) ∧
  (∀ (fs : List Fld) (old seen v : Word), v &&& (coverMask fs ^^^ BitVec.allOnes 64) ≠ 0 → (mergeFields fs old seen v).2.contains .reservedSet = true)

/-- A 64-bit access that is not aligned, or is narrower than 32 bits, writes nothing and is counted with BAD_ACCESS. -/
def Sys2Proof.Machine.BadAccessCounted : Prop :=
  ∀ (s : State) (p off size : Nat) (v : Word), Reaches s p → (size = 1 ∨ size = 2 ∨ off % size ≠ 0) → size ≤ 8 →
    ∃ u, exec (.registerWrite p off size v) s = .next u ∧ PageBecomes s u p ((s.dev.page p).counted .badAccess)

/-- SPLIT_WRITE: a low half is held in the page's buffer and changes no register; the high half of the same register then acts as one whole write; a
high half without its low half is counted with HALF_UNPAIRED; a held half that any other write finds is dropped and counted with SPLIT_LOST; every half, of a shadow register
too, is the host's write of 4 bytes. -/
def Sys2Proof.Machine.SplitWritePairsHalves : Prop :=
  ∀ (s : State) (p off : Nat) (lo hi : BitVec 32), s.up = true → s.answers p = true → p < 202 → off % 8 = 0 → off < 0x800 → regHere p off = true →
    ((s.dev.page p).wbuf = none →
      ∃ u, exec (.splitWrite p off lo) s = .next u ∧ PageBecomes s u p { s.dev.page p with wbuf := some (off, lo) }) ∧
    ((s.dev.page p).wbuf = some (off, lo) →
      exec (.splitWrite p (off + 4) hi) s =
        exec (.registerWrite p off 8 (fmk 0 32 lo.toNat ||| fmk 32 32 hi.toNat)) (s.onDev (fun d => d.onPage p (fun h => { h with wbuf := none })))) ∧
    ((s.dev.page p).wbuf = none →
      ∃ u, exec (.splitWrite p (off + 4) hi) s = .next u ∧ PageBecomes s u p ((s.dev.page p).counted .halfUnpaired)) ∧
    (∀ b l, b % 8 = 0 → (s.dev.page p).wbuf = some (b, l) →
      exec (.splitWrite p off lo) s =
        exec (.splitWrite p off lo) (s.onDev (fun d => (d.onPage p (fun h => { h with wbuf := none })).err p .splitLost))) ∧
    (∀ o x, exec (.splitWrite p o x) s = .next (s.write p o 4 (fmk 0 32 x.toNat)))

/-- SPLIT_READ: the low half is given out and the high half of the same instant goes into the page's latch; the high half then gives the latch and
empties it; with the latch empty or of another register it gives the live high half; a whole read gives the 64 bits of one instant; a read that is narrower than
32 bits or not aligned gives 0 and is counted with BAD_ACCESS. -/
def Sys2Proof.Machine.SplitReadLatches : Prop :=
  ∀ (s : State) (p off : Nat), s.up = true → s.answers p = true → p < 202 → off % 8 = 0 → off < 0x800 → regHere p off = true →
    (p ≠ pgPcie ∨ PType.pcie.isCounter off = false) → (p ≠ pgQuartz ∨ off ≠ 0x048) → off ≠ 0x038 → (p ≠ pgErrlog ∨ off ≠ 0x070) →
    (∃ u, exec (.splitRead p off 4) s = .next u ∧
      (u.dev.page p).latch = some (off, BitVec.ofNat 32 (fld (s.seen p off) 32 32)) ∧
      u.dev.ctl.out = s.dev.ctl.out ++ [.readData (fmk 0 32 (fld (s.seen p off) 0 32))] ∧
      u.dev.ctl.regs = s.dev.ctl.regs) ∧
    (∀ hi, (s.dev.page p).latch = some (off, hi) →
      ∃ u, exec (.splitRead p (off + 4) 4) s = .next u ∧ (u.dev.page p).latch = none ∧
        u.dev.ctl.out = s.dev.ctl.out ++ [.readData (fmk 0 32 hi.toNat)] ∧ u.dev.ctl.regs = s.dev.ctl.regs) ∧
    ((∀ hi, (s.dev.page p).latch ≠ some (off, hi)) →
      exec (.splitRead p (off + 4) 4) s = .next (s.onDev (fun d => d.emit (.readData (fmk 0 32 (fld (s.seen p off) 32 32)))))) ∧
    exec (.splitRead p off 8) s = .next (s.onDev (fun d => d.emit (.readData (s.seen p off)))) ∧
    (∀ o n, (n ≠ 4 ∧ n ≠ 8) ∨ o % n ≠ 0 → ∃ u, exec (.splitRead p o n) s = .next u ∧ u.dev.page p = (s.dev.page p).counted .badAccess ∧
      u.dev.ctl.out = s.dev.ctl.out ++ [.readData 0] ∧ u.dev.ctl.regs = s.dev.ctl.regs) ∧
    (∀ o n, exec (.splitRead p o n) s = .next (readOut (s.read p o n)))

/-- PAGE_ERR_READ and HEAD_W3_READ: a whole read of PAGE_ERR gives the count and the code and clears both; a read of its low half clears nothing and a
high half that returns the latch does; a whole read of ERRLOG.HEAD_W3 gives the word and consumes the head entry. -/
def Sys2Proof.Machine.ReadToClear : Prop :=
  ∀ (s : State) (p : Nat), s.up = true → s.answers p = true → p < 202 →
    (∃ u, exec (.pageErrRead p .whole) s = .next u ∧
      u.dev.ctl.out = s.dev.ctl.out ++ [.readData (s.dev.page p).errWord] ∧
      u.dev.page p = { s.dev.page p with errCount := 0, errLast := 0 }) ∧
    (∃ u, exec (.pageErrRead p .low) s = .next u ∧
      u.dev.page p = { s.dev.page p with latch := some (0x038, BitVec.ofNat 32 (fld (s.dev.page p).errWord 32 32)) }) ∧
    (∀ hi, (s.dev.page p).latch = some (0x038, hi) →
      ∃ u, exec (.pageErrRead p .high) s = .next u ∧
        u.dev.ctl.out = s.dev.ctl.out ++ [.readData (fmk 0 32 hi.toNat)] ∧
        u.dev.page p = { s.dev.page p with latch := none, errCount := 0, errLast := 0 }) ∧
    exec (.headW3Read .whole) s = .next (s.setDev (s.dev.headConsume.emit (.readData (s.seen pgErrlog 0x070)))) ∧
    (∃ u, exec (.headW3Read .low) s = .next u ∧ u.dev.obs.ring = s.dev.obs.ring ∧
      (u.dev.page pgErrlog).latch = some (0x070, BitVec.ofNat 32 (fld (s.seen pgErrlog 0x070) 32 32))) ∧
    (∀ how, exec (.pageErrRead p how) s = .next (s.readBy p 0x038 how)) ∧ (∀ how, exec (.headW3Read how) s = .next (s.readBy pgErrlog 0x070 how))

/-- SHADOW_WRITE: at live offset + 0x800 of an RWS register the shadow is written and no live register changes; while the page is LOCKED the write is
refused and counted with LOCKED; where the register is not RWS it is counted with NO_SHADOW. -/
def Sys2Proof.Machine.ShadowWrite : Prop :=
  ∀ (s : State) (p off : Nat) (v : Word) (t : PType) (g : Reg), Reaches s p → Alone s → pageType p = some t → t.regAt off = some g →
    0x048 ≤ off → off < 0x800 → off % 8 = 0 →
    (g.rws = true → s.pageState p ≠ .isolated → s.pageState p ≠ .testing → (s.dev.page p).locked = false →
      ∃ u, exec (.shadowWrite p off v) s = .next u ∧ u.dev.ctl.regs = s.dev.ctl.regs ∧
        u.dev.shadowReg p off = (mergeFields g.flds (s.dev.shadowReg p off) (s.dev.shadowReg p off) v).1 ∧
        (∀ q o, o < 4096 → (q ≠ p ∨ o ≠ off) → u.dev.shadowReg q o = s.dev.shadowReg q o)) ∧
    (g.rws = true → s.pageState p ≠ .isolated → s.pageState p ≠ .testing → (s.dev.page p).locked = true →
      ∃ u, exec (.shadowWrite p off v) s = .next u ∧ PageBecomes s u p ((s.dev.page p).counted .locked)) ∧
    (g.rws = false → ∃ u, exec (.shadowWrite p off v) s = .next u ∧ PageBecomes s u p ((s.dev.page p).counted .noShadow))

/-- PAGE_ENABLE, PAGE_RESET, SELF_TEST_DONE, PAGE_ISOLATE: ENABLE takes an OFF unit of a GEODE, GARNET, MICA or QUAD page to INIT, its self test to READY,
RESET takes a READY, ISOLATED or FAULTED one to INIT and is counted with BAD_STATE in any other state; on every other page ENABLE and RESET change no state
and are counted with BAD_STATE, and so is ISOLATE on a page without it. -/
def Sys2Proof.Machine.PageStateCommands : Prop :=
  ∀ (s : State) (p : Nat) (t : PType), Reaches s p → pageType p = some t →
    (t.gated = true → (t.caps.isolate = true ∨ (s.dev.page p).isolate = false) → (s.dev.page p).state = .off →
      ∃ u, exec (.pageEnable p) s = .next u ∧ PageBecomes s u p { s.dev.page p with enable := true, state := .init }) ∧
    (t.gated = true → (s.dev.page p).state = .init →
      ∃ u, exec (.selfTestDone p) s = .next u ∧ PageBecomes s u p { s.dev.page p with state := .ready }) ∧
    (t.gated = true → (t.caps.isolate = true ∨ (s.dev.page p).isolate = false) → (s.dev.page p).state ≠ .off →
      (s.pageState p = .ready ∨ s.pageState p = .isolated ∨ s.pageState p = .faulted) →
      ∃ u, exec (.pageReset p) s = .next u ∧ PageBecomes s u p { s.dev.page p with state := .init }) ∧
    (t.gated = true → (t.caps.isolate = true ∨ (s.dev.page p).isolate = false) → (s.dev.page p).state ≠ .off →
      s.pageState p ≠ .ready → s.pageState p ≠ .isolated → s.pageState p ≠ .faulted →
      ∃ u, exec (.pageReset p) s = .next u ∧ PageBecomes s u p ((s.dev.page p).counted .badState)) ∧
    (t.gated = false → (s.dev.page p).enable = false → (s.dev.page p).isolate = false →
      ∃ u, exec (.pageEnable p) s = .next u ∧ PageBecomes s u p ((s.dev.page p).counted .badState)) ∧
    (t.gated = false → (s.dev.page p).enable = false → (s.dev.page p).isolate = false →
      ∃ u, exec (.pageReset p) s = .next u ∧ PageBecomes s u p ((s.dev.page p).counted .badState)) ∧
    (t.gated = false → t.caps.isolate = false → (s.dev.page p).enable = false → (s.dev.page p).isolate = false →
      ∃ u, exec (.pageIsolate p true) s = .next u ∧ PageBecomes s u p ((s.dev.page p).counted .badState))

/-- SNAPSHOT, SNAPSHOT_LATCH, SNAP_RELEASE: the latch is asked for the first whole microsecond after the write; there every counter of the page is latched,
PAGE_SNAP_TIME is the tick and SNAP_HELD is set; release clears SNAP_HELD; a page without counters ignores SNAPSHOT. -/
def Sys2Proof.Machine.Snapshots : Prop :=
  ∀ (s : State) (p : Nat) (t : PType), Reaches s p → pageType p = some t → (s.dev.page p).enable = (t.gated && decide ((s.dev.page p).state ≠ .off)) →
    (t.caps.isolate = true ∨ (s.dev.page p).isolate = false) →
    (t.caps.counters = true → (s.dev.page p).snapDue = none →
      ∃ u, exec (.snapshot p) s = .next u ∧ PageBecomes s u p { s.dev.page p with snapDue := some ((s.dev.now / usT + 1) * usT) }) ∧
    (t.caps.counters = false → ∃ u, exec (.snapshot p) s = .next u ∧ PageBecomes s u p (s.dev.page p)) ∧
    (∀ due, p ≠ pgPcie → (s.dev.page p).snapDue = some due → due ≤ s.dev.now →
      ∃ u, exec (.snapshotLatch p) s = .next u ∧
        (u.dev.page p).snapHeld = true ∧ (u.dev.page p).snapTime = shortOf due ∧ (u.dev.page p).snapDue = none ∧
        (∀ k ∈ counterKeys p, tabGetD 0 u.dev.ctl.snaps k = tabGetD 0 s.dev.ctl.counters k) ∧
        u.dev.ctl.counters = s.dev.ctl.counters) ∧
    (∃ u, exec (.snapRelease p) s = .next u ∧ (u.dev.page p).snapHeld = false ∧
      ∀ o, u.dev.counterRead p o = s.dev.counter p o)

/-- PAGE_EVENT_CLEAR and PAGE_EVENT_MASK_WRITE: bits written as 1 are cleared; the mask and the vector take the value written, and one message is sent for each
event bit already set whose mask bit goes from 1 to 0. -/
def Sys2Proof.Machine.PageEvents : Prop :=
  ∀ (s : State) (p : Nat) (v : Word), Reaches s p →
    (fld v 48 16 = 0 → ∃ u, exec (.pageEventClear p v) s = .next u ∧
      PageBecomes s u p { s.dev.page p with event := (s.dev.page p).event &&& ~~~(v.setWidth 48) }) ∧
    (fld v 56 8 = 0 → ∃ u, exec (.pageEventMaskWrite p v) s = .next u ∧
      u.dev.page p = { s.dev.page p with mask := v.setWidth 48, vector := fld v 48 8 } ∧
      (s.dev.msixLive (fld v 48 8) = false → u.dev.ctl.out = s.dev.ctl.out) ∧
      (s.dev.msixLive (fld v 48 8) = true → u.dev.ctl.out = s.dev.ctl.out ++ List.replicate
        ((List.range 48).filter (fun i => (s.dev.page p).event.getLsbD i && (s.dev.page p).mask.getLsbD i && !(v.setWidth 48).getLsbD i)).length
        (.msix (fld v 48 8))))

/-- An event bit that rises while its mask bit is 0 sends one message on the page's vector; a bit already set sends none. While the vector is masked the message waits in the
pending-bit array, and while MSI-X is off there is none. -/
def Sys2Proof.Machine.EventMessages : Prop :=
  ∀ (d : Dev) (p b : Nat), b < 48 →
    ((d.page p).event.getLsbD b = true → d.event p b = d) ∧
    ((d.page p).event.getLsbD b = false → ((d.event p b).page p).event.getLsbD b = true ∧
      (d.msixLive (d.page p).vector = true → (d.event p b).ctl.out = d.ctl.out ++ (if (d.page p).mask.getLsbD b then [] else [.msix (d.page p).vector])) ∧
      (d.msixLive (d.page p).vector = false → (d.event p b).ctl.out = d.ctl.out) ∧
      (d.ctl.msixOn = true → d.msixMasked (d.page p).vector = true → (d.page p).mask.getLsbD b = false → (d.event p b).ctl.msixPend.contains (d.page p).vector = true) ∧
      (d.ctl.msixOn = false → (d.event p b).ctl.msixPend = d.ctl.msixPend))

/-! ### Commit groups -/

/-- PAGE_COMMIT_WRITE, COMMIT_GROUP and CANCEL_COMMIT: GROUP, BOUND and ARM take the value written, and while LOCKED a change is refused and counted with LOCKED;
COMMIT_GROUP locks every page bound to the group and armed and stays pending; CANCEL_COMMIT clears ARM and LOCKED of those pages and ends the group. -/
def Sys2Proof.Machine.CommitGroups : Prop :=
  (∀ (s : State) (p : Nat) (v : Word), Reaches s p → Alone s → fld v 7 57 = 0 →
    ((s.dev.page p).locked = false → bit v 6 = false →
      ∃ u, exec (.pageCommitWrite p v) s = .next u ∧ PageBecomes s u p { s.dev.page p with group := fld v 0 4, bound := bit v 4, arm := bit v 5 }) ∧
    ((s.dev.page p).locked = true → bit v 6 = true → (fld v 0 4 ≠ (s.dev.page p).group ∨ bit v 4 ≠ (s.dev.page p).bound ∨ bit v 5 ≠ (s.dev.page p).arm) →
      ∃ u, exec (.pageCommitWrite p v) s = .next u ∧ PageBecomes s u p ((s.dev.page p).counted .locked))) ∧
  (∀ (s : State) (c : HostCmd), Accepts commitGroupSpec c s →
    ∃ u, exec (.commitGroup c) s = .next u ∧
      (∀ p, (u.dev.page p).locked = ((s.dev.armedPages (c.arg 0 1)).contains p || (s.dev.page p).locked)) ∧
      (∃ x, u.dev.group (c.arg 0 1) = some x ∧ x.pages = s.dev.armedPages (c.arg 0 1) ∧ x.applied = 0) ∧
      u.dev.ctl.regs = s.dev.ctl.regs ∧ u.dev.ctl.shadow = s.dev.ctl.shadow) ∧
  (∀ (s : State) (c : HostCmd) (x : Group), Accepts cancelCommitSpec c s → s.dev.group (c.arg 0 1) = some x →
    ∃ u, exec (.cancelCommit c) s = .next u ∧ u.dev.group (c.arg 0 1) = none ∧
      (∀ p ∈ x.pages, (u.dev.page p).arm = false ∧ (u.dev.page p).locked = false) ∧
      u.dev.ctl.regs = s.dev.ctl.regs ∧ u.dev.ctl.shadow = s.dev.ctl.shadow)

/-- COMMIT_GROUP_APPLY: at its boundary an included page copies its whole shadow to live, clears ARM and LOCKED and counts COMMIT_GEN; the shadow stays, and every
other page's live registers stay. -/
def Sys2Proof.Machine.CommitApplies : Prop :=
  ∀ (s : State) (g p : Nat) (x : Group), s.ready = true → p < 138 → s.dev.group g = some x → x.pages.contains p = true → s.dev.commitActs x p ≤ s.dev.now →
    s.dev.commitTurn g (s.dev.commitAt x p) = true →
    ∃ u, exec (.commitGroupApply g p) s = .next u ∧
      (∀ o ∈ rwsOffs p, u.dev.reg p o = s.dev.shadowReg p o) ∧
      (∀ q o, o < 4096 → q ≠ p → u.dev.reg q o = s.dev.reg q o) ∧
      u.dev.ctl.shadow = s.dev.ctl.shadow ∧
      (u.dev.page p).arm = false ∧ (u.dev.page p).locked = false ∧ (u.dev.page p).commitGen = ((s.dev.page p).commitGen + 1) % 4294967296 ∧
      u.aon = { s.aon with freeze := u.aon.freeze }

/-! ### The host interface -/

/-- WIN_BASE_WRITE and BAR4_ACCESS: a base above 0x1E_8000_0000 is rejected with REJECTED set, any other is taken and clears it; an access at window offset x
reaches the byte at WIN_BASE + x of device memory without translation, but for the check data of a protected region, where nothing is written. -/
def Sys2Proof.Machine.Bar4Window : Prop :=
  (∀ (s : State) (v : Word), Reaches s pgPcie → Alone s → s.pageState pgPcie ≠ .isolated → s.pageState pgPcie ≠ .testing →
    (fld v 16 21 * 65536 ≤ 0x1E80000000 →
      ∃ u, exec (.winBaseWrite v) s = .next u ∧ u.dev.ctl.winRejected = false ∧ fld (u.dev.reg pgPcie 0x050) 16 21 = fld v 16 21) ∧
    (0x1E80000000 < fld v 16 21 * 65536 →
      ∃ u, exec (.winBaseWrite v) s = .next u ∧ u.dev.ctl.winRejected = true ∧ u.dev.ctl.regs = s.dev.ctl.regs)) ∧
  (∀ (s : State) (off : Nat) (b : List Byte), s.up = true → off + b.length ≤ 4294967296 →
    ∃ u, exec (.bar4Access off (.write b)) s = .next u ∧
      (∀ a, a < dramEnd → (a < fld (s.dev.reg pgPcie 0x050) 16 21 * 65536 + off ∨ fld (s.dev.reg pgPcie 0x050) 16 21 * 65536 + off + b.length ≤ a) →
        memRead u.dev.mem.dram a = memRead s.dev.mem.dram a) ∧
      (∀ i, i < b.length → fld (s.dev.reg pgPcie 0x050) 16 21 * 65536 + off + i < dramEnd →
        memRead u.dev.mem.dram (fld (s.dev.reg pgPcie 0x050) 16 21 * 65536 + off + i) =
          if s.dev.checkByte (fld (s.dev.reg pgPcie 0x050) 16 21 * 65536 + off + i) then memRead s.dev.mem.dram (fld (s.dev.reg pgPcie 0x050) 16 21 * 65536 + off + i)
          else nthD 0 b i) ∧
      u = s.setDev { s.dev with mem := { s.dev.mem with dram := u.dev.mem.dram } }) ∧
  (∀ (s : State) (off n : Nat), s.up = true → off + n ≤ 4294967296 →
    ∃ u, exec (.bar4Access off (.read n)) s = .next u ∧
      u.dev.ctl.out = s.dev.ctl.out ++ [.readBytes (s.dev.physReads (fld (s.dev.reg pgPcie 0x050) 16 21 * 65536 + off) n)] ∧ u.dev.mem = s.dev.mem ∧
      ∀ i, i < n → fld (s.dev.reg pgPcie 0x050) 16 21 * 65536 + off + i < dramEnd → s.dev.checkByte (fld (s.dev.reg pgPcie 0x050) 16 21 * 65536 + off + i) = false →
        nthD 0 (s.dev.physReads (fld (s.dev.reg pgPcie 0x050) 16 21 * 65536 + off) n) i = memRead s.dev.mem.dram (fld (s.dev.reg pgPcie 0x050) 16 21 * 65536 + off + i)) ∧
  (∀ (s : State) (off : Nat) (op : BarOp), s.up = true → exec (.bar4Access off op) s = .next (s.setDev (s.dev.bar4 off op)))

/-- FUNCTION_LEVEL_RESET, PERST and PCIE_LINK_CHANGE: a reset of the host interface, or entry to D3hot, disables every ring and MSI-X and leaves Quartz, the media units and the
pair as they stand; LINK shows the speed and width while the link is up and zeros while it is not. -/
def Sys2Proof.Machine.HostInterfaceResets : Prop :=
  ∀ (s : State), s.up = true →
    (∀ d3, ∃ u, exec (.functionLevelReset d3) s = .next u ∧ u.dev.ctl.msixOn = false ∧ u.dev.ctl.msixPend = [] ∧ u.dev.ctl.d3hot = d3 ∧
      (∀ r k, ringThere r k = true → (u.dev.ring r k).enable = false ∧ (u.dev.ring r k).cmdHead = (u.dev.ring r k).cmdTail) ∧
      u.dev.clk = s.dev.clk ∧ u.dev.ptp = s.dev.ptp ∧ u.dev.pair = s.dev.pair ∧ u.dev.legs = s.dev.legs ∧ u.dev.geode = s.dev.geode ∧
      u.dev.mica = s.dev.mica ∧ u.dev.audio = s.dev.audio ∧ u.dev.render = s.dev.render ∧ u.dev.ctl.linkUp = s.dev.ctl.linkUp) ∧
    (∃ u, exec .perst s = .next u ∧ u.dev.ctl.msixOn = false ∧ u.dev.ctl.linkUp = false ∧ u.dev.pcieRead 0x048 = some 0 ∧ u.dev.clk = s.dev.clk) ∧
    (∀ speed width, speed ∈ [1, 2, 3] → width ∈ [1, 2, 4, 8] →
      ∃ u, exec (.pcieLinkChange speed width true) s = .next u ∧ u.dev.pcieRead 0x048 = some (fmk 0 4 speed ||| fmk 4 6 width ||| fmkB 16 true) ∧
        u = s.setDev { s.dev with ctl := { s.dev.ctl with linkUp := true, linkSpeed := speed, linkWidth := width } }) ∧
    (∀ speed width, ∃ u, exec (.pcieLinkChange speed width false) s = .next u ∧ u.dev.pcieRead 0x048 = some 0 ∧
        u = s.setDev { s.dev with ctl := { s.dev.ctl with linkUp := false, linkSpeed := 0, linkWidth := 0 } })

/-! ### Rings -/

/-- RING_CTRL_WRITE: with ENABLE 0 both heads and both tails go to 0 and ERROR clears; ENABLE 1 starts a ring whose two parts are naturally aligned and PINNED, and
otherwise leaves ENABLE 0 and sets ERROR; SIZE stays while the ring is enabled. CMD_TAIL_WRITE: an index outside the ring, or one that would put more than
size - 1 commands in it, sets ERROR. CPL_HEAD_WRITE moves the head. -/
def Sys2Proof.Machine.RingRegisters : Prop :=
  ∀ (s : State) (r k : Nat) (v : Word), Reaches s (pgRealm r) → s.dev.boot.phase = .ready → ringThere r k = true →
    (bit v 0 = false →
      ∃ u, exec (.ringCtrlWrite r k v) s = .next u ∧ (u.dev.ring r k).enable = false ∧ (u.dev.ring r k).error = false ∧
        (u.dev.ring r k).cmdTail = 0 ∧ (u.dev.ring r k).cmdHead = 0 ∧ (u.dev.ring r k).cplTail = 0 ∧ (u.dev.ring r k).cplHead = 0 ∧
        (∀ r' k', k' < 4 → (r' ≠ r ∨ k' ≠ k) → u.dev.ring r' k' = s.dev.ring r' k')) ∧
    (bit v 0 = true → (s.dev.ring r k).enable = false → fld v 2 4 ≤ 12 →
      ∃ u, exec (.ringCtrlWrite r k v) s = .next u ∧
        let n := 2 ^ (fld v 2 4 + 4)
        let ok := decide ((s.dev.ring r k).cmdBase % (64 * n) = 0) && decide ((s.dev.ring r k).cplBase % (16 * n) = 0) &&
          s.dev.pinned r (s.dev.ring r k).cmdBase (64 * n) && s.dev.pinned r (s.dev.ring r k).cplBase (16 * n)
        (u.dev.ring r k).enable = ok ∧ (ok = false → (u.dev.ring r k).error = true) ∧ (u.dev.ring r k).size = fld v 2 4) ∧
    ((s.dev.ring r k).enable = true → bit v 0 = true → ∃ u, exec (.ringCtrlWrite r k v) s = .next u ∧ (u.dev.ring r k).size = (s.dev.ring r k).size) ∧
    (∃ u, exec (.cmdTailWrite r k v) s = .next u ∧ (u.dev.ring r k).cmdTail = fld v 0 16 ∧
      (u.dev.ring r k).error = ((s.dev.ring r k).error || badIndex (s.dev.ring r k).entries (s.dev.ring r k).cmdHead (s.dev.ring r k).cmdTail (fld v 0 16)) ∧
      (u.dev.ring r k).enable = (s.dev.ring r k).enable) ∧
    (∃ u, exec (.cplHeadWrite r k v) s = .next u ∧ u.dev.ring r k = { s.dev.ring r k with cplHead := fld v 0 16 })

/-- COMMAND_FETCH: a ring that is stopped, empty, or whose completion ring has no free entry gives up no command; otherwise the command at the head is taken, the head
moves on, and it is processed in the order of Table 2-18: an undefined opcode completes with BAD_OPCODE and no other effect on the units. A command that cannot be read sets ERROR. -/
def Obligations.CommandFetch : Prop :=
  ∀ (s : State) (r k : Nat), s.ready = true →
    (s.dev.fetchable r k = false → exec (.commandFetch r k) s = .next s) ∧
    (∀ b, s.dev.fetchable r k = true → captureVa s.dev r ((s.dev.ring r k).cmdBase + 64 * (s.dev.ring r k).cmdHead) 64 = some b →
      (cmdOf r k b).fence = false → opSpec (leAt b 0 2) = none →
      ∃ u, exec (.commandFetch r k) s = .next u ∧ UnitsKept s u ∧
        (u.dev.ring r k).cmdHead = ((s.dev.ring r k).cmdHead + 1) % (s.dev.ring r k).entries ∧
        u.dev.ctl.out.contains (.completion (BitVec.ofNat 32 (leAt b 4 4)) .badOpcode 0 s.dev.freeWord) = true) ∧
    (∀ b o, s.dev.fetchable r k = true → captureVa s.dev r ((s.dev.ring r k).cmdBase + 64 * (s.dev.ring r k).cmdHead) 64 = some b →
      (cmdOf r k b).fence = false ∨ (s.dev.ring r k).reserved = 0 → opSpec (leAt b 0 2) = some o →
      exec (.commandFetch r k) s = .next ((s.setDev (s.dev.setRing r k { s.dev.ring r k with
          cmdHead := ((s.dev.ring r k).cmdHead + 1) % (s.dev.ring r k).entries, reserved := (s.dev.ring r k).reserved + 1, nextPos := (s.dev.ring r k).nextPos + 1 })).process o
        ⟨cmdOf r k b, leAt b 0 2, (s.dev.ring r k).nextPos, (s.dev.ring r k).gen, false⟩ (fun s => s.onDev (fun d => d.countAccepted r k)))) ∧
    (s.dev.fetchable r k = true → captureVa s.dev r ((s.dev.ring r k).cmdBase + 64 * (s.dev.ring r k).cmdHead) 64 = none →
      exec (.commandFetch r k) s = .next (s.setDev (s.dev.setRing r k { s.dev.ring r k with error := true }))) ∧
    (∀ b, s.dev.fetchable r k = true → captureVa s.dev r ((s.dev.ring r k).cmdBase + 64 * (s.dev.ring r k).cmdHead) 64 = some b →
      (cmdOf r k b).fence = true → 0 < (s.dev.ring r k).reserved → exec (.commandFetch r k) s = .next s)

/-- COMMAND_EFFECT: the first accepted command in the order of boundary, realm, ring and position leaves the list and is carried out at its boundary once that boundary has
been reached; COALESCE_TIMEOUT sends the message once COALESCE_US has passed since the first unsignalled completion. -/
def Sys2Proof.Machine.CommandEffectAndCoalesce : Prop :=
  ∀ (s : State), s.ready = true →
    (∀ (a : Accepted) (o : OpSpec), s.dev.dueNext s.dev.now = some a → opSpec a.tok.opcode = some o →
      a.due < blockAt s.dev.clk.nextBlock → a.due ≤ s.dev.clk.nextEpoch * msT →
      exec .commandEffect s = .next ((s.setDev { s.dev with ctl := { s.dev.ctl with accepted := s.dev.ctl.accepted.erase a } }).dated a.due
        (fun s => o.perform a.tok a.late (some a.data) s))) ∧
    (s.dev.dueNext s.dev.now = none → exec .commandEffect s = .next s) ∧
    (∀ (r k : Nat), (s.dev.ring r k).unsig ≠ 0 → (s.dev.ring r k).coalUs ≠ 0 → (s.dev.ring r k).unsigAt + (s.dev.ring r k).coalUs * usT ≤ s.dev.now →
      ∃ u, exec (.coalesceTimeout r k) s = .next u ∧ u.dev.ring r k = { s.dev.ring r k with unsig := 0 } ∧
        u.dev.ctl.out = s.dev.ctl.out ++ (if s.dev.msixLive (s.dev.ring r k).vector then [.msix (s.dev.ring r k).vector] else []))

/-- The rows of the host's commands: each is its opcode's command, processed as the unit processes it. -/
def Sys2Proof.Machine.CommandRows : Prop :=
  ∀ (s : State) (c : HostCmd),
    exec (.nop c) s = .next (runCmd nopSpec c s) ∧
    exec (.commitGroup c) s = .next (runCmd commitGroupSpec c s) ∧
    exec (.cancelCommit c) s = .next (runCmd cancelCommitSpec c s) ∧
    exec (.acceptStep c) s = .next (runCmd acceptStepSpec c s) ∧
    exec (.globalSnapshot c) s = .next (runCmd globalSnapshotSpec c s) ∧
    exec (.legOpen c) s = .next (runCmd legOpenSpec c s) ∧
    exec (.legStart c) s = .next (runCmd legStartSpec c s) ∧
    exec (.legHold c) s = .next (runCmd legHoldSpec c s) ∧
    exec (.legResume c) s = .next (runCmd legResumeSpec c s) ∧
    exec (.legClose c) s = .next (runCmd legCloseSpec c s) ∧
    exec (.legRelease c) s = .next (runCmd legReleaseSpec c s) ∧
    exec (.legUpdate c) s = .next (runCmd legUpdateSpec c s) ∧
    exec (.streamAdd c) s = .next (runCmd streamAddSpec c s) ∧
    exec (.streamRemove c) s = .next (runCmd streamRemoveSpec c s) ∧
    exec (.subscribe c) s = .next (runCmd subscribeSpec c s) ∧
    exec (.unsubscribe c) s = .next (runCmd unsubscribeSpec c s) ∧
    exec (.subscribeSet c) s = .next (runCmd subscribeSetSpec c s) ∧
    exec (.legQuery c) s = .next (runCmd legQuerySpec c s) ∧
    exec (.encStreamOpen c) s = .next (runCmd encStreamOpenSpec c s) ∧
    exec (.encStreamClose c) s = .next (runCmd encStreamCloseSpec c s) ∧
    exec (.encStreamUpdate c) s = .next (runCmd encStreamUpdateSpec c s) ∧
    exec (.encRefresh c) s = .next (runCmd encRefreshSpec c s) ∧
    exec (.encQuery c) s = .next (runCmd encQuerySpec c s) ∧
    exec (.encSubmit c) s = .next (runCmd encSubmitSpec c s) ∧
    exec (.decStreamOpen c) s = .next (runCmd decStreamOpenSpec c s) ∧
    exec (.decStreamClose c) s = .next (runCmd decStreamCloseSpec c s) ∧
    exec (.decQuery c) s = .next (runCmd decQuerySpec c s) ∧
    exec (.decSubmit c) s = .next (runCmd decSubmitSpec c s) ∧
    exec (.geodeTwin c) s = .next (runCmd geodeTwinSpec c s) ∧
    exec (.geodeUntwin c) s = .next (runCmd geodeUntwinSpec c s) ∧
    exec (.geodeSwap c) s = .next (runCmd geodeSwapSpec c s) ∧
    exec (.layoutOpen c) s = .next (runCmd layoutOpenSpec c s) ∧
    exec (.layoutStart c) s = .next (runCmd layoutStartSpec c s) ∧
    exec (.layoutStop c) s = .next (runCmd layoutStopSpec c s) ∧
    exec (.layoutClose c) s = .next (runCmd layoutCloseSpec c s) ∧
    exec (.layerLoad c) s = .next (runCmd layerLoadSpec c s) ∧
    exec (.layoutFlip c) s = .next (runCmd layoutFlipSpec c s) ∧
    exec (.layerBypass c) s = .next (runCmd layerBypassSpec c s) ∧
    exec (.stillLoad c) s = .next (runCmd stillLoadSpec c s) ∧
    exec (.layoutQuery c) s = .next (runCmd layoutQuerySpec c s) ∧
    exec (.legAudioSet c) s = .next (runCmd legAudioSetSpec c s) ∧
    exec (.confAudioSet c) s = .next (runCmd confAudioSetSpec c s) ∧
    exec (.hrtfLoad c) s = .next (runCmd hrtfLoadSpec c s) ∧
    exec (.routeSet c) s = .next (runCmd routeSetSpec c s) ∧
    exec (.routeClear c) s = .next (runCmd routeClearSpec c s) ∧
    exec (.routeQuery c) s = .next (runCmd routeQuerySpec c s) ∧
    exec (.netRxOpen c) s = .next (runCmd netRxOpenSpec c s) ∧
    exec (.netRxClose c) s = .next (runCmd netRxCloseSpec c s) ∧
    exec (.netTxOpen c) s = .next (runCmd netTxOpenSpec c s) ∧
    exec (.netTxClose c) s = .next (runCmd netTxCloseSpec c s) ∧
    exec (.spkLayoutLoad c) s = .next (runCmd spkLayoutLoadSpec c s) ∧
    exec (.spkLayoutSelect c) s = .next (runCmd spkLayoutSelectSpec c s) ∧
    exec (.renderStart c) s = .next (runCmd renderStartSpec c s) ∧
    exec (.renderStop c) s = .next (runCmd renderStopSpec c s) ∧
    exec (.objSet c) s = .next (runCmd objSetSpec c s) ∧
    exec (.spkSet c) s = .next (runCmd spkSetSpec c s) ∧
    exec (.firLoad c) s = .next (runCmd firLoadSpec c s) ∧
    exec (.hoaSet c) s = .next (runCmd hoaSetSpec c s) ∧
    exec (.renderQuery c) s = .next (runCmd renderQuerySpec c s) ∧
    exec (.garnetLoad c) s = .next (runCmd garnetLoadSpec c s) ∧
    exec (.garnetUnload c) s = .next (runCmd garnetUnloadSpec c s) ∧
    exec (.insertOpen c) s = .next (runCmd insertOpenSpec c s) ∧
    exec (.insertClose c) s = .next (runCmd insertCloseSpec c s) ∧
    exec (.insertParam c) s = .next (runCmd insertParamSpec c s) ∧
    exec (.insertCoef c) s = .next (runCmd insertCoefSpec c s) ∧
    exec (.insertBypass c) s = .next (runCmd insertBypassSpec c s) ∧
    exec (.insertReset c) s = .next (runCmd insertResetSpec c s) ∧
    exec (.insertQuery c) s = .next (runCmd insertQuerySpec c s) ∧
    exec (.garnetSwap c) s = .next (runCmd garnetSwapSpec c s) ∧
    exec (.taskStart c) s = .next (runCmd taskStartSpec c s) ∧
    exec (.taskStop c) s = .next (runCmd taskStopSpec c s) ∧
    exec (.queueAssign c) s = .next (runCmd queueAssignSpec c s) ∧
    exec (.queueSet c) s = .next (runCmd queueSetSpec c s) ∧
    exec (.queueQuery c) s = .next (runCmd queueQuerySpec c s) ∧
    exec (.queueFlush c) s = .next (runCmd queueFlushSpec c s) ∧
    exec (.gateListSet c) s = .next (runCmd gateListSetSpec c s) ∧
    exec (.gateListCancel c) s = .next (runCmd gateListCancelSpec c s) ∧
    exec (.hostSend c) s = .next (runCmd hostSendSpec c s) ∧
    exec (.keyslotAssign c) s = .next (runCmd keyslotAssignSpec c s) ∧
    exec (.keyQuery c) s = .next (runCmd keyQuerySpec c s) ∧
    exec (.flintRelease c) s = .next (runCmd flintReleaseSpec c s) ∧
    exec (.laneRetrain c) s = .next (runCmd laneRetrainSpec c s) ∧
    exec (.portQuery c) s = .next (runCmd portQuerySpec c s) ∧
    exec (.pairSurrender c) s = .next (runCmd pairSurrenderSpec c s) ∧
    exec (.pairYield c) s = .next (runCmd pairYieldSpec c s) ∧
    exec (.pairJoin c) s = .next (runCmd pairJoinSpec c s) ∧
    exec (.legResync c) s = .next (runCmd legResyncSpec c s) ∧
    exec (.pairQuery c) s = .next (runCmd pairQuerySpec c s) ∧
    exec (.xlatMap c) s = .next (runCmd xlatMapSpec c s) ∧
    exec (.xlatUnmap c) s = .next (runCmd xlatUnmapSpec c s) ∧
    exec (.xlatProtect c) s = .next (runCmd xlatProtectSpec c s) ∧
    exec (.xlatQuery c) s = .next (runCmd xlatQuerySpec c s) ∧
    exec (.faultResume c) s = .next (runCmd faultResumeSpec c s) ∧
    exec (.faultAbort c) s = .next (runCmd faultAbortSpec c s) ∧
    exec (.domainSet c) s = .next (runCmd domainSetSpec c s) ∧
    exec (.dispSubmit c) s = .next (runCmd dispSubmitSpec c s) ∧
    exec (.dispQuery c) s = .next (runCmd dispQuerySpec c s) ∧
    exec (.dispFlush c) s = .next (runCmd dispFlushSpec c s) ∧
    exec (.updateBegin c) s = .next (runCmd updateBeginSpec c s) ∧
    exec (.updateData c) s = .next (runCmd updateDataSpec c s) ∧
    exec (.updateFinish c) s = .next (runCmd updateFinishSpec c s) ∧
    exec (.updateAbort c) s = .next (runCmd updateAbortSpec c s) ∧
    exec (.updateActivate c) s = .next (runCmd updateActivateSpec c s) ∧
    exec (.updateConfirm c) s = .next (runCmd updateConfirmSpec c s) ∧
    exec (.updateRevert c) s = .next (runCmd updateRevertSpec c s) ∧
    exec (.updateLock c) s = .next (runCmd updateLockSpec c s) ∧
    exec (.settingsWrite c) s = .next (runCmd settingsWriteSpec c s) ∧
    exec (.settingsRead c) s = .next (runCmd settingsReadSpec c s) ∧
    exec (.unitIsolate c) s = .next (runCmd unitIsolateSpec c s) ∧
    exec (.bistRun c) s = .next (runCmd bistRunSpec c s) ∧
    exec (.freezeNow c) s = .next (runCmd freezeNowSpec c s) ∧
    exec (.deviceTest c) s = .next (runCmd deviceTestSpec c s)

/-- A command that its own row carries: nothing before READY; one that fails a check completes with the status of Table 2-18 that comes first and has no effect; one that passes has
its effect and its completion where it acts as it is processed or stands at its boundary; otherwise it is accepted, and held with what it captured for the boundary that it states or, late, for
the earliest one. -/
def Sys2Proof.Machine.CommandsTaken : Prop :=
  ∀ (o : OpSpec) (c : HostCmd) (s : State),
    (s.ready = false → runCmd o c s = s) ∧
    (∀ st n, s.ready = true → (c.dated = true → s.dev.datedPending < 8192) → o.judged c s = some (st, n) →
      runCmd o c s = s.onDev (fun d => (o.rejected c st d).refuse (o.token c s) st n)) ∧
    (s.ready = true → c.dated = true → 8192 ≤ s.dev.datedPending → o.judged c s = none →
      runCmd o c s = s.onDev (fun d => (o.rejected c .noResource d).refuse (o.token c s) .noResource 0)) ∧
    (Accepts o c s → runCmd o c s = o.done c s) ∧
    (s.ready = true → s.dev.joined = false → (c.dated = true → s.dev.datedPending < 8192) → o.judged c s = none → o.actsNow (o.token c s) s.dev = none →
      o.opcode ≠ 0x0E04 → o.opcode ≠ 0x0E06 →
      runCmd o c s = s.setDev (s.dev.holdCommand ⟨o.token c s, (s.dev.effectTime (o.token c s)).1, (s.dev.effectTime (o.token c s)).2, (o.capture c s.dev).getD []⟩))

/-- Every command answers a next state and leaves the queue as it stands, so a run of any length goes on to its end. -/
def Obligations.Answers : Prop := EveryCommandAnswers ∧ StepAlwaysProceeds

/-- Register writes: what a whole write leaves, the rules of a field, and accesses that are no access. -/
def Obligations.RegisterWrites : Prop := RegisterWriteStores ∧ RowsAreWrites ∧ FieldRules ∧ BadAccessCounted

/-- Accesses by halves, and reads that clear. -/
def Obligations.SplitAccesses : Prop := SplitWritePairsHalves ∧ SplitReadLatches ∧ ReadToClear

/-- Shadow registers and commit groups. -/
def Obligations.ShadowsAndCommits : Prop := ShadowWrite ∧ CommitGroups ∧ CommitApplies

/-- The common header of a page: its state, snapshots, events and their messages. -/
def Obligations.PageHeaders : Prop := PageStateCommands ∧ Snapshots ∧ PageEvents ∧ EventMessages

/-- The window of BAR4, and the resets of the host interface. -/
def Obligations.HostInterface : Prop := Bar4Window ∧ HostInterfaceResets

/-- The registers of a ring pair, and what takes effect when. -/
def Obligations.Rings : Prop := RingRegisters ∧ CommandEffectAndCoalesce ∧ CommandRows ∧ CommandsTaken

/-! ### Media time (chapter 3) -/

/-- QUARTZ_TICK: each tick adds INCR to the clock, nanoseconds carrying into seconds, which wrap at 48 bits; the fields stay in their ranges. -/
def Sys2Proof.Machine.TickAddsIncr : Prop :=
  (∀ (s : State) (n : Nat), s.up = true → exec (.quartzTick n) s = .next (s.setDev (s.dev.quartzTick n))) ∧
  ∀ (s : State) (n : Nat), s.up = true → s.dev.clk.sec < 2 ^ 48 → s.dev.clk.ns < 1000000000 → s.dev.clk.frac < 65536 → s.dev.clk.sub < 65536 →
    ∃ u, exec (.quartzTick n) s = .next u ∧
      u.dev.clk.units = (s.dev.clk.units + n * s.dev.clk.incr) % (2 ^ 48 * (1000000000 * 4294967296)) ∧
      u.dev.clk.sec < 2 ^ 48 ∧ u.dev.clk.ns < 1000000000 ∧ u.dev.clk.frac < 65536 ∧ u.dev.clk.sub < 65536 ∧ u.dev.clk.incr = s.dev.clk.incr ∧
      u = s.setDev { s.dev with clk := u.dev.clk, ctl := { s.dev.ctl with out := u.dev.ctl.out } }

/-- NOW_W0_READ: word 0 of the time is given out and word 1 of the same instant is latched into NOW_W1; NOW_SHORT reads as the short media
time of the instant; a full timestamp read so names the instant. -/
def Sys2Proof.Machine.NowReads : Prop :=
  (∀ (s : State), s.ready = true →
    exec .nowW0Read s = .next (s.setDev (({ s.dev with ptp := { s.dev.ptp with nowW1 := fullW1 s.dev.now } } : Dev).emit (.readData (fullW0 s.dev.now))))) ∧
  (∀ (s : State), s.seen pgQuartz 0x050 = s.dev.ptp.nowW1 ∧ s.seen pgQuartz 0x058 = s.dev.short) ∧
  (∀ t : Time, t < 2 ^ 48 * secT → fullTime (fullW0 t) (fullW1 t) = t ∧ fullValid (fullW0 t) (fullW1 t) = true)

/-- PTP takes the message: it runs, the message passes the checks of R99, and the queue is empty and its events are taken. -/
def Sys2Proof.Machine.Dev.takesPtp (d : Dev) (h : PtpHdr) (range : Option (Int × Int)) : Prop :=
  d.ptpOn = true ∧ d.ptpOk h range = true ∧ d.ptp.evq = [] ∧ h.held = false

/-- SYNC, FOLLOW_UP, DELAY_RESP: a Sync of the selected master with a completed exchange gives PATH_DELAY as the mean of the two ways and the offset as the median of the last
FILTER raw offsets, its ingress stamp being that of the lane boundary of the PTP port less the board's delay; a two-step Sync waits for its Follow_Up, whose correction is added; a Delay_Resp to this unit completes the exchange and sets the request interval. -/
def Sys2Proof.Machine.PtpOffsets : Prop :=
  (∀ (s : State) (m : SyncMsg) (sm : Int), s.ready = true → s.dev.takesPtp m.h (some (-7, 1)) → s.dev.fromMaster m.h = true → m.h.twoStep = false →
    s.dev.ptp.exch = some sm →
    ∃ u, exec (.sync m) s = .next u ∧
      let ms : Int := ((((s.dev.rxStamp (fld (s.dev.reg pgQuartz 0x068) 1 3) m.stamp : Nat) : Int) - s.dev.boardDelay false) - m.origin) - m.h.correction
      u.dev.ptp.path = (ms + sm) / 2 ∧
      u.dev.ptp.raw = ((ms - (ms + sm) / 2) :: s.dev.ptp.raw).take 15 ∧
      u.dev.ptp.offset = median (u.dev.ptp.raw.take (max 1 (fld (s.dev.reg pgQuartz 0x088) 40 4))) ∧ u.dev.counter pgQuartz 0x148 = s.dev.counter pgQuartz 0x148 + 1 ∧ u.dev.ptp.lastSync = some s.dev.now) ∧
  (∀ (s : State) (m : SyncMsg), s.ready = true → s.dev.takesPtp m.h (some (-7, 1)) → s.dev.fromMaster m.h = true → m.h.twoStep = true →
    ∃ u, exec (.sync m) s = .next u ∧ u.dev.ptp.twoStep = some (m.h.seq, ((s.dev.rxStamp (fld (s.dev.reg pgQuartz 0x068) 1 3) m.stamp : Nat) : Int) - s.dev.boardDelay false, m.h.correction) ∧ u.dev.ptp.offset = s.dev.ptp.offset) ∧
  (∀ (s : State) (m : FollowUpMsg) (t2 c sm : Int), s.ready = true → s.dev.takesPtp m.h none → s.dev.fromMaster m.h = true →
    s.dev.ptp.twoStep = some (m.h.seq, t2, c) → s.dev.ptp.exch = some sm →
    ∃ u, exec (.followUp m) s = .next u ∧
      let ms : Int := (t2 - m.origin) - (c + m.h.correction)
      u.dev.ptp.path = (ms + sm) / 2 ∧ u.dev.ptp.offset = median (u.dev.ptp.raw.take (max 1 (fld (s.dev.reg pgQuartz 0x088) 40 4))) ∧
      u.dev.ptp.raw = ((ms - (ms + sm) / 2) :: s.dev.ptp.raw).take 15 ∧ u.dev.ptp.twoStep = none) ∧
  (∀ (s : State) (m : DelayRespMsg) (t3 : Int), s.ready = true → s.dev.takesPtp m.h none → s.dev.fromMaster m.h = true → m.forUs = true →
    s.dev.ptp.reqSeq = m.h.seq → s.dev.ptp.t3 = some t3 →
    ∃ u, exec (.delayResp m) s = .next u ∧
      u.dev.ptp = { s.dev.ptp with t3 := none, exch := some (((m.receive : Int) - (t3 + s.dev.boardDelay true)) - m.h.correction), reqLog := some m.h.logInterval } ∧
      u.dev.clk = s.dev.clk)

/-- ANNOUNCE, SYNC, FOLLOW_UP, DELAY_RESP: a message that fails the domain, version, transport, VLAN or interval check is dropped and counted in PTP_DROPPED; while
PTP_CFG.ENABLE is 0 none is counted; one that passes is counted by its type and joins the event queue, and one that finds 16,512 events there is dropped, counted and
raised. An Announce of a master replaces what that master last announced. -/
def Sys2Proof.Machine.PtpDrops : Prop :=
  (∀ (s : State) (m : SyncMsg), s.ready = true →
    exec (.sync m) s = .next (s.setDev (s.dev.sync m)) ∧
    (s.dev.ptpOn = true → s.dev.ptpOk m.h (some (-7, 1)) = false → exec (.sync m) s = .next (s.setDev (s.dev.inc pgQuartz 0x170))) ∧
    (s.dev.ptpOn = false → exec (.sync m) s = .next (s.setDev s.dev)) ∧
    (s.dev.ptpOn = true → s.dev.ptpOk m.h (some (-7, 1)) = true → m.h.held = true → s.dev.ptp.evq.length < 16512 →
      ∃ u, exec (.sync m) s = .next u ∧ u.dev.ptp = { s.dev.ptp with evq := s.dev.ptp.evq ++ [.sync m] } ∧
        u.dev.counter pgQuartz 0x148 = s.dev.counter pgQuartz 0x148 + 1) ∧
    (s.dev.ptpOn = true → s.dev.ptpOk m.h (some (-7, 1)) = true → 16512 ≤ s.dev.ptp.evq.length →
      ∃ u, exec (.sync m) s = .next u ∧ u.dev.ptp = s.dev.ptp ∧ (u.dev.page pgQuartz).event.getLsbD 8 = true ∧
        u.dev.counter pgQuartz 0x178 = s.dev.counter pgQuartz 0x178 + 1)) ∧
  (∀ (s : State) (m : FollowUpMsg), s.ready = true →
    exec (.followUp m) s = .next (s.setDev (s.dev.followUp m)) ∧
    (s.dev.ptpOn = true → s.dev.ptpOk m.h none = false → exec (.followUp m) s = .next (s.setDev (s.dev.inc pgQuartz 0x170))) ∧
    (s.dev.ptpOn = false → exec (.followUp m) s = .next (s.setDev s.dev)) ∧
    (s.dev.ptpOn = true → s.dev.ptpOk m.h none = true → m.h.held = true → s.dev.ptp.evq.length < 16512 →
      ∃ u, exec (.followUp m) s = .next u ∧ u.dev.ptp = { s.dev.ptp with evq := s.dev.ptp.evq ++ [.followUp m] } ∧
        u.dev.counter pgQuartz 0x150 = s.dev.counter pgQuartz 0x150 + 1)) ∧
  (∀ (s : State) (m : DelayRespMsg), s.ready = true →
    exec (.delayResp m) s = .next (s.setDev (s.dev.delayResp m)) ∧
    (s.dev.ptpOn = true → s.dev.ptpOk m.h none = false → exec (.delayResp m) s = .next (s.setDev (s.dev.inc pgQuartz 0x170))) ∧
    (s.dev.ptpOn = false → exec (.delayResp m) s = .next (s.setDev s.dev)) ∧
    (s.dev.ptpOn = true → s.dev.ptpOk m.h none = true → m.h.held = true → s.dev.ptp.evq.length < 16512 →
      ∃ u, exec (.delayResp m) s = .next u ∧ u.dev.ptp = { s.dev.ptp with evq := s.dev.ptp.evq ++ [.delayResp m] } ∧
        u.dev.counter pgQuartz 0x160 = s.dev.counter pgQuartz 0x160 + 1)) ∧
  ∀ (s : State) (m : AnnounceMsg), s.ready = true →
    exec (.announce m) s = .next (s.setDev (s.dev.announce m)) ∧
    (s.dev.ptpOn = true → s.dev.ptpOk m.h (some (-3, 4)) = false → exec (.announce m) s = .next (s.setDev (s.dev.inc pgQuartz 0x170))) ∧
    (s.dev.ptpOn = false → exec (.announce m) s = .next (s.setDev s.dev)) ∧
    (s.dev.ptpOn = true → s.dev.ptpOk m.h (some (-3, 4)) = true → m.h.held = true → s.dev.ptp.evq.length < 16512 →
      ∃ u, exec (.announce m) s = .next u ∧ u.dev.ptp = { s.dev.ptp with evq := s.dev.ptp.evq ++ [.announce m] } ∧
        u.dev.counter pgQuartz 0x168 = s.dev.counter pgQuartz 0x168 + 1) ∧
    (s.dev.takesPtp m.h (some (-3, 4)) →
      ∃ u f, exec (.announce m) s = .next u ∧ u.dev.counter pgQuartz 0x168 = s.dev.counter pgQuartz 0x168 + 1 ∧
        u.dev.ptp.foreign.getLast? = some f ∧ f.id = m.h.srcId ∧ f.port = m.h.srcPort ∧ f.msg = m ∧ f.stamps.head? = some s.dev.now)

/-- DELAY_REQ: at its drawn time one request, a message of 44 bytes in the transport's frame, joins the control queue of the PTP port, which stamps it as it leaves; the next is
drawn between 0 and twice the interval later; before that time, with PTP off or with no master none is sent. -/
def Sys2Proof.Machine.DelayReqSent : Prop :=
  ∀ (s : State) (draw : Nat), s.ready = true →
    exec (.delayReq draw) s = .next (s.setDev (s.dev.delayReq draw)) ∧
    (∀ t, s.dev.ptpOn = true → s.dev.ptp.master.isSome = true → s.dev.ptp.nextReq = some t → t ≤ s.dev.now →
      ∃ nxt, s.dev.now ≤ nxt ∧ nxt ≤ s.dev.now + 2 * pow2Sec (s.dev.ptp.reqLog.getD s.dev.ptp.syncLog) ∧
        let seq := (s.dev.ptp.reqSeq + 1) % 65536
        exec (.delayReq draw) s = .next (s.setDev (({ s.dev with ptp := { s.dev.ptp with reqSeq := seq, t3 := none, nextReq := some nxt } } : Dev).enqueue
          (ctrlQ (fld (s.dev.reg pgQuartz 0x068) 1 3)) { bytes := s.dev.delayReqFrame seq, at_ := s.dev.now, seq := seq, ptp := true }))) ∧
    (∀ t, s.dev.ptpOn = false ∨ s.dev.ptp.master = none ∨ s.dev.now < t → s.dev.ptp.nextReq = some t → exec (.delayReq draw) s = .next (s.setDev s.dev)) ∧
    (∀ domain seq uni, domain < 256 → (delayReqBytes domain seq uni).length = 44)

/-- SYNC_TIMEOUT and ANNOUNCE_TIMEOUT: the servo leaves ACQUIRING or LOCKED for HOLDOVER, with the increment frozen at the rounded mean of those last applied, and the bit of
HOLDOVER is set; a loss of the only master heard leaves none selected. -/
def Sys2Proof.Machine.HoldoverEntered : Prop :=
  (∀ (s : State), s.ready = true → exec .syncTimeout s = .next (s.setDev s.dev.syncTimeout) ∧ exec .announceTimeout s = .next (s.setDev s.dev.announceTimeout)) ∧
  (∀ (s : State) (t : Time), s.ready = true → (s.dev.ptp.servo = .acquiring ∨ s.dev.ptp.servo = .locked) → s.dev.ptp.lastSync = some t →
    t + fld (s.dev.reg pgQuartz 0x088) 32 8 * pow2Sec s.dev.ptp.syncLog ≤ s.dev.now →
    ∃ u, exec .syncTimeout s = .next u ∧ u.dev.ptp.servo = .holdover ∧ u.dev.clk.incr = meanIncr s.dev.ptp.incrs s.dev.clk.incr ∧
      (u.dev.page pgQuartz).event.getLsbD 1 = true ∧ u.dev.ptp.since = s.dev.now ∧ u.dev.clk.sec = s.dev.clk.sec ∧ u.dev.clk.ns = s.dev.clk.ns) ∧
  (∀ (s : State) (f : Foreign), s.ready = true → (s.dev.ptp.servo = .acquiring ∨ s.dev.ptp.servo = .locked) → s.dev.ptp.master = some (f.id, f.port) →
    s.dev.ptp.foreign = [f] → (f.stamps.head?).getD 0 + 3 * pow2Sec f.msg.h.logInterval ≤ s.dev.now →
    ∃ u, exec .announceTimeout s = .next u ∧ u.dev.ptp.servo = .holdover ∧ u.dev.ptp.master = none ∧ u.dev.ptp.foreign = [] ∧
      u.dev.clk.incr = meanIncr s.dev.ptp.incrs s.dev.clk.incr)

/-- PTP_CFG_WRITE: setting ENABLE starts with no foreign master and none selected; a write while ENABLE is 1 and the servo is not FREERUN acts as a change of grandmaster and,
but for a SECONDARY, refuses the step with cause 1. -/
def Sys2Proof.Machine.PtpCfgWritten : Prop :=
  ∀ (s : State) (v : Word), Writable s pgQuartz →
    (s.dev.ptpOn = false → bit v 0 = true →
      ∃ u, exec (.ptpCfgWrite v) s = .next u ∧ u.dev.ptpOn = true ∧ u.dev.ptp.foreign = [] ∧ u.dev.ptp.master = none ∧ u.dev.ptp.lastGm = none ∧
        u.dev.ptp.servo = s.dev.ptp.servo) ∧
    (s.dev.ptpOn = true → s.dev.ptp.servo ≠ .freerun →
      ∃ u, exec (.ptpCfgWrite v) s = .next u ∧ u.dev.ptp.servo = .stepRefused ∧ u.dev.ptp.refuseCause = 1 ∧ (u.dev.page pgQuartz).event.getLsbD 4 = true)

/-- The first filtered offset in FREERUN asks for a step at the next epoch boundary; within LOCK_THRESH for LOCK_COUNT offsets ACQUIRING becomes LOCKED; outside it as often
LOCKED becomes ACQUIRING; beyond STEP_LIMIT for QUAL_COUNT offsets either, and HOLDOVER, becomes STEP_REFUSED; within it as often HOLDOVER and STEP_REFUSED become ACQUIRING.
A count of 0 acts as 1, which is the model's choice (log entry 87). -/
def Obligations.ServoTransitions : Prop :=
  ∀ (d : Dev) (o : Int), d.pair.role ≠ .secondary →
    let lock := d.reg pgQuartz 0x088
    let thr : Int := (fld lock 0 16 * nsT : Nat)
    (d.ptp.servo = .freerun → d.ptp.step = none → (d.servoOffset o).ptp.step = some ⟨o, epochCeil d.now / msT⟩ ∧ (d.servoOffset o).ptp.servo = .freerun) ∧
    (d.ptp.servo = .acquiring → -thr ≤ o → o ≤ thr → -d.stepLimit ≤ o → o ≤ d.stepLimit → max 1 (fld lock 16 8) ≤ d.ptp.inThr + 1 →
      (d.servoOffset o).ptp.servo = .locked) ∧
    (d.ptp.servo = .locked → (o < -thr ∨ thr < o) → -d.stepLimit ≤ o → o ≤ d.stepLimit → max 1 (fld lock 16 8) ≤ d.ptp.outThr + 1 →
      (d.servoOffset o).ptp.servo = .acquiring) ∧
    ((d.ptp.servo = .acquiring ∨ d.ptp.servo = .locked) → (o < -d.stepLimit ∨ d.stepLimit < o) → max 1 (fld lock 24 8) ≤ d.ptp.outStep + 1 →
      (d.servoOffset o).ptp.servo = .stepRefused ∧ (d.servoOffset o).ptp.refuseCause = 2 ∧ (d.servoOffset o).ptp.f = d.ptp.f) ∧
    ((d.ptp.servo = .holdover ∨ d.ptp.servo = .stepRefused) → -d.stepLimit ≤ o → o ≤ d.stepLimit → max 1 (fld lock 24 8) ≤ d.ptp.inStep + 1 →
      (d.servoOffset o).ptp.servo = .acquiring ∧ (d.servoOffset o).clk.incr = d.clk.incr) ∧
    (d.ptp.servo = .holdover → (o < -d.stepLimit ∨ d.stepLimit < o) → max 1 (fld lock 24 8) ≤ d.ptp.outStep + 1 →
      (d.servoOffset o).ptp.servo = .stepRefused ∧ (d.servoOffset o).clk.incr = d.clk.incr)

/-- STEP_APPLY: once every unit has acted on the step's epoch boundary at the old time the clock jumps by the negated offset, measurements are discarded, the servo is ACQUIRING, and the boundaries
to come are the first at or after the new time. ACCEPT_STEP in STEP_REFUSED asks for that step when the offset is recent, and completes with TIMEOUT otherwise. -/
def Sys2Proof.Machine.StepsApply : Prop :=
  (∀ (s : State), s.ready = true → exec .stepApply s = .next (s.setDev s.dev.stepApply) ∧
    ((∀ st, s.dev.ptp.step = some st → s.dev.boundaryDone (st.epoch * msT) = false) → exec .stepApply s = .next (s.setDev s.dev))) ∧
  (∀ (s : State) (st : StepDue), s.ready = true → s.dev.ptp.step = some st → s.dev.boundaryDone (st.epoch * msT) = true → stepped st.offset s.dev.now < 2 ^ 48 * secT →
    ∃ u, exec .stepApply s = .next u ∧ u.dev.now = stepped st.offset s.dev.now ∧ u.dev.ptp.servo = .acquiring ∧ u.dev.ptp.step = none ∧ u.dev.ptp.raw = [] ∧
      u.dev.ptp.exch = none ∧ u.dev.ptp.stepLast = -st.offset ∧
      u.dev.clk.nextEpoch = epochCeil (stepped st.offset s.dev.now) / msT ∧ u.dev.clk.nextBlock = blockCeil (stepped st.offset s.dev.now) ∧
      u.dev.clk.nextTick = ceilTo usT (stepped st.offset s.dev.now) / usT) ∧
  (∀ (s : State) (c : HostCmd), Accepts acceptStepSpec c s →
    let e := effectEpoch s.dev
    let recent := match s.dev.ptp.offAt with
      | some t => decide (e * msT < t + secT) && decide (s.dev.ptp.lastGm = some s.dev.ptp.offGm)
      | none => false
    (recent = true → ∃ u, exec (.acceptStep c) s = .next u ∧ u.dev.ptp = { s.dev.ptp with step := some ⟨s.dev.ptp.offset, e⟩ }) ∧
    (recent = false → ∃ u v, exec (.acceptStep c) s = .next u ∧ UnitsKept s u ∧ u.dev.ctl.out.contains (.completion c.tag .timeout 0 v) = true))

/-- GLOBAL_SNAPSHOT: every counting BAR0 page latches its counters at the epoch boundary, and the live counters go on; NOP changes no unit. -/
def Sys2Proof.Machine.GlobalSnapshot : Prop :=
  (∀ (s : State) (c : HostCmd), Accepts globalSnapshotSpec c s →
    ∃ u, exec (.globalSnapshot c) s = .next u ∧
      (∀ p ∈ countingPages, (u.dev.page p).snapHeld = true ∧ (u.dev.page p).snapTime = shortOf (s.dev.now / msT * msT)) ∧
      (∀ p ∈ countingPages, p ≠ pgPcie → ∀ k ∈ counterKeys p, tabGetD 0 u.dev.ctl.snaps k = tabGetD 0 s.dev.ctl.counters k) ∧ UnitsKept s u) ∧
  (∀ (s : State) (c : HostCmd), Accepts nopSpec c s →
    ∃ u, exec (.nop c) s = .next u ∧ UnitsKept s u ∧
      u.dev.ctl.out.contains (.completion c.tag (nopSpec.okOr c s) 0 (shortOf (effectEpoch s.dev * msT))) = true)

/-- REFCLK_LOST and REFCLK_RESTORED: the tick goes to SYS_REFCLK and back, QUARTZ is FAULTED and then ACTIVE, and the clock's reading and increment stay. -/
def Sys2Proof.Machine.RefclkFallback : Prop :=
  ∀ (s : State), s.up = true →
    exec .refclkLost s = .next (s.setDev s.dev.refclkLost) ∧ exec .refclkRestored s = .next (s.setDev s.dev.refclkRestored) ∧
    (s.dev.clk.fallback = false → ∃ u, exec .refclkLost s = .next u ∧ u.dev.clk = { s.dev.clk with fallback := true, refValid := false } ∧
      (u.dev.page pgQuartz).state = .faulted ∧ (u.dev.page pgQuartz).event.getLsbD 5 = true ∧ u.dev.ptp = s.dev.ptp) ∧
    (s.dev.clk.fallback = true → ∃ u, exec .refclkRestored s = .next u ∧ u.dev.clk = { s.dev.clk with fallback := false, refValid := true } ∧
      (u.dev.page pgQuartz).state = .active ∧ u.dev.ptp = s.dev.ptp)

/-- PPS_OUT_PULSE, PPS_IN_EDGE, PPS_IN_MISSING: a pulse of WIDTH leaves at each whole second plus OFFSET unless squelched; an edge's offset from the nearest second is kept and
raised when beyond LIMIT; an edge missing for 1.1 s since the last one, or since ENABLE was set (the model's choice, log entry 87), is raised once. -/
def Sys2Proof.Machine.PulsePerSecond : Prop :=
  ∀ (s : State), s.ready = true →
    exec .ppsOutPulse s = .next (s.setDev s.dev.ppsOutPulse) ∧ (∀ stamp, exec (.ppsInEdge stamp) s = .next (s.setDev (s.dev.ppsInEdge stamp))) ∧
    exec .ppsInMissing s = .next (s.setDev s.dev.ppsInMissing) ∧
    (bit (s.dev.reg pgQuartz 0x110) 0 = true → (s.dev.clk.ppsNext * secT : Nat) + sfld (s.dev.reg pgQuartz 0x110) 32 32 * (nsT : Int) ≤ (s.dev.now : Int) →
      s.dev.squelched (s.dev.reg pgQuartz 0x110) 1 = false →
      ∃ u, exec .ppsOutPulse s = .next u ∧ u.dev.ctl.out = s.dev.ctl.out ++ [.ppsOut (fld (s.dev.reg pgQuartz 0x110) 8 24)] ∧ u.dev.ptp = s.dev.ptp ∧
        u.dev.clk.ppsHigh = some (s.dev.now, s.dev.now + fld (s.dev.reg pgQuartz 0x110) 8 24 * usT)) ∧
    (∀ stamp : Nat, bit (s.dev.reg pgQuartz 0x120) 0 = true →
      ∃ u, exec (.ppsInEdge stamp) s = .next u ∧ u.dev.ptp = { s.dev.ptp with ppsLast := some (laneStamp stamp 0), ppsMissed := false, ppsOff := secondOffset (laneStamp stamp 0) } ∧
        (fld (s.dev.reg pgQuartz 0x120) 8 24 * nsT < (secondOffset (laneStamp stamp 0)).natAbs → (u.dev.page pgQuartz).event.getLsbD 6 = true)) ∧
    (bit (s.dev.reg pgQuartz 0x120) 0 = true → s.dev.ptp.ppsMissed = false → max (s.dev.ptp.ppsLast.getD 0) s.dev.ptp.ppsFrom + 1100 * msT < s.dev.now →
      ∃ u, exec .ppsInMissing s = .next u ∧ u.dev.ptp = { s.dev.ptp with ppsMissed := true } ∧ (u.dev.page pgQuartz).event.getLsbD 7 = true)

/-- EPOCH_BOUNDARY, BLOCK_BOUNDARY, DISPATCHER_TICK: nothing happens before the boundary has come; then the unit acts on it once and waits for the next. -/
def Sys2Proof.Machine.BoundariesAdvance : Prop :=
  ∀ (s : State), s.ready = true →
    exec .epochBoundary s = .next s.epochBoundary ∧ (∀ tdm, exec (.blockBoundary tdm) s = .next (s.setDev (s.dev.blockBoundary tdm))) ∧
    exec .dispatcherTick s = .next (s.setDev s.dev.dispatcherTick) ∧
    (s.dev.now < s.dev.clk.nextEpoch * msT → exec .epochBoundary s = .next s) ∧
    (s.dev.clk.nextEpoch * msT ≤ s.dev.now → 3 * s.dev.clk.nextEpoch < s.dev.clk.nextBlock → s.dev.ctl.accepted = [] → s.dev.ctl.groups = [] →
      s.dev.boot.restartAt = none →
      ∃ u, exec .epochBoundary s = .next u ∧ u.dev.clk.nextEpoch = s.dev.clk.nextEpoch + 1) ∧
    (∀ tdm, s.dev.now < blockAt s.dev.clk.nextBlock → exec (.blockBoundary tdm) s = .next (s.setDev s.dev)) ∧
    (∀ tdm, blockAt s.dev.clk.nextBlock ≤ s.dev.now → s.dev.clk.nextBlock ≤ 3 * s.dev.clk.nextEpoch →
      ∃ u, exec (.blockBoundary tdm) s = .next u ∧ u.dev.clk.nextBlock = s.dev.clk.nextBlock + 1 ∧ u.pending = s.pending) ∧
    (s.dev.now < s.dev.clk.nextTick * usT → exec .dispatcherTick s = .next (s.setDev s.dev)) ∧
    (s.dev.clk.nextTick * usT ≤ s.dev.now →
      ∃ u, exec .dispatcherTick s = .next u ∧ u.dev.clk.nextTick = s.dev.clk.nextTick + 1 ∧
        ∀ p, p < 138 → p ≠ pgPcie → (s.dev.page p).snapDue = some s.dev.now → (u.dev.page p).snapDue = none)

/-- The tick of the clock and the reads of its time. -/
def Obligations.ClockAndNow : Prop := TickAddsIncr ∧ NowReads

/-- PTP messages. -/
def Obligations.PtpMessages : Prop := PtpOffsets ∧ PtpDrops ∧ DelayReqSent

/-- The loss of a master, of the configuration and of the reference clock. -/
def Obligations.ClockSources : Prop := HoldoverEntered ∧ PtpCfgWritten ∧ RefclkFallback

/-- A step of the clock, and the boundaries that follow it. -/
def Obligations.StepsAndBoundaries : Prop := StepsApply ∧ BoundariesAdvance

/-- PPS and the global snapshot. -/
def Obligations.PpsAndGlobalSnapshot : Prop := GlobalSnapshot ∧ PulsePerSecond

/-! ### Legs and forwarding (chapter 4) -/

/-- LEG_OPEN, LEG_START, LEG_HOLD, LEG_RESUME, LEG_CLOSE, LEG_RELEASE, LEG_UPDATE, LEG_QUERY: an accepted command moves its leg as Table 4-1 says and leaves every
other leg as it was. -/
def Sys2Proof.Machine.LegCommands : Prop :=
  ∀ (s : State) (c : HostCmd),
    (Accepts legOpenSpec c s → ∃ u b, exec (.legOpen c) s = .next u ∧ capturePinned s.dev c.realm (c.arg 8 8) 256 = some b ∧
      u.dev.leg (c.arg 0 2) = { state := .keyed, realm := c.realm, conf := c.arg 2 2, desc := legParse b } ∧
      ∀ k, k ≠ c.arg 0 2 → u.dev.leg k = s.dev.leg k) ∧
    (Accepts legStartSpec c s → ∃ u, exec (.legStart c) s = .next u ∧
      (u.dev.leg (c.arg 0 2)).state = .active ∧ (u.dev.leg (c.arg 0 2)).est = ((s.dev.legProf (c.arg 0 2) 0x08 0 32 * 1000 : Nat) : Int) ∧
      (u.dev.leg (c.arg 0 2)).verdict = .steady ∧ (u.dev.leg (c.arg 0 2)).desc = (s.dev.leg (c.arg 0 2)).desc ∧
      ∀ k, k ≠ c.arg 0 2 → u.dev.leg k = s.dev.leg k) ∧
    (Accepts legHoldSpec c s → ∃ u, exec (.legHold c) s = .next u ∧ UnitsKept { s with dev := { s.dev with legs := u.dev.legs } } u ∧
      u.dev.leg (c.arg 0 2) = { s.dev.leg (c.arg 0 2) with state := .held, expired := false } ∧ ∀ k, k ≠ c.arg 0 2 → u.dev.leg k = s.dev.leg k) ∧
    (Accepts legResumeSpec c s → ∃ u, exec (.legResume c) s = .next u ∧
      (u.dev.leg (c.arg 0 2)).state = .active ∧ (u.dev.leg (c.arg 0 2)).est = (s.dev.leg (c.arg 0 2)).est ∧
      (u.dev.leg (c.arg 0 2)).streams = (s.dev.leg (c.arg 0 2)).streams ∧ ∀ k, k ≠ c.arg 0 2 → u.dev.leg k = s.dev.leg k) ∧
    (Accepts legCloseSpec c s → ∃ u, exec (.legClose c) s = .next u ∧ u.dev.waiting 0x0204 (c.arg 0 2) = true ∧
      u.dev.leg (c.arg 0 2) = { s.dev.leg (c.arg 0 2) with state := .draining, drainAt := s.dev.now + 20 * msT } ∧ ∀ k, k ≠ c.arg 0 2 → u.dev.leg k = s.dev.leg k) ∧
    (Accepts legReleaseSpec c s → ∃ u, exec (.legRelease c) s = .next u ∧ u.dev.leg (c.arg 0 2) = {} ∧
      (∀ n x, u.dev.inst n = some x → x.receiver ≠ c.arg 0 2 ∧ ¬ (x.kind = 0 ∧ x.src = c.arg 0 2)) ∧ ∀ k, k ≠ c.arg 0 2 → u.dev.leg k = s.dev.leg k) ∧
    (Accepts legUpdateSpec c s → ∃ u b, exec (.legUpdate c) s = .next u ∧ capturePinned s.dev c.realm (c.arg 8 8) 256 = some b ∧
      u.dev.leg (c.arg 0 2) = { s.dev.leg (c.arg 0 2) with desc := legParse b } ∧ ∀ k, k ≠ c.arg 0 2 → u.dev.leg k = s.dev.leg k) ∧
    (Accepts legQuerySpec c s → ∃ u, exec (.legQuery c) s = .next u ∧ UnitsKept s u ∧
      u.dev.ctl.out.contains (.completion c.tag (legQuerySpec.okOr c s) (s.dev.leg (c.arg 0 2)).state.code (fmkS 0 64 (s.dev.leg (c.arg 0 2)).est)) = true)

/-- STREAM_ADD, STREAM_REMOVE, SUBSCRIBE, UNSUBSCRIBE, SUBSCRIBE_SET: a stream stands at its index with the fields given, or is gone with the instances of its source; an
instance is created at a number that was free, changed in its weight, priority and ceilings alone, or freed; no other instance changes. -/
def Sys2Proof.Machine.StreamCommands : Prop :=
  ∀ (s : State) (c : HostCmd),
    (Accepts streamAddSpec c s → ∃ u x, exec (.streamAdd c) s = .next u ∧ u.dev.stream (c.arg 0 2) (c.arg 2 1) = some x ∧
      x.kind = c.arg 3 1 ∧ x.ssrc = c.arg 4 4 ∧ x.pt = c.arg 8 1 ∧ x.codec = c.arg 9 1 ∧ x.primary = c.arg 10 1 ∧ x.enc = c.arg 28 1 ∧
      (x.nack = true ↔ c.arg 11 1 % 2 = 1) ∧ (x.decode = true ↔ c.arg 11 1 / 2 % 2 = 1) ∧
      (∀ i, i ≠ c.arg 2 1 → u.dev.stream (c.arg 0 2) i = s.dev.stream (c.arg 0 2) i) ∧ ∀ k, k ≠ c.arg 0 2 → u.dev.leg k = s.dev.leg k) ∧
    (Accepts streamRemoveSpec c s → ∃ u, exec (.streamRemove c) s = .next u ∧ u.dev.stream (c.arg 0 2) (c.arg 2 1) = none ∧
      (∀ n x, u.dev.inst n = some x → ¬ (x.kind = 0 ∧ x.src = c.arg 0 2 ∧ x.sub = s.dev.sourceOf (c.arg 0 2) (c.arg 2 1))) ∧
      (∀ i, i ≠ c.arg 2 1 → u.dev.stream (c.arg 0 2) i = s.dev.stream (c.arg 0 2) i)) ∧
    (Accepts subscribeSpec c s → ∃ u n x, exec (.subscribe c) s = .next u ∧ n < 32768 ∧ u.dev.inst n = some x ∧
      x.receiver = c.arg 0 2 ∧ x.kind = c.arg 2 1 ∧ x.sub = c.arg 3 1 ∧ x.src = c.arg 4 2 ∧ x.weight = c.arg 6 1 ∧ x.prio = c.arg 7 1 ∧ x.maxS = c.arg 8 1 ∧
      x.maxT = c.arg 9 1 ∧ x.outSsrc = c.arg 12 4 ∧ x.outPt = c.arg 16 1 ∧ x.rtxPt = c.arg 17 1 ∧
      ((∃ m, m < 32768 ∧ ∀ y, (m, y) ∉ s.dev.instList) → ∀ y, (n, y) ∉ s.dev.instList) ∧ ∀ m, m ≠ n → u.dev.inst m = s.dev.inst m) ∧
    (Accepts unsubscribeSpec c s → ∃ u, exec (.unsubscribe c) s = .next u ∧ u.dev.inst (c.arg 2 2) = none ∧ (∀ m, m ≠ c.arg 2 2 → u.dev.inst m = s.dev.inst m) ∧
      u.dev.legs.legs = s.dev.legs.legs) ∧
    (∀ x, Accepts subscribeSetSpec c s → s.dev.inst (c.arg 20 2) = some x → ∃ u, exec (.subscribeSet c) s = .next u ∧
      u.dev.inst (c.arg 20 2) = some { x with weight := c.arg 6 1, prio := c.arg 7 1, maxS := c.arg 8 1, maxT := c.arg 9 1 } ∧
      (∀ m, m ≠ c.arg 20 2 → u.dev.inst m = s.dev.inst m) ∧ u.dev.legs.legs = s.dev.legs.legs)

/-- The commands of legs and streams. -/
def Obligations.LegCommandResults : Prop := LegCommands ∧ StreamCommands

/-- LEG_DRAIN_END, CONSENT_REQUEST, CONSENT_EXPIRED, FEEDBACK_LOST, NACK_SEND, PLI_SEND, REPAIR_ESCALATED, RTCP_SEND, FEEDBACK_SEND, LAYER_SUSPEND, VIDEO_WAIT_EXPIRY: what each
does to its leg once it is due. -/
def Obligations.LegEvents : Prop :=
  ∀ (s : State) (l : Nat), s.ready = true →
    (exec (.legDrainEnd l) s = .next (s.setDev (s.dev.legDrainEnd l)) ∧ (∀ txid draw, exec (.consentRequest l txid draw) s = .next (s.setDev (s.dev.consentRequest l txid draw))) ∧
      exec (.consentExpired l) s = .next (s.setDev (s.dev.consentExpired l)) ∧ exec (.feedbackLost l) s = .next (s.setDev (s.dev.feedbackLost l)) ∧
      exec (.rtcpSend l) s = .next (s.setDev (s.dev.rtcpSend l)) ∧ exec (.feedbackSend l) s = .next (s.setDev (s.dev.feedbackSend l)) ∧
      (∀ i, exec (.nackSend l i) s = .next (s.setDev (s.dev.nackSend l i)) ∧ exec (.pliSend l i) s = .next (s.setDev (s.dev.repairSend l i false)) ∧
        exec (.repairEscalated l i) s = .next (s.setDev (s.dev.repairSend l i true)) ∧ exec (.videoWaitExpiry l i) s = .next (s.setDev (s.dev.videoWaitExpiry l i))) ∧
      (∀ o k, exec (.layerSuspend l o k) s = .next (s.setDev (s.dev.layerSuspend l o k)))) ∧
    ((s.dev.leg l).state = .draining → ((s.dev.queue (s.dev.mediaQ l)).frames = [] ∧ (s.dev.queue (s.dev.repairQ l)).frames = [] ∨ (s.dev.leg l).drainAt ≤ s.dev.now) →
      ∃ u, exec (.legDrainEnd l) s = .next u ∧ (u.dev.leg l).state = .closed ∧ u.dev.waiting 0x0204 l = false ∧
        (u.dev.leg l).discarded = (s.dev.queue (s.dev.mediaQ l)).frames.length + (s.dev.queue (s.dev.repairQ l)).frames.length) ∧
    ((s.dev.leg l).state ≠ .draining → exec (.legDrainEnd l) s = .next (s.setDev s.dev)) ∧
    (∀ txid draw, (s.dev.leg l).consents = true → (s.dev.leg l).nextConsent ≤ s.dev.now → s.dev.decides = true →
      ∃ u, exec (.consentRequest l txid draw) s = .next u ∧
        (u.dev.leg l).nextConsent = s.dev.now + (4000 + min draw 1000 * 2) * msT ∧ 
        (u.dev.leg l).stunIds = (s.dev.leg l).stunIds.filter (fun e => decide (s.dev.now ≤ e.2 + 30 * secT)) ++ [(beNat ((txid ++ List.replicate 12 0).take 12), s.dev.now)]) ∧
    ((s.dev.leg l).state = .active → (s.dev.leg l).desc.consent = true → s.dev.decides = true → epochCeil ((s.dev.leg l).consentFrom + 30 * secT) ≤ s.dev.now →
      ∃ u, exec (.consentExpired l) s = .next u ∧ (u.dev.leg l).state = .held ∧ (u.dev.leg l).expired = true ∧
        (u.dev.page pgLegs).event.getLsbD 0 = true ∧ u.dev.counter pgLegs 0x0E0 = s.dev.counter pgLegs 0x0E0 + 1) ∧
    ((s.dev.leg l).state = .active → s.dev.decides = true → (s.dev.intake l (s.dev.now / msT * msT)).lastReport + s.dev.legProf l 0x18 32 16 * msT ≤ s.dev.now / msT * msT →
      ∃ u, exec (.feedbackLost l) s = .next u ∧ (u.dev.leg l).lastReport = s.dev.now / msT * msT ∧ (u.dev.leg l).est = (s.dev.estimate l (s.dev.now / msT * msT)).1.est ∧
        (u.dev.page pgLegs).event.getLsbD 2 = true) ∧
    (∀ i x, s.dev.stream l i = some x → x.nack = true → x.decode = true → s.dev.decides = true → ((s.dev.leg l).state = .active ∨ (s.dev.leg l).state = .held) →
      (x.gaps.any (s.dev.gapDue l)) = true →
      ∃ u y, exec (.nackSend l i) s = .next u ∧ u.dev.counter pgLegs 0x0A8 = s.dev.counter pgLegs 0x0A8 + 1 ∧ u.dev.stream l i = some y ∧
        y.gaps = x.gaps.map (fun g => if s.dev.gapDue l g then { g with tries := g.tries + 1, last := s.dev.now } else g)) ∧
    (∀ i x t, s.dev.stream l i = some x → x.need.since = some t → x.bound = true → s.dev.decides = true → ((s.dev.leg l).state = .active ∨ (s.dev.leg l).state = .held) →
      (s.dev.sourceStreams l i).all (fun e => e.2.need.lastSent.all (fun v => decide (v + 300 * msT ≤ s.dev.now))) = true →
      (s.dev.now < t + secT → ∃ u y, exec (.pliSend l i) s = .next u ∧ u.dev.counter pgLegs 0x0B8 = s.dev.counter pgLegs 0x0B8 + 1 ∧
        u.dev.stream l i = some y ∧ y.need.lastSent = some s.dev.now) ∧
      (t + secT ≤ s.dev.now → ∃ u y, exec (.repairEscalated l i) s = .next u ∧ u.dev.counter pgLegs 0x0C0 = s.dev.counter pgLegs 0x0C0 + 1 ∧
        u.dev.stream l i = some y ∧ y.need.firSeq = (x.need.firSeq + 1) % 256 ∧ y.need.lastSent = some s.dev.now ∧ (u.dev.page pgLegs).event.getLsbD 3 = true)) ∧
    (((s.dev.leg l).state = .active ∨ (s.dev.leg l).state = .held) → s.dev.decides = true → (s.dev.leg l).nextRtcp ≤ s.dev.now →
      ∃ u, exec (.rtcpSend l) s = .next u ∧ (u.dev.leg l).nextRtcp = (s.dev.leg l).nextRtcp + max 1 (s.dev.legProf l 0x30 32 16) * msT) ∧
    (((s.dev.leg l).state = .active ∨ (s.dev.leg l).state = .held) → s.dev.decides = true → (s.dev.leg l).nextFb ≤ s.dev.now →
      ∃ u, exec (.feedbackSend l) s = .next u ∧ (u.dev.leg l).nextFb = (s.dev.leg l).nextFb + max 1 (s.dev.legProf l 0x30 16 16) * msT) ∧
    (∀ i x a, s.dev.stream l i = some x → x.kind = 1 → (oldestPicture x.numbered).1.head? = some a →
      ((oldestPicture x.numbered).1.map (fun e => e.2.stamp)).foldl Nat.min a.2.stamp + s.dev.legProf l 0x30 0 16 * msT ≤ s.dev.now →
      exec (.videoWaitExpiry l i) s = .next (s.setDev ((s.dev.releasePicture l i (!x.whole (oldestPicture x.numbered).1)).releaseWhole 2049 l i))) ∧
    (∀ o k t, s.dev.legs.idleSince.find? (fun e => decide (e.1 = (l, o, k))) = some ((l, o, k), t) → s.dev.decides = true → t + s.dev.suspendMs l o * msT ≤ s.dev.now →
      s.dev.legs.suspended.contains (l, o, k) = false →
      ∃ u, exec (.layerSuspend l o k) s = .next u ∧ u.dev.legs.suspended = s.dev.legs.suspended ++ [(l, o, k)] ∧ u.dev.legs.legs = s.dev.legs.legs ∧
        u = s.setDev { s.dev with legs := u.dev.legs, geode := u.dev.geode } ∧
        (∀ i, s.dev.outStreams l o = [(i, s.dev.encS i)] → (s.dev.encS i).state = .running → u.dev.encLayers (s.dev.encS i) = 0 →
          (u.dev.encS i).state = .suspended))

/-- FRAME_RECEIVE: the code errors of the columns of a frame on a port that is UP are counted in their lanes, and the frame is dropped and counted by the first of its faults: a
code error, a length under 64 or over 9,220, a bad FCS, an address that the
port does not take; what passes is counted in RX_FRAMES and RX_BYTES and classified; a port that is not UP takes nothing. -/
def Sys2Proof.Machine.FrameReceive : Prop :=
  ∀ (s : State) (p stamp : Nat) (cols : List (List Sym)) (w : Nat), s.ready = true →
    exec (.frameReceive p stamp cols w) s = .next (s.setDev (s.dev.frameReceive p stamp cols w)) ∧
    ((∀ c ∈ cols, ∀ x ∈ c, symError x = false) → s.dev.codeErrors p cols = s.dev) ∧
    ((decide (p < 8) && (s.dev.plink p).up) = false → exec (.frameReceive p stamp cols w) s = .next (s.setDev s.dev)) ∧
    (p < 8 → (s.dev.plink p).up = true →
      (frameOf cols = none → exec (.frameReceive p stamp cols w) s = .next (s.setDev ((s.dev.codeErrors p cols).inc (pgPort p) 0x0A8))) ∧
      ∀ f, frameOf cols = some f →
      (f.length < 64 → exec (.frameReceive p stamp cols w) s = .next (s.setDev ((s.dev.codeErrors p cols).inc (pgPort p) 0x098))) ∧
      (9220 < f.length → exec (.frameReceive p stamp cols w) s = .next (s.setDev ((s.dev.codeErrors p cols).inc (pgPort p) 0x0A0))) ∧
      (64 ≤ f.length → f.length ≤ 9220 → leAt f (f.length - 4) 4 ≠ crc32 (f.take (f.length - 4)) →
        exec (.frameReceive p stamp cols w) s = .next (s.setDev ((s.dev.codeErrors p cols).inc (pgPort p) 0x090))) ∧
      (64 ≤ f.length → f.length ≤ 9220 → leAt f (f.length - 4) 4 = crc32 (f.take (f.length - 4)) →
        s.dev.macTakes p (ethParse (f.take (f.length - 4))).dst = false →
        ∃ u, exec (.frameReceive p stamp cols w) s = .next u ∧ UnitsKept s u ∧ u.dev.counter (pgPort p) 0x0B0 = s.dev.counter (pgPort p) 0x0B0 + 1 ∧
          u.dev.counter (pgPort p) 0x070 = s.dev.counter (pgPort p) 0x070 + 1) ∧
      (64 ≤ f.length → f.length ≤ 9220 → leAt f (f.length - 4) 4 = crc32 (f.take (f.length - 4)) →
        s.dev.macTakes p (ethParse (f.take (f.length - 4))).dst = true → (ethParse (f.take (f.length - 4))).badTag = false →
        (ethParse (f.take (f.length - 4))).etype ≠ 0x8808 →
        exec (.frameReceive p stamp cols w) s =
          .next (s.setDev ((((s.dev.codeErrors p cols).inc (pgPort p) 0x070).bump (pgPort p) 0x078 f.length).classify167 p stamp (f.take (f.length - 4)) w))))

/-- A datagram of a leg: RTP is dropped and counted while the leg is KEYED, and everything is dropped while it drains or is CLOSED; every datagram of the leg is counted. -/
def Sys2Proof.Machine.LegDatagrams : Prop :=
  ∀ (d : Dev) (l p : Nat) (stamp : Time) (f data : List Byte) (w : Nat),
    (((d.leg l).state = .draining ∨ (d.leg l).state = .closed) →
      d.legDatagram l p stamp f data w = ({ d with legs := { d.legs with waiting := w } }.inc pgLegs 0x070).onLeg l (fun x => { x with pktsRx := x.pktsRx + 1, bytesRx := x.bytesRx + f.length + 4 })) ∧
    ((d.leg l).state = .keyed → data ≠ [] → 128 ≤ beAt data 0 1 → beAt data 0 1 ≤ 191 →
      (d.legDatagram l p stamp f data w).counter pgLegs 0x088 = d.counter pgLegs 0x088 + 1 ∧
      (d.legDatagram l p stamp f data w).egress = d.egress ∧ ((d.legDatagram l p stamp f data w).leg l).pktsRx = (d.leg l).pktsRx + 1)

/-- STATS_CFG_WRITE and BUF_BASE_WRITE: ENABLE goes to 1 only over a region PINNED in realm 0, and is otherwise left 0 and counted with BAD_STATE. -/
def Obligations.RegionEnables : Prop :=
  ∀ (s : State) (v : Word), Writable s pgLegs →
    (bit (s.dev.reg pgLegs 0x050) 0 = false → bit v 0 = true →
      ∃ u, exec (.statsCfgWrite v) s = .next u ∧ bit (u.dev.reg pgLegs 0x050) 0 = s.dev.pinned 0 (fld (s.dev.reg pgLegs 0x058) 16 32 * 65536) 262144 ∧
        (∀ o, o < 4096 → o ≠ 0x050 → u.dev.reg pgLegs o = s.dev.reg pgLegs o)) ∧
    (bit (s.dev.reg pgLegs 0x060) 0 = false → bit v 0 = true → fld v 16 32 = fld (s.dev.reg pgLegs 0x060) 16 32 →
      ∃ u, exec (.bufBaseWrite v) s = .next u ∧
        bit (u.dev.reg pgLegs 0x060) 0 = s.dev.pinned 0 (fld v 16 32 * 65536) (max 1 (fld (s.dev.reg pgLegs 0x068) 0 16) * 1073741824) ∧
        fld (u.dev.reg pgLegs 0x060) 16 32 = fld v 16 32)

/-- Frames received and the datagrams of a leg. -/
def Obligations.FramesAndDatagrams : Prop := FrameReceive ∧ LegDatagrams

/-! ### Geode (chapters 5 and 6) -/

/-- ENC_STREAM_OPEN, ENC_STREAM_CLOSE, ENC_STREAM_UPDATE, ENC_REFRESH, ENC_QUERY, ENC_SUBMIT: what an accepted command makes of its stream; no other stream changes. -/
def Sys2Proof.Machine.EncCommands : Prop :=
  ∀ (s : State) (c : HostCmd),
    (Accepts encStreamOpenSpec c s → ∃ u b n, exec (.encStreamOpen c) s = .next u ∧ capturePinned s.dev c.realm (c.arg 8 8) 128 = some b ∧
      (u.dev.encS (c.arg 0 2)).state = .opened ∧ (u.dev.encS (c.arg 0 2)).realm = c.realm ∧ (u.dev.encS (c.arg 0 2)).jobs = [] ∧
      (u.dev.encS (c.arg 0 2)).desc = encParse b (if leAt b 0 1 = 0 then some ((s.dev.layout (leAt b 2 2)).rateNum, (s.dev.layout (leAt b 2 2)).rateDen) else none) ∧
      (u.dev.encS (c.arg 0 2)).engine = n ∧
      s.dev.geFits (u.dev.encS (c.arg 0 2)).desc.kindOk (u.dev.encS (c.arg 0 2)).desc.cost n = true ∧
      ∀ k, k ≠ c.arg 0 2 → u.dev.encS k = s.dev.encS k) ∧
    (Accepts encStreamCloseSpec c s → (s.dev.encS (c.arg 0 2)).jobs = [] →
      ∃ u, exec (.encStreamClose c) s = .next u ∧ u.dev.encS (c.arg 0 2) = {} ∧ ∀ k, k ≠ c.arg 0 2 → u.dev.encS k = s.dev.encS k) ∧
    (∀ j, Accepts encStreamCloseSpec c s → (s.dev.encS (c.arg 0 2)).jobs.head? = some j → j.started = true → j.fault = none →
      ∃ u, exec (.encStreamClose c) s = .next u ∧ (u.dev.encS (c.arg 0 2)).state = .closing ∧ u.dev.waiting 0x0301 (c.arg 0 2) = true ∧
        ∀ k, k ≠ c.arg 0 2 → u.dev.encS k = s.dev.encS k) ∧
    (Accepts encStreamUpdateSpec c s → ∃ u b, exec (.encStreamUpdate c) s = .next u ∧ capturePinned s.dev c.realm (c.arg 8 8) 128 = some b ∧
      let e : EncDesc := { (s.dev.encS (c.arg 0 2)).desc with
        rcMode := leAt b 22 1, cqQp := leAt b 23 1, qpMin := leAt b 24 1, qpMax := leAt b 25 1, vbvMs := leAt b 26 2,
        minK := [leAt b 28 4, leAt b 32 4, leAt b 36 4], maxK := [leAt b 40 4, leAt b 44 4, leAt b 48 4], refreshN := leAt b 58 1, priority := leAt b 60 1 }
      u.dev.encS (c.arg 0 2) = { s.dev.encS (c.arg 0 2) with desc := e, level := e.levelWritten.getD (s.dev.encS (c.arg 0 2)).level } ∧
      ∀ k, k ≠ c.arg 0 2 → u.dev.encS k = s.dev.encS k) ∧
    (Accepts encRefreshSpec c s → ∃ u, exec (.encRefresh c) s = .next u ∧ u.dev.encS (c.arg 0 2) = { s.dev.encS (c.arg 0 2) with trigger := true } ∧
      ∀ k, k ≠ c.arg 0 2 → u.dev.encS k = s.dev.encS k) ∧
    (Accepts encQuerySpec c s → ∃ u, exec (.encQuery c) s = .next u ∧ UnitsKept s u ∧
      u.dev.ctl.out.contains (.completion c.tag (encQuerySpec.okOr c s) (s.dev.encS (c.arg 0 2)).state.code (fmk 0 64 (s.dev.encS (c.arg 0 2)).lastBits)) = true) ∧
    (Accepts encSubmitSpec c s → ∃ u, exec (.encSubmit c) s = .next u ∧
      (u.dev.encS (c.arg 0 2)).jobs.length = (s.dev.encS (c.arg 0 2)).jobs.length + c.arg 2 1 ∧
      (u.dev.encS (c.arg 0 2)).jobs.take (s.dev.encS (c.arg 0 2)).jobs.length = (s.dev.encS (c.arg 0 2)).jobs ∧
      ∀ k, k ≠ c.arg 0 2 → u.dev.encS k = s.dev.encS k)

/-- DEC_STREAM_OPEN, DEC_STREAM_CLOSE, DEC_QUERY, DEC_SUBMIT: the same for decode streams. -/
def Sys2Proof.Machine.DecCommands : Prop :=
  ∀ (s : State) (c : HostCmd),
    (Accepts decStreamOpenSpec c s → ∃ u b, exec (.decStreamOpen c) s = .next u ∧ capturePinned s.dev c.realm (c.arg 8 8) 128 = some b ∧
      (u.dev.decS (c.arg 0 2)).state = .opened ∧ (u.dev.decS (c.arg 0 2)).realm = c.realm ∧ (u.dev.decS (c.arg 0 2)).jobs = [] ∧
      (u.dev.decS (c.arg 0 2)).desc = decParse b ∧
      s.dev.geFits (decParse b).kindOk ((decParse b).cost / 2) (u.dev.decS (c.arg 0 2)).engine = true ∧
      ∀ k, k ≠ c.arg 0 2 → u.dev.decS k = s.dev.decS k) ∧
    (Accepts decStreamCloseSpec c s → (s.dev.decS (c.arg 0 2)).jobs = [] →
      ∃ u, exec (.decStreamClose c) s = .next u ∧ u.dev.decS (c.arg 0 2) = {} ∧ ∀ k, k ≠ c.arg 0 2 → u.dev.decS k = s.dev.decS k) ∧
    (∀ j, Accepts decStreamCloseSpec c s → (s.dev.decS (c.arg 0 2)).jobs.head? = some j → j.started = true → j.fault = none →
      ∃ u, exec (.decStreamClose c) s = .next u ∧ (u.dev.decS (c.arg 0 2)).state = .closing ∧ u.dev.waiting 0x0401 (c.arg 0 2) = true) ∧
    (Accepts decQuerySpec c s → ∃ u, exec (.decQuery c) s = .next u ∧ UnitsKept s u ∧
      u.dev.ctl.out.contains (.completion c.tag (decQuerySpec.okOr c s) (s.dev.decS (c.arg 0 2)).state.code (s.dev.decS (c.arg 0 2)).lastTime) = true) ∧
    (Accepts decSubmitSpec c s → ∃ u, exec (.decSubmit c) s = .next u ∧ (u.dev.decS (c.arg 0 2)).state = .running ∧
      (u.dev.decS (c.arg 0 2)).jobs.length = (s.dev.decS (c.arg 0 2)).jobs.length + c.arg 2 1 ∧
      (u.dev.decS (c.arg 0 2)).jobs.take (s.dev.decS (c.arg 0 2)).jobs.length = (s.dev.decS (c.arg 0 2)).jobs ∧
      ∀ k, k ≠ c.arg 0 2 → u.dev.decS k = s.dev.decS k)

/-- The commands of encode and decode streams. -/
def Obligations.GeodeStreamCommands : Prop := EncCommands ∧ DecCommands

/-- ENC_JOB_START, ENC_JOB_DONE, DEC_JOB_START, DEC_JOB_DONE, GEODE_PREEMPT: a stream's oldest job enters service on its engine when it may start; when it is done it leaves the
stream and the engine is free; a job is saved at a row when a strictly higher level is ready and a save slot is free. -/
def Sys2Proof.Machine.GeodeJobs : Prop :=
  (∀ (s : State) (i : Nat), s.ready = true →
    exec (.encJobStart i) s = .next (s.setDev (s.dev.encStart i)) ∧ exec (.encJobDone i) s = .next (s.setDev (s.dev.encDone i)) ∧
    exec (.decJobStart i) s = .next (s.setDev (s.dev.decStart i)) ∧ (∀ r, exec (.decJobDone i r) s = .next (s.setDev (s.dev.decDone i r).micaResolveAll)) ∧
    (∀ j, (s.dev.encS i).jobs.head? = some j → s.dev.geMayStart (s.dev.encS i).engine false i (fun c => c.dec || s.dev.encSpace c.stream) = false →
      exec (.encJobStart i) s = .next (s.setDev s.dev)) ∧
    (∀ j e row, (s.dev.encS i).jobs.head? = some j → s.dev.geMayStart (s.dev.encS i).engine false i (fun c => c.dec || s.dev.encSpace c.stream) = true →
      s.dev.encSource (s.dev.encS i) j = some (e, row) → s.dev.geSaved (s.dev.encS i).engine < 64 →
      ∃ u k, exec (.encJobStart i) s = .next u ∧ u.dev.geRun (s.dev.encS i).engine = s.dev.geRun (s.dev.encS i).engine ∧ (u.dev.encS i).jobs.head? = some k ∧
        k.fault.isSome = true ∧ k.saved = some (0, row) ∧ k.started = true)) ∧
  (∀ (s : State) (l layer row : Nat), s.up = true → exec (.geodePreempt l layer row) s = .next (s.setDev (s.dev.preempt l layer row))) ∧
  (∀ (s : State) (i : Nat) (j : EncJob), s.ready = true → (s.dev.encS i).jobs.head? = some j →
    s.dev.geMayStart (s.dev.encS i).engine false i (fun c => c.dec || s.dev.encSpace c.stream) = true → s.dev.encSource (s.dev.encS i) j = none →
    ∃ u k, exec (.encJobStart i) s = .next u ∧ u.dev.geRun (s.dev.encS i).engine = some ⟨false, i, (j.saved.getD (0, 0)).1, (j.saved.getD (0, 0)).2⟩ ∧
      (u.dev.encS i).jobs.head? = some k ∧ k.started = true ∧ k.saved = none ∧ k.time = j.time ∧
      (j.coded = true → k = { j with started := true, saved := none }) ∧ (j.coded = false → k.coded = true ∧ k.bytes.length = j.layers)) ∧
  (∀ (s : State) (i : Nat) (j : EncJob) (r : GeRun), s.ready = true → (s.dev.encS i).jobs.head? = some j → j.last = false →
    s.dev.geRun (s.dev.encS i).engine = some r → r.dec = false → r.stream = i → (s.dev.encS i).state = .running →
    (s.dev.servers (s.dev.encS i).engine).all (fun p => decide ((s.dev.page (pgGeode p)).state ≠ .faulted)) = true →
    ∃ u, exec (.encJobDone i) s = .next u ∧ u.dev.geRun (s.dev.encS i).engine = none ∧ (u.dev.encS i).jobs = (s.dev.encS i).jobs.drop 1 ∧
      (u.dev.encS i).ring.idx = ((s.dev.encS i).ring.idx + 1) % 256) ∧
  (∀ (s : State) (i : Nat) (j : DecJob), s.ready = true → (s.dev.decS i).jobs.head? = some j → (s.dev.decS i).desc.source = 0 →
    s.dev.geMayStart (s.dev.decS i).engine true i (fun c => !c.dec || ((s.dev.decSurface c.stream).isSome && ((s.dev.decS c.stream).desc.source == 0 ||
      !s.dev.statusFull (s.dev.decS c.stream).realm (s.dev.decS c.stream).ring (s.dev.decS c.stream).desc.consumer))) = true →
    ∃ u k, exec (.decJobStart i) s = .next u ∧ u.dev.geRun (s.dev.decS i).engine = some ⟨true, i, 0, j.saved.getD 0⟩ ∧
      (u.dev.decS i).jobs.head? = some k ∧ k.started = true ∧ k.saved = none) ∧
  (∀ (s : State) (i : Nat) (r : DecIn) (j : DecJob) (g : GeRun), s.ready = true → (s.dev.decS i).jobs.head? = some j → j.last = false →
    s.dev.geRun (s.dev.decS i).engine = some g → g.dec = true → g.stream = i → (s.dev.decS i).state = .running → (s.dev.decSurface i).isSome = true →
    (s.dev.servers (s.dev.decS i).engine).all (fun p => decide ((s.dev.page (pgGeode p)).state ≠ .faulted)) = true →
    ∃ u, exec (.decJobDone i r) s = .next u ∧ u.dev.geRun (s.dev.decS i).engine = none ∧ (u.dev.decS i).jobs = (s.dev.decS i).jobs.drop 1 ∧
      (u.dev.decS i).ring.idx = ((s.dev.decS i).ring.idx + 1) % 256) ∧
  (∀ (s : State) (l layer row : Nat) (r : GeRun) (c : Cand), s.up = true → s.dev.geRun l = some r → (s.dev.geReady l).head? = some c → s.dev.geSaved l < 64 →
    c.level < (if r.dec then (s.dev.decS r.stream).desc.priority else match (s.dev.encS r.stream).jobs.head? with
      | some j => ((s.dev.encS r.stream).jobDesc j).priority
      | none => (s.dev.encS r.stream).desc.priority) → s.dev.geServed l = true →
    ∃ u, exec (.geodePreempt l layer row) s = .next u ∧ u.dev.geRun l = none ∧
      (r.dec = false → (u.dev.encS r.stream).jobs.head?.map EncJob.saved = (s.dev.encS r.stream).jobs.head?.map (fun _ => some (layer, row))) ∧
      (r.dec = true → (u.dev.decS r.stream).jobs.head?.map DecJob.saved = (s.dev.decS r.stream).jobs.head?.map (fun _ => some row)))

/-- The marks of a decoded picture: one that names no other picture and loses no CTU is not tainted; one with a missing reference is a stand-in and tainted with cause 1. A
unit of a sequence that the engines do not decode is discarded and counted, and one whose header is damaged counts as never received. -/
def Sys2Proof.Machine.DecodeMarks : Prop :=
  ∀ (d : Dev) (i : Nat) (r : DecIn) (j : DecJob) (g : GeRun), (d.decS i).jobs.head? = some j → j.last = false → (d.decS i).state = .running →
    d.geRun (d.decS i).engine = some g → g.dec = true → g.stream = i → (d.servers (d.decS i).engine).all (fun p => decide ((d.page (pgGeode p)).state ≠ .faulted)) = true →
    (∀ y sf, decUnsupported (d.decS i) r = false → (d.decS i).unsupported = false → r.header = 0 → r.layers = [y] → y.sid ≤ (d.decS i).desc.maxS → y.tid ≤ (d.decS i).desc.maxT →
      d.decSurface i = some sf →
      (y.intra = true → (layerLost y (d.decS i).desc.codec).1 = [] →
        ((d.decDone i r).decS i).tainted = false ∧ ((d.decDone i r).decS i).latest.map DecPic.surface = some sf) ∧
      (y.intra = false → (d.decS i).desc.codec = 0x10 → y.refs.any (fun n => (d.decS i).dpb.all (fun p => p.num != n)) = true →
        ((d.decDone i r).decS i).tainted = true ∧ ((d.decDone i r).decS i).latest.map DecPic.tainted = some true)) ∧
    (decUnsupported (d.decS i) r = true → r.header = 0 →
      ((d.decDone i r).decS i).unsupported = true ∧ ((d.decDone i r).decS i).latest = (d.decS i).latest ∧ ((d.decDone i r).decS i).jobs = (d.decS i).jobs.drop 1 ∧
      (d.decDone i r).counter (pgGeode (d.geUnitOf (d.decS i).engine)) 0x148 = d.counter (pgGeode (d.geUnitOf (d.decS i).engine)) 0x148 + 1) ∧
    ((d.decS i).unsupported = false → r.header ≠ 0 →
      ((d.decDone i r).decS i).lostPic = true ∧ ((d.decDone i r).decS i).latest = (d.decS i).latest ∧ ((d.decDone i r).decS i).dpb = (d.decS i).dpb ∧
      ((d.decDone i r).decS i).jobs = (d.decS i).jobs.drop 1)

/-- GEODE_TWIN, GEODE_UNTWIN, GEODE_SWAP, GEODE_SWAP_MOVE, GEODE_LINK_ERROR, ENGINE_FAULT, and ISOLATE of a GEODE page. -/
def Obligations.GeodeEngines : Prop :=
  (∀ (s : State) (c : HostCmd), Accepts geodeTwinSpec c s →
    ∃ u, exec (.geodeTwin c) s = .next u ∧ (u.dev.geUnit (2 * c.arg 0 1)).twinned = true ∧ (u.dev.geUnit (2 * c.arg 0 1 + 1)).twinned = true ∧
      ∀ p, p ≠ 2 * c.arg 0 1 → p ≠ 2 * c.arg 0 1 + 1 → u.dev.geUnit p = s.dev.geUnit p) ∧
  (∀ (s : State) (c : HostCmd), Accepts geodeUntwinSpec c s →
    ∃ u, exec (.geodeUntwin c) s = .next u ∧ (u.dev.geUnit (2 * c.arg 0 1)).twinned = false ∧ (u.dev.geUnit (2 * c.arg 0 1 + 1)).twinned = false ∧
      ∀ p, p ≠ 2 * c.arg 0 1 → p ≠ 2 * c.arg 0 1 + 1 → u.dev.geUnit p = s.dev.geUnit p) ∧
  (∀ (s : State) (c : HostCmd) (t : Nat), Accepts geodeSwapSpec c s → s.dev.swapChoose (c.arg 0 1) (c.arg 1 1) = some t →
    ∃ u, exec (.geodeSwap c) s = .next u ∧
      (((s.dev.geRun (c.arg 0 1)).isSome && s.dev.geFinishes (c.arg 0 1)) = true → u.dev.geode.swaps = s.dev.geode.swaps ++ [⟨c.arg 0 1, t⟩] ∧ u.dev.geode.units = s.dev.geode.units) ∧
      (∀ a, ((s.dev.geRun (c.arg 0 1)).isSome && s.dev.geFinishes (c.arg 0 1)) = false → s.dev.servers (c.arg 0 1) = [a] →
        (u.dev.geUnit t).logical = (s.dev.geUnit a).logical ∧ (u.dev.geUnit a).logical = none ∧
        (u.dev.page (pgGeode a)).state = .isolated ∧ (u.dev.page (pgGeode a)).isolate = true)) ∧
  (∀ (s : State) (x : GeSwap) (a : Nat), s.up = true → s.dev.geode.swaps.find? (fun y => y.logical == x.logical) = some x → ((s.dev.geRun x.logical).isSome && s.dev.geFinishes x.logical) = false →
    s.dev.servers x.logical = [a] → x.target ≠ a →
    ∃ u, exec (.geodeSwapMove x.logical) s = .next u ∧ (u.dev.geUnit x.target).logical = (s.dev.geUnit a).logical ∧ (u.dev.geUnit a).logical = none ∧
      u.dev.geode.swaps = s.dev.geode.swaps.filter (fun y => y.logical != x.logical)) ∧
  (∀ (s : State) (k : Nat), s.up = true → k < 17 → (s.dev.geUnit (2 * k)).twinned = true →
    exec (.geodeLinkError k true) s = .next (s.setDev (s.dev.inc (pgGeode (2 * k)) 0x168)) ∧
    ∃ u, exec (.geodeLinkError k false) s = .next u ∧ (u.dev.page (pgGeode (2 * k))).state = .faulted ∧ (u.dev.page (pgGeode (2 * k + 1))).state = .faulted ∧
      ∀ q, q ≠ pgGeode (2 * k) → q ≠ pgGeode (2 * k + 1) → u.dev.page q = s.dev.page q) ∧
  (∀ (s : State), s.up = true →
    (∀ k corrected, 17 ≤ k ∨ (s.dev.geUnit (2 * k)).twinned = false → exec (.geodeLinkError k corrected) s = .next (s.setDev s.dev)) ∧
    (∀ l, s.dev.geode.swaps.find? (fun y => y.logical == l) = none → exec (.geodeSwapMove l) s = .next (s.setDev s.dev)) ∧
    (∀ l x, s.dev.geode.swaps.find? (fun y => y.logical == l) = some x → ((s.dev.geRun l).isSome && s.dev.geFinishes l) = true →
      exec (.geodeSwapMove l) s = .next (s.setDev s.dev)) ∧
    (∀ p, 34 ≤ p ∨ (s.dev.page (pgGeode p)).state = .off → exec (.engineFault p) s = .next (s.setDev s.dev))) ∧
  (∀ (s : State) (p : Nat), s.up = true → p < 34 → (s.dev.page (pgGeode p)).state ≠ .off →
    ∃ u, exec (.engineFault p) s = .next u ∧ PageBecomes s u (pgGeode p) { s.dev.page (pgGeode p) with state := .faulted }) ∧
  (∀ (s : State) (p : Nat), Reaches s (pgGeode p) → p < 34 → (s.dev.page (pgGeode p)).state = .ready → (s.dev.page (pgGeode p)).isolate = false →
    (∀ l, s.dev.geLogical p = some l → s.dev.geRun l = none) →
    ∃ u, exec (.pageIsolate (pgGeode p) true) s = .next u ∧ PageBecomes s u (pgGeode p) { s.dev.page (pgGeode p) with isolate := true, state := .isolated })

/-- Geode's jobs and marks. -/
def Obligations.GeodeWork : Prop := GeodeJobs ∧ DecodeMarks

/-! ### Mica (chapter 7) -/

/-- The commands of layouts and stills: an accepted command makes of its layout, bank or still what Table 7-5 says and leaves every other one as it was. -/
def Obligations.MicaCommands : Prop :=
  ∀ (s : State) (c : HostCmd),
    (Accepts layoutOpenSpec c s → ∃ u b, exec (.layoutOpen c) s = .next u ∧ capturePinned s.dev 0 (c.arg 8 8) 128 = some b ∧
      u.dev.layout (c.arg 0 2) = { layoutParse b with state := .opened, tickNo := (layoutParse b).tickCeil s.dev.now } ∧
      ∀ k, k ≠ c.arg 0 2 → u.dev.layout k = s.dev.layout k) ∧
    (Accepts layoutStartSpec c s → ∃ u, exec (.layoutStart c) s = .next u ∧ (u.dev.layout (c.arg 0 2)).state = .running ∧
      (u.dev.layout (c.arg 0 2)).tickNo = (s.dev.layout (c.arg 0 2)).tickCeil s.dev.now ∧ (u.dev.layout (c.arg 0 2)).comp = none ∧
      (∀ o, o ∈ (u.dev.layout (c.arg 0 2)).outs → o.seq = 0 ∧ o.unread = []) ∧ (∀ b, (u.dev.layout (c.arg 0 2)).bank b = (s.dev.layout (c.arg 0 2)).bank b) ∧
      u.dev.ctl.out.contains (.completion c.tag (layoutStartSpec.okOr c s) 0 (shortOf ((s.dev.layout (c.arg 0 2)).tickAt ((s.dev.layout (c.arg 0 2)).tickCeil s.dev.now)))) = true ∧
      ∀ k, k ≠ c.arg 0 2 → u.dev.layout k = s.dev.layout k) ∧
    (Accepts layoutStopSpec c s → ∃ u, exec (.layoutStop c) s = .next u ∧ u.dev.layout (c.arg 0 2) = { s.dev.layout (c.arg 0 2) with state := .opened } ∧
      ∀ k, k ≠ c.arg 0 2 → u.dev.layout k = s.dev.layout k) ∧
    (Accepts layoutCloseSpec c s → ∃ u, exec (.layoutClose c) s = .next u ∧ u.dev.layout (c.arg 0 2) = {} ∧
      (∀ h, h ∈ u.dev.xlat.holds → ¬ (h.kind = holdLayout ∧ h.obj = c.arg 0 2)) ∧ ∀ k, k ≠ c.arg 0 2 → u.dev.layout k = s.dev.layout k) ∧
    (Accepts layerLoadSpec c s → ∃ u b, exec (.layerLoad c) s = .next u ∧ capturePinned s.dev 0 (c.arg 8 8) (64 * c.arg 4 1) = some b ∧
      (∀ j, tabGetD {} ((u.dev.layout (c.arg 0 2)).bank (c.arg 2 1)) j =
        if c.arg 3 1 ≤ j ∧ j < c.arg 3 1 + c.arg 4 1 then layEntryParse ((b.drop (64 * (j - c.arg 3 1))).take 64) else tabGetD {} ((s.dev.layout (c.arg 0 2)).bank (c.arg 2 1)) j) ∧
      (u.dev.layout (c.arg 0 2)).bank (1 - c.arg 2 1) = (s.dev.layout (c.arg 0 2)).bank (1 - c.arg 2 1) ∧ ∀ k, k ≠ c.arg 0 2 → u.dev.layout k = s.dev.layout k) ∧
    (Accepts layoutFlipSpec c s → ∃ u, exec (.layoutFlip c) s = .next u ∧ u.dev.activeBank (c.arg 0 2) = c.arg 2 1 ∧
      (∀ k, k < 256 → k ≠ c.arg 0 2 → u.dev.activeBank k = s.dev.activeBank k) ∧ u.dev.mica = s.dev.mica) ∧
    (Accepts layerBypassSpec c s → ∃ u, exec (.layerBypass c) s = .next u ∧
      (∀ n, n ∈ (u.dev.layout (c.arg 0 2)).bypass ↔ (if n = c.arg 2 1 then c.arg 3 1 = 1 else n ∈ (s.dev.layout (c.arg 0 2)).bypass)) ∧
      (∀ b, (u.dev.layout (c.arg 0 2)).bank b = (s.dev.layout (c.arg 0 2)).bank b) ∧ ∀ k, k ≠ c.arg 0 2 → u.dev.layout k = s.dev.layout k) ∧
    (Accepts stillLoadSpec c s → ∃ u, exec (.stillLoad c) s = .next u ∧
      tabGetD {} u.dev.mica.stills (c.arg 0 2) =
        ⟨true, c.arg 2 1, c.arg 4 2, c.arg 6 2, c.arg 8 4, (tabGetD {} s.dev.mica.stills (c.arg 0 2)).gen + 1⟩ ∧
      (∀ k, k ≠ c.arg 0 2 → tabGetD {} u.dev.mica.stills k = tabGetD {} s.dev.mica.stills k) ∧ u.dev.mica.layouts = s.dev.mica.layouts) ∧
    (Accepts layoutQuerySpec c s → ∃ u, exec (.layoutQuery c) s = .next u ∧ UnitsKept s u ∧
      u.dev.ctl.out.contains (.completion c.tag (layoutQuerySpec.okOr c s) (s.dev.layout (c.arg 0 2)).state.code (s.dev.layout (c.arg 0 2)).lastTick) = true)

/-- PICTURE_TICK, SOURCE_LATE, MICA_PICTURE_DONE, MICA_INTERNAL_FAULT and STILL_BASE_WRITE: at its tick a RUNNING layout takes its 64 entries from the active bank with the
bypassed ones hidden; half a period later a waiting entry shows what it showed at the tick before; a picture that is done writes its SEQUENCE and is counted. -/
def Obligations.MicaEvents : Prop :=
  (∀ (s : State) (l : Nat), s.ready = true →
    exec (.pictureTick l) s = .next (s.setDev (s.dev.pictureTick l)) ∧ exec (.micaPictureDone l) s = .next (s.setDev (s.dev.micaDone l)) ∧
    ((s.dev.layout l).state = .idle ∨ s.dev.now < (s.dev.layout l).actAt (s.dev.layout l).tickNo → exec (.pictureTick l) s = .next (s.setDev s.dev)) ∧
    ((s.dev.layout l).comp = none → exec (.micaPictureDone l) s = .next (s.setDev s.dev)) ∧
    (∀ e, (s.dev.layout l).comp = none → exec (.sourceLate l e) s = .next (s.setDev s.dev)) ∧
    (∀ e cp, (s.dev.layout l).comp = some cp → exec (.sourceLate l e) s =
      .next (s.setDev (if cp.tick + (s.dev.layout l).rateDen * secT / max 1 (s.dev.layout l).rateNum / 2 ≤ s.dev.now then s.dev.sourceLate l e else s.dev)))) ∧
  (∀ (s : State) (l : Nat), s.ready = true → (s.dev.layout l).state ≠ .idle → (s.dev.layout l).actAt (s.dev.layout l).tickNo ≤ s.dev.now →
    (s.dev.layout l).tickAt (s.dev.layout l).tickNo < s.dev.clk.nextEpoch * msT →
    ∃ u, exec (.pictureTick l) s = .next u ∧ (u.dev.layout l).tickNo = (s.dev.layout l).tickNo + 1 ∧
      ((s.dev.layout l).state = .running → s.dev.ctl.groups = [] → (s.dev.page (pgMica (s.dev.layout l).pipe)).state = .ready →
        ∃ cp, (u.dev.layout l).comp = some cp ∧ cp.tick = (s.dev.layout l).tickAt (s.dev.layout l).tickNo ∧ cp.bank = s.dev.activeBank l ∧
          cp.entries = (List.range 64).map (fun i =>
            if (s.dev.layout l).bypass.contains i then
              { tabGetD {} ((s.dev.layout l).bank (s.dev.activeBank l)) i with flags := (tabGetD {} ((s.dev.layout l).bank (s.dev.activeBank l)) i).flags / 2 * 2 }
            else tabGetD {} ((s.dev.layout l).bank (s.dev.activeBank l)) i))) ∧
  (∀ (s : State) (l e : Nat) (cp : Composing), s.ready = true → (s.dev.layout l).comp = some cp → cp.choices[e]? = some .waits → cp.written = false →
    cp.entries.length = cp.choices.length →
    cp.tick + (s.dev.layout l).rateDen * secT / max 1 (s.dev.layout l).rateNum / 2 ≤ s.dev.now →
    ∃ u cq, exec (.sourceLate l e) s = .next u ∧ (u.dev.layout l).comp = some cq ∧ cq.tick = cp.tick ∧
      cq.choices[e]? = some (.made (match nthD Shown.fill (s.dev.layout l).prevShown e with | .hidden => .fill | x => x)) ∧
      u.dev.counter (pgMica (s.dev.layout l).pipe) 0x070 = s.dev.counter (pgMica (s.dev.layout l).pipe) 0x070 + 1 ∧
      ∀ k, k ≠ l → u.dev.layout k = s.dev.layout k) ∧
  (∀ (s : State) (l : Nat) (cp : Composing), s.ready = true → (s.dev.layout l).comp = some cp → cp.written = true →
    ∃ u, exec (.micaPictureDone l) s = .next u ∧ (u.dev.layout l).comp = none ∧ (u.dev.layout l).lastTick = shortOf cp.tick ∧
      (u.dev.layout l).prevEntries = cp.entries ∧ (u.dev.layout l).prevShown = cp.choices.map Choice.shown ∧
      u.dev.counter (pgMica (s.dev.layout l).pipe) 0x068 = s.dev.counter (pgMica (s.dev.layout l).pipe) 0x068 + 1 ∧
      ∀ k, k ≠ l → u.dev.layout k = s.dev.layout k) ∧
  (∀ (s : State) (i : Nat), s.up = true → 2 ≤ i ∨ (s.dev.page (pgMica i)).state = .off → exec (.micaInternalFault i) s = .next (s.setDev s.dev)) ∧
  (∀ (s : State) (i : Nat), s.up = true → i < 2 → (s.dev.page (pgMica i)).state ≠ .off →
    ∃ u, exec (.micaInternalFault i) s = .next u ∧ PageBecomes s u (pgMica i) { s.dev.page (pgMica i) with state := .faulted }) ∧
  (∀ (s : State) (v : Word), Writable s (pgMica 0) → bit (s.dev.reg (pgMica 0) 0x058) 0 = false → bit v 0 = true →
    ∃ u, exec (.stillBaseWrite v) s = .next u ∧
      bit (u.dev.reg (pgMica 0) 0x058) 0 = (decide (fld (s.dev.reg (pgMica 0) 0x060) 0 32 ≠ 0) &&
        s.dev.pinned 0 (fld v 16 32 * 65536) (1024 * fld (s.dev.reg (pgMica 0) 0x060) 0 32)) ∧
      ∀ o, o < 4096 → o ≠ 0x058 → u.dev.reg (pgMica 0) o = s.dev.reg (pgMica 0) o)

/-! ### Conference audio (chapter 8) -/

/-- LEG_AUDIO_SET, CONF_AUDIO_SET, HRTF_LOAD, ROUTE_SET, ROUTE_CLEAR, ROUTE_QUERY: an accepted command sets its leg's audio, its conference, its HRTF positions or its
router slots, and leaves every other one as it was; a route that is not direct answers with FEEDBACK. -/
def Sys2Proof.Machine.AudioCommands : Prop :=
  ∀ (s : State) (c : HostCmd),
    (Accepts legAudioSetSpec c s → ∃ u, exec (.legAudioSet c) s = .next u ∧
      u.dev.legAud (c.arg 0 2) = ⟨c.arg 2 1, c.arg 3 1 % 2 == 1, c.arg 3 1 / 2 % 2 == 1, c.arg 3 1 / 4 % 2 == 1, c.arg 3 1 / 8 % 2 == 1, c.arg 3 1 / 16 % 4, c.argS 4 4, c.argS 8 4,
        c.arg 12 4, c.arg 16 1, c.arg 17 1, c.arg 18 1⟩ ∧ (∀ k, k ≠ c.arg 0 2 → u.dev.legAud k = s.dev.legAud k) ∧ u.dev.legs = s.dev.legs) ∧
    (Accepts confAudioSetSpec c s → ∃ u, exec (.confAudioSet c) s = .next u ∧
      u.dev.conf (c.arg 0 2) = { s.dev.conf (c.arg 0 2) with talkers := c.arg 2 1, binPos := (List.range 8).map (fun k => c.arg (4 + k) 1) } ∧
      ∀ k, k ≠ c.arg 0 2 → u.dev.conf k = s.dev.conf k) ∧
    (Accepts hrtfLoadSpec c s → ∃ u b, exec (.hrtfLoad c) s = .next u ∧ capturePinned s.dev c.realm (c.arg 8 8) (c.arg 1 1 * 16 * c.arg 2 2) = some b ∧
      u.dev.audio.hrtfTaps = c.arg 2 2 ∧
      (∀ k, k < c.arg 1 1 → (c.arg 0 1 + k, q60List (c.arg 2 2) (b.drop (16 * c.arg 2 2 * k)), q60List (c.arg 2 2) (b.drop (16 * c.arg 2 2 * k + 8 * c.arg 2 2))) ∈ u.dev.audio.hrtf) ∧
      (c.arg 2 2 ≠ s.dev.audio.hrtfTaps → u.dev.audio.hrtf.length = c.arg 1 1)) ∧
    (Accepts routeSetSpec c s → ∃ u fb dropped, exec (.routeSet c) s = .next u ∧
      (u.dev.rslot (c.arg 0 4) (c.arg 4 1)).target = some ⟨c.arg 8 4, c.argS 12 4, c.arg 16 1 % 2 == 1, c.arg 16 1 / 2 == 1, 0⟩ ∧
      (u.dev.rslot (c.arg 0 4) (c.arg 4 1)).n = 0 ∧ (u.dev.rslot (c.arg 0 4) (c.arg 4 1)).len = 32 * max 1 (c.arg 6 2) ∧
      (fb = 1 ↔ routeDirect (c.arg 8 4) (c.arg 0 4) = false) ∧ fb < 2 ∧ dropped < 2 ∧
      u.dev.ctl.out.contains (.completion c.tag (routeSetSpec.okOr c s) (fb + 2 * dropped) s.dev.short) = true ∧
      ∀ k n, n < 64 → (k, n) ≠ (c.arg 0 4, c.arg 4 1) → u.dev.rslot k n = s.dev.rslot k n) ∧
    (Accepts routeClearSpec c s → ∃ u, exec (.routeClear c) s = .next u ∧
      (∀ n, n < 64 → (c.arg 4 1 = 255 ∨ n = c.arg 4 1) → (u.dev.rslot (c.arg 0 4) n).target = none) ∧
      ∀ k n, n < 64 → ¬ (k = c.arg 0 4 ∧ (c.arg 4 1 = 255 ∨ n = c.arg 4 1)) → u.dev.rslot k n = s.dev.rslot k n) ∧
    (Accepts routeQuerySpec c s → ∃ u w, exec (.routeQuery c) s = .next u ∧ UnitsKept s u ∧
      u.dev.ctl.out.contains (.completion c.tag (routeQuerySpec.okOr c s) ((s.dev.rslot (c.arg 0 4) (c.arg 4 1)).sounding.length % 65536) w) = true ∧
      ((s.dev.rslot (c.arg 0 4) (c.arg 4 1)).target = none → w = 0))

/-- A route added, changed or removed keeps what sounded: no contribution of a slot is lost but, where a fifth would join, the one of least weight. -/
def Sys2Proof.Machine.RouteFades : Prop :=
  ∀ (r : RSlot) (t : Option Contr) (len curve : Nat), r.sounding.length ≤ 4 →
    (r.change t len curve).1.target = t ∧ (r.change t len curve).1.n = 0 ∧ (r.change t len curve).1.len = len ∧
    (t = none → (r.change t len curve).1.olds = r.sounding) ∧
    (r.sounding.length < 4 → (r.change t len curve).1.olds = r.sounding ∧ (r.change t len curve).2 = false) ∧
    (∀ x y, x ∈ r.sounding → x ∉ (r.change t len curve).1.olds → y ∈ r.sounding → x.weight ≤ y.weight)

/-- NET_RX_OPEN, NET_RX_CLOSE, NET_TX_OPEN, NET_TX_CLOSE: a stream opens empty with its descriptor, a transmit stream 96 samples after a block boundary and bound to its
queue, or is as it was at reset; no other stream changes. -/
def Sys2Proof.Machine.NetCommands : Prop :=
  ∀ (s : State) (c : HostCmd),
    (Accepts netRxOpenSpec c s → ∃ u b, exec (.netRxOpen c) s = .next u ∧ capturePinned s.dev 0 (c.arg 8 8) 128 = some b ∧
      u.dev.rx (c.arg 0 1) = { opened := true, desc := netParse b } ∧ (∀ k, k ≠ c.arg 0 1 → u.dev.rx k = s.dev.rx k) ∧ u.dev.audio.tx = s.dev.audio.tx) ∧
    (Accepts netRxCloseSpec c s → ∃ u, exec (.netRxClose c) s = .next u ∧ u.dev.rx (c.arg 0 1) = {} ∧ (∀ k, k ≠ c.arg 0 1 → u.dev.rx k = s.dev.rx k)) ∧
    (Accepts netTxOpenSpec c s → ∃ u b, exec (.netTxOpen c) s = .next u ∧ capturePinned s.dev 0 (c.arg 8 8) 128 = some b ∧
      u.dev.tx (c.arg 0 1) = { opened := true, desc := netParse b, start := (32 * blockCeil s.dev.now + 96) / (netParse b).ratio } ∧
      (u.dev.queue (netParse b).queue).bind = .stream ∧ (u.dev.queue (netParse b).queue).obj = c.arg 0 1 ∧
      u.dev.ctl.out.contains (.completion c.tag (netTxOpenSpec.okOr c s) 0 (shortOf (sampleAt (32 * blockCeil s.dev.now + 96)))) = true ∧ ∀ k, k ≠ c.arg 0 1 → u.dev.tx k = s.dev.tx k) ∧
    (Accepts netTxCloseSpec c s → ∃ u, exec (.netTxClose c) s = .next u ∧ u.dev.tx (c.arg 0 1) = {} ∧
      (u.dev.queue (s.dev.tx (c.arg 0 1)).desc.queue).bind = .unbound ∧ ∀ k, k ≠ c.arg 0 1 → u.dev.tx k = s.dev.tx k)

/-- Commands of conference audio, the router and network streams. -/
def Obligations.AudioCommandResults : Prop := AudioCommands ∧ RouteFades ∧ NetCommands

/-- NET_AUDIO_RECEIVE, JB_FORCE_STEP, PLC_MUTE, LEVEL_BASE_WRITE: a frame no stream matches changes nothing, nor does a sequence number that a stream of two paths has had already; a step pending for
JB_FORCE is forced; concealment of PLC_MAX mutes and is reported. -/
def Obligations.AudioEvents : Prop :=
  (∀ (s : State) (p stamp : Nat) (f : List Byte) (v : Nat) (x : UdpIn), s.ready = true →
    (frameUdp f = none → exec (.netAudioReceive p stamp f) s = .next (s.setDev s.dev)) ∧
    (frameUdp f = some (v, x) → s.dev.netMatch p v x = none → exec (.netAudioReceive p stamp f) s = .next (s.setDev s.dev)) ∧
    (∀ k, frameUdp f = some (v, x) → s.dev.netMatch p v x = some k → exec (.netAudioReceive p stamp f) s = .next (s.setDev (s.dev.netReceive k stamp x.data))) ∧
    (∀ k k', frameUdp f = some (v, x) → s.dev.netMatch p v x = some k → rtpParse x.data stamp = some k' → (s.dev.rx k).desc.port2 ≠ 255 → (s.dev.rx k).seqs.contains k'.seq = true →
      exec (.netAudioReceive p stamp f) s = .next (s.setDev s.dev)) ∧
    (∀ k k', frameUdp f = some (v, x) → s.dev.netMatch p v x = some k → rtpParse x.data stamp = some k' → ((s.dev.rx k).desc.port2 = 255 ∨ (s.dev.rx k).seqs.contains k'.seq = false) →
      ∃ u, exec (.netAudioReceive p stamp f) s = .next u ∧ u.dev.counter pgMix 0x0B0 = s.dev.counter pgMix 0x0B0 + 1 ∧ (u.dev.rx k).seqs.contains k'.seq = true ∧
        (u.dev.rx k).desc = (s.dev.rx k).desc ∧ ∀ j, j ≠ k → u.dev.rx j = s.dev.rx j)) ∧
  (∀ (s : State) (l i : Nat), s.ready = true →
    exec (.jbForceStep l i) s = .next (s.setDev (s.dev.jbForceStep l i)) ∧ exec (.plcMute l i) s = .next (s.setDev (s.dev.plcMute l i)) ∧
    (∀ b t, (s.dev.playout l i).step = some (b, t) → t + fld (s.dev.reg pgMix 0x118) 0 16 * msT ≤ s.dev.now →
      ∃ u, exec (.jbForceStep l i) s = .next u ∧ u.dev.playout l i = { s.dev.playout l i with forced := true }) ∧
    ((s.dev.playout l i).step = none → exec (.jbForceStep l i) s = .next (s.setDev s.dev)) ∧
    ((s.dev.playout l i).started = true → (s.dev.playout l i).muted = false → 
      (s.dev.playout l i).ahead + fld (s.dev.reg pgMix 0x118) 16 16 * 96 ≤ (s.dev.playout l i).concealed →
      ∃ u, exec (.plcMute l i) s = .next u ∧ u.dev.playout l i = { s.dev.playout l i with muted := true, fade := true } ∧
        (u.dev.page pgMix).event.getLsbD 4 = true)) ∧
  (∀ (s : State) (v : Word), Writable s pgMix →
    ∃ u, exec (.levelBaseWrite v) s = .next u ∧ bit (u.dev.reg pgMix 0x050) 0 = (bit v 0 && s.dev.pinned 0 (fld v 16 32 * 65536) 131072) ∧
      fld (u.dev.reg pgMix 0x050) 16 32 = fld v 16 32)

/-- TDM_CFG_WRITE, TDM_FRAME, TDM_LOCK, LOCK_LOST: a disabled port takes its configuration, SLOTS held to what a frame has, and stays disabled where more than 512 slots would be used; an
enabled one takes only ENABLE; eight frames of the right length lock a SLAVE port and two of a wrong one unlock it. -/
def Obligations.TdmPorts : Prop :=
  (∀ (s : State) (p : Nat) (v : Word), p < 32 → Writable s (pgTdm p) →
    (s.dev.tdmOn p = true → bit v 0 = true → ∃ u, exec (.tdmCfgWrite p v) s = .next u ∧ u.dev.tdmCfg p = s.dev.tdmCfg p ∧ u.dev.tdm p = s.dev.tdm p) ∧
    (s.dev.tdmOn p = true → bit v 0 = false → ∃ u, exec (.tdmCfgWrite p v) s = .next u ∧ u.dev.tdmCfg p = setFld (s.dev.tdmCfg p) 0 1 0 ∧ u.dev.tdm p = {}) ∧
    (s.dev.tdmOn p = false → bit v 0 = true → ∃ u, exec (.tdmCfgWrite p v) s = .next u ∧
      u.dev.tdmOn p = decide (s.dev.slotsUsed + u.dev.tdmSlots p ≤ 512) ∧ u.dev.tdmSlots p ≤ slotLimit (u.dev.tdm96 p) ∧
      ∀ q, q < 32 → q ≠ p → u.dev.tdmCfg q = s.dev.tdmCfg q)) ∧
  (∀ (s : State) (p fs n : Nat) (codes : List Int), s.ready = true → p < 32 → s.dev.tdmOn p = true → s.dev.tdmSlave p = true →
    (n ≠ 32 * s.dev.tdmSlots p → ∃ u, exec (.tdmFrame p fs n codes) s = .next u ∧ (u.dev.tdm p).good = 0 ∧
      u.dev.counter (pgTdm p) (tdmOff p 0x20) = s.dev.counter (pgTdm p) (tdmOff p 0x20) + 1 ∧
      ((s.dev.tdm p).lock = true → ((u.dev.tdm p).lock = false ↔ 1 ≤ (s.dev.tdm p).wrong))) ∧
    (n = 32 * s.dev.tdmSlots p → ∃ u, exec (.tdmFrame p fs n codes) s = .next u ∧ (u.dev.tdm p).wrong = 0 ∧
      ((u.dev.tdm p).lock = true ↔ (s.dev.tdm p).lock = true ∨ 7 ≤ (s.dev.tdm p).good))) ∧
  (∀ (s : State) (p fs n : Nat) (codes : List Int), s.ready = true →
    (32 ≤ p ∨ s.dev.tdmOn p = false ∨ s.dev.tdmSlave p = false → exec (.tdmFrame p fs n codes) s = .next (s.setDev s.dev)) ∧
    exec (.tdmLock p) s = .next (s.setDev (if s.dev.tdmOn p && s.dev.tdmSlave p && !(s.dev.tdm p).lock && decide (8 ≤ (s.dev.tdm p).good) then s.dev.tdmLock p else s.dev)) ∧
    exec (.lockLost p) s = .next (s.setDev (if s.dev.tdmOn p && s.dev.tdmSlave p && (s.dev.tdm p).lock && decide (2 ≤ (s.dev.tdm p).wrong) then s.dev.tdmUnlock p else s.dev))) ∧
  (∀ (s : State) (p : Nat), s.ready = true → s.dev.tdmOn p = true → s.dev.tdmSlave p = true →
    ((s.dev.tdm p).lock = false → 8 ≤ (s.dev.tdm p).good → ∃ u, exec (.tdmLock p) s = .next u ∧ (u.dev.tdm p).lock = true ∧ (u.dev.tdm p).next = none) ∧
    ((s.dev.tdm p).lock = true → 2 ≤ (s.dev.tdm p).wrong → ∃ u, exec (.lockLost p) s = .next u ∧ (u.dev.tdm p).lock = false ∧ (u.dev.tdm p).held = [] ∧
      (u.dev.page (pgTdm p)).event.getLsbD (4 * (p % 4) + 1) = true))

/-! ### The renderer (chapter 9) -/

/-- The renderer's commands: a load of a layout waits for its computation, then for an epoch boundary from its end on, where its bank becomes LOADED; a selection keeps the bank that sounded for the crossfade while RUNNING; START
fades in and STOP fades out; an object, a chain or a scene changes alone, with what it was kept for the crossfade. -/
def Obligations.RenderCommands : Prop :=
  ∀ (s : State) (c : HostCmd),
    (s.ready = true → s.dev.joined = false → (c.dated = true → s.dev.datedPending < 8192) → spkLayoutLoadSpec.judged c s = none →
      ∃ u due, exec (.spkLayoutLoad c) s = .next u ∧ (bankParse ((layoutCapture c s.dev).getD [])).triangulate.isSome = true ∧
        u.dev.ctl.computing = s.dev.ctl.computing ++ [⟨spkLayoutLoadSpec.token c s, due, false, (layoutCapture c s.dev).getD []⟩] ∧ s.dev.now ≤ due ∧ UnitsKept s u) ∧
    (Accepts spkLayoutSelectSpec c s → ∃ u, exec (.spkLayoutSelect c) s = .next u ∧ u.dev.render.selected = some (c.arg 0 1) ∧ u.dev.bankCode (c.arg 0 1) = 2 ∧
      (s.dev.render.running = true → s.dev.render.oldBank = none → u.dev.render.oldBank = s.dev.render.selected) ∧
      (s.dev.render.running = false → u.dev.render.oldBank = none) ∧ (u.dev.page pgRender).event.getLsbD 3 = true ∧ u.dev.render.objs = s.dev.render.objs) ∧
    (Accepts renderStartSpec c s → ∃ u, exec (.renderStart c) s = .next u ∧ u.dev.renderCode = 2 ∧ u.dev.render.fadeIn = true ∧ u.dev.render.fadeOut = false ∧
      (∀ k, (u.dev.chain k).line = []) ∧ u.dev.render.objs = s.dev.render.objs) ∧
    (Accepts renderStopSpec c s → ∃ u, exec (.renderStop c) s = .next u ∧ u.dev.renderCode = 1 ∧ u.dev.render.fadeOut = true ∧ u.dev.render.fadeIn = false ∧
      u.dev.ctl.out.contains (.completion c.tag (renderStopSpec.okOr c s) 0 (shortOf (blockAt (blockCeil s.dev.now + 1)))) = true ∧
      u.dev.render.chains = s.dev.render.chains) ∧
    (Accepts objSetSpec c s → ∃ u, exec (.objSet c) s = .next u ∧
      (u.dev.obj (c.arg 0 2)).target = (objParse (objArgs c)).num ∧ (u.dev.obj (c.arg 0 2)).set = (objParse (objArgs c)).set ∧
      (u.dev.obj (c.arg 0 2)).from_ = (s.dev.obj (c.arg 0 2)).now ∧ (u.dev.obj (c.arg 0 2)).n = 0 ∧ (u.dev.obj (c.arg 0 2)).len = max 32 (objParse (objArgs c)).interp ∧
      ∀ k, k ≠ c.arg 0 2 → u.dev.obj k = s.dev.obj k) ∧
    (Accepts spkSetSpec c s → ∃ u b, exec (.spkSet c) s = .next u ∧ capturePinned s.dev c.realm (c.arg 8 8) 256 = some b ∧
      u.dev.chain (c.arg 0 2) = { s.dev.chain (c.arg 0 2) with out := outParse b, oldOut := some ((s.dev.chain (c.arg 0 2)).oldOut.getD (s.dev.chain (c.arg 0 2)).out) } ∧
      ∀ k, k ≠ c.arg 0 2 → u.dev.chain k = s.dev.chain k) ∧
    (Accepts firLoadSpec c s → ∃ u b, exec (.firLoad c) s = .next u ∧ capturePinned s.dev c.realm (c.arg 8 8) (8 * c.arg 4 4) = some b ∧
      u.dev.chain (c.arg 0 2) = { s.dev.chain (c.arg 0 2) with
        taps := q60List (c.arg 4 4) b, oldTaps := some ((s.dev.chain (c.arg 0 2)).oldTaps.getD (s.dev.chain (c.arg 0 2)).taps) } ∧
      u.dev.ctl.out.contains (.completion c.tag (firLoadSpec.okOr c s) (tapCharge (c.arg 4 4) / 64) s.dev.short) = true ∧ ∀ k, k ≠ c.arg 0 2 → u.dev.chain k = s.dev.chain k) ∧
    (Accepts hoaSetSpec c s → ∃ u, exec (.hoaSet c) s = .next u ∧
      u.dev.scene (c.arg 0 1) = ⟨c.arg 1 1, c.arg 2 1 == 1, c.arg 3 1 % 2 == 1, c.arg 3 1 / 2 == 1, c.argS 4 4⟩ ∧
      (u.dev.render.oldDec.any (fun e => e.1 == c.arg 0 1)) = true ∧ ∀ k, k ≠ c.arg 0 1 → u.dev.scene k = s.dev.scene k) ∧
    (Accepts renderQuerySpec c s → ∃ u, exec (.renderQuery c) s = .next u ∧ UnitsKept s u ∧
      u.dev.ctl.out.contains (.completion c.tag (renderQuerySpec.okOr c s) s.dev.renderCode (fmk 0 64 s.dev.tapsUsed)) = true) ∧
    (∀ l k b, (bankParse l).triangulate = some b → ∃ u, spkLayoutLoadSpec.run c l k s = (u, .done .ok b.tris.length u.dev.short) ∧
      c.arg 0 1 ∈ u.dev.render.loaded ∧ (u.dev.spkBank (c.arg 0 1)).tris = b.tris ∧ (u.dev.spkBank (c.arg 0 1)).spks = b.spks ∧
      ∀ k, k ≠ c.arg 0 1 → u.dev.spkBank k = s.dev.spkBank k) ∧
    (∀ i, s.ready = true → exec (.spkLayoutLoaded i) s = .next (s.setDev (s.dev.layoutLoaded i)) ∧ UnitsKept s (s.setDev (s.dev.layoutLoaded i)) ∧
      ((∀ a, a ∈ s.dev.ctl.computing → a.tok.cmd.arg 0 1 ≠ i) → s.dev.layoutLoaded i = s.dev) ∧
      ∀ a rest, s.dev.ctl.computing = a :: rest → a.tok.cmd.arg 0 1 = i → (s.dev.layoutLoaded i).ctl.computing = rest ∧
        ∃ due, (s.dev.layoutLoaded i).ctl.accepted = s.dev.ctl.accepted ++ [{ a with due := due }] ∧ a.due ≤ due ∧ s.dev.now ≤ due ∧ ((∃ n, a.due = n * msT) → ∃ n, due = n * msT))

/-- A layout that triangulates keeps its loudspeakers, and every triangle names a PANNABLE loudspeaker or a virtual one in each corner; a planar layout's third corner is 1,023. -/
def Sys2Proof.Machine.TrianglesNamed : Prop :=
  ∀ (b b' : SpkBank), b.triangulate = some b' → b'.spks = b.spks ∧ b'.refDist = b.refDist ∧ b'.nearDist = b.nearDist ∧
    ∀ t, t ∈ b'.tris → ((t.1 ∈ b.pans ∨ t.1 ∈ b.virtuals) ∧ (t.2.1 ∈ b.pans ∨ t.2.1 ∈ b.virtuals)) ∧
      (b'.planar = true → t.2.2 = 1023) ∧ (b'.planar = false → t.2.2 ∈ b.pans ∨ t.2.2 ∈ b.virtuals)

/-- An object that is not enabled or is muted has no gain; one whose every PANNABLE loudspeaker is excluded has none either; a gain goes only to loudspeakers it may use; SNAP
leaves one at most. -/
def Sys2Proof.Machine.ObjectGains : Prop :=
  ∀ (b : SpkBank) (o : ObjNum) (x : ObjSet),
    ((x.enable = false ∨ x.mute = true) → b.gains o x = []) ∧
    (b.allowed x.excl = [] → b.gains o x = []) ∧
    (∀ e, e ∈ b.gains o x → e.1 ∈ b.allowed x.excl) ∧
    (x.snap = true → (b.gains o x).length ≤ 1)

/-- Interpolation of an object: the boundary of the change holds the old values, its end the new ones, and a change begun in the midst of another starts from the values reached. -/
def Sys2Proof.Machine.ObjectInterpolation : Prop :=
  ∀ (a b : ObjNum) (o : RObj) (t : ObjNum) (n i : Nat) (x : ObjSet),
    (i ≤ n → a.between b n i = b) ∧ (a.between a n i = a) ∧
    (∀ lo hi : Int, lo ≤ a.gain → a.gain ≤ hi → lo ≤ b.gain → b.gain ≤ hi → lo ≤ (a.between b n i).gain ∧ (a.between b n i).gain ≤ hi) ∧
    (o.change t i x).now = o.now ∧ ((o.change t i x).target = t) ∧ 32 ≤ (o.change t i x).len ∧ i ≤ (o.change t i x).len

/-- Panning, as far as no number of it is approximate. -/
def Obligations.Panning : Prop := TrianglesNamed ∧ ObjectGains ∧ ObjectInterpolation

/-! ### Garnet (chapter 10) -/

/-- The commands of images, inserts, tasks and clusters. The calls of the block are finished first; an accepted command then changes its image, insert, core or cluster and no other.
INSERT_OPEN and INSERT_COEF are held for an epoch boundary a millisecond away or later, and have their effect there. -/
def Sys2Proof.Machine.GarnetCommands : Prop :=
  ∀ (s : State) (c : HostCmd),
    (Accepts garnetLoadSpec c s → ∃ u b, exec (.garnetLoad c) s = .next u ∧ garnetLoadSpec.capture c s.dev = some b ∧
      u.dev.image (c.arg 0 1) = ⟨true, (List.range 8).map (fun e => leAt b (8 + 2 * e) 2), (List.range (leAt b 0 2)).map (fun i => BitVec.ofNat 64 (leAt b (64 + 8 * i) 8))⟩ ∧
      (∀ x, x ∈ (u.dev.image (c.arg 0 1)).bundles → bundleOk x = true) ∧ ∀ k, k ≠ c.arg 0 1 → u.dev.image k = s.dev.image k) ∧
    (Accepts garnetUnloadSpec c s → ∃ u, exec (.garnetUnload c) s = .next u ∧ u.dev.image (c.arg 0 1) = {} ∧ ∀ k, k ≠ c.arg 0 1 → u.dev.image k = s.dev.image k) ∧
    (s.ready = true → s.dev.joined = false → (c.dated = true → s.dev.datedPending < 8192) → insertOpenSpec.judged c s = none →
      ∃ u, exec (.insertOpen c) s = .next u ∧ UnitsKept s u ∧ s.dev.now + msT ≤ (s.dev.effectTime (insertOpenSpec.token c s)).1 ∧
        u.dev.ctl.accepted = s.dev.ctl.accepted ++ [⟨insertOpenSpec.token c s, (s.dev.effectTime (insertOpenSpec.token c s)).1, (s.dev.effectTime (insertOpenSpec.token c s)).2, []⟩]) ∧
    (∀ l k, ∃ u, insertOpenSpec.run c l k s = (u, .done .ok 0 (fmk 0 16 (openInsert c s.dev.settleCalls).stateBase ||| fmk 16 16 (openInsert c s.dev.settleCalls).coefBase)) ∧
      u.dev.ins (c.arg 0 1) = openInsert c s.dev.settleCalls ∧
      (∀ i, i < c.arg 6 2 → tabGetD 0 (u.dev.gcore (16 * c.arg 2 1 + c.arg 3 1)).mem ((openInsert c s.dev.settleCalls).stateBase + i) = 0) ∧
      (∀ k, k ≠ c.arg 0 1 → u.dev.ins k = s.dev.settleCalls.ins k) ∧ ∀ k, k ≠ 16 * c.arg 2 1 + c.arg 3 1 → u.dev.gcore k = s.dev.settleCalls.gcore k) ∧
    (Accepts insertCloseSpec c s → ∃ u, exec (.insertClose c) s = .next u ∧ u.dev.ins (c.arg 0 1) = {} ∧ ∀ k, k ≠ c.arg 0 1 → u.dev.ins k = s.dev.settleCalls.ins k) ∧
    (Accepts insertParamSpec c s → (s.dev.settleCalls.ins (c.arg 0 1)).param.length = 64 → ∃ u, exec (.insertParam c) s = .next u ∧
      (u.dev.ins (c.arg 0 1)).paramChanged = true ∧ (u.dev.ins (c.arg 0 1)).satTold = false ∧ (u.dev.ins (c.arg 0 1)).state = (s.dev.settleCalls.ins (c.arg 0 1)).state ∧
      (∀ i, i < 64 → nthD 0 (u.dev.ins (c.arg 0 1)).param i =
        if c.arg 1 1 ≤ i ∧ i < c.arg 1 1 + c.arg 2 1 then BitVec.ofNat 64 (c.arg (8 + 8 * (i - c.arg 1 1)) 8) else nthD 0 (s.dev.settleCalls.ins (c.arg 0 1)).param i) ∧
      ∀ k, k ≠ c.arg 0 1 → u.dev.ins k = s.dev.settleCalls.ins k) ∧
    (s.ready = true → s.dev.joined = false → (c.dated = true → s.dev.datedPending < 8192) → insertCoefSpec.judged c s = none →
      ∃ u b, exec (.insertCoef c) s = .next u ∧ UnitsKept s u ∧ capturePinned s.dev 0 (c.arg 8 8) (8 * c.arg 4 2) = some b ∧ s.dev.now + msT ≤ (s.dev.effectTime (insertCoefSpec.token c s)).1 ∧
        u.dev.ctl.accepted = s.dev.ctl.accepted ++ [⟨insertCoefSpec.token c s, (s.dev.effectTime (insertCoefSpec.token c s)).1, (s.dev.effectTime (insertCoefSpec.token c s)).2, b⟩]) ∧
    (∀ b k, ∃ u, insertCoefSpec.run c b k s = (u, .done .ok 0 u.dev.short) ∧
      (u.dev.ins (c.arg 0 1)).coefChanged = true ∧
      (∀ i, i < c.arg 4 2 → tabGetD 0 u.dev.garnet.coef (16384 * (s.dev.settleCalls.ins (c.arg 0 1)).cluster + ((s.dev.settleCalls.ins (c.arg 0 1)).coefBase - 0x4000) + c.arg 2 2 + i) =
        BitVec.ofNat 64 (leAt b (8 * i) 8)) ∧
      (∀ a, (∀ i, i < c.arg 4 2 → a ≠ 16384 * (s.dev.settleCalls.ins (c.arg 0 1)).cluster + ((s.dev.settleCalls.ins (c.arg 0 1)).coefBase - 0x4000) + c.arg 2 2 + i) →
        tabGetD 0 u.dev.garnet.coef a = tabGetD 0 s.dev.settleCalls.garnet.coef a)) ∧
    (Accepts insertBypassSpec c s → ∃ u, exec (.insertBypass c) s = .next u ∧
      u.dev.ins (c.arg 0 1) = { s.dev.settleCalls.ins (c.arg 0 1) with state := if c.arg 1 1 = 1 then .bypassed else .running, fading := true } ∧
      ∀ k, k ≠ c.arg 0 1 → u.dev.ins k = s.dev.settleCalls.ins k) ∧
    (Accepts insertResetSpec c s → ∃ u, exec (.insertReset c) s = .next u ∧
      u.dev.ins (c.arg 0 1) = { s.dev.settleCalls.ins (c.arg 0 1) with state := .running, first := true, overrun := false, satTold := false } ∧
      ∀ k, k ≠ c.arg 0 1 → u.dev.ins k = s.dev.settleCalls.ins k) ∧
    (Accepts insertQuerySpec c s → ∃ u, exec (.insertQuery c) s = .next u ∧ UnitsKept s u ∧
      u.dev.ctl.out.contains (.completion c.tag (insertQuerySpec.okOr c s) (insCode (s.dev.ins (c.arg 0 1)).state) (fmk 0 64 (s.dev.ins (c.arg 0 1)).lastBundles)) = true) ∧
    (Accepts garnetSwapSpec c s → ∃ u m, exec (.garnetSwap c) s = .next u ∧ tabGetD none u.dev.garnet.moves (c.arg 0 1) = some m ∧ m.src = s.dev.gaUnit (c.arg 0 1) ∧
      m.at_ = blockAt (blockCeil (s.dev.now + msT)) ∧ s.dev.gaSpare m.dst = true ∧ (c.arg 1 1 ≠ 255 → m.dst = c.arg 1 1) ∧ u.dev.waiting 0x0809 (c.arg 0 1) = true ∧
      u.dev.garnet.map = s.dev.garnet.map) ∧
    (Accepts taskStartSpec c s → ∃ u, exec (.taskStart c) s = .next u ∧ (u.dev.gcore (16 * c.arg 0 1 + c.arg 1 1)).task = true ∧
      (u.dev.gcore (16 * c.arg 0 1 + c.arg 1 1)).pc = nthD 0 (s.dev.image (c.arg 2 1)).entries (c.arg 3 1) ∧ (u.dev.gcore (16 * c.arg 0 1 + c.arg 1 1)).domain = c.arg 4 2 ∧
      (u.dev.domain (c.arg 4 2)).bound = (s.dev.domain (c.arg 4 2)).bound ++ [16 * c.arg 0 1 + c.arg 1 1] ∧
      ∀ k, k ≠ 16 * c.arg 0 1 + c.arg 1 1 → u.dev.gcore k = s.dev.gcore k) ∧
    (Accepts taskStopSpec c s → ∃ u, exec (.taskStop c) s = .next u ∧ u.dev.waiting 0x080B (16 * c.arg 0 1 + c.arg 1 1) = true ∧
      u.dev.gcore (16 * c.arg 0 1 + c.arg 1 1) = { s.dev.gcore (16 * c.arg 0 1 + c.arg 1 1) with stopping := true } ∧
      ∀ k, k ≠ 16 * c.arg 0 1 + c.arg 1 1 → u.dev.gcore k = s.dev.gcore k) ∧
    ((∀ n, (s.dev.ins n).due = false) → s.dev.settleCalls = s.dev)

/-- What the rows of a core do: an insert's call begins with the core of Table 10-15 and ends at its budget with its input as output; an all-zero bundle only advances; an illegal one stops
the core with trap 1; a stall ends; a timer expires; an interrupt enters at VECBASE. -/
def Obligations.GarnetExecution : Prop :=
  ∀ (s : State) (l n k : Nat), s.ready = true →
    exec (.insertCall n) s = .next (s.setDev (s.dev.startCall n)) ∧
    ((s.dev.ins n).due = false → exec (.insertCall n) s = .next (s.setDev s.dev)) ∧
    exec (.insertBudgetExpiry n) s = .next (s.setDev (if (s.dev.gcore (16 * (s.dev.ins n).cluster + (s.dev.ins n).core)).serving = some n then
      s.dev.budgetExpiry (16 * (s.dev.ins n).cluster + (s.dev.ins n).core) else s.dev)) ∧
    (coreOf l k = none → (∀ e, exec (.bundleIssue l k e) s = .next (s.setDev s.dev)) ∧ exec (.dispGetReturn l k) s = .next (s.setDev s.dev) ∧
      exec (.xferDone l k) s = .next (s.setDev s.dev) ∧ exec (.timerInterrupt l k) s = .next (s.setDev s.dev) ∧ exec (.interruptEntry l k) s = .next (s.setDev s.dev)) ∧
    (∀ j, coreOf l k = some j → (∀ e, exec (.bundleIssue l k e) s = .next (s.setDev (s.dev.issueBundle j e))) ∧ exec (.dispGetReturn l k) s = .next (s.setDev (s.dev.dispGetReturn j)) ∧
      exec (.xferDone l k) s = .next (s.setDev (s.dev.xferDone j)) ∧ exec (.timerInterrupt l k) s = .next (s.setDev (s.dev.timerInterrupt j)) ∧
      exec (.interruptEntry l k) s = .next (s.setDev (s.dev.setGcore j (s.dev.gcore j).interrupt))) ∧
    ((s.dev.ins n).due = true → (s.dev.coreInserts (16 * (s.dev.ins n).cluster + (s.dev.ins n).core)).any (fun e => e.2.due && decide (e.1 < n)) = false →
      (s.dev.gcore (16 * (s.dev.ins n).cluster + (s.dev.ins n).core)).serving = none → (s.dev.feeders n).any (fun m => (s.dev.ins m).due) = false →
      ∃ u, exec (.insertCall n) s = .next u ∧ u.dev.gcore (16 * (s.dev.ins n).cluster + (s.dev.ins n).core) = s.dev.callCore n ∧
        u.dev.garnet.inserts = s.dev.garnet.inserts ∧ ∀ j, j ≠ 16 * (s.dev.ins n).cluster + (s.dev.ins n).core → u.dev.gcore j = s.dev.gcore j) ∧
    ((s.dev.gcore (16 * (s.dev.ins n).cluster + (s.dev.ins n).core)).serving = some n →
      (s.dev.gcore (16 * (s.dev.ins n).cluster + (s.dev.ins n).core)).budget ≤ (s.dev.gcore (16 * (s.dev.ins n).cluster + (s.dev.ins n).core)).issued →
      ∃ u, exec (.insertBudgetExpiry n) s = .next u ∧ (u.dev.gcore (16 * (s.dev.ins n).cluster + (s.dev.ins n).core)).serving = none ∧
        (u.dev.ins n).overrun = true ∧ (u.dev.ins n).out = some (s.dev.ins n).input ∧ (u.dev.ins n).due = false ∧ (u.dev.ins n).state = (s.dev.ins n).state ∧
        ∀ j, j ≠ n → u.dev.ins j = s.dev.ins j) ∧
    (coreOf l k = some (16 * l + k) → (s.dev.gcore (16 * l + k)).mayIssue = true → (s.dev.gcore (16 * l + k)).lands = [] → (s.dev.gcore (16 * l + k)).rti = false →
      (s.dev.gcore (16 * l + k)).pc < 1024 →
      (s.dev.bundleAt (16 * l + k) = 0 → (s.dev.gcore (16 * l + k)).branch = none → (s.dev.gcore (16 * l + k)).ended = 0 →
        [0, 1, 2].all (fun i => nthD 0 (s.dev.gcore (16 * l + k)).lc i == 0) = true →
        ∀ e, ∃ u, exec (.bundleIssue l k e) s = .next u ∧ u.dev.garnet.inserts = s.dev.garnet.inserts ∧
          u.dev.gcore (16 * l + k) = { s.dev.gcore (16 * l + k) with issued := (s.dev.gcore (16 * l + k)).issued + 1, stall := 0, pc := (s.dev.gcore (16 * l + k)).pc + 1 } ∧
          ∀ j, j ≠ 16 * l + k → u.dev.gcore j = s.dev.gcore j) ∧
      (bundleOk (s.dev.bundleAt (16 * l + k)) = false →
        ∀ e, ∃ u, exec (.bundleIssue l k e) s = .next u ∧ (u.dev.gcore (16 * l + k)).trapCode = 1 ∧ (u.dev.gcore (16 * l + k)).trapPc = (s.dev.gcore (16 * l + k)).pc ∧
          (u.dev.gcore (16 * l + k)).serving = none ∧ (∀ i, (s.dev.gcore (16 * l + k)).serving = some i → (u.dev.ins i).state = .faulted ∧ (u.dev.ins i).out = some (s.dev.ins i).input) ∧
          ((s.dev.gcore (16 * l + k)).serving = none → (u.dev.gcore (16 * l + k)).task = false))) ∧
    (coreOf l k = some (16 * l + k) → (s.dev.gcore (16 * l + k)).stall = 1 →
      ((s.dev.domain (s.dev.gcore (16 * l + k)).domain).next = none → exec (.dispGetReturn l k) s = .next (s.setDev s.dev)) ∧
      (∀ a i, (s.dev.domain (s.dev.gcore (16 * l + k)).domain).next = some (a, i) →
        ∃ u, exec (.dispGetReturn l k) s = .next u ∧ (u.dev.gcore (16 * l + k)).stall = 0 ∧ (u.dev.gcore (16 * l + k)).item = some a ∧
          (∀ j, j < 4 → tabGetD 0 (u.dev.gcore (16 * l + k)).mem (0x0E40 + j) = nthD 0 i.words j) ∧
          (u.dev.domain (s.dev.gcore (16 * l + k)).domain).waiting = (s.dev.domain (s.dev.gcore (16 * l + k)).domain).waiting.filter (fun e => e.1 != a))) ∧
    (coreOf l k = some (16 * l + k) → (s.dev.gcore (16 * l + k)).stall = 2 → (s.dev.gcore (16 * l + k)).fault = none →
      (s.dev.xferFail (s.dev.gcore (16 * l + k)) = none → ∃ u, exec (.xferDone l k) s = .next u ∧ (u.dev.gcore (16 * l + k)).stall = 0 ∧
        (u.dev.gcore (16 * l + k)).lands = (s.dev.gcore (16 * l + k)).lands ++ [⟨2, .d (s.dev.gcore (16 * l + k)).stallReg, 0, true⟩]) ∧
      (s.dev.xferFail (s.dev.gcore (16 * l + k)) ≠ none → ∃ u, exec (.xferDone l k) s = .next u ∧ (u.dev.gcore (16 * l + k)).stall = 2 ∧
        (u.dev.gcore (16 * l + k)).fault ≠ none)) ∧
    (coreOf l k = some (16 * l + k) → (s.dev.gcore (16 * l + k)).task = true → (s.dev.gcore (16 * l + k)).timer ≠ 0 → (s.dev.gcore (16 * l + k)).timerAt ≤ s.dev.now →
      ∃ u, exec (.timerInterrupt l k) s = .next u ∧ (u.dev.gcore (16 * l + k)).irq / 2 % 2 = 1 ∧
        (u.dev.gcore (16 * l + k)).timerAt = (s.dev.gcore (16 * l + k)).timerAt + (s.dev.gcore (16 * l + k)).timer * 1000 * nsT) ∧
    (coreOf l k = some (16 * l + k) → (s.dev.gcore (16 * l + k)).task = true → (s.dev.gcore (16 * l + k)).ie = true → (s.dev.gcore (16 * l + k)).branch = none →
      (s.dev.gcore (16 * l + k)).stall = 0 → ∀ x, x < 3 → (s.dev.gcore (16 * l + k)).irq / 2 ^ x % 2 = 1 → (s.dev.gcore (16 * l + k)).imask / 2 ^ x % 2 = 1 →
      (∀ y, y < x → ¬ ((s.dev.gcore (16 * l + k)).irq / 2 ^ y % 2 = 1 ∧ (s.dev.gcore (16 * l + k)).imask / 2 ^ y % 2 = 1)) → (s.dev.gcore (16 * l + k)).lands = [] →
      ∃ u, exec (.interruptEntry l k) s = .next u ∧ (u.dev.gcore (16 * l + k)).pc = (s.dev.gcore (16 * l + k)).vecBase + 4 * x ∧
        (u.dev.gcore (16 * l + k)).ipc = (s.dev.gcore (16 * l + k)).pc % 1024 ∧ (u.dev.gcore (16 * l + k)).istatus = (s.dev.gcore (16 * l + k)).status ∧
        (u.dev.gcore (16 * l + k)).ie = false ∧ (u.dev.gcore (16 * l + k)).irq / 2 ^ x % 2 = 0 ∧ (u.dev.gcore (16 * l + k)).dr = (s.dev.gcore (16 * l + k)).dr)

/-- Moves of clusters: GARNET_SWAP_SWITCH at its boundary, ECC_FATAL, GARNET_FAULT_MOVE. A cluster passes to the new unit alone, and the unit that served it is ISOLATED or stays FAULTED. -/
def Sys2Proof.Machine.GarnetMoves : Prop :=
  ∀ (s : State) (l : Nat), s.ready = true →
    exec (.garnetSwapSwitch l) s = .next (s.setDev (s.dev.gaSwitch l)) ∧ exec (.garnetFaultMove l) s = .next (s.setDev (s.dev.gaFaultMove l)) ∧
    exec (.eccFatal l) s = .next (s.setDev (s.dev.eccFatal l)) ∧
    ((tabGetD none s.dev.garnet.moves l = none ∨ ∃ m, tabGetD none s.dev.garnet.moves l = some m ∧ s.dev.now < m.at_) → s.dev.gaSwitch l = s.dev) ∧
    (s.dev.gaDead l = false → s.dev.gaFaultMove l = s.dev) ∧
    ((∀ j, s.dev.gaLogical l = some j → 24 ≤ j) → s.dev.eccFatal l = s.dev) ∧
    (l < 32 → s.dev.garnet.map.length = 32 →
    (∀ m, tabGetD none s.dev.garnet.moves l = some m → m.at_ ≤ s.dev.now → m.dst ≠ s.dev.gaUnit l → m.dst < 33 → s.dev.gaUnit l < 33 →
      ∃ u, exec (.garnetSwapSwitch l) s = .next u ∧ u.dev.gaUnit l = m.dst ∧ (∀ j, j ≠ l → u.dev.gaUnit j = s.dev.gaUnit j) ∧
        tabGetD none u.dev.garnet.moves l = none ∧ u.dev.waiting 0x0809 l = false ∧
        ((u.dev.page (pgGarnet (s.dev.gaUnit l))).state = .isolated ∨ (u.dev.page (pgGarnet (s.dev.gaUnit l))).state = .faulted) ∧
        (u.dev.page (pgGarnet m.dst)).state = (s.dev.page (pgGarnet m.dst)).state ∧ (u.dev.page (pgGarnet m.dst)).event.getLsbD 4 = true ∧
        u.dev.garnet.cores = s.dev.garnet.cores ∧ u.dev.garnet.inserts = s.dev.garnet.inserts) ∧
    (∀ p, s.dev.gaLogical p = some l → p < 33 → l < 24 →
      ∃ u, exec (.eccFatal p) s = .next u ∧ (u.dev.page (pgGarnet p)).state = .faulted ∧ u.dev.gaDead l = true ∧ (u.dev.page (pgGarnet p)).event.getLsbD 5 = true ∧
        u.dev.garnet.map = s.dev.garnet.map) ∧
    (∀ p rest, s.dev.gaSpares = p :: rest → s.dev.garnet.dead.any (fun e => e.1 == l && e.2 + 1 == s.dev.clk.nextBlock) = true → s.dev.gaUnit l < 33 → (s.dev.page (pgGarnet (s.dev.gaUnit l))).state = .faulted →
      ∃ u, exec (.garnetFaultMove l) s = .next u ∧ u.dev.gaUnit l = p ∧ (∀ j, j ≠ l → u.dev.gaUnit j = s.dev.gaUnit j) ∧ u.dev.gaDead l = false ∧
        (u.dev.page (pgGarnet (s.dev.gaUnit l))).state = .faulted))

/-- Garnet's arithmetic: an accumulator holds the exact sum of products where it fits in 144 bits and its nearest bound where it does not; a store rounds once and saturates; MUL and MAC land at
once for the M slot and three bundles later for the A slot; ADD wraps, ADDS saturates and then sets SAT; CMP's flags order the operands. -/
def Sys2Proof.Machine.GarnetArithmetic : Prop :=
  (∀ x : Int, -(2 ^ 143 : Int) ≤ accClamp x ∧ accClamp x ≤ 2 ^ 143 - 1 ∧ (-(2 ^ 143 : Int) ≤ x → x ≤ 2 ^ 143 - 1 → accClamp x = x)) ∧
  (∀ (a x : Int) (r : Bool), -(2 ^ 63 : Int) ≤ (accStore a x r).1 ∧ (accStore a x r).1 ≤ 2 ^ 63 - 1 ∧
    ((accStore a 0 false).2 = false → (accStore a 0 false).1 * 2 ^ 60 ≤ a ∧ a < ((accStore a 0 false).1 + 1) * 2 ^ 60)) ∧
  (∀ (c : Core) (m a x y : Nat), nb m 13 2 = a → nb m 9 4 = x → nb m 5 4 = y →
    (nb m 15 5 = 2 → -(2 ^ 143 : Int) ≤ nthD 0 c.acc a + (c.d x).toInt * (c.d y).toInt → nthD 0 c.acc a + (c.d x).toInt * (c.d y).toInt ≤ 2 ^ 143 - 1 →
      mSlot c m = [⟨0, .acc a, nthD 0 c.acc a + (c.d x).toInt * (c.d y).toInt, false⟩, ⟨3, .out a, nthD 0 c.acc a + (c.d x).toInt * (c.d y).toInt, false⟩]) ∧
    (nb m 15 5 = 8 → mSlot c m = [⟨0, .acc a, 0, false⟩, ⟨3, .out a, 0, false⟩])) ∧
  (∀ (c : Core) (a : Nat), nb a 16 6 = 0x03 →
    (-(2 ^ 63 : Int) ≤ (c.d (nb a 8 4)).toInt + (c.d (nb a 4 4)).toInt → (c.d (nb a 8 4)).toInt + (c.d (nb a 4 4)).toInt ≤ 2 ^ 63 - 1 →
      (aSlot c a).lands = [⟨0, .d (nb a 12 4), (c.d (nb a 8 4)).toInt + (c.d (nb a 4 4)).toInt, false⟩]) ∧
    (2 ^ 63 - 1 < (c.d (nb a 8 4)).toInt + (c.d (nb a 4 4)).toInt →
      (aSlot c a).lands = [⟨0, .d (nb a 12 4), 2 ^ 63 - 1, false⟩, ⟨0, .sat, 1, false⟩])) ∧
  (∀ x y : Word, ((cmpFlags x y % 2 = 1) ↔ x = y) ∧ ((cmpFlags x y / 4 % 2 = 1) ↔ x.toNat < y.toNat) ∧
    ((cmpFlags x y / 2 % 2 ≠ cmpFlags x y / 8 % 2) ↔ x.toInt < y.toInt))

/-- Addressing and flow: a circular pointer stays in its buffer and a straight one moves by its step; a branch acts after two more bundles; a loop goes back while its count is more than 1 and ends with it. -/
def Sys2Proof.Machine.GarnetFlow : Prop :=
  (∀ (c : Core) (n : Nat) (m : Int), 0 < nthD 0 c.lr n →
    (nthD 0 c.br n : Int) ≤ c.bump n m ∧ c.bump n m < (nthD 0 c.br n : Int) + nthD 0 c.lr n ∧ (c.bump n m - (nthD 0 c.pr n + m)) % (nthD 0 c.lr n : Int) = 0) ∧
  (∀ (c : Core) (n : Nat) (m : Int), nthD 0 c.lr n = 0 → c.bump n m = nthD 0 c.pr n + m) ∧
  (∀ (j x : Nat), x < 2 ^ j → revBits j x < 2 ^ j ∧ revBits j (revBits j x) = x) ∧
  (∀ (c : Core) (t : Int), [0, 1, 2].all (fun i => nthD 0 c.lc i == 0) = true → 0 ≤ t → t < 1024 →
    ((c.advance { jump := some (t, 0) }).advance {}).pc = c.pc + 2 ∧ (((c.advance { jump := some (t, 0) }).advance {}).advance {}).pc = t.toNat) ∧
  (∀ (c : Core) (n : Nat), n < 3 → c.lc.length = 3 → c.branch = none → nthD 0 c.le n = c.pc → (∀ i, i < 3 → i ≠ n → nthD 0 c.lc i = 0) → 0 < nthD 0 c.lc n →
    (nthD 0 (c.advance {}).lc n = nthD 0 c.lc n - 1 ∧ (c.advance {}).pc = if nthD 0 c.lc n = 1 then c.pc + 1 else nthD 0 c.ls n))

/-- Garnet's arithmetic, addressing and flow. -/
def Obligations.GarnetInstructionSet : Prop := GarnetArithmetic ∧ GarnetFlow

/-- Garnet's commands and the moves of its clusters. -/
def Obligations.GarnetControl : Prop := GarnetCommands ∧ GarnetMoves

/-! ### Egress (chapter 11) -/

/-- Its frames on the wire. -/
def Sys2Proof.Machine.framesOf (l : List Output) : List Output := l.filter (fun o => match o with | .frame _ _ _ _ _ => true | _ => false)

/-- QUEUE_ASSIGN, QUEUE_SET, QUEUE_QUERY, QUEUE_FLUSH, GATE_LIST_SET, GATE_LIST_CANCEL, HOST_SEND: what an accepted command makes of its queues or port, and of no other. -/
def Obligations.EgressCommands : Prop :=
  ∀ (s : State) (c : HostCmd),
    (Accepts queueAssignSpec c s → ∃ u, exec (.queueAssign c) s = .next u ∧
      ∀ k, u.dev.queue k = if c.arg 0 2 ≤ k ∧ k < c.arg 0 2 + c.arg 2 2 then { s.dev.queue k with realm := c.arg 4 1 } else s.dev.queue k) ∧
    (Accepts queueSetSpec c s → ∃ u, exec (.queueSet c) s = .next u ∧ (u.dev.queue (c.arg 0 2)).cls = c.arg 2 1 ∧ (u.dev.queue (c.arg 0 2)).fixed = (c.arg 3 1 == 1) ∧
      (u.dev.queue (c.arg 0 2)).quantum = c.arg 4 4 ∧ (u.dev.queue (c.arg 0 2)).rate = c.arg 8 4 ∧ (u.dev.queue (c.arg 0 2)).limit = c.arg 12 2 ∧
      (u.dev.queue (c.arg 0 2)).frames = (s.dev.queue (c.arg 0 2)).frames ∧ ∀ k, k ≠ c.arg 0 2 → u.dev.queue k = s.dev.queue k) ∧
    (Accepts queueQuerySpec c s → ∃ u, exec (.queueQuery c) s = .next u ∧ UnitsKept s u ∧
      u.dev.ctl.out.contains (.completion c.tag (queueQuerySpec.okOr c s) (s.dev.queue (c.arg 0 2)).bind.code
        (fmk 0 32 (s.dev.queue (c.arg 0 2)).frames.length ||| fmk 32 32 (s.dev.queue (c.arg 0 2)).depth)) = true) ∧
    (Accepts queueFlushSpec c s → ∃ u, exec (.queueFlush c) s = .next u ∧ (u.dev.queue (c.arg 0 2)).frames = [] ∧ (u.dev.queue (c.arg 0 2)).bind = (s.dev.queue (c.arg 0 2)).bind ∧
      u.dev.ctl.out.contains (.completion c.tag (queueFlushSpec.okOr c s) (satN 65535 (s.dev.queue (c.arg 0 2)).frames.length) s.dev.short) = true ∧
      ∀ k, k ≠ c.arg 0 2 → u.dev.queue k = s.dev.queue k) ∧
    (Accepts gateListSetSpec c s → ∃ u g t late n, exec (.gateListSet c) s = .next u ∧ (u.dev.eport (c.arg 0 1)).pend = some (g, t, late) ∧
      s.dev.now + 20 * usT ≤ t ∧ t = g.base + n * max 1 (g.cycle * nsT) ∧ u.dev.waiting 0x0904 (c.arg 0 1) = true ∧
      (u.dev.eport (c.arg 0 1)).oper = (s.dev.eport (c.arg 0 1)).oper ∧ (u.dev.eport (c.arg 0 1)).gates = (s.dev.eport (c.arg 0 1)).gates ∧
      ∀ p, p ≠ c.arg 0 1 → u.dev.eport p = s.dev.eport p) ∧
    (Accepts gateListCancelSpec c s → ∃ u, exec (.gateListCancel c) s = .next u ∧ u.dev.eport (c.arg 0 1) = { s.dev.eport (c.arg 0 1) with pend := none } ∧
      u.dev.waiting 0x0904 (c.arg 0 1) = false ∧ ∀ p, p ≠ c.arg 0 1 → u.dev.eport p = s.dev.eport p) ∧
    (Accepts hostSendSpec c s → ∃ u b, exec (.hostSend c) s = .next u ∧ capturePinned s.dev 0 (c.arg 8 8) (c.arg 2 2) = some b ∧
      (s.dev.qLimit (ctrlQ (c.arg 0 1)) ≤ (s.dev.queue (ctrlQ (c.arg 0 1))).frames.length →
        (u.dev.queue (ctrlQ (c.arg 0 1))).frames = (s.dev.queue (ctrlQ (c.arg 0 1))).frames ∧ ∃ v, u.dev.ctl.out.contains (.completion c.tag .noResource 0 v) = true) ∧
      ((s.dev.queue (ctrlQ (c.arg 0 1))).frames.length < s.dev.qLimit (ctrlQ (c.arg 0 1)) → (s.dev.queue (ctrlQ (c.arg 0 1))).frames ≠ [] →
        (u.dev.queue (ctrlQ (c.arg 0 1))).frames = (s.dev.queue (ctrlQ (c.arg 0 1))).frames ++ [{ bytes := b, at_ := s.dev.now, host := true }]) ∧
      ∀ k, k ≠ ctrlQ (c.arg 0 1) → u.dev.queue k = s.dev.queue k)

/-- TRANSMIT_OPPORTUNITY: a port sends at most one frame at an opportunity; that frame was the head of its queue, or on a SECONDARY the first Delay_Req of the control queue; its class's
gate is open, and it fits before the gate closes; it leaves with its egress stamp; the MAC is then busy for its length and 20 bytes at the line rate; no port that may not send sends. -/
def Sys2Proof.Machine.Transmission : Prop :=
  ∀ (s : State) (p : Nat), s.ready = true →
    exec (.transmitOpportunity p) s = .next (s.setDev (s.dev.transmitOpportunity p)) ∧
    (s.dev.portMaySend p = false → exec (.transmitOpportunity p) s = .next (s.setDev s.dev)) ∧
    (s.dev.active = true → s.dev.candidate p = none → exec (.transmitOpportunity p) s = .next (s.setDev s.dev)) ∧
    (s.dev.active = false → s.dev.pair.role ≠ .secondary → exec (.transmitOpportunity p) s = .next (s.setDev s.dev)) ∧
    (∃ u, exec (.transmitOpportunity p) s = .next u ∧
      (framesOf u.dev.ctl.out = framesOf s.dev.ctl.out ∨
        ∃ c k f cols gap, f ∈ (s.dev.queue k).frames ∧ (s.dev.active = true → (s.dev.queue k).frames.head? = some f) ∧
          (s.dev.active = false → s.dev.pair.role = .secondary ∧ k = ctrlQ p ∧ f.ptp = true) ∧
          (s.dev.eport p).gates.testBit c = true ∧ s.dev.fits p c f.len = true ∧ s.dev.portMaySend p = true ∧
          framesOf u.dev.ctl.out = framesOf s.dev.ctl.out ++ [.frame p (if f.ptp then ptpStamped f.bytes (s.dev.txStamp p) else f.bytes) (s.dev.txStamp p) cols gap] ∧
          (u.dev.eport p).busyUntil = s.dev.now + (8 * (f.len + 20) * nsT + s.dev.lineRate p - 1) / s.dev.lineRate p)) ∧
    (∀ c k f rest, s.dev.active = true → s.dev.portMaySend p = true → s.dev.candidate p = some (c, k) → (s.dev.queue k).frames = f :: rest → (s.dev.queue k).visited = true →
      f.len ≤ (s.dev.queue k).deficit → f.ptp = false →
      ∃ u cols gap, exec (.transmitOpportunity p) s = .next u ∧ framesOf u.dev.ctl.out = framesOf s.dev.ctl.out ++ [.frame p f.bytes (s.dev.txStamp p) cols gap] ∧
        u.dev.counter (pgEgress p) 0x0D0 = s.dev.counter (pgEgress p) 0x0D0 + 1 ∧ ∃ n, (u.dev.queue k).frames = rest.drop n)

/-- PACER_ELIGIBLE, GATE_SWITCHED, GATE_ENTRY_START, QUEUE_SAMPLE, QSTATS_CFG_WRITE. -/
def Sys2Proof.Machine.EgressTimed : Prop :=
  ∀ (s : State) (p k : Nat), s.ready = true →
    exec (.pacerEligible k) s = .next (s.setDev (s.dev.pacerEligible k)) ∧ exec (.gateSwitched p) s = .next (s.setDev (s.dev.gateSwitched p)) ∧
    exec (.gateEntryStart p) s = .next (s.setDev (s.dev.gateEntryStart p)) ∧ exec (.queueSample p) s = .next (s.setDev (s.dev.queueSample p)) ∧
    (8192 ≤ k → s.dev.pacerEligible k = s.dev) ∧ ((s.dev.eport p).pend = none → s.dev.gateSwitched p = s.dev) ∧ ((s.dev.eport p).oper = none → s.dev.gateEntryStart p = s.dev) ∧
    (s.dev.now < (s.dev.eport p).nextSample → s.dev.queueSample p = s.dev) ∧
    (k < 8192 → (nthD [] (s.dev.eport (s.dev.qPort k)).active (s.dev.qCls k)).contains k = false →
      ∃ u, exec (.pacerEligible k) s = .next u ∧ (u.dev.queue k).deficit = min (s.dev.queue k).deficit (s.dev.queue k).quantum ∧
        (u.dev.queue k).frames = (s.dev.queue k).frames ∧ ∀ j, j ≠ k → u.dev.queue j = s.dev.queue j) ∧
    (∀ g t late, p < 8 → (s.dev.eport p).pend = some (g, t, late) →
      (s.dev.now < t → exec (.gateSwitched p) s = .next (s.setDev s.dev)) ∧
      (t ≤ s.dev.now → ∃ u, exec (.gateSwitched p) s = .next u ∧ (u.dev.eport p).pend = none ∧ (u.dev.eport p).oper = (if g.entries.isEmpty then none else some g) ∧
        (u.dev.eport p).lateBase = late ∧ (u.dev.eport p).gates = (g.entryAt s.dev.now).2 ∧ (u.dev.eport p).longest = (List.range 8).map g.longest ∧
        u.dev.counter (pgEgress p) 0x0F8 = s.dev.counter (pgEgress p) 0x0F8 + 1 ∧ (u.dev.page (pgEgress p)).event.getLsbD 0 = true ∧ u.dev.waiting 0x0904 p = false)) ∧
    (∀ g, p < 8 → (s.dev.eport p).oper = some g → ∃ u, exec (.gateEntryStart p) s = .next u ∧
      u.dev.eport p = { s.dev.eport p with entry := (g.entryAt s.dev.now).1, gates := (g.entryAt s.dev.now).2 } ∧ u.dev.egress.queues = s.dev.egress.queues) ∧
    (p < 8 → (s.dev.eport p).nextSample ≤ s.dev.now → s.dev.now % (2 ^ fld (s.dev.reg (pgEgress p) 0x050) 0 4 * usT) < usT →
      ∃ u, exec (.queueSample p) s = .next u ∧ s.dev.now < (u.dev.eport p).nextSample ∧
        (∀ j, ((s.dev.portQueues p).filter (fun x => x == j)).length = 1 → j < 8192 → (u.dev.queue j).stat.n = (s.dev.queue j).stat.n + 1 ∧
          (u.dev.queue j).stat.dSum = (s.dev.queue j).stat.dSum + (s.dev.queue j).depth) ∧ ∀ j, j ∉ s.dev.portQueues p → u.dev.queue j = s.dev.queue j) ∧
    (∀ v, Writable s (pgEgress 0) → bit (s.dev.reg (pgEgress 0) 0x068) 0 = false → bit v 0 = true →
      ∃ u, exec (.qstatsCfgWrite v) s = .next u ∧ bit (u.dev.reg (pgEgress 0) 0x068) 0 = s.dev.pinned 0 (fld (s.dev.reg (pgEgress 0) 0x070) 16 32 * 65536) 262144)

/-- After an alarm the queues of SRTP legs accept nothing, and no queue accepts SRTCP. A queue at its limit drops what arrives, counts it and keeps what it holds; below it the frame stands last, with the instant of its arrival. -/
def Sys2Proof.Machine.QueueLimits : Prop :=
  ∀ (d : Dev) (k : Nat) (f : EFrame),
    (d.egress.stopped = true → (d.srtpQueue k || f.srtcp) = true → d.enqueue k f = d) ∧
    ((d.egress.stopped = false ∨ (d.srtpQueue k || f.srtcp) = false) →
    (d.qLimit k ≤ (d.queue k).frames.length → ((d.enqueue k f).queue k).frames = (d.queue k).frames ∧
      (d.enqueue k f).counter (pgEgress (d.qPort k)) (if 8192 ≤ k then 0x0E8 else 0x0E0) = d.counter (pgEgress (d.qPort k)) (if 8192 ≤ k then 0x0E8 else 0x0E0) + 1) ∧
    ((d.queue k).frames.length < d.qLimit k → (d.queue k).frames ≠ [] → ((d.enqueue k f).queue k).frames = (d.queue k).frames ++ [{ f with at_ := d.now }]) ∧
    (∀ j, j ≠ k → (d.enqueue k f).queue j = d.queue j))

/-- The first switch time of a gate list at or after an instant is a whole number of cycles after its BASE, and no earlier one is. -/
def Sys2Proof.Machine.GateSwitchTimes : Prop :=
  ∀ (base cycle : Nat) (t : Time), t ≤ (gateSwitchAt base cycle t).1 ∧ (gateSwitchAt base cycle t).1 = base + (gateSwitchAt base cycle t).2 * max 1 (cycle * nsT) ∧
    ∀ n, t ≤ base + n * max 1 (cycle * nsT) → (gateSwitchAt base cycle t).2 ≤ n

/-- What the egress schedulers do at their own instants. -/
def Obligations.EgressEvents : Prop := Transmission ∧ EgressTimed

/-- Rules of queues and gates. -/
def Obligations.EgressRules : Prop := QueueLimits ∧ GateSwitchTimes

/-! ### Flint (chapter 12) -/

/-- KEYSLOT_ASSIGN, KEY_QUERY, FLINT_RELEASE. -/
def Sys2Proof.Machine.FlintCommands : Prop :=
  ∀ (s : State) (c : HostCmd),
    (Accepts keyslotAssignSpec c s → ∃ u, exec (.keyslotAssign c) s = .next u ∧
      (∀ k, u.dev.slotOwner k = if c.arg 0 2 ≤ k ∧ k < c.arg 0 2 + c.arg 2 2 then c.arg 4 1 else s.dev.slotOwner k) ∧ ∀ k, u.dev.slot k = s.dev.slot k) ∧
    (Accepts keyQuerySpec c s → ∃ u, exec (.keyQuery c) s = .next u ∧ UnitsKept s u ∧
      u.dev.ctl.out.contains (.completion c.tag (keyQuerySpec.okOr c s) (s.dev.slot (c.arg 0 2)).code (s.dev.slot (c.arg 0 2)).changed) = true) ∧
    (Accepts flintReleaseSpec c s → ∃ u, exec (.flintRelease c) s = .next u ∧ u.aon.alarmLatch = false ∧ u.aon.alarmCause = 0 ∧ (∀ k, u.dev.slot k = {} ∧ u.dev.slotCtxs k = []) ∧
      u.dev.egress.stopped = false ∧ u.aon.alarmEnable = s.aon.alarmEnable ∧ u.aon.alarmLock = s.aon.alarmLock) ∧
    (Accepts flintReleaseSpec c s → s.aon.alarmLatch = true ∧ s.aon.alarmActive = 0)

/-- A key command of the window: busy, it is counted; for a slot of another realm it ends with REALM_DENIED and changes no slot; a WRITE stages what it does and holds BUSY until it is
confirmed; ZEROIZE erases the slot at once; the staging buffer is erased after each. -/
def Sys2Proof.Machine.KeyCommands : Prop :=
  ∀ (s : State) (r k : Nat), s.ready = true →
    (exec (.keyWrite r) s = .next (s.setDev (s.dev.keyWrite r)) ∧ exec (.zeroize r) s = .next (s.setDev (s.dev.zeroize r)) ∧
      exec (.cancelPending r) s = .next (s.setDev (s.dev.cancelPending r)) ∧ exec (.keyCmdConfirm r) s = .next (s.setDev (s.dev.keyCmdConfirm r)) ∧
      exec (.keyCmdTimeout r) s = .next (s.setDev (s.dev.keyCmdTimeout r)) ∧ (∀ off v, exec (.keyRegisterWrite r off v) s = .next (s.setDev (s.dev.keyRegisterWrite r off v))) ∧
      ((64 ≤ r ∨ (s.dev.keyWin r).busy = false) → s.dev.keyCmdConfirm r = s.dev ∧ s.dev.keyCmdTimeout r = s.dev)) ∧
    (r < 64 → k = fld (s.dev.reg (pgRealm r) 0x200) 0 14 →
    ((s.dev.keyWin r).busy = true → exec (.keyWrite r) s = .next (s.setDev (s.dev.err (pgRealm r) .badState)) ∧
      exec (.zeroize r) s = .next (s.setDev (s.dev.err (pgRealm r) .badState)) ∧ exec (.cancelPending r) s = .next (s.setDev (s.dev.err (pgRealm r) .badState))) ∧
    ((s.dev.keyWin r).busy = false → s.dev.decides = true → s.dev.slotOwner k ≠ r → ∃ u, exec (.zeroize r) s = .next u ∧ (u.dev.keyWin r).result = 5 ∧
      (u.dev.keyWin r).busy = false ∧ (u.dev.keyWin r).key = List.replicate 32 0 ∧ ∀ j, u.dev.slot j = s.dev.slot j) ∧
    ((s.dev.keyWin r).busy = false → s.dev.decides = true → s.dev.slotOwner k = r →
      (s.dev.writeBad r k = true → ∃ u, exec (.keyWrite r) s = .next u ∧ (u.dev.keyWin r).result = 2 ∧ (u.dev.keyWin r).busy = false ∧ ∀ j, u.dev.slot j = s.dev.slot j) ∧
      (s.dev.writeBad r k = false → ∃ u, exec (.keyWrite r) s = .next u ∧ (u.dev.keyWin r).busy = true ∧ (u.dev.keyWin r).act = .write (s.dev.staged r) ∧ (u.dev.keyWin r).slot = k ∧
        (u.dev.keyWin r).key = List.replicate 32 0 ∧ (u.dev.keyWin r).salt = List.replicate 16 0 ∧ ∀ j, u.dev.slot j = s.dev.slot j) ∧
      (∃ u, exec (.zeroize r) s = .next u ∧ (u.dev.keyWin r).busy = true ∧ u.dev.slot k = {} ∧ u.dev.slotCtxs k = [] ∧
        ∀ j, j ≠ k → u.dev.slot j = s.dev.slot j ∧ u.dev.slotCtxs j = s.dev.slotCtxs j) ∧
      ((s.dev.slot k).code = 2 → ∃ u, exec (.cancelPending r) s = .next u ∧ (u.dev.keyWin r).busy = true ∧ (u.dev.keyWin r).act = .cancel ∧ ∀ j, u.dev.slot j = s.dev.slot j) ∧
      ((s.dev.slot k).code ≠ 2 → ∃ u, exec (.cancelPending r) s = .next u ∧ (u.dev.keyWin r).result = 4 ∧ (u.dev.keyWin r).busy = false ∧ ∀ j, u.dev.slot j = s.dev.slot j)) ∧
    (∀ h, (s.dev.keyWin r).busy = true → (s.dev.keyWin r).act = .write h → (s.dev.slot (s.dev.keyWin r).slot).current = none →
      ∃ u, exec (.keyCmdConfirm r) s = .next u ∧ (u.dev.keyWin r).busy = false ∧ (u.dev.keyWin r).result = 0 ∧
        u.dev.slot (s.dev.keyWin r).slot = { current := some { h with atIndex := none }, changed := s.dev.short } ∧
        ∀ j, j ≠ (s.dev.keyWin r).slot → u.dev.slot j = s.dev.slot j) ∧
    ((s.dev.keyWin r).busy = true → (s.dev.keyWin r).act = .cancel → ∃ u, exec (.keyCmdConfirm r) s = .next u ∧
      u.dev.slot (s.dev.keyWin r).slot = { s.dev.slot (s.dev.keyWin r).slot with pending := none, rtcpNew := false }) ∧
    ((s.dev.keyWin r).busy = true → s.dev.mirrored = true → (s.dev.keyWin r).since + msT ≤ s.dev.now →
      ∃ u, exec (.keyCmdTimeout r) s = .next u ∧ (u.dev.keyWin r).busy = false ∧ (u.dev.keyWin r).result = 10 ∧ ∀ j, u.dev.slot j = s.dev.slot j) ∧
    (∀ i v, i < 4 → (s.dev.keyWin r).busy = false → (s.dev.keyWin r).key.length = 32 → ∃ u, exec (.keyRegisterWrite r (0x218 + 8 * i) v) s = .next u ∧
      ((u.dev.keyWin r).key.drop (8 * i)).take 8 = leBytes 8 v.toNat ∧ (u.dev.keyWin r).key.take (8 * i) = (s.dev.keyWin r).key.take (8 * i) ∧
      (u.dev.keyWin r).key.drop (8 * i + 8) = (s.dev.keyWin r).key.drop (8 * i + 8) ∧ (u.dev.keyWin r).salt = (s.dev.keyWin r).salt))

/-- The commands of Flint and of the key-slot windows. -/
def Obligations.FlintKeys : Prop := FlintCommands ∧ KeyCommands

/-- ALARM, ALARM_CFG_WRITE, PIPE_CTRL_WRITE, FLINT_PIPE_MOVE, PIPE_FAULT. An enabled source latches its cause, keeps the time of the first and erases every key slot, in reset and frozen
alike; LOCK freezes ENABLE for good. -/
def Obligations.Alarms : Prop :=
  (∀ (s : State) (x : BitVec 5), s.aon.auxOn = true →
    (x &&& (s.aon.alarmEnable ||| 0x0B) = 0 → exec (.alarm x) s = .next { s with aon := { s.aon with alarmActive := x } }) ∧
    (x &&& (s.aon.alarmEnable ||| 0x0B) ≠ 0 → ∃ u, exec (.alarm x) s = .next u ∧ u.aon.alarmLatch = true ∧ u.aon.alarmActive = x ∧
      u.aon.alarmCause = s.aon.alarmCause ||| (x &&& (s.aon.alarmEnable ||| 0x0B)) ∧ (s.aon.alarmLatch = true → u.aon.alarmTime = s.aon.alarmTime) ∧
      (s.aon.alarmLatch = false → u.aon.alarmTime = s.dev.short) ∧ (∀ k, u.dev.slot k = {} ∧ u.dev.slotCtxs k = []) ∧
      (s.up = true → ∀ r, r < 64 → (u.dev.page (pgRealm r)).event.getLsbD 0 = true) ∧
      (s.up = true → ∀ k l, (s.dev.queue k).bind = .leg → (s.dev.queue k).obj = l → (s.dev.leg l).desc.srtp = true → k < 8192 → (s.dev.queue k).port < 8 →
        (u.dev.queue k).frames = []) ∧ (s.up = true → u.dev.egress.stopped = true))) ∧
  (∀ (s : State) (x : BitVec 5), s.aon.auxOn = false → exec (.alarm x) s = .next s) ∧
  (∀ (s : State) (v : Word), Writable s pgFlint →
    ∃ u, exec (.alarmCfgWrite v) s = .next u ∧ u.aon.alarmLock = (s.aon.alarmLock || bit v 8) ∧
      u.aon.alarmEnable = (if s.aon.alarmLock then s.aon.alarmEnable else BitVec.ofNat 5 (fld v 0 5) ||| 0x0B) ∧ u.aon.alarmLatch = s.aon.alarmLatch) ∧
  (∀ (s : State) (v : Word) (p : Nat), Writable s pgFlint → p < 16 → s.dev.flint.pipes.length = 16 →
    ∃ u, exec (.pipeCtrlWrite v) s = .next u ∧
      (bit v p = true → (nthD PState.off s.dev.flint.pipes p = .ready ∨ nthD PState.off s.dev.flint.pipes p = .active) → nthD PState.off u.dev.flint.pipes p = .draining) ∧
      (bit v p = false → (nthD PState.off s.dev.flint.pipes p = .draining ∨ nthD PState.off s.dev.flint.pipes p = .isolated) → nthD PState.off u.dev.flint.pipes p = .ready)) ∧
  (∀ (s : State) (p : Nat), s.ready = true →
    exec (.flintPipeMove p) s = .next (s.setDev (s.dev.flintPipeMove p)) ∧ exec (.pipeFault p) s = .next (s.setDev (s.dev.pipeFault p)) ∧
    (16 ≤ p → s.dev.flintPipeMove p = s.dev ∧ s.dev.pipeFault p = s.dev) ∧
    (p < 16 → s.dev.flint.pipes.length = 16 →
    (nthD PState.off s.dev.flint.pipes p = .draining → tabGetD 0 s.dev.flint.moveAt p ≤ s.dev.now →
      ∃ u, exec (.flintPipeMove p) s = .next u ∧ nthD PState.off u.dev.flint.pipes p = .isolated ∧ (∀ q, q ≠ p → nthD PState.off u.dev.flint.pipes q = nthD PState.off s.dev.flint.pipes q) ∧
        u.dev.waiting 0x0F00 (0x0D0 + p) = false ∧ u.dev.flint.keys = s.dev.flint.keys) ∧
    (∃ u, exec (.pipeFault p) s = .next u ∧ nthD PState.off u.dev.flint.pipes p = .faulted ∧ (∀ q, q ≠ p → nthD PState.off u.dev.flint.pipes q = nthD PState.off s.dev.flint.pipes q) ∧
      (u.dev.page pgFlint).event.getLsbD 6 = true ∧ u.dev.flint.keys = s.dev.flint.keys)))

/-- What is sealed opens to what it was, whatever the cipher and its tag are: an RTP packet no shorter than its header, under the same half, SSRC and index. -/
def Sys2Proof.Machine.SealedOpens : Prop :=
  ∀ (h : KeyHalf) (ssrc idx : Nat) (p : List Byte), rtpHeaderLen p ≤ p.length → srtpOpen h ssrc idx (srtpSeal h ssrc idx p) = some p

/-- The replay window: an index just authenticated is a replay from then on, one beyond the highest is none, and none authenticated before is forgotten while it lies within 128. -/
def Sys2Proof.Machine.ReplayWindow : Prop :=
  ∀ (high : Option Nat) (w idx : Nat),
    replayed (some (windowAdd high w idx).1) (windowAdd high w idx).2 idx = true ∧
    (∀ hi, high = some hi → hi < idx → replayed high w idx = false) ∧
    (∀ j, replayed high w j = true → replayed (some (windowAdd high w idx).1) (windowAdd high w idx).2 j = true)

/-- The index of a sequence number lies within 2^15 of the highest known one, or 2^15 from it on a tie, and has that sequence number. -/
def Sys2Proof.Machine.IndexEstimate : Prop :=
  ∀ (hi seq : Nat), seq < 65536 → 65536 ≤ hi → hi < 2 ^ 48 - 65536 →
    srtpIndex (some hi) seq % 65536 = seq ∧ srtpIndex (some hi) seq ≤ hi + 32768 ∧ hi ≤ srtpIndex (some hi) seq + 32768

/-- An SRTP packet is not taken twice: the second copy is counted and gives nothing. -/
def Sys2Proof.Machine.NoReplay : Prop :=
  ∀ (d e : Dev) (k : Nat) (p q : List Byte), d.flintIn k false p = (e, some q) → (e.flintIn k false p).2 = none

/-- SRTP as Flint carries it. -/
def Obligations.SrtpRules : Prop := SealedOpens ∧ ReplayWindow ∧ IndexEstimate ∧ NoReplay

/-! ### Lanes and ports (chapter 13) -/

/-- Only lane `l` and the state of its unit's link may differ, beside reports: no other lane has changed. -/
def Sys2Proof.Machine.LaneOnly (s t : State) (l : Nat) : Prop := ∀ k, k ≠ l → t.dev.lane k = s.dev.lane k

/-- What each command of the lanes and ports is: the operation on the unit that its row names, and nothing on a lane or a port that does not exist. -/
def Sys2Proof.Machine.LaneForms : Prop :=
  ∀ (s : State) (l n : Nat) (skews : List Nat) (bits : List Bool) (err : Bool), s.up = true →
    exec (.signalDetect l) s = .next (s.setDev (s.dev.signalDetect l)) ∧ exec (.signalLoss l) s = .next (s.setDev (s.dev.signalLoss l)) ∧
    exec (.cdrLock l) s = .next (s.setDev (s.dev.cdrLock l)) ∧ exec (.cdrTimeout l) s = .next (s.setDev (s.dev.cdrTimeout l)) ∧
    exec (.commaDetect l n err) s = .next (s.setDev (s.dev.commaDetect l n err)) ∧ exec (.commaTimeout l) s = .next (s.setDev (s.dev.commaTimeout l)) ∧
    exec (.deskewDone n skews) s = .next (s.setDev (s.dev.deskewDone n skews)) ∧ exec (.deskewTimeout n) s = .next (s.setDev (s.dev.deskewTimeout n)) ∧
    exec (.tryRetry l) s = .next (s.setDev (s.dev.tryRetry l)) ∧ exec (.noPartnerRetry l) s = .next (s.setDev (s.dev.noPartnerRetry l)) ∧
    exec (.syncLoss l) s = .next (s.setDev (s.dev.syncLoss l)) ∧ exec (.skewLoss n) s = .next (s.setDev (s.dev.skewLoss n)) ∧
    exec (.prbsLock l bits) s = .next (s.setDev (s.dev.prbsBits l bits)) ∧ exec (.prbsLockLost l bits) s = .next (s.setDev (s.dev.prbsBits l bits)) ∧
    exec (.elasticAdjust n) s = .next (s.setDev (s.dev.elasticAdjust n)) ∧ exec (.remoteFault n) s = .next (s.setDev (s.dev.remoteFault n)) ∧
    exec (.remoteFaultClear n) s = .next (s.setDev (s.dev.remoteFaultClear n)) ∧ exec (.pmaFault n) s = .next (s.setDev (s.dev.pmaFault n)) ∧
    (40 ≤ l → s.dev.signalDetect l = s.dev ∧ s.dev.signalLoss l = s.dev ∧ s.dev.cdrLock l = s.dev ∧ s.dev.cdrTimeout l = s.dev ∧ s.dev.commaDetect l n err = s.dev ∧
      s.dev.commaTimeout l = s.dev ∧ s.dev.tryRetry l = s.dev ∧ s.dev.noPartnerRetry l = s.dev ∧ s.dev.syncLoss l = s.dev ∧ s.dev.prbsBits l bits = s.dev) ∧
    (9 ≤ n → s.dev.deskewDone n skews = s.dev ∧ s.dev.deskewTimeout n = s.dev ∧ s.dev.skewLoss n = s.dev ∧ s.dev.elasticAdjust n = s.dev ∧ s.dev.remoteFault n = s.dev ∧
      s.dev.remoteFaultClear n = s.dev ∧ (9 < n → s.dev.pmaFault n = s.dev)) ∧
    (40 ≤ l → ∀ v, exec (.laneCfgWrite l v) s = .next s ∧ exec (.errInject l) s = .next s) ∧ (8 ≤ n → ∀ v, exec (.portCfgWrite n v) s = .next s)

/-- Training: each command moves its lane as Table 13-3 and R612 to R618 say, and does nothing to a lane in another state or before it is due. -/
def Sys2Proof.Machine.LaneTraining : Prop :=
  ∀ (s : State) (l : Nat), s.up = true → l < 40 →
    (s.dev.rxPwr l = 2 → (s.dev.lane l).train = .idle → ∃ u, exec (.signalDetect l) s = .next u ∧ LaneOnly s u l ∧ (u.dev.lane l).train = .cdrWait ∧
      (u.dev.lane l).signal = true ∧ (u.dev.lane l).tries = 0 ∧ (u.dev.lane l).tryAt = s.dev.now) ∧
    (s.dev.rxPwr l = 1 → bit (s.dev.laneCfg l) 4 = true → (s.dev.lane l).train = .idle → ∃ u, exec (.signalDetect l) s = .next u ∧ u.dev.rxPwr l = 2 ∧ (u.dev.lane l).train = .cdrWait) ∧
    (s.dev.rxPwr l = 0 → exec (.signalDetect l) s = .next (s.setDev s.dev)) ∧
    ((s.dev.lane l).train.searching = true → (s.dev.lane l).train ≠ .linkUp → ∃ u, exec (.signalLoss l) s = .next u ∧ LaneOnly s u l ∧ (u.dev.lane l).train = .idle ∧ (u.dev.lane l).signal = false) ∧
    ((s.dev.lane l).waitsCdr = true → ∃ u, exec (.cdrLock l) s = .next u ∧ LaneOnly s u l ∧ (u.dev.lane l).train = .commaSearch ∧ (u.dev.lane l).cdrAt = s.dev.now ∧ (u.dev.lane l).run = 0) ∧
    ((s.dev.lane l).waitsCdr = false → exec (.cdrLock l) s = .next (s.setDev s.dev)) ∧
    ((s.dev.lane l).waitsCdr = true → (s.dev.lane l).tryAt + msT ≤ s.dev.now → exec (.cdrTimeout l) s = .next (s.setDev (s.dev.failTry l))) ∧
    ((s.dev.lane l).waitsCdr = true → s.dev.now < (s.dev.lane l).tryAt + msT → exec (.cdrTimeout l) s = .next (s.setDev s.dev)) ∧
    ((s.dev.lane l).train = .commaSearch → 3 ≤ (s.dev.lane l).run → ∃ u, exec (.commaDetect l 0 false) s = .next u ∧ LaneOnly s u l ∧ (u.dev.lane l).train = .deskew ∧
      (u.dev.lane l).aligned = true ∧ (u.dev.lane l).alignedAt = s.dev.now) ∧
    ((s.dev.lane l).train = .commaSearch → (s.dev.lane l).run < 3 → ∃ u, exec (.commaDetect l 0 false) s = .next u ∧ u.dev.lane l = { s.dev.lane l with comma := true, run := (s.dev.lane l).run + 1 }) ∧
    (∀ k, (s.dev.lane l).train = .commaSearch → 0 < k → (s.dev.lane l).slips + k < 10 → ∃ u, exec (.commaDetect l k false) s = .next u ∧
      u.dev.lane l = { s.dev.lane l with comma := true, run := 0, slips := (s.dev.lane l).slips + k }) ∧
    ((s.dev.lane l).train = .commaSearch → (s.dev.lane l).comma = false → (s.dev.lane l).cdrAt + 10 * msT ≤ s.dev.now → exec (.commaTimeout l) s = .next (s.setDev (s.dev.failTry l))) ∧
    (∀ t, (s.dev.lane l).rest = some t → (s.dev.lane l).train = .cdrWait → t ≤ s.dev.now → ∃ u, exec (.tryRetry l) s = .next u ∧ LaneOnly s u l ∧ (u.dev.lane l).waitsCdr = true ∧
      (u.dev.lane l).tryAt = s.dev.now ∧ (u.dev.lane l).tries = (s.dev.lane l).tries) ∧
    ((s.dev.lane l).train = .noPartner → (s.dev.lane l).partnerAt + fld (s.dev.reg (pgQuad (l / 4)) 0x050) 0 16 * msT ≤ s.dev.now → ∃ u, exec (.noPartnerRetry l) s = .next u ∧ LaneOnly s u l ∧
      (u.dev.lane l).train = .cdrWait ∧ (u.dev.lane l).retry = true) ∧
    ((s.dev.lane l).train = .linkUp → ∃ u, exec (.syncLoss l) s = .next u ∧ (u.dev.lane l).train = .cdrWait ∧ (u.dev.lane l).tries = 0 ∧ (u.dev.plink (unitOf l)).up = false ∧
      ∀ k, k ∈ lanesOf (unitOf l) → k ≠ l → (s.dev.lane k).train = .linkUp → (u.dev.lane k).train = .deskew)

/-- A failed try is counted: the next one comes 1 ms later up to the eighth, which takes the lane to NO_PARTNER with an event; a retry from NO_PARTNER that fails stays there without one. -/
def Sys2Proof.Machine.FailedTries : Prop :=
  ∀ (d : Dev) (l : Nat),
    ((d.lane l).retry = true → ((d.failTry l).lane l).train = .noPartner ∧ ((d.failTry l).lane l).partnerAt = d.now ∧ (d.failTry l).page = (d.page)) ∧
    ((d.lane l).retry = false → 7 ≤ (d.lane l).tries → ((d.failTry l).lane l).train = .noPartner ∧ ((d.failTry l).page (pgQuad (l / 4))).event.getLsbD (4 * (l % 4) + 2) = true) ∧
    ((d.lane l).retry = false → (d.lane l).tries < 7 → ((d.failTry l).lane l).train = .cdrWait ∧ ((d.failTry l).lane l).rest = some (d.now + msT) ∧
      ((d.failTry l).lane l).tries = (d.lane l).tries + 1) ∧
    (d.failTry l).counter (pgQuad (l / 4)) (laneCtr l 0x120) = d.counter (pgQuad (l / 4)) (laneCtr l 0x120) + 1 ∧ (∀ k, k ≠ l → (d.failTry l).lane k = d.lane k)

/-- DESKEW_DONE, DESKEW_TIMEOUT, SKEW_LOSS, LANE_RETRAIN, PORT_QUERY, and the lane and port commands beside training. -/
def Sys2Proof.Machine.UnitCommands : Prop :=
  ∀ (s : State) (n : Nat),
    (∀ skews, s.up = true → n ≤ 8 → s.dev.deskewing n = true → (∀ k, k ∈ skews → k ≤ s.dev.skewLimit n) → ∃ u, exec (.deskewDone n skews) s = .next u ∧ (u.dev.plink n).up = true ∧
      (∀ l, l ∈ lanesOf n → (u.dev.lane l).train = .linkUp) ∧ ∀ l, l ∉ lanesOf n → u.dev.lane l = s.dev.lane l) ∧
    (∀ skews, s.up = true → (∃ k, k ∈ skews ∧ s.dev.skewLimit n < k) → exec (.deskewDone n skews) s = .next (s.setDev s.dev)) ∧
    (s.up = true → n ≤ 8 → s.dev.deskewing n = true → maxN ((lanesOf n).map (fun l => (s.dev.lane l).alignedAt)) + msT ≤ s.dev.now → ∃ u, exec (.deskewTimeout n) s = .next u ∧
      ∀ l, l ∈ lanesOf n → (u.dev.lane l).train = .cdrWait ∨ (u.dev.lane l).train = .noPartner) ∧
    (s.up = true → n ≤ 8 → (s.dev.plink n).up = true → ∃ u, exec (.skewLoss n) s = .next u ∧ (u.dev.plink n).up = false ∧ ∀ l, l ∈ lanesOf n → (u.dev.lane l).train = .cdrWait ∧ (u.dev.lane l).tries = 0) ∧
    (∀ c, Accepts laneRetrainSpec c s → ∃ u m, exec (.laneRetrain c) s = .next u ∧ u.dev.ctl.out.contains (.completion c.tag (laneRetrainSpec.okOr c s) m s.dev.short) = true ∧
      (∀ i, i < (lanesOf (unitOf (c.arg 0 1))).length → (m.testBit i = true ↔ (s.dev.lane (nthD 0 (lanesOf (unitOf (c.arg 0 1))) i)).train.searching = true)) ∧
      ∀ l, l ∈ lanesOf (unitOf (c.arg 0 1)) → (s.dev.lane l).train.searching = true → (u.dev.lane l).train = .cdrWait ∧ (u.dev.lane l).tries = 0) ∧
    (∀ c, Accepts portQuerySpec c s → ∃ u, exec (.portQuery c) s = .next u ∧ UnitsKept s u ∧
      u.dev.ctl.out.contains (.completion c.tag (portQuerySpec.okOr c s) (s.dev.upMask (c.arg 0 1) + (if (s.dev.plink (c.arg 0 1)).up then 256 else 0)) (shortOf (s.dev.plink (c.arg 0 1)).changed)) = true) ∧
    (∀ bits, s.up = true → n < 40 →
      (bit (s.dev.laneCfg n) 7 = false → exec (.prbsLock n bits) s = .next (s.setDev s.dev) ∧ exec (.prbsLockLost n bits) s = .next (s.setDev s.dev)) ∧
      (∀ c, bit (s.dev.laneCfg n) 7 = true → fld (s.dev.laneCfg n) 5 2 = 0 → bit (s.dev.laneCfg n) 9 = false → bit (s.dev.prbsCfg n) 7 = false → fld (s.dev.prbsCfg n) 4 3 ≠ 0 →
        c = bits.foldl (fun c b => c.take (fld (s.dev.prbsCfg n) 4 3) b) { (s.dev.lane n).chk with bits := 0, errors := 0, lost := 0 } →
        ∃ u, exec (.prbsLock n bits) s = .next u ∧ exec (.prbsLockLost n bits) s = .next u ∧ (u.dev.lane n).chk = c ∧ LaneOnly s u n ∧
          u.dev.counter (pgQuad (n / 4)) (laneCtr n 0x130) = s.dev.counter (pgQuad (n / 4)) (laneCtr n 0x130) + BitVec.ofNat 64 c.bits ∧
          u.dev.counter (pgQuad (n / 4)) (laneCtr n 0x138) = s.dev.counter (pgQuad (n / 4)) (laneCtr n 0x138) + BitVec.ofNat 64 c.errors ∧
          (0 < c.lost → (u.dev.page (pgQuad (n / 4))).event.getLsbD (4 * (n % 4) + 3) = true))) ∧
    (s.up = true → n ≤ 8 → (s.dev.plink n).up = true → s.dev.dense n = true → ∃ u, exec (.elasticAdjust n) s = .next u ∧
      u.dev.counter (pgQuad (s.dev.wireLane n 0 / 4)) (laneCtr (s.dev.wireLane n 0) 0x118) = s.dev.counter (pgQuad (s.dev.wireLane n 0 / 4)) (laneCtr (s.dev.wireLane n 0) 0x118) + 1 ∧
      u.dev.lanes = s.dev.lanes ∧ u.dev.ctl.pages = s.dev.ctl.pages) ∧
    (s.up = true → n < 8 → (s.dev.plink n).up = true →
      (s.dev.dense n = false → ∃ u, exec (.elasticAdjust n) s = .next u ∧ u.dev.counter (pgPort n) 0x0D8 = s.dev.counter (pgPort n) 0x0D8 + 1 ∧
        (10 ≤ ((s.dev.plink n).elastic.filter (fun t => decide (s.dev.now < t + secT))).length → (u.dev.page (pgPort n)).event.getLsbD 3 = true ∧ (u.dev.plink n).elastic = []) ∧
        (((s.dev.plink n).elastic.filter (fun t => decide (s.dev.now < t + secT))).length < 10 → (u.dev.page (pgPort n)).event = (s.dev.page (pgPort n)).event)) ∧
      ((s.dev.plink n).remote = false → ∃ u, exec (.remoteFault n) s = .next u ∧ (u.dev.plink n).remote = true ∧ u.dev.counter (pgPort n) 0x0E8 = s.dev.counter (pgPort n) 0x0E8 + 1 ∧
        (u.dev.page (pgPort n)).event.getLsbD 2 = true) ∧
      (∃ u, exec (.remoteFaultClear n) s = .next u ∧ (u.dev.plink n).remote = false ∧ u.dev.lanes.lanes = s.dev.lanes.lanes)) ∧
    (s.up = true → n < 10 → ∃ u, exec (.pmaFault n) s = .next u ∧ PageBecomes s u (pgQuad n) { s.dev.page (pgQuad n) with state := .faulted })

/-- LANE_CFG_WRITE, ERR_INJECT, PORT_CFG_WRITE: LOOPBACK and TEST_RATE hold while ISOLATE is 0; ISOLATE isolates the lane; an error is injected into an isolated lane only; a port that is
disabled has every lane off or isolated. -/
def Sys2Proof.Machine.LaneRegisters : Prop :=
  ∀ (s : State) (l p : Nat) (v : Word), s.dev.boot.phase = .ready → Alone s →
    (l < 40 → Reaches s (pgQuad (l / 4)) → ∃ u, exec (.laneCfgWrite l v) s = .next u ∧ bit (u.dev.laneCfg l) 7 = bit v 7 ∧
      (bit (s.dev.laneCfg l) 7 = false → fld (u.dev.laneCfg l) 24 3 = fld (s.dev.laneCfg l) 24 3) ∧ (bit v 7 = false → fld (u.dev.laneCfg l) 5 2 = 0) ∧
      (bit v 7 = true → (u.dev.lane l).train = .isolated) ∧ (bit v 7 = false → (u.dev.lane l).train ≠ .isolated) ∧
      ∀ k, k < 40 → k ≠ l → u.dev.laneCfg k = s.dev.laneCfg k) ∧
    (l < 40 → Reaches s (pgQuad (l / 4)) → bit (s.dev.laneCfg l) 7 = true → ∃ u, exec (.errInject l) s = .next u ∧ u.dev.ctl.out.contains (.errBit l) = true ∧ u.dev.lane l = { s.dev.lane l with flip := true } ∧
      LaneOnly s u l ∧ u.dev.prbsCfg l = s.dev.prbsCfg l) ∧
    (l < 40 → Reaches s (pgQuad (l / 4)) → bit (s.dev.laneCfg l) 7 = false → ∃ u, exec (.errInject l) s = .next u ∧ u.dev.ctl.out = s.dev.ctl.out ∧ u.dev.lanes = s.dev.lanes ∧
      (u.dev.page (pgQuad (l / 4))).errLast = 4) ∧
    (p < 8 → Writable s (pgPort p) → ∃ u, exec (.portCfgWrite p v) s = .next u ∧ bit (u.dev.portCfg p) 0 = bit v 0 ∧
      (bit (s.dev.portCfg p) 0 = true → bit (u.dev.portCfg p) 1 = bit (s.dev.portCfg p) 1 ∧ bit (u.dev.portCfg p) 5 = bit (s.dev.portCfg p) 5) ∧
      (bit v 0 = false → ∀ k, k ∈ lanesOf p → (u.dev.lane k).train = .off ∨ (u.dev.lane k).train = .isolated))

/-- A checker on a sequence it has seeded from: LOCKED from the 1,024th bit without an error on; from then it counts each bit, and each inverted one as one error; the sequence it
follows is the generator's. -/
def Sys2Proof.Machine.PrbsChecking : Prop :=
  ∀ (code m : Nat) (c : Checker), c.reg.length = (prbsTaps code).1 →
    (c.locked = false → c.good = 0 → m < 1024 → ((prbsRun code m c.reg).1.foldl (Checker.take code) c).locked = false) ∧
    (c.locked = false → c.good = 0 → 1024 ≤ m → ((prbsRun code m c.reg).1.foldl (Checker.take code) c).locked = true ∧
      ((prbsRun code m c.reg).1.foldl (Checker.take code) c).bits = c.bits + (m - 1024) ∧ ((prbsRun code m c.reg).1.foldl (Checker.take code) c).errors = c.errors ∧
      ((prbsRun code m c.reg).1.foldl (Checker.take code) c).reg = (prbsRun code m c.reg).2) ∧
    (c.locked = true → c.wrong = [] → (c.take code (!prbsNext code c.reg)).locked = true ∧ (c.take code (!prbsNext code c.reg)).bits = c.bits + 1 ∧
      (c.take code (!prbsNext code c.reg)).errors = c.errors + 1) ∧
    (c.locked = false → (c.take code (!prbsNext code c.reg)).reg = [] ∧ (c.take code (!prbsNext code c.reg)).good = 0)

/-- A frame laid out in columns is received as it was sent, over any number of lanes; the gap after a frame is 9 to 15 bytes, the next frame starts in lane 0, and the deficit stays
within 3. -/
def Sys2Proof.Machine.FramesInColumns : Prop :=
  (∀ (w : Nat) (b : List Byte), 0 < w → frameOf (frameColumns w b) = some b ∧ (∀ c, c ∈ frameColumns w b → c.length = w) ∧
    ((frameColumns w b).head?.bind List.head?) = some symS) ∧
  (∀ (k n : Nat), k ≤ 3 → 9 ≤ (gapAfter k n).1 ∧ (gapAfter k n).1 ≤ 15 ∧ (gapAfter k n).2 ≤ 3 ∧ (n + (gapAfter k n).1) % 4 = 0)

/-- Lane training, test, and what the lanes carry. -/
def Obligations.LaneCommands : Prop := LaneForms ∧ LaneTraining ∧ FailedTries ∧ PrbsChecking ∧ FramesInColumns

/-- Units of lanes, ports and their registers. -/
def Obligations.PortCommands : Prop := UnitCommands ∧ LaneRegisters

/-- A port, or the Mirror Link, is up exactly while each of its lanes is in LINK_UP. -/
def Sys2Proof.Machine.LinkFollows (d : Dev) : Prop := ∀ u, u ≤ 8 → (d.plink u).up = (lanesOf u).all (fun l => decide ((d.lane l).train = .linkUp))

/-- Every lane command keeps LinkFollows; it holds at reset. -/
def Obligations.LinkFollowsLanes : Prop :=
  LinkFollows State.reset.dev ∧
  ∀ (s t : State) (l n : Nat) (bits : List Bool) (skews : List Nat) (err : Bool) (c : HostCmd), LinkFollows s.dev →
    (exec (.signalDetect l) s = .next t ∨ exec (.signalLoss l) s = .next t ∨ exec (.cdrLock l) s = .next t ∨ exec (.cdrTimeout l) s = .next t ∨ exec (.commaDetect l n err) s = .next t ∨
      exec (.commaTimeout l) s = .next t ∨ exec (.deskewDone n skews) s = .next t ∨ exec (.deskewTimeout n) s = .next t ∨ exec (.tryRetry l) s = .next t ∨
      exec (.noPartnerRetry l) s = .next t ∨ exec (.syncLoss l) s = .next t ∨ exec (.skewLoss n) s = .next t ∨ exec (.laneRetrain c) s = .next t ∨ exec (.prbsLock l bits) s = .next t ∨
      exec (.prbsLockLost l bits) s = .next t ∨ exec (.elasticAdjust n) s = .next t ∨ exec (.remoteFault n) s = .next t ∨ exec (.remoteFaultClear n) s = .next t) → LinkFollows t.dev

/-! ### The mirrored pair (chapter 14) -/

/-- The unit takes frame `f`: the link is up, and the frame is the one expected. -/
def Sys2Proof.Machine.Takes (s : State) (f : LinkHdr) : Prop :=
  s.up = true ∧ s.dev.linkUser = true ∧ s.dev.pair.up = true ∧ f.crcOk = true ∧ f.seq = s.dev.pair.rxSeq

/-- What each row of the pair is: the operation that its name says, on the unit's link and role; a frame while the link is down is lost. -/
def Sys2Proof.Machine.PairForms : Prop :=
  ∀ (s : State) (f : LinkHdr) (h : HelloMsg) (es : List ManifestEntry) (rs : List LogRecord) (ds : List (Nat × Word)) (ns : List Nat) (b : List Byte) (p : Option (List Byte))
    (rc : RelayedCmd) (i j k : Nat) (v : Word), s.up = true →
    exec .heartbeatPulse s = .next (s.setDev s.dev.heartbeatPulse) ∧ exec (.hbInPulse i) s = .next (s.setDev (s.dev.hbInPulse i)) ∧
    exec .heartbeatLoss s = .next (s.setDev s.dev.heartbeatLoss) ∧ exec .frameSilence s = .next (s.setDev s.dev.frameSilence) ∧
    exec .frozenIndication s = .next (s.setDev s.dev.frozenIndication) ∧ exec .roleDecisionTimeout s = .next (s.setDev s.dev.roleTimeout) ∧
    exec .deposed s = .next (s.setDev (if 5 ≤ s.dev.pair.hbRun then s.dev.depose else s.dev)) ∧ exec .linkUp s = .next (s.setDev s.dev.mirrorUp) ∧
    exec .linkFail s = .next (s.setDev s.dev.mirrorFail) ∧ exec .linkRetransmit s = .next (s.setDev s.dev.linkRetransmit) ∧
    exec .linkIdleAck s = .next (s.setDev s.dev.linkIdleAck) ∧ exec .commandRelayTimeout s = .next (s.setDev s.dev.relayTimeout) ∧
    exec .digestTimeout s = .next (s.setDev s.dev.digestTimeout) ∧ exec (.resyncDone i) s = .next (s.setDev (if i < 4096 then s.dev.resyncDone i else s.dev)) ∧
    exec .failoverTakeover s = .next (s.setDev s.dev.failover) ∧
    exec (.hello f h) s = .next (s.setDev (if s.dev.linkUser then s.dev.linkAccept f (fun d => d.helloTable h) else s.dev)) ∧
    exec (.ack f) s = .next (s.setDev (s.dev.linkAccept f id)) ∧
    exec (.manifest f es) s = .next (s.setDev (s.dev.linkAccept f (fun d => d.manifest f es))) ∧
    exec (.manifestAck f i) s = .next (s.setDev (s.dev.linkAccept f (fun d => if d.pair.role = .primary then d.manifestAcked i else d))) ∧
    exec (.log f rs) s = .next (s.setDev (s.dev.linkAccept f (fun d => if d.pair.role = .secondary then (d.onPair (fun p => { p with due := p.due ++ rs })).applyDue else d))) ∧
    exec (.digest f i ds) s = .next (s.setDev (s.dev.linkAccept f (fun d =>
      if d.pair.partner = .ready then (d.onPair (fun p => { p with theirs := p.theirs ++ [(i, ds)] })).compareDigests else d))) ∧
    exec (.relayReq f ns) s = .next (s.setDev (s.dev.linkAccept f (fun d => if d.pair.role = .primary then ns.foldl (fun d i => d.relayAnswer i) d else d))) ∧
    exec (.relayData f i p) s = .next (s.setDev (s.dev.linkAccept f (fun d => if d.pair.role = .secondary then d.relayed i p else d))) ∧
    exec (.command f rc) s = .next (s.linkTake f (fun s => s.early (.command rc))) ∧ exec (.regWrite f i j v) s = .next (s.linkTake f (fun s => s.early (.write i j v))) ∧
    exec (.key f i j b) s = .next (s.setDev (s.dev.linkAccept f (fun d => if d.pair.role = .secondary then d.joinBegins.keyRelayed (i % 16384) j f.seq b else d))) ∧
    exec (.state f i j b) s = .next (s.setDev (s.dev.linkAccept f (fun d =>
      if d.pair.role = .secondary then d.joinBegins.onPair (fun p => { p with chunks := p.chunks ++ [(i, j, b)] }) else d))) ∧
    (Takes s f → exec (.image f i j k b) s = .next ((s.setDev (s.dev.linkAccept f id)).image i j k b)) ∧
    (s.dev.pair.up = false → ∀ c, c ∈ [Instr.hello f h, .ack f, .manifest f es, .manifestAck f i, .log f rs, .digest f i ds, .relayReq f ns, .relayData f i p, .command f rc,
      .regWrite f i j v, .key f i j b, .state f i j b, .surrender f i, .takeover f i, .image f i j k b] → exec c s = .next (s.setDev s.dev)) ∧
    (s.dev.paired = false → ∀ c, c ∈ [Instr.heartbeatPulse, .hbInPulse i, .heartbeatLoss, .frameSilence, .frozenIndication, .roleDecisionTimeout] → exec c s = .next (s.setDev s.dev))

/-- Heartbeats and FROZEN, and what a role and a heartbeat that does not come decide. -/
def Sys2Proof.Machine.Heartbeats : Prop :=
  ∀ (s : State), s.up = true → s.dev.paired = true →
    (s.dev.pair.hbNext * (100 * usT) ≤ s.dev.now → ∃ u, exec .heartbeatPulse s = .next u ∧
      u.dev.ctl.out = s.dev.ctl.out ++ [.heartbeat (if s.dev.pair.role = .primary then 1 else 2)] ∧ s.dev.now < u.dev.pair.hbNext * (100 * usT)) ∧
    (s.dev.now < s.dev.pair.hbNext * (100 * usT) → exec .heartbeatPulse s = .next (s.setDev s.dev)) ∧
    (∀ w, 0 < w → ∃ u, exec (.hbInPulse w) s = .next u ∧ u.dev.pair.hbOk = true ∧ u.dev.pair.frozen = false ∧
      (500 ≤ w → w < 1500 → u.dev.pair.hbPrimary = true ∧ u.dev.pair.hbRun = s.dev.pair.hbRun + 1) ∧
      (w < 500 ∨ (1500 ≤ w ∧ w ≤ 5000) → u.dev.pair.hbPrimary = false ∧ u.dev.pair.hbRun = 0) ∧
      (5000 < w → u.dev.pair.hbPrimary = s.dev.pair.hbPrimary ∧ u.dev.pair.hbRun = 0) ∧ u.dev.pair.role = s.dev.pair.role ∧ u.dev.ctl = s.dev.ctl) ∧
    (s.dev.pair.hbOk = true → s.dev.pair.hbLast + 500 * usT ≤ s.dev.now → ∃ u, exec .heartbeatLoss s = .next u ∧ u.dev.pair.hbOk = false ∧ u.dev.pair.hbRun = 0 ∧
      (s.dev.now < s.dev.pair.rxAt + 500 * usT → (u.dev.page pgPair).event.getLsbD 6 = true ∧ u.dev.pair.takeover = s.dev.pair.takeover)) ∧
    (s.dev.pair.hbOk = true → s.dev.now < s.dev.pair.hbLast + 500 * usT → exec .heartbeatLoss s = .next (s.setDev s.dev)) ∧
    (s.dev.pair.role = .secondary → s.dev.pair.partner = .ready → s.dev.pair.takeover = none →
      (s.dev.pair.hbOk = true → s.dev.pair.hbLast + 500 * usT ≤ s.dev.now → s.dev.pair.rxAt + 500 * usT ≤ s.dev.now →
        ∃ u, exec .heartbeatLoss s = .next u ∧ u.dev.pair.takeover = some (nextBoundary s.dev.now, 1) ∧ u.dev.pair.driving = true) ∧
      (s.dev.pair.hbOk = false → s.dev.pair.rxAt + 500 * usT ≤ s.dev.now →
        ∃ u, exec .frameSilence s = .next u ∧ u.dev.pair.takeover = some (nextBoundary s.dev.now, 1) ∧ u.dev.pair.driving = true) ∧
      (∃ u, exec .frozenIndication s = .next u ∧ u.dev.pair.frozen = true ∧ u.dev.pair.takeover = some (nextBoundary s.dev.now, 2) ∧ u.dev.pair.driving = true)) ∧
    (∃ u, exec .frozenIndication s = .next u ∧ u.dev.pair.frozen = true ∧ u.dev.waiting opFreezeNow partnerObj = false) ∧
    (s.dev.pair.role = .undecided → s.dev.pair.since + 2 * secT ≤ s.dev.now → ∃ u, exec .roleDecisionTimeout s = .next u ∧ u.dev.pair.role = .primary ∧ u.dev.pair.cause = 5 ∧
      u.dev.pair.changed = s.dev.short ∧ (s.dev.pair.partner = .conflict → u.dev.pair.partner = .conflict) ∧
      (s.dev.pair.partner ≠ .conflict → u.dev.pair.partner = .absent ∧ (u.dev.page pgPair).event.getLsbD 0 = true)) ∧
    (s.dev.pair.role ≠ .undecided ∨ s.dev.now < s.dev.pair.since + 2 * secT → exec .roleDecisionTimeout s = .next (s.setDev s.dev)) ∧
    (5 ≤ s.dev.pair.hbRun → s.dev.pair.role = .primary → s.dev.pair.partner ≠ .absent → s.dev.pair.partner ≠ .conflict → ∃ u, exec .deposed s = .next u ∧
      u.dev.pair.role = .secondary ∧ u.dev.pair.cause = 4 ∧ u.dev.pair.partner = .lost ∧ (u.dev.page pgPair).event.getLsbD 3 = true) ∧
    (s.dev.pair.hbRun < 5 → exec .deposed s = .next (s.setDev s.dev))

/-- The Mirror Link comes up with its numbers at 0, fails when ACK does not advance for 2 ms, sends again after 20 µs, and sends an ACK after 10 µs of silence. -/
def Sys2Proof.Machine.LinkTiming : Prop :=
  ∀ (s : State), s.up = true →
    (s.dev.linkUser = true → s.dev.boot.phase ≠ .recovery → (s.dev.plink 8).up = true → s.dev.pair.up = false → ∃ u, exec .linkUp s = .next u ∧ u.dev.pair.up = true ∧
      u.dev.pair.hello = false ∧ u.dev.pair.rxSeq = 0 ∧ (∃ fr, u.dev.pair.sent.head? = some fr ∧ fr.type = ltHello ∧ fr.seq = 0)) ∧
    (s.dev.pair.up = true → exec .linkUp s = .next (s.setDev s.dev)) ∧
    (s.dev.pair.up = true → ((s.dev.plink 8).up = false ∨ (s.dev.pair.sent ≠ [] ∧ s.dev.pair.ackAt + 2 * msT ≤ s.dev.now)) → ∃ u, exec .linkFail s = .next u ∧
      u.dev.pair.up = false ∧ u.dev.pair.hello = false ∧ u.dev.pair.role = s.dev.pair.role ∧
      (s.dev.pair.role = .primary → s.dev.pair.partner = .ready ∨ s.dev.pair.partner = .joining → u.dev.pair.partner = .lost ∧ (u.dev.page pgPair).event.getLsbD 2 = true)) ∧
    ((s.dev.plink 8).up = true → (s.dev.pair.sent = [] ∨ s.dev.now < s.dev.pair.ackAt + 2 * msT) → exec .linkFail s = .next (s.setDev s.dev)) ∧
    (s.dev.pair.up = true → s.dev.pair.sent ≠ [] → s.dev.pair.ackAt + 20 * usT ≤ s.dev.now → s.dev.pair.retxAt + 20 * usT ≤ s.dev.now → ∃ u, exec .linkRetransmit s = .next u ∧
      u.dev.ctl.out.length = s.dev.ctl.out.length + s.dev.pair.sent.length ∧ u.dev.pair.sent = s.dev.pair.sent ∧ u.dev.pair.retxAt = s.dev.now ∧
      u.dev.counter pgPair 0x0C0 = s.dev.counter pgPair 0x0C0 + 1) ∧
    (s.dev.pair.sent = [] → exec .linkRetransmit s = .next (s.setDev s.dev)) ∧
    (s.dev.pair.up = true → s.dev.pair.ready = [] → s.dev.pair.txAt + 10 * usT ≤ s.dev.now → s.dev.pair.sent.length < 8192 → ∃ u fr, exec .linkIdleAck s = .next u ∧
      u.dev.pair.sent = s.dev.pair.sent ++ [fr] ∧ fr.type = ltAck ∧ fr.bytes = [] ∧ fr.seq = s.dev.pair.txSeq ∧ u.dev.pair.txSeq = (s.dev.pair.txSeq + 1) % 4294967296) ∧
    (s.dev.now < s.dev.pair.txAt + 10 * usT → exec .linkIdleAck s = .next (s.setDev s.dev)) ∧
    (s.dev.pair.role = .primary → s.dev.pair.partner = .ready ∨ s.dev.pair.partner = .joining →
      (∃ fr t, fr ∈ s.dev.pair.sent ∧ fr.proc = some t ∧ t + 200 * usT ≤ s.dev.now) → ∃ u, exec .commandRelayTimeout s = .next u ∧ u.dev.pair.partner = .lost ∧
        u.dev.pair.role = .primary ∧ (u.dev.page pgPair).event.getLsbD 2 = true) ∧
    ((∀ fr, fr ∈ s.dev.pair.sent ++ s.dev.pair.ready → fr.proc = none) → exec .commandRelayTimeout s = .next (s.setDev s.dev)) ∧
    (s.dev.pair.partner = .ready ∨ s.dev.pair.partner = .joining → (∃ e, e ∈ s.dev.pair.own ∧ e.2.1 + 200 * msT ≤ s.dev.now) → ∃ u, exec .digestTimeout s = .next u ∧
      u.dev.pair.partner = .lost ∧ u.dev.pair.own = [] ∧ u.dev.pair.listed = [] ∧ (u.dev.page pgPair).event.getLsbD 2 = true) ∧
    (s.dev.pair.own = [] → exec .digestTimeout s = .next (s.setDev s.dev))

/-- A frame whose CRC is wrong or whose SEQ is not the one expected is discarded and counted, whatever its type. -/
def Sys2Proof.Machine.FramesRefused : Prop :=
  ∀ (s : State) (f : LinkHdr) (h : HelloMsg) (es : List ManifestEntry) (rs : List LogRecord) (ds : List (Nat × Word)) (ns : List Nat) (b : List Byte) (p : Option (List Byte))
    (rc : RelayedCmd) (i j k : Nat) (v : Word), s.up = true → s.dev.linkUser = true → s.dev.pair.up = true → (f.crcOk = false ∨ f.seq ≠ s.dev.pair.rxSeq) →
    ∀ c, c ∈ [Instr.hello f h, .ack f, .manifest f es, .manifestAck f i, .log f rs, .digest f i ds, .relayReq f ns, .relayData f i p, .command f rc, .regWrite f i j v, .key f i j b,
        .state f i j b, .surrender f i, .takeover f i, .image f i j k b] → exec c s = .next (s.setDev (s.dev.inc pgPair 0x0C8))

/-- A frame of this type and payload has been sent, or waits to be. -/
def Sys2Proof.Machine.Queued (u : State) (t : Nat) (b : List Byte) : Prop := ∃ fr, fr ∈ u.dev.pair.sent ++ u.dev.pair.ready ∧ fr.type = t ∧ fr.bytes = b

/-- ACK: the frames it acknowledges are released, the others kept. -/
def Sys2Proof.Machine.AckTaken : Prop :=
  ∀ (s : State) (f : LinkHdr), Takes s f → s.dev.pair.ready = [] → ∃ u, exec (.ack f) s = .next u ∧ u.dev.pair.rxSeq = (s.dev.pair.rxSeq + 1) % 4294967296 ∧
    u.dev.pair.rxAt = s.dev.now ∧ u.dev.pair.sent = s.dev.pair.sent.filter (fun x => decide ((x.seq + 4294967296 - f.ack) % 4294967296 < 2147483648)) ∧
    u.dev.pair.role = s.dev.pair.role ∧ u.dev.pair.partner = s.dev.pair.partner ∧ u.dev.legs = s.dev.legs

/-- HELLO by Table 14-4: two units of one strap, or a unit that proves nothing, are in conflict; an undecided unit becomes what its strap or the other's role makes it;
two primaries are in conflict; a primary takes a partner back, joining at once only while AUTO_JOIN is 1 and the formats are the same. -/
def Sys2Proof.Machine.HelloTable : Prop :=
  ∀ (s : State) (f : LinkHdr) (h : HelloMsg), Takes s f → s.dev.boot.phase ≠ .recovery → h.role ≠ 4 → ∃ u, exec (.hello f h) s = .next u ∧ u.dev.pair.partnerId = h.serial ∧
    (h.authOk = false ∨ h.strap = s.dev.pair.strap → u.dev.pair.partner = .conflict ∧ u.dev.pair.role = s.dev.pair.role ∧ (u.dev.page pgPair).event.getLsbD 5 = true) ∧
    (h.authOk = true → h.strap ≠ s.dev.pair.strap → u.dev.pair.hello = true ∧
      (s.dev.pair.role = .undecided → h.role = 2 → u.dev.pair.role = .secondary ∧ u.dev.pair.cause = 0) ∧
      (s.dev.pair.role = .undecided → h.role = 1 → u.dev.pair.role = (if s.dev.pair.strap = 1 then .primary else .secondary)) ∧
      (s.dev.pair.role = .undecided → h.role = 3 → u.dev.pair.role = .undecided) ∧
      (s.dev.pair.role = .primary → h.role = 2 → u.dev.pair.role = .primary ∧ u.dev.pair.partner = .conflict ∧ (u.dev.page pgPair).event.getLsbD 5 = true) ∧
      (s.dev.pair.role = .primary → h.role = 1 ∨ h.role = 3 → u.dev.pair.role = .primary ∧
        u.dev.pair.partner = (if bit (s.dev.reg pgPair 0x050) 0 = true ∧ h.stateFmt = s.dev.boot.stateFmt then .joining else .waiting)) ∧
      (s.dev.pair.role = .secondary → h.role = 2 → u.dev.pair.role = .secondary ∧ u.dev.pair.partner = (if h.sees = 3 ∧ h.stateFmt = s.dev.boot.stateFmt then .joining else .waiting)) ∧
      (h.stateFmt ≠ s.dev.boot.stateFmt → (u.dev.page pgBoot).event.getLsbD 4 = true))

/-- MANIFEST, MANIFEST_ACK, RELAY_REQ, RELAY_DATA: entries are numbered in order and their packets worked through only when the epoch closes; a packet that is missing is asked for;
egress held for an entry leaves once it is acknowledged; a packet kept is relayed, another refused. -/
def Sys2Proof.Machine.ManifestTaken : Prop :=
  ∀ (s : State) (f : LinkHdr), Takes s f →
    (∀ e, s.dev.pair.role = .secondary → (∀ x, x ∈ s.dev.pair.listed → x.isEnd = false ∧ x.index < s.dev.pair.nextIn) → e.isEnd = false → ∃ u, exec (.manifest f [e]) s = .next u ∧
      u.dev.pair.nextIn = s.dev.pair.nextIn + 1 ∧ u.dev.pair.listed.length = s.dev.pair.listed.length + 1 ∧ u.dev.legs = s.dev.legs ∧ u.dev.audio = s.dev.audio ∧
      ((∀ p, p ∈ s.dev.pair.stash → (p.leg ≠ e.leg % 4096 ∨ p.stream ≠ e.stream)) → Queued u ltRelayReq (leBytes 4 s.dev.pair.nextIn))) ∧
    (∀ es, s.dev.pair.role = .primary → ∃ u, exec (.manifest f es) s = .next u ∧ u.dev.pair.listed = s.dev.pair.listed ∧ u.dev.pair.role = .primary ∧ u.dev.legs = s.dev.legs) ∧
    (∀ i, s.dev.pair.role = .primary → ∃ u, exec (.manifestAck f i) s = .next u ∧ u.dev.pair.held = s.dev.pair.held.filter (fun e => decide (i < e.1)) ∧
      ((∀ e, e ∈ s.dev.pair.held → i < e.1) → u.dev.egress = s.dev.egress)) ∧
    (∀ i e, s.dev.pair.role = .primary → s.dev.pair.kept.find? (fun e => e.1 == i && decide (s.dev.now / msT < e.2.stamp / msT + 10)) = some e → e.2.frame.length ≤ 9000 →
      relayCells s.dev.pair.ready + (e.2.frame.length + 5 + 2047) / 2048 ≤ 32832 →
      ∃ u, exec (.relayReq f [i]) s = .next u ∧ u.dev.counter pgPair 0x078 = s.dev.counter pgPair 0x078 + 1 ∧ Queued u ltRelayData (leBytes 4 i ++ [0] ++ e.2.frame)) ∧
    (∀ i, s.dev.pair.role = .primary → s.dev.pair.kept.find? (fun e => e.1 == i) = none →
      ∃ u, exec (.relayReq f [i]) s = .next u ∧ u.dev.counter pgPair 0x080 = s.dev.counter pgPair 0x080 + 1 ∧ Queued u ltRelayData (leBytes 4 i ++ [1])) ∧
    (∀ i x b, s.dev.pair.role = .secondary → (∀ y, y ∈ s.dev.pair.listed → y.isEnd = false) →
      s.dev.pair.listed.find? (fun y => y.index == i && !y.isEnd && y.packet.isNone && !y.refused) = some x →
      (∃ u, exec (.relayData f i (some b)) s = .next u ∧ u.dev.counter pgPair 0x078 = s.dev.counter pgPair 0x078 + 1 ∧
        (∃ y k, y ∈ u.dev.pair.listed ∧ y.index = i ∧ y.packet = some k ∧ k.leg = x.leg ∧ k.stamp = x.stamp ∧ k.frame = b)) ∧
      (∃ u, exec (.relayData f i none) s = .next u ∧ u.dev.counter pgPair 0x080 = s.dev.counter pgPair 0x080 + 1 ∧
        (∃ y, y ∈ u.dev.pair.listed ∧ y.index = i ∧ y.refused = true ∧ y.packet = none) ∧ (u.dev.page pgPair).event.getLsbD 4 = true))

/-- LOG, DIGEST, RESYNC_DONE: records wait for their epoch; sets that differ are counted and raise DIVERGENCE, and start a resynchronisation while AUTO_RESYNC is 1. -/
def Sys2Proof.Machine.DigestsCompared : Prop :=
  ∀ (s : State) (f : LinkHdr),
    (∀ rs, Takes s f → s.dev.pair.role = .secondary → (∀ r, r ∈ s.dev.pair.due ++ rs → s.dev.now / msT < r.epoch) → ∃ u, exec (.log f rs) s = .next u ∧
      u.dev.pair.due = s.dev.pair.due ++ rs ∧ u.dev.legs = s.dev.legs ∧ u.dev.egress = s.dev.egress ∧ u.dev.ptp = s.dev.ptp) ∧
    (∀ e t l v w, Takes s f → s.dev.pair.partner = .ready → s.dev.pair.own = [(e, t, [(l, w)])] → s.dev.pair.theirs = [] → l < 4096 → s.dev.pair.resyncing = [] →
      ∃ u, exec (.digest f e [(l, v)]) s = .next u ∧ u.dev.pair.own = [] ∧ u.dev.pair.theirs = [] ∧
        (v = w → u.dev.counter pgPair 0x098 = s.dev.counter pgPair 0x098 + 1 ∧ u.dev.counter pgPair 0x0A0 = s.dev.counter pgPair 0x0A0 ∧ u.dev.pair.resyncing = []) ∧
        (v ≠ w → u.dev.counter pgPair 0x0A0 = s.dev.counter pgPair 0x0A0 + 1 ∧ u.dev.counter pgPair 0x098 = s.dev.counter pgPair 0x098 ∧ (u.dev.page pgPair).event.getLsbD 4 = true ∧
          u.dev.pair.resyncing = if bit (s.dev.reg pgPair 0x050) 1 then [l] else [])) ∧
    (∀ l, s.up = true → l < 4096 → s.dev.pair.role = .primary → s.dev.pair.resyncing = [l + 4096] →
      (∀ i, i ∈ s.dev.legEncoders l → (s.dev.encS i).refreshing = false) → ∃ u, exec (.resyncDone l) s = .next u ∧ u.dev.pair.resyncing = [] ∧
        (u.dev.page pgPair).event.getLsbD 7 = true ∧ u.dev.waiting 0x0C03 l = false) ∧
    (∀ l, s.up = true → l < 4096 → s.dev.pair.resyncing = [] → exec (.resyncDone l) s = .next (s.setDev s.dev))

/-- COMMAND, REG_WRITE, KEY, STATE, SURRENDER, TAKEOVER on a unit that is SECONDARY, and TAKEOVER on a PRIMARY. -/
def Sys2Proof.Machine.Relays : Prop :=
  ∀ (s : State) (f : LinkHdr), Takes s f →
    (s.dev.pair.role = .secondary →
      (∀ r o, s.dev.pair.filling = false → opSpec r.opcode = some o → o.atOnce = false → r.opcode ≠ 0x0001 → r.opcode ≠ 0x0700 → ∃ u a, exec (.command f r) s = .next u ∧ u.dev.ctl.accepted = s.dev.ctl.accepted ++ [a] ∧
        a.due = r.boundary ∧ a.tok.cmd = r.cmd ∧ a.tok.opcode = r.opcode ∧ a.tok.relayed = true ∧ a.data = r.data ∧ a.late = false ∧ u.dev.legs = s.dev.legs) ∧
      (∀ r, s.dev.pair.filling = true → ∃ u, exec (.command f r) s = .next u ∧ u.dev.pair.early = s.dev.pair.early ++ [.command r] ∧ u.dev.ctl.accepted = s.dev.ctl.accepted) ∧
      (∀ p off v, s.dev.pair.filling = true → ∃ u, exec (.regWrite f p off v) s = .next u ∧ u.dev.pair.early = s.dev.pair.early ++ [.write p off v] ∧ u.dev.ctl.regs = s.dev.ctl.regs) ∧
      (∀ off v g, s.dev.pair.filling = false → off < 0x800 → PType.device.regAt off = some g → g.rws = false → 0x048 ≤ off → off % 8 = 0 → s.pageState pgDevice ≠ .isolated → s.pageState pgDevice ≠ .testing →
        ∃ u, exec (.regWrite f pgDevice off v) s = .next u ∧ u.dev.reg pgDevice off = (mergeFields g.flds (s.dev.reg pgDevice off) (s.seen pgDevice off) v).1) ∧
      (∀ k b, (s.dev.pair.partner = .ready ∨ s.dev.pair.filling = true) → k < 16384 → ∃ u, exec (.key f k 2 b) s = .next u ∧ u.dev.slot k = {} ∧ u.dev.slotCtxs k = [] ∧ ∀ j, j ≠ k → u.dev.slot j = s.dev.slot j) ∧
      (∀ k x b, (s.dev.pair.partner = .ready ∨ s.dev.pair.filling = true) → x ≠ 2 → ∃ u, exec (.key f k x b) s = .next u ∧ (Config.linkOpen b f.seq = none → u.dev.flint = s.dev.flint)) ∧
      (∀ n off b, s.dev.pair.partner ≠ .ready → (s.dev.pair.filling = true → s.dev.pair.partner = .joining) → ∃ u, exec (.state f n off b) s = .next u ∧
        u.dev.pair.chunks = s.dev.pair.chunks ++ [(n, off, b)] ∧ u.dev.pair.partner = .joining ∧ u.dev.pair.filling = true ∧
        (s.dev.pair.filling = false → ∀ k, u.dev.slot k = {} ∧ u.dev.slotCtxs k = []) ∧ u.dev.legs = s.dev.legs ∧ u.dev.ctl.regs = s.dev.ctl.regs) ∧
      (∀ b, s.dev.pair.partner = .ready → s.dev.pair.takeover = none → ∃ u, exec (.surrender f b) s = .next u ∧
        u.dev.pair.takeover = some (nearShort s.dev.now (BitVec.ofNat 64 b), 3) ∧ u.dev.pair.role = .secondary) ∧
      (∀ b, ∃ u, exec (.takeover f b) s = .next u ∧ u.dev.pair.role = .secondary)) ∧
    (∀ b, s.dev.pair.role = .primary → s.dev.pair.partner = .ready → ∃ u, exec (.takeover f b) s = .next u ∧ u.dev.pair.role = .secondary ∧ u.dev.pair.cause = 4 ∧
      u.dev.pair.partner = .lost ∧ u.dev.counter pgPair 0x0B8 = s.dev.counter pgPair 0x0B8 + 1)

/-- A command of the pair's is accepted as its rules say, whether or not it is relayed too. -/
def Sys2Proof.Machine.Carried (o : OpSpec) (c : HostCmd) (s : State) : Prop :=
  s.ready = true ∧ (c.dated = true → s.dev.datedPending < 8192) ∧ (o.actsNow (o.token c s) s.dev).isSome = true ∧ o.judged c s = none

/-- JOIN_COMPLETE on a PRIMARY and FAILOVER_TAKEOVER of a SECONDARY that holds no packet. -/
def Sys2Proof.Machine.JoinAndTakeover : Prop :=
  ∀ (s : State), s.up = true →
    (s.dev.pair.role = .primary → s.dev.pair.partner = .joining → s.dev.pair.joinAt.isSome = true → ∃ u, exec .joinComplete s = .next u ∧ u.dev.pair.partner = .ready ∧
      u.dev.pair.chunks = [] ∧ (u.dev.page pgPair).event.getLsbD 1 = true ∧ u.dev.waiting 0x0C02 0 = false ∧ u.dev.legs = s.dev.legs) ∧
    (s.dev.pair.partner ≠ .joining → exec .joinComplete s = .next (s.setDev s.dev)) ∧
    (∀ t cause, s.dev.pair.takeover = some (t, cause) → s.dev.pair.role = .secondary → s.dev.pair.partner = .ready → s.dev.pair.listed = [] → s.dev.pair.stash = [] →
      (t ≤ s.dev.now → ∃ u, exec .failoverTakeover s = .next u ∧ u.dev.pair.role = .primary ∧ u.dev.pair.cause = cause ∧ u.dev.pair.takeover = none ∧
        u.dev.pair.changed = s.dev.short ∧ u.dev.pair.partner = (if cause = 3 then .ready else .lost) ∧ (u.dev.page pgPair).event.getLsbD 3 = true) ∧
      (s.dev.now < t → exec .failoverTakeover s = .next (s.setDev s.dev)))

/-- PAIR_SURRENDER, PAIR_YIELD, PAIR_JOIN, LEG_RESYNC, PAIR_QUERY; a mirrored unit carries out LEG_RESYNC at an epoch boundary 250 µs away or later. -/
def Sys2Proof.Machine.PairOpcodes : Prop :=
  ∀ (s : State) (c : HostCmd),
    (Carried pairSurrenderSpec c s → s.dev.pair.surrender = none → ∃ u, exec (.pairSurrender c) s = .next u ∧ u.dev.pair.surrender = some (epochCeil (s.dev.now + 2 * msT)) ∧
      u.dev.waiting 0x0C00 0 = true ∧ u.dev.pair.role = .primary) ∧
    (Accepts pairYieldSpec c s → ∃ u, exec (.pairYield c) s = .next u ∧ u.dev.pair.role = .secondary ∧ u.dev.pair.cause = 6 ∧ u.dev.pair.partner = .joining ∧
      u.dev.ctl.out.contains (.completion c.tag (pairYieldSpec.okOr c s) 0 s.dev.short) = true) ∧
    (Accepts pairJoinSpec c s → ∃ u, exec (.pairJoin c) s = .next u ∧ u.dev.pair.partner = .joining ∧ u.dev.pair.wanted = true ∧ u.dev.waiting 0x0C02 0 = true) ∧
    (s.ready = true → (c.dated = true → s.dev.datedPending < 8192) → legResyncSpec.judged c s = none → ∃ u a, exec (.legResync c) s = .next u ∧
      u.dev.ctl.accepted = s.dev.ctl.accepted ++ [a] ∧ a.tok.cmd = c ∧ a.tok.opcode = 0x0C03 ∧ s.dev.now + 250 * usT ≤ a.due ∧ u.dev.pair.resyncing = s.dev.pair.resyncing ∧ u.dev.legs = s.dev.legs) ∧
    (∀ l k late, k.opcode = 0x0C03 → s.dev.pair.resyncing = [] → ∃ u, answer k late (legResyncSpec.run c l k s) = u ∧ u.dev.pair.resyncing = [c.arg 0 2] ∧ u.dev.waiting 0x0C03 (c.arg 0 2) = true ∧
      u.dev.counter pgPair 0x0B0 = s.dev.counter pgPair 0x0B0 + 1) ∧
    (Accepts pairQuerySpec c s → ∃ u, exec (.pairQuery c) s = .next u ∧ UnitsKept s u ∧
      u.dev.ctl.out.contains (.completion c.tag (pairQuerySpec.okOr c s) (s.dev.pairStatus.toNat % 65536) s.dev.pair.changed) = true) ∧
    (s.ready = true → s.dev.pair.role = .solo → c.realm = 0 → c.flags = 0 → c.rsvd = 0 → fullValid c.when0 c.when1 = true → (∀ k, k < 40 → c.arg k 1 = 0) →
      ∃ u, exec (.pairSurrender c) s = .next u ∧ u.dev.pair = s.dev.pair ∧ u.dev.ctl.out.contains (.completion c.tag .stateConflict 0 s.dev.freeWord) = true)

/-- Roles, heartbeats and the timing of the link. -/
def Obligations.PairTiming : Prop := PairForms ∧ Heartbeats ∧ LinkTiming

/-- Frames of the Mirror Link. -/
def Obligations.LinkFrames : Prop := FramesRefused ∧ AckTaken ∧ HelloTable ∧ ManifestTaken ∧ DigestsCompared ∧ Relays

/-- Joining, failover and the commands of the pair. -/
def Obligations.PairCommands : Prop := JoinAndTakeover ∧ PairOpcodes

/-! ### Translation, work and movement (chapter 15) -/

/-- The command ends with this completion, and no time passes. -/
def Sys2Proof.Machine.Ends (u s : State) (c : HostCmd) (st : Status) (detail : Nat) (result : Word) : Prop :=
  u.dev.ctl.out.contains (.completion c.tag st detail result) = true ∧ u.dev.clk = s.dev.clk

/-- XLAT_MAP: every byte of the pages mapped translates to its place in the range named, for a write only where W is 1, and what translated before still does. -/
def Sys2Proof.Machine.Mapped : Prop :=
  ∀ (s : State) (c : HostCmd), Accepts xlatMapSpec c s → ∃ u, exec (.xlatMap c) s = .next u ∧ Ends u s c (xlatMapSpec.okOr c s) (c.arg 2 2) s.dev.short ∧
    ((mapLeaf c).target < 2 → ∀ k, k < c.arg 2 2 * (mapLeaf c).size →
      u.dev.translate (c.arg 0 1) (c.arg 8 8 + k) false = .ok ((mapLeaf c).target, (mapLeaf c).out + k) ∧
      ((mapLeaf c).w = true → u.dev.translate (c.arg 0 1) (c.arg 8 8 + k) true = .ok ((mapLeaf c).target, (mapLeaf c).out + k)) ∧
      ((mapLeaf c).w = false → ∃ e, u.dev.translate (c.arg 0 1) (c.arg 8 8 + k) true = .error e ∧ e.code = 2)) ∧
    (∀ r va w x, s.dev.translate r va w = .ok x → u.dev.translate r va w = .ok x) ∧
    u.dev.counter pgXlat 0x070 = s.dev.counter pgXlat 0x070 + BitVec.ofNat 64 (c.arg 2 2)

/-- XLAT_UNMAP, XLAT_PROTECT, XLAT_QUERY. -/
def Sys2Proof.Machine.MapChanges : Prop :=
  ∀ (s : State) (c : HostCmd),
    (Accepts xlatUnmapSpec c s → ∃ u, exec (.xlatUnmap c) s = .next u ∧ Ends u s c (xlatUnmapSpec.okOr c s) (c.arg 2 2) s.dev.short ∧
      (∀ e, e ∈ u.dev.xlat.leaves ↔ (e ∈ s.dev.xlat.leaves ∧ ∀ k, k < c.arg 2 2 → e.1 ≠ leafKey (c.arg 0 1) ((c.arg 8 8 + k * pageSize (c.arg 4 1 == 1)) / 65536))) ∧
      u.dev.xlat.holds = s.dev.xlat.holds) ∧
    (Accepts xlatProtectSpec c s → ∃ u, exec (.xlatProtect c) s = .next u ∧ Ends u s c (xlatProtectSpec.okOr c s) (c.arg 2 2) s.dev.short ∧
      (∀ k, k < c.arg 2 2 → u.dev.leafFor (c.arg 0 1) (c.arg 8 8 + k * pageSize (c.arg 4 1 == 1)) (c.arg 4 1 == 1) =
        (s.dev.leafFor (c.arg 0 1) (c.arg 8 8 + k * pageSize (c.arg 4 1 == 1)) (c.arg 4 1 == 1)).map (fun l => { l with w := c.arg 5 1 % 2 == 1, pageable := c.arg 5 1 / 2 == 1 })) ∧
      u.dev.xlat.leaves.map (fun e => (e.1, e.2.large, e.2.target, e.2.out)) = s.dev.xlat.leaves.map (fun e => (e.1, e.2.large, e.2.target, e.2.out))) ∧
    (Accepts xlatQuerySpec c s → ∃ u, exec (.xlatQuery c) s = .next u ∧ UnitsKept s u ∧
      (leafOf s.dev.xlat (c.arg 0 1) (c.arg 8 8) = none → Ends u s c (xlatQuerySpec.okOr c s) 0 0) ∧
      (∀ base l, leafOf s.dev.xlat (c.arg 0 1) (c.arg 8 8) = some (base, l) →
        Ends u s c (xlatQuerySpec.okOr c s) (if s.dev.heldPage (c.arg 0 1) base l.size then 2 else 1) (s.dev.leafWord (c.arg 0 1) base l)))

/-- FAULT_RESUME, FAULT_ABORT, FAULT_TIMEOUT, FAULT_BASE_WRITE. -/
def Sys2Proof.Machine.FaultCommands : Prop :=
  ∀ (s : State) (c : HostCmd),
    (Accepts faultResumeSpec c s → (∃ u m, exec (.faultResume c) s = .next u ∧ m ≤ 1 ∧ Ends u s c (faultResumeSpec.okOr c s) m s.dev.short) ∧
      (∀ x, s.dev.fault (c.arg 0 2) = some x → x.work = .none → ∃ u, exec (.faultResume c) s = .next u ∧ u.dev.fault (c.arg 0 2) = some { x with isOpen := false })) ∧
    (Accepts faultAbortSpec c s → (∃ u, exec (.faultAbort c) s = .next u ∧ Ends u s c (faultAbortSpec.okOr c s) 0 s.dev.short) ∧
      (∀ x, s.dev.fault (c.arg 0 2) = some x → x.work = .none → ∃ u, exec (.faultAbort c) s = .next u ∧ u.dev.fault (c.arg 0 2) = some { x with isOpen := false } ∧
        u.dev.counter pgXlat 0x0A0 = s.dev.counter pgXlat 0x0A0 + 1)) ∧
    (∀ id x, s.ready = true → s.dev.fault id = some x → x.isOpen = true → fld (s.dev.reg pgXlat 0x058) 0 16 ≠ 0 →
      (x.time + fld (s.dev.reg pgXlat 0x058) 0 16 * msT ≤ s.dev.now → ∃ u, exec (.faultTimeout id) s = .next u ∧ (u.dev.page pgXlat).event.getLsbD 4 = true ∧
        (x.work = .none → u.dev.fault id = some { x with isOpen := false })) ∧
      (s.dev.now < x.time + fld (s.dev.reg pgXlat 0x058) 0 16 * msT → exec (.faultTimeout id) s = .next (s.setDev s.dev))) ∧
    (∀ id, s.ready = true → fld (s.dev.reg pgXlat 0x058) 0 16 = 0 → exec (.faultTimeout id) s = .next (s.setDev s.dev)) ∧
    (∀ v, Writable s pgXlat →
      (bit (s.dev.reg pgXlat 0x050) 0 = false → ∃ u, exec (.faultBaseWrite v) s = .next u ∧
        bit (u.dev.reg pgXlat 0x050) 0 = (bit v 0 && s.dev.pinned 0 (fld v 16 32 * 65536) 32768) ∧ fld (u.dev.reg pgXlat 0x050) 16 32 = fld v 16 32) ∧
      (bit (s.dev.reg pgXlat 0x050) 0 = true → ∃ u, exec (.faultBaseWrite v) s = .next u ∧ bit (u.dev.reg pgXlat 0x050) 0 = bit v 0 ∧
        fld (u.dev.reg pgXlat 0x050) 16 32 = fld (s.dev.reg pgXlat 0x050) 16 32))

/-- DOMAIN_SET, DISP_SUBMIT, DISP_QUERY, DISP_FLUSH, TIMED_ITEM_RELEASE. -/
def Sys2Proof.Machine.DispatcherCommands : Prop :=
  ∀ (s : State) (c : HostCmd),
    (Accepts domainSetSpec c s → ∃ u, exec (.domainSet c) s = .next u ∧ Ends u s c (domainSetSpec.okOr c s) 0 s.dev.short ∧
      u.dev.domain (c.arg 0 2) = { s.dev.domain (c.arg 0 2) with realm := c.arg 2 1, ordered := c.arg 3 1 == 1 } ∧ ∀ k, k ≠ c.arg 0 2 → u.dev.domain k = s.dev.domain k) ∧
    (Accepts dispSubmitSpec c s → (∃ u, exec (.dispSubmit c) s = .next u ∧ Ends u s c (dispSubmitSpec.okOr c s) (c.arg 0 2) s.dev.short ∧
        u.dev.counter pgDispatch 0x058 = s.dev.counter pgDispatch 0x058 + BitVec.ofNat 64 (c.arg 0 2)) ∧
      (∀ l i, c.arg 0 2 = 1 → capturePinned s.dev c.realm (c.arg 8 8) 32 = some l → itemParse l = i →
        (i.flags % 2 = 0 → ∃ u, exec (.dispSubmit c) s = .next u ∧
          (u.dev.domain i.domain).waiting = (s.dev.domain i.domain).waiting ++ [((s.dev.domain i.domain).arrivals, { i with seq := (s.dev.domain i.domain).arrivals % 65536 })] ∧
          (∀ k, k ≠ i.domain → u.dev.domain k = s.dev.domain k) ∧ u.dev.disp.delay = s.dev.disp.delay) ∧
        (i.flags % 2 = 1 → s.dev.now < s.dev.itemTime i → ∃ u, exec (.dispSubmit c) s = .next u ∧ u.dev.disp.delay = s.dev.disp.delay ++ [(s.dev.itemTime i, i)] ∧
          u.dev.disp.domains = s.dev.disp.domains))) ∧
    (Accepts dispQuerySpec c s → ∃ u, exec (.dispQuery c) s = .next u ∧ UnitsKept s u ∧
      Ends u s c (dispQuerySpec.okOr c s) (s.dev.domain (c.arg 0 2)).code (fmk 0 32 (s.dev.domain (c.arg 0 2)).waiting.length ||| fmk 32 32 (s.dev.domain (c.arg 0 2)).inService.length)) ∧
    (Accepts dispFlushSpec c s → ∃ u, exec (.dispFlush c) s = .next u ∧ Ends u s c (dispFlushSpec.okOr c s) (min 65535 (s.dev.domain (c.arg 0 2)).waiting.length) s.dev.short ∧
      ((s.dev.domain (c.arg 0 2)).service = [] → u.dev.domain (c.arg 0 2) = { s.dev.domain (c.arg 0 2) with waiting := [] } ∧ ∀ k, k ≠ c.arg 0 2 → u.dev.domain k = s.dev.domain k)) ∧
    (∀ t i, s.ready = true → s.dev.disp.delay = [(t, i)] → t ≤ s.dev.now / usT * usT → ∃ u, exec .timedItemRelease s = .next u ∧ u.dev.disp.delay = [] ∧
      (u.dev.domain i.domain).waiting = (s.dev.domain i.domain).waiting ++ [((s.dev.domain i.domain).arrivals, { i with seq := (s.dev.domain i.domain).arrivals % 65536 })] ∧
      u.dev.counter pgDispatch 0x068 = s.dev.counter pgDispatch 0x068 + 1) ∧
    (s.ready = true → (∀ e, e ∈ s.dev.disp.delay → s.dev.now / usT * usT < e.1) → exec .timedItemRelease s = .next (s.setDev s.dev))

/-- An ORDERED domain gives the earliest of the best level, another gives its items one at a time in the order of arrival. -/
def Sys2Proof.Machine.DomainOrder : Prop :=
  ∀ (x : Domain) (e : Nat × Item), x.next = some e → e ∈ x.waiting ∧
    (x.ordered = true → ∀ y, y ∈ x.waiting → e.2.prio ≤ y.2.prio) ∧ (x.ordered = false → x.waiting.head? = some e ∧ x.inService = [])

/-- A channel's DMA registers may be written, and CH_CTRL holds none of its write-only bits. -/
def Sys2Proof.Machine.ChWritable (s : State) (ch : Nat) : Prop := ch < 32 ∧ Writable s (pgDma ch) ∧ fld (s.dev.chReg ch 0) 1 3 = 0

/-- CH_ENABLE, CH_STOP, CH_RESUME, CH_SKIP, CH_TAIL_WRITE. -/
def Sys2Proof.Machine.ChannelControl : Prop :=
  ∀ (s : State) (ch : Nat) (v : Word), ChWritable s ch →
    (fld v 1 3 = 0 → s.dev.chOn ch = false → bit v 0 = true →
      (s.dev.chBase ch % (64 * s.dev.chEntries ch) = 0 → s.dev.pinned 0 (s.dev.chBase ch) (64 * s.dev.chEntries ch) = true → ∃ u, exec (.chEnable ch v) s = .next u ∧
        u.dev.chOn ch = true ∧ u.dev.dch ch = { head := (s.dev.dch ch).head, state := .active } ∧ u.dev.chPrio ch = fld v 8 4 ∧ ∀ k, k ≠ ch → u.dev.dch k = s.dev.dch k) ∧
      (¬(s.dev.chBase ch % (64 * s.dev.chEntries ch) = 0 ∧ s.dev.pinned 0 (s.dev.chBase ch) (64 * s.dev.chEntries ch) = true) → ∃ u, exec (.chEnable ch v) s = .next u ∧ u.dev.chOn ch = false ∧ u.dev.dch ch = s.dev.dch ch ∧
        (u.dev.page (pgDma ch)).errLast = 4)) ∧
    (s.dev.chOn ch = true → (s.dev.dch ch).busy = false → (∃ u, exec (.chStop ch) s = .next u ∧ u.dev.chOn ch = false ∧ u.dev.dch ch = { head := (s.dev.dch ch).head }) ∧
      (fld v 1 3 = 0 → bit v 0 = false → ∃ u, exec (.chEnable ch v) s = .next u ∧ u.dev.chOn ch = false ∧ u.dev.dch ch = { head := (s.dev.dch ch).head })) ∧
    (s.dev.chOn ch = true → (s.dev.dch ch).busy = true → (s.dev.dch ch).halted = false → ∃ u, exec (.chStop ch) s = .next u ∧ u.dev.chOn ch = true ∧
      u.dev.dch ch = { s.dev.dch ch with stop := true }) ∧
    (s.dev.chOn ch = true → (s.dev.dch ch).halted = true → ∃ u, exec (.chStop ch) s = .next u ∧ u.dev.chOn ch = false ∧ (u.dev.dch ch).state = .off ∧ (u.dev.dch ch).busy = false) ∧
    (s.dev.chOn ch = false → ∃ u, exec (.chStop ch) s = .next u ∧ u.dev.chOn ch = false ∧ ∀ k, u.dev.dch k = s.dev.dch k) ∧
    ((s.dev.dch ch).halted = false → (∃ u, exec (.chResume ch) s = .next u ∧ (u.dev.page (pgDma ch)).errLast = 4 ∧ ∀ k, u.dev.dch k = s.dev.dch k) ∧
      (∃ u, exec (.chSkip ch) s = .next u ∧ (u.dev.page (pgDma ch)).errLast = 4 ∧ ∀ k, u.dev.dch k = s.dev.dch k)) ∧
    ((s.dev.dch ch).halted = true → s.dev.chOn ch = true → (s.dev.dch ch).stop = false →
      (∃ u, exec (.chSkip ch) s = .next u ∧ u.dev.dch ch = { state := .active, head := ((s.dev.dch ch).head + 1) % s.dev.chEntries ch } ∧
        u.dev.counter pgXlat 0x0A0 = s.dev.counter pgXlat 0x0A0 + 1 ∧ ∀ k, k ≠ ch → u.dev.dch k = s.dev.dch k) ∧
      (∀ l, s.dev.readVa 0 (s.dev.chDesc ch) 64 = .ok l → (dmaParse l).op = 3 → (dmaParse l).bad = false → bit (s.dev.chReg ch 0x28) (dmaParse l).srcRealm = true →
        bit (s.dev.chReg ch 0x28) (dmaParse l).dstRealm = true → ∃ u, exec (.chResume ch) s = .next u ∧
          u.dev.dch ch = { s.dev.dch ch with state := .active, faultId := none, ending := some (1, 0) })) ∧
    (badIndex (s.dev.chEntries ch) (s.dev.dch ch).head (s.dev.chTail ch) (fld v 0 16) = false → ∃ u, exec (.chTailWrite ch v) s = .next u ∧ u.dev.chTail ch = fld v 0 16 ∧
      u.dev.dch ch = s.dev.dch ch) ∧
    (s.dev.chOn ch = true → badIndex (s.dev.chEntries ch) (s.dev.dch ch).head (s.dev.chTail ch) (fld v 0 16) = true → ∃ u, exec (.chTailWrite ch v) s = .next u ∧
      (u.dev.dch ch).state = .faulted ∧ (u.dev.dch ch).faultId = none ∧ (u.dev.page (pgDma ch)).event.getLsbD (2 * (ch % 8) + 1) = true ∧ u.dev.xlat.faults = s.dev.xlat.faults)

/-- DMA_DESCRIPTOR_START, DMA_WAIT_EXPIRY, DMA_DESCRIPTOR_END: a FILL whose every address translates writes its pattern to each and nothing else; a realm that is not allowed is a fault;
the end writes back, counts, moves CH_HEAD on and lets the mover go. -/
def Sys2Proof.Machine.ChannelWork : Prop :=
  ∀ (s : State) (m ch : Nat) (l : List Byte), s.ready = true →
    (m < 8 → nthD none s.dev.dma.movers m = none → s.dev.chChoose = some ch → s.dev.readVa 0 (s.dev.chDesc ch) 64 = .ok l → (dmaParse l).bad = false → (dmaParse l).overlaps = false →
      (bit (s.dev.chReg ch 0x28) (dmaParse l).srcRealm = false → ∃ u x, exec (.dmaDescriptorStart m false none) s = .next u ∧ (u.dev.dch ch).state = .faulted ∧
        u.dev.xlat.faults = s.dev.xlat.faults ++ [x] ∧ x.code = 3 ∧ x.work = .dma ch (s.dev.dch ch).head ∧ (u.dev.page (pgDma ch)).event.getLsbD (2 * (ch % 8) + 1) = true) ∧
      (bit (s.dev.chReg ch 0x28) (dmaParse l).srcRealm = true → bit (s.dev.chReg ch 0x28) (dmaParse l).dstRealm = true →
        ((dmaParse l).op = 2 → ∃ u, exec (.dmaDescriptorStart m false none) s = .next u ∧ (u.dev.dch ch).wait = some (nearShort s.dev.now (dmaParse l).time) ∧ (u.dev.dch ch).busy = true ∧
          u.dev.mem = s.dev.mem) ∧
        ((dmaParse l).op = 3 → ∃ u, exec (.dmaDescriptorStart m false none) s = .next u ∧ (u.dev.dch ch).ending = some (1, 0) ∧ u.dev.mem = s.dev.mem) ∧
        ((dmaParse l).op = 1 → (∀ k, k < (dmaParse l).len → ∃ x, s.dev.translate (dmaParse l).dstRealm ((dmaParse l).dst + k) true = .ok x) →
          ∃ u, exec (.dmaDescriptorStart m false none) s = .next u ∧ (u.dev.dch ch).ending = some (1, (dmaParse l).len) ∧
            (∀ k t a, k < (dmaParse l).len → s.dev.translate (dmaParse l).dstRealm ((dmaParse l).dst + k) true = .ok (t, a) →
              (∀ j t' a', j < (dmaParse l).len → j ≠ k → s.dev.translate (dmaParse l).dstRealm ((dmaParse l).dst + j) true = .ok (t', a') → a' ≠ a) →
              u.dev.targetRead t a = nthD 0 (dmaParse l).pat (k % 8)) ∧
            (∀ t a, (∀ j t' a', j < (dmaParse l).len → s.dev.translate (dmaParse l).dstRealm ((dmaParse l).dst + j) true = .ok (t', a') → a' ≠ a) →
              u.dev.targetRead t a = s.dev.targetRead t a)))) ∧
    (∀ t, (s.dev.dch ch).wait = some t → t ≤ s.dev.now → ∃ u, exec (.dmaWaitExpiry ch) s = .next u ∧ u.dev.dch ch = { s.dev.dch ch with wait := none, ending := some (1, 0) } ∧
      ∀ k, k ≠ ch → u.dev.dch k = s.dev.dch k) ∧
    (∀ t, (s.dev.dch ch).wait = some t → s.dev.now < t → exec (.dmaWaitExpiry ch) s = .next (s.setDev s.dev)) ∧
    (∀ r n, ch < 32 → (s.dev.dch ch).ending = some (r, n) → (s.dev.dch ch).stop = false → ∃ u, exec (.dmaDescriptorEnd ch) s = .next u ∧
      u.dev.dch ch = { state := (s.dev.dch ch).state, head := ((s.dev.dch ch).head + 1) % s.dev.chEntries ch } ∧ u.dev.dma.movers.contains (some ch) = false ∧
      u.dev.counter (pgDma ch) (chOff ch 0x38) = s.dev.counter (pgDma ch) (chOff ch 0x38) + 1 ∧
      u.dev.counter (pgDma ch) (chOff ch 0x30) = s.dev.counter (pgDma ch) (chOff ch 0x30) + BitVec.ofNat 64 n) ∧
    (∀ r n, ch < 32 → (s.dev.dch ch).ending = some (r, n) → (s.dev.dch ch).stop = true → ∃ u, exec (.dmaDescriptorEnd ch) s = .next u ∧ u.dev.chOn ch = false ∧
      (u.dev.dch ch).state = .off) ∧
    ((s.dev.dch ch).ending = none → exec (.dmaDescriptorEnd ch) s = .next (s.setDev s.dev))

/-- ECC_MAP_WRITE, ECC_REGION_READY, SLICE_CFG_WRITE, CHANNEL_FAILURE, TEMP_HIGH. -/
def Sys2Proof.Machine.MemoryCommands : Prop :=
  ∀ (s : State) (v : Word),
    (∀ w b, Writable s (pgMemctl 0) → w < 2 → b < 64 → 64 * w + b < 126 → s.dev.mem.eccBusy = none → ∃ u, exec (.eccMapWrite w v) s = .next u ∧
      bit (u.dev.reg (pgMemctl 0) (0x058 + 8 * w)) b = (if s.dev.regionMapped (64 * w + b) then bit (s.dev.reg (pgMemctl 0) (0x058 + 8 * w)) b else bit v b) ∧
      u.dev.mem.dram = s.dev.mem.dram) ∧
    (∀ w, Writable s (pgMemctl 0) → w < 2 → s.dev.mem.eccBusy.isSome = true → ∃ u, exec (.eccMapWrite w v) s = .next u ∧ (∀ p o, u.dev.reg p o = s.dev.reg p o) ∧
      u.dev.mem = s.dev.mem) ∧
    (∀ m t, s.ready = true → Memory.wf s.dev.mem.dram = true → s.dev.mem.eccBusy = some (m, t) → t ≤ s.dev.now → ∃ u, exec .eccRegionReady s = .next u ∧ u.dev.mem.eccBusy = none ∧
      ∀ a, memRead u.dev.mem.dram a = if m.testBit (a / 1073741824) then 0 else memRead s.dev.mem.dram a) ∧
    (∀ m t, s.ready = true → s.dev.mem.eccBusy = some (m, t) → s.dev.now < t → exec .eccRegionReady s = .next (s.setDev s.dev)) ∧
    (∀ k, Writable s pgSlab → k < 16 → s.dev.sliceLeaves k = [] → ∃ u, exec (.sliceCfgWrite k v) s = .next u ∧ (u.dev.slice k).scratch = min 18 (fld v 0 5) ∧
      (u.dev.slice k).isolate = bit v 8 ∧ (bit v 8 = true → (u.dev.slice k).state = .isolated) ∧ ∀ j, j ≠ k → u.dev.slice j = s.dev.slice j) ∧
    (∀ k, Writable s pgSlab → k < 16 → bit v 8 = true → (s.dev.sliceLeaves k).any (fun e => s.dev.heldPage (e.1 / 4294967296) (e.1 % 4294967296 * 65536) e.2.size) = false →
      ∃ u, exec (.sliceCfgWrite k v) s = .next u ∧ (bit (s.dev.reg pgSlab (0x100 + 8 * k)) 8 = false → u.dev.sliceLeaves k = []) ∧ (u.dev.slice k).state = .isolated) ∧
    (∀ k n, s.up = true → k < 16 → n < 4 → ∃ u, exec (.channelFailure k n) s = .next u ∧ (u.dev.page (pgMemctl k)).state = .faulted ∧
      (∀ i, i < 4 → (u.dev.memChannels k).testBit i = ((s.dev.memChannels k).testBit i && decide (i ≠ n)) ∨ 16 ≤ tabGetD 0 s.dev.mem.channels k) ∧ u.dev.mem.dram = s.dev.mem.dram) ∧
    (∀ k n, s.ready = true → k < 16 → ∃ u, exec (.tempHigh k n) s = .next u ∧ tabGetD 0 u.dev.mem.mr4 k = n % 8 ∧ (u.dev.page (pgMemctl k)).event.getLsbD 2 = true)

/-- What each row of the chapter that is no command of a ring is: the operation that its name says, or a register write; one whose number names no channel, register, slice
or controller does nothing. -/
def Sys2Proof.Machine.SupportForms : Prop :=
  ∀ (s : State) (n k : Nat) (v : Word) (err : Bool) (ue : Option Nat),
    (s.ready = true → exec .timedItemRelease s = .next (s.setDev (s.dev.releaseDue (s.dev.now / usT * usT) false)) ∧
      exec (.faultTimeout n) s = .next (s.setDev (s.dev.faultTimeout n)) ∧ exec (.dmaDescriptorStart n err ue) s = .next (s.setDev (s.dev.dmaStart n err ue)) ∧
      exec (.dmaWaitExpiry n) s = .next (s.setDev (s.dev.dmaWait n)) ∧ exec (.dmaDescriptorEnd n) s = .next (s.setDev (s.dev.chEnd n)) ∧
      exec .eccRegionReady s = .next (s.setDev s.dev.eccReady) ∧ (16 ≤ n → exec (.tempHigh n k) s = .next (s.setDev s.dev))) ∧
    (s.up = true → exec (.channelFailure n k) s = .next (s.setDev (s.dev.channelFailure n k)) ∧ exec (.faultBaseWrite v) s = .next (s.write pgXlat 0x050 8 v)) ∧
    (32 ≤ n → exec (.chEnable n v) s = .next s ∧ exec (.chResume n) s = .next s ∧ exec (.chSkip n) s = .next s ∧ exec (.chStop n) s = .next s ∧
      exec (.chTailWrite n v) s = .next s) ∧
    (2 ≤ n → exec (.eccMapWrite n v) s = .next s) ∧ (16 ≤ n → exec (.sliceCfgWrite n v) s = .next s) ∧
    (8 ≤ n ∨ (nthD none s.dev.dma.movers n).isSome = true ∨ s.dev.chChoose = none → s.dev.dmaStart n err ue = s.dev) ∧
    (s.dev.fault n = none → s.dev.faultTimeout n = s.dev) ∧ ((s.dev.dch n).wait = none → s.dev.dmaWait n = s.dev) ∧ (s.dev.mem.eccBusy = none → s.dev.eccReady = s.dev) ∧
    (16 ≤ n ∨ 4 ≤ k → s.dev.channelFailure n k = s.dev) ∧
    (s.ready = false → exec .timedItemRelease s = .next s ∧ exec (.faultTimeout n) s = .next s ∧ exec (.dmaDescriptorStart n err ue) s = .next s ∧
      exec (.dmaWaitExpiry n) s = .next s ∧ exec (.dmaDescriptorEnd n) s = .next s ∧ exec .eccRegionReady s = .next s ∧ exec (.tempHigh n k) s = .next s)

/-- A slice that is ISOLATED lends no scratch: SLAB_INFO counts none of it, and no page may be mapped into it (R22). -/
def Sys2Proof.Machine.IsolatedScratch : Prop :=
  ∀ (d : Dev) (a n : Nat), (d.slice (slabSlice a)).isolate = true → d.slabOk a n = false ∧
    (d.slabRead 0x048).map (fun w => fld w 16 9) = some (sumN ((List.range 16).map (fun s => if (d.slice s).isolate then 0 else (d.slice s).scratch)) % 512)

/-- Translation and its faults. -/
def Obligations.TranslationCommands : Prop := Mapped ∧ MapChanges ∧ FaultCommands

/-- The Work Dispatcher. -/
def Obligations.WorkDispatcher : Prop := DispatcherCommands ∧ DomainOrder

/-- DMA. -/
def Obligations.DmaChannels : Prop := ChannelControl ∧ ChannelWork ∧ SupportForms

/-- Memory controllers and Slab. -/
def Obligations.MemoryControl : Prop := MemoryCommands ∧ IsolatedScratch

/-! ### Start-up, update and settings (chapter 16) -/

/-- What no reset and no loss of power changes: flash, settings and OTP. -/
def Sys2Proof.Machine.KeptForGood (s u : State) : Prop :=
  u.aon.bankA = s.aon.bankA ∧ u.aon.bankB = s.aon.bankB ∧ u.aon.settings = s.aon.settings ∧ u.aon.counter = s.aon.counter ∧ u.aon.revoked = s.aon.revoked ∧
    u.aon.keyHash = s.aon.keyHash ∧ u.aon.lockOtp = s.aon.lockOtp ∧ u.aon.lockOwner = s.aon.lockOwner

/-- POWER_UP, POWER_DOWN, RESET_ASSERT: RESET_N puts every register back and keeps key SRAM, the alarm latch and the freeze record, which VDD_AUX alone takes away. -/
def Sys2Proof.Machine.PowerAndReset : Prop :=
  ∀ (s : State),
    (∃ u, exec .powerUp s = .next u ∧ u.aon.railsOn = true ∧ u.aon.auxOn = true ∧ u.dev = s.dev ∧ KeptForGood s u) ∧
    (∃ u, exec .resetAssert s = .next u ∧ u.up = false ∧ u.dev.boot.phase = .rom ∧ (∀ p o, u.dev.reg p o = regReset (regKey p o) ∧ u.dev.counter p o = 0) ∧
      (∀ p, u.dev.page p = pageDflt p) ∧ (∀ k, u.dev.slot k = s.dev.slot k) ∧ u.dev.mem.host = s.dev.mem.host ∧ u.aon.alarmLatch = s.aon.alarmLatch ∧
      u.aon.freeze = s.aon.freeze ∧ u.aon.armed = s.aon.armed ∧ u.dev.obs.frozen = false ∧ KeptForGood s u) ∧
    (∃ u, exec (.powerDown false) s = .next u ∧ u.up = false ∧ (∀ k, u.dev.slot k = s.dev.slot k) ∧ u.aon.alarmLatch = s.aon.alarmLatch ∧ u.aon.alarmLock = s.aon.alarmLock ∧
      KeptForGood s u) ∧
    (∃ u, exec (.powerDown true) s = .next u ∧ u.up = false ∧ (∀ k, u.dev.slot k = {} ∧ u.dev.slotCtxs k = []) ∧ u.aon.alarmLatch = false ∧ u.aon.alarmLock = false ∧
      u.aon.alarmEnable = 0x1F ∧ u.aon.freeze = {} ∧ u.aon.armed = 0 ∧ KeptForGood s u)

/-- RESET_RELEASE: straps, the tests armed, and the image the ROM tries. -/
def Sys2Proof.Machine.ResetReleased : Prop :=
  ∀ (s : State) (st : Straps), s.aon.auxOn = true → s.aon.railsOn = true →
    (s.aon.resetHigh = true → exec (.resetRelease st) s = .next s) ∧
    (s.aon.resetHigh = false → s.aon.bankA.state ≠ .writing → s.aon.bankB.state ≠ .writing → ∃ u, exec (.resetRelease st) s = .next u ∧ u.aon.resetHigh = true ∧ u.aon.armed = 0 ∧
      u.dev.boot.bootSrc = st.bootSrc.toNat ∧ u.dev.boot.pairRole = st.pairRole.toNat ∧ u.dev.boot.lastRestart = 0 ∧
      (u.dev.pair.role = .undecided ↔ (st.pairRole = 1 ∨ st.pairRole = 2)) ∧ u.dev.obs.selfRun = (s.aon.armed ||| 0b1001).toNat ∧
      u.dev.obs.selfFail = (s.aon.armed ||| 0b1001).toNat &&& st.testFail.toNat ∧
      (st.recovery = true → s.aon.ignoreRecovery = false → u.dev.boot.phase = .recovery) ∧
      (st.recovery = false ∨ s.aon.ignoreRecovery = true → st.bootSrc = 1 → u.dev.boot.phase = .load) ∧
      (st.recovery = false ∨ s.aon.ignoreRecovery = true → st.bootSrc ≠ 1 →
        (∀ b, s.aon.findBank .trial = none → s.aon.findBank .pending = some b → u.dev.boot.phase = .load ∧ u.dev.boot.trying = some b ∧ (u.aon.bank b).state = .trial) ∧
        (∀ b, s.aon.findBank .trial = none → s.aon.findBank .pending = none → s.aon.findBank .active = some b → u.dev.boot.phase = .load ∧ u.dev.boot.trying = some b ∧
          (u.aon.bank b).state = .active) ∧
        (∀ t b, s.aon.findBank .trial = some t → s.aon.findBank .active = some b → u.dev.boot.phase = .load ∧ u.dev.boot.trying = some b ∧ (u.aon.bank t).state = .failed) ∧
        (s.aon.findBank .trial = none → s.aon.findBank .pending = none → s.aon.findBank .active = none → u.dev.boot.phase = .recovery ∧ u.dev.boot.fallback = true)))

/-- BOOT_IMAGE_AUTH: an image that authenticates starts and every key slot is erased; one that does not is FAILED and counted, and the other bank is tried once if it was ACTIVE or VALID. -/
def Sys2Proof.Machine.ImageAuthenticated : Prop :=
  ∀ (s : State) (b : Nat), s.up = true → b < 2 → s.dev.boot.trying = some b →
    ∃ u, exec .bootImageAuth s = .next u ∧ (u.aon.bank b).bytes = (s.aon.bank b).bytes ∧ u.aon.counter = s.aon.counter ∧
    (s.aon.imageBad (s.aon.bank b).bytes = none → u.dev.boot.phase = .role ∧ u.dev.boot.runBank = b ∧
      u.dev.boot.version = imgVersion (s.aon.bank b).bytes ∧ u.dev.boot.svn = imgSvn (s.aon.bank b).bytes ∧
      u.dev.boot.update = (if (s.aon.bank b).state = .trial then .trial else .idle) ∧ u.aon.bankA = s.aon.bankA ∧ u.aon.bankB = s.aon.bankB ∧
      ∀ k, u.dev.slot k = {} ∧ u.dev.slotCtxs k = []) ∧
    (s.aon.imageBad (s.aon.bank b).bytes ≠ none → (u.aon.bank b).state = .failed ∧
      u.dev.counter pgBoot 0x0A0 = s.dev.counter pgBoot 0x0A0 + 1 ∧ u.dev.boot.fallback = true ∧
      ((s.aon.bank (1 - b)).state = .active ∨ (s.aon.bank (1 - b)).state = .valid → s.dev.boot.tried.contains (1 - b) = false →
        u.dev.boot.trying = some (1 - b) ∧ (u.aon.bank (1 - b)).state = .active ∧ u.dev.boot.phase = .load) ∧
      ((s.aon.bank (1 - b)).state ≠ .active → (s.aon.bank (1 - b)).state ≠ .valid → u.dev.boot.phase = .recovery ∧ u.dev.boot.trying = none))

/-- BOOT_READY, WATCHDOG_RESTART. -/
def Sys2Proof.Machine.ReadyAndWatchdog : Prop :=
  ∀ (s : State), s.up = true →
    (s.dev.boot.phase = .role → s.dev.pair.role ≠ .undecided → ∃ u, exec .bootReady s = .next u ∧ u.dev.boot.phase = .ready ∧ (u.dev.page pgDevice).state = .ready ∧
      (u.dev.page pgBoot).event.getLsbD 0 = true ∧ u.dev.counter pgBoot 0x090 = s.dev.counter pgBoot 0x090 + 1 ∧
      s.dev.now ≤ u.dev.clk.nextEpoch * msT ∧ u.dev.clk.nextEpoch * msT < s.dev.now + msT ∧
      (s.dev.boot.update ≠ .hosted → (s.aon.bank s.dev.boot.runBank).state = .active → s.dev.pow.marginLow = false → u.aon.counter = max s.aon.counter s.dev.boot.svn) ∧
      (s.dev.boot.update = .hosted ∨ (s.aon.bank s.dev.boot.runBank).state ≠ .active ∨ s.dev.pow.marginLow = true → u.aon.counter = s.aon.counter)) ∧
    (s.dev.boot.phase ≠ .role ∨ s.dev.pair.role = .undecided → exec .bootReady s = .next s) ∧
    (s.dev.boot.phase = .role ∨ s.dev.boot.phase = .ready → ∃ u, exec .watchdogRestart s = .next u ∧ u.dev.boot.lastRestart = 3 ∧ u.dev.boot.pairRole = s.dev.boot.pairRole % 4 ∧
      u.dev.boot.phase ≠ .ready ∧ u.aon.counter = s.aon.counter ∧ u.aon.armed = 0) ∧
    (s.dev.boot.phase ≠ .role → s.dev.boot.phase ≠ .ready → exec .watchdogRestart s = .next s)

/-- LOAD_GO, RECOVERED, IMAGE. -/
def Sys2Proof.Machine.PlacedImages : Prop :=
  ∀ (s : State) (v : Word), s.up = true →
    (s.dev.loadOpen = false → ∃ u, exec (.loadGo v) s = .next u ∧ (u.dev.page pgBoot).errLast = 4 ∧ u.dev.boot = s.dev.boot ∧ ∀ o, u.dev.reg pgBoot o = s.dev.reg pgBoot o) ∧
    (∀ b, s.dev.loadOpen = true → b = s.dev.dramReads (fld (s.dev.reg pgBoot 0x080) 12 25 * 4096) (min (fld v 32 32) 50331648) →
      ∃ u, exec (.loadGo v) s = .next u ∧ u.aon.bankA = s.aon.bankA ∧ u.aon.bankB = s.aon.bankB ∧
      (s.aon.imageBad b = none → u.dev.boot.loadResult = 0 ∧ (s.dev.boot.phase = .load → u.dev.boot.phase = .role ∧ u.dev.boot.update = .hosted) ∧
        (s.dev.boot.phase = .recovery → u.dev.boot.phase = .recovery ∧ u.dev.boot.goImage = if s.dev.boot.gotAll then none else some (b.take (imgLength b)))) ∧
      (s.aon.imageBad b ≠ none → u.dev.boot.loadResult = 2 ∧ u.dev.counter pgBoot 0x0A0 = s.dev.counter pgBoot 0x0A0 + 1 ∧ u.dev.boot.goImage = s.dev.boot.goImage)) ∧
    (∀ b, s.dev.boot.phase = .recovery → s.dev.boot.goImage = some b → ∃ u, exec (.recovered false) s = .next u ∧
      (s.aon.imageBad b = none → bit (s.dev.reg pgBoot 0x088) 1 = true → u.dev.boot.phase = .role ∧ u.dev.boot.runBank = 0 ∧ u.aon.bankA.state = .active ∧
        u.aon.bankB.state = .valid ∧ u.aon.bankA.bytes = b.take (imgLength b) ∧ u.aon.bankB.bytes = b.take (imgLength b) ∧ u.aon.ignoreRecovery = true) ∧
      (s.aon.imageBad b = none → bit (s.dev.reg pgBoot 0x088) 1 = false → u.dev.boot.phase = .role ∧ u.dev.boot.update = .hosted ∧ u.aon.bankA = s.aon.bankA ∧
        u.aon.bankB = s.aon.bankB) ∧
      (s.aon.imageBad b ≠ none → u.dev.boot.phase = .recovery ∧ u.aon.bankA = s.aon.bankA ∧ u.aon.bankB = s.aon.bankB ∧
        u.dev.counter pgBoot 0x0A0 = s.dev.counter pgBoot 0x0A0 + 1)) ∧
    (∀ p, s.dev.boot.phase ≠ .recovery → exec (.recovered p) s = .next s) ∧
    (∀ b, s.dev.boot.phase = .recovery → s.dev.boot.gotAll = true → b = s.dev.boot.got → ∃ u, exec (.recovered true) s = .next u ∧
      (s.aon.imageBad b = none → u.dev.boot.phase = .role ∧ u.aon.bankA.state = .active ∧ u.aon.bankB.state = .valid ∧ u.aon.bankA.bytes = b.take (imgLength b) ∧
        u.aon.bankB.bytes = b.take (imgLength b) ∧ u.dev.boot.loadSource = 1) ∧
      (s.aon.imageBad b ≠ none → u.dev.boot.phase = .recovery ∧ u.dev.boot.got = [] ∧ u.aon.bankA = s.aon.bankA ∧ u.aon.bankB = s.aon.bankB)) ∧
    (s.dev.boot.phase = .recovery → (s.dev.boot.goImage = none → exec (.recovered false) s = .next s) ∧ (s.dev.boot.gotAll = false → exec (.recovered true) s = .next s)) ∧
    (∀ f off total b, Takes s f → s.dev.boot.phase = .recovery →
      (s.dev.boot.goImage = none → off = s.dev.boot.got.length → ∃ u, exec (.image f 1 off total b) s = .next u ∧ u.dev.boot.got = s.dev.boot.got ++ b ∧ u.dev.boot.total = total) ∧
      (s.dev.boot.goImage.isSome = true ∨ off ≠ s.dev.boot.got.length → ∃ u, exec (.image f 1 off total b) s = .next u ∧ u.dev.boot.got = s.dev.boot.got)) ∧
    (∀ f off total b, Takes s f → s.dev.boot.phase ≠ .recovery → s.dev.pair.role ≠ .undecided → s.aon.findBank .active = none → ∃ u, exec (.image f 0 off total b) s = .next u ∧
      Queued u ltImage (imageBytes 2 0 0 []))

/-- A command of Table 16-7 for this unit that passes every check. -/
def Sys2Proof.Machine.AcceptsHere (o : OpSpec) (c : HostCmd) (s : State) : Prop := Accepts o c s ∧ c.arg 0 1 = 0

/-- UPDATE_BEGIN to UPDATE_ABORT, FLASH_WRITE_DONE, VERIFY_DONE. -/
def Sys2Proof.Machine.PackageCommands : Prop :=
  ∀ (s : State) (c : HostCmd), s.dev.boot.runBank < 2 →
    (AcceptsHere updateBeginSpec c s → ∃ u, exec (.updateBegin c) s = .next u ∧ Ends u s c (updateBeginSpec.okOr c s) (1 - s.dev.boot.runBank) s.dev.short ∧ u.dev.boot.update = .receiving ∧
      u.dev.boot.pkgGot = 256 ∧ u.dev.boot.pkgLen = c.arg 4 4 ∧ u.aon.bank (1 - s.dev.boot.runBank) = { state := .writing } ∧
      u.aon.bank s.dev.boot.runBank = s.aon.bank s.dev.boot.runBank) ∧
    (∀ l, AcceptsHere updateDataSpec c s → capturePinned s.dev 0 (c.arg 8 8) (c.arg 4 4) = some l → s.dev.boot.carry = [] → s.dev.boot.ended = false → l.length ≤ s.dev.boot.litLeft →
      ∃ u, exec (.updateData c) s = .next u ∧ u.dev.waiting 0x0E01 0 = true ∧ u.dev.boot.pkgGot = s.dev.boot.pkgGot + l.length ∧ u.dev.boot.litLeft = s.dev.boot.litLeft - l.length ∧
        (u.aon.bank (1 - s.dev.boot.runBank)).bytes = (s.aon.bank (1 - s.dev.boot.runBank)).bytes ++ l ∧ u.aon.bank s.dev.boot.runBank = s.aon.bank s.dev.boot.runBank) ∧
    (∀ w, s.ready = true → s.dev.ctl.waits = [w] → w.tok.opcode = 0x0E01 → w.obj = 0 → w.tok.direct = true →
        (s.dev.ring w.tok.cmd.realm w.tok.cmd.ring).gen = w.tok.gen →
      (s.dev.now < w.since + 60 * secT → (∃ u, exec (.flashWriteDone true) s = .next u ∧ u.dev.ctl.waits = [] ∧
          u.dev.ctl.out.contains (.completion w.tok.cmd.tag (if w.late then .late else .ok) 0 s.dev.short) = true ∧ u.aon.bankA = s.aon.bankA ∧ u.aon.bankB = s.aon.bankB) ∧
        exec (.flashWriteDone false) s = .next (s.setDev s.dev)) ∧
      (w.since + 60 * secT ≤ s.dev.now → ∀ ok, ∃ u, exec (.flashWriteDone ok) s = .next u ∧ u.dev.ctl.waits = [] ∧
        ∃ v, u.dev.ctl.out.contains (.completion w.tok.cmd.tag .timeout 0 v) = true)) ∧
    (∀ ok, s.ready = true → s.dev.ctl.waits = [] → exec (.flashWriteDone ok) s = .next (s.setDev s.dev)) ∧ (s.dev.boot.update ≠ .verifying → exec .verifyDone s = .next s) ∧
    (AcceptsHere updateFinishSpec c s → ∃ u, exec (.updateFinish c) s = .next u ∧ u.dev.boot.update = .verifying ∧ u.dev.waiting 0x0E02 0 = true ∧ KeptForGood s u) ∧
    (s.ready = true → s.dev.boot.update = .verifying → ∃ u, exec .verifyDone s = .next u ∧ u.dev.waiting 0x0E02 0 = false ∧
      (u.aon.bank (1 - s.dev.boot.runBank)).bytes = (s.aon.bank (1 - s.dev.boot.runBank)).bytes ∧
      (s.verifyBad (s.aon.bank (1 - s.dev.boot.runBank)).bytes = none → u.dev.boot.update = .pending ∧ (u.aon.bank (1 - s.dev.boot.runBank)).state = .pending ∧
        (u.dev.page pgBoot).event.getLsbD 2 = true) ∧
      (s.verifyBad (s.aon.bank (1 - s.dev.boot.runBank)).bytes ≠ none → u.dev.boot.update = .receiving ∧ KeptForGood s u)) ∧
    (AcceptsHere updateAbortSpec c s → ∃ u, exec (.updateAbort c) s = .next u ∧ Ends u s c (updateAbortSpec.okOr c s) 0 s.dev.short ∧ u.dev.boot.update = .idle ∧ u.aon.bank (1 - s.dev.boot.runBank) = {} ∧
      u.aon.bank s.dev.boot.runBank = s.aon.bank s.dev.boot.runBank)

/-- UPDATE_ACTIVATE, UPDATE_REVERT, UPDATE_CONFIRM, UPDATE_LOCK, CONFIRM_TIMEOUT. -/
def Sys2Proof.Machine.TrialCommands : Prop :=
  ∀ (s : State) (c : HostCmd), s.dev.boot.runBank < 2 →
    (AcceptsHere updateActivateSpec c s → ∃ u b, exec (.updateActivate c) s = .next u ∧ b = (s.dev.restartBoundary (effectEpoch s.dev * msT)).2 ∧
      Ends u s c (updateActivateSpec.okOr c s) 0 (shortOf b) ∧ u.dev.boot.restartAt = some (b, 1) ∧ KeptForGood s u) ∧
    (AcceptsHere updateRevertSpec c s → ∃ u b, exec (.updateRevert c) s = .next u ∧ b = (s.dev.restartBoundary (effectEpoch s.dev * msT)).2 ∧
      Ends u s c (updateRevertSpec.okOr c s) 0 (shortOf b) ∧ u.dev.boot.restartAt = some (b, 2) ∧ (u.aon.bank s.dev.boot.runBank).state = .failed ∧
      u.aon.bank (1 - s.dev.boot.runBank) = s.aon.bank (1 - s.dev.boot.runBank)) ∧
    (AcceptsHere updateConfirmSpec c s → ∃ u, exec (.updateConfirm c) s = .next u ∧ Ends u s c (updateConfirmSpec.okOr c s) (max s.aon.counter s.dev.boot.svn % 65536) s.dev.short ∧
      (u.aon.bank s.dev.boot.runBank).state = .active ∧ (u.aon.bank (1 - s.dev.boot.runBank)).state ≠ .active ∧ u.aon.counter = max s.aon.counter s.dev.boot.svn ∧
      u.dev.boot.update = .idle ∧ u.dev.counter pgBoot 0x0B0 = s.dev.counter pgBoot 0x0B0 + 1) ∧
    (AcceptsHere updateLockSpec c s → ∃ u, exec (.updateLock c) s = .next u ∧ Ends u s c (updateLockSpec.okOr c s) (c.arg 1 1) s.dev.short ∧ u.aon.lockOwner = (c.arg 1 1 == 1) ∧
      u.aon.lockOtp = s.aon.lockOtp ∧ u.aon.bankA = s.aon.bankA ∧ u.aon.bankB = s.aon.bankB) ∧
    (s.ready = true → s.dev.boot.update = .trial → s.aon.confirmTimeout ≠ 0 → s.dev.boot.readyAt + s.aon.confirmTimeout * secT ≤ s.dev.now → s.dev.boot.restartAt = none →
      (s.updateForbidden = true → s.dev.boot.overdue = false → ∃ u, exec .confirmTimeout s = .next u ∧ (u.dev.page pgBoot).event.getLsbD 3 = true ∧
        u.dev.boot = { s.dev.boot with overdue := true } ∧ KeptForGood s u) ∧
      (s.updateForbidden = true → s.dev.boot.overdue = true → exec .confirmTimeout s = .next s) ∧
      (s.updateForbidden = false → ∃ u, exec .confirmTimeout s = .next u ∧ u.dev.boot.restartAt = some ((s.dev.restartBoundary (nextBoundary s.dev.now)).2, 4) ∧
        (u.aon.bank s.dev.boot.runBank).state = .failed)) ∧
    (s.dev.boot.update ≠ .trial ∨ s.aon.confirmTimeout = 0 ∨ s.dev.now < s.dev.boot.readyAt + s.aon.confirmTimeout * secT ∨ s.dev.boot.restartAt.isSome = true →
      exec .confirmTimeout s = .next s) ∧
    (s.dev.mirrored = false → ∀ t, (s.dev.restartBoundary t).2 = t)

/-- An update that R766 forbids is refused before anything changes, and so is one while the partner a command names is not READY. -/
def Sys2Proof.Machine.UpdatesForbidden : Prop :=
  ∀ (s : State) (c : HostCmd), s.ready = true → c.realm = 0 → c.flags = 0 → c.rsvd = 0 → c.args = 0 → fullValid c.when0 c.when1 = true → s.dev.pair.role ≠ .secondary →
    (s.dev.boot.update = .pending → s.updateForbidden = true → ∃ u, exec (.updateActivate c) s = .next u ∧ u.dev.ctl.out.contains (.completion c.tag .refusedPolicy 0 s.dev.freeWord) = true ∧
      u.dev.boot = s.dev.boot ∧ KeptForGood s u) ∧
    (s.dev.boot.update = .trial → s.updateForbidden = true → ∃ u, exec (.updateRevert c) s = .next u ∧ u.dev.ctl.out.contains (.completion c.tag .refusedPolicy 0 s.dev.freeWord) = true ∧
      u.dev.boot = s.dev.boot ∧ KeptForGood s u) ∧
    (s.dev.boot.update ≠ .trial → ∃ u, exec (.updateConfirm c) s = .next u ∧ u.dev.ctl.out.contains (.completion c.tag .stateConflict s.dev.boot.update.code s.dev.freeWord) = true ∧
      u.dev.boot = s.dev.boot ∧ KeptForGood s u) ∧
    ((∃ l k, s.dev.leg l = k ∧ l < 4096 ∧ k.state = .active) → s.dev.pair.role = .solo ∨ (s.dev.pair.role = .primary ∧ s.dev.pair.partner ≠ .ready) → s.updateForbidden = true)

/-- SETTINGS_WRITE, SETTINGS_READ: a record reads back as written, another is untouched, and length 0 deletes. -/
def Sys2Proof.Machine.SettingsCommands : Prop :=
  ∀ (s : State) (c : HostCmd),
    (∀ l, Accepts settingsWriteSpec c s → capturePinned s.dev 0 (c.arg 8 8) (c.arg 4 4) = some l → ∃ u, exec (.settingsWrite c) s = .next u ∧ Ends u s c (settingsWriteSpec.okOr c s) 0 s.dev.short ∧
      tabGetD [] u.aon.settings (c.arg 0 2) = l ∧ (∀ k, k ≠ c.arg 0 2 → tabGetD [] u.aon.settings k = tabGetD [] s.aon.settings k) ∧ u.aon.counter = s.aon.counter) ∧
    (Accepts settingsReadSpec c s → 0x8000 ≤ c.arg 0 2 → s.dev.writeCheck 0 (c.arg 8 8) ((tabGetD [] s.aon.settings (c.arg 0 2)).take (c.arg 4 4)).length = none → ∃ u, exec (.settingsRead c) s = .next u ∧
      Ends u s c (settingsReadSpec.okOr c s) (if (tabGetD [] s.aon.settings (c.arg 0 2)).isEmpty then 0 else 1) (BitVec.ofNat 64 (tabGetD [] s.aon.settings (c.arg 0 2)).length) ∧ KeptForGood s u) ∧
    (Accepts settingsReadSpec c s → 0x8000 ≤ c.arg 0 2 → s.dev.writeCheck 0 (c.arg 8 8) ((tabGetD [] s.aon.settings (c.arg 0 2)).take (c.arg 4 4)).length ≠ none → ∃ u v, exec (.settingsRead c) s = .next u ∧
      Ends u s c .faulted 0 v ∧ KeptForGood s u) ∧
    (∀ l, Accepts settingsReadSpec c s → c.arg 0 2 < 0x8000 → l = (Config.ownRecord s.dev.ctl.free (c.arg 0 2)).take 65536 → s.dev.writeCheck 0 (c.arg 8 8) (l.take (c.arg 4 4)).length = none →
      ∃ u, exec (.settingsRead c) s = .next u ∧ Ends u s c (settingsReadSpec.okOr c s) (if l.isEmpty then 0 else 1) (BitVec.ofNat 64 l.length) ∧ KeptForGood s u)

/-- The rows of the chapter that are no command of a ring, where they have no effect: before the unit runs, before it is READY, with no bank being tried. -/
def Sys2Proof.Machine.BootForms : Prop :=
  ∀ (s : State) (st : Straps) (v : Word) (ok p : Bool) (f : LinkHdr) (k off total : Nat) (b : List Byte),
    (s.aon.auxOn = false ∨ s.aon.railsOn = false → exec (.resetRelease st) s = .next s) ∧
    (s.up = false → exec .bootImageAuth s = .next s ∧ exec .bootReady s = .next s ∧ exec .watchdogRestart s = .next s ∧ exec (.loadGo v) s = .next s ∧
      exec (.recovered p) s = .next s ∧ exec (.image f k off total b) s = .next s) ∧
    (s.up = true → exec .bootImageAuth s = .next s.bootAuth ∧ (s.dev.boot.trying = none → exec .bootImageAuth s = .next s) ∧ exec (.loadGo v) s = .next (s.loadCtrl (v ||| 1)) ∧
      exec (.recovered p) s = .next (s.recover p)) ∧
    (s.ready = false → exec (.flashWriteDone ok) s = .next s ∧ exec .verifyDone s = .next s ∧ exec .confirmTimeout s = .next s)

/-- Power, reset and the start of an image. -/
def Obligations.StartUp : Prop := BootForms ∧ PowerAndReset ∧ ResetReleased ∧ ImageAuthenticated ∧ ReadyAndWatchdog ∧ PlacedImages

/-- Updates and settings. -/
def Obligations.Updates : Prop := PackageCommands ∧ TrialCommands ∧ UpdatesForbidden ∧ SettingsCommands

/-! ### Observation, test and freeze (chapter 17), power and the monitor (chapter 18) -/

/-- ERROR_REPORT, LOG_ENTRY_DUE, LOST_ENTRY: reports of one source and code coalesce, others open an entry while fewer than 256 are pending; an entry is written in the order of R151
once its hold has passed, into the LOST entry when the ring is full. -/
def Sys2Proof.Machine.ErrorLog : Prop :=
  ∀ (s : State) (r : Report), s.up = true →
    (sourceListed r.source = false → exec (.errorReport r) s = .next (s.setDev s.dev)) ∧
    (sourceListed r.source = true → exec (.errorReport r) s = .next (s.setDev ((s.dev.corrected r).report { r with stamp := wholeNs r.stamp }))) ∧
    (sourceListed r.source = true → (∀ e, e ∈ s.dev.obs.pending → e.source ≠ r.source ∨ e.code ≠ r.code) →
      (s.dev.obs.pending.length < 256 → ∃ u, exec (.errorReport r) s = .next u ∧
        u.dev.obs.pending = s.dev.obs.pending ++ [⟨wholeNs r.stamp, r.source, r.code, 1, r.d2, r.d3, s.dev.obs.order⟩] ∧ u.dev.counter pgErrlog 0x090 = s.dev.counter pgErrlog 0x090 + 1 ∧
        u.dev.obs.ring = s.dev.obs.ring) ∧
      (256 ≤ s.dev.obs.pending.length → ∃ u l, exec (.errorReport r) s = .next u ∧ u.dev.obs.pending = s.dev.obs.pending ∧ u.dev.obs.lost = some l ∧ l.last = wholeNs r.stamp ∧
        r.source ∈ l.sources)) ∧
    (∀ e rest, sourceListed r.source = true → s.dev.obs.pending = e :: rest → e.source = r.source → e.code = r.code → e.count < 4294967295 →
      (∀ x, x ∈ rest → x.source ≠ r.source ∨ x.code ≠ r.code) → ∃ u, exec (.errorReport r) s = .next u ∧
        u.dev.obs.pending = { e with count := e.count + 1 } :: rest ∧ u.dev.counter pgErrlog 0x098 = s.dev.counter pgErrlog 0x098 + 1) ∧
    (trigFind s.dev r = none → ∃ u, exec (.errorReport r) s = .next u ∧ u.dev.obs.frozen = false) ∧
    (∀ i, sourceListed r.source = true → trigFind s.dev r = some i → ∃ u, exec (.errorReport r) s = .next u ∧ u.dev.obs.frozen = true ∧ u.aon.freeze = ⟨true, 2, i, r.source, r.code, s.dev.short⟩ ∧
      u.dev.ctl.linkUp = false ∧ u.dev.ctl.out.contains (.frozen true) = true) ∧
    (∀ k, k < 16 → r.source = 0x160 + k → r.code = 0x0D31 → ∃ u, exec (.errorReport r) s = .next u ∧ u.dev.counter (pgMemctl k) 0x088 = s.dev.counter (pgMemctl k) 0x088 + 1 ∧
      (u.dev.page (pgMemctl k)).event.getLsbD 0 = true) ∧
    (exec .logEntryDue s = .next (s.setDev s.dev.logEntryDue) ∧ exec .lostEntry s = .next (s.setDev s.dev.lostEntry) ∧
      (s.dev.obs.pending = [] → s.dev.logEntryDue = s.dev) ∧ (s.dev.obs.lost = none → s.dev.lostEntry = s.dev)) ∧
    (∀ e l, s.dev.logOrder = e :: l → s.dev.obs.lost = none → e.stamp + s.dev.logHold ≤ s.dev.now →
      (s.dev.obs.ring.length < 4096 → ∃ u, exec .logEntryDue s = .next u ∧ u.dev.obs.ring = s.dev.obs.ring ++ [e] ∧ e ∉ u.dev.obs.pending ∧
        u.dev.counter pgErrlog 0x0A0 = s.dev.counter pgErrlog 0x0A0 + 1 ∧ (u.dev.page pgErrlog).event.getLsbD 0 = true) ∧
      (4096 ≤ s.dev.obs.ring.length → ∃ u x, exec .logEntryDue s = .next u ∧ u.dev.obs.ring = s.dev.obs.ring ∧ e ∉ u.dev.obs.pending ∧ u.dev.obs.lost = some x ∧ x.entries = 1 ∧
        x.stamp = e.stamp ∧ u.dev.counter pgErrlog 0x0A8 = s.dev.counter pgErrlog 0x0A8 + 1)) ∧
    (∀ e l, s.dev.logOrder = e :: l → s.dev.now < e.stamp + s.dev.logHold → exec .logEntryDue s = .next (s.setDev s.dev)) ∧
    (∀ x, s.dev.obs.lost = some x →
      (s.dev.obs.ring.length < 4096 → ∃ u, exec .lostEntry s = .next u ∧ u.dev.obs.lost = none ∧ u.dev.obs.ring = s.dev.obs.ring ++ [x.entry] ∧
        u.dev.counter pgErrlog 0x0B0 = s.dev.counter pgErrlog 0x0B0 + 1 ∧ (u.dev.page pgErrlog).event.getLsbD 1 = true) ∧
      (4096 ≤ s.dev.obs.ring.length → exec .lostEntry s = .next (s.setDev s.dev)))

/-- TRACE_ENTRY_WRITE, TRACE_LOST, TRACE_BASE_WRITE. -/
def Sys2Proof.Machine.TraceCommands : Prop :=
  ∀ (s : State) (v : Word),
    (∀ e l, s.ready = true → sortBy traceBefore s.dev.obs.trace = e :: l → s.dev.traceOn = true → e.stamp + 20 * usT ≤ s.dev.now → ∃ u, exec .traceEntryWrite s = .next u ∧
      u.dev.obs.traceProd = s.dev.obs.traceProd + 1 ∧ e ∉ u.dev.obs.trace ∧
      (∀ i, i < 32 → s.dev.traceBase + 32 * (s.dev.obs.traceProd % s.dev.traceEntries) + 32 ≤ dramEnd →
        s.dev.checkByte (s.dev.traceBase + 32 * (s.dev.obs.traceProd % s.dev.traceEntries) + i) = false →
        memRead u.dev.mem.dram (s.dev.traceBase + 32 * (s.dev.obs.traceProd % s.dev.traceEntries) + i) = nthD 0 (traceBytes e s.dev.obs.traceProd) i) ∧
      (∀ a, (a < s.dev.traceBase + 32 * (s.dev.obs.traceProd % s.dev.traceEntries) ∨ s.dev.traceBase + 32 * (s.dev.obs.traceProd % s.dev.traceEntries) + 32 ≤ a) →
        memRead u.dev.mem.dram a = memRead s.dev.mem.dram a) ∧
      (∀ a, s.dev.checkByte a = true → memRead u.dev.mem.dram a = memRead s.dev.mem.dram a) ∧ (e.event = 0xF001 → (u.dev.page pgObs).event.getLsbD 0 = true) ∧
      (s.dev.traceEntries ≤ s.dev.obs.traceProd → s.dev.obs.traceWrapped = false → u.dev.obs.traceWrapped = true ∧ (u.dev.page pgObs).event.getLsbD 1 = true)) ∧
    (∀ e l, s.ready = true → sortBy traceBefore s.dev.obs.trace = e :: l → (s.dev.traceOn = false ∨ s.dev.now < e.stamp + 20 * usT) →
      exec .traceEntryWrite s = .next (s.setDev s.dev)) ∧
    (s.ready = true → s.dev.obs.traceDropped ≠ 0 → s.dev.traceOn = true → s.dev.obs.trace.length < 512 + 4194304 → ∃ u, exec .traceLost s = .next u ∧
      u.dev.obs.traceDropped = 0 ∧ ∃ e, e ∈ u.dev.obs.trace ∧ e.event = 0xF001 ∧ e.w2 = fmk 0 32 s.dev.obs.traceDropped ∧
        e.w3 = shortOf s.dev.obs.traceFirst) ∧
    (s.ready = true → exec .traceEntryWrite s = .next (s.setDev s.dev.traceEntryWrite) ∧ (s.dev.obs.trace = [] → s.dev.traceEntryWrite = s.dev)) ∧
    (s.ready = true → s.dev.obs.traceDropped = 0 ∨ s.dev.traceOn = false ∨ 512 + 4194304 ≤ s.dev.obs.trace.length → exec .traceLost s = .next (s.setDev s.dev)) ∧
    (Writable s pgObs → s.dev.traceOn = false → bit v 0 = true →
      (fld v 16 21 * 65536 % 2 ^ fld (s.dev.reg pgObs 0x050) 0 6 = 0 → fld v 16 21 * 65536 + 2 ^ fld (s.dev.reg pgObs 0x050) 0 6 ≤ reservedBase → ∃ u, exec (.traceBaseWrite v) s = .next u ∧
        u.dev.traceOn = true ∧ u.dev.obs.traceProd = 0 ∧ u.dev.obs.trace = [] ∧ u.dev.traceBase = fld v 16 21 * 65536) ∧
      (fld v 16 21 * 65536 % 2 ^ fld (s.dev.reg pgObs 0x050) 0 6 ≠ 0 ∨ reservedBase < fld v 16 21 * 65536 + 2 ^ fld (s.dev.reg pgObs 0x050) 0 6 → ∃ u, exec (.traceBaseWrite v) s = .next u ∧
        u.dev.traceOn = false ∧ (u.dev.page pgObs).errLast = 4)) ∧
    (Writable s pgObs → s.dev.traceOn = false → bit v 0 = false → ∃ u, exec (.traceBaseWrite v) s = .next u ∧ u.dev.traceOn = false ∧ u.dev.obs.trace = [] ∧
      u.dev.traceBase = fld v 16 21 * 65536) ∧
    (Writable s pgObs → s.dev.traceOn = true → ∃ u, exec (.traceBaseWrite v) s = .next u ∧ u.dev.traceOn = bit v 0 ∧ u.dev.traceBase = s.dev.traceBase)

/-- UNIT_ISOLATE, BIST_RUN, BIST_DONE, over the Slab slices and the Garnet clusters. -/
def Sys2Proof.Machine.UnitTests : Prop :=
  ∀ (s : State) (c : HostCmd),
    (∀ n, Accepts unitIsolateSpec c s → c.arg 3 1 = 0 → testUnitOf (c.arg 0 2) = some (.slice n) →
      (c.arg 2 1 = 1 → (s.dev.slice n).state = .active → ∃ u, exec (.unitIsolate c) s = .next u ∧ Ends u s c (unitIsolateSpec.okOr c s) 5 s.dev.short ∧ (u.dev.slice n).state = .isolated ∧
        u.dev.counter pgDevice 0x0A0 = s.dev.counter pgDevice 0x0A0 + 1) ∧
      (c.arg 2 1 = 0 → (s.dev.slice n).state = .isolated → ∃ u, exec (.unitIsolate c) s = .next u ∧ (u.dev.slice n).state = .active)) ∧
    (∀ n, Accepts bistRunSpec c s → c.arg 3 1 = 0 → testUnitOf (c.arg 0 2) = some (.slice n) → ∃ u, exec (.bistRun c) s = .next u ∧ (u.dev.slice n).state = .testing ∧
      u.dev.obs.bist = s.dev.obs.bist ++ [(c.arg 0 2, c.arg 2 1)] ∧ u.dev.waiting 0x0F01 (c.arg 0 2) = true ∧ u.dev.counter pgDevice 0x0A8 = s.dev.counter pgDevice 0x0A8 + 1) ∧
    (∀ p, Accepts bistRunSpec c s → c.arg 3 1 = 0 → testUnitOf (c.arg 0 2) = some (.garnet p) → (s.dev.gaState p = .isolated ∨ s.dev.gaState p = .faulted) ∧
      ∃ u, exec (.bistRun c) s = .next u ∧ (u.dev.page (pgGarnet p)).state = .testing ∧ u.dev.waiting 0x0F01 (c.arg 0 2) = true) ∧
    (∀ p t (failed : BitVec 3) a, s.ready = true → p < 33 → s.dev.obs.bist = [(0x080 + p, t)] →
      (failed.toNat &&& t = 0 → ∃ u, exec (.bistDone (0x080 + p) failed a) s = .next u ∧ (u.dev.page (pgGarnet p)).state = .isolated ∧ u.dev.obs.bist = [] ∧
        u.dev.waiting 0x0F01 (0x080 + p) = false ∧ (u.dev.page pgDevice).event.getLsbD 0 = true ∧ u.dev.counter pgDevice 0x0B0 = s.dev.counter pgDevice 0x0B0) ∧
      (failed.toNat &&& t ≠ 0 → ∃ u, exec (.bistDone (0x080 + p) failed a) s = .next u ∧ (u.dev.page (pgGarnet p)).state = .faulted ∧ u.dev.obs.bist = [] ∧
        (u.dev.page pgDevice).event.getLsbD 0 = true ∧ u.dev.counter pgDevice 0x0B0 = s.dev.counter pgDevice 0x0B0 + 1)) ∧
    (∀ n (failed : BitVec 3) a, s.ready = true → exec (.bistDone n failed a) s = .next (s.setDev (s.dev.bistDone n failed.toNat a))) ∧
    (∀ n (failed : BitVec 3) a, s.ready = true → (∀ e, e ∈ s.dev.obs.bist → e.1 ≠ n) ∨ testUnitOf n = none → exec (.bistDone n failed a) s = .next (s.setDev s.dev)) ∧
    (Accepts deviceTestSpec c s → c.arg 0 1 = 0 → ∃ u, exec (.deviceTest c) s = .next u ∧ Ends u s c (deviceTestSpec.okOr c s) u.aon.armed.toNat s.dev.short ∧
      u.aon.armed = (if c.arg 2 1 = 1 then s.aon.armed ||| BitVec.ofNat 4 (c.arg 1 1) else s.aon.armed &&& (BitVec.ofNat 4 (c.arg 1 1) ^^^ 15)) ∧ KeptForGood s u)

/-- FREEZE_NOW and FREEZE_PIN: the unit stops with its record made, the link falls, and FROZEN is asserted. -/
def Sys2Proof.Machine.Freezes : Prop :=
  ∀ (s : State) (c : HostCmd),
    (Accepts freezeNowSpec c s → c.arg 0 1 = 0 → ∃ u, exec (.freezeNow c) s = .next u ∧ u.up = false ∧ u.dev.obs.frozen = true ∧ u.aon.freeze = ⟨true, 3, 0, 0, 0, s.dev.short⟩ ∧
      u.dev.ctl.linkUp = false ∧ u.dev.ctl.out = s.dev.ctl.out ++ [.frozen true] ∧ u.dev.clk = s.dev.clk) ∧
    (s.ready = true → bit (s.dev.reg pgDevice 0x060) 0 = true → ∃ u, exec .freezePin s = .next u ∧ u.up = false ∧ u.aon.freeze = ⟨true, 1, 0, 0, 0, s.dev.short⟩ ∧
      u.dev.ctl.out = s.dev.ctl.out ++ [.frozen true]) ∧
    (s.ready = false → exec .freezePin s = .next s) ∧
    (s.ready = true → bit (s.dev.reg pgDevice 0x060) 0 = false → exec .freezePin s = .next (s.setDev s.dev))

/-- What a command for the partner leaves as it was on this unit. -/
def Sys2Proof.Machine.KeptHere (s u : State) : Prop :=
  KeptForGood s u ∧ u.aon.armed = s.aon.armed ∧ u.dev.boot = s.dev.boot ∧ u.dev.obs.bist = s.dev.obs.bist ∧ u.dev.mem = s.dev.mem

/-- A command with TARGET 1 acts on the partner: held for its boundary, it changes nothing of this unit there and waits for the partner's result; FREEZE_NOW completes with the partner's FROZEN indication (R765, R803, R812). -/
def Sys2Proof.Machine.PartnerTargets : Prop :=
  ∀ (s : State) (c : HostCmd), s.dev.pair.role = .primary →
    (∀ o b, (o, b) ∈ [(updateBeginSpec, 0), (updateDataSpec, 0), (updateFinishSpec, 0), (updateAbortSpec, 0), (updateConfirmSpec, 0), (updateLockSpec, 0), (deviceTestSpec, 0),
        (unitIsolateSpec, 3), (bistRunSpec, 3)] → c.arg b 1 = 1 →
      (s.ready = true → (c.dated = true → s.dev.datedPending < 8192) → o.judged c s = none → ∃ a, (runCmd o c s).dev.ctl.accepted = s.dev.ctl.accepted ++ [a] ∧ a.tok.cmd = c ∧
        a.tok.opcode = o.opcode ∧ s.dev.now + 250 * usT ≤ a.due ∧ KeptHere s (runCmd o c s)) ∧
      (∀ l k late, k.opcode = o.opcode → (answer k late (o.run c l k s)).dev.waiting o.opcode partnerObj = true ∧ KeptHere s (answer k late (o.run c l k s)))) ∧
    (c.arg 0 1 = 1 → Carried freezeNowSpec c s → ∃ u, exec (.freezeNow c) s = .next u ∧ u.dev.obs.frozen = s.dev.obs.frozen ∧
      (s.dev.pair.frozen = false → u.dev.waiting 0x0F02 partnerObj = true) ∧
      (s.dev.pair.frozen = true → u.dev.ctl.out.contains (.completion c.tag .ok 0 s.dev.short) = true))

/-- What the test access port shifts out, and that it changes nothing else. -/
def Sys2Proof.Machine.Shifts (s : State) (i : Instr) (o : Output) : Prop :=
  exec i s = .next (s.setDev { s.dev with ctl := { s.dev.ctl with out := s.dev.ctl.out ++ [o] } })

/-- The test access port: it works while the rails are up, frozen or not, and RD_DATA reads only a frozen unit. -/
def Sys2Proof.Machine.TestPort : Prop :=
  ∀ (s : State) (l : List Bool) (v : Word), exec .testReset s = .next s ∧
    (∀ b, s.tapOn = false → exec .idcode s = .next s ∧ exec .bypass s = .next s ∧ exec (.samplePreload l) s = .next s ∧ exec (.extest l) s = .next s ∧
      exec .frzTime s = .next s ∧ exec .frzStatus s = .next s ∧ exec (.rdAddr v) s = .next s ∧ exec (.rdData b) s = .next s) ∧
    (∀ b, s.tapOn = true → exec (.rdData b) s = .next (s.rdData b)) ∧
    (s.aon.auxOn = true → s.aon.railsOn = true →
      Shifts s .idcode (.jtag 32 0x1409656B) ∧ Shifts s .bypass (.jtag 1 0) ∧ Shifts s (.samplePreload l) (.scan false l) ∧
      Shifts s (.extest l) (.scan (!s.aon.resetHigh && !s.dev.obs.frozen) l) ∧ Shifts s .frzTime (.jtag 64 s.aon.freeze.time.toNat) ∧
      (∃ w : Word, Shifts s .frzStatus (.jtag 64 w.toNat) ∧ (bit w 0 = true ↔ s.dev.obs.frozen = true) ∧ fld w 1 3 = s.aon.freeze.cause % 8 ∧ fld w 16 12 = s.aon.freeze.source % 4096) ∧
      (∃ u, exec (.rdAddr v) s = .next u ∧ fld u.dev.obs.rdAddr 60 4 = fld v 60 4 ∧ fld u.dev.obs.rdAddr 0 48 = fld v 0 48 / 8 * 8 ∧ u.dev.ctl = s.dev.ctl) ∧
      (∀ b, s.dev.obs.frozen = false → Shifts s (.rdData b) (.jtag 65 0)) ∧
      (s.dev.obs.frozen = true → fld s.dev.obs.rdAddr 60 4 = 0 → fld s.dev.obs.rdAddr 0 48 + 8 < dramEnd →
        (∃ u, exec (.rdData true) s = .next u ∧
          u.dev.ctl.out = s.dev.ctl.out ++ [.jtag 65 (2 ^ 64 + leNat (memReads s.dev.mem.dram (fld s.dev.obs.rdAddr 0 48) 8))] ∧
          fld u.dev.obs.rdAddr 0 48 = fld s.dev.obs.rdAddr 0 48 + 8 ∧ u.dev.mem = s.dev.mem ∧ u.dev.ctl.regs = s.dev.ctl.regs) ∧
        (s.dev.obs.rdBurst = none → Shifts s (.rdData false) (.jtag 65 0))))

/-- MONITOR_SAMPLE, MARGIN_LOW_CLEAR, I2C_TEMP_READ: a low rail or 100 °C sets MARGIN_LOW at once; it clears when no cause has held for 1 s, and an advance of OTP put off is then made. -/
def Sys2Proof.Machine.Monitor : Prop :=
  ∀ (s : State) (p : Nat) (t : Int) (low : Bool), s.up = true →
    (∃ u, exec (.monitorSample p t low) s = .next u ∧ u.dev.pow.temp16 = t ∧ u.dev.pow.railLow = low ∧ u.dev.pow.samples = (p :: s.dev.pow.samples).take 1000 ∧
      (low = true ∨ 1600 ≤ t → u.dev.pow.marginLow = true ∧ u.dev.pow.lastCause = s.dev.now ∧ (s.dev.pow.marginLow = false → (u.dev.page pgDevice).event.getLsbD 2 = true)) ∧
      (low = false → t < 1600 → s.dev.pow.throttle = false → u.dev.pow.marginLow = s.dev.pow.marginLow)) ∧
    (s.dev.marginCause = false → s.dev.pow.marginLow = true → s.dev.pow.lastCause + secT ≤ s.dev.now → ∃ u, exec .marginLowClear s = .next u ∧ u.dev.pow.marginLow = false ∧
      (s.dev.boot.deferred = true → u.aon.counter = max s.aon.counter s.dev.boot.svn ∧ u.dev.boot.deferred = false) ∧ (s.dev.boot.deferred = false → u.aon.counter = s.aon.counter)) ∧
    (exec (.monitorSample p t low) s = .next (s.setDev (s.dev.monitorSample p t low)) ∧ exec .marginLowClear s = .next s.marginClear) ∧
    (s.dev.marginCause = true ∨ s.dev.pow.marginLow = false ∨ s.dev.now < s.dev.pow.lastCause + secT → exec .marginLowClear s = .next s) ∧
    (∀ x : BitVec 16, ∃ u, exec (.i2cTempRead (some x)) s = .next u ∧ u.dev.pow.board.toInt = x.toInt / 16 ∧ u.dev.ctl = s.dev.ctl) ∧
    (∃ u, exec (.i2cTempRead none) s = .next u ∧ u.dev.pow.board = 0x8000 ∧ u.dev.ctl = s.dev.ctl)

/-- The error log and the trace. -/
def Obligations.LogAndTrace : Prop := ErrorLog ∧ TraceCommands

/-- Units under test, freeze and the test access port. -/
def Obligations.TestAndFreeze : Prop := UnitTests ∧ Freezes ∧ PartnerTargets ∧ TestPort

/-- The power and thermal monitor. -/
def Obligations.PowerMonitor : Prop := Monitor

/-! ### The whole machine -/

/-- The commands that act on a unit that is frozen, held in reset or without power: RESET_N, the rails, the alarm sources, and the test access port. -/
def Sys2Proof.Instr.outside : Instr → Bool
  | .resetAssert | .resetRelease _ | .powerUp | .powerDown _ | .alarm _ | .extest _ | .idcode | .samplePreload _ | .frzStatus | .frzTime | .rdAddr _ | .bypass | .rdData _ => true
  | _ => false

/-- A unit that is frozen, held in reset or without its rails stands still: no other command changes anything. Before READY no command is fetched or
takes effect, and no boundary is acted on. -/
def Obligations.StoppedUnitStandsStill : Prop :=
  (∀ (i : Instr) (s : State), s.up = false → i.outside = false → exec i s = .next s) ∧
  (∀ (s : State) (r k g p : Nat) (tdm : List (Nat × List Int)), s.ready = false →
    ∀ i, i ∈ [Instr.commandFetch r k, .commandEffect, .epochBoundary, .blockBoundary tdm, .dispatcherTick, .commitGroupApply g p, .pictureTick g] → exec i s = .next s)

/-- What OTP holds never goes back: the anti-rollback counter, the REVOKED bits, the key hashes and the UPDATE_LOCK fuse, whatever command runs. -/
def Obligations.OtpNeverGoesBack : Prop :=
  ∀ (i : Instr) (s t : State), exec i s = .next t →
    s.aon.counter ≤ t.aon.counter ∧ (∀ k, s.aon.revoked.getLsbD k = true → t.aon.revoked.getLsbD k = true) ∧ t.aon.keyHash = s.aon.keyHash ∧ t.aon.lockOtp = s.aon.lockOtp

/-- ALARM_CFG.LOCK holds until VDD_AUX falls, and ENABLE with it; a latched alarm is cleared only by FLINT_RELEASE, on its own row or on one that carries commands out, or by the loss of VDD_AUX. -/
def Obligations.AlarmsHold : Prop :=
  ∀ (i : Instr) (s t : State), exec i s = .next t → i ≠ .powerDown true →
    (s.aon.alarmLock = true → t.aon.alarmLock = true ∧ t.aon.alarmEnable = s.aon.alarmEnable) ∧
    (s.aon.alarmLatch = true → t.aon.alarmLatch = true ∨ (∃ c, i = .flintRelease c) ∨ (∃ r k, i = .commandFetch r k) ∨ i = .commandEffect ∨ i = .epochBoundary ∨ ∃ f r, i = .command f r)

/-- The always-on domain is in order: the sources that ENABLE cannot mask are in it, an alarm is latched exactly while it has a cause, and RESET_N is high only over rails that are up. -/
def Sys2Proof.Machine.AlwaysOnOk (s : State) : Prop :=
  s.aon.alarmEnable &&& 0x0B = 0x0B ∧ (s.aon.alarmLatch = true ↔ s.aon.alarmCause ≠ 0) ∧ (s.aon.resetHigh = true → s.aon.railsOn = true ∧ s.aon.auxOn = true)

/-- Every step keeps AlwaysOnOk. -/
def Obligations.StepsKeepAlwaysOnOk : Prop := ∀ s t : State, AlwaysOnOk s → step s = .next t → AlwaysOnOk t

/-- AlwaysOnOk holds at reset. -/
def Obligations.ResetAlwaysOnOk : Prop := AlwaysOnOk State.reset

/-- The canonical form of the three memories is kept by every way of writing them, and by the commands that do. -/
def Obligations.MemoryStaysCanonical : Prop :=
  MemOk State.reset ∧
  (∀ (d : Dev) (r va a : Nat) (b : List Byte) (x : DmaDesc) (h : Bool) (ue : Option Nat) (n k : Nat) (s : State), MemOk (s.setDev d) →
    MemOk (s.setDev (d.writeVa r va b)) ∧ MemOk (s.setDev (d.dramWrites a b)) ∧ MemOk (s.setDev (Dev.moveBytes x h ue n k d).dev)) ∧
  (∀ (s t : State) (i : Instr), MemOk s → exec i s = .next t →
    ((∃ a x, i = .bar4Access a x) ∨ (∃ m h u, i = .dmaDescriptorStart m h u) ∨ (∃ c, i = .dmaDescriptorEnd c) ∨ i = .traceEntryWrite ∨ i = .eccRegionReady ∨ (∃ u f a, i = .bistDone u f a) ∨
      (∃ c, i = .settingsRead c) ∨ i = .resetAssert ∨ (∃ b, i = .powerDown b)) → MemOk t)

end
end

