-- ==== Sys2Proof/Laws/State.lean ====
section
/-! SUPPORT. What each named change of the state leaves alone: one lemma per field and change, so that no later proof unfolds a record update. -/

namespace Sys2Proof.Machine
open Sys2Proof

variable (d : Dev) (s : State)

@[simp] theorem State.setDev_dev (e : Dev) : (s.setDev e).dev = e := rfl
@[simp] theorem State.setDev_pending (e : Dev) : (s.setDev e).pending = s.pending := rfl
@[simp] theorem State.onDev_dev (f : Dev → Dev) : (s.onDev f).dev = f s.dev := rfl
@[simp] theorem State.onDev_pending (f : Dev → Dev) : (s.onDev f).pending = s.pending := rfl
@[simp] theorem State.onAon_dev (f : AlwaysOn → AlwaysOn) : (s.onAon f).dev = s.dev := rfl
@[simp] theorem State.onAon_aon (f : AlwaysOn → AlwaysOn) : (s.onAon f).aon = f s.aon := rfl
@[simp] theorem State.onAon_pending (f : AlwaysOn → AlwaysOn) : (s.onAon f).pending = s.pending := rfl

/-- A change of the resettable part changes nothing of the always-on domain but the freeze record. -/
theorem State.setDev_aon (e : Dev) : (s.setDev e).aon = { s.aon with freeze := (s.setDev e).aon.freeze } := rfl
@[simp] theorem State.setDev_auxOn (e : Dev) : (s.setDev e).aon.auxOn = s.aon.auxOn := rfl
@[simp] theorem State.setDev_railsOn (e : Dev) : (s.setDev e).aon.railsOn = s.aon.railsOn := rfl
@[simp] theorem State.setDev_resetHigh (e : Dev) : (s.setDev e).aon.resetHigh = s.aon.resetHigh := rfl
@[simp] theorem State.setDev_alarmEnable (e : Dev) : (s.setDev e).aon.alarmEnable = s.aon.alarmEnable := rfl
@[simp] theorem State.setDev_alarmLock (e : Dev) : (s.setDev e).aon.alarmLock = s.aon.alarmLock := rfl
@[simp] theorem State.setDev_alarmLatch (e : Dev) : (s.setDev e).aon.alarmLatch = s.aon.alarmLatch := rfl
@[simp] theorem State.setDev_alarmCause (e : Dev) : (s.setDev e).aon.alarmCause = s.aon.alarmCause := rfl
@[simp] theorem State.setDev_alarmActive (e : Dev) : (s.setDev e).aon.alarmActive = s.aon.alarmActive := rfl
@[simp] theorem State.setDev_alarmTime (e : Dev) : (s.setDev e).aon.alarmTime = s.aon.alarmTime := rfl
@[simp] theorem State.setDev_armed (e : Dev) : (s.setDev e).aon.armed = s.aon.armed := rfl
@[simp] theorem State.setDev_counter (e : Dev) : (s.setDev e).aon.counter = s.aon.counter := rfl
@[simp] theorem State.setDev_revoked (e : Dev) : (s.setDev e).aon.revoked = s.aon.revoked := rfl
@[simp] theorem State.setDev_keyHash (e : Dev) : (s.setDev e).aon.keyHash = s.aon.keyHash := rfl
@[simp] theorem State.setDev_lockOtp (e : Dev) : (s.setDev e).aon.lockOtp = s.aon.lockOtp := rfl
@[simp] theorem State.setDev_bankA (e : Dev) : (s.setDev e).aon.bankA = s.aon.bankA := rfl
@[simp] theorem State.setDev_bankB (e : Dev) : (s.setDev e).aon.bankB = s.aon.bankB := rfl
@[simp] theorem State.setDev_dirSeq (e : Dev) : (s.setDev e).aon.dirSeq = s.aon.dirSeq := rfl
@[simp] theorem State.setDev_lockOwner (e : Dev) : (s.setDev e).aon.lockOwner = s.aon.lockOwner := rfl
@[simp] theorem State.setDev_confirmTimeout (e : Dev) : (s.setDev e).aon.confirmTimeout = s.aon.confirmTimeout := rfl
@[simp] theorem State.setDev_settings (e : Dev) : (s.setDev e).aon.settings = s.aon.settings := rfl
@[simp] theorem State.setDev_recFmt (e : Dev) : (s.setDev e).aon.recFmt = s.aon.recFmt := rfl
@[simp] theorem State.setDev_oldSettings (e : Dev) : (s.setDev e).aon.oldSettings = s.aon.oldSettings := rfl
@[simp] theorem State.setDev_ignoreRecovery (e : Dev) : (s.setDev e).aon.ignoreRecovery = s.aon.ignoreRecovery := rfl

@[simp] theorem Dev.setPage_obs (p : Nat) (h : PageHdr) : (d.setPage p h).obs = d.obs := rfl
@[simp] theorem Dev.setPage_clk (p : Nat) (h : PageHdr) : (d.setPage p h).clk = d.clk := rfl
@[simp] theorem Dev.setPage_ptp (p : Nat) (h : PageHdr) : (d.setPage p h).ptp = d.ptp := rfl
@[simp] theorem Dev.setPage_xlat (p : Nat) (h : PageHdr) : (d.setPage p h).xlat = d.xlat := rfl
@[simp] theorem Dev.setPage_disp (p : Nat) (h : PageHdr) : (d.setPage p h).disp = d.disp := rfl
@[simp] theorem Dev.setPage_dma (p : Nat) (h : PageHdr) : (d.setPage p h).dma = d.dma := rfl
@[simp] theorem Dev.setPage_mem (p : Nat) (h : PageHdr) : (d.setPage p h).mem = d.mem := rfl
@[simp] theorem Dev.setPage_boot (p : Nat) (h : PageHdr) : (d.setPage p h).boot = d.boot := rfl
@[simp] theorem Dev.setPage_pow (p : Nat) (h : PageHdr) : (d.setPage p h).pow = d.pow := rfl
@[simp] theorem Dev.setPage_pair (p : Nat) (h : PageHdr) : (d.setPage p h).pair = d.pair := rfl
@[simp] theorem Dev.setPage_legs (p : Nat) (h : PageHdr) : (d.setPage p h).legs = d.legs := rfl
@[simp] theorem Dev.setPage_lanes (p : Nat) (h : PageHdr) : (d.setPage p h).lanes = d.lanes := rfl
@[simp] theorem Dev.setPage_egress (p : Nat) (h : PageHdr) : (d.setPage p h).egress = d.egress := rfl
@[simp] theorem Dev.setPage_flint (p : Nat) (h : PageHdr) : (d.setPage p h).flint = d.flint := rfl
@[simp] theorem Dev.setPage_geode (p : Nat) (h : PageHdr) : (d.setPage p h).geode = d.geode := rfl
@[simp] theorem Dev.setPage_mica (p : Nat) (h : PageHdr) : (d.setPage p h).mica = d.mica := rfl
@[simp] theorem Dev.setPage_audio (p : Nat) (h : PageHdr) : (d.setPage p h).audio = d.audio := rfl
@[simp] theorem Dev.setPage_render (p : Nat) (h : PageHdr) : (d.setPage p h).render = d.render := rfl
@[simp] theorem Dev.setPage_garnet (p : Nat) (h : PageHdr) : (d.setPage p h).garnet = d.garnet := rfl

@[simp] theorem Dev.onPage_obs (p : Nat) (f : PageHdr → PageHdr) : (d.onPage p f).obs = d.obs := rfl
@[simp] theorem Dev.onPage_clk (p : Nat) (f : PageHdr → PageHdr) : (d.onPage p f).clk = d.clk := rfl
@[simp] theorem Dev.onPage_ptp (p : Nat) (f : PageHdr → PageHdr) : (d.onPage p f).ptp = d.ptp := rfl
@[simp] theorem Dev.onPage_xlat (p : Nat) (f : PageHdr → PageHdr) : (d.onPage p f).xlat = d.xlat := rfl
@[simp] theorem Dev.onPage_disp (p : Nat) (f : PageHdr → PageHdr) : (d.onPage p f).disp = d.disp := rfl
@[simp] theorem Dev.onPage_dma (p : Nat) (f : PageHdr → PageHdr) : (d.onPage p f).dma = d.dma := rfl
@[simp] theorem Dev.onPage_mem (p : Nat) (f : PageHdr → PageHdr) : (d.onPage p f).mem = d.mem := rfl
@[simp] theorem Dev.onPage_boot (p : Nat) (f : PageHdr → PageHdr) : (d.onPage p f).boot = d.boot := rfl
@[simp] theorem Dev.onPage_pow (p : Nat) (f : PageHdr → PageHdr) : (d.onPage p f).pow = d.pow := rfl
@[simp] theorem Dev.onPage_pair (p : Nat) (f : PageHdr → PageHdr) : (d.onPage p f).pair = d.pair := rfl
@[simp] theorem Dev.onPage_legs (p : Nat) (f : PageHdr → PageHdr) : (d.onPage p f).legs = d.legs := rfl
@[simp] theorem Dev.onPage_lanes (p : Nat) (f : PageHdr → PageHdr) : (d.onPage p f).lanes = d.lanes := rfl
@[simp] theorem Dev.onPage_egress (p : Nat) (f : PageHdr → PageHdr) : (d.onPage p f).egress = d.egress := rfl
@[simp] theorem Dev.onPage_flint (p : Nat) (f : PageHdr → PageHdr) : (d.onPage p f).flint = d.flint := rfl
@[simp] theorem Dev.onPage_geode (p : Nat) (f : PageHdr → PageHdr) : (d.onPage p f).geode = d.geode := rfl
@[simp] theorem Dev.onPage_mica (p : Nat) (f : PageHdr → PageHdr) : (d.onPage p f).mica = d.mica := rfl
@[simp] theorem Dev.onPage_audio (p : Nat) (f : PageHdr → PageHdr) : (d.onPage p f).audio = d.audio := rfl
@[simp] theorem Dev.onPage_render (p : Nat) (f : PageHdr → PageHdr) : (d.onPage p f).render = d.render := rfl
@[simp] theorem Dev.onPage_garnet (p : Nat) (f : PageHdr → PageHdr) : (d.onPage p f).garnet = d.garnet := rfl

@[simp] theorem Dev.err_obs (p : Nat) (e : ErrCode) : (d.err p e).obs = d.obs := rfl
@[simp] theorem Dev.err_clk (p : Nat) (e : ErrCode) : (d.err p e).clk = d.clk := rfl
@[simp] theorem Dev.err_ptp (p : Nat) (e : ErrCode) : (d.err p e).ptp = d.ptp := rfl
@[simp] theorem Dev.err_xlat (p : Nat) (e : ErrCode) : (d.err p e).xlat = d.xlat := rfl
@[simp] theorem Dev.err_disp (p : Nat) (e : ErrCode) : (d.err p e).disp = d.disp := rfl
@[simp] theorem Dev.err_dma (p : Nat) (e : ErrCode) : (d.err p e).dma = d.dma := rfl
@[simp] theorem Dev.err_mem (p : Nat) (e : ErrCode) : (d.err p e).mem = d.mem := rfl
@[simp] theorem Dev.err_boot (p : Nat) (e : ErrCode) : (d.err p e).boot = d.boot := rfl
@[simp] theorem Dev.err_pow (p : Nat) (e : ErrCode) : (d.err p e).pow = d.pow := rfl
@[simp] theorem Dev.err_pair (p : Nat) (e : ErrCode) : (d.err p e).pair = d.pair := rfl
@[simp] theorem Dev.err_legs (p : Nat) (e : ErrCode) : (d.err p e).legs = d.legs := rfl
@[simp] theorem Dev.err_lanes (p : Nat) (e : ErrCode) : (d.err p e).lanes = d.lanes := rfl
@[simp] theorem Dev.err_egress (p : Nat) (e : ErrCode) : (d.err p e).egress = d.egress := rfl
@[simp] theorem Dev.err_flint (p : Nat) (e : ErrCode) : (d.err p e).flint = d.flint := rfl
@[simp] theorem Dev.err_geode (p : Nat) (e : ErrCode) : (d.err p e).geode = d.geode := rfl
@[simp] theorem Dev.err_mica (p : Nat) (e : ErrCode) : (d.err p e).mica = d.mica := rfl
@[simp] theorem Dev.err_audio (p : Nat) (e : ErrCode) : (d.err p e).audio = d.audio := rfl
@[simp] theorem Dev.err_render (p : Nat) (e : ErrCode) : (d.err p e).render = d.render := rfl
@[simp] theorem Dev.err_garnet (p : Nat) (e : ErrCode) : (d.err p e).garnet = d.garnet := rfl

@[simp] theorem Dev.setReg_obs (p off : Nat) (v : Word) : (d.setReg p off v).obs = d.obs := rfl
@[simp] theorem Dev.setReg_clk (p off : Nat) (v : Word) : (d.setReg p off v).clk = d.clk := rfl
@[simp] theorem Dev.setReg_ptp (p off : Nat) (v : Word) : (d.setReg p off v).ptp = d.ptp := rfl
@[simp] theorem Dev.setReg_xlat (p off : Nat) (v : Word) : (d.setReg p off v).xlat = d.xlat := rfl
@[simp] theorem Dev.setReg_disp (p off : Nat) (v : Word) : (d.setReg p off v).disp = d.disp := rfl
@[simp] theorem Dev.setReg_dma (p off : Nat) (v : Word) : (d.setReg p off v).dma = d.dma := rfl
@[simp] theorem Dev.setReg_mem (p off : Nat) (v : Word) : (d.setReg p off v).mem = d.mem := rfl
@[simp] theorem Dev.setReg_boot (p off : Nat) (v : Word) : (d.setReg p off v).boot = d.boot := rfl
@[simp] theorem Dev.setReg_pow (p off : Nat) (v : Word) : (d.setReg p off v).pow = d.pow := rfl
@[simp] theorem Dev.setReg_pair (p off : Nat) (v : Word) : (d.setReg p off v).pair = d.pair := rfl
@[simp] theorem Dev.setReg_legs (p off : Nat) (v : Word) : (d.setReg p off v).legs = d.legs := rfl
@[simp] theorem Dev.setReg_lanes (p off : Nat) (v : Word) : (d.setReg p off v).lanes = d.lanes := rfl
@[simp] theorem Dev.setReg_egress (p off : Nat) (v : Word) : (d.setReg p off v).egress = d.egress := rfl
@[simp] theorem Dev.setReg_flint (p off : Nat) (v : Word) : (d.setReg p off v).flint = d.flint := rfl
@[simp] theorem Dev.setReg_geode (p off : Nat) (v : Word) : (d.setReg p off v).geode = d.geode := rfl
@[simp] theorem Dev.setReg_mica (p off : Nat) (v : Word) : (d.setReg p off v).mica = d.mica := rfl
@[simp] theorem Dev.setReg_audio (p off : Nat) (v : Word) : (d.setReg p off v).audio = d.audio := rfl
@[simp] theorem Dev.setReg_render (p off : Nat) (v : Word) : (d.setReg p off v).render = d.render := rfl
@[simp] theorem Dev.setReg_garnet (p off : Nat) (v : Word) : (d.setReg p off v).garnet = d.garnet := rfl

@[simp] theorem Dev.setShadow_obs (p off : Nat) (v : Word) : (d.setShadow p off v).obs = d.obs := rfl
@[simp] theorem Dev.setShadow_clk (p off : Nat) (v : Word) : (d.setShadow p off v).clk = d.clk := rfl
@[simp] theorem Dev.setShadow_ptp (p off : Nat) (v : Word) : (d.setShadow p off v).ptp = d.ptp := rfl
@[simp] theorem Dev.setShadow_xlat (p off : Nat) (v : Word) : (d.setShadow p off v).xlat = d.xlat := rfl
@[simp] theorem Dev.setShadow_disp (p off : Nat) (v : Word) : (d.setShadow p off v).disp = d.disp := rfl
@[simp] theorem Dev.setShadow_dma (p off : Nat) (v : Word) : (d.setShadow p off v).dma = d.dma := rfl
@[simp] theorem Dev.setShadow_mem (p off : Nat) (v : Word) : (d.setShadow p off v).mem = d.mem := rfl
@[simp] theorem Dev.setShadow_boot (p off : Nat) (v : Word) : (d.setShadow p off v).boot = d.boot := rfl
@[simp] theorem Dev.setShadow_pow (p off : Nat) (v : Word) : (d.setShadow p off v).pow = d.pow := rfl
@[simp] theorem Dev.setShadow_pair (p off : Nat) (v : Word) : (d.setShadow p off v).pair = d.pair := rfl
@[simp] theorem Dev.setShadow_legs (p off : Nat) (v : Word) : (d.setShadow p off v).legs = d.legs := rfl
@[simp] theorem Dev.setShadow_lanes (p off : Nat) (v : Word) : (d.setShadow p off v).lanes = d.lanes := rfl
@[simp] theorem Dev.setShadow_egress (p off : Nat) (v : Word) : (d.setShadow p off v).egress = d.egress := rfl
@[simp] theorem Dev.setShadow_flint (p off : Nat) (v : Word) : (d.setShadow p off v).flint = d.flint := rfl
@[simp] theorem Dev.setShadow_geode (p off : Nat) (v : Word) : (d.setShadow p off v).geode = d.geode := rfl
@[simp] theorem Dev.setShadow_mica (p off : Nat) (v : Word) : (d.setShadow p off v).mica = d.mica := rfl
@[simp] theorem Dev.setShadow_audio (p off : Nat) (v : Word) : (d.setShadow p off v).audio = d.audio := rfl
@[simp] theorem Dev.setShadow_render (p off : Nat) (v : Word) : (d.setShadow p off v).render = d.render := rfl
@[simp] theorem Dev.setShadow_garnet (p off : Nat) (v : Word) : (d.setShadow p off v).garnet = d.garnet := rfl

@[simp] theorem Dev.bump_obs (p off n : Nat) : (d.bump p off n).obs = d.obs := rfl
@[simp] theorem Dev.bump_clk (p off n : Nat) : (d.bump p off n).clk = d.clk := rfl
@[simp] theorem Dev.bump_ptp (p off n : Nat) : (d.bump p off n).ptp = d.ptp := rfl
@[simp] theorem Dev.bump_xlat (p off n : Nat) : (d.bump p off n).xlat = d.xlat := rfl
@[simp] theorem Dev.bump_disp (p off n : Nat) : (d.bump p off n).disp = d.disp := rfl
@[simp] theorem Dev.bump_dma (p off n : Nat) : (d.bump p off n).dma = d.dma := rfl
@[simp] theorem Dev.bump_mem (p off n : Nat) : (d.bump p off n).mem = d.mem := rfl
@[simp] theorem Dev.bump_boot (p off n : Nat) : (d.bump p off n).boot = d.boot := rfl
@[simp] theorem Dev.bump_pow (p off n : Nat) : (d.bump p off n).pow = d.pow := rfl
@[simp] theorem Dev.bump_pair (p off n : Nat) : (d.bump p off n).pair = d.pair := rfl
@[simp] theorem Dev.bump_legs (p off n : Nat) : (d.bump p off n).legs = d.legs := rfl
@[simp] theorem Dev.bump_lanes (p off n : Nat) : (d.bump p off n).lanes = d.lanes := rfl
@[simp] theorem Dev.bump_egress (p off n : Nat) : (d.bump p off n).egress = d.egress := rfl
@[simp] theorem Dev.bump_flint (p off n : Nat) : (d.bump p off n).flint = d.flint := rfl
@[simp] theorem Dev.bump_geode (p off n : Nat) : (d.bump p off n).geode = d.geode := rfl
@[simp] theorem Dev.bump_mica (p off n : Nat) : (d.bump p off n).mica = d.mica := rfl
@[simp] theorem Dev.bump_audio (p off n : Nat) : (d.bump p off n).audio = d.audio := rfl
@[simp] theorem Dev.bump_render (p off n : Nat) : (d.bump p off n).render = d.render := rfl
@[simp] theorem Dev.bump_garnet (p off n : Nat) : (d.bump p off n).garnet = d.garnet := rfl

@[simp] theorem Dev.inc_obs (p off : Nat) : (d.inc p off).obs = d.obs := rfl
@[simp] theorem Dev.inc_clk (p off : Nat) : (d.inc p off).clk = d.clk := rfl
@[simp] theorem Dev.inc_ptp (p off : Nat) : (d.inc p off).ptp = d.ptp := rfl
@[simp] theorem Dev.inc_xlat (p off : Nat) : (d.inc p off).xlat = d.xlat := rfl
@[simp] theorem Dev.inc_disp (p off : Nat) : (d.inc p off).disp = d.disp := rfl
@[simp] theorem Dev.inc_dma (p off : Nat) : (d.inc p off).dma = d.dma := rfl
@[simp] theorem Dev.inc_mem (p off : Nat) : (d.inc p off).mem = d.mem := rfl
@[simp] theorem Dev.inc_boot (p off : Nat) : (d.inc p off).boot = d.boot := rfl
@[simp] theorem Dev.inc_pow (p off : Nat) : (d.inc p off).pow = d.pow := rfl
@[simp] theorem Dev.inc_pair (p off : Nat) : (d.inc p off).pair = d.pair := rfl
@[simp] theorem Dev.inc_legs (p off : Nat) : (d.inc p off).legs = d.legs := rfl
@[simp] theorem Dev.inc_lanes (p off : Nat) : (d.inc p off).lanes = d.lanes := rfl
@[simp] theorem Dev.inc_egress (p off : Nat) : (d.inc p off).egress = d.egress := rfl
@[simp] theorem Dev.inc_flint (p off : Nat) : (d.inc p off).flint = d.flint := rfl
@[simp] theorem Dev.inc_geode (p off : Nat) : (d.inc p off).geode = d.geode := rfl
@[simp] theorem Dev.inc_mica (p off : Nat) : (d.inc p off).mica = d.mica := rfl
@[simp] theorem Dev.inc_audio (p off : Nat) : (d.inc p off).audio = d.audio := rfl
@[simp] theorem Dev.inc_render (p off : Nat) : (d.inc p off).render = d.render := rfl
@[simp] theorem Dev.inc_garnet (p off : Nat) : (d.inc p off).garnet = d.garnet := rfl

@[simp] theorem Dev.emit_obs (o : Output) : (d.emit o).obs = d.obs := rfl
@[simp] theorem Dev.emit_clk (o : Output) : (d.emit o).clk = d.clk := rfl
@[simp] theorem Dev.emit_ptp (o : Output) : (d.emit o).ptp = d.ptp := rfl
@[simp] theorem Dev.emit_xlat (o : Output) : (d.emit o).xlat = d.xlat := rfl
@[simp] theorem Dev.emit_disp (o : Output) : (d.emit o).disp = d.disp := rfl
@[simp] theorem Dev.emit_dma (o : Output) : (d.emit o).dma = d.dma := rfl
@[simp] theorem Dev.emit_mem (o : Output) : (d.emit o).mem = d.mem := rfl
@[simp] theorem Dev.emit_boot (o : Output) : (d.emit o).boot = d.boot := rfl
@[simp] theorem Dev.emit_pow (o : Output) : (d.emit o).pow = d.pow := rfl
@[simp] theorem Dev.emit_pair (o : Output) : (d.emit o).pair = d.pair := rfl
@[simp] theorem Dev.emit_legs (o : Output) : (d.emit o).legs = d.legs := rfl
@[simp] theorem Dev.emit_lanes (o : Output) : (d.emit o).lanes = d.lanes := rfl
@[simp] theorem Dev.emit_egress (o : Output) : (d.emit o).egress = d.egress := rfl
@[simp] theorem Dev.emit_flint (o : Output) : (d.emit o).flint = d.flint := rfl
@[simp] theorem Dev.emit_geode (o : Output) : (d.emit o).geode = d.geode := rfl
@[simp] theorem Dev.emit_mica (o : Output) : (d.emit o).mica = d.mica := rfl
@[simp] theorem Dev.emit_audio (o : Output) : (d.emit o).audio = d.audio := rfl
@[simp] theorem Dev.emit_render (o : Output) : (d.emit o).render = d.render := rfl
@[simp] theorem Dev.emit_garnet (o : Output) : (d.emit o).garnet = d.garnet := rfl

@[simp] theorem Dev.tickFree_obs : (d.tickFree).obs = d.obs := rfl
@[simp] theorem Dev.tickFree_clk : (d.tickFree).clk = d.clk := rfl
@[simp] theorem Dev.tickFree_ptp : (d.tickFree).ptp = d.ptp := rfl
@[simp] theorem Dev.tickFree_xlat : (d.tickFree).xlat = d.xlat := rfl
@[simp] theorem Dev.tickFree_disp : (d.tickFree).disp = d.disp := rfl
@[simp] theorem Dev.tickFree_dma : (d.tickFree).dma = d.dma := rfl
@[simp] theorem Dev.tickFree_mem : (d.tickFree).mem = d.mem := rfl
@[simp] theorem Dev.tickFree_boot : (d.tickFree).boot = d.boot := rfl
@[simp] theorem Dev.tickFree_pow : (d.tickFree).pow = d.pow := rfl
@[simp] theorem Dev.tickFree_pair : (d.tickFree).pair = d.pair := rfl
@[simp] theorem Dev.tickFree_legs : (d.tickFree).legs = d.legs := rfl
@[simp] theorem Dev.tickFree_lanes : (d.tickFree).lanes = d.lanes := rfl
@[simp] theorem Dev.tickFree_egress : (d.tickFree).egress = d.egress := rfl
@[simp] theorem Dev.tickFree_flint : (d.tickFree).flint = d.flint := rfl
@[simp] theorem Dev.tickFree_geode : (d.tickFree).geode = d.geode := rfl
@[simp] theorem Dev.tickFree_mica : (d.tickFree).mica = d.mica := rfl
@[simp] theorem Dev.tickFree_audio : (d.tickFree).audio = d.audio := rfl
@[simp] theorem Dev.tickFree_render : (d.tickFree).render = d.render := rfl
@[simp] theorem Dev.tickFree_garnet : (d.tickFree).garnet = d.garnet := rfl

@[simp] theorem Dev.setRing_obs (r k : Nat) (x : Ring) : (d.setRing r k x).obs = d.obs := rfl
@[simp] theorem Dev.setRing_clk (r k : Nat) (x : Ring) : (d.setRing r k x).clk = d.clk := rfl
@[simp] theorem Dev.setRing_ptp (r k : Nat) (x : Ring) : (d.setRing r k x).ptp = d.ptp := rfl
@[simp] theorem Dev.setRing_xlat (r k : Nat) (x : Ring) : (d.setRing r k x).xlat = d.xlat := rfl
@[simp] theorem Dev.setRing_disp (r k : Nat) (x : Ring) : (d.setRing r k x).disp = d.disp := rfl
@[simp] theorem Dev.setRing_dma (r k : Nat) (x : Ring) : (d.setRing r k x).dma = d.dma := rfl
@[simp] theorem Dev.setRing_mem (r k : Nat) (x : Ring) : (d.setRing r k x).mem = d.mem := rfl
@[simp] theorem Dev.setRing_boot (r k : Nat) (x : Ring) : (d.setRing r k x).boot = d.boot := rfl
@[simp] theorem Dev.setRing_pow (r k : Nat) (x : Ring) : (d.setRing r k x).pow = d.pow := rfl
@[simp] theorem Dev.setRing_pair (r k : Nat) (x : Ring) : (d.setRing r k x).pair = d.pair := rfl
@[simp] theorem Dev.setRing_legs (r k : Nat) (x : Ring) : (d.setRing r k x).legs = d.legs := rfl
@[simp] theorem Dev.setRing_lanes (r k : Nat) (x : Ring) : (d.setRing r k x).lanes = d.lanes := rfl
@[simp] theorem Dev.setRing_egress (r k : Nat) (x : Ring) : (d.setRing r k x).egress = d.egress := rfl
@[simp] theorem Dev.setRing_flint (r k : Nat) (x : Ring) : (d.setRing r k x).flint = d.flint := rfl
@[simp] theorem Dev.setRing_geode (r k : Nat) (x : Ring) : (d.setRing r k x).geode = d.geode := rfl
@[simp] theorem Dev.setRing_mica (r k : Nat) (x : Ring) : (d.setRing r k x).mica = d.mica := rfl
@[simp] theorem Dev.setRing_audio (r k : Nat) (x : Ring) : (d.setRing r k x).audio = d.audio := rfl
@[simp] theorem Dev.setRing_render (r k : Nat) (x : Ring) : (d.setRing r k x).render = d.render := rfl
@[simp] theorem Dev.setRing_garnet (r k : Nat) (x : Ring) : (d.setRing r k x).garnet = d.garnet := rfl

@[simp] theorem Dev.setGroup_obs (g : Nat) (x : Option Group) : (d.setGroup g x).obs = d.obs := rfl
@[simp] theorem Dev.setGroup_clk (g : Nat) (x : Option Group) : (d.setGroup g x).clk = d.clk := rfl
@[simp] theorem Dev.setGroup_ptp (g : Nat) (x : Option Group) : (d.setGroup g x).ptp = d.ptp := rfl
@[simp] theorem Dev.setGroup_xlat (g : Nat) (x : Option Group) : (d.setGroup g x).xlat = d.xlat := rfl
@[simp] theorem Dev.setGroup_disp (g : Nat) (x : Option Group) : (d.setGroup g x).disp = d.disp := rfl
@[simp] theorem Dev.setGroup_dma (g : Nat) (x : Option Group) : (d.setGroup g x).dma = d.dma := rfl
@[simp] theorem Dev.setGroup_mem (g : Nat) (x : Option Group) : (d.setGroup g x).mem = d.mem := rfl
@[simp] theorem Dev.setGroup_boot (g : Nat) (x : Option Group) : (d.setGroup g x).boot = d.boot := rfl
@[simp] theorem Dev.setGroup_pow (g : Nat) (x : Option Group) : (d.setGroup g x).pow = d.pow := rfl
@[simp] theorem Dev.setGroup_pair (g : Nat) (x : Option Group) : (d.setGroup g x).pair = d.pair := rfl
@[simp] theorem Dev.setGroup_legs (g : Nat) (x : Option Group) : (d.setGroup g x).legs = d.legs := rfl
@[simp] theorem Dev.setGroup_lanes (g : Nat) (x : Option Group) : (d.setGroup g x).lanes = d.lanes := rfl
@[simp] theorem Dev.setGroup_egress (g : Nat) (x : Option Group) : (d.setGroup g x).egress = d.egress := rfl
@[simp] theorem Dev.setGroup_flint (g : Nat) (x : Option Group) : (d.setGroup g x).flint = d.flint := rfl
@[simp] theorem Dev.setGroup_geode (g : Nat) (x : Option Group) : (d.setGroup g x).geode = d.geode := rfl
@[simp] theorem Dev.setGroup_mica (g : Nat) (x : Option Group) : (d.setGroup g x).mica = d.mica := rfl
@[simp] theorem Dev.setGroup_audio (g : Nat) (x : Option Group) : (d.setGroup g x).audio = d.audio := rfl
@[simp] theorem Dev.setGroup_render (g : Nat) (x : Option Group) : (d.setGroup g x).render = d.render := rfl
@[simp] theorem Dev.setGroup_garnet (g : Nat) (x : Option Group) : (d.setGroup g x).garnet = d.garnet := rfl

@[simp] theorem Dev.onObs_ctl (f : Obs → Obs) : (d.onObs f).ctl = d.ctl := rfl
@[simp] theorem Dev.onObs_clk (f : Obs → Obs) : (d.onObs f).clk = d.clk := rfl
@[simp] theorem Dev.onObs_ptp (f : Obs → Obs) : (d.onObs f).ptp = d.ptp := rfl
@[simp] theorem Dev.onObs_xlat (f : Obs → Obs) : (d.onObs f).xlat = d.xlat := rfl
@[simp] theorem Dev.onObs_disp (f : Obs → Obs) : (d.onObs f).disp = d.disp := rfl
@[simp] theorem Dev.onObs_dma (f : Obs → Obs) : (d.onObs f).dma = d.dma := rfl
@[simp] theorem Dev.onObs_mem (f : Obs → Obs) : (d.onObs f).mem = d.mem := rfl
@[simp] theorem Dev.onObs_boot (f : Obs → Obs) : (d.onObs f).boot = d.boot := rfl
@[simp] theorem Dev.onObs_pow (f : Obs → Obs) : (d.onObs f).pow = d.pow := rfl
@[simp] theorem Dev.onObs_pair (f : Obs → Obs) : (d.onObs f).pair = d.pair := rfl
@[simp] theorem Dev.onObs_legs (f : Obs → Obs) : (d.onObs f).legs = d.legs := rfl
@[simp] theorem Dev.onObs_lanes (f : Obs → Obs) : (d.onObs f).lanes = d.lanes := rfl
@[simp] theorem Dev.onObs_egress (f : Obs → Obs) : (d.onObs f).egress = d.egress := rfl
@[simp] theorem Dev.onObs_flint (f : Obs → Obs) : (d.onObs f).flint = d.flint := rfl
@[simp] theorem Dev.onObs_geode (f : Obs → Obs) : (d.onObs f).geode = d.geode := rfl
@[simp] theorem Dev.onObs_mica (f : Obs → Obs) : (d.onObs f).mica = d.mica := rfl
@[simp] theorem Dev.onObs_audio (f : Obs → Obs) : (d.onObs f).audio = d.audio := rfl
@[simp] theorem Dev.onObs_render (f : Obs → Obs) : (d.onObs f).render = d.render := rfl
@[simp] theorem Dev.onObs_garnet (f : Obs → Obs) : (d.onObs f).garnet = d.garnet := rfl

@[simp] theorem Dev.hold_ctl (kind obj r va n : Nat) : (d.hold kind obj r va n).ctl = d.ctl := rfl
@[simp] theorem Dev.hold_obs (kind obj r va n : Nat) : (d.hold kind obj r va n).obs = d.obs := rfl
@[simp] theorem Dev.hold_clk (kind obj r va n : Nat) : (d.hold kind obj r va n).clk = d.clk := rfl
@[simp] theorem Dev.hold_ptp (kind obj r va n : Nat) : (d.hold kind obj r va n).ptp = d.ptp := rfl
@[simp] theorem Dev.hold_disp (kind obj r va n : Nat) : (d.hold kind obj r va n).disp = d.disp := rfl
@[simp] theorem Dev.hold_dma (kind obj r va n : Nat) : (d.hold kind obj r va n).dma = d.dma := rfl
@[simp] theorem Dev.hold_mem (kind obj r va n : Nat) : (d.hold kind obj r va n).mem = d.mem := rfl
@[simp] theorem Dev.hold_boot (kind obj r va n : Nat) : (d.hold kind obj r va n).boot = d.boot := rfl
@[simp] theorem Dev.hold_pow (kind obj r va n : Nat) : (d.hold kind obj r va n).pow = d.pow := rfl
@[simp] theorem Dev.hold_pair (kind obj r va n : Nat) : (d.hold kind obj r va n).pair = d.pair := rfl
@[simp] theorem Dev.hold_legs (kind obj r va n : Nat) : (d.hold kind obj r va n).legs = d.legs := rfl
@[simp] theorem Dev.hold_lanes (kind obj r va n : Nat) : (d.hold kind obj r va n).lanes = d.lanes := rfl
@[simp] theorem Dev.hold_egress (kind obj r va n : Nat) : (d.hold kind obj r va n).egress = d.egress := rfl
@[simp] theorem Dev.hold_flint (kind obj r va n : Nat) : (d.hold kind obj r va n).flint = d.flint := rfl
@[simp] theorem Dev.hold_geode (kind obj r va n : Nat) : (d.hold kind obj r va n).geode = d.geode := rfl
@[simp] theorem Dev.hold_mica (kind obj r va n : Nat) : (d.hold kind obj r va n).mica = d.mica := rfl
@[simp] theorem Dev.hold_audio (kind obj r va n : Nat) : (d.hold kind obj r va n).audio = d.audio := rfl
@[simp] theorem Dev.hold_render (kind obj r va n : Nat) : (d.hold kind obj r va n).render = d.render := rfl
@[simp] theorem Dev.hold_garnet (kind obj r va n : Nat) : (d.hold kind obj r va n).garnet = d.garnet := rfl

@[simp] theorem Dev.unhold_ctl (kind obj : Nat) : (d.unhold kind obj).ctl = d.ctl := rfl
@[simp] theorem Dev.unhold_obs (kind obj : Nat) : (d.unhold kind obj).obs = d.obs := rfl
@[simp] theorem Dev.unhold_clk (kind obj : Nat) : (d.unhold kind obj).clk = d.clk := rfl
@[simp] theorem Dev.unhold_ptp (kind obj : Nat) : (d.unhold kind obj).ptp = d.ptp := rfl
@[simp] theorem Dev.unhold_disp (kind obj : Nat) : (d.unhold kind obj).disp = d.disp := rfl
@[simp] theorem Dev.unhold_dma (kind obj : Nat) : (d.unhold kind obj).dma = d.dma := rfl
@[simp] theorem Dev.unhold_mem (kind obj : Nat) : (d.unhold kind obj).mem = d.mem := rfl
@[simp] theorem Dev.unhold_boot (kind obj : Nat) : (d.unhold kind obj).boot = d.boot := rfl
@[simp] theorem Dev.unhold_pow (kind obj : Nat) : (d.unhold kind obj).pow = d.pow := rfl
@[simp] theorem Dev.unhold_pair (kind obj : Nat) : (d.unhold kind obj).pair = d.pair := rfl
@[simp] theorem Dev.unhold_legs (kind obj : Nat) : (d.unhold kind obj).legs = d.legs := rfl
@[simp] theorem Dev.unhold_lanes (kind obj : Nat) : (d.unhold kind obj).lanes = d.lanes := rfl
@[simp] theorem Dev.unhold_egress (kind obj : Nat) : (d.unhold kind obj).egress = d.egress := rfl
@[simp] theorem Dev.unhold_flint (kind obj : Nat) : (d.unhold kind obj).flint = d.flint := rfl
@[simp] theorem Dev.unhold_geode (kind obj : Nat) : (d.unhold kind obj).geode = d.geode := rfl
@[simp] theorem Dev.unhold_mica (kind obj : Nat) : (d.unhold kind obj).mica = d.mica := rfl
@[simp] theorem Dev.unhold_audio (kind obj : Nat) : (d.unhold kind obj).audio = d.audio := rfl
@[simp] theorem Dev.unhold_render (kind obj : Nat) : (d.unhold kind obj).render = d.render := rfl
@[simp] theorem Dev.unhold_garnet (kind obj : Nat) : (d.unhold kind obj).garnet = d.garnet := rfl

@[simp] theorem Dev.setDomain_ctl (k : Nat) (x : Domain) : (d.setDomain k x).ctl = d.ctl := rfl
@[simp] theorem Dev.setDomain_obs (k : Nat) (x : Domain) : (d.setDomain k x).obs = d.obs := rfl
@[simp] theorem Dev.setDomain_clk (k : Nat) (x : Domain) : (d.setDomain k x).clk = d.clk := rfl
@[simp] theorem Dev.setDomain_ptp (k : Nat) (x : Domain) : (d.setDomain k x).ptp = d.ptp := rfl
@[simp] theorem Dev.setDomain_xlat (k : Nat) (x : Domain) : (d.setDomain k x).xlat = d.xlat := rfl
@[simp] theorem Dev.setDomain_dma (k : Nat) (x : Domain) : (d.setDomain k x).dma = d.dma := rfl
@[simp] theorem Dev.setDomain_mem (k : Nat) (x : Domain) : (d.setDomain k x).mem = d.mem := rfl
@[simp] theorem Dev.setDomain_boot (k : Nat) (x : Domain) : (d.setDomain k x).boot = d.boot := rfl
@[simp] theorem Dev.setDomain_pow (k : Nat) (x : Domain) : (d.setDomain k x).pow = d.pow := rfl
@[simp] theorem Dev.setDomain_pair (k : Nat) (x : Domain) : (d.setDomain k x).pair = d.pair := rfl
@[simp] theorem Dev.setDomain_legs (k : Nat) (x : Domain) : (d.setDomain k x).legs = d.legs := rfl
@[simp] theorem Dev.setDomain_lanes (k : Nat) (x : Domain) : (d.setDomain k x).lanes = d.lanes := rfl
@[simp] theorem Dev.setDomain_egress (k : Nat) (x : Domain) : (d.setDomain k x).egress = d.egress := rfl
@[simp] theorem Dev.setDomain_flint (k : Nat) (x : Domain) : (d.setDomain k x).flint = d.flint := rfl
@[simp] theorem Dev.setDomain_geode (k : Nat) (x : Domain) : (d.setDomain k x).geode = d.geode := rfl
@[simp] theorem Dev.setDomain_mica (k : Nat) (x : Domain) : (d.setDomain k x).mica = d.mica := rfl
@[simp] theorem Dev.setDomain_audio (k : Nat) (x : Domain) : (d.setDomain k x).audio = d.audio := rfl
@[simp] theorem Dev.setDomain_render (k : Nat) (x : Domain) : (d.setDomain k x).render = d.render := rfl
@[simp] theorem Dev.setDomain_garnet (k : Nat) (x : Domain) : (d.setDomain k x).garnet = d.garnet := rfl

@[simp] theorem Dev.setDch_ctl (k : Nat) (x : DmaCh) : (d.setDch k x).ctl = d.ctl := rfl
@[simp] theorem Dev.setDch_obs (k : Nat) (x : DmaCh) : (d.setDch k x).obs = d.obs := rfl
@[simp] theorem Dev.setDch_clk (k : Nat) (x : DmaCh) : (d.setDch k x).clk = d.clk := rfl
@[simp] theorem Dev.setDch_ptp (k : Nat) (x : DmaCh) : (d.setDch k x).ptp = d.ptp := rfl
@[simp] theorem Dev.setDch_xlat (k : Nat) (x : DmaCh) : (d.setDch k x).xlat = d.xlat := rfl
@[simp] theorem Dev.setDch_disp (k : Nat) (x : DmaCh) : (d.setDch k x).disp = d.disp := rfl
@[simp] theorem Dev.setDch_mem (k : Nat) (x : DmaCh) : (d.setDch k x).mem = d.mem := rfl
@[simp] theorem Dev.setDch_boot (k : Nat) (x : DmaCh) : (d.setDch k x).boot = d.boot := rfl
@[simp] theorem Dev.setDch_pow (k : Nat) (x : DmaCh) : (d.setDch k x).pow = d.pow := rfl
@[simp] theorem Dev.setDch_pair (k : Nat) (x : DmaCh) : (d.setDch k x).pair = d.pair := rfl
@[simp] theorem Dev.setDch_legs (k : Nat) (x : DmaCh) : (d.setDch k x).legs = d.legs := rfl
@[simp] theorem Dev.setDch_lanes (k : Nat) (x : DmaCh) : (d.setDch k x).lanes = d.lanes := rfl
@[simp] theorem Dev.setDch_egress (k : Nat) (x : DmaCh) : (d.setDch k x).egress = d.egress := rfl
@[simp] theorem Dev.setDch_flint (k : Nat) (x : DmaCh) : (d.setDch k x).flint = d.flint := rfl
@[simp] theorem Dev.setDch_geode (k : Nat) (x : DmaCh) : (d.setDch k x).geode = d.geode := rfl
@[simp] theorem Dev.setDch_mica (k : Nat) (x : DmaCh) : (d.setDch k x).mica = d.mica := rfl
@[simp] theorem Dev.setDch_audio (k : Nat) (x : DmaCh) : (d.setDch k x).audio = d.audio := rfl
@[simp] theorem Dev.setDch_render (k : Nat) (x : DmaCh) : (d.setDch k x).render = d.render := rfl
@[simp] theorem Dev.setDch_garnet (k : Nat) (x : DmaCh) : (d.setDch k x).garnet = d.garnet := rfl

@[simp] theorem Dev.freeMover_ctl (k : Nat) : (d.freeMover k).ctl = d.ctl := rfl
@[simp] theorem Dev.freeMover_obs (k : Nat) : (d.freeMover k).obs = d.obs := rfl
@[simp] theorem Dev.freeMover_clk (k : Nat) : (d.freeMover k).clk = d.clk := rfl
@[simp] theorem Dev.freeMover_ptp (k : Nat) : (d.freeMover k).ptp = d.ptp := rfl
@[simp] theorem Dev.freeMover_xlat (k : Nat) : (d.freeMover k).xlat = d.xlat := rfl
@[simp] theorem Dev.freeMover_disp (k : Nat) : (d.freeMover k).disp = d.disp := rfl
@[simp] theorem Dev.freeMover_mem (k : Nat) : (d.freeMover k).mem = d.mem := rfl
@[simp] theorem Dev.freeMover_boot (k : Nat) : (d.freeMover k).boot = d.boot := rfl
@[simp] theorem Dev.freeMover_pow (k : Nat) : (d.freeMover k).pow = d.pow := rfl
@[simp] theorem Dev.freeMover_pair (k : Nat) : (d.freeMover k).pair = d.pair := rfl
@[simp] theorem Dev.freeMover_legs (k : Nat) : (d.freeMover k).legs = d.legs := rfl
@[simp] theorem Dev.freeMover_lanes (k : Nat) : (d.freeMover k).lanes = d.lanes := rfl
@[simp] theorem Dev.freeMover_egress (k : Nat) : (d.freeMover k).egress = d.egress := rfl
@[simp] theorem Dev.freeMover_flint (k : Nat) : (d.freeMover k).flint = d.flint := rfl
@[simp] theorem Dev.freeMover_geode (k : Nat) : (d.freeMover k).geode = d.geode := rfl
@[simp] theorem Dev.freeMover_mica (k : Nat) : (d.freeMover k).mica = d.mica := rfl
@[simp] theorem Dev.freeMover_audio (k : Nat) : (d.freeMover k).audio = d.audio := rfl
@[simp] theorem Dev.freeMover_render (k : Nat) : (d.freeMover k).render = d.render := rfl
@[simp] theorem Dev.freeMover_garnet (k : Nat) : (d.freeMover k).garnet = d.garnet := rfl

@[simp] theorem Dev.dramWrites_ctl (a : Nat) (b : List Byte) : (d.dramWrites a b).ctl = d.ctl := rfl
@[simp] theorem Dev.dramWrites_obs (a : Nat) (b : List Byte) : (d.dramWrites a b).obs = d.obs := rfl
@[simp] theorem Dev.dramWrites_clk (a : Nat) (b : List Byte) : (d.dramWrites a b).clk = d.clk := rfl
@[simp] theorem Dev.dramWrites_ptp (a : Nat) (b : List Byte) : (d.dramWrites a b).ptp = d.ptp := rfl
@[simp] theorem Dev.dramWrites_xlat (a : Nat) (b : List Byte) : (d.dramWrites a b).xlat = d.xlat := rfl
@[simp] theorem Dev.dramWrites_disp (a : Nat) (b : List Byte) : (d.dramWrites a b).disp = d.disp := rfl
@[simp] theorem Dev.dramWrites_dma (a : Nat) (b : List Byte) : (d.dramWrites a b).dma = d.dma := rfl
@[simp] theorem Dev.dramWrites_boot (a : Nat) (b : List Byte) : (d.dramWrites a b).boot = d.boot := rfl
@[simp] theorem Dev.dramWrites_pow (a : Nat) (b : List Byte) : (d.dramWrites a b).pow = d.pow := rfl
@[simp] theorem Dev.dramWrites_pair (a : Nat) (b : List Byte) : (d.dramWrites a b).pair = d.pair := rfl
@[simp] theorem Dev.dramWrites_legs (a : Nat) (b : List Byte) : (d.dramWrites a b).legs = d.legs := rfl
@[simp] theorem Dev.dramWrites_lanes (a : Nat) (b : List Byte) : (d.dramWrites a b).lanes = d.lanes := rfl
@[simp] theorem Dev.dramWrites_egress (a : Nat) (b : List Byte) : (d.dramWrites a b).egress = d.egress := rfl
@[simp] theorem Dev.dramWrites_flint (a : Nat) (b : List Byte) : (d.dramWrites a b).flint = d.flint := rfl
@[simp] theorem Dev.dramWrites_geode (a : Nat) (b : List Byte) : (d.dramWrites a b).geode = d.geode := rfl
@[simp] theorem Dev.dramWrites_mica (a : Nat) (b : List Byte) : (d.dramWrites a b).mica = d.mica := rfl
@[simp] theorem Dev.dramWrites_audio (a : Nat) (b : List Byte) : (d.dramWrites a b).audio = d.audio := rfl
@[simp] theorem Dev.dramWrites_render (a : Nat) (b : List Byte) : (d.dramWrites a b).render = d.render := rfl
@[simp] theorem Dev.dramWrites_garnet (a : Nat) (b : List Byte) : (d.dramWrites a b).garnet = d.garnet := rfl

@[simp] theorem Dev.onBoot_ctl (f : Boot → Boot) : (d.onBoot f).ctl = d.ctl := rfl
@[simp] theorem Dev.onBoot_obs (f : Boot → Boot) : (d.onBoot f).obs = d.obs := rfl
@[simp] theorem Dev.onBoot_clk (f : Boot → Boot) : (d.onBoot f).clk = d.clk := rfl
@[simp] theorem Dev.onBoot_ptp (f : Boot → Boot) : (d.onBoot f).ptp = d.ptp := rfl
@[simp] theorem Dev.onBoot_xlat (f : Boot → Boot) : (d.onBoot f).xlat = d.xlat := rfl
@[simp] theorem Dev.onBoot_disp (f : Boot → Boot) : (d.onBoot f).disp = d.disp := rfl
@[simp] theorem Dev.onBoot_dma (f : Boot → Boot) : (d.onBoot f).dma = d.dma := rfl
@[simp] theorem Dev.onBoot_mem (f : Boot → Boot) : (d.onBoot f).mem = d.mem := rfl
@[simp] theorem Dev.onBoot_pow (f : Boot → Boot) : (d.onBoot f).pow = d.pow := rfl
@[simp] theorem Dev.onBoot_pair (f : Boot → Boot) : (d.onBoot f).pair = d.pair := rfl
@[simp] theorem Dev.onBoot_legs (f : Boot → Boot) : (d.onBoot f).legs = d.legs := rfl
@[simp] theorem Dev.onBoot_lanes (f : Boot → Boot) : (d.onBoot f).lanes = d.lanes := rfl
@[simp] theorem Dev.onBoot_egress (f : Boot → Boot) : (d.onBoot f).egress = d.egress := rfl
@[simp] theorem Dev.onBoot_flint (f : Boot → Boot) : (d.onBoot f).flint = d.flint := rfl
@[simp] theorem Dev.onBoot_geode (f : Boot → Boot) : (d.onBoot f).geode = d.geode := rfl
@[simp] theorem Dev.onBoot_mica (f : Boot → Boot) : (d.onBoot f).mica = d.mica := rfl
@[simp] theorem Dev.onBoot_audio (f : Boot → Boot) : (d.onBoot f).audio = d.audio := rfl
@[simp] theorem Dev.onBoot_render (f : Boot → Boot) : (d.onBoot f).render = d.render := rfl
@[simp] theorem Dev.onBoot_garnet (f : Boot → Boot) : (d.onBoot f).garnet = d.garnet := rfl

@[simp] theorem Dev.onPair_ctl (f : Pair → Pair) : (d.onPair f).ctl = d.ctl := rfl
@[simp] theorem Dev.onPair_obs (f : Pair → Pair) : (d.onPair f).obs = d.obs := rfl
@[simp] theorem Dev.onPair_clk (f : Pair → Pair) : (d.onPair f).clk = d.clk := rfl
@[simp] theorem Dev.onPair_ptp (f : Pair → Pair) : (d.onPair f).ptp = d.ptp := rfl
@[simp] theorem Dev.onPair_xlat (f : Pair → Pair) : (d.onPair f).xlat = d.xlat := rfl
@[simp] theorem Dev.onPair_disp (f : Pair → Pair) : (d.onPair f).disp = d.disp := rfl
@[simp] theorem Dev.onPair_dma (f : Pair → Pair) : (d.onPair f).dma = d.dma := rfl
@[simp] theorem Dev.onPair_mem (f : Pair → Pair) : (d.onPair f).mem = d.mem := rfl
@[simp] theorem Dev.onPair_boot (f : Pair → Pair) : (d.onPair f).boot = d.boot := rfl
@[simp] theorem Dev.onPair_pow (f : Pair → Pair) : (d.onPair f).pow = d.pow := rfl
@[simp] theorem Dev.onPair_legs (f : Pair → Pair) : (d.onPair f).legs = d.legs := rfl
@[simp] theorem Dev.onPair_lanes (f : Pair → Pair) : (d.onPair f).lanes = d.lanes := rfl
@[simp] theorem Dev.onPair_egress (f : Pair → Pair) : (d.onPair f).egress = d.egress := rfl
@[simp] theorem Dev.onPair_flint (f : Pair → Pair) : (d.onPair f).flint = d.flint := rfl
@[simp] theorem Dev.onPair_geode (f : Pair → Pair) : (d.onPair f).geode = d.geode := rfl
@[simp] theorem Dev.onPair_mica (f : Pair → Pair) : (d.onPair f).mica = d.mica := rfl
@[simp] theorem Dev.onPair_audio (f : Pair → Pair) : (d.onPair f).audio = d.audio := rfl
@[simp] theorem Dev.onPair_render (f : Pair → Pair) : (d.onPair f).render = d.render := rfl
@[simp] theorem Dev.onPair_garnet (f : Pair → Pair) : (d.onPair f).garnet = d.garnet := rfl

@[simp] theorem Dev.setLeg_ctl (l : Nat) (x : Leg) : (d.setLeg l x).ctl = d.ctl := rfl
@[simp] theorem Dev.setLeg_obs (l : Nat) (x : Leg) : (d.setLeg l x).obs = d.obs := rfl
@[simp] theorem Dev.setLeg_clk (l : Nat) (x : Leg) : (d.setLeg l x).clk = d.clk := rfl
@[simp] theorem Dev.setLeg_ptp (l : Nat) (x : Leg) : (d.setLeg l x).ptp = d.ptp := rfl
@[simp] theorem Dev.setLeg_xlat (l : Nat) (x : Leg) : (d.setLeg l x).xlat = d.xlat := rfl
@[simp] theorem Dev.setLeg_disp (l : Nat) (x : Leg) : (d.setLeg l x).disp = d.disp := rfl
@[simp] theorem Dev.setLeg_dma (l : Nat) (x : Leg) : (d.setLeg l x).dma = d.dma := rfl
@[simp] theorem Dev.setLeg_mem (l : Nat) (x : Leg) : (d.setLeg l x).mem = d.mem := rfl
@[simp] theorem Dev.setLeg_boot (l : Nat) (x : Leg) : (d.setLeg l x).boot = d.boot := rfl
@[simp] theorem Dev.setLeg_pow (l : Nat) (x : Leg) : (d.setLeg l x).pow = d.pow := rfl
@[simp] theorem Dev.setLeg_pair (l : Nat) (x : Leg) : (d.setLeg l x).pair = d.pair := rfl
@[simp] theorem Dev.setLeg_lanes (l : Nat) (x : Leg) : (d.setLeg l x).lanes = d.lanes := rfl
@[simp] theorem Dev.setLeg_egress (l : Nat) (x : Leg) : (d.setLeg l x).egress = d.egress := rfl
@[simp] theorem Dev.setLeg_flint (l : Nat) (x : Leg) : (d.setLeg l x).flint = d.flint := rfl
@[simp] theorem Dev.setLeg_geode (l : Nat) (x : Leg) : (d.setLeg l x).geode = d.geode := rfl
@[simp] theorem Dev.setLeg_mica (l : Nat) (x : Leg) : (d.setLeg l x).mica = d.mica := rfl
@[simp] theorem Dev.setLeg_audio (l : Nat) (x : Leg) : (d.setLeg l x).audio = d.audio := rfl
@[simp] theorem Dev.setLeg_render (l : Nat) (x : Leg) : (d.setLeg l x).render = d.render := rfl
@[simp] theorem Dev.setLeg_garnet (l : Nat) (x : Leg) : (d.setLeg l x).garnet = d.garnet := rfl

@[simp] theorem Dev.onLeg_ctl (l : Nat) (f : Leg → Leg) : (d.onLeg l f).ctl = d.ctl := rfl
@[simp] theorem Dev.onLeg_obs (l : Nat) (f : Leg → Leg) : (d.onLeg l f).obs = d.obs := rfl
@[simp] theorem Dev.onLeg_clk (l : Nat) (f : Leg → Leg) : (d.onLeg l f).clk = d.clk := rfl
@[simp] theorem Dev.onLeg_ptp (l : Nat) (f : Leg → Leg) : (d.onLeg l f).ptp = d.ptp := rfl
@[simp] theorem Dev.onLeg_xlat (l : Nat) (f : Leg → Leg) : (d.onLeg l f).xlat = d.xlat := rfl
@[simp] theorem Dev.onLeg_disp (l : Nat) (f : Leg → Leg) : (d.onLeg l f).disp = d.disp := rfl
@[simp] theorem Dev.onLeg_dma (l : Nat) (f : Leg → Leg) : (d.onLeg l f).dma = d.dma := rfl
@[simp] theorem Dev.onLeg_mem (l : Nat) (f : Leg → Leg) : (d.onLeg l f).mem = d.mem := rfl
@[simp] theorem Dev.onLeg_boot (l : Nat) (f : Leg → Leg) : (d.onLeg l f).boot = d.boot := rfl
@[simp] theorem Dev.onLeg_pow (l : Nat) (f : Leg → Leg) : (d.onLeg l f).pow = d.pow := rfl
@[simp] theorem Dev.onLeg_pair (l : Nat) (f : Leg → Leg) : (d.onLeg l f).pair = d.pair := rfl
@[simp] theorem Dev.onLeg_lanes (l : Nat) (f : Leg → Leg) : (d.onLeg l f).lanes = d.lanes := rfl
@[simp] theorem Dev.onLeg_egress (l : Nat) (f : Leg → Leg) : (d.onLeg l f).egress = d.egress := rfl
@[simp] theorem Dev.onLeg_flint (l : Nat) (f : Leg → Leg) : (d.onLeg l f).flint = d.flint := rfl
@[simp] theorem Dev.onLeg_geode (l : Nat) (f : Leg → Leg) : (d.onLeg l f).geode = d.geode := rfl
@[simp] theorem Dev.onLeg_mica (l : Nat) (f : Leg → Leg) : (d.onLeg l f).mica = d.mica := rfl
@[simp] theorem Dev.onLeg_audio (l : Nat) (f : Leg → Leg) : (d.onLeg l f).audio = d.audio := rfl
@[simp] theorem Dev.onLeg_render (l : Nat) (f : Leg → Leg) : (d.onLeg l f).render = d.render := rfl
@[simp] theorem Dev.onLeg_garnet (l : Nat) (f : Leg → Leg) : (d.onLeg l f).garnet = d.garnet := rfl

@[simp] theorem Dev.setStream_ctl (l i : Nat) (x : Option Strm) : (d.setStream l i x).ctl = d.ctl := rfl
@[simp] theorem Dev.setStream_obs (l i : Nat) (x : Option Strm) : (d.setStream l i x).obs = d.obs := rfl
@[simp] theorem Dev.setStream_clk (l i : Nat) (x : Option Strm) : (d.setStream l i x).clk = d.clk := rfl
@[simp] theorem Dev.setStream_ptp (l i : Nat) (x : Option Strm) : (d.setStream l i x).ptp = d.ptp := rfl
@[simp] theorem Dev.setStream_xlat (l i : Nat) (x : Option Strm) : (d.setStream l i x).xlat = d.xlat := rfl
@[simp] theorem Dev.setStream_disp (l i : Nat) (x : Option Strm) : (d.setStream l i x).disp = d.disp := rfl
@[simp] theorem Dev.setStream_dma (l i : Nat) (x : Option Strm) : (d.setStream l i x).dma = d.dma := rfl
@[simp] theorem Dev.setStream_mem (l i : Nat) (x : Option Strm) : (d.setStream l i x).mem = d.mem := rfl
@[simp] theorem Dev.setStream_boot (l i : Nat) (x : Option Strm) : (d.setStream l i x).boot = d.boot := rfl
@[simp] theorem Dev.setStream_pow (l i : Nat) (x : Option Strm) : (d.setStream l i x).pow = d.pow := rfl
@[simp] theorem Dev.setStream_pair (l i : Nat) (x : Option Strm) : (d.setStream l i x).pair = d.pair := rfl
@[simp] theorem Dev.setStream_lanes (l i : Nat) (x : Option Strm) : (d.setStream l i x).lanes = d.lanes := rfl
@[simp] theorem Dev.setStream_egress (l i : Nat) (x : Option Strm) : (d.setStream l i x).egress = d.egress := rfl
@[simp] theorem Dev.setStream_flint (l i : Nat) (x : Option Strm) : (d.setStream l i x).flint = d.flint := rfl
@[simp] theorem Dev.setStream_geode (l i : Nat) (x : Option Strm) : (d.setStream l i x).geode = d.geode := rfl
@[simp] theorem Dev.setStream_mica (l i : Nat) (x : Option Strm) : (d.setStream l i x).mica = d.mica := rfl
@[simp] theorem Dev.setStream_audio (l i : Nat) (x : Option Strm) : (d.setStream l i x).audio = d.audio := rfl
@[simp] theorem Dev.setStream_render (l i : Nat) (x : Option Strm) : (d.setStream l i x).render = d.render := rfl
@[simp] theorem Dev.setStream_garnet (l i : Nat) (x : Option Strm) : (d.setStream l i x).garnet = d.garnet := rfl

@[simp] theorem Dev.setInst_ctl (n : Nat) (x : Option Inst) : (d.setInst n x).ctl = d.ctl := rfl
@[simp] theorem Dev.setInst_obs (n : Nat) (x : Option Inst) : (d.setInst n x).obs = d.obs := rfl
@[simp] theorem Dev.setInst_clk (n : Nat) (x : Option Inst) : (d.setInst n x).clk = d.clk := rfl
@[simp] theorem Dev.setInst_ptp (n : Nat) (x : Option Inst) : (d.setInst n x).ptp = d.ptp := rfl
@[simp] theorem Dev.setInst_xlat (n : Nat) (x : Option Inst) : (d.setInst n x).xlat = d.xlat := rfl
@[simp] theorem Dev.setInst_disp (n : Nat) (x : Option Inst) : (d.setInst n x).disp = d.disp := rfl
@[simp] theorem Dev.setInst_dma (n : Nat) (x : Option Inst) : (d.setInst n x).dma = d.dma := rfl
@[simp] theorem Dev.setInst_mem (n : Nat) (x : Option Inst) : (d.setInst n x).mem = d.mem := rfl
@[simp] theorem Dev.setInst_boot (n : Nat) (x : Option Inst) : (d.setInst n x).boot = d.boot := rfl
@[simp] theorem Dev.setInst_pow (n : Nat) (x : Option Inst) : (d.setInst n x).pow = d.pow := rfl
@[simp] theorem Dev.setInst_pair (n : Nat) (x : Option Inst) : (d.setInst n x).pair = d.pair := rfl
@[simp] theorem Dev.setInst_lanes (n : Nat) (x : Option Inst) : (d.setInst n x).lanes = d.lanes := rfl
@[simp] theorem Dev.setInst_egress (n : Nat) (x : Option Inst) : (d.setInst n x).egress = d.egress := rfl
@[simp] theorem Dev.setInst_flint (n : Nat) (x : Option Inst) : (d.setInst n x).flint = d.flint := rfl
@[simp] theorem Dev.setInst_geode (n : Nat) (x : Option Inst) : (d.setInst n x).geode = d.geode := rfl
@[simp] theorem Dev.setInst_mica (n : Nat) (x : Option Inst) : (d.setInst n x).mica = d.mica := rfl
@[simp] theorem Dev.setInst_audio (n : Nat) (x : Option Inst) : (d.setInst n x).audio = d.audio := rfl
@[simp] theorem Dev.setInst_render (n : Nat) (x : Option Inst) : (d.setInst n x).render = d.render := rfl
@[simp] theorem Dev.setInst_garnet (n : Nat) (x : Option Inst) : (d.setInst n x).garnet = d.garnet := rfl

@[simp] theorem Dev.setLane_ctl (l : Nat) (x : Lane) : (d.setLane l x).ctl = d.ctl := rfl
@[simp] theorem Dev.setLane_obs (l : Nat) (x : Lane) : (d.setLane l x).obs = d.obs := rfl
@[simp] theorem Dev.setLane_clk (l : Nat) (x : Lane) : (d.setLane l x).clk = d.clk := rfl
@[simp] theorem Dev.setLane_ptp (l : Nat) (x : Lane) : (d.setLane l x).ptp = d.ptp := rfl
@[simp] theorem Dev.setLane_xlat (l : Nat) (x : Lane) : (d.setLane l x).xlat = d.xlat := rfl
@[simp] theorem Dev.setLane_disp (l : Nat) (x : Lane) : (d.setLane l x).disp = d.disp := rfl
@[simp] theorem Dev.setLane_dma (l : Nat) (x : Lane) : (d.setLane l x).dma = d.dma := rfl
@[simp] theorem Dev.setLane_mem (l : Nat) (x : Lane) : (d.setLane l x).mem = d.mem := rfl
@[simp] theorem Dev.setLane_boot (l : Nat) (x : Lane) : (d.setLane l x).boot = d.boot := rfl
@[simp] theorem Dev.setLane_pow (l : Nat) (x : Lane) : (d.setLane l x).pow = d.pow := rfl
@[simp] theorem Dev.setLane_pair (l : Nat) (x : Lane) : (d.setLane l x).pair = d.pair := rfl
@[simp] theorem Dev.setLane_legs (l : Nat) (x : Lane) : (d.setLane l x).legs = d.legs := rfl
@[simp] theorem Dev.setLane_egress (l : Nat) (x : Lane) : (d.setLane l x).egress = d.egress := rfl
@[simp] theorem Dev.setLane_flint (l : Nat) (x : Lane) : (d.setLane l x).flint = d.flint := rfl
@[simp] theorem Dev.setLane_geode (l : Nat) (x : Lane) : (d.setLane l x).geode = d.geode := rfl
@[simp] theorem Dev.setLane_mica (l : Nat) (x : Lane) : (d.setLane l x).mica = d.mica := rfl
@[simp] theorem Dev.setLane_audio (l : Nat) (x : Lane) : (d.setLane l x).audio = d.audio := rfl
@[simp] theorem Dev.setLane_render (l : Nat) (x : Lane) : (d.setLane l x).render = d.render := rfl
@[simp] theorem Dev.setLane_garnet (l : Nat) (x : Lane) : (d.setLane l x).garnet = d.garnet := rfl

@[simp] theorem Dev.onLane_ctl (l : Nat) (f : Lane → Lane) : (d.onLane l f).ctl = d.ctl := rfl
@[simp] theorem Dev.onLane_obs (l : Nat) (f : Lane → Lane) : (d.onLane l f).obs = d.obs := rfl
@[simp] theorem Dev.onLane_clk (l : Nat) (f : Lane → Lane) : (d.onLane l f).clk = d.clk := rfl
@[simp] theorem Dev.onLane_ptp (l : Nat) (f : Lane → Lane) : (d.onLane l f).ptp = d.ptp := rfl
@[simp] theorem Dev.onLane_xlat (l : Nat) (f : Lane → Lane) : (d.onLane l f).xlat = d.xlat := rfl
@[simp] theorem Dev.onLane_disp (l : Nat) (f : Lane → Lane) : (d.onLane l f).disp = d.disp := rfl
@[simp] theorem Dev.onLane_dma (l : Nat) (f : Lane → Lane) : (d.onLane l f).dma = d.dma := rfl
@[simp] theorem Dev.onLane_mem (l : Nat) (f : Lane → Lane) : (d.onLane l f).mem = d.mem := rfl
@[simp] theorem Dev.onLane_boot (l : Nat) (f : Lane → Lane) : (d.onLane l f).boot = d.boot := rfl
@[simp] theorem Dev.onLane_pow (l : Nat) (f : Lane → Lane) : (d.onLane l f).pow = d.pow := rfl
@[simp] theorem Dev.onLane_pair (l : Nat) (f : Lane → Lane) : (d.onLane l f).pair = d.pair := rfl
@[simp] theorem Dev.onLane_legs (l : Nat) (f : Lane → Lane) : (d.onLane l f).legs = d.legs := rfl
@[simp] theorem Dev.onLane_egress (l : Nat) (f : Lane → Lane) : (d.onLane l f).egress = d.egress := rfl
@[simp] theorem Dev.onLane_flint (l : Nat) (f : Lane → Lane) : (d.onLane l f).flint = d.flint := rfl
@[simp] theorem Dev.onLane_geode (l : Nat) (f : Lane → Lane) : (d.onLane l f).geode = d.geode := rfl
@[simp] theorem Dev.onLane_mica (l : Nat) (f : Lane → Lane) : (d.onLane l f).mica = d.mica := rfl
@[simp] theorem Dev.onLane_audio (l : Nat) (f : Lane → Lane) : (d.onLane l f).audio = d.audio := rfl
@[simp] theorem Dev.onLane_render (l : Nat) (f : Lane → Lane) : (d.onLane l f).render = d.render := rfl
@[simp] theorem Dev.onLane_garnet (l : Nat) (f : Lane → Lane) : (d.onLane l f).garnet = d.garnet := rfl

@[simp] theorem Dev.setQueue_ctl (k : Nat) (x : Queue) : (d.setQueue k x).ctl = d.ctl := rfl
@[simp] theorem Dev.setQueue_obs (k : Nat) (x : Queue) : (d.setQueue k x).obs = d.obs := rfl
@[simp] theorem Dev.setQueue_clk (k : Nat) (x : Queue) : (d.setQueue k x).clk = d.clk := rfl
@[simp] theorem Dev.setQueue_ptp (k : Nat) (x : Queue) : (d.setQueue k x).ptp = d.ptp := rfl
@[simp] theorem Dev.setQueue_xlat (k : Nat) (x : Queue) : (d.setQueue k x).xlat = d.xlat := rfl
@[simp] theorem Dev.setQueue_disp (k : Nat) (x : Queue) : (d.setQueue k x).disp = d.disp := rfl
@[simp] theorem Dev.setQueue_dma (k : Nat) (x : Queue) : (d.setQueue k x).dma = d.dma := rfl
@[simp] theorem Dev.setQueue_mem (k : Nat) (x : Queue) : (d.setQueue k x).mem = d.mem := rfl
@[simp] theorem Dev.setQueue_boot (k : Nat) (x : Queue) : (d.setQueue k x).boot = d.boot := rfl
@[simp] theorem Dev.setQueue_pow (k : Nat) (x : Queue) : (d.setQueue k x).pow = d.pow := rfl
@[simp] theorem Dev.setQueue_pair (k : Nat) (x : Queue) : (d.setQueue k x).pair = d.pair := rfl
@[simp] theorem Dev.setQueue_legs (k : Nat) (x : Queue) : (d.setQueue k x).legs = d.legs := rfl
@[simp] theorem Dev.setQueue_lanes (k : Nat) (x : Queue) : (d.setQueue k x).lanes = d.lanes := rfl
@[simp] theorem Dev.setQueue_flint (k : Nat) (x : Queue) : (d.setQueue k x).flint = d.flint := rfl
@[simp] theorem Dev.setQueue_geode (k : Nat) (x : Queue) : (d.setQueue k x).geode = d.geode := rfl
@[simp] theorem Dev.setQueue_mica (k : Nat) (x : Queue) : (d.setQueue k x).mica = d.mica := rfl
@[simp] theorem Dev.setQueue_audio (k : Nat) (x : Queue) : (d.setQueue k x).audio = d.audio := rfl
@[simp] theorem Dev.setQueue_render (k : Nat) (x : Queue) : (d.setQueue k x).render = d.render := rfl
@[simp] theorem Dev.setQueue_garnet (k : Nat) (x : Queue) : (d.setQueue k x).garnet = d.garnet := rfl

@[simp] theorem Dev.onQueue_ctl (k : Nat) (f : Queue → Queue) : (d.onQueue k f).ctl = d.ctl := rfl
@[simp] theorem Dev.onQueue_obs (k : Nat) (f : Queue → Queue) : (d.onQueue k f).obs = d.obs := rfl
@[simp] theorem Dev.onQueue_clk (k : Nat) (f : Queue → Queue) : (d.onQueue k f).clk = d.clk := rfl
@[simp] theorem Dev.onQueue_ptp (k : Nat) (f : Queue → Queue) : (d.onQueue k f).ptp = d.ptp := rfl
@[simp] theorem Dev.onQueue_xlat (k : Nat) (f : Queue → Queue) : (d.onQueue k f).xlat = d.xlat := rfl
@[simp] theorem Dev.onQueue_disp (k : Nat) (f : Queue → Queue) : (d.onQueue k f).disp = d.disp := rfl
@[simp] theorem Dev.onQueue_dma (k : Nat) (f : Queue → Queue) : (d.onQueue k f).dma = d.dma := rfl
@[simp] theorem Dev.onQueue_mem (k : Nat) (f : Queue → Queue) : (d.onQueue k f).mem = d.mem := rfl
@[simp] theorem Dev.onQueue_boot (k : Nat) (f : Queue → Queue) : (d.onQueue k f).boot = d.boot := rfl
@[simp] theorem Dev.onQueue_pow (k : Nat) (f : Queue → Queue) : (d.onQueue k f).pow = d.pow := rfl
@[simp] theorem Dev.onQueue_pair (k : Nat) (f : Queue → Queue) : (d.onQueue k f).pair = d.pair := rfl
@[simp] theorem Dev.onQueue_legs (k : Nat) (f : Queue → Queue) : (d.onQueue k f).legs = d.legs := rfl
@[simp] theorem Dev.onQueue_lanes (k : Nat) (f : Queue → Queue) : (d.onQueue k f).lanes = d.lanes := rfl
@[simp] theorem Dev.onQueue_flint (k : Nat) (f : Queue → Queue) : (d.onQueue k f).flint = d.flint := rfl
@[simp] theorem Dev.onQueue_geode (k : Nat) (f : Queue → Queue) : (d.onQueue k f).geode = d.geode := rfl
@[simp] theorem Dev.onQueue_mica (k : Nat) (f : Queue → Queue) : (d.onQueue k f).mica = d.mica := rfl
@[simp] theorem Dev.onQueue_audio (k : Nat) (f : Queue → Queue) : (d.onQueue k f).audio = d.audio := rfl
@[simp] theorem Dev.onQueue_render (k : Nat) (f : Queue → Queue) : (d.onQueue k f).render = d.render := rfl
@[simp] theorem Dev.onQueue_garnet (k : Nat) (f : Queue → Queue) : (d.onQueue k f).garnet = d.garnet := rfl

@[simp] theorem Dev.setSlot_ctl (k : Nat) (x : KeySlot) : (d.setSlot k x).ctl = d.ctl := rfl
@[simp] theorem Dev.setSlot_obs (k : Nat) (x : KeySlot) : (d.setSlot k x).obs = d.obs := rfl
@[simp] theorem Dev.setSlot_clk (k : Nat) (x : KeySlot) : (d.setSlot k x).clk = d.clk := rfl
@[simp] theorem Dev.setSlot_ptp (k : Nat) (x : KeySlot) : (d.setSlot k x).ptp = d.ptp := rfl
@[simp] theorem Dev.setSlot_xlat (k : Nat) (x : KeySlot) : (d.setSlot k x).xlat = d.xlat := rfl
@[simp] theorem Dev.setSlot_disp (k : Nat) (x : KeySlot) : (d.setSlot k x).disp = d.disp := rfl
@[simp] theorem Dev.setSlot_dma (k : Nat) (x : KeySlot) : (d.setSlot k x).dma = d.dma := rfl
@[simp] theorem Dev.setSlot_mem (k : Nat) (x : KeySlot) : (d.setSlot k x).mem = d.mem := rfl
@[simp] theorem Dev.setSlot_boot (k : Nat) (x : KeySlot) : (d.setSlot k x).boot = d.boot := rfl
@[simp] theorem Dev.setSlot_pow (k : Nat) (x : KeySlot) : (d.setSlot k x).pow = d.pow := rfl
@[simp] theorem Dev.setSlot_pair (k : Nat) (x : KeySlot) : (d.setSlot k x).pair = d.pair := rfl
@[simp] theorem Dev.setSlot_legs (k : Nat) (x : KeySlot) : (d.setSlot k x).legs = d.legs := rfl
@[simp] theorem Dev.setSlot_lanes (k : Nat) (x : KeySlot) : (d.setSlot k x).lanes = d.lanes := rfl
@[simp] theorem Dev.setSlot_egress (k : Nat) (x : KeySlot) : (d.setSlot k x).egress = d.egress := rfl
@[simp] theorem Dev.setSlot_geode (k : Nat) (x : KeySlot) : (d.setSlot k x).geode = d.geode := rfl
@[simp] theorem Dev.setSlot_mica (k : Nat) (x : KeySlot) : (d.setSlot k x).mica = d.mica := rfl
@[simp] theorem Dev.setSlot_audio (k : Nat) (x : KeySlot) : (d.setSlot k x).audio = d.audio := rfl
@[simp] theorem Dev.setSlot_render (k : Nat) (x : KeySlot) : (d.setSlot k x).render = d.render := rfl
@[simp] theorem Dev.setSlot_garnet (k : Nat) (x : KeySlot) : (d.setSlot k x).garnet = d.garnet := rfl

@[simp] theorem Dev.setCtxs_ctl (k : Nat) (x : List SrtpCtx) : (d.setCtxs k x).ctl = d.ctl := rfl
@[simp] theorem Dev.setCtxs_obs (k : Nat) (x : List SrtpCtx) : (d.setCtxs k x).obs = d.obs := rfl
@[simp] theorem Dev.setCtxs_clk (k : Nat) (x : List SrtpCtx) : (d.setCtxs k x).clk = d.clk := rfl
@[simp] theorem Dev.setCtxs_ptp (k : Nat) (x : List SrtpCtx) : (d.setCtxs k x).ptp = d.ptp := rfl
@[simp] theorem Dev.setCtxs_xlat (k : Nat) (x : List SrtpCtx) : (d.setCtxs k x).xlat = d.xlat := rfl
@[simp] theorem Dev.setCtxs_disp (k : Nat) (x : List SrtpCtx) : (d.setCtxs k x).disp = d.disp := rfl
@[simp] theorem Dev.setCtxs_dma (k : Nat) (x : List SrtpCtx) : (d.setCtxs k x).dma = d.dma := rfl
@[simp] theorem Dev.setCtxs_mem (k : Nat) (x : List SrtpCtx) : (d.setCtxs k x).mem = d.mem := rfl
@[simp] theorem Dev.setCtxs_boot (k : Nat) (x : List SrtpCtx) : (d.setCtxs k x).boot = d.boot := rfl
@[simp] theorem Dev.setCtxs_pow (k : Nat) (x : List SrtpCtx) : (d.setCtxs k x).pow = d.pow := rfl
@[simp] theorem Dev.setCtxs_pair (k : Nat) (x : List SrtpCtx) : (d.setCtxs k x).pair = d.pair := rfl
@[simp] theorem Dev.setCtxs_legs (k : Nat) (x : List SrtpCtx) : (d.setCtxs k x).legs = d.legs := rfl
@[simp] theorem Dev.setCtxs_lanes (k : Nat) (x : List SrtpCtx) : (d.setCtxs k x).lanes = d.lanes := rfl
@[simp] theorem Dev.setCtxs_egress (k : Nat) (x : List SrtpCtx) : (d.setCtxs k x).egress = d.egress := rfl
@[simp] theorem Dev.setCtxs_geode (k : Nat) (x : List SrtpCtx) : (d.setCtxs k x).geode = d.geode := rfl
@[simp] theorem Dev.setCtxs_mica (k : Nat) (x : List SrtpCtx) : (d.setCtxs k x).mica = d.mica := rfl
@[simp] theorem Dev.setCtxs_audio (k : Nat) (x : List SrtpCtx) : (d.setCtxs k x).audio = d.audio := rfl
@[simp] theorem Dev.setCtxs_render (k : Nat) (x : List SrtpCtx) : (d.setCtxs k x).render = d.render := rfl
@[simp] theorem Dev.setCtxs_garnet (k : Nat) (x : List SrtpCtx) : (d.setCtxs k x).garnet = d.garnet := rfl

@[simp] theorem Dev.setPipe_ctl (p : Nat) (t : PState) : (d.setPipe p t).ctl = d.ctl := rfl
@[simp] theorem Dev.setPipe_obs (p : Nat) (t : PState) : (d.setPipe p t).obs = d.obs := rfl
@[simp] theorem Dev.setPipe_clk (p : Nat) (t : PState) : (d.setPipe p t).clk = d.clk := rfl
@[simp] theorem Dev.setPipe_ptp (p : Nat) (t : PState) : (d.setPipe p t).ptp = d.ptp := rfl
@[simp] theorem Dev.setPipe_xlat (p : Nat) (t : PState) : (d.setPipe p t).xlat = d.xlat := rfl
@[simp] theorem Dev.setPipe_disp (p : Nat) (t : PState) : (d.setPipe p t).disp = d.disp := rfl
@[simp] theorem Dev.setPipe_dma (p : Nat) (t : PState) : (d.setPipe p t).dma = d.dma := rfl
@[simp] theorem Dev.setPipe_mem (p : Nat) (t : PState) : (d.setPipe p t).mem = d.mem := rfl
@[simp] theorem Dev.setPipe_boot (p : Nat) (t : PState) : (d.setPipe p t).boot = d.boot := rfl
@[simp] theorem Dev.setPipe_pow (p : Nat) (t : PState) : (d.setPipe p t).pow = d.pow := rfl
@[simp] theorem Dev.setPipe_pair (p : Nat) (t : PState) : (d.setPipe p t).pair = d.pair := rfl
@[simp] theorem Dev.setPipe_legs (p : Nat) (t : PState) : (d.setPipe p t).legs = d.legs := rfl
@[simp] theorem Dev.setPipe_lanes (p : Nat) (t : PState) : (d.setPipe p t).lanes = d.lanes := rfl
@[simp] theorem Dev.setPipe_egress (p : Nat) (t : PState) : (d.setPipe p t).egress = d.egress := rfl
@[simp] theorem Dev.setPipe_geode (p : Nat) (t : PState) : (d.setPipe p t).geode = d.geode := rfl
@[simp] theorem Dev.setPipe_mica (p : Nat) (t : PState) : (d.setPipe p t).mica = d.mica := rfl
@[simp] theorem Dev.setPipe_audio (p : Nat) (t : PState) : (d.setPipe p t).audio = d.audio := rfl
@[simp] theorem Dev.setPipe_render (p : Nat) (t : PState) : (d.setPipe p t).render = d.render := rfl
@[simp] theorem Dev.setPipe_garnet (p : Nat) (t : PState) : (d.setPipe p t).garnet = d.garnet := rfl

@[simp] theorem Dev.setGeUnit_ctl (p : Nat) (x : GeUnit) : (d.setGeUnit p x).ctl = d.ctl := rfl
@[simp] theorem Dev.setGeUnit_obs (p : Nat) (x : GeUnit) : (d.setGeUnit p x).obs = d.obs := rfl
@[simp] theorem Dev.setGeUnit_clk (p : Nat) (x : GeUnit) : (d.setGeUnit p x).clk = d.clk := rfl
@[simp] theorem Dev.setGeUnit_ptp (p : Nat) (x : GeUnit) : (d.setGeUnit p x).ptp = d.ptp := rfl
@[simp] theorem Dev.setGeUnit_xlat (p : Nat) (x : GeUnit) : (d.setGeUnit p x).xlat = d.xlat := rfl
@[simp] theorem Dev.setGeUnit_disp (p : Nat) (x : GeUnit) : (d.setGeUnit p x).disp = d.disp := rfl
@[simp] theorem Dev.setGeUnit_dma (p : Nat) (x : GeUnit) : (d.setGeUnit p x).dma = d.dma := rfl
@[simp] theorem Dev.setGeUnit_mem (p : Nat) (x : GeUnit) : (d.setGeUnit p x).mem = d.mem := rfl
@[simp] theorem Dev.setGeUnit_boot (p : Nat) (x : GeUnit) : (d.setGeUnit p x).boot = d.boot := rfl
@[simp] theorem Dev.setGeUnit_pow (p : Nat) (x : GeUnit) : (d.setGeUnit p x).pow = d.pow := rfl
@[simp] theorem Dev.setGeUnit_pair (p : Nat) (x : GeUnit) : (d.setGeUnit p x).pair = d.pair := rfl
@[simp] theorem Dev.setGeUnit_legs (p : Nat) (x : GeUnit) : (d.setGeUnit p x).legs = d.legs := rfl
@[simp] theorem Dev.setGeUnit_lanes (p : Nat) (x : GeUnit) : (d.setGeUnit p x).lanes = d.lanes := rfl
@[simp] theorem Dev.setGeUnit_egress (p : Nat) (x : GeUnit) : (d.setGeUnit p x).egress = d.egress := rfl
@[simp] theorem Dev.setGeUnit_flint (p : Nat) (x : GeUnit) : (d.setGeUnit p x).flint = d.flint := rfl
@[simp] theorem Dev.setGeUnit_mica (p : Nat) (x : GeUnit) : (d.setGeUnit p x).mica = d.mica := rfl
@[simp] theorem Dev.setGeUnit_audio (p : Nat) (x : GeUnit) : (d.setGeUnit p x).audio = d.audio := rfl
@[simp] theorem Dev.setGeUnit_render (p : Nat) (x : GeUnit) : (d.setGeUnit p x).render = d.render := rfl
@[simp] theorem Dev.setGeUnit_garnet (p : Nat) (x : GeUnit) : (d.setGeUnit p x).garnet = d.garnet := rfl

@[simp] theorem Dev.setEncS_ctl (i : Nat) (x : EncStream) : (d.setEncS i x).ctl = d.ctl := rfl
@[simp] theorem Dev.setEncS_obs (i : Nat) (x : EncStream) : (d.setEncS i x).obs = d.obs := rfl
@[simp] theorem Dev.setEncS_clk (i : Nat) (x : EncStream) : (d.setEncS i x).clk = d.clk := rfl
@[simp] theorem Dev.setEncS_ptp (i : Nat) (x : EncStream) : (d.setEncS i x).ptp = d.ptp := rfl
@[simp] theorem Dev.setEncS_xlat (i : Nat) (x : EncStream) : (d.setEncS i x).xlat = d.xlat := rfl
@[simp] theorem Dev.setEncS_disp (i : Nat) (x : EncStream) : (d.setEncS i x).disp = d.disp := rfl
@[simp] theorem Dev.setEncS_dma (i : Nat) (x : EncStream) : (d.setEncS i x).dma = d.dma := rfl
@[simp] theorem Dev.setEncS_mem (i : Nat) (x : EncStream) : (d.setEncS i x).mem = d.mem := rfl
@[simp] theorem Dev.setEncS_boot (i : Nat) (x : EncStream) : (d.setEncS i x).boot = d.boot := rfl
@[simp] theorem Dev.setEncS_pow (i : Nat) (x : EncStream) : (d.setEncS i x).pow = d.pow := rfl
@[simp] theorem Dev.setEncS_pair (i : Nat) (x : EncStream) : (d.setEncS i x).pair = d.pair := rfl
@[simp] theorem Dev.setEncS_legs (i : Nat) (x : EncStream) : (d.setEncS i x).legs = d.legs := rfl
@[simp] theorem Dev.setEncS_lanes (i : Nat) (x : EncStream) : (d.setEncS i x).lanes = d.lanes := rfl
@[simp] theorem Dev.setEncS_egress (i : Nat) (x : EncStream) : (d.setEncS i x).egress = d.egress := rfl
@[simp] theorem Dev.setEncS_flint (i : Nat) (x : EncStream) : (d.setEncS i x).flint = d.flint := rfl
@[simp] theorem Dev.setEncS_mica (i : Nat) (x : EncStream) : (d.setEncS i x).mica = d.mica := rfl
@[simp] theorem Dev.setEncS_audio (i : Nat) (x : EncStream) : (d.setEncS i x).audio = d.audio := rfl
@[simp] theorem Dev.setEncS_render (i : Nat) (x : EncStream) : (d.setEncS i x).render = d.render := rfl
@[simp] theorem Dev.setEncS_garnet (i : Nat) (x : EncStream) : (d.setEncS i x).garnet = d.garnet := rfl

@[simp] theorem Dev.onEncS_ctl (i : Nat) (f : EncStream → EncStream) : (d.onEncS i f).ctl = d.ctl := rfl
@[simp] theorem Dev.onEncS_obs (i : Nat) (f : EncStream → EncStream) : (d.onEncS i f).obs = d.obs := rfl
@[simp] theorem Dev.onEncS_clk (i : Nat) (f : EncStream → EncStream) : (d.onEncS i f).clk = d.clk := rfl
@[simp] theorem Dev.onEncS_ptp (i : Nat) (f : EncStream → EncStream) : (d.onEncS i f).ptp = d.ptp := rfl
@[simp] theorem Dev.onEncS_xlat (i : Nat) (f : EncStream → EncStream) : (d.onEncS i f).xlat = d.xlat := rfl
@[simp] theorem Dev.onEncS_disp (i : Nat) (f : EncStream → EncStream) : (d.onEncS i f).disp = d.disp := rfl
@[simp] theorem Dev.onEncS_dma (i : Nat) (f : EncStream → EncStream) : (d.onEncS i f).dma = d.dma := rfl
@[simp] theorem Dev.onEncS_mem (i : Nat) (f : EncStream → EncStream) : (d.onEncS i f).mem = d.mem := rfl
@[simp] theorem Dev.onEncS_boot (i : Nat) (f : EncStream → EncStream) : (d.onEncS i f).boot = d.boot := rfl
@[simp] theorem Dev.onEncS_pow (i : Nat) (f : EncStream → EncStream) : (d.onEncS i f).pow = d.pow := rfl
@[simp] theorem Dev.onEncS_pair (i : Nat) (f : EncStream → EncStream) : (d.onEncS i f).pair = d.pair := rfl
@[simp] theorem Dev.onEncS_legs (i : Nat) (f : EncStream → EncStream) : (d.onEncS i f).legs = d.legs := rfl
@[simp] theorem Dev.onEncS_lanes (i : Nat) (f : EncStream → EncStream) : (d.onEncS i f).lanes = d.lanes := rfl
@[simp] theorem Dev.onEncS_egress (i : Nat) (f : EncStream → EncStream) : (d.onEncS i f).egress = d.egress := rfl
@[simp] theorem Dev.onEncS_flint (i : Nat) (f : EncStream → EncStream) : (d.onEncS i f).flint = d.flint := rfl
@[simp] theorem Dev.onEncS_mica (i : Nat) (f : EncStream → EncStream) : (d.onEncS i f).mica = d.mica := rfl
@[simp] theorem Dev.onEncS_audio (i : Nat) (f : EncStream → EncStream) : (d.onEncS i f).audio = d.audio := rfl
@[simp] theorem Dev.onEncS_render (i : Nat) (f : EncStream → EncStream) : (d.onEncS i f).render = d.render := rfl
@[simp] theorem Dev.onEncS_garnet (i : Nat) (f : EncStream → EncStream) : (d.onEncS i f).garnet = d.garnet := rfl

@[simp] theorem Dev.setDecS_ctl (i : Nat) (x : DecStream) : (d.setDecS i x).ctl = d.ctl := rfl
@[simp] theorem Dev.setDecS_obs (i : Nat) (x : DecStream) : (d.setDecS i x).obs = d.obs := rfl
@[simp] theorem Dev.setDecS_clk (i : Nat) (x : DecStream) : (d.setDecS i x).clk = d.clk := rfl
@[simp] theorem Dev.setDecS_ptp (i : Nat) (x : DecStream) : (d.setDecS i x).ptp = d.ptp := rfl
@[simp] theorem Dev.setDecS_xlat (i : Nat) (x : DecStream) : (d.setDecS i x).xlat = d.xlat := rfl
@[simp] theorem Dev.setDecS_disp (i : Nat) (x : DecStream) : (d.setDecS i x).disp = d.disp := rfl
@[simp] theorem Dev.setDecS_dma (i : Nat) (x : DecStream) : (d.setDecS i x).dma = d.dma := rfl
@[simp] theorem Dev.setDecS_mem (i : Nat) (x : DecStream) : (d.setDecS i x).mem = d.mem := rfl
@[simp] theorem Dev.setDecS_boot (i : Nat) (x : DecStream) : (d.setDecS i x).boot = d.boot := rfl
@[simp] theorem Dev.setDecS_pow (i : Nat) (x : DecStream) : (d.setDecS i x).pow = d.pow := rfl
@[simp] theorem Dev.setDecS_pair (i : Nat) (x : DecStream) : (d.setDecS i x).pair = d.pair := rfl
@[simp] theorem Dev.setDecS_legs (i : Nat) (x : DecStream) : (d.setDecS i x).legs = d.legs := rfl
@[simp] theorem Dev.setDecS_lanes (i : Nat) (x : DecStream) : (d.setDecS i x).lanes = d.lanes := rfl
@[simp] theorem Dev.setDecS_egress (i : Nat) (x : DecStream) : (d.setDecS i x).egress = d.egress := rfl
@[simp] theorem Dev.setDecS_flint (i : Nat) (x : DecStream) : (d.setDecS i x).flint = d.flint := rfl
@[simp] theorem Dev.setDecS_mica (i : Nat) (x : DecStream) : (d.setDecS i x).mica = d.mica := rfl
@[simp] theorem Dev.setDecS_audio (i : Nat) (x : DecStream) : (d.setDecS i x).audio = d.audio := rfl
@[simp] theorem Dev.setDecS_render (i : Nat) (x : DecStream) : (d.setDecS i x).render = d.render := rfl
@[simp] theorem Dev.setDecS_garnet (i : Nat) (x : DecStream) : (d.setDecS i x).garnet = d.garnet := rfl

@[simp] theorem Dev.onDecS_ctl (i : Nat) (f : DecStream → DecStream) : (d.onDecS i f).ctl = d.ctl := rfl
@[simp] theorem Dev.onDecS_obs (i : Nat) (f : DecStream → DecStream) : (d.onDecS i f).obs = d.obs := rfl
@[simp] theorem Dev.onDecS_clk (i : Nat) (f : DecStream → DecStream) : (d.onDecS i f).clk = d.clk := rfl
@[simp] theorem Dev.onDecS_ptp (i : Nat) (f : DecStream → DecStream) : (d.onDecS i f).ptp = d.ptp := rfl
@[simp] theorem Dev.onDecS_xlat (i : Nat) (f : DecStream → DecStream) : (d.onDecS i f).xlat = d.xlat := rfl
@[simp] theorem Dev.onDecS_disp (i : Nat) (f : DecStream → DecStream) : (d.onDecS i f).disp = d.disp := rfl
@[simp] theorem Dev.onDecS_dma (i : Nat) (f : DecStream → DecStream) : (d.onDecS i f).dma = d.dma := rfl
@[simp] theorem Dev.onDecS_mem (i : Nat) (f : DecStream → DecStream) : (d.onDecS i f).mem = d.mem := rfl
@[simp] theorem Dev.onDecS_boot (i : Nat) (f : DecStream → DecStream) : (d.onDecS i f).boot = d.boot := rfl
@[simp] theorem Dev.onDecS_pow (i : Nat) (f : DecStream → DecStream) : (d.onDecS i f).pow = d.pow := rfl
@[simp] theorem Dev.onDecS_pair (i : Nat) (f : DecStream → DecStream) : (d.onDecS i f).pair = d.pair := rfl
@[simp] theorem Dev.onDecS_legs (i : Nat) (f : DecStream → DecStream) : (d.onDecS i f).legs = d.legs := rfl
@[simp] theorem Dev.onDecS_lanes (i : Nat) (f : DecStream → DecStream) : (d.onDecS i f).lanes = d.lanes := rfl
@[simp] theorem Dev.onDecS_egress (i : Nat) (f : DecStream → DecStream) : (d.onDecS i f).egress = d.egress := rfl
@[simp] theorem Dev.onDecS_flint (i : Nat) (f : DecStream → DecStream) : (d.onDecS i f).flint = d.flint := rfl
@[simp] theorem Dev.onDecS_mica (i : Nat) (f : DecStream → DecStream) : (d.onDecS i f).mica = d.mica := rfl
@[simp] theorem Dev.onDecS_audio (i : Nat) (f : DecStream → DecStream) : (d.onDecS i f).audio = d.audio := rfl
@[simp] theorem Dev.onDecS_render (i : Nat) (f : DecStream → DecStream) : (d.onDecS i f).render = d.render := rfl
@[simp] theorem Dev.onDecS_garnet (i : Nat) (f : DecStream → DecStream) : (d.onDecS i f).garnet = d.garnet := rfl

@[simp] theorem Dev.setGeRun_ctl (l : Nat) (x : Option GeRun) : (d.setGeRun l x).ctl = d.ctl := rfl
@[simp] theorem Dev.setGeRun_obs (l : Nat) (x : Option GeRun) : (d.setGeRun l x).obs = d.obs := rfl
@[simp] theorem Dev.setGeRun_clk (l : Nat) (x : Option GeRun) : (d.setGeRun l x).clk = d.clk := rfl
@[simp] theorem Dev.setGeRun_ptp (l : Nat) (x : Option GeRun) : (d.setGeRun l x).ptp = d.ptp := rfl
@[simp] theorem Dev.setGeRun_xlat (l : Nat) (x : Option GeRun) : (d.setGeRun l x).xlat = d.xlat := rfl
@[simp] theorem Dev.setGeRun_disp (l : Nat) (x : Option GeRun) : (d.setGeRun l x).disp = d.disp := rfl
@[simp] theorem Dev.setGeRun_dma (l : Nat) (x : Option GeRun) : (d.setGeRun l x).dma = d.dma := rfl
@[simp] theorem Dev.setGeRun_mem (l : Nat) (x : Option GeRun) : (d.setGeRun l x).mem = d.mem := rfl
@[simp] theorem Dev.setGeRun_boot (l : Nat) (x : Option GeRun) : (d.setGeRun l x).boot = d.boot := rfl
@[simp] theorem Dev.setGeRun_pow (l : Nat) (x : Option GeRun) : (d.setGeRun l x).pow = d.pow := rfl
@[simp] theorem Dev.setGeRun_pair (l : Nat) (x : Option GeRun) : (d.setGeRun l x).pair = d.pair := rfl
@[simp] theorem Dev.setGeRun_legs (l : Nat) (x : Option GeRun) : (d.setGeRun l x).legs = d.legs := rfl
@[simp] theorem Dev.setGeRun_lanes (l : Nat) (x : Option GeRun) : (d.setGeRun l x).lanes = d.lanes := rfl
@[simp] theorem Dev.setGeRun_egress (l : Nat) (x : Option GeRun) : (d.setGeRun l x).egress = d.egress := rfl
@[simp] theorem Dev.setGeRun_flint (l : Nat) (x : Option GeRun) : (d.setGeRun l x).flint = d.flint := rfl
@[simp] theorem Dev.setGeRun_mica (l : Nat) (x : Option GeRun) : (d.setGeRun l x).mica = d.mica := rfl
@[simp] theorem Dev.setGeRun_audio (l : Nat) (x : Option GeRun) : (d.setGeRun l x).audio = d.audio := rfl
@[simp] theorem Dev.setGeRun_render (l : Nat) (x : Option GeRun) : (d.setGeRun l x).render = d.render := rfl
@[simp] theorem Dev.setGeRun_garnet (l : Nat) (x : Option GeRun) : (d.setGeRun l x).garnet = d.garnet := rfl

@[simp] theorem Dev.setLayout_ctl (l : Nat) (x : Layout) : (d.setLayout l x).ctl = d.ctl := rfl
@[simp] theorem Dev.setLayout_obs (l : Nat) (x : Layout) : (d.setLayout l x).obs = d.obs := rfl
@[simp] theorem Dev.setLayout_clk (l : Nat) (x : Layout) : (d.setLayout l x).clk = d.clk := rfl
@[simp] theorem Dev.setLayout_ptp (l : Nat) (x : Layout) : (d.setLayout l x).ptp = d.ptp := rfl
@[simp] theorem Dev.setLayout_xlat (l : Nat) (x : Layout) : (d.setLayout l x).xlat = d.xlat := rfl
@[simp] theorem Dev.setLayout_disp (l : Nat) (x : Layout) : (d.setLayout l x).disp = d.disp := rfl
@[simp] theorem Dev.setLayout_dma (l : Nat) (x : Layout) : (d.setLayout l x).dma = d.dma := rfl
@[simp] theorem Dev.setLayout_mem (l : Nat) (x : Layout) : (d.setLayout l x).mem = d.mem := rfl
@[simp] theorem Dev.setLayout_boot (l : Nat) (x : Layout) : (d.setLayout l x).boot = d.boot := rfl
@[simp] theorem Dev.setLayout_pow (l : Nat) (x : Layout) : (d.setLayout l x).pow = d.pow := rfl
@[simp] theorem Dev.setLayout_pair (l : Nat) (x : Layout) : (d.setLayout l x).pair = d.pair := rfl
@[simp] theorem Dev.setLayout_legs (l : Nat) (x : Layout) : (d.setLayout l x).legs = d.legs := rfl
@[simp] theorem Dev.setLayout_lanes (l : Nat) (x : Layout) : (d.setLayout l x).lanes = d.lanes := rfl
@[simp] theorem Dev.setLayout_egress (l : Nat) (x : Layout) : (d.setLayout l x).egress = d.egress := rfl
@[simp] theorem Dev.setLayout_flint (l : Nat) (x : Layout) : (d.setLayout l x).flint = d.flint := rfl
@[simp] theorem Dev.setLayout_geode (l : Nat) (x : Layout) : (d.setLayout l x).geode = d.geode := rfl
@[simp] theorem Dev.setLayout_audio (l : Nat) (x : Layout) : (d.setLayout l x).audio = d.audio := rfl
@[simp] theorem Dev.setLayout_render (l : Nat) (x : Layout) : (d.setLayout l x).render = d.render := rfl
@[simp] theorem Dev.setLayout_garnet (l : Nat) (x : Layout) : (d.setLayout l x).garnet = d.garnet := rfl

@[simp] theorem Dev.setConf_ctl (c : Nat) (x : Conf) : (d.setConf c x).ctl = d.ctl := rfl
@[simp] theorem Dev.setConf_obs (c : Nat) (x : Conf) : (d.setConf c x).obs = d.obs := rfl
@[simp] theorem Dev.setConf_clk (c : Nat) (x : Conf) : (d.setConf c x).clk = d.clk := rfl
@[simp] theorem Dev.setConf_ptp (c : Nat) (x : Conf) : (d.setConf c x).ptp = d.ptp := rfl
@[simp] theorem Dev.setConf_xlat (c : Nat) (x : Conf) : (d.setConf c x).xlat = d.xlat := rfl
@[simp] theorem Dev.setConf_disp (c : Nat) (x : Conf) : (d.setConf c x).disp = d.disp := rfl
@[simp] theorem Dev.setConf_dma (c : Nat) (x : Conf) : (d.setConf c x).dma = d.dma := rfl
@[simp] theorem Dev.setConf_mem (c : Nat) (x : Conf) : (d.setConf c x).mem = d.mem := rfl
@[simp] theorem Dev.setConf_boot (c : Nat) (x : Conf) : (d.setConf c x).boot = d.boot := rfl
@[simp] theorem Dev.setConf_pow (c : Nat) (x : Conf) : (d.setConf c x).pow = d.pow := rfl
@[simp] theorem Dev.setConf_pair (c : Nat) (x : Conf) : (d.setConf c x).pair = d.pair := rfl
@[simp] theorem Dev.setConf_legs (c : Nat) (x : Conf) : (d.setConf c x).legs = d.legs := rfl
@[simp] theorem Dev.setConf_lanes (c : Nat) (x : Conf) : (d.setConf c x).lanes = d.lanes := rfl
@[simp] theorem Dev.setConf_egress (c : Nat) (x : Conf) : (d.setConf c x).egress = d.egress := rfl
@[simp] theorem Dev.setConf_flint (c : Nat) (x : Conf) : (d.setConf c x).flint = d.flint := rfl
@[simp] theorem Dev.setConf_geode (c : Nat) (x : Conf) : (d.setConf c x).geode = d.geode := rfl
@[simp] theorem Dev.setConf_mica (c : Nat) (x : Conf) : (d.setConf c x).mica = d.mica := rfl
@[simp] theorem Dev.setConf_render (c : Nat) (x : Conf) : (d.setConf c x).render = d.render := rfl
@[simp] theorem Dev.setConf_garnet (c : Nat) (x : Conf) : (d.setConf c x).garnet = d.garnet := rfl

@[simp] theorem Dev.setVad_ctl (k : Nat) (x : Vad) : (d.setVad k x).ctl = d.ctl := rfl
@[simp] theorem Dev.setVad_obs (k : Nat) (x : Vad) : (d.setVad k x).obs = d.obs := rfl
@[simp] theorem Dev.setVad_clk (k : Nat) (x : Vad) : (d.setVad k x).clk = d.clk := rfl
@[simp] theorem Dev.setVad_ptp (k : Nat) (x : Vad) : (d.setVad k x).ptp = d.ptp := rfl
@[simp] theorem Dev.setVad_xlat (k : Nat) (x : Vad) : (d.setVad k x).xlat = d.xlat := rfl
@[simp] theorem Dev.setVad_disp (k : Nat) (x : Vad) : (d.setVad k x).disp = d.disp := rfl
@[simp] theorem Dev.setVad_dma (k : Nat) (x : Vad) : (d.setVad k x).dma = d.dma := rfl
@[simp] theorem Dev.setVad_mem (k : Nat) (x : Vad) : (d.setVad k x).mem = d.mem := rfl
@[simp] theorem Dev.setVad_boot (k : Nat) (x : Vad) : (d.setVad k x).boot = d.boot := rfl
@[simp] theorem Dev.setVad_pow (k : Nat) (x : Vad) : (d.setVad k x).pow = d.pow := rfl
@[simp] theorem Dev.setVad_pair (k : Nat) (x : Vad) : (d.setVad k x).pair = d.pair := rfl
@[simp] theorem Dev.setVad_legs (k : Nat) (x : Vad) : (d.setVad k x).legs = d.legs := rfl
@[simp] theorem Dev.setVad_lanes (k : Nat) (x : Vad) : (d.setVad k x).lanes = d.lanes := rfl
@[simp] theorem Dev.setVad_egress (k : Nat) (x : Vad) : (d.setVad k x).egress = d.egress := rfl
@[simp] theorem Dev.setVad_flint (k : Nat) (x : Vad) : (d.setVad k x).flint = d.flint := rfl
@[simp] theorem Dev.setVad_geode (k : Nat) (x : Vad) : (d.setVad k x).geode = d.geode := rfl
@[simp] theorem Dev.setVad_mica (k : Nat) (x : Vad) : (d.setVad k x).mica = d.mica := rfl
@[simp] theorem Dev.setVad_render (k : Nat) (x : Vad) : (d.setVad k x).render = d.render := rfl
@[simp] theorem Dev.setVad_garnet (k : Nat) (x : Vad) : (d.setVad k x).garnet = d.garnet := rfl

@[simp] theorem Dev.setRx_ctl (k : Nat) (x : NetRx) : (d.setRx k x).ctl = d.ctl := rfl
@[simp] theorem Dev.setRx_obs (k : Nat) (x : NetRx) : (d.setRx k x).obs = d.obs := rfl
@[simp] theorem Dev.setRx_clk (k : Nat) (x : NetRx) : (d.setRx k x).clk = d.clk := rfl
@[simp] theorem Dev.setRx_ptp (k : Nat) (x : NetRx) : (d.setRx k x).ptp = d.ptp := rfl
@[simp] theorem Dev.setRx_xlat (k : Nat) (x : NetRx) : (d.setRx k x).xlat = d.xlat := rfl
@[simp] theorem Dev.setRx_disp (k : Nat) (x : NetRx) : (d.setRx k x).disp = d.disp := rfl
@[simp] theorem Dev.setRx_dma (k : Nat) (x : NetRx) : (d.setRx k x).dma = d.dma := rfl
@[simp] theorem Dev.setRx_mem (k : Nat) (x : NetRx) : (d.setRx k x).mem = d.mem := rfl
@[simp] theorem Dev.setRx_boot (k : Nat) (x : NetRx) : (d.setRx k x).boot = d.boot := rfl
@[simp] theorem Dev.setRx_pow (k : Nat) (x : NetRx) : (d.setRx k x).pow = d.pow := rfl
@[simp] theorem Dev.setRx_pair (k : Nat) (x : NetRx) : (d.setRx k x).pair = d.pair := rfl
@[simp] theorem Dev.setRx_legs (k : Nat) (x : NetRx) : (d.setRx k x).legs = d.legs := rfl
@[simp] theorem Dev.setRx_lanes (k : Nat) (x : NetRx) : (d.setRx k x).lanes = d.lanes := rfl
@[simp] theorem Dev.setRx_egress (k : Nat) (x : NetRx) : (d.setRx k x).egress = d.egress := rfl
@[simp] theorem Dev.setRx_flint (k : Nat) (x : NetRx) : (d.setRx k x).flint = d.flint := rfl
@[simp] theorem Dev.setRx_geode (k : Nat) (x : NetRx) : (d.setRx k x).geode = d.geode := rfl
@[simp] theorem Dev.setRx_mica (k : Nat) (x : NetRx) : (d.setRx k x).mica = d.mica := rfl
@[simp] theorem Dev.setRx_render (k : Nat) (x : NetRx) : (d.setRx k x).render = d.render := rfl
@[simp] theorem Dev.setRx_garnet (k : Nat) (x : NetRx) : (d.setRx k x).garnet = d.garnet := rfl

@[simp] theorem Dev.setTx_ctl (k : Nat) (x : NetTx) : (d.setTx k x).ctl = d.ctl := rfl
@[simp] theorem Dev.setTx_obs (k : Nat) (x : NetTx) : (d.setTx k x).obs = d.obs := rfl
@[simp] theorem Dev.setTx_clk (k : Nat) (x : NetTx) : (d.setTx k x).clk = d.clk := rfl
@[simp] theorem Dev.setTx_ptp (k : Nat) (x : NetTx) : (d.setTx k x).ptp = d.ptp := rfl
@[simp] theorem Dev.setTx_xlat (k : Nat) (x : NetTx) : (d.setTx k x).xlat = d.xlat := rfl
@[simp] theorem Dev.setTx_disp (k : Nat) (x : NetTx) : (d.setTx k x).disp = d.disp := rfl
@[simp] theorem Dev.setTx_dma (k : Nat) (x : NetTx) : (d.setTx k x).dma = d.dma := rfl
@[simp] theorem Dev.setTx_mem (k : Nat) (x : NetTx) : (d.setTx k x).mem = d.mem := rfl
@[simp] theorem Dev.setTx_boot (k : Nat) (x : NetTx) : (d.setTx k x).boot = d.boot := rfl
@[simp] theorem Dev.setTx_pow (k : Nat) (x : NetTx) : (d.setTx k x).pow = d.pow := rfl
@[simp] theorem Dev.setTx_pair (k : Nat) (x : NetTx) : (d.setTx k x).pair = d.pair := rfl
@[simp] theorem Dev.setTx_legs (k : Nat) (x : NetTx) : (d.setTx k x).legs = d.legs := rfl
@[simp] theorem Dev.setTx_lanes (k : Nat) (x : NetTx) : (d.setTx k x).lanes = d.lanes := rfl
@[simp] theorem Dev.setTx_egress (k : Nat) (x : NetTx) : (d.setTx k x).egress = d.egress := rfl
@[simp] theorem Dev.setTx_flint (k : Nat) (x : NetTx) : (d.setTx k x).flint = d.flint := rfl
@[simp] theorem Dev.setTx_geode (k : Nat) (x : NetTx) : (d.setTx k x).geode = d.geode := rfl
@[simp] theorem Dev.setTx_mica (k : Nat) (x : NetTx) : (d.setTx k x).mica = d.mica := rfl
@[simp] theorem Dev.setTx_render (k : Nat) (x : NetTx) : (d.setTx k x).render = d.render := rfl
@[simp] theorem Dev.setTx_garnet (k : Nat) (x : NetTx) : (d.setTx k x).garnet = d.garnet := rfl

@[simp] theorem Dev.setTdm_ctl (p : Nat) (x : TdmPort) : (d.setTdm p x).ctl = d.ctl := rfl
@[simp] theorem Dev.setTdm_obs (p : Nat) (x : TdmPort) : (d.setTdm p x).obs = d.obs := rfl
@[simp] theorem Dev.setTdm_clk (p : Nat) (x : TdmPort) : (d.setTdm p x).clk = d.clk := rfl
@[simp] theorem Dev.setTdm_ptp (p : Nat) (x : TdmPort) : (d.setTdm p x).ptp = d.ptp := rfl
@[simp] theorem Dev.setTdm_xlat (p : Nat) (x : TdmPort) : (d.setTdm p x).xlat = d.xlat := rfl
@[simp] theorem Dev.setTdm_disp (p : Nat) (x : TdmPort) : (d.setTdm p x).disp = d.disp := rfl
@[simp] theorem Dev.setTdm_dma (p : Nat) (x : TdmPort) : (d.setTdm p x).dma = d.dma := rfl
@[simp] theorem Dev.setTdm_mem (p : Nat) (x : TdmPort) : (d.setTdm p x).mem = d.mem := rfl
@[simp] theorem Dev.setTdm_boot (p : Nat) (x : TdmPort) : (d.setTdm p x).boot = d.boot := rfl
@[simp] theorem Dev.setTdm_pow (p : Nat) (x : TdmPort) : (d.setTdm p x).pow = d.pow := rfl
@[simp] theorem Dev.setTdm_pair (p : Nat) (x : TdmPort) : (d.setTdm p x).pair = d.pair := rfl
@[simp] theorem Dev.setTdm_legs (p : Nat) (x : TdmPort) : (d.setTdm p x).legs = d.legs := rfl
@[simp] theorem Dev.setTdm_lanes (p : Nat) (x : TdmPort) : (d.setTdm p x).lanes = d.lanes := rfl
@[simp] theorem Dev.setTdm_egress (p : Nat) (x : TdmPort) : (d.setTdm p x).egress = d.egress := rfl
@[simp] theorem Dev.setTdm_flint (p : Nat) (x : TdmPort) : (d.setTdm p x).flint = d.flint := rfl
@[simp] theorem Dev.setTdm_geode (p : Nat) (x : TdmPort) : (d.setTdm p x).geode = d.geode := rfl
@[simp] theorem Dev.setTdm_mica (p : Nat) (x : TdmPort) : (d.setTdm p x).mica = d.mica := rfl
@[simp] theorem Dev.setTdm_render (p : Nat) (x : TdmPort) : (d.setTdm p x).render = d.render := rfl
@[simp] theorem Dev.setTdm_garnet (p : Nat) (x : TdmPort) : (d.setTdm p x).garnet = d.garnet := rfl

@[simp] theorem Dev.setPlayout_ctl (l i : Nat) (x : Playout) : (d.setPlayout l i x).ctl = d.ctl := rfl
@[simp] theorem Dev.setPlayout_obs (l i : Nat) (x : Playout) : (d.setPlayout l i x).obs = d.obs := rfl
@[simp] theorem Dev.setPlayout_clk (l i : Nat) (x : Playout) : (d.setPlayout l i x).clk = d.clk := rfl
@[simp] theorem Dev.setPlayout_ptp (l i : Nat) (x : Playout) : (d.setPlayout l i x).ptp = d.ptp := rfl
@[simp] theorem Dev.setPlayout_xlat (l i : Nat) (x : Playout) : (d.setPlayout l i x).xlat = d.xlat := rfl
@[simp] theorem Dev.setPlayout_disp (l i : Nat) (x : Playout) : (d.setPlayout l i x).disp = d.disp := rfl
@[simp] theorem Dev.setPlayout_dma (l i : Nat) (x : Playout) : (d.setPlayout l i x).dma = d.dma := rfl
@[simp] theorem Dev.setPlayout_mem (l i : Nat) (x : Playout) : (d.setPlayout l i x).mem = d.mem := rfl
@[simp] theorem Dev.setPlayout_boot (l i : Nat) (x : Playout) : (d.setPlayout l i x).boot = d.boot := rfl
@[simp] theorem Dev.setPlayout_pow (l i : Nat) (x : Playout) : (d.setPlayout l i x).pow = d.pow := rfl
@[simp] theorem Dev.setPlayout_pair (l i : Nat) (x : Playout) : (d.setPlayout l i x).pair = d.pair := rfl
@[simp] theorem Dev.setPlayout_legs (l i : Nat) (x : Playout) : (d.setPlayout l i x).legs = d.legs := rfl
@[simp] theorem Dev.setPlayout_lanes (l i : Nat) (x : Playout) : (d.setPlayout l i x).lanes = d.lanes := rfl
@[simp] theorem Dev.setPlayout_egress (l i : Nat) (x : Playout) : (d.setPlayout l i x).egress = d.egress := rfl
@[simp] theorem Dev.setPlayout_flint (l i : Nat) (x : Playout) : (d.setPlayout l i x).flint = d.flint := rfl
@[simp] theorem Dev.setPlayout_geode (l i : Nat) (x : Playout) : (d.setPlayout l i x).geode = d.geode := rfl
@[simp] theorem Dev.setPlayout_mica (l i : Nat) (x : Playout) : (d.setPlayout l i x).mica = d.mica := rfl
@[simp] theorem Dev.setPlayout_render (l i : Nat) (x : Playout) : (d.setPlayout l i x).render = d.render := rfl
@[simp] theorem Dev.setPlayout_garnet (l i : Nat) (x : Playout) : (d.setPlayout l i x).garnet = d.garnet := rfl

@[simp] theorem Dev.setObj_ctl (i : Nat) (x : RObj) : (d.setObj i x).ctl = d.ctl := rfl
@[simp] theorem Dev.setObj_obs (i : Nat) (x : RObj) : (d.setObj i x).obs = d.obs := rfl
@[simp] theorem Dev.setObj_clk (i : Nat) (x : RObj) : (d.setObj i x).clk = d.clk := rfl
@[simp] theorem Dev.setObj_ptp (i : Nat) (x : RObj) : (d.setObj i x).ptp = d.ptp := rfl
@[simp] theorem Dev.setObj_xlat (i : Nat) (x : RObj) : (d.setObj i x).xlat = d.xlat := rfl
@[simp] theorem Dev.setObj_disp (i : Nat) (x : RObj) : (d.setObj i x).disp = d.disp := rfl
@[simp] theorem Dev.setObj_dma (i : Nat) (x : RObj) : (d.setObj i x).dma = d.dma := rfl
@[simp] theorem Dev.setObj_mem (i : Nat) (x : RObj) : (d.setObj i x).mem = d.mem := rfl
@[simp] theorem Dev.setObj_boot (i : Nat) (x : RObj) : (d.setObj i x).boot = d.boot := rfl
@[simp] theorem Dev.setObj_pow (i : Nat) (x : RObj) : (d.setObj i x).pow = d.pow := rfl
@[simp] theorem Dev.setObj_pair (i : Nat) (x : RObj) : (d.setObj i x).pair = d.pair := rfl
@[simp] theorem Dev.setObj_legs (i : Nat) (x : RObj) : (d.setObj i x).legs = d.legs := rfl
@[simp] theorem Dev.setObj_lanes (i : Nat) (x : RObj) : (d.setObj i x).lanes = d.lanes := rfl
@[simp] theorem Dev.setObj_egress (i : Nat) (x : RObj) : (d.setObj i x).egress = d.egress := rfl
@[simp] theorem Dev.setObj_flint (i : Nat) (x : RObj) : (d.setObj i x).flint = d.flint := rfl
@[simp] theorem Dev.setObj_geode (i : Nat) (x : RObj) : (d.setObj i x).geode = d.geode := rfl
@[simp] theorem Dev.setObj_mica (i : Nat) (x : RObj) : (d.setObj i x).mica = d.mica := rfl
@[simp] theorem Dev.setObj_audio (i : Nat) (x : RObj) : (d.setObj i x).audio = d.audio := rfl
@[simp] theorem Dev.setObj_garnet (i : Nat) (x : RObj) : (d.setObj i x).garnet = d.garnet := rfl

@[simp] theorem Dev.setChain_ctl (i : Nat) (x : Chain) : (d.setChain i x).ctl = d.ctl := rfl
@[simp] theorem Dev.setChain_obs (i : Nat) (x : Chain) : (d.setChain i x).obs = d.obs := rfl
@[simp] theorem Dev.setChain_clk (i : Nat) (x : Chain) : (d.setChain i x).clk = d.clk := rfl
@[simp] theorem Dev.setChain_ptp (i : Nat) (x : Chain) : (d.setChain i x).ptp = d.ptp := rfl
@[simp] theorem Dev.setChain_xlat (i : Nat) (x : Chain) : (d.setChain i x).xlat = d.xlat := rfl
@[simp] theorem Dev.setChain_disp (i : Nat) (x : Chain) : (d.setChain i x).disp = d.disp := rfl
@[simp] theorem Dev.setChain_dma (i : Nat) (x : Chain) : (d.setChain i x).dma = d.dma := rfl
@[simp] theorem Dev.setChain_mem (i : Nat) (x : Chain) : (d.setChain i x).mem = d.mem := rfl
@[simp] theorem Dev.setChain_boot (i : Nat) (x : Chain) : (d.setChain i x).boot = d.boot := rfl
@[simp] theorem Dev.setChain_pow (i : Nat) (x : Chain) : (d.setChain i x).pow = d.pow := rfl
@[simp] theorem Dev.setChain_pair (i : Nat) (x : Chain) : (d.setChain i x).pair = d.pair := rfl
@[simp] theorem Dev.setChain_legs (i : Nat) (x : Chain) : (d.setChain i x).legs = d.legs := rfl
@[simp] theorem Dev.setChain_lanes (i : Nat) (x : Chain) : (d.setChain i x).lanes = d.lanes := rfl
@[simp] theorem Dev.setChain_egress (i : Nat) (x : Chain) : (d.setChain i x).egress = d.egress := rfl
@[simp] theorem Dev.setChain_flint (i : Nat) (x : Chain) : (d.setChain i x).flint = d.flint := rfl
@[simp] theorem Dev.setChain_geode (i : Nat) (x : Chain) : (d.setChain i x).geode = d.geode := rfl
@[simp] theorem Dev.setChain_mica (i : Nat) (x : Chain) : (d.setChain i x).mica = d.mica := rfl
@[simp] theorem Dev.setChain_audio (i : Nat) (x : Chain) : (d.setChain i x).audio = d.audio := rfl
@[simp] theorem Dev.setChain_garnet (i : Nat) (x : Chain) : (d.setChain i x).garnet = d.garnet := rfl

@[simp] theorem Dev.setIns_ctl (n : Nat) (x : Insert) : (d.setIns n x).ctl = d.ctl := rfl
@[simp] theorem Dev.setIns_obs (n : Nat) (x : Insert) : (d.setIns n x).obs = d.obs := rfl
@[simp] theorem Dev.setIns_clk (n : Nat) (x : Insert) : (d.setIns n x).clk = d.clk := rfl
@[simp] theorem Dev.setIns_ptp (n : Nat) (x : Insert) : (d.setIns n x).ptp = d.ptp := rfl
@[simp] theorem Dev.setIns_xlat (n : Nat) (x : Insert) : (d.setIns n x).xlat = d.xlat := rfl
@[simp] theorem Dev.setIns_disp (n : Nat) (x : Insert) : (d.setIns n x).disp = d.disp := rfl
@[simp] theorem Dev.setIns_dma (n : Nat) (x : Insert) : (d.setIns n x).dma = d.dma := rfl
@[simp] theorem Dev.setIns_mem (n : Nat) (x : Insert) : (d.setIns n x).mem = d.mem := rfl
@[simp] theorem Dev.setIns_boot (n : Nat) (x : Insert) : (d.setIns n x).boot = d.boot := rfl
@[simp] theorem Dev.setIns_pow (n : Nat) (x : Insert) : (d.setIns n x).pow = d.pow := rfl
@[simp] theorem Dev.setIns_pair (n : Nat) (x : Insert) : (d.setIns n x).pair = d.pair := rfl
@[simp] theorem Dev.setIns_legs (n : Nat) (x : Insert) : (d.setIns n x).legs = d.legs := rfl
@[simp] theorem Dev.setIns_lanes (n : Nat) (x : Insert) : (d.setIns n x).lanes = d.lanes := rfl
@[simp] theorem Dev.setIns_egress (n : Nat) (x : Insert) : (d.setIns n x).egress = d.egress := rfl
@[simp] theorem Dev.setIns_flint (n : Nat) (x : Insert) : (d.setIns n x).flint = d.flint := rfl
@[simp] theorem Dev.setIns_geode (n : Nat) (x : Insert) : (d.setIns n x).geode = d.geode := rfl
@[simp] theorem Dev.setIns_mica (n : Nat) (x : Insert) : (d.setIns n x).mica = d.mica := rfl
@[simp] theorem Dev.setIns_audio (n : Nat) (x : Insert) : (d.setIns n x).audio = d.audio := rfl
@[simp] theorem Dev.setIns_render (n : Nat) (x : Insert) : (d.setIns n x).render = d.render := rfl

@[simp] theorem Dev.setGcore_ctl (k : Nat) (x : Core) : (d.setGcore k x).ctl = d.ctl := rfl
@[simp] theorem Dev.setGcore_obs (k : Nat) (x : Core) : (d.setGcore k x).obs = d.obs := rfl
@[simp] theorem Dev.setGcore_clk (k : Nat) (x : Core) : (d.setGcore k x).clk = d.clk := rfl
@[simp] theorem Dev.setGcore_ptp (k : Nat) (x : Core) : (d.setGcore k x).ptp = d.ptp := rfl
@[simp] theorem Dev.setGcore_xlat (k : Nat) (x : Core) : (d.setGcore k x).xlat = d.xlat := rfl
@[simp] theorem Dev.setGcore_disp (k : Nat) (x : Core) : (d.setGcore k x).disp = d.disp := rfl
@[simp] theorem Dev.setGcore_dma (k : Nat) (x : Core) : (d.setGcore k x).dma = d.dma := rfl
@[simp] theorem Dev.setGcore_mem (k : Nat) (x : Core) : (d.setGcore k x).mem = d.mem := rfl
@[simp] theorem Dev.setGcore_boot (k : Nat) (x : Core) : (d.setGcore k x).boot = d.boot := rfl
@[simp] theorem Dev.setGcore_pow (k : Nat) (x : Core) : (d.setGcore k x).pow = d.pow := rfl
@[simp] theorem Dev.setGcore_pair (k : Nat) (x : Core) : (d.setGcore k x).pair = d.pair := rfl
@[simp] theorem Dev.setGcore_legs (k : Nat) (x : Core) : (d.setGcore k x).legs = d.legs := rfl
@[simp] theorem Dev.setGcore_lanes (k : Nat) (x : Core) : (d.setGcore k x).lanes = d.lanes := rfl
@[simp] theorem Dev.setGcore_egress (k : Nat) (x : Core) : (d.setGcore k x).egress = d.egress := rfl
@[simp] theorem Dev.setGcore_flint (k : Nat) (x : Core) : (d.setGcore k x).flint = d.flint := rfl
@[simp] theorem Dev.setGcore_geode (k : Nat) (x : Core) : (d.setGcore k x).geode = d.geode := rfl
@[simp] theorem Dev.setGcore_mica (k : Nat) (x : Core) : (d.setGcore k x).mica = d.mica := rfl
@[simp] theorem Dev.setGcore_audio (k : Nat) (x : Core) : (d.setGcore k x).audio = d.audio := rfl
@[simp] theorem Dev.setGcore_render (k : Nat) (x : Core) : (d.setGcore k x).render = d.render := rfl

end Sys2Proof.Machine
end

