-- ==== Sys2Proof/Laws/Gates.lean ====
section
/-! SUPPORT. What the gates of a command let through: nothing while the unit is not up, or not READY, and otherwise the change itself. -/

namespace Sys2Proof.Machine
open Sys2Proof

variable {s : State}

/-- A unit that is READY is up. -/
theorem State.up_of_ready (h : s.ready = true) : s.up = true := by simp [State.ready] at h; exact h.1
theorem State.ready_of_not_up (h : s.up = false) : s.ready = false := by simp [State.ready, h]
theorem State.phase_of_ready (h : s.ready = true) : s.dev.boot.phase = .ready := by simp [State.ready] at h; exact h.2

theorem State.act_up (f : Dev → Dev) (h : s.up = true) : s.act f = s.setDev (f s.dev) := by simp [State.act, h]
theorem State.act_down (f : Dev → Dev) (h : s.up = false) : s.act f = s := by simp [State.act, h]
theorem State.actReady_ready (f : Dev → Dev) (h : s.ready = true) : s.actReady f = s.setDev (f s.dev) := by simp [State.actReady, h]
theorem State.actReady_not (f : Dev → Dev) (h : s.ready = false) : s.actReady f = s := by simp [State.actReady, h]
theorem State.actAll_up (f : State → State) (h : s.up = true) : s.actAll f = f s := by simp [State.actAll, h]
theorem State.actAll_down (f : State → State) (h : s.up = false) : s.actAll f = s := by simp [State.actAll, h]
theorem State.actAllReady_ready (f : State → State) (h : s.ready = true) : s.actAllReady f = f s := by simp [State.actAllReady, h]
theorem State.actAllReady_not (f : State → State) (h : s.ready = false) : s.actAllReady f = s := by simp [State.actAllReady, h]
theorem State.hostWrite_down (p o : Nat) (v : Word) (h : s.up = false) : s.hostWrite p o v = s := State.actAll_down _ h

/-- A command's row does nothing before READY. -/
theorem runCmd_not (o : OpSpec) (c : HostCmd) (h : s.ready = false) : runCmd o c s = s := State.actAllReady_not _ h

/-- A command is dated and finds no room for it (R86). -/
def OpSpec.crowded (c : HostCmd) (s : State) : Prop := (c.dated && decide (8192 ≤ s.dev.datedPending)) = true

theorem leastDetail_none (l : List Chk) : leastDetail l = none ↔ l = [] := by
  constructor
  · intro h
    rcases List.eq_nil_or_concat l with rfl | ⟨t, x, rfl⟩
    · rfl
    · simp [leastDetail] at h
  · rintro rfl; rfl

/-- No check fails: none of those that hold names a status of Table 2-18. -/
theorem firstFail_none (l : List Chk) : firstFail l = none ↔ ∀ c, c ∈ l → c.bad = true → c.st ∉ checkOrder := by
  simp only [firstFail, List.findSome?_eq_none_iff, Option.map_eq_none_iff]
  constructor
  · intro h c hc hb hs
    have hm : c ∈ l.filter (fun x => x.bad && decide (x.st = c.st)) := by simp [hc, hb]
    have hn := h c.st hs
    split at hn
    · rw [leastDetail_none] at hn; rw [hn] at hm; cases hm
    · rw [Option.map_eq_none_iff, List.head?_eq_none_iff] at hn; rw [hn] at hm; cases hm
  · intro h st hst
    have he : l.filter (fun x => x.bad && decide (x.st = st)) = [] := by
      rw [List.filter_eq_nil_iff]
      intro c hc hb
      simp only [Bool.and_eq_true, decide_eq_true_eq] at hb
      exact h c hc hb.1 (hb.2 ▸ hst)
    rw [he]
    split <;> rfl

/-- What passes as a command of this unit's host passes as one that was relayed. -/
theorem OpSpec.verdict_relayed (o : OpSpec) (c : HostCmd) (r : Bool) (l : List Byte) (h : o.verdict c false (some l) s = none) :
    o.verdict c r (some l) s = none := by
  unfold OpSpec.verdict at h ⊢
  dsimp only at h ⊢
  rw [firstFail_none] at h ⊢
  intro x hx hb
  rw [List.mem_append] at hx
  rcases hx with hx | hx
  · exact h x (List.mem_append_left _ hx) hb
  · rw [List.mem_singleton] at hx
    subst hx
    exact h (roleCheck o false s) (List.mem_append_right _ (List.mem_singleton.2 rfl)) (by
      simp [roleCheck, refusedIf] at hb ⊢
      exact ⟨hb.1.1, hb.2⟩)

theorem datedFull_free (v : Option (Status × Nat)) : datedFull v false = v := by
  rcases v with _ | ⟨st, n⟩ <;> rfl

/-- A command is processed: whatever the verdict is when the dated commands leave room. -/
theorem State.process_room (o : OpSpec) (k : Token) (f : State → State) (h : ¬ OpSpec.crowded k.cmd s) :
    s.process o k f = match o.verdict k.cmd false (o.capture k.cmd s.dev) s with
      | some (st, n) => s.onDev (fun d => (o.rejected k.cmd st d).refuse k st n)
      | none => (f s).takeOn o k ((o.capture k.cmd s.dev).getD []) := by
  have h' : (k.cmd.dated && decide (8192 ≤ s.dev.datedPending)) = false := by simpa [OpSpec.crowded] using h
  simp only [State.process, h', datedFull_free] <;> rfl

/-- A command taken by a unit that follows no partner, or kept on it, is carried out at once when it stands at its boundary. -/
theorem State.takeOn_now (o : OpSpec) (k : Token) (l : List Byte) (late : Bool) (hj : (s.dev.joined && !staysHere k) = false)
    (hn : o.actsNow k s.dev = some late) : s.takeOn o k l = o.perform k late (some l) s := by
  simp [State.takeOn, hj, hn]

/-- A command that passes its checks has its effect and its answer, at the boundary where it acts. -/
theorem runCmd_accepted (o : OpSpec) (c : HostCmd) (h : s.ready = true) (late : Bool) (l : List Byte) (hr : ¬ OpSpec.crowded c s)
    (hj : (s.dev.joined && !staysHere (o.token c s)) = false) (hn : o.actsNow (o.token c s) s.dev = some late)
    (hl : o.capture c s.dev = some l) (hv : o.verdict c false (some l) s = none) :
    runCmd o c s = answer (o.token c s) late (o.run c l (o.token c s) s) := by
  have hc : (o.token c s).cmd = c := rfl
  rw [runCmd, State.actAllReady_ready _ h, State.process_room o _ _ (by rw [hc]; exact hr), hc, hl, hv]
  simp only [id, Option.getD_some]
  rw [State.takeOn_now o _ _ late hj hn, OpSpec.perform, hc, OpSpec.verdict_relayed o c _ l hv]
  rfl

/-- A command that fails a check only gets its completion, beside what its opcode does with a failure. -/
theorem runCmd_rejected (o : OpSpec) (c : HostCmd) (h : s.ready = true) (st : Status) (n : Nat) (hr : ¬ OpSpec.crowded c s)
    (hv : o.verdict c false (o.capture c s.dev) s = some (st, n)) :
    runCmd o c s = s.onDev (fun d => (o.rejected c st d).refuse (o.token c s) st n) := by
  have hc : (o.token c s).cmd = c := rfl
  rw [runCmd, State.actAllReady_ready _ h, State.process_room o _ _ (by rw [hc]; exact hr), hc, hv]

end Sys2Proof.Machine
end

