-- ==== Sys2Proof/Laws/Tab.lean ====
section
/-! SUPPORT. Laws of the sparse tables: a read after a write, and the canonical form. -/

namespace Sys2Proof

/-- An empty table reads as its default everywhere. -/
@[simp] theorem tabGet_nil {α : Type} (d : Nat → α) (k : Nat) : tabGet d [] k = d k := rfl

/-- Entries at or below a key, dropped, do not change what lies above it or before the rest. -/
theorem tabGet_dropWhile {α : Type} (d : Nat → α) (t : Tab α) (k q : Nat) :
    tabGet d (t.dropWhile (fun e => decide (e.1 ≤ k))) q = if q ≤ k then d q else tabGet d t q := by
  induction t with
  | nil => simp
  | cons e t ih =>
    obtain ⟨j, a⟩ := e
    by_cases h : j ≤ k
    · simp only [List.dropWhile_cons, h, decide_true, if_true, ih, tabGet]
      split <;> rename_i hq
      · rfl
      · rw [if_neg (by omega), if_neg (by omega)]
    · simp only [List.dropWhile_cons, h, decide_false, tabGet]
      by_cases hq : q ≤ k
      · rw [if_pos hq, if_neg (by simp), tabGet, if_neg (by omega), if_pos (by omega)]
      · simp [hq, tabGet]

/-- A table reads at the key written as was written, and elsewhere as before. -/
@[simp] theorem tabGet_tabPut {α : Type} [DecidableEq α] (d : Nat → α) (t : Tab α) (k q : Nat) (v : α) :
    tabGet d (tabPut d t k v) q = if q = k then v else tabGet d t q := by
  induction t with
  | nil =>
    by_cases hv : v = d k
    · subst hv; by_cases hq : q = k <;> simp [tabPut, hq]
    · by_cases hq : q = k <;> simp [tabPut, tabGet, hv, hq]
  | cons e t ih =>
    obtain ⟨j, a⟩ := e
    rcases Nat.lt_trichotomy k j with h | h | h
    · by_cases hv : v = d k
      · subst hv
        by_cases hq : q = k
        · subst hq; simp [tabPut, tabGet, h, Nat.ne_of_lt h]
        · simp [tabPut, h, hq]
      · by_cases hq : q = k
        · subst hq; simp [tabPut, tabGet, h, hv]
        · simp only [tabPut, h, if_true, hv, if_false, tabGet, hq]
          by_cases hk : q < k
          · rw [if_pos hk, if_neg (by omega), if_pos (by omega)]
          · rw [if_neg hk]
    · subst h
      by_cases hv : v = d k
      · subst hv
        simp only [tabPut, Nat.lt_irrefl, if_false, if_true, tabGet_dropWhile, tabGet]
        by_cases hq : q = k
        · subst hq; simp
        · by_cases hk : q < k
          · rw [if_pos (by omega), if_neg hq, if_neg hq, if_pos hk]
          · rw [if_neg (by omega), if_neg hq, if_neg hq, if_neg hk]
      · by_cases hq : q = k <;> simp [tabPut, tabGet, hv, hq]
    · have h1 : ¬ k < j := by omega
      have h2 : k ≠ j := by omega
      simp only [tabPut, h1, if_false, h2, tabGet, ih]
      by_cases hj : q = j
      · rw [if_pos hj, if_neg (by omega), if_pos hj]
      · rw [if_neg hj, if_neg hj]
        by_cases hk : q < j
        · rw [if_pos hk, if_neg (by omega), if_pos hk]
        · rw [if_neg hk, if_neg hk]

/-- The same for tables with one default. -/
@[simp] theorem tabGetD_tabPutD {α : Type} [DecidableEq α] (z : α) (t : Tab α) (k q : Nat) (v : α) :
    tabGetD z (tabPutD z t k v) q = if q = k then v else tabGetD z t q := tabGet_tabPut (fun _ => z) t k q v

/-- An empty table reads as its default everywhere. -/
@[simp] theorem tabGetD_nil {α : Type} (z : α) (k : Nat) : tabGetD z [] k = z := rfl

/-- The keys of a table all lie above `k`. -/
def tabAbove {α : Type} (k : Nat) (t : Tab α) : Prop := ∀ e, e ∈ t → k < e.1

/-- The canonical form, entry by entry. -/
theorem tabWf_cons {α : Type} [DecidableEq α] (d : Nat → α) (j : Nat) (a : α) (t : Tab α) :
    tabWf d ((j, a) :: t) = true ↔ a ≠ d j ∧ tabAbove j t ∧ tabWf d t = true := by
  induction t generalizing j a with
  | nil => simp [tabWf, tabAbove]
  | cons e t ih =>
    obtain ⟨k, b⟩ := e
    simp only [tabWf, Bool.and_eq_true, decide_eq_true_eq]
    constructor
    · rintro ⟨⟨h1, h2⟩, h3⟩
      refine ⟨h2, ?_, h3⟩
      intro e he
      rcases List.mem_cons.1 he with rfl | he
      · exact h1
      · exact Nat.lt_trans h1 (((ih k b).1 h3).2.1 e he)
    · rintro ⟨h1, h2, h3⟩
      exact ⟨⟨h2 (k, b) (by simp), h1⟩, h3⟩

/-- A filter keeps the canonical form. -/
theorem tabWf_filter {α : Type} [DecidableEq α] (d : Nat → α) (t : Tab α) (f : Nat × α → Bool) (h : tabWf d t = true) : tabWf d (t.filter f) = true := by
  induction t with
  | nil => simp [tabWf]
  | cons e t ih =>
    obtain ⟨j, a⟩ := e
    obtain ⟨h1, h2, h3⟩ := (tabWf_cons d j a t).1 h
    rw [List.filter_cons]
    split
    · exact (tabWf_cons d j a _).2 ⟨h1, fun e he => h2 e (List.mem_filter.1 he).1, ih h3⟩
    · exact ih h3

/-- The keys of a table after a write. -/
theorem tabPut_mem {α : Type} [DecidableEq α] (d : Nat → α) (t : Tab α) (k : Nat) (v : α) (e : Nat × α) (h : e ∈ tabPut d t k v) : e = (k, v) ∨ e ∈ t := by
  induction t with
  | nil => simp only [tabPut] at h; split at h <;> simp_all
  | cons c t ih =>
    obtain ⟨j, a⟩ := c
    simp only [tabPut] at h
    split at h
    · split at h
      · exact .inr h
      · rcases List.mem_cons.1 h with h | h
        · exact .inl h
        · exact .inr h
    · split at h
      · split at h
        · exact .inr (List.mem_cons_of_mem _ (List.dropWhile_suffix _ |>.subset h))
        · rcases List.mem_cons.1 h with h | h
          · exact .inl h
          · exact .inr (List.mem_cons_of_mem _ h)
      · rcases List.mem_cons.1 h with h | h
        · exact .inr (h ▸ List.mem_cons_self)
        · rcases ih h with h | h
          · exact .inl h
          · exact .inr (List.mem_cons_of_mem _ h)

/-- Every write keeps the canonical form. -/
theorem tabPut_wf {α : Type} [DecidableEq α] (d : Nat → α) (t : Tab α) (k : Nat) (v : α) (h : tabWf d t = true) : tabWf d (tabPut d t k v) = true := by
  induction t with
  | nil => simp only [tabPut]; split <;> simp_all [tabWf]
  | cons c t ih =>
    obtain ⟨j, a⟩ := c
    obtain ⟨h1, h2, h3⟩ := (tabWf_cons d j a t).1 h
    simp only [tabPut]
    split
    · rename_i hk
      split
      · exact h
      · rename_i hv
        refine (tabWf_cons d k v _).2 ⟨hv, ?_, h⟩
        intro e he
        rcases List.mem_cons.1 he with rfl | he
        · exact hk
        · exact Nat.lt_trans hk (h2 e he)
    · split
      · rename_i hk
        subst hk
        split
        · have hf : t.dropWhile (fun e => decide (e.1 ≤ k)) = t := by
            cases t with
            | nil => rfl
            | cons b t => rw [List.dropWhile_cons, if_neg]; simpa using h2 b (by simp)
          rw [hf]; exact h3
        · rename_i hv
          exact (tabWf_cons d k v t).2 ⟨hv, h2, h3⟩
      · rename_i h4 h5
        refine (tabWf_cons d j a _).2 ⟨h1, ?_, ih h3⟩
        intro e he
        rcases tabPut_mem d t k v e he with rfl | he
        · show j < k
          omega
        · exact h2 e he

/-- The same for tables with one default. -/
theorem tabPutD_wf {α : Type} [DecidableEq α] (z : α) (t : Tab α) (k : Nat) (v : α) (h : tabWf (fun _ => z) t = true) :
    tabWf (fun _ => z) (tabPutD z t k v) = true := tabPut_wf _ t k v h

/-- A table mapped stays in its canonical form. -/
theorem tabMapD_wf {α : Type} [DecidableEq α] (z : α) (t : Tab α) (f : Nat → α → α) (h : tabWf (fun _ => z) t = true) :
    tabWf (fun _ => z) (tabMapD z t f) = true := by
  induction t with
  | nil => rfl
  | cons c t ih =>
    obtain ⟨j, a⟩ := c
    obtain ⟨_, h2, h3⟩ := (tabWf_cons _ j a t).1 h
    simp only [tabMapD, List.map_cons, List.filter_cons] at ih ⊢
    split
    · rename_i hv
      refine (tabWf_cons _ j _ _).2 ⟨by simpa using hv, ?_, ih h3⟩
      intro e he
      obtain ⟨x, hx, rfl⟩ := List.mem_map.1 (List.mem_filter.1 he).1
      exact h2 x hx
    · exact ih h3

end Sys2Proof
end

