-- ==== Sys2Proof/Laws/Memory.lean ====
section
/-! SUPPORT. Laws of the byte stores: a read after a write, what a write leaves alone, and the canonical form. -/

namespace Sys2Proof.Machine
open Sys2Proof

/-- A byte reads as written, and every other as before. -/
@[simp] theorem memRead_memWrite (m : List Host.Cell) (a q : Nat) (b : Byte) : memRead (memWrite m a b) q = if q = a then b else memRead m q :=
  tabGetD_tabPutD 0 m a q b

/-- A byte written keeps the canonical form. -/
theorem memWrite_wf (m : List Host.Cell) (a : Nat) (b : Byte) (h : Memory.wf m = true) : Memory.wf (memWrite m a b) = true := tabPutD_wf 0 m a b h

/-- A string of bytes written keeps the canonical form. -/
theorem memWrites_wf (m : List Host.Cell) (a : Nat) (l : List Byte) (h : Memory.wf m = true) : Memory.wf (memWrites m a l) = true := by
  induction l generalizing m a with
  | nil => exact h
  | cons b t ih => exact ih _ _ (memWrite_wf m a b h)

/-- A string written reads back byte by byte, and leaves every byte outside it. -/
theorem memRead_memWrites (m : List Host.Cell) (a q : Nat) (l : List Byte) :
    memRead (memWrites m a l) q = if a ≤ q ∧ q < a + l.length then (l[q - a]?).getD 0 else memRead m q := by
  induction l generalizing m a with
  | nil => simp only [memWrites, List.length_nil, Nat.add_zero]; rw [if_neg (by omega)]
  | cons b t ih =>
    simp only [memWrites, ih, memRead_memWrite, List.length_cons]
    by_cases h1 : q = a
    · subst h1
      rw [if_neg (by omega), if_pos rfl, if_pos (by omega)]
      simp
    · by_cases h2 : a + 1 ≤ q ∧ q < a + 1 + t.length
      · rw [if_pos h2, if_pos (by omega)]
        obtain ⟨n, rfl⟩ : ∃ n, q = a + 1 + n := ⟨q - (a + 1), by omega⟩
        rw [show a + 1 + n - (a + 1) = n by omega, show a + 1 + n - a = n + 1 by omega, List.getElem?_cons_succ]
      · rw [if_neg h2, if_neg h1, if_neg (by omega)]

/-- Bytes outside a string written read as before. -/
theorem memRead_memWrites_of_not (m : List Host.Cell) (a q : Nat) (l : List Byte) (h : q < a ∨ a + l.length ≤ q) :
    memRead (memWrites m a l) q = memRead m q := by
  rw [memRead_memWrites, if_neg (by omega)]

/-- As many bytes are read as are asked for. -/
@[simp] theorem memReads_length (m : List Host.Cell) (a n : Nat) : (memReads m a n).length = n := by
  induction n generalizing a with
  | zero => rfl
  | succ n ih => simp [memReads, ih]

/-- Device memory reads as many bytes as are asked for. -/
@[simp] theorem Dev.dramReads_length (d : Dev) (a n : Nat) : (d.dramReads a n).length = n := by
  simp only [Dev.dramReads, List.length_append, memReads_length, List.length_replicate]
  split <;> omega

/-! ### The operations over the stores -/

/-- The canonical form of the three stores of a resettable part. -/
def Dev.memOk (d : Dev) : Prop := Memory.wf d.mem.dram = true ∧ Memory.wf d.mem.host = true ∧ Memory.wf d.mem.slab = true

/-- The stores of a machine are those of its resettable part. -/
theorem memOk_iff (s : State) : MemOk s ↔ s.dev.memOk := Iff.rfl

/-- Reset lists nothing. -/
theorem memOk_reset : MemOk State.reset := ⟨rfl, rfl, rfl⟩

/-- A change that keeps the stores keeps their form. -/
theorem Dev.memOk_of_mem {d e : Dev} (h : d.memOk) (he : e.mem = d.mem) : e.memOk := by
  unfold Dev.memOk; rw [he]; exact h

/-- Device memory written by physical address. -/
theorem Dev.dramWrites_memOk (d : Dev) (a : Nat) (b : List Byte) (h : d.memOk) : (d.dramWrites a b).memOk :=
  ⟨memWrites_wf _ _ _ h.1, h.2.1, h.2.2⟩

/-- One byte of a target written. -/
theorem Dev.targetWrite_memOk (d : Dev) (t a : Nat) (b : Byte) (h : d.memOk) : (d.targetWrite t a b).memOk := by
  unfold Dev.targetWrite
  split
  · exact ⟨memWrite_wf _ _ _ h.1, h.2.1, h.2.2⟩
  · split
    · exact ⟨h.1, memWrite_wf _ _ _ h.2.1, h.2.2⟩
    · exact ⟨h.1, h.2.1, memWrite_wf _ _ _ h.2.2⟩

/-- A write of one byte changes the stores alone. -/
theorem Dev.targetWrite_eq (d : Dev) (t a : Nat) (b : Byte) : d.targetWrite t a b = { d with mem := (d.targetWrite t a b).mem } := by
  unfold Dev.targetWrite
  split
  · rfl
  · split <;> rfl

/-- Nothing but the contents of the stores changes with a byte written. -/
theorem Dev.targetWrite_mem (d : Dev) (t a : Nat) (b : Byte) :
    (d.targetWrite t a b).mem = { d.mem with dram := (d.targetWrite t a b).mem.dram, host := (d.targetWrite t a b).mem.host, slab := (d.targetWrite t a b).mem.slab } := by
  unfold Dev.targetWrite
  split
  · rfl
  · split <;> rfl

/-- A byte of a target reads as written; another address, or another target of the three, reads as before. -/
theorem Dev.targetRead_targetWrite (d : Dev) (t a u q : Nat) (b : Byte) (ht : t < 3) (hu : u < 3) :
    (d.targetWrite t a b).targetRead u q = if u = t ∧ q = a then b else d.targetRead u q := by
  rcases (by omega : t = 0 ∨ t = 1 ∨ t = 2) with rfl | rfl | rfl <;> rcases (by omega : u = 0 ∨ u = 1 ∨ u = 2) with rfl | rfl | rfl <;>
    simp [Dev.targetWrite, Dev.targetRead]

/-- Translation does not depend on the contents of the stores. -/
theorem Dev.translate_targetWrite (d : Dev) (t a : Nat) (b : Byte) (r va : Nat) (w : Bool) : (d.targetWrite t a b).translate r va w = d.translate r va w := by
  rw [Dev.targetWrite_eq, Dev.targetWrite_mem]; rfl

/-- Bytes written to a realm's address space change the stores alone. -/
theorem Dev.writeVa_eq (d : Dev) (r va : Nat) (l : List Byte) : d.writeVa r va l = { d with mem := (d.writeVa r va l).mem } := by
  induction l generalizing d va with
  | nil => rfl
  | cons b t ih =>
    unfold Dev.writeVa
    split
    · exact ih _ _
    · rename_i x a _
      rw [ih, Dev.targetWrite_eq]

/-- Bytes written to a realm's address space keep the canonical form. -/
theorem Dev.writeVa_memOk (d : Dev) (r va : Nat) (l : List Byte) (h : d.memOk) : (d.writeVa r va l).memOk := by
  induction l generalizing d va with
  | nil => exact h
  | cons b t ih =>
    unfold Dev.writeVa
    split
    · exact ih _ _ h
    · exact ih _ _ (Dev.targetWrite_memOk d _ _ b h)

/-- Bytes moved by a DMA descriptor keep the canonical form. -/
theorem Dev.moveBytes_memOk (x : DmaDesc) (e : Bool) (ue : Option Nat) (n k : Nat) (d : Dev) (h : d.memOk) : (Dev.moveBytes x e ue n k d).dev.memOk := by
  induction n generalizing k d with
  | zero => exact h
  | succ n ih =>
    unfold Dev.moveBytes
    split
    · exact h
    · split
      · exact h
      · split
        · exact ih _ _ h
        · exact ih _ _ (Dev.targetWrite_memOk d _ _ _ h)

end Sys2Proof.Machine
end

