-- ==== Sys2Proof/Laws/Tables.lean ====
section
/-! SUPPORT. A read after a write of each table of the state: what was written at its key, and what stood there elsewhere. -/

namespace Sys2Proof.Machine
open Sys2Proof

variable (d : Dev)

@[simp] theorem Dev.page_setPage (k q : Nat) (x : PageHdr) : (d.setPage k x).page q = if q = k then x else d.page q := by simp [Dev.page, Dev.setPage]
@[simp] theorem Dev.leg_setLeg (k q : Nat) (x : Leg) : (d.setLeg k x).leg q = if q = k then x else d.leg q := by simp [Dev.leg, Dev.setLeg]
@[simp] theorem Dev.domain_setDomain (k q : Nat) (x : Domain) : (d.setDomain k x).domain q = if q = k then x else d.domain q := by simp [Dev.domain, Dev.setDomain]
@[simp] theorem Dev.gcore_setGcore (k q : Nat) (x : Core) : (d.setGcore k x).gcore q = if q = k then x else d.gcore q := by simp [Dev.gcore, Dev.setGcore]
@[simp] theorem Dev.dch_setDch (k q : Nat) (x : DmaCh) : (d.setDch k x).dch q = if q = k then x else d.dch q := by simp [Dev.dch, Dev.setDch]
@[simp] theorem Dev.queue_setQueue (k q : Nat) (x : Queue) : (d.setQueue k x).queue q = if q = k then x else d.queue q := by simp [Dev.queue, Dev.setQueue]
@[simp] theorem Dev.slot_setSlot (k q : Nat) (x : KeySlot) : (d.setSlot k x).slot q = if q = k then x else d.slot q := by simp [Dev.slot, Dev.setSlot]
@[simp] theorem Dev.slotCtxs_setCtxs (k q : Nat) (x : List SrtpCtx) : (d.setCtxs k x).slotCtxs q = if q = k then x else d.slotCtxs q := by simp [Dev.slotCtxs, Dev.setCtxs]
@[simp] theorem Dev.geUnit_setGeUnit (k q : Nat) (x : GeUnit) : (d.setGeUnit k x).geUnit q = if q = k then x else d.geUnit q := by simp [Dev.geUnit, Dev.setGeUnit]
@[simp] theorem Dev.encS_setEncS (k q : Nat) (x : EncStream) : (d.setEncS k x).encS q = if q = k then x else d.encS q := by simp [Dev.encS, Dev.setEncS]
@[simp] theorem Dev.decS_setDecS (k q : Nat) (x : DecStream) : (d.setDecS k x).decS q = if q = k then x else d.decS q := by simp [Dev.decS, Dev.setDecS]
@[simp] theorem Dev.geRun_setGeRun (k q : Nat) (x : Option GeRun) : (d.setGeRun k x).geRun q = if q = k then x else d.geRun q := by simp [Dev.geRun, Dev.setGeRun]
@[simp] theorem Dev.lane_setLane (k q : Nat) (x : Lane) : (d.setLane k x).lane q = if q = k then x else d.lane q := by simp [Dev.lane, Dev.setLane]
@[simp] theorem Dev.layout_setLayout (k q : Nat) (x : Layout) : (d.setLayout k x).layout q = if q = k then x else d.layout q := by simp [Dev.layout, Dev.setLayout]
@[simp] theorem Dev.conf_setConf (k q : Nat) (x : Conf) : (d.setConf k x).conf q = if q = k then x else d.conf q := by simp [Dev.conf, Dev.setConf]
@[simp] theorem Dev.vad_setVad (k q : Nat) (x : Vad) : (d.setVad k x).vad q = if q = k then x else d.vad q := by simp [Dev.vad, Dev.setVad]
@[simp] theorem Dev.rx_setRx (k q : Nat) (x : NetRx) : (d.setRx k x).rx q = if q = k then x else d.rx q := by simp [Dev.rx, Dev.setRx]
@[simp] theorem Dev.tx_setTx (k q : Nat) (x : NetTx) : (d.setTx k x).tx q = if q = k then x else d.tx q := by simp [Dev.tx, Dev.setTx]
@[simp] theorem Dev.tdm_setTdm (k q : Nat) (x : TdmPort) : (d.setTdm k x).tdm q = if q = k then x else d.tdm q := by simp [Dev.tdm, Dev.setTdm]
@[simp] theorem Dev.obj_setObj (k q : Nat) (x : RObj) : (d.setObj k x).obj q = if q = k then x else d.obj q := by simp [Dev.obj, Dev.setObj]
@[simp] theorem Dev.chain_setChain (k q : Nat) (x : Chain) : (d.setChain k x).chain q = if q = k then x else d.chain q := by simp [Dev.chain, Dev.setChain]
@[simp] theorem Dev.ins_setIns (k q : Nat) (x : Insert) : (d.setIns k x).ins q = if q = k then x else d.ins q := by simp [Dev.ins, Dev.setIns]
@[simp] theorem Dev.inst_setInst (k q : Nat) (x : Option Inst) : (d.setInst k x).inst q = if q = k then x else d.inst q := by simp [Dev.inst, Dev.setInst]
@[simp] theorem Dev.page_onPage (p q : Nat) (f : PageHdr → PageHdr) : (d.onPage p f).page q = if q = p then f (d.page p) else d.page q := by simp [Dev.onPage]
@[simp] theorem Dev.leg_onLeg (l q : Nat) (f : Leg → Leg) : (d.onLeg l f).leg q = if q = l then f (d.leg l) else d.leg q := by simp [Dev.onLeg]
@[simp] theorem Dev.lane_onLane (l q : Nat) (f : Lane → Lane) : (d.onLane l f).lane q = if q = l then f (d.lane l) else d.lane q := by simp [Dev.onLane]
@[simp] theorem Dev.queue_onQueue (k q : Nat) (f : Queue → Queue) : (d.onQueue k f).queue q = if q = k then f (d.queue k) else d.queue q := by simp [Dev.onQueue]

/-- Registers are told apart by page and offset. -/
theorem regKey_inj {p q a b : Nat} (ha : a < 4096) (hb : b < 4096) : regKey p a = regKey q b ↔ p = q ∧ a = b := by
  unfold regKey; omega

@[simp] theorem Dev.reg_setReg (p o q b : Nat) (v : Word) : (d.setReg p o v).reg q b = if regKey q b = regKey p o then v else d.reg q b := by simp [Dev.reg, Dev.setReg]
@[simp] theorem Dev.shadowReg_setShadow (p o q b : Nat) (v : Word) : (d.setShadow p o v).shadowReg q b = if regKey q b = regKey p o then v else d.shadowReg q b := by
  simp [Dev.shadowReg, Dev.setShadow]
@[simp] theorem Dev.counter_bump (p o n q b : Nat) :
    (d.bump p o n).counter q b = if regKey q b = regKey p o then d.counter p o + BitVec.ofNat 64 n else d.counter q b := by
  simp [Dev.counter, Dev.bump]
@[simp] theorem Dev.ring_setRing (r k r' k' : Nat) (x : Ring) : (d.setRing r k x).ring r' k' = if 4 * r' + k' = 4 * r + k then x else d.ring r' k' := by
  simp [Dev.ring, Dev.setRing]

/-- A change of the pages leaves the registers, and a register written leaves the pages. -/
@[simp] theorem Dev.reg_setPage (p q b : Nat) (h : PageHdr) : (d.setPage p h).reg q b = d.reg q b := rfl
@[simp] theorem Dev.page_setReg (p o q : Nat) (v : Word) : (d.setReg p o v).page q = d.page q := rfl
@[simp] theorem Dev.page_bump (p o n q : Nat) : (d.bump p o n).page q = d.page q := rfl
@[simp] theorem Dev.reg_bump (p o n q b : Nat) : (d.bump p o n).reg q b = d.reg q b := rfl
@[simp] theorem Dev.counter_setPage (p q b : Nat) (h : PageHdr) : (d.setPage p h).counter q b = d.counter q b := rfl
@[simp] theorem Dev.counter_setReg (p o q b : Nat) (v : Word) : (d.setReg p o v).counter q b = d.counter q b := rfl
@[simp] theorem Dev.page_emit (o : Output) (q : Nat) : (d.emit o).page q = d.page q := rfl
@[simp] theorem Dev.reg_emit (o : Output) (q b : Nat) : (d.emit o).reg q b = d.reg q b := rfl
@[simp] theorem Dev.counter_emit (o : Output) (q b : Nat) : (d.emit o).counter q b = d.counter q b := rfl

/-- One register-access error. -/
@[simp] theorem Dev.page_err (p q : Nat) (e : ErrCode) :
    (d.err p e).page q = if q = p then { d.page p with errCount := satN 4294967295 ((d.page p).errCount + 1), errLast := e.code } else d.page q := by
  simp [Dev.err]
@[simp] theorem Dev.reg_err (p q b : Nat) (e : ErrCode) : (d.err p e).reg q b = d.reg q b := rfl

end Sys2Proof.Machine
end

