-- ==== Sys2Proof/Laws/Reports.lean ====
section
/-! SUPPORT. What an event, a report, a trace entry, a fault record and a completion can do, said once: which parts of the machine they change. -/

namespace Sys2Proof.Machine
open Sys2Proof

/-- Only the control model and the observation records may differ. -/
def Dev.Told (d e : Dev) : Prop := e = { d with ctl := e.ctl, obs := e.obs }

/-- Only the control model, the observation records and the byte stores may differ. -/
def Dev.Posted (d e : Dev) : Prop := e = { d with ctl := e.ctl, obs := e.obs, mem := e.mem }

theorem Dev.Told.refl (d : Dev) : d.Told d := rfl
theorem Dev.Told.trans {a b c : Dev} (h : a.Told b) (k : b.Told c) : a.Told c := by
  unfold Dev.Told at *; rw [k, h]
theorem Dev.Told.posted {a b : Dev} (h : a.Told b) : a.Posted b := by
  unfold Dev.Told Dev.Posted at *; rw [h]
theorem Dev.Posted.refl (d : Dev) : d.Posted d := rfl
theorem Dev.Posted.trans {a b c : Dev} (h : a.Posted b) (k : b.Posted c) : a.Posted c := by
  unfold Dev.Posted at *; rw [k, h]

/-- What is told leaves the stores. -/
theorem Dev.Told.mem {a b : Dev} (h : a.Told b) : b.mem = a.mem := by unfold Dev.Told at h; rw [h]

/-- A fold of changes that each tell. -/
theorem Dev.told_foldl {α : Type} (f : Dev → α → Dev) (h : ∀ (d : Dev) (x : α), d.Told (f d x)) (l : List α) (d : Dev) : d.Told (l.foldl f d) := by
  induction l generalizing d with
  | nil => exact .refl d
  | cons x t ih => exact (h d x).trans (ih _)

/-- A fold of changes that each post. -/
theorem Dev.posted_foldl {α : Type} (f : Dev → α → Dev) (h : ∀ (d : Dev) (x : α), d.Posted (f d x)) (l : List α) (d : Dev) : d.Posted (l.foldl f d) := by
  induction l generalizing d with
  | nil => exact .refl d
  | cons x t ih => exact (h d x).trans (ih _)

theorem Dev.msix_told (d : Dev) (v : Nat) : d.Told (d.msix v) := by
  unfold Dev.msix
  split
  · rfl
  · split <;> rfl
theorem Dev.err_told (d : Dev) (p : Nat) (e : ErrCode) : d.Told (d.err p e) := rfl
theorem Dev.errs_told (d : Dev) (p : Nat) (l : List ErrCode) : d.Told (d.errs p l) := Dev.told_foldl _ (fun d e => d.err_told p e) _ _
theorem Dev.freeze_told (d : Dev) (c t s e : Nat) : d.Told (d.freeze c t s e) := by unfold Dev.freeze; split <;> rfl
theorem Dev.setPage_told (d : Dev) (p : Nat) (h : PageHdr) : d.Told (d.setPage p h) := rfl
theorem Dev.inc_told (d : Dev) (p o : Nat) : d.Told (d.inc p o) := rfl
theorem Dev.tickFree_told (d : Dev) : d.Told d.tickFree := rfl
theorem Dev.emit_told (d : Dev) (o : Output) : d.Told (d.emit o) := rfl
theorem Dev.setRing_told (d : Dev) (r i : Nat) (x : Ring) : d.Told (d.setRing r i x) := rfl
theorem Dev.event_told (d : Dev) (p b : Nat) : d.Told (d.event p b) := by
  unfold Dev.event
  dsimp only
  split
  · rfl
  · split
    · rfl
    · exact (d.setPage_told _ _).trans (Dev.msix_told _ _)
theorem Dev.report_told (d : Dev) (r : Report) : d.Told (d.report r) := by
  have hi : d.Told (if d.obs.pending.any (fun e => e.source == r.source && e.code == r.code && decide (e.count < 4294967295))
      then (d.inc pgErrlog 0x090).inc pgErrlog 0x098 else d.inc pgErrlog 0x090) := by split <;> rfl
  have hk : ∀ x : Dev, x.Told { x with obs := x.obs.take r } := fun _ => rfl
  unfold Dev.report
  dsimp only
  split
  · exact (hi.trans (hk _)).trans (Dev.freeze_told _ _ _ _ _)
  · exact hi.trans (hk _)
theorem Dev.raise_told (d : Dev) (p b s c : Nat) (x y : Word) : d.Told (d.raise p b s c x y) := (d.event_told p b).trans (Dev.report_told _ _)
theorem Dev.trace_told (d : Dev) (c e s : Nat) (x y : Word) (o : Nat) : d.Told (d.trace c e s x y o) := by
  unfold Dev.trace
  dsimp only
  repeat' split
  all_goals rfl
theorem Dev.writeVa_posted (d : Dev) (r va : Nat) (l : List Byte) : d.Posted (d.writeVa r va l) := by
  unfold Dev.Posted; rw [Dev.writeVa_eq]

/-- A fault closed: the fault records, the trace and its counters, and nothing else. -/
theorem Dev.closeFault_told (d : Dev) (id how : Nat) : Dev.Told { d with xlat := (d.closeFault id how).xlat } (d.closeFault id how) := by
  unfold Dev.closeFault
  dsimp only
  split
  · have h := Dev.trace_told { d with xlat := { d.xlat with faults := d.xlat.faults.map (fun x => if x.id = id then { x with isOpen := false } else x) } }
      3 0x0302 0x002 (fmk 0 16 id ||| fmk 16 4 how) 0 0
    unfold Dev.traceClose
    unfold Dev.Told at h ⊢
    rw [h]
  · rfl

/-- A posted completion: the ring, the message and the bytes in memory, and nothing else. -/
theorem Dev.postRing_posted (d : Dev) (m r : Nat) (tag : BitVec 32) (st : Status) (n : Nat) (v : Word) :
    d.Posted (d.postRing m r tag st n v) := by
  unfold Dev.postRing
  dsimp only
  split
  · exact .refl d
  · have hw := d.writeVa_posted m ((d.ring m r).cplBase + 16 * (d.ring m r).cplTail) (completionBytes tag st (d.ring m r).phase n v)
    have hr := fun x => hw.trans (Dev.setRing_told _ m r x).posted
    split
    · exact (hr _).trans (Dev.msix_told _ _).posted
    · exact hr _

/-- A completion: the ring, the message, the bytes in memory and the trace, and nothing else. -/
theorem Dev.complete_posted (d : Dev) (k : Token) (st : Status) (n : Nat) (v : Word) : d.Posted (d.complete k st n v) := by
  unfold Dev.complete
  dsimp only
  refine Dev.Posted.trans ?_ (Dev.trace_told _ _ _ _ _ _ _).posted
  split
  · split
    · exact (Dev.emit_told _ _).posted
    · exact (d.postRing_posted _ _ _ _ _ _).trans (Dev.emit_told _ _).posted
  · exact .refl d

/-- A rejection: its completion, and the free value of its RESULT. -/
theorem Dev.refuse_posted (d : Dev) (k : Token) (st : Status) (n : Nat) : d.Posted (d.refuse k st n) :=
  d.tickFree_told.posted.trans (d.tickFree.complete_posted k st n d.freeWord)

/-- The commands that wait, replaced. -/
theorem Dev.waits_told (d : Dev) (l : List Wait) : d.Told { d with ctl := { d.ctl with waits := l } } := rfl

/-- Commands that wait complete. -/
theorem Dev.finish_posted (d : Dev) (op o : Nat) (st : Status) (n : Nat) (v : Word) : d.Posted (d.finish op o st n v) := by
  have hf : ∀ (l : List Wait) (e : Dev),
      e.Posted (l.foldl (fun (d : Dev) (w : Wait) => d.complete w.tok (if w.late && decide (st = .ok) then .late else st) n v) e) := fun l e =>
    Dev.posted_foldl (fun (d : Dev) (w : Wait) => d.complete w.tok (if w.late && decide (st = .ok) then .late else st) n v)
      (fun d w => d.complete_posted w.tok _ n v) l e
  exact (d.waits_told (d.ctl.waits.filter (fun w => !(w.tok.opcode == op && w.obj == o)))).posted.trans (hf _ _)

/-- A posted completion keeps the canonical form of the stores. -/
theorem Dev.postRing_memOk (d : Dev) (m r : Nat) (tag : BitVec 32) (st : Status) (n : Nat) (v : Word) (h : d.memOk) :
    (d.postRing m r tag st n v).memOk := by
  unfold Dev.postRing
  dsimp only
  split
  · exact h
  · have hw := d.writeVa_memOk m ((d.ring m r).cplBase + 16 * (d.ring m r).cplTail) (completionBytes tag st (d.ring m r).phase n v) h
    have hr := fun x => Dev.memOk_of_mem hw (Dev.setRing_told _ m r x).mem
    split
    · exact Dev.memOk_of_mem (hr _) (Dev.msix_told _ _).mem
    · exact hr _

/-- A completion keeps the canonical form of the stores. -/
theorem Dev.complete_memOk (d : Dev) (k : Token) (st : Status) (n : Nat) (v : Word) (h : d.memOk) : (d.complete k st n v).memOk := by
  unfold Dev.complete
  dsimp only
  refine Dev.memOk_of_mem ?_ (Dev.trace_told _ _ _ _ _ _ _).mem
  split
  · split
    · exact h
    · exact d.postRing_memOk _ _ _ _ _ _ h
  · exact h

/-- A rejection keeps the canonical form of the stores. -/
theorem Dev.refuse_memOk (d : Dev) (k : Token) (st : Status) (n : Nat) (h : d.memOk) : (d.refuse k st n).memOk :=
  d.tickFree.complete_memOk k st n d.freeWord h

/-- What is told changes no clock, and so no time. -/
theorem Dev.Told.now {a b : Dev} (h : a.Told b) : b.now = a.now := by unfold Dev.Told at h; rw [h]; rfl
theorem Dev.Posted.now {a b : Dev} (h : a.Posted b) : b.now = a.now := by unfold Dev.Posted at h; rw [h]; rfl

/-- Either leaves the legs, and so on for every unit: the fields of what was posted. -/
theorem Dev.Posted.fields {a b : Dev} (h : a.Posted b) :
    b.clk = a.clk ∧ b.ptp = a.ptp ∧ b.xlat = a.xlat ∧ b.disp = a.disp ∧ b.dma = a.dma ∧ b.boot = a.boot ∧ b.pow = a.pow ∧ b.pair = a.pair ∧ b.legs = a.legs ∧
    b.lanes = a.lanes ∧ b.egress = a.egress ∧ b.flint = a.flint ∧ b.geode = a.geode ∧ b.mica = a.mica ∧ b.audio = a.audio ∧ b.render = a.render ∧ b.garnet = a.garnet := by
  unfold Dev.Posted at h; rw [h]; simp

/-- An event sets its bit and clears none. -/
theorem Dev.event_bit (d : Dev) (p b : Nat) (hb : b < 48) : ((d.event p b).page p).event.getLsbD b = true := by
  have hm : ∀ (x : Dev) v q, (x.msix v).page q = x.page q := by
    intro x v q; unfold Dev.msix; split
    · rfl
    · split <;> rfl
  unfold Dev.event
  dsimp only
  split
  · assumption
  · have hv : ((d.page p).event ||| BitVec.ofNat 48 (2 ^ b)).getLsbD b = true := by
      rw [BitVec.getLsbD_or, BitVec.getLsbD_ofNat, Nat.testBit_two_pow_self]; simp [hb]
    split
    · rw [Dev.page_setPage, if_pos rfl]; exact hv
    · rw [hm, Dev.page_setPage, if_pos rfl]; exact hv

end Sys2Proof.Machine
end

