-- ==== Sys2Proof/Tests/Slice0.lean ====
section
/-! SUPPORT. The model's own tests: ill-formed commands refused, the spec's worked words, and a state and operands that meet the
hypotheses of each clause of each statement. -/

namespace Sys2Proof.Machine
open Sys2Proof

/-! ### Small changes of a state -/

/-- Bytes placed in device memory. -/
def State.withBytes (s : State) (a : Nat) (b : List Byte) : State := s.onDev (fun d => d.dramWrites a b)

/-- A register's word. -/
def State.withReg (s : State) (p o : Nat) (v : Word) : State := s.onDev (fun d => d.setReg p o v)

/-- The clock at millisecond `n`, whose epoch boundary is the next to be acted on. -/
def State.atMs (s : State) (n : Nat) : State := s.onDev (fun d => { d with clk := { d.clk with
  sec := n / 1000, ns := n % 1000 * 1000000, nextEpoch := n, nextBlock := 3 * n + 1, nextTick := 1000 * n + 1 } })

/-- A page header changed. -/
def State.withHdr (s : State) (p : Nat) (f : PageHdr → PageHdr) : State := s.onDev (fun d => d.onPage p f)

/-- A leg placed. -/
def State.withLeg (s : State) (l : Nat) (x : Leg) : State := s.onDev (fun d => d.setLeg l x)

/-- The pair's state changed. -/
def State.withPair (s : State) (f : Pair → Pair) : State := s.onDev (fun d => { d with pair := f d.pair })

end Sys2Proof.Machine

/- One thread elaborates the tests: the evaluations of `decide` side by side would ask for more stacks than the check allows. -/
set_option Elab.async false

namespace Sys2Proof.Tests
open Sys2Proof Sys2Proof.Machine

/-! ### Helpers -/

/-- A number whose bytes at `e.1` hold `e.2`, bytes written from the least one up. -/
def pack (l : List (Nat × Nat)) : Nat := l.foldl (fun n e => n + e.2 * 2 ^ (8 * e.1)) 0

/-- A command with these ARGS, from a realm's ring 0. -/
def cmd (l : List (Nat × Nat)) (realm : Nat := 0) : HostCmd := ⟨realm, 0, 5, 0, 0, 0, 0, BitVec.ofNat 320 (pack l)⟩

/-- A descriptor of `n` bytes. -/
def desc (n : Nat) (l : List (Nat × Nat)) : List Byte := leBytes n (pack l)

/-- A unit that is SOLO and has just become READY. -/
def ready : State :=
  { aon := { auxOn := true, railsOn := true, resetHigh := true }
    dev := { ({ boot := { phase := .role }, pair := { role := .solo }, mem := { trained := true } } : Dev).becomeReady with
      clk := { nextEpoch := 0, nextBlock := 1, nextTick := 0 } } }

/-- The same with the first 32 MB of realm 0 mapped onto the first of device memory, PINNED. -/
def mapped : State := ready.onDev (fun d => { d with xlat := { d.xlat with leaves := [(0, ⟨true, true, false, 0, 0⟩)] } })

/-- A Bool that decides Accepts. -/
def accepts (o : OpSpec) (c : HostCmd) (s : State) : Bool :=
  s.ready && !s.dev.joined && decide (s.dev.datedPending < 8192) && (o.actsNow (o.token c s) s.dev).isSome && (o.judged c s).isNone

theorem accepts_of {o : OpSpec} {c : HostCmd} {s : State} (h : accepts o c s = true) : Accepts o c s := by
  simp only [accepts, Bool.and_eq_true, Option.isNone_iff_eq_none, Bool.not_eq_true', decide_eq_true_eq] at h
  exact ⟨h.1.1.1.1, h.1.1.1.2, fun _ => h.1.1.2, h.1.2, h.2⟩

/-- A picture to decode. -/
def decIn : DecIn :=
  { seq := ⟨.constrainedBaseline, 0, 8, 1, 1, false, false, false, false, false, false⟩
    seqStart := true
    header := 0
    gap := false
    keep := []
    layers := [⟨0, 0, 64, 64, 64, true, false, [⟨.slice, true, [0], 10, 10, 1, none, none, none, none⟩], [none], [], 0, [], []⟩] }

/-! ### Ill-formed commands -/

/-- A command from a realm that does not exist. -/
def badCmd : HostCmd := cmd [] 64

/-- A Mirror Link header. -/
def hdr : LinkHdr := ⟨0, 0, 0, true⟩

/-- One whose SEQ has more than 32 bits. -/
def badHdr : LinkHdr := ⟨4294967296, 0, 0, true⟩

/-- A ring pair that realm 1 has not, an ACK and an EPOCH of more than 32 bits. -/
theorem test_wf_parts : (cmd [] 1).wf = true ∧ ({ cmd [] 1 with ring := 1 } : HostCmd).wf = false ∧ ({ cmd [] with ring := 4 } : HostCmd).wf = false ∧
    ({ hdr with ack := 4294967296 } : LinkHdr).wf = false ∧ ({ hdr with epoch := 4294967296 } : LinkHdr).wf = false ∧ hdr.wf = true := by decide +kernel

/-- Ill-formed commands, one for each operand that a check holds (part 1). -/
theorem test_wf_1 : [.registerWrite 204 0 8 0, .registerWrite 0 4096 8 0, .registerWrite 0 0 0 0, .splitWrite 204 0 0, .splitWrite 0 4096 0, .splitRead 204 0 4,
  .splitRead 0 4096 4, .splitRead 0 0 3, .pageErrRead 202 .whole, .shadowWrite 202 0 0, .shadowWrite 0 2048 0, .pageEnable 202, .pageIsolate 202 false,
  .pageReset 202, .snapshot 202, .snapshotLatch 202, .snapRelease 202, .pageEventClear 202 0, .pageEventMaskWrite 202 0,
  .pageCommitWrite 202 0, .bar4Access 4294967296 (.read 1), .ringCtrlWrite 64 0 0, .ringCtrlWrite 0 4 0, .cmdTailWrite 64 0 0, .cmdTailWrite 0 4 0,
  .cplHeadWrite 64 0 0, .cplHeadWrite 0 4 0, .commandFetch 64 0, .commandFetch 0 4, .coalesceTimeout 64 0, .coalesceTimeout 0 4,
  .nop badCmd, .commitGroup badCmd, .commitGroupApply 16 0, .commitGroupApply 0 202, .cancelCommit badCmd, .pictureTick 256,
  .acceptStep badCmd, .globalSnapshot badCmd, .legOpen badCmd, .legStart badCmd, .legHold badCmd, .legResume badCmd].all (fun i : Instr => !i.wf) = true := by decide +kernel

/-- Ill-formed commands, one for each operand that a check holds (part 2). -/
theorem test_wf_2 : [.legHold badCmd, .legResume badCmd, .legClose badCmd, .legDrainEnd 4096, .legRelease badCmd, .legUpdate badCmd,
  .streamAdd badCmd, .streamRemove badCmd, .subscribe badCmd, .unsubscribe badCmd, .subscribeSet badCmd, .legQuery badCmd,
  .consentRequest 4096 [] 0, .consentExpired 4096, .frameReceive 8 0 [] 0, .videoWaitExpiry 4096 0, .videoWaitExpiry 0 256, .nackSend 4096 0,
  .nackSend 0 256, .feedbackLost 4096, .layerSuspend 256 0 0, .layerSuspend 0 4 0, .layerSuspend 0 0 3, .pliSend 4096 0,
  .pliSend 0 256, .repairEscalated 4096 0, .repairEscalated 0 256, .rtcpSend 4096, .feedbackSend 4096, .encStreamOpen badCmd,
  .encStreamClose badCmd, .encStreamUpdate badCmd, .encRefresh badCmd, .encQuery badCmd, .encSubmit badCmd, .encJobStart 2048,
  .encJobDone 2048, .geodePreempt 32 0 0, .geodePreempt 0 3 0, .geodePreempt 0 0 512, .decStreamOpen badCmd, .decStreamClose badCmd, .decQuery badCmd].all (fun i : Instr => !i.wf) = true := by decide +kernel

/-- Ill-formed commands, one for each operand that a check holds (part 3). -/
theorem test_wf_3 : [.decStreamClose badCmd, .decQuery badCmd, .decSubmit badCmd, .decJobStart 4096, .decJobDone 4096 decIn, .geodeTwin badCmd,
  .geodeUntwin badCmd, .geodeSwap badCmd, .geodeSwapMove 32, .geodeLinkError 17 0, .layoutOpen badCmd, .layoutStart badCmd,
  .layoutStop badCmd, .layoutClose badCmd, .layerLoad badCmd, .layoutFlip badCmd, .layerBypass badCmd, .stillLoad badCmd,
  .layoutQuery badCmd, .sourceLate 256 0, .sourceLate 0 64, .micaPictureDone 256, .legAudioSet badCmd, .confAudioSet badCmd,
  .hrtfLoad badCmd, .routeSet badCmd, .routeClear badCmd, .routeQuery badCmd, .netRxOpen badCmd, .netRxClose badCmd,
  .netTxOpen badCmd, .netTxClose badCmd, .netAudioReceive 8 0 [], .jbForceStep 4096 0, .jbForceStep 0 256, .plcMute 4096 0,
  .plcMute 0 256, .tdmCfgWrite 32 0, .tdmFrame 32 0 0 [], .tdmLock 32, .lockLost 32, .spkLayoutLoad badCmd].all (fun i : Instr => !i.wf) = true := by decide +kernel

/-- Ill-formed commands, one for each operand that a check holds (part 4). -/
theorem test_wf_4 : [.lockLost 32, .spkLayoutLoad badCmd, .spkLayoutLoaded 2, .spkLayoutSelect badCmd, .renderStart badCmd, .renderStop badCmd,
  .objSet badCmd, .spkSet badCmd, .firLoad badCmd, .hoaSet badCmd, .renderQuery badCmd, .garnetLoad badCmd,
  .garnetUnload badCmd, .insertOpen badCmd, .insertClose badCmd, .insertParam badCmd, .insertCoef badCmd, .insertBypass badCmd,
  .insertReset badCmd, .insertQuery badCmd, .garnetSwap badCmd, .garnetSwapSwitch 32, .eccFatal 33, .garnetFaultMove 32,
  .taskStart badCmd, .taskStop badCmd, .insertCall 256, .insertBudgetExpiry 256, .bundleIssue 32 0 0, .bundleIssue 0 16 0, .bundleIssue 0 0 3,
  .dispGetReturn 32 0, .dispGetReturn 0 16, .xferDone 32 0, .xferDone 0 16, .timerInterrupt 32 0, .timerInterrupt 0 16,
  .interruptEntry 32 0, .interruptEntry 0 16, .queueAssign badCmd, .queueSet badCmd, .queueQuery badCmd, .queueFlush badCmd].all (fun i : Instr => !i.wf) = true := by decide +kernel

/-- Ill-formed commands, one for each operand that a check holds (part 5). -/
theorem test_wf_5 : [.queueQuery badCmd, .queueFlush badCmd, .gateListSet badCmd, .gateListCancel badCmd, .hostSend badCmd, .gateSwitched 8,
  .gateEntryStart 8, .transmitOpportunity 8, .pacerEligible 8200, .queueSample 8, .keyslotAssign badCmd, .keyQuery badCmd,
  .flintRelease badCmd, .keyWrite 64, .zeroize 64, .cancelPending 64, .keyCmdConfirm 64, .keyCmdTimeout 64,
  .keyRegisterWrite 64 0 0, .keyRegisterWrite 0 4096 0, .flintPipeMove 16, .pipeFault 16, .signalDetect 40, .signalLoss 40,
  .cdrLock 40, .cdrTimeout 40, .commaDetect 40 0 false, .commaTimeout 40, .deskewDone 9 [], .deskewTimeout 9,
  .tryRetry 40, .noPartnerRetry 40, .syncLoss 40, .skewLoss 9, .laneRetrain badCmd, .portQuery badCmd,
  .laneCfgWrite 40 0, .errInject 40, .prbsLock 40 [], .prbsLockLost 40 [], .elasticAdjust 9, .remoteFault 8].all (fun i : Instr => !i.wf) = true := by decide +kernel

/-- Ill-formed commands, one for each operand that a check holds (part 6). -/
theorem test_wf_6 : [.elasticAdjust 9, .remoteFault 8, .remoteFaultClear 8, .portCfgWrite 8 0, .hello badHdr ⟨1, 2, 0, 0, true, 3⟩, .ack badHdr,
  .manifest badHdr [], .manifestAck badHdr 0, .log badHdr [], .digest badHdr 0 [], .resyncDone 4096, .relayReq badHdr [],
  .relayData badHdr 0 none, .command badHdr ⟨cmd [], 1, 0, []⟩, .command hdr ⟨badCmd, 1, 0, []⟩, .regWrite badHdr 0 0 0, .regWrite hdr 138 0 0, .regWrite hdr 0 4096 0,
  .key badHdr 0 0 [], .state badHdr 0 0 [], .surrender badHdr 0, .takeover badHdr 0, .image badHdr 0 0 0 [], .pairSurrender badCmd,
  .pairYield badCmd, .pairJoin badCmd, .legResync badCmd, .pairQuery badCmd, .xlatMap badCmd, .xlatUnmap badCmd,
  .xlatProtect badCmd, .xlatQuery badCmd, .faultResume badCmd, .faultAbort badCmd, .domainSet badCmd, .dispSubmit badCmd,
  .dispQuery badCmd, .dispFlush badCmd, .chEnable 32 0, .chResume 32, .chSkip 32, .chStop 32].all (fun i : Instr => !i.wf) = true := by decide +kernel

/-- Ill-formed commands, one for each operand that a check holds (part 7). -/
theorem test_wf_7 : [.chSkip 32, .chStop 32, .chTailWrite 32 0, .dmaDescriptorStart 8 false none, .dmaWaitExpiry 32, .dmaDescriptorEnd 32,
  .eccMapWrite 2 0, .sliceCfgWrite 16 0, .updateBegin badCmd, .updateData badCmd, .updateFinish badCmd, .updateAbort badCmd,
  .updateActivate badCmd, .updateConfirm badCmd, .updateRevert badCmd, .updateLock badCmd, .settingsWrite badCmd, .settingsRead badCmd,
  .errorReport ⟨4096, 0, 0, 0, 0⟩, .unitIsolate badCmd, .bistRun badCmd, .freezeNow badCmd, .deviceTest badCmd, .selfTestDone 202,
  .engineFault 34, .micaInternalFault 2, .pmaFault 10, .channelFailure 16 0, .channelFailure 0 4, .tempHigh 16 0].all (fun i : Instr => !i.wf) = true := by decide +kernel


/-! ### Pages, registers and rings -/

theorem wit_StepRunsFront : ({ ready with pending := [.idcode, .bypass] } : State).pending = .idcode :: [.bypass] := by decide +kernel

theorem wit_EmptyQueueIdles : ready.pending = [] := by decide +kernel

/-- The page and the register of the statements over register writes: DEVICE, FREEZE_CFG, at its lowest and highest block offset here. -/
theorem wit_RegisterWriteStores : Reaches ready pgDevice ∧ ready.dev.pair.role = .solo ∧ pageType pgDevice = some .device ∧
    (PType.device.regAt 0x060).any (fun g => !g.rws) = true ∧ ready.pageState pgDevice ≠ .isolated ∧ ready.pageState pgDevice ≠ .testing := by
  unfold Reaches; decide +kernel

/-- REGISTER_WRITE: a word in range is stored; a range-limited field goes to its limit and is counted. -/
theorem test_registerWrite :
    (match exec (.registerWrite pgDevice 0x060 8 1) ready with | .next u => decide (u.dev.reg pgDevice 0x060 = 1) | _ => false) = true := by decide +kernel

theorem wit_BadAccessCounted : Reaches ready pgPair ∧ ((2 : Nat) = 1 ∨ 2 = 2 ∨ 0x050 % 2 ≠ 0) ∧ (0x051 % 8 ≠ 0) := by unfold Reaches; decide +kernel

/-- A register of a page that both halves of a split access reach, with nothing held, a half of it held, and another's half held. -/
theorem wit_SplitWritePairsHalves : ready.up = true ∧ ready.answers pgDevice = true ∧ pgDevice < 202 ∧ 0x060 % 8 = 0 ∧ 0x060 < 0x800 ∧ regHere pgDevice 0x060 = true ∧
    (ready.dev.page pgDevice).wbuf = none ∧
    ((ready.withHdr pgDevice (fun h => { h with wbuf := some (0x060, 1) })).dev.page pgDevice).wbuf = some (0x060, 1) ∧
    ((ready.withHdr pgDevice (fun h => { h with wbuf := some (0x068, 1) })).dev.page pgDevice).wbuf = some (0x068, 1) := by decide +kernel

/-- SPLIT_WRITE: a low and then a high half write the whole register. -/
theorem test_splitWrite :
    (match exec (.splitWrite pgDevice 0x064 0) (ready.withHdr pgDevice (fun h => { h with wbuf := some (0x060, 1) })) with
      | .next u => decide (u.dev.reg pgDevice 0x060 = 1) && decide ((u.dev.page pgDevice).wbuf = none) | _ => false) = true := by decide +kernel

theorem wit_SplitReadLatches : regHere pgQuartz 0x050 = true ∧ ready.answers pgQuartz = true ∧ pgQuartz ≠ pgPcie ∧
    ((ready.withHdr pgQuartz (fun h => { h with latch := some (0x050, 7) })).dev.page pgQuartz).latch = some (0x050, 7) ∧
    (∀ hi, (ready.dev.page pgQuartz).latch ≠ some (0x050, hi)) := by
  refine ⟨by decide +kernel, by decide +kernel, by decide +kernel, by decide +kernel, fun hi h => ?_⟩
  have e : (ready.dev.page pgQuartz).latch = none := by decide +kernel
  rw [e] at h; cases h

theorem wit_ReadToClear : ready.up = true ∧ ready.answers 201 = true ∧ 201 < 202 ∧
    ((ready.withHdr 201 (fun h => { h with latch := some (0x038, 7) })).dev.page 201).latch = some (0x038, 7) := by decide +kernel

/-- PAGE_ERR_READ gives the count and clears it. -/
theorem test_pageErrRead : (match exec (.pageErrRead pgDevice .whole) (ready.withHdr pgDevice (fun h => { h with errCount := 3, errLast := 2 })) with
    | .next u => decide ((u.dev.page pgDevice).errCount = 0) && decide ((u.dev.page pgDevice).errLast = 0) && !u.dev.ctl.out.isEmpty | _ => false) = true := by decide +kernel

/-- SHADOW_WRITE: an RWS register with its page unlocked and locked, and one that is not RWS. -/
theorem wit_ShadowWrite : Reaches ready pgLegs ∧ ready.dev.pair.role = .solo ∧ pageType pgLegs = some .legs ∧
    (PType.legs.regAt 0x110).any (fun g => g.rws) = true ∧ (PType.legs.regAt 0x058).any (fun g => !g.rws) = true ∧
    ready.pageState pgLegs ≠ .isolated ∧ ready.pageState pgLegs ≠ .testing ∧ (ready.dev.page pgLegs).locked = false ∧
    ((ready.withHdr pgLegs (fun h => { h with locked := true })).dev.page pgLegs).locked = true := by unfold Reaches; decide +kernel

/-- Pages with a state of each clause: OFF, INIT and READY Geodes, a QUARTZ page that is none of the four types. -/
theorem wit_PageStateCommands : Reaches ready (pgGeode 0) ∧ pageType (pgGeode 0) = some .geode ∧ PType.geode.gated = true ∧ PType.geode.caps.isolate = true ∧
    (ready.dev.page (pgGeode 0)).state = .off ∧ ((ready.withHdr (pgGeode 0) (fun h => { h with state := .init })).dev.page (pgGeode 0)).state = .init ∧
    (ready.withHdr (pgGeode 0) (fun h => { h with state := .isolated })).pageState (pgGeode 0) = .isolated ∧
    Reaches ready pgQuartz ∧ pageType pgQuartz = some .quartz ∧ PType.quartz.gated = false ∧ PType.quartz.caps.isolate = false ∧
    (ready.dev.page pgQuartz).enable = false ∧ (ready.dev.page pgQuartz).isolate = false := by unfold Reaches; decide +kernel

/-- A Mica page: no ISOLATE, yet gated. -/
theorem test_pageEnable : (match exec (.pageEnable (pgMica 0)) ready with | .next u => decide ((u.dev.page (pgMica 0)).state = .init) | _ => false) = true := by
  decide +kernel

theorem wit_Snapshots : Reaches ready pgXlat ∧ pageType pgXlat = some .xlat ∧ PType.xlat.caps.counters = true ∧ (ready.dev.page pgXlat).snapDue = none ∧
    (ready.dev.page pgXlat).enable = (PType.xlat.gated && decide ((ready.dev.page pgXlat).state ≠ .off)) ∧ (ready.dev.page pgXlat).isolate = false ∧
    PType.directory.caps.counters = false ∧ Reaches ready 0 ∧ pageType 0 = some .directory ∧
    ((ready.withHdr pgXlat (fun h => { h with snapDue := some 0 })).dev.page pgXlat).snapDue = some 0 ∧ pgXlat ≠ pgPcie ∧ 0 ≤ ready.dev.now := by
  unfold Reaches; decide +kernel

theorem wit_PageEvents : Reaches ready pgLegs ∧ fld 0xFFFF 48 16 = 0 ∧ fld 0x05000000000000FE 56 8 = 5 ∧ fld 0x00050000000000FE 56 8 = 0 ∧ ready.dev.ctl.msixOn = true := by
  unfold Reaches; decide +kernel

/-- PAGE_EVENT_MASK_WRITE: an event already set sends its message when its mask bit falls. -/
theorem test_unmask : (match exec (.pageEventMaskWrite pgLegs 0x00050000000000FE) (ready.withHdr pgLegs (fun h => { h with event := 1 })) with
    | .next u => u.dev.ctl.out.contains (.msix 5) | _ => false) = true := by decide +kernel

theorem wit_EventMessages : (47 : Nat) < 48 ∧ ready.dev.ctl.msixOn = true ∧ (ready.dev.page pgLegs).event.getLsbD 47 = false ∧
    ((ready.withHdr pgLegs (fun h => { h with event := 1 })).dev.page pgLegs).event.getLsbD 0 = true := by decide +kernel

/-- MIX bound to group 3 and armed, and the group pending for instant 0, at 1 ms. -/
def grouped : State := ((ready.atMs 1).withHdr pgMix (fun h => { h with group := 3, bound := true, arm := true, locked := true })).onDev
  (fun d => { d with ctl := { d.ctl with groups := [(3, ⟨⟨cmd [], 0x0001, 0, 0, true⟩, 0, false, [pgMix], 0, 0⟩)] } })

theorem wit_CommitGroups : Reaches ready pgMix ∧ fld 0x3F 7 57 = 0 ∧ (ready.dev.page pgMix).locked = false ∧ bit 0x3F 6 = false ∧
    (grouped.dev.page pgMix).locked = true ∧ fld 0x44 7 57 = 0 ∧ bit 0x44 6 = true ∧ fld 0x44 0 4 ≠ (grouped.dev.page pgMix).group ∧
    Accepts commitGroupSpec (cmd [(0, 15)]) ready ∧ Accepts cancelCommitSpec (cmd [(0, 3)]) grouped ∧ (grouped.dev.group 3).isSome = true := by
  refine ⟨by unfold Reaches; decide +kernel, by decide +kernel, by decide +kernel, by decide +kernel, by decide +kernel, by decide +kernel, by decide +kernel,
    by decide +kernel, accepts_of (by decide +kernel), accepts_of (by decide +kernel), by decide +kernel⟩

theorem wit_CommitApplies : grouped.ready = true ∧ pgMix < 138 ∧ ((grouped.dev.group 3).any (fun x => x.pages.contains pgMix &&
    decide (grouped.dev.commitActs x pgMix ≤ grouped.dev.now) && grouped.dev.commitTurn 3 (grouped.dev.commitAt x pgMix))) = true := by decide +kernel

/-- COMMIT_GROUP_APPLY: the page leaves LOCKED and ARM, and its shadow is live. -/
theorem test_commitGroupApply : (match exec (.commitGroupApply 3 pgMix) (grouped.onDev (fun d => d.setShadow pgMix 0x110 0x1E)) with
    | .next u => !(u.dev.page pgMix).locked && !(u.dev.page pgMix).arm && decide ((u.dev.page pgMix).commitGen = 1) && decide (u.dev.reg pgMix 0x110 = 0x1E)
    | _ => false) = true := by decide +kernel

theorem wit_Bar4Window : Reaches ready pgPcie ∧ ready.pageState pgPcie ≠ .isolated ∧ ready.pageState pgPcie ≠ .testing ∧ fld 0x1E80000000 16 21 * 65536 = 0x1E80000000 ∧
    0x1E80000000 < fld 0x1E80010000 16 21 * 65536 ∧ 4294967295 + [(7 : Byte)].length ≤ 4294967296 := by unfold Reaches; decide +kernel

/-- BAR4_ACCESS: a byte written at the window's end is there in device memory. -/
theorem test_bar4 : (match exec (.bar4Access 4294967295 (.write [7])) ready with | .next u => decide (memRead u.dev.mem.dram 4294967295 = 7) | _ => false) = true := by
  decide +kernel

theorem wit_HostInterfaceResets : ready.up = true ∧ (3 : Nat) ∈ [1, 2, 3] ∧ (8 : Nat) ∈ [1, 2, 4, 8] := by decide +kernel

/-- A ring of realm 0 with 16 entries, enabled, a command of opcode `op` at its head. -/
def ringed (op : Nat) (flags : Nat := 0) : State := (mapped.atMs 1).withBytes 4096 (desc 64 [(0, op), (2, flags), (4, 9)]) |>.onDev (fun d =>
  d.setRing 0 0 { cmdBase := 4096, cplBase := 8192, cmdTail := 1, enable := true })

theorem wit_RingRegisters : Reaches ready (pgRealm 0) ∧ ready.dev.boot.phase = .ready ∧ ringThere 0 3 = true ∧ ringThere 0 4 = false ∧ bit 0 0 = false ∧
    bit 0x31 0 = true ∧ (ready.dev.ring 0 3).enable = false ∧ fld 0x31 2 4 = 12 ∧ ((ringed 0).dev.ring 0 0).enable = true := by unfold Reaches; decide +kernel

/-- CMD_TAIL_WRITE: a ring of 16 holds at most 15 commands. -/
theorem test_cmdTail : (match exec (.cmdTailWrite 0 0 15) (ringed 0), exec (.cmdTailWrite 0 0 16) (ringed 0) with
    | .next u, .next v => !(u.dev.ring 0 0).error && (v.dev.ring 0 0).error | _, _ => false) = true := by decide +kernel

/-- COMMAND_FETCH: an empty ring, an undefined opcode, and a fence with a completion outstanding. -/
theorem wit_CommandFetch : (ringed 0x00FF).ready = true ∧ mapped.dev.fetchable 0 0 = false ∧ (ringed 0x00FF).dev.fetchable 0 0 = true ∧
    (captureVa (ringed 0x00FF).dev 0 4096 64).isSome = true ∧ (cmdOf 0 0 (desc 64 [(0, 0x00FF), (4, 9)])).fence = false ∧ opSpec 0x00FF = none ∧
    (cmdOf 0 0 (desc 64 [(2, 2)])).fence = true ∧
    0 < (((ringed 0 2).onDev (fun d => d.setRing 0 0 { d.ring 0 0 with reserved := 1 })).dev.ring 0 0).reserved := by decide +kernel

/-- COMMAND_FETCH: BAD_OPCODE, with the head moved on. -/
theorem test_commandFetch : (match exec (.commandFetch 0 0) (ringed 0x00FF) with
    | .next u => decide ((u.dev.ring 0 0).cmdHead = 1) && u.dev.ctl.out.any (fun o => match o with | .completion 9 .badOpcode 0 _ => true | _ => false) | _ => false) = true := by decide +kernel

/-- A command accepted, due now. -/
def accepted : State := (ready.atMs 1).onDev (fun d => { d with ctl := { d.ctl with accepted := [⟨⟨cmd [], 0x0000, 0, 0, true⟩, msT, false, []⟩] } })

theorem wit_CommandEffectAndCoalesce : accepted.ready = true ∧ (accepted.dev.dueNext accepted.dev.now).any (fun a => (opSpec a.tok.opcode).isSome &&
      decide (a.due < blockAt accepted.dev.clk.nextBlock) && decide (a.due ≤ accepted.dev.clk.nextEpoch * msT)) = true ∧ ready.dev.dueNext ready.dev.now = none ∧
    (let s := (ready.atMs 1).onDev (fun d => d.setRing 0 0 { unsig := 1, coalUs := 5, coalN := 9 })
     (s.dev.ring 0 0).unsig ≠ 0 ∧ (s.dev.ring 0 0).coalUs ≠ 0 ∧ (s.dev.ring 0 0).unsigAt + (s.dev.ring 0 0).coalUs * usT ≤ s.dev.now) := by decide +kernel

/-- The gates of the general clauses, open and closed: the unit runs and is READY, or stands in reset. -/
theorem wit_Gates : ready.up = true ∧ ready.ready = true ∧ ready.resetLow.up = false ∧ ready.resetLow.ready = false ∧ ready.tapOn = true ∧
    (ready.onAon (fun a => { a with auxOn := false })).tapOn = false := by
  decide +kernel

/-- A block register of a page that is isolated, and one that is under test. -/
theorem wit_BlockedPage : (ready.withHdr (pgGeode 0) (fun h => { h with state := .isolated })).pageState (pgGeode 0) = .isolated ∧
    (ready.withHdr (pgGeode 0) (fun h => { h with state := .testing })).pageState (pgGeode 0) = .testing ∧ (PType.geode.regAt 0x048).isSome = true ∧ PType.geode ≠ .quad := by
  decide +kernel

/-- A narrow read, a misaligned one and a misaligned write. -/
theorem test_splitRead_bad : (match exec (.splitRead pgDevice 0x048 2) ready, exec (.splitRead pgDevice 0x04C 8) ready with
    | .next u, .next v => decide ((u.dev.page pgDevice).errLast = 2) && decide ((v.dev.page pgDevice).errLast = 2) && u.dev.ctl.out.contains (.readData 0) | _, _ => false) = true := by
  decide +kernel

/-- A message whose vector is masked waits in the pending-bit array; with MSI-X off there is none. -/
theorem wit_MaskedVector : (let d := (ready.onDev (fun d => { d with ctl := { d.ctl with msixOn := false } })).dev
    d.ctl.msixOn = false ∧ d.msixLive (d.page pgLegs).vector = false) ∧
    (let d := ((ready.withHdr pgLegs (fun h => { h with mask := 0 })).onDev (fun d => { d with ctl := { d.ctl with msixTab := [(1, fmk 32 1 1)] } })).dev
     d.ctl.msixOn = true ∧ d.msixMasked (d.page pgLegs).vector = true ∧ (d.page pgLegs).mask.getLsbD 0 = false) := by decide +kernel

/-- A command of a defined opcode, and a ring whose memory no page maps. -/
theorem wit_CommandFetch_more : (opSpec 0x0000).isSome = true ∧ ((ringed 0).dev.ring 0 0).reserved = 0 ∧
    (let s := (ready.atMs 1).onDev (fun d => d.setRing 0 0 { cmdBase := 4096, cplBase := 8192, cmdTail := 1, enable := true })
     s.dev.fetchable 0 0 = true ∧ captureVa s.dev 0 4096 64 = none) := by decide +kernel

/-- A command that fails a check, one that finds 8,192 DATED commands pending, and one that is held for a later boundary. -/
theorem wit_CommandsTaken : (nopSpec.judged ({ cmd [] with flags := 4 } : HostCmd) ready).isSome = true ∧
    (let s := ready.onDev (fun d => { d with ctl := { d.ctl with accepted := List.replicate 8192 ⟨⟨{ cmd [] with flags := 1 }, 0, 0, 0, true⟩, secT, false, []⟩ } })
     8192 ≤ s.dev.datedPending ∧ nopSpec.judged ({ cmd [] with flags := 1 } : HostCmd) s = none) ∧
    (let s := (ready.atMs 1).onDev (fun d => { d with clk := { d.clk with ns := 1000001 } })
     acceptStepSpec.actsNow (acceptStepSpec.token (cmd []) s) s.dev = none ∧ s.dev.joined = false) := by decide +kernel

/-! ### Media time -/

/-- A header of the profile that a PTP_CFG of 1 takes. -/
def ptpHdr : PtpHdr := ⟨0, 2, 0, 0, 7, 1, 3, false, -3, 0, 1, 0x0A0B0C0D0E0F, [10, 0, 0, 1], false⟩

/-- An Announce with it. -/
def announce : AnnounceMsg := ⟨{ ptpHdr with logInterval := -2 }, 0, 7, 128, 6, 0x21, 0, 128, 0, 37, true, false, false, 0, 0⟩

/-- PTP on, its state changed by `f`, at 1 s. -/
def ptpOnWith (f : Ptp → Ptp) : State := ((ready.atMs 1000).withReg pgQuartz 0x068 1).onDev (fun d => { d with ptp := f d.ptp })

/-- The master of `ptpHdr` selected and synchronised. -/
def synced : State := ptpOnWith (fun p => { p with
  servo := .locked, master := some (7, 1), exch := some 5, twoStep := some (3, 9, 0), reqSeq := 3, t3 := some 4, lastSync := some 0, nextReq := some 0, foreign := [⟨7, 1, announce, [0]⟩] })

theorem wit_TickAddsIncr : ready.up = true ∧ ready.dev.clk.sec < 2 ^ 48 ∧ ready.dev.clk.ns < 1000000000 ∧ ready.dev.clk.frac < 65536 ∧ ready.dev.clk.sub < 65536 := by
  decide +kernel

/-- QUARTZ_TICK: at the nominal increment a tick is 1 ns, and nanoseconds carry into seconds. -/
theorem test_quartzTick : (match exec (.quartzTick 3) (ready.onDev (fun d => { d with clk := { d.clk with ns := 999999998 } })) with
    | .next u => decide (u.dev.clk.sec = 1) && decide (u.dev.clk.ns = 1) | _ => false) = true := by decide +kernel

theorem wit_NowReads : ready.ready = true ∧ 2 ^ 48 * secT - 1 < 2 ^ 48 * secT := by decide +kernel

theorem wit_PtpOffsets : synced.ready = true ∧ synced.dev.takesPtp ptpHdr (some (-7, 1)) ∧ synced.dev.takesPtp { ptpHdr with logInterval := 1, twoStep := true } (some (-7, 1)) ∧
    synced.dev.takesPtp ptpHdr none ∧ synced.dev.fromMaster ptpHdr = true ∧ synced.dev.ptp.exch = some 5 ∧ synced.dev.ptp.twoStep = some (ptpHdr.seq, 9, 0) ∧
    synced.dev.ptp.reqSeq = ptpHdr.seq ∧ synced.dev.ptp.t3 = some 4 := by unfold Dev.takesPtp; decide +kernel

/-- DELAY_RESP completes the exchange: sm is t4 - t3 - correction. -/
theorem test_delayResp : (match exec (.delayResp ⟨ptpHdr, 10, true⟩) synced with | .next u => decide (u.dev.ptp.exch = some (6 - synced.dev.boardDelay true)) | _ => false) = true := by
  decide +kernel

theorem wit_PtpDrops : synced.ready = true ∧ synced.dev.ptp.evq.length < 16512 ∧ ({ ptpHdr with held := true } : PtpHdr).held = true ∧
    synced.dev.ptpOk { ptpHdr with held := true } none = true ∧ synced.dev.ptpOn = true ∧ synced.dev.ptpOk { announce.h with logInterval := -4 } (some (-3, 4)) = false ∧
    ready.dev.ptpOn = false ∧ synced.dev.takesPtp { announce.h with logInterval := 4 } (some (-3, 4)) := by unfold Dev.takesPtp; decide +kernel

theorem wit_DelayReqSent : synced.ready = true ∧ synced.dev.ptpOn = true ∧ synced.dev.ptp.master.isSome = true ∧ synced.dev.ptp.nextReq = some 0 ∧ 0 ≤ synced.dev.now := by
  decide +kernel

theorem wit_HoldoverEntered : synced.ready = true ∧ synced.dev.ptp.servo = .locked ∧ synced.dev.ptp.lastSync = some 0 ∧
    (let s := (synced.withReg pgQuartz 0x088 0).onDev (fun d => { d with ptp := { d.ptp with syncLog := -3 } })
     0 + fld (s.dev.reg pgQuartz 0x088) 32 8 * pow2Sec s.dev.ptp.syncLog ≤ s.dev.now) ∧
    synced.dev.ptp.master = some ((⟨7, 1, announce, [0]⟩ : Foreign).id, 1) ∧ synced.dev.ptp.foreign = [⟨7, 1, announce, [0]⟩] ∧
    0 + 3 * pow2Sec announce.h.logInterval ≤ synced.dev.now := by decide +kernel

theorem wit_PtpCfgWritten : Reaches ready pgQuartz ∧ Reaches synced pgQuartz ∧ synced.dev.boot.phase = .ready ∧ synced.dev.pair.role = .solo ∧
    synced.pageState pgQuartz ≠ .isolated ∧ synced.pageState pgQuartz ≠ .testing ∧ ready.pageState pgQuartz ≠ .isolated ∧ ready.dev.ptpOn = false ∧ bit 1 0 = true ∧
    synced.dev.ptpOn = true ∧ synced.dev.ptp.servo ≠ .freerun := by unfold Reaches; decide +kernel

/-- The first filtered offset, one inside LOCK_THRESH at its edge, one outside, and one beyond STEP_LIMIT. -/
theorem wit_ServoTransitions : ready.dev.pair.role ≠ .secondary ∧ ready.dev.ptp.servo = .freerun ∧ ready.dev.ptp.step = none ∧
    (let d := (ptpOnWith (fun p => { p with servo := .acquiring, inThr := 200, outStep := 200 })).dev
     let thr : Int := (fld (d.reg pgQuartz 0x088) 0 16 * nsT : Nat)
     d.ptp.servo = .acquiring ∧ -thr ≤ thr ∧ -d.stepLimit ≤ thr ∧ thr ≤ d.stepLimit ∧ max 1 (fld (d.reg pgQuartz 0x088) 16 8) ≤ d.ptp.inThr + 1 ∧
       d.stepLimit < d.stepLimit + 1 ∧ max 1 (fld (d.reg pgQuartz 0x088) 24 8) ≤ d.ptp.outStep + 1) ∧
    (let d := (ptpOnWith (fun p => { p with servo := .locked, outThr := 200 })).dev
     let thr : Int := (fld (d.reg pgQuartz 0x088) 0 16 * nsT : Nat)
     d.ptp.servo = .locked ∧ thr < thr + 1 ∧ thr + 1 ≤ d.stepLimit ∧ max 1 (fld (d.reg pgQuartz 0x088) 16 8) ≤ d.ptp.outThr + 1) := by decide +kernel

/-- A step of a microsecond asked for, its epoch boundary acted on. -/
def stepping : State := (ptpOnWith (fun p => { p with step := some ⟨usT, 1000⟩ })).onDev (fun d => { d with clk := { d.clk with nextEpoch := 1001 } })

/-- A step of a microsecond asked for, and the offset of a refused step, recent and not. -/
theorem wit_StepsApply : (let s := stepping
     s.ready = true ∧ s.dev.ptp.step = some ⟨usT, 1000⟩ ∧ s.dev.boundaryDone (1000 * msT) = true ∧ (ptpOnWith (fun p => { p with step := some ⟨usT, 1000⟩ })).dev.boundaryDone (1000 * msT) = false ∧ stepped usT s.dev.now < 2 ^ 48 * secT) ∧
    Accepts acceptStepSpec (cmd []) (ptpOnWith (fun p => { p with servo := .stepRefused, offAt := some (900 * msT), lastGm := some 0 })) ∧
    (let s := ptpOnWith (fun p => { p with servo := .stepRefused, offAt := some (900 * msT), lastGm := some 0 })
     effectEpoch s.dev * msT < 900 * msT + secT ∧ s.dev.ptp.lastGm = some s.dev.ptp.offGm) ∧
    Accepts acceptStepSpec (cmd []) (ptpOnWith (fun p => { p with servo := .stepRefused })) :=
  ⟨by decide +kernel, accepts_of (by decide +kernel), by decide +kernel, accepts_of (by decide +kernel)⟩

/-- STEP_APPLY: the clock jumps back by the offset. -/
theorem test_stepApply : (match exec .stepApply stepping with
    | .next u => decide (u.dev.now = secT - usT) && decide (u.dev.ptp.servo = .acquiring) | _ => false) = true := by decide +kernel

theorem wit_GlobalSnapshot : Accepts globalSnapshotSpec (cmd []) ready ∧ Accepts nopSpec (cmd []) ready := ⟨accepts_of (by decide +kernel), accepts_of (by decide +kernel)⟩

theorem wit_RefclkFallback : ready.up = true ∧ ready.dev.clk.fallback = false ∧
    (ready.onDev (fun d => { d with clk := { d.clk with fallback := true } })).dev.clk.fallback = true := by decide +kernel

theorem wit_PulsePerSecond : (let s := ((ready.atMs 1200).withReg pgQuartz 0x110 1).withReg pgQuartz 0x120 0x101
     s.ready = true ∧ bit (s.dev.reg pgQuartz 0x110) 0 = true ∧ (s.dev.clk.ppsNext * secT : Nat) + sfld (s.dev.reg pgQuartz 0x110) 32 32 * (nsT : Int) ≤ (s.dev.now : Int) ∧
     s.dev.squelched (s.dev.reg pgQuartz 0x110) 1 = false ∧ bit (s.dev.reg pgQuartz 0x120) 0 = true ∧ fld (s.dev.reg pgQuartz 0x120) 8 24 * nsT < (secondOffset (laneStamp (2 * nsT) 0)).natAbs ∧
     s.dev.ptp.ppsMissed = false ∧ max (s.dev.ptp.ppsLast.getD 0) s.dev.ptp.ppsFrom + 1100 * msT < s.dev.now) := by decide +kernel

/-- PPS_IN_EDGE: an edge just before a second is offset by less than nothing. -/
theorem test_ppsIn : secondOffset (secT - 3) = -3 ∧ secondOffset (secT + 3) = 3 := by decide +kernel

/-- The instants just before, at and after a boundary of each kind. -/
theorem wit_BoundariesAdvance :
    (let s := (ready.atMs 5).onDev (fun d => { d with clk := { d.clk with nextEpoch := 6 } })
     s.ready = true ∧ s.dev.now < s.dev.clk.nextEpoch * msT ∧ s.dev.now < blockAt s.dev.clk.nextBlock ∧ s.dev.now < s.dev.clk.nextTick * usT) ∧
    (let s := (ready.atMs 5).onDev (fun d => { d with clk := { d.clk with nextEpoch := 5, nextBlock := 15, nextTick := 5000 } })
     s.ready = true ∧ blockAt s.dev.clk.nextBlock ≤ s.dev.now ∧ s.dev.clk.nextBlock ≤ 3 * s.dev.clk.nextEpoch ∧ s.dev.clk.nextTick * usT ≤ s.dev.now) ∧
    (let s := (ready.atMs 5).onDev (fun d => { d with clk := { d.clk with nextEpoch := 5, nextBlock := 16 } })
     s.ready = true ∧ s.dev.clk.nextEpoch * msT ≤ s.dev.now ∧ 3 * s.dev.clk.nextEpoch < s.dev.clk.nextBlock ∧ s.dev.ctl.accepted = [] ∧ s.dev.ctl.groups = [] ∧
       s.dev.boot.restartAt = none) := by decide +kernel

/-- EPOCH_BOUNDARY acts once. -/
theorem test_epochBoundary : (match exec .epochBoundary ((ready.atMs 5).onDev (fun d => { d with clk := { d.clk with nextEpoch := 5, nextBlock := 16 } })) with
    | .next u => decide (u.dev.clk.nextEpoch = 6) | _ => false) = true := by decide +kernel

/-- Offsets inside and beyond STEP_LIMIT, at its edge, in HOLDOVER. -/
theorem wit_ServoTransitions_out : (let d := (ptpOnWith (fun p => { p with servo := .holdover, inStep := 200, outStep := 200 })).dev
     d.ptp.servo = .holdover ∧ -d.stepLimit ≤ d.stepLimit ∧ d.stepLimit < d.stepLimit + 1 ∧ max 1 (fld (d.reg pgQuartz 0x088) 24 8) ≤ d.ptp.inStep + 1 ∧
       max 1 (fld (d.reg pgQuartz 0x088) 24 8) ≤ d.ptp.outStep + 1) := by decide +kernel

/-! ### Legs -/

/-- Leg 4,095 in state `x`, its bounds being those a spec gives LEG. -/
def legged (x : LegState) (f : Leg → Leg := id) : State := (((mapped.atMs 100000).withReg pgLegs 0x060 1)).withLeg 4095 (f { state := x })

/-- A leg descriptor: IPv4, cleartext, its own queues. -/
def legBytes : List Byte := desc 256 [(0, 4), (4, 1), (52, 0xFFFF), (54, 0xFFFF)]

/-- An audio stream. -/
def audioStrm : Strm :=
  { kind := 0, ssrc := 9, bound := true, pt := 96, codec := 1, primary := 255, nack := true, decode := true, mid := [], rid := [], enc := 0 }

/-- Leg `x` with that stream at index 15, changed by `f`. -/
def streamed (x : LegState) (f : Strm → Strm := id) : State := legged x (fun l => { l with streams := [(15, some (f audioStrm))] })

/-- An instance of that stream at number 32,767, received by leg 0. -/
def anInst : Inst :=
  { receiver := 0, kind := 0, sub := 15, src := 4095, weight := 1, prio := 0, maxS := 2, maxT := 2, outSsrc := 1, outPt := 96, rtxPt := 97 }

/-- Two legs of one conference, one of which forwards to the other. -/
def forwarding : State := (streamed .active).withLeg 0 { state := .keyed } |>.onDev (fun d => d.setInst 32767 (some anInst))

theorem wit_LegCommands : Accepts legOpenSpec (cmd [(0, 4095), (2, 511), (8, 4096)]) (mapped.withBytes 4096 legBytes) ∧
    Accepts legStartSpec (cmd [(0, 4095)]) (legged .keyed) ∧ Accepts legHoldSpec (cmd [(0, 4095)]) (legged .active) ∧ Accepts legResumeSpec (cmd [(0, 4095)]) (legged .held) ∧
    Accepts legCloseSpec (cmd [(0, 4095)]) (legged .active) ∧ Accepts legReleaseSpec (cmd [(0, 4095)]) (legged .closed) ∧
    Accepts legUpdateSpec (cmd [(0, 4095), (8, 4096)]) ((legged .active).withBytes 4096 legBytes) ∧ Accepts legQuerySpec (cmd [(0, 0)]) (legged .idle) :=
  ⟨accepts_of (by decide +kernel), accepts_of (by decide +kernel), accepts_of (by decide +kernel), accepts_of (by decide +kernel),
   accepts_of (by decide +kernel), accepts_of (by decide +kernel), accepts_of (by decide +kernel), accepts_of (by decide +kernel)⟩

/-- LEG_OPEN: the leg is KEYED under its realm and conference. -/
theorem test_legOpen : (match exec (.legOpen (cmd [(0, 4095), (2, 511), (8, 4096)])) (mapped.withBytes 4096 legBytes) with
    | .next u => decide ((u.dev.leg 4095).state = .keyed) && decide ((u.dev.leg 4095).conf = 511) && decide ((u.dev.queue 8190).bind = .leg) | _ => false) = true := by decide +kernel

theorem wit_StreamCommands : Accepts streamAddSpec (cmd [(0, 4095), (2, 15), (4, 9), (8, 127), (9, 4), (10, 255), (11, 3)]) (legged .keyed) ∧
    Accepts streamRemoveSpec (cmd [(0, 4095), (2, 15)]) (streamed .held) ∧
    Accepts subscribeSpec (cmd [(0, 0), (3, 15), (4, 4095), (6, 255), (7, 3), (8, 2), (9, 2), (16, 127)]) forwarding ∧
    Accepts unsubscribeSpec (cmd [(0, 0), (2, 32767)]) forwarding ∧
    Accepts subscribeSetSpec (cmd [(0, 0), (3, 15), (4, 4095), (6, 255), (7, 3), (12, 1), (16, 96), (17, 97), (20, 32767)]) forwarding ∧ forwarding.dev.inst 32767 = some anInst :=
  ⟨accepts_of (by decide +kernel), accepts_of (by decide +kernel), accepts_of (by decide +kernel), accepts_of (by decide +kernel),
   accepts_of (by decide +kernel), by decide +kernel⟩

/-- STREAM_REMOVE takes the instances of its source with it. -/
theorem test_streamRemove : (match exec (.streamRemove (cmd [(0, 4095), (2, 15)])) forwarding with
    | .next u => (u.dev.stream 4095 15).isNone && (u.dev.inst 32767).isNone | _ => false) = true := by decide +kernel

/-- A video packet that ends its picture. -/
def pkt : Pkt :=
  { ssrc := 9, pt := 96, seq := 5, ts := 0, marker := true, pad := false, csrc := [], ext := [], payload := [1], spatial := 0, temporal := 0, first := true,
    indep := true, upS := false, upT := false, stamp := 0 }

theorem wit_LegEvents :
    (let s := legged .draining
     s.ready = true ∧ (s.dev.leg 4095).state = .draining ∧ (s.dev.queue (s.dev.mediaQ 4095)).frames = [] ∧ (s.dev.queue (s.dev.repairQ 4095)).frames = []) ∧
    (legged .active).dev.leg 4095 ≠ {} ∧ ((legged .active).dev.leg 4095).state ≠ .draining ∧
    (let s := legged .active (fun l => { l with desc := { l.desc with consent := true } })
     (s.dev.leg 4095).consents = true ∧ (s.dev.leg 4095).nextConsent ≤ s.dev.now ∧ s.dev.decides = true ∧ (s.dev.leg 4095).desc.consent = true ∧
       epochCeil ((s.dev.leg 4095).consentFrom + 30 * secT) ≤ s.dev.now ∧
       (s.dev.intake 4095 (s.dev.now / msT * msT)).lastReport + s.dev.legProf 4095 0x18 32 16 * msT ≤ s.dev.now / msT * msT ∧
       (s.dev.leg 4095).nextRtcp ≤ s.dev.now ∧ (s.dev.leg 4095).nextFb ≤ s.dev.now) ∧
    (let x := { audioStrm with gaps := [⟨4, 0, 0, 0⟩] }
     let s := streamed .active (fun _ => x)
     s.dev.stream 4095 15 = some x ∧ x.nack = true ∧ x.decode = true ∧ s.dev.decides = true ∧ (s.dev.leg 4095).state = .active ∧ x.gaps.any (s.dev.gapDue 4095) = true) ∧
    (let x := { audioStrm with kind := 1, codec := 0x10, need := { since := some (100 * secT - 999 * msT), request := true } }
     let s := streamed .held (fun _ => x)
     s.dev.stream 4095 15 = some x ∧ x.need.since = some (100 * secT - 999 * msT) ∧ x.bound = true ∧ (s.dev.leg 4095).state = .held ∧
       (s.dev.sourceStreams 4095 15).all (fun e => e.2.need.lastSent.all (fun v => decide (v + 300 * msT ≤ s.dev.now))) = true ∧ s.dev.now < 100 * secT - 999 * msT + secT) ∧
    (let x := { audioStrm with kind := 1, codec := 0x10, need := { since := some (99 * secT), request := true, lastSent := some (99 * secT) } }
     let s := streamed .active (fun _ => x)
     s.dev.stream 4095 15 = some x ∧ 99 * secT + secT ≤ s.dev.now ∧
       (s.dev.sourceStreams 4095 15).all (fun e => e.2.need.lastSent.all (fun v => decide (v + 300 * msT ≤ s.dev.now))) = true) ∧
    (let x := { audioStrm with kind := 1, codec := 0x10, buf := [pkt] }
     let s := streamed .active (fun _ => x)
     s.dev.stream 4095 15 = some x ∧ ((oldestPicture x.numbered).1.head?).isSome = true ∧
       ((oldestPicture x.numbered).1.map (fun e => e.2.stamp)).foldl Nat.min 0 + s.dev.legProf 4095 0x30 0 16 * msT ≤ s.dev.now) ∧
    (let s := (ready.atMs 100000).onDev (fun d => { d with legs := { d.legs with idleSince := [((255, 3, 2), 0)] } })
     s.dev.legs.idleSince.find? (fun e => decide (e.1 = (255, 3, 2))) = some ((255, 3, 2), 0) ∧ s.dev.decides = true ∧ 0 + s.dev.suspendMs 255 3 * msT ≤ s.dev.now ∧
       s.dev.legs.suspended.contains (255, 3, 2) = false) := by decide +kernel

/-- CONSENT_EXPIRED: the leg is HELD with its cause. -/
theorem test_consentExpired : (match exec (.consentExpired 4095) (legged .active (fun l => { l with desc := { l.desc with consent := true } })) with
    | .next u => decide ((u.dev.leg 4095).state = .held) && (u.dev.leg 4095).expired | _ => false) = true := by decide +kernel

/-- A port that is UP. -/
def portUp : State := ready.onDev (fun d => { d with lanes := { d.lanes with links := tabPutD {} d.lanes.links 7 { up := true } } })

/-- A frame of 64 bytes to every address, with its FCS. -/
def bcast : List Byte :=
  let b := List.replicate 12 0xFF ++ [0x88, 0xB5] ++ List.replicate 46 (0 : Byte)
  b ++ leBytes 4 (crc32 b)

theorem wit_FrameReceive : portUp.ready = true ∧ (decide (8 < 8) && (portUp.dev.plink 8).up) = false ∧ 7 < 8 ∧ (portUp.dev.plink 7).up = true ∧
    (List.replicate 63 (0 : Byte)).length < 64 ∧ 64 ≤ bcast.length ∧ bcast.length ≤ 9220 ∧ leAt bcast (bcast.length - 4) 4 = crc32 (bcast.take (bcast.length - 4)) ∧
    leAt (List.replicate 64 (0 : Byte)) 60 4 ≠ crc32 ((List.replicate 64 (0 : Byte)).take 60) ∧
    (ethParse (bcast.take (bcast.length - 4))).badTag = false ∧ (ethParse (bcast.take (bcast.length - 4))).etype ≠ 0x8808 ∧
    (portUp.withReg (pgPort 7) 0x048 0x10).dev.macTakes 7 (ethParse (bcast.take (bcast.length - 4))).dst = true ∧
    portUp.dev.macTakes 7 [2, 0, 0, 0, 0, 1] = false := by decide +kernel

/-- The same clause's length: a frame of 9,221 bytes. -/
theorem wit_FrameReceive_long : 9220 < (List.replicate 9221 (0 : Byte)).length := by rw [List.length_replicate]; omega

/-- FRAME_RECEIVE: a runt is counted. -/
theorem test_runt : (match exec (.frameReceive 7 0 (frameColumns 4 (List.replicate 63 0)) 0) portUp with | .next u => decide (u.dev.counter (pgPort 7) 0x098 = 1) | _ => false) = true := by
  decide +kernel

theorem wit_LegDatagrams : ((legged .draining).dev.leg 4095).state = .draining ∧ ((legged .keyed).dev.leg 4095).state = .keyed ∧ ([0x80, 0x80] : List Byte) ≠ [] ∧
    128 ≤ beAt [0x80, 0x80] 0 1 ∧ beAt [0xBF, 0x80] 0 1 ≤ 191 := by decide +kernel

theorem wit_RegionEnables : Reaches mapped pgLegs ∧ mapped.dev.boot.phase = .ready ∧ mapped.dev.pair.role = .solo ∧ bit (mapped.dev.reg pgLegs 0x050) 0 = false ∧ bit 1 0 = true ∧
    bit (mapped.dev.reg pgLegs 0x060) 0 = false ∧ fld 1 16 32 = fld (mapped.dev.reg pgLegs 0x060) 16 32 := by unfold Reaches; decide +kernel

/-- STATS_CFG_WRITE: over a region that is PINNED it is enabled, over one that is not it is not. -/
theorem test_statsCfg : (match exec (.statsCfgWrite 1) mapped, exec (.statsCfgWrite 1) ready with
    | .next u, .next v => bit (u.dev.reg pgLegs 0x050) 0 && !bit (v.dev.reg pgLegs 0x050) 0 | _, _ => false) = true := by decide +kernel

/-- A frame in columns, and columns that hold none. -/
theorem wit_FrameReceive_columns : frameOf (frameColumns 4 bcast) = some bcast ∧ frameOf ([] : List (List Sym)) = none ∧
    (frameColumns 4 bcast).all (fun c => c.all (fun x => !symError x)) = true := by decide +kernel

/-- An output with one stream, RUNNING, whose one layer is withdrawn by the suspension that is due. -/
theorem wit_LayerSuspend_stream :
    (let s := (ready.atMs 100000).onDev (fun d => ({ d with legs := { d.legs with idleSince := [((255, 3, 2), 0)] } } : Dev).setEncS 5
        { state := .running, desc := { layout := 255, output := 3, enc := 2 } })
     s.dev.outStreams 255 3 = [(5, s.dev.encS 5)] ∧ (s.dev.encS 5).state = .running ∧
       (({ s.dev with legs := { s.dev.legs with suspended := [(255, 3, 2)] } } : Dev).encLayers (s.dev.encS 5)) = 0) := by decide +kernel

/-! ### Geodes -/

/-- An encode stream descriptor: 64 x 64 of codec 0x13 at 25 pictures/s, submitted work. -/
def encBytes : List Byte := desc 128 [(0, 1), (4, 0x13), (8, 64), (10, 64), (12, 25), (16, 1), (23, 30), (24, 20), (25, 40), (26, 100), (40, 1000), (52, 1), (53, 1), (58, 8),
  (59, 255), (64, 0x100000), (72, 0x100000), (80, 0x20000), (88, 0x200000), (96, 65536), (104, 0x30000)]

/-- GE0 READY, and encode stream 2,047 in state `x`, open with that descriptor, changed by `f`. -/
def encoding (x : EncState) (f : EncStream → EncStream := id) : State :=
  ((((mapped.atMs 1).withHdr (pgGeode 0) (fun h => { h with state := .ready })).withBytes 4096 encBytes).withBytes 8192 (desc 64 [(0, 2047)])).onDev (fun d =>
    d.setEncS 2047 (f { state := x, desc := encParse encBytes none }))

/-- A job of it. -/
def encJob : EncJob := { arrival := 0, time := 0, rtp := 0, tid := 0, refresh := false, last := false, user := 0, srcY := 0, srcC := 0, pitch := 64, format := 0, desc := encParse encBytes none }

theorem wit_EncCommands : Accepts encStreamOpenSpec (cmd [(0, 2047), (8, 4096)]) (encoding .idle) ∧ Accepts encStreamCloseSpec (cmd [(0, 2047)]) (encoding .running) ∧
    ((encoding .running).dev.encS 2047).jobs = [] ∧
    Accepts encStreamCloseSpec (cmd [(0, 2047)]) (encoding .running (fun x => { x with jobs := [{ encJob with started := true }] })) ∧
    ((encoding .running (fun x => { x with jobs := [{ encJob with started := true }] })).dev.encS 2047).jobs.head? = some { encJob with started := true } ∧
    Accepts encStreamUpdateSpec (cmd [(0, 2047), (8, 4096)]) (encoding .opened) ∧ Accepts encRefreshSpec (cmd [(0, 2047)]) (encoding .running) ∧
    Accepts encQuerySpec (cmd [(0, 2047)]) (encoding .idle) ∧ Accepts encSubmitSpec (cmd [(0, 2047), (2, 1), (8, 8192)]) (encoding .opened) :=
  ⟨accepts_of (by decide +kernel), accepts_of (by decide +kernel), by decide +kernel, accepts_of (by decide +kernel), by decide +kernel,
   accepts_of (by decide +kernel), accepts_of (by decide +kernel), accepts_of (by decide +kernel), accepts_of (by decide +kernel)⟩

/-- ENC_SUBMIT queues its job; the stream runs when the job starts. -/
theorem test_encSubmit : (match exec (.encSubmit (cmd [(0, 2047), (2, 1), (8, 8192)])) (encoding .opened) with
    | .next u => decide ((u.dev.encS 2047).jobs.length = 1) && decide ((u.dev.encS 2047).state = .opened) | _ => false) = true := by decide +kernel

/-- A decode stream descriptor: submitted data, 64 x 64. -/
def decBytes : List Byte := desc 128 [(0, 1), (4, 0x10), (8, 64), (10, 64), (12, 25), (16, 1), (20, 1), (24, 255), (26, 4), (32, 0x100000), (40, 0x10000), (48, 0x20000), (56, 0x30000)]

/-- GE0 READY, and decode stream 4,095 in state `x`, open with that descriptor, changed by `f`. -/
def decoding (x : DecState) (f : DecStream → DecStream := id) : State :=
  ((((mapped.atMs 1).withHdr (pgGeode 0) (fun h => { h with state := .ready })).withBytes 4096 decBytes).withBytes 8192 (desc 64 [(0, 4095), (4, 1)])).onDev (fun d =>
    d.setDecS 4095 (f { state := x, desc := decParse decBytes }))

/-- A job of it. -/
def decJob : DecJob := { arrival := 0, time := 0, rtp := 0, incomplete := false, data := 0, length := 1, last := false, disc := false, user := 0, due := 0 }

theorem wit_DecCommands : Accepts decStreamOpenSpec (cmd [(0, 4095), (8, 4096)]) (decoding .idle) ∧ Accepts decStreamCloseSpec (cmd [(0, 4095)]) (decoding .opened) ∧
    ((decoding .opened).dev.decS 4095).jobs = [] ∧
    Accepts decStreamCloseSpec (cmd [(0, 4095)]) (decoding .running (fun x => { x with jobs := [{ decJob with started := true }] })) ∧
    ((decoding .running (fun x => { x with jobs := [{ decJob with started := true }] })).dev.decS 4095).jobs.head? = some { decJob with started := true } ∧
    Accepts decQuerySpec (cmd [(0, 4095)]) (decoding .running) ∧ Accepts decSubmitSpec (cmd [(0, 4095), (2, 1), (8, 8192)]) (decoding .running) :=
  ⟨accepts_of (by decide +kernel), accepts_of (by decide +kernel), by decide +kernel, accepts_of (by decide +kernel), by decide +kernel,
   accepts_of (by decide +kernel), accepts_of (by decide +kernel)⟩

/-- DEC_STREAM_OPEN takes the lowest engine on which the stream fits. -/
theorem test_decOpen : (match exec (.decStreamOpen (cmd [(0, 4095), (8, 4096)])) (decoding .idle) with
    | .next u => decide ((u.dev.decS 4095).state = .opened) && decide ((u.dev.decS 4095).engine = 0) | _ => false) = true := by decide +kernel

/-- Engine 0 in service of a stream. -/
def serving (s : State) (dec : Bool) (n : Nat) : State := s.onDev (fun d => d.setGeRun 0 (some ⟨dec, n, 0, 0⟩))

/-- An encode stream with a job, not started, started and coded, and one that a job of a higher level would have go before. -/
theorem wit_GeodeJobs :
    (let j := { encJob with slot := some 0, rends := [((64, 64), 0, [])] }
     let s := encoding .running (fun x => { x with jobs := [j], desc := { x.desc with flags := 8 } })
     s.ready = true ∧ (s.dev.encS 2047).jobs.head? = some j ∧ j.coded = false ∧
     s.dev.geMayStart (s.dev.encS 2047).engine false 2047 (fun c => c.dec || s.dev.encSpace c.stream) = true ∧
     s.dev.encSource (s.dev.encS 2047) j = none) ∧
    (let j := { encJob with srcY := 0x10000000 }
     let s := encoding .running (fun x => { x with jobs := [j], desc := { x.desc with flags := 8 } })
     s.ready = true ∧ (s.dev.encS 2047).jobs.head? = some j ∧ (s.dev.encSource (s.dev.encS 2047) j).isSome = true ∧ s.dev.geSaved (s.dev.encS 2047).engine < 64 ∧
     s.dev.geMayStart (s.dev.encS 2047).engine false 2047 (fun c => c.dec || s.dev.encSpace c.stream) = true) ∧
    (let s := encoding .running (fun x => { x with jobs := [encJob, { encJob with arrival := 1 }], bsOff := 0 })
     s.dev.geMayStart 1 false 2047 (fun c => c.dec || s.dev.encSpace c.stream) = false) ∧
    (let s := serving (encoding .running (fun x => { x with jobs := [{ encJob with started := true, coded := true }] })) false 2047
     s.ready = true ∧ (s.dev.encS 2047).jobs.head? = some { encJob with started := true, coded := true } ∧ encJob.last = false ∧
     s.dev.geRun (s.dev.encS 2047).engine = some ⟨false, 2047, 0, 0⟩ ∧ (s.dev.encS 2047).state = .running ∧
     (s.dev.servers (s.dev.encS 2047).engine).all (fun p => decide ((s.dev.page (pgGeode p)).state ≠ .faulted)) = true) ∧
    (let s := (decoding .running (fun x => { x with jobs := [decJob] })).onDev (fun d => d.onDecS 4095 (fun x => { x with desc := { x.desc with source := 0 } }))
     s.ready = true ∧ (s.dev.decS 4095).jobs.head? = some decJob ∧ (s.dev.decS 4095).desc.source = 0 ∧
     s.dev.geMayStart (s.dev.decS 4095).engine true 4095 (fun c => !c.dec || ((s.dev.decSurface c.stream).isSome && ((s.dev.decS c.stream).desc.source == 0 ||
      !s.dev.statusFull (s.dev.decS c.stream).realm (s.dev.decS c.stream).ring (s.dev.decS c.stream).desc.consumer))) = true) ∧
    (let s := serving (decoding .running (fun x => { x with jobs := [{ decJob with started := true }] })) true 4095
     s.ready = true ∧ (s.dev.decS 4095).jobs.head? = some { decJob with started := true } ∧ decJob.last = false ∧ s.dev.geRun (s.dev.decS 4095).engine = some ⟨true, 4095, 0, 0⟩ ∧
     (s.dev.decS 4095).state = .running ∧ (s.dev.decSurface 4095).isSome = true ∧
     (s.dev.servers (s.dev.decS 4095).engine).all (fun p => decide ((s.dev.page (pgGeode p)).state ≠ .faulted)) = true) ∧
    (let s := serving (encoding .running (fun x => { x with jobs := [{ encJob with started := true, desc := { encJob.desc with priority := 5 } }], desc := { x.desc with priority := 5 } })) false 2047
     let s := s.onDev (fun d => d.setEncS 1 { state := .running, desc := { encParse encBytes none with priority := 4 }, jobs := [encJob] })
     s.up = true ∧ s.dev.geRun 0 = some ⟨false, 2047, 0, 0⟩ ∧ ((s.dev.geReady 0).head?).any (fun c => decide (c.level < (s.dev.encS 2047).desc.priority)) = true ∧ s.dev.geSaved 0 < 64) := by
  decide +kernel

/-- A whole picture, and one that names a reference it has not. -/
theorem wit_DecodeMarks :
    (let d := (serving (decoding .running (fun x => { x with jobs := [{ decJob with started := true }] })) true 4095).dev
     (d.decS 4095).jobs.head? = some { decJob with started := true } ∧ decJob.last = false ∧ (d.decS 4095).state = .running ∧
     d.geRun (d.decS 4095).engine = some ⟨true, 4095, 0, 0⟩ ∧ d.decSurface 4095 = some 0 ∧
     (d.servers (d.decS 4095).engine).all (fun p => decide ((d.page (pgGeode p)).state ≠ .faulted)) = true ∧
     decUnsupported (d.decS 4095) decIn = false ∧ (d.decS 4095).unsupported = false ∧ decIn.header = 0 ∧ (decIn.layers.map (fun y => (y.sid, y.tid, y.intra, (layerLost y 0x10).1))) = [(0, 0, true, [])] ∧
     (d.decS 4095).desc.codec = 0x10 ∧ ([3] : List Nat).any (fun n => (d.decS 4095).dpb.all (fun p => p.num != n)) = true ∧
     decUnsupported (d.decS 4095) { decIn with seq := { decIn.seq with fieldPics := true } } = true ∧ ({ decIn with header := 1 } : DecIn).header ≠ 0) := by decide +kernel

/-- Units READY: the pair of GE32 and GE33, and GE0. -/
def engines : State := [0, 1, 32, 33].foldl (fun s p => State.withHdr s (pgGeode p) (fun h => { h with state := .ready })) (ready.atMs 1)

/-- The spare pair twinned. -/
def twinned : State := engines.onDev (fun d => (d.setGeUnit 32 { twinned := true }).setGeUnit 33 { twinned := true })

theorem wit_GeodeEngines : Accepts geodeTwinSpec (cmd [(0, 16)]) engines ∧ Accepts geodeUntwinSpec (cmd [(0, 16)]) twinned ∧
    Accepts geodeSwapSpec (cmd [(1, 33)]) engines ∧ engines.dev.swapChoose 0 33 = some 33 ∧ (engines.dev.geServed 0 && (engines.dev.geRun 0).isSome) = false ∧
    engines.dev.servers 0 = [0] ∧ Accepts geodeSwapSpec (cmd [(1, 255)]) (serving engines false 0) ∧
    ((serving engines false 0).dev.geServed 0 && ((serving engines false 0).dev.geRun 0).isSome) = true ∧
    (let s := engines.onDev (fun d => { d with geode := { d.geode with swaps := [⟨0, 32⟩] } })
     s.up = true ∧ s.dev.geode.swaps.find? (fun y => y.logical == 0) = some ⟨0, 32⟩ ∧ s.dev.geRun 0 = none ∧ s.dev.servers 0 = [0] ∧ 32 ≠ 0) ∧
    (twinned.up = true ∧ 16 < 17 ∧ (twinned.dev.geUnit (2 * 16)).twinned = true) ∧
    (33 < 34 ∧ (engines.dev.page (pgGeode 33)).state ≠ .off) ∧
    (Reaches engines (pgGeode 33) ∧ (engines.dev.page (pgGeode 33)).state = .ready ∧ (engines.dev.page (pgGeode 33)).isolate = false ∧ engines.dev.geLogical 33 = none) := by
  refine ⟨accepts_of (by decide +kernel), accepts_of (by decide +kernel), accepts_of (by decide +kernel), by decide +kernel, by decide +kernel, by decide +kernel,
    accepts_of (by decide +kernel), by decide +kernel, by decide +kernel, by decide +kernel, by decide +kernel, by unfold Reaches; decide +kernel⟩

/-- GEODE_SWAP of an idle engine moves at once. -/
theorem test_geodeSwap : (match exec (.geodeSwap (cmd [(1, 33)])) engines with
    | .next u => decide ((u.dev.geUnit 33).logical = some 0) && decide ((u.dev.page (pgGeode 0)).state = .isolated) | _ => false) = true := by decide +kernel

/-! ### Mica -/

/-- A layout descriptor: 64 x 64 at 25 pictures/s on pipeline 1, no output. -/
def layBytes : List Byte := desc 128 [(0, 511), (2, 1), (4, 64), (6, 64), (8, 25), (12, 1), (28, 100)]

/-- Layout 255 in state `x`, open with that descriptor, changed by `f`; MICA 1 READY; at 1.001 s. -/
def laid (x : LayState) (f : Layout → Layout := id) : State :=
  (((mapped.atMs 1001).withHdr (pgMica 1) (fun h => { h with state := .ready })).withBytes 4096 layBytes).onDev (fun d =>
    d.setLayout 255 (if x = .idle then {} else f { layoutParse layBytes with state := x, tickNo := 25 }))

theorem wit_MicaCommands : Accepts layoutOpenSpec (cmd [(0, 255), (8, 4096)]) (laid .idle) ∧ Accepts layoutStartSpec (cmd [(0, 255)]) (laid .opened) ∧
    Accepts layoutStopSpec (cmd [(0, 255)]) (laid .running) ∧ Accepts layoutCloseSpec (cmd [(0, 255)]) (laid .opened) ∧
    Accepts layerLoadSpec (cmd [(0, 255), (2, 1), (3, 63), (4, 1), (8, 8192)]) ((laid .running).withBytes 8192 (desc 64 [(20, 2), (22, 2)])) ∧ Accepts layoutFlipSpec (cmd [(0, 255), (2, 1)]) (laid .running) ∧
    Accepts layerBypassSpec (cmd [(0, 255), (2, 63), (3, 1)]) (laid .opened) ∧ Accepts layoutQuerySpec (cmd [(0, 255)]) (laid .idle) :=
  ⟨accepts_of (by decide +kernel), accepts_of (by decide +kernel), accepts_of (by decide +kernel), accepts_of (by decide +kernel),
   accepts_of (by decide +kernel), accepts_of (by decide +kernel), accepts_of (by decide +kernel), accepts_of (by decide +kernel)⟩

/-- A pool for stills. -/
def pooled : State := (mapped.withReg (pgMica 0) 0x058 1).withReg (pgMica 0) 0x060 16384

/-- Where its first 32 MB alone are mapped onto the first of device memory, every address of them translates there. -/
theorem low_translate (d : Dev) (hx : d.xlat.leaves = [(0, ⟨true, true, false, 0, 0⟩)]) (va : Nat) (h : va < 33554432) : d.translate 0 va false = .ok (0, va) := by
  have hl : leafOf d.xlat 0 va = some (0, ⟨true, true, false, 0, 0⟩) := by
    have h0 : va / 33554432 = 0 := by omega
    by_cases hz : va / 65536 = 0
    · simp [leafOf, leafAt, hx, leafKey, h0, hz]
    · have hk : ¬ 0 = va / 65536 := fun e => hz e.symm
      simp [leafOf, leafAt, hx, leafKey, h0, hk]
  have hr : ¬ reservedBase ≤ va := by have : 33554432 ≤ reservedBase := by decide
                                      omega
  simp only [Dev.translate, hl, show ¬ 281474976710656 ≤ va by omega, if_false]
  simp [hr]

theorem pooled_translate (va : Nat) (h : va < 33554432) : pooled.dev.translate 0 va false = .ok (0, va) := low_translate _ (by decide +kernel) va h

/-- A read of them gives as many bytes as were asked for. -/
theorem pooled_read (n va : Nat) (h : va + n ≤ 33554432) : ∃ l, pooled.dev.readVa 0 va n = .ok l ∧ l.length = n := by
  induction n generalizing va with
  | zero => exact ⟨[], rfl, rfl⟩
  | succ n ih =>
    obtain ⟨l, hl, hn⟩ := ih (va + 1) (by omega)
    exact ⟨pooled.dev.targetRead 0 va :: l, by rw [Dev.readVa, pooled_translate va (by omega)]; simp only [hl], by simp [hn]⟩

/-- A command that loads a still of 64 x 64 pixels of 4 bytes. -/
def stillCmd : HostCmd := cmd [(0, 1023), (2, 1), (4, 64), (6, 64), (8, 256), (16, 65536)]

/-- Its capture is what a read of its source gives. -/
theorem still_capture (c : HostCmd) (d : Dev) (va n : Nat) (l : List Byte) (ha : c.arg 16 8 = va) (hb : d.stillBytes c = n) (hp : d.pinned 0 va n = true)
    (hl : d.readVa 0 va n = .ok l) : stillLoadSpec.capture c d = some l := by
  simp only [stillLoadSpec, ha, hb, capturePinned, hp, if_true, captureVa, hl]

/-- The checks over what it captures read its length alone. -/
theorem still_checks (l : List Byte) (hn : l.length = 16384) : stillLoadSpec.dchecks stillCmd l pooled = stillLoadSpec.dchecks stillCmd [] pooled := by
  have h1 : fld (pooled.dev.reg (pgMica 0) 0x060) 0 32 = 16384 := by decide +kernel
  simp [stillLoadSpec, hn, h1]

theorem wit_MicaCommands_still : Accepts stillLoadSpec stillCmd pooled := by
  obtain ⟨l, hl, hn⟩ := pooled_read 16384 65536 (by omega)
  have hv : ∀ r, stillLoadSpec.verdict stillCmd r (some l) pooled = firstFail (commonChecks stillLoadSpec stillCmd pooled.dev.now ++ stillLoadSpec.checks stillCmd pooled ++
      stillLoadSpec.dchecks stillCmd [] pooled ++ [roleCheck stillLoadSpec r pooled]) := fun r => by rw [← still_checks l hn]; rfl
  refine ⟨by decide +kernel, ?_⟩
  rw [OpSpec.judged, still_capture stillCmd pooled.dev 65536 16384 l (by decide +kernel) (by decide +kernel) (by decide +kernel) hl, hv]
  decide +kernel

/-- LAYOUT_FLIP: the layout's bank bit alone. -/
theorem test_layoutFlip : (match exec (.layoutFlip (cmd [(0, 255), (2, 1)])) (laid .running) with
    | .next u => decide (u.dev.activeBank 255 = 1) && decide (u.dev.activeBank 254 = 0) | _ => false) = true := by decide +kernel

/-- A composition that waits for its first entry, and one that is written. -/
def composing (w : Bool) : Composing := ⟨900 * msT, 0, [{}], [if w then .made .fill else .waits], [], [], w⟩

theorem wit_MicaEvents :
    (let s := laid .running
     s.ready = true ∧ (s.dev.layout 255).state = .running ∧ (s.dev.layout 255).state ≠ .idle ∧ (s.dev.layout 255).actAt (s.dev.layout 255).tickNo ≤ s.dev.now ∧
     (s.dev.layout 255).tickAt (s.dev.layout 255).tickNo < s.dev.clk.nextEpoch * msT ∧ s.dev.ctl.groups = [] ∧ (s.dev.page (pgMica (s.dev.layout 255).pipe)).state = .ready) ∧
    (let s := laid .running (fun x => { x with comp := some (composing false) })
     (s.dev.layout 255).comp = some (composing false) ∧ (composing false).choices[0]? = some .waits ∧ (composing false).written = false ∧
     (composing false).entries.length = (composing false).choices.length ∧
     (composing false).tick + (s.dev.layout 255).rateDen * secT / max 1 (s.dev.layout 255).rateNum / 2 ≤ s.dev.now) ∧
    (let s := laid .running (fun x => { x with comp := some (composing true) })
     (s.dev.layout 255).comp = some (composing true) ∧ (composing true).written = true) ∧
    ((laid .idle).up = true ∧ 1 < 2 ∧ ((laid .idle).dev.page (pgMica 1)).state ≠ .off) ∧
    (bit (mapped.dev.reg (pgMica 0) 0x058) 0 = false ∧ bit 1 0 = true ∧ mapped.dev.boot.phase = .ready ∧ mapped.dev.pair.role = .solo ∧
     mapped.pageState (pgMica 0) ≠ .isolated ∧ mapped.pageState (pgMica 0) ≠ .testing ∧ mapped.answers (pgMica 0) = true ∧ pgMica 0 < 202 ∧
     (mapped.dev.page (pgMica 0)).wbuf = none) := by decide +kernel

/-- SOURCE_LATE: the waiting entry shows what it showed before, nothing here. -/
theorem test_sourceLate : (match exec (.sourceLate 255 0) (laid .running (fun x => { x with comp := some (composing false) })) with
    | .next u => decide (u.dev.counter (pgMica 1) 0x070 = 1) | _ => false) = true := by decide +kernel

/-! ### Conference audio -/

/-- LEG_AUDIO_SET of leg 4,095 with the values of reset, and ROUTE_SET, ROUTE_CLEAR, ROUTE_QUERY of slot 63 of LEG_OUT 8,191 from LEG_IN 0. -/
def audioCmd : HostCmd := cmd [(0, 4095), (12, 32000), (16, 20), (17, 1), (18, 4)]
def routeCmd (slot : Nat) : HostCmd := cmd [(0, 0x81001FFF), (4, slot), (8, 0x01000000)]
def unrouteCmd (slot : Nat) : HostCmd := cmd [(0, 0x81001FFF), (4, slot)]

/-- A contribution, and a slot that sounds it. -/
def aContr (w : Int) : Contr := ⟨0x01000000, 0, false, false, w⟩
def routed : State := mapped.onDev (fun d => d.setRslot 0x81001FFF 63 { target := some (aContr 0) })

theorem wit_AudioCommands : Accepts legAudioSetSpec audioCmd (legged .active) ∧
    Accepts confAudioSetSpec (cmd [(0, 511), (2, 8), (11, 63)]) mapped ∧
    Accepts hrtfLoadSpec (cmd [(0, 63), (1, 1), (2, 32), (8, 4096)]) mapped ∧ (cmd [(0, 63), (1, 1), (2, 32), (8, 4096)]).arg 2 2 ≠ mapped.dev.audio.hrtfTaps ∧
    Accepts routeSetSpec (routeCmd 63) mapped ∧ Accepts routeClearSpec (unrouteCmd 63) routed ∧ Accepts routeClearSpec (unrouteCmd 255) routed ∧
    Accepts routeQuerySpec (unrouteCmd 63) mapped ∧ (mapped.dev.rslot 0x81001FFF 63).target = none :=
  ⟨accepts_of (by decide +kernel), accepts_of (by decide +kernel), accepts_of (by decide +kernel), by decide +kernel, accepts_of (by decide +kernel),
   accepts_of (by decide +kernel), accepts_of (by decide +kernel), accepts_of (by decide +kernel), by decide +kernel⟩

/-- A talker count of 0 is refused at its byte of the command, which is 24 past that of ARGS. -/
theorem test_confAudioBad : (confAudioSetSpec.judged (cmd [(0, 511)]) mapped) = some (.badArg, 26) := by decide +kernel

/-- A slot that sounds four contributions, the second the least, and a change of it. -/
def fullSlot : RSlot := { target := some (aContr 5), olds := [aContr (-9), aContr 7, aContr 8], n := 1, len := 32 }

theorem wit_RouteFades : fullSlot.sounding.length ≤ 4 ∧ ({} : RSlot).sounding.length < 4 ∧
    (∃ x, x ∈ fullSlot.sounding ∧ x ∉ (fullSlot.change (some (aContr 1)) 32 0).1.olds) := by
  refine ⟨by decide +kernel, by decide +kernel, ?_⟩
  exact ⟨aContr (-9), by decide +kernel⟩

/-- A network stream descriptor: 48 kHz, L16, two channels, 6 samples a packet, to UDP 5,004 and IPv4 10.0.0.1. -/
def netBytes : List Byte := desc 128 [(1, 255), (4, 5004), (6, 5005), (8, 0x0100000A), (40, 0x42), (47, 96), (50, 2), (52, 6), (54, 8191)]

/-- Device memory that holds it, and an OPEN stream of each direction. -/
def netMapped : State := (mapped.atMs 100).withBytes 4096 netBytes
def receiving (f : NetRx → NetRx := id) : State := netMapped.onDev (fun d => d.setRx 127 (f { opened := true, desc := netParse netBytes }))
def sending : State := netMapped.onDev (fun d => (d.bindQueue 8191 .stream 127 0).setTx 127 { opened := true, desc := netParse netBytes, start := 48 })

theorem wit_NetCommands : Accepts netRxOpenSpec (cmd [(0, 127), (8, 4096)]) netMapped ∧ Accepts netRxCloseSpec (cmd [(0, 127)]) receiving ∧
    Accepts netTxOpenSpec (cmd [(0, 127), (8, 4096)]) netMapped ∧ Accepts netTxCloseSpec (cmd [(0, 127)]) sending :=
  ⟨accepts_of (by decide +kernel), accepts_of (by decide +kernel), accepts_of (by decide +kernel), accepts_of (by decide +kernel)⟩

/-- A frame of that stream: one packet of sequence number 7. -/
def netFrame (port : Nat) : List Byte := receiving.dev.udpFrame 0 (beBytes 6 0x42) 0 0 0 false [10, 0, 0, 2] [10, 0, 0, 1] 5005 port
  ([0x80, 96] ++ beBytes 2 7 ++ beBytes 4 9 ++ beBytes 4 3 ++ List.replicate 24 1)

/-- That datagram. -/
def netUdp (port : Nat) : UdpIn := ⟨false, [10, 0, 0, 2], [10, 0, 0, 1], 5005, port, [0x80, 96] ++ beBytes 2 7 ++ beBytes 4 9 ++ beBytes 4 3 ++ List.replicate 24 1⟩

/-- A state whose leg 4,095 plays its stream 15 as `x`. -/
def playing (x : Playout) : State := ((mapped.atMs 1000).withReg pgMix 0x118 (fmk 0 16 20 ||| fmk 16 16 40)).onDev (fun d => d.setPlayout 4095 15 x)

theorem wit_AudioEvents :
    (receiving.ready = true ∧ frameUdp [] = none ∧
     frameUdp (netFrame 5006) = some (0, netUdp 5006) ∧ receiving.dev.netMatch 0 0 (netUdp 5006) = none ∧
     frameUdp (netFrame 5004) = some (0, netUdp 5004) ∧ receiving.dev.netMatch 0 0 (netUdp 5004) = some 127 ∧
     (receiving (fun r => { r with seqs := [7], desc := { r.desc with port2 := 1 } })).dev.netMatch 0 0 (netUdp 5004) = some 127 ∧ ((receiving (fun r => { r with seqs := [7], desc := { r.desc with port2 := 1 } })).dev.rx 127).desc.port2 ≠ 255 ∧ (receiving.dev.rx 127).desc.port2 = 255 ∧
     ((rtpParse (netUdp 5004).data 0).map (fun k => (receiving.dev.rx 127).seqs.contains k.seq)) = some false ∧
     ((rtpParse (netUdp 5004).data 0).map (fun k => ((receiving (fun r => { r with seqs := [7], desc := { r.desc with port2 := 1 } })).dev.rx 127).seqs.contains k.seq)) = some true) ∧
    (let s := playing { step := some (true, 980 * msT) }
     s.ready = true ∧ (s.dev.playout 4095 15).step = some (true, 980 * msT) ∧ 980 * msT + fld (s.dev.reg pgMix 0x118) 0 16 * msT ≤ s.dev.now) ∧
    (mapped.dev.playout 4095 15).step = none ∧
    (let s := playing { started := true, concealed := 3840 }
     s.ready = true ∧ (s.dev.playout 4095 15).started = true ∧ (s.dev.playout 4095 15).muted = false ∧
     (s.dev.playout 4095 15).ahead + fld (s.dev.reg pgMix 0x118) 16 16 * 96 ≤ (s.dev.playout 4095 15).concealed) ∧
    (Reaches mapped pgMix ∧ mapped.dev.boot.phase = .ready ∧ mapped.dev.pair.role = .solo) := by
  unfold Reaches; decide +kernel

/-- TDM port 31 enabled, with CFG's other fields `v`, and a frame of its slots. -/
def tdmOnWith (v : Nat) (t : TdmPort := {}) : State := (mapped.withReg (pgTdm 31) (tdmOff 31 0) (BitVec.ofNat 64 (1 + v))).onDev (fun d => d.setTdm 31 t)

theorem wit_TdmPorts :
    (Reaches mapped (pgTdm 31) ∧ mapped.dev.boot.phase = .ready ∧ mapped.dev.pair.role = .solo ∧ Reaches (tdmOnWith 0) (pgTdm 31) ∧
     (tdmOnWith 0).dev.boot.phase = .ready ∧ (tdmOnWith 0).dev.pair.role = .solo ∧ (tdmOnWith 0).dev.tdmOn 31 = true ∧ mapped.dev.tdmOn 31 = false ∧
     bit (1 : Word) 0 = true ∧ bit (0 : Word) 0 = false) ∧
    (let s := tdmOnWith (2 + 16 * 8) { lock := true, wrong := 1 }
     s.ready = true ∧ s.dev.tdmOn 31 = true ∧ s.dev.tdmSlave 31 = true ∧ 255 ≠ 32 * s.dev.tdmSlots 31 ∧ 256 = 32 * s.dev.tdmSlots 31 ∧
     (s.dev.tdm 31).lock = true ∧ 2 ≤ ((tdmOnWith (2 + 16 * 8) { lock := true, wrong := 2 }).dev.tdm 31).wrong) ∧
    (let s := tdmOnWith (2 + 16 * 8) { good := 8 }
     s.ready = true ∧ s.dev.tdmOn 31 = true ∧ s.dev.tdmSlave 31 = true ∧ (s.dev.tdm 31).lock = false ∧ 8 ≤ (s.dev.tdm 31).good) := by
  unfold Reaches; decide +kernel

/-- The seventh right frame does not lock a port; the eighth does. -/
theorem test_tdmLock : (let g (n : Nat) := match exec (.tdmFrame 31 0 256 (List.replicate 8 1)) (tdmOnWith (2 + 16 * 8) { good := n }) with
      | .next u => (u.dev.tdm 31).lock | _ => false
    (g 6, g 7)) = (false, true) := by decide +kernel

/-! ### The renderer -/

/-- A layout table: four PANNABLE loudspeakers at unit distance, in front, left, behind and right. -/
def layoutBytes : List Byte := desc 192 [(0, 4), (4, 65536), (8, 65536), (68, 65536), (80, 1), (96, 2 ^ 32 - 65536), (112, 1), (132, 2 ^ 32 - 65536), (144, 1), (160, 65536), (176, 1)]

/-- Its bank. -/
def aBank : SpkBank := ((bankParse layoutBytes).triangulate).getD {}

/-- Bank 1 LOADED, the bank `sel` SELECTED, RUNNING as said. -/
def rendering (sel : Option Nat) (run : Bool) : State := ((mapped.atMs 10).withBytes 4096 layoutBytes).onDev (fun d => { d with render := { d.render with
  banks := [(1, aBank)], loaded := [1], selected := sel, running := run } })

/-- A load of bank 1 whose computation runs. -/
def loadCmd : HostCmd := cmd [(0, 1), (8, 4096)]
def computing : State := (rendering none false).onDev (fun d => { d with ctl := { d.ctl with computing := [⟨spkLayoutLoadSpec.token loadCmd (rendering none false), 3 * msT, false, layoutBytes⟩] } })

theorem wit_LayoutLoad : (let s := rendering none false
     s.ready = true ∧ s.dev.joined = false ∧ s.dev.datedPending < 8192 ∧ (spkLayoutLoadSpec.judged loadCmd s).isNone = true) ∧
    computing.ready = true ∧ (computing.dev.ctl.computing.map (fun a => (a.tok.cmd.arg 0 1, a.due))) = [(1, 3 * msT)] ∧ mapped.dev.ctl.computing = [] ∧
    ((bankParse layoutBytes).triangulate).isSome = true := by decide +kernel

theorem wit_RenderCommands :
    Accepts spkLayoutSelectSpec (cmd [(0, 1)]) (rendering (some 0) true) ∧ Accepts spkLayoutSelectSpec (cmd [(0, 1)]) (rendering none false) ∧
    (rendering (some 0) true).dev.render.running = true ∧ (rendering (some 0) true).dev.render.oldBank = none ∧ (rendering none false).dev.render.running = false ∧
    Accepts renderStartSpec (cmd []) (rendering (some 1) false) ∧ Accepts renderStopSpec (cmd []) (rendering (some 1) true) ∧
    Accepts objSetSpec (cmd [(0, 1023), (36, 1)]) mapped ∧ Accepts spkSetSpec (cmd [(0, 511), (8, 8192)]) (rendering (some 1) true) ∧
    Accepts firLoadSpec (cmd [(0, 511), (4, 64), (8, 8192)]) mapped ∧ Accepts hoaSetSpec (cmd [(0, 1), (1, 1), (3, 1)]) mapped ∧ Accepts renderQuerySpec (cmd []) mapped :=
  ⟨accepts_of (by decide +kernel), accepts_of (by decide +kernel), by decide +kernel, by decide +kernel, by decide +kernel,
   accepts_of (by decide +kernel), accepts_of (by decide +kernel), accepts_of (by decide +kernel), accepts_of (by decide +kernel), accepts_of (by decide +kernel),
   accepts_of (by decide +kernel), accepts_of (by decide +kernel)⟩

/-- The layout is planar, each loudspeaker in two pairs. -/
theorem test_planar : (aBank.planar, aBank.tris.length) = (true, 4) := by decide +kernel

/-- An object exactly at the left loudspeaker sounds there at full gain, half way to the front one at equal power. -/
theorem test_gains : (aBank.gains { x := -65536 } { enable := true } = [(0, 0), (1, 2 ^ 60)]) ∧
    (aBank.gains { x := -65536, y := 65536 } { enable := true }).map (fun e => (e.1, 2 * e.2 * e.2 / 2 ^ 100)) = [(0, 2 ^ 20 - 1), (1, 2 ^ 20 - 1)] := by decide +kernel

theorem wit_Panning : (bankParse layoutBytes).triangulate = some aBank ∧ ({ enable := false } : ObjSet).enable = false ∧ aBank.allowed 0 ≠ [] ∧
    (⟨[⟨1, 0, 0, 1, true⟩], 1, 1, false, [], [[], []]⟩ : SpkBank).allowed 1 = [] ∧ 0 < (aBank.gains { x := 1 } { enable := true, snap := true }).length ∧
    (-9437184 : Int) ≤ ({} : ObjNum).gain ∧ ({} : ObjNum).gain ≤ 1179648 := by decide +kernel

/-! ### Garnet -/

/-- The bundles of Table 10-16. -/
def biquad : List Word :=
  [0x0000011F2000C620, 0x000000000000CE21, 0x000000000000D622, 0x000000000000DE23, 0x000000000000E624, 0x0000000000008F20, 0x0000000000009721,
   0x0000000000009F22, 0x00000243C0E0A723, 0x0000000000008041, 0, 0, 0x0204000000000000, 0x040C800000000000, 0x0415010210000000, 0x0426010100000000,
   0x041D810430000000, 0, 0, 0, 0x0000017300400000, 0, 0x0000000000011941, 0x0000000000010F20, 0x0000022000011721, 0x0000000000011F22, 0x0000000000012723]

/-- A core that serves insert 3, its D registers holding 1 to 16 times 2^56. -/
def aCore : Core :=
  { dr := (List.range 16).map (fun i => BitVec.ofNat 64 ((i + 1) * 2 ^ 56)), pr := [0x0C00, 0x0D00, 0x0E00, 0, 0, 0, 0x4000, 0], serving := some 3, budget := 500 }

/-- Core 0 of cluster 24 as `c`, insert 3 on it in state `x`, and image 63 that holds the biquad. -/
def garnetOf (c : Core) (x : InsState := .running) (f : Insert → Insert := id) : State := (mapped.atMs 10).onDev (fun d =>
  { (d.setIns 3 (f { state := x, image := 63, cluster := 24, stateWords := 4, coefBase := 0x4000, coefWords := 5, budget := 500 })).setGcore 384 c with
    garnet := { (d.setIns 3 (f { state := x, image := 63, cluster := 24, stateWords := 4, coefBase := 0x4000, coefWords := 5, budget := 500 })).garnet with
      cores := [(384, c)], images := [(63, ⟨true, [0, 1, 0xFFFF, 0xFFFF, 0xFFFF, 0xFFFF, 0xFFFF, 0xFFFF], biquad⟩)] } })

/-- The same without an insert; and with units 31 and 32 of Garnet READY. -/
def taskOf (c : Core) : State := (garnetOf c).onDev (fun d => d.setIns 3 {})
def spared : State := [0, 31, 32].foldl (fun s p => State.withHdr s (pgGarnet p) (fun h => { h with state := .ready })) (mapped.atMs 10)

/-- An image of one empty bundle, with its checksum; device memory holds it. -/
def imageBytes : List Byte := desc 24 ([(0, 1), (2, 0), (8, 0)] ++ (List.range 7).map (fun e => (10 + 2 * e, 0xFFFF))) ++ leBytes 4 (crc32 (leBytes 8 0)) ++ leBytes 36 0 ++ leBytes 8 0
def withImage : State := mapped.withBytes 4096 imageBytes

/-- No bundle of the biquad breaks a rule; one of format 3 does. -/
theorem test_bundles : (biquad.all bundleOk, bundleOk 0xC000000000000000) = (true, false) := by decide +kernel

/-- Bundle 0: MVI D15, 32 acts at once, LD D8, [P6+0] lands three bundles on. -/
theorem test_bundle0 : (match exec (.bundleIssue 24 0 0) (garnetOf aCore |>.onDev (fun d => { d with garnet := { d.garnet with coef := [(393216, 7)] } })) with
    | .next u => let c := u.dev.gcore 384
      decide (c.pc = 1) && (c.lands.map (fun e => (e.left, e.dest, e.value))).contains (2, .d 8, 7) && (c.lands.map (fun e => (e.left, e.dest, e.value))).contains (0, .d 15, 32)
    | _ => false) = true := by decide +kernel

/-- Bundle 12: MPY A0, D0, D8. -/
theorem test_bundle12 : mSlot aCore (mBits 0x0204000000000000) = [⟨0, .acc 0, 9 * 2 ^ 112, false⟩, ⟨3, .out 0, 9 * 2 ^ 112, false⟩] := by decide +kernel

theorem wit_GarnetCommands : Accepts garnetLoadSpec (cmd [(0, 63), (8, 4096)]) withImage ∧ Accepts garnetUnloadSpec (cmd [(0, 63)]) (taskOf {}) ∧
    Accepts insertCloseSpec (cmd [(0, 3)]) (garnetOf aCore) ∧ Accepts insertParamSpec (cmd [(0, 3), (1, 60), (2, 4)]) (garnetOf aCore) ∧
    ((garnetOf aCore).dev.settleCalls.ins 3).param.length = 64 ∧
    Accepts insertBypassSpec (cmd [(0, 3), (1, 1)]) (garnetOf aCore) ∧ Accepts insertBypassSpec (cmd [(0, 3)]) (garnetOf aCore .bypassed) ∧
    Accepts insertResetSpec (cmd [(0, 3)]) (garnetOf aCore .faulted) ∧ Accepts insertQuerySpec (cmd [(0, 255)]) (garnetOf aCore) ∧
    Accepts garnetSwapSpec (cmd [(1, 32)]) spared ∧ Accepts garnetSwapSpec (cmd [(1, 255)]) spared ∧
    Accepts taskStartSpec (cmd [(0, 31), (1, 15), (2, 63), (3, 1), (4, 8192)]) (taskOf {}) ∧
    Accepts taskStopSpec (cmd [(0, 24)]) (taskOf { task := true }) ∧ ∀ n, (mapped.dev.ins n).due = false :=
  ⟨accepts_of (by decide +kernel), accepts_of (by decide +kernel), accepts_of (by decide +kernel), accepts_of (by decide +kernel),
   by decide +kernel, accepts_of (by decide +kernel), accepts_of (by decide +kernel), accepts_of (by decide +kernel),
   accepts_of (by decide +kernel), accepts_of (by decide +kernel), accepts_of (by decide +kernel), accepts_of (by decide +kernel), accepts_of (by decide +kernel),
   fun _ => rfl⟩

/-- INSERT_OPEN and INSERT_COEF pass every check where they wait for their boundary. -/
theorem wit_InsertHeld :
    ((taskOf {}).ready = true ∧ (taskOf {}).dev.joined = false ∧ (taskOf {}).dev.datedPending < 8192 ∧
     (insertOpenSpec.judged (cmd [(0, 3), (1, 63), (2, 24), (3, 15), (6, 4), (8, 500), (12, 5)]) (taskOf {})).isNone = true) ∧
    ((garnetOf aCore).ready = true ∧ (garnetOf aCore).dev.joined = false ∧ (garnetOf aCore).dev.datedPending < 8192 ∧
     (insertCoefSpec.judged (cmd [(0, 3), (2, 4), (4, 1), (8, 8192)]) (garnetOf aCore)).isNone = true) := by decide +kernel

/-- A task stalled at DISP_GET whose domain has an item, and one whose domain has none. -/
def anItem : Item := ⟨1, 2, 0, 8192, 1, 0, 0x100, 0x200⟩
def itemWaits : State := (taskOf { task := true, domain := 8192, stall := 1 }).onDev (fun d => d.setDomain 8192 { waiting := [(1, anItem)] })

/-- A task stalled at XFER_GO: 8 words from device address `a`. -/
def xfer (a : Nat) : State := taskOf { task := true, stall := 2, xferDev := a, xferCtl := 8 * 65536 }

theorem wit_GarnetExecution :
    (let s := garnetOf {} .running (fun x => { x with due := true })
     s.ready = true ∧ (s.dev.ins 3).due = true ∧ 16 * (s.dev.ins 3).cluster + (s.dev.ins 3).core = 384 ∧ (s.dev.coreInserts 384).any (fun e => e.2.due && decide (e.1 < 3)) = false ∧
     (s.dev.gcore 384).serving = none ∧ (s.dev.feeders 3).any (fun m => (s.dev.ins m).due) = false) ∧
    (let s := garnetOf { aCore with issued := 500 }
     (s.dev.gcore 384).serving = some 3 ∧ (s.dev.gcore 384).budget ≤ (s.dev.gcore 384).issued) ∧
    (let s := garnetOf { aCore with pc := 10 }
     coreOf 24 0 = some (16 * 24 + 0) ∧ (s.dev.gcore 384).mayIssue = true ∧ (s.dev.gcore 384).lands = [] ∧ (s.dev.gcore 384).rti = false ∧ (s.dev.gcore 384).pc < 1024 ∧
     s.dev.bundleAt 384 = 0 ∧ (s.dev.gcore 384).branch = none ∧ (s.dev.gcore 384).ended = 0 ∧ [0, 1, 2].all (fun i => nthD 0 (s.dev.gcore 384).lc i == 0) = true) ∧
    (let s := (garnetOf aCore).onDev (fun d => { d with garnet := { d.garnet with images := [(63, ⟨true, [0], [0xC000000000000000]⟩)] } })
     (s.dev.gcore 384).mayIssue = true ∧ bundleOk (s.dev.bundleAt 384) = false ∧ (s.dev.gcore 384).serving = some 3) ∧
    ((taskOf { task := true, stall := 1 }).dev.gcore 384).stall = 1 ∧ ((taskOf { task := true, stall := 1 }).dev.domain 0).next = none ∧
    ((itemWaits.dev.gcore 384).stall = 1 ∧ (itemWaits.dev.domain (itemWaits.dev.gcore 384).domain).next = some (1, anItem)) ∧
    (((xfer 0x1000).dev.gcore 384).stall = 2 ∧ ((xfer 0x1000).dev.gcore 384).fault = none ∧ (xfer 0x1000).dev.xferFail ((xfer 0x1000).dev.gcore 384) = none ∧
     (xfer 0x40000000).dev.xferFail ((xfer 0x40000000).dev.gcore 384) ≠ none) ∧
    (let s := taskOf { task := true, timer := 1, timerAt := msT, irq := 2, imask := 2, status := 0x0800 }
     (s.dev.gcore 384).task = true ∧ (s.dev.gcore 384).timer ≠ 0 ∧ (s.dev.gcore 384).timerAt ≤ s.dev.now ∧ (s.dev.gcore 384).ie = true ∧ (s.dev.gcore 384).branch = none ∧
     (s.dev.gcore 384).stall = 0 ∧ (s.dev.gcore 384).irq / 2 ^ 1 % 2 = 1 ∧ (s.dev.gcore 384).imask / 2 ^ 1 % 2 = 1 ∧ (s.dev.gcore 384).irq / 2 ^ 0 % 2 = 0 ∧
     (s.dev.gcore 384).lands = []) := by decide +kernel

theorem wit_GarnetMoves :
    (let s := spared.onDev (fun d => { d with garnet := { d.garnet with moves := [(0, some ⟨0, 32, 0⟩)] } })
     s.ready = true ∧ s.dev.garnet.map.length = 32 ∧ tabGetD none s.dev.garnet.moves 0 = some ⟨0, 32, 0⟩ ∧ 0 ≤ s.dev.now ∧ 32 ≠ s.dev.gaUnit 0 ∧ s.dev.gaUnit 0 < 33) ∧
    (spared.dev.gaLogical 23 = some 23 ∧ spared.dev.gaLogical 32 = none ∧ spared.dev.gaDead 0 = false) ∧
    (let s := (spared.withHdr (pgGarnet 0) (fun h => { h with state := .faulted })).onDev (fun d => { d with garnet := { d.garnet with dead := [(0, 30)] } })
     s.ready = true ∧ s.dev.gaSpares = [32] ∧ s.dev.garnet.dead.any (fun e => e.1 == 0 && e.2 + 1 == s.dev.clk.nextBlock) = true ∧ s.dev.gaUnit 0 < 33 ∧ (s.dev.page (pgGarnet (s.dev.gaUnit 0))).state = .faulted) := by
  decide +kernel

theorem wit_GarnetInstructionSet :
    (-(2 ^ 143 : Int) ≤ 2 ^ 143 - 1 ∧ (accStore 3 0 false).2 = false ∧ nb (mBits 0x0204000000000000) 15 5 = 1 ∧
     (let m := mBits 0x040C800000000000; nb m 15 5 = 2 ∧ -(2 ^ 143 : Int) ≤ nthD 0 aCore.acc (nb m 13 2) + (aCore.d (nb m 9 4)).toInt * (aCore.d (nb m 5 4)).toInt ∧
       nthD 0 aCore.acc (nb m 13 2) + (aCore.d (nb m 9 4)).toInt * (aCore.d (nb m 5 4)).toInt ≤ 2 ^ 143 - 1) ∧ nb (8 * 2 ^ 15) 15 5 = 8) ∧
    (let a := 0x03 * 2 ^ 16 + 1 * 2 ^ 8 + 1 * 2 ^ 4; nb a 16 6 = 0x03 ∧ -(2 ^ 63 : Int) ≤ (aCore.d (nb a 8 4)).toInt + (aCore.d (nb a 4 4)).toInt ∧
       (aCore.d (nb a 8 4)).toInt + (aCore.d (nb a 4 4)).toInt ≤ 2 ^ 63 - 1 ∧
       (let c := { aCore with dr := List.replicate 16 0x7FFFFFFFFFFFFFFF }; 2 ^ 63 - 1 < (c.d (nb a 8 4)).toInt + (c.d (nb a 4 4)).toInt)) ∧
    (0 < nthD 0 ({ aCore with lr := [4] } : Core).lr 0 ∧ nthD 0 aCore.lr 0 = 0 ∧ [0, 1, 2].all (fun i => nthD 0 aCore.lc i == 0) = true ∧
     (let c : Core := { aCore with lc := [0, 2, 0], le := [9, 0, 9] }; c.lc.length = 3 ∧ c.branch = none ∧ nthD 0 c.le 1 = c.pc ∧
       (∀ i, i < 3 → i ≠ 1 → nthD 0 c.lc i = 0) ∧ 0 < nthD 0 c.lc 1)) := by
  decide +kernel

/-! ### Egress -/

/-- A gate list: BASE 0, a cycle of 1 ms, class 0 alone open for 64 us, then every class. -/
def gateBytes : List Byte := desc 48 [(16, 1000000), (20, 2), (32, 64000), (36, 1), (40, 936000), (44, 255)]
def aGates : GateList := ⟨0, 1000000, [(64000, 1), (936000, 255)]⟩

/-- Port 7 up, its lanes powered, and queue 8,191 bound to stream 0 on it, of class `c`, changed by `f`. -/
def queued (f : Queue → Queue := id) (g : EPort → EPort := id) : State :=
  (List.range 4).foldl (fun s i => State.withReg s (pgQuad 7) (0x100 + 0x40 * i) 0x0A) (((mapped.atMs 128).withBytes 4096 gateBytes).withReg (pgPort 7) 0x048 1)
  |>.onDev (fun d => ((d.onPlink 7 (fun x => { x with up := true })).onQueue 8191 (fun q => f { q with bind := .stream, port := 7 })).onEport 7 g)

/-- A frame of 64 bytes. -/
def aFrame : EFrame := { bytes := List.replicate 64 1, at_ := 0 }

/-- Queue 8,191 that holds it, visited, at the head of class 4's active list. -/
def sendable : State := queued (fun q => { q with frames := [aFrame], visited := true, deficit := 68 }) (fun x => { x with active := [[], [], [], [], [8191], [], [], []] })

/-- Control queue 7 full, as its LIMIT stands. -/
def ctrlFull : State := (queued.withReg (pgEgress 7) 0x058 (fmk 32 16 1)).onDev (fun d => d.onQueue (ctrlQ 7) (fun q => { q with frames := [aFrame] }))

theorem wit_EgressCommands : Accepts queueAssignSpec (cmd [(2, 8191), (4, 63)]) (queued id) ∧
    Accepts queueSetSpec (cmd [(0, 8191), (2, 7), (3, 1), (4, 256), (8, 40000000), (12, 4096)]) (queued id) ∧ Accepts queueQuerySpec (cmd [(0, 8191)]) (queued id) ∧
    Accepts queueFlushSpec (cmd [(0, 8191)]) sendable ∧ Accepts gateListSetSpec (cmd [(0, 7), (8, 4096)]) (queued id) ∧
    Accepts gateListCancelSpec (cmd [(0, 7)]) (queued id (fun x => { x with pend := some (aGates, secT, false) })) ∧
    Accepts hostSendSpec (cmd [(0, 7), (2, 60), (8, 8192)]) ctrlFull ∧
    (ctrlFull.dev.qLimit (ctrlQ 7) ≤ (ctrlFull.dev.queue (ctrlQ 7)).frames.length) ∧
    (let s := ctrlFull.withReg (pgEgress 7) 0x058 (fmk 32 16 2)
     (s.dev.queue (ctrlQ 7)).frames.length < s.dev.qLimit (ctrlQ 7) ∧ (s.dev.queue (ctrlQ 7)).frames ≠ []) :=
  ⟨accepts_of (by decide +kernel), accepts_of (by decide +kernel), accepts_of (by decide +kernel), accepts_of (by decide +kernel), accepts_of (by decide +kernel),
   accepts_of (by decide +kernel), accepts_of (by decide +kernel), by decide +kernel, by decide +kernel⟩

/-- A gate list of cycle 1 ms asked for at 128 ms switches 20 us later at the earliest: at 129 ms. -/
theorem test_gateSwitch : (match exec (.gateListSet (cmd [(0, 7), (8, 4096)])) (queued id) with
    | .next u => (u.dev.eport 7).pend.map (fun e => e.2.1) | _ => none) = some (129 * msT) := by decide +kernel

theorem wit_EgressEvents :
    (sendable.ready = true ∧ sendable.dev.portMaySend 6 = false ∧ sendable.dev.candidate 6 = none ∧ sendable.dev.portMaySend 7 = true ∧
     sendable.dev.candidate 7 = some (4, 8191) ∧ (sendable.dev.queue 8191).frames = [aFrame] ∧ (sendable.dev.queue 8191).visited = true ∧
     aFrame.len ≤ (sendable.dev.queue 8191).deficit ∧ aFrame.ptp = false ∧ sendable.dev.active = true) ∧
    (let s := sendable.withPair (fun p => { p with role := .undecided })
     s.ready = true ∧ s.dev.active = false ∧ s.dev.pair.role ≠ .secondary) ∧
    (8192 ≤ ctrlQ 0 ∧ ((queued id).dev.eport 7).pend = none ∧ ((queued id).dev.eport 7).oper = none ∧ (queued id (fun x => { x with nextSample := secT })).dev.now < secT ∧
     (queued id (fun x => { x with pend := some (aGates, secT, false) })).dev.now < secT) ∧
    (nthD [] ((queued id).dev.eport ((queued id).dev.qPort 8191)).active ((queued id).dev.qCls 8191)).contains 8191 = false ∧
    (let s := queued id (fun x => { x with pend := some (aGates, 128 * msT, false), oper := some aGates })
     s.ready = true ∧ (s.dev.eport 7).pend = some (aGates, 128 * msT, false) ∧ 128 * msT ≤ s.dev.now ∧ (s.dev.eport 7).oper = some aGates ∧ s.dev.now < 129 * msT) ∧
    ((queued id).dev.eport 7).nextSample ≤ (queued id).dev.now ∧ (queued id).dev.now % (2 ^ fld ((queued id).dev.reg (pgEgress 7) 0x050) 0 4 * usT) < usT ∧
    ((queued id).dev.portQueues 7).filter (fun x => x == 8191) = [8191] ∧
    (Reaches (queued id) (pgEgress 0) ∧ (queued id).dev.pair.role = .solo ∧ bit ((queued id).dev.reg (pgEgress 0) 0x068) 0 = false ∧ bit (1 : Word) 0 = true) := by
  unfold Reaches; decide +kernel

/-- The frame leaves at once, and the MAC is busy for 64, an FCS of 4 and 20 bytes at 10 Gbit/s, 70.4 ns. -/
theorem test_transmit : (match exec (.transmitOpportunity 7) sendable with
    | .next u => (match u.dev.ctl.out.getLast? with | some (.frame 7 b _ _ _) => b == List.replicate 64 1 | _ => false) && decide ((u.dev.queue 8191).frames = []) &&
        decide (((u.dev.eport 7).busyUntil - 128 * msT) * 10 / nsT = 704)
    | _ => false) = true := by decide +kernel

/-- The egress stopped by an alarm. -/
def stopped : State := (queued id).onDev (fun d => { d with egress := { d.egress with stopped := true } })

theorem wit_EgressRules : (stopped.dev.egress.stopped = true ∧ (stopped.dev.srtpQueue 8191 || ({ aFrame with srtcp := true } : EFrame).srtcp) = true) ∧
    (let d := (queued (fun q => { q with limit := 1, frames := [aFrame] })).dev
     d.egress.stopped = false ∧ d.qLimit 8191 ≤ (d.queue 8191).frames.length) ∧
    (sendable.dev.queue 8191).frames.length < sendable.dev.qLimit 8191 ∧ (sendable.dev.queue 8191).frames ≠ [] ∧
    10 * msT ≤ 0 + 10 * max 1 (1000000 * nsT) := by decide +kernel

/-! ### Flint -/

/-- A key half: transform 1, no pending index. -/
def aHalf : KeyHalf := ⟨1, true, List.replicate 16 7, List.replicate 14 9, none, false⟩

/-- Realm 63's key window on slot 16,383, which realm `r` owns, holding `x`, with KEY_CFG `v`. -/
def keyed (r : Nat) (x : KeySlot := {}) (v : Word := 0x11) (w : KeyWin := {}) : State :=
  (((mapped.atMs 10).withReg (pgRealm 63) 0x200 16383).withReg (pgRealm 63) 0x208 v).onDev (fun d =>
    { (d.setSlot 16383 x) with flint := { (d.setSlot 16383 x).flint with owner := [(16383, r)], wins := [(63, w)] } })

/-- The alarm latched, its source gone. -/
def latched : State := { mapped with aon := { mapped.aon with alarmLatch := true, alarmCause := 1 } }

theorem wit_FlintKeys :
    (Accepts keyslotAssignSpec (cmd [(2, 16384), (4, 63)]) mapped ∧ Accepts keyQuerySpec (cmd [(0, 16383)] 63) (keyed 63) ∧ Accepts flintReleaseSpec (cmd []) latched) ∧
    (let s := keyed 63
     s.ready = true ∧ fld (s.dev.reg (pgRealm 63) 0x200) 0 14 = 16383 ∧ (s.dev.keyWin 63).busy = false ∧ s.dev.decides = true ∧ s.dev.slotOwner 16383 = 63 ∧
     s.dev.writeBad 63 16383 = false ∧ (s.dev.slot 16383).code ≠ 2 ∧ (s.dev.keyWin 63).key.length = 32 ∧ (keyed 62).dev.slotOwner 16383 ≠ 63 ∧
     (keyed 63 {} 0).dev.writeBad 63 16383 = true) ∧
    ((keyed 63 {} 0x11 { busy := true }).dev.keyWin 63).busy = true ∧
    ((keyed 63 { current := some aHalf, pending := some aHalf }).dev.slot 16383).code = 2 ∧
    (let s := keyed 63 {} 0x11 { busy := true, slot := 16383, act := .write aHalf }
     (s.dev.keyWin 63).act = .write aHalf ∧ (s.dev.slot (s.dev.keyWin 63).slot).current = none) ∧
    ((keyed 63 {} 0x11 { busy := true, slot := 16383, act := .cancel }).dev.keyWin 63).act = .cancel ∧
    (let s := (keyed 63 {} 0x11 { busy := true, since := 9 * msT }).withPair (fun p => { p with role := .primary, partner := .ready })
     s.ready = true ∧ s.dev.mirrored = true ∧ (s.dev.keyWin 63).since + msT ≤ s.dev.now) := by
  refine ⟨⟨accepts_of (by decide +kernel), accepts_of (by decide +kernel), accepts_of (by decide +kernel)⟩, by decide +kernel⟩

/-- KEY_WRITE with KEY_CFG for transform 1, egress; confirmed, the slot is ACTIVE with the key. -/
theorem test_keyWrite : (match exec (.keyWrite 63) (keyed 63) with
    | .next u => match exec (.keyCmdConfirm 63) u with
      | .next v => decide ((v.dev.slot 16383).code = 1) && !(v.dev.keyWin 63).busy | _ => false
    | _ => false) = true := by decide +kernel

theorem wit_Alarms : ({ mapped with aon := { mapped.aon with auxOn := false } } : State).aon.auxOn = false ∧
    (mapped.aon.auxOn = true ∧ (0 : BitVec 5) &&& (mapped.aon.alarmEnable ||| 0x0B) = 0 ∧ (1 : BitVec 5) &&& (mapped.aon.alarmEnable ||| 0x0B) ≠ 0 ∧ latched.aon.alarmLatch = true ∧
     mapped.aon.alarmLatch = false ∧ mapped.up = true ∧
     (let s := (mapped.withLeg 0 { state := .active, desc := { ({} : Leg).desc with srtp := true } }).onDev (fun d => d.onQueue 8191 (fun q => { q with bind := .leg, obj := 0, port := 7 }))
      (s.dev.queue 8191).bind = .leg ∧ (s.dev.queue 8191).obj = 0 ∧ (s.dev.leg 0).desc.srtp = true)) ∧
    (Reaches mapped pgFlint ∧ mapped.dev.boot.phase = .ready ∧ mapped.dev.pair.role = .solo ∧ mapped.dev.flint.pipes.length = 16 ∧ bit (0x8000 : Word) 15 = true ∧
     nthD PState.off mapped.dev.flint.pipes 15 = .ready ∧ bit (0 : Word) 15 = false) ∧
    (let s := mapped.onDev (fun d => { d with flint := { d.flint with pipes := setNth d.flint.pipes 15 .draining } })
     s.ready = true ∧ s.dev.flint.pipes.length = 16 ∧ nthD PState.off s.dev.flint.pipes 15 = .draining ∧ tabGetD 0 s.dev.flint.moveAt 15 ≤ s.dev.now) := by
  unfold Reaches; decide +kernel

/-- An RTP packet of 12 bytes and 4 of payload. -/
def rtpBytes : List Byte := [0x80, 96] ++ beBytes 2 7 ++ beBytes 4 9 ++ beBytes 4 3 ++ [1, 2, 3, 4]

/-- The same as a sender seals it. -/
def sealed_ : List Byte := srtpSeal aHalf 3 7 rtpBytes

/-- Slot 16,383 for ingress. -/
def ingress : Dev := (keyed 0 { current := some aHalf }).dev

theorem sealed_opens : ∃ q, srtpOpen aHalf 3 7 sealed_ = some q := by
  have hn : rtpHeaderLen sealed_ = 12 := by decide +kernel
  have hp : rtpHeaderLen rtpBytes = 12 := by decide +kernel
  have hc : (xorStream aHalf false 3 7 (rtpBytes.drop 12)).length = 4 := by decide +kernel
  have ht : (rtpBytes.take 12).length = 12 := by decide +kernel
  have hm : sealed_.length - tagLen aHalf.transform false = 16 := by decide +kernel
  have hs : sealed_ = rtpBytes.take 12 ++ xorStream aHalf false 3 7 (rtpBytes.drop 12) ++
      srtpTagOf aHalf false 3 7 (rtpBytes.take 12) (xorStream aHalf false 3 7 (rtpBytes.drop 12)) := by simp only [sealed_, srtpSeal, hp]
  unfold srtpOpen
  simp only [hn, hm]
  rw [if_neg (by decide), if_pos]
  · exact ⟨_, rfl⟩
  · have a : sealed_.drop 16 = srtpTagOf aHalf false 3 7 (rtpBytes.take 12) (xorStream aHalf false 3 7 (rtpBytes.drop 12)) := by
      rw [hs, List.drop_left' (by rw [List.length_append, hc, ht])]
    have b : sealed_.take 16 = rtpBytes.take 12 ++ xorStream aHalf false 3 7 (rtpBytes.drop 12) := by
      rw [hs, List.take_left' (by rw [List.length_append, hc, ht])]
    have c : sealed_.take 12 = rtpBytes.take 12 := by rw [hs, List.append_assoc, List.take_left' ht]
    rw [a, b, c, List.drop_left' ht]

theorem wit_SrtpRules : rtpHeaderLen rtpBytes ≤ rtpBytes.length ∧ replayed (some 5) 1 5 = true ∧ (5 : Nat) < 6 ∧ (65536 : Nat) ≤ 65536 ∧ 65536 < 2 ^ 48 - 65536 ∧
    (∃ e q, ingress.flintIn 16383 false sealed_ = (e, some q)) := by
  refine ⟨by decide, by decide, by decide, by decide, by decide, ?_⟩
  obtain ⟨q, hq⟩ := sealed_opens
  have h1 : (ingress.slot 16383) = { current := some aHalf } := by decide +kernel
  have h2 : ingress.slotCtxs 16383 = [] := by decide +kernel
  have h3 : beAt sealed_ 8 4 = 3 := by decide +kernel
  have h4 : beAt sealed_ 2 2 = 7 := by decide +kernel
  refine ⟨(ingress.flintIn 16383 false sealed_).1, q, Prod.ext rfl ?_⟩
  simp [Dev.flintIn, h1, h2, h3, h4, KeySlot.halves, srtpIndex, replayed, hq]

/-- The sequence number after a wrap belongs to the next roll-over. -/
theorem test_srtpIndex : (srtpIndex (some 131071) 0, srtpIndex (some 131072) 65535) = (131072, 131071) := by decide +kernel

/-! ### Lanes and ports -/

/-- Lane 31 of port 7 as `x`, LANE_CFG `v`, port 7 enabled. -/
def laned (x : Lane) (v : Word := 0x0A) : State :=
  ((((mapped.atMs 1000).withReg (pgPort 7) 0x048 1).withReg (pgQuad 7) 0x1C0 v).withReg (pgQuad 7) 0x1D0 0x10).onDev (fun d => d.setLane 31 x)

/-- Every lane of a unit as `x`, its link as `y`. -/
def united (n : Nat) (x : Lane) (y : PortLink := {}) : State := ((mapped.atMs 1000).withReg (pgPort 7) 0x048 1).onDev (fun d =>
  ((lanesOf n).foldl (fun d l => d.setLane l x) d).onPlink n (fun _ => y))

theorem wit_LaneCommands :
    (mapped.up = true ∧ (laned { train := .idle }).dev.rxPwr 31 = 2 ∧ ((laned { train := .idle }).dev.lane 31).train = .idle ∧
     (laned { train := .idle } 0x16).dev.rxPwr 31 = 1 ∧ bit ((laned { train := .idle } 0x16).dev.laneCfg 31) 4 = true ∧ (laned {} 0).dev.rxPwr 31 = 0 ∧
     (let s := laned { train := .commaSearch }; (s.dev.lane 31).train.searching = true ∧ (s.dev.lane 31).train ≠ .linkUp ∧ (s.dev.lane 31).comma = false ∧
       (s.dev.lane 31).cdrAt + 10 * msT ≤ s.dev.now ∧ (s.dev.lane 31).run < 3 ∧ (s.dev.lane 31).slips + 9 < 10) ∧
     3 ≤ ((laned { train := .commaSearch, run := 3 }).dev.lane 31).run ∧
     (let s := laned { train := .cdrWait }; (s.dev.lane 31).waitsCdr = true ∧ (s.dev.lane 31).tryAt + msT ≤ s.dev.now) ∧
     (let s := laned { train := .cdrWait, tryAt := secT }; (s.dev.lane 31).waitsCdr = true ∧ s.dev.now < (s.dev.lane 31).tryAt + msT) ∧
     ((laned {}).dev.lane 31).waitsCdr = false ∧
     (let s := laned { train := .cdrWait, rest := some secT }; (s.dev.lane 31).rest = some secT ∧ (s.dev.lane 31).train = .cdrWait ∧ secT ≤ s.dev.now) ∧
     (let s := laned { train := .noPartner }; (s.dev.lane 31).train = .noPartner ∧ (s.dev.lane 31).partnerAt + fld (s.dev.reg (pgQuad (31 / 4)) 0x050) 0 16 * msT ≤ s.dev.now) ∧
     (let s := united 8 { train := .linkUp }; (s.dev.lane 39).train = .linkUp ∧ 32 ∈ lanesOf (unitOf 39) ∧ 32 ≠ 39 ∧ (s.dev.lane 32).train = .linkUp)) ∧
    (({} : Lane).retry = false ∧ ({} : Lane).tries < 7 ∧ 7 ≤ ({ tries := 7 } : Lane).tries ∧ ({ retry := true } : Lane).retry = true) := by decide +kernel

/-- The eighth failed try takes a lane to NO_PARTNER. -/
theorem test_failedTries : (match exec (.cdrTimeout 31) (laned { train := .cdrWait, tries := 7 }) with | .next u => (u.dev.lane 31).train | _ => .off) = .noPartner := by decide +kernel

theorem wit_PortCommands :
    (Accepts laneRetrainSpec (cmd [(0, 39)]) (united 8 { train := .noPartner }) ∧ Accepts portQuerySpec (cmd [(0, 8)]) mapped) ∧
    ((united 8 { train := .deskew }).dev.deskewing 8 = true ∧ (∀ k, k ∈ [0, 160] → k ≤ (united 8 { train := .deskew }).dev.skewLimit 8) ∧
     (∃ k, k ∈ [161] ∧ (united 8 { train := .deskew }).dev.skewLimit 8 < k) ∧
     maxN ((lanesOf 8).map (fun l => ((united 8 { train := .deskew }).dev.lane l).alignedAt)) + msT ≤ (united 8 { train := .deskew }).dev.now ∧
     ((united 8 { train := .linkUp } { up := true }).dev.plink 8).up = true) ∧
    (let s := laned {} 0x80
     s.up = true ∧ bit (s.dev.laneCfg 31) 7 = true ∧ fld (s.dev.laneCfg 31) 5 2 = 0 ∧ bit (s.dev.laneCfg 31) 9 = false ∧ bit (s.dev.prbsCfg 31) 7 = false ∧
     fld (s.dev.prbsCfg 31) 4 3 ≠ 0 ∧ bit ((laned {}).dev.laneCfg 31) 7 = false) ∧
    (let s := united 8 { train := .linkUp } { up := true }; s.up = true ∧ (s.dev.plink 8).up = true ∧ s.dev.dense 8 = true) ∧
    (let s := united 7 { train := .linkUp } { up := true, elastic := List.replicate 10 secT }
     s.up = true ∧ (s.dev.plink 7).up = true ∧ s.dev.dense 7 = false ∧ 10 ≤ ((s.dev.plink 7).elastic.filter (fun t => decide (s.dev.now < t + secT))).length ∧ (s.dev.plink 7).remote = false) ∧
    (let s := laned {}
     s.dev.boot.phase = .ready ∧ s.dev.pair.role = .solo ∧ Reaches s (pgQuad (31 / 4)) ∧ Reaches s (pgPort 7) ∧ bit (s.dev.portCfg 7) 0 = true ∧ bit (0x80 : Word) 7 = true ∧
     bit (0 : Word) 0 = false) := by
  refine ⟨⟨accepts_of (by decide +kernel), accepts_of (by decide +kernel)⟩, ?_⟩
  unfold Reaches; decide +kernel

theorem wit_LinkFollowsLanes : LinkFollows mapped.dev := by
  unfold LinkFollows; decide +kernel

/-- A checker that has seeded, and one that has locked; codes 1 to 3 name sequences. -/
theorem wit_PrbsChecking : (let c : Checker := { reg := List.replicate 7 true }
    c.reg.length = (prbsTaps 1).1 ∧ c.locked = false ∧ c.good = 0 ∧ ({ c with locked := true }).wrong = []) := by decide +kernel

/-- PRBS7 repeats after 127 bits and no sooner. -/
theorem test_prbs : (decide ((prbsRun 1 127 (List.replicate 7 true)).2 = List.replicate 7 true), ((List.range 127).drop 1).all (fun k => (prbsRun 1 k (List.replicate 7 true)).2 != List.replicate 7 true)) =
    (true, true) := by decide +kernel

/-! ### The mirrored pair -/

/-- A unit of a pair at 1 s in role `r` that sees its partner as `p`, its link up, the rest of it changed by `f`. -/
def pairUnit (r : Role) (p : Partner) (f : Pair → Pair := id) : State :=
  ((mapped.atMs 1000).withPair (fun x => f { x with role := r, partner := p, up := true, strap := 1, rxSeq := 7, txSeq := 5 })).onDev (fun d => d.onPlink 8 (fun x => { x with up := true }))

/-- A frame that is the one expected, and one whose CRC is wrong. -/
def goodHdr : LinkHdr := ⟨7, 5, 1000, true⟩
def crcBadHdr : LinkHdr := ⟨7, 5, 1000, false⟩

/-- A COMMAND frame sent at 0 and not acknowledged; a packet kept; a manifest entry; what a partner says of itself. -/
def cmdFrame : LinkFrame := ⟨4, ltCommand, true, [], some 0⟩
def aStash : Stash := ⟨4095, 15, 9, 0, 999 * msT, [1, 2, 3], 0⟩
def anEntry : ManifestEntry := ⟨4095, 15, false, 9, 999 * msT⟩
def aListed : Listed := { index := 3, leg := 4095, stream := 15, seq := 9, stamp := 999 * msT, isEnd := false }
def helloOf (role fmt : Nat) : HelloMsg := ⟨2, role, fmt, 77, true, 3⟩

theorem wit_PairTiming :
    (let s := pairUnit .secondary .ready (fun p => { p with hbOk := true, hbLast := 0, hbRun := 5 })
     s.up = true ∧ s.dev.paired = true ∧ s.dev.pair.hbNext * (100 * usT) ≤ s.dev.now ∧ s.dev.pair.hbOk = true ∧ s.dev.pair.hbLast + 500 * usT ≤ s.dev.now ∧
     s.dev.pair.role = .secondary ∧ s.dev.pair.partner = .ready ∧ s.dev.pair.takeover = none ∧ s.dev.pair.rxAt + 500 * usT ≤ s.dev.now) ∧
    (let s := pairUnit .secondary .ready (fun p => { p with hbNext := 20000, hbLast := secT, hbOk := true, rxAt := secT })
     s.dev.now < s.dev.pair.hbNext * (100 * usT) ∧ s.dev.now < s.dev.pair.hbLast + 500 * usT ∧ s.dev.now < s.dev.pair.rxAt + 500 * usT) ∧
    (pairUnit .secondary .ready).dev.pair.hbOk = false ∧
    (let s := (pairUnit .undecided .absent).atMs 2000
     s.dev.paired = true ∧ s.dev.pair.role = .undecided ∧ s.dev.pair.since + 2 * secT ≤ s.dev.now ∧ (pairUnit .undecided .conflict).dev.pair.partner = .conflict) ∧
    (let s := pairUnit .primary .ready (fun p => { p with hbRun := 5 })
     5 ≤ s.dev.pair.hbRun ∧ s.dev.pair.role = .primary ∧ s.dev.pair.partner ≠ .absent ∧ s.dev.pair.partner ≠ .conflict) ∧
    (let s := pairUnit .primary .absent (fun p => { p with up := false })
     s.dev.linkUser = true ∧ s.dev.boot.phase ≠ .recovery ∧ (s.dev.plink 8).up = true ∧ s.dev.pair.up = false) ∧
    (let s := pairUnit .primary .ready (fun p => { p with sent := [cmdFrame], own := [(3, 0, [])] })
     s.dev.pair.up = true ∧ s.dev.pair.sent ≠ [] ∧ s.dev.pair.ackAt + 2 * msT ≤ s.dev.now ∧ s.dev.pair.ackAt + 20 * usT ≤ s.dev.now ∧ s.dev.pair.retxAt + 20 * usT ≤ s.dev.now ∧
     s.dev.pair.ready = [] ∧ s.dev.pair.txAt + 10 * usT ≤ s.dev.now ∧ s.dev.pair.sent.length < 8192 ∧ (∃ fr t, fr ∈ s.dev.pair.sent ∧ fr.proc = some t ∧ t + 200 * usT ≤ s.dev.now) ∧
     (∃ e, e ∈ s.dev.pair.own ∧ e.2.1 + 200 * msT ≤ s.dev.now)) ∧
    (let s := pairUnit .primary .ready (fun p => { p with txAt := secT })
     (s.dev.plink 8).up = true ∧ s.dev.pair.sent = [] ∧ s.dev.now < s.dev.pair.txAt + 10 * usT ∧ (∀ fr, fr ∈ s.dev.pair.sent ++ s.dev.pair.ready → fr.proc = none) ∧ s.dev.pair.own = []) := by
  refine ⟨by decide +kernel, by decide +kernel, by decide +kernel, by decide +kernel, by decide +kernel, by decide +kernel, ?_, by decide +kernel⟩
  exact ⟨by decide +kernel, by decide +kernel, by decide +kernel, by decide +kernel, by decide +kernel, by decide +kernel, by decide +kernel, by decide +kernel,
    ⟨cmdFrame, 0, by decide +kernel⟩, ⟨(3, 0, []), by decide +kernel⟩⟩

theorem takes_good (r : Role) (p : Partner) (f : Pair → Pair) (h : (let s := pairUnit r p f; s.up && s.dev.linkUser && s.dev.pair.up && decide (7 = s.dev.pair.rxSeq)) = true) :
    Takes (pairUnit r p f) goodHdr := by
  simp only [Bool.and_eq_true, decide_eq_true_eq] at h
  exact ⟨h.1.1.1, h.1.1.2, h.1.2, rfl, h.2⟩

theorem wit_LinkFrames :
    ((pairUnit .primary .ready).up = true ∧ (pairUnit .primary .ready).dev.linkUser = true ∧ (pairUnit .primary .ready).dev.pair.up = true ∧ crcBadHdr.crcOk = false) ∧
    (Takes (pairUnit .primary .ready) goodHdr ∧ (pairUnit .primary .ready).dev.pair.ready = []) ∧
    (Takes (pairUnit .undecided .absent) goodHdr ∧ (pairUnit .undecided .absent).dev.boot.phase ≠ .recovery ∧ (helloOf 2 0).role ≠ 4 ∧
     (helloOf 2 0).strap ≠ (pairUnit .undecided .absent).dev.pair.strap ∧ ({ helloOf 2 0 with strap := 1 } : HelloMsg).strap = (pairUnit .undecided .absent).dev.pair.strap ∧
     (helloOf 2 9).stateFmt ≠ (pairUnit .undecided .absent).dev.boot.stateFmt ∧ Takes (pairUnit .primary .absent) goodHdr ∧ Takes (pairUnit .secondary .absent) goodHdr) ∧
    (let f : Pair → Pair := fun p => { p with nextIn := 4, listed := [aListed] }
     Takes (pairUnit .secondary .ready f) goodHdr ∧ (∀ x, x ∈ (pairUnit .secondary .ready f).dev.pair.listed → x.isEnd = false ∧ x.index < (pairUnit .secondary .ready f).dev.pair.nextIn) ∧
     anEntry.isEnd = false ∧ (∀ p, p ∈ (pairUnit .secondary .ready f).dev.pair.stash → (p.leg ≠ anEntry.leg % 4096 ∨ p.stream ≠ anEntry.stream)) ∧
     (pairUnit .secondary .ready f).dev.pair.listed.find? (fun y => y.index == 3 && !y.isEnd && y.packet.isNone && !y.refused) = some aListed) ∧
    (let f : Pair → Pair := fun p => { p with kept := [(3, aStash)], held := [(9, 0, aFrame)] }
     Takes (pairUnit .primary .ready f) goodHdr ∧ (∀ e, e ∈ (pairUnit .primary .ready f).dev.pair.held → 8 < e.1) ∧
     (pairUnit .primary .ready f).dev.pair.kept.find? (fun e => e.1 == 3 && decide ((pairUnit .primary .ready f).dev.now / msT < e.2.stamp / msT + 10)) = some (3, aStash) ∧
     relayCells (pairUnit .primary .ready f).dev.pair.ready + (aStash.frame.length + 5 + 2047) / 2048 ≤ 32832 ∧ aStash.frame.length ≤ 9000 ∧ (pairUnit .primary .ready f).dev.pair.kept.find? (fun e => e.1 == 4) = none) ∧
    (let s := pairUnit .secondary .ready (fun p => { p with own := [(999, secT, [(4095, 1)])] })
     (∀ r, r ∈ s.dev.pair.due ++ [(⟨1001, 1, 0, []⟩ : LogRecord)] → s.dev.now / msT < r.epoch) ∧ s.dev.pair.partner = .ready ∧ s.dev.pair.own = [(999, secT, [(4095, 1)])] ∧
     s.dev.pair.theirs = [] ∧ s.dev.pair.resyncing = []) ∧
    (let s := pairUnit .primary .ready (fun p => { p with resyncing := [8191] })
     s.dev.pair.role = .primary ∧ s.dev.pair.resyncing = [4095 + 4096] ∧ ∀ i, i ∈ s.dev.legEncoders 4095 → (s.dev.encS i).refreshing = false) ∧
    (let s := pairUnit .secondary .joining
     Takes s goodHdr ∧ s.dev.pair.filling = false ∧ ((opSpec 0x0100).map OpSpec.atOnce) = some false ∧ (PType.device.regAt 0x050).any (fun g => !g.rws) = true ∧
     s.pageState pgDevice ≠ .isolated ∧ s.pageState pgDevice ≠ .testing ∧ s.dev.pair.partner ≠ .ready) ∧
    (let s := pairUnit .secondary .joining (fun p => { p with filling := true })
     Takes s goodHdr ∧ s.dev.pair.filling = true) ∧
    ((pairUnit .secondary .ready).dev.pair.partner = .ready ∧ (pairUnit .secondary .ready).dev.pair.takeover = none) := by
  refine ⟨by decide +kernel, ⟨takes_good _ _ _ (by decide +kernel), by decide +kernel⟩,
    ⟨takes_good _ _ _ (by decide +kernel), by decide +kernel, by decide +kernel, by decide +kernel, by decide +kernel, by decide +kernel, takes_good _ _ _ (by decide +kernel),
     takes_good _ _ _ (by decide +kernel)⟩, ⟨takes_good _ _ _ (by decide +kernel), by decide +kernel, by decide +kernel, by decide +kernel, by decide +kernel⟩,
    ⟨takes_good _ _ _ (by decide +kernel), by decide +kernel, by decide +kernel, by decide +kernel, by decide +kernel⟩, by decide +kernel, by decide +kernel,
    ⟨takes_good _ _ _ (by decide +kernel), by decide +kernel⟩, ⟨takes_good _ _ _ (by decide +kernel), by decide +kernel⟩, by decide +kernel⟩

/-- A HELLO of a PRIMARY makes an undecided unit SECONDARY. -/
theorem test_hello : (match exec (.hello goodHdr (helloOf 2 0)) (pairUnit .undecided .absent) with | .next u => u.dev.pair.role | _ => .solo) = .secondary := by decide +kernel

/-- The other premises of the pair's rows: a unit alone has no pair, a link that is down, a Mirror Link that fails. -/
theorem wit_PairForms : (mapped.up = true ∧ mapped.dev.paired = false ∧ mapped.dev.pair.up = false) ∧
    (let s := pairUnit .secondary .ready (fun p => { p with hbRun := 4 })
     s.dev.paired = true ∧ s.dev.pair.hbRun < 5 ∧ s.dev.pair.role ≠ .undecided) ∧
    (let s := (pairUnit .primary .ready).onDev (fun d => d.onPlink 8 (fun x => { x with up := false }))
     s.up = true ∧ s.dev.pair.up = true ∧ (s.dev.plink 8).up = false) := by decide +kernel

/-- What decides Carried. -/
theorem carried_of {o : OpSpec} {c : HostCmd} {s : State}
    (h : (s.ready && decide (s.dev.datedPending < 8192) && (o.actsNow (o.token c s) s.dev).isSome && (o.judged c s).isNone) = true) : Carried o c s := by
  simp only [Bool.and_eq_true, Option.isNone_iff_eq_none, decide_eq_true_eq] at h
  exact ⟨h.1.1.1, fun _ => h.1.1.2, h.1.2, h.2⟩

theorem wit_PairCommands :
    (let s := pairUnit .primary .joining (fun p => { p with joinAt := some secT })
     s.up = true ∧ s.dev.pair.role = .primary ∧ s.dev.pair.partner = .joining ∧ s.dev.pair.joinAt.isSome = true) ∧ (pairUnit .primary .ready).dev.pair.partner ≠ .joining ∧
    (let s := pairUnit .secondary .ready (fun p => { p with takeover := some (secT, 2) })
     s.up = true ∧ s.dev.pair.takeover = some (secT, 2) ∧ s.dev.pair.role = .secondary ∧ s.dev.pair.partner = .ready ∧ s.dev.pair.listed = [] ∧ s.dev.pair.stash = [] ∧ secT ≤ s.dev.now ∧
     (pairUnit .secondary .ready (fun p => { p with takeover := some (2 * secT, 2) })).dev.now < 2 * secT) ∧
    (Carried pairSurrenderSpec (cmd []) (pairUnit .primary .ready) ∧ (pairUnit .primary .ready).dev.pair.surrender = none ∧
     Accepts pairYieldSpec (cmd []) (pairUnit .primary .conflict (fun p => { p with hello := true })) ∧ Accepts pairJoinSpec (cmd []) (pairUnit .primary .waiting) ∧
     (let s := (pairUnit .primary .ready).withLeg 4095 { state := .active }
      s.ready = true ∧ s.dev.datedPending < 8192 ∧ (legResyncSpec.judged (cmd [(0, 4095)]) s).isNone = true) ∧ (pairUnit .primary .ready).dev.pair.resyncing = [] ∧
     Accepts pairQuerySpec (cmd []) mapped ∧ mapped.ready = true ∧ mapped.dev.pair.role = .solo ∧ (cmd []).realm = 0 ∧ (cmd []).flags = 0 ∧ (cmd []).rsvd = 0 ∧
     ∀ k, k < 40 → (cmd []).arg k 1 = 0) := by
  refine ⟨by decide +kernel, by decide +kernel, by decide +kernel, carried_of (by decide +kernel), by decide +kernel, accepts_of (by decide +kernel), accepts_of (by decide +kernel),
    by decide +kernel, by decide +kernel, accepts_of (by decide +kernel), by decide +kernel⟩

/-! ### Translation, work and movement -/

/-- Fault 65,535, open since 5 ms, of no work. -/
def aFault : XFault := ⟨65535, 5 * msT, 0x2000000, 0, 1, 0, 0, 0, .none, true⟩
def faulting (ms : Nat) : State := ((mapped.atMs 100).withReg pgXlat 0x058 (BitVec.ofNat 64 ms)).onDev (fun d => { d with xlat := { d.xlat with faults := [aFault] } })

theorem wit_TranslationCommands :
    (Accepts xlatMapSpec (cmd [(0, 63), (1, 1), (2, 2), (8, 0xFFFFFFFE0000), (16, 0x10000)]) mapped ∧ (mapLeaf (cmd [(0, 63), (1, 1), (2, 2), (8, 0xFFFFFFFE0000), (16, 0x10000)])).target < 2 ∧
     (mapLeaf (cmd [(1, 1)])).w = true ∧ Accepts xlatMapSpec (cmd [(0, 63), (2, 1), (16, 0x10000)]) mapped ∧ (mapLeaf (cmd [])).w = false ∧
     mapped.dev.translate 0 5 true = .ok (0, 5)) ∧
    (Accepts xlatUnmapSpec (cmd [(2, 1), (4, 1)]) mapped ∧ Accepts xlatProtectSpec (cmd [(2, 1), (4, 1), (5, 3)]) mapped ∧ Accepts xlatQuerySpec (cmd [(0, 63)]) mapped ∧
     leafOf mapped.dev.xlat 63 0 = none ∧ Accepts xlatQuerySpec (cmd [(8, 0x1FFFFFF)]) mapped ∧ leafOf mapped.dev.xlat 0 0x1FFFFFF = some (0, ⟨true, true, false, 0, 0⟩)) ∧
    (Accepts faultResumeSpec (cmd [(0, 65535)]) (faulting 0) ∧ (faulting 0).dev.fault 65535 = some aFault ∧ aFault.work = .none ∧ Accepts faultAbortSpec (cmd [(0, 65535)]) (faulting 0)) ∧
    ((faulting 95).ready = true ∧ aFault.isOpen = true ∧ fld ((faulting 95).dev.reg pgXlat 0x058) 0 16 ≠ 0 ∧
     aFault.time + fld ((faulting 95).dev.reg pgXlat 0x058) 0 16 * msT ≤ (faulting 95).dev.now ∧ (faulting 96).dev.now < aFault.time + fld ((faulting 96).dev.reg pgXlat 0x058) 0 16 * msT ∧
     fld ((faulting 0).dev.reg pgXlat 0x058) 0 16 = 0) ∧
    (Writable mapped pgXlat ∧ bit (mapped.dev.reg pgXlat 0x050) 0 = false ∧ bit ((mapped.withReg pgXlat 0x050 1).dev.reg pgXlat 0x050) 0 = true) := by
  refine ⟨⟨accepts_of (by decide +kernel), by decide +kernel, by decide +kernel, accepts_of (by decide +kernel), by decide +kernel, by decide +kernel⟩,
    ⟨accepts_of (by decide +kernel), accepts_of (by decide +kernel), accepts_of (by decide +kernel), by decide +kernel, accepts_of (by decide +kernel), by decide +kernel⟩,
    ⟨accepts_of (by decide +kernel), by decide +kernel, by decide +kernel, accepts_of (by decide +kernel)⟩, by decide +kernel, ?_⟩
  unfold Writable Reaches Alone; decide +kernel

/-- XLAT_MAP of two pages at the top of realm 63's addresses. -/
theorem test_xlatMap : (match exec (.xlatMap (cmd [(0, 63), (1, 1), (2, 2), (8, 0xFFFFFFFE0000), (16, 0x10000)])) mapped with
    | .next u => decide ((u.dev.translate 63 0xFFFFFFFFFFFF true).toOption = some (0, 0x2FFFF)) | _ => false) = true := by decide +kernel

/-- Items for domain 8,192 in device memory: one to take at once, and one at 50 ms after the origin of media time. -/
def itemsAt : State := (mapped.atMs 10).withBytes 4096 (desc 32 [(0, 7), (2, 15), (4, 8192), (16, 5)]) |>.withBytes 8192 (desc 32 [(0, 7), (3, 1), (4, 8192), (8, (shortOf (50 * msT)).toNat)])

theorem wit_WorkDispatcher :
    (Accepts domainSetSpec (cmd [(0, 65535), (2, 63), (3, 1)]) mapped ∧ Accepts dispSubmitSpec (cmd [(0, 1), (8, 4096)]) itemsAt ∧ Accepts dispSubmitSpec (cmd [(0, 1), (8, 8192)]) itemsAt ∧
     ((capturePinned itemsAt.dev 0 4096 32).map (fun l => (itemParse l).flags % 2)) = some 0 ∧
     ((capturePinned itemsAt.dev 0 8192 32).map (fun l => decide ((itemParse l).flags % 2 = 1 ∧ itemsAt.dev.now < itemsAt.dev.itemTime (itemParse l)))) = some true ∧
     Accepts dispQuerySpec (cmd [(0, 8192)]) mapped ∧ Accepts dispFlushSpec (cmd [(0, 8192)]) itemWaits ∧ (itemWaits.dev.domain 8192).service = []) ∧
    (let s := (mapped.atMs 10).onDev (fun d => { d with disp := { d.disp with delay := [(10 * msT, anItem)] } })
     s.ready = true ∧ s.dev.disp.delay = [(10 * msT, anItem)] ∧ 10 * msT ≤ s.dev.now / usT * usT) ∧ (∀ e, e ∈ mapped.dev.disp.delay → mapped.dev.now / usT * usT < e.1) ∧
    (Domain.next { waiting := [(1, anItem)] }) = some (1, anItem) := by
  refine ⟨⟨accepts_of (by decide +kernel), accepts_of (by decide +kernel), accepts_of (by decide +kernel), by decide +kernel, by decide +kernel, accepts_of (by decide +kernel),
    accepts_of (by decide +kernel), by decide +kernel⟩, by decide +kernel, by decide +kernel, by decide +kernel⟩

/-- An ORDERED domain takes the lower level first, and the earlier of one level. -/
theorem test_domainOrder : (Domain.next { ordered := true, waiting := [(0, { anItem with prio := 3 }), (1, anItem), (2, anItem)] }).map (fun e => e.1) = some 1 := by decide +kernel

/-- Channel 31 with a ring of 16 at 64 KB that holds `l`, CH_CTRL `v`, realm 0 allowed, as `x`. -/
def dmaOf (l : List Byte) (v : Word := 1) (x : DmaCh := { state := .active }) (realms : Word := 1) : State :=
  ((((((mapped.atMs 10).withBytes 65536 l).withReg (pgDma 31) 0x2C0 v).withReg (pgDma 31) 0x2C8 0x10000).withReg (pgDma 31) 0x2D0 1).withReg (pgDma 31) 0x2E8 realms).onDev (fun d => d.setDch 31 x)

/-- A FILL of 16 bytes at 1 MB, a WAIT and a FENCE. -/
def fillDesc : List Byte := desc 64 [(0, 1), (4, 16), (8, 0x0807060504030201), (16, 0x100000)]
def waitDesc : List Byte := desc 64 [(0, 2), (24, (shortOf (50 * msT)).toNat)]
def fenceDesc : List Byte := desc 64 [(0, 3)]

/-- Mover 7 is free and would take channel 31, whose descriptor is `l` and breaks no rule. -/
def starts (l : List Byte) : Bool :=
  let s := dmaOf l
  s.ready && decide (nthD none s.dev.dma.movers 7 = none) && decide (s.dev.chChoose = some 31) &&
  decide ((s.dev.readVa 0 (s.dev.chDesc 31) 64).toOption = some l) && !(dmaParse l).bad && !(dmaParse l).overlaps &&
  bit (s.dev.chReg 31 0x28) (dmaParse l).srcRealm && bit (s.dev.chReg 31 0x28) (dmaParse l).dstRealm

theorem wit_DmaChannels :
    (ChWritable (dmaOf [] 0 {}) 31 ∧ ChWritable (dmaOf []) 31 ∧ fld (1 : Word) 1 3 = 0 ∧ (dmaOf [] 0 {}).dev.chOn 31 = false ∧ bit (1 : Word) 0 = true ∧
     (dmaOf [] 0 {}).dev.chBase 31 % (64 * (dmaOf [] 0 {}).dev.chEntries 31) = 0 ∧ (dmaOf [] 0 {}).dev.pinned 0 ((dmaOf [] 0 {}).dev.chBase 31) (64 * (dmaOf [] 0 {}).dev.chEntries 31) = true ∧
     ((dmaOf [] 0 {}).withReg (pgDma 31) 0x2C8 0x40000000).dev.pinned 0 0x40000000 1024 = false ∧
     (dmaOf []).dev.chOn 31 = true ∧ ((dmaOf []).dev.dch 31).busy = false ∧ ((dmaOf [] 1 { state := .active, busy := true }).dev.dch 31).busy = true ∧
     ((dmaOf [] 1 { state := .active, busy := true }).dev.dch 31).halted = false) ∧
    (let s := dmaOf fenceDesc 1 { state := .faulted, busy := true, faultId := some 9 }
     ChWritable s 31 ∧ (s.dev.dch 31).halted = true ∧ (s.dev.dch 31).busy = true ∧ s.dev.chOn 31 = true ∧ (s.dev.dch 31).stop = false ∧
     (match s.dev.readVa 0 (s.dev.chDesc 31) 64 with | .ok l => decide ((dmaParse l).op = 3) && !(dmaParse l).bad && bit (s.dev.chReg 31 0x28) (dmaParse l).srcRealm && bit (s.dev.chReg 31 0x28) (dmaParse l).dstRealm | .error _ => false) = true) ∧
    (badIndex ((dmaOf []).dev.chEntries 31) ((dmaOf []).dev.dch 31).head ((dmaOf []).dev.chTail 31) (fld (15 : Word) 0 16) = false ∧
     badIndex ((dmaOf []).dev.chEntries 31) ((dmaOf []).dev.dch 31).head ((dmaOf []).dev.chTail 31) (fld (16 : Word) 0 16) = true) ∧
    [fillDesc, waitDesc, fenceDesc].all starts = true ∧
    bit ((dmaOf fillDesc 1 { state := .active } 0).dev.chReg 31 0x28) (dmaParse fillDesc).srcRealm = false ∧
    ((dmaParse fillDesc).op = 1 ∧ (dmaParse waitDesc).op = 2 ∧ (dmaParse fenceDesc).op = 3 ∧
     (List.range 16).all (fun k => ((dmaOf fillDesc).dev.translate 0 (0x100000 + k) true).toOption.isSome) = true) ∧
    (let s := dmaOf waitDesc 1 { state := .active, busy := true, wait := some (10 * msT) }
     (s.dev.dch 31).wait = some (10 * msT) ∧ 10 * msT ≤ s.dev.now ∧ s.dev.now < 11 * msT) ∧
    (let s := dmaOf fillDesc 1 { state := .active, busy := true, ending := some (1, 16) }
     (s.dev.dch 31).ending = some (1, 16) ∧ (s.dev.dch 31).stop = false) ∧
    ((dmaOf fillDesc 1 { state := .active, busy := true, stop := true, ending := some (1, 16) }).dev.dch 31).stop = true ∧ ((dmaOf []).dev.dch 31).ending = none := by
  refine ⟨?_, ?_, by decide +kernel, by decide +kernel, by decide +kernel, by decide +kernel, by decide +kernel, by decide +kernel, by decide +kernel, by decide +kernel⟩
  all_goals unfold ChWritable Writable Reaches Alone; decide +kernel

/-- The FILL writes its pattern over 16 bytes. -/
theorem test_fill : (match exec (.dmaDescriptorStart 7 false none) (dmaOf fillDesc) with
    | .next u => (memReads u.dev.mem.dram 0x100000 17).map BitVec.toNat | _ => []) = [1, 2, 3, 4, 5, 6, 7, 8, 1, 2, 3, 4, 5, 6, 7, 8, 0] := by decide +kernel

theorem wit_MemoryControl :
    (Writable mapped (pgMemctl 0) ∧ mapped.dev.mem.eccBusy = none ∧ 64 * 1 + 61 < 126) ∧
    (let s := mapped.onDev (fun d => { d with mem := { d.mem with eccBusy := some (2, 0) } })
     s.ready = true ∧ Writable s (pgMemctl 0) ∧ s.dev.mem.eccBusy.isSome = true ∧ Memory.wf s.dev.mem.dram = true ∧ s.dev.mem.eccBusy = some (2, 0) ∧ 0 ≤ s.dev.now ∧ s.dev.now < secT) ∧
    (Writable mapped pgSlab ∧ mapped.dev.sliceLeaves 15 = [] ∧ bit (0x100 : Word) 8 = true ∧
     (mapped.dev.sliceLeaves 15).any (fun e => mapped.dev.heldPage (e.1 / 4294967296) (e.1 % 4294967296 * 65536) e.2.size) = false ∧
     bit (mapped.dev.reg pgSlab (0x100 + 8 * 15)) 8 = false) ∧ mapped.up = true := by
  unfold Writable Reaches Alone; decide +kernel

/-- A slice ISOLATED, a unit not READY, and rows with nothing to do. -/
theorem wit_SupportForms :
    ((mapped.onDev (fun d => d.setSlice (slabSlice 0) { d.slice 0 with isolate := true })).dev.slice (slabSlice 0)).isolate = true ∧
    State.reset.ready = false ∧ mapped.dev.chChoose = none ∧ mapped.dev.fault 7 = none ∧ (mapped.dev.dch 7).wait = none ∧ mapped.dev.mem.eccBusy = none := by decide +kernel

/-! ### Start-up, update and settings -/

/-- Straps: bank A or B, or the host (1); SOLO or one of a pair; the RECOVERY strap. -/
def strapped (src role : BitVec 2) (rec : Bool) : Straps := ⟨src, role, rec, 0, 0, none, []⟩

/-- A unit whose power is on and whose RESET_N is low, its banks in these states. -/
def held (a b : BankState) : State := { State.reset with aon := { State.reset.aon with auxOn := true, railsOn := true, bankA := { state := a }, bankB := { state := b } } }

/-- A unit whose RESET_N is high, in phase `p` of the boot, changed by `f`. -/
def booting (p : Phase) (f : Boot → Boot := id) (a b : BankState := .active) : State :=
  { aon := { auxOn := true, railsOn := true, resetHigh := true, bankA := { state := a }, bankB := { state := b } }
    dev := { boot := f { phase := p }, mem := { trained := true } } }

/-- The link of a unit of a pair that boots is up. -/
def linked (p : Phase) (r : Role) (f : Boot → Boot := id) : State := (booting p f .valid .valid).onDev (fun d => { d with pair := { d.pair with role := r, strap := 1, up := true, rxSeq := 7 } })

theorem wit_StartUp :
    ((held .empty .empty).aon.auxOn = true ∧ (held .empty .empty).aon.railsOn = true ∧ (held .empty .empty).aon.resetHigh = false ∧ mapped.aon.resetHigh = true ∧
     (held .empty .empty).aon.bankA.state ≠ .writing ∧ (strapped 0 0 true).recovery = true ∧ (held .empty .empty).aon.ignoreRecovery = false ∧ (strapped 1 0 false).bootSrc = 1 ∧
     (strapped 0 1 false).bootSrc ≠ 1 ∧ (held .pending .active).aon.findBank .trial = none ∧ (held .active .pending).aon.findBank .pending = some 1 ∧
     (held .valid .active).aon.findBank .pending = none ∧ (held .valid .active).aon.findBank .active = some 1 ∧ (held .trial .active).aon.findBank .trial = some 0 ∧
     (held .failed .empty).aon.findBank .active = none) ∧
    (let s := booting .load (fun x => { x with trying := some 0 }) .trial .valid
     s.up = true ∧ s.dev.boot.trying = some 0 ∧ (s.aon.bank (1 - 0)).state = .valid ∧ s.dev.boot.tried.contains (1 - 0) = false ∧
     ((booting .load (fun x => { x with trying := some 1 }) .failed .trial).aon.bank (1 - 1)).state ≠ .active ∧
     ((booting .load (fun x => { x with trying := some 1 }) .failed .trial).aon.bank (1 - 1)).state ≠ .valid) ∧
    (let s := booting .role
     s.up = true ∧ s.dev.boot.phase = .role ∧ s.dev.pair.role ≠ .undecided ∧ s.dev.boot.update ≠ .hosted ∧ (s.aon.bank s.dev.boot.runBank).state = .active ∧
     s.dev.pow.marginLow = false ∧ (booting .load).dev.boot.phase ≠ .role ∧ (booting .load).dev.boot.phase ≠ .ready ∧
     (booting .role (fun x => { x with update := .hosted })).dev.boot.update = .hosted) ∧
    (let s := booting .load (fun x => { x with bootSrc := 1 })
     mapped.dev.loadOpen = false ∧ s.dev.loadOpen = true ∧ s.dev.boot.phase = .load ∧
     (booting .recovery (fun x => { x with goImage := some [] })).dev.boot.goImage = some [] ∧ mapped.dev.boot.phase ≠ .recovery) ∧
    ((let s := linked .recovery .undecided; s.up = true ∧ s.dev.linkUser = true ∧ s.dev.pair.up = true ∧ goodHdr.crcOk = true ∧ goodHdr.seq = s.dev.pair.rxSeq ∧ 0 = s.dev.boot.got.length) ∧
     (let s := linked .ready .primary
      s.up = true ∧ s.dev.linkUser = true ∧ s.dev.boot.phase ≠ .recovery ∧ s.dev.pair.role ≠ .undecided ∧ s.aon.findBank .active = none)) := by decide +kernel

/-- The RECOVERY strap leads to recovery mode; without a bank to try, so does the boot, and it says so. -/
theorem test_recovery : (match exec (.resetRelease (strapped 0 0 true)) (held .active .valid), exec (.resetRelease (strapped 0 0 false)) (held .failed .empty) with
    | .next u, .next v => (u.dev.boot.phase, u.dev.boot.fallback, v.dev.boot.phase, v.dev.boot.fallback) | _, _ => (.rom, false, .rom, false)) =
    (.recovery, false, .recovery, true) := by decide +kernel

/-- A unit that runs bank A in update state `x`, changed by `f`. -/
def updating (x : UpdState) (f : Boot → Boot := id) (a b : BankState := .active) : State :=
  { ((mapped.atMs 100000).onDev (fun d => d.onBoot (fun y => f { y with update := x, readyAt := 0 }))) with
    aon := { mapped.aon with bankA := { state := a }, bankB := { state := b }, confirmTimeout := 60 } }

/-- An UPDATE_DATA whose flash work began at `t`. -/
def flashWait (t : Time) : Wait := ⟨⟨cmd [(4, 16), (8, 8192)], 0x0E01, 0, 0, true⟩, 0, 0, t, false⟩
def writing (t : Time) : State := (updating .receiving).onDev (fun d => { d with ctl := { d.ctl with waits := [flashWait t] } })

/-- A package header that names the running image, whose digest is opaque, and memory that holds it. -/
def pkgHead : List Byte := desc 16 [(0, 1), (4, 300), (8, 1024)] ++ sha384 [] ++ List.replicate 192 0
def cellsAt : Nat → List Byte → List Host.Cell
  | _, [] => []
  | a, b :: l => (a, b) :: cellsAt (a + 1) l
def packaged : State := (updating .idle).onDev (fun d => { d with mem := { d.mem with dram := cellsAt 4096 pkgHead } })

theorem cellsAt_read (l : List Byte) (a i : Nat) (h : i < l.length) : memRead (cellsAt a l) (a + i) = l[i] := by
  induction l generalizing a i with
  | nil => simp at h
  | cons b l ih =>
    cases i with
    | zero => simp [memRead, tabGetD, tabGet, cellsAt]
    | succ i =>
      have := ih (a + 1) i (by simpa using h)
      simp only [memRead, tabGetD, tabGet, cellsAt] at this ⊢
      rw [if_neg (by omega), if_neg (by omega), show a + (i + 1) = a + 1 + i by omega, this]
      rfl

theorem read_of_cells (d : Dev) (l : List Byte) (a : Nat) (ht : ∀ va, a ≤ va → va < a + l.length → d.translate 0 va false = .ok (0, va))
    (hm : ∀ i (h : i < l.length), d.targetRead 0 (a + i) = l[i]) : d.readVa 0 a l.length = .ok l := by
  induction l generalizing a with
  | nil => rfl
  | cons b l ih =>
    have h := ih (a + 1) (fun va h1 h2 => ht va (by omega) (by simp; omega)) (fun i hi => by
      have := hm (i + 1) (by simp; omega)
      rw [show a + 1 + i = a + (i + 1) by omega, this]; rfl)
    have h0 := hm 0 (by simp)
    simp only [List.length_cons, Dev.readVa]
    rw [ht a (Nat.le_refl a) (by simp)]
    simp only [h]
    rw [show d.targetRead 0 a = b from h0]

theorem pkgHead_length : pkgHead.length = 256 := by decide +kernel

theorem pkg_captured : updateBeginSpec.capture (cmd [(4, 300), (8, 4096)]) packaged.dev = some pkgHead := by
  have hp : packaged.dev.pinned 0 4096 256 = true := by decide +kernel
  have ha : (cmd [(4, 300), (8, 4096)]).arg 8 8 = 4096 := by decide +kernel
  have hr : packaged.dev.readVa 0 4096 pkgHead.length = .ok pkgHead := by
    refine read_of_cells _ _ _ (fun va _ h2 => ?_) (fun i hi => ?_)
    · rw [pkgHead_length] at h2
      exact low_translate _ (by decide +kernel) va (by omega)
    · have : packaged.dev.targetRead 0 (4096 + i) = memRead (cellsAt 4096 pkgHead) (4096 + i) := by
        simp only [Dev.targetRead]
        rfl
      rw [this, cellsAt_read _ _ _ hi]
  simp only [updateBeginSpec, ha, capturePinned, hp, if_true, captureVa]
  rw [← pkgHead_length, hr]

theorem pkg_good : pkgBad pkgHead 300 [] = none := by
  have h1 : leAt pkgHead 0 2 = 1 := by decide +kernel
  have h2 : firstSet pkgHead 2 2 = none := by decide +kernel
  have h3 : leAt pkgHead 4 4 = 300 := by decide +kernel
  have h4 : leAt pkgHead 8 4 = 1024 := by decide +kernel
  have h5 : firstSet pkgHead 12 4 = none := by decide +kernel
  have h6 : firstSet pkgHead 112 144 = none := by decide +kernel
  have h7 : (pkgHead.drop 16).take 48 = sha384 [] := by
    have a : (desc 16 [(0, 1), (4, 300), (8, 1024)]).length = 16 := by decide +kernel
    have b : (sha384 []).length = 48 := by simp [sha384]
    rw [pkgHead, List.append_assoc, List.drop_left' a, List.take_left' b]
  simp [pkgBad, h1, h2, h3, h4, h5, h6, h7]

theorem wit_UpdateBegin : AcceptsHere updateBeginSpec (cmd [(4, 300), (8, 4096)]) packaged := by
  have hg : updateBeginSpec.dchecks (cmd [(4, 300), (8, 4096)]) pkgHead packaged = [] := by
    have ha : (cmd [(4, 300), (8, 4096)]).arg 4 4 = 300 := by decide +kernel
    have hi : packaged.dev.boot.image = [] := by decide +kernel
    simp only [updateBeginSpec, ha, hi, pkg_good]
  refine ⟨⟨by decide +kernel, ?_⟩, by decide +kernel⟩
  rw [OpSpec.judged, pkg_captured]
  simp only [OpSpec.verdict, hg, List.append_nil]
  decide +kernel

theorem wit_Updates :
    (AcceptsHere updateBeginSpec (cmd [(4, 300), (8, 4096)]) packaged ∧ AcceptsHere updateDataSpec (cmd [(4, 16), (8, 8192)]) (updating .receiving (fun x => { x with litLeft := 16 })) ∧
     capturePinned (updating .receiving).dev 0 8192 16 = some (List.replicate 16 0) ∧ (updating .receiving).dev.boot.carry = [] ∧ (updating .receiving).dev.boot.ended = false ∧
     AcceptsHere updateFinishSpec (cmd []) (updating .receiving (fun x => { x with pkgGot := 300, pkgLen := 300, ended := true })) ∧ AcceptsHere updateAbortSpec (cmd []) (updating .pending)) ∧
    ((writing 0).ready = true ∧ (writing 0).dev.ctl.waits = [flashWait 0] ∧ (flashWait 0).tok.opcode = 0x0E01 ∧ (flashWait 0).tok.direct = true ∧ (flashWait 0).obj = 0 ∧ ((writing 0).dev.ring 0 0).gen = (flashWait 0).tok.gen ∧ (flashWait 0).since + 60 * secT ≤ (writing 0).dev.now ∧
     (writing 0).dev.now < (flashWait (41 * secT)).since + 60 * secT ∧ (updating .verifying).dev.boot.update = .verifying) ∧
    ((updating .pending).dev.boot.runBank < 2 ∧ (updating .pending).dev.pair.role = .solo ∧ AcceptsHere updateActivateSpec (cmd []) (updating .pending) ∧
     AcceptsHere updateRevertSpec (cmd []) (updating .trial) ∧ AcceptsHere updateConfirmSpec (cmd []) (updating .trial) ∧ AcceptsHere updateLockSpec (cmd [(1, 1)]) (updating .idle)) ∧
    (let s := updating .trial
     s.ready = true ∧ s.dev.boot.update = .trial ∧ s.aon.confirmTimeout ≠ 0 ∧ s.dev.boot.readyAt + s.aon.confirmTimeout * secT ≤ s.dev.now ∧ s.dev.boot.restartAt = none ∧ s.dev.boot.overdue = false ∧ s.dev.mirrored = false ∧
     s.updateForbidden = false ∧ (updating .trial (fun x => { x with overdue := true })).dev.boot.overdue = true ∧ (s.withLeg 4095 { state := .active }).updateForbidden = true ∧ (updating .idle).dev.boot.update ≠ .trial) ∧
    (let s := (updating .pending).withLeg 4095 { state := .active }
     s.ready = true ∧ (cmd []).args = 0 ∧ s.dev.boot.update = .pending ∧ s.updateForbidden = true ∧ s.dev.pair.role ≠ .secondary ∧ fullValid (cmd []).when0 (cmd []).when1 = true ∧ (∃ l k, s.dev.leg l = k ∧ l < 4096 ∧ k.state = .active)) ∧
    (Accepts settingsWriteSpec (cmd [(0, 65535), (4, 16), (8, 8192)]) mapped ∧ capturePinned mapped.dev 0 8192 16 = some (List.replicate 16 0) ∧
     Accepts settingsReadSpec (cmd [(0, 65535), (4, 16), (8, 8192)]) mapped ∧ mapped.dev.writeCheck 0 8192 0 = none ∧
     (let s : State := { mapped with aon := { mapped.aon with settings := [(65535, [1])] } }
      Accepts settingsReadSpec (cmd [(0, 65535), (4, 16), (8, 0x40000000)]) s ∧
        s.dev.writeCheck 0 0x40000000 ((tabGetD [] s.aon.settings 65535).take 16).length ≠ none)) := by
  refine ⟨⟨wit_UpdateBegin, ⟨accepts_of (by decide +kernel), by decide +kernel⟩, by decide +kernel, by decide +kernel, by decide +kernel,
      ⟨accepts_of (by decide +kernel), by decide +kernel⟩, ⟨accepts_of (by decide +kernel), by decide +kernel⟩⟩, by decide +kernel,
    ⟨by decide +kernel, by decide +kernel, ⟨accepts_of (by decide +kernel), by decide +kernel⟩, ⟨accepts_of (by decide +kernel), by decide +kernel⟩,
      ⟨accepts_of (by decide +kernel), by decide +kernel⟩, ⟨accepts_of (by decide +kernel), by decide +kernel⟩⟩, by decide +kernel,
    ⟨by decide +kernel, by decide +kernel, by decide +kernel, by decide +kernel, by decide +kernel, by decide +kernel, ⟨4095, { state := .active }, by decide +kernel⟩⟩,
    accepts_of (by decide +kernel), by decide +kernel, accepts_of (by decide +kernel), by decide +kernel, accepts_of (by decide +kernel), by decide +kernel⟩

/-- A record written reads back. -/
theorem test_settings : (match exec (.settingsWrite (cmd [(0, 65535), (4, 4), (8, 8192)])) (mapped.withBytes 8192 [1, 2, 3, 4]) with
    | .next u => tabGetD [] u.aon.settings 65535 | _ => []) = [1, 2, 3, 4] := by decide +kernel

/-- Reading a record of the unit's own, whatever it holds: 16 bytes at most are written. -/
theorem wit_SettingsOwn : Accepts settingsReadSpec (cmd [(0, 7), (4, 16), (8, 8192)]) mapped ∧ (cmd [(0, 7), (4, 16), (8, 8192)]).arg 0 2 < 0x8000 ∧
    ∀ l : List Byte, mapped.dev.writeCheck 0 8192 (l.take 16).length = none := by
  refine ⟨accepts_of (by decide +kernel), by decide +kernel, fun l => ?_⟩
  have h : ∀ n : Fin 17, mapped.dev.writeCheck 0 8192 n = none := by decide +kernel
  exact h ⟨(l.take 16).length, by have := l.length_take_le 16; omega⟩

/-- The rows where they have no effect. -/
theorem wit_BootForms : ({ State.reset with aon := { State.reset.aon with auxOn := false } } : State).aon.auxOn = false ∧ (held .empty .empty).up = false ∧
    (booting .load).up = true ∧ (booting .load).dev.boot.trying = none ∧ (booting .load).ready = false ∧ (booting .recovery).dev.boot.gotAll = false ∧
    (booting .recovery (fun x => { x with got := [1], total := 1 })).dev.boot.gotAll = true := by decide +kernel

/-! ### Observation, test and freeze, power and the monitor -/

/-- A report and its entry, and the unit with these entries pending and this ring. -/
def aReport : Report := ⟨0x1E0, 0x0702, 5 * msT, 1, 2⟩
def anEntryOf (n : Nat) : LogEntry := ⟨5 * msT, 0x1E0, n, 1, 1, 2, n⟩
def logged (p : List LogEntry) (r : List LogEntry := []) (l : Option LostLog := none) : State :=
  (mapped.atMs 10).onDev (fun d => { d with obs := { d.obs with pending := p, ring := r, lost := l } })

/-- What was lost: one entry. -/
def aLost : LostLog := { stamp := 5 * msT, last := 5 * msT, count := 1, entries := 1, sources := [0x1E0] }

/-- The trace ring of 64 KB at 1 MB ENABLEd, an entry held since 5 ms. -/
def aTrace : TraceEntry := ⟨5 * msT, 0x180, 1, 0x0104, 3, 4, 0⟩
def tracing (on : Bool) (l : List TraceEntry := [aTrace]) (n : Nat := 0) : State :=
  (((mapped.atMs 10).withReg pgObs 0x050 16).withReg pgObs 0x048 (fmkB 0 on ||| fmk 16 21 16)).onDev (fun d =>
    { d with obs := { d.obs with trace := l, traceDropped := 7, traceProd := n } })

theorem wit_LogAndTrace :
    ((logged []).up = true ∧ (∀ e, e ∈ (logged []).dev.obs.pending → e.source ≠ aReport.source ∨ e.code ≠ aReport.code) ∧ (logged []).dev.obs.pending.length < 256 ∧
     256 ≤ (logged ((List.range 256).map anEntryOf)).dev.obs.pending.length ∧ (∀ e, e ∈ (logged ((List.range 256).map anEntryOf)).dev.obs.pending → e.source ≠ aReport.source ∨ e.code ≠ aReport.code)) ∧
    ((logged [anEntryOf 0x0702]).dev.obs.pending = [anEntryOf 0x0702] ∧ (anEntryOf 0x0702).source = aReport.source ∧ (anEntryOf 0x0702).code = aReport.code ∧
     (anEntryOf 0x0702).count < 4294967295) ∧
    (trigFind (logged []).dev aReport = none ∧ trigFind ((logged []).withReg pgDevice 0x080 0xFFFFFFFFFFFFFFFF).dev { aReport with source := 0xFFF, code := 0xFFFF } = some 3) ∧
    ((logged [anEntryOf 1]).dev.logOrder = [anEntryOf 1] ∧ (logged [anEntryOf 1]).dev.obs.lost = none ∧ (anEntryOf 1).stamp + (logged [anEntryOf 1]).dev.logHold ≤ (logged [anEntryOf 1]).dev.now ∧
     (logged [anEntryOf 1]).dev.obs.ring.length < 4096 ∧ ((logged [anEntryOf 1]).atMs 5).dev.now < (anEntryOf 1).stamp + ((logged [anEntryOf 1]).atMs 5).dev.logHold) ∧
    (logged [] [] (some aLost)).dev.obs.lost = some aLost ∧
    ((tracing true).ready = true ∧ sortBy traceBefore (tracing true).dev.obs.trace = [aTrace] ∧ (tracing true).dev.traceOn = true ∧ aTrace.stamp + 20 * usT ≤ (tracing true).dev.now ∧
     (tracing true).dev.traceBase + 32 * ((tracing true).dev.obs.traceProd % (tracing true).dev.traceEntries) + 32 ≤ dramEnd ∧
     (tracing true).dev.traceEntries ≤ (tracing true [aTrace] 2048).dev.obs.traceProd ∧ (tracing true [aTrace] 2048).dev.obs.traceWrapped = false ∧ (tracing false).dev.traceOn = false ∧
     (tracing true).dev.obs.traceDropped ≠ 0 ∧ (tracing true).dev.obs.trace.length < 512 + 4194304 ∧ mapped.dev.obs.traceDropped = 0) ∧
    (Writable (tracing false) pgObs ∧ Writable (tracing true) pgObs ∧ bit (fmkB 0 true ||| fmk 16 21 16) 0 = true ∧
     fld (fmkB 0 true ||| fmk 16 21 16) 16 21 * 65536 % 2 ^ fld ((tracing false).dev.reg pgObs 0x050) 0 6 = 0 ∧
     fld (fmkB 0 true ||| fmk 16 21 16) 16 21 * 65536 + 2 ^ fld ((tracing false).dev.reg pgObs 0x050) 0 6 ≤ reservedBase ∧
     reservedBase < fld (fmkB 0 true ||| fmk 16 21 0x1F8000) 16 21 * 65536 + 2 ^ fld ((tracing false).dev.reg pgObs 0x050) 0 6) := by
  unfold Writable Reaches Alone; decide +kernel

/-- Sources of Table 2-19, and none; a report that any trigger takes. -/
theorem wit_sources : sourceListed aReport.source = true ∧ sourceListed 0x010 = false ∧ sourceListed 0x160 = true ∧
    trigFind ((logged []).withReg pgDevice 0x080 0xFFFFFFFFFFFFFFFF).dev { aReport with source := 0x160, code := 0x0D31 } = some 3 := by decide +kernel

theorem wit_ringFull (e : LogEntry) : 4096 ≤ (logged [anEntryOf 1] (List.replicate 4096 e)).dev.obs.ring.length := by
  have : (logged [anEntryOf 1] (List.replicate 4096 e)).dev.obs.ring = List.replicate 4096 e := rfl
  rw [this, List.length_replicate]

/-- Two reports of one source and code are one entry of count 2. -/
theorem test_coalesce : (match exec (.errorReport aReport) (logged []) with
    | .next u => (match exec (.errorReport aReport) u with | .next v => v.dev.obs.pending.map (fun e => (e.code, e.count)) | _ => []) | _ => []) = [(0x0702, 2)] := by decide +kernel

/-- A Garnet unit `p` in state `x`, under test. -/
def tested (p : Nat) (x : PState) : State :=
  ((mapped.atMs 10).withHdr (pgGarnet p) (fun h => { h with state := x })).onDev (fun d => { d with obs := { d.obs with bist := [(0x080 + p, 3)] } })

/-- Slice 15 in state `x`. -/
def sliced (x : PState) : State := (mapped.atMs 10).onDev (fun d => { d with mem := { d.mem with slices := [(15, { state := x })] } })

/-- Frozen, with RD_ADDR at 1 MB of device memory. -/
def frozenAt : State := mapped.onDev (fun d => { d with obs := { d.obs with frozen := true, rdAddr := 0x100000 } })

theorem wit_TestAndFreeze :
    (Accepts unitIsolateSpec (cmd [(0, 0x15F), (2, 1)]) (sliced .active) ∧ Accepts unitIsolateSpec (cmd [(0, 0x15F)]) (sliced .isolated) ∧
     testUnitOf ((cmd [(0, 0x15F), (2, 1)]).arg 0 2) = some (.slice 15) ∧ ((sliced .active).dev.slice 15).state = .active ∧ ((sliced .isolated).dev.slice 15).state = .isolated ∧
     Accepts bistRunSpec (cmd [(0, 0x15F), (2, 1)]) (sliced .isolated) ∧ Accepts bistRunSpec (cmd [(0, 0x0A0), (2, 3)]) (tested 32 .isolated) ∧
     testUnitOf ((cmd [(0, 0x0A0), (2, 3)]).arg 0 2) = some (.garnet 32)) ∧
    ((tested 32 .testing).ready = true ∧ (tested 32 .testing).dev.obs.bist = [(0x080 + 32, 3)] ∧ (0 : BitVec 3).toNat &&& 3 = 0 ∧ (4 : BitVec 3).toNat &&& 3 = 0 ∧ (1 : BitVec 3).toNat &&& 3 ≠ 0 ∧
     mapped.dev.obs.bist = []) ∧
    (Accepts deviceTestSpec (cmd [(1, 15), (2, 1)]) mapped ∧ Accepts freezeNowSpec (cmd []) mapped ∧ (cmd []).arg 0 1 = 0) ∧
    (bit ((mapped.withReg pgDevice 0x060 1).dev.reg pgDevice 0x060) 0 = true ∧ bit ((mapped.withReg pgDevice 0x060 0).dev.reg pgDevice 0x060) 0 = false) ∧
    (mapped.aon.auxOn = true ∧ mapped.aon.railsOn = true ∧ mapped.dev.obs.frozen = false ∧ frozenAt.dev.obs.frozen = true ∧ fld frozenAt.dev.obs.rdAddr 60 4 = 0 ∧
     fld frozenAt.dev.obs.rdAddr 0 48 + 8 < dramEnd ∧ frozenAt.dev.obs.rdBurst = none) := by
  refine ⟨⟨accepts_of (by decide +kernel), accepts_of (by decide +kernel), by decide +kernel, by decide +kernel, by decide +kernel, accepts_of (by decide +kernel),
    accepts_of (by decide +kernel), by decide +kernel⟩, by decide +kernel, ⟨accepts_of (by decide +kernel), accepts_of (by decide +kernel), by decide +kernel⟩, by decide +kernel,
    by decide +kernel⟩

/-- A frozen unit answers the test access port and nothing else. -/
theorem test_frozen : (match exec .idcode frozenAt, exec .commandEffect frozenAt with
    | .next u, .next v => decide (u.dev.ctl.out.getLast? = some (.jtag 32 0x1409656B)) && decide (v = frozenAt) | _, _ => false) = true := by decide +kernel

/-- Commands for the partner of a PRIMARY: FREEZE_NOW acts as it is processed, another waits for its boundary. -/
theorem wit_PartnerTargets : (pairUnit .primary .ready).dev.pair.role = .primary ∧ Carried freezeNowSpec (cmd [(0, 1)]) (pairUnit .primary .ready) ∧
    Carried freezeNowSpec (cmd [(0, 1)]) (pairUnit .primary .ready (fun p => { p with frozen := true })) ∧
    (let s := pairUnit .primary .ready
     s.ready = true ∧ s.dev.datedPending < 8192 ∧ (updateLockSpec.judged (cmd [(0, 1), (1, 1)]) s).isNone = true ∧
     (unitIsolateSpec.judged (cmd [(0, 0x15F), (2, 1), (3, 1)]) s).isNone = true) := by
  refine ⟨by decide +kernel, carried_of (by decide +kernel), carried_of (by decide +kernel), by decide +kernel⟩

/-- The port with the rails down. -/
theorem wit_TestPort : ({ mapped with aon := { mapped.aon with railsOn := false } } : State).tapOn = false ∧ mapped.tapOn = true := by decide +kernel

theorem wit_PowerMonitor :
    mapped.up = true ∧ mapped.dev.pow.throttle = false ∧
    (let s := (mapped.atMs 2000).onDev (fun d => { d with pow := { d.pow with marginLow := true }, boot := { d.boot with deferred := true } })
     s.up = true ∧ s.dev.marginCause = false ∧ s.dev.pow.marginLow = true ∧ s.dev.pow.lastCause + secT ≤ s.dev.now ∧ s.dev.boot.deferred = true) ∧ mapped.dev.boot.deferred = false ∧
    (mapped.onDev (fun d => { d with pow := { d.pow with railLow := true } })).dev.marginCause = true ∧ mapped.dev.pow.marginLow = false ∧
    (mapped.onDev (fun d => { d with pow := { d.pow with lastCause := secT } })).dev.now < (mapped.onDev (fun d => { d with pow := { d.pow with lastCause := secT } })).dev.pow.lastCause + secT := by
  decide +kernel

/-! ### The whole machine -/

theorem wit_StoppedUnitStandsStill : frozenAt.up = false ∧ (Instr.commandEffect).outside = false ∧ State.reset.ready = false ∧
    Instr.epochBoundary ∈ [Instr.commandFetch 0 0, .commandEffect, .epochBoundary, .blockBoundary [], .dispatcherTick, .commitGroupApply 0 0, .pictureTick 0] := by
  refine ⟨by decide +kernel, by decide, by decide +kernel, by simp⟩

/-- A command that advances the counter of OTP: a trial confirmed. -/
theorem wit_OtpNeverGoesBack : ∃ t, exec (.updateConfirm (cmd [])) (updating .trial (fun x => { x with svn := 5 }) .trial .active) = .next t ∧ t.aon.counter = 5 :=
  ⟨_, rfl, by decide +kernel⟩

/-- FLINT_RELEASE clears the alarm, and a power loss of VDD_AUX would too; a frame leaves it. -/
theorem wit_AlarmsHold : (∃ t, exec (.flintRelease (cmd [])) latched = .next t ∧ t.aon.alarmLatch = false) ∧ latched.aon.alarmLatch = true ∧ Instr.flintRelease (cmd []) ≠ .powerDown true ∧
    ({ mapped with aon := { mapped.aon with alarmLock := true } } : State).aon.alarmLock = true :=
  ⟨⟨_, rfl, by decide +kernel⟩, by decide +kernel, by simp, rfl⟩

theorem wit_StepsKeepAlwaysOnOk : AlwaysOnOk latched ∧ ∃ t, step { latched with pending := [.flintRelease (cmd [])] } = .next t := by
  refine ⟨?_, _, rfl⟩
  unfold AlwaysOnOk; decide +kernel

/-- A state of memory that is not empty, and a command of each kind that writes it. -/
theorem wit_MemoryStaysCanonical : MemOk (mapped.withBytes 4096 [1, 2]) ∧ ∃ t, exec (.dmaDescriptorStart 7 false none) (dmaOf fillDesc) = .next t ∧ t.dev.mem.dram ≠ (dmaOf fillDesc).dev.mem.dram := by
  refine ⟨?_, _, rfl, by decide +kernel⟩
  unfold MemOk; decide +kernel


end Sys2Proof.Tests
end

section
/-! PROOFS. The control model (chapter 2): the header of a page, its events and messages, the BAR4 window, and the resets of the host interface. -/

namespace Sys2Proof.Machine
open Sys2Proof

/-! ### Fields of a word -/

/-- A field reads as it was set. -/
theorem fld_setFld_same (v : Word) {lo w : Nat} (x : Nat) (h : lo + w ≤ 64) : fld (setFld v lo w x) lo w = x % 2 ^ w := by
  have hsum : v.toNat - (fld v lo w <<< lo) + ((x % 2 ^ w) <<< lo) =
      v.toNat % 2 ^ lo + 2 ^ lo * (x % 2 ^ w + 2 ^ w * (v.toNat / 2 ^ lo / 2 ^ w)) := by
    have hlow := Nat.mod_add_div v.toNat (2 ^ lo)
    have hhigh := congrArg (2 ^ lo * ·) (Nat.mod_add_div (v.toNat / 2 ^ lo) (2 ^ w))
    simp only [Nat.mul_add] at hhigh
    rw [fld, Nat.shiftLeft_eq, Nat.shiftLeft_eq, Nat.shiftRight_eq_div_pow, Nat.mul_add, Nat.mul_comm _ (2 ^ lo), Nat.mul_comm _ (2 ^ lo)]
    omega
  have hpow : 2 ^ 64 = 2 ^ lo * 2 ^ (64 - lo) := by rw [← pow_add]; congr 1; omega
  rw [fld, setFld, hsum, BitVec.toNat_ofNat, Nat.shiftRight_eq_div_pow, hpow, Nat.mod_mul_right_div_self, Nat.add_mul_div_left _ _ (by positivity),
    Nat.div_eq_of_lt (Nat.mod_lt _ (by positivity)), Nat.zero_add, Nat.mod_mod_of_dvd _ (pow_dvd_pow 2 (by omega)), Nat.add_mul_mod_self_left, Nat.mod_mod]

/-- A field of a word is below its power of 2. -/
theorem fld_lt (v : Word) (lo w : Nat) : fld v lo w < 2 ^ w := Nat.mod_lt _ (by positivity)

/-! ### Changes of one page header -/

/-- `e` differs from `d` in the header of page `p` only, which is now `x`. -/
def Dev.OnlyPage (d e : Dev) (p : Nat) (x : PageHdr) : Prop :=
  e = { d with ctl := { d.ctl with pages := e.ctl.pages } } ∧ e.page p = x ∧ ∀ q, q ≠ p → e.page q = d.page q

theorem Dev.OnlyPage.refl (d : Dev) (p : Nat) : d.OnlyPage d p (d.page p) := ⟨rfl, rfl, fun _ _ => rfl⟩

/-- One more change of the same header. -/
theorem Dev.OnlyPage.onPage {d e : Dev} {p : Nat} {x : PageHdr} (h : d.OnlyPage e p x) (f : PageHdr → PageHdr) : d.OnlyPage (e.onPage p f) p (f x) := by
  obtain ⟨he, hx, hq⟩ := h
  refine ⟨?_, by rw [Dev.page_onPage, if_pos rfl, hx], fun q hne => by rw [Dev.page_onPage, if_neg hne, hq q hne]⟩
  rw [he]; rfl

theorem Dev.OnlyPage.err {d e : Dev} {p : Nat} {x : PageHdr} (h : d.OnlyPage e p x) (c : ErrCode) : d.OnlyPage (e.err p c) p (x.counted c) :=
  h.onPage _

theorem Dev.OnlyPage.frz {d e : Dev} {p : Nat} {x : PageHdr} (h : d.OnlyPage e p x) : e.obs.frz = d.obs.frz := by rw [h.1]
theorem Dev.OnlyPage.now {d e : Dev} {p : Nat} {x : PageHdr} (h : d.OnlyPage e p x) : e.now = d.now := by rw [h.1]; rfl

/-- A header that is as before: every header is. -/
theorem Dev.OnlyPage.page_eq {d e : Dev} {p : Nat} (h : d.OnlyPage e p (d.page p)) : e.page = d.page := by
  obtain ⟨-, hx, hq⟩ := h
  funext q
  by_cases hne : q = p
  · rw [hne, hx]
  · exact hq q hne

/-- A second change of the resettable part that causes no freeze of its own replaces the first. -/
theorem State.setDev_setDev (s : State) {d e : Dev} (h : e.obs.frz = d.obs.frz) : (s.setDev d).setDev e = s.setDev e := by
  simp only [State.setDev, h]
  cases d.obs.frz <;> rfl

theorem pageBecomes_setDev {s : State} {e : Dev} {p : Nat} {x : PageHdr} (h : s.dev.OnlyPage e p x) : PageBecomes s (s.setDev e) p x := by
  obtain ⟨he, hx, hq⟩ := h
  exact ⟨congrArg s.setDev he, hx, hq⟩

/-! ### A write of the host that reaches a register of the common header -/

theorem Reaches.up {s : State} {p : Nat} (h : Reaches s p) : s.up = true := h.1
theorem Reaches.lt {s : State} {p : Nat} (h : Reaches s p) : p < 202 := h.2.2.1

/-- The registers of the common header are those of every page type. -/
theorem PType.regAt_header (t : PType) {off : Nat} {g : Reg} (h : headerRegs.find? (fun r => inRun off (r.off, r.n, r.stride)) = some g) :
    t.regAt off = some g := by
  simp [PType.regAt, PType.regs, List.find?_append, h]

/-- Every page below 202 has a type. -/
theorem exists_pageType {p : Nat} (h : p < 202) : ∃ t, pageType p = some t := by
  have key : ∀ p : Fin 202, (pageType p).isSome = true := by decide +kernel
  exact Option.isSome_iff_exists.1 (key ⟨p, h⟩)

/-- A page that holds no half of a write loses none. -/
theorem Dev.splitLost_none {d : Dev} {p : Nat} (h : (d.page p).wbuf = none) : d.splitLost p = d := by simp [Dev.splitLost, h]

/-- A whole, aligned write to a register that the host reaches is that register's store. -/
theorem Reaches.write {s : State} {p off : Nat} {t : PType} {g : Reg} (h : Reaches s p) (ht : pageType p = some t) (hg : t.regAt off = some g)
    (ho : off % 8 = 0) (hl : off < 0x800) (v : Word) : s.write p off 8 v = (s.setDev s.dev).storeAt p off v := by
  obtain ⟨-, ha, hp, hw⟩ := h
  have hb : off / 8 * 8 = off := by omega
  have hr : regHere p off = true := by simp [regHere, ht, hg]
  have hlive : (if 0x800 ≤ off then off - 0x800 else off) = off := if_neg (by omega)
  simp only [State.write, ha, hw, hb, ho, hlive, hr, State.onDev, Dev.splitLost_none hw]
  rw [if_neg (by unfold pgMsix pgPba; omega), if_neg (by simp), if_neg (by omega), if_neg (by simp), if_neg (by simp)]
  simp

/-- A write of PAGE_CTRL, PAGE_EVENT or PAGE_EVENT_MASK is taken in every state of the page, and goes to no partner. -/
theorem Reaches.write_header {s : State} {p off : Nat} {t : PType} {g : Reg} (h : Reaches s p) (ht : pageType p = some t)
    (hg : headerRegs.find? (fun r => inRun off (r.off, r.n, r.stride)) = some g) (ho : off % 8 = 0) (hl : off < 0x030) (v : Word) :
    s.write p off 8 v = (s.setDev s.dev).headerWrite p t off v := by
  have hg' := t.regAt_header hg
  rw [h.write ht hg' ho (by omega)]
  have h1 : ¬ 0x800 ≤ off := by omega
  have h2 : ¬ 0x040 ≤ off := by omega
  have h3 : off ≠ 0x030 := by omega
  have h4 : off < 0x040 := by omega
  simp [State.storeAt, ht, hg', State.secondaryRefuses, State.relayWrite, State.store, h1, h2, h3, h4]

/-! ### PAGE_CTRL -/

/-- ENABLE and RESET written: a gated unit that is OFF goes to INIT; on any other page ENABLE and RESET are counted. -/
def PageHdr.enabled (x : PageHdr) (t : PType) (on reset : Bool) : PageHdr :=
  if t.gated then { x with enable := on, state := if on && decide (x.state = .off) then .init else x.state }
  else if on || reset then x.counted .badState else x

/-- ISOLATE written on a page that has none: counted. -/
def PageHdr.isolateRefused (x : PageHdr) (t : PType) (on : Bool) : PageHdr := if !t.caps.isolate && on then x.counted .badState else x

/-- SNAP_RELEASE written. -/
def PageHdr.released (x : PageHdr) (release : Bool) : PageHdr := if release then { x with snapHeld := false } else x

/-- SNAPSHOT written, on a page with counters: a latch already asked for stays. -/
def PageHdr.shot (x : PageHdr) (t : PType) (now : Time) (shot : Bool) : PageHdr :=
  if shot && t.caps.counters then { x with snapDue := some (match x.snapDue with | some u => u | none => (now / usT + 1) * usT) } else x

theorem Dev.OnlyPage.snapWrite {d e : Dev} {p : Nat} {t : PType} {x : PageHdr} (h : d.OnlyPage e p x) (ht : pageType p = some t) (shot release : Bool) :
    d.OnlyPage (e.snapWrite p shot release) p ((x.released release).shot t d.now shot) := by
  have hr : d.OnlyPage (if release then e.onPage p (fun h => { h with snapHeld := false }) else e) p (x.released release) := by
    unfold PageHdr.released
    split
    · exact h.onPage _
    · exact h
  simp only [Dev.snapWrite, PageHdr.shot, ht]
  split
  · rw [← hr.now]
    exact hr.onPage _
  · exact hr

/-- A write of PAGE_CTRL that leaves SNAP_HELD, the reserved bits and an ISOLATE bit that the page has as they stand changes, but for RESET of a
unit, the header alone. -/
theorem State.ctrlWrite_header (s : State) {p : Nat} {t : PType} {v : Word} (ht : pageType p = some t) (h6 : fld v 6 58 = 0)
    (h5 : fld v 5 1 = fld (s.dev.page p).ctrlWord 5 1) (h1 : t.caps.isolate = true → bit v 1 = (s.dev.page p).isolate) :
    ∃ e, s.dev.OnlyPage e p
        (((((s.dev.page p).enabled t (bit v 0) (bit v 2)).isolateRefused t (bit v 1)).released (bit v 4)).shot t s.dev.now (bit v 3)) ∧
      s.ctrlWrite p t v = if bit v 2 && t.gated then (s.setDev e).unitReset p else s.setDev e := by
  refine ⟨_, ?_, rfl⟩
  simp only [h6, h5, bne_self_eq_false, if_true, Bool.false_eq_true, if_false]
  refine Dev.OnlyPage.snapWrite ?_ ht _ _
  have hgate : s.dev.OnlyPage
      (if t.gated then s.dev.onPage p (fun h => { h with enable := bit v 0, state := if bit v 0 && decide (h.state = .off) then .init else h.state })
        else if bit v 0 || bit v 2 then s.dev.err p .badState else s.dev) p ((s.dev.page p).enabled t (bit v 0) (bit v 2)) := by
    unfold PageHdr.enabled
    split
    · exact (Dev.OnlyPage.refl _ _).onPage _
    · split
      · exact (Dev.OnlyPage.refl _ _).err _
      · exact Dev.OnlyPage.refl _ _
  cases hi : t.caps.isolate
  · cases hv : bit v 1
    · simpa [PageHdr.isolateRefused, hi] using hgate
    · simpa [PageHdr.isolateRefused, hi] using hgate.err _
  · simpa [PageHdr.isolateRefused, hi, h1 hi] using hgate

/-- What a row that sets bit `lo` of PAGE_CTRL writes: that bit, ENABLE and ISOLATE as they stand, and no other command. -/
theorem bit_ctrlSet (x : PageHdr) {lo i : Nat} (hlo : lo < 5) (hi : i < 5) :
    bit (setFld x.ctrlWord lo 1 1) i = (decide (lo = i) || decide (i = 0) && x.enable || decide (i = 1) && x.isolate) := by
  have key : ∀ e i' s : Bool, ∀ lo i : Fin 5, bit (setFld (fmkB 0 e ||| fmkB 1 i' ||| fmkB 5 s) lo 1 1) i =
      (decide ((lo : Nat) = i) || decide ((i : Nat) = 0) && e || decide ((i : Nat) = 1) && i') := by decide +kernel
  exact key x.enable x.isolate x.snapHeld ⟨lo, hlo⟩ ⟨i, hi⟩

/-- Such a row writes SNAP_HELD as it reads, and no reserved bit. -/
theorem fld_ctrlSet (x : PageHdr) {lo : Nat} (hlo : lo < 5) :
    fld (setFld x.ctrlWord lo 1 1) 5 1 = fld x.ctrlWord 5 1 ∧ fld (setFld x.ctrlWord lo 1 1) 6 58 = 0 := by
  have key : ∀ e i s : Bool, ∀ lo : Fin 5,
      fld (setFld (fmkB 0 e ||| fmkB 1 i ||| fmkB 5 s) lo 1 1) 5 1 = fld (fmkB 0 e ||| fmkB 1 i ||| fmkB 5 s) 5 1 ∧
      fld (setFld (fmkB 0 e ||| fmkB 1 i ||| fmkB 5 s) lo 1 1) 6 58 = 0 := by decide +kernel
  exact key x.enable x.isolate x.snapHeld ⟨lo, hlo⟩

/-- The header after the row that sets bit `lo` of PAGE_CTRL. -/
def PageHdr.rowSet (x : PageHdr) (t : PType) (now : Time) (lo : Nat) : PageHdr :=
  (((x.enabled t (decide (lo = 0) || x.enable) (decide (lo = 2))).isolateRefused t (decide (lo = 1) || x.isolate)).released (decide (lo = 4))).shot
    t now (decide (lo = 3))

/-- A row that sets one bit of PAGE_CTRL of a page that the host reaches, but for ISOLATE of a page that has it. -/
theorem Reaches.ctrlSet {s : State} {p lo : Nat} {t : PType} (h : Reaches s p) (ht : pageType p = some t) (hlo : lo < 5)
    (h1 : t.caps.isolate = true → lo ≠ 1) :
    ∃ e, s.dev.OnlyPage e p ((s.dev.page p).rowSet t s.dev.now lo) ∧
      s.ctrlSet p lo true = if decide (lo = 2) && t.gated then (s.setDev e).unitReset p else s.setDev e := by
  have hw : s.ctrlSet p lo true = (s.setDev s.dev).ctrlWrite p t (setFld (s.dev.page p).ctrlWord lo 1 1) := by
    rw [State.ctrlSet, State.hostWrite, State.actAll_up _ h.up, h.write_header ht rfl (by omega) (by omega)]
    rfl
  have hb := fun i (hi : i < 5) => bit_ctrlSet (s.dev.page p) hlo hi
  obtain ⟨h5, h6⟩ := fld_ctrlSet (s.dev.page p) hlo
  obtain ⟨e, he, hc⟩ := (s.setDev s.dev).ctrlWrite_header ht h6 h5 (fun hi => by simp [hb 1 (by omega), h1 hi])
  have hf : e.obs.frz = s.dev.obs.frz := he.frz
  refine ⟨e, ?_, ?_⟩
  · simpa [hb, PageHdr.rowSet] using he
  · rw [hw, hc, hb 2 (by omega), State.setDev_setDev s hf]
    simp

/-! ### Page states -/

/-- The state that a page of a gated type reports follows from the headers and from what the units hold. -/
theorem pageState_of_page {s : State} {e : Dev} {p : Nat} {t : PType} (ht : pageType p = some t) (hg : t.gated = true)
    (h : s.dev.OnlyPage e p (s.dev.page p)) : (s.setDev e).pageState p = s.pageState p := by
  have hp := h.page_eq
  obtain ⟨he, -, -⟩ := h
  have hcases : t = .geode ∨ t = .garnet ∨ t = .mica ∨ t = .quad := by cases t <;> simp [PType.gated] at hg ⊢
  rcases hcases with rfl | rfl | rfl | rfl <;> simp only [State.pageState, ht, State.setDev_dev]
  · simp only [Dev.geState, hp]
    rw [he]; rfl
  · simp only [Dev.gaState, hp]
    rw [he]; rfl
  · simp only [Dev.micaState, hp]
    rw [he]; rfl
  · simp only [Dev.quadState, hp]
    rw [he]; rfl

/-- A row that sets a bit of PAGE_CTRL, but for RESET of a unit, changes the header alone. -/
theorem Reaches.ctrlSet_becomes {s : State} {p lo : Nat} {t : PType} (h : Reaches s p) (ht : pageType p = some t) (hlo : lo < 5)
    (h1 : t.caps.isolate = true → lo ≠ 1) (h2 : lo = 2 → t.gated = false) :
    PageBecomes s (s.ctrlSet p lo true) p ((s.dev.page p).rowSet t s.dev.now lo) := by
  obtain ⟨e, he, hc⟩ := h.ctrlSet ht hlo h1
  rw [hc, if_neg (by simpa using h2)]
  exact pageBecomes_setDev he

/-- ENABLE written as it stands changes nothing of a unit that is not OFF, nor of another page whose ENABLE is 0. -/
theorem PageHdr.enabled_same (x : PageHdr) (t : PType) (reset : Bool) (hg : t.gated = true → x.enable = true → x.state ≠ .off)
    (hn : t.gated = false → x.enable = false ∧ reset = false) : x.enabled t x.enable reset = x := by
  cases h : t.gated
  · simp [PageHdr.enabled, h, hn h]
  · have hst : (x.enable && decide (x.state = .off)) = false := by simpa using hg h
    simp [PageHdr.enabled, h, hst]

/-- An ISOLATE of 0 is refused by no page. -/
theorem PageHdr.isolateRefused_same (x : PageHdr) {t : PType} {on : Bool} (h : t.caps.isolate = true ∨ on = false) : x.isolateRefused t on = x := by
  rcases h with h | h <;> simp [PageHdr.isolateRefused, h]

@[simp] theorem PageHdr.released_false (x : PageHdr) : x.released false = x := rfl
@[simp] theorem PageHdr.shot_false (x : PageHdr) (t : PType) (now : Time) : x.shot t now false = x := rfl

/-- RESET of a gated unit writes nothing else to its header. -/
theorem PageHdr.rowSet_reset (x : PageHdr) {t : PType} (now : Time) (hg : t.gated = true) (hi : t.caps.isolate = true ∨ x.isolate = false)
    (hoff : x.state ≠ .off) : x.rowSet t now 2 = x := by
  have he := x.enabled_same t true (fun _ _ => hoff) (fun h => by simp [hg] at h)
  simp [PageHdr.rowSet, he, PageHdr.isolateRefused_same _ hi]

/-- RESET of a gated unit that is not OFF: one that may be reset goes to INIT, any other is counted. -/
theorem Reaches.reset_becomes {s : State} {p : Nat} {t : PType} (h : Reaches s p) (ht : pageType p = some t) (hg : t.gated = true)
    (hi : t.caps.isolate = true ∨ (s.dev.page p).isolate = false) (hoff : (s.dev.page p).state ≠ .off) :
    ((s.pageState p = .ready ∨ s.pageState p = .isolated ∨ s.pageState p = .faulted) →
      PageBecomes s (s.ctrlSet p 2 true) p { s.dev.page p with state := .init }) ∧
    (¬ (s.pageState p = .ready ∨ s.pageState p = .isolated ∨ s.pageState p = .faulted) →
      PageBecomes s (s.ctrlSet p 2 true) p ((s.dev.page p).counted .badState)) := by
  obtain ⟨e, he, hc⟩ := h.ctrlSet ht (lo := 2) (by omega) (by simp)
  rw [PageHdr.rowSet_reset _ _ hg hi hoff] at he
  rw [hc, if_pos (by simp [hg]), State.unitReset, pageState_of_page ht hg he]
  constructor
  · intro hs
    rw [if_pos hs, State.setDev_setDev s (by rfl)]
    exact pageBecomes_setDev (he.onPage _)
  · intro hs
    rw [if_neg hs, State.setDev_setDev s (by rfl)]
    exact pageBecomes_setDev (he.err _)

/-- ENABLE and RESET of a page that is not gated are counted. -/
theorem PageHdr.rowSet_refused (x : PageHdr) {t : PType} (now : Time) {lo : Nat} (hlo : lo = 0 ∨ lo = 2) (hg : t.gated = false) (he : x.enable = false)
    (hi : x.isolate = false) : x.rowSet t now lo = x.counted .badState := by
  rcases hlo with rfl | rfl <;> simp [PageHdr.rowSet, PageHdr.enabled, hg, he, hi, PageHdr.isolateRefused_same]

/-- The self test of a gated unit in INIT. -/
theorem exec_selfTestDone {s : State} {p : Nat} {t : PType} (h : s.up = true) (ht : pageType p = some t) (hg : t.gated = true)
    (hst : (s.dev.page p).state = .init) : exec (.selfTestDone p) s = .next (s.setDev (s.dev.onPage p (fun x => { x with state := .ready }))) := by
  show Host.Outcome.next _ = _
  rw [State.act_up _ h]
  simp [ht, hg, hst]

/-- ENABLE, the self test, RESET and ISOLATE of a page. -/
theorem pageStateCommands : PageStateCommands := by
  intro s p t h ht
  refine ⟨fun hg hi hoff => ⟨_, rfl, ?_⟩, fun hg hst => ⟨_, exec_selfTestDone h.up ht hg hst, ?_⟩, fun hg hi hoff hs => ⟨_, rfl, ?_⟩,
    fun hg hi hoff h1 h2 h3 => ⟨_, rfl, ?_⟩, fun hg he hi => ⟨_, rfl, ?_⟩, fun hg he hi => ⟨_, rfl, ?_⟩, fun hg hc he hi => ⟨_, rfl, ?_⟩⟩
  · have hx : (s.dev.page p).rowSet t s.dev.now 0 = { s.dev.page p with enable := true, state := .init } := by
      simp [PageHdr.rowSet, PageHdr.enabled, hg, hoff, PageHdr.isolateRefused_same _ hi]
    rw [← hx]
    exact h.ctrlSet_becomes ht (by omega) (by simp) (by simp)
  · exact pageBecomes_setDev ((Dev.OnlyPage.refl _ _).onPage _)
  · exact (h.reset_becomes ht hg hi hoff).1 hs
  · exact (h.reset_becomes ht hg hi hoff).2 (by simp [h1, h2, h3])
  · rw [← PageHdr.rowSet_refused _ s.dev.now (.inl rfl) hg he hi]
    exact h.ctrlSet_becomes ht (by omega) (by simp) (by simp)
  · rw [← PageHdr.rowSet_refused _ s.dev.now (.inr rfl) hg he hi]
    exact h.ctrlSet_becomes ht (by omega) (by simp) (by simp [hg])
  · have hx : (s.dev.page p).rowSet t s.dev.now 1 = (s.dev.page p).counted .badState := by
      simp [PageHdr.rowSet, PageHdr.enabled, PageHdr.isolateRefused, hg, hc, he]
    rw [← hx]
    exact h.ctrlSet_becomes ht (by omega) (by simp [hc]) (by simp)

/-! ### Snapshots -/

/-- A table after writes at some keys reads there as was written, and elsewhere as before. -/
theorem tabGetD_foldl_tabPutD {α : Type} [DecidableEq α] (z : α) (f : Nat → α) (l : List Nat) (m : Tab α) (k : Nat) :
    tabGetD z (l.foldl (fun m k => tabPutD z m k (f k)) m) k = if k ∈ l then f k else tabGetD z m k := by
  induction l generalizing m with
  | nil => simp
  | cons j l ih =>
    rw [List.foldl_cons, ih, tabGetD_tabPutD]
    by_cases hl : k ∈ l
    · simp [hl]
    · by_cases hj : k = j <;> simp [hl, hj]

/-- A latch of a page whose counters are the model's own: the header, every counter of the page, and the counters themselves, which go on. -/
theorem Dev.latch_spec (d : Dev) {p : Nat} (hp : p ≠ pgPcie) (now : Time) :
    (d.latch p now).page p = { d.page p with snapHeld := true, snapTime := shortOf now, snapDue := (d.page p).snapDue.filter (fun u => decide (now < u)) } ∧
    (∀ k ∈ counterKeys p, tabGetD 0 (d.latch p now).ctl.snaps k = tabGetD 0 d.ctl.counters k) ∧ (d.latch p now).ctl.counters = d.ctl.counters := by
  simp only [Dev.latch, if_neg hp]
  refine ⟨by rw [Dev.page_onPage, if_pos rfl]; rfl, fun k hk => ?_, rfl⟩
  exact (tabGetD_foldl_tabPutD 0 _ _ _ k).trans (if_pos hk)

/-- SNAPSHOT and SNAP_RELEASE write nothing else to a header whose ENABLE tells that its unit is not OFF. -/
theorem PageHdr.rowSet_snap (x : PageHdr) {t : PType} (now : Time) (he : x.enable = (t.gated && decide (x.state ≠ .off)))
    (hi : t.caps.isolate = true ∨ x.isolate = false) : x.rowSet t now 3 = x.shot t now true ∧ x.rowSet t now 4 = x.released true := by
  have hs := x.enabled_same t false (fun _ h => by simp [he] at h; exact h.2) (fun h => by simp [he, h])
  constructor <;> simp [PageHdr.rowSet, hs, PageHdr.isolateRefused_same _ hi]

/-- SNAPSHOT, the latch at its tick, and SNAP_RELEASE. -/
theorem snapshots : Snapshots := by
  intro s p t h ht he hi
  obtain ⟨h3, h4⟩ := PageHdr.rowSet_snap (s.dev.page p) s.dev.now he hi
  have hshot := h.ctrlSet_becomes ht (lo := 3) (by omega) (by simp) (by simp)
  obtain ⟨hrel, hheader, -⟩ := h.ctrlSet_becomes ht (lo := 4) (by omega) (by simp) (by simp)
  rw [h3] at hshot
  rw [h4] at hheader
  refine ⟨fun hc hd => ⟨_, rfl, ?_⟩, fun hc => ⟨_, rfl, ?_⟩, fun due hp hd hn => ⟨s.setDev (s.dev.latch p due), ?_, ?_⟩, ⟨_, rfl, ?_, fun o => ?_⟩⟩
  · simpa [PageHdr.shot, hc, hd] using hshot
  · simpa [PageHdr.shot, hc] using hshot
  · show Host.Outcome.next _ = _
    rw [State.act_up _ h.up, Dev.snapLatch, hd]
    simp [hn]
  · obtain ⟨hh, hk, hcnt⟩ := s.dev.latch_spec hp due
    rw [State.setDev_dev, hh, hd]
    exact ⟨rfl, rfl, by simp, hk, hcnt⟩
  · rw [hheader]; rfl
  · have hheld : ((s.ctrlSet p 4 true).dev.page p).snapHeld = false := by rw [hheader]; rfl
    rw [Dev.counterRead, if_neg (by simp [hheld]), hrel]
    rfl

/-! ### Messages and events -/

/-- A message that leaves at once. -/
theorem Dev.msix_of_live {d : Dev} {v : Nat} (h : d.msixLive v = true) : d.msix v = d.emit (.msix v) := by simp [Dev.msix, h]

/-- A message that does not leave at once changes the pending-bit array only. -/
theorem Dev.msix_of_not_live {d : Dev} {v : Nat} (h : d.msixLive v = false) :
    d.msix v = { d with ctl := { d.ctl with msixPend := (d.msix v).ctl.msixPend } } := by
  simp only [Dev.msix, h]
  split
  · contradiction
  · split <;> rfl

/-- A message on a masked vector waits. -/
theorem Dev.msix_waits {d : Dev} {v : Nat} (hon : d.ctl.msixOn = true) (hm : d.msixMasked v = true) : (d.msix v).ctl.msixPend.contains v = true := by
  by_cases hc : d.ctl.msixPend.contains v = true <;> simp_all [Dev.msix, Dev.msixLive]

/-- While MSI-X is off a message is lost. -/
theorem Dev.msix_off {d : Dev} (v : Nat) (hon : d.ctl.msixOn = false) : d.msix v = d := by simp [Dev.msix, Dev.msixLive, hon]

@[simp] theorem Dev.page_msix (d : Dev) (v q : Nat) : (d.msix v).page q = d.page q := by
  cases h : d.msixLive v
  · rw [Dev.msix_of_not_live h]; rfl
  · rw [Dev.msix_of_live h]; rfl

@[simp] theorem Dev.msixLive_msix (d : Dev) (v w : Nat) : (d.msix v).msixLive w = d.msixLive w := by
  cases h : d.msixLive v
  · rw [Dev.msix_of_not_live h]; rfl
  · rw [Dev.msix_of_live h]; rfl

/-- As many messages on one vector as a list is long. -/
theorem Dev.msix_foldl {α : Type} (l : List α) (d : Dev) (v : Nat) :
    (∀ q, (l.foldl (fun (d : Dev) _ => d.msix v) d).page q = d.page q) ∧
    (l.foldl (fun (d : Dev) _ => d.msix v) d).ctl.out = d.ctl.out ++ (if d.msixLive v then List.replicate l.length (.msix v) else []) := by
  induction l generalizing d with
  | nil => simp
  | cons x l ih =>
    obtain ⟨hp, ho⟩ := ih (d.msix v)
    refine ⟨fun q => (hp q).trans (d.page_msix v q), ?_⟩
    rw [List.foldl_cons, ho, Dev.msixLive_msix]
    cases h : d.msixLive v
    · rw [Dev.msix_of_not_live h]; simp
    · rw [Dev.msix_of_live h]; simp [Dev.emit, List.replicate_succ]

/-- An event bit that rises: the bit, and the message of an unmasked one. -/
theorem Dev.event_rises {d : Dev} {p b : Nat} (h : (d.page p).event.getLsbD b = false) :
    d.event p b = (if (d.page p).mask.getLsbD b then id else fun e : Dev => e.msix (d.page p).vector)
      (d.setPage p { d.page p with event := (d.page p).event ||| BitVec.ofNat 48 (2 ^ b) }) := by
  simp only [Dev.event, h]
  split
  · contradiction
  · split <;> rfl

/-- An event bit that rises, and one already set. -/
theorem eventMessages : EventMessages := by
  intro d p b hb
  refine ⟨fun h => by simp [Dev.event, h], fun h => ⟨d.event_bit p b hb, ?_⟩⟩
  rw [Dev.event_rises h]
  cases hm : (d.page p).mask.getLsbD b
  · simp only [Bool.false_eq_true, if_false]
    refine ⟨fun hl => ?_, fun hl => ?_, fun hon hv _ => ?_, fun hon => ?_⟩
    · rw [Dev.msix_of_live (by exact hl)]; rfl
    · rw [Dev.msix_of_not_live (by exact hl)]; rfl
    · exact Dev.msix_waits hon hv
    · rw [Dev.msix_off _ (by exact hon)]; rfl
  · simp [Dev.setPage]

/-- PAGE_EVENT written: the bits written as 1 are cleared. -/
theorem Dev.clearEvents_only (d : Dev) (p : Nat) {v : Word} (hv : fld v 48 16 = 0) :
    d.OnlyPage (d.clearEvents p v) p { d.page p with event := (d.page p).event &&& ~~~(v.setWidth 48) } := by
  have hn : BitVec.ofNat 48 v.toNat ^^^ BitVec.allOnes 48 = ~~~(v.setWidth 48) := by
    rw [BitVec.xor_allOnes, BitVec.ofNat_toNat]
  rw [Dev.clearEvents, if_pos hv, ← hn]
  exact (Dev.OnlyPage.refl d p).onPage _

/-- PAGE_EVENT_MASK written: the mask and the vector, and a message for each event bit already set that is unmasked. -/
theorem Dev.writeMask_page_out (d : Dev) (p : Nat) {v : Word} (hv : fld v 56 8 = 0) :
    (d.writeMask p v).page p = { d.page p with mask := v.setWidth 48, vector := fld v 48 8 } ∧
    (d.writeMask p v).ctl.out = d.ctl.out ++ (if d.msixLive (fld v 48 8) then List.replicate
      ((List.range 48).filter (fun i => (d.page p).event.getLsbD i && (d.page p).mask.getLsbD i && !(v.setWidth 48).getLsbD i)).length
      (.msix (fld v 48 8)) else []) := by
  have hcount : (fun i => (d.page p).mask.getLsbD i && !(v.setWidth 48).getLsbD i && (d.page p).event.getLsbD i) =
      fun i => (d.page p).event.getLsbD i && (d.page p).mask.getLsbD i && !(v.setWidth 48).getLsbD i := by
    funext i
    rw [Bool.and_comm, Bool.and_assoc]
  rw [Dev.writeMask, if_pos hv, BitVec.ofNat_toNat, hcount]
  obtain ⟨hp, ho⟩ := Dev.msix_foldl
    (List.range ((List.range 48).filter (fun i => (d.page p).event.getLsbD i && (d.page p).mask.getLsbD i && !(v.setWidth 48).getLsbD i)).length)
    (d.setPage p { d.page p with mask := v.setWidth 48, vector := fld v 48 8 }) (fld v 48 8)
  rw [List.length_range] at ho
  exact ⟨by rw [hp, Dev.page_setPage, if_pos rfl], ho⟩

/-- A write of PAGE_EVENT or PAGE_EVENT_MASK changes the resettable part as that register's write does. -/
theorem Reaches.hostWrite_event {s : State} {p : Nat} (h : Reaches s p) (v : Word) :
    s.hostWrite p 0x020 v = (s.setDev s.dev).setDev (s.dev.clearEvents p v) ∧ s.hostWrite p 0x028 v = (s.setDev s.dev).setDev (s.dev.writeMask p v) := by
  obtain ⟨t, ht⟩ := exists_pageType h.lt
  constructor <;> rw [State.hostWrite, State.actAll_up _ h.up, h.write_header ht rfl (by omega) (by omega)] <;> rfl

/-- PAGE_EVENT and PAGE_EVENT_MASK written by the host. -/
theorem pageEvents : PageEvents := by
  intro s p v h
  obtain ⟨hclear, hmask⟩ := h.hostWrite_event v
  refine ⟨fun hv => ⟨_, rfl, ?_⟩, fun hv => ⟨_, rfl, ?_⟩⟩
  · have ho := s.dev.clearEvents_only p hv
    rw [hclear, State.setDev_setDev s ho.frz]
    exact pageBecomes_setDev ho
  · obtain ⟨hp, ho⟩ := s.dev.writeMask_page_out p hv
    rw [hmask, State.setDev_dev]
    exact ⟨hp, fun hl => by simpa [hl] using ho, fun hl => by simpa [hl] using ho⟩

/-- Settles O8: each row of the common header as the header it leaves, and the messages as what has left the block. -/
theorem pageHeaders : Obligations.PageHeaders := ⟨pageStateCommands, snapshots, pageEvents, eventMessages⟩

/-! ### The BAR4 window -/

/-- The fields of WIN_BASE (Table 2-3). -/
theorem regAt_winBase : PType.pcie.regAt 0x050 = some { off := 0x050, flds := [⟨16, 21, .rw, 0, .any⟩, ⟨63, 1, .ro, 0, .any⟩] } := by decide +kernel

/-- WIN_BASE written: the base is merged with what was stored, and its field is the one written. -/
theorem winBase_merge (old seen v : Word) :
    fld (mergeFields [⟨16, 21, .rw, 0, .any⟩, ⟨63, 1, .ro, 0, .any⟩] old seen v).1 16 21 = fld v 16 21 := by
  have hm : (mergeFields [⟨16, 21, .rw, 0, .any⟩, ⟨63, 1, .ro, 0, .any⟩] old seen v).1 = setFld old 16 21 (fld v 16 21) := by
    simp only [mergeFields, List.foldl_cons, List.foldl_nil, limitField]
    split <;> rfl
  rw [hm, fld_setFld_same _ _ (by omega), Nat.mod_eq_of_lt (fld_lt v 16 21)]

/-- Errors counted leave the registers. -/
theorem Dev.regs_errs (d : Dev) (p : Nat) (l : List ErrCode) : (d.errs p l).ctl.regs = d.ctl.regs := by
  unfold Dev.errs
  induction l.eraseDups generalizing d with
  | nil => rfl
  | cons e l ih => exact ih (d.err p e)

/-- A base within reach is stored and clears REJECTED; one beyond it sets REJECTED and leaves the registers. -/
theorem Dev.winBaseWrite_cases (d : Dev) (v : Word) :
    (fld v 16 21 * 65536 ≤ 0x1E80000000 → (d.winBaseWrite v).ctl.winRejected = false ∧ fld ((d.winBaseWrite v).reg pgPcie 0x050) 16 21 = fld v 16 21) ∧
    (0x1E80000000 < fld v 16 21 * 65536 → (d.winBaseWrite v).ctl.winRejected = true ∧ (d.winBaseWrite v).ctl.regs = d.ctl.regs) := by
  constructor
  · intro h
    simp only [Dev.winBaseWrite, regAt_winBase, winBase_merge, Nat.not_lt.2 h, decide_false]
    refine ⟨trivial, ?_⟩
    show fld (Dev.reg (Dev.setReg _ pgPcie 0x050 _) pgPcie 0x050) 16 21 = _
    rw [Dev.reg_setReg, if_pos rfl, winBase_merge]
  · intro h
    simp only [Dev.winBaseWrite, regAt_winBase, winBase_merge, h, decide_true, if_true]
    exact ⟨trivial, Dev.regs_errs _ _ _⟩

/-- A write of WIN_BASE changes the control model alone. -/
theorem Dev.winBaseWrite_told (d : Dev) (v : Word) : d.Told (d.winBaseWrite v) := by
  have hset : ∀ (e : Dev) (c : Bool) (w : Word), e.Told { (if c then e else e.setReg pgPcie 0x050 w) with
      ctl := { (if c then e else e.setReg pgPcie 0x050 w).ctl with winRejected := c } } := by
    intro e c w
    cases c <;> rfl
  exact (d.errs_told pgPcie _).trans (hset _ _ _)

/-- A write of WIN_BASE by the host of a unit whose writes go to no partner. -/
theorem Reaches.hostWrite_winBase {s : State} {v : Word} (h : Reaches s pgPcie) (ha : Alone s) (hi : s.pageState pgPcie ≠ .isolated)
    (ht : s.pageState pgPcie ≠ .testing) :
    s.hostWrite pgPcie 0x050 v = (s.setDev s.dev).setDev (s.dev.winBaseWrite v) := by
  obtain ⟨hrole, hjoin⟩ := ha
  have hst : (s.setDev s.dev).pageState pgPcie = s.pageState pgPcie := rfl
  have hj : (s.dev.winBaseWrite v).joined = false := by rw [s.dev.winBaseWrite_told v]; exact hjoin
  have hstore : ∀ g : Reg, g.rws = false → (s.setDev s.dev).store pgPcie .pcie g 0x050 false v = (s.setDev s.dev).setDev (s.dev.winBaseWrite v) := by
    intro g hg
    simp [State.store, hst, hi, ht, hg, State.liveWrite, State.onDev]
  rw [State.hostWrite, State.actAll_up _ h.up, h.write (t := .pcie) rfl regAt_winBase (by omega) (by omega)]
  simp [State.storeAt, show pageType pgPcie = some .pcie from rfl, regAt_winBase, State.secondaryRefuses, hrole, State.relayWrite, hj, hstore]

/-- A string written but for some bytes: those read as before, every other as after the whole string. -/
theorem memRead_memWritesBut (skip : Nat → Bool) (m : List Host.Cell) (a q : Nat) (l : List Byte) :
    memRead (memWritesBut skip m a l) q = if skip q then memRead m q else memRead (memWrites m a l) q := by
  induction l generalizing m a with
  | nil => exact (ite_self _).symm
  | cons b t ih =>
    rw [memWritesBut, memWrites, ih]
    cases hq : skip q
    · cases ha : skip a
      · rfl
      · have hne : q ≠ a := fun h => by simp [h, ha] at hq
        simp [memRead_memWrites, hne]
    · cases ha : skip a
      · have hne : q ≠ a := fun h => by simp [h, ha] at hq
        simp [hne]
      · rfl

/-- Device memory written by physical address, byte by byte. -/
theorem Dev.memRead_physWrites (d : Dev) (a : Nat) {q : Nat} (b : List Byte) (hq : q < dramEnd) :
    memRead (d.physWrites a b).mem.dram q =
      if d.checkByte q then memRead d.mem.dram q else if a ≤ q ∧ q < a + b.length then nthD 0 b (q - a) else memRead d.mem.dram q := by
  rw [Dev.physWrites, memRead_memWritesBut]
  refine if_congr Iff.rfl rfl ?_
  rw [memRead_memWrites, List.length_take]
  by_cases h : a ≤ q ∧ q < a + b.length
  · rw [if_pos h, if_pos (by omega), nthD, List.getElem?_take_of_lt (by omega)]
  · rw [if_neg h, if_neg (by omega)]

/-- Device memory read by physical address, byte by byte. -/
theorem Dev.nthD_physReads (d : Dev) (a : Nat) {n i : Nat} (hi : i < n) (ha : a + i < dramEnd) (hc : d.checkByte (a + i) = false) :
    nthD 0 (d.physReads a n) i = memRead d.mem.dram (a + i) := by
  simp [nthD, Dev.physReads, List.getElem?_map, List.getElem?_range hi, Nat.not_le.2 ha, hc]

theorem exec_bar4Access {s : State} (h : s.up = true) (off : Nat) (op : BarOp) : exec (.bar4Access off op) s = .next (s.setDev (s.dev.bar4 off op)) :=
  congrArg Host.Outcome.next (State.act_up _ h)

/-- WIN_BASE written by the host, and accesses through the window. -/
theorem bar4Window : Bar4Window := by
  refine ⟨?_, fun s off b h hb => ⟨_, exec_bar4Access h _ _, ?_⟩, fun s off n h hn => ⟨_, exec_bar4Access h _ _, ?_⟩, fun s off op h => exec_bar4Access h off op⟩
  · intro s v h ha hi ht
    obtain ⟨hin, hout⟩ := s.dev.winBaseWrite_cases v
    have hw : (s.hostWrite pgPcie 0x050 v).dev = s.dev.winBaseWrite v := by rw [h.hostWrite_winBase ha hi ht]; rfl
    exact ⟨fun hv => ⟨_, rfl, by rw [hw]; exact hin hv⟩, fun hv => ⟨_, rfl, by rw [hw]; exact hout hv⟩⟩
  · have hw : s.dev.bar4 off (.write b) = s.dev.physWrites (fld (s.dev.reg pgPcie 0x050) 16 21 * 65536 + off) b := by
      simp [Dev.bar4, Nat.not_lt.2 hb]
    rw [hw]
    refine ⟨fun a hlt hout => ?_, fun i hi hlt => ?_, rfl⟩
    · rw [State.setDev_dev, Dev.memRead_physWrites _ _ _ hlt, if_neg (show ¬ (_ ∧ _) by omega), ite_self]
    · rw [State.setDev_dev, Dev.memRead_physWrites _ _ _ hlt, Nat.add_sub_cancel_left, if_pos (show _ ∧ _ by omega)]
  · have hr : s.dev.bar4 off (.read n) = (({ s.dev with ctl := { s.dev.ctl with free := s.dev.ctl.free + n } }).emit
        (.readBytes (s.dev.physReads (fld (s.dev.reg pgPcie 0x050) 16 21 * 65536 + off) n))).readBack (fld (s.dev.reg pgPcie 0x050) 16 21 * 65536 + off) n := by
      simp [Dev.bar4, Nat.not_lt.2 hn]
    rw [hr]
    exact ⟨rfl, rfl, fun i hi hlt hc => s.dev.nthD_physReads _ hi hlt hc⟩

/-! ### Resets of the host interface -/

/-- Only the page headers, the registers, the counters, what has left the block, the observation records, translation, DMA and the byte stores may differ: what the
DMA channels touch when they stop. -/
def Dev.Stopped (d e : Dev) : Prop :=
  e = { d with
    ctl := { d.ctl with pages := e.ctl.pages, regs := e.ctl.regs, counters := e.ctl.counters, msixPend := e.ctl.msixPend, out := e.ctl.out }
    obs := e.obs, xlat := e.xlat, dma := e.dma, mem := e.mem }

theorem Dev.Stopped.refl (d : Dev) : d.Stopped d := rfl
theorem Dev.Stopped.trans {a b c : Dev} (h : a.Stopped b) (k : b.Stopped c) : a.Stopped c := by
  unfold Dev.Stopped at *; rw [k, h]
theorem Dev.stopped_foldl {α : Type} (f : Dev → α → Dev) (h : ∀ (d : Dev) (x : α), d.Stopped (f d x)) (l : List α) (d : Dev) : d.Stopped (l.foldl f d) := by
  induction l generalizing d with
  | nil => exact .refl d
  | cons x t ih => exact (h d x).trans (ih _)

theorem Dev.setReg_stopped (d : Dev) (p o : Nat) (w : Word) : d.Stopped (d.setReg p o w) := rfl
theorem Dev.setDch_stopped (d : Dev) (ch : Nat) (x : DmaCh) : d.Stopped (d.setDch ch x) := rfl
theorem Dev.hold_stopped (d : Dev) (kind obj r va n : Nat) : d.Stopped (d.hold kind obj r va n) := rfl
theorem Dev.err_stopped (d : Dev) (p : Nat) (e : ErrCode) : d.Stopped (d.err p e) := rfl
theorem Dev.errs_stopped (d : Dev) (p : Nat) (l : List ErrCode) : d.Stopped (d.errs p l) := Dev.stopped_foldl _ (fun d e => d.err_stopped p e) _ _
theorem Dev.msix_stopped (d : Dev) (v : Nat) : d.Stopped (d.msix v) := by
  unfold Dev.msix
  split
  · rfl
  · split <;> rfl
theorem Dev.event_stopped (d : Dev) (p b : Nat) : d.Stopped (d.event p b) := by
  unfold Dev.event
  dsimp only
  split
  · rfl
  · split
    · rfl
    · exact Dev.Stopped.trans (b := d.setPage p _) rfl (Dev.msix_stopped _ _)
theorem Dev.trace_stopped (d : Dev) (c e s : Nat) (x y : Word) (o : Nat) : d.Stopped (d.trace c e s x y o) := by
  unfold Dev.trace
  dsimp only
  repeat' split
  all_goals rfl
theorem Dev.closeOf_stopped (d : Dev) (x : DmaCh) (how : Nat) : d.Stopped (d.closeOf x how) := by
  unfold Dev.closeOf Dev.closeFault Dev.traceClose
  dsimp only
  split
  · split
    · exact Dev.Stopped.trans (b := { d with xlat := _ }) rfl (Dev.trace_stopped _ _ _ _ _ _ _)
    · rfl
  · rfl
theorem Dev.writeVa_stopped (d : Dev) (r va : Nat) (l : List Byte) : d.Stopped (d.writeVa r va l) := by rw [Dev.writeVa_eq]; rfl

theorem Dev.chOffNow_stopped (d : Dev) (ch : Nat) : d.Stopped (d.chOffNow ch) := rfl

/-- A descriptor that ends. -/
theorem Dev.chEnd_stopped (d : Dev) (ch : Nat) : d.Stopped (d.chEnd ch) := by
  have hcount : ∀ (e : Dev) (o n : Nat), e.Stopped ((e.inc (pgDma ch) (chOff ch 0x38)).bump (pgDma ch) o n) := fun _ _ _ => rfl
  have hfree : ∀ (e : Dev) (x : DmaCh), e.Stopped ((e.freeMover ch).setDch ch x) := fun _ _ => rfl
  have hevent : ∀ (c : Prop) [Decidable c] (e : Dev), e.Stopped (if c then e.event (pgDma ch) (2 * (ch % 8)) else e) := by
    intro c _ e
    split
    · exact e.event_stopped _ _
    · exact .refl e
  unfold Dev.chEnd
  dsimp only
  split
  · exact .refl d
  · have hend := fun l n (c : Prop) [Decidable c] x =>
      (((d.writeVa_stopped 0 (d.chDesc ch + 32) l).trans (hcount _ (chOff ch 0x30) n)).trans (hevent c _)).trans (hfree _ x)
    split
    · exact (hend _ _ _ _).trans (Dev.chOffNow_stopped _ _)
    · exact hend _ _ _ _

/-- A channel taken out of service or put in service. -/
theorem Dev.chEnable_stopped (d : Dev) (ch : Nat) (v : Word) : d.Stopped (d.chEnable ch v) := by
  unfold Dev.chEnable
  dsimp only
  generalize d.mergeAt (pgDma ch) (chOff ch 0) (v &&& (fmk 1 3 7 ^^^ BitVec.allOnes 64)) = m
  have herr := d.errs_stopped (pgDma ch) m.2
  generalize d.errs (pgDma ch) m.2 = e at herr ⊢
  refine herr.trans ?_
  split
  · split
    · exact ((Dev.setReg_stopped _ _ _ _).trans (Dev.setDch_stopped _ _ _)).trans (Dev.hold_stopped _ _ _ _ _ _)
    · exact (Dev.setReg_stopped _ _ _ _).trans (Dev.err_stopped _ _ _)
  · split
    · refine (e.setReg_stopped (pgDma ch) (chOff ch 0) (setFld m.1 0 1 1)).trans ?_
      split
      · exact ((Dev.closeOf_stopped _ _ _).trans (Dev.setDch_stopped _ _ _)).trans (Dev.chEnd_stopped _ _)
      · split
        · exact Dev.setDch_stopped _ _ _
        · exact Dev.chOffNow_stopped _ _
    · exact Dev.setReg_stopped _ _ _ _

theorem Dev.chStop_stopped (d : Dev) (ch : Nat) : d.Stopped (d.chStop ch) := by
  unfold Dev.chStop
  split
  · exact d.chEnable_stopped _ _
  · exact .refl d

/-- A ring is out of service with nothing in it. -/
def Ring.Idle (x : Ring) : Prop := x.enable = false ∧ x.cmdHead = x.cmdTail

/-- What the disabling of some rings does: theirs are idle, idle ones stay so, and beside the rings only translation's holds change. -/
theorem Dev.ringsOff_foldl (l : List Nat) (d : Dev) :
    let e := l.foldl (fun (d : Dev) k => (d.setRing (k / 4) (k % 4) (d.ring (k / 4) (k % 4)).stopped).unhold holdRing k) d
    e = { d with ctl := { d.ctl with rings := e.ctl.rings }, xlat := e.xlat } ∧
    ∀ r k, (4 * r + k ∈ l ∨ (d.ring r k).Idle) → (e.ring r k).Idle := by
  induction l generalizing d with
  | nil => exact ⟨rfl, fun r k h => by simpa using h⟩
  | cons j l ih =>
    obtain ⟨he, hi⟩ := ih ((d.setRing (j / 4) (j % 4) (d.ring (j / 4) (j % 4)).stopped).unhold holdRing j)
    refine ⟨by rw [List.foldl_cons, he]; rfl, fun r k h => hi r k ?_⟩
    have hr : (((d.setRing (j / 4) (j % 4) (d.ring (j / 4) (j % 4)).stopped).unhold holdRing j).ring r k) =
        (d.setRing (j / 4) (j % 4) (d.ring (j / 4) (j % 4)).stopped).ring r k := rfl
    rw [hr, Dev.ring_setRing]
    by_cases hj : 4 * r + k = j
    · right
      rw [if_pos (by omega)]
      exact ⟨rfl, rfl⟩
    · rw [if_neg (by omega)]
      rcases h with h | h
      · exact .inl ((List.mem_cons.1 h).resolve_left hj)
      · exact .inr h

/-- The key of a ring that a realm has is among those of all rings. -/
theorem mem_ringKeys {r k : Nat} (h : ringThere r k = true) : 4 * r + k ∈ ringKeys := by
  have hrk : r < 64 ∧ k < 4 := by
    simp [ringThere] at h
    omega
  rw [ringKeys, List.mem_filter, List.mem_range, show (4 * r + k) / 4 = r by omega, show (4 * r + k) % 4 = k by omega]
  exact ⟨by omega, h⟩

/-- Every ring disabled: beside the rings only translation's holds change. -/
theorem Dev.ringsOff_spec (d : Dev) :
    d.ringsOff = { d with ctl := { d.ctl with rings := d.ringsOff.ctl.rings }, xlat := d.ringsOff.xlat } ∧
    ∀ r k, ringThere r k = true → (d.ringsOff.ring r k).Idle := by
  have hkeys := fun r k (h : ringThere r k = true) => mem_ringKeys h
  unfold Dev.ringsOff
  generalize ringKeys = l at hkeys ⊢
  obtain ⟨he, hi⟩ := Dev.ringsOff_foldl l d
  exact ⟨he, fun r k h => hi r k (.inl (hkeys r k h))⟩

/-- A reset of the host interface: every ring idle, MSI-X off, the endpoint in D0, and beside the control model only the observation records, translation, DMA and
the byte stores may differ. -/
theorem Dev.hostReset_spec (d : Dev) :
    d.hostReset = { d with ctl := d.hostReset.ctl, obs := d.hostReset.obs, xlat := d.hostReset.xlat, dma := d.hostReset.dma, mem := d.hostReset.mem } ∧
    d.hostReset.ctl.msixOn = false ∧ d.hostReset.ctl.msixPend = [] ∧ d.hostReset.ctl.linkUp = d.ctl.linkUp ∧
    ∀ r k, ringThere r k = true → (d.hostReset.ring r k).Idle := by
  obtain ⟨hoff, hidle⟩ := d.ringsOff_spec
  have hstop := Dev.stopped_foldl (fun (d : Dev) ch => d.chStop ch) Dev.chStop_stopped (List.range 32) d.ringsOff
  unfold Dev.Stopped at hstop
  generalize hs : (List.range 32).foldl (fun (d : Dev) ch => d.chStop ch) d.ringsOff = e at hstop
  have hr : d.hostReset = { e with ctl := { e.ctl with msixOn := false, msixPend := [], d3hot := false } } := by rw [← hs]; rfl
  rw [hr]
  refine ⟨?_, rfl, rfl, ?_, fun r k h => ?_⟩
  · rw [hstop, hoff]
  · show e.ctl.linkUp = _
    rw [hstop, hoff]
  · have hrings : e.ctl.rings = d.ringsOff.ctl.rings := by rw [hstop]
    have hring : e.ring r k = d.ringsOff.ring r k := by rw [Dev.ring, hrings, Dev.ring]
    exact (congrArg Ring.Idle hring).mpr (hidle r k h)

theorem exec_functionLevelReset {s : State} (h : s.up = true) (d3 : Bool) :
    exec (.functionLevelReset d3) s = .next (s.setDev { s.dev.hostReset with ctl := { s.dev.hostReset.ctl with d3hot := d3 } }) :=
  congrArg Host.Outcome.next (State.act_up (fun d => { d.hostReset with ctl := { d.hostReset.ctl with d3hot := d3 } }) h)

theorem exec_perst {s : State} (h : s.up = true) : exec .perst s = .next (s.setDev (s.dev.hostReset.linkChange 0 0 false)) :=
  congrArg Host.Outcome.next (State.act_up (fun d => d.hostReset.linkChange 0 0 false) h)

theorem exec_pcieLinkChange {s : State} (h : s.up = true) (speed width : Nat) (up : Bool) :
    exec (.pcieLinkChange speed width up) s = .next (s.setDev (s.dev.linkChange speed width up)) :=
  congrArg Host.Outcome.next (State.act_up (fun d => d.linkChange speed width up) h)

/-- A link that is up at a speed and width of R47. -/
theorem Dev.linkChange_up (d : Dev) {speed width : Nat} (hs : speed ∈ [1, 2, 3]) (hw : width ∈ [1, 2, 4, 8]) :
    d.linkChange speed width true = { d with ctl := { d.ctl with linkUp := true, linkSpeed := speed, linkWidth := width } } := by
  have hs' : [1, 2, 3].contains speed = true := List.contains_iff_mem.2 hs
  have hw' : [1, 2, 4, 8].contains width = true := List.contains_iff_mem.2 hw
  simp only [Dev.linkChange, hs', hw', Bool.and_true, if_true]

/-- Resets of the host interface, and the link as PCIE.LINK shows it. -/
theorem hostInterfaceResets : HostInterfaceResets := by
  intro s h
  obtain ⟨hunits, hon, hpend, hlink, hrings⟩ := s.dev.hostReset_spec
  refine ⟨fun d3 => ⟨_, exec_functionLevelReset h d3, ?_⟩, ⟨_, exec_perst h, ?_⟩, fun speed width hs hw => ⟨_, exec_pcieLinkChange h speed width true, ?_⟩,
    fun speed width => ⟨_, exec_pcieLinkChange h speed width false, rfl, rfl⟩⟩
  · generalize s.dev.hostReset = e at *
    refine ⟨hon, hpend, rfl, hrings, ?_⟩
    refine ⟨?_, ?_, ?_, ?_, ?_, ?_, ?_, ?_, hlink⟩ <;> rw [hunits] <;> rfl
  · generalize s.dev.hostReset = e at *
    refine ⟨hon, rfl, rfl, ?_⟩
    rw [hunits]; rfl
  · rw [Dev.linkChange_up _ hs hw]
    exact ⟨rfl, rfl⟩

/-- Settles O9: the window byte by byte, and a reset of the host interface as what the rings, the DMA channels and MSI-X are left with. -/
theorem hostInterface : Obligations.HostInterface := ⟨bar4Window, hostInterfaceResets⟩

end Sys2Proof.Machine
end

section
/-! PROOFS. Media time (chapter 3): the tick of the clock and the reads of the time. -/

namespace Sys2Proof.Machine
open Sys2Proof

/-! ### The clock (R111, R112) -/

/-- The fields of a clock are in their ranges (R111). -/
def Clock.InRange (c : Clock) : Prop := c.sec < 2 ^ 48 ∧ c.ns < 1000000000 ∧ c.frac < 65536 ∧ c.sub < 65536

theorem Clock.tick_inRange (c : Clock) (n : Nat) : (c.tick n).InRange := by
  refine ⟨?_, ?_, ?_, ?_⟩ <;> exact Nat.mod_lt _ (by decide)

theorem Clock.tick_incr (c : Clock) (n : Nat) : (c.tick n).incr = c.incr := rfl

/-- The tick divides the sum of the sub-second fields and `n * incr` into fields again, and seconds wrap (R112). -/
theorem Clock.tick_units (c : Clock) (n : Nat) :
    (c.tick n).units = (c.units + n * c.incr) % (2 ^ 48 * (1000000000 * 4294967296)) := by
  simp only [Clock.units, Clock.tick]
  generalize n * c.incr = k
  omega

/-! ### PPS_OUT and WCLK_OUT (R138, R139) -/

/-- Only the levels of PPS_OUT and WCLK_OUT and what has left the device may differ. -/
def Dev.PinsMoved (d e : Dev) : Prop :=
  e = { d with clk := { d.clk with ppsHigh := e.clk.ppsHigh, wclkHigh := e.clk.wclkHigh }, ctl := { d.ctl with out := e.ctl.out } }

theorem Dev.PinsMoved.refl (d : Dev) : d.PinsMoved d := rfl
theorem Dev.PinsMoved.trans {a b c : Dev} (h : a.PinsMoved b) (k : b.PinsMoved c) : a.PinsMoved c := by
  unfold Dev.PinsMoved at *; rw [k, h]

/-- A fold of changes that each move the pins. -/
theorem Dev.pinsMoved_foldl {α : Type} (f : Dev → α → Dev) (h : ∀ (d : Dev) (x : α), d.PinsMoved (f d x)) (l : List α) (d : Dev) :
    d.PinsMoved (l.foldl f d) := by
  induction l generalizing d with
  | nil => exact .refl d
  | cons x t ih => exact (h d x).trans (ih _)

theorem Dev.wclkFall_pinsMoved (d : Dev) (t : Time) : d.PinsMoved (d.wclkFall t) := by
  unfold Dev.wclkFall
  split
  · exact .refl d
  · rfl

theorem Dev.wclkEdge_pinsMoved (d : Dev) (e : Time × Bool) : d.PinsMoved (d.wclkEdge e) := by
  unfold Dev.wclkEdge
  dsimp only
  split
  · exact d.wclkFall_pinsMoved _
  · split
    · exact d.wclkFall_pinsMoved _
    · rfl

theorem Dev.ppsFall_pinsMoved (d : Dev) (t : Time) : d.PinsMoved (d.ppsFall t) := by
  unfold Dev.ppsFall
  split
  · exact .refl d
  · rfl

theorem Dev.ppsEnd_pinsMoved (d : Dev) : d.PinsMoved d.ppsEnd := by
  unfold Dev.ppsEnd
  split
  · split
    · exact d.ppsFall_pinsMoved _
    · exact .refl d
  · exact .refl d

/-- A tick is the tick of the clock, and then the edges of the pins that fall in it. -/
theorem Dev.quartzTick_pinsMoved (d : Dev) (n : Nat) : Dev.PinsMoved { d with clk := d.clk.tick n } (d.quartzTick n) := by
  unfold Dev.quartzTick
  dsimp only
  refine .trans ?_ (Dev.ppsEnd_pinsMoved _)
  split
  · exact Dev.pinsMoved_foldl _ Dev.wclkEdge_pinsMoved _ _
  · exact .refl _

/-- Pins that move leave the reading of the clock, its ranges and its increment. -/
theorem Dev.PinsMoved.units {d e : Dev} (h : d.PinsMoved e) : e.clk.units = d.clk.units := by rw [h]; rfl
theorem Dev.PinsMoved.inRange {d e : Dev} (h : d.PinsMoved e) : e.clk.InRange ↔ d.clk.InRange := by rw [h]; rfl
theorem Dev.PinsMoved.incr {d e : Dev} (h : d.PinsMoved e) : e.clk.incr = d.clk.incr := by rw [h]

/-- A tick changes the clock and what has left the device, and nothing else. -/
theorem Dev.quartzTick_frame (d : Dev) (n : Nat) :
    d.quartzTick n = { d with clk := (d.quartzTick n).clk, ctl := { d.ctl with out := (d.quartzTick n).ctl.out } } := by
  have h := d.quartzTick_pinsMoved n
  unfold Dev.PinsMoved at h
  rw [h]

theorem exec_quartzTick {s : State} (h : s.up = true) (n : Nat) : exec (.quartzTick n) s = .next (s.setDev (s.dev.quartzTick n)) :=
  congrArg Host.Outcome.next (State.act_up (fun d => d.quartzTick n) h)

theorem tickAddsIncr : TickAddsIncr := by
  refine ⟨fun s n h => exec_quartzTick h n, fun s n h _ _ _ _ => ⟨_, exec_quartzTick h n, ?_⟩⟩
  have hpins := s.dev.quartzTick_pinsMoved n
  obtain ⟨hsec, hns, hfrac, hsub⟩ := hpins.inRange.2 (s.dev.clk.tick_inRange n)
  exact ⟨hpins.units.trans (s.dev.clk.tick_units n), hsec, hns, hfrac, hsub, hpins.incr.trans (s.dev.clk.tick_incr n),
    congrArg s.setDev (s.dev.quartzTick_frame n)⟩

/-! ### Full timestamps (R10, R11) -/

/-- One second as a literal, for arithmetic on instants. -/
theorem secT_eq : secT = 65536000000000 := rfl

/-- A field of a word by division. -/
theorem fld_eq (v : Word) (lo w : Nat) : fld v lo w = v.toNat / 2 ^ lo % 2 ^ w := by rw [fld, Nat.shiftRight_eq_div_pow]

theorem fullW0_toNat {t : Nat} (h : t < 2 ^ 48 * secT) : (fullW0 t).toNat = t / secT := by
  have hsec : t / secT < 2 ^ 48 := by rw [secT_eq] at *; omega
  rw [fullW0, fmk, Nat.shiftLeft_zero, Nat.mod_eq_of_lt hsec, BitVec.toNat_ofNat, Nat.mod_eq_of_lt (by omega)]

theorem fullW1_toNat (t : Nat) : (fullW1 t).toNat = t % secT := by
  have hlt : t % secT < secT := Nat.mod_lt t (by decide)
  rw [fullW1, BitVec.toNat_ofNat, Nat.mod_eq_of_lt (hlt.trans (by decide))]

/-- The two words of an instant below 2^48 seconds name it. -/
theorem fullTime_full {t : Nat} (h : t < 2 ^ 48 * secT) : fullTime (fullW0 t) (fullW1 t) = t := by
  change @Eq Nat _ _ -- `Time` is `Nat`, which omega wants by name
  simp only [fullTime, fld_eq, fullW0_toNat h, fullW1_toNat, secT_eq, nsT] at *
  omega

theorem fullValid_full {t : Nat} (h : t < 2 ^ 48 * secT) : fullValid (fullW0 t) (fullW1 t) = true := by
  simp only [fullValid, fld_eq, fullW0_toNat h, fullW1_toNat, secT_eq, Bool.and_eq_true, decide_eq_true_eq, beq_iff_eq] at *
  omega

/-! ### Reads of the time (R117) -/

theorem exec_nowW0Read {s : State} (h : s.ready = true) : exec .nowW0Read s = .next (s.setDev (s.dev.nowW0.1.emit (.readData s.dev.nowW0.2))) :=
  congrArg Host.Outcome.next (State.actReady_ready (fun d => d.nowW0.1.emit (.readData d.nowW0.2)) h)

/-- A block register of the QUARTZ page reads as `quartzRead` gives it. -/
theorem State.seen_quartz (s : State) {off : Nat} {v : Word} (hoff : ¬ off < 0x048) (hcnt : PType.quartz.isCounter off = false)
    (hv : s.dev.quartzRead off = some v) : s.seen pgQuartz off = v := by
  have ht : pageType pgQuartz = some .quartz := rfl
  have hr : s.blockRead pgQuartz .quartz off = some v := hv
  simp [State.seen, ht, hoff, hcnt, hr]

theorem nowReads : NowReads :=
  ⟨fun _ h => exec_nowW0Read h,
    fun s => ⟨s.seen_quartz (by decide) (by decide) rfl, s.seen_quartz (by decide) (by decide) rfl⟩,
    fun _ h => ⟨fullTime_full h, fullValid_full h⟩⟩

/-- Settles O12: the tick as the sum of the clock's units, with the pins it moves; the reads as the words of the instant (R111, R112, R117). -/
theorem clockAndNow : Obligations.ClockAndNow := ⟨tickAddsIncr, nowReads⟩

end Sys2Proof.Machine
end

section
/-! PROOFS. Updates and settings (chapter 16): what a command that is accepted, refused or waits leaves behind, the frames sent for a restart, and the commands of
Table 16-7. -/

namespace Sys2Proof.Machine
open Sys2Proof

/-! ### Completions (R83, R84, R91) -/

/-- Only the rings, the counters, the pending messages, what has left the block, the observation records and the byte stores may differ: what a completion
touches. -/
def Dev.Completed (d e : Dev) : Prop :=
  e = { d with
    ctl := { d.ctl with rings := e.ctl.rings, counters := e.ctl.counters, msixPend := e.ctl.msixPend, out := e.ctl.out }
    obs := e.obs, mem := e.mem }

theorem Dev.Completed.refl (d : Dev) : d.Completed d := rfl
theorem Dev.Completed.trans {a b c : Dev} (h : a.Completed b) (k : b.Completed c) : a.Completed c := by
  unfold Dev.Completed at *; rw [k, h]

theorem Dev.Completed.boot {d e : Dev} (h : d.Completed e) : e.boot = d.boot := by rw [h]
theorem Dev.Completed.clk {d e : Dev} (h : d.Completed e) : e.clk = d.clk := by rw [h]
theorem Dev.Completed.waits {d e : Dev} (h : d.Completed e) : e.ctl.waits = d.ctl.waits := by rw [h]
theorem Dev.Completed.page {d e : Dev} (h : d.Completed e) (p : Nat) : e.page p = d.page p := by rw [h]; rfl
theorem Dev.Completed.waiting {d e : Dev} (h : d.Completed e) (op o : Nat) : e.waiting op o = d.waiting op o := by
  rw [Dev.waiting, h.waits, Dev.waiting]

/-- A trace entry: the records, and a counter of the OBS page. -/
theorem Dev.trace_completed (d : Dev) (c e s : Nat) (x y : Word) (o : Nat) : d.Completed (d.trace c e s x y o) := by
  unfold Dev.trace
  dsimp only
  repeat' split
  all_goals rfl

@[simp] theorem Dev.out_trace (d : Dev) (c e s : Nat) (x y : Word) (o : Nat) : (d.trace c e s x y o).ctl.out = d.ctl.out := by
  unfold Dev.trace
  dsimp only
  repeat' split
  all_goals rfl

theorem Dev.counter_inc_of_ne (d : Dev) {p q o b : Nat} (hb : b < 4096) (ho : o < 4096) (h : q ≠ p) : (d.inc p o).counter q b = d.counter q b := by
  rw [Dev.inc, Dev.counter_bump, if_neg (by rw [regKey_inj hb ho]; exact fun k => h k.1)]

theorem Dev.counter_trace (d : Dev) (c e s : Nat) (x y : Word) (o : Nat) {p b : Nat} (hp : p ≠ pgObs) (hb : b < 4096) :
    (d.trace c e s x y o).counter p b = d.counter p b := by
  have hinc : ∀ k, k < 4096 → (d.inc pgObs k).counter p b = d.counter p b := fun k hk => d.counter_inc_of_ne hb hk hp
  unfold Dev.trace
  dsimp only
  split
  · rfl
  · split
    · rfl
    · split
      · exact hinc _ (by omega)
      · split
        · split
          · rfl
          · exact hinc _ (by omega)
        · exact hinc _ (by omega)

theorem Dev.msix_completed (d : Dev) (v : Nat) : d.Completed (d.msix v) := by
  unfold Dev.msix
  split
  · rfl
  · split <;> rfl

theorem Dev.postRing_completed (d : Dev) (m r : Nat) (tag : BitVec 32) (st : Status) (n : Nat) (v : Word) : d.Completed (d.postRing m r tag st n v) := by
  have hwrite : ∀ (va : Nat) (l : List Byte) (x : Ring), d.Completed ((d.writeVa m va l).setRing m r x) := fun va l x => by rw [Dev.writeVa_eq]; rfl
  unfold Dev.postRing
  dsimp only
  split
  · exact .refl d
  · split
    · exact (hwrite _ _ _).trans (Dev.msix_completed _ _)
    · exact hwrite _ _ _

theorem Dev.complete_completed (d : Dev) (k : Token) (st : Status) (n : Nat) (v : Word) : d.Completed (d.complete k st n v) := by
  have hemit : ∀ (e : Dev) (o : Output), e.Completed (e.emit o) := fun _ _ => rfl
  unfold Dev.complete
  dsimp only
  refine .trans ?_ (Dev.trace_completed _ _ _ _ _ _ _)
  split
  · split
    · exact hemit _ _
    · exact (d.postRing_completed _ _ _ _ _ _).trans (hemit _ _)
  · exact .refl d

/-- Every command of an opcode that waits on an object completes: none waits there any more. -/
theorem Dev.finish_completed (d : Dev) (op o : Nat) (st : Status) (n : Nat) (v : Word) :
    Dev.Completed { d with ctl := { d.ctl with waits := d.ctl.waits.filter (fun w => !(w.tok.opcode == op && w.obj == o)) } } (d.finish op o st n v) := by
  have hfold : ∀ (f : Wait → Status) (l : List Wait) (e : Dev), e.Completed (l.foldl (fun (d : Dev) (w : Wait) => d.complete w.tok (f w) n v) e) := by
    intro f l
    induction l with
    | nil => exact Dev.Completed.refl
    | cons w l ih => exact fun e => (e.complete_completed w.tok (f w) n v).trans (ih _)
  exact hfold (fun w => if w.late && decide (st = .ok) then .late else st) _ _

theorem Dev.waiting_finish (d : Dev) (op o : Nat) (st : Status) (n : Nat) (v : Word) : (d.finish op o st n v).waiting op o = false := by
  rw [(d.finish_completed op o st n v).waiting, Dev.waiting, List.any_eq_false]
  intro w hw
  simpa [imp_iff_not_or] using (List.mem_filter.1 hw).2

/-- A command of its own row completes: its completion leaves the block, unless its ring was reset since (log entry 13). -/
theorem Dev.complete_direct (d : Dev) {k : Token} (hk : k.direct = true) (hg : (d.ring k.cmd.realm k.cmd.ring).gen = k.gen) (st : Status) (n : Nat) (v : Word) :
    (d.complete k st n v).ctl.out = d.ctl.out ++ [.completion k.cmd.tag st (n % 65536) v] ∧
    ∀ p o, p ≠ pgObs → o < 4096 → (d.complete k st n v).counter p o = d.counter p o := by
  simp only [Dev.complete, hk, hg, beq_self_eq_true, Bool.true_or, Bool.and_self, if_true]
  exact ⟨Dev.out_trace _ _ _ _ _ _ _, fun p o hp ho => Dev.counter_trace _ _ _ _ _ _ _ hp ho⟩

/-! ### Commands of their own row (R85, R87) -/

variable {o : OpSpec} {c : HostCmd} {s t u : State}

/-- `u` is `t` once a completion has been posted; of the always-on part the freeze record alone may differ. -/
def State.Answered (t u : State) : Prop := u.aon = { t.aon with freeze := u.aon.freeze } ∧ t.dev.Completed u.dev

theorem State.Answered.dev (h : t.Answered u) : t.dev.Completed u.dev := h.2
theorem State.Answered.bank (h : t.Answered u) (b : Nat) : u.aon.bank b = t.aon.bank b := by rw [h.1]; rfl
theorem State.Answered.settings (h : t.Answered u) : u.aon.settings = t.aon.settings := by rw [h.1]
theorem State.Answered.counter (h : t.Answered u) : u.aon.counter = t.aon.counter := by rw [h.1]
theorem State.Answered.kept (h : t.Answered u) : KeptForGood t u := by unfold KeptForGood; rw [h.1]; simp

theorem keptForGood_setDev (s : State) (d : Dev) : KeptForGood s (s.setDev d) := ⟨rfl, rfl, rfl, rfl, rfl, rfl, rfl, rfl⟩

/-- What an accepted command finds: its bytes captured, and no check failed. -/
theorem Accepts.verdict (h : Accepts o c s) : ∃ l, o.capture c s.dev = some l ∧ o.verdict c false (some l) s = none := by
  obtain ⟨-, -, -, -, hv⟩ := h
  rw [OpSpec.judged] at hv
  cases hc : o.capture c s.dev with
  | some l => exact ⟨l, rfl, by rw [← hc]; exact hv⟩
  | none =>
    rw [hc, OpSpec.verdict] at hv
    split at hv <;> cases hv

/-- No check of an accepted command fails. -/
theorem Accepts.check (h : Accepts o c s) {x : Chk} (hx : x ∈ o.checks c s) (hs : x.st ∈ checkOrder) : x.bad = false := by
  obtain ⟨l, -, hv⟩ := h.verdict
  have hall := (firstFail_none _).1 hv x (by simp [hx])
  cases hb : x.bad
  · rfl
  · exact absurd hs (hall hb)

theorem Accepts.badArg (h : Accepts o c s) {k : Nat} {b : Bool} (hx : badArg k b ∈ o.checks c s) : b = false :=
  h.check hx (by simp [Machine.badArg, checkOrder])

/-- The row of an accepted command is its effect with its answer. -/
theorem Accepts.runs (h : Accepts o c s) : runCmd o c s = o.done c s := by
  obtain ⟨l, hl, hv⟩ := h.verdict
  obtain ⟨hready, hjoin, hroom, hacts, -⟩ := h
  obtain ⟨late, hlate⟩ := Option.isSome_iff_exists.1 hacts
  have hcrowd : ¬ OpSpec.crowded c s := fun hc => by
    simp only [OpSpec.crowded, Bool.and_eq_true, decide_eq_true_eq] at hc
    exact absurd (hroom hc.1) (by omega)
  rw [runCmd_accepted o c hready late l hcrowd (by rw [hjoin]; rfl) hlate hl hv, OpSpec.done, OpSpec.effect, hl, OpSpec.isLate, hlate]
  cases late <;> rfl

/-- A completion of a command's own row, posted over a state whose rings and clock are as they were. -/
theorem ends_complete (o : OpSpec) (hr : t.dev.ctl.rings = s.dev.ctl.rings) (hk : t.dev.clk = s.dev.clk) (st : Status) (n : Nat) (v : Word) :
    Ends (t.setDev (t.dev.complete (o.token c s) st n v)) s c st (n % 65536) v ∧ t.Answered (t.setDev (t.dev.complete (o.token c s) st n v)) ∧
    ∀ p b, p ≠ pgObs → b < 4096 → (t.setDev (t.dev.complete (o.token c s) st n v)).dev.counter p b = t.dev.counter p b := by
  have hg : (t.dev.ring c.realm c.ring).gen = (o.token c s).gen := by rw [Dev.ring, hr]; rfl
  obtain ⟨hout, hcount⟩ := t.dev.complete_direct (k := o.token c s) rfl hg st n v
  have hd := t.dev.complete_completed (o.token c s) st n v
  refine ⟨⟨?_, hd.clk.trans hk⟩, ⟨t.setDev_aon _, hd⟩, hcount⟩
  rw [State.setDev_dev, hout]
  simp [OpSpec.token]

/-- An accepted command that its rule ends with OK. -/
theorem Accepts.ok (h : Accepts o c s) {n : Nat} {v : Word} (he : o.effect c s = (t, .done .ok n v)) (hr : t.dev.ctl.rings = s.dev.ctl.rings)
    (hk : t.dev.clk = s.dev.clk) :
    ∃ u, runCmd o c s = u ∧ Ends u s c (o.okOr c s) (n % 65536) v ∧ t.Answered u ∧ ∀ p b, p ≠ pgObs → b < 4096 → u.dev.counter p b = t.dev.counter p b := by
  refine ⟨_, ?_, ends_complete o hr hk (o.okOr c s) n v⟩
  rw [h.runs, OpSpec.done, he]
  rfl

/-- An accepted command that ends without effect: its RESULT is a free value. -/
theorem Accepts.fails (h : Accepts o c s) {st : Status} {n : Nat} {v : Word} (he : o.effect c s = (t, .done st n v)) (hst : st ≠ .ok)
    (hr : t.dev.ctl.rings = s.dev.ctl.rings) (hk : t.dev.clk = s.dev.clk) :
    ∃ u, runCmd o c s = u ∧ Ends u s c st (n % 65536) t.dev.freeWord ∧ KeptForGood t u := by
  have hrun : runCmd o c s = t.setDev (t.dev.tickFree.complete (o.token c s) st n t.dev.freeWord) := by
    rw [h.runs, OpSpec.done, he, answer]
    simp only [hst, if_false]
    rfl
  obtain ⟨hends, -, -⟩ := ends_complete o (c := c) (s := s) (t := { t with dev := t.dev.tickFree }) hr hk st n t.dev.freeWord
  exact ⟨_, hrun, hends, keptForGood_setDev _ _⟩

/-- An accepted command that waits for the event that its rule names. -/
theorem Accepts.later (h : Accepts o c s) {j x : Nat} (he : o.effect c s = (t, .later j x)) :
    ∃ u, runCmd o c s = u ∧ u.dev.waiting o.opcode j = true ∧ u.dev.boot = t.dev.boot ∧ (∀ b, u.aon.bank b = t.aon.bank b) ∧ KeptForGood t u := by
  refine ⟨_, h.runs, ?_⟩
  rw [OpSpec.done, he, answer]
  refine ⟨?_, rfl, fun _ => rfl, keptForGood_setDev _ _⟩
  simp [Dev.waiting, State.onDev, OpSpec.token]

/-- A command of its own row that a check refuses: its completion, with a free RESULT, and no effect. -/
theorem runCmd_refused (h : s.ready = true) (hd : c.dated = false) {st : Status} {n : Nat} (hn : n < 65536) (hrej : o.rejected c st s.dev = s.dev)
    (hv : o.verdict c false (o.capture c s.dev) s = some (st, n)) :
    ∃ u, runCmd o c s = u ∧ u.dev.ctl.out.contains (.completion c.tag st n s.dev.freeWord) = true ∧ u.dev.boot = s.dev.boot ∧ KeptForGood s u := by
  have hrun : runCmd o c s = s.setDev (s.dev.tickFree.complete (o.token c s) st n s.dev.freeWord) := by
    rw [runCmd_rejected o c h st n (by simp [OpSpec.crowded, hd]) hv, State.onDev, hrej]
    rfl
  obtain ⟨⟨hout, -⟩, ⟨-, hc⟩, -⟩ := ends_complete o (c := c) (s := s) (t := { s with dev := s.dev.tickFree }) rfl rfl st n s.dev.freeWord
  rw [Nat.mod_eq_of_lt hn] at hout
  exact ⟨_, hrun, hout, hc.boot, keptForGood_setDev _ _⟩

/-- Checks that do not fail decide nothing. -/
theorem firstFail_append_good {l : List Chk} (m : List Chk) (h : ∀ x, x ∈ l → x.bad = false) : firstFail (l ++ m) = firstFail m := by
  have hnil : ∀ st : Status, l.filter (fun x => x.bad && decide (x.st = st)) = [] := fun st => by
    rw [List.filter_eq_nil_iff]
    intro x hx
    simp [h x hx]
  simp only [firstFail, List.filter_append, hnil, List.nil_append]

theorem arg_of_args_zero (h : c.args = 0) (k n : Nat) : c.arg k n = 0 := by
  have h0 : c.args.toNat = 0 := by simp only [h, BitVec.ofNat_eq_ofNat, BitVec.toNat_zero]
  rw [HostCmd.arg, h0, Nat.zero_shiftRight, Nat.zero_mod]

theorem dated_of_flags_zero (h : c.flags = 0) : c.dated = false := by simp [HostCmd.dated, h]

/-- A command of the owner with a valid timestamp and every other byte 0. -/
def Blank (c : HostCmd) : Prop := c.realm = 0 ∧ c.flags = 0 ∧ c.rsvd = 0 ∧ c.args = 0 ∧ fullValid c.when0 c.when1 = true

/-- Such a command passes the checks that every command has. -/
theorem Blank.commonChecks (h : Blank c) (o : OpSpec) (now : Time) : ∀ x, x ∈ commonChecks o c now → x.bad = false := by
  obtain ⟨hrealm, hflags, hrsvd, hargs, hwhen⟩ := h
  intro x hx
  simp only [Machine.commonChecks, List.mem_append, List.mem_cons, List.mem_map, List.not_mem_nil, or_false] at hx
  rcases hx with (rfl | rfl | rfl | rfl | rfl) | ⟨k, -, rfl⟩
  · simp [denied, hrealm]
  · simp [hflags]
  · simp [hrsvd]
  · simp [hwhen]
  · simp [dated_of_flags_zero hflags]
  · simp [badArg, arg_of_args_zero hargs]

/-! ### TARGET 0 (R765) -/

theorem here_of_target {k : Nat} (h : c.arg k 1 = 0) : here k c s = true := by simp [here, h]

/-- The effect of a command for this unit. -/
theorem OpSpec.effect_here {f : HostCmd → List Byte → Token → State → State × Reply} (hf : o.run = targeted 0 f) (h : c.arg 0 1 = 0) :
    o.effect c s = f c ((o.capture c s.dev).getD []) (o.token c s) s := by
  rw [OpSpec.effect, hf]
  exact if_pos (here_of_target h)

/-! ### Banks (R757, R758) -/

@[simp] theorem State.bank_setDev (s : State) (d : Dev) (b : Nat) : (s.setDev d).aon.bank b = s.aon.bank b := rfl

@[simp] theorem AlwaysOn.bank_setBank_same (a : AlwaysOn) (b : Nat) (x : Bank) : (a.setBank b x).bank b = x := by
  by_cases h : b = 0 <;> simp [AlwaysOn.setBank, AlwaysOn.bank, h]

theorem AlwaysOn.bank_setBank_of_ne (a : AlwaysOn) {b k : Nat} (x : Bank) (hb : b < 2) (hk : k < 2) (h : k ≠ b) : (a.setBank b x).bank k = a.bank k := by
  rcases (by omega : b = 0 ∧ k = 1 ∨ b = 1 ∧ k = 0) with ⟨rfl, rfl⟩ | ⟨rfl, rfl⟩ <;> rfl

@[simp] theorem AlwaysOn.counter_setBank (a : AlwaysOn) (b : Nat) (x : Bank) : (a.setBank b x).counter = a.counter := by
  unfold AlwaysOn.setBank; split <;> rfl

@[simp] theorem AlwaysOn.bank_toBank_same (a : AlwaysOn) (b : Nat) (st : BankState) : (a.toBank b st).bank b = { a.bank b with state := st } :=
  a.bank_setBank_same b _

@[simp] theorem AlwaysOn.counter_toBank (a : AlwaysOn) (b : Nat) (st : BankState) : (a.toBank b st).counter = a.counter := a.counter_setBank b _

/-- The bank that does not run is written, the other stays. -/
theorem AlwaysOn.bank_setBank_other (a : AlwaysOn) {b : Nat} (x : Bank) (h : b < 2) : (a.setBank (1 - b) x).bank b = a.bank b :=
  a.bank_setBank_of_ne x (by omega) h (by omega)

/-- The bank that runs is written, the other stays. -/
theorem AlwaysOn.bank_toBank_other (a : AlwaysOn) {b : Nat} (st : BankState) (h : b < 2) : (a.toBank b st).bank (1 - b) = a.bank (1 - b) :=
  a.bank_setBank_of_ne _ h (by omega) (by omega)

/-! ### A restart's boundary (R771) -/

/-- Only the pair, the lanes and what has left the block may differ: what a frame sent over the Mirror Link touches. -/
def Dev.Linked (d e : Dev) : Prop := e = { d with ctl := { d.ctl with out := e.ctl.out }, pair := e.pair, lanes := e.lanes }

theorem Dev.Linked.refl (d : Dev) : d.Linked d := rfl
theorem Dev.Linked.trans {a b c : Dev} (h : a.Linked b) (k : b.Linked c) : a.Linked c := by
  unfold Dev.Linked at *; rw [k, h]
theorem Dev.Linked.rings {d e : Dev} (h : d.Linked e) : e.ctl.rings = d.ctl.rings := by rw [h]
theorem Dev.Linked.clk {d e : Dev} (h : d.Linked e) : e.clk = d.clk := by rw [h]

theorem Dev.linkNext_linked (d : Dev) : d.Linked d.linkNext := by
  unfold Dev.linkNext
  split
  · exact .refl d
  · split
    · exact .refl d
    · rfl

theorem Dev.linkPump_linked (d : Dev) : d.Linked d.linkPump := by
  unfold Dev.linkPump
  generalize List.range d.pair.ready.length = l
  induction l generalizing d with
  | nil => exact .refl d
  | cons x l ih => exact d.linkNext_linked.trans (ih _)

theorem Dev.linkSend_linked (d : Dev) (ty : Nat) (l : List Byte) : d.Linked (d.linkSend ty l) := by
  unfold Dev.linkSend Dev.linkSendAt
  split
  · exact .refl d
  · exact .trans (b := { d with pair := _ }) rfl (Dev.linkPump_linked _)

/-- The boundary of a restart is the unit's own, or that of a surrender, which the partner is told. -/
theorem Dev.restartBoundary_linked (d : Dev) (own : Time) : d.Linked (d.restartBoundary own).1 := by
  unfold Dev.restartBoundary
  split
  · exact .refl d
  · split
    · exact .refl d
    · exact .trans (b := d.onPair _) rfl (Dev.linkSend_linked _ _ _)

theorem Dev.restartBoundary_alone {d : Dev} (h : d.mirrored = false) (own : Time) : (d.restartBoundary own).2 = own := by
  simp [Dev.restartBoundary, h]

/-! ### The package (R768 to R770) -/

/-- Literal bytes that the package still owes are made as they are. -/
theorem feedOps_literal (image l : List Byte) {lit : Nat} (h : l.length ≤ lit) (limit at_ : Nat) :
    feedOps image (l.length + 1) ⟨l, lit, false, [], limit, at_, none⟩ = ⟨[], lit - l.length, false, l, limit, at_ + l.length, none⟩ := by
  cases l with
  | nil => rfl
  | cons b l =>
    rw [List.length_cons] at h ⊢
    have hlit : 0 < lit := by omega
    have hmin : min lit (l.length + 1) = l.length + 1 := by omega
    simp [feedOps, hlit, hmin]

/-- The machine once literal bytes of a package have been taken. -/
def State.literalTaken (s : State) (l : List Byte) : State :=
  (s.onAon (fun a => a.setBank (1 - s.dev.boot.runBank)
    { a.bank (1 - s.dev.boot.runBank) with bytes := (a.bank (1 - s.dev.boot.runBank)).bytes ++ l })).setDev
    (s.dev.onBoot (fun x => { x with pkgGot := x.pkgGot + l.length, carry := [], litLeft := x.litLeft - l.length, ended := false }))

/-- UPDATE_DATA of literal bytes. -/
theorem updateData_literal {l : List Byte} (h : c.arg 0 1 = 0) (hl : updateDataSpec.capture c s.dev = some l) (hcarry : s.dev.boot.carry = [])
    (hend : s.dev.boot.ended = false) (hlit : l.length ≤ s.dev.boot.litLeft) : updateDataSpec.effect c s = (s.literalTaken l, .later 0 0) := by
  rw [OpSpec.effect_here rfl h, hl]
  simp only [Option.getD_some, hcarry, hend, List.length_nil, Nat.zero_add, List.nil_append, feedOps_literal _ _ hlit]
  rfl

/-- What an accepted UPDATE_DATA captured: its LENGTH is within bounds. -/
theorem updateData_capture (h : Accepts updateDataSpec c s) : updateDataSpec.capture c s.dev = capturePinned s.dev 0 (c.arg 8 8) (c.arg 4 4) := by
  have hb := h.badArg (k := 4) (b := decide (c.arg 4 4 = 0) || decide (16777216 < c.arg 4 4)) (by simp [updateDataSpec])
  simp only [Bool.or_eq_false_iff, decide_eq_false_iff_not] at hb
  simp only [updateDataSpec, if_neg hb.2]

/-- The one command that waits, when it is one of this opcode and not for the partner's answer. -/
theorem Dev.firstWait_one {d : Dev} {op : Nat} {w : Wait} (h : d.ctl.waits = [w]) (hop : w.tok.opcode = op) (hobj : w.obj ≠ partnerObj) :
    d.firstWait op = some (w, []) := by
  simp [Dev.firstWait, h, takeFirst, hop, hobj]

theorem exec_flashWriteDone (h : s.ready = true) (ok : Bool) : exec (.flashWriteDone ok) s = .next (s.setDev (s.dev.flashWriteDone ok)) :=
  congrArg Host.Outcome.next (State.actReady_ready (fun d => d.flashWriteDone ok) h)

/-- A package's bytes are in the flash, or 60 s have passed. -/
theorem flashWriteDone_one {w : Wait} (h : s.ready = true) (hw : s.dev.ctl.waits = [w]) (hop : w.tok.opcode = 0x0E01) (hobj : w.obj = 0)
    (hdir : w.tok.direct = true) (hgen : (s.dev.ring w.tok.cmd.realm w.tok.cmd.ring).gen = w.tok.gen) :
    (s.dev.now < w.since + 60 * secT → (∃ u, exec (.flashWriteDone true) s = .next u ∧ u.dev.ctl.waits = [] ∧
        u.dev.ctl.out.contains (.completion w.tok.cmd.tag (if w.late then .late else .ok) 0 s.dev.short) = true ∧ u.aon.bankA = s.aon.bankA ∧ u.aon.bankB = s.aon.bankB) ∧
      exec (.flashWriteDone false) s = .next (s.setDev s.dev)) ∧
    (w.since + 60 * secT ≤ s.dev.now → ∀ ok, ∃ u, exec (.flashWriteDone ok) s = .next u ∧ u.dev.ctl.waits = [] ∧
      ∃ v, u.dev.ctl.out.contains (.completion w.tok.cmd.tag .timeout 0 v) = true) := by
  have hfirst := Dev.firstWait_one hw hop (by rw [hobj]; decide)
  have hdone : ∀ (d : Dev) st v, d.ctl.rings = s.dev.ctl.rings → d.ctl.waits = [] →
      (d.complete w.tok st 0 v).ctl.waits = [] ∧ (d.complete w.tok st 0 v).ctl.out.contains (.completion w.tok.cmd.tag st 0 v) = true := by
    intro d st v hr hnone
    have hg : (d.ring w.tok.cmd.realm w.tok.cmd.ring).gen = w.tok.gen := by rw [Dev.ring, hr]; exact hgen
    refine ⟨(d.complete_completed _ _ _ _).waits.trans hnone, ?_⟩
    rw [(d.complete_direct hdir hg st 0 v).1]
    simp
  simp only [exec_flashWriteDone h, Dev.flashWriteDone, hfirst]
  constructor
  · intro hlt
    have hlate : decide (w.since + 60 * secT ≤ s.dev.now) = false := decide_eq_false (Nat.not_le.2 hlt)
    simp only [hlate]
    obtain ⟨hwaits, hout⟩ := hdone { s.dev with ctl := { s.dev.ctl with waits := [] } } (if w.late then .late else .ok) s.dev.short rfl rfl
    exact ⟨⟨_, rfl, hwaits, hout, rfl, rfl⟩, rfl⟩
  · intro hle ok
    simp only [decide_eq_true hle, Bool.not_true, Bool.and_false, Bool.false_eq_true, if_false, if_true]
    obtain ⟨hwaits, hout⟩ := hdone (Dev.tickFree { s.dev with ctl := { s.dev.ctl with waits := [] } }) .timeout s.dev.freeWord rfl rfl
    exact ⟨_, rfl, hwaits, _, hout⟩

theorem exec_verifyDone (h : s.ready = true) : exec .verifyDone s = .next s.verifyDone :=
  congrArg Host.Outcome.next (State.actAllReady_ready State.verifyDone h)

theorem exec_verifyDone_idle (h : s.dev.boot.update ≠ .verifying) : exec .verifyDone s = .next s := by
  have hv : s.verifyDone = s := by simp [State.verifyDone, h]
  cases hr : s.ready
  · exact congrArg Host.Outcome.next (State.actAllReady_not State.verifyDone hr)
  · rw [exec_verifyDone hr, hv]

/-- An event of the BOOT page: its bit, and beside the control model the records alone. -/
theorem Dev.bootEvent_told (d : Dev) (b k v : Nat) : d.Told (d.bootEvent b k v) := Dev.raise_told _ _ _ _ _ _ _

theorem Dev.page_report (d : Dev) (r : Report) (p : Nat) : (d.report r).page p = d.page p := by
  have hfreeze : ∀ (e : Dev) (a b c x : Nat), (e.freeze a b c x).page p = e.page p := by
    intro e a b c x; unfold Dev.freeze; split <;> rfl
  unfold Dev.report
  dsimp only
  split
  · rw [hfreeze]
    split <;> rfl
  · split <;> rfl

theorem Dev.bootEvent_bit (d : Dev) {b : Nat} (k v : Nat) (h : b < 48) : ((d.bootEvent b k v).page pgBoot).event.getLsbD b = true := by
  rw [Dev.bootEvent, Dev.raise, Dev.page_report]
  exact d.event_bit pgBoot b h

/-- The flash once the bank that does not run has been read back as the image `b`, and found good. -/
def State.verified (s : State) (b : List Byte) : State :=
  s.onAon (fun a => a.setBank (1 - s.dev.boot.runBank) ⟨.pending, imgVersion b, imgSvn b, b⟩)

theorem State.bank_verified (s : State) (b : List Byte) : (s.verified b).aon.bank (1 - s.dev.boot.runBank) = ⟨.pending, imgVersion b, imgSvn b, b⟩ :=
  AlwaysOn.bank_setBank_same _ _ _

/-- A bank that is good is PENDING. -/
theorem verifyDone_good {b : List Byte} (h : s.dev.boot.update = .verifying) (hbytes : (s.aon.bank (1 - s.dev.boot.runBank)).bytes = b)
    (hb : s.verifyBad b = none) : ∃ d : Dev, s.verifyDone = (s.verified b).setDev d ∧ d.waiting 0x0E02 0 = false ∧ d.boot.update = .pending ∧
      (d.page pgBoot).event.getLsbD 2 = true := by
  subst hbytes
  simp only [State.verifyDone, h, ne_eq, not_true_eq_false, if_false, hb]
  have hc := fun d : Dev => d.finish_completed 0x0E02 0 .ok 0 d.short
  refine ⟨_, rfl, Dev.waiting_finish _ _ _ _ _ _, ?_, ?_⟩
  · rw [(hc _).boot]
    exact congrArg (fun d : Dev => d.boot.update) (Dev.bootEvent_told _ _ _ _)
  · rw [(hc _).page]
    exact Dev.bootEvent_bit _ _ _ (by omega)

/-- A bank that is not good leaves the flash as it stands. -/
theorem verifyDone_bad {o : Nat} (h : s.dev.boot.update = .verifying) (hb : s.verifyBad (s.aon.bank (1 - s.dev.boot.runBank)).bytes = some o) :
    ∃ d : Dev, s.verifyDone = s.setDev d ∧ d.waiting 0x0E02 0 = false ∧ d.boot.update = .receiving := by
  simp only [State.verifyDone, h, ne_eq, not_true_eq_false, if_false, hb]
  generalize (if (s.aon.imageBad (s.aon.bank (1 - s.dev.boot.runBank)).bytes).isSome = true then s.dev.authFailed else s.dev) = d
  have hc := fun (e : Dev) (v : Word) => e.finish_completed 0x0E02 0 .badArg (descOff o) v
  refine ⟨_, rfl, Dev.waiting_finish _ _ _ _ _ _, ?_⟩
  show (Dev.finish _ _ _ _ _ _).boot.update = _
  rw [(hc _ _).boot]
  rfl

/-- The read-back of a bank, with what it finds. -/
theorem verifyDone_verifying (hready : s.ready = true) (h : s.dev.boot.update = .verifying) :
    ∃ u, exec .verifyDone s = .next u ∧ u.dev.waiting 0x0E02 0 = false ∧
      (u.aon.bank (1 - s.dev.boot.runBank)).bytes = (s.aon.bank (1 - s.dev.boot.runBank)).bytes ∧
      (s.verifyBad (s.aon.bank (1 - s.dev.boot.runBank)).bytes = none → u.dev.boot.update = .pending ∧ (u.aon.bank (1 - s.dev.boot.runBank)).state = .pending ∧
        (u.dev.page pgBoot).event.getLsbD 2 = true) ∧
      (s.verifyBad (s.aon.bank (1 - s.dev.boot.runBank)).bytes ≠ none → u.dev.boot.update = .receiving ∧ KeptForGood s u) := by
  rw [exec_verifyDone hready]
  refine ⟨_, rfl, ?_⟩
  cases hb : s.verifyBad (s.aon.bank (1 - s.dev.boot.runBank)).bytes with
  | some o =>
    obtain ⟨d, hd, hwait, hupd⟩ := verifyDone_bad h hb
    rw [hd]
    exact ⟨hwait, rfl, by simp, fun _ => ⟨hupd, keptForGood_setDev s d⟩⟩
  | none =>
    obtain ⟨d, hd, hwait, hupd, hevent⟩ := verifyDone_good h rfl hb
    rw [hd, State.bank_setDev, State.bank_verified]
    exact ⟨hwait, rfl, fun _ => ⟨hupd, rfl, hevent⟩, by simp⟩

/-! ### UPDATE_BEGIN to UPDATE_ABORT -/

/-- A command of Table 16-7 for this unit that ends with OK. -/
theorem AcceptsHere.ok {f : HostCmd → List Byte → Token → State → State × Reply} (h : AcceptsHere o c s) (hf : o.run = targeted 0 f) {n : Nat} {v : Word}
    (he : f c ((o.capture c s.dev).getD []) (o.token c s) s = (t, .done .ok n v)) (hr : t.dev.ctl.rings = s.dev.ctl.rings) (hk : t.dev.clk = s.dev.clk) :
    ∃ u, runCmd o c s = u ∧ Ends u s c (o.okOr c s) (n % 65536) v ∧ t.Answered u ∧ ∀ p b, p ≠ pgObs → b < 4096 → u.dev.counter p b = t.dev.counter p b :=
  h.1.ok ((OpSpec.effect_here hf h.2).trans he) hr hk

/-- A command of Table 16-7 for this unit that waits. -/
theorem AcceptsHere.later {f : HostCmd → List Byte → Token → State → State × Reply} (h : AcceptsHere o c s) (hf : o.run = targeted 0 f) {j x : Nat}
    (he : f c ((o.capture c s.dev).getD []) (o.token c s) s = (t, .later j x)) :
    ∃ u, runCmd o c s = u ∧ u.dev.waiting o.opcode j = true ∧ u.dev.boot = t.dev.boot ∧ (∀ b, u.aon.bank b = t.aon.bank b) ∧ KeptForGood t u :=
  h.1.later ((OpSpec.effect_here hf h.2).trans he)

/-- UPDATE_BEGIN, UPDATE_DATA, FLASH_WRITE_DONE, UPDATE_FINISH, VERIFY_DONE and UPDATE_ABORT. -/
theorem packageCommands : PackageCommands := by
  intro s c hbank
  refine ⟨fun h => ?_, fun l h hl hcarry hend hlit => ?_, fun w hready hw hop hobj hdir hgen => flashWriteDone_one hready hw hop hobj hdir hgen,
    fun ok hready hw => ?_, exec_verifyDone_idle, fun h => ?_, verifyDone_verifying, fun h => ?_⟩
  · obtain ⟨u, hu, hends, ha, -⟩ := h.ok rfl rfl rfl rfl
    refine ⟨u, congrArg _ hu, ?_, ?_, ?_, ?_, ?_, ?_⟩
    · rwa [Nat.mod_eq_of_lt (by omega)] at hends
    · rw [ha.dev.boot]; rfl
    · rw [ha.dev.boot]; rfl
    · rw [ha.dev.boot]; rfl
    · exact (ha.bank _).trans (AlwaysOn.bank_setBank_same _ _ _)
    · exact (ha.bank _).trans (AlwaysOn.bank_setBank_other _ _ hbank)
  · obtain ⟨u, hu, hwait, hboot, hb, -⟩ := h.1.later (updateData_literal h.2 ((updateData_capture h.1).trans hl) hcarry hend hlit)
    refine ⟨u, congrArg _ hu, hwait, by rw [hboot]; rfl, by rw [hboot]; rfl, ?_, ?_⟩
    · exact congrArg Bank.bytes ((hb _).trans (AlwaysOn.bank_setBank_same _ _ _))
    · exact (hb _).trans (AlwaysOn.bank_setBank_other _ _ hbank)
  · rw [exec_flashWriteDone hready]
    simp [Dev.flashWriteDone, Dev.firstWait, hw, takeFirst]
  · obtain ⟨u, hu, hwait, hboot, -, hkept⟩ := h.later rfl rfl
    exact ⟨u, congrArg _ hu, by rw [hboot]; rfl, hwait, hkept⟩
  · obtain ⟨u, hu, hends, ha, -⟩ := h.ok rfl rfl rfl rfl
    refine ⟨u, congrArg _ hu, hends, ?_, ?_, ?_⟩
    · rw [ha.dev.boot]; rfl
    · exact (ha.bank _).trans (AlwaysOn.bank_setBank_same _ _ _)
    · exact (ha.bank _).trans (AlwaysOn.bank_setBank_other _ _ hbank)

/-! ### Settings (R776) -/

/-- The checks of a write do not depend on the index of free values. -/
theorem Dev.writeCheck_tickFree (d : Dev) (r va n : Nat) : d.tickFree.writeCheck r va n = d.writeCheck r va n := by
  induction n generalizing va with
  | zero => rfl
  | succ n ih =>
    have ht : d.tickFree.translate r va true = d.translate r va true := rfl
    simp only [Dev.writeCheck, ht, ih]

theorem fmk_whole (n : Nat) : fmk 0 64 n = BitVec.ofNat 64 n := by
  rw [fmk, Nat.shiftLeft_zero]
  exact BitVec.eq_of_toNat_eq (by simp)

/-- The record that SETTINGS_READ reads: one of Tiusk's own is a free value (log entry 100). -/
def settingsRecord (c : HostCmd) (s : State) : List Byte :=
  if c.arg 0 2 < 0x8000 then (Config.ownRecord s.dev.ctl.free (c.arg 0 2)).take 65536 else tabGetD [] s.aon.settings (c.arg 0 2)

/-- The machine that SETTINGS_READ writes from: the free value is used up. -/
def settingsState (c : HostCmd) (s : State) : State := if c.arg 0 2 < 0x8000 then s.setDev s.dev.tickFree else s

/-- SETTINGS_READ, by whether its buffer can be written. -/
theorem settingsRead_effect (c : HostCmd) (s : State) :
    settingsReadSpec.effect c s = if (s.dev.writeCheck 0 (c.arg 8 8) ((settingsRecord c s).take (c.arg 4 4)).length).isSome then (settingsState c s, .done .faulted 0 0)
      else ((settingsState c s).setDev ((settingsState c s).dev.writeVa 0 (c.arg 8 8) ((settingsRecord c s).take (c.arg 4 4))),
        .done .ok (if (settingsRecord c s).isEmpty then 0 else 1) (fmk 0 64 (settingsRecord c s).length)) := by
  by_cases h : c.arg 0 2 < 0x8000
  · simp [OpSpec.effect, settingsReadSpec, settingsRecord, settingsState, h, Dev.writeCheck_tickFree]
  · simp [OpSpec.effect, settingsReadSpec, settingsRecord, settingsState, h]

theorem settingsState_same (c : HostCmd) (s : State) :
    (settingsState c s).dev.ctl.rings = s.dev.ctl.rings ∧ (settingsState c s).dev.clk = s.dev.clk ∧ KeptForGood s (settingsState c s) := by
  unfold settingsState
  split
  · exact ⟨rfl, rfl, keptForGood_setDev s _⟩
  · exact ⟨rfl, rfl, rfl, rfl, rfl, rfl, rfl, rfl, rfl, rfl⟩

theorem KeptForGood.trans {s t u : State} (h : KeptForGood s t) (k : KeptForGood t u) : KeptForGood s u := by
  unfold KeptForGood at *
  obtain ⟨h1, h2, h3, h4, h5, h6, h7, h8⟩ := h
  rw [h1, h2, h3, h4, h5, h6, h7, h8] at k
  exact k

/-- SETTINGS_READ into a buffer that can be written. -/
theorem settingsRead_ok {l : List Byte} (h : Accepts settingsReadSpec c s) (hl : settingsRecord c s = l)
    (hw : s.dev.writeCheck 0 (c.arg 8 8) (l.take (c.arg 4 4)).length = none) :
    ∃ u, exec (.settingsRead c) s = .next u ∧ Ends u s c (settingsReadSpec.okOr c s) (if l.isEmpty then 0 else 1) (BitVec.ofNat 64 l.length) ∧ KeptForGood s u := by
  subst hl
  obtain ⟨hr, hk, hkept⟩ := settingsState_same c s
  have he := settingsRead_effect c s
  rw [hw, Option.isSome_none, if_neg (by decide), fmk_whole] at he
  obtain ⟨u, hu, hends, ha, -⟩ := h.ok he (by rw [State.setDev_dev, Dev.writeVa_eq]; exact hr) (by rw [State.setDev_dev, Dev.writeVa_eq]; exact hk)
  refine ⟨u, congrArg _ hu, ?_, (hkept.trans (keptForGood_setDev _ _)).trans ha.kept⟩
  rwa [Nat.mod_eq_of_lt (by split <;> omega)] at hends

/-- SETTINGS_READ into a buffer that cannot be written. -/
theorem settingsRead_faulted (h : Accepts settingsReadSpec c s)
    (hw : s.dev.writeCheck 0 (c.arg 8 8) ((settingsRecord c s).take (c.arg 4 4)).length ≠ none) :
    ∃ u v, exec (.settingsRead c) s = .next u ∧ Ends u s c .faulted 0 v ∧ KeptForGood s u := by
  obtain ⟨hr, hk, hkept⟩ := settingsState_same c s
  have he := settingsRead_effect c s
  rw [if_pos (Option.isSome_iff_ne_none.2 hw)] at he
  obtain ⟨u, hu, hends, hu'⟩ := h.fails he (by decide) hr hk
  exact ⟨u, _, congrArg _ hu, hends, hkept.trans hu'⟩

/-- SETTINGS_WRITE, and SETTINGS_READ of a record of the owner's and of Tiusk's own. -/
theorem settingsCommands : SettingsCommands := by
  intro s c
  refine ⟨fun l h hl => ?_, fun h hown hw => ?_, fun h hown hw => ?_, fun l h hown hl hw => ?_⟩
  · have hb := h.badArg (k := 4) (b := decide (65536 < c.arg 4 4)) (by simp [settingsWriteSpec])
    have hcap : settingsWriteSpec.capture c s.dev = some l := by
      simp only [settingsWriteSpec, if_neg (of_decide_eq_false hb), hl]
    have he : settingsWriteSpec.effect c s = (s.onAon (fun a => { a with settings := tabPutD [] a.settings (c.arg 0 2) l }), .done .ok 0 s.dev.short) := by
      rw [OpSpec.effect, hcap]; rfl
    obtain ⟨u, hu, hends, ha, -⟩ := h.ok he rfl rfl
    refine ⟨u, congrArg _ hu, hends, ?_, fun k hk => ?_, ha.counter⟩
    · simp [ha.settings]
    · simp [ha.settings, hk]
  · have hl : settingsRecord c s = tabGetD [] s.aon.settings (c.arg 0 2) := if_neg (by omega)
    exact settingsRead_ok h hl hw
  · have hl : settingsRecord c s = tabGetD [] s.aon.settings (c.arg 0 2) := if_neg (by omega)
    exact settingsRead_faulted h (by rw [hl]; exact hw)
  · exact settingsRead_ok h ((if_pos hown).trans hl.symm) hw

/-! ### Trials (R771 to R775) -/

/-- A restart that is set: its boundary, and beside the boot's state what a frame of the Mirror Link touches. -/
theorem Dev.restartSet_spec (d : Dev) (own : Time) (cause : Nat) :
    (d.restartSet own cause).1.boot = { (d.restartBoundary own).1.boot with restartAt := some ((d.restartBoundary own).2, cause) } ∧
    (d.restartSet own cause).2 = (d.restartBoundary own).2 ∧ (d.restartSet own cause).1.ctl.rings = d.ctl.rings ∧ (d.restartSet own cause).1.clk = d.clk :=
  ⟨rfl, rfl, (d.restartBoundary_linked own).rings, (d.restartBoundary_linked own).clk⟩

/-- UPDATE_ACTIVATE or UPDATE_REVERT for this unit: the restart is set for its boundary. -/
theorem AcceptsHere.restart {cause : Nat} {f : AlwaysOn → Boot → AlwaysOn} (h : AcceptsHere o c s) (hf : o.run = restartRun cause f) :
    ∃ u, runCmd o c s = u ∧ Ends u s c (o.okOr c s) 0 (shortOf (s.dev.restartBoundary (effectEpoch s.dev * msT)).2) ∧
      u.dev.boot.restartAt = some ((s.dev.restartBoundary (effectEpoch s.dev * msT)).2, cause) ∧
      ((s.onAon (fun a => f a s.dev.boot)).setDev (s.dev.restartSet (effectEpoch s.dev * msT) cause).1).Answered u := by
  obtain ⟨hboot, hat, hrings, hclk⟩ := s.dev.restartSet_spec (effectEpoch s.dev * msT) cause
  have he : o.effect c s = ((s.onAon (fun a => f a s.dev.boot)).setDev (s.dev.restartSet (effectEpoch s.dev * msT) cause).1,
      .done .ok 0 (shortOf (s.dev.restartSet (effectEpoch s.dev * msT) cause).2)) := by
    rw [OpSpec.effect, hf]
    exact if_pos (here_of_target h.2)
  rw [hat] at he
  obtain ⟨u, hu, hends, ha, -⟩ := h.1.ok he hrings hclk
  refine ⟨u, hu, hends, ?_, ha⟩
  rw [ha.dev.boot, State.setDev_dev, hboot]

/-- The always-on part after the trial of the running image is confirmed (R773). -/
def AlwaysOn.confirmed (a : AlwaysOn) (b : Boot) : AlwaysOn :=
  let a := a.toBank b.runBank .active
  let a := if (a.bank (1 - b.runBank)).state = .active then a.toBank (1 - b.runBank) .valid else a
  ({ a with oldSettings := false }).advance b.svn b.revoke b.keyIndex

theorem AlwaysOn.counter_confirmed (a : AlwaysOn) (b : Boot) : (a.confirmed b).counter = max a.counter b.svn := by
  unfold AlwaysOn.confirmed
  dsimp only
  split <;> simp [AlwaysOn.advance]

/-- Of two banks, the one that runs is ACTIVE once its trial is confirmed, and the other is not. -/
theorem AlwaysOn.state_confirmed (a : AlwaysOn) {b : Boot} (h : b.runBank < 2) :
    ((a.confirmed b).bank b.runBank).state = .active ∧ ((a.confirmed b).bank (1 - b.runBank)).state ≠ .active := by
  have hadv : ∀ (x : AlwaysOn) (k : Nat), (({ x with oldSettings := false } : AlwaysOn).advance b.svn b.revoke b.keyIndex).bank k = x.bank k := fun _ _ => rfl
  unfold AlwaysOn.confirmed
  simp only [hadv]
  split
  · rw [AlwaysOn.bank_toBank_same, AlwaysOn.toBank, AlwaysOn.bank_setBank_other _ _ h, AlwaysOn.bank_toBank_same]
    exact ⟨rfl, by simp⟩
  · exact ⟨by rw [AlwaysOn.bank_toBank_same], by assumption⟩

/-- UPDATE_CONFIRM for this unit. -/
theorem updateConfirm_ok (h : AcceptsHere updateConfirmSpec c s) (hbank : s.dev.boot.runBank < 2) : ∃ u, exec (.updateConfirm c) s = .next u ∧
    Ends u s c (updateConfirmSpec.okOr c s) (max s.aon.counter s.dev.boot.svn % 65536) s.dev.short ∧
    (u.aon.bank s.dev.boot.runBank).state = .active ∧ (u.aon.bank (1 - s.dev.boot.runBank)).state ≠ .active ∧ u.aon.counter = max s.aon.counter s.dev.boot.svn ∧
    u.dev.boot.update = .idle ∧ u.dev.counter pgBoot 0x0B0 = s.dev.counter pgBoot 0x0B0 + 1 := by
  have hcounter := s.aon.counter_confirmed s.dev.boot
  obtain ⟨hrun, hother⟩ := s.aon.state_confirmed hbank
  obtain ⟨u, hu, hends, ha, hcount⟩ := h.ok (t := (s.onAon (fun a => a.confirmed s.dev.boot)).setDev ((s.dev.onBoot (fun x => { x with update := .idle })).inc pgBoot 0x0B0))
    (n := (s.aon.confirmed s.dev.boot).counter) (v := s.dev.short) rfl rfl rfl rfl
  refine ⟨u, congrArg _ hu, by rwa [hcounter] at hends, ?_, ?_, ?_, ?_, ?_⟩
  · rw [ha.bank]; exact hrun
  · rw [ha.bank]; exact hother
  · rw [ha.counter]; exact hcounter
  · rw [ha.dev.boot]; rfl
  · rw [hcount _ _ (by decide) (by omega), State.setDev_dev, Dev.inc, Dev.counter_bump, if_pos rfl]; rfl

/-- UPDATE_LOCK for this unit. -/
theorem updateLock_ok (h : AcceptsHere updateLockSpec c s) : ∃ u, exec (.updateLock c) s = .next u ∧ Ends u s c (updateLockSpec.okOr c s) (c.arg 1 1) s.dev.short ∧
    u.aon.lockOwner = (c.arg 1 1 == 1) ∧ u.aon.lockOtp = s.aon.lockOtp ∧ u.aon.bankA = s.aon.bankA ∧ u.aon.bankB = s.aon.bankB := by
  have hb := h.1.badArg (k := 1) (b := decide (1 < c.arg 1 1)) (by simp [updateLockSpec])
  have harg : c.arg 1 1 = 0 ∨ c.arg 1 1 = 1 := by
    have hlt := of_decide_eq_false hb
    omega
  obtain ⟨u, hu, hends, ⟨haon, -⟩, -⟩ := h.ok rfl rfl rfl rfl
  refine ⟨u, congrArg _ hu, ?_, ?_, ?_, ?_, ?_⟩
  · rcases harg with ha | ha <;> simpa [ha] using hends
  all_goals rw [haon]; rfl

theorem exec_confirmTimeout (h : s.ready = true) : exec .confirmTimeout s = .next s.confirmOver :=
  congrArg Host.Outcome.next (State.actAllReady_ready State.confirmOver h)

/-- No trial has run out: nothing happens. -/
theorem exec_confirmTimeout_idle (h : s.dev.boot.update ≠ .trial ∨ s.aon.confirmTimeout = 0 ∨ s.dev.now < s.dev.boot.readyAt + s.aon.confirmTimeout * secT ∨
    s.dev.boot.restartAt.isSome = true) : exec .confirmTimeout s = .next s := by
  have hv : s.confirmOver = s := if_pos h
  cases hr : s.ready
  · exact congrArg Host.Outcome.next (State.actAllReady_not State.confirmOver hr)
  · rw [exec_confirmTimeout hr, hv]

/-- A trial that has run out is reverted, or, where R766 does not allow it, CONFIRM_OVERDUE is raised once (R775). -/
theorem confirmOver_due (h : s.dev.boot.update = .trial) (h0 : s.aon.confirmTimeout ≠ 0) (hdue : s.dev.boot.readyAt + s.aon.confirmTimeout * secT ≤ s.dev.now)
    (hat : s.dev.boot.restartAt = none) :
    s.confirmOver = if s.updateForbidden then
        if s.dev.boot.overdue then s else s.setDev ((s.dev.bootEvent 3 s.dev.boot.runBank s.dev.boot.version).onBoot (fun x => { x with overdue := true }))
      else (s.onAon (fun a => a.toBank s.dev.boot.runBank .failed)).setDev (s.dev.restartSet (nextBoundary s.dev.now) 4).1 :=
  if_neg (by simp only [h, hat, h0, Nat.not_lt.2 hdue]; simp)

/-- UPDATE_ACTIVATE, UPDATE_REVERT, UPDATE_CONFIRM, UPDATE_LOCK and CONFIRM_TIMEOUT. -/
theorem trialCommands : TrialCommands := by
  intro s c hbank
  refine ⟨fun h => ?_, fun h => ?_, fun h => updateConfirm_ok h hbank, updateLock_ok, fun hready htrial h0 hdue hat => ?_, exec_confirmTimeout_idle,
    Dev.restartBoundary_alone⟩
  · obtain ⟨u, hu, hends, hat, ha⟩ := h.restart (cause := 1) (f := fun a _ => a) rfl
    exact ⟨u, _, congrArg _ hu, rfl, hends, hat, (keptForGood_setDev s _).trans ha.kept⟩
  · obtain ⟨u, hu, hends, hat, ha⟩ := h.restart (cause := 2) (f := fun a b => a.toBank b.runBank .failed) rfl
    refine ⟨u, _, congrArg _ hu, rfl, hends, hat, ?_, ?_⟩
    · exact congrArg Bank.state ((ha.bank _).trans (AlwaysOn.bank_toBank_same _ _ _))
    · exact (ha.bank _).trans (AlwaysOn.bank_toBank_other _ _ hbank)
  · rw [exec_confirmTimeout hready, confirmOver_due htrial h0 hdue hat]
    refine ⟨fun hforbid hover => ⟨_, rfl, ?_⟩, fun hforbid hover => ?_, fun hforbid => ⟨_, rfl, ?_⟩⟩
    · rw [if_pos hforbid, if_neg (by simp [hover])]
      refine ⟨Dev.bootEvent_bit _ _ _ (by omega), ?_, keptForGood_setDev _ _⟩
      exact congrArg (fun d : Dev => { d.boot with overdue := true }) (Dev.bootEvent_told _ _ _ _)
    · rw [if_pos hforbid, if_pos hover]
    · rw [if_neg (by simp [hforbid])]
      exact ⟨rfl, congrArg Bank.state (AlwaysOn.bank_toBank_same _ _ _)⟩

/-! ### What forbids an update (R766) -/

/-- A blank command, which so names this unit, that a check after those of TARGET refuses: its completion, with a free RESULT, and no effect. -/
theorem Blank.refused {checks : List Chk} {st : Status} {n : Nat} (h : Blank c) (hready : s.ready = true) (hrole : s.dev.pair.role ≠ .secondary)
    (hcap : o.capture c s.dev = some []) (hd : o.dchecks c [] s = []) (hrej : o.rejected c st s.dev = s.dev) (hchecks : o.checks c s = targetChecks 0 c s ++ checks)
    (hn : n < 65536) (hr : firstFail (checks ++ [refusedIf false]) = some (st, n)) :
    ∃ u, runCmd o c s = u ∧ u.dev.ctl.out.contains (.completion c.tag st n s.dev.freeWord) = true ∧ u.dev.boot = s.dev.boot ∧ KeptForGood s u := by
  have hrc : roleCheck o false s = refusedIf false := by simp [roleCheck, hrole]
  have hcommon := h.commonChecks o s.dev.now
  obtain ⟨-, hflags, -, hargs, -⟩ := h
  have htarget : ∀ x, x ∈ targetChecks 0 c s → x.bad = false := by
    simp [targetChecks, badArg, noPartner, here, arg_of_args_zero hargs]
  refine runCmd_refused hready (dated_of_flags_zero hflags) hn hrej ?_
  rw [hcap, OpSpec.verdict]
  simp only [hd, hchecks, hrc, List.append_nil, List.append_assoc]
  rw [firstFail_append_good _ hcommon, firstFail_append_good _ htarget, hr]

/-- What a table reads at a key is listed there, unless it is the default. -/
theorem tabGet_mem {α : Type} (d : Nat → α) (m : Tab α) (k : Nat) : tabGet d m k = d k ∨ (k, tabGet d m k) ∈ m := by
  induction m with
  | nil => exact .inl rfl
  | cons e m ih =>
    obtain ⟨j, a⟩ := e
    simp only [tabGet]
    split
    · next h => subst h; exact .inr List.mem_cons_self
    · split
      · exact .inl rfl
      · exact ih.imp_right (List.mem_cons_of_mem _)

/-- An active leg of the only active unit forbids an update. -/
theorem updateForbidden_of_leg {l : Nat} (hleg : (s.dev.leg l).state = .active)
    (hrole : s.dev.pair.role = .solo ∨ (s.dev.pair.role = .primary ∧ s.dev.pair.partner ≠ .ready)) : s.updateForbidden = true := by
  have hmem : (l, s.dev.leg l) ∈ s.dev.legs.legs := (tabGet_mem (fun _ => ({} : Leg)) s.dev.legs.legs l).resolve_left (fun hd => by
    have hidle : s.dev.leg l = {} := hd
    rw [hidle] at hleg
    cases hleg)
  have hlive : s.dev.liveAlone = true := by
    have hany : s.dev.legs.legs.any (fun e => decide (e.2.state = .keyed) || decide (e.2.state = .active) || decide (e.2.state = .held) ||
        decide (e.2.state = .draining)) = true := List.any_eq_true.2 ⟨_, hmem, by simp [hleg]⟩
    rw [Dev.liveAlone, hany]
    rcases hrole with h | ⟨h, hp⟩
    · simp [h]
    · simp [h, hp]
  simp [State.updateForbidden, hlive]

/-- Each refusal is that of its first failing check (R87), and changes nothing. -/
theorem updatesForbidden : UpdatesForbidden := by
  intro s c hready hrealm hflags hrsvd hargs hwhen hrole
  have hblank : Blank c := ⟨hrealm, hflags, hrsvd, hargs, hwhen⟩
  have hhere : here 0 c s = true := here_of_target (arg_of_args_zero hargs 0 1)
  refine ⟨fun hupd hforbid => ?_, fun hupd hforbid => ?_, fun hupd => ?_, ?_⟩
  · obtain ⟨u, hu, h⟩ := hblank.refused (o := updateActivateSpec) (st := .refusedPolicy) (n := 0) hready hrole rfl rfl rfl rfl (by omega)
      (by simp only [updIn, hupd, hhere, hforbid]; rfl)
    exact ⟨u, congrArg _ hu, h⟩
  · obtain ⟨u, hu, h⟩ := hblank.refused (o := updateRevertSpec) (st := .refusedPolicy) (n := 0) hready hrole rfl rfl rfl rfl (by omega)
      (by simp only [updIn, hupd, hhere, hforbid]; rfl)
    exact ⟨u, congrArg _ hu, h⟩
  · have hcode : s.dev.boot.update.code < 65536 := by cases s.dev.boot.update <;> decide
    have hin : updIn [.trial] 0 c s = conflict s.dev.boot.update.code true := by simp [updIn, hhere, hupd]
    obtain ⟨u, hu, h⟩ := hblank.refused (o := updateConfirmSpec) (st := .stateConflict) hready hrole rfl rfl rfl rfl hcode
      (by rw [hin]; cases (here 0 c s && s.dev.pow.marginLow && s.wouldAdvance) <;> rfl)
    exact ⟨u, congrArg _ hu, h⟩
  · rintro ⟨l, k, rfl, -, hact⟩ hrole
    exact updateForbidden_of_leg hact hrole

/-- Settles O51: each command as its effect with its answer, a refusal as its completion alone, and the flash by what each writes to its banks. -/
theorem updates : Obligations.Updates := ⟨packageCommands, trialCommands, updatesForbidden, settingsCommands⟩

end Sys2Proof.Machine
end

section
/-! Every command answers a next state and keeps the queue, and what it may change of the always-on domain. Each row but those that act on a stopped
unit is an effect gated on the unit running or being READY (`State.Ran`); each effect keeps what `State.Keeps` lists. -/

namespace Sys2Proof.Machine
open Sys2Proof

/-- The part of the always-on domain that only the rails, RESET_N, the alarm and an advance of OTP change: flash, settings, the freeze record and the armed tests are blanked. -/
def AlwaysOn.core (a : AlwaysOn) : AlwaysOn :=
  { a with
    freeze := {}, armed := 0, bankA := {}, bankB := {}, dirSeq := 0, lockOwner := false, confirmTimeout := 0, settings := [], recFmt := 0,
    oldSettings := false, ignoreRecovery := false }

/-- The queue and the core of the always-on domain are as they were. -/
def State.SameCore (s t : State) : Prop := t.pending = s.pending ∧ t.aon.core = s.aon.core

/-- What every command keeps: the queue, what OTP holds, a locked ALARM_CFG, the order of the always-on domain, and, unless it may carry out FLINT_RELEASE, a latched alarm. -/
structure State.Keeps (carries : Bool) (s t : State) : Prop where
  pending : t.pending = s.pending
  counter : s.aon.counter ≤ t.aon.counter
  revoked : ∀ k, s.aon.revoked.getLsbD k = true → t.aon.revoked.getLsbD k = true
  keyHash : t.aon.keyHash = s.aon.keyHash
  lockOtp : t.aon.lockOtp = s.aon.lockOtp
  lock : s.aon.alarmLock = true → t.aon.alarmLock = true ∧ t.aon.alarmEnable = s.aon.alarmEnable
  latch : carries = false → s.aon.alarmLatch = true → t.aon.alarmLatch = true
  ok : AlwaysOnOk s → AlwaysOnOk t

variable {b : Bool} {s t u : State} {o : OpSpec}

theorem State.SameCore.refl (s : State) : s.SameCore s := ⟨rfl, rfl⟩
theorem State.SameCore.trans (h : s.SameCore t) (k : t.SameCore u) : s.SameCore u := ⟨k.1.trans h.1, k.2.trans h.2⟩
theorem State.setDev_sameCore (s : State) (d : Dev) : s.SameCore (s.setDev d) := ⟨rfl, rfl⟩
theorem State.onDev_sameCore (s : State) (f : Dev → Dev) : s.SameCore (s.onDev f) := ⟨rfl, rfl⟩
theorem State.withDev_sameCore (s : State) (d : Dev) : s.SameCore { s with dev := d } := ⟨rfl, rfl⟩
theorem State.onAon_sameCore (s : State) {f : AlwaysOn → AlwaysOn} (h : (f s.aon).core = s.aon.core) : s.SameCore (s.onAon f) := ⟨rfl, h⟩

theorem AlwaysOn.core_setBank (a : AlwaysOn) (k : Nat) (x : Bank) : (a.setBank k x).core = a.core := by
  unfold AlwaysOn.setBank
  split <;> rfl

theorem AlwaysOn.core_toBank (a : AlwaysOn) (k : Nat) (st : BankState) : (a.toBank k st).core = a.core := a.core_setBank _ _

theorem State.Keeps.refl (b : Bool) (s : State) : s.Keeps b s := ⟨rfl, le_rfl, fun _ h => h, rfl, rfl, fun h => ⟨h, rfl⟩, fun _ h => h, id⟩

theorem State.Keeps.trans (h : s.Keeps b t) (k : t.Keeps b u) : s.Keeps b u where
  pending := k.pending.trans h.pending
  counter := h.counter.trans k.counter
  revoked i hi := k.revoked i (h.revoked i hi)
  keyHash := k.keyHash.trans h.keyHash
  lockOtp := k.lockOtp.trans h.lockOtp
  lock hl := by
    obtain ⟨ht, he⟩ := h.lock hl
    obtain ⟨hu, hf⟩ := k.lock ht
    exact ⟨hu, hf.trans he⟩
  latch hb hl := k.latch hb (h.latch hb hl)
  ok hs := k.ok (h.ok hs)

/-- A command that clears no alarm keeps all that one that may clear it does. -/
theorem State.Keeps.mono (b : Bool) (h : s.Keeps false t) : s.Keeps b t := { h with latch := fun _ => h.latch rfl }

theorem State.SameCore.keeps (b : Bool) (h : s.SameCore t) : s.Keeps b t := by
  obtain ⟨hp, hc⟩ := h
  have hen : t.aon.alarmEnable = s.aon.alarmEnable := (congrArg AlwaysOn.alarmEnable hc :)
  have hlock : t.aon.alarmLock = s.aon.alarmLock := (congrArg AlwaysOn.alarmLock hc :)
  have hlatch : t.aon.alarmLatch = s.aon.alarmLatch := (congrArg AlwaysOn.alarmLatch hc :)
  have hcause : t.aon.alarmCause = s.aon.alarmCause := (congrArg AlwaysOn.alarmCause hc :)
  have hhigh : t.aon.resetHigh = s.aon.resetHigh := (congrArg AlwaysOn.resetHigh hc :)
  have hrails : t.aon.railsOn = s.aon.railsOn := (congrArg AlwaysOn.railsOn hc :)
  have haux : t.aon.auxOn = s.aon.auxOn := (congrArg AlwaysOn.auxOn hc :)
  have hrev : t.aon.revoked = s.aon.revoked := (congrArg AlwaysOn.revoked hc :)
  have hcnt : t.aon.counter = s.aon.counter := (congrArg AlwaysOn.counter hc :)
  exact
    { pending := hp
      counter := hcnt.ge
      revoked := fun k => by rw [hrev]; exact id
      keyHash := (congrArg AlwaysOn.keyHash hc :)
      lockOtp := (congrArg AlwaysOn.lockOtp hc :)
      lock := fun h => ⟨hlock.trans h, hen⟩
      latch := fun _ h => hlatch.trans h
      ok := by unfold AlwaysOnOk; rw [hen, hlatch, hcause, hhigh, hrails, haux]; exact id }

theorem State.setDev_keeps (b : Bool) (s : State) (d : Dev) : s.Keeps b (s.setDev d) := (s.setDev_sameCore d).keeps b
theorem State.onDev_keeps (b : Bool) (s : State) (f : Dev → Dev) : s.Keeps b (s.onDev f) := (s.setDev_sameCore _).keeps b
theorem State.Keeps.onDev (h : s.Keeps b t) (f : Dev → Dev) : s.Keeps b (t.onDev f) := h.trans (t.onDev_keeps b f)
theorem State.Keeps.setDev (h : s.Keeps b t) (d : Dev) : s.Keeps b (t.setDev d) := h.trans (t.setDev_keeps b d)

theorem State.Keeps.ite {c : Prop} [Decidable c] (h : s.Keeps b t) (k : s.Keeps b u) : s.Keeps b (if c then t else u) := by
  split
  · exact h
  · exact k

/-- An advance of OTP only adds to it (R762). -/
theorem State.advance_keeps (b : Bool) (s : State) (svn revoke key : Nat) : s.Keeps b (s.onAon (fun a => a.advance svn revoke key)) where
  pending := rfl
  counter := Nat.le_max_left _ _
  revoked i h := by
    change (s.aon.revoked ||| _).getLsbD i = true
    rw [BitVec.getLsbD_or, h, Bool.true_or]
  keyHash := rfl
  lockOtp := rfl
  lock h := ⟨h, rfl⟩
  latch _ h := h
  ok := id

/-! ### The effects of the ring commands -/

/-- Every effect of the opcode keeps what commands keep. -/
def OpSpec.Keeps (b : Bool) (o : OpSpec) : Prop := ∀ (c : HostCmd) (l : List Byte) (k : Token) (s : State), s.Keeps b (o.run c l k s).1

/-- The opcode's effect lies in the resettable part alone. -/
def OpSpec.DevOnly (o : OpSpec) : Prop := ∀ (c : HostCmd) (l : List Byte) (k : Token) (s : State), ∃ d, (o.run c l k s).1 = s.setDev d

theorem OpSpec.DevOnly.keeps (h : o.DevOnly) : o.Keeps b := by
  intro c l k s
  obtain ⟨d, hd⟩ := h c l k s
  rw [hd]
  exact s.setDev_keeps b d

theorem OpSpec.Keeps.of_targeted {n : Nat} (f : HostCmd → List Byte → Token → State → State × Reply) (hr : o.run = targeted n f)
    (h : ∀ c l k (s : State), s.Keeps b (f c l k s).1) : o.Keeps b := by
  intro c l k s
  rw [hr, targeted]
  split
  · exact h c l k s
  · exact s.setDev_keeps b _

theorem OpSpec.Keeps.of_restartRun {n : Nat} (f : AlwaysOn → Boot → AlwaysOn) (hr : o.run = restartRun n f) (h : ∀ a x, (f a x).core = a.core) : o.Keeps b := by
  intro c l k s
  rw [hr, restartRun]
  dsimp only
  split
  · exact ((s.onAon_sameCore (h _ _)).trans (State.setDev_sameCore _ _)).keeps b
  · exact s.setDev_keeps b _

/-- A change of flash or settings with a change of the resettable part. -/
theorem State.flash_keeps (b : Bool) (s : State) {f : AlwaysOn → AlwaysOn} (d : Dev) (h : (f s.aon).core = s.aon.core) : s.Keeps b ((s.onAon f).setDev d) :=
  ((s.onAon_sameCore h).trans (State.setDev_sameCore _ _)).keeps b

/-- The banks as UPDATE_CONFIRM leaves them, before the advance of OTP: the running one ACTIVE, the other VALID if it was ACTIVE (R773). -/
def AlwaysOn.promoted (a : AlwaysOn) (run : Nat) : AlwaysOn :=
  let a := a.toBank run .active
  let a := if (a.bank (1 - run)).state = .active then a.toBank (1 - run) .valid else a
  { a with oldSettings := false }

theorem AlwaysOn.core_promoted (a : AlwaysOn) (run : Nat) : (a.promoted run).core = a.core := by
  have h : ∀ x : AlwaysOn, AlwaysOn.core { x with oldSettings := false } = x.core := fun _ => rfl
  rw [AlwaysOn.promoted, h]
  split <;> simp only [AlwaysOn.core_toBank]

/-- UPDATE_CONFIRM rewrites bank states and then advances OTP (R773). -/
theorem updateConfirmSpec_keeps : updateConfirmSpec.Keeps b :=
  .of_targeted _ rfl fun _ _ _ s => by
    have h : s.Keeps b ((s.onAon fun a => a.promoted s.dev.boot.runBank).onAon fun a => a.advance s.dev.boot.svn s.dev.boot.revoke s.dev.boot.keyIndex) :=
      ((s.onAon_sameCore (AlwaysOn.core_promoted _ _)).keeps b).trans (State.advance_keeps b _ _ _ _)
    exact h.setDev _

theorem updateDataSpec_keeps : updateDataSpec.Keeps b := .of_targeted _ rfl fun _ _ _ s => by
  split <;> exact s.flash_keeps b _ (AlwaysOn.core_setBank _ _ _)

theorem settingsState_keeps (c : HostCmd) (s : State) : s.Keeps b (settingsState c s) := (s.setDev_keeps b _).ite (.refl b s)

theorem settingsReadSpec_keeps : settingsReadSpec.Keeps b := fun c _ _ s => by
  change s.Keeps b (settingsReadSpec.effect c s).1
  rw [settingsRead_effect]
  split
  · exact settingsState_keeps c s
  · exact (settingsState_keeps c s).setDev _

theorem unitIsolateSpec_keeps : unitIsolateSpec.Keeps b :=
  .of_targeted _ rfl fun _ _ _ s => by
    dsimp only
    split
    · exact .refl b s
    · exact s.setDev_keeps b _

theorem bistRunSpec_keeps : bistRunSpec.Keeps b :=
  .of_targeted _ rfl fun _ _ _ s => by
    dsimp only
    split
    · exact .refl b s
    · exact s.setDev_keeps b _

theorem freezeNowSpec_keeps : freezeNowSpec.Keeps b := fun c l k s => by
  dsimp only [freezeNowSpec]
  split <;> exact s.setDev_keeps b _

/-- FLINT_RELEASE takes the latch and its causes away together (R597). -/
theorem flintReleaseSpec_keeps : flintReleaseSpec.Keeps true := fun _ _ _ s =>
  { pending := rfl, counter := le_rfl, revoked := fun _ h => h, keyHash := rfl, lockOtp := rfl, lock := fun h => ⟨h, rfl⟩
    latch := fun h => absurd h (by decide)
    ok := fun ⟨hen, _, hhigh⟩ => ⟨hen, by simp [flintReleaseSpec], hhigh⟩ }

/-- The effect of an opcode lies in the resettable part alone, but for FLINT_RELEASE and the opcodes of chapters 16 and 17. -/
theorem forall_opSpecs {P : OpSpec → Prop} (hdev : ∀ o : OpSpec, o.DevOnly → P o) (flint : P flintReleaseSpec)
    (begin_ : P updateBeginSpec) (data : P updateDataSpec) (finish : P updateFinishSpec) (abort : P updateAbortSpec) (activate : P updateActivateSpec)
    (revert : P updateRevertSpec) (confirm : P updateConfirmSpec) (lock : P updateLockSpec) (write : P settingsWriteSpec) (read : P settingsReadSpec)
    (isolate : P unitIsolateSpec) (bist : P bistRunSpec) (freeze : P freezeNowSpec) (test : P deviceTestSpec) : ∀ o ∈ opSpecs, P o := by
  simp only [opSpecs, List.forall_mem_append, List.forall_mem_cons]
  repeat' apply And.intro
  any_goals assumption
  any_goals exact fun _ h => absurd h List.not_mem_nil
  all_goals exact hdev _ fun _ _ _ _ => ⟨_, rfl⟩

theorem updateBeginSpec_keeps : updateBeginSpec.Keeps b := .of_targeted _ rfl fun _ _ _ s => s.flash_keeps b _ (AlwaysOn.core_setBank _ _ _)
theorem updateFinishSpec_keeps : updateFinishSpec.Keeps b := .of_targeted _ rfl fun _ _ _ s => s.setDev_keeps b _
theorem updateAbortSpec_keeps : updateAbortSpec.Keeps b := .of_targeted _ rfl fun _ _ _ s => s.flash_keeps b _ (AlwaysOn.core_setBank _ _ _)
theorem updateActivateSpec_keeps : updateActivateSpec.Keeps b := .of_restartRun _ rfl fun _ _ => rfl
theorem updateRevertSpec_keeps : updateRevertSpec.Keeps b := .of_restartRun _ rfl fun _ _ => AlwaysOn.core_toBank _ _ _
theorem updateLockSpec_keeps : updateLockSpec.Keeps b := .of_targeted _ rfl fun _ _ _ _ => State.SameCore.keeps b ⟨rfl, rfl⟩
theorem settingsWriteSpec_keeps : settingsWriteSpec.Keeps b := fun _ _ _ _ => State.SameCore.keeps b ⟨rfl, rfl⟩
theorem deviceTestSpec_keeps : deviceTestSpec.Keeps b := .of_targeted _ rfl fun _ _ _ _ => State.SameCore.keeps b ⟨rfl, rfl⟩

/-- Every opcode but FLINT_RELEASE keeps a latched alarm too. -/
theorem opSpecs_keep : ∀ o ∈ opSpecs, o = flintReleaseSpec ∨ o.Keeps false :=
  forall_opSpecs (fun _ h => .inr h.keeps) (.inl rfl) (.inr updateBeginSpec_keeps) (.inr updateDataSpec_keeps) (.inr updateFinishSpec_keeps)
    (.inr updateAbortSpec_keeps) (.inr updateActivateSpec_keeps) (.inr updateRevertSpec_keeps) (.inr updateConfirmSpec_keeps) (.inr updateLockSpec_keeps)
    (.inr settingsWriteSpec_keeps) (.inr settingsReadSpec_keeps) (.inr unitIsolateSpec_keeps) (.inr bistRunSpec_keeps) (.inr freezeNowSpec_keeps)
    (.inr deviceTestSpec_keeps)

theorem OpSpec.Keeps.mono (b : Bool) (h : o.Keeps false) : o.Keeps b := fun c l k s => (h c l k s).mono b

theorem mem_opSpecs {n : Nat} (h : opSpec n = some o) : o ∈ opSpecs := List.mem_of_find?_eq_some h

/-- Whatever opcode a ring carries, its effect keeps all but a latched alarm. -/
theorem opSpec_keeps {n : Nat} (h : opSpec n = some o) : o.Keeps true := by
  rcases opSpecs_keep o (mem_opSpecs h) with rfl | hk
  · exact flintReleaseSpec_keeps
  · exact hk.mono true

/-- FLINT_RELEASE is held for its boundary; what acts as it is processed keeps a latched alarm. -/
theorem opSpec_keeps_of_atOnce {n : Nat} (h : opSpec n = some o) (ha : o.atOnce = true) : o.Keeps false := by
  rcases opSpecs_keep o (mem_opSpecs h) with rfl | hk
  · cases ha
  · exact hk

/-! ### The ways in which a command is carried out -/

theorem answer_keeps (b : Bool) (k : Token) (late : Bool) (r : State × Reply) : r.1.Keeps b (answer k late r) := by
  unfold answer
  split <;> exact r.1.onDev_keeps b _

theorem OpSpec.Keeps.perform (h : o.Keeps b) (k : Token) (late : Bool) (data : Option (List Byte)) (s : State) : s.Keeps b (o.perform k late data s) := by
  unfold OpSpec.perform
  split
  · exact s.onDev_keeps b _
  · exact (h _ _ _ _).trans (answer_keeps b _ _ _)

theorem OpSpec.Keeps.takeOn (h : o.Keeps b) (s : State) (k : Token) (data : List Byte) : s.Keeps b (s.takeOn o k data) := by
  have hsent : s.Keeps b (if (s.dev.joined && !staysHere k) = true then s.onDev (fun d => d.sendCommand k.opcode k.cmd d.now data) else s) :=
    (s.onDev_keeps b _).ite (.refl b s)
  unfold State.takeOn
  dsimp only
  split
  · exact hsent.trans (h.perform _ _ _ _)
  · exact hsent.setDev _

theorem OpSpec.Keeps.process (h : o.Keeps b) (s : State) (k : Token) {took : State → State} (ht : ∀ s : State, s.Keeps b (took s)) :
    s.Keeps b (s.process o k took) := by
  unfold State.process
  dsimp only
  split
  · exact s.onDev_keeps b _
  · exact (ht s).trans (h.takeOn _ _ _)

theorem OpSpec.Keeps.runCmd (h : o.Keeps b) (c : HostCmd) (s : State) : s.Keeps b (runCmd o c s) :=
  State.Keeps.ite (h.process s _ (.refl b)) (.refl b s)

theorem State.dated_keeps (t : Time) {f : State → State} (h : ∀ s : State, s.Keeps b (f s)) (s : State) : s.Keeps b (s.dated t f) := by
  unfold State.dated
  exact ((s.onDev_keeps b _).trans (h _)).onDev _

theorem State.effect_keeps (s : State) (a : Accepted) : s.Keeps true (s.effect a) := by
  unfold State.effect
  dsimp only
  split
  · next o ho => exact (s.setDev_keeps true _).trans (State.dated_keeps _ (fun s => (opSpec_keeps ho).perform _ _ _ s) _)
  · exact s.setDev_keeps true _

theorem State.effects_keeps (n : Nat) (t : Time) (s : State) : s.Keeps true (State.effects n t s) := by
  induction n generalizing s with
  | zero => exact .refl true s
  | succ n ih =>
    unfold State.effects
    split
    · exact (s.effect_keeps _).trans (ih _)
    · exact .refl true s

theorem State.commandEffect_keeps (s : State) : s.Keeps true s.commandEffect := by
  unfold State.commandEffect
  split
  · exact (s.effect_keeps _).ite (.refl true s)
  · exact .refl true s

theorem State.judge_keeps (s : State) (k : Token) : s.Keeps true (s.judge k) := by
  unfold State.judge
  split
  · exact s.onDev_keeps true _
  · next o ho => exact (opSpec_keeps ho).process s k fun s => s.onDev_keeps true _

theorem State.commandFetch_keeps (s : State) (r k : Nat) : s.Keeps true (s.commandFetch r k) := by
  unfold State.commandFetch
  dsimp only
  split
  · exact .refl true s
  · split
    · exact s.setDev_keeps true _
    · exact State.Keeps.ite (.refl true s) ((s.setDev_keeps true _).trans (State.judge_keeps _ _))

/-! ### The boot: flash and the resettable part alone, but for an advance of OTP -/

theorem State.SameCore.ite {c : Prop} [Decidable c] (h : s.SameCore t) (k : s.SameCore u) : s.SameCore (if c then t else u) := by
  split
  · exact h
  · exact k

theorem State.SameCore.setDev (h : s.SameCore t) (d : Dev) : s.SameCore (t.setDev d) := h.trans (t.setDev_sameCore d)
theorem State.SameCore.withDev (h : s.SameCore t) (d : Dev) : s.SameCore { t with dev := d } := h.trans (t.withDev_sameCore d)
theorem State.SameCore.toBank (h : s.SameCore t) (k : Nat) (st : BankState) : s.SameCore (t.onAon fun a => a.toBank k st) :=
  h.trans (t.onAon_sameCore (AlwaysOn.core_toBank _ _ _))

theorem State.resetHigh_of_up (h : s.up = true) : s.aon.resetHigh = true := by
  simp only [State.up, Bool.and_eq_true] at h
  exact h.1.2

theorem State.chooseBank_sameCore (s : State) : s.SameCore s.chooseBank := by
  unfold State.chooseBank
  split
  · dsimp only
    split
    · exact ((SameCore.refl s).toBank _ _).withDev _
    · exact ((SameCore.refl s).toBank _ _).setDev _
  · split
    · exact ((SameCore.refl s).toBank _ _).withDev _
    · split
      · exact s.withDev_sameCore _
      · exact s.setDev_sameCore _

theorem State.bootStart_sameCore (s : State) : s.SameCore s.bootStart := by
  have hbank : ∀ (l : List Nat) (a : AlwaysOn),
      (l.foldl (fun (a : AlwaysOn) k => if (a.bank k).state = .writing then a.setBank k {} else a) a).core = a.core := by
    intro l
    induction l with
    | nil => exact fun _ => rfl
    | cons k l ih =>
      intro a
      rw [List.foldl_cons, ih]
      split
      · exact a.core_setBank _ _
      · rfl
  have h := s.onAon_sameCore (f := fun a => [0, 1].foldl (fun (a : AlwaysOn) k => if (a.bank k).state = .writing then a.setBank k {} else a) a) (hbank _ _)
  exact SameCore.ite (h.setDev _) (SameCore.ite (h.withDev _) (h.trans (State.chooseBank_sameCore _)))

/-- A restart of a unit whose RESET_N is high. -/
theorem State.boot_sameCore (st : Straps) (cause : Nat) (h : s.aon.resetHigh = true) : s.SameCore (s.boot st cause) := by
  have hcore : s.aon.core = AlwaysOn.core { s.aon with resetHigh := true, armed := 0 } := by
    change s.aon.core = { s.aon.core with resetHigh := true }
    rw [show true = s.aon.core.resetHigh from h.symm]
  unfold State.boot
  dsimp only
  refine State.SameCore.trans ?_ (State.bootStart_sameCore _)
  exact ⟨rfl, hcore.symm⟩

theorem State.restart_sameCore (cause : Nat) (h : s.aon.resetHigh = true) : s.SameCore (s.restart cause) :=
  (State.withDev_sameCore s _).trans (State.boot_sameCore _ _ h)

theorem State.restartDue_sameCore (h : s.aon.resetHigh = true) : s.SameCore s.restartDue := by
  unfold State.restartDue
  split
  · exact SameCore.ite (.refl s) (State.restart_sameCore _ h)
  · exact .refl s

theorem State.watchdog_sameCore (h : s.aon.resetHigh = true) : s.SameCore s.watchdog :=
  SameCore.ite ((s.withDev_sameCore _).trans (State.restart_sameCore _ h)) (.refl s)

theorem State.startImage_sameCore (s : State) (bank : Option Nat) (l : List Byte) : s.SameCore (s.startImage bank l) := by
  refine State.SameCore.trans (s.onAon_sameCore ?_) (State.setDev_sameCore _ _)
  dsimp only
  split_ifs <;> rfl

theorem State.tryBank_sameCore (s : State) (k : Nat) (fell : Bool) : s.SameCore (s.tryBank k fell) := s.withDev_sameCore _

theorem State.bootAuth_sameCore (s : State) : s.SameCore s.bootAuth := by
  unfold State.bootAuth
  split
  · exact .refl s
  · next k _ =>
    have h := ((SameCore.refl s).toBank k .failed).withDev s.dev.authFailed
    exact SameCore.ite (s.startImage_sameCore _ _) (SameCore.ite (h.setDev _) ((h.toBank _ _).trans (State.tryBank_sameCore _ _ _)))

theorem State.go_sameCore (s : State) : s.SameCore s.go :=
  SameCore.ite (SameCore.ite (s.withDev_sameCore _) ((s.withDev_sameCore _).trans (State.startImage_sameCore _ _ _))) (s.setDev_sameCore _)

theorem State.loadCtrl_sameCore (s : State) (v : Word) : s.SameCore (s.loadCtrl v) :=
  SameCore.ite (s.withDev_sameCore _) (SameCore.ite ((s.withDev_sameCore _).trans (State.go_sameCore _)) (s.withDev_sameCore _))

theorem State.bootWrite_sameCore (s : State) (off : Nat) (v : Word) : s.SameCore (s.bootWrite off v) := by
  refine SameCore.ite ⟨rfl, rfl⟩ (SameCore.ite (s.loadCtrl_sameCore v) (SameCore.ite (s.withDev_sameCore _) ?_))
  split
  · exact s.withDev_sameCore _
  · exact .refl s

theorem State.image_sameCore (s : State) (kind off total : Nat) (l : List Byte) : s.SameCore (s.image kind off total l) := by
  refine SameCore.ite (SameCore.ite (.refl s) ?_) (SameCore.ite (s.withDev_sameCore _) (.refl s))
  split
  · exact s.setDev_sameCore _
  · exact s.withDev_sameCore _

theorem State.recover_sameCore (s : State) (partner : Bool) : s.SameCore (s.recover partner) := by
  refine SameCore.ite (.refl s) ?_
  dsimp only
  split
  · exact .refl s
  · refine SameCore.ite (s.withDev_sameCore _) ((SameCore.trans (State.onAon_sameCore s ?_) (State.withDev_sameCore _ _)).trans (State.startImage_sameCore _ _ _))
    have h : ∀ a : AlwaysOn, AlwaysOn.core { a with ignoreRecovery := true } = a.core := fun _ => rfl
    rw [h]
    split
    · exact (AlwaysOn.core_setBank _ _ _).trans (AlwaysOn.core_setBank _ _ _)
    · rfl

theorem State.bootReady_keeps (s : State) : s.Keeps false s.bootReady := by
  have h : s.Keeps false s.bootAdvance := State.Keeps.ite (.refl _ s) (((s.withDev_sameCore _).keeps _).ite (s.advance_keeps _ _ _ _))
  exact State.Keeps.ite (.refl _ s) (h.setDev _)

theorem State.marginClear_keeps (s : State) : s.Keeps false s.marginClear := by
  have h := s.setDev_keeps false (s.dev.marginSet false)
  exact State.Keeps.ite (.refl _ s) (State.Keeps.ite h ((h.trans (State.advance_keeps _ _ _ _ _)).setDev _))

theorem State.verifyDone_sameCore (s : State) : s.SameCore s.verifyDone := by
  refine SameCore.ite (.refl s) ?_
  dsimp only
  split
  · exact s.setDev_sameCore _
  · exact (State.onAon_sameCore s (AlwaysOn.core_setBank _ _ _)).setDev _

theorem State.confirmOver_sameCore (s : State) : s.SameCore s.confirmOver :=
  SameCore.ite (.refl s) (SameCore.ite (SameCore.ite (.refl s) (s.setDev_sameCore _)) (((SameCore.refl s).toBank _ _).setDev _))

/-! ### Epoch boundaries -/

theorem State.actAllReady_keeps {f : State → State} (h : s.ready = true → s.Keeps b (f s)) : s.Keeps b (s.actAllReady f) := by
  unfold State.actAllReady
  split
  · next hr => exact h hr
  · exact .refl b s

theorem State.actAll_keeps {f : State → State} (h : s.up = true → s.Keeps b (f s)) : s.Keeps b (s.actAll f) := by
  unfold State.actAll
  split
  · next hu => exact h hu
  · exact .refl b s

theorem State.actReady_keeps (b : Bool) (s : State) (f : Dev → Dev) : s.Keeps b (s.actReady f) := (s.setDev_keeps b _).ite (.refl b s)
theorem State.act_keeps (b : Bool) (s : State) (f : Dev → Dev) : s.Keeps b (s.act f) := (s.setDev_keeps b _).ite (.refl b s)

theorem State.epochBoundary_keeps (s : State) : s.Keeps true s.epochBoundary := by
  refine State.Keeps.ite (.refl _ s) ((((((s.actReady_keeps true _).trans (State.effects_keeps _ _ _)).trans (State.actReady_keeps true _ _)).trans
    (State.actAllReady_keeps fun _ => ?_)).trans (State.actReady_keeps true _ _)).trans (State.actAllReady_keeps fun hr => ?_))
  · exact (State.setDev_keeps true _ _).ite (.refl _ _)
  · exact (State.restartDue_sameCore (State.resetHigh_of_up (State.up_of_ready hr))).keeps true

/-! ### Register writes and the commands of a primary -/

/-- ALARM_CFG keeps the bits that cannot be masked, and a locked one its ENABLE (R603). -/
theorem State.alarmCfgWrite_keeps (s : State) (v : Word) : s.Keeps false (s.alarmCfgWrite v) where
  pending := rfl
  counter := le_rfl
  revoked _ h := h
  keyHash := rfl
  lockOtp := rfl
  lock h := by simp [State.alarmCfgWrite, h]
  latch _ h := h
  ok h := by
    obtain ⟨hen, hlatch, hhigh⟩ := h
    refine ⟨?_, hlatch, hhigh⟩
    have hmask : ∀ x : BitVec 5, (x ||| 0x0B) &&& 0x0B = 0x0B := by decide
    change (if s.aon.alarmLock = true then s.aon.alarmEnable else BitVec.ofNat 5 (fld v 0 5) ||| 0x0B) &&& 0x0B = 0x0B
    split
    · exact hen
    · exact hmask _

theorem State.realmWrite_sameCore (s : State) (p : Nat) (g : Reg) (off : Nat) (v : Word) : s.SameCore (s.realmWrite p g off v) :=
  SameCore.ite (SameCore.ite (.refl s) (s.onDev_sameCore _)) (SameCore.ite (s.onDev_sameCore _) (SameCore.ite (s.onDev_sameCore _) (s.onDev_sameCore _)))

theorem State.liveWrite_keeps (s : State) (p : Nat) (t : PType) (g : Reg) (off : Nat) (v : Word) : s.Keeps false (s.liveWrite p t g off v) := by
  unfold State.liveWrite
  cases t
  case boot => exact State.Keeps.ite ((s.bootWrite_sameCore _ _).keeps _) (s.onDev_keeps _ _)
  case flint => exact State.Keeps.ite (s.alarmCfgWrite_keeps v) ((s.onDev_keeps _ _).ite (s.onDev_keeps _ _))
  case realm => exact (s.realmWrite_sameCore _ _ _ _).keeps _
  all_goals
    dsimp only
    repeat' apply State.Keeps.ite
  any_goals exact s.onDev_keeps _ _
  all_goals exact .refl _ s

theorem State.headerWrite_sameCore (s : State) (p : Nat) (t : PType) (off : Nat) (v : Word) : s.SameCore (s.headerWrite p t off v) := by
  unfold State.headerWrite
  split
  · exact SameCore.ite ((s.setDev_sameCore _).trans ((State.setDev_sameCore _ _).ite (State.setDev_sameCore _ _))) (s.setDev_sameCore _)
  · exact s.onDev_sameCore _
  · exact s.onDev_sameCore _
  · exact s.onDev_sameCore _
  · exact SameCore.ite (.refl s) (s.onDev_sameCore _)
  · split
    · exact s.onDev_sameCore _
    · exact .refl s

theorem State.store_keeps (s : State) (p : Nat) (t : PType) (g : Reg) (off : Nat) (shadow : Bool) (v : Word) :
    s.Keeps false (s.store p t g off shadow v) :=
  State.Keeps.ite ((s.headerWrite_sameCore _ _ _ _).keeps _) (State.Keeps.ite (s.onDev_keeps _ _) (State.Keeps.ite (s.onDev_keeps _ _)
    (State.Keeps.ite (s.onDev_keeps _ _) (State.Keeps.ite ((s.headerWrite_sameCore _ _ _ _).keeps _) (s.liveWrite_keeps _ _ _ _ _)))))

theorem State.storeAt_keeps (s : State) (p base : Nat) (v : Word) : s.Keeps false (s.storeAt p base v) := by
  unfold State.storeAt
  dsimp only
  split
  · exact .refl _ s
  · split
    · exact .refl _ s
    · refine State.Keeps.ite (s.onDev_keeps _ _) (State.Keeps.ite (s.onDev_keeps _ _) ?_)
      exact State.Keeps.ite ((s.store_keeps _ _ _ _ _ _).onDev _) (s.store_keeps _ _ _ _ _ _)

theorem State.write_keeps (s : State) (p off size : Nat) (v : Word) : s.Keeps false (s.write p off size v) := by
  unfold State.write
  refine State.Keeps.ite ((State.Keeps.refl _ s).ite (s.onDev_keeps _ _)) (State.Keeps.ite ((s.onDev_keeps _ _).ite (.refl _ s)) (State.Keeps.ite (.refl _ s) ?_))
  have hs : ∀ low : Option (BitVec 32), s.Keeps false (if low.isSome = true then s else s.onDev (fun d => d.splitLost p)) :=
    fun _ => (State.Keeps.refl _ s).ite (s.onDev_keeps _ _)
  refine State.Keeps.ite ((hs _).onDev _) (State.Keeps.ite (hs _) (State.Keeps.ite ((hs _).trans (State.storeAt_keeps _ _ _ _))
    (State.Keeps.ite ((hs _).onDev _) (State.Keeps.ite ((hs _).onDev _) ?_))))
  split
  · exact ((hs _).onDev _).trans (State.storeAt_keeps _ _ _ _)
  · exact (hs _).onDev _

theorem State.hostWrite_keeps (s : State) (p off : Nat) (v : Word) : s.Keeps false (s.hostWrite p off v) := State.actAll_keeps fun _ => s.write_keeps _ _ _ _

theorem State.relayed_keeps (s : State) (r : RelayedCmd) : s.Keeps false (s.relayed r) := by
  unfold State.relayed
  split
  · exact .refl _ s
  · next o ho =>
    dsimp only
    split
    · next ha => exact (s.onDev_keeps false _).trans (State.dated_keeps _ (fun u => (opSpec_keeps_of_atOnce ho ha).perform _ _ _ u) _)
    · exact (s.onDev_keeps false _).onDev _

theorem State.relayedWrite_keeps (s : State) (p base : Nat) (v : Word) : s.Keeps false (s.relayedWrite p base v) := by
  unfold State.relayedWrite
  dsimp only
  split
  · exact .refl _ s
  · split
    · exact .refl _ s
    · exact State.Keeps.ite (.refl _ s) (s.store_keeps _ _ _ _ _ _)

theorem State.early_keeps (s : State) (e : Early) : s.Keeps false (s.early e) := by
  refine State.Keeps.ite (.refl _ s) (State.Keeps.ite (s.onDev_keeps _ _) ?_)
  cases e with
  | command r => exact s.relayed_keeps r
  | write p off v => exact s.relayedWrite_keeps p off v

theorem State.linkTake_keeps (s : State) (f : LinkHdr) {g : State → State} (h : ∀ s : State, s.Keeps b (g s)) : s.Keeps b (s.linkTake f g) :=
  State.Keeps.ite ((s.onDev_keeps b _).trans (h _)) (s.onDev_keeps b _)

theorem State.earlies_keep (l : List Early) (s : State) : s.Keeps false (l.foldl (fun (s : State) e => s.early e) s) := by
  induction l generalizing s with
  | nil => exact .refl _ s
  | cons e l ih => exact (s.early_keeps e).trans (ih _)

/-! ### Reads -/

theorem State.onRead_sameCore (s : State) (p off : Nat) : s.SameCore (s.onRead p off) :=
  SameCore.ite (s.setDev_sameCore _) (SameCore.ite (s.setDev_sameCore _) (.refl s))

theorem State.consume_sameCore (s : State) (p off : Nat) : s.SameCore (s.consume p off) :=
  SameCore.ite (s.setDev_sameCore _) (SameCore.ite (s.setDev_sameCore _) (.refl s))

theorem State.readWhole_sameCore (s : State) (p off : Nat) : s.SameCore (s.readWhole p off).1 := by
  unfold State.readWhole
  repeat' split
  any_goals exact ⟨rfl, rfl⟩
  exact (s.onRead_sameCore _ _).trans (State.consume_sameCore _ _ _)

theorem State.halfWord_sameCore (s : State) (p base : Nat) : s.SameCore (s.halfWord p base).1 := by
  unfold State.halfWord
  repeat' split
  any_goals exact ⟨rfl, rfl⟩
  exact s.onRead_sameCore _ _

theorem State.readHalf_sameCore (s : State) (p off : Nat) : s.SameCore (s.readHalf p off).1 := by
  have h := s.halfWord_sameCore p (off / 8 * 8)
  unfold State.readHalf
  dsimp only
  repeat' split
  any_goals exact ⟨rfl, rfl⟩
  any_goals exact h
  exact (h.setDev _).trans (State.consume_sameCore _ _ _)

theorem readOut_keeps (b : Bool) (r : State × Word) : r.1.Keeps b (readOut r) := r.1.onDev_keeps b _

theorem State.read_keeps (b : Bool) (s : State) (p off size : Nat) : s.Keeps b (readOut (s.read p off size)) := by
  refine State.Keeps.trans ?_ (readOut_keeps b _)
  unfold State.read
  repeat' split
  any_goals exact .refl b s
  any_goals exact s.setDev_keeps b _
  · exact (s.readWhole_sameCore _ _).keeps b
  · exact (s.readHalf_sameCore _ _).keeps b

theorem State.readBy_keeps (b : Bool) (s : State) (p off : Nat) (how : ReadHow) : s.Keeps b (s.readBy p off how) := by
  cases how
  · exact ((s.readWhole_sameCore _ _).keeps b).trans (readOut_keeps b _)
  · exact ((s.readHalf_sameCore _ _).keeps b).trans (readOut_keeps b _)
  · exact ((s.readHalf_sameCore _ _).keeps b).trans (readOut_keeps b _)

/-! ### What each row of the table does -/

/-- The rows that may carry out FLINT_RELEASE. -/
def carriesOut : Instr → Bool
  | .flintRelease _ | .commandFetch _ _ | .commandEffect | .epochBoundary => true
  | _ => false

/-- How a row that stands still on a stopped unit is carried out: gated on the unit running or being READY, by an effect that keeps what every command keeps. -/
inductive State.Ran (s : State) (b : Bool) : State → Prop
  | same : s.Ran b s
  | act (f : Dev → Dev) : s.Ran b (s.act f)
  | actReady (f : Dev → Dev) : s.Ran b (s.actReady f)
  | all (f : State → State) (h : s.up = true → s.Keeps b (f s)) : s.Ran b (s.actAll f)
  | allReady (f : State → State) (h : s.ready = true → s.Keeps b (f s)) : s.Ran b (s.actAllReady f)

theorem State.Ran.keeps (h : s.Ran b t) : s.Keeps b t := by
  cases h with
  | same => exact .refl b s
  | act f => exact s.act_keeps b f
  | actReady f => exact s.actReady_keeps b f
  | all f h => exact State.actAll_keeps h
  | allReady f h => exact State.actAllReady_keeps h

theorem State.Ran.stands (h : s.Ran b t) (hu : s.up = false) : t = s := by
  cases h with
  | same => rfl
  | act f => exact s.act_down f hu
  | actReady f => exact s.actReady_not f (s.ready_of_not_up hu)
  | all f h => exact s.actAll_down f hu
  | allReady f h => exact s.actAllReady_not f (s.ready_of_not_up hu)

theorem State.Ran.cmd (h : o.Keeps b) (c : HostCmd) : s.Ran b (runCmd o c s) := .allReady _ fun _ => h.process s _ (.refl b)
theorem State.Ran.hostWrite (p off : Nat) (v : Word) : s.Ran b (s.hostWrite p off v) := .all _ fun _ => (s.write_keeps _ _ _ _).mono b
theorem State.Ran.writeIf {c : Prop} [Decidable c] (p off : Nat) (v : Word) : s.Ran b (if c then s.hostWrite p off v else s) := by
  split
  · exact .hostWrite _ _ _
  · exact .same

theorem State.joinComplete_keeps (s : State) : s.Keeps b
    (if (decide (s.dev.pair.partner = .joining) && decide ((s.onDev Dev.joinComplete).dev.pair.role = .secondary)) = true then
      (s.dev.pair.early.foldl (fun (s : State) e => s.early e) ((s.onDev Dev.joinComplete).onDev (fun d => d.onPair (fun p => { p with early := [] })))).onDev
        (fun d => d.follow.applyDue)
    else s.onDev Dev.joinComplete) := by
  have h := s.onDev_keeps b Dev.joinComplete
  exact State.Keeps.ite (((h.onDev _).trans ((State.earlies_keep _ _).mono b)).onDev _) h

/-- Every row but those that act on a stopped unit, by the way in which it is carried out. -/
theorem exec_ran (i : Instr) (s : State) (h : i.outside = false) : ∃ t, exec i s = .next t ∧ s.Ran (carriesOut i) t := by
  cases i with
  | snapshotLatch | bar4Access | functionLevelReset | pcieLinkChange | quartzTick | refclkLost | refclkRestored | geodePreempt | geodeSwapMove |
    geodeLinkError | signalDetect | signalLoss | cdrLock | cdrTimeout | commaDetect | commaTimeout | deskewDone | deskewTimeout | tryRetry |
    noPartnerRetry | syncLoss | skewLoss | prbsLock | prbsLockLost | elasticAdjust | remoteFault | remoteFaultClear | roleDecisionTimeout |
    heartbeatPulse | heartbeatLoss | frozenIndication | deposed | linkUp | linkFail | linkRetransmit | linkIdleAck | hello | ack | manifest |
    manifestAck | log | digest | digestTimeout | resyncDone | relayReq | relayData | commandRelayTimeout | key | state | surrender | takeover |
    failoverTakeover | perst | errorReport | logEntryDue | lostEntry | monitorSample | i2cTempRead | selfTestDone | engineFault | micaInternalFault |
    pmaFault | channelFailure | frameSilence | hbInPulse =>
    exact ⟨_, rfl, .act _⟩
  | coalesceTimeout | commitGroupApply | blockBoundary | dispatcherTick | pictureTick | nowW0Read | sync | followUp | delayResp | announce | delayReq
    | syncTimeout | announceTimeout | stepApply | ppsOutPulse | ppsInEdge | ppsInMissing | legDrainEnd | consentRequest | consentExpired |
    frameReceive | videoWaitExpiry | nackSend | feedbackLost | layerSuspend | pliSend | repairEscalated | rtcpSend | feedbackSend | encJobStart |
    encJobDone | decJobStart | decJobDone | sourceLate | micaPictureDone | netAudioReceive | jbForceStep | plcMute | tdmFrame | tdmLock | lockLost |
    spkLayoutLoaded | garnetSwapSwitch | eccFatal | garnetFaultMove | insertCall | insertBudgetExpiry | bundleIssue | dispGetReturn | xferDone |
    timerInterrupt | interruptEntry | gateSwitched | gateEntryStart | transmitOpportunity | pacerEligible | queueSample | keyWrite | zeroize |
    cancelPending | keyCmdConfirm | keyCmdTimeout | keyRegisterWrite | flintPipeMove | pipeFault | timedItemRelease | faultTimeout |
    dmaDescriptorStart | dmaWaitExpiry | dmaDescriptorEnd | eccRegionReady | traceEntryWrite | traceLost | bistDone | freezePin | flashWriteDone |
    tempHigh =>
    exact ⟨_, rfl, .actReady _⟩
  | nop | commitGroup | cancelCommit | acceptStep | globalSnapshot | legOpen | legStart | legHold | legResume | legClose | legRelease | legUpdate |
    streamAdd | streamRemove | subscribe | unsubscribe | subscribeSet | legQuery | encStreamOpen | encStreamClose | encStreamUpdate | encRefresh |
    encQuery | encSubmit | decStreamOpen | decStreamClose | decQuery | decSubmit | geodeTwin | geodeUntwin | geodeSwap | layoutOpen | layoutStart |
    layoutStop | layoutClose | layerLoad | layoutFlip | layerBypass | stillLoad | layoutQuery | legAudioSet | confAudioSet | hrtfLoad | routeSet |
    routeClear | routeQuery | netRxOpen | netRxClose | netTxOpen | netTxClose | spkLayoutLoad | spkLayoutSelect | renderStart | renderStop | objSet |
    spkSet | firLoad | hoaSet | renderQuery | garnetLoad | garnetUnload | insertOpen | insertClose | insertParam | insertCoef | insertBypass |
    insertReset | insertQuery | garnetSwap | taskStart | taskStop | queueAssign | queueSet | queueQuery | queueFlush | gateListSet | gateListCancel |
    hostSend | keyslotAssign | keyQuery | laneRetrain | portQuery | pairSurrender | pairYield | pairJoin | legResync | pairQuery | xlatMap | xlatUnmap
    | xlatProtect | xlatQuery | faultResume | faultAbort | domainSet | dispSubmit | dispQuery | dispFlush =>
    exact ⟨_, rfl, .cmd (OpSpec.DevOnly.keeps fun _ _ _ _ => ⟨_, rfl⟩) _⟩
  | flintRelease =>
    exact ⟨_, rfl, .cmd flintReleaseSpec_keeps _⟩
  | updateBegin =>
    exact ⟨_, rfl, .cmd updateBeginSpec_keeps _⟩
  | updateData =>
    exact ⟨_, rfl, .cmd updateDataSpec_keeps _⟩
  | updateFinish =>
    exact ⟨_, rfl, .cmd updateFinishSpec_keeps _⟩
  | updateAbort =>
    exact ⟨_, rfl, .cmd updateAbortSpec_keeps _⟩
  | updateActivate =>
    exact ⟨_, rfl, .cmd updateActivateSpec_keeps _⟩
  | updateConfirm =>
    exact ⟨_, rfl, .cmd updateConfirmSpec_keeps _⟩
  | updateRevert =>
    exact ⟨_, rfl, .cmd updateRevertSpec_keeps _⟩
  | updateLock =>
    exact ⟨_, rfl, .cmd updateLockSpec_keeps _⟩
  | settingsWrite =>
    exact ⟨_, rfl, .cmd settingsWriteSpec_keeps _⟩
  | settingsRead =>
    exact ⟨_, rfl, .cmd settingsReadSpec_keeps _⟩
  | unitIsolate =>
    exact ⟨_, rfl, .cmd unitIsolateSpec_keeps _⟩
  | bistRun =>
    exact ⟨_, rfl, .cmd bistRunSpec_keeps _⟩
  | freezeNow =>
    exact ⟨_, rfl, .cmd freezeNowSpec_keeps _⟩
  | deviceTest =>
    exact ⟨_, rfl, .cmd deviceTestSpec_keeps _⟩
  | shadowWrite | pageEnable | pageIsolate | pageReset | snapshot | snapRelease | pageEventClear | pageEventMaskWrite | pageCommitWrite | winBaseWrite
    | ptpCfgWrite | statsCfgWrite | bufBaseWrite | stillBaseWrite | levelBaseWrite | qstatsCfgWrite | alarmCfgWrite | pipeCtrlWrite | faultBaseWrite |
    traceBaseWrite =>
    exact ⟨_, rfl, .hostWrite _ _ _⟩
  | ringCtrlWrite | cmdTailWrite | cplHeadWrite | tdmCfgWrite | laneCfgWrite | errInject | portCfgWrite | chEnable | chResume | chSkip | chStop |
    chTailWrite | eccMapWrite | sliceCfgWrite =>
    exact ⟨_, rfl, .writeIf _ _ _⟩
  | registerWrite | splitWrite =>
    exact ⟨_, rfl, .all _ fun _ => (s.write_keeps _ _ _ _).mono _⟩
  | splitRead =>
    exact ⟨_, rfl, .all _ fun _ => s.read_keeps _ _ _ _⟩
  | pageErrRead | headW3Read =>
    exact ⟨_, rfl, .all _ fun _ => s.readBy_keeps _ _ _ _⟩
  | commandFetch =>
    exact ⟨_, rfl, .allReady _ fun _ => s.commandFetch_keeps _ _⟩
  | commandEffect =>
    exact ⟨_, rfl, .allReady _ fun _ => s.commandEffect_keeps⟩
  | epochBoundary =>
    exact ⟨_, rfl, .allReady _ fun _ => s.epochBoundary_keeps⟩
  | command | regWrite =>
    exact ⟨_, rfl, .all _ fun _ => s.linkTake_keeps _ fun u => (u.early_keeps _).mono _⟩
  | image =>
    exact ⟨_, rfl, .all _ fun _ => State.Keeps.ite ((s.setDev_keeps _ _).trans ((State.image_sameCore _ _ _ _ _).keeps _)) (s.setDev_keeps _ _)⟩
  | joinComplete =>
    exact ⟨_, rfl, .all _ fun _ => s.joinComplete_keeps⟩
  | bootImageAuth =>
    exact ⟨_, rfl, .all _ fun _ => s.bootAuth_sameCore.keeps _⟩
  | bootReady =>
    exact ⟨_, rfl, .all _ fun _ => s.bootReady_keeps.mono _⟩
  | watchdogRestart =>
    exact ⟨_, rfl, .all _ fun hu => (State.watchdog_sameCore (State.resetHigh_of_up hu)).keeps _⟩
  | loadGo =>
    exact ⟨_, rfl, .all _ fun _ => (s.loadCtrl_sameCore _).keeps _⟩
  | recovered =>
    exact ⟨_, rfl, .all _ fun _ => (s.recover_sameCore _).keeps _⟩
  | confirmTimeout =>
    exact ⟨_, rfl, .allReady _ fun _ => s.confirmOver_sameCore.keeps _⟩
  | verifyDone =>
    exact ⟨_, rfl, .allReady _ fun _ => s.verifyDone_sameCore.keeps _⟩
  | marginLowClear =>
    exact ⟨_, rfl, .all _ fun _ => s.marginClear_keeps.mono _⟩
  | testReset =>
    exact ⟨_, rfl, .same⟩
  | alarm | powerUp | powerDown | resetAssert | resetRelease | extest | idcode | samplePreload | frzStatus | frzTime | rdAddr | rdData | bypass =>
    cases h

/-! ### The rows that act on a stopped unit -/

theorem State.tap_keeps {f : State → State} (h : s.Keeps b (f s)) : s.Keeps b (s.tap f) := h.ite (.refl b s)

theorem State.rdData_keeps (s : State) (available : Bool) : s.Keeps b (s.rdData available) :=
  State.Keeps.ite (s.onDev_keeps b _) (State.Keeps.ite (s.onDev_keeps b _) ((s.setDev_keeps b _).onDev _))

/-- A source that is not masked latches its cause (R596). -/
theorem exec_alarm_keeps (s : State) (sources : BitVec 5) : ∃ t, exec (.alarm sources) s = .next t ∧ s.Keeps false t := by
  change ∃ t, execAlarm sources s = .next t ∧ _
  have hact : s.Keeps false { s with aon := { s.aon with alarmActive := sources } } :=
    ⟨rfl, le_rfl, fun _ h => h, rfl, rfl, fun h => ⟨h, rfl⟩, fun _ h => h, id⟩
  unfold execAlarm
  dsimp only
  split
  · exact ⟨s, rfl, .refl _ s⟩
  · split
    · exact ⟨_, rfl, hact⟩
    · next hhit =>
      refine ⟨_, rfl, State.Keeps.trans ?_ ((State.setDev_keeps false _ _).ite (State.setDev_keeps false _ _))⟩
      refine ⟨rfl, le_rfl, fun _ h => h, rfl, rfl, fun h => ⟨h, rfl⟩, fun _ _ => rfl, fun ⟨hen, _, hhigh⟩ => ⟨hen, ?_, hhigh⟩⟩
      have hor : ∀ x y : BitVec 5, y ≠ 0 → x ||| y ≠ 0 := by decide
      exact iff_of_true rfl (hor _ _ hhit)

theorem State.resetLow_keeps (s : State) : s.Keeps b s.resetLow :=
  ⟨rfl, le_rfl, fun _ h => h, rfl, rfl, fun h => ⟨h, rfl⟩, fun _ h => h, fun ⟨hen, hlatch, _⟩ => ⟨hen, hlatch, fun h => nomatch h⟩⟩

/-- RESET_N rises only over rails that are up (R829). -/
theorem State.release_keeps (s : State) (st : Straps) : s.Keeps b (if (s.aon.auxOn && s.aon.railsOn && !s.aon.resetHigh) = true then s.boot st 0 else s) := by
  split
  · next h =>
    simp only [Bool.and_eq_true] at h
    obtain ⟨⟨haux, hrails⟩, -⟩ := h
    have hup : s.Keeps b { s with aon := { s.aon with resetHigh := true } } :=
      ⟨rfl, le_rfl, fun _ h => h, rfl, rfl, fun h => ⟨h, rfl⟩, fun _ h => h, fun ⟨hen, hlatch, _⟩ => ⟨hen, hlatch, fun _ => ⟨hrails, haux⟩⟩⟩
    exact hup.trans ((State.boot_sameCore (s := { s with aon := { s.aon with resetHigh := true } }) st 0 rfl).keeps b)
  · exact .refl b s

/-- The rows that act on a stopped unit keep the always-on domain, but for the loss of VDD_AUX. -/
theorem exec_outside_keeps (i : Instr) (s : State) (h : i.outside = true) (hp : i ≠ .powerDown true) : ∃ t, exec i s = .next t ∧ s.Keeps false t := by
  cases i with
  | alarm sources => exact exec_alarm_keeps s sources
  | powerUp =>
    exact ⟨_, rfl, rfl, le_rfl, fun _ h => h, rfl, rfl, fun h => ⟨h, rfl⟩, fun _ h => h, fun ⟨hen, hlatch, _⟩ => ⟨hen, hlatch, fun _ => ⟨rfl, rfl⟩⟩⟩
  | powerDown aux =>
    cases aux with
    | true => exact absurd rfl hp
    | false =>
      refine ⟨_, rfl, s.resetLow_keeps.trans ?_⟩
      exact ⟨rfl, le_rfl, fun _ h => h, rfl, rfl, fun h => ⟨h, rfl⟩, fun _ h => h, fun ⟨hen, hlatch, _⟩ => ⟨hen, hlatch, fun h => nomatch h⟩⟩
  | resetAssert => exact ⟨_, rfl, s.resetLow_keeps⟩
  | resetRelease st => exact ⟨_, rfl, s.release_keeps st⟩
  | rdData available => exact ⟨_, rfl, State.tap_keeps (s.rdData_keeps available)⟩
  | extest | idcode | samplePreload | frzStatus | frzTime | rdAddr | bypass => exact ⟨_, rfl, State.tap_keeps (s.onDev_keeps _ _)⟩
  | _ => cases h

/-- Every row but the loss of VDD_AUX. -/
theorem exec_keeps (i : Instr) (s : State) (hp : i ≠ .powerDown true) : ∃ t, exec i s = .next t ∧ s.Keeps (carriesOut i) t := by
  cases h : i.outside with
  | false =>
    obtain ⟨t, ht, hr⟩ := exec_ran i s h
    exact ⟨t, ht, hr.keeps⟩
  | true =>
    obtain ⟨t, ht, hk⟩ := exec_outside_keeps i s h hp
    exact ⟨t, ht, hk.mono _⟩

/-- The loss of VDD_AUX: the alarm is gone, OTP and the queue stay (R597, R831). -/
theorem exec_auxLost (s : State) : ∃ t, exec (.powerDown true) s = .next t ∧ t.pending = s.pending ∧ t.aon.counter = s.aon.counter ∧ t.aon.revoked = s.aon.revoked ∧
    t.aon.keyHash = s.aon.keyHash ∧ t.aon.lockOtp = s.aon.lockOtp ∧ AlwaysOnOk t :=
  ⟨_, rfl, rfl, rfl, rfl, rfl, rfl, (by decide : (0x1F : BitVec 5) &&& 0x0B = 0x0B), iff_of_false (by exact nofun) (not_not.2 rfl), fun h => nomatch h⟩

theorem exec_next (i : Instr) (s : State) : ∃ t, exec i s = .next t ∧ t.pending = s.pending ∧ (AlwaysOnOk s → AlwaysOnOk t) := by
  by_cases hp : i = .powerDown true
  · obtain ⟨t, ht, hq, -, -, -, -, hok⟩ := exec_auxLost s
    exact ⟨t, hp ▸ ht, hq, fun _ => hok⟩
  · obtain ⟨t, ht, hk⟩ := exec_keeps i s hp
    exact ⟨t, ht, hk.pending, hk.ok⟩

/-! ### The statements -/

/-- A step, by the command at the front of the queue. -/
theorem step_cons {i : Instr} {rest : List Instr} (h : s.pending = i :: rest) : step s = exec i { s with pending := rest } := by
  rw [step, h]

theorem step_nil (h : s.pending = []) : step s = .next s := by
  rw [step, h]

/-- Settles O1: by the definition of a step. -/
theorem stepRunsFront : Obligations.StepRunsFront := fun _ _ _ h => step_cons h

/-- Settles O2: no row of the table has bits, so no word spells a command. -/
theorem emptyQueueIdles : Obligations.EmptyQueueIdles := fun _ => ⟨step_nil, fun _ _ => ⟨rfl, rfl⟩⟩

theorem everyCommandAnswers : EveryCommandAnswers := fun i s => by
  obtain ⟨t, ht, hq, -⟩ := exec_next i s
  exact ⟨t, ht, hq⟩

/-- A step answers a next state, with the command at the front taken. -/
theorem step_next (s : State) : ∃ t, step s = .next t ∧ t.pending = s.pending.tail ∧ (AlwaysOnOk s → AlwaysOnOk t) := by
  cases hp : s.pending with
  | nil => exact ⟨s, step_nil hp, hp, id⟩
  | cons i rest =>
    obtain ⟨t, ht, hq, hok⟩ := exec_next i { s with pending := rest }
    exact ⟨t, (step_cons hp).trans ht, hq, hok⟩

theorem stepAlwaysProceeds : StepAlwaysProceeds := fun s => by
  obtain ⟨t, ht, hq, -⟩ := step_next s
  refine ⟨⟨t, ht⟩, fun u hu => ?_⟩
  cases ht.symm.trans hu
  exact hq

/-- Settles O4: each row is a gated effect that leaves the queue as it stands. -/
theorem answers : Obligations.Answers := ⟨everyCommandAnswers, stepAlwaysProceeds⟩

/-- Settles O55: each row outside those named is gated on the unit running, and the boundaries and the intake of commands on READY. -/
theorem stoppedUnitStandsStill : Obligations.StoppedUnitStandsStill := by
  refine ⟨fun i s hu hi => ?_, fun s r k g p tdm hr i hi => ?_⟩
  · obtain ⟨t, ht, hran⟩ := exec_ran i s hi
    rw [ht, hran.stands hu]
  · have hall : ∀ f : State → State, s.actAllReady f = s := fun f => s.actAllReady_not f hr
    have hdev : ∀ f : Dev → Dev, s.actReady f = s := fun f => s.actReady_not f hr
    simp only [List.mem_cons, List.not_mem_nil, or_false] at hi
    rcases hi with rfl | rfl | rfl | rfl | rfl | rfl | rfl
    · exact congrArg _ (hall _)
    · exact congrArg _ (hall _)
    · exact congrArg _ (hall _)
    · exact congrArg _ (hdev _)
    · exact congrArg _ (hdev _)
    · exact congrArg _ (hdev _)
    · exact congrArg _ (hdev _)

/-- Settles O56: only an advance changes OTP, and it takes the greater counter and adds to REVOKED (R762). -/
theorem otpNeverGoesBack : Obligations.OtpNeverGoesBack := by
  intro i s t ht
  by_cases hp : i = .powerDown true
  · subst hp
    obtain ⟨u, hu, -, hcnt, hrev, hkey, hlock, -⟩ := exec_auxLost s
    cases hu.symm.trans ht
    exact ⟨hcnt.ge, fun k => by rw [hrev]; exact id, hkey, hlock⟩
  · obtain ⟨u, hu, hk⟩ := exec_keeps i s hp
    cases hu.symm.trans ht
    exact ⟨hk.counter, hk.revoked, hk.keyHash, hk.lockOtp⟩

/-- Settles O57: a row that cannot carry out FLINT_RELEASE keeps the latch. -/
theorem alarmsHold : Obligations.AlarmsHold := by
  intro i s t ht hp
  obtain ⟨u, hu, hk⟩ := exec_keeps i s hp
  cases hu.symm.trans ht
  refine ⟨hk.lock, fun hl => ?_⟩
  cases i with
  | flintRelease c => exact .inr (.inl ⟨c, rfl⟩)
  | commandFetch r k => exact .inr (.inr (.inl ⟨r, k, rfl⟩))
  | commandEffect => exact .inr (.inr (.inr (.inl rfl)))
  | epochBoundary => exact .inr (.inr (.inr (.inr (.inl rfl))))
  | _ => exact .inl (hk.latch rfl hl)

/-- Settles O58: the rails, RESET_N and the alarm keep the order of the always-on domain, and no other command reaches it. -/
theorem stepsKeepAlwaysOnOk : Obligations.StepsKeepAlwaysOnOk := by
  intro s t hs ht
  obtain ⟨u, hu, -, hok⟩ := step_next s
  cases hu.symm.trans ht
  exact hok hs

/-- Settles O59: at reset nothing is masked, nothing latched, and RESET_N is low. -/
theorem resetAlwaysOnOk : Obligations.ResetAlwaysOnOk := ⟨rfl, by decide, fun h => nomatch h⟩

end Sys2Proof.Machine
end

section
/-! What a note of the unit (an error, an event, a report, a counter, an output) leaves alone: every register, ring and unit, and every header but those it is about. -/

namespace Sys2Proof.Machine
open Sys2Proof

variable {d e f : Dev}

/-- Only page headers, counters, what leaves the block, the state of the PCI Express link and the observation records may differ. -/
def Dev.Noted (d e : Dev) : Prop :=
  e = { d with
    ctl := { d.ctl with pages := e.ctl.pages, counters := e.ctl.counters, out := e.ctl.out, msixPend := e.ctl.msixPend, linkUp := e.ctl.linkUp,
                        linkSpeed := e.ctl.linkSpeed, linkWidth := e.ctl.linkWidth }
    obs := e.obs }

theorem Dev.Noted.refl (d : Dev) : d.Noted d := rfl
theorem Dev.Noted.trans (h : d.Noted e) (k : e.Noted f) : d.Noted f := by
  unfold Dev.Noted at *; rw [k, h]
theorem Dev.Noted.told (h : d.Noted e) : d.Told e := by
  unfold Dev.Noted at h; unfold Dev.Told; rw [h]

theorem Dev.noted_foldl {α : Type} (g : Dev → α → Dev) (h : ∀ (d : Dev) (x : α), d.Noted (g d x)) (l : List α) (d : Dev) : d.Noted (l.foldl g d) := by
  induction l generalizing d with
  | nil => exact .refl d
  | cons x t ih => exact (h d x).trans (ih _)

theorem Dev.setPage_noted (d : Dev) (p : Nat) (h : PageHdr) : d.Noted (d.setPage p h) := rfl
theorem Dev.onPage_noted (d : Dev) (p : Nat) (g : PageHdr → PageHdr) : d.Noted (d.onPage p g) := rfl
theorem Dev.err_noted (d : Dev) (p : Nat) (c : ErrCode) : d.Noted (d.err p c) := rfl
theorem Dev.errs_noted (d : Dev) (p : Nat) (l : List ErrCode) : d.Noted (d.errs p l) := Dev.noted_foldl _ (fun d c => d.err_noted p c) _ _
theorem Dev.bump_noted (d : Dev) (p o n : Nat) : d.Noted (d.bump p o n) := rfl
theorem Dev.inc_noted (d : Dev) (p o : Nat) : d.Noted (d.inc p o) := rfl
theorem Dev.emit_noted (d : Dev) (o : Output) : d.Noted (d.emit o) := rfl
theorem Dev.msix_noted (d : Dev) (v : Nat) : d.Noted (d.msix v) := by
  unfold Dev.msix
  split
  · rfl
  · split <;> rfl
theorem Dev.freeze_noted (d : Dev) (c t s e : Nat) : d.Noted (d.freeze c t s e) := by
  unfold Dev.freeze
  split <;> rfl

theorem Dev.event_noted (d : Dev) (p b : Nat) : d.Noted (d.event p b) := by
  unfold Dev.event
  dsimp only
  split
  · exact .refl d
  · split
    · exact d.setPage_noted _ _
    · exact (d.setPage_noted _ _).trans (Dev.msix_noted _ _)

theorem Dev.report_noted (d : Dev) (r : Report) : d.Noted (d.report r) := by
  unfold Dev.report
  dsimp only
  split
  · refine Dev.Noted.trans ?_ (Dev.freeze_noted _ _ _ _ _)
    split <;> rfl
  · split <;> rfl

theorem Dev.raise_noted (d : Dev) (p b s c : Nat) (x y : Word) : d.Noted (d.raise p b s c x y) := (d.event_noted p b).trans (Dev.report_noted _ _)

theorem Dev.trace_noted (d : Dev) (c e s : Nat) (x y : Word) (o : Nat) : d.Noted (d.trace c e s x y o) := by
  unfold Dev.trace
  dsimp only
  repeat' split
  all_goals rfl

theorem Dev.Noted.ite {c : Prop} [Decidable c] (h : d.Noted e) (k : d.Noted f) : d.Noted (if c then e else f) := by
  split
  · exact h
  · exact k

/-! ### Reading past a note -/

theorem Dev.Noted.reg (h : d.Noted e) (p o : Nat) : e.reg p o = d.reg p o := by rw [h]; rfl
theorem Dev.Noted.now (h : d.Noted e) : e.now = d.now := by rw [h]; rfl
theorem Dev.Noted.lanes (h : d.Noted e) : e.lanes = d.lanes := by rw [h]
theorem Dev.Noted.ring (h : d.Noted e) (r k : Nat) : e.ring r k = d.ring r k := by rw [h]; rfl

@[simp] theorem Dev.reg_raise (d : Dev) (p b s c : Nat) (x y : Word) (q o : Nat) : (d.raise p b s c x y).reg q o = d.reg q o := (d.raise_noted p b s c x y).reg q o
@[simp] theorem Dev.now_raise (d : Dev) (p b s c : Nat) (x y : Word) : (d.raise p b s c x y).now = d.now := (d.raise_noted p b s c x y).now
@[simp] theorem Dev.lanes_raise (d : Dev) (p b s c : Nat) (x y : Word) : (d.raise p b s c x y).lanes = d.lanes := (d.raise_noted p b s c x y).lanes
@[simp] theorem Dev.reg_report (d : Dev) (r : Report) (q o : Nat) : (d.report r).reg q o = d.reg q o := (d.report_noted r).reg q o
@[simp] theorem Dev.now_report (d : Dev) (r : Report) : (d.report r).now = d.now := (d.report_noted r).now
@[simp] theorem Dev.lanes_report (d : Dev) (r : Report) : (d.report r).lanes = d.lanes := (d.report_noted r).lanes
@[simp] theorem Dev.reg_errs (d : Dev) (p : Nat) (l : List ErrCode) (q o : Nat) : (d.errs p l).reg q o = d.reg q o := (d.errs_noted p l).reg q o
@[simp] theorem Dev.now_errs (d : Dev) (p : Nat) (l : List ErrCode) : (d.errs p l).now = d.now := (d.errs_noted p l).now
@[simp] theorem Dev.lanes_errs (d : Dev) (p : Nat) (l : List ErrCode) : (d.errs p l).lanes = d.lanes := (d.errs_noted p l).lanes
@[simp] theorem Dev.now_err (d : Dev) (p : Nat) (c : ErrCode) : (d.err p c).now = d.now := rfl
@[simp] theorem Dev.reg_onPage (d : Dev) (p : Nat) (g : PageHdr → PageHdr) (q o : Nat) : (d.onPage p g).reg q o = d.reg q o := rfl
@[simp] theorem Dev.now_onPage (d : Dev) (p : Nat) (g : PageHdr → PageHdr) : (d.onPage p g).now = d.now := rfl
@[simp] theorem Dev.now_bump (d : Dev) (p o n : Nat) : (d.bump p o n).now = d.now := rfl
@[simp] theorem Dev.reg_inc (d : Dev) (p o q b : Nat) : (d.inc p o).reg q b = d.reg q b := rfl
@[simp] theorem Dev.now_inc (d : Dev) (p o : Nat) : (d.inc p o).now = d.now := rfl
@[simp] theorem Dev.page_inc (d : Dev) (p o q : Nat) : (d.inc p o).page q = d.page q := rfl
@[simp] theorem Dev.now_emit (d : Dev) (o : Output) : (d.emit o).now = d.now := rfl
@[simp] theorem Dev.lanes_emit (d : Dev) (o : Output) : (d.emit o).lanes = d.lanes := rfl
@[simp] theorem Dev.lanes_tickFree (d : Dev) : d.tickFree.lanes = d.lanes := rfl
@[simp] theorem Dev.now_tickFree (d : Dev) : d.tickFree.now = d.now := rfl
@[simp] theorem Dev.now_setReg (d : Dev) (p o : Nat) (v : Word) : (d.setReg p o v).now = d.now := rfl

/-! ### Headers and counters past an event and a report -/

/-- An event is about the header of its page alone. -/
theorem Dev.page_event_of_ne (d : Dev) {p q : Nat} (b : Nat) (h : q ≠ p) : (d.event p b).page q = d.page q := by
  unfold Dev.event
  dsimp only
  split
  · rfl
  · split
    · rw [Dev.page_setPage, if_neg h]
    · rw [Dev.page_msix, Dev.page_setPage, if_neg h]

/-- What an event leaves of its page: the same header with the bit set. -/
theorem Dev.page_event_same (d : Dev) (p b : Nat) : (d.event p b).page p = { d.page p with event := ((d.event p b).page p).event } := by
  unfold Dev.event
  dsimp only
  split
  · rfl
  · split
    · rw [Dev.page_setPage, if_pos rfl]
    · rw [Dev.page_msix, Dev.page_setPage, if_pos rfl]

theorem Dev.page_raise_of_ne (d : Dev) {p q : Nat} (b s c : Nat) (x y : Word) (h : q ≠ p) : (d.raise p b s c x y).page q = d.page q :=
  (Dev.page_report _ _ _).trans (d.page_event_of_ne b h)

theorem Dev.raise_bit (d : Dev) (p b s c : Nat) (x y : Word) (hb : b < 48) : ((d.raise p b s c x y).page p).event.getLsbD b = true := by
  rw [Dev.raise, Dev.page_report]
  exact d.event_bit p b hb

/-- An event clears no bit. -/
theorem Dev.event_keeps_bit (d : Dev) (p b q k : Nat) (h : (d.page q).event.getLsbD k = true) : ((d.event p b).page q).event.getLsbD k = true := by
  by_cases hq : q = p
  · subst hq
    unfold Dev.event
    dsimp only
    have hor : ((d.page q).event ||| BitVec.ofNat 48 (2 ^ b)).getLsbD k = true := by rw [BitVec.getLsbD_or, h, Bool.true_or]
    split
    · exact h
    · split
      · rw [Dev.page_setPage, if_pos rfl]; exact hor
      · rw [Dev.page_msix, Dev.page_setPage, if_pos rfl]; exact hor
  · rw [d.page_event_of_ne b hq]; exact h

theorem Dev.counter_event (d : Dev) (p b q o : Nat) : (d.event p b).counter q o = d.counter q o := by
  unfold Dev.event Dev.msix
  dsimp only
  repeat' split
  all_goals rfl

/-- A report counts on the ERRLOG page alone. -/
theorem Dev.counter_report (d : Dev) (r : Report) {q o : Nat} (hq : q ≠ pgErrlog) (ho : o < 4096) : (d.report r).counter q o = d.counter q o := by
  have hfreeze : ∀ (x : Dev) (a b c e : Nat), (x.freeze a b c e).counter q o = x.counter q o := by
    intro x a b c e
    unfold Dev.freeze
    split <;> rfl
  have hone : (d.inc pgErrlog 0x090).counter q o = d.counter q o := d.counter_inc_of_ne ho (by omega) hq
  have htwo : ((d.inc pgErrlog 0x090).inc pgErrlog 0x098).counter q o = d.counter q o := (Dev.counter_inc_of_ne _ ho (by omega) hq).trans hone
  unfold Dev.report
  dsimp only
  split
  · rw [hfreeze]
    split
    · exact htwo
    · exact hone
  · split
    · exact htwo
    · exact hone

theorem Dev.counter_raise (d : Dev) (p b s c : Nat) (x y : Word) {q o : Nat} (hq : q ≠ pgErrlog) (ho : o < 4096) :
    (d.raise p b s c x y).counter q o = d.counter q o := by
  rw [Dev.raise, Dev.counter_report _ _ hq ho, Dev.counter_event]

theorem Dev.counter_inc_same (d : Dev) (p o : Nat) : (d.inc p o).counter p o = d.counter p o + 1 := by
  rw [Dev.inc, Dev.counter_bump, if_pos rfl]
  rfl

end Sys2Proof.Machine
end

section
/-! A port follows its lanes (R619): every lane command either moves no lane into or out of LINK_UP, or reckons the link of the lanes' unit again. -/

namespace Sys2Proof.Machine
open Sys2Proof

variable {d e f : Dev} {u : Nat}

/-! ### Lanes and links read past a change -/

theorem Dev.lane_congr (h : e.lanes.lanes = d.lanes.lanes) (l : Nat) : e.lane l = d.lane l := by rw [Dev.lane, h, Dev.lane]
theorem Dev.plink_congr (h : e.lanes.links = d.lanes.links) (u : Nat) : e.plink u = d.plink u := by rw [Dev.plink, h, Dev.plink]

@[simp] theorem Dev.plink_onPlink (d : Dev) (u v : Nat) (g : PortLink → PortLink) : (d.onPlink u g).plink v = if v = u then g (d.plink u) else d.plink v := by
  simp [Dev.plink, Dev.onPlink]
@[simp] theorem Dev.lane_onPlink (d : Dev) (u l : Nat) (g : PortLink → PortLink) : (d.onPlink u g).lane l = d.lane l := rfl
@[simp] theorem Dev.reg_onPlink (d : Dev) (u : Nat) (g : PortLink → PortLink) (p o : Nat) : (d.onPlink u g).reg p o = d.reg p o := rfl
@[simp] theorem Dev.now_onPlink (d : Dev) (u : Nat) (g : PortLink → PortLink) : (d.onPlink u g).now = d.now := rfl
@[simp] theorem Dev.plink_setLane (d : Dev) (l v : Nat) (x : Lane) : (d.setLane l x).plink v = d.plink v := rfl
@[simp] theorem Dev.plink_onLane (d : Dev) (l v : Nat) (g : Lane → Lane) : (d.onLane l g).plink v = d.plink v := rfl
@[simp] theorem Dev.reg_setLane (d : Dev) (l : Nat) (x : Lane) (p o : Nat) : (d.setLane l x).reg p o = d.reg p o := rfl
@[simp] theorem Dev.reg_onLane (d : Dev) (l : Nat) (g : Lane → Lane) (p o : Nat) : (d.onLane l g).reg p o = d.reg p o := rfl
@[simp] theorem Dev.now_setLane (d : Dev) (l : Nat) (x : Lane) : (d.setLane l x).now = d.now := rfl
@[simp] theorem Dev.now_onLane (d : Dev) (l : Nat) (g : Lane → Lane) : (d.onLane l g).now = d.now := rfl
@[simp] theorem Dev.page_setLane (d : Dev) (l : Nat) (x : Lane) (p : Nat) : (d.setLane l x).page p = d.page p := rfl
@[simp] theorem Dev.page_onLane (d : Dev) (l : Nat) (g : Lane → Lane) (p : Nat) : (d.onLane l g).page p = d.page p := rfl
@[simp] theorem Dev.lane_setReg (d : Dev) (p o l : Nat) (v : Word) : (d.setReg p o v).lane l = d.lane l := rfl
@[simp] theorem Dev.lane_bump (d : Dev) (p o n l : Nat) : (d.bump p o n).lane l = d.lane l := rfl
@[simp] theorem Dev.lane_inc (d : Dev) (p o l : Nat) : (d.inc p o).lane l = d.lane l := rfl
@[simp] theorem Dev.lane_emit (d : Dev) (o : Output) (l : Nat) : (d.emit o).lane l = d.lane l := rfl
@[simp] theorem Dev.plink_setReg (d : Dev) (p o u : Nat) (v : Word) : (d.setReg p o v).plink u = d.plink u := rfl
@[simp] theorem Dev.plink_bump (d : Dev) (p o n u : Nat) : (d.bump p o n).plink u = d.plink u := rfl
@[simp] theorem Dev.plink_inc (d : Dev) (p o u : Nat) : (d.inc p o).plink u = d.plink u := rfl
@[simp] theorem Dev.plink_emit (d : Dev) (o : Output) (u : Nat) : (d.emit o).plink u = d.plink u := rfl
@[simp] theorem Dev.plink_tickFree (d : Dev) (u : Nat) : d.tickFree.plink u = d.plink u := rfl
@[simp] theorem Dev.lane_tickFree (d : Dev) (l : Nat) : d.tickFree.lane l = d.lane l := rfl

theorem Dev.laneEvent_noted (d : Dev) (l k : Nat) (t : Train) (x : Word) : d.Noted (d.laneEvent l k t x) := d.raise_noted _ _ _ _ _ _
@[simp] theorem Dev.lanes_laneEvent (d : Dev) (l k : Nat) (t : Train) (x : Word) : (d.laneEvent l k t x).lanes = d.lanes := (d.laneEvent_noted l k t x).lanes
@[simp] theorem Dev.lane_laneEvent (d : Dev) (l k : Nat) (t : Train) (x : Word) (j : Nat) : (d.laneEvent l k t x).lane j = d.lane j := by
  simp [Dev.lane]
@[simp] theorem Dev.plink_laneEvent (d : Dev) (l k : Nat) (t : Train) (x : Word) (u : Nat) : (d.laneEvent l k t x).plink u = d.plink u := by
  simp [Dev.plink]
@[simp] theorem Dev.reg_laneEvent (d : Dev) (l k : Nat) (t : Train) (x : Word) (p o : Nat) : (d.laneEvent l k t x).reg p o = d.reg p o :=
  (d.laneEvent_noted l k t x).reg p o
@[simp] theorem Dev.now_laneEvent (d : Dev) (l k : Nat) (t : Train) (x : Word) : (d.laneEvent l k t x).now = d.now := (d.laneEvent_noted l k t x).now
@[simp] theorem Dev.lane_raise (d : Dev) (p b s c : Nat) (x y : Word) (l : Nat) : (d.raise p b s c x y).lane l = d.lane l := by simp [Dev.lane]
@[simp] theorem Dev.plink_raise (d : Dev) (p b s c : Nat) (x y : Word) (u : Nat) : (d.raise p b s c x y).plink u = d.plink u := by simp [Dev.plink]
@[simp] theorem Dev.lane_report (d : Dev) (r : Report) (l : Nat) : (d.report r).lane l = d.lane l := by simp [Dev.lane]
@[simp] theorem Dev.plink_report (d : Dev) (r : Report) (u : Nat) : (d.report r).plink u = d.plink u := by simp [Dev.plink]

/-! ### The link of a unit -/

/-- Every lane of the unit is in LINK_UP. -/
def Dev.allUp (d : Dev) (u : Nat) : Bool := (lanesOf u).all (fun l => decide ((d.lane l).train = .linkUp))

@[simp] theorem Dev.lane_tellFault (d : Dev) (u l : Nat) : (d.tellFault u).lane l = d.lane l := by
  unfold Dev.tellFault
  split <;> rfl

@[simp] theorem Dev.up_tellFault (d : Dev) (u v : Nat) : ((d.tellFault u).plink v).up = (d.plink v).up := by
  unfold Dev.tellFault
  split
  · rfl
  · rw [Dev.plink_emit, Dev.plink_onPlink]
    split
    · next h => rw [h]
    · rfl

@[simp] theorem Dev.reg_tellFault (d : Dev) (u p o : Nat) : (d.tellFault u).reg p o = d.reg p o := by
  unfold Dev.tellFault
  split <;> rfl

@[simp] theorem Dev.lane_plinkUpdate (d : Dev) (u l : Nat) : (d.plinkUpdate u).lane l = d.lane l := by
  unfold Dev.plinkUpdate
  dsimp only
  repeat' split
  all_goals simp

@[simp] theorem Dev.reg_plinkUpdate (d : Dev) (u p o : Nat) : (d.plinkUpdate u).reg p o = d.reg p o := by
  unfold Dev.plinkUpdate
  dsimp only
  repeat' split
  all_goals simp

/-- UP of a unit follows from its lanes, and no other link changes (R619). -/
theorem Dev.up_plinkUpdate (d : Dev) (u v : Nat) : ((d.plinkUpdate u).plink v).up = if v = u then d.allUp u else (d.plink v).up := by
  by_cases hv : v = u
  · subst hv
    unfold Dev.plinkUpdate Dev.allUp
    dsimp only
    split
    · next h => rw [if_pos rfl, h]
    · rw [if_pos rfl]
      repeat' split
      all_goals simp
  · rw [if_neg hv]
    unfold Dev.plinkUpdate
    dsimp only
    repeat' split
    all_goals simp [hv]

theorem Dev.allUp_congr (h : ∀ l, l ∈ lanesOf u → ((e.lane l).train = .linkUp ↔ (d.lane l).train = .linkUp)) : e.allUp u = d.allUp u := by
  unfold Dev.allUp
  rw [Bool.eq_iff_iff, List.all_eq_true, List.all_eq_true]
  exact forall₂_congr fun l hl => by rw [decide_eq_true_iff, decide_eq_true_iff, h l hl]

theorem Dev.allUp_false {l : Nat} (hl : l ∈ lanesOf u) (h : (d.lane l).train ≠ .linkUp) : d.allUp u = false :=
  List.all_eq_false.2 ⟨l, hl, by simpa using h⟩

/-- The lanes of two units are apart. -/
theorem unitOf_of_mem_lanesOf {l : Nat} (h : l ∈ lanesOf u) : unitOf l = u := by
  unfold lanesOf at h
  unfold unitOf
  split at h
  · obtain ⟨i, hi, rfl⟩ := List.mem_map.1 h
    rw [List.mem_range] at hi
    rw [if_pos (by omega)]
    omega
  · split at h
    · next h8 =>
      obtain ⟨i, hi, rfl⟩ := List.mem_map.1 h
      rw [if_neg (by omega), h8]
    · cases h

theorem mem_lanesOf_unitOf {l : Nat} (h : l < 40) : l ∈ lanesOf (unitOf l) := by
  unfold unitOf lanesOf
  by_cases h32 : l < 32
  · simp only [h32, if_true, if_pos (show l / 4 < 8 by omega), List.mem_map, List.mem_range]
    exact ⟨l % 4, by omega, by omega⟩
  · simp only [h32, if_false, show ¬ (8 < 8) by omega, if_true, List.mem_map, List.mem_range]
    exact ⟨l - 32, by omega, by omega⟩

theorem unitOf_le (l : Nat) : unitOf l ≤ 8 := by
  unfold unitOf
  split <;> omega

/-! ### What keeps the rule -/

/-- No lane enters or leaves LINK_UP but those of unit `u`, and no link but its own changes UP. -/
def Dev.UpBut (d : Dev) (u : Nat) (e : Dev) : Prop :=
  (∀ l, unitOf l ≠ u → ((e.lane l).train = .linkUp ↔ (d.lane l).train = .linkUp)) ∧ ∀ v, v ≠ u → (e.plink v).up = (d.plink v).up

/-- No lane enters or leaves LINK_UP, and no link changes UP. -/
def Dev.SameUp (d e : Dev) : Prop :=
  (∀ l, (e.lane l).train = .linkUp ↔ (d.lane l).train = .linkUp) ∧ ∀ v, (e.plink v).up = (d.plink v).up

theorem Dev.SameUp.refl (d : Dev) : d.SameUp d := ⟨fun _ => .rfl, fun _ => rfl⟩
theorem Dev.SameUp.trans (h : d.SameUp e) (k : e.SameUp f) : d.SameUp f := ⟨fun l => (k.1 l).trans (h.1 l), fun v => (k.2 v).trans (h.2 v)⟩
theorem Dev.SameUp.ite {c : Prop} [Decidable c] (h : d.SameUp e) (k : d.SameUp f) : d.SameUp (if c then e else f) := by
  split
  · exact h
  · exact k
theorem Dev.SameUp.but (h : d.SameUp e) : d.UpBut u e := ⟨fun l _ => h.1 l, fun v _ => h.2 v⟩
theorem Dev.UpBut.refl (d : Dev) (u : Nat) : d.UpBut u d := (SameUp.refl d).but
theorem Dev.UpBut.trans (h : d.UpBut u e) (k : e.UpBut u f) : d.UpBut u f :=
  ⟨fun l hl => (k.1 l hl).trans (h.1 l hl), fun v hv => (k.2 v hv).trans (h.2 v hv)⟩

theorem Dev.SameUp.of_lanes (h : e.lanes = d.lanes) : d.SameUp e :=
  ⟨fun l => by rw [Dev.lane_congr (congrArg Lanes.lanes h)], fun v => by rw [Dev.plink_congr (congrArg Lanes.links h)]⟩
theorem Dev.Noted.sameUp (h : d.Noted e) : d.SameUp e := .of_lanes h.lanes

theorem Dev.SameUp.setReg (h : d.SameUp e) (p o : Nat) (v : Word) : d.SameUp (e.setReg p o v) := h.trans (.of_lanes rfl)
theorem Dev.SameUp.inc (h : d.SameUp e) (p o : Nat) : d.SameUp (e.inc p o) := h.trans (.of_lanes rfl)
theorem Dev.SameUp.bump (h : d.SameUp e) (p o n : Nat) : d.SameUp (e.bump p o n) := h.trans (.of_lanes rfl)
theorem Dev.SameUp.emit (h : d.SameUp e) (o : Output) : d.SameUp (e.emit o) := h.trans (.of_lanes rfl)
theorem Dev.SameUp.raise (h : d.SameUp e) (p b s c : Nat) (x y : Word) : d.SameUp (e.raise p b s c x y) := h.trans (e.raise_noted p b s c x y).sameUp
theorem Dev.SameUp.laneEvent (h : d.SameUp e) (l k : Nat) (t : Train) (x : Word) : d.SameUp (e.laneEvent l k t x) := h.raise _ _ _ _ _ _
theorem Dev.sameUp_foldl {α : Type} (g : Dev → α → Dev) (hg : ∀ (e : Dev) (x : α), e.SameUp (g e x)) (l : List α) (h : d.SameUp e) :
    d.SameUp (l.foldl g e) := by
  induction l generalizing e with
  | nil => exact h
  | cons x t ih => exact ih (h.trans (hg e x))

/-- A lane that is out of LINK_UP before and after, or in it. -/
theorem Dev.SameUp.setLane (h : d.SameUp e) {l : Nat} {x : Lane} (hx : x.train = .linkUp ↔ (e.lane l).train = .linkUp) : d.SameUp (e.setLane l x) :=
  h.trans ⟨fun k => by
    rw [Dev.lane_setLane]
    split
    · next hk => rw [hk, hx]
    · rfl, fun _ => rfl⟩

theorem Dev.SameUp.onPlink (h : d.SameUp e) {v : Nat} {g : PortLink → PortLink} (hg : ∀ x, (g x).up = x.up) : d.SameUp (e.onPlink v g) :=
  h.trans ⟨fun _ => .rfl, fun w => by
    rw [Dev.plink_onPlink]
    split
    · next hw => rw [hw, hg]
    · rfl⟩

/-- A lane of the unit changes, as it may. -/
theorem Dev.upBut_onLane (d : Dev) {l : Nat} (hl : unitOf l = u) (g : Lane → Lane) : d.UpBut u (d.onLane l g) :=
  ⟨fun k hk => by
    rw [Dev.lane_onLane, if_neg (by rintro rfl; exact hk hl)], fun _ _ => rfl⟩

theorem Dev.upBut_foldl {α : Type} (g : Dev → α → Dev) (l : List α) (h : ∀ (d : Dev) (x : α), x ∈ l → d.UpBut u (g d x)) (d : Dev) : d.UpBut u (l.foldl g d) := by
  induction l generalizing d with
  | nil => exact .refl d u
  | cons x t ih => exact (h d x List.mem_cons_self).trans (ih (fun d y hy => h d y (List.mem_cons_of_mem _ hy)) _)

theorem LinkFollows.same (hd : LinkFollows d) (h : d.SameUp e) : LinkFollows e := fun v hv =>
  (h.2 v).trans ((hd v hv).trans (Dev.allUp_congr fun l _ => h.1 l).symm)

/-- The unit whose lanes have moved is reckoned again. -/
theorem LinkFollows.update (hd : LinkFollows d) (h : d.UpBut u e) : LinkFollows (e.plinkUpdate u) := fun v hv => by
  have hlanes : (e.plinkUpdate u).allUp v = e.allUp v := Dev.allUp_congr fun l _ => by rw [Dev.lane_plinkUpdate]
  change _ = (e.plinkUpdate u).allUp v
  rw [Dev.up_plinkUpdate, hlanes]
  split
  · next hvu => rw [hvu]
  · next hvu =>
    rw [h.2 v hvu, hd v hv]
    exact (Dev.allUp_congr fun l hl => h.1 l (by rw [unitOf_of_mem_lanesOf hl]; exact hvu)).symm

/-! ### The commands -/

theorem Dev.upBut_othersWait (d : Dev) (u : Nat) : d.UpBut u (d.othersWait u) := by
  refine Dev.upBut_foldl _ _ (fun e l hl => ?_) d
  split
  · exact (e.upBut_onLane (unitOf_of_mem_lanesOf hl) _).trans (Dev.laneEvent_noted _ _ _ _ _).sameUp.but
  · exact .refl e u

theorem LinkFollows.moveLane (hd : LinkFollows d) (l : Nat) (g : Lane → Lane) (cause : Word) (hg : ∀ x, (g x).train ≠ .linkUp) :
    LinkFollows (d.moveLane l g cause) := by
  unfold Dev.moveLane
  dsimp only
  split
  · exact hd.update (((d.upBut_onLane rfl g).trans (Dev.laneEvent_noted _ _ _ _ _).sameUp.but).trans (Dev.upBut_othersWait _ _))
  · next hmoved =>
    have hnew : ((d.onLane l g).lane l).train ≠ .linkUp := by
      rw [Dev.lane_onLane, if_pos rfl]
      exact hg _
    exact hd.same ((Dev.SameUp.refl d).setLane (iff_of_false (hg _) fun h => hmoved ⟨h, hnew⟩))

/-- A try that fails leaves a lane out of LINK_UP. -/
theorem Dev.failTry_sameUp {l : Nat} (h : (d.lane l).train ≠ .linkUp) : d.SameUp (d.failTry l) := by
  have hset : ∀ x : Lane, x.train ≠ .linkUp → d.SameUp ((d.inc (pgQuad (l / 4)) (laneCtr l 0x120)).setLane l x) := fun x hx =>
    (d.inc_noted _ _).sameUp.setLane (iff_of_false hx h)
  unfold Dev.failTry
  dsimp only
  split
  · exact hset _ (by simp [Lane.enter])
  · split
    · exact (hset _ (by simp [Lane.enter])).trans (Dev.laneEvent_noted _ _ _ _ _).sameUp
    · exact hset _ (by simp [Lane.enter])

theorem Dev.failTries_sameUp (ls : List Nat) (d : Dev) (h : ∀ l, l ∈ ls → (d.lane l).train ≠ .linkUp) : d.SameUp (ls.foldl (fun d l => d.failTry l) d) := by
  induction ls generalizing d with
  | nil => exact .refl d
  | cons l ls ih =>
    have hl := d.failTry_sameUp (h l List.mem_cons_self)
    exact hl.trans (ih _ fun k hk => by rw [Ne, hl.1 k]; exact h k (List.mem_cons_of_mem _ hk))

theorem Lane.waitsCdr_train {x : Lane} (h : x.waitsCdr = true) : x.train = .cdrWait := by
  simp only [Lane.waitsCdr, Bool.and_eq_true, decide_eq_true_eq] at h
  exact h.1

theorem Dev.signalDetect_sameUp (d : Dev) (l : Nat) : d.SameUp (d.signalDetect l) := by
  unfold Dev.signalDetect
  refine Dev.SameUp.ite (.refl d) ?_
  dsimp only
  have hs : d.SameUp (d.onLane l fun x => { x with signal := true }) := (Dev.SameUp.refl d).setLane .rfl
  generalize (d.onLane l fun x => { x with signal := true }) = e at hs ⊢
  have hw : d.SameUp (if (e.rxPwr l == 1 && bit (e.laneCfg l) 4) = true
      then e.setReg (pgQuad (l / 4)) (0x100 + 0x40 * (l % 4)) (setFld (e.laneCfg l) 2 2 2) else e) := (hs.setReg _ _ _).ite hs
  generalize (if (e.rxPwr l == 1 && bit (e.laneCfg l) 4) = true
      then e.setReg (pgQuad (l / 4)) (0x100 + 0x40 * (l % 4)) (setFld (e.laneCfg l) 2 2 2) else e) = f at hw ⊢
  split
  · next h => exact hw.setLane (iff_of_false (by simp [Lane.startTry, Lane.enter]) (by rw [h.1]; decide))
  · exact hw

theorem LinkFollows.signalLoss (hd : LinkFollows d) (l : Nat) : LinkFollows (d.signalLoss l) := by
  have hs : LinkFollows (d.onLane l fun x => { x with signal := false }) := hd.same ((Dev.SameUp.refl d).setLane .rfl)
  unfold Dev.signalLoss
  dsimp only
  split
  · exact hd
  · split
    · exact hs.moveLane _ _ _ fun x => by simp [Lane.enter]
    · exact hs

theorem Dev.cdrLock_sameUp (d : Dev) (l : Nat) : d.SameUp (d.cdrLock l) := by
  unfold Dev.cdrLock
  split
  · next h => exact (Dev.SameUp.refl d).setLane (iff_of_false (by simp) (by rw [Lane.waitsCdr_train h.2]; decide))
  · exact .refl d

theorem Dev.cdrTimeout_sameUp (d : Dev) (l : Nat) : d.SameUp (d.cdrTimeout l) := by
  unfold Dev.cdrTimeout
  split
  · next h => exact Dev.failTry_sameUp (by rw [Lane.waitsCdr_train h.2.1]; decide)
  · exact .refl d

theorem Dev.commaDetect_sameUp (d : Dev) (l k : Nat) (err : Bool) : d.SameUp (d.commaDetect l k err) := by
  unfold Dev.commaDetect
  refine Dev.SameUp.ite (.refl d) ?_
  have hd : d.SameUp (if err = true then d.inc (pgQuad (l / 4)) (laneCtr l 0x118) else d) := (d.inc_noted _ _).sameUp.ite (.refl d)
  dsimp only
  generalize (if err = true then d.inc (pgQuad (l / 4)) (laneCtr l 0x118) else d) = e at hd ⊢
  split
  · exact hd
  · next hs =>
    have hout : (e.lane l).train ≠ .linkUp := by rw [not_not.1 hs]; decide
    split
    · exact Dev.SameUp.ite (hd.setLane (iff_of_false (by simp) hout)) (hd.setLane .rfl)
    · have hb := (hd.trans (e.bump_noted (pgQuad (l / 4)) (laneCtr l 0x128) (min k (10 - (e.lane l).slips))).sameUp).setLane (l := l)
        (x := { e.lane l with comma := true, run := 0, slips := (e.lane l).slips + min k (10 - (e.lane l).slips) }) .rfl
      exact Dev.SameUp.ite (hb.trans (Dev.failTry_sameUp (by rw [Ne, hb.1, ← hd.1]; exact hout))) hb

theorem Dev.commaTimeout_sameUp (d : Dev) (l : Nat) : d.SameUp (d.commaTimeout l) := by
  unfold Dev.commaTimeout
  dsimp only
  split
  · next h => exact Dev.failTry_sameUp (by rw [h.2.1]; decide)
  · exact .refl d

theorem LinkFollows.deskewDone (hd : LinkFollows d) (u : Nat) (skews : List Nat) : LinkFollows (d.deskewDone u skews) := by
  unfold Dev.deskewDone
  split
  · refine hd.update (Dev.upBut_foldl _ _ (fun e i hi => ?_) d)
    have hl : nthD 0 (lanesOf u) i ∈ lanesOf u := by
      rw [nthD, List.getElem?_eq_getElem (List.mem_range.1 hi)]
      exact List.getElem_mem _
    exact (e.upBut_onLane (unitOf_of_mem_lanesOf hl) _).trans (Dev.laneEvent_noted _ _ _ _ _).sameUp.but
  · exact hd

theorem Dev.deskewTimeout_sameUp (d : Dev) (u : Nat) : d.SameUp (d.deskewTimeout u) := by
  unfold Dev.deskewTimeout
  split
  · next h =>
    refine Dev.failTries_sameUp _ _ fun l hl => ?_
    have hw := List.all_eq_true.1 h.2.1 l hl
    rw [of_decide_eq_true hw]
    decide
  · exact .refl d

theorem Dev.tryRetry_sameUp (d : Dev) (l : Nat) : d.SameUp (d.tryRetry l) := by
  unfold Dev.tryRetry
  split
  · split
    · next h => exact (Dev.SameUp.refl d).setLane (iff_of_false (by simp [Lane.startTry, Lane.enter]) (by rw [h.2.1]; decide))
    · exact .refl d
  · exact .refl d

theorem Dev.noPartnerRetry_sameUp (d : Dev) (l : Nat) : d.SameUp (d.noPartnerRetry l) := by
  unfold Dev.noPartnerRetry
  split
  · next h => exact (Dev.SameUp.refl d).setLane (iff_of_false (by simp [Lane.startTry, Lane.enter]) (by rw [h.2.1]; decide))
  · exact .refl d

theorem LinkFollows.syncLoss (hd : LinkFollows d) (l : Nat) : LinkFollows (d.syncLoss l) := by
  unfold Dev.syncLoss
  split
  · exact hd.moveLane _ _ _ fun x => by simp [Lane.startTry, Lane.enter]
  · exact hd

theorem LinkFollows.skewLoss (hd : LinkFollows d) (u : Nat) : LinkFollows (d.skewLoss u) := by
  unfold Dev.skewLoss
  split
  · exact hd.update (Dev.upBut_foldl _ _ (fun e l hl => (e.upBut_onLane (unitOf_of_mem_lanesOf hl) _).trans (Dev.laneEvent_noted _ _ _ _ _).sameUp.but) d)
  · exact hd

theorem Dev.prbsSent_sameUp (d : Dev) (l n : Nat) : d.SameUp (d.prbsSent l n).1 := (Dev.SameUp.refl d).setLane .rfl

theorem Dev.prbsBits_sameUp (d : Dev) (l : Nat) (bits : List Bool) : d.SameUp (d.prbsBits l bits) := by
  unfold Dev.prbsBits
  refine Dev.SameUp.ite (.refl d) ?_
  dsimp only
  generalize hg : (if fld (d.laneCfg l) 5 2 = 3 then (d, bits.map fun b => b != bit (d.laneCfg l) 9) else if fld (d.prbsCfg l) 0 3 = 0 then (d, [])
    else d.prbsSent l (bits.map fun b => b != bit (d.laneCfg l) 9).length) = g
  have hsent : d.SameUp g.1 := by
    rw [← hg]
    split
    · exact .refl d
    · split
      · exact .refl d
      · exact d.prbsSent_sameUp _ _
  have hout : d.SameUp (if g.2.isEmpty = true then g.1 else g.1.emit (.serial l (g.2.map fun b => b != bit (d.laneCfg l) 8))) := hsent.ite (hsent.emit _)
  refine Dev.SameUp.ite hout (Dev.sameUp_foldl _ (fun e _ => (Dev.SameUp.refl e).laneEvent _ _ _ _) _ (Dev.SameUp.bump (Dev.SameUp.bump ?_ _ _ _) _ _ _))
  exact hout.setLane .rfl

theorem Dev.elasticAdjust_sameUp (d : Dev) (p : Nat) : d.SameUp (d.elasticAdjust p) := by
  unfold Dev.elasticAdjust
  dsimp only
  have hinc : d.SameUp (d.inc (pgPort p) 0x0D8) := (Dev.SameUp.refl d).inc _ _
  refine Dev.SameUp.ite (.refl d) (Dev.SameUp.ite ((Dev.SameUp.refl d).inc _ _) (Dev.SameUp.ite (Dev.SameUp.raise ?_ _ _ _ _ _ _) ?_))
  · exact hinc.onPlink fun _ => rfl
  · exact hinc.onPlink fun _ => rfl

theorem Dev.remoteFault_sameUp (d : Dev) (p : Nat) : d.SameUp (d.remoteFault p) := by
  unfold Dev.remoteFault
  refine Dev.SameUp.ite (.refl d) (Dev.SameUp.raise (Dev.SameUp.inc ?_ _ _) _ _ _ _ _ _)
  exact (Dev.SameUp.refl d).onPlink fun _ => rfl

theorem Dev.remoteFaultClear_sameUp (d : Dev) (p : Nat) : d.SameUp (d.remoteFaultClear p) := Dev.SameUp.ite (.refl d) ((Dev.SameUp.refl d).onPlink fun _ => rfl)

end Sys2Proof.Machine
end

section
/-! LANE_RETRAIN, whose command is processed as any other is (R87), and O42. -/

namespace Sys2Proof.Machine
open Sys2Proof

variable {d e f : Dev} {s : State} {o : OpSpec} {P : Dev → Prop}

/-! ### A property of the unit that a processed command keeps -/

/-- What the taking, the answering and the relaying of a command keep. -/
structure CommandProof (P : Dev → Prop) : Prop where
  posted : ∀ {d e : Dev}, d.Posted e → P d → P e
  held : ∀ {d : Dev} (a : Accepted), P d → P (d.holdCommand a)
  relayed : ∀ {d : Dev} (n : Nat) (c : HostCmd) (t : Time) (l : List Byte), P d → P (d.sendCommand n c t l)

theorem CommandProof.answer (hP : CommandProof P) (k : Token) (late : Bool) (r : State × Reply) (h : P r.1.dev) : P (answer k late r).dev := by
  obtain ⟨s, st | _⟩ := r
  · dsimp only [Machine.answer, State.onDev]
    split
    · exact hP.posted (s.dev.complete_posted _ _ _ _) h
    · exact hP.posted (s.dev.refuse_posted _ _ _) h
  · exact hP.posted (Dev.waits_told _ _).posted h

theorem CommandProof.perform (hP : CommandProof P) (k : Token) (late : Bool) (l : Option (List Byte)) (h : P s.dev)
    (hrej : ∀ c st d, P d → P (o.rejected c st d)) (hrun : ∀ l s, P s.dev → P (o.run k.cmd l k s).1.dev) : P (o.perform k late l s).dev := by
  unfold OpSpec.perform
  split
  · exact hP.posted (Dev.refuse_posted _ _ _ _) (hrej _ _ _ h)
  · exact hP.answer k late _ (hrun _ s h)

/-- A command taken on is relayed, and carried out or held; no restart here. -/
theorem CommandProof.takeOn (hP : CommandProof P) (k : Token) (l : List Byte) (h : P s.dev) (hrej : ∀ c st d, P d → P (o.rejected c st d))
    (hop : ¬ (k.opcode = 0x0E04 ∨ k.opcode = 0x0E06)) (hrun : ∀ l s, P s.dev → P (o.run k.cmd l k s).1.dev) : P (s.takeOn o k l).dev := by
  unfold State.takeOn
  dsimp only
  have hsent : P (if (s.dev.joined && !staysHere k) = true then s.onDev (fun d => d.sendCommand k.opcode k.cmd d.now l) else s).dev := by
    split
    · exact hP.relayed _ _ _ _ h
    · exact h
  generalize (if (s.dev.joined && !staysHere k) = true then s.onDev (fun d => d.sendCommand k.opcode k.cmd d.now l) else s) = s' at hsent ⊢
  split
  · exact hP.perform _ _ _ hsent hrej hrun
  · rw [if_neg fun hb => hop hb.1]
    exact hP.held _ hsent

/-- A command's row keeps what the taking of a command keeps and its own effect keeps. -/
theorem CommandProof.runCmd (hP : CommandProof P) (c : HostCmd) (h : P s.dev) (hrej : ∀ c st d, P d → P (o.rejected c st d))
    (hop : ¬ (o.opcode = 0x0E04 ∨ o.opcode = 0x0E06)) (hrun : ∀ l k s, P s.dev → P (o.run c l k s).1.dev) : P (runCmd o c s).dev := by
  unfold Machine.runCmd
  cases hready : s.ready
  · rw [State.actAllReady_not _ hready]
    exact h
  · rw [State.actAllReady_ready _ hready]
    unfold State.process
    dsimp only
    split
    · exact hP.posted (Dev.refuse_posted _ _ _ _) (hrej _ _ _ h)
    · exact hP.takeOn (o.token c s) _ h hrej hop fun l s => hrun l _ s

/-! ### The Mirror Link's frames and the links -/

theorem Dev.emitLink_sameUp (d : Dev) (x : LinkFrame) : d.SameUp (d.emitLink x) := by
  refine Dev.SameUp.emit ?_ _
  exact (Dev.SameUp.refl d).onPlink fun _ => rfl

theorem Dev.linkNext_sameUp (d : Dev) : d.SameUp d.linkNext := by
  unfold Dev.linkNext
  split
  · exact .refl d
  · split
    · exact .refl d
    · next f _ _ _ =>
      exact (d.emitLink_sameUp { f with seq := d.pair.txSeq }).trans (.of_lanes rfl)

theorem Dev.linkPump_sameUp (d : Dev) : d.SameUp d.linkPump := Dev.sameUp_foldl _ (fun e _ => e.linkNext_sameUp) _ (.refl d)

theorem Dev.linkSendAt_sameUp (d : Dev) (n : Nat) (p : Option Time) (l : List Byte) : d.SameUp (d.linkSendAt n p l) := by
  unfold Dev.linkSendAt
  refine Dev.SameUp.ite (.refl d) (Dev.SameUp.trans ?_ (Dev.linkPump_sameUp _))
  exact .of_lanes rfl

theorem commandProof_linkFollows : CommandProof LinkFollows where
  posted h hd := hd.same (.of_lanes (by rw [h]))
  held _ hd := hd.same (.of_lanes rfl)
  relayed n c t l hd := hd.same (Dev.linkSendAt_sameUp _ _ _ _)

/-- The lanes named start over, and the port follows them. -/
theorem LinkFollows.laneRetrain (hd : LinkFollows d) (c : HostCmd) (l : List Byte) (k : Token) :
    LinkFollows (laneRetrainSpec.run c l k (s.setDev d)).1.dev := by
  refine LinkFollows.update (d := d.tickFree) (hd.same (.of_lanes rfl)) ?_
  refine Dev.upBut_foldl _ _ (fun e i hi => ?_) d.tickFree
  have hl : nthD 0 (lanesOf (unitOf (c.arg 0 1))) i ∈ lanesOf (unitOf (c.arg 0 1)) := by
    rw [nthD, List.getElem?_eq_getElem (List.mem_range.1 (List.mem_filter.1 hi).1)]
    exact List.getElem_mem _
  have hmove := e.upBut_onLane (unitOf_of_mem_lanesOf hl) fun x => { x.startTry e.now false with tries := 0 }
  dsimp only
  split
  · exact hmove.trans (Dev.laneEvent_noted _ _ _ _ _).sameUp.but
  · exact hmove

theorem linkFollows_reset : LinkFollows State.reset.dev := by
  unfold LinkFollows
  decide

theorem LinkFollows.act (hs : LinkFollows s.dev) (g : Dev → Dev) (hg : ∀ d, LinkFollows d → LinkFollows (g d)) : LinkFollows (s.act g).dev := by
  cases hup : s.up
  · rw [State.act_down g hup]
    exact hs
  · rw [State.act_up g hup]
    exact hg _ hs

/-- Settles O42: a lane enters or leaves LINK_UP only where its unit's link is reckoned again. -/
theorem linkFollowsLanes : Obligations.LinkFollowsLanes := by
  unfold Obligations.LinkFollowsLanes
  refine ⟨linkFollows_reset, fun s t l n bits skews err c hs hrow => ?_⟩
  have hsame : ∀ (g : Dev → Dev), (∀ d : Dev, d.SameUp (g d)) → LinkFollows (s.act g).dev := fun g hg => hs.act g fun d hd => hd.same (hg d)
  rcases hrow with h | h | h | h | h | h | h | h | h | h | h | h | h | h | h | h | h | h <;> cases h
  · exact hsame _ fun d => d.signalDetect_sameUp l
  · exact hs.act _ fun d hd => hd.signalLoss l
  · exact hsame _ fun d => d.cdrLock_sameUp l
  · exact hsame _ fun d => d.cdrTimeout_sameUp l
  · exact hsame _ fun d => d.commaDetect_sameUp l n err
  · exact hsame _ fun d => d.commaTimeout_sameUp l
  · exact hs.act _ fun d hd => hd.deskewDone n skews
  · exact hsame _ fun d => d.deskewTimeout_sameUp n
  · exact hsame _ fun d => d.tryRetry_sameUp l
  · exact hsame _ fun d => d.noPartnerRetry_sameUp l
  · exact hs.act _ fun d hd => hd.syncLoss l
  · exact hs.act _ fun d hd => hd.skewLoss n
  · exact commandProof_linkFollows.runCmd c hs (fun _ _ _ hd => hd) (by decide) fun l k s hs => hs.laneRetrain (s := s) c l k
  · exact hsame _ fun d => d.prbsBits_sameUp l bits
  · exact hsame _ fun d => d.prbsBits_sameUp l bits
  · exact hsame _ fun d => d.elasticAdjust_sameUp n
  · exact hsame _ fun d => d.remoteFault_sameUp n
  · exact hsame _ fun d => d.remoteFaultClear_sameUp n

end Sys2Proof.Machine
end

section
/-! What the lanes carry (R628 to R635): the checker that follows a generator, and frames laid out in columns. -/

namespace Sys2Proof.Machine
open Sys2Proof

/-! ### The checker (R629) -/

variable {code : Nat} {c : Checker}

theorem prbsTaps_pos (code : Nat) : 0 < (prbsTaps code).1 := by
  unfold prbsTaps
  repeat' split
  all_goals decide

/-- The register that follows one more bit. -/
def prbsShift (code : Nat) (reg : List Bool) : List Bool := (prbsNext code reg :: reg).take (prbsTaps code).1

theorem prbsShift_length {reg : List Bool} (h : reg.length = (prbsTaps code).1) : (prbsShift code reg).length = (prbsTaps code).1 := by
  simp [prbsShift, h]

theorem prbsRun_succ (n : Nat) (reg : List Bool) :
    prbsRun code (n + 1) reg = (prbsNext code reg :: (prbsRun code n (prbsShift code reg)).1, (prbsRun code n (prbsShift code reg)).2) := rfl

/-- A checker that is not LOCKED and sees the bit it expects. -/
theorem Checker.take_expected (h : c.reg.length = (prbsTaps code).1) (hl : c.locked = false) :
    c.take code (prbsNext code c.reg) = { c with reg := prbsShift code c.reg, good := c.good + 1, locked := decide (1024 ≤ c.good + 1), seen := 0, wrong := [] } := by
  simp [Checker.take, h, hl, prbsShift]

/-- A LOCKED checker without an error counts the bit. -/
theorem Checker.take_counted (h : c.reg.length = (prbsTaps code).1) (hl : c.locked = true) (hw : c.wrong = []) :
    c.take code (prbsNext code c.reg) = { c with reg := prbsShift code c.reg, seen := c.seen + 1, bits := c.bits + 1 } := by
  simp [Checker.take, h, hl, hw, prbsShift]

/-- A LOCKED checker follows the generator and counts every bit. -/
theorem Checker.run_locked (m : Nat) (c : Checker) (h : c.reg.length = (prbsTaps code).1) (hl : c.locked = true) (hw : c.wrong = []) :
    (prbsRun code m c.reg).1.foldl (Checker.take code) c = { c with reg := (prbsRun code m c.reg).2, seen := c.seen + m, bits := c.bits + m } := by
  induction m generalizing c with
  | zero => rfl
  | succ m ih =>
    rw [prbsRun_succ, List.foldl_cons, Checker.take_counted h hl hw]
    refine (ih { c with reg := prbsShift code c.reg, seen := c.seen + 1, bits := c.bits + 1 } (prbsShift_length h) hl hw).trans ?_
    simp only [Nat.add_assoc, Nat.add_comm 1 m]

/-- A checker is not LOCKED before the 1,024th bit without an error. -/
theorem Checker.run_unlocked (m : Nat) (c : Checker) (h : c.reg.length = (prbsTaps code).1) (hl : c.locked = false) (hm : c.good + m < 1024) :
    ((prbsRun code m c.reg).1.foldl (Checker.take code) c).locked = false := by
  induction m generalizing c with
  | zero => exact hl
  | succ m ih =>
    rw [prbsRun_succ, List.foldl_cons, Checker.take_expected h hl]
    exact ih { c with reg := prbsShift code c.reg, good := c.good + 1, locked := decide (1024 ≤ c.good + 1), seen := 0, wrong := [] }
      (prbsShift_length h) (decide_eq_false (by omega)) (by simp only; omega)

/-- From the 1,024th bit on it is, and counts what follows. -/
theorem Checker.run_locks (m : Nat) (c : Checker) (h : c.reg.length = (prbsTaps code).1) (hl : c.locked = false) (hg : c.good < 1024) (hm : 1024 ≤ c.good + m) :
    let r := (prbsRun code m c.reg).1.foldl (Checker.take code) c
    r.locked = true ∧ r.bits = c.bits + (c.good + m - 1024) ∧ r.errors = c.errors ∧ r.reg = (prbsRun code m c.reg).2 := by
  induction m generalizing c with
  | zero => omega
  | succ m ih =>
    rw [prbsRun_succ, List.foldl_cons, Checker.take_expected h hl]
    by_cases hlast : 1024 ≤ c.good + 1
    · have hrun := Checker.run_locked (code := code) m
        { c with reg := prbsShift code c.reg, good := c.good + 1, locked := decide (1024 ≤ c.good + 1), seen := 0, wrong := [] } (prbsShift_length h)
        (decide_eq_true hlast) rfl
      dsimp only at hrun ⊢
      rw [hrun]
      exact ⟨decide_eq_true hlast, by simp only; omega, rfl, rfl⟩
    · obtain ⟨hlock, hbits, herr, hreg⟩ := ih
        { c with reg := prbsShift code c.reg, good := c.good + 1, locked := decide (1024 ≤ c.good + 1), seen := 0, wrong := [] }
        (prbsShift_length h) (decide_eq_false hlast) (by simp only; omega) (by simp only; omega)
      exact ⟨hlock, hbits.trans (by simp only; omega), herr, hreg⟩

theorem prbsChecking : PrbsChecking := fun code m c h =>
  ⟨fun hl hg hm => Checker.run_unlocked m c h hl (by omega),
   fun hl hg hm => by
    obtain ⟨hlock, hbits, herr, hreg⟩ := Checker.run_locks m c h hl (by omega) (by omega)
    exact ⟨hlock, hbits.trans (by rw [hg, Nat.zero_add]), herr, hreg⟩,
   fun hl hw => by simp [Checker.take, h, hl, hw],
   fun hl => by simp [Checker.take, h, hl]⟩

/-! ### Frames in columns -/

theorem inColumns_flatten {w : Nat} (hw : 0 < w) (fuel : Nat) (l : List Sym) (h : l.length < fuel) : (inColumns w fuel l).flatten = l := by
  induction fuel generalizing l with
  | zero => omega
  | succ fuel ih =>
    unfold inColumns
    cases l with
    | nil => rfl
    | cons x t =>
      rw [List.isEmpty_cons, if_neg Bool.false_ne_true, List.flatten_cons, ih _ (by rw [List.length_drop]; simp only [List.length_cons] at h ⊢; omega), List.take_append_drop]

theorem inColumns_width {w : Nat} (fuel : Nat) (l : List Sym) (h : l.length % w = 0) : ∀ c ∈ inColumns w fuel l, c.length = w := by
  induction fuel generalizing l with
  | zero => simp [inColumns]
  | succ fuel ih =>
    unfold inColumns
    cases l with
    | nil => simp
    | cons x t =>
      have hle : w ≤ (x :: t).length := Nat.le_of_dvd (by simp) (Nat.dvd_of_mod_eq_zero h)
      rw [List.isEmpty_cons, if_neg Bool.false_ne_true]
      intro c hc
      rcases List.mem_cons.1 hc with rfl | hc
      · rw [List.length_take, Nat.min_eq_left hle]
      · exact ih _ (by rw [List.length_drop, ← h]; exact (Nat.mod_eq_sub_mod hle).symm) c hc

/-- Filling up to a whole column. -/
theorem length_fill {w : Nat} (hw : 0 < w) (n : Nat) : (n + (w - n % w) % w) % w = 0 := by
  have hlt := Nat.mod_lt n hw
  rw [Nat.add_mod, Nat.mod_mod]
  by_cases h : n % w = 0
  · simp [h]
  · rw [Nat.mod_eq_of_lt (show w - n % w < w by omega), Nat.add_sub_cancel' hlt.le, Nat.mod_self]

theorem untilT_data (l : List Byte) (t : List Sym) : untilT (l.map Sym.data ++ symT :: t) = some l := by
  induction l with
  | nil => rfl
  | cons b l ih => rw [List.map_cons, List.cons_append, untilT, ih]; rfl

theorem symPassed_data (l : List Byte) : (l.map Sym.data).map symPassed = l.map Sym.data := by
  rw [List.map_map]
  exact List.map_congr_left fun _ _ => rfl

/-- The code groups of a frame, from ||S|| to the end of its last column. -/
def frameGroups (w : Nat) (b : List Byte) : List Sym :=
  symS :: ((List.replicate 6 0x55 ++ 0xD5 :: b).map Sym.data ++ symT :: List.replicate ((w - (b.length + 9) % w) % w) symK)

theorem frameGroups_length (w : Nat) (b : List Byte) : (frameGroups w b).length = b.length + 9 + (w - (b.length + 9) % w) % w := by
  simp [frameGroups]
  omega

theorem frameColumns_eq (w : Nat) (b : List Byte) : frameColumns w b = inColumns w (b.length + 10) (frameGroups w b) := by
  have hlen : (symS :: List.replicate 6 (Sym.data 0x55) ++ [Sym.data 0xD5] ++ b.map Sym.data ++ [symT]).length = b.length + 9 := by simp
  unfold frameColumns
  dsimp only
  rw [hlen]
  simp [frameGroups, List.replicate_succ]

/-- Columns are cut while anything is left, so a group of fuel for each suffices. -/
theorem inColumns_fuel {w : Nat} (n m : Nat) (l : List Sym) (hn : l.length ≤ n * w) (hm : l.length ≤ m * w) : inColumns w n l = inColumns w m l := by
  induction n generalizing m l with
  | zero =>
    obtain rfl : l = [] := List.eq_nil_of_length_eq_zero (by omega)
    cases m <;> rfl
  | succ n ih =>
    cases m with
    | zero =>
      obtain rfl : l = [] := List.eq_nil_of_length_eq_zero (by omega)
      rfl
    | succ m =>
      unfold inColumns
      split
      · rfl
      · rw [ih m (l.drop w) (by rw [List.length_drop, Nat.succ_mul] at *; omega) (by rw [List.length_drop, Nat.succ_mul] at *; omega)]

/-- The groups of a frame are what its columns hold. -/
theorem frameColumns_flatten {w : Nat} (hw : 0 < w) (b : List Byte) : (frameColumns w b).flatten = frameGroups w b := by
  have hfill : (w - (b.length + 9) % w) % w < w := Nat.mod_lt _ hw
  have hlen := frameGroups_length w b
  rw [frameColumns_eq, inColumns_fuel _ ((frameGroups w b).length + 1) _ ?_ (by nlinarith), inColumns_flatten hw _ _ (by omega)]
  nlinarith

theorem frameGroups_passed (w : Nat) (b : List Byte) : (frameGroups w b).map symPassed = frameGroups w b := by
  unfold frameGroups
  rw [List.map_cons, List.map_append, List.map_cons, symPassed_data, List.map_replicate]
  rfl

theorem frameOf_frameColumns {w : Nat} (hw : 0 < w) (b : List Byte) : frameOf (frameColumns w b) = some b := by
  unfold frameOf
  rw [frameColumns_flatten hw, frameGroups_passed]
  have hhead : (frameGroups w b).head? = some symS ∧ ((frameGroups w b).drop 7).head? = some (.data 0xD5) := ⟨rfl, rfl⟩
  dsimp only
  rw [if_pos hhead]
  have hdata := untilT_data (List.replicate 6 0x55 ++ 0xD5 :: b) (List.replicate ((w - (b.length + 9) % w) % w) symK)
  rw [frameGroups, List.drop_succ_cons, List.drop_zero, hdata]
  rfl

theorem frameColumns_first {w : Nat} (hw : 0 < w) (b : List Byte) : (frameColumns w b).head?.bind List.head? = some symS := by
  obtain ⟨n, rfl⟩ : ∃ n, w = n + 1 := ⟨w - 1, by omega⟩
  rw [frameColumns_eq, frameGroups, inColumns]
  rfl

/-- The gap after a frame brings the next one into lane 0 (R635). -/
theorem gapAfter_bounds (k n : Nat) (hk : k ≤ 3) : 9 ≤ (gapAfter k n).1 ∧ (gapAfter k n).1 ≤ 15 ∧ (gapAfter k n).2 ≤ 3 ∧ (n + (gapAfter k n).1) % 4 = 0 := by
  unfold gapAfter
  dsimp only
  split
  · dsimp only
    omega
  · dsimp only
    omega

theorem framesInColumns : FramesInColumns :=
  ⟨fun w b hw => ⟨frameOf_frameColumns hw b, fun c hc => by
      rw [frameColumns_eq] at hc
      exact inColumns_width _ _ (by rw [frameGroups_length]; exact length_fill hw _) c hc, frameColumns_first hw b⟩,
   gapAfter_bounds⟩

end Sys2Proof.Machine
end

section
/-! The fields of a word, bit by bit. -/

namespace Sys2Proof.Machine
open Sys2Proof

variable {v x : Word} {lo w i a b : Nat}

theorem fld_testBit (v : Word) (lo w i : Nat) : (fld v lo w).testBit i = (decide (i < w) && v.toNat.testBit (lo + i)) := by
  rw [fld, Nat.testBit_mod_two_pow, Nat.testBit_shiftRight]

theorem bit_eq (v : Word) (i : Nat) : bit v i = v.toNat.testBit i := by
  rw [bit, fld, Nat.testBit_eq_decide_div_mod_eq, Nat.shiftRight_eq_div_pow, pow_one]
  rfl

/-- Two fields are the same when their bits are. -/
theorem fld_congr (h : ∀ i, lo ≤ i → i < lo + w → v.toNat.testBit i = x.toNat.testBit i) : fld v lo w = fld x lo w := by
  refine Nat.eq_of_testBit_eq fun i => ?_
  rw [fld_testBit, fld_testBit]
  by_cases hi : i < w
  · rw [h (lo + i) (by omega) (by omega)]
  · simp [hi]

/-- What a word holds above and below a field that is set. -/
theorem setFld_toNat (v : Word) {lo w : Nat} (x : Nat) (h : lo + w ≤ 64) :
    (setFld v lo w x).toNat = v.toNat % 2 ^ lo + 2 ^ lo * (x % 2 ^ w + 2 ^ w * (v.toNat / 2 ^ (lo + w))) := by
  have hsum : v.toNat - (fld v lo w <<< lo) + ((x % 2 ^ w) <<< lo) =
      v.toNat % 2 ^ lo + 2 ^ lo * (x % 2 ^ w + 2 ^ w * (v.toNat / 2 ^ (lo + w))) := by
    have hlow := Nat.mod_add_div v.toNat (2 ^ lo)
    have hhigh := congrArg (2 ^ lo * ·) (Nat.mod_add_div (v.toNat / 2 ^ lo) (2 ^ w))
    simp only [Nat.mul_add] at hhigh
    rw [fld, Nat.shiftLeft_eq, Nat.shiftLeft_eq, Nat.shiftRight_eq_div_pow, Nat.mul_add, Nat.mul_comm _ (2 ^ lo), Nat.mul_comm _ (2 ^ lo), pow_add, ← Nat.div_div_eq_div_mul]
    omega
  rw [setFld, BitVec.toNat_ofNat, hsum, Nat.mod_eq_of_lt]
  have hx : x % 2 ^ w < 2 ^ w := Nat.mod_lt _ (by positivity)
  have hv : v.toNat % 2 ^ lo < 2 ^ lo := Nat.mod_lt _ (by positivity)
  have hq : v.toNat / 2 ^ (lo + w) < 2 ^ (64 - (lo + w)) := by
    rw [Nat.div_lt_iff_lt_mul (by positivity), ← pow_add, Nat.sub_add_cancel h]
    exact v.isLt
  have hin : x % 2 ^ w + 2 ^ w * (v.toNat / 2 ^ (lo + w)) < 2 ^ w * 2 ^ (64 - (lo + w)) := by
    calc x % 2 ^ w + 2 ^ w * (v.toNat / 2 ^ (lo + w)) < 2 ^ w * (v.toNat / 2 ^ (lo + w) + 1) := by rw [Nat.mul_add, Nat.mul_one]; omega
      _ ≤ 2 ^ w * 2 ^ (64 - (lo + w)) := Nat.mul_le_mul_left _ hq
  calc v.toNat % 2 ^ lo + 2 ^ lo * (x % 2 ^ w + 2 ^ w * (v.toNat / 2 ^ (lo + w)))
      < 2 ^ lo * (x % 2 ^ w + 2 ^ w * (v.toNat / 2 ^ (lo + w)) + 1) := by rw [Nat.mul_add _ _ 1, Nat.mul_one]; omega
    _ ≤ 2 ^ lo * (2 ^ w * 2 ^ (64 - (lo + w))) := Nat.mul_le_mul_left _ hin
    _ = 2 ^ 64 := by rw [← pow_add, ← pow_add]; congr 1; omega

theorem setFld_testBit (v : Word) {lo w : Nat} (x i : Nat) (h : lo + w ≤ 64) :
    (setFld v lo w x).toNat.testBit i = if lo ≤ i ∧ i < lo + w then x.testBit (i - lo) else v.toNat.testBit i := by
  have hlow : v.toNat % 2 ^ lo < 2 ^ lo := Nat.mod_lt _ (by positivity)
  have hmid : x % 2 ^ w < 2 ^ w := Nat.mod_lt _ (by positivity)
  rw [setFld_toNat v x h, Nat.add_comm, Nat.testBit_two_pow_mul_add _ hlow]
  by_cases h1 : i < lo
  · rw [if_pos h1, if_neg (by omega), Nat.testBit_mod_two_pow]
    simp [h1]
  · rw [if_neg h1, Nat.add_comm (x % 2 ^ w), Nat.testBit_two_pow_mul_add _ hmid]
    by_cases h2 : i - lo < w
    · rw [if_pos h2, if_pos (by omega), Nat.testBit_mod_two_pow]
      simp [h2]
    · rw [if_neg h2, if_neg (by omega), Nat.testBit_div_two_pow]
      congr 1
      omega

/-- A field apart from the one that is set stays. -/
theorem fld_setFld_apart (v : Word) (x : Nat) (h : lo + w ≤ 64) (hd : a + b ≤ lo ∨ lo + w ≤ a) : fld (setFld v lo w x) a b = fld v a b :=
  fld_congr fun i _ _ => by rw [setFld_testBit v x i h, if_neg (by omega)]

theorem bit_setFld_apart (v : Word) (x : Nat) (h : lo + w ≤ 64) (hd : i < lo ∨ lo + w ≤ i) : bit (setFld v lo w x) i = bit v i := by
  rw [bit, bit, fld_setFld_apart v x h (by omega)]

/-- A bit of the field that is set. -/
theorem bit_setFld_inside (v : Word) (x : Nat) (h : lo + w ≤ 64) (hl : lo ≤ i) (hi : i < lo + w) : bit (setFld v lo w x) i = x.testBit (i - lo) := by
  rw [bit_eq, setFld_testBit v x i h, if_pos ⟨hl, hi⟩]

/-- Words are the same when their bits are. -/
theorem word_ext (h : ∀ i, i < 64 → bit v i = bit x i) : v = x := by
  refine BitVec.eq_of_toNat_eq (Nat.eq_of_testBit_eq fun i => ?_)
  by_cases hi : i < 64
  · rw [← bit_eq, ← bit_eq, h i hi]
  · rw [Nat.testBit_lt_two_pow (lt_of_lt_of_le v.isLt (Nat.pow_le_pow_right (by decide) (by omega))),
      Nat.testBit_lt_two_pow (lt_of_lt_of_le x.isLt (Nat.pow_le_pow_right (by decide) (by omega)))]

/-- A field set to what it holds. -/
theorem setFld_fld (v : Word) (h : lo + w ≤ 64) : setFld v lo w (fld v lo w) = v :=
  word_ext fun i _ => by
    rw [bit_eq, setFld_testBit v _ i h, bit_eq]
    split
    · next hi =>
      rw [fld_testBit, decide_eq_true (by omega), Bool.true_and]
      congr 1
      omega
    · rfl

end Sys2Proof.Machine
end

section
/-! Lane training (R612 to R618), and O40. -/

namespace Sys2Proof.Machine
open Sys2Proof

variable {d : Dev} {s : State} {l : Nat}

/-! ### Failed tries -/

theorem pgQuad_ne_errlog (q : Nat) : pgQuad q ≠ pgErrlog := by
  unfold pgQuad pgErrlog
  omega

theorem laneCtr_lt (l : Nat) {o : Nat} (h : o < 0x200) : laneCtr l o < 4096 := by
  unfold laneCtr
  omega

/-- What a failed try leaves of its lane. -/
def Lane.failed (x : Lane) (now : Time) : Lane :=
  if x.retry = true ∨ 7 ≤ x.tries then { x.enter .noPartner with tries := x.tries + 1, partnerAt := now }
  else { x.enter .cdrWait with tries := x.tries + 1, rest := some (now + msT) }

theorem Dev.lane_failTry (d : Dev) (l k : Nat) : (d.failTry l).lane k = if k = l then (d.lane l).failed d.now else d.lane k := by
  unfold Dev.failTry Lane.failed
  dsimp only
  by_cases hr : (d.lane l).retry = true
  · simp [hr]
  · by_cases ht : 7 ≤ (d.lane l).tries
    · rw [if_neg hr, if_pos (show 8 ≤ (d.lane l).tries + 1 by omega), if_pos (Or.inr ht)]
      simp
    · rw [if_neg hr, if_neg (show ¬ 8 ≤ (d.lane l).tries + 1 by omega), if_neg (show ¬ ((d.lane l).retry = true ∨ 7 ≤ (d.lane l).tries) by simp [hr, ht])]
      simp only [Dev.lane_setLane, Dev.lane_inc, Dev.now_inc]

theorem failedTries : FailedTries := fun d l => by
  refine ⟨fun hr => ⟨?_, ?_, ?_⟩, fun hr ht => ⟨?_, ?_⟩, fun hr ht => ⟨?_, ?_, ?_⟩, ?_, fun k hk => ?_⟩
  · simp [Dev.lane_failTry, Lane.failed, Lane.enter, hr]
  · simp [Dev.lane_failTry, Lane.failed, hr]
  · funext p
    simp [Dev.failTry, hr]
  · simp [Dev.lane_failTry, Lane.failed, Lane.enter, ht]
  · unfold Dev.failTry
    dsimp only
    rw [if_neg (by simp [hr]), if_pos (by omega)]
    exact Dev.raise_bit _ _ _ _ _ _ _ (by omega)
  · rw [Dev.lane_failTry, if_pos rfl, Lane.failed, if_neg (by simp [hr]; omega)]
    rfl
  · rw [Dev.lane_failTry, if_pos rfl, Lane.failed, if_neg (by simp [hr]; omega)]
  · rw [Dev.lane_failTry, if_pos rfl, Lane.failed, if_neg (by simp [hr]; omega)]
  · have hinc := d.counter_inc_same (pgQuad (l / 4)) (laneCtr l 0x120)
    unfold Dev.failTry
    dsimp only
    split
    · exact hinc
    · split
      · exact (Dev.counter_raise _ _ _ _ _ _ _ (pgQuad_ne_errlog _) (laneCtr_lt l (by decide))).trans hinc
      · exact hinc
  · rw [Dev.lane_failTry, if_neg hk]

/-! ### The rows -/

theorem laneForms : LaneForms := fun s l n skews bits err hup => by
  refine ⟨?_, ?_, ?_, ?_, ?_, ?_, ?_, ?_, ?_, ?_, ?_, ?_, ?_, ?_, ?_, ?_, ?_, ?_, fun hl => ?_, fun hn => ?_, fun hl v => ⟨?_, ?_⟩, fun hn v => ?_⟩
  iterate 18 exact congrArg Host.Outcome.next (State.act_up _ hup)
  · have hnot : ¬ l < 40 := by omega
    refine ⟨if_pos (Or.inl hl), if_pos hl, if_neg fun h => hnot h.1, if_neg fun h => hnot h.1, if_pos hl, if_neg fun h => hnot h.1, ?_, if_neg fun h => hnot h.1,
      if_neg fun h => hnot h.1, if_pos (Or.inl hl)⟩
    unfold Dev.tryRetry
    split
    · exact if_neg fun h => hnot h.1
    · rfl
  · have hnot : ¬ n ≤ 8 := by omega
    have h8 : 8 ≤ n := by omega
    exact ⟨if_neg fun h => hnot h.1, if_neg fun h => hnot h.1, if_neg fun h => hnot h.1, if_pos (Or.inl hn), if_pos (Or.inl h8), if_pos h8, fun h => if_pos (by omega)⟩
  · exact congrArg Host.Outcome.next (if_neg (by omega))
  · exact congrArg Host.Outcome.next (if_neg (by omega))
  · exact congrArg Host.Outcome.next (if_neg (by omega))

/-! ### Training -/

/-- Only lane `l` is replaced. -/
theorem laneOnly_setLane (s : State) (l : Nat) (x : Lane) : LaneOnly s (s.setDev (s.dev.setLane l x)) l := fun k hk => by
  rw [State.setDev_dev, Dev.lane_setLane, if_neg hk]

theorem Dev.portCfg_setReg_quad (d : Dev) (q o p : Nat) (v : Word) (hp : p < 8) : (d.setReg (pgQuad q) o v).portCfg p = d.portCfg p := by
  unfold Dev.portCfg
  rw [Dev.reg_setReg, if_neg]
  unfold regKey pgPort pgQuad
  omega

/-- A signal on a lane that is ready to train starts a try (R612). -/
theorem Dev.lane_signalDetect_start (hl : l < 40) (hp : d.rxPwr l = 2) (ht : (d.lane l).train = .idle) (k : Nat) :
    (d.signalDetect l).lane k = if k = l then { ({ d.lane l with signal := true } : Lane).startTry d.now false with tries := 0 } else d.lane k := by
  have hwake : (d.onLane l fun x => { x with signal := true }).rxPwr l = 2 := hp
  unfold Dev.signalDetect
  rw [if_neg (by omega)]
  dsimp only
  generalize hx : (d.onLane l fun x => { x with signal := true }) = e at hwake ⊢
  have hawake : ¬ (e.rxPwr l == 1 && bit (e.laneCfg l) 4) = true := by simp [hwake]
  rw [if_neg hawake]
  have htrain : (e.lane l).train = .idle := by rw [← hx, Dev.lane_onLane, if_pos rfl]; exact ht
  rw [if_pos ⟨htrain, hwake⟩, Dev.lane_onLane, ← hx]
  simp only [Dev.lane_onLane, Dev.now_onLane]
  by_cases hk : k = l
  · simp [hk]
  · simp [hk]

/-- A receiver in IDLE that AUTO_WAKE wakes (R623). -/
theorem Dev.signalDetect_wakes (hl : l < 40) (hp : d.rxPwr l = 1) (hw : bit (d.laneCfg l) 4 = true) (ht : (d.lane l).train = .idle) :
    (d.signalDetect l).rxPwr l = 2 ∧ ((d.signalDetect l).lane l).train = .cdrWait := by
  have hon : d.laneEnabled l = true := by
    unfold Dev.rxPwr at hp
    split at hp
    · next h => exact h
    · cases hp
  have hwoken : ((d.onLane l fun x => { x with signal := true }).setReg (pgQuad (l / 4)) (0x100 + 0x40 * (l % 4)) (setFld (d.laneCfg l) 2 2 2)).rxPwr l = 2 := by
    unfold Dev.rxPwr Dev.laneEnabled
    have hen : (decide (32 ≤ l) || bit (((d.onLane l fun x => { x with signal := true }).setReg (pgQuad (l / 4)) (0x100 + 0x40 * (l % 4))
        (setFld (d.laneCfg l) 2 2 2)).portCfg (l / 4)) 0) = true := by
      by_cases h32 : 32 ≤ l
      · simp [h32]
      · rw [Dev.portCfg_setReg_quad _ _ _ _ _ (by omega)]
        exact hon
    rw [if_pos hen, Dev.laneCfg, Dev.reg_setReg, if_pos rfl, fld_setFld_same _ _ (by decide)]
    rfl
  unfold Dev.signalDetect
  rw [if_neg (by omega)]
  dsimp only
  have hw' : ((d.onLane l fun x => { x with signal := true }).rxPwr l == 1 && bit ((d.onLane l fun x => { x with signal := true }).laneCfg l) 4) = true := by
    have h1 : (d.onLane l fun x => { x with signal := true }).rxPwr l = 1 := hp
    have h2 : bit ((d.onLane l fun x => { x with signal := true }).laneCfg l) 4 = true := hw
    rw [h1, h2]
    rfl
  rw [if_pos hw', if_pos ⟨by simp [ht], hwoken⟩]
  refine ⟨hwoken, ?_⟩
  simp [Lane.startTry, Lane.enter]

/-- The lane that loses synchronisation starts over, and the unit's other lanes wait in DESKEW (R618, R619). -/
theorem Dev.lane_othersWait (d : Dev) (u k : Nat) :
    ((d.othersWait u).lane k).train = if k ∈ lanesOf u ∧ (d.lane k).train = .linkUp then .deskew else (d.lane k).train := by
  unfold Dev.othersWait
  generalize lanesOf u = ls
  induction ls generalizing d with
  | nil => simp
  | cons j ls ih =>
    rw [List.foldl_cons, ih]
    by_cases hj : (d.lane j).train = .linkUp
    · rw [if_pos hj]
      by_cases hk : k = j
      · subst hk
        simp [hj]
      · simp [hk]
    · rw [if_neg hj]
      by_cases hk : k = j
      · subst hk
        simp [hj]
      · simp [hk]

/-- A lane that is not in LINK_UP stays as it is. -/
theorem Dev.lane_othersWait_kept (d : Dev) (u : Nat) {k : Nat} (h : (d.lane k).train ≠ .linkUp) : (d.othersWait u).lane k = d.lane k := by
  unfold Dev.othersWait
  generalize lanesOf u = ls
  induction ls generalizing d with
  | nil => rfl
  | cons j ls ih =>
    rw [List.foldl_cons]
    by_cases hj : (d.lane j).train = .linkUp
    · have hk : k ≠ j := fun hk => h (hk ▸ hj)
      rw [if_pos hj, ih _ (by simpa [hk] using h)]
      simp [hk]
    · rw [if_neg hj, ih d h]

theorem Dev.syncLoss_up (hl : l < 40) (h : (d.lane l).train = .linkUp) :
    ((d.syncLoss l).lane l).train = .cdrWait ∧ ((d.syncLoss l).lane l).tries = 0 ∧ ((d.syncLoss l).plink (unitOf l)).up = false ∧
      ∀ k, k ∈ lanesOf (unitOf l) → k ≠ l → (d.lane k).train = .linkUp → ((d.syncLoss l).lane k).train = .deskew := by
  have hmoved : d.syncLoss l = d.moveLane l (fun x => { x.startTry d.now false with tries := 0 }) 1 := if_pos ⟨hl, h⟩
  have hleft : d.moveLane l (fun x => { x.startTry d.now false with tries := 0 }) 1 =
      ((d.onLane l fun x => { x.startTry d.now false with tries := 0 }).laneEvent l 1 .linkUp 1 |>.othersWait (unitOf l)).plinkUpdate (unitOf l) := by
    refine if_pos ⟨h, ?_⟩
    simp [Lane.startTry, Lane.enter]
  rw [hmoved, hleft]
  generalize he : (d.onLane l fun x => { x.startTry d.now false with tries := 0 }).laneEvent l 1 .linkUp 1 = e
  have hlane : ∀ k, e.lane k = if k = l then { (d.lane l).startTry d.now false with tries := 0 } else d.lane k := fun k => by
    rw [← he, Dev.lane_laneEvent, Dev.lane_onLane]
  have hown : (e.lane l).train = .cdrWait := by rw [hlane, if_pos rfl]; rfl
  have hkept : ((e.othersWait (unitOf l)).lane l).train = .cdrWait := by rw [Dev.lane_othersWait, if_neg (by simp [hown]), hown]
  refine ⟨by rw [Dev.lane_plinkUpdate, hkept], ?_, ?_, fun k hk hne hkup => ?_⟩
  · rw [Dev.lane_plinkUpdate, Dev.lane_othersWait_kept _ _ (by simp [hown]), hlane, if_pos rfl]
  · rw [Dev.up_plinkUpdate, if_pos rfl]
    exact Dev.allUp_false (mem_lanesOf_unitOf hl) (by simp [hkept])
  · rw [Dev.lane_plinkUpdate, Dev.lane_othersWait, if_pos ⟨hk, by rw [hlane, if_neg hne]; exact hkup⟩]

/-- The fourth code group in a row aligns the lane (R614). -/
theorem Dev.commaDetect_fourth (hl : l < 40) (ht : (d.lane l).train = .commaSearch) (hr : 3 ≤ (d.lane l).run) :
    d.commaDetect l 0 false = d.setLane l { d.lane l with train := .deskew, aligned := true, alignedAt := d.now, comma := true, run := (d.lane l).run + 1 } := by
  have hrun : 4 ≤ (d.lane l).run + 1 := by omega
  simp [Dev.commaDetect, show ¬ 40 ≤ l by omega, ht, hrun]

theorem Dev.commaDetect_counted (hl : l < 40) (ht : (d.lane l).train = .commaSearch) (hr : (d.lane l).run < 3) :
    d.commaDetect l 0 false = d.setLane l { d.lane l with comma := true, run := (d.lane l).run + 1 } := by
  have hrun : ¬ 4 ≤ (d.lane l).run + 1 := by omega
  simp [Dev.commaDetect, show ¬ 40 ≤ l by omega, ht, hrun]

/-- Slips off the word boundary, fewer than ten of them. -/
theorem Dev.commaDetect_slips {k : Nat} (hl : l < 40) (ht : (d.lane l).train = .commaSearch) (hk : 0 < k) (hs : (d.lane l).slips + k < 10) :
    d.commaDetect l k false =
      (d.bump (pgQuad (l / 4)) (laneCtr l 0x128) k).setLane l { d.lane l with comma := true, run := 0, slips := (d.lane l).slips + k } := by
  have hmin : min k (10 - (d.lane l).slips) = k := by omega
  simp [Dev.commaDetect, show ¬ 40 ≤ l by omega, ht, show k ≠ 0 by omega, hmin, show ¬ 10 ≤ (d.lane l).slips + k by omega]

theorem laneTraining : LaneTraining := fun s l hup hl => by
  refine ⟨fun hp ht => ?_, fun hp hw ht => ?_, fun hp => ?_, fun hs hn => ?_, fun hw => ?_, fun hw => ?_, fun hw hdue => ?_, fun hw hdue => ?_, fun ht hr => ?_,
    fun ht hr => ?_, fun k ht hk hsl => ?_, fun ht hc hdue => ?_, fun t hrest ht hdue => ?_, fun ht hdue => ?_, fun ht => ?_⟩
  · refine ⟨_, congrArg Host.Outcome.next (State.act_up _ hup), fun k hk => ?_, ?_⟩
    · rw [State.setDev_dev, Dev.lane_signalDetect_start hl hp ht, if_neg hk]
    · rw [State.setDev_dev, Dev.lane_signalDetect_start hl hp ht, if_pos rfl]
      exact ⟨rfl, rfl, rfl, rfl⟩
  · obtain ⟨hpwr, htrain⟩ := Dev.signalDetect_wakes hl hp hw ht
    exact ⟨_, congrArg Host.Outcome.next (State.act_up _ hup), hpwr, htrain⟩
  · exact congrArg Host.Outcome.next ((State.act_up _ hup).trans (congrArg s.setDev (if_pos (Or.inr hp))))
  · have hsearch : ((s.dev.onLane l fun x => { x with signal := false }).lane l).train.searching = true := by simp [hs]
    have hloss : s.dev.signalLoss l = (s.dev.onLane l fun x => { x with signal := false }).onLane l fun x => x.enter .idle := by
      unfold Dev.signalLoss
      rw [if_neg (by omega)]
      dsimp only
      rw [if_pos hsearch]
      exact if_neg fun h => hn (by simpa using h.1)
    refine ⟨_, congrArg Host.Outcome.next (State.act_up _ hup), fun k hk => ?_, ?_, ?_⟩
    · rw [State.setDev_dev, hloss]
      simp [hk]
    · rw [State.setDev_dev, hloss]
      simp [Lane.enter]
    · rw [State.setDev_dev, hloss]
      simp [Lane.enter]
  · refine ⟨_, congrArg Host.Outcome.next ((State.act_up _ hup).trans (congrArg s.setDev (if_pos ⟨hl, hw⟩))), laneOnly_setLane s l _, ?_⟩
    simp
  · exact congrArg Host.Outcome.next ((State.act_up _ hup).trans (congrArg s.setDev (if_neg (by simp [hw]))))
  · exact congrArg Host.Outcome.next ((State.act_up _ hup).trans (congrArg s.setDev (if_pos ⟨hl, hw, hdue⟩)))
  · exact congrArg Host.Outcome.next ((State.act_up _ hup).trans (congrArg s.setDev (if_neg fun h => absurd h.2.2 (Nat.not_le.2 hdue))))
  · refine ⟨_, congrArg Host.Outcome.next ((State.act_up _ hup).trans (congrArg s.setDev (Dev.commaDetect_fourth hl ht hr))), laneOnly_setLane s l _, ?_⟩
    simp
  · refine ⟨_, congrArg Host.Outcome.next ((State.act_up _ hup).trans (congrArg s.setDev (Dev.commaDetect_counted hl ht hr))), ?_⟩
    simp
  · refine ⟨_, congrArg Host.Outcome.next ((State.act_up _ hup).trans (congrArg s.setDev (Dev.commaDetect_slips hl ht hk hsl))), ?_⟩
    simp
  · exact congrArg Host.Outcome.next ((State.act_up _ hup).trans (congrArg s.setDev (if_pos ⟨hl, ht, hc, hdue⟩)))
  · have hstart : s.dev.tryRetry l = s.dev.onLane l fun x => x.startTry s.dev.now false := by
      unfold Dev.tryRetry
      rw [hrest]
      exact if_pos ⟨hl, ht, hdue⟩
    refine ⟨_, congrArg Host.Outcome.next ((State.act_up _ hup).trans (congrArg s.setDev hstart)), laneOnly_setLane s l _, ?_⟩
    simp [Lane.startTry, Lane.enter, Lane.waitsCdr]
  · refine ⟨_, congrArg Host.Outcome.next ((State.act_up _ hup).trans (congrArg s.setDev (if_pos ⟨hl, ht, hdue⟩))), laneOnly_setLane s l _, ?_⟩
    simp [Lane.startTry, Lane.enter]
  · exact ⟨_, congrArg Host.Outcome.next (State.act_up _ hup), Dev.syncLoss_up hl ht⟩

/-- Settles O40: each row by the state that its lane is in. -/
theorem laneCommands : Obligations.LaneCommands := ⟨laneForms, laneTraining, failedTries, prbsChecking, framesInColumns⟩

end Sys2Proof.Machine
end

section
/-! A freeze record that the resettable part holds and the always-on domain does not yet: the write that moves it over is judged against it. -/

namespace Sys2Proof.Machine
open Sys2Proof

/-- A unit that is READY, and holds a freeze record with time 1 where FRZ_TIME reads 0. -/
def staleFreeze : State :=
  { State.reset with
    aon := { State.reset.aon with auxOn := true, railsOn := true, resetHigh := true }
    dev := { State.reset.dev with
      boot := { State.reset.dev.boot with phase := .ready }
      obs := { State.reset.dev.obs with frz := some ⟨true, 1, 0, 0, 0, 1⟩ } } }

theorem staleFreeze_reaches : Reaches staleFreeze pgDevice ∧ Alone staleFreeze := by
  unfold Reaches Alone
  decide +kernel

/-- What the page shows after a write of the 0 that FRZ_TIME reads: an error, for the write has moved the record over. -/
theorem staleFreeze_counts : ((State.write staleFreeze pgDevice 0x090 8 0).dev.page pgDevice).errCount = 1 := by decide +kernel

/-- FRZ_TIME, which is read-only, takes the 0 that it reads without an error. -/
theorem staleFreeze_merge : (mergeFields (roReg 0x090 [(0, 64)]).flds (staleFreeze.dev.reg pgDevice 0x090) (staleFreeze.seen pgDevice 0x090) 0).2 = [] := by
  decide +kernel

/-- Refutes O5: in `staleFreeze` the resettable part holds a freeze record that the always-on domain does not, so the write of FRZ_TIME that gives back
what it reads is counted as a change of a read-only field. -/
theorem not_registerWrites : ¬ Obligations.RegisterWrites := by
  unfold Obligations.RegisterWrites
  rintro ⟨⟨hstore, -⟩, -⟩
  obtain ⟨hreach, halone⟩ := staleFreeze_reaches
  obtain ⟨u, hu, -, -, hkept, -⟩ := hstore staleFreeze pgDevice 0x090 0 .device (roReg 0x090 [(0, 64)]) hreach halone (by decide) (by decide +kernel) trivial
    (by decide) (by decide) (by decide) (by decide) (by decide +kernel) (by decide +kernel)
  have hrow : exec (.registerWrite pgDevice 0x090 8 0) staleFreeze = .next (State.write staleFreeze pgDevice 0x090 8 0) :=
    congrArg Host.Outcome.next (State.actAll_up _ hreach.1)
  rw [hrow] at hu
  cases hu
  have hcount := congrArg PageHdr.errCount (hkept staleFreeze_merge)
  rw [staleFreeze_counts] at hcount
  exact absurd hcount (by decide +kernel)

end Sys2Proof.Machine
end

section
/-! Accesses of the host by halves (R63 to R66), and the reads that clear (R9, R790): O6. -/

namespace Sys2Proof.Machine
open Sys2Proof

variable {s : State} {p off : Nat}

/-! ### Writes by halves -/

/-- The page is one of the 202 pages, and not of the MSI-X table. -/
theorem page_ne_msix (hp : p < 202) : ¬ (p = pgMsix ∨ p = pgPba) := by
  unfold pgMsix pgPba
  omega

/-- A low half goes into the page's buffer, from which any other half has been dropped. -/
theorem State.write_low (ha : s.answers p = true) (hp : p < 202) (ho : off % 8 = 0) (hl : off < 0x800) (hr : regHere p off = true)
    (hw : ∀ b l, (s.dev.page p).wbuf = some (b, l) → b % 8 = 0) (v : Word) :
    s.write p off 4 v = (s.onDev fun d => d.splitLost p).onDev fun d => d.onPage p fun h => { h with wbuf := some (off, BitVec.ofNat 32 v.toNat) } := by
  have hb : off / 8 * 8 = off := by omega
  have h4 : off % 4 = 0 := by omega
  have hlive : ¬ 0x800 ≤ off := by omega
  rcases hbuf : (s.dev.page p).wbuf with _ | ⟨b, l⟩
  · simp [State.write, page_ne_msix hp, ha, hp.not_ge, hbuf, hb, h4, ho, hlive, hr]
  · have hoff : off ≠ b + 4 := fun h => by have := hw b l hbuf; omega
    simp [State.write, page_ne_msix hp, ha, hp.not_ge, hbuf, hb, h4, ho, hlive, hr, hoff]

/-- The high half of the register whose low half is held acts as one whole write. -/
theorem State.write_high (ha : s.answers p = true) (hp : p < 202) (ho : off % 8 = 0) (hl : off < 0x800) (hr : regHere p off = true) {lo : BitVec 32}
    (hw : (s.dev.page p).wbuf = some (off, lo)) (v : Word) :
    s.write p (off + 4) 4 v = (s.onDev fun d => d.onPage p fun h => { h with wbuf := none }).storeAt p off (fmk 0 32 lo.toNat ||| fmk 32 32 v.toNat) := by
  have hb : (off + 4) / 8 * 8 = off := by omega
  have h4 : (off + 4) % 4 = 0 := by omega
  have h8 : (off + 4) % 8 ≠ 0 := by omega
  have hlive : ¬ 0x800 ≤ off := by omega
  simp [State.write, page_ne_msix hp, ha, hp.not_ge, hw, hb, h4, h8, hlive, hr]

/-- A high half without its low half is counted. -/
theorem State.write_unpaired (ha : s.answers p = true) (hp : p < 202) (ho : off % 8 = 0) (hl : off < 0x800) (hr : regHere p off = true)
    (hw : (s.dev.page p).wbuf = none) (v : Word) : s.write p (off + 4) 4 v = (s.setDev s.dev).onDev fun d => d.err p .halfUnpaired := by
  have hb : (off + 4) / 8 * 8 = off := by omega
  have h4 : (off + 4) % 4 = 0 := by omega
  have h8 : (off + 4) % 8 ≠ 0 := by omega
  have hlive : ¬ 0x800 ≤ off := by omega
  simp [State.write, page_ne_msix hp, ha, hp.not_ge, hw, hb, h4, h8, hlive, hr, State.onDev, Dev.splitLost_none hw]

/-- A whole write of a register. -/
theorem State.write_whole (ha : s.answers p = true) (hp : p < 202) (ho : off % 8 = 0) (hl : off < 0x800) (hr : regHere p off = true)
    (hw : (s.dev.page p).wbuf = none) (v : Word) : s.write p off 8 v = (s.setDev s.dev).storeAt p off v := by
  have hb : off / 8 * 8 = off := by omega
  have hlive : ¬ 0x800 ≤ off := by omega
  simp [State.write, page_ne_msix hp, ha, hp.not_ge, hw, hb, ho, hlive, hr, State.onDev, Dev.splitLost_none hw]

theorem State.setDev_self_twice (s : State) (d : Dev) : (s.setDev d).setDev d = s.setDev d := s.setDev_setDev rfl

theorem wbuf_onPage (d : Dev) (p : Nat) (x : Option (Nat × BitVec 32)) : ((d.onPage p fun h => { h with wbuf := x }).page p).wbuf = x := by
  rw [Dev.page_onPage, if_pos rfl]

/-- 32 bits read back as they were put in. -/
theorem ofNat_fmk_low (x : BitVec 32) : BitVec.ofNat 32 (fmk 0 32 x.toNat).toNat = x := by
  apply BitVec.eq_of_toNat_eq
  have hx := x.isLt
  simp only [fmk, BitVec.toNat_ofNat, Nat.shiftLeft_zero]
  omega

theorem fmk_high (x : BitVec 32) : fmk 32 32 (fmk 0 32 x.toNat).toNat = fmk 32 32 x.toNat := by
  have hx := x.isLt
  have hlow : (fmk 0 32 x.toNat).toNat = x.toNat := by
    simp only [fmk, BitVec.toNat_ofNat, Nat.shiftLeft_zero]
    omega
  rw [hlow]

theorem splitWritePairsHalves : SplitWritePairsHalves := by
  intro s p off lo hi hup ha hp ho hl hr
  refine ⟨fun hw => ?_, fun hw => ?_, fun hw => ?_, fun b l hb hw => ?_, fun o x => congrArg Host.Outcome.next (State.actAll_up _ hup)⟩
  · refine ⟨_, congrArg Host.Outcome.next ((State.actAll_up _ hup).trans (State.write_low ha hp ho hl hr (by simp [hw]) _)), ?_⟩
    rw [ofNat_fmk_low, State.onDev, State.onDev, State.setDev_dev, Dev.splitLost_none hw, State.setDev_setDev _ (by rfl)]
    exact pageBecomes_setDev ((Dev.OnlyPage.refl s.dev p).onPage _)
  · refine congrArg Host.Outcome.next ((State.actAll_up _ hup).trans ((State.write_high ha hp ho hl hr hw _).trans ?_))
    rw [fmk_high]
    obtain ⟨t, ht⟩ : ∃ t, t = s.onDev fun d => d.onPage p fun h => { h with wbuf := none } := ⟨_, rfl⟩
    have htup : t.up = true := by rw [ht]; exact hup
    have hta : t.answers p = true := by rw [ht]; exact ha
    have htw : (t.dev.page p).wbuf = none := by rw [ht]; exact wbuf_onPage _ _ _
    have hself : t.setDev t.dev = t := by rw [ht]; exact State.setDev_self_twice _ _
    rw [← ht, State.actAll_up _ htup, State.write_whole hta hp ho hl hr htw, hself]
  · refine ⟨_, congrArg Host.Outcome.next ((State.actAll_up _ hup).trans (State.write_unpaired ha hp ho hl hr hw _)), ?_⟩
    rw [State.onDev, State.setDev_dev, State.setDev_setDev _ (by rfl)]
    exact pageBecomes_setDev ((Dev.OnlyPage.refl s.dev p).err _)
  · have hlost : s.dev.splitLost p = (s.dev.onPage p fun h => { h with wbuf := none }).err p .splitLost := by simp [Dev.splitLost, hw]
    obtain ⟨t, ht⟩ : ∃ t, t = s.onDev fun d => (d.onPage p fun h => { h with wbuf := none }).err p .splitLost := ⟨_, rfl⟩
    have htup : t.up = true := by rw [ht]; exact hup
    have hta : t.answers p = true := by rw [ht]; exact ha
    have htw : (t.dev.page p).wbuf = none := by
      rw [ht, State.onDev, State.setDev_dev, Dev.page_err, if_pos rfl]
      exact wbuf_onPage _ _ _
    have hself : t.setDev t.dev = t := by rw [ht]; exact State.setDev_self_twice _ _
    have hdrop : (s.onDev fun d => d.splitLost p) = t := by rw [ht, State.onDev, hlost, State.onDev]
    have hkeep : (t.onDev fun d => d.splitLost p) = t := by rw [State.onDev, Dev.splitLost_none htw, hself]
    have hleft := State.write_low ha hp ho hl hr (v := fmk 0 32 lo.toNat) fun b' l' h => by
      rw [hw] at h
      cases h
      exact hb
    have hright := State.write_low hta hp ho hl hr (v := fmk 0 32 lo.toNat) (by simp [htw])
    refine congrArg Host.Outcome.next ((State.actAll_up _ hup).trans (hleft.trans ?_))
    rw [← ht, State.actAll_up _ htup, hright, hdrop, hkeep]

/-! ### Reads -/

/-- A register that a read leaves as it is. -/
theorem State.onRead_plain (h1 : p ≠ pgPcie ∨ PType.pcie.isCounter off = false) (h2 : p ≠ pgQuartz ∨ off ≠ 0x048) : s.onRead p off = s := by
  unfold State.onRead
  rw [if_neg (by rintro ⟨hp, ho⟩; rcases h2 with h | h; exact h hp; exact h ho)]
  rw [if_neg (by rintro ⟨hp, ho⟩; rcases h1 with h | h; exact h hp; rw [h] at ho; cases ho)]

theorem State.consume_plain (h1 : off ≠ 0x038) (h2 : p ≠ pgErrlog ∨ off ≠ 0x070) : s.consume p off = s := by
  unfold State.consume
  rw [if_neg h1, if_neg (by rintro ⟨hp, ho⟩; rcases h2 with h | h; exact h hp; exact h ho)]

/-- A read of a low half fills the latch. -/
theorem State.readHalf_low (ha : s.answers p = true) (ho : off % 8 = 0) (hl : off < 0x800) (hr : regHere p off = true) (hread : s.onRead p off = s) :
    s.readHalf p off = (s.setDev (s.dev.onPage p fun h => { h with latch := some (off, BitVec.ofNat 32 (fld (s.seen p off) 32 32)) }),
      fmk 0 32 (fld (s.seen p off) 0 32)) := by
  have hb : off / 8 * 8 = off := by omega
  have h4 : off % 4 = 0 := by omega
  simp [State.readHalf, State.halfWord, ha, hb, h4, ho, show ¬ 0x800 ≤ off by omega, hr, hread]

/-- A read of the high half gives and empties the latch of its register. -/
theorem State.readHalf_latched (ha : s.answers p = true) (ho : off % 8 = 0) (hl : off < 0x800) (hr : regHere p off = true) (hread : s.onRead p off = s)
    {hi : BitVec 32} (hlatch : (s.dev.page p).latch = some (off, hi)) :
    s.readHalf p (off + 4) = ((s.setDev (s.dev.onPage p fun h => { h with latch := none })).consume p off, fmk 0 32 hi.toNat) := by
  have hb : (off + 4) / 8 * 8 = off := by omega
  have h4 : (off + 4) % 4 = 0 := by omega
  have h8 : (off + 4) % 8 ≠ 0 := by omega
  simp [State.readHalf, State.halfWord, ha, hb, h4, h8, show ¬ 0x800 ≤ off by omega, hr, hread, hlatch]

/-- With another latch, or none, it gives the live high half. -/
theorem State.readHalf_live (ha : s.answers p = true) (ho : off % 8 = 0) (hl : off < 0x800) (hr : regHere p off = true) (hread : s.onRead p off = s)
    (hlatch : ∀ hi, (s.dev.page p).latch ≠ some (off, hi)) : s.readHalf p (off + 4) = (s, fmk 0 32 (fld (s.seen p off) 32 32)) := by
  have hb : (off + 4) / 8 * 8 = off := by omega
  have h4 : (off + 4) % 4 = 0 := by omega
  have h8 : (off + 4) % 8 ≠ 0 := by omega
  rcases hlat : (s.dev.page p).latch with _ | ⟨b, hi⟩
  · simp [State.readHalf, State.halfWord, ha, hb, h4, h8, show ¬ 0x800 ≤ off by omega, hr, hread, hlat]
  · have hne : b ≠ off := fun h => hlatch hi (h ▸ hlat)
    simp [State.readHalf, State.halfWord, ha, hb, h4, h8, show ¬ 0x800 ≤ off by omega, hr, hread, hlat, hne]

theorem State.readWhole_reg (ha : s.answers p = true) (ho : off % 8 = 0) (hl : off < 0x800) (hr : regHere p off = true) (hread : s.onRead p off = s) :
    s.readWhole p off = (s.consume p off, s.seen p off) := by
  simp [State.readWhole, ha, ho, show ¬ 0x800 ≤ off by omega, hr, hread]

theorem State.read_half (hp : p < 202) (off : Nat) : s.read p off 4 = s.readHalf p off := by simp [State.read, page_ne_msix hp]
theorem State.read_whole (hp : p < 202) (off : Nat) : s.read p off 8 = s.readWhole p off := by simp [State.read, page_ne_msix hp]

/-- An access that is none reads 0 and is counted (R63). -/
theorem State.read_bad (ha : s.answers p = true) (hp : p < 202) {o n : Nat} (hn : (n ≠ 4 ∧ n ≠ 8) ∨ o % n ≠ 0) :
    s.read p o n = (s.setDev (s.dev.err p .badAccess), 0) := by
  unfold State.read
  rw [if_neg (page_ne_msix hp)]
  by_cases h8 : n = 8
  · subst h8
    have ho : o % 8 ≠ 0 := by omega
    simp [State.readWhole, ha, ho]
  · rw [if_neg h8]
    by_cases h4 : n = 4
    · subst h4
      have ho : o % 4 ≠ 0 := by omega
      simp [State.readHalf, ha, ho]
    · simp [h4, ha, hp]

theorem readOut_out (s : State) (d : Dev) (w : Word) : (readOut (s.setDev d, w)).dev.ctl.out = d.ctl.out ++ [.readData w] := rfl

theorem splitReadLatches : SplitReadLatches := by
  intro s p off hup ha hp ho hl hr h1 h2 h3 h4
  have hread : s.onRead p off = s := State.onRead_plain h1 h2
  refine ⟨⟨_, congrArg Host.Outcome.next (State.actAll_up _ hup), ?_⟩, fun hi hlatch => ⟨_, congrArg Host.Outcome.next (State.actAll_up _ hup), ?_⟩, fun hlatch => ?_, ?_,
    fun o n hn => ⟨_, congrArg Host.Outcome.next (State.actAll_up _ hup), ?_⟩, fun o n => congrArg Host.Outcome.next (State.actAll_up _ hup)⟩
  · rw [State.read_half hp, State.readHalf_low ha ho hl hr hread]
    exact ⟨by simp [readOut, State.onDev], readOut_out _ _ _, rfl⟩
  · rw [State.read_half hp, State.readHalf_latched ha ho hl hr hread hlatch, State.consume_plain h3 h4]
    exact ⟨by simp [readOut, State.onDev], readOut_out _ _ _, rfl⟩
  · refine congrArg Host.Outcome.next ((State.actAll_up _ hup).trans ?_)
    rw [State.read_half hp, State.readHalf_live ha ho hl hr hread hlatch]
    rfl
  · refine congrArg Host.Outcome.next ((State.actAll_up _ hup).trans ?_)
    rw [State.read_whole hp, State.readWhole_reg ha ho hl hr hread, State.consume_plain h3 h4]
    rfl
  · rw [State.read_bad ha hp hn]
    exact ⟨by simp [readOut, State.onDev, PageHdr.counted, Dev.page_err], readOut_out _ _ _, rfl⟩

/-! ### Reads that clear -/

theorem regHere_header (hp : p < 202) {g : Reg} (hg : headerRegs.find? (fun r => inRun off (r.off, r.n, r.stride)) = some g) : regHere p off = true := by
  obtain ⟨t, ht⟩ := exists_pageType hp
  simp [regHere, ht, t.regAt_header hg]

theorem State.seen_err (s : State) (hp : p < 202) : s.seen p 0x038 = (s.dev.page p).errWord := by
  obtain ⟨t, ht⟩ := exists_pageType hp
  simp [State.seen, ht, State.headerRead]

theorem State.consume_err (s : State) (p : Nat) : s.consume p 0x038 = s.setDev (s.dev.onPage p fun h => { h with errCount := 0, errLast := 0 }) := rfl

theorem readToClear : ReadToClear := by
  intro s p hup ha hp
  have hread : s.onRead p 0x038 = s := State.onRead_plain (Or.inr (by decide)) (Or.inr (by decide))
  have hr : regHere p 0x038 = true := regHere_header hp rfl
  have hlog : s.answers pgErrlog = true := by simp [State.answers, earlyPages, pgErrlog]
  have hreadlog : s.onRead pgErrlog 0x070 = s := State.onRead_plain (Or.inl (by decide)) (Or.inl (by decide))
  have hrlog : regHere pgErrlog 0x070 = true := by decide +kernel
  refine ⟨⟨_, congrArg Host.Outcome.next (State.actAll_up _ hup), ?_⟩, ⟨_, congrArg Host.Outcome.next (State.actAll_up _ hup), ?_⟩,
    fun hi hlatch => ⟨_, congrArg Host.Outcome.next (State.actAll_up _ hup), ?_⟩, congrArg Host.Outcome.next ((State.actAll_up _ hup).trans ?_),
    ⟨_, congrArg Host.Outcome.next (State.actAll_up _ hup), ?_⟩, fun how => congrArg Host.Outcome.next (State.actAll_up _ hup),
    fun how => congrArg Host.Outcome.next (State.actAll_up _ hup)⟩
  · rw [State.readBy, State.readWhole_reg ha (by decide) (by decide) hr hread, State.consume_err, State.seen_err s hp]
    exact ⟨readOut_out _ _ _, by simp [readOut, State.onDev]⟩
  · rw [State.readBy, State.readHalf_low ha (by decide) (by decide) hr hread, State.seen_err s hp]
    simp [readOut, State.onDev]
  · rw [State.readBy, State.readHalf_latched ha (by decide) (by decide) hr hread hlatch, State.consume_err]
    exact ⟨readOut_out _ _ _, by simp [readOut, State.onDev]⟩
  · rw [State.readBy, State.readWhole_reg hlog (by decide) (by decide) hrlog hreadlog]
    have hconsume : s.consume pgErrlog 0x070 = s.setDev s.dev.headConsume := rfl
    rw [hconsume]
    exact s.setDev_setDev rfl
  · rw [State.readBy, State.readHalf_low hlog (by decide) (by decide) hrlog hreadlog]
    exact ⟨rfl, by simp [readOut, State.onDev]⟩

/-- Settles O6: each access by what the page holds of a half. -/
theorem splitAccesses : Obligations.SplitAccesses := ⟨splitWritePairsHalves, splitReadLatches, readToClear⟩

end Sys2Proof.Machine
end

section
/-! Shadow registers and commit groups (R70 to R78): O7. -/

namespace Sys2Proof.Machine
open Sys2Proof

variable {s : State} {d e : Dev} {p off g : Nat}

/-! ### A write where no partner is told -/

theorem State.relayWrite_alone {s0 : State} (h : s.dev.joined = false) (p off : Nat) (v : Word) : State.relayWrite s0 s p off v = s := by
  simp [State.relayWrite, h]

theorem State.secondaryRefuses_alone (h : Alone s) (p off : Nat) : s.secondaryRefuses p off = false := by
  simp [State.secondaryRefuses, h.1]

/-- A whole write of a shadow register. -/
theorem Reaches.write_shadow (h : Reaches s p) {t : PType} {r : Reg} (ht : pageType p = some t) (hr : t.regAt off = some r) (ho : off % 8 = 0) (v : Word) :
    s.write p (off + 0x800) 8 v = (s.setDev s.dev).storeAt p (off + 0x800) v := by
  obtain ⟨-, ha, hp, hw⟩ := h
  have hb : (off + 0x800) / 8 * 8 = off + 0x800 := by omega
  have h8 : (off + 0x800) % 8 = 0 := by omega
  have hhere : regHere p off = true := by simp [regHere, ht, hr]
  simp [State.write, page_ne_msix hp, ha, hp.not_ge, hw, hb, h8, hhere, State.onDev, Dev.splitLost_none hw]

theorem State.storeAt_shadow {t : PType} {r : Reg} (ht : pageType p = some t) (hr : t.regAt off = some r) (v : Word) :
    s.storeAt p (off + 0x800) v =
      if r.rws = false then s.onDev fun d => d.err p .noShadow
      else if s.secondaryRefuses p off = true then s.onDev fun d => d.err p .badState
      else State.relayWrite s (s.store p t r off true v) p (off + 0x800) v := by
  cases hrws : r.rws <;> simp [State.storeAt, ht, hr, hrws]

theorem State.store_shadow {t : PType} {r : Reg} (h40 : 0x048 ≤ off) (hi : s.pageState p ≠ .isolated) (hx : s.pageState p ≠ .testing) (v : Word) :
    s.store p t r off true v = s.onDev fun d => d.shadowStore p r off v := by
  simp [State.store, show ¬ off < 0x040 by omega, hi, hx]

theorem Dev.joined_of_pair (h : e.pair = d.pair) : e.joined = d.joined := by rw [Dev.joined, Dev.joined, h]

theorem Dev.Noted.pair (h : d.Noted e) : e.pair = d.pair := by rw [h]
theorem Dev.Noted.frz_errs (d : Dev) (p : Nat) (l : List ErrCode) : (d.errs p l).obs = d.obs := by
  unfold Dev.errs
  generalize l.eraseDups = l
  induction l generalizing d with
  | nil => rfl
  | cons c l ih => exact (ih _).trans rfl

/-- Errors counted on a page change its header alone. -/
theorem Dev.errs_onlyPage (d : Dev) (p : Nat) (l : List ErrCode) :
    (d.errs p l).ctl.regs = d.ctl.regs ∧ (d.errs p l).ctl.shadow = d.ctl.shadow ∧ ∀ q, q ≠ p → (d.errs p l).page q = d.page q := by
  unfold Dev.errs
  generalize l.eraseDups = l
  induction l generalizing d with
  | nil => exact ⟨rfl, rfl, fun _ _ => rfl⟩
  | cons c l ih =>
    obtain ⟨hr, hs, hp⟩ := ih (d.err p c)
    exact ⟨hr, hs, fun q hq => (hp q hq).trans (by rw [Dev.page_err, if_neg hq])⟩

theorem shadowReg_errs (d : Dev) (p : Nat) (l : List ErrCode) (q o : Nat) : (d.errs p l).shadowReg q o = d.shadowReg q o := by
  rw [Dev.shadowReg, (d.errs_onlyPage p l).2.1, Dev.shadowReg]

theorem shadowWrite : ShadowWrite := by
  intro s p off v t r h halone ht hr h48 h800 ho
  have hrow : exec (.shadowWrite p off v) s = .next ((s.setDev s.dev).storeAt p (off + 0x800) v) :=
    congrArg Host.Outcome.next ((State.actAll_up _ h.1).trans (h.write_shadow ht hr ho v))
  have halone' : Alone (s.setDev s.dev) := halone
  have hstore : r.rws = true → (s.setDev s.dev).storeAt p (off + 0x800) v = State.relayWrite (s.setDev s.dev) ((s.setDev s.dev).store p t r off true v) p (off + 0x800) v :=
    fun hrws => by
      rw [State.storeAt_shadow ht hr, if_neg (by simp [hrws]), if_neg (by simp [State.secondaryRefuses_alone halone'])]
  refine ⟨fun hrws hi hx hl => ?_, fun hrws hi hx hl => ?_, fun hrws => ?_⟩
  · have hkept : (s.dev.shadowStore p r off v) = (s.dev.setShadow p off (mergeFields r.flds (s.dev.shadowReg p off) (s.dev.shadowReg p off) v).1).errs p
        (mergeFields r.flds (s.dev.shadowReg p off) (s.dev.shadowReg p off) v).2 := by simp [Dev.shadowStore, hl]
    refine ⟨_, hrow, ?_⟩
    rw [hstore hrws, State.store_shadow (s := s.setDev s.dev) h48 hi hx, State.relayWrite_alone]
    · rw [State.onDev, State.setDev_dev, State.setDev_dev, hkept]
      refine ⟨(Dev.errs_onlyPage _ _ _).1, by rw [shadowReg_errs, Dev.shadowReg_setShadow, if_pos rfl], fun q o ho4 hne => ?_⟩
      rw [shadowReg_errs, Dev.shadowReg_setShadow, if_neg]
      rw [regKey_inj ho4 (by omega)]
      rintro ⟨rfl, rfl⟩
      exact hne.elim (fun h => h rfl) fun h => h rfl
    · rw [State.onDev, State.setDev_dev, State.setDev_dev, hkept]
      exact (Dev.joined_of_pair (Dev.errs_noted _ _ _).pair).trans halone.2
  · have hrefused : s.dev.shadowStore p r off v = s.dev.err p .locked := by simp [Dev.shadowStore, hl]
    refine ⟨_, hrow, ?_⟩
    rw [hstore hrws, State.store_shadow (s := s.setDev s.dev) h48 hi hx, State.relayWrite_alone]
    · rw [State.onDev, State.setDev_dev, hrefused, State.setDev_setDev _ (by rfl)]
      exact pageBecomes_setDev ((Dev.OnlyPage.refl s.dev p).err _)
    · rw [State.onDev, State.setDev_dev, State.setDev_dev, hrefused]
      exact halone.2
  · refine ⟨_, hrow, ?_⟩
    rw [State.storeAt_shadow ht hr, if_pos hrws, State.onDev, State.setDev_dev, State.setDev_setDev _ (by rfl)]
    exact pageBecomes_setDev ((Dev.OnlyPage.refl s.dev p).err _)

/-! ### PAGE_COMMIT, COMMIT_GROUP and CANCEL_COMMIT -/

/-- PAGE_COMMIT is written in every state of the page, by a unit that follows no partner. -/
theorem Reaches.write_commit (h : Reaches s p) (halone : Alone s) (v : Word) (hj : (s.dev.writeCommit p v).joined = false) :
    exec (.pageCommitWrite p v) s = .next ((s.setDev s.dev).setDev (s.dev.writeCommit p v)) := by
  obtain ⟨t, ht⟩ := exists_pageType h.lt
  have hg : ∃ g, t.regAt 0x030 = some g := ⟨_, t.regAt_header rfl⟩
  obtain ⟨g, hg⟩ := hg
  have hrefuses : (s.setDev s.dev).secondaryRefuses p 0x030 = false := State.secondaryRefuses_alone (s := s.setDev s.dev) halone _ _
  have hstore : (s.setDev s.dev).store p t g 0x030 false v = (s.setDev s.dev).setDev (s.dev.writeCommit p v) := by simp [State.store, State.headerWrite, State.onDev]
  refine congrArg Host.Outcome.next ((State.actAll_up _ h.1).trans ((h.write ht hg (by decide) (by decide) v).trans ?_))
  simp only [State.storeAt, ht, hg, hrefuses, show ¬ 0x800 ≤ 0x030 by decide, decide_false, Bool.false_and, Bool.false_eq_true, if_false, hstore]
  exact State.relayWrite_alone (s := (s.setDev s.dev).setDev (s.dev.writeCommit p v)) hj _ _ _

/-- GROUP, BOUND and ARM as they are written while the page is not LOCKED. -/
theorem Dev.writeCommit_open {v : Word} (hl : (s.dev.page p).locked = false) (hr : fld v 7 57 = 0) (h6 : bit v 6 = false) :
    s.dev.writeCommit p v = s.dev.onPage p fun h => if h.locked then h else { h with group := fld v 0 4, bound := bit v 4, arm := bit v 5 } := by
  simp [Dev.writeCommit, hl, hr, h6]

theorem Dev.writeCommit_locked {v : Word} (hl : (s.dev.page p).locked = true) (hr : fld v 7 57 = 0) (h6 : bit v 6 = true)
    (hne : fld v 0 4 ≠ (s.dev.page p).group ∨ bit v 4 ≠ (s.dev.page p).bound ∨ bit v 5 ≠ (s.dev.page p).arm) : s.dev.writeCommit p v = s.dev.err p .locked := by
  have hchange : (fld v 0 4 != (s.dev.page p).group || bit v 4 != (s.dev.page p).bound || bit v 5 != (s.dev.page p).arm) = true := by
    simpa [or_assoc] using hne
  simp only [Dev.writeCommit, hl, hr, h6, if_true, Bool.true_and, hchange]

theorem pageCommitWrite_becomes (h : Reaches s p) (halone : Alone s) (v : Word) (hr : fld v 7 57 = 0) :
    ((s.dev.page p).locked = false → bit v 6 = false →
      ∃ u, exec (.pageCommitWrite p v) s = .next u ∧ PageBecomes s u p { s.dev.page p with group := fld v 0 4, bound := bit v 4, arm := bit v 5 }) ∧
    ((s.dev.page p).locked = true → bit v 6 = true → (fld v 0 4 ≠ (s.dev.page p).group ∨ bit v 4 ≠ (s.dev.page p).bound ∨ bit v 5 ≠ (s.dev.page p).arm) →
      ∃ u, exec (.pageCommitWrite p v) s = .next u ∧ PageBecomes s u p ((s.dev.page p).counted .locked)) := by
  refine ⟨fun hl h6 => ⟨_, h.write_commit halone v ?_, ?_⟩, fun hl h6 hne => ⟨_, h.write_commit halone v ?_, ?_⟩⟩
  · rw [Dev.writeCommit_open hl hr h6]
    exact halone.2
  · rw [Dev.writeCommit_open hl hr h6, State.setDev_setDev _ (by rfl)]
    have honly := (Dev.OnlyPage.refl s.dev p).onPage fun h => if h.locked then h else { h with group := fld v 0 4, bound := bit v 4, arm := bit v 5 }
    rw [if_neg (by simp [hl])] at honly
    exact pageBecomes_setDev honly
  · rw [Dev.writeCommit_locked hl hr h6 hne]
    exact halone.2
  · rw [Dev.writeCommit_locked hl hr h6 hne, State.setDev_setDev _ (by rfl)]
    exact pageBecomes_setDev ((Dev.OnlyPage.refl s.dev p).err _)

theorem find_insertBy {α : Type} (lt : Nat × α → Nat × α → Bool) (g : Nat) (y : α) (l : List (Nat × α)) (h : ∀ e ∈ l, e.1 ≠ g) :
    (insertBy lt (g, y) l).find? (fun e => e.1 == g) = some (g, y) := by
  induction l with
  | nil => simp [insertBy]
  | cons x t ih =>
    unfold insertBy
    split
    · simp
    · rw [List.find?_cons_of_neg (by simpa using h x List.mem_cons_self)]
      exact ih fun e he => h e (List.mem_cons_of_mem _ he)

theorem Dev.group_setGroup_same (d : Dev) (g : Nat) (x : Option Group) : (d.setGroup g x).group g = x := by
  have hrest : ∀ e ∈ d.ctl.groups.filter (fun e => e.1 != g), e.1 ≠ g := fun e he => by simpa using (List.mem_filter.1 he).2
  cases x with
  | none =>
    have hnone : (d.ctl.groups.filter fun e => e.1 != g).find? (fun e => e.1 == g) = none := by
      rw [List.find?_eq_none]
      exact fun e he => by simpa using hrest e he
    simp [Dev.group, Dev.setGroup, hnone]
  | some y => simp [Dev.group, Dev.setGroup, find_insertBy _ g y _ hrest]

/-- Headers changed one page after the other. -/
theorem Dev.page_foldl_onPage (ps : List Nat) (f : PageHdr → PageHdr) (hf : ∀ h, f (f h) = f h) (d : Dev) (q : Nat) :
    (ps.foldl (fun d p => d.onPage p f) d).page q = if q ∈ ps then f (d.page q) else d.page q := by
  induction ps generalizing d with
  | nil => simp
  | cons p ps ih =>
    rw [List.foldl_cons, ih, Dev.page_onPage]
    by_cases hq : q = p
    · subst hq
      simp [hf]
    · simp [hq]

theorem Dev.foldl_onPage_regs (ps : List Nat) (f : PageHdr → PageHdr) (d : Dev) :
    ps.foldl (fun d p => d.onPage p f) d = { d with ctl := { d.ctl with pages := (ps.foldl (fun d p => d.onPage p f) d).ctl.pages } } := by
  induction ps generalizing d with
  | nil => rfl
  | cons p ps ih => rw [List.foldl_cons, ih]; rfl

/-- An accepted command's effect with its completion posted. -/
theorem Accepts.completes {o : OpSpec} {c : HostCmd} {t : State} (h : Accepts o c s) {n : Nat} {v : Word} (he : o.effect c s = (t, .done .ok n v)) :
    ∃ u, runCmd o c s = u ∧ t.Answered u := by
  refine ⟨_, h.runs, ?_⟩
  rw [OpSpec.done, he]
  exact ⟨t.setDev_aon _, Dev.complete_completed _ _ _ _ _⟩

/-- An accepted command that waits: its effect, with the wait added. -/
theorem Accepts.waits {o : OpSpec} {c : HostCmd} {t : State} (h : Accepts o c s) {j x : Nat} (he : o.effect c s = (t, .later j x)) :
    runCmd o c s = t.setDev { t.dev with ctl := { t.dev.ctl with waits := t.dev.ctl.waits ++ [⟨o.token c s, j, x, t.dev.now, o.isLate c s⟩] } } := by
  rw [h.runs, OpSpec.done, he]
  rfl

theorem Dev.Completed.group (h : d.Completed e) (g : Nat) : e.group g = d.group g := by rw [h]; rfl
theorem Dev.Completed.regs (h : d.Completed e) : e.ctl.regs = d.ctl.regs := by rw [h]
theorem Dev.Completed.shadow (h : d.Completed e) : e.ctl.shadow = d.ctl.shadow := by rw [h]

/-- The pages of a group locked, and RENDER's table kept. -/
def Dev.lockGroup (d : Dev) (ps : List Nat) (l : List Byte) : Dev :=
  let d := ps.foldl (fun (d : Dev) p => d.onPage p fun h => { h with locked := true }) d
  if ps.contains pgRender then d.objTableKeep l else d

theorem Dev.lockGroup_ctl (d : Dev) (ps : List Nat) (l : List Byte) :
    (d.lockGroup ps l).ctl = (ps.foldl (fun (d : Dev) p => d.onPage p fun h => { h with locked := true }) d).ctl := by
  unfold Dev.lockGroup
  dsimp only
  split <;> rfl

theorem Dev.lockGroup_page (d : Dev) (ps : List Nat) (l : List Byte) (p : Nat) :
    (d.lockGroup ps l).page p = if p ∈ ps then { d.page p with locked := true } else d.page p := by
  have h := Dev.page_foldl_onPage ps (fun h => { h with locked := true }) (fun _ => rfl) d p
  rw [Dev.page] at h ⊢
  rw [Dev.lockGroup_ctl]
  exact h

theorem commitGroup_accepted (c : HostCmd) (h : Accepts commitGroupSpec c s) :
    ∃ u, exec (.commitGroup c) s = .next u ∧
      (∀ p, (u.dev.page p).locked = ((s.dev.armedPages (c.arg 0 1)).contains p || (s.dev.page p).locked)) ∧
      (∃ x, u.dev.group (c.arg 0 1) = some x ∧ x.pages = s.dev.armedPages (c.arg 0 1) ∧ x.applied = 0) ∧
      u.dev.ctl.regs = s.dev.ctl.regs ∧ u.dev.ctl.shadow = s.dev.ctl.shadow := by
  generalize hps : s.dev.armedPages (c.arg 0 1) = ps
  obtain ⟨x, l, hx, hn, he⟩ : ∃ (x : Group) (l : List Byte), x.pages = ps ∧ x.applied = 0 ∧
      commitGroupSpec.effect c s = (s.setDev ((s.dev.lockGroup ps l).setGroup (c.arg 0 1) (some x)), .later (c.arg 0 1) 0) := by
    rw [← hps]
    exact ⟨⟨_, _, _, _, _, _⟩, _, rfl, rfl, rfl⟩
  refine ⟨_, congrArg Host.Outcome.next (h.waits he), fun p => ?_, ⟨x, ?_, hx, hn⟩, ?_, ?_⟩
  · change ((s.dev.lockGroup ps l).page p).locked = _
    rw [Dev.lockGroup_page]
    by_cases hp : p ∈ ps <;> simp [hp]
  · exact (s.dev.lockGroup ps l).group_setGroup_same (c.arg 0 1) (some x)
  · change (s.dev.lockGroup ps l).ctl.regs = _
    rw [Dev.lockGroup_ctl, Dev.foldl_onPage_regs]
  · change (s.dev.lockGroup ps l).ctl.shadow = _
    rw [Dev.lockGroup_ctl, Dev.foldl_onPage_regs]

/-- The pages of a group let go. -/
def Dev.unlockGroup (d : Dev) (ps : List Nat) : Dev :=
  let d := ps.foldl (fun (d : Dev) p => d.onPage p fun h => { h with arm := false, locked := false }) d
  if ps.contains pgRender then { d with render := { d.render with table := none } } else d

theorem Dev.unlockGroup_ctl (d : Dev) (ps : List Nat) :
    (d.unlockGroup ps).ctl = (ps.foldl (fun (d : Dev) p => d.onPage p fun h => { h with arm := false, locked := false }) d).ctl := by
  unfold Dev.unlockGroup
  dsimp only
  split <;> rfl

theorem Dev.unlockGroup_page (d : Dev) (ps : List Nat) (p : Nat) :
    (d.unlockGroup ps).page p = if p ∈ ps then { d.page p with arm := false, locked := false } else d.page p := by
  have h := Dev.page_foldl_onPage ps (fun h => { h with arm := false, locked := false }) (fun _ => rfl) d p
  rw [Dev.page] at h ⊢
  rw [Dev.unlockGroup_ctl]
  exact h

theorem cancelCommit_accepted (c : HostCmd) (x : Group) (h : Accepts cancelCommitSpec c s) (hx : s.dev.group (c.arg 0 1) = some x) :
    ∃ u, exec (.cancelCommit c) s = .next u ∧ u.dev.group (c.arg 0 1) = none ∧
      (∀ p ∈ x.pages, (u.dev.page p).arm = false ∧ (u.dev.page p).locked = false) ∧
      u.dev.ctl.regs = s.dev.ctl.regs ∧ u.dev.ctl.shadow = s.dev.ctl.shadow := by
  generalize hd : (s.dev.unlockGroup x.pages).setGroup (c.arg 0 1) none = d
  have he : cancelCommitSpec.effect c s =
      (s.setDev (d.finish 0x0001 (c.arg 0 1) .aborted x.applied (s.dev.unlockGroup x.pages).freeWord).tickFree,
        .done .ok x.pages.length (d.finish 0x0001 (c.arg 0 1) .aborted x.applied (s.dev.unlockGroup x.pages).freeWord).tickFree.short) := by
    rw [← hd]
    simp only [OpSpec.effect, cancelCommitSpec, devRun, hx]
    rfl
  obtain ⟨u, hu, ha⟩ := h.completes he
  have hfin := d.finish_completed 0x0001 (c.arg 0 1) .aborted x.applied (s.dev.unlockGroup x.pages).freeWord
  have hpage : ∀ p, u.dev.page p = d.page p := fun p => (ha.dev.page p).trans (hfin.page p)
  refine ⟨u, congrArg Host.Outcome.next hu, ?_, fun p hp => ?_, ?_, ?_⟩
  · rw [ha.dev.group]
    refine (hfin.group _).trans ?_
    rw [← hd]
    exact (s.dev.unlockGroup x.pages).group_setGroup_same (c.arg 0 1) none
  · have hlet : d.page p = { s.dev.page p with arm := false, locked := false } := by
      rw [← hd]
      exact (s.dev.unlockGroup_page x.pages p).trans (if_pos hp)
    rw [hpage, hlet]
    exact ⟨rfl, rfl⟩
  · rw [ha.dev.regs]
    refine hfin.regs.trans ?_
    rw [← hd]
    change (s.dev.unlockGroup x.pages).ctl.regs = _
    rw [Dev.unlockGroup_ctl, Dev.foldl_onPage_regs]
  · rw [ha.dev.shadow]
    refine hfin.shadow.trans ?_
    rw [← hd]
    change (s.dev.unlockGroup x.pages).ctl.shadow = _
    rw [Dev.unlockGroup_ctl, Dev.foldl_onPage_regs]

theorem commitGroups : CommitGroups :=
  ⟨fun _ _ v h halone hr => pageCommitWrite_becomes h halone v hr, fun _ c h => commitGroup_accepted c h, fun _ c x h hx => cancelCommit_accepted c x h hx⟩

/-! ### A page goes live -/

/-- What a table of objects read or refused leaves alone. -/
def Dev.TableOnly (d e : Dev) : Prop :=
  e.ctl.regs = d.ctl.regs ∧ e.ctl.shadow = d.ctl.shadow ∧ e.ctl.groups = d.ctl.groups ∧ ∀ p, (e.page p).commitGen = (d.page p).commitGen

theorem Dev.TableOnly.trans {f : Dev} (h : d.TableOnly e) (k : e.TableOnly f) : d.TableOnly f :=
  ⟨k.1.trans h.1, k.2.1.trans h.2.1, k.2.2.1.trans h.2.2.1, fun p => (k.2.2.2 p).trans (h.2.2.2 p)⟩

theorem Dev.tableOnly_raise (d : Dev) (p b r c : Nat) (x y : Word) : d.TableOnly (d.raise p b r c x y) := by
  have hn := d.raise_noted p b r c x y
  refine ⟨by rw [hn], by rw [hn], by rw [hn], fun q => ?_⟩
  by_cases hq : q = p
  · subst hq
    rw [Dev.raise, Dev.page_report, d.page_event_same]
  · rw [d.page_raise_of_ne b r c x y hq]

theorem Dev.tableOnly_foldl {α : Type} (f : Dev → α → Dev) (hf : ∀ (d : Dev) (x : α), d.TableOnly (f d x)) (l : List α) (d : Dev) : d.TableOnly (l.foldl f d) := by
  induction l generalizing d with
  | nil => exact ⟨rfl, rfl, rfl, fun _ => rfl⟩
  | cons x l ih => exact (hf d x).trans (ih _)

theorem Dev.objTableApply_tableOnly (d : Dev) : d.TableOnly d.objTableApply := by
  have hsame : ∀ {d e : Dev}, e.ctl.regs = d.ctl.regs → e.ctl.shadow = d.ctl.shadow → e.ctl.groups = d.ctl.groups → e.ctl.pages = d.ctl.pages → d.TableOnly e :=
    fun h1 h2 h3 h4 => ⟨h1, h2, h3, fun p => by rw [Dev.page, h4, Dev.page]⟩
  have hcount : ∀ (d : Dev) (o i n : Nat), d.TableOnly ((d.inc pgRender o).renderEvent 0 i n) := fun d o i n =>
    (hsame rfl rfl rfl rfl : d.TableOnly (d.inc pgRender o)).trans (Dev.tableOnly_raise _ _ _ _ _ _ _)
  unfold Dev.objTableApply
  split
  · exact hsame rfl rfl rfl rfl
  · dsimp only
    split
    · exact hcount { d with render := { d.render with table := none } } _ _ _
    · next l _ =>
      generalize List.range 1024 = is
      have hobjs := Dev.tableOnly_foldl (fun (d : Dev) (i : Nat) => if (objBad ((l.drop (64 * i)).take 64)).isSome then d
          else d.objChange i (objParse ((l.drop (64 * i)).take 64))) (fun d i => by
        split
        · exact hsame rfl rfl rfl rfl
        · exact hsame rfl rfl rfl rfl) is { d with render := { d.render with table := none } }
      have hread := Dev.TableOnly.trans (hsame rfl rfl rfl rfl : d.TableOnly { d with render := { d.render with table := none } })
        (hobjs.trans (hsame rfl rfl rfl rfl : Dev.TableOnly _ (Dev.inc _ pgRender 0x090)))
      split
      · exact hread
      · exact hread.trans (hcount _ _ _ _)

/-- Registers copied from their shadows. -/
def Dev.copyShadow (d : Dev) (p : Nat) (os : List Nat) : Dev := os.foldl (fun (d : Dev) o => d.setReg p o (d.shadowReg p o)) d

theorem Dev.copyShadow_eq (d : Dev) (p : Nat) (os : List Nat) : d.copyShadow p os = { d with ctl := { d.ctl with regs := (d.copyShadow p os).ctl.regs } } := by
  unfold Dev.copyShadow
  induction os generalizing d with
  | nil => rfl
  | cons o os ih => rw [List.foldl_cons, ih]; rfl

/-- A register whose shadow was copied reads as its shadow, any other as before. -/
theorem Dev.reg_copyShadow (d : Dev) (p : Nat) (os : List Nat) (q o : Nat) :
    (o ∈ os → q = p → (d.copyShadow p os).reg q o = d.shadowReg q o) ∧
    ((∀ a ∈ os, regKey q o ≠ regKey p a) → (d.copyShadow p os).reg q o = d.reg q o) := by
  unfold Dev.copyShadow
  induction os generalizing d with
  | nil => exact ⟨fun h => absurd h List.not_mem_nil, fun _ => rfl⟩
  | cons a os ih =>
    obtain ⟨hin, hout⟩ := ih (d.setReg p a (d.shadowReg p a))
    refine ⟨fun ho hq => ?_, fun hne => ?_⟩
    · rw [List.foldl_cons]
      by_cases h : o ∈ os
      · exact hin h hq
      · have hoa : o = a := (List.mem_cons.1 ho).resolve_right h
        subst hoa hq
        rw [hout fun b hb hk => h ((show o = b by unfold regKey at hk; omega) ▸ hb), Dev.reg_setReg, if_pos rfl]
    · rw [List.foldl_cons, hout fun b hb => hne b (List.mem_cons_of_mem _ hb), Dev.reg_setReg, if_neg (hne a List.mem_cons_self)]

theorem rwsOffs_lt {p o : Nat} (hp : p < 138) (ho : o ∈ rwsOffs p) : o < 4096 := by
  have key : ∀ p : Fin 138, (rwsOffs p).all (fun o => decide (o < 4096)) = true := by decide +kernel
  exact of_decide_eq_true (List.all_eq_true.1 (key ⟨p, hp⟩) o ho)

/-- What a page that goes live keeps and takes (R72). -/
theorem Dev.goLive_spec (d : Dev) (g p : Nat) (b : Time) :
    (d.goLive g p b).ctl.regs = (d.copyShadow p (rwsOffs p)).ctl.regs ∧ (d.goLive g p b).ctl.shadow = d.ctl.shadow ∧
      ((d.goLive g p b).page p).arm = false ∧ ((d.goLive g p b).page p).locked = false ∧
      ((d.goLive g p b).page p).commitGen = ((d.page p).commitGen + 1) % 4294967296 := by
  have hcopy : (d.copyShadow p (rwsOffs p)).ctl.shadow = d.ctl.shadow ∧ (d.copyShadow p (rwsOffs p)).page p = d.page p := by
    rw [d.copyShadow_eq]
    exact ⟨rfl, rfl⟩
  have htable : (d.copyShadow p (rwsOffs p)).TableOnly (if p = pgRender then (d.copyShadow p (rwsOffs p)).objTableApply else d.copyShadow p (rwsOffs p)) := by
    split
    · exact Dev.objTableApply_tableOnly _
    · exact ⟨rfl, rfl, rfl, fun _ => rfl⟩
  have hfold : (rwsOffs p).foldl (fun (d : Dev) o => d.setReg p o (d.shadowReg p o)) d = d.copyShadow p (rwsOffs p) := rfl
  unfold Dev.goLive
  simp only [hfold]
  generalize (if p = pgRender then (d.copyShadow p (rwsOffs p)).objTableApply else d.copyShadow p (rwsOffs p)) = e at htable ⊢
  obtain ⟨hregs, hshadow, -, hgen⟩ := htable
  have hc := Dev.trace_completed
  refine ⟨(hc _ _ _ _ _ _ _).regs.trans hregs, (hc _ _ _ _ _ _ _).shadow.trans (hshadow.trans hcopy.1), ?_, ?_, ?_⟩
  · rw [(hc _ _ _ _ _ _ _).page, Dev.page_onPage, if_pos rfl]
  · rw [(hc _ _ _ _ _ _ _).page, Dev.page_onPage, if_pos rfl]
  · rw [(hc _ _ _ _ _ _ _).page, Dev.page_onPage, if_pos rfl]
    dsimp only
    rw [hgen, hcopy.2]

theorem Dev.groupEnd_spec (d : Dev) (g : Nat) (x : Group) (b : Time) :
    (d.groupEnd g x b).ctl.regs = d.ctl.regs ∧ (d.groupEnd g x b).ctl.shadow = d.ctl.shadow ∧ ∀ q, (d.groupEnd g x b).page q = d.page q := by
  unfold Dev.groupEnd
  split
  · exact ⟨rfl, rfl, fun _ => rfl⟩
  · have hfin := ((d.setGroup g none).finish_completed 0x0001 g (if x.late then .late else .ok) x.applied (shortOf b)).trans
      (Dev.trace_completed _ 4 0x0403 0x001 (fmk 0 4 g ||| fmk 8 16 x.applied) (shortOf b) 0)
    exact ⟨hfin.regs, hfin.shadow, fun q => hfin.page q⟩

theorem commitApplies : CommitApplies := by
  intro s g p x hready hp hx hin hdue hturn
  have hlive : ∃ (b : Time) (y : Group), s.dev.groupApply g p = (s.dev.goLive g p b).groupEnd g y y.last := by
    refine ⟨s.dev.commitAt x p, { x with
      pages := x.pages.filter (fun q => q != p)
      applied := x.applied + 1
      last := max x.last (s.dev.commitAt x p) }, ?_⟩
    have hne : x.pages.isEmpty = false := by
      cases hl : x.pages
      · rw [hl] at hin
        cases hin
      · rfl
    simp only [Dev.groupApply, hx, hne, Bool.false_eq_true, if_false, hdue, hturn, decide_true, Bool.and_self, if_true, Dev.livePage, hin, Bool.not_true]
  obtain ⟨b, y, hlive⟩ := hlive
  obtain ⟨hregs, hshadow, harm, hlocked, hgen⟩ := s.dev.goLive_spec g p b
  obtain ⟨heregs, heshadow, hepage⟩ := (s.dev.goLive g p b).groupEnd_spec g y y.last
  have hreg : ∀ q o, (s.dev.groupApply g p).reg q o = (s.dev.copyShadow p (rwsOffs p)).reg q o := fun q o => by
    rw [hlive, Dev.reg, heregs, hregs, Dev.reg]
  refine ⟨_, congrArg Host.Outcome.next (State.actReady_ready _ hready), fun o ho => ?_, fun q o ho hq => ?_, ?_, ?_, ?_, ?_, s.setDev_aon _⟩
  · rw [State.setDev_dev, hreg]
    exact (s.dev.reg_copyShadow p (rwsOffs p) p o).1 ho rfl
  · rw [State.setDev_dev, hreg]
    refine (s.dev.reg_copyShadow p (rwsOffs p) q o).2 fun a ha => ?_
    rw [Ne, regKey_inj ho (rwsOffs_lt hp ha)]
    exact fun h => hq h.1
  · rw [State.setDev_dev, hlive, heshadow, hshadow]
  · rw [State.setDev_dev, hlive, hepage, harm]
  · rw [State.setDev_dev, hlive, hepage, hlocked]
  · rw [State.setDev_dev, hlive, hepage, hgen]

/-- Settles O7: shadow writes by the page's lock, groups by their pages, and a page that goes live as its shadows copied. -/
theorem shadowsAndCommits : Obligations.ShadowsAndCommits := ⟨shadowWrite, commitGroups, commitApplies⟩

end Sys2Proof.Machine
end

section
/-! The registers of a ring pair, what takes effect when, and the commands of a row (R81 to R91, R95): O10. -/

namespace Sys2Proof.Machine
open Sys2Proof

variable {s : State} {d e f : Dev} {p off r k : Nat} {v : Word}

/-! ### Errors change page headers alone -/

/-- Only page headers may differ. -/
def Dev.PagesOnly (d e : Dev) : Prop := e = { d with ctl := { d.ctl with pages := e.ctl.pages } }

theorem Dev.PagesOnly.refl (d : Dev) : d.PagesOnly d := rfl
theorem Dev.PagesOnly.trans (h : d.PagesOnly e) (g : e.PagesOnly f) : d.PagesOnly f := by
  unfold Dev.PagesOnly at *
  rw [g, h]
theorem Dev.pagesOnly_err (d : Dev) (p : Nat) (c : ErrCode) : d.PagesOnly (d.err p c) := rfl
theorem Dev.pagesOnly_errs (d : Dev) (p : Nat) (l : List ErrCode) : d.PagesOnly (d.errs p l) := by
  unfold Dev.errs
  generalize l.eraseDups = l
  induction l generalizing d with
  | nil => exact .refl d
  | cons c l ih => exact (d.pagesOnly_err p c).trans (ih _)
theorem Dev.PagesOnly.ite {c : Prop} [Decidable c] (h : d.PagesOnly e) (g : d.PagesOnly f) : d.PagesOnly (if c then e else f) := by
  split
  · exact h
  · exact g

/-! ### The registers of a pair (Table 2-13) -/

theorem ringThere_lt (h : ringThere r k = true) : r < 64 ∧ k < 4 := by
  simp only [ringThere, Bool.and_eq_true, Bool.or_eq_true, decide_eq_true_eq] at h
  omega

theorem pageType_realm (hr : r < 64) : pageType (pgRealm r) = some .realm ∧ pageInst (pgRealm r) = r := by
  have key : ∀ r : Fin 64, pageType (pgRealm r) = some .realm ∧ pageInst (pgRealm r) = r := by decide +kernel
  exact key ⟨r, hr⟩

/-- The REALM page is never isolated or under test. -/
theorem State.pageState_realm (s : State) (hr : r < 64) : s.pageState (pgRealm r) ≠ .isolated ∧ s.pageState (pgRealm r) ≠ .testing := by
  have h : s.pageState (pgRealm r) = s.sinceReady (if [0, 1, 2, 3].any (fun k => (s.dev.ring r k).enable) then .active else .ready) := by
    simp only [State.pageState, (pageType_realm hr).1, (pageType_realm hr).2]
  rw [h]
  unfold State.sinceReady
  constructor <;> (repeat' split) <;> decide

/-- The registers of a pair that a host writes have no shadow. -/
theorem realm_ringReg (hk : k < 4) (o : Nat) (ho : o ∈ [0x00, 0x08, 0x18, 0x20, 0x30]) : ∃ g, PType.realm.regAt (0x048 + o + 0x40 * k) = some g ∧ g.rws = false := by
  have key : ∀ k : Fin 4, ∀ o ∈ [0x00, 0x08, 0x18, 0x20, 0x30], (PType.realm.regAt (0x048 + o + 0x40 * k)).any (fun g => !g.rws) = true := by decide +kernel
  have h := key ⟨k, hk⟩ o ho
  obtain ⟨g, hg, hrws⟩ := (Option.any_eq_true _ _).1 h
  exact ⟨g, hg, by simpa using hrws⟩

/-- What a write of a register of a pair does, by its offset among the eight. -/
def Dev.ringReg (d : Dev) (r k o : Nat) (v : Word) : Dev :=
  if o = 0x08 then d.cmdTail r k v else if o = 0x20 then d.cplHead r k v else d.ringCtrl r k v

/-- The host's write of CMD_TAIL, CPL_HEAD or RING_CTRL reaches its ring, whatever part the unit has in its pair. -/
theorem Reaches.write_ring (h : Reaches s (pgRealm r)) (hrk : ringThere r k = true) {o : Nat} (ho : o ∈ [0x08, 0x20, 0x30]) (v : Word) :
    s.hostWrite (pgRealm r) (0x048 + o + 0x40 * k) v = (s.setDev s.dev).setDev (s.dev.ringReg r k o v) := by
  obtain ⟨hr, hk⟩ := ringThere_lt hrk
  obtain ⟨hty, hinst⟩ := pageType_realm hr
  obtain ⟨g, hg, hrws⟩ := realm_ringReg hk o (by simp only [List.mem_cons, List.not_mem_nil, or_false] at ho ⊢; omega)
  have ho30 : o ≤ 0x30 ∧ o % 8 = 0 := by simp only [List.mem_cons, List.not_mem_nil, or_false] at ho; omega
  have hpage : ¬ pgRealm r < 138 := by unfold pgRealm; omega
  obtain ⟨hi, hx⟩ := (s.setDev s.dev).pageState_realm hr
  have hdiv : (0x048 + o + 0x40 * k - 0x048) / 0x40 = k := by omega
  have hmod : (0x048 + o + 0x40 * k - 0x048) % 0x40 = o := by omega
  rw [State.hostWrite, State.actAll_up _ h.1, h.write hty hg (by omega) (by omega)]
  have hstore : (s.setDev s.dev).store (pgRealm r) .realm g (0x048 + o + 0x40 * k) false v = (s.setDev s.dev).setDev (s.dev.ringReg r k o v) := by
    have hlive : (s.setDev s.dev).liveWrite (pgRealm r) .realm g (0x048 + o + 0x40 * k) v = (s.setDev s.dev).realmWrite (pgRealm r) g (0x048 + o + 0x40 * k) v := rfl
    simp only [State.store, show ¬ 0x048 + o + 0x40 * k < 0x040 by omega, hi, hx, hrws, show ¬ 0x048 + o + 0x40 * k = 0x040 by omega, decide_false, Bool.false_or,
      Bool.false_and, Bool.false_eq_true, if_false, hlive]
    simp only [State.realmWrite, hinst, hdiv, hmod, hrk, show 0x048 ≤ 0x048 + o + 0x40 * k ∧ 0x048 + o + 0x40 * k < 0x148 by omega, Bool.not_true, Bool.false_eq_true,
      and_self, if_true, if_false]
    simp only [List.mem_cons, List.not_mem_nil, or_false] at ho
    rcases ho with rfl | rfl | rfl <;> rfl
  simp only [State.storeAt, hty, hg, State.secondaryRefuses, hpage, show ¬ 0x800 ≤ 0x048 + o + 0x40 * k by omega, decide_false, Bool.false_and, Bool.and_false,
    Bool.false_eq_true, if_false, hstore, State.relayWrite]

/-! ### RING_CTRL -/

theorem ringFields_ctrl : ringFields 0x30 =
    [⟨0, 1, .rw, 0, .any⟩, ⟨1, 1, .ro, 0, .any⟩, ⟨2, 4, .rw, 0, .range 0 12⟩, ⟨8, 8, .rw, 0, .any⟩, ⟨16, 8, .rw, 1, .any⟩, ⟨24, 12, .rw, 0, .any⟩] := by decide +kernel

/-- The merged fields of RING_CTRL: SIZE is held to 12. -/
theorem ringCtrl_size (old seen : Word) (hv : fld v 2 4 ≤ 12) : fld (mergeFields (ringFields 0x30) old seen v).1 2 4 = fld v 2 4 := by
  have hmerge : (mergeFields (ringFields 0x30) old seen v).1 =
      setFld (setFld (setFld (setFld (setFld old 0 1 (fld v 0 1)) 2 4 (fld v 2 4)) 8 8 (fld v 8 8)) 16 8 (fld v 16 8)) 24 12 (fld v 24 12) := by
    rw [ringFields_ctrl]
    have hlim : ¬ fld v 2 4 < 0 ∧ ¬ 12 < fld v 2 4 := by omega
    simp only [mergeFields, List.foldl_cons, List.foldl_nil, limitField, hlim, if_false]
    split <;> rfl
  rw [hmerge, fld_setFld_apart _ _ (by decide) (by decide), fld_setFld_apart _ _ (by decide) (by decide), fld_setFld_apart _ _ (by decide) (by decide),
    fld_setFld_same _ _ (by decide)]
  exact Nat.mod_eq_of_lt (fld_lt v 2 4)

theorem Dev.ring_ringCtrl (d : Dev) (r k : Nat) (v : Word) :
    ∃ (e : Dev) (y : Ring), d.PagesOnly e ∧ y = { d.ring r k with
        size := if (d.ring r k).enable then (d.ring r k).size else fld (mergeFields (ringFields 0x30) (d.ring r k).ctrlWord (d.ring r k).ctrlWord v).1 2 4
        vector := y.vector, coalN := y.coalN, coalUs := y.coalUs } ∧ d.ringCtrl r k v =
      if bit v 0 = true then
        if (d.ring r k).enable = true then e.setRing r k y
        else if y.cmdBase % (64 * y.entries) = 0 ∧ y.cplBase % (16 * y.entries) = 0 ∧ e.pinned r y.cmdBase (64 * y.entries) = true ∧ e.pinned r y.cplBase (16 * y.entries) = true then
          ((e.setRing r k { y with enable := true }).hold holdRing (4 * r + k) r y.cmdBase (64 * y.entries)).hold holdRing (4 * r + k) r y.cplBase (16 * y.entries)
        else e.setRing r k { y with error := true }
      else (e.setRing r k y.stopped).unhold holdRing (4 * r + k) :=
  ⟨_, _, Dev.PagesOnly.ite ((d.pagesOnly_errs _ _).trans (Dev.pagesOnly_err _ _ _)) (d.pagesOnly_errs _ _), rfl, rfl⟩

/-- The row of RING_CTRL. -/
theorem ringCtrlWrite_row (h : Reaches s (pgRealm r)) (hrk : ringThere r k = true) (v : Word) :
    exec (.ringCtrlWrite r k v) s = .next ((s.setDev s.dev).setDev (s.dev.ringCtrl r k v)) :=
  congrArg Host.Outcome.next ((if_pos hrk).trans (h.write_ring hrk (o := 0x30) (by decide) v))

theorem Dev.PagesOnly.ring (h : d.PagesOnly e) (r k : Nat) : e.ring r k = d.ring r k := by rw [h]; rfl
theorem Dev.PagesOnly.pinned (h : d.PagesOnly e) (r a n : Nat) : e.pinned r a n = d.pinned r a n := by rw [h]; rfl

/-- ENABLE 0 stops the ring: both heads and both tails at 0, and no other ring changes. -/
theorem Dev.ringCtrl_stop (h0 : bit v 0 = false) (r' k' : Nat) :
    (d.ringCtrl r k v).ring r' k' = if 4 * r' + k' = 4 * r + k then ((d.ringCtrl r k v).ring r k) else d.ring r' k' := by
  obtain ⟨e, y, hp, -, heq⟩ := d.ring_ringCtrl r k v
  rw [heq, if_neg (by simp [h0])]
  change (e.setRing r k y.stopped).ring r' k' = if _ then (e.setRing r k y.stopped).ring r k else _
  rw [Dev.ring_setRing, Dev.ring_setRing, if_pos rfl, hp.ring]

theorem Dev.ring_hold (d : Dev) (kind obj m a n r k : Nat) : (d.hold kind obj m a n).ring r k = d.ring r k := rfl

theorem ringRegisters : RingRegisters := by
  intro s r k v h hphase hrk
  obtain ⟨hr, hk⟩ := ringThere_lt hrk
  refine ⟨fun h0 => ⟨_, ringCtrlWrite_row h hrk v, ?_⟩, fun h1 hoff hsize => ⟨_, ringCtrlWrite_row h hrk v, ?_⟩, fun hon h1 => ⟨_, ringCtrlWrite_row h hrk v, ?_⟩,
    ⟨_, congrArg Host.Outcome.next ((if_pos hrk).trans (h.write_ring hrk (o := 0x08) (by decide) v)), ?_⟩,
    ⟨_, congrArg Host.Outcome.next ((if_pos hrk).trans (h.write_ring hrk (o := 0x20) (by decide) v)), ?_⟩⟩
  · obtain ⟨e, y, hp, hy, heq⟩ := s.dev.ring_ringCtrl r k v
    have hown : (s.dev.ringCtrl r k v).ring r k = y.stopped := by
      rw [heq, if_neg (by simp [h0])]
      change (e.setRing r k y.stopped).ring r k = _
      rw [Dev.ring_setRing, if_pos rfl]
    rw [State.setDev_dev, hown]
    refine ⟨rfl, rfl, rfl, rfl, rfl, rfl, fun r' k' hk' hne => ?_⟩
    rw [Dev.ringCtrl_stop h0, if_neg (by omega)]
  · obtain ⟨e, y, hp, hy, heq⟩ := s.dev.ring_ringCtrl r k v
    have hsz : y.size = fld v 2 4 := by rw [hy, if_neg (by simp [hoff])]; exact ringCtrl_size _ _ hsize
    have hbases : y.cmdBase = (s.dev.ring r k).cmdBase ∧ y.cplBase = (s.dev.ring r k).cplBase ∧ y.enable = false := by rw [hy]; exact ⟨rfl, rfl, hoff⟩
    have hent : y.entries = 2 ^ (fld v 2 4 + 4) := by rw [Ring.entries, hsz]
    obtain ⟨hcmd, hcpl, hyoff⟩ := hbases
    rw [State.setDev_dev, heq, if_pos h1, if_neg (by simp [hoff]), hent, hcmd, hcpl, hp.pinned, hp.pinned]
    dsimp only
    split
    · next hok =>
      obtain ⟨h1, h2, h3, h4⟩ := hok
      rw [Dev.ring_hold, Dev.ring_hold, Dev.ring_setRing, if_pos rfl]
      simp [h1, h2, h3, h4, hsz]
    · next hno =>
      rw [Dev.ring_setRing, if_pos rfl]
      refine ⟨?_, fun _ => rfl, hsz⟩
      dsimp only
      rw [hyoff]
      symm
      rw [Bool.eq_false_iff]
      intro hall
      simp only [Bool.and_eq_true, decide_eq_true_eq] at hall
      exact hno ⟨hall.1.1.1, hall.1.1.2, hall.1.2, hall.2⟩
  · obtain ⟨e, y, hp, hy, heq⟩ := s.dev.ring_ringCtrl r k v
    rw [State.setDev_dev, heq, if_pos h1, if_pos hon, Dev.ring_setRing, if_pos rfl, hy, if_pos hon]
  · have hpages : s.dev.PagesOnly (if fld v 16 48 = 0 then s.dev else s.dev.err (pgRealm r) .reservedSet) := Dev.PagesOnly.ite (.refl _) (Dev.pagesOnly_err _ _ _)
    rw [State.setDev_dev]
    change ((Dev.cmdTail s.dev r k v).ring r k).cmdTail = _ ∧ ((Dev.cmdTail s.dev r k v).ring r k).error = _ ∧ ((Dev.cmdTail s.dev r k v).ring r k).enable = _
    unfold Dev.cmdTail
    rw [Dev.ring_setRing, if_pos rfl]
    exact ⟨rfl, rfl, rfl⟩
  · rw [State.setDev_dev]
    change (Dev.cplHead s.dev r k v).ring r k = _
    unfold Dev.cplHead
    rw [Dev.ring_setRing, if_pos rfl]

/-! ### Effects and coalescing -/

theorem commandEffectAndCoalesce : CommandEffectAndCoalesce := by
  intro s hready
  refine ⟨fun a o ha ho hblock hepoch => ?_, fun hnone => ?_, fun r k hu hc hdue => ?_⟩
  · refine congrArg Host.Outcome.next ((State.actAllReady_ready _ hready).trans ?_)
    have hopen : s.dev.boundaryOpen a.due = true := by simp [Dev.boundaryOpen, hblock, hepoch]
    simp only [State.commandEffect, ha, hopen, if_true, State.effect, ho]
  · refine congrArg Host.Outcome.next ((State.actAllReady_ready _ hready).trans ?_)
    simp only [State.commandEffect, hnone]
  · refine ⟨_, congrArg Host.Outcome.next (State.actReady_ready _ hready), ?_⟩
    have hnow : ¬ ((s.dev.ring r k).unsig = 0 ∨ (s.dev.ring r k).coalUs = 0 ∨ s.dev.now < (s.dev.ring r k).unsigAt + (s.dev.ring r k).coalUs * usT) := by
      rintro (h | h | h)
      · exact hu h
      · exact hc h
      · exact absurd hdue (Nat.not_le.2 h)
    have hco : s.dev.coalesce r k = (s.dev.setRing r k { s.dev.ring r k with unsig := 0 }).msix (s.dev.ring r k).vector := if_neg hnow
    rw [State.setDev_dev, hco]
    constructor
    · have hmsix : ∀ (e : Dev) (v : Nat), (e.msix v).ring r k = e.ring r k := fun e v => by
        unfold Dev.msix
        split
        · rfl
        · split <;> rfl
      rw [hmsix, Dev.ring_setRing, if_pos rfl]
    · rw [Dev.msix]
      change (if s.dev.msixLive (s.dev.ring r k).vector = true then _ else _ : Dev).ctl.out = _
      split
      · rfl
      · split
        · exact (List.append_nil _).symm
        · exact (List.append_nil _).symm

/-! ### A command of its own row -/

theorem commandsTaken : CommandsTaken := by
  intro o c s
  refine ⟨fun h => runCmd_not o c h, fun st n h hroom hj => ?_, fun h hd hfull hj => ?_, fun h => h.runs, fun h hjoin hroom hj hacts h4 h6 => ?_⟩
  · refine runCmd_rejected o c h st n (fun hc => ?_) hj
    simp only [OpSpec.crowded, Bool.and_eq_true, decide_eq_true_eq] at hc
    exact absurd (hroom hc.1) (Nat.not_lt.2 hc.2)
  · have hv : o.verdict c false (o.capture c s.dev) s = none := hj
    have hfull' : (c.dated && decide (8192 ≤ s.dev.datedPending)) = true := by simp [hd, hfull]
    rw [runCmd, State.actAllReady_ready _ h]
    simp only [State.process, OpSpec.token, hv, hfull', datedFull, if_true]
  · have hv : o.verdict c false (o.capture c s.dev) s = none := hj
    have hcrowd : ¬ OpSpec.crowded c s := fun hc => by
      simp only [OpSpec.crowded, Bool.and_eq_true, decide_eq_true_eq] at hc
      exact absurd (hroom hc.1) (Nat.not_lt.2 hc.2)
    have hcmd : (o.token c s).cmd = c := rfl
    have hop : (o.token c s).opcode = o.opcode := rfl
    rw [runCmd, State.actAllReady_ready _ h, State.process_room o _ _ (by rw [hcmd]; exact hcrowd), hcmd, hv]
    simp only [id, State.takeOn, hjoin, Bool.false_and, Bool.false_eq_true, if_false, hacts, hop, h4, h6, or_self, false_and]

theorem commandRows : CommandRows := by
  intro s c
  repeat' apply And.intro
  all_goals rfl

/-- Settles O10: the ring registers through their one write, and the commands of a row through their verdict. -/
theorem rings : Obligations.Rings := ⟨ringRegisters, commandEffectAndCoalesce, commandRows, commandsTaken⟩

end Sys2Proof.Machine
end

section
/-! A command taken from a ring (R83, R87, R89): O3. -/

namespace Sys2Proof.Machine
open Sys2Proof

variable {s : State} {d e : Dev} {r k : Nat}

/-! ### A completion causes no freeze, and leaves its ring's head -/

theorem Dev.trace_frz (d : Dev) (c e s : Nat) (x y : Word) (o : Nat) : (d.trace c e s x y o).obs.frz = d.obs.frz := by
  unfold Dev.trace
  dsimp only
  repeat' split
  all_goals rfl

theorem Dev.msix_frz (d : Dev) (v : Nat) : (d.msix v).obs.frz = d.obs.frz := by
  unfold Dev.msix
  split
  · rfl
  · split <;> rfl

theorem Dev.ring_msix (d : Dev) (v r k : Nat) : (d.msix v).ring r k = d.ring r k := by
  unfold Dev.msix
  split
  · rfl
  · split <;> rfl

theorem Dev.ring_trace (d : Dev) (c e s : Nat) (x y : Word) (o r k : Nat) : (d.trace c e s x y o).ring r k = d.ring r k := by
  unfold Dev.trace
  dsimp only
  repeat' split
  all_goals rfl

/-- A completion posted moves the tail of its ring and keeps the head. -/
theorem Dev.postRing_head (d : Dev) (m r : Nat) (tag : BitVec 32) (st : Status) (n : Nat) (v : Word) (m' r' : Nat) :
    (d.postRing m r tag st n v).obs.frz = d.obs.frz ∧ ((d.postRing m r tag st n v).ring m' r').cmdHead = (d.ring m' r').cmdHead := by
  have hwrite : ∀ (va : Nat) (l : List Byte) (x : Ring), x.cmdHead = (d.ring m r).cmdHead →
      ((d.writeVa m va l).setRing m r x).obs.frz = d.obs.frz ∧ (((d.writeVa m va l).setRing m r x).ring m' r').cmdHead = (d.ring m' r').cmdHead := by
    intro va l x hx
    rw [Dev.writeVa_eq]
    refine ⟨rfl, ?_⟩
    rw [Dev.ring_setRing]
    split
    · next h =>
      rw [hx, Dev.ring, Dev.ring, h]
    · rfl
  unfold Dev.postRing
  dsimp only
  split
  · exact ⟨rfl, rfl⟩
  · split
    · rw [Dev.msix_frz, Dev.ring_msix]
      exact hwrite _ _ _ rfl
    · exact hwrite _ _ _ rfl

theorem Dev.complete_head (d : Dev) (t : Token) (st : Status) (n : Nat) (v : Word) (m r : Nat) :
    (d.complete t st n v).obs.frz = d.obs.frz ∧ ((d.complete t st n v).ring m r).cmdHead = (d.ring m r).cmdHead := by
  unfold Dev.complete
  dsimp only
  rw [Dev.trace_frz, Dev.ring_trace]
  split
  · split
    · exact ⟨rfl, rfl⟩
    · exact d.postRing_head _ _ _ _ _ _ m r
  · exact ⟨rfl, rfl⟩

/-- A completion of a command whose ring has not been reset leaves the block. -/
theorem Dev.complete_out (d : Dev) {t : Token} (hg : (d.ring t.cmd.realm t.cmd.ring).gen = t.gen) (hon : (d.ring t.cmd.realm t.cmd.ring).enable = true) (st : Status)
    (n : Nat) (v : Word) : (d.complete t st n v).ctl.out.contains (.completion t.cmd.tag st (n % 65536) v) = true := by
  unfold Dev.complete
  dsimp only
  rw [Dev.out_trace, if_pos (by simp [hg, hon])]
  simp [Dev.emit]

theorem Dev.refuse_frz (d : Dev) (t : Token) (st : Status) (n : Nat) : (d.refuse t st n).obs.frz = d.obs.frz := (d.tickFree.complete_head t st n d.freeWord 0 0).1

/-- What is posted changes no unit. -/
theorem unitsKept_posted (h : s.dev.Posted e) : UnitsKept s (s.setDev e) := by
  unfold UnitsKept
  exact congrArg s.setDev h

theorem Dev.fetchable_enabled (h : d.fetchable r k = true) : (d.ring r k).enable = true := by
  simp only [Dev.fetchable, Bool.and_eq_true] at h
  exact h.1.1.1.2

/-- The ring once its command has been taken. -/
def Ring.taken (x : Ring) : Ring := { x with cmdHead := (x.cmdHead + 1) % x.entries, reserved := x.reserved + 1, nextPos := x.nextPos + 1 }

/-- A command that is taken is judged. -/
theorem State.commandFetch_taken {b : List Byte} (hf : s.dev.fetchable r k = true)
    (hb : captureVa s.dev r ((s.dev.ring r k).cmdBase + 64 * (s.dev.ring r k).cmdHead) 64 = some b)
    (hfence : (cmdOf r k b).fence = false ∨ (s.dev.ring r k).reserved = 0) :
    s.commandFetch r k = (s.setDev (s.dev.setRing r k (s.dev.ring r k).taken)).judge ⟨cmdOf r k b, leAt b 0 2, (s.dev.ring r k).nextPos, (s.dev.ring r k).gen, false⟩ := by
  have hgo : ((cmdOf r k b).fence && decide (0 < (s.dev.ring r k).reserved)) = false := by
    rcases hfence with h | h
    · rw [h, Bool.false_and]
    · rw [h]
      simp
  simp only [State.commandFetch, hf, Bool.not_true, Bool.false_eq_true, if_false, hb, hgo]
  rfl

/-- Settles O3: the ring gives its command up or not, and what it gives up is judged. -/
theorem commandFetch : Obligations.CommandFetch := by
  intro s r k hready
  have hrow : ∀ t, s.commandFetch r k = t → exec (.commandFetch r k) s = .next t := fun t h =>
    congrArg Host.Outcome.next ((State.actAllReady_ready _ hready).trans h)
  refine ⟨fun hf => hrow _ ?_, fun b hf hb hfence hop => ⟨_, hrow _ (State.commandFetch_taken hf hb (Or.inl hfence)), ?_⟩, fun b o hf hb hfence hop => hrow _ ?_,
    fun hf hb => hrow _ ?_, fun b hf hb hfence hres => hrow _ ?_⟩
  · simp [State.commandFetch, hf]
  · have hjudge : (s.setDev (s.dev.setRing r k (s.dev.ring r k).taken)).judge ⟨cmdOf r k b, leAt b 0 2, (s.dev.ring r k).nextPos, (s.dev.ring r k).gen, false⟩ =
        (s.setDev (s.dev.setRing r k (s.dev.ring r k).taken)).setDev
          ((s.dev.setRing r k (s.dev.ring r k).taken).refuse ⟨cmdOf r k b, leAt b 0 2, (s.dev.ring r k).nextPos, (s.dev.ring r k).gen, false⟩ .badOpcode 0) := by
      simp only [State.judge, hop]
      rfl
    have hpost : s.dev.Posted (s.dev.setRing r k (s.dev.ring r k).taken) := rfl
    have hring : (s.dev.setRing r k (s.dev.ring r k).taken).tickFree.ring r k = (s.dev.ring r k).taken := by
      change (s.dev.setRing r k (s.dev.ring r k).taken).ring r k = _
      rw [Dev.ring_setRing, if_pos rfl]
    rw [hjudge, State.setDev_setDev _ (Dev.refuse_frz _ _ _ _)]
    refine ⟨unitsKept_posted (hpost.trans (Dev.refuse_posted _ _ _ _)), ?_, ?_⟩
    · rw [State.setDev_dev, Dev.refuse, (Dev.complete_head _ _ _ _ _ r k).2, hring]
      rfl
    · refine Dev.complete_out _ (t := ⟨cmdOf r k b, leAt b 0 2, (s.dev.ring r k).nextPos, (s.dev.ring r k).gen, false⟩) ?_ ?_ _ _ _
      · exact (congrArg Ring.gen hring).trans rfl
      · exact (congrArg Ring.enable hring).trans (Dev.fetchable_enabled hf)
  · rw [State.commandFetch_taken hf hb hfence]
    simp only [State.judge, hop]
    rfl
  · simp only [State.commandFetch, hf, Bool.not_true, Bool.false_eq_true, if_false, hb]
  · simp only [State.commandFetch, hf, Bool.not_true, Bool.false_eq_true, if_false, hb, hfence, hres, decide_true, Bool.and_self, if_true]

end Sys2Proof.Machine
end

section
/-! What a write leaves of a word, field by field (R7, R853, R856, R857). -/

namespace Sys2Proof.Machine
open Sys2Proof

variable {fs : List Fld} {f : Fld} {old seen v : Word} {i : Nat}

/-- What a field holds after a write of `v` over `old`. -/
def Fld.stored (f : Fld) (old v : Word) : Nat := (limitField f (fld old f.lo f.w) (fld v f.lo f.w)).1

/-- A write of one field. -/
def Fld.put (f : Fld) (old v w : Word) : Word := if f.acc = .rw then setFld w f.lo f.w (f.stored old v) else w

/-- The fields of a register lie apart, within the word. -/
def FieldsApart (fs : List Fld) : Prop := fs.Pairwise (fun f g => f.lo + f.w ≤ g.lo ∨ g.lo + g.w ≤ f.lo) ∧ ∀ f ∈ fs, f.lo + f.w ≤ 64

/-- The word of a write is that of its fields, one after the other. -/
theorem mergeFields_word (fs : List Fld) (old seen v : Word) : (mergeFields fs old seen v).1 = fs.foldl (fun w f => f.put old v w) old := by
  have key : ∀ (l : List Fld) (a : Word × List ErrCode), (l.foldl (fun (acc : Word × List ErrCode) f =>
      match f.acc with
      | .rw =>
        let x := limitField f (fld old f.lo f.w) (fld v f.lo f.w)
        (setFld acc.1 f.lo f.w x.1, match x.2 with | some e => acc.2 ++ [e] | none => acc.2)
      | .ro => if fld v f.lo f.w = fld seen f.lo f.w then acc else (acc.1, acc.2 ++ [.readOnly])
      | .wo | .rc => acc) a).1 = l.foldl (fun w f => f.put old v w) a.1 := by
    intro l
    induction l with
    | nil => exact fun _ => rfl
    | cons f l ih =>
      intro a
      rw [List.foldl_cons, List.foldl_cons, ih]
      congr 1
      unfold Fld.put
      cases hacc : f.acc
      · rfl
      · dsimp only
        split <;> rfl
      · rfl
      · rfl
  exact key fs (old, [])

/-- A field apart from those written stays. -/
theorem fld_foldl_put {lo w : Nat} (hw : ∀ g ∈ fs, g.lo + g.w ≤ 64) (ha : ∀ g ∈ fs, g.acc = .rw → lo + w ≤ g.lo ∨ g.lo + g.w ≤ lo) (x : Word) :
    fld (fs.foldl (fun w f => f.put old v w) x) lo w = fld x lo w := by
  induction fs generalizing x with
  | nil => rfl
  | cons g fs ih =>
    rw [List.foldl_cons, ih (fun h hh => hw h (List.mem_cons_of_mem _ hh)) (fun h hh => ha h (List.mem_cons_of_mem _ hh))]
    unfold Fld.put
    split
    · next hrw => exact fld_setFld_apart _ _ (hw g List.mem_cons_self) (ha g List.mem_cons_self hrw)
    · rfl

/-- A field that is written holds what its rule makes of the value. -/
theorem fld_mergeFields (h : FieldsApart fs) (hf : f ∈ fs) (hrw : f.acc = .rw) : fld (mergeFields fs old seen v).1 f.lo f.w = f.stored old v % 2 ^ f.w := by
  have key : ∀ x : Word, fld (fs.foldl (fun w f => f.put old v w) x) f.lo f.w = f.stored old v % 2 ^ f.w := by
    obtain ⟨hapart, hfit⟩ := h
    induction fs with
    | nil => cases hf
    | cons g fs ih =>
      intro x
      rw [List.pairwise_cons] at hapart
      rw [List.foldl_cons]
      by_cases hin : f ∈ fs
      · exact ih hin hapart.2 (fun h hh => hfit h (List.mem_cons_of_mem _ hh)) _
      · have hfg : f = g := (List.mem_cons.1 hf).resolve_right hin
        subst hfg
        rw [fld_foldl_put (fun h hh => hfit h (List.mem_cons_of_mem _ hh)) fun h hh _ => hapart.1 h hh, Fld.put, if_pos hrw,
          fld_setFld_same _ _ (hfit f List.mem_cons_self)]
  rw [mergeFields_word]
  exact key old

/-- A field without limits holds what was written. -/
theorem fld_mergeFields_any (h : FieldsApart fs) {lo w r : Nat} (hf : (⟨lo, w, .rw, r, .any⟩ : Fld) ∈ fs) : fld (mergeFields fs old seen v).1 lo w = fld v lo w :=
  (fld_mergeFields h hf rfl).trans (Nat.mod_eq_of_lt (fld_lt v lo w))

theorem bit_mergeFields_any (h : FieldsApart fs) {lo r : Nat} (hf : (⟨lo, 1, .rw, r, .any⟩ : Fld) ∈ fs) : bit (mergeFields fs old seen v).1 lo = bit v lo := by
  rw [bit, bit, fld_mergeFields_any h hf]

/-- A write that gives each field back what it holds leaves the word. -/
theorem mergeFields_same (hfit : ∀ g ∈ fs, g.lo + g.w ≤ 64) (h : ∀ g ∈ fs, g.acc = .rw → g.stored old v = fld old g.lo g.w) : (mergeFields fs old seen v).1 = old := by
  rw [mergeFields_word]
  induction fs with
  | nil => rfl
  | cons g fs ih =>
    have hput : g.put old v old = old := by
      unfold Fld.put
      split
      · next hrw => rw [h g List.mem_cons_self hrw, setFld_fld _ (hfit g List.mem_cons_self)]
      · rfl
    rw [List.foldl_cons, hput]
    exact ih (fun g hg => hfit g (List.mem_cons_of_mem _ hg)) fun g hg => h g (List.mem_cons_of_mem _ hg)

end Sys2Proof.Machine
end

section
/-! How a command of its own row ends over a change of the resettable part. -/

namespace Sys2Proof.Machine
open Sys2Proof

variable {o : OpSpec} {c : HostCmd} {s : State} {d e : Dev}

theorem Dev.Completed.posted (h : d.Completed e) : d.Posted e := by
  unfold Dev.Posted
  rw [h]

/-- An accepted command that its rule ends with OK: its change, with the completion posted over it. -/
theorem Accepts.okDev (h : Accepts o c s) {n : Nat} {v : Word} (he : o.effect c s = (s.setDev d, .done .ok n v)) (hr : d.ctl.rings = s.dev.ctl.rings)
    (hk : d.clk = s.dev.clk) :
    ∃ e, runCmd o c s = s.setDev e ∧ d.Completed e ∧ Ends (s.setDev e) s c (o.okOr c s) (n % 65536) v ∧
      ∀ p b, p ≠ pgObs → b < 4096 → e.counter p b = d.counter p b := by
  have hone : (s.setDev d).setDev (d.complete (o.token c s) (o.okOr c s) n v) = s.setDev (d.complete (o.token c s) (o.okOr c s) n v) :=
    s.setDev_setDev (d.complete_head _ _ _ _ 0 0).1
  obtain ⟨hends, ⟨-, hdone⟩, hcount⟩ := ends_complete o (c := c) (s := s) (t := s.setDev d) hr hk (o.okOr c s) n v
  rw [State.setDev_dev, hone] at hends hdone
  refine ⟨d.complete (o.token c s) (o.okOr c s) n v, ?_, hdone, hends, hcount⟩
  rw [← hone, h.runs, OpSpec.done, he]
  rfl

/-- A query changes no unit. -/
theorem Accepts.query (h : Accepts o c s) {n : Nat} {v : Word} (he : o.effect c s = (s.setDev s.dev, .done .ok n v)) :
    ∃ u, runCmd o c s = u ∧ UnitsKept s u ∧ Ends u s c (o.okOr c s) (n % 65536) v := by
  obtain ⟨e, hu, hdone, hends, -⟩ := h.okDev he rfl rfl
  exact ⟨_, hu, unitsKept_posted hdone.posted, hends⟩

end Sys2Proof.Machine
end

section
/-! Units of lanes and their registers (R607, R615 to R619, R622 to R631, R638, R647): O41. -/

namespace Sys2Proof.Machine
open Sys2Proof

variable {s : State} {d e : Dev} {u l n : Nat}

/-! ### The lanes of a unit, one after the other -/

theorem lanesOf_ne_nil (h : u ≤ 8) : ∃ l, l ∈ lanesOf u := by
  by_cases h8 : u < 8
  · exact ⟨4 * u, by simp [lanesOf, h8]⟩
  · exact ⟨32, by simp [lanesOf, show u = 8 by omega]⟩

/-- Lanes changed one after the other by a step that leaves every other lane. -/
theorem Dev.lane_foldl {α : Type} (f : Dev → α → Dev) (at_ : α → Nat) (P : Lane → Prop) (hone : ∀ (d : Dev) (a : α), P ((f d a).lane (at_ a)))
    (hrest : ∀ (d : Dev) (a : α) (k : Nat), k ≠ at_ a → (f d a).lane k = d.lane k) (as : List α) (d : Dev) :
    (∀ a ∈ as, P ((as.foldl f d).lane (at_ a))) ∧ ∀ k, (∀ a ∈ as, k ≠ at_ a) → (as.foldl f d).lane k = d.lane k := by
  induction as generalizing d with
  | nil => exact ⟨fun a ha => absurd ha List.not_mem_nil, fun _ _ => rfl⟩
  | cons a as ih =>
    obtain ⟨hin, hout⟩ := ih (f d a)
    refine ⟨fun b hb => ?_, fun k hk => ?_⟩
    · rw [List.foldl_cons]
      by_cases hlater : ∃ c ∈ as, at_ b = at_ c
      · obtain ⟨c, hc, hbc⟩ := hlater
        rw [hbc]
        exact hin c hc
      · rw [hout _ fun c hc h => hlater ⟨c, hc, h⟩, (List.mem_cons.1 hb).resolve_right fun h => hlater ⟨b, h, rfl⟩]
        exact hone d a
    · rw [List.foldl_cons, hout k fun b hb => hk b (List.mem_cons_of_mem _ hb)]
      exact hrest d a k (hk a List.mem_cons_self)

theorem exec_act {i : Instr} {f : Dev → Dev} (hrow : exec i s = .next (s.act f)) (hup : s.up = true) : exec i s = .next (s.setDev (f s.dev)) :=
  hrow.trans (congrArg Host.Outcome.next (State.act_up f hup))

theorem nthD_lanesOf (l : Nat) (h : l ∈ lanesOf u) : ∃ i ∈ List.range (lanesOf u).length, nthD 0 (lanesOf u) i = l := by
  obtain ⟨i, hi, hl⟩ := List.getElem_of_mem h
  exact ⟨i, List.mem_range.2 hi, by rw [nthD, List.getElem?_eq_getElem hi]; exact hl⟩

theorem nthD_mem_lanesOf {i : Nat} (h : i < (lanesOf u).length) : nthD 0 (lanesOf u) i ∈ lanesOf u := by
  rw [nthD, List.getElem?_eq_getElem h]
  exact List.getElem_mem _

/-! ### Deskew -/

theorem Dev.deskewDone_up {skews : List Nat} (hu : u ≤ 8) (hd : d.deskewing u = true) (hk : ∀ k, k ∈ skews → k ≤ d.skewLimit u) :
    ((d.deskewDone u skews).plink u).up = true ∧ (∀ l, l ∈ lanesOf u → ((d.deskewDone u skews).lane l).train = .linkUp) ∧
      ∀ l, l ∉ lanesOf u → (d.deskewDone u skews).lane l = d.lane l := by
  have hall : (skews.all fun k => decide (k ≤ d.skewLimit u)) = true := List.all_eq_true.2 fun k h => decide_eq_true (hk k h)
  unfold Dev.deskewDone
  rw [if_pos ⟨hu, hd, hall⟩]
  obtain ⟨hin, hout⟩ := Dev.lane_foldl (fun (d : Dev) (i : Nat) =>
      (d.onLane (nthD 0 (lanesOf u) i) (fun x => { x with train := .linkUp, skew := nthD 0 skews i, retry := false })).laneEvent (nthD 0 (lanesOf u) i) 0 .linkUp
        (fmk 0 64 ((d.onLane (nthD 0 (lanesOf u) i) (fun x => { x with train := .linkUp, skew := nthD 0 skews i, retry := false })).lane (nthD 0 (lanesOf u) i)).tries))
    (fun i => nthD 0 (lanesOf u) i) (fun x => x.train = .linkUp) (fun d i => by simp) (fun d i k hk => by simp [hk]) (List.range (lanesOf u).length) d
  generalize (List.range (lanesOf u).length).foldl (fun (d : Dev) (i : Nat) =>
      (d.onLane (nthD 0 (lanesOf u) i) (fun x => { x with train := .linkUp, skew := nthD 0 skews i, retry := false })).laneEvent (nthD 0 (lanesOf u) i) 0 .linkUp
        (fmk 0 64 ((d.onLane (nthD 0 (lanesOf u) i) (fun x => { x with train := .linkUp, skew := nthD 0 skews i, retry := false })).lane (nthD 0 (lanesOf u) i)).tries))
    d = e at hin hout
  have hup : ∀ l, l ∈ lanesOf u → (e.lane l).train = .linkUp := fun l hl => by
    obtain ⟨i, hi, rfl⟩ := nthD_lanesOf l hl
    exact hin i hi
  refine ⟨?_, fun l hl => ?_, fun l hl => ?_⟩
  · refine (e.up_plinkUpdate u u).trans ?_
    rw [if_pos rfl, Dev.allUp, List.all_eq_true]
    exact fun l hl => decide_eq_true (hup l hl)
  · exact (congrArg Lane.train (e.lane_plinkUpdate u l)).trans (hup l hl)
  · refine (e.lane_plinkUpdate u l).trans (hout l fun i hi h => hl ?_)
    rw [h]
    exact nthD_mem_lanesOf (List.mem_range.1 hi)

theorem Dev.skewLoss_down (hu : u ≤ 8) (h : (d.plink u).up = true) :
    ((d.skewLoss u).plink u).up = false ∧ ∀ l, l ∈ lanesOf u → ((d.skewLoss u).lane l).train = .cdrWait ∧ ((d.skewLoss u).lane l).tries = 0 := by
  unfold Dev.skewLoss
  rw [if_pos ⟨hu, h⟩]
  obtain ⟨hin, -⟩ := Dev.lane_foldl (fun (d : Dev) (l : Nat) => (d.onLane l (fun x => { x.startTry d.now false with tries := 0 })).laneEvent l 1 .linkUp 2)
    id (fun x => x.train = .cdrWait ∧ x.tries = 0) (fun d i => by simp [Lane.startTry, Lane.enter]) (fun d i k hk => by simp [show k ≠ i from hk]) (lanesOf u) d
  generalize (lanesOf u).foldl (fun (d : Dev) (l : Nat) => (d.onLane l (fun x => { x.startTry d.now false with tries := 0 })).laneEvent l 1 .linkUp 2) d = e at hin ⊢
  obtain ⟨l, hl⟩ := lanesOf_ne_nil hu
  dsimp only
  refine ⟨?_, fun l hl => ?_⟩
  · rw [Dev.up_plinkUpdate, if_pos rfl]
    refine Dev.allUp_false hl ?_
    rw [show (e.lane l).train = .cdrWait from (hin l hl).1]
    decide
  · rw [Dev.lane_plinkUpdate]
    exact hin l hl

/-- A failed try leaves a lane waiting, or without a partner. -/
theorem Lane.failed_train (x : Lane) (now : Time) : (x.failed now).train = .cdrWait ∨ (x.failed now).train = .noPartner := by
  unfold Lane.failed
  split
  · exact Or.inr rfl
  · exact Or.inl rfl

theorem Dev.deskewTimeout_fails (hu : u ≤ 8) (hd : d.deskewing u = true) (hdue : maxN ((lanesOf u).map fun l => (d.lane l).alignedAt) + msT ≤ d.now) :
    ∀ l, l ∈ lanesOf u → ((d.deskewTimeout u).lane l).train = .cdrWait ∨ ((d.deskewTimeout u).lane l).train = .noPartner := by
  unfold Dev.deskewTimeout
  rw [if_pos ⟨hu, hd, hdue⟩]
  exact (Dev.lane_foldl (fun (d : Dev) (l : Nat) => d.failTry l) id (fun x => x.train = .cdrWait ∨ x.train = .noPartner)
    (fun d i => by rw [id, Dev.lane_failTry, if_pos rfl]; exact Lane.failed_train _ _) (fun d i k hk => by rw [Dev.lane_failTry, if_neg (show k ≠ i from hk)]) (lanesOf u) d).1

/-! ### LANE_RETRAIN -/

theorem sumN_eq_sum (l : List Nat) : sumN l = l.sum := by
  unfold sumN
  rw [List.sum_eq_foldl]

/-- The mask of a set of places. -/
theorem testBit_mask (p : Nat → Bool) (n : Nat) :
    sumN (((List.range n).filter p).map fun i => 2 ^ i) < 2 ^ n ∧ ∀ i, i < n → (sumN (((List.range n).filter p).map fun i => 2 ^ i)).testBit i = p i := by
  simp only [sumN_eq_sum]
  induction n with
  | zero => simp
  | succ n ih =>
    obtain ⟨hlt, hbit⟩ := ih
    rw [List.range_succ, List.filter_append, List.map_append, List.sum_append, List.filter_singleton, pow_succ]
    generalize (((List.range n).filter p).map fun i => 2 ^ i).sum = m at hlt hbit
    cases hp : p n
    · refine ⟨by simp; omega, fun i hi => ?_⟩
      have hsum : m + ([].map fun i => 2 ^ i).sum = m := by simp
      rw [cond_false, hsum]
      by_cases hin : i = n
      · rw [hin, hp]
        exact Nat.testBit_lt_two_pow hlt
      · exact hbit i (by omega)
    · refine ⟨by simp; omega, fun i hi => ?_⟩
      have hsum : m + ([n].map fun i => 2 ^ i).sum = 2 ^ n + m := by simp [Nat.add_comm]
      rw [cond_true, hsum]
      by_cases hin : i = n
      · rw [hin, hp, Nat.testBit_two_pow_add_eq, Nat.testBit_lt_two_pow hlt]
        rfl
      · rw [Nat.testBit_two_pow_add_gt (by omega)]
        exact hbit i (by omega)

/-- Only lanes, links and what a note changes may differ. -/
def Dev.LaneWork (d e : Dev) : Prop := Dev.Noted { d with lanes := e.lanes } e

theorem Dev.LaneWork.refl (d : Dev) : d.LaneWork d := Dev.Noted.refl d
theorem Dev.LaneWork.trans {f : Dev} (h : d.LaneWork e) (k : e.LaneWork f) : d.LaneWork f := by
  unfold Dev.LaneWork Dev.Noted at *
  rw [k, h]
theorem Dev.Noted.laneWork (h : d.Noted e) : d.LaneWork e := by
  unfold Dev.LaneWork Dev.Noted at *
  rw [h]
theorem Dev.laneWork_setLane (d : Dev) (l : Nat) (x : Lane) : d.LaneWork (d.setLane l x) := rfl
theorem Dev.laneWork_onLane (d : Dev) (l : Nat) (g : Lane → Lane) : d.LaneWork (d.onLane l g) := rfl
theorem Dev.laneWork_onPlink (d : Dev) (u : Nat) (g : PortLink → PortLink) : d.LaneWork (d.onPlink u g) := rfl
theorem Dev.LaneWork.ite {f : Dev} {c : Prop} [Decidable c] (h : d.LaneWork e) (k : d.LaneWork f) : d.LaneWork (if c then e else f) := by
  split
  · exact h
  · exact k
theorem Dev.laneWork_foldl {α : Type} (f : Dev → α → Dev) (hf : ∀ (d : Dev) (a : α), d.LaneWork (f d a)) (as : List α) (d : Dev) : d.LaneWork (as.foldl f d) := by
  induction as generalizing d with
  | nil => exact .refl d
  | cons a as ih => exact (hf d a).trans (ih _)

theorem Dev.LaneWork.rings (h : d.LaneWork e) : e.ctl.rings = d.ctl.rings := by rw [h]
theorem Dev.LaneWork.clk (h : d.LaneWork e) : e.clk = d.clk := by rw [h]
theorem Dev.LaneWork.pair (h : d.LaneWork e) : e.pair = d.pair := by rw [h]
theorem Dev.LaneWork.regs (h : d.LaneWork e) : e.ctl.regs = d.ctl.regs := by rw [h]
theorem Dev.LaneWork.reg (h : d.LaneWork e) (p o : Nat) : e.reg p o = d.reg p o := by rw [Dev.reg, h.regs, Dev.reg]

theorem Dev.tellFault_laneWork (d : Dev) (u : Nat) : d.LaneWork (d.tellFault u) := by
  unfold Dev.tellFault
  exact (Dev.LaneWork.refl d).ite ((d.laneWork_onPlink u _).trans (Dev.emit_noted _ _).laneWork)

theorem Dev.plinkUpdate_laneWork (d : Dev) (u : Nat) : d.LaneWork (d.plinkUpdate u) := by
  unfold Dev.plinkUpdate
  dsimp only
  refine (Dev.LaneWork.refl d).ite (.ite ((d.laneWork_onPlink u _).trans (Dev.report_noted _ _).laneWork) ?_)
  refine .trans ?_ (Dev.raise_noted _ _ _ _ _ _ _).laneWork
  refine .ite ?_ (.trans ?_ (Dev.inc_noted _ _ _).laneWork)
  · exact (d.laneWork_onPlink u _).trans (Dev.tellFault_laneWork _ _)
  · exact (d.laneWork_onPlink u _).trans (Dev.tellFault_laneWork _ _)

/-- The lanes of `u` at the places `is` start over. -/
def Dev.retrain (d : Dev) (u : Nat) (is : List Nat) (cause : Word) : Dev :=
  is.foldl (fun (d : Dev) (i : Nat) =>
    let l := nthD 0 (lanesOf u) i
    let was := (d.lane l).train
    let d := d.onLane l (fun x => { x.startTry d.now false with tries := 0 })
    if was = .linkUp then d.laneEvent l 1 .linkUp cause else d) d

theorem Dev.lane_retrain (d : Dev) (u : Nat) (is : List Nat) (cause : Word) :
    ∀ i ∈ is, ((d.retrain u is cause).lane (nthD 0 (lanesOf u) i)).train = .cdrWait ∧ ((d.retrain u is cause).lane (nthD 0 (lanesOf u) i)).tries = 0 := by
  refine (Dev.lane_foldl _ (fun i => nthD 0 (lanesOf u) i) (fun x => x.train = .cdrWait ∧ x.tries = 0) (fun d i => ?_) (fun d i k hk => ?_) is d).1
  · dsimp only
    split
    · simp [Lane.startTry, Lane.enter]
    · simp [Lane.startTry, Lane.enter]
  · dsimp only
    split
    · simp [hk]
    · simp [hk]

theorem Dev.retrain_laneWork (d : Dev) (u : Nat) (is : List Nat) (cause : Word) : d.LaneWork (d.retrain u is cause) := by
  refine Dev.laneWork_foldl _ (fun d i => ?_) is d
  exact Dev.LaneWork.ite ((d.laneWork_onLane _ _).trans (Dev.laneEvent_noted _ _ _ _ _).laneWork) (d.laneWork_onLane _ _)

/-- The lanes of a unit that train, by their places. -/
def Dev.searchers (d : Dev) (u : Nat) : List Nat := (List.range (lanesOf u).length).filter fun i => (d.lane (nthD 0 (lanesOf u) i)).train.searching

theorem lanesOf_length_le (u : Nat) : (lanesOf u).length ≤ 8 := by
  unfold lanesOf
  repeat' split
  all_goals simp

theorem laneRetrain_accepted (c : HostCmd) (h : Accepts laneRetrainSpec c s) :
    ∃ u m, exec (.laneRetrain c) s = .next u ∧ u.dev.ctl.out.contains (.completion c.tag (laneRetrainSpec.okOr c s) m s.dev.short) = true ∧
      (∀ i, i < (lanesOf (unitOf (c.arg 0 1))).length → (m.testBit i = true ↔ (s.dev.lane (nthD 0 (lanesOf (unitOf (c.arg 0 1))) i)).train.searching = true)) ∧
      ∀ l, l ∈ lanesOf (unitOf (c.arg 0 1)) → (s.dev.lane l).train.searching = true → (u.dev.lane l).train = .cdrWait ∧ (u.dev.lane l).tries = 0 := by
  generalize hu : unitOf (c.arg 0 1) = u
  obtain ⟨hlt, hbit⟩ := testBit_mask (fun i => (s.dev.lane (nthD 0 (lanesOf u) i)).train.searching) (lanesOf u).length
  have hsmall : sumN ((s.dev.searchers u).map fun i => 2 ^ i) < 65536 :=
    lt_of_lt_of_le hlt ((Nat.pow_le_pow_right (by decide) (lanesOf_length_le u)).trans (by decide))
  have hwork : s.dev.tickFree.LaneWork ((s.dev.tickFree.retrain u (s.dev.searchers u) s.dev.freeWord).plinkUpdate u) :=
    (s.dev.tickFree.retrain_laneWork u _ _).trans (Dev.plinkUpdate_laneWork _ _)
  have hlanes : ∀ i ∈ s.dev.searchers u, ((((s.dev.tickFree.retrain u (s.dev.searchers u) s.dev.freeWord).plinkUpdate u).lane (nthD 0 (lanesOf u) i)).train = .cdrWait ∧
      (((s.dev.tickFree.retrain u (s.dev.searchers u) s.dev.freeWord).plinkUpdate u).lane (nthD 0 (lanesOf u) i)).tries = 0) := fun i hi => by
    rw [Dev.lane_plinkUpdate]
    exact Dev.lane_retrain _ _ _ _ i hi
  generalize hd : (s.dev.tickFree.retrain u (s.dev.searchers u) s.dev.freeWord).plinkUpdate u = d at hwork hlanes
  have hshort : d.short = s.dev.short := by rw [Dev.short, Dev.short, Dev.now, hwork.clk]; rfl
  have heff : (laneRetrainSpec.effect c s) = (s.setDev d, .done .ok (sumN ((s.dev.searchers u).map fun i => 2 ^ i)) d.short) := by
    rw [← hd, ← hu]
    rfl
  obtain ⟨e, hrun, hdone, ⟨hout, -⟩, -⟩ := h.okDev heff hwork.rings hwork.clk
  rw [Nat.mod_eq_of_lt hsmall, hshort] at hout
  refine ⟨_, _, congrArg Host.Outcome.next hrun, hout, fun i hi => ?_, fun l hl hs => ?_⟩
  · rw [show (sumN ((s.dev.searchers u).map fun i => 2 ^ i)).testBit i = _ from hbit i hi]
  · obtain ⟨i, hi, rfl⟩ := nthD_lanesOf l hl
    rw [State.setDev_dev, Dev.lane_congr (show e.lanes.lanes = d.lanes.lanes by rw [hdone])]
    exact hlanes i (List.mem_filter.2 ⟨hi, hs⟩)

theorem sumN_powers_lt {g : Nat → Nat} (n : Nat) (hg : ∀ i, g i ≤ 2 ^ i) : sumN ((List.range n).map g) < 2 ^ n := by
  simp only [sumN_eq_sum]
  induction n with
  | zero => simp
  | succ n ih =>
    rw [List.range_succ, List.map_append, List.sum_append, pow_succ]
    have := hg n
    simp only [List.map_cons, List.map_nil, List.sum_cons, List.sum_nil]
    omega

theorem portQuery_accepted (c : HostCmd) (h : Accepts portQuerySpec c s) :
    ∃ u, exec (.portQuery c) s = .next u ∧ UnitsKept s u ∧
      u.dev.ctl.out.contains (.completion c.tag (portQuerySpec.okOr c s) (s.dev.upMask (c.arg 0 1) + (if (s.dev.plink (c.arg 0 1)).up then 256 else 0))
        (shortOf (s.dev.plink (c.arg 0 1)).changed)) = true := by
  obtain ⟨u, hu, hkept, hends, -⟩ := h.query rfl
  have hmask : s.dev.upMask (c.arg 0 1) < 256 := by
    refine lt_of_lt_of_le (sumN_powers_lt _ fun i => ?_) (Nat.pow_le_pow_right (by decide) (lanesOf_length_le _))
    split
    · exact le_rfl
    · exact Nat.zero_le _
  have hsmall : (s.dev.upMask (c.arg 0 1) + (if (s.dev.plink (c.arg 0 1)).up then 256 else 0)) % 65536 =
      s.dev.upMask (c.arg 0 1) + (if (s.dev.plink (c.arg 0 1)).up then 256 else 0) := by
    refine Nat.mod_eq_of_lt ?_
    split <;> omega
  rw [hsmall] at hends
  exact ⟨u, congrArg Host.Outcome.next hu, hkept, hends⟩

/-! ### Test patterns -/

/-- What the lane sent is of no matter for its checker. -/
theorem Dev.chk_prbsSent (d : Dev) (l n : Nat) : (((d.prbsSent l n).1).lane l).chk = (d.lane l).chk := by
  unfold Dev.prbsSent
  dsimp only
  rw [Dev.lane_setLane, if_pos rfl]

theorem Dev.lane_prbsSent (d : Dev) (l n : Nat) {k : Nat} (hk : k ≠ l) : ((d.prbsSent l n).1).lane k = d.lane k := by
  unfold Dev.prbsSent
  dsimp only
  rw [Dev.lane_setLane, if_neg hk]

/-- What the lane makes of `bits`: its generator, and what it gives out. -/
def Dev.prbsOut (d : Dev) (l : Nat) (bits : List Bool) : Dev :=
  let g := if fld (d.laneCfg l) 5 2 = 3 then (d, bits) else if fld (d.prbsCfg l) 0 3 = 0 then (d, []) else d.prbsSent l bits.length
  if g.2.isEmpty then g.1 else g.1.emit (.serial l (g.2.map (fun b => b != bit (d.laneCfg l) 8)))

theorem Dev.prbsOut_spec (d : Dev) (l : Nat) (bits : List Bool) :
    ((d.prbsOut l bits).lane l).chk = (d.lane l).chk ∧ (∀ k, k ≠ l → (d.prbsOut l bits).lane k = d.lane k) ∧ ∀ p o, (d.prbsOut l bits).counter p o = d.counter p o := by
  generalize hg : (if fld (d.laneCfg l) 5 2 = 3 then (d, bits) else if fld (d.prbsCfg l) 0 3 = 0 then (d, []) else d.prbsSent l bits.length) = g
  have hone : (g.1.lane l).chk = (d.lane l).chk ∧ (∀ k, k ≠ l → g.1.lane k = d.lane k) ∧ ∀ p o, g.1.counter p o = d.counter p o := by
    rw [← hg]
    repeat' split
    · exact ⟨rfl, fun _ _ => rfl, fun _ _ => rfl⟩
    · exact ⟨rfl, fun _ _ => rfl, fun _ _ => rfl⟩
    · exact ⟨d.chk_prbsSent l _, fun k hk => d.lane_prbsSent l _ hk, fun _ _ => rfl⟩
  unfold Dev.prbsOut
  dsimp only
  rw [hg]
  split
  · exact hone
  · exact hone

/-- The sequences counted as lost, one event for each. -/
theorem Dev.laneEvents_spec (d : Dev) (l n : Nat) :
    let e := (List.range n).foldl (fun (d : Dev) (_ : Nat) => d.laneEvent l 3 (d.lane l).train (fmk 0 64 (d.lane l).tries)) d
    (∀ k, e.lane k = d.lane k) ∧ (∀ p o, p ≠ pgErrlog → o < 4096 → e.counter p o = d.counter p o) ∧
      (0 < n → (e.page (pgQuad (l / 4))).event.getLsbD (4 * (l % 4) + 3) = true) := by
  induction n with
  | zero => exact ⟨fun _ => rfl, fun _ _ _ _ => rfl, fun h => absurd h (by omega)⟩
  | succ n ih =>
    obtain ⟨hl, hc, -⟩ := ih
    dsimp only at hl hc ⊢
    rw [List.range_succ, List.foldl_append, List.foldl_cons, List.foldl_nil]
    refine ⟨fun k => ?_, fun p o hp ho => ?_, fun _ => ?_⟩
    · rw [Dev.lane_laneEvent, hl]
    · exact (Dev.counter_raise _ _ _ _ _ _ _ hp ho).trans (hc p o hp ho)
    · exact Dev.raise_bit _ _ _ _ _ _ _ (by omega)

/-- An isolated lane that receives straight, and checks a sequence. -/
theorem Dev.prbsBits_checks (d : Dev) {n : Nat} (hn : n < 40) (bits : List Bool) (c : Checker) (hiso : bit (d.laneCfg n) 7 = true) (hloop : fld (d.laneCfg n) 5 2 = 0)
    (hinv : bit (d.laneCfg n) 9 = false) (hcinv : bit (d.prbsCfg n) 7 = false) (hcode : fld (d.prbsCfg n) 4 3 ≠ 0)
    (hc : c = bits.foldl (fun c b => c.take (fld (d.prbsCfg n) 4 3) b) { (d.lane n).chk with bits := 0, errors := 0, lost := 0 }) :
    ((d.prbsBits n bits).lane n).chk = c ∧ (∀ k, k ≠ n → (d.prbsBits n bits).lane k = d.lane k) ∧
      (d.prbsBits n bits).counter (pgQuad (n / 4)) (laneCtr n 0x130) = d.counter (pgQuad (n / 4)) (laneCtr n 0x130) + BitVec.ofNat 64 c.bits ∧
      (d.prbsBits n bits).counter (pgQuad (n / 4)) (laneCtr n 0x138) = d.counter (pgQuad (n / 4)) (laneCtr n 0x138) + BitVec.ofNat 64 c.errors ∧
      (0 < c.lost → ((d.prbsBits n bits).page (pgQuad (n / 4))).event.getLsbD (4 * (n % 4) + 3) = true) := by
  obtain ⟨hchk, hrest, hcount⟩ := d.prbsOut_spec n bits
  have hid : ∀ l : List Bool, l.map (fun b => b != false) = l := fun l => by simp
  have hform : d.prbsBits n bits = (List.range c.lost).foldl (fun (d : Dev) (_ : Nat) => d.laneEvent n 3 (d.lane n).train (fmk 0 64 (d.lane n).tries))
      ((((d.prbsOut n bits).setLane n { (d.prbsOut n bits).lane n with chk := c }).bump (pgQuad (n / 4)) (laneCtr n 0x130) c.bits).bump (pgQuad (n / 4)) (laneCtr n 0x138)
        c.errors) := by
    unfold Dev.prbsBits
    have hseen : ¬ (fld (d.laneCfg n) 5 2 = 1 ∨ fld (d.laneCfg n) 5 2 = 2) := by
      rw [hloop]
      decide
    rw [if_neg (by simp [hiso]; omega)]
    dsimp only
    rw [if_neg hcode, if_neg hseen, hinv, hid, hcinv, hid, hc, ← hchk]
    rfl
  obtain ⟨hl, hcnt, hev⟩ := Dev.laneEvents_spec ((((d.prbsOut n bits).setLane n { (d.prbsOut n bits).lane n with chk := c }).bump (pgQuad (n / 4)) (laneCtr n 0x130)
    c.bits).bump (pgQuad (n / 4)) (laneCtr n 0x138) c.errors) n c.lost
  have hkey : regKey (pgQuad (n / 4)) (laneCtr n 0x130) ≠ regKey (pgQuad (n / 4)) (laneCtr n 0x138) := by
    unfold regKey laneCtr
    omega
  rw [hform]
  refine ⟨?_, fun k hk => ?_, ?_, ?_, hev⟩
  · rw [hl]
    simp
  · rw [hl]
    simp [hk, hrest k hk]
  · rw [hcnt _ _ (pgQuad_ne_errlog _) (laneCtr_lt n (by decide)), Dev.counter_bump, if_neg hkey, Dev.counter_bump, if_pos rfl]
    congr 1
    exact hcount _ _
  · rw [hcnt _ _ (pgQuad_ne_errlog _) (laneCtr_lt n (by decide)), Dev.counter_bump, if_pos rfl, Dev.counter_bump, if_neg hkey.symm]
    congr 1
    exact hcount _ _

/-! ### Elastic buffers and faults of the far end -/

theorem pgPort_ne_errlog (p : Nat) : pgPort p ≠ pgErrlog := by
  unfold pgPort pgErrlog
  omega

theorem Dev.page_onPlink (d : Dev) (u : Nat) (g : PortLink → PortLink) (p : Nat) : (d.onPlink u g).page p = d.page p := rfl
theorem Dev.counter_onPlink (d : Dev) (u : Nat) (g : PortLink → PortLink) (p o : Nat) : (d.onPlink u g).counter p o = d.counter p o := rfl

/-- The buffer of a 10GBASE-X4 port runs over or empty: counted, and at the eleventh time within a second raised. -/
theorem Dev.elasticAdjust_media (d : Dev) {n : Nat} (hn : n < 8) (hup : (d.plink n).up = true) (hd : d.dense n = false) :
    (d.elasticAdjust n).counter (pgPort n) 0x0D8 = d.counter (pgPort n) 0x0D8 + 1 ∧
    (10 ≤ ((d.plink n).elastic.filter (fun t => decide (d.now < t + secT))).length →
      ((d.elasticAdjust n).page (pgPort n)).event.getLsbD 3 = true ∧ ((d.elasticAdjust n).plink n).elastic = []) ∧
    (((d.plink n).elastic.filter (fun t => decide (d.now < t + secT))).length < 10 → ((d.elasticAdjust n).page (pgPort n)).event = (d.page (pgPort n)).event) := by
  have hcount := d.counter_inc_same (pgPort n) 0x0D8
  unfold Dev.elasticAdjust
  rw [if_neg (by simp [hup]; omega), if_neg (by simp [hd])]
  dsimp only
  have hrecent : (((d.inc (pgPort n) 0x0D8).now :: ((d.inc (pgPort n) 0x0D8).plink n).elastic.filter
      (fun t => decide ((d.inc (pgPort n) 0x0D8).now < t + secT))).length) = ((d.plink n).elastic.filter (fun t => decide (d.now < t + secT))).length + 1 := rfl
  rw [hrecent]
  split
  · next hmany =>
    refine ⟨(Dev.counter_raise _ _ _ _ _ _ _ (pgPort_ne_errlog n) (by decide)).trans hcount, fun _ => ⟨Dev.raise_bit _ _ _ _ _ _ _ (by decide), ?_⟩, fun hfew => ?_⟩
    · rw [Dev.plink_raise, Dev.plink_onPlink, if_pos rfl]
    · omega
  · next hfew => exact ⟨hcount, fun hmany => by omega, fun _ => rfl⟩

theorem Dev.remoteFault_sets (d : Dev) {n : Nat} (hn : n < 8) (hup : (d.plink n).up = true) (hr : (d.plink n).remote = false) :
    ((d.remoteFault n).plink n).remote = true ∧ (d.remoteFault n).counter (pgPort n) 0x0E8 = d.counter (pgPort n) 0x0E8 + 1 ∧
      ((d.remoteFault n).page (pgPort n)).event.getLsbD 2 = true := by
  unfold Dev.remoteFault
  rw [if_neg (by simp [hup, hr]; omega)]
  refine ⟨?_, ?_, Dev.raise_bit _ _ _ _ _ _ _ (by decide)⟩
  · rw [Dev.plink_raise, Dev.plink_inc, Dev.plink_onPlink, if_pos rfl]
  · exact (Dev.counter_raise _ _ _ _ _ _ _ (pgPort_ne_errlog n) (by decide)).trans (Dev.counter_inc_same _ _ _)

theorem unitCommands : UnitCommands := by
  intro s n
  refine ⟨fun skews hup hn hd hk => ⟨_, exec_act rfl hup, Dev.deskewDone_up hn hd hk⟩, fun skews hup hk => ?_,
    fun hup hn hd hdue => ⟨_, exec_act rfl hup, Dev.deskewTimeout_fails hn hd hdue⟩, fun hup hn hlink => ⟨_, exec_act rfl hup, Dev.skewLoss_down hn hlink⟩,
    fun c h => laneRetrain_accepted c h, fun c h => portQuery_accepted c h, fun bits hup hn => ⟨fun hiso => ?_, fun c hiso hloop hinv hcinv hcode hc => ?_⟩,
    fun hup hn hlink hdense => ⟨_, exec_act rfl hup, ?_⟩,
    fun hup hn hlink => ⟨fun hdense => ⟨_, exec_act rfl hup, Dev.elasticAdjust_media _ hn hlink hdense⟩, fun hr => ⟨_, exec_act rfl hup, Dev.remoteFault_sets _ hn hlink hr⟩,
      ⟨_, exec_act rfl hup, ?_⟩⟩, fun hup hn => ⟨_, exec_act rfl hup, ?_⟩⟩
  · have hbad : ¬ (skews.all fun k => decide (k ≤ s.dev.skewLimit n)) = true := fun hall => by
      obtain ⟨k, hks, hlim⟩ := hk
      exact absurd (of_decide_eq_true (List.all_eq_true.1 hall k hks)) (Nat.not_le.2 hlim)
    exact (exec_act rfl hup).trans (congrArg (fun d => Host.Outcome.next (s.setDev d)) (if_neg fun h => hbad h.2.2))
  · have hout : s.dev.prbsBits n bits = s.dev := if_pos (Or.inr hiso)
    exact ⟨(exec_act (f := fun d => d.prbsBits n bits) rfl hup).trans (by rw [hout]), (exec_act (f := fun d => d.prbsBits n bits) rfl hup).trans (by rw [hout])⟩
  · obtain ⟨hchk, hrest, hbits, herr, hlost⟩ := s.dev.prbsBits_checks hn bits c hiso hloop hinv hcinv hcode hc
    exact ⟨_, exec_act (f := fun d => d.prbsBits n bits) rfl hup, exec_act (f := fun d => d.prbsBits n bits) rfl hup, hchk, hrest, hbits, herr, hlost⟩
  · have hinc : s.dev.elasticAdjust n = s.dev.inc (pgQuad (s.dev.wireLane n 0 / 4)) (laneCtr (s.dev.wireLane n 0) 0x118) := by
      unfold Dev.elasticAdjust
      rw [if_neg (by simp [hlink]; omega), if_pos hdense]
    rw [hinc]
    exact ⟨Dev.counter_inc_same _ _ _, rfl, rfl⟩
  · have hclear : s.dev.remoteFaultClear n = s.dev.onPlink n (fun x => { x with remote := false }) := if_neg (by omega)
    rw [hclear, State.setDev_dev, Dev.plink_onPlink, if_pos rfl]
    exact ⟨rfl, rfl⟩
  · have hpage : s.dev.pmaFault n = s.dev.onPage (pgQuad n) (fun h => { h with state := .faulted }) := if_neg (by omega)
    rw [hpage]
    exact pageBecomes_setDev ((Dev.OnlyPage.refl s.dev (pgQuad n)).onPage _)

end Sys2Proof.Machine
end

section
/-! What a whole write of a live block register does, once for every register (R61, R70, R656, R670). -/

namespace Sys2Proof.Machine
open Sys2Proof

variable {s : State} {p off : Nat} {t : PType} {g : Reg} {v : Word} {f : Dev → Dev}

/-- A live register whose write gives the state `x`, by the host of a unit whose writes go to no partner. -/
theorem Reaches.hostWrite_state {x : State} (h : Reaches s p) (ha : Alone s) (hst : (s.pageState p ≠ .isolated ∧ s.pageState p ≠ .testing) ∨ testControl t off = true)
    (ht : pageType p = some t) (hg : t.regAt off = some g) (hrws : g.rws = false) (ho : off % 8 = 0) (hlo : 0x040 < off) (hhi : off < 0x800)
    (hlive : (s.setDev s.dev).liveWrite p t g off v = x) (hpair : x.dev.pair = s.dev.pair) : s.hostWrite p off v = x := by
  have hpage : (s.setDev s.dev).pageState p = s.pageState p := rfl
  have hopen : ((decide (s.pageState p = .isolated) || decide (s.pageState p = .testing)) && !testControl t off) = false := by
    obtain ⟨hi, ht⟩ | hc := hst
    · simp [hi, ht]
    · simp [hc]
  have hstore : (s.setDev s.dev).store p t g off false v = x := by
    unfold State.store
    dsimp only
    rw [hpage, if_neg (by omega), hopen, if_neg (by decide), if_neg (by decide), hrws, if_neg (by decide), if_neg (by omega), hlive]
  have hrefuses : (s.setDev s.dev).secondaryRefuses p off = false := State.secondaryRefuses_alone (s := s.setDev s.dev) ha _ _
  have hj : x.dev.joined = false := (Dev.joined_of_pair hpair).trans ha.2
  rw [State.hostWrite, State.actAll_up _ h.up, h.write ht hg ho hhi]
  simp only [State.storeAt, ht, hg, hrefuses, Nat.not_le.2 hhi, decide_false, Bool.false_and, Bool.false_eq_true, if_false, hstore]
  exact State.relayWrite_alone hj _ _ _

/-- The same where the write is the operation `f` on the unit. -/
theorem Reaches.hostWrite_live (h : Reaches s p) (ha : Alone s) (hst : (s.pageState p ≠ .isolated ∧ s.pageState p ≠ .testing) ∨ testControl t off = true)
    (ht : pageType p = some t) (hg : t.regAt off = some g) (hrws : g.rws = false) (ho : off % 8 = 0) (hlo : 0x040 < off) (hhi : off < 0x800)
    (hlive : (s.setDev s.dev).liveWrite p t g off v = (s.setDev s.dev).onDev f) (hpair : (f s.dev).pair = s.dev.pair) :
    s.hostWrite p off v = (s.setDev s.dev).setDev (f s.dev) :=
  h.hostWrite_state ha hst ht hg hrws ho hlo hhi hlive hpair

/-- The same on a page whose registers a host may write. -/
theorem Writable.hostWrite_live (h : Writable s p) (ht : pageType p = some t) (hg : t.regAt off = some g) (hrws : g.rws = false) (ho : off % 8 = 0)
    (hlo : 0x040 < off) (hhi : off < 0x800) (hlive : (s.setDev s.dev).liveWrite p t g off v = (s.setDev s.dev).onDev f) (hpair : (f s.dev).pair = s.dev.pair) :
    s.hostWrite p off v = (s.setDev s.dev).setDev (f s.dev) := by
  obtain ⟨hreach, -, halone, hi, htest⟩ := h
  exact hreach.hostWrite_live halone (Or.inl ⟨hi, htest⟩) ht hg hrws ho hlo hhi hlive hpair

end Sys2Proof.Machine
end

section
/-! Words built of fields, and what they read back. -/

namespace Sys2Proof.Machine
open Sys2Proof

variable {v x : Word} {lo w i a b n : Nat}

theorem fmk_testBit (x : Nat) (h : lo + w ≤ 64) : (fmk lo w x).toNat.testBit i = (decide (lo ≤ i) && decide (i < lo + w) && x.testBit (i - lo)) := by
  have hfit : (x % 2 ^ w) <<< lo < 2 ^ 64 := by
    calc (x % 2 ^ w) <<< lo < 2 ^ w * 2 ^ lo := by
            rw [Nat.shiftLeft_eq]
            exact Nat.mul_lt_mul_of_pos_right (Nat.mod_lt _ (by positivity)) (by positivity)
      _ ≤ 2 ^ 64 := by
            rw [← pow_add]
            exact Nat.pow_le_pow_right (by decide) (by omega)
  rw [fmk, BitVec.toNat_ofNat, Nat.mod_eq_of_lt hfit, Nat.testBit_shiftLeft, Nat.testBit_mod_two_pow]
  by_cases h1 : lo ≤ i
  · simp [h1, show i - lo < w ↔ i < lo + w by omega]
  · simp [h1]

theorem fld_or (v x : Word) (lo w : Nat) : fld (v ||| x) lo w = fld v lo w ||| fld x lo w := by
  refine Nat.eq_of_testBit_eq fun i => ?_
  rw [Nat.testBit_or, fld_testBit, fld_testBit, fld_testBit, BitVec.toNat_or, Nat.testBit_or, Bool.and_or_distrib_left]

theorem fld_fmk_same (n : Nat) (h : lo + w ≤ 64) : fld (fmk lo w n) lo w = n % 2 ^ w := by
  refine Nat.eq_of_testBit_eq fun i => ?_
  rw [fld_testBit, fmk_testBit _ h, Nat.testBit_mod_two_pow]
  by_cases hi : i < w
  · simp [hi]
  · simp [hi]

theorem fld_fmk_apart (n : Nat) (h : lo + w ≤ 64) (ha : a + b ≤ lo ∨ lo + w ≤ a) : fld (fmk lo w n) a b = 0 := by
  refine Nat.eq_of_testBit_eq fun i => ?_
  rw [fld_testBit, fmk_testBit _ h, Nat.zero_testBit]
  by_cases hi : i < b
  · obtain h1 | h2 := ha
    · simp [show ¬ lo ≤ a + i by omega]
    · simp [show ¬ a + i < lo + w by omega]
  · simp [hi]

theorem fld_fmkB_apart (c : Bool) (h : lo < 64) (ha : a + b ≤ lo ∨ lo + 1 ≤ a) : fld (fmkB lo c) a b = 0 := fld_fmk_apart _ h ha

theorem bit_fmkB_same (c : Bool) (h : lo < 64) : bit (fmkB lo c) lo = c := by
  rw [bit, fmkB, fld_fmk_same _ (by omega)]
  cases c
  · rfl
  · rfl

end Sys2Proof.Machine
end

section
/-! The registers of lanes and ports (R622 to R626, R629): O41. -/

namespace Sys2Proof.Machine
open Sys2Proof

variable {s : State} {d e : Dev} {l k p : Nat} {v : Word}

/-! ### A lane out of service, and one that comes back -/

theorem Dev.othersWait_laneWork (d : Dev) (u : Nat) : d.LaneWork (d.othersWait u) := by
  refine Dev.laneWork_foldl _ (fun d l => ?_) (lanesOf u) d
  exact Dev.LaneWork.ite ((d.laneWork_onLane _ _).trans (Dev.laneEvent_noted _ _ _ _ _).laneWork) (.refl d)

theorem Dev.moveLane_laneWork (d : Dev) (l : Nat) (g : Lane → Lane) (c : Word) : d.LaneWork (d.moveLane l g c) := by
  have hdown : d.LaneWork ((d.onLane l g).laneEvent l 1 .linkUp c) := (d.laneWork_onLane l g).trans (Dev.laneEvent_noted _ _ _ _ _).laneWork
  exact Dev.LaneWork.ite ((hdown.trans (Dev.othersWait_laneWork _ (unitOf l))).trans (Dev.plinkUpdate_laneWork _ (unitOf l))) (d.laneWork_onLane l g)

/-- The lane that is moved out of LINK_UP, and any other that is not in it. -/
theorem Dev.lane_moveLane (d : Dev) (l : Nat) (g : Lane → Lane) (c : Word) (hg : ∀ x, (g x).train ≠ .linkUp) :
    (d.moveLane l g c).lane l = g (d.lane l) ∧ ∀ k, k ≠ l → (d.lane k).train ≠ .linkUp → (d.moveLane l g c).lane k = d.lane k := by
  unfold Dev.moveLane
  dsimp only
  split
  · refine ⟨?_, fun k hk ht => ?_⟩
    · rw [Dev.lane_plinkUpdate, Dev.lane_othersWait_kept _ _ (by simpa using hg _)]
      simp
    · rw [Dev.lane_plinkUpdate, Dev.lane_othersWait_kept _ _ (by simpa [hk] using ht)]
      simp [hk]
  · exact ⟨by simp, fun k hk _ => by simp [hk]⟩

theorem Dev.repower_laneWork (d : Dev) (l : Nat) : d.LaneWork (d.repower l) := by
  unfold Dev.repower
  dsimp only
  repeat' split
  any_goals exact .refl d
  any_goals exact d.moveLane_laneWork _ _ _
  exact d.laneWork_onLane _ _

theorem Dev.repower_others (d : Dev) (l : Nat) {k : Nat} (hk : k ≠ l) (ht : (d.lane k).train ≠ .linkUp) : (d.repower l).lane k = d.lane k := by
  unfold Dev.repower
  dsimp only
  repeat' split
  any_goals rfl
  any_goals exact (d.lane_moveLane l _ _ fun x => by simp [Lane.enter]).2 k hk ht
  simp [hk]

/-- ISOLATE isolates a lane. -/
theorem Dev.repower_isolated (h : bit (d.laneCfg l) 7 = true) : ((d.repower l).lane l).train = .isolated := by
  unfold Dev.repower
  dsimp only
  rw [if_pos h]
  split
  · next ht => exact ht
  · rw [(d.lane_moveLane l _ _ fun x => by simp [Lane.enter]).1]
    rfl

theorem Dev.repower_not_isolated (h : bit (d.laneCfg l) 7 = false) : ((d.repower l).lane l).train ≠ .isolated := by
  have hmove : ∀ (g : Lane → Lane) (c : Word), (∀ x, (g x).train ≠ .linkUp ∧ (g x).train ≠ .isolated) → ((d.moveLane l g c).lane l).train ≠ .isolated := fun g c hg => by
    rw [(d.lane_moveLane l g c fun x => (hg x).1).1]
    exact (hg _).2
  unfold Dev.repower
  dsimp only
  rw [if_neg (by simp [h])]
  split
  · split
    · next ht =>
      rw [ht]
      decide
    · exact hmove _ _ fun x => by simp [Lane.enter]
  · split
    · split
      · next ht =>
        rw [ht]
        decide
      · exact hmove _ _ fun x => by simp [Lane.enter]
    · split
      · simp [Lane.enter]
      · next hout => exact fun ht => hout (Or.inr ht)

/-- A lane whose receiver is OFF is out of service. -/
theorem Dev.repower_off (h : d.rxPwr l = 0) : ((d.repower l).lane l).train = .off ∨ ((d.repower l).lane l).train = .isolated := by
  by_cases hiso : bit (d.laneCfg l) 7 = true
  · exact Or.inr (d.repower_isolated hiso)
  · unfold Dev.repower
    dsimp only
    rw [if_neg hiso, if_pos h]
    split
    · next ht => exact Or.inl ht
    · rw [(d.lane_moveLane l _ _ fun x => by simp [Lane.enter]).1]
      exact Or.inl rfl

/-! ### A change of power -/

/-- What a change of power over a unit's lanes adds to the change itself. -/
theorem Dev.powered_spec (d : Dev) (u : Nat) (f : Dev → Dev) : (∀ k, (d.powered u f).lane k = (f d).lane k) ∧ (f d).LaneWork (d.powered u f) := by
  unfold Dev.powered
  dsimp only
  refine ⟨fun k => ?_, ?_⟩
  · rw [Dev.lane_tellFault]
    split <;> rfl
  · exact (Dev.LaneWork.ite ((f d).laneWork_onPlink u _) (.refl _)).trans (Dev.tellFault_laneWork _ _)

/-! ### LANE_CFG -/

/-- LOOPBACK and TEST_RATE of a merged word hold unless ISOLATE was 1. -/
def laneCfgHeld (old m : Word) : Word := if bit old 7 then m else setFld (setFld m 5 2 (fld old 5 2)) 24 3 (fld old 24 3)

/-- The word that LANE_CFG keeps of a merged one: LOOPBACK is cleared with ISOLATE. -/
def laneCfgKept (old m : Word) : Word := if bit (laneCfgHeld old m) 7 then laneCfgHeld old m else setFld (laneCfgHeld old m) 5 2 0

theorem laneCfgHeld_isolate (old m : Word) : bit (laneCfgHeld old m) 7 = bit m 7 := by
  unfold laneCfgHeld
  by_cases h : bit old 7 = true
  · rw [if_pos h]
  · rw [if_neg h, bit_setFld_apart _ _ (by decide) (by decide), bit_setFld_apart _ _ (by decide) (by decide)]

theorem laneCfgKept_isolate (old m : Word) : bit (laneCfgKept old m) 7 = bit m 7 := by
  rw [← laneCfgHeld_isolate old m, laneCfgKept]
  generalize laneCfgHeld old m = w
  split
  · rfl
  · rw [bit_setFld_apart _ _ (by decide) (by decide)]

theorem laneCfgKept_rate (old m : Word) (h : bit old 7 = false) : fld (laneCfgKept old m) 24 3 = fld old 24 3 := by
  have hheld : fld (laneCfgHeld old m) 24 3 = fld old 24 3 := by
    rw [laneCfgHeld, if_neg (by rw [h]; decide), fld_setFld_same _ _ (by decide)]
    exact Nat.mod_eq_of_lt (fld_lt old 24 3)
  rw [← hheld, laneCfgKept]
  generalize laneCfgHeld old m = w
  split
  · rfl
  · rw [fld_setFld_apart _ _ (by decide) (by decide)]

theorem laneCfgKept_loop (old m : Word) (h : bit m 7 = false) : fld (laneCfgKept old m) 5 2 = 0 := by
  rw [laneCfgKept, if_neg (by rw [laneCfgHeld_isolate, h]; decide), fld_setFld_same _ _ (by decide)]
  rfl

/-- The lane's registers as they are after a write of LANE_CFG, before its power follows. -/
def Dev.laneCfgPut (d : Dev) (l : Nat) (v : Word) : Dev :=
  let pg := pgQuad (l / 4)
  let off := 0x100 + 0x40 * (l % 4)
  let old := d.reg pg off
  let m := d.mergeAt pg off v
  let bad := !bit old 7 && (fld m.1 5 2 != 0 || fld m.1 24 3 != 0)
  let w := laneCfgKept old m.1
  let d := (d.setReg pg off w).errs pg m.2
  let d := if bad then d.err pg .badState else d
  if bit old 7 && !bit w 7 then
    (d.setReg pg (0x110 + 0x40 * (l % 4)) (setFld (setFld (d.prbsCfg l) 0 3 0) 4 3 0)).onLane l (fun x => { x with chk := {}, gen := [], flip := false })
  else d

theorem Dev.laneCfgWrite_eq (hl : l < 40) (v : Word) : d.laneCfgWrite l v = d.powered (unitOf l) fun d => (d.laneCfgPut l v).repower l :=
  if_neg (by omega)

/-- Two lanes' LANE_CFG, and PRBS_CFG, are different registers. -/
theorem laneCfg_key {l k : Nat} (h : k ≠ l) : regKey (pgQuad (k / 4)) (0x100 + 0x40 * (k % 4)) ≠ regKey (pgQuad (l / 4)) (0x100 + 0x40 * (l % 4)) := by
  unfold regKey pgQuad
  omega

theorem laneCfg_prbs_key (l k : Nat) : regKey (pgQuad (k / 4)) (0x100 + 0x40 * (k % 4)) ≠ regKey (pgQuad (l / 4)) (0x110 + 0x40 * (l % 4)) := by
  unfold regKey pgQuad
  omega

theorem Dev.laneCfgPut_spec (d : Dev) (l : Nat) (v : Word) :
    (d.laneCfgPut l v).pair = d.pair ∧ (d.laneCfgPut l v).laneCfg l = laneCfgKept (d.laneCfg l) (d.mergeAt (pgQuad (l / 4)) (0x100 + 0x40 * (l % 4)) v).1 ∧
      ∀ k, k ≠ l → (d.laneCfgPut l v).laneCfg k = d.laneCfg k := by
  generalize hm : d.mergeAt (pgQuad (l / 4)) (0x100 + 0x40 * (l % 4)) v = m
  have hput : ∀ e : Dev, e.pair = d.pair → (∀ k, e.laneCfg k = if k = l then laneCfgKept (d.laneCfg l) m.1 else d.laneCfg k) →
      e.pair = d.pair ∧ e.laneCfg l = laneCfgKept (d.laneCfg l) m.1 ∧ ∀ k, k ≠ l → e.laneCfg k = d.laneCfg k := fun e hp he =>
    ⟨hp, (he l).trans (if_pos rfl), fun k hk => (he k).trans (if_neg hk)⟩
  have hstored : ∀ k, ((d.setReg (pgQuad (l / 4)) (0x100 + 0x40 * (l % 4)) (laneCfgKept (d.laneCfg l) m.1)).errs (pgQuad (l / 4)) m.2).laneCfg k =
      if k = l then laneCfgKept (d.laneCfg l) m.1 else d.laneCfg k := fun k => by
    rw [Dev.laneCfg, Dev.reg_errs, Dev.reg_setReg]
    by_cases hk : k = l
    · rw [hk, if_pos rfl, if_pos rfl]
    · rw [if_neg (laneCfg_key hk), if_neg hk, Dev.laneCfg]
  have hpair : ((d.setReg (pgQuad (l / 4)) (0x100 + 0x40 * (l % 4)) (laneCfgKept (d.laneCfg l) m.1)).errs (pgQuad (l / 4)) m.2).pair = d.pair :=
    (Dev.errs_noted _ _ _).pair
  unfold Dev.laneCfgPut
  dsimp only
  rw [hm]
  generalize hb : (d.setReg (pgQuad (l / 4)) (0x100 + 0x40 * (l % 4)) (laneCfgKept (d.reg (pgQuad (l / 4)) (0x100 + 0x40 * (l % 4))) m.1)).errs (pgQuad (l / 4)) m.2 = b
  have hbcfg : ∀ k, b.laneCfg k = if k = l then laneCfgKept (d.laneCfg l) m.1 else d.laneCfg k := fun k => by rw [← hb]; exact hstored k
  have hbpair : b.pair = d.pair := by rw [← hb]; exact hpair
  have hprbs : ∀ (e : Dev) (w : Word) (g : Lane → Lane), e.pair = d.pair → (∀ k, e.laneCfg k = if k = l then laneCfgKept (d.laneCfg l) m.1 else d.laneCfg k) →
      ((e.setReg (pgQuad (l / 4)) (0x110 + 0x40 * (l % 4)) w).onLane l g).pair = d.pair ∧
      ((e.setReg (pgQuad (l / 4)) (0x110 + 0x40 * (l % 4)) w).onLane l g).laneCfg l = laneCfgKept (d.laneCfg l) m.1 ∧
      ∀ k, k ≠ l → ((e.setReg (pgQuad (l / 4)) (0x110 + 0x40 * (l % 4)) w).onLane l g).laneCfg k = d.laneCfg k := fun e w g hp he =>
    hput _ hp fun k => by
      rw [Dev.laneCfg, Dev.reg_onLane, Dev.reg_setReg, if_neg (laneCfg_prbs_key l k)]
      exact he k
  split
  · split
    · exact hprbs _ _ _ hbpair hbcfg
    · exact hprbs _ _ _ hbpair hbcfg
  · split
    · exact hput _ hbpair hbcfg
    · exact hput _ hbpair hbcfg

/-! ### The writes of the two registers of a lane -/

theorem quad_laneCfg : ∀ j : Fin 4, ∃ g, PType.quad.regAt (0x100 + 0x40 * j.val) = some g ∧ g.rws = false ∧ FieldsApart g.flds ∧ (⟨7, 1, .rw, 0, .any⟩ : Fld) ∈ g.flds := by
  intro j
  fin_cases j
  all_goals exact ⟨_, rfl, rfl, by unfold FieldsApart; decide, by decide⟩

/-- PRBS_CFG of a lane, and what it takes of a word whose fields are those it shows. -/
theorem quad_prbsCfg : ∀ j : Fin 4, PType.quad.isCounter (0x110 + 0x40 * j.val) = false ∧ ∃ g, PType.quad.regAt (0x110 + 0x40 * j.val) = some g ∧ g.rws = false ∧
    g.flds = [⟨0, 3, .rw, 0, .below 5⟩, ⟨3, 1, .rw, 0, .any⟩, ⟨4, 3, .rw, 0, .below 5⟩, ⟨7, 1, .rw, 0, .any⟩, ⟨8, 1, .ro, 0, .any⟩, ⟨9, 1, .wo, 0, .any⟩] := by
  intro j
  fin_cases j
  all_goals exact ⟨rfl, _, rfl, rfl, rfl⟩

theorem regAt_prbsCfg (l : Nat) : ∃ g, PType.quad.regAt (0x110 + 0x40 * (l % 4)) = some g ∧ g.rws = false ∧
    g.flds = [⟨0, 3, .rw, 0, .below 5⟩, ⟨3, 1, .rw, 0, .any⟩, ⟨4, 3, .rw, 0, .below 5⟩, ⟨7, 1, .rw, 0, .any⟩, ⟨8, 1, .ro, 0, .any⟩, ⟨9, 1, .wo, 0, .any⟩] :=
  (quad_prbsCfg ⟨l % 4, Nat.mod_lt _ (by decide)⟩).2

theorem pageType_quad {q : Nat} (h : q < 10) : pageType (pgQuad q) = some .quad ∧ pageInst (pgQuad q) = q := by
  interval_cases q
  all_goals exact ⟨rfl, rfl⟩

theorem Dev.laneCfgWrite_laneWork (d : Dev) (hl : l < 40) (v : Word) : ((d.laneCfgPut l v).repower l).LaneWork (d.laneCfgWrite l v) := by
  rw [Dev.laneCfgWrite_eq hl]
  exact (d.powered_spec _ _).2

theorem Reaches.write_laneCfg (h : Reaches s (pgQuad (l / 4))) (ha : Alone s) (hl : l < 40) (v : Word) :
    exec (.laneCfgWrite l v) s = .next ((s.setDev s.dev).setDev (s.dev.laneCfgWrite l v)) := by
  obtain ⟨ht, hi⟩ := pageType_quad (show l / 4 < 10 by omega)
  obtain ⟨g, hg, hrws, -, -⟩ := quad_laneCfg ⟨l % 4, by omega⟩
  have htest : testControl .quad (0x100 + 0x40 * (l % 4)) = true := by
    simp only [testControl, Bool.and_eq_true, Bool.or_eq_true, decide_eq_true_eq, beq_iff_eq]
    exact ⟨trivial, Or.inr ⟨⟨by omega, by omega⟩, Or.inl (by omega)⟩⟩
  have hlive : (s.setDev s.dev).liveWrite (pgQuad (l / 4)) .quad g (0x100 + 0x40 * (l % 4)) v = (s.setDev s.dev).onDev fun d => d.laneCfgWrite l v := by
    have hlane : 4 * (l / 4) + (0x100 + 0x40 * (l % 4) - 0x100) / 0x40 = l := by omega
    simp only [State.liveWrite, hi, hlane]
    rw [if_pos (by omega)]
  have hpair : (s.dev.laneCfgWrite l v).pair = s.dev.pair := ((s.dev.laneCfgWrite_laneWork hl v).pair.trans (Dev.repower_laneWork _ l).pair).trans (s.dev.laneCfgPut_spec l v).1
  exact congrArg Host.Outcome.next ((if_pos hl).trans
    (h.hostWrite_live ha (Or.inr htest) ht hg hrws (by omega) (by omega) (by omega) hlive hpair))

/-- LANE_CFG written (R622 to R626). -/
theorem Reaches.laneCfg_follows (h : Reaches s (pgQuad (l / 4))) (ha : Alone s) (hl : l < 40) (v : Word) : ∃ u, exec (.laneCfgWrite l v) s = .next u ∧
    bit (u.dev.laneCfg l) 7 = bit v 7 ∧ (bit (s.dev.laneCfg l) 7 = false → fld (u.dev.laneCfg l) 24 3 = fld (s.dev.laneCfg l) 24 3) ∧
    (bit v 7 = false → fld (u.dev.laneCfg l) 5 2 = 0) ∧ (bit v 7 = true → (u.dev.lane l).train = .isolated) ∧
    (bit v 7 = false → (u.dev.lane l).train ≠ .isolated) ∧ ∀ k, k < 40 → k ≠ l → u.dev.laneCfg k = s.dev.laneCfg k := by
  obtain ⟨ht, -⟩ := pageType_quad (show l / 4 < 10 by omega)
  obtain ⟨g, hg, -, hapart, hisolate⟩ := quad_laneCfg ⟨l % 4, by omega⟩
  have hg' : PType.quad.regAt (0x100 + 0x40 * (l % 4)) = some g := hg
  have hmerged : bit (s.dev.mergeAt (pgQuad (l / 4)) (0x100 + 0x40 * (l % 4)) v).1 7 = bit v 7 := by
    simp only [Dev.mergeAt, ht, Option.bind_some, hg']
    exact bit_mergeFields_any hapart hisolate
  obtain ⟨-, hcfg, hrest⟩ := s.dev.laneCfgPut_spec l v
  have hput : ∀ k, (s.dev.laneCfgWrite l v).laneCfg k = (s.dev.laneCfgPut l v).laneCfg k := fun k =>
    ((s.dev.laneCfgWrite_laneWork hl v).reg _ _).trans ((Dev.repower_laneWork _ l).reg _ _)
  have hlane : (s.dev.laneCfgWrite l v).lane l = ((s.dev.laneCfgPut l v).repower l).lane l := by
    rw [Dev.laneCfgWrite_eq hl]
    exact (s.dev.powered_spec _ _).1 l
  refine ⟨_, h.write_laneCfg ha hl v, ?_⟩
  simp only [State.setDev_dev]
  rw [hput, hlane, hcfg]
  refine ⟨?_, laneCfgKept_rate _ _, fun hv => laneCfgKept_loop _ _ (hmerged.trans hv), fun hv => ?_, fun hv => ?_, fun k _ hk => ?_⟩
  · rw [laneCfgKept_isolate, hmerged]
  · exact Dev.repower_isolated (by rw [hcfg, laneCfgKept_isolate, hmerged, hv])
  · exact Dev.repower_not_isolated (by rw [hcfg, laneCfgKept_isolate, hmerged, hv])
  · rw [hput, hrest k hk]

/-! ### ERR_INJECT -/

theorem State.seen_prbsCfg (s : State) (hl : l < 40) : s.seen (pgQuad (l / 4)) (0x110 + 0x40 * (l % 4)) = s.dev.prbsCfg l ||| fmkB 8 (s.dev.lane l).chk.locked := by
  obtain ⟨ht, hi⟩ := pageType_quad (show l / 4 < 10 by omega)
  have hcnt : PType.quad.isCounter (0x110 + 0x40 * (l % 4)) = false := (quad_prbsCfg ⟨l % 4, by omega⟩).1
  have hlane : 4 * (l / 4) + (0x110 + 0x40 * (l % 4) - 0x100) / 0x40 = l := by omega
  simp only [State.seen, ht, State.blockRead, hi, Dev.quadRead, hlane, hcnt]
  rw [if_neg (by omega), if_neg (by decide), if_neg (by omega), if_neg (by omega), if_neg (by omega), if_pos (by omega)]

/-- A word whose fields are those of PRBS_CFG is taken for what stands there. -/
theorem mergeFields_prbsCfg (old seen : Word) (c : Bool) :
    (mergeFields [⟨0, 3, .rw, 0, .below 5⟩, ⟨3, 1, .rw, 0, .any⟩, ⟨4, 3, .rw, 0, .below 5⟩, ⟨7, 1, .rw, 0, .any⟩, ⟨8, 1, .ro, 0, .any⟩, ⟨9, 1, .wo, 0, .any⟩]
      old seen (setFld (old ||| fmkB 8 c) 9 1 1)).1 = old := by
  have hfld : ∀ a b, a + b ≤ 8 → fld (setFld (old ||| fmkB 8 c) 9 1 1) a b = fld old a b := fun a b h => by
    rw [fld_setFld_apart _ _ (by decide) (by omega), fld_or, fld_fmkB_apart c (by decide) (by omega), Nat.or_zero]
  refine mergeFields_same (by decide) fun g hg hrw => ?_
  simp only [List.mem_cons, List.not_mem_nil, or_false] at hg
  rcases hg with rfl | rfl | rfl | rfl | rfl | rfl
  · simp [Fld.stored, limitField, hfld, apply_ite]
  · simp [Fld.stored, limitField, hfld]
  · simp [Fld.stored, limitField, hfld, apply_ite]
  · simp [Fld.stored, limitField, hfld]
  · cases hrw
  · cases hrw

/-- ERR_INJECT as the write of PRBS_CFG that it is: the page's errors counted, and one bit inverted. -/
theorem Dev.prbsCfgWrite_inject (d : Dev) (hl : l < 40) : ∃ es, d.prbsCfgWrite l (setFld (d.prbsCfg l ||| fmkB 8 (d.lane l).chk.locked) 9 1 1) =
    if bit (d.laneCfg l) 7 then ((d.errs (pgQuad (l / 4)) es).setReg (pgQuad (l / 4)) (0x110 + 0x40 * (l % 4)) (d.prbsCfg l)).errInject l
    else (d.errs (pgQuad (l / 4)) es).errInject l := by
  obtain ⟨g, hg, -, hflds⟩ := regAt_prbsCfg l
  have hbit : bit (setFld (d.prbsCfg l ||| fmkB 8 (d.lane l).chk.locked) 9 1 1) 9 = true := by rw [bit, fld_setFld_same _ _ (by decide)]; rfl
  have hkept := mergeFields_prbsCfg (d.prbsCfg l) (d.prbsCfg l ||| fmkB 8 (d.lane l).chk.locked) (d.lane l).chk.locked
  rw [← hflds] at hkept
  unfold Dev.prbsCfgWrite
  rw [if_neg (by omega), hbit, if_pos rfl, hg]
  dsimp only
  rw [show d.reg (pgQuad (l / 4)) (0x110 + 0x40 * (l % 4)) = d.prbsCfg l from rfl, hkept, if_pos rfl, if_pos rfl, if_pos rfl]
  generalize (mergeFields _ _ _ _).2 = es
  refine ⟨es, ?_⟩
  rw [show (d.errs (pgQuad (l / 4)) es).laneCfg l = d.laneCfg l from Dev.reg_errs _ _ _ _ _]
  cases bit (d.laneCfg l) 7
  · rfl
  · rfl

theorem Reaches.write_errInject (h : Reaches s (pgQuad (l / 4))) (ha : Alone s) (hl : l < 40) : ∃ es, exec (.errInject l) s = .next ((s.setDev s.dev).setDev
    (if bit (s.dev.laneCfg l) 7 then ((s.dev.errs (pgQuad (l / 4)) es).setReg (pgQuad (l / 4)) (0x110 + 0x40 * (l % 4)) (s.dev.prbsCfg l)).errInject l
      else (s.dev.errs (pgQuad (l / 4)) es).errInject l)) := by
  obtain ⟨ht, hi⟩ := pageType_quad (show l / 4 < 10 by omega)
  obtain ⟨g, hg, hrws, -⟩ := regAt_prbsCfg l
  obtain ⟨es, hes⟩ := s.dev.prbsCfgWrite_inject hl
  have htest : testControl .quad (0x110 + 0x40 * (l % 4)) = true := by
    simp only [testControl, Bool.and_eq_true, Bool.or_eq_true, decide_eq_true_eq, beq_iff_eq]
    exact ⟨trivial, Or.inr ⟨⟨by omega, by omega⟩, Or.inr (by omega)⟩⟩
  have hlive : ∀ v, (s.setDev s.dev).liveWrite (pgQuad (l / 4)) .quad g (0x110 + 0x40 * (l % 4)) v = (s.setDev s.dev).onDev fun d => d.prbsCfgWrite l v := fun v => by
    have hlane : 4 * (l / 4) + (0x110 + 0x40 * (l % 4) - 0x100) / 0x40 = l := by omega
    simp only [State.liveWrite, hi, hlane]
    rw [if_neg (by omega), if_pos (by omega)]
  have hpair : ∀ d : Dev, (d.errInject l).pair = d.pair := fun d => by
    unfold Dev.errInject
    split
    · rfl
    · split
      · rfl
      · rfl
  refine ⟨es, congrArg Host.Outcome.next ((if_pos hl).trans ?_)⟩
  rw [s.seen_prbsCfg hl, ← hes]
  refine h.hostWrite_live ha (Or.inr htest) ht hg hrws (by omega) (by omega) (by omega) (hlive _) ?_
  rw [hes]
  split
  · exact (hpair _).trans (Dev.errs_noted _ _ _).pair
  · exact (hpair _).trans (Dev.errs_noted _ _ _).pair

@[simp] theorem Dev.lane_errs (d : Dev) (p : Nat) (es : List ErrCode) (k : Nat) : (d.errs p es).lane k = d.lane k := by rw [Dev.lane, Dev.lanes_errs, Dev.lane]

/-- ERR_INJECT of a lane under test inverts one bit (R629). -/
theorem Reaches.errInject_isolated (h : Reaches s (pgQuad (l / 4))) (ha : Alone s) (hl : l < 40) (hiso : bit (s.dev.laneCfg l) 7 = true) :
    ∃ u, exec (.errInject l) s = .next u ∧ u.dev.ctl.out.contains (.errBit l) = true ∧ u.dev.lane l = { s.dev.lane l with flip := true } ∧
      LaneOnly s u l ∧ u.dev.prbsCfg l = s.dev.prbsCfg l := by
  obtain ⟨es, hes⟩ := h.write_errInject ha hl
  rw [if_pos hiso] at hes
  refine ⟨_, hes, ?_⟩
  have hcfg : ((s.dev.errs (pgQuad (l / 4)) es).setReg (pgQuad (l / 4)) (0x110 + 0x40 * (l % 4)) (s.dev.prbsCfg l)).laneCfg l = s.dev.laneCfg l := by
    rw [Dev.laneCfg, Dev.reg_setReg, if_neg (laneCfg_prbs_key l l), Dev.reg_errs, Dev.laneCfg]
  simp only [State.setDev_dev]
  rw [Dev.errInject, if_neg (by omega), hcfg, if_pos hiso]
  refine ⟨?_, ?_, fun k hk => ?_, ?_⟩
  · simp [Dev.emit]
  · simp
  · simp [hk]
  · rw [Dev.prbsCfg, show ∀ (e : Dev) (o : Output), (e.emit o).reg = e.reg from fun _ _ => rfl, Dev.reg_onLane, Dev.reg_setReg, if_pos rfl]

/-- ERR_INJECT of any other lane is refused (R626). -/
theorem Reaches.errInject_refused (h : Reaches s (pgQuad (l / 4))) (ha : Alone s) (hl : l < 40) (hiso : bit (s.dev.laneCfg l) 7 = false) :
    ∃ u, exec (.errInject l) s = .next u ∧ u.dev.ctl.out = s.dev.ctl.out ∧ u.dev.lanes = s.dev.lanes ∧ (u.dev.page (pgQuad (l / 4))).errLast = 4 := by
  obtain ⟨es, hes⟩ := h.write_errInject ha hl
  rw [if_neg (by rw [hiso]; decide)] at hes
  have hcfg : (s.dev.errs (pgQuad (l / 4)) es).laneCfg l = s.dev.laneCfg l := Dev.reg_errs _ _ _ _ _
  refine ⟨_, hes, ?_⟩
  simp only [State.setDev_dev]
  rw [Dev.errInject, if_neg (by omega), hcfg, if_neg (by rw [hiso]; decide)]
  refine ⟨?_, ?_, ?_⟩
  · rw [show ∀ d : Dev, (d.err (pgQuad (l / 4)) .badState).ctl.out = d.ctl.out from fun _ => rfl, s.dev.pagesOnly_errs (pgQuad (l / 4)) es]
  · exact s.dev.lanes_errs _ _
  · simp [Dev.err, ErrCode.code]

/-! ### PORT_CFG -/

/-- A lane is out of service. -/
def Dev.Unserved (d : Dev) (l : Nat) : Prop := (d.lane l).train = .off ∨ (d.lane l).train = .isolated

theorem Dev.repower_unserved {k : Nat} (hk : d.rxPwr k = 0) : (d.repower k).Unserved k ∧ (d.Unserved l → (d.repower k).Unserved l) := by
  refine ⟨d.repower_off hk, fun h => ?_⟩
  by_cases hlk : l = k
  · rw [hlk]
    exact d.repower_off hk
  · rw [Dev.Unserved, d.repower_others k hlk ?_]
    · exact h
    · obtain h | h := h
      · rw [h]; decide
      · rw [h]; decide

theorem Dev.rxPwr_repower (d : Dev) (k l : Nat) : (d.repower k).rxPwr l = d.rxPwr l := by
  have hreg := (d.repower_laneWork k).reg
  have henabled : (d.repower k).laneEnabled l = d.laneEnabled l := by rw [Dev.laneEnabled, Dev.portCfg, hreg, Dev.laneEnabled, Dev.portCfg]
  rw [Dev.rxPwr, henabled, Dev.laneCfg, hreg, Dev.rxPwr, Dev.laneCfg]

/-- Lanes without power are all out of service once each has followed its power. -/
theorem Dev.foldl_repower_unserved (ls : List Nat) (d : Dev) (h : ∀ l ∈ ls, d.rxPwr l = 0) :
    (∀ l ∈ ls, (ls.foldl (fun d l => d.repower l) d).Unserved l) ∧ ∀ l, d.Unserved l → (ls.foldl (fun d l => d.repower l) d).Unserved l := by
  induction ls generalizing d with
  | nil => exact ⟨fun l hl => absurd hl List.not_mem_nil, fun l h => h⟩
  | cons k ls ih =>
    obtain ⟨hin, hout⟩ := ih (d.repower k) fun l hl => (d.rxPwr_repower k l).trans (h l (List.mem_cons_of_mem _ hl))
    obtain ⟨hself, hkept⟩ := Dev.repower_unserved (l := k) (h k List.mem_cons_self)
    refine ⟨fun l hl => ?_, fun l hl => hout l ((Dev.repower_unserved (h k List.mem_cons_self)).2 hl)⟩
    obtain rfl | hl := List.mem_cons.1 hl
    · exact hout l hself
    · exact hin l hl

/-- What a guarded register holds: the value written, but for the fields of `keep` where the change is not allowed. -/
theorem Dev.guarded_spec (d : Dev) (p off : Nat) (v : Word) (allowed : Bool) (keep : List (Nat × Nat)) :
    (d.guarded p off v allowed keep).pair = d.pair ∧ (d.guarded p off v allowed keep).reg p off =
      if allowed || !keep.any (fun k => fld (d.mergeAt p off v).1 k.1 k.2 != fld (d.reg p off) k.1 k.2) then (d.mergeAt p off v).1
      else keep.foldl (fun w k => setFld w k.1 k.2 (fld (d.reg p off) k.1 k.2)) (d.mergeAt p off v).1 := by
  unfold Dev.guarded
  dsimp only
  split
  · exact ⟨(Dev.errs_noted _ _ _).pair, by rw [Dev.reg_errs, Dev.reg_setReg, if_pos rfl]⟩
  · exact ⟨(Dev.err_noted _ _ _).pair.trans (Dev.errs_noted _ _ _).pair,
      by rw [(Dev.err_noted _ _ _).reg, Dev.reg_errs, Dev.reg_setReg, if_pos rfl]⟩

theorem port_portCfg : ∃ g, PType.port.regAt 0x048 = some g ∧ g.rws = false ∧ FieldsApart g.flds ∧ (⟨0, 1, .rw, 0, .any⟩ : Fld) ∈ g.flds :=
  ⟨_, rfl, rfl, by unfold FieldsApart; decide, by decide⟩

theorem pageType_port {p : Nat} (h : p < 8) : pageType (pgPort p) = some .port ∧ pageInst (pgPort p) = p := by
  interval_cases p
  all_goals exact ⟨rfl, rfl⟩

theorem Dev.portCfgWrite_spec (d : Dev) {p : Nat} (hp : p < 8) (v : Word) :
    ((lanesOf p).foldl (fun d l => d.repower l) (d.guarded (pgPort p) 0x048 v (!bit (d.portCfg p) 0) [(1, 1), (5, 1)])).LaneWork (d.portCfgWrite p v) ∧
      ∀ k, (d.portCfgWrite p v).lane k = ((lanesOf p).foldl (fun d l => d.repower l) (d.guarded (pgPort p) 0x048 v (!bit (d.portCfg p) 0) [(1, 1), (5, 1)])).lane k := by
  rw [Dev.portCfgWrite, if_neg (by omega)]
  obtain ⟨hlane, hwork⟩ := d.powered_spec p fun d => (lanesOf p).foldl (fun d l => d.repower l) (d.guarded (pgPort p) 0x048 v (!bit (d.portCfg p) 0) [(1, 1), (5, 1)])
  exact ⟨hwork, hlane⟩

/-- What PORT_CFG holds once written: ENABLE as written, and two fields that hold while the port is enabled (R650). -/
theorem Dev.portCfg_guarded (d : Dev) {p : Nat} (hp : p < 8) (v : Word) (w : Word)
    (hw : w = (d.guarded (pgPort p) 0x048 v (!bit (d.portCfg p) 0) [(1, 1), (5, 1)]).portCfg p) :
    bit w 0 = bit v 0 ∧ (bit (d.portCfg p) 0 = true → bit w 1 = bit (d.portCfg p) 1 ∧ bit w 5 = bit (d.portCfg p) 5) := by
  obtain ⟨g, hg, -, hapart, henable⟩ := port_portCfg
  have hm : bit (d.mergeAt (pgPort p) 0x048 v).1 0 = bit v 0 := by
    simp only [Dev.mergeAt, (pageType_port hp).1, Option.bind_some, hg]
    exact bit_mergeFields_any hapart henable
  rw [Dev.portCfg, (d.guarded_spec _ _ _ _ _).2] at hw
  generalize (d.mergeAt (pgPort p) 0x048 v).1 = m at hm hw
  rw [show d.reg (pgPort p) 0x048 = d.portCfg p from rfl] at hw
  subst hw
  split
  · next hfree =>
    refine ⟨hm, fun hold => ?_⟩
    rw [hold] at hfree
    simp only [List.any_cons, List.any_nil, Bool.not_true, Bool.false_or, Bool.or_false, Bool.not_eq_true', Bool.or_eq_false_iff, bne_eq_false_iff_eq] at hfree
    exact ⟨by rw [bit, hfree.1, bit], by rw [bit, hfree.2, bit]⟩
  · simp only [List.foldl_cons, List.foldl_nil]
    refine ⟨?_, fun _ => ⟨?_, ?_⟩⟩
    · rw [bit_setFld_apart _ _ (by decide) (by decide), bit_setFld_apart _ _ (by decide) (by decide), hm]
    · rw [bit_setFld_apart _ _ (by decide) (by decide), bit, fld_setFld_same _ _ (by decide), Nat.mod_eq_of_lt (fld_lt _ _ _), bit]
    · rw [bit, fld_setFld_same _ _ (by decide), Nat.mod_eq_of_lt (fld_lt _ _ _), bit]

/-- PORT_CFG written (R625, R650). -/
theorem Writable.portCfg_follows {p : Nat} (h : Writable s (pgPort p)) (hp : p < 8) (v : Word) : ∃ u, exec (.portCfgWrite p v) s = .next u ∧ bit (u.dev.portCfg p) 0 = bit v 0 ∧
    (bit (s.dev.portCfg p) 0 = true → bit (u.dev.portCfg p) 1 = bit (s.dev.portCfg p) 1 ∧ bit (u.dev.portCfg p) 5 = bit (s.dev.portCfg p) 5) ∧
    (bit v 0 = false → ∀ k, k ∈ lanesOf p → (u.dev.lane k).train = .off ∨ (u.dev.lane k).train = .isolated) := by
  obtain ⟨hty, hi⟩ := pageType_port hp
  obtain ⟨g, hg, hrws, -⟩ := port_portCfg
  have hlive : (s.setDev s.dev).liveWrite (pgPort p) .port g 0x048 v = (s.setDev s.dev).onDev fun d => d.portCfgWrite p v := by
    simp only [State.liveWrite, hi]
    rw [if_pos trivial]
  obtain ⟨hwork, hlane⟩ := s.dev.portCfgWrite_spec hp v
  generalize hd : s.dev.guarded (pgPort p) 0x048 v (!bit (s.dev.portCfg p) 0) [(1, 1), (5, 1)] = d at hwork hlane
  have hfold : d.LaneWork ((lanesOf p).foldl (fun d l => d.repower l) d) := Dev.laneWork_foldl _ (fun d l => d.repower_laneWork l) _ _
  have hcfg : (s.dev.portCfgWrite p v).portCfg p = d.portCfg p := (hwork.reg _ _).trans (hfold.reg _ _)
  have hpair : (s.dev.portCfgWrite p v).pair = s.dev.pair := (hwork.pair.trans hfold.pair).trans (by rw [← hd]; exact (s.dev.guarded_spec _ _ _ _ _).1)
  obtain ⟨henable, hheld⟩ := s.dev.portCfg_guarded hp v _ rfl
  rw [hd] at henable hheld
  refine ⟨_, congrArg Host.Outcome.next ((if_pos hp).trans (h.hostWrite_live hty hg hrws rfl (by decide) (by decide) hlive hpair)), ?_⟩
  simp only [State.setDev_dev]
  rw [hcfg]
  refine ⟨henable, hheld, fun hv k hk => ?_⟩
  rw [hlane]
  refine (Dev.foldl_repower_unserved (lanesOf p) d fun l hl => ?_).1 k hk
  have hport : l < 32 ∧ l / 4 = p := by
    rw [lanesOf, if_pos hp] at hl
    obtain ⟨i, hi4, rfl⟩ := List.mem_map.1 hl
    rw [List.mem_range] at hi4
    omega
  have hoff : d.laneEnabled l = false := by
    rw [Dev.laneEnabled, hport.2, henable, hv]
    simp [hport.1]
  rw [Dev.rxPwr, hoff, if_neg (by decide)]

theorem laneRegisters : LaneRegisters := fun _ _ _ v _ halone =>
  ⟨fun hl hreach => hreach.laneCfg_follows halone hl v, fun hl hreach hiso => hreach.errInject_isolated halone hl hiso,
    fun hl hreach hiso => hreach.errInject_refused halone hl hiso, fun hp hwrite => hwrite.portCfg_follows hp v⟩

/-- Settles O41: the rows of lanes and ports beside training, and the writes of their registers. -/
theorem portCommands : Obligations.PortCommands := ⟨unitCommands, laneRegisters⟩

end Sys2Proof.Machine
end

section
/-! The servo (R119 to R127, Table 3-3): O11. -/

namespace Sys2Proof.Machine
open Sys2Proof

variable {d e f : Dev} {o : Int}

/-! ### What the servo touches -/

theorem Dev.Noted.ptp (h : d.Noted e) : e.ptp = d.ptp := by rw [h]
theorem Dev.Noted.clk (h : d.Noted e) : e.clk = d.clk := by rw [h]

@[simp] theorem Dev.ptp_raise (d : Dev) (p b s c : Nat) (x y : Word) : (d.raise p b s c x y).ptp = d.ptp := (d.raise_noted p b s c x y).ptp
@[simp] theorem Dev.clk_raise (d : Dev) (p b s c : Nat) (x y : Word) : (d.raise p b s c x y).clk = d.clk := (d.raise_noted p b s c x y).clk
@[simp] theorem Dev.pair_raise (d : Dev) (p b s c : Nat) (x y : Word) : (d.raise p b s c x y).pair = d.pair := (d.raise_noted p b s c x y).pair

/-- A clock whose outputs alone may differ. -/
def Clock.OutputsOnly (c k : Clock) : Prop := k = { c with ppsHigh := k.ppsHigh, wclkHigh := k.wclkHigh }

/-- Outputs that are squelched change nothing but themselves. -/
theorem Dev.squelchNow_spec (d : Dev) : d.clk.OutputsOnly d.squelchNow.clk ∧ d.squelchNow = { d with clk := d.squelchNow.clk, ctl := { d.ctl with out := d.squelchNow.ctl.out } } := by
  have hpps : ∀ (d : Dev) (t : Time), d.clk.OutputsOnly (d.ppsFall t).clk ∧ d.ppsFall t = { d with clk := (d.ppsFall t).clk, ctl := { d.ctl with out := (d.ppsFall t).ctl.out } } := fun d t => by
    unfold Dev.ppsFall
    split
    · exact ⟨rfl, rfl⟩
    · exact ⟨rfl, rfl⟩
  have hwclk : ∀ (d : Dev) (t : Time), d.clk.OutputsOnly (d.wclkFall t).clk ∧ d.wclkFall t = { d with clk := (d.wclkFall t).clk, ctl := { d.ctl with out := (d.wclkFall t).ctl.out } } := fun d t => by
    unfold Dev.wclkFall
    split
    · exact ⟨rfl, rfl⟩
    · exact ⟨rfl, rfl⟩
  have hfirst : ∀ d : Dev, d.clk.OutputsOnly (if d.squelched (d.reg pgQuartz 0x110) 1 then d.ppsFall d.now else d).clk ∧
      (if d.squelched (d.reg pgQuartz 0x110) 1 then d.ppsFall d.now else d) = { d with
        clk := (if d.squelched (d.reg pgQuartz 0x110) 1 then d.ppsFall d.now else d).clk
        ctl := { d.ctl with out := (if d.squelched (d.reg pgQuartz 0x110) 1 then d.ppsFall d.now else d).ctl.out } } := fun d => by
    split
    · exact hpps d _
    · exact ⟨rfl, rfl⟩
  unfold Dev.squelchNow
  obtain ⟨hclk, hdev⟩ := hfirst d
  generalize (if d.squelched (d.reg pgQuartz 0x110) 1 then d.ppsFall d.now else d) = e at hclk hdev ⊢
  dsimp only
  split
  · obtain ⟨hclk', hdev'⟩ := hwclk e e.now
    refine ⟨?_, ?_⟩
    · unfold Clock.OutputsOnly at *
      rw [hclk', hclk]
    · rw [hdev', hdev]
  · exact ⟨hclk, hdev⟩

/-- Only the servo's own part of PTP, the clock's increment and outputs, the decision log of the pair, and what an event touches may differ. -/
structure Dev.ServoWork (d e : Dev) : Prop where
  noted : Dev.Noted { d with
    ptp := { d.ptp with
      servo := e.ptp.servo, refuseCause := e.ptp.refuseCause, step := e.ptp.step, f := e.ptp.f, integ := e.ptp.integ, incrs := e.ptp.incrs, inThr := e.ptp.inThr,
      outThr := e.ptp.outThr, inStep := e.ptp.inStep, outStep := e.ptp.outStep, since := e.ptp.since }
    clk := { d.clk with incr := e.clk.incr, ppsHigh := e.clk.ppsHigh, wclkHigh := e.clk.wclkHigh }
    pair := { d.pair with log := e.pair.log } } e
  counter : ∀ q o, q ≠ pgErrlog → o < 4096 → e.counter q o = d.counter q o

theorem Dev.ServoWork.refl (d : Dev) : d.ServoWork d := ⟨Dev.Noted.refl d, fun _ _ _ _ => rfl⟩
theorem Dev.ServoWork.trans (h : d.ServoWork e) (k : e.ServoWork f) : d.ServoWork f where
  noted := by
    obtain ⟨h, -⟩ := h
    obtain ⟨k, -⟩ := k
    unfold Dev.Noted at *
    rw [k, h]
  counter q o hq ho := (k.counter q o hq ho).trans (h.counter q o hq ho)
theorem Dev.raise_servoWork (d : Dev) (p b s c : Nat) (x y : Word) : d.ServoWork (d.raise p b s c x y) where
  noted := by
    have h := d.raise_noted p b s c x y
    unfold Dev.Noted at *
    rw [h]
  counter _ _ hq ho := d.counter_raise p b s c x y hq ho
theorem Dev.ServoWork.ite {c : Prop} [Decidable c] (h : d.ServoWork e) (k : d.ServoWork f) : d.ServoWork (if c then e else f) := by
  split
  · exact h
  · exact k

theorem Dev.squelchNow_servoWork (d : Dev) : d.ServoWork d.squelchNow := by
  obtain ⟨hclk, hdev⟩ := d.squelchNow_spec
  refine ⟨?_, fun _ _ _ _ => by rw [hdev]; rfl⟩
  unfold Dev.Noted
  unfold Clock.OutputsOnly at hclk
  rw [hdev, hclk]

theorem Dev.enterAcquiring_servoWork (d : Dev) : d.ServoWork d.enterAcquiring := Dev.ServoWork.trans (e := { d with ptp := { d.ptp.clearCounts with
  servo := .acquiring, refuseCause := 0, integ := d.freqUse, f := d.freqUse } }) ⟨rfl, fun _ _ _ _ => rfl⟩ (Dev.squelchNow_servoWork _)
theorem Dev.enterLocked_servoWork (d : Dev) : d.ServoWork d.enterLocked :=
  Dev.ServoWork.trans (e := { d with ptp := { d.ptp.clearCounts with servo := .locked } }) ⟨rfl, fun _ _ _ _ => rfl⟩ (Dev.raise_servoWork _ _ _ _ _ _ _)
theorem Dev.freezeIncr_servoWork (d : Dev) : d.ServoWork d.freezeIncr := by
  unfold Dev.freezeIncr
  exact Dev.ServoWork.ite (.refl d) ⟨rfl, fun _ _ _ _ => rfl⟩
theorem Dev.enterHoldover_servoWork (d : Dev) (c : Nat) : d.ServoWork (d.enterHoldover c) :=
  d.freezeIncr_servoWork.trans (.trans (e := { d.freezeIncr with ptp := { d.freezeIncr.ptp.clearCounts with servo := .holdover, refuseCause := 0, since := d.freezeIncr.now } })
    ⟨rfl, fun _ _ _ _ => rfl⟩ (Dev.raise_servoWork _ _ _ _ _ _ _))
theorem Dev.enterRefused_servoWork (d : Dev) (c : Nat) : d.ServoWork (d.enterRefused c) :=
  d.freezeIncr_servoWork.trans (.trans (e := { d.freezeIncr with ptp := { d.freezeIncr.ptp.clearCounts with
    servo := .stepRefused, refuseCause := c, outStep := 0, since := if d.freezeIncr.ptp.servo = Servo.stepRefused then d.freezeIncr.ptp.since else d.freezeIncr.now } })
    ⟨rfl, fun _ _ _ _ => rfl⟩ (Dev.raise_servoWork _ _ _ _ _ _ _))
theorem Dev.freqUpdate_servoWork (d : Dev) (o : Int) : d.ServoWork (d.freqUpdate o) := ⟨rfl, fun _ _ _ _ => rfl⟩

/-! ### The states the servo enters -/

@[simp] theorem Dev.enterAcquiring_servo (d : Dev) : d.enterAcquiring.ptp.servo = .acquiring := by
  rw [Dev.enterAcquiring, (Dev.squelchNow_spec _).2]
@[simp] theorem Dev.enterAcquiring_incr (d : Dev) : d.enterAcquiring.clk.incr = d.clk.incr := by
  rw [Dev.enterAcquiring, (Dev.squelchNow_spec _).1]
@[simp] theorem Dev.enterLocked_servo (d : Dev) : d.enterLocked.ptp.servo = .locked := by simp [Dev.enterLocked]
@[simp] theorem Dev.freezeIncr_ptp (d : Dev) : d.freezeIncr.ptp = d.ptp := by
  unfold Dev.freezeIncr
  split
  · rfl
  · rfl
@[simp] theorem Dev.freezeIncr_pair (d : Dev) : d.freezeIncr.pair = d.pair := by
  unfold Dev.freezeIncr
  split
  · rfl
  · rfl
@[simp] theorem Dev.enterRefused_servo (d : Dev) (c : Nat) : (d.enterRefused c).ptp.servo = .stepRefused := by simp [Dev.enterRefused]
@[simp] theorem Dev.enterRefused_cause (d : Dev) (c : Nat) : (d.enterRefused c).ptp.refuseCause = c := by simp [Dev.enterRefused]
@[simp] theorem Dev.enterRefused_f (d : Dev) (c : Nat) : (d.enterRefused c).ptp.f = d.ptp.f := by simp [Dev.enterRefused, Ptp.clearCounts]
@[simp] theorem Dev.enterHoldover_servo (d : Dev) (c : Nat) : (d.enterHoldover c).ptp.servo = .holdover := by simp [Dev.enterHoldover]

/-- The increment of a servo that holds already stays. -/
theorem Dev.enterRefused_incr (d : Dev) (c : Nat) (h : d.ptp.servo = .holdover ∨ d.ptp.servo = .stepRefused) : (d.enterRefused c).clk.incr = d.clk.incr := by
  simp [Dev.enterRefused, Dev.freezeIncr, h]

/-! ### Offsets (R120, R125) -/

/-- The frequency's update leaves the counts, the state and the pair. -/
theorem Dev.freqUpdate_counts (d : Dev) (o : Int) : (d.freqUpdate o).ptp.servo = d.ptp.servo ∧ (d.freqUpdate o).ptp.inThr = d.ptp.inThr ∧
    (d.freqUpdate o).ptp.outThr = d.ptp.outThr ∧ (d.freqUpdate o).ptp.outStep = d.ptp.outStep ∧ (d.freqUpdate o).pair = d.pair := ⟨rfl, rfl, rfl, rfl, rfl⟩

/-- The counts that an offset leaves in ACQUIRING and LOCKED. -/
def Ptp.counted (p : Ptp) (inT inS : Bool) : Ptp :=
  { p with
    inThr := if inT && inS then p.inThr + 1 else 0
    outThr := if !inS then p.outThr else if inT then 0 else p.outThr + 1
    outStep := if inS then 0 else p.outStep + 1 }

/-- The counts that an offset leaves in HOLDOVER and STEP_REFUSED. -/
def Ptp.held (p : Ptp) (inS : Bool) : Ptp :=
  { p with
    inStep := if inS then p.inStep + 1 else 0
    outStep := if inS then 0 else p.outStep + 1 }

/-- An offset that reaches a servo following its master. -/
theorem Dev.servoOffset_tracking (d : Dev) (o : Int) (h : d.ptp.servo = .acquiring ∨ d.ptp.servo = .locked) (hrole : d.pair.role ≠ .secondary)
    {inT inS : Bool} (hT : (decide (-(fld (d.reg pgQuartz 0x088) 0 16 * nsT : Nat) ≤ o) && decide (o ≤ (fld (d.reg pgQuartz 0x088) 0 16 * nsT : Nat))) = inT)
    (hS : (decide (-d.stepLimit ≤ o) && decide (o ≤ d.stepLimit)) = inS) :
    ∃ e : Dev, e.ptp.servo = d.ptp.servo ∧ e.ptp.inThr = (d.ptp.counted inT inS).inThr ∧ e.ptp.outThr = (d.ptp.counted inT inS).outThr ∧
      e.ptp.outStep = (d.ptp.counted inT inS).outStep ∧ (inS = false → e.ptp.f = d.ptp.f) ∧ d.ServoWork e ∧
      d.servoOffset o =
        if max 1 (fld (d.reg pgQuartz 0x088) 24 8) ≤ e.ptp.outStep then e.enterRefused 2
        else if e.ptp.servo = .acquiring ∧ max 1 (fld (d.reg pgQuartz 0x088) 16 8) ≤ e.ptp.inThr then e.enterLocked
        else if e.ptp.servo = .locked ∧ max 1 (fld (d.reg pgQuartz 0x088) 16 8) ≤ e.ptp.outThr then e.enterAcquiring
        else e := by
  have hsecond : decide (d.pair.role = .secondary) = false := decide_eq_false hrole
  refine ⟨if inS then Dev.freqUpdate { d with ptp := d.ptp.counted inT inS } o else { d with ptp := d.ptp.counted inT inS }, ?_⟩
  have heq : d.servoOffset o = (let e := if inS then Dev.freqUpdate { d with ptp := d.ptp.counted inT inS } o else { d with ptp := d.ptp.counted inT inS }
      if max 1 (fld (d.reg pgQuartz 0x088) 24 8) ≤ e.ptp.outStep then e.enterRefused 2
      else if e.ptp.servo = .acquiring ∧ max 1 (fld (d.reg pgQuartz 0x088) 16 8) ≤ e.ptp.inThr then e.enterLocked
      else if e.ptp.servo = .locked ∧ max 1 (fld (d.reg pgQuartz 0x088) 16 8) ≤ e.ptp.outThr then e.enterAcquiring
      else e) := by
    unfold Dev.servoOffset
    dsimp only
    rw [hT, hS, hsecond]
    split
    · next hs => rw [hs] at h; simp at h
    · exact if_neg (by decide)
    · exact if_neg (by decide)
    · next hs => rw [hs] at h; simp at h
    · next hs => rw [hs] at h; simp at h
  rw [heq]
  cases inS
  · exact ⟨rfl, rfl, rfl, rfl, fun _ => rfl, ⟨rfl, fun _ _ _ _ => rfl⟩, rfl⟩
  · exact ⟨rfl, rfl, rfl, rfl, fun h => (Bool.noConfusion h), ⟨rfl, fun _ _ _ _ => rfl⟩, rfl⟩

/-- An offset that reaches a servo that holds. -/
theorem Dev.servoOffset_holding (d : Dev) (o : Int) (h : d.ptp.servo = .holdover ∨ d.ptp.servo = .stepRefused) (hrole : d.pair.role ≠ .secondary)
    {inS : Bool} (hS : (decide (-d.stepLimit ≤ o) && decide (o ≤ d.stepLimit)) = inS) :
    d.servoOffset o =
      if max 1 (fld (d.reg pgQuartz 0x088) 24 8) ≤ (d.ptp.held inS).inStep then Dev.enterAcquiring { d with ptp := d.ptp.held inS }
      else if d.ptp.servo = .holdover ∧ max 1 (fld (d.reg pgQuartz 0x088) 24 8) ≤ (d.ptp.held inS).outStep then Dev.enterRefused { d with ptp := d.ptp.held inS } 2
      else { d with ptp := d.ptp.held inS } := by
  have hsecond : decide (d.pair.role = .secondary) = false := decide_eq_false hrole
  unfold Dev.servoOffset
  dsimp only
  rw [hS, hsecond]
  split
  · next hs => rw [hs] at h; simp at h
  · next hs => rw [hs] at h; simp at h
  · next hs => rw [hs] at h; simp at h
  · exact (if_neg (by simp)).trans (if_congr Iff.rfl rfl (if_congr (by simp [Ptp.held]) rfl rfl))
  · exact (if_neg (by simp)).trans (if_congr Iff.rfl rfl (if_congr (by simp [Ptp.held]) rfl rfl))

/-- Whatever state the servo enters from what an offset leaves. -/
theorem Dev.ServoWork.tracked (h : d.ServoWork e) {a b c k : Prop} [Decidable a] [Decidable b] [Decidable c] [Decidable k] :
    d.ServoWork (if a then e else if b then e.enterRefused 2 else if c then e.enterLocked else if k then e.enterAcquiring else e) :=
  .ite h (.ite (h.trans (e.enterRefused_servoWork 2)) (.ite (h.trans e.enterLocked_servoWork) (.ite (h.trans e.enterAcquiring_servoWork) h)))

theorem Dev.ServoWork.held (h : d.ServoWork e) {a b c : Prop} [Decidable a] [Decidable b] [Decidable c] :
    d.ServoWork (if a then e else if b then e.enterAcquiring else if c then e.enterRefused 2 else e) :=
  .ite h (.ite (h.trans e.enterAcquiring_servoWork) (.ite (h.trans (e.enterRefused_servoWork 2)) h))

/-- An offset touches what the servo touches, of a SECONDARY too. -/
theorem Dev.servoOffset_servoWork (d : Dev) (o : Int) : d.ServoWork (d.servoOffset o) := by
  unfold Dev.servoOffset
  dsimp only
  split
  · refine .ite (.refl d) (.ite ?_ (.ite ⟨rfl, fun _ _ _ _ => rfl⟩ ⟨rfl, fun _ _ _ _ => rfl⟩))
    split
    · exact ⟨rfl, fun _ _ _ _ => rfl⟩
    · exact .refl d
  · refine .tracked (.ite ?_ ?_)
    · exact ⟨rfl, fun _ _ _ _ => rfl⟩
    · exact ⟨rfl, fun _ _ _ _ => rfl⟩
  · refine .tracked (.ite ?_ ?_)
    · exact ⟨rfl, fun _ _ _ _ => rfl⟩
    · exact ⟨rfl, fun _ _ _ _ => rfl⟩
  · refine .held ?_
    exact ⟨rfl, fun _ _ _ _ => rfl⟩
  · refine .held ?_
    exact ⟨rfl, fun _ _ _ _ => rfl⟩

/-- The first offset in FREERUN asks for a step. -/
theorem Dev.servoOffset_freerun (d : Dev) (o : Int) (h : d.ptp.servo = .freerun) (hstep : d.ptp.step = none) (hrole : d.pair.role ≠ .secondary) :
    (d.servoOffset o).ptp = { d.ptp with step := some ⟨o, epochCeil d.now / msT⟩ } := by
  have hsecond : decide (d.pair.role = .secondary) = false := decide_eq_false hrole
  have hlog : ∀ (c : Prop) [Decidable c] (e : Dev) (g : Pair → Pair), (if c then e.onPair g else e).ptp = e.ptp := fun c _ e g => by
    split
    · rfl
    · rfl
  unfold Dev.servoOffset
  simp only [h, hstep, hsecond]
  rw [if_neg (by decide), if_neg (by decide), hlog]
  simp [Dev.setStep, h]

/-- Settles O11: the transitions of Table 3-3, from the counts that each offset leaves. -/
theorem servoTransitions : Obligations.ServoTransitions := by
  intro d o hrole
  dsimp only
  have hin : ∀ {x : Int}, -x ≤ o → o ≤ x → (decide (-x ≤ o) && decide (o ≤ x)) = true := fun h1 h2 => by rw [decide_eq_true h1, decide_eq_true h2]; rfl
  have hout : ∀ {x : Int}, o < -x ∨ x < o → (decide (-x ≤ o) && decide (o ≤ x)) = false := fun h => by
    obtain h | h := h
    · rw [decide_eq_false (by omega), Bool.false_and]
    · rw [decide_eq_false (p := o ≤ _) (by omega), Bool.and_false]
  refine ⟨fun hfree hstep => ?_, fun hs h1 h2 h3 h4 hn => ?_, fun hs h1 h3 h4 hn => ?_, fun hs h3 hn => ?_, fun hs h3 h4 hn => ?_, fun hs h3 hn => ?_⟩
  · rw [d.servoOffset_freerun o hfree hstep hrole]
    exact ⟨rfl, hfree⟩
  · obtain ⟨e, hservo, hthr, -, hstep, -, -, heq⟩ := d.servoOffset_tracking o (Or.inl hs) hrole (hin h1 h2) (hin h3 h4)
    rw [heq, if_neg (by rw [hstep]; simp [Ptp.counted]), if_pos ⟨hservo.trans hs, by rw [hthr]; exact hn⟩, Dev.enterLocked_servo]
  · obtain ⟨e, hservo, -, hthr, hstep, -, -, heq⟩ := d.servoOffset_tracking o (Or.inr hs) hrole (hout h1) (hin h3 h4)
    rw [heq, if_neg (by rw [hstep]; simp [Ptp.counted]), if_neg (by rw [hservo, hs]; simp), if_pos ⟨hservo.trans hs, by rw [hthr]; exact hn⟩, Dev.enterAcquiring_servo]
  · obtain ⟨e, -, -, -, hstep, hf, -, heq⟩ := d.servoOffset_tracking o hs hrole rfl (hout h3)
    rw [heq, if_pos (by rw [hstep]; exact hn)]
    exact ⟨e.enterRefused_servo 2, e.enterRefused_cause 2, (e.enterRefused_f 2).trans (hf rfl)⟩
  · rw [d.servoOffset_holding o hs hrole (hin h3 h4), if_pos (show _ ≤ (d.ptp.held true).inStep from hn)]
    exact ⟨Dev.enterAcquiring_servo _, Dev.enterAcquiring_incr _⟩
  · rw [d.servoOffset_holding o (Or.inl hs) hrole (hout h3), if_neg (show ¬ _ ≤ (d.ptp.held false).inStep by simp [Ptp.held]),
      if_pos ⟨hs, show _ ≤ (d.ptp.held false).outStep from hn⟩]
    exact ⟨Dev.enterRefused_servo _ _, Dev.enterRefused_incr _ _ (Or.inl hs)⟩

end Sys2Proof.Machine
end

section
/-! PTP messages, the loss of a master, of the configuration and of the reference clock (R98 to R119, R123): O13 and O14. -/

namespace Sys2Proof.Machine
open Sys2Proof

variable {s : State} {d e : Dev}

theorem exec_actReady {i : Instr} {f : Dev → Dev} (hrow : exec i s = .next (s.actReady f)) (hready : s.ready = true) : exec i s = .next (s.setDev (f s.dev)) :=
  hrow.trans (congrArg Host.Outcome.next (State.actReady_ready f hready))

/-- A row of a READY unit that the operation `f` is, with what holds of its result. -/
theorem exec_ready_spec {i : Instr} {f : Dev → Dev} {P : State → Prop} (hrow : exec i s = .next (s.actReady f)) (hready : s.ready = true) (h : P (s.setDev (f s.dev))) :
    ∃ u, exec i s = .next u ∧ P u := ⟨_, exec_actReady hrow hready, h⟩

/-! ### The queue of PTP events (R41, R99) -/

theorem Dev.ptpMsg_takes {h : PtpHdr} {range : Option (Int × Int)} (ht : d.takesPtp h range) (ctr : Nat) (ev : PtpEvent) :
    d.ptpMsg h range ctr ev = (d.inc pgQuartz ctr).ptpTake ev := by
  obtain ⟨hon, hok, hq, hheld⟩ := ht
  have hempty : { d.inc pgQuartz ctr with ptp := { (d.inc pgQuartz ctr).ptp with evq := [] } } = d.inc pgQuartz ctr := by
    rw [← show (d.inc pgQuartz ctr).ptp.evq = [] from hq]
  unfold Dev.ptpMsg
  rw [hon, hok, hheld, if_neg (by decide), if_neg (by decide)]
  dsimp only
  rw [show (d.inc pgQuartz ctr).ptp.evq = [] from hq, if_neg (by decide), if_neg (by decide), Dev.ptpDrain]
  dsimp only
  rw [hempty]
  rfl

theorem Dev.ptpMsg_off {h : PtpHdr} {range : Option (Int × Int)} (hon : d.ptpOn = false) (ctr : Nat) (ev : PtpEvent) : d.ptpMsg h range ctr ev = d :=
  if_pos (by rw [hon]; rfl)

theorem Dev.ptpMsg_fails {h : PtpHdr} {range : Option (Int × Int)} (hon : d.ptpOn = true) (hok : d.ptpOk h range = false) (ctr : Nat) (ev : PtpEvent) :
    d.ptpMsg h range ctr ev = d.inc pgQuartz 0x170 :=
  (if_neg (by rw [hon]; decide)).trans (if_pos (by rw [hok]; rfl))

theorem Dev.ptpMsg_held {h : PtpHdr} {range : Option (Int × Int)} (hon : d.ptpOn = true) (hok : d.ptpOk h range = true) (hheld : h.held = true)
    (hroom : d.ptp.evq.length < 16512) (ctr : Nat) (ev : PtpEvent) :
    (d.ptpMsg h range ctr ev).ptp = { d.ptp with evq := d.ptp.evq ++ [ev] } ∧ (d.ptpMsg h range ctr ev).counter pgQuartz ctr = d.counter pgQuartz ctr + 1 := by
  have hfull : ¬ ptpQueueSize ≤ (d.inc pgQuartz ctr).ptp.evq.length := Nat.not_le.2 hroom
  unfold Dev.ptpMsg
  rw [hon, hok, if_neg (by decide), if_neg (by decide)]
  dsimp only
  rw [if_neg hfull, hheld, if_pos rfl]
  exact ⟨rfl, d.counter_inc_same pgQuartz ctr⟩

theorem Dev.ptpMsg_full {h : PtpHdr} {range : Option (Int × Int)} (hon : d.ptpOn = true) (hok : d.ptpOk h range = true)
    (hfull : 16512 ≤ d.ptp.evq.length) {ctr : Nat} (hctr : ctr ≠ 0x178) (ev : PtpEvent) :
    (d.ptpMsg h range ctr ev).ptp = d.ptp ∧ ((d.ptpMsg h range ctr ev).page pgQuartz).event.getLsbD 8 = true ∧
      (d.ptpMsg h range ctr ev).counter pgQuartz 0x178 = d.counter pgQuartz 0x178 + 1 := by
  have hsize : ptpQueueSize ≤ (d.inc pgQuartz ctr).ptp.evq.length := hfull
  unfold Dev.ptpMsg
  rw [hon, hok, if_neg (by decide), if_neg (by decide)]
  dsimp only
  rw [if_pos hsize, Dev.ptpOverflow]
  refine ⟨Dev.ptp_raise _ _ _ _ _ _ _, Dev.raise_bit _ _ _ _ _ _ _ (by decide), ?_⟩
  rw [Dev.counter_raise _ _ _ _ _ _ _ (by decide) (by decide), Dev.counter_inc_same]
  rw [Dev.inc, Dev.counter_bump, if_neg]
  unfold regKey
  omega

/-! ### Offsets (R118, R119) -/

/-- A measurement recorded, before the servo has its offset. -/
def Dev.measured (d : Dev) (ms sm : Int) : Dev :=
  { d with ptp := { d.ptp with
    raw := ((ms - (ms + sm) / 2) :: d.ptp.raw).take 15
    offset := median ((((ms - (ms + sm) / 2) :: d.ptp.raw).take 15).take (max 1 (fld (d.reg pgQuartz 0x088) 40 4)))
    path := (ms + sm) / 2
    offAt := some d.now
    offGm := (d.ptp.info.map AnnounceMsg.gmId).getD 0 } }

theorem Dev.measure_servoWork {sm : Int} (h : d.ptp.exch = some sm) (t2 t1 c : Int) : (d.measured ((t2 - t1) - c) sm).ServoWork (d.measure t2 t1 c) := by
  unfold Dev.measure
  rw [h]
  exact Dev.servoOffset_servoWork _ _

/-- What the servo leaves of PTP. -/
theorem Dev.ServoWork.kept (h : d.ServoWork e) : e.ptp.path = d.ptp.path ∧ e.ptp.raw = d.ptp.raw ∧ e.ptp.offset = d.ptp.offset ∧ e.ptp.lastSync = d.ptp.lastSync ∧
    e.ptp.twoStep = d.ptp.twoStep ∧ e.ptp.foreign = d.ptp.foreign ∧ e.ptp.master = d.ptp.master := by
  obtain ⟨hnoted, -⟩ := h
  rw [hnoted.ptp]
  exact ⟨rfl, rfl, rfl, rfl, rfl, rfl, rfl⟩

/-- A measurement gives PATH_DELAY and the offset (R118, R119). -/
theorem Dev.measure_spec {sm : Int} (h : d.ptp.exch = some sm) (t2 t1 c : Int) :
    (d.measure t2 t1 c).ptp.path = ((t2 - t1) - c + sm) / 2 ∧ (d.measure t2 t1 c).ptp.raw = (((t2 - t1) - c - ((t2 - t1) - c + sm) / 2) :: d.ptp.raw).take 15 ∧
      (d.measure t2 t1 c).ptp.offset = median ((d.measure t2 t1 c).ptp.raw.take (max 1 (fld (d.reg pgQuartz 0x088) 40 4))) ∧
      (d.measure t2 t1 c).ptp.lastSync = d.ptp.lastSync ∧ (d.measure t2 t1 c).ptp.twoStep = d.ptp.twoStep ∧
      ∀ q o, q ≠ pgErrlog → o < 4096 → (d.measure t2 t1 c).counter q o = d.counter q o := by
  have hwork := Dev.measure_servoWork h t2 t1 c
  obtain ⟨hpath, hraw, hoff, hsync, htwo, -, -⟩ := hwork.kept
  rw [hpath, hraw, hoff, hsync, htwo]
  exact ⟨rfl, rfl, rfl, rfl, rfl, hwork.counter⟩

/-- The Sync of the selected master in hand (R118). -/
theorem Dev.syncTake_oneStep {m : SyncMsg} {sm : Int} (hm : d.fromMaster m.h = true) (hone : m.h.twoStep = false) (h : d.ptp.exch = some sm) :
    let ms : Int := ((((d.rxStamp (fld (d.reg pgQuartz 0x068) 1 3) m.stamp : Nat) : Int) - d.boardDelay false) - m.origin) - m.h.correction
    (d.syncTake m).ptp.path = (ms + sm) / 2 ∧ (d.syncTake m).ptp.raw = ((ms - (ms + sm) / 2) :: d.ptp.raw).take 15 ∧
      (d.syncTake m).ptp.offset = median ((d.syncTake m).ptp.raw.take (max 1 (fld (d.reg pgQuartz 0x088) 40 4))) ∧
      (d.syncTake m).ptp.lastSync = some d.now ∧ ∀ q o, q ≠ pgErrlog → o < 4096 → (d.syncTake m).counter q o = d.counter q o := by
  intro ms
  unfold Dev.syncTake
  rw [if_neg (by rw [hm]; decide)]
  dsimp only
  rw [if_neg (by rw [hone]; decide)]
  generalize hd : ({ d with ptp := { d.ptp with syncLog := m.h.logInterval, lastSync := some d.now, nextReq := match d.ptp.nextReq with | some t => some t | none => some d.now } } : Dev) = x
  have hx : x.ptp.exch = some sm := by rw [← hd]; exact h
  obtain ⟨hpath, hraw, hoff, hsync, -, hctr⟩ := Dev.measure_spec hx ((d.rxStamp (fld (d.reg pgQuartz 0x068) 1 3) m.stamp : Nat) - d.boardDelay false) m.origin m.h.correction
  refine ⟨hpath, ?_, ?_, ?_, fun q o hq ho => (hctr q o hq ho).trans (by rw [← hd]; rfl)⟩
  · rw [hraw, ← hd]
  · rw [hoff, ← hd]
    rfl
  · rw [hsync, ← hd]

theorem Dev.syncTake_twoStep {m : SyncMsg} (hm : d.fromMaster m.h = true) (htwo : m.h.twoStep = true) :
    (d.syncTake m).ptp.twoStep = some (m.h.seq, ((d.rxStamp (fld (d.reg pgQuartz 0x068) 1 3) m.stamp : Nat) : Int) - d.boardDelay false, m.h.correction) ∧
      (d.syncTake m).ptp.offset = d.ptp.offset := by
  unfold Dev.syncTake
  rw [if_neg (by rw [hm]; decide)]
  dsimp only
  rw [if_pos htwo]
  exact ⟨rfl, rfl⟩

theorem Dev.followUpTake_measures {m : FollowUpMsg} {t2 c sm : Int} (hm : d.fromMaster m.h = true) (htwo : d.ptp.twoStep = some (m.h.seq, t2, c))
    (h : d.ptp.exch = some sm) :
    let ms : Int := (t2 - m.origin) - (c + m.h.correction)
    (d.followUpTake m).ptp.path = (ms + sm) / 2 ∧
      (d.followUpTake m).ptp.offset = median ((d.followUpTake m).ptp.raw.take (max 1 (fld (d.reg pgQuartz 0x088) 40 4))) ∧
      (d.followUpTake m).ptp.raw = ((ms - (ms + sm) / 2) :: d.ptp.raw).take 15 ∧ (d.followUpTake m).ptp.twoStep = none := by
  intro ms
  unfold Dev.followUpTake
  rw [htwo]
  dsimp only
  rw [hm, beq_self_eq_true, Bool.and_self, if_pos rfl]
  generalize hd : ({ d with ptp := { d.ptp with twoStep := none } } : Dev) = x
  have hx : x.ptp.exch = some sm := by rw [← hd]; exact h
  obtain ⟨hpath, hraw, hoff, -, htwo', -⟩ := Dev.measure_spec hx t2 m.origin (c + m.h.correction)
  refine ⟨hpath, ?_, ?_, ?_⟩
  · rw [hoff, ← hd]
    rfl
  · rw [hraw, ← hd]
  · rw [htwo', ← hd]

theorem Dev.delayRespTake_completes {m : DelayRespMsg} {t3 : Int} (hm : d.fromMaster m.h = true) (hus : m.forUs = true) (hseq : d.ptp.reqSeq = m.h.seq)
    (h : d.ptp.t3 = some t3) : d.delayRespTake m = { d with ptp := { d.ptp with
      t3 := none, exch := some (((m.receive : Int) - (t3 + d.boardDelay true)) - m.h.correction), reqLog := some m.h.logInterval } } := by
  unfold Dev.delayRespTake
  rw [h]
  dsimp only
  rw [hm, hus, hseq, beq_self_eq_true, Bool.and_self, Bool.and_self, if_pos rfl]

theorem ptpOffsets : PtpOffsets := by
  refine ⟨fun s m sm hready ht hm hone hx => ?_, fun s m hready ht hm htwo => ?_, fun s m t2 c sm hready ht hm htwo hx => ?_, fun s m t3 hready ht hm hus hseq hx => ?_⟩
  · obtain ⟨hpath, hraw, hoff, hsync, hctr⟩ := Dev.syncTake_oneStep (d := s.dev.inc pgQuartz 0x148) hm hone hx
    refine exec_ready_spec (f := fun d => d.sync m) rfl hready ?_
    simp only [State.setDev_dev, Dev.sync, Dev.ptpMsg_takes ht]
    exact ⟨hpath, hraw, hoff, (hctr pgQuartz 0x148 (by decide) (by decide)).trans (Dev.counter_inc_same _ _ _), hsync⟩
  · refine exec_ready_spec (f := fun d => d.sync m) rfl hready ?_
    simp only [State.setDev_dev, Dev.sync, Dev.ptpMsg_takes ht]
    exact Dev.syncTake_twoStep (d := s.dev.inc pgQuartz 0x148) hm htwo
  · refine exec_ready_spec (f := fun d => d.followUp m) rfl hready ?_
    simp only [State.setDev_dev, Dev.followUp, Dev.ptpMsg_takes ht]
    exact Dev.followUpTake_measures (d := s.dev.inc pgQuartz 0x150) hm htwo hx
  · refine exec_ready_spec (f := fun d => d.delayResp m) rfl hready ?_
    simp only [State.setDev_dev, Dev.delayResp, Dev.ptpMsg_takes ht]
    rw [Dev.ptpTake, Dev.delayRespTake_completes (d := s.dev.inc pgQuartz 0x160) hm hus hseq hx]
    exact ⟨rfl, rfl⟩

/-! ### The best master (R98, R101) -/

theorem Dev.gmChanged_servoWork (d : Dev) (new old : Word) : d.ServoWork (d.gmChanged new old) := by
  unfold Dev.gmChanged
  have hraise : d.ServoWork (({ d with ptp := { d.ptp with inStep := 0 } } : Dev).raise pgQuartz 4 0 0x0005 new old) :=
    Dev.ServoWork.trans (e := { d with ptp := { d.ptp with inStep := 0 } }) ⟨rfl, fun _ _ _ _ => rfl⟩ (Dev.raise_servoWork _ _ _ _ _ _ _)
  exact .ite hraise (hraise.trans (Dev.enterRefused_servoWork _ 1))

/-- The masters heard and the counters stay. -/
def Dev.HeardKept (d e : Dev) : Prop := e.ptp.foreign = d.ptp.foreign ∧ ∀ q o, q ≠ pgErrlog → o < 4096 → e.counter q o = d.counter q o

theorem Dev.HeardKept.trans {f : Dev} (h : d.HeardKept e) (k : e.HeardKept f) : d.HeardKept f :=
  ⟨k.1.trans h.1, fun q o hq ho => (k.2 q o hq ho).trans (h.2 q o hq ho)⟩

theorem Dev.ServoWork.heardKept (h : d.ServoWork e) : d.HeardKept e := by
  obtain ⟨-, -, -, -, -, hforeign, -⟩ := h.kept
  exact ⟨hforeign, h.counter⟩

/-- The choice of a master leaves the masters heard and the counters. -/
theorem Dev.select_heardKept (d : Dev) (f : Foreign) : d.HeardKept (d.select f) := by
  unfold Dev.select
  dsimp only
  generalize hx : (if d.ptp.master = some (f.id, f.port) then _ else _ : Dev) = x
  have hfirst : d.HeardKept x := by
    rw [← hx]
    split
    · exact ⟨rfl, fun _ _ _ _ => rfl⟩
    · exact ⟨rfl, fun _ _ _ _ => rfl⟩
  refine hfirst.trans ?_
  split
  · exact ⟨rfl, fun _ _ _ _ => rfl⟩
  · next g hg =>
    split
    · exact ⟨rfl, fun _ _ _ _ => rfl⟩
    · exact (Dev.gmChanged_servoWork { x with ptp := { x.ptp with lastGm := some f.msg.gmId } } f.msg.gmId g).heardKept

theorem Dev.bmca_kept (d : Dev) : d.HeardKept d.bmca := by
  unfold Dev.bmca
  split
  · exact d.select_heardKept _
  · exact ⟨rfl, fun _ _ _ _ => rfl⟩

theorem Dev.announceTake_spec (d : Dev) (m : AnnounceMsg) : (∃ f, (d.announceTake m).ptp.foreign.getLast? = some f ∧ f.id = m.h.srcId ∧ f.port = m.h.srcPort ∧ f.msg = m ∧
    f.stamps.head? = some d.now) ∧ ∀ q o, q ≠ pgErrlog → o < 4096 → (d.announceTake m).counter q o = d.counter q o := by
  unfold Dev.announceTake
  dsimp only
  obtain ⟨hforeign, hctr⟩ := Dev.bmca_kept { d with ptp := { d.ptp with foreign := d.ptp.foreign.filter (fun f => !(f.id == m.h.srcId && f.port == m.h.srcPort)) ++
    [⟨m.h.srcId, m.h.srcPort, m, ((d.now :: ((d.ptp.foreign.find? (fun f => f.id == m.h.srcId && f.port == m.h.srcPort)).map Foreign.stamps).getD []).take 4)⟩] } }
  exact ⟨⟨_, by rw [hforeign]; exact List.getLast?_append_of_ne_nil _ (by simp), rfl, rfl, rfl, rfl⟩, hctr⟩

/-- A message that the checks of R99 do not let through, or that PTP does not take now. -/
theorem exec_ptpMsg {i : Instr} {h : PtpHdr} {range : Option (Int × Int)} {ctr : Nat} {ev : PtpEvent}
    (hrow : exec i s = .next (s.actReady fun d => d.ptpMsg h range ctr ev)) (hready : s.ready = true) :
    (s.dev.ptpOn = true → s.dev.ptpOk h range = false → exec i s = .next (s.setDev (s.dev.inc pgQuartz 0x170))) ∧
    (s.dev.ptpOn = false → exec i s = .next (s.setDev s.dev)) ∧
    (s.dev.ptpOn = true → s.dev.ptpOk h range = true → h.held = true → s.dev.ptp.evq.length < 16512 →
      ∃ u, exec i s = .next u ∧ u.dev.ptp = { s.dev.ptp with evq := s.dev.ptp.evq ++ [ev] } ∧ u.dev.counter pgQuartz ctr = s.dev.counter pgQuartz ctr + 1) := by
  have hnext := exec_actReady hrow hready
  refine ⟨fun hon hok => ?_, fun hoff => ?_, fun hon hok hheld hroom => ⟨_, hnext, Dev.ptpMsg_held hon hok hheld hroom ctr ev⟩⟩
  · rw [hnext, Dev.ptpMsg_fails hon hok]
  · rw [hnext, Dev.ptpMsg_off hoff]

theorem ptpDrops : PtpDrops := by
  refine ⟨fun s m hready => ?_, fun s m hready => ?_, fun s m hready => ?_, fun s m hready => ?_⟩
  · obtain ⟨hfails, hoff, hheld⟩ := exec_ptpMsg (i := .sync m) (ctr := 0x148) (ev := .sync m) rfl hready
    refine ⟨exec_actReady (f := fun d => d.sync m) rfl hready, hfails, hoff, hheld, fun hon hok hfull => ?_⟩
    exact exec_ready_spec (f := fun d => d.sync m) rfl hready (Dev.ptpMsg_full hon hok hfull (by decide) (.sync m))
  · exact ⟨exec_actReady (f := fun d => d.followUp m) rfl hready, exec_ptpMsg (i := .followUp m) (ctr := 0x150) (ev := .followUp m) rfl hready⟩
  · exact ⟨exec_actReady (f := fun d => d.delayResp m) rfl hready, exec_ptpMsg (i := .delayResp m) (ctr := 0x160) (ev := .delayResp m) rfl hready⟩
  · obtain ⟨hfails, hoff, hheld⟩ := exec_ptpMsg (i := .announce m) (ctr := 0x168) (ev := .announce m) rfl hready
    refine ⟨exec_actReady (f := fun d => d.announce m) rfl hready, hfails, hoff, hheld, fun ht => ?_⟩
    obtain ⟨⟨f, hlast, hid, hport, hmsg, hstamp⟩, hctr⟩ := Dev.announceTake_spec (s.dev.inc pgQuartz 0x168) m
    refine ⟨_, f, exec_actReady (f := fun d => d.announce m) rfl hready, ?_⟩
    simp only [State.setDev_dev, Dev.announce, Dev.ptpMsg_takes ht, Dev.ptpTake]
    exact ⟨(hctr pgQuartz 0x168 (by decide) (by decide)).trans (Dev.counter_inc_same _ _ _), hlast, hid, hport, hmsg, hstamp⟩

/-! ### Delay_Req (R100) -/

theorem length_leBytes (n v : Nat) : (leBytes n v).length = n := by
  induction n generalizing v with
  | zero => rfl
  | succ n ih => rw [leBytes, List.length_cons, ih]

theorem length_beBytes (n v : Nat) : (beBytes n v).length = n := by rw [beBytes, List.length_reverse, length_leBytes]

theorem length_delayReqBytes (domain seq : Nat) (uni : Bool) : (delayReqBytes domain seq uni).length = 44 := by
  simp [delayReqBytes, ptpIdentity, length_beBytes]

theorem delayReqSent : DelayReqSent := by
  intro s draw hready
  have hnext : exec (.delayReq draw) s = .next (s.setDev (s.dev.delayReq draw)) := exec_actReady (f := fun d => d.delayReq draw) rfl hready
  refine ⟨hnext, fun t hon hmaster hreq hdue => ?_, fun t hnot hreq => ?_, fun domain seq uni _ => length_delayReqBytes domain seq uni⟩
  · have hnone : s.dev.ptp.master.isNone = false := by
      cases hm : s.dev.ptp.master
      · rw [hm] at hmaster; cases hmaster
      · rfl
    have hle : draw % (2 * pow2Sec (s.dev.ptp.reqLog.getD s.dev.ptp.syncLog) + 1) ≤ 2 * pow2Sec (s.dev.ptp.reqLog.getD s.dev.ptp.syncLog) :=
      Nat.lt_succ_iff.1 (Nat.mod_lt _ (Nat.succ_pos _))
    refine ⟨s.dev.now + draw % (2 * pow2Sec (s.dev.ptp.reqLog.getD s.dev.ptp.syncLog) + 1), Nat.le_add_right _ _, Nat.add_le_add_left hle _, ?_⟩
    rw [hnext]
    unfold Dev.delayReq
    rw [hreq]
    dsimp only
    rw [hon, hnone, decide_eq_false (Nat.not_lt.2 hdue), if_neg (by decide)]
    rfl
  · have hwaits : (!s.dev.ptpOn || s.dev.ptp.master.isNone || decide (s.dev.now < t)) = true := by
      obtain h | h | h := hnot
      · simp [h]
      · simp [h]
      · simp [h]
    rw [hnext]
    unfold Dev.delayReq
    rw [hreq]
    dsimp only
    rw [if_pos hwaits]

/-- Settles O13: the offsets that the messages give, what is dropped, and the requests. -/
theorem ptpMessages : Obligations.PtpMessages := ⟨ptpOffsets, ptpDrops, delayReqSent⟩

end Sys2Proof.Machine
end

section
/-! The loss of a master, of the configuration and of the reference clock (R102, R115, R116, R123, R125): O14. -/

namespace Sys2Proof.Machine
open Sys2Proof

variable {s : State} {d e : Dev}

theorem exec_up_spec {i : Instr} {f : Dev → Dev} {P : State → Prop} (hrow : exec i s = .next (s.act f)) (hup : s.up = true) (h : P (s.setDev (f s.dev))) :
    ∃ u, exec i s = .next u ∧ P u := ⟨_, exec_act hrow hup, h⟩

/-! ### HOLDOVER (R123, R124) -/

/-- HOLDOVER freezes the increment at the mean of those last applied. -/
theorem Dev.enterHoldover_spec (d : Dev) (c : Nat) (h : d.ptp.servo = .acquiring ∨ d.ptp.servo = .locked) :
    (d.enterHoldover c).ptp.servo = .holdover ∧ (d.enterHoldover c).clk = { d.clk with incr := meanIncr d.ptp.incrs d.clk.incr } ∧
      ((d.enterHoldover c).page pgQuartz).event.getLsbD 1 = true ∧ (d.enterHoldover c).ptp.since = d.now := by
  have hfollows : ¬ (d.ptp.servo = .holdover ∨ d.ptp.servo = .stepRefused) := by
    obtain h | h := h
    · rw [h]; decide
    · rw [h]; decide
  refine ⟨d.enterHoldover_servo c, ?_, Dev.raise_bit _ _ _ _ _ _ _ (by decide), ?_⟩
  · rw [Dev.enterHoldover, Dev.clk_raise, Dev.freezeIncr, if_neg hfollows]
  · rw [Dev.enterHoldover, Dev.ptp_raise, Dev.freezeIncr, if_neg hfollows]
    rfl

theorem holdoverEntered : HoldoverEntered := by
  refine ⟨fun s hready => ⟨exec_actReady (f := Dev.syncTimeout) rfl hready, exec_actReady (f := Dev.announceTimeout) rfl hready⟩,
    fun s t hready hservo hlast hdue => ?_, fun s f hready hservo hmaster hforeign hdue => ?_⟩
  · refine exec_ready_spec (f := Dev.syncTimeout) rfl hready ?_
    have hout : s.dev.syncTimeout = s.dev.enterHoldover 1 := by
      unfold Dev.syncTimeout
      rw [hlast]
      exact if_pos ⟨hservo, hdue⟩
    obtain ⟨hstate, hclk, hevent, hsince⟩ := s.dev.enterHoldover_spec 1 hservo
    rw [State.setDev_dev, hout, hclk]
    exact ⟨hstate, rfl, hevent, hsince, rfl, rfl⟩
  · refine exec_ready_spec (f := Dev.announceTimeout) rfl hready ?_
    have hfind : [f].find? (fun g => g.id == f.id && g.port == f.port) = some f := by simp
    have hrest : [f].filter (fun g => !(g.id == f.id && g.port == f.port)) = [] := by simp
    have hout : s.dev.announceTimeout = (Dev.enterHoldover { s.dev with ptp := { s.dev.ptp with
        foreign := [], master := none, exch := none, t3 := none, nextReq := none, reqLog := none, twoStep := none } } 2).bmca := by
      unfold Dev.announceTimeout
      rw [hmaster, hforeign]
      dsimp only
      rw [hfind, hrest]
      dsimp only
      rw [if_neg (Nat.not_lt.2 hdue), if_pos hservo]
    obtain ⟨hstate, hclk, -, -⟩ := Dev.enterHoldover_spec { s.dev with ptp := { s.dev.ptp with
      foreign := [], master := none, exch := none, t3 := none, nextReq := none, reqLog := none, twoStep := none } } 2 hservo
    obtain ⟨-, -, -, -, -, hheard, hnone⟩ := (Dev.enterHoldover_servoWork { s.dev with ptp := { s.dev.ptp with
      foreign := [], master := none, exch := none, t3 := none, nextReq := none, reqLog := none, twoStep := none } } 2).kept
    rw [State.setDev_dev, hout]
    generalize Dev.enterHoldover _ 2 = x at hstate hclk hheard hnone ⊢
    have hbest : x.bmca = x := by
      rw [Dev.bmca, hheard]
      rfl
    rw [hbest, hclk]
    exact ⟨hstate, hnone, hheard, rfl⟩

/-! ### PTP_CFG (R102) -/

theorem quartz_ptpCfg : ∃ g, PType.quartz.regAt 0x068 = some g ∧ g.rws = false ∧ FieldsApart g.flds ∧ (⟨0, 1, .rw, 0, .any⟩ : Fld) ∈ g.flds :=
  ⟨_, rfl, rfl, by unfold FieldsApart; decide, by decide⟩

/-- An event of a grandmaster's change ends a servo that has left FREERUN, but for a SECONDARY's. -/
theorem Dev.gmChanged_refuses (d : Dev) (new old : Word) (hservo : d.ptp.servo ≠ .freerun) (hrole : d.pair.role ≠ .secondary) :
    (d.gmChanged new old).ptp.servo = .stepRefused ∧ (d.gmChanged new old).ptp.refuseCause = 1 ∧ ((d.gmChanged new old).page pgQuartz).event.getLsbD 4 = true := by
  unfold Dev.gmChanged
  dsimp only
  rw [decide_eq_false hservo, decide_eq_false hrole, if_neg (by decide)]
  refine ⟨Dev.enterRefused_servo _ _, Dev.enterRefused_cause _ _, ?_⟩
  have hbit := Dev.raise_bit { d with ptp := { d.ptp with inStep := 0 } } pgQuartz 4 0 0x0005 new old (by decide)
  generalize Dev.raise _ pgQuartz 4 0 0x0005 new old = x at hbit ⊢
  have hfreeze : x.freezeIncr.page pgQuartz = x.page pgQuartz := by
    unfold Dev.freezeIncr
    split
    · rfl
    · rfl
  rw [Dev.enterRefused, Dev.raise, Dev.page_report]
  exact Dev.event_keeps_bit _ _ _ _ _ (by rw [← hfreeze] at hbit; exact hbit)

/-- What a write of PTP_CFG leaves of the registers, and of the pair. -/
theorem Dev.writePtpCfg_cases (d : Dev) (v : Word) : ∃ x : Dev, x.ptpOn = bit v 0 ∧ x.pair = d.pair ∧ x.ptp = d.ptp ∧ d.writePtpCfg v =
    (let y := if d.ptpOn = x.ptpOn ∧ d.ptpOn then x else { x with ptp := { x.ptp with
      foreign := [], master := none, info := none, smpte := (0, 0), lastGm := none, exch := none, t3 := none, nextReq := none, reqLog := none,
      twoStep := none, lastSync := none, evq := [] } }
     if d.ptpOn && decide (y.ptp.servo ≠ .freerun) then y.gmChanged ((y.ptp.info.map AnnounceMsg.gmId).getD 0) (d.ptp.lastGm.getD 0) else y) := by
  obtain ⟨g, hg, -, hapart, henable⟩ := quartz_ptpCfg
  have hm : bit (d.mergeAt pgQuartz 0x068 v).1 0 = bit v 0 := by
    simp only [Dev.mergeAt, show pageType pgQuartz = some .quartz from rfl, Option.bind_some, hg]
    exact bit_mergeFields_any hapart henable
  refine ⟨(d.setReg pgQuartz 0x068 (d.mergeAt pgQuartz 0x068 v).1).errs pgQuartz (d.mergeAt pgQuartz 0x068 v).2, ?_, (Dev.errs_noted _ _ _).pair, (Dev.errs_noted _ _ _).ptp, rfl⟩
  rw [Dev.ptpOn, Dev.reg_errs, Dev.reg_setReg, if_pos rfl, hm]

theorem Dev.writePtpCfg_pair (d : Dev) (v : Word) : (d.writePtpCfg v).pair = d.pair := by
  have hgm : ∀ (y : Dev) (new old : Word), (y.gmChanged new old).pair = y.pair := fun y new old => by
    unfold Dev.gmChanged
    dsimp only
    split
    · exact Dev.pair_raise _ _ _ _ _ _ _
    · rw [Dev.enterRefused, Dev.pair_raise]
      exact (Dev.freezeIncr_pair _).trans (Dev.pair_raise _ _ _ _ _ _ _)
  obtain ⟨x, -, hpair, -, heq⟩ := d.writePtpCfg_cases v
  rw [heq]
  dsimp only
  generalize hy : (if d.ptpOn = x.ptpOn ∧ d.ptpOn = true then x else _ : Dev) = y
  have hyp : y.pair = d.pair := by
    rw [← hpair, ← hy]
    split
    · rfl
    · rfl
  split
  · exact (hgm _ _ _).trans hyp
  · exact hyp

theorem Writable.write_ptpCfg (h : Writable s pgQuartz) (v : Word) : exec (.ptpCfgWrite v) s = .next ((s.setDev s.dev).setDev (s.dev.writePtpCfg v)) := by
  obtain ⟨g, hg, hrws, -⟩ := quartz_ptpCfg
  have hlive : (s.setDev s.dev).liveWrite pgQuartz .quartz g 0x068 v = (s.setDev s.dev).onDev fun d => d.writePtpCfg v := by
    simp only [State.liveWrite]
    rw [if_pos trivial]
  exact congrArg Host.Outcome.next (h.hostWrite_live rfl hg hrws rfl (by decide) (by decide) hlive (s.dev.writePtpCfg_pair v))

theorem ptpCfgWritten : PtpCfgWritten := by
  intro s v hw
  obtain ⟨-, -, ⟨hrole, -⟩, -⟩ := id hw
  have hnext := hw.write_ptpCfg v
  obtain ⟨x, hon, hpair, hptp, heq⟩ := s.dev.writePtpCfg_cases v
  refine ⟨fun hwas hv => ⟨_, hnext, ?_⟩, fun hwas hservo => ⟨_, hnext, ?_⟩⟩
  · rw [State.setDev_dev, heq, hwas, hptp]
    dsimp only
    rw [if_neg (by simp), if_neg (by simp)]
    exact ⟨hon.trans hv, rfl, rfl, rfl, rfl⟩
  · rw [State.setDev_dev, heq, hwas]
    dsimp only
    generalize hy : (if true = x.ptpOn ∧ true = true then x else _ : Dev) = y
    have hyservo : y.ptp.servo = s.dev.ptp.servo := by
      rw [← hptp, ← hy]
      split
      · rfl
      · rfl
    have hypair : y.pair = s.dev.pair := by
      rw [← hpair, ← hy]
      split
      · rfl
      · rfl
    rw [decide_eq_true (by rw [hyservo]; exact hservo), Bool.and_self, if_pos rfl]
    exact y.gmChanged_refuses _ _ (by rw [hyservo]; exact hservo) (by rw [hypair]; exact hrole)

/-! ### TIME_REFCLK (R115, R116) -/

theorem refclkFallback : RefclkFallback := by
  intro s hup
  refine ⟨exec_act (f := Dev.refclkLost) rfl hup, exec_act (f := Dev.refclkRestored) rfl hup, fun hno => ?_, fun hyes => ?_⟩
  · refine exec_up_spec (f := Dev.refclkLost) rfl hup ?_
    rw [State.setDev_dev, Dev.refclkLost, if_neg (by rw [hno]; decide)]
    dsimp only
    refine ⟨Dev.clk_raise _ _ _ _ _ _ _, ?_, Dev.raise_bit _ _ _ _ _ _ _ (by decide), Dev.ptp_raise _ _ _ _ _ _ _⟩
    rw [Dev.raise, Dev.page_report, Dev.page_event_same]
    simp
  · refine exec_up_spec (f := Dev.refclkRestored) rfl hup ?_
    rw [State.setDev_dev, Dev.refclkRestored, if_neg (by rw [hyes]; decide)]
    refine ⟨rfl, ?_, rfl⟩
    simp

/-- Settles O14: HOLDOVER, a change of configuration, and the reference clock. -/
theorem clockSources : Obligations.ClockSources := ⟨holdoverEntered, ptpCfgWritten, refclkFallback⟩

end Sys2Proof.Machine
end

section
/-! PPS and the global snapshot (R138 to R143, R146, R147): O16. -/

namespace Sys2Proof.Machine
open Sys2Proof

variable {s : State} {d e : Dev} {p q k : Nat} {o : OpSpec} {c : HostCmd}

/-- A command ended by its rule with a status that is not OK changes no unit. -/
theorem Accepts.failsHere (h : Accepts o c s) {st : Status} {n : Nat} {v : Word} (he : o.effect c s = (s.setDev s.dev, .done st n v)) (hst : st ≠ .ok) :
    ∃ u w, runCmd o c s = u ∧ UnitsKept s u ∧ u.dev.ctl.out.contains (.completion c.tag st (n % 65536) w) = true := by
  have hrun : runCmd o c s = (s.setDev s.dev).setDev (s.dev.tickFree.complete (o.token c s) st n s.dev.freeWord) := by
    rw [h.runs, OpSpec.done, he, answer]
    simp only [hst, if_false]
    rfl
  have hfrz : (s.dev.tickFree.complete (o.token c s) st n s.dev.freeWord).obs.frz = s.dev.obs.frz := (Dev.complete_head _ _ _ _ _ 0 0).1
  obtain ⟨⟨hout, -⟩, ⟨-, hdone⟩, -⟩ := ends_complete o (c := c) (s := s) (t := { s with dev := s.dev.tickFree }) rfl rfl st n s.dev.freeWord
  refine ⟨_, s.dev.freeWord, hrun, ?_, hout⟩
  rw [s.setDev_setDev hfrz]
  exact unitsKept_posted ((Dev.tickFree_told s.dev).posted.trans hdone.posted)

/-! ### The global snapshot (R147) -/

theorem Dev.Completed.snaps (h : d.Completed e) : e.ctl.snaps = d.ctl.snaps := by rw [h]

theorem PType.counters_fit (t : PType) : ∀ r ∈ t.counters, ∀ i < r.2.1, r.1 + i * r.2.2 < 4096 := by
  have hlast : ∀ r ∈ t.counters, r.1 + (r.2.1 - 1) * r.2.2 < 4096 := by
    cases t
    all_goals decide
  intro r hr i hi
  have hle : i * r.2.2 ≤ (r.2.1 - 1) * r.2.2 := Nat.mul_le_mul_right _ (by omega)
  have := hlast r hr
  omega

/-- A counter's key lies in the range of its page. -/
theorem counterKeys_page (h : k ∈ counterKeys p) : p * 4096 ≤ k ∧ k < (p + 1) * 4096 := by
  unfold counterKeys at h
  split at h
  · cases h
  · next t ht =>
    obtain ⟨r, hr, hk⟩ := List.mem_flatMap.1 h
    obtain ⟨i, hi, rfl⟩ := List.mem_map.1 hk
    have hfit := t.counters_fit r hr i (List.mem_range.1 hi)
    unfold regKey
    omega

/-- The PCIE page's own counters go on; no other does. -/
theorem Dev.pcieSample_spec (d : Dev) : d.pcieSample = { d with ctl := { d.ctl with counters := d.pcieSample.ctl.counters, free := d.pcieSample.ctl.free } } ∧
    ∀ k, 4 * 4096 ≤ k ∨ k < 3 * 4096 → tabGetD 0 d.pcieSample.ctl.counters k = tabGetD 0 d.ctl.counters k := by
  refine ⟨rfl, fun k hk => ?_⟩
  have hkey : ∀ o, o < 4096 → k ≠ regKey pgPcie o := fun o ho => by
    unfold regKey pgPcie
    omega
  simp only [Dev.pcieSample, List.foldl_cons, List.foldl_nil, Dev.tickFree, tabGetD_tabPutD, hkey 0x058 (by decide), hkey 0x060 (by decide), hkey 0x068 (by decide), if_false]

/-- One latch: it is about one header, the snapshots of its page, and what the PCIE page counts. -/
theorem Dev.latch_step (d : Dev) (p : Nat) (t : Time) :
    (∃ g c f n, d.latch p t = { d with ctl := { d.ctl with pages := g, counters := c, free := f, snaps := n } }) ∧
    ((d.latch p t).page p).snapHeld = true ∧ ((d.latch p t).page p).snapTime = shortOf t ∧ (∀ q, q ≠ p → (d.latch p t).page q = d.page q) ∧
    ∀ k, 4 * 4096 ≤ k ∨ k < 3 * 4096 → tabGetD 0 (d.latch p t).ctl.counters k = tabGetD 0 d.ctl.counters k ∧
      tabGetD 0 (d.latch p t).ctl.snaps k = if k ∈ counterKeys p then tabGetD 0 d.ctl.counters k else tabGetD 0 d.ctl.snaps k := by
  obtain ⟨hsample, hkept⟩ := d.pcieSample_spec
  generalize hx : (if p = pgPcie then d.pcieSample else d) = x
  have hshape : x = { d with ctl := { d.ctl with counters := x.ctl.counters, free := x.ctl.free } } := by
    rw [← hx]
    split
    · exact hsample
    · rfl
  have hctr : ∀ k, 4 * 4096 ≤ k ∨ k < 3 * 4096 → tabGetD 0 x.ctl.counters k = tabGetD 0 d.ctl.counters k := fun k hk => by
    rw [← hx]
    split
    · exact hkept k hk
    · rfl
  have hpages : ∀ q, x.page q = d.page q := fun q => by rw [hshape]; rfl
  unfold Dev.latch
  rw [hx]
  refine ⟨⟨_, _, _, _, by rw [hshape]; rfl⟩, by simp, by simp, fun q hq => ?_, fun k hk => ⟨hctr k hk, ?_⟩⟩
  · rw [Dev.page_onPage, if_neg hq]
    exact hpages q
  · refine (tabGetD_foldl_tabPutD 0 _ _ _ k).trans ?_
    rw [hctr k hk, hshape]

/-- A device-wide snapshot: every page of `ps` holds its latch, and each counter outside the PCIE page was latched as it stood. -/
theorem Dev.latchAll_spec (t : Time) (ps : List Nat) (d : Dev) :
    (∃ g c f n, ps.foldl (fun d p => d.latch p t) d = { d with ctl := { d.ctl with pages := g, counters := c, free := f, snaps := n } }) ∧
    (∀ p, (p ∈ ps ∨ ((d.page p).snapHeld = true ∧ (d.page p).snapTime = shortOf t)) →
      ((ps.foldl (fun d p => d.latch p t) d).page p).snapHeld = true ∧ ((ps.foldl (fun d p => d.latch p t) d).page p).snapTime = shortOf t) ∧
    ∀ k, 4 * 4096 ≤ k ∨ k < 3 * 4096 → (∃ p ∈ ps, k ∈ counterKeys p) ∨ tabGetD 0 d.ctl.snaps k = tabGetD 0 d.ctl.counters k →
      tabGetD 0 (ps.foldl (fun d p => d.latch p t) d).ctl.snaps k = tabGetD 0 d.ctl.counters k := by
  induction ps generalizing d with
  | nil => exact ⟨⟨_, _, _, _, rfl⟩, fun p h => h.resolve_left List.not_mem_nil, fun k _ h => h.resolve_left fun ⟨_, h, _⟩ => absurd h List.not_mem_nil⟩
  | cons p ps ih =>
    obtain ⟨⟨g, c, f, n, hshape⟩, hheld, htime, hother, hkeys⟩ := d.latch_step p t
    obtain ⟨⟨g', c', f', n', hrest⟩, hpages, hsnaps⟩ := ih (d.latch p t)
    rw [List.foldl_cons]
    refine ⟨⟨g', c', f', n', by rw [hrest, hshape]⟩, fun q hq => hpages q ?_, fun k hk h => ?_⟩
    · by_cases hqp : q = p
      · rw [hqp]
        exact Or.inr ⟨hheld, htime⟩
      · rw [hother q hqp]
        exact hq.imp_left fun h => (List.mem_cons.1 h).resolve_left hqp
    · obtain ⟨hcount, hsnap⟩ := hkeys k hk
      rw [hsnaps k hk ?_, hcount]
      by_cases hkp : k ∈ counterKeys p
      · exact Or.inr (by rw [hsnap, if_pos hkp, hcount])
      · rw [hsnap, if_neg hkp, hcount]
        obtain ⟨r, hr, hkr⟩ | h := h
        · obtain rfl | hr := List.mem_cons.1 hr
          · exact absurd hkr hkp
          · exact Or.inl ⟨r, hr, hkr⟩
        · exact Or.inr h

theorem globalSnapshot : GlobalSnapshot := by
  refine ⟨fun s c h => ?_, fun s c h => ?_⟩
  · obtain ⟨⟨g, w, f, n, hshape⟩, hpages, hsnaps⟩ := Dev.latchAll_spec (s.dev.now / msT * msT) countingPages s.dev
    have heffect : globalSnapshotSpec.effect c s = (s.setDev (countingPages.foldl (fun d p => d.latch p (s.dev.now / msT * msT)) s.dev),
      .done .ok countingPages.length (shortOf (s.dev.now / msT * msT))) := by
      simp only [OpSpec.effect, globalSnapshotSpec, devRun]
    generalize countingPages.foldl (fun d p => d.latch p (s.dev.now / msT * msT)) s.dev = x at hshape hpages hsnaps heffect
    obtain ⟨e, hrun, hdone, -, -⟩ := h.okDev heffect (by rw [hshape]) (by rw [hshape])
    refine ⟨s.setDev e, congrArg Host.Outcome.next hrun, fun p hp => ?_, fun p hp hne k hk => ?_, unitsKept_posted ?_⟩
    · rw [State.setDev_dev, hdone.page]
      exact hpages p (Or.inl hp)
    · rw [State.setDev_dev, hdone.snaps]
      obtain ⟨hlo, hhi⟩ := counterKeys_page hk
      have hout : 4 * 4096 ≤ k ∨ k < 3 * 4096 := by
        unfold pgPcie at hne
        omega
      exact hsnaps k hout (Or.inl ⟨p, hp, hk⟩)
    · refine Dev.Posted.trans ?_ hdone.posted
      rw [hshape]
      rfl
  · obtain ⟨u, hrun, hkept, hout, -⟩ := h.query (n := 0) (v := shortOf (effectEpoch s.dev * msT)) rfl
    exact ⟨u, congrArg Host.Outcome.next hrun, hkept, hout⟩

/-! ### PPS (R138 to R143) -/

theorem pulsePerSecond : PulsePerSecond := by
  intro s hready
  refine ⟨exec_actReady (f := Dev.ppsOutPulse) rfl hready, fun stamp => exec_actReady (f := fun d => d.ppsInEdge stamp) rfl hready,
    exec_actReady (f := Dev.ppsInMissing) rfl hready, fun hon hdue hloud => ?_, fun stamp hon => ?_, fun hon hmissed hdue => ?_⟩
  · refine exec_ready_spec (f := Dev.ppsOutPulse) rfl hready ?_
    have hearly : (!bit (s.dev.reg pgQuartz 0x110) 0 ||
        decide ((s.dev.now : Int) < (s.dev.clk.ppsNext * secT : Nat) + sfld (s.dev.reg pgQuartz 0x110) 32 32 * (nsT : Int))) = false := by
      rw [hon, decide_eq_false (Int.not_lt.2 hdue)]
      rfl
    rw [State.setDev_dev]
    unfold Dev.ppsOutPulse
    dsimp only
    rw [hearly, if_neg (by decide)]
    rw [show ∀ k : Clock, Dev.squelched { s.dev with clk := k } (s.dev.reg pgQuartz 0x110) 1 = false from fun _ => hloud, if_neg (by decide)]
    exact ⟨rfl, rfl, rfl⟩
  · refine exec_ready_spec (f := fun d => d.ppsInEdge stamp) rfl hready ?_
    rw [State.setDev_dev]
    unfold Dev.ppsInEdge
    dsimp only
    rw [hon, if_neg (by decide)]
    split
    · exact ⟨Dev.ptp_raise _ _ _ _ _ _ _, fun _ => Dev.raise_bit _ _ _ _ _ _ _ (by decide)⟩
    · next hsmall => exact ⟨rfl, fun h => absurd h hsmall⟩
  · refine exec_ready_spec (f := Dev.ppsInMissing) rfl hready ?_
    have hlate : (!bit (s.dev.reg pgQuartz 0x120) 0 || s.dev.ptp.ppsMissed || decide (s.dev.now ≤ max (s.dev.ptp.ppsLast.getD 0) s.dev.ptp.ppsFrom + 1100 * msT)) = false := by
      rw [hon, hmissed, decide_eq_false (Nat.not_le.2 hdue)]
      rfl
    rw [State.setDev_dev]
    unfold Dev.ppsInMissing
    dsimp only
    rw [hlate, if_neg (by decide)]
    exact ⟨Dev.ptp_raise _ _ _ _ _ _ _, Dev.raise_bit _ _ _ _ _ _ _ (by decide)⟩

/-- Settles O16: the global snapshot by the latches of the pages one after the other, and PPS. -/
theorem ppsAndGlobalSnapshot : Obligations.PpsAndGlobalSnapshot := ⟨globalSnapshot, pulsePerSecond⟩

end Sys2Proof.Machine
end

section
/-! Regions of the LEGS page (R197 to R199): O19. -/

namespace Sys2Proof.Machine
open Sys2Proof

variable {s : State} {d e : Dev} {p off lo : Nat} {v w : Word}

theorem bit_setFld_self (v : Word) (x : Nat) (h : lo < 64) : bit (setFld v lo 1 x) lo = decide (x % 2 = 1) := by
  rw [bit, fld_setFld_same _ _ (by omega)]
  rfl

/-! ### A region that an ENABLE holds -/

/-- A word that an ENABLE of bit 0 may take: as merged over a PINNED region, else with ENABLE 0. -/
theorem bit_enableWord (m : Word) (ok : Bool) (hm : bit m 0 = true) : bit (if bit m 0 && !ok then setFld m 0 1 0 else m) 0 = ok := by
  cases ok
  · rw [hm, if_pos (by decide), bit_setFld_self _ _ (by decide)]
    rfl
  · rw [hm, if_neg (by decide), hm]

theorem legs_statsCfg : ∃ g, PType.legs.regAt 0x050 = some g ∧ g.rws = false ∧ FieldsApart g.flds ∧ (⟨0, 1, .rw, 0, .any⟩ : Fld) ∈ g.flds :=
  ⟨_, rfl, rfl, by unfold FieldsApart; decide, by decide⟩

theorem legs_bufBase : ∃ g, PType.legs.regAt 0x060 = some g ∧ g.rws = false ∧ FieldsApart g.flds ∧ (⟨0, 1, .rw, 0, .any⟩ : Fld) ∈ g.flds ∧
    (⟨16, 32, .rw, 0, .any⟩ : Fld) ∈ g.flds :=
  ⟨_, rfl, rfl, by unfold FieldsApart; decide, by decide, by decide⟩

/-- A register's write with what counts and holds beside it: the registers, and the pair, are those of the register alone. -/
def Dev.RegOnly (d e : Dev) : Prop := e.ctl.regs = d.ctl.regs ∧ e.pair = d.pair

theorem Dev.RegOnly.refl (d : Dev) : d.RegOnly d := ⟨rfl, rfl⟩
theorem Dev.RegOnly.trans {f : Dev} (h : d.RegOnly e) (k : e.RegOnly f) : d.RegOnly f := ⟨k.1.trans h.1, k.2.trans h.2⟩
theorem Dev.RegOnly.ite {f : Dev} {c : Prop} [Decidable c] (h : d.RegOnly e) (k : d.RegOnly f) : d.RegOnly (if c then e else f) := by
  split
  · exact h
  · exact k
theorem Dev.RegOnly.reg (h : d.RegOnly e) (q o : Nat) : e.reg q o = d.reg q o := by rw [Dev.reg, h.1, Dev.reg]
theorem Dev.Noted.regOnly (h : d.Noted e) : d.RegOnly e := by
  rw [h]
  exact ⟨rfl, rfl⟩
theorem Dev.hold_regOnly (d : Dev) (kind obj realm va len : Nat) : d.RegOnly (d.hold kind obj realm va len) := ⟨rfl, rfl⟩
theorem Dev.unhold_regOnly (d : Dev) (kind obj : Nat) : d.RegOnly (d.unhold kind obj) := ⟨rfl, rfl⟩

theorem Dev.enableRegion_regOnly (d : Dev) (pg off : Nat) (v : Word) (kind base len : Nat) :
    (d.setReg pg off (if bit (d.mergeAt pg off v).1 0 && !d.pinned 0 base len then setFld (d.mergeAt pg off v).1 0 1 0 else (d.mergeAt pg off v).1)).RegOnly
      (d.enableRegion pg off v kind base len) := by
  have herrs : ∀ (x : Dev) (es : List ErrCode) (c : Bool), x.RegOnly (if c then (x.errs pg es).err pg .badState else x.errs pg es) := fun x es c =>
    .ite ((Dev.errs_noted x pg es).regOnly.trans (Dev.err_noted _ _ _).regOnly) (Dev.errs_noted x pg es).regOnly
  unfold Dev.enableRegion
  exact .ite ((herrs _ _ _).trans (Dev.hold_regOnly _ _ _ _ _ _)) (.ite ((herrs _ _ _).trans (Dev.unhold_regOnly _ _ _)) (herrs _ _ _))

theorem mergeAt_of_regAt {t : PType} {g : Reg} (ht : pageType p = some t) (hg : t.regAt off = some g) (d : Dev) (v : Word) :
    d.mergeAt p off v = mergeFields g.flds (d.reg p off) (d.reg p off) v := by
  simp only [Dev.mergeAt, ht, Option.bind_some, hg]

/-- STATS_CFG written with ENABLE 1 (R197). -/
theorem Writable.statsCfg_enables (h : Writable s pgLegs) (hv : bit v 0 = true) : ∃ u, exec (.statsCfgWrite v) s = .next u ∧
    bit (u.dev.reg pgLegs 0x050) 0 = s.dev.pinned 0 (fld (s.dev.reg pgLegs 0x058) 16 32 * 65536) 262144 ∧
    ∀ o, o < 4096 → o ≠ 0x050 → u.dev.reg pgLegs o = s.dev.reg pgLegs o := by
  obtain ⟨g, hg, hrws, hapart, henable⟩ := legs_statsCfg
  have hty : pageType pgLegs = some .legs := rfl
  have hlive : (s.setDev s.dev).liveWrite pgLegs .legs g 0x050 v = (s.setDev s.dev).onDev fun d => d.statsCfgWrite v := by
    simp only [State.liveWrite]
    rw [if_pos trivial]
  have hreg := s.dev.enableRegion_regOnly pgLegs 0x050 v holdStats (fld (s.dev.reg pgLegs 0x058) 16 32 * 65536) 262144
  have hm : bit (s.dev.mergeAt pgLegs 0x050 v).1 0 = true := by
    rw [mergeAt_of_regAt hty hg, bit_mergeFields_any hapart henable, hv]
  refine ⟨_, congrArg Host.Outcome.next (h.hostWrite_live hty hg hrws rfl (by decide) (by decide) hlive hreg.2), ?_, fun o ho hne => ?_⟩
  · rw [State.setDev_dev, Dev.statsCfgWrite, hreg.reg, Dev.reg_setReg, if_pos rfl, bit_enableWord _ _ hm]
  · rw [State.setDev_dev, Dev.statsCfgWrite, hreg.reg, Dev.reg_setReg, if_neg fun hk => hne ((regKey_inj ho (by decide)).1 hk).2]

/-! ### BUF_BASE (R199) -/

/-- BUF_BASE written while its ENABLE is 0, the address kept: the word it takes. -/
theorem Dev.bufBaseWrite_regOnly (d : Dev) (v : Word) (hold : bit (d.reg pgLegs 0x060) 0 = false)
    (hsame : fld (d.mergeAt pgLegs 0x060 v).1 16 32 = fld (d.reg pgLegs 0x060) 16 32) :
    (d.setReg pgLegs 0x060 (if bit (d.mergeAt pgLegs 0x060 v).1 0 &&
        !d.pinned 0 (fld (d.mergeAt pgLegs 0x060 v).1 16 32 * 65536) (max 1 (fld (d.reg pgLegs 0x068) 0 16) * 1073741824)
      then setFld (d.mergeAt pgLegs 0x060 v).1 0 1 0 else (d.mergeAt pgLegs 0x060 v).1)).RegOnly (d.bufBaseWrite v) := by
  have herrs : ∀ (x : Dev) (es : List ErrCode) (c : Bool), x.RegOnly (if c then (x.errs pgLegs es).err pgLegs .badState else x.errs pgLegs es) := fun x es c =>
    .ite ((Dev.errs_noted x pgLegs es).regOnly.trans (Dev.err_noted _ _ _).regOnly) (Dev.errs_noted x pgLegs es).regOnly
  have hmoved : ∀ c : Bool, (fld (d.mergeAt pgLegs 0x060 v).1 16 32 != fld (d.reg pgLegs 0x060) 16 32 && c) = false := fun c => by
    rw [hsame, bne_self_eq_false, Bool.false_and]
  unfold Dev.bufBaseWrite
  dsimp only
  rw [hold, hmoved]
  simp only [Bool.false_and, Bool.false_or, Bool.not_false, Bool.and_true, Bool.false_eq_true, if_false, Bool.or_false]
  exact .ite ((herrs _ _ _).trans (Dev.hold_regOnly _ _ _ _ _ _)) (herrs _ _ _)

theorem Writable.bufBase_enables (h : Writable s pgLegs) (hold : bit (s.dev.reg pgLegs 0x060) 0 = false) (hv : bit v 0 = true)
    (hsame : fld v 16 32 = fld (s.dev.reg pgLegs 0x060) 16 32) : ∃ u, exec (.bufBaseWrite v) s = .next u ∧
    bit (u.dev.reg pgLegs 0x060) 0 = s.dev.pinned 0 (fld v 16 32 * 65536) (max 1 (fld (s.dev.reg pgLegs 0x068) 0 16) * 1073741824) ∧
    fld (u.dev.reg pgLegs 0x060) 16 32 = fld v 16 32 := by
  obtain ⟨g, hg, hrws, hapart, henable, hbase⟩ := legs_bufBase
  have hty : pageType pgLegs = some .legs := rfl
  have hlive : (s.setDev s.dev).liveWrite pgLegs .legs g 0x060 v = (s.setDev s.dev).onDev fun d => d.bufBaseWrite v := by
    simp only [State.liveWrite]
    rw [if_neg (by decide), if_pos trivial]
  have hm : bit (s.dev.mergeAt pgLegs 0x060 v).1 0 = true := by
    rw [mergeAt_of_regAt hty hg, bit_mergeFields_any hapart henable, hv]
  have hf : fld (s.dev.mergeAt pgLegs 0x060 v).1 16 32 = fld v 16 32 := by
    rw [mergeAt_of_regAt hty hg, fld_mergeFields_any hapart hbase]
  have hreg := s.dev.bufBaseWrite_regOnly v hold (hf.trans hsame)
  refine ⟨_, congrArg Host.Outcome.next (h.hostWrite_live hty hg hrws rfl (by decide) (by decide) hlive hreg.2), ?_, ?_⟩
  · rw [State.setDev_dev, hreg.reg, Dev.reg_setReg, if_pos rfl, bit_enableWord _ _ hm, hf]
  · rw [State.setDev_dev, hreg.reg, Dev.reg_setReg, if_pos rfl]
    split
    · rw [fld_setFld_apart _ _ (by decide) (by decide), hf]
    · exact hf

/-- Settles O19: the two registers of the LEGS page that enable a region. -/
theorem regionEnables : Obligations.RegionEnables := fun _ _ h =>
  ⟨fun _ hv => h.statsCfg_enables hv, fun hold hv hsame => h.bufBase_enables hold hv hsame⟩

end Sys2Proof.Machine
end

section
/-! The power and thermal monitor (R832 to R837): O54. -/

namespace Sys2Proof.Machine
open Sys2Proof

variable {s : State}

/-- MARGIN_LOW set or cleared: apart from the power record, a change is noted. -/
theorem Dev.marginSet_noted (d : Dev) (b : Bool) : ({ d with pow := { d.pow with marginLow := b } } : Dev).Noted (d.marginSet b) := by
  unfold Dev.marginSet
  split
  next h =>
    subst h
    exact .refl _
  next => exact Dev.raise_noted _ _ _ _ _ _ _

theorem Dev.Noted.pow {d e : Dev} (h : d.Noted e) : e.pow = d.pow := by rw [h]
theorem Dev.Noted.boot {d e : Dev} (h : d.Noted e) : e.boot = d.boot := by rw [h]

theorem Dev.pow_marginSet (d : Dev) (b : Bool) : (d.marginSet b).pow = { d.pow with marginLow := b } := (d.marginSet_noted b).pow
theorem Dev.boot_marginSet (d : Dev) (b : Bool) : (d.marginSet b).boot = d.boot := (d.marginSet_noted b).boot

theorem Dev.marginSet_event (d : Dev) (h : d.pow.marginLow = false) : ((d.marginSet true).page pgDevice).event.getLsbD 2 = true := by
  rw [Dev.marginSet, if_neg (ne_true_of_eq_false h)]
  exact Dev.raise_bit _ _ _ _ _ _ _ (by decide)

/-- What a sample leaves of the power record while a cause of MARGIN_LOW holds, and while none does. -/
theorem Dev.marginCheck_cause (d : Dev) (h : d.marginCause = true) : d.marginCheck = ({ d with pow := { d.pow with lastCause := d.now } } : Dev).marginSet true := by
  rw [Dev.marginCheck, if_pos h]

theorem Dev.marginCheck_none (d : Dev) (h : d.marginCause = false) : d.marginCheck = d := by
  rw [Dev.marginCheck, if_neg (by rw [h]; decide)]

theorem Dev.pow_marginCheck (d : Dev) : d.marginCheck.pow.temp16 = d.pow.temp16 ∧ d.marginCheck.pow.railLow = d.pow.railLow ∧ d.marginCheck.pow.samples = d.pow.samples := by
  cases h : d.marginCause
  · rw [d.marginCheck_none h]
    exact ⟨rfl, rfl, rfl⟩
  · rw [d.marginCheck_cause h, Dev.pow_marginSet]
    exact ⟨rfl, rfl, rfl⟩

/-- MONITOR_SAMPLE (R837). -/
theorem Dev.monitorSample_spec (d : Dev) (p : Nat) (t : Int) (low : Bool) :
    (d.monitorSample p t low).pow.temp16 = t ∧ (d.monitorSample p t low).pow.railLow = low ∧ (d.monitorSample p t low).pow.samples = (p :: d.pow.samples).take 1000 ∧
    (low = true ∨ 1600 ≤ t → (d.monitorSample p t low).pow.marginLow = true ∧ (d.monitorSample p t low).pow.lastCause = d.now ∧
      (d.pow.marginLow = false → ((d.monitorSample p t low).page pgDevice).event.getLsbD 2 = true)) ∧
    (low = false → t < 1600 → d.pow.throttle = false → (d.monitorSample p t low).pow.marginLow = d.pow.marginLow) := by
  unfold Dev.monitorSample
  obtain ⟨htemp, hrail, hsamples⟩ := Dev.pow_marginCheck (({ d with pow := ({ d.pow with
    samples := (p :: d.pow.samples).take 1000
    temp16 := t
    railLow := low
    lastCause := if d.marginCause then d.now else d.pow.lastCause } : Power) } : Dev))
  refine ⟨htemp, hrail, hsamples, fun hcause => ?_, fun hlow ht hthr => ?_⟩
  · rw [Dev.marginCheck_cause _ (by
      simp only [Dev.marginCause, Bool.or_eq_true, decide_eq_true_eq]
      exact .inl hcause)]
    rw [Dev.pow_marginSet]
    exact ⟨rfl, rfl, fun h => Dev.marginSet_event _ h⟩
  · rw [Dev.marginCheck_none _ (by
      simp only [Dev.marginCause, hlow, hthr, Bool.or_false, Bool.false_or, decide_eq_false_iff_not]
      omega)]

/-- The causes have not held for 1 s: an advance of OTP put off is made (R762, R837). -/
theorem State.marginClear_due (hcause : s.dev.marginCause = false) (hlow : s.dev.pow.marginLow = true) (hsec : s.dev.pow.lastCause + secT ≤ s.dev.now) :
    s.marginClear = if s.dev.boot.deferred = true then
        ((s.setDev (s.dev.marginSet false)).onAon fun a => a.advance s.dev.boot.svn s.dev.boot.revoke s.dev.boot.keyIndex).setDev
          ((s.dev.marginSet false).onBoot fun x => { x with deferred := false })
      else s.setDev (s.dev.marginSet false) := by
  have hwait : decide (s.dev.now < s.dev.pow.lastCause + secT) = false := decide_eq_false (Nat.not_lt.2 hsec)
  rw [State.marginClear, hcause, hlow, hwait, if_neg (by decide)]
  have hboot : (s.setDev (s.dev.marginSet false)).dev.boot = s.dev.boot := s.dev.boot_marginSet false
  dsimp only
  simp only [hboot]
  cases s.dev.boot.deferred
  · rw [if_pos (by decide), if_neg (by decide)]
  · rw [if_neg (by decide), if_pos rfl]
    rfl

theorem State.marginClear_spec (hcause : s.dev.marginCause = false) (hlow : s.dev.pow.marginLow = true) (hsec : s.dev.pow.lastCause + secT ≤ s.dev.now) :
    s.marginClear.dev.pow.marginLow = false ∧
    (s.dev.boot.deferred = true → s.marginClear.aon.counter = max s.aon.counter s.dev.boot.svn ∧ s.marginClear.dev.boot.deferred = false) ∧
    (s.dev.boot.deferred = false → s.marginClear.aon.counter = s.aon.counter) := by
  rw [State.marginClear_due hcause hlow hsec]
  refine ⟨?_, fun h => ?_, fun h => ?_⟩
  · split
    · exact congrArg Power.marginLow (s.dev.pow_marginSet false)
    · exact congrArg Power.marginLow (s.dev.pow_marginSet false)
  · rw [if_pos h]
    exact ⟨rfl, rfl⟩
  · rw [if_neg (by rw [h]; decide)]
    rfl

theorem State.marginClear_waits (h : s.dev.marginCause = true ∨ s.dev.pow.marginLow = false ∨ s.dev.now < s.dev.pow.lastCause + secT) : s.marginClear = s := by
  rw [State.marginClear, if_pos]
  simp only [Bool.or_eq_true, Bool.not_eq_true', decide_eq_true_eq]
  exact (or_assoc).2 h

/-- Settles O54: the samples, the end of MARGIN_LOW, and the board's sensor. -/
theorem powerMonitor : Obligations.PowerMonitor := by
  intro s p t low hup
  have hclear : exec .marginLowClear s = .next s.marginClear := congrArg Host.Outcome.next (State.actAll_up State.marginClear hup)
  refine ⟨exec_up_spec (f := fun d => d.monitorSample p t low) rfl hup (s.dev.monitorSample_spec p t low), fun hcause hlow hsec => ⟨_, hclear, s.marginClear_spec hcause hlow hsec⟩,
    ⟨exec_act (f := fun d => d.monitorSample p t low) rfl hup, hclear⟩, fun h => ?_, fun x => ⟨_, congrArg Host.Outcome.next (State.act_up _ hup), ?_, rfl⟩,
    _, congrArg Host.Outcome.next (State.act_up _ hup), rfl, rfl⟩
  · rw [hclear, State.marginClear_waits h]
  · show (x.sshiftRight 4).toInt = x.toInt / 16
    rw [BitVec.toInt_sshiftRight, Int.shiftRight_eq_div_pow]
    rfl

end Sys2Proof.Machine
end

section
/-! Queue limits and gate times (R535, R553, R559): O36. -/

namespace Sys2Proof.Machine
open Sys2Proof

variable {d e : Dev} {j k : Nat}

/-- A report counts at two offsets alone. -/
theorem Dev.counter_report_apart (d : Dev) (r : Report) {q o : Nat} (ho : o < 4096) (h90 : o ≠ 0x090) (h98 : o ≠ 0x098) : (d.report r).counter q o = d.counter q o := by
  have hfreeze : ∀ (x : Dev) (a b c e : Nat), (x.freeze a b c e).counter q o = x.counter q o := by
    intro x a b c e
    unfold Dev.freeze
    split <;> rfl
  have hinc : ∀ (x : Dev) (b : Nat), b < 4096 → o ≠ b → (x.inc pgErrlog b).counter q o = x.counter q o := fun x b hb hne => by
    rw [Dev.inc, Dev.counter_bump, if_neg fun hk => hne ((regKey_inj ho hb).1 hk).2]
  have hcoal : ∀ c : Bool, (if c then (d.inc pgErrlog 0x090).inc pgErrlog 0x098 else d.inc pgErrlog 0x090).counter q o = d.counter q o := fun c => by
    split
    · rw [hinc _ _ (by decide) h98, hinc _ _ (by decide) h90]
    · exact hinc _ _ (by decide) h90
  unfold Dev.report
  dsimp only
  split
  · rw [hfreeze]
    exact hcoal _
  · exact hcoal _

theorem Dev.counter_raise_apart (d : Dev) (p b s c : Nat) (x y : Word) {q o : Nat} (ho : o < 4096) (h90 : o ≠ 0x090) (h98 : o ≠ 0x098) :
    (d.raise p b s c x y).counter q o = d.counter q o := by
  rw [Dev.raise, Dev.counter_report_apart _ _ ho h90 h98, Dev.counter_event]

theorem Dev.Noted.egress (h : d.Noted e) : e.egress = d.egress := by rw [h]
theorem Dev.Noted.queue (h : d.Noted e) (j : Nat) : e.queue j = d.queue j := by rw [Dev.queue, h.egress, Dev.queue]

/-! ### What acts on one queue -/

@[simp] theorem Dev.queue_onEport (d : Dev) (p : Nat) (f : EPort → EPort) (j : Nat) : (d.onEport p f).queue j = d.queue j := rfl
@[simp] theorem Dev.queue_leaveActive (d : Dev) (k j : Nat) : (d.leaveActive k).queue j = d.queue j := rfl

theorem Dev.queue_joinActive (d : Dev) (k j : Nat) : (d.joinActive k).queue j = d.queue j := by
  unfold Dev.joinActive
  split
  · rfl
  · rfl

theorem Dev.queue_emptied (d : Dev) (h : j ≠ k) : (d.emptied k).queue j = d.queue j := by
  rw [Dev.emptied, Dev.queue_onQueue, if_neg h, Dev.queue_leaveActive]

theorem Dev.queue_dropOversize (d : Dev) (h : j ≠ k) : (d.dropOversize k).queue j = d.queue j := by
  have hnoted : ∀ (l : List EFrame) (p q : Nat), d.Noted (l.foldl (fun d f =>
      (d.inc (pgEgress p) 0x0F0).raise (pgEgress p) 2 (0x0E8 + p) 0x0903 (fmk 0 64 q) (fmk 0 64 f.len)) d) := fun l p q =>
    Dev.noted_foldl _ (fun d f => (Dev.inc_noted _ _ _).trans (Dev.raise_noted _ _ _ _ _ _ _)) _ _
  unfold Dev.dropOversize
  dsimp only
  split
  next => rfl
  next =>
    split
    · rfl
    · split
      · rw [Dev.queue_emptied _ h, Dev.queue_onQueue, if_neg h, (hnoted _ _ _).queue]
      · rw [Dev.queue_onQueue, if_neg h, (hnoted _ _ _).queue]

/-! ### A frame that arrives (R535) -/

/-- A frame that finds its queue at the limit. -/
def Dev.dropArrival (d : Dev) (k : Nat) (f : EFrame) : Dev :=
  let p := d.qPort k
  ((d.inc (pgEgress p) (if 8192 ≤ k then 0x0E8 else 0x0E0)).onQueue k fun q => { q with stat := { q.stat with drops := q.stat.drops + 1 } }).raise
    (pgEgress p) 3 (0x0E8 + p) 0x0904 (fmk 0 64 (qName k)) (fmk 0 64 f.len)

theorem Dev.enqueue_refused (d : Dev) (k : Nat) (f : EFrame) (hs : d.egress.stopped = true) (h : (d.srtpQueue k || f.srtcp) = true) : d.enqueue k f = d := by
  rw [Dev.enqueue, if_pos (by rw [hs, h]; rfl)]

theorem Dev.enqueue_full {f : EFrame} (h : (d.egress.stopped && (d.srtpQueue k || f.srtcp)) = false) (hfull : d.qLimit k ≤ (d.queue k).frames.length) :
    d.enqueue k f = d.dropArrival k f := by
  rw [Dev.enqueue, if_neg (ne_true_of_eq_false h), if_pos hfull, Dev.dropArrival]

theorem Dev.queue_dropArrival (d : Dev) (k j : Nat) (f : EFrame) :
    (d.dropArrival k f).queue j = if j = k then { d.queue k with stat := { (d.queue k).stat with drops := (d.queue k).stat.drops + 1 } } else d.queue j := by
  rw [Dev.dropArrival, (Dev.raise_noted _ _ _ _ _ _ _).queue, Dev.queue_onQueue]
  rfl

theorem Dev.counter_dropArrival (d : Dev) (k : Nat) (f : EFrame) :
    (d.dropArrival k f).counter (pgEgress (d.qPort k)) (if 8192 ≤ k then 0x0E8 else 0x0E0) =
      d.counter (pgEgress (d.qPort k)) (if 8192 ≤ k then 0x0E8 else 0x0E0) + 1 := by
  rw [Dev.dropArrival, Dev.counter_raise_apart _ _ _ _ _ _ _ (by split <;> decide) (by split <;> decide) (by split <;> decide)]
  exact Dev.counter_inc_same _ _ _

/-- The arrival in a queue that has room: what the queue then holds, and what else acts on it. -/
theorem Dev.enqueue_room {f : EFrame} (h : (d.egress.stopped && (d.srtpQueue k || f.srtcp)) = false) (hroom : (d.queue k).frames.length < d.qLimit k) :
    ∃ q, q.frames = (d.queue k).frames ++ [{ f with at_ := d.now }] ∧
      d.enqueue k f = if (d.queue k).frames.isEmpty then ((d.setQueue k q).dropOversize k).joinActive k else d.setQueue k q := by
  rw [Dev.enqueue, if_neg (ne_true_of_eq_false h), if_neg (Nat.not_le.2 hroom)]
  exact ⟨_, rfl, rfl⟩

theorem queueLimits : QueueLimits := by
  intro d k f
  refine ⟨fun hs h => d.enqueue_refused k f hs h, fun hopen => ?_⟩
  have h : (d.egress.stopped && (d.srtpQueue k || f.srtcp)) = false := by rwa [Bool.and_eq_false_iff]
  refine ⟨fun hfull => ?_, fun hroom hne => ?_, fun j hj => ?_⟩
  · rw [Dev.enqueue_full h hfull]
    exact ⟨by rw [Dev.queue_dropArrival, if_pos rfl], d.counter_dropArrival k f⟩
  · obtain ⟨q, hq, he⟩ := Dev.enqueue_room h hroom
    rw [he, if_neg (by simpa using hne), Dev.queue_setQueue, if_pos rfl, hq]
  · rcases Nat.lt_or_ge (d.queue k).frames.length (d.qLimit k) with hroom | hfull
    · obtain ⟨q, -, he⟩ := Dev.enqueue_room h hroom
      rw [he]
      split
      · rw [Dev.queue_joinActive, Dev.queue_dropOversize _ hj, Dev.queue_setQueue, if_neg hj]
      · rw [Dev.queue_setQueue, if_neg hj]
    · rw [Dev.enqueue_full h hfull, Dev.queue_dropArrival, if_neg hj]

/-! ### Gate switch times (R553) -/

/-- The cycles that reach an instant, counted up. -/
theorem cyclesTo {c : Nat} (hc : 0 < c) (base t : Nat) :
    t ≤ base + (if t ≤ base then 0 else (t - base + c - 1) / c) * c ∧ ∀ n, t ≤ base + n * c → (if t ≤ base then 0 else (t - base + c - 1) / c) ≤ n := by
  split
  next h => exact ⟨by omega, fun _ _ => Nat.zero_le _⟩
  next h =>
    rw [← Nat.ceilDiv_eq_add_pred_div]
    refine ⟨?_, fun n hn => (ceilDiv_le_iff_le_mul hc).2 (by rw [Nat.mul_comm]; omega)⟩
    have hle := le_smul_ceilDiv (a := c) (b := t - base) hc
    rw [smul_eq_mul, Nat.mul_comm] at hle
    omega

theorem gateSwitchTimes : GateSwitchTimes := fun base cycle t =>
  ⟨(cyclesTo (by omega) base t).1, rfl, (cyclesTo (by omega) base t).2⟩

/-- Settles O36: the arrivals of a queue, and the switch times of a gate list. -/
theorem egressRules : Obligations.EgressRules := ⟨queueLimits, gateSwitchTimes⟩

end Sys2Proof.Machine
end

section
/-! SRTP as Flint carries it (R564 to R568, R589, R590): O39. -/

namespace Sys2Proof.Machine
open Sys2Proof

variable {d e : Dev} {k seq ssrc : Nat} {high : Option Nat} {h : KeyHalf} {p q : List Byte}

/-! ### Bytes of a packet -/

/-- Bytes read within the front of a byte string. -/
theorem beAt_append {a : List Byte} (b : List Byte) {o n : Nat} (h : o + n ≤ a.length) : beAt (a ++ b) o n = beAt a o n := by
  have hlen : n ≤ (a.drop o).length := by
    rw [List.length_drop]
    omega
  rw [beAt, beAt, List.drop_append_of_le_length (by omega), List.append_assoc, List.take_append_of_le_length hlen, List.take_append_of_le_length hlen]

theorem beNat_lt (l : List Byte) : beNat l < 256 ^ l.length := by
  suffices hstep : ∀ (l : List Byte) (a n : Nat), a < 256 ^ n → l.foldl (fun a b => a * 256 + b.toNat) a < 256 ^ (n + l.length) from by
    rw [beNat, ← Nat.zero_add l.length]
    exact hstep l 0 0 (by decide)
  intro l
  induction l with
  | nil => exact fun a n ha => ha
  | cons b l ih =>
    intro a n ha
    have hb := b.isLt
    have hnext := ih (a * 256 + b.toNat) (n + 1) (by rw [Nat.pow_succ]; omega)
    rwa [show n + 1 + l.length = n + (b :: l).length by rw [List.length_cons]; omega] at hnext

theorem beAt_lt (l : List Byte) (o n : Nat) : beAt l o n < 256 ^ n :=
  Nat.lt_of_lt_of_le (beNat_lt _) (Nat.pow_le_pow_right (by decide) (List.length_take_le _ _))

/-! ### A packet sealed and opened (R564) -/

/-- The header's length depends on the header alone. -/
theorem rtpHeaderLen_append (a q : List Byte) (h : rtpHeaderLen a ≤ a.length ∨ rtpHeaderLen (a ++ q) ≤ a.length) : rtpHeaderLen (a ++ q) = rtpHeaderLen a := by
  unfold rtpHeaderLen at h ⊢
  dsimp only at h ⊢
  have hfirst : beAt (a ++ q) 0 1 = beAt a 0 1 := beAt_append q (by
    rcases h with h | h
    · split at h <;> omega
    · split at h <;> omega)
  rw [hfirst] at h ⊢
  by_cases hx : beAt a 0 1 / 16 % 2 = 1
  · rw [if_pos hx, if_pos hx] at h
    rw [if_pos hx, if_pos hx, beAt_append q (by rcases h with h | h <;> omega)]
  · rw [if_neg hx, if_neg hx]

theorem rtpHeaderLen_take (hp : rtpHeaderLen p ≤ p.length) : rtpHeaderLen (p.take (rtpHeaderLen p)) = rtpHeaderLen p := by
  have hlen : (p.take (rtpHeaderLen p)).length = rtpHeaderLen p := by rw [List.length_take, Nat.min_eq_left hp]
  have hcut := List.take_append_drop (rtpHeaderLen p) p
  have happ := rtpHeaderLen_append (p.take (rtpHeaderLen p)) (p.drop (rtpHeaderLen p)) (.inr (by rw [hcut, hlen]))
  rw [hcut] at happ
  exact happ.symm

@[simp] theorem length_xorStream (h : KeyHalf) (rtcp : Bool) (ssrc idx : Nat) (l : List Byte) : (xorStream h rtcp ssrc idx l).length = l.length := by
  rw [xorStream, List.length_map, List.length_range]

/-- The key stream combined twice leaves the bytes. -/
theorem xorStream_xorStream (h : KeyHalf) (rtcp : Bool) (ssrc idx : Nat) (l : List Byte) : xorStream h rtcp ssrc idx (xorStream h rtcp ssrc idx l) = l := by
  refine List.ext_getElem (by rw [length_xorStream, length_xorStream]) fun i hi hl => ?_
  have hget : ∀ (l : List Byte) (hi : i < (xorStream h rtcp ssrc idx l).length) (hl : i < l.length),
      (xorStream h rtcp ssrc idx l)[i] = l[i] ^^^ Config.srtpStream ⟨h.transform, h.key, h.salt, rtcp, ssrc, idx⟩ i := fun l hi hl => by
    simp only [xorStream, List.getElem_map, List.getElem_range, nthD, List.getElem?_eq_getElem hl, Option.getD_some]
  rw [hget _ _ (by rwa [length_xorStream]), hget _ _ hl, BitVec.xor_assoc, BitVec.xor_self, BitVec.xor_zero]

@[simp] theorem length_srtpTagOf (h : KeyHalf) (rtcp : Bool) (ssrc idx : Nat) (a c : List Byte) : (srtpTagOf h rtcp ssrc idx a c).length = tagLen h.transform rtcp := by
  rw [srtpTagOf, List.length_map, List.length_range]

/-- An RTP packet as a header, a payload and a tag. -/
theorem srtpOpen_parts {a c t : List Byte} {idx : Nat} (ha : rtpHeaderLen a = a.length) (ht : t.length = tagLen h.transform false) :
    srtpOpen h ssrc idx (a ++ c ++ t) = if t = srtpTagOf h false ssrc idx a c then some (a ++ xorStream h false ssrc idx c) else none := by
  have hn : rtpHeaderLen (a ++ c ++ t) = a.length := by
    rw [List.append_assoc, rtpHeaderLen_append _ _ (.inl (Nat.le_of_eq ha)), ha]
  have hm : (a ++ c ++ t).length - tagLen h.transform false = (a ++ c).length := by
    rw [List.length_append, ht, Nat.add_sub_cancel]
  have htake : (a ++ c ++ t).take (a ++ c).length = a ++ c := List.take_left
  have hdrop : (a ++ c ++ t).drop (a ++ c).length = t := List.drop_left
  have hhead : (a ++ c ++ t).take a.length = a := by rw [List.append_assoc, List.take_left]
  rw [srtpOpen]
  simp only [hn, hm, htake, hdrop, hhead, List.drop_left]
  rw [if_neg (by rw [List.length_append]; omega)]

theorem sealedOpens : SealedOpens := by
  intro h ssrc idx p hp
  have ha : rtpHeaderLen (p.take (rtpHeaderLen p)) = (p.take (rtpHeaderLen p)).length := by
    rw [rtpHeaderLen_take hp, List.length_take, Nat.min_eq_left hp]
  rw [srtpSeal, srtpOpen_parts ha (length_srtpTagOf _ _ _ _ _ _), if_pos rfl, xorStream_xorStream, List.take_append_drop]

/-! ### The replay window (R589, R590) -/

theorem windowAdd_replayed (high : Option Nat) (w idx : Nat) : replayed (some (windowAdd high w idx).1) (windowAdd high w idx).2 idx = true := by
  unfold windowAdd
  split
  · simp [replayed]
  · split
    · simp [replayed]
    next hle => simp [replayed, hle, Nat.testBit_two_pow_self]

theorem windowAdd_keeps (high : Option Nat) (w idx j : Nat) (hj : replayed high w j = true) :
    replayed (some (windowAdd high w idx).1) (windowAdd high w idx).2 j = true := by
  cases high with
  | none => exact absurd hj (by simp [replayed])
  | some hi =>
    simp only [replayed, Bool.if_false_left, Bool.and_eq_true, Bool.not_eq_true', decide_eq_false_iff_not, Bool.or_eq_true, decide_eq_true_eq] at hj
    obtain ⟨hle, hold⟩ := hj
    unfold windowAdd
    dsimp only
    split
    next hlt =>
      simp only [replayed, Bool.if_false_left, Bool.and_eq_true, Bool.not_eq_true', decide_eq_false_iff_not, Bool.or_eq_true, decide_eq_true_eq]
      refine ⟨by omega, (Nat.lt_or_ge (idx - j) 128).elim (fun hnear => .inr ?_) .inl⟩
      have hbit : w.testBit (hi - j) = true := hold.resolve_left (by omega)
      rw [Nat.testBit_mod_two_pow, decide_eq_true hnear, if_neg (by omega), Nat.testBit_or, Nat.testBit_shiftLeft, decide_eq_true (by omega),
        show idx - j - (idx - hi) = hi - j by omega, hbit]
      rfl
    next =>
      simp only [replayed, Bool.if_false_left, Bool.and_eq_true, Bool.not_eq_true', decide_eq_false_iff_not, Bool.or_eq_true, decide_eq_true_eq, Nat.testBit_or]
      exact ⟨hle, hold.imp_right .inl⟩

theorem replayWindow : ReplayWindow := fun high w idx =>
  ⟨windowAdd_replayed high w idx, fun hi hhi hlt => by rw [hhi, replayed, if_pos hlt], fun j hj => windowAdd_keeps high w idx j hj⟩

/-! ### The index of a sequence number (R589) -/

theorem srtpIndex_mod (high : Option Nat) (h : seq < 65536) : srtpIndex high seq % 65536 = seq := by
  have hshift : ∀ v, (v * 65536 + seq) % 65536 = seq := fun v => by omega
  unfold srtpIndex
  split
  · exact Nat.mod_eq_of_lt h
  · exact hshift _

theorem indexEstimate : IndexEstimate := by
  intro hi seq hseq hlow hhigh
  refine ⟨srtpIndex_mod _ hseq, ?_⟩
  unfold srtpIndex
  dsimp only
  split
  · split <;> omega
  · split <;> omega

/-- The number that an index carries gives the index again. -/
theorem srtpIndex_self (idx : Nat) (h : idx % 65536 = seq) : srtpIndex (some idx) seq = idx := by
  unfold srtpIndex
  dsimp only
  split
  · rw [if_neg (by omega)]
    omega
  · rw [if_neg (by omega)]
    omega

/-- Once a packet has authenticated, its number still gives its index. -/
theorem srtpIndex_windowAdd (high : Option Nat) (w : Nat) (h : seq < 65536) :
    srtpIndex (some (windowAdd high w (srtpIndex high seq)).1) seq = srtpIndex high seq := by
  cases high with
  | none => exact srtpIndex_self _ (Nat.mod_eq_of_lt h)
  | some hi =>
    unfold windowAdd
    dsimp only
    split
    · exact srtpIndex_self (srtpIndex (some hi) seq) (srtpIndex_mod _ h)
    · rfl

/-! ### A second copy (R589) -/

/-- The context that a slot has for a source. -/
def Dev.ctxOf (d : Dev) (k ssrc : Nat) : Option SrtpCtx := (d.slotCtxs k).find? fun c => c.ssrc == ssrc

theorem Dev.ctxOf_putCtx (d : Dev) (k : Nat) (x : SrtpCtx) : (d.putCtx k x).ctxOf k x.ssrc = some x := by
  rw [Dev.ctxOf, Dev.putCtx, Dev.slotCtxs_setCtxs, if_pos rfl]
  have hsame : ((fun c : SrtpCtx => c.ssrc == x.ssrc) ∘ fun c => if c.ssrc = x.ssrc then x else c) = fun c => c.ssrc == x.ssrc := by
    funext c
    by_cases hc : c.ssrc = x.ssrc <;> simp [hc]
  split
  next hany =>
    obtain ⟨c, hc⟩ := Option.isSome_iff_exists.1 ((List.find?_isSome (p := fun c : SrtpCtx => c.ssrc == x.ssrc)).2 (List.any_eq_true.1 hany))
    have hcx : c.ssrc = x.ssrc := by simpa using List.find?_some hc
    rw [List.find?_map, hsame, hc, Option.map_some, if_pos hcx]
  next hany =>
    rw [List.find?_append, List.find?_eq_none.2 fun c hc hcx => hany (List.any_eq_true.2 ⟨c, hc, hcx⟩), Option.none_or, List.find?_singleton]
    simp

/-- What a slot's advance makes of its contexts (R584). -/
theorem Dev.ctxOf_slotAdvance (d : Dev) (k : Nat) (past : Bool) (ssrc : Nat) : ∃ g : SrtpCtx → SrtpCtx,
    (∀ c, (g c).high = c.high ∧ (g c).window = c.window) ∧ (d.slotAdvance k past).ctxOf k ssrc = (d.ctxOf k ssrc).map g := by
  have hretire : ∀ (x : Dev) (b : Bool) (s : KeySlot), x.slotCtxs k = d.slotCtxs k → ∃ g : SrtpCtx → SrtpCtx, (∀ c, (g c).high = c.high ∧ (g c).window = c.window) ∧
      (if b then (x.setSlot k s).setCtxs k ((x.slotCtxs k).map fun c => { c with switchAt := none, newHigh := none }) else x).ctxOf k ssrc = (d.ctxOf k ssrc).map g := by
    intro x b s hx
    cases b
    · exact ⟨id, fun c => ⟨rfl, rfl⟩, by rw [Option.map_id, if_neg (by decide), Dev.ctxOf, hx]; rfl⟩
    · refine ⟨fun c => { c with switchAt := none, newHigh := none }, fun c => ⟨rfl, rfl⟩, ?_⟩
      rw [if_pos rfl, Dev.ctxOf, Dev.slotCtxs_setCtxs, if_pos rfl, List.find?_map, Dev.ctxOf, hx]
      rfl
  unfold Dev.slotAdvance
  split
  · cases past
    · exact hretire _ _ _ rfl
    · exact hretire _ _ _ rfl
  · exact hretire _ _ _ rfl

/-- A packet taken: its index is in the window of its context. -/
theorem Dev.flintIn_takes (ht : d.flintIn k false p = (e, some q)) : ∃ c x : SrtpCtx, e.ctxOf k (beAt p 8 4) = some x ∧
    x.high = some (windowAdd c.high c.window (srtpIndex c.high (beAt p 2 2))).1 ∧ x.window = (windowAdd c.high c.window (srtpIndex c.high (beAt p 2 2))).2 := by
  have hssrc : ((d.ctxOf k (beAt p 8 4)).getD { ssrc := beAt p 8 4 }).ssrc = beAt p 8 4 := by
    cases hf : d.ctxOf k (beAt p 8 4) with
    | none => rfl
    | some c => simpa using List.find?_some hf
  refine ⟨(d.ctxOf k (beAt p 8 4)).getD { ssrc := beAt p 8 4 }, ?_⟩
  have hend : ∀ (D : Dev) (x : SrtpCtx) (b past : Bool), x.ssrc = beAt p 8 4 → e = (if b then (D.putCtx k x).slotAdvance k past else D.putCtx k x) →
      ∃ y : SrtpCtx, e.ctxOf k (beAt p 8 4) = some y ∧ y.high = x.high ∧ y.window = x.window := by
    intro D x b past hx he
    have hput := D.ctxOf_putCtx k x
    rw [hx] at hput
    cases b
    · exact ⟨x, he ▸ hput, rfl, rfl⟩
    · obtain ⟨g, hg, hadv⟩ := (D.putCtx k x).ctxOf_slotAdvance k past (beAt p 8 4)
      rw [hput] at hadv
      exact ⟨g x, he ▸ hadv, hg x⟩
  unfold Dev.flintIn at ht
  extract_lets s ssrc at ht
  split at ht
  · cases ht
  · split at ht
    · cases ht
    · split at ht
      · cases ht
      · rename_i res _ _ _ _ _ _ _ _ _ _ _ _ _
        clear_value res
        split at ht
        · cases ht
        · rw [Prod.mk.injEq] at ht
          obtain ⟨he, -⟩ := ht
          obtain ⟨y, hy, hhigh, hwindow⟩ := hend _ _ _ _ (by exact hssrc) he.symm
          exact ⟨y, hy, hhigh, hwindow⟩

/-- A packet whose index its context has had already gives nothing. -/
theorem Dev.flintIn_replayed {x : SrtpCtx} (hx : d.ctxOf k (beAt p 8 4) = some x) (hr : replayed x.high x.window (srtpIndex x.high (beAt p 2 2)) = true) :
    (d.flintIn k false p).2 = none := by
  have hdup : replayed ((d.ctxOf k (beAt p 8 4)).getD { ssrc := beAt p 8 4 }).high ((d.ctxOf k (beAt p 8 4)).getD { ssrc := beAt p 8 4 }).window
      (srtpIndex ((d.ctxOf k (beAt p 8 4)).getD { ssrc := beAt p 8 4 }).high (beAt p 2 2)) = true := by
    rw [hx]
    exact hr
  unfold Dev.flintIn
  extract_lets s ssrc
  split
  · rfl
  · split
    · rfl
    · split
      · rfl
      next hnot => exact absurd hdup hnot

theorem noReplay : NoReplay := by
  intro d e k p q ht
  obtain ⟨c, x, hx, hhigh, hwindow⟩ := Dev.flintIn_takes ht
  refine Dev.flintIn_replayed hx ?_
  rw [hhigh, hwindow, srtpIndex_windowAdd _ _ (beAt_lt _ _ _)]
  exact windowAdd_replayed _ _ _

/-- Settles O39: sealing, the replay window, the index, and a second copy. -/
theorem srtpRules : Obligations.SrtpRules := ⟨sealedOpens, replayWindow, indexEstimate, noReplay⟩

end Sys2Proof.Machine
end

section
/-! Panning (R424 to R428, R436 to R448): O30. -/

namespace Sys2Proof.Machine
open Sys2Proof

variable {b : SpkBank} {o : ObjNum} {x : ObjSet}

/-! ### A stable sort -/

theorem insertBy_perm {α : Type} (lt : α → α → Bool) (x : α) (l : List α) : (insertBy lt x l).Perm (x :: l) := by
  induction l with
  | nil => exact .refl _
  | cons y t ih =>
    rw [insertBy]
    split
    · exact .refl _
    · exact (ih.cons y).trans (.swap x y t)

theorem sortBy_perm {α : Type} (lt : α → α → Bool) (l : List α) : (sortBy lt l).Perm l := by
  suffices h : ∀ (l acc : List α), (l.foldl (fun acc x => insertBy lt x acc) acc).Perm (acc ++ l) from h l []
  intro l
  induction l with
  | nil => exact fun acc => by rw [List.append_nil]; exact .refl _
  | cons x t ih =>
    intro acc
    exact (ih _).trans (((insertBy_perm lt x acc).append_right t).trans List.perm_middle.symm)

theorem mem_sortBy {α : Type} {lt : α → α → Bool} {l : List α} {x : α} : x ∈ sortBy lt l ↔ x ∈ l := (sortBy_perm lt l).mem_iff

/-! ### Triangles (R425 to R427) -/

theorem mem_tails {α : Type} {l t : List α} {a : α} (h : (a, t) ∈ tails l) : a ∈ l ∧ ∀ y ∈ t, y ∈ l := by
  induction l with
  | nil => cases h
  | cons y l ih =>
    rw [tails, List.mem_cons] at h
    rcases h with h | h
    · cases h
      exact ⟨List.mem_cons_self, fun y hy => List.mem_cons_of_mem _ hy⟩
    · exact ⟨List.mem_cons_of_mem _ (ih h).1, fun y hy => List.mem_cons_of_mem _ ((ih h).2 y hy)⟩

/-- The corners of a triangle of the hull are directions of the list. -/
theorem mem_hullOf {dirs : List (Nat × Vec)} {t : (Nat × Nat × Nat) × Vec × Vec} (h : t ∈ hullOf dirs) :
    ∃ e ∈ dirs, ∃ f ∈ dirs, ∃ g ∈ dirs, t.1 = (e.1, f.1, g.1) := by
  obtain ⟨⟨e, l⟩, he, h⟩ := List.mem_flatMap.1 h
  obtain ⟨⟨f, m⟩, hf, h⟩ := List.mem_flatMap.1 h
  obtain ⟨g, hg, h⟩ := List.mem_filterMap.1 h
  obtain ⟨n, -, rfl⟩ := Option.map_eq_some_iff.1 h
  have hin := (mem_tails he).2
  exact ⟨e, (mem_tails he).1, f, hin _ (mem_tails hf).1, g, hin _ ((mem_tails hf).2 _ hg), rfl⟩

/-- The pairs of a planar layout are PANNABLE loudspeakers. -/
theorem mem_planarPairs {e : Nat × Nat} (h : e ∈ (planarPairs b).1) : e.1 ∈ b.pans ∧ e.2 ∈ b.pans := by
  obtain ⟨p, hp, rfl⟩ := List.mem_map.1 (mem_sortBy.1 (List.mem_eraseDups.1 h))
  have h1 := mem_sortBy.1 (List.of_mem_zip hp).1
  have h2 : p.2 ∈ b.pans := by
    rcases List.mem_append.1 (List.of_mem_zip hp).2 with h | h
    · exact mem_sortBy.1 (List.mem_of_mem_drop h)
    · exact mem_sortBy.1 (List.mem_of_mem_take h)
  exact ⟨by rcases min_choice p.1 p.2 with hm | hm <;> simpa [hm], by rcases max_choice p.1 p.2 with hm | hm <;> simpa [hm]⟩

theorem trianglesNamed : TrianglesNamed := by
  intro b b' h
  unfold SpkBank.triangulate at h
  dsimp only at h
  split at h
  · split at h
    · cases h
      refine ⟨rfl, rfl, rfl, fun t ht => ?_⟩
      obtain ⟨e, he, rfl⟩ := List.mem_map.1 ht
      exact ⟨⟨.inl (mem_planarPairs he).1, .inl (mem_planarPairs he).2⟩, fun _ => rfl, fun hp => Bool.noConfusion hp⟩
    · cases h
  · split at h
    · cases h
      refine ⟨rfl, rfl, rfl, fun t ht => ?_⟩
      obtain ⟨r, hr, rfl⟩ := List.mem_map.1 ht
      obtain ⟨e, he, f, hf, g, hg, hcorners⟩ := mem_hullOf hr
      have hname : ∀ e ∈ (b.pans ++ b.virtuals).map (fun i => (i, b.dir i)), e.1 ∈ b.pans ∨ e.1 ∈ b.virtuals := fun e he => by
        obtain ⟨i, hi, rfl⟩ := List.mem_map.1 he
        exact List.mem_append.1 hi
      rw [hcorners]
      exact ⟨⟨hname e he, hname f hf⟩, fun hp => Bool.noConfusion hp, fun _ => hname g hg⟩
    · cases h

/-! ### The gains of an object (R446 to R448) -/

/-- Every amount of a list belongs to a loudspeaker of `ok`. -/
def KeysIn (ok : List Nat) (l : List (Nat × Fx)) : Prop := ∀ e ∈ l, e.1 ∈ ok

theorem KeysIn.addAt {ok : List Nat} {l : List (Nat × Fx)} (h : KeysIn ok l) {i : Nat} (hi : i ∈ ok) (v : Fx) : KeysIn ok (addAt l i v) := by
  intro e he
  unfold Machine.addAt at he
  split at he
  · obtain ⟨a, ha, rfl⟩ := List.mem_map.1 he
    split
    · exact hi
    · exact h a ha
  · rcases List.mem_append.1 he with he | he
    · exact h e he
    · rw [List.mem_singleton.1 he]
      exact hi

theorem keysIn_foldl {ok : List Nat} {α : Type} (f : α → Nat) (g : α → Fx) (hf : ∀ e, f e ∈ ok) (l : List α) :
    ∀ {acc : List (Nat × Fx)}, KeysIn ok acc → KeysIn ok (l.foldl (fun acc e => addAt acc (f e) (g e)) acc) := by
  induction l with
  | nil => exact fun h => h
  | cons e l ih => exact fun h => ih (h.addAt (hf e) _)

/-- The loudspeaker nearest to a direction is one of those given. -/
theorem foldl_mem {α : Type} {P : α → α → Prop} [∀ a c, Decidable (P a c)] (l ok : List α) (hl : ∀ a ∈ l, a ∈ ok) :
    ∀ {m : α}, m ∈ ok → l.foldl (fun m j => if P m j then j else m) m ∈ ok := by
  induction l with
  | nil => exact fun hm => hm
  | cons j l ih =>
    intro m hm
    refine ih (fun a ha => hl a (List.mem_cons_of_mem _ ha)) ?_
    show (if P m j then j else m) ∈ ok
    split
    · exact hl j List.mem_cons_self
    · exact hm

theorem headD_mem {ok : List Nat} (h : ok.isEmpty = false) : ok.headD 0 ∈ ok := by
  cases ok with
  | nil => cases h
  | cons a l => exact List.mem_cons_self

theorem SpkBank.powers_allowed (b : SpkBank) (o : ObjNum) (x : ObjSet) : KeysIn (b.allowed x.excl) (b.powers o x) := by
  unfold SpkBank.powers
  extract_lets ok sum nearest kept total best
  split
  · exact fun e he => nomatch he
  next hne =>
    have hok : ok.isEmpty = false := by simpa using hne
    have hnearest : ∀ i, (if ok.contains i then i else nearest i) ∈ ok := fun i => by
      split
      next hi => exact List.contains_iff_mem.1 hi
      next => exact foldl_mem ok ok (fun _ h => h) (headD_mem hok)
    have hkept : KeysIn ok kept := keysIn_foldl (fun e : Nat × Fx => if ok.contains e.1 then e.1 else nearest e.1) (fun e => e.2) (fun e => hnearest e.1) sum
      (fun e he => nomatch he)
    have hbest : ∀ e, best = some e → e.1 ∈ ok := fun e he => hkept e (mem_sortBy.1 (List.mem_of_mem_head? he))
    clear_value best
    split
    · split
      next e =>
        intro a ha
        rw [List.mem_singleton.1 ha]
        exact hbest e rfl
      next => exact fun e he => nomatch he
    · split
      · intro e he
        obtain ⟨i, hi, rfl⟩ := List.mem_map.1 he
        exact hi
      · intro e he
        obtain ⟨a, ha, rfl⟩ := List.mem_map.1 he
        exact hkept a ha

theorem SpkBank.powers_none (h : b.allowed x.excl = []) : b.powers o x = [] := by
  rw [SpkBank.powers, h]
  rfl

theorem SpkBank.powers_snap (h : x.snap = true) : (b.powers o x).length ≤ 1 := by
  unfold SpkBank.powers
  extract_lets ok sum nearest kept total best
  clear_value best
  split
  · exact Nat.zero_le _
  · split
    · exact Nat.le_refl 1
    · exact Nat.zero_le _

theorem objectGains : ObjectGains := by
  intro b o x
  have hgains : ∃ g : Fx → Int, b.gains o x = if !x.enable || x.mute then [] else (b.powers o x).map fun e => (e.1, g e.2) :=
    ⟨fun p => fxRound (fxMul (fxMul (fxRat (linGain o.gain 16) (2 ^ 60)) (if x.dist && decide ((b.refDist : Int) * fxOne < distOf o.x o.y o.z)
      then fxDiv ((b.refDist : Int) * fxOne) (distOf o.x o.y o.z) else fxOne)) (fxSqrt p)) 60, rfl⟩
  obtain ⟨g, hg⟩ := hgains
  rw [hg]
  refine ⟨fun h => if_pos (by rcases h with h | h <;> simp [h]), fun h => ?_, fun e he => ?_, fun h => ?_⟩
  · rw [SpkBank.powers_none h]
    exact ite_self _
  · split at he
    · cases he
    · obtain ⟨a, ha, rfl⟩ := List.mem_map.1 he
      exact b.powers_allowed o x a ha
  · split
    · exact Nat.zero_le _
    · rw [List.length_map]
      exact SpkBank.powers_snap h

/-! ### Interpolation (R437, R438) -/

/-- A field between two values, truncated. -/
theorem tdiv_between {u v lo hi : Int} {m i : Nat} (hm : m ≤ i) (hi0 : 0 < i) (h1 : lo ≤ u) (h2 : u ≤ hi) (h3 : lo ≤ v) (h4 : v ≤ hi) :
    lo ≤ (u * (i : Int) + (v - u) * (m : Int)).tdiv (i : Int) ∧ (u * (i : Int) + (v - u) * (m : Int)).tdiv (i : Int) ≤ hi := by
  have hpos : (0 : Int) < i := by omega
  have hlow : lo * i ≤ u * (i : Int) + (v - u) * (m : Int) := by nlinarith
  have hhigh : u * (i : Int) + (v - u) * (m : Int) ≤ hi * i := by nlinarith
  constructor
  · calc lo = (lo * i).tdiv i := (Int.mul_tdiv_cancel _ (by omega)).symm
      _ ≤ _ := Int.tdiv_le_tdiv hpos hlow
  · calc _ ≤ (hi * i).tdiv i := Int.tdiv_le_tdiv hpos hhigh
      _ = hi := Int.mul_tdiv_cancel _ (by omega)

theorem ObjNum.between_done {a c : ObjNum} {n i : Nat} (h : i ≤ n) : a.between c n i = c := by
  rw [ObjNum.between, if_pos h]

theorem ObjNum.between_same (a : ObjNum) (n i : Nat) : a.between a n i = a := by
  have hfield : ∀ v : Int, ¬ i ≤ n → (v * (i : Int) + (v - v) * ((n : Int) + 1)).tdiv (i : Int) = v := fun v hn => by
    rw [Int.sub_self, Int.zero_mul, Int.add_zero, Int.mul_tdiv_cancel _ (by omega)]
  unfold ObjNum.between
  split
  · rfl
  next hn => simp only [hfield _ hn]

theorem objectInterpolation : ObjectInterpolation := by
  intro a c o t n i x
  refine ⟨ObjNum.between_done, a.between_same n i, fun lo hi h1 h2 h3 h4 => ?_, ?_, rfl, Nat.le_max_left _ _, Nat.le_max_right _ _⟩
  · unfold ObjNum.between
    split
    · exact ⟨h3, h4⟩
    next hn => exact tdiv_between (m := n + 1) (by omega) (by omega) h1 h2 h3 h4
  · rw [RObj.now, if_pos ⟨rfl, Nat.lt_of_lt_of_le (by decide) (Nat.le_max_left 32 i)⟩]
    rfl

/-- Settles O30: triangles, gains and interpolation. -/
theorem panning : Obligations.Panning := ⟨trianglesNamed, objectGains, objectInterpolation⟩

end Sys2Proof.Machine
end

section
/-! The Work Dispatcher (R699 to R711): O47. -/

namespace Sys2Proof.Machine
open Sys2Proof

variable {s : State} {c : HostCmd} {d e f : Dev} {o : OpSpec} {i : Item} {p b : Nat}

/-! ### A command that ends with the present instant -/

/-- An accepted command that ends with OK and the present instant: its change, with the completion posted over it. -/
theorem Accepts.okNow (h : Accepts o c s) {n : Nat} (he : o.effect c s = (s.setDev d, .done .ok n d.short)) (hr : d.ctl.rings = s.dev.ctl.rings)
    (hk : d.clk = s.dev.clk) :
    ∃ e, runCmd o c s = s.setDev e ∧ d.Completed e ∧ Ends (s.setDev e) s c (o.okOr c s) (n % 65536) s.dev.short ∧
      ∀ p b, p ≠ pgObs → b < 4096 → e.counter p b = d.counter p b := by
  have hshort : d.short = s.dev.short := by rw [Dev.short, Dev.now, hk, Dev.short, Dev.now]
  rw [← hshort]
  exact h.okDev he hr hk

theorem Accepts.captured (_h : Accepts o c s) {l : List Byte} (hl : o.capture c s.dev = some l) : o.effect c s = o.run c l (o.token c s) s := by
  rw [OpSpec.effect, hl, Option.getD_some]

/-! ### Work of the Dispatcher -/

/-- Only the domains, the delay lists, the cores that wait for work, and what an event touches may differ. -/
structure Dev.Dispatched (d e : Dev) : Prop where
  noted : Dev.Noted { d with disp := e.disp, garnet := e.garnet } e
  counter : ∀ p b, p ≠ pgErrlog → p ≠ pgDispatch → p ≠ pgObs → b < 4096 → e.counter p b = d.counter p b

theorem Dev.Dispatched.refl (d : Dev) : d.Dispatched d := ⟨Dev.Noted.refl d, fun _ _ _ _ _ _ => rfl⟩
theorem Dev.Dispatched.trans (h : d.Dispatched e) (k : e.Dispatched f) : d.Dispatched f where
  noted := by
    obtain ⟨h, -⟩ := h
    obtain ⟨k, -⟩ := k
    unfold Dev.Noted at *
    rw [k, h]
  counter p b h1 h2 h3 hb := (k.counter p b h1 h2 h3 hb).trans (h.counter p b h1 h2 h3 hb)
theorem Dev.Dispatched.ite {q : Prop} [Decidable q] (h : d.Dispatched e) (k : d.Dispatched f) : d.Dispatched (if q then e else f) := by
  split
  · exact h
  · exact k
theorem Dev.Noted.dispatched (h : d.Noted e) (hc : ∀ p b, p ≠ pgErrlog → p ≠ pgDispatch → p ≠ pgObs → b < 4096 → e.counter p b = d.counter p b) : d.Dispatched e where
  noted := by
    unfold Dev.Noted at *
    rw [h]
  counter := hc
theorem Dev.Dispatched.rings (h : d.Dispatched e) : e.ctl.rings = d.ctl.rings := by rw [h.noted]
theorem Dev.Dispatched.clk (h : d.Dispatched e) : e.clk = d.clk := by rw [h.noted]
theorem Dev.dispatched_foldl {α : Type} (g : Dev → α → Dev) (h : ∀ (d : Dev) (x : α), d.Dispatched (g d x)) (l : List α) (d : Dev) : d.Dispatched (l.foldl g d) := by
  induction l generalizing d with
  | nil => exact .refl d
  | cons x t ih => exact (h d x).trans (ih _)

theorem Dev.inc_dispatched (d : Dev) (o : Nat) (ho : o < 4096) : d.Dispatched (d.inc pgDispatch o) :=
  (d.inc_noted pgDispatch o).dispatched fun _ _ _ hp _ hb => d.counter_inc_of_ne hb ho hp
theorem Dev.itemTrace_dispatched (d : Dev) (ev : Nat) (i : Item) (w : Word) : d.Dispatched (d.itemTrace ev i w) :=
  (d.trace_noted _ _ _ _ _ _).dispatched fun _ _ _ _ hp hb => d.counter_trace _ _ _ _ _ _ hp hb
theorem Dev.raise_dispatched (d : Dev) (q k so co : Nat) (x y : Word) : d.Dispatched (d.raise q k so co x y) :=
  (d.raise_noted q k so co x y).dispatched fun _ _ hp _ _ hb => d.counter_raise q k so co x y hp hb
theorem Dev.setDomain_dispatched (d : Dev) (k : Nat) (x : Domain) : d.Dispatched (d.setDomain k x) := ⟨rfl, fun _ _ _ _ _ _ => rfl⟩
theorem Dev.setGcore_dispatched (d : Dev) (k : Nat) (x : Core) : d.Dispatched (d.setGcore k x) := ⟨rfl, fun _ _ _ _ _ _ => rfl⟩
theorem Dev.lateItem_dispatched (d : Dev) (i : Item) : d.Dispatched (d.lateItem i) := (d.inc_dispatched _ (by decide)).trans (Dev.raise_dispatched _ _ _ _ _ _ _)

theorem Dev.Noted.disp (h : d.Noted e) : e.disp = d.disp := by rw [h]

@[simp] theorem Dev.disp_inc (d : Dev) (p o : Nat) : (d.inc p o).disp = d.disp := rfl
@[simp] theorem Dev.disp_itemTrace (d : Dev) (ev : Nat) (i : Item) (w : Word) : (d.itemTrace ev i w).disp = d.disp := (d.trace_noted _ _ _ _ _ _).disp
@[simp] theorem Dev.now_itemTrace (d : Dev) (ev : Nat) (i : Item) (w : Word) : (d.itemTrace ev i w).now = d.now := (d.trace_noted _ _ _ _ _ _).now
@[simp] theorem Dev.disp_lateItem (d : Dev) (i : Item) : (d.lateItem i).disp = d.disp :=
  ((d.inc_noted pgDispatch 0x070).trans (Dev.raise_noted _ pgDispatch 2 0x003 0x0D13 (fmk 0 64 i.domain) 0)).disp

/-! ### An item that arrives (R700) -/

/-- A domain with an item waiting last. -/
def Domain.take (x : Domain) (i : Item) : Domain :=
  { x with waiting := x.waiting ++ [(x.arrivals, { i with seq := x.arrivals % 65536 })], arrivals := x.arrivals + 1 }

theorem Dev.disp_wake (l : List Nat) (d : Dev) : (l.foldl (fun (d : Dev) c => d.setGcore c { d.gcore c with irq := (d.gcore c).irq ||| 1 }) d).disp = d.disp := by
  induction l generalizing d with
  | nil => rfl
  | cons k t ih => exact (ih _).trans rfl

theorem Dev.counter_wake (l : List Nat) (d : Dev) (p b : Nat) :
    (l.foldl (fun (d : Dev) c => d.setGcore c { d.gcore c with irq := (d.gcore c).irq ||| 1 }) d).counter p b = d.counter p b := by
  induction l generalizing d with
  | nil => rfl
  | cons k t ih => exact (ih _).trans rfl

theorem Dev.arrive_dispatched (d : Dev) (i : Item) : d.Dispatched (d.arrive i) :=
  ((Dev.Dispatched.ite (d.inc_dispatched _ (by decide)) (.refl d)).trans (Dev.setDomain_dispatched _ _ _)).trans
    (Dev.dispatched_foldl _ (fun d k => d.setGcore_dispatched k _) _ _)

theorem Dev.disp_arrive (d : Dev) (i : Item) : (d.arrive i).disp = { d.disp with domains := tabPutD {} d.disp.domains i.domain ((d.domain i.domain).take i) } := by
  unfold Dev.arrive
  dsimp only
  rw [Dev.disp_wake]
  split
  · rfl
  · rfl

theorem Dev.domain_arrive (d : Dev) (i : Item) (k : Nat) : (d.arrive i).domain k = if k = i.domain then (d.domain i.domain).take i else d.domain k := by
  rw [Dev.domain, Dev.disp_arrive]
  exact tabGetD_tabPutD _ _ _ _ _

/-- An arrival counts at the offset of a spilled item alone. -/
theorem Dev.counter_arrive (d : Dev) (i : Item) (hb : b < 4096) (h78 : b ≠ 0x078) : (d.arrive i).counter p b = d.counter p b := by
  unfold Dev.arrive
  dsimp only
  rw [Dev.counter_wake]
  split
  · exact (Dev.counter_bump _ _ _ _ _ _).trans (if_neg fun hk => h78 ((regKey_inj hb (by decide)).1 hk).2)
  · rfl

/-! ### Accepted items (R700, R709) -/

theorem Dev.acceptItem_dispatched (d : Dev) (i : Item) : d.Dispatched (d.acceptItem i) := by
  have hin := (d.inc_dispatched 0x058 (by decide)).trans (Dev.itemTrace_dispatched _ 0x0001 i i.payload)
  unfold Dev.acceptItem
  exact hin.trans (.ite (.ite ((Dev.lateItem_dispatched _ i).trans (Dev.arrive_dispatched _ i)) ⟨rfl, fun _ _ _ _ _ _ => rfl⟩) (Dev.arrive_dispatched _ i))

/-- ACCEPTED counts each item. -/
theorem Dev.counter_acceptItem (d : Dev) (i : Item) : (d.acceptItem i).counter pgDispatch 0x058 = d.counter pgDispatch 0x058 + 1 := by
  have hin : ((d.inc pgDispatch 0x058).itemTrace 0x0001 i i.payload).counter pgDispatch 0x058 = d.counter pgDispatch 0x058 + 1 :=
    (Dev.counter_trace _ _ _ _ _ _ _ (by decide) (by decide)).trans (d.counter_inc_same _ _)
  have hlate : ∀ x : Dev, (x.lateItem i).counter pgDispatch 0x058 = x.counter pgDispatch 0x058 := fun x => by
    rw [Dev.lateItem, Dev.counter_raise _ _ _ _ _ _ _ (by decide) (by decide), Dev.inc, Dev.counter_bump, if_neg (by decide)]
  rw [← hin, Dev.acceptItem]
  dsimp only
  split
  · split
    · rw [Dev.counter_arrive _ _ (by decide) (by decide), hlate]
    · rfl
  · exact Dev.counter_arrive _ _ (by decide) (by decide)

theorem Dev.counter_acceptItems (l : List (List Byte)) (d : Dev) :
    (l.foldl (fun (d : Dev) b => d.acceptItem (itemParse b)) d).counter pgDispatch 0x058 = d.counter pgDispatch 0x058 + BitVec.ofNat 64 l.length := by
  induction l generalizing d with
  | nil => simp
  | cons b t ih =>
    rw [List.foldl_cons, ih, Dev.counter_acceptItem, List.length_cons, BitVec.ofNat_add, BitVec.add_assoc, BitVec.add_comm (BitVec.ofNat 64 t.length)]
    rfl

theorem Dev.acceptItem_arrives (d : Dev) (h : i.flags % 2 = 0) : (d.acceptItem i).disp.delay = d.disp.delay ∧
    ∀ k, (d.acceptItem i).domain k = if k = i.domain then (d.domain i.domain).take i else d.domain k := by
  have hdisp : ((d.inc pgDispatch 0x058).itemTrace 0x0001 i i.payload).disp = d.disp := by rw [Dev.disp_itemTrace, Dev.disp_inc]
  have hdomain : ∀ k, ((d.inc pgDispatch 0x058).itemTrace 0x0001 i i.payload).domain k = d.domain k := fun k => by rw [Dev.domain, hdisp, Dev.domain]
  rw [Dev.acceptItem]
  dsimp only
  rw [if_neg (by omega)]
  refine ⟨by rw [Dev.disp_arrive, hdisp], fun k => ?_⟩
  rw [Dev.domain_arrive, hdomain, hdomain]

theorem Dev.acceptItem_waits (d : Dev) (h : i.flags % 2 = 1) (ht : d.now < d.itemTime i) :
    (d.acceptItem i).disp = { d.disp with delay := d.disp.delay ++ [(d.itemTime i, i)] } := by
  have hnow : ((d.inc pgDispatch 0x058).itemTrace 0x0001 i i.payload).now = d.now := by rw [Dev.now_itemTrace, Dev.now_inc]
  rw [Dev.acceptItem]
  dsimp only
  rw [if_pos h, Dev.itemTime, hnow, ← Dev.itemTime, if_neg (Nat.not_le.2 ht), Dev.disp_itemTrace, Dev.disp_inc]

/-! ### The commands -/

theorem Accepts.domainSet (h : Accepts domainSetSpec c s) : ∃ u, exec (.domainSet c) s = .next u ∧ Ends u s c (domainSetSpec.okOr c s) 0 s.dev.short ∧
    u.dev.domain (c.arg 0 2) = { s.dev.domain (c.arg 0 2) with realm := c.arg 2 1, ordered := c.arg 3 1 == 1 } ∧ ∀ k, k ≠ c.arg 0 2 → u.dev.domain k = s.dev.domain k := by
  obtain ⟨e, hu, hdone, hends, -⟩ := h.okNow
    (d := s.dev.setDomain (c.arg 0 2) { s.dev.domain (c.arg 0 2) with realm := c.arg 2 1, ordered := c.arg 3 1 == 1 }) (n := 0) rfl rfl rfl
  have hdomain : ∀ k, e.domain k = (s.dev.setDomain (c.arg 0 2) { s.dev.domain (c.arg 0 2) with realm := c.arg 2 1, ordered := c.arg 3 1 == 1 }).domain k := fun k => by
    rw [Dev.domain, hdone]
    rfl
  refine ⟨_, congrArg Host.Outcome.next hu, hends, ?_, fun k hk => ?_⟩
  · rw [State.setDev_dev, hdomain, Dev.domain_setDomain, if_pos rfl]
  · rw [State.setDev_dev, hdomain, Dev.domain_setDomain, if_neg hk]

theorem Dev.Completed.disp (h : d.Completed e) : e.disp = d.disp := by rw [h]
theorem Dev.Completed.domain (h : d.Completed e) (k : Nat) : e.domain k = d.domain k := by rw [Dev.domain, h.disp, Dev.domain]

/-- The items of a submission accepted. -/
theorem Accepts.submitted (h : Accepts dispSubmitSpec c s) (l : List Byte) (hl : dispSubmitSpec.capture c s.dev = some l) :
    ∃ e, exec (.dispSubmit c) s = .next (s.setDev e) ∧ ((submitItems c l).foldl (fun (d : Dev) b => d.acceptItem (itemParse b)) s.dev).Completed e ∧
      Ends (s.setDev e) s c (dispSubmitSpec.okOr c s) (c.arg 0 2) s.dev.short ∧
      e.counter pgDispatch 0x058 = s.dev.counter pgDispatch 0x058 + BitVec.ofNat 64 (c.arg 0 2) := by
  have hwork := Dev.dispatched_foldl (fun (d : Dev) b => d.acceptItem (itemParse b)) (fun d b => d.acceptItem_dispatched _) (submitItems c l) s.dev
  obtain ⟨e, hu, hdone, hends, hcount⟩ := h.okNow (d := (submitItems c l).foldl (fun (d : Dev) b => d.acceptItem (itemParse b)) s.dev)
    (n := c.arg 0 2) (h.captured hl) hwork.rings hwork.clk
  have harg : c.arg 0 2 % 65536 = c.arg 0 2 := Nat.mod_eq_of_lt (Nat.mod_lt _ (by decide))
  rw [harg] at hends
  refine ⟨e, congrArg Host.Outcome.next hu, hdone, hends, ?_⟩
  rw [hcount _ _ (by decide) (by decide), Dev.counter_acceptItems, submitItems, List.length_map, List.length_range]

/-- The fields of an item lie in its 32 bytes. -/
theorem itemParse_take (l : List Byte) : itemParse ((l.drop (32 * 0)).take 32) = itemParse l := by
  have hat : ∀ o n, o + n ≤ 32 → leAt ((l.drop (32 * 0)).take 32) o n = leAt l o n := fun o n h => by
    rw [leAt, leAt, Nat.mul_zero, List.drop_zero, List.drop_take, List.take_take, Nat.min_eq_left (by omega)]
  simp only [itemParse, hat 0 2 (by decide), hat 2 1 (by decide), hat 3 1 (by decide), hat 4 2 (by decide), hat 8 8 (by decide), hat 16 8 (by decide), hat 24 8 (by decide)]

theorem Accepts.submitsOne (h : Accepts dispSubmitSpec c s) {l : List Byte} (hone : c.arg 0 2 = 1) (hl : capturePinned s.dev c.realm (c.arg 8 8) 32 = some l) :
    ∃ e, exec (.dispSubmit c) s = .next (s.setDev e) ∧ (s.dev.acceptItem (itemParse l)).Completed e := by
  have hcap : dispSubmitSpec.capture c s.dev = some l := by
    show (if c.arg 0 2 = 0 ∨ 256 < c.arg 0 2 then some [] else capturePinned s.dev c.realm (c.arg 8 8) (32 * c.arg 0 2)) = some l
    rw [hone, if_neg (by decide)]
    exact hl
  obtain ⟨e, hu, hdone, -⟩ := h.submitted l hcap
  have hitems : submitItems c l = [(l.drop (32 * 0)).take 32] := by
    rw [submitItems, hone]
    rfl
  rw [hitems, List.foldl_cons, List.foldl_nil, itemParse_take] at hdone
  exact ⟨e, hu, hdone⟩

/-! ### A flush (R708) -/

theorem Dev.releaseHeld_dispatched (d : Dev) (k : Nat) : d.Dispatched (d.releaseHeld k) :=
  (d.setDomain_dispatched k _).trans (Dev.dispatched_foldl _ (fun d _ => Dev.dispatched_foldl _ (fun d i => d.acceptItem_dispatched i) _ d) _ _)

/-- With no item in service no item is held. -/
theorem Dev.releaseHeld_none (d : Dev) (k : Nat) (h : (d.domain k).service = []) : d.releaseHeld k = d.setDomain k (d.domain k) := by
  have hx : ({ d.domain k with service := [] } : Domain) = d.domain k := by rw [← h]
  unfold Dev.releaseHeld
  dsimp only
  rw [h, List.filter_nil, List.filter_nil, sortBy, List.foldl_nil, List.foldl_nil, hx]

theorem Accepts.flush (h : Accepts dispFlushSpec c s) :
    ∃ u, exec (.dispFlush c) s = .next u ∧ Ends u s c (dispFlushSpec.okOr c s) (min 65535 (s.dev.domain (c.arg 0 2)).waiting.length) s.dev.short ∧
      ((s.dev.domain (c.arg 0 2)).service = [] → u.dev.domain (c.arg 0 2) = { s.dev.domain (c.arg 0 2) with waiting := [] } ∧
        ∀ k, k ≠ c.arg 0 2 → u.dev.domain k = s.dev.domain k) := by
  have hwork := (s.dev.setDomain_dispatched (c.arg 0 2) { s.dev.domain (c.arg 0 2) with waiting := [] }).trans (Dev.releaseHeld_dispatched _ (c.arg 0 2))
  obtain ⟨e, hu, hdone, hends, -⟩ := h.okNow
    (d := (s.dev.setDomain (c.arg 0 2) { s.dev.domain (c.arg 0 2) with waiting := [] }).releaseHeld (c.arg 0 2))
    (n := min 65535 (s.dev.domain (c.arg 0 2)).waiting.length) rfl hwork.rings hwork.clk
  rw [Nat.mod_eq_of_lt (by omega)] at hends
  refine ⟨_, congrArg Host.Outcome.next hu, hends, fun hservice => ?_⟩
  rw [Dev.releaseHeld_none _ _ (by rw [Dev.domain_setDomain, if_pos rfl]; exact hservice)] at hdone
  refine ⟨?_, fun k hk => ?_⟩
  · rw [State.setDev_dev, hdone.domain, Dev.domain_setDomain, if_pos rfl, Dev.domain_setDomain, if_pos rfl]
  · rw [State.setDev_dev, hdone.domain, Dev.domain_setDomain, if_neg hk, Dev.domain_setDomain, if_neg hk]

/-! ### Items of a delay list (R709) -/

theorem Dev.releaseDue_one {t x : Time} (hd : d.disp.delay = [(t, i)]) (ht : t ≤ x) : (d.releaseDue x false).disp.delay = [] ∧
    (d.releaseDue x false).domain i.domain = (d.domain i.domain).take i ∧ (d.releaseDue x false).counter pgDispatch 0x068 = d.counter pgDispatch 0x068 + 1 := by
  have hone : d.releaseDue x false = ((({ d with disp := { d.disp with delay := [] } } : Dev).inc pgDispatch 0x068).itemTrace 0x0004 i i.time).arrive i := by
    unfold Dev.releaseDue
    rw [hd]
    simp only [List.filter_cons, decide_eq_true ht, if_true, List.filter_nil, Bool.not_true, Bool.false_eq_true, if_false]
    rfl
  rw [hone]
  refine ⟨?_, ?_, ?_⟩
  · rw [Dev.disp_arrive, Dev.disp_itemTrace, Dev.disp_inc]
  · rw [Dev.domain_arrive, if_pos rfl, Dev.domain, Dev.disp_itemTrace, Dev.disp_inc]
    rfl
  · rw [Dev.counter_arrive _ _ (by decide) (by decide), Dev.itemTrace, Dev.counter_trace _ _ _ _ _ _ _ (by decide) (by decide), Dev.counter_inc_same]
    rfl

theorem Dev.releaseDue_none {x : Time} (h : ∀ e ∈ d.disp.delay, x < e.1) : d.releaseDue x false = d := by
  have hdue : d.disp.delay.filter (fun e => decide (e.1 ≤ x)) = [] := List.filter_eq_nil_iff.2 fun e he => by simpa using h e he
  have hkept : d.disp.delay.filter (fun e => !decide (e.1 ≤ x)) = d.disp.delay := List.filter_eq_self.2 fun e he => by simpa using h e he
  unfold Dev.releaseDue
  rw [hdue, hkept]
  rfl

theorem dispatcherCommands : DispatcherCommands := by
  intro s c
  refine ⟨fun h => h.domainSet, fun h => ⟨?_, fun l i hone hl hi => ⟨fun hflag => ?_, fun hflag ht => ?_⟩⟩, fun h => ?_, fun h => h.flush, fun t i hready hd ht => ?_, fun hready hnone => ?_⟩
  · obtain ⟨l, hl, -⟩ := h.verdict
    obtain ⟨e, hu, -, hends, hcount⟩ := h.submitted l hl
    exact ⟨_, hu, hends, hcount⟩
  · obtain ⟨e, hu, hdone⟩ := h.submitsOne hone hl
    rw [hi] at hdone
    obtain ⟨hdelay, hdomain⟩ := s.dev.acceptItem_arrives hflag
    refine ⟨_, hu, ?_, fun k hk => ?_, ?_⟩
    · rw [State.setDev_dev, hdone.domain, hdomain, if_pos rfl]
      rfl
    · rw [State.setDev_dev, hdone.domain, hdomain, if_neg hk]
    · rw [State.setDev_dev, hdone.disp, hdelay]
  · obtain ⟨e, hu, hdone⟩ := h.submitsOne hone hl
    rw [hi] at hdone
    have hdisp := s.dev.acceptItem_waits hflag ht
    refine ⟨_, hu, ?_, ?_⟩
    · rw [State.setDev_dev, hdone.disp, hdisp]
    · rw [State.setDev_dev, hdone.disp, hdisp]
  · obtain ⟨u, hu, hkept, hends⟩ := h.query (n := (s.dev.domain (c.arg 0 2)).code) rfl
    have hcode : (s.dev.domain (c.arg 0 2)).code < 65536 := by
      unfold Domain.code
      split
      · decide
      · split <;> decide
    rw [Nat.mod_eq_of_lt hcode] at hends
    exact ⟨u, congrArg Host.Outcome.next hu, hkept, hends⟩
  · obtain ⟨hdelay, hdomain, hcount⟩ := Dev.releaseDue_one hd ht
    refine exec_ready_spec (f := fun d => d.releaseDue (d.now / usT * usT) false) rfl hready ⟨hdelay, ?_, hcount⟩
    rw [State.setDev_dev, hdomain]
    rfl
  · rw [exec_actReady (f := fun d => d.releaseDue (d.now / usT * usT) false) rfl hready, Dev.releaseDue_none hnone]

/-! ### The item a domain gives next (R703, R704) -/

theorem insertBy_sorted {α : Type} (g : α → Nat) (x : α) (l : List α) (h : l.Pairwise fun a b => g a ≤ g b) :
    (insertBy (fun a b => decide (g a < g b)) x l).Pairwise fun a b => g a ≤ g b := by
  induction l with
  | nil => exact List.pairwise_singleton _ _
  | cons y t ih =>
    obtain ⟨hy, ht⟩ := List.pairwise_cons.1 h
    rw [insertBy]
    split
    next hlt =>
      have hxy : g x < g y := of_decide_eq_true hlt
      refine List.pairwise_cons.2 ⟨fun a ha => ?_, h⟩
      rcases List.mem_cons.1 ha with rfl | ha
      · exact Nat.le_of_lt hxy
      · exact Nat.le_trans (Nat.le_of_lt hxy) (hy a ha)
    next hle =>
      have hyx : g y ≤ g x := by simpa using hle
      refine List.pairwise_cons.2 ⟨fun a ha => ?_, ih ht⟩
      rcases List.mem_cons.1 ((insertBy_perm _ x t).mem_iff.1 ha) with rfl | ha
      · exact hyx
      · exact hy a ha

theorem sortBy_sorted {α : Type} (g : α → Nat) (l : List α) : (sortBy (fun a b => decide (g a < g b)) l).Pairwise fun a b => g a ≤ g b := by
  suffices h : ∀ (l acc : List α), acc.Pairwise (fun a b => g a ≤ g b) →
      (l.foldl (fun acc x => insertBy (fun a b => decide (g a < g b)) x acc) acc).Pairwise fun a b => g a ≤ g b from h l [] .nil
  intro l
  induction l with
  | nil => exact fun acc h => h
  | cons x t ih => exact fun acc h => ih _ (insertBy_sorted g x acc h)

/-- The first of a sorted list is as low as any. -/
theorem head_sortBy_le {α : Type} {g : α → Nat} {l : List α} {x : α} (h : (sortBy (fun a b => decide (g a < g b)) l).head? = some x) : x ∈ l ∧ ∀ y ∈ l, g x ≤ g y := by
  refine ⟨mem_sortBy.1 (List.mem_of_mem_head? h), fun y hy => ?_⟩
  have hsorted := sortBy_sorted g l
  obtain ⟨t, ht⟩ := List.head?_eq_some_iff.1 h
  have hin : y ∈ sortBy (fun a b => decide (g a < g b)) l := mem_sortBy.2 hy
  rw [ht] at hsorted hin
  rcases List.mem_cons.1 hin with rfl | hin
  · exact Nat.le_refl _
  · exact (List.pairwise_cons.1 hsorted).1 y hin

theorem domainOrder : DomainOrder := by
  intro x e h
  unfold Domain.next at h
  split at h
  next hord =>
    obtain ⟨hin, hle⟩ := head_sortBy_le (g := fun a : Nat × Item => a.2.prio) h
    exact ⟨hin, fun _ => hle, fun hno => absurd hord (ne_true_of_eq_false hno)⟩
  next hord =>
    split at h
    next hfree => exact ⟨List.mem_of_mem_head? h, fun hyes => absurd hyes hord, fun _ => ⟨h, List.isEmpty_iff.1 hfree⟩⟩
    next => cases h

/-- Settles O47: the Dispatcher's commands, and the order in which a domain gives its items. -/
theorem workDispatcher : Obligations.WorkDispatcher := ⟨dispatcherCommands, domainOrder⟩

end Sys2Proof.Machine
end

section
/-! TDM ports (R403 to R408, R414, R415): O28. -/

namespace Sys2Proof.Machine
open Sys2Proof

variable {s : State} {d e : Dev} {p q fs n : Nat} {codes : List Int} {v w : Word}

/-! ### The configuration of a port (R408, R414) -/

theorem tdm_cfg : ∀ j : Fin 4, ∃ g, PType.tdm.regAt (0x100 + 0x40 * j.val) = some g ∧ g.rws = false ∧ FieldsApart g.flds ∧ (⟨0, 1, .rw, 0, .any⟩ : Fld) ∈ g.flds := by
  intro j
  fin_cases j
  all_goals exact ⟨_, rfl, rfl, by unfold FieldsApart; decide, by decide⟩

theorem pageType_tdm (h : p < 32) : pageType (pgTdm p) = some .tdm ∧ pageInst (pgTdm p) = p / 4 := by
  have hpage : ∀ k : Fin 8, pageType (21 + k.val) = some .tdm ∧ pageInst (21 + k.val) = k.val := by decide
  exact hpage ⟨p / 4, by omega⟩

theorem tdmOff_lt (p o : Nat) (h : o < 0x40) : tdmOff p o < 4096 := by
  unfold tdmOff
  omega

theorem tdm_key (h : q ≠ p) : regKey (pgTdm q) (tdmOff q 0) ≠ regKey (pgTdm p) (tdmOff p 0) := by
  unfold regKey pgTdm tdmOff
  omega

theorem Dev.Noted.tdmCfg (h : d.Noted e) (q : Nat) : e.tdmCfg q = d.tdmCfg q := h.reg _ _
theorem Dev.Noted.audio (h : d.Noted e) : e.audio = d.audio := by rw [h]
theorem Dev.Noted.tdm (h : d.Noted e) (q : Nat) : e.tdm q = d.tdm q := by rw [Dev.tdm, h.audio, Dev.tdm]
theorem Dev.Noted.pair_eq (h : d.Noted e) : e.pair = d.pair := by rw [h]
theorem Dev.Noted.slotsUsed (h : d.Noted e) : e.slotsUsed = d.slotsUsed := by
  unfold Dev.slotsUsed Dev.tdmOn Dev.tdmSlots
  simp only [h.tdmCfg]

@[simp] theorem Dev.tdmCfg_setTdm (d : Dev) (p q : Nat) (t : TdmPort) : (d.setTdm p t).tdmCfg q = d.tdmCfg q := rfl

theorem Dev.tdmCfg_setReg (d : Dev) (p : Nat) (w : Word) : (d.setReg (pgTdm p) (tdmOff p 0) w).tdmCfg p = w ∧
    ∀ q, q ≠ p → (d.setReg (pgTdm p) (tdmOff p 0) w).tdmCfg q = d.tdmCfg q :=
  ⟨by rw [Dev.tdmCfg, Dev.reg_setReg, if_pos rfl], fun q hq => by rw [Dev.tdmCfg, Dev.reg_setReg, if_neg (tdm_key hq), Dev.tdmCfg]⟩

/-- What a write gives the configuration of a disabled port: SLOTS held to what a frame has. -/
def tdmWord (m : Word) : Word := if slotLimit (bit m 3) < fld m 4 6 then setFld m 4 6 (slotLimit (bit m 3)) else m

theorem tdmWord_enable (m : Word) : bit (tdmWord m) 0 = bit m 0 := by
  unfold tdmWord
  split
  · exact bit_setFld_apart _ _ (by decide) (by decide)
  · rfl

theorem tdmWord_slots (m : Word) : fld (tdmWord m) 4 6 ≤ slotLimit (bit (tdmWord m) 3) := by
  have hlim : ∀ b, slotLimit b < 64 := by decide
  unfold tdmWord
  split
  · rw [fld_setFld_same _ _ (by decide), bit_setFld_apart _ _ (by decide) (by decide)]
    exact Nat.le_of_eq (Nat.mod_eq_of_lt (hlim _))
  next h => exact Nat.not_lt.1 h

/-- CFG written while the port is enabled. -/
theorem Dev.tdmCfgWrite_on (d : Dev) (v : Word) (hon : d.tdmOn p = true) : ∃ x : Dev, d.Noted x ∧
    d.tdmCfgWrite p v = if bit v 0 then x else (x.setReg (pgTdm p) (tdmOff p 0) (setFld (d.tdmCfg p) 0 1 0)).setTdm p {} := by
  have hnoted : ∀ (es : List ErrCode) (b : Prop) [Decidable b], d.Noted (if b then d.errs (pgTdm p) es else (d.errs (pgTdm p) es).err (pgTdm p) .badState) := fun es b _ =>
    .ite (Dev.errs_noted _ _ _) ((Dev.errs_noted _ _ _).trans (Dev.err_noted _ _ _))
  have hbit : bit (d.reg (pgTdm p) (tdmOff p 0)) 0 = true := hon
  unfold Dev.tdmCfgWrite
  dsimp only
  rw [if_pos hbit]
  exact ⟨_, hnoted _ _, rfl⟩

/-- CFG written while the port is disabled. -/
theorem Dev.tdmCfgWrite_off (d : Dev) (v : Word) (hoff : d.tdmOn p = false) : ∃ x : Dev, d.Noted x ∧
    d.tdmCfgWrite p v = if bit (tdmWord (d.mergeAt (pgTdm p) (tdmOff p 0) v).1) 0 && decide (512 < d.slotsUsed + fld (tdmWord (d.mergeAt (pgTdm p) (tdmOff p 0) v).1) 4 6)
      then (x.setReg (pgTdm p) (tdmOff p 0) (setFld (tdmWord (d.mergeAt (pgTdm p) (tdmOff p 0) v).1) 0 1 0)).err (pgTdm p) .badState
      else (x.setReg (pgTdm p) (tdmOff p 0) (tdmWord (d.mergeAt (pgTdm p) (tdmOff p 0) v).1)).setTdm p {} := by
  have hbit : ¬ bit (d.reg (pgTdm p) (tdmOff p 0)) 0 = true := ne_true_of_eq_false hoff
  unfold Dev.tdmCfgWrite
  dsimp only
  simp only [decide_eq_true_eq]
  rw [if_neg hbit, (Dev.errs_noted d _ _).slotsUsed]
  exact ⟨_, Dev.errs_noted _ _ _, rfl⟩

theorem Dev.tdmCfgWrite_pair (d : Dev) (p : Nat) (v : Word) : (d.tdmCfgWrite p v).pair = d.pair := by
  cases hon : d.tdmOn p
  · obtain ⟨x, hx, he⟩ := d.tdmCfgWrite_off v hon
    rw [he]
    split
    · exact hx.pair_eq
    · exact hx.pair_eq
  · obtain ⟨x, hx, he⟩ := d.tdmCfgWrite_on v hon
    rw [he]
    split
    · exact hx.pair_eq
    · exact hx.pair_eq

theorem Writable.tdmCfg (h : Writable s (pgTdm p)) (hp : p < 32) (v : Word) : exec (.tdmCfgWrite p v) s = .next ((s.setDev s.dev).setDev (s.dev.tdmCfgWrite p v)) := by
  obtain ⟨ht, hi⟩ := pageType_tdm hp
  obtain ⟨g, hg, hrws, -, -⟩ := tdm_cfg ⟨p % 4, by omega⟩
  have hlive : (s.setDev s.dev).liveWrite (pgTdm p) .tdm g (0x100 + 0x40 * (p % 4)) v = (s.setDev s.dev).onDev fun d => d.tdmCfgWrite p v := by
    have hport : 4 * (p / 4) + (0x100 + 0x40 * (p % 4) - 0x100) / 0x40 = p := by omega
    simp only [State.liveWrite, hi, hport]
    rw [if_pos (by omega)]
  exact congrArg Host.Outcome.next ((if_pos hp).trans (h.hostWrite_live ht hg hrws (by omega) (by omega) (by omega) hlive (s.dev.tdmCfgWrite_pair p v)))

/-- ENABLE of the word that a disabled port takes. -/
theorem Dev.tdmMerge_enable (d : Dev) (hp : p < 32) (v : Word) : bit (d.mergeAt (pgTdm p) (tdmOff p 0) v).1 0 = bit v 0 := by
  obtain ⟨g, hg, -, hapart, hin⟩ := tdm_cfg ⟨p % 4, by omega⟩
  have hm := mergeAt_of_regAt (pageType_tdm hp).1 hg d v
  rw [show tdmOff p 0 = 0x100 + 0x40 * (p % 4) from rfl, hm, bit_mergeFields_any hapart hin]

theorem Writable.tdm_enables (h : Writable s (pgTdm p)) (hp : p < 32) (hoff : s.dev.tdmOn p = false) (hv : bit v 0 = true) : ∃ u, exec (.tdmCfgWrite p v) s = .next u ∧
    u.dev.tdmOn p = decide (s.dev.slotsUsed + u.dev.tdmSlots p ≤ 512) ∧ u.dev.tdmSlots p ≤ slotLimit (u.dev.tdm96 p) ∧
    ∀ q, q < 32 → q ≠ p → u.dev.tdmCfg q = s.dev.tdmCfg q := by
  refine ⟨_, h.tdmCfg hp v, ?_⟩
  rw [State.setDev_dev]
  obtain ⟨x, hx, he⟩ := s.dev.tdmCfgWrite_off v hoff
  have hslots := tdmWord_slots (s.dev.mergeAt (pgTdm p) (tdmOff p 0) v).1
  have hon : bit (tdmWord (s.dev.mergeAt (pgTdm p) (tdmOff p 0) v).1) 0 = true := by rw [tdmWord_enable, Dev.tdmMerge_enable _ hp, hv]
  generalize tdmWord (s.dev.mergeAt (pgTdm p) (tdmOff p 0) v).1 = w at hslots hon he
  rw [he, hon, Bool.true_and]
  unfold Dev.tdmOn Dev.tdmSlots Dev.tdm96
  split
  next hover =>
    obtain ⟨hself, hothers⟩ := x.tdmCfg_setReg p (setFld w 0 1 0)
    have hcfg : ((x.setReg (pgTdm p) (tdmOff p 0) (setFld w 0 1 0)).err (pgTdm p) .badState).tdmCfg p = setFld w 0 1 0 := hself
    rw [hcfg, bit_setFld_self _ _ (by decide), fld_setFld_apart _ _ (by decide) (by decide), bit_setFld_apart _ _ (by decide) (by decide)]
    refine ⟨?_, hslots, fun q _ hq => (hothers q hq).trans (hx.tdmCfg q)⟩
    rw [eq_comm]
    exact decide_eq_false (Nat.not_le.2 (of_decide_eq_true hover))
  next hfits =>
    obtain ⟨hself, hothers⟩ := x.tdmCfg_setReg p w
    rw [Dev.tdmCfg_setTdm, hself, hon]
    refine ⟨?_, hslots, fun q _ hq => (hothers q hq).trans (hx.tdmCfg q)⟩
    rw [eq_comm, decide_eq_true_eq]
    simpa using hfits

theorem Writable.tdm_stays (h : Writable s (pgTdm p)) (hp : p < 32) (hon : s.dev.tdmOn p = true) (hv : bit v 0 = true) :
    ∃ u, exec (.tdmCfgWrite p v) s = .next u ∧ u.dev.tdmCfg p = s.dev.tdmCfg p ∧ u.dev.tdm p = s.dev.tdm p := by
  obtain ⟨x, hx, he⟩ := s.dev.tdmCfgWrite_on v hon
  refine ⟨_, h.tdmCfg hp v, ?_⟩
  rw [State.setDev_dev, he, if_pos hv]
  exact ⟨hx.tdmCfg p, hx.tdm p⟩

theorem Writable.tdm_disables (h : Writable s (pgTdm p)) (hp : p < 32) (hon : s.dev.tdmOn p = true) (hv : bit v 0 = false) :
    ∃ u, exec (.tdmCfgWrite p v) s = .next u ∧ u.dev.tdmCfg p = setFld (s.dev.tdmCfg p) 0 1 0 ∧ u.dev.tdm p = {} := by
  obtain ⟨x, -, he⟩ := s.dev.tdmCfgWrite_on v hon
  refine ⟨_, h.tdmCfg hp v, ?_⟩
  rw [State.setDev_dev, he, if_neg (ne_true_of_eq_false hv)]
  exact ⟨(x.tdmCfg_setReg p _).1, by rw [Dev.tdm_setTdm, if_pos rfl]⟩

/-! ### Frames (R406, R407) -/

/-- Where a frame is placed, the port's lock and its counts of frames stay, and the errors that were counted. -/
theorem Dev.tdmPlace_spec (d : Dev) (p fs : Nat) (codes : List Int) :
    (((d.tdmPlace p fs codes).tdm p).lock = (d.tdm p).lock ∧ ((d.tdmPlace p fs codes).tdm p).good = (d.tdm p).good ∧ ((d.tdmPlace p fs codes).tdm p).wrong = (d.tdm p).wrong) ∧
    (pgTdm p ≠ pgErrlog → (d.tdmPlace p fs codes).counter (pgTdm p) (tdmOff p 0x20) = d.counter (pgTdm p) (tdmOff p 0x20)) := by
  have hset : ∀ t : TdmPort, t.lock = (d.tdm p).lock ∧ t.good = (d.tdm p).good ∧ t.wrong = (d.tdm p).wrong →
      (((d.setTdm p t).tdm p).lock = (d.tdm p).lock ∧ ((d.setTdm p t).tdm p).good = (d.tdm p).good ∧ ((d.setTdm p t).tdm p).wrong = (d.tdm p).wrong) ∧
      (pgTdm p ≠ pgErrlog → (d.setTdm p t).counter (pgTdm p) (tdmOff p 0x20) = d.counter (pgTdm p) (tdmOff p 0x20)) := fun t ht => by
    rw [Dev.tdm_setTdm, if_pos rfl]
    exact ⟨ht, fun _ => rfl⟩
  have hslip : ∀ t : TdmPort, t.lock = (d.tdm p).lock ∧ t.good = (d.tdm p).good ∧ t.wrong = (d.tdm p).wrong →
      ((((d.setTdm p t).tdmSlip p).tdm p).lock = (d.tdm p).lock ∧ (((d.setTdm p t).tdmSlip p).tdm p).good = (d.tdm p).good ∧
        (((d.setTdm p t).tdmSlip p).tdm p).wrong = (d.tdm p).wrong) ∧
      (pgTdm p ≠ pgErrlog → ((d.setTdm p t).tdmSlip p).counter (pgTdm p) (tdmOff p 0x20) = d.counter (pgTdm p) (tdmOff p 0x20)) := fun t ht => by
    have hnoted : (d.setTdm p t).Noted ((d.setTdm p t).tdmSlip p) := (Dev.inc_noted _ _ _).trans (Dev.raise_noted _ _ _ _ _ _ _)
    rw [hnoted.tdm]
    refine ⟨(hset t ht).1, fun hpage => ?_⟩
    rw [Dev.tdmSlip, Dev.tdmEvent, Dev.counter_raise _ _ _ _ _ _ _ hpage (tdmOff_lt p _ (by decide)), Dev.inc, Dev.counter_bump, if_neg]
    · rfl
    · unfold regKey tdmOff
      omega
  unfold Dev.tdmPlace
  dsimp only
  split
  · exact hset _ ⟨rfl, rfl, rfl⟩
  · split
    · exact hset _ ⟨rfl, rfl, rfl⟩
    · split
      · exact hset _ ⟨rfl, rfl, rfl⟩
      · split
        · exact hslip _ ⟨rfl, rfl, rfl⟩
        · exact hslip _ ⟨rfl, rfl, rfl⟩

theorem Dev.tdm_tdmLock (d : Dev) (p : Nat) : ((d.tdmLock p).tdm p).lock = true ∧ ((d.tdmLock p).tdm p).good = 0 ∧ ((d.tdmLock p).tdm p).wrong = 0 ∧
    ((d.tdmLock p).tdm p).next = none := by
  rw [Dev.tdmLock, Dev.tdm_setTdm, if_pos rfl]
  exact ⟨rfl, rfl, rfl, rfl⟩

theorem Dev.tdm_tdmUnlock (d : Dev) (p : Nat) : (d.tdmUnlock p).tdm p = { d.tdm p with lock := false, good := 0, wrong := 0, next := none, held := [], last := [] } := by
  rw [Dev.tdmUnlock, Dev.tdmEvent, (Dev.raise_noted _ _ _ _ _ _ _).tdm, Dev.tdm_setTdm, if_pos rfl]

/-- A frame of the wrong length on a SLAVE port: it counts, and the second takes the lock. -/
def Dev.tdmWrong (d : Dev) (p fs : Nat) (codes : List Int) : Dev :=
  let t := d.tdm p
  let x := ((d.setTdm p { t with good := 0, wrong := t.wrong + 1 }).inc (pgTdm p) (tdmOff p 0x20)).tdmEvent p 0 255
  if !t.lock then x else if 2 ≤ t.wrong + 1 then x.tdmUnlock p else x.tdmPlace p fs codes

theorem Dev.tdmWrong_spec (d : Dev) (hp : p < 32) (fs : Nat) (codes : List Int) : ((d.tdmWrong p fs codes).tdm p).good = 0 ∧
    (d.tdmWrong p fs codes).counter (pgTdm p) (tdmOff p 0x20) = d.counter (pgTdm p) (tdmOff p 0x20) + 1 ∧
    ((d.tdm p).lock = true → (((d.tdmWrong p fs codes).tdm p).lock = false ↔ 1 ≤ (d.tdm p).wrong)) := by
  have hpage : pgTdm p ≠ pgErrlog := by
    unfold pgTdm pgErrlog
    omega
  have hoff := tdmOff_lt p 0x20 (by decide)
  unfold Dev.tdmWrong
  dsimp only
  generalize hx : ((d.setTdm p { d.tdm p with good := 0, wrong := (d.tdm p).wrong + 1 }).inc (pgTdm p) (tdmOff p 0x20)).tdmEvent p 0 255 = x
  have htdm : x.tdm p = { d.tdm p with good := 0, wrong := (d.tdm p).wrong + 1 } := by
    rw [← hx, Dev.tdmEvent, ((Dev.inc_noted _ _ _).trans (Dev.raise_noted _ _ _ _ _ _ _)).tdm, Dev.tdm_setTdm, if_pos rfl]
  have hcount : x.counter (pgTdm p) (tdmOff p 0x20) = d.counter (pgTdm p) (tdmOff p 0x20) + 1 := by
    rw [← hx, Dev.tdmEvent, Dev.counter_raise _ _ _ _ _ _ _ hpage hoff, Dev.counter_inc_same]
    rfl
  obtain ⟨⟨hlock, hgood, -⟩, hplace⟩ := x.tdmPlace_spec p fs codes
  rw [htdm] at hlock hgood
  by_cases hl : (d.tdm p).lock = true
  · rw [hl, if_neg (by decide)]
    split
    · rw [Dev.tdm_tdmUnlock]
      refine ⟨rfl, ?_, fun _ => ⟨fun _ => by omega, fun _ => rfl⟩⟩
      rw [Dev.tdmUnlock, Dev.tdmEvent, Dev.counter_raise _ _ _ _ _ _ _ hpage hoff]
      exact hcount
    · rw [hlock, hgood, hplace hpage, hl]
      exact ⟨rfl, hcount, fun _ => ⟨fun h => Bool.noConfusion h, fun h => by omega⟩⟩
  · rw [if_pos (by simpa using hl), htdm]
    exact ⟨rfl, hcount, fun h => absurd h hl⟩

/-- A frame of the configured length on a SLAVE port: the eighth locks it. -/
def Dev.tdmRight (d : Dev) (p fs : Nat) (codes : List Int) : Dev :=
  let t := d.tdm p
  let x := d.setTdm p { t with good := min 8 (t.good + 1), wrong := 0 }
  if t.lock then x.tdmPlace p fs codes else if 8 ≤ t.good + 1 then (x.tdmLock p).tdmPlace p fs codes else x

theorem Dev.tdmRight_spec (d : Dev) (p fs : Nat) (codes : List Int) : ((d.tdmRight p fs codes).tdm p).wrong = 0 ∧
    (((d.tdmRight p fs codes).tdm p).lock = true ↔ (d.tdm p).lock = true ∨ 7 ≤ (d.tdm p).good) := by
  have htdm : (d.setTdm p { d.tdm p with good := min 8 ((d.tdm p).good + 1), wrong := 0 }).tdm p = { d.tdm p with good := min 8 ((d.tdm p).good + 1), wrong := 0 } := by
    rw [Dev.tdm_setTdm, if_pos rfl]
  unfold Dev.tdmRight
  dsimp only
  generalize d.setTdm p { d.tdm p with good := min 8 ((d.tdm p).good + 1), wrong := 0 } = x at htdm ⊢
  split
  next hl =>
    obtain ⟨⟨hlock, -, hwrong⟩, -⟩ := x.tdmPlace_spec p fs codes
    rw [hlock, hwrong, htdm]
    exact ⟨rfl, fun h => .inl h, fun _ => hl⟩
  next hl =>
    split
    · obtain ⟨⟨hlock, -, hwrong⟩, -⟩ := (x.tdmLock p).tdmPlace_spec p fs codes
      obtain ⟨hlocked, -, hw, -⟩ := x.tdm_tdmLock p
      rw [hlock, hwrong, hlocked, hw]
      exact ⟨rfl, fun _ => .inr (by omega), fun _ => rfl⟩
    · rw [htdm]
      exact ⟨rfl, fun h => .inl h, fun h => h.elim id (fun h => by omega)⟩

theorem exec_tdmFrame (hready : s.ready = true) : exec (.tdmFrame p fs n codes) s = .next (s.setDev
    (if 32 ≤ p ∨ s.dev.tdmOn p = false ∨ s.dev.tdmSlave p = false then s.dev
     else if n = 32 * s.dev.tdmSlots p then s.dev.tdmRight p fs codes else s.dev.tdmWrong p fs codes)) :=
  congrArg Host.Outcome.next (State.actReady_ready _ hready)

theorem exec_tdmFrame_slave (hready : s.ready = true) (hp : p < 32) (hon : s.dev.tdmOn p = true) (hslave : s.dev.tdmSlave p = true) :
    exec (.tdmFrame p fs n codes) s = .next (s.setDev (if n = 32 * s.dev.tdmSlots p then s.dev.tdmRight p fs codes else s.dev.tdmWrong p fs codes)) := by
  rw [exec_tdmFrame hready, if_neg]
  simp only [hon, hslave, not_or]
  exact ⟨by omega, by decide, by decide⟩

/-- Settles O28: the configuration, the frames, the lock and its loss. -/
theorem tdmPorts : Obligations.TdmPorts := by
  refine ⟨fun s p v hp h => ⟨h.tdm_stays hp, h.tdm_disables hp, h.tdm_enables hp⟩, fun s p fs n codes hready hp hon hslave => ⟨fun hn => ?_, fun hn => ?_⟩,
    fun s p fs n codes hready => ⟨fun hnone => ?_, exec_actReady rfl hready, exec_actReady rfl hready⟩, fun s p hready hon hslave => ⟨fun hlock hgood => ?_, fun hlock hwrong => ?_⟩⟩
  · rw [exec_tdmFrame_slave hready hp hon hslave, if_neg hn]
    exact ⟨_, rfl, s.dev.tdmWrong_spec hp fs codes⟩
  · rw [exec_tdmFrame_slave hready hp hon hslave, if_pos hn]
    exact ⟨_, rfl, s.dev.tdmRight_spec p fs codes⟩
  · rw [exec_tdmFrame hready, if_pos hnone]
  · refine exec_ready_spec (f := fun d => if d.tdmOn p && d.tdmSlave p && !(d.tdm p).lock && decide (8 ≤ (d.tdm p).good) then d.tdmLock p else d) rfl hready ?_
    rw [State.setDev_dev, hon, hslave, hlock, decide_eq_true hgood, if_pos (by decide)]
    exact ⟨(s.dev.tdm_tdmLock p).1, (s.dev.tdm_tdmLock p).2.2.2⟩
  · refine exec_ready_spec (f := fun d => if d.tdmOn p && d.tdmSlave p && (d.tdm p).lock && decide (2 ≤ (d.tdm p).wrong) then d.tdmUnlock p else d) rfl hready ?_
    rw [State.setDev_dev, hon, hslave, hlock, decide_eq_true hwrong, if_pos (by decide), Dev.tdm_tdmUnlock]
    exact ⟨rfl, rfl, Dev.raise_bit _ _ _ _ _ _ _ (by omega)⟩

end Sys2Proof.Machine
end

section
/-! How a command of its own row ends when its change is followed by an answer of any kind. -/

namespace Sys2Proof.Machine
open Sys2Proof

variable {o : OpSpec} {c : HostCmd} {s : State} {d : Dev} {st : Status} {n : Nat} {v : Word}

/-- An accepted command that its rule ends with OK, whatever it makes of the rings. -/
theorem Accepts.doneDev (h : Accepts o c s) (he : o.effect c s = (s.setDev d, .done .ok n v)) : ∃ e, runCmd o c s = (s.setDev d).setDev e ∧ d.Completed e := by
  refine ⟨_, ?_, d.complete_completed (o.token c s) (o.okOr c s) n v⟩
  rw [h.runs, OpSpec.done, he]
  rfl

/-- An accepted command that its rule ends with another status than OK. -/
theorem Accepts.failsDev (h : Accepts o c s) (he : o.effect c s = (s.setDev d, .done st n v)) (hst : st ≠ .ok) (hr : d.ctl.rings = s.dev.ctl.rings)
    (hk : d.clk = s.dev.clk) :
    ∃ e, runCmd o c s = (s.setDev d).setDev e ∧ d.Posted e ∧ Ends ((s.setDev d).setDev e) s c st (n % 65536) d.freeWord := by
  refine ⟨d.tickFree.complete (o.token c s) st n d.freeWord, ?_, (d.tickFree_told).posted.trans (Dev.complete_posted _ _ _ _ _), ?_⟩
  · rw [h.runs, OpSpec.done, he, answer]
    simp only [hst, if_false]
    rfl
  · exact (ends_complete o (c := c) (s := s) (t := { s.setDev d with dev := d.tickFree }) hr hk st n d.freeWord).1

/-- An accepted command that waits for an event: its change, and the command among those that wait. -/
theorem Accepts.laterDev (h : Accepts o c s) {j x : Nat} (he : o.effect c s = (s.setDev d, .later j x)) :
    ∃ e, runCmd o c s = (s.setDev d).setDev e ∧ (∃ w, e = { d with ctl := { d.ctl with waits := d.ctl.waits ++ [w] } }) ∧ e.waiting o.opcode j = true := by
  have hrun : runCmd o c s = (s.setDev d).setDev { d with ctl := { d.ctl with waits := d.ctl.waits ++ [⟨o.token c s, j, x, d.now, o.isLate c s⟩] } } := by
    rw [h.runs, OpSpec.done, he]
    rfl
  refine ⟨_, hrun, ⟨_, rfl⟩, ?_⟩
  simp [Dev.waiting, OpSpec.token]

end Sys2Proof.Machine
end

section
/-! The commands of queues and gates (Table 11-2): O34. -/

namespace Sys2Proof.Machine
open Sys2Proof

variable {s : State} {c : HostCmd} {d e : Dev} {j k p : Nat} {f : EFrame}

/-! ### What the schedulers touch -/

/-- Only the schedulers and what an event touches may differ. -/
def Dev.EgressWork (d e : Dev) : Prop := Dev.Noted { d with egress := e.egress } e

theorem Dev.EgressWork.refl (d : Dev) : d.EgressWork d := Dev.Noted.refl d
theorem Dev.EgressWork.trans {x : Dev} (h : d.EgressWork e) (k : e.EgressWork x) : d.EgressWork x := by
  unfold Dev.EgressWork Dev.Noted at *
  rw [k, h]
theorem Dev.EgressWork.ite {q : Prop} [Decidable q] {x : Dev} (h : d.EgressWork e) (k : d.EgressWork x) : d.EgressWork (if q then e else x) := by
  split
  · exact h
  · exact k
theorem Dev.Noted.egressWork (h : d.Noted e) : d.EgressWork e := by
  unfold Dev.EgressWork Dev.Noted at *
  rw [h]
theorem Dev.EgressWork.rings (h : d.EgressWork e) : e.ctl.rings = d.ctl.rings := by rw [h]
theorem Dev.EgressWork.clk (h : d.EgressWork e) : e.clk = d.clk := by rw [h]

theorem Dev.setQueue_egressWork (d : Dev) (k : Nat) (q : Queue) : d.EgressWork (d.setQueue k q) := rfl
theorem Dev.onQueue_egressWork (d : Dev) (k : Nat) (g : Queue → Queue) : d.EgressWork (d.onQueue k g) := rfl
theorem Dev.onActive_egressWork (d : Dev) (p c : Nat) (g : List Nat → List Nat) : d.EgressWork (d.onActive p c g) := rfl
theorem Dev.emptied_egressWork (d : Dev) (k : Nat) : d.EgressWork (d.emptied k) := rfl
theorem Dev.joinActive_egressWork (d : Dev) (k : Nat) : d.EgressWork (d.joinActive k) := .ite (.refl d) rfl
theorem Dev.dropOversize_egressWork (d : Dev) (k : Nat) : d.EgressWork (d.dropOversize k) := by
  have hnoted : ∀ (l : List EFrame) (p q : Nat), d.Noted (l.foldl (fun d f =>
      (d.inc (pgEgress p) 0x0F0).raise (pgEgress p) 2 (0x0E8 + p) 0x0903 (fmk 0 64 q) (fmk 0 64 f.len)) d) := fun l p q =>
    Dev.noted_foldl _ (fun d f => (Dev.inc_noted _ _ _).trans (Dev.raise_noted _ _ _ _ _ _ _)) _ _
  unfold Dev.dropOversize
  dsimp only
  split
  · exact .refl d
  · split
    · exact .refl d
    · exact .ite (((hnoted _ _ _).egressWork.trans (Dev.onQueue_egressWork _ _ _)).trans (Dev.emptied_egressWork _ _))
        ((hnoted _ _ _).egressWork.trans (Dev.onQueue_egressWork _ _ _))

theorem Dev.enqueue_egressWork (d : Dev) (k : Nat) (f : EFrame) : d.EgressWork (d.enqueue k f) := by
  unfold Dev.enqueue
  refine .ite (.refl d) (.ite ?_ (.ite ?_ ?_))
  · exact ((d.inc_noted _ _).egressWork.trans (Dev.onQueue_egressWork _ _ _)).trans (Dev.raise_noted _ _ _ _ _ _ _).egressWork
  · exact ((d.setQueue_egressWork k _).trans (Dev.dropOversize_egressWork _ _)).trans (Dev.joinActive_egressWork _ _)
  · exact d.setQueue_egressWork k _

theorem Dev.Completed.egress (h : d.Completed e) : e.egress = d.egress := by rw [h]
theorem Dev.Completed.queue (h : d.Completed e) (j : Nat) : e.queue j = d.queue j := by rw [Dev.queue, h.egress, Dev.queue]
theorem Dev.Completed.eport (h : d.Completed e) (p : Nat) : e.eport p = d.eport p := by rw [Dev.eport, h.egress, Dev.eport]
theorem Dev.Posted.queue (h : d.Posted e) (j : Nat) : e.queue j = d.queue j := by rw [Dev.queue, h, Dev.queue]

theorem Dev.eport_onEport (d : Dev) (p q : Nat) (g : EPort → EPort) : (d.onEport p g).eport q = if q = p then g (d.eport p) else d.eport q :=
  tabGetD_tabPutD _ _ _ _ _

/-! ### Queues -/

/-- A change made to each queue of a list, once or more. -/
theorem Dev.queue_foldl_onQueue {g : Queue → Queue} (hg : ∀ q, g (g q) = g q) (l : List Nat) (d : Dev) (k : Nat) :
    (l.foldl (fun d k => d.onQueue k g) d).queue k = if k ∈ l then g (d.queue k) else d.queue k := by
  induction l generalizing d with
  | nil => rfl
  | cons a t ih =>
    rw [List.foldl_cons, ih, Dev.queue_onQueue]
    by_cases hk : k = a
    · subst hk
      simp [hg]
    · simp [hk]

theorem Dev.foldl_onQueue_egressWork (g : Queue → Queue) (l : List Nat) (d : Dev) : d.EgressWork (l.foldl (fun d k => d.onQueue k g) d) := by
  induction l generalizing d with
  | nil => exact .refl d
  | cons a t ih => exact (d.onQueue_egressWork a g).trans (ih _)

theorem mem_queueRange : k ∈ queueRange c ↔ c.arg 0 2 ≤ k ∧ k < c.arg 0 2 + c.arg 2 2 := by
  rw [queueRange, List.mem_map]
  constructor
  · rintro ⟨i, hi, rfl⟩
    have := List.mem_range.1 hi
    omega
  · exact fun h => ⟨k - c.arg 0 2, List.mem_range.2 (by omega), by omega⟩

theorem Accepts.queueAssign (h : Accepts queueAssignSpec c s) : ∃ u, exec (.queueAssign c) s = .next u ∧
    ∀ k, u.dev.queue k = if c.arg 0 2 ≤ k ∧ k < c.arg 0 2 + c.arg 2 2 then { s.dev.queue k with realm := c.arg 4 1 } else s.dev.queue k := by
  obtain ⟨e, hu, hdone⟩ := h.doneDev (d := (queueRange c).foldl (fun d k => d.onQueue k fun q => { q with realm := c.arg 4 1 }) s.dev) rfl
  refine ⟨_, congrArg Host.Outcome.next hu, fun k => ?_⟩
  rw [State.setDev_dev, hdone.queue, Dev.queue_foldl_onQueue (g := fun q => { q with realm := c.arg 4 1 }) fun _ => rfl]
  simp only [mem_queueRange]

/-- What QUEUE_SET makes of its queue (R533, R534, R540). -/
def Queue.configured (q : Queue) (c : HostCmd) : Queue := { q with cls := c.arg 2 1, fixed := c.arg 3 1 == 1, quantum := c.arg 4 4, rate := c.arg 8 4, limit := c.arg 12 2 }

theorem Accepts.queueSet (h : Accepts queueSetSpec c s) : ∃ u q, exec (.queueSet c) s = .next u ∧ u.dev.queue (c.arg 0 2) = Queue.configured q c ∧
    q.frames = (s.dev.queue (c.arg 0 2)).frames ∧ ∀ k, k ≠ c.arg 0 2 → u.dev.queue k = s.dev.queue k := by
  have heffect : ∃ v, queueSetSpec.effect c s = (s.setDev (if (s.dev.queue (c.arg 0 2)).cls != c.arg 2 1
      then ((s.dev.emptied (c.arg 0 2)).onQueue (c.arg 0 2) fun q => q.configured c).joinActive (c.arg 0 2)
      else s.dev.onQueue (c.arg 0 2) fun q => q.configured c), .done .ok 0 v) := by
    unfold OpSpec.effect queueSetSpec devRun Dev.okNow
    dsimp only
    cases (s.dev.queue (c.arg 0 2)).cls != c.arg 2 1
    · exact ⟨_, rfl⟩
    · exact ⟨_, rfl⟩
  obtain ⟨v, heffect⟩ := heffect
  obtain ⟨e, hu, hdone⟩ := h.doneDev heffect
  refine ⟨_, if (s.dev.queue (c.arg 0 2)).cls != c.arg 2 1 then (s.dev.emptied (c.arg 0 2)).queue (c.arg 0 2) else s.dev.queue (c.arg 0 2), congrArg Host.Outcome.next hu, ?_, ?_, fun k hk => ?_⟩
  · rw [State.setDev_dev, hdone.queue]
    split
    · rw [Dev.queue_joinActive, Dev.queue_onQueue, if_pos rfl]
    · rw [Dev.queue_onQueue, if_pos rfl]
  · split
    · rw [Dev.emptied, Dev.queue_onQueue, if_pos rfl]
      rfl
    · rfl
  · rw [State.setDev_dev, hdone.queue]
    split
    · rw [Dev.queue_joinActive, Dev.queue_onQueue, if_neg hk, Dev.queue_emptied _ hk]
    · rw [Dev.queue_onQueue, if_neg hk]

theorem satN_lt (n : Nat) : satN 65535 n < 65536 := by
  unfold satN
  split <;> omega

theorem Accepts.queueFlush (h : Accepts queueFlushSpec c s) : ∃ u, exec (.queueFlush c) s = .next u ∧ (u.dev.queue (c.arg 0 2)).frames = [] ∧
    (u.dev.queue (c.arg 0 2)).bind = (s.dev.queue (c.arg 0 2)).bind ∧
    u.dev.ctl.out.contains (.completion c.tag (queueFlushSpec.okOr c s) (satN 65535 (s.dev.queue (c.arg 0 2)).frames.length) s.dev.short) = true ∧
    ∀ k, k ≠ c.arg 0 2 → u.dev.queue k = s.dev.queue k := by
  obtain ⟨e, hu, hdone, ⟨hout, -⟩, -⟩ := h.okNow (d := s.dev.discardQueue (c.arg 0 2)) (n := satN 65535 (s.dev.queue (c.arg 0 2)).frames.length) rfl rfl rfl
  rw [Nat.mod_eq_of_lt (satN_lt _)] at hout
  have hself : (s.dev.discardQueue (c.arg 0 2)).queue (c.arg 0 2) = { s.dev.queue (c.arg 0 2) with frames := [], deficit := 0, visited := false } := by
    rw [Dev.discardQueue, Dev.emptied, Dev.queue_onQueue, if_pos rfl, Dev.queue_leaveActive, Dev.queue_onQueue, if_pos rfl]
  refine ⟨_, congrArg Host.Outcome.next hu, ?_, ?_, hout, fun k hk => ?_⟩
  · rw [State.setDev_dev, hdone.queue, hself]
  · rw [State.setDev_dev, hdone.queue, hself]
  · rw [State.setDev_dev, hdone.queue, Dev.discardQueue, Dev.queue_emptied _ hk, Dev.queue_onQueue, if_neg hk]

/-! ### Gate lists -/

theorem Dev.now_le_earliest (d : Dev) : d.now ≤ d.earliest := by
  unfold Dev.earliest
  split
  · exact Nat.le_add_right _ _
  · exact Nat.le_refl _

theorem Accepts.gateListSet (h : Accepts gateListSetSpec c s) : ∃ u g t late n, exec (.gateListSet c) s = .next u ∧ (u.dev.eport (c.arg 0 1)).pend = some (g, t, late) ∧
    s.dev.now + 20 * usT ≤ t ∧ t = g.base + n * max 1 (g.cycle * nsT) ∧ u.dev.waiting 0x0904 (c.arg 0 1) = true ∧
    (u.dev.eport (c.arg 0 1)).oper = (s.dev.eport (c.arg 0 1)).oper ∧ (u.dev.eport (c.arg 0 1)).gates = (s.dev.eport (c.arg 0 1)).gates ∧
    ∀ p, p ≠ c.arg 0 1 → u.dev.eport p = s.dev.eport p := by
  have heffect : ∃ (g : GateList) (b late : Bool) (t0 : Time), gateListSetSpec.effect c s =
      (s.setDev (s.dev.onEport (c.arg 0 1) fun x => { x with pend := some (g, (gateSwitchAt g.base g.cycle (max (s.dev.earliest + 20 * usT) t0)).1, late) }), .later (c.arg 0 1) 0) :=
    ⟨_, true, _, _, rfl⟩
  obtain ⟨g, -, late, t0, he⟩ := heffect
  obtain ⟨e, hu, ⟨w, he⟩, hwait⟩ := h.laterDev he
  obtain ⟨hle, hform, -⟩ := gateSwitchTimes g.base g.cycle (max (s.dev.earliest + 20 * usT) t0)
  have hport : ∀ p, e.eport p = (s.dev.onEport (c.arg 0 1) fun x =>
      { x with pend := some (g, (gateSwitchAt g.base g.cycle (max (s.dev.earliest + 20 * usT) t0)).1, late) }).eport p := fun p => by
    rw [he]
    rfl
  refine ⟨_, g, (gateSwitchAt g.base g.cycle (max (s.dev.earliest + 20 * usT) t0)).1, late, _, congrArg Host.Outcome.next hu, ?_, ?_, hform, hwait, ?_, ?_, fun p hp => ?_⟩
  · rw [State.setDev_dev, hport, Dev.eport_onEport, if_pos rfl]
  · exact Nat.le_trans (Nat.le_trans (Nat.add_le_add_right s.dev.now_le_earliest _) (Nat.le_max_left _ _)) hle
  · rw [State.setDev_dev, hport, Dev.eport_onEport, if_pos rfl]
  · rw [State.setDev_dev, hport, Dev.eport_onEport, if_pos rfl]
  · rw [State.setDev_dev, hport, Dev.eport_onEport, if_neg hp]

theorem Accepts.gateListCancel (h : Accepts gateListCancelSpec c s) : ∃ u, exec (.gateListCancel c) s = .next u ∧
    u.dev.eport (c.arg 0 1) = { s.dev.eport (c.arg 0 1) with pend := none } ∧ u.dev.waiting 0x0904 (c.arg 0 1) = false ∧
    ∀ p, p ≠ c.arg 0 1 → u.dev.eport p = s.dev.eport p := by
  have heffect : ∃ v w, gateListCancelSpec.effect c s = (s.setDev ((s.dev.onEport (c.arg 0 1) fun x => { x with pend := none }).finish 0x0904 (c.arg 0 1) .aborted 0 w).tickFree,
      .done .ok 0 v) := ⟨_, _, rfl⟩
  obtain ⟨v, w, he⟩ := heffect
  obtain ⟨e, hu, hdone⟩ := h.doneDev he
  have hport : ∀ p, e.eport p = (s.dev.onEport (c.arg 0 1) fun x => { x with pend := none }).eport p := fun p => by
    rw [hdone.eport]
    exact (Dev.finish_completed _ _ _ _ _ _).eport p
  refine ⟨_, congrArg Host.Outcome.next hu, ?_, ?_, fun p hp => ?_⟩
  · rw [State.setDev_dev, hport, Dev.eport_onEport, if_pos rfl]
  · rw [State.setDev_dev, hdone.waiting]
    exact Dev.waiting_finish _ _ _ _ _ _
  · rw [State.setDev_dev, hport, Dev.eport_onEport, if_neg hp]

/-! ### HOST_SEND (R536) -/

/-- A frame of the host that arrives at a queue. -/
theorem Dev.enqueue_host (d : Dev) (b : List Byte) (hk : 8192 ≤ k) : (d.egress.stopped && (d.srtpQueue k || ({ bytes := b, at_ := 0, host := true } : EFrame).srtcp)) = false := by
  rw [Dev.srtpQueue, decide_eq_false (by omega), Bool.false_and, Bool.false_and, Bool.false_or, Bool.and_false]

theorem Accepts.hostSend (h : Accepts hostSendSpec c s) : ∃ u b, exec (.hostSend c) s = .next u ∧ capturePinned s.dev 0 (c.arg 8 8) (c.arg 2 2) = some b ∧
    (s.dev.qLimit (ctrlQ (c.arg 0 1)) ≤ (s.dev.queue (ctrlQ (c.arg 0 1))).frames.length →
      (u.dev.queue (ctrlQ (c.arg 0 1))).frames = (s.dev.queue (ctrlQ (c.arg 0 1))).frames ∧ ∃ v, u.dev.ctl.out.contains (.completion c.tag .noResource 0 v) = true) ∧
    ((s.dev.queue (ctrlQ (c.arg 0 1))).frames.length < s.dev.qLimit (ctrlQ (c.arg 0 1)) → (s.dev.queue (ctrlQ (c.arg 0 1))).frames ≠ [] →
      (u.dev.queue (ctrlQ (c.arg 0 1))).frames = (s.dev.queue (ctrlQ (c.arg 0 1))).frames ++ [{ bytes := b, at_ := s.dev.now, host := true }]) ∧
    ∀ k, k ≠ ctrlQ (c.arg 0 1) → u.dev.queue k = s.dev.queue k := by
  obtain ⟨b, hb, -⟩ := h.verdict
  obtain ⟨-, hlimits⟩ := queueLimits s.dev (ctrlQ (c.arg 0 1)) { bytes := b, at_ := 0, host := true }
  have hopen := s.dev.enqueue_host b (k := ctrlQ (c.arg 0 1)) (Nat.le_add_right _ _)
  obtain ⟨hfull, hroom, hothers⟩ := hlimits (Bool.and_eq_false_iff.1 hopen)
  have hwork := s.dev.enqueue_egressWork (ctrlQ (c.arg 0 1)) { bytes := b, at_ := 0, host := true }
  have heffect : hostSendSpec.effect c s = (s.setDev (s.dev.enqueue (ctrlQ (c.arg 0 1)) { bytes := b, at_ := 0, host := true }),
      if s.dev.qLimit (ctrlQ (c.arg 0 1)) ≤ (s.dev.queue (ctrlQ (c.arg 0 1))).frames.length then .done .noResource 0 (Dev.short (s.dev.enqueue (ctrlQ (c.arg 0 1)) { bytes := b, at_ := 0, host := true }))
      else .done .ok 0 (Dev.short (s.dev.enqueue (ctrlQ (c.arg 0 1)) { bytes := b, at_ := 0, host := true }))) := by
    rw [h.captured hb]
    simp only [hostSendSpec, devRun, decide_eq_true_eq]
    split
    · rfl
    · rfl
  by_cases hlen : s.dev.qLimit (ctrlQ (c.arg 0 1)) ≤ (s.dev.queue (ctrlQ (c.arg 0 1))).frames.length
  · rw [if_pos hlen] at heffect
    obtain ⟨e, hu, hpost, hout, -⟩ := h.failsDev heffect (by decide) hwork.rings hwork.clk
    refine ⟨_, b, congrArg Host.Outcome.next hu, hb, fun _ => ⟨?_, _, hout⟩, fun hlt => absurd hlen (Nat.not_le.2 hlt), fun k hk => ?_⟩
    · rw [State.setDev_dev, hpost.queue, (hfull hlen).1]
    · rw [State.setDev_dev, hpost.queue, hothers k hk]
  · rw [if_neg hlen] at heffect
    obtain ⟨e, hu, hdone⟩ := h.doneDev heffect
    refine ⟨_, b, congrArg Host.Outcome.next hu, hb, fun hle => absurd hle hlen, fun hlt hne => ?_, fun k hk => ?_⟩
    · rw [State.setDev_dev, hdone.queue, hroom hlt hne]
    · rw [State.setDev_dev, hdone.queue, hothers k hk]

/-- Settles O34: the seven commands. -/
theorem egressCommands : Obligations.EgressCommands := by
  intro s c
  refine ⟨fun h => h.queueAssign, fun h => ?_, fun h => ?_, fun h => h.queueFlush, fun h => h.gateListSet, fun h => h.gateListCancel, fun h => h.hostSend⟩
  · obtain ⟨u, q, hu, hq, hframes, hothers⟩ := h.queueSet
    refine ⟨u, hu, ?_⟩
    rw [hq]
    exact ⟨rfl, rfl, rfl, rfl, rfl, hframes, hothers⟩
  · obtain ⟨u, hu, hkept, hout, -⟩ := h.query (n := (s.dev.queue (c.arg 0 2)).bind.code) rfl
    have hcode : (s.dev.queue (c.arg 0 2)).bind.code < 65536 := by
      cases (s.dev.queue (c.arg 0 2)).bind <;> decide
    rw [Nat.mod_eq_of_lt hcode] at hout
    exact ⟨u, congrArg Host.Outcome.next hu, hkept, hout⟩

end Sys2Proof.Machine
end

section
/-! The commands of layouts and stills (Table 7-5): O24. -/

namespace Sys2Proof.Machine
open Sys2Proof

variable {s : State} {c : HostCmd} {d e : Dev} {i j k : Nat}

theorem Dev.Noted.mica (h : d.Noted e) : e.mica = d.mica := by rw [h]
theorem Dev.Posted.mica (h : d.Posted e) : e.mica = d.mica := by rw [h]
theorem Dev.Completed.mica (h : d.Completed e) : e.mica = d.mica := by rw [h]
theorem Dev.Completed.xlat (h : d.Completed e) : e.xlat = d.xlat := by rw [h]
theorem Dev.Completed.layout (h : d.Completed e) (k : Nat) : e.layout k = d.layout k := by rw [Dev.layout, h.mica, Dev.layout]
theorem Dev.layout_congr (h : e.mica = d.mica) (k : Nat) : e.layout k = d.layout k := by rw [Dev.layout, h, Dev.layout]

/-! ### LAYOUT_OPEN, LAYOUT_START, LAYOUT_STOP -/

theorem Dev.mica_holds {α : Type} (g : Dev → α → Dev) (h : ∀ d a, (g d a).mica = d.mica) (l : List α) (d : Dev) : (l.foldl g d).mica = d.mica := by
  induction l generalizing d with
  | nil => rfl
  | cons a t ih => exact (ih _).trans (h d a)

theorem Accepts.layoutOpen (h : Accepts layoutOpenSpec c s) : ∃ u b, exec (.layoutOpen c) s = .next u ∧ capturePinned s.dev 0 (c.arg 8 8) 128 = some b ∧
    u.dev.layout (c.arg 0 2) = { layoutParse b with state := .opened, tickNo := (layoutParse b).tickCeil s.dev.now } ∧
    ∀ k, k ≠ c.arg 0 2 → u.dev.layout k = s.dev.layout k := by
  obtain ⟨b, hb, -⟩ := h.verdict
  obtain ⟨e, hu, hdone⟩ := h.doneDev (h.captured hb)
  have hlayout : ∀ k, e.layout k = (s.dev.setLayout (c.arg 0 2) { layoutParse b with state := .opened, tickNo := (layoutParse b).tickCeil s.dev.now }).layout k := fun k => by
    rw [hdone.layout]
    exact Dev.layout_congr (Dev.mica_holds (fun (d : Dev) (o : LayOut) => d.hold holdLayout (c.arg 0 2) 0 o.base (o.count * o.stride)) (fun _ _ => rfl) _ _) k
  refine ⟨_, b, congrArg Host.Outcome.next hu, hb, ?_, fun k hk => ?_⟩
  · rw [State.setDev_dev, hlayout, Dev.layout_setLayout, if_pos rfl]
  · rw [State.setDev_dev, hlayout, Dev.layout_setLayout, if_neg hk]

theorem Accepts.layoutStart (h : Accepts layoutStartSpec c s) : ∃ u, exec (.layoutStart c) s = .next u ∧ (u.dev.layout (c.arg 0 2)).state = .running ∧
    (u.dev.layout (c.arg 0 2)).tickNo = (s.dev.layout (c.arg 0 2)).tickCeil s.dev.now ∧ (u.dev.layout (c.arg 0 2)).comp = none ∧
    (∀ o, o ∈ (u.dev.layout (c.arg 0 2)).outs → o.seq = 0 ∧ o.unread = []) ∧ (∀ b, (u.dev.layout (c.arg 0 2)).bank b = (s.dev.layout (c.arg 0 2)).bank b) ∧
    u.dev.ctl.out.contains (.completion c.tag (layoutStartSpec.okOr c s) 0 (shortOf ((s.dev.layout (c.arg 0 2)).tickAt ((s.dev.layout (c.arg 0 2)).tickCeil s.dev.now)))) = true ∧
    ∀ k, k ≠ c.arg 0 2 → u.dev.layout k = s.dev.layout k := by
  obtain ⟨e, hu, hdone, ⟨hout, -⟩, -⟩ := h.okDev (d := s.dev.setLayout (c.arg 0 2) { s.dev.layout (c.arg 0 2) with
    state := .running, tickNo := (s.dev.layout (c.arg 0 2)).tickCeil s.dev.now, prevEntries := [], prevShown := [], comp := none
    outs := (s.dev.layout (c.arg 0 2)).outs.map (fun o => { o with seq := 0, unread := [], sizes := [] }) }) (n := 0) rfl rfl rfl
  have hself := (hdone.layout (c.arg 0 2)).trans (Dev.layout_setLayout _ _ _ _)
  rw [if_pos rfl] at hself
  refine ⟨_, congrArg Host.Outcome.next hu, ?_⟩
  rw [State.setDev_dev, hself]
  refine ⟨rfl, rfl, rfl, fun o ho => ?_, fun _ => rfl, hout, fun k hk => ?_⟩
  · obtain ⟨x, -, rfl⟩ := List.mem_map.1 ho
    exact ⟨rfl, rfl⟩
  · rw [hdone.layout, Dev.layout_setLayout, if_neg hk]

/-- A command that writes one layout. -/
theorem Accepts.oneLayout {o : OpSpec} (h : Accepts o c s) {x : Layout} {n : Nat} {v : Word} (he : o.effect c s = (s.setDev (s.dev.setLayout i x), .done .ok n v)) :
    ∃ u, runCmd o c s = u ∧ u.dev.layout i = x ∧ ∀ k, k ≠ i → u.dev.layout k = s.dev.layout k := by
  obtain ⟨e, hu, hdone⟩ := h.doneDev he
  refine ⟨_, hu, ?_, fun k hk => ?_⟩
  · rw [State.setDev_dev, hdone.layout, Dev.layout_setLayout, if_pos rfl]
  · rw [State.setDev_dev, hdone.layout, Dev.layout_setLayout, if_neg hk]

/-! ### LAYOUT_CLOSE -/

theorem Dev.mica_closeFault (d : Dev) (id how : Nat) : (d.closeFault id how).mica = d.mica := by
  have hfaults : ∀ l : List XFault, ({ d with xlat := { d.xlat with faults := l } } : Dev).mica = d.mica := fun _ => rfl
  unfold Dev.closeFault
  dsimp only
  split
  · exact (Dev.trace_noted _ _ _ _ _ _ _).mica.trans (hfaults _)
  · rfl

theorem Dev.mica_jobItem (d : Dev) (ev : Nat) (w : Option Word) : (d.jobItem ev w).mica = d.mica := by
  unfold Dev.jobItem
  split
  · rfl
  · exact (Dev.trace_noted _ _ _ _ _ _ _).mica

theorem Dev.mica_geTrace (d : Dev) (l ev i : Nat) (dec : Bool) (row : Nat) (x w : Word) : (d.geTrace l ev i dec row x w).mica = d.mica := by
  unfold Dev.geTrace
  dsimp only
  rw [(Dev.trace_noted _ _ _ _ _ _ _).mica]
  split
  · rfl
  · exact Dev.mica_jobItem _ _ _

theorem Dev.mica_encStatus (d : Dev) (i result : Nat) : (d.encStatus i result).mica = d.mica := by
  have hfull : ∀ (b : Bool) (u : Nat) (v w : Word), (if b then (d.inc (pgGeode u) 0x098).geEvent u 4 v w else d).mica = d.mica := fun b u v w => by
    split
    · exact ((d.inc_noted _ _).trans (Dev.raise_noted _ _ _ _ _ _ _)).mica
    · rfl
  unfold Dev.encStatus
  extract_lets x u
  split
  · rfl
  · extract_lets b d0 d1 d2
    have hfirst : d0.mica = d.mica := hfull _ _ _ _
    have hsecond : d1.mica = d0.mica := (Dev.writeVa_posted _ _ _ _).mica
    have hthird : d2.mica = d1.mica := Dev.mica_geTrace _ _ _ _ _ _ _ _
    clear_value d0 d1 d2
    rw [Dev.setEncS_mica, hthird, hsecond, hfirst]

theorem Dev.mica_encIdle (d : Dev) (i : Nat) : (d.encIdle i).mica = d.mica := by
  unfold Dev.encIdle
  dsimp only
  split
  · refine (Dev.finish_posted _ _ _ _ _ _).mica.trans ?_
    split
    · rfl
    · rfl
  · rfl

theorem Dev.mica_encClose (d : Dev) (i : Nat) : (d.encClose i).mica = d.mica := by
  unfold Dev.encClose
  refine (Dev.mica_encIdle _ _).trans ?_
  split
  · split
    · exact (Dev.mica_encStatus _ _ _).trans (Dev.mica_closeFault _ _ _)
    · rfl
  · rfl

theorem Accepts.layoutClose (h : Accepts layoutCloseSpec c s) : ∃ u, exec (.layoutClose c) s = .next u ∧ u.dev.layout (c.arg 0 2) = {} ∧
    (∀ h, h ∈ u.dev.xlat.holds → ¬ (h.kind = holdLayout ∧ h.obj = c.arg 0 2)) ∧ ∀ k, k ≠ c.arg 0 2 → u.dev.layout k = s.dev.layout k := by
  have heffect : ∃ (l : List Nat) (n : Nat) (v : Word), layoutCloseSpec.effect c s =
      (s.setDev (((l.foldl (fun (d : Dev) k => d.encClose k) s.dev).setLayout (c.arg 0 2) {}).unhold holdLayout (c.arg 0 2)), .done .ok n v) := ⟨_, _, _, rfl⟩
  obtain ⟨l, n, v, heffect⟩ := heffect
  obtain ⟨e, hu, hdone⟩ := h.doneDev heffect
  have hlayout : ∀ k, e.layout k = if k = c.arg 0 2 then {} else s.dev.layout k := fun k => by
    have hclosed := Dev.layout_congr (Dev.mica_holds (fun (d : Dev) k => d.encClose k) (fun d k => d.mica_encClose k) l s.dev) k
    rw [hdone.layout, ← hclosed]
    exact Dev.layout_setLayout _ _ _ _
  refine ⟨_, congrArg Host.Outcome.next hu, ?_, fun x hx => ?_, fun k hk => ?_⟩
  · rw [State.setDev_dev, hlayout, if_pos rfl]
  · rw [State.setDev_dev, hdone.xlat] at hx
    have hkept := (List.mem_filter.1 hx).2
    exact fun hboth => absurd hkept (by simp [hboth])
  · rw [State.setDev_dev, hlayout, if_neg hk]

/-! ### Banks -/

theorem tabGetD_loadBank (b : Tab LayEntry) (first : Nat) (l : List Byte) (n j : Nat) : tabGetD {} (loadBank b first l n) j =
    if first ≤ j ∧ j < first + n then layEntryParse ((l.drop (64 * (j - first))).take 64) else tabGetD {} b j := by
  have hkeys : loadBank b first l n =
      ((List.range n).map (fun k => first + k)).foldl (fun t j => tabPutD {} t j (layEntryParse ((l.drop (64 * (j - first))).take 64))) b := by
    rw [loadBank, List.foldl_map]
    simp only [Nat.add_sub_cancel_left]
  have hmem : j ∈ (List.range n).map (fun k => first + k) ↔ first ≤ j ∧ j < first + n := by
    rw [List.mem_map]
    constructor
    · rintro ⟨k, hk, rfl⟩
      have := List.mem_range.1 hk
      omega
    · exact fun hj => ⟨j - first, List.mem_range.2 (by omega), by omega⟩
  rw [hkeys, tabGetD_foldl_tabPutD]
  simp only [hmem]

theorem Accepts.layerLoad (h : Accepts layerLoadSpec c s) : ∃ u b, exec (.layerLoad c) s = .next u ∧ capturePinned s.dev 0 (c.arg 8 8) (64 * c.arg 4 1) = some b ∧
    (∀ j, tabGetD {} ((u.dev.layout (c.arg 0 2)).bank (c.arg 2 1)) j =
      if c.arg 3 1 ≤ j ∧ j < c.arg 3 1 + c.arg 4 1 then layEntryParse ((b.drop (64 * (j - c.arg 3 1))).take 64) else tabGetD {} ((s.dev.layout (c.arg 0 2)).bank (c.arg 2 1)) j) ∧
    (u.dev.layout (c.arg 0 2)).bank (1 - c.arg 2 1) = (s.dev.layout (c.arg 0 2)).bank (1 - c.arg 2 1) ∧ ∀ k, k ≠ c.arg 0 2 → u.dev.layout k = s.dev.layout k := by
  obtain ⟨b, hb, -⟩ := h.verdict
  have hbank : c.arg 2 1 < 2 := by
    have hbad := h.badArg (k := 2) (b := decide (2 ≤ c.arg 2 1) || c.arg 2 1 == s.dev.activeBank (c.arg 0 2)) (.tail _ (.head _))
    simp only [Bool.or_eq_false_iff, decide_eq_false_iff_not] at hbad
    exact Nat.not_le.1 hbad.1
  obtain ⟨u, hu, hself, hothers⟩ := h.oneLayout (h.captured hb)
  refine ⟨u, b, congrArg Host.Outcome.next hu, hb, ?_, ?_, hothers⟩
  · rw [hself]
    intro j
    rw [← tabGetD_loadBank]
    split
    next h0 => rw [h0]; rfl
    next h0 => rw [Layout.bank, if_neg h0]
  · rw [hself]
    split
    next h0 => rw [h0]; rfl
    next h0 =>
      rw [show 1 - c.arg 2 1 = 0 by omega]
      rfl

theorem Accepts.layArg_lt {o : OpSpec} (h : Accepts o c s) (hx : layArg c ∈ o.checks c s) : c.arg 0 2 < 256 :=
  Nat.not_le.1 (of_decide_eq_false (h.badArg hx))

/-- The bit of a layout in BANK_SEL (R326, R328). -/
theorem Accepts.layoutFlip (h : Accepts layoutFlipSpec c s) : ∃ u, exec (.layoutFlip c) s = .next u ∧ u.dev.activeBank (c.arg 0 2) = c.arg 2 1 ∧
    (∀ k, k < 256 → k ≠ c.arg 0 2 → u.dev.activeBank k = s.dev.activeBank k) ∧ u.dev.mica = s.dev.mica := by
  have harg := h.layArg_lt (.head _)
  have hbank : c.arg 2 1 < 2 := Nat.not_le.1 (of_decide_eq_false (h.badArg (k := 2) (b := decide (2 ≤ c.arg 2 1)) (.tail _ (.head _))))
  obtain ⟨e, hu, hdone⟩ := h.doneDev rfl
  have hreg : ∀ q o, e.reg q o = if regKey q o = regKey (pgMica (s.dev.layout (c.arg 0 2)).pipe) (0x100 + 8 * (c.arg 0 2 / 64))
      then setFld (s.dev.reg (pgMica (s.dev.layout (c.arg 0 2)).pipe) (0x100 + 8 * (c.arg 0 2 / 64))) (c.arg 0 2 % 64) 1 (c.arg 2 1) else s.dev.reg q o := fun q o => by
    rw [Dev.reg, hdone.regs]
    exact Dev.reg_setReg _ _ _ _ _ _
  have hmica : e.mica = s.dev.mica := hdone.mica
  have hbit : ∀ k, e.activeBank k = fld (e.reg (pgMica (s.dev.layout k).pipe) (0x100 + 8 * (k / 64))) (k % 64) 1 := fun k => by
    rw [Dev.activeBank, Dev.layout_congr hmica]
  refine ⟨_, congrArg Host.Outcome.next hu, ?_, fun k hk hne => ?_, hmica⟩
  · rw [State.setDev_dev, hbit, hreg, if_pos rfl, fld_setFld_same _ _ (by omega)]
    omega
  · rw [State.setDev_dev, hbit, hreg]
    split
    next hkey =>
      have hoff := ((regKey_inj (by omega) (by omega)).1 hkey)
      rw [fld_setFld_apart _ _ (by omega) (by omega), Dev.activeBank, hoff.1, hoff.2]
    next => rfl

/-! ### LAYER_BYPASS and stills -/

theorem Accepts.layerBypass (h : Accepts layerBypassSpec c s) : ∃ u, exec (.layerBypass c) s = .next u ∧
    (∀ n, n ∈ (u.dev.layout (c.arg 0 2)).bypass ↔ (if n = c.arg 2 1 then c.arg 3 1 = 1 else n ∈ (s.dev.layout (c.arg 0 2)).bypass)) ∧
    (∀ b, (u.dev.layout (c.arg 0 2)).bank b = (s.dev.layout (c.arg 0 2)).bank b) ∧ ∀ k, k ≠ c.arg 0 2 → u.dev.layout k = s.dev.layout k := by
  obtain ⟨u, hu, hself, hothers⟩ := h.oneLayout (i := c.arg 0 2) (x := { s.dev.layout (c.arg 0 2) with
    bypass := (if c.arg 3 1 = 1 then [c.arg 2 1] else []) ++ (s.dev.layout (c.arg 0 2)).bypass.filter (· != c.arg 2 1) }) rfl
  refine ⟨u, congrArg Host.Outcome.next hu, ?_, ?_, hothers⟩
  · rw [hself]
    intro n
    by_cases hn : n = c.arg 2 1
    · by_cases hon : c.arg 3 1 = 1 <;> simp [hn, hon]
    · by_cases hon : c.arg 3 1 = 1 <;> simp [hn, hon]
  · rw [hself]
    exact fun _ => rfl

theorem Accepts.stillLoad (h : Accepts stillLoadSpec c s) : ∃ u, exec (.stillLoad c) s = .next u ∧
    tabGetD {} u.dev.mica.stills (c.arg 0 2) = ⟨true, c.arg 2 1, c.arg 4 2, c.arg 6 2, c.arg 8 4, (tabGetD {} s.dev.mica.stills (c.arg 0 2)).gen + 1⟩ ∧
    (∀ k, k ≠ c.arg 0 2 → tabGetD {} u.dev.mica.stills k = tabGetD {} s.dev.mica.stills k) ∧ u.dev.mica.layouts = s.dev.mica.layouts := by
  obtain ⟨b, hb, -⟩ := h.verdict
  obtain ⟨e, hu, hdone⟩ := h.doneDev (h.captured hb)
  have hwritten := (s.dev.writeVa_posted 0 (s.dev.stillVa (c.arg 0 2)) b).mica
  have hmica : e.mica = { s.dev.mica with
      stills := tabPutD {} s.dev.mica.stills (c.arg 0 2) (⟨true, c.arg 2 1, c.arg 4 2, c.arg 6 2, c.arg 8 4, (tabGetD {} s.dev.mica.stills (c.arg 0 2)).gen + 1⟩ : Still) } := by
    rw [hdone.mica, ← hwritten]
    rfl
  refine ⟨_, congrArg Host.Outcome.next hu, ?_, fun k hk => ?_, ?_⟩
  · rw [State.setDev_dev, hmica, tabGetD_tabPutD, if_pos rfl]
  · rw [State.setDev_dev, hmica, tabGetD_tabPutD, if_neg hk]
  · rw [State.setDev_dev, hmica]

/-- Settles O24: the nine commands. -/
theorem micaCommands : Obligations.MicaCommands := by
  intro s c
  refine ⟨fun h => h.layoutOpen, fun h => h.layoutStart, fun h => ?_, fun h => h.layoutClose, fun h => h.layerLoad, fun h => h.layoutFlip, fun h => h.layerBypass,
    fun h => h.stillLoad, fun h => ?_⟩
  · obtain ⟨u, hu, hself, hothers⟩ := h.oneLayout (i := c.arg 0 2) (x := { s.dev.layout (c.arg 0 2) with state := .opened }) rfl
    exact ⟨u, congrArg Host.Outcome.next hu, hself, hothers⟩
  · obtain ⟨u, hu, hkept, hout, -⟩ := h.query (n := (s.dev.layout (c.arg 0 2)).state.code) rfl
    have hcode : (s.dev.layout (c.arg 0 2)).state.code < 65536 := by
      cases (s.dev.layout (c.arg 0 2)).state <;> decide
    rw [Nat.mod_eq_of_lt hcode] at hout
    exact ⟨u, congrArg Host.Outcome.next hu, hkept, hout⟩

end Sys2Proof.Machine
end

section
/-! The commands of the renderer (Table 9-4): O29. -/

namespace Sys2Proof.Machine
open Sys2Proof

variable {s : State} {c : HostCmd} {d e : Dev} {o : OpSpec} {i j k : Nat}

theorem Dev.Noted.render (h : d.Noted e) : e.render = d.render := by rw [h]
theorem Dev.Completed.render (h : d.Completed e) : e.render = d.render := by rw [h]
theorem Dev.obj_congr (h : e.render = d.render) (k : Nat) : e.obj k = d.obj k := by rw [Dev.obj, h, Dev.obj]
theorem Dev.chain_congr (h : e.render = d.render) (k : Nat) : e.chain k = d.chain k := by rw [Dev.chain, h, Dev.chain]
theorem Dev.scene_congr (h : e.render = d.render) (k : Nat) : e.scene k = d.scene k := by rw [Dev.scene, h, Dev.scene]
theorem Dev.bankCode_congr (h : e.render = d.render) (k : Nat) : e.bankCode k = d.bankCode k := by rw [Dev.bankCode, h, Dev.bankCode]
theorem Dev.renderCode_congr (h : e.render = d.render) : e.renderCode = d.renderCode := by rw [Dev.renderCode, h, Dev.renderCode]

/-! ### What an accepted command passed -/

/-- Only realm 0 places a command of the owner (R79). -/
theorem Accepts.owner (h : Accepts o c s) (ho : o.ownerOnly = true) : c.realm = 0 := by
  obtain ⟨l, -, hv⟩ := h.verdict
  have hnone := (firstFail_none _).1 hv (denied (o.ownerOnly && c.realm != 0)) (by simp [commonChecks])
  by_contra hrealm
  exact hnone (by simp [denied, ho, hrealm]) (by simp [denied, checkOrder])

theorem Accepts.conflicts (h : Accepts o c s) {k : Nat} {b : Bool} (hx : conflict k b ∈ o.checks c s) : b = false :=
  h.check hx (by simp [conflict, checkOrder])

/-! ### SPK_LAYOUT_LOAD and the end of its computation (R423, R428) -/

theorem ceilTo_ge (u t : Nat) : t ≤ ceilTo u t := by
  unfold ceilTo
  split
  · exact Nat.le_refl t
  next h =>
    have hlt := Nat.lt_div_mul_add (a := t + u - 1) (b := u) (Nat.pos_of_ne_zero h)
    omega

theorem epochCeil_ge (t : Nat) : t ≤ epochCeil t := ceilTo_ge _ _

theorem epochCeil_boundary (t : Nat) : ∃ n : Nat, epochCeil t = n * msT := by
  refine ⟨(t + msT - 1) / msT, ?_⟩
  rw [epochCeil, ceilTo, if_neg (by simp [msT, usT, nsT])]

/-- The later of two epoch boundaries is one. -/
theorem boundary_max {x y : Nat} (hx : ∃ n, x = n * msT) (hy : ∃ n, y = n * msT) : ∃ n, max x y = n * msT := by
  obtain h | h := Nat.le_total x y
  · exact (Nat.max_eq_right h).symm ▸ hy
  · exact (Nat.max_eq_left h).symm ▸ hx

theorem Dev.now_le_effectTime (d : Dev) (k : Token) (hcomputes : k.computes = true) : d.now ≤ (d.effectTime k).1 ∧ (d.effectTime k).2 = false := by
  have hop : k.opcode = 0x0700 := by simpa [Token.computes] using hcomputes
  have h2 : ¬(k.opcode = 0x0802 ∨ k.opcode = 0x0805) := by omega
  simp only [Dev.effectTime, hcomputes, Bool.not_true, Bool.and_false, Bool.false_and, Bool.false_eq_true, if_false, if_neg h2, and_true]
  exact d.now_le_earliest.trans ((epochCeil_ge _).trans (Nat.le_max_left _ _))

/-- A command that passes its checks captured its bytes, and none of their checks fails. -/
theorem OpSpec.judged_bytes (hv : o.judged c s = none) : ∃ l, o.capture c s.dev = some l ∧ ∀ x, x ∈ o.dchecks c l s → x.bad = true → x.st ∉ checkOrder := by
  rw [OpSpec.judged] at hv
  cases hdata : o.capture c s.dev with
  | none =>
    rw [hdata, OpSpec.verdict] at hv
    split at hv
    · cases hv
    · cases hv
  | some l =>
    rw [hdata] at hv
    exact ⟨l, rfl, fun x hx => (firstFail_none _).1 hv x (List.mem_append_left _ (List.mem_append_right _ hx))⟩

theorem triangulated (hv : spkLayoutLoadSpec.judged c s = none) : (bankParse ((layoutCapture c s.dev).getD [])).triangulate.isSome = true := by
  obtain ⟨l, hdata, hgood⟩ := OpSpec.judged_bytes hv
  have hlast : badDesc 0 ((bankParse l).triangulate).isNone ∈ layoutChecks l := List.mem_append_right _ (.tail _ (.tail _ (.tail _ (.head _))))
  have hcapture : layoutCapture c s.dev = some l := hdata
  rw [hcapture, Option.getD_some]
  by_contra hnone
  exact hgood _ hlast (by simpa [badDesc] using hnone) (by simp [badDesc, checkOrder])

theorem spkLayoutLoad_held (hready : s.ready = true) (hjoin : s.dev.joined = false) (hroom : c.dated = true → s.dev.datedPending < 8192)
    (hv : spkLayoutLoadSpec.judged c s = none) : ∃ u due, exec (.spkLayoutLoad c) s = .next u ∧ (bankParse ((layoutCapture c s.dev).getD [])).triangulate.isSome = true ∧
      u.dev.ctl.computing = s.dev.ctl.computing ++ [⟨spkLayoutLoadSpec.token c s, due, false, (layoutCapture c s.dev).getD []⟩] ∧ s.dev.now ≤ due ∧ UnitsKept s u := by
  obtain ⟨hnow, hlate⟩ := s.dev.now_le_effectTime (spkLayoutLoadSpec.token c s) rfl
  have hcrowd : ¬ OpSpec.crowded c s := fun hc => by
    simp only [OpSpec.crowded, Bool.and_eq_true, decide_eq_true_eq] at hc
    exact absurd (hroom hc.1) (by omega)
  have hrun : runCmd spkLayoutLoadSpec c s = s.setDev (s.dev.holdCommand ⟨spkLayoutLoadSpec.token c s, (s.dev.effectTime (spkLayoutLoadSpec.token c s)).1,
      (s.dev.effectTime (spkLayoutLoadSpec.token c s)).2, (layoutCapture c s.dev).getD []⟩) := by
    have hjudged : spkLayoutLoadSpec.verdict (spkLayoutLoadSpec.token c s).cmd false (spkLayoutLoadSpec.capture (spkLayoutLoadSpec.token c s).cmd s.dev) s = none := hv
    have hacts : spkLayoutLoadSpec.actsNow (spkLayoutLoadSpec.token c s) s.dev = none := rfl
    rw [runCmd, State.actAllReady_ready _ hready, State.process_room _ _ _ hcrowd, hjudged]
    simp only [id, State.takeOn, hjoin, Bool.false_and, Bool.false_eq_true, if_false, hacts]
    rfl
  rw [hlate] at hrun
  exact ⟨_, _, congrArg Host.Outcome.next hrun, triangulated hv, rfl, hnow, rfl⟩

theorem spkLayoutLoad_run {l : List Byte} {b : SpkBank} (s : State) (c : HostCmd) (tok : Token) (hb : (bankParse l).triangulate = some b) :
    ∃ u, spkLayoutLoadSpec.run c l tok s = (u, .done .ok b.tris.length u.dev.short) ∧ c.arg 0 1 ∈ u.dev.render.loaded ∧
      (u.dev.spkBank (c.arg 0 1)).tris = b.tris ∧ (u.dev.spkBank (c.arg 0 1)).spks = b.spks ∧ ∀ k, k ≠ c.arg 0 1 → u.dev.spkBank k = s.dev.spkBank k := by
  have hrun : spkLayoutLoadSpec.run c l tok s = (s.setDev { s.dev with render := { s.dev.render with
      banks := tabPutD {} s.dev.render.banks (c.arg 0 1) (s.dev.withDecoders b)
      loaded := if s.dev.render.loaded.contains (c.arg 0 1) then s.dev.render.loaded else s.dev.render.loaded ++ [c.arg 0 1] } },
      .done .ok b.tris.length s.dev.short) := by
    simp only [spkLayoutLoadSpec, devRun, hb, Option.getD_some]
    rfl
  have hbank : ∀ k, tabGetD {} (tabPutD {} s.dev.render.banks (c.arg 0 1) (s.dev.withDecoders b)) k = if k = c.arg 0 1 then s.dev.withDecoders b else s.dev.spkBank k :=
    fun k => tabGetD_tabPutD _ _ _ _ _
  have hself := hbank (c.arg 0 1)
  rw [if_pos rfl] at hself
  refine ⟨_, hrun, ?_, (congrArg SpkBank.tris hself :), (congrArg SpkBank.spks hself :), fun k hk => (hbank k).trans (if_neg hk)⟩
  dsimp only [State.setDev_dev]
  split
  next hin => exact List.contains_iff_mem.1 hin
  next => exact List.mem_append_right _ (List.mem_singleton.2 rfl)

theorem Dev.layoutLoaded_of_none (h : ∀ a, a ∈ d.ctl.computing → a.tok.cmd.arg 0 1 ≠ i) : d.layoutLoaded i = d := by
  have hnone : d.ctl.computing.find? (fun a => a.tok.cmd.arg 0 1 == i) = none := List.find?_eq_none.2 fun a ha => by simpa using h a ha
  rw [Dev.layoutLoaded, hnone]

theorem Dev.layoutLoaded_of_head {a : Accepted} {rest : List Accepted} (hl : d.ctl.computing = a :: rest) (ha : a.tok.cmd.arg 0 1 = i) :
    d.layoutLoaded i = { d with ctl := { d.ctl with
      computing := rest, accepted := d.ctl.accepted ++ [{ a with due := max a.due (max (epochCeil d.now) (d.clk.nextEpoch * msT)) }] } } := by
  have hfind : d.ctl.computing.find? (fun a => a.tok.cmd.arg 0 1 == i) = some a := by
    rw [hl, List.find?_cons_of_pos (by simpa using ha)]
  have herase : d.ctl.computing.erase a = rest := by rw [hl, List.erase_cons_head]
  rw [Dev.layoutLoaded, hfind]
  dsimp only
  rw [herase]

theorem Dev.layoutLoaded_posted (d : Dev) (i : Nat) : d.Posted (d.layoutLoaded i) := by
  unfold Dev.layoutLoaded
  split
  · exact .refl d
  · rfl

/-! ### SPK_LAYOUT_SELECT, RENDER_START, RENDER_STOP -/

theorem Accepts.spkLayoutSelect (h : Accepts spkLayoutSelectSpec c s) : ∃ u, exec (.spkLayoutSelect c) s = .next u ∧ u.dev.render.selected = some (c.arg 0 1) ∧
    u.dev.bankCode (c.arg 0 1) = 2 ∧ (s.dev.render.running = true → s.dev.render.oldBank = none → u.dev.render.oldBank = s.dev.render.selected) ∧
    (s.dev.render.running = false → u.dev.render.oldBank = none) ∧ (u.dev.page pgRender).event.getLsbD 3 = true ∧ u.dev.render.objs = s.dev.render.objs := by
  obtain ⟨e, hu, hdone⟩ := h.doneDev rfl
  have hrender : e.render = { s.dev.render with
      selected := some (c.arg 0 1), oldBank := if s.dev.render.running then s.dev.render.oldBank.or s.dev.render.selected else none } :=
    hdone.render.trans (Dev.raise_noted _ _ _ _ _ _ _).render
  refine ⟨_, congrArg Host.Outcome.next hu, ?_⟩
  rw [State.setDev_dev, hdone.page, Dev.bankCode, hrender]
  refine ⟨rfl, if_pos rfl, fun hrun hold => ?_, fun hrun => ?_, Dev.raise_bit _ _ _ _ _ _ _ (by decide), rfl⟩
  · simp [hrun, hold]
  · simp [hrun]

/-- What a table reads as is its default or one of its entries. -/
theorem tabGetD_of_mem {α : Type} {p : α → Prop} (z : α) (t : Tab α) (hz : p z) (ht : ∀ e ∈ t, p e.2) (k : Nat) : p (tabGetD z t k) := by
  induction t with
  | nil => exact hz
  | cons e t ih =>
    rw [tabGetD, tabGet]
    split
    · exact ht e List.mem_cons_self
    · split
      · exact hz
      · exact ih fun x hx => ht x (List.mem_cons_of_mem e hx)

/-- An entry of a table of mapped values has the property that the map gives every value. -/
theorem tabGetD_tabMapD_of {α : Type} [DecidableEq α] {p : α → Prop} (z : α) (t : Tab α) (f : Nat → α → α) (hz : p z) (hf : ∀ k x, p (f k x)) (k : Nat) :
    p (tabGetD z (tabMapD z t f) k) := by
  have hall : ∀ e ∈ tabMapD z t f, p e.2 := fun e he => by
    obtain ⟨x, -, rfl⟩ := List.mem_map.1 (List.mem_filter.1 he).1
    exact hf _ _
  exact tabGetD_of_mem z _ hz hall k

theorem Accepts.renderStart (h : Accepts renderStartSpec c s) : ∃ u, exec (.renderStart c) s = .next u ∧ u.dev.renderCode = 2 ∧ u.dev.render.fadeIn = true ∧
    u.dev.render.fadeOut = false ∧ (∀ k, (u.dev.chain k).line = []) ∧ u.dev.render.objs = s.dev.render.objs := by
  have hcode : s.dev.renderCode = 1 := by simpa using h.conflicts (.head _)
  have hsel : ¬ s.dev.render.selected.isNone = true := fun hnone => by
    rw [Dev.renderCode, if_pos hnone] at hcode
    omega
  obtain ⟨e, hu, hdone⟩ := h.doneDev rfl
  have hrender : e.render = { s.dev.render with
      running := true, fadeIn := true, fadeOut := false, oldBank := none
      chains := tabMapD {} s.dev.render.chains (fun _ x => { x with line := [] }) } := hdone.render
  refine ⟨_, congrArg Host.Outcome.next hu, ?_⟩
  rw [State.setDev_dev, Dev.renderCode, hrender]
  refine ⟨?_, rfl, rfl, fun k => ?_, rfl⟩
  · rw [if_neg hsel, if_pos rfl]
  · rw [Dev.chain, hrender]
    exact tabGetD_tabMapD_of (p := fun x : Chain => x.line = []) {} s.dev.render.chains (fun _ x => { x with line := [] }) rfl (fun _ _ => rfl) k

theorem Accepts.renderStop (h : Accepts renderStopSpec c s) : ∃ u, exec (.renderStop c) s = .next u ∧ u.dev.renderCode = 1 ∧ u.dev.render.fadeOut = true ∧
    u.dev.render.fadeIn = false ∧ u.dev.ctl.out.contains (.completion c.tag (renderStopSpec.okOr c s) 0 (shortOf (blockAt (blockCeil s.dev.now + 1)))) = true ∧
    u.dev.render.chains = s.dev.render.chains := by
  have hcode : s.dev.renderCode = 2 := by simpa using h.conflicts (.head _)
  have hsel : ¬ s.dev.render.selected.isNone = true := fun hnone => by
    rw [Dev.renderCode, if_pos hnone] at hcode
    omega
  obtain ⟨e, hu, hdone, ⟨hout, -⟩, -⟩ := h.okDev (d := { s.dev with render := { s.dev.render with running := false, fadeOut := true, fadeIn := false } }) rfl rfl rfl
  have hrender : e.render = { s.dev.render with running := false, fadeOut := true, fadeIn := false } := hdone.render
  refine ⟨_, congrArg Host.Outcome.next hu, ?_⟩
  rw [State.setDev_dev, Dev.renderCode, hrender]
  refine ⟨?_, rfl, rfl, hout, rfl⟩
  rw [if_neg hsel]
  rfl

/-! ### Objects, chains, scenes -/

theorem Accepts.objSet (h : Accepts objSetSpec c s) : ∃ u, exec (.objSet c) s = .next u ∧
    (u.dev.obj (c.arg 0 2)).target = (objParse (objArgs c)).num ∧ (u.dev.obj (c.arg 0 2)).set = (objParse (objArgs c)).set ∧
    (u.dev.obj (c.arg 0 2)).from_ = (s.dev.obj (c.arg 0 2)).now ∧ (u.dev.obj (c.arg 0 2)).n = 0 ∧ (u.dev.obj (c.arg 0 2)).len = max 32 (objParse (objArgs c)).interp ∧
    ∀ k, k ≠ c.arg 0 2 → u.dev.obj k = s.dev.obj k := by
  obtain ⟨e, hu, hdone⟩ := h.doneDev rfl
  have hobj : ∀ k, e.obj k = (s.dev.objChange (c.arg 0 2) (objParse (objArgs c))).obj k := Dev.obj_congr hdone.render
  refine ⟨_, congrArg Host.Outcome.next hu, ?_⟩
  rw [State.setDev_dev, hobj, Dev.objChange, Dev.obj_setObj, if_pos rfl]
  refine ⟨rfl, rfl, rfl, rfl, rfl, fun k hk => ?_⟩
  rw [hobj, Dev.objChange, Dev.obj_setObj, if_neg hk]

/-- A command that writes one chain. -/
theorem Accepts.oneChain (h : Accepts o c s) {x : Chain} {n : Nat} (he : o.effect c s = (s.setDev (s.dev.setChain i x), .done .ok n s.dev.short)) :
    ∃ u, runCmd o c s = u ∧ u.dev.chain i = x ∧ Ends u s c (o.okOr c s) (n % 65536) s.dev.short ∧ ∀ k, k ≠ i → u.dev.chain k = s.dev.chain k := by
  obtain ⟨e, hu, hdone, hends, -⟩ := h.okDev he rfl rfl
  have hchain : ∀ k, e.chain k = if k = i then x else s.dev.chain k := fun k => (Dev.chain_congr hdone.render k).trans (Dev.chain_setChain _ _ _ _)
  exact ⟨_, hu, (hchain i).trans (if_pos rfl), hends, fun k hk => (hchain k).trans (if_neg hk)⟩

theorem Accepts.spkSet (h : Accepts spkSetSpec c s) : ∃ u b, exec (.spkSet c) s = .next u ∧ capturePinned s.dev c.realm (c.arg 8 8) 256 = some b ∧
    u.dev.chain (c.arg 0 2) = { s.dev.chain (c.arg 0 2) with out := outParse b, oldOut := some ((s.dev.chain (c.arg 0 2)).oldOut.getD (s.dev.chain (c.arg 0 2)).out) } ∧
    ∀ k, k ≠ c.arg 0 2 → u.dev.chain k = s.dev.chain k := by
  obtain ⟨b, hb, -⟩ := h.verdict
  obtain ⟨u, hu, hself, -, hothers⟩ := h.oneChain (h.captured hb)
  rw [h.owner rfl]
  exact ⟨u, b, congrArg Host.Outcome.next hu, hb, hself, hothers⟩

theorem tapCharge_le {t : Nat} (h : t ≤ 32768) : tapCharge t / 64 < 65536 := by
  unfold tapCharge
  split
  · omega
  · split
    · omega
    · omega

theorem Accepts.firLoad (h : Accepts firLoadSpec c s) : ∃ u b, exec (.firLoad c) s = .next u ∧ capturePinned s.dev c.realm (c.arg 8 8) (8 * c.arg 4 4) = some b ∧
    u.dev.chain (c.arg 0 2) = { s.dev.chain (c.arg 0 2) with
      taps := q60List (c.arg 4 4) b, oldTaps := some ((s.dev.chain (c.arg 0 2)).oldTaps.getD (s.dev.chain (c.arg 0 2)).taps) } ∧
    u.dev.ctl.out.contains (.completion c.tag (firLoadSpec.okOr c s) (tapCharge (c.arg 4 4) / 64) s.dev.short) = true ∧
    ∀ k, k ≠ c.arg 0 2 → u.dev.chain k = s.dev.chain k := by
  have htaps : c.arg 4 4 ≤ 32768 := by
    have hbad := h.badArg (k := 4) (b := decide (32768 < c.arg 4 4) || c.arg 4 4 % 64 != 0) (.tail _ (.head _))
    simp only [Bool.or_eq_false_iff, decide_eq_false_iff_not] at hbad
    omega
  obtain ⟨b, hb, -⟩ := h.verdict
  obtain ⟨u, hu, hself, ⟨hout, -⟩, hothers⟩ := h.oneChain (h.captured hb)
  rw [Nat.mod_eq_of_lt (tapCharge_le htaps)] at hout
  have hcapture : capturePinned s.dev 0 (c.arg 8 8) (8 * c.arg 4 4) = some b := (if_neg (Nat.not_lt.2 htaps)).symm.trans hb
  rw [h.owner rfl]
  exact ⟨u, b, congrArg Host.Outcome.next hu, hcapture, hself, hout, hothers⟩

theorem Accepts.hoaSet (h : Accepts hoaSetSpec c s) : ∃ u, exec (.hoaSet c) s = .next u ∧
    u.dev.scene (c.arg 0 1) = ⟨c.arg 1 1, c.arg 2 1 == 1, c.arg 3 1 % 2 == 1, c.arg 3 1 / 2 == 1, c.argS 4 4⟩ ∧
    (u.dev.render.oldDec.any (fun e => e.1 == c.arg 0 1)) = true ∧ ∀ k, k ≠ c.arg 0 1 → u.dev.scene k = s.dev.scene k := by
  obtain ⟨e, hu, hdone⟩ := h.doneDev rfl
  have hscene : ∀ k, e.scene k = if k = c.arg 0 1 then (⟨c.arg 1 1, c.arg 2 1 == 1, c.arg 3 1 % 2 == 1, c.arg 3 1 / 2 == 1, c.argS 4 4⟩ : Scene) else s.dev.scene k :=
    fun k => (Dev.scene_congr hdone.render k).trans (tabGetD_tabPutD _ _ _ _ _)
  refine ⟨_, congrArg Host.Outcome.next hu, (hscene _).trans (if_pos rfl), ?_, fun k hk => (hscene k).trans (if_neg hk)⟩
  have holdDec : ∃ l, e.render.oldDec = if s.dev.render.oldDec.any (fun e => e.1 == c.arg 0 1) then s.dev.render.oldDec else s.dev.render.oldDec ++ [(c.arg 0 1, l)] :=
    ⟨_, congrArg Render.oldDec hdone.render⟩
  obtain ⟨l, holdDec⟩ := holdDec
  rw [State.setDev_dev, holdDec]
  split
  next hin => exact hin
  next => simp

/-- Settles O29: the nine commands, the effect of a load at its boundary, and the end of its computation. -/
theorem renderCommands : Obligations.RenderCommands := by
  intro s c
  refine ⟨spkLayoutLoad_held, fun h => h.spkLayoutSelect, fun h => h.renderStart, fun h => h.renderStop, fun h => h.objSet, fun h => h.spkSet, fun h => h.firLoad,
    fun h => h.hoaSet, fun h => ?_, fun l k b hb => spkLayoutLoad_run s c k hb, fun i hready => ?_⟩
  · obtain ⟨u, hu, hkept, hout, -⟩ := h.query (n := s.dev.renderCode) rfl
    have hcode : s.dev.renderCode < 65536 := by
      unfold Dev.renderCode
      split
      · decide
      · split <;> decide
    rw [Nat.mod_eq_of_lt hcode] at hout
    exact ⟨u, congrArg Host.Outcome.next hu, hkept, hout⟩
  · refine ⟨congrArg Host.Outcome.next (State.actReady_ready _ hready), unitsKept_posted (Dev.layoutLoaded_posted _ _), Dev.layoutLoaded_of_none, fun a rest hl ha => ?_⟩
    rw [Dev.layoutLoaded_of_head hl ha]
    refine ⟨rfl, _, rfl, Nat.le_max_left _ _, ?_, fun hdue => ?_⟩
    · exact (epochCeil_ge _).trans ((Nat.le_max_left _ _).trans (Nat.le_max_right _ _))
    · exact boundary_max hdue (boundary_max (epochCeil_boundary _) ⟨_, rfl⟩)

end Sys2Proof.Machine
end

section
/-! The commands of conference audio, the router and network streams (Tables 8-4 to 8-9): O26. -/

namespace Sys2Proof.Machine
open Sys2Proof

variable {s : State} {c : HostCmd} {d e : Dev} {o : OpSpec} {i j k : Nat}

theorem Dev.Completed.audio (h : d.Completed e) : e.audio = d.audio := by rw [h]
theorem Dev.Completed.legs (h : d.Completed e) : e.legs = d.legs := by rw [h]
theorem Dev.rslot_congr (h : e.audio = d.audio) (k n : Nat) : e.rslot k n = d.rslot k n := by rw [Dev.rslot, h, Dev.rslot]
theorem Dev.rx_congr (h : e.audio = d.audio) (k : Nat) : e.rx k = d.rx k := by rw [Dev.rx, h, Dev.rx]
theorem Dev.tx_congr (h : e.audio = d.audio) (k : Nat) : e.tx k = d.tx k := by rw [Dev.tx, h, Dev.tx]

/-! ### Settings -/

theorem Accepts.legAudioSet (h : Accepts legAudioSetSpec c s) : ∃ u, exec (.legAudioSet c) s = .next u ∧
    u.dev.legAud (c.arg 0 2) = ⟨c.arg 2 1, c.arg 3 1 % 2 == 1, c.arg 3 1 / 2 % 2 == 1, c.arg 3 1 / 4 % 2 == 1, c.arg 3 1 / 8 % 2 == 1, c.arg 3 1 / 16 % 4, c.argS 4 4, c.argS 8 4,
      c.arg 12 4, c.arg 16 1, c.arg 17 1, c.arg 18 1⟩ ∧ (∀ k, k ≠ c.arg 0 2 → u.dev.legAud k = s.dev.legAud k) ∧ u.dev.legs = s.dev.legs := by
  obtain ⟨e, hu, hdone⟩ := h.doneDev rfl
  have hleg : ∀ k, e.legAud k = if k = c.arg 0 2 then (⟨c.arg 2 1, c.arg 3 1 % 2 == 1, c.arg 3 1 / 2 % 2 == 1, c.arg 3 1 / 4 % 2 == 1, c.arg 3 1 / 8 % 2 == 1, c.arg 3 1 / 16 % 4,
      c.argS 4 4, c.argS 8 4, c.arg 12 4, c.arg 16 1, c.arg 17 1, c.arg 18 1⟩ : LegAud) else s.dev.legAud k := fun k => by
    rw [Dev.legAud, hdone.audio]
    exact tabGetD_tabPutD _ _ _ _ _
  exact ⟨_, congrArg Host.Outcome.next hu, (hleg _).trans (if_pos rfl), fun k hk => (hleg k).trans (if_neg hk), hdone.legs⟩

theorem Accepts.confAudioSet (h : Accepts confAudioSetSpec c s) : ∃ u, exec (.confAudioSet c) s = .next u ∧
    u.dev.conf (c.arg 0 2) = { s.dev.conf (c.arg 0 2) with talkers := c.arg 2 1, binPos := (List.range 8).map (fun k => c.arg (4 + k) 1) } ∧
    ∀ k, k ≠ c.arg 0 2 → u.dev.conf k = s.dev.conf k := by
  obtain ⟨e, hu, hdone⟩ := h.doneDev rfl
  have hconf : ∀ k, e.conf k = if k = c.arg 0 2 then { s.dev.conf (c.arg 0 2) with talkers := c.arg 2 1, binPos := (List.range 8).map (fun k => c.arg (4 + k) 1) }
      else s.dev.conf k := fun k => by
    rw [Dev.conf, hdone.audio]
    exact Dev.conf_setConf _ _ _ _
  exact ⟨_, congrArg Host.Outcome.next hu, (hconf _).trans (if_pos rfl), fun k hk => (hconf k).trans (if_neg hk)⟩

theorem Accepts.hrtfLoad (h : Accepts hrtfLoadSpec c s) :
    ∃ u b, exec (.hrtfLoad c) s = .next u ∧ capturePinned s.dev c.realm (c.arg 8 8) (c.arg 1 1 * 16 * c.arg 2 2) = some b ∧ u.dev.audio.hrtfTaps = c.arg 2 2 ∧
      (∀ k, k < c.arg 1 1 → (c.arg 0 1 + k, q60List (c.arg 2 2) (b.drop (16 * c.arg 2 2 * k)), q60List (c.arg 2 2) (b.drop (16 * c.arg 2 2 * k + 8 * c.arg 2 2))) ∈ u.dev.audio.hrtf) ∧
      (c.arg 2 2 ≠ s.dev.audio.hrtfTaps → u.dev.audio.hrtf.length = c.arg 1 1) := by
  obtain ⟨b, hb, -⟩ := h.verdict
  obtain ⟨e, hu, hdone⟩ := h.doneDev (h.captured hb)
  have hstore : ∃ old : List (Nat × List Int × List Int), (c.arg 2 2 ≠ s.dev.audio.hrtfTaps → old = []) ∧
      e.audio = { s.dev.audio with
        hrtfTaps := c.arg 2 2
        hrtf := sortBy (fun a b => decide (a.1 < b.1)) (old ++ (List.range (c.arg 1 1)).map (fun k =>
          (c.arg 0 1 + k, q60List (c.arg 2 2) (b.drop (16 * c.arg 2 2 * k)), q60List (c.arg 2 2) (b.drop (16 * c.arg 2 2 * k + 8 * c.arg 2 2))))) } :=
    ⟨_, fun hne => if_neg hne, hdone.audio⟩
  obtain ⟨old, hold, haudio⟩ := hstore
  refine ⟨_, b, congrArg Host.Outcome.next hu, hb, ?_⟩
  rw [State.setDev_dev, haudio]
  refine ⟨rfl, fun k hk => mem_sortBy.2 (List.mem_append_right _ (List.mem_map.2 ⟨k, List.mem_range.2 hk, rfl⟩)), fun hne => ?_⟩
  rw [(sortBy_perm _ _).length_eq, hold hne, List.nil_append, List.length_map, List.length_range]

/-! ### The router -/

theorem Dev.rslot_setRslot (d : Dev) {n m : Nat} (r : RSlot) (hn : n < 64) (hm : m < 64) (j : Nat) :
    (d.setRslot k n r).rslot j m = if j = k ∧ m = n then r else d.rslot j m := by
  have hkey : (64 * j + m = 64 * k + n) = (j = k ∧ m = n) := propext ⟨fun h => by omega, fun ⟨h1, h2⟩ => by omega⟩
  rw [Dev.setRslot, Dev.rslot]
  dsimp only
  rw [tabGetD_tabPutD]
  simp only [hkey]
  rfl

theorem Accepts.routeSet (h : Accepts routeSetSpec c s) : ∃ u fb dropped, exec (.routeSet c) s = .next u ∧
    (u.dev.rslot (c.arg 0 4) (c.arg 4 1)).target = some ⟨c.arg 8 4, c.argS 12 4, c.arg 16 1 % 2 == 1, c.arg 16 1 / 2 == 1, 0⟩ ∧
    (u.dev.rslot (c.arg 0 4) (c.arg 4 1)).n = 0 ∧ (u.dev.rslot (c.arg 0 4) (c.arg 4 1)).len = 32 * max 1 (c.arg 6 2) ∧
    (fb = 1 ↔ routeDirect (c.arg 8 4) (c.arg 0 4) = false) ∧ fb < 2 ∧ dropped < 2 ∧
    u.dev.ctl.out.contains (.completion c.tag (routeSetSpec.okOr c s) (fb + 2 * dropped) s.dev.short) = true ∧
    ∀ k n, n < 64 → (k, n) ≠ (c.arg 0 4, c.arg 4 1) → u.dev.rslot k n = s.dev.rslot k n := by
  have hslot : c.arg 4 1 < 64 := Nat.not_le.1 (of_decide_eq_false (h.badArg (k := 4) (b := decide (64 ≤ c.arg 4 1)) (.tail _ (.head _))))
  obtain ⟨r, hr⟩ : ∃ r, r = (s.dev.rslot (c.arg 0 4) (c.arg 4 1)).change (some ⟨c.arg 8 4, c.argS 12 4, c.arg 16 1 % 2 == 1, c.arg 16 1 / 2 == 1, 0⟩)
    (32 * max 1 (c.arg 6 2)) (c.arg 5 1) := ⟨_, rfl⟩
  have heffect : routeSetSpec.effect c s = (s.setDev ((s.dev.setRslot (c.arg 0 4) (c.arg 4 1) r.1).inc pgMix 0x0A8),
      .done .ok ((if !routeDirect (c.arg 8 4) (c.arg 0 4) then 1 else 0) + (if r.2 then 2 else 0)) s.dev.short) := by
    rw [hr]
    rfl
  obtain ⟨e, hu, hdone, ⟨hout, -⟩, -⟩ := h.okDev heffect rfl rfl
  have hrslot : ∀ k n, n < 64 → e.rslot k n = if k = c.arg 0 4 ∧ n = c.arg 4 1 then r.1 else s.dev.rslot k n := fun k n hn =>
    (Dev.rslot_congr hdone.audio k n).trans (s.dev.rslot_setRslot r.1 hslot hn k)
  have hself := hrslot (c.arg 0 4) (c.arg 4 1) hslot
  rw [if_pos ⟨rfl, rfl⟩, hr] at hself
  refine ⟨_, if !routeDirect (c.arg 8 4) (c.arg 0 4) then 1 else 0, if r.2 then 1 else 0, congrArg Host.Outcome.next hu, ?_⟩
  rw [State.setDev_dev, hself]
  refine ⟨rfl, rfl, rfl, ?_, ?_, ?_, ?_, fun k n hn hne => ?_⟩
  · cases routeDirect (c.arg 8 4) (c.arg 0 4) <;> decide
  · split <;> decide
  · split <;> decide
  · have hdetail : ((if !routeDirect (c.arg 8 4) (c.arg 0 4) then 1 else 0) + (if r.2 then 2 else 0)) % 65536 =
        (if !routeDirect (c.arg 8 4) (c.arg 0 4) then 1 else 0) + 2 * (if r.2 then 1 else 0) := by
      cases routeDirect (c.arg 8 4) (c.arg 0 4) <;> cases r.2 <;> rfl
    rw [hdetail] at hout
    exact hout
  · rw [hrslot k n hn, if_neg (show ¬(k = c.arg 0 4 ∧ n = c.arg 4 1) from fun h => hne (by rw [h.1, h.2]))]

/-- Slots of one sink cleared one after the other. -/
theorem Dev.rslot_clearSlots (sink len curve : Nat) (l : List Nat) (hl : ∀ k ∈ l, k < 64) (d : Dev) (k n : Nat) (hn : n < 64) :
    ((k = sink ∧ n ∈ l) → ((l.foldl (fun (d : Dev) k => (d.setRslot sink k ((d.rslot sink k).change none len curve).1).inc pgMix 0x0A8) d).rslot k n).target = none) ∧
    (¬(k = sink ∧ n ∈ l) → (l.foldl (fun (d : Dev) k => (d.setRslot sink k ((d.rslot sink k).change none len curve).1).inc pgMix 0x0A8) d).rslot k n = d.rslot k n) := by
  induction l generalizing d with
  | nil => exact ⟨fun h => absurd h.2 List.not_mem_nil, fun _ => rfl⟩
  | cons a t ih =>
    obtain ⟨hcleared, hkept⟩ := ih (fun k hk => hl k (List.mem_cons_of_mem a hk)) ((d.setRslot sink a ((d.rslot sink a).change none len curve).1).inc pgMix 0x0A8)
    have hone : ((d.setRslot sink a ((d.rslot sink a).change none len curve).1).inc pgMix 0x0A8).rslot k n =
        if k = sink ∧ n = a then ((d.rslot sink a).change none len curve).1 else d.rslot k n := d.rslot_setRslot _ (hl a List.mem_cons_self) hn k
    refine ⟨fun ⟨hk, hin⟩ => ?_, fun hout => ?_⟩
    · by_cases ht : n ∈ t
      · exact hcleared ⟨hk, ht⟩
      · have ha : n = a := (List.mem_cons.1 hin).resolve_right ht
        rw [List.foldl_cons, hkept fun h => ht h.2, hone, if_pos ⟨hk, ha⟩]
        rfl
    · rw [List.foldl_cons, hkept fun h => hout ⟨h.1, List.mem_cons_of_mem a h.2⟩, hone,
        if_neg (show ¬(k = sink ∧ n = a) from fun h => hout ⟨h.1, h.2 ▸ List.mem_cons_self⟩)]

theorem Accepts.routeClear (h : Accepts routeClearSpec c s) : ∃ u, exec (.routeClear c) s = .next u ∧
    (∀ n, n < 64 → (c.arg 4 1 = 255 ∨ n = c.arg 4 1) → (u.dev.rslot (c.arg 0 4) n).target = none) ∧
    ∀ k n, n < 64 → ¬ (k = c.arg 0 4 ∧ (c.arg 4 1 = 255 ∨ n = c.arg 4 1)) → u.dev.rslot k n = s.dev.rslot k n := by
  have hbad : ¬(64 ≤ c.arg 4 1 ∧ c.arg 4 1 ≠ 255) := by
    have hx := h.badArg (k := 4) (b := decide (64 ≤ c.arg 4 1) && c.arg 4 1 != 255) (.tail _ (.head _))
    simpa using hx
  obtain ⟨e, hu, hdone⟩ := h.doneDev rfl
  obtain ⟨l, hl⟩ : ∃ l, l = (if c.arg 4 1 = 255 then List.range 64 else [c.arg 4 1]).filter (fun k => (s.dev.rslot (c.arg 0 4) k).target.isSome) := ⟨_, rfl⟩
  have hmem : ∀ n, n < 64 → (n ∈ l ↔ (c.arg 4 1 = 255 ∨ n = c.arg 4 1) ∧ (s.dev.rslot (c.arg 0 4) n).target.isSome = true) := fun n hn => by
    rw [hl, List.mem_filter]
    by_cases hall : c.arg 4 1 = 255
    · simp [hall, hn]
    · simp [hall]
  have hlt : ∀ n ∈ l, n < 64 := fun n hin => by
    rw [hl] at hin
    have hn := (List.mem_filter.1 hin).1
    split at hn
    · exact List.mem_range.1 hn
    next hone =>
      have heq := List.mem_singleton.1 hn
      omega
  have hslots : ∀ k n, e.rslot k n = (l.foldl (fun (d : Dev) k =>
      (d.setRslot (c.arg 0 4) k ((d.rslot (c.arg 0 4) k).change none (32 * max 1 (c.arg 6 2)) (c.arg 5 1)).1).inc pgMix 0x0A8) s.dev).rslot k n := fun k n => by
    rw [hl]
    exact Dev.rslot_congr hdone.audio k n
  refine ⟨_, congrArg Host.Outcome.next hu, fun n hn hsel => ?_, fun k n hn hne => ?_⟩
  · rw [State.setDev_dev, hslots]
    obtain ⟨hcleared, hkept⟩ := Dev.rslot_clearSlots (c.arg 0 4) (32 * max 1 (c.arg 6 2)) (c.arg 5 1) l hlt s.dev (c.arg 0 4) n hn
    by_cases hin : n ∈ l
    · exact hcleared ⟨rfl, hin⟩
    · rw [hkept fun h => hin h.2]
      rw [hmem n hn] at hin
      simpa [hsel] using hin
  · rw [State.setDev_dev, hslots]
    exact (Dev.rslot_clearSlots _ _ _ l hlt s.dev k n hn).2 fun ⟨hk, hin⟩ => hne ⟨hk, ((hmem n hn).1 hin).1⟩

theorem Accepts.routeQuery (h : Accepts routeQuerySpec c s) : ∃ u w, exec (.routeQuery c) s = .next u ∧ UnitsKept s u ∧
    u.dev.ctl.out.contains (.completion c.tag (routeQuerySpec.okOr c s) ((s.dev.rslot (c.arg 0 4) (c.arg 4 1)).sounding.length % 65536) w) = true ∧
    ((s.dev.rslot (c.arg 0 4) (c.arg 4 1)).target = none → w = 0) := by
  have heffect : ∃ w, routeQuerySpec.effect c s = (s.setDev s.dev, .done .ok (s.dev.rslot (c.arg 0 4) (c.arg 4 1)).sounding.length w) ∧
      ((s.dev.rslot (c.arg 0 4) (c.arg 4 1)).target = none → w = 0) := by
    unfold OpSpec.effect routeQuerySpec devRun
    dsimp only
    cases (s.dev.rslot (c.arg 0 4) (c.arg 4 1)).target with
    | none => exact ⟨_, rfl, fun _ => rfl⟩
    | some t => exact ⟨_, rfl, fun hnone => absurd hnone (by simp)⟩
  obtain ⟨w, heffect, hw⟩ := heffect
  obtain ⟨u, hu, hkept, hout, -⟩ := h.query heffect
  exact ⟨u, w, congrArg Host.Outcome.next hu, hkept, hout, hw⟩

theorem audioCommands : AudioCommands := fun _ _ =>
  ⟨fun h => h.legAudioSet, fun h => h.confAudioSet, fun h => h.hrtfLoad, fun h => h.routeSet, fun h => h.routeClear, fun h => h.routeQuery⟩

/-! ### Fades of a slot (R392, R393) -/

/-- The first of a sorted list has the least key, when the order looks at the key first. -/
theorem head_sortBy_least {α : Type} {lt : α → α → Bool} {g : α → Int} (hlt : ∀ a b, lt a b = true → g a ≤ g b) (hge : ∀ a b, lt a b = false → g b ≤ g a)
    {l : List α} {x : α} (h : (sortBy lt l).head? = some x) : ∀ y ∈ l, g x ≤ g y := by
  have hstep : ∀ (a : α) (m : List α), (∀ x, m.head? = some x → ∀ y ∈ m, g x ≤ g y) → ∀ x, (insertBy lt a m).head? = some x → ∀ y ∈ insertBy lt a m, g x ≤ g y := by
    intro a m hm x hx y hy
    have hcases := List.mem_cons.1 ((insertBy_perm lt a m).mem_iff.1 hy)
    cases m with
    | nil =>
      obtain rfl : a = x := Option.some.inj hx
      rw [List.mem_singleton.1 hy]
    | cons b t =>
      have hb := hm b rfl
      rw [insertBy] at hx
      split at hx
      next hab =>
        obtain rfl : a = x := Option.some.inj hx
        rcases hcases with rfl | hin
        · exact le_refl _
        · exact (hlt _ _ hab).trans (hb y hin)
      next hab =>
        obtain rfl : b = x := Option.some.inj hx
        rcases hcases with rfl | hin
        · exact hge _ _ (by simpa using hab)
        · exact hb y hin
  have hfold : ∀ (l m : List α), (∀ x, m.head? = some x → ∀ y ∈ m, g x ≤ g y) →
      ∀ x, (l.foldl (fun acc x => insertBy lt x acc) m).head? = some x → ∀ y ∈ l.foldl (fun acc x => insertBy lt x acc) m, g x ≤ g y := by
    intro l
    induction l with
    | nil => exact fun m hm => hm
    | cons a t ih => exact fun m hm => ih _ (hstep a m hm)
  exact fun y hy => hfold l [] (fun _ hx => absurd hx (by simp)) x h y (mem_sortBy.2 hy)

theorem routeFades : RouteFades := by
  intro r t len curve hfour
  refine ⟨rfl, rfl, rfl, fun ht => ?_, fun hlt => ?_, fun x y hx hgone hy => ?_⟩
  · have hover : decide (4 < r.sounding.length + (if t.isSome then 1 else 0)) = false := by simp [ht, hfour]
    simp only [RSlot.change, hover, Bool.false_eq_true, if_false]
  · have hover : decide (4 < r.sounding.length + (if t.isSome then 1 else 0)) = false := by
      rw [decide_eq_false_iff_not]
      split <;> omega
    simp only [RSlot.change, hover, Bool.false_eq_true, if_false, and_self]
  · dsimp only [RSlot.change] at hgone
    by_cases hover : decide (4 < r.sounding.length + (if t.isSome then 1 else 0)) = true
    · rw [if_pos hover] at hgone
      split at hgone
      next least hleast =>
        have hxl : x = least := by
          by_contra hne
          exact hgone ((List.mem_erase_of_ne hne).2 hx)
        rw [hxl]
        refine head_sortBy_least (g := fun c => c.weight) (fun a b hab => ?_) (fun a b hab => ?_) hleast y hy
        · simp only [Bool.or_eq_true, Bool.and_eq_true, decide_eq_true_eq] at hab
          omega
        · simp only [Bool.or_eq_false_iff, decide_eq_false_iff_not] at hab
          omega
      next => exact absurd hx hgone
    · rw [if_neg hover] at hgone
      exact absurd hx hgone

/-! ### Network streams -/

theorem Dev.discardQueue_egressWork (d : Dev) (k : Nat) : d.EgressWork (d.discardQueue k) := (d.onQueue_egressWork k _).trans (Dev.emptied_egressWork _ _)

theorem Dev.bindQueue_egressWork (d : Dev) (k : Nat) (b : BindState) (obj port : Nat) : d.EgressWork (d.bindQueue k b obj port) := by
  unfold Dev.bindQueue
  exact (Dev.EgressWork.ite (.refl d) ((Dev.bump_noted d _ _ _).egressWork.trans (Dev.discardQueue_egressWork _ _))).trans (Dev.onQueue_egressWork _ _ _)

theorem Dev.EgressWork.audio (h : d.EgressWork e) : e.audio = d.audio := by rw [h]

theorem Dev.bindQueue_bound (d : Dev) (k : Nat) (b : BindState) (obj port : Nat) :
    ((d.bindQueue k b obj port).queue k).bind = b ∧ ((d.bindQueue k b obj port).queue k).obj = obj := by
  rw [Dev.bindQueue, Dev.queue_onQueue, if_pos rfl]
  exact ⟨rfl, rfl⟩

theorem Accepts.netRxOpen (h : Accepts netRxOpenSpec c s) : ∃ u b, exec (.netRxOpen c) s = .next u ∧ capturePinned s.dev 0 (c.arg 8 8) 128 = some b ∧
    u.dev.rx (c.arg 0 1) = { opened := true, desc := netParse b } ∧ (∀ k, k ≠ c.arg 0 1 → u.dev.rx k = s.dev.rx k) ∧ u.dev.audio.tx = s.dev.audio.tx := by
  obtain ⟨b, hb, -⟩ := h.verdict
  obtain ⟨e, hu, hdone⟩ := h.doneDev (h.captured hb)
  have hrx : ∀ k, e.rx k = if k = c.arg 0 1 then { opened := true, desc := netParse b } else s.dev.rx k := fun k =>
    (Dev.rx_congr hdone.audio k).trans (Dev.rx_setRx _ _ _ _)
  refine ⟨_, b, congrArg Host.Outcome.next hu, hb, (hrx _).trans (if_pos rfl), fun k hk => (hrx k).trans (if_neg hk), ?_⟩
  rw [State.setDev_dev, hdone.audio]
  rfl

theorem Accepts.netRxClose (h : Accepts netRxCloseSpec c s) : ∃ u, exec (.netRxClose c) s = .next u ∧ u.dev.rx (c.arg 0 1) = {} ∧
    ∀ k, k ≠ c.arg 0 1 → u.dev.rx k = s.dev.rx k := by
  obtain ⟨e, hu, hdone⟩ := h.doneDev rfl
  have hrx : ∀ k, e.rx k = if k = c.arg 0 1 then {} else s.dev.rx k := fun k => (Dev.rx_congr hdone.audio k).trans (Dev.rx_setRx _ _ _ _)
  exact ⟨_, congrArg Host.Outcome.next hu, (hrx _).trans (if_pos rfl), fun k hk => (hrx k).trans (if_neg hk)⟩

/-- A stream written over a queue's binding. -/
theorem Dev.tx_setTx_bindQueue (d : Dev) (q : Nat) (b : BindState) (obj port i : Nat) (x : NetTx) (k : Nat) :
    ((d.bindQueue q b obj port).setTx i x).tx k = if k = i then x else d.tx k := by
  rw [Dev.tx_setTx, Dev.tx_congr (d.bindQueue_egressWork q b obj port).audio]

theorem Accepts.netTxOpen (h : Accepts netTxOpenSpec c s) : ∃ u b, exec (.netTxOpen c) s = .next u ∧ capturePinned s.dev 0 (c.arg 8 8) 128 = some b ∧
    u.dev.tx (c.arg 0 1) = { opened := true, desc := netParse b, start := (32 * blockCeil s.dev.now + 96) / (netParse b).ratio } ∧
    (u.dev.queue (netParse b).queue).bind = .stream ∧ (u.dev.queue (netParse b).queue).obj = c.arg 0 1 ∧
    u.dev.ctl.out.contains (.completion c.tag (netTxOpenSpec.okOr c s) 0 (shortOf (sampleAt (32 * blockCeil s.dev.now + 96)))) = true ∧
    ∀ k, k ≠ c.arg 0 1 → u.dev.tx k = s.dev.tx k := by
  obtain ⟨b, hb, -⟩ := h.verdict
  have hbind := s.dev.bindQueue_egressWork (netParse b).queue .stream (c.arg 0 1) (netParse b).port
  obtain ⟨e, hu, hdone, ⟨hout, -⟩, -⟩ := h.okDev (h.captured hb) (hbind.rings :) (hbind.clk :)
  have htx : ∀ k, e.tx k = if k = c.arg 0 1 then { opened := true, desc := netParse b, start := (32 * blockCeil s.dev.now + 96) / (netParse b).ratio } else s.dev.tx k :=
    fun k => (Dev.tx_congr hdone.audio k).trans (Dev.tx_setTx_bindQueue _ _ _ _ _ _ _ _)
  obtain ⟨hstate, hobj⟩ := s.dev.bindQueue_bound (netParse b).queue .stream (c.arg 0 1) (netParse b).port
  refine ⟨_, b, congrArg Host.Outcome.next hu, hb, (htx _).trans (if_pos rfl), ?_, ?_, hout, fun k hk => (htx k).trans (if_neg hk)⟩
  · rw [State.setDev_dev, hdone.queue]
    exact hstate
  · rw [State.setDev_dev, hdone.queue]
    exact hobj

theorem Accepts.netTxClose (h : Accepts netTxCloseSpec c s) : ∃ u, exec (.netTxClose c) s = .next u ∧ u.dev.tx (c.arg 0 1) = {} ∧
    (u.dev.queue (s.dev.tx (c.arg 0 1)).desc.queue).bind = .unbound ∧ ∀ k, k ≠ c.arg 0 1 → u.dev.tx k = s.dev.tx k := by
  obtain ⟨e, hu, hdone⟩ := h.doneDev rfl
  have htx : ∀ k, e.tx k = if k = c.arg 0 1 then {} else s.dev.tx k := fun k => (Dev.tx_congr hdone.audio k).trans (Dev.tx_setTx_bindQueue _ _ _ _ _ _ _ _)
  refine ⟨_, congrArg Host.Outcome.next hu, (htx _).trans (if_pos rfl), ?_, fun k hk => (htx k).trans (if_neg hk)⟩
  rw [State.setDev_dev, hdone.queue]
  exact (s.dev.bindQueue_bound (s.dev.tx (c.arg 0 1)).desc.queue .unbound 0 0).1

/-- Settles O26: the six commands of conference audio and the router, the fades of a slot, and the four commands of network streams. -/
theorem audioCommandResults : Obligations.AudioCommandResults :=
  ⟨audioCommands, routeFades, fun _ _ => ⟨fun h => h.netRxOpen, fun h => h.netRxClose, fun h => h.netTxOpen, fun h => h.netTxClose⟩⟩

end Sys2Proof.Machine
end

section
/-! Network audio received, forced steps, mutes and the level table (R394 to R399): O27. -/

namespace Sys2Proof.Machine
open Sys2Proof

variable {s : State} {d e : Dev} {f : List Byte} {p stamp k l i v : Nat} {x : UdpIn} {r : Pkt} {w : Word}

/-! ### NET_AUDIO_RECEIVE -/

theorem netAudioReceive_taken (hready : s.ready = true) (hf : frameUdp f = some (v, x)) (hm : s.dev.netMatch p v x = some k) :
    exec (.netAudioReceive p stamp f) s = .next (s.setDev (s.dev.netReceive k stamp x.data)) := by
  rw [exec_actReady (f := fun d => match frameUdp f with
    | some (vlan, u) => match d.netMatch p vlan u with
      | some k => d.netReceive k stamp u.data
      | none => d
    | none => d) rfl hready, hf]
  dsimp only
  rw [hm]

theorem netAudioReceive_unmatched (hready : s.ready = true) (h : ∀ v x, frameUdp f = some (v, x) → s.dev.netMatch p v x = none) :
    exec (.netAudioReceive p stamp f) s = .next (s.setDev s.dev) := by
  rw [exec_actReady (f := fun d => match frameUdp f with
    | some (vlan, u) => match d.netMatch p vlan u with
      | some k => d.netReceive k stamp u.data
      | none => d
    | none => d) rfl hready]
  cases hf : frameUdp f with
  | none => rfl
  | some y =>
    obtain ⟨v, x⟩ := y
    dsimp only
    rw [h v x hf]

theorem Dev.netReceive_again (d : Dev) {l : List Byte} (hr : rtpParse l stamp = some r) (hp : (d.rx k).desc.port2 ≠ 255) (hs : (d.rx k).seqs.contains r.seq = true) :
    d.netReceive k stamp l = d := by
  unfold Dev.netReceive
  dsimp only
  rw [hr]
  dsimp only
  rw [if_pos (by simp only [hs, Bool.and_true, bne_iff_ne]; exact hp)]

theorem Dev.mixEvent_noted (d : Dev) (b obj : Nat) : d.Noted (d.mixEvent b obj) := Dev.raise_noted _ _ _ _ _ _ _

theorem Dev.counter_mixEvent (d : Dev) (b obj q o : Nat) (hq : q ≠ pgErrlog) (ho : o < 4096) : (d.mixEvent b obj).counter q o = d.counter q o :=
  Dev.counter_raise _ _ _ _ _ _ _ hq ho

/-- A sequence number just received is kept. -/
theorem contains_drop_append (l : List Nat) (a : Nat) : ((l ++ [a]).drop (l.length + 1 - 2048)).contains a = true := by
  rw [List.contains_iff_mem, List.drop_append_of_le_length (by omega)]
  exact List.mem_append_right _ (List.mem_singleton.2 rfl)

theorem Dev.netReceive_first (d : Dev) {l : List Byte} (hr : rtpParse l stamp = some r) (hs : (d.rx k).desc.port2 = 255 ∨ (d.rx k).seqs.contains r.seq = false) :
    (d.netReceive k stamp l).counter pgMix 0x0B0 = d.counter pgMix 0x0B0 + 1 ∧ ((d.netReceive k stamp l).rx k).seqs.contains r.seq = true ∧
    ((d.netReceive k stamp l).rx k).desc = (d.rx k).desc ∧ ∀ j, j ≠ k → (d.netReceive k stamp l).rx j = d.rx j := by
  have hnew : ((d.rx k).desc.port2 != 255 && (d.rx k).seqs.contains r.seq) = false := by
    rcases hs with h | h
    · rw [h]
      rfl
    · rw [h, Bool.and_false]
  unfold Dev.netReceive
  dsimp only
  rw [hr]
  dsimp only
  rw [hnew, if_neg Bool.false_ne_true]
  split
  · have hrx : ∀ (y : Dev) (j : Nat), ((y.inc pgMix 0x0B8).mixEvent 2 k).rx j = y.rx j := fun y j =>
      Dev.rx_congr ((y.inc_noted pgMix 0x0B8).trans (Dev.mixEvent_noted _ _ _)).audio j
    have hinc : ∀ (y : Dev) (j : Nat), (y.inc pgMix 0x0B0).rx j = y.rx j := fun _ _ => rfl
    simp only [hrx, hinc, Dev.rx_setRx, if_true]
    refine ⟨?_, contains_drop_append _ _, trivial, fun j hj => if_neg hj⟩
    rw [Dev.counter_mixEvent _ _ _ _ _ (by decide) (by decide), Dev.inc, Dev.counter_bump, if_neg (by decide)]
    exact Dev.counter_inc_same _ _ _
  · have hinc : ∀ (y : Dev) (j : Nat), (y.inc pgMix 0x0B0).rx j = y.rx j := fun _ _ => rfl
    simp only [Dev.rx_setRx, hinc, if_true]
    refine ⟨?_, contains_drop_append _ _, trivial, fun j hj => ?_⟩
    · exact Dev.counter_inc_same _ _ _
    · rw [if_neg hj, if_neg hj]

/-! ### JB_FORCE_STEP and PLC_MUTE -/

theorem Dev.playout_congr (h : e.audio = d.audio) (l i : Nat) : e.playout l i = d.playout l i := by rw [Dev.playout, h, Dev.playout]

theorem Dev.playout_setPlayout (d : Dev) (l i : Nat) (y : Playout) : (d.setPlayout l i y).playout l i = y :=
  (tabGetD_tabPutD _ _ _ _ _).trans (if_pos rfl)

theorem Dev.jbForceStep_due (d : Dev) {b : Bool} {t : Nat} (hs : (d.playout l i).step = some (b, t)) (ht : t + fld (d.reg pgMix 0x118) 0 16 * msT ≤ d.now) :
    (d.jbForceStep l i).playout l i = { d.playout l i with forced := true } := by
  unfold Dev.jbForceStep
  dsimp only
  rw [hs]
  dsimp only
  rw [if_pos ht, Dev.playout_setPlayout]

theorem Dev.jbForceStep_none (d : Dev) (hs : (d.playout l i).step = none) : d.jbForceStep l i = d := by
  unfold Dev.jbForceStep
  dsimp only
  rw [hs]

theorem Dev.plcMute_due (d : Dev) (hs : (d.playout l i).started = true) (hm : (d.playout l i).muted = false)
    (hc : (d.playout l i).ahead + fld (d.reg pgMix 0x118) 16 16 * 96 ≤ (d.playout l i).concealed) :
    (d.plcMute l i).playout l i = { d.playout l i with muted := true, fade := true } ∧ ((d.plcMute l i).page pgMix).event.getLsbD 4 = true := by
  have hdue : (!(d.playout l i).started || (d.playout l i).muted || decide ((d.playout l i).concealed < (d.playout l i).ahead + fld (d.reg pgMix 0x118) 16 16 * 96)) = false := by
    simp [hs, hm, hc]
  unfold Dev.plcMute
  dsimp only
  rw [hdue, if_neg Bool.false_ne_true]
  refine ⟨?_, Dev.raise_bit _ _ _ _ _ _ _ (by decide)⟩
  rw [Dev.playout_congr (Dev.mixEvent_noted _ _ _).audio, Dev.playout_setPlayout]

/-! ### LEVEL_BASE_WRITE -/

theorem mix_levelBase : ∃ g, PType.mix.regAt 0x050 = some g ∧ g.rws = false ∧ FieldsApart g.flds ∧ (⟨0, 1, .rw, 0, .any⟩ : Fld) ∈ g.flds ∧
    (⟨16, 32, .rw, 0, .any⟩ : Fld) ∈ g.flds :=
  ⟨_, rfl, rfl, by unfold FieldsApart; decide, by decide, by decide⟩

theorem Dev.enableSelf_regOnly (d : Dev) (pg off : Nat) (v : Word) (kind len : Nat) :
    (d.setReg pg off (if bit (d.mergeAt pg off v).1 0 && !d.pinned 0 (fld (d.mergeAt pg off v).1 16 32 * 65536) len then setFld (d.mergeAt pg off v).1 0 1 0
      else (d.mergeAt pg off v).1)).RegOnly (d.enableSelf pg off v kind len) := by
  have herrs : ∀ (x : Dev) (es : List ErrCode) (c : Bool), x.RegOnly (if c then (x.errs pg es).err pg .badState else x.errs pg es) := fun x es c =>
    .ite ((Dev.errs_noted x pg es).regOnly.trans (Dev.err_noted _ _ _).regOnly) (Dev.errs_noted x pg es).regOnly
  have hheld : ∀ (x y : Dev) (b c : Bool), x.RegOnly y → x.RegOnly (if c then (if b then y.unhold kind pg else y).hold kind pg 0 (fld (d.mergeAt pg off v).1 16 32 * 65536) len
      else (if b then y.unhold kind pg else y)) := fun x y b c h =>
    have hun := Dev.RegOnly.ite (c := b = true) (h.trans (Dev.unhold_regOnly _ _ _)) h
    .ite (hun.trans (Dev.hold_regOnly _ _ _ _ _ _)) hun
  exact hheld _ _ _ _ (herrs _ _ _)

theorem Writable.levelBase (h : Writable s pgMix) (w : Word) : ∃ u, exec (.levelBaseWrite w) s = .next u ∧
    bit (u.dev.reg pgMix 0x050) 0 = (bit w 0 && s.dev.pinned 0 (fld w 16 32 * 65536) 131072) ∧ fld (u.dev.reg pgMix 0x050) 16 32 = fld w 16 32 := by
  obtain ⟨g, hg, hrws, hapart, henable, hbase⟩ := mix_levelBase
  have hty : pageType pgMix = some .mix := rfl
  have hlive : (s.setDev s.dev).liveWrite pgMix .mix g 0x050 w = (s.setDev s.dev).onDev fun d => d.enableSelf pgMix 0x050 w holdLevel 131072 := by
    simp only [State.liveWrite]
    rw [if_pos trivial]
  have hm : bit (s.dev.mergeAt pgMix 0x050 w).1 0 = bit w 0 := by rw [mergeAt_of_regAt hty hg, bit_mergeFields_any hapart henable]
  have hf : fld (s.dev.mergeAt pgMix 0x050 w).1 16 32 = fld w 16 32 := by rw [mergeAt_of_regAt hty hg, fld_mergeFields_any hapart hbase]
  have hreg := s.dev.enableSelf_regOnly pgMix 0x050 w holdLevel 131072
  refine ⟨_, congrArg Host.Outcome.next (h.hostWrite_live hty hg hrws rfl (by decide) (by decide) hlive hreg.2), ?_, ?_⟩
  · rw [State.setDev_dev, hreg.reg, Dev.reg_setReg, if_pos rfl, hf]
    cases hv : bit w 0
    · rw [hm, hv, Bool.false_and, if_neg Bool.false_ne_true, hm, hv, Bool.false_and]
    · rw [bit_enableWord _ _ (hm.trans hv), Bool.true_and]
  · rw [State.setDev_dev, hreg.reg, Dev.reg_setReg, if_pos rfl]
    split
    · rw [fld_setFld_apart _ _ (by decide) (by decide), hf]
    · exact hf

/-- Settles O27: a frame of network audio, the two rows of the jitter buffer, and LEVEL_BASE. -/
theorem audioEvents : Obligations.AudioEvents := by
  refine ⟨fun s p stamp f v x hready => ⟨fun hf => ?_, fun hf hm => ?_, fun k hf hm => netAudioReceive_taken hready hf hm, fun k r hf hm hr hp hs => ?_,
    fun k r hf hm hr hs => ?_⟩, fun s l i hready => ?_, fun s w h => h.levelBase w⟩
  · exact netAudioReceive_unmatched hready fun _ _ h => absurd (hf.symm.trans h) (by simp)
  · refine netAudioReceive_unmatched hready fun v' x' h => ?_
    obtain ⟨rfl, rfl⟩ : v = v' ∧ x = x' := by simpa using hf.symm.trans h
    exact hm
  · rw [netAudioReceive_taken hready hf hm, Dev.netReceive_again _ hr hp hs]
  · exact ⟨_, netAudioReceive_taken hready hf hm, Dev.netReceive_first _ hr hs⟩
  · refine ⟨exec_actReady (f := fun d => d.jbForceStep l i) rfl hready, exec_actReady (f := fun d => d.plcMute l i) rfl hready, fun b t hs ht => ?_, fun hs => ?_,
      fun hs hm hc => ?_⟩
    · exact exec_ready_spec (f := fun d => d.jbForceStep l i) rfl hready (Dev.jbForceStep_due _ hs ht)
    · rw [exec_actReady (f := fun d => d.jbForceStep l i) rfl hready, Dev.jbForceStep_none _ hs]
    · exact exec_ready_spec (f := fun d => d.plcMute l i) rfl hready (Dev.plcMute_due _ hs hm hc)

end Sys2Proof.Machine
end

section
/-! What the Mirror Link's frames and the completions of waiting commands leave alone, and the parts of a change of role (chapter 14). -/

namespace Sys2Proof.Machine
open Sys2Proof

variable {s : State} {d e x : Dev} {f : LinkHdr}

/-! ### Frames sent and commands that complete -/

theorem Dev.counters_postRing (d : Dev) (r k : Nat) (t : BitVec 32) (st : Status) (n : Nat) (v : Word) : (d.postRing r k t st n v).ctl.counters = d.ctl.counters := by
  have hwrite : ∀ (va : Nat) (l : List Byte) (y : Ring), ((d.writeVa r va l).setRing r k y).ctl.counters = d.ctl.counters := fun va l y => by
    rw [Dev.writeVa_eq]
    rfl
  have hmsix : ∀ (e : Dev) (w : Nat), (e.msix w).ctl.counters = e.ctl.counters := fun e w => by
    unfold Dev.msix
    split
    · rfl
    · split <;> rfl
  unfold Dev.postRing
  dsimp only
  split
  · rfl
  · split
    · exact (hmsix _ _).trans (hwrite _ _ _)
    · exact hwrite _ _ _

/-- A completion counts nothing but its trace record. -/
theorem Dev.counter_complete (d : Dev) (k : Token) (st : Status) (n : Nat) (v : Word) {p o : Nat} (hp : p ≠ pgObs) (ho : o < 4096) :
    (d.complete k st n v).counter p o = d.counter p o := by
  have hpost : ∀ e : Dev, e.ctl.counters = d.ctl.counters → e.counter p o = d.counter p o := fun e h => by rw [Dev.counter, h, Dev.counter]
  unfold Dev.complete
  dsimp only
  rw [Dev.counter_trace _ _ _ _ _ _ _ hp ho]
  split
  · split
    · rfl
    · exact hpost _ (Dev.counters_postRing _ _ _ _ _ _ _)
  · rfl

/-- What a frame sent over the Mirror Link and the completion of a waiting command touch: the rings, what has left the block, the records, the memories and the frames
that wait or are not acknowledged. -/
structure Dev.LinkDone (d e : Dev) : Prop where
  rest : e = { d with
    ctl := { d.ctl with rings := e.ctl.rings, counters := e.ctl.counters, msixPend := e.ctl.msixPend, out := e.ctl.out, waits := e.ctl.waits, free := e.ctl.free }
    obs := e.obs, mem := e.mem, lanes := e.lanes
    pair := { d.pair with ready := e.pair.ready, sent := e.pair.sent, txSeq := e.pair.txSeq, txAt := e.pair.txAt, ackAt := e.pair.ackAt } }
  counter : ∀ p o, p ≠ pgObs → o < 4096 → e.counter p o = d.counter p o

theorem Dev.LinkDone.refl (d : Dev) : d.LinkDone d := ⟨rfl, fun _ _ _ _ => rfl⟩
theorem Dev.LinkDone.trans (h : d.LinkDone e) (k : e.LinkDone x) : d.LinkDone x where
  rest := by
    obtain ⟨h, -⟩ := h
    obtain ⟨k, -⟩ := k
    rw [k, h]
  counter p o hp ho := (k.counter p o hp ho).trans (h.counter p o hp ho)
theorem Dev.linkDone_foldl {α : Type} (g : Dev → α → Dev) (h : ∀ d a, Dev.LinkDone d (g d a)) (l : List α) (d : Dev) : d.LinkDone (l.foldl g d) := by
  induction l generalizing d with
  | nil => exact .refl d
  | cons a t ih => exact (h d a).trans (ih _)

section Kept
variable (h : d.LinkDone e)
include h
theorem Dev.LinkDone.pairRest :
    e.pair = { d.pair with ready := e.pair.ready, sent := e.pair.sent, txSeq := e.pair.txSeq, txAt := e.pair.txAt, ackAt := e.pair.ackAt } := by rw [h.rest]
theorem Dev.LinkDone.role : e.pair.role = d.pair.role := by rw [h.rest]
theorem Dev.LinkDone.partner : e.pair.partner = d.pair.partner := by rw [h.rest]
theorem Dev.LinkDone.pages : e.ctl.pages = d.ctl.pages := by rw [h.rest]
theorem Dev.LinkDone.page (p : Nat) : e.page p = d.page p := by rw [Dev.page, h.pages, Dev.page]
theorem Dev.LinkDone.regs : e.ctl.regs = d.ctl.regs := by rw [h.rest]
theorem Dev.LinkDone.reg (p o : Nat) : e.reg p o = d.reg p o := by rw [Dev.reg, h.regs, Dev.reg]
theorem Dev.LinkDone.clk : e.clk = d.clk := by rw [h.rest]
theorem Dev.LinkDone.now : e.now = d.now := by rw [Dev.now, h.clk, Dev.now]
theorem Dev.LinkDone.legs : e.legs = d.legs := by rw [h.rest]
theorem Dev.LinkDone.egress : e.egress = d.egress := by rw [h.rest]
theorem Dev.LinkDone.flint : e.flint = d.flint := by rw [h.rest]
theorem Dev.LinkDone.boot : e.boot = d.boot := by rw [h.rest]
theorem Dev.LinkDone.accepted : e.ctl.accepted = d.ctl.accepted := by rw [h.rest]
end Kept

/-! ### The link's own operations -/

theorem Dev.emitLink_linkDone (d : Dev) (f : LinkFrame) : d.LinkDone (d.emitLink f) := ⟨rfl, fun _ _ _ _ => rfl⟩

theorem Dev.linkNext_linkDone (d : Dev) : d.LinkDone d.linkNext := by
  unfold Dev.linkNext
  split
  · exact .refl d
  · split
    · exact .refl d
    · exact ⟨rfl, fun _ _ _ _ => rfl⟩

theorem Dev.linkPump_linkDone (d : Dev) : d.LinkDone d.linkPump := Dev.linkDone_foldl _ (fun d _ => d.linkNext_linkDone) _ d

theorem Dev.linkSendAt_linkDone (d : Dev) (t : Nat) (p : Option Time) (l : List Byte) : d.LinkDone (d.linkSendAt t p l) := by
  unfold Dev.linkSendAt
  split
  · exact .refl d
  · refine Dev.LinkDone.trans ?_ (Dev.linkPump_linkDone _)
    exact ⟨rfl, fun _ _ _ _ => rfl⟩

theorem Dev.linkSend_linkDone (d : Dev) (t : Nat) (l : List Byte) : d.LinkDone (d.linkSend t l) := d.linkSendAt_linkDone t none l
theorem Dev.sendCommand_linkDone (d : Dev) (op : Nat) (c : HostCmd) (t : Time) (l : List Byte) : d.LinkDone (d.sendCommand op c t l) := d.linkSendAt_linkDone _ _ _
theorem Dev.tickFree_linkDone (d : Dev) : d.LinkDone d.tickFree := ⟨rfl, fun _ _ _ _ => rfl⟩
theorem Dev.sendHello_linkDone (d : Dev) : d.LinkDone d.sendHello := (d.linkSend_linkDone _ _).trans (Dev.tickFree_linkDone _)

theorem Dev.Completed.linkDone (h : d.Completed e) (hc : ∀ p o, p ≠ pgObs → o < 4096 → e.counter p o = d.counter p o) : d.LinkDone e where
  rest := by
    unfold Dev.Completed at h
    rw [h]
  counter := hc

theorem Dev.complete_linkDone (d : Dev) (k : Token) (st : Status) (n : Nat) (v : Word) : d.LinkDone (d.complete k st n v) :=
  (d.complete_completed k st n v).linkDone fun _ _ hp ho => d.counter_complete k st n v hp ho

theorem Dev.finish_linkDone (d : Dev) (op o : Nat) (st : Status) (n : Nat) (v : Word) : d.LinkDone (d.finish op o st n v) := by
  unfold Dev.finish
  refine Dev.LinkDone.trans ?_ (Dev.linkDone_foldl _ (fun d _ => d.complete_linkDone _ _ _ _) _ _)
  exact ⟨rfl, fun _ _ _ _ => rfl⟩

theorem Dev.finishAll_linkDone (d : Dev) (op : Nat) (st : Status) : d.LinkDone (d.finishAll op st) :=
  Dev.linkDone_foldl _ (fun d _ => (d.finish_linkDone _ _ _ _ _).trans (Dev.tickFree_linkDone _)) _ d

theorem Dev.partnerless_linkDone (d : Dev) : d.LinkDone d.partnerless :=
  (((d.finishAll_linkDone _ _).trans (Dev.finishAll_linkDone _ _ _)).trans (Dev.finishAll_linkDone _ _ _)).trans
    (Dev.linkDone_foldl _ (fun d _ => (d.finish_linkDone _ _ _ _ _).trans (Dev.tickFree_linkDone _)) _ _)

theorem Dev.partnerAnswers_linkDone (d : Dev) : d.LinkDone d.partnerAnswers := by
  unfold Dev.partnerAnswers
  split
  · exact .refl d
  · refine Dev.LinkDone.trans ?_ (Dev.linkDone_foldl _ (fun d _ => d.tickFree_linkDone.trans (Dev.complete_linkDone _ _ _ _ _)) _ _)
    exact ⟨rfl, fun _ _ _ _ => rfl⟩

/-! ### A frame taken (R661) -/

/-- The unit once a frame is accepted: the next one is awaited. -/
def Dev.took (d : Dev) : Dev := d.onPair fun p => { p with rxSeq := (p.rxSeq + 1) % 4294967296, rxAt := d.now }

/-- The unit that a frame just accepted acts on. -/
def Dev.heard (d : Dev) (f : LinkHdr) : Dev := d.linkAccept f id

theorem Dev.linkAccept_eq (d : Dev) (f : LinkHdr) (g : Dev → Dev) (hup : d.pair.up = true) (hcrc : f.crcOk = true) (hseq : f.seq = d.pair.rxSeq) :
    d.linkAccept f g = g (d.heard f) := by
  have hgood : (!f.crcOk || f.seq != d.pair.rxSeq) = false := by simp [hcrc, hseq]
  simp only [Dev.heard, Dev.linkAccept, hup, hgood, Bool.not_true, Bool.false_eq_true, if_false, id]

theorem Dev.heard_linkDone (d : Dev) (f : LinkHdr) (hup : d.pair.up = true) (hcrc : f.crcOk = true) (hseq : f.seq = d.pair.rxSeq) : d.took.LinkDone (d.heard f) := by
  have hgood : (!f.crcOk || f.seq != d.pair.rxSeq) = false := by simp [hcrc, hseq]
  unfold Dev.heard Dev.linkAccept
  rw [if_neg (by rw [hup]; exact Bool.false_ne_true), if_neg (ne_true_of_eq_false hgood)]
  refine Dev.LinkDone.trans ?_ ((Dev.linkPump_linkDone _).trans (Dev.partnerAnswers_linkDone _))
  exact ⟨rfl, fun _ _ _ _ => rfl⟩

/-! ### Packets held for the partner, and what a pair forgets -/

/-- What the unit keeps for its partner, dropped. -/
def Pair.forgotten (p : Pair) : Pair :=
  { p with
    wanted := false, joinAt := none, chunks := [], filling := false, early := [], cur := none, index := 0, count := 0, kept := [], stash := [], listed := [], nextIn := 0
    acked := 0, log := [], due := [], built := [], renders := [], own := [], theirs := [], renderOk := [], resyncing := [], surrender := none }

theorem Dev.pairForget_eq (d : Dev) : d.pairForget = d.onPair Pair.forgotten := rfl

theorem Dev.egressWork_foldl {α : Type} (g : Dev → α → Dev) (h : ∀ d a, Dev.EgressWork d (g d a)) (l : List α) (d : Dev) : d.EgressWork (l.foldl g d) := by
  induction l generalizing d with
  | nil => exact .refl d
  | cons a t ih => exact (h d a).trans (ih _)

theorem Dev.releaseHeldAll_egressWork (d : Dev) : (d.onPair fun p => { p with held := [] }).EgressWork d.releaseHeldAll :=
  Dev.egressWork_foldl _ (fun d _ => d.enqueue_egressWork _ _) _ _

theorem Dev.EgressWork.pair (h : d.EgressWork e) : e.pair = d.pair := by rw [h]
theorem Dev.EgressWork.regs (h : d.EgressWork e) : e.ctl.regs = d.ctl.regs := by rw [h]
theorem Dev.EgressWork.reg (h : d.EgressWork e) (p o : Nat) : e.reg p o = d.reg p o := by rw [Dev.reg, h.regs, Dev.reg]
theorem Dev.EgressWork.legs (h : d.EgressWork e) : e.legs = d.legs := by rw [h]
theorem Dev.EgressWork.now (h : d.EgressWork e) : e.now = d.now := by rw [Dev.now, h.clk, Dev.now]

theorem Dev.releaseHeldAll_pair (d : Dev) : d.releaseHeldAll.pair = { d.pair with held := [] } := d.releaseHeldAll_egressWork.pair

end Sys2Proof.Machine
end

section
/-! Roles, heartbeats and the timing of the Mirror Link (R652 to R664, R687): O43. -/

namespace Sys2Proof.Machine
open Sys2Proof

variable {s : State} {d e x : Dev} {f : LinkHdr} {i : Nat}

/-! ### The rows -/

theorem exec_onDev {c : Instr} {g : State → State} (hrow : exec c s = .next (s.actAll g)) (hup : s.up = true) : exec c s = .next (g s) :=
  hrow.trans (congrArg Host.Outcome.next (State.actAll_up g hup))

theorem Dev.linkAccept_down (d : Dev) (f : LinkHdr) (g : Dev → Dev) (h : d.pair.up = false) : d.linkAccept f g = d := by
  unfold Dev.linkAccept
  rw [if_pos (by rw [h]; rfl)]

theorem State.linkTake_down (g : State → State) (h : s.dev.pair.up = false) : s.linkTake f g = s.setDev s.dev := by
  simp only [State.linkTake, h, Bool.false_and, Bool.false_eq_true, if_false, State.onDev, Dev.linkAccept_down _ _ _ h]

theorem Takes.good (h : Takes s f) : (s.dev.pair.up && f.crcOk && f.seq == s.dev.pair.rxSeq) = true := by
  obtain ⟨-, -, hpair, hcrc, hseq⟩ := h
  simp [hpair, hcrc, hseq]

/-- A frame is lost while the link is down. -/
theorem exec_linkDown (hup : s.up = true) (hdown : s.dev.pair.up = false) {c : Instr} {h : HelloMsg} {es : List ManifestEntry} {rs : List LogRecord} {ds : List (Nat × Word)}
    {ns : List Nat} {b : List Byte} {p : Option (List Byte)} {rc : RelayedCmd} {j k : Nat} {v : Word}
    (hc : c ∈ [Instr.hello f h, .ack f, .manifest f es, .manifestAck f i, .log f rs, .digest f i ds, .relayReq f ns, .relayData f i p, .command f rc,
      .regWrite f i j v, .key f i j b, .state f i j b, .surrender f i, .takeover f i, .image f i j k b]) : exec c s = .next (s.setDev s.dev) := by
  have hdev : ∀ (g : Dev → Dev) (row : Instr), exec row s = .next (s.act fun d => d.linkAccept f g) → exec row s = .next (s.setDev s.dev) := fun g row hrow => by
    rw [exec_act (f := fun d => d.linkAccept f g) hrow hup, Dev.linkAccept_down _ _ _ hdown]
  have htake : ∀ (g : State → State) (row : Instr), exec row s = .next (s.actAll fun s => s.linkTake f g) → exec row s = .next (s.setDev s.dev) := fun g row hrow => by
    rw [exec_onDev hrow hup, State.linkTake_down _ hdown]
  simp only [List.mem_cons, List.not_mem_nil, or_false] at hc
  rcases hc with rfl | rfl | rfl | rfl | rfl | rfl | rfl | rfl | rfl | rfl | rfl | rfl | rfl | rfl | rfl
  · rw [exec_act (f := fun d => if d.linkUser then d.linkAccept f (fun d => d.helloTable h) else d) rfl hup, Dev.linkAccept_down _ _ _ hdown, ite_self]
  · exact hdev _ _ rfl
  · exact hdev _ _ rfl
  · exact hdev _ _ rfl
  · exact hdev _ _ rfl
  · exact hdev _ _ rfl
  · exact hdev _ _ rfl
  · exact hdev _ _ rfl
  · exact htake _ _ rfl
  · exact htake _ _ rfl
  · exact hdev _ _ rfl
  · exact hdev _ _ rfl
  · exact hdev _ _ rfl
  · exact hdev _ _ rfl
  · rw [exec_onDev rfl hup]
    simp only [hdown, Bool.false_and, Bool.false_eq_true, if_false, Dev.linkAccept_down _ _ _ hdown]

theorem pairForms : PairForms := by
  intro s f h es rs ds ns b p rc i j k v hup
  refine ⟨exec_act rfl hup, exec_act (f := fun d => d.hbInPulse i) rfl hup, exec_act rfl hup, exec_act rfl hup, exec_act rfl hup, exec_act rfl hup,
    exec_act (f := fun d => if 5 ≤ d.pair.hbRun then d.depose else d) rfl hup, exec_act rfl hup, exec_act rfl hup, exec_act rfl hup, exec_act rfl hup, exec_act rfl hup,
    exec_act rfl hup, exec_act (f := fun d => if i < 4096 then d.resyncDone i else d) rfl hup, exec_act rfl hup,
    exec_act (f := fun d => if d.linkUser then d.linkAccept f (fun d => d.helloTable h) else d) rfl hup,
    exec_act (f := fun d => d.linkAccept f id) rfl hup, exec_act (f := fun d => d.linkAccept f (fun d => d.manifest f es)) rfl hup,
    exec_act (f := fun d => d.linkAccept f (fun d => if d.pair.role = .primary then d.manifestAcked i else d)) rfl hup,
    exec_act (f := fun d => d.linkAccept f (fun d => if d.pair.role = .secondary then (d.onPair (fun p => { p with due := p.due ++ rs })).applyDue else d)) rfl hup,
    exec_act (f := fun d => d.linkAccept f (fun d =>
      if d.pair.partner = .ready then (d.onPair (fun p => { p with theirs := p.theirs ++ [(i, ds)] })).compareDigests else d)) rfl hup,
    exec_act (f := fun d => d.linkAccept f (fun d => if d.pair.role = .primary then ns.foldl (fun d i => d.relayAnswer i) d else d)) rfl hup,
    exec_act (f := fun d => d.linkAccept f (fun d => if d.pair.role = .secondary then d.relayed i p else d)) rfl hup,
    exec_onDev (g := fun s => s.linkTake f fun s => s.early (.command rc)) rfl hup, exec_onDev (g := fun s => s.linkTake f fun s => s.early (.write i j v)) rfl hup,
    exec_act (f := fun d => d.linkAccept f (fun d => if d.pair.role = .secondary then d.joinBegins.keyRelayed (i % 16384) j f.seq b else d)) rfl hup,
    exec_act (f := fun d => d.linkAccept f (fun d =>
      if d.pair.role = .secondary then d.joinBegins.onPair (fun p => { p with chunks := p.chunks ++ [(i, j, b)] }) else d)) rfl hup,
    fun htakes => ?_, fun hdown c hc => exec_linkDown hup hdown hc, fun hnot c hc => ?_⟩
  · rw [exec_onDev rfl hup]
    simp only [htakes.good, if_true]
  · simp only [List.mem_cons, List.not_mem_nil, or_false] at hc
    rcases hc with rfl | rfl | rfl | rfl | rfl | rfl
    · rw [exec_act (f := Dev.heartbeatPulse) rfl hup, Dev.heartbeatPulse, hnot]
      rfl
    · rw [exec_act (f := fun d => d.hbInPulse i) rfl hup, Dev.hbInPulse, hnot]
      rfl
    · rw [exec_act (f := Dev.heartbeatLoss) rfl hup, Dev.heartbeatLoss, hnot]
      rfl
    · rw [exec_act (f := Dev.frameSilence) rfl hup, Dev.frameSilence, hnot]
      rfl
    · rw [exec_act (f := Dev.frozenIndication) rfl hup, Dev.frozenIndication, hnot]
      rfl
    · rw [exec_act (f := Dev.roleTimeout) rfl hup, Dev.roleTimeout, hnot]
      rfl

/-! ### Events stay set -/

/-- No event bit is cleared. -/
def Dev.Raised (d e : Dev) : Prop := ∀ q k, (d.page q).event.getLsbD k = true → (e.page q).event.getLsbD k = true

theorem Dev.Raised.trans (h : d.Raised e) (k : e.Raised x) : d.Raised x := fun q n hb => k q n (h q n hb)
theorem Dev.raised_of_page (h : ∀ q, e.page q = d.page q) : d.Raised e := fun q _ hb => by rw [h q]; exact hb
theorem Dev.raised_raise (d : Dev) (p b so co : Nat) (y z : Word) : d.Raised (d.raise p b so co y z) := fun q k hb => by
  rw [Dev.raise, Dev.page_report]
  exact d.event_keeps_bit p b q k hb
theorem Dev.raised_foldl {α : Type} (g : Dev → α → Dev) (h : ∀ d a, Dev.Raised d (g d a)) (l : List α) (d : Dev) : d.Raised (l.foldl g d) := by
  induction l generalizing d with
  | nil => exact fun _ _ hb => hb
  | cons a t ih => exact (h d a).trans (ih _)

theorem Dev.raised_refl (d : Dev) : d.Raised d := fun _ _ hb => hb
theorem Dev.raised_inc (d : Dev) (p o : Nat) : d.Raised (d.inc p o) := fun _ _ hb => hb
theorem Dev.raised_onPair (d : Dev) (g : Pair → Pair) : d.Raised (d.onPair g) := fun _ _ hb => hb
theorem Dev.raised_setQueue (d : Dev) (k : Nat) (q : Queue) : d.Raised (d.setQueue k q) := fun _ _ hb => hb
theorem Dev.raised_onQueue (d : Dev) (k : Nat) (g : Queue → Queue) : d.Raised (d.onQueue k g) := fun _ _ hb => hb
theorem Dev.raised_emptied (d : Dev) (k : Nat) : d.Raised (d.emptied k) := fun _ _ hb => hb
theorem Dev.Raised.ite {c : Prop} [Decidable c] (h : d.Raised e) (k : d.Raised x) : d.Raised (if c then e else x) := by
  split
  · exact h
  · exact k
theorem Dev.raised_joinActive (d : Dev) (k : Nat) : d.Raised (d.joinActive k) := .ite d.raised_refl fun _ _ hb => hb

theorem Dev.raised_dropOversize (d : Dev) (k : Nat) : d.Raised (d.dropOversize k) := by
  have hgone : ∀ (l : List EFrame) (p q : Nat), d.Raised (l.foldl (fun d f =>
      (d.inc (pgEgress p) 0x0F0).raise (pgEgress p) 2 (0x0E8 + p) 0x0903 (fmk 0 64 q) (fmk 0 64 f.len)) d) := fun l p q =>
    Dev.raised_foldl _ (fun d f => (d.raised_inc (pgEgress p) 0x0F0).trans (Dev.raised_raise _ _ _ _ _ _ _)) l d
  unfold Dev.dropOversize
  dsimp only
  split
  · exact d.raised_refl
  · refine .ite d.raised_refl (.ite ?_ ?_)
    · exact ((hgone _ _ _).trans (Dev.raised_onQueue _ _ _)).trans (Dev.raised_emptied _ _)
    · exact (hgone _ _ _).trans (Dev.raised_onQueue _ _ _)

theorem Dev.raised_enqueue (d : Dev) (k : Nat) (f : EFrame) : d.Raised (d.enqueue k f) := by
  unfold Dev.enqueue
  refine .ite d.raised_refl (.ite ?_ (.ite ?_ ?_))
  · exact ((d.raised_inc _ _).trans (Dev.raised_onQueue _ _ _)).trans (Dev.raised_raise _ _ _ _ _ _ _)
  · exact ((d.raised_setQueue k _).trans (Dev.raised_dropOversize _ _)).trans (Dev.raised_joinActive _ _)
  · exact d.raised_setQueue k _

theorem Dev.raised_releaseHeldAll (d : Dev) : d.Raised d.releaseHeldAll := by
  have hsent := Dev.raised_foldl (fun (d : Dev) (e : Nat × Nat × EFrame) => d.enqueue e.2.1 e.2.2) (fun d e => d.raised_enqueue _ _) d.pair.held
    (d.onPair fun p => { p with held := [] })
  exact Dev.Raised.trans (d.raised_onPair _) hsent

theorem Dev.raised_releaseForget (d : Dev) : d.Raised d.releaseHeldAll.pairForget := d.raised_releaseHeldAll.trans (Dev.raised_onPair _ Pair.forgotten)
theorem Dev.releaseForget_pair (d : Dev) : d.releaseHeldAll.pairForget.pair = { d.pair.forgotten with held := [] } := by
  rw [Dev.pairForget_eq, Dev.onPair]
  dsimp only
  rw [Dev.releaseHeldAll_pair]
  rfl

theorem Dev.LinkDone.raised (h : d.LinkDone e) : d.Raised e := Dev.raised_of_page h.page

theorem Dev.pairEvent_noted (d : Dev) (b n m : Nat) : d.Noted (d.pairEvent b n m) := Dev.raise_noted _ _ _ _ _ _ _
theorem Dev.pairEvent_pair (d : Dev) (b n m : Nat) : (d.pairEvent b n m).pair = d.pair := (d.pairEvent_noted b n m).pair_eq
theorem Dev.pairEvent_bit (d : Dev) (b n m : Nat) (hb : b < 48) : ((d.pairEvent b n m).page pgPair).event.getLsbD b = true := d.raise_bit _ _ _ _ _ _ hb
theorem Dev.pairEvent_raised (d : Dev) (b n m : Nat) : d.Raised (d.pairEvent b n m) := d.raised_raise _ _ _ _ _ _

/-! ### The partner is lost (R669) -/

/-- The pair of a unit whose partner was JOINING or READY and is LOST. -/
def Pair.lost (p : Pair) (t74 t677 : Time) : Pair := { p.forgotten with held := [], partner := .lost, timed74 := t74, timed677 := t677 }

theorem Dev.partnerLost_spec (d : Dev) (h : d.pair.partner = .ready ∨ d.pair.partner = .joining) : ∃ y t u, y.LinkDone d.partnerLost ∧ y.pair = d.pair.lost t u ∧ d.Raised y ∧
    (y.page pgPair).event.getLsbD 2 = true := by
  have hlost : (decide (d.pair.partner ≠ .joining) && decide (d.pair.partner ≠ Partner.ready)) = false := by
    rcases h with h | h
    · simp [h]
    · simp [h]
  have hzero : ∀ b : Bool, (if b then d.zeroAllSlots else d).pair = d.pair ∧ ∀ q, (if b then d.zeroAllSlots else d).page q = d.page q := fun b => by
    cases b
    · exact ⟨rfl, fun _ => rfl⟩
    · exact ⟨rfl, fun _ => rfl⟩
  unfold Dev.partnerLost
  rw [if_neg (ne_true_of_eq_false hlost)]
  extract_lets d0 t d1
  obtain ⟨hpair, hpage⟩ := hzero (decide (d.pair.role = .secondary) && d.pair.filling)
  have hd0 : d.Raised d1 := (Dev.raised_of_page (e := d0) hpage).trans (d0.raised_onPair _)
  have hd0p : d0.pair = d.pair := hpair
  have hd1 : d1.pair = { d0.pair with timed74 := d1.pair.timed74, timed677 := d1.pair.timed677 } := rfl
  rw [hd0p] at hd1
  clear_value d1
  refine ⟨(d1.releaseHeldAll.pairForget.onPair fun p => { p with partner := .lost }).pairEvent 2 0 0, d1.pair.timed74, d1.pair.timed677, Dev.partnerless_linkDone _, ?_, ?_,
    Dev.pairEvent_bit _ _ _ _ (by decide)⟩
  · rw [Dev.pairEvent_pair, Dev.onPair]
    dsimp only
    rw [Dev.releaseForget_pair, hd1]
    rfl
  · exact ((hd0.trans d1.raised_releaseForget).trans (Dev.raised_onPair _ _)).trans (Dev.pairEvent_raised _ _ _ _)

theorem Dev.partnerLost_none (d : Dev) (h : ¬(d.pair.partner = .ready ∨ d.pair.partner = .joining)) : d.partnerLost = d := by
  unfold Dev.partnerLost
  rw [if_pos]
  simp only [Bool.and_eq_true, decide_eq_true_eq]
  exact ⟨fun hj => h (.inr hj), fun hr => h (.inl hr)⟩

/-- What the loss of the partner leaves of the link and of the role. -/
theorem Dev.partnerLost_keeps (d : Dev) : d.partnerLost.pair.role = d.pair.role ∧ d.partnerLost.pair.up = d.pair.up ∧ d.partnerLost.pair.hello = d.pair.hello ∧
    d.partnerLost.pair.hbOk = d.pair.hbOk ∧ d.partnerLost.pair.hbRun = d.pair.hbRun ∧ d.partnerLost.pair.takeover = d.pair.takeover ∧ d.Raised d.partnerLost := by
  by_cases h : d.pair.partner = .ready ∨ d.pair.partner = .joining
  · obtain ⟨y, t, u, hdone, hpair, hraised, -⟩ := d.partnerLost_spec h
    have hafter := hdone.pairRest
    rw [hpair] at hafter
    rw [hafter]
    exact ⟨rfl, rfl, rfl, rfl, rfl, rfl, hraised.trans hdone.raised⟩
  · rw [d.partnerLost_none h]
    exact ⟨rfl, rfl, rfl, rfl, rfl, rfl, fun _ _ hb => hb⟩

theorem Dev.partnerLost_lost (d : Dev) (h : d.pair.partner = .ready ∨ d.pair.partner = .joining) : d.partnerLost.pair.partner = .lost ∧ d.partnerLost.pair.own = [] ∧
    d.partnerLost.pair.listed = [] ∧ (d.partnerLost.page pgPair).event.getLsbD 2 = true := by
  obtain ⟨y, t, u, hdone, hpair, -, hbit⟩ := d.partnerLost_spec h
  have hafter := hdone.pairRest
  rw [hpair] at hafter
  rw [hafter]
  exact ⟨rfl, rfl, rfl, hdone.raised _ _ hbit⟩

/-! ### Heartbeats and FROZEN (R658 to R660, R687) -/

theorem nextPeriod_gt (t u : Nat) (hu : 0 < u) : t < (t / u + 1) * u := by
  have h := Nat.lt_div_mul_add (a := t) hu
  rw [Nat.add_mul, Nat.one_mul]
  exact h

/-- A READY secondary that no takeover awaits takes over at the next boundary. -/
theorem Dev.trigger_sets (d : Dev) (cause : Nat) (hrole : d.pair.role = .secondary) (hready : d.pair.partner = .ready) (hnone : d.pair.takeover = none) :
    (d.trigger cause).pair.takeover = some (nextBoundary d.now, cause) ∧ (d.trigger cause).pair.driving = true := by
  have hgo : (decide (d.pair.role ≠ .secondary) || decide (d.pair.partner ≠ Partner.ready) || d.pair.takeover.isSome) = false := by simp [hrole, hready, hnone]
  unfold Dev.trigger
  rw [if_neg (ne_true_of_eq_false hgo), (Dev.linkSend_linkDone _ _ _).pairRest]
  exact ⟨rfl, rfl⟩

/-- What a trigger leaves as it was. -/
theorem Dev.trigger_keeps (d : Dev) (cause : Nat) : (d.trigger cause).pair.role = d.pair.role ∧ (d.trigger cause).pair.hbOk = d.pair.hbOk ∧
    (d.trigger cause).pair.hbRun = d.pair.hbRun ∧ (d.trigger cause).pair.frozen = d.pair.frozen ∧ (d.trigger cause).ctl.waits = d.ctl.waits := by
  unfold Dev.trigger
  split
  · exact ⟨rfl, rfl, rfl, rfl, rfl⟩
  · refine ⟨?_, ?_, ?_, ?_, ?_⟩
    · rw [(Dev.linkSend_linkDone _ _ _).pairRest]
      rfl
    · rw [(Dev.linkSend_linkDone _ _ _).pairRest]
      rfl
    · rw [(Dev.linkSend_linkDone _ _ _).pairRest]
      rfl
    · rw [(Dev.linkSend_linkDone _ _ _).pairRest]
      rfl
    · rw [Dev.linkSend_linked _ _ _]
      rfl

theorem Dev.heartbeatPulse_due (d : Dev) (hp : d.paired = true) (h : d.pair.hbNext * (100 * usT) ≤ d.now) :
    d.heartbeatPulse.ctl.out = d.ctl.out ++ [.heartbeat (if d.pair.role = .primary then 1 else 2)] ∧ d.now < d.heartbeatPulse.pair.hbNext * (100 * usT) := by
  have hdue : (!d.paired || decide (d.now < d.pair.hbNext * (100 * usT))) = false := by simp [hp, h]
  unfold Dev.heartbeatPulse
  rw [if_neg (ne_true_of_eq_false hdue)]
  exact ⟨rfl, nextPeriod_gt _ _ (by simp [usT, nsT])⟩

theorem Dev.heartbeatPulse_early (d : Dev) (h : d.now < d.pair.hbNext * (100 * usT)) : d.heartbeatPulse = d := by
  unfold Dev.heartbeatPulse
  rw [if_pos (by simp [h])]

theorem Dev.hbInPulse_pair (d : Dev) (w : Nat) (hp : d.paired = true) (hw : 0 < w) : d.hbInPulse w = d.onPair fun p => { p with
    hbOk := true
    hbLast := d.now - w * nsT
    hbPrimary := if w ≤ 5000 then decide (500 ≤ w) && decide (w < 1500) else d.pair.hbPrimary
    hbRun := if decide (500 ≤ w) && decide (w < 1500) then d.pair.hbRun + 1 else 0
    frozen := false } := by
  have hcounts : (!d.paired || w == 0) = false := by simp [hp, Nat.pos_iff_ne_zero.1 hw]
  unfold Dev.hbInPulse
  rw [if_neg (ne_true_of_eq_false hcounts)]

theorem hbInPulse_decides (hup : s.up = true) (hp : s.dev.paired = true) (w : Nat) (hw : 0 < w) : ∃ u, exec (.hbInPulse w) s = .next u ∧ u.dev.pair.hbOk = true ∧
    u.dev.pair.frozen = false ∧ (500 ≤ w → w < 1500 → u.dev.pair.hbPrimary = true ∧ u.dev.pair.hbRun = s.dev.pair.hbRun + 1) ∧
    (w < 500 ∨ (1500 ≤ w ∧ w ≤ 5000) → u.dev.pair.hbPrimary = false ∧ u.dev.pair.hbRun = 0) ∧
    (5000 < w → u.dev.pair.hbPrimary = s.dev.pair.hbPrimary ∧ u.dev.pair.hbRun = 0) ∧ u.dev.pair.role = s.dev.pair.role ∧ u.dev.ctl = s.dev.ctl := by
  refine exec_up_spec (f := fun d => d.hbInPulse w) rfl hup ?_
  rw [State.setDev_dev, Dev.hbInPulse_pair _ _ hp hw, Dev.onPair]
  dsimp only
  refine ⟨rfl, rfl, fun h1 h2 => ?_, fun h => ?_, fun h => ?_, rfl, rfl⟩
  · rw [if_pos (by omega)]
    simp [h1, h2]
  · have hprim : (decide (500 ≤ w) && decide (w < 1500)) = false := by
      simp only [Bool.and_eq_false_iff, decide_eq_false_iff_not]
      omega
    rw [if_pos (by omega), hprim]
    exact ⟨rfl, rfl⟩
  · have hprim : (decide (500 ≤ w) && decide (w < 1500)) = false := by
      simp only [Bool.and_eq_false_iff, decide_eq_false_iff_not]
      omega
    rw [if_neg (by omega), hprim]
    exact ⟨rfl, rfl⟩

/-- The unit as HEARTBEAT_LOSS first leaves it. -/
def Dev.unheard (d : Dev) : Dev := d.onPair fun p => { p with hbOk := false, hbPrimary := false, hbRun := 0 }

/-- What HEARTBEAT_LOSS makes of that: a takeover while frames are silent too, else HB_FAULT. -/
def Dev.lossTold (d : Dev) : Dev := if d.framesSilent then d.unheard.trigger 1 else d.unheard.pairEvent 6 0 0

theorem Dev.heartbeatLoss_due (d : Dev) (hp : d.paired = true) (hok : d.pair.hbOk = true) (h : d.pair.hbLast + 500 * usT ≤ d.now) :
    d.heartbeatLoss = (if d.lossTold.pair.role = .primary
      then d.lossTold.partnerLost
      else d.lossTold) := by
  have hdue : (!d.paired || !d.pair.hbOk || decide (d.now < d.pair.hbLast + 500 * usT)) = false := by simp [hp, hok, h]
  unfold Dev.heartbeatLoss
  rw [if_neg (ne_true_of_eq_false hdue)]
  rfl

theorem Dev.heartbeatLoss_early (d : Dev) (h : d.now < d.pair.hbLast + 500 * usT) : d.heartbeatLoss = d := by
  unfold Dev.heartbeatLoss
  rw [if_pos (by simp [h])]

theorem Dev.heartbeatLoss_clears (d : Dev) (hp : d.paired = true) (hok : d.pair.hbOk = true) (h : d.pair.hbLast + 500 * usT ≤ d.now) :
    d.heartbeatLoss.pair.hbOk = false ∧ d.heartbeatLoss.pair.hbRun = 0 := by
  have hheard : d.lossTold.pair.hbOk = false ∧
      d.lossTold.pair.hbRun = 0 := by
    unfold Dev.lossTold
    split
    · obtain ⟨-, hhb, hrun, -⟩ := d.unheard.trigger_keeps 1
      exact ⟨hhb, hrun⟩
    · rw [Dev.pairEvent_pair]
      exact ⟨rfl, rfl⟩
  rw [d.heartbeatLoss_due hp hok h]
  split
  · obtain ⟨-, -, -, hhb, hrun, -⟩ := d.lossTold.partnerLost_keeps
    exact ⟨hhb.trans hheard.1, hrun.trans hheard.2⟩
  · exact hheard

/-- Heartbeats are lost while frames still come: HB_FAULT, and no takeover. -/
theorem Dev.heartbeatLoss_faults (d : Dev) (hp : d.paired = true) (hok : d.pair.hbOk = true) (h : d.pair.hbLast + 500 * usT ≤ d.now)
    (hrx : d.now < d.pair.rxAt + 500 * usT) : (d.heartbeatLoss.page pgPair).event.getLsbD 6 = true ∧ d.heartbeatLoss.pair.takeover = d.pair.takeover := by
  have hsilent : d.framesSilent = false := decide_eq_false (Nat.not_le.2 hrx)
  have hbit := d.unheard.pairEvent_bit 6 0 0 (by decide)
  have htake : (d.unheard.pairEvent 6 0 0).pair.takeover = d.pair.takeover := by
    rw [Dev.pairEvent_pair]
    rfl
  rw [d.heartbeatLoss_due hp hok h, Dev.lossTold, hsilent, if_neg Bool.false_ne_true]
  split
  · obtain ⟨-, -, -, -, -, hkept, hraised⟩ := (d.unheard.pairEvent 6 0 0).partnerLost_keeps
    exact ⟨hraised _ _ hbit, hkept.trans htake⟩
  · exact ⟨hbit, htake⟩

/-- Frames and heartbeats are both lost: a READY secondary takes over. -/
theorem Dev.heartbeatLoss_takes (d : Dev) (hp : d.paired = true) (hok : d.pair.hbOk = true) (h : d.pair.hbLast + 500 * usT ≤ d.now)
    (hrx : d.pair.rxAt + 500 * usT ≤ d.now) (hrole : d.pair.role = .secondary) (hready : d.pair.partner = .ready) (hnone : d.pair.takeover = none) :
    d.heartbeatLoss.pair.takeover = some (nextBoundary d.now, 1) ∧ d.heartbeatLoss.pair.driving = true := by
  have hsilent : d.framesSilent = true := decide_eq_true hrx
  obtain ⟨hkept, -⟩ := d.unheard.trigger_keeps 1
  rw [d.heartbeatLoss_due hp hok h, Dev.lossTold, hsilent, if_pos rfl, hkept, if_neg (show ¬ d.unheard.pair.role = .primary by rw [show d.unheard.pair.role = .secondary from hrole]; decide)]
  exact d.unheard.trigger_sets 1 hrole hready hnone

theorem Dev.frozenIndication_eq (d : Dev) (hp : d.paired = true) : d.frozenIndication =
    ((d.onPair fun p => { p with frozen := true, hbRun := 0 }).finish opFreezeNow partnerObj .ok 0 d.short).trigger 2 := by
  have hpaired : (!d.paired) = false := by rw [hp]; rfl
  unfold Dev.frozenIndication
  rw [if_neg (ne_true_of_eq_false hpaired)]
  rfl

theorem Dev.frozenIndication_frozen (d : Dev) (hp : d.paired = true) : d.frozenIndication.pair.frozen = true ∧ d.frozenIndication.waiting opFreezeNow partnerObj = false := by
  obtain ⟨-, -, -, hfrozen, hwaits⟩ :=
    ((d.onPair fun p => { p with frozen := true, hbRun := 0 }).finish opFreezeNow partnerObj .ok 0 d.short).trigger_keeps 2
  rw [d.frozenIndication_eq hp]
  refine ⟨hfrozen.trans ?_, ?_⟩
  · rw [(Dev.finish_linkDone _ _ _ _ _ _).pairRest]
    rfl
  · rw [Dev.waiting, hwaits]
    exact Dev.waiting_finish _ _ _ _ _ _

theorem Dev.frozenIndication_takes (d : Dev) (hp : d.paired = true) (hrole : d.pair.role = .secondary) (hready : d.pair.partner = .ready) (hnone : d.pair.takeover = none) :
    d.frozenIndication.pair.takeover = some (nextBoundary d.now, 2) ∧ d.frozenIndication.pair.driving = true := by
  have hdone := (d.onPair fun p => { p with frozen := true, hbRun := 0 }).finish_linkDone opFreezeNow partnerObj .ok 0 d.short
  have hnow : ((d.onPair fun p => { p with frozen := true, hbRun := 0 }).finish opFreezeNow partnerObj .ok 0 d.short).now = d.now := hdone.now
  rw [d.frozenIndication_eq hp, ← hnow]
  refine Dev.trigger_sets _ 2 (hdone.role.trans hrole) (hdone.partner.trans hready) ?_
  rw [hdone.pairRest]
  exact hnone

theorem Dev.frameSilence_takes (d : Dev) (hp : d.paired = true) (hok : d.pair.hbOk = false) (hrx : d.pair.rxAt + 500 * usT ≤ d.now) (hrole : d.pair.role = .secondary)
    (hready : d.pair.partner = .ready) (hnone : d.pair.takeover = none) :
    d.frameSilence.pair.takeover = some (nextBoundary d.now, 1) ∧ d.frameSilence.pair.driving = true := by
  have hsilent : d.framesSilent = true := decide_eq_true hrx
  unfold Dev.frameSilence
  rw [if_pos (by simp [hp, hok, hsilent])]
  exact d.trigger_sets 1 hrole hready hnone

/-! ### The role (R652 to R655, R694) -/

theorem Dev.roleTimeout_decides (d : Dev) (hp : d.paired = true) (hrole : d.pair.role = .undecided) (h : d.pair.since + 2 * secT ≤ d.now) :
    d.roleTimeout.pair.role = .primary ∧ d.roleTimeout.pair.cause = 5 ∧ d.roleTimeout.pair.changed = d.short ∧
    (d.pair.partner = .conflict → d.roleTimeout.pair.partner = .conflict) ∧
    (d.pair.partner ≠ .conflict → d.roleTimeout.pair.partner = .absent ∧ (d.roleTimeout.page pgPair).event.getLsbD 0 = true) := by
  have hdue : (!d.paired || decide (d.pair.role ≠ .undecided) || decide (d.now < d.pair.since + 2 * secT)) = false := by simp [hp, hrole, h]
  unfold Dev.roleTimeout
  rw [if_neg (ne_true_of_eq_false hdue)]
  dsimp only
  split
  next hc =>
    have hconflict : d.pair.partner = .conflict := hc
    exact ⟨rfl, rfl, rfl, fun _ => hc, fun hne => absurd hconflict hne⟩
  next hc =>
    have hconflict : d.pair.partner ≠ .conflict := hc
    rw [Dev.pairEvent_pair]
    exact ⟨rfl, rfl, rfl, fun he => absurd he hconflict, fun _ => ⟨rfl, Dev.pairEvent_bit _ _ _ _ (by decide)⟩⟩

theorem Dev.roleTimeout_early (d : Dev) (h : d.pair.role ≠ .undecided ∨ d.now < d.pair.since + 2 * secT) : d.roleTimeout = d := by
  unfold Dev.roleTimeout
  rw [if_pos]
  rcases h with h | h
  · simp [h]
  · simp [h]

/-- A primary deposed (R694). -/
theorem Dev.depose_spec (d : Dev) (hrole : d.pair.role = .primary) (habsent : d.pair.partner ≠ .absent) (hconflict : d.pair.partner ≠ .conflict) :
    d.depose.pair.role = .secondary ∧ d.depose.pair.cause = 4 ∧ d.depose.pair.partner = .lost ∧ (d.depose.page pgPair).event.getLsbD 3 = true := by
  have hgo : (decide (d.pair.role ≠ .primary) || decide (d.pair.partner = .absent) || decide (d.pair.partner = .conflict)) = false := by simp [hrole, habsent, hconflict]
  unfold Dev.depose
  rw [if_neg (ne_true_of_eq_false hgo)]
  dsimp only
  refine ⟨?_, ?_, ?_, ?_⟩
  · rw [(Dev.sendHello_linkDone _).role]
    exact congrArg Pair.role (Dev.pairEvent_pair _ _ _ _)
  · rw [(Dev.sendHello_linkDone _).pairRest]
    exact congrArg Pair.cause (Dev.pairEvent_pair _ _ _ _)
  · rw [(Dev.sendHello_linkDone _).partner]
    exact congrArg Pair.partner (Dev.pairEvent_pair _ _ _ _)
  · rw [(Dev.sendHello_linkDone _).page, Dev.page_inc]
    exact Dev.pairEvent_bit _ _ _ _ (by decide)

theorem heartbeats : Heartbeats := by
  intro s hup hp
  refine ⟨fun h => exec_up_spec (f := Dev.heartbeatPulse) rfl hup (s.dev.heartbeatPulse_due hp h), fun h => ?_, fun w hw => hbInPulse_decides hup hp w hw, fun hok h => ?_, fun _ h => ?_,
    fun hrole hready hnone => ⟨fun hok h hrx => ?_, fun hok hrx => ?_, ?_⟩, exec_up_spec (f := Dev.frozenIndication) rfl hup (s.dev.frozenIndication_frozen hp), fun hrole h => ?_,
    fun h => ?_, fun hrun hrole habsent hconflict => ?_, fun h => ?_⟩
  · rw [exec_act (f := Dev.heartbeatPulse) rfl hup, s.dev.heartbeatPulse_early h]
  · refine exec_up_spec (f := Dev.heartbeatLoss) rfl hup ?_
    obtain ⟨hhb, hrun⟩ := s.dev.heartbeatLoss_clears hp hok h
    exact ⟨hhb, hrun, fun hrx => s.dev.heartbeatLoss_faults hp hok h hrx⟩
  · rw [exec_act (f := Dev.heartbeatLoss) rfl hup, s.dev.heartbeatLoss_early h]
  · exact exec_up_spec (f := Dev.heartbeatLoss) rfl hup (s.dev.heartbeatLoss_takes hp hok h hrx hrole hready hnone)
  · exact exec_up_spec (f := Dev.frameSilence) rfl hup (s.dev.frameSilence_takes hp hok hrx hrole hready hnone)
  · refine exec_up_spec (f := Dev.frozenIndication) rfl hup ⟨(s.dev.frozenIndication_frozen hp).1, s.dev.frozenIndication_takes hp hrole hready hnone⟩
  · exact exec_up_spec (f := Dev.roleTimeout) rfl hup (s.dev.roleTimeout_decides hp hrole h)
  · rw [exec_act (f := Dev.roleTimeout) rfl hup, s.dev.roleTimeout_early h]
  · refine exec_up_spec (f := fun d => if 5 ≤ d.pair.hbRun then d.depose else d) rfl hup ?_
    rw [State.setDev_dev, if_pos hrun]
    exact s.dev.depose_spec hrole habsent hconflict
  · rw [exec_act (f := fun d => if 5 ≤ d.pair.hbRun then d.depose else d) rfl hup, if_neg (Nat.not_le.2 h)]

end Sys2Proof.Machine
end

section
/-! The Mirror Link: it comes up, fails, sends again and keeps silence short (R661 to R664, R670, R684): O43. -/

namespace Sys2Proof.Machine
open Sys2Proof

variable {s : State} {d e : Dev} {f fr : LinkFrame} {t n : Nat} {l : List Byte}

/-! ### Frames that wait, and frames sent -/

theorem linkCut_cons (n t : Nat) (p : Option Time) (l : List Byte) : ∃ r, linkCut (n + 1) t p l = r ∧ r ≠ [] ∧ ∀ x ∈ r, x.type = t := by
  induction n generalizing l with
  | zero =>
    rw [linkCut]
    split
    · exact ⟨_, rfl, List.cons_ne_nil _ _, by simp⟩
    · exact ⟨_, rfl, List.cons_ne_nil _ _, by simp [linkCut]⟩
  | succ n ih =>
    rw [linkCut]
    split
    · exact ⟨_, rfl, List.cons_ne_nil _ _, by simp⟩
    · obtain ⟨r, hr, -, htype⟩ := ih (l.drop 9472)
      refine ⟨_, rfl, List.cons_ne_nil _ _, fun x hx => ?_⟩
      rcases List.mem_cons.1 hx with rfl | hx
      · rfl
      · exact htype x (hr ▸ hx)

/-- A short payload is one frame. -/
theorem linkCut_short (n t : Nat) (p : Option Time) (h : l.length ≤ 9472) : linkCut (n + 1) t p l = [⟨0, t, true, l, p⟩] := by
  rw [linkCut, if_pos h]

theorem sortBy_ne_nil {α : Type} {lt : α → α → Bool} {l : List α} (h : l ≠ []) : ∃ a r, sortBy lt l = a :: r ∧ a ∈ l := by
  cases hs : sortBy lt l with
  | nil => exact absurd (hs ▸ sortBy_perm lt l).symm.eq_nil h
  | cons a r => exact ⟨a, r, rfl, mem_sortBy.1 (hs ▸ List.mem_cons_self)⟩

/-- One frame goes out: of those that wait one that ranks first, under the next number. -/
theorem Dev.linkNext_sends (d : Dev) (hready : d.pair.ready ≠ []) (hroom : d.pair.sent.length < 8192) :
    ∃ f r, f ∈ d.pair.ready ∧ sortBy (fun (a b : LinkFrame) => decide (linkRank a.type < linkRank b.type)) d.pair.ready = f :: r ∧ d.linkNext.pair.ready = r ∧
      d.linkNext.pair.sent = d.pair.sent ++ [{ f with seq := d.pair.txSeq }] ∧ d.linkNext.pair.txSeq = (d.pair.txSeq + 1) % 4294967296 := by
  obtain ⟨f, r, hsort, hin⟩ := sortBy_ne_nil (lt := fun (a b : LinkFrame) => decide (linkRank a.type < linkRank b.type)) hready
  refine ⟨f, r, hin, hsort, ?_⟩
  unfold Dev.linkNext
  rw [hsort]
  dsimp only
  rw [if_neg (Nat.not_le.2 hroom)]
  exact ⟨rfl, rfl, rfl⟩

/-- What has been sent stays first. -/
theorem Dev.linkNext_head (d : Dev) (h : d.pair.sent.head? = some fr) : d.linkNext.pair.sent.head? = some fr := by
  unfold Dev.linkNext
  split
  · exact h
  · split
    · exact h
    · have hne : d.pair.sent ≠ [] := fun hnil => by
        rw [hnil] at h
        cases h
      exact (List.head?_append_of_ne_nil _ hne).trans h

theorem Dev.linkNexts_head (r : List Nat) (d : Dev) (h : d.pair.sent.head? = some fr) : (r.foldl (fun (d : Dev) _ => d.linkNext) d).pair.sent.head? = some fr := by
  induction r generalizing d with
  | nil => exact h
  | cons a t ih => exact ih _ (d.linkNext_head h)

/-- The first message over a link that has sent nothing. -/
theorem Dev.linkSend_first (d : Dev) (t : Nat) (l : List Byte) (hup : d.pair.up = true) (hready : d.pair.ready = []) (hsent : d.pair.sent = []) :
    ∃ fr, (d.linkSend t l).pair.sent.head? = some fr ∧ fr.type = t ∧ fr.seq = d.pair.txSeq := by
  obtain ⟨r, hcut, hne, htype⟩ := linkCut_cons (l.length / 9472) t none l
  unfold Dev.linkSend Dev.linkSendAt
  rw [if_neg (by rw [hup]; exact Bool.false_ne_true), hready, hcut, List.nil_append]
  unfold Dev.linkPump
  dsimp only
  obtain ⟨n, hn⟩ := Nat.exists_eq_succ_of_ne_zero (fun h0 : r.length = 0 => hne (List.eq_nil_of_length_eq_zero h0))
  rw [hn, List.range_succ_eq_map, List.foldl_cons]
  obtain ⟨f, q, hin, -, -, hout, -⟩ := ({ d with pair := { d.pair with ready := r } } : Dev).linkNext_sends hne (by rw [hsent]; decide)
  refine ⟨{ f with seq := d.pair.txSeq }, Dev.linkNexts_head _ _ ?_, htype f hin, rfl⟩
  rw [hout, hsent]
  rfl

/-- A short message over a link with nothing waiting and room goes out at once. -/
theorem Dev.linkSend_now (d : Dev) (t : Nat) (hl : l.length ≤ 9472) (hup : d.pair.up = true) (hready : d.pair.ready = []) (hroom : d.pair.sent.length < 8192) :
    (d.linkSend t l).pair.sent = d.pair.sent ++ [⟨d.pair.txSeq, t, true, l, none⟩] ∧ (d.linkSend t l).pair.txSeq = (d.pair.txSeq + 1) % 4294967296 := by
  unfold Dev.linkSend Dev.linkSendAt
  rw [if_neg (by rw [hup]; exact Bool.false_ne_true), hready, linkCut_short _ _ _ hl, List.nil_append]
  obtain ⟨f, q, -, hsort, -, hout, htx⟩ := ({ d with pair := { d.pair with ready := [⟨0, t, true, l, none⟩] } } : Dev).linkNext_sends (List.cons_ne_nil _ _) hroom
  have hf : (⟨0, t, true, l, none⟩ : LinkFrame) = f := (List.cons.inj hsort).1
  subst hf
  exact ⟨hout, htx⟩

/-! ### LINK_UP and LINK_FAIL -/

theorem Dev.mirrorUp_comes (d : Dev) (huser : d.linkUser = true) (hphase : d.boot.phase ≠ .recovery) (hlanes : (d.plink 8).up = true) (hdown : d.pair.up = false) :
    d.mirrorUp.pair.up = true ∧ d.mirrorUp.pair.hello = false ∧ d.mirrorUp.pair.rxSeq = 0 ∧ ∃ fr, d.mirrorUp.pair.sent.head? = some fr ∧ fr.type = ltHello ∧ fr.seq = 0 := by
  have hgo : (!d.linkUser || !(d.plink 8).up || d.pair.up) = false := by simp [huser, hlanes, hdown]
  unfold Dev.mirrorUp
  rw [if_neg (ne_true_of_eq_false hgo)]
  extract_lets d1
  obtain ⟨d0, hd0⟩ : ∃ d0 : Dev, d0 = d.onPair (fun p => { p with
    up := true, hello := false, txSeq := 0, rxSeq := 0, sent := [], ready := [], ackAt := d.now, rxAt := d.now, txAt := d.now, retxAt := d.now }) := ⟨_, rfl⟩
  have hd1 : d1 = d0.sendHello := by rw [hd0]
  have hdone : d0.LinkDone d1 := hd1 ▸ d0.sendHello_linkDone
  have hboot : ¬ d1.boot.phase = .recovery := by
    rw [hdone.boot, hd0]
    exact hphase
  obtain ⟨fr, hhead, htype, hseq⟩ := d0.linkSend_first ltHello d0.helloBytes (by rw [hd0]; rfl) (by rw [hd0]; rfl) (by rw [hd0]; rfl)
  have hsent : d1.pair.sent.head? = some fr := by
    rw [hd1]
    exact hhead
  rw [if_neg hboot, hdone.pairRest, hd0]
  rw [hd0] at hseq
  exact ⟨rfl, rfl, rfl, fr, hsent, htype, hseq⟩

theorem Dev.mirrorFail_fails (d : Dev) (hup : d.pair.up = true) (hfail : (d.plink 8).up = false ∨ (d.pair.sent ≠ [] ∧ d.pair.ackAt + 2 * msT ≤ d.now)) :
    d.mirrorFail.pair.up = false ∧ d.mirrorFail.pair.hello = false ∧ d.mirrorFail.pair.role = d.pair.role ∧
    (d.pair.role = .primary → d.pair.partner = .ready ∨ d.pair.partner = .joining → d.mirrorFail.pair.partner = .lost ∧ (d.mirrorFail.page pgPair).event.getLsbD 2 = true) := by
  have hgo : (!d.pair.up || ((d.plink 8).up && (d.pair.sent.isEmpty || decide (d.now < d.pair.ackAt + 2 * msT)))) = false := by
    rcases hfail with h | ⟨h, hack⟩
    · simp [hup, h]
    · simp [hup, h, hack]
  unfold Dev.mirrorFail
  rw [if_neg (ne_true_of_eq_false hgo)]
  obtain ⟨d0, hd0⟩ : ∃ d0 : Dev, d0 = d.onPair (fun p => { p with up := false, hello := false }) := ⟨_, rfl⟩
  rw [← hd0]
  have hrole : d0.pair.role = d.pair.role := by rw [hd0]; rfl
  have hpartner : d0.pair.partner = d.pair.partner := by rw [hd0]; rfl
  have hdown : d0.pair.up = false ∧ d0.pair.hello = false := by
    rw [hd0]
    exact ⟨rfl, rfl⟩
  dsimp only
  split
  next h =>
    obtain ⟨hkrole, hkup, hkhello, -⟩ := d0.partnerLost_keeps
    refine ⟨hkup.trans hdown.1, hkhello.trans hdown.2, hkrole.trans hrole, fun _ hp => ?_⟩
    obtain ⟨hlost, -, -, hbit⟩ := d0.partnerLost_lost (by rw [hpartner]; exact hp)
    exact ⟨hlost, hbit⟩
  next h => exact ⟨hdown.1, hdown.2, hrole, fun hprim => absurd (Or.inl (hrole.trans hprim)) h⟩

theorem Dev.mirrorFail_stays (d : Dev) (hlanes : (d.plink 8).up = true) (h : d.pair.sent = [] ∨ d.now < d.pair.ackAt + 2 * msT) : d.mirrorFail = d := by
  unfold Dev.mirrorFail
  rw [if_pos]
  rcases h with h | h
  · simp [hlanes, h]
  · simp [hlanes, h]

/-! ### LINK_RETRANSMIT and LINK_IDLE_ACK -/

/-- Frames emitted again leave the pair and the counters as they were. -/
theorem Dev.emitLinks (r : List LinkFrame) (d : Dev) : (r.foldl (fun (d : Dev) f => d.emitLink f) d).pair = d.pair ∧
    (r.foldl (fun (d : Dev) f => d.emitLink f) d).ctl.out.length = d.ctl.out.length + r.length ∧ (r.foldl (fun (d : Dev) f => d.emitLink f) d).clk = d.clk ∧
    (r.foldl (fun (d : Dev) f => d.emitLink f) d).ctl.counters = d.ctl.counters := by
  induction r generalizing d with
  | nil => exact ⟨rfl, rfl, rfl, rfl⟩
  | cons f t ih =>
    have hone : (d.emitLink f).ctl.out.length = d.ctl.out.length + 1 := List.length_append
    obtain ⟨hpair, hout, hclk, hcount⟩ := ih (d.emitLink f)
    refine ⟨hpair, ?_, hclk, hcount⟩
    rw [List.foldl_cons, hout, hone, List.length_cons]
    omega

theorem Dev.linkRetransmit_sends (d : Dev) (hup : d.pair.up = true) (hsent : d.pair.sent ≠ []) (hack : d.pair.ackAt + 20 * usT ≤ d.now) (hretx : d.pair.retxAt + 20 * usT ≤ d.now) :
    d.linkRetransmit.ctl.out.length = d.ctl.out.length + d.pair.sent.length ∧ d.linkRetransmit.pair.sent = d.pair.sent ∧ d.linkRetransmit.pair.retxAt = d.now ∧
    d.linkRetransmit.counter pgPair 0x0C0 = d.counter pgPair 0x0C0 + 1 := by
  have hmax : ¬ d.now < max d.pair.ackAt d.pair.retxAt + 20 * usT := by
    rcases Nat.le_total d.pair.ackAt d.pair.retxAt with h | h
    · rw [Nat.max_eq_right h]
      exact Nat.not_lt.2 hretx
    · rw [Nat.max_eq_left h]
      exact Nat.not_lt.2 hack
  have hgo : (!d.pair.up || d.pair.sent.isEmpty || decide (d.now < max d.pair.ackAt d.pair.retxAt + 20 * usT)) = false := by
    rw [decide_eq_false hmax]
    simp [hup, hsent]
  obtain ⟨hpair, hout, hclk, hcount⟩ := Dev.emitLinks d.pair.sent d
  unfold Dev.linkRetransmit
  rw [if_neg (ne_true_of_eq_false hgo)]
  dsimp only
  refine ⟨hout, ?_, ?_, ?_⟩
  · exact (congrArg Pair.sent hpair :)
  · exact congrArg Clock.now hclk
  · rw [Dev.counter_inc_same]
    exact congrArg (· + 1) (congrArg (fun c => tabGetD 0 c (regKey pgPair 0x0C0)) hcount)

theorem Dev.linkRetransmit_none (d : Dev) (h : d.pair.sent = []) : d.linkRetransmit = d := by
  unfold Dev.linkRetransmit
  rw [if_pos (by simp [h])]

theorem Dev.linkIdleAck_sends (d : Dev) (hup : d.pair.up = true) (hready : d.pair.ready = []) (h : d.pair.txAt + 10 * usT ≤ d.now) :
    d.linkIdleAck = d.linkSend ltAck [] := by
  unfold Dev.linkIdleAck
  rw [if_neg]
  simp [hup, hready, h]

theorem Dev.linkIdleAck_early (d : Dev) (h : d.now < d.pair.txAt + 10 * usT) : d.linkIdleAck = d := by
  unfold Dev.linkIdleAck
  rw [if_pos (by simp [h])]

/-! ### COMMAND_RELAY_TIMEOUT and DIGEST_TIMEOUT -/

theorem Dev.relayTimeout_loses (d : Dev) (hrole : d.pair.role = .primary) (h : ∃ fr t, fr ∈ d.pair.sent ∧ fr.proc = some t ∧ t + 200 * usT ≤ d.now) :
    d.relayTimeout = d.partnerLost := by
  obtain ⟨fr, t, hin, hproc, ht⟩ := h
  unfold Dev.relayTimeout
  rw [if_pos]
  simp only [Bool.and_eq_true, decide_eq_true_eq]
  refine ⟨List.any_eq_true.2 ⟨fr, List.mem_append_left _ hin, ?_⟩, hrole⟩
  rw [hproc]
  exact decide_eq_true ht

theorem Dev.relayTimeout_none (d : Dev) (h : ∀ fr, fr ∈ d.pair.sent ++ d.pair.ready → fr.proc = none) : d.relayTimeout = d := by
  unfold Dev.relayTimeout
  rw [if_neg]
  rw [Bool.and_eq_true]
  rintro ⟨hany, -⟩
  obtain ⟨fr, hin, hold⟩ := List.any_eq_true.1 hany
  rw [h fr hin] at hold
  cases hold

theorem Dev.digestTimeout_loses (d : Dev) (h : ∃ e, e ∈ d.pair.own ∧ e.2.1 + 200 * msT ≤ d.now) : d.digestTimeout = d.partnerLost := by
  obtain ⟨e, hin, he⟩ := h
  unfold Dev.digestTimeout
  rw [if_pos (List.any_eq_true.2 ⟨e, hin, decide_eq_true he⟩)]

theorem Dev.digestTimeout_none (d : Dev) (h : d.pair.own = []) : d.digestTimeout = d := by
  unfold Dev.digestTimeout
  rw [if_neg (by rw [h]; exact Bool.false_ne_true)]

theorem linkTiming : LinkTiming := by
  intro s hup
  refine ⟨fun huser hphase hlanes hdown => exec_up_spec (f := Dev.mirrorUp) rfl hup (s.dev.mirrorUp_comes huser hphase hlanes hdown), fun hpair => ?_,
    fun hpair hfail => exec_up_spec (f := Dev.mirrorFail) rfl hup (s.dev.mirrorFail_fails hpair hfail), fun hlanes h => ?_,
    fun hpair hsent hack hretx => exec_up_spec (f := Dev.linkRetransmit) rfl hup (s.dev.linkRetransmit_sends hpair hsent hack hretx), fun h => ?_,
    fun hpair hready h hroom => ?_, fun h => ?_, fun hrole hpartner h => ?_, fun h => ?_, fun hpartner h => ?_, fun h => ?_⟩
  · rw [exec_act (f := Dev.mirrorUp) rfl hup, Dev.mirrorUp, if_pos (by rw [hpair, Bool.or_true])]
  · rw [exec_act (f := Dev.mirrorFail) rfl hup, s.dev.mirrorFail_stays hlanes h]
  · rw [exec_act (f := Dev.linkRetransmit) rfl hup, s.dev.linkRetransmit_none h]
  · obtain ⟨hsent, hseq⟩ := s.dev.linkSend_now ltAck (l := []) (Nat.zero_le _) hpair hready hroom
    refine ⟨_, ⟨s.dev.pair.txSeq, ltAck, true, [], none⟩, exec_act (f := Dev.linkIdleAck) rfl hup, ?_⟩
    rw [State.setDev_dev, s.dev.linkIdleAck_sends hpair hready h]
    exact ⟨hsent, rfl, rfl, rfl, hseq⟩
  · rw [exec_act (f := Dev.linkIdleAck) rfl hup, s.dev.linkIdleAck_early h]
  · refine exec_up_spec (f := Dev.relayTimeout) rfl hup ?_
    obtain ⟨hkept, -⟩ := s.dev.partnerLost_keeps
    obtain ⟨hlost, -, -, hbit⟩ := s.dev.partnerLost_lost hpartner
    rw [State.setDev_dev, s.dev.relayTimeout_loses hrole h]
    exact ⟨hlost, hkept.trans hrole, hbit⟩
  · rw [exec_act (f := Dev.relayTimeout) rfl hup, s.dev.relayTimeout_none h]
  · refine exec_up_spec (f := Dev.digestTimeout) rfl hup ?_
    rw [State.setDev_dev, s.dev.digestTimeout_loses h]
    exact s.dev.partnerLost_lost hpartner
  · rw [exec_act (f := Dev.digestTimeout) rfl hup, s.dev.digestTimeout_none h]

/-- Settles O43: the rows of the pair, heartbeats and roles, and the timing of the link. -/
theorem pairTiming : Obligations.PairTiming := ⟨pairForms, heartbeats, linkTiming⟩

end Sys2Proof.Machine
end

section
/-! Joining, failover and the commands of the pair (R666 to R668, R685 to R696): O45. -/

namespace Sys2Proof.Machine
open Sys2Proof

variable {s : State} {c : HostCmd} {d e x : Dev} {o : OpSpec} {k l i : Nat}

/-! ### JOIN_COMPLETE -/

theorem Dev.joinComplete_spec (d : Dev) (hrole : d.pair.role = .primary) (hpartner : d.pair.partner = .joining) (hat : d.pair.joinAt.isSome = true) :
    d.joinComplete.pair.role = .primary ∧ d.joinComplete.pair.partner = .ready ∧ d.joinComplete.pair.chunks = [] ∧ (d.joinComplete.page pgPair).event.getLsbD 1 = true ∧
    d.joinComplete.waiting 0x0C02 0 = false ∧ d.joinComplete.legs = d.legs := by
  have hgo : (decide (d.pair.partner ≠ .joining) || (decide (d.pair.role = .primary) && d.pair.joinAt.isNone)) = false := by
    obtain ⟨t, ht⟩ := Option.isSome_iff_exists.1 hat
    simp [hpartner, ht]
  have hsec : ¬ d.pair.role = .secondary := by rw [hrole]; decide
  unfold Dev.joinComplete
  rw [if_neg (ne_true_of_eq_false hgo), if_neg hsec]
  dsimp only
  obtain ⟨d0, hd0⟩ : ∃ d0 : Dev, d0 = d.onPair (fun p => { p with partner := .ready, chunks := [], filling := false, nextDigest := d.now / msT + 1 }) := ⟨_, rfl⟩
  rw [← hd0]
  have hbit := d0.pairEvent_bit 1 0 0 (by decide)
  have hpair := d0.pairEvent_pair 1 0 0
  have hlegs : (d0.pairEvent 1 0 0).legs = d.legs := by
    rw [d0.pairEvent_noted 1 0 0, hd0]
    rfl
  generalize d0.pairEvent 1 0 0 = d1 at hbit hpair hlegs ⊢
  have hdone := (d1.finish_linkDone 0x0C02 0 .ok (d1.freeWord.toNat % 65536) d1.short).trans (Dev.tickFree_linkDone _)
  refine ⟨?_, ?_, ?_, ?_, ?_, hdone.legs.trans hlegs⟩
  · rw [hdone.role, hpair, hd0]
    exact hrole
  · rw [hdone.partner, hpair, hd0]
    rfl
  · rw [hdone.pairRest, hpair, hd0]
    rfl
  · rw [hdone.page]
    exact hbit
  · exact Dev.waiting_finish _ _ _ _ _ _

theorem Dev.joinComplete_none (d : Dev) (h : d.pair.partner ≠ .joining) : d.joinComplete = d := by
  unfold Dev.joinComplete
  rw [if_pos (by simp [h])]

/-! ### FAILOVER_TAKEOVER (R690) -/

/-- The role, its cause and time, and the takeover awaited are as they were. -/
def Dev.SameRole (d e : Dev) : Prop :=
  e.pair.role = d.pair.role ∧ e.pair.cause = d.pair.cause ∧ e.pair.changed = d.pair.changed ∧ e.pair.takeover = d.pair.takeover

theorem Dev.SameRole.refl (d : Dev) : d.SameRole d := ⟨rfl, rfl, rfl, rfl⟩
theorem Dev.SameRole.trans (h : d.SameRole e) (k : e.SameRole x) : d.SameRole x :=
  ⟨k.1.trans h.1, k.2.1.trans h.2.1, k.2.2.1.trans h.2.2.1, k.2.2.2.trans h.2.2.2⟩
theorem Dev.sameRole_of_pair (h : e.pair = d.pair) : d.SameRole e := by
  unfold Dev.SameRole
  rw [h]
  exact ⟨rfl, rfl, rfl, rfl⟩
theorem Dev.sameRole_foldl {α : Type} (g : Dev → α → Dev) (h : ∀ d a, Dev.SameRole d (g d a)) (l : List α) (d : Dev) : d.SameRole (l.foldl g d) := by
  induction l generalizing d with
  | nil => exact .refl d
  | cons a t ih => exact (h d a).trans (ih _)

theorem Dev.sameRole_record (d : Dev) (n m : Nat) (v : List Int) : d.SameRole (d.record n m v) := by
  unfold Dev.record
  split
  · exact ⟨rfl, rfl, rfl, rfl⟩
  · exact .refl d

theorem Dev.sameRole_egressCurrent (d : Dev) (k : Nat) (h : KeyHalf) : d.SameRole (d.egressCurrent k h) := by
  unfold Dev.egressCurrent
  split
  · exact (d.sameRole_record _ _ _).trans (Dev.sameRole_of_pair rfl)
  · exact Dev.sameRole_of_pair rfl

theorem Dev.sameRole_settleHalves (d : Dev) : d.SameRole d.settleHalves := by
  refine Dev.sameRole_foldl _ (fun d e => ?_) _ d
  split
  · split
    · exact (Dev.sameRole_of_pair (d := d) (e := d.setSlot _ _) rfl).trans (Dev.sameRole_egressCurrent _ _ _)
    · exact .refl d
  · exact .refl d

theorem Dev.Dispatched.pair (h : d.Dispatched e) : e.pair = d.pair := by rw [h.noted]

theorem Dev.completeItem_dispatched (d : Dev) (k : Nat) (st : Status) : d.Dispatched (d.completeItem k st) := by
  have htrace : ∀ (o : Option InService) (v : Word), d.Dispatched (match o with | some s => d.itemTrace 0x0003 s.item v | none => d) := fun o v => by
    cases o with
    | none => exact .refl d
    | some s => exact d.itemTrace_dispatched _ _ _
  unfold Dev.completeItem
  dsimp only
  split
  · exact .refl d
  · exact ((((htrace _ _).trans (Dev.setDomain_dispatched _ _ _)).trans (Dev.setGcore_dispatched _ _ _)).trans (Dev.inc_dispatched _ _ (by decide))).trans
      (Dev.releaseHeld_dispatched _ _)

theorem Dev.closeFault_pair (d : Dev) (id how : Nat) : (d.closeFault id how).pair = d.pair := by
  unfold Dev.closeFault
  dsimp only
  split
  · exact (Dev.trace_noted _ _ _ _ _ _ _).pair_eq
  · rfl

theorem Dev.restartTask_pair (d : Dev) (k : Nat) : (d.restartTask k).pair = d.pair := by
  unfold Dev.restartTask
  dsimp only
  split
  · exact (Dev.closeFault_pair _ _ _).trans (d.completeItem_dispatched k .aborted).pair
  · exact (d.completeItem_dispatched k .aborted).pair

theorem Dev.encTrigger_pair (d : Dev) (i : Nat) (b : Bool) : (d.encTrigger i b).pair = d.pair := by
  unfold Dev.encTrigger
  split
  · rfl
  · rfl

theorem Dev.failover_spec (d : Dev) {t : Time} {cause : Nat} (htake : d.pair.takeover = some (t, cause)) (hrole : d.pair.role = .secondary) (hready : d.pair.partner = .ready)
    (hlisted : d.pair.listed = []) (hstash : d.pair.stash = []) (ht : t ≤ d.now) : d.failover.pair.role = .primary ∧ d.failover.pair.cause = cause ∧
    d.failover.pair.takeover = none ∧ d.failover.pair.changed = d.short ∧ d.failover.pair.partner = (if cause = 3 then .ready else .lost) ∧
    (d.failover.page pgPair).event.getLsbD 3 = true := by
  have hgo : (decide (d.now < t) || decide (d.pair.role ≠ .secondary) || decide (d.pair.partner ≠ .ready)) = false := by
    simp only [hrole, hready, ne_eq, not_true_eq_false, decide_false, Bool.or_false, decide_eq_false_iff_not]
    exact Nat.not_lt.2 ht
  unfold Dev.failover
  rw [htake]
  dsimp only
  rw [if_neg (ne_true_of_eq_false hgo)]
  obtain ⟨d0, hd0⟩ : ∃ d0 : Dev, d0 = (d.becomes .primary cause).onPair (fun p => { p with takeover := none, driving := false, listed := [], stash := [] }) := ⟨_, rfl⟩
  have hlisted0 : (d.becomes .primary cause).pair.listed.filter (fun x => !x.isEnd) = [] := by
    rw [show (d.becomes .primary cause).pair.listed = [] from hlisted]
    rfl
  have hstash0 : (d.becomes .primary cause).pair.stash = [] := hstash
  have hplayed : ∀ y : Dev, y.playListed [] = y := fun _ => rfl
  rw [hlisted0, hstash0, List.foldl_nil, hplayed, ← hd0]
  have hsettled : d0.SameRole d0.settleHalves := d0.sameRole_settleHalves
  have hwork : d0.SameRole (d0.settleHalves.geode.enc.foldl (fun (d : Dev) e => if e.2.state = .idle ∨ e.2.state = .closing then d else d.encTrigger e.1 false) d0.settleHalves) := by
    refine hsettled.trans (Dev.sameRole_foldl _ (fun d e => Dev.sameRole_of_pair ?_) _ _)
    split
    · rfl
    · exact d.encTrigger_pair _ _
  generalize d0.settleHalves.geode.enc.foldl (fun (d : Dev) e => if e.2.state = .idle ∨ e.2.state = .closing then d else d.encTrigger e.1 false) d0.settleHalves = d1 at hwork ⊢
  have htasks : d0.SameRole ((d1.garnet.cores.filter (fun e => e.2.task)).foldl (fun (d : Dev) e => d.restartTask e.1) d1) :=
    hwork.trans (Dev.sameRole_foldl _ (fun d _ => Dev.sameRole_of_pair (d.restartTask_pair _)) _ _)
  generalize (d1.garnet.cores.filter (fun e => e.2.task)).foldl (fun (d : Dev) e => d.restartTask e.1) d1 = d2 at htasks ⊢
  obtain ⟨h1, h2, h3, h4⟩ := htasks
  refine ⟨?_, ?_, ?_, ?_, ?_, ?_⟩
  · exact (congrArg Pair.role (Dev.pairEvent_pair _ _ _ _)).trans (h1.trans (by rw [hd0]; rfl))
  · exact (congrArg Pair.cause (Dev.pairEvent_pair _ _ _ _)).trans (h2.trans (by rw [hd0]; rfl))
  · exact (congrArg Pair.takeover (Dev.pairEvent_pair _ _ _ _)).trans (h4.trans (by rw [hd0]; rfl))
  · exact (congrArg Pair.changed (Dev.pairEvent_pair _ _ _ _)).trans (h3.trans (by rw [hd0]; rfl))
  · exact congrArg Pair.partner (Dev.pairEvent_pair _ _ _ _)
  · rw [Dev.page_inc]
    exact Dev.pairEvent_bit _ _ _ _ (by decide)

theorem Dev.failover_early (d : Dev) {t : Time} {cause : Nat} (htake : d.pair.takeover = some (t, cause)) (ht : d.now < t) : d.failover = d := by
  unfold Dev.failover
  rw [htake]
  dsimp only
  rw [if_pos (by simp [ht])]

theorem joinAndTakeover : JoinAndTakeover := by
  intro s hup
  refine ⟨fun hrole hpartner hat => ?_, fun hpartner => ?_, fun t cause htake hrole hready hlisted hstash => ⟨fun ht => ?_, fun ht => ?_⟩⟩
  · obtain ⟨hprim, hready, hchunks, hbit, hwait, hlegs⟩ := s.dev.joinComplete_spec hrole hpartner hat
    refine ⟨s.setDev s.dev.joinComplete, ?_, hready, hchunks, hbit, hwait, hlegs⟩
    rw [exec_onDev rfl hup]
    have hsec : decide ((s.onDev Dev.joinComplete).dev.pair.role = .secondary) = false := by
      rw [State.onDev, State.setDev_dev, hprim]
      rfl
    dsimp only
    rw [hsec, Bool.and_false, if_neg Bool.false_ne_true]
    rfl
  · rw [exec_onDev rfl hup]
    dsimp only
    rw [decide_eq_false hpartner, Bool.false_and, if_neg Bool.false_ne_true, State.onDev, s.dev.joinComplete_none hpartner]
  · exact exec_up_spec (f := Dev.failover) rfl hup (s.dev.failover_spec htake hrole hready hlisted hstash ht)
  · rw [exec_act (f := Dev.failover) rfl hup, s.dev.failover_early htake ht]

/-! ### Commands that are relayed as they are taken (R670) -/

/-- The unit once it has told its partner of a command, when it has one that has joined. -/
def State.told (s : State) (k : Token) (data : List Byte) : State :=
  if s.dev.joined && !staysHere k then s.onDev (fun d => d.sendCommand k.opcode k.cmd d.now data) else s

theorem State.told_linkDone (s : State) (k : Token) (data : List Byte) : s.dev.LinkDone (s.told k data).dev := by
  unfold State.told
  split
  · exact Dev.sendCommand_linkDone _ _ _ _ _
  · exact .refl _

theorem Dev.sendCommand_linked (d : Dev) (op : Nat) (c : HostCmd) (t : Time) (l : List Byte) : d.Linked (d.sendCommand op c t l) := by
  unfold Dev.sendCommand Dev.linkSendAt
  split
  · exact .refl d
  · exact .trans (b := { d with pair := _ }) rfl (Dev.linkPump_linked _)

theorem State.told_linked (s : State) (k : Token) (l : List Byte) : s.dev.Linked (s.told k l).dev := by
  unfold State.told
  split
  · exact Dev.sendCommand_linked _ _ _ _ _
  · exact .refl _

theorem State.takeOn_acts {k : Token} {data : List Byte} {late : Bool} (h : o.actsNow k (s.told k data).dev = some late) :
    s.takeOn o k data = o.perform k late (some data) (s.told k data) := by
  have htold : (if s.dev.joined && !staysHere k then s.onDev (fun d => d.sendCommand k.opcode k.cmd d.now data) else s) = s.told k data := rfl
  unfold State.takeOn
  rw [htold]
  dsimp only
  rw [h]

/-- A command that restarts nothing is held for its boundary. -/
theorem State.takeOn_held {k : Token} {data : List Byte} (h : o.actsNow k (s.told k data).dev = none) (hop : ¬(k.opcode = 0x0E04 ∨ k.opcode = 0x0E06)) :
    s.takeOn o k data = (s.told k data).setDev ((s.told k data).dev.holdCommand
      ⟨k, ((s.told k data).dev.effectTime k).1, ((s.told k data).dev.effectTime k).2, data⟩) := by
  have htold : (if s.dev.joined && !staysHere k then s.onDev (fun d => d.sendCommand k.opcode k.cmd d.now data) else s) = s.told k data := rfl
  unfold State.takeOn
  rw [htold]
  dsimp only
  rw [h]
  dsimp only
  rw [if_neg fun hboth => hop hboth.1]

/-- A command that passes its checks is taken on. -/
theorem runCmd_taken (hready : s.ready = true) (hroom : c.dated = true → s.dev.datedPending < 8192) (hv : o.judged c s = none) :
    ∃ l, o.capture c s.dev = some l ∧ o.verdict c false (some l) s = none ∧ runCmd o c s = s.takeOn o (o.token c s) l := by
  obtain ⟨l, hl, -⟩ := OpSpec.judged_bytes hv
  rw [OpSpec.judged, hl] at hv
  have hcrowd : ¬ OpSpec.crowded c s := fun hc => by
    simp only [OpSpec.crowded, Bool.and_eq_true, decide_eq_true_eq] at hc
    exact absurd (hroom hc.1) (by omega)
  refine ⟨l, hl, hv, ?_⟩
  have hcmd : (o.token c s).cmd = c := rfl
  rw [runCmd, State.actAllReady_ready _ hready, State.process_room o _ _ (by rw [hcmd]; exact hcrowd), hcmd, hl, hv]
  rfl

/-- A command that acts as it is processed, and passes its checks after the frame that relays it as before. -/
theorem runCmd_atOnce (hnow : o.atOnce = true) (hready : s.ready = true) (hroom : c.dated = true → s.dev.datedPending < 8192) (hv : o.judged c s = none)
    (hkept : ∀ (x : State) l, s.dev.LinkDone x.dev → o.verdict c false (some l) x = o.verdict c false (some l) s) :
    ∃ x l, s.dev.LinkDone x.dev ∧ s.dev.Linked x.dev ∧ runCmd o c s = answer (o.token c s) false (o.run c l (o.token c s) x) := by
  obtain ⟨l, -, hgood, hrun⟩ := runCmd_taken hready hroom hv
  refine ⟨s.told (o.token c s) l, l, s.told_linkDone _ _, s.told_linked _ _, ?_⟩
  have hacts : o.actsNow (o.token c s) (s.told (o.token c s) l).dev = some false := by rw [OpSpec.actsNow, if_pos hnow]
  have hpass : o.verdict c (o.token c s).relayed (some l) (s.told (o.token c s) l) = none :=
    OpSpec.verdict_relayed o c _ l ((hkept _ l (s.told_linkDone _ _)).trans hgood)
  rw [hrun, State.takeOn_acts hacts]
  rw [OpSpec.perform, show (o.token c s).cmd = c from rfl, hpass]
  rfl

/-! ### PAIR_SURRENDER (R693) -/

theorem pairSurrender_verdict (x : State) (l : List Byte) (h : s.dev.LinkDone x.dev) :
    pairSurrenderSpec.verdict c false (some l) x = pairSurrenderSpec.verdict c false (some l) s := by
  unfold OpSpec.verdict
  simp only [pairSurrenderSpec, roleIs, needsPartner, roleCheck, h.role, h.partner, h.now]

theorem Carried.pairSurrender (h : Carried pairSurrenderSpec c s) (hnone : s.dev.pair.surrender = none) : ∃ u, exec (.pairSurrender c) s = .next u ∧
    u.dev.pair.surrender = some (epochCeil (s.dev.now + 2 * msT)) ∧ u.dev.waiting 0x0C00 0 = true ∧ u.dev.pair.role = .primary := by
  obtain ⟨hready, hroom, -, hv⟩ := h
  have hrole : s.dev.pair.role = .primary := by
    obtain ⟨l, -, hgood, -⟩ := runCmd_taken hready hroom hv
    by_contra hne
    exact (firstFail_none _).1 hgood (roleIs s .primary) (by simp [pairSurrenderSpec]) (by simpa [roleIs, conflict] using hne) (by simp [roleIs, conflict, checkOrder])
  obtain ⟨x, l, hlink, -, hrun⟩ := runCmd_atOnce rfl hready hroom hv fun x l hx => pairSurrender_verdict x l hx
  have hxnone : x.dev.pair.surrender = none := by
    rw [hlink.pairRest]
    exact hnone
  obtain ⟨d1, hd1⟩ : ∃ d1 : Dev, d1 = (x.dev.onPair (fun p => { p with surrender := some (epochCeil (x.dev.now + 2 * msT)) })).linkSend ltSurrender
    (leBytes 8 (shortOf (epochCeil (x.dev.now + 2 * msT))).toNat) := ⟨_, rfl⟩
  have heffect : pairSurrenderSpec.run c l (pairSurrenderSpec.token c s) x = (x.setDev d1, .later 0 0) := by
    rw [hd1]
    simp only [pairSurrenderSpec, devRun, hxnone]
  have hdone : (x.dev.onPair (fun p => { p with surrender := some (epochCeil (x.dev.now + 2 * msT)) })).LinkDone d1 := hd1 ▸ Dev.linkSend_linkDone _ _ _
  rw [heffect] at hrun
  refine ⟨_, congrArg Host.Outcome.next hrun, ?_, ?_, ?_⟩
  · show d1.pair.surrender = _
    rw [hdone.pairRest, hlink.now]
    rfl
  · simp [answer, State.onDev, Dev.waiting, OpSpec.token, pairSurrenderSpec]
  · show d1.pair.role = _
    rw [hdone.role]
    exact hlink.role.trans hrole

/-! ### PAIR_YIELD and PAIR_JOIN -/

theorem Dev.sendHello_linked (d : Dev) : Dev.Linked { d with ctl := { d.ctl with free := d.sendHello.ctl.free } } d.sendHello := by
  have h := d.linkSend_linked ltHello d.helloBytes
  unfold Dev.sendHello Dev.tickFree Dev.Linked at *
  rw [h]

theorem Accepts.pairYield (h : Accepts pairYieldSpec c s) : ∃ u, exec (.pairYield c) s = .next u ∧ u.dev.pair.role = .secondary ∧ u.dev.pair.cause = 6 ∧
    u.dev.pair.partner = .joining ∧ u.dev.ctl.out.contains (.completion c.tag (pairYieldSpec.okOr c s) 0 s.dev.short) = true := by
  obtain ⟨d1, hd1⟩ : ∃ d1 : Dev, d1 = (s.dev.releaseHeldAll.pairForget.becomes .secondary 6).onPair (fun p => { p with partner := .joining }) := ⟨_, rfl⟩
  have hheld := s.dev.releaseHeldAll_egressWork
  have hrings : d1.ctl.rings = s.dev.ctl.rings := by
    rw [hd1]
    exact hheld.rings
  have hclk : d1.clk = s.dev.clk := by
    rw [hd1]
    exact hheld.clk
  have hsent := d1.sendHello_linked
  have heffect : pairYieldSpec.effect c s = (s.setDev d1.sendHello, .done .ok 0 d1.sendHello.short) := by
    rw [hd1]
    rfl
  obtain ⟨e, hu, hdone, ⟨hout, -⟩, -⟩ := h.okNow heffect (hsent.rings.trans hrings) (hsent.clk.trans hclk)
  have hpair : e.pair = d1.sendHello.pair := by rw [hdone]
  refine ⟨_, congrArg Host.Outcome.next hu, ?_, ?_, ?_, hout⟩
  · rw [State.setDev_dev, hpair, d1.sendHello_linkDone.role, hd1]
    rfl
  · rw [State.setDev_dev, hpair, d1.sendHello_linkDone.pairRest, hd1]
    rfl
  · rw [State.setDev_dev, hpair, d1.sendHello_linkDone.partner, hd1]
    rfl

theorem Accepts.pairJoin (h : Accepts pairJoinSpec c s) : ∃ u, exec (.pairJoin c) s = .next u ∧ u.dev.pair.partner = .joining ∧ u.dev.pair.wanted = true ∧
    u.dev.waiting 0x0C02 0 = true := by
  obtain ⟨e, hu, ⟨w, he⟩, hwait⟩ := h.laterDev (d := s.dev.onPair (fun p => { p with partner := .joining, wanted := true })) (j := 0) (x := 0) rfl
  refine ⟨_, congrArg Host.Outcome.next hu, ?_, ?_, hwait⟩
  · rw [State.setDev_dev, he]
    rfl
  · rw [State.setDev_dev, he]
    rfl

/-! ### LEG_RESYNC (R685) -/

/-- A mirrored unit carries a command out 250 µs away or later, but for the two of a network stream. -/
theorem Dev.effectTime_mirrored (d : Dev) {k : Token} (h2 : ¬(k.opcode = 0x0802 ∨ k.opcode = 0x0805)) (hm : d.mirrored = true) :
    d.now + 250 * usT ≤ (d.effectTime k).1 := by
  have hearliest : d.earliest = d.now + 250 * usT := by
    unfold Dev.earliest
    rw [hm, Bool.true_or, if_pos rfl]
  have hge : ∀ b : Bool, d.earliest ≤ (if b && !(b && decide (fullTime k.cmd.when0 k.cmd.when1 < d.earliest)) then fullTime k.cmd.when0 k.cmd.when1 else d.earliest) := fun b => by
    split
    next h =>
      simp only [Bool.and_eq_true, Bool.not_eq_true', Bool.and_eq_false_iff, decide_eq_false_iff_not] at h
      obtain ⟨hb, hb' | hlt⟩ := h
      · rw [hb] at hb'
        cases hb'
      · exact Nat.not_lt.1 hlt
    next => exact Nat.le_refl _
  rw [← hearliest]
  unfold Dev.effectTime
  dsimp only
  rw [if_neg h2]
  exact (hge _).trans ((epochCeil_ge _).trans (Nat.le_max_left _ _))

/-- A command that a mirrored unit takes is held for that boundary. -/
theorem runCmd_heldMirrored (hready : s.ready = true) (hroom : c.dated = true → s.dev.datedPending < 8192) (hv : o.judged c s = none) (hm : s.dev.mirrored = true)
    (hatOnce : o.atOnce = false) (h2 : ¬(o.opcode = 0x0802 ∨ o.opcode = 0x0805)) (hrestart : ¬(o.opcode = 0x0E04 ∨ o.opcode = 0x0E06)) :
    ∃ l due late, s.dev.now + 250 * usT ≤ due ∧
      runCmd o c s = (s.told (o.token c s) l).setDev ((s.told (o.token c s) l).dev.holdCommand ⟨o.token c s, due, late, l⟩) := by
  obtain ⟨l, -, -, hrun⟩ := runCmd_taken hready hroom hv
  obtain ⟨x, hx⟩ : ∃ x, x = s.told (o.token c s) l := ⟨_, rfl⟩
  have hlink : s.dev.LinkDone x.dev := hx ▸ s.told_linkDone _ _
  have hmx : x.dev.mirrored = true := by
    unfold Dev.mirrored at hm ⊢
    rw [hlink.role, hlink.partner, hm]
  have hdue := x.dev.effectTime_mirrored (k := o.token c s) h2 hmx
  have hlater : ¬ (x.dev.effectTime (o.token c s)).1 ≤ x.dev.now := fun hle => by
    have hlt : x.dev.now < x.dev.now + 250 * usT := Nat.lt_add_of_pos_right (by simp [usT, nsT])
    exact absurd (Nat.le_trans hdue hle) (Nat.not_le.2 hlt)
  have hacts : o.actsNow (o.token c s) x.dev = none := by
    rw [OpSpec.actsNow, if_neg (by rw [hatOnce]; exact Bool.false_ne_true)]
    dsimp only
    rw [if_neg (by simp [hlater])]
  refine ⟨l, (x.dev.effectTime (o.token c s)).1, (x.dev.effectTime (o.token c s)).2, hlink.now ▸ hdue, ?_⟩
  rw [hx] at hacts ⊢
  rw [hrun, State.takeOn_held hacts hrestart]

theorem legResync_held (hready : s.ready = true) (hroom : c.dated = true → s.dev.datedPending < 8192) (hv : legResyncSpec.judged c s = none) :
    ∃ u a, exec (.legResync c) s = .next u ∧ u.dev.ctl.accepted = s.dev.ctl.accepted ++ [a] ∧ a.tok.cmd = c ∧ a.tok.opcode = 0x0C03 ∧ s.dev.now + 250 * usT ≤ a.due ∧
      u.dev.pair.resyncing = s.dev.pair.resyncing ∧ u.dev.legs = s.dev.legs := by
  obtain ⟨l, -, hgood, -⟩ := runCmd_taken hready hroom hv
  have hrole : s.dev.pair.role = .primary := by
    by_contra hne
    exact (firstFail_none _).1 hgood (roleIs s .primary) (by simp [legResyncSpec]) (by simpa [roleIs, conflict] using hne) (by simp [roleIs, conflict, checkOrder])
  have hpartner : s.dev.pair.partner = .ready := by
    by_contra hne
    exact (firstFail_none _).1 hgood (needsPartner s) (by simp [legResyncSpec]) (by simpa [needsPartner, noPartner] using hne) (by simp [needsPartner, noPartner, checkOrder])
  have hm : s.dev.mirrored = true := by
    unfold Dev.mirrored
    rw [hrole, hpartner]
    rfl
  obtain ⟨l, due, late, hdue, hhold⟩ := runCmd_heldMirrored hready hroom hv hm rfl (by decide) (by decide)
  have hlink : s.dev.LinkDone (s.told (legResyncSpec.token c s) l).dev := s.told_linkDone _ _
  refine ⟨_, _, congrArg Host.Outcome.next hhold, congrArg (· ++ _) hlink.accepted, rfl, rfl, hdue, ?_, hlink.legs⟩
  show (s.told (legResyncSpec.token c s) l).dev.pair.resyncing = _
  rw [hlink.pairRest]


/-- The encoders of a leg are asked for a refresh. -/
theorem Dev.encTriggers (r : List Nat) (d : Dev) : (r.foldl (fun (d : Dev) i => d.encTrigger i false) d).pair = d.pair ∧
    (r.foldl (fun (d : Dev) i => d.encTrigger i false) d).ctl = d.ctl := by
  induction r generalizing d with
  | nil => exact ⟨rfl, rfl⟩
  | cons a t ih =>
    have hone : (d.encTrigger a false).ctl = d.ctl := by
      unfold Dev.encTrigger
      split
      · rfl
      · rfl
    obtain ⟨hpair, hctl⟩ := ih (d.encTrigger a false)
    exact ⟨hpair.trans (d.encTrigger_pair a false), hctl.trans hone⟩

/-- A resynchronisation of a leg begins while none runs. -/
theorem Dev.startResync_first (d : Dev) (l : Nat) (h : d.pair.resyncing = []) : (d.startResync l).pair = { d.pair with resyncing := [l] } ∧
    (d.startResync l).ctl = (d.inc pgPair 0x0B0).ctl := by
  unfold Dev.startResync
  rw [h, List.any_nil, if_neg Bool.false_ne_true, List.nil_append]
  dsimp only
  obtain ⟨hpair, hctl⟩ := Dev.encTriggers (Dev.legEncoders ((d.onPair (fun p => { p with resyncing := [l] })).inc pgPair 0x0B0) l)
    ((d.onPair (fun p => { p with resyncing := [l] })).inc pgPair 0x0B0)
  exact ⟨hpair.trans rfl, hctl.trans rfl⟩

theorem legResync_starts (s : State) (c : HostCmd) (l : List Byte) (k : Token) (late : Bool) (hop : k.opcode = 0x0C03) (hnone : s.dev.pair.resyncing = []) :
    ∃ u, answer k late (legResyncSpec.run c l k s) = u ∧ u.dev.pair.resyncing = [c.arg 0 2] ∧ u.dev.waiting 0x0C03 (c.arg 0 2) = true ∧
      u.dev.counter pgPair 0x0B0 = s.dev.counter pgPair 0x0B0 + 1 := by
  obtain ⟨hpair, hctl⟩ := s.dev.startResync_first (c.arg 0 2) hnone
  refine ⟨_, rfl, ?_, ?_, ?_⟩
  · exact congrArg Pair.resyncing hpair
  · simp [answer, State.onDev, Dev.waiting, legResyncSpec, devRun, hop]
  · have hcounters : ((s.dev.startResync (c.arg 0 2)).ctl.counters) = (s.dev.inc pgPair 0x0B0).ctl.counters := congrArg (fun x => x.counters) hctl
    rw [← s.dev.counter_inc_same]
    exact congrArg (fun t => tabGetD 0 t (regKey pgPair 0x0B0)) hcounters

/-! ### PAIR_SURRENDER on a SOLO unit -/

/-- What passes the checks that every command has: the owner's, with no byte set. -/
theorem commonChecks_blank (o : OpSpec) (now : Time) (hrealm : c.realm = 0) (hflags : c.flags = 0) (hrsvd : c.rsvd = 0) (hwhen : fullValid c.when0 c.when1 = true)
    (hargs : ∀ k, k < 40 → c.arg k 1 = 0) : ∀ y, y ∈ commonChecks o c now → y.bad = false := by
  intro y hy
  simp only [commonChecks, List.mem_append, List.mem_cons, List.mem_map, List.not_mem_nil, or_false] at hy
  rcases hy with (rfl | rfl | rfl | rfl | rfl) | ⟨k, hk, rfl⟩
  · simp [denied, hrealm]
  · simp [hflags]
  · simp [hrsvd]
  · simp [hwhen]
  · simp [dated_of_flags_zero hflags]
  · have hlt : k < 40 := List.mem_range.1 (List.mem_filter.1 hk).1
    simp [badArg, hargs k hlt]

theorem pairSurrender_solo (hready : s.ready = true) (hsolo : s.dev.pair.role = .solo) (hrealm : c.realm = 0) (hflags : c.flags = 0) (hrsvd : c.rsvd = 0)
    (hwhen : fullValid c.when0 c.when1 = true) (hargs : ∀ k, k < 40 → c.arg k 1 = 0) :
    ∃ u, exec (.pairSurrender c) s = .next u ∧ u.dev.pair = s.dev.pair ∧ u.dev.ctl.out.contains (.completion c.tag .stateConflict 0 s.dev.freeWord) = true := by
  have hfirst : ∀ b b' : Bool, firstFail ([conflict 0 true, noPartner b] ++ [refusedIf b']) = some (.stateConflict, 0) := by decide
  have hv : pairSurrenderSpec.verdict c false (pairSurrenderSpec.capture c s.dev) s = some (.stateConflict, 0) := by
    show firstFail (commonChecks pairSurrenderSpec c s.dev.now ++ [roleIs s .primary, needsPartner s] ++ [] ++ [roleCheck pairSurrenderSpec false s]) = _
    rw [List.append_nil, List.append_assoc, firstFail_append_good _ (commonChecks_blank _ _ hrealm hflags hrsvd hwhen hargs)]
    simp only [roleIs, hsolo]
    exact hfirst _ _
  obtain ⟨u, hu, hout, -⟩ := runCmd_refused hready (dated_of_flags_zero hflags) (by decide) rfl hv
  refine ⟨u, congrArg Host.Outcome.next hu, ?_, hout⟩
  have hrun := runCmd_rejected pairSurrenderSpec c hready .stateConflict 0 (by simp [OpSpec.crowded, dated_of_flags_zero hflags]) hv
  rw [← hu, hrun]
  show (s.dev.refuse (pairSurrenderSpec.token c s) .stateConflict 0).pair = s.dev.pair
  rw [Dev.refuse_posted]

theorem pairOpcodes : PairOpcodes := by
  intro s c
  refine ⟨fun h hnone => h.pairSurrender hnone, fun h => h.pairYield, fun h => h.pairJoin, legResync_held, fun l k late => legResync_starts s c l k late, fun h => ?_,
    pairSurrender_solo⟩
  obtain ⟨u, hu, hkept, hout, -⟩ := h.query (n := s.dev.pairStatus.toNat % 65536) rfl
  rw [Nat.mod_mod] at hout
  exact ⟨u, congrArg Host.Outcome.next hu, hkept, hout⟩

/-- Settles O45: a join that completes, a takeover, and the commands of the pair. -/
theorem pairCommands : Obligations.PairCommands := ⟨joinAndTakeover, pairOpcodes⟩

end Sys2Proof.Machine
end

section
/-! The Error Collector and its log (R783 to R790): what a report, a due entry and the LOST entry do. -/

namespace Sys2Proof.Machine
open Sys2Proof

variable {s : State} {d : Dev} {r : Report} {e : LogEntry}

/-! ### The observation records past an event and a counter -/

@[simp] theorem Dev.obs_msix (d : Dev) (v : Nat) : (d.msix v).obs = d.obs := by
  unfold Dev.msix
  split
  · rfl
  · split <;> rfl

@[simp] theorem Dev.obs_event (d : Dev) (p b : Nat) : (d.event p b).obs = d.obs := by
  unfold Dev.event
  dsimp only
  split
  · rfl
  · split
    · rfl
    · exact Dev.obs_msix _ _

/-- A counter of a page goes on alone. -/
theorem Dev.counter_inc_apart (d : Dev) (p : Nat) {o b : Nat} (ho : o < 4096) (hb : b < 4096) (h : o ≠ b) : (d.inc p b).counter p o = d.counter p o := by
  rw [Dev.inc, Dev.counter_bump, if_neg fun hk => h ((regKey_inj ho hb).1 hk).2]

/-! ### A report (R784, R785, R797) -/

/-- A report opens no entry: one of its source and code that has room for it is pending. -/
def Obs.coalesces (o : Obs) (r : Report) : Bool := o.pending.any fun e => e.source == r.source && e.code == r.code && decide (e.count < 4294967295)

/-- What a report counts. -/
def Dev.counted (d : Dev) (r : Report) : Dev := if d.obs.coalesces r then (d.inc pgErrlog 0x090).inc pgErrlog 0x098 else d.inc pgErrlog 0x090

/-- The Error Collector has taken a report, and no trigger has been looked at. -/
def Dev.reported (d : Dev) (r : Report) : Dev := { d.counted r with obs := (d.counted r).obs.take r }

theorem Dev.obs_reported (d : Dev) (r : Report) : (d.reported r).obs = d.obs.take r := by
  have h : (d.counted r).obs = d.obs := by
    unfold Dev.counted
    split <;> rfl
  exact congrArg (Obs.take · r) h

theorem Dev.reported_noted (d : Dev) (r : Report) : d.Noted (d.reported r) := by
  unfold Dev.reported Dev.counted
  split <;> rfl

theorem trigFind_reported (d : Dev) (r : Report) : trigFind (d.reported r) r = trigFind d r := by
  unfold trigFind
  simp only [(d.reported_noted r).reg]

theorem Dev.report_of_trigger {i : Nat} (h : trigFind d r = some i) : d.report r = (d.reported r).freeze 2 i r.source r.code := by
  rw [← trigFind_reported] at h
  unfold Dev.report
  dsimp only
  split
  next j hj =>
    obtain rfl : j = i := Option.some.inj (hj.symm.trans h)
    rfl
  next hj => exact absurd (hj.symm.trans h) (by simp)

theorem Dev.report_of_none (h : trigFind d r = none) : d.report r = d.reported r := by
  rw [← trigFind_reported] at h
  unfold Dev.report
  dsimp only
  split
  next j hj => exact absurd (hj.symm.trans h) (by simp)
  next => rfl

/-- A freeze is about the freeze record and the links alone. -/
theorem Dev.freeze_obs (d : Dev) (a b c e : Nat) : (d.freeze a b c e).obs = { d.obs with frozen := (d.freeze a b c e).obs.frozen, frz := (d.freeze a b c e).obs.frz } := by
  unfold Dev.freeze
  split <;> rfl

theorem Dev.counter_freeze (d : Dev) (a b c e q o : Nat) : (d.freeze a b c e).counter q o = d.counter q o := by
  unfold Dev.freeze
  split <;> rfl

theorem Dev.page_freeze (d : Dev) (a b c e q : Nat) : (d.freeze a b c e).page q = d.page q := by
  unfold Dev.freeze
  split <;> rfl

/-- What a report leaves of the observation records: those of the collector, and maybe a freeze. -/
theorem Dev.report_obs (d : Dev) (r : Report) : (d.report r).obs = { d.obs.take r with frozen := (d.report r).obs.frozen, frz := (d.report r).obs.frz } := by
  cases h : trigFind d r with
  | some i =>
    rw [Dev.report_of_trigger h, Dev.freeze_obs, Dev.obs_reported]
  | none => rw [Dev.report_of_none h, Dev.obs_reported]

/-- A report counts as it coalesces or not. -/
theorem Dev.counter_report_errlog (d : Dev) (r : Report) (o : Nat) : (d.report r).counter pgErrlog o = (d.counted r).counter pgErrlog o := by
  cases h : trigFind d r with
  | some i =>
    rw [Dev.report_of_trigger h, Dev.counter_freeze]
    rfl
  | none =>
    rw [Dev.report_of_none h]
    rfl

theorem Obs.take_coalesced {o : Obs} (h : o.coalesces r = true) : (o.take r).pending =
    o.pending.map fun e => if e.source == r.source && e.code == r.code && decide (e.count < 4294967295) then { e with count := e.count + 1 } else e := by
  unfold Obs.coalesces at h
  unfold Obs.take
  dsimp only
  rw [if_pos h]

theorem Obs.coalesces_none {o : Obs} (h : ∀ e, e ∈ o.pending → e.source ≠ r.source ∨ e.code ≠ r.code) : o.coalesces r = false := by
  rw [Obs.coalesces, List.any_eq_false]
  intro e he
  rcases h e he with h | h
  · simp [h]
  · simp [h]

theorem Obs.take_opened {o : Obs} (h : o.coalesces r = false) (hroom : o.pending.length < 256) :
    (o.take r).pending = o.pending ++ [⟨r.stamp, r.source, r.code, 1, r.d2, r.d3, o.order⟩] ∧ (o.take r).ring = o.ring := by
  unfold Obs.coalesces at h
  unfold Obs.take
  dsimp only
  rw [if_neg (by rw [h]; exact Bool.false_ne_true), if_pos hroom]
  exact ⟨rfl, rfl⟩

theorem Obs.take_lost {o : Obs} (h : o.coalesces r = false) (hroom : 256 ≤ o.pending.length) :
    (o.take r).pending = o.pending ∧ ∃ l, (o.take r).lost = some l ∧ l.last = r.stamp ∧ r.source ∈ l.sources := by
  unfold Obs.coalesces at h
  unfold Obs.take
  dsimp only
  rw [if_neg (by rw [h]; exact Bool.false_ne_true), if_neg (Nat.not_lt.2 hroom)]
  refine ⟨rfl, _, rfl, ?_, ?_⟩
  · split <;> rfl
  · split
    · exact List.mem_singleton_self _
    · dsimp only
      split
      next hc => exact List.contains_iff_mem.1 hc
      next => exact List.mem_append_right _ (List.mem_singleton_self _)

/-! ### ERROR_REPORT -/

/-- The report of ERROR_REPORT: the unit counts a corrected DRAM error first. -/
theorem Dev.corrected_noted (d : Dev) (r : Report) : d.Noted (d.corrected r) := by
  unfold Dev.corrected
  exact .ite ((Dev.inc_noted _ _ _).trans (Dev.event_noted _ _ _)) (.refl _)

@[simp] theorem Dev.obs_corrected (d : Dev) (r : Report) : (d.corrected r).obs = d.obs := by
  unfold Dev.corrected
  split
  · exact Dev.obs_event _ _ _
  · rfl

theorem pgMemctl_ne (k : Nat) (h : k < 16) : pgMemctl k ≠ pgErrlog := by
  interval_cases k <;> decide

theorem Dev.counter_corrected_errlog (d : Dev) (r : Report) (o : Nat) (ho : o < 4096) : (d.corrected r).counter pgErrlog o = d.counter pgErrlog o := by
  unfold Dev.corrected
  split
  next h => rw [Dev.counter_event, Dev.counter_inc_of_ne _ ho (by decide) (pgMemctl_ne _ (by omega)).symm]
  next => rfl

theorem trigFind_corrected (d : Dev) (r : Report) (t : Time) : trigFind (d.corrected r) { r with stamp := t } = trigFind d r := by
  unfold trigFind trigMatches
  simp only [(d.corrected_noted r).reg]

/-- The report of a listed source, as the row takes it. -/
def Dev.errorReport (d : Dev) (r : Report) : Dev := (d.corrected r).report { r with stamp := wholeNs r.stamp }

theorem Dev.errorReport_obs (d : Dev) (r : Report) : (d.errorReport r).obs =
    { d.obs.take { r with stamp := wholeNs r.stamp } with frozen := (d.errorReport r).obs.frozen, frz := (d.errorReport r).obs.frz } := by
  have h := Dev.report_obs (d.corrected r) { r with stamp := wholeNs r.stamp }
  rw [Dev.obs_corrected] at h
  exact h

theorem Dev.counter_errorReport (d : Dev) (r : Report) : (d.errorReport r).counter pgErrlog 0x090 = d.counter pgErrlog 0x090 + 1 ∧
    (d.obs.coalesces r = true → (d.errorReport r).counter pgErrlog 0x098 = d.counter pgErrlog 0x098 + 1) := by
  have hco : (d.corrected r).obs.coalesces { r with stamp := wholeNs r.stamp } = d.obs.coalesces r := by rw [Dev.obs_corrected]; rfl
  rw [Dev.errorReport, Dev.counter_report_errlog, Dev.counter_report_errlog, Dev.counted, hco]
  refine ⟨?_, fun h => ?_⟩
  · split
    · rw [Dev.counter_inc_apart _ _ (by decide) (by decide) (by decide), Dev.counter_inc_same, d.counter_corrected_errlog r _ (by decide)]
    · rw [Dev.counter_inc_same, d.counter_corrected_errlog r _ (by decide)]
  · rw [if_pos h, Dev.counter_inc_same, Dev.counter_inc_apart _ _ (by decide) (by decide) (by decide), d.counter_corrected_errlog r _ (by decide)]

theorem Dev.errorReport_trigger {i : Nat} (h : trigFind d r = some i) (hfrz : d.obs.frozen = false) :
    (d.errorReport r).obs.frozen = true ∧ (d.errorReport r).obs.frz = some ⟨true, 2, i, r.source, r.code, d.short⟩ ∧ (d.errorReport r).ctl.linkUp = false ∧
      (d.errorReport r).ctl.out.contains (.frozen true) = true := by
  rw [← trigFind_corrected d r (wholeNs r.stamp)] at h
  have hobs : ((d.corrected r).reported { r with stamp := wholeNs r.stamp }).obs.frozen = false := by
    rw [Dev.obs_reported, Dev.obs_corrected]
    unfold Obs.take Obs.lose
    dsimp only
    repeat' split
    all_goals exact hfrz
  have hshort : ((d.corrected r).reported { r with stamp := wholeNs r.stamp }).short = d.short :=
    congrArg shortOf (((d.corrected_noted r).trans (Dev.reported_noted _ _)).now)
  rw [Dev.errorReport, Dev.report_of_trigger h, Dev.freeze, if_neg (by rw [hobs]; exact Bool.false_ne_true), hshort]
  exact ⟨rfl, rfl, rfl, by simp [Dev.emit]⟩

theorem Dev.errorReport_quiet (h : trigFind d r = none) : (d.errorReport r).obs.frozen = d.obs.frozen := by
  rw [← trigFind_corrected d r (wholeNs r.stamp)] at h
  rw [Dev.errorReport, Dev.report_of_none h, Dev.obs_reported, Dev.obs_corrected]
  unfold Obs.take Obs.lose
  dsimp only
  repeat' split
  all_goals rfl

theorem Dev.errorReport_corrected {k : Nat} (hk : k < 16) (hs : r.source = 0x160 + k) (hc : r.code = 0x0D31) :
    (d.errorReport r).counter (pgMemctl k) 0x088 = d.counter (pgMemctl k) 0x088 + 1 ∧ ((d.errorReport r).page (pgMemctl k)).event.getLsbD 0 = true := by
  have hd : d.corrected r = (d.inc (pgMemctl k) 0x088).event (pgMemctl k) 0 := by
    rw [Dev.corrected, if_pos ⟨by omega, by omega, hc⟩, hs, Nat.add_sub_cancel_left]
  rw [Dev.errorReport, Dev.counter_report _ _ (pgMemctl_ne k hk) (by decide), Dev.page_report, hd]
  exact ⟨by rw [Dev.counter_event, Dev.counter_inc_same], Dev.event_bit _ _ _ (by decide)⟩

theorem sourceListed_memctl {k : Nat} (hk : k < 16) : sourceListed (0x160 + k) = true := by
  interval_cases k <;> rfl

/-! ### The log ring (R786, R788, R789) -/

theorem Dev.logWrite_spec (d : Dev) (e : LogEntry) : (d.logWrite e).obs = { d.obs with ring := d.obs.ring ++ [e] } ∧
    (∀ o, (d.logWrite e).counter pgErrlog o = (d.inc pgErrlog 0x0A0).counter pgErrlog o) ∧ ((d.logWrite e).page pgErrlog).event.getLsbD 0 = true := by
  unfold Dev.logWrite
  dsimp only
  obtain ⟨w, hw⟩ : ∃ w : Dev, w = (d.onObs fun o => { o with ring := o.ring ++ [e] }).inc pgErrlog 0x0A0 := ⟨_, rfl⟩
  rw [← hw]
  have hobs : (w.event pgErrlog 0).obs = { d.obs with ring := d.obs.ring ++ [e] } := by rw [Dev.obs_event, hw]; rfl
  have hbit := w.event_bit pgErrlog 0 (by decide)
  have hcount : ∀ o, (w.event pgErrlog 0).counter pgErrlog o = (d.inc pgErrlog 0x0A0).counter pgErrlog o := fun o => by
    rw [Dev.counter_event, hw]
    rfl
  split
  · exact ⟨(Dev.obs_event _ _ _).trans hobs, fun o => (Dev.counter_event _ _ _ _ _).trans (hcount o), Dev.event_keeps_bit _ _ _ _ _ hbit⟩
  · exact ⟨hobs, hcount, hbit⟩

theorem Dev.lostEntry_none (h : d.obs.lost = none) : d.lostEntry = d := by rw [Dev.lostEntry, h]

theorem Dev.lostEntry_full {x : LostLog} (h : d.obs.lost = some x) (hfull : 4096 ≤ d.obs.ring.length) : d.lostEntry = d := by
  rw [Dev.lostEntry, h]
  exact if_pos (decide_eq_true hfull)

theorem Dev.lostEntry_written {x : LostLog} (h : d.obs.lost = some x) (hroom : d.obs.ring.length < 4096) :
    d.lostEntry.obs.lost = none ∧ d.lostEntry.obs.ring = d.obs.ring ++ [x.entry] ∧ d.lostEntry.counter pgErrlog 0x0B0 = d.counter pgErrlog 0x0B0 + 1 ∧
      (d.lostEntry.page pgErrlog).event.getLsbD 1 = true := by
  have heq : d.lostEntry = (((d.onObs fun o => { o with lost := none }).logWrite x.entry).inc pgErrlog 0x0B0).event pgErrlog 1 := by
    rw [Dev.lostEntry, h]
    exact if_neg (by rw [Dev.logFull, decide_eq_true_eq]; omega)
  obtain ⟨hobs, hcount, -⟩ := Dev.logWrite_spec (d.onObs fun o => { o with lost := none }) x.entry
  have hobs' : d.lostEntry.obs = { (d.onObs fun o => { o with lost := none }).obs with ring := d.obs.ring ++ [x.entry] } := by
    rw [heq, Dev.obs_event]
    exact hobs
  rw [hobs']
  refine ⟨rfl, rfl, ?_, ?_⟩
  · rw [heq, Dev.counter_event, Dev.counter_inc_same, hcount, Dev.counter_inc_apart _ _ (by decide) (by decide) (by decide)]
    rfl
  · rw [heq]
    exact Dev.event_bit _ _ _ (by decide)

/-- The pending entries without the one that is due. -/
def Dev.unpend (d : Dev) (e : LogEntry) : Dev := d.onObs fun o => { o with pending := o.pending.filter fun x => decide (x.order ≠ e.order) }

theorem Dev.unpend_not_mem (d : Dev) (e : LogEntry) : e ∉ (d.unpend e).obs.pending := fun h => by
  simpa using (List.mem_filter.1 h).2

theorem Dev.logDue_of_none (h : d.obs.lost = none) : d.logDue e =
    if (d.unpend e).logFull then ((d.unpend e).onObs fun o => o.lose e.source e.count e.stamp).inc pgErrlog 0x0A8 else (d.unpend e).logWrite e := by
  have hu : (d.unpend e).obs.lost = none := h
  unfold Dev.logDue
  dsimp only
  rw [← Dev.unpend, hu]

theorem Dev.logDue_written (h : d.obs.lost = none) (hroom : d.obs.ring.length < 4096) : (d.logDue e).obs.ring = d.obs.ring ++ [e] ∧ e ∉ (d.logDue e).obs.pending ∧
    (d.logDue e).counter pgErrlog 0x0A0 = d.counter pgErrlog 0x0A0 + 1 ∧ ((d.logDue e).page pgErrlog).event.getLsbD 0 = true := by
  obtain ⟨hobs, hcount, hbit⟩ := (d.unpend e).logWrite_spec e
  rw [Dev.logDue_of_none h, if_neg (by rw [Dev.logFull, decide_eq_true_eq]; exact Nat.not_le.2 hroom), hobs, hcount, Dev.counter_inc_same]
  exact ⟨rfl, d.unpend_not_mem e, rfl, hbit⟩

theorem Dev.logDue_lost (h : d.obs.lost = none) (hfull : 4096 ≤ d.obs.ring.length) : ∃ x, (d.logDue e).obs.ring = d.obs.ring ∧ e ∉ (d.logDue e).obs.pending ∧
    (d.logDue e).obs.lost = some x ∧ x.entries = 1 ∧ x.stamp = e.stamp ∧ (d.logDue e).counter pgErrlog 0x0A8 = d.counter pgErrlog 0x0A8 + 1 := by
  have hlost : ((d.unpend e).obs.lose e.source e.count e.stamp).lost = some ⟨e.stamp, satN 4294967295 e.count, 1, [e.source], e.stamp⟩ := by
    have hu : (d.unpend e).obs.lost = none := h
    unfold Obs.lose
    rw [hu]
  rw [Dev.logDue_of_none h, if_pos (show (d.unpend e).logFull = true from decide_eq_true hfull), Dev.counter_inc_same]
  exact ⟨_, rfl, d.unpend_not_mem e, hlost, rfl, rfl, rfl⟩

theorem Dev.logEntryDue_due {l : List LogEntry} (h : d.logOrder = e :: l) (hdue : e.stamp + d.logHold ≤ d.now) : d.logEntryDue = d.logDue e := by
  rw [Dev.logEntryDue, h]
  exact if_neg (Nat.not_lt.2 hdue)

theorem Dev.logEntryDue_waits {l : List LogEntry} (h : d.logOrder = e :: l) (hnot : d.now < e.stamp + d.logHold) : d.logEntryDue = d := by
  rw [Dev.logEntryDue, h]
  exact if_pos hnot

theorem State.up_frozen (h : s.up = true) : s.dev.obs.frozen = false := by
  simp only [State.up, Bool.and_eq_true, Bool.not_eq_true'] at h
  exact h.2

/-! ### The rows -/

theorem exec_errorReport (hup : s.up = true) (h : sourceListed r.source = true) : exec (.errorReport r) s = .next (s.setDev (s.dev.errorReport r)) := by
  rw [exec_act (f := fun d => if sourceListed r.source then (d.corrected r).report { r with stamp := wholeNs r.stamp } else d) rfl hup]
  rw [if_pos h]
  rfl

theorem exec_errorReport_unlisted (hup : s.up = true) (h : sourceListed r.source = false) : exec (.errorReport r) s = .next (s.setDev s.dev) := by
  rw [exec_act (f := fun d => if sourceListed r.source then (d.corrected r).report { r with stamp := wholeNs r.stamp } else d) rfl hup]
  rw [if_neg (by rw [h]; exact Bool.false_ne_true)]

/-- The error log, as its statement gives it. -/
theorem errorLog : ErrorLog := by
  intro s r hup
  have hobs := s.dev.errorReport_obs r
  have hcounts := s.dev.counter_errorReport r
  have hdue := exec_act (f := Dev.logEntryDue) (i := .logEntryDue) rfl hup
  have hlost := exec_act (f := Dev.lostEntry) (i := .lostEntry) rfl hup
  refine ⟨exec_errorReport_unlisted hup, exec_errorReport hup, fun hl hnew => ⟨fun hroom => ?_, fun hfull => ?_⟩, fun e rest hl hp hsrc hcode hcount hrest => ?_, fun ht => ?_,
    fun i hl ht => ?_, fun k hk hs hc => ?_, ⟨hdue, hlost, fun h => ?_, Dev.lostEntry_none⟩, fun e l ho hnone hd => ⟨fun hroom => ?_, fun hfull => ?_⟩, fun e l ho hd => ?_,
    fun x hx => ⟨fun hroom => ⟨_, hlost, Dev.lostEntry_written hx hroom⟩, fun hfull => ?_⟩⟩
  · obtain ⟨hp, hr⟩ := Obs.take_opened (r := { r with stamp := wholeNs r.stamp }) (Obs.coalesces_none hnew) hroom
    refine ⟨_, exec_errorReport hup hl, ?_, hcounts.1, ?_⟩
    · rw [State.setDev_dev, hobs]; exact hp
    · rw [State.setDev_dev, hobs]; exact hr
  · obtain ⟨hp, l, hls, hlast, hmem⟩ := Obs.take_lost (r := { r with stamp := wholeNs r.stamp }) (Obs.coalesces_none hnew) hfull
    refine ⟨_, l, exec_errorReport hup hl, ?_, ?_, hlast, hmem⟩
    · rw [State.setDev_dev, hobs]; exact hp
    · rw [State.setDev_dev, hobs]; exact hls
  · have hco : s.dev.obs.coalesces r = true := by
      rw [Obs.coalesces, hp, List.any_cons, hsrc, hcode]
      simp [hcount]
    refine ⟨_, exec_errorReport hup hl, ?_, hcounts.2 hco⟩
    rw [State.setDev_dev, hobs]
    refine (Obs.take_coalesced (r := { r with stamp := wholeNs r.stamp }) hco).trans ?_
    rw [hp, List.map_cons, if_pos (by simp [hsrc, hcode, hcount])]
    refine congrArg _ ((List.map_congr_left fun x hx => if_neg ?_).trans (List.map_id' _))
    rcases hrest x hx with h | h
    · simp [h]
    · simp [h]
  · cases hl : sourceListed r.source
    · exact ⟨_, exec_errorReport_unlisted hup hl, State.up_frozen hup⟩
    · exact ⟨_, exec_errorReport hup hl, (Dev.errorReport_quiet ht).trans (State.up_frozen hup)⟩
  · obtain ⟨hfrozen, hfrz, hlink, hout⟩ := Dev.errorReport_trigger ht (State.up_frozen hup)
    refine ⟨_, exec_errorReport hup hl, hfrozen, ?_, hlink, hout⟩
    rw [State.setDev, hfrz]
  · exact ⟨_, exec_errorReport hup (hs ▸ sourceListed_memctl hk), Dev.errorReport_corrected hk hs hc⟩
  · rw [Dev.logEntryDue, Dev.logOrder, h]
    rfl
  · exact ⟨_, hdue, by rw [State.setDev_dev, Dev.logEntryDue_due ho hd]; exact Dev.logDue_written hnone hroom⟩
  · obtain ⟨x, h⟩ := Dev.logDue_lost (e := e) hnone hfull
    exact ⟨_, x, hdue, by rw [State.setDev_dev, Dev.logEntryDue_due ho hd]; exact h⟩
  · rw [hdue, Dev.logEntryDue_waits ho hd]
  · rw [hlost, Dev.lostEntry_full hx hfull]

end Sys2Proof.Machine
end

section
/-! The trace: an entry written to its ring, the entry of what was lost, and TRACE_BASE (R792 to R796, R819): O52. -/

namespace Sys2Proof.Machine
open Sys2Proof

variable {s : State} {d e : Dev} {t : TraceEntry} {v : Word}

theorem Dev.Noted.mem (h : d.Noted e) : e.mem = d.mem := by rw [h]

theorem Obs.take_trace (o : Obs) (r : Report) : (o.take r).trace = o.trace ∧ (o.take r).traceProd = o.traceProd ∧ (o.take r).traceWrapped = o.traceWrapped := by
  unfold Obs.take Obs.lose
  dsimp only
  repeat' split
  all_goals exact ⟨rfl, rfl, rfl⟩

theorem Dev.raise_trace (d : Dev) (p b c k : Nat) (x y : Word) : (d.raise p b c k x y).obs.trace = d.obs.trace ∧ (d.raise p b c k x y).obs.traceProd = d.obs.traceProd ∧
    (d.raise p b c k x y).obs.traceWrapped = d.obs.traceWrapped := by
  rw [Dev.raise, Dev.report_obs]
  have h := Obs.take_trace (d.event p b).obs ⟨c, k, d.stamp, x, y⟩
  rw [Dev.obs_event] at h ⊢
  exact h

/-! ### TRACE_ENTRY_WRITE -/

/-- The ring takes an entry: the memory, and the producer index. -/
def Dev.traceStored (d : Dev) (t : TraceEntry) : Dev :=
  (((d.onObs fun o => { o with trace := o.trace.filter fun x => decide (x.order ≠ t.order) }).physWrites (d.traceBase + 32 * (d.obs.traceProd % d.traceEntries))
    (traceBytes t d.obs.traceProd)).onObs fun o => { o with traceProd := d.obs.traceProd + 1 }).inc pgObs 0x068

/-- An entry that closes a gap is raised. -/
def Dev.traceTold (d : Dev) (t : TraceEntry) : Dev := if t.event = 0xF001 then (d.traceStored t).raise pgObs 0 0x004 0x0F02 0 0 else d.traceStored t

theorem Dev.traceWrite_eq (d : Dev) (t : TraceEntry) : d.traceWrite t =
    if d.obs.traceProd < d.traceEntries ∨ (d.traceTold t).obs.traceWrapped = true then d.traceTold t
    else ((d.traceTold t).onObs fun o => { o with traceWrapped := true }).event pgObs 1 := rfl

theorem Dev.traceTold_noted (d : Dev) (t : TraceEntry) : (d.traceStored t).Noted (d.traceTold t) := by
  unfold Dev.traceTold
  exact .ite (Dev.raise_noted _ _ _ _ _ _ _) (.refl _)

theorem Dev.traceTold_trace (d : Dev) (t : TraceEntry) : (d.traceTold t).obs.trace = (d.obs.trace.filter fun x => decide (x.order ≠ t.order)) ∧
    (d.traceTold t).obs.traceProd = d.obs.traceProd + 1 ∧ (d.traceTold t).obs.traceWrapped = d.obs.traceWrapped := by
  unfold Dev.traceTold
  split
  · exact Dev.raise_trace _ _ _ _ _ _ _
  · exact ⟨rfl, rfl, rfl⟩

theorem Dev.traceWrite_spec (d : Dev) (t : TraceEntry) : (d.traceWrite t).obs.traceProd = d.obs.traceProd + 1 ∧ t ∉ (d.traceWrite t).obs.trace ∧
    (d.traceWrite t).mem = (d.physWrites (d.traceBase + 32 * (d.obs.traceProd % d.traceEntries)) (traceBytes t d.obs.traceProd)).mem ∧
    (t.event = 0xF001 → ((d.traceWrite t).page pgObs).event.getLsbD 0 = true) ∧
    (d.traceEntries ≤ d.obs.traceProd → d.obs.traceWrapped = false → (d.traceWrite t).obs.traceWrapped = true ∧ ((d.traceWrite t).page pgObs).event.getLsbD 1 = true) := by
  obtain ⟨htrace, hprod, hwrap⟩ := d.traceTold_trace t
  have hmem : (d.traceTold t).mem = (d.physWrites (d.traceBase + 32 * (d.obs.traceProd % d.traceEntries)) (traceBytes t d.obs.traceProd)).mem :=
    (d.traceTold_noted t).mem
  have hgone : t ∉ (d.traceTold t).obs.trace := fun h => by
    rw [htrace] at h
    simpa using (List.mem_filter.1 h).2
  have hgap : t.event = 0xF001 → ((d.traceTold t).page pgObs).event.getLsbD 0 = true := fun h => by
    rw [Dev.traceTold, if_pos h]
    exact Dev.raise_bit _ _ _ _ _ _ _ (by decide)
  rw [Dev.traceWrite_eq]
  split
  next h =>
    refine ⟨hprod, hgone, hmem, hgap, fun hle hno => ?_⟩
    rcases h with h | h
    · exact absurd h (Nat.not_lt.2 hle)
    · rw [hwrap, hno] at h
      cases h
  next =>
    refine ⟨?_, ?_, (Dev.event_noted _ _ _).mem.trans hmem, fun h => Dev.event_keeps_bit _ _ _ _ _ (hgap h), fun _ _ => ⟨?_, Dev.event_bit _ _ _ (by decide)⟩⟩
    · rw [Dev.obs_event]; exact hprod
    · rw [Dev.obs_event]; exact hgone
    · rw [Dev.obs_event]; rfl

theorem traceBytes_length (t : TraceEntry) (n : Nat) : (traceBytes t n).length = 32 := by
  simp only [traceBytes, List.length_append, length_leBytes]

/-- What the device memory reads once an entry is written. -/
theorem Dev.traceWrite_dram (d : Dev) (t : TraceEntry) (a : Nat) : memRead (d.traceWrite t).mem.dram a =
    if d.checkByte a then memRead d.mem.dram a else memRead (memWrites d.mem.dram (d.traceBase + 32 * (d.obs.traceProd % d.traceEntries))
      ((traceBytes t d.obs.traceProd).take (dramEnd - (d.traceBase + 32 * (d.obs.traceProd % d.traceEntries))))) a := by
  obtain ⟨-, -, hmem, -⟩ := d.traceWrite_spec t
  rw [hmem, Dev.physWrites, memRead_memWritesBut]

theorem Dev.traceEntryWrite_due {l : List TraceEntry} (h : sortBy traceBefore d.obs.trace = t :: l) (hon : d.traceOn = true) (hdue : t.stamp + 20 * usT ≤ d.now) :
    d.traceEntryWrite = d.traceWrite t := by
  rw [Dev.traceEntryWrite, h]
  refine if_neg ?_
  rw [hon, decide_eq_false (Nat.not_lt.2 hdue)]
  decide

theorem Dev.traceEntryWrite_waits {l : List TraceEntry} (h : sortBy traceBefore d.obs.trace = t :: l) (hnot : d.traceOn = false ∨ d.now < t.stamp + 20 * usT) :
    d.traceEntryWrite = d := by
  rw [Dev.traceEntryWrite, h]
  refine if_pos ?_
  rcases hnot with h | h
  · rw [h]; rfl
  · rw [decide_eq_true h, Bool.or_true]

/-! ### TRACE_LOST -/

theorem Dev.traceLost_spec (hne : d.obs.traceDropped ≠ 0) (hon : d.traceOn = true) (hroom : d.obs.trace.length < 512 + 4194304) :
    d.traceLost.obs.traceDropped = 0 ∧ ∃ e, e ∈ d.traceLost.obs.trace ∧ e.event = 0xF001 ∧ e.w2 = fmk 0 32 d.obs.traceDropped ∧ e.w3 = shortOf d.obs.traceFirst := by
  rw [Dev.traceLost, if_neg (by rw [hon]; simp only [hne, Bool.true_eq_false, false_or]; exact Nat.not_le.2 hroom)]
  dsimp only
  unfold Dev.trace
  dsimp only
  have hb : bit ((d.onObs fun o => { o with traceDropped := 0 }).reg pgObs 0x048) 0 = true := hon
  rw [if_neg (by rw [hb]; exact Bool.false_ne_true), if_neg (by exact Bool.false_ne_true), if_neg (by exact Bool.false_ne_true), if_pos (by exact hroom)]
  split
  · exact ⟨rfl, _, List.mem_append_right _ (List.mem_singleton_self _), rfl, rfl, rfl⟩
  · exact ⟨rfl, _, List.mem_append_right _ (List.mem_singleton_self _), rfl, rfl, rfl⟩

theorem Dev.traceLost_none (h : d.obs.traceDropped = 0 ∨ d.traceOn = false ∨ 512 + 4194304 ≤ d.obs.trace.length) : d.traceLost = d := by
  rw [Dev.traceLost, if_pos h]

/-! ### TRACE_BASE -/

theorem obs_traceBase : ∃ g, PType.obs.regAt 0x048 = some g ∧ g.rws = false ∧ FieldsApart g.flds ∧ (⟨0, 1, .rw, 0, .any⟩ : Fld) ∈ g.flds ∧
    (⟨16, 21, .rw, 0, .any⟩ : Fld) ∈ g.flds :=
  ⟨_, rfl, rfl, by unfold FieldsApart; decide, by decide, by decide⟩

/-- The word that a write of TRACE_BASE would give. -/
theorem Dev.mergeAt_traceBase (d : Dev) (v : Word) : bit (d.mergeAt pgObs 0x048 v).1 0 = bit v 0 ∧ fld (d.mergeAt pgObs 0x048 v).1 16 21 = fld v 16 21 := by
  obtain ⟨g, hg, -, hapart, hen, hbase⟩ := obs_traceBase
  rw [mergeAt_of_regAt rfl hg]
  exact ⟨bit_mergeFields_any hapart hen, fld_mergeFields_any hapart hbase⟩

/-- What the guard of TRACE_BASE leaves: ENABLE as written, and BASE as written or, while the trace runs, as it was. -/
def Dev.traceGuarded (d : Dev) (v : Word) : Dev := d.guarded pgObs 0x048 v (!d.traceOn) [(16, 21)]

theorem Dev.traceGuarded_spec (d : Dev) (v : Word) : (d.traceGuarded v).pair = d.pair ∧ (d.traceGuarded v).traceOn = bit v 0 ∧
    (d.traceGuarded v).traceBase = (if d.traceOn then d.traceBase else fld v 16 21 * 65536) ∧
    fld ((d.traceGuarded v).reg pgObs 0x050) 0 6 = fld (d.reg pgObs 0x050) 0 6 := by
  obtain ⟨hpair, hreg⟩ := d.guarded_spec pgObs 0x048 v (!d.traceOn) [(16, 21)]
  obtain ⟨hbit, hbase⟩ := d.mergeAt_traceBase v
  have hsize : (d.traceGuarded v).reg pgObs 0x050 = d.reg pgObs 0x050 := by
    unfold Dev.traceGuarded Dev.guarded
    dsimp only
    split
    · rw [Dev.reg_errs, Dev.reg_setReg, if_neg (by decide)]
    · rw [(Dev.err_noted _ _ _).reg, Dev.reg_errs, Dev.reg_setReg, if_neg (by decide)]
  refine ⟨hpair, ?_, ?_, by rw [hsize]⟩
  · rw [Dev.traceOn, Dev.traceGuarded, hreg]
    split
    · exact hbit
    · exact (bit_setFld_apart _ _ (by decide) (.inl (by decide))).trans hbit
  · rw [Dev.traceBase, Dev.traceGuarded, hreg]
    cases hon : d.traceOn
    · rw [Bool.not_false, Bool.true_or, if_pos rfl, if_neg Bool.false_ne_true, hbase]
    · rw [Bool.not_true, Bool.false_or, if_pos rfl]
      split
      next h =>
        simp only [List.any_cons, List.any_nil, Bool.or_false, Bool.not_eq_true', bne_eq_false_iff_eq] at h
        rw [h]
        rfl
      next =>
        rw [List.foldl_cons, List.foldl_nil, fld_setFld_same _ _ (by decide), Nat.mod_eq_of_lt (fld_lt _ _ _)]
        rfl

/-- The ring that TRACE_BASE and TRACE_SIZE name is aligned, and lies below the reserved region. -/
def Dev.traceFits (d : Dev) (v : Word) : Prop :=
  fld v 16 21 * 65536 % 2 ^ fld (d.reg pgObs 0x050) 0 6 = 0 ∧ fld v 16 21 * 65536 + 2 ^ fld (d.reg pgObs 0x050) 0 6 ≤ reservedBase

/-- TRACE_BASE written with ENABLE 0: no trace runs, and what waited is dropped. -/
theorem Dev.traceBaseWrite_stops (d : Dev) (hv : bit v 0 = false) : d.traceBaseWrite v = (d.traceGuarded v).onObs fun o => { o with trace := [] } := by
  obtain ⟨-, hon, -⟩ := d.traceGuarded_spec v
  unfold Dev.traceBaseWrite
  dsimp only
  rw [← Dev.traceGuarded, if_pos (by rw [hon, hv]; rfl)]

theorem Dev.traceBaseWrite_goesOn (hd : d.traceOn = true) (hv : bit v 0 = true) : d.traceBaseWrite v = d.traceGuarded v := by
  obtain ⟨-, hon, -⟩ := d.traceGuarded_spec v
  unfold Dev.traceBaseWrite
  dsimp only
  rw [← Dev.traceGuarded, if_neg (by rw [hon, hv]; exact Bool.false_ne_true), if_pos hd]

theorem Dev.traceBaseWrite_starts (hd : d.traceOn = false) (hv : bit v 0 = true) (hfit : d.traceFits v) :
    d.traceBaseWrite v = (d.traceGuarded v).onObs fun o => { o with trace := [], traceProd := 0, traceWrapped := false, traceDropped := 0 } := by
  obtain ⟨-, hon, hbase, hsize⟩ := d.traceGuarded_spec v
  rw [if_neg (by rw [hd]; exact Bool.false_ne_true)] at hbase
  unfold Dev.traceBaseWrite
  dsimp only
  rw [← Dev.traceGuarded, if_neg (by rw [hon, hv]; exact Bool.false_ne_true), if_neg (by rw [hd]; exact Bool.false_ne_true), hbase, hsize, if_neg]
  rintro (h | h)
  · exact h hfit.1
  · exact Nat.not_lt.2 hfit.2 h

theorem Dev.traceBaseWrite_refused (hd : d.traceOn = false) (hv : bit v 0 = true) (hfit : ¬ d.traceFits v) :
    d.traceBaseWrite v = ((d.traceGuarded v).setReg pgObs 0x048 (setFld ((d.traceGuarded v).reg pgObs 0x048) 0 1 0)).err pgObs .badState := by
  obtain ⟨-, hon, hbase, hsize⟩ := d.traceGuarded_spec v
  rw [if_neg (by rw [hd]; exact Bool.false_ne_true)] at hbase
  unfold Dev.traceBaseWrite
  dsimp only
  rw [← Dev.traceGuarded, if_neg (by rw [hon, hv]; exact Bool.false_ne_true), if_neg (by rw [hd]; exact Bool.false_ne_true), hbase, hsize, if_pos]
  by_contra hno
  rw [not_or, not_not, Nat.not_lt] at hno
  exact hfit hno

theorem Dev.traceBaseWrite_pair (d : Dev) (v : Word) : (d.traceBaseWrite v).pair = d.pair := by
  have hg := (d.traceGuarded_spec v).1
  cases hv : bit v 0
  · rw [d.traceBaseWrite_stops hv]
    exact hg
  · cases hd : d.traceOn
    · by_cases hfit : d.traceFits v
      · rw [Dev.traceBaseWrite_starts hd hv hfit]
        exact hg
      · rw [Dev.traceBaseWrite_refused hd hv hfit]
        exact hg
    · rw [Dev.traceBaseWrite_goesOn hd hv, hg]

theorem Writable.exec_traceBase (h : Writable s pgObs) (v : Word) : exec (.traceBaseWrite v) s = .next ((s.setDev s.dev).setDev (s.dev.traceBaseWrite v)) := by
  obtain ⟨g, hg, hrws, -⟩ := obs_traceBase
  have hlive : (s.setDev s.dev).liveWrite pgObs .obs g 0x048 v = (s.setDev s.dev).onDev fun d => d.traceBaseWrite v := by
    simp only [State.liveWrite]
    rw [if_pos trivial]
  exact congrArg Host.Outcome.next (h.hostWrite_live (t := .obs) rfl hg hrws rfl (by decide) (by decide) hlive (s.dev.traceBaseWrite_pair v))

/-- The trace, as its statement gives it. -/
theorem traceCommands : TraceCommands := by
  intro s v
  have hrow : s.ready = true → exec .traceEntryWrite s = .next (s.setDev s.dev.traceEntryWrite) := exec_actReady rfl
  have hlost : s.ready = true → exec .traceLost s = .next (s.setDev s.dev.traceLost) := exec_actReady rfl
  have hguard := s.dev.traceGuarded_spec v
  obtain ⟨-, hgon, hgbase, -⟩ := hguard
  refine ⟨fun e l hready hs hon hdue => ?_, fun e l hready hs hnot => ?_, fun hready hne hon hroom => ⟨_, hlost hready, Dev.traceLost_spec hne hon hroom⟩,
    fun hready => ⟨hrow hready, fun h => ?_⟩, fun hready h => ?_, fun hw hoff hv => ⟨fun hmod hfits => ?_, fun hbad => ?_⟩, fun hw hoff hv => ?_, fun hw hon => ?_⟩
  · refine ⟨_, hrow hready, ?_⟩
    rw [State.setDev_dev, Dev.traceEntryWrite_due hs hon hdue]
    obtain ⟨hprod, hgone, -, hgap, hwrap⟩ := s.dev.traceWrite_spec e
    refine ⟨hprod, hgone, fun i hi hend hcheck => ?_, fun a ha => ?_, fun a ha => ?_, hgap, hwrap⟩
    · rw [Dev.traceWrite_dram, hcheck, if_neg Bool.false_ne_true, List.take_of_length_le (by rw [traceBytes_length]; omega), memRead_memWrites, traceBytes_length,
        if_pos (by omega), Nat.add_sub_cancel_left]
      rfl
    · rw [Dev.traceWrite_dram, memRead_memWrites_of_not, ite_self]
      rw [List.length_take, traceBytes_length]
      omega
    · rw [Dev.traceWrite_dram, ha, if_pos rfl]
  · rw [hrow hready, Dev.traceEntryWrite_waits hs hnot]
  · rw [Dev.traceEntryWrite, h]
    rfl
  · rw [hlost hready, Dev.traceLost_none h]
  · refine ⟨_, hw.exec_traceBase v, ?_⟩
    rw [State.setDev_dev, Dev.traceBaseWrite_starts hoff hv ⟨hmod, hfits⟩]
    exact ⟨hgon.trans hv, rfl, rfl, hgbase.trans (if_neg (by rw [hoff]; exact Bool.false_ne_true))⟩
  · refine ⟨_, hw.exec_traceBase v, ?_⟩
    rw [State.setDev_dev, Dev.traceBaseWrite_refused hoff hv fun h => ?_]
    · refine ⟨?_, ?_⟩
      · rw [Dev.traceOn, (Dev.err_noted _ _ _).reg, Dev.reg_setReg, if_pos rfl, bit_setFld_self _ _ (by decide)]
        rfl
      · rw [Dev.err, Dev.page_onPage, if_pos rfl]
        rfl
    · rcases hbad with hb | hb
      · exact hb h.1
      · exact Nat.not_le.2 hb h.2
  · refine ⟨_, hw.exec_traceBase v, ?_⟩
    rw [State.setDev_dev, Dev.traceBaseWrite_stops _ hv]
    exact ⟨hgon.trans hv, rfl, hgbase.trans (if_neg (by rw [hoff]; exact Bool.false_ne_true))⟩
  · refine ⟨_, hw.exec_traceBase v, ?_⟩
    rw [State.setDev_dev]
    cases hv : bit v 0
    · rw [Dev.traceBaseWrite_stops _ hv]
      exact ⟨hgon.trans hv, hgbase.trans (if_pos hon)⟩
    · rw [Dev.traceBaseWrite_goesOn hon hv]
      exact ⟨hgon.trans hv, hgbase.trans (if_pos hon)⟩

/-- Settles O52: the error log and the trace. -/
theorem logAndTrace : Obligations.LogAndTrace := ⟨errorLog, traceCommands⟩

end Sys2Proof.Machine
end

section
/-! Freeze and the test access port (R797 to R806): O53. -/

namespace Sys2Proof.Machine
open Sys2Proof

variable {s : State} {d : Dev} {c : HostCmd} {i : Instr}

/-! ### Freezes -/

/-- A unit that is not frozen freezes: its record, its links, and the FROZEN pin. -/
theorem Dev.freeze_made (h : d.obs.frozen = false) (a b c e : Nat) : (d.freeze a b c e).obs.frozen = true ∧ (d.freeze a b c e).obs.frz = some ⟨true, a, b, c, e, d.short⟩ ∧
    (d.freeze a b c e).ctl.linkUp = false ∧ (d.freeze a b c e).ctl.out = d.ctl.out ++ [.frozen true] ∧ (d.freeze a b c e).clk = d.clk := by
  rw [Dev.freeze, if_neg (by rw [h]; exact Bool.false_ne_true)]
  exact ⟨rfl, rfl, rfl, rfl, rfl⟩

theorem State.up_of_frozen (h : s.dev.obs.frozen = true) : s.up = false := by rw [State.up, h, Bool.not_true, Bool.and_false]

theorem State.ready_up (h : s.ready = true) : s.up = true := by
  rw [State.ready, Bool.and_eq_true] at h
  exact h.1

/-- FREEZE_NOW and FREEZE_PIN, as their statement gives them. -/
theorem freezes : Freezes := by
  intro s c
  refine ⟨fun h htarget => ?_, fun hready hpin => ?_, fun hready => congrArg Host.Outcome.next (State.actReady_not _ hready), fun hready hpin => ?_⟩
  · have hready : s.ready = true := h.1
    obtain ⟨hfrozen, hfrz, hlink, hout, hclk⟩ := Dev.freeze_made (State.up_frozen (State.ready_up hready)) 3 0 0 0
    have heffect : freezeNowSpec.effect c s = (s.setDev (s.dev.freeze 3 0 0 0), .later 0 0) := if_pos (by rw [here, htarget]; rfl)
    obtain ⟨e, hu, ⟨w, he⟩, -⟩ := h.laterDev heffect
    subst he
    exact ⟨_, congrArg Host.Outcome.next hu, State.up_of_frozen hfrozen, hfrozen, by rw [State.setDev, State.setDev]; simp only [hfrz], hlink, hout, hclk⟩
  · obtain ⟨hfrozen, hfrz, -, hout, -⟩ := Dev.freeze_made (State.up_frozen (State.ready_up hready)) 1 0 0 0
    refine ⟨_, exec_actReady (f := fun d => if bit (d.reg pgDevice 0x060) 0 then d.freeze 1 0 0 0 else d) rfl hready, ?_⟩
    simp only [hpin, if_true]
    exact ⟨State.up_of_frozen hfrozen, by rw [State.setDev, hfrz], hout⟩
  · rw [exec_actReady (f := fun d => if bit (d.reg pgDevice 0x060) 0 then d.freeze 1 0 0 0 else d) rfl hready]
    rw [if_neg (by rw [hpin]; exact Bool.false_ne_true)]

/-! ### The test access port -/

theorem State.tap_off (f : State → State) (h : s.tapOn = false) : s.tap f = s := by rw [State.tap, if_neg (by rw [h]; exact Bool.false_ne_true)]

theorem State.tap_on (f : State → State) (h : s.tapOn = true) : s.tap f = f s := by rw [State.tap, if_pos h]

/-- A row of the port, with power and without. -/
theorem exec_tap {f : State → State} (hrow : exec i s = .next (s.tap f)) (h : s.tapOn = true) : exec i s = .next (f s) :=
  hrow.trans (congrArg Host.Outcome.next (State.tap_on f h))

theorem exec_tapOff {f : State → State} (hrow : exec i s = .next (s.tap f)) (h : s.tapOn = false) : exec i s = .next s :=
  hrow.trans (congrArg Host.Outcome.next (State.tap_off f h))

/-- What such a row shifts out. -/
theorem shifts_of_tap {o : State → Output} (hrow : exec i s = .next (s.tap fun s => s.onDev fun d => d.emit (o s))) (h : s.tapOn = true) : Shifts s i (o s) :=
  exec_tap (f := fun s => s.onDev fun d => d.emit (o s)) hrow h

theorem leNat_lt (l : List Byte) : leNat l < 256 ^ l.length := by
  induction l with
  | nil => exact Nat.one_pos
  | cons b t ih =>
    rw [leNat, List.length_cons, Nat.pow_succ]
    have := b.isLt
    omega

/-- A word of device memory below its end, as the port reads it. -/
theorem Dev.dramReads_word (d : Dev) {a : Nat} (h : a + 8 < dramEnd) : (BitVec.ofNat 64 (leNat (d.dramReads a 8))).toNat = leNat (memReads d.mem.dram a 8) := by
  have hmin : min 8 (dramEnd - a) = 8 := Nat.min_eq_left (by omega)
  have hlt := leNat_lt (memReads d.mem.dram a 8)
  rw [memReads_length] at hlt
  rw [Dev.dramReads, if_pos (by omega), hmin, Nat.sub_self, List.replicate_zero, List.append_nil, BitVec.toNat_ofNat, Nat.mod_eq_of_lt (Nat.lt_of_lt_of_le hlt (by decide))]

/-- RD_DATA of a DRAM word that is available, on a frozen unit. -/
theorem State.rdData_dram (hfrozen : s.dev.obs.frozen = true) (hspace : fld s.dev.obs.rdAddr 60 4 = 0) (hend : fld s.dev.obs.rdAddr 0 48 + 8 < dramEnd) :
    (s.rdData true).dev.ctl.out = s.dev.ctl.out ++ [.jtag 65 (2 ^ 64 + leNat (memReads s.dev.mem.dram (fld s.dev.obs.rdAddr 0 48) 8))] ∧
      fld (s.rdData true).dev.obs.rdAddr 0 48 = fld s.dev.obs.rdAddr 0 48 + 8 ∧ (s.rdData true).dev.mem = s.dev.mem ∧ (s.rdData true).dev.ctl.regs = s.dev.ctl.regs := by
  have hpeek : s.peek s.dev.obs.rdAddr = some (BitVec.ofNat 64 (leNat (s.dev.dramReads (fld s.dev.obs.rdAddr 0 48) 8))) := by
    rw [State.peek]
    simp only [hspace]
  have haddr : fld (fmk 60 4 (fld s.dev.obs.rdAddr 60 4) ||| fmk 0 48 (fld s.dev.obs.rdAddr 0 48 + 8)) 0 48 = fld s.dev.obs.rdAddr 0 48 + 8 := by
    rw [fld_or, fld_fmk_apart _ (by decide) (.inl (by decide)), fld_fmk_same _ (by decide), Nat.zero_or]
    refine Nat.mod_eq_of_lt (Nat.lt_trans hend (by decide))
  have hword := s.dev.dramReads_word hend
  rw [State.rdData, if_neg (by rw [hfrozen]; exact Bool.false_ne_true)]
  dsimp only
  rw [if_neg (by rw [Bool.not_true, Bool.and_false, Bool.false_and]; exact Bool.false_ne_true), hpeek, if_neg (by exact Bool.false_ne_true)]
  dsimp only
  rw [hword]
  exact ⟨rfl, haddr, rfl, rfl⟩

/-- FRZ_STATUS shows whether the unit is frozen, and the cause and source of the record (Table 17-6). -/
theorem frzStatus_word (r : FreezeRec) (b : Bool) : (bit (r.fields ||| fmkB 0 b) 0 = true ↔ b = true) ∧ fld (r.fields ||| fmkB 0 b) 1 3 = r.cause % 8 ∧
    fld (r.fields ||| fmkB 0 b) 16 12 = r.source % 4096 := by
  have hbit : bit (r.fields ||| fmkB 0 b) 0 = b := by
    have hfields : bit r.fields 0 = false := by
      simp only [bit, FreezeRec.fields, fld_or]
      rw [fld_fmk_apart _ (by decide) (by decide), fld_fmk_apart _ (by decide) (by decide), fld_fmk_apart _ (by decide) (by decide), fld_fmk_apart _ (by decide) (by decide)]
      rfl
    have hb := bit_fmkB_same b (lo := 0) (by decide)
    rw [bit_eq, BitVec.toNat_or, Nat.testBit_or, ← bit_eq, ← bit_eq, hfields, hb, Bool.false_or]
  refine ⟨by rw [hbit], ?_, ?_⟩
  · rw [fld_or, fld_fmkB_apart _ (by decide) (by decide), Nat.or_zero, FreezeRec.fields, fld_or, fld_or, fld_or, fld_fmk_same _ (by decide),
      fld_fmk_apart _ (by decide) (by decide), fld_fmk_apart _ (by decide) (by decide), fld_fmk_apart _ (by decide) (by decide)]
    simp
  · rw [fld_or, fld_fmkB_apart _ (by decide) (by decide), Nat.or_zero, FreezeRec.fields, fld_or, fld_or, fld_or, fld_fmk_apart _ (by decide) (by decide),
      fld_fmk_apart _ (by decide) (by decide), fld_fmk_same _ (by decide), fld_fmk_apart _ (by decide) (by decide)]
    simp

theorem rdAddr_word (v : Word) : fld (fmk 60 4 (fld v 60 4) ||| fmk 0 48 (fld v 0 48 / 8 * 8)) 60 4 = fld v 60 4 ∧
    fld (fmk 60 4 (fld v 60 4) ||| fmk 0 48 (fld v 0 48 / 8 * 8)) 0 48 = fld v 0 48 / 8 * 8 := by
  have hlow := fld_lt v 0 48
  have hhigh := fld_lt v 60 4
  constructor
  · rw [fld_or, fld_fmk_same _ (by decide), fld_fmk_apart _ (by decide) (by decide), Nat.or_zero, Nat.mod_eq_of_lt hhigh]
  · rw [fld_or, fld_fmk_apart _ (by decide) (by decide), fld_fmk_same _ (by decide), Nat.zero_or, Nat.mod_eq_of_lt (by omega)]

/-- The test access port, as its statement gives it. -/
theorem testPort : TestPort := by
  intro s l v
  refine ⟨rfl, fun b hoff => ?_, fun b hon => exec_tap (f := fun s => s.rdData b) rfl hon, fun haux hrails => ?_⟩
  · exact ⟨exec_tapOff (f := _) rfl hoff, exec_tapOff (f := _) rfl hoff, exec_tapOff (f := _) rfl hoff, exec_tapOff (f := _) rfl hoff, exec_tapOff (f := _) rfl hoff, exec_tapOff (f := _) rfl hoff, exec_tapOff (f := _) rfl hoff,
      exec_tapOff (f := _) rfl hoff⟩
  · have hon : s.tapOn = true := by rw [State.tapOn, haux, hrails]; rfl
    have hread : ∀ b, exec (.rdData b) s = .next (s.rdData b) := fun b => exec_tap (f := fun s => s.rdData b) rfl hon
    refine ⟨shifts_of_tap (o := fun _ => .jtag 32 0x1409656B) rfl hon, shifts_of_tap (o := fun _ => .jtag 1 0) rfl hon, shifts_of_tap (o := fun _ => .scan false l) rfl hon,
      shifts_of_tap (o := fun s => .scan (!s.aon.resetHigh && !s.dev.obs.frozen) l) rfl hon, shifts_of_tap (o := fun s => .jtag 64 s.aon.freeze.time.toNat) rfl hon,
      ⟨_, shifts_of_tap (o := fun s => .jtag 64 (s.aon.freeze.fields ||| fmkB 0 s.dev.obs.frozen).toNat) rfl hon, frzStatus_word _ _⟩,
      ⟨_, exec_tap (f := fun s => s.onDev fun d => { d with obs := { d.obs with rdAddr := fmk 60 4 (fld v 60 4) ||| fmk 0 48 (fld v 0 48 / 8 * 8) } }) rfl hon, (rdAddr_word v).1, (rdAddr_word v).2, rfl⟩, fun b hfrozen => ?_,
      fun hfrozen hspace hend => ⟨⟨_, hread true, State.rdData_dram hfrozen hspace hend⟩, fun hburst => ?_⟩⟩
    · refine (hread b).trans ?_
      rw [State.rdData, if_pos (by rw [hfrozen]; rfl)]
      rfl
    · refine (hread false).trans ?_
      rw [State.rdData, if_neg (by rw [hfrozen]; exact Bool.false_ne_true)]
      dsimp only
      rw [if_pos]
      · rfl
      · rw [hspace, hburst, decide_eq_true (by omega)]
        rfl

end Sys2Proof.Machine
end

section
/-! Memory controllers and Slab (R742 to R746, R748): O49. -/

namespace Sys2Proof.Machine
open Sys2Proof

variable {s : State} {d e : Dev} {k : Nat} {v : Word}

/-! ### SLICE_CFG (R744, R745) -/

theorem slab_sliceCfg (hk : k < 16) : ∃ g, PType.slab.regAt (0x100 + 8 * k) = some g ∧ g.rws = false ∧ FieldsApart g.flds ∧ (⟨0, 5, .rw, 0, .range 0 18⟩ : Fld) ∈ g.flds ∧
    (⟨8, 1, .rw, 0, .any⟩ : Fld) ∈ g.flds := by
  interval_cases k
  all_goals exact ⟨_, rfl, rfl, by unfold FieldsApart; decide, by decide, by decide⟩

/-- The word that a write of SLICE_CFG gives, before what maps into the scratch is looked at, and its errors. -/
def Dev.sliceMerge (d : Dev) (k : Nat) (v : Word) : Word × List ErrCode :=
  match PType.slab.regAt (0x100 + 8 * k) with
  | some r => mergeFields r.flds (d.reg pgSlab (0x100 + 8 * k)) (setFld (d.reg pgSlab (0x100 + 8 * k)) 12 4 (d.slice k).state.code) v
  | none => (d.reg pgSlab (0x100 + 8 * k), [])

theorem Dev.sliceMerge_eq {g : Reg} (hg : PType.slab.regAt (0x100 + 8 * k) = some g) (d : Dev) (v : Word) :
    d.sliceMerge k v = mergeFields g.flds (d.reg pgSlab (0x100 + 8 * k)) (setFld (d.reg pgSlab (0x100 + 8 * k)) 12 4 (d.slice k).state.code) v := by
  rw [Dev.sliceMerge, hg]

theorem Dev.sliceMerge_fields (d : Dev) (v : Word) (hk : k < 16) : fld (d.sliceMerge k v).1 0 5 = min 18 (fld v 0 5) ∧ bit (d.sliceMerge k v).1 8 = bit v 8 := by
  obtain ⟨g, hg, -, hapart, hscratch, hiso⟩ := slab_sliceCfg hk
  rw [Dev.sliceMerge_eq hg]
  refine ⟨?_, bit_mergeFields_any hapart hiso⟩
  rw [fld_mergeFields hapart hscratch rfl, Fld.stored, limitField]
  dsimp only
  rw [if_neg (Nat.not_lt_zero _)]
  split
  · rw [Nat.min_eq_left (by omega)]
    rfl
  · rw [Nat.min_eq_right (by omega)]
    exact Nat.mod_eq_of_lt (fld_lt v 0 5)

/-- No page of the slice is HELD. -/
def Dev.sliceFree (d : Dev) (k : Nat) : Prop := (d.sliceLeaves k).any (fun e => d.heldPage (e.1 / 4294967296) (e.1 % 4294967296 * 65536) e.2.size) = false

/-- A write of SLICE_CFG would change SCRATCH under a page. -/
def Dev.sliceBad (d : Dev) (k : Nat) (v : Word) : Bool :=
  fld (d.sliceMerge k v).1 0 5 != fld (d.reg pgSlab (0x100 + 8 * k)) 0 5 && !(d.sliceLeaves k).isEmpty

/-- The word that SLICE_CFG takes while no page of the slice is HELD. -/
def Dev.sliceWord (d : Dev) (k : Nat) (v : Word) : Word :=
  if d.sliceBad k v then setFld (d.sliceMerge k v).1 0 5 (fld (d.reg pgSlab (0x100 + 8 * k)) 0 5) else (d.sliceMerge k v).1

theorem Dev.sliceWord_isolate (d : Dev) (v : Word) (hk : k < 16) : bit (d.sliceWord k v) 8 = bit v 8 := by
  unfold Dev.sliceWord
  split
  · rw [bit_setFld_apart _ _ (by decide) (.inr (by decide))]
    exact (d.sliceMerge_fields v hk).2
  · exact (d.sliceMerge_fields v hk).2

theorem Dev.sliceWord_scratch (d : Dev) (v : Word) (hk : k < 16) (h : d.sliceLeaves k = []) : fld (d.sliceWord k v) 0 5 = min 18 (fld v 0 5) := by
  rw [Dev.sliceWord, Dev.sliceBad, h, List.isEmpty_nil, Bool.not_true, Bool.and_false, if_neg Bool.false_ne_true]
  exact (d.sliceMerge_fields v hk).1

/-- The slice record that SLICE_CFG gives. -/
def Dev.sliceMade (d : Dev) (k : Nat) (v : Word) : Slice where
  scratch := fld (d.sliceWord k v) 0 5
  isolate := bit (d.sliceWord k v) 8
  state := if bit (d.sliceWord k v) 8 then .isolated else if (d.slice k).state = .isolated then .active else (d.slice k).state

theorem Dev.setSlice_noted (d : Dev) (k : Nat) (x : Slice) : Dev.Noted { d with mem := { d.mem with slices := tabPutD {} d.mem.slices k x } } (d.setSlice k x) := by
  unfold Dev.setSlice
  exact .ite (.refl _) (Dev.raise_noted _ _ _ _ _ _ _)

/-- The mappings withdrawn as a slice is isolated. -/
def Dev.sliceXlat (d : Dev) (k : Nat) (v : Word) : Xlat :=
  if bit v 8 && !bit (d.reg pgSlab (0x100 + 8 * k)) 8 then { d.xlat with leaves := d.xlat.leaves.filter fun e => !(e.2.target == 2 && slabSlice e.2.out == k) } else d.xlat

theorem Dev.Noted.ctlRings (h : d.Noted e) : e.ctl.rings = d.ctl.rings := by rw [h]
theorem Dev.Noted.xlat (h : d.Noted e) : e.xlat = d.xlat := by rw [h]

/-- The errors of a write of SLICE_CFG counted. -/
def Dev.sliceTold (d : Dev) (k : Nat) (v : Word) : Dev :=
  if d.sliceBad k v then (d.errs pgSlab (d.sliceMerge k v).2).err pgSlab .badState else d.errs pgSlab (d.sliceMerge k v).2

theorem Dev.sliceTold_noted (d : Dev) (k : Nat) (v : Word) : d.Noted (d.sliceTold k v) := by
  unfold Dev.sliceTold
  exact .ite ((d.errs_noted _ _).trans (Dev.err_noted _ _ _)) (d.errs_noted _ _)

theorem Dev.errs_counters (d : Dev) (p : Nat) (l : List ErrCode) : (d.errs p l).ctl.counters = d.ctl.counters := by
  unfold Dev.errs
  generalize l.eraseDups = l
  induction l generalizing d with
  | nil => rfl
  | cons c l ih => exact ih _

theorem Dev.sliceTold_counters (d : Dev) (k : Nat) (v : Word) : (d.sliceTold k v).ctl.counters = d.ctl.counters := by
  unfold Dev.sliceTold
  split
  · exact d.errs_counters _ _
  · exact d.errs_counters _ _

/-- SLICE_CFG written, before the slice's record is. -/
def Dev.sliceStored (d : Dev) (k : Nat) (v : Word) : Dev := { (d.sliceTold k v).setReg pgSlab (0x100 + 8 * k) (d.sliceWord k v) with xlat := d.sliceXlat k v }

theorem Dev.sliceCfgWrite_eq (d : Dev) (v : Word) (hk : k < 16) (hfree : bit v 8 = true → d.sliceFree k) : d.sliceCfgWrite k v = (d.sliceStored k v).setSlice k (d.sliceMade k v) := by
  have hiso := d.sliceWord_isolate v hk
  have hmade : d.sliceMade k v = ⟨fld (d.sliceWord k v) 0 5, bit v 8, if bit v 8 then .isolated else if (d.slice k).state = .isolated then .active else (d.slice k).state⟩ := by
    rw [Dev.sliceMade, hiso]
  unfold Dev.sliceCfgWrite
  extract_lets off old m d1 maps held w bad w2 badIso w3 d2 d3 x3 d4
  have hm : m = d.sliceMerge k v := rfl
  clear_value m
  subst hm
  have hn1 : d.Noted d1 := d.errs_noted _ _
  have hleaves : maps = d.sliceLeaves k := by
    show d1.sliceLeaves k = _
    rw [Dev.sliceLeaves, hn1.xlat, Dev.sliceLeaves]
  clear_value maps
  subst hleaves
  have hheld : bit v 8 = true → held = false := fun hv => by
    have hnone := hfree hv
    show ((d.sliceLeaves k).any fun e => d1.heldPage _ _ _) = false
    unfold Dev.sliceFree Dev.heldPage at hnone
    unfold Dev.heldPage
    rw [hn1.xlat]
    exact hnone
  have hbadIso : badIso = false := by
    show (bit (d.sliceWord k v) 8 && !bit old 8 && held) = false
    rw [hiso]
    cases hv : bit v 8
    · rfl
    · rw [hheld hv, Bool.and_false]
  clear_value held
  clear_value badIso
  subst hbadIso
  have hw3 : w3 = d.sliceWord k v := rfl
  clear_value w3
  subst hw3
  have hd2 : d2 = d.sliceTold k v := by
    show (if (d.sliceBad k v || false) = true then d1.err pgSlab .badState else d1) = _
    rw [Bool.or_false]
    rfl
  clear_value d2
  subst hd2
  have hd4 : d4 = d.sliceStored k v := by
    show (if (bit (d.sliceWord k v) 8 && !bit old 8) = true then _ else _) = _
    rw [hiso, Dev.sliceStored, Dev.sliceXlat, ← (d.sliceTold_noted k v).xlat]
    split
    · rfl
    · rfl
  have hslice : d4.slice k = d.slice k := by
    rw [hd4, Dev.slice, Dev.slice]
    exact congrArg (fun x : Mem => tabGetD {} x.slices k) (d.sliceTold_noted k v).mem
  rw [hslice, hd4, hmade, hiso]

/-- A write of SLICE_CFG while no page of the slice is HELD. -/
theorem Dev.sliceCfgWrite_spec (d : Dev) (v : Word) (hk : k < 16) (hfree : bit v 8 = true → d.sliceFree k) :
    (d.sliceCfgWrite k v).pair = d.pair ∧ (d.sliceCfgWrite k v).clk = d.clk ∧ (d.sliceCfgWrite k v).ctl.rings = d.ctl.rings ∧
      (d.sliceCfgWrite k v).mem = { d.mem with slices := tabPutD {} d.mem.slices k (d.sliceMade k v) } ∧ (d.sliceCfgWrite k v).xlat = d.sliceXlat k v ∧
      ∀ p o, p ≠ pgErrlog → o < 4096 → (d.sliceCfgWrite k v).counter p o = d.counter p o := by
  rw [Dev.sliceCfgWrite_eq d v hk hfree]
  have hset := (d.sliceStored k v).setSlice_noted k (d.sliceMade k v)
  have htold := d.sliceTold_noted k v
  refine ⟨hset.pair.trans htold.pair, hset.clk.trans htold.clk, ?_, ?_, hset.xlat, fun p o hp ho => ?_⟩
  · exact hset.ctlRings.trans htold.ctlRings
  · rw [hset.mem]
    show ({ (d.sliceTold k v).mem with slices := tabPutD {} (d.sliceTold k v).mem.slices k (d.sliceMade k v) } : Mem) = _
    rw [htold.mem]
  · have hkept : (d.sliceTold k v).counter p o = d.counter p o := by
      rw [Dev.counter, (show (d.sliceTold k v).ctl.counters = d.ctl.counters from d.sliceTold_counters k v), Dev.counter]
    unfold Dev.setSlice
    dsimp only
    split
    · exact hkept
    · exact (Dev.counter_raise _ _ _ _ _ _ _ hp ho).trans hkept

/-- The row SLICE_CFG_WRITE on a page that a host may write. -/
theorem Writable.exec_sliceCfg (h : Writable s pgSlab) (v : Word) (hk : k < 16) (hfree : bit v 8 = true → s.dev.sliceFree k) :
    exec (.sliceCfgWrite k v) s = .next ((s.setDev s.dev).setDev (s.dev.sliceCfgWrite k v)) := by
  obtain ⟨g, hg, hrws, -⟩ := slab_sliceCfg hk
  obtain ⟨hpair, -⟩ := s.dev.sliceCfgWrite_spec v hk hfree
  have hlive : (s.setDev s.dev).liveWrite pgSlab .slab g (0x100 + 8 * k) v = (s.setDev s.dev).onDev fun d => d.sliceCfgWrite k v := by
    simp only [State.liveWrite]
    rw [if_pos (by omega), show (0x100 + 8 * k - 0x100) / 8 = k by omega]
  have hrow : exec (.sliceCfgWrite k v) s = .next (s.hostWrite pgSlab (0x100 + 8 * k) v) := congrArg Host.Outcome.next (if_pos hk)
  rw [hrow, h.hostWrite_live rfl hg hrws (by omega) (by omega) (by omega) hlive hpair]

theorem Dev.slice_sliceCfgWrite (d : Dev) (v : Word) (hk : k < 16) (hfree : bit v 8 = true → d.sliceFree k) (j : Nat) :
    (d.sliceCfgWrite k v).slice j = if j = k then d.sliceMade k v else d.slice j := by
  obtain ⟨-, -, -, hmem, -⟩ := d.sliceCfgWrite_spec v hk hfree
  rw [Dev.slice, hmem]
  exact tabGetD_tabPutD _ _ _ _ _

/-! ### ECC_MAP (R742) -/

theorem memctl_eccMap {w : Nat} (hw : w < 2) : ∃ g, PType.memctl.regAt (0x058 + 8 * w) = some g ∧ g.rws = false := by
  interval_cases w
  all_goals exact ⟨_, rfl, rfl⟩

/-- The word of ECC_MAP as written: the top two regions are always protected (R23). -/
def eccWanted (w : Nat) (v : Word) : Word := if w = 1 then v ||| fmk 62 2 3 else v

/-- The regions that a write of ECC_MAP changes. -/
def Dev.eccFree (d : Dev) (w : Nat) (v : Word) : List Nat :=
  ((List.range 64).filter fun b => bit (eccWanted w v) b != bit (d.reg (pgMemctl 0) (0x058 + 8 * w)) b).filter fun b =>
    !d.regionMapped (64 * w + b) && d.mem.eccBusy.isNone

/-- The word that ECC_MAP takes. -/
def Dev.eccWord (d : Dev) (w : Nat) (v : Word) : Word :=
  (d.eccFree w v).foldl (fun x b => setFld x b 1 (if bit (eccWanted w v) b then 1 else 0)) (d.reg (pgMemctl 0) (0x058 + 8 * w))

theorem Dev.eccMapWrite_spec (d : Dev) (w : Nat) (v : Word) : (d.eccMapWrite w v).ctl.regs = (d.setReg (pgMemctl 0) (0x058 + 8 * w) (d.eccWord w v)).ctl.regs ∧
    (d.eccMapWrite w v).pair = d.pair ∧ (d.eccMapWrite w v).mem.dram = d.mem.dram ∧ (d.eccFree w v = [] → (d.eccMapWrite w v).mem = d.mem) := by
  have hregs : ∀ (x : Dev) (c : Prop) [Decidable c], (if c then x.err (pgMemctl 0) .badState else x).ctl.regs = x.ctl.regs ∧
      (if c then x.err (pgMemctl 0) .badState else x).pair = x.pair ∧ (if c then x.err (pgMemctl 0) .badState else x).mem = x.mem := by
    intro x c _
    split
    · exact ⟨rfl, rfl, rfl⟩
    · exact ⟨rfl, rfl, rfl⟩
  obtain ⟨hreg, hpair, hmem⟩ := hregs (d.setReg (pgMemctl 0) (0x058 + 8 * w) (d.eccWord w v)) ((d.eccFree w v).length <
    ((List.range 64).filter fun b => bit (eccWanted w v) b != bit (d.reg (pgMemctl 0) (0x058 + 8 * w)) b).length)
  unfold Dev.eccMapWrite
  extract_lets pg off old x want free y d1 d2
  have hd2 : d2 = if (d.eccFree w v).length < ((List.range 64).filter fun b => bit (eccWanted w v) b != bit (d.reg (pgMemctl 0) (0x058 + 8 * w)) b).length
    then (d.setReg (pgMemctl 0) (0x058 + 8 * w) (d.eccWord w v)).err (pgMemctl 0) .badState else d.setReg (pgMemctl 0) (0x058 + 8 * w) (d.eccWord w v) := rfl
  rw [← hd2] at hreg hpair hmem
  have hfree : free = d.eccFree w v := rfl
  clear_value d2 free
  subst hfree
  split
  · exact ⟨hreg, hpair, by rw [hmem]; rfl, fun _ => hmem⟩
  next hne => exact ⟨hreg, hpair, (congrArg Mem.dram hmem :), fun h => absurd (by rw [h]; rfl) hne⟩

/-- One bit of a word whose bits in a list are set. -/
theorem bit_foldl_setBit (f : Nat → Bool) (l : List Nat) (hl : ∀ b ∈ l, b < 64) (x : Word) {b : Nat} :
    bit (l.foldl (fun x b => setFld x b 1 (if f b then 1 else 0)) x) b = if b ∈ l then f b else bit x b := by
  induction l generalizing x with
  | nil => rfl
  | cons c l ih =>
    have hc : c < 64 := hl c List.mem_cons_self
    rw [List.foldl_cons, ih (fun b hb => hl b (List.mem_cons_of_mem _ hb))]
    by_cases hin : b ∈ l
    · rw [if_pos hin, if_pos (List.mem_cons_of_mem _ hin)]
    · rw [if_neg hin]
      by_cases hbc : b = c
      · subst hbc
        rw [if_pos List.mem_cons_self, bit_setFld_self _ _ hc]
        cases f b
        · rfl
        · rfl
      · rw [if_neg (mt List.mem_cons.1 (not_or.2 ⟨hbc, hin⟩)), bit_setFld_apart _ _ (by omega) (by omega)]

theorem Writable.exec_eccMap (h : Writable s (pgMemctl 0)) (v : Word) {w : Nat} (hw : w < 2) :
    exec (.eccMapWrite w v) s = .next ((s.setDev s.dev).setDev (s.dev.eccMapWrite w v)) := by
  obtain ⟨g, hg, hrws⟩ := memctl_eccMap hw
  obtain ⟨-, hpair, -⟩ := s.dev.eccMapWrite_spec w v
  have hlive : (s.setDev s.dev).liveWrite (pgMemctl 0) .memctl g (0x058 + 8 * w) v = (s.setDev s.dev).onDev fun d => d.eccMapWrite w v := by
    simp only [State.liveWrite]
    rw [if_pos (by omega), show (0x058 + 8 * w - 0x058) / 8 = w by omega]
    exact if_pos rfl
  have hrow : exec (.eccMapWrite w v) s = .next (s.hostWrite (pgMemctl 0) (0x058 + 8 * w) v) := congrArg Host.Outcome.next (if_pos hw)
  rw [hrow, h.hostWrite_live rfl hg hrws (by omega) (by omega) (by omega) hlive hpair]

theorem Dev.eccFree_busy (d : Dev) (w : Nat) (v : Word) (h : d.mem.eccBusy.isSome = true) : d.eccFree w v = [] := by
  rw [Dev.eccFree, List.filter_eq_nil_iff]
  intro b _
  rw [Option.isNone_eq_false_iff.2 h, Bool.and_false]
  exact Bool.false_ne_true

theorem Dev.bit_eccWord (d : Dev) (v : Word) {w b : Nat} (hb : b < 64) (hw : 64 * w + b < 126) (hbusy : d.mem.eccBusy = none) :
    bit (d.eccWord w v) b = if d.regionMapped (64 * w + b) then bit (d.reg (pgMemctl 0) (0x058 + 8 * w)) b else bit v b := by
  have hwant : bit (eccWanted w v) b = bit v b := by
    unfold eccWanted
    split
    · rw [bit, fld_or, fld_fmk_apart _ (by decide) (.inl (by omega)), Nat.or_zero, bit]
    · rfl
  have hmem : b ∈ d.eccFree w v ↔ bit v b ≠ bit (d.reg (pgMemctl 0) (0x058 + 8 * w)) b ∧ d.regionMapped (64 * w + b) = false := by
    rw [Dev.eccFree, List.mem_filter, List.mem_filter, List.mem_range, hbusy, hwant]
    simp [hb]
  rw [Dev.eccWord, bit_foldl_setBit (fun b => bit (eccWanted w v) b) _ (fun c hc => by
    simp only [Dev.eccFree, List.mem_filter, List.mem_range] at hc
    exact hc.1.1), hwant]
  cases hr : d.regionMapped (64 * w + b)
  · rw [if_neg Bool.false_ne_true]
    by_cases hbit : bit v b = bit (d.reg (pgMemctl 0) (0x058 + 8 * w)) b
    · rw [if_neg fun h => (hmem.1 h).1 hbit, hbit]
    · rw [if_pos (hmem.2 ⟨hbit, hr⟩)]
  · rw [if_neg fun h => by simp [(hmem.1 h).2] at hr, if_pos rfl]

/-! ### ECC_REGION_READY -/

/-- A table read below its keys. -/
theorem tabGet_above {α : Type} (z : Nat → α) {j : Nat} (t : Tab α) (h : tabAbove j t) : tabGet z t j = z j := by
  rcases tabGet_mem z t j with h' | h'
  · exact h'
  · exact absurd (h _ h') (Nat.lt_irrefl j)

/-- A canonical table with some keys struck out. -/
theorem tabGet_filter {α : Type} [DecidableEq α] (z : Nat → α) (p : Nat → Bool) (t : Tab α) (h : tabWf z t = true) (k : Nat) :
    tabGet z (t.filter fun e => p e.1) k = if p k then tabGet z t k else z k := by
  induction t with
  | nil => exact (ite_self _).symm
  | cons e t ih =>
    obtain ⟨j, a⟩ := e
    obtain ⟨-, habove, hwf⟩ := (tabWf_cons z j a t).1 h
    have hih := ih hwf
    by_cases hj : k = j
    · subst hj
      cases hp : p k
      · rw [List.filter_cons_of_neg (by rw [hp]; exact Bool.false_ne_true), hih, hp, if_neg Bool.false_ne_true, if_neg Bool.false_ne_true]
      · rw [List.filter_cons_of_pos (by exact hp), if_pos rfl, tabGet, tabGet, if_pos rfl, if_pos rfl]
    · have hstep : ∀ l : Tab α, tabAbove j l → tabGet z ((j, a) :: l) k = tabGet z l k := fun l hl => by
        rw [tabGet, if_neg hj]
        split
        next hlt =>
          refine (tabGet_above z l fun e he => Nat.lt_trans hlt (hl e he)).symm
        next => rfl
      rw [hstep t habove]
      by_cases hp : p j = true
      · rw [List.filter_cons_of_pos (by exact hp), hstep _ fun e he => habove e (List.mem_filter.1 he).1, hih]
      · rw [List.filter_cons_of_neg (by exact hp), hih]

theorem Dev.eccReady_due {m : Nat} {t : Time} (h : d.mem.eccBusy = some (m, t)) (ht : t ≤ d.now) :
    d.eccReady = { d with mem := { d.mem with dram := d.mem.dram.filter (fun c => (m >>> (c.1 / 1073741824)) % 2 == 0), eccBusy := none } } := by
  rw [Dev.eccReady, h]
  exact if_neg (Nat.not_lt.2 ht)

theorem Dev.eccReady_waits {m : Nat} {t : Time} (h : d.mem.eccBusy = some (m, t)) (ht : d.now < t) : d.eccReady = d := by
  rw [Dev.eccReady, h]
  exact if_pos ht

theorem shiftRight_even (m a : Nat) : ((m >>> a) % 2 == 0) = !m.testBit a := by
  rw [Nat.testBit, Nat.and_comm, Nat.and_one_is_mod]
  rcases Nat.mod_two_eq_zero_or_one (m >>> a) with h | h
  · rw [h]; rfl
  · rw [h]; rfl

/-! ### CHANNEL_FAILURE (R746) -/

/-- The channels in service, once one more has failed. -/
theorem channels_testBit : ∀ x < 16, ∀ n < 4, ∀ i < 4, (15 - (x ||| 2 ^ n)).testBit i = ((15 - x).testBit i && decide (i ≠ n)) := by decide

/-- The memory controllers and SLICE_CFG, as their statement gives them. -/
theorem memoryCommands : MemoryCommands := by
  intro s v
  have hready := exec_actReady (s := s) (i := .eccRegionReady) (f := fun d => d.eccReady) rfl
  refine ⟨fun w b h hw hb hlt hbusy => ?_, fun w h hw hbusy => ?_, fun m t hr hwf hbusy ht => ?_, fun m t hr hbusy ht => ?_, fun k h hk hnone => ?_, fun k h hk hv hheld => ?_,
    fun k n hup hk hn => ?_, fun k n hr hk => ?_⟩
  · obtain ⟨hregs, -, hdram, -⟩ := s.dev.eccMapWrite_spec w v
    refine ⟨_, h.exec_eccMap v hw, ?_, hdram⟩
    rw [State.setDev_dev, Dev.reg, hregs, ← Dev.reg, Dev.reg_setReg, if_pos rfl, Dev.bit_eccWord _ _ hb hlt hbusy]
  · obtain ⟨hregs, -, -, hmem⟩ := s.dev.eccMapWrite_spec w v
    have hnone := s.dev.eccFree_busy w v hbusy
    refine ⟨_, h.exec_eccMap v hw, fun p o => ?_, hmem hnone⟩
    rw [State.setDev_dev, Dev.reg, hregs, ← Dev.reg, Dev.eccWord, hnone, List.foldl_nil, Dev.reg_setReg]
    split
    next hkey => rw [Dev.reg, Dev.reg, hkey]
    next => rfl
  · refine ⟨_, hready hr, ?_⟩
    rw [State.setDev_dev, Dev.eccReady_due hbusy ht]
    refine ⟨rfl, fun a => ?_⟩
    simp only [shiftRight_even]
    refine (tabGet_filter _ (fun a => !m.testBit (a / 1073741824)) _ hwf a).trans ?_
    cases m.testBit (a / 1073741824)
    · rfl
    · rfl
  · rw [hready hr, Dev.eccReady_waits hbusy ht]
  · have hfree : bit v 8 = true → s.dev.sliceFree k := fun _ => by rw [Dev.sliceFree, hnone]; rfl
    have hslice := s.dev.slice_sliceCfgWrite v hk hfree
    have hiso := s.dev.sliceWord_isolate v hk
    refine ⟨_, h.exec_sliceCfg v hk hfree, ?_, ?_, fun hv => ?_, fun j hj => ?_⟩
    · rw [State.setDev_dev, hslice, if_pos rfl, ← s.dev.sliceWord_scratch v hk hnone]
      rfl
    · rw [State.setDev_dev, hslice, if_pos rfl, ← hiso]
      rfl
    · rw [State.setDev_dev, hslice, if_pos rfl, Dev.sliceMade, hiso, hv]
      rfl
    · rw [State.setDev_dev, hslice, if_neg hj]
  · refine ⟨_, h.exec_sliceCfg v hk fun _ => hheld, fun hold => ?_, ?_⟩
    · obtain ⟨-, -, -, -, hxlat, -⟩ := s.dev.sliceCfgWrite_spec v hk fun _ => hheld
      rw [State.setDev_dev, Dev.sliceLeaves, hxlat, Dev.sliceXlat, hv, hold, Bool.not_false, Bool.and_self, if_pos rfl, List.filter_filter, List.filter_eq_nil_iff]
      intro e _
      simp
    · rw [State.setDev_dev, Dev.slice_sliceCfgWrite _ _ hk fun _ => hheld, if_pos rfl, Dev.sliceMade, s.dev.sliceWord_isolate v hk, hv]
      rfl
  · refine ⟨_, exec_act (f := fun d => d.channelFailure k n) rfl hup, ?_⟩
    rw [State.setDev_dev, Dev.channelFailure, if_neg (by omega)]
    refine ⟨by rw [Dev.page_onPage, if_pos rfl], fun i hi => ?_, rfl⟩
    by_cases hx : tabGetD 0 s.dev.mem.channels k < 16
    · left
      refine (congrArg (fun x => (15 - x).testBit i) (tabGetD_tabPutD _ _ _ _ _)).trans ?_
      rw [if_pos rfl]
      exact channels_testBit _ hx _ hn _ hi
    · exact .inr (Nat.not_lt.1 hx)
  · refine ⟨_, exec_actReady (f := fun d => if 16 ≤ k then d
      else ({ d with mem := { d.mem with mr4 := tabPutD 0 d.mem.mr4 k (n % 8) } }).raise (pgMemctl k) 2 (0x160 + k) 0x0D33 (fmk 0 64 k) 0) rfl hr, ?_⟩
    dsimp only
    rw [if_neg (by omega), State.setDev_dev, (Dev.raise_noted _ _ _ _ _ _ _).mem]
    exact ⟨(tabGetD_tabPutD _ _ _ _ _).trans (if_pos rfl), Dev.raise_bit _ _ _ _ _ _ _ (by decide)⟩

/-- Settles O49: the memory controllers, and the scratch of an ISOLATED slice. -/
theorem memoryControl : Obligations.MemoryControl := by
  refine ⟨memoryCommands, fun d a n hiso => ⟨?_, ?_⟩⟩
  · simp only [Dev.slabOk, hiso, Bool.not_true, Bool.and_false, Bool.false_and]
  · rw [Dev.slabRead, if_pos rfl, Option.map_some, fld_or, fld_fmk_apart _ (by decide) (by decide), fld_fmk_same _ (by decide), Nat.zero_or]
    rfl

end Sys2Proof.Machine
end

section
/-! Units under test, and commands for the partner (R765, R803, R808 to R813): O53. -/

namespace Sys2Proof.Machine
open Sys2Proof

variable {s : State} {d e : Dev} {o : OpSpec} {c : HostCmd} {n p : Nat}

/-! ### What a completion leaves -/

/-- Of the observation records, a completion changes the trace alone. -/
def Obs.Traced (a b : Obs) : Prop := b = { a with trace := b.trace, order := b.order, traceDropped := b.traceDropped, traceFirst := b.traceFirst }

theorem Obs.Traced.refl (a : Obs) : a.Traced a := rfl
theorem Obs.Traced.trans {a b c : Obs} (h : a.Traced b) (k : b.Traced c) : a.Traced c := by
  unfold Obs.Traced at *; rw [k, h]
theorem Obs.Traced.bist {a b : Obs} (h : a.Traced b) : b.bist = a.bist := by rw [h]
theorem Obs.Traced.frozen {a b : Obs} (h : a.Traced b) : b.frozen = a.frozen := by rw [h]

theorem Dev.trace_traced (d : Dev) (c e s : Nat) (x y : Word) (o : Nat) : d.obs.Traced (d.trace c e s x y o).obs := by
  unfold Dev.trace
  dsimp only
  repeat' split
  all_goals rfl

theorem Dev.postRing_obs (d : Dev) (m r : Nat) (tag : BitVec 32) (st : Status) (n : Nat) (v : Word) : (d.postRing m r tag st n v).obs = d.obs := by
  have hwrite : ∀ (va : Nat) (l : List Byte) (x : Ring), ((d.writeVa m va l).setRing m r x).obs = d.obs := fun va l x => by rw [Dev.writeVa_eq]; rfl
  unfold Dev.postRing
  dsimp only
  split
  · rfl
  · split
    · exact (Dev.obs_msix _ _).trans (hwrite _ _ _)
    · exact hwrite _ _ _

theorem Dev.complete_traced (d : Dev) (k : Token) (st : Status) (n : Nat) (v : Word) : d.obs.Traced (d.complete k st n v).obs := by
  unfold Dev.complete
  dsimp only
  refine Obs.Traced.trans ?_ (Dev.trace_traced _ _ _ _ _ _ _)
  split
  · split
    · exact .refl _
    · show d.obs.Traced (d.postRing _ _ _ _ _ _).obs
      rw [Dev.postRing_obs]
      exact .refl _
  · exact .refl _

theorem Dev.finish_traced (d : Dev) (op o : Nat) (st : Status) (n : Nat) (v : Word) : d.obs.Traced (d.finish op o st n v).obs := by
  have hfold : ∀ (f : Wait → Status) (l : List Wait) (e : Dev), e.obs.Traced (l.foldl (fun (d : Dev) (w : Wait) => d.complete w.tok (f w) n v) e).obs := by
    intro f l
    induction l with
    | nil => exact fun e => .refl _
    | cons w l ih => exact fun e => (e.complete_traced w.tok (f w) n v).trans (ih _)
  exact hfold (fun w => if w.late && decide (st = .ok) then .late else st) _ _

/-- A completion of a command of its own row writes no memory. -/
theorem Dev.complete_mem (d : Dev) {k : Token} (hk : k.direct = true) (st : Status) (n : Nat) (v : Word) : (d.complete k st n v).mem = d.mem := by
  have htrace : ∀ (x : Dev) (c e s : Nat) (a b : Word) (o : Nat), (x.trace c e s a b o).mem = x.mem := fun x c e s a b o => (x.trace_noted c e s a b o).mem
  unfold Dev.complete
  dsimp only
  rw [htrace, hk, if_pos rfl]
  split
  · rfl
  · rfl

/-- An accepted command that its rule ends with OK: what its completion leaves. -/
theorem Accepts.okKept (h : Accepts o c s) {n : Nat} {v : Word} (he : o.effect c s = (s.setDev d, .done .ok n v)) (hr : d.ctl.rings = s.dev.ctl.rings)
    (hk : d.clk = s.dev.clk) :
    ∃ e, runCmd o c s = (s.setDev d).setDev e ∧ Ends ((s.setDev d).setDev e) s c (o.okOr c s) (n % 65536) v ∧ e.mem = d.mem ∧ d.obs.Traced e.obs ∧ d.Completed e ∧
      ∀ p b, p ≠ pgObs → b < 4096 → e.counter p b = d.counter p b := by
  obtain ⟨hends, ⟨-, hdone⟩, hcount⟩ := ends_complete o (c := c) (s := s) (t := s.setDev d) hr hk (o.okOr c s) n v
  refine ⟨d.complete (o.token c s) (o.okOr c s) n v, ?_, hends, Dev.complete_mem _ rfl _ _ _, Dev.complete_traced _ _ _ _ _, hdone, hcount⟩
  rw [h.runs, OpSpec.done, he]
  rfl

/-! ### UNIT_ISOLATE -/

theorem testUnitOf_slice {u : Nat} (h : testUnitOf u = some (.slice n)) : n < 16 := by
  unfold testUnitOf at h
  repeat' split at h
  all_goals simp only [Option.some.injEq, TestUnit.slice.injEq, reduceCtorEq] at h
  omega

theorem targeted_here {k : Nat} (hf : o.run = targeted k f) (h : c.arg k 1 = 0) : o.effect c s = f c ((o.capture c s.dev).getD []) (o.token c s) s := by
  rw [OpSpec.effect, hf]
  exact if_pos (by rw [here, h]; rfl)

/-- What UNIT_ISOLATE makes of a slice: the unit, and the command's answer. -/
theorem unitIsolate_effect (h : c.arg 3 1 = 0) (hu : testUnitOf (c.arg 0 2) = some (.slice n)) {w : Word}
    (hw : w = setFld (s.dev.reg pgSlab (0x100 + 8 * n)) 8 1 (if c.arg 2 1 == 1 then 1 else 0)) {x : Dev}
    (hx : x = if c.arg 2 1 == 1 && decide ((s.dev.slice n).state ≠ .isolated) then s.dev.inc pgDevice 0x0A0 else s.dev) :
    unitIsolateSpec.effect c s = (s.setDev (x.sliceCfgWrite n w), if c.arg 2 1 == 1 && decide (((x.sliceCfgWrite n w).slice n).state ≠ .isolated)
      then .later (c.arg 0 2) 0 else .done .ok ((x.sliceCfgWrite n w).slice n).state.code (x.sliceCfgWrite n w).short) := by
  rw [targeted_here (k := 3) rfl h]
  dsimp only
  rw [hu]
  dsimp only
  subst hw hx
  have hreg : ∀ b : Bool, (if b then s.dev.inc pgDevice 0x0A0 else s.dev).reg pgSlab (0x100 + 8 * n) = s.dev.reg pgSlab (0x100 + 8 * n) := fun b => by
    split <;> rfl
  rw [← hreg (c.arg 2 1 == 1 && decide ((s.dev.slice n).state ≠ .isolated))]
  rfl

/-- A slice that UNIT_ISOLATE may take out of service has no page that is HELD. -/
theorem Accepts.isolateFree (h : Accepts unitIsolateSpec c s) (htarget : c.arg 3 1 = 0) (hu : testUnitOf (c.arg 0 2) = some (.slice n)) (hon : c.arg 2 1 = 1)
    (hst : (s.dev.slice n).state = .active) : s.dev.sliceFree n := by
  have hmem : conflict (s.dev.unitState (.slice n)).code (here 3 c s && (decide (s.dev.unitState (.slice n) = .testing) || decide (s.dev.unitState (.slice n) = .faulted) ||
      (c.arg 2 1 == 1 && decide (s.dev.unitState (.slice n) ≠ .isolated) && s.dev.unitRefuses (.slice n)))) ∈ unitIsolateSpec.checks c s := by
    dsimp only [unitIsolateSpec]
    refine List.mem_append_right _ ?_
    rw [hu]
    exact List.mem_singleton_self _
  have hno := h.conflicts hmem
  simp only [here, htarget, hon, Dev.unitState, hst] at hno
  have hrefuses : s.dev.unitRefuses (.slice n) = false := by simpa using hno
  exact hrefuses

theorem Dev.sliceFree_congr (hx : d.xlat = e.xlat) (k : Nat) : d.sliceFree k ↔ e.sliceFree k := by
  unfold Dev.sliceFree Dev.sliceLeaves Dev.heldPage
  rw [hx]

theorem Accepts.isolatesSlice (h : Accepts unitIsolateSpec c s) (htarget : c.arg 3 1 = 0) (hu : testUnitOf (c.arg 0 2) = some (.slice n)) (hon : c.arg 2 1 = 1)
    (hst : (s.dev.slice n).state = .active) : ∃ u, exec (.unitIsolate c) s = .next u ∧ Ends u s c (unitIsolateSpec.okOr c s) 5 s.dev.short ∧ (u.dev.slice n).state = .isolated ∧
      u.dev.counter pgDevice 0x0A0 = s.dev.counter pgDevice 0x0A0 + 1 := by
  have hn := testUnitOf_slice hu
  have hfree : (s.dev.inc pgDevice 0x0A0).sliceFree n := h.isolateFree htarget hu hon hst
  obtain ⟨w, hw⟩ : ∃ w, w = setFld (s.dev.reg pgSlab (0x100 + 8 * n)) 8 1 (if c.arg 2 1 == 1 then 1 else 0) := ⟨_, rfl⟩
  have hbit : bit w 8 = true := by
    rw [hw, hon, bit_setFld_self _ _ (by decide)]
    rfl
  have heffect := unitIsolate_effect (s := s) htarget hu hw (x := s.dev.inc pgDevice 0x0A0) (by rw [hon, hst]; rfl)
  obtain ⟨-, hclk, hrings, hmem, -, hcount⟩ := (s.dev.inc pgDevice 0x0A0).sliceCfgWrite_spec w hn fun _ => hfree
  have hslice : ((s.dev.inc pgDevice 0x0A0).sliceCfgWrite n w).slice n = (s.dev.inc pgDevice 0x0A0).sliceMade n w :=
    (Dev.slice_sliceCfgWrite _ w hn (fun _ => hfree) n).trans (if_pos rfl)
  have hiso : ((s.dev.inc pgDevice 0x0A0).sliceMade n w).state = .isolated := by
    rw [Dev.sliceMade, Dev.sliceWord_isolate _ _ hn, hbit]
    rfl
  have hshort : ((s.dev.inc pgDevice 0x0A0).sliceCfgWrite n w).short = s.dev.short := by rw [Dev.short, Dev.now, hclk]; rfl
  rw [hslice, hiso, hon, hshort, if_neg (by decide)] at heffect
  obtain ⟨e, hrun, hends, hemem, -, -, hecount⟩ := h.okKept heffect hrings hclk
  refine ⟨_, congrArg Host.Outcome.next hrun, hends, ?_, ?_⟩
  · rw [State.setDev_dev, Dev.slice, hemem]
    exact (congrArg Slice.state hslice).trans hiso
  · rw [State.setDev_dev, hecount _ _ (by decide) (by decide), hcount _ _ (by decide) (by decide), Dev.counter_inc_same]

theorem Accepts.returnsSlice (h : Accepts unitIsolateSpec c s) (htarget : c.arg 3 1 = 0) (hu : testUnitOf (c.arg 0 2) = some (.slice n)) (hoff : c.arg 2 1 = 0)
    (hst : (s.dev.slice n).state = .isolated) : ∃ u, exec (.unitIsolate c) s = .next u ∧ (u.dev.slice n).state = .active := by
  have hn := testUnitOf_slice hu
  obtain ⟨w, hw⟩ : ∃ w, w = setFld (s.dev.reg pgSlab (0x100 + 8 * n)) 8 1 (if c.arg 2 1 == 1 then 1 else 0) := ⟨_, rfl⟩
  have hbit : bit w 8 = false := by
    rw [hw, hoff, bit_setFld_self _ _ (by decide)]
    rfl
  have hfree : bit w 8 = true → s.dev.sliceFree n := fun hb => by rw [hbit] at hb; cases hb
  have heffect := unitIsolate_effect (s := s) htarget hu hw (x := s.dev) (by rw [hoff]; rfl)
  obtain ⟨-, hclk, hrings, -⟩ := s.dev.sliceCfgWrite_spec w hn hfree
  have hslice : (s.dev.sliceCfgWrite n w).slice n = s.dev.sliceMade n w := (Dev.slice_sliceCfgWrite _ w hn hfree n).trans (if_pos rfl)
  have hactive : (s.dev.sliceMade n w).state = .active := by
    rw [Dev.sliceMade, Dev.sliceWord_isolate _ _ hn, hbit, hst]
    rfl
  rw [hoff, if_neg (by exact Bool.false_ne_true)] at heffect
  obtain ⟨e, hrun, -, hemem, -⟩ := h.okKept heffect hrings hclk
  refine ⟨_, congrArg Host.Outcome.next hrun, ?_⟩
  rw [State.setDev_dev, Dev.slice, hemem]
  exact (congrArg Slice.state hslice).trans hactive

/-! ### BIST_RUN and BIST_DONE (R809, R810) -/

theorem Obs.take_bist (o : Obs) (r : Report) : (o.take r).bist = o.bist := by
  unfold Obs.take Obs.lose
  dsimp only
  repeat' split
  all_goals rfl

theorem Dev.bist_raise (d : Dev) (p b c k : Nat) (x y : Word) : (d.raise p b c k x y).obs.bist = d.obs.bist := by
  rw [Dev.raise, Dev.report_obs, Dev.obs_event]
  exact Obs.take_bist _ _

theorem Dev.setSlice_spec (d : Dev) (k : Nat) (x : Slice) : (d.setSlice k x).slice k = x ∧ (d.setSlice k x).obs.bist = d.obs.bist ∧
    ∀ p o, p ≠ pgErrlog → o < 4096 → (d.setSlice k x).counter p o = d.counter p o := by
  refine ⟨?_, ?_, fun p o hp ho => ?_⟩
  · rw [Dev.slice, (d.setSlice_noted k x).mem]
    exact (tabGetD_tabPutD _ _ _ _ _).trans (if_pos rfl)
  · unfold Dev.setSlice
    dsimp only
    split
    · rfl
    · exact Dev.bist_raise _ _ _ _ _ _ _
  · unfold Dev.setSlice
    dsimp only
    split
    · rfl
    · exact Dev.counter_raise _ _ _ _ _ _ _ hp ho

theorem Dev.unitPut_garnet (d : Dev) (st : PState) (p : Nat) : ((d.unitPut st (.garnet p)).page (pgGarnet p)).state = st := by
  rw [Dev.unitPut, Dev.page_onPage, if_pos rfl]

/-- The unit as a test of one of its units begins. -/
def Dev.testing (d : Dev) (c : HostCmd) (u : TestUnit) : Dev := ((d.inc pgDevice 0x0A8).onObs fun o => { o with bist := o.bist ++ [(c.arg 0 2, c.arg 2 1)] }).unitPut .testing u

theorem bistRun_slice (h : c.arg 3 1 = 0) (hu : testUnitOf (c.arg 0 2) = some (.slice n)) :
    bistRunSpec.effect c s = (s.setDev (s.dev.testing c (.slice n)), .later (c.arg 0 2) 0) := by
  rw [targeted_here (k := 3) rfl h]
  dsimp only
  rw [hu]
  rfl

theorem bistRun_garnet (h : c.arg 3 1 = 0) (hu : testUnitOf (c.arg 0 2) = some (.garnet p)) :
    bistRunSpec.effect c s = (s.setDev (s.dev.testing c (.garnet p)), .later (c.arg 0 2) 0) := by
  rw [targeted_here (k := 3) rfl h]
  dsimp only
  rw [hu]
  rfl

theorem Accepts.testsSlice (h : Accepts bistRunSpec c s) (htarget : c.arg 3 1 = 0) (hu : testUnitOf (c.arg 0 2) = some (.slice n)) :
    ∃ u, exec (.bistRun c) s = .next u ∧ (u.dev.slice n).state = .testing ∧ u.dev.obs.bist = s.dev.obs.bist ++ [(c.arg 0 2, c.arg 2 1)] ∧
      u.dev.waiting 0x0F01 (c.arg 0 2) = true ∧ u.dev.counter pgDevice 0x0A8 = s.dev.counter pgDevice 0x0A8 + 1 := by
  obtain ⟨e, hrun, ⟨w, he⟩, hwait⟩ := h.laterDev (bistRun_slice htarget hu)
  obtain ⟨hslice, hbist, hcount⟩ := ((s.dev.inc pgDevice 0x0A8).onObs fun o => { o with bist := o.bist ++ [(c.arg 0 2, c.arg 2 1)] }).setSlice_spec n
    { s.dev.slice n with state := .testing }
  subst he
  exact ⟨_, congrArg Host.Outcome.next hrun, (congrArg Slice.state hslice :), hbist, hwait, (hcount _ _ (by decide) (by decide)).trans (Dev.counter_inc_same _ _ _)⟩

theorem Accepts.testsGarnet (h : Accepts bistRunSpec c s) (htarget : c.arg 3 1 = 0) (hu : testUnitOf (c.arg 0 2) = some (.garnet p)) :
    (s.dev.gaState p = .isolated ∨ s.dev.gaState p = .faulted) ∧
      ∃ u, exec (.bistRun c) s = .next u ∧ (u.dev.page (pgGarnet p)).state = .testing ∧ u.dev.waiting 0x0F01 (c.arg 0 2) = true := by
  obtain ⟨e, hrun, ⟨w, he⟩, hwait⟩ := h.laterDev (bistRun_garnet htarget hu)
  have hmem : conflict (s.dev.gaState p).code (here 3 c s && decide (s.dev.gaState p ≠ .isolated) && decide (s.dev.gaState p ≠ .faulted)) ∈ bistRunSpec.checks c s := by
    dsimp only [bistRunSpec]
    refine List.mem_append_right _ ?_
    rw [hu]
    exact List.mem_cons_of_mem _ (List.mem_singleton_self _)
  have hno := h.conflicts hmem
  subst he
  refine ⟨?_, _, congrArg Host.Outcome.next hrun, ?_, hwait⟩
  · simpa [here, htarget, Decidable.or_iff_not_imp_left] using hno
  · exact Dev.unitPut_garnet _ _ _

theorem testUnitOf_garnet (hp : p < 33) : testUnitOf (0x080 + p) = some (.garnet p) := by
  unfold testUnitOf
  rw [if_neg (by omega), if_pos (by omega), Nat.add_sub_cancel_left]

/-- A cluster's test ends: the unit before its command completes. -/
def Dev.tested (d : Dev) (p f : Nat) : Dev :=
  ((if f = 0 then (d.onObs fun o => { o with bist := o.bist.filter fun x => x.1 != 0x080 + p }).unitPut .isolated (.garnet p)
    else ((d.onObs fun o => { o with bist := o.bist.filter fun x => x.1 != 0x080 + p }).unitPut .faulted (.garnet p)).inc pgDevice 0x0B0)).raise pgDevice 0 (0x080 + p)
      (if f = 0 then 0x0F11 else 0x0F12) 0 0

theorem Dev.bistDone_garnet (d : Dev) (hp : p < 33) {t : Nat} (h : d.obs.bist = [(0x080 + p, t)]) (failed a : Nat) : ∃ v,
    d.bistDone (0x080 + p) failed a = (d.tested p (failed &&& t)).finish 0x0F01 (0x080 + p) .ok (failed &&& t) v := by
  have hfind : d.obs.bist.find? (fun e => e.1 == 0x080 + p) = some (0x080 + p, t) := by
    rw [h, List.find?_cons_of_pos]
    exact beq_self_eq_true _
  unfold Dev.bistDone
  rw [hfind, testUnitOf_garnet hp]
  dsimp only
  by_cases hf : failed &&& t = 0
  · rw [if_pos hf, if_pos hf, if_pos hf, Dev.tested, if_pos hf, if_pos hf]
    exact ⟨_, rfl⟩
  · rw [if_neg hf, if_neg hf, if_neg hf, Dev.tested, if_neg hf, if_neg hf]
    exact ⟨_, rfl⟩

theorem Dev.bistDone_none (d : Dev) {u : Nat} (failed a : Nat) (h : (∀ e, e ∈ d.obs.bist → e.1 ≠ u) ∨ testUnitOf u = none) : d.bistDone u failed a = d := by
  unfold Dev.bistDone
  rcases h with h | h
  · rw [List.find?_eq_none.2 fun e he => by simpa using h e he]
  · rw [h]
    split
    next hu => cases hu
    next => rfl

/-- What a cluster's test leaves. -/
theorem Dev.bistDone_spec (d : Dev) (hp : p < 33) {t : Nat} (h : d.obs.bist = [(0x080 + p, t)]) (failed a : Nat) :
    ((d.bistDone (0x080 + p) failed a).page (pgGarnet p)).state = (if failed &&& t = 0 then .isolated else .faulted) ∧ (d.bistDone (0x080 + p) failed a).obs.bist = [] ∧
      (d.bistDone (0x080 + p) failed a).waiting 0x0F01 (0x080 + p) = false ∧ ((d.bistDone (0x080 + p) failed a).page pgDevice).event.getLsbD 0 = true ∧
      (d.bistDone (0x080 + p) failed a).counter pgDevice 0x0B0 = d.counter pgDevice 0x0B0 + if failed &&& t = 0 then 0 else 1 := by
  obtain ⟨v, heq⟩ := d.bistDone_garnet hp h failed a
  have hdone := (d.tested p (failed &&& t)).finish_completed 0x0F01 (0x080 + p) .ok (failed &&& t) v
  have hne : pgGarnet p ≠ pgDevice := by unfold pgGarnet pgDevice; omega
  have hempty : (d.obs.bist.filter fun x => x.1 != 0x080 + p) = [] := by
    rw [h, List.filter_cons_of_neg (by simp)]
    rfl
  rw [heq]
  refine ⟨?_, ?_, Dev.waiting_finish _ _ _ _ _ _, ?_, ?_⟩
  · rw [hdone.page]
    refine (congrArg PageHdr.state (Dev.page_raise_of_ne _ _ _ _ _ _ hne)).trans ?_
    split
    · exact Dev.unitPut_garnet _ _ _
    · exact Dev.unitPut_garnet _ _ _
  · rw [(Dev.finish_traced _ _ _ _ _ _).bist, Dev.tested, Dev.bist_raise]
    split
    · exact hempty
    · exact hempty
  · rw [hdone.page]
    exact Dev.raise_bit _ _ _ _ _ _ _ (by decide)
  · rw [(Dev.finish_linkDone _ _ _ _ _ _).counter _ _ (by decide) (by decide), Dev.tested, Dev.counter_raise _ _ _ _ _ _ _ (by decide) (by decide)]
    split
    · exact (BitVec.add_zero _).symm
    · exact Dev.counter_inc_same _ _ _

/-! ### DEVICE_TEST (R813) -/

theorem Accepts.deviceTest (h : Accepts deviceTestSpec c s) (htarget : c.arg 0 1 = 0) :
    ∃ u, exec (.deviceTest c) s = .next u ∧ Ends u s c (deviceTestSpec.okOr c s) u.aon.armed.toNat s.dev.short ∧
      u.aon.armed = (if c.arg 2 1 = 1 then s.aon.armed ||| BitVec.ofNat 4 (c.arg 1 1) else s.aon.armed &&& (BitVec.ofNat 4 (c.arg 1 1) ^^^ 15)) ∧ KeptForGood s u := by
  obtain ⟨a, ha⟩ : ∃ a, a = if c.arg 2 1 = 1 then s.aon.armed ||| BitVec.ofNat 4 (c.arg 1 1) else s.aon.armed &&& (BitVec.ofNat 4 (c.arg 1 1) ^^^ 15) := ⟨_, rfl⟩
  have heffect : deviceTestSpec.effect c s = (s.onAon fun x => { x with armed := a }, .done .ok a.toNat s.dev.short) := by
    rw [targeted_here (k := 0) rfl htarget, ha]
  obtain ⟨u, hu, hends, hans, -⟩ := h.ok heffect rfl rfl
  have harmed : u.aon.armed = a := by
    rw [hans.1]
    rfl
  have hkept : KeptForGood s (s.onAon fun x => { x with armed := a }) := ⟨rfl, rfl, rfl, rfl, rfl, rfl, rfl, rfl⟩
  refine ⟨u, congrArg Host.Outcome.next hu, ?_, harmed.trans ha, hkept.trans hans.kept⟩
  have hlt : a.toNat < 16 := a.isLt
  rw [harmed]
  rw [Nat.mod_eq_of_lt (Nat.lt_trans hlt (by decide))] at hends
  exact hends

/-- Units under test, as their statement gives them. -/
theorem unitTests : UnitTests := by
  intro s c
  have hdone : ∀ (n : Nat) (failed : BitVec 3) (a : Nat), s.ready = true → exec (.bistDone n failed a) s = .next (s.setDev (s.dev.bistDone n failed.toNat a)) := fun n failed a =>
    exec_actReady (f := fun d => d.bistDone n failed.toNat a) rfl
  refine ⟨fun n h htarget hu => ⟨h.isolatesSlice htarget hu, h.returnsSlice htarget hu⟩, fun n h htarget hu => h.testsSlice htarget hu,
    fun p h htarget hu => h.testsGarnet htarget hu, fun p t failed a hready hp hbist => ?_, hdone, fun n failed a hready h => ?_, fun h htarget => h.deviceTest htarget⟩
  · obtain ⟨hstate, hgone, hwait, hevent, hcount⟩ := s.dev.bistDone_spec hp hbist failed.toNat a
    refine ⟨fun hf => ⟨_, hdone _ failed a hready, ?_, hgone, hwait, hevent, ?_⟩, fun hf => ⟨_, hdone _ failed a hready, ?_, hgone, hevent, ?_⟩⟩
    · exact hstate.trans (if_pos hf)
    · exact hcount.trans (by rw [if_pos hf]; exact BitVec.add_zero _)
    · exact hstate.trans (if_neg hf)
    · exact hcount.trans (by rw [if_neg hf])
  · rw [hdone n failed a hready, Dev.bistDone_none _ _ _ h]

/-! ### Commands for the partner (R765, R812) -/

theorem Dev.Linked.accepted (h : d.Linked e) : e.ctl.accepted = d.ctl.accepted := by rw [h]
theorem Dev.Linked.obs (h : d.Linked e) : e.obs = d.obs := by rw [h]

theorem keptHere_of_linked {u : State} (haon : u.aon = { s.aon with freeze := u.aon.freeze }) (h : s.dev.Linked u.dev) : KeptHere s u := by
  unfold KeptHere KeptForGood
  rw [haon, h]
  exact ⟨⟨rfl, rfl, rfl, rfl, rfl, rfl, rfl, rfl⟩, rfl, rfl, rfl, rfl⟩

theorem State.told_aon (s : State) (k : Token) (l : List Byte) : (s.told k l).aon = { s.aon with freeze := (s.told k l).aon.freeze } := by
  unfold State.told
  split
  · rfl
  · rfl

/-- The rules of a command that names a unit of the pair: where TARGET stands, and that it waits for the partner's result. -/
structure NamesUnit (o : OpSpec) (b : Nat) : Prop where
  boundary : o.atOnce = false
  restarts : ¬(o.opcode = 0x0E04 ∨ o.opcode = 0x0E06)
  streams : ¬(o.opcode = 0x0802 ∨ o.opcode = 0x0805)
  computes : o.opcode ≠ 0x0700
  checked : ∀ c s, noPartner (!here b c s && !s.dev.mirrored) ∈ o.checks c s
  run : ∃ f, o.run = targeted b f

theorem not_here (hrole : s.dev.pair.role = .primary) {b : Nat} (h : c.arg b 1 = 1) : here b c s = false := by
  rw [here, h, hrole]
  rfl

/-- A command with TARGET 1 is held for its boundary on a unit that has a partner. -/
theorem NamesUnit.held {b : Nat} (ho : NamesUnit o b) (hrole : s.dev.pair.role = .primary) (htarget : c.arg b 1 = 1) (hready : s.ready = true)
    (hroom : c.dated = true → s.dev.datedPending < 8192) (hv : o.judged c s = none) : ∃ a, (runCmd o c s).dev.ctl.accepted = s.dev.ctl.accepted ++ [a] ∧ a.tok.cmd = c ∧
      a.tok.opcode = o.opcode ∧ s.dev.now + 250 * usT ≤ a.due ∧ KeptHere s (runCmd o c s) := by
  have hm : s.dev.mirrored = true := by
    obtain ⟨l, -, hgood, -⟩ := runCmd_taken hready hroom hv
    by_contra hno
    have hin := ho.checked c s
    rw [not_here hrole htarget] at hin
    exact (firstFail_none _).1 hgood (noPartner (!false && !s.dev.mirrored)) (List.mem_append_left _ (List.mem_append_left _ (List.mem_append_right _ hin))) (by simpa [noPartner] using hno) (by simp [noPartner, checkOrder])
  obtain ⟨l, due, late, hdue, hrun⟩ := runCmd_heldMirrored hready hroom hv hm ho.boundary ho.streams ho.restarts
  have hlink := s.told_linked (o.token c s) l
  have hcomputes : (o.token c s).computes = false := beq_false_of_ne ho.computes
  have hhold : (s.told (o.token c s) l).dev.holdCommand ⟨o.token c s, due, late, l⟩ =
      { (s.told (o.token c s) l).dev with ctl := { (s.told (o.token c s) l).dev.ctl with accepted := (s.told (o.token c s) l).dev.ctl.accepted ++ [⟨o.token c s, due, late, l⟩] } } := by
    unfold Dev.holdCommand
    rw [hcomputes, if_neg Bool.false_ne_true]
  rw [hhold] at hrun
  refine ⟨⟨o.token c s, due, late, l⟩, ?_, rfl, rfl, hdue, ?_⟩
  · rw [hrun, State.setDev_dev]
    exact congrArg (· ++ _) hlink.accepted
  · rw [hrun]
    obtain ⟨hgood, harmed, hboot, hbist, hmem⟩ := keptHere_of_linked (s.told_aon (o.token c s) l) hlink
    exact ⟨hgood.trans (keptForGood_setDev _ _), harmed, hboot, hbist, hmem⟩

/-- At its boundary it waits for the partner's result. -/
theorem NamesUnit.waits {b : Nat} (ho : NamesUnit o b) (hrole : s.dev.pair.role = .primary) (htarget : c.arg b 1 = 1) (l : List Byte) (k : Token) (late : Bool)
    (hk : k.opcode = o.opcode) : (answer k late (o.run c l k s)).dev.waiting o.opcode partnerObj = true ∧ KeptHere s (answer k late (o.run c l k s)) := by
  obtain ⟨f, hf⟩ := ho.run
  have hrun : o.run c l k s = (s.setDev s.dev, .later partnerObj 0) := by
    rw [hf, targeted, if_neg (by rw [not_here hrole htarget]; exact Bool.false_ne_true)]
    rfl
  rw [hrun]
  refine ⟨?_, ⟨rfl, rfl, rfl, rfl, rfl, rfl, rfl, rfl⟩, rfl, rfl, rfl, rfl⟩
  simp [answer, Dev.waiting, State.onDev, hk]

theorem namesUnit_update : NamesUnit updateBeginSpec 0 ∧ NamesUnit updateDataSpec 0 ∧ NamesUnit updateFinishSpec 0 ∧ NamesUnit updateAbortSpec 0 ∧
    NamesUnit updateConfirmSpec 0 ∧ NamesUnit updateLockSpec 0 :=
  have hin : ∀ (k : Nat) (c : HostCmd) (s : State) (l : List Chk), noPartner (!here k c s && !s.dev.mirrored) ∈ targetChecks k c s ++ l := fun k c s l =>
    List.mem_append_left _ (List.mem_cons_of_mem _ (List.mem_singleton_self _))
  ⟨⟨rfl, by decide, by decide, by decide, fun c s => hin 0 c s _, _, rfl⟩, ⟨rfl, by decide, by decide, by decide, fun c s => hin 0 c s _, _, rfl⟩,
    ⟨rfl, by decide, by decide, by decide, fun c s => hin 0 c s _, _, rfl⟩, ⟨rfl, by decide, by decide, by decide, fun c s => hin 0 c s _, _, rfl⟩,
    ⟨rfl, by decide, by decide, by decide, fun c s => hin 0 c s _, _, rfl⟩, ⟨rfl, by decide, by decide, by decide, fun c s => hin 0 c s _, _, rfl⟩⟩

theorem namesUnit_test : NamesUnit deviceTestSpec 0 ∧ NamesUnit unitIsolateSpec 3 ∧ NamesUnit bistRunSpec 3 :=
  have hin : ∀ (k : Nat) (c : HostCmd) (s : State) (l : List Chk), noPartner (!here k c s && !s.dev.mirrored) ∈ targetChecks k c s ++ l := fun k c s l =>
    List.mem_append_left _ (List.mem_cons_of_mem _ (List.mem_singleton_self _))
  ⟨⟨rfl, by decide, by decide, by decide, fun c s => hin 0 c s _, _, rfl⟩,
    ⟨rfl, by decide, by decide, by decide, fun c s => List.mem_append_left _ (hin 3 c s _), _, rfl⟩,
    ⟨rfl, by decide, by decide, by decide, fun c s => List.mem_append_left _ (hin 3 c s _), _, rfl⟩⟩

/-- Every command of the statement's list names a unit of the pair. -/
theorem namesUnit_listed (b : Nat) (h : (o, b) ∈ [(updateBeginSpec, 0), (updateDataSpec, 0), (updateFinishSpec, 0), (updateAbortSpec, 0), (updateConfirmSpec, 0),
    (updateLockSpec, 0), (deviceTestSpec, 0), (unitIsolateSpec, 3), (bistRunSpec, 3)]) : NamesUnit o b := by
  obtain ⟨hbegin, hdata, hfinish, habort, hconfirm, hlock⟩ := namesUnit_update
  obtain ⟨htest, hiso, hbist⟩ := namesUnit_test
  simp only [List.mem_cons, Prod.mk.injEq, List.not_mem_nil, or_false] at h
  rcases h with ⟨rfl, rfl⟩ | ⟨rfl, rfl⟩ | ⟨rfl, rfl⟩ | ⟨rfl, rfl⟩ | ⟨rfl, rfl⟩ | ⟨rfl, rfl⟩ | ⟨rfl, rfl⟩ | ⟨rfl, rfl⟩ | ⟨rfl, rfl⟩
  all_goals assumption

theorem freezeNow_verdict (x : State) (l : List Byte) (h : s.dev.LinkDone x.dev) : freezeNowSpec.verdict c false (some l) x = freezeNowSpec.verdict c false (some l) s := by
  unfold OpSpec.verdict
  simp only [freezeNowSpec, targetChecks, here, Dev.mirrored, roleCheck, h.role, h.partner, h.now]

/-- FREEZE_NOW for the partner: this unit goes on, and the command ends with the partner's FROZEN indication (R803). -/
theorem Carried.freezePartner (h : Carried freezeNowSpec c s) (hrole : s.dev.pair.role = .primary) (htarget : c.arg 0 1 = 1) : ∃ u, exec (.freezeNow c) s = .next u ∧
    u.dev.obs.frozen = s.dev.obs.frozen ∧ (s.dev.pair.frozen = false → u.dev.waiting 0x0F02 partnerObj = true) ∧
    (s.dev.pair.frozen = true → u.dev.ctl.out.contains (.completion c.tag .ok 0 s.dev.short) = true) := by
  obtain ⟨hready, hroom, -, hv⟩ := h
  obtain ⟨x, l, hdone, hlink, hrun⟩ := runCmd_atOnce rfl hready hroom hv fun x l hx => freezeNow_verdict x l hx
  have hfrozen : x.dev.pair.frozen = s.dev.pair.frozen := by rw [hdone.pairRest]
  have heffect : freezeNowSpec.run c l (freezeNowSpec.token c s) x = (x.setDev x.dev, if s.dev.pair.frozen then .done .ok 0 x.dev.short else .later partnerObj 0) := by
    rw [← hfrozen]
    exact if_neg (by rw [not_here (hdone.role.trans hrole) htarget]; exact Bool.false_ne_true)
  have hgen : (x.dev.ring c.realm c.ring).gen = (freezeNowSpec.token c s).gen := by rw [Dev.ring, hlink.rings]; rfl
  have hshort : x.dev.short = s.dev.short := by rw [Dev.short, hdone.now, Dev.short]
  rw [heffect] at hrun
  cases hp : s.dev.pair.frozen
  · rw [hp, if_neg Bool.false_ne_true] at hrun
    refine ⟨_, congrArg Host.Outcome.next hrun, (congrArg Obs.frozen hlink.obs :), fun _ => ?_, fun h => absurd h Bool.false_ne_true⟩
    simp [answer, State.onDev, Dev.waiting, OpSpec.token, freezeNowSpec, opFreezeNow]
  · rw [hp, if_pos rfl, hshort] at hrun
    refine ⟨_, congrArg Host.Outcome.next hrun, ?_, fun h => absurd h Bool.noConfusion, fun _ => ?_⟩
    · exact (Dev.complete_traced _ _ _ _ _).frozen.trans (congrArg Obs.frozen hlink.obs)
    · obtain ⟨hout, -⟩ := x.dev.complete_direct (k := freezeNowSpec.token c s) rfl hgen .ok 0 s.dev.short
      show ((x.dev.complete (freezeNowSpec.token c s) .ok 0 s.dev.short).ctl.out.contains _) = true
      rw [hout]
      simp [OpSpec.token]

/-- Commands for the partner, as their statement gives them. -/
theorem partnerTargets : PartnerTargets := fun _ _ hrole =>
  ⟨fun _ b hin htarget => ⟨fun hready hroom hv => (namesUnit_listed b hin).held hrole htarget hready hroom hv,
    fun l k late hk => (namesUnit_listed b hin).waits hrole htarget l k late hk⟩, fun htarget h => h.freezePartner hrole htarget⟩

/-- Settles O53: units under test, freezes, commands for the partner, and the test access port. -/
theorem testAndFreeze : Obligations.TestAndFreeze := ⟨unitTests, freezes, partnerTargets, testPort⟩

end Sys2Proof.Machine
end

section
/-! Alarms and the cipher pipes (R559, R595 to R604): O38. -/

namespace Sys2Proof.Machine
open Sys2Proof

variable {s : State} {d e x : Dev} {k p : Nat} {v : Word}

/-! ### The flush of an alarm (R559) -/

/-- The queues are bound as they were, those that were empty stay empty, and what is stopped stays stopped. -/
structure Dev.Flushed (d e : Dev) : Prop where
  work : d.EgressWork e
  stopped : e.egress.stopped = d.egress.stopped
  bound : ∀ j, j < 8192 → (e.queue j).bind = (d.queue j).bind ∧ (e.queue j).obj = (d.queue j).obj ∧ (e.queue j).port = (d.queue j).port
  empty : ∀ j, j < 8192 → (d.queue j).frames = [] → (e.queue j).frames = []

theorem Dev.Flushed.trans (h : d.Flushed e) (k : e.Flushed x) : d.Flushed x where
  work := h.work.trans k.work
  stopped := k.stopped.trans h.stopped
  bound j hj := by
    obtain ⟨hb, ho, hp⟩ := h.bound j hj
    obtain ⟨kb, ko, kp⟩ := k.bound j hj
    exact ⟨kb.trans hb, ko.trans ho, kp.trans hp⟩
  empty j hj hd := k.empty j hj (h.empty j hj hd)

theorem Dev.flushed_of_queue (hw : d.EgressWork e) (hs : e.egress.stopped = d.egress.stopped) (hq : ∀ j, j < 8192 → e.queue j = d.queue j) : d.Flushed e where
  work := hw
  stopped := hs
  bound j hj := by rw [hq j hj]; exact ⟨rfl, rfl, rfl⟩
  empty j hj hd := by rw [hq j hj]; exact hd

theorem Dev.Flushed.refl (d : Dev) : d.Flushed d := Dev.flushed_of_queue (.refl d) rfl fun _ _ => rfl

theorem Dev.Noted.flushed (h : d.Noted e) : d.Flushed e := Dev.flushed_of_queue h.egressWork (by rw [h.egress]) fun j _ => h.queue j

theorem Dev.queue_discardQueue (d : Dev) (k j : Nat) :
    (d.discardQueue k).queue j = if j = k then { d.queue k with frames := [], deficit := 0, visited := false } else d.queue j := by
  unfold Dev.discardQueue Dev.emptied
  rw [Dev.queue_onQueue, Dev.queue_leaveActive, Dev.queue_leaveActive, Dev.queue_onQueue, Dev.queue_onQueue, if_pos rfl]
  split
  · rfl
  · rfl

theorem Dev.discardQueue_flushed (d : Dev) (k : Nat) : d.Flushed (d.discardQueue k) where
  work := d.discardQueue_egressWork k
  stopped := rfl
  bound j _ := by
    rw [Dev.queue_discardQueue]
    split
    next h =>
      subst h
      exact ⟨rfl, rfl, rfl⟩
    next => exact ⟨rfl, rfl, rfl⟩
  empty j _ hd := by
    rw [Dev.queue_discardQueue]
    split
    · rfl
    · exact hd

theorem Dev.discardAll_flushed (l : List Nat) (d : Dev) : d.Flushed (l.foldl (fun d k => d.discardQueue k) d) ∧
    ∀ k ∈ l, k < 8192 → ((l.foldl (fun d k => d.discardQueue k) d).queue k).frames = [] := by
  induction l generalizing d with
  | nil => exact ⟨.refl d, fun _ h => absurd h List.not_mem_nil⟩
  | cons a l ih =>
    obtain ⟨hkept, hempty⟩ := ih (d.discardQueue a)
    refine ⟨(d.discardQueue_flushed a).trans hkept, fun k hk hlt => ?_⟩
    rcases List.mem_cons.1 hk with rfl | hk
    · exact hkept.empty k hlt (by rw [Dev.queue_discardQueue, if_pos rfl])
    · exact hempty k hk hlt

theorem ctrlQ_ne (p : Nat) {j : Nat} (h : j < 8192) : j ≠ ctrlQ p := by unfold ctrlQ; omega

theorem Dev.stopped_dropOversize (d : Dev) (k : Nat) : (d.dropOversize k).egress.stopped = d.egress.stopped := by
  have hnoted : ∀ (l : List EFrame) (p q : Nat), d.Noted (l.foldl (fun d f =>
      (d.inc (pgEgress p) 0x0F0).raise (pgEgress p) 2 (0x0E8 + p) 0x0903 (fmk 0 64 q) (fmk 0 64 f.len)) d) := fun l p q =>
    Dev.noted_foldl _ (fun d f => (Dev.inc_noted _ _ _).trans (Dev.raise_noted _ _ _ _ _ _ _)) _ _
  have hegress : ∀ x y : Dev, d.Noted x → y.egress.stopped = x.egress.stopped → y.egress.stopped = d.egress.stopped := fun x y h hy => by rw [hy, h.egress]
  unfold Dev.dropOversize
  dsimp only
  split
  · rfl
  · split
    · rfl
    · split
      · exact hegress _ _ (hnoted _ _ _) rfl
      · exact hegress _ _ (hnoted _ _ _) rfl

/-- The SRTCP frames of a control queue discarded. -/
def Dev.flushCtrl (d : Dev) (p : Nat) (keep : List EFrame) : Dev :=
  if keep.isEmpty then (d.onQueue (ctrlQ p) fun q => { q with frames := keep }).emptied (ctrlQ p)
  else (d.onQueue (ctrlQ p) fun q => { q with frames := keep }).dropOversize (ctrlQ p)

theorem Dev.flushCtrl_flushed (d : Dev) (p : Nat) (keep : List EFrame) : d.Flushed (d.flushCtrl p keep) := by
  have hfirst : d.Flushed (d.onQueue (ctrlQ p) fun q => { q with frames := keep }) :=
    Dev.flushed_of_queue (Dev.onQueue_egressWork _ _ _) rfl fun j hj => by rw [Dev.queue_onQueue, if_neg (ctrlQ_ne p hj)]
  unfold Dev.flushCtrl
  split
  · exact hfirst.trans (Dev.flushed_of_queue (Dev.emptied_egressWork _ _) rfl fun j hj => Dev.queue_emptied _ (ctrlQ_ne p hj))
  · exact hfirst.trans (Dev.flushed_of_queue (Dev.dropOversize_egressWork _ _) (Dev.stopped_dropOversize _ _) fun j hj => Dev.queue_dropOversize _ (ctrlQ_ne p hj))

/-- The queues of a port that an alarm empties. -/
def Dev.alarmQueues (d : Dev) (p : Nat) : List Nat := (d.portQueues p).filter d.srtpQueue

/-- One port of the flush. -/
def Dev.flushPort (d : Dev) (p : Nat) : Dev :=
  let qs := d.alarmQueues p
  let ctl := (d.queue (ctrlQ p)).frames
  let keep := ctl.filter (fun f => !f.srtcp)
  let m := sumN (qs.map (fun k => (d.queue k).frames.length)) + (ctl.length - keep.length)
  let d := (qs.foldl (fun d k => d.discardQueue k) d).flushCtrl p keep
  if m = 0 then d
  else (d.bump (pgEgress p) 0x108 m).raise (pgEgress p) 4 (0x0E8 + p) 0x0905 (fmk 0 64 (match qs with | k :: _ => k | [] => 0xFFFF)) 0

theorem Dev.flushPort_flushed (d : Dev) (p : Nat) : d.Flushed (d.flushPort p) ∧ ∀ k ∈ d.alarmQueues p, k < 8192 → ((d.flushPort p).queue k).frames = [] := by
  obtain ⟨hkept, hempty⟩ := Dev.discardAll_flushed (d.alarmQueues p) d
  have hctrl := ((d.alarmQueues p).foldl (fun d k => d.discardQueue k) d).flushCtrl_flushed p ((d.queue (ctrlQ p)).frames.filter fun f => !f.srtcp)
  have hlast : ∀ (x : Dev) (m : Nat) (w : Word), x.Flushed (if m = 0 then x else (x.bump (pgEgress p) 0x108 m).raise (pgEgress p) 4 (0x0E8 + p) 0x0905 w 0) := fun x m w => by
    split
    · exact .refl x
    · exact ((Dev.bump_noted _ _ _ _).trans (Dev.raise_noted _ _ _ _ _ _ _)).flushed
  exact ⟨(hkept.trans hctrl).trans (hlast _ _ _), fun k hk hlt => (hctrl.trans (hlast _ _ _)).empty k hlt (hempty k hk hlt)⟩

theorem Dev.alarmFlush_eq (d : Dev) : d.alarmFlush = (List.range 8).foldl Dev.flushPort { d with egress := { d.egress with stopped := true } } := rfl

theorem Dev.mem_alarmQueues (d : Dev) (hk : k < 8192) (hb : (d.queue k).bind = .leg) (hs : (d.leg (d.queue k).obj).desc.srtp = true) :
    k ∈ d.alarmQueues (d.queue k).port := by
  refine List.mem_filter.2 ⟨List.mem_append_left _ (List.mem_map.2 ⟨(k, d.queue k), List.mem_filter.2 ⟨?_, ?_⟩, rfl⟩), ?_⟩
  · rcases tabGet_mem (fun _ => ({} : Queue)) d.egress.queues k with h | h
    · rw [show d.queue k = ({} : Queue) from h] at hb
      cases hb
    · exact h
  · simp [hk, hb]
  · simp [Dev.srtpQueue, hk, hb, hs]

theorem Dev.Flushed.srtp (h : d.Flushed e) (hk : k < 8192) (hb : (d.queue k).bind = .leg) (hs : (d.leg (d.queue k).obj).desc.srtp = true) :
    (e.queue k).bind = .leg ∧ (e.leg (e.queue k).obj).desc.srtp = true ∧ (e.queue k).port = (d.queue k).port := by
  obtain ⟨ebind, eobj, eport⟩ := h.bound k hk
  refine ⟨ebind.trans hb, ?_, eport⟩
  rw [eobj, Dev.leg, h.work.legs]
  exact hs

/-- The flush over some ports. -/
theorem Dev.flushPorts (l : List Nat) (d : Dev) : d.Flushed (l.foldl Dev.flushPort d) ∧
    ∀ k, k < 8192 → (d.queue k).bind = .leg → (d.leg (d.queue k).obj).desc.srtp = true → (d.queue k).port ∈ l → ((l.foldl Dev.flushPort d).queue k).frames = [] := by
  induction l generalizing d with
  | nil => exact ⟨.refl d, fun _ _ _ _ h => absurd h List.not_mem_nil⟩
  | cons p l ih =>
    obtain ⟨hfirst, hself⟩ := d.flushPort_flushed p
    obtain ⟨hkept, hothers⟩ := ih (d.flushPort p)
    refine ⟨hfirst.trans hkept, fun k hk hb hs hp => ?_⟩
    rcases List.mem_cons.1 hp with hp | hp
    · exact hkept.empty k hk (hself k (hp ▸ d.mem_alarmQueues hk hb hs) hk)
    · obtain ⟨hb', hs', hp'⟩ := hfirst.srtp hk hb hs
      exact hothers k hk hb' hs' (hp' ▸ hp)

/-! ### ALARM (R595 to R597) -/

theorem Dev.Noted.flint (h : d.Noted e) : e.flint = d.flint := by rw [h]
theorem Dev.EgressWork.flint (h : d.EgressWork e) : e.flint = d.flint := by rw [h]

theorem Dev.slot_zeroAllSlots (d : Dev) (k : Nat) : d.zeroAllSlots.slot k = {} ∧ d.zeroAllSlots.slotCtxs k = [] := ⟨rfl, rfl⟩

theorem Dev.slot_congr (h : e.flint = d.flint) (k : Nat) : e.slot k = d.slot k ∧ e.slotCtxs k = d.slotCtxs k := by
  rw [Dev.slot, Dev.slotCtxs, h]
  exact ⟨rfl, rfl⟩

/-- An event in each of some pages. -/
theorem Dev.events_bit (f : Nat → Nat) (l : List Nat) (d : Dev) {q b : Nat} (hq : q ∈ l ∨ ((d.page (f q)).event.getLsbD b = true)) (hb : b < 48) :
    ((l.foldl (fun d r => d.event (f r) b) d).page (f q)).event.getLsbD b = true := by
  induction l generalizing d with
  | nil => exact hq.resolve_left List.not_mem_nil
  | cons a l ih =>
    refine ih _ ?_
    rcases hq with hq | hq
    · rcases List.mem_cons.1 hq with rfl | hq
      · exact .inr (Dev.event_bit _ _ _ hb)
      · exact .inl hq
    · exact .inr (Dev.event_keeps_bit _ _ _ _ _ hq)

/-- What an alarm leaves of the part RESET_N resets. -/
theorem Dev.alarm_spec (d : Dev) (c : Nat) : (d.alarm c).flint = d.zeroAllSlots.flint ∧ (d.alarm c).egress = d.zeroAllSlots.alarmFlush.egress ∧
    ∀ r, r < 64 → ((d.alarm c).page (pgRealm r)).event.getLsbD 0 = true := by
  obtain ⟨x, hx⟩ : ∃ x : Dev, x = (d.zeroAllSlots.alarmFlush.emit (.alarmOut true)).raise pgFlint 0 0x1F0 0x0A01 (fmk 0 64 c) 0 := ⟨_, rfl⟩
  have hxn : d.zeroAllSlots.alarmFlush.Noted x := hx ▸ (Dev.emit_noted _ _).trans (Dev.raise_noted _ _ _ _ _ _ _)
  obtain ⟨y, hy⟩ : ∃ y : Dev, y = if x.mirrored && x.pair.surrender.isNone then
      ({ x with pair := { x.pair with surrender := some (epochCeil x.now) } }).linkSend ltSurrender (leBytes 8 (shortOf (epochCeil x.now)).toNat) else x := ⟨_, rfl⟩
  have hyx : y.flint = x.flint ∧ y.egress = x.egress := by
    rw [hy]
    split
    · exact ⟨(Dev.linkSend_linkDone _ _ _).flint, (Dev.linkSend_linkDone _ _ _).egress⟩
    · exact ⟨rfl, rfl⟩
  have heq : d.alarm c = (List.range 64).foldl (fun d r => d.event (pgRealm r) 0) y := by rw [hy, hx]; rfl
  have hlast : y.Noted (d.alarm c) := heq ▸ Dev.noted_foldl _ (fun d r => d.event_noted _ _) _ _
  obtain ⟨hflush, -⟩ := Dev.flushPorts (List.range 8) { d.zeroAllSlots with egress := { d.zeroAllSlots.egress with stopped := true } }
  refine ⟨hlast.flint.trans (hyx.1.trans (hxn.flint.trans hflush.work.flint)), hlast.egress.trans (hyx.2.trans hxn.egress), fun r hr => ?_⟩
  rw [heq]
  exact Dev.events_bit pgRealm _ _ (.inl (List.mem_range.2 hr)) (by decide)

end Sys2Proof.Machine
end

section
/-! ALARM, ALARM_CFG and the cipher pipes (R595 to R604): O38. -/

namespace Sys2Proof.Machine
open Sys2Proof

variable {s : State} {d e : Dev} {k p q : Nat} {v m : Word}

/-! ### ALARM and ALARM_CFG -/

/-- The always-on part after an alarm of the conditions `x`. -/
def State.alarmed (s : State) (x : BitVec 5) : State :=
  { s with aon := { s.aon with
    alarmActive := x
    alarmLatch := true
    alarmCause := s.aon.alarmCause ||| (x &&& (s.aon.alarmEnable ||| 0x0B))
    alarmTime := if s.aon.alarmLatch then s.aon.alarmTime else s.dev.short } }

theorem exec_alarm_quiet {x : BitVec 5} (haux : s.aon.auxOn = true) (h : x &&& (s.aon.alarmEnable ||| 0x0B) = 0) :
    exec (.alarm x) s = .next { s with aon := { s.aon with alarmActive := x } } := by
  show execAlarm x s = _
  unfold execAlarm
  dsimp only
  rw [if_neg (by rw [haux]; exact Bool.false_ne_true), if_pos h]

/-- The part that RESET_N resets, after an alarm that an enabled source raises. -/
def State.alarmDev (s : State) (x : BitVec 5) : Dev :=
  if s.up then s.dev.alarm (s.alarmed x).aon.alarmCause.toNat else s.dev.zeroAllSlots.emit (.alarmOut true)

theorem State.alarmed_up {x : BitVec 5} : (s.alarmed x).up = s.up := rfl

theorem exec_alarm_hit {x : BitVec 5} (haux : s.aon.auxOn = true) (h : x &&& (s.aon.alarmEnable ||| 0x0B) ≠ 0) :
    exec (.alarm x) s = .next ((s.alarmed x).setDev (s.alarmDev x)) := by
  show execAlarm x s = _
  unfold execAlarm State.alarmDev
  dsimp only
  rw [if_neg (by rw [haux]; exact Bool.false_ne_true), if_neg h]
  show Host.Outcome.next (if (s.alarmed x).up = true then _ else _) = _
  rw [State.alarmed_up]
  split <;> rfl

theorem State.alarmDev_slot (s : State) (x : BitVec 5) (k : Nat) : (s.alarmDev x).slot k = {} ∧ (s.alarmDev x).slotCtxs k = [] := by
  unfold State.alarmDev
  split
  · exact Dev.slot_congr (d := s.dev.zeroAllSlots) (s.dev.alarm_spec _).1 k
  · exact ⟨rfl, rfl⟩

theorem State.alarmDev_up {x : BitVec 5} (hup : s.up = true) : (s.alarmDev x).egress = s.dev.zeroAllSlots.alarmFlush.egress ∧
    ∀ r, r < 64 → ((s.alarmDev x).page (pgRealm r)).event.getLsbD 0 = true := by
  rw [State.alarmDev, if_pos hup]
  exact (s.dev.alarm_spec _).2

/-- What the flush of an alarm leaves of egress. -/
theorem Dev.alarmFlush_spec (d : Dev) : d.alarmFlush.egress.stopped = true ∧ ∀ k, k < 8192 → (d.queue k).bind = .leg →
    (d.leg (d.queue k).obj).desc.srtp = true → (d.queue k).port < 8 → (d.alarmFlush.queue k).frames = [] := by
  obtain ⟨x, hx⟩ : ∃ x : Dev, x = { d with egress := { d.egress with stopped := true } } := ⟨_, rfl⟩
  obtain ⟨hflush, hempty⟩ := Dev.flushPorts (List.range 8) x
  have hqueue : ∀ k, x.queue k = d.queue k := fun k => by rw [hx]; rfl
  have hleg : ∀ l, x.leg l = d.leg l := fun l => by rw [hx]; rfl
  rw [Dev.alarmFlush_eq, ← hx]
  refine ⟨hflush.stopped.trans (by rw [hx]), fun k hk hb hs hp => hempty k hk ?_ ?_ ?_⟩
  · rw [hqueue]
    exact hb
  · rw [hqueue, hleg]
    exact hs
  · rw [hqueue]
    exact List.mem_range.2 hp

theorem Dev.queue_congr (h : e.egress = d.egress) (k : Nat) : e.queue k = d.queue k := by rw [Dev.queue, h]; rfl

/-- The slots, the events and the queues after an alarm. -/
theorem exec_alarm_spec {x : BitVec 5} (haux : s.aon.auxOn = true) (h : x &&& (s.aon.alarmEnable ||| 0x0B) ≠ 0) : ∃ u, exec (.alarm x) s = .next u ∧
    u.aon.alarmLatch = true ∧ u.aon.alarmActive = x ∧
      u.aon.alarmCause = s.aon.alarmCause ||| (x &&& (s.aon.alarmEnable ||| 0x0B)) ∧ (s.aon.alarmLatch = true → u.aon.alarmTime = s.aon.alarmTime) ∧
      (s.aon.alarmLatch = false → u.aon.alarmTime = s.dev.short) ∧ (∀ k, u.dev.slot k = {} ∧ u.dev.slotCtxs k = []) ∧
      (s.up = true → ∀ r, r < 64 → (u.dev.page (pgRealm r)).event.getLsbD 0 = true) ∧
      (s.up = true → ∀ k l, (s.dev.queue k).bind = .leg → (s.dev.queue k).obj = l → (s.dev.leg l).desc.srtp = true → k < 8192 → (s.dev.queue k).port < 8 →
        (u.dev.queue k).frames = []) ∧ (s.up = true → u.dev.egress.stopped = true) := by
  refine ⟨_, exec_alarm_hit haux h, rfl, rfl, rfl, fun hl => ?_, fun hl => ?_, s.alarmDev_slot x, fun hup => (State.alarmDev_up hup).2,
    fun hup k l hb hl hs hk hp => ?_, fun hup => ?_⟩
  · exact if_pos hl
  · exact if_neg (by rw [hl]; exact Bool.false_ne_true)
  · subst hl
    rw [State.setDev_dev, Dev.queue_congr (State.alarmDev_up hup).1]
    exact s.dev.zeroAllSlots.alarmFlush_spec.2 k hk hb hs hp
  · rw [State.setDev_dev, (State.alarmDev_up hup).1]
    exact s.dev.zeroAllSlots.alarmFlush_spec.1

theorem flint_alarmCfg : ∃ g, PType.flint.regAt 0x050 = some g ∧ g.rws = false := ⟨_, rfl, rfl⟩

theorem State.alarmCfgWrite_spec (s : State) (v : Word) : (s.alarmCfgWrite v).dev.pair = s.dev.pair ∧ (s.alarmCfgWrite v).aon.alarmLock = (s.aon.alarmLock || bit v 8) ∧
    (s.alarmCfgWrite v).aon.alarmEnable = (if s.aon.alarmLock then s.aon.alarmEnable else BitVec.ofNat 5 (fld v 0 5) ||| 0x0B) ∧
    (s.alarmCfgWrite v).aon.alarmLatch = s.aon.alarmLatch := by
  refine ⟨?_, rfl, rfl, rfl⟩
  unfold State.alarmCfgWrite
  dsimp only
  repeat' split
  all_goals rfl

theorem Writable.exec_alarmCfg (h : Writable s pgFlint) (v : Word) : exec (.alarmCfgWrite v) s = .next ((s.setDev s.dev).alarmCfgWrite v) := by
  obtain ⟨g, hg, hrws⟩ := flint_alarmCfg
  obtain ⟨hreach, -, halone, hi, htest⟩ := h
  have hlive : (s.setDev s.dev).liveWrite pgFlint .flint g 0x050 v = (s.setDev s.dev).alarmCfgWrite v := by
    simp only [State.liveWrite]
    rw [if_pos trivial]
  exact congrArg Host.Outcome.next (hreach.hostWrite_state halone (.inl ⟨hi, htest⟩) rfl hg hrws (by decide) (by decide) (by decide) hlive
    ((s.setDev s.dev).alarmCfgWrite_spec v).1)

/-! ### The pipes (R601) -/

theorem nthD_setNth {α : Type} (z : α) (l : List α) (x : α) (hq : q < l.length) : nthD z (setNth l q x) p = if p = q then x else nthD z l p := by
  unfold nthD setNth
  rw [List.getElem?_set]
  by_cases h : p = q
  · subst h
    rw [if_pos rfl, if_pos hq, if_pos rfl, Option.getD_some]
  · rw [if_neg h, if_neg fun hqp => h hqp.symm]

/-- What a write of PIPE_CTRL makes of a pipe. -/
def pipeNext (m : Word) (p : Nat) (t : PState) : PState :=
  if bit m p then (if t = .ready ∨ t = .active then .draining else t) else if t = .draining ∨ t = .isolated then .ready else t

/-- One pipe of a write of PIPE_CTRL. -/
def Dev.pipeStep (m : Word) (d : Dev) (p : Nat) : Dev :=
  let t := nthD PState.off d.flint.pipes p
  if bit m p then
    if t = .ready ∨ t = .active then
      { d.setPipe p .draining with flint := { (d.setPipe p .draining).flint with moveAt := tabPutD 0 d.flint.moveAt p (epochCeil (d.now + 1)) } }
    else d
  else if t = .draining ∨ t = .isolated then d.setPipe p .ready else d

theorem Dev.pipeStep_spec (m : Word) (d : Dev) (hq : q < d.flint.pipes.length) : (d.pipeStep m q).flint.pipes.length = d.flint.pipes.length ∧
    (d.pipeStep m q).pair = d.pair ∧
    ∀ p, nthD PState.off (d.pipeStep m q).flint.pipes p = if p = q then pipeNext m q (nthD PState.off d.flint.pipes q) else nthD PState.off d.flint.pipes p := by
  have hset : ∀ t p, nthD PState.off (setNth d.flint.pipes q t) p = if p = q then t else nthD PState.off d.flint.pipes p := fun t p => nthD_setNth _ _ _ hq
  have hlen : ∀ t, (setNth d.flint.pipes q t).length = d.flint.pipes.length := fun t => List.length_set
  have hsame : ∀ p, nthD PState.off d.flint.pipes p = if p = q then nthD PState.off d.flint.pipes q else nthD PState.off d.flint.pipes p := fun p => by
    split
    next h => rw [h]
    next => rfl
  unfold Dev.pipeStep pipeNext
  dsimp only
  split
  · split
    · exact ⟨hlen _, rfl, hset _⟩
    · exact ⟨rfl, rfl, hsame⟩
  · split
    · exact ⟨hlen _, rfl, hset _⟩
    · exact ⟨rfl, rfl, hsame⟩

theorem Dev.pipeSteps (m : Word) (l : List Nat) (hl : l.Nodup) (d : Dev) (hlt : ∀ q ∈ l, q < d.flint.pipes.length) : (l.foldl (Dev.pipeStep m) d).pair = d.pair ∧
    ∀ p, nthD PState.off (l.foldl (Dev.pipeStep m) d).flint.pipes p = if p ∈ l then pipeNext m p (nthD PState.off d.flint.pipes p) else nthD PState.off d.flint.pipes p := by
  induction l generalizing d with
  | nil => exact ⟨rfl, fun p => (if_neg List.not_mem_nil).symm⟩
  | cons a l ih =>
    obtain ⟨hnot, hl⟩ := List.nodup_cons.1 hl
    obtain ⟨hlen, hpair, hstep⟩ := d.pipeStep_spec m (hlt a List.mem_cons_self)
    obtain ⟨hpair', hrest⟩ := ih hl (d.pipeStep m a) fun q hq => by
      rw [hlen]
      exact hlt q (List.mem_cons_of_mem _ hq)
    refine ⟨hpair'.trans hpair, fun p => ?_⟩
    rw [List.foldl_cons, hrest, hstep]
    by_cases hp : p = a
    · subst hp
      rw [if_neg hnot, if_pos rfl, if_pos List.mem_cons_self]
    · rw [if_neg hp]
      refine if_congr ?_ rfl rfl
      rw [List.mem_cons, or_iff_right hp]

theorem Dev.pipeCtrlWrite_eq (d : Dev) (v : Word) : d.pipeCtrlWrite v =
    (List.range 16).foldl (Dev.pipeStep (d.mergeAt pgFlint 0x068 v).1) ((d.setReg pgFlint 0x068 (d.mergeAt pgFlint 0x068 v).1).errs pgFlint (d.mergeAt pgFlint 0x068 v).2) := rfl

theorem flint_pipeCtrl : ∃ g, PType.flint.regAt 0x068 = some g ∧ g.rws = false ∧ FieldsApart g.flds ∧ (⟨0, 16, .rw, 0, .any⟩ : Fld) ∈ g.flds :=
  ⟨_, rfl, rfl, by unfold FieldsApart; decide, by decide⟩

/-- A bit of a field is that bit of the value written. -/
theorem bit_of_fld {x : Word} {lo w i : Nat} (h : fld x lo w = fld v lo w) (hlo : lo ≤ i) (hi : i < lo + w) : bit x i = bit v i := by
  have hb := congrArg (fun n => n.testBit (i - lo)) h
  simp only [fld_testBit, Nat.add_sub_cancel' hlo, show i - lo < w by omega, decide_true, Bool.true_and] at hb
  rw [bit_eq, bit_eq, hb]

theorem Dev.pipeCtrlWrite_spec (d : Dev) (v : Word) (hlen : d.flint.pipes.length = 16) : (d.pipeCtrlWrite v).pair = d.pair ∧
    ∀ p, p < 16 → nthD PState.off (d.pipeCtrlWrite v).flint.pipes p = pipeNext v p (nthD PState.off d.flint.pipes p) := by
  obtain ⟨g, hg, -, hapart, hf⟩ := flint_pipeCtrl
  have hword : fld (d.mergeAt pgFlint 0x068 v).1 0 16 = fld v 0 16 := by
    rw [mergeAt_of_regAt rfl hg, fld_mergeFields_any hapart hf]
  have hn : (d.setReg pgFlint 0x068 (d.mergeAt pgFlint 0x068 v).1).Noted
    ((d.setReg pgFlint 0x068 (d.mergeAt pgFlint 0x068 v).1).errs pgFlint (d.mergeAt pgFlint 0x068 v).2) := Dev.errs_noted _ _ _
  have hflint : ((d.setReg pgFlint 0x068 (d.mergeAt pgFlint 0x068 v).1).errs pgFlint (d.mergeAt pgFlint 0x068 v).2).flint = d.flint := hn.flint
  obtain ⟨hpair, hpipes⟩ := Dev.pipeSteps (d.mergeAt pgFlint 0x068 v).1 (List.range 16) List.nodup_range
    ((d.setReg pgFlint 0x068 (d.mergeAt pgFlint 0x068 v).1).errs pgFlint (d.mergeAt pgFlint 0x068 v).2) fun q hq => by
      rw [hflint, hlen]
      exact List.mem_range.1 hq
  rw [Dev.pipeCtrlWrite_eq]
  refine ⟨hpair.trans hn.pair, fun p hp => ?_⟩
  rw [hpipes, if_pos (List.mem_range.2 hp), hflint, pipeNext, pipeNext, bit_of_fld hword (Nat.zero_le _) (by omega)]

theorem Writable.exec_pipeCtrl (h : Writable s pgFlint) (v : Word) (hlen : s.dev.flint.pipes.length = 16) :
    exec (.pipeCtrlWrite v) s = .next ((s.setDev s.dev).setDev (s.dev.pipeCtrlWrite v)) := by
  obtain ⟨g, hg, hrws, -⟩ := flint_pipeCtrl
  have hlive : (s.setDev s.dev).liveWrite pgFlint .flint g 0x068 v = (s.setDev s.dev).onDev fun d => d.pipeCtrlWrite v := by
    simp only [State.liveWrite]
    rw [if_neg (by decide), if_pos trivial]
  exact congrArg Host.Outcome.next (h.hostWrite_live (t := .flint) rfl hg hrws (by decide) (by decide) (by decide) hlive (s.dev.pipeCtrlWrite_spec v hlen).1)

/-- FLINT_PIPE_MOVE of a pipe that drains, once its slots have moved. -/
theorem Dev.flintPipeMove_due (hp : p < 16) (hlen : d.flint.pipes.length = 16) (hst : nthD PState.off d.flint.pipes p = .draining) (ht : tabGetD 0 d.flint.moveAt p ≤ d.now) :
    nthD PState.off (d.flintPipeMove p).flint.pipes p = .isolated ∧
      (∀ q, q ≠ p → nthD PState.off (d.flintPipeMove p).flint.pipes q = nthD PState.off d.flint.pipes q) ∧
      (d.flintPipeMove p).waiting 0x0F00 (0x0D0 + p) = false ∧ (d.flintPipeMove p).flint.keys = d.flint.keys := by
  have heq : d.flintPipeMove p = (d.setPipe p .isolated).finish 0x0F00 (0x0D0 + p) .ok 5 d.short := by rw [Dev.flintPipeMove, if_pos ⟨hp, hst, ht⟩]
  have hflint : (d.flintPipeMove p).flint = (d.setPipe p .isolated).flint := by
    rw [heq]
    exact (Dev.finish_linkDone _ _ _ _ _ _).flint
  have hset : ∀ q, nthD PState.off (d.flintPipeMove p).flint.pipes q = if q = p then .isolated else nthD PState.off d.flint.pipes q := fun q => by
    rw [hflint]
    exact nthD_setNth _ _ _ (by omega)
  refine ⟨(hset p).trans (if_pos rfl), fun q hq => (hset q).trans (if_neg hq), ?_, by rw [hflint]; rfl⟩
  rw [heq]
  exact Dev.waiting_finish _ _ _ _ _ _

theorem Dev.pipeFault_spec (d : Dev) (hp : p < 16) (hlen : d.flint.pipes.length = 16) : nthD PState.off (d.pipeFault p).flint.pipes p = .faulted ∧
    (∀ q, q ≠ p → nthD PState.off (d.pipeFault p).flint.pipes q = nthD PState.off d.flint.pipes q) ∧
    ((d.pipeFault p).page pgFlint).event.getLsbD 6 = true ∧ (d.pipeFault p).flint.keys = d.flint.keys := by
  have heq : d.pipeFault p = (d.tickFree.tickFree.setPipe p .faulted).raise pgFlint 6 (0x0D0 + p) 0x0A07 d.freeWord d.tickFree.freeWord := by
    rw [Dev.pipeFault, if_neg (by omega)]
  have hflint : (d.pipeFault p).flint = (d.setPipe p .faulted).flint := by
    rw [heq, (Dev.raise_noted _ _ _ _ _ _ _).flint]
    rfl
  have hset : ∀ q, nthD PState.off (d.pipeFault p).flint.pipes q = if q = p then .faulted else nthD PState.off d.flint.pipes q := fun q => by
    rw [hflint]
    exact nthD_setNth _ _ _ (by omega)
  refine ⟨(hset p).trans (if_pos rfl), fun q hq => (hset q).trans (if_neg hq), ?_, by rw [hflint]; rfl⟩
  rw [heq]
  exact Dev.raise_bit _ _ _ _ _ _ _ (by decide)

/-- Settles O38: the alarm, its configuration, and the cipher pipes. -/
theorem alarms : Obligations.Alarms := by
  refine ⟨fun s x haux => ⟨exec_alarm_quiet haux, exec_alarm_spec haux⟩, fun s x haux => ?_, fun s v h => ⟨_, h.exec_alarmCfg v, ((s.setDev s.dev).alarmCfgWrite_spec v).2⟩,
    fun s v p h hp hlen => ⟨_, h.exec_pipeCtrl v hlen, fun hv ht => ?_, fun hv ht => ?_⟩, fun s p hready => ?_⟩
  · show execAlarm x s = _
    unfold execAlarm
    exact if_pos (by rw [haux]; rfl)
  · rw [State.setDev_dev, (s.dev.pipeCtrlWrite_spec v hlen).2 p hp, pipeNext, if_pos hv, if_pos ht]
  · rw [State.setDev_dev, (s.dev.pipeCtrlWrite_spec v hlen).2 p hp, pipeNext, if_neg (by rw [hv]; exact Bool.false_ne_true), if_pos ht]
  · have hmove := exec_actReady (s := s) (i := .flintPipeMove p) (f := fun d => d.flintPipeMove p) rfl hready
    have hfault := exec_actReady (s := s) (i := .pipeFault p) (f := fun d => d.pipeFault p) rfl hready
    refine ⟨hmove, hfault, fun hp => ⟨?_, ?_⟩, fun hp hlen => ⟨fun hst ht => ⟨_, hmove, Dev.flintPipeMove_due hp hlen hst ht⟩, _, hfault, s.dev.pipeFault_spec hp hlen⟩⟩
    · rw [Dev.flintPipeMove, if_neg fun h => absurd h.1 (Nat.not_lt.2 hp)]
    · rw [Dev.pipeFault, if_pos hp]

end Sys2Proof.Machine
end

section
/-! Key slots and the key-slot windows (R569 to R587): O37. -/

namespace Sys2Proof.Machine
open Sys2Proof

variable {s : State} {c : HostCmd} {d e x : Dev} {r k j : Nat} {h : KeyHalf}

/-! ### Slots and windows -/

theorem Dev.Completed.flint (hd : d.Completed e) : e.flint = d.flint := by rw [hd]

theorem Dev.keyWin_congr (hf : e.flint = d.flint) (r : Nat) : e.keyWin r = d.keyWin r := by rw [Dev.keyWin, hf]; rfl

theorem Dev.keyWin_onKeyWin (d : Dev) (r : Nat) (f : KeyWin → KeyWin) : (d.onKeyWin r f).keyWin r = f (d.keyWin r) :=
  (tabGetD_tabPutD _ _ _ _ _).trans (if_pos rfl)

theorem Dev.slot_zeroSlot (d : Dev) (k j : Nat) : (d.zeroSlot k).slot j = if j = k then {} else d.slot j := d.slot_setSlot k j {}

theorem Dev.slotCtxs_zeroSlot (d : Dev) (k j : Nat) : (d.zeroSlot k).slotCtxs j = if j = k then [] else d.slotCtxs j := (d.setSlot k {}).slotCtxs_setCtxs k j []

theorem Dev.keyWin_clearStaging (d : Dev) (r : Nat) : (d.clearStaging r).keyWin r = { d.keyWin r with key := List.replicate 32 0, salt := List.replicate 16 0 } :=
  Dev.keyWin_onKeyWin _ _ _

theorem KeySlot.code_lt (y : KeySlot) : y.code < 65536 := by
  unfold KeySlot.code
  split
  · decide
  · split
    · decide
    · split <;> decide

/-! ### The commands of Flint (Table 12-3) -/

theorem mem_slotRange : k ∈ slotRange c ↔ c.arg 0 2 ≤ k ∧ k < c.arg 0 2 + c.arg 2 2 := by
  simp only [slotRange, List.mem_map, List.mem_range]
  constructor
  · rintro ⟨i, hi, rfl⟩
    omega
  · intro hk
    exact ⟨k - c.arg 0 2, by omega, by omega⟩

theorem Accepts.keyslotAssign (hacc : Accepts keyslotAssignSpec c s) : ∃ u, exec (.keyslotAssign c) s = .next u ∧
    (∀ k, u.dev.slotOwner k = if c.arg 0 2 ≤ k ∧ k < c.arg 0 2 + c.arg 2 2 then c.arg 4 1 else s.dev.slotOwner k) ∧ ∀ k, u.dev.slot k = s.dev.slot k := by
  obtain ⟨e, hrun, hdone, -⟩ := hacc.okNow (n := c.arg 2 2)
    (d := { s.dev with flint := { s.dev.flint with owner := (slotRange c).foldl (fun t k => tabPutD 0 t k (c.arg 4 1)) s.dev.flint.owner } }) rfl rfl rfl
  have hflint : e.flint = { s.dev.flint with owner := (slotRange c).foldl (fun t k => tabPutD 0 t k (c.arg 4 1)) s.dev.flint.owner } := hdone.flint
  refine ⟨_, congrArg Host.Outcome.next hrun, fun k => ?_, fun k => ?_⟩
  · rw [State.setDev_dev, Dev.slotOwner, hflint, tabGetD_foldl_tabPutD]
    exact if_congr mem_slotRange rfl rfl
  · rw [State.setDev_dev, Dev.slot, hflint]
    rfl

theorem Accepts.keyQuery (hacc : Accepts keyQuerySpec c s) : ∃ u, exec (.keyQuery c) s = .next u ∧ UnitsKept s u ∧
    u.dev.ctl.out.contains (.completion c.tag (keyQuerySpec.okOr c s) (s.dev.slot (c.arg 0 2)).code (s.dev.slot (c.arg 0 2)).changed) = true := by
  obtain ⟨u, hrun, hkept, hends⟩ := hacc.query (n := (s.dev.slot (c.arg 0 2)).code) (v := (s.dev.slot (c.arg 0 2)).changed) rfl
  rw [Nat.mod_eq_of_lt (KeySlot.code_lt _)] at hends
  exact ⟨u, congrArg Host.Outcome.next hrun, hkept, hends.1⟩

theorem Accepts.flintRelease (hacc : Accepts flintReleaseSpec c s) : ∃ u, exec (.flintRelease c) s = .next u ∧ u.aon.alarmLatch = false ∧ u.aon.alarmCause = 0 ∧
    (∀ k, u.dev.slot k = {} ∧ u.dev.slotCtxs k = []) ∧ u.dev.egress.stopped = false ∧ u.aon.alarmEnable = s.aon.alarmEnable ∧ u.aon.alarmLock = s.aon.alarmLock := by
  obtain ⟨d, hd⟩ : ∃ d : Dev, d = (s.dev.alarmUnstop.zeroAllSlots).emit (.alarmOut false) := ⟨_, rfl⟩
  have heff : flintReleaseSpec.effect c s = ({ s.setDev d with aon := { (s.setDev d).aon with alarmLatch := false, alarmCause := 0 } },
      .done .ok (s.dev.egress.queues.filter (fun e => s.dev.srtpQueue e.1)).length d.short) := by rw [hd]; rfl
  obtain ⟨u, hrun, -, ⟨haon, hdone⟩, -⟩ := hacc.ok heff (by rw [hd]; rfl) (by rw [hd]; rfl)
  refine ⟨u, congrArg Host.Outcome.next hrun, by rw [haon], by rw [haon], fun k => ?_, ?_, by rw [haon]; rfl, by rw [haon]; rfl⟩
  · obtain ⟨hslot, hctxs⟩ := Dev.slot_congr hdone.flint k
    rw [hslot, hctxs, hd]
    exact ⟨rfl, rfl⟩
  · rw [hdone.egress, hd]
    rfl

/-- FLINT_RELEASE is taken only after an alarm whose conditions are gone. -/
theorem Accepts.released (hacc : Accepts flintReleaseSpec c s) : s.aon.alarmLatch = true ∧ s.aon.alarmActive = 0 := by
  have hcheck := hacc.conflicts (by exact List.mem_singleton_self _)
  simpa using hcheck

/-! ### Key commands of a window (R573 to R577) -/

/-- What a key command of an idle window that the unit decides makes of the windows and slots, whatever the pair says of it. -/
theorem Dev.keyCmd_denied {code : Nat} {bad : Nat → Option Status} {act : Nat → KeyAct} {now : Nat → Dev → Dev} {t : Status} (hr : r < 64)
    (hb : (d.keyWin r).busy = false) (hdec : d.decides = true) (hk : k = fld (d.reg (pgRealm r) 0x200) 0 14)
    (ht : (if d.slotOwner k = r then bad k else some .realmDenied) = some t) :
    d.keyCmd r code bad act now = (d.clearStaging r).onKeyWin r (fun w => { w with result := t.code, slot := k, act := .none }) := by
  have howner : (r ≠ 0 ∧ d.slotOwner k ≠ r ∨ r = 0 ∧ d.slotOwner k ≠ 0) ↔ d.slotOwner k ≠ r := by
    rcases Nat.eq_zero_or_pos r with rfl | hpos <;> omega
  have hst : (if r ≠ 0 ∧ d.slotOwner k ≠ r ∨ r = 0 ∧ d.slotOwner k ≠ 0 then some Status.realmDenied else bad k) = some t := by
    rw [← ht, if_congr howner rfl rfl, ite_not]
  subst hk
  unfold Dev.keyCmd
  dsimp only
  rw [if_neg (by omega), if_neg (by rw [hb]; exact Bool.false_ne_true)]
  simp only [hst, hdec, if_true, Option.isNone_some, Bool.and_false, Bool.false_eq_true, if_false]

/-- What a key command that is taken makes of an idle window: its own effect, with BUSY held; a joined unit has told its partner. -/
theorem Dev.keyCmd_taken {code : Nat} {bad : Nat → Option Status} {act : Nat → KeyAct} {now : Nat → Dev → Dev} (hr : r < 64) (hb : (d.keyWin r).busy = false)
    (hdec : d.decides = true) (hk : k = fld (d.reg (pgRealm r) 0x200) 0 14) (ho : d.slotOwner k = r) (hbad : bad k = none) :
    ∃ x, d.LinkDone x ∧ d.keyCmd r code bad act now =
      (now k (x.clearStaging r)).onKeyWin r (fun w => { w with busy := true, slot := k, act := act k, since := (x.clearStaging r).now }) := by
  have hst : (if r ≠ 0 ∧ d.slotOwner k ≠ r ∨ r = 0 ∧ d.slotOwner k ≠ 0 then some Status.realmDenied else bad k) = none := by
    rw [if_neg (by omega), hbad]
  subst hk
  unfold Dev.keyCmd
  dsimp only
  rw [if_neg (by omega), if_neg (by rw [hb]; exact Bool.false_ne_true)]
  simp only [hst, hdec, if_true, Option.isNone_none, Bool.and_true]
  refine ⟨_, ?_, rfl⟩
  split
  · exact Dev.linkSend_linkDone _ _ _
  · exact .refl d

/-- A key command of a busy window is counted alone. -/
theorem Dev.keyCmd_busy {code : Nat} {bad : Nat → Option Status} {act : Nat → KeyAct} {now : Nat → Dev → Dev} (hr : r < 64) (hb : (d.keyWin r).busy = true) :
    d.keyCmd r code bad act now = d.err (pgRealm r) .badState := by
  unfold Dev.keyCmd
  rw [if_neg (by omega), if_pos hb]

/-- The window of a key command that ended, and the slots. -/
theorem Dev.keyCmd_denied_spec {code : Nat} {bad : Nat → Option Status} {act : Nat → KeyAct} {now : Nat → Dev → Dev} {t : Status} (hr : r < 64)
    (hb : (d.keyWin r).busy = false) (hdec : d.decides = true) (hk : k = fld (d.reg (pgRealm r) 0x200) 0 14)
    (ht : (if d.slotOwner k = r then bad k else some .realmDenied) = some t) :
    ((d.keyCmd r code bad act now).keyWin r).result = t.code ∧ ((d.keyCmd r code bad act now).keyWin r).busy = false ∧
      ((d.keyCmd r code bad act now).keyWin r).key = List.replicate 32 0 ∧ ∀ j, (d.keyCmd r code bad act now).slot j = d.slot j := by
  rw [Dev.keyCmd_denied hr hb hdec hk ht, Dev.keyWin_onKeyWin, Dev.keyWin_clearStaging]
  exact ⟨rfl, hb, rfl, fun _ => rfl⟩

/-- The window of a key command that was taken, when its own effect leaves the windows alone; and the effect on the slots. -/
theorem Dev.keyCmd_taken_spec {code : Nat} {bad : Nat → Option Status} {act : Nat → KeyAct} {now : Nat → Dev → Dev} (hr : r < 64) (hb : (d.keyWin r).busy = false)
    (hdec : d.decides = true) (hk : k = fld (d.reg (pgRealm r) 0x200) 0 14) (ho : d.slotOwner k = r) (hbad : bad k = none)
    (hnow : ∀ x, (now k x).keyWin r = x.keyWin r) : ∃ x, x.flint.keys = d.flint.keys ∧ x.flint.ctxs = d.flint.ctxs ∧
      (d.keyCmd r code bad act now).slot = (now k x).slot ∧ (d.keyCmd r code bad act now).slotCtxs = (now k x).slotCtxs ∧
      ((d.keyCmd r code bad act now).keyWin r).busy = true ∧ ((d.keyCmd r code bad act now).keyWin r).act = act k ∧
      ((d.keyCmd r code bad act now).keyWin r).slot = k ∧ ((d.keyCmd r code bad act now).keyWin r).key = List.replicate 32 0 ∧
      ((d.keyCmd r code bad act now).keyWin r).salt = List.replicate 16 0 := by
  obtain ⟨x, hx, heq⟩ := Dev.keyCmd_taken (code := code) (act := act) (now := now) hr hb hdec hk ho hbad
  refine ⟨x.clearStaging r, by exact congrArg (fun f => f.keys) hx.flint, by exact congrArg (fun f => f.ctxs) hx.flint, ?_⟩
  rw [heq, Dev.keyWin_onKeyWin, hnow, Dev.keyWin_clearStaging]
  exact ⟨rfl, rfl, rfl, rfl, rfl, rfl, rfl⟩

theorem Dev.slot_of_keys (hkeys : e.flint.keys = d.flint.keys) (j : Nat) : e.slot j = d.slot j := by rw [Dev.slot, hkeys]; rfl

/-! ### Their end (R577) -/

theorem Dev.keyCmdConfirm_busy (hr : r < 64) (hb : (d.keyWin r).busy = true) :
    d.keyCmdConfirm r = (d.keyApply (d.keyWin r).slot (d.keyWin r).act).onKeyWin r (fun w => { w with busy := false, result := 0, act := .none }) := by
  unfold Dev.keyCmdConfirm
  exact if_neg (by rw [hb]; rintro (hge | hf); exacts [absurd hr (Nat.not_lt.2 hge), Bool.noConfusion hf])

theorem Dev.keyCmdConfirm_write (hr : r < 64) (hb : (d.keyWin r).busy = true) (ha : (d.keyWin r).act = .write h)
    (hcur : (d.slot (d.keyWin r).slot).current = none) : ((d.keyCmdConfirm r).keyWin r).busy = false ∧ ((d.keyCmdConfirm r).keyWin r).result = 0 ∧
      (d.keyCmdConfirm r).slot (d.keyWin r).slot = { current := some { h with atIndex := none }, changed := d.short } ∧
      ∀ j, j ≠ (d.keyWin r).slot → (d.keyCmdConfirm r).slot j = d.slot j := by
  have hwrite : d.writeSlot (d.keyWin r).slot h = d.setSlot (d.keyWin r).slot { current := some { h with atIndex := none }, changed := d.short } := by
    unfold Dev.writeSlot
    dsimp only
    rw [hcur]
  rw [Dev.keyCmdConfirm_busy hr hb, ha, Dev.keyApply, hwrite, Dev.keyWin_onKeyWin]
  exact ⟨rfl, rfl, (Dev.slot_setSlot d _ _ _).trans (if_pos rfl), fun j hj => (Dev.slot_setSlot d _ _ _).trans (if_neg hj)⟩

theorem Dev.keyCmdConfirm_cancel (hr : r < 64) (hb : (d.keyWin r).busy = true) (ha : (d.keyWin r).act = .cancel) :
    (d.keyCmdConfirm r).slot (d.keyWin r).slot = { d.slot (d.keyWin r).slot with pending := none, rtcpNew := false } := by
  rw [Dev.keyCmdConfirm_busy hr hb, ha]
  exact (Dev.slot_setSlot d _ _ _).trans (if_pos rfl)

theorem Dev.keyCmdTimeout_due (hr : r < 64) (hb : (d.keyWin r).busy = true) (hm : d.mirrored = true) (ht : (d.keyWin r).since + msT ≤ d.now) :
    ((d.keyCmdTimeout r).keyWin r).busy = false ∧ ((d.keyCmdTimeout r).keyWin r).result = 10 ∧ ∀ j, (d.keyCmdTimeout r).slot j = d.slot j := by
  have heq : d.keyCmdTimeout r = d.onKeyWin r (fun w => { w with busy := false, result := 10, act := .none }) := by
    unfold Dev.keyCmdTimeout
    dsimp only
    refine if_neg ?_
    rintro (hge | hf | hf | hlt)
    · exact absurd hr (Nat.not_lt.2 hge)
    · rw [hb] at hf
      cases hf
    · rw [hm] at hf
      cases hf
    · exact absurd ht (Nat.not_le.2 hlt)
  rw [heq, Dev.keyWin_onKeyWin]
  exact ⟨rfl, rfl, fun _ => rfl⟩

/-! ### The staging buffer (R573) -/

/-- Bytes put into a buffer stand where they were put, and the rest of it stays. -/
theorem putBytes_spec {l b : List Byte} {o : Nat} (ho : o ≤ l.length) :
    ((putBytes l o b).drop o).take b.length = b ∧ (putBytes l o b).take o = l.take o ∧ (putBytes l o b).drop (o + b.length) = l.drop (o + b.length) := by
  have hlen : (l.take o).length = o := List.length_take_of_le ho
  have hsplit : (putBytes l o b).drop o = b ++ l.drop (o + b.length) := by
    rw [putBytes, List.append_assoc, List.drop_left' hlen]
  refine ⟨by rw [hsplit, List.take_left], ?_, ?_⟩
  · rw [putBytes, List.append_assoc, List.take_left' hlen]
  · rw [← List.drop_drop, hsplit, List.drop_left]

theorem Dev.keyRegisterWrite_key {i : Nat} {v : Word} (hr : r < 64) (hi : i < 4) (hb : (d.keyWin r).busy = false) :
    d.keyRegisterWrite r (0x218 + 8 * i) v = d.onKeyWin r fun w => { w with key := putBytes w.key (8 * i) (leBytes 8 v.toNat) } := by
  have hreg : isKeyReg (0x218 + 8 * i) = true := by interval_cases i <;> rfl
  unfold Dev.keyRegisterWrite
  rw [if_neg (by rw [hreg]; rintro (hge | hf); exacts [absurd hr (Nat.not_lt.2 hge), Bool.noConfusion hf]), if_neg (by rw [hb]; exact Bool.false_ne_true),
    if_neg (by omega), if_pos (by omega), Nat.add_sub_cancel_left]

/-- Settles O37: the commands of Flint and of the key-slot windows. -/
theorem flintKeys : Obligations.FlintKeys := by
  refine ⟨fun s c => ⟨Accepts.keyslotAssign, Accepts.keyQuery, Accepts.flintRelease, Accepts.released⟩, fun s r k hready => ?_⟩
  have hwrite := exec_actReady (s := s) (i := .keyWrite r) (f := fun d => d.keyWrite r) rfl hready
  have hzero := exec_actReady (s := s) (i := .zeroize r) (f := fun d => d.zeroize r) rfl hready
  have hcancel := exec_actReady (s := s) (i := .cancelPending r) (f := fun d => d.cancelPending r) rfl hready
  have hconfirm := exec_actReady (s := s) (i := .keyCmdConfirm r) (f := fun d => d.keyCmdConfirm r) rfl hready
  have htimeout := exec_actReady (s := s) (i := .keyCmdTimeout r) (f := fun d => d.keyCmdTimeout r) rfl hready
  have hreg := fun off v => exec_actReady (s := s) (i := .keyRegisterWrite r off v) (f := fun d => d.keyRegisterWrite r off v) rfl hready
  refine ⟨⟨hwrite, hzero, hcancel, hconfirm, htimeout, hreg, fun h => ⟨if_pos h, if_pos (h.imp_right .inl)⟩⟩, fun hr hk =>
    ⟨fun hb => ⟨?_, ?_, ?_⟩, fun hb hdec ho => ?_, fun hb hdec ho => ⟨fun hbad => ?_, fun hbad => ?_, ?_, fun hcode => ?_, fun hcode => ?_⟩,
      fun h hb ha hcur => ⟨_, hconfirm, Dev.keyCmdConfirm_write hr hb ha hcur⟩, fun hb ha => ⟨_, hconfirm, Dev.keyCmdConfirm_cancel hr hb ha⟩,
      fun hb hm ht => ⟨_, htimeout, Dev.keyCmdTimeout_due hr hb hm ht⟩, fun i v hi hb hlen => ⟨_, hreg _ _, ?_⟩⟩⟩
  · rw [hwrite, Dev.keyWrite, Dev.keyCmd_busy hr hb]
  · rw [hzero, Dev.zeroize, Dev.keyCmd_busy hr hb]
  · rw [hcancel, Dev.cancelPending, Dev.keyCmd_busy hr hb]
  · exact ⟨_, hzero, Dev.keyCmd_denied_spec hr hb hdec hk (if_neg ho)⟩
  · obtain ⟨hresult, hbusy, -, hslots⟩ := Dev.keyCmd_denied_spec (code := 1) (bad := fun k => if s.dev.writeBad r k then some .badArg else none)
      (act := fun _ => .write (s.dev.staged r)) (now := fun _ d => d) hr hb hdec hk ((if_pos ho).trans (if_pos hbad))
    exact ⟨_, hwrite, hresult, hbusy, hslots⟩
  · obtain ⟨x, hkeys, -, hslot, -, hbusy, hact, hsel, hkey, hsalt⟩ := Dev.keyCmd_taken_spec (code := 1)
      (bad := fun k => if s.dev.writeBad r k then some .badArg else none) (act := fun _ => .write (s.dev.staged r)) (now := fun _ d => d) hr hb hdec hk ho
      (if_neg (by rw [hbad]; exact Bool.false_ne_true)) fun _ => rfl
    exact ⟨_, hwrite, hbusy, hact, hsel, hkey, hsalt, fun j => (congrFun hslot j).trans (Dev.slot_of_keys hkeys j)⟩
  · obtain ⟨x, hkeys, hctxs, hslot, hslotCtxs, hbusy, -⟩ := Dev.keyCmd_taken_spec (code := 2) (bad := fun _ => none) (act := fun _ => .none)
      (now := fun k d => d.zeroSlot k) hr hb hdec hk ho rfl fun _ => rfl
    have hs := fun j => (congrFun hslot j).trans (x.slot_zeroSlot k j)
    have hc := fun j => (congrFun hslotCtxs j).trans (x.slotCtxs_zeroSlot k j)
    refine ⟨_, hzero, hbusy, (hs k).trans (if_pos rfl), (hc k).trans (if_pos rfl), fun j hj => ⟨?_, ?_⟩⟩
    · exact ((hs j).trans (if_neg hj)).trans (Dev.slot_of_keys hkeys j)
    · refine ((hc j).trans (if_neg hj)).trans ?_
      rw [Dev.slotCtxs, hctxs]
      rfl
  · obtain ⟨x, hkeys, -, hslot, -, hbusy, hact, -⟩ := Dev.keyCmd_taken_spec (code := 3)
      (bad := fun k => if (s.dev.slot k).code = 2 then none else some .stateConflict) (act := fun _ => .cancel) (now := fun _ d => d) hr hb hdec hk ho
      (if_pos hcode) fun _ => rfl
    exact ⟨_, hcancel, hbusy, hact, fun j => (congrFun hslot j).trans (Dev.slot_of_keys hkeys j)⟩
  · obtain ⟨hresult, hbusy, -, hslots⟩ := Dev.keyCmd_denied_spec (code := 3) (bad := fun k => if (s.dev.slot k).code = 2 then none else some .stateConflict)
      (act := fun _ => .cancel) (now := fun _ d => d) hr hb hdec hk ((if_pos ho).trans (if_neg hcode))
    exact ⟨_, hcancel, hresult, hbusy, hslots⟩
  · have hsplice := putBytes_spec (b := leBytes 8 v.toNat) (l := (s.dev.keyWin r).key) (o := 8 * i) (by omega)
    rw [length_leBytes] at hsplice
    obtain ⟨hput, htake, hdrop⟩ := hsplice
    rw [State.setDev_dev, Dev.keyRegisterWrite_key hr hi hb, Dev.keyWin_onKeyWin]
    exact ⟨hput, htake, hdrop, rfl⟩

end Sys2Proof.Machine
end

section
/-! XLAT_MAP and the other translation commands (R712 to R722): O46. -/

namespace Sys2Proof.Machine
open Sys2Proof

variable {s : State} {c : HostCmd} {d e : Dev} {x : Xlat} {i j k r va : Nat}

/-! ### Leaves found by their key -/

theorem leafAt_some_mem {l : Leaf} (h : leafAt x k = some l) : (k, l) ∈ x.leaves := by
  unfold leafAt at h
  obtain ⟨y, hy, rfl⟩ := Option.map_eq_some_iff.1 h
  have hkey : y.1 = k := by simpa using List.find?_some hy
  rw [← hkey]
  exact List.mem_of_find?_eq_some hy

theorem leafAt_eq_none : leafAt x k = none ↔ ∀ y ∈ x.leaves, y.1 ≠ k := by
  rw [leafAt, Option.map_eq_none_iff, List.find?_eq_none]
  simp only [beq_iff_eq, ne_eq]

/-- Inserting a leaf changes what is found at its own key alone. -/
theorem find_insertBy_of_ne {α : Type} (lt : Nat × α → Nat × α → Bool) (g : Nat) (y : Nat × α) (l : List (Nat × α)) (h : y.1 ≠ g) :
    (insertBy lt y l).find? (fun e => e.1 == g) = l.find? (fun e => e.1 == g) := by
  induction l with
  | nil => exact List.find?_cons_of_neg (by simpa using h)
  | cons z l ih =>
    unfold insertBy
    split
    · exact List.find?_cons_of_neg (by simpa using h)
    · rw [List.find?_cons, List.find?_cons, ih]

theorem find_addLeaves_of_ne (l new : List (Nat × Leaf)) (h : ∀ y ∈ new, y.1 ≠ k) :
    (addLeaves l new).find? (fun e => e.1 == k) = l.find? (fun e => e.1 == k) := by
  induction new generalizing l with
  | nil => rfl
  | cons y t ih =>
    refine (ih _ fun z hz => h z (List.mem_cons_of_mem _ hz)).trans ?_
    exact find_insertBy_of_ne _ _ _ _ (h y List.mem_cons_self)

theorem find_addLeaves (l new : List (Nat × Leaf)) (hnew : (new.map Prod.fst).Nodup) (hl : ∀ y ∈ new, ∀ z ∈ l, z.1 ≠ y.1) {y : Nat × Leaf} (hy : y ∈ new) :
    (addLeaves l new).find? (fun e => e.1 == y.1) = some y := by
  induction new generalizing l with
  | nil => cases hy
  | cons a t ih =>
    obtain ⟨hnot, hnew⟩ := List.nodup_cons.1 hnew
    rcases List.mem_cons.1 hy with rfl | hy
    · refine (find_addLeaves_of_ne _ t fun z hz => fun h => hnot (List.mem_map.2 ⟨z, hz, h⟩)).trans ?_
      exact find_insertBy _ _ _ _ (hl y List.mem_cons_self)
    · refine ih _ hnew (fun z hz w hw => ?_) hy
      rcases List.mem_cons.1 ((insertBy_perm _ _ _).mem_iff.1 hw) with rfl | hw
      · exact fun h => hnot (List.mem_map.2 ⟨z, hz, h.symm⟩)
      · exact hl z (List.mem_cons_of_mem _ hz) w hw

/-! ### The pages of XLAT_MAP -/

theorem Leaf.size_eq (l : Leaf) : l.size = if l.large then 33554432 else 65536 := rfl

/-- The virtual address of the page of number `i` that XLAT_MAP maps, and its leaf. -/
def mapPage (c : HostCmd) (i : Nat) : Nat := c.arg 8 8 + i * (mapLeaf c).size
def mapAt (c : HostCmd) (i : Nat) : Leaf := { mapLeaf c with out := (mapLeaf c).out + i * (mapLeaf c).size }

/-- The translation once XLAT_MAP has mapped its pages. -/
def Xlat.mapped (x : Xlat) (c : HostCmd) : Xlat := { x with leaves := addLeaves x.leaves (mapLeaves c) }

theorem mapLeaves_eq (c : HostCmd) : mapLeaves c = (List.range (c.arg 2 2)).map fun i => (leafKey (c.arg 0 1) (mapPage c i / 65536), mapAt c i) := by
  refine List.map_congr_left fun i _ => ?_
  have hpage : c.arg 8 8 / 65536 + i * ((mapLeaf c).size / 65536) = mapPage c i / 65536 := by
    rw [mapPage, Leaf.size_eq]
    split <;> omega
  rw [hpage]
  rfl

/-- What XLAT_MAP requires of its pages: they are aligned, they lie in the address space, and nothing is mapped there. -/
structure MapFits (c : HostCmd) (d : Dev) : Prop where
  aligned : c.arg 8 8 % (mapLeaf c).size = 0
  inside : c.arg 8 8 + c.arg 2 2 * (mapLeaf c).size ≤ 281474976710656
  free : ∀ i, i < c.arg 2 2 → d.pageTaken (c.arg 0 1) (mapPage c i) (mapLeaf c).large = false
  output : d.mapBad c = false

theorem Accepts.mapFits (h : Accepts xlatMapSpec c s) : MapFits c s.dev := by
  have hrange := h.badArg (k := 8) (b := c.arg 8 8 % (mapLeaf c).size != 0 || decide (281474976710656 < c.arg 8 8 + c.arg 2 2 * (mapLeaf c).size))
    (by simp [xlatMapSpec])
  have hbad := h.badArg (k := 16) (b := s.dev.mapBad c) (by simp [xlatMapSpec])
  simp only [Bool.or_eq_false_iff, bne_eq_false_iff_eq, decide_eq_false_iff_not, Nat.not_lt] at hrange
  refine ⟨hrange.1, hrange.2, fun i hi => ?_, hbad⟩
  cases hfind : (vaRange (c.arg 8 8) (c.arg 2 2) (mapLeaf c).large).find? (fun va => s.dev.pageTaken (c.arg 0 1) va (mapLeaf c).large) with
  | none =>
    have hmem : mapPage c i ∈ vaRange (c.arg 8 8) (c.arg 2 2) (mapLeaf c).large := List.mem_map.2 ⟨i, List.mem_range.2 hi, rfl⟩
    simpa using List.find?_eq_none.1 hfind _ hmem
  | some va =>
    have htaken := h.conflicts (k := s.dev.pageCode (c.arg 0 1) va (mapLeaf c).large) (b := true) (by simp [xlatMapSpec, hfind])
    cases htaken

section Fits
variable (h : MapFits c d)
include h

theorem MapFits.page_lt (hi : i < c.arg 2 2) : mapPage c i + (mapLeaf c).size ≤ 281474976710656 := by
  have hinside := h.inside
  have hle : (i + 1) * (mapLeaf c).size ≤ c.arg 2 2 * (mapLeaf c).size := Nat.mul_le_mul_right _ hi
  rw [mapPage]
  rw [Nat.succ_mul] at hle
  omega

/-- Nothing stood at the key of a page before. -/
theorem MapFits.leafOf_none (hi : i < c.arg 2 2) : leafOf d.xlat (c.arg 0 1) (mapPage c i) = none := by
  have hfree := h.free i hi
  unfold Dev.pageTaken at hfree
  split at hfree
  · simp only [Bool.or_eq_false_iff, Option.isSome_eq_false_iff, Option.isNone_iff_eq_none] at hfree
    exact hfree.1
  · simpa using hfree

end Fits

theorem leafAt_of_leafOf_none (h : leafOf x r va = none) : leafAt x (leafKey r (va / 65536)) = none := by
  unfold leafOf at h
  cases hl : leafAt x (leafKey r (va / 65536)) with
  | none => rfl
  | some l =>
    rw [hl] at h
    dsimp only at h
    split at h <;> cases h

theorem leafKey_inj {a b : Nat} {p q : Nat} (hp : p < 4294967296) (hq : q < 4294967296) : leafKey a p = leafKey b q ↔ a = b ∧ p = q := by
  unfold leafKey
  omega

/-- A leaf that stands elsewhere is found as before. -/
theorem leafAt_kept (hk : ∀ i, i < c.arg 2 2 → k ≠ leafKey (c.arg 0 1) (mapPage c i / 65536)) : leafAt (x.mapped c) k = leafAt x k := by
  refine congrArg (Option.map Prod.snd) (find_addLeaves_of_ne x.leaves (mapLeaves c) fun y hy => ?_)
  rw [mapLeaves_eq] at hy
  obtain ⟨j, hj, rfl⟩ := List.mem_map.1 hy
  exact (hk j (List.mem_range.1 hj)).symm

section Fits
variable (h : MapFits c d)
include h

theorem MapFits.leafAt_none (hi : i < c.arg 2 2) : leafAt d.xlat (leafKey (c.arg 0 1) (mapPage c i / 65536)) = none := leafAt_of_leafOf_none (h.leafOf_none hi)

theorem MapFits.key_inj (hi : i < c.arg 2 2) (hva : va < 281474976710656) (hk : leafKey r (va / 65536) = leafKey (c.arg 0 1) (mapPage c i / 65536)) :
    r = c.arg 0 1 ∧ va / 65536 = mapPage c i / 65536 := by
  have hlt := h.page_lt hi
  exact (leafKey_inj (by omega) (by rw [Leaf.size_eq] at hlt; split at hlt <;> omega)).1 hk

theorem MapFits.aligned_page (i : Nat) : mapPage c i % (mapLeaf c).size = 0 := by
  rw [mapPage, Nat.add_mul_mod_self_right]
  exact h.aligned

/-- Two of the pages do not meet. -/
theorem MapFits.page_inj (hij : mapPage c i / 65536 = mapPage c j / 65536) : i = j := by
  have hi := h.aligned_page i
  have hj := h.aligned_page j
  unfold mapPage at *
  rw [Leaf.size_eq] at *
  split at hij <;> simp_all <;> omega

theorem MapFits.nodup : ((mapLeaves c).map Prod.fst).Nodup := by
  rw [mapLeaves_eq, List.map_map]
  refine List.Nodup.map_on (fun i hi j hj hij => h.page_inj (i := i) (j := j) ?_) List.nodup_range
  have hlt := h.page_lt (List.mem_range.1 hj)
  have hpos : 0 < (mapLeaf c).size := by rw [Leaf.size_eq]; split <;> decide
  exact (h.key_inj (List.mem_range.1 hj) (va := mapPage c i) (by have := h.page_lt (List.mem_range.1 hi); omega) hij).2

/-- The leaf of a page that was mapped, and every leaf that stood before. -/
theorem MapFits.leafAt_mapped (hi : i < c.arg 2 2) : leafAt (d.xlat.mapped c) (leafKey (c.arg 0 1) (mapPage c i / 65536)) = some (mapAt c i) := by
  have hmem : (leafKey (c.arg 0 1) (mapPage c i / 65536), mapAt c i) ∈ mapLeaves c := by
    rw [mapLeaves_eq]
    exact List.mem_map.2 ⟨i, List.mem_range.2 hi, rfl⟩
  have hfind := find_addLeaves d.xlat.leaves (mapLeaves c) h.nodup (fun y hy z hz => ?_) hmem
  · exact congrArg (Option.map Prod.snd) hfind
  · rw [mapLeaves_eq] at hy
    obtain ⟨j, hj, rfl⟩ := List.mem_map.1 hy
    exact leafAt_eq_none.1 (h.leafAt_none (List.mem_range.1 hj)) z hz

theorem MapFits.leafAt_of_some {l : Leaf} (hk : leafAt d.xlat k = some l) : leafAt (d.xlat.mapped c) k = some l := by
  rw [leafAt_kept fun i hi he => ?_, hk]
  rw [he, h.leafAt_none hi] at hk
  cases hk

/-- What translated before goes on. -/
theorem MapFits.leafOf_kept {y : Nat × Leaf} (hva : va < 281474976710656) (hy : leafOf d.xlat r va = some y) : leafOf (d.xlat.mapped c) r va = some y := by
  unfold leafOf at hy ⊢
  cases hfirst : leafAt d.xlat (leafKey r (va / 65536)) with
  | some l =>
    rw [hfirst] at hy
    rw [h.leafAt_of_some hfirst]
    exact hy
  | none =>
    rw [hfirst] at hy
    cases hlarge : leafAt d.xlat (leafKey r (va / 33554432 * 512)) with
    | none =>
      rw [hlarge] at hy
      cases hy
    | some l =>
      have hkept : leafAt (d.xlat.mapped c) (leafKey r (va / 65536)) = none := by
        rw [leafAt_kept fun i hi he => ?_, hfirst]
        obtain ⟨hr, hpage⟩ := h.key_inj hi hva he
        have hnone := h.leafOf_none hi
        have hsame : mapPage c i / 33554432 = va / 33554432 := by omega
        unfold leafOf at hnone
        rw [← hr, ← hpage, hsame, hfirst, hlarge] at hnone
        rw [hlarge] at hy
        dsimp only at hnone hy
        split at hy
        next hl =>
          rw [if_pos hl] at hnone
          cases hnone
        next => cases hy
      rw [hkept, h.leafAt_of_some hlarge]
      rw [hlarge] at hy
      exact hy

/-- Every byte of a page that was mapped finds the page's leaf. -/
theorem MapFits.leafOf_mapped (hi : i < c.arg 2 2) (hk : k < (mapLeaf c).size) :
    leafOf (d.xlat.mapped c) (c.arg 0 1) (mapPage c i + k) = some (mapPage c i, mapAt c i) := by
  have haligned := h.aligned_page i
  have hlt := h.page_lt hi
  unfold leafOf
  cases hlarge : (mapLeaf c).large
  · rw [Leaf.size_eq, hlarge] at hk haligned
    simp only [Bool.false_eq_true, if_false] at hk haligned
    rw [show (mapPage c i + k) / 65536 = mapPage c i / 65536 by omega, h.leafAt_mapped hi]
    have hnot : (mapAt c i).large = false := hlarge
    simp only [hnot, Bool.false_eq_true, if_false]
    rw [show mapPage c i / 65536 * 65536 = mapPage c i by omega]
  · rw [Leaf.size_eq, hlarge] at hk haligned hlt
    simp only [if_true] at hk haligned hlt
    have hbig : (mapAt c i).large = true := hlarge
    have hbase : (mapPage c i + k) / 33554432 * 33554432 = mapPage c i := by omega
    by_cases hfirst : (mapPage c i + k) / 65536 = mapPage c i / 65536
    · rw [hfirst, h.leafAt_mapped hi]
      simp only [hbig, if_true, hbase]
    · have hnone : leafAt (d.xlat.mapped c) (leafKey (c.arg 0 1) ((mapPage c i + k) / 65536)) = none := by
        rw [leafAt_kept fun j hj he => ?_, leafAt_eq_none]
        · intro y hy hkey
          have hfree := h.free i hi
          simp only [Dev.pageTaken, hlarge, if_true, Bool.or_eq_false_iff, List.any_eq_false, Bool.and_eq_true, beq_iff_eq, not_and] at hfree
          refine hfree.2 y hy ?_ ?_ <;> rw [hkey, leafKey] <;> omega
        · have hpage := (h.key_inj hj (by omega) he).2
          have hj' := h.aligned_page j
          rw [Leaf.size_eq, hlarge] at hj'
          simp only [if_true] at hj'
          omega
      have hsecond : (mapPage c i + k) / 33554432 * 512 = mapPage c i / 65536 := by
        obtain ⟨q, hq⟩ := Nat.dvd_of_mod_eq_zero haligned
        rw [hq, Nat.mul_add_div (by decide), Nat.div_eq_of_lt hk, Nat.add_zero]
        clear hfirst hbase haligned hlt
        omega
      rw [hnone, hsecond, h.leafAt_mapped hi]
      simp only [hbig, if_true, hbase]

end Fits

/-! ### What the pages translate to -/

theorem Dev.translate_leaf {w : Bool} {b : Nat} {l : Leaf} (hva : va < 281474976710656) (hl : leafOf d.xlat r va = some (b, l)) (ht : l.target < 2) :
    d.translate r va w = if w && !l.w then .error ⟨2, if l.large then 2 else 3, va⟩
      else if l.target = 0 ∧ reservedBase ≤ l.out + (va - b) then .error ⟨2, if l.large then 2 else 3, va⟩ else .ok (l.target, l.out + (va - b)) := by
  unfold Dev.translate
  rw [if_neg (Nat.not_le.2 hva), hl]
  exact if_neg fun h => absurd h.1 (Nat.ne_of_lt ht)

/-- What translates depends on the leaf that covers it and on the slices alone. -/
theorem Dev.translate_kept {w : Bool} {y : Nat × Nat} (hslices : e.mem.slices = d.mem.slices)
    (hleaf : ∀ z, va < 281474976710656 → leafOf d.xlat r va = some z → leafOf e.xlat r va = some z) (h : d.translate r va w = .ok y) : e.translate r va w = .ok y := by
  have hslice : ∀ q, e.slice q = d.slice q := fun q => by rw [Dev.slice, hslices]; rfl
  unfold Dev.translate at h ⊢
  split at h
  · cases h
  next hva =>
    rw [if_neg hva]
    cases hz : leafOf d.xlat r va with
    | none =>
      rw [hz] at h
      cases h
    | some z =>
      rw [hz] at h
      rw [hleaf z (Nat.not_le.1 hva) hz]
      simp only [hslice]
      exact h

theorem MapFits.translate_mapped (h : MapFits c d) (hx : e.xlat = d.xlat.mapped c) (ht : (mapLeaf c).target < 2) (hk : k < c.arg 2 2 * (mapLeaf c).size) :
    e.translate (c.arg 0 1) (c.arg 8 8 + k) false = .ok ((mapLeaf c).target, (mapLeaf c).out + k) ∧
      ((mapLeaf c).w = true → e.translate (c.arg 0 1) (c.arg 8 8 + k) true = .ok ((mapLeaf c).target, (mapLeaf c).out + k)) ∧
      ((mapLeaf c).w = false → ∃ e', e.translate (c.arg 0 1) (c.arg 8 8 + k) true = .error e' ∧ e'.code = 2) := by
  have hpos : 0 < (mapLeaf c).size := by rw [Leaf.size_eq]; split <;> decide
  have hi : k / (mapLeaf c).size < c.arg 2 2 := (Nat.div_lt_iff_lt_mul hpos).2 hk
  have hva : c.arg 8 8 + k = mapPage c (k / (mapLeaf c).size) + k % (mapLeaf c).size := by
    rw [mapPage, Nat.add_assoc, Nat.div_add_mod']
  have hout : (mapAt c (k / (mapLeaf c).size)).out + (c.arg 8 8 + k - mapPage c (k / (mapLeaf c).size)) = (mapLeaf c).out + k := by
    rw [hva, Nat.add_sub_cancel_left, mapAt, Nat.add_assoc, Nat.div_add_mod']
  have hleaf : leafOf e.xlat (c.arg 0 1) (c.arg 8 8 + k) = some (mapPage c (k / (mapLeaf c).size), mapAt c (k / (mapLeaf c).size)) := by
    rw [hx, hva]
    exact h.leafOf_mapped hi (Nat.mod_lt _ hpos)
  have hroom : ¬ ((mapAt c (k / (mapLeaf c).size)).target = 0 ∧ reservedBase ≤ (mapAt c (k / (mapLeaf c).size)).out + (c.arg 8 8 + k - mapPage c (k / (mapLeaf c).size))) := by
    rw [hout]
    rintro ⟨h0, hge⟩
    have hbad := h.output
    simp only [Dev.mapBad, Bool.or_eq_false_iff, Bool.and_eq_false_iff, beq_eq_false_iff_ne, ne_eq, decide_eq_false_iff_not] at hbad
    have := (hbad.1.1.2.resolve_left fun hne => hne h0).1
    omega
  have htrans := fun w => Dev.translate_leaf (d := e) (w := w) (Nat.lt_of_lt_of_le (by omega) h.inside) hleaf ht
  refine ⟨?_, fun hw => ?_, fun hw => ⟨_, (htrans true).trans (if_pos ?_), rfl⟩⟩
  · rw [htrans, if_neg (by exact Bool.false_ne_true), if_neg hroom, hout]
    rfl
  · have hw' : (mapAt c (k / (mapLeaf c).size)).w = true := hw
    rw [htrans, hw', if_neg (by decide), if_neg hroom, hout]
    rfl
  · have hw' : (mapAt c (k / (mapLeaf c).size)).w = false := hw
    rw [hw']
    rfl

theorem mod_arg (c : HostCmd) (k : Nat) : c.arg k 2 % 65536 = c.arg k 2 := Nat.mod_eq_of_lt (Nat.mod_lt _ (by decide))

/-- XLAT_MAP. -/
theorem Accepts.xlatMap (h : Accepts xlatMapSpec c s) : ∃ u, exec (.xlatMap c) s = .next u ∧ Ends u s c (xlatMapSpec.okOr c s) (c.arg 2 2) s.dev.short ∧
    ((mapLeaf c).target < 2 → ∀ k, k < c.arg 2 2 * (mapLeaf c).size →
      u.dev.translate (c.arg 0 1) (c.arg 8 8 + k) false = .ok ((mapLeaf c).target, (mapLeaf c).out + k) ∧
      ((mapLeaf c).w = true → u.dev.translate (c.arg 0 1) (c.arg 8 8 + k) true = .ok ((mapLeaf c).target, (mapLeaf c).out + k)) ∧
      ((mapLeaf c).w = false → ∃ e, u.dev.translate (c.arg 0 1) (c.arg 8 8 + k) true = .error e ∧ e.code = 2)) ∧
    (∀ r va w x, s.dev.translate r va w = .ok x → u.dev.translate r va w = .ok x) ∧
    u.dev.counter pgXlat 0x070 = s.dev.counter pgXlat 0x070 + BitVec.ofNat 64 (c.arg 2 2) := by
  have hfits := h.mapFits
  obtain ⟨e, hrun, hends, hmem, -, hdone, hcount⟩ := h.okKept (d := { s.dev with xlat := s.dev.xlat.mapped c }.bump pgXlat 0x070 (c.arg 2 2)) (n := c.arg 2 2)
    (v := s.dev.short) rfl rfl rfl
  have hxlat : e.xlat = s.dev.xlat.mapped c := by rw [hdone]; rfl
  rw [mod_arg] at hends
  refine ⟨_, congrArg Host.Outcome.next hrun, hends, fun ht k hk => hfits.translate_mapped hxlat ht hk,
    fun r va w x hx => Dev.translate_kept (by exact congrArg Mem.slices hmem) (fun z hva hz => ?_) hx, ?_⟩
  · rw [State.setDev_dev, hxlat]
    exact hfits.leafOf_kept hva hz
  · rw [State.setDev_dev, hcount _ _ (by decide) (by decide), Dev.counter_bump, if_pos rfl]
    rfl

/-! ### XLAT_UNMAP, XLAT_PROTECT, XLAT_QUERY -/

/-- The keys of the pages that a range command names. -/
def rangeKeys (c : HostCmd) : List Nat := (vaRange (c.arg 8 8) (c.arg 2 2) (c.arg 4 1 == 1)).map (fun va => leafKey (c.arg 0 1) (va / 65536))

theorem mem_rangeKeys : k ∈ rangeKeys c ↔ ∃ i, i < c.arg 2 2 ∧ leafKey (c.arg 0 1) ((c.arg 8 8 + i * pageSize (c.arg 4 1 == 1)) / 65536) = k := by
  simp only [rangeKeys, vaRange, List.map_map, List.mem_map, List.mem_range, Function.comp_apply]

theorem Accepts.xlatUnmap (h : Accepts xlatUnmapSpec c s) : ∃ u, exec (.xlatUnmap c) s = .next u ∧ Ends u s c (xlatUnmapSpec.okOr c s) (c.arg 2 2) s.dev.short ∧
    (∀ e, e ∈ u.dev.xlat.leaves ↔ (e ∈ s.dev.xlat.leaves ∧ ∀ k, k < c.arg 2 2 → e.1 ≠ leafKey (c.arg 0 1) ((c.arg 8 8 + k * pageSize (c.arg 4 1 == 1)) / 65536))) ∧
    u.dev.xlat.holds = s.dev.xlat.holds := by
  obtain ⟨e, hrun, hdone, hends, -⟩ := h.okNow
    (d := { s.dev with xlat := { s.dev.xlat with leaves := s.dev.xlat.leaves.filter (fun e => !(rangeKeys c).contains e.1) } }.bump pgXlat 0x078 (c.arg 2 2))
    (n := c.arg 2 2) rfl rfl rfl
  have hxlat : e.xlat = { s.dev.xlat with leaves := s.dev.xlat.leaves.filter (fun e => !(rangeKeys c).contains e.1) } := by rw [hdone]; rfl
  rw [mod_arg] at hends
  refine ⟨_, congrArg Host.Outcome.next hrun, hends, fun y => ?_, ?_⟩
  · rw [State.setDev_dev, hxlat, List.mem_filter, Bool.not_eq_true', ← Bool.not_eq_true, List.contains_iff_mem, mem_rangeKeys]
    exact and_congr_right' ⟨fun hn k hk he => hn ⟨k, hk, he.symm⟩, fun hn ⟨k, hk, he⟩ => hn k hk he.symm⟩
  · rw [State.setDev_dev, hxlat]

/-- The leaf of a page, protected where a range command names it. -/
def protectLeaf (c : HostCmd) (y : Nat × Leaf) : Nat × Leaf :=
  if (rangeKeys c).contains y.1 then (y.1, { y.2 with w := c.arg 5 1 % 2 == 1, pageable := c.arg 5 1 / 2 == 1 }) else y

theorem protectLeaf_key (c : HostCmd) (y : Nat × Leaf) : (protectLeaf c y).1 = y.1 := by
  unfold protectLeaf
  split <;> rfl

theorem leafAt_protect (c : HostCmd) (hk : k ∈ rangeKeys c) (x : Xlat) : leafAt { x with leaves := x.leaves.map (protectLeaf c) } k =
    (leafAt x k).map fun l => { l with w := c.arg 5 1 % 2 == 1, pageable := c.arg 5 1 / 2 == 1 } := by
  have hfind : (x.leaves.map (protectLeaf c)).find? (fun e => e.1 == k) = (x.leaves.find? fun e => e.1 == k).map (protectLeaf c) := by
    rw [List.find?_map]
    refine congrArg (Option.map _) (congrArg (fun f => List.find? f x.leaves) (funext fun y => ?_))
    rw [Function.comp_apply, protectLeaf_key]
  unfold leafAt
  rw [hfind]
  cases hy : x.leaves.find? (fun e => e.1 == k) with
  | none => rfl
  | some y =>
    have hkey : y.1 = k := by simpa using List.find?_some hy
    simp only [Option.map_some, protectLeaf, hkey, List.contains_iff_mem.2 hk, if_true]

theorem Accepts.xlatProtect (h : Accepts xlatProtectSpec c s) : ∃ u, exec (.xlatProtect c) s = .next u ∧ Ends u s c (xlatProtectSpec.okOr c s) (c.arg 2 2) s.dev.short ∧
    (∀ k, k < c.arg 2 2 → u.dev.leafFor (c.arg 0 1) (c.arg 8 8 + k * pageSize (c.arg 4 1 == 1)) (c.arg 4 1 == 1) =
      (s.dev.leafFor (c.arg 0 1) (c.arg 8 8 + k * pageSize (c.arg 4 1 == 1)) (c.arg 4 1 == 1)).map (fun l => { l with w := c.arg 5 1 % 2 == 1, pageable := c.arg 5 1 / 2 == 1 })) ∧
    u.dev.xlat.leaves.map (fun e => (e.1, e.2.large, e.2.target, e.2.out)) = s.dev.xlat.leaves.map (fun e => (e.1, e.2.large, e.2.target, e.2.out)) := by
  obtain ⟨e, hrun, hdone, hends, -⟩ := h.okNow (d := { s.dev with xlat := { s.dev.xlat with leaves := s.dev.xlat.leaves.map (protectLeaf c) } })
    (n := c.arg 2 2) rfl rfl rfl
  have hxlat : e.xlat = { s.dev.xlat with leaves := s.dev.xlat.leaves.map (protectLeaf c) } := by rw [hdone]
  rw [mod_arg] at hends
  refine ⟨_, congrArg Host.Outcome.next hrun, hends, fun k hk => ?_, ?_⟩
  · rw [State.setDev_dev, Dev.leafFor, hxlat, leafAt_protect c (mem_rangeKeys.2 ⟨k, hk, rfl⟩), Dev.leafFor]
    cases leafAt s.dev.xlat (leafKey (c.arg 0 1) ((c.arg 8 8 + k * pageSize (c.arg 4 1 == 1)) / 65536)) with
    | none => rfl
    | some l =>
      cases hl : l.large == (c.arg 4 1 == 1) <;> simp [Option.filter, hl]
  · rw [State.setDev_dev, hxlat, List.map_map]
    refine List.map_congr_left fun y _ => ?_
    unfold Function.comp protectLeaf
    dsimp only
    split <;> rfl

theorem Accepts.xlatQuery (h : Accepts xlatQuerySpec c s) : ∃ u, exec (.xlatQuery c) s = .next u ∧ UnitsKept s u ∧
    (leafOf s.dev.xlat (c.arg 0 1) (c.arg 8 8) = none → Ends u s c (xlatQuerySpec.okOr c s) 0 0) ∧
    (∀ base l, leafOf s.dev.xlat (c.arg 0 1) (c.arg 8 8) = some (base, l) →
      Ends u s c (xlatQuerySpec.okOr c s) (if s.dev.heldPage (c.arg 0 1) base l.size then 2 else 1) (s.dev.leafWord (c.arg 0 1) base l)) := by
  cases hleaf : leafOf s.dev.xlat (c.arg 0 1) (c.arg 8 8) with
  | none =>
    have heff : xlatQuerySpec.effect c s = (s.setDev s.dev, .done .ok 0 0) := by
      simp only [OpSpec.effect, xlatQuerySpec, devRun, hleaf]
    obtain ⟨u, hrun, hkept, hends⟩ := h.query heff
    exact ⟨u, congrArg Host.Outcome.next hrun, hkept, fun _ => hends, fun _ _ hz => by cases hz⟩
  | some z =>
    have heff : xlatQuerySpec.effect c s =
        (s.setDev s.dev, .done .ok (if s.dev.heldPage (c.arg 0 1) z.1 z.2.size then 2 else 1) (s.dev.leafWord (c.arg 0 1) z.1 z.2)) := by
      simp only [OpSpec.effect, xlatQuerySpec, devRun, hleaf]
    obtain ⟨u, hrun, hkept, hends⟩ := h.query heff
    refine ⟨u, congrArg Host.Outcome.next hrun, hkept, fun hz => (by cases hz), fun base l hz => ?_⟩
    cases hz
    rw [Nat.mod_eq_of_lt (by split <;> decide)] at hends
    exact hends

end Sys2Proof.Machine
end

section
/-! What keeps the clock and the pass numbers of the rings: translation faults and the work they halt (R728 to R736), and the ends of jobs. -/

namespace Sys2Proof.Machine
open Sys2Proof

variable {d e f : Dev}

/-- No time passes, and no ring is reset. -/
structure Dev.Timed (d e : Dev) : Prop where
  clk : e.clk = d.clk
  gen : ∀ r k, (e.ring r k).gen = (d.ring r k).gen

theorem Dev.timed_of (hc : e.clk = d.clk) (hr : e.ctl.rings = d.ctl.rings) : d.Timed e := ⟨hc, fun r k => by rw [Dev.ring, hr]; rfl⟩
theorem Dev.Timed.refl (d : Dev) : d.Timed d := ⟨rfl, fun _ _ => rfl⟩
theorem Dev.Timed.trans (h : d.Timed e) (k : e.Timed f) : d.Timed f := ⟨k.clk.trans h.clk, fun r i => (k.gen r i).trans (h.gen r i)⟩
theorem Dev.Timed.ite {q : Prop} [Decidable q] (h : d.Timed e) (k : d.Timed f) : d.Timed (if q then e else f) := by
  split
  · exact h
  · exact k
theorem Dev.timed_foldl {α : Type} (g : Dev → α → Dev) (h : ∀ (d : Dev) (x : α), d.Timed (g d x)) (l : List α) (d : Dev) : d.Timed (l.foldl g d) := by
  induction l generalizing d with
  | nil => exact .refl d
  | cons x t ih => exact (h d x).trans (ih _)
theorem Dev.Noted.timed (h : d.Noted e) : d.Timed e := Dev.timed_of h.clk (by rw [h])
theorem Dev.writeVa_timed (d : Dev) (r va : Nat) (l : List Byte) : d.Timed (d.writeVa r va l) := by rw [Dev.writeVa_eq]; exact Dev.timed_of rfl rfl

/-! ### Completions -/

theorem Dev.postRing_timed (d : Dev) (m r : Nat) (tag : BitVec 32) (st : Status) (n : Nat) (v : Word) : d.Timed (d.postRing m r tag st n v) := by
  have hset : ∀ (va : Nat) (l : List Byte) (x : Ring), x.gen = (d.ring m r).gen → d.Timed ((d.writeVa m va l).setRing m r x) := fun va l x hx =>
    (d.writeVa_timed m va l).trans ⟨rfl, fun r' k => by
      rw [Dev.ring_setRing]
      split
      next h =>
        rw [hx, Dev.ring, Dev.ring, h, Dev.writeVa_eq]
      next => rfl⟩
  have hmsix : ∀ (e : Dev) (v : Nat), e.Timed (e.msix v) := fun e v => Dev.timed_of (Dev.msix_completed e v).clk (by unfold Dev.msix; split <;> [rfl; split <;> rfl])
  unfold Dev.postRing
  dsimp only
  split
  · exact .refl d
  · split
    · refine Dev.Timed.trans (hset _ _ _ ?_) (hmsix _ _)
      rfl
    · refine hset _ _ _ ?_
      rfl

theorem Dev.trace_timed (d : Dev) (c e s : Nat) (x y : Word) (o : Nat) : d.Timed (d.trace c e s x y o) := (d.trace_noted c e s x y o).timed

theorem Dev.complete_timed (d : Dev) (k : Token) (st : Status) (n : Nat) (v : Word) : d.Timed (d.complete k st n v) := by
  have hemit : ∀ (e : Dev) (o : Output), e.Timed (e.emit o) := fun _ _ => Dev.timed_of rfl rfl
  unfold Dev.complete
  dsimp only
  refine .trans ?_ (Dev.trace_timed _ _ _ _ _ _ _)
  split
  · exact (Dev.Timed.ite (.refl d) (d.postRing_timed _ _ _ _ _ _)).trans (hemit _ _)
  · exact .refl d

theorem Dev.finish_timed (d : Dev) (op o : Nat) (st : Status) (n : Nat) (v : Word) : d.Timed (d.finish op o st n v) := by
  have hrest : ∀ l, d.Timed { d with ctl := { d.ctl with waits := l } } := fun _ => Dev.timed_of rfl rfl
  exact (hrest _).trans (Dev.timed_foldl _ (fun d w => d.complete_timed _ _ _ _) _ _)

/-! ### Translation faults -/

theorem Dev.closeFault_timed (d : Dev) (id how : Nat) : d.Timed (d.closeFault id how) := by
  have hset : ∀ x : Xlat, d.Timed { d with xlat := x } := fun _ => Dev.timed_of rfl rfl
  unfold Dev.closeFault
  dsimp only
  split
  · exact (hset _).trans (Dev.trace_timed _ _ _ _ _ _ _)
  · exact hset _

theorem Dev.raise_timed (d : Dev) (p b s c : Nat) (x y : Word) : d.Timed (d.raise p b s c x y) := (d.raise_noted p b s c x y).timed
theorem Dev.inc_timed (d : Dev) (p o : Nat) : d.Timed (d.inc p o) := Dev.timed_of rfl rfl

theorem Dev.faultRing_timed (d : Dev) (x : XFault) : d.Timed (d.faultRing x) := by
  unfold Dev.faultRing
  dsimp only
  split
  · exact (d.inc_timed _ _).trans (Dev.raise_timed _ _ _ _ _ _ _)
  · exact (d.writeVa_timed _ _ _).trans (Dev.timed_of rfl rfl)

theorem Dev.recordFault_timed (d : Dev) (realm : Nat) (e : XErr) (write : Bool) (cls source : Nat) (work : FaultWork) (noSave : Bool) :
    d.Timed (d.recordFault realm e write cls source work noSave).1 := by
  have hset : ∀ x : Xlat, d.Timed { d with xlat := x } := fun _ => Dev.timed_of rfl rfl
  unfold Dev.recordFault
  extract_lets id access x src d1 d2 d3 d4 d5
  have hring : d.Timed d3 := ((hset _).trans (Dev.inc_timed _ _ _)).trans (Dev.faultRing_timed _ _)
  have hlog : d3.Timed d5 := (Dev.raise_timed _ _ _ _ _ _ _).trans (Dev.trace_timed _ _ _ _ _ _ _)
  exact (hring.trans hlog).trans (Dev.Timed.ite ((Dev.inc_timed _ _ _).trans (Dev.trace_timed _ _ _ _ _ _ _)) (.refl _))

/-! ### DMA channels -/

theorem Dev.Stopped.timed (h : d.Stopped e) : d.Timed e := Dev.timed_of (by rw [h]) (by rw [h])

theorem Dev.moveBytes_timed (x : DmaDesc) (hostErr : Bool) (ue : Option Nat) (n k : Nat) (d : Dev) : d.Timed (Dev.moveBytes x hostErr ue n k d).dev := by
  induction n generalizing k d with
  | zero => exact .refl d
  | succ n ih =>
    have hwrite : ∀ t a b, d.Timed (d.targetWrite t a b) := fun t a b => by
      rw [Dev.targetWrite_eq]
      exact Dev.timed_of rfl rfl
    unfold Dev.moveBytes
    split
    · exact .refl d
    · split
      · exact .refl d
      · exact (Dev.Timed.ite (.refl d) (hwrite _ _ _)).trans (ih _ _)

theorem Dev.chFault_timed (d : Dev) (ch realm : Nat) (e : XErr) (write : Bool) (done : Nat) : d.Timed (d.chFault ch realm e write done) := by
  have hset : ∀ (x : Dev) (y : DmaCh), x.Timed ((x.freeMover ch).setDch ch y) := fun _ _ => Dev.timed_of rfl rfl
  exact ((d.recordFault_timed _ _ _ _ _ _ _).trans (hset _ _)).trans (Dev.raise_timed _ _ _ _ _ _ _)

theorem Dev.uncorrected_timed (d : Dev) (p : Nat) : d.Timed (d.uncorrected p) := by
  unfold Dev.uncorrected
  exact Dev.Timed.ite ((d.inc_timed _ _).trans (Dev.raise_timed _ _ _ _ _ _ _)) (.refl d)

theorem Dev.chRun_timed (d : Dev) (ch : Nat) (hostErr : Bool) (ue : Option Nat) : d.Timed (d.chRun ch hostErr ue) := by
  have hset : ∀ (x : Dev) (y : DmaCh), x.Timed (x.setDch ch y) := fun _ _ => Dev.timed_of rfl rfl
  unfold Dev.chRun
  extract_lets c x realms r y n src host d' d''
  have hbytes : d.Timed y := Dev.moveBytes_timed _ _ _ _ _ _
  have hhost : y.Timed d' := Dev.Timed.ite ((Dev.inc_timed _ _ _).trans (Dev.raise_timed _ _ _ _ _ _ _)) (.refl _)
  have hburst : d'.Timed d'' := by
    unfold d''
    split
    · exact Dev.Timed.ite (Dev.uncorrected_timed _ _) (.refl _)
    · exact .refl _
  have hmoved := (hbytes.trans hhost).trans hburst
  clear_value d''
  refine Dev.Timed.ite (hset _ _) (Dev.Timed.ite (Dev.chFault_timed _ _ _ _ _ _) (Dev.Timed.ite (Dev.chFault_timed _ _ _ _ _ _)
    (Dev.Timed.ite (hset _ _) (Dev.Timed.ite (hset _ _) ?_))))
  split
  · exact hmoved.trans (Dev.chFault_timed _ _ _ _ _ _)
  · exact hmoved.trans (hset _ _)

theorem Dev.setDch_timed (d : Dev) (ch : Nat) (x : DmaCh) : d.Timed (d.setDch ch x) := Dev.timed_of rfl rfl

theorem Dev.chRetry_timed (d : Dev) (ch : Nat) : d.Timed (d.chRetry ch) := by
  unfold Dev.chRetry
  exact ((d.closeOf_stopped _ _).timed.trans (Dev.setDch_timed _ _ _)).trans (Dev.chRun_timed _ _ _ _)

theorem Dev.chAbort_timed (d : Dev) (ch : Nat) : d.Timed (d.chAbort ch) := by
  unfold Dev.chAbort
  exact ((d.closeOf_stopped _ _).timed.trans (Dev.setDch_timed _ _ _)).trans (Dev.chEnd_stopped _ _).timed

/-! ### The ends of jobs and streams -/

theorem Dev.geEvent_timed (d : Dev) (p b : Nat) (x y : Word) : d.Timed (d.geEvent p b x y) := d.raise_timed _ _ _ _ _ _
theorem Dev.jobItem_timed (d : Dev) (ev : Nat) (w : Option Word) : d.Timed (d.jobItem ev w) := by
  have hfree : d.Timed d.tickFree.tickFree := Dev.timed_of rfl rfl
  unfold Dev.jobItem
  exact Dev.Timed.ite (.refl d) (hfree.trans (Dev.trace_timed _ _ _ _ _ _ _))
theorem Dev.geTrace_timed (d : Dev) (l ev stream : Nat) (dec : Bool) (row : Nat) (x y : Word) : d.Timed (d.geTrace l ev stream dec row x y) := by
  unfold Dev.geTrace
  exact (Dev.Timed.ite (.refl d) (d.jobItem_timed _ _)).trans (Dev.trace_timed _ _ _ _ _ _ _)
theorem Dev.setEncS_timed (d : Dev) (i : Nat) (x : EncStream) : d.Timed (d.setEncS i x) := Dev.timed_of rfl rfl
theorem Dev.setDecS_timed (d : Dev) (i : Nat) (x : DecStream) : d.Timed (d.setDecS i x) := Dev.timed_of rfl rfl
theorem Dev.unhold_timed (d : Dev) (k o : Nat) : d.Timed (d.unhold k o) := Dev.timed_of rfl rfl
theorem Dev.freshLayers_timed (d : Dev) (x : EncDesc) : d.Timed (d.freshLayers x) := Dev.timed_of rfl rfl

theorem Dev.geRelease_timed (d : Dev) (l : Nat) : d.Timed (d.geRelease l) := by
  have hset : d.Timed (d.setGeRun l none) := Dev.timed_of rfl rfl
  have hpage : ∀ (x : Dev) p f, x.Timed (x.onPage p f) := fun _ _ _ => Dev.timed_of rfl rfl
  exact hset.trans (Dev.timed_foldl _ (fun x p => Dev.Timed.ite ((hpage x _ _).trans (Dev.finish_timed _ _ _ _ _ _)) (.refl x)) _ _)

theorem Dev.encStatus_timed (d : Dev) (i result : Nat) : d.Timed (d.encStatus i result) := by
  unfold Dev.encStatus
  dsimp only
  split
  · exact .refl d
  · exact (((Dev.Timed.ite ((d.inc_timed _ _).trans (Dev.geEvent_timed _ _ _ _ _)) (.refl d)).trans (Dev.writeVa_timed _ _ _ _)).trans
      (Dev.geTrace_timed _ _ _ _ _ _ _ _)).trans (Dev.setEncS_timed _ _ _)

theorem Dev.encIdle_timed (d : Dev) (i : Nat) : d.Timed (d.encIdle i) := by
  unfold Dev.encIdle
  dsimp only
  split
  · exact (((Dev.Timed.ite (d.freshLayers_timed _) (.refl d)).trans (Dev.setEncS_timed _ _ _)).trans (Dev.unhold_timed _ _ _)).trans (Dev.finish_timed _ _ _ _ _ _)
  · exact .refl d

theorem Dev.encClose_timed (d : Dev) (i : Nat) : d.Timed (d.encClose i) := by
  unfold Dev.encClose
  extract_lets x lost e y
  have hend : d.Timed e := by
    unfold e
    split
    · split
      · exact (d.closeFault_timed _ _).trans (Dev.encStatus_timed _ _ _)
      · exact .refl d
    · exact .refl d
  exact (hend.trans (Dev.setEncS_timed _ _ _)).trans (Dev.encIdle_timed _ _)

theorem Dev.encEnd_timed (d : Dev) (i result : Nat) : d.Timed (d.encEnd i result) := by
  unfold Dev.encEnd
  dsimp only
  split
  · exact .refl d
  · have hleft := (d.encStatus_timed i result).trans (Dev.setEncS_timed _ i { (d.encStatus i result).encS i with jobs := ((d.encStatus i result).encS i).jobs.drop 1 })
    exact (hleft.trans (Dev.Timed.ite (Dev.geRelease_timed _ _) (.refl _))).trans (Dev.Timed.ite (Dev.encClose_timed _ _) (Dev.encIdle_timed _ _))

theorem Dev.decStatus_timed (d : Dev) (i : Nat) (m : DecMarks) : d.Timed (d.decStatus i m) := by
  unfold Dev.decStatus
  dsimp only
  split
  · exact .refl d
  · exact (((Dev.Timed.ite ((d.inc_timed _ _).trans (Dev.geEvent_timed _ _ _ _ _)) (.refl d)).trans (Dev.writeVa_timed _ _ _ _)).trans
      (Dev.geTrace_timed _ _ _ _ _ _ _ _)).trans (Dev.setDecS_timed _ _ _)

theorem Dev.decIdle_timed (d : Dev) (i : Nat) : d.Timed (d.decIdle i) := by
  unfold Dev.decIdle
  dsimp only
  split
  · exact ((d.setDecS_timed _ _).trans (Dev.unhold_timed _ _ _)).trans (Dev.finish_timed _ _ _ _ _ _)
  · exact .refl d

theorem Dev.decClose_timed (d : Dev) (i : Nat) : d.Timed (d.decClose i) := by
  unfold Dev.decClose
  extract_lets x lost e y
  have hend : d.Timed e := by
    unfold e
    split
    · split
      · exact (d.closeFault_timed _ _).trans (Dev.decStatus_timed _ _ _)
      · exact .refl d
    · exact .refl d
  exact (hend.trans (Dev.setDecS_timed _ _ _)).trans (Dev.decIdle_timed _ _)

theorem Dev.decEnd_timed (d : Dev) (i : Nat) (m : DecMarks) : d.Timed (d.decEnd i m) := by
  unfold Dev.decEnd
  dsimp only
  split
  · exact .refl d
  · have hleft := (d.decStatus_timed i m).trans (Dev.setDecS_timed _ i { (d.decStatus i m).decS i with jobs := ((d.decStatus i m).decS i).jobs.drop 1 })
    exact (hleft.trans (Dev.Timed.ite (Dev.geRelease_timed _ _) (.refl _))).trans (Dev.Timed.ite (Dev.decClose_timed _ _) (Dev.decIdle_timed _ _))

/-! ### The work of a fault -/

theorem Dev.setGcore_timed (d : Dev) (k : Nat) (x : Core) : d.Timed (d.setGcore k x) := Dev.timed_of rfl rfl

theorem Dev.xferFault_timed (d : Dev) (core : Nat) (e : XErr) : d.Timed (d.xferFault core e) := by
  unfold Dev.xferFault
  exact (d.recordFault_timed _ _ _ _ _ _ _).trans (Dev.setGcore_timed _ _ _)

/-- The work of a fault abandoned. -/
theorem Dev.abandon_timed (d : Dev) (x : XFault) (how : Nat) : d.Timed (d.abandon x how) := by
  unfold Dev.abandon
  have hclose : d.Timed ((d.closeFault x.id how).inc pgXlat 0x0A0) := (d.closeFault_timed _ _).trans (Dev.inc_timed _ _ _)
  refine hclose.trans ?_
  split
  · exact Dev.Timed.ite (Dev.chAbort_timed _ _) (.refl _)
  · exact Dev.Timed.ite (Dev.encEnd_timed _ _ _) (.refl _)
  · exact Dev.Timed.ite ((Dev.setDecS_timed _ _ _).trans (Dev.decEnd_timed _ _ _)) (.refl _)
  · exact Dev.Timed.ite (Dev.setGcore_timed _ _ _) (.refl _)
  · exact .refl _

/-- The work of a fault retried. -/
theorem Dev.retry_timed (d : Dev) (x : XFault) : d.Timed (d.retry x).1 := by
  unfold Dev.retry
  dsimp only
  refine (d.closeFault_timed x.id 0).trans ?_
  split
  · exact Dev.Timed.ite (Dev.chRetry_timed _ _) (.refl _)
  · split
    · split
      · split
        · exact Dev.setEncS_timed _ _ _
        · exact ((Dev.setEncS_timed _ _ _).trans (Dev.recordFault_timed _ _ _ _ _ _ _ _)).trans (Dev.setEncS_timed _ _ _)
      · exact .refl _
    · exact .refl _
  · split
    · split
      · split
        · exact Dev.setDecS_timed _ _ _
        · exact ((Dev.setDecS_timed _ _ _).trans (Dev.recordFault_timed _ _ _ _ _ _ _ _)).trans (Dev.setDecS_timed _ _ _)
      · exact .refl _
    · exact .refl _
  · split
    · split
      · exact Dev.setGcore_timed _ _ _
      · exact (Dev.setGcore_timed _ _ _).trans (Dev.xferFault_timed _ _ _)
    · exact .refl _
  · exact .refl _

end Sys2Proof.Machine
end

section
/-! The commands over translation faults, and FAULT_BASE (R731 to R736, R747): O46. -/

namespace Sys2Proof.Machine
open Sys2Proof

variable {s : State} {c : HostCmd} {o : OpSpec} {d e : Dev} {x : XFault} {id k : Nat} {v : Word}

/-! ### A command whose work takes no time -/

/-- An accepted command that ends with OK, whose work takes no time and resets no ring. -/
theorem Accepts.okTimed (h : Accepts o c s) {n : Nat} (he : o.effect c s = (s.setDev d, .done .ok n d.short)) (ht : s.dev.Timed d) :
    ∃ e, runCmd o c s = (s.setDev d).setDev e ∧ Ends ((s.setDev d).setDev e) s c (o.okOr c s) (n % 65536) s.dev.short ∧ d.Completed e ∧
      ∀ p b, p ≠ pgObs → b < 4096 → e.counter p b = d.counter p b := by
  have hshort : d.short = s.dev.short := by rw [Dev.short, Dev.now, ht.clk, Dev.short, Dev.now]
  have hdone := d.complete_completed (o.token c s) (o.okOr c s) n d.short
  obtain ⟨hout, hcount⟩ := d.complete_direct (k := o.token c s) rfl (ht.gen _ _) (o.okOr c s) n d.short
  refine ⟨d.complete (o.token c s) (o.okOr c s) n d.short, ?_, ⟨?_, hdone.clk.trans ht.clk⟩, hdone, hcount⟩
  · rw [h.runs, OpSpec.done, he]
    rfl
  · rw [State.setDev_dev, hout, hshort]
    simp [OpSpec.token]

/-! ### Faults by their number -/

theorem Dev.fault_id (h : d.fault id = some x) : x.id = id := by simpa using List.find?_some h

theorem Dev.fault_congr (h : e.xlat = d.xlat) (id : Nat) : e.fault id = d.fault id := by rw [Dev.fault, h]; rfl

theorem Dev.xlat_closeFault (d : Dev) (id how : Nat) :
    (d.closeFault id how).xlat = { d.xlat with faults := d.xlat.faults.map (fun x => if x.id = id then { x with isOpen := false } else x) } := by
  unfold Dev.closeFault
  dsimp only
  split
  · exact (Dev.trace_noted _ _ _ _ _ _ _).xlat
  · rfl

theorem Dev.fault_closeFault (how : Nat) (h : d.fault id = some x) : (d.closeFault id how).fault id = some { x with isOpen := false } := by
  have hid : ∀ y : XFault, (if y.id = id then { y with isOpen := false } else y).id = y.id := fun y => by split <;> rfl
  have hfind : (d.xlat.faults.map fun x => if x.id = id then { x with isOpen := false } else x).reverse.find? (fun x => x.id == id) =
      (d.fault id).map fun x => if x.id = id then { x with isOpen := false } else x := by
    rw [← List.map_reverse, List.find?_map]
    refine congrArg (Option.map _) (congrArg (fun f => List.find? f d.xlat.faults.reverse) (funext fun y => ?_))
    rw [Function.comp_apply, hid]
  rw [Dev.fault, Dev.xlat_closeFault, hfind, h, Option.map_some, if_pos (Dev.fault_id h)]

/-! ### FAULT_RESUME and FAULT_ABORT -/

/-- The fault that an accepted command names is recorded. -/
theorem Accepts.faultNamed (h : Accepts o c s) (ho : o.checks c s = faultChecks c s) : ∃ x, s.dev.fault (c.arg 0 2) = some x := by
  cases hx : s.dev.fault (c.arg 0 2) with
  | some x => exact ⟨x, rfl⟩
  | none =>
    have hnone := h.conflicts (k := 1) (b := true) (by rw [ho, faultChecks, hx]; exact List.mem_singleton_self _)
    cases hnone

theorem Accepts.faultResume (h : Accepts faultResumeSpec c s) (hx : s.dev.fault (c.arg 0 2) = some x) : ∃ u m, exec (.faultResume c) s = .next u ∧ m ≤ 1 ∧
    Ends u s c (faultResumeSpec.okOr c s) m s.dev.short ∧ ∀ k, u.dev.fault k = (s.dev.retry x).1.fault k := by
  have heff : faultResumeSpec.effect c s = (s.setDev (s.dev.retry x).1, .done .ok (if (s.dev.retry x).2 then 1 else 0) (s.dev.retry x).1.short) := by
    simp only [OpSpec.effect, faultResumeSpec, devRun, hx]
    rfl
  obtain ⟨e, hrun, hends, hdone, -⟩ := h.okTimed heff (s.dev.retry_timed x)
  rw [Nat.mod_eq_of_lt (by split <;> decide)] at hends
  exact ⟨_, _, congrArg Host.Outcome.next hrun, by split <;> decide, hends, Dev.fault_congr hdone.xlat⟩

theorem Accepts.faultAbort (h : Accepts faultAbortSpec c s) (hx : s.dev.fault (c.arg 0 2) = some x) : ∃ u, exec (.faultAbort c) s = .next u ∧
    Ends u s c (faultAbortSpec.okOr c s) 0 s.dev.short ∧ (∀ k, u.dev.fault k = (s.dev.abandon x 1).fault k) ∧
    u.dev.counter pgXlat 0x0A0 = (s.dev.abandon x 1).counter pgXlat 0x0A0 := by
  have heff : faultAbortSpec.effect c s = (s.setDev (s.dev.abandon x 1), .done .ok 0 (s.dev.abandon x 1).short) := by
    simp only [OpSpec.effect, faultAbortSpec, devRun, hx]
    rfl
  obtain ⟨e, hrun, hends, hdone, hcount⟩ := h.okTimed heff (s.dev.abandon_timed x 1)
  exact ⟨_, congrArg Host.Outcome.next hrun, hends, Dev.fault_congr hdone.xlat, hcount _ _ (by decide) (by decide)⟩

theorem Dev.retry_none (h : d.fault id = some x) (hw : x.work = .none) : (d.retry x).1.fault id = some { x with isOpen := false } := by
  have heq : (d.retry x).1 = d.closeFault id 0 := by
    unfold Dev.retry
    rw [hw, ← Dev.fault_id h]
  rw [heq]
  exact Dev.fault_closeFault 0 h

/-- A fault that halts no work, abandoned: it is CLOSED and counted. -/
theorem Dev.abandon_none (how : Nat) (h : d.fault id = some x) (hw : x.work = .none) : (d.abandon x how).fault id = some { x with isOpen := false } ∧
    (d.abandon x how).counter pgXlat 0x0A0 = d.counter pgXlat 0x0A0 + 1 := by
  have heq : d.abandon x how = (d.closeFault id how).inc pgXlat 0x0A0 := by
    unfold Dev.abandon
    rw [hw, ← Dev.fault_id h]
  have hcount : (d.closeFault id how).counter pgXlat 0x0A0 = d.counter pgXlat 0x0A0 := by
    unfold Dev.closeFault
    dsimp only
    split
    · exact Dev.counter_trace _ _ _ _ _ _ _ (by decide) (by decide)
    · rfl
  rw [heq, Dev.counter_inc_same, hcount]
  exact ⟨Dev.fault_closeFault how h, rfl⟩

/-! ### FAULT_TIMEOUT (R735) -/

theorem Dev.faultTimeout_due (h : d.fault id = some x) (ho : x.isOpen = true) (hms : fld (d.reg pgXlat 0x058) 0 16 ≠ 0)
    (hdue : x.time + fld (d.reg pgXlat 0x058) 0 16 * msT ≤ d.now) :
    d.faultTimeout id = (d.abandon x 2).raise pgXlat 4 0x002 0x0D05 (fmk 0 16 id ||| fmk 16 4 x.code ||| fmk 24 6 x.realm) (fmk 0 64 x.va) := by
  unfold Dev.faultTimeout
  dsimp only
  rw [h]
  refine if_neg ?_
  rw [ho, beq_false_of_ne hms, decide_eq_false (Nat.not_lt.2 hdue)]
  exact Bool.false_ne_true

theorem Dev.faultTimeout_waits (h : ∀ x, d.fault id = some x → x.isOpen = false ∨ fld (d.reg pgXlat 0x058) 0 16 = 0 ∨ d.now < x.time + fld (d.reg pgXlat 0x058) 0 16 * msT) :
    d.faultTimeout id = d := by
  unfold Dev.faultTimeout
  dsimp only
  cases hx : d.fault id with
  | none => rfl
  | some x =>
    refine if_pos ?_
    simp only [Bool.or_eq_true, Bool.not_eq_true', beq_iff_eq, decide_eq_true_eq, or_assoc]
    exact h x hx

/-! ### FAULT_BASE (R747, R854) -/

theorem xlat_faultBase : ∃ g, PType.xlat.regAt 0x050 = some g ∧ g.rws = false ∧ FieldsApart g.flds ∧ (⟨0, 1, .rw, 0, .any⟩ : Fld) ∈ g.flds ∧
    (⟨16, 32, .rw, 0, .any⟩ : Fld) ∈ g.flds :=
  ⟨_, rfl, rfl, by unfold FieldsApart; decide, by decide, by decide⟩

theorem Dev.mergeAt_faultBase (d : Dev) (v : Word) : bit (d.mergeAt pgXlat 0x050 v).1 0 = bit v 0 ∧ fld (d.mergeAt pgXlat 0x050 v).1 16 32 = fld v 16 32 := by
  obtain ⟨g, hg, -, hapart, hen, hbase⟩ := xlat_faultBase
  rw [mergeAt_of_regAt rfl hg]
  exact ⟨bit_mergeFields_any hapart hen, fld_mergeFields_any hapart hbase⟩

/-- The word that FAULT_BASE takes: its base as it was while ENABLE is 1, and ENABLE 1 only over a PINNED ring. -/
def Dev.faultBaseWord (d : Dev) (v : Word) : Word :=
  let old := d.reg pgXlat 0x050
  let m := (d.mergeAt pgXlat 0x050 v).1
  let w := if bit old 0 && fld m 16 32 != fld old 16 32 then setFld m 16 32 (fld old 16 32) else m
  if bit w 0 && !bit old 0 && !d.pinned 0 (fld w 16 32 * 65536) 32768 then setFld w 0 1 0 else w

theorem Dev.faultBaseWrite_regOnly (d : Dev) (v : Word) : (d.setReg pgXlat 0x050 (d.faultBaseWord v)).RegOnly (d.faultBaseWrite v) := by
  have herr : ∀ (x : Dev) (q : Bool), x.RegOnly (if q then x.err pgXlat .badState else x) ∧ (if q then x.err pgXlat .badState else x).xlat = x.xlat := fun x q => by
    cases q
    · exact ⟨.refl x, rfl⟩
    · exact ⟨(Dev.err_noted _ _ _).regOnly, rfl⟩
  have hset : ∀ (x y : Dev) (w : Word), x.RegOnly y → (x.setReg pgXlat 0x050 w).RegOnly (y.setReg pgXlat 0x050 w) := fun x y w hxy => by
    refine ⟨?_, hxy.2⟩
    rw [Dev.setReg, Dev.setReg, hxy.1]
  unfold Dev.faultBaseWrite
  extract_lets old m d1 moved d2 w refuse w' d3 d4
  have hd1 : d.RegOnly d1 := (Dev.errs_noted _ _ _).regOnly
  have hx1 : d1.xlat = d.xlat := (Dev.errs_noted d pgXlat m.2).xlat
  obtain ⟨hd2, hx2⟩ := herr d1 moved
  have hpinned : d2.pinned 0 (fld w 16 32 * 65536) 32768 = d.pinned 0 (fld w 16 32 * 65536) 32768 := by
    unfold Dev.pinned Dev.pinnedPage
    rw [show d2.xlat = d.xlat from hx2.trans hx1]
  have hword : d.faultBaseWord v = w' := by
    unfold w' refuse
    rw [hpinned]
    rfl
  rw [hword]
  have hlast := (hset d d3 w' ((hd1.trans hd2).trans (herr d2 refuse).1)).trans (Dev.unhold_regOnly _ holdFaultRing 0)
  exact .ite (hlast.trans (Dev.hold_regOnly _ _ _ _ _ _)) hlast

theorem Dev.faultBaseWord_off (hoff : bit (d.reg pgXlat 0x050) 0 = false) :
    bit (d.faultBaseWord v) 0 = (bit v 0 && d.pinned 0 (fld v 16 32 * 65536) 32768) ∧ fld (d.faultBaseWord v) 16 32 = fld v 16 32 := by
  obtain ⟨hbit, hbase⟩ := d.mergeAt_faultBase v
  unfold Dev.faultBaseWord
  simp only [hoff, Bool.false_and, Bool.false_eq_true, if_false, Bool.not_false, Bool.and_true, hbit, hbase]
  cases hv : bit v 0
  · simp only [Bool.false_and, Bool.false_eq_true, if_false]
    exact ⟨hbit.trans hv, hbase⟩
  · cases d.pinned 0 (fld v 16 32 * 65536) 32768
    · simp only [Bool.true_and, Bool.not_false, if_true]
      exact ⟨bit_setFld_self _ _ (by decide), (fld_setFld_apart _ _ (by decide) (by decide)).trans hbase⟩
    · simp only [Bool.true_and, Bool.not_true, Bool.false_eq_true, if_false]
      exact ⟨hbit.trans hv, hbase⟩

theorem Dev.faultBaseWord_on (hon : bit (d.reg pgXlat 0x050) 0 = true) :
    bit (d.faultBaseWord v) 0 = bit v 0 ∧ fld (d.faultBaseWord v) 16 32 = fld (d.reg pgXlat 0x050) 16 32 := by
  obtain ⟨hbit, hbase⟩ := d.mergeAt_faultBase v
  unfold Dev.faultBaseWord
  simp only [hon, Bool.true_and, Bool.not_true, Bool.and_false, Bool.false_and, Bool.false_eq_true, if_false]
  split
  · exact ⟨(bit_setFld_apart _ _ (by decide) (.inl (by decide))).trans hbit,
      (fld_setFld_same _ _ (by decide)).trans (Nat.mod_eq_of_lt (fld_lt _ _ _))⟩
  next h => exact ⟨hbit, by simpa using h⟩

theorem Writable.exec_faultBase (h : Writable s pgXlat) (v : Word) : exec (.faultBaseWrite v) s = .next ((s.setDev s.dev).setDev (s.dev.faultBaseWrite v)) := by
  obtain ⟨g, hg, hrws, -⟩ := xlat_faultBase
  have hlive : (s.setDev s.dev).liveWrite pgXlat .xlat g 0x050 v = (s.setDev s.dev).onDev fun d => d.faultBaseWrite v := by
    simp only [State.liveWrite]
    rw [if_pos trivial]
  exact congrArg Host.Outcome.next (h.hostWrite_live (t := .xlat) rfl hg hrws rfl (by decide) (by decide) hlive (s.dev.faultBaseWrite_regOnly v).2)

theorem Writable.faultBase (h : Writable s pgXlat) (v : Word) : ∃ u, exec (.faultBaseWrite v) s = .next u ∧ u.dev.reg pgXlat 0x050 = s.dev.faultBaseWord v :=
  ⟨_, h.exec_faultBase v, by rw [State.setDev_dev, (s.dev.faultBaseWrite_regOnly v).reg, Dev.reg_setReg, if_pos rfl]⟩

/-! ### The statement -/

theorem faultCommands : FaultCommands := by
  intro s c
  have htimeout := fun id (hready : s.ready = true) => exec_actReady (s := s) (i := .faultTimeout id) (f := fun d => d.faultTimeout id) rfl hready
  refine ⟨fun h => ⟨?_, fun x hx hw => ?_⟩, fun h => ⟨?_, fun x hx hw => ?_⟩, fun id x hready hx ho hms => ⟨fun hdue => ⟨_, htimeout id hready, ?_⟩, fun hnot => ?_⟩,
    fun id hready hms => ?_, fun v hw => ⟨fun hoff => ?_, fun hon => ?_⟩⟩
  · obtain ⟨x, hx⟩ := h.faultNamed rfl
    obtain ⟨u, m, hrun, hm, hends, -⟩ := h.faultResume hx
    exact ⟨u, m, hrun, hm, hends⟩
  · obtain ⟨u, m, hrun, -, -, hfault⟩ := h.faultResume hx
    exact ⟨u, hrun, (hfault _).trans (Dev.retry_none hx hw)⟩
  · obtain ⟨x, hx⟩ := h.faultNamed rfl
    obtain ⟨u, hrun, hends, -⟩ := h.faultAbort hx
    exact ⟨u, hrun, hends⟩
  · obtain ⟨u, hrun, -, hfault, hcount⟩ := h.faultAbort hx
    obtain ⟨hclosed, hcounted⟩ := Dev.abandon_none 1 hx hw
    exact ⟨u, hrun, (hfault _).trans hclosed, hcount.trans hcounted⟩
  · rw [State.setDev_dev, Dev.faultTimeout_due hx ho hms hdue]
    refine ⟨Dev.raise_bit _ _ _ _ _ _ _ (by decide), fun hw => ?_⟩
    rw [Dev.fault_congr (Dev.raise_noted _ _ _ _ _ _ _).xlat]
    exact (Dev.abandon_none 2 hx hw).1
  · rw [htimeout id hready]
    refine congrArg Host.Outcome.next (congrArg s.setDev (Dev.faultTimeout_waits fun y hy => ?_))
    rw [hx] at hy
    cases hy
    exact .inr (.inr hnot)
  · rw [htimeout id hready]
    exact congrArg Host.Outcome.next (congrArg s.setDev (Dev.faultTimeout_waits fun y hy => .inr (.inl hms)))
  · obtain ⟨u, hrun, hreg⟩ := hw.faultBase v
    refine ⟨u, hrun, ?_⟩
    rw [hreg]
    exact Dev.faultBaseWord_off hoff
  · obtain ⟨u, hrun, hreg⟩ := hw.faultBase v
    refine ⟨u, hrun, ?_⟩
    rw [hreg]
    exact Dev.faultBaseWord_on hon

/-- Settles O46: mappings, and the faults that translation meets. -/
theorem translationCommands : Obligations.TranslationCommands :=
  ⟨fun _ _ => Accepts.xlatMap, fun _ _ => ⟨Accepts.xlatUnmap, Accepts.xlatProtect, Accepts.xlatQuery⟩, faultCommands⟩

end Sys2Proof.Machine
end

section
/-! The canonical form of the three memories (chapter 15, log entry 2): O60. -/

namespace Sys2Proof.Machine
open Sys2Proof

variable {s : State} {c : HostCmd} {d e f : Dev}

/-! ### Changes that keep the form -/

/-- The change keeps the canonical form of the three memories. -/
def Dev.MemKept (d e : Dev) : Prop := d.memOk → e.memOk

theorem Dev.MemKept.refl (d : Dev) : d.MemKept d := id
theorem Dev.MemKept.trans (h : d.MemKept e) (k : e.MemKept f) : d.MemKept f := fun hd => k (h hd)
theorem Dev.MemKept.ite {q : Prop} [Decidable q] (h : d.MemKept e) (k : d.MemKept f) : d.MemKept (if q then e else f) := by
  split
  · exact h
  · exact k
theorem Dev.memKept_of_mem (h : e.mem = d.mem) : d.MemKept e := fun hd => Dev.memOk_of_mem hd h
theorem Dev.memKept_foldl {α : Type} (g : Dev → α → Dev) (h : ∀ (d : Dev) (x : α), d.MemKept (g d x)) (l : List α) (d : Dev) : d.MemKept (l.foldl g d) := by
  induction l generalizing d with
  | nil => exact .refl d
  | cons x t ih => exact (h d x).trans (ih _)
theorem Dev.Told.memKept (h : d.Told e) : d.MemKept e := Dev.memKept_of_mem h.mem
theorem Dev.Noted.memKept (h : d.Noted e) : d.MemKept e := h.told.memKept

/-! ### Memory (R25) -/

theorem memWritesBut_wf (skip : Nat → Bool) (m : List Host.Cell) (a : Nat) (l : List Byte) (h : Memory.wf m = true) : Memory.wf (memWritesBut skip m a l) = true := by
  induction l generalizing m a with
  | nil => exact h
  | cons b t ih =>
    unfold memWritesBut
    split
    · exact ih _ _ h
    · exact ih _ _ (memWrite_wf m a b h)

theorem Dev.physWrites_memKept (d : Dev) (a : Nat) (b : List Byte) : d.MemKept (d.physWrites a b) := fun ⟨hdram, hhost, hslab⟩ =>
  ⟨memWritesBut_wf _ _ _ _ hdram, hhost, hslab⟩

/-- A memory is canonical while its addresses ascend and none of its bytes is 0. -/
theorem memory_wf_iff (m : List Host.Cell) : Memory.wf m = true ↔ m.Pairwise (fun x y => x.1 < y.1) ∧ ∀ x ∈ m, x.2 ≠ 0 := by
  induction m with
  | nil => simp [Memory.wf, tabWf]
  | cons x t ih =>
    obtain ⟨j, a⟩ := x
    rw [Memory.wf, tabWf_cons, ih, List.pairwise_cons, List.forall_mem_cons]
    exact ⟨fun ⟨ha, hj, hp, hz⟩ => ⟨⟨hj, hp⟩, ha, hz⟩, fun ⟨⟨hj, hp⟩, ha, hz⟩ => ⟨ha, hj, hp, hz⟩⟩

/-- A stretch of a memory that new bytes replace. -/
theorem memory_wf_splice {m new : List Host.Cell} {lo hi : Nat} (hm : Memory.wf m = true) (hnew : new.Pairwise fun x y => x.1 < y.1)
    (hin : ∀ x ∈ new, lo ≤ x.1 ∧ x.1 < hi ∧ x.2 ≠ 0) (hle : lo ≤ hi) :
    Memory.wf (m.filter (fun e => decide (e.1 < lo)) ++ new ++ m.filter (fun e => decide (hi ≤ e.1))) = true := by
  obtain ⟨hsorted, hz⟩ := (memory_wf_iff m).1 hm
  have hlow : ∀ x ∈ m.filter (fun e => decide (e.1 < lo)), x ∈ m ∧ x.1 < lo := fun x hx => by simpa using List.mem_filter.1 hx
  have hhigh : ∀ x ∈ m.filter (fun e => decide (hi ≤ e.1)), x ∈ m ∧ hi ≤ x.1 := fun x hx => by simpa using List.mem_filter.1 hx
  refine (memory_wf_iff _).2 ⟨?_, fun x hx => ?_⟩
  · refine List.pairwise_append.2 ⟨List.pairwise_append.2 ⟨hsorted.filter _, hnew, fun x hx y hy => ?_⟩, hsorted.filter _, fun x hx y hy => ?_⟩
    · exact Nat.lt_of_lt_of_le (hlow x hx).2 (hin y hy).1
    · refine Nat.lt_of_lt_of_le ?_ (hhigh y hy).2
      rcases List.mem_append.1 hx with hx | hx
      · exact Nat.lt_of_lt_of_le (hlow x hx).2 hle
      · exact (hin x hx).2.1
  · rcases List.mem_append.1 hx with hx | hx
    · rcases List.mem_append.1 hx with hx | hx
      · exact hz x (hlow x hx).1
      · exact (hin x hx).2.2
    · exact hz x (hhigh x hx).1

/-- The bytes that a tested slice is left with (R22): any, the model's free values. -/
def freedBytes (lo n free : Nat) : List Host.Cell :=
  ((List.range n).map (fun i => (lo + i, BitVec.ofNat 8 ((Config.freeWord (free + i / 8)).toNat >>> (8 * (i % 8)))))).filter (fun e => decide (e.2 ≠ 0))

theorem Dev.mem_slabFree (d : Dev) (n : Nat) : (d.slabFree n).mem = { d.mem with
    slab := d.mem.slab.filter (fun e => decide (e.1 < n * 0x140000)) ++ freedBytes (n * 0x140000) 0x140000 d.ctl.free ++
      d.mem.slab.filter (fun e => decide (n * 0x140000 + 0x140000 ≤ e.1)) } := rfl

theorem freedBytes_spec (lo n free : Nat) : (freedBytes lo n free).Pairwise (fun x y => x.1 < y.1) ∧ ∀ x ∈ freedBytes lo n free, lo ≤ x.1 ∧ x.1 < lo + n ∧ x.2 ≠ 0 := by
  refine ⟨List.Pairwise.filter _ (List.pairwise_map.2 (List.pairwise_lt_range.imp fun h => Nat.add_lt_add_left h lo)), fun x hx => ?_⟩
  obtain ⟨hmem, hne⟩ := List.mem_filter.1 hx
  obtain ⟨i, hi, rfl⟩ := List.mem_map.1 hmem
  exact ⟨Nat.le_add_right _ _, Nat.add_lt_add_left (List.mem_range.1 hi) _, by simpa using hne⟩

theorem Dev.slabFree_memKept (d : Dev) (n : Nat) : d.MemKept (d.slabFree n) := fun ⟨hdram, hhost, hslab⟩ => by
  obtain ⟨hsorted, hin⟩ := freedBytes_spec (n * 0x140000) 0x140000 d.ctl.free
  rw [Dev.memOk, Dev.mem_slabFree]
  exact ⟨hdram, hhost, memory_wf_splice hslab hsorted hin (Nat.le_add_right _ _)⟩

/-! ### Completions -/

theorem Dev.complete_memKept (d : Dev) (k : Token) (st : Status) (n : Nat) (v : Word) : d.MemKept (d.complete k st n v) := d.complete_memOk k st n v

theorem Dev.finish_memKept (d : Dev) (op o : Nat) (st : Status) (n : Nat) (v : Word) : d.MemKept (d.finish op o st n v) := by
  have hwaits : ∀ l, d.MemKept { d with ctl := { d.ctl with waits := l } } := fun _ => Dev.memKept_of_mem rfl
  exact (hwaits _).trans (Dev.memKept_foldl _ (fun d w => d.complete_memKept _ _ _ _) _ _)

/-- What a command makes of the machine keeps the memories' form. -/
def OpSpec.MemKept (o : OpSpec) : Prop := ∀ (c : HostCmd) (l : List Byte) (k : Token) (s : State), s.dev.MemKept (o.run c l k s).1.dev

theorem OpSpec.MemKept.perform {o : OpSpec} (h : o.MemKept) (hrej : ∀ c st d, Dev.MemKept d (o.rejected c st d)) (k : Token) (late : Bool) (data : Option (List Byte)) (s : State) :
    s.dev.MemKept (o.perform k late data s).dev := by
  unfold OpSpec.perform
  split
  · exact (hrej _ _ _).trans (Dev.refuse_memOk _ _ _ _)
  · have hrun := h k.cmd (data.getD []) k s
    unfold answer
    split
    · exact hrun.trans (Dev.MemKept.ite (Dev.complete_memKept _ _ _ _ _) (Dev.refuse_memOk _ _ _ _))
    · exact hrun.trans (Dev.memKept_of_mem rfl)

theorem Dev.sendCommand_mem (d : Dev) (op : Nat) (c : HostCmd) (t : Time) (l : List Byte) : (d.sendCommand op c t l).mem = d.mem := by
  rw [Dev.sendCommand_linked]

theorem Dev.restartBoundary_mem (d : Dev) (t : Time) : (d.restartBoundary t).1.mem = d.mem := by
  unfold Dev.restartBoundary
  split
  · rfl
  · split
    · rfl
    · dsimp only
      rw [Dev.linkSend_linked]
      rfl

theorem OpSpec.MemKept.runCmd {o : OpSpec} (h : o.MemKept) (hrej : ∀ c st d, Dev.MemKept d (o.rejected c st d)) (c : HostCmd) (s : State) :
    s.dev.MemKept (runCmd o c s).dev := by
  have htake : ∀ (s : State) (k : Token) (l : List Byte), s.dev.MemKept (s.takeOn o k l).dev := fun s k l => by
    unfold State.takeOn
    extract_lets t e b
    have hsent : s.dev.MemKept t.dev := by
      unfold t
      split
      · exact Dev.memKept_of_mem (Dev.sendCommand_mem _ _ _ _ _)
      · exact .refl _
    clear_value t
    refine hsent.trans ?_
    split
    · exact h.perform hrej _ _ _ _
    · refine Dev.memKept_of_mem ?_
      have hheld : ∀ (x : Dev) (a : Accepted), (x.holdCommand a).mem = x.mem := fun _ _ => rfl
      rw [State.setDev_dev, hheld]
      unfold b
      split
      · exact Dev.restartBoundary_mem _ _
      · rfl
  unfold Machine.runCmd State.actAllReady
  split
  · unfold State.process
    dsimp only
    split
    · exact (hrej _ _ _).trans (Dev.refuse_memOk _ _ _ _)
    · exact htake _ _ _
  · exact .refl _

/-! ### The commands that write memory -/

theorem Dev.writeVa_memKept (d : Dev) (r va : Nat) (l : List Byte) : d.MemKept (d.writeVa r va l) := d.writeVa_memOk r va l
theorem Dev.raise_memKept (d : Dev) (p b s c : Nat) (x y : Word) : d.MemKept (d.raise p b s c x y) := (d.raise_told p b s c x y).memKept
theorem Dev.trace_memKept (d : Dev) (c e s : Nat) (x y : Word) (o : Nat) : d.MemKept (d.trace c e s x y o) := (d.trace_told c e s x y o).memKept
theorem Dev.inc_memKept (d : Dev) (p o : Nat) : d.MemKept (d.inc p o) := Dev.memKept_of_mem rfl

theorem Dev.faultRing_memKept (d : Dev) (x : XFault) : d.MemKept (d.faultRing x) := by
  unfold Dev.faultRing
  dsimp only
  split
  · exact (d.inc_memKept _ _).trans (Dev.raise_memKept _ _ _ _ _ _ _)
  · exact (d.writeVa_memKept _ _ _).trans (Dev.memKept_of_mem rfl)

theorem Dev.recordFault_memKept (d : Dev) (realm : Nat) (e : XErr) (write : Bool) (cls source : Nat) (work : FaultWork) (noSave : Bool) :
    d.MemKept (d.recordFault realm e write cls source work noSave).1 := by
  have hset : ∀ x : Xlat, d.MemKept { d with xlat := x } := fun _ => Dev.memKept_of_mem rfl
  unfold Dev.recordFault
  extract_lets id access x src d1 d2 d3 d4 d5
  have hring : d.MemKept d3 := ((hset _).trans (Dev.inc_memKept _ _ _)).trans (Dev.faultRing_memKept _ _)
  have hlog : d3.MemKept d5 := (Dev.raise_memKept _ _ _ _ _ _ _).trans (Dev.trace_memKept _ _ _ _ _ _ _)
  exact (hring.trans hlog).trans (Dev.MemKept.ite ((Dev.inc_memKept _ _ _).trans (Dev.trace_memKept _ _ _ _ _ _ _)) (.refl _))

theorem Dev.chFault_memKept (d : Dev) (ch realm : Nat) (e : XErr) (write : Bool) (done : Nat) : d.MemKept (d.chFault ch realm e write done) := by
  have hset : ∀ (x : Dev) (y : DmaCh), x.MemKept ((x.freeMover ch).setDch ch y) := fun _ _ => Dev.memKept_of_mem rfl
  exact ((d.recordFault_memKept _ _ _ _ _ _ _).trans (hset _ _)).trans (Dev.raise_memKept _ _ _ _ _ _ _)

theorem Dev.uncorrected_memKept (d : Dev) (p : Nat) : d.MemKept (d.uncorrected p) := by
  unfold Dev.uncorrected
  exact Dev.MemKept.ite ((d.inc_memKept _ _).trans (Dev.raise_memKept _ _ _ _ _ _ _)) (.refl d)

theorem Dev.setDch_memKept (d : Dev) (ch : Nat) (x : DmaCh) : d.MemKept (d.setDch ch x) := Dev.memKept_of_mem rfl

theorem Dev.chRun_memKept (d : Dev) (ch : Nat) (hostErr : Bool) (ue : Option Nat) : d.MemKept (d.chRun ch hostErr ue) := by
  unfold Dev.chRun
  extract_lets c x realms r y n src host d' d''
  have hbytes : d.MemKept y := Dev.moveBytes_memOk _ _ _ _ _ _
  have hhost : y.MemKept d' := Dev.MemKept.ite ((Dev.inc_memKept _ _ _).trans (Dev.raise_memKept _ _ _ _ _ _ _)) (.refl _)
  have hburst : d'.MemKept d'' := by
    unfold d''
    split
    · exact Dev.MemKept.ite (Dev.uncorrected_memKept _ _) (.refl _)
    · exact .refl _
  have hmoved := (hbytes.trans hhost).trans hburst
  clear_value d''
  refine Dev.MemKept.ite (Dev.setDch_memKept _ _ _) (Dev.MemKept.ite (Dev.chFault_memKept _ _ _ _ _ _) (Dev.MemKept.ite (Dev.chFault_memKept _ _ _ _ _ _)
    (Dev.MemKept.ite (Dev.setDch_memKept _ _ _) (Dev.MemKept.ite (Dev.setDch_memKept _ _ _) ?_))))
  split
  · exact hmoved.trans (Dev.chFault_memKept _ _ _ _ _ _)
  · exact hmoved.trans (Dev.setDch_memKept _ _ _)

theorem Dev.dmaStart_memKept (d : Dev) (mover : Nat) (hostErr : Bool) (ue : Option Nat) : d.MemKept (d.dmaStart mover hostErr ue) := by
  have hset : ∀ (x : Dma) ch y, d.MemKept (Dev.setDch { d with dma := x } ch y) := fun _ _ _ => Dev.memKept_of_mem rfl
  unfold Dev.dmaStart
  split
  · exact .refl d
  · split
    · exact .refl d
    · exact (hset _ _ _).trans (Dev.chRun_memKept _ _ _ _)

theorem Dev.chEnd_memKept (d : Dev) (ch : Nat) : d.MemKept (d.chEnd ch) := by
  have hcount : ∀ (x : Dev) p o p' o' n, x.MemKept ((x.inc p o).bump p' o' n) := fun _ _ _ _ _ _ => Dev.memKept_of_mem rfl
  have hfree : ∀ (x : Dev) y, x.MemKept ((x.freeMover ch).setDch ch y) := fun _ _ => Dev.memKept_of_mem rfl
  have hoff : ∀ x : Dev, x.MemKept (x.chOffNow ch) := fun _ => Dev.memKept_of_mem rfl
  unfold Dev.chEnd
  dsimp only
  split
  · exact .refl d
  · have hend : ∀ l n (q : Prop) [Decidable q] y, d.MemKept (((if q then
        (((d.writeVa 0 (d.chDesc ch + 32) l).inc (pgDma ch) (chOff ch 0x38)).bump (pgDma ch) (chOff ch 0x30) n).event (pgDma ch) (2 * (ch % 8))
        else (((d.writeVa 0 (d.chDesc ch + 32) l).inc (pgDma ch) (chOff ch 0x38)).bump (pgDma ch) (chOff ch 0x30) n)).freeMover ch).setDch ch y) :=
      fun l n q _ y => (((d.writeVa_memKept 0 (d.chDesc ch + 32) l).trans (hcount _ _ _ _ _ _)).trans
        (Dev.MemKept.ite (Dev.event_told _ _ _).memKept (.refl _))).trans (hfree _ _)
    exact Dev.MemKept.ite ((hend _ _ _ _).trans (hoff _)) (hend _ _ _ _)

theorem Dev.bar4_memKept (d : Dev) (off : Nat) (op : BarOp) : d.MemKept (d.bar4 off op) := by
  unfold Dev.bar4
  dsimp only
  split
  · exact Dev.MemKept.ite (.refl d) (Dev.memKept_of_mem rfl)
  · exact Dev.MemKept.ite (.refl d) (d.physWrites_memKept _ _)

theorem Dev.traceEntryWrite_memKept (d : Dev) : d.MemKept d.traceEntryWrite := by
  have hobs : ∀ (x : Dev) g, x.MemKept (x.onObs g) := fun _ _ => Dev.memKept_of_mem rfl
  have hwrite : ∀ e, d.MemKept (d.traceWrite e) := fun e => by
    unfold Dev.traceWrite
    extract_lets k n d1 d2 d3 d4
    have hbytes : d.MemKept d3 := (((hobs _ _).trans (Dev.physWrites_memKept _ _ _)).trans (hobs _ _)).trans (Dev.inc_memKept _ _ _)
    have hgap : d3.MemKept d4 := Dev.MemKept.ite (Dev.raise_memKept _ _ _ _ _ _ _) (.refl _)
    exact (hbytes.trans hgap).trans (Dev.MemKept.ite (.refl _) ((hobs _ _).trans (Dev.event_told _ _ _).memKept))
  unfold Dev.traceEntryWrite
  split
  · exact .refl d
  · exact Dev.MemKept.ite (.refl d) (hwrite _)

theorem Dev.eccReady_memKept (d : Dev) : d.MemKept d.eccReady := by
  unfold Dev.eccReady
  split
  · exact .refl d
  · exact Dev.MemKept.ite (.refl d) fun ⟨hdram, hhost, hslab⟩ => ⟨tabWf_filter _ _ _ hdram, hhost, hslab⟩

theorem Dev.unitPut_memKept (d : Dev) (st : PState) (u : TestUnit) : d.MemKept (d.unitPut st u) := by
  have hslice : ∀ (n : Nat) (x : Slice), d.MemKept (d.setSlice n x) := fun n x => by
    have hset : d.MemKept { d with mem := { d.mem with slices := tabPutD {} d.mem.slices n x } } := fun h => h
    unfold Dev.setSlice
    exact Dev.MemKept.ite hset (hset.trans (Dev.raise_memKept _ _ _ _ _ _ _))
  cases u with
  | geode p => exact Dev.memKept_of_mem rfl
  | garnet p => exact Dev.memKept_of_mem rfl
  | pipe p => exact Dev.memKept_of_mem rfl
  | lane p => exact .refl d
  | slice n => exact hslice _ _

theorem Dev.laneTestEnd_memKept (d : Dev) (l : Nat) : d.MemKept (d.laneTestEnd l) := by
  unfold Dev.laneTestEnd
  split
  · exact .refl d
  · exact Dev.memKept_of_mem rfl

theorem Dev.bistDone_memKept (d : Dev) (unit failed firstBad : Nat) : d.MemKept (d.bistDone unit failed firstBad) := by
  have hobs : ∀ (x : Dev) g, x.MemKept (x.onObs g) := fun _ _ => Dev.memKept_of_mem rfl
  unfold Dev.bistDone
  split
  next e u _ _ =>
    extract_lets f d1 d2 d3 d4 d5
    have hput : d.MemKept d2 := (hobs _ _).trans (Dev.memKept_foldl _ (fun x y => x.unitPut_memKept _ y) _ _)
    have hleft : d2.MemKept d3 := by
      unfold d3
      split
      · exact Dev.laneTestEnd_memKept _ _
      · exact Dev.MemKept.ite (Dev.slabFree_memKept _ _) (.refl _)
      · exact .refl _
    have hlog : d3.MemKept d5 := (Dev.MemKept.ite (.refl _) (Dev.inc_memKept _ _ _)).trans (Dev.raise_memKept _ _ _ _ _ _ _)
    exact ((hput.trans hleft).trans hlog).trans (Dev.finish_memKept _ _ _ _ _ _)
  next => exact .refl d

theorem settingsRead_memKept : settingsReadSpec.MemKept := fun c _ _ s => by
  have hread : ∀ (x : State) (q : Prop) [Decidable q] (r r' : Reply) (l : List Byte),
      x.dev.MemKept (if q then (x, r) else (x.setDev (x.dev.writeVa 0 (c.arg 8 8) l), r')).1.dev := fun x q _ r r' l => by
    split
    · exact .refl _
    · exact x.dev.writeVa_memKept _ _ _
  have hfree : s.dev.MemKept (s.setDev s.dev.tickFree).dev := Dev.memKept_of_mem rfl
  unfold settingsReadSpec
  dsimp only
  split
  · exact hfree.trans (hread _ _ _ _ _)
  · exact hread _ _ _ _ _

theorem State.memOk_act (f : Dev → Dev) (hf : s.dev.MemKept (f s.dev)) (h : MemOk s) : MemOk (s.act f) := by
  unfold State.act
  split
  · exact hf h
  · exact h

theorem State.memOk_actReady (f : Dev → Dev) (hf : s.dev.MemKept (f s.dev)) (h : MemOk s) : MemOk (s.actReady f) := by
  unfold State.actReady
  split
  · exact hf h
  · exact h

/-- RESET_N leaves the host's memory alone (R749). -/
theorem State.resetLow_memOk (h : MemOk s) : MemOk s.resetLow := by
  have hhost : s.resetLow.dev.mem = { host := s.dev.mem.host } := by
    unfold State.resetLow Dev.afterReset
    dsimp only
    split <;> rfl
  rw [memOk_iff, Dev.memOk, hhost]
  exact ⟨rfl, h.2.1, rfl⟩

theorem powerDown_memOk (b : Bool) (h : MemOk s) {t : State} (ht : exec (.powerDown b) s = .next t) : MemOk t := by
  have hlow := State.resetLow_memOk h
  have haux : ∀ x : State, MemOk x → MemOk x.auxLost := fun x hx => by
    refine Dev.memOk_of_mem (d := x.dev) hx ?_
    unfold State.auxLost
    dsimp only
    split <;> rfl
  cases ht
  cases b
  · exact hlow
  · exact haux _ hlow

/-- Settles O60: the form holds at reset, every way of writing keeps it, and so do the rows that write memory. -/
theorem memoryStaysCanonical : Obligations.MemoryStaysCanonical := by
  refine ⟨memOk_reset, fun d r va a b x h ue n k s hs => ⟨d.writeVa_memOk r va b hs, d.dramWrites_memOk a b hs, Dev.moveBytes_memOk x h ue n k d hs⟩,
    fun s t i hs ht hi => ?_⟩
  rcases hi with ⟨a, x, rfl⟩ | ⟨m, h, u, rfl⟩ | ⟨c, rfl⟩ | rfl | rfl | ⟨u, f, a, rfl⟩ | ⟨c, rfl⟩ | rfl | ⟨b, rfl⟩
  · cases ht
    exact s.memOk_act _ (s.dev.bar4_memKept a x) hs
  · cases ht
    exact s.memOk_actReady _ (s.dev.dmaStart_memKept m h u) hs
  · cases ht
    exact s.memOk_actReady _ (s.dev.chEnd_memKept c) hs
  · cases ht
    exact s.memOk_actReady _ s.dev.traceEntryWrite_memKept hs
  · cases ht
    exact s.memOk_actReady _ s.dev.eccReady_memKept hs
  · cases ht
    exact s.memOk_actReady _ (s.dev.bistDone_memKept u f.toNat a) hs
  · cases ht
    exact settingsRead_memKept.runCmd (fun _ _ d => .refl d) c s hs
  · cases ht
    exact State.resetLow_memOk hs
  · exact powerDown_memOk b hs ht

end Sys2Proof.Machine
end

section
/-! The registers and the state of a DMA channel (R737 to R741): O48. -/

namespace Sys2Proof.Machine
open Sys2Proof

variable {s : State} {d e f : Dev} {ch o : Nat} {v w : Word}

/-! ### The registers of a channel -/

theorem dma_ctrl : ∀ k : Fin 8, ∃ g, PType.dma.regAt (0x100 + 0x40 * k.val) = some g ∧ g.rws = false ∧ FieldsApart g.flds ∧ (⟨0, 1, .rw, 0, .any⟩ : Fld) ∈ g.flds ∧
    (⟨8, 4, .rw, 8, .any⟩ : Fld) ∈ g.flds := by
  intro k
  fin_cases k
  all_goals exact ⟨_, rfl, rfl, by unfold FieldsApart; decide, by decide, by decide⟩

theorem dma_tail : ∀ k : Fin 8, ∃ g, PType.dma.regAt (0x100 + 0x40 * k.val + 0x10) = some g ∧ g.rws = false ∧ FieldsApart g.flds ∧ (⟨0, 16, .rw, 0, .any⟩ : Fld) ∈ g.flds := by
  intro k
  fin_cases k
  all_goals exact ⟨_, rfl, rfl, by unfold FieldsApart; decide, by decide⟩

theorem pageType_dma (h : ch < 32) : pageType (pgDma ch) = some .dma ∧ pageInst (pgDma ch) = ch / 8 := by
  have hpage : ∀ k : Fin 4, pageType (10 + k.val) = some .dma ∧ pageInst (10 + k.val) = k.val := by decide
  exact hpage ⟨ch / 8, by omega⟩

theorem chReg_key {a b : Nat} (_ha : a < 0x40) (_hb : b < 0x40) (h : a ≠ b) : regKey (pgDma ch) (chOff ch a) ≠ regKey (pgDma ch) (chOff ch b) := by
  unfold regKey chOff
  omega

theorem chOff_lt (ch : Nat) (h : o < 0x40) : chOff ch o < 4096 := by
  unfold chOff
  omega

/-- The word of CH_CTRL that a write merges: RESUME, SKIP and STOP are not kept. -/
def Dev.ctrlWord (d : Dev) (ch : Nat) (v : Word) : Word := (d.mergeAt (pgDma ch) (chOff ch 0) (v &&& (fmk 1 3 7 ^^^ BitVec.allOnes 64))).1

theorem fld_ctrlMask (v : Word) {lo w : Nat} (h : lo + w ≤ 1 ∨ 4 ≤ lo) : fld (v &&& (fmk 1 3 7 ^^^ BitVec.allOnes 64)) lo w = fld v lo w := by
  have hmask : ∀ i : Fin 64, (fmk 1 3 7 ^^^ BitVec.allOnes 64).toNat.testBit i.val = (decide (i.val < 1) || decide (4 ≤ i.val)) := by decide
  refine fld_congr fun i hlo hhi => ?_
  rw [BitVec.toNat_and, Nat.testBit_and]
  by_cases hi : i < 64
  · rw [hmask ⟨i, hi⟩]
    have hout : i < 1 ∨ 4 ≤ i := by omega
    rw [← Bool.decide_or, decide_eq_true hout, Bool.and_true]
  · rw [Nat.testBit_lt_two_pow (Nat.lt_of_lt_of_le v.isLt (Nat.pow_le_pow_right (by decide) (by omega))), Bool.false_and]

theorem Dev.ctrlWord_fields (d : Dev) (h : ch < 32) (v : Word) : bit (d.ctrlWord ch v) 0 = bit v 0 ∧ fld (d.ctrlWord ch v) 8 4 = fld v 8 4 := by
  obtain ⟨g, hg, -, hapart, hen, hprio⟩ := dma_ctrl ⟨ch % 8, by omega⟩
  have hm := mergeAt_of_regAt (pageType_dma h).1 hg d (v &&& (fmk 1 3 7 ^^^ BitVec.allOnes 64))
  have hoff : chOff ch 0 = 0x100 + 0x40 * (ch % 8) := rfl
  rw [Dev.ctrlWord, hoff, hm]
  exact ⟨(bit_mergeFields_any hapart hen).trans (congrArg (fun n => decide (n = 1)) (fld_ctrlMask v (Or.inl (by decide)))),
    (fld_mergeFields_any hapart hprio).trans (fld_ctrlMask v (Or.inr (by decide)))⟩

/-! ### What leaves the channels alone -/

/-- The channels, the registers, and the realms' address spaces are the same. -/
def Dev.ChKept (d e : Dev) : Prop := e.dma = d.dma ∧ ∀ p o, e.reg p o = d.reg p o

theorem Dev.ChKept.trans (h : d.ChKept e) (k : e.ChKept f) : d.ChKept f := ⟨k.1.trans h.1, fun p o => (k.2 p o).trans (h.2 p o)⟩
theorem Dev.Noted.chKept (h : d.Noted e) : d.ChKept e := ⟨by rw [h], h.reg⟩
theorem Dev.ChKept.dch (h : d.ChKept e) (k : Nat) : e.dch k = d.dch k := by rw [Dev.dch, h.1, Dev.dch]
theorem Dev.ChKept.chReg (h : d.ChKept e) (k o : Nat) : e.chReg k o = d.chReg k o := h.2 _ _
theorem Dev.ChKept.chEntries (h : d.ChKept e) (k : Nat) : e.chEntries k = d.chEntries k := by rw [Dev.chEntries, h.chReg, Dev.chEntries]
theorem Dev.ChKept.chBase (h : d.ChKept e) (k : Nat) : e.chBase k = d.chBase k := by rw [Dev.chBase, h.chReg, Dev.chBase]
theorem Dev.ChKept.chOn (h : d.ChKept e) (k : Nat) : e.chOn k = d.chOn k := by rw [Dev.chOn, h.chReg, Dev.chOn]
theorem Dev.ChKept.chDesc (h : d.ChKept e) (k : Nat) : e.chDesc k = d.chDesc k := by rw [Dev.chDesc, h.chBase, h.dch, Dev.chDesc]

@[simp] theorem Dev.dch_setReg (d : Dev) (p o : Nat) (w : Word) (k : Nat) : (d.setReg p o w).dch k = d.dch k := rfl
@[simp] theorem Dev.chReg_setDch (d : Dev) (ch k o : Nat) (x : DmaCh) : (d.setDch ch x).chReg k o = d.chReg k o := rfl
@[simp] theorem Dev.chReg_ctrl (d : Dev) (ch : Nat) (w : Word) : (d.setReg (pgDma ch) (chOff ch 0) w).chReg ch 0 = w := by rw [Dev.chReg, Dev.reg_setReg, if_pos rfl]

theorem Dev.chReg_setReg_of_ne (d : Dev) (ch : Nat) (w : Word) {a b : Nat} (ha : a < 0x40) (hb : b < 0x40) (h : b ≠ a) :
    (d.setReg (pgDma ch) (chOff ch a) w).chReg ch b = d.chReg ch b := by rw [Dev.chReg, Dev.reg_setReg, if_neg (chReg_key hb ha h), Dev.chReg]

theorem Dev.chEntries_ctrl (d : Dev) (ch : Nat) (w : Word) : (d.setReg (pgDma ch) (chOff ch 0) w).chEntries ch = d.chEntries ch := by
  rw [Dev.chEntries, Dev.chReg_setReg_of_ne _ _ _ (by decide) (by decide) (by decide), Dev.chEntries]

theorem Dev.closeFault_noted (d : Dev) (id how : Nat) : Dev.Noted { d with xlat := (d.closeFault id how).xlat } (d.closeFault id how) := by
  have hx := d.xlat_closeFault id how
  unfold Dev.closeFault at hx ⊢
  dsimp only at hx ⊢
  split at hx
  next h =>
    rw [if_pos h, hx]
    exact Dev.trace_noted _ _ _ _ _ _ _
  next h =>
    rw [if_neg h]
    exact .refl _

theorem Dev.closeOf_chKept (d : Dev) (x : DmaCh) (how : Nat) : d.ChKept (d.closeOf x how) := by
  unfold Dev.closeOf
  split
  next i _ => exact Dev.ChKept.trans (e := { d with xlat := (d.closeFault i how).xlat }) ⟨rfl, fun _ _ => rfl⟩ (d.closeFault_noted i how).chKept
  next => exact ⟨rfl, fun _ _ => rfl⟩

theorem Dev.writeVa_chKept (d : Dev) (r va : Nat) (l : List Byte) : d.ChKept (d.writeVa r va l) := by
  rw [Dev.writeVa_eq]
  exact ⟨rfl, fun _ _ => rfl⟩

/-! ### The end of a descriptor (R738, R741) -/

/-- The device once a descriptor has ended with nothing pending: written back, counted, and past it. -/
theorem Dev.chEnd_spec (d : Dev) {r n : Nat} (h : (d.dch ch).ending = some (r, n)) : ∃ y : Dev, d.ChKept y ∧
    (∀ p b, b < 4096 → y.counter p b = (((d.inc (pgDma ch) (chOff ch 0x38)).bump (pgDma ch) (chOff ch 0x30) n).counter p b)) ∧
    d.chEnd ch = (fun z : Dev => if (d.dch ch).stop then z.chOffNow ch else z)
      ((y.freeMover ch).setDch ch { state := (d.dch ch).state, stop := (d.dch ch).stop, head := ((d.dch ch).head + 1) % d.chEntries ch }) := by
  obtain ⟨l, hl⟩ : ∃ l, l = leBytes 4 n ++ leBytes 1 r ++ [0] ++ leBytes 2 (d.dch ch).lastFault := ⟨_, rfl⟩
  have hw := d.writeVa_chKept 0 (d.chDesc ch + 32) l
  have hcounters : (d.writeVa 0 (d.chDesc ch + 32) l).ctl = d.ctl := by rw [Dev.writeVa_eq]
  obtain ⟨z, hz⟩ : ∃ z, z = ((d.writeVa 0 (d.chDesc ch + 32) l).inc (pgDma ch) (chOff ch 0x38)).bump (pgDma ch) (chOff ch 0x30) n := ⟨_, rfl⟩
  have hzk : d.ChKept z := by rw [hz]; exact hw
  have hzc : ∀ p b, z.counter p b = (((d.inc (pgDma ch) (chOff ch 0x38)).bump (pgDma ch) (chOff ch 0x30) n).counter p b) := fun p b => by
    rw [hz, Dev.counter, Dev.bump, Dev.inc, Dev.bump, Dev.counter, Dev.bump, Dev.inc, Dev.bump]
    dsimp only
    rw [hcounters]
  have hend : ∀ (c : Prop) [Decidable c], d.ChKept (if c then z.event (pgDma ch) (2 * (ch % 8)) else z) := fun c _ => by
    split
    · exact hzk.trans (Dev.event_noted _ _ _).chKept
    · exact hzk
  have hendc : ∀ (c : Prop) [Decidable c] p b, (if c then z.event (pgDma ch) (2 * (ch % 8)) else z).counter p b = z.counter p b := fun c _ p b => by
    split
    · exact Dev.counter_event _ _ _ _ _
    · rfl
  unfold Dev.chEnd
  dsimp only
  rw [h]
  dsimp only
  rw [← hl, ← hz]
  generalize hc : (match d.readVa 0 (d.chDesc ch) 1 with | .ok l => leAt l 0 1 | .error _ => 0) / 16 % 2 = c
  refine ⟨_, hend (c = 1), fun p b _ => (hendc (c = 1) p b).trans (hzc p b), ?_⟩
  rw [(hend (c = 1)).chEntries]

theorem Dev.chEnd_goes (d : Dev) {r n : Nat} (h : (d.dch ch).ending = some (r, n)) (hs : (d.dch ch).stop = false) :
    (d.chEnd ch).dch ch = { state := (d.dch ch).state, head := ((d.dch ch).head + 1) % d.chEntries ch } ∧ (∀ k, k ≠ ch → (d.chEnd ch).dch k = d.dch k) ∧
    (d.chEnd ch).dma.movers.contains (some ch) = false ∧
    ∀ p b, b < 4096 → (d.chEnd ch).counter p b = ((d.inc (pgDma ch) (chOff ch 0x38)).bump (pgDma ch) (chOff ch 0x30) n).counter p b := by
  obtain ⟨y, hy, hc, he⟩ := d.chEnd_spec h
  simp only [hs, Bool.false_eq_true, if_false] at he
  rw [he]
  refine ⟨by rw [Dev.dch_setDch, if_pos rfl], fun k hk => ?_, ?_, hc⟩
  · rw [Dev.dch_setDch, if_neg hk]
    exact hy.dch k
  · have hfree : ∀ l : List (Option Nat), (l.map fun m => if m = some ch then none else m).contains (some ch) = false := fun l => by
      rw [List.contains_eq_mem, decide_eq_false_iff_not, List.mem_map]
      rintro ⟨m, -, hm⟩
      split at hm
      · cases hm
      next hne => exact hne hm
    exact hfree _

theorem Dev.chOffNow_spec (d : Dev) (ch : Nat) : (d.chOffNow ch).chOn ch = false ∧ (d.chOffNow ch).dch ch = { head := (d.dch ch).head } := by
  have hreg : (d.chOffNow ch).chReg ch 0 = setFld (d.chReg ch 0) 0 1 0 := by
    rw [show (d.chOffNow ch).chReg ch 0 = (d.setReg (pgDma ch) (chOff ch 0) (setFld (d.chReg ch 0) 0 1 0)).chReg ch 0 from rfl, Dev.chReg_ctrl]
  refine ⟨by rw [Dev.chOn, hreg, bit_setFld_self _ _ (by decide)]; rfl, ?_⟩
  exact (Dev.dch_setDch _ _ _ _).trans (if_pos rfl)

theorem Dev.chEnd_stops (d : Dev) {r n : Nat} (h : (d.dch ch).ending = some (r, n)) (hs : (d.dch ch).stop = true) :
    (d.chEnd ch).chOn ch = false ∧ ((d.chEnd ch).dch ch).state = .off ∧ ((d.chEnd ch).dch ch).busy = false := by
  obtain ⟨y, -, -, he⟩ := d.chEnd_spec h
  simp only [hs, if_true] at he
  rw [he]
  obtain ⟨hon, hch⟩ := Dev.chOffNow_spec ((y.freeMover ch).setDch ch { state := (d.dch ch).state, stop := (d.dch ch).stop, head := ((d.dch ch).head + 1) % d.chEntries ch }) ch
  rw [hs] at hon hch
  exact ⟨hon, by rw [hch], by rw [hch]⟩

end Sys2Proof.Machine
end

section
/-! CH_CTRL and CH_TAIL written, and the faults of a channel (R736, R740, R741): O48. -/

namespace Sys2Proof.Machine
open Sys2Proof

variable {s : State} {d e f : Dev} {ch o : Nat} {v w : Word}

/-! ### What is recorded -/

/-- Only what notes leave, translation's records and the byte stores may differ. -/
def Dev.Recorded (d e : Dev) : Prop :=
  e = { d with
    ctl := { d.ctl with pages := e.ctl.pages, counters := e.ctl.counters, out := e.ctl.out, msixPend := e.ctl.msixPend, linkUp := e.ctl.linkUp,
                        linkSpeed := e.ctl.linkSpeed, linkWidth := e.ctl.linkWidth }
    obs := e.obs, xlat := e.xlat, mem := e.mem }

theorem Dev.Recorded.refl (d : Dev) : d.Recorded d := rfl
theorem Dev.Recorded.trans (h : d.Recorded e) (k : e.Recorded f) : d.Recorded f := by
  unfold Dev.Recorded at *; rw [k, h]
theorem Dev.Recorded.ite {c : Prop} [Decidable c] (h : d.Recorded e) (k : d.Recorded f) : d.Recorded (if c then e else f) := by
  split
  · exact h
  · exact k
theorem Dev.Noted.recorded (h : d.Noted e) : d.Recorded e := by
  unfold Dev.Noted at h
  unfold Dev.Recorded
  rw [h]
theorem Dev.Recorded.chKept (h : d.Recorded e) : d.ChKept e := ⟨by rw [h], fun p o => by rw [h]; rfl⟩
theorem Dev.Recorded.pair (h : d.Recorded e) : e.pair = d.pair := by rw [h]
theorem Dev.writeVa_recorded (d : Dev) (r va : Nat) (l : List Byte) : d.Recorded (d.writeVa r va l) := by rw [Dev.writeVa_eq]; rfl
theorem Dev.raise_recorded (d : Dev) (p b s c : Nat) (x y : Word) : d.Recorded (d.raise p b s c x y) := (d.raise_noted p b s c x y).recorded
theorem Dev.trace_recorded (d : Dev) (c e s : Nat) (x y : Word) (o : Nat) : d.Recorded (d.trace c e s x y o) := (d.trace_noted c e s x y o).recorded

theorem Dev.closeOf_recorded (d : Dev) (x : DmaCh) (how : Nat) : d.Recorded (d.closeOf x how) := by
  unfold Dev.closeOf
  split
  next i _ => exact Dev.Recorded.trans (e := { d with xlat := (d.closeFault i how).xlat }) rfl (d.closeFault_noted i how).recorded
  next => exact .refl d

theorem Dev.faultRing_spec (d : Dev) (x : XFault) : d.Recorded (d.faultRing x) ∧ (d.faultRing x).xlat.faults = d.xlat.faults := by
  unfold Dev.faultRing
  dsimp only
  split
  · exact ⟨Dev.Recorded.trans (e := d.inc pgXlat 0x0A8) rfl (Dev.raise_recorded _ _ _ _ _ _ _), congrArg Xlat.faults (Dev.raise_noted _ _ _ _ _ _ _).xlat⟩
  · refine ⟨(d.writeVa_recorded _ _ _).trans rfl, ?_⟩
    rw [Dev.writeVa_eq]

theorem Dev.recordFault_spec (d : Dev) (realm : Nat) (e : XErr) (write : Bool) (cls source : Nat) (work : FaultWork) (noSave : Bool) :
    d.Recorded (d.recordFault realm e write cls source work noSave).1 ∧
    ∃ x : XFault, (d.recordFault realm e write cls source work noSave).1.xlat.faults = d.xlat.faults ++ [x] ∧ x.code = e.code ∧ x.work = work := by
  unfold Dev.recordFault
  extract_lets id access x src d1 d2 d3 d4 d5
  obtain ⟨hring, hfaults⟩ := d2.faultRing_spec x
  have hlog : d3.Noted d5 := (Dev.raise_noted _ _ _ _ _ _ _).trans (Dev.trace_noted _ _ _ _ _ _ _)
  have hend : d3.Noted (if noSave then (d5.inc pgXlat 0x0A0).traceClose id 1 else d5) :=
    hlog.trans (.ite ((Dev.inc_noted _ _ _).trans (Dev.trace_noted _ _ _ _ _ _ _)) (.refl _))
  have hfirst : d.Recorded d2 := rfl
  exact ⟨(hfirst.trans hring).trans hend.recorded, x, (congrArg Xlat.faults hend.xlat).trans hfaults, rfl, rfl⟩

theorem Dev.uncorrected_recorded (d : Dev) (p : Nat) : d.Recorded (d.uncorrected p) := by
  unfold Dev.uncorrected
  exact Dev.Recorded.ite (Dev.Recorded.trans (e := d.inc _ _) rfl (Dev.raise_recorded _ _ _ _ _ _ _)) (.refl d)

theorem Dev.moveBytes_recorded (x : DmaDesc) (hostErr : Bool) (ue : Option Nat) (n k : Nat) (d : Dev) : d.Recorded (Dev.moveBytes x hostErr ue n k d).dev := by
  induction n generalizing k d with
  | zero => exact .refl d
  | succ n ih =>
    have hwrite : ∀ t a b, d.Recorded (d.targetWrite t a b) := fun t a b => by
      rw [Dev.targetWrite_eq]
      rfl
    unfold Dev.moveBytes
    split
    · exact .refl d
    · split
      · exact .refl d
      · exact (Dev.Recorded.ite (.refl d) (hwrite _ _ _)).trans (ih _ _)

/-! ### A fault of a channel (R728, R740) -/

theorem Dev.chFaulted_pair (d : Dev) (ch : Nat) (id : Option Nat) (x : DmaCh) : (d.chFaulted ch id x).pair = d.pair := (Dev.raise_recorded _ _ _ _ _ _ _).pair

theorem Dev.chFaulted_spec (d : Dev) (ch : Nat) (id : Option Nat) (x : DmaCh) : ((d.chFaulted ch id x).dch ch) = { x with state := .faulted, faultId := id } ∧
    (d.chFaulted ch id x).xlat = d.xlat ∧ ((d.chFaulted ch id x).page (pgDma ch)).event.getLsbD (2 * (ch % 8) + 1) = true := by
  refine ⟨?_, ?_, Dev.raise_bit _ _ _ _ _ _ _ (by omega)⟩
  · refine ((Dev.raise_noted _ _ _ _ _ _ _).chKept.dch ch).trans ?_
    rw [Dev.dch_setDch, if_pos rfl]
  · exact (Dev.raise_noted _ _ _ _ _ _ _).xlat

theorem Dev.chFault_pair (d : Dev) (ch realm : Nat) (e : XErr) (write : Bool) (done : Nat) : (d.chFault ch realm e write done).pair = d.pair := by
  obtain ⟨hrec, -⟩ := d.recordFault_spec realm e write 2 (0x020 + ch) (.dma ch (d.dch ch).head) false
  unfold Dev.chFault
  dsimp only
  generalize d.recordFault realm e write 2 (0x020 + ch) (.dma ch (d.dch ch).head) false = r at hrec ⊢
  exact (Dev.chFaulted_pair _ _ _ _).trans hrec.pair

/-- The descriptor in hand meets a fault: the channel is FAULTED, and the fault is recorded and raised. -/
theorem Dev.chFault_spec (d : Dev) (ch realm : Nat) (e : XErr) (write : Bool) (done : Nat) : ((d.chFault ch realm e write done).dch ch).state = .faulted ∧
    (∃ x : XFault, (d.chFault ch realm e write done).xlat.faults = d.xlat.faults ++ [x] ∧ x.code = e.code ∧ x.work = .dma ch (d.dch ch).head) ∧
    ((d.chFault ch realm e write done).page (pgDma ch)).event.getLsbD (2 * (ch % 8) + 1) = true := by
  obtain ⟨-, x, hx, hcode, hwork⟩ := d.recordFault_spec realm e write 2 (0x020 + ch) (.dma ch (d.dch ch).head) false
  unfold Dev.chFault
  dsimp only
  generalize d.recordFault realm e write 2 (0x020 + ch) (.dma ch (d.dch ch).head) false = r at hx ⊢
  obtain ⟨hch, hxlat, hevent⟩ := Dev.chFaulted_spec (r.1.freeMover ch) ch (some r.2) { d.dch ch with progress := done, lastFault := r.2 }
  exact ⟨congrArg DmaCh.state hch, ⟨x, (congrArg Xlat.faults hxlat).trans hx, hcode, hwork⟩, hevent⟩

/-! ### The descriptor in hand runs -/

theorem Dev.chRun_pair (d : Dev) (ch : Nat) (hostErr : Bool) (ue : Option Nat) : (d.chRun ch hostErr ue).pair = d.pair := by
  have hite : ∀ {c : Prop} [Decidable c] {a b : Dev}, a.pair = d.pair → b.pair = d.pair → (if c then a else b).pair = d.pair := by
    intro c _ a b ha hb
    split
    · exact ha
    · exact hb
  unfold Dev.chRun
  extract_lets c x realms r y n src host d' d''
  have hbytes : d.Recorded y := Dev.moveBytes_recorded _ _ _ _ _ _
  have hhost : y.Recorded d' := Dev.Recorded.ite (Dev.Recorded.trans (e := y.inc pgXlat 0x0B0) rfl (Dev.raise_recorded _ _ _ _ _ _ _)) (.refl _)
  have hburst : d'.Recorded d'' := by
    unfold d''
    split
    · exact Dev.Recorded.ite (Dev.uncorrected_recorded _ _) (.refl _)
    · exact .refl _
  have hmoved := ((hbytes.trans hhost).trans hburst).pair
  clear_value d''
  refine hite rfl (hite (Dev.chFault_pair _ _ _ _ _ _) (hite (Dev.chFault_pair _ _ _ _ _ _) (hite rfl (hite rfl ?_))))
  split
  · exact (Dev.chFault_pair _ _ _ _ _ _).trans hmoved
  · exact hmoved

/-- A NOP ends at once. -/
theorem Dev.chRun_nop {hostErr : Bool} {ue : Option Nat} {l : List Byte} (hl : d.readVa 0 (d.chDesc ch) 64 = .ok l) (hbad : (dmaParse l).bad = false) (hop : (dmaParse l).op = 3)
    (hsrc : bit (d.chReg ch 0x28) (dmaParse l).srcRealm = true) (hdst : bit (d.chReg ch 0x28) (dmaParse l).dstRealm = true) :
    d.chRun ch hostErr ue = d.setDch ch { d.dch ch with ending := some (1, 0) } := by
  have hover : (dmaParse l).overlaps = false := by rw [DmaDesc.overlaps, hop]; rfl
  unfold Dev.chRun
  dsimp only
  rw [hl]
  dsimp only
  rw [hbad, hover, hsrc, hdst, hop]
  rfl

/-! ### ENABLE -/

theorem Dev.chOn_ctrl (d : Dev) (ch : Nat) (w : Word) : (d.setReg (pgDma ch) (chOff ch 0) w).chOn ch = bit w 0 := by rw [Dev.chOn, Dev.chReg_ctrl]

/-- The unit once what is wrong with a word written to CH_CTRL has been counted. -/
def Dev.ctrlTold (d : Dev) (ch : Nat) (v : Word) : Dev := d.errs (pgDma ch) (d.mergeAt (pgDma ch) (chOff ch 0) (v &&& (fmk 1 3 7 ^^^ BitVec.allOnes 64))).2

theorem Dev.ctrlTold_noted (d : Dev) (ch : Nat) (v : Word) : d.Noted (d.ctrlTold ch v) := d.errs_noted _ _

theorem Dev.pinned_congr (h : e.xlat = d.xlat) (r a n : Nat) : e.pinned r a n = d.pinned r a n := by
  unfold Dev.pinned Dev.pinnedPage
  rw [h]

/-- ENABLE written as it stands. -/
theorem Dev.chEnable_same (h : bit v 0 = d.chOn ch) (hch : ch < 32) : d.chEnable ch v = (d.ctrlTold ch v).setReg (pgDma ch) (chOff ch 0) (d.ctrlWord ch v) := by
  have hbit : bit (d.ctrlWord ch v) 0 = bit (d.chReg ch 0) 0 := (d.ctrlWord_fields hch v).1.trans h
  have hno : ∀ b : Bool, ¬(b && !b) = true ∧ ¬(!b && b) = true := by decide
  refine (if_neg ?_).trans (if_neg ?_)
  · exact fun hc => (hno _).1 (hbit ▸ hc)
  · exact fun hc => (hno _).2 (hbit ▸ hc)

/-- ENABLE set: it takes effect where the ring is aligned and PINNED, and is otherwise left 0 and counted. -/
theorem Dev.chEnable_starts (hon : d.chOn ch = false) (hv : bit v 0 = true) (hch : ch < 32) : d.chEnable ch v =
    if d.chBase ch % (64 * d.chEntries ch) = 0 ∧ d.pinned 0 (d.chBase ch) (64 * d.chEntries ch) = true
    then (((d.ctrlTold ch v).setReg (pgDma ch) (chOff ch 0) (d.ctrlWord ch v)).setDch ch { head := (d.dch ch).head, state := .active }).hold holdDma ch 0 (d.chBase ch)
      (64 * d.chEntries ch)
    else ((d.ctrlTold ch v).setReg (pgDma ch) (chOff ch 0) (setFld (d.ctrlWord ch v) 0 1 0)).err (pgDma ch) .badState := by
  have hbit : bit (d.ctrlWord ch v) 0 = true := (d.ctrlWord_fields hch v).1.trans hv
  have hold : bit (d.chReg ch 0) 0 = false := hon
  have hn := d.ctrlTold_noted ch v
  rw [← hn.chKept.chBase, ← hn.chKept.chEntries, ← hn.chKept.dch, ← Dev.pinned_congr hn.xlat]
  refine if_pos ?_
  exact Bool.and_eq_true_iff.2 ⟨hbit, congrArg (!·) hold⟩

/-- ENABLE cleared: a halted descriptor ends ABORTED, one in hand is let end, and an idle channel leaves service. -/
theorem Dev.chEnable_stops (hon : d.chOn ch = true) (hv : bit v 0 = false) (hch : ch < 32) : ∃ z : Dev, z = (d.ctrlTold ch v).setReg (pgDma ch) (chOff ch 0)
    (setFld (d.ctrlWord ch v) 0 1 1) ∧ d.chEnable ch v =
      if (d.dch ch).halted then ((z.closeOf (d.dch ch) 3).setDch ch { d.dch ch with ending := some (2, (d.dch ch).progress), stop := true }).chEnd ch
      else if (d.dch ch).busy then z.setDch ch { d.dch ch with stop := true } else z.chOffNow ch := by
  have hbit : bit (d.ctrlWord ch v) 0 = false := (d.ctrlWord_fields hch v).1.trans hv
  have hold : bit (d.chReg ch 0) 0 = true := hon
  refine ⟨_, rfl, ?_⟩
  rw [← (d.ctrlTold_noted ch v).chKept.dch]
  refine (if_neg ?_).trans (if_pos ?_)
  · exact fun hc => ne_true_of_eq_false hbit (Bool.and_eq_true_iff.1 hc).1
  · exact Bool.and_eq_true_iff.2 ⟨congrArg (!·) hbit, hold⟩

/-! ### The rows CH_ENABLE, CH_RESUME, CH_SKIP and CH_STOP -/

theorem Dev.chResume_pair (d : Dev) (ch : Nat) : (d.chResume ch).pair = d.pair := by
  unfold Dev.chResume Dev.chRetry
  split
  · exact (Dev.chRun_pair _ _ _ _).trans (d.closeOf_recorded _ _).pair
  · rfl

theorem Dev.Stopped.pair (h : d.Stopped e) : e.pair = d.pair := by rw [h]

theorem Dev.chSkip_pair (d : Dev) (ch : Nat) : (d.chSkip ch).pair = d.pair := by
  unfold Dev.chSkip Dev.chAbort
  split
  · exact (Dev.chEnd_stopped _ _).pair.trans (d.closeOf_recorded _ _).pair
  · rfl

theorem Dev.chCtrlWrite_pair (d : Dev) (ch : Nat) (v : Word) : (d.chCtrlWrite ch v).pair = d.pair := by
  have hite : ∀ (c : Prop) [Decidable c] (e : Dev) (g : Dev → Dev), (∀ x, (g x).pair = x.pair) → (if c then g e else e).pair = e.pair := by
    intro c _ e g hg
    split
    · exact hg e
    · rfl
  unfold Dev.chCtrlWrite
  dsimp only
  exact ((hite _ _ _ fun x => (x.chStop_stopped ch).pair).trans ((hite _ _ _ fun x => x.chSkip_pair ch).trans (hite _ _ _ fun x => x.chResume_pair ch))).trans
    (d.chEnable_stopped ch v).pair

theorem ChWritable.ctrl (h : ChWritable s ch) (v : Word) : s.chWrite ch 0 v = (s.setDev s.dev).setDev (s.dev.chCtrlWrite ch v) := by
  obtain ⟨hch, hw, -⟩ := h
  obtain ⟨ht, hi⟩ := pageType_dma hch
  obtain ⟨g, hg, hrws, -⟩ := dma_ctrl ⟨ch % 8, by omega⟩
  have hlive : (s.setDev s.dev).liveWrite (pgDma ch) .dma g (0x100 + 0x40 * (ch % 8)) v = (s.setDev s.dev).onDev fun d => d.chCtrlWrite ch v := by
    have hchan : 8 * (ch / 8) + (0x100 + 0x40 * (ch % 8) - 0x100) / 0x40 = ch := by omega
    have hreg : (0x100 + 0x40 * (ch % 8)) % 0x40 = 0 := by omega
    simp only [State.liveWrite, Dev.dmaWrite, hi, hchan, hreg]
    rw [if_pos (by omega), if_pos (by decide)]
  exact (if_pos hch).trans (hw.hostWrite_live ht hg hrws (by omega) (by omega) (by omega) hlive (s.dev.chCtrlWrite_pair ch v))

theorem ChWritable.tail (h : ChWritable s ch) (v : Word) : s.chWrite ch 0x10 v = (s.setDev s.dev).setDev (s.dev.chTailWrite ch v) := by
  obtain ⟨hch, hw, -⟩ := h
  obtain ⟨ht, hi⟩ := pageType_dma hch
  obtain ⟨g, hg, hrws, -⟩ := dma_tail ⟨ch % 8, by omega⟩
  have hlive : (s.setDev s.dev).liveWrite (pgDma ch) .dma g (0x100 + 0x40 * (ch % 8) + 0x10) v = (s.setDev s.dev).onDev fun d => d.chTailWrite ch v := by
    have hchan : 8 * (ch / 8) + (0x100 + 0x40 * (ch % 8) + 0x10 - 0x100) / 0x40 = ch := by omega
    have hreg : (0x100 + 0x40 * (ch % 8) + 0x10) % 0x40 = 0x10 := by omega
    simp only [State.liveWrite, Dev.dmaWrite, hi, hchan, hreg]
    rw [if_pos (by omega), if_pos (by decide)]
  have hpair : (s.dev.chTailWrite ch v).pair = s.dev.pair := by
    unfold Dev.chTailWrite
    dsimp only
    split
    · exact (Dev.chFaulted_pair _ _ _ _).trans (Dev.errs_noted _ _ _).pair_eq
    · exact (Dev.errs_noted _ _ _).pair_eq
  exact (if_pos hch).trans (hw.hostWrite_live ht hg hrws (by omega) (by omega) (by omega) hlive hpair)

end Sys2Proof.Machine
end

section
/-! DMA channels (R728, R737 to R741): O48. -/

namespace Sys2Proof.Machine
open Sys2Proof

variable {s : State} {d e f : Dev} {ch o : Nat} {v w : Word}

/-! ### CH_CTRL, written by its rows -/

theorem bit_of_zero_fld {lo n i : Nat} (h : fld v lo n = 0) (hl : lo ≤ i) (hi : i < lo + n) : bit v i = false := by
  have htest := fld_testBit v lo n (i - lo)
  rw [h, Nat.zero_testBit, show lo + (i - lo) = i by omega, decide_eq_true (by omega), Bool.true_and] at htest
  rw [bit_eq, ← htest]

/-- A word of CH_CTRL that asks for no RESUME, SKIP or STOP. -/
theorem Dev.chCtrlWrite_enable (d : Dev) (h : fld v 1 3 = 0) : d.chCtrlWrite ch v = d.chEnable ch v := by
  have hbit : ∀ i, 1 ≤ i → i < 4 → bit v i = false := fun i hl hi => bit_of_zero_fld h hl hi
  unfold Dev.chCtrlWrite
  rw [hbit 1 (by decide) (by decide), hbit 2 (by decide) (by decide), hbit 3 (by decide) (by decide)]
  rfl

/-- The unit as CH_RESUME, CH_SKIP or CH_STOP finds it: CH_CTRL merged, and nothing else but notes. -/
def Dev.Asked (d e : Dev) (ch : Nat) : Prop := ∃ y w, d.Noted y ∧ y.ctl.counters = d.ctl.counters ∧ e = y.setReg (pgDma ch) (chOff ch 0) w ∧ bit w 0 = d.chOn ch

theorem Dev.Asked.dch (h : d.Asked e ch) (k : Nat) : e.dch k = d.dch k := by
  obtain ⟨y, w, hy, -, rfl, -⟩ := h
  exact hy.chKept.dch k

theorem Dev.Asked.chOn (h : d.Asked e ch) : e.chOn ch = d.chOn ch := by
  obtain ⟨y, w, hy, -, rfl, hw⟩ := h
  exact (y.chOn_ctrl ch w).trans hw

theorem Dev.Asked.chReg (h : d.Asked e ch) {o : Nat} (h0 : 0 < o) (ho : o < 0x40) : e.chReg ch o = d.chReg ch o := by
  obtain ⟨y, w, hy, -, rfl, -⟩ := h
  exact (Dev.chReg_setReg_of_ne _ _ _ (by decide) ho (by omega)).trans (hy.chKept.chReg ch o)

theorem Dev.Asked.chEntries (h : d.Asked e ch) : e.chEntries ch = d.chEntries ch := by rw [Dev.chEntries, h.chReg (by decide) (by decide), Dev.chEntries]

theorem Dev.Asked.chDesc (h : d.Asked e ch) : e.chDesc ch = d.chDesc ch := by
  rw [Dev.chDesc, Dev.chBase, h.chReg (by decide) (by decide), h.dch, Dev.chDesc, Dev.chBase]

theorem Dev.Asked.xlat (h : d.Asked e ch) : e.xlat = d.xlat := by
  obtain ⟨y, w, hy, -, rfl, -⟩ := h
  exact hy.xlat

theorem Dev.Asked.mem (h : d.Asked e ch) : e.mem = d.mem := by
  obtain ⟨y, w, hy, -, rfl, -⟩ := h
  exact hy.mem

theorem Dev.Asked.counter (h : d.Asked e ch) (p o : Nat) : e.counter p o = d.counter p o := by
  obtain ⟨y, w, -, hy, rfl, -⟩ := h
  exact congrArg (tabGetD 0 · (regKey p o)) hy

/-- What the rows CH_RESUME, CH_SKIP and CH_STOP write: ENABLE as it stands, and the one bit. -/
theorem Dev.chCtrlWrite_one (d : Dev) (h : fld (d.chReg ch 0) 1 3 = 0) (hch : ch < 32) :
    d.chCtrlWrite ch (setFld (d.chReg ch 0) 1 1 1) = (d.chEnable ch (setFld (d.chReg ch 0) 1 1 1)).chResume ch ∧
    d.chCtrlWrite ch (setFld (d.chReg ch 0) 2 1 1) = (d.chEnable ch (setFld (d.chReg ch 0) 2 1 1)).chSkip ch ∧
    d.chCtrlWrite ch (setFld (d.chReg ch 0) 3 1 1) = (d.chEnable ch (setFld (d.chReg ch 0) 3 1 1)).chStop ch ∧
    ∀ k, 0 < k → k < 4 → d.Asked (d.chEnable ch (setFld (d.chReg ch 0) k 1 1)) ch := by
  have hbit : ∀ i, 1 ≤ i → i < 4 → bit (d.chReg ch 0) i = false := fun i hl hi => bit_of_zero_fld h hl hi
  have hset : ∀ k i, k < 4 → 1 ≤ i → i < 4 → bit (setFld (d.chReg ch 0) k 1 1) i = decide (i = k) := fun k i hk hl hi => by
    by_cases hik : i = k
    · rw [hik, bit_setFld_self _ _ (by omega), decide_eq_true (Nat.mod_eq_of_lt (by decide)), decide_eq_true (rfl : k = k)]
    · rw [bit_setFld_apart _ _ (by omega) (by omega), hbit i hl hi, decide_eq_false hik]
  refine ⟨?_, ?_, ?_, fun k h0 hk => ⟨_, _, d.ctrlTold_noted ch _, Dev.errs_counters _ _ _, d.chEnable_same ?_ hch, (d.ctrlWord_fields hch _).1.trans ?_⟩⟩
  · unfold Dev.chCtrlWrite
    rw [hset 1 1 (by decide) (by decide) (by decide), hset 1 2 (by decide) (by decide) (by decide), hset 1 3 (by decide) (by decide) (by decide)]
    rfl
  · unfold Dev.chCtrlWrite
    rw [hset 2 1 (by decide) (by decide) (by decide), hset 2 2 (by decide) (by decide) (by decide), hset 2 3 (by decide) (by decide) (by decide)]
    rfl
  · unfold Dev.chCtrlWrite
    rw [hset 3 1 (by decide) (by decide) (by decide), hset 3 2 (by decide) (by decide) (by decide), hset 3 3 (by decide) (by decide) (by decide)]
    rfl
  · exact bit_setFld_apart _ _ (by omega) (by omega)
  · exact bit_setFld_apart _ _ (by omega) (by omega)

theorem ChWritable.exec_enable (h : ChWritable s ch) (hv : fld v 1 3 = 0) : exec (.chEnable ch v) s = .next ((s.setDev s.dev).setDev (s.dev.chEnable ch v)) :=
  congrArg Host.Outcome.next ((h.ctrl v).trans (congrArg (s.setDev s.dev).setDev (s.dev.chCtrlWrite_enable hv)))

theorem ChWritable.exec_asks (h : ChWritable s ch) : (∃ e, s.dev.Asked e ch ∧ exec (.chResume ch) s = .next ((s.setDev s.dev).setDev (e.chResume ch))) ∧
    (∃ e, s.dev.Asked e ch ∧ exec (.chSkip ch) s = .next ((s.setDev s.dev).setDev (e.chSkip ch))) ∧
    ∃ e, s.dev.Asked e ch ∧ exec (.chStop ch) s = .next ((s.setDev s.dev).setDev (e.chStop ch)) := by
  obtain ⟨hresume, hskip, hstop, hasked⟩ := s.dev.chCtrlWrite_one h.2.2 h.1
  exact ⟨⟨_, hasked 1 (by decide) (by decide), congrArg Host.Outcome.next ((h.ctrl _).trans (congrArg (s.setDev s.dev).setDev hresume))⟩,
    ⟨_, hasked 2 (by decide) (by decide), congrArg Host.Outcome.next ((h.ctrl _).trans (congrArg (s.setDev s.dev).setDev hskip))⟩,
    ⟨_, hasked 3 (by decide) (by decide), congrArg Host.Outcome.next ((h.ctrl _).trans (congrArg (s.setDev s.dev).setDev hstop))⟩⟩

/-! ### A channel put in service and taken out of it -/

theorem ChWritable.starts (h : ChWritable s ch) (hv : fld v 1 3 = 0) (hon : s.dev.chOn ch = false) (hb : bit v 0 = true) :
    (s.dev.chBase ch % (64 * s.dev.chEntries ch) = 0 → s.dev.pinned 0 (s.dev.chBase ch) (64 * s.dev.chEntries ch) = true → ∃ u, exec (.chEnable ch v) s = .next u ∧
      u.dev.chOn ch = true ∧ u.dev.dch ch = { head := (s.dev.dch ch).head, state := .active } ∧ u.dev.chPrio ch = fld v 8 4 ∧ ∀ k, k ≠ ch → u.dev.dch k = s.dev.dch k) ∧
    (¬(s.dev.chBase ch % (64 * s.dev.chEntries ch) = 0 ∧ s.dev.pinned 0 (s.dev.chBase ch) (64 * s.dev.chEntries ch) = true) → ∃ u, exec (.chEnable ch v) s = .next u ∧
      u.dev.chOn ch = false ∧ u.dev.dch ch = s.dev.dch ch ∧ (u.dev.page (pgDma ch)).errLast = 4) := by
  have he := s.dev.chEnable_starts hon hb h.1
  obtain ⟨hbit, hprio⟩ := s.dev.ctrlWord_fields h.1 v
  have hdch := (s.dev.ctrlTold_noted ch v).chKept.dch
  generalize s.dev.ctrlTold ch v = y at he hdch
  refine ⟨fun ha hp => ⟨_, h.exec_enable hv, ?_⟩, fun hno => ⟨_, h.exec_enable hv, ?_⟩⟩
  · rw [State.setDev_dev, he, if_pos ⟨ha, hp⟩]
    refine ⟨(y.chOn_ctrl ch _).trans (hbit.trans hb), (Dev.dch_setDch _ _ _ _).trans (if_pos rfl), ?_, fun k hk => ((Dev.dch_setDch _ _ _ _).trans (if_neg hk)).trans (hdch k)⟩
    exact (congrArg (fld · 8 4) (y.chReg_ctrl ch _)).trans hprio
  · rw [State.setDev_dev, he, if_neg hno]
    refine ⟨(y.chOn_ctrl ch _).trans (bit_setFld_self _ _ (by decide)), hdch ch, ?_⟩
    rw [Dev.page_err, if_pos rfl]
    rfl

theorem Dev.chEnable_idle (hon : d.chOn ch = true) (hv : bit v 0 = false) (hch : ch < 32) (hbusy : (d.dch ch).busy = false) :
    (d.chEnable ch v).chOn ch = false ∧ (d.chEnable ch v).dch ch = { head := (d.dch ch).head } := by
  obtain ⟨z, hz, he⟩ := Dev.chEnable_stops hon hv hch
  have hnot : (d.dch ch).halted = false := by rw [DmaCh.halted, hbusy, Bool.and_false, Bool.false_and]
  have hdch : z.dch ch = d.dch ch := hz ▸ (d.ctrlTold_noted ch v).chKept.dch ch
  rw [he, hnot, hbusy, if_neg (by decide), if_neg (by decide), ← hdch]
  exact z.chOffNow_spec ch

theorem Dev.chEnable_busy (hon : d.chOn ch = true) (hv : bit v 0 = false) (hch : ch < 32) (hbusy : (d.dch ch).busy = true) (hnot : (d.dch ch).halted = false) :
    (d.chEnable ch v).chOn ch = true ∧ (d.chEnable ch v).dch ch = { d.dch ch with stop := true } := by
  obtain ⟨z, hz, he⟩ := Dev.chEnable_stops hon hv hch
  rw [he, hnot, hbusy, if_neg (by decide), if_pos rfl, hz]
  exact ⟨((Dev.chOn_ctrl _ _ _).trans (bit_setFld_self _ _ (by decide))), (Dev.dch_setDch _ _ _ _).trans (if_pos rfl)⟩

theorem Dev.chEnable_halted (hon : d.chOn ch = true) (hv : bit v 0 = false) (hch : ch < 32) (hhalt : (d.dch ch).halted = true) :
    (d.chEnable ch v).chOn ch = false ∧ ((d.chEnable ch v).dch ch).state = .off ∧ ((d.chEnable ch v).dch ch).busy = false := by
  obtain ⟨z, -, he⟩ := Dev.chEnable_stops hon hv hch
  have hset : ((z.closeOf (d.dch ch) 3).setDch ch { d.dch ch with ending := some (2, (d.dch ch).progress), stop := true }).dch ch =
      { d.dch ch with ending := some (2, (d.dch ch).progress), stop := true } := (Dev.dch_setDch _ _ _ _).trans (if_pos rfl)
  rw [he, if_pos hhalt]
  exact Dev.chEnd_stops (r := 2) (n := (d.dch ch).progress) _ (by rw [hset]) (by rw [hset])

theorem Dev.Asked.chStop_on (h : d.Asked e ch) (hon : d.chOn ch = true) : ∃ w, bit w 0 = false ∧ e.chStop ch = e.chEnable ch w := by
  refine ⟨setFld (e.chReg ch 0) 0 1 0, bit_setFld_self _ _ (by decide), ?_⟩
  rw [Dev.chStop, h.chOn, hon, if_pos rfl]

theorem ChWritable.stops_idle (h : ChWritable s ch) (v : Word) (hon : s.dev.chOn ch = true) (hbusy : (s.dev.dch ch).busy = false) :
    (∃ u, exec (.chStop ch) s = .next u ∧ u.dev.chOn ch = false ∧ u.dev.dch ch = { head := (s.dev.dch ch).head }) ∧
    (fld v 1 3 = 0 → bit v 0 = false → ∃ u, exec (.chEnable ch v) s = .next u ∧ u.dev.chOn ch = false ∧ u.dev.dch ch = { head := (s.dev.dch ch).head }) := by
  obtain ⟨-, -, e, he, hx⟩ := h.exec_asks
  obtain ⟨w, hw, hstop⟩ := he.chStop_on hon
  refine ⟨⟨_, hx, ?_⟩, fun hv hb => ⟨_, h.exec_enable hv, Dev.chEnable_idle hon hb h.1 hbusy⟩⟩
  rw [State.setDev_dev, hstop, ← he.dch]
  exact Dev.chEnable_idle (he.chOn.trans hon) hw h.1 ((congrArg DmaCh.busy (he.dch ch)).trans hbusy)

theorem ChWritable.stops_busy (h : ChWritable s ch) (hon : s.dev.chOn ch = true) (hbusy : (s.dev.dch ch).busy = true) (hnot : (s.dev.dch ch).halted = false) :
    ∃ u, exec (.chStop ch) s = .next u ∧ u.dev.chOn ch = true ∧ u.dev.dch ch = { s.dev.dch ch with stop := true } := by
  obtain ⟨-, -, e, he, hx⟩ := h.exec_asks
  obtain ⟨w, hw, hstop⟩ := he.chStop_on hon
  refine ⟨_, hx, ?_⟩
  rw [State.setDev_dev, hstop, ← he.dch]
  rw [← he.dch] at hbusy hnot
  exact Dev.chEnable_busy (he.chOn.trans hon) hw h.1 hbusy hnot

theorem ChWritable.stops_halted (h : ChWritable s ch) (hon : s.dev.chOn ch = true) (hhalt : (s.dev.dch ch).halted = true) :
    ∃ u, exec (.chStop ch) s = .next u ∧ u.dev.chOn ch = false ∧ (u.dev.dch ch).state = .off ∧ (u.dev.dch ch).busy = false := by
  obtain ⟨-, -, e, he, hx⟩ := h.exec_asks
  obtain ⟨w, hw, hstop⟩ := he.chStop_on hon
  refine ⟨_, hx, ?_⟩
  rw [State.setDev_dev, hstop]
  rw [← he.dch] at hhalt
  exact Dev.chEnable_halted (he.chOn.trans hon) hw h.1 hhalt

theorem ChWritable.stops_off (h : ChWritable s ch) (hon : s.dev.chOn ch = false) : ∃ u, exec (.chStop ch) s = .next u ∧ u.dev.chOn ch = false ∧ ∀ k, u.dev.dch k = s.dev.dch k := by
  obtain ⟨-, -, e, he, hx⟩ := h.exec_asks
  refine ⟨_, hx, ?_⟩
  rw [State.setDev_dev, Dev.chStop, he.chOn, hon, if_neg (by decide)]
  exact ⟨he.chOn.trans hon, he.dch⟩

/-! ### RESUME and SKIP (R731, R732, R740) -/

theorem ChWritable.refused (h : ChWritable s ch) (hnot : (s.dev.dch ch).halted = false) :
    (∃ u, exec (.chResume ch) s = .next u ∧ (u.dev.page (pgDma ch)).errLast = 4 ∧ ∀ k, u.dev.dch k = s.dev.dch k) ∧
    (∃ u, exec (.chSkip ch) s = .next u ∧ (u.dev.page (pgDma ch)).errLast = 4 ∧ ∀ k, u.dev.dch k = s.dev.dch k) := by
  obtain ⟨⟨e, he, hx⟩, ⟨e', he', hx'⟩, -⟩ := h.exec_asks
  have herr : ∀ x : Dev, ((x.err (pgDma ch) .badState).page (pgDma ch)).errLast = 4 := fun x => by
    rw [Dev.page_err, if_pos rfl]
    rfl
  refine ⟨⟨_, hx, ?_⟩, ⟨_, hx', ?_⟩⟩
  · rw [State.setDev_dev, Dev.chResume, he.dch, hnot, if_neg (by decide)]
    exact ⟨herr e, he.dch⟩
  · rw [State.setDev_dev, Dev.chSkip, he'.dch, hnot, if_neg (by decide)]
    exact ⟨herr e', he'.dch⟩

theorem Dev.counter_closeOf (d : Dev) (x : DmaCh) (how : Nat) {p b : Nat} (hp : p ≠ pgObs) (hb : b < 4096) : (d.closeOf x how).counter p b = d.counter p b := by
  unfold Dev.closeOf Dev.closeFault Dev.traceClose
  dsimp only
  split
  · split
    · exact Dev.counter_trace _ _ _ _ _ _ _ hp hb
    · rfl
  · rfl

theorem ChWritable.skips (h : ChWritable s ch) (hhalt : (s.dev.dch ch).halted = true) (hstop : (s.dev.dch ch).stop = false) :
    ∃ u, exec (.chSkip ch) s = .next u ∧ u.dev.dch ch = { state := .active, head := ((s.dev.dch ch).head + 1) % s.dev.chEntries ch } ∧
      u.dev.counter pgXlat 0x0A0 = s.dev.counter pgXlat 0x0A0 + 1 ∧ ∀ k, k ≠ ch → u.dev.dch k = s.dev.dch k := by
  obtain ⟨-, ⟨e, he, hx⟩, -⟩ := h.exec_asks
  refine ⟨_, hx, ?_⟩
  have hpage : pgXlat ≠ pgDma ch := by
    unfold pgDma
    have := h.1
    simp only [pgXlat]
    omega
  have hclose := e.closeOf_chKept (s.dev.dch ch) 1
  have hcount := Dev.counter_closeOf e (s.dev.dch ch) 1 (p := pgXlat) (b := 0x0A0) (by decide) (by decide)
  rw [State.setDev_dev, Dev.chSkip, he.dch, hhalt, if_pos rfl, Dev.chAbort, he.dch]
  generalize e.closeOf (s.dev.dch ch) 1 = z at hclose hcount
  obtain ⟨a, ha⟩ : ∃ a, a = z.setDch ch { s.dev.dch ch with state := .active, faultId := none, ending := some (2, (s.dev.dch ch).progress) } := ⟨_, rfl⟩
  have hach : a.dch ch = { s.dev.dch ch with state := .active, faultId := none, ending := some (2, (s.dev.dch ch).progress) } := by rw [ha, Dev.dch_setDch, if_pos rfl]
  have hent : a.chEntries ch = s.dev.chEntries ch := by rw [ha]; exact (hclose.chEntries ch).trans he.chEntries
  obtain ⟨hgo, hothers, -, hc⟩ := a.chEnd_goes (ch := ch) (r := 2) (n := (s.dev.dch ch).progress) (by rw [hach]) (by rw [hach]; exact hstop)
  rw [← ha]
  refine ⟨?_, ?_, fun k hk => ?_⟩
  · rw [show ((a.chEnd ch).inc pgXlat 0x0A0).dch ch = (a.chEnd ch).dch ch from rfl, hgo, hach, hent]
  · rw [Dev.counter_inc_same, hc _ _ (by decide), Dev.counter_bump, if_neg, Dev.counter_inc_of_ne _ (by decide) (chOff_lt ch (by decide)) hpage]
    · rw [ha]
      exact congrArg (· + 1) (hcount.trans (he.counter _ _))
    · exact fun heq => hpage ((regKey_inj (a := 0x0A0) (by decide) (chOff_lt ch (o := 0x30) (by decide))).1 heq).1
  · refine (hothers k hk).trans ?_
    rw [ha, Dev.dch_setDch, if_neg hk]
    exact (hclose.dch k).trans (he.dch k)

/-- The leaves of the translation and the byte stores are the same: every address means what it meant. -/
def Dev.SpaceKept (d e : Dev) : Prop := e.mem = d.mem ∧ e.xlat.leaves = d.xlat.leaves

theorem Dev.SpaceKept.trans (h : d.SpaceKept e) (k : e.SpaceKept f) : d.SpaceKept f := ⟨k.1.trans h.1, k.2.trans h.2⟩
theorem Dev.Noted.spaceKept (h : d.Noted e) : d.SpaceKept e := ⟨h.mem, congrArg Xlat.leaves h.xlat⟩

theorem Dev.SpaceKept.translate (h : d.SpaceKept e) (r va : Nat) (w : Bool) : e.translate r va w = d.translate r va w := by
  obtain ⟨hmem, hleaves⟩ := h
  have hleaf : leafOf e.xlat r va = leafOf d.xlat r va := by simp only [leafOf, leafAt, hleaves]
  have hwalk : walkLevel e.xlat r va = walkLevel d.xlat r va := by simp only [walkLevel, hleaves]
  simp only [Dev.translate, hleaf, hwalk, Dev.slice, hmem]
  rfl

theorem Dev.SpaceKept.targetRead (h : d.SpaceKept e) (t a : Nat) : e.targetRead t a = d.targetRead t a := by rw [Dev.targetRead, h.1, Dev.targetRead]

theorem Dev.SpaceKept.readVa (h : d.SpaceKept e) (r va n : Nat) : e.readVa r va n = d.readVa r va n := by
  induction n generalizing va with
  | zero => rfl
  | succ n ih => simp only [Dev.readVa, h.translate, ih, h.targetRead]

theorem Dev.closeOf_spaceKept (d : Dev) (x : DmaCh) (how : Nat) : d.SpaceKept (d.closeOf x how) := by
  unfold Dev.closeOf
  split
  next i _ => exact ⟨(d.closeFault_noted i how).mem, by rw [Dev.xlat_closeFault]⟩
  next => exact ⟨rfl, rfl⟩

theorem ChWritable.resumes (h : ChWritable s ch) (hhalt : (s.dev.dch ch).halted = true) {l : List Byte} (hl : s.dev.readVa 0 (s.dev.chDesc ch) 64 = .ok l)
    (hop : (dmaParse l).op = 3) (hbad : (dmaParse l).bad = false) (hsrc : bit (s.dev.chReg ch 0x28) (dmaParse l).srcRealm = true)
    (hdst : bit (s.dev.chReg ch 0x28) (dmaParse l).dstRealm = true) :
    ∃ u, exec (.chResume ch) s = .next u ∧ u.dev.dch ch = { s.dev.dch ch with state := .active, faultId := none, ending := some (1, 0) } := by
  obtain ⟨⟨e, he, hx⟩, -, -⟩ := h.exec_asks
  have hspace : s.dev.SpaceKept (e.closeOf (s.dev.dch ch) 0) := Dev.SpaceKept.trans ⟨he.mem, congrArg Xlat.leaves he.xlat⟩ (e.closeOf_spaceKept _ _)
  have hclose := e.closeOf_chKept (s.dev.dch ch) 0
  refine ⟨_, hx, ?_⟩
  rw [State.setDev_dev, Dev.chResume, he.dch, hhalt, if_pos rfl, Dev.chRetry, he.dch]
  generalize e.closeOf (s.dev.dch ch) 0 = z at hspace hclose
  have hreg : ∀ o, 0 < o → o < 0x40 → (z.setDch ch { s.dev.dch ch with state := .active, faultId := none }).chReg ch o = s.dev.chReg ch o := fun o h0 ho =>
    (hclose.chReg ch o).trans (he.chReg h0 ho)
  have hch : (z.setDch ch { s.dev.dch ch with state := .active, faultId := none }).dch ch = { s.dev.dch ch with state := .active, faultId := none } := by
    rw [Dev.dch_setDch, if_pos rfl]
  have hread : (z.setDch ch { s.dev.dch ch with state := .active, faultId := none }).readVa 0
      ((z.setDch ch { s.dev.dch ch with state := .active, faultId := none }).chDesc ch) 64 = .ok l := by
    rw [Dev.chDesc, Dev.chBase, hreg 8 (by decide) (by decide), hch, ← hl]
    exact Dev.SpaceKept.readVa (e := z.setDch ch _) hspace _ _ _
  rw [Dev.chRun_nop hread hbad hop (by rw [hreg _ (by decide) (by decide), hsrc]) (by rw [hreg _ (by decide) (by decide), hdst]), Dev.dch_setDch, if_pos rfl, hch]

/-! ### CH_TAIL (R82, R741) -/

theorem Dev.chTailWrite_spec (d : Dev) (hch : ch < 32) (v : Word) : ∃ y : Dev, d.chTailWrite ch v =
    (if d.chOn ch && badIndex (d.chEntries ch) (d.dch ch).head (d.chTail ch) (fld v 0 16) then y.chFaulted ch none (d.dch ch) else y) ∧
    y.chTail ch = fld v 0 16 ∧ y.dch ch = d.dch ch ∧ y.xlat = d.xlat := by
  obtain ⟨g, hg, -, hapart, hin⟩ := dma_tail ⟨ch % 8, by omega⟩
  have hm : fld (d.mergeAt (pgDma ch) (chOff ch 0x10) v).1 0 16 = fld v 0 16 := by
    have hm := mergeAt_of_regAt (pageType_dma hch).1 hg d v
    rw [show chOff ch 0x10 = 0x100 + 0x40 * (ch % 8) + 0x10 from rfl, hm]
    exact fld_mergeFields_any hapart hin
  obtain ⟨y, hy⟩ : ∃ y, y = (d.setReg (pgDma ch) (chOff ch 0x10) (d.mergeAt (pgDma ch) (chOff ch 0x10) v).1).errs (pgDma ch) (d.mergeAt (pgDma ch) (chOff ch 0x10) v).2 := ⟨_, rfl⟩
  have hn := hy ▸ Dev.errs_noted (d.setReg (pgDma ch) (chOff ch 0x10) (d.mergeAt (pgDma ch) (chOff ch 0x10) v).1) (pgDma ch) (d.mergeAt (pgDma ch) (chOff ch 0x10) v).2
  have hkeep : ∀ o, o < 0x40 → o ≠ 0x10 → y.chReg ch o = d.chReg ch o := fun o ho hne =>
    (hn.chKept.chReg ch o).trans (Dev.chReg_setReg_of_ne d ch _ (by decide) ho hne)
  have hdch : y.dch ch = d.dch ch := hn.chKept.dch ch
  have hent : y.chEntries ch = d.chEntries ch := by rw [Dev.chEntries, hkeep 8 (by decide) (by decide), Dev.chEntries]
  have hon : y.chOn ch = d.chOn ch := by rw [Dev.chOn, hkeep 0 (by decide) (by decide), Dev.chOn]
  refine ⟨y, ?_, ?_, ?_, ?_⟩
  · unfold Dev.chTailWrite
    dsimp only
    rw [← hy, hm, hon, hdch]
    rfl
  · rw [Dev.chTail, hn.chKept.chReg, Dev.chReg, Dev.reg_setReg, if_pos rfl, hm]
  · exact hdch
  · exact hn.xlat

theorem ChWritable.tail_good (h : ChWritable s ch) (hgood : badIndex (s.dev.chEntries ch) (s.dev.dch ch).head (s.dev.chTail ch) (fld v 0 16) = false) :
    ∃ u, exec (.chTailWrite ch v) s = .next u ∧ u.dev.chTail ch = fld v 0 16 ∧ u.dev.dch ch = s.dev.dch ch := by
  obtain ⟨y, he, htail, hdch, -⟩ := s.dev.chTailWrite_spec h.1 v
  refine ⟨_, congrArg Host.Outcome.next (h.tail v), ?_⟩
  rw [State.setDev_dev, he, hgood, Bool.and_false, if_neg (by decide)]
  exact ⟨htail, hdch⟩

theorem ChWritable.tail_bad (h : ChWritable s ch) (hon : s.dev.chOn ch = true)
    (hbad : badIndex (s.dev.chEntries ch) (s.dev.dch ch).head (s.dev.chTail ch) (fld v 0 16) = true) : ∃ u, exec (.chTailWrite ch v) s = .next u ∧
      (u.dev.dch ch).state = .faulted ∧ (u.dev.dch ch).faultId = none ∧ (u.dev.page (pgDma ch)).event.getLsbD (2 * (ch % 8) + 1) = true ∧ u.dev.xlat.faults = s.dev.xlat.faults := by
  obtain ⟨y, he, -, -, hxlat⟩ := s.dev.chTailWrite_spec h.1 v
  obtain ⟨hch, hx, hevent⟩ := y.chFaulted_spec ch none (s.dev.dch ch)
  refine ⟨_, congrArg Host.Outcome.next (h.tail v), ?_⟩
  rw [State.setDev_dev, he, hbad, hon, Bool.and_self, if_pos rfl]
  exact ⟨by rw [hch], by rw [hch], hevent, by rw [hx, hxlat]⟩

theorem channelControl : ChannelControl := by
  intro s ch v h
  refine ⟨fun hv hon hb => h.starts hv hon hb, fun hon hbusy => h.stops_idle v hon hbusy, fun hon hbusy hnot => h.stops_busy hon hbusy hnot,
    fun hon hhalt => h.stops_halted hon hhalt, fun hon => h.stops_off hon, fun hnot => h.refused hnot, fun hhalt _ hstop => ?_, fun hgood => h.tail_good hgood,
    fun hon hbad => h.tail_bad hon hbad⟩
  exact ⟨h.skips hhalt hstop, fun l hl hop hbad hsrc hdst => h.resumes hhalt hl hop hbad hsrc hdst⟩

end Sys2Proof.Machine
end

section
/-! The work of a channel: a descriptor started, waited for and ended (R738 to R740): O48. -/

namespace Sys2Proof.Machine
open Sys2Proof

variable {s : State} {d e : Dev} {ch m n i k : Nat} {x : DmaDesc} {l : List Byte}

/-! ### FILL -/

theorem Dev.targetRead_apart (d : Dev) (t a t' a' : Nat) (b : Byte) (h : a ≠ a') : (d.targetWrite t' a' b).targetRead t a = d.targetRead t a := by
  unfold Dev.targetWrite Dev.targetRead
  by_cases h0 : t' = 0
  · rw [if_pos h0]
    dsimp only
    rw [memRead_memWrite, if_neg h]
  · rw [if_neg h0]
    by_cases h1 : t' = 1
    · rw [if_pos h1]
      dsimp only
      rw [memRead_memWrite, if_neg h]
    · rw [if_neg h1]
      dsimp only
      rw [memRead_memWrite, if_neg h]

theorem Dev.targetRead_same (d : Dev) (t a : Nat) (b : Byte) : (d.targetWrite t a b).targetRead t a = b := by
  unfold Dev.targetWrite Dev.targetRead
  repeat' split
  all_goals exact (memRead_memWrite _ _ _ _).trans (if_pos rfl)

/-- Some byte of a transfer from `i` on lands at the address `a`, of any target. -/
def Dev.LandsAt (d : Dev) (x : DmaDesc) (i n a : Nat) : Prop := ∃ j t, i ≤ j ∧ j < i + n ∧ d.translate x.dstRealm (x.dst + j) true = .ok (t, a)

/-- A FILL whose every address translates writes its pattern to each and nothing else. -/
theorem Dev.moveBytes_fill (hop : x.op = 1) (h : ∀ j, i ≤ j → j < i + n → ∃ y, d.translate x.dstRealm (x.dst + j) true = .ok y) :
    (Dev.moveBytes x false none n i d).fault = none ∧ (Dev.moveBytes x false none n i d).done = i + n ∧
    (∀ t a, ¬d.LandsAt x i n a → (Dev.moveBytes x false none n i d).dev.targetRead t a = d.targetRead t a) ∧
    ∀ k t a, i ≤ k → k < i + n → d.translate x.dstRealm (x.dst + k) true = .ok (t, a) →
      (∀ j t' a', i ≤ j → j < i + n → j ≠ k → d.translate x.dstRealm (x.dst + j) true = .ok (t', a') → a' ≠ a) →
      (Dev.moveBytes x false none n i d).dev.targetRead t a = nthD 0 x.pat (k % 8) := by
  induction n generalizing i d with
  | zero => exact ⟨rfl, rfl, fun _ _ _ => rfl, fun k _ _ hl hu => absurd hl (by omega)⟩
  | succ n ih =>
    obtain ⟨⟨t0, a0⟩, h0⟩ := h i (Nat.le_refl i) (by omega)
    have htr : ∀ r va w, (d.targetWrite t0 a0 (nthD 0 x.pat (i % 8))).translate r va w = d.translate r va w := fun r va w => d.translate_targetWrite _ _ _ r va w
    have hstep : Dev.moveBytes x false none (n + 1) i d = Dev.moveBytes x false none n (i + 1) (d.targetWrite t0 a0 (nthD 0 x.pat (i % 8))) := by
      rw [Dev.moveBytes, Dev.moveRead, if_pos hop]
      dsimp only
      rw [h0]
      exact congrArg (Dev.moveBytes x false none n (i + 1)) (if_neg fun hc => Bool.false_ne_true hc.2)
    obtain ⟨hfault, hdone, hkept, hpat⟩ := ih (i := i + 1) (d := d.targetWrite t0 a0 (nthD 0 x.pat (i % 8))) fun j hl hu => by
      rw [htr]
      exact h j (by omega) (by omega)
    rw [hstep]
    refine ⟨hfault, by omega, fun t a hno => ?_, fun k t a hl hu hk hother => ?_⟩
    · rw [hkept t a fun ⟨j, t', hl, hu, hj⟩ => hno ⟨j, t', by omega, by omega, (htr _ _ _).symm.trans hj⟩]
      exact Dev.targetRead_apart _ _ _ _ _ _ fun ha => hno ⟨i, t0, Nat.le_refl i, by omega, ha ▸ h0⟩
    · by_cases hki : k = i
      · subst hki
        obtain ⟨rfl, rfl⟩ : t0 = t ∧ a0 = a := by simpa using h0.symm.trans hk
        rw [hkept t0 a0 fun ⟨j, t', hl', hu', hj⟩ => hother j t' a0 (by omega) (by omega) (by omega) ((htr _ _ _).symm.trans hj) rfl]
        exact Dev.targetRead_same _ _ _ _
      · exact hpat k t a (by omega) (by omega) ((htr _ _ _).trans hk) fun j t' a' hl' hu' hj he => hother j t' a' (by omega) (by omega) hj ((htr _ _ _).symm.trans he)

/-! ### The descriptor in hand runs -/

/-- A realm that the channel may not read is a fault. -/
theorem Dev.chRun_denied {hostErr : Bool} {ue : Option Nat} (hl : d.readVa 0 (d.chDesc ch) 64 = .ok l) (hbad : (dmaParse l).bad = false) (hover : (dmaParse l).overlaps = false)
    (hsrc : bit (d.chReg ch 0x28) (dmaParse l).srcRealm = false) :
    d.chRun ch hostErr ue = d.chFault ch (dmaParse l).srcRealm ⟨3, 0, (dmaParse l).src⟩ false (d.dch ch).progress := by
  unfold Dev.chRun
  dsimp only
  rw [hl]
  dsimp only
  rw [hbad, hover, hsrc]
  rfl

theorem Dev.chRun_wait {hostErr : Bool} {ue : Option Nat} (hl : d.readVa 0 (d.chDesc ch) 64 = .ok l) (hbad : (dmaParse l).bad = false) (hover : (dmaParse l).overlaps = false)
    (hsrc : bit (d.chReg ch 0x28) (dmaParse l).srcRealm = true) (hdst : bit (d.chReg ch 0x28) (dmaParse l).dstRealm = true) (hop : (dmaParse l).op = 2) :
    d.chRun ch hostErr ue = d.setDch ch { d.dch ch with wait := some (nearShort d.now (dmaParse l).time) } := by
  unfold Dev.chRun
  dsimp only
  rw [hl]
  dsimp only
  rw [hbad, hover, hsrc, hdst, hop]
  rfl

theorem Dev.chRun_fill (hl : d.readVa 0 (d.chDesc ch) 64 = .ok l) (hbad : (dmaParse l).bad = false) (hover : (dmaParse l).overlaps = false)
    (hsrc : bit (d.chReg ch 0x28) (dmaParse l).srcRealm = true) (hdst : bit (d.chReg ch 0x28) (dmaParse l).dstRealm = true) (hop : (dmaParse l).op = 1) (hp : (d.dch ch).progress = 0)
    (hok : (Dev.moveBytes (dmaParse l) false none (dmaParse l).len 0 d).fault = none) :
    d.chRun ch false none = (Dev.moveBytes (dmaParse l) false none (dmaParse l).len 0 d).dev.setDch ch
      { d.dch ch with ending := some (1, (Dev.moveBytes (dmaParse l) false none (dmaParse l).len 0 d).done),
                      progress := (Dev.moveBytes (dmaParse l) false none (dmaParse l).len 0 d).done } := by
  unfold Dev.chRun
  dsimp only
  rw [hl]
  dsimp only
  rw [hbad, hover, hsrc, hdst, hop, hp, Nat.sub_zero, hok]
  rfl

/-! ### DMA_DESCRIPTOR_START -/

/-- The unit once mover `m` has taken the descriptor at the head of channel `ch`. -/
def Dev.moverTakes (d : Dev) (m ch : Nat) : Dev :=
  Dev.setDch { d with dma := { d.dma with movers := setNth d.dma.movers m (some ch), lastServed := ch } } ch
    { d.dch ch with busy := true, progress := 0, lastFault := 65535, wait := none, ending := none }

theorem Dev.dch_moverTakes (d : Dev) (m ch : Nat) : (d.moverTakes m ch).dch ch = { d.dch ch with busy := true, progress := 0, lastFault := 65535, wait := none, ending := none } :=
  (Dev.dch_setDch _ _ _ _).trans (if_pos rfl)

theorem Dev.moverTakes_spaceKept (d : Dev) (m ch : Nat) : d.SpaceKept (d.moverTakes m ch) := ⟨rfl, rfl⟩

theorem Dev.chDesc_moverTakes (d : Dev) (m ch : Nat) : (d.moverTakes m ch).chDesc ch = d.chDesc ch := by
  rw [Dev.chDesc, Dev.dch_moverTakes]
  rfl

theorem Dev.dmaStart_takes (hm : m < 8) (hfree : nthD none d.dma.movers m = none) (hc : d.chChoose = some ch) (hostErr : Bool) (ue : Option Nat) :
    d.dmaStart m hostErr ue = (d.moverTakes m ch).chRun ch hostErr ue := by
  unfold Dev.dmaStart
  rw [if_neg (by rw [hfree]; simp; omega), hc]
  rfl

/-- A descriptor at the head of the channel that a free mover takes. -/
structure Dev.Takes (d : Dev) (m ch : Nat) (l : List Byte) : Prop where
  mover : m < 8
  free : nthD none d.dma.movers m = none
  chosen : d.chChoose = some ch
  read : d.readVa 0 (d.chDesc ch) 64 = .ok l
  good : (dmaParse l).bad = false
  apart : (dmaParse l).overlaps = false

theorem Dev.Takes.reads (h : d.Takes m ch l) : (d.moverTakes m ch).readVa 0 ((d.moverTakes m ch).chDesc ch) 64 = .ok l := by
  rw [Dev.chDesc_moverTakes, (d.moverTakes_spaceKept m ch).readVa, h.read]

theorem Dev.Takes.row (h : s.dev.Takes m ch l) (hr : s.ready = true) :
    exec (.dmaDescriptorStart m false none) s = .next (s.setDev ((s.dev.moverTakes m ch).chRun ch false none)) := by
  rw [exec_actReady (f := fun d => d.dmaStart m false none) rfl hr, Dev.dmaStart_takes h.mover h.free h.chosen]

theorem Dev.Takes.denied (h : s.dev.Takes m ch l) (hr : s.ready = true) (hsrc : bit (s.dev.chReg ch 0x28) (dmaParse l).srcRealm = false) :
    ∃ u x, exec (.dmaDescriptorStart m false none) s = .next u ∧ (u.dev.dch ch).state = .faulted ∧
      u.dev.xlat.faults = s.dev.xlat.faults ++ [x] ∧ x.code = 3 ∧ x.work = .dma ch (s.dev.dch ch).head ∧ (u.dev.page (pgDma ch)).event.getLsbD (2 * (ch % 8) + 1) = true := by
  obtain ⟨hstate, ⟨x, hx, hcode, hwork⟩, hevent⟩ := (s.dev.moverTakes m ch).chFault_spec ch (dmaParse l).srcRealm ⟨3, 0, (dmaParse l).src⟩ false ((s.dev.moverTakes m ch).dch ch).progress
  refine ⟨_, x, h.row hr, ?_⟩
  rw [State.setDev_dev, Dev.chRun_denied h.reads h.good h.apart hsrc]
  rw [Dev.dch_moverTakes] at hwork
  exact ⟨hstate, hx, hcode, hwork, hevent⟩

theorem Dev.Takes.waits (h : s.dev.Takes m ch l) (hr : s.ready = true) (hsrc : bit (s.dev.chReg ch 0x28) (dmaParse l).srcRealm = true)
    (hdst : bit (s.dev.chReg ch 0x28) (dmaParse l).dstRealm = true) (hop : (dmaParse l).op = 2) : ∃ u, exec (.dmaDescriptorStart m false none) s = .next u ∧
      (u.dev.dch ch).wait = some (nearShort s.dev.now (dmaParse l).time) ∧ (u.dev.dch ch).busy = true ∧ u.dev.mem = s.dev.mem := by
  refine ⟨_, h.row hr, ?_⟩
  rw [State.setDev_dev, Dev.chRun_wait h.reads h.good h.apart hsrc hdst hop, Dev.dch_setDch, if_pos rfl, Dev.dch_moverTakes]
  exact ⟨rfl, rfl, rfl⟩

theorem Dev.Takes.nop (h : s.dev.Takes m ch l) (hr : s.ready = true) (hsrc : bit (s.dev.chReg ch 0x28) (dmaParse l).srcRealm = true)
    (hdst : bit (s.dev.chReg ch 0x28) (dmaParse l).dstRealm = true) (hop : (dmaParse l).op = 3) : ∃ u, exec (.dmaDescriptorStart m false none) s = .next u ∧
      (u.dev.dch ch).ending = some (1, 0) ∧ u.dev.mem = s.dev.mem := by
  refine ⟨_, h.row hr, ?_⟩
  rw [State.setDev_dev, Dev.chRun_nop h.reads h.good hop hsrc hdst, Dev.dch_setDch, if_pos rfl]
  exact ⟨rfl, rfl⟩

theorem Dev.Takes.fills (h : s.dev.Takes m ch l) (hr : s.ready = true) (hsrc : bit (s.dev.chReg ch 0x28) (dmaParse l).srcRealm = true)
    (hdst : bit (s.dev.chReg ch 0x28) (dmaParse l).dstRealm = true) (hop : (dmaParse l).op = 1)
    (hok : ∀ k, k < (dmaParse l).len → ∃ x, s.dev.translate (dmaParse l).dstRealm ((dmaParse l).dst + k) true = .ok x) :
    ∃ u, exec (.dmaDescriptorStart m false none) s = .next u ∧ (u.dev.dch ch).ending = some (1, (dmaParse l).len) ∧
      (∀ k t a, k < (dmaParse l).len → s.dev.translate (dmaParse l).dstRealm ((dmaParse l).dst + k) true = .ok (t, a) →
        (∀ j t' a', j < (dmaParse l).len → j ≠ k → s.dev.translate (dmaParse l).dstRealm ((dmaParse l).dst + j) true = .ok (t', a') → a' ≠ a) →
        u.dev.targetRead t a = nthD 0 (dmaParse l).pat (k % 8)) ∧
      (∀ t a, (∀ j t' a', j < (dmaParse l).len → s.dev.translate (dmaParse l).dstRealm ((dmaParse l).dst + j) true = .ok (t', a') → a' ≠ a) →
        u.dev.targetRead t a = s.dev.targetRead t a) := by
  have hspace := s.dev.moverTakes_spaceKept m ch
  have htr := hspace.translate (dmaParse l).dstRealm
  obtain ⟨hfault, hdone, hkept, hpat⟩ := Dev.moveBytes_fill (d := s.dev.moverTakes m ch) (i := 0) (n := (dmaParse l).len) hop fun j _ hu => by
    rw [htr]
    exact hok j (by omega)
  have hrun := Dev.chRun_fill h.reads h.good h.apart hsrc hdst hop (congrArg DmaCh.progress (s.dev.dch_moverTakes m ch)) hfault
  refine ⟨_, h.row hr, ?_⟩
  rw [State.setDev_dev, hrun]
  simp only [Nat.zero_add] at hdone hkept hpat
  refine ⟨?_, fun k t a hk ht hother => ?_, fun t a hno => ?_⟩
  · rw [Dev.dch_setDch, if_pos rfl, hdone]
  · exact hpat k t a (Nat.zero_le k) hk ((htr _ _).trans ht) fun j t' a' _ hu hj he => hother j t' a' hu hj ((htr _ _).symm.trans he)
  · exact (hkept t a fun ⟨j, t', _, hu, he⟩ => hno j t' a (by omega) ((htr _ _).symm.trans he) rfl).trans (hspace.targetRead t a)

/-! ### DMA_WAIT_EXPIRY and DMA_DESCRIPTOR_END -/

theorem dmaWait_due {t : Time} (hr : s.ready = true) (hw : (s.dev.dch ch).wait = some t) (ht : t ≤ s.dev.now) : ∃ u, exec (.dmaWaitExpiry ch) s = .next u ∧
    u.dev.dch ch = { s.dev.dch ch with wait := none, ending := some (1, 0) } ∧ ∀ k, k ≠ ch → u.dev.dch k = s.dev.dch k := by
  refine ⟨_, exec_actReady (f := fun d => d.dmaWait ch) rfl hr, ?_⟩
  rw [State.setDev_dev, Dev.dmaWait]
  dsimp only
  rw [hw]
  dsimp only
  rw [if_neg (not_lt.2 ht)]
  exact ⟨(Dev.dch_setDch _ _ _ _).trans (if_pos rfl), fun k hk => (Dev.dch_setDch _ _ _ _).trans (if_neg hk)⟩

theorem dmaWait_waits {t : Time} (hr : s.ready = true) (hw : (s.dev.dch ch).wait = some t) (ht : s.dev.now < t) : exec (.dmaWaitExpiry ch) s = .next (s.setDev s.dev) := by
  rw [exec_actReady (f := fun d => d.dmaWait ch) rfl hr, Dev.dmaWait]
  rw [hw]
  exact congrArg (fun d => Host.Outcome.next (s.setDev d)) (if_pos ht)

theorem dmaEnd_goes {r n : Nat} (hr : s.ready = true) (he : (s.dev.dch ch).ending = some (r, n)) (hs : (s.dev.dch ch).stop = false) :
    ∃ u, exec (.dmaDescriptorEnd ch) s = .next u ∧
      u.dev.dch ch = { state := (s.dev.dch ch).state, head := ((s.dev.dch ch).head + 1) % s.dev.chEntries ch } ∧ u.dev.dma.movers.contains (some ch) = false ∧
      u.dev.counter (pgDma ch) (chOff ch 0x38) = s.dev.counter (pgDma ch) (chOff ch 0x38) + 1 ∧
      u.dev.counter (pgDma ch) (chOff ch 0x30) = s.dev.counter (pgDma ch) (chOff ch 0x30) + BitVec.ofNat 64 n := by
  obtain ⟨hdch, -, hmovers, hcount⟩ := s.dev.chEnd_goes he hs
  refine ⟨_, exec_actReady (f := fun d => d.chEnd ch) rfl hr, hdch, hmovers, ?_, ?_⟩
  · rw [State.setDev_dev, hcount _ _ (chOff_lt ch (by decide)), Dev.counter_bump, if_neg (chReg_key (by decide) (by decide) (by decide)), Dev.counter_inc_same]
  · rw [State.setDev_dev, hcount _ _ (chOff_lt ch (by decide)), Dev.counter_bump, if_pos rfl,
      Dev.counter_inc_apart _ _ (chOff_lt ch (by decide)) (chOff_lt ch (by decide)) (by unfold chOff; omega)]

theorem channelWork : ChannelWork := by
  intro s m ch l hr
  refine ⟨fun hm hfree hc hl hbad hover => ?_, fun t hw ht => dmaWait_due hr hw ht, fun t hw ht => dmaWait_waits hr hw ht, fun r n _ he hs => dmaEnd_goes hr he hs,
    fun r n _ he hs => ?_, fun he => ?_⟩
  · have h : s.dev.Takes m ch l := ⟨hm, hfree, hc, hl, hbad, hover⟩
    exact ⟨fun hsrc => h.denied hr hsrc, fun hsrc hdst => ⟨fun hop => h.waits hr hsrc hdst hop, fun hop => h.nop hr hsrc hdst hop,
      fun hop hok => h.fills hr hsrc hdst hop hok⟩⟩
  · obtain ⟨hon, hstate, -⟩ := s.dev.chEnd_stops he hs
    exact ⟨_, exec_actReady (f := fun d => d.chEnd ch) rfl hr, hon, hstate⟩
  · rw [exec_actReady (f := fun d => d.chEnd ch) rfl hr, Dev.chEnd]
    dsimp only
    rw [he]

/-! ### The rows of the chapter that are no command of a ring -/

/-- A row before the unit is READY. -/
theorem exec_notReady {c : Instr} {f : Dev → Dev} (hx : exec c s = .next (s.actReady f)) (hr : s.ready = false) : exec c s = .next s :=
  hx.trans (congrArg Host.Outcome.next (if_neg (ne_true_of_eq_false hr)))

theorem Dev.dmaStart_idle {err : Bool} {ue : Option Nat} (h : 8 ≤ n ∨ (nthD none d.dma.movers n).isSome = true ∨ d.chChoose = none) : d.dmaStart n err ue = d := by
  unfold Dev.dmaStart
  split
  · rfl
  next hno =>
    have hc : d.chChoose = none := by
      obtain h | h | h := h
      · exact absurd (Or.inl h) hno
      · exact absurd (Or.inr h) hno
      · exact h
    rw [hc]

theorem supportForms : SupportForms := by
  intro s n k v err ue
  refine ⟨fun hr => ⟨exec_actReady (f := fun d => d.releaseDue (d.now / usT * usT) false) rfl hr, exec_actReady (f := fun d => d.faultTimeout n) rfl hr,
      exec_actReady (f := fun d => d.dmaStart n err ue) rfl hr, exec_actReady (f := fun d => d.dmaWait n) rfl hr, exec_actReady (f := fun d => d.chEnd n) rfl hr,
      exec_actReady (f := fun d => d.eccReady) rfl hr, fun hn => ?_⟩,
    fun hu => ⟨exec_act (f := fun d => d.channelFailure n k) rfl hu, exec_onDev (g := fun s => s.write pgXlat 0x050 8 v) rfl hu⟩, fun hn => ?_, fun hn => ?_, fun hn => ?_,
    fun h => Dev.dmaStart_idle h, fun h => ?_, fun h => ?_, fun h => ?_, fun h => if_pos h,
    fun hr => ⟨exec_notReady rfl hr, exec_notReady rfl hr, exec_notReady rfl hr, exec_notReady rfl hr, exec_notReady rfl hr, exec_notReady rfl hr, exec_notReady rfl hr⟩⟩
  · have hrow : exec (.tempHigh n k) s = .next (s.actReady fun d => if 16 ≤ n then d else
      Dev.raise { d with mem := { d.mem with mr4 := tabPutD 0 d.mem.mr4 n (k % 8) } } (pgMemctl n) 2 (0x160 + n) 0x0D33 (fmk 0 64 n) 0) := rfl
    rw [exec_actReady hrow hr, if_pos hn]
  · have hno : ∀ o w, s.chWrite n o w = s := fun o w => if_neg (Nat.not_lt.2 hn)
    exact ⟨congrArg Host.Outcome.next (hno _ _), congrArg Host.Outcome.next (hno _ _), congrArg Host.Outcome.next (hno _ _), congrArg Host.Outcome.next (hno _ _),
      congrArg Host.Outcome.next (hno _ _)⟩
  · exact congrArg Host.Outcome.next (if_neg (Nat.not_lt.2 hn))
  · exact congrArg Host.Outcome.next (if_neg (Nat.not_lt.2 hn))
  · rw [Dev.faultTimeout, h]
  · rw [Dev.dmaWait, h]
  · rw [Dev.eccReady, h]

/-- Settles O48: a channel is put in service, stopped, resumed and skipped through CH_CTRL; a mover runs its descriptors; and every row of the chapter is its operation. -/
theorem dmaChannels : Obligations.DmaChannels := ⟨channelControl, channelWork, supportForms⟩

end Sys2Proof.Machine
end

section
/-! Frames of the Mirror Link: refused ones, ACK, and HELLO by Table 14-4 (R652 to R655, R661): O44. -/

namespace Sys2Proof.Machine
open Sys2Proof

variable {s : State} {d e x : Dev} {f : LinkHdr} {i l : Nat}

/-! ### Frames refused -/

theorem Dev.linkAccept_refused (g : Dev → Dev) (hup : d.pair.up = true) (h : f.crcOk = false ∨ f.seq ≠ d.pair.rxSeq) : d.linkAccept f g = d.inc pgPair 0x0C8 := by
  have hbad : (!f.crcOk || f.seq != d.pair.rxSeq) = true := by
    rcases h with h | h
    · simp [h]
    · simp [h]
  unfold Dev.linkAccept
  rw [if_neg (by rw [hup]; exact Bool.false_ne_true), if_pos hbad]

theorem linkBad (h : f.crcOk = false ∨ f.seq ≠ s.dev.pair.rxSeq) : (s.dev.pair.up && f.crcOk && f.seq == s.dev.pair.rxSeq) = false := by
  rcases h with h | h
  · simp [h]
  · simp [h]

theorem framesRefused : FramesRefused := by
  intro s f h es rs ds ns b p rc i j k v hup huser hlink hbad c hc
  have hdev : ∀ (g : Dev → Dev) (row : Instr), exec row s = .next (s.act fun d => d.linkAccept f g) → exec row s = .next (s.setDev (s.dev.inc pgPair 0x0C8)) := fun g row hrow => by
    rw [exec_act (f := fun d => d.linkAccept f g) hrow hup, Dev.linkAccept_refused _ hlink hbad]
  have htake : ∀ (g : State → State) (row : Instr), exec row s = .next (s.actAll fun s => s.linkTake f g) → exec row s = .next (s.setDev (s.dev.inc pgPair 0x0C8)) :=
    fun g row hrow => by
      rw [exec_onDev hrow hup]
      simp only [State.linkTake, linkBad hbad, Bool.false_eq_true, if_false, State.onDev, Dev.linkAccept_refused _ hlink hbad]
  simp only [List.mem_cons, List.not_mem_nil, or_false] at hc
  rcases hc with rfl | rfl | rfl | rfl | rfl | rfl | rfl | rfl | rfl | rfl | rfl | rfl | rfl | rfl | rfl
  · rw [exec_act (f := fun d => if d.linkUser then d.linkAccept f (fun d => d.helloTable h) else d) rfl hup, if_pos huser, Dev.linkAccept_refused _ hlink hbad]
  · exact hdev _ _ rfl
  · exact hdev _ _ rfl
  · exact hdev _ _ rfl
  · exact hdev _ _ rfl
  · exact hdev _ _ rfl
  · exact hdev _ _ rfl
  · exact hdev _ _ rfl
  · exact htake _ _ rfl
  · exact htake _ _ rfl
  · exact hdev _ _ rfl
  · exact hdev _ _ rfl
  · exact hdev _ _ rfl
  · exact hdev _ _ rfl
  · rw [exec_onDev rfl hup]
    simp only [linkBad hbad, Bool.false_eq_true, if_false, Dev.linkAccept_refused _ hlink hbad]

/-! ### Frames taken -/

theorem Takes.up (h : Takes s f) : s.up = true := h.1

theorem Takes.heard (h : Takes s f) : s.dev.took.LinkDone (s.dev.heard f) := by
  obtain ⟨-, -, hlink, hcrc, hseq⟩ := h
  exact s.dev.heard_linkDone f hlink hcrc hseq

/-- A row that a frame is: what it does to the unit that has taken the frame. -/
theorem Takes.row (h : Takes s f) {c : Instr} {g : Dev → Dev} (hrow : exec c s = .next (s.act fun d => d.linkAccept f g)) : exec c s = .next (s.setDev (g (s.dev.heard f))) := by
  obtain ⟨hup, -, hlink, hcrc, hseq⟩ := h
  rw [exec_act (f := fun d => d.linkAccept f g) hrow hup, Dev.linkAccept_eq _ _ _ hlink hcrc hseq]

theorem Takes.takeRow (h : Takes s f) {c : Instr} {g : State → State} (hrow : exec c s = .next (s.actAll fun s => s.linkTake f g)) :
    exec c s = .next (g (s.setDev (s.dev.heard f))) := by
  rw [exec_onDev hrow h.up]
  simp only [State.linkTake, h.good, if_true]
  rfl

theorem Takes.role (h : Takes s f) : (s.dev.heard f).pair.role = s.dev.pair.role := h.heard.role
theorem Takes.partner (h : Takes s f) : (s.dev.heard f).pair.partner = s.dev.pair.partner := h.heard.partner

/-! ### ACK -/

/-- The unit once a frame is accepted: the next one is awaited, and what it acknowledges is released. -/
def Dev.released (d : Dev) (f : LinkHdr) : Dev := d.onPair fun p => { p with
  rxSeq := (p.rxSeq + 1) % 4294967296
  rxAt := d.now
  sent := p.sent.filter fun x => decide ((x.seq + 4294967296 - f.ack) % 4294967296 < 2147483648)
  ackAt := if (p.sent.filter fun x => decide ((x.seq + 4294967296 - f.ack) % 4294967296 < 2147483648)).length < p.sent.length then d.now else p.ackAt }

theorem Takes.heard_eq (h : Takes s f) : s.dev.heard f = (s.dev.released f).linkPump.partnerAnswers := by
  obtain ⟨-, -, hlink, hcrc, hseq⟩ := h
  have hgood : (!f.crcOk || f.seq != s.dev.pair.rxSeq) = false := by simp [hcrc, hseq]
  unfold Dev.heard Dev.linkAccept
  rw [if_neg (by rw [hlink]; exact Bool.false_ne_true), if_neg (ne_true_of_eq_false hgood)]
  simp only [decide_eq_true_eq, id]
  rfl

/-- With nothing ready, the frames that wait stay as they are. -/
theorem Dev.linkPump_empty (h : d.pair.ready = []) : d.linkPump = d := by
  rw [Dev.linkPump, h]
  rfl

theorem Dev.pair_foldl {α : Type} (g : Dev → α → Dev) (h : ∀ (d : Dev) (a : α), (g d a).pair = d.pair) (l : List α) (d : Dev) : (l.foldl g d).pair = d.pair := by
  induction l generalizing d with
  | nil => rfl
  | cons a t ih => exact (ih _).trans (h d a)

theorem Dev.complete_pair (d : Dev) (k : Token) (st : Status) (n : Nat) (v : Word) : (d.complete k st n v).pair = d.pair := by rw [d.complete_completed k st n v]

theorem Dev.partnerAnswers_pair (d : Dev) : d.partnerAnswers.pair = d.pair := by
  have htick : ∀ d : Dev, d.tickFree.pair = d.pair := fun _ => rfl
  unfold Dev.partnerAnswers
  split
  · rfl
  · exact Dev.pair_foldl _ (fun d _ => (Dev.complete_pair _ _ _ _ _).trans (htick d)) _ _

theorem ackTaken : AckTaken := by
  intro s f h hready
  have hsent : (s.dev.heard f).pair = (s.dev.released f).pair := by
    rw [h.heard_eq, Dev.partnerAnswers_pair, Dev.linkPump_empty (d := s.dev.released f) hready]
  refine ⟨_, h.row (g := id) rfl, ?_⟩
  rw [State.setDev_dev, id, hsent]
  exact ⟨rfl, rfl, rfl, rfl, rfl, h.heard.legs⟩

/-! ### HELLO (Table 14-4) -/

/-- The unit that a HELLO has told of its partner. -/
def Dev.introduced (d : Dev) (h : HelloMsg) : Dev := d.onPair fun p => { p with partnerId := h.serial }

/-- The unit that a HELLO that proves itself, of the other strap, has told of its partner's format. -/
def Dev.greeted (d : Dev) (h : HelloMsg) : Dev :=
  let y := (d.introduced h).onPair fun p => { p with hello := true, mismatch := !decide (h.stateFmt = d.boot.stateFmt) }
  if decide (h.stateFmt = d.boot.stateFmt) then y else y.raise pgBoot 4 0x005 0x0E05 (fmk 0 64 d.boot.runBank) (fmk 0 64 d.boot.version)

theorem Dev.greeted_noted (d : Dev) (h : HelloMsg) :
    Dev.Noted ((d.introduced h).onPair fun p => { p with hello := true, mismatch := !decide (h.stateFmt = d.boot.stateFmt) }) (d.greeted h) :=
  .ite (.refl _) (Dev.raise_noted _ _ _ _ _ _ _)

theorem Dev.greeted_pair (d : Dev) (h : HelloMsg) :
    (d.greeted h).pair = { d.pair with partnerId := h.serial, hello := true, mismatch := !decide (h.stateFmt = d.boot.stateFmt) } := (d.greeted_noted h).pair_eq

theorem Dev.greeted_mismatch (d : Dev) (h : HelloMsg) (hf : h.stateFmt ≠ d.boot.stateFmt) : ((d.greeted h).page pgBoot).event.getLsbD 4 = true := by
  unfold Dev.greeted
  dsimp only
  rw [if_neg (by simpa using hf)]
  exact Dev.raise_bit _ _ _ _ _ _ _ (by decide)

/-- A secondary that its primary has greeted follows it, with nothing kept of before. -/
def Dev.follows (d : Dev) (ok : Bool) (h : HelloMsg) : Dev := d.pairForget.onPair fun p => { p with partner := seenAs ok h.sees }

theorem Dev.helloTable_conflict (h : HelloMsg) (hphase : d.boot.phase ≠ .recovery) (hrole : h.role ≠ 4) (hbad : h.authOk = false ∨ h.strap = d.pair.strap) :
    ∃ n, d.helloTable h = (d.introduced h).roleConflict n := by
  unfold Dev.helloTable
  rw [if_neg (fun hc => hc.elim hrole hphase)]
  dsimp only
  cases hauth : h.authOk
  · exact ⟨2, if_pos rfl⟩
  · rw [hauth] at hbad
    have hstrap : h.strap = d.pair.strap := hbad.resolve_left Bool.noConfusion
    exact ⟨0, (if_neg (by decide)).trans (if_pos hstrap)⟩

/-- What a HELLO decides by the role of the unit. -/
def Dev.helloDecides (d : Dev) (ok : Bool) (h : HelloMsg) : Dev :=
  match d.pair.role with
  | .undecided =>
    if h.role = 2 then (d.becomes .secondary 0).follows ok h
    else if h.role = 1 then (if d.pair.strap = 1 then (d.becomes .primary 0).meetPartner ok else (d.becomes .secondary 0).follows ok h)
    else d
  | .primary => if h.role = 2 then d.roleConflict 0 else if h.role = 1 ∨ h.role = 3 then d.meetPartner ok else d
  | .secondary => if h.role = 2 then d.follows ok h else d
  | .solo => d

theorem Dev.helloTable_good (h : HelloMsg) (hphase : d.boot.phase ≠ .recovery) (hrole : h.role ≠ 4) (hauth : h.authOk = true) (hstrap : h.strap ≠ d.pair.strap) :
    d.helloTable h = (d.greeted h).helloDecides (decide (h.stateFmt = d.boot.stateFmt)) h := by
  unfold Dev.helloTable
  rw [if_neg (fun hc => hc.elim hrole hphase)]
  dsimp only
  rw [hauth, if_neg (by decide)]
  exact if_neg hstrap

theorem Dev.meetPartner_pair (d : Dev) (ok : Bool) : (d.meetPartner ok).pair =
    { d.pair.forgotten with held := [], partner := if bit (d.reg pgPair 0x050) 0 && ok then .joining else .waiting, wanted := bit (d.reg pgPair 0x050) 0 && ok } := by
  unfold Dev.meetPartner
  dsimp only [Dev.onPair]
  rw [Dev.releaseForget_pair]

theorem Dev.meetPartner_raised (d : Dev) (ok : Bool) : d.Raised (d.meetPartner ok) := d.raised_releaseForget.trans (Dev.raised_onPair _ _)

theorem Dev.helloDecides_raised (d : Dev) (ok : Bool) (h : HelloMsg) : d.Raised (d.helloDecides ok h) := by
  have hmeets : ∀ (x : Dev) r, x.Raised ((x.becomes r 0).meetPartner ok) := fun x r => (Dev.raised_onPair _ _).trans (Dev.meetPartner_raised _ _)
  have hfollows : ∀ (x : Dev), x.Raised (x.follows ok h) := fun x => fun _ _ hb => hb
  unfold Dev.helloDecides
  split
  · exact .ite (hfollows _) (.ite (.ite (hmeets _ _) (hfollows _)) (Dev.raised_refl _))
  · exact .ite ((Dev.raised_onPair _ _).trans (Dev.pairEvent_raised _ _ _ _)) (.ite (Dev.meetPartner_raised _ _) (Dev.raised_refl _))
  · exact .ite (hfollows _) (Dev.raised_refl _)
  · exact Dev.raised_refl _

/-- The pair of a unit after a HELLO has decided, apart from what was kept for the partner, and from its role and partner. -/
theorem Dev.helloDecides_keeps (d : Dev) (ok : Bool) (h : HelloMsg) : (d.helloDecides ok h).pair.partnerId = d.pair.partnerId ∧ (d.helloDecides ok h).pair.hello = d.pair.hello := by
  have hmeets : ∀ x : Dev, (x.meetPartner ok).pair.partnerId = x.pair.partnerId ∧ (x.meetPartner ok).pair.hello = x.pair.hello := fun x => by
    rw [Dev.meetPartner_pair]
    exact ⟨rfl, rfl⟩
  have hconflict : ∀ x : Dev, (x.roleConflict 0).pair.partnerId = x.pair.partnerId ∧ (x.roleConflict 0).pair.hello = x.pair.hello := fun x => by
    rw [Dev.roleConflict, Dev.pairEvent_pair]
    exact ⟨rfl, rfl⟩
  have hite : ∀ {c : Prop} [Decidable c] {a b : Dev}, (a.pair.partnerId = d.pair.partnerId ∧ a.pair.hello = d.pair.hello) →
      (b.pair.partnerId = d.pair.partnerId ∧ b.pair.hello = d.pair.hello) →
      (if c then a else b).pair.partnerId = d.pair.partnerId ∧ (if c then a else b).pair.hello = d.pair.hello := by
    intro c _ a b ha hb
    split
    · exact ha
    · exact hb
  unfold Dev.helloDecides
  split
  · exact hite ⟨rfl, rfl⟩ (hite (hite (hmeets (d.becomes .primary 0)) ⟨rfl, rfl⟩) ⟨rfl, rfl⟩)
  · exact hite (hconflict d) (hite (hmeets d) ⟨rfl, rfl⟩)
  · exact hite ⟨rfl, rfl⟩ ⟨rfl, rfl⟩
  · exact ⟨rfl, rfl⟩

/-- What a HELLO of the other unit's primary, of an undecided one or of its secondary makes of the role and of the partner. -/
theorem Dev.helloDecides_role (d : Dev) (ok : Bool) (h : HelloMsg) :
    (d.pair.role = .undecided → h.role = 2 → (d.helloDecides ok h).pair.role = .secondary ∧ (d.helloDecides ok h).pair.cause = 0) ∧
    (d.pair.role = .undecided → h.role = 1 → (d.helloDecides ok h).pair.role = if d.pair.strap = 1 then .primary else .secondary) ∧
    (d.pair.role = .undecided → h.role = 3 → (d.helloDecides ok h).pair.role = .undecided) ∧
    (d.pair.role = .primary → h.role = 2 → (d.helloDecides ok h).pair.role = .primary ∧ (d.helloDecides ok h).pair.partner = .conflict ∧
      ((d.helloDecides ok h).page pgPair).event.getLsbD 5 = true) ∧
    (d.pair.role = .primary → h.role = 1 ∨ h.role = 3 → (d.helloDecides ok h).pair.role = .primary ∧
      (d.helloDecides ok h).pair.partner = if bit (d.reg pgPair 0x050) 0 && ok then .joining else .waiting) ∧
    (d.pair.role = .secondary → h.role = 2 → (d.helloDecides ok h).pair.role = .secondary ∧ (d.helloDecides ok h).pair.partner = seenAs ok h.sees) := by
  unfold Dev.helloDecides
  refine ⟨fun hr h2 => ?_, fun hr h1 => ?_, fun hr h3 => ?_, fun hr h2 => ?_, fun hr h13 => ?_, fun hr h2 => ?_⟩
  · rw [hr]
    dsimp only
    rw [if_pos h2]
    exact ⟨rfl, rfl⟩
  · rw [hr]
    dsimp only
    rw [if_neg (by omega), if_pos h1]
    split
    · rw [Dev.meetPartner_pair]
      rfl
    · rfl
  · rw [hr]
    dsimp only
    rw [if_neg (by omega), if_neg (by omega), hr]
  · rw [hr]
    dsimp only
    rw [if_pos h2, Dev.roleConflict, Dev.pairEvent_pair]
    exact ⟨hr, rfl, Dev.pairEvent_bit _ _ _ _ (by decide)⟩
  · rw [hr]
    dsimp only
    rw [if_neg (by omega), if_pos h13, Dev.meetPartner_pair]
    exact ⟨hr, rfl⟩
  · rw [hr]
    dsimp only
    rw [if_pos h2]
    exact ⟨hr, rfl⟩

theorem helloTable : HelloTable := by
  intro s f h ht hphase hrole
  have hboot : (s.dev.heard f).boot = s.dev.boot := ht.heard.boot
  have hstrap : (s.dev.heard f).pair.strap = s.dev.pair.strap := by
    rw [ht.heard.pairRest]
    rfl
  have hreg : (s.dev.heard f).reg pgPair 0x050 = s.dev.reg pgPair 0x050 := ht.heard.reg _ _
  have hr := ht.role
  have hrow : exec (.hello f h) s = .next (s.setDev ((s.dev.heard f).helloTable h)) := by
    obtain ⟨hup, huser, hlink, hcrc, hseq⟩ := ht
    rw [exec_act (f := fun d => if d.linkUser then d.linkAccept f (fun d => d.helloTable h) else d) rfl hup, if_pos huser, Dev.linkAccept_eq _ _ _ hlink hcrc hseq]
  rw [← hboot] at hphase
  refine ⟨_, hrow, ?_⟩
  rw [State.setDev_dev]
  generalize s.dev.heard f = d at *
  by_cases hbad : h.authOk = false ∨ h.strap = d.pair.strap
  · obtain ⟨n, hn⟩ := Dev.helloTable_conflict h hphase hrole hbad
    have hpair : (d.helloTable h).pair = { d.pair with partnerId := h.serial, partner := .conflict } := by
      rw [hn, Dev.roleConflict, Dev.pairEvent_pair]
      rfl
    refine ⟨by rw [hpair], fun _ => ⟨by rw [hpair], by rw [hpair, ← hr], ?_⟩, fun hauth hne => ?_⟩
    · rw [hn]
      exact Dev.pairEvent_bit _ _ _ _ (by decide)
    · refine absurd hbad ?_
      rw [hauth, hstrap]
      exact fun hc => hc.elim Bool.noConfusion hne
  · have hauth : h.authOk = true := by simpa using fun hc => hbad (.inl hc)
    have hne : h.strap ≠ d.pair.strap := fun hc => hbad (.inr hc)
    rw [Dev.helloTable_good h hphase hrole hauth hne]
    obtain ⟨hid, hhello⟩ := (d.greeted h).helloDecides_keeps (decide (h.stateFmt = d.boot.stateFmt)) h
    obtain ⟨hu2, hu1, hu3, hp2, hp13, hs2⟩ := (d.greeted h).helloDecides_role (decide (h.stateFmt = d.boot.stateFmt)) h
    have hraised := (d.greeted h).helloDecides_raised (decide (h.stateFmt = d.boot.stateFmt)) h
    have hgr : (d.greeted h).pair.role = s.dev.pair.role := by rw [Dev.greeted_pair, ← hr]
    have hgs : (d.greeted h).pair.strap = s.dev.pair.strap := by rw [Dev.greeted_pair, ← hstrap]
    have hgreg : (d.greeted h).reg pgPair 0x050 = s.dev.reg pgPair 0x050 := ((d.greeted_noted h).reg _ _).trans hreg
    rw [hgr] at hu2 hu1 hu3 hp2 hp13 hs2
    rw [hgs] at hu1
    rw [hgreg] at hp13
    refine ⟨by rw [hid, Dev.greeted_pair], fun hc => ?_, fun _ _ => ⟨by rw [hhello, Dev.greeted_pair], hu2, hu1, hu3, hp2, fun hp h13 => ?_, fun hs h2 => ?_, fun hf => ?_⟩⟩
    · rw [hauth, ← hstrap] at hc
      exact absurd (hc.resolve_left Bool.noConfusion) hne
    · obtain ⟨hrole', hpartner⟩ := hp13 hp h13
      refine ⟨hrole', hpartner.trans ?_⟩
      simp only [Bool.and_eq_true, decide_eq_true_eq, hboot]
    · obtain ⟨hrole', hpartner⟩ := hs2 hs h2
      refine ⟨hrole', hpartner.trans ?_⟩
      simp only [seenAs, decide_eq_true_eq, hboot]
    · exact hraised _ _ (d.greeted_mismatch h (by rw [hboot]; exact hf))

end Sys2Proof.Machine
end

section
/-! The manifest of the Mirror Link (R672 to R676): O44. -/

namespace Sys2Proof.Machine
open Sys2Proof

variable {s : State} {d e x : Dev} {f : LinkHdr} {i t n : Nat} {l b : List Byte}

/-! ### Messages that wait or have been sent -/

/-- A message is among those sent or ready. -/
def Dev.Carries (d : Dev) (t : Nat) (b : List Byte) : Prop := ∃ fr, fr ∈ d.pair.sent ++ d.pair.ready ∧ fr.type = t ∧ fr.bytes = b

theorem Dev.linkNext_carries (h : d.Carries t b) : d.linkNext.Carries t b := by
  obtain ⟨fr, hin, ht, hb⟩ := h
  unfold Dev.linkNext
  split
  · exact ⟨fr, hin, ht, hb⟩
  next f rest hsort =>
    split
    · exact ⟨fr, hin, ht, hb⟩
    · rcases List.mem_append.1 hin with hs | hr
      · exact ⟨fr, List.mem_append_left _ (List.mem_append_left _ hs), ht, hb⟩
      · rcases List.mem_cons.1 (hsort ▸ mem_sortBy.2 hr : fr ∈ f :: rest) with rfl | hrest
        · exact ⟨{ fr with seq := d.pair.txSeq }, List.mem_append_left _ (List.mem_append_right _ List.mem_cons_self), ht, hb⟩
        · exact ⟨fr, List.mem_append_right _ hrest, ht, hb⟩

theorem Dev.linkPump_carries (h : d.Carries t b) : d.linkPump.Carries t b := by
  have hall : ∀ (r : List Nat) (x : Dev), x.Carries t b → (r.foldl (fun (d : Dev) _ => d.linkNext) x).Carries t b := fun r => by
    induction r with
    | nil => exact fun _ hx => hx
    | cons a q ih => exact fun x hx => ih _ (Dev.linkNext_carries hx)
  exact hall _ _ h

/-- A short message over a link that is up is sent, or waits to be. -/
theorem Dev.linkSend_carries (d : Dev) (t : Nat) (hup : d.pair.up = true) (hl : l.length ≤ 9472) : (d.linkSend t l).Carries t l := by
  unfold Dev.linkSend Dev.linkSendAt
  rw [if_neg (by rw [hup]; exact Bool.false_ne_true), linkCut_short _ _ _ hl]
  exact Dev.linkPump_carries ⟨⟨0, t, true, l, none⟩, List.mem_append_right _ (List.mem_append_right _ List.mem_cons_self), rfl, rfl⟩

/-- The relay queue takes no more cells once frames have gone out. -/
theorem relayCells_linkNext (d : Dev) : relayCells d.linkNext.pair.ready ≤ relayCells d.pair.ready := by
  have hcells : ∀ r : List LinkFrame, relayCells r = ((r.filter fun f => f.type == ltRelayData).map fun f => (f.bytes.length + 2047) / 2048).sum := fun r => sumN_eq_sum _
  unfold Dev.linkNext
  split
  · exact Nat.le_refl _
  next f rest hsort =>
    split
    · exact Nat.le_refl _
    · rw [hcells, hcells]
      have hperm : (f :: rest).Perm d.pair.ready := hsort ▸ sortBy_perm _ _
      have hsum := ((hperm.filter fun f => f.type == ltRelayData).map fun f => (f.bytes.length + 2047) / 2048).sum_eq
      rw [← hsum, List.filter_cons]
      split
      · exact Nat.le_add_left _ _
      · exact Nat.le_refl _

theorem relayCells_linkPump (d : Dev) : relayCells d.linkPump.pair.ready ≤ relayCells d.pair.ready := by
  have hall : ∀ (r : List Nat) (x : Dev), relayCells (r.foldl (fun (d : Dev) _ => d.linkNext) x).pair.ready ≤ relayCells x.pair.ready := fun r => by
    induction r with
    | nil => exact fun _ => Nat.le_refl _
    | cons a q ih => exact fun x => (ih _).trans (relayCells_linkNext x)
  exact hall _ _

theorem Takes.relayCells (h : Takes s f) : relayCells (s.dev.heard f).pair.ready ≤ Machine.relayCells s.dev.pair.ready := by
  rw [h.heard_eq, Dev.partnerAnswers_pair]
  exact relayCells_linkPump (s.dev.released f)

/-! ### Entries matched, acknowledged and worked through -/

/-- An entry that waits for its packet, which one of these packets is. -/
def Listed.Found (x : Listed) (ps : List Stash) : Prop := x.isEnd = false ∧ x.packet = none ∧ x.refused = false ∧ ∃ p ∈ ps, x.fits p = true

/-- What the matching of some entries to some packets does to an entry: its packet alone may come, when an entry of its number is found. -/
def MatchesOnly (g : Listed → Listed) (xs : List Listed) (ps : List Stash) : Prop :=
  ∀ y, g y = { y with packet := (g y).packet } ∧ ((g y).packet = y.packet ∨ ∃ x ∈ xs, x.index = y.index ∧ x.Found ps)

theorem takeFirst_spec {α : Type} (p : α → Bool) (r : List α) {a : α} {q : List α} (h : takeFirst p r = some (a, q)) : a ∈ r ∧ p a = true ∧ ∀ z ∈ q, z ∈ r := by
  induction r generalizing q with
  | nil => cases h
  | cons z t ih =>
    unfold takeFirst at h
    split at h
    next hz =>
      cases h
      exact ⟨List.mem_cons_self, hz, fun y hy => List.mem_cons_of_mem _ hy⟩
    next =>
      split at h
      next w r hr =>
        cases h
        obtain ⟨hin, hp, hrest⟩ := ih hr
        refine ⟨List.mem_cons_of_mem _ hin, hp, fun y hy => ?_⟩
        rcases List.mem_cons.1 hy with rfl | hy
        · exact List.mem_cons_self
        · exact List.mem_cons_of_mem _ (hrest y hy)
      next => cases h

theorem matchListed_foldl (xs : List Listed) (ps : List Stash) (r : List Listed) (hr : ∀ x ∈ r, x ∈ xs) (d : Dev) (hps : ∀ p ∈ d.pair.stash, p ∈ ps) :
    ∃ g st, MatchesOnly g xs ps ∧ r.foldl (fun (d : Dev) x =>
      if x.isEnd || x.packet.isSome || x.refused then d
      else match takeFirst x.fits d.pair.stash with
        | none => d
        | some (p, rest) => d.onPair (fun q => { q with
            stash := rest
            listed := q.listed.map (fun y => if y.index = x.index ∧ y.isEnd = false then { y with packet := some p } else y) })) d =
      d.onPair fun p => { p with stash := st, listed := p.listed.map g } := by
  induction r generalizing d with
  | nil => exact ⟨id, d.pair.stash, fun y => ⟨rfl, .inl rfl⟩, by simp [Dev.onPair]⟩
  | cons a r ih =>
    have hrest : ∀ x ∈ r, x ∈ xs := fun x hx => hr x (List.mem_cons_of_mem _ hx)
    rw [List.foldl_cons]
    split
    · exact ih hrest d hps
    next hwait =>
      split
      · exact ih hrest d hps
      next p rest htake =>
        obtain ⟨hin, hfit, hsub⟩ := takeFirst_spec _ _ htake
        obtain ⟨g, st, hg, he⟩ := ih hrest (d.onPair (fun q => { q with
            stash := rest
            listed := q.listed.map (fun y => if y.index = a.index ∧ y.isEnd = false then { y with packet := some p } else y) })) fun z hz => hps z (hsub z hz)
        refine ⟨fun y => g (if y.index = a.index ∧ y.isEnd = false then { y with packet := some p } else y), st, fun y => ?_, ?_⟩
        · have hfound : a.Found ps := by
            simp only [Bool.or_eq_true, not_or, Bool.not_eq_true, Option.isSome_eq_false_iff, Option.isNone_iff_eq_none] at hwait
            obtain ⟨⟨hend, hpacket⟩, hrefused⟩ := hwait
            exact ⟨hend, hpacket, hrefused, p, hps p hin, hfit⟩
          obtain ⟨hsame, hor⟩ := hg (if y.index = a.index ∧ y.isEnd = false then { y with packet := some p } else y)
          dsimp only
          split at hsame
          next hy =>
            rw [if_pos hy] at hor ⊢
            exact ⟨hsame, .inr ⟨a, hr a List.mem_cons_self, hy.1.symm, hfound⟩⟩
          next hy =>
            rw [if_neg hy] at hor ⊢
            exact ⟨hsame, hor⟩
        · rw [he]
          simp only [Dev.onPair, List.map_map]
          rfl

theorem Dev.matchListed_spec (d : Dev) : ∃ g st, MatchesOnly g d.pair.listed d.pair.stash ∧ d.matchListed = d.onPair fun p => { p with stash := st, listed := p.listed.map g } :=
  matchListed_foldl _ _ _ (fun _ h => h) d fun _ h => h

theorem Dev.sendManifestAck_spec (d : Dev) : ∃ a, (d.onPair fun p => { p with acked := a }).LinkDone d.sendManifestAck := by
  unfold Dev.sendManifestAck
  dsimp only
  split
  · exact ⟨d.pair.acked, .refl d⟩
  · exact ⟨_, Dev.linkSend_linkDone _ _ _⟩

theorem Dev.playClosed_open (h : ∀ y ∈ d.pair.listed, y.isEnd = false) (n : Nat) : d.playClosed n = d := by
  have hfind : d.pair.listed.find? (fun x => x.isEnd) = none := by
    rw [List.find?_eq_none]
    exact fun y hy => ne_true_of_eq_false (h y hy)
  cases n with
  | zero => rfl
  | succ n =>
    unfold Dev.playClosed
    rw [hfind]

/-- With no epoch closed, the entries are matched and acknowledged, and nothing is worked through. -/
theorem Dev.follow_spec (d : Dev) (h : ∀ y ∈ d.pair.listed, y.isEnd = false) : ∃ g st a, MatchesOnly g d.pair.listed d.pair.stash ∧
    (d.onPair fun p => { p with stash := st, listed := p.listed.map g, acked := a }).LinkDone d.follow := by
  obtain ⟨g, st, hg, hm⟩ := d.matchListed_spec
  obtain ⟨a, ha⟩ := (d.onPair fun p => { p with stash := st, listed := p.listed.map g }).sendManifestAck_spec
  have hopen : ∀ y ∈ (Dev.sendManifestAck (d.onPair fun p => { p with stash := st, listed := p.listed.map g })).pair.listed, y.isEnd = false := fun y hy => by
    rw [ha.pairRest] at hy
    obtain ⟨z, hz, rfl⟩ := List.mem_map.1 (hy : y ∈ d.pair.listed.map g)
    rw [(hg z).1]
    exact h z hz
  refine ⟨g, st, a, hg, ?_⟩
  unfold Dev.follow
  dsimp only
  rw [hm, Dev.playClosed_open hopen, ite_self]
  exact ha

/-! ### MANIFEST -/

theorem Dev.manifest_none (d : Dev) (f : LinkHdr) (es : List ManifestEntry) (h : d.pair.role ≠ .secondary) : d.manifest f es = d := by
  unfold Dev.manifest
  exact if_pos h

/-- The entry that a MANIFEST of one packet lists. -/
def Dev.newEntry (d : Dev) (e : ManifestEntry) : Listed :=
  { index := d.pair.nextIn, leg := e.leg % 4096, stream := e.stream, seq := e.seq, stamp := nearShort d.now (BitVec.ofNat 64 e.stamp), isEnd := false }

/-- The unit that has listed the packet. -/
def Dev.listedOne (d : Dev) (e : ManifestEntry) : Dev := d.onPair fun p => { p with nextIn := p.nextIn + 1, listed := p.listed ++ [d.newEntry e] }

theorem Dev.manifest_one (d : Dev) (f : LinkHdr) {e : ManifestEntry} (hrole : d.pair.role = .secondary) (hend : e.isEnd = false) : d.manifest f [e] =
    (fun (x : Dev) (miss : List Listed) => if miss.isEmpty then x else x.linkSend ltRelayReq (miss.flatMap fun x => leBytes 4 x.index)) (d.listedOne e).follow
      ((d.listedOne e).follow.pair.listed.filter fun x => !x.isEnd && decide (d.pair.nextIn ≤ x.index) && x.packet.isNone && !x.refused) := by
  have hold : (d.listedOne e).pair.nextIn - 1 = d.pair.nextIn := Nat.add_sub_cancel _ _
  unfold Dev.manifest
  rw [if_neg (not_not.2 hrole)]
  simp only [List.foldl_cons, List.foldl_nil, hend, Bool.false_eq_true, if_false, Bool.not_false, List.filter_cons_of_pos, List.filter_nil, List.length_cons, List.length_nil]
  rw [← hold]
  rfl

theorem Dev.manifest_lists (d : Dev) (f : LinkHdr) {e : ManifestEntry} (hup : d.pair.up = true) (hrole : d.pair.role = .secondary)
    (hlisted : ∀ x, x ∈ d.pair.listed → x.isEnd = false ∧ x.index < d.pair.nextIn) (hend : e.isEnd = false) :
    (d.manifest f [e]).pair.nextIn = d.pair.nextIn + 1 ∧ (d.manifest f [e]).pair.listed.length = d.pair.listed.length + 1 ∧ (d.manifest f [e]).legs = d.legs ∧
    (d.manifest f [e]).audio = d.audio ∧ ((∀ p, p ∈ d.pair.stash → (p.leg ≠ e.leg % 4096 ∨ p.stream ≠ e.stream)) →
      (d.manifest f [e]).Carries ltRelayReq (leBytes 4 d.pair.nextIn)) := by
  obtain ⟨g, st, a, hg, hdone⟩ := (d.listedOne e).follow_spec fun y hy => by
    rcases List.mem_append.1 hy with hy | hy
    · exact (hlisted y hy).1
    · rw [List.mem_singleton.1 hy]
      rfl
  rw [d.manifest_one f hrole hend]
  have hlist : (d.listedOne e).follow.pair.listed = d.pair.listed.map g ++ [g (d.newEntry e)] := by
    rw [hdone.pairRest]
    exact List.map_append
  have hlegs : (d.listedOne e).follow.legs = d.legs := hdone.legs
  have haudio : (d.listedOne e).follow.audio = d.audio := by
    rw [hdone.rest]
    rfl
  have hnext : (d.listedOne e).follow.pair.nextIn = d.pair.nextIn + 1 := by
    rw [hdone.pairRest]
    rfl
  have hup' : (d.listedOne e).follow.pair.up = true := by
    rw [hdone.pairRest]
    exact hup
  have hnew : (∀ p, p ∈ d.pair.stash → (p.leg ≠ e.leg % 4096 ∨ p.stream ≠ e.stream)) → g (d.newEntry e) = d.newEntry e := fun hno => by
    obtain ⟨hsame, hpacket⟩ := hg (d.newEntry e)
    have hnone : (g (d.newEntry e)).packet = (d.newEntry e).packet := by
      refine hpacket.resolve_right fun ⟨x, hx, hindex, hfound⟩ => ?_
      obtain ⟨-, -, -, p, hp, hfits⟩ := hfound
      rcases List.mem_append.1 hx with hx | hx
      · exact absurd hindex (Nat.ne_of_lt (hlisted x hx).2)
      · rw [List.mem_singleton.1 hx, Listed.fits] at hfits
        simp only [Bool.and_eq_true, beq_iff_eq] at hfits
        obtain ⟨⟨hleg, hstream⟩, -⟩ := hfits
        exact (hno p hp).elim (fun hc => hc hleg.symm) fun hc => hc hstream.symm
    rw [hsame, hnone]
  have hmiss : ((d.listedOne e).follow.pair.listed.filter fun x => !x.isEnd && decide (d.pair.nextIn ≤ x.index) && x.packet.isNone && !x.refused) =
      [g (d.newEntry e)].filter fun x => !x.isEnd && decide (d.pair.nextIn ≤ x.index) && x.packet.isNone && !x.refused := by
    rw [hlist, List.filter_append, List.filter_eq_nil_iff.2, List.nil_append]
    intro y hy
    obtain ⟨z, hz, rfl⟩ := List.mem_map.1 hy
    rw [(hg z).1, decide_eq_false (Nat.not_le.2 (hlisted z hz).2)]
    simp
  have hkept : (fun x : Dev => x.pair.nextIn = d.pair.nextIn + 1 ∧ x.pair.listed = d.pair.listed.map g ++ [g (d.newEntry e)] ∧ x.legs = d.legs ∧ x.audio = d.audio)
      (if ((d.listedOne e).follow.pair.listed.filter fun x => !x.isEnd && decide (d.pair.nextIn ≤ x.index) && x.packet.isNone && !x.refused).isEmpty then (d.listedOne e).follow
        else (d.listedOne e).follow.linkSend ltRelayReq (((d.listedOne e).follow.pair.listed.filter fun x => !x.isEnd && decide (d.pair.nextIn ≤ x.index) &&
          x.packet.isNone && !x.refused).flatMap fun x => leBytes 4 x.index)) := by
    split
    · exact ⟨hnext, hlist, hlegs, haudio⟩
    · have hsend := Dev.linkSend_linkDone (d.listedOne e).follow ltRelayReq (((d.listedOne e).follow.pair.listed.filter fun x => !x.isEnd && decide (d.pair.nextIn ≤ x.index) &&
          x.packet.isNone && !x.refused).flatMap fun x => leBytes 4 x.index)
      refine ⟨?_, ?_, hsend.legs.trans hlegs, ?_⟩
      · rw [hsend.pairRest]
        exact hnext
      · rw [hsend.pairRest]
        exact hlist
      · rw [hsend.rest]
        exact haudio
  obtain ⟨h1, h2, h3, h4⟩ := hkept
  refine ⟨h1, ?_, h3, h4, fun hno => ?_⟩
  · rw [h2, List.length_append, List.length_map]
    rfl
  · dsimp only
    rw [hmiss, hnew hno]
    have hone : ([d.newEntry e].filter fun x => !x.isEnd && decide (d.pair.nextIn ≤ x.index) && x.packet.isNone && !x.refused) = [d.newEntry e] := by
      simp [Dev.newEntry]
    rw [hone, if_neg (by simp), List.flatMap_cons, List.flatMap_nil, List.append_nil]
    exact Dev.linkSend_carries _ _ hup' (by rw [length_leBytes]; decide)

end Sys2Proof.Machine
end

section
/-! Packets held, fetched and refused over the Mirror Link, and digests compared (R674 to R676, R683 to R686): O44. -/

namespace Sys2Proof.Machine
open Sys2Proof

variable {s : State} {d e x : Dev} {f : LinkHdr} {i l t n : Nat}

/-! ### MANIFEST_ACK -/

theorem Dev.manifestAcked_spec (d : Dev) (i : Nat) : (d.manifestAcked i).pair.held = d.pair.held.filter (fun e => decide (i < e.1)) ∧
    ((∀ e, e ∈ d.pair.held → i < e.1) → (d.manifestAcked i).egress = d.egress) := by
  have hwork : ∀ r : List (Nat × Nat × EFrame), Dev.EgressWork (d.onPair fun p => { p with held := p.held.filter fun e => decide (i < e.1) })
      (r.foldl (fun (d : Dev) e => d.enqueue e.2.1 e.2.2) (d.onPair fun p => { p with held := p.held.filter fun e => decide (i < e.1) })) := fun r =>
    Dev.egressWork_foldl _ (fun d _ => d.enqueue_egressWork _ _) _ _
  refine ⟨congrArg Pair.held (hwork _).pair, fun h => ?_⟩
  have hnone : (d.pair.held.filter fun e => decide (e.1 ≤ i)) = [] := List.filter_eq_nil_iff.2 fun e he => by simpa using h e he
  unfold Dev.manifestAcked
  rw [hnone]
  rfl

/-! ### RELAY_REQ -/

theorem find_and {α : Type} {p q : α → Bool} {a : α} (r : List α) (h : r.find? p = some a) (ha : q a = true) : r.find? (fun x => p x && q x) = some a := by
  induction r with
  | nil => cases h
  | cons z t ih =>
    rw [List.find?_cons] at h ⊢
    cases hp : p z
    · rw [hp] at h
      rw [Bool.false_and]
      exact ih h
    · rw [hp] at h
      cases h
      rw [ha]
      rfl

theorem Dev.relayAnswer_kept (d : Dev) {e : Nat × Stash} (hup : d.pair.up = true)
    (hk : d.pair.kept.find? (fun e => e.1 == i && decide (d.now / msT < e.2.stamp / msT + 10)) = some e) (hlen : e.2.frame.length ≤ 9000)
    (hroom : relayCells d.pair.ready + (e.2.frame.length + 5 + 2047) / 2048 ≤ 32832) :
    (d.relayAnswer i).counter pgPair 0x078 = d.counter pgPair 0x078 + 1 ∧ (d.relayAnswer i).Carries ltRelayData (leBytes 4 i ++ [0] ++ e.2.frame) := by
  have hfind := find_and (q := fun e => decide (relayCells d.pair.ready + (e.2.frame.length + 5 + 2047) / 2048 ≤ 32832)) _ hk (decide_eq_true hroom)
  unfold Dev.relayAnswer
  rw [hfind]
  refine ⟨?_, Dev.linkSend_carries _ _ hup ?_⟩
  · rw [(Dev.linkSend_linkDone _ _ _).counter _ _ (by decide) (by decide), Dev.counter_inc_same]
  · rw [List.length_append, List.length_append, length_leBytes, List.length_singleton]
    omega

theorem Dev.relayAnswer_none (d : Dev) (hup : d.pair.up = true) (hk : d.pair.kept.find? (fun e => e.1 == i) = none) :
    (d.relayAnswer i).counter pgPair 0x080 = d.counter pgPair 0x080 + 1 ∧ (d.relayAnswer i).Carries ltRelayData (leBytes 4 i ++ [1]) := by
  have hfind : d.pair.kept.find? (fun e => e.1 == i && decide (d.now / msT < e.2.stamp / msT + 10) &&
      decide (relayCells d.pair.ready + (e.2.frame.length + 5 + 2047) / 2048 ≤ 32832)) = none := by
    rw [List.find?_eq_none] at hk ⊢
    intro e he hc
    simp only [Bool.and_eq_true] at hc
    exact hk e he hc.1.1
  have hkept : ((d.inc pgPair 0x080).linkSend ltRelayData (leBytes 4 i ++ [1])).pair.kept.find? (fun e => e.1 == i) = none := by
    rw [(Dev.linkSend_linkDone _ _ _).pairRest]
    exact hk
  unfold Dev.relayAnswer
  rw [hfind]
  dsimp only
  rw [hkept]
  refine ⟨?_, Dev.linkSend_carries _ _ hup ?_⟩
  · rw [(Dev.linkSend_linkDone _ _ _).counter _ _ (by decide) (by decide), Dev.counter_inc_same]
  · rw [List.length_append, length_leBytes, List.length_singleton]
    decide

/-! ### RELAY_DATA -/

/-- A resynchronisation of a leg, whether or not one runs: the list of legs, and its counter. -/
theorem Dev.startResync_spec (d : Dev) (l : Nat) : (∃ r, (d.startResync l).pair = { d.pair with resyncing := r }) ∧
    ((d.startResync l).ctl = d.ctl ∨ (d.startResync l).ctl = (d.inc pgPair 0x0B0).ctl) := by
  unfold Dev.startResync
  split
  · exact ⟨⟨_, rfl⟩, .inl rfl⟩
  · dsimp only
    obtain ⟨hpair, hctl⟩ := Dev.encTriggers (Dev.legEncoders ((d.onPair (fun p => { p with resyncing := d.pair.resyncing ++ [l] })).inc pgPair 0x0B0) l)
      ((d.onPair (fun p => { p with resyncing := d.pair.resyncing ++ [l] })).inc pgPair 0x0B0)
    exact ⟨⟨_, hpair.trans rfl⟩, .inr (hctl.trans rfl)⟩

/-- A leg diverges: the event, and what a resynchronisation touches. -/
theorem Dev.diverged_spec (d : Dev) (l : Nat) : (∃ r, (d.diverged l).pair = { d.pair with resyncing := r }) ∧
    (∀ o, o < 4096 → o ≠ 0x0B0 → (d.diverged l).counter pgPair o = d.counter pgPair o) ∧ ((d.diverged l).page pgPair).event.getLsbD 4 = true := by
  have hpair := d.pairEvent_pair 4 l 0
  have hcounter : ∀ o, o < 4096 → (d.pairEvent 4 l 0).counter pgPair o = d.counter pgPair o := fun o ho => d.counter_raise _ _ _ _ _ _ (by decide) ho
  have hbit := d.pairEvent_bit 4 l 0 (by decide)
  obtain ⟨⟨r, hr⟩, hctl⟩ := (d.pairEvent 4 l 0).startResync_spec l
  unfold Dev.diverged
  dsimp only
  split
  · refine ⟨⟨r, by rw [hr, hpair]⟩, fun o ho hne => ?_, ?_⟩
    · refine Eq.trans ?_ (hcounter o ho)
      rcases hctl with hctl | hctl
      · rw [Dev.counter, hctl, Dev.counter]
      · rw [← Dev.counter_inc_apart (d.pairEvent 4 l 0) pgPair ho (b := 0x0B0) (by decide) hne, Dev.counter, hctl, Dev.counter]
    · rcases hctl with hctl | hctl
      · rw [Dev.page, hctl]
        exact hbit
      · rw [Dev.page, hctl]
        exact hbit
  · exact ⟨⟨d.pair.resyncing, hpair⟩, fun o ho _ => hcounter o ho, hbit⟩

/-- The unit that a packet has been fetched for. -/
def Dev.fetched (d : Dev) (i : Nat) (x : Listed) (b : List Byte) : Dev := d.onPair fun p => { p with
  listed := p.listed.map fun y => if y.index = i ∧ y.isEnd = false then { y with packet := some ⟨x.leg, x.stream, x.seq, (d.leg x.leg).desc.port, x.stamp, b, 0⟩ } else y }

/-- The unit that a packet has been refused to. -/
def Dev.denied (d : Dev) (i : Nat) : Dev := d.onPair fun p => { p with
  listed := p.listed.map fun y => if y.index = i ∧ y.isEnd = false then { y with refused := true } else y }

theorem Dev.relayed_fetched (d : Dev) {x : Listed} {b : List Byte} (h : d.pair.listed.find? (fun y => y.index == i && !y.isEnd && y.packet.isNone && !y.refused) = some x) :
    d.relayed i (some b) = ((d.fetched i x b).inc pgPair 0x078).follow := by
  unfold Dev.relayed
  rw [h]
  rfl

theorem Dev.relayed_denied (d : Dev) {x : Listed} (h : d.pair.listed.find? (fun y => y.index == i && !y.isEnd && y.packet.isNone && !y.refused) = some x) :
    d.relayed i none = (((d.denied i).inc pgPair 0x080).diverged x.leg).follow := by
  unfold Dev.relayed
  rw [h]
  rfl

/-- The entry found for a packet. -/
theorem found_spec {r : List Listed} {x : Listed} (h : r.find? (fun y => y.index == i && !y.isEnd && y.packet.isNone && !y.refused) = some x) :
    x ∈ r ∧ x.index = i ∧ x.isEnd = false ∧ x.packet = none := by
  have hx := List.find?_some h
  simp only [Bool.and_eq_true, beq_iff_eq, Bool.not_eq_true', Option.isNone_iff_eq_none] at hx
  obtain ⟨⟨⟨hindex, hend⟩, hpacket⟩, -⟩ := hx
  exact ⟨List.mem_of_find?_eq_some h, hindex, hend, hpacket⟩

theorem Dev.relayed_some (d : Dev) {x : Listed} {b : List Byte} (hopen : ∀ y, y ∈ d.pair.listed → y.isEnd = false)
    (h : d.pair.listed.find? (fun y => y.index == i && !y.isEnd && y.packet.isNone && !y.refused) = some x) :
    (d.relayed i (some b)).counter pgPair 0x078 = d.counter pgPair 0x078 + 1 ∧
    ∃ y k, y ∈ (d.relayed i (some b)).pair.listed ∧ y.index = i ∧ y.packet = some k ∧ k.leg = x.leg ∧ k.stamp = x.stamp ∧ k.frame = b := by
  obtain ⟨hin, hindex, hend, -⟩ := found_spec h
  obtain ⟨m, hm⟩ : ∃ m : Listed → Listed, m = fun y => if y.index = i ∧ y.isEnd = false then
    { y with packet := some ⟨x.leg, x.stream, x.seq, (d.leg x.leg).desc.port, x.stamp, b, 0⟩ } else y := ⟨_, rfl⟩
  have hlisted : ((d.fetched i x b).inc pgPair 0x078).pair.listed = d.pair.listed.map m := by rw [hm]; rfl
  have hmx : m x = { x with packet := some ⟨x.leg, x.stream, x.seq, (d.leg x.leg).desc.port, x.stamp, b, 0⟩ } := by rw [hm]; exact if_pos ⟨hindex, hend⟩
  have hmend : ∀ y, (m y).isEnd = y.isEnd := fun y => by
    rw [hm]
    dsimp only
    split
    · rfl
    · rfl
  obtain ⟨g, st, a, hg, hdone⟩ := ((d.fetched i x b).inc pgPair 0x078).follow_spec fun y hy => by
    rw [hlisted] at hy
    obtain ⟨z, hz, rfl⟩ := List.mem_map.1 hy
    rw [hmend, hopen z hz]
  rw [d.relayed_fetched h]
  refine ⟨?_, g (m x), ⟨x.leg, x.stream, x.seq, (d.leg x.leg).desc.port, x.stamp, b, 0⟩, ?_, ?_, ?_, rfl, rfl, rfl⟩
  · exact (hdone.counter _ _ (by decide) (by decide)).trans (Dev.counter_inc_same (d.fetched i x b) pgPair 0x078)
  · rw [hdone.pairRest]
    show g (m x) ∈ (((d.fetched i x b).inc pgPair 0x078).pair.listed).map g
    rw [hlisted]
    exact List.mem_map_of_mem (List.mem_map_of_mem hin)
  · rw [(hg (m x)).1, hmx]
    exact hindex
  · have hpacket := (hg (m x)).2.resolve_right fun ⟨z, hz, hzindex, hfound⟩ => by
      obtain ⟨hzend, hznone, -⟩ := hfound
      rw [hlisted] at hz
      obtain ⟨w, -, rfl⟩ := List.mem_map.1 hz
      rw [hmx] at hzindex
      have hw : w.index = i ∧ w.isEnd = false := by
        rw [hmend] at hzend
        refine ⟨?_, hzend⟩
        rw [← hindex, ← hzindex, hm]
        dsimp only
        split
        · rfl
        · rfl
      rw [hm] at hznone
      dsimp only at hznone
      rw [if_pos hw] at hznone
      cases hznone
    rw [hpacket, hmx]

theorem Dev.relayed_none (d : Dev) {x : Listed} (hopen : ∀ y, y ∈ d.pair.listed → y.isEnd = false)
    (h : d.pair.listed.find? (fun y => y.index == i && !y.isEnd && y.packet.isNone && !y.refused) = some x) :
    (d.relayed i none).counter pgPair 0x080 = d.counter pgPair 0x080 + 1 ∧
    (∃ y, y ∈ (d.relayed i none).pair.listed ∧ y.index = i ∧ y.refused = true ∧ y.packet = none) ∧ ((d.relayed i none).page pgPair).event.getLsbD 4 = true := by
  obtain ⟨hin, hindex, hend, hnone⟩ := found_spec h
  obtain ⟨m, hm⟩ : ∃ m : Listed → Listed, m = fun y => if y.index = i ∧ y.isEnd = false then { y with refused := true } else y := ⟨_, rfl⟩
  have hmx : m x = { x with refused := true } := by rw [hm]; exact if_pos ⟨hindex, hend⟩
  have hmkeeps : ∀ y, (m y).isEnd = y.isEnd ∧ (m y).index = y.index := fun y => by
    rw [hm]
    dsimp only
    split
    · exact ⟨rfl, rfl⟩
    · exact ⟨rfl, rfl⟩
  obtain ⟨⟨r, hr⟩, hcounter, hbit⟩ := ((d.denied i).inc pgPair 0x080).diverged_spec x.leg
  have hlisted : (((d.denied i).inc pgPair 0x080).diverged x.leg).pair.listed = d.pair.listed.map m := by rw [hr, hm]; rfl
  obtain ⟨g, st, a, hg, hdone⟩ := (((d.denied i).inc pgPair 0x080).diverged x.leg).follow_spec fun y hy => by
    rw [hlisted] at hy
    obtain ⟨z, hz, rfl⟩ := List.mem_map.1 hy
    rw [(hmkeeps z).1, hopen z hz]
  rw [d.relayed_denied h]
  refine ⟨?_, ⟨g (m x), ?_, ?_, ?_, ?_⟩, ?_⟩
  · exact (hdone.counter _ _ (by decide) (by decide)).trans ((hcounter _ (by decide) (by decide)).trans (Dev.counter_inc_same (d.denied i) pgPair 0x080))
  · rw [hdone.pairRest]
    show g (m x) ∈ ((((d.denied i).inc pgPair 0x080).diverged x.leg).pair.listed).map g
    rw [hlisted]
    exact List.mem_map_of_mem (List.mem_map_of_mem hin)
  · rw [(hg (m x)).1, hmx]
    exact hindex
  · rw [(hg (m x)).1, hmx]
  · have hpacket := (hg (m x)).2.resolve_right fun ⟨z, hz, hzindex, hfound⟩ => by
      obtain ⟨hzend, -, hzrefused, -⟩ := hfound
      rw [hlisted] at hz
      obtain ⟨w, -, rfl⟩ := List.mem_map.1 hz
      rw [(hmkeeps w).2, (hmkeeps x).2, hindex] at hzindex
      rw [(hmkeeps w).1] at hzend
      rw [hm] at hzrefused
      dsimp only at hzrefused
      rw [if_pos ⟨hzindex, hzend⟩] at hzrefused
      cases hzrefused
    rw [hpacket, hmx]
    exact hnone
  · exact hdone.raised _ _ hbit

theorem manifestTaken : ManifestTaken := by
  intro s f h
  have hpair := h.heard.pairRest
  have hnow : (s.dev.heard f).now = s.dev.now := h.heard.now
  have hcounter : ∀ o, o < 4096 → (s.dev.heard f).counter pgPair o = s.dev.counter pgPair o := fun o ho => h.heard.counter _ _ (by decide) ho
  have hup : (s.dev.heard f).pair.up = true := by
    rw [hpair]
    exact h.2.2.1
  have hlisted : (s.dev.heard f).pair.listed = s.dev.pair.listed := by rw [hpair]; rfl
  have hnext : (s.dev.heard f).pair.nextIn = s.dev.pair.nextIn := by rw [hpair]; rfl
  have hstash : (s.dev.heard f).pair.stash = s.dev.pair.stash := by rw [hpair]; rfl
  have hkept : (s.dev.heard f).pair.kept = s.dev.pair.kept := by rw [hpair]; rfl
  have hheld : (s.dev.heard f).pair.held = s.dev.pair.held := by rw [hpair]; rfl
  have haudio : (s.dev.heard f).audio = s.dev.audio := by rw [h.heard.rest]; rfl
  refine ⟨fun e hrole hold hend => ?_, fun es hrole => ?_, fun j hrole => ?_, fun j e hrole hk hlen hroom => ?_, fun j hrole hk => ?_, fun j x b hrole hopen hfind => ?_⟩
  · have hspec := (s.dev.heard f).manifest_lists f hup (h.role.trans hrole) (by rw [hlisted, hnext]; exact hold) hend
    rw [hlisted, hnext, hstash, haudio, h.heard.legs] at hspec
    exact ⟨_, h.row (g := fun d => d.manifest f [e]) rfl, hspec⟩
  · refine ⟨_, h.row (g := fun d => d.manifest f es) rfl, ?_⟩
    rw [State.setDev_dev, Dev.manifest_none _ _ _ (by rw [h.role, hrole]; decide)]
    exact ⟨hlisted, h.role.trans hrole, h.heard.legs⟩
  · refine ⟨_, h.row (g := fun d => if d.pair.role = .primary then d.manifestAcked j else d) rfl, ?_⟩
    rw [State.setDev_dev, if_pos (h.role.trans hrole)]
    obtain ⟨hacked, hegress⟩ := (s.dev.heard f).manifestAcked_spec j
    rw [hheld] at hacked hegress
    exact ⟨hacked, fun hall => (hegress hall).trans h.heard.egress⟩
  · refine ⟨_, h.row (g := fun d => if d.pair.role = .primary then [j].foldl (fun (d : Dev) i => d.relayAnswer i) d else d) rfl, ?_⟩
    rw [State.setDev_dev, if_pos (h.role.trans hrole), List.foldl_cons, List.foldl_nil, ← hcounter 0x078 (by decide)]
    exact (s.dev.heard f).relayAnswer_kept hup (by rw [hkept, hnow]; exact hk) hlen ((Nat.add_le_add_right h.relayCells _).trans hroom)
  · refine ⟨_, h.row (g := fun d => if d.pair.role = .primary then [j].foldl (fun (d : Dev) i => d.relayAnswer i) d else d) rfl, ?_⟩
    rw [State.setDev_dev, if_pos (h.role.trans hrole), List.foldl_cons, List.foldl_nil, ← hcounter 0x080 (by decide)]
    exact (s.dev.heard f).relayAnswer_none hup (by rw [hkept]; exact hk)
  · rw [← hlisted] at hopen hfind
    refine ⟨⟨_, h.row (g := fun d => if d.pair.role = .secondary then d.relayed j (some b) else d) rfl, ?_⟩,
      ⟨_, h.row (g := fun d => if d.pair.role = .secondary then d.relayed j none else d) rfl, ?_⟩⟩
    · rw [State.setDev_dev, if_pos (h.role.trans hrole), ← hcounter 0x078 (by decide)]
      exact (s.dev.heard f).relayed_some hopen hfind
    · rw [State.setDev_dev, if_pos (h.role.trans hrole), ← hcounter 0x080 (by decide)]
      exact (s.dev.heard f).relayed_none hopen hfind

end Sys2Proof.Machine
end

section
/-! Digests compared, and what a primary relays to its secondary (R670, R665, R683 to R687, R694): O44. -/

namespace Sys2Proof.Machine
open Sys2Proof

variable {s : State} {d e x : Dev} {f : LinkHdr} {i l t n : Nat} {v w : Word}

/-! ### LOG -/

/-- Records of epochs to come wait. -/
theorem Dev.applyDue_waits (d : Dev) (h : ∀ r, r ∈ d.pair.due → d.now / msT < r.epoch) : d.applyDue = d := by
  have hnone : (d.pair.due.filter fun r => decide (r.epoch ≤ d.now / msT)) = [] := List.filter_eq_nil_iff.2 fun r hr => by simpa using h r hr
  have hall : (d.pair.due.filter fun r => decide (d.now / msT < r.epoch)) = d.pair.due := List.filter_eq_self.2 fun r hr => decide_eq_true (h r hr)
  unfold Dev.applyDue
  simp only [hnone, ite_self, List.foldl_nil, Dev.onPair, hall]

/-! ### DIGEST -/

theorem Dev.compareDigests_one (d : Dev) {k : Nat} (hown : d.pair.own = [(k, t, [(l, w)])]) (htheirs : d.pair.theirs = [(k, [(l, v)])]) (hl : l < 4096) :
    d.compareDigests = (d.compareLeg l (w == v)).onPair fun p => { p with own := p.own.filter (fun x => x.1 != k), theirs := p.theirs.filter (fun x => x.1 != k) } := by
  have hsets : d.compareSets [(l, w)] [(l, v)] = d.compareLeg l (w == v) := by
    have hkeys : ([l, l] : List Nat).eraseDups = [l] := by simp [List.eraseDups_cons]
    unfold Dev.compareSets
    simp [hkeys, hl]
  unfold Dev.compareDigests
  simp only [hown, htheirs, List.filter_cons, List.any_cons, List.any_nil, beq_self_eq_true, Bool.or_false, if_true, List.filter_nil, List.foldl_cons, List.foldl_nil,
    List.find?_cons_of_pos, hsets]

theorem Dev.compareLeg_same (d : Dev) (h : d.pair.resyncing = []) : d.compareLeg l true = d.inc pgPair 0x098 := by
  unfold Dev.compareLeg
  rw [h]
  rfl

theorem Dev.compareLeg_differs (d : Dev) (h : d.pair.resyncing = []) : d.compareLeg l false = (d.inc pgPair 0x0A0).diverged l := by
  unfold Dev.compareLeg
  rw [h]
  rfl

/-- A leg that diverges while none is resynchronised. -/
theorem Dev.diverged_first (d : Dev) (h : d.pair.resyncing = []) :
    (d.diverged l).pair = { d.pair with resyncing := if bit (d.reg pgPair 0x050) 1 then [l] else [] } := by
  have hpair := d.pairEvent_pair 4 l 0
  have hreg : (d.pairEvent 4 l 0).reg pgPair 0x050 = d.reg pgPair 0x050 := (d.pairEvent_noted 4 l 0).reg _ _
  obtain ⟨hstart, -⟩ := (d.pairEvent 4 l 0).startResync_first l (by rw [hpair, h])
  unfold Dev.diverged
  dsimp only
  rw [hreg]
  split
  · rw [hstart, hpair]
  · rw [hpair, ← h]

theorem Dev.digest_taken (d : Dev) {k : Nat} (hown : d.pair.own = [(k, t, [(l, w)])]) (htheirs : d.pair.theirs = []) (hl : l < 4096) (hnone : d.pair.resyncing = []) :
    (fun u : Dev => u.pair.own = [] ∧ u.pair.theirs = [] ∧
      (v = w → u.counter pgPair 0x098 = d.counter pgPair 0x098 + 1 ∧ u.counter pgPair 0x0A0 = d.counter pgPair 0x0A0 ∧ u.pair.resyncing = []) ∧
      (v ≠ w → u.counter pgPair 0x0A0 = d.counter pgPair 0x0A0 + 1 ∧ u.counter pgPair 0x098 = d.counter pgPair 0x098 ∧ (u.page pgPair).event.getLsbD 4 = true ∧
        u.pair.resyncing = if bit (d.reg pgPair 0x050) 1 then [l] else []))
      (d.onPair fun p => { p with theirs := p.theirs ++ [(k, [(l, v)])] }).compareDigests := by
  obtain ⟨y, hy⟩ : ∃ y, y = d.onPair fun p => { p with theirs := p.theirs ++ [(k, [(l, v)])] } := ⟨_, rfl⟩
  have hyown : y.pair.own = [(k, t, [(l, w)])] := by rw [hy, ← hown]; rfl
  have hytheirs : y.pair.theirs = [(k, [(l, v)])] := by
    rw [hy]
    show d.pair.theirs ++ _ = _
    rw [htheirs, List.nil_append]
  have hynone : y.pair.resyncing = [] := by rw [hy, ← hnone]; rfl
  have hreg : y.reg pgPair 0x050 = d.reg pgPair 0x050 := by rw [hy]; rfl
  have hycounter : ∀ o, y.counter pgPair o = d.counter pgPair o := fun o => by rw [hy]; rfl
  rw [← hy, y.compareDigests_one hyown hytheirs hl]
  have hclears : ∀ z : Dev, z.pair.own = y.pair.own → z.pair.theirs = y.pair.theirs →
      (z.pair.own.filter fun x => x.1 != k) = [] ∧ (z.pair.theirs.filter fun x => x.1 != k) = [] := fun z ho ht => by
    rw [ho, ht, hyown, hytheirs]
    simp
  by_cases hvw : v = w
  · have hsame : y.compareLeg l (w == v) = y.inc pgPair 0x098 := by rw [hvw, beq_self_eq_true, y.compareLeg_same hynone]
    rw [hsame]
    obtain ⟨ho, ht⟩ := hclears (y.inc pgPair 0x098) rfl rfl
    refine ⟨ho, ht, fun _ => ⟨?_, ?_, hynone⟩, fun hne => absurd hvw hne⟩
    · exact (y.counter_inc_same pgPair 0x098).trans (congrArg (· + 1) (hycounter _))
    · exact (y.counter_inc_apart pgPair (by decide) (by decide) (by decide)).trans (hycounter _)
  · have hdiff : y.compareLeg l (w == v) = (y.inc pgPair 0x0A0).diverged l := by rw [beq_false_of_ne (Ne.symm hvw), y.compareLeg_differs hynone]
    rw [hdiff]
    obtain ⟨-, hcounter, hbit⟩ := (y.inc pgPair 0x0A0).diverged_spec l
    have hpair := (y.inc pgPair 0x0A0).diverged_first (l := l) hynone
    obtain ⟨ho, ht⟩ := hclears ((y.inc pgPair 0x0A0).diverged l) (by rw [hpair]; rfl) (by rw [hpair]; rfl)
    refine ⟨ho, ht, fun heq => absurd heq hvw, fun _ => ⟨?_, ?_, hbit, ?_⟩⟩
    · exact (hcounter _ (by decide) (by decide)).trans ((y.counter_inc_same pgPair 0x0A0).trans (congrArg (· + 1) (hycounter _)))
    · exact (hcounter _ (by decide) (by decide)).trans ((y.counter_inc_apart pgPair (by decide) (by decide) (by decide)).trans (hycounter _))
    · refine (congrArg Pair.resyncing hpair).trans ?_
      rw [Dev.reg_inc, hreg]

/-! ### RESYNC_DONE -/

theorem Dev.resyncDone_sent (d : Dev) (hl : l < 4096) (hrole : d.pair.role = .primary) (hsent : d.pair.resyncing = [l + 4096])
    (hfresh : ∀ i, i ∈ d.legEncoders l → (d.encS i).refreshing = false) : (d.resyncDone l).pair.resyncing = [] ∧ ((d.resyncDone l).page pgPair).event.getLsbD 7 = true ∧
      (d.resyncDone l).waiting 0x0C03 l = false := by
  have hany : ((d.legEncoders l).any fun i => (d.encS i).refreshing) = false := List.any_eq_false.2 fun i hi => ne_true_of_eq_false (hfresh i hi)
  have hgo : (!(d.pair.resyncing.contains (l + 4096) || (decide (d.pair.role = .secondary) && d.pair.resyncing.contains l)) ||
      (d.legEncoders l).any fun i => (d.encS i).refreshing) = false := by
    rw [hany, hsent, hrole]
    simp
  have hnot : ¬ d.pair.role = .secondary := by rw [hrole]; decide
  have hfilter : (d.pair.resyncing.filter fun n => n % 4096 != l) = [] := by
    rw [hsent]
    simp [Nat.mod_eq_of_lt hl]
  unfold Dev.resyncDone
  dsimp only
  rw [if_neg (ne_true_of_eq_false hgo), if_neg hnot]
  have hdone := fun (e : Dev) (r : Word) => e.finish_linkDone 0x0C03 l .ok 0 r
  refine ⟨?_, ?_, Dev.waiting_finish _ _ _ _ _ _⟩
  · rw [(hdone _ _).pairRest]
    exact (congrArg Pair.resyncing (Dev.pairEvent_pair _ _ _ _)).trans hfilter
  · rw [(hdone _ _).page]
    exact Dev.pairEvent_bit _ _ _ _ (by decide)

theorem Dev.resyncDone_none (d : Dev) (h : d.pair.resyncing = []) : d.resyncDone l = d := by
  unfold Dev.resyncDone
  dsimp only
  rw [h]
  refine if_pos ?_
  simp

theorem digestsCompared : DigestsCompared := by
  intro s f
  refine ⟨fun rs h hrole hall => ?_, fun k t l v w h hready hown htheirs hl hnone => ?_, fun l hup hl hrole hsent hfresh => ?_, fun l hup hl hnone => ?_⟩
  · have hdue : (s.dev.heard f).pair.due = s.dev.pair.due := by
      rw [h.heard.pairRest]
      rfl
    have hwaits := Dev.applyDue_waits ((s.dev.heard f).onPair fun p => { p with due := p.due ++ rs }) fun r hr => by
      have hin : r ∈ (s.dev.heard f).pair.due ++ rs := hr
      rw [hdue] at hin
      have hnow : (s.dev.heard f).now = s.dev.now := h.heard.now
      show (s.dev.heard f).now / msT < r.epoch
      rw [hnow]
      exact hall r hin
    refine ⟨_, h.row (g := fun d => if d.pair.role = .secondary then (d.onPair (fun p => { p with due := p.due ++ rs })).applyDue else d) rfl, ?_⟩
    rw [State.setDev_dev, if_pos (h.role.trans hrole), hwaits]
    refine ⟨congrArg (· ++ rs) hdue, h.heard.legs, h.heard.egress, ?_⟩
    show (s.dev.heard f).ptp = s.dev.ptp
    rw [h.heard.rest]
    rfl
  · refine ⟨_, h.row (g := fun d => if d.pair.partner = .ready then (d.onPair (fun p => { p with theirs := p.theirs ++ [(k, [(l, v)])] })).compareDigests else d) rfl, ?_⟩
    have hpair := h.heard.pairRest
    have hcounter : ∀ o, o < 4096 → (s.dev.heard f).counter pgPair o = s.dev.counter pgPair o := fun o ho => h.heard.counter _ _ (by decide) ho
    have hspec := (s.dev.heard f).digest_taken (k := k) (t := t) (l := l) (v := v) (w := w) (by rw [hpair]; exact hown) (by rw [hpair]; exact htheirs) hl (by rw [hpair]; exact hnone)
    rw [hcounter _ (by decide), hcounter _ (by decide), h.heard.reg] at hspec
    rw [State.setDev_dev, if_pos (h.partner.trans hready)]
    exact hspec
  · refine exec_up_spec (f := fun d => if l < 4096 then d.resyncDone l else d) rfl hup ?_
    rw [State.setDev_dev, if_pos hl]
    exact s.dev.resyncDone_sent hl hrole hsent hfresh
  · rw [exec_act (f := fun d => if l < 4096 then d.resyncDone l else d) rfl hup, if_pos hl, s.dev.resyncDone_none hnone]

/-! ### What a primary relays -/

/-- The counters of the pair's page are the same. -/
def Dev.PairCounts (d e : Dev) : Prop := ∀ o, o < 4096 → e.counter pgPair o = d.counter pgPair o

theorem Dev.PairCounts.trans (h : d.PairCounts e) (k : e.PairCounts x) : d.PairCounts x := fun o ho => (k o ho).trans (h o ho)
theorem Dev.PairCounts.ite {c : Prop} [Decidable c] (h : d.PairCounts e) (k : d.PairCounts x) : d.PairCounts (if c then e else x) := by
  split
  · exact h
  · exact k
theorem Dev.pairCounts_refl (d : Dev) : d.PairCounts d := fun _ _ => rfl
theorem Dev.pairCounts_foldl {α : Type} (g : Dev → α → Dev) (h : ∀ (d : Dev) (a : α), d.PairCounts (g d a)) (r : List α) (d : Dev) : d.PairCounts (r.foldl g d) := by
  induction r generalizing d with
  | nil => exact d.pairCounts_refl
  | cons a t ih => exact (h d a).trans (ih _)

theorem Dev.pairCounts_inc (d : Dev) (p : Nat) {o : Nat} (ho : o < 4096) : d.PairCounts (d.inc (pgEgress p) o) := fun b hb =>
  d.counter_inc_of_ne hb ho (Nat.ne_of_lt (Nat.lt_of_lt_of_le (by decide : pgPair < 37) (Nat.le_add_right 37 p)))

theorem Dev.pairCounts_raise (d : Dev) (p b so co : Nat) (y z : Word) : d.PairCounts (d.raise p b so co y z) := fun _ ho => d.counter_raise _ _ _ _ _ _ (by decide) ho

theorem Dev.pairCounts_dropOversize (d : Dev) (k : Nat) : d.PairCounts (d.dropOversize k) := by
  have hgone : ∀ (l : List EFrame) (p q : Nat), d.PairCounts (l.foldl (fun d f =>
      (d.inc (pgEgress p) 0x0F0).raise (pgEgress p) 2 (0x0E8 + p) 0x0903 (fmk 0 64 q) (fmk 0 64 f.len)) d) := fun l p q =>
    Dev.pairCounts_foldl _ (fun d f => (d.pairCounts_inc p (by decide)).trans (Dev.pairCounts_raise _ _ _ _ _ _ _)) l d
  unfold Dev.dropOversize
  dsimp only
  split
  · exact d.pairCounts_refl
  · exact .ite d.pairCounts_refl (.ite (fun o ho => hgone _ _ _ o ho) (fun o ho => hgone _ _ _ o ho))

theorem Dev.pairCounts_enqueue (d : Dev) (k : Nat) (f : EFrame) : d.PairCounts (d.enqueue k f) := by
  have hjoin : ∀ (x : Dev) (k : Nat), x.PairCounts (x.joinActive k) := fun x k => .ite x.pairCounts_refl fun _ _ => rfl
  unfold Dev.enqueue
  refine .ite d.pairCounts_refl (.ite ?_ (.ite ?_ fun _ _ => rfl))
  · exact Dev.PairCounts.trans (e := (d.inc _ _).onQueue k _) (fun o ho => d.pairCounts_inc _ (by split <;> decide) o ho) (Dev.pairCounts_raise _ _ _ _ _ _ _)
  · exact Dev.PairCounts.trans (e := d.setQueue k _) (fun _ _ => rfl) ((Dev.pairCounts_dropOversize _ _).trans (hjoin _ _))

theorem Dev.pairCounts_releaseHeldAll (d : Dev) : d.PairCounts d.releaseHeldAll :=
  Dev.PairCounts.trans (e := d.onPair fun p => { p with held := [] }) (fun _ _ => rfl) (Dev.pairCounts_foldl _ (fun d _ => d.pairCounts_enqueue _ _) _ _)

/-- A primary deposed counts it. -/
theorem Dev.depose_counts (d : Dev) (hrole : d.pair.role = .primary) (habsent : d.pair.partner ≠ .absent) (hconflict : d.pair.partner ≠ .conflict) :
    d.depose.counter pgPair 0x0B8 = d.counter pgPair 0x0B8 + 1 := by
  have hgo : (decide (d.pair.role ≠ .primary) || decide (d.pair.partner = .absent) || decide (d.pair.partner = .conflict)) = false := by simp [hrole, habsent, hconflict]
  have hpartnerless : ∀ x : Dev, x.PairCounts x.partnerless := fun x o ho => x.partnerless_linkDone.counter _ _ (by decide) ho
  have hforget : d.PairCounts d.releaseHeldAll.pairForget := fun o ho => d.pairCounts_releaseHeldAll o ho
  have hlost : ∀ x : Dev, x.PairCounts (((x.becomes .secondary 4).onPair fun p => { p with partner := .lost }).pairEvent 3 4 0) := fun x o ho =>
    (Dev.counter_raise _ _ _ _ _ _ _ (by decide) ho).trans rfl
  have hall : d.PairCounts (((d.releaseHeldAll.pairForget.partnerless.becomes .secondary 4).onPair fun p => { p with partner := .lost }).pairEvent 3 4 0) :=
    (hforget.trans (hpartnerless _)).trans (hlost _)
  unfold Dev.depose
  rw [if_neg (ne_true_of_eq_false hgo)]
  dsimp only
  rw [(Dev.sendHello_linkDone _).counter _ _ (by decide) (by decide), Dev.counter_inc_same, hall _ (by decide)]

theorem Dev.depose_none (d : Dev) (h : d.pair.role ≠ .primary) : d.depose = d := by
  unfold Dev.depose
  refine if_pos ?_
  simp [h]

/-- A join under way, or none to begin. -/
theorem Dev.joinBegins_none (d : Dev) (h : d.pair.filling = true ∨ d.pair.partner = .ready) : d.joinBegins = d := by
  unfold Dev.joinBegins
  refine if_pos ?_
  simpa using h

theorem Dev.joinBegins_first (d : Dev) (hfill : d.pair.filling = false) (hpartner : d.pair.partner ≠ .ready) :
    d.joinBegins = d.zeroAllSlots.onPair fun p => { p with filling := true, partner := .joining } := by
  unfold Dev.joinBegins
  refine if_neg ?_
  simp [hfill, hpartner]

theorem Dev.joinBegins_spec (d : Dev) (hpartner : d.pair.partner ≠ .ready) (hfill : d.pair.filling = true → d.pair.partner = .joining) :
    d.joinBegins.pair = { d.pair with filling := true, partner := .joining } ∧ (d.pair.filling = false → ∀ k, d.joinBegins.slot k = {} ∧ d.joinBegins.slotCtxs k = []) ∧
    d.joinBegins.legs = d.legs ∧ d.joinBegins.ctl = d.ctl := by
  cases hf : d.pair.filling
  · rw [d.joinBegins_first hf hpartner]
    exact ⟨rfl, fun _ k => ⟨rfl, rfl⟩, rfl, rfl⟩
  · rw [d.joinBegins_none (.inl hf)]
    have hsame : d.pair = { d.pair with filling := d.pair.filling, partner := d.pair.partner } := rfl
    rw [hf, hfill hf] at hsame
    exact ⟨hsame, fun hc => Bool.noConfusion hc, rfl, rfl⟩

/-! ### Commands and writes -/

/-- A relayed command that acts at its boundary is held for the primary's, with the bytes read for it. -/
theorem State.relayed_held (s : State) (r : RelayedCmd) {o : OpSpec} (hspec : opSpec r.opcode = some o) (hat : o.atOnce = false) (hcommit : r.opcode ≠ 0x0001)
    (hcomputes : r.opcode ≠ 0x0700) : ∃ a, (s.relayed r).dev.ctl.accepted = s.dev.ctl.accepted ++ [a] ∧ a.due = r.boundary ∧ a.tok.cmd = r.cmd ∧ a.tok.opcode = r.opcode ∧
      a.tok.relayed = true ∧ a.data = r.data ∧ a.late = false ∧ (s.relayed r).dev.legs = s.dev.legs := by
  have hnot : (Token.computes ⟨r.cmd, r.opcode, (s.dev.ring r.cmd.realm r.cmd.ring).nextPos, relayGen, false⟩) = false := by simpa [Token.computes] using hcomputes
  refine ⟨⟨⟨r.cmd, r.opcode, (s.dev.ring r.cmd.realm r.cmd.ring).nextPos, relayGen, false⟩, r.boundary, false, r.data⟩, ?_, rfl, rfl, rfl, rfl, rfl, rfl, ?_⟩
  · unfold State.relayed
    rw [hspec]
    dsimp only
    rw [if_neg hcommit, hat, if_neg Bool.false_ne_true]
    simp only [State.onDev, State.setDev_dev, Dev.holdCommand, hnot, Bool.false_eq_true, if_false]
    rfl
  · unfold State.relayed
    rw [hspec]
    dsimp only
    rw [if_neg hcommit, hat, if_neg Bool.false_ne_true]
    rfl

theorem State.early_fills (s : State) (e : Early) (hrole : s.dev.pair.role = .secondary) (hfill : s.dev.pair.filling = true) :
    s.early e = s.onDev fun d => d.onPair fun p => { p with early := p.early ++ [e] } := by
  unfold State.early
  rw [if_neg (by simp [hrole]), if_pos hfill]

theorem State.early_acts (s : State) (hrole : s.dev.pair.role = .secondary) (hfill : s.dev.pair.filling = false) :
    (∀ r, s.early (.command r) = s.relayed r) ∧ ∀ p off v, s.early (.write p off v) = s.relayedWrite p off v := by
  have hnot : ¬ decide (s.dev.pair.role ≠ .secondary) = true := by simp [hrole]
  have hno : ¬ s.dev.pair.filling = true := ne_true_of_eq_false hfill
  exact ⟨fun _ => (if_neg hnot).trans (if_neg hno), fun _ _ _ => (if_neg hnot).trans (if_neg hno)⟩

/-- A relayed write of a plain register of the DEVICE page. -/
theorem State.relayedWrite_device (s : State) {off : Nat} {g : Reg} (hoff : off < 0x800) (hg : PType.device.regAt off = some g) (hrws : g.rws = false) (hlo : 0x048 ≤ off)
    (hi : s.pageState pgDevice ≠ .isolated) (ht : s.pageState pgDevice ≠ .testing) :
    (s.relayedWrite pgDevice off v).dev.reg pgDevice off = (mergeFields g.flds (s.dev.reg pgDevice off) (s.seen pgDevice off) v).1 := by
  have htype : pageType pgDevice = some .device := rfl
  have hshadow : decide (0x800 ≤ off) = false := decide_eq_false (Nat.not_le.2 hoff)
  have hopen : ((decide (s.pageState pgDevice = .isolated) || decide (s.pageState pgDevice = .testing)) && !testControl .device off) = false := by simp [hi, ht]
  unfold State.relayedWrite
  simp only [hshadow, Bool.false_eq_true, if_false, htype, hg]
  rw [if_neg (by decide), State.store]
  rw [if_neg (by omega), hopen, if_neg Bool.false_ne_true, if_neg Bool.false_ne_true, hrws, if_neg Bool.false_ne_true, if_neg (by omega)]
  have hplain : s.liveWrite pgDevice .device g off v = s.onDev fun d => (d.setReg pgDevice off (mergeFields g.flds (d.reg pgDevice off) (s.seen pgDevice off) v).1).errs pgDevice
    (mergeFields g.flds (d.reg pgDevice off) (s.seen pgDevice off) v).2 := rfl
  rw [hplain, State.onDev, State.setDev_dev, Dev.reg_errs, Dev.reg_setReg, if_pos rfl]

/-- What a frame taken leaves of the unit that its payload acts on. -/
theorem Takes.filling (h : Takes s f) : (s.dev.heard f).pair.filling = s.dev.pair.filling := by
  rw [h.heard.pairRest]
  rfl

theorem Takes.pageState (h : Takes s f) : (s.setDev (s.dev.heard f)).pageState pgDevice = s.pageState pgDevice := by
  have hpages : (s.dev.heard f).ctl.pages = s.dev.ctl.pages := h.heard.pages
  show ((s.dev.heard f).page pgDevice).state = (s.dev.page pgDevice).state
  rw [Dev.page, hpages, Dev.page]

theorem Takes.relays_command (h : Takes s f) (hrole : s.dev.pair.role = .secondary) (r : RelayedCmd) :
    (∀ o, s.dev.pair.filling = false → opSpec r.opcode = some o → o.atOnce = false → r.opcode ≠ 0x0001 → r.opcode ≠ 0x0700 → ∃ u a, exec (.command f r) s = .next u ∧
      u.dev.ctl.accepted = s.dev.ctl.accepted ++ [a] ∧ a.due = r.boundary ∧ a.tok.cmd = r.cmd ∧ a.tok.opcode = r.opcode ∧ a.tok.relayed = true ∧ a.data = r.data ∧
      a.late = false ∧ u.dev.legs = s.dev.legs) ∧
    (s.dev.pair.filling = true → ∃ u, exec (.command f r) s = .next u ∧ u.dev.pair.early = s.dev.pair.early ++ [.command r] ∧ u.dev.ctl.accepted = s.dev.ctl.accepted) := by
  have hrow : exec (.command f r) s = .next ((s.setDev (s.dev.heard f)).early (.command r)) := h.takeRow (g := fun s => s.early (.command r)) rfl
  refine ⟨fun o hfill hspec hat hcommit hcomputes => ?_, fun hfill => ?_⟩
  · obtain ⟨a, hacc, hdue, hcmd, hop, hrel, hdata, hlate, hlegs⟩ := (s.setDev (s.dev.heard f)).relayed_held r hspec hat hcommit hcomputes
    rw [((s.setDev (s.dev.heard f)).early_acts (h.role.trans hrole) (h.filling.trans hfill)).1] at hrow
    exact ⟨_, a, hrow, hacc.trans (congrArg (· ++ [a]) h.heard.accepted), hdue, hcmd, hop, hrel, hdata, hlate, hlegs.trans h.heard.legs⟩
  · rw [(s.setDev (s.dev.heard f)).early_fills _ (h.role.trans hrole) (h.filling.trans hfill)] at hrow
    refine ⟨_, hrow, ?_, h.heard.accepted⟩
    show (s.dev.heard f).pair.early ++ _ = _
    rw [h.heard.pairRest]
    rfl

theorem Takes.relays_write (h : Takes s f) (hrole : s.dev.pair.role = .secondary) (off : Nat) (v : Word) :
    (∀ p, s.dev.pair.filling = true → ∃ u, exec (.regWrite f p off v) s = .next u ∧ u.dev.pair.early = s.dev.pair.early ++ [.write p off v] ∧ u.dev.ctl.regs = s.dev.ctl.regs) ∧
    (∀ g, s.dev.pair.filling = false → off < 0x800 → PType.device.regAt off = some g → g.rws = false → 0x048 ≤ off → s.pageState pgDevice ≠ .isolated →
      s.pageState pgDevice ≠ .testing → ∃ u, exec (.regWrite f pgDevice off v) s = .next u ∧
        u.dev.reg pgDevice off = (mergeFields g.flds (s.dev.reg pgDevice off) (s.seen pgDevice off) v).1) := by
  have hrow : ∀ p, exec (.regWrite f p off v) s = .next ((s.setDev (s.dev.heard f)).early (.write p off v)) := fun p => h.takeRow (g := fun s => s.early (.write p off v)) rfl
  refine ⟨fun p hfill => ?_, fun g hfill hoff hg hrws hlo hi ht => ?_⟩
  · have hrow := hrow p
    rw [(s.setDev (s.dev.heard f)).early_fills _ (h.role.trans hrole) (h.filling.trans hfill)] at hrow
    refine ⟨_, hrow, ?_, h.heard.regs⟩
    show (s.dev.heard f).pair.early ++ _ = _
    rw [h.heard.pairRest]
    rfl
  · have hrow := hrow pgDevice
    rw [((s.setDev (s.dev.heard f)).early_acts (h.role.trans hrole) (h.filling.trans hfill)).2] at hrow
    refine ⟨_, hrow, ?_⟩
    rw [State.relayedWrite_device _ hoff hg hrws hlo (by rw [h.pageState]; exact hi) (by rw [h.pageState]; exact ht), mergeFields_word, mergeFields_word]
    rw [State.setDev_dev, h.heard.reg]
    rfl

/-! ### Keys, state, surrender and takeover -/

theorem Takes.keeps_key (h : Takes s f) (hrole : s.dev.pair.role = .secondary) (hno : s.dev.pair.partner = .ready ∨ s.dev.pair.filling = true) (k cmd : Nat) (b : List Byte) :
    exec (.key f k cmd b) s = .next (s.setDev ((s.dev.heard f).keyRelayed (k % 16384) cmd f.seq b)) := by
  have hjoin : (s.dev.heard f).joinBegins = s.dev.heard f := Dev.joinBegins_none _ (by rw [h.partner, h.filling]; exact hno.symm)
  rw [h.row (g := fun d => if d.pair.role = .secondary then d.joinBegins.keyRelayed (k % 16384) cmd f.seq b else d) rfl, if_pos (h.role.trans hrole), hjoin]

theorem Takes.relays_keys (h : Takes s f) (hrole : s.dev.pair.role = .secondary) (hno : s.dev.pair.partner = .ready ∨ s.dev.pair.filling = true) (k : Nat) (b : List Byte) :
    (k < 16384 → ∃ u, exec (.key f k 2 b) s = .next u ∧ u.dev.slot k = {} ∧ u.dev.slotCtxs k = [] ∧ ∀ j, j ≠ k → u.dev.slot j = s.dev.slot j) ∧
    (∀ c, c ≠ 2 → ∃ u, exec (.key f k c b) s = .next u ∧ (Config.linkOpen b f.seq = none → u.dev.flint = s.dev.flint)) := by
  refine ⟨fun hk => ⟨_, h.keeps_key hrole hno k 2 b, ?_⟩, fun c hc => ⟨_, h.keeps_key hrole hno k c b, fun hopen => ?_⟩⟩
  · have hzero : (s.dev.heard f).keyRelayed (k % 16384) 2 f.seq b = (s.dev.heard f).zeroSlot k := by rw [Nat.mod_eq_of_lt hk]; exact if_pos rfl
    rw [State.setDev_dev, hzero]
    refine ⟨(Dev.slot_zeroSlot _ _ _).trans (if_pos rfl), (Dev.slotCtxs_zeroSlot _ _ _).trans (if_pos rfl), fun j hj => ?_⟩
    rw [Dev.slot_zeroSlot, if_neg hj]
    exact Dev.slot_of_keys (congrArg Flint.keys h.heard.flint) j
  · rw [State.setDev_dev, Dev.keyRelayed, if_neg hc, hopen]
    exact h.heard.flint

theorem Takes.relays_state (h : Takes s f) (hrole : s.dev.pair.role = .secondary) (hpartner : s.dev.pair.partner ≠ .ready)
    (hfill : s.dev.pair.filling = true → s.dev.pair.partner = .joining) (m off : Nat) (b : List Byte) : ∃ u, exec (.state f m off b) s = .next u ∧
      u.dev.pair.chunks = s.dev.pair.chunks ++ [(m, off, b)] ∧ u.dev.pair.partner = .joining ∧ u.dev.pair.filling = true ∧
      (s.dev.pair.filling = false → ∀ k, u.dev.slot k = {} ∧ u.dev.slotCtxs k = []) ∧ u.dev.legs = s.dev.legs ∧ u.dev.ctl.regs = s.dev.ctl.regs := by
  obtain ⟨hpair, hslots, hlegs, hctl⟩ := (s.dev.heard f).joinBegins_spec (by rw [h.partner]; exact hpartner) (by rw [h.partner, h.filling]; exact hfill)
  have hchunks : (s.dev.heard f).pair.chunks = s.dev.pair.chunks := by
    rw [h.heard.pairRest]
    rfl
  refine ⟨_, h.row (g := fun d => if d.pair.role = .secondary then d.joinBegins.onPair (fun p => { p with chunks := p.chunks ++ [(m, off, b)] }) else d) rfl, ?_⟩
  rw [State.setDev_dev, if_pos (h.role.trans hrole)]
  refine ⟨?_, congrArg Pair.partner hpair, congrArg Pair.filling hpair, fun hf k => hslots (h.filling.trans hf) k, hlegs.trans h.heard.legs, ?_⟩
  · show (s.dev.heard f).joinBegins.pair.chunks ++ _ = _
    rw [hpair, ← hchunks]
  · exact (congrArg Ctl.regs hctl).trans h.heard.regs

theorem Takes.relays_surrender (h : Takes s f) (hrole : s.dev.pair.role = .secondary) (hready : s.dev.pair.partner = .ready) (hnone : s.dev.pair.takeover = none) (b : Nat) :
    ∃ u, exec (.surrender f b) s = .next u ∧ u.dev.pair.takeover = some (nearShort s.dev.now (BitVec.ofNat 64 b), 3) ∧ u.dev.pair.role = .secondary := by
  have htake : (s.dev.heard f).pair.takeover = none := by
    rw [h.heard.pairRest]
    exact hnone
  have hgo : (decide ((s.dev.heard f).pair.role = .secondary) && decide ((s.dev.heard f).pair.partner = .ready) && (s.dev.heard f).pair.takeover.isNone) = true := by
    rw [h.role, h.partner, hrole, hready, htake]
    rfl
  refine ⟨_, h.row (g := fun d => if decide (d.pair.role = .secondary) && decide (d.pair.partner = .ready) && d.pair.takeover.isNone then
      (d.onPair (fun p => { p with takeover := some (nearShort d.now (BitVec.ofNat 64 b), 3) })) else d) rfl, ?_⟩
  rw [State.setDev_dev, if_pos hgo, h.heard.now]
  exact ⟨rfl, h.role.trans hrole⟩

theorem relays : Relays := by
  intro s f h
  refine ⟨fun hrole => ⟨fun r o hfill hspec hat hcommit hcomputes => (h.relays_command hrole r).1 o hfill hspec hat hcommit hcomputes,
    fun r hfill => (h.relays_command hrole r).2 hfill, fun p off v hfill => (h.relays_write hrole off v).1 p hfill,
    fun off v g hfill hoff hg hrws hlo _ hi ht => (h.relays_write hrole off v).2 g hfill hoff hg hrws hlo hi ht,
    fun k b hno hk => (h.relays_keys hrole hno k b).1 hk, fun k c b hno hc => (h.relays_keys hrole hno k b).2 c hc,
    fun m off b hpartner hfill => h.relays_state hrole hpartner hfill m off b, fun b hready hnone => h.relays_surrender hrole hready hnone b, fun b => ?_⟩,
    fun b hrole hready => ?_⟩
  · refine ⟨_, h.row (g := Dev.depose) rfl, ?_⟩
    rw [State.setDev_dev, Dev.depose_none _ (by rw [h.role, hrole]; decide)]
    exact h.role.trans hrole
  · have hr := h.role.trans hrole
    have ha : (s.dev.heard f).pair.partner ≠ .absent := by rw [h.partner, hready]; decide
    have hc : (s.dev.heard f).pair.partner ≠ .conflict := by rw [h.partner, hready]; decide
    obtain ⟨hsec, hcause, hlost, -⟩ := (s.dev.heard f).depose_spec hr ha hc
    have hcount : (s.dev.heard f).counter pgPair 0x0B8 = s.dev.counter pgPair 0x0B8 := h.heard.counter _ _ (by decide) (by decide)
    refine ⟨_, h.row (g := Dev.depose) rfl, hsec, hcause, hlost, ?_⟩
    rw [State.setDev_dev, Dev.depose_counts _ hr ha hc, hcount]

/-- Settles O44: a frame is refused or taken by its CRC and its number, and each type does on the unit that has taken it what its row says. -/
theorem linkFrames : Obligations.LinkFrames := ⟨framesRefused, ackTaken, helloTable, manifestTaken, digestsCompared, relays⟩

end Sys2Proof.Machine
end

section
/-! Twinned engines, swaps, faults and ISOLATE of a Geode unit (R257, R295 to R306, R308): O22. -/

namespace Sys2Proof.Machine
open Sys2Proof

variable {s : State} {d e : Dev} {c : HostCmd} {a k l p q t : Nat}

theorem Dev.Noted.geode (h : d.Noted e) : e.geode = d.geode := by rw [h]
theorem Dev.Completed.geode (h : d.Completed e) : e.geode = d.geode := by rw [h]

theorem Dev.geUnit_congr (h : e.geode = d.geode) (p : Nat) : e.geUnit p = d.geUnit p := by rw [Dev.geUnit, h, Dev.geUnit]

theorem Dev.geEvent_noted (d : Dev) (p b : Nat) (x y : Word) : d.Noted (d.geEvent p b x y) := d.raise_noted _ _ _ _ _ _

/-! ### What an event leaves of a page -/

theorem Dev.state_raise (d : Dev) (p b i n : Nat) (x y : Word) (q : Nat) : ((d.raise p b i n x y).page q).state = (d.page q).state := by
  by_cases hq : q = p
  · rw [hq, Dev.raise, Dev.page_report, Dev.page_event_same]
  · rw [d.page_raise_of_ne _ _ _ _ _ hq]

theorem Dev.isolate_raise (d : Dev) (p b i n : Nat) (x y : Word) (q : Nat) : ((d.raise p b i n x y).page q).isolate = (d.page q).isolate := by
  by_cases hq : q = p
  · rw [hq, Dev.raise, Dev.page_report, Dev.page_event_same]
  · rw [d.page_raise_of_ne _ _ _ _ _ hq]

/-! ### GEODE_TWIN and GEODE_UNTWIN (R295 to R301) -/

theorem Dev.geUnit_setTwin (d : Dev) (k : Nat) (b : Bool) (p : Nat) :
    (d.setTwin k b).geUnit p = if p = 2 * k ∨ p = 2 * k + 1 then { d.geUnit p with twinned := b } else d.geUnit p := by
  by_cases h0 : p = 2 * k
  · simp [Dev.setTwin, h0]
  · by_cases h1 : p = 2 * k + 1
    · simp [Dev.setTwin, h1]
    · simp [Dev.setTwin, h0, h1]

theorem Dev.twinEvent_noted (d : Dev) (k : Nat) : d.Noted (d.twinEvent k) := Dev.noted_foldl _ (fun d p => d.geEvent_noted p 15 _ _) _ _

/-- A command that twins a pair, or ends that, and answers OK. -/
theorem Accepts.twins {o : OpSpec} (h : Accepts o c s) {n : Nat} {b : Bool}
    (he : o.effect c s = (s.setDev ((s.dev.setTwin k b).twinEvent k), .done .ok n ((s.dev.setTwin k b).twinEvent k).short)) :
    ((runCmd o c s).dev.geUnit (2 * k)).twinned = b ∧ ((runCmd o c s).dev.geUnit (2 * k + 1)).twinned = b ∧
      ∀ p, p ≠ 2 * k → p ≠ 2 * k + 1 → (runCmd o c s).dev.geUnit p = s.dev.geUnit p := by
  have hnoted := (s.dev.setTwin k b).twinEvent_noted k
  have htimed : s.dev.Timed (s.dev.setTwin k b) := Dev.timed_of rfl rfl
  obtain ⟨e, hrun, -, hdone, -⟩ := h.okTimed he (htimed.trans hnoted.timed)
  have hunit : ∀ p, (runCmd o c s).dev.geUnit p = (s.dev.setTwin k b).geUnit p := fun p => by
    rw [hrun]; exact Dev.geUnit_congr (hdone.geode.trans hnoted.geode) p
  refine ⟨?_, ?_, fun p h0 h1 => ?_⟩
  · rw [hunit, Dev.geUnit_setTwin, if_pos (Or.inl rfl)]
  · rw [hunit, Dev.geUnit_setTwin, if_pos (Or.inr rfl)]
  · rw [hunit, Dev.geUnit_setTwin, if_neg (by simp [h0, h1])]

/-! ### GEODE_SWAP (R302 to R305) -/

theorem Dev.geRestart_geode (d : Dev) (l : Nat) :
    d.geRestart l = { d with geode := { d.geode with enc := (d.geRestart l).geode.enc, dec := (d.geRestart l).geode.dec, run := (d.geRestart l).geode.run } } := by
  unfold Dev.geRestart
  split
  · rfl
  · split <;> rfl

theorem Dev.geUnit_geRestart (d : Dev) (l p : Nat) : (d.geRestart l).geUnit p = d.geUnit p := by rw [d.geRestart_geode l]; rfl
theorem Dev.swaps_geRestart (d : Dev) (l : Nat) : (d.geRestart l).geode.swaps = d.geode.swaps := by rw [d.geRestart_geode l]
theorem Dev.geRestart_timed (d : Dev) (l : Nat) : d.Timed (d.geRestart l) := Dev.timed_of (by rw [d.geRestart_geode l]) (by rw [d.geRestart_geode l])

/-- The step of a move from unit `a` to unit `t`, before its events. -/
def Dev.swapPut (d : Dev) (a t : Nat) : Dev :=
  ((d.setGeUnit t { d.geUnit t with logical := (d.geUnit a).logical }).setGeUnit a
    { (d.setGeUnit t { d.geUnit t with logical := (d.geUnit a).logical }).geUnit a with logical := none }).onPage (pgGeode a)
      (fun h => { h with isolate := true, state := .isolated })

theorem Dev.geUnit_swapPut_target (d : Dev) (h : t ≠ a) : ((d.swapPut a t).geUnit t).logical = (d.geUnit a).logical := by
  change ((Dev.setGeUnit _ a _).geUnit t).logical = _
  rw [Dev.geUnit_setGeUnit, if_neg h, Dev.geUnit_setGeUnit, if_pos rfl]

theorem Dev.geUnit_swapPut_self (d : Dev) (a t : Nat) : ((d.swapPut a t).geUnit a).logical = none := by
  change ((Dev.setGeUnit _ a _).geUnit a).logical = _
  rw [Dev.geUnit_setGeUnit, if_pos rfl]

/-- The move of an engine that one unit serves. -/
def Dev.swapOne (d : Dev) (l a t : Nat) : Dev :=
  (((d.geRestart l).swapPut a t).geEvent a 14 (fmk 0 64 l) (fmk 0 6 a ||| fmk 8 6 t)).geEvent t 14 (fmk 0 64 l) (fmk 0 6 a ||| fmk 8 6 t)

theorem Dev.swapMove_one (d : Dev) (h : d.servers l = [a]) (t : Nat) :
    d.swapMove l t = { d.swapOne l a t with geode := { (d.swapOne l a t).geode with swaps := (d.swapOne l a t).geode.swaps.filter (fun x => x.logical != l) } } := by
  unfold Dev.swapMove
  rw [h]
  rfl

theorem Dev.swapOne_noted (d : Dev) (l a t : Nat) : ((d.geRestart l).swapPut a t).Noted (d.swapOne l a t) :=
  (Dev.geEvent_noted _ _ _ _ _).trans (Dev.geEvent_noted _ _ _ _ _)

theorem Dev.swapMove_timed (d : Dev) (h : d.servers l = [a]) (t : Nat) : d.Timed (d.swapMove l t) := by
  have hput : (d.geRestart l).Timed ((d.geRestart l).swapPut a t) := Dev.timed_of rfl rfl
  have hone : d.Timed (d.swapOne l a t) := ((d.geRestart_timed l).trans hput).trans (d.swapOne_noted l a t).timed
  rw [d.swapMove_one h]
  exact hone.trans (Dev.timed_of rfl rfl)

/-- After the move the target serves what the unit served, which serves nothing and is ISOLATED. -/
theorem Dev.swapMove_spec (d : Dev) (h : d.servers l = [a]) (ht : t ≠ a) :
    ((d.swapMove l t).geUnit t).logical = (d.geUnit a).logical ∧ ((d.swapMove l t).geUnit a).logical = none ∧
      ((d.swapMove l t).page (pgGeode a)).state = .isolated ∧ ((d.swapMove l t).page (pgGeode a)).isolate = true ∧
      (d.swapMove l t).geode.swaps = d.geode.swaps.filter (fun x => x.logical != l) := by
  have hgeode := (d.swapOne_noted l a t).geode
  have hunit : ∀ p, (d.swapMove l t).geUnit p = ((d.geRestart l).swapPut a t).geUnit p := fun p => by
    rw [d.swapMove_one h]; exact Dev.geUnit_congr hgeode p
  have hpage : ∀ q, (d.swapMove l t).page q = (d.swapOne l a t).page q := fun q => by rw [d.swapMove_one h]; rfl
  refine ⟨?_, ?_, ?_, ?_, ?_⟩
  · rw [hunit, Dev.geUnit_swapPut_target _ ht, d.geUnit_geRestart]
  · rw [hunit, Dev.geUnit_swapPut_self]
  · rw [hpage, Dev.swapOne, Dev.geEvent, Dev.geEvent, Dev.state_raise, Dev.state_raise, Dev.swapPut, Dev.page_onPage, if_pos rfl]
  · rw [hpage, Dev.swapOne, Dev.geEvent, Dev.geEvent, Dev.isolate_raise, Dev.isolate_raise, Dev.swapPut, Dev.page_onPage, if_pos rfl]
  · rw [d.swapMove_one h, hgeode]
    exact congrArg (List.filter _) (d.swaps_geRestart l)

/-- A unit that serves an engine is bound to one. -/
theorem Dev.logical_of_serves (h : a ∈ d.servers l) : (d.geUnit a).logical.isSome = true := by
  have hl : d.geLogical a = some l := by simpa using (List.mem_filter.1 h).2
  unfold Dev.geLogical at hl
  dsimp only at hl
  cases hb : (d.geUnit a).logical
  · cases ht : (d.geUnit a).twinned <;> simp [hb, ht, minEngine] at hl
  · rfl

/-- The unit that a swap moves to serves nothing. -/
theorem Dev.swapChoose_free {m : Nat} (h : d.swapChoose l m = some t) : (d.geUnit t).logical = none := by
  have htarget : d.swapTarget (d.geTwinned l) t = true := by
    unfold Dev.swapChoose at h
    dsimp only at h
    split at h
    · simpa using List.find?_some h
    · split at h
      · rename_i hok
        cases h
        exact hok
      · cases h
  simp only [Dev.swapTarget, Bool.and_eq_true, Option.isNone_iff_eq_none] at htarget
  obtain ⟨⟨⟨⟨-, hnone⟩, -⟩, -⟩, -⟩ := htarget
  exact hnone

theorem Dev.swapChoose_apart {m : Nat} (h : d.swapChoose l m = some t) (hs : d.servers l = [a]) : t ≠ a := by
  intro hta
  have hsome := Dev.logical_of_serves (l := l) (d := d) (a := a) (by simp [hs])
  rw [← hta, Dev.swapChoose_free h] at hsome
  cases hsome

/-- The units of an engine finish the job in hand before they go. -/
def Dev.swapWaits (d : Dev) (l t : Nat) : Dev :=
  let x := (d.servers l).foldl (fun (d : Dev) p => d.onPage (pgGeode p) (fun h => { h with state := .draining })) d
  { x with geode := { x.geode with swaps := x.geode.swaps ++ [⟨l, t⟩] } }

theorem Dev.swapWaits_noted (d : Dev) (l t : Nat) :
    Dev.Noted { d with geode := { d.geode with swaps := d.geode.swaps ++ [⟨l, t⟩] } } (d.swapWaits l t) := by
  have h : d.Noted ((d.servers l).foldl (fun (d : Dev) p => d.onPage (pgGeode p) (fun h => { h with state := .draining })) d) :=
    Dev.noted_foldl _ (fun d p => d.onPage_noted (pgGeode p) _) _ _
  unfold Dev.swapWaits
  dsimp only
  rw [h]
  rfl

theorem Dev.swapWaits_timed (d : Dev) (l t : Nat) : d.Timed (d.swapWaits l t) :=
  (Dev.timed_of rfl rfl : d.Timed { d with geode := { d.geode with swaps := d.geode.swaps ++ [⟨l, t⟩] } }).trans (d.swapWaits_noted l t).timed

/-- What an accepted GEODE_SWAP does. -/
theorem Accepts.swaps (h : Accepts geodeSwapSpec c s) (ht : s.dev.swapChoose (c.arg 0 1) (c.arg 1 1) = some t) :
    ∃ u, exec (.geodeSwap c) s = .next u ∧
      (((s.dev.geRun (c.arg 0 1)).isSome && s.dev.geFinishes (c.arg 0 1)) = true →
        u.dev.geode.swaps = s.dev.geode.swaps ++ [⟨c.arg 0 1, t⟩] ∧ u.dev.geode.units = s.dev.geode.units) ∧
      (∀ a, ((s.dev.geRun (c.arg 0 1)).isSome && s.dev.geFinishes (c.arg 0 1)) = false → s.dev.servers (c.arg 0 1) = [a] →
        (u.dev.geUnit t).logical = (s.dev.geUnit a).logical ∧ (u.dev.geUnit a).logical = none ∧
        (u.dev.page (pgGeode a)).state = .isolated ∧ (u.dev.page (pgGeode a)).isolate = true) := by
  refine ⟨_, rfl, fun hbusy => ?_, fun a hfree hs => ?_⟩
  · have heff : geodeSwapSpec.effect c s = (s.setDev (s.dev.swapWaits (c.arg 0 1) t), .done .ok t (s.dev.swapWaits (c.arg 0 1) t).short) := by
      simp only [OpSpec.effect, geodeSwapSpec, devRun, ht, hbusy, if_true]
      rfl
    obtain ⟨e, hrun, -, hdone, -⟩ := h.okTimed heff (s.dev.swapWaits_timed _ _)
    have hgeode := hdone.geode.trans (s.dev.swapWaits_noted (c.arg 0 1) t).geode
    rw [hrun]
    exact ⟨(congrArg Geode.swaps hgeode :), (congrArg Geode.units hgeode :)⟩
  · have heff : geodeSwapSpec.effect c s = (s.setDev (s.dev.swapMove (c.arg 0 1) t), .done .ok t (s.dev.swapMove (c.arg 0 1) t).short) := by
      simp only [OpSpec.effect, geodeSwapSpec, devRun, ht, hfree, Bool.false_eq_true, if_false]
      rfl
    obtain ⟨e, hrun, -, hdone, -⟩ := h.okTimed heff (s.dev.swapMove_timed hs t)
    obtain ⟨htarget, hself, hstate, hiso, -⟩ := s.dev.swapMove_spec hs (Dev.swapChoose_apart ht hs)
    have hunit := Dev.geUnit_congr hdone.geode
    rw [hrun]
    refine ⟨(congrArg GeUnit.logical (hunit t)).trans htarget, (congrArg GeUnit.logical (hunit a)).trans hself, ?_, ?_⟩
    · exact (congrArg PageHdr.state (hdone.page _)).trans hstate
    · exact (congrArg PageHdr.isolate (hdone.page _)).trans hiso

/-! ### GEODE_SWAP_MOVE, link errors and faults (R303, R304, R308) -/

/-- What GEODE_SWAP_MOVE does to the device. -/
def Dev.swapRow (d : Dev) (l : Nat) : Dev :=
  match d.geode.swaps.find? (fun x => x.logical == l) with
  | none => d
  | some x => if (d.geRun l).isSome && d.geFinishes l then d else d.swapMove l x.target

theorem Dev.swapRow_none (h : d.geode.swaps.find? (fun x => x.logical == l) = none) : d.swapRow l = d := by rw [Dev.swapRow, h]

theorem Dev.swapRow_some {x : GeSwap} (h : d.geode.swaps.find? (fun y => y.logical == l) = some x) :
    d.swapRow l = if (d.geRun l).isSome && d.geFinishes l then d else d.swapMove l x.target := by rw [Dev.swapRow, h]

theorem exec_geodeSwapMove (s : State) (l : Nat) (h : s.up = true) : exec (.geodeSwapMove l) s = .next (s.setDev (s.dev.swapRow l)) := exec_act (f := fun d => d.swapRow l) rfl h

/-- What GEODE_LINK_ERROR does to the device. -/
def Dev.linkError (d : Dev) (k : Nat) (corrected : Bool) : Dev :=
  if 17 ≤ k ∨ (d.geUnit (2 * k)).twinned = false then d
  else if corrected then d.inc (pgGeode (2 * k)) 0x168
  else [2 * k, 2 * k + 1].foldl (fun (d : Dev) p => d.onPage (pgGeode p) (fun h => { h with state := .faulted })) d

theorem exec_geodeLinkError (s : State) (k : Nat) (b : Bool) (h : s.up = true) :
    exec (.geodeLinkError k b) s = .next (s.setDev (s.dev.linkError k b)) := exec_act (f := fun d => d.linkError k b) rfl h

theorem Dev.linkError_page (h : k < 17) (ht : (d.geUnit (2 * k)).twinned = true) (q : Nat) :
    (d.linkError k false).page q =
      if q = pgGeode (2 * k) ∨ q = pgGeode (2 * k + 1) then { d.page q with state := .faulted } else d.page q := by
  have hd : d.linkError k false = (d.onPage (pgGeode (2 * k)) (fun h => { h with state := .faulted })).onPage (pgGeode (2 * k + 1)) (fun h => { h with state := .faulted }) := by
    rw [Dev.linkError, if_neg (by simp [ht]; omega), if_neg (by simp)]
    rfl
  have hne : pgGeode (2 * k + 1) ≠ pgGeode (2 * k) := by simp [pgGeode]
  rw [hd]
  by_cases h1 : q = pgGeode (2 * k + 1)
  · rw [h1, Dev.page_onPage, if_pos rfl, Dev.page_onPage, if_neg hne, if_pos (Or.inr rfl)]
  · by_cases h0 : q = pgGeode (2 * k)
    · rw [h0, Dev.page_onPage, if_neg hne.symm, Dev.page_onPage, if_pos rfl, if_pos (Or.inl rfl)]
    · rw [Dev.page_onPage, if_neg h1, Dev.page_onPage, if_neg h0, if_neg (by simp [h0, h1])]

/-- What ENGINE_FAULT does to the device. -/
def Dev.engineFault (d : Dev) (p : Nat) : Dev :=
  if 34 ≤ p ∨ (d.page (pgGeode p)).state = .off then d else d.onPage (pgGeode p) (fun h => { h with state := .faulted })

theorem exec_engineFault (s : State) (p : Nat) (h : s.up = true) : exec (.engineFault p) s = .next (s.setDev (s.dev.engineFault p)) := exec_act (f := fun d => d.engineFault p) rfl h

/-! ### ISOLATE of a unit (R257) -/

theorem pageType_pgGeode (h : p < 34) : pageType (pgGeode p) = some .geode ∧ pageInst (pgGeode p) = p := by
  have key : ∀ p : Fin 34, pageType (pgGeode p) = some .geode ∧ pageInst (pgGeode p) = p := by decide +kernel
  exact key ⟨p, h⟩

/-- ISOLATE of a unit whose engine has no job in hand. -/
theorem Dev.isolate_geode (hp : p < 34) (hst : (d.page (pgGeode p)).state = .ready) (hfree : ∀ l, d.geLogical p = some l → d.geRun l = none) :
    d.isolate (pgGeode p) true = d.onPage (pgGeode p) (fun h => { h with isolate := true, state := .isolated }) := by
  obtain ⟨ht, hi⟩ := pageType_pgGeode hp
  simp only [Dev.isolate, ht, hi, Dev.geIsolate, hst, if_true]
  cases hl : d.geLogical p with
  | none => rfl
  | some l => simp [hfree l hl]

/-- ENABLE of a unit's page written. -/
def PageHdr.enableAs (on : Bool) (x : PageHdr) : PageHdr :=
  { x with enable := on, state := if on && decide (x.state = .off) then .init else x.state }

/-- PAGE_CTRL written with ISOLATE set, no command, and the rest as it stands. -/
theorem State.ctrlWrite_isolates {v : Word} (hp : p < 34) (hst : (s.dev.page (pgGeode p)).state = .ready) (hi : (s.dev.page (pgGeode p)).isolate = false)
    (hfree : ∀ l, s.dev.geLogical p = some l → s.dev.geRun l = none) (h6 : fld v 6 58 = 0) (h5 : fld v 5 1 = fld (s.dev.page (pgGeode p)).ctrlWord 5 1)
    (h0 : bit v 0 = (s.dev.page (pgGeode p)).enable) (h1 : bit v 1 = true) (h2 : bit v 2 = false) (h3 : bit v 3 = false) (h4 : bit v 4 = false) :
    ∃ e, s.dev.OnlyPage e (pgGeode p) { s.dev.page (pgGeode p) with isolate := true, state := .isolated } ∧
      s.ctrlWrite (pgGeode p) .geode v = s.setDev e := by
  obtain ⟨x, hx⟩ : ∃ x, x = s.dev.onPage (pgGeode p) (PageHdr.enableAs (bit v 0)) := ⟨_, rfl⟩
  have honly : s.dev.OnlyPage x (pgGeode p) ((s.dev.page (pgGeode p)).enableAs (bit v 0)) := hx ▸ (Dev.OnlyPage.refl _ _).onPage _
  have hstate : (x.page (pgGeode p)).state = .ready := by rw [honly.2.1]; simp [PageHdr.enableAs, hst]
  have hiso := x.isolate_geode hp hstate (by rw [hx]; exact hfree)
  have hfin := (honly.onPage fun h => { h with isolate := true, state := .isolated }).snapWrite (pageType_pgGeode hp).1 false false
  rw [← hiso] at hfin
  refine ⟨(x.isolate (pgGeode p) true).snapWrite (pgGeode p) false false, ?_, ?_⟩
  · simpa [PageHdr.enableAs, h0] using hfin
  · unfold State.ctrlWrite
    simp only [h6, h5, h1, h2, h3, h4, hi, bne_self_eq_false, if_true, Bool.false_eq_true, if_false, PType.gated, PType.caps, Bool.not_true, Bool.false_and, reduceCtorEq]
    rw [hx]
    rfl

theorem Reaches.isolatesGeode (h : Reaches s (pgGeode p)) (hp : p < 34) (hst : (s.dev.page (pgGeode p)).state = .ready) (hi : (s.dev.page (pgGeode p)).isolate = false)
    (hfree : ∀ l, s.dev.geLogical p = some l → s.dev.geRun l = none) :
    PageBecomes s (s.ctrlSet (pgGeode p) 1 true) (pgGeode p) { s.dev.page (pgGeode p) with isolate := true, state := .isolated } := by
  obtain ⟨ht, -⟩ := pageType_pgGeode hp
  have hb := fun i (hi : i < 5) => bit_ctrlSet (s.dev.page (pgGeode p)) (lo := 1) (by omega) hi
  obtain ⟨h5, h6⟩ := fld_ctrlSet (s.dev.page (pgGeode p)) (lo := 1) (by omega)
  obtain ⟨e, he, hc⟩ := (s.setDev s.dev).ctrlWrite_isolates hp hst hi hfree h6 h5 (by simp [hb 0]) (by simp [hb 1]) (by simp [hb 2]) (by simp [hb 3]) (by simp [hb 4])
  have hw : s.ctrlSet (pgGeode p) 1 true = (s.setDev s.dev).ctrlWrite (pgGeode p) .geode (setFld (s.dev.page (pgGeode p)).ctrlWord 1 1 1) := by
    rw [State.ctrlSet, State.hostWrite, State.actAll_up _ h.up, h.write_header ht rfl (by omega) (by omega)]
    rfl
  have hfrz : e.obs.frz = s.dev.obs.frz := he.frz
  rw [hw]
  refine (congrArg (fun u => PageBecomes s u _ _) (hc.trans (State.setDev_setDev s hfrz))).mpr (pageBecomes_setDev he)

/-- Settles O22: a unit of a pair takes the mark of the pair; a move takes the logical engine of the unit that served it, at once or at the boundary of the job in hand. -/
theorem geodeEngines : Obligations.GeodeEngines := by
  unfold Obligations.GeodeEngines
  refine ⟨fun s c h => ⟨_, rfl, h.twins rfl⟩, fun s c h => ⟨_, rfl, h.twins rfl⟩, fun s c t h ht => h.swaps ht, fun s x a hup hfind hfree hs hne => ?_,
    fun s k hup hk ht => ?_, fun s hup => ⟨fun k b hk => ?_, fun l hn => ?_, fun l x hx hbusy => ?_, fun p hp => ?_⟩, fun s p hup hp hst => ?_,
    fun s p h hp hst hi hfree => ⟨_, rfl, h.isolatesGeode hp hst hi hfree⟩⟩
  · obtain ⟨htarget, hself, -, -, hswaps⟩ := s.dev.swapMove_spec hs hne
    refine ⟨_, exec_geodeSwapMove s _ hup, ?_⟩
    rw [State.setDev_dev, Dev.swapRow_some hfind, hfree, if_neg Bool.false_ne_true]
    exact ⟨htarget, hself, hswaps⟩
  · have hk' : ¬ (17 ≤ k ∨ (s.dev.geUnit (2 * k)).twinned = false) := by simp [ht]; omega
    refine ⟨?_, _, exec_geodeLinkError s k false hup, ?_, ?_, fun q h0 h1 => ?_⟩
    · rw [exec_geodeLinkError s k true hup, Dev.linkError, if_neg hk', if_pos rfl]
    · rw [State.setDev_dev, Dev.linkError_page hk ht, if_pos (Or.inl rfl)]
    · rw [State.setDev_dev, Dev.linkError_page hk ht, if_pos (Or.inr rfl)]
    · rw [State.setDev_dev, Dev.linkError_page hk ht, if_neg (by simp [h0, h1])]
  · rw [exec_geodeLinkError s k b hup, Dev.linkError, if_pos hk]
  · rw [exec_geodeSwapMove s l hup, Dev.swapRow_none hn]
  · rw [exec_geodeSwapMove s l hup, Dev.swapRow_some hx, if_pos hbusy]
  · rw [exec_engineFault s p hup, Dev.engineFault, if_pos hp]
  · refine ⟨_, exec_engineFault s p hup, pageBecomes_setDev ?_⟩
    rw [Dev.engineFault, if_neg (by simp [hst]; omega)]
    exact (Dev.OnlyPage.refl _ _).onPage _

end Sys2Proof.Machine
end

section
/-! The commands of encode and decode streams (R204, R211 to R221, R248, R262 to R273): O21. -/

namespace Sys2Proof.Machine
open Sys2Proof

variable {s : State} {d e x : Dev} {o : OpSpec} {c : HostCmd} {i k n : Nat} {v : Word}

theorem Dev.Posted.geode (h : d.Posted e) : e.geode = d.geode := by rw [h]

theorem Dev.encS_congr (h : e.geode = d.geode) (i : Nat) : e.encS i = d.encS i := by rw [Dev.encS, h, Dev.encS]
theorem Dev.decS_congr (h : e.geode = d.geode) (i : Nat) : e.decS i = d.decS i := by rw [Dev.decS, h, Dev.decS]

/-- What a command that ends with OK leaves of the engines and streams. -/
theorem Accepts.geode (h : Accepts o c s) (he : o.effect c s = (s.setDev x, .done .ok n v)) : (runCmd o c s).dev.geode = x.geode := by
  obtain ⟨e, hu, hdone⟩ := h.doneDev he
  rw [hu]
  exact hdone.geode

/-- The engine that a stream is bound to holds it. -/
theorem Dev.geChoose_fits {want : Nat} {kind : Bool → Bool} {cost : Rat} (h : d.geChoose want kind cost = some n) : d.geFits kind cost n = true := by
  unfold Dev.geChoose at h
  split at h
  · exact List.find?_some h
  · split at h
    · rename_i hfit
      cases h
      exact hfit
    · cases h

/-- A command that passes its checks of resources found what it asks for. -/
theorem Accepts.resource (h : Accepts o c s) {l : List Byte} (hl : o.capture c s.dev = some l) {b : Bool} (hx : noRes b ∈ o.dchecks c l s) : b = false := by
  obtain ⟨-, -, -, -, hv⟩ := h
  obtain ⟨l', hl', hgood⟩ := OpSpec.judged_bytes hv
  cases hl.symm.trans hl'
  cases hb : b
  · rfl
  · exact absurd (by simp [noRes, checkOrder]) (hgood _ hx (by simp [noRes, hb]))

/-! ### Encode streams -/

/-- The descriptor that ENC_STREAM_OPEN reads: a layout's stream takes the layout's rate (R215). -/
def Dev.encDesc (d : Dev) (l : List Byte) : EncDesc := encParse l (if leAt l 0 1 = 0 then some ((d.layout (leAt l 2 2)).rateNum, (d.layout (leAt l 2 2)).rateDen) else none)

/-- The stream that ENC_STREAM_OPEN makes. -/
def Dev.encFresh (d : Dev) (realm : Nat) (l : List Byte) : EncStream :=
  { state := .opened, realm := realm, desc := d.encDesc l, engine := (d.geChoose (d.encDesc l).engine (d.encDesc l).kindOk (d.encDesc l).cost).getD 0
    targets := (d.encDesc l).maxK.map (· * 1000), outSeq := d.freeWord.toNat % 65536, level := (d.encDesc l).levelWritten.getD 0 }

/-- What ENC_STREAM_OPEN makes of the device. -/
def Dev.encOpened (d : Dev) (i realm : Nat) (l : List Byte) : Dev :=
  let e := d.encDesc l
  let x := (if e.source = 0 then d.freshLayers e else d).setEncS i { d.encFresh realm l with
    outSeq := (if e.source = 0 then d.freshLayers e else d).freeWord.toNat % 65536 }
  let y := ((x.tickFree.hold holdEnc i realm e.refBase e.refSize).hold holdEnc i realm e.statusBase 8192).hold holdEnc i realm e.consumer 8
  if e.toPacket then y else y.hold holdEnc i realm e.bsBase e.ringBytes

theorem Dev.geode_encOpened (d : Dev) (i realm : Nat) (l : List Byte) : (d.encOpened i realm l).geode = (d.setEncS i (d.encFresh realm l)).geode := by
  unfold Dev.encOpened
  dsimp only
  split <;> split <;> rfl

theorem Accepts.opensEnc (h : Accepts encStreamOpenSpec c s) :
    ∃ b, capturePinned s.dev c.realm (c.arg 8 8) 128 = some b ∧ (runCmd encStreamOpenSpec c s).dev.geode = (s.dev.setEncS (c.arg 0 2) (s.dev.encFresh c.realm b)).geode ∧
      s.dev.geFits (s.dev.encDesc b).kindOk (s.dev.encDesc b).cost (s.dev.encFresh c.realm b).engine = true := by
  obtain ⟨b, hb, -⟩ := h.verdict
  have heff : ∃ n v, encStreamOpenSpec.effect c s = (s.setDev (s.dev.encOpened (c.arg 0 2) c.realm b), .done .ok n v) := ⟨_, _, h.captured hb⟩
  obtain ⟨n, v, heff⟩ := heff
  refine ⟨b, hb, (h.geode heff).trans (Dev.geode_encOpened _ _ _ _), ?_⟩
  · have hfound := h.resource hb (b := (s.dev.geChoose (s.dev.encDesc b).engine (s.dev.encDesc b).kindOk (s.dev.encDesc b).cost).isNone) (by
      refine List.mem_append_right _ ?_
      exact .tail _ (.tail _ (.head _)))
    obtain ⟨n, hn⟩ : ∃ n, s.dev.geChoose (s.dev.encDesc b).engine (s.dev.encDesc b).kindOk (s.dev.encDesc b).cost = some n := by
      cases hc : s.dev.geChoose (s.dev.encDesc b).engine (s.dev.encDesc b).kindOk (s.dev.encDesc b).cost with
      | none => rw [hc] at hfound; cases hfound
      | some n => exact ⟨n, rfl⟩
    simp only [Dev.encFresh, hn, Option.getD_some]
    exact Dev.geChoose_fits hn

theorem Dev.encS_encIdle (hst : (d.encS i).state = .closing) (hj : (d.encS i).jobs = []) (k : Nat) : (d.encIdle i).encS k = if k = i then {} else d.encS k := by
  have hfresh : ∀ b : Prop, ∀ (_ : Decidable b), (if b then d.freshLayers (d.encS i).desc else d).geode = d.geode := fun b _ => by
    split <;> rfl
  unfold Dev.encIdle
  extract_lets y
  rw [if_pos ⟨hst, by rw [hj]; rfl⟩, Dev.encS_congr (Dev.finish_posted _ _ _ _ _ _).geode]
  refine (Dev.encS_setEncS _ _ _ _).trans ?_
  rw [Dev.encS_congr (hfresh _ _)]

theorem Dev.encIdle_busy (h : (d.encS i).jobs ≠ []) : d.encIdle i = d := by
  unfold Dev.encIdle
  extract_lets y
  exact if_neg fun hc => h (List.isEmpty_iff.1 hc.2)

/-- A stream that closes keeps the jobs in hand (R212). -/
def EncStream.closed (x : EncStream) : EncStream :=
  { x with state := .closing, jobs := x.jobs.filter (fun j => j.started && j.fault.isNone), discarded := (x.jobs.filter (fun j => !j.started && j.fault.isNone)).length }

theorem Dev.encClose_of_open (hf : ∀ j, (d.encS i).jobs.head? = some j → j.fault = none) : d.encClose i = (d.setEncS i (d.encS i).closed).encIdle i := by
  unfold Dev.encClose
  extract_lets x lost y z
  have hy : y = d := by
    unfold y
    split
    · rename_i j hj
      rw [hf j hj]
    · rfl
  change (y.setEncS i { y.encS i with state := .closing, jobs := x.jobs.filter (fun j => j.started && j.fault.isNone), discarded := lost.length }).encIdle i = _
  rw [hy]
  rfl

theorem Accepts.closesEnc (h : Accepts encStreamCloseSpec c s) (hj : (s.dev.encS (c.arg 0 2)).jobs = []) (k : Nat) :
    (runCmd encStreamCloseSpec c s).dev.encS k = if k = c.arg 0 2 then {} else s.dev.encS k := by
  have henc : ∀ k, (s.dev.encClose (c.arg 0 2)).encS k = if k = c.arg 0 2 then {} else s.dev.encS k := fun k => by
    rw [Dev.encClose_of_open (by simp [hj]), Dev.encS_encIdle (by simp [EncStream.closed]) (by simp [EncStream.closed, hj])]
    split
    · rfl
    · rename_i hk
      rw [Dev.encS_setEncS, if_neg hk]
  have hidle : ((s.dev.encClose (c.arg 0 2)).encS (c.arg 0 2)).state = .idle := by
    rw [henc, if_pos rfl]
  have heff : encStreamCloseSpec.effect c s = (s.setDev (s.dev.encClose (c.arg 0 2)),
      .done .ok ((s.dev.encS (c.arg 0 2)).jobs.filter (fun j => !j.started && j.fault.isNone)).length (s.dev.encClose (c.arg 0 2)).short) := by
    simp only [OpSpec.effect, encStreamCloseSpec, devRun, hidle, if_true]
    rfl
  rw [Dev.encS_congr (h.geode heff), henc]

/-- With a job in hand the stream waits for it. -/
theorem Accepts.drainsEnc (h : Accepts encStreamCloseSpec c s) {j : EncJob} (hj : (s.dev.encS (c.arg 0 2)).jobs.head? = some j) (hs : j.started = true) (hf : j.fault = none) :
    (runCmd encStreamCloseSpec c s).dev.waiting 0x0301 (c.arg 0 2) = true ∧
      ∀ k, (runCmd encStreamCloseSpec c s).dev.encS k = if k = c.arg 0 2 then (s.dev.encS (c.arg 0 2)).closed else s.dev.encS k := by
  have hclose : s.dev.encClose (c.arg 0 2) = s.dev.setEncS (c.arg 0 2) (s.dev.encS (c.arg 0 2)).closed := by
    have hmem : j ∈ (s.dev.encS (c.arg 0 2)).closed.jobs := List.mem_filter.2 ⟨List.mem_of_head? hj, by simp [hs, hf]⟩
    rw [Dev.encClose_of_open (by simp [hj, hf])]
    refine Dev.encIdle_busy ?_
    rw [Dev.encS_setEncS, if_pos rfl]
    exact List.ne_nil_of_mem hmem
  have hbusy : ((s.dev.encClose (c.arg 0 2)).encS (c.arg 0 2)).state ≠ .idle := by
    rw [hclose, Dev.encS_setEncS, if_pos rfl]
    exact nofun
  have heff : encStreamCloseSpec.effect c s = (s.setDev (s.dev.encClose (c.arg 0 2)), .later (c.arg 0 2) 0) := by
    simp only [OpSpec.effect, encStreamCloseSpec, devRun, if_neg hbusy]
  obtain ⟨e, hrun, ⟨w, hw⟩, hwait⟩ := h.laterDev heff
  refine ⟨by rw [hrun]; exact hwait, fun k => ?_⟩
  have hgeode : e.geode = (s.dev.encClose (c.arg 0 2)).geode := by rw [hw]
  rw [hrun, State.setDev_dev, Dev.encS_congr hgeode, hclose, Dev.encS_setEncS]

/-- A command that writes one encode stream. -/
theorem Accepts.oneEnc {y : EncStream} (h : Accepts o c s) (he : o.effect c s = (s.setDev (s.dev.setEncS i y), .done .ok n v)) (k : Nat) :
    (runCmd o c s).dev.encS k = if k = i then y else s.dev.encS k := by
  rw [Dev.encS_congr (h.geode he), Dev.encS_setEncS]

/-! ### Jobs submitted -/

theorem Dev.geode_jobItem (d : Dev) (ev : Nat) (w : Option Word) : (d.jobItem ev w).geode = d.geode := by
  unfold Dev.jobItem
  split
  · rfl
  · exact (Dev.trace_noted _ _ _ _ _ _ _).geode

theorem Dev.encS_encPush (d : Dev) (i : Nat) (j : EncJob) (k : Nat) :
    (d.encPush i j).encS k = if k = i then { d.encS i with jobs := (d.encS i).jobs ++ [{ j with arrival := d.geode.arrivals + 1 }], count := (d.encS i).count + 1 } else d.encS k := by
  unfold Dev.encPush
  rw [Dev.encS_congr (Dev.geode_jobItem _ _ _)]
  exact Dev.encS_setEncS _ _ _ _

/-- Jobs pushed one by one stand behind those before them, and change no other stream. -/
theorem Dev.encPushes (g : Dev → Nat → EncJob) (ks : List Nat) (d : Dev) (i : Nat) :
    (∃ js, ((ks.foldl (fun d k => d.encPush i (g d k)) d).encS i).jobs = (d.encS i).jobs ++ js ∧ js.length = ks.length) ∧
      ∀ k, k ≠ i → (ks.foldl (fun d k => d.encPush i (g d k)) d).encS k = d.encS k := by
  induction ks generalizing d with
  | nil => exact ⟨⟨[], by simp, rfl⟩, fun _ _ => rfl⟩
  | cons a ks ih =>
    obtain ⟨⟨js, hjs, hlen⟩, hothers⟩ := ih (d.encPush i (g d a))
    refine ⟨⟨{ g d a with arrival := d.geode.arrivals + 1 } :: js, ?_, by simp [hlen]⟩, fun k hk => ?_⟩
    · rw [List.foldl_cons, hjs, Dev.encS_encPush, if_pos rfl]
      exact List.append_assoc _ _ _
    · rw [List.foldl_cons, hothers k hk, Dev.encS_encPush, if_neg hk]

theorem Accepts.submitsEnc (h : Accepts encSubmitSpec c s) :
    ((runCmd encSubmitSpec c s).dev.encS (c.arg 0 2)).jobs.length = (s.dev.encS (c.arg 0 2)).jobs.length + c.arg 2 1 ∧
      ((runCmd encSubmitSpec c s).dev.encS (c.arg 0 2)).jobs.take (s.dev.encS (c.arg 0 2)).jobs.length = (s.dev.encS (c.arg 0 2)).jobs ∧
      ∀ k, k ≠ c.arg 0 2 → (runCmd encSubmitSpec c s).dev.encS k = s.dev.encS k := by
  have heff : ∃ (g : Dev → Nat → EncJob) (n : Nat) (v : Word), encSubmitSpec.effect c s = (s.setDev ((List.range (c.arg 2 1)).foldl (fun d k => d.encPush (c.arg 0 2) (g d k)) s.dev), .done .ok n v) :=
    ⟨_, _, _, rfl⟩
  obtain ⟨g, n, v, heff⟩ := heff
  obtain ⟨⟨js, hjs, hlen⟩, hothers⟩ := Dev.encPushes g (List.range (c.arg 2 1)) s.dev (c.arg 0 2)
  have henc := Dev.encS_congr (h.geode heff)
  rw [List.length_range] at hlen
  refine ⟨?_, ?_, fun k hk => (henc k).trans (hothers k hk)⟩
  · rw [henc, hjs, List.length_append, hlen]
  · rw [henc, hjs, List.take_left]

/-- ENC_REFRESH of a stream that runs. -/
theorem Accepts.refreshesEnc (h : Accepts encRefreshSpec c s) (k : Nat) :
    (runCmd encRefreshSpec c s).dev.encS k = if k = c.arg 0 2 then { s.dev.encS (c.arg 0 2) with trigger := true } else s.dev.encS k := by
  have hrun : (s.dev.encS (c.arg 0 2)).state ≠ .idle := by
    have hchk : (!([EncState.running].contains (s.dev.encS (c.arg 0 2)).state)) = false := h.conflicts (List.mem_cons_of_mem _ (List.mem_cons_of_mem _ (List.mem_singleton.2 rfl)))
    intro hidle
    rw [hidle] at hchk
    cases hchk
  have heff : encRefreshSpec.effect c s = (s.setDev (s.dev.encTrigger (c.arg 0 2) false), .done .ok ((s.dev.encS (c.arg 0 2)).nextCycle % 65536) (s.dev.encTrigger (c.arg 0 2) false).short) := rfl
  rw [Dev.encTrigger, if_neg hrun] at heff
  rw [Dev.encS_congr (h.geode heff), Dev.onEncS, Dev.encS_setEncS, Bool.or_false]

theorem encCommands : EncCommands := by
  intro s c
  refine ⟨fun h => ?_, fun h hj => ?_, fun j h hj hs hf => ?_, fun h => ?_, fun h => ?_, fun h => ?_, fun h => ⟨_, rfl, h.submitsEnc⟩⟩
  · obtain ⟨b, hb, hgeode, hfits⟩ := h.opensEnc
    have henc : ∀ k, (runCmd encStreamOpenSpec c s).dev.encS k = if k = c.arg 0 2 then s.dev.encFresh c.realm b else s.dev.encS k := fun k => by
      rw [Dev.encS_congr hgeode, Dev.encS_setEncS]
    refine ⟨_, b, (s.dev.encFresh c.realm b).engine, rfl, hb, ?_⟩
    rw [henc, if_pos rfl]
    exact ⟨rfl, rfl, rfl, rfl, rfl, hfits, fun k hk => by rw [henc, if_neg hk]⟩
  · exact ⟨_, rfl, (h.closesEnc hj _).trans (if_pos rfl), fun k hk => (h.closesEnc hj k).trans (if_neg hk)⟩
  · obtain ⟨hwait, henc⟩ := h.drainsEnc hj hs hf
    exact ⟨_, rfl, congrArg EncStream.state ((henc _).trans (if_pos rfl)), hwait, fun k hk => (henc k).trans (if_neg hk)⟩
  · obtain ⟨b, hb, -⟩ := h.verdict
    have henc := h.oneEnc (i := c.arg 0 2) (h.captured hb)
    exact ⟨_, b, rfl, hb, (henc _).trans (if_pos rfl), fun k hk => (henc k).trans (if_neg hk)⟩
  · exact ⟨_, rfl, (h.refreshesEnc _).trans (if_pos rfl), fun k hk => (h.refreshesEnc k).trans (if_neg hk)⟩
  · obtain ⟨u, hu, hkept, hout, -⟩ := h.query (n := (s.dev.encS (c.arg 0 2)).state.code) rfl
    have hcode : (s.dev.encS (c.arg 0 2)).state.code < 65536 := by
      cases (s.dev.encS (c.arg 0 2)).state <;> decide
    rw [Nat.mod_eq_of_lt hcode] at hout
    exact ⟨u, congrArg Host.Outcome.next hu, hkept, hout⟩

/-! ### Decode streams -/

/-- The stream that DEC_STREAM_OPEN makes. -/
def Dev.decFresh (d : Dev) (realm : Nat) (l : List Byte) : DecStream :=
  { state := .opened, realm := realm, desc := decParse l, engine := (d.geChoose (decParse l).engine (decParse l).kindOk ((decParse l).cost / 2)).getD 0 }

theorem Accepts.opensDec (h : Accepts decStreamOpenSpec c s) :
    ∃ b, capturePinned s.dev c.realm (c.arg 8 8) 128 = some b ∧ (runCmd decStreamOpenSpec c s).dev.geode = (s.dev.setDecS (c.arg 0 2) (s.dev.decFresh c.realm b)).geode ∧
      s.dev.geFits (decParse b).kindOk ((decParse b).cost / 2) (s.dev.decFresh c.realm b).engine = true := by
  obtain ⟨b, hb, -⟩ := h.verdict
  refine ⟨b, hb, (h.geode (h.captured hb)).trans rfl, ?_⟩
  have hfound := h.resource hb (b := (s.dev.geChoose (decParse b).engine (decParse b).kindOk ((decParse b).cost / 2)).isNone)
    (List.mem_append_right _ (List.mem_singleton.2 rfl))
  obtain ⟨n, hn⟩ := Option.isSome_iff_exists.1 (Option.not_isNone _ ▸ congrArg not hfound)
  simp only [Dev.decFresh, hn, Option.getD_some]
  exact Dev.geChoose_fits hn

theorem Dev.decS_decIdle (hst : (d.decS i).state = .closing) (hj : (d.decS i).jobs = []) (k : Nat) : (d.decIdle i).decS k = if k = i then {} else d.decS k := by
  unfold Dev.decIdle
  extract_lets y
  rw [if_pos ⟨hst, by rw [hj]; rfl⟩, Dev.decS_congr (Dev.finish_posted _ _ _ _ _ _).geode]
  exact Dev.decS_setDecS _ _ _ _

theorem Dev.decIdle_busy (h : (d.decS i).jobs ≠ []) : d.decIdle i = d := by
  unfold Dev.decIdle
  extract_lets y
  exact if_neg fun hc => h (List.isEmpty_iff.1 hc.2)

/-- A stream that closes keeps the jobs in hand (R263). -/
def DecStream.closed (x : DecStream) : DecStream :=
  { x with state := .closing, jobs := x.jobs.filter (fun j => j.started && j.fault.isNone), discarded := (x.jobs.filter (fun j => !j.started && j.fault.isNone)).length }

theorem Dev.decClose_of_open (hf : ∀ j, (d.decS i).jobs.head? = some j → j.fault = none) : d.decClose i = (d.setDecS i (d.decS i).closed).decIdle i := by
  unfold Dev.decClose
  extract_lets x lost y z
  have hy : y = d := by
    unfold y
    split
    · rename_i j hj
      rw [hf j hj]
    · rfl
  change (y.setDecS i { y.decS i with state := .closing, jobs := x.jobs.filter (fun j => j.started && j.fault.isNone), discarded := lost.length }).decIdle i = _
  rw [hy]
  rfl

theorem Accepts.closesDec (h : Accepts decStreamCloseSpec c s) (hj : (s.dev.decS (c.arg 0 2)).jobs = []) (k : Nat) :
    (runCmd decStreamCloseSpec c s).dev.decS k = if k = c.arg 0 2 then {} else s.dev.decS k := by
  have hdec : ∀ k, (s.dev.decClose (c.arg 0 2)).decS k = if k = c.arg 0 2 then {} else s.dev.decS k := fun k => by
    rw [Dev.decClose_of_open (by simp [hj]), Dev.decS_decIdle (by simp [DecStream.closed]) (by simp [DecStream.closed, hj])]
    split
    · rfl
    · rename_i hk
      rw [Dev.decS_setDecS, if_neg hk]
  have hidle : ((s.dev.decClose (c.arg 0 2)).decS (c.arg 0 2)).state = .idle := by
    rw [hdec, if_pos rfl]
  have heff : decStreamCloseSpec.effect c s = (s.setDev (s.dev.decClose (c.arg 0 2)),
      .done .ok ((s.dev.decS (c.arg 0 2)).jobs.filter (fun j => !j.started && j.fault.isNone)).length (s.dev.decClose (c.arg 0 2)).short) := by
    simp only [OpSpec.effect, decStreamCloseSpec, devRun, hidle, if_true]
    rfl
  rw [Dev.decS_congr (h.geode heff), hdec]

/-- With a job in hand the stream waits for it. -/
theorem Accepts.drainsDec (h : Accepts decStreamCloseSpec c s) {j : DecJob} (hj : (s.dev.decS (c.arg 0 2)).jobs.head? = some j) (hs : j.started = true) (hf : j.fault = none) :
    (runCmd decStreamCloseSpec c s).dev.waiting 0x0401 (c.arg 0 2) = true ∧ (runCmd decStreamCloseSpec c s).dev.decS (c.arg 0 2) = (s.dev.decS (c.arg 0 2)).closed := by
  have hclose : s.dev.decClose (c.arg 0 2) = s.dev.setDecS (c.arg 0 2) (s.dev.decS (c.arg 0 2)).closed := by
    have hmem : j ∈ (s.dev.decS (c.arg 0 2)).closed.jobs := List.mem_filter.2 ⟨List.mem_of_head? hj, by simp [hs, hf]⟩
    rw [Dev.decClose_of_open (by simp [hj, hf])]
    refine Dev.decIdle_busy ?_
    rw [Dev.decS_setDecS, if_pos rfl]
    exact List.ne_nil_of_mem hmem
  have hbusy : ((s.dev.decClose (c.arg 0 2)).decS (c.arg 0 2)).state ≠ .idle := by
    rw [hclose, Dev.decS_setDecS, if_pos rfl]
    exact nofun
  have heff : decStreamCloseSpec.effect c s = (s.setDev (s.dev.decClose (c.arg 0 2)), .later (c.arg 0 2) 0) := by
    simp only [OpSpec.effect, decStreamCloseSpec, devRun, if_neg hbusy]
  obtain ⟨e, hrun, ⟨w, hw⟩, hwait⟩ := h.laterDev heff
  have hgeode : e.geode = (s.dev.decClose (c.arg 0 2)).geode := by rw [hw]
  rw [hrun]
  refine ⟨hwait, ?_⟩
  rw [State.setDev_dev, Dev.decS_congr hgeode, hclose, Dev.decS_setDecS, if_pos rfl]

/-- A stream that takes a job runs. -/
def DecState.fed (x : DecState) : DecState := if x = .opened then .running else x

theorem Dev.decS_decPush (d : Dev) (i : Nat) (j : DecJob) (k : Nat) :
    (d.decPush i j).decS k = if k = i then { d.decS i with state := (d.decS i).state.fed, jobs := (d.decS i).jobs ++ [{ j with arrival := d.geode.arrivals + 1 }] } else d.decS k := by
  unfold Dev.decPush
  rw [Dev.decS_congr (Dev.geode_jobItem _ _ _)]
  exact Dev.decS_setDecS _ _ _ _

/-- Jobs pushed one by one stand behind those before them, the stream runs, and no other stream changes. -/
theorem Dev.decPushes (g : Dev → Nat → DecJob) (ks : List Nat) (d : Dev) (i : Nat) :
    (∃ js, ((ks.foldl (fun d k => d.decPush i (g d k)) d).decS i).jobs = (d.decS i).jobs ++ js ∧ js.length = ks.length) ∧
      ((ks.foldl (fun d k => d.decPush i (g d k)) d).decS i).state = (if ks = [] then (d.decS i).state else (d.decS i).state.fed) ∧
      ∀ k, k ≠ i → (ks.foldl (fun d k => d.decPush i (g d k)) d).decS k = d.decS k := by
  induction ks generalizing d with
  | nil => exact ⟨⟨[], by simp, rfl⟩, rfl, fun _ _ => rfl⟩
  | cons a ks ih =>
    obtain ⟨⟨js, hjs, hlen⟩, hst, hothers⟩ := ih (d.decPush i (g d a))
    refine ⟨⟨{ g d a with arrival := d.geode.arrivals + 1 } :: js, ?_, by simp [hlen]⟩, ?_, fun k hk => ?_⟩
    · rw [List.foldl_cons, hjs, Dev.decS_decPush, if_pos rfl]
      exact List.append_assoc _ _ _
    · have hfed : (d.decS i).state.fed.fed = (d.decS i).state.fed := by
        cases (d.decS i).state <;> rfl
      rw [List.foldl_cons, hst, Dev.decS_decPush, if_pos rfl, if_neg (List.cons_ne_nil a ks)]
      exact (congrArg _ hfed).trans (ite_self _)
    · rw [List.foldl_cons, hothers k hk, Dev.decS_decPush, if_neg hk]

theorem Accepts.submitsDec (h : Accepts decSubmitSpec c s) :
    ((runCmd decSubmitSpec c s).dev.decS (c.arg 0 2)).state = .running ∧
      ((runCmd decSubmitSpec c s).dev.decS (c.arg 0 2)).jobs.length = (s.dev.decS (c.arg 0 2)).jobs.length + c.arg 2 1 ∧
      ((runCmd decSubmitSpec c s).dev.decS (c.arg 0 2)).jobs.take (s.dev.decS (c.arg 0 2)).jobs.length = (s.dev.decS (c.arg 0 2)).jobs ∧
      ∀ k, k ≠ c.arg 0 2 → (runCmd decSubmitSpec c s).dev.decS k = s.dev.decS k := by
  have heff : ∃ (g : Dev → Nat → DecJob) (n : Nat) (v : Word),
      decSubmitSpec.effect c s = (s.setDev ((List.range (c.arg 2 1)).foldl (fun d k => d.decPush (c.arg 0 2) (g d k)) s.dev), .done .ok n v) := ⟨_, _, _, rfl⟩
  obtain ⟨g, n, v, heff⟩ := heff
  obtain ⟨⟨js, hjs, hlen⟩, hst, hothers⟩ := Dev.decPushes g (List.range (c.arg 2 1)) s.dev (c.arg 0 2)
  have hdec := Dev.decS_congr (h.geode heff)
  have hsome : List.range (c.arg 2 1) ≠ [] := by
    have hcount : decide (c.arg 2 1 < 1 ∨ 64 < c.arg 2 1) = false := h.badArg (k := 2) (List.mem_cons_of_mem _ (List.mem_cons_self ..))
    have hpos : 0 < c.arg 2 1 := by simp only [decide_eq_false_iff_not] at hcount; omega
    simp; omega
  have hfed : (s.dev.decS (c.arg 0 2)).state.fed = .running := by
    have hchk : (!([DecState.opened, .running].contains (s.dev.decS (c.arg 0 2)).state)) = false :=
      h.conflicts (List.mem_cons_of_mem _ (List.mem_cons_of_mem _ (List.mem_cons_of_mem _ (List.mem_cons_self ..))))
    revert hchk
    cases (s.dev.decS (c.arg 0 2)).state <;> decide
  rw [List.length_range] at hlen
  refine ⟨?_, ?_, ?_, fun k hk => (hdec k).trans (hothers k hk)⟩
  · rw [hdec, hst, if_neg hsome, hfed]
  · rw [hdec, hjs, List.length_append, hlen]
  · rw [hdec, hjs, List.take_left]

theorem decCommands : DecCommands := by
  intro s c
  refine ⟨fun h => ?_, fun h hj => ?_, fun j h hj hs hf => ?_, fun h => ?_, fun h => ⟨_, rfl, h.submitsDec⟩⟩
  · obtain ⟨b, hb, hgeode, hfits⟩ := h.opensDec
    have hdec : ∀ k, (runCmd decStreamOpenSpec c s).dev.decS k = if k = c.arg 0 2 then s.dev.decFresh c.realm b else s.dev.decS k := fun k => by
      rw [Dev.decS_congr hgeode, Dev.decS_setDecS]
    refine ⟨_, b, rfl, hb, ?_⟩
    rw [hdec, if_pos rfl]
    exact ⟨rfl, rfl, rfl, rfl, hfits, fun k hk => by rw [hdec, if_neg hk]⟩
  · exact ⟨_, rfl, (h.closesDec hj _).trans (if_pos rfl), fun k hk => (h.closesDec hj k).trans (if_neg hk)⟩
  · obtain ⟨hwait, hdec⟩ := h.drainsDec hj hs hf
    exact ⟨_, rfl, congrArg DecStream.state hdec, hwait⟩
  · obtain ⟨u, hu, hkept, hout, -⟩ := h.query (n := (s.dev.decS (c.arg 0 2)).state.code) rfl
    have hcode : (s.dev.decS (c.arg 0 2)).state.code < 65536 := by
      cases (s.dev.decS (c.arg 0 2)).state <;> decide
    rw [Nat.mod_eq_of_lt hcode] at hout
    exact ⟨u, congrArg Host.Outcome.next hu, hkept, hout⟩

/-- Settles O21: a stream opens with its descriptor on an engine that holds it, jobs stand in the order of their submission, and a stream closes once no job is in hand. -/
theorem geodeStreamCommands : Obligations.GeodeStreamCommands := ⟨encCommands, decCommands⟩

end Sys2Proof.Machine
end

section
/-! Garnet's arithmetic, addressing and flow (R476 to R487): O32. -/

namespace Sys2Proof.Machine
open Sys2Proof

variable {c : Core} {n : Nat}

/-! ### Arithmetic (R476 to R479) -/

theorem clampI_bounds {lo hi x : Int} (h : lo ≤ hi) : lo ≤ clampI lo hi x ∧ clampI lo hi x ≤ hi ∧ (lo ≤ x → x ≤ hi → clampI lo hi x = x) := by
  unfold clampI
  omega

theorem accClamp_bounds (x : Int) : -(2 ^ 143 : Int) ≤ accClamp x ∧ accClamp x ≤ 2 ^ 143 - 1 ∧ (-(2 ^ 143 : Int) ≤ x → x ≤ 2 ^ 143 - 1 → accClamp x = x) := by
  have h := clampI_bounds (lo := -(2 ^ 143 : Nat)) (hi := (2 ^ 143 : Nat) - 1) (x := x) (by decide)
  exact_mod_cast h

theorem accStore_bounds (a x : Int) (r : Bool) : -(2 ^ 63 : Int) ≤ (accStore a x r).1 ∧ (accStore a x r).1 ≤ 2 ^ 63 - 1 := by
  obtain ⟨hlo, hhi, -⟩ := clampI_bounds (lo := -9223372036854775808) (hi := 9223372036854775807)
    (x := (a + (if r then (2 ^ (59 - clampI (-8) 8 x).toNat : Nat) else 0)) / (2 ^ (60 - clampI (-8) 8 x).toNat : Nat)) (by decide)
  exact ⟨hlo, hhi⟩

/-- A store that does not saturate gives the 64 bits above bit 60, rounded down. -/
theorem accStore_exact (a : Int) (h : (accStore a 0 false).2 = false) : (accStore a 0 false).1 = a / 2 ^ 60 := by
  have hv : (a + ((if false = true then 2 ^ (59 - clampI (-8) 8 0).toNat else 0 : Nat) : Int)) / ((2 ^ (60 - clampI (-8) 8 0).toNat : Nat) : Int) = a / 2 ^ 60 := by
    simp [clampI]
  unfold accStore at h ⊢
  dsimp only at h ⊢
  rw [hv] at h ⊢
  have hin : ¬ (a / 2 ^ 60 < -9223372036854775808 ∨ 9223372036854775807 < a / 2 ^ 60) := of_decide_eq_false h
  exact (clampI_bounds (by decide)).2.2 (by omega) (by omega)

theorem accLands_exact (i : Nat) {x : Int} (hlo : -(2 ^ 143 : Int) ≤ x) (hhi : x ≤ 2 ^ 143 - 1) : accLands i x = [⟨0, .acc i, x, false⟩, ⟨3, .out i, x, false⟩] := by
  have hx := (accClamp_bounds x).2.2 hlo hhi
  simp [accLands, hx]

theorem sLand_exact (z : Nat) {x : Int} (hlo : -(2 ^ 63 : Int) ≤ x) (hhi : x ≤ 2 ^ 63 - 1) : sLand z x = [⟨0, .d z, x, false⟩] := by
  have hin : ¬ (x < -9223372036854775808 ∨ 9223372036854775807 < x) := by omega
  have hx : clampI (-9223372036854775808) 9223372036854775807 x = x := (clampI_bounds (by decide)).2.2 (by omega) (by omega)
  simp [sLand, sat64, dLand, hx]
  omega

theorem sLand_above (z : Nat) {x : Int} (h : 2 ^ 63 - 1 < x) : sLand z x = [⟨0, .d z, 2 ^ 63 - 1, false⟩, ⟨0, .sat, 1, false⟩] := by
  have hx : clampI (-9223372036854775808) 9223372036854775807 x = 9223372036854775807 := by unfold clampI; omega
  simp [sLand, sat64, dLand, hx]
  omega

/-- CMP's flags: Z, N, C and V of the difference. -/
theorem cmpFlags_bits (x y : Word) : (cmpFlags x y % 2 = 1 ↔ x = y) ∧ (cmpFlags x y / 2 % 2 = 1 ↔ (x - y).getLsbD 63 = true) ∧
    (cmpFlags x y / 4 % 2 = 1 ↔ x.toNat < y.toNat) ∧ (cmpFlags x y / 8 % 2 = 1 ↔ x.toInt - y.toInt ≠ (x - y).toInt) := by
  unfold cmpFlags
  dsimp only
  have hsplit : ∀ p q r t : Bool, let v := (if p then 1 else 0) + (if q then 2 else 0) + (if r then 4 else 0) + (if t then 8 else 0)
      (v % 2 = 1 ↔ p = true) ∧ (v / 2 % 2 = 1 ↔ q = true) ∧ (v / 4 % 2 = 1 ↔ r = true) ∧ (v / 8 % 2 = 1 ↔ t = true) := by decide
  simpa using hsplit (decide (x = y)) ((x - y).getLsbD 63) (decide (x.toNat < y.toNat)) (decide (x.toInt - y.toInt ≠ (x - y).toInt))

/-- The sign of a difference that is exact, or the other one where it wraps, orders the operands. -/
theorem cmpFlags_signed (x y : Word) : (cmpFlags x y / 2 % 2 ≠ cmpFlags x y / 8 % 2) ↔ x.toInt < y.toInt := by
  obtain ⟨-, hn, -, hv⟩ := cmpFlags_bits x y
  have hmsb : (x - y).getLsbD 63 = true ↔ (x - y).toInt < 0 := by
    rw [← BitVec.msb_eq_getLsbD_last, BitVec.msb_eq_toInt]
    simp
  have hwrap : (x - y).toInt = (x.toInt - y.toInt).bmod (2 ^ 64) := BitVec.toInt_sub ..
  have hx := BitVec.toInt_lt (x := x)
  have hx' := BitVec.le_toInt x
  have hy := BitVec.toInt_lt (x := y)
  have hy' := BitVec.le_toInt y
  rw [hmsb] at hn
  generalize cmpFlags x y = f at *
  generalize (x - y).toInt = r at *
  generalize x.toInt = a at *
  generalize y.toInt = b at *
  norm_num [Int.bmod_def] at *
  omega

/-- What the obligation says of the M slot: MAC and ACLR. -/
theorem mSlot_mac (c : Core) {m a x y : Nat} (ha : nb m 13 2 = a) (hx : nb m 9 4 = x) (hy : nb m 5 4 = y) (hop : nb m 15 5 = 2) :
    mSlot c m = accLands a (nthD 0 c.acc a + (c.d x).toInt * (c.d y).toInt) := by
  simp only [mSlot, ha, hx, hy, hop]

theorem mSlot_aclr (c : Core) {m a : Nat} (ha : nb m 13 2 = a) (hop : nb m 15 5 = 8) : mSlot c m = accLands a 0 := by
  simp only [mSlot, ha, hop]

theorem aSlot_adds (c : Core) {a : Nat} (hop : nb a 16 6 = 0x03) : (aSlot c a).lands = sLand (nb a 12 4) ((c.d (nb a 8 4)).toInt + (c.d (nb a 4 4)).toInt) := by
  simp only [aSlot, hop]

theorem garnetArithmetic : GarnetArithmetic := by
  refine ⟨accClamp_bounds, fun a x r => ⟨(accStore_bounds a x r).1, (accStore_bounds a x r).2, fun h => ?_⟩, fun c m a x y ha hx hy => ⟨fun hop hlo hhi => ?_, fun hop => ?_⟩,
    fun c a hop => ⟨fun hlo hhi => ?_, fun h => ?_⟩, fun x y => ?_⟩
  · rw [accStore_exact a h]
    omega
  · rw [mSlot_mac c ha hx hy hop, accLands_exact a hlo hhi]
  · rw [mSlot_aclr c ha hop, accLands_exact a (by omega) (by omega)]
  · rw [aSlot_adds c hop, sLand_exact _ hlo hhi]
  · rw [aSlot_adds c hop, sLand_above _ h]
  · obtain ⟨hz, -, hc, -⟩ := cmpFlags_bits x y
    exact ⟨hz, hc, cmpFlags_signed x y⟩

/-! ### Addressing (R480 to R483) -/

/-- An entry of a list of naturals, read as an integer. -/
theorem nthD_int (l : List Nat) (n : Nat) : nthD (0 : Int) (do let a ← l; pure (a : Int)) n = ((nthD 0 l n : Nat) : Int) := by
  have hl : (do let a ← l; pure (a : Int)) = List.map (fun a : Nat => (a : Int)) l := by
    induction l with
    | nil => rfl
    | cons a t ih => exact congrArg (List.cons (a : Int)) ih
  rw [hl, nthD, nthD, List.getElem?_map]
  cases l[n]? <;> rfl

theorem Core.bump_eq (c : Core) (n : Nat) (m : Int) (h : 0 < nthD 0 c.lr n) :
    c.bump n m = ((nthD 0 c.br n : Nat) : Int) + (((nthD 0 c.pr n : Nat) : Int) + m - ((nthD 0 c.br n : Nat) : Int)) % ((nthD 0 c.lr n : Nat) : Int) :=
  if_neg (Nat.ne_of_gt h)

theorem Core.bump_circular (c : Core) (n : Nat) (m : Int) (h : 0 < nthD 0 c.lr n) :
    ((nthD 0 c.br n : Nat) : Int) ≤ c.bump n m ∧ c.bump n m < ((nthD 0 c.br n : Nat) : Int) + ((nthD 0 c.lr n : Nat) : Int) ∧
      (c.bump n m - (((nthD 0 c.pr n : Nat) : Int) + m)) % ((nthD 0 c.lr n : Nat) : Int) = 0 := by
  rw [Core.bump_eq c n m h]
  generalize ((nthD 0 c.br n : Nat) : Int) = b
  generalize ((nthD 0 c.pr n : Nat) : Int) = p
  have hpos : (0 : Int) < ((nthD 0 c.lr n : Nat) : Int) := by exact_mod_cast h
  generalize ((nthD 0 c.lr n : Nat) : Int) = l at hpos
  have hlo := Int.emod_nonneg (p + m - b) hpos.ne'
  have hhi := Int.emod_lt_of_pos (p + m - b) hpos
  refine ⟨by omega, by omega, ?_⟩
  have hdiff : b + (p + m - b) % l - (p + m) = (p + m - b) % l - (p + m - b) := by ring
  rw [hdiff, Int.sub_emod, Int.emod_emod, sub_self, Int.zero_emod]

/-! ### Bit reversal (R483) -/

theorem revBits_succ (j x : Nat) : revBits (j + 1) x = 2 * revBits j x + x / 2 ^ j % 2 := by
  have hterm : ∀ i ∈ List.range j, x / 2 ^ i % 2 * 2 ^ (j + 1 - 1 - i) = 2 * (x / 2 ^ i % 2 * 2 ^ (j - 1 - i)) := fun i hi => by
    have hexp : j + 1 - 1 - i = (j - 1 - i) + 1 := by have := List.mem_range.1 hi; omega
    rw [hexp, pow_succ]
    ring
  rw [revBits, revBits, sumN_eq_sum, sumN_eq_sum, List.range_succ, List.map_append, List.sum_append, List.map_congr_left hterm, List.sum_map_mul_left]
  simp

theorem testBit_revBits (j x i : Nat) (hi : i < j) : (revBits j x).testBit i = x.testBit (j - 1 - i) := by
  induction j generalizing i with
  | zero => omega
  | succ j ih =>
    rw [revBits_succ]
    cases i with
    | zero =>
      rw [Nat.testBit_zero, Nat.mul_add_mod, Nat.mod_mod, Nat.testBit_eq_decide_div_mod_eq]
      rfl
    | succ i =>
      have hhalf : (2 * revBits j x + x / 2 ^ j % 2) / 2 = revBits j x := by omega
      rw [Nat.testBit_succ, hhalf, ih i (by omega)]
      congr 1
      omega

theorem revBits_lt (j x : Nat) : revBits j x < 2 ^ j := by
  induction j with
  | zero => exact Nat.one_pos
  | succ j ih =>
    rw [revBits_succ, pow_succ]
    omega

/-- Reversing the low bits twice gives them back. -/
theorem revBits_revBits {j x : Nat} (hx : x < 2 ^ j) : revBits j (revBits j x) = x := by
  refine Nat.eq_of_testBit_eq fun i => ?_
  by_cases hi : i < j
  · rw [testBit_revBits j _ i hi, testBit_revBits j x _ (by omega)]
    congr 1
    omega
  · have hpow : 2 ^ j ≤ 2 ^ i := Nat.pow_le_pow_right (by omega) (by omega)
    rw [Nat.testBit_lt_two_pow ((revBits_lt j _).trans_le hpow), Nat.testBit_lt_two_pow (hx.trans_le hpow)]

/-! ### Flow (R484 to R488) -/

theorem loopBack_idle {c : Core} {l : List Nat} (h : ∀ n ∈ l, nthD 0 c.lc n = 0) : loopBack c l = (c, none) := by
  induction l with
  | nil => rfl
  | cons n t ih =>
    rw [loopBack, if_neg fun hn => hn.1 (h n (.head _)), ih fun m hm => h m (.tail _ hm)]

theorem Core.advance_idle {c : Core} (h : loopBack c [2, 1, 0] = (c, none)) (hb : c.branch = none) : c.advance {} = { c with pc := c.pc + 1 } := by
  simp [Core.advance, h, hb]

theorem Core.advance_jump {c : Core} (h : loopBack c [2, 1, 0] = (c, none)) (t : Int) :
    c.advance { jump := some (t, 0) } = { c with pc := c.pc + 1, branch := some (2, wrapTo 16 t, 0) } := by
  simp [Core.advance, h]

theorem Core.advance_slot {c : Core} {x k : Nat} (h : loopBack c [2, 1, 0] = (c, none)) (hb : c.branch = some (n + 2, x, k)) :
    c.advance {} = { c with pc := c.pc + 1, branch := some (n + 1, x, k) } := by
  simp [Core.advance, h, hb]

theorem Core.advance_target {c : Core} {x k : Nat} (h : loopBack c [2, 1, 0] = (c, none)) (hb : c.branch = some (1, x, k)) :
    (c.advance {}).pc = x := by
  simp [Core.advance, h, hb]

/-- A branch acts after the two bundles behind it. -/
theorem Core.advance_branch (c : Core) {t : Int} (h : ∀ n ∈ [2, 1, 0], nthD 0 c.lc n = 0) (h0 : 0 ≤ t) (h1 : t < 1024) :
    ((c.advance { jump := some (t, 0) }).advance {}).pc = c.pc + 2 ∧ (((c.advance { jump := some (t, 0) }).advance {}).advance {}).pc = t.toNat := by
  have hwrap : wrapTo 16 t = t.toNat := by unfold wrapTo; omega
  have hfirst := Core.advance_jump (loopBack_idle h) t
  have hsecond := Core.advance_slot (c := { c with pc := c.pc + 1, branch := some (2, wrapTo 16 t, 0) }) (n := 0) (loopBack_idle h) rfl
  have hthird := Core.advance_target (c := { c with pc := c.pc + 1 + 1, branch := some (1, wrapTo 16 t, 0) }) (loopBack_idle h) rfl
  rw [hfirst, hsecond]
  exact ⟨rfl, hthird.trans hwrap⟩

/-- At the end of the one loop that is open: its count goes down by one, and the body is issued again while it is not 0. -/
theorem loopBack_end (c : Core) (a b : List Nat) (hn : n < c.lc.length) (hle : nthD 0 c.le n = c.pc) (hlc : 0 < nthD 0 c.lc n)
    (ha : ∀ i ∈ a, nthD 0 c.lc i = 0) (hb : ∀ i ∈ b, i ≠ n ∧ nthD 0 c.lc i = 0) :
    loopBack c (a ++ n :: b) = ({ c with lc := setNth c.lc n (nthD 0 c.lc n - 1) }, if nthD 0 c.lc n = 1 then none else some (nthD 0 c.ls n)) := by
  have hself : nthD 0 (setNth c.lc n (nthD 0 c.lc n - 1)) n = nthD 0 c.lc n - 1 := by rw [nthD_setNth _ _ _ hn, if_pos rfl]
  induction a with
  | nil =>
    rw [List.nil_append, loopBack, if_pos ⟨by omega, hle⟩]
    dsimp only
    rw [hself]
    by_cases h1 : nthD 0 c.lc n = 1
    · rw [if_neg (by omega), if_pos h1]
      refine loopBack_idle fun i hi => ?_
      obtain ⟨hne, h0⟩ := hb i hi
      exact (nthD_setNth _ _ _ hn).trans ((if_neg hne).trans h0)
    · rw [if_pos (by omega), if_neg h1]
  | cons i a ih =>
    rw [List.cons_append, loopBack, if_neg fun h => h.1 (ha i (.head _)), ih fun j hj => ha j (.tail _ hj)]

theorem Core.advance_loop {c : Core} {l : List Nat} {next : Option Nat} (h : loopBack c [2, 1, 0] = ({ c with lc := l }, next)) (hb : c.branch = none) :
    (c.advance {}).lc = l ∧ (c.advance {}).pc = next.getD (c.pc + 1) := by
  simp [Core.advance, h, hb]

/-- The levels are looked at in the order 2, 1, 0. -/
theorem levels_split (h : n < 3) : ∃ a b : List Nat, [2, 1, 0] = a ++ n :: b ∧ (∀ i ∈ a, i < 3 ∧ i ≠ n) ∧ ∀ i ∈ b, i < 3 ∧ i ≠ n := by
  have hcases : n = 2 ∨ n = 1 ∨ n = 0 := by omega
  obtain rfl | rfl | rfl := hcases
  · exact ⟨[], [1, 0], rfl, by decide, by decide⟩
  · exact ⟨[2], [0], rfl, by decide, by decide⟩
  · exact ⟨[2, 1], [], rfl, by decide, by decide⟩

theorem garnetFlow : GarnetFlow := by
  refine ⟨fun c n m h => ?_, fun c n m h => if_pos h, fun j x hx => ⟨revBits_lt j x, revBits_revBits hx⟩, fun c t hlc h0 h1 => ?_, fun c n hn hlen hbr hle hothers hlc => ?_⟩
  · simp only [nthD_int]
    exact c.bump_circular n m h
  · have hall : ∀ n ∈ [2, 1, 0], nthD 0 c.lc n = 0 := fun n hmem => by
      have hperm : n ∈ [0, 1, 2] := by
        simp only [List.mem_cons, List.not_mem_nil, or_false] at hmem ⊢
        omega
      simpa using List.all_eq_true.1 hlc n hperm
    exact c.advance_branch hall h0 h1
  · obtain ⟨a, b, hsplit, ha, hb⟩ := levels_split hn
    have hback := loopBack_end c a b (by omega) hle hlc (fun i hi => hothers i (ha i hi).1 (ha i hi).2) fun i hi => ⟨(hb i hi).2, hothers i (hb i hi).1 (hb i hi).2⟩
    rw [← hsplit] at hback
    obtain ⟨hcount, hnext⟩ := Core.advance_loop hback hbr
    refine ⟨?_, ?_⟩
    · rw [hcount, nthD_setNth _ _ _ (by omega), if_pos rfl]
    · rw [hnext]
      split <;> rfl

/-- Settles O32: sums, stores and comparisons as whole numbers; pointers, branches and loops as one bundle after another leaves them. -/
theorem garnetInstructionSet : Obligations.GarnetInstructionSet := ⟨garnetArithmetic, garnetFlow⟩

end Sys2Proof.Machine
end

section
/-! How a Garnet core runs: calls, bundles, traps, stalls, timers and interrupts (R487 to R508, R514 to R516): O31. -/

namespace Sys2Proof.Machine
open Sys2Proof

variable {s : State} {d e f : Dev} {c : Core} {k n a : Nat} {i : Item}

theorem Dev.Noted.garnet (h : d.Noted e) : e.garnet = d.garnet := by rw [h]

theorem Dev.gcore_congr (h : e.garnet = d.garnet) (k : Nat) : e.gcore k = d.gcore k := by rw [Dev.gcore, h, Dev.gcore]
theorem Dev.ins_congr (h : e.garnet = d.garnet) (n : Nat) : e.ins n = d.ins n := by rw [Dev.ins, h, Dev.ins]

theorem Dev.gaCount_noted (d : Dev) (p off n : Nat) : d.Noted (d.gaCount p off n) := .ite (d.bump_noted _ _ _) (.refl d)
theorem Dev.gaEvent_noted (d : Dev) (p b x y : Nat) : d.Noted (d.gaEvent p b x y) := .ite (d.raise_noted _ _ _ _ _ _) (.refl d)

theorem Dev.itemTrace_noted (d : Dev) (ev : Nat) (i : Item) (w : Word) : d.Noted (d.itemTrace ev i w) := d.trace_noted _ _ _ _ _ _

/-! ### What the Dispatcher leaves of a core (R700, R705) -/

/-- Of every core only a pending interrupt, its item and its count of items submitted may differ. -/
def Dev.CoresStay (d e : Dev) : Prop := ∀ k, e.gcore k = { d.gcore k with irq := (e.gcore k).irq, item := (e.gcore k).item, puts := (e.gcore k).puts }

theorem Dev.CoresStay.refl (d : Dev) : d.CoresStay d := fun _ => rfl
theorem Dev.CoresStay.trans (h : d.CoresStay e) (k : e.CoresStay f) : d.CoresStay f := fun j => by
  have hj := k j
  rw [h j] at hj
  exact hj
theorem Dev.coresStay_of (h : e.garnet = d.garnet) : d.CoresStay e := fun k => by rw [Dev.gcore_congr h]
theorem Dev.CoresStay.ite {q : Prop} [Decidable q] (h : d.CoresStay e) (k : d.CoresStay f) : d.CoresStay (if q then e else f) := by
  split
  · exact h
  · exact k

theorem Dev.coresStay_foldl {α : Type} (g : Dev → α → Dev) (h : ∀ (d : Dev) (x : α), d.CoresStay (g d x)) (l : List α) (d : Dev) : d.CoresStay (l.foldl g d) := by
  induction l generalizing d with
  | nil => exact .refl d
  | cons x t ih => exact (h d x).trans (ih _)

theorem Dev.coresStay_put (h : e.garnet = d.garnet) (k q m : Nat) (x : Option Nat) : d.CoresStay (e.setGcore k { d.gcore k with irq := q, item := x, puts := m }) := fun j => by
  rw [Dev.gcore_setGcore]
  by_cases hj : j = k
  · rw [if_pos hj, hj]
  · rw [if_neg hj, Dev.gcore_congr h]

theorem Dev.arrive_coresStay (d : Dev) (i : Item) : d.CoresStay (d.arrive i) := by
  have hspill : ∀ q : Prop, ∀ (_ : Decidable q), d.CoresStay ((if q then d.inc pgDispatch 0x078 else d).setDomain i.domain ((d.domain i.domain).take i)) := fun q _ => by
    refine Dev.coresStay_of ?_
    split <;> rfl
  exact (hspill _ _).trans (Dev.coresStay_foldl _ (fun d k => Dev.coresStay_put rfl k _ _ _) _ _)

theorem Dev.acceptItem_coresStay (d : Dev) (i : Item) : d.CoresStay (d.acceptItem i) := by
  have hseen : d.CoresStay ((d.inc pgDispatch 0x058).itemTrace 0x0001 i i.payload) := Dev.coresStay_of ((d.inc_noted _ _).trans (Dev.itemTrace_noted _ _ _ _)).garnet
  have hlate : ∀ d : Dev, d.CoresStay (d.lateItem i) := fun d => Dev.coresStay_of ((d.inc_noted _ _).trans (Dev.raise_noted _ _ _ _ _ _ _)).garnet
  exact .ite (.ite (hseen.trans ((hlate _).trans (Dev.arrive_coresStay _ _))) (hseen.trans (Dev.coresStay_of rfl))) (hseen.trans (Dev.arrive_coresStay _ _))

theorem Dev.releaseHeld_coresStay (d : Dev) (k : Nat) : d.CoresStay (d.releaseHeld k) :=
  (Dev.coresStay_of rfl : d.CoresStay (d.setDomain k _)).trans (Dev.coresStay_foldl _ (fun d _ => Dev.coresStay_foldl _ (fun d i => d.acceptItem_coresStay i) _ d) _ _)

theorem Dev.completeItem_coresStay (d : Dev) (k : Nat) (st : Status) : d.CoresStay (d.completeItem k st) := by
  have htrace : ∀ (o : Option InService) (v : Word), (match o with | some s => d.itemTrace 0x0003 s.item v | none => d).garnet = d.garnet := fun o v => by
    cases o with
    | none => rfl
    | some s => exact (d.itemTrace_noted _ _ _).garnet
  have hput : ∀ e : Dev, e.garnet = d.garnet → d.CoresStay ((e.setGcore k { d.gcore k with item := none, puts := 0 }).inc pgDispatch 0x060) := fun e he =>
    (Dev.coresStay_put he k _ _ _).trans (Dev.coresStay_of rfl)
  unfold Dev.completeItem
  dsimp only
  split
  · exact .refl d
  · exact (hput _ (htrace _ _)).trans (Dev.releaseHeld_coresStay _ _)

/-! ### The end of a call (R495, R503 to R506) -/

/-- An insert after its call: 1 by RET, 2 by its budget, 3 by a trap. -/
def Insert.called (x : Insert) (c : Core) (how : Nat) : Insert :=
  { x with
    state := if how = 3 then .faulted else x.state
    first := false
    overrun := how == 2
    paramChanged := false
    coefChanged := false
    satTold := x.satTold || c.status.getLsbD 4
    lastBundles := c.issued
    out := some (if how = 1 then c.outBlock else x.input)
    due := false }

/-- A core after a call. -/
def Core.called (c : Core) (how : Nat) : Core := { c with serving := none, lands := [], branch := none, ended := how, lastSat := c.status.getLsbD 4 }

theorem Dev.finishCall_garnet (d : Dev) {k n : Nat} (how : Nat) (h : (d.gcore k).serving = some n) :
    (d.finishCall k how).garnet = ((d.setGcore k ((d.gcore k).called how)).setIns n ((d.ins n).called (d.gcore k) how)).garnet := by
  unfold Dev.finishCall
  extract_lets c u sat d1
  split
  · rename_i hnone
    cases hnone.symm.trans h
  · rename_i m hm
    cases hm.symm.trans h
    extract_lets x tell d2 d3 d4
    have hover : d2.Noted d3 := .ite ((d2.gaCount_noted _ _ _).trans (Dev.gaEvent_noted _ _ _ _ _)) (.refl d2)
    have hsat : d3.Noted d4 := .ite (d3.gaCount_noted _ _ _) (.refl d3)
    have htold : d4.Noted (if tell then d4.gaEvent u 2 n (coreDetail k 0 c.pc) else d4) := .ite (d4.gaEvent_noted _ _ _ _) (.refl d4)
    exact ((hover.trans hsat).trans htold).garnet

theorem Dev.finishCall_spec (d : Dev) {k n : Nat} (how : Nat) (h : (d.gcore k).serving = some n) :
    (d.finishCall k how).gcore k = (d.gcore k).called how ∧ (∀ j, j ≠ k → (d.finishCall k how).gcore j = d.gcore j) ∧
      (d.finishCall k how).ins n = (d.ins n).called (d.gcore k) how ∧ ∀ m, m ≠ n → (d.finishCall k how).ins m = d.ins m := by
  have hg := d.finishCall_garnet how h
  have hcore : ∀ j, (d.finishCall k how).gcore j = if j = k then (d.gcore k).called how else d.gcore j := fun j =>
    (Dev.gcore_congr hg j).trans (Dev.gcore_setGcore _ _ _ _)
  have hins : ∀ m, (d.finishCall k how).ins m = if m = n then (d.ins n).called (d.gcore k) how else d.ins m := fun m =>
    (Dev.ins_congr hg m).trans (Dev.ins_setIns _ _ _ _)
  exact ⟨(hcore k).trans (if_pos rfl), fun j hj => (hcore j).trans (if_neg hj), (hins n).trans (if_pos rfl), fun m hm => (hins m).trans (if_neg hm)⟩

/-! ### Traps (R495, R496) -/

/-- A task that ends leaves its core with the trap's record alone. -/
theorem Dev.endTask_spec (d : Dev) (k : Nat) (st : Status) :
    ((d.endTask k st).gcore k).trapCode = (d.gcore k).trapCode ∧ ((d.endTask k st).gcore k).trapPc = (d.gcore k).trapPc ∧
      ((d.endTask k st).gcore k).serving = none ∧ ((d.endTask k st).gcore k).task = false := by
  have hstay := d.completeItem_coresStay k st k
  unfold Dev.endTask
  dsimp only
  rw [Dev.gcore_setGcore, if_pos rfl, hstay]
  exact ⟨rfl, rfl, rfl, rfl⟩

/-- A core that serves a call or runs a task, at a trap. -/
theorem Dev.trapCore_spec (d : Dev) (k code : Nat) (h : (d.gcore k).serving.isSome = true ∨ (d.gcore k).task = true) :
    ((d.trapCore k code).gcore k).trapCode = code ∧ ((d.trapCore k code).gcore k).trapPc = (d.gcore k).pc % 1024 ∧ ((d.trapCore k code).gcore k).serving = none ∧
      (∀ i, (d.gcore k).serving = some i → ((d.trapCore k code).ins i).state = .faulted ∧ ((d.trapCore k code).ins i).out = some (d.ins i).input) ∧
      ((d.gcore k).serving = none → ((d.trapCore k code).gcore k).task = false) := by
  unfold Dev.trapCore
  extract_lets c u d1 d2
  have hnoted : d1.Noted d2 := (d1.gaCount_noted _ _ _).trans (Dev.gaEvent_noted _ _ _ _ _)
  have hcore : d2.gcore k = { d.gcore k with trapCode := code, trapPc := (d.gcore k).pc % 1024, lands := [], branch := none } := by
    rw [Dev.gcore_congr hnoted.garnet]
    exact (Dev.gcore_setGcore _ _ _ _).trans (if_pos rfl)
  have hins : ∀ n, d2.ins n = d.ins n := fun n => Dev.ins_congr hnoted.garnet n
  clear_value d2
  cases hs : (d.gcore k).serving with
  | some n =>
    have hserving : (d2.gcore k).serving = some n := by rw [hcore]; exact hs
    obtain ⟨hend, -, hdone, -⟩ := d2.finishCall_spec 3 hserving
    rw [if_pos (Option.isSome_some (a := n)), hend, hcore]
    refine ⟨rfl, rfl, rfl, fun i hi => ?_, nofun⟩
    cases hi
    rw [hdone, ← hins]
    exact ⟨rfl, rfl⟩
  | none =>
    have htask : (d.gcore k).task = true := h.resolve_left (by simp [hs])
    obtain ⟨hcode, hpc, hserving, hfree⟩ := d2.endTask_spec k .faulted
    rw [hcore] at hcode hpc
    rw [if_neg (by decide), if_pos (show c.task = true from htask)]
    exact ⟨hcode, hpc, hserving, nofun, fun _ => hfree⟩

/-! ### One bundle (R479 to R495) -/

/-- With no result pending nothing lands. -/
theorem Core.landDue_none (h : c.lands = []) : c.landDue = c := by
  have hc : { c with lands := [] } = c := by rw [← h]
  simp [Core.landDue, h, hc]

theorem Dev.setGcore_self (d : Dev) (k j : Nat) : (d.setGcore k (d.gcore k)).gcore j = d.gcore j := by
  rw [Dev.gcore_setGcore]
  split
  · rename_i hj
    rw [hj]
  · rfl

/-- A bundle that breaks a rule traps with ILLEGAL. -/
theorem Dev.issueBundle_illegal (d : Dev) (k ecc : Nat) (hmay : (d.gcore k).mayIssue = true) (hl : (d.gcore k).lands = []) (hr : (d.gcore k).rti = false)
    (hpc : (d.gcore k).pc < 1024) (hbad : bundleOk (d.bundleAt k) = false) : d.issueBundle k ecc = (d.setGcore k (d.gcore k)).trapCore k 1 := by
  unfold Dev.issueBundle
  simp only [hmay, Core.landDue_none hl, hr, hbad, Bool.not_true, Bool.not_false, Bool.false_eq_true, if_false, if_true]
  rw [if_neg (by omega)]

/-- A bundle of zeros goes on to the next one. -/
theorem Core.retire_nop (hb : c.branch = none) (hlc : [0, 1, 2].all (fun i => nthD 0 c.lc i == 0) = true) :
    c.retire [] {} = { c with issued := c.issued + 1, stall := 0, pc := c.pc + 1 } := by
  have hall : ∀ n ∈ [2, 1, 0], nthD 0 c.lc n = 0 := fun n hmem => by
    have hperm : n ∈ [0, 1, 2] := by
      simp only [List.mem_cons, List.not_mem_nil, or_false] at hmem ⊢
      omega
    simpa using List.all_eq_true.1 hlc n hperm
  have hadv := Core.advance_idle (c := { c with issued := c.issued + 1, stall := 0 }) (loopBack_idle hall) hb
  unfold Core.retire
  dsimp only
  rw [List.append_nil]
  exact hadv

theorem Dev.issueBundle_nop (d : Dev) (k ecc : Nat) (hmay : (d.gcore k).mayIssue = true) (hl : (d.gcore k).lands = []) (hr : (d.gcore k).rti = false)
    (hpc : (d.gcore k).pc < 1024) (hz : d.bundleAt k = 0) (hend : (d.gcore k).ended = 0) (hb : (d.gcore k).branch = none)
    (hlc : [0, 1, 2].all (fun i => nthD 0 (d.gcore k).lc i == 0) = true) :
    d.issueBundle k ecc = (((d.setGcore k (d.gcore k)).setGcore k { d.gcore k with issued := (d.gcore k).issued + 1, stall := 0, pc := (d.gcore k).pc + 1 }).gaCount (d.gaUnit (k / 16)) 0x068 1) := by
  have hok : bundleOk 0 = true := by decide
  have hfmt : ¬ fld (0 : Word) 62 2 = 1 := by decide
  have hloop : loopRule (d.gcore k) (aBits 0) = false := by
    have : aBits 0 = 0 := by decide
    rw [this]
    rfl
  have hslot : lSlot (d.gcore k) (lBits 0) = some ([], []) := by
    have : lBits 0 = 0 := by decide
    rw [this]
    rfl
  have hm : mSlot (d.gcore k) (mBits 0) = [] := by
    have : mBits 0 = 0 := by decide
    rw [this]
    rfl
  have ha : aSlot (d.gcore k) (aBits 0) = {} := by
    have : aBits 0 = 0 := by decide
    rw [this]
    rfl
  unfold Dev.issueBundle
  simp only [hmay, Core.landDue_none hl, hr, hz, hok, hloop, hslot, if_neg hfmt, hm, ha, Core.retire_nop hb hlc, List.map_nil, List.filter_nil, List.filterMap_nil, List.any_nil,
    List.append_nil, List.length_nil, List.foldl_nil, Bool.false_and, Bool.not_true, Bool.false_eq_true, if_false]
  rw [if_neg (by omega), if_neg (by omega), if_neg]
  rintro ⟨hone, -⟩
  rw [Dev.gcore_congr (Dev.gaCount_noted _ _ _ _).garnet, Dev.gcore_setGcore, if_pos rfl] at hone
  exact absurd (hend.symm.trans hone) (by decide)

/-! ### Stalls, timers and interrupts (R489, R515, R516) -/

theorem Core.interrupt_entry (htask : c.task = true) (hie : c.ie = true) (hb : c.branch = none) (hst : c.stall = 0) (hl : c.lands = []) {x : Nat} (hx : x < 3)
    (hirq : c.irq / 2 ^ x % 2 = 1) (hmask : c.imask / 2 ^ x % 2 = 1) (hfirst : ∀ y, y < x → ¬ (c.irq / 2 ^ y % 2 = 1 ∧ c.imask / 2 ^ y % 2 = 1)) :
    c.interrupt = { c with ipc := c.pc % 1024, istatus := c.status, status := c.status &&& 0xF7FF, irq := c.irq - 2 ^ x, pc := c.vecBase + 4 * x } := by
  have hfind : [0, 1, 2].find? (fun s => c.irq / 2 ^ s % 2 == 1 && c.imask / 2 ^ s % 2 == 1) = some x := by
    rw [show [0, 1, 2] = List.range 3 from rfl, List.find?_range_eq_some]
    refine ⟨by simp [hirq, hmask], List.mem_range.2 hx, fun y hy => ?_⟩
    have hno := hfirst y hy
    rw [Bool.not_eq_true', Bool.and_eq_false_iff, beq_eq_false_iff_ne, beq_eq_false_iff_ne]
    exact not_and_or.1 hno
  have hland : c.landAll = c := by
    simp [Core.landAll, Core.landDue_none hl]
  unfold Core.interrupt
  simp only [hfind, htask, hie, hb, hst, hland, Bool.not_true, Option.isSome_none, Bool.false_or, Bool.or_false]
  rfl

/-- The bit of the source is taken from those pending. -/
theorem bit_cleared {m x : Nat} (hx : x < 3) (h : m / 2 ^ x % 2 = 1) : (m - 2 ^ x) / 2 ^ x % 2 = 0 := by
  have hcases : x = 0 ∨ x = 1 ∨ x = 2 := by omega
  obtain rfl | rfl | rfl := hcases <;> omega

/-- The four words of an item given to a core. -/
def itemMem (m : Tab Word) (i : Item) : Tab Word := i.words.zipIdx.foldl (fun m e => tabPutD 0 m (0x0E40 + e.2) e.1) m

theorem tabGetD_itemMem (m : Tab Word) (i : Item) {j : Nat} (hj : j < 4) : tabGetD 0 (itemMem m i) (0x0E40 + j) = nthD 0 i.words j := by
  have hcases : j = 0 ∨ j = 1 ∨ j = 2 ∨ j = 3 := by omega
  obtain rfl | rfl | rfl | rfl := hcases <;> simp [itemMem, Item.words, tabGetD_tabPutD, nthD]

/-- A domain whose item goes into service on a core. -/
def Domain.serve (x : Domain) (k a : Nat) (i : Item) : Domain :=
  { x with waiting := x.waiting.filter (fun e => e.1 != a), service := x.service ++ [⟨k, a, i, [], false⟩] }

/-- A core whose domain has an item takes it into service. -/
theorem Dev.giveItem_spec (d : Dev) (k : Nat) (h : (d.domain (d.gcore k).domain).next = some (a, i)) :
    ∃ e, d.giveItem k = some (e, nthD 0 i.words 0) ∧ e.gcore k = { d.gcore k with item := some a, puts := 0, mem := itemMem (d.gcore k).mem i } ∧
      (e.domain (d.gcore k).domain).waiting = (d.domain (d.gcore k).domain).waiting.filter (fun e => e.1 != a) := by
  obtain ⟨w, hw⟩ : ∃ w, w = fmk 0 12 (0x080 + nthD 0 d.garnet.map (k / 16)) ||| fmk 12 4 (k % 16) := ⟨_, rfl⟩
  obtain ⟨x, hx⟩ : ∃ x, x = (d.domain (d.gcore k).domain).serve k a i := ⟨_, rfl⟩
  have htake : d.takeItem k = some ((((d.setDomain (d.gcore k).domain x).setGcore k { d.gcore k with item := some a, puts := 0 }).itemTrace 0x0002 i w), i) := by
    simp only [Dev.takeItem, h]
    rw [hw, hx]
    rfl
  have hnoted := ((d.setDomain (d.gcore k).domain x).setGcore k { d.gcore k with item := some a, puts := 0 }).itemTrace_noted 0x0002 i w
  generalize ((d.setDomain (d.gcore k).domain x).setGcore k { d.gcore k with item := some a, puts := 0 }).itemTrace 0x0002 i w = y at htake hnoted
  have hcore : y.gcore k = { d.gcore k with item := some a, puts := 0 } := by
    rw [Dev.gcore_congr hnoted.garnet, Dev.gcore_setGcore, if_pos rfl]
  have hdomain : y.domain (d.gcore k).domain = x := by
    rw [Dev.domain, hnoted.disp]
    exact (tabGetD_tabPutD _ _ _ _ _).trans (if_pos rfl)
  refine ⟨y.setGcore k { y.gcore k with mem := itemMem (y.gcore k).mem i }, ?_, ?_, ?_⟩
  · simp only [Dev.giveItem, htake]
    rfl
  · rw [Dev.gcore_setGcore, if_pos rfl, hcore]
  · exact (congrArg Domain.waiting hdomain).trans (congrArg Domain.waiting hx)

theorem Dev.giveItem_none (d : Dev) (k : Nat) (h : (d.domain (d.gcore k).domain).next = none) : d.giveItem k = none := by
  simp only [Dev.giveItem, Dev.takeItem, h]

theorem Dev.gcore_unstall (d : Dev) (k : Nat) (v : Word) :
    (d.unstall k v).gcore k = { d.gcore k with stall := 0, fault := none, lands := (d.gcore k).lands ++ [⟨2, .d (d.gcore k).stallReg, (v.toNat : Int), true⟩] } := by
  rw [Dev.unstall, Dev.gcore_setGcore, if_pos rfl]

/-- The words moved change no more of the core than its memory. -/
theorem Dev.gcore_xferMove (d : Dev) (k : Nat) : (d.xferMove k).gcore k = { d.gcore k with mem := ((d.xferMove k).gcore k).mem } := by
  have hwrite : ∀ va l, (d.writeVa 0 va l).gcore k = d.gcore k := fun va l => by rw [d.writeVa_eq]; rfl
  unfold Dev.xferMove
  dsimp only
  split
  · rw [hwrite]
  · split
    · rfl
    · rw [Dev.gcore_setGcore, if_pos rfl]

theorem Dev.gcore_xferFault (d : Dev) (k : Nat) (x : XErr) : ∃ n, (d.xferFault k x).gcore k = { d.gcore k with fault := some n } := by
  have hrec := (d.recordFault_spec 0 x (d.gcore k).xferOut 1 (0x080 + nthD 0 d.garnet.map (k / 16)) (.task (k / 16) (k % 16)) false).1
  refine ⟨(d.recordFault 0 x (d.gcore k).xferOut 1 (0x080 + nthD 0 d.garnet.map (k / 16)) (.task (k / 16) (k % 16)) false).2, ?_⟩
  have hcore : (d.recordFault 0 x (d.gcore k).xferOut 1 (0x080 + nthD 0 d.garnet.map (k / 16)) (.task (k / 16) (k % 16)) false).1.gcore k = d.gcore k :=
    Dev.gcore_congr (by rw [hrec]) k
  unfold Dev.xferFault
  dsimp only
  rw [Dev.gcore_setGcore, if_pos rfl, hcore]

/-- What INSERT_BUDGET_EXPIRY does to the device. -/
def Dev.budgetRow (d : Dev) (n : Nat) : Dev :=
  if (d.gcore (16 * (d.ins n).cluster + (d.ins n).core)).serving = some n then d.budgetExpiry (16 * (d.ins n).cluster + (d.ins n).core) else d

/-- A row of a core: what it does where the core is a customer core. -/
def Dev.coreRow (d : Dev) (l k : Nat) (g : Dev → Nat → Dev) : Dev := match coreOf l k with | some j => g d j | none => d

theorem Dev.coreRow_some {l j : Nat} (h : coreOf l k = some j) (g : Dev → Nat → Dev) : d.coreRow l k g = g d j := by rw [Dev.coreRow, h]
theorem Dev.coreRow_none {l : Nat} (h : coreOf l k = none) (g : Dev → Nat → Dev) : d.coreRow l k g = d := by rw [Dev.coreRow, h]

section
variable (s : State) (l k ecc : Nat) (h : s.ready = true)
include h

theorem exec_insertCall (n : Nat) : exec (.insertCall n) s = .next (s.setDev (s.dev.startCall n)) := exec_actReady (f := fun d => d.startCall n) rfl h
theorem exec_insertBudgetExpiry (n : Nat) : exec (.insertBudgetExpiry n) s = .next (s.setDev (s.dev.budgetRow n)) := exec_actReady (f := fun d => d.budgetRow n) rfl h
theorem exec_bundleIssue : exec (.bundleIssue l k ecc) s = .next (s.setDev (s.dev.coreRow l k fun d j => d.issueBundle j ecc)) :=
  exec_actReady (f := fun d => d.coreRow l k fun d j => d.issueBundle j ecc) rfl h
theorem exec_dispGetReturn : exec (.dispGetReturn l k) s = .next (s.setDev (s.dev.coreRow l k Dev.dispGetReturn)) := exec_actReady (f := fun d => d.coreRow l k Dev.dispGetReturn) rfl h
theorem exec_xferDone : exec (.xferDone l k) s = .next (s.setDev (s.dev.coreRow l k Dev.xferDone)) := exec_actReady (f := fun d => d.coreRow l k Dev.xferDone) rfl h
theorem exec_timerInterrupt : exec (.timerInterrupt l k) s = .next (s.setDev (s.dev.coreRow l k Dev.timerInterrupt)) := exec_actReady (f := fun d => d.coreRow l k Dev.timerInterrupt) rfl h
theorem exec_interruptEntry : exec (.interruptEntry l k) s = .next (s.setDev (s.dev.coreRow l k fun d j => d.setGcore j (d.gcore j).interrupt)) :=
  exec_actReady (f := fun d => d.coreRow l k fun d j => d.setGcore j (d.gcore j).interrupt) rfl h
end

/-! ### What each row of a core does -/

theorem Dev.startCall_idle (d : Dev) (h : (d.ins n).due = false) : d.startCall n = d := by
  simp [Dev.startCall, h]

theorem Dev.startCall_begins (d : Dev) (hdue : (d.ins n).due = true)
    (hbefore : (d.coreInserts (16 * (d.ins n).cluster + (d.ins n).core)).any (fun e => e.2.due && decide (e.1 < n)) = false)
    (hfree : (d.gcore (16 * (d.ins n).cluster + (d.ins n).core)).serving = none) (hfed : (d.feeders n).any (fun m => (d.ins m).due) = false) :
    d.startCall n = d.setGcore (16 * (d.ins n).cluster + (d.ins n).core) (d.callCore n) := by
  simp only [Dev.startCall, hdue, hbefore, hfree, hfed, Option.isSome_none, Bool.or_false, Bool.not_true, Bool.false_eq_true, if_false]

theorem Dev.budgetRow_ends (d : Dev) (hs : (d.gcore (16 * (d.ins n).cluster + (d.ins n).core)).serving = some n)
    (hb : (d.gcore (16 * (d.ins n).cluster + (d.ins n).core)).budget ≤ (d.gcore (16 * (d.ins n).cluster + (d.ins n).core)).issued) :
    d.budgetRow n = d.finishCall (16 * (d.ins n).cluster + (d.ins n).core) 2 := by
  rw [Dev.budgetRow, if_pos hs, Dev.budgetExpiry]
  exact if_pos (by simp [hs, hb])

theorem Core.mayIssue_works (h : c.mayIssue = true) : c.serving.isSome = true ∨ c.task = true := by
  simp only [Core.mayIssue, Bool.and_eq_true, Bool.or_eq_true] at h
  obtain ⟨⟨htask | ⟨hserving, -⟩, -⟩, -⟩ := h
  · exact Or.inr htask
  · exact Or.inl hserving

theorem Dev.dispGetReturn_waits (d : Dev) (hst : (d.gcore k).stall = 1) (h : (d.domain (d.gcore k).domain).next = none) : d.dispGetReturn k = d := by
  simp [Dev.dispGetReturn, hst, Dev.giveItem_none d k h]

theorem Dev.dispGetReturn_gives (d : Dev) (hst : (d.gcore k).stall = 1) (h : (d.domain (d.gcore k).domain).next = some (a, i)) :
    ((d.dispGetReturn k).gcore k).stall = 0 ∧ ((d.dispGetReturn k).gcore k).item = some a ∧
      (∀ j, j < 4 → tabGetD 0 ((d.dispGetReturn k).gcore k).mem (0x0E40 + j) = nthD 0 i.words j) ∧
      ((d.dispGetReturn k).domain (d.gcore k).domain).waiting = (d.domain (d.gcore k).domain).waiting.filter (fun e => e.1 != a) := by
  obtain ⟨e, hgive, hcore, hwait⟩ := d.giveItem_spec k h
  have hd : d.dispGetReturn k = e.unstall k (nthD 0 i.words 0) := by
    simp [Dev.dispGetReturn, hst, hgive]
  rw [hd, Dev.gcore_unstall, hcore]
  exact ⟨rfl, rfl, fun j hj => tabGetD_itemMem _ _ hj, hwait⟩

theorem Dev.xferDone_moves (d : Dev) (hst : (d.gcore k).stall = 2) (hf : (d.gcore k).fault = none) (h : d.xferFail (d.gcore k) = none) :
    ((d.xferDone k).gcore k).stall = 0 ∧ ((d.xferDone k).gcore k).lands = (d.gcore k).lands ++ [⟨2, .d (d.gcore k).stallReg, 0, true⟩] := by
  have hd : d.xferDone k = (d.xferMove k).unstall k 0 := by
    simp [Dev.xferDone, hst, hf, h]
  rw [hd, Dev.gcore_unstall, Dev.gcore_xferMove]
  exact ⟨rfl, rfl⟩

theorem Dev.xferDone_faults (d : Dev) (hst : (d.gcore k).stall = 2) (hf : (d.gcore k).fault = none) (h : d.xferFail (d.gcore k) ≠ none) :
    ((d.xferDone k).gcore k).stall = 2 ∧ ((d.xferDone k).gcore k).fault ≠ none := by
  obtain ⟨x, hx⟩ := Option.ne_none_iff_exists'.1 h
  have hd : d.xferDone k = d.xferFault k x := by
    simp [Dev.xferDone, hst, hf, hx]
  obtain ⟨n, hn⟩ := d.gcore_xferFault k x
  rw [hd, hn]
  exact ⟨hst, nofun⟩

theorem Dev.timerInterrupt_due (d : Dev) (htask : (d.gcore k).task = true) (ht : (d.gcore k).timer ≠ 0) (hat : (d.gcore k).timerAt ≤ d.now) :
    (d.timerInterrupt k).gcore k = { d.gcore k with irq := (d.gcore k).irq ||| 2, timerAt := (d.gcore k).timerAt + (d.gcore k).timer * 1000 * nsT } := by
  have hgo : ¬ ((!(d.gcore k).task || (d.gcore k).timer == 0 || decide (d.now < (d.gcore k).timerAt)) = true) := by
    simpa [htask, ht] using hat
  unfold Dev.timerInterrupt
  dsimp only
  rw [if_neg hgo, Dev.gcore_setGcore, if_pos rfl]

theorem bit_or_two (m : Nat) : (m ||| 2) / 2 % 2 = 1 := by
  have h := Nat.testBit_or m 2 1
  rw [Nat.testBit_eq_decide_div_mod_eq, show Nat.testBit 2 1 = true from rfl, Bool.or_true] at h
  exact of_decide_eq_true h

/-- Settles O31: each row of a core, from what the core holds before it. -/
theorem garnetExecution : Obligations.GarnetExecution := by
  intro s l n k h
  refine ⟨exec_insertCall s h n, fun hd => ?_, exec_insertBudgetExpiry s h n, fun hc => ?_, fun j hc => ?_, fun hdue hbefore hfree hfed => ?_, fun hs hb => ?_,
    fun hc hmay hl hr hpc => ⟨fun hz hbr hend hlc e => ?_, fun hbad e => ?_⟩, fun hc hst => ⟨fun hn => ?_, fun a i hi => ?_⟩,
    fun hc hst hf => ⟨fun hx => ?_, fun hx => ?_⟩, fun hc htask ht hat => ?_, fun hc htask hie hbr hst x hx hirq hmask hfirst hl => ?_⟩
  · rw [exec_insertCall s h n, s.dev.startCall_idle hd]
  · simp only [exec_bundleIssue s l k _ h, exec_dispGetReturn s l k h, exec_xferDone s l k h, exec_timerInterrupt s l k h, exec_interruptEntry s l k h, Dev.coreRow_none hc, implies_true, and_self]
  · simp only [exec_bundleIssue s l k _ h, exec_dispGetReturn s l k h, exec_xferDone s l k h, exec_timerInterrupt s l k h, exec_interruptEntry s l k h, Dev.coreRow_some hc, implies_true, and_self]
  · refine ⟨_, exec_insertCall s h n, ?_⟩
    rw [State.setDev_dev, s.dev.startCall_begins hdue hbefore hfree hfed]
    exact ⟨(Dev.gcore_setGcore _ _ _ _).trans (if_pos rfl), rfl, fun j hj => (Dev.gcore_setGcore _ _ _ _).trans (if_neg hj)⟩
  · obtain ⟨hcore, -, hins, hothers⟩ := s.dev.finishCall_spec 2 hs
    refine ⟨_, exec_insertBudgetExpiry s h n, ?_⟩
    rw [State.setDev_dev, s.dev.budgetRow_ends hs hb, hcore, hins]
    exact ⟨rfl, rfl, rfl, rfl, rfl, hothers⟩
  · refine ⟨_, exec_bundleIssue s l k e h, ?_⟩
    rw [State.setDev_dev, Dev.coreRow_some hc, s.dev.issueBundle_nop _ e hmay hl hr hpc hz hend hbr hlc]
    have hg := (Dev.gaCount_noted ((s.dev.setGcore (16 * l + k) (s.dev.gcore (16 * l + k))).setGcore (16 * l + k)
      { s.dev.gcore (16 * l + k) with issued := (s.dev.gcore (16 * l + k)).issued + 1, stall := 0, pc := (s.dev.gcore (16 * l + k)).pc + 1 })
      (s.dev.gaUnit ((16 * l + k) / 16)) 0x068 1).garnet
    refine ⟨(congrArg Garnet.inserts hg).trans rfl, ?_, fun j hj => ?_⟩
    · rw [Dev.gcore_congr hg, Dev.gcore_setGcore, if_pos rfl]
    · rw [Dev.gcore_congr hg, Dev.gcore_setGcore, if_neg hj, Dev.setGcore_self]
  · have hself := s.dev.setGcore_self (16 * l + k) (16 * l + k)
    obtain ⟨hcode, htpc, hserving, hins, htask⟩ := (s.dev.setGcore (16 * l + k) (s.dev.gcore (16 * l + k))).trapCore_spec (16 * l + k) 1 (by rw [hself]; exact Core.mayIssue_works hmay)
    rw [hself] at htpc hins htask
    refine ⟨_, exec_bundleIssue s l k e h, ?_⟩
    rw [State.setDev_dev, Dev.coreRow_some hc, s.dev.issueBundle_illegal _ e hmay hl hr hpc hbad]
    exact ⟨hcode, htpc.trans (Nat.mod_eq_of_lt hpc), hserving, hins, htask⟩
  · rw [exec_dispGetReturn s l k h, Dev.coreRow_some hc, s.dev.dispGetReturn_waits hst hn]
  · refine ⟨_, exec_dispGetReturn s l k h, ?_⟩
    rw [State.setDev_dev, Dev.coreRow_some hc]
    exact s.dev.dispGetReturn_gives hst hi
  · refine ⟨_, exec_xferDone s l k h, ?_⟩
    rw [State.setDev_dev, Dev.coreRow_some hc]
    exact s.dev.xferDone_moves hst hf hx
  · refine ⟨_, exec_xferDone s l k h, ?_⟩
    rw [State.setDev_dev, Dev.coreRow_some hc]
    exact s.dev.xferDone_faults hst hf hx
  · refine ⟨_, exec_timerInterrupt s l k h, ?_⟩
    rw [State.setDev_dev, Dev.coreRow_some hc, s.dev.timerInterrupt_due htask ht hat]
    exact ⟨bit_or_two _, rfl⟩
  · refine ⟨_, exec_interruptEntry s l k h, ?_⟩
    rw [State.setDev_dev, Dev.coreRow_some hc, Dev.gcore_setGcore, if_pos rfl, Core.interrupt_entry htask hie hbr hst hl hx hirq hmask hfirst]
    refine ⟨rfl, rfl, rfl, ?_, bit_cleared hx hirq, rfl⟩
    simp [Core.ie]

end Sys2Proof.Machine
end

section
/-! The commands of images, inserts, tasks and clusters (R497 to R500, R504 to R509, R514, R517, R520). -/

namespace Sys2Proof.Machine
open Sys2Proof

variable {s : State} {d e x : Dev} {o : OpSpec} {c : HostCmd} {k n : Nat} {v : Word}

theorem Dev.Completed.garnet (h : d.Completed e) : e.garnet = d.garnet := by rw [h]

/-- What a command that ends with OK leaves of the clusters. -/
theorem Accepts.garnet (h : Accepts o c s) (he : o.effect c s = (s.setDev x, .done .ok n v)) : (runCmd o c s).dev.garnet = x.garnet := by
  obtain ⟨e, hu, hdone⟩ := h.doneDev he
  rw [hu]
  exact hdone.garnet

/-! ### Runs of a table and of a list -/

/-- A table written at `n` keys from `base` on. -/
theorem tabGetD_putRun {α : Type} [DecidableEq α] (z : α) (m : Tab α) (base n : Nat) (f : Nat → α) (a : Nat) :
    tabGetD z ((List.range n).foldl (fun m i => tabPutD z m (base + i) (f i)) m) a = if base ≤ a ∧ a < base + n then f (a - base) else tabGetD z m a := by
  have hkeys : (List.range n).foldl (fun m i => tabPutD z m (base + i) (f i)) m =
      ((List.range n).map (fun i => base + i)).foldl (fun m j => tabPutD z m j (f (j - base))) m := by
    rw [List.foldl_map]
    simp only [Nat.add_sub_cancel_left]
  have hmem : a ∈ (List.range n).map (fun i => base + i) ↔ base ≤ a ∧ a < base + n := by
    rw [List.mem_map]
    constructor
    · rintro ⟨i, hi, rfl⟩
      have := List.mem_range.1 hi
      omega
    · exact fun ha => ⟨a - base, List.mem_range.2 (by omega), by omega⟩
  rw [hkeys, tabGetD_foldl_tabPutD]
  simp only [hmem]

/-- A list written at `n` places from `base` on, all within it. -/
theorem nthD_putRun {α : Type} (z : α) (l : List α) (base n : Nat) (f : Nat → α) (h : base + n ≤ l.length) :
    ((List.range n).foldl (fun l i => setNth l (base + i) (f i)) l).length = l.length ∧
      ∀ a, nthD z ((List.range n).foldl (fun l i => setNth l (base + i) (f i)) l) a = if base ≤ a ∧ a < base + n then f (a - base) else nthD z l a := by
  induction n with
  | zero => exact ⟨rfl, fun a => (if_neg (by omega)).symm⟩
  | succ n ih =>
    obtain ⟨hlen, hat⟩ := ih (by omega)
    simp only [List.range_succ, List.foldl_append, List.foldl_cons, List.foldl_nil]
    refine ⟨(List.length_set ..).trans hlen, fun a => ?_⟩
    rw [nthD_setNth _ _ _ (by omega), hat]
    by_cases ha : a = base + n
    · rw [if_pos ha, if_pos (by omega)]
      congr 1
      omega
    · rw [if_neg ha]
      split
      · rw [if_pos (by omega)]
      · rw [if_neg (by omega)]

/-! ### Images (R497) -/

theorem Dev.image_congr (h : e.garnet = d.garnet) (i : Nat) : e.image i = d.image i := by rw [Dev.image, h, Dev.image]

/-- The device with one image written. -/
def Dev.setImage (d : Dev) (i : Nat) (x : Image) : Dev := { d with garnet := { d.garnet with images := tabPutD {} d.garnet.images i x } }

theorem Dev.image_setImage (d : Dev) (i : Nat) (x : Image) (k : Nat) : (d.setImage i x).image k = if k = i then x else d.image k := tabGetD_tabPutD _ _ _ _ _

/-- The image that a captured file holds. -/
def imageParse (b : List Byte) : Image :=
  ⟨true, (List.range 8).map (fun e => leAt b (8 + 2 * e) 2), (List.range (leAt b 0 2)).map (fun i => BitVec.ofNat 64 (leAt b (64 + 8 * i) 8))⟩

/-- A command that passes the checks of what it captured. -/
theorem Accepts.bytes (h : Accepts o c s) {l : List Byte} (hl : o.capture c s.dev = some l) {y : Chk} (hy : y ∈ o.dchecks c l s) (hs : y.st ∈ checkOrder) : y.bad = false := by
  obtain ⟨-, -, -, -, hv⟩ := h
  obtain ⟨l', hl', hgood⟩ := OpSpec.judged_bytes hv
  cases hl.symm.trans hl'
  by_contra hbad
  exact hgood y hy (by simpa using hbad) hs

theorem Accepts.garnetLoad (h : Accepts garnetLoadSpec c s) : ∃ b, garnetLoadSpec.capture c s.dev = some b ∧
    (∀ k, (runCmd garnetLoadSpec c s).dev.image k = if k = c.arg 0 1 then imageParse b else s.dev.image k) ∧ ∀ x, x ∈ (imageParse b).bundles → bundleOk x = true := by
  obtain ⟨b, hb, -⟩ := h.verdict
  refine ⟨b, hb, fun k => ?_, fun x hx => ?_⟩
  · rw [Dev.image_congr (h.garnet (x := s.dev.setImage (c.arg 0 1) (imageParse b)) (h.captured hb)), Dev.image_setImage]
  · obtain ⟨i, hi, rfl⟩ := List.getElem_of_mem hx
    have hchk : badDesc (64 + 8 * i) (!bundleOk (imageParse b).bundles[i]) ∈ imageChecks b :=
      List.mem_append_right _ (List.mem_map.2 ⟨((imageParse b).bundles[i], i), List.mk_mem_zipIdx_iff_getElem?.2 (List.getElem?_eq_getElem hi), rfl⟩)
    have hgood := h.bytes hb hchk (by simp [badDesc, checkOrder])
    simpa [badDesc] using hgood

theorem Accepts.garnetUnload (h : Accepts garnetUnloadSpec c s) (k : Nat) :
    (runCmd garnetUnloadSpec c s).dev.image k = if k = c.arg 0 1 then {} else s.dev.image k := by
  rw [Dev.image_congr (h.garnet (x := s.dev.setImage (c.arg 0 1) {}) rfl), Dev.image_setImage]

/-! ### Commands held for a boundary a millisecond away (R498, R500) -/

/-- A command that passes its checks fails none of them. -/
theorem OpSpec.judged_check (hv : o.judged c s = none) {y : Chk} (hy : y ∈ o.checks c s) (hs : y.st ∈ checkOrder) : y.bad = false := by
  obtain ⟨l, hl, -⟩ := OpSpec.judged_bytes hv
  rw [OpSpec.judged, hl] at hv
  by_contra hbad
  exact (firstFail_none _).1 hv y (by simp [hy]) (by simpa using hbad) hs

theorem runCmd_garnetHeld (hready : s.ready = true) (hjoin : s.dev.joined = false) (hroom : c.dated = true → s.dev.datedPending < 8192) (hv : o.judged c s = none)
    (hop : o.opcode = 0x0802 ∨ o.opcode = 0x0805) (hatOnce : o.atOnce = false) :
    ∃ l, o.capture c s.dev = some l ∧ s.dev.now + msT ≤ (s.dev.effectTime (o.token c s)).1 ∧
      runCmd o c s = s.setDev (s.dev.holdCommand ⟨o.token c s, (s.dev.effectTime (o.token c s)).1, (s.dev.effectTime (o.token c s)).2, l⟩) := by
  obtain ⟨l, hl, -, hrun⟩ := runCmd_taken hready hroom hv
  have htold : s.told (o.token c s) l = s := by
    unfold State.told
    rw [hjoin]
    rfl
  have hdue : s.dev.now + msT ≤ (s.dev.effectTime (o.token c s)).1 := by
    have hk : (o.token c s).opcode = 0x0802 ∨ (o.token c s).opcode = 0x0805 := hop
    unfold Dev.effectTime
    dsimp only
    rw [if_pos hk]
    exact (Nat.le_max_right _ _).trans ((epochCeil_ge _).trans (Nat.le_max_left _ _))
  have hlater : ¬ (s.dev.effectTime (o.token c s)).1 ≤ s.dev.now := fun hle => by
    have hlt : s.dev.now < s.dev.now + msT := Nat.lt_add_of_pos_right (by decide)
    exact absurd (Nat.le_trans hdue hle) (Nat.not_le.2 hlt)
  have hacts : o.actsNow (o.token c s) (s.told (o.token c s) l).dev = none := by
    rw [htold, OpSpec.actsNow, if_neg (by rw [hatOnce]; exact Bool.false_ne_true)]
    dsimp only
    rw [if_neg (by simp [hlater])]
  have hheld := State.takeOn_held hacts (by rintro (h1 | h1) <;> rcases hop with h2 | h2 <;> exact absurd (h1.symm.trans h2) (by decide))
  rw [htold] at hheld
  exact ⟨l, hl, hdue, hrun.trans hheld⟩

/-- Such a command leaves the units. -/
theorem unitsKept_held (a : Accepted) (hc : a.tok.computes = false) :
    UnitsKept s (s.setDev (s.dev.holdCommand a)) ∧ (s.setDev (s.dev.holdCommand a)).dev.ctl.accepted = s.dev.ctl.accepted ++ [a] := by
  have hd : s.dev.holdCommand a = { s.dev with ctl := { s.dev.ctl with accepted := s.dev.ctl.accepted ++ [a] } } := by
    simp [Dev.holdCommand, hc]
  rw [hd]
  exact ⟨rfl, rfl⟩

/-! ### Inserts (R498 to R509) -/

theorem Dev.settleCalls_idle (h : ∀ n, (d.ins n).due = false) : d.settleCalls = d := by
  have hone : ∀ n, d.callNow n = d := fun n => by
    simp [Dev.callNow, h n]
  unfold Dev.settleCalls
  generalize d.inserts.map (fun e => e.1) = l
  induction l with
  | nil => rfl
  | cons n t ih => rw [List.foldl_cons, hone, ih]

/-- A core whose memory is written with zeros from `base` on. -/
def Dev.clearState (d : Dev) (k base n : Nat) : Dev := d.setGcore k { d.gcore k with mem := (List.range n).foldl (fun m i => tabPutD 0 m (base + i) 0) (d.gcore k).mem }

theorem insertOpen_run (s : State) (c : HostCmd) (l : List Byte) (k : Token) :
    insertOpenSpec.run c l k s =
      (s.setDev ((s.dev.settleCalls.clearState (16 * c.arg 2 1 + c.arg 3 1) (openInsert c s.dev.settleCalls).stateBase (c.arg 6 2)).setIns (c.arg 0 1) (openInsert c s.dev.settleCalls)),
        .done .ok 0 (fmk 0 16 (openInsert c s.dev.settleCalls).stateBase ||| fmk 16 16 (openInsert c s.dev.settleCalls).coefBase)) := rfl

theorem insertOpen_effect (s : State) (c : HostCmd) (l : List Byte) (k : Token) :
    ∃ u, insertOpenSpec.run c l k s = (u, .done .ok 0 (fmk 0 16 (openInsert c s.dev.settleCalls).stateBase ||| fmk 16 16 (openInsert c s.dev.settleCalls).coefBase)) ∧
      u.dev.ins (c.arg 0 1) = openInsert c s.dev.settleCalls ∧
      (∀ i, i < c.arg 6 2 → tabGetD 0 (u.dev.gcore (16 * c.arg 2 1 + c.arg 3 1)).mem ((openInsert c s.dev.settleCalls).stateBase + i) = 0) ∧
      (∀ k, k ≠ c.arg 0 1 → u.dev.ins k = s.dev.settleCalls.ins k) ∧ ∀ k, k ≠ 16 * c.arg 2 1 + c.arg 3 1 → u.dev.gcore k = s.dev.settleCalls.gcore k := by
  refine ⟨_, insertOpen_run s c l k, ?_, fun i hi => ?_, fun j hj => ?_, fun j hj => ?_⟩
  · exact (Dev.ins_setIns _ _ _ _).trans (if_pos rfl)
  · have hcore : (Dev.setIns (s.dev.settleCalls.clearState (16 * c.arg 2 1 + c.arg 3 1) (openInsert c s.dev.settleCalls).stateBase (c.arg 6 2)) (c.arg 0 1)
        (openInsert c s.dev.settleCalls)).gcore (16 * c.arg 2 1 + c.arg 3 1) = _ := (Dev.gcore_setGcore _ _ _ _).trans (if_pos rfl)
    rw [State.setDev_dev, hcore, tabGetD_putRun, if_pos (by omega)]
  · exact (Dev.ins_setIns _ _ _ _).trans (if_neg hj)
  · exact (Dev.gcore_setGcore _ _ _ _).trans (if_neg hj)

/-- A command that writes one insert, once the calls of the block are finished. -/
theorem Accepts.oneInsert {i : Nat} {y : Insert} (h : Accepts o c s) (he : o.effect c s = (s.setDev (x.setIns i y), .done .ok n v)) (hx : x.garnet.inserts = s.dev.settleCalls.garnet.inserts) :
    (runCmd o c s).dev.ins i = y ∧ ∀ k, k ≠ i → (runCmd o c s).dev.ins k = s.dev.settleCalls.ins k := by
  have hins := Dev.ins_congr (h.garnet he)
  refine ⟨?_, fun k hk => ?_⟩
  · rw [hins, Dev.ins_setIns, if_pos rfl]
  · rw [hins, Dev.ins_setIns, if_neg hk, Dev.ins, hx, Dev.ins]

/-- The insert that INSERT_PARAM leaves. -/
def Insert.params (x : Insert) (c : HostCmd) : Insert :=
  { x with
    param := (List.range (c.arg 2 1)).foldl (fun p i => setNth p (c.arg 1 1 + i) (BitVec.ofNat 64 (c.arg (8 + 8 * i) 8))) x.param
    paramChanged := true
    satTold := false }

theorem Accepts.insertParam (h : Accepts insertParamSpec c s) (hlen : (s.dev.settleCalls.ins (c.arg 0 1)).param.length = 64) :
    ∃ u, exec (.insertParam c) s = .next u ∧ (u.dev.ins (c.arg 0 1)).paramChanged = true ∧ (u.dev.ins (c.arg 0 1)).satTold = false ∧
      (u.dev.ins (c.arg 0 1)).state = (s.dev.settleCalls.ins (c.arg 0 1)).state ∧
      (∀ i, i < 64 → nthD 0 (u.dev.ins (c.arg 0 1)).param i =
        if c.arg 1 1 ≤ i ∧ i < c.arg 1 1 + c.arg 2 1 then BitVec.ofNat 64 (c.arg (8 + 8 * (i - c.arg 1 1)) 8) else nthD 0 (s.dev.settleCalls.ins (c.arg 0 1)).param i) ∧
      ∀ k, k ≠ c.arg 0 1 → u.dev.ins k = s.dev.settleCalls.ins k := by
  have hfit : c.arg 1 1 + c.arg 2 1 ≤ 64 := by
    have hbad := h.badArg (k := 2) (b := c.arg 2 1 == 0 || decide (4 < c.arg 2 1) || decide (64 < c.arg 1 1 + c.arg 2 1)) (.tail _ (.head _))
    simp only [Bool.or_eq_false_iff, decide_eq_false_iff_not] at hbad
    exact Nat.not_lt.1 hbad.2
  obtain ⟨hself, hothers⟩ := h.oneInsert (i := c.arg 0 1) (y := (s.dev.settleCalls.ins (c.arg 0 1)).params c) (x := s.dev.settleCalls) rfl rfl
  have hparam := (nthD_putRun 0 (s.dev.settleCalls.ins (c.arg 0 1)).param (c.arg 1 1) (c.arg 2 1) (fun i => BitVec.ofNat 64 (c.arg (8 + 8 * i) 8)) (by omega)).2
  refine ⟨_, rfl, ?_, ?_, ?_, fun i _ => ?_, hothers⟩
  · rw [hself]; rfl
  · rw [hself]; rfl
  · rw [hself]; rfl
  · rw [hself]; exact hparam i

/-- What INSERT_COEF makes of the device. -/
def Dev.coefPut (d : Dev) (c : HostCmd) (l : List Byte) : Dev :=
  let x := d.ins (c.arg 0 1)
  let m := (List.range (c.arg 4 2)).foldl (fun m i => tabPutD 0 m (16384 * x.cluster + (x.coefBase - 0x4000) + c.arg 2 2 + i) (BitVec.ofNat 64 (leAt l (8 * i) 8))) d.garnet.coef
  ({ d with garnet := { d.garnet with coef := m } } : Dev).setIns (c.arg 0 1) { x with coefChanged := true }

theorem insertCoef_effect (s : State) (c : HostCmd) (b : List Byte) (k : Token) :
    ∃ u, insertCoefSpec.run c b k s = (u, .done .ok 0 u.dev.short) ∧ (u.dev.ins (c.arg 0 1)).coefChanged = true ∧
      (∀ i, i < c.arg 4 2 → tabGetD 0 u.dev.garnet.coef (16384 * (s.dev.settleCalls.ins (c.arg 0 1)).cluster + ((s.dev.settleCalls.ins (c.arg 0 1)).coefBase - 0x4000) + c.arg 2 2 + i) =
        BitVec.ofNat 64 (leAt b (8 * i) 8)) ∧
      (∀ a, (∀ i, i < c.arg 4 2 → a ≠ 16384 * (s.dev.settleCalls.ins (c.arg 0 1)).cluster + ((s.dev.settleCalls.ins (c.arg 0 1)).coefBase - 0x4000) + c.arg 2 2 + i) →
        tabGetD 0 u.dev.garnet.coef a = tabGetD 0 s.dev.settleCalls.garnet.coef a) := by
  have hrun : insertCoefSpec.run c b k s = (s.setDev (s.dev.settleCalls.coefPut c b), .done .ok 0 (s.dev.settleCalls.coefPut c b).short) := rfl
  have hcoef := fun a => tabGetD_putRun 0 s.dev.settleCalls.garnet.coef
    (16384 * (s.dev.settleCalls.ins (c.arg 0 1)).cluster + ((s.dev.settleCalls.ins (c.arg 0 1)).coefBase - 0x4000) + c.arg 2 2) (c.arg 4 2) (fun i => BitVec.ofNat 64 (leAt b (8 * i) 8)) a
  refine ⟨_, hrun, ?_, fun i hi => ?_, fun a ha => ?_⟩
  · exact congrArg Insert.coefChanged ((Dev.ins_setIns _ _ _ _).trans (if_pos rfl))
  · refine (hcoef _).trans ?_
    rw [if_pos (by omega), Nat.add_sub_cancel_left]
  · refine (hcoef a).trans (if_neg fun hin => ?_)
    exact ha (a - (16384 * (s.dev.settleCalls.ins (c.arg 0 1)).cluster + ((s.dev.settleCalls.ins (c.arg 0 1)).coefBase - 0x4000) + c.arg 2 2)) (by omega) (by omega)

/-! ### GARNET_SWAP, TASK_START and TASK_STOP (R514, R517, R520) -/

theorem Accepts.garnetSwap (h : Accepts garnetSwapSpec c s) :
    ∃ u m, exec (.garnetSwap c) s = .next u ∧ tabGetD none u.dev.garnet.moves (c.arg 0 1) = some m ∧ m.src = s.dev.gaUnit (c.arg 0 1) ∧
      m.at_ = blockAt (blockCeil (s.dev.now + msT)) ∧ s.dev.gaSpare m.dst = true ∧ (c.arg 1 1 ≠ 255 → m.dst = c.arg 1 1) ∧ u.dev.waiting 0x0809 (c.arg 0 1) = true ∧
      u.dev.garnet.map = s.dev.garnet.map := by
  obtain ⟨p, hp⟩ : ∃ p, p = if c.arg 1 1 = 255 then s.dev.gaSpares.headD 99 else c.arg 1 1 := ⟨_, rfl⟩
  have hspare : s.dev.gaSpare p = true := by
    by_cases h255 : c.arg 1 1 = 255
    · have hsome : (c.arg 1 1 == 255 && s.dev.gaSpares.isEmpty) = false :=
        h.check (x := noRes (c.arg 1 1 == 255 && s.dev.gaSpares.isEmpty)) (.tail _ (.tail _ (.tail _ (.tail _ (.head _))))) (by simp [noRes, checkOrder])
      rw [if_pos h255] at hp
      cases hl : s.dev.gaSpares with
      | nil => simp [h255, hl] at hsome
      | cons a t =>
        have hmem : a ∈ s.dev.gaSpares := by rw [hl]; exact .head _
        rw [hp, hl]
        exact (List.mem_filter.1 hmem).2
    · have hlt : (decide (33 ≤ c.arg 1 1) && c.arg 1 1 != 255) = false := h.badArg (k := 1) (.tail _ (.head _))
      have hfree : (decide (c.arg 1 1 < 33) && !s.dev.gaSpare (c.arg 1 1)) = false := h.conflicts (.tail _ (.tail _ (.head _)))
      have h33 : c.arg 1 1 < 33 := by simpa [h255] using hlt
      rw [if_neg h255] at hp
      simpa [hp, h33] using hfree
  have heff : garnetSwapSpec.effect c s = (s.setDev { s.dev with garnet := { s.dev.garnet with
      moves := tabPutD none s.dev.garnet.moves (c.arg 0 1) (some ⟨s.dev.gaUnit (c.arg 0 1), p, blockAt (blockCeil (s.dev.now + msT))⟩) } }, .later (c.arg 0 1) 0) := by
    rw [hp]
    rfl
  obtain ⟨e, hrun, ⟨w, hw⟩, hwait⟩ := h.laterDev heff
  refine ⟨_, ⟨s.dev.gaUnit (c.arg 0 1), p, blockAt (blockCeil (s.dev.now + msT))⟩, congrArg Host.Outcome.next hrun, ?_, rfl, rfl, hspare, fun h255 => ?_, hwait, ?_⟩
  · rw [State.setDev_dev, hw]
    exact (tabGetD_tabPutD _ _ _ _ _).trans (if_pos rfl)
  · rw [hp, if_neg h255]
  · rw [State.setDev_dev, hw]

/-- A task that starts on a core. -/
def Dev.taskCore (d : Dev) (c : HostCmd) : Core :=
  { task := true, taskImage := c.arg 2 1, taskEntry := nthD 0 (d.image (c.arg 2 1)).entries (c.arg 3 1), domain := c.arg 4 2
    pc := nthD 0 (d.image (c.arg 2 1)).entries (c.arg 3 1), mem := (d.gcore (16 * c.arg 0 1 + c.arg 1 1)).mem
    trapCode := (d.gcore (16 * c.arg 0 1 + c.arg 1 1)).trapCode, trapPc := (d.gcore (16 * c.arg 0 1 + c.arg 1 1)).trapPc
    lastSat := (d.gcore (16 * c.arg 0 1 + c.arg 1 1)).lastSat, irq := if (d.domain (c.arg 4 2)).waiting.isEmpty then 0 else 1 }

theorem Accepts.taskStart (h : Accepts taskStartSpec c s) :
    ∃ u, exec (.taskStart c) s = .next u ∧ (u.dev.gcore (16 * c.arg 0 1 + c.arg 1 1)).task = true ∧
      (u.dev.gcore (16 * c.arg 0 1 + c.arg 1 1)).pc = nthD 0 (s.dev.image (c.arg 2 1)).entries (c.arg 3 1) ∧ (u.dev.gcore (16 * c.arg 0 1 + c.arg 1 1)).domain = c.arg 4 2 ∧
      (u.dev.domain (c.arg 4 2)).bound = (s.dev.domain (c.arg 4 2)).bound ++ [16 * c.arg 0 1 + c.arg 1 1] ∧
      ∀ k, k ≠ 16 * c.arg 0 1 + c.arg 1 1 → u.dev.gcore k = s.dev.gcore k := by
  obtain ⟨e, hu, hdone⟩ := h.doneDev (d := (s.dev.setGcore (16 * c.arg 0 1 + c.arg 1 1) (s.dev.taskCore c)).setDomain (c.arg 4 2)
    { s.dev.domain (c.arg 4 2) with bound := (s.dev.domain (c.arg 4 2)).bound ++ [16 * c.arg 0 1 + c.arg 1 1] }) rfl
  have hcore : ∀ k, e.gcore k = if k = 16 * c.arg 0 1 + c.arg 1 1 then s.dev.taskCore c else s.dev.gcore k := fun k =>
    (Dev.gcore_congr hdone.garnet k).trans (Dev.gcore_setGcore _ _ _ _)
  refine ⟨_, congrArg Host.Outcome.next hu, ?_⟩
  rw [State.setDev_dev, hcore, if_pos rfl]
  refine ⟨rfl, rfl, rfl, ?_, fun k hk => (hcore k).trans (if_neg hk)⟩
  rw [hdone.domain, Dev.domain_setDomain, if_pos rfl]

theorem Accepts.taskStop (h : Accepts taskStopSpec c s) :
    ∃ u, exec (.taskStop c) s = .next u ∧ u.dev.waiting 0x080B (16 * c.arg 0 1 + c.arg 1 1) = true ∧
      u.dev.gcore (16 * c.arg 0 1 + c.arg 1 1) = { s.dev.gcore (16 * c.arg 0 1 + c.arg 1 1) with stopping := true } ∧
      ∀ k, k ≠ 16 * c.arg 0 1 + c.arg 1 1 → u.dev.gcore k = s.dev.gcore k := by
  obtain ⟨e, hrun, ⟨w, hw⟩, hwait⟩ := h.laterDev (d := s.dev.setGcore (16 * c.arg 0 1 + c.arg 1 1) { s.dev.gcore (16 * c.arg 0 1 + c.arg 1 1) with stopping := true }) rfl
  have hcore := Dev.gcore_congr (d := s.dev.setGcore (16 * c.arg 0 1 + c.arg 1 1) { s.dev.gcore (16 * c.arg 0 1 + c.arg 1 1) with stopping := true }) (e := e) (by rw [hw])
  refine ⟨_, congrArg Host.Outcome.next hrun, hwait, ?_, fun k hk => ?_⟩
  · rw [State.setDev_dev, hcore, Dev.gcore_setGcore, if_pos rfl]
  · rw [State.setDev_dev, hcore, Dev.gcore_setGcore, if_neg hk]

theorem garnetCommands : GarnetCommands := by
  intro s c
  refine ⟨fun h => ?_, fun h => ?_, fun hready hjoin hroom hv => ?_, fun l k => insertOpen_effect s c l k, fun h => ?_, fun h hlen => h.insertParam hlen,
    fun hready hjoin hroom hv => ?_, fun b k => insertCoef_effect s c b k, fun h => ?_, fun h => ?_, fun h => ?_, fun h => h.garnetSwap, fun h => h.taskStart, fun h => h.taskStop,
    Dev.settleCalls_idle⟩
  · obtain ⟨b, hb, himage, hok⟩ := h.garnetLoad
    refine ⟨_, b, rfl, hb, (himage _).trans (if_pos rfl), ?_, fun k hk => (himage k).trans (if_neg hk)⟩
    rw [himage, if_pos rfl]
    exact hok
  · exact ⟨_, rfl, (h.garnetUnload _).trans (if_pos rfl), fun k hk => (h.garnetUnload k).trans (if_neg hk)⟩
  · obtain ⟨l, hl, hdue, hrun⟩ := runCmd_garnetHeld hready hjoin hroom hv (Or.inl rfl) rfl
    cases (Option.some.inj hl : [] = l)
    obtain ⟨hkept, hacc⟩ := unitsKept_held (s := s) ⟨insertOpenSpec.token c s, (s.dev.effectTime (insertOpenSpec.token c s)).1, (s.dev.effectTime (insertOpenSpec.token c s)).2, []⟩ rfl
    exact ⟨_, congrArg Host.Outcome.next hrun, hkept, hdue, hacc⟩
  · obtain ⟨hself, hothers⟩ := h.oneInsert (i := c.arg 0 1) (y := {}) (x := s.dev.settleCalls) rfl rfl
    exact ⟨_, rfl, hself, hothers⟩
  · obtain ⟨l, hl, hdue, hrun⟩ := runCmd_garnetHeld hready hjoin hroom hv (Or.inr rfl) rfl
    have hfit : c.arg 4 2 ≤ 16384 := by
      have hbad := OpSpec.judged_check hv (List.mem_cons_of_mem _ (List.mem_cons_self ..)) (by simp [badArg, checkOrder])
      simp only [badArg, Bool.or_eq_false_iff, decide_eq_false_iff_not] at hbad
      exact Nat.not_lt.1 hbad.1.2
    have hcap : capturePinned s.dev 0 (c.arg 8 8) (8 * c.arg 4 2) = some l := by
      rw [← Nat.min_eq_right hfit]
      exact hl
    obtain ⟨hkept, hacc⟩ := unitsKept_held (s := s) ⟨insertCoefSpec.token c s, (s.dev.effectTime (insertCoefSpec.token c s)).1, (s.dev.effectTime (insertCoefSpec.token c s)).2, l⟩ rfl
    exact ⟨_, l, congrArg Host.Outcome.next hrun, hkept, hcap, hdue, hacc⟩
  · obtain ⟨hself, hothers⟩ := h.oneInsert (i := c.arg 0 1)
      (y := { s.dev.settleCalls.ins (c.arg 0 1) with state := if c.arg 1 1 = 1 then .bypassed else .running, fading := true }) (x := s.dev.settleCalls) rfl rfl
    exact ⟨_, rfl, hself, hothers⟩
  · obtain ⟨hself, hothers⟩ := h.oneInsert (i := c.arg 0 1) (y := { s.dev.settleCalls.ins (c.arg 0 1) with state := .running, first := true, overrun := false, satTold := false })
      (x := s.dev.settleCalls.clearState (16 * (s.dev.settleCalls.ins (c.arg 0 1)).cluster + (s.dev.settleCalls.ins (c.arg 0 1)).core)
        (s.dev.settleCalls.ins (c.arg 0 1)).stateBase (s.dev.settleCalls.ins (c.arg 0 1)).stateWords) rfl rfl
    exact ⟨_, rfl, hself, hothers⟩
  · obtain ⟨u, hu, hkept, hout, -⟩ := h.query (n := insCode (s.dev.ins (c.arg 0 1)).state) rfl
    have hcode : insCode (s.dev.ins (c.arg 0 1)).state < 65536 := by
      cases (s.dev.ins (c.arg 0 1)).state <;> decide
    rw [Nat.mod_eq_of_lt hcode] at hout
    exact ⟨u, congrArg Host.Outcome.next hu, hkept, hout⟩

end Sys2Proof.Machine
end

section
/-! Clusters that pass from one unit to another (R519 to R521): O33. -/

namespace Sys2Proof.Machine
open Sys2Proof

variable {s : State} {d e : Dev} {k l p n : Nat}

theorem Dev.gaUnit_congr (h : e.garnet = d.garnet) (l : Nat) : e.gaUnit l = d.gaUnit l := by rw [Dev.gaUnit, h, Dev.gaUnit]

theorem pgGarnet_inj {p q : Nat} (h : pgGarnet p = pgGarnet q) : p = q := by
  unfold pgGarnet at h
  omega

/-- An event of a GARNET page keeps the state of every page. -/
theorem Dev.state_gaEvent (d : Dev) (p b x y q : Nat) : ((d.gaEvent p b x y).page q).state = (d.page q).state := by
  unfold Dev.gaEvent
  split
  · exact Dev.state_raise _ _ _ _ _ _ _ _
  · rfl

theorem Dev.gaEvent_bit (d : Dev) {p b : Nat} (x y : Nat) (hp : p < 33) (hb : b < 48) : ((d.gaEvent p b x y).page (pgGarnet p)).event.getLsbD b = true := by
  rw [Dev.gaEvent, if_pos hp]
  exact Dev.raise_bit _ _ _ _ _ _ _ hb

/-- What a move makes of the clusters: the map, the move that waited and the cluster's zeros. -/
def Garnet.moved (g : Garnet) (l p : Nat) : Garnet :=
  { g with map := setNth g.map l p, moves := tabPutD none g.moves l none, dead := g.dead.filter (fun e => e.1 != l) }

theorem Dev.garnet_gaMove (d : Dev) (l p : Nat) : (d.gaMove l p).garnet = d.garnet.moved l p := by
  unfold Dev.gaMove
  extract_lets old g d1 d2
  have hpage : d1.Noted d2 := .ite (d1.onPage_noted _ _) (.refl d1)
  exact (hpage.trans ((d2.gaEvent_noted _ _ _ _).trans (Dev.gaEvent_noted _ _ _ _ _))).garnet

/-- The unit that served is ISOLATED, or stays FAULTED; no other page changes its state. -/
theorem Dev.state_gaMove (d : Dev) (l p q : Nat) (hold : d.gaUnit l < 33) :
    ((d.gaMove l p).page q).state =
      if q = pgGarnet (d.gaUnit l) then (if (d.page q).state = .faulted then .faulted else .isolated) else (d.page q).state := by
  unfold Dev.gaMove
  extract_lets old g d1 d2
  rw [Dev.state_gaEvent, Dev.state_gaEvent]
  have hd2 : d2 = d1.onPage (pgGarnet (d.gaUnit l)) (fun h => { h with isolate := true, state := if h.state = .faulted then .faulted else .isolated }) := if_pos hold
  rw [hd2, Dev.page_onPage]
  split
  · rename_i hq
    rw [hq]
    rfl
  · rfl

theorem Dev.gaMove_event (d : Dev) (l : Nat) (hp : p < 33) : ((d.gaMove l p).page (pgGarnet p)).event.getLsbD 4 = true :=
  Dev.gaEvent_bit _ _ _ hp (by decide)

theorem Dev.gaUnit_moved (d : Dev) (h : e.garnet = d.garnet.moved l p) (hl : l < d.garnet.map.length) (j : Nat) :
    e.gaUnit j = if j = l then p else d.gaUnit j := by
  rw [Dev.gaUnit, h]
  exact nthD_setNth _ _ _ hl

theorem Dev.gaDead_moved (d : Dev) (h : e.garnet = d.garnet.moved l p) : e.gaDead l = false := by
  rw [Dev.gaDead, h]
  simp [Garnet.moved]

/-! ### GARNET_SWAP_SWITCH (R520) -/

theorem Dev.gaSwitch_waits (d : Dev) (h : tabGetD none d.garnet.moves l = none ∨ ∃ m, tabGetD none d.garnet.moves l = some m ∧ d.now < m.at_) : d.gaSwitch l = d := by
  unfold Dev.gaSwitch
  obtain hn | ⟨m, hm, hlt⟩ := h
  · rw [hn]
  · rw [hm]
    exact if_pos hlt

theorem Dev.gaSwitch_moves (d : Dev) {m : GMove} (hm : tabGetD none d.garnet.moves l = some m) (hat : m.at_ ≤ d.now) :
    d.gaSwitch l = (d.gaMove l m.dst).finish 0x0809 l .ok m.dst d.short := by
  unfold Dev.gaSwitch
  rw [hm]
  exact if_neg (Nat.not_lt.2 hat)

theorem Dev.gaSwitch_spec (d : Dev) {m : GMove} (hl : l < 32) (hmap : d.garnet.map.length = 32) (hm : tabGetD none d.garnet.moves l = some m) (hat : m.at_ ≤ d.now)
    (hdst : m.dst ≠ d.gaUnit l) (hp : m.dst < 33) (hold : d.gaUnit l < 33) :
    (d.gaSwitch l).gaUnit l = m.dst ∧ (∀ j, j ≠ l → (d.gaSwitch l).gaUnit j = d.gaUnit j) ∧ tabGetD none (d.gaSwitch l).garnet.moves l = none ∧ (d.gaSwitch l).waiting 0x0809 l = false ∧
      (((d.gaSwitch l).page (pgGarnet (d.gaUnit l))).state = .isolated ∨ ((d.gaSwitch l).page (pgGarnet (d.gaUnit l))).state = .faulted) ∧
      ((d.gaSwitch l).page (pgGarnet m.dst)).state = (d.page (pgGarnet m.dst)).state ∧ ((d.gaSwitch l).page (pgGarnet m.dst)).event.getLsbD 4 = true ∧
      (d.gaSwitch l).garnet.cores = d.garnet.cores ∧ (d.gaSwitch l).garnet.inserts = d.garnet.inserts := by
  rw [d.gaSwitch_moves hm hat]
  have hdone := (d.gaMove l m.dst).finish_completed 0x0809 l .ok m.dst d.short
  have hgarnet := hdone.garnet.trans (d.garnet_gaMove l m.dst)
  have hunit := Dev.gaUnit_moved d hgarnet (by omega)
  have hpage := fun q => hdone.page q
  refine ⟨(hunit l).trans (if_pos rfl), fun j hj => (hunit j).trans (if_neg hj), ?_, Dev.waiting_finish _ _ _ _ _ _, ?_, ?_, ?_, (congrArg Garnet.cores hgarnet).trans rfl,
    (congrArg Garnet.inserts hgarnet).trans rfl⟩
  · rw [hgarnet]
    exact (tabGetD_tabPutD _ _ _ _ _).trans (if_pos rfl)
  · rw [hpage]
    have hst := d.state_gaMove l m.dst (pgGarnet (d.gaUnit l)) hold
    rw [if_pos rfl] at hst
    have hst' : ((d.gaMove l m.dst).page (pgGarnet (d.gaUnit l))).state = _ := hst
    split at hst'
    · exact Or.inr hst'
    · exact Or.inl hst'
  · rw [hpage]
    exact (d.state_gaMove l m.dst _ hold).trans (if_neg fun hq => hdst (pgGarnet_inj hq))
  · rw [hpage]
    exact d.gaMove_event l hp

/-! ### ECC_FATAL and GARNET_FAULT_MOVE (R521) -/

theorem Dev.eccFatal_other (d : Dev) (h : ∀ j, d.gaLogical p = some j → 24 ≤ j) : d.eccFatal p = d := by
  unfold Dev.eccFatal
  split
  · rfl
  · rename_i j hj
    exact if_pos (h j hj)

theorem Dev.eccFatal_spec (d : Dev) (h : d.gaLogical p = some l) (hp : p < 33) (hl : l < 24) :
    ((d.eccFatal p).page (pgGarnet p)).state = .faulted ∧ (d.eccFatal p).gaDead l = true ∧ ((d.eccFatal p).page (pgGarnet p)).event.getLsbD 5 = true ∧
      (d.eccFatal p).garnet.map = d.garnet.map := by
  obtain ⟨x, hx⟩ : ∃ x : Dev, x = { d.onPage (pgGarnet p) (fun h => { h with state := .faulted }) with
      garnet := { d.garnet with dead := if d.gaDead l then d.garnet.dead else d.garnet.dead ++ [(l, d.clk.nextBlock)] } } := ⟨_, rfl⟩
  have hd : d.eccFatal p = x.gaEvent p 5 l 0 := by
    unfold Dev.eccFatal
    simp only [h]
    rw [if_neg (by omega), hx]
    rfl
  have hgarnet := (x.gaEvent_noted p 5 l 0).garnet
  have hpage : (x.page (pgGarnet p)).state = .faulted := by
    have hon : x.page (pgGarnet p) = (d.onPage (pgGarnet p) (fun h => { h with state := .faulted })).page (pgGarnet p) := by rw [hx]; rfl
    rw [hon, Dev.page_onPage, if_pos rfl]
  rw [hd]
  refine ⟨(Dev.state_gaEvent _ _ _ _ _ _).trans hpage, ?_, Dev.gaEvent_bit _ _ _ hp (by decide), ?_⟩
  · rw [Dev.gaDead, hgarnet, hx]
    dsimp only
    split
    · assumption
    · simp
  · rw [hgarnet, hx]

theorem Dev.gaFaultMove_alive (d : Dev) (h : d.gaDead l = false) : d.gaFaultMove l = d := by
  have hnone : d.garnet.dead.any (fun e => e.1 == l && e.2 + 1 == d.clk.nextBlock) = false := by
    rw [List.any_eq_false]
    intro e he
    have hne := List.any_eq_false.1 h e he
    simp only [Bool.and_eq_true, not_and]
    exact fun heq => absurd heq hne
  unfold Dev.gaFaultMove
  split
  · rfl
  · exact if_neg fun hall => by rw [hnone] at hall; exact Bool.false_ne_true hall.2.1

theorem Dev.gaFaultMove_spec (d : Dev) {rest : List Nat} (hl : l < 32) (hs : d.gaSpares = p :: rest)
    (hdead : d.garnet.dead.any (fun e => e.1 == l && e.2 + 1 == d.clk.nextBlock) = true) (hold : d.gaUnit l < 33) (hst : (d.page (pgGarnet (d.gaUnit l))).state = .faulted) :
    d.gaFaultMove l = d.gaMove l p := by
  unfold Dev.gaFaultMove
  rw [hs]
  exact if_pos ⟨hl, hdead, hold, hst⟩

theorem garnetMoves : GarnetMoves := by
  intro s l h
  have hswitch : exec (.garnetSwapSwitch l) s = .next (s.setDev (s.dev.gaSwitch l)) := exec_actReady (f := fun d => d.gaSwitch l) rfl h
  have hmove : exec (.garnetFaultMove l) s = .next (s.setDev (s.dev.gaFaultMove l)) := exec_actReady (f := fun d => d.gaFaultMove l) rfl h
  have hfatal : ∀ p, exec (.eccFatal p) s = .next (s.setDev (s.dev.eccFatal p)) := fun p => exec_actReady (f := fun d => d.eccFatal p) rfl h
  refine ⟨hswitch, hmove, hfatal l, s.dev.gaSwitch_waits, s.dev.gaFaultMove_alive, s.dev.eccFatal_other, fun hl hmap => ⟨fun m hm hat hdst hp hold => ?_, fun p hp h33 h24 => ?_,
    fun p rest hs hdead hold hst => ?_⟩⟩
  · exact ⟨_, hswitch, s.dev.gaSwitch_spec hl hmap hm hat hdst hp hold⟩
  · exact ⟨_, hfatal p, s.dev.eccFatal_spec hp h33 h24⟩
  · have hgarnet := s.dev.garnet_gaMove l p
    have hunit := Dev.gaUnit_moved s.dev hgarnet (by omega)
    refine ⟨_, hmove, ?_⟩
    rw [State.setDev_dev, s.dev.gaFaultMove_spec hl hs hdead hold hst]
    refine ⟨(hunit l).trans (if_pos rfl), fun j hj => (hunit j).trans (if_neg hj), Dev.gaDead_moved s.dev hgarnet, ?_⟩
    rw [s.dev.state_gaMove l p _ hold, if_pos rfl, if_pos hst]

/-- Settles O33: an accepted command changes its image, insert, core or cluster alone, and a cluster passes to the new unit alone. -/
theorem garnetControl : Obligations.GarnetControl := ⟨garnetCommands, garnetMoves⟩

end Sys2Proof.Machine
end

section
/-! What the start of an image and the lanes of a pair leave alone: the rules that O50 uses. -/

namespace Sys2Proof.Machine
open Sys2Proof

variable {s : State} {d e f : Dev} {a : AlwaysOn} {b c : Nat}

/-! ### Banks of the flash -/

theorem AlwaysOn.bank_setBank (a : AlwaysOn) (hb : b < 2) (hc : c < 2) (x : Bank) : (a.setBank b x).bank c = if c = b then x else a.bank c := by
  interval_cases b <;> interval_cases c <;> rfl

theorem AlwaysOn.bank_toBank (a : AlwaysOn) (hb : b < 2) (hc : c < 2) (st : BankState) :
    (a.toBank b st).bank c = if c = b then { a.bank b with state := st } else a.bank c := a.bank_setBank hb hc _

theorem AlwaysOn.findBank_some {st : BankState} (h : a.findBank st = some b) : b < 2 ∧ (a.bank b).state = st := by
  have hmem := List.mem_of_find?_eq_some h
  have hst := List.find?_some h
  simp only [List.mem_cons, List.not_mem_nil, or_false] at hmem
  exact ⟨by omega, of_decide_eq_true hst⟩

theorem AlwaysOn.findBank_congr {a a' : AlwaysOn} {st : BankState} (h : ∀ b, b < 2 → ((a'.bank b).state = st ↔ (a.bank b).state = st)) :
    a'.findBank st = a.findBank st := by
  simp only [AlwaysOn.findBank, List.find?_cons, List.find?_nil, h 0 (by decide), h 1 (by decide)]

/-- No bank changes but to leave one state for another, so the first bank of a third state is the same. -/
theorem AlwaysOn.findBank_toBank {st st' : BankState} (hb : b < 2) (hold : (a.bank b).state ≠ st) (hnew : st' ≠ st) : (a.toBank b st').findBank st = a.findBank st := by
  refine findBank_congr fun c hc => ?_
  rw [a.bank_toBank hb hc]
  split
  · rename_i hcb
    rw [hcb]
    exact iff_of_false hnew hold
  · rfl

/-! ### The lanes of the Mirror Link (R625) -/

/-- What the boot asks of the rest of the unit while lanes are powered. -/
structure Dev.LanesPowered (d e : Dev) : Prop where
  boot : e.boot = d.boot
  pair : e.pair = d.pair
  flint : e.flint = d.flint
  tests : e.obs.selfRun = d.obs.selfRun ∧ e.obs.selfFail = d.obs.selfFail
  counter : ∀ o, o < 4096 → e.counter pgBoot o = d.counter pgBoot o

theorem Dev.LanesPowered.refl (d : Dev) : d.LanesPowered d := ⟨rfl, rfl, rfl, ⟨rfl, rfl⟩, fun _ _ => rfl⟩

theorem Dev.LanesPowered.trans (h : d.LanesPowered e) (k : e.LanesPowered f) : d.LanesPowered f :=
  ⟨k.boot.trans h.boot, k.pair.trans h.pair, k.flint.trans h.flint, ⟨k.tests.1.trans h.tests.1, k.tests.2.trans h.tests.2⟩,
    fun o ho => (k.counter o ho).trans (h.counter o ho)⟩

theorem Dev.LanesPowered.ite {q : Prop} [Decidable q] (h : d.LanesPowered e) (k : d.LanesPowered f) : d.LanesPowered (if q then e else f) := by
  split
  · exact h
  · exact k

theorem Dev.lanesPowered_foldl {α : Type} (g : Dev → α → Dev) (hg : ∀ (d : Dev) (x : α), d.LanesPowered (g d x)) (l : List α) (d : Dev) : d.LanesPowered (l.foldl g d) := by
  induction l generalizing d with
  | nil => exact .refl d
  | cons x l ih => exact (hg d x).trans (ih _)

theorem Dev.lanesPowered_onPage (d : Dev) (p : Nat) (g : PageHdr → PageHdr) : d.LanesPowered (d.onPage p g) := ⟨rfl, rfl, rfl, ⟨rfl, rfl⟩, fun _ _ => rfl⟩
theorem Dev.lanesPowered_setReg (d : Dev) (p o : Nat) (v : Word) : d.LanesPowered (d.setReg p o v) := ⟨rfl, rfl, rfl, ⟨rfl, rfl⟩, fun _ _ => rfl⟩
theorem Dev.lanesPowered_onLane (d : Dev) (l : Nat) (g : Lane → Lane) : d.LanesPowered (d.onLane l g) := ⟨rfl, rfl, rfl, ⟨rfl, rfl⟩, fun _ _ => rfl⟩
theorem Dev.lanesPowered_onPlink (d : Dev) (u : Nat) (g : PortLink → PortLink) : d.LanesPowered (d.onPlink u g) := ⟨rfl, rfl, rfl, ⟨rfl, rfl⟩, fun _ _ => rfl⟩
theorem Dev.lanesPowered_emit (d : Dev) (x : Output) : d.LanesPowered (d.emit x) := ⟨rfl, rfl, rfl, ⟨rfl, rfl⟩, fun _ _ => rfl⟩

theorem Dev.tests_freeze (d : Dev) (x t sr k : Nat) : (d.freeze x t sr k).obs.selfRun = d.obs.selfRun ∧ (d.freeze x t sr k).obs.selfFail = d.obs.selfFail := by
  unfold Dev.freeze
  split
  · exact ⟨rfl, rfl⟩
  · exact ⟨rfl, rfl⟩

theorem Obs.tests_take (o : Obs) (r : Report) : (o.take r).selfRun = o.selfRun ∧ (o.take r).selfFail = o.selfFail := by
  unfold Obs.take
  dsimp only
  split_ifs
  · exact ⟨rfl, rfl⟩
  · exact ⟨rfl, rfl⟩
  · exact ⟨rfl, rfl⟩

/-- A report says nothing of the reset-time tests. -/
theorem Dev.tests_report (d : Dev) (r : Report) : (d.report r).obs.selfRun = d.obs.selfRun ∧ (d.report r).obs.selfFail = d.obs.selfFail := by
  unfold Dev.report
  extract_lets coal d1 d2 d3
  have hobs : d2.obs = d.obs := by
    change (if coal then _ else _ : Dev).obs = _
    split <;> rfl
  have htake : d3.obs.selfRun = d.obs.selfRun ∧ d3.obs.selfFail = d.obs.selfFail := by
    rw [← hobs]
    exact d2.obs.tests_take r
  split
  · exact ⟨(Dev.tests_freeze _ _ _ _ _).1.trans htake.1, (Dev.tests_freeze _ _ _ _ _).2.trans htake.2⟩
  · exact htake

theorem Dev.lanesPowered_report (d : Dev) (r : Report) : d.LanesPowered (d.report r) :=
  ⟨(d.report_noted r).boot, (d.report_noted r).pair, (d.report_noted r).flint, d.tests_report r, fun _ ho => d.counter_report r (by decide) ho⟩

theorem Dev.lanesPowered_raise (d : Dev) (p b i n : Nat) (x y : Word) : d.LanesPowered (d.raise p b i n x y) := by
  refine .trans ⟨(d.event_noted p b).boot, (d.event_noted p b).pair, (d.event_noted p b).flint, ?_, fun o _ => d.counter_event p b _ o⟩ (Dev.lanesPowered_report _ _)
  rw [d.obs_event]
  exact ⟨rfl, rfl⟩

theorem Dev.lanesPowered_inc (d : Dev) {p o : Nat} (hp : pgBoot ≠ p) (ho : o < 4096) : d.LanesPowered (d.inc p o) :=
  ⟨rfl, rfl, rfl, ⟨rfl, rfl⟩, fun _ hb => d.counter_inc_of_ne hb ho hp⟩

theorem Dev.othersWait_lanesPowered (d : Dev) (u : Nat) : d.LanesPowered (d.othersWait u) := by
  refine Dev.lanesPowered_foldl _ (fun d l => ?_) (lanesOf u) d
  exact ((d.lanesPowered_onLane _ _).trans (Dev.lanesPowered_raise _ _ _ _ _ _ _)).ite (.refl d)

theorem Dev.tellFault_lanesPowered (d : Dev) (u : Nat) : d.LanesPowered (d.tellFault u) := by
  unfold Dev.tellFault
  exact (Dev.LanesPowered.refl d).ite ((d.lanesPowered_onPlink u _).trans (Dev.lanesPowered_emit _ _))

theorem pgBoot_ne_pgPort (u : Nat) : pgBoot ≠ pgPort u := by
  unfold pgBoot pgPort
  omega

theorem Dev.plinkUpdate_lanesPowered (d : Dev) (u : Nat) : d.LanesPowered (d.plinkUpdate u) := by
  unfold Dev.plinkUpdate
  dsimp only
  refine (Dev.LanesPowered.refl d).ite (.ite ((d.lanesPowered_onPlink u _).trans (Dev.lanesPowered_report _ _)) ?_)
  have htell := fun g => (d.lanesPowered_onPlink u g).trans (Dev.tellFault_lanesPowered _ u)
  exact ((htell _).ite ((htell _).trans (Dev.lanesPowered_inc _ (pgBoot_ne_pgPort u) (by decide)))).trans (Dev.lanesPowered_raise _ _ _ _ _ _ _)

theorem Dev.moveLane_lanesPowered (d : Dev) (l : Nat) (g : Lane → Lane) (x : Word) : d.LanesPowered (d.moveLane l g x) := by
  have hdown := (d.lanesPowered_onLane l g).trans (Dev.lanesPowered_raise _ (pgQuad (l / 4)) (4 * (l % 4) + 1) (0x100 + l) (0x0B01 + 1) (fmk 0 64 (Train.linkUp).code) x)
  exact ((hdown.trans (Dev.othersWait_lanesPowered _ (unitOf l))).trans (Dev.plinkUpdate_lanesPowered _ (unitOf l))).ite (d.lanesPowered_onLane l g)

theorem Dev.repower_lanesPowered (d : Dev) (l : Nat) : d.LanesPowered (d.repower l) := by
  unfold Dev.repower
  refine .ite ((Dev.LanesPowered.refl d).ite (d.moveLane_lanesPowered _ _ _)) (.ite ((Dev.LanesPowered.refl d).ite (d.moveLane_lanesPowered _ _ _)) ?_)
  exact .ite ((Dev.LanesPowered.refl d).ite (d.moveLane_lanesPowered _ _ _)) ((d.lanesPowered_onLane l _).ite (.refl d))

theorem Dev.mirrorPower_lanesPowered (d : Dev) : d.LanesPowered d.mirrorPower := by
  unfold Dev.mirrorPower
  refine .trans ?_ (Dev.lanesPowered_foldl _ (fun d i => ?_) _ _)
  · exact (d.lanesPowered_onPage _ _).trans (Dev.lanesPowered_onPage _ _ _)
  · exact (d.lanesPowered_setReg _ _ _).trans (Dev.repower_lanesPowered _ _)

/-- The ROM in recovery mode: what it sets of the boot, the rest as before. -/
theorem Dev.enterRecovery_spec (d : Dev) (fell : Bool) :
    Dev.LanesPowered { d with boot := { d.boot with phase := .recovery, trying := none, fallback := d.boot.fallback || fell } } (d.enterRecovery fell) := by
  unfold Dev.enterRecovery
  exact (Dev.mirrorPower_lanesPowered _).ite (.refl _)

/-! ### An image that starts (Table 16-2) -/

/-- The boot's record of the image that runs: from `bank`, none for one placed in memory, and on `trial` or not. -/
def Boot.started (x : Boot) (bank : Option Nat) (trial : Bool) (l : List Byte) : Boot :=
  { x with phase := .role, update := match bank with | some _ => if trial then .trial else .idle | none => .hosted, runBank := bank.getD 0, version := imgVersion l,
           svn := imgSvn l, settingsFmt := imgSettings l, stateFmt := imgState l, revoke := imgRevoke l, keyIndex := imgKey l, image := l.take (imgLength l), trying := none,
           goImage := none, got := [], total := 0 }

/-- The image of a bank in TRIAL is on trial. -/
def AlwaysOn.onTrial (a : AlwaysOn) (bank : Option Nat) : Bool := match bank with | some k => decide ((a.bank k).state = .trial) | none => false

theorem Dev.refclkLost_kept (d : Dev) : d.refclkLost.boot = d.boot ∧ d.refclkLost.flint = d.flint := by
  unfold Dev.refclkLost
  split
  · exact ⟨rfl, rfl⟩
  · exact ⟨(Dev.raise_noted _ _ _ _ _ _ _).boot.trans rfl, (Dev.raise_noted _ _ _ _ _ _ _).flint.trans rfl⟩

/-- An image that starts: the boot's record of it, key slots erased, and of flash the format of the records alone. -/
theorem State.startImage_spec (s : State) (bank : Option Nat) (l : List Byte) :
    (s.startImage bank l).dev.boot = s.dev.boot.started bank (s.aon.onTrial bank) l ∧ (s.startImage bank l).dev.flint = s.dev.zeroAllSlots.flint ∧
      (s.startImage bank l).aon.bankA = s.aon.bankA ∧ (s.startImage bank l).aon.bankB = s.aon.bankB ∧ (s.startImage bank l).aon.counter = s.aon.counter ∧
      (s.startImage bank l).aon.ignoreRecovery = s.aon.ignoreRecovery := by
  unfold State.startImage
  extract_lets f trial g a d1 d2 d3 d4
  have ha : a.bankA = s.aon.bankA ∧ a.bankB = s.aon.bankB ∧ a.counter = s.aon.counter ∧ a.ignoreRecovery = s.aon.ignoreRecovery := by
    simp only [a]
    split_ifs
    · exact ⟨rfl, rfl, rfl, rfl⟩
    · exact ⟨rfl, rfl, rfl, rfl⟩
    · exact ⟨rfl, rfl, rfl, rfl⟩
  have h1 : d1.boot = s.dev.boot.started bank (s.aon.onTrial bank) l ∧ d1.flint = s.dev.zeroAllSlots.flint := ⟨rfl, rfl⟩
  have h3 : d3.boot = d1.boot ∧ d3.flint = d1.flint := by
    simp only [d3]
    split
    · exact ⟨rfl, rfl⟩
    · exact d2.refclkLost_kept
  have h4 : d4.boot = d3.boot ∧ d4.flint = d3.flint := by
    simp only [d4]
    split_ifs
    · exact ⟨d3.sendHello_linkDone.boot, d3.sendHello_linkDone.flint⟩
    · exact ⟨d3.mirrorPower_lanesPowered.boot, d3.mirrorPower_lanesPowered.flint⟩
    · exact ⟨rfl, rfl⟩
  exact ⟨h4.1.trans (h3.1.trans h1.1), h4.2.trans (h3.2.trans h1.2), ha⟩

end Sys2Proof.Machine
end

section
/-! Power, RESET_N and the ROM's choice of a bank (R749 to R764, R829 to R831): the first half of O50. -/

namespace Sys2Proof.Machine
open Sys2Proof

variable {s t u : State} {d e : Dev} {a : AlwaysOn} {b c : Nat}

/-! ### Power and RESET_N -/

theorem Dev.afterReset_frozen (d : Dev) (b : Bool) : (if b then d.emit (.frozen false) else d).afterReset.obs = {} ∧
    (if b then d.emit (.frozen false) else d).afterReset.flint = { keys := d.flint.keys } ∧ (if b then d.emit (.frozen false) else d).afterReset.mem = { host := d.mem.host } ∧
    (if b then d.emit (.frozen false) else d).afterReset.boot = {} ∧ (if b then d.emit (.frozen false) else d).afterReset.ctl.regs = [] ∧
    (if b then d.emit (.frozen false) else d).afterReset.ctl.counters = [] ∧ (if b then d.emit (.frozen false) else d).afterReset.ctl.pages = [] := by
  cases b
  · exact ⟨rfl, rfl, rfl, rfl, rfl, rfl, rfl⟩
  · exact ⟨rfl, rfl, rfl, rfl, rfl, rfl, rfl⟩

theorem State.resetLow_down (s : State) : s.resetLow.up = false := by
  simp [State.up, State.resetLow]

theorem State.slot_resetLow (s : State) (k : Nat) : s.resetLow.dev.slot k = s.dev.slot k := by
  obtain ⟨-, hflint, -⟩ := s.dev.afterReset_frozen s.dev.obs.frozen
  exact congrArg (fun x : Flint => tabGetD {} x.keys k) hflint

theorem State.kept_resetLow (s : State) : KeptForGood s s.resetLow := ⟨rfl, rfl, rfl, rfl, rfl, rfl, rfl, rfl⟩

theorem resetAssert_spec (s : State) : s.resetLow.up = false ∧ s.resetLow.dev.boot.phase = .rom ∧
    (∀ p o, s.resetLow.dev.reg p o = regReset (regKey p o) ∧ s.resetLow.dev.counter p o = 0) ∧ (∀ p, s.resetLow.dev.page p = pageDflt p) ∧
    (∀ k, s.resetLow.dev.slot k = s.dev.slot k) ∧ s.resetLow.dev.mem.host = s.dev.mem.host ∧ s.resetLow.dev.obs.frozen = false := by
  obtain ⟨hobs, -, hmem, hboot, hregs, hcounters, hpages⟩ := s.dev.afterReset_frozen s.dev.obs.frozen
  refine ⟨s.resetLow_down, congrArg Boot.phase hboot, fun p o => ⟨?_, ?_⟩, fun p => ?_, s.slot_resetLow, (congrArg Mem.host hmem :), congrArg Obs.frozen hobs⟩
  · exact congrArg (fun m => tabGet regReset m (regKey p o)) hregs
  · exact congrArg (fun m => tabGetD 0 m (regKey p o)) hcounters
  · exact congrArg (fun m => tabGet pageDflt m p) hpages

/-- VDD_AUX lost: what the always-on domain alone held is gone, flash, settings and OTP stay. -/
theorem State.auxLost_spec (s : State) : s.auxLost.aon.auxOn = false ∧ (∀ k, s.auxLost.dev.slot k = {} ∧ s.auxLost.dev.slotCtxs k = []) ∧ s.auxLost.aon.alarmLatch = false ∧
    s.auxLost.aon.alarmLock = false ∧ s.auxLost.aon.alarmEnable = 0x1F ∧ s.auxLost.aon.freeze = {} ∧ s.auxLost.aon.armed = 0 ∧ KeptForGood s s.auxLost := by
  refine ⟨rfl, fun k => ?_, rfl, rfl, rfl, rfl, rfl, rfl, rfl, rfl, rfl, rfl, rfl, rfl, rfl⟩
  unfold State.auxLost
  dsimp only
  split
  · exact ⟨rfl, rfl⟩
  · exact ⟨rfl, rfl⟩

theorem State.up_auxOff (h : s.aon.auxOn = false) : s.up = false := by simp [State.up, h]

theorem powerAndReset : PowerAndReset := by
  intro s
  obtain ⟨hdown, hphase, hzero, hpage, hslot, hhost, hfrozen⟩ := resetAssert_spec s
  refine ⟨⟨_, rfl, rfl, rfl, rfl, rfl, rfl, rfl, rfl, rfl, rfl, rfl, rfl⟩, ?_, ?_, ?_⟩
  · exact ⟨s.resetLow, rfl, hdown, hphase, hzero, hpage, hslot, hhost, rfl, rfl, rfl, hfrozen, s.kept_resetLow⟩
  · refine ⟨s.resetLow.onAon fun a => { a with railsOn := false }, rfl, ?_, hslot, rfl, rfl, s.kept_resetLow⟩
    simp [State.up, State.onAon]
  · obtain ⟨hoff, hgone, hlatch, hlock, henable, hfreeze, harmed, hkept⟩ := (s.resetLow.onAon fun a => { a with railsOn := false }).auxLost_spec
    exact ⟨_, rfl, State.up_auxOff hoff, hgone, hlatch, hlock, henable, hfreeze, harmed, hkept⟩

/-! ### The ROM's start -/

/-- What the ROM's choice of an image leaves alone. -/
structure State.RomChose (s t : State) : Prop where
  boot : t.dev.boot.bootSrc = s.dev.boot.bootSrc ∧ t.dev.boot.pairRole = s.dev.boot.pairRole ∧ t.dev.boot.lastRestart = s.dev.boot.lastRestart
  phase : t.dev.boot.phase ≠ .ready
  pair : t.dev.pair = s.dev.pair
  tests : t.dev.obs.selfRun = s.dev.obs.selfRun ∧ t.dev.obs.selfFail = s.dev.obs.selfFail
  aon : t.aon.resetHigh = s.aon.resetHigh ∧ t.aon.armed = s.aon.armed ∧ t.aon.counter = s.aon.counter

theorem AlwaysOn.setBank_kept (a : AlwaysOn) (b : Nat) (x : Bank) :
    (a.setBank b x).resetHigh = a.resetHigh ∧ (a.setBank b x).armed = a.armed ∧ (a.setBank b x).counter = a.counter := by
  unfold setBank
  split
  · exact ⟨rfl, rfl, rfl⟩
  · exact ⟨rfl, rfl, rfl⟩

theorem State.romChose_enterRecovery (s : State) (fell : Bool) : s.RomChose (s.setDev (s.dev.enterRecovery fell)) := by
  have h := s.dev.enterRecovery_spec fell
  refine ⟨?_, ?_, h.pair, h.tests, rfl, rfl, rfl⟩
  · rw [State.setDev_dev, h.boot]
    exact ⟨rfl, rfl, rfl⟩
  · rw [State.setDev_dev, h.boot]
    exact nofun

theorem State.romChose_tryBank (s : State) (b : Nat) (fell : Bool) : s.RomChose (s.tryBank b fell) :=
  ⟨⟨rfl, rfl, rfl⟩, nofun, rfl, ⟨rfl, rfl⟩, rfl, rfl, rfl⟩

/-- A bank changed before the choice. -/
theorem State.RomChose.ofBank {g : AlwaysOn → AlwaysOn} (h : (s.onAon g).RomChose t)
    (hg : (g s.aon).resetHigh = s.aon.resetHigh ∧ (g s.aon).armed = s.aon.armed ∧ (g s.aon).counter = s.aon.counter) : s.RomChose t :=
  ⟨h.boot, h.phase, h.pair, h.tests, h.aon.1.trans hg.1, h.aon.2.1.trans hg.2.1, h.aon.2.2.trans hg.2.2⟩

theorem State.romChose_chooseBank (s : State) : s.RomChose s.chooseBank := by
  unfold State.chooseBank
  split
  · next k _ =>
    refine .ofBank (g := fun a => a.toBank k .failed) ?_ (s.aon.setBank_kept _ _)
    dsimp only
    split
    · exact State.romChose_tryBank _ _ _
    · exact State.romChose_enterRecovery _ _
  · split
    · next k _ => exact .ofBank (g := fun a => a.toBank k .trial) (State.romChose_tryBank _ _ _) (s.aon.setBank_kept _ _)
    · split
      · exact State.romChose_tryBank _ _ _
      · exact State.romChose_enterRecovery _ _

/-- A bank left WRITING reads as EMPTY (Table 16-4). -/
def AlwaysOn.emptied (a : AlwaysOn) (l : List Nat) : AlwaysOn := l.foldl (fun (a : AlwaysOn) b => if (a.bank b).state = .writing then a.setBank b {} else a) a

theorem AlwaysOn.emptied_kept (l : List Nat) (a : AlwaysOn) : (a.emptied l).resetHigh = a.resetHigh ∧ (a.emptied l).armed = a.armed ∧ (a.emptied l).counter = a.counter := by
  induction l generalizing a with
  | nil => exact ⟨rfl, rfl, rfl⟩
  | cons b l ih =>
    have hone : (if (a.bank b).state = .writing then a.setBank b {} else a).resetHigh = a.resetHigh ∧ (if (a.bank b).state = .writing then a.setBank b {} else a).armed = a.armed ∧
        (if (a.bank b).state = .writing then a.setBank b {} else a).counter = a.counter := by
      split
      · exact a.setBank_kept b {}
      · exact ⟨rfl, rfl, rfl⟩
    have hrest := ih (if (a.bank b).state = .writing then a.setBank b {} else a)
    exact ⟨hrest.1.trans hone.1, hrest.2.1.trans hone.2.1, hrest.2.2.trans hone.2.2⟩

/-- The source of the image, once no bank reads WRITING (Table 16-1). -/
def State.romStart (s : State) : State :=
  if s.dev.boot.recovery && !s.aon.ignoreRecovery then s.setDev (s.dev.enterRecovery false)
  else if s.dev.boot.bootSrc = 1 then { s with dev := s.dev.onBoot (fun x => { x with phase := .load }) }
  else s.chooseBank

theorem State.bootStart_eq (s : State) : s.bootStart = (s.onAon fun a => a.emptied [0, 1]).romStart := rfl

theorem State.romChose_romStart (s : State) : s.RomChose s.romStart := by
  unfold State.romStart
  split
  · exact s.romChose_enterRecovery false
  · split
    · exact ⟨⟨rfl, rfl, rfl⟩, nofun, rfl, ⟨rfl, rfl⟩, rfl, rfl, rfl⟩
    · exact s.romChose_chooseBank

theorem State.romChose_bootStart (s : State) : s.RomChose s.bootStart :=
  .ofBank (g := fun a => a.emptied [0, 1]) (State.romChose_romStart _) (AlwaysOn.emptied_kept _ _)

/-- With no bank WRITING, the straps alone decide how the ROM begins. -/
theorem State.bootStart_clean (ha : s.aon.bankA.state ≠ .writing) (hb : s.aon.bankB.state ≠ .writing) : s.bootStart = s.romStart := by
  have hclean : s.aon.emptied [0, 1] = s.aon := by
    have hzero : (if (s.aon.bank 0).state = .writing then s.aon.setBank 0 {} else s.aon) = s.aon := if_neg ha
    change (if ((if (s.aon.bank 0).state = .writing then s.aon.setBank 0 {} else s.aon).bank 1).state = .writing then _ else _) = _
    rw [hzero]
    exact if_neg hb
  have hself : (s.onAon fun a => a.emptied [0, 1]) = s := congrArg (fun a => { s with aon := a }) hclean
  rw [s.bootStart_eq, hself]

/-! ### The rise of RESET_N -/

/-- The unit as the straps and the reset-time tests leave it, before the ROM looks for an image. -/
def Dev.straps (d : Dev) (armed : BitVec 4) (st : Straps) (cause : Nat) : Dev :=
  let run := (armed ||| 0b1001).toNat
  let fail := run &&& st.testFail.toNat
  let chans := if fail / 4 % 2 = 1 then st.failChans else []
  let strap := st.pairRole.toNat
  let d := { d with
    boot := { d.boot with
      bootSrc := st.bootSrc.toNat
      pairRole := strap
      recovery := st.recovery
      lastRestart := cause }
    clk := { d.clk with
      refclk := st.refclk.toNat
      refValid := decide (st.refclk ≠ 3) }
    pair := { d.pair with
      strap := strap
      role := if strap = 1 ∨ strap = 2 then .undecided else .solo }
    mem := { d.mem with trained := true }
    obs := { d.obs with
      selfRun := run
      selfFail := fail
      failPort := if fail / 2 % 2 = 1 then (st.failPort.getD 255) % 256 else 255
      failChan := (chans.headD 255) % 256 } }
  chans.foldl (fun (d : Dev) c => d.channelFailure (c / 4) (c % 4)) d

theorem State.boot_eq (s : State) (st : Straps) (cause : Nat) :
    s.boot st cause = State.bootStart { s with dev := s.dev.straps s.aon.armed st cause, aon := { s.aon with resetHigh := true, armed := 0 } } := rfl

theorem Dev.channelFailure_lanesPowered (d : Dev) (n k : Nat) : d.LanesPowered (d.channelFailure n k) := by
  unfold Dev.channelFailure
  exact (Dev.LanesPowered.refl d).ite ⟨rfl, rfl, rfl, ⟨rfl, rfl⟩, fun _ _ => rfl⟩

theorem Dev.straps_spec (d : Dev) (armed : BitVec 4) (st : Straps) (cause : Nat) :
    (d.straps armed st cause).boot = { d.boot with bootSrc := st.bootSrc.toNat, pairRole := st.pairRole.toNat, recovery := st.recovery, lastRestart := cause } ∧
      (d.straps armed st cause).pair = { d.pair with strap := st.pairRole.toNat, role := if st.pairRole.toNat = 1 ∨ st.pairRole.toNat = 2 then .undecided else .solo } ∧
      (d.straps armed st cause).obs.selfRun = (armed ||| 0b1001).toNat ∧ (d.straps armed st cause).obs.selfFail = (armed ||| 0b1001).toNat &&& st.testFail.toNat := by
  unfold Dev.straps
  extract_lets run fail chans strap _ _ _ _ _ x
  have h := Dev.lanesPowered_foldl (fun (d : Dev) c => d.channelFailure (c / 4) (c % 4)) (fun d c => d.channelFailure_lanesPowered _ _) chans x
  exact ⟨h.boot, h.pair, h.tests⟩

theorem roleOf_undecided (p : BitVec 2) : (if p.toNat = 1 ∨ p.toNat = 2 then Role.undecided else Role.solo) = .undecided ↔ (p = 1 ∨ p = 2) := by
  revert p
  decide

theorem State.chooseBank_pending (htrial : s.aon.findBank .trial = none) (h : s.aon.findBank .pending = some b) :
    s.chooseBank.dev.boot.phase = .load ∧ s.chooseBank.dev.boot.trying = some b ∧ (s.chooseBank.aon.bank b).state = .trial := by
  have hb := (AlwaysOn.findBank_some h).1
  simp only [State.chooseBank, htrial, h]
  exact ⟨rfl, rfl, by rw [State.tryBank, State.onAon, AlwaysOn.bank_toBank _ hb hb, if_pos rfl]⟩

theorem State.chooseBank_active (htrial : s.aon.findBank .trial = none) (hpend : s.aon.findBank .pending = none) (h : s.aon.findBank .active = some b) :
    s.chooseBank.dev.boot.phase = .load ∧ s.chooseBank.dev.boot.trying = some b ∧ (s.chooseBank.aon.bank b).state = .active := by
  simp only [State.chooseBank, htrial, hpend, h]
  exact ⟨rfl, rfl, (AlwaysOn.findBank_some h).2⟩

theorem State.chooseBank_trial (ht : s.aon.findBank .trial = some c) (h : s.aon.findBank .active = some b) :
    s.chooseBank.dev.boot.phase = .load ∧ s.chooseBank.dev.boot.trying = some b ∧ (s.chooseBank.aon.bank c).state = .failed := by
  obtain ⟨hc, hst⟩ := AlwaysOn.findBank_some ht
  have hsame : (s.aon.toBank c .failed).findBank .active = some b := (AlwaysOn.findBank_toBank (st := .active) (st' := .failed) hc (by rw [hst]; exact nofun) nofun).trans h
  simp only [State.chooseBank, ht, State.onAon, hsame]
  exact ⟨rfl, rfl, by rw [State.tryBank, AlwaysOn.bank_toBank _ hc hc, if_pos rfl]⟩

theorem State.chooseBank_none (htrial : s.aon.findBank .trial = none) (hpend : s.aon.findBank .pending = none) (h : s.aon.findBank .active = none) :
    s.chooseBank.dev.boot.phase = .recovery ∧ s.chooseBank.dev.boot.fallback = true := by
  simp only [State.chooseBank, htrial, hpend, h]
  rw [State.setDev_dev, (s.dev.enterRecovery_spec true).boot]
  exact ⟨rfl, Bool.or_true _⟩

theorem resetReleased : ResetReleased := by
  intro s st haux hrails
  have hrow : exec (.resetRelease st) s = .next (if s.aon.auxOn && s.aon.railsOn && !s.aon.resetHigh then s.boot st 0 else s) := rfl
  refine ⟨fun hhigh => ?_, fun hlow hA hB => ⟨s.boot st 0, ?_, ?_⟩⟩
  · rw [hrow, if_neg (by simp [hhigh])]
  · rw [hrow, if_pos (by simp [haux, hrails, hlow])]
  obtain ⟨hboot, hpair, htests⟩ := s.dev.straps_spec s.aon.armed st 0
  have heq := s.boot_eq st 0
  obtain ⟨x, hx⟩ : ∃ x : State, x = { s with dev := s.dev.straps s.aon.armed st 0, aon := { s.aon with resetHigh := true, armed := 0 } } := ⟨_, rfl⟩
  have hdev : x.dev = s.dev.straps s.aon.armed st 0 := by rw [hx]
  have haon : x.aon = { s.aon with resetHigh := true, armed := 0 } := by rw [hx]
  rw [← hx] at heq
  rw [← hdev] at hboot hpair htests
  have hfind : ∀ st', x.aon.findBank st' = s.aon.findBank st' := fun st' => by rw [haon]; rfl
  have hstart := State.bootStart_clean (s := x) (by rw [haon]; exact hA) (by rw [haon]; exact hB)
  obtain ⟨⟨hsrc, hrole, hlast⟩, -, hkept, hself, hhigh, harmed, -⟩ := x.romChose_bootStart
  rw [hboot] at hsrc hrole hlast
  rw [State.romStart, hboot, haon] at hstart
  dsimp only at hstart
  rw [heq]
  refine ⟨hhigh.trans (by rw [haon]), harmed.trans (by rw [haon]), hsrc, hrole, hlast, ?_, hself.1.trans htests.1, hself.2.trans htests.2, fun hrec hign => ?_, fun hrec hsrc' => ?_, fun hrec hsrc' => ?_⟩
  · rw [hkept, hpair]
    exact roleOf_undecided st.pairRole
  · rw [hstart, if_pos (by simp [hrec, hign]), State.setDev_dev, (x.dev.enterRecovery_spec false).boot]
  · rw [hstart, if_neg (by rcases hrec with h | h <;> simp [h]), if_pos (by rw [hsrc']; rfl)]
    rfl
  · rw [hstart, if_neg (by rcases hrec with h | h <;> simp [h]), if_neg (show ¬st.bootSrc.toNat = 1 from fun h => hsrc' (BitVec.eq_of_toNat_eq h))]
    exact ⟨fun b htrial hpend => State.chooseBank_pending ((hfind _).trans htrial) ((hfind _).trans hpend),
      fun b htrial hpend hact => State.chooseBank_active ((hfind _).trans htrial) ((hfind _).trans hpend) ((hfind _).trans hact),
      fun t b ht hact => State.chooseBank_trial ((hfind _).trans ht) ((hfind _).trans hact),
      fun htrial hpend hact => State.chooseBank_none ((hfind _).trans htrial) ((hfind _).trans hpend) ((hfind _).trans hact)⟩

end Sys2Proof.Machine
end

section
/-! Images authenticated, started and placed, READY and the watchdog (R753 to R764, R777 to R781): the second half of O50. -/

namespace Sys2Proof.Machine
open Sys2Proof

variable {s t u : State} {d e : Dev} {a : AlwaysOn} {b c : Nat} {f : LinkHdr} {img : List Byte}

theorem bootForms : BootForms := by
  intro s st v ok p f k off total b
  refine ⟨fun h => ?_, fun hup => ?_, fun hup => ?_, fun hready => ?_⟩
  · have hrow : exec (.resetRelease st) s = .next (if s.aon.auxOn && s.aon.railsOn && !s.aon.resetHigh then s.boot st 0 else s) := rfl
    rw [hrow, if_neg (by rcases h with h | h <;> simp [h])]
  · have hdown : ∀ g : State → State, Host.Outcome.next (s.actAll g) = (.next s : Host.Outcome State Fault Refusal) := fun g => congrArg Host.Outcome.next (State.actAll_down g hup)
    exact ⟨hdown _, hdown _, hdown _, hdown _, hdown _, hdown _⟩
  · refine ⟨exec_onDev (g := State.bootAuth) rfl hup, fun htry => ?_, exec_onDev (g := fun s => s.loadCtrl (v ||| 1)) rfl hup, exec_onDev (g := fun s => s.recover p) rfl hup⟩
    rw [exec_onDev (g := State.bootAuth) rfl hup, State.bootAuth, htry]
  · have hdown : ∀ g : State → State, Host.Outcome.next (s.actAllReady g) = (.next s : Host.Outcome State Fault Refusal) := fun g => congrArg Host.Outcome.next (State.actAllReady_not g hready)
    exact ⟨congrArg Host.Outcome.next (State.actReady_not _ hready), hdown _, hdown _⟩

/-! ### BOOT_IMAGE_AUTH (R761, R764) -/

theorem AlwaysOn.bank_of_banks {a a' : AlwaysOn} (hA : a'.bankA = a.bankA) (hB : a'.bankB = a.bankB) (b : Nat) : a'.bank b = a.bank b := by
  unfold bank
  rw [hA, hB]

theorem State.bootAuth_good (htry : s.dev.boot.trying = some b) (h : s.aon.imageBad (s.aon.bank b).bytes = none) : s.bootAuth = s.startImage (some b) (s.aon.bank b).bytes := by
  unfold State.bootAuth
  rw [htry]
  exact if_pos (by rw [h]; rfl)

/-- A bank whose image fails a check of R761. -/
def State.bankFailed (s : State) (b : Nat) : State := { s.onAon (fun a => a.toBank b .failed) with dev := s.dev.authFailed }

theorem State.bootAuth_bad (htry : s.dev.boot.trying = some b) (hb : b < 2) (h : s.aon.imageBad (s.aon.bank b).bytes ≠ none) :
    s.bootAuth = if s.dev.boot.tried.contains (1 - b) || (decide ((s.aon.bank (1 - b)).state ≠ .active) && decide ((s.aon.bank (1 - b)).state ≠ .valid)) then
        (s.bankFailed b).setDev ((s.bankFailed b).dev.enterRecovery true)
      else ((s.bankFailed b).onAon fun a => a.toBank (1 - b) .active).tryBank (1 - b) true := by
  have hbad : (s.aon.imageBad (s.aon.bank b).bytes).isNone = false := by
    cases hi : s.aon.imageBad (s.aon.bank b).bytes
    · exact absurd hi h
    · rfl
  have hother : ((s.bankFailed b).aon.bank (1 - b)) = s.aon.bank (1 - b) := (s.aon.bank_toBank hb (by omega) _).trans (if_neg (by omega))
  unfold State.bootAuth
  simp only [htry]
  rw [hbad, if_neg Bool.false_ne_true]
  change (if s.dev.boot.tried.contains (1 - b) || (decide (((s.bankFailed b).aon.bank (1 - b)).state ≠ .active) && decide (((s.bankFailed b).aon.bank (1 - b)).state ≠ .valid)) then _ else _) = _
  rw [hother]
  rfl

theorem Dev.counter_authFailed (d : Dev) : d.authFailed.counter pgBoot 0x0A0 = d.counter pgBoot 0x0A0 + 1 := Dev.counter_inc_same _ _ _

theorem State.bankFailed_spec (hb : b < 2) (hc : c < 2) :
    ((s.bankFailed b).aon.bank c).bytes = (s.aon.bank c).bytes ∧ ((s.bankFailed b).aon.bank c).state = (if c = b then .failed else (s.aon.bank c).state) ∧
      (s.bankFailed b).aon.counter = s.aon.counter := by
  have hbank : (s.bankFailed b).aon.bank c = if c = b then { s.aon.bank b with state := .failed } else s.aon.bank c := s.aon.bank_toBank hb hc _
  rw [hbank]
  split
  · rename_i h
    rw [h]
    exact ⟨rfl, rfl, AlwaysOn.counter_toBank _ _ _⟩
  · exact ⟨rfl, rfl, AlwaysOn.counter_toBank _ _ _⟩

theorem imageAuthenticated : ImageAuthenticated := by
  intro s b hup hb htry
  have hrow : exec .bootImageAuth s = .next s.bootAuth := exec_onDev (g := State.bootAuth) rfl hup
  refine ⟨s.bootAuth, hrow, ?_⟩
  by_cases hgood : s.aon.imageBad (s.aon.bank b).bytes = none
  · rw [State.bootAuth_good htry hgood]
    obtain ⟨hboot, hflint, hA, hB, hcount, -⟩ := s.startImage_spec (some b) (s.aon.bank b).bytes
    refine ⟨congrArg Bank.bytes (AlwaysOn.bank_of_banks hA hB b), hcount, fun _ => ?_, fun h => absurd hgood h⟩
    rw [hboot]
    refine ⟨rfl, rfl, rfl, rfl, ?_, hA, hB, fun k => ?_⟩
    · change (if s.aon.onTrial (some b) then UpdState.trial else UpdState.idle) = _
      rw [AlwaysOn.onTrial]
      simp only [decide_eq_true_eq]
    · exact Dev.slot_congr (d := s.dev.zeroAllSlots) hflint k
  · obtain ⟨hbytes, hstate, hcount⟩ := s.bankFailed_spec hb hb
    obtain ⟨-, hother, -⟩ := s.bankFailed_spec hb (show 1 - b < 2 by omega)
    rw [if_pos rfl] at hstate
    rw [if_neg (by omega)] at hother
    rw [State.bootAuth_bad htry hb hgood]
    split
    · rename_i hno
      have hpow := (s.bankFailed b).dev.enterRecovery_spec true
      have hctr : ((s.bankFailed b).dev.enterRecovery true).counter pgBoot 0x0A0 = s.dev.counter pgBoot 0x0A0 + 1 := (hpow.counter _ (by decide)).trans s.dev.counter_authFailed
      refine ⟨hbytes, hcount, fun h => absurd h hgood, fun _ => ⟨hstate, hctr, ?_, fun hst htried => ?_, fun _ _ => ?_⟩⟩
      · rw [State.setDev_dev, hpow.boot]
        exact Bool.or_true _
      · rw [htried] at hno
        rcases hst with h | h
        · simp [h] at hno
        · simp [h] at hno
      · rw [State.setDev_dev, hpow.boot]
        exact ⟨rfl, rfl⟩
    · rename_i hyes
      have hbank := fun c (hc : c < 2) => (s.bankFailed b).aon.bank_toBank (show 1 - b < 2 by omega) hc .active
      have hsame : ((s.bankFailed b).aon.toBank (1 - b) .active).bank b = (s.bankFailed b).aon.bank b := (hbank b hb).trans (if_neg (by omega))
      have hnew : ((s.bankFailed b).aon.toBank (1 - b) .active).bank (1 - b) = { (s.bankFailed b).aon.bank (1 - b) with state := .active } := (hbank _ (by omega)).trans (if_pos rfl)
      refine ⟨(congrArg Bank.bytes hsame).trans hbytes, (AlwaysOn.counter_toBank _ _ _).trans hcount, fun h => absurd h hgood,
        fun _ => ⟨(congrArg Bank.state hsame).trans hstate, s.dev.counter_authFailed, Bool.or_true _, fun _ _ => ⟨rfl, (congrArg Bank.state hnew :), rfl⟩, fun h h' => ?_⟩⟩
      simp [h, h'] at hyes

/-! ### READY (R753, R762) -/

theorem Dev.bootEvent_noted (d : Dev) (b n v : Nat) : d.Noted (d.bootEvent b n v) := Dev.raise_noted _ _ _ _ _ _ _

theorem Dev.counter_bootEvent (d : Dev) (b n v : Nat) {o : Nat} (ho : o < 4096) : (d.bootEvent b n v).counter pgBoot o = d.counter pgBoot o :=
  Dev.counter_raise _ _ _ _ _ _ _ (by decide) ho

/-- Notes of the unit that keep every page's state, every event bit and BOOT's count of starts. -/
structure Dev.ReadyNoted (d e : Dev) : Prop where
  noted : d.Noted e
  state : ∀ q, (e.page q).state = (d.page q).state
  raised : d.Raised e
  starts : e.counter pgBoot 0x090 = d.counter pgBoot 0x090

theorem Dev.ReadyNoted.refl (d : Dev) : d.ReadyNoted d := ⟨.refl d, fun _ => rfl, d.raised_refl, rfl⟩

theorem Dev.ReadyNoted.trans {x : Dev} (h : d.ReadyNoted e) (k : e.ReadyNoted x) : d.ReadyNoted x :=
  ⟨h.noted.trans k.noted, fun q => (k.state q).trans (h.state q), h.raised.trans k.raised, k.starts.trans h.starts⟩

theorem Dev.ReadyNoted.ite {x : Dev} {q : Prop} [Decidable q] (h : d.ReadyNoted e) (k : d.ReadyNoted x) : d.ReadyNoted (if q then e else x) := by
  split
  · exact h
  · exact k

theorem Dev.readyNoted_raise (d : Dev) (p b i n : Nat) (x y : Word) : d.ReadyNoted (d.raise p b i n x y) :=
  ⟨d.raise_noted _ _ _ _ _ _, d.state_raise _ _ _ _ _ _, d.raised_raise _ _ _ _ _ _, d.counter_raise _ _ _ _ _ _ (by decide) (by decide)⟩

theorem Dev.readyNoted_inc (d : Dev) {o : Nat} (ho : o < 4096) (hne : 0x090 ≠ o) : d.ReadyNoted (d.inc pgBoot o) := by
  refine ⟨d.inc_noted _ _, fun _ => rfl, d.raised_inc _ _, ?_⟩
  rw [Dev.inc, Dev.counter_bump, if_neg]
  rw [regKey_inj (by decide) ho]
  exact fun h => hne h.2

/-- READY's events after the first. -/
def Dev.laterEvents (d : Dev) : Dev :=
  let d := if d.boot.fallback then (d.inc pgBoot 0x098).bootEvent 1 d.boot.runBank d.boot.version else d
  let d := if d.boot.recovered then (d.inc pgBoot 0x0B8).bootEvent 5 d.boot.runBank d.boot.version else d
  if d.obs.selfFail = 0 then d else d.raise pgDevice 3 0x004 0x0F13 (fmk 0 64 d.obs.selfFail) 0

theorem Dev.laterEvents_noted (d : Dev) : d.ReadyNoted d.laterEvents := by
  unfold Dev.laterEvents
  extract_lets d1 d2
  have h1 : d.ReadyNoted d1 := .ite ((d.readyNoted_inc (by decide) (by decide)).trans (Dev.readyNoted_raise _ _ _ _ _ _ _)) (.refl d)
  have h2 : d1.ReadyNoted d2 := .ite ((d1.readyNoted_inc (by decide) (by decide)).trans (Dev.readyNoted_raise _ _ _ _ _ _ _)) (.refl d1)
  exact (h1.trans h2).trans (.ite (.refl d2) (d2.readyNoted_raise _ _ _ _ _ _))

theorem Dev.readyEvents_eq (d : Dev) : d.readyEvents = (d.bootEvent 0 d.boot.runBank d.boot.version).laterEvents := rfl

/-- The unit as it enters READY, before its events. -/
def Dev.entersReady (d : Dev) : Dev :=
  let d := d.onBoot (fun x => { x with
    phase := .ready
    readyAt := d.now
    readyMs := (d.now - x.goAt) / msT })
  (((d.startUnits).onPage pgDevice (fun h => { h with state := .ready })).onPage pgBoot (fun h => { h with state := .active })).inc pgBoot 0x090

theorem Dev.becomeReady_eq (d : Dev) : d.becomeReady = d.entersReady.readyEvents := rfl

theorem Dev.becomeReady_spec (d : Dev) : d.becomeReady.boot.phase = .ready ∧ (d.becomeReady.page pgDevice).state = .ready ∧ (d.becomeReady.page pgBoot).event.getLsbD 0 = true ∧
    d.becomeReady.counter pgBoot 0x090 = d.counter pgBoot 0x090 + 1 ∧ d.becomeReady.clk.nextEpoch = epochCeil d.now / msT := by
  have hfirst := d.entersReady.readyNoted_raise pgBoot 0 0x005 (0x0E01 + 0) (fmk 0 64 d.entersReady.boot.runBank) (fmk 0 64 d.entersReady.boot.version)
  have hlater := (d.entersReady.bootEvent 0 d.entersReady.boot.runBank d.entersReady.boot.version).laterEvents_noted
  have hall := hfirst.trans hlater
  have hpage : (d.entersReady.page pgDevice).state = .ready := by
    unfold Dev.entersReady
    dsimp only
    rw [Dev.inc, Dev.page_bump, Dev.page_onPage, if_neg (by decide), Dev.page_onPage, if_pos rfl]
  rw [d.becomeReady_eq, Dev.readyEvents_eq]
  refine ⟨congrArg Boot.phase hall.noted.boot, (hall.state _).trans hpage, hlater.raised _ _ (Dev.raise_bit _ _ _ _ _ _ _ (by decide)), hall.starts.trans (Dev.counter_inc_same _ _ _),
    congrArg Clock.nextEpoch hall.noted.clk⟩

theorem epochCeil_div (t : Nat) : t ≤ epochCeil t / msT * msT ∧ epochCeil t / msT * msT < t + msT := by
  have hpos : msT ≠ 0 := by decide
  obtain ⟨n, hn⟩ := epochCeil_boundary t
  have hge := epochCeil_ge t
  have hlt : epochCeil t < t + msT := by
    rw [epochCeil, ceilTo, if_neg hpos]
    exact Nat.lt_of_le_of_lt (Nat.div_mul_le_self _ _) (Nat.sub_lt (Nat.add_pos_right t (Nat.pos_of_ne_zero hpos)) Nat.one_pos)
  rw [hn, Nat.mul_div_cancel _ (Nat.pos_of_ne_zero hpos), ← hn]
  exact ⟨hge, hlt⟩

theorem State.bootAdvance_dev (s : State) : s.bootAdvance.dev.clk = s.dev.clk ∧ ∀ p o, s.bootAdvance.dev.counter p o = s.dev.counter p o := by
  unfold State.bootAdvance
  dsimp only
  split_ifs
  · exact ⟨rfl, fun _ _ => rfl⟩
  · exact ⟨rfl, fun _ _ => rfl⟩
  · exact ⟨rfl, fun _ _ => rfl⟩

theorem State.bootAdvance_counter (s : State) :
    (s.dev.boot.update ≠ .hosted → (s.aon.bank s.dev.boot.runBank).state = .active → s.dev.pow.marginLow = false → s.bootAdvance.aon.counter = max s.aon.counter s.dev.boot.svn) ∧
      (s.dev.boot.update = .hosted ∨ (s.aon.bank s.dev.boot.runBank).state ≠ .active ∨ s.dev.pow.marginLow = true → s.bootAdvance.aon.counter = s.aon.counter) := by
  unfold State.bootAdvance
  dsimp only
  refine ⟨fun hu hst hlow => ?_, fun h => ?_⟩
  · rw [if_neg (by simp [hu, hst]), if_neg (by simp [hlow])]
    rfl
  · split_ifs with hno hlow
    · rfl
    · rfl
    · exact absurd h (by simpa [not_or, hlow] using hno)

theorem State.bootReady_eq (hphase : s.dev.boot.phase = .role) (hrole : s.dev.pair.role ≠ .undecided) :
    s.bootReady = s.bootAdvance.setDev { s.bootAdvance.dev.becomeReady with egress := { s.bootAdvance.dev.becomeReady.egress with stopped := s.bootAdvance.aon.alarmLatch } } := by
  unfold State.bootReady
  exact if_neg (by simp [hphase, hrole])

/-! ### The watchdog (R752) -/

theorem pairRole_mod (n : Nat) : (BitVec.ofNat 2 n).toNat = n % 4 := BitVec.toNat_ofNat _ _

/-- An internal restart reads the straps as RESET_N left them. -/
theorem State.restart_spec (s : State) (cause : Nat) : (s.restart cause).dev.boot.lastRestart = cause ∧ (s.restart cause).dev.boot.pairRole = s.dev.boot.pairRole % 4 ∧
    (s.restart cause).dev.boot.phase ≠ .ready ∧ (s.restart cause).aon.counter = s.aon.counter ∧ (s.restart cause).aon.armed = 0 := by
  unfold State.restart
  extract_lets b v st d
  have h := State.romChose_bootStart { s with dev := Dev.straps { d with ctl := { d.ctl with counters := bootCounters s.dev.ctl.counters } } s.aon.armed st cause, aon := { s.aon with resetHigh := true, armed := 0 } }
  have hboot := (Dev.straps_spec { d with ctl := { d.ctl with counters := bootCounters s.dev.ctl.counters } } s.aon.armed st cause).1
  rw [State.boot_eq]
  obtain ⟨⟨-, hrole, hlast⟩, hphase, -, -, -, harmed, hcount⟩ := h
  exact ⟨hlast.trans (by rw [hboot]), hrole.trans (by rw [hboot]; exact pairRole_mod _), hphase, hcount, harmed⟩

theorem readyAndWatchdog : ReadyAndWatchdog := by
  intro s hup
  have hready : exec .bootReady s = .next s.bootReady := exec_onDev (g := State.bootReady) rfl hup
  have hdog : exec .watchdogRestart s = .next s.watchdog := exec_onDev (g := State.watchdog) rfl hup
  refine ⟨fun hphase hrole => ?_, fun h => ?_, fun h => ?_, fun h1 h2 => ?_⟩
  · obtain ⟨hclk, hcount⟩ := s.bootAdvance_dev
    obtain ⟨hph, hpage, hevent, hstarts, hepoch⟩ := s.bootAdvance.dev.becomeReady_spec
    have hnow : s.bootAdvance.dev.now = s.dev.now := congrArg Clock.now hclk
    obtain ⟨hge, hlt⟩ := epochCeil_div s.dev.now
    rw [hready, State.bootReady_eq hphase hrole]
    refine ⟨_, rfl, hph, hpage, hevent, hstarts.trans (by rw [hcount]), ?_, ?_, s.bootAdvance_counter⟩
    · rw [State.setDev_dev, hepoch, hnow]
      exact hge
    · rw [State.setDev_dev, hepoch, hnow]
      exact hlt
  · rw [hready, State.bootReady, if_pos (by rcases h with h | h <;> simp [h])]
  · rw [hdog, State.watchdog, if_pos h]
    exact ⟨_, rfl, State.restart_spec _ 3⟩
  · rw [hdog, State.watchdog, if_neg (fun h => h.elim h1 h2)]

/-! ### LOAD_GO (R756, R781) -/

theorem boot_loadCtrl : ∃ g, (pageType pgBoot).bind (fun t => t.regAt 0x088) = some g ∧ FieldsApart g.flds ∧ (⟨32, 32, .rw, 0, .any⟩ : Fld) ∈ g.flds :=
  ⟨_, rfl, by unfold FieldsApart; decide, by decide⟩

/-- LOAD_CTRL written while it acts: the register alone, and what the write counts. -/
theorem State.loadCtrl_open (hopen : s.dev.loadOpen = true) (v : Word) :
    ∃ x, (s.dev.setReg pgBoot 0x088 (x.reg pgBoot 0x088)).Noted x ∧ (∀ p o, x.counter p o = s.dev.counter p o) ∧ fld (x.reg pgBoot 0x088) 32 32 = fld v 32 32 ∧
      s.loadCtrl v = if bit v 0 then ({ s with dev := x } : State).go else { s with dev := x } := by
  obtain ⟨g, hg, hapart, hin⟩ := boot_loadCtrl
  obtain ⟨seen, hseen⟩ : ∃ seen, seen = s.dev.reg pgBoot 0x088 ||| fmk 8 8 s.dev.boot.loadResult ||| fmk 16 1 s.dev.boot.loadSource := ⟨_, rfl⟩
  obtain ⟨m, hm⟩ : ∃ m, m = mergeFields g.flds (s.dev.reg pgBoot 0x088) seen v := ⟨_, rfl⟩
  have hreg : ((s.dev.setReg pgBoot 0x088 m.1).errs pgBoot m.2).reg pgBoot 0x088 = m.1 := by rw [Dev.reg_errs, Dev.reg_setReg, if_pos rfl]
  refine ⟨(s.dev.setReg pgBoot 0x088 m.1).errs pgBoot m.2, ?_, fun p o => ?_, ?_, ?_⟩
  · rw [hreg]
    exact Dev.errs_noted _ _ _
  · rw [Dev.counter, Dev.errs_counters]
    rfl
  · rw [hreg, hm]
    exact fld_mergeFields_any hapart hin
  · unfold State.loadCtrl
    rw [if_neg (by rw [hopen]; exact Bool.false_ne_true)]
    simp only [hg, ← hseen, ← hm]

/-- The image at LOAD_ADDR, of the length of LOAD_CTRL. -/
def Dev.placedImage (d : Dev) : List Byte := d.dramReads (fld (d.reg pgBoot 0x080) 12 25 * 4096) (min (fld (d.reg pgBoot 0x088) 32 32) 50331648)

/-- The boot's record of an image placed in memory that passed the checks. -/
def Dev.goPassed (d : Dev) : Dev := d.onBoot (fun x => { x with
  loadResult := Status.ok.code
  loadSource := 0
  goAt := d.now })

/-- The boot's record of one that failed. -/
def Dev.goFailed (d : Dev) : Dev := d.authFailed.onBoot (fun x => { x with
  loadResult := Status.badArg.code
  loadSource := 0 })

theorem State.go_good (h : s.aon.imageBad s.dev.placedImage = none) : s.go = if s.dev.boot.phase = .recovery then
      { s with dev := s.dev.goPassed.onBoot (fun x => { x with goImage := if x.gotAll then none else some (s.dev.placedImage.take (imgLength s.dev.placedImage)) }) }
    else State.startImage { s with dev := s.dev.goPassed } none s.dev.placedImage :=
  if_pos (c := (s.aon.imageBad s.dev.placedImage).isNone = true) (by rw [h]; rfl)

theorem State.go_bad (h : s.aon.imageBad s.dev.placedImage ≠ none) :
    s.go = s.setDev (if decide (s.dev.goFailed.boot.phase = .load) && decide (2 ≤ s.dev.goFailed.boot.authFails) then s.dev.goFailed.enterRecovery true else s.dev.goFailed) :=
  if_neg (c := (s.aon.imageBad s.dev.placedImage).isNone = true) (by rw [Option.isNone_iff_eq_none]; exact h)

/-- GO: an image that passes starts, or waits in recovery mode; one that fails is counted, and may end the wait for another. -/
theorem State.go_spec (s : State) : s.go.aon.bankA = s.aon.bankA ∧ s.go.aon.bankB = s.aon.bankB ∧
    (s.aon.imageBad s.dev.placedImage = none → s.go.dev.boot.loadResult = 0 ∧ (s.dev.boot.phase = .load → s.go.dev.boot.phase = .role ∧ s.go.dev.boot.update = .hosted) ∧
      (s.dev.boot.phase = .recovery → s.go.dev.boot.phase = .recovery ∧
        s.go.dev.boot.goImage = if s.dev.boot.gotAll then none else some (s.dev.placedImage.take (imgLength s.dev.placedImage)))) ∧
    (s.aon.imageBad s.dev.placedImage ≠ none → s.go.dev.boot.loadResult = 2 ∧ s.go.dev.counter pgBoot 0x0A0 = s.dev.counter pgBoot 0x0A0 + 1 ∧
      s.go.dev.boot.goImage = s.dev.boot.goImage) := by
  by_cases hgood : s.aon.imageBad s.dev.placedImage = none
  · rw [State.go_good hgood]
    by_cases hrec : s.dev.boot.phase = .recovery
    · rw [if_pos hrec]
      exact ⟨rfl, rfl, fun _ => ⟨rfl, fun h => absurd (hrec.symm.trans h) nofun, fun _ => ⟨hrec, rfl⟩⟩, fun h => absurd hgood h⟩
    · rw [if_neg hrec]
      obtain ⟨hboot, -, hA, hB, -, -⟩ := State.startImage_spec { s with dev := s.dev.goPassed } none s.dev.placedImage
      rw [hboot]
      exact ⟨hA, hB, fun _ => ⟨rfl, fun _ => ⟨rfl, rfl⟩, fun h => absurd h hrec⟩, fun h => absurd hgood h⟩
  · rw [State.go_bad hgood]
    have hpow := s.dev.goFailed.enterRecovery_spec true
    refine ⟨rfl, rfl, fun h => absurd h hgood, fun _ => ?_⟩
    rw [State.setDev_dev]
    split
    · rw [hpow.boot]
      exact ⟨rfl, (hpow.counter _ (by decide)).trans s.dev.counter_authFailed, rfl⟩
    · exact ⟨rfl, s.dev.counter_authFailed, rfl⟩

theorem fld_orGo (v : Word) : fld (v ||| 1) 32 32 = fld v 32 32 ∧ bit (v ||| 1) 0 = true := by
  refine ⟨?_, ?_⟩
  · rw [fld_or, show fld (1 : Word) 32 32 = 0 from by decide, Nat.or_zero]
  · rw [bit, fld_or, show fld (1 : Word) 0 1 = 1 from by decide]
    have h := fld_lt v 0 1
    interval_cases fld v 0 1
    · rfl
    · rfl

theorem loadGo_open (v : Word) (hup : s.up = true) (hopen : s.dev.loadOpen = true)
    (himg : img = s.dev.dramReads (fld (s.dev.reg pgBoot 0x080) 12 25 * 4096) (min (fld v 32 32) 50331648)) :
    ∃ u, exec (.loadGo v) s = .next u ∧ u.aon.bankA = s.aon.bankA ∧ u.aon.bankB = s.aon.bankB ∧
      (s.aon.imageBad img = none → u.dev.boot.loadResult = 0 ∧ (s.dev.boot.phase = .load → u.dev.boot.phase = .role ∧ u.dev.boot.update = .hosted) ∧
        (s.dev.boot.phase = .recovery → u.dev.boot.phase = .recovery ∧ u.dev.boot.goImage = if s.dev.boot.gotAll then none else some (img.take (imgLength img)))) ∧
      (s.aon.imageBad img ≠ none → u.dev.boot.loadResult = 2 ∧ u.dev.counter pgBoot 0x0A0 = s.dev.counter pgBoot 0x0A0 + 1 ∧ u.dev.boot.goImage = s.dev.boot.goImage) := by
  have hrow : exec (.loadGo v) s = .next (s.loadCtrl (v ||| 1)) := exec_onDev (g := fun s => s.loadCtrl (v ||| 1)) rfl hup
  obtain ⟨hlen, hbit⟩ := fld_orGo v
  obtain ⟨x, hx, hcount, hfld, heq⟩ := State.loadCtrl_open hopen (v ||| 1)
  have hboot : x.boot = s.dev.boot := hx.boot
  have hplace : x.placedImage = img := by
    rw [Dev.placedImage, hfld, hlen, hx.reg, Dev.reg_setReg, if_neg (by decide), himg, Dev.dramReads, hx.mem, Dev.dramReads]
    rfl
  have hgo := State.go_spec { s with dev := x }
  dsimp only at hgo
  rw [hplace, hboot, hcount] at hgo
  rw [hrow, heq, if_pos hbit]
  exact ⟨_, rfl, hgo⟩

/-! ### RECOVERED and IMAGE (R777 to R780) -/

theorem State.recover_none {p : Bool} (h : (if p then (if s.dev.boot.gotAll then some s.dev.boot.got else none) else s.dev.boot.goImage) = none) : s.recover p = s := by
  unfold State.recover
  split
  · rfl
  · dsimp only
    rw [h]

/-- A recovery image that fails a check. -/
def Dev.recoverFailed (d : Dev) : Dev := d.authFailed.onBoot (fun x => { x with
  got := []
  total := 0 })

/-- The unit as a recovery image that passed starts, kept in flash or not. -/
def State.recovering (s : State) (partner keep : Bool) (b : List Byte) : State :=
  { s.onAon (fun a => { (if keep then a.writeBoth b else a) with ignoreRecovery := true }) with
    dev := s.dev.onBoot (fun x => { x with
      recovered := true
      loadSource := if partner then 1 else 0 }) }

theorem State.recover_some {p : Bool} (hphase : s.dev.boot.phase = .recovery)
    (h : (if p then (if s.dev.boot.gotAll then some s.dev.boot.got else none) else s.dev.boot.goImage) = some img) :
    s.recover p = if (s.aon.imageBad img).isSome then { s with dev := s.dev.recoverFailed } else
      (s.recovering p (p || bit (s.dev.reg pgBoot 0x088) 1) (img.take (imgLength img))).startImage (if p || bit (s.dev.reg pgBoot 0x088) 1 then some 0 else none)
        (img.take (imgLength img)) := by
  unfold State.recover
  rw [if_neg (not_not_intro hphase)]
  dsimp only
  rw [h]
  rfl

theorem imageBad_isSome_false (h : a.imageBad img = none) : ¬(a.imageBad img).isSome = true := by rw [h]; exact Bool.false_ne_true
theorem imageBad_isSome_true (h : a.imageBad img ≠ none) : (a.imageBad img).isSome = true := Option.isSome_iff_ne_none.2 h

/-- A recovery image kept in flash runs from bank A, ACTIVE, with bank B VALID. -/
theorem State.recovering_kept (s : State) (p : Bool) (b : List Byte) :
    let u := (s.recovering p true b).startImage (some 0) b
    u.dev.boot.phase = .role ∧ u.dev.boot.runBank = 0 ∧ u.aon.bankA.state = .active ∧ u.aon.bankB.state = .valid ∧ u.aon.bankA.bytes = b ∧ u.aon.bankB.bytes = b ∧
      u.aon.ignoreRecovery = true ∧ u.dev.boot.loadSource = if p then 1 else 0 := by
  obtain ⟨hboot, -, hA, hB, -, hign⟩ := (s.recovering p true b).startImage_spec (some 0) b
  dsimp only
  rw [hboot, hA, hB, hign]
  exact ⟨rfl, rfl, rfl, rfl, rfl, rfl, rfl, rfl⟩

/-- One that is not kept runs from memory, and flash stays. -/
theorem State.recovering_hosted (s : State) (p : Bool) (b : List Byte) :
    let u := (s.recovering p false b).startImage none b
    u.dev.boot.phase = .role ∧ u.dev.boot.update = .hosted ∧ u.aon.bankA = s.aon.bankA ∧ u.aon.bankB = s.aon.bankB := by
  obtain ⟨hboot, -, hA, hB, -, -⟩ := (s.recovering p false b).startImage_spec none b
  dsimp only
  rw [hboot, hA, hB]
  exact ⟨rfl, rfl, rfl, rfl⟩

theorem recovered_host (hup : s.up = true) (hphase : s.dev.boot.phase = .recovery) (hgo : s.dev.boot.goImage = some img) : ∃ u, exec (.recovered false) s = .next u ∧
    (s.aon.imageBad img = none → bit (s.dev.reg pgBoot 0x088) 1 = true → u.dev.boot.phase = .role ∧ u.dev.boot.runBank = 0 ∧ u.aon.bankA.state = .active ∧
      u.aon.bankB.state = .valid ∧ u.aon.bankA.bytes = img.take (imgLength img) ∧ u.aon.bankB.bytes = img.take (imgLength img) ∧ u.aon.ignoreRecovery = true) ∧
    (s.aon.imageBad img = none → bit (s.dev.reg pgBoot 0x088) 1 = false → u.dev.boot.phase = .role ∧ u.dev.boot.update = .hosted ∧ u.aon.bankA = s.aon.bankA ∧
      u.aon.bankB = s.aon.bankB) ∧
    (s.aon.imageBad img ≠ none → u.dev.boot.phase = .recovery ∧ u.aon.bankA = s.aon.bankA ∧ u.aon.bankB = s.aon.bankB ∧
      u.dev.counter pgBoot 0x0A0 = s.dev.counter pgBoot 0x0A0 + 1) := by
  have hrow : exec (.recovered false) s = .next (s.recover false) := exec_onDev (g := fun s => s.recover false) rfl hup
  have heq := State.recover_some (p := false) hphase hgo
  refine ⟨s.recover false, hrow, fun hgood hkeep => ?_, fun hgood hkeep => ?_, fun hbad => ?_⟩
  · rw [heq, if_neg (imageBad_isSome_false hgood), hkeep]
    obtain ⟨h1, h2, h3, h4, h5, h6, h7, -⟩ := s.recovering_kept false (img.take (imgLength img))
    exact ⟨h1, h2, h3, h4, h5, h6, h7⟩
  · rw [heq, if_neg (imageBad_isSome_false hgood), hkeep]
    exact s.recovering_hosted false (img.take (imgLength img))
  · rw [heq, if_pos (imageBad_isSome_true hbad)]
    exact ⟨hphase, rfl, rfl, s.dev.counter_authFailed⟩

theorem recovered_partner (hup : s.up = true) (hphase : s.dev.boot.phase = .recovery) (hall : s.dev.boot.gotAll = true) (himg : img = s.dev.boot.got) :
    ∃ u, exec (.recovered true) s = .next u ∧
    (s.aon.imageBad img = none → u.dev.boot.phase = .role ∧ u.aon.bankA.state = .active ∧ u.aon.bankB.state = .valid ∧ u.aon.bankA.bytes = img.take (imgLength img) ∧
      u.aon.bankB.bytes = img.take (imgLength img) ∧ u.dev.boot.loadSource = 1) ∧
    (s.aon.imageBad img ≠ none → u.dev.boot.phase = .recovery ∧ u.dev.boot.got = [] ∧ u.aon.bankA = s.aon.bankA ∧ u.aon.bankB = s.aon.bankB) := by
  have hrow : exec (.recovered true) s = .next (s.recover true) := exec_onDev (g := fun s => s.recover true) rfl hup
  have heq := State.recover_some (s := s) (p := true) (img := img) hphase (by rw [if_pos rfl, if_pos hall, himg])
  refine ⟨s.recover true, hrow, fun hgood => ?_, fun hbad => ?_⟩
  · rw [heq, if_neg (imageBad_isSome_false hgood), Bool.true_or]
    obtain ⟨h1, -, h3, h4, h5, h6, -, h8⟩ := s.recovering_kept true (img.take (imgLength img))
    exact ⟨h1, h3, h4, h5, h6, h8⟩
  · rw [heq, if_pos (imageBad_isSome_true hbad)]
    exact ⟨hphase, rfl, rfl, rfl⟩

/-- IMAGE, a frame that the unit takes: its link takes it, then the ROM or the firmware does. -/
theorem Takes.image (h : Takes s f) (k off total : Nat) (b : List Byte) : exec (.image f k off total b) s = .next ((s.setDev (s.dev.heard f)).image k off total b) := by
  obtain ⟨hup, -, hlink, hcrc, hseq⟩ := h
  have hok : (s.dev.pair.up && f.crcOk && f.seq == s.dev.pair.rxSeq) = true := by simp [hlink, hcrc, hseq]
  refine (exec_onDev (g := fun s => let ok := s.dev.pair.up && f.crcOk && f.seq == s.dev.pair.rxSeq
    let s := s.setDev (s.dev.linkAccept f id)
    if ok then s.image k off total b else s) rfl hup).trans ?_
  exact congrArg Host.Outcome.next (if_pos hok)

theorem image_data (h : Takes s f) (hphase : s.dev.boot.phase = .recovery) (off total : Nat) (b : List Byte) :
    (s.dev.boot.goImage = none → off = s.dev.boot.got.length → ∃ u, exec (.image f 1 off total b) s = .next u ∧ u.dev.boot.got = s.dev.boot.got ++ b ∧ u.dev.boot.total = total) ∧
    (s.dev.boot.goImage.isSome = true ∨ off ≠ s.dev.boot.got.length → ∃ u, exec (.image f 1 off total b) s = .next u ∧ u.dev.boot.got = s.dev.boot.got) := by
  have hboot : (s.setDev (s.dev.heard f)).dev.boot = s.dev.boot := h.heard.boot
  refine ⟨fun hgo hoff => ⟨_, h.image 1 off total b, ?_⟩, fun hno => ⟨_, h.image 1 off total b, ?_⟩⟩
  · unfold State.image
    dsimp only
    rw [if_neg (by decide), if_pos (by rw [hboot]; exact ⟨rfl, hphase, hgo, hoff⟩)]
    exact ⟨congrArg (fun x : Boot => x.got ++ b) hboot, rfl⟩
  · unfold State.image
    dsimp only
    rw [if_neg (by decide), if_neg]
    · exact congrArg Boot.got hboot
    · rw [hboot]
      rintro ⟨-, -, hgo, hoff⟩
      rcases hno with h | h
      · rw [hgo] at h
        exact Bool.false_ne_true h
      · exact h hoff

/-- A unit with no ACTIVE bank refuses its partner's request. -/
theorem image_refused (h : Takes s f) (hphase : s.dev.boot.phase ≠ .recovery) (hrole : s.dev.pair.role ≠ .undecided) (hbank : s.aon.findBank .active = none) (off total : Nat) (b : List Byte) :
    ∃ u, exec (.image f 0 off total b) s = .next u ∧ Queued u ltImage (imageBytes 2 0 0 []) := by
  have hboot : (s.setDev (s.dev.heard f)).dev.boot = s.dev.boot := h.heard.boot
  have hlink : (s.dev.heard f).pair.up = true := by
    rw [h.heard.rest]
    exact h.2.2.1
  have hfind : (s.setDev (s.dev.heard f)).aon.findBank .active = none := hbank
  refine ⟨_, h.image 0 off total b, ?_⟩
  unfold State.image
  dsimp only
  rw [if_pos rfl, if_neg (by rw [hboot, State.setDev_dev, h.role]; simp [hphase, hrole]), hfind, ite_self]
  exact Dev.linkSend_carries _ _ hlink (by decide)

theorem placedImages : PlacedImages := by
  intro s v hup
  refine ⟨fun hshut => ⟨s.loadCtrl (v ||| 1), exec_onDev (g := fun s => s.loadCtrl (v ||| 1)) rfl hup, ?_⟩, fun b hopen hb => loadGo_open v hup hopen hb,
    fun b hphase hgo => recovered_host hup hphase hgo, fun p hphase => ?_, fun b hphase hall hb => recovered_partner hup hphase hall hb, fun hphase => ⟨fun hgo => ?_, fun hall => ?_⟩,
    fun f off total b h hphase => image_data h hphase off total b, fun f off total b h hphase hrole hbank => image_refused h hphase hrole hbank off total b⟩
  · rw [State.loadCtrl, if_pos (by rw [hshut]; rfl)]
    refine ⟨?_, rfl, fun o => rfl⟩
    change ((s.dev.err pgBoot .badState).page pgBoot).errLast = 4
    rw [Dev.err, Dev.page_onPage, if_pos rfl]
    rfl
  · rw [exec_onDev (g := fun s => s.recover p) rfl hup, State.recover, if_pos hphase]
  · rw [exec_onDev (g := fun s => s.recover false) rfl hup]
    exact congrArg Host.Outcome.next (State.recover_none (p := false) hgo)
  · rw [exec_onDev (g := fun s => s.recover true) rfl hup]
    exact congrArg Host.Outcome.next (State.recover_none (p := true) (by rw [if_pos rfl, if_neg (ne_true_of_eq_false hall)]))

/-- Settles O50: RESET_N puts the unit back, the ROM tries the bank that R763 names, an image that authenticates starts, and READY and the watchdog follow. -/
theorem startUp : Obligations.StartUp := ⟨bootForms, powerAndReset, resetReleased, imageAuthenticated, readyAndWatchdog, placedImages⟩

end Sys2Proof.Machine
end

section
/-! What a composition and its jobs leave alone of Mica (R326 to R352): the rules that O25 uses. -/

namespace Sys2Proof.Machine
open Sys2Proof

variable {s : State} {d e f : Dev} {l k : Nat} {x : Layout} {cp : Composing}

/-! ### What leaves Mica and every register alone -/

/-- Mica, every register and every page's state are as before. -/
structure Dev.PicKept (d e : Dev) : Prop where
  mica : e.mica = d.mica
  reg : ∀ p o, e.reg p o = d.reg p o

theorem Dev.PicKept.refl (d : Dev) : d.PicKept d := ⟨rfl, fun _ _ => rfl⟩
theorem Dev.PicKept.trans (h : d.PicKept e) (j : e.PicKept f) : d.PicKept f := ⟨j.mica.trans h.mica, fun p o => (j.reg p o).trans (h.reg p o)⟩
theorem Dev.PicKept.ite {q : Prop} [Decidable q] (h : d.PicKept e) (j : d.PicKept f) : d.PicKept (if q then e else f) := by
  split
  · exact h
  · exact j
theorem Dev.picKept_foldl {α : Type} (g : Dev → α → Dev) (hg : ∀ (d : Dev) (a : α), d.PicKept (g d a)) (as : List α) (d : Dev) : d.PicKept (as.foldl g d) := by
  induction as generalizing d with
  | nil => exact .refl d
  | cons a as ih => exact (hg d a).trans (ih _)
theorem Dev.Noted.picKept (h : d.Noted e) : d.PicKept e := ⟨h.mica, h.reg⟩

theorem Dev.picKept_setEncS (d : Dev) (i : Nat) (y : EncStream) : d.PicKept (d.setEncS i y) := ⟨rfl, fun _ _ => rfl⟩
theorem Dev.picKept_tickFree (d : Dev) : d.PicKept d.tickFree := ⟨rfl, fun _ _ => rfl⟩
theorem Dev.picKept_inc (d : Dev) (p o : Nat) : d.PicKept (d.inc p o) := ⟨rfl, fun _ _ => rfl⟩

theorem Dev.writeVa_picKept (d : Dev) (r va : Nat) (l : List Byte) : d.PicKept (d.writeVa r va l) := by
  rw [Dev.writeVa_eq]
  exact ⟨rfl, fun _ _ => rfl⟩

theorem Dev.jobItem_picKept (d : Dev) (ev : Nat) (w : Option Word) : d.PicKept (d.jobItem ev w) := by
  unfold Dev.jobItem
  split
  · exact .refl d
  · exact (d.picKept_tickFree.trans (Dev.picKept_tickFree _)).trans (Dev.trace_noted _ _ _ _ _ _ _).picKept

theorem Dev.encDropped_picKept (d : Dev) (i : Nat) : d.PicKept (d.encDropped i) := by
  unfold Dev.encDropped
  exact ((d.picKept_inc _ _).trans (Dev.geEvent_noted _ _ _ _ _).picKept).trans (Dev.picKept_tickFree _)

theorem Dev.dropOldest_picKept (d : Dev) (i : Nat) : d.PicKept (d.dropOldest i) := by
  unfold Dev.dropOldest
  split
  · exact .refl d
  · exact (d.picKept_setEncS i _).trans (Dev.encDropped_picKept _ i)

theorem Dev.encPush_picKept (d : Dev) (i : Nat) (j : EncJob) : d.PicKept (d.encPush i j) := by
  unfold Dev.encPush
  refine .trans ?_ (Dev.jobItem_picKept _ _ _)
  exact ⟨rfl, fun _ _ => rfl⟩

theorem Dev.encTick_picKept (d : Dev) (i : Nat) (time : Word) (rtp : Nat) (slot : Option Nat) (phase : Nat) : d.PicKept (d.encTick i time rtp slot phase) := by
  unfold Dev.encTick
  dsimp only
  refine .ite (.refl d) (.ite (d.picKept_setEncS i _) ?_)
  split
  · exact ((d.picKept_setEncS i _).trans (Dev.picKept_setEncS _ i _)).trans (Dev.encDropped_picKept _ i)
  · have hpush : ∀ (y : EncStream) (c : Prop) [Decidable c] (j : EncJob) (g : EncStream → EncStream),
        d.PicKept (((if c then (d.setEncS i y).dropOldest i else d.setEncS i y).encPush i j).onEncS i g) := fun y c _ j g =>
      have hdrop := Dev.PicKept.ite (q := c) ((d.picKept_setEncS i y).trans (Dev.dropOldest_picKept _ i)) (d.picKept_setEncS i y)
      (hdrop.trans (Dev.encPush_picKept _ i j)).trans (Dev.picKept_setEncS _ i _)
    exact .ite (((hpush _ _ _ _).trans (Dev.geEvent_noted _ _ _ _ _).picKept).trans (Dev.picKept_tickFree _)) (hpush _ _ _ _)

/-! ### What a composition keeps of its layout -/

/-- A layout without what its pictures change. -/
def Layout.plan (x : Layout) : Layout := { x with outs := [], comp := none, prevEntries := [], prevShown := [], lastTick := 0 }

/-- Layout `l` keeps its plan, and every register is as before. -/
structure Dev.PlanKept (l : Nat) (d e : Dev) : Prop where
  plan : (e.layout l).plan = (d.layout l).plan
  reg : ∀ p o, e.reg p o = d.reg p o

theorem Dev.PlanKept.refl (l : Nat) (d : Dev) : d.PlanKept l d := ⟨rfl, fun _ _ => rfl⟩
theorem Dev.PlanKept.trans (h : Dev.PlanKept l d e) (j : Dev.PlanKept l e f) : Dev.PlanKept l d f := ⟨j.plan.trans h.plan, fun p o => (j.reg p o).trans (h.reg p o)⟩
theorem Dev.PlanKept.ite {q : Prop} [Decidable q] (h : Dev.PlanKept l d e) (j : Dev.PlanKept l d f) : Dev.PlanKept l d (if q then e else f) := by
  split
  · exact h
  · exact j
theorem Dev.planKept_foldl {α : Type} (g : Dev → α → Dev) (hg : ∀ (d : Dev) (a : α), Dev.PlanKept l d (g d a)) (as : List α) (d : Dev) : Dev.PlanKept l d (as.foldl g d) := by
  induction as generalizing d with
  | nil => exact .refl l d
  | cons a as ih => exact (hg d a).trans (ih _)
theorem Dev.PicKept.plan (h : d.PicKept e) (l : Nat) : Dev.PlanKept l d e := ⟨congrArg Layout.plan (Dev.layout_congr h.mica l), h.reg⟩

theorem Dev.planKept_setLayout (d : Dev) (h : x.plan = (d.layout l).plan) : Dev.PlanKept l d (d.setLayout l x) := by
  refine ⟨?_, fun _ _ => rfl⟩
  rw [Dev.layout_setLayout, if_pos rfl, h]

/-- A layout with this composition in hand. -/
def Layout.composing (x : Layout) (cp : Composing) : Layout := { x with comp := some cp }

theorem Dev.planKept_composing (d : Dev) (l : Nat) (cp : Composing) : Dev.PlanKept l d (d.setLayout l ((d.layout l).composing cp)) := d.planKept_setLayout rfl

/-! ### A composition that is written (R347, R348) -/

/-- Of Mica, only the outputs of layout `l` may differ, no register does, and the count of late sources is as before. -/
structure Dev.Drew (l : Nat) (d e : Dev) : Prop where
  others : ∀ k, k ≠ l → e.layout k = d.layout k
  own : ∃ os, e.layout l = { d.layout l with outs := os }
  reg : ∀ p o, e.reg p o = d.reg p o
  lates : ∀ i, e.counter (pgMica i) 0x070 = d.counter (pgMica i) 0x070

theorem Dev.Drew.refl (l : Nat) (d : Dev) : Dev.Drew l d d := ⟨fun _ _ => rfl, ⟨_, rfl⟩, fun _ _ => rfl, fun _ => rfl⟩
theorem Dev.Drew.trans (h : Dev.Drew l d e) (j : Dev.Drew l e f) : Dev.Drew l d f := by
  obtain ⟨os, hos⟩ := h.own
  obtain ⟨os', hos'⟩ := j.own
  exact ⟨fun k hk => (j.others k hk).trans (h.others k hk), ⟨os', by rw [hos', hos]⟩, fun p o => (j.reg p o).trans (h.reg p o), fun i => (j.lates i).trans (h.lates i)⟩
theorem Dev.Drew.ite {q : Prop} [Decidable q] (h : Dev.Drew l d e) (j : Dev.Drew l d f) : Dev.Drew l d (if q then e else f) := by
  split
  · exact h
  · exact j
theorem Dev.drew_foldl {α : Type} (g : Dev → α → Dev) (hg : ∀ (d : Dev) (a : α), Dev.Drew l d (g d a)) (as : List α) (d : Dev) : Dev.Drew l d (as.foldl g d) := by
  induction as generalizing d with
  | nil => exact .refl l d
  | cons a as ih => exact (hg d a).trans (ih _)
theorem Dev.Drew.plan (h : Dev.Drew l d e) : Dev.PlanKept l d e := by
  obtain ⟨os, hos⟩ := h.own
  exact ⟨by rw [hos]; rfl, h.reg⟩

theorem Dev.drew_of (hm : e.mica = d.mica) (hc : e.ctl = d.ctl) : Dev.Drew l d e :=
  ⟨fun k _ => Dev.layout_congr hm k, ⟨_, Dev.layout_congr hm l⟩, fun p o => by rw [Dev.reg, hc, Dev.reg], fun i => by rw [Dev.counter, hc, Dev.counter]⟩

theorem Dev.writeVa_drew (d : Dev) (r va : Nat) (b : List Byte) : Dev.Drew l d (d.writeVa r va b) := by
  rw [Dev.writeVa_eq]
  exact Dev.drew_of rfl rfl

theorem Dev.drew_tickFree (d : Dev) : Dev.Drew l d d.tickFree := ⟨fun _ _ => rfl, ⟨_, rfl⟩, fun _ _ => rfl, fun _ => rfl⟩

theorem Dev.drew_bump (d : Dev) (p n : Nat) {o : Nat} (ho : o < 4096) (hne : 0x070 ≠ o) : Dev.Drew l d (d.bump p o n) := by
  refine ⟨fun _ _ => rfl, ⟨_, rfl⟩, fun _ _ => rfl, fun i => ?_⟩
  rw [Dev.counter_bump, if_neg]
  rw [regKey_inj (by decide) ho]
  exact fun h => hne h.2

theorem pgMica_ne_errlog (i : Nat) : pgMica i ≠ pgErrlog := by
  unfold pgMica pgErrlog
  omega

theorem Dev.drew_raise (d : Dev) (p b i n : Nat) (y z : Word) : Dev.Drew l d (d.raise p b i n y z) := by
  have h := d.raise_noted p b i n y z
  exact ⟨fun k _ => Dev.layout_congr h.mica k, ⟨_, Dev.layout_congr h.mica l⟩, h.reg, fun i => d.counter_raise _ _ _ _ _ _ (pgMica_ne_errlog i) (by decide)⟩

theorem Dev.drew_onOut (d : Dev) (o : Nat) (g : LayOut → LayOut) : Dev.Drew l d (d.onLayout l fun y => y.onOut o g) :=
  ⟨fun _ hk => (Dev.layout_setLayout _ _ _ _).trans (if_neg hk), ⟨_, (Dev.layout_setLayout _ _ _ _).trans (if_pos rfl)⟩, fun _ _ => rfl, fun _ => rfl⟩

theorem Dev.writeSurface_drew (d : Dev) (r va : Nat) (sh : ShShape) (m : ShMarks) (a b : Plane) : Dev.Drew l d (d.writeSurface r va sh m a b) := by
  unfold Dev.writeSurface
  exact (d.writeVa_drew _ _ _).trans (Dev.drew_foldl _ (fun d i => (d.writeVa_drew _ _ _).trans (Dev.writeVa_drew _ _ _ _)) _ _)

theorem Dev.encRends_drew (d : Dev) (j o va : Nat) (rs : List ((Nat × Nat) × Nat × List Nat)) : Dev.Drew l d (d.encRends j o va rs) := Dev.drew_of rfl rfl

theorem Dev.writeOutput_drew (d : Dev) (x : Layout) (cp : Composing) (ls : List Drawn) (oi slot : Nat) : Dev.Drew l d (d.writeOutput l x cp ls oi slot) := by
  unfold Dev.writeOutput
  dsimp only
  refine .trans (.trans (.trans (Dev.drew_foldl _ (fun d r => ?_) _ d) (Dev.writeVa_drew _ _ _ _)) (Dev.encRends_drew _ _ _ _ _)) (Dev.drew_onOut _ _ _)
  have hlinear := fun va a b c => (d.writeVa_drew (l := l) 0 va a).trans (Dev.writeVa_drew _ 0 b c)
  have hsurface := fun va sh m a b => (d.drew_tickFree (l := l)).trans (Dev.writeSurface_drew _ 0 va sh m a b)
  have hplanes : ∀ (q : Prop) [Decidable q] (va : Nat) (a : List Byte) (b : Nat) (c : List Byte) (sh : ShShape) (m : ShMarks) (y z : Plane) (n : Nat),
      Dev.Drew l d ((if q then (d.writeVa 0 va a).writeVa 0 b c else d.tickFree.writeSurface 0 va sh m y z).bump (pgMica x.pipe) 0x0A0 n) := fun q _ va a b c sh m y z n =>
    (Dev.Drew.ite (hlinear va a b c) (hsurface va sh m y z)).trans (Dev.drew_bump _ _ _ (by decide) (by decide))
  exact .ite ((hplanes _ _ _ _ _ _ _ _ _ _).trans (Dev.writeVa_drew _ _ _ _)) (hplanes _ _ _ _ _ _ _ _ _ _)

theorem Dev.tileErrors_drew (d : Dev) (p va : Nat) (rd : Reader) : Dev.Drew l d (d.tileErrors p va rd) :=
  Dev.drew_foldl _ (fun d _ => (d.drew_bump _ _ (by decide) (by decide)).trans (Dev.drew_raise _ _ _ _ _ _ _)) _ d

theorem Dev.reportTiles_drew (d : Dev) (x : Layout) (cp : Composing) : Dev.Drew l d (d.reportTiles x cp) := by
  refine Dev.drew_foldl _ (fun d p => ?_) _ d
  split
  · exact d.tileErrors_drew _ _ _
  · split
    · exact .ite (d.tileErrors_drew _ _ _) (.refl l d)
    · exact .refl l d
  · exact .refl l d

/-- The choices of a composition, those that wait asked again. -/
def Dev.asked (d : Dev) (x : Layout) (cp : Composing) : List Choice :=
  (cp.entries.zip cp.choices).map (fun p => match p.2 with | .waits => d.choose x cp.tick p.1 | c => c)

/-- A composition that is asked again: of its layout it changes the choices, and what it writes. -/
theorem Dev.micaResolve_spec (d : Dev) (h : (d.layout l).comp = some cp) (hw : cp.written = false) :
    ∃ b, Dev.Drew l (d.setLayout l ((d.layout l).composing { cp with choices := d.asked (d.layout l) cp, written := b })) (d.micaResolve l) := by
  unfold Dev.micaResolve
  dsimp only
  rw [h]
  dsimp only
  rw [if_neg (by rw [hw]; exact Bool.false_ne_true)]
  change ∃ b, Dev.Drew l _ (if (!(d.asked (d.layout l) cp).all Choice.done) = true then _ else _)
  cases hall : (d.asked (d.layout l) cp).all Choice.done
  · refine ⟨false, ?_⟩
    rw [if_pos (show (!false) = true from rfl), ← hw]
    exact .refl l _
  · refine ⟨true, ?_⟩
    rw [if_neg (show ¬(!true) = true from Bool.false_ne_true)]
    refine .trans (.trans (.trans (.trans (Dev.drew_foldl _ (fun d o => d.writeOutput_drew _ _ _ _ _) _ _) (Dev.drew_bump _ _ _ (by decide) (by decide)))
      (Dev.drew_bump _ _ _ (by decide) (by decide))) (Dev.drew_foldl _ (fun d _ => ?_) _ _)) (Dev.reportTiles_drew _ _ _)
    exact .ite (d.drew_raise _ _ _ _ _ _) (.refl l d)

end Sys2Proof.Machine
end

section
/-! Picture ticks, late sources, pictures done, faults of a pipeline, and STILL_BASE (R326 to R361): O25. -/

namespace Sys2Proof.Machine
open Sys2Proof

variable {s : State} {d e f : Dev} {l k : Nat} {x : Layout} {cp : Composing} {v : Word}

/-! ### Pages that go live leave Mica alone -/

theorem Dev.mica_renderEvent (d : Dev) (b i n : Nat) : (d.renderEvent b i n).mica = d.mica := (Dev.raise_noted _ _ _ _ _ _ _).mica

theorem Dev.mica_objTableApply (d : Dev) : d.objTableApply.mica = d.mica := by
  unfold Dev.objTableApply
  split
  · rfl
  · split
    · exact Dev.mica_renderEvent _ _ _ _
    · next l _ =>
      dsimp only
      generalize List.range 1024 = is
      have hobjs := Dev.mica_holds (fun (d : Dev) (i : Nat) => if (objBad ((l.drop (64 * i)).take 64)).isSome then d
          else d.objChange i (objParse ((l.drop (64 * i)).take 64))) (fun d i => by
        split
        · rfl
        · rfl) is { d with render := { d.render with table := none } }
      split
      · exact hobjs
      · exact (Dev.mica_renderEvent _ _ _ _).trans hobjs

theorem Dev.mica_goLive (d : Dev) (g p : Nat) (b : Time) : (d.goLive g p b).mica = d.mica := by
  have hcopy : ((rwsOffs p).foldl (fun (d : Dev) o => d.setReg p o (d.shadowReg p o)) d).mica = d.mica :=
    Dev.mica_holds (fun (d : Dev) o => d.setReg p o (d.shadowReg p o)) (fun _ _ => rfl) _ d
  unfold Dev.goLive
  refine (Dev.trace_noted _ _ _ _ _ _ _).mica.trans ?_
  change (if p = pgRender then (Dev.objTableApply _) else _ : Dev).mica = _
  split
  · exact (Dev.mica_objTableApply _).trans hcopy
  · exact hcopy

theorem Dev.mica_groupEnd (d : Dev) (g : Nat) (x : Group) (b : Time) : (d.groupEnd g x b).mica = d.mica := by
  unfold Dev.groupEnd
  split
  · rfl
  · exact (Dev.trace_noted _ _ _ _ _ _ _).mica.trans (Dev.finish_posted _ _ _ _ _ _).mica

theorem Dev.mica_tickCommits (d : Dev) (l : Nat) (t : Time) : (d.tickCommits l t).mica = d.mica := by
  refine Dev.mica_holds _ (fun d e => Dev.mica_holds _ (fun d p => ?_) _ d) _ d
  split
  · unfold Dev.livePage
    split
    · rfl
    · split
      · rfl
      · exact (Dev.mica_groupEnd _ _ _ _).trans (Dev.mica_goLive _ _ _ _)
  · rfl

theorem Dev.tickCommits_none (l : Nat) (t : Time) (h : d.ctl.groups = []) : d.tickCommits l t = d := by
  unfold Dev.tickCommits
  rw [h]
  rfl

/-! ### MICA_PICTURE_DONE (R349, R356) -/

theorem Dev.micaDone_none (h : (d.layout l).comp = none) : d.micaDone l = d := by
  unfold Dev.micaDone
  simp only [h]

/-- The picture that a layout has shown. -/
def Layout.shownOf (x : Layout) (cp : Composing) : Layout :=
  { x with comp := none, prevEntries := cp.entries, prevShown := cp.choices.map Choice.shown, lastTick := shortOf cp.tick }

/-- A picture that is done: SEQUENCE written and the picture counted, before it is the layout's previous one. -/
theorem Dev.micaDone_spec (h : (d.layout l).comp = some cp) (hw : cp.written = true) :
    ∃ y, d.PicKept y ∧ y.counter (pgMica (d.layout l).pipe) 0x068 = d.counter (pgMica (d.layout l).pipe) 0x068 + 1 ∧ d.micaDone l = y.onLayout l (·.shownOf cp) := by
  have hwritten := fun os => Dev.picKept_foldl (fun (d' : Dev) (o : Nat × Nat) => d'.writeVa 0 (((d.layout l).out o.1).slotVa o.2) (leBytes 8 ((d.layout l).out o.1).seq))
    (fun d' o => d'.writeVa_picKept _ _ _) os d
  have hctr : ∀ (os : List (Nat × Nat)) (x : Dev), (os.foldl (fun (d' : Dev) (o : Nat × Nat) => d'.writeVa 0 (((d.layout l).out o.1).slotVa o.2)
      (leBytes 8 ((d.layout l).out o.1).seq)) x).ctl = x.ctl := fun os => by
    induction os with
    | nil => exact fun _ => rfl
    | cons o os ih => exact fun x => (ih _).trans (by dsimp only; rw [Dev.writeVa_eq])
  unfold Dev.micaDone
  dsimp only
  rw [h]
  dsimp only
  rw [if_neg (by rw [hw]; exact Bool.false_ne_true)]
  obtain ⟨y, hy⟩ : ∃ y, y = cp.outs.foldl (fun (d' : Dev) (o : Nat × Nat) => d'.writeVa 0 (((d.layout l).out o.1).slotVa o.2) (leBytes 8 ((d.layout l).out o.1).seq)) d := ⟨_, rfl⟩
  have hpic : d.PicKept y := hy ▸ hwritten _
  have hcount : ∀ p o, y.counter p o = d.counter p o := fun p o => by rw [Dev.counter, hy, hctr, Dev.counter]
  rw [← hy]
  refine ⟨_, ?_, ?_, rfl⟩
  · have hinc := hpic.trans (y.picKept_inc (pgMica (d.layout l).pipe) 0x068)
    exact .ite ((hinc.trans (Dev.picKept_inc _ _ _)).trans (Dev.raise_noted _ _ _ _ _ _ _).picKept) hinc
  · have hone : (y.inc (pgMica (d.layout l).pipe) 0x068).counter (pgMica (d.layout l).pipe) 0x068 = d.counter (pgMica (d.layout l).pipe) 0x068 + 1 := by
      rw [Dev.counter_inc_same, hcount]
    split
    · refine (Dev.counter_raise _ _ _ _ _ _ _ (pgMica_ne_errlog _) (by decide)).trans ?_
      rw [Dev.inc, Dev.counter_bump, if_neg (by rw [regKey_inj (by decide) (by decide)]; exact fun h => absurd h.2 (by decide))]
      exact hone
    · exact hone

theorem Dev.micaDone_plan (d : Dev) (l : Nat) : Dev.PlanKept l d (d.micaDone l) := by
  cases h : (d.layout l).comp with
  | none => rw [Dev.micaDone_none h]; exact .refl l d
  | some cp =>
    cases hw : cp.written
    · have hsame : d.micaDone l = d := by
        unfold Dev.micaDone
        simp only [h]
        exact if_pos (by rw [hw]; rfl)
      rw [hsame]
      exact .refl l d
    · obtain ⟨y, hy, -, heq⟩ := Dev.micaDone_spec h hw
      rw [heq]
      exact (hy.plan l).trans (y.planKept_setLayout rfl)

/-! ### SOURCE_LATE (R335) -/

/-- What a late entry shows. -/
def Layout.lateShown (x : Layout) (e : Nat) : Choice := .made (match nthD Shown.fill x.prevShown e with | .hidden => .fill | s => s)

theorem Dev.sourceLate_none (e : Nat) (h : (d.layout l).comp = none) : d.sourceLate l e = d := by
  unfold Dev.sourceLate
  simp only [h]

theorem Dev.sourceLate_made (e : Nat) (h : (d.layout l).comp = some cp) (hw : cp.choices[e]? ≠ some .waits) : d.sourceLate l e = d := by
  unfold Dev.sourceLate
  simp only [h]

/-- A composition of which a late entry shows what it showed before. -/
def Layout.lateComp (x : Layout) (cp : Composing) (e : Nat) : Composing := { cp with choices := setNth cp.choices e (x.lateShown e) }

/-- The unit once a late entry shows what it showed before, counted and raised. -/
def Dev.lateMade (d : Dev) (l e : Nat) (cp : Composing) : Dev :=
  ((d.setLayout l ((d.layout l).composing ((d.layout l).lateComp cp e))).inc (pgMica (d.layout l).pipe) 0x070).micaEvent (d.layout l).pipe 0 l e cp.tick

theorem Dev.sourceLate_waits (e : Nat) (h : (d.layout l).comp = some cp) (hw : cp.choices[e]? = some .waits) : d.sourceLate l e = (d.lateMade l e cp).micaResolve l := by
  unfold Dev.sourceLate
  simp only [h, hw]
  rfl

theorem Dev.lateMade_mica (d : Dev) (l e : Nat) (cp : Composing) : (d.lateMade l e cp).mica = (d.setLayout l ((d.layout l).composing ((d.layout l).lateComp cp e))).mica :=
  (Dev.raise_noted _ _ _ _ _ _ _).mica

theorem Dev.lateMade_layout (d : Dev) (l e : Nat) (cp : Composing) (k : Nat) :
    (d.lateMade l e cp).layout k = if k = l then (d.layout l).composing ((d.layout l).lateComp cp e) else d.layout k := by
  rw [Dev.layout_congr (d.lateMade_mica l e cp)]
  exact Dev.layout_setLayout _ _ _ _

theorem Dev.lateMade_plan (d : Dev) (l e : Nat) (cp : Composing) : Dev.PlanKept l d (d.lateMade l e cp) := by
  have hset := d.planKept_composing l ((d.layout l).lateComp cp e)
  unfold Dev.lateMade
  generalize d.setLayout l ((d.layout l).composing ((d.layout l).lateComp cp e)) = y at hset ⊢
  exact (hset.trans ((y.picKept_inc _ _).plan l)).trans ((Dev.raise_noted _ _ _ _ _ _ _).picKept.plan l)

theorem Dev.lateMade_count (d : Dev) (l e : Nat) (cp : Composing) :
    (d.lateMade l e cp).counter (pgMica (d.layout l).pipe) 0x070 = d.counter (pgMica (d.layout l).pipe) 0x070 + 1 :=
  (Dev.counter_raise _ _ _ _ _ _ _ (pgMica_ne_errlog _) (by decide)).trans (Dev.counter_inc_same _ _ _)

theorem Dev.micaResolve_plan (d : Dev) (l : Nat) : Dev.PlanKept l d (d.micaResolve l) := by
  cases h : (d.layout l).comp with
  | none =>
    have hsame : d.micaResolve l = d := by unfold Dev.micaResolve; simp only [h]
    rw [hsame]
    exact .refl l d
  | some cp =>
    cases hw : cp.written
    · obtain ⟨b, hdrew⟩ := d.micaResolve_spec h hw
      exact (d.planKept_composing l _).trans hdrew.plan
    · have hsame : d.micaResolve l = d := by
        unfold Dev.micaResolve
        simp only [h]
        exact if_pos hw
      rw [hsame]
      exact .refl l d

theorem Dev.sourceLate_plan (d : Dev) (l e : Nat) : Dev.PlanKept l d (d.sourceLate l e) := by
  cases h : (d.layout l).comp with
  | none => rw [Dev.sourceLate_none e h]; exact .refl l d
  | some cp =>
    by_cases hw : cp.choices[e]? = some .waits
    · rw [Dev.sourceLate_waits e h hw]
      exact (d.lateMade_plan l e cp).trans (Dev.micaResolve_plan _ l)
    · rw [Dev.sourceLate_made e h hw]
      exact .refl l d

theorem lateSource (l e : Nat) (hready : s.ready = true) (hcomp : (s.dev.layout l).comp = some cp) (hwait : cp.choices[e]? = some .waits) (hw : cp.written = false)
    (hlen : cp.entries.length = cp.choices.length) (hdue : cp.tick + (s.dev.layout l).rateDen * secT / max 1 (s.dev.layout l).rateNum / 2 ≤ s.dev.now) :
    ∃ u cq, exec (.sourceLate l e) s = .next u ∧ (u.dev.layout l).comp = some cq ∧ cq.tick = cp.tick ∧
      cq.choices[e]? = some (.made (match nthD Shown.fill (s.dev.layout l).prevShown e with | .hidden => .fill | x => x)) ∧
      u.dev.counter (pgMica (s.dev.layout l).pipe) 0x070 = s.dev.counter (pgMica (s.dev.layout l).pipe) 0x070 + 1 ∧
      ∀ k, k ≠ l → u.dev.layout k = s.dev.layout k := by
  have hrow : exec (.sourceLate l e) s = .next (s.setDev (s.dev.sourceLate l e)) := by
    refine (exec_actReady (f := fun d => match (d.layout l).comp with
      | some cp => if cp.tick + (d.layout l).rateDen * secT / max 1 (d.layout l).rateNum / 2 ≤ d.now then d.sourceLate l e else d
      | none => d) rfl hready).trans ?_
    simp only [hcomp]
    rw [if_pos hdue]
  have hlt : e < cp.choices.length := (List.getElem?_eq_some_iff.1 hwait).1
  have hown : (s.dev.lateMade l e cp).layout l = (s.dev.layout l).composing ((s.dev.layout l).lateComp cp e) := (s.dev.lateMade_layout l e cp l).trans (if_pos rfl)
  obtain ⟨b, hdrew⟩ := (s.dev.lateMade l e cp).micaResolve_spec (l := l) (cp := (s.dev.layout l).lateComp cp e) (by rw [hown]; rfl) hw
  obtain ⟨os, hos⟩ := hdrew.own
  rw [Dev.layout_setLayout, if_pos rfl] at hos
  rw [hrow, Dev.sourceLate_waits e hcomp hwait]
  refine ⟨_, _, rfl, congrArg Layout.comp hos, rfl, ?_, (hdrew.lates _).trans (s.dev.lateMade_count l e cp), fun k hk => ?_⟩
  · have hset : ((s.dev.layout l).lateComp cp e).choices[e]? = some ((s.dev.layout l).lateShown e) := by
      rw [Layout.lateComp, setNth, List.getElem?_set_self hlt]
    have hentry : ((s.dev.layout l).lateComp cp e).entries[e]? = some (cp.entries[e]'(by omega)) := List.getElem?_eq_getElem _
    rw [Dev.asked, List.getElem?_map, (List.getElem?_zip_eq_some (z := (cp.entries[e]'(by omega), (s.dev.layout l).lateShown e))).2 ⟨hentry, hset⟩]
    rfl
  · rw [State.setDev_dev, hdrew.others k hk, Dev.layout_setLayout, if_neg hk, Dev.lateMade_layout, if_neg hk]

/-! ### PICTURE_TICK (R326) -/

theorem Dev.tickOutput_plan (d : Dev) (l oi : Nat) (tick : Time) (rtp : Nat) : Dev.PlanKept l d (d.tickOutput l oi tick rtp).1 := by
  have hqueue : ∀ (x : Dev) (es : List (Nat × EncStream)) (a : Option Nat) (n : Nat), Dev.PlanKept l x (es.foldl (fun (d : Dev) e => d.encTick e.1 (shortOf tick) rtp a n) x) :=
    fun x es a n => (Dev.picKept_foldl _ (fun d e => d.encTick_picKept _ _ _ _ _) es x).plan l
  have hout : ∀ (x : Dev) (g : LayOut → LayOut), Dev.PlanKept l x (x.onLayout l (fun y => y.onOut oi g)) := fun x g => (x.drew_onOut oi g).plan
  have hnote : ∀ (x : Dev) (p o b n : Nat) (t : Time), Dev.PlanKept l x ((x.inc (pgMica p) o).micaEvent p b l n t) := fun x p o b n t =>
    ((x.picKept_inc _ _).trans (Dev.raise_noted _ _ _ _ _ _ _).picKept).plan l
  have hraise : ∀ (x : Dev) (p b n : Nat) (t : Time), Dev.PlanKept l x (x.micaEvent p b l n t) := fun x p b n t => (Dev.raise_noted _ _ _ _ _ _ _).picKept.plan l
  unfold Dev.tickOutput
  dsimp only
  split_ifs
  · exact hout _ _
  · exact ((((d.picKept_inc _ _).plan l).trans (hout _ _)).trans (hraise _ _ _ _ _)).trans (hqueue _ _ _ _)
  · exact (hout _ _).trans (hqueue _ _ _ _)
  · exact (hnote _ _ _ _ _ _).trans (hout _ _)
  · exact hout _ _

/-- One output at a tick, after others. -/
def tickStep (l : Nat) (tick : Time) (rtp : Nat) (a : Dev × List (Nat × Nat)) (o : Nat) : Dev × List (Nat × Nat) :=
  let t := a.1.tickOutput l o tick rtp
  (t.1, a.2 ++ t.2.toList)

/-- The outputs of a layout at its tick, and the slots to write. -/
def Dev.tickOutputs (d : Dev) (l : Nat) (tick : Time) (rtp : Nat) : Dev × List (Nat × Nat) := (List.range 4).foldl (tickStep l tick rtp) (d, [])

theorem Dev.tickOutputs_plan (d : Dev) (l : Nat) (tick : Time) (rtp : Nat) : Dev.PlanKept l d (d.tickOutputs l tick rtp).1 := by
  have hall : ∀ (os : List Nat) (a : Dev × List (Nat × Nat)), Dev.PlanKept l a.1 (os.foldl (tickStep l tick rtp) a).1 := fun os => by
    induction os with
    | nil => exact fun a => .refl l _
    | cons o os ih => exact fun a => (a.1.tickOutput_plan l o tick rtp).trans (ih (tickStep l tick rtp a o))
  exact hall (List.range 4) (d, [])

/-- The picture in hand at a tick completes. -/
def Dev.closePicture (d : Dev) (l : Nat) : Dev :=
  match (d.layout l).comp with
  | some cp => ((List.range cp.choices.length).foldl (fun (d : Dev) e => d.sourceLate l e) d).micaDone l
  | none => d

theorem Dev.closePicture_plan (d : Dev) (l : Nat) : Dev.PlanKept l d (d.closePicture l) := by
  unfold Dev.closePicture
  split
  · exact (Dev.planKept_foldl _ (fun d e => d.sourceLate_plan l e) _ d).trans (Dev.micaDone_plan _ l)
  · exact .refl l d

/-- The entries of a bank at a tick, the bypassed ones hidden. -/
def Layout.tickEntries (x : Layout) (b : Nat) : List LayEntry :=
  (List.range 64).map (fun i =>
    if x.bypass.contains i then { tabGetD {} (x.bank b) i with flags := (tabGetD {} (x.bank b) i).flags / 2 * 2 } else tabGetD {} (x.bank b) i)

/-- The next picture of a layout, of tick `k`, begins. -/
def Dev.newPicture (d : Dev) (l : Nat) (tick : Time) (k : Nat) : Dev :=
  let es := (d.layout l).tickEntries (d.activeBank l)
  let stills := (es.filter (fun e => e.visible && e.kind == 1)).filterMap (fun e =>
    let s := tabGetD {} d.mica.stills e.source
    if s.loaded then some (e.source, d.peekVa 0 (d.stillVa e.source) (fld (d.reg (pgMica 0) 0x060) 0 32)) else none)
  let r := d.tickOutputs l tick ((d.layout l).tickRtp k)
  (r.1.onLayout l (fun y => y.composing ⟨tick, d.activeBank l, es, es.map (fun e => d.choose (d.layout l) tick e), stills, r.2, false⟩)).micaResolve l

/-- The tick of a layout counted. -/
def Dev.ticked (d : Dev) (l : Nat) : Dev := d.setLayout l { d.layout l with tickNo := (d.layout l).tickNo + 1 }

theorem Dev.micaTick_idle (h : (d.layout l).state ≠ .running ∨ (d.page (pgMica (d.layout l).pipe)).state ≠ .ready) : d.micaTick l = d.ticked l := by
  unfold Dev.micaTick
  exact if_pos h

theorem Dev.micaTick_runs (h : (d.layout l).state = .running) (hp : (d.page (pgMica (d.layout l).pipe)).state = .ready) :
    d.micaTick l = ((d.ticked l).closePicture l).newPicture l ((d.layout l).tickAt (d.layout l).tickNo) (d.layout l).tickNo := by
  unfold Dev.micaTick
  refine (if_neg (not_or.2 ⟨not_not_intro h, not_not_intro hp⟩)).trans ?_
  rfl

theorem Dev.ticked_layout (d : Dev) (l : Nat) : (d.ticked l).layout l = { d.layout l with tickNo := (d.layout l).tickNo + 1 } := (Dev.layout_setLayout _ _ _ _).trans (if_pos rfl)

theorem Layout.tickEntries_plan (x : Layout) (b : Nat) : x.plan.tickEntries b = x.tickEntries b := rfl

theorem Dev.PlanKept.tickNo (h : Dev.PlanKept l d e) : (e.layout l).tickNo = (d.layout l).tickNo := (congrArg Layout.tickNo h.plan :)

theorem Dev.PlanKept.activeBank (h : Dev.PlanKept l d e) : e.activeBank l = d.activeBank l := by
  have hpipe : (e.layout l).pipe = (d.layout l).pipe := (congrArg Layout.pipe h.plan :)
  rw [Dev.activeBank, hpipe, h.reg, Dev.activeBank]

/-- A picture that begins: its tick, its bank and its entries, whatever it then shows. -/
theorem Dev.newPicture_spec (d : Dev) (l : Nat) (tick : Time) (k : Nat) : Dev.PlanKept l d (d.newPicture l tick k) ∧
    ∃ cp, ((d.newPicture l tick k).layout l).comp = some cp ∧ cp.tick = tick ∧ cp.bank = d.activeBank l ∧ cp.entries = (d.layout l).tickEntries (d.activeBank l) := by
  unfold Dev.newPicture
  extract_lets es stills r
  obtain ⟨cp, hcp⟩ : ∃ cp : Composing, cp = ⟨tick, d.activeBank l, es, es.map (fun e => d.choose (d.layout l) tick e), stills, r.2, false⟩ := ⟨_, rfl⟩
  have hlay : (r.1.onLayout l (fun y => y.composing cp)).layout l = (r.1.layout l).composing cp := (Dev.layout_setLayout _ _ _ _).trans (if_pos rfl)
  rw [← hcp]
  refine ⟨((d.tickOutputs_plan l tick _).trans (Dev.planKept_composing _ l cp)).trans (Dev.micaResolve_plan _ l), ?_⟩
  obtain ⟨b, hdrew⟩ := Dev.micaResolve_spec (l := l) (cp := cp) (r.1.onLayout l (fun y => y.composing cp)) (by rw [hlay]; rfl) (by rw [hcp])
  obtain ⟨os, hos⟩ := hdrew.own
  rw [Dev.layout_setLayout, if_pos rfl] at hos
  refine ⟨_, congrArg Layout.comp hos, ?_, ?_, ?_⟩
  · rw [hcp]
  · rw [hcp]
  · rw [hcp]

theorem Dev.pictureTick_waits (h : (d.layout l).state = .idle ∨ d.now < (d.layout l).actAt (d.layout l).tickNo) : d.pictureTick l = d := by
  unfold Dev.pictureTick
  exact if_pos (by rcases h with h | h <;> simp [h])

theorem Dev.pictureTick_due (hst : (d.layout l).state ≠ .idle) (hact : (d.layout l).actAt (d.layout l).tickNo ≤ d.now)
    (hep : (d.layout l).tickAt (d.layout l).tickNo < d.clk.nextEpoch * msT) : d.pictureTick l = (d.tickCommits l ((d.layout l).tickAt (d.layout l).tickNo)).micaTick l := by
  unfold Dev.pictureTick
  exact if_neg (by simp [hst, Nat.not_lt.2 hact, Nat.not_le.2 hep])

theorem Dev.micaTick_tickNo (d : Dev) (l : Nat) : ((d.micaTick l).layout l).tickNo = (d.layout l).tickNo + 1 := by
  have hticked : ((d.ticked l).layout l).tickNo = (d.layout l).tickNo + 1 := by rw [d.ticked_layout]
  by_cases h : (d.layout l).state ≠ .running ∨ (d.page (pgMica (d.layout l).pipe)).state ≠ .ready
  · rw [Dev.micaTick_idle h, hticked]
  · rw [not_or, not_not, not_not] at h
    rw [Dev.micaTick_runs h.1 h.2]
    have hplan := ((d.ticked l).closePicture_plan l).trans (Dev.newPicture_spec _ l ((d.layout l).tickAt (d.layout l).tickNo) (d.layout l).tickNo).1
    exact hplan.tickNo.trans hticked

theorem pictureTick_due (l : Nat) (hready : s.ready = true) (hst : (s.dev.layout l).state ≠ .idle) (hact : (s.dev.layout l).actAt (s.dev.layout l).tickNo ≤ s.dev.now)
    (hep : (s.dev.layout l).tickAt (s.dev.layout l).tickNo < s.dev.clk.nextEpoch * msT) :
    ∃ u, exec (.pictureTick l) s = .next u ∧ (u.dev.layout l).tickNo = (s.dev.layout l).tickNo + 1 ∧
      ((s.dev.layout l).state = .running → s.dev.ctl.groups = [] → (s.dev.page (pgMica (s.dev.layout l).pipe)).state = .ready →
        ∃ cp, (u.dev.layout l).comp = some cp ∧ cp.tick = (s.dev.layout l).tickAt (s.dev.layout l).tickNo ∧ cp.bank = s.dev.activeBank l ∧
          cp.entries = (s.dev.layout l).tickEntries (s.dev.activeBank l)) := by
  refine ⟨_, exec_actReady (f := fun d => d.pictureTick l) rfl hready, ?_, fun hrun hgroups hpage => ?_⟩
  · rw [State.setDev_dev, Dev.pictureTick_due hst hact hep, Dev.micaTick_tickNo, Dev.layout_congr (Dev.mica_tickCommits _ _ _)]
  · rw [State.setDev_dev, Dev.pictureTick_due hst hact hep, Dev.tickCommits_none _ _ hgroups, Dev.micaTick_runs hrun hpage]
    have hclose := (s.dev.ticked l).closePicture_plan l
    obtain ⟨-, cp, hcp, htick, hbank, hentries⟩ := ((s.dev.ticked l).closePicture l).newPicture_spec l ((s.dev.layout l).tickAt (s.dev.layout l).tickNo) (s.dev.layout l).tickNo
    have hactive : (s.dev.ticked l).activeBank l = s.dev.activeBank l := by
      rw [Dev.activeBank, s.dev.ticked_layout]
      rfl
    rw [hclose.activeBank, hactive] at hbank hentries
    refine ⟨cp, hcp, htick, hbank, hentries.trans ?_⟩
    rw [← Layout.tickEntries_plan, hclose.plan, Layout.tickEntries_plan, s.dev.ticked_layout]
    rfl

/-! ### MICA_PICTURE_DONE as a row -/

theorem pictureDone (l : Nat) (hready : s.ready = true) (hcomp : (s.dev.layout l).comp = some cp) (hw : cp.written = true) :
    ∃ u, exec (.micaPictureDone l) s = .next u ∧ (u.dev.layout l).comp = none ∧ (u.dev.layout l).lastTick = shortOf cp.tick ∧
      (u.dev.layout l).prevEntries = cp.entries ∧ (u.dev.layout l).prevShown = cp.choices.map Choice.shown ∧
      u.dev.counter (pgMica (s.dev.layout l).pipe) 0x068 = s.dev.counter (pgMica (s.dev.layout l).pipe) 0x068 + 1 ∧
      ∀ k, k ≠ l → u.dev.layout k = s.dev.layout k := by
  obtain ⟨y, hy, hcount, heq⟩ := Dev.micaDone_spec hcomp hw
  have hlay : ∀ k, (s.dev.micaDone l).layout k = if k = l then (y.layout l).shownOf cp else y.layout k := fun k => by
    rw [heq]
    exact Dev.layout_setLayout _ _ _ _
  refine ⟨_, exec_actReady (f := fun d => d.micaDone l) rfl hready, ?_⟩
  rw [State.setDev_dev, hlay l, if_pos rfl]
  refine ⟨rfl, rfl, rfl, rfl, ?_, fun k hk => ?_⟩
  · rw [heq]
    exact hcount
  · rw [hlay k, if_neg hk, Dev.layout_congr hy.mica]

/-! ### MICA_INTERNAL_FAULT (R359) and STILL_BASE (R361) -/

theorem micaFault_off (i : Nat) (hup : s.up = true) (h : 2 ≤ i ∨ (s.dev.page (pgMica i)).state = .off) : exec (.micaInternalFault i) s = .next (s.setDev s.dev) := by
  rw [exec_act (f := fun d => if 2 ≤ i ∨ (d.page (pgMica i)).state = .off then d else d.onPage (pgMica i) (fun h => { h with state := .faulted })) rfl hup, if_pos h]

theorem micaFault_on (i : Nat) (hup : s.up = true) (hi : i < 2) (hon : (s.dev.page (pgMica i)).state ≠ .off) :
    ∃ u, exec (.micaInternalFault i) s = .next u ∧ PageBecomes s u (pgMica i) { s.dev.page (pgMica i) with state := .faulted } := by
  refine ⟨_, exec_act (f := fun d => if 2 ≤ i ∨ (d.page (pgMica i)).state = .off then d else d.onPage (pgMica i) (fun h => { h with state := .faulted })) rfl hup, ?_⟩
  rw [if_neg (by simp [hon]; omega)]
  exact pageBecomes_setDev ((Dev.OnlyPage.refl s.dev _).onPage _)

theorem mica_stillBase : ∃ g, PType.mica.regAt 0x058 = some g ∧ g.rws = false ∧ FieldsApart g.flds ∧ (⟨0, 1, .rw, 0, .any⟩ : Fld) ∈ g.flds ∧
    (⟨16, 32, .rw, 0, .any⟩ : Fld) ∈ g.flds :=
  ⟨_, rfl, rfl, by unfold FieldsApart; decide, by decide, by decide⟩

/-- STILL_BASE written with ENABLE 1 while it is 0: the register, and what the page counts and holds. -/
theorem Dev.stillBaseWrite_enables (d : Dev) (hoff : bit (d.reg (pgMica 0) 0x058) 0 = false) (hm : bit (d.mergeAt (pgMica 0) 0x058 v).1 0 = true) :
    (d.setReg (pgMica 0) 0x058 (if 1024 * fld (d.reg (pgMica 0) 0x060) 0 32 ≠ 0 ∧
        d.pinned 0 (fld (d.mergeAt (pgMica 0) 0x058 v).1 16 32 * 65536) (1024 * fld (d.reg (pgMica 0) 0x060) 0 32) = true then (d.mergeAt (pgMica 0) 0x058 v).1
      else setFld (d.mergeAt (pgMica 0) 0x058 v).1 0 1 0)).RegOnly (d.stillBaseWrite v) := by
  have hkept := Dev.errs_noted d (pgMica 0) (d.mergeAt (pgMica 0) 0x058 v).2
  have hpin : ∀ va n, (d.errs (pgMica 0) (d.mergeAt (pgMica 0) 0x058 v).2).pinned 0 va n = d.pinned 0 va n := fun va n => Dev.pinned_congr hkept.xlat _ _ _
  unfold Dev.stillBaseWrite
  simp only [hoff, Bool.false_and, Bool.false_eq_true, if_false, hm, Bool.not_false, Bool.and_true, if_true, Dev.reg_errs, hpin]
  generalize d.mergeAt (pgMica 0) 0x058 v = m at hkept ⊢
  have hset : ∀ w, (d.setReg (pgMica 0) 0x058 w).RegOnly ((d.errs (pgMica 0) m.2).setReg (pgMica 0) 0x058 w) := fun w => by
    rw [hkept]
    exact ⟨rfl, rfl⟩
  split
  · exact (hset _).trans (Dev.hold_regOnly _ _ _ _ _ _)
  · exact (hset _).trans (Dev.err_noted _ _ _).regOnly

theorem Writable.stillBase (h : Writable s (pgMica 0)) (hoff : bit (s.dev.reg (pgMica 0) 0x058) 0 = false) (hv : bit v 0 = true) :
    ∃ u, exec (.stillBaseWrite v) s = .next u ∧
      bit (u.dev.reg (pgMica 0) 0x058) 0 = (decide (fld (s.dev.reg (pgMica 0) 0x060) 0 32 ≠ 0) &&
        s.dev.pinned 0 (fld v 16 32 * 65536) (1024 * fld (s.dev.reg (pgMica 0) 0x060) 0 32)) ∧
      ∀ o, o < 4096 → o ≠ 0x058 → u.dev.reg (pgMica 0) o = s.dev.reg (pgMica 0) o := by
  obtain ⟨g, hg, hrws, hapart, henable, hbase⟩ := mica_stillBase
  have hty : pageType (pgMica 0) = some .mica := rfl
  have hlive : (s.setDev s.dev).liveWrite (pgMica 0) .mica g 0x058 v = (s.setDev s.dev).onDev fun d => d.stillBaseWrite v := by
    simp only [State.liveWrite]
    rw [if_pos trivial, if_pos (by decide)]
  have hm : bit (s.dev.mergeAt (pgMica 0) 0x058 v).1 0 = true := by rw [mergeAt_of_regAt hty hg, bit_mergeFields_any hapart henable, hv]
  have hf : fld (s.dev.mergeAt (pgMica 0) 0x058 v).1 16 32 = fld v 16 32 := by rw [mergeAt_of_regAt hty hg, fld_mergeFields_any hapart hbase]
  have hreg := s.dev.stillBaseWrite_enables (v := v) hoff hm
  rw [hf] at hreg
  refine ⟨_, congrArg Host.Outcome.next (h.hostWrite_live hty hg hrws rfl (by decide) (by decide) hlive hreg.2), ?_, fun o ho hne => ?_⟩
  · rw [State.setDev_dev, hreg.reg, Dev.reg_setReg, if_pos rfl]
    by_cases hall : 1024 * fld (s.dev.reg (pgMica 0) 0x060) 0 32 ≠ 0 ∧ s.dev.pinned 0 (fld v 16 32 * 65536) (1024 * fld (s.dev.reg (pgMica 0) 0x060) 0 32) = true
    · rw [if_pos hall, hm, hall.2, Bool.and_true, decide_eq_true (by omega)]
    · rw [if_neg hall, bit_setFld_self _ _ (by decide)]
      by_cases hz : fld (s.dev.reg (pgMica 0) 0x060) 0 32 = 0
      · simp [hz]
      · have hpin := (not_and.1 hall) (by omega)
        simp [Bool.not_eq_true _ ▸ hpin]
  · rw [State.setDev_dev, hreg.reg, Dev.reg_setReg, if_neg fun hk => hne ((regKey_inj ho (by decide)).1 hk).2]

/-- Settles O25: a picture's tick takes its entries, a late source shows what it showed, a picture done is counted, and the faults and STILL_BASE. -/
theorem micaEvents : Obligations.MicaEvents := by
  refine ⟨fun s l hready => ?_, fun s l hready hst hact hep => pictureTick_due l hready hst hact hep, fun s l e cp hready hcomp hwait hw hlen hdue => lateSource l e hready hcomp hwait hw hlen hdue,
    fun s l cp hready hcomp hw => pictureDone l hready hcomp hw, fun s i hup h => micaFault_off i hup h, fun s i hup hi hon => micaFault_on i hup hi hon, fun s v h hoff hv => h.stillBase hoff hv⟩
  have htick := exec_actReady (i := .pictureTick l) (f := fun d => d.pictureTick l) rfl hready
  have hdone := exec_actReady (i := .micaPictureDone l) (f := fun d => d.micaDone l) rfl hready
  have hlate : ∀ e, exec (.sourceLate l e) s = .next (s.setDev (match (s.dev.layout l).comp with
      | some cp => if cp.tick + (s.dev.layout l).rateDen * secT / max 1 (s.dev.layout l).rateNum / 2 ≤ s.dev.now then s.dev.sourceLate l e else s.dev
      | none => s.dev)) := fun e => exec_actReady (f := fun d => match (d.layout l).comp with
      | some cp => if cp.tick + (d.layout l).rateDen * secT / max 1 (d.layout l).rateNum / 2 ≤ d.now then d.sourceLate l e else d
      | none => d) rfl hready
  refine ⟨htick, hdone, fun h => ?_, fun h => ?_, fun e h => ?_, fun e cp h => ?_⟩
  · rw [htick, Dev.pictureTick_waits h]
  · rw [hdone, Dev.micaDone_none h]
  · rw [hlate, h]
  · rw [hlate, h]

end Sys2Proof.Machine
end

section
/-! A packet of a leg on its way out: what protecting, queueing and offering it may change (R168, R183 to R189, R530, R568). -/

namespace Sys2Proof.Machine
open Sys2Proof

variable {d e f : Dev} {k l n : Nat}

/-! ### What sending touches -/

/-- Only what notes leave, key slots and contexts, queues, and what the pair remembers of a packet may differ. -/
def Dev.Sends (d e : Dev) : Prop :=
  Dev.Noted { d with flint := e.flint, egress := e.egress, pair := { d.pair with log := e.pair.log, built := e.pair.built, held := e.pair.held } } e

theorem Dev.Sends.refl (d : Dev) : d.Sends d := Dev.Noted.refl d
theorem Dev.Sends.trans (h : d.Sends e) (k : e.Sends f) : d.Sends f := by
  unfold Dev.Sends Dev.Noted at *
  rw [k, h]
theorem Dev.Sends.ite {q : Prop} [Decidable q] (h : d.Sends e) (k : d.Sends f) : d.Sends (if q then e else f) := by
  split
  · exact h
  · exact k
theorem Dev.EgressWork.sends (h : d.EgressWork e) : d.Sends e := by
  unfold Dev.EgressWork Dev.Noted at h
  unfold Dev.Sends Dev.Noted
  rw [h]
theorem Dev.Noted.sends (h : d.Noted e) : d.Sends e := h.egressWork.sends
theorem Dev.Sends.geode (h : d.Sends e) : e.geode = d.geode := by rw [h]
theorem Dev.Sends.legs (h : d.Sends e) : e.legs = d.legs := by rw [h]
theorem Dev.Sends.clk (h : d.Sends e) : e.clk = d.clk := by rw [h]
theorem Dev.Sends.reg (h : d.Sends e) (p o : Nat) : e.reg p o = d.reg p o := by
  unfold Dev.Sends at h
  exact h.reg p o
theorem Dev.Sends.leg (h : d.Sends e) (l : Nat) : e.leg l = d.leg l := by rw [Dev.leg, h.legs, Dev.leg]

theorem Dev.record_sends (d : Dev) (a b : Nat) (v : List Int) : d.Sends (d.record a b v) := .ite rfl (.refl d)
theorem Dev.noteBuilt_sends (d : Dev) (l : Nat) (b : List Byte) : d.Sends (d.noteBuilt l b) := .ite rfl (.refl d)
theorem Dev.setSlot_sends (d : Dev) (k : Nat) (x : KeySlot) : d.Sends (d.setSlot k x) := rfl
theorem Dev.putCtx_sends (d : Dev) (k : Nat) (x : SrtpCtx) : d.Sends (d.putCtx k x) := rfl
theorem Dev.inc_sends (d : Dev) (p o : Nat) : d.Sends (d.inc p o) := rfl
theorem Dev.bump_sends (d : Dev) (p o n : Nat) : d.Sends (d.bump p o n) := rfl

theorem Dev.egressCurrent_sends (d : Dev) (k : Nat) (h : KeyHalf) : d.Sends (d.egressCurrent k h) := by
  unfold Dev.egressCurrent
  exact (Dev.Sends.ite (d.record_sends _ _ _) (.refl d)).trans rfl

theorem Dev.flintOut_sends (d : Dev) (k : Nat) (rtcp : Bool) (p : List Byte) : d.Sends (d.flintOut k rtcp p).1 := by
  unfold Dev.flintOut
  extract_lets s ssrc known c idx spent switches c'
  split
  · exact d.inc_sends _ _
  · extract_lets h out d1 d2 y d3 d4 warn mark z d5
    split
    · exact d.inc_sends _ _
    · split
      · exact ((d.putCtx_sends _ _).trans (Dev.inc_sends _ _ _)).trans (Dev.raise_noted _ _ _ _ _ _ _).sends
      · have h3 : d.Sends d3 := Dev.Sends.trans (e := d2) rfl (.ite (Dev.setSlot_sends _ _ _) (.refl _))
        have h4 : d3.Sends d4 := by
          unfold d4
          split
          · exact .ite (Dev.egressCurrent_sends _ _ _) (.refl _)
          · exact .refl _
        have hwarn : ∀ y : KeySlot, ∀ p : Nat, d4.Sends (((d4.setSlot k y).flintEvent 3 k ssrc).event p 1) := fun y p =>
          (d4.setSlot_sends k y).trans ((Dev.raise_noted _ _ _ _ _ _ _).trans (Dev.event_noted _ _ _)).sends
        exact (h3.trans h4).trans (.ite (hwarn _ _) (.refl _))

theorem Dev.protect_sends (d : Dev) (l : Nat) (rtcp : Bool) (b : List Byte) : d.Sends (d.protect l rtcp b).1 := by
  unfold Dev.protect
  split
  · exact d.flintOut_sends _ _ _
  · exact .refl d

theorem Dev.enqueue_sends (d : Dev) (k : Nat) (x : EFrame) : d.Sends (d.enqueue k x) := (d.enqueue_egressWork k x).sends

theorem Dev.egressPut_sends (d : Dev) (k : Nat) (x : EFrame) : d.Sends (d.egressPut k x) := by
  unfold Dev.egressPut
  split
  · exact .ite rfl (d.enqueue_sends k x)
  · exact d.enqueue_sends k x

theorem Dev.sendRtp_sends (d : Dev) (l : Nat) (repair audio : Bool) (pool : Option PoolRef) (b : List Byte) : d.Sends (d.sendRtp l repair audio pool b) := by
  have hprot : d.Sends ((d.noteBuilt l b).protect l false b).1 := (d.noteBuilt_sends l b).trans (Dev.protect_sends _ _ _ _)
  unfold Dev.sendRtp
  dsimp only
  split
  · exact hprot
  · exact (hprot.trans (Dev.inc_sends _ _ _)).trans (Dev.egressPut_sends _ _ _)

theorem Dev.sendRtcp_sends (d : Dev) (l : Nat) (b : List Byte) : d.Sends (d.sendRtcp l b) := by
  have hprot := d.protect_sends l true b
  unfold Dev.sendRtcp
  dsimp only
  split
  · exact hprot
  · exact hprot.trans (Dev.enqueue_sends _ _ _)

theorem Dev.sendStun_sends (d : Dev) (l : Nat) (b : List Byte) : d.Sends (d.sendStun l b) := d.enqueue_sends _ _

/-! ### A packet offered on a subscription -/

theorem Dev.egressFec_geode (d : Dev) (n l : Nat) (b : List Byte) : (d.egressFec n l b).geode = d.geode := by
  unfold Dev.egressFec
  dsimp only
  split
  · rfl
  · split
    · rfl
    · split
      · rfl
      · exact (Dev.sendRtp_sends _ _ _ _ _ _).geode

theorem Dev.sendInst_geode (d : Dev) (n idx : Nat) (audio : Bool) (layer : Option Nat) (ids : List Nat) (p : Pkt) : (d.sendInst n idx audio layer ids p).geode = d.geode := by
  unfold Dev.sendInst
  split
  · rfl
  · split
    · rfl
    next x _ _ =>
      have hsent : ∀ (r : Option Inst) (h : Hist) (ref : Option PoolRef) (b : List Byte), ((((d.setInst n r).remember x.receiver h).sendRtp x.receiver false audio ref b)).geode = d.geode :=
        fun _ _ _ _ => (Dev.sendRtp_sends _ _ _ _ _ _).geode
      dsimp only
      split
      · exact hsent _ _ _ _
      · exact (Dev.egressFec_geode _ _ _ _).trans (hsent _ _ _ _)

theorem Dev.offer_geode (d : Dev) (n idx : Nat) (drop simul : Bool) (layer : Nat) (ids : List Nat) (p : Pkt) : (d.offer n idx drop simul layer ids p).geode = d.geode := by
  unfold Dev.offer
  split
  · rfl
  next x _ =>
    have hmeet : ∀ y : Inst, (if y.cur = x.cur then d else (d.setInst n (some y)).inc pgLegs 0x0D8).geode = d.geode := fun y => by split <;> rfl
    split
    · rfl
    · dsimp only
      split
      · exact hmeet _
      · split
        · exact (Dev.raise_noted _ _ _ _ _ _ _).geode.trans (hmeet _)
        · exact (Dev.sendInst_geode _ _ _ _ _ _ _).trans (hmeet _)

/-- Steps that keep a part of the device keep it one after the other. -/
theorem Dev.kept_foldl {α β : Type} (part : Dev → β) (g : Dev → α → Dev) (hg : ∀ (d : Dev) (a : α), part (g d a) = part d) (as : List α) (d : Dev) :
    part (as.foldl g d) = part d := by
  induction as generalizing d with
  | nil => rfl
  | cons a t ih => exact (ih _).trans (hg d a)

theorem Dev.forwardOutput_geode (d : Dev) (x o : Nat) (simul : Bool) (layer : Nat) (p : Pkt) : (d.forwardOutput x o simul layer p).geode = d.geode := by
  unfold Dev.forwardOutput
  refine Dev.kept_foldl Dev.geode _ (fun d c => ?_) _ _
  split
  · rfl
  · exact d.offer_geode _ _ _ _ _ _ _

end Sys2Proof.Machine
end

section
/-! What notes, writes and the end of a job leave of Geode's streams and engines (R212, R217 to R223, R257, R275). -/

namespace Sys2Proof.Machine
open Sys2Proof

variable {d e f : Dev} {i k l n p : Nat}

theorem Dev.Recorded.geode (h : d.Recorded e) : e.geode = d.geode := by rw [h]
theorem Dev.geRun_congr (h : e.geode = d.geode) (l : Nat) : e.geRun l = d.geRun l := by rw [Dev.geRun, h, Dev.geRun]

/-! ### Notes and writes -/

theorem Dev.writeVa_geode (d : Dev) (r va : Nat) (b : List Byte) : (d.writeVa r va b).geode = d.geode := (d.writeVa_recorded r va b).geode

theorem Dev.writeSurface_recorded (d : Dev) (r va : Nat) (sh : ShShape) (m : ShMarks) (a b : Plane) : d.Recorded (d.writeSurface r va sh m a b) := by
  have htiles : ∀ (g : Dev → Nat → Dev), (∀ d k, Dev.Recorded d (g d k)) → ∀ (ks : List Nat) (d : Dev), d.Recorded (ks.foldl g d) := fun g hg ks => by
    induction ks with
    | nil => exact fun d => .refl d
    | cons k ks ih => exact fun d => (hg d k).trans (ih _)
  exact (d.writeVa_recorded _ _ _).trans (htiles _ (fun d k => (d.writeVa_recorded _ _ _).trans (Dev.writeVa_recorded _ _ _ _)) _ _)

theorem Dev.geTrace_geode (d : Dev) (l ev stream : Nat) (dec : Bool) (row : Nat) (x y : Word) : (d.geTrace l ev stream dec row x y).geode = d.geode := by
  unfold Dev.geTrace
  refine (Dev.trace_noted _ _ _ _ _ _ _).geode.trans ?_
  split
  · rfl
  · exact d.geode_jobItem _ _

theorem Dev.geDrained_geode (d : Dev) (l : Nat) : (d.geDrained l).geode = d.geode := by
  refine Dev.kept_foldl Dev.geode _ (fun d p => ?_) _ _
  split
  · exact (Dev.finish_completed _ _ _ _ _ _).geode
  · rfl

/-- A job that leaves service leaves its engine free, and every stream and other engine as they were. -/
theorem Dev.geRelease_geode (d : Dev) (l : Nat) : (d.geRelease l).geode = (d.setGeRun l none).geode := Dev.geDrained_geode _ _

theorem Dev.geRun_geRelease (d : Dev) (l : Nat) : (d.geRelease l).geRun l = none := by
  rw [Dev.geRun_congr (d.geRelease_geode l), Dev.geRun_setGeRun, if_pos rfl]
theorem Dev.encS_geRelease (d : Dev) (l k : Nat) : (d.geRelease l).encS k = d.encS k := Dev.encS_congr (d.geRelease_geode l) k
theorem Dev.decS_geRelease (d : Dev) (l k : Nat) : (d.geRelease l).decS k = d.decS k := Dev.decS_congr (d.geRelease_geode l) k

/-! ### An encode job ends -/

/-- The entry of a job is written: of the streams and engines only the ring of its stream differs. -/
theorem Dev.encStatus_spec (d : Dev) {j : EncJob} (h : (d.encS i).jobs.head? = some j) (res : Nat) :
    ∃ rg : StatusRing, rg.idx = ((d.encS i).ring.idx + 1) % 256 ∧ (d.encStatus i res).geode = (d.setEncS i { d.encS i with ring := rg }).geode := by
  unfold Dev.encStatus
  dsimp only
  rw [h]
  dsimp only
  have hout : ∀ e : Dev, e.geode = d.geode → ∃ rg : StatusRing, rg.idx = ((d.encS i).ring.idx + 1) % 256 ∧
      (e.setEncS i { d.encS i with ring := e.ringWritten (d.encS i).realm (d.encS i).ring (d.encS i).desc.consumer }).geode =
        (d.setEncS i { d.encS i with ring := rg }).geode := fun e he => ⟨_, rfl, by rw [Dev.setEncS, Dev.setEncS, he]⟩
  refine hout _ ((Dev.geTrace_geode _ _ _ _ _ _ _ _).trans ((Dev.writeVa_geode _ _ _ _).trans ?_))
  split
  · exact ((d.inc_noted _ _).trans (Dev.geEvent_noted _ _ _ _ _)).geode
  · rfl

/-- The oldest job of a running stream, not its last, ends: it leaves the stream, its entry is written and its engine is free. -/
theorem Dev.encEnd_runs (d : Dev) {j : EncJob} {r : GeRun} (h : (d.encS i).jobs.head? = some j) (hlast : j.last = false) (hst : (d.encS i).state = .running)
    (hr : d.geRun (d.encS i).engine = some r) (hdec : r.dec = false) (hs : r.stream = i) (res : Nat) :
    (d.encEnd i res).geRun (d.encS i).engine = none ∧ ((d.encEnd i res).encS i).jobs = (d.encS i).jobs.drop 1 ∧
      ((d.encEnd i res).encS i).ring.idx = ((d.encS i).ring.idx + 1) % 256 := by
  obtain ⟨rg, hidx, hgeo⟩ := d.encStatus_spec h res
  have hx : (d.encStatus i res).encS i = { d.encS i with ring := rg } := by rw [Dev.encS_congr hgeo, Dev.encS_setEncS, if_pos rfl]
  unfold Dev.encEnd
  dsimp only
  rw [h, hr]
  dsimp only
  rw [if_neg (show ¬(j.last && decide ((d.encS i).state ≠ .closing)) = true by rw [hlast]; exact Bool.false_ne_true),
    if_pos (show (!r.dec && r.stream == i) = true by rw [hdec, hs]; exact beq_self_eq_true i)]
  have hstream : ∀ x : Dev, x.encS i = { d.encS i with ring := rg } →
      ((x.onEncS i fun y => { y with jobs := y.jobs.drop 1 }).geRelease (d.encS i).engine).encS i = { d.encS i with ring := rg, jobs := (d.encS i).jobs.drop 1 } := fun x hx => by
    rw [Dev.encS_geRelease, Dev.onEncS, Dev.encS_setEncS, if_pos rfl, hx]
  have hidle : ∀ x : Dev, (x.encS i).state = .running → x.encIdle i = x := fun x hx => by
    unfold Dev.encIdle
    exact if_neg fun hc => absurd (hx.symm.trans hc.1) (by decide)
  have hend := hstream _ hx
  rw [hidle _ (by rw [hend]; exact hst), hend]
  exact ⟨Dev.geRun_geRelease _ _, rfl, hidx⟩

/-! ### A decode job ends -/

theorem Dev.decStatus_spec (d : Dev) {j : DecJob} (h : (d.decS i).jobs.head? = some j) (m : DecMarks) :
    ∃ (un : List (Nat × Nat)) (rg : StatusRing), rg.idx = ((d.decS i).ring.idx + 1) % 256 ∧
      (d.decStatus i m).geode = (d.setDecS i { d.decS i with unread := un, ring := rg }).geode := by
  unfold Dev.decStatus
  dsimp only
  rw [h]
  dsimp only
  have hout : ∀ (e : Dev) (w : List (Nat × Nat)), e.geode = d.geode → ∃ (un : List (Nat × Nat)) (rg : StatusRing), rg.idx = ((d.decS i).ring.idx + 1) % 256 ∧
      (e.setDecS i { d.decS i with unread := w, ring := e.ringWritten (d.decS i).realm (d.decS i).ring (d.decS i).desc.consumer }).geode =
        (d.setDecS i { d.decS i with unread := un, ring := rg }).geode := fun e w he => ⟨w, _, rfl, by rw [Dev.setDecS, Dev.setDecS, he]⟩
  refine hout _ _ ((Dev.geTrace_geode _ _ _ _ _ _ _ _).trans ((Dev.writeVa_geode _ _ _ _).trans ?_))
  split
  · exact ((d.inc_noted _ _).trans (Dev.geEvent_noted _ _ _ _ _)).geode
  · rfl

/-- The oldest job of a running decode stream, not its last, ends. -/
theorem Dev.decEnd_runs (d : Dev) {j : DecJob} {r : GeRun} (h : (d.decS i).jobs.head? = some j) (hlast : j.last = false) (hst : (d.decS i).state = .running)
    (hr : d.geRun (d.decS i).engine = some r) (hdec : r.dec = true) (hs : r.stream = i) (m : DecMarks) :
    (d.decEnd i m).geRun (d.decS i).engine = none ∧ ∃ (un : List (Nat × Nat)) (rg : StatusRing), rg.idx = ((d.decS i).ring.idx + 1) % 256 ∧
      (d.decEnd i m).decS i = { d.decS i with jobs := (d.decS i).jobs.drop 1, unread := un, ring := rg } := by
  obtain ⟨un, rg, hidx, hgeo⟩ := d.decStatus_spec h m
  have hx : (d.decStatus i m).decS i = { d.decS i with unread := un, ring := rg } := by rw [Dev.decS_congr hgeo, Dev.decS_setDecS, if_pos rfl]
  unfold Dev.decEnd
  dsimp only
  rw [h, hr]
  dsimp only
  rw [if_neg (show ¬(j.last && decide ((d.decS i).state ≠ .closing)) = true by rw [hlast]; exact Bool.false_ne_true),
    if_pos (show (r.dec && r.stream == i) = true by rw [hdec, hs]; exact beq_self_eq_true i)]
  have hstream : ∀ x : Dev, x.decS i = { d.decS i with unread := un, ring := rg } →
      ((x.onDecS i fun y => { y with jobs := y.jobs.drop 1 }).geRelease (d.decS i).engine).decS i =
        { d.decS i with jobs := (d.decS i).jobs.drop 1, unread := un, ring := rg } := fun x hx => by
    rw [Dev.decS_geRelease, Dev.onDecS, Dev.decS_setDecS, if_pos rfl, hx]
  have hidle : ∀ x : Dev, (x.decS i).state = .running → x.decIdle i = x := fun x hx => by
    unfold Dev.decIdle
    exact if_neg fun hc => absurd (hx.symm.trans hc.1) (by decide)
  have hend := hstream _ hx
  rw [hidle _ (by rw [hend]; exact hst), hend]
  exact ⟨Dev.geRun_geRelease _ _, un, rg, hidx, rfl⟩

end Sys2Proof.Machine
end

section
/-! The jobs of encode streams: how one starts, halts, finishes and gives way (R217 to R226, R728). -/

namespace Sys2Proof.Machine
open Sys2Proof

variable {d e f : Dev} {i k l n p : Nat} {j : EncJob}

/-- The oldest job of an encode stream may start now. -/
def Dev.encGoes (d : Dev) (i : Nat) : Bool := d.geMayStart (d.encS i).engine false i (fun c => c.dec || d.encSpace c.stream)

theorem Dev.encStart_waits (h : (d.encS i).jobs.head? = some j) (hgo : d.encGoes i = false) : d.encStart i = d := by
  unfold Dev.encStart
  dsimp only
  rw [h]
  dsimp only
  exact if_pos (by rw [Bool.not_eq_true']; exact hgo)

/-- A job whose source does not translate halts with a fault, saved at the row that it could not read. -/
theorem Dev.encStart_faults (h : (d.encS i).jobs.head? = some j) (hgo : d.encGoes i = true) {x : XErr} {row : Nat} (hsrc : d.encSource (d.encS i) j = some (x, row))
    (hsaved : d.geSaved (d.encS i).engine < 64) :
    (d.encStart i).geRun (d.encS i).engine = d.geRun (d.encS i).engine ∧
      ∃ k, ((d.encStart i).encS i).jobs.head? = some k ∧ k.fault.isSome = true ∧ k.saved = some (0, row) ∧ k.started = true := by
  obtain ⟨t, ht⟩ : ∃ t, (d.encS i).jobs = j :: t := by
    cases hjobs : (d.encS i).jobs with
    | nil => rw [hjobs] at h; exact nomatch h
    | cons a t => rw [hjobs] at h; cases h; exact ⟨t, rfl⟩
  have hfull : (decide (64 ≤ d.geSaved (d.encS i).engine) && j.saved.isNone) = false := by rw [decide_eq_false (by omega), Bool.false_and]
  unfold Dev.encStart
  dsimp only
  rw [h]
  dsimp only
  rw [if_neg (show ¬(!d.geMayStart (d.encS i).engine false i fun c => c.dec || d.encSpace c.stream) = true by rw [show d.geMayStart _ _ _ _ = true from hgo]; exact Bool.false_ne_true),
    hsrc]
  dsimp only
  rw [hfull, if_neg Bool.false_ne_true]
  have hgeo : ∀ (y : FaultWork) (p : Nat) (a b : Word), (((d.recordFault (d.encS i).realm x false 1 (0x040 + d.geUnitOf (d.encS i).engine) y false).1.geEvent p 3 a b)).geode = d.geode :=
    fun y p a b => (Dev.geEvent_noted _ _ _ _ _).geode.trans (d.recordFault_spec _ _ _ _ _ _ _).1.geode
  refine ⟨Dev.geRun_congr (hgeo _ _ _ _) _, ?_⟩
  rw [Dev.onEncS, Dev.encS_setEncS, if_pos rfl, Dev.encS_congr (hgeo _ _ _ _), ht]
  exact ⟨_, rfl, rfl, rfl, rfl⟩

/-! ### A picture coded -/

theorem codeOnes_bytes (g : PicAcc → Nat → PicAcc) (hg : ∀ a k, (g a k).bytes.length = a.bytes.length + 1) (ks : List Nat) (a : PicAcc) :
    (ks.foldl g a).bytes.length = a.bytes.length + ks.length := by
  induction ks generalizing a with
  | nil => rfl
  | cons k ks ih => rw [List.foldl_cons, ih, hg, List.length_cons]; omega

/-- A coded picture has the bytes of each of its layers. -/
theorem Dev.codeJob_bytes (d : Dev) (x : EncStream) (j : EncJob) (direct : Bool) : (d.codeJob x j direct).2.bytes.length = j.layers := by
  refine (codeOnes_bytes _ (fun a k => ?_) _ _).trans (by simp)
  exact List.length_append

theorem Dev.encTiles_geode (d : Dev) (u : Nat) (x : EncStream) (j : EncJob) : (d.encTiles u x j).geode = d.geode := by
  unfold Dev.encTiles
  split
  · rfl
  · exact (Dev.noted_foldl _ (fun d _ => d.report_noted _) _ _).geode

theorem Dev.geode_ite {q : Prop} [Decidable q] {g : Geode} (h : e.geode = g) (k : f.geode = g) : (if q then e else f).geode = g := by
  split
  · exact h
  · exact k

/-- The job in service as it starts or resumes: its results where it had none. -/
def Dev.encTaken (d : Dev) (i : Nat) (j : EncJob) : EncStream × EncJob :=
  if j.coded then (d.encS i, j) else d.codeJob (d.encS i) j (d.freeWord.getLsbD 0)

/-- The stream of a job that starts. -/
def Dev.encServed (d : Dev) (i : Nat) (j : EncJob) : EncStream :=
  { (d.encTaken i j).1 with
    state := if (d.encS i).state = .opened then .running else (d.encS i).state
    jobs := { (d.encTaken i j).2 with started := true, saved := none } :: (d.encS i).jobs.drop 1 }

theorem Dev.encStart_runs (h : (d.encS i).jobs.head? = some j) (hgo : d.encGoes i = true) (hsrc : d.encSource (d.encS i) j = none) :
    (d.encStart i).geode = ((d.setEncS i (d.encServed i j)).setGeRun (d.encS i).engine (some ⟨false, i, (j.saved.getD (0, 0)).1, (j.saved.getD (0, 0)).2⟩)).geode := by
  unfold Dev.encStart
  dsimp only
  rw [h]
  dsimp only
  rw [if_neg (show ¬(!d.geMayStart (d.encS i).engine false i fun c => c.dec || d.encSpace c.stream) = true by rw [show d.geMayStart _ _ _ _ = true from hgo]; exact Bool.false_ne_true),
    hsrc]
  dsimp only
  have hrun : ∀ (x : Dev) (y : EncStream) (r : Option GeRun), x.geode = d.geode → ((x.setEncS i y).setGeRun (d.encS i).engine r).geode = ((d.setEncS i y).setGeRun (d.encS i).engine r).geode :=
    fun x y r hx => by rw [Dev.setGeRun, Dev.setGeRun, Dev.setEncS, Dev.setEncS, hx]
  have hbase : ∀ u : Nat, (if j.coded = true then d else d.tickFree.encTiles u (d.encS i) j).geode = d.geode := fun u => by
    split
    · rfl
    · exact d.tickFree.encTiles_geode _ _ _
  have htrace := fun (x : Dev) (y : EncStream) (r : Option GeRun) (hx : x.geode = d.geode) (b : Nat) (c v : Word) =>
    (Dev.geTrace_geode ((x.setEncS i y).setGeRun (d.encS i).engine r) (d.encS i).engine 0x0201 i false b c v).trans (hrun x y r hx)
  refine Dev.geode_ite (((Dev.inc_noted _ _ _).trans (Dev.geEvent_noted _ _ _ _ _)).geode.trans ?_) ?_
  · exact htrace _ _ _ (hbase _) _ _ _
  · exact htrace _ _ _ (hbase _) _ _ _

theorem Dev.encServed_head (d : Dev) (i : Nat) (j : EncJob) : ∃ k, (d.encServed i j).jobs.head? = some k ∧ k.started = true ∧ k.saved = none ∧ k.time = j.time ∧
    (j.coded = true → k = { j with started := true, saved := none }) ∧ (j.coded = false → k.coded = true ∧ k.bytes.length = j.layers) := by
  refine ⟨_, rfl, rfl, rfl, ?_, fun hc => ?_, fun hc => ?_⟩
  · unfold Dev.encTaken
    split <;> rfl
  · rw [Dev.encTaken, if_pos hc]
  · rw [Dev.encTaken, if_neg (ne_true_of_eq_false hc)]
    exact ⟨rfl, d.codeJob_bytes _ _ (d.freeWord.getLsbD 0)⟩

/-! ### A picture done -/

/-- Of the streams and engines only results of stream `i` other than its jobs, ring, state and engine may differ. -/
structure Dev.EncTouched (i : Nat) (d e : Dev) : Prop where
  run : e.geode.run = d.geode.run
  jobs : (e.encS i).jobs = (d.encS i).jobs
  ring : (e.encS i).ring = (d.encS i).ring
  state : (e.encS i).state = (d.encS i).state
  engine : (e.encS i).engine = (d.encS i).engine

theorem Dev.EncTouched.trans (h : Dev.EncTouched i d e) (k : Dev.EncTouched i e f) : Dev.EncTouched i d f :=
  ⟨k.run.trans h.run, k.jobs.trans h.jobs, k.ring.trans h.ring, k.state.trans h.state, k.engine.trans h.engine⟩
theorem Dev.encTouched_of (h : e.geode = d.geode) : Dev.EncTouched i d e := by
  have hx := Dev.encS_congr h i
  exact ⟨by rw [h], by rw [hx], by rw [hx], by rw [hx], by rw [hx]⟩
theorem Dev.encTouched_foldl {α : Type} (g : Dev → α → Dev) (hg : ∀ (d : Dev) (a : α), Dev.EncTouched i d (g d a)) (as : List α) (d : Dev) : Dev.EncTouched i d (as.foldl g d) := by
  induction as generalizing d with
  | nil => exact Dev.encTouched_of rfl
  | cons a as ih => exact (hg d a).trans (ih _)
theorem Dev.encTouched_onEncS (d : Dev) (i : Nat) {g : EncStream → EncStream} (hjobs : ∀ y, (g y).jobs = y.jobs) (hring : ∀ y, (g y).ring = y.ring)
    (hstate : ∀ y, (g y).state = y.state) (heng : ∀ y, (g y).engine = y.engine) : Dev.EncTouched i d (d.onEncS i g) := by
  have hx : (d.onEncS i g).encS i = g (d.encS i) := by rw [Dev.onEncS, Dev.encS_setEncS, if_pos rfl]
  exact ⟨rfl, by rw [hx, hjobs], by rw [hx, hring], by rw [hx, hstate], by rw [hx, heng]⟩

theorem Dev.encPackets_touched (d : Dev) (i : Nat) (x : EncStream) (j : EncJob) : Dev.EncTouched i d (d.encPackets i x j) := by
  unfold Dev.encPackets
  refine Dev.encTouched_foldl _ (fun d n => ?_) _ d
  split
  · exact Dev.encTouched_of rfl
  next k b _ =>
    have hnum : Dev.EncTouched i d (d.onEncS i fun y => { y with outSeq := (x.outSeq + n + 1) % 65536 }) :=
      d.encTouched_onEncS i (fun _ => rfl) (fun _ => rfl) (fun _ => rfl) (fun _ => rfl)
    exact hnum.trans (Dev.encTouched_of (Dev.forwardOutput_geode _ _ _ _ _ _))

theorem Dev.encRecord_touched (d : Dev) (i : Nat) (x : EncStream) (j : EncJob) (b : List Byte) : Dev.EncTouched i d (d.encRecord i x j b) := by
  unfold Dev.encRecord
  refine Dev.EncTouched.trans ?_ (Dev.encTouched_onEncS _ i (fun _ => rfl) (fun _ => rfl) (fun _ => rfl) (fun _ => rfl))
  refine Dev.encTouched_of ((Dev.writeVa_geode _ _ _ _).trans ?_)
  split
  · rfl
  · exact Dev.writeVa_geode _ _ _ _

/-- What a finished picture counts, reports, and gives to its output or its record. -/
def Dev.encGives (d : Dev) (i : Nat) (j : EncJob) : Dev :=
  let x := d.encS i
  let u := d.geUnitOf x.engine
  let a := ((d.inc (pgGeode u) 0x060).bump (pgGeode u) 0x068 (sumN j.bits)).bump (pgGeode u) 0x078 j.staticC
  let a := if j.flags / 2 % 2 = 1 then a.inc (pgGeode u) 0x088 else a
  let rates := (a.legs.outRates.filter (fun e => decide (a.now ≤ e.2.t + 2000 * msT))) ++
    (List.range j.layers).map (fun k => ((x.desc.layout, x.desc.output), ⟨a.now, if x.desc.structure_ = 2 then k else x.desc.enc, j.tid, nthD 0 j.bits k⟩))
  let a := if x.desc.source = 1 then a else { a with legs := { a.legs with outRates := rates } }
  let a := a.onEncS i (fun y => { y with lastBits := j.bits.getLast?.getD 0, doneReport := y.doneReport || j.flags / 2 % 2 == 1 })
  if x.desc.toPacket then a.encPackets i x j else a.encRecord i x j j.payload

theorem Dev.encGives_touched (d : Dev) (i : Nat) (j : EncJob) : Dev.EncTouched i d (d.encGives i j) := by
  unfold Dev.encGives
  extract_lets x u a1 a2 rates y a3 a4
  have h2 : a2.geode = d.geode := by unfold a2; split <;> rfl
  have h3 : a3.geode = d.geode := by unfold a3; split <;> exact h2
  have h4 : Dev.EncTouched i d a4 := (Dev.encTouched_of h3).trans (a3.encTouched_onEncS i (fun _ => rfl) (fun _ => rfl) (fun _ => rfl) (fun _ => rfl))
  split
  · exact h4.trans (a4.encPackets_touched _ _ _)
  · exact h4.trans (a4.encRecord_touched _ _ _ _)

theorem Dev.any_of_all_sound (d : Dev) (l : Nat) (h : (d.servers l).all (fun p => decide ((d.page (pgGeode p)).state ≠ .faulted)) = true) :
    (d.servers l).any (fun p => decide ((d.page (pgGeode p)).state = .faulted)) = false := by
  simpa using h

theorem Dev.encDone_eq {r : GeRun} (h : (d.encS i).jobs.head? = some j) (hr : d.geRun (d.encS i).engine = some r) (hdec : r.dec = false) (hs : r.stream = i)
    (hsound : (d.servers (d.encS i).engine).all (fun p => decide ((d.page (pgGeode p)).state ≠ .faulted)) = true) : d.encDone i = (d.encGives i j).encEnd i 0 := by
  unfold Dev.encDone
  dsimp only
  rw [h, hr]
  dsimp only
  rw [if_neg (show ¬(r.dec || r.stream != i || (d.servers (d.encS i).engine).any fun p => decide ((d.page (pgGeode p)).state = .faulted)) = true by
    rw [hdec, hs, d.any_of_all_sound _ hsound]; simp)]
  rfl

theorem Dev.encDone_spec {r : GeRun} (h : (d.encS i).jobs.head? = some j) (hlast : j.last = false) (hr : d.geRun (d.encS i).engine = some r) (hdec : r.dec = false)
    (hs : r.stream = i) (hst : (d.encS i).state = .running)
    (hsound : (d.servers (d.encS i).engine).all (fun p => decide ((d.page (pgGeode p)).state ≠ .faulted)) = true) :
    (d.encDone i).geRun (d.encS i).engine = none ∧ ((d.encDone i).encS i).jobs = (d.encS i).jobs.drop 1 ∧
      ((d.encDone i).encS i).ring.idx = ((d.encS i).ring.idx + 1) % 256 := by
  have ht := d.encGives_touched i j
  rw [Dev.encDone_eq h hr hdec hs hsound, ← ht.engine, ← ht.jobs, ← ht.ring]
  refine Dev.encEnd_runs _ (by rw [ht.jobs]; exact h) hlast (ht.state.trans hst) ?_ hdec hs 0
  rw [ht.engine, Dev.geRun, ht.run]
  exact hr

end Sys2Proof.Machine
end

section
/-! The jobs of decode streams, pre-emption, and the marks of decoded pictures (R217, R218, R275 to R292, R726): O23. -/

namespace Sys2Proof.Machine
open Sys2Proof

variable {s : State} {d e f : Dev} {i k l n p : Nat} {j : DecJob} {g : GeRun} {r : DecIn}

/-! ### A decode job starts -/

/-- A surface, and for submitted data a status slot, is free for a decode stream. -/
def Dev.decRoom (d : Dev) (k : Nat) : Bool :=
  (d.decSurface k).isSome && ((d.decS k).desc.source == 0 || !d.statusFull (d.decS k).realm (d.decS k).ring (d.decS k).desc.consumer)

theorem Dev.decStart_runs (h : (d.decS i).jobs.head? = some j) (hsrc : (d.decS i).desc.source = 0)
    (hgo : d.geMayStart (d.decS i).engine true i (fun c => !c.dec || d.decRoom c.stream) = true) :
    (d.decStart i).geode = ((d.setDecS i { d.decS i with jobs := { j with started := true, saved := none } :: (d.decS i).jobs.drop 1 }).setGeRun (d.decS i).engine
      (some ⟨true, i, 0, j.saved.getD 0⟩)).geode := by
  unfold Dev.decStart
  dsimp only
  rw [h]
  dsimp only
  refine (congrArg Dev.geode (if_neg (ne_true_of_eq_false (congrArg not hgo)))).trans ?_
  rw [if_neg (show ¬(d.decS i).desc.source = 1 by rw [hsrc]; decide)]
  exact Dev.geTrace_geode _ _ _ _ _ _ _ _

/-! ### Compositions that wait for a picture leave the decode streams alone -/

/-- The decode streams and what runs on the engines are as they were. -/
structure Dev.DecKept (d e : Dev) : Prop where
  dec : e.geode.dec = d.geode.dec
  run : e.geode.run = d.geode.run

theorem Dev.DecKept.refl (d : Dev) : d.DecKept d := ⟨rfl, rfl⟩
theorem Dev.DecKept.trans (h : d.DecKept e) (k : e.DecKept f) : d.DecKept f := ⟨k.dec.trans h.dec, k.run.trans h.run⟩
theorem Dev.DecKept.ite {q : Prop} [Decidable q] (h : d.DecKept e) (k : d.DecKept f) : d.DecKept (if q then e else f) := by
  split
  · exact h
  · exact k
theorem Dev.decKept_foldl {α : Type} (g : Dev → α → Dev) (hg : ∀ (d : Dev) (a : α), d.DecKept (g d a)) (as : List α) (d : Dev) : d.DecKept (as.foldl g d) := by
  induction as generalizing d with
  | nil => exact .refl d
  | cons a as ih => exact (hg d a).trans (ih _)
theorem Dev.decKept_of (h : e.geode = d.geode) : d.DecKept e := ⟨by rw [h], by rw [h]⟩
theorem Dev.DecKept.decS (h : d.DecKept e) (i : Nat) : e.decS i = d.decS i := by rw [Dev.decS, h.dec, Dev.decS]
theorem Dev.DecKept.geRun (h : d.DecKept e) (l : Nat) : e.geRun l = d.geRun l := by rw [Dev.geRun, h.run, Dev.geRun]

theorem Dev.decKept_bump (d : Dev) (p o n : Nat) : d.DecKept (d.bump p o n) := ⟨rfl, rfl⟩

theorem Dev.tileErrors_decKept (d : Dev) (p va : Nat) (rd : Reader) : d.DecKept (d.tileErrors p va rd) :=
  Dev.decKept_foldl _ (fun d _ => Dev.decKept_of ((d.inc_noted _ _).trans (Dev.raise_noted _ _ _ _ _ _ _)).geode) _ d

theorem Dev.reportTiles_decKept (d : Dev) (x : Layout) (cp : Composing) : d.DecKept (d.reportTiles x cp) := by
  refine Dev.decKept_foldl _ (fun d p => ?_) _ d
  split
  · exact d.tileErrors_decKept _ _ _
  · split
    · exact .ite (d.tileErrors_decKept _ _ _) (.refl d)
    · exact .refl d
  · exact .refl d

theorem Dev.writeOutput_decKept (d : Dev) (l : Nat) (x : Layout) (cp : Composing) (ls : List Drawn) (oi slot : Nat) : d.DecKept (d.writeOutput l x cp ls oi slot) := by
  have hrends : ∀ (d : Dev) (a o va : Nat) (rs : List ((Nat × Nat) × Nat × List Nat)) (t : LayOut → LayOut), d.DecKept ((d.encRends a o va rs).onLayout l fun y => y.onOut oi t) :=
    fun _ _ _ _ _ _ => ⟨rfl, rfl⟩
  have hva := fun (d : Dev) va b => Dev.decKept_of (d.writeVa_geode 0 va b)
  have hsurface := fun (d : Dev) va sh m a b => Dev.DecKept.trans (d := d) (e := d.tickFree) ⟨rfl, rfl⟩ (Dev.decKept_of (d.tickFree.writeSurface_recorded 0 va sh m a b).geode)
  have hplanes : ∀ (d : Dev) (q : Prop) [Decidable q] (va : Nat) (a : List Byte) (b : Nat) (c : List Byte) (sh : ShShape) (m : ShMarks) (y z : Plane) (n : Nat),
      d.DecKept ((if q then (d.writeVa 0 va a).writeVa 0 b c else d.tickFree.writeSurface 0 va sh m y z).bump (pgMica x.pipe) 0x0A0 n) := fun d q _ va a b c sh m y z n =>
    (Dev.DecKept.ite ((hva d _ _).trans (hva _ _ _)) (hsurface d _ _ _ _ _)).trans ⟨rfl, rfl⟩
  unfold Dev.writeOutput
  dsimp only
  refine .trans (.trans (Dev.decKept_foldl _ (fun d k => ?_) _ d) (hva _ _ _)) (hrends _ _ _ _ _ _)
  exact .ite ((hplanes _ _ _ _ _ _ _ _ _ _ _).trans (hva _ _ _)) (hplanes _ _ _ _ _ _ _ _ _ _ _)

theorem Dev.micaResolve_decKept (d : Dev) (l : Nat) : d.DecKept (d.micaResolve l) := by
  unfold Dev.micaResolve
  dsimp only
  split
  · exact .refl d
  next cp _ =>
    refine .ite (.refl d) (.ite ⟨rfl, rfl⟩ ?_)
    have hset : ∀ y : Layout, d.DecKept (d.setLayout l y) := fun _ => ⟨rfl, rfl⟩
    refine .trans (.trans (.trans (.trans ((hset _).trans (Dev.decKept_foldl _ (fun d o => d.writeOutput_decKept _ _ _ _ _ _) _ _)) (Dev.decKept_bump _ _ _ _))
      (Dev.decKept_bump _ _ _ _)) (Dev.decKept_foldl _ (fun d k => ?_) _ _)) (Dev.reportTiles_decKept _ _ _)
    exact .ite (Dev.decKept_of (Dev.raise_noted _ _ _ _ _ _ _).geode) (.refl d)

theorem Dev.micaResolveAll_decKept (d : Dev) : d.DecKept d.micaResolveAll := Dev.decKept_foldl _ (fun d l => d.micaResolve_decKept l) _ _

end Sys2Proof.Machine
end

section
/-! The marks of decoded pictures and how a decode job is done (R275 to R292): what DEC_JOB_DONE writes of its stream. -/

namespace Sys2Proof.Machine
open Sys2Proof

variable {d e f : Dev} {i k l n p : Nat} {j : DecJob} {g : GeRun} {r : DecIn} {y : DecLayer} {a : DecAcc}

/-! ### What a job leaves of its stream while it is decoded -/

/-- What runs, and of stream `i` its jobs, ring, state and engine, are as they were. -/
structure Dev.DecTouched (i : Nat) (d e : Dev) : Prop where
  run : e.geode.run = d.geode.run
  jobs : (e.decS i).jobs = (d.decS i).jobs
  ring : (e.decS i).ring = (d.decS i).ring
  state : (e.decS i).state = (d.decS i).state
  engine : (e.decS i).engine = (d.decS i).engine

theorem Dev.DecTouched.trans (h : Dev.DecTouched i d e) (k : Dev.DecTouched i e f) : Dev.DecTouched i d f :=
  ⟨k.run.trans h.run, k.jobs.trans h.jobs, k.ring.trans h.ring, k.state.trans h.state, k.engine.trans h.engine⟩
theorem Dev.decTouched_of (h : e.geode = d.geode) : Dev.DecTouched i d e := by
  have hx := Dev.decS_congr h i
  exact ⟨by rw [h], by rw [hx], by rw [hx], by rw [hx], by rw [hx]⟩
theorem Dev.decTouched_onDecS (d : Dev) (i : Nat) {g : DecStream → DecStream} (hjobs : ∀ y, (g y).jobs = y.jobs) (hring : ∀ y, (g y).ring = y.ring)
    (hstate : ∀ y, (g y).state = y.state) (heng : ∀ y, (g y).engine = y.engine) : Dev.DecTouched i d (d.onDecS i g) := by
  have hx : (d.onDecS i g).decS i = g (d.decS i) := by rw [Dev.onDecS, Dev.decS_setDecS, if_pos rfl]
  exact ⟨rfl, by rw [hx, hjobs], by rw [hx, hring], by rw [hx, hstate], by rw [hx, heng]⟩

/-! ### A layer decoded -/

/-- A layer keeps a picture that there is, and makes one where a surface is free. -/
theorem Dev.decLayer_spec (d : Dev) (i : Nat) (j : DecJob) (r : DecIn) (before : Bool) (a : DecAcc) (y : DecLayer) :
    Dev.DecTouched i d (d.decLayer i j r before a y).1 ∧ (a.pic.isSome = true → (d.decLayer i j r before a y).2.pic.isSome = true) ∧
      ((d.decSurface i).isSome = true → (d.decLayer i j r before a y).2.pic.isSome = true) := by
  unfold Dev.decLayer
  extract_lets
  split
  next hnone => exact ⟨Dev.decTouched_of rfl, fun h => h, fun h => by rw [hnone] at h; exact absurd h Bool.false_ne_true⟩
  next sf _ =>
    extract_lets m d1 p d2
    have hwrite : Dev.DecTouched i d d1 := Dev.decTouched_of (Dev.writeSurface_recorded _ _ _ _ _ _ _).geode
    have hpool : Dev.DecTouched i d1 d2 := d1.decTouched_onDecS i (fun _ => rfl) (fun _ => rfl) (fun _ => rfl) (fun _ => rfl)
    exact ⟨hwrite.trans hpool, fun _ => rfl, fun _ => rfl⟩

/-- The layers of a unit decoded one after the other. -/
def Dev.decLayers (d : Dev) (i : Nat) (j : DecJob) (r : DecIn) (before : Bool) (ys : List DecLayer) (a : DecAcc) : Dev × DecAcc :=
  ys.foldl (fun (b : Dev × DecAcc) y => b.1.decLayer i j r before b.2 y) (d, a)

theorem Dev.decLayers_kept (d : Dev) (i : Nat) (j : DecJob) (r : DecIn) (before : Bool) (ys : List DecLayer) (a : DecAcc) :
    Dev.DecTouched i d (d.decLayers i j r before ys a).1 ∧ (a.pic.isSome = true → (d.decLayers i j r before ys a).2.pic.isSome = true) := by
  induction ys generalizing d a with
  | nil => exact ⟨Dev.decTouched_of rfl, fun h => h⟩
  | cons y ys ih =>
    obtain ⟨hfirst, hpic, -⟩ := d.decLayer_spec i j r before a y
    obtain ⟨hrest, hkeep⟩ := ih (d.decLayer i j r before a y).1 (d.decLayer i j r before a y).2
    exact ⟨hfirst.trans hrest, fun h => hkeep (hpic h)⟩

theorem Dev.decLayers_pic (d : Dev) (i : Nat) (j : DecJob) (r : DecIn) (before : Bool) {ys : List DecLayer} (hys : ys.isEmpty = false) (hs : (d.decSurface i).isSome = true) (a : DecAcc) :
    (d.decLayers i j r before ys a).2.pic.isSome = true := by
  cases ys with
  | nil => exact absurd hys (by decide)
  | cons y ys => exact (Dev.decLayers_kept _ i j r before ys _).2 ((d.decLayer_spec i j r before a y).2.2 hs)

/-- A layer that names no other picture and loses nothing gives a picture that is not tainted (R288). -/
theorem Dev.decLayer_clean (d : Dev) (i : Nat) (j : DecJob) (r : DecIn) (before : Bool) (a : DecAcc) {sf : Nat} (hs : d.decSurface i = some sf) (hintra : y.intra = true)
    (hlost : (layerLost y (d.decS i).desc.codec).1 = []) :
    ∃ p, (d.decLayer i j r before a y).2.pic = some p ∧ p.tainted = false ∧ p.surface = sf := by
  have hown : (1024 * decLostSamples y [] + max 1 (y.width * y.height) - 1) / max 1 (y.width * y.height) = 0 := by
    rw [show decLostSamples y [] = 0 from rfl]
    exact Nat.div_eq_of_lt (by omega)
  unfold Dev.decLayer
  dsimp only
  rw [hs]
  refine ⟨_, rfl, ?_, rfl⟩
  simp [hintra, hlost, hown]

/-- A layer of H.264 with a reference that its pool lacks gives a tainted stand-in (R281, R289). -/
theorem Dev.decLayer_missing (d : Dev) (i : Nat) (j : DecJob) (r : DecIn) (before : Bool) (a : DecAcc) {sf : Nat} (hs : d.decSurface i = some sf) (hintra : y.intra = false)
    (hcodec : (d.decS i).desc.codec = 0x10) (hmiss : y.refs.any (fun n => (d.decS i).dpb.all (fun p => p.num != n)) = true) :
    ∃ p, (d.decLayer i j r before a y).2.pic = some p ∧ p.tainted = true := by
  have hfew : (y.refs.filterMap fun n => (d.decS i).dpb.find? fun p => p.num == n).length < y.refs.length := by
    obtain ⟨n, hn, hnone⟩ := List.any_eq_true.mp hmiss
    refine lt_of_le_of_ne (List.length_filterMap_le _ _) fun heq => ?_
    have hall := List.filterMap_length_eq_length.mp heq n hn
    rw [List.find?_isSome] at hall
    obtain ⟨p, hp, hpn⟩ := hall
    have := List.all_eq_true.mp hnone p hp
    simp_all
  unfold Dev.decLayer
  dsimp only
  rw [hs]
  refine ⟨_, rfl, ?_⟩
  have hstand : ¬y.refs.length - (y.refs.filterMap fun n => (d.decS i).dpb.find? fun p => p.num == n).length = 0 := by omega
  simp [hintra, hcodec, hstand]

end Sys2Proof.Machine
end

section
/-! DEC_JOB_DONE by what the unit is (R275 to R293), pre-emption (R218, R726), and O23. -/

namespace Sys2Proof.Machine
open Sys2Proof

variable {s : State} {d e f : Dev} {i k l n p : Nat} {j : DecJob} {g : GeRun} {r : DecIn} {y : DecLayer}

/-! ### What a decode job in service may be -/

/-- Job `j`, not its stream's last, is in service on the engine of the running decode stream `i`, whose units are sound. -/
structure Dev.Decoding (d : Dev) (i : Nat) (j : DecJob) (g : GeRun) : Prop where
  head : (d.decS i).jobs.head? = some j
  last : j.last = false
  running : (d.decS i).state = .running
  run : d.geRun (d.decS i).engine = some g
  dec : g.dec = true
  stream : g.stream = i
  sound : (d.servers (d.decS i).engine).all (fun p => decide ((d.page (pgGeode p)).state ≠ .faulted)) = true

/-- The unit opens a new decodable sequence for a stream that was out of one (R279). -/
def DecStream.resumes (x : DecStream) (r : DecIn) : Bool :=
  x.unsupported && !(decide (r.header = 0) && decUnsupported x r) && r.seqStart && (x.layersIn r).all DecLayer.intra

/-- The unit is discarded as one of a sequence that the engines do not decode (R279). -/
def DecStream.discards (x : DecStream) (r : DecIn) : Bool := (decide (r.header = 0) && decUnsupported x r) || (x.unsupported && !x.resumes r)

/-- Something of the picture before the unit was tainted or concealed (R292). -/
def DecStream.before (x : DecStream) : Bool := match x.latest with | some p => p.tainted || p.concealed | none => false

/-- How the end of a job finds the device: what runs and the job's stream are as it left them. -/
theorem Dev.Decoding.ends (h : d.Decoding i j g) (ht : Dev.DecTouched i d e) (m : DecMarks) :
    (e.decEnd i m).geRun (d.decS i).engine = none ∧ ∃ (un : List (Nat × Nat)) (rg : StatusRing), rg.idx = ((d.decS i).ring.idx + 1) % 256 ∧
      (e.decEnd i m).decS i = { e.decS i with jobs := (d.decS i).jobs.drop 1, unread := un, ring := rg } := by
  have hrun : e.geRun (e.decS i).engine = some g := by
    rw [ht.engine, Dev.geRun, ht.run]
    exact h.run
  have hend := e.decEnd_runs (ht.jobs ▸ h.head) h.last (ht.state.trans h.running) hrun h.dec h.stream m
  rw [ht.engine, ht.ring, ht.jobs] at hend
  exact hend

/-! ### The four ways a unit is done -/

/-- The marks of a unit of which nothing is decoded. -/
def decVoid (x : DecStream) (r : DecIn) : DecMarks :=
  let layer := match (x.layersIn r).getLast? with | some y => y.sid + 4 * y.tid | none => 0
  { result := 3, layer := layer, errors := if r.header = 1 then 1 else 0, intra := (x.layersIn r).all DecLayer.intra }

/-- A unit discarded: counted, and raised once per sequence (R279). -/
def Dev.decRefuses (d : Dev) (i : Nat) (j : DecJob) (r : DecIn) : Dev :=
  let x := d.decS i
  let u := d.geUnitOf x.engine
  let a := (d.inc (pgGeode u) 0x148).onDecS i (fun y => { y with unsupported := true })
  if (decide (r.header = 0) && decUnsupported x r) && (!x.unsupported || r.seqStart) then a.geEvent u 11 (fmk 0 64 i) (entryLow (decEntry i x j (decVoid x r))) else a

/-- A unit whose header is damaged (R283). -/
def Dev.decDamages (d : Dev) (i : Nat) (r : DecIn) : Dev :=
  (d.bump (pgGeode (d.geUnitOf (d.decS i).engine)) 0x118 (decVoid (d.decS i) r).errors).onDecS i (fun y => { y with lostPic := true })

/-- A decoded unit counted and reported; `p` becomes the picture of its stream, as it was before the unit `x`. -/
def Dev.decShows (d : Dev) (i u : Nat) (x : DecStream) (j : DecJob) (r : DecIn) (a : DecAcc) (p : DecPic) : Dev :=
  let d := (((d.inc (pgGeode u) 0x110).bump (pgGeode u) 0x118 a.errors).bump (pgGeode u) 0x128 a.concealed).bump (pgGeode u) 0x130 a.missing
  let d := if 0 < p.area then d.inc (pgGeode u) 0x120 else d
  let d := if p.tainted then d.inc (pgGeode u) 0x138 else d
  let e := entryLow (decEntry i x j a.marks)
  let d := if 0 < a.own then d.geEvent u 8 (fmk 0 64 i) e else d
  let d := if p.tainted && !x.tainted then d.geEvent u 9 (fmk 0 64 i) e else if !p.tainted && x.tainted then d.geEvent u 10 (fmk 0 64 i) e else d
  d.onDecS i (fun y => { y with
    dpb := y.dpb.filter (fun q => r.keep.contains q.num)
    latest := some p
    outs := (y.outs.filter (fun q => q.surface != p.surface)) ++ [p]
    lastClean := if !p.tainted && p.area == 0 then some p else y.lastClean
    tainted := p.tainted
    unsupported := false
    lostPic := false
    report := if p.tainted = y.tainted then y.report else some (p.tainted, p.area)
    lastTime := j.time })

/-- The layers of a unit decoded on the device as the unit finds it. -/
def Dev.decUnit (d : Dev) (i : Nat) (j : DecJob) (r : DecIn) : Dev × DecAcc := d.decLayers i j r (d.decS i).before ((d.decS i).layersIn r) {}

theorem Dev.Decoding.done (h : d.Decoding i j g) (r : DecIn) : d.decDone i r =
    if (d.decS i).discards r then (d.decRefuses i j r).decEnd i (decVoid (d.decS i) r)
    else if r.header ≠ 0 then (d.decDamages i r).decEnd i (decVoid (d.decS i) r)
    else if ((d.decS i).layersIn r).isEmpty then d.decEnd i {}
    else match (d.decUnit i j r).2.pic with
      | none => d
      | some p => ((d.decUnit i j r).1.decShows i (d.geUnitOf (d.decS i).engine) (d.decS i) j r (d.decUnit i j r).2 p).decEnd i (d.decUnit i j r).2.marks := by
  unfold Dev.decDone
  dsimp only
  rw [h.head, h.run]
  dsimp only
  rw [if_neg (show ¬(!g.dec || g.stream != i || (d.servers (d.decS i).engine).any fun p => decide ((d.page (pgGeode p)).state = .faulted)) = true by
    rw [h.dec, h.stream, d.any_of_all_sound _ h.sound]; simp)]
  rfl

theorem Dev.decRefuses_spec (d : Dev) (i : Nat) (j : DecJob) (r : DecIn) : (d.decRefuses i j r).geode = (d.onDecS i fun y => { y with unsupported := true }).geode ∧
    (d.decRefuses i j r).counter (pgGeode (d.geUnitOf (d.decS i).engine)) 0x148 = d.counter (pgGeode (d.geUnitOf (d.decS i).engine)) 0x148 + 1 := by
  unfold Dev.decRefuses
  dsimp only
  split
  · exact ⟨(Dev.geEvent_noted _ _ _ _ _).geode, (Dev.counter_raise _ _ _ _ _ _ _ (by unfold pgGeode pgErrlog; omega) (by decide)).trans (Dev.counter_inc_same _ _ _)⟩
  · exact ⟨rfl, Dev.counter_inc_same _ _ _⟩

theorem Dev.decShows_spec (d : Dev) (i u : Nat) (x : DecStream) (j : DecJob) (r : DecIn) (a : DecAcc) (p : DecPic) :
    Dev.DecTouched i d (d.decShows i u x j r a p) ∧ ((d.decShows i u x j r a p).decS i).latest = some p ∧ ((d.decShows i u x j r a p).decS i).tainted = p.tainted := by
  unfold Dev.decShows
  extract_lets d1 d2 d3 e d4 d5
  have h3 : d3.geode = d.geode := by
    unfold d3 d2
    exact Dev.geode_ite (Dev.geode_ite rfl rfl) (Dev.geode_ite rfl rfl)
  have h4 : d4.geode = d.geode := Dev.geode_ite ((d3.geEvent_noted _ _ _ _).geode.trans h3) h3
  have h5 : d5.geode = d.geode := Dev.geode_ite ((d4.geEvent_noted _ _ _ _).geode.trans h4) (Dev.geode_ite ((d4.geEvent_noted _ _ _ _).geode.trans h4) h4)
  have hset : ∀ t : DecStream → DecStream, (d5.onDecS i t).decS i = t (d5.decS i) := fun t => by rw [Dev.onDecS, Dev.decS_setDecS, if_pos rfl]
  rw [hset]
  exact ⟨(Dev.decTouched_of h5).trans (d5.decTouched_onDecS i (fun _ => rfl) (fun _ => rfl) (fun _ => rfl) (fun _ => rfl)), rfl, rfl⟩

end Sys2Proof.Machine
end

section
/-! GEODE_PREEMPT (R218, R726), the rows of Geode's jobs, and the marks of a decoded picture: O23. -/

namespace Sys2Proof.Machine
open Sys2Proof

variable {s : State} {d e f : Dev} {i k l n p : Nat} {j : DecJob} {g : GeRun} {r : DecIn} {y : DecLayer}

/-! ### Pre-emption -/

/-- The level of the job in service. -/
def Dev.runLevel (d : Dev) (r : GeRun) : Nat :=
  if r.dec then (d.decS r.stream).desc.priority else match (d.encS r.stream).jobs.head? with
    | some j => ((d.encS r.stream).jobDesc j).priority
    | none => (d.encS r.stream).desc.priority

/-- An encode stream and a decode stream with the oldest job saved. -/
def EncStream.saves (layer row : Nat) (x : EncStream) : EncStream :=
  { x with jobs := match x.jobs with | j :: t => { j with saved := some (layer, row), preempted := true } :: t | [] => [] }
def DecStream.saves (row : Nat) (x : DecStream) : DecStream :=
  { x with jobs := match x.jobs with | j :: t => { j with saved := some row, preempted := true } :: t | [] => [] }

/-- The job in service saved in its stream. -/
def Dev.runSaved (d : Dev) (r : GeRun) (layer row : Nat) : Dev :=
  if r.dec then d.onDecS r.stream (DecStream.saves row) else d.onEncS r.stream (EncStream.saves layer row)

theorem Dev.preempt_geode {c : Cand} (h : d.geRun l = some g) (hc : (d.geReady l).head? = some c) (hsaved : d.geSaved l < 64) (hlevel : c.level < d.runLevel g)
    (hserved : d.geServed l = true) (layer row : Nat) : (d.preempt l layer row).geode = ((d.runSaved g layer row).setGeRun l none).geode := by
  unfold Dev.preempt
  rw [h, hc]
  refine (congrArg Dev.geode (if_pos ⟨hlevel, hsaved, hserved⟩)).trans ((Dev.geRelease_geode _ _).trans ?_)
  have hsave : ∀ (x : Dev) (q b : Nat), x.geode = d.geode → (((if g.dec = true then x.onDecS g.stream (DecStream.saves row) else x.onEncS g.stream (EncStream.saves layer row)).inc q b).setGeRun l none).geode =
      ((d.runSaved g layer row).setGeRun l none).geode := fun x q b hx => by
    unfold Dev.runSaved
    split
    · simp only [Dev.setGeRun, Dev.inc, Dev.bump, Dev.onDecS, Dev.setDecS, Dev.decS, hx]
    · simp only [Dev.setGeRun, Dev.inc, Dev.bump, Dev.onEncS, Dev.setEncS, Dev.encS, hx]
  exact hsave _ _ _ (Dev.geTrace_geode _ _ _ _ _ _ _ _)

theorem EncStream.head_saves (x : EncStream) (layer row : Nat) : (x.saves layer row).jobs.head?.map EncJob.saved = x.jobs.head?.map fun _ => some (layer, row) := by
  unfold EncStream.saves
  cases x.jobs <;> rfl

theorem DecStream.head_saves (x : DecStream) (row : Nat) : (x.saves row).jobs.head?.map DecJob.saved = x.jobs.head?.map fun _ => some row := by
  unfold DecStream.saves
  cases x.jobs <;> rfl

theorem Dev.preempt_spec {c : Cand} (h : d.geRun l = some g) (hc : (d.geReady l).head? = some c) (hsaved : d.geSaved l < 64) (hlevel : c.level < d.runLevel g)
    (hserved : d.geServed l = true) (layer row : Nat) : (d.preempt l layer row).geRun l = none ∧
      (g.dec = false → ((d.preempt l layer row).encS g.stream).jobs.head?.map EncJob.saved = (d.encS g.stream).jobs.head?.map fun _ => some (layer, row)) ∧
      (g.dec = true → ((d.preempt l layer row).decS g.stream).jobs.head?.map DecJob.saved = (d.decS g.stream).jobs.head?.map fun _ => some row) := by
  have hgeo := Dev.preempt_geode h hc hsaved hlevel hserved layer row
  refine ⟨by rw [Dev.geRun_congr hgeo, Dev.geRun_setGeRun, if_pos rfl], fun henc => ?_, fun hdec => ?_⟩
  · rw [Dev.encS_congr hgeo, Dev.runSaved, if_neg (ne_true_of_eq_false henc)]
    refine (congrArg (fun x : EncStream => x.jobs.head?.map EncJob.saved) ?_).trans ((d.encS g.stream).head_saves layer row)
    exact (Dev.encS_setEncS _ _ _ _).trans (if_pos rfl)
  · rw [Dev.decS_congr hgeo, Dev.runSaved, if_pos hdec]
    refine (congrArg (fun x : DecStream => x.jobs.head?.map DecJob.saved) ?_).trans ((d.decS g.stream).head_saves row)
    exact (Dev.decS_setDecS _ _ _ _).trans (if_pos rfl)

/-! ### A decode job done -/

theorem Dev.Decoding.decodes (h : d.Decoding i j g) (hr : (d.decS i).discards r = false) (hhdr : r.header = 0) (hls : ((d.decS i).layersIn r).isEmpty = false) {p : DecPic}
    (hp : (d.decUnit i j r).2.pic = some p) : ∃ (e : Dev) (m : DecMarks), d.decDone i r = e.decEnd i m ∧ Dev.DecTouched i d e ∧ (e.decS i).latest = some p ∧
      (e.decS i).tainted = p.tainted := by
  obtain ⟨hkept, hlatest, htaint⟩ := (d.decUnit i j r).1.decShows_spec i (d.geUnitOf (d.decS i).engine) (d.decS i) j r (d.decUnit i j r).2 p
  refine ⟨_, (d.decUnit i j r).2.marks, ?_, (d.decLayers_kept i j r (d.decS i).before ((d.decS i).layersIn r) {}).1.trans hkept, hlatest, htaint⟩
  rw [h.done, if_neg (ne_true_of_eq_false hr), if_neg (not_not_intro hhdr), if_neg (ne_true_of_eq_false hls), hp]

theorem Dev.decRefuses_touched (d : Dev) (i : Nat) (j : DecJob) (r : DecIn) : Dev.DecTouched i d (d.decRefuses i j r) :=
  (d.decTouched_onDecS i (g := fun y => { y with unsupported := true }) (fun _ => rfl) (fun _ => rfl) (fun _ => rfl) (fun _ => rfl)).trans
    (Dev.decTouched_of (d.decRefuses_spec i j r).1)

theorem Dev.decDamages_touched (d : Dev) (i : Nat) (r : DecIn) : Dev.DecTouched i d (d.decDamages i r) :=
  (d.decTouched_onDecS i (g := fun y => { y with lostPic := true }) (fun _ => rfl) (fun _ => rfl) (fun _ => rfl) (fun _ => rfl)).trans (Dev.decTouched_of rfl)

/-- However its unit is done, a job ends with its stream's jobs, ring, state and engine as they were. -/
theorem Dev.Decoding.finishes (h : d.Decoding i j g) (r : DecIn) (hsf : (d.decSurface i).isSome = true) :
    ∃ (e : Dev) (m : DecMarks), d.decDone i r = e.decEnd i m ∧ Dev.DecTouched i d e := by
  cases hr : (d.decS i).discards r with
  | true => exact ⟨_, _, by rw [h.done, if_pos hr], d.decRefuses_touched i j r⟩
  | false =>
    by_cases hhdr : r.header = 0
    · cases hls : ((d.decS i).layersIn r).isEmpty with
      | true => exact ⟨d, _, by rw [h.done, if_neg (ne_true_of_eq_false hr), if_neg (not_not_intro hhdr), if_pos hls], Dev.decTouched_of rfl⟩
      | false =>
        obtain ⟨p, hp⟩ := Option.isSome_iff_exists.mp (d.decLayers_pic i j r (d.decS i).before hls hsf {})
        obtain ⟨e, m, hdone, ht, -⟩ := h.decodes hr hhdr hls hp
        exact ⟨e, m, hdone, ht⟩
    · exact ⟨d.decDamages i r, _, by rw [h.done, if_neg (ne_true_of_eq_false hr), if_pos hhdr], d.decDamages_touched i r⟩

/-! ### What the end of a job leaves counted -/

theorem Dev.counter_geTrace (d : Dev) (l ev stream : Nat) (dec : Bool) (row : Nat) (x y : Word) {p o : Nat} (hp : p ≠ pgObs) (ho : o < 4096) :
    (d.geTrace l ev stream dec row x y).counter p o = d.counter p o := by
  have hitem : ∀ (a : Nat) (w : Option Word), (d.jobItem a w).counter p o = d.counter p o := fun a w => by
    unfold Dev.jobItem
    split
    · rfl
    · exact (Dev.counter_trace _ _ _ _ _ _ _ hp ho).trans rfl
  unfold Dev.geTrace
  refine (Dev.counter_trace _ _ _ _ _ _ _ hp ho).trans ?_
  split
  · rfl
  · exact hitem _ _

theorem Dev.counter_geRelease (d : Dev) (l : Nat) {p o : Nat} (hp : p ≠ pgObs) (ho : o < 4096) : (d.geRelease l).counter p o = d.counter p o := by
  refine (Dev.kept_foldl (fun d : Dev => d.counter p o) _ (fun d q => ?_) _ _).trans rfl
  split
  · exact (Dev.finish_linkDone _ _ _ _ _ _).counter p o hp ho
  · rfl

/-- A counter raised leaves those of other offsets, of any page. -/
theorem Dev.counter_inc_off (d : Dev) (p q : Nat) {o b : Nat} (ho : o < 4096) (hb : b < 4096) (h : o ≠ b) : (d.inc q b).counter p o = d.counter p o := by
  by_cases hp : p = q
  · subst hp
    exact d.counter_inc_apart p ho hb h
  · exact d.counter_inc_of_ne ho hb hp

theorem Dev.counter_setDecS (d : Dev) (i : Nat) (x : DecStream) (p o : Nat) : (d.setDecS i x).counter p o = d.counter p o := rfl
theorem Dev.counter_writeVa (d : Dev) (r va : Nat) (b : List Byte) (p o : Nat) : (d.writeVa r va b).counter p o = d.counter p o := by
  rw [Dev.writeVa_eq]
  rfl

theorem Dev.counter_decStatus (d : Dev) (i : Nat) (m : DecMarks) {v o : Nat} (ho : o < 4096) (hne : o ≠ 0x158) :
    (d.decStatus i m).counter (pgGeode v) o = d.counter (pgGeode v) o := by
  unfold Dev.decStatus
  dsimp only
  split
  · rfl
  · rw [Dev.counter_setDecS, Dev.counter_geTrace _ _ _ _ _ _ _ _ (by unfold pgGeode pgObs; omega) ho, Dev.counter_writeVa]
    split
    · exact (Dev.counter_raise _ _ _ _ _ _ _ (by unfold pgGeode pgErrlog; omega) ho).trans (d.counter_inc_off _ _ ho (by decide) hne)
    · rfl

theorem Dev.counter_decEnd (d : Dev) (h : (d.decS i).jobs.head? = some j) (hlast : j.last = false) (hst : (d.decS i).state = .running) (m : DecMarks) {v o : Nat}
    (ho : o < 4096) (hne : o ≠ 0x158) : (d.decEnd i m).counter (pgGeode v) o = d.counter (pgGeode v) o := by
  obtain ⟨un, rg, -, hgeo⟩ := d.decStatus_spec h m
  have hx : (d.decStatus i m).decS i = { d.decS i with unread := un, ring := rg } := by rw [Dev.decS_congr hgeo, Dev.decS_setDecS, if_pos rfl]
  unfold Dev.decEnd
  dsimp only
  rw [h]
  dsimp only
  rw [if_neg (show ¬(j.last && decide ((d.decS i).state ≠ .closing)) = true by rw [hlast]; exact Bool.false_ne_true)]
  have hidle : ∀ x : Dev, (x.decS i).state = .running → x.decIdle i = x := fun x hx => by
    unfold Dev.decIdle
    exact if_neg fun hc => absurd (hx.symm.trans hc.1) (by decide)
  have hdrop : (((d.decStatus i m).onDecS i fun y => { y with jobs := y.jobs.drop 1 }).decS i).state = .running := by
    rw [Dev.onDecS, Dev.decS_setDecS, if_pos rfl, hx]
    exact hst
  have hcount : ∀ b : Bool, (Dev.decIdle (if b then ((d.decStatus i m).onDecS i fun y => { y with jobs := y.jobs.drop 1 }).geRelease (d.decS i).engine
      else (d.decStatus i m).onDecS i fun y => { y with jobs := y.jobs.drop 1 }) i).counter (pgGeode v) o = d.counter (pgGeode v) o := fun b => by
    cases b with
    | true =>
      rw [if_pos rfl, hidle _ ((congrArg DecStream.state (Dev.decS_geRelease _ _ _)).trans hdrop), Dev.counter_geRelease _ _ (by unfold pgGeode pgObs; omega) ho]
      exact d.counter_decStatus i m ho hne
    | false =>
      rw [if_neg Bool.false_ne_true, hidle _ hdrop]
      exact d.counter_decStatus i m ho hne
  exact hcount _

/-! ### O23 -/

theorem geodeJobs : GeodeJobs := by
  refine ⟨fun s i hready => ⟨exec_actReady (f := fun d => d.encStart i) rfl hready, exec_actReady (f := fun d => d.encDone i) rfl hready,
      exec_actReady (f := fun d => d.decStart i) rfl hready, fun r => exec_actReady (f := fun d => (d.decDone i r).micaResolveAll) rfl hready, fun j hj hgo => ?_,
      fun j x row hj hgo hsrc hsaved => ?_⟩,
    fun s l layer row hup => exec_act (f := fun d => d.preempt l layer row) rfl hup, fun s i j hready hj hgo hsrc => ?_,
    fun s i j r hready hj hlast hrun hdec hstream hst hsound => ?_, fun s i j hready hj hsrc hgo => ?_,
    fun s i r j g hready hj hlast hrun hdec hstream hst hsf hsound => ?_, fun s l layer row r c hup hrun hc hsaved hlevel hserved => ?_⟩
  · rw [exec_actReady (f := fun d => d.encStart i) rfl hready, Dev.encStart_waits hj hgo]
  · obtain ⟨hrun, k, hk⟩ := Dev.encStart_faults hj hgo hsrc hsaved
    exact ⟨_, k, exec_actReady (f := fun d => d.encStart i) rfl hready, hrun, hk⟩
  · have hgeo := Dev.encStart_runs hj hgo hsrc
    obtain ⟨k, hk, hrest⟩ := s.dev.encServed_head i j
    refine ⟨_, k, exec_actReady (f := fun d => d.encStart i) rfl hready, ?_, ?_, hrest⟩
    · exact (Dev.geRun_congr hgeo _).trans ((Dev.geRun_setGeRun _ _ _ _).trans (if_pos rfl))
    · exact (congrArg (fun x : EncStream => x.jobs.head?) ((Dev.encS_congr hgeo i).trans ((Dev.encS_setEncS _ _ _ _).trans (if_pos rfl)))).trans hk
  · exact ⟨_, exec_actReady (f := fun d => d.encDone i) rfl hready, Dev.encDone_spec hj hlast hrun hdec hstream hst hsound⟩
  · have hgeo := Dev.decStart_runs hj hsrc hgo
    refine ⟨_, { j with started := true, saved := none }, exec_actReady (f := fun d => d.decStart i) rfl hready, ?_, ?_, rfl, rfl⟩
    · exact (Dev.geRun_congr hgeo _).trans ((Dev.geRun_setGeRun _ _ _ _).trans (if_pos rfl))
    · exact congrArg (fun x : DecStream => x.jobs.head?) ((Dev.decS_congr hgeo i).trans ((Dev.decS_setDecS _ _ _ _).trans (if_pos rfl)))
  · have hjob : s.dev.Decoding i j g := ⟨hj, hlast, hst, hrun, hdec, hstream, hsound⟩
    obtain ⟨e, m, hdone, ht⟩ := hjob.finishes r hsf
    obtain ⟨hfree, un, rg, hidx, hstr⟩ := hjob.ends ht m
    have hkept := (s.dev.decDone i r).micaResolveAll_decKept
    rw [hdone] at hkept
    refine ⟨_, exec_actReady (f := fun d => (d.decDone i r).micaResolveAll) rfl hready, ?_⟩
    rw [State.setDev_dev, hdone, hkept.decS, hkept.geRun, hstr]
    exact ⟨hfree, rfl, hidx⟩
  · exact ⟨_, exec_act (f := fun d => d.preempt l layer row) rfl hup, Dev.preempt_spec hrun hc hsaved hlevel hserved layer row⟩

theorem decodeMarks : DecodeMarks := by
  intro d i r j g hj hlast hst hrun hdec hstream hsound
  have hjob : d.Decoding i j g := ⟨hj, hlast, hst, hrun, hdec, hstream, hsound⟩
  refine ⟨fun y sf huns hun hhdr hlayers hsid htid hsf => ?_, fun huns hhdr => ?_, fun hun hhdr => ?_⟩
  · have hin : (d.decS i).layersIn r = [y] := by simp [DecStream.layersIn, hlayers, hsid, htid]
    have hr : (d.decS i).discards r = false := by simp [DecStream.discards, huns, hun]
    have hunit : d.decUnit i j r = d.decLayer i j r (d.decS i).before {} y := by rw [Dev.decUnit, hin]; rfl
    have hmarks : ∀ p : DecPic, (d.decUnit i j r).2.pic = some p → ((d.decDone i r).decS i).tainted = p.tainted ∧ ((d.decDone i r).decS i).latest = some p := fun p hp => by
      obtain ⟨e, m, hdone, ht, hlatest, htaint⟩ := hjob.decodes hr hhdr (by rw [hin]; rfl) hp
      obtain ⟨-, un, rg, -, hstr⟩ := hjob.ends ht m
      rw [hdone, hstr]
      exact ⟨htaint, hlatest⟩
    refine ⟨fun hintra hlost => ?_, fun hintra hcodec hmiss => ?_⟩
    · obtain ⟨p, hp, hclean, hat⟩ := d.decLayer_clean i j r (d.decS i).before {} hsf hintra hlost
      obtain ⟨htaint, hlatest⟩ := hmarks p (by rw [hunit, hp])
      rw [htaint, hlatest, ← hat]
      exact ⟨hclean, rfl⟩
    · obtain ⟨p, hp, htainted⟩ := d.decLayer_missing i j r (d.decS i).before {} hsf hintra hcodec hmiss
      obtain ⟨htaint, hlatest⟩ := hmarks p (by rw [hunit, hp])
      rw [htaint, hlatest, ← htainted]
      exact ⟨rfl, rfl⟩
  · have hr : (d.decS i).discards r = true := by simp [DecStream.discards, huns, hhdr]
    obtain ⟨hgeo, hcount⟩ := d.decRefuses_spec i j r
    have ht := d.decRefuses_touched i j r
    have hx : (d.decRefuses i j r).decS i = { d.decS i with unsupported := true } := by rw [Dev.decS_congr hgeo, Dev.onDecS, Dev.decS_setDecS, if_pos rfl]
    obtain ⟨-, un, rg, -, hstr⟩ := hjob.ends ht (decVoid (d.decS i) r)
    have hdone : d.decDone i r = (d.decRefuses i j r).decEnd i (decVoid (d.decS i) r) := by rw [hjob.done, if_pos hr]
    refine ⟨?_, ?_, ?_, ?_⟩
    · rw [hdone, hstr, hx]
    · rw [hdone, hstr, hx]
    · rw [hdone, hstr]
    · rw [hdone, ← hcount]
      exact Dev.counter_decEnd _ (ht.jobs ▸ hj) hlast (ht.state.trans hst) _ (by decide) (by decide)
  · have hr : (d.decS i).discards r = false := by simp [DecStream.discards, hun, hhdr]
    have hx : (d.decDamages i r).decS i = { d.decS i with lostPic := true } := by
      unfold Dev.decDamages
      rw [Dev.onDecS, Dev.decS_setDecS, if_pos rfl]
      rfl
    obtain ⟨-, un, rg, -, hstr⟩ := hjob.ends (d.decDamages_touched i r) (decVoid (d.decS i) r)
    rw [hjob.done, if_neg (ne_true_of_eq_false hr), if_pos hhdr, hstr, hx]
    exact ⟨rfl, rfl, rfl, rfl⟩

/-- Settles O23: the rows of Geode's jobs, and the marks of a decoded picture. -/
theorem geodeWork : Obligations.GeodeWork := ⟨geodeJobs, decodeMarks⟩

end Sys2Proof.Machine
end

section
/-! The commands of legs, streams and subscriptions (R158 to R166, Tables 4-2, 4-4 and 4-5): O17. -/

namespace Sys2Proof.Machine
open Sys2Proof

variable {s : State} {d e x : Dev} {o : OpSpec} {c : HostCmd} {i k l n : Nat} {v : Word}

theorem Dev.leg_congr (h : e.legs = d.legs) (l : Nat) : e.leg l = d.leg l := by rw [Dev.leg, h, Dev.leg]
theorem Dev.stream_congr (h : e.legs = d.legs) (l i : Nat) : e.stream l i = d.stream l i := by rw [Dev.stream, Dev.leg_congr h, Dev.stream]
theorem Dev.inst_congr (h : e.legs = d.legs) (n : Nat) : e.inst n = d.inst n := by rw [Dev.inst, h, Dev.inst]

/-- What a command that ends with OK leaves of the legs. -/
theorem Accepts.legs (h : Accepts o c s) (he : o.effect c s = (s.setDev x, .done .ok n v)) : (runCmd o c s).dev.legs = x.legs := by
  obtain ⟨e, hu, hdone⟩ := h.doneDev he
  rw [hu]
  exact hdone.legs

/-! ### A leg moves -/

theorem Dev.moveLeg_noted (d : Dev) (l : Nat) (st : LegState) (cause : Nat) : (d.onLeg l fun x => { x with state := st }).Noted (d.moveLeg l st cause) :=
  Dev.trace_noted _ _ _ _ _ _ _
theorem Dev.moveLeg_legs (d : Dev) (l : Nat) (st : LegState) (cause : Nat) : (d.moveLeg l st cause).legs = (d.onLeg l fun x => { x with state := st }).legs := by
  rw [d.moveLeg_noted l st cause]
theorem Dev.leg_moveLeg (d : Dev) (l : Nat) (st : LegState) (cause k : Nat) : (d.moveLeg l st cause).leg k = if k = l then { d.leg l with state := st } else d.leg k := by
  rw [Dev.leg_congr (d.moveLeg_legs l st cause), Dev.onLeg, Dev.leg_setLeg]

/-- A leg moved and then changed: the leg, and every other one. -/
theorem Dev.leg_moved (d : Dev) (l : Nat) (st : LegState) (cause : Nat) (f : Leg → Leg) (k : Nat) :
    ((d.moveLeg l st cause).onLeg l f).leg k = if k = l then f { d.leg l with state := st } else d.leg k := by
  rw [Dev.leg_onLeg, Dev.leg_moveLeg, Dev.leg_moveLeg, if_pos rfl]
  split
  · rfl
  next hk => rfl

theorem Dev.legProf_moveLeg (d : Dev) (l : Nat) (st : LegState) (cause a b w : Nat) : (d.moveLeg l st cause).legProf l a b w = d.legProf l a b w := by
  rw [Dev.legProf, Dev.leg_moveLeg, if_pos rfl, Dev.legProf]
  rw [Dev.prof, Dev.moveLeg_legs]
  rfl

/-! ### Commands of legs -/

theorem Accepts.opensLeg (h : Accepts legOpenSpec c s) : ∃ b, capturePinned s.dev c.realm (c.arg 8 8) 256 = some b ∧
    ∀ k, (runCmd legOpenSpec c s).dev.leg k = if k = c.arg 0 2 then { state := .keyed, realm := c.realm, conf := c.arg 2 2, desc := legParse b } else s.dev.leg k := by
  obtain ⟨b, hb, -⟩ := h.verdict
  refine ⟨b, hb, fun k => ?_⟩
  have heff : ∃ y n v, legOpenSpec.effect c s = (s.setDev y, .done .ok n v) ∧
      ∀ k, y.leg k = if k = c.arg 0 2 then { state := .keyed, realm := c.realm, conf := c.arg 2 2, desc := legParse b } else s.dev.leg k :=
    ⟨_, _, _, h.captured hb, fun k => by
      refine (Dev.leg_congr ((Dev.bindQueue_egressWork _ _ _ _ _).trans (Dev.bindQueue_egressWork _ _ _ _ _)).legs k).trans ((Dev.leg_setLeg _ _ _ _).trans ?_)
      split
      · rfl
      next hk => rw [Dev.leg_moveLeg, if_neg hk]⟩
  obtain ⟨y, n, v, heff, hy⟩ := heff
  rw [Dev.leg_congr (h.legs heff), hy]

/-- A leg as LEG_START begins it at a boundary (R159, R178): its estimate at the START rate of its profile. -/
def Dev.legBegun (d : Dev) (l : Nat) (b : Time) (x : Leg) : Leg :=
  { x with
    est := ((d.legProf l 0x08 0 32 * 1000 : Nat) : Int)
    verdict := .steady
    lastReport := b
    holdUntil := b
    baseHist := []
    consentFrom := b
    nextConsent := b
    stunIds := []
    nextRtcp := b + d.legProf l 0x30 32 16 * msT
    nextFb := b + d.legProf l 0x30 16 16 * msT }

/-- A leg as LEG_RESUME takes it up again at a boundary. -/
def Leg.takenUp (b : Time) (x : Leg) : Leg := { x.dropFeedback with lastReport := b, consentFrom := if x.expired then b else x.consentFrom, expired := false }

theorem Accepts.startsLeg (h : Accepts legStartSpec c s) (k : Nat) : (runCmd legStartSpec c s).dev.leg k =
    if k = c.arg 0 2 then (s.dev.moveLeg (c.arg 0 2) .active 0).legBegun (c.arg 0 2) (boundaryOf s.dev) { s.dev.leg (c.arg 0 2) with state := .active } else s.dev.leg k := by
  have heff : ∃ (y : Dev) (n : Nat) (v : Word), legStartSpec.effect c s = (s.setDev y, .done .ok n v) ∧
      y.legs = ((s.dev.moveLeg (c.arg 0 2) .active 0).onLeg (c.arg 0 2) ((s.dev.moveLeg (c.arg 0 2) .active 0).legBegun (c.arg 0 2) (boundaryOf s.dev))).legs := ⟨_, _, _, rfl, rfl⟩
  obtain ⟨y, n, v, heff, hy⟩ := heff
  rw [Dev.leg_congr ((h.legs heff).trans hy), Dev.leg_moved]

theorem Accepts.resumesLeg (h : Accepts legResumeSpec c s) (k : Nat) : (runCmd legResumeSpec c s).dev.leg k =
    if k = c.arg 0 2 then Leg.takenUp (boundaryOf s.dev) { s.dev.leg (c.arg 0 2) with state := .active } else s.dev.leg k := by
  have heff : ∃ (y : Dev) (n : Nat) (v : Word), legResumeSpec.effect c s = (s.setDev y, .done .ok n v) ∧
      y.legs = ((s.dev.moveLeg (c.arg 0 2) .active 0).onLeg (c.arg 0 2) (Leg.takenUp (boundaryOf s.dev))).legs := ⟨_, _, _, rfl, rfl⟩
  obtain ⟨y, n, v, heff, hy⟩ := heff
  rw [Dev.leg_congr ((h.legs heff).trans hy), Dev.leg_moved]

/-- LEG_HOLD changes its leg, and nothing else of the units. -/
theorem Accepts.holdsLeg (h : Accepts legHoldSpec c s) : ∃ u, runCmd legHoldSpec c s = u ∧ UnitsKept { s with dev := { s.dev with legs := u.dev.legs } } u ∧
    ∀ k, u.dev.leg k = if k = c.arg 0 2 then { s.dev.leg (c.arg 0 2) with state := .held, expired := false } else s.dev.leg k := by
  have heff : legHoldSpec.effect c s = (s.setDev ((s.dev.moveLeg (c.arg 0 2) .held 0).onLeg (c.arg 0 2) fun x => { x with expired := false }), .done .ok 0
      ((s.dev.moveLeg (c.arg 0 2) .held 0).onLeg (c.arg 0 2) fun x => { x with expired := false }).short) := rfl
  refine ⟨_, rfl, ?_, fun k => by rw [Dev.leg_congr (h.legs heff), Dev.leg_moved]⟩
  have hmoved : ∃ y, y = (s.dev.moveLeg (c.arg 0 2) .held 0).onLeg (c.arg 0 2) (fun x => { x with expired := false }) ∧
      y = { s.dev with legs := y.legs, ctl := { y.ctl with rings := s.dev.ctl.rings }, obs := y.obs } := ⟨_, rfl, by
    have hnoted := s.dev.moveLeg_noted (c.arg 0 2) .held 0
    unfold Dev.Noted at hnoted
    rw [hnoted]
    rfl⟩
  obtain ⟨y, hy, hrest⟩ := hmoved
  rw [← hy] at heff
  obtain ⟨e, hu, hdone, -⟩ := h.okDev heff (by rw [hrest]) (by rw [hrest])
  have he : e = { s.dev with legs := e.legs, ctl := e.ctl, obs := e.obs, mem := e.mem } := by
    rw [hdone, hrest]
  rw [hu]
  exact congrArg s.setDev he

theorem Accepts.closesLeg (h : Accepts legCloseSpec c s) : (runCmd legCloseSpec c s).dev.waiting 0x0204 (c.arg 0 2) = true ∧
    ∀ k, (runCmd legCloseSpec c s).dev.leg k = if k = c.arg 0 2 then { s.dev.leg (c.arg 0 2) with state := .draining, drainAt := s.dev.now + 20 * msT } else s.dev.leg k := by
  have heff : legCloseSpec.effect c s = (s.setDev ((s.dev.moveLeg (c.arg 0 2) .draining 0).onLeg (c.arg 0 2) fun x => { x with drainAt := s.dev.now + 20 * msT }),
      .later (c.arg 0 2) 0) := rfl
  obtain ⟨e, hrun, ⟨w, hw⟩, hwait⟩ := h.laterDev heff
  refine ⟨by rw [hrun]; exact hwait, fun k => ?_⟩
  have hlegs : e.legs = ((s.dev.moveLeg (c.arg 0 2) .draining 0).onLeg (c.arg 0 2) fun x => { x with drainAt := s.dev.now + 20 * msT }).legs := by rw [hw]
  rw [hrun, State.setDev_dev, Dev.leg_congr hlegs, Dev.leg_moved]

/-- The subscriptions left once those that leg `l` receives or gives are gone. -/
def Dev.cutLeg (d : Dev) (l : Nat) : Dev :=
  { d with legs := { d.legs with insts := tabMapD none d.legs.insts (fun _ i => i.filter (fun y => y.receiver != l && !(y.kind == 0 && y.src == l))) } }

theorem Dev.inst_cutLeg (d : Dev) {x : Inst} (h : (d.cutLeg l).inst n = some x) : x.receiver ≠ l ∧ ¬(x.kind = 0 ∧ x.src = l) := by
  have hall := tabGetD_tabMapD_of (p := fun i : Option Inst => ∀ y ∈ i, (y.receiver != l && !(y.kind == 0 && y.src == l)) = true) none d.legs.insts
    (fun _ i => i.filter (fun y => y.receiver != l && !(y.kind == 0 && y.src == l))) (fun _ hy => nomatch hy)
    (fun _ i y hy => (Option.mem_filter_iff.mp hy).2) n
  have hx := hall x h
  simp only [Bool.and_eq_true, bne_iff_ne, ne_eq, Bool.not_eq_true', Bool.and_eq_false_imp, beq_iff_eq, beq_eq_false_iff_ne] at hx
  exact ⟨hx.1, fun ⟨hkind, hsrc⟩ => hx.2 hkind hsrc⟩

/-- A leg's subscriptions, queues, audio and keys given up. -/
def Dev.legFreed (d : Dev) (l : Nat) : Dev :=
  let e := (((d.cutLeg l).releaseQueue ((d.cutLeg l).mediaQ l)).releaseQueue ((d.cutLeg l).repairQ l)).audioRelease l
  if (d.leg l).desc.srtp then (e.zeroSlot (d.leg l).desc.keyIn).zeroSlot (d.leg l).desc.keyOut else e

theorem Dev.legFreed_legs (d : Dev) (l : Nat) : (d.legFreed l).legs = (d.cutLeg l).legs := by
  have haudio : ∀ e : Dev, (e.audioRelease l).legs = e.legs := fun _ => rfl
  have hqueues : ∀ (e : Dev) (a b : Nat), ((e.releaseQueue a).releaseQueue b).legs = e.legs := fun e a b =>
    ((e.bindQueue_egressWork a .unbound 0 0).trans (Dev.bindQueue_egressWork _ b .unbound 0 0)).legs
  have hkeys : ∀ (e : Dev) (a b : Nat), ((e.zeroSlot a).zeroSlot b).legs = e.legs := fun _ _ _ => rfl
  unfold Dev.legFreed
  dsimp only
  split
  · rw [hkeys, haudio, hqueues]
  · rw [haudio, hqueues]

/-- A leg IDLE again, and the conference that it was the last leg of without an owner. -/
def Dev.legReleased (d : Dev) (l : Nat) : Dev :=
  let e := ((d.legFreed l).moveLeg l .idle 0).setLeg l {}
  if e.legs.legs.any (fun y => decide (y.2.state ≠ .idle) && y.2.conf == (d.leg l).conf) then e
  else { e with legs := { e.legs with confOwner := tabPutD none e.legs.confOwner (d.leg l).conf none } }

theorem Dev.legReleased_spec (d : Dev) (l : Nat) : (d.legReleased l).legs.insts = (d.cutLeg l).legs.insts ∧
    ∀ k, (d.legReleased l).leg k = if k = l then {} else d.leg k := by
  have hset : ∀ (e : Dev) (x : Leg), (e.setLeg l x).legs.insts = e.legs.insts := fun _ _ => rfl
  have honLeg : ∀ (e : Dev) (f : Leg → Leg), (e.onLeg l f).legs.insts = e.legs.insts := fun _ _ => rfl
  have hinsts : (((d.legFreed l).moveLeg l .idle 0).setLeg l {}).legs.insts = (d.cutLeg l).legs.insts := by
    rw [hset, Dev.moveLeg_legs, honLeg, Dev.legFreed_legs]
  have hlegs : ∀ k, (((d.legFreed l).moveLeg l .idle 0).setLeg l {}).leg k = if k = l then {} else d.leg k := fun k => by
    rw [Dev.leg_setLeg]
    split
    · rfl
    next hk => rw [Dev.leg_moveLeg, if_neg hk]; exact Dev.leg_congr (d.legFreed_legs l) k
  unfold Dev.legReleased
  dsimp only
  split
  · exact ⟨hinsts, hlegs⟩
  · exact ⟨hinsts, hlegs⟩

theorem Accepts.releasesLeg (h : Accepts legReleaseSpec c s) : (runCmd legReleaseSpec c s).dev.legs = (s.dev.legReleased (c.arg 0 2)).legs :=
  h.legs (n := 0) (v := (s.dev.legReleased (c.arg 0 2)).short) rfl

theorem Accepts.updatesLeg (h : Accepts legUpdateSpec c s) : ∃ b, capturePinned s.dev c.realm (c.arg 8 8) 256 = some b ∧
    ∀ k, (runCmd legUpdateSpec c s).dev.leg k = if k = c.arg 0 2 then { s.dev.leg (c.arg 0 2) with desc := legParse b } else s.dev.leg k := by
  obtain ⟨b, hb, -⟩ := h.verdict
  refine ⟨b, hb, fun k => ?_⟩
  have hrelease : ∀ (d : Dev) (a b : Nat), ([a, b].foldl (fun (d : Dev) k => if k = d.mediaQ (c.arg 0 2) ∨ k = d.repairQ (c.arg 0 2) then d else d.releaseQueue k) d).legs = d.legs :=
    fun d a b => Dev.kept_foldl Dev.legs _ (fun d k => by
      split
      · rfl
      · exact (d.bindQueue_egressWork _ _ _ _).legs) _ d
  have hrebind : ∀ (d : Dev) (a b p q : Nat), (d.rebind a b (c.arg 0 2) p q).legs = d.legs := fun d a b p q => by
    unfold Dev.rebind
    split
    · rfl
    · exact (d.bindQueue_egressWork _ _ _ _).legs
  have hctxs : ∀ (d : Dev) (a b : Nat), (d.moveCtxs a b).legs = d.legs := fun d a b => by
    unfold Dev.moveCtxs
    split <;> rfl
  have heff : ∃ y n v, legUpdateSpec.effect c s = (s.setDev y, .done .ok n v) ∧ y.legs = (s.dev.onLeg (c.arg 0 2) fun y => { y with desc := legParse b }).legs :=
    ⟨_, _, _, h.captured hb, by
      have hbound : ∀ (d : Dev) (a b p q r t u v w : Nat), ((([a, b].foldl (fun (d : Dev) k => if k = d.mediaQ (c.arg 0 2) ∨ k = d.repairQ (c.arg 0 2) then d else d.releaseQueue k) d).rebind a p
          (c.arg 0 2) q r).rebind t u (c.arg 0 2) v w).legs = d.legs := fun d a b p q r t u v w => (hrebind _ _ _ _ _).trans ((hrebind _ _ _ _ _).trans (hrelease d a b))
      unfold legUpdateSpec devRun
      dsimp only
      split
      · exact (hctxs _ _ _).trans ((hctxs _ _ _).trans (hbound _ _ _ _ _ _ _ _ _ _))
      · exact hbound _ _ _ _ _ _ _ _ _ _⟩
  obtain ⟨y, n, v, heff, hy⟩ := heff
  rw [Dev.leg_congr ((h.legs heff).trans hy), Dev.leg_onLeg]

end Sys2Proof.Machine
end

section
/-! The commands of a leg's streams and of subscriptions (R161, R164 to R166, Tables 4-4 and 4-5): O17. -/

namespace Sys2Proof.Machine
open Sys2Proof

variable {s : State} {d e x : Dev} {o : OpSpec} {c : HostCmd} {i k l n : Nat} {v : Word}

theorem Dev.stream_setStream (d : Dev) (l i : Nat) (y : Option Strm) (k : Nat) : (d.setStream l i y).stream l k = if k = i then y else d.stream l k := by
  rw [Dev.stream, Dev.setStream, Dev.leg_onLeg, if_pos rfl]
  exact tabGetD_tabPutD _ _ _ _ _
theorem Dev.leg_setStream (d : Dev) (i : Nat) (y : Option Strm) (h : k ≠ l) : (d.setStream l i y).leg k = d.leg k := by
  rw [Dev.setStream, Dev.leg_onLeg, if_neg h]

/-! ### Streams -/

/-- The stream that STREAM_ADD makes. -/
def newStream (c : HostCmd) (seq : Nat) : Strm :=
  { kind := c.arg 3 1, ssrc := c.arg 4 4, bound := c.arg 4 4 != 0, pt := c.arg 8 1, codec := c.arg 9 1, primary := c.arg 10 1, nack := c.arg 11 1 % 2 == 1
    decode := c.arg 11 1 / 2 % 2 == 1, mid := unpad (argBytes c 12 8), rid := unpad (argBytes c 20 8), enc := c.arg 28 1, outSeq := seq }

theorem Accepts.addsStream (h : Accepts streamAddSpec c s) : (runCmd streamAddSpec c s).dev.legs =
    (s.dev.setStream (c.arg 0 2) (c.arg 2 1) (some (newStream c (s.dev.freeWord.toNat % 65536)))).legs :=
  h.legs (x := s.dev.tickFree.setStream (c.arg 0 2) (c.arg 2 1) (some (newStream c (s.dev.freeWord.toNat % 65536)))) (n := c.arg 2 1)
    (v := (s.dev.tickFree.setStream (c.arg 0 2) (c.arg 2 1) (some (newStream c (s.dev.freeWord.toNat % 65536)))).short) rfl

/-- The subscriptions left once those of a source are gone. -/
def Dev.cutSource (d : Dev) (l sub : Nat) : Dev :=
  { d with legs := { d.legs with insts := tabMapD none d.legs.insts (fun _ i => i.filter (fun y => !(y.kind == 0 && y.src == l && y.sub == sub))) } }

theorem Dev.inst_cutSource (d : Dev) {sub : Nat} {x : Inst} (h : (d.cutSource l sub).inst n = some x) : ¬(x.kind = 0 ∧ x.src = l ∧ x.sub = sub) := by
  have hall := tabGetD_tabMapD_of (p := fun i : Option Inst => ∀ y ∈ i, (!(y.kind == 0 && y.src == l && y.sub == sub)) = true) none d.legs.insts
    (fun _ i => i.filter (fun y => !(y.kind == 0 && y.src == l && y.sub == sub))) (fun _ hy => nomatch hy)
    (fun _ i y hy => (Option.mem_filter_iff.mp hy).2) n
  have hx := hall x h
  rintro ⟨hkind, hsrc, hsub⟩
  simp [hkind, hsrc, hsub] at hx

theorem Accepts.removesStream (h : Accepts streamRemoveSpec c s) : (runCmd streamRemoveSpec c s).dev.legs =
    ((s.dev.cutSource (c.arg 0 2) (s.dev.sourceOf (c.arg 0 2) (c.arg 2 1))).setStream (c.arg 0 2) (c.arg 2 1) none).legs := by
  have heff : ∃ y n v, streamRemoveSpec.effect c s = (s.setDev y, .done .ok n v) ∧
      y.legs = ((s.dev.cutSource (c.arg 0 2) (s.dev.sourceOf (c.arg 0 2) (c.arg 2 1))).setStream (c.arg 0 2) (c.arg 2 1) none).legs := ⟨_, _, _, rfl, rfl⟩
  obtain ⟨y, n, v, heff, hy⟩ := heff
  exact (h.legs heff).trans hy

/-! ### Subscriptions -/

/-- The number that SUBSCRIBE takes: the first that is free from a number of the model's choice on. -/
def Dev.freeInst (d : Dev) : Nat :=
  (((List.range 32768).map (fun i => (d.freeWord.toNat % 32768 + i) % 32768)).find? (fun i => !(d.instList.map (fun e => e.1)).contains i)).getD 0

theorem Dev.freeInst_lt (d : Dev) : d.freeInst < 32768 := by
  unfold Dev.freeInst
  cases hf : ((List.range 32768).map (fun i => (d.freeWord.toNat % 32768 + i) % 32768)).find? (fun i => !(d.instList.map (fun e => e.1)).contains i) with
  | none => exact (by decide : 0 < 32768)
  | some n =>
    obtain ⟨i, -, hi⟩ := List.mem_map.1 (List.mem_of_find?_eq_some hf)
    rw [Option.getD_some, ← hi]
    exact Nat.mod_lt _ (by decide)

/-- Every number is tried. -/
theorem mem_triedFrom (a : Nat) {m : Nat} (hm : m < 32768) : m ∈ (List.range 32768).map (fun i => (a + i) % 32768) := by
  refine List.mem_map.2 ⟨(m + (32768 - a % 32768)) % 32768, List.mem_range.2 (Nat.mod_lt _ (by decide)), ?_⟩
  omega

theorem Dev.freeInst_free (d : Dev) (h : ∃ m, m < 32768 ∧ ∀ y, (m, y) ∉ d.instList) (y : Inst) : (d.freeInst, y) ∉ d.instList := by
  obtain ⟨m, hm, hfree⟩ := h
  have hnot : (!(d.instList.map (fun e => e.1)).contains m) = true := by
    rw [Bool.not_eq_true', ← Bool.not_eq_true, List.contains_iff_mem, List.mem_map]
    rintro ⟨e, he, rfl⟩
    exact hfree e.2 he
  have hsome : (((List.range 32768).map (fun i => (d.freeWord.toNat % 32768 + i) % 32768)).find? (fun i => !(d.instList.map (fun e => e.1)).contains i)).isSome = true :=
    List.find?_isSome.2 ⟨m, mem_triedFrom _ hm, hnot⟩
  obtain ⟨n, hn⟩ := Option.isSome_iff_exists.1 hsome
  have hnum : d.freeInst = n := by rw [Dev.freeInst, hn, Option.getD_some]
  rw [hnum]
  intro hmem
  have hfound := List.find?_some hn
  rw [Bool.not_eq_true', ← Bool.not_eq_true, List.contains_iff_mem] at hfound
  exact hfound (List.mem_map.2 ⟨_, hmem, rfl⟩)

/-- The subscription that SUBSCRIBE makes. -/
def newInst (c : HostCmd) (seq rtx : Nat) : Inst :=
  { receiver := c.arg 0 2, kind := c.arg 2 1, sub := c.arg 3 1, src := c.arg 4 2, weight := c.arg 6 1, prio := c.arg 7 1, maxS := c.arg 8 1, maxT := c.arg 9 1
    outSsrc := c.arg 12 4, outPt := c.arg 16 1, rtxPt := c.arg 17 1, outSeq := seq, rtxSeq := rtx }

theorem Accepts.subscribes (h : Accepts subscribeSpec c s) : ∃ seq rtx, (runCmd subscribeSpec c s).dev.legs = (s.dev.setInst s.dev.freeInst (some (newInst c seq rtx))).legs := by
  refine ⟨s.dev.tickFree.freeWord.toNat % 65536, s.dev.tickFree.tickFree.freeWord.toNat % 65536, ?_⟩
  exact h.legs (x := s.dev.tickFree.tickFree.tickFree.setInst s.dev.freeInst (some (newInst c (s.dev.tickFree.freeWord.toNat % 65536) (s.dev.tickFree.tickFree.freeWord.toNat % 65536))))
    (n := s.dev.freeInst) (v := s.dev.short) rfl

theorem Accepts.unsubscribes (h : Accepts unsubscribeSpec c s) : (runCmd unsubscribeSpec c s).dev.legs = (s.dev.setInst (c.arg 2 2) none).legs :=
  h.legs (x := s.dev.setInst (c.arg 2 2) none) (n := 0) (v := s.dev.short) rfl

theorem Accepts.setsSubscription (h : Accepts subscribeSetSpec c s) {y : Inst} (hy : s.dev.inst (c.arg 20 2) = some y) : (runCmd subscribeSetSpec c s).dev.legs =
    (s.dev.setInst (c.arg 20 2) (some { y with weight := c.arg 6 1, prio := c.arg 7 1, maxS := c.arg 8 1, maxT := c.arg 9 1 })).legs := by
  have heff : ∃ n v, subscribeSetSpec.effect c s = (s.setDev (s.dev.onInst (c.arg 20 2) fun x => { x with weight := c.arg 6 1, prio := c.arg 7 1, maxS := c.arg 8 1, maxT := c.arg 9 1 }),
    .done .ok n v) := ⟨_, _, rfl⟩
  obtain ⟨n, v, heff⟩ := heff
  rw [h.legs heff, Dev.onInst, hy]

/-! ### O17 -/

theorem legCommands : LegCommands := by
  intro s c
  refine ⟨fun h => ?_, fun h => ?_, fun h => ?_, fun h => ?_, fun h => ?_, fun h => ?_, fun h => ?_, fun h => ?_⟩
  · obtain ⟨b, hb, hleg⟩ := h.opensLeg
    exact ⟨_, b, rfl, hb, (hleg _).trans (if_pos rfl), fun k hk => (hleg k).trans (if_neg hk)⟩
  · have hown := (h.startsLeg (c.arg 0 2)).trans (if_pos rfl)
    refine ⟨_, rfl, by rw [hown]; rfl, ?_, by rw [hown]; rfl, by rw [hown]; rfl, fun k hk => (h.startsLeg k).trans (if_neg hk)⟩
    rw [hown, ← s.dev.legProf_moveLeg (c.arg 0 2) .active 0]
    rfl
  · obtain ⟨u, hu, hkept, hleg⟩ := h.holdsLeg
    exact ⟨u, congrArg Host.Outcome.next hu, hkept, (hleg _).trans (if_pos rfl), fun k hk => (hleg k).trans (if_neg hk)⟩
  · have hown := (h.resumesLeg (c.arg 0 2)).trans (if_pos rfl)
    exact ⟨_, rfl, by rw [hown]; rfl, by rw [hown]; rfl, by rw [hown]; rfl, fun k hk => (h.resumesLeg k).trans (if_neg hk)⟩
  · obtain ⟨hwait, hleg⟩ := h.closesLeg
    exact ⟨_, rfl, hwait, (hleg _).trans (if_pos rfl), fun k hk => (hleg k).trans (if_neg hk)⟩
  · obtain ⟨hinsts, hleg⟩ := s.dev.legReleased_spec (c.arg 0 2)
    have hlegs := h.releasesLeg
    refine ⟨_, rfl, (Dev.leg_congr hlegs _).trans ((hleg _).trans (if_pos rfl)), fun n x hx => ?_, fun k hk => (Dev.leg_congr hlegs _).trans ((hleg k).trans (if_neg hk))⟩
    rw [Dev.inst_congr hlegs, Dev.inst, hinsts] at hx
    exact s.dev.inst_cutLeg hx
  · obtain ⟨b, hb, hleg⟩ := h.updatesLeg
    exact ⟨_, b, rfl, hb, (hleg _).trans (if_pos rfl), fun k hk => (hleg k).trans (if_neg hk)⟩
  · obtain ⟨u, hu, hkept, hout, -⟩ := h.query (n := (s.dev.leg (c.arg 0 2)).state.code) rfl
    have hcode : (s.dev.leg (c.arg 0 2)).state.code < 65536 := by
      cases (s.dev.leg (c.arg 0 2)).state <;> decide
    rw [Nat.mod_eq_of_lt hcode] at hout
    exact ⟨u, congrArg Host.Outcome.next hu, hkept, hout⟩

theorem streamCommands : StreamCommands := by
  intro s c
  refine ⟨fun h => ?_, fun h => ?_, fun h => ?_, fun h => ?_, fun y h hy => ?_⟩
  · have hlegs := h.addsStream
    refine ⟨_, newStream c (s.dev.freeWord.toNat % 65536), rfl, ?_, rfl, rfl, rfl, rfl, rfl, rfl, beq_iff_eq, beq_iff_eq, fun i hi => ?_, fun k hk => ?_⟩
    · rw [Dev.stream_congr hlegs, Dev.stream_setStream, if_pos rfl]
    · rw [Dev.stream_congr hlegs, Dev.stream_setStream, if_neg hi]
    · rw [Dev.leg_congr hlegs, Dev.leg_setStream _ _ _ hk]
  · have hlegs := h.removesStream
    refine ⟨_, rfl, ?_, fun n x hx => ?_, fun i hi => ?_⟩
    · rw [Dev.stream_congr hlegs, Dev.stream_setStream, if_pos rfl]
    · rw [Dev.inst_congr hlegs] at hx
      exact s.dev.inst_cutSource hx
    · rw [Dev.stream_congr hlegs, Dev.stream_setStream, if_neg hi]
      rfl
  · obtain ⟨seq, rtx, hlegs⟩ := h.subscribes
    refine ⟨_, s.dev.freeInst, newInst c seq rtx, rfl, s.dev.freeInst_lt, ?_, rfl, rfl, rfl, rfl, rfl, rfl, rfl, rfl, rfl, rfl, rfl, s.dev.freeInst_free, fun m hm => ?_⟩
    · rw [Dev.inst_congr hlegs, Dev.inst_setInst, if_pos rfl]
    · rw [Dev.inst_congr hlegs, Dev.inst_setInst, if_neg hm]
  · have hlegs := h.unsubscribes
    refine ⟨_, rfl, ?_, fun m hm => ?_, (congrArg Legs.legs hlegs :)⟩
    · rw [Dev.inst_congr hlegs, Dev.inst_setInst, if_pos rfl]
    · rw [Dev.inst_congr hlegs, Dev.inst_setInst, if_neg hm]
  · have hlegs := h.setsSubscription hy
    refine ⟨_, rfl, ?_, fun m hm => ?_, (congrArg Legs.legs hlegs :)⟩
    · rw [Dev.inst_congr hlegs, Dev.inst_setInst, if_pos rfl]
    · rw [Dev.inst_congr hlegs, Dev.inst_setInst, if_neg hm]

/-- Settles O17: the commands of legs, and those of their streams and subscriptions. -/
theorem legCommandResults : Obligations.LegCommandResults := ⟨legCommands, streamCommands⟩

end Sys2Proof.Machine
end

section
/-! What the work of a leg leaves alone: the LEGS counters while it sends, and its leg while its streams change (R158 to R192). -/

namespace Sys2Proof.Machine
open Sys2Proof

variable {d e f : Dev} {i k l n p : Nat}

/-! ### The counters of the LEGS page -/

/-- The counters of the LEGS page are as before. -/
def Dev.LegCounts (d e : Dev) : Prop := ∀ o, o < 4096 → e.counter pgLegs o = d.counter pgLegs o

theorem Dev.LegCounts.refl (d : Dev) : d.LegCounts d := fun _ _ => rfl
theorem Dev.LegCounts.trans (h : d.LegCounts e) (k : e.LegCounts f) : d.LegCounts f := fun o ho => (k o ho).trans (h o ho)
theorem Dev.LegCounts.ite {q : Prop} [Decidable q] (h : d.LegCounts e) (k : d.LegCounts f) : d.LegCounts (if q then e else f) := by
  split
  · exact h
  · exact k
theorem Dev.legCounts_foldl {α : Type} (g : Dev → α → Dev) (h : ∀ (d : Dev) (a : α), d.LegCounts (g d a)) (r : List α) (d : Dev) : d.LegCounts (r.foldl g d) := by
  induction r generalizing d with
  | nil => exact .refl d
  | cons a t ih => exact (h d a).trans (ih _)

theorem Dev.legCounts_of (h : e.ctl.counters = d.ctl.counters) : d.LegCounts e := fun _ _ => by rw [Dev.counter, h, Dev.counter]
theorem Dev.legCounts_inc (d : Dev) {o : Nat} (hp : pgLegs ≠ p) (ho : o < 4096) : d.LegCounts (d.inc p o) := fun _ hb => d.counter_inc_of_ne hb ho hp
theorem Dev.legCounts_raise (d : Dev) (p b so co : Nat) (y z : Word) : d.LegCounts (d.raise p b so co y z) := fun _ ho => d.counter_raise _ _ _ _ _ _ (by decide) ho
theorem Dev.legCounts_trace (d : Dev) (c ev so : Nat) (x y : Word) (o : Nat) : d.LegCounts (d.trace c ev so x y o) := fun _ ho =>
  d.counter_trace c ev so x y o (by decide) ho
theorem Dev.legCounts_record (d : Dev) (a b : Nat) (v : List Int) : d.LegCounts (d.record a b v) := .ite (Dev.legCounts_of rfl) (.refl d)
theorem Dev.pgLegs_ne_egress (p : Nat) : pgLegs ≠ pgEgress p := Nat.ne_of_lt (Nat.lt_of_lt_of_le (by decide : pgLegs < 37) (Nat.le_add_right 37 p))

theorem Dev.legCounts_dropOversize (d : Dev) (k : Nat) : d.LegCounts (d.dropOversize k) := by
  have hgone : ∀ (r : List EFrame) (p q : Nat), d.LegCounts (r.foldl (fun d f =>
      (d.inc (pgEgress p) 0x0F0).raise (pgEgress p) 2 (0x0E8 + p) 0x0903 (fmk 0 64 q) (fmk 0 64 f.len)) d) := fun r p q =>
    Dev.legCounts_foldl _ (fun d f => (d.legCounts_inc (Dev.pgLegs_ne_egress p) (by decide)).trans (Dev.legCounts_raise _ _ _ _ _ _ _)) r d
  unfold Dev.dropOversize
  dsimp only
  split
  · exact .refl d
  · exact .ite (.refl d) (.ite ((hgone _ _ _).trans (Dev.legCounts_of rfl)) ((hgone _ _ _).trans (Dev.legCounts_of rfl)))

theorem Dev.legCounts_enqueue (d : Dev) (k : Nat) (x : EFrame) : d.LegCounts (d.enqueue k x) := by
  have hjoin : ∀ (y : Dev) (k : Nat), y.LegCounts (y.joinActive k) := fun y k => .ite (.refl y) (Dev.legCounts_of rfl)
  have hfull : ∀ q : Queue → Queue, d.LegCounts ((d.inc (pgEgress (d.qPort k)) (if 8192 ≤ k then 0x0E8 else 0x0E0)).onQueue k q) := fun _ o ho =>
    d.legCounts_inc (Dev.pgLegs_ne_egress _) (by split <;> decide) o ho
  unfold Dev.enqueue
  refine .ite (.refl d) (.ite ((hfull _).trans (Dev.legCounts_raise _ _ _ _ _ _ _)) (.ite ?_ (Dev.legCounts_of rfl)))
  exact Dev.LegCounts.trans (e := d.setQueue k _) (Dev.legCounts_of rfl) ((Dev.legCounts_dropOversize _ _).trans (hjoin _ _))

theorem Dev.legCounts_flintOut (d : Dev) (k : Nat) (rtcp : Bool) (b : List Byte) : d.LegCounts (d.flintOut k rtcp b).1 := by
  have hflint : ∀ (x : Dev) (o : Nat), o < 4096 → x.LegCounts (x.inc pgFlint o) := fun x o ho => x.legCounts_inc (by decide) ho
  unfold Dev.flintOut
  extract_lets s ssrc known c idx spent switches c'
  split
  · exact hflint _ _ (by decide)
  · extract_lets h out d1 d2 y d3 d4 warn mark z d5
    have h1 : d.LegCounts d1 := fun o ho => by
      refine (Dev.counter_bump _ _ _ _ _ _).trans ?_
      exact if_neg fun hk => absurd ((regKey_inj ho (by decide)).1 hk).1 (by decide)
    have h2 : d1.LegCounts d2 := hflint _ _ (by split <;> decide)
    have h3 : d2.LegCounts d3 := .ite (Dev.legCounts_of rfl) (.refl _)
    have hcurrent : ∀ x : KeyHalf, d3.LegCounts (d3.egressCurrent k x) := fun x => by
      have hrec : ∀ v, d3.LegCounts (if x.atIndex.isNone then d3.record 14 k v else d3) := fun v => .ite (d3.legCounts_record _ _ _) (.refl _)
      unfold Dev.egressCurrent
      exact ((hrec _).trans (Dev.legCounts_of rfl)).trans (hflint _ _ (by decide))
    have h4 : d3.LegCounts d4 := by
      unfold d4
      split
      · exact .ite (hcurrent _) (.refl _)
      · exact .refl _
    have hwarn : ∀ (y : KeySlot) (p : Nat), d4.LegCounts (((d4.setSlot k y).flintEvent 3 k ssrc).event p 1) := fun y p o ho =>
      (Dev.counter_event _ _ _ _ _).trans ((Dev.counter_raise _ _ _ _ _ _ _ (by decide) ho).trans rfl)
    split
    · exact hflint _ _ (by decide)
    · split
      · exact ((Dev.LegCounts.trans (e := d.putCtx k _) (Dev.legCounts_of rfl) (hflint _ _ (by decide))).trans (Dev.legCounts_raise _ _ _ _ _ _ _))
      · exact (((h1.trans h2).trans h3).trans h4).trans (.ite (hwarn _ _) (.refl _))

theorem Dev.legCounts_sendRtcp (d : Dev) (l : Nat) (b : List Byte) : d.LegCounts (d.sendRtcp l b) := by
  have hprot : d.LegCounts (d.protect l true b).1 := by
    unfold Dev.protect
    split
    · exact d.legCounts_flintOut _ _ _
    · exact .refl d
  unfold Dev.sendRtcp
  dsimp only
  split
  · exact hprot
  · exact hprot.trans (Dev.legCounts_enqueue _ _ _)

/-! ### Traces and events -/

theorem Dev.page_trace (d : Dev) (c ev so : Nat) (x y : Word) (o q : Nat) : (d.trace c ev so x y o).page q = d.page q := by
  unfold Dev.trace
  dsimp only
  split
  · rfl
  · split
    · rfl
    · split
      · rfl
      · split
        · split <;> rfl
        · rfl

/-! ### Streams of a leg -/

/-- Of leg `l` only the streams, and of the table of legs nothing else that a profile or a leg's rates read, may differ. -/
structure Dev.StrmOnly (l : Nat) (d e : Dev) : Prop where
  profs : e.legs.profs = d.legs.profs
  leg : ∃ t, e.leg l = { d.leg l with streams := t }

theorem Dev.StrmOnly.refl (l : Nat) (d : Dev) : Dev.StrmOnly l d d := ⟨rfl, _, rfl⟩
theorem Dev.StrmOnly.trans (h : Dev.StrmOnly l d e) (k : Dev.StrmOnly l e f) : Dev.StrmOnly l d f := by
  obtain ⟨hp, t, ht⟩ := h
  obtain ⟨kp, u, hu⟩ := k
  exact ⟨kp.trans hp, u, by rw [hu, ht]⟩
theorem Dev.strmOnly_foldl {α : Type} (g : Dev → α → Dev) (h : ∀ (d : Dev) (a : α), Dev.StrmOnly l d (g d a)) (r : List α) (d : Dev) : Dev.StrmOnly l d (r.foldl g d) := by
  induction r generalizing d with
  | nil => exact .refl l d
  | cons a t ih => exact (h d a).trans (ih _)
theorem Dev.onStream_strmOnly (d : Dev) (l i : Nat) (g : Strm → Strm) : Dev.StrmOnly l d (d.onStream l i g) := by
  unfold Dev.onStream
  split
  · refine ⟨rfl, _, (Dev.leg_onLeg _ _ _ _).trans (if_pos rfl)⟩
  · exact .refl l d

theorem Dev.stream_onStream (d : Dev) {x : Strm} (h : d.stream l i = some x) (g : Strm → Strm) : (d.onStream l i g).stream l i = some (g x) := by
  rw [Dev.onStream, h]
  exact (d.stream_setStream l i _ i).trans (if_pos rfl)

end Sys2Proof.Machine
end

section
/-! What the events of legs and streams do to their leg once they are due (R158, R159, R172, R174, R176, R185, R186, R191): O18. -/

namespace Sys2Proof.Machine
open Sys2Proof

variable {s : State} {d e f : Dev} {i k l n o p : Nat}

/-! ### A leg drained -/

theorem Dev.legDrainEnd_early (h : (d.leg l).state ≠ .draining) : d.legDrainEnd l = d := if_pos (Or.inl h)

theorem Dev.legDrainEnd_due (hst : (d.leg l).state = .draining)
    (hdue : (d.queue (d.mediaQ l)).frames = [] ∧ (d.queue (d.repairQ l)).frames = [] ∨ (d.leg l).drainAt ≤ d.now) :
    ((d.legDrainEnd l).leg l).state = .closed ∧ (d.legDrainEnd l).waiting 0x0204 l = false ∧
      ((d.legDrainEnd l).leg l).discarded = (d.queue (d.mediaQ l)).frames.length + (d.queue (d.repairQ l)).frames.length := by
  have hgo : ¬((d.leg l).state ≠ .draining ∨ ((d.queue (d.mediaQ l)).frames.length + (d.queue (d.repairQ l)).frames.length ≠ 0 ∧ d.now < (d.leg l).drainAt)) := by
    rintro (hno | ⟨hheld, hearly⟩)
    · exact hno hst
    · rcases hdue with ⟨hmedia, hrepair⟩ | hlate
      · exact hheld (by rw [hmedia, hrepair]; rfl)
      · exact absurd hearly (Nat.not_lt.2 hlate)
  unfold Dev.legDrainEnd
  dsimp only
  rw [if_neg hgo]
  have hend : ∀ (x : Dev) (g : Leg → Leg) (n : Nat) (v : Word), (((x.onLeg l g).finish 0x0204 l .ok n v).leg l) = g (x.leg l) := fun x g n v => by
    have hposted := (x.onLeg l g).finish_posted 0x0204 l .ok n v
    have hlegs : ((x.onLeg l g).finish 0x0204 l .ok n v).legs = (x.onLeg l g).legs := by rw [hposted]
    rw [Dev.leg_congr hlegs, Dev.leg_onLeg, if_pos rfl]
  rw [hend]
  exact ⟨congrArg Leg.state ((Dev.leg_moveLeg _ _ _ _ _).trans (if_pos rfl)), Dev.waiting_finish _ _ _ _ _ _, rfl⟩

/-! ### Consent -/

theorem Dev.consentRequest_due (hc : (d.leg l).consents = true) (hdue : (d.leg l).nextConsent ≤ d.now) (hdec : d.decides = true) (txid : List Byte) (draw : Nat) :
    ((d.consentRequest l txid draw).leg l).nextConsent = d.now + (4000 + min draw 1000 * 2) * msT ∧ ((d.consentRequest l txid draw).leg l).stunIds =
      (d.leg l).stunIds.filter (fun e => decide (d.now ≤ e.2 + 30 * secT)) ++ [(beNat ((txid ++ List.replicate 12 0).take 12), d.now)] := by
  unfold Dev.consentRequest
  dsimp only
  rw [if_pos (show ((d.leg l).consents && decide ((d.leg l).nextConsent ≤ d.now) && d.decides) = true by rw [hc, hdec, decide_eq_true hdue]; rfl),
    (Dev.sendStun_sends _ _ _).leg, Dev.leg_onLeg, if_pos rfl]
  exact ⟨rfl, rfl⟩

theorem Dev.consentExpired_due (hst : (d.leg l).state = .active) (hc : (d.leg l).desc.consent = true) (hdec : d.decides = true)
    (hdue : epochCeil ((d.leg l).consentFrom + 30 * secT) ≤ d.now) : ((d.consentExpired l).leg l).state = .held ∧ ((d.consentExpired l).leg l).expired = true ∧
      ((d.consentExpired l).page pgLegs).event.getLsbD 0 = true ∧ (d.consentExpired l).counter pgLegs 0x0E0 = d.counter pgLegs 0x0E0 + 1 := by
  have hgo : ¬(!(d.leg l).consents || !d.decides || decide (d.now < epochCeil ((d.leg l).consentFrom + 30 * secT)) || (decide ((d.leg l).state = .held) && (d.leg l).expired)) = true := by
    rw [Leg.consents, hst, hc, hdec, decide_eq_false (Nat.not_lt.2 hdue)]
    simp
  unfold Dev.consentExpired
  dsimp only
  rw [if_neg hgo, if_pos hst]
  have hlegs : ∀ x : Dev, ((x.record 6 l [1]).legEvent l 0 0).legs = x.legs := fun x => ((x.record_sends _ _ _).trans (Dev.raise_noted _ _ _ _ _ _ _).sends).legs
  have hcount : ∀ x : Dev, x.LegCounts ((x.record 6 l [1]).legEvent l 0 0) := fun x => (x.legCounts_record _ _ _).trans (Dev.legCounts_raise _ _ _ _ _ _ _)
  have hmove : ∀ (x : Dev) (g : Leg → Leg), x.LegCounts ((x.moveLeg l .held 1).onLeg l g) := fun x g =>
    (Dev.LegCounts.trans (e := x.onLeg l fun y => { y with state := .held }) (Dev.legCounts_of rfl) (Dev.legCounts_trace _ _ _ _ _ _ _)).trans (Dev.legCounts_of rfl)
  rw [Dev.leg_congr (hlegs _), Dev.leg_moved, if_pos rfl]
  exact ⟨rfl, rfl, Dev.raise_bit _ _ _ _ _ _ _ (by decide), ((hmove _ _).trans (hcount _) 0x0E0 (by decide)).trans (Dev.counter_inc_same _ _ _)⟩

/-! ### Feedback lost -/

theorem le_sub_of_passed {a t b : Nat} (h : a + t ≤ b) : t ≤ b - a := by omega

theorem Dev.estimate_late (d : Dev) (l : Nat) (b : Time) : (d.estimate l b).2 = decide (d.legProf l 0x18 32 16 * msT ≤ b - (d.intake l b).lastReport) := by
  unfold Dev.estimate
  extract_lets x hold inc _ _ x2 lost x3
  have hx2 : x2.lastReport = x.lastReport := by
    unfold x2
    split
    · rfl
    · rfl
    · split <;> rfl
    · rfl
  change lost = _
  unfold lost
  rw [hx2]

theorem Dev.estimate_lastReport (d : Dev) (l : Nat) (b : Time) (h : d.legProf l 0x18 32 16 * msT ≤ b - (d.intake l b).lastReport) :
    (d.estimate l b).1.lastReport = b := by
  unfold Dev.estimate
  extract_lets x hold inc _ _ x2 lost x3
  have hx2 : x2.lastReport = x.lastReport := by
    unfold x2
    split
    · rfl
    · rfl
    · split <;> rfl
    · rfl
  have hlost : lost = true := by
    unfold lost
    rw [hx2, decide_eq_true_eq]
    exact h
  have hx3 : x3 = { x2 with est := x2.est.tdiv 2, verdict := .steady, lastReport := b } := if_pos hlost
  clear_value x3
  subst hx3
  rfl

/-- A leg with the budget and the pace of an update (R179, R180). -/
def Dev.paced (d : Dev) (l : Nat) (b : Time) (r x : Leg) : Leg :=
  { x with
    budget := (d.setLeg l r).videoBudget l b
    pace := some (((r.est * (((d.setLeg l r).legProf l 0x08 40 8 : Nat) : Int)).tdiv 100).toNat, ((r.est * (((d.setLeg l r).legProf l 0x08 48 8 : Nat) : Int)).tdiv 100).toNat) }

theorem Dev.paced_lastReport (d : Dev) (l : Nat) (b : Time) (r x : Leg) : (d.paced l b r x).lastReport = x.lastReport := rfl
theorem Dev.paced_est (d : Dev) (l : Nat) (b : Time) (r x : Leg) : (d.paced l b r x).est = x.est := rfl

theorem Dev.bandwidthUpdate_noted (d : Dev) (l : Nat) (b : Time) :
    ∃ c ev so y z o, d.bandwidthUpdate l b = (if (d.estimate l b).2 then (((d.setLeg l (d.estimate l b).1).onLeg l (d.paced l b (d.estimate l b).1)).legEvent l 2 0)
      else (d.setLeg l (d.estimate l b).1).onLeg l (d.paced l b (d.estimate l b).1)).trace c ev so y z o := ⟨_, _, _, _, _, _, rfl⟩

theorem Dev.bandwidthUpdate_lost (d : Dev) (l : Nat) (b : Time) (h : (d.estimate l b).2 = true) :
    (d.bandwidthUpdate l b).leg l = d.paced l b (d.estimate l b).1 (d.estimate l b).1 ∧ ((d.bandwidthUpdate l b).page pgLegs).event.getLsbD 2 = true := by
  obtain ⟨c, ev, so, y, z, o, heq⟩ := d.bandwidthUpdate_noted l b
  rw [heq, if_pos h, Dev.page_trace]
  refine ⟨?_, Dev.raise_bit _ _ _ _ _ _ _ (by decide)⟩
  rw [Dev.leg_congr (Dev.trace_noted _ _ _ _ _ _ _).sends.legs, Dev.legEvent, Dev.leg_congr (Dev.raise_noted _ _ _ _ _ _ _).sends.legs, Dev.leg_onLeg, if_pos rfl,
    Dev.leg_setLeg, if_pos rfl]

theorem Dev.feedbackLost_due (hst : (d.leg l).state = .active) (hdec : d.decides = true)
    (h : (d.intake l (d.now / msT * msT)).lastReport + d.legProf l 0x18 32 16 * msT ≤ d.now / msT * msT) : ((d.feedbackLost l).leg l).lastReport = d.now / msT * msT ∧
      ((d.feedbackLost l).leg l).est = (d.estimate l (d.now / msT * msT)).1.est ∧ ((d.feedbackLost l).page pgLegs).event.getLsbD 2 = true := by
  have hgo : d.feedbackLost l = d.bandwidthUpdate l (d.now / msT * msT) := if_pos ⟨hst, hdec, h⟩
  have hpassed := le_sub_of_passed h
  obtain ⟨hleg, hbit⟩ := d.bandwidthUpdate_lost l _ ((d.estimate_late _ _).trans (decide_eq_true hpassed))
  rw [hgo, hleg, Dev.paced_lastReport, Dev.paced_est]
  exact ⟨d.estimate_lastReport l _ hpassed, rfl, hbit⟩

/-! ### Repair towards sources -/

theorem Dev.legCounts_onStream (d : Dev) (l i : Nat) (g : Strm → Strm) : d.LegCounts (d.onStream l i g) := by
  unfold Dev.onStream
  split
  · exact Dev.legCounts_of rfl
  · exact .refl d

/-- A repair request sent and traced leaves the table of legs and the LEGS counters as they were. -/
theorem Dev.repairSent_kept (d : Dev) (l i kind ssrc : Nat) (b : List Byte) : ((d.sendRtcp l b).traceRepair l i kind ssrc).legs = d.legs ∧
    d.LegCounts ((d.sendRtcp l b).traceRepair l i kind ssrc) :=
  ⟨((d.sendRtcp_sends l b).trans (Dev.trace_noted _ _ _ _ _ _ _).sends).legs, (d.legCounts_sendRtcp l b).trans (Dev.legCounts_trace _ _ _ _ _ _ _)⟩

/-- The same once it is noted for the partner and counted. -/
theorem Dev.repairCounted_kept (d : Dev) (l i kind ssrc a o : Nat) (v : List Int) (b : List Byte) (ho : o < 4096) :
    ((((d.record a l v).inc pgLegs o).sendRtcp l b).traceRepair l i kind ssrc).legs = d.legs ∧
      ((((d.record a l v).inc pgLegs o).sendRtcp l b).traceRepair l i kind ssrc).counter pgLegs o = d.counter pgLegs o + 1 := by
  obtain ⟨hlegs, hcount⟩ := ((d.record a l v).inc pgLegs o).repairSent_kept l i kind ssrc b
  refine ⟨hlegs.trans (d.record_sends a l v).legs, (hcount o ho).trans ((Dev.counter_inc_same _ _ _).trans ?_)⟩
  rw [d.legCounts_record a l v o ho]

theorem Dev.not_idle_of (h : (d.leg l).state = .active ∨ (d.leg l).state = .held) : (decide ((d.leg l).state ≠ .active) && decide ((d.leg l).state ≠ .held)) = false := by
  rcases h with h | h <;> simp [h]

theorem Dev.nackSend_due {x : Strm} (h : d.stream l i = some x) (hnack : x.nack = true) (hdecode : x.decode = true) (hdec : d.decides = true)
    (hst : (d.leg l).state = .active ∨ (d.leg l).state = .held) (hdue : x.gaps.any (d.gapDue l) = true) :
    (d.nackSend l i).counter pgLegs 0x0A8 = d.counter pgLegs 0x0A8 + 1 ∧
      (d.nackSend l i).stream l i = some { x with gaps := x.gaps.map (fun g => if d.gapDue l g then { g with tries := g.tries + 1, last := d.now } else g) } := by
  have hsome : (x.gaps.filter (d.gapDue l)).isEmpty = false := by
    rw [← Bool.not_eq_true, List.isEmpty_iff, List.filter_eq_nil_iff]
    intro hnone
    obtain ⟨g, hg, hgdue⟩ := List.any_eq_true.1 hdue
    exact hnone g hg hgdue
  unfold Dev.nackSend
  rw [h]
  dsimp only
  rw [if_neg (show ¬(!x.nack || !d.decides || (decide ((d.leg l).state ≠ .active) && decide ((d.leg l).state ≠ .held))) = true by
      rw [hnack, hdec, Dev.not_idle_of hst]; exact Bool.false_ne_true), if_pos hdecode, hsome, if_neg Bool.false_ne_true]
  obtain ⟨hlegs, hcounted⟩ := Dev.repairCounted_kept (d.onStream l i fun s => { s with gaps := x.gaps.map (fun g => if d.gapDue l g then { g with tries := g.tries + 1, last := d.now } else g) })
    l i 0 x.ssrc 5 0x0A8 ([(i : Int), 0] ++ (sortBy (fun a b => decide (a < b)) ((x.gaps.filter (d.gapDue l)).map Gap.seq)).map (fun (q : Nat) => (q : Int))) _ (by decide)
  exact ⟨hcounted.trans (congrArg (· + 1) (d.legCounts_onStream l i _ 0x0A8 (by decide))), (Dev.stream_congr hlegs l i).trans (d.stream_onStream h _)⟩

/-- The source of a stream was last asked for an independent picture 300 ms ago or more. -/
def Dev.rested (d : Dev) (l i : Nat) : Bool := (d.sourceStreams l i).all (fun e => e.2.need.lastSent.all (fun v => decide (v + 300 * msT ≤ d.now)))

/-- No instant of a list is waited for once each lies the wait back. -/
theorem no_wait_left {es : List (Nat × Strm)} {wait now : Nat} (h : es.all (fun e => e.2.need.lastSent.all (fun v => decide (v + wait ≤ now))) = true) :
    ((es.filterMap fun e => e.2.need.lastSent).any fun u => decide (now < u + wait)) = false := by
  rw [List.any_eq_false]
  intro u hu hlate
  obtain ⟨e, he, hsent⟩ := List.mem_filterMap.1 hu
  have hrest := List.all_eq_true.1 h e he
  simp only [hsent, Option.all_some, decide_eq_true_eq] at hrest hlate
  exact absurd hlate (Nat.not_lt.2 hrest)

theorem Dev.rested_waits (h : d.rested l i = true) :
    (((d.sourceStreams l i).filterMap fun e => e.2.need.lastSent).any fun u => decide (d.now < u + 300 * msT)) = false :=
  no_wait_left h

/-- A request noted on its stream and for the partner, counted, sent and traced. -/
def Dev.asks (d : Dev) (l i kind o ssrc : Nat) (g : Strm → Strm) (b : List Byte) : Dev :=
  ((((d.onStream l i g).record 5 l [(i : Int), kind]).inc pgLegs o).sendRtcp l b).traceRepair l i kind ssrc

theorem Dev.asks_spec {x : Strm} (h : d.stream l i = some x) (kind ssrc : Nat) {o : Nat} (ho : o < 4096) (g : Strm → Strm) (b : List Byte) :
    (d.asks l i kind o ssrc g b).counter pgLegs o = d.counter pgLegs o + 1 ∧ (d.asks l i kind o ssrc g b).stream l i = some (g x) := by
  obtain ⟨hlegs, hcounted⟩ := (d.onStream l i g).repairCounted_kept l i kind ssrc 5 o [(i : Int), kind] b ho
  exact ⟨hcounted.trans (congrArg (· + 1) (d.legCounts_onStream l i g o ho)), (Dev.stream_congr hlegs l i).trans (d.stream_onStream h g)⟩

theorem Dev.repairSend_pli {x : Strm} {t : Time} (h : d.stream l i = some x) (hneed : x.need.since = some t) (hbound : x.bound = true) (hdec : d.decides = true)
    (hst : (d.leg l).state = .active ∨ (d.leg l).state = .held) (hrest : d.rested l i = true) (hnew : d.now < t + secT) :
    ∃ b, d.repairSend l i false = d.asks l i 1 0x0B8 x.ssrc (fun s => { s with need := { s.need with lastSent := some d.now } }) b := by
  have hfir : decide (t + secT ≤ d.now) = false := decide_eq_false (Nat.not_le.2 hnew)
  unfold Dev.repairSend
  rw [h]
  dsimp only
  rw [hneed]
  dsimp only
  rw [Dev.not_idle_of hst, Dev.rested_waits hrest, hbound, hdec, hfir, if_neg (by simp), if_neg Bool.false_ne_true]
  exact ⟨_, rfl⟩

theorem Dev.repairSend_fir {x : Strm} {t : Time} (h : d.stream l i = some x) (hneed : x.need.since = some t) (hbound : x.bound = true) (hdec : d.decides = true)
    (hst : (d.leg l).state = .active ∨ (d.leg l).state = .held) (hrest : d.rested l i = true) (hold : t + secT ≤ d.now) :
    ∃ b, d.repairSend l i true =
      (d.asks l i 2 0x0C0 x.ssrc (fun s => { s with need := { s.need with lastSent := some d.now, firSeq := (x.need.firSeq + 1) % 256 } }) b).legEvent l 3 (fmk 0 64 i) := by
  have hfir : decide (t + secT ≤ d.now) = true := decide_eq_true hold
  unfold Dev.repairSend
  rw [h]
  dsimp only
  rw [hneed]
  dsimp only
  rw [Dev.not_idle_of hst, Dev.rested_waits hrest, hbound, hdec, hfir, if_neg (by simp), if_pos rfl]
  exact ⟨_, rfl⟩

theorem Dev.legEvent_kept (d : Dev) (l b : Nat) (v : Word) : (d.legEvent l b v).legs = d.legs ∧ d.LegCounts (d.legEvent l b v) :=
  ⟨(Dev.raise_noted _ _ _ _ _ _ _).sends.legs, d.legCounts_raise _ _ _ _ _ _⟩

theorem Dev.pliSend_due {x : Strm} {t : Time} (h : d.stream l i = some x) (hneed : x.need.since = some t) (hbound : x.bound = true) (hdec : d.decides = true)
    (hst : (d.leg l).state = .active ∨ (d.leg l).state = .held) (hrest : d.rested l i = true) (hnew : d.now < t + secT) :
    (d.repairSend l i false).counter pgLegs 0x0B8 = d.counter pgLegs 0x0B8 + 1 ∧
      (d.repairSend l i false).stream l i = some { x with need := { x.need with lastSent := some d.now } } := by
  obtain ⟨b, hsent⟩ := Dev.repairSend_pli h hneed hbound hdec hst hrest hnew
  rw [hsent]
  exact Dev.asks_spec h 1 x.ssrc (by decide) (fun z => { z with need := { z.need with lastSent := some d.now } }) b

theorem Dev.repairEscalated_due {x : Strm} {t : Time} (h : d.stream l i = some x) (hneed : x.need.since = some t) (hbound : x.bound = true) (hdec : d.decides = true)
    (hst : (d.leg l).state = .active ∨ (d.leg l).state = .held) (hrest : d.rested l i = true) (hold : t + secT ≤ d.now) :
    (d.repairSend l i true).counter pgLegs 0x0C0 = d.counter pgLegs 0x0C0 + 1 ∧
      (d.repairSend l i true).stream l i = some { x with need := { x.need with lastSent := some d.now, firSeq := (x.need.firSeq + 1) % 256 } } ∧
      ((d.repairSend l i true).page pgLegs).event.getLsbD 3 = true := by
  obtain ⟨b, hsent⟩ := Dev.repairSend_fir h hneed hbound hdec hst hrest hold
  obtain ⟨hcount, hstream⟩ := Dev.asks_spec h 2 x.ssrc (o := 0x0C0) (by decide)
    (fun z => { z with need := { z.need with lastSent := some d.now, firSeq := (x.need.firSeq + 1) % 256 } }) b
  rw [hsent]
  generalize d.asks l i 2 0x0C0 x.ssrc _ b = e at hcount hstream
  obtain ⟨hlegs, hkept⟩ := e.legEvent_kept l 3 (fmk 0 64 i)
  exact ⟨(hkept 0x0C0 (by decide)).trans hcount, (Dev.stream_congr hlegs l i).trans hstream, Dev.raise_bit _ _ _ _ _ _ _ (by decide)⟩

/-! ### RTCP and feedback -/

theorem Dev.StrmOnly.legProf (h : Dev.StrmOnly l d e) (a b w : Nat) : e.legProf l a b w = d.legProf l a b w := by
  obtain ⟨hprofs, t, ht⟩ := h
  rw [Dev.legProf, ht, Dev.prof, hprofs, Dev.legProf, Dev.prof]

theorem Dev.Sends.strmOnly (h : d.Sends e) (l : Nat) : Dev.StrmOnly l d e := ⟨by rw [h.legs], (d.leg l).streams, h.leg l⟩

theorem Dev.rtcpSend_due (hst : (d.leg l).state = .active ∨ (d.leg l).state = .held) (hdec : d.decides = true) (hdue : (d.leg l).nextRtcp ≤ d.now) :
    ((d.rtcpSend l).leg l).nextRtcp = (d.leg l).nextRtcp + max 1 (d.legProf l 0x30 32 16) * msT := by
  unfold Dev.rtcpSend
  dsimp only
  rw [Dev.not_idle_of hst, hdec, decide_eq_false (Nat.not_lt.2 hdue), if_neg (by decide)]
  have hsent : ∀ (b : List Byte) (es : List (Nat × Strm)) (g : Strm → Strm), Dev.StrmOnly l d (es.foldl (fun (d : Dev) e => d.onStream l e.1 g) (d.sendRtcp l b)) := fun b es g =>
    ((d.sendRtcp_sends l b).strmOnly l).trans (Dev.strmOnly_foldl _ (fun d (e : Nat × Strm) => d.onStream_strmOnly l e.1 g) _ _)
  rw [Dev.leg_onLeg, if_pos rfl]
  have hnext : ∀ x : Dev, Dev.StrmOnly l d x → (x.leg l).nextRtcp + max 1 (x.legProf l 0x30 32 16) * msT = (d.leg l).nextRtcp + max 1 (d.legProf l 0x30 32 16) * msT := fun x hx => by
    obtain ⟨-, t, ht⟩ := id hx
    rw [hx.legProf, ht]
  exact hnext _ (hsent _ _ _)

theorem Dev.feedbackSend_due (hst : (d.leg l).state = .active ∨ (d.leg l).state = .held) (hdec : d.decides = true) (hdue : (d.leg l).nextFb ≤ d.now) :
    ((d.feedbackSend l).leg l).nextFb = (d.leg l).nextFb + max 1 (d.legProf l 0x30 16 16) * msT := by
  have hset : ∀ x : Dev, Dev.StrmOnly l (d.onLeg l fun y => { y with nextFb := y.nextFb + max 1 (d.legProf l 0x30 16 16) * msT }) x →
      (x.leg l).nextFb = (d.leg l).nextFb + max 1 (d.legProf l 0x30 16 16) * msT := fun x hx => by
    obtain ⟨-, t, ht⟩ := hx
    rw [ht, Dev.leg_onLeg, if_pos rfl]
  unfold Dev.feedbackSend
  dsimp only
  rw [Dev.not_idle_of hst, hdec, decide_eq_false (Nat.not_lt.2 hdue), if_neg (by decide)]
  split
  · exact hset _ (.refl _ _)
  · exact hset _ (((Dev.sendRtcp_sends _ l _).strmOnly l).trans (Dev.strmOnly_foldl _ (fun d (e : Nat × Strm) => d.onStream_strmOnly l e.1 _) _ _))

/-! ### Pictures waited for, and layers suspended -/

theorem Dev.videoWaitExpiry_due {x : Strm} {a : Nat × Pkt} (h : d.stream l i = some x) (hkind : x.kind = 1) (hold : (oldestPicture x.numbered).1.head? = some a)
    (hdue : ((oldestPicture x.numbered).1.map (fun e => e.2.stamp)).foldl Nat.min a.2.stamp + d.legProf l 0x30 0 16 * msT ≤ d.now) :
    d.videoWaitExpiry l i = (d.releasePicture l i (!x.whole (oldestPicture x.numbered).1)).releaseWhole 2049 l i := by
  unfold Dev.videoWaitExpiry
  rw [h]
  dsimp only
  rw [hold]
  exact if_neg fun hno => hno.elim (fun hk => hk hkind) fun hlate => absurd hlate (Nat.not_lt.2 hdue)

theorem Dev.suspendState_geode (d : Dev) (l o : Nat) : d.suspendState l o = { d with geode := (d.suspendState l o).geode } := by
  have hfold : ∀ (es : List (Nat × EncStream)) (g : Dev → Nat × EncStream → Dev), (∀ d e, g d e = { d with geode := (g d e).geode }) → ∀ d,
      es.foldl g d = { d with geode := (es.foldl g d).geode } := fun es g hg => by
    induction es with
    | nil => exact fun _ => rfl
    | cons e es ih => exact fun d => by rw [List.foldl_cons, ih, hg]
  refine hfold _ _ (fun d e => ?_) d
  dsimp only
  split
  · rfl
  · split <;> rfl

/-- The table of legs as layer `k` of an output is suspended. -/
def Dev.layerOff (d : Dev) (l o k : Nat) : Dev :=
  { d with legs := { d.legs with
      suspended := d.legs.suspended ++ [(l, o, k)]
      resuming := d.legs.resuming.filter (fun s => decide (s ≠ (l, o, k)))
      toResume := d.legs.toResume.filter (fun s => decide (s ≠ (l, o, k)))
      outRates := d.legs.outRates.filter (fun r => !(decide (r.1 = (l, o)) && r.2.spatial == k))
      frozen := d.legs.frozen ++ [((l, o), d.now, (d.legs.outRates.filter (fun r => decide (r.1 = (l, o)) && r.2.spatial == k)).map (fun r => r.2))] } }

theorem Dev.layerSuspend_due {t : Time} (h : d.legs.idleSince.find? (fun e => decide (e.1 = (l, o, k))) = some ((l, o, k), t)) (hdec : d.decides = true)
    (hdue : t + d.suspendMs l o * msT ≤ d.now) (hnot : d.legs.suspended.contains (l, o, k) = false) : d.layerSuspend l o k = (d.layerOff l o k).suspendState l o := by
  unfold Dev.layerSuspend
  rw [h]
  dsimp only
  refine if_neg ?_
  rintro (hoff | hearly | hin)
  · exact absurd (hoff.symm.trans hdec) Bool.false_ne_true
  · exact absurd hearly (Nat.not_lt.2 hdue)
  · exact absurd (hnot.symm.trans hin) Bool.false_ne_true

theorem Dev.suspendState_one (hout : d.outStreams l o = [(i, d.encS i)]) (hst : (d.encS i).state = .running) (hnone : d.encLayers (d.encS i) = 0) :
    ((d.suspendState l o).encS i).state = .suspended := by
  unfold Dev.suspendState
  rw [hout, List.foldl_cons, List.foldl_nil]
  dsimp only
  rw [if_pos ⟨hst, hnone⟩, Dev.onEncS, Dev.encS_setEncS, if_pos rfl]

theorem Dev.layerSuspend_spec {t : Time} {e : Dev} (h : d.legs.idleSince.find? (fun e => decide (e.1 = (l, o, k))) = some ((l, o, k), t)) (hdec : d.decides = true)
    (hdue : t + d.suspendMs l o * msT ≤ d.now) (hnot : d.legs.suspended.contains (l, o, k) = false) (he : d.layerSuspend l o k = e) :
    e.legs.suspended = d.legs.suspended ++ [(l, o, k)] ∧ e.legs.legs = d.legs.legs ∧ e = { d with legs := e.legs, geode := e.geode } ∧
      (∀ i, d.outStreams l o = [(i, d.encS i)] → (d.encS i).state = .running → e.encLayers (d.encS i) = 0 → (e.encS i).state = .suspended) := by
  have hone := fun i => (d.layerOff l o k).suspendState_one (l := l) (o := o) (i := i)
  have hgeo := (d.layerOff l o k).suspendState_geode l o
  rw [← Dev.layerSuspend_due h hdec hdue hnot, he] at hgeo hone
  have hlegs : e.legs = (d.layerOff l o k).legs := by rw [hgeo]
  refine ⟨by rw [hlegs]; rfl, by rw [hlegs]; rfl, hgeo.trans (by rw [hlegs]; rfl), fun i hout hst hnone => hone i hout hst ?_⟩
  rw [← hnone]
  exact congrArg (fun t : Legs => Dev.encLayers { d with legs := t } (d.encS i)) hlegs.symm

/-! ### O18 -/

/-- Settles O18: the rows of leg events, and what each does to its leg once it is due. -/
theorem legEvents : Obligations.LegEvents := by
  intro s l hready
  refine ⟨⟨exec_actReady (f := fun d => d.legDrainEnd l) rfl hready, fun txid draw => exec_actReady (f := fun d => d.consentRequest l txid draw) rfl hready,
      exec_actReady (f := fun d => d.consentExpired l) rfl hready, exec_actReady (f := fun d => d.feedbackLost l) rfl hready,
      exec_actReady (f := fun d => d.rtcpSend l) rfl hready, exec_actReady (f := fun d => d.feedbackSend l) rfl hready,
      fun i => ⟨exec_actReady (f := fun d => d.nackSend l i) rfl hready, exec_actReady (f := fun d => d.repairSend l i false) rfl hready,
        exec_actReady (f := fun d => d.repairSend l i true) rfl hready, exec_actReady (f := fun d => d.videoWaitExpiry l i) rfl hready⟩,
      fun o k => exec_actReady (f := fun d => d.layerSuspend l o k) rfl hready⟩,
    fun hst hdue => ?_, fun hst => ?_, fun txid draw hc hdue hdec => ?_, fun hst hc hdec hdue => ?_, fun hst hdec hlost => ?_, fun i x h hnack hdecode hdec hst hdue => ?_,
    fun i x t h hneed hbound hdec hst hrest => ⟨fun hnew => ?_, fun hold => ?_⟩, fun hst hdec hdue => ?_, fun hst hdec hdue => ?_, fun i x a h hkind hold hdue => ?_,
    fun o k t h hdec hdue hnot => ?_⟩
  · exact ⟨_, exec_actReady (f := fun d => d.legDrainEnd l) rfl hready, Dev.legDrainEnd_due hst hdue⟩
  · rw [exec_actReady (f := fun d => d.legDrainEnd l) rfl hready, Dev.legDrainEnd_early hst]
  · exact ⟨_, exec_actReady (f := fun d => d.consentRequest l txid draw) rfl hready, Dev.consentRequest_due hc hdue hdec txid draw⟩
  · exact ⟨_, exec_actReady (f := fun d => d.consentExpired l) rfl hready, Dev.consentExpired_due hst hc hdec hdue⟩
  · exact ⟨_, exec_actReady (f := fun d => d.feedbackLost l) rfl hready, Dev.feedbackLost_due hst hdec hlost⟩
  · obtain ⟨hcount, hstream⟩ := Dev.nackSend_due h hnack hdecode hdec hst hdue
    exact ⟨_, _, exec_actReady (f := fun d => d.nackSend l i) rfl hready, hcount, hstream, rfl⟩
  · obtain ⟨hcount, hstream⟩ := Dev.pliSend_due h hneed hbound hdec hst hrest hnew
    exact ⟨_, _, exec_actReady (f := fun d => d.repairSend l i false) rfl hready, hcount, hstream, rfl⟩
  · obtain ⟨hcount, hstream, hbit⟩ := Dev.repairEscalated_due h hneed hbound hdec hst hrest hold
    exact ⟨_, _, exec_actReady (f := fun d => d.repairSend l i true) rfl hready, hcount, hstream, rfl, rfl, hbit⟩
  · exact ⟨_, exec_actReady (f := fun d => d.rtcpSend l) rfl hready, Dev.rtcpSend_due hst hdec hdue⟩
  · exact ⟨_, exec_actReady (f := fun d => d.feedbackSend l) rfl hready, Dev.feedbackSend_due hst hdec hdue⟩
  · rw [exec_actReady (f := fun d => d.videoWaitExpiry l i) rfl hready, Dev.videoWaitExpiry_due h hkind hold hdue]
  · obtain ⟨hsuspended, hlegs, hrest, hstreams⟩ := Dev.layerSuspend_spec h hdec hdue hnot rfl
    have hexec := exec_actReady (i := .layerSuspend l o k) (f := fun d => d.layerSuspend l o k) rfl hready
    generalize s.dev.layerSuspend l o k = e at hexec hsuspended hlegs hrest hstreams
    exact ⟨_, hexec, hsuspended, hlegs, congrArg s.setDev hrest, hstreams⟩

end Sys2Proof.Machine
end

section
/-! Frames at the lane boundary of a media port (R608, R640 to R643) and the datagrams of a leg (Table 4-1, R167). -/

namespace Sys2Proof.Machine
open Sys2Proof

variable {d : Dev} {s : State} {l p : Nat}

/-! ### Code errors -/

theorem Dev.codeErrors_none {cols : List (List Sym)} (h : ∀ c ∈ cols, ∀ x ∈ c, symError x = false) (d : Dev) (u : Nat) : d.codeErrors u cols = d := by
  have hclean : ∀ col ∈ cols, ∀ j, symError (nthD (.data 0) col j) = false := fun col hcol j => by
    rw [nthD]
    cases hx : col[j]? with
    | none => rfl
    | some x => exact h col hcol x (List.mem_of_getElem? hx)
  refine (Dev.kept_foldl id _ (fun d j => ?_) _ d)
  dsimp only [id]
  rw [List.filter_eq_nil_iff.2 (fun c hc => Bool.not_eq_true _ ▸ hclean c hc _), List.length_nil, if_pos rfl]

theorem Dev.codeErrors_noted (d : Dev) (u : Nat) (cols : List (List Sym)) : d.Noted (d.codeErrors u cols) := by
  refine Dev.noted_foldl _ (fun d j => ?_) _ d
  dsimp only
  split
  · exact .refl d
  · exact d.bump_noted _ _ _

/-- Code errors are counted in the pages of the quads, and in no page of a port. -/
theorem Dev.counter_codeErrors (d : Dev) (u : Nat) (cols : List (List Sym)) (hp : p < 8) {o : Nat} (ho : o < 4096) :
    (d.codeErrors u cols).counter (pgPort p) o = d.counter (pgPort p) o := by
  refine Dev.kept_foldl (fun d : Dev => d.counter (pgPort p) o) _ (fun d j => ?_) _ d
  dsimp only
  split
  · rfl
  · refine (d.counter_bump _ _ _ _ _).trans (if_neg fun hkey => ?_)
    obtain ⟨hpage, -⟩ := (regKey_inj ho (show laneCtr (d.wireLane u j) 0x118 < 4096 by unfold laneCtr; omega)).1 hkey
    unfold pgPort pgQuad at hpage
    omega

/-! ### The MAC -/

theorem Dev.Noted.macTakes {e : Dev} (h : d.Noted e) (p : Nat) (dst : List Byte) : e.macTakes p dst = d.macTakes p dst := by
  unfold Dev.macTakes Dev.portCfg
  rw [h.reg, h.reg]

theorem unitsKept_noted {e : Dev} (h : s.dev.Noted e) : UnitsKept s (s.setDev e) := by
  unfold Dev.Noted at h
  unfold UnitsKept
  refine congrArg s.setDev ?_
  rw [State.setDev_dev, h]

/-- The state of the unit once a good frame is counted (RX_FRAMES and RX_BYTES). -/
def Dev.rxCounted (d : Dev) (p : Nat) (f : List Byte) : Dev := (d.inc (pgPort p) 0x070).bump (pgPort p) 0x078 f.length

theorem Dev.rxCounted_noted (d : Dev) (p : Nat) (f : List Byte) : d.Noted (d.rxCounted p f) := (d.inc_noted _ _).trans (Dev.bump_noted _ _ _ _)

theorem Dev.counter_rxCounted (d : Dev) (p : Nat) (f : List Byte) {o : Nat} (ho : o < 4096) (h : o ≠ 0x078) :
    (d.rxCounted p f).counter (pgPort p) o = (d.inc (pgPort p) 0x070).counter (pgPort p) o :=
  (Dev.counter_bump _ _ _ _ _ _).trans (if_neg fun hkey => h ((regKey_inj ho (by decide)).1 hkey).2)

section mac
variable {stamp w : Nat} {f : List Byte}

theorem Dev.macFrame_short (h : f.length < 64) : d.macFrame p stamp f w = d.inc (pgPort p) 0x098 := if_pos h

theorem Dev.macFrame_long (h : 9220 < f.length) : d.macFrame p stamp f w = d.inc (pgPort p) 0x0A0 :=
  (if_neg (by omega)).trans (if_pos h)

theorem Dev.macFrame_badFcs (hmin : 64 ≤ f.length) (hmax : f.length ≤ 9220) (h : leAt f (f.length - 4) 4 ≠ crc32 (f.take (f.length - 4))) :
    d.macFrame p stamp f w = d.inc (pgPort p) 0x090 :=
  (if_neg (Nat.not_lt.2 hmin)).trans ((if_neg (Nat.not_lt.2 hmax)).trans (if_pos h))

variable (hmin : 64 ≤ f.length) (hmax : f.length ≤ 9220) (hfcs : leAt f (f.length - 4) 4 = crc32 (f.take (f.length - 4)))
include hmin hmax hfcs

theorem Dev.macFrame_filtered (h : d.macTakes p (ethParse (f.take (f.length - 4))).dst = false) :
    d.macFrame p stamp f w = (d.rxCounted p f).inc (pgPort p) 0x0B0 :=
  (if_neg (Nat.not_lt.2 hmin)).trans ((if_neg (Nat.not_lt.2 hmax)).trans ((if_neg (not_not.2 hfcs)).trans (if_pos (by
    rw [Bool.not_eq_true']
    exact ((d.rxCounted_noted p f).macTakes _ _).trans h))))

theorem Dev.macFrame_passes (h : d.macTakes p (ethParse (f.take (f.length - 4))).dst = true) (htag : (ethParse (f.take (f.length - 4))).badTag = false)
    (htype : (ethParse (f.take (f.length - 4))).etype ≠ 0x8808) : d.macFrame p stamp f w = (d.rxCounted p f).classify167 p stamp (f.take (f.length - 4)) w := by
  have htakes : ¬(!(d.rxCounted p f).macTakes p (ethParse (f.take (f.length - 4))).dst) = true := by
    rw [(d.rxCounted_noted p f).macTakes, h]
    exact Bool.false_ne_true
  exact (if_neg (Nat.not_lt.2 hmin)).trans ((if_neg (Nat.not_lt.2 hmax)).trans ((if_neg (not_not.2 hfcs)).trans ((if_neg htakes).trans
    ((if_neg (by rw [htag]; exact Bool.false_ne_true)).trans (if_neg htype)))))

end mac

theorem Dev.frameReceive_down {stamp w : Nat} {cols : List (List Sym)} (h : (decide (p < 8) && (d.plink p).up) = false) : d.frameReceive p stamp cols w = d := by
  unfold Dev.frameReceive
  rw [h]
  rfl

theorem Dev.frameReceive_up {stamp w : Nat} {cols : List (List Sym)} (hp : p < 8) (hup : (d.plink p).up = true) :
    (frameOf cols = none → d.frameReceive p stamp cols w = (d.codeErrors p cols).inc (pgPort p) 0x0A8) ∧
      ∀ f, frameOf cols = some f → d.frameReceive p stamp cols w = (d.codeErrors p cols).macFrame p stamp f w := by
  unfold Dev.frameReceive
  rw [hup, decide_eq_true hp, if_neg (by decide)]
  exact ⟨fun h => by rw [h], fun f h => by rw [h]⟩

theorem frameReceive : FrameReceive := by
  intro s p stamp cols w hready
  rw [exec_actReady (i := .frameReceive p stamp cols w) (f := fun d => d.frameReceive p stamp cols w) rfl hready]
  refine ⟨rfl, fun h => s.dev.codeErrors_none h p, fun h => by rw [Dev.frameReceive_down h], fun hp hup => ?_⟩
  obtain ⟨hnone, hsome⟩ := s.dev.frameReceive_up (stamp := stamp) (w := w) (cols := cols) hp hup
  have herrors := s.dev.codeErrors_noted p cols
  refine ⟨fun h => by rw [hnone h], fun f h => ?_⟩
  rw [hsome f h]
  refine ⟨fun hshort => by rw [Dev.macFrame_short hshort], fun hlong => by rw [Dev.macFrame_long hlong], fun hmin hmax hbad => by rw [Dev.macFrame_badFcs hmin hmax hbad],
    fun hmin hmax hfcs hdst => ?_, fun hmin hmax hfcs hdst htag htype => ?_⟩
  · rw [Dev.macFrame_filtered hmin hmax hfcs ((herrors.macTakes p _).trans hdst)]
    refine ⟨_, rfl, unitsKept_noted ((herrors.trans (Dev.rxCounted_noted _ p f)).trans (Dev.inc_noted _ _ _)), ?_, ?_⟩
    · refine (Dev.counter_inc_same _ _ _).trans (congrArg (· + 1) ?_)
      rw [Dev.counter_rxCounted _ _ _ (by decide) (by decide), Dev.counter_inc_off _ _ _ (by decide) (by decide) (by decide), Dev.counter_codeErrors _ _ _ hp (by decide)]
    · refine (Dev.counter_inc_off _ _ _ (by decide) (by decide) (by decide)).trans ?_
      rw [Dev.counter_rxCounted _ _ _ (by decide) (by decide), Dev.counter_inc_same, Dev.counter_codeErrors _ _ _ hp (by decide)]
  · rw [Dev.macFrame_passes hmin hmax hfcs ((herrors.macTakes p _).trans hdst) htag htype]
    rfl

/-! ### Datagrams of a leg -/

/-- The state of the unit once a datagram of leg `l` is counted. -/
def Dev.legCounted (d : Dev) (l w : Nat) (f : List Byte) : Dev :=
  ({ d with legs := { d.legs with waiting := w } }.inc pgLegs 0x070).onLeg l (fun x => { x with pktsRx := x.pktsRx + 1, bytesRx := x.bytesRx + f.length + 4 })

theorem Dev.legDatagram_dropped {stamp w : Nat} {f data : List Byte} (h : (d.leg l).state = .draining ∨ (d.leg l).state = .closed) :
    d.legDatagram l p stamp f data w = d.legCounted l w f := if_pos h

theorem Dev.legDatagram_keyed {stamp w : Nat} {f data : List Byte} (h : (d.leg l).state = .keyed) (hdata : data ≠ []) (hlo : 128 ≤ beAt data 0 1) (hhi : beAt data 0 1 ≤ 191) :
    d.legDatagram l p stamp f data w = (d.legCounted l w f).inc pgLegs 0x088 := by
  have hopen : ¬((d.leg l).state = .draining ∨ (d.leg l).state = .closed) := by rw [h]; decide
  exact (if_neg hopen).trans ((if_neg (by rw [List.isEmpty_iff]; exact hdata)).trans ((if_neg (by omega)).trans ((if_neg (by omega)).trans
    ((if_pos ⟨hlo, hhi⟩).trans (if_pos h)))))

theorem legDatagrams : LegDatagrams := by
  intro d l p stamp f data w
  refine ⟨fun h => Dev.legDatagram_dropped h, fun h hdata hlo hhi => ?_⟩
  rw [Dev.legDatagram_keyed h hdata hlo hhi]
  refine ⟨(Dev.counter_inc_same _ _ _).trans (congrArg (· + 1) (Dev.counter_inc_off _ _ _ (by decide) (by decide) (by decide))), rfl, ?_⟩
  have hleg : ((d.legCounted l w f).inc pgLegs 0x088).leg l = (d.legCounted l w f).leg l := rfl
  rw [hleg, Dev.legCounted, Dev.leg_onLeg, if_pos rfl]
  rfl

/-- Settles O20: the frames of a port by the first of their faults, and the datagrams of a leg that is KEYED, draining or CLOSED. -/
theorem framesAndDatagrams : Obligations.FramesAndDatagrams := ⟨frameReceive, legDatagrams⟩

end Sys2Proof.Machine
end

section
/-! What the units that follow an epoch boundary do at it (Table 1-7) leaves start-up alone: no restart comes of it (R771 speaks of updates alone). -/

namespace Sys2Proof.Machine
open Sys2Proof

variable {d e : Dev}

/-! ### Notes, frames and completions -/

theorem Dev.EgressWork.boot (h : d.EgressWork e) : e.boot = d.boot := by rw [h]
theorem Dev.ServoWork.boot (h : d.ServoWork e) : e.boot = d.boot := by rw [h.noted.boot]

@[simp] theorem Dev.boot_raise (d : Dev) (p b s c : Nat) (x y : Word) : (d.raise p b s c x y).boot = d.boot := (d.raise_noted p b s c x y).boot
@[simp] theorem Dev.boot_trace (d : Dev) (c ev s : Nat) (x y : Word) (o : Nat) : (d.trace c ev s x y o).boot = d.boot := (Dev.trace_noted d c ev s x y o).boot
@[simp] theorem Dev.boot_legEvent (d : Dev) (l b : Nat) (v : Word) : (d.legEvent l b v).boot = d.boot := d.boot_raise _ _ _ _ _ _
@[simp] theorem Dev.boot_mixEvent (d : Dev) (b o : Nat) : (d.mixEvent b o).boot = d.boot := d.boot_raise _ _ _ _ _ _
@[simp] theorem Dev.boot_pairEvent (d : Dev) (b x y : Nat) : (d.pairEvent b x y).boot = d.boot := d.boot_raise _ _ _ _ _ _
@[simp] theorem Dev.boot_linkSend (d : Dev) (t : Nat) (l : List Byte) : (d.linkSend t l).boot = d.boot := (d.linkSend_linkDone t l).boot
@[simp] theorem Dev.boot_finish (d : Dev) (op o : Nat) (st : Status) (n : Nat) (v : Word) : (d.finish op o st n v).boot = d.boot := (d.finish_linkDone op o st n v).boot
@[simp] theorem Dev.boot_writeVa (d : Dev) (r va : Nat) (b : List Byte) : (d.writeVa r va b).boot = d.boot := by rw [Dev.writeVa_eq]
@[simp] theorem Dev.boot_onStream (d : Dev) (l i : Nat) (g : Strm → Strm) : (d.onStream l i g).boot = d.boot := by
  unfold Dev.onStream
  split <;> rfl
@[simp] theorem Dev.boot_onInst (d : Dev) (n : Nat) (g : Inst → Inst) : (d.onInst n g).boot = d.boot := by
  unfold Dev.onInst
  split <;> rfl
@[simp] theorem Dev.boot_moveLeg (d : Dev) (l : Nat) (st : LegState) (c : Nat) : (d.moveLeg l st c).boot = d.boot := (d.moveLeg_noted l st c).boot
@[simp] theorem Dev.boot_openNeed (d : Dev) (l i : Nat) (b : Bool) : (d.openNeed l i b).boot = d.boot := d.boot_onStream _ _ _

theorem Dev.boot_ite {c : Prop} [Decidable c] {x y : Dev} (h : x.boot = d.boot) (k : y.boot = d.boot) : (if c then x else y).boot = d.boot := by
  split
  · exact h
  · exact k

/-! ### The policy of the legs (R197) -/

@[simp] theorem Dev.boot_encTrigger (d : Dev) (i : Nat) (key : Bool) : (d.encTrigger i key).boot = d.boot := by
  unfold Dev.encTrigger
  split <;> rfl

@[simp] theorem Dev.boot_suspendState (d : Dev) (l o : Nat) : (d.suspendState l o).boot = d.boot := by rw [d.suspendState_geode l o]

/-- What keeps start-up at each element of a list keeps it over the list. -/
theorem Dev.boot_foldl {α : Type} {g : Dev → α → Dev} (h : ∀ d a, (g d a).boot = d.boot) (as : List α) (d : Dev) : (as.foldl g d).boot = d.boot :=
  Dev.kept_foldl Dev.boot g h as d

@[simp] theorem Dev.boot_resumeLayer (d : Dev) (l o k : Nat) : (d.resumeLayer l o k).boot = d.boot := by
  unfold Dev.resumeLayer
  split
  · rfl
  · exact (Dev.boot_suspendState _ _ _).trans (Dev.boot_foldl (fun d (e : Nat × EncStream) => d.boot_encTrigger e.1 false) _ _)

theorem Dev.boot_takeReports (d : Dev) : d.takeReports.boot = d.boot := by
  refine (Dev.boot_foldl (fun d e => ?_) _ _).trans (Dev.boot_foldl (fun d e => ?_) _ _)
  · split
    · rfl
    · refine (Dev.boot_foldl (fun d n => ?_) d.instList (d.onEncS e.1 (fun y => { y with doneReport := false })) :)
      split
      · rfl
      · rfl
  · split
    · rfl
    · dsimp only
      split
      · rfl
      · split
        · exact Dev.boot_openNeed _ _ _ _
        · exact Dev.boot_onStream _ _ _ _

theorem Dev.boot_resumeDue (d : Dev) : d.resumeDue.boot = d.boot := Dev.boot_foldl (fun d (o : Nat × Nat × Nat) => d.boot_resumeLayer o.1 o.2.1 o.2.2) _ _

theorem Dev.boot_refreshOutput (d : Dev) (l o : Nat) (k : Option Nat) (fresh : Bool) : (d.refreshOutput l o k fresh).boot = d.boot :=
  Dev.boot_foldl (fun _ _ => by exact Dev.boot_ite rfl (Dev.boot_encTrigger _ _ _)) _ _

theorem Dev.boot_applyDecisions (d : Dev) : d.applyDecisions.boot = d.boot :=
  Dev.boot_foldl (fun d e => by
    dsimp only
    split
    · rfl
    · split
      · rfl
      · exact Dev.boot_ite rfl (Dev.boot_ite (Dev.boot_refreshOutput _ _ _ _ _) (Dev.boot_openNeed _ _ _ _))) _ _

theorem Dev.boot_givePace (d : Dev) : d.givePace.boot = d.boot :=
  Dev.boot_foldl (fun d e => by
    split
    · rfl
    · rfl) _ _

theorem Dev.boot_bandwidthUpdate (d : Dev) (l : Nat) (b : Time) : (d.bandwidthUpdate l b).boot = d.boot := by
  obtain ⟨c, ev, so, y, z, o, heq⟩ := d.bandwidthUpdate_noted l b
  rw [heq, Dev.boot_trace]
  split
  · exact Dev.boot_legEvent _ _ _ _
  · rfl

theorem Dev.boot_layerSelect (d : Dev) (l : Nat) (b : Time) : (d.layerSelect l b).boot = d.boot :=
  Dev.boot_foldl (fun d r => by
    split
    · rfl
    · exact (Dev.boot_trace _ _ _ _ _ _ _).trans (Dev.boot_onInst _ _ _)) _ _

theorem Dev.boot_encoderTargets (d : Dev) (b : Time) : (d.encoderTargets b).boot = d.boot :=
  Dev.boot_foldl (fun _ _ => by exact Dev.boot_ite rfl rfl) _ _

theorem Dev.boot_layerUse (d : Dev) (b : Time) : (d.layerUse b).boot = d.boot :=
  Dev.boot_foldl (fun _ _ => by exact Dev.boot_ite (Dev.boot_ite rfl rfl) (Dev.boot_ite rfl rfl)) _ _

theorem Dev.boot_readProfiles (d : Dev) : d.readProfiles.boot = d.boot := rfl
theorem Dev.boot_giveTargets (d : Dev) : d.giveTargets.boot = d.boot := rfl

/-- Start-up is as it was: a relation that the kernel compares by its two states. -/
def Dev.BootKept (d e : Dev) : Prop := e.boot = d.boot

theorem Dev.bootKept_bandwidthUpdate (d : Dev) (l : Nat) (b : Time) : d.BootKept (d.bandwidthUpdate l b) := d.boot_bandwidthUpdate l b

theorem Dev.bootKept_foldl {α : Type} {g : Dev → α → Dev} (h : ∀ d a, Dev.BootKept d (g d a)) (as : List α) (d : Dev) : (as.foldl g d).boot = d.boot := Dev.boot_foldl h as d

/-- The policy once what the epoch before decided is in force. -/
def Dev.policyRun (d : Dev) (b : Time) : Dev :=
  ((((d.legs.legs.filter (fun e => decide (e.2.state = .active))).map (fun e => e.1)).foldl (fun (d : Dev) l => d.layerSelect l b)
    (((d.legs.legs.filter (fun e => decide (e.2.state = .active))).map (fun e => e.1)).foldl (fun (d : Dev) l => d.bandwidthUpdate l b)
      (d.legs.legs.foldl (fun (d : Dev) e => if e.2.state = .active then d else d.onLeg e.1 Leg.dropFeedback) d))).encoderTargets b).layerUse b

theorem Dev.boot_policyRun (d : Dev) (b : Time) : (d.policyRun b).boot = d.boot := by
  rw [Dev.policyRun, Dev.boot_layerUse, Dev.boot_encoderTargets, Dev.boot_foldl fun d l => d.boot_layerSelect l b, Dev.bootKept_foldl fun d l => d.bootKept_bandwidthUpdate l b]
  exact Dev.boot_foldl (fun _ _ => by exact Dev.boot_ite rfl rfl) _ _

theorem Dev.legPolicy_eq (d : Dev) (b : Time) : d.legPolicy b = if !d.readProfiles.takeReports.giveTargets.resumeDue.applyDecisions.givePace.decides
    then d.readProfiles.takeReports.giveTargets.resumeDue.applyDecisions.givePace
    else d.readProfiles.takeReports.giveTargets.resumeDue.applyDecisions.givePace.policyRun b := rfl

theorem Dev.boot_legPolicy (d : Dev) (b : Time) : (d.legPolicy b).boot = d.boot := by
  have hstart : d.readProfiles.takeReports.giveTargets.resumeDue.applyDecisions.givePace.boot = d.boot := by
    rw [Dev.boot_givePace, Dev.boot_applyDecisions, Dev.boot_resumeDue, Dev.boot_giveTargets, Dev.boot_takeReports, Dev.boot_readProfiles]
  rw [Dev.legPolicy_eq]
  exact Dev.boot_ite hstart ((Dev.boot_policyRun _ _).trans hstart)

/-! ### Audio, statistics, power and units under test -/

theorem Dev.boot_talkerDecision (d : Dev) : d.talkerDecision.boot = d.boot := Dev.boot_foldl (fun _ _ => by exact Dev.boot_ite rfl rfl) _ _

theorem Dev.boot_legStats (d : Dev) (j : Nat) : (d.legStats j).boot = d.boot := by
  unfold Dev.legStats
  dsimp only
  exact Dev.boot_ite rfl (Dev.boot_writeVa _ _ _ _)

theorem Dev.boot_levelTable (d : Dev) (b : Time) : (d.levelTable b).boot = d.boot := by
  unfold Dev.levelTable
  dsimp only
  exact Dev.boot_ite (Dev.boot_writeVa _ _ _ _) rfl

@[simp] theorem Dev.boot_mapQueues (d : Dev) (g : Queue → Queue) : (d.mapQueues g).boot = d.boot := rfl

theorem Dev.boot_qstatsWrite (d : Dev) (j : Nat) : (d.qstatsWrite j).boot = d.boot := by
  unfold Dev.qstatsWrite
  dsimp only
  refine Dev.boot_ite rfl ?_
  rw [Dev.boot_mapQueues, Dev.boot_writeVa]

theorem Dev.boot_rxRatios (d : Dev) : d.rxRatios.boot = d.boot := by
  unfold Dev.rxRatios
  refine Dev.boot_ite rfl ((Dev.boot_foldl (fun d e => ?_) _ _).trans rfl)
  dsimp only
  exact Dev.boot_ite (Dev.boot_mixEvent _ _ _) rfl

theorem Dev.boot_tdmRatios (d : Dev) : d.tdmRatios.boot = d.boot := by
  unfold Dev.tdmRatios
  refine Dev.boot_ite rfl (Dev.boot_foldl (fun d e => ?_) _ _)
  dsimp only
  exact Dev.boot_ite (Dev.boot_mixEvent _ _ _) rfl

theorem Dev.boot_marginCheck (d : Dev) : d.marginCheck.boot = d.boot := Dev.boot_ite (Dev.boot_marginSet _ _) rfl

theorem Dev.boot_throttleEpoch (d : Dev) : d.throttleEpoch.boot = d.boot := by
  have hcounted : ∀ (now : Bool) (x : Power), (if now then ({ d with pow := x }).inc pgDevice 0x0B8 else { d with pow := x }).boot = d.boot := fun _ _ => Dev.boot_ite rfl rfl
  unfold Dev.throttleEpoch
  dsimp only
  rw [Dev.boot_marginCheck]
  exact Dev.boot_ite (hcounted _ _) ((Dev.boot_raise _ _ _ _ _ _ _).trans (hcounted _ _))

theorem Dev.boot_isolateAborts (d : Dev) : d.isolateAborts.boot = d.boot :=
  Dev.boot_foldl (fun d o => by
    split
    · exact Dev.boot_ite ((Dev.tickFree_boot _).trans (Dev.boot_finish _ _ _ _ _ _)) rfl
    · rfl) _ _

/-! ### The pair (R664 to R680) -/

theorem Dev.boot_releaseHeldAll (d : Dev) : d.releaseHeldAll.boot = d.boot := d.releaseHeldAll_egressWork.boot

theorem Dev.boot_surrenderAt (d : Dev) (b : Time) : (d.surrenderAt b).boot = d.boot := by
  unfold Dev.surrenderAt
  split
  · rfl
  · split
    · rfl
    · exact (Dev.boot_finish _ _ _ _ _ _).trans ((Dev.boot_pairEvent _ _ _ _).trans (Dev.boot_releaseHeldAll d))

theorem Dev.boot_sendSlot (d : Dev) (k : Nat) (x : KeySlot) : (d.sendSlot k x).boot = d.boot := by
  unfold Dev.sendSlot
  refine (Dev.boot_foldl (fun d y => ?_) _ _).trans (Dev.boot_linkSend _ _ _)
  split
  · rfl
  · exact Dev.boot_linkSend _ _ _

theorem Dev.boot_joinStart (d : Dev) (b : Time) : (d.joinStart b).boot = d.boot :=
  Dev.boot_ite rfl ((Dev.boot_foldl (fun d _ => d.boot_linkSend _ _) _ _).trans ((Dev.boot_foldl (fun d (e : Nat × KeySlot) => d.boot_sendSlot e.1 e.2) _ _).trans rfl))

theorem Dev.boot_startResync (d : Dev) (l : Nat) : (d.startResync l).boot = d.boot :=
  Dev.boot_ite rfl ((Dev.boot_foldl (fun d i => d.boot_encTrigger i false) _ _).trans rfl)

theorem Dev.boot_diverged (d : Dev) (l : Nat) : (d.diverged l).boot = d.boot :=
  Dev.boot_ite ((Dev.boot_startResync _ _).trans (Dev.boot_pairEvent _ _ _ _)) (Dev.boot_pairEvent _ _ _ _)

theorem Dev.boot_compareLeg (d : Dev) (l : Nat) (same : Bool) : (d.compareLeg l same).boot = d.boot :=
  Dev.boot_ite rfl (Dev.boot_ite rfl (Dev.boot_diverged _ _))

theorem Dev.boot_compareRender (d : Dev) (g : Nat) (same : Bool) : (d.compareRender g same).boot = d.boot :=
  Dev.boot_ite (Dev.boot_ite rfl (Dev.boot_ite rfl rfl)) (Dev.boot_pairEvent _ _ _ _)

theorem Dev.boot_compareSets (d : Dev) (a b : List (Nat × Word)) : (d.compareSets a b).boot = d.boot :=
  Dev.boot_foldl (fun _ _ => Dev.boot_ite (Dev.boot_compareLeg _ _ _) (Dev.boot_compareRender _ _ _)) _ _

theorem Dev.boot_compareDigests (d : Dev) : d.compareDigests.boot = d.boot :=
  Dev.boot_foldl (fun d o => by
    split
    · rfl
    · exact Dev.boot_compareSets _ _ _) _ _

theorem Dev.boot_closeDigest (d : Dev) : d.closeDigest.boot = d.boot :=
  Dev.boot_ite rfl ((Dev.boot_compareDigests _).trans (Dev.boot_linkSend _ _ _))

/-! ### Records of the partner (R675, R676) -/

theorem Dev.boot_switchRecord (d : Dev) (k : Nat) (l : List (Nat × Nat)) : (d.switchRecord k l).boot = d.boot := by
  unfold Dev.switchRecord
  split
  · rfl
  · exact Dev.boot_ite rfl rfl

theorem Dev.boot_servoRecord (d : Dev) (e code cause : Nat) : (d.servoRecord e code cause).boot = d.boot :=
  Dev.boot_ite rfl (Dev.boot_ite (Dev.boot_ite (Dev.boot_ite rfl (Dev.boot_ite rfl rfl)) d.enterAcquiring_servoWork.boot)
    (Dev.boot_ite d.enterLocked_servoWork.boot (Dev.boot_ite (d.enterRefused_servoWork cause).boot rfl)))

theorem Dev.boot_dropMarked (d : Dev) (l ssrc seq : Nat) : (d.dropMarked l ssrc seq).boot = d.boot := by
  have hcut : ∀ (gone : EFrame → Bool) (k : Nat) (d : Dev), (if (d.queue k).frames.any gone then
      let d := d.onQueue k (fun q => { q with frames := q.frames.filter (fun f => !gone f) })
      if (d.queue k).frames.isEmpty then d.emptied k else d
    else d).boot = d.boot := fun gone k d => Dev.boot_ite (Dev.boot_ite (Dev.emptied_egressWork _ _).boot rfl) rfl
  exact Dev.boot_ite (hcut _ _ d) ((hcut _ _ _).trans (hcut _ _ d))

theorem Dev.boot_applyRecord (d : Dev) (r : LogRecord) : (d.applyRecord r).boot = d.boot := by
  have hlayers : ∀ new : List (Nat × Nat × Nat), (d.legs.suspended.foldl (fun (d : Dev) x => if new.contains x then d else d.resumeLayer x.1 x.2.1 x.2.2) d).boot = d.boot :=
    fun new => Dev.boot_foldl (fun _ _ => Dev.boot_ite rfl (Dev.boot_resumeLayer _ _ _ _)) _ d
  have hexpired : ∀ (l : Nat) (x : Dev), (if (x.leg l).state = .held then ((x.inc pgLegs 0x0E0).onLeg l (fun y => { y with expired := true })).legEvent l 0 0 else x).boot = x.boot :=
    fun l x => Dev.boot_ite (Dev.boot_legEvent _ _ _ _) rfl
  have hmoved : ∀ l, (if (d.leg l).state = .active then d.moveLeg l .held 1 else d).boot = d.boot := fun l => Dev.boot_ite (Dev.boot_moveLeg _ _ _ _) rfl
  unfold Dev.applyRecord
  refine Dev.boot_ite (Dev.onLeg_boot _ _ _) ?_
  refine Dev.boot_ite (Dev.boot_onInst _ _ _) ?_
  refine Dev.boot_ite (Dev.onLeg_boot _ _ _) ?_
  refine Dev.boot_ite (Dev.onEncS_boot _ _ _) ?_
  refine Dev.boot_ite ((Dev.boot_foldl (fun d (o : Nat × Nat) => d.boot_suspendState o.1 o.2) _ _).trans (hlayers _)) ?_
  refine Dev.boot_ite (Dev.boot_ite (Dev.boot_onStream _ _ _ _) (Dev.boot_onStream _ _ _ _)) ?_
  refine Dev.boot_ite ((hexpired _ _).trans (hmoved _)) ?_
  refine Dev.boot_ite (Dev.setConf_boot _ _ _) ?_
  refine Dev.boot_ite (Dev.boot_ite (Dev.setRx_boot _ _ _) (Dev.setTdm_boot _ _ _)) ?_
  refine Dev.boot_ite (Dev.boot_servoRecord _ _ _ _) ?_
  refine Dev.boot_ite (Dev.setCtxs_boot _ _ _) ?_
  refine Dev.boot_ite (Dev.onLeg_boot _ _ _) ?_
  refine Dev.boot_ite (Dev.boot_switchRecord _ _ _) ?_
  refine Dev.boot_ite rfl ?_
  exact Dev.boot_ite (Dev.boot_dropMarked _ _ _ _) rfl

theorem Dev.boot_applyDue (d : Dev) : d.applyDue.boot = d.boot := (Dev.boot_foldl (fun d r => d.boot_applyRecord r) _ _).trans (Dev.onPair_boot _ _)

theorem Dev.boot_sendState (d : Dev) (u b : Nat) : (d.sendState u b).boot = d.boot := Dev.boot_linkSend _ _ _

/-- The manifest and the log of the epoch that ends, sent to a partner that has joined. -/
def Dev.epochLogged (d : Dev) (b : Time) : Dev :=
  if !d.joined then d
  else
    let n := d.pair.count
    let d := d.onPair (fun p => { p with count := 0 })
    let d := d.linkSend ltManifest ([0, 0, 0, 1] ++ leBytes 4 n ++ List.replicate 8 0)
    let l := d.logRecords (b / msT) ++ d.pair.log
    let d := d.onPair (fun p => { p with log := [], marks := [] })
    d.linkSend ltLog (l.flatMap recBytes)

theorem Dev.boot_epochLogged (d : Dev) (b : Time) : (d.epochLogged b).boot = d.boot := by
  unfold Dev.epochLogged
  refine Dev.boot_ite rfl ?_
  dsimp only
  rw [Dev.boot_linkSend, Dev.onPair_boot, Dev.boot_linkSend, Dev.onPair_boot]

/-- The legs that are resynchronised, sent by a PRIMARY; the records that are due, taken by another. -/
def Dev.epochShared (d : Dev) (b : Time) : Dev :=
  if d.pair.role = .primary then
    (d.pair.resyncing.filter (fun n => decide (n < 4096))).foldl (fun (d : Dev) n =>
      ((d.sendState (4 + 65536 * (n + 1)) b).sendState (5 + 65536 * (n + 1)) b).onPair (fun p => { p with
        resyncing := p.resyncing.map (fun x => if x = n then n + 4096 else x) })) d
  else d.applyDue

theorem Dev.boot_epochShared (d : Dev) (b : Time) : (d.epochShared b).boot = d.boot := by
  unfold Dev.epochShared
  refine Dev.boot_ite (Dev.boot_foldl (fun d n => ?_) _ _) d.boot_applyDue
  rw [Dev.onPair_boot, Dev.boot_sendState, Dev.boot_sendState]

theorem Dev.pairEpoch_eq (d : Dev) (b : Time) :
    d.pairEpoch b = if !d.paired then d else (((((d.epochLogged b).joinStart b).epochShared b).closeDigest).closeDigest).surrenderAt b := rfl

theorem Dev.boot_pairEpoch (d : Dev) (b : Time) : (d.pairEpoch b).boot = d.boot := by
  rw [Dev.pairEpoch_eq]
  refine Dev.boot_ite rfl ?_
  rw [Dev.boot_surrenderAt, Dev.boot_closeDigest, Dev.boot_closeDigest, Dev.boot_epochShared, Dev.boot_joinStart, Dev.boot_epochLogged]

theorem Dev.boot_jbEpoch (d : Dev) (b : Time) : (d.jbEpoch b).boot = d.boot := rfl

/-- The units' work at an epoch boundary, but for the number of the next. -/
def Dev.epochUnits (d : Dev) (j : Nat) : Dev :=
  ((((((((((d.legPolicy (j * msT)).talkerDecision).legStats j).levelTable (j * msT)).qstatsWrite j).rxRatios.tdmRatios).jbEpoch (j * msT)).throttleEpoch).isolateAborts).pairEpoch (j * msT))

theorem Dev.boot_epochUnits (d : Dev) (j : Nat) : (d.epochUnits j).boot = d.boot := by
  rw [Dev.epochUnits, Dev.boot_pairEpoch, Dev.boot_isolateAborts, Dev.boot_throttleEpoch, Dev.boot_jbEpoch, Dev.boot_tdmRatios, Dev.boot_rxRatios, Dev.boot_qstatsWrite,
    Dev.boot_levelTable, Dev.boot_legStats, Dev.boot_talkerDecision, Dev.boot_legPolicy]

/-- Epoch `j` acted on: the boundary of the next is waited for. -/
def Dev.epochPassed (d : Dev) (j : Nat) : Dev := { d with clk := { d.clk with nextEpoch := j + 1 } }

theorem Dev.epochWork_eq (d : Dev) (j : Nat) : d.epochWork j = (d.epochUnits j).epochPassed j := by
  unfold Dev.epochWork Dev.epochUnits Dev.epochPassed
  rfl

end Sys2Proof.Machine
end

section
/-! A step of the clock (R127 to R134): once the boundary of the step has been acted on, the clock jumps, and nothing that follows the jump moves it again. -/

namespace Sys2Proof.Machine
open Sys2Proof

variable {d e f : Dev} {s : State} {c : HostCmd} {o : OpSpec}

/-! ### What moves neither PTP nor the reading of the clock -/

/-- A clock without the outputs derived from it, and without its rate. -/
def Clock.reading (c : Clock) : Clock := { c with incr := 0, ppsNext := 0, ppsHigh := none, wclkHigh := none, wclkHold := 0 }

/-- PTP, the reading of the clock and its boundaries to come are as they were. -/
structure Dev.TimeKept (d e : Dev) : Prop where
  ptp : e.ptp = d.ptp
  reading : e.clk.reading = d.clk.reading

theorem Dev.TimeKept.refl (d : Dev) : d.TimeKept d := ⟨rfl, rfl⟩
theorem Dev.TimeKept.trans (h : d.TimeKept e) (k : e.TimeKept f) : d.TimeKept f := ⟨k.ptp.trans h.ptp, k.reading.trans h.reading⟩
theorem Dev.TimeKept.ite {q : Prop} [Decidable q] (h : d.TimeKept e) (k : d.TimeKept f) : d.TimeKept (if q then e else f) := by
  split
  · exact h
  · exact k
theorem Dev.timeKept_of (hp : e.ptp = d.ptp) (hc : e.clk = d.clk) : d.TimeKept e := ⟨hp, congrArg Clock.reading hc⟩
theorem Dev.Noted.timeKept (h : d.Noted e) : d.TimeKept e := Dev.timeKept_of h.ptp h.clk
theorem Dev.timeKept_foldl {α : Type} {g : Dev → α → Dev} (h : ∀ d a, Dev.TimeKept d (g d a)) (as : List α) (d : Dev) : d.TimeKept (as.foldl g d) := by
  induction as generalizing d with
  | nil => exact .refl d
  | cons a t ih => exact (h d a).trans (ih _)

theorem Dev.timeKept_wclkFall (d : Dev) (t : Time) : d.TimeKept (d.wclkFall t) := by
  unfold Dev.wclkFall
  exact .ite (.refl d) ⟨rfl, rfl⟩

theorem Dev.timeKept_wclkEdge (d : Dev) (x : Time × Bool) : d.TimeKept (d.wclkEdge x) := by
  unfold Dev.wclkEdge
  exact .ite (d.timeKept_wclkFall _) (.ite (d.timeKept_wclkFall _) ⟨rfl, rfl⟩)

theorem Dev.timeKept_outputs (d : Dev) (next hold : Nat) (pps : Option (Time × Time)) (wclk : Option Time) :
    d.TimeKept { d with clk := { d.clk with ppsNext := next, ppsHigh := pps, wclkHigh := wclk, wclkHold := hold } } := ⟨rfl, rfl⟩

theorem Dev.timeKept_stepOutputs (d : Dev) (off : Int) (old new : Time) : d.TimeKept (d.stepOutputs off old new) := by
  unfold Dev.stepOutputs
  exact (d.timeKept_outputs _ _ _ _).trans (.ite (Dev.timeKept_wclkEdge _ _) (.refl _))

/-! ### The records of a step -/

theorem Dev.timeKept_onObs (d : Dev) (g : Obs → Obs) : d.TimeKept (d.onObs g) := ⟨rfl, rfl⟩
theorem Dev.timeKept_inc (d : Dev) (p o : Nat) : d.TimeKept (d.inc p o) := ⟨rfl, rfl⟩
theorem Dev.timeKept_event (d : Dev) (p b : Nat) : d.TimeKept (d.event p b) := (d.event_noted p b).timeKept

theorem Dev.timeKept_logWrite (d : Dev) (x : LogEntry) : d.TimeKept (d.logWrite x) := by
  have hkept := ((d.timeKept_onObs (fun o => { o with ring := o.ring ++ [x] })).trans (Dev.timeKept_inc _ pgErrlog 0x0A0)).trans (Dev.timeKept_event _ pgErrlog 0)
  unfold Dev.logWrite
  exact .ite (hkept.trans (Dev.timeKept_event _ _ _)) hkept

theorem Dev.timeKept_lostEntry (d : Dev) : d.TimeKept d.lostEntry := by
  unfold Dev.lostEntry
  split
  · exact .refl d
  · exact .ite (.refl d) ((((d.timeKept_onObs _).trans (Dev.timeKept_logWrite _ _)).trans (Dev.timeKept_inc _ _ _)).trans (Dev.timeKept_event _ _ _))

theorem Dev.timeKept_logDue (d : Dev) (x : LogEntry) : d.TimeKept (d.logDue x) := by
  have hlost : ∀ d : Dev, d.TimeKept (match d.obs.lost with
      | some l => if entryBefore l.entry x then d.lostEntry else d
      | none => d) := fun d => by
    split
    · exact .ite d.timeKept_lostEntry (.refl d)
    · exact .refl d
  unfold Dev.logDue
  exact Dev.TimeKept.trans (e := d.onObs fun o => { o with pending := o.pending.filter (fun y => decide (y.order ≠ x.order)) }) ⟨rfl, rfl⟩
    ((hlost _).trans (.ite ((Dev.timeKept_onObs _ _).trans (Dev.timeKept_inc _ _ _)) (Dev.timeKept_logWrite _ _)))

theorem Dev.timeKept_logFlush (d : Dev) : d.TimeKept d.logFlush := Dev.timeKept_foldl (fun d x => d.timeKept_logDue x) _ _

theorem Dev.timeKept_traceWrite (d : Dev) (x : TraceEntry) : d.TimeKept (d.traceWrite x) := by
  have hstored : d.TimeKept (d.traceStored x) := ⟨rfl, rfl⟩
  have htold := hstored.trans (d.traceTold_noted x).timeKept
  rw [Dev.traceWrite_eq]
  exact .ite htold ((htold.trans (Dev.timeKept_onObs _ _)).trans (Dev.timeKept_event _ _ _))

theorem Dev.timeKept_stepRecords (d : Dev) (off : Int) (b : Time) : d.TimeKept (d.stepRecords off b) := by
  have hlog := (d.raise_noted pgQuartz 3 0 0x0004 (fmkS 0 64 (-off)) (shortOf b)).timeKept.trans (Dev.timeKept_logFlush _)
  unfold Dev.stepRecords
  exact .ite hlog ((hlog.trans (Dev.trace_noted _ _ _ _ _ _ _).timeKept).trans (Dev.timeKept_foldl (fun d x => d.timeKept_traceWrite x) _ _))

/-! ### Units that follow the new time -/

theorem Dev.timeKept_encTrigger (d : Dev) (i : Nat) (key : Bool) : d.TimeKept (d.encTrigger i key) := by
  unfold Dev.encTrigger
  exact .ite (.refl d) ⟨rfl, rfl⟩

theorem Dev.timeKept_setLayout (d : Dev) (l : Nat) (x : Layout) : d.TimeKept (d.setLayout l x) := ⟨rfl, rfl⟩

theorem Dev.timeKept_stepLayouts (d : Dev) (off : Int) (new : Time) : d.TimeKept (d.stepLayouts off new) := by
  refine Dev.timeKept_foldl (fun d e => ?_) _ _
  dsimp only
  exact .ite (d.timeKept_setLayout _ _) ((d.timeKept_setLayout _ _).trans (Dev.timeKept_foldl (fun d (y : Nat × EncStream) => d.timeKept_encTrigger y.1 false) _ _))

theorem Dev.Dispatched.timeKept (h : d.Dispatched e) : d.TimeKept e := Dev.timeKept_of (by rw [h.noted]) h.clk

theorem Dev.timeKept_releaseDue (d : Dev) (t : Time) (late : Bool) : d.TimeKept (d.releaseDue t late) := by
  unfold Dev.releaseDue
  refine Dev.TimeKept.trans (e := { d with disp := { d.disp with delay := d.disp.delay.filter (fun e => !decide (e.1 ≤ t)) } }) ⟨rfl, rfl⟩ (Dev.timeKept_foldl (fun d e => ?_) _ _)
  exact (((Dev.TimeKept.ite (d.lateItem_dispatched e.2).timeKept (.refl d)).trans (Dev.inc_noted _ _ _).timeKept).trans (Dev.itemTrace_noted _ _ _ _).timeKept).trans
    (Dev.arrive_dispatched _ _).timeKept

theorem Dev.timeKept_gateEntryStart (d : Dev) (p : Nat) : d.TimeKept (d.gateEntryStart p) := by
  unfold Dev.gateEntryStart
  split
  · exact .refl d
  · split
    · exact .refl d
    · exact ⟨rfl, rfl⟩

theorem Dev.timeKept_gatesStep (d : Dev) (p : Nat) : d.TimeKept (d.gatesStep p) := by
  unfold Dev.gatesStep
  refine Dev.TimeKept.trans ?_ (Dev.timeKept_gateEntryStart _ _)
  split
  · exact .ite ⟨rfl, rfl⟩ (.refl d)
  · exact .refl d

theorem Dev.LinkDone.timeKept (h : d.LinkDone e) : d.TimeKept e := Dev.timeKept_of (by rw [h.rest]) h.clk

/-- Entering ACQUIRING changes what the servo says of itself, and leaves its step, its offsets and its exchange. -/
theorem Dev.enterAcquiring_time (d : Dev) : d.enterAcquiring.ptp = { d.ptp.clearCounts with servo := .acquiring, refuseCause := 0, integ := d.freqUse, f := d.freqUse } ∧
    d.enterAcquiring.clk.reading = d.clk.reading := by
  obtain ⟨hout, hrest⟩ := Dev.squelchNow_spec { d with ptp := { d.ptp.clearCounts with servo := .acquiring, refuseCause := 0, integ := d.freqUse, f := d.freqUse } }
  have heq : d.enterAcquiring = Dev.squelchNow { d with ptp := { d.ptp.clearCounts with servo := .acquiring, refuseCause := 0, integ := d.freqUse, f := d.freqUse } } := rfl
  rw [heq]
  exact ⟨by rw [hrest], (congrArg Clock.reading hout).trans rfl⟩

/-! ### The jump -/

/-- The clock as it reads the new time, with the boundaries that follow. -/
def Clock.jumped (c : Clock) (new : Time) : Clock :=
  { c.setTime new with sub := c.sub, nextEpoch := epochCeil new / msT, nextBlock := blockCeil new, nextTick := ceilTo usT new / usT }

/-- The reading of a clock set to an instant of its range is that instant. -/
theorem Clock.setTime_now (c : Clock) {t : Time} (h : t < 2 ^ 48 * secT) : (c.setTime t).now = t := by
  have hsec : t / secT % 2 ^ 48 = t / secT := Nat.mod_eq_of_lt (Nat.div_lt_of_lt_mul (by rwa [Nat.mul_comm]))
  have hns : t % secT / nsT * nsT + t % nsT = t % secT := by
    rw [← Nat.mod_mod_of_dvd t (show nsT ∣ secT by decide)]
    exact Nat.div_add_mod' _ _
  show t / secT % 2 ^ 48 * secT + t % secT / nsT * nsT + t % nsT = t
  rw [hsec, Nat.add_assoc, hns]
  exact Nat.div_add_mod' _ _

/-- The unit once the clock has jumped. -/
def Dev.jumped (d : Dev) (off : Int) (new : Time) : Dev := { d with clk := d.clk.jumped new, ptp := d.ptp.stepBy off new, pair := d.pair.stepBy off new }

theorem Dev.jumped_clk (d : Dev) (off : Int) (new : Time) : (d.jumped off new).clk = d.clk.jumped new := rfl
theorem Dev.jumped_ptp (d : Dev) (off : Int) (new : Time) : (d.jumped off new).ptp = d.ptp.stepBy off new := rfl
theorem Clock.jumped_now (c : Clock) {new : Time} (h : new < 2 ^ 48 * secT) : (c.jumped new).now = new := c.setTime_now h

/-- What is owed at the old time: commits, pending log entries and the trace. -/
def Dev.stepFlushed (d : Dev) (old : Time) : Dev :=
  let d := (d.applyCommits old).logFlush
  if !d.traceOn then d else (sortBy traceBefore d.obs.trace).foldl (fun (d : Dev) e => d.traceWrite e) d

/-- What follows the jump: outputs, records, the servo, what became late, the layouts, the delay lists, the gates and the completion of ACCEPT_STEP. -/
def Dev.stepFollowed (d : Dev) (st : StepDue) (old new : Time) : Dev :=
  let d := ((d.stepOutputs st.offset old new).stepRecords st.offset (st.epoch * msT)).enterAcquiring
  let d := ((d.stepLate old new).stepAudio new).stepLayouts st.offset new
  let d := if old < new then d.releaseDue d.now true else d
  let d := (List.range 8).foldl (fun (d : Dev) p => d.gatesStep p) d
  d.finish 0x0100 0 .ok 0 d.short

theorem Dev.stepApply_due {st : StepDue} (h : d.ptp.step = some st) (hdone : d.boundaryDone (st.epoch * msT) = true) :
    d.stepApply = ((d.stepFlushed d.now).jumped st.offset (stepped st.offset d.now)).stepFollowed st d.now (stepped st.offset d.now) := by
  unfold Dev.stepApply
  rw [h]
  dsimp only
  rw [hdone, if_neg (by decide)]
  rfl

theorem Dev.stepApply_waits (h : ∀ st, d.ptp.step = some st → d.boundaryDone (st.epoch * msT) = false) : d.stepApply = d := by
  unfold Dev.stepApply
  cases hstep : d.ptp.step with
  | none => rfl
  | some st =>
    dsimp only
    rw [h st hstep]
    rfl

/-- Nothing that follows the jump moves PTP, but for the servo's entry into ACQUIRING, nor the reading of the clock. -/
theorem Dev.stepFollowed_time (d : Dev) (st : StepDue) (old new : Time) : (d.stepFollowed st old new).clk.reading = d.clk.reading ∧
    ∃ f, (d.stepFollowed st old new).ptp = { d.ptp.clearCounts with servo := .acquiring, refuseCause := 0, integ := f, f := f } := by
  have hbefore := (d.timeKept_stepOutputs st.offset old new).trans (Dev.timeKept_stepRecords _ st.offset (st.epoch * msT))
  generalize hx : (d.stepOutputs st.offset old new).stepRecords st.offset (st.epoch * msT) = x at hbefore
  obtain ⟨hptp, hreading⟩ := x.enterAcquiring_time
  have hafter : x.enterAcquiring.TimeKept (d.stepFollowed st old new) := by
    unfold Dev.stepFollowed
    rw [hx]
    generalize x.enterAcquiring = y
    have haudio : y.TimeKept ((y.stepLate old new).stepAudio new) := ⟨rfl, rfl⟩
    have hlayouts := haudio.trans (Dev.timeKept_stepLayouts _ st.offset new)
    have hlists := hlayouts.trans (Dev.TimeKept.ite (q := old < new) (Dev.timeKept_releaseDue _ (((y.stepLate old new).stepAudio new).stepLayouts st.offset new).now true) (.refl _))
    exact (hlists.trans (Dev.timeKept_foldl (fun d p => d.timeKept_gatesStep p) _ _)).trans (Dev.finish_linkDone _ _ _ _ _ _).timeKept
  refine ⟨hafter.reading.trans (hreading.trans hbefore.reading), x.freqUse, hafter.ptp.trans (hptp.trans ?_)⟩
  rw [hbefore.ptp]

theorem Clock.of_reading {a b : Clock} (h : a.reading = b.reading) : a.now = b.now ∧ a.nextEpoch = b.nextEpoch ∧ a.nextBlock = b.nextBlock ∧ a.nextTick = b.nextTick := by
  have hread : ∀ c : Clock, c.now = c.reading.now ∧ c.nextEpoch = c.reading.nextEpoch ∧ c.nextBlock = c.reading.nextBlock ∧ c.nextTick = c.reading.nextTick :=
    fun _ => ⟨rfl, rfl, rfl, rfl⟩
  obtain ⟨hnow, hepoch, hblock, htick⟩ := hread a
  rw [hnow, hepoch, hblock, htick, h]
  exact ⟨rfl, rfl, rfl, rfl⟩

/-- A step applied: the clock reads the new time, the boundaries to come are those of the new time, and Quartz measures afresh. -/
theorem Dev.stepApply_spec {st : StepDue} (h : d.ptp.step = some st) (hdone : d.boundaryDone (st.epoch * msT) = true) (hnew : stepped st.offset d.now < 2 ^ 48 * secT) :
    d.stepApply.now = stepped st.offset d.now ∧
      (d.stepApply.ptp.servo = .acquiring ∧ d.stepApply.ptp.step = none ∧ d.stepApply.ptp.raw = [] ∧ d.stepApply.ptp.exch = none ∧ d.stepApply.ptp.stepLast = -st.offset) ∧
      d.stepApply.clk.nextEpoch = epochCeil (stepped st.offset d.now) / msT ∧ d.stepApply.clk.nextBlock = blockCeil (stepped st.offset d.now) ∧
      d.stepApply.clk.nextTick = ceilTo usT (stepped st.offset d.now) / usT := by
  rw [Dev.stepApply_due h hdone]
  generalize stepped st.offset d.now = new at hnew ⊢
  obtain ⟨hreading, f, hptp⟩ := ((d.stepFlushed d.now).jumped st.offset new).stepFollowed_time st d.now new
  generalize ((d.stepFlushed d.now).jumped st.offset new).stepFollowed st d.now new = e at hreading hptp ⊢
  generalize d.stepFlushed d.now = x at hreading hptp
  obtain ⟨hnow, hepoch, hblock, htick⟩ := Clock.of_reading hreading
  rw [x.jumped_clk] at hnow hepoch hblock htick
  refine ⟨hnow.trans (x.clk.jumped_now hnew), ?_, hepoch, hblock, htick⟩
  rw [hptp, x.jumped_ptp]
  exact ⟨rfl, rfl, rfl, rfl, rfl⟩

/-! ### ACCEPT_STEP (R134) -/

/-- An accepted command that its rule ends, with no effect, with another status than OK. -/
theorem Accepts.failsKept (h : Accepts o c s) {st : Status} {n : Nat} {v : Word} (he : o.effect c s = (s.setDev s.dev, .done st n v)) (hst : st ≠ .ok) :
    ∃ u, runCmd o c s = u ∧ UnitsKept s u ∧ Ends u s c st (n % 65536) s.dev.freeWord := by
  have hposted : s.dev.Posted (s.dev.tickFree.complete (o.token c s) st n s.dev.freeWord) := (s.dev.tickFree_told).posted.trans (Dev.complete_posted _ _ _ _ _)
  have hrun : runCmd o c s = (s.setDev s.dev).setDev (s.dev.tickFree.complete (o.token c s) st n s.dev.freeWord) := by
    rw [h.runs, OpSpec.done, he, answer]
    simp only [hst, if_false]
    rfl
  refine ⟨_, rfl, ?_, ?_⟩
  · have hfrz : (s.dev.tickFree.complete (o.token c s) st n s.dev.freeWord).obs.frz = s.dev.obs.frz := s.dev.refuse_frz (o.token c s) st n
    rw [hrun, State.setDev_setDev s hfrz]
    exact unitsKept_posted hposted
  · rw [hrun]
    exact (ends_complete o (c := c) (s := s) (t := { s.setDev s.dev with dev := s.dev.tickFree }) rfl rfl st n s.dev.freeWord).1

/-- The filtered offset is recent enough for the step that ACCEPT_STEP asks for. -/
def Dev.stepRecent (d : Dev) : Bool :=
  match d.ptp.offAt with
  | some t => decide (effectEpoch d * msT < t + secT) && decide (d.ptp.lastGm = some d.ptp.offGm)
  | none => false

theorem acceptStep_effect (c : HostCmd) (s : State) : acceptStepSpec.effect c s =
    if s.dev.stepRecent then (s.setDev { s.dev with ptp := { s.dev.ptp with step := some ⟨s.dev.ptp.offset, effectEpoch s.dev⟩ } }, .later 0 0)
    else (s.setDev s.dev, .done .timeout 0 s.dev.short) := by
  unfold Dev.stepRecent
  simp only [OpSpec.effect, acceptStepSpec, devRun]
  cases s.dev.ptp.offAt with
  | none => rfl
  | some t => 
    dsimp only
    split
    · rfl
    · rfl

theorem Accepts.asksStep (h : Accepts acceptStepSpec c s) :
    (s.dev.stepRecent = true → ∃ u, exec (.acceptStep c) s = .next u ∧ u.dev.ptp = { s.dev.ptp with step := some ⟨s.dev.ptp.offset, effectEpoch s.dev⟩ }) ∧
    (s.dev.stepRecent = false → ∃ u v, exec (.acceptStep c) s = .next u ∧ UnitsKept s u ∧ u.dev.ctl.out.contains (.completion c.tag .timeout 0 v) = true) := by
  have heffect := acceptStep_effect c s
  refine ⟨fun hrecent => ?_, fun hold => ?_⟩
  · rw [hrecent, if_pos rfl] at heffect
    obtain ⟨e, hrun, ⟨w, he⟩, -⟩ := h.laterDev heffect
    exact ⟨_, congrArg Host.Outcome.next hrun, by rw [State.setDev_dev, he]⟩
  · rw [hold, if_neg Bool.false_ne_true] at heffect
    obtain ⟨u, hrun, hkept, hout, -⟩ := h.failsKept heffect (by decide)
    exact ⟨u, _, congrArg Host.Outcome.next hrun, hkept, hout⟩

theorem stepsApply : StepsApply := by
  refine ⟨fun s hready => ?_, fun s st hready hstep hdone hnew => ?_, fun s c h => h.asksStep⟩
  · rw [exec_actReady (i := .stepApply) (f := Dev.stepApply) rfl hready]
    exact ⟨rfl, fun h => by rw [Dev.stepApply_waits h]⟩
  · obtain ⟨hnow, ⟨hservo, hnone, hraw, hexch, hlast⟩, hepoch, hblock, htick⟩ := Dev.stepApply_spec hstep hdone hnew
    exact ⟨_, exec_actReady (i := .stepApply) (f := Dev.stepApply) rfl hready, hnow, hservo, hnone, hraw, hexch, hlast, hepoch, hblock, htick⟩

end Sys2Proof.Machine
end

section
/-! Epoch boundaries, block boundaries and dispatcher ticks: each is acted on once, when it has come (R35, R67, R85). -/

namespace Sys2Proof.Machine
open Sys2Proof

variable {d e : Dev} {s : State} {b : Time}

/-! ### The unit stays READY while it sends a frame -/

theorem Dev.obs_linkNext (d : Dev) : d.linkNext.obs = d.obs := by
  unfold Dev.linkNext
  split
  · rfl
  · split
    · rfl
    · rfl

theorem Dev.obs_linkSend (d : Dev) (t : Nat) (l : List Byte) : (d.linkSend t l).obs = d.obs := by
  unfold Dev.linkSend Dev.linkSendAt
  split
  · rfl
  · exact (Dev.kept_foldl Dev.obs _ (fun d _ => d.obs_linkNext) _ _).trans rfl

theorem State.ready_setDev (hobs : e.obs = s.dev.obs) (hboot : e.boot = s.dev.boot) : (s.setDev e).ready = s.ready := by
  show (s.aon.auxOn && s.aon.railsOn && s.aon.resetHigh && !e.obs.frozen && decide (e.boot.phase = .ready)) = s.ready
  rw [hobs, hboot]
  rfl

theorem State.alarmSurrender_kept (s : State) (b : Time) : (s.alarmSurrender b).ready = s.ready ∧ (s.alarmSurrender b).dev.boot = s.dev.boot := by
  unfold State.alarmSurrender
  split
  · refine ⟨State.ready_setDev ?_ ?_, ?_⟩
    · rw [Dev.obs_linkSend]
      rfl
    · rw [Dev.boot_linkSend]
      rfl
    · rw [State.setDev_dev, Dev.boot_linkSend]
      rfl
  · exact ⟨rfl, rfl⟩

/-! ### Epoch boundaries -/

theorem State.restartDue_none (h : s.dev.boot.restartAt = none) : s.restartDue = s := by
  unfold State.restartDue
  rw [h]

theorem State.effects_none (h : s.dev.ctl.accepted = []) : State.effects s.dev.ctl.accepted.length b s = s := by
  rw [h]
  rfl

theorem Dev.applyCommits_none (h : d.ctl.groups = []) : d.applyCommits b = d := by
  unfold Dev.applyCommits
  rw [h]
  rfl

theorem Dev.epochPassed_nextEpoch (d : Dev) (j : Nat) : (d.epochPassed j).clk.nextEpoch = j + 1 := rfl
theorem Dev.epochPassed_boot (d : Dev) (j : Nat) : (d.epochPassed j).boot = d.boot := rfl

/-- The units act on the boundary of epoch `j`; no restart of the unit is due. -/
theorem State.epochWork_next (hready : s.ready = true) (hnone : s.dev.boot.restartAt = none) (j : Nat) :
    ((s.actReady (fun d => d.epochWork j)).actAllReady State.restartDue).dev.clk.nextEpoch = j + 1 := by
  have hboot : ((s.dev.epochUnits j).epochPassed j).boot.restartAt = none := by rw [Dev.epochPassed_boot, s.dev.boot_epochUnits j, hnone]
  have hnext := (s.dev.epochUnits j).epochPassed_nextEpoch j
  rw [State.actReady_ready _ hready, Dev.epochWork_eq]
  generalize (s.dev.epochUnits j).epochPassed j = e at hboot hnext
  unfold State.actAllReady
  split
  · rw [State.restartDue_none hboot]
    exact hnext
  · exact hnext

/-- What EPOCH_BOUNDARY does once the boundary `b` of epoch `j` is acted on (R35, R85). -/
def State.epochRun (s : State) (j : Nat) (b : Time) : State :=
  let s := s.actReady Dev.readProfiles
  let s := State.effects s.dev.ctl.accepted.length b s
  let s := s.actReady (fun d => d.applyCommits b)
  let s := s.actAllReady (fun s => s.alarmSurrender b)
  let s := s.actReady (fun d => d.epochWork j)
  s.actAllReady State.restartDue

theorem State.epochBoundary_eq (s : State) : s.epochBoundary =
    if s.dev.now < s.dev.clk.nextEpoch * msT ∨ s.dev.clk.nextBlock ≤ 3 * s.dev.clk.nextEpoch then s else s.epochRun s.dev.clk.nextEpoch (s.dev.clk.nextEpoch * msT) := by
  unfold State.epochBoundary State.epochRun
  rfl

theorem State.epochBoundary_early (h : s.dev.now < s.dev.clk.nextEpoch * msT) : s.epochBoundary = s := by
  rw [State.epochBoundary_eq, if_pos (Or.inl h)]

/-- With no command and no commit group due the boundary is the units' alone. -/
theorem State.epochRun_next (hready : s.ready = true) (hacc : s.dev.ctl.accepted = []) (hgroups : s.dev.ctl.groups = []) (hnone : s.dev.boot.restartAt = none) (j : Nat) (b : Time) :
    (s.epochRun j b).dev.clk.nextEpoch = j + 1 := by
  unfold State.epochRun
  rw [State.actReady_ready _ hready]
  have hready1 : (s.setDev s.dev.readProfiles).ready = true := (State.ready_setDev rfl rfl).trans hready
  have hacc1 : (s.setDev s.dev.readProfiles).dev.ctl.accepted = [] := hacc
  have hgroups1 : (s.setDev s.dev.readProfiles).dev.ctl.groups = [] := hgroups
  have hnone1 : (s.setDev s.dev.readProfiles).dev.boot.restartAt = none := hnone
  generalize s.setDev s.dev.readProfiles = s1 at hready1 hacc1 hgroups1 hnone1
  dsimp only
  rw [State.effects_none hacc1, State.actReady_ready _ hready1, Dev.applyCommits_none hgroups1]
  have hready2 : (s1.setDev s1.dev).ready = true := (State.ready_setDev rfl rfl).trans hready1
  obtain ⟨hready3, hboot3⟩ := (s1.setDev s1.dev).alarmSurrender_kept b
  rw [State.actAllReady_ready _ hready2]
  exact State.epochWork_next (hready3.trans hready2) ((congrArg Boot.restartAt hboot3).trans hnone1) j

theorem State.epochBoundary_next (hready : s.ready = true) (hcome : s.dev.clk.nextEpoch * msT ≤ s.dev.now) (hblock : 3 * s.dev.clk.nextEpoch < s.dev.clk.nextBlock)
    (hacc : s.dev.ctl.accepted = []) (hgroups : s.dev.ctl.groups = []) (hnone : s.dev.boot.restartAt = none) :
    s.epochBoundary.dev.clk.nextEpoch = s.dev.clk.nextEpoch + 1 := by
  have hgo : ¬(s.dev.now < s.dev.clk.nextEpoch * msT ∨ s.dev.clk.nextBlock ≤ 3 * s.dev.clk.nextEpoch) :=
    fun h => h.elim (fun hearly => absurd hearly (Nat.not_lt.2 hcome)) (fun hlate => absurd hlate (Nat.not_le.2 hblock))
  rw [State.epochBoundary_eq, if_neg hgo, State.epochRun_next hready hacc hgroups hnone]

/-! ### Block boundaries and dispatcher ticks -/

/-- What BLOCK_BOUNDARY does at the boundary of block `j`, but for the number of the next (R26, R389, R436). -/
def Dev.blockRun (d : Dev) (j : Nat) (tdm : List (Nat × List Int)) : Dev :=
  let d := (d.applyCommits (blockAt (j - 1))).applyPosts (j - 1)
  let d := if d.audio.resume < j then (d.settleCalls).evalBlock j tdm else d.silentBlock
  d.endTasks

/-- Block `j` acted on: the boundary of the next is waited for. -/
def Dev.blockPassed (d : Dev) (j : Nat) : Dev := { d with clk := { d.clk with nextBlock := j + 1 } }

theorem Dev.blockPassed_nextBlock (d : Dev) (j : Nat) : (d.blockPassed j).clk.nextBlock = j + 1 := rfl

theorem Dev.blockBoundary_eq (d : Dev) (tdm : List (Nat × List Int)) : d.blockBoundary tdm =
    if d.now < blockAt d.clk.nextBlock ∨ 3 * d.clk.nextEpoch < d.clk.nextBlock then d else (d.blockRun d.clk.nextBlock tdm).blockPassed d.clk.nextBlock := by
  unfold Dev.blockBoundary Dev.blockRun Dev.blockPassed
  rfl

theorem Dev.blockBoundary_early {tdm : List (Nat × List Int)} (h : d.now < blockAt d.clk.nextBlock) : d.blockBoundary tdm = d := by
  rw [Dev.blockBoundary_eq, if_pos (Or.inl h)]

theorem Dev.blockBoundary_next {tdm : List (Nat × List Int)} (hcome : blockAt d.clk.nextBlock ≤ d.now) (hepoch : d.clk.nextBlock ≤ 3 * d.clk.nextEpoch) :
    (d.blockBoundary tdm).clk.nextBlock = d.clk.nextBlock + 1 := by
  have hgo : ¬(d.now < blockAt d.clk.nextBlock ∨ 3 * d.clk.nextEpoch < d.clk.nextBlock) :=
    fun h => h.elim (fun hearly => absurd hearly (Nat.not_lt.2 hcome)) (fun hlate => absurd hlate (Nat.not_lt.2 hepoch))
  rw [Dev.blockBoundary_eq, if_neg hgo, Dev.blockPassed_nextBlock]

/-! ### Dispatcher ticks -/

/-- The latches that are due, over the pages `ps`. -/
def Dev.snapLatches (d : Dev) (ps : List Nat) : Dev := ps.foldl (fun (d : Dev) p => d.snapLatch p) d

/-- Tick `k` acted on: the next is waited for. -/
def Dev.tickPassed (d : Dev) (k : Nat) : Dev := { d with clk := { d.clk with nextTick := k + 1 } }

theorem Dev.dispatcherTick_eq (d : Dev) : d.dispatcherTick = if d.now < d.clk.nextTick * usT then d else
    ((d.snapLatches (d.ctl.pages.map (fun e => e.1))).releaseDue (d.clk.nextTick * usT) false).tickPassed d.clk.nextTick := by
  unfold Dev.dispatcherTick Dev.snapLatches Dev.tickPassed
  rfl

theorem Dev.dispatcherTick_early (h : d.now < d.clk.nextTick * usT) : d.dispatcherTick = d := by
  rw [Dev.dispatcherTick_eq, if_pos h]

theorem Dev.tickPassed_nextTick (d : Dev) (k : Nat) : (d.tickPassed k).clk.nextTick = k + 1 := rfl
theorem Dev.tickPassed_page (d : Dev) (k p : Nat) : (d.tickPassed k).page p = d.page p := rfl

/-! ### Latches asked for -/

theorem Dev.snapDue_event (d : Dev) (p b q : Nat) : ((d.event p b).page q).snapDue = (d.page q).snapDue := by
  by_cases h : q = p
  · subst h
    rw [d.page_event_same]
  · rw [d.page_event_of_ne b h]

theorem Dev.snapDue_raise (d : Dev) (p b so co : Nat) (x y : Word) (q : Nat) : ((d.raise p b so co x y).page q).snapDue = (d.page q).snapDue := by
  rw [Dev.raise, Dev.page_report, Dev.snapDue_event]

/-- The release of work items asks for no latch, and makes none. -/
theorem Dev.snapDue_releaseDue (d : Dev) (t : Time) (q : Nat) : ((d.releaseDue t false).page q).snapDue = (d.page q).snapDue := by
  have harrive : ∀ (d : Dev) (i : Item), ((d.arrive i).page q) = d.page q := fun d i => by
    unfold Dev.arrive
    refine (Dev.kept_foldl (fun d : Dev => d.page q) _ (fun d c => ?_) _ _).trans ?_
    · rfl
    · split
      · rfl
      · rfl
  unfold Dev.releaseDue
  refine (Dev.kept_foldl (fun d : Dev => (d.page q).snapDue) _ (fun d e => ?_) _ _).trans rfl
  rw [harrive, if_neg Bool.false_ne_true, Dev.itemTrace, Dev.page_trace]
  rfl

theorem Dev.snapDue_latch (d : Dev) (p : Nat) (t : Time) : ((d.latch p t).page p).snapDue = (d.page p).snapDue.filter (fun u => decide (t < u)) := by
  have hsample : (if p = pgPcie then d.pcieSample else d).page p = d.page p := by
    split
    · rw [Dev.page, d.pcieSample_spec.1, Dev.page]
    · rfl
  unfold Dev.latch
  rw [Dev.page_onPage, if_pos rfl]
  exact congrArg (fun h : PageHdr => h.snapDue.filter (fun u => decide (t < u))) hsample

theorem Dev.snapLatch_spec (d : Dev) (p : Nat) : (d.snapLatch p).now = d.now ∧ (∀ q, q ≠ p → (d.snapLatch p).page q = d.page q) ∧
    ((d.page p).snapDue = none → (d.snapLatch p).page p = d.page p) ∧ ((d.page p).snapDue = some d.now → ((d.snapLatch p).page p).snapDue = none) := by
  obtain ⟨⟨g, c, f, n, hshape⟩, -, -, hothers, -⟩ := d.latch_step p d.now
  unfold Dev.snapLatch
  cases hdue : (d.page p).snapDue with
  | none => exact ⟨rfl, fun _ _ => rfl, fun _ => rfl, fun h => (nomatch h)⟩
  | some t =>
    obtain ⟨⟨g, c, f, n, hshape⟩, -, -, hothers, -⟩ := d.latch_step p t
    dsimp only
    split
    next hpast =>
      refine ⟨by rw [hshape]; rfl, hothers, fun h => (nomatch h), fun h => ?_⟩
      rw [Dev.snapDue_latch, hdue, Option.some.inj h]
      simp
    next hpast => exact ⟨rfl, fun _ _ => rfl, fun h => (nomatch h), fun h => absurd (Nat.le_of_eq (Option.some.inj h)) hpast⟩

/-- Over the pages `ps` a latch that is due is made, and none is asked for. -/
theorem Dev.snapLatches_spec (ps : List Nat) (d : Dev) (p : Nat) : ((d.page p).snapDue = none → ((d.snapLatches ps).page p).snapDue = none) ∧
    (p ∈ ps → (d.page p).snapDue = some d.now → ((d.snapLatches ps).page p).snapDue = none) := by
  induction ps generalizing d with
  | nil => exact ⟨id, fun h => absurd h List.not_mem_nil⟩
  | cons q ps ih =>
    obtain ⟨hnow, hothers, hnone, hmade⟩ := d.snapLatch_spec q
    obtain ⟨ihnone, ihmade⟩ := ih (d.snapLatch q)
    have hstep : d.snapLatches (q :: ps) = (d.snapLatch q).snapLatches ps := rfl
    rw [hstep]
    by_cases hq : p = q
    · subst hq
      exact ⟨fun h => ihnone (by rw [hnone h, h]), fun _ h => ihnone (hmade h)⟩
    · rw [hothers p hq, hnow] at *
      exact ⟨ihnone, fun hmem => ihmade ((List.mem_cons.1 hmem).resolve_left hq)⟩

/-- A latch is asked for in a listed header alone. -/
theorem Dev.page_listed {p : Nat} {t : Time} (h : (d.page p).snapDue = some t) : p ∈ d.ctl.pages.map (fun e => e.1) := by
  rcases tabGet_mem pageDflt d.ctl.pages p with hnone | hmem
  · have hdflt : (d.page p).snapDue = none := by
      rw [Dev.page, hnone, pageDflt]
      split
      · rfl
      · split
        · rfl
        · rfl
    exact absurd (hdflt.symm.trans h) (by simp)
  · exact List.mem_map.2 ⟨_, hmem, rfl⟩

theorem Dev.dispatcherTick_next (hcome : d.clk.nextTick * usT ≤ d.now) : d.dispatcherTick.clk.nextTick = d.clk.nextTick + 1 ∧
    ∀ p, (d.page p).snapDue = some d.now → (d.dispatcherTick.page p).snapDue = none := by
  rw [Dev.dispatcherTick_eq, if_neg (Nat.not_lt.2 hcome)]
  refine ⟨Dev.tickPassed_nextTick _ _, fun p h => ?_⟩
  rw [Dev.tickPassed_page, Dev.snapDue_releaseDue]
  exact (d.snapLatches_spec _ p).2 (Dev.page_listed h) h

/-! ### O15 -/

theorem boundariesAdvance : BoundariesAdvance := by
  intro s hready
  have hepoch : exec .epochBoundary s = .next s.epochBoundary := congrArg Host.Outcome.next (State.actAllReady_ready _ hready)
  have hblock : ∀ tdm, exec (.blockBoundary tdm) s = .next (s.setDev (s.dev.blockBoundary tdm)) := fun tdm => exec_actReady (f := fun d => d.blockBoundary tdm) rfl hready
  have htick : exec .dispatcherTick s = .next (s.setDev s.dev.dispatcherTick) := exec_actReady (f := Dev.dispatcherTick) rfl hready
  refine ⟨hepoch, hblock, htick, fun h => ?_, fun hcome hlate hacc hgroups hnone => ?_, fun tdm h => ?_, fun tdm hcome hlate => ?_, fun h => ?_, fun hcome => ?_⟩
  · rw [hepoch, State.epochBoundary_early h]
  · exact ⟨_, hepoch, State.epochBoundary_next hready hcome hlate hacc hgroups hnone⟩
  · rw [hblock, Dev.blockBoundary_early h]
  · exact ⟨_, hblock tdm, by rw [State.setDev_dev, Dev.blockBoundary_next hcome hlate], (s.setDev_sameCore _).1⟩
  · rw [htick, Dev.dispatcherTick_early h]
  · obtain ⟨hnext, hlatched⟩ := Dev.dispatcherTick_next hcome
    exact ⟨_, htick, by rw [State.setDev_dev, hnext], fun p _ _ h => by rw [State.setDev_dev, hlatched p h]⟩

/-- Settles O15: the step of the clock once its boundary has been acted on, and the boundaries, each acted on once. -/
theorem stepsAndBoundaries : Obligations.StepsAndBoundaries := ⟨stepsApply, boundariesAdvance⟩

end Sys2Proof.Machine
end
